-- ==== Sys2Proof/Word.lean ====
section
/-! DEFINITION. The words of the HZ6432: bytes, register words, fixed-size tables, little-endian layouts,
CRC-32C, saturating counts and the two integer divisions the manual names (R8, R519). -/

namespace Sys2Proof

abbrev Byte := BitVec 8
abbrev Word := BitVec 32

/-- A fixed number of like resources, indexed from 0 (Table 00-3). -/
abbrev Tab (α : Type) (n : Nat) := Vector α n

/-- The table whose entry `i` is `f i`. -/
def tgen {α : Type} (n : Nat) (f : Nat → α) : Tab α n := ⟨((List.range n).map f).toArray, by simp⟩

/-- Entry `i`; an index outside the table reads the type's default. -/
def rd {α : Type} {n : Nat} [Inhabited α] (v : Tab α n) (i : Nat) : α := v.toList.getD i default

/-- Set entry `i`; an index outside the table changes nothing. -/
def wr {α : Type} {n : Nat} (v : Tab α n) (i : Nat) (x : α) : Tab α n := ⟨(v.toList.set i x).toArray, by simp⟩

/-- Change entry `i` by `f`. -/
def md {α : Type} {n : Nat} [Inhabited α] (v : Tab α n) (i : Nat) (f : α → α) : Tab α n := wr v i (f (rd v i))

/-- Every entry by `f`. -/
def tmap {α β : Type} {n : Nat} (f : α → β) (v : Tab α n) : Tab β n := ⟨(v.toList.map f).toArray, by simp⟩

/-- A table from a list, padded with the default and cut to length. -/
def tlist {α : Type} [Inhabited α] (n : Nat) (l : List α) : Tab α n := tgen n (fun i => l.getD i default)

/-- Every entry equal to `x`. -/
def tall {α : Type} (n : Nat) (x : α) : Tab α n := tgen n (fun _ => x)

/-- The indices below `n` at which `f` holds, ascending. -/
def idxs (n : Nat) (f : Nat → Bool) : List Nat := (List.range n).filter f

/-- The sum of `f` over the indices below `n`. -/
def sumN (n : Nat) (f : Nat → Nat) : Nat := ((List.range n).map f).foldl (· + ·) 0

/-- Apply `f` once for each index below `n`, ascending. -/
def forN {σ : Type} (n : Nat) (f : Nat → σ → σ) (s : σ) : σ := (List.range n).foldl (fun t i => f i t) s

/-- Apply `f` for each element of a list, in order. -/
def forL {α σ : Type} (l : List α) (f : α → σ → σ) (s : σ) : σ := l.foldl (fun t i => f i t) s

/-- Iterate `f` `n` times. -/
def iter {σ : Type} (n : Nat) (f : σ → σ) (s : σ) : σ := (List.range n).foldl (fun t _ => f t) s

/-- Whether bit `i` of a number is 1. -/
def bitOf (w i : Nat) : Bool := w.testBit i

/-- Bits `[hi:lo]` of a register word, as a number. -/
def bitsOf (w : Word) (hi lo : Nat) : Nat := (w.toNat >>> lo) % 2 ^ (hi + 1 - lo)

/-- One field of a register word: bit position, width, value (cut to the width). -/
abbrev Fld := Nat × Nat × Nat

/-- A register word from its fields; bits of no field read 0 (R7). -/
def word (fs : List Fld) : Word :=
  BitVec.ofNat 32 (fs.foldl (fun a f => a + (f.2.2 % 2 ^ f.2.1) <<< f.1) 0)

/-- A one-bit field. -/
def bf (lo : Nat) (b : Bool) : Fld := (lo, 1, b.toNat)

/-- The bitmap word of bits `32 * k` to `32 * k + 31` of a predicate. -/
def bitmap (k : Nat) (f : Nat → Bool) : Word :=
  BitVec.ofNat 32 ((List.range 32).foldl (fun a j => a + (if f (32 * k + j) then 2 ^ j else 0)) 0)

/-- A two's complement value of `w` bits as the number its bits spell. -/
def ofInt (w : Nat) (v : Int) : Nat := (v % (2 ^ w : Int)).toNat

/-- The signed value of the low `w` bits of a number. -/
def toSigned (w v : Nat) : Int := if v % 2 ^ w < 2 ^ (w - 1) then (v % 2 ^ w : Int) else (v % 2 ^ w : Int) - 2 ^ w

/-- A counter that stops at its maximum. -/
def satAdd (mx v k : Nat) : Nat := min mx (v + k)

/-- Restrict to a signed range. -/
def clampI (lo hi v : Int) : Int := max lo (min hi v)

/-- Division of a Nat rounded upward. -/
def ceilDiv (a b : Nat) : Nat := if b = 0 then 0 else (a + b - 1) / b

/-- Division written div: toward zero (R519). -/
def divZ (a b : Int) : Int := Int.tdiv a b

/-- Division rounded toward minus infinity (R519). -/
def divF (a b : Int) : Int := Int.fdiv a b

/-- The `n` little-endian bytes of a number (R8). -/
def leBytes : Nat → Nat → List Byte
  | 0, _ => []
  | n + 1, v => BitVec.ofNat 8 v :: leBytes n (v / 256)

/-- The number a little-endian byte list spells (R8). -/
def leNat : List Byte → Nat
  | [] => 0
  | b :: bs => b.toNat + 256 * leNat bs

/-- `n` zero bytes. -/
def zeros (n : Nat) : List Byte := List.replicate n 0

/-- One byte through the CRC-32C register (polynomial 0x1EDC_6F41, reflected). -/
def crcByte (c : BitVec 32) (b : Byte) : BitVec 32 :=
  iter 8 (fun (x : BitVec 32) => if x.getLsbD 0 then (x >>> 1) ^^^ 0x82F63B78#32 else x >>> 1) (c ^^^ b.zeroExtend 32)

/-- CRC-32C of a byte list. -/
def crc32c (bs : List Byte) : Word := (bs.foldl crcByte 0xFFFFFFFF#32) ^^^ 0xFFFFFFFF#32

/-- The bytes of an ASCII string. -/
def ascii (t : String) : List Byte := t.toList.map (fun c => BitVec.ofNat 8 c.toNat)

end Sys2Proof
end

