-- ==== Sys2Proof/Machine/BoardImage.lean ====
section
/-! DEFINITION. The contents of a board image (14, Tables 14-1 to 14-3, and the field tables of the subject chapters).
The default of a field is the value its register reads before an image is accepted (R475). -/

namespace Sys2Proof.Machine

/-- CORE rows of Table 14-3. -/
structure CoreCfg where
  tD : Nat := 10000
  tFw : Nat := 100
  pFix : Nat := 0
  rideThrough : Bool := false
  acgThr : Nat := 8
  paired : Bool := false
  pmbTgt : Nat := 0x08
  pmbSpeed : Nat := 0
  deriving DecidableEq, Repr, Inhabited

/-- PORTS rows of Table 14-3, one per port. -/
structure PortCfg where
  bond : Bool := false
  frz : Nat := 0
  lswap : Bool := false
  rxInv : Nat := 0
  txInv : Nat := 0
  deriving DecidableEq, Repr, Inhabited

/-- A die recipe, Table 05-2: structure part and tuning part. -/
structure Recipe where
  id : Nat := 0
  idMask : Nat := 0
  planes : Nat := 0
  page : Nat := 0
  spare : Nat := 0
  cwPage : Nat := 0
  cwPar : Nat := 0
  rowsBlk : Nat := 0
  blkFirst : Nat := 0
  blkLast : Nat := 0
  luns : Nat := 0
  rate : Nat := 0
  feat : List Nat := []
  pfx : Nat := 0
  tProg : Nat := 0
  tRead : Nat := 0
  tErase : Nat := 0
  peRated : Nat := 0
  derate : Nat := 0
  rr : List Nat := []
  berMax : Nat := 0
  deriving DecidableEq, Repr, Inhabited

/-- String fields, Table 08-1. -/
structure StrCfg where
  triplet : Nat := 0
  chem : Nat := 0
  cNom : Nat := 0
  vZero : Int := 0
  vGain : Int := 0
  iGain : Int := 0
  tGain : Int := 0
  vOfs : Int := 0
  iOfs : Int := 0
  tOfs : Int := 0
  vPres : Int := 0
  vKnee : Int := 0
  vFloat : Int := 0
  iQ : Nat := 0
  iTaper : Nat := 0
  cMax : Nat := 0
  hMin : Nat := 0
  eta : Nat := 0
  conf : Nat := 0
  sd : Nat := 0
  tLo : Int := 0
  tHi : Int := 0
  isoSlot : Nat := 0x7F
  loadSlot : Nat := 0x7F
  curve : Nat := 0
  deriving DecidableEq, Repr, Inhabited

/-- A curve set (R267), CURVE rows of Table 14-3; the inner lists are indexed by i = 0 to 16. -/
structure CurveCfg where
  tp : List Int := []
  ocv : List (List Int) := []
  avl : List (List Int) := []
  rInt : List Nat := []
  kt : List Nat := []
  deriving DecidableEq, Repr, Inhabited

/-- Sequencer fields, Table 09-2; the defaults are those of the table. -/
structure SeqCfg where
  rest : Nat := 100
  nRetry : Nat := 3
  stagger : Nat := 20
  stuckT : Nat := 1000
  forceT : Nat := 8
  busSlot : Nat := 0
  deriving DecidableEq, Repr, Inhabited

/-- Slot fields, Table 09-1. -/
structure SlotCfg where
  cls : Nat := 0
  role : Nat := 0
  run : Bool := false
  save : Bool := false
  shared : Bool := false
  actLo : Bool := false
  dep : List Nat := []
  delay : Nat := 0
  ddelay : Nat := 0
  tQual : Nat := 1
  tOut : Nat := 1
  vOff : Nat := 0
  scale : Nat := 1000
  nom : Nat := 0
  warnLo : Nat := 0
  warnHi : Nat := 0
  fltLo : Nat := 0
  fltHi : Nat := 0
  ports : Nat := 0
  sled : Nat := 0
  pmb : Nat := 0x7F
  deriving DecidableEq, Repr, Inhabited

/-- PMBUS rows of Table 14-3. -/
structure PmbCfg where
  addr : Nat := 0
  page : Nat := 0xFF
  direct : Bool := false
  exp : Int := 0
  m : Int := 0
  b : Int := 0
  r : Int := 0
  deriving DecidableEq, Repr, Inhabited

/-- A source entry, Table 12-2. -/
structure SrcCfg where
  en : Bool := false
  cls : Nat := 0
  act : Nat := 0
  block : Nat := 0
  shadow : Nat := 0x1F
  inv : Bool := false
  qual : Nat := 1
  brokenAs : Bool := false
  deriving DecidableEq, Repr, Inhabited

/-- Class fields, Table 12-3. -/
structure ClassCfg where
  quiet : Nat := 10
  limit : Nat := 8
  latchOff : Bool := false
  deriving DecidableEq, Repr, Inhabited

/-- A shadow set, Table 12-3; bit i of the mask is source i. -/
structure ShadowCfg where
  mask : Nat := 0
  settle : Nat := 100
  deriving DecidableEq, Repr, Inhabited

/-- A ledger channel (R413). -/
structure ChCfg where
  src : Nat := 0
  edge : List Int := []
  deriving DecidableEq, Repr, Inhabited

/-- The LEDGER section (R413). -/
structure LedgCfg where
  epochLen : Nat := 3600
  ch : Tab ChCfg 6 := tall 6 {}
  chips : Tab Nat 256 := tall 256 0
  deriving DecidableEq, Repr, Inhabited

/-- POLICY rows of Table 14-3. -/
structure PolicyCfg where
  mMin : Nat := 0x180
  eB : Nat := 0
  eRes : Nat := 0
  rateMax : Nat := 2000
  retWait : Nat := 30
  conc : Nat := 4
  w : Tab Nat 64 := tall 64 0
  retList : Tab Nat 64 := tall 64 0xFF
  fixPwr : Tab Nat 16 := tall 16 0x7F
  deriving DecidableEq, Repr, Inhabited

/-- FABRIC rows of Table 14-3. -/
structure FabCfg where
  nodeAddr : Nat := 0
  tpri : Nat := 0
  cost : Tab Nat 4 := tall 4 1
  fec : Nat := 0
  ppsIn : Bool := false
  deriving DecidableEq, Repr, Inhabited

/-- A table member, Table 11-4. -/
structure MemberCfg where
  addr : Nat := 0
  addr2 : Nat := 0
  w : Nat := 0
  min : Nat := 0
  order : Nat := 0
  deriving DecidableEq, Repr, Inhabited

/-- The TABLE section, Table 11-4, with the CRC-32C of its body (CFG_CRC). -/
structure TableCfg where
  tableId : Nat := 0
  m : Nat := 0
  strings : Nat := 0
  stagT : Nat := 1
  retTurnMax : Nat := 1
  members : List MemberCfg := []
  cfgCrc : Word := 0
  deriving DecidableEq, Repr, Inhabited

/-- Header fields the controller keeps of a loaded image, Table 14-1. -/
structure ImgHdr where
  len : Nat := 0
  imgSeq : Nat := 0
  svn : Nat := 0
  seat : Nat := 0
  buildId : Nat := 0
  structCrc : Nat := 0
  tuneCrc : Nat := 0
  deriving DecidableEq, Repr, Inhabited

/-- A whole board image. -/
structure BImg where
  hdr : ImgHdr := {}
  core : CoreCfg := {}
  ports : Tab PortCfg 64 := tall 64 {}
  minSleds : Nat := 3
  recipes : List Recipe := []
  strs : Tab StrCfg 16 := tall 16 {}
  curves : Tab CurveCfg 8 := tall 8 {}
  seq : SeqCfg := {}
  slots : Tab SlotCfg 64 := tall 64 {}
  pmb : Tab PmbCfg 64 := tall 64 {}
  tjWarn : Int := 0
  srcs : Tab SrcCfg 256 := tall 256 {}
  classes : Tab ClassCfg 4 := tall 4 {}
  shadows : Tab ShadowCfg 16 := tall 16 {}
  ledg : LedgCfg := {}
  pol : PolicyCfg := {}
  fab : FabCfg := {}
  table : TableCfg := {}
  deriving DecidableEq, Repr, Inhabited

end Sys2Proof.Machine
end

