-- ==== Sys2Proof/Machine/Types.lean ====
section
/-! DEFINITION. The data the commands and the state share: states, stamps, messages, records, outcomes of device
operations. Plain data only. -/

namespace Sys2Proof.Machine

/-- Top-level states, Table 01-4. -/
inductive TopState where
  | off | wake | boot | rise | ready | ride | save | hold | ret | fall | service | latched
  deriving DecidableEq, Repr, Inhabited

/-- The state's code, Table 01-4. -/
def TopState.code : TopState → Nat
  | .off => 0 | .wake => 1 | .boot => 2 | .rise => 3 | .ready => 4 | .ride => 5 | .save => 6 | .hold => 7
  | .ret => 8 | .fall => 9 | .service => 10 | .latched => 11

/-- The state of a code, Table 01-4; codes 0xC to 0xF are never reported. -/
def TopState.ofCode (n : Nat) : TopState :=
  match n with
  | 1 => .wake | 2 => .boot | 3 => .rise | 4 => .ready | 5 => .ride | 6 => .save | 7 => .hold
  | 8 => .ret | 9 => .fall | 10 => .service | 11 => .latched | _ => .off

/-- Full stamp, Table 00-5. -/
structure Stamp where
  opSec : BitVec 32 := 0
  cycles : BitVec 24 := 0
  synced : Bool := false
  disciplined : Bool := false
  fabNs : BitVec 64 := 0
  deriving DecidableEq, Repr, Inhabited

/-- The 16 bytes of a stamp, Table 00-5. -/
def Stamp.bytes (t : Stamp) : List Byte :=
  leBytes 4 t.opSec.toNat ++ leBytes 3 t.cycles.toNat ++ leBytes 1 (t.synced.toNat + 2 * t.disciplined.toNat) ++ leBytes 8 t.fabNs.toNat

/-- The four register words of a stamp. -/
def Stamp.words (t : Stamp) : List Word := (List.range 4).map (fun i => BitVec.ofNat 32 (leNat ((t.bytes.drop (4 * i)).take 4)))

/-- The stamp whose bytes these are. -/
def Stamp.ofBytes (b : List Byte) : Stamp :=
  { opSec := BitVec.ofNat 32 (leNat (b.take 4)), cycles := BitVec.ofNat 24 (leNat ((b.drop 4).take 3)),
    synced := (leNat ((b.drop 7).take 1)).testBit 0, disciplined := (leNat ((b.drop 7).take 1)).testBit 1,
    fabNs := BitVec.ofNat 64 (leNat ((b.drop 8).take 8)) }

/-- A live sub-source of a fault source (R381): its index (0xFFFF none), whether it has registered, and the turn number
at whose boundary it ceases to be live where a rule limits it to a turn. -/
structure SubSrc where
  src : Nat
  sub : Nat
  reg : Bool := false
  till : Option Nat := none
  cons : Bool := false           -- its registration was consequential (R398)
  deriving DecidableEq, Repr, Inhabited

/-- A cause record, Table 12-6. -/
structure CauseRec where
  source : Nat := 0
  cls : Nat := 0
  valid : Bool := false
  forced : Bool := false
  atClose : Bool := false
  pb : Bool := false
  latched : Bool := false
  state : Nat := 0
  act : Nat := 0
  sub : Nat := 0
  stamp : Stamp := {}
  deriving DecidableEq, Repr, Inhabited

/-- The 32 bytes of a cause record; a record that holds nothing is all 0. -/
def CauseRec.bytes (c : CauseRec) : List Byte :=
  if c.valid then
    leBytes 2 c.source ++ leBytes 1 c.cls
      ++ leBytes 1 (1 + 2 * c.forced.toNat + 4 * c.atClose.toNat + 8 * c.pb.toNat + 16 * c.latched.toNat)
      ++ leBytes 1 c.state ++ leBytes 1 c.act ++ leBytes 2 c.sub ++ zeros 8 ++ c.stamp.bytes
  else zeros 32

/-- Word `i` of a byte block. -/
def wordAt (b : List Byte) (i : Nat) : Word := BitVec.ofNat 32 (leNat ((b.drop (4 * i)).take 4))

/-- The words of a byte block of `n` words. -/
def wordsOf (n : Nat) (b : List Byte) : List Word := (List.range n).map (wordAt b)

/-- An event queue entry, Table 13-6. -/
structure Occ where
  code : Nat
  datum : Nat
  stamp : Stamp
  deriving DecidableEq, Repr, Inhabited

def Occ.bytes (o : Occ) : List Byte := leBytes 2 o.code ++ zeros 2 ++ leBytes 4 o.datum ++ o.stamp.bytes

/-- What a NOR device operation ended with (R408, R425). -/
inductive NorRes where
  | done           -- completed; a seal read back as written
  | doneSecond     -- completed; the seal's first read-back differed, the second did not
  | timeout        -- not complete within 4 times the SFDP maximum
  | mismatchTwice  -- the seal's read-back differed twice in succession
  deriving DecidableEq, Repr, Inhabited

/-- What reading a device's SFDP tables gave (R405): whether it answered rightly, log2 of its density in bytes, a 4 KiB erase type, 4-byte
addressing, the page in bytes, erase and program suspend, the maximum page program time in us and 4 KiB erase time in ms, and the read modes offered
beside 1-1-1. -/
structure Sfdp where
  jedec : Nat := 0
  size : Nat := 25
  right : Bool := true
  erase4k : Bool := true
  addr4 : Bool := true
  page : Nat := 256
  suspend : Bool := true
  progMax : Nat := 3000
  eraseMax : Nat := 400
  dual : Bool := false
  quad : Bool := false
  deriving DecidableEq, Repr, Inhabited

/-- The device meets R405: 256 Mbit are 2^25 bytes. -/
def Sfdp.meets (f : Sfdp) : Bool :=
  f.right && 25 ≤ f.size && f.erase4k && f.addr4 && f.page == 256 && f.suspend && f.progMax ≤ 3000 && f.eraseMax ≤ 400

/-- The data lines of the widest read mode offered: 1-1-4, 1-1-2 or 1-1-1 (R405). -/
def Sfdp.lines (f : Sfdp) : Nat := if f.quad then 4 else if f.dual then 2 else 1

/-- One device operation of the ledger writer. -/
inductive NorOp where
  | erase (addr : Nat)                      -- a 4 KiB sector
  | prog (addr : Nat) (bytes : List Byte)   -- one page program
  | seal (addr : Nat) (bytes : List Byte)   -- the separate page program of a seal, read back afterwards
  | copy (addr len : Nat)                   -- program from the other device's bytes at the same addresses
  deriving DecidableEq, Repr, Inhabited

/-- A pair of halves that can be pair-broken (R385): an external double, an AC-good double, an internal source's pair. -/
inductive PairId where
  | ext (n : Fin 48) | acg (n : Fin 8) | int (i : Fin 158)
  deriving DecidableEq, Repr

/-- What a fault registration rests on: a sub-source that is live, or further samples of an external double, each the levels of its T and its C half
(R384, R386). -/
inductive RegOf where
  | sub (n : BitVec 16)
  | halves (l : List (Bool × Bool))
  deriving DecidableEq, Repr, Inhabited

/-- What the sampled inputs read at a turn boundary: TOKEN_N pulled low by the partner, the FRZ_N nets that others hold low, SEQFLT_N low by another
sequencer, a freeze-path trip source still active, the AC-good doubles judged lost and those whose T input is low (R120), the die
temperature in 0.1 degC (R512), and VAON_A and VAON_B in mV (Table 13-4). -/
structure TurnInputs where
  tokenLow : Bool := false
  frz : BitVec 8 := 0
  seqfltLow : Bool := false
  tripNow : Bool := false
  acg : BitVec 8 := 0
  acgLow : BitVec 8 := 0
  dieTemp : Int := 0
  vaonA : Int := 0
  vaonB : Int := 0
  deriving DecidableEq, Repr, Inhabited

/-- The JTAG instruction in force (R516); `reset` is Test-Logic-Reset. -/
inductive TapIr where
  | reset | bypass | idcode | samplePreload | extest | clamp | highz | extestPulse | extestTrain
  deriving DecidableEq, Repr, Inhabited

/-- An output pin, or a group of them whose levels a protocol gives (Table 17-8). -/
inductive OutPin where
  | en (n : Nat) | swoMain | swoBkp | frz (g : Nat) | seqflt | token | hbOut | irq | rpRdy | rpErr | rpBusy | sledRtr (x : Nat)
  | hclTx (p : Nat) | plTx | fpTx (i : Nat) | nv (r : Nat) | nor (d : Nat) | pmbt | pmbc
  deriving DecidableEq, Repr, Inhabited

/-- What a pin does: driven low or high, its protocol running, the last level held, high impedance (an open-drain line released), electrical idle, or the
pulse and the train of IEEE 1149.6. -/
inductive Drive where
  | low | high | active | held | hiZ | idle | pulse | train
  deriving DecidableEq, Repr, Inhabited

/-- A ledger record waiting to be written: the header's fields, its RSEQ among them, and the bytes from 48 to the seal (R407). -/
structure RecJob where
  kind : Nat
  stamp : Stamp
  wall : Nat
  steps : Nat
  epoch : Nat
  state : Nat
  flags : Nat
  body : List Byte
  rseq : Nat := 0
  deriving DecidableEq, Repr, Inhabited

/-- What a background job of the ledger writer is for (rank 5 of R423). -/
inductive BgKind where
  | eraseAhead (area : Nat) | repair | slotRepair (slot : Nat) | resilver | slotWrite
  deriving DecidableEq, Repr, Inhabited

/-- A background job: the device it works on and its remaining operations. -/
structure BgJob where
  kind : BgKind
  dev : Nat
  ops : List NorOp
  deriving DecidableEq, Repr, Inhabited

/-- A record copy in progress (R408): `left` are the devices still to write after this one, `ops` the remaining operations
of this copy, `okDevs` the devices whose copy is sealed. -/
structure RecWork where
  job : RecJob
  area : Nat
  slot : Nat
  founding : Bool
  dev : Nat
  left : List Nat
  ops : List NorOp
  okDevs : List Nat
  deriving DecidableEq, Repr, Inhabited

/-! ### Hjelzor Cache Link messages -/

/-- What a receiver reads of a message's header word (Table 03-4); `ok` is false where LEN, the type or a field of the message is
outside its range (Table 03-9). -/
structure Hdr where
  seq : BitVec 12
  ack : BitVec 12 := 0
  ackV : Bool := false
  ok : Bool := true
  deriving DecidableEq, Repr, Inhabited

/-- The header of a TSYNC_REQ, and whether its sender replays it (R362). -/
structure SyncHdr extends Hdr where
  replayed : Bool := false
  deriving DecidableEq, Repr, Inhabited

/-- How AON power comes up: on VAON_B alone, and with the seat strap at the away seat (R20, R329). -/
structure SupplyUp where
  onB : Bool := false
  away : Bool := false
  deriving DecidableEq, Repr, Inhabited

/-- The payload of a 4 KiB chunk. -/
abbrev Chunk := List Byte

/-- STAKE's body, Table 03-10. -/
structure StakeMsg where
  turn : Nat
  s : Nat
  k : Nat
  short : Bool
  frozen : Bool
  token : Bool
  epoch : Nat
  disabled : Bool
  away : Bool
  serial : Nat
  stamp : Stamp
  deriving DecidableEq, Repr, Inhabited

/-- Messages the controller sends to an adapter (Table 03-5). -/
inductive HclOut where
  | req (ident frozenRpt check clear : Bool)
  | stake (m : StakeMsg)
  | mapReq (first count tag : Nat)
  | read (sq chunk count : Nat) (copy : Bool) (tag : Nat)
  | write (sq chunk gen tag : Nat) (data : Chunk)
  | confirm (turn : Nat) (entries : List (Nat × Nat))
  | cancel (sq : Nat)
  | revert (turnF : Nat) (all : Bool) (epoch : Nat)
  | release (serial : Nat) (dirtyAll discard : Bool)
  | error (code seq : Nat)
  deriving DecidableEq, Repr, Inhabited

/-- A message's length in words (Table 03-5). -/
def HclOut.words : HclOut → Nat
  | .req .. => 3 | .stake _ => 6 | .mapReq .. => 3 | .read .. => 3 | .write .. => 515 | .confirm _ es => 3 + (es.length + 1) / 2
  | .cancel _ => 3 | .revert .. => 3 | .release .. => 3 | .error .. => 3

/-- A link with the message layer of R87 and R88: a cache port, the partner link, a fabric port. -/
inductive LinkId where
  | port (p : Fin 64) | partner | fab (i : Fin 4)
  deriving DecidableEq, Repr

/-- A link with the lanes and training of chapter 03: a cache port, or the partner link (R335). -/
inductive HclLink where
  | port (p : Fin 64) | partner
  deriving DecidableEq, Repr

/-- Why a NAK passes (R79, R88): one was received with the SEQ the partner expects; or one is sent for a bad CRC, a message out
of sequence, or a block error. -/
inductive NakWhy where
  | received (h : Hdr) (exp : BitVec 12) | badCrc | outOfSeq | blockError
  deriving DecidableEq, Repr

/-- One direction pair of the message layer (R88): next SEQ, unacknowledged messages oldest first (at most 1,024), messages that wait
for room or for the link, replays without progress, the SEQ expected of the partner, and the SEQ of the last NAK sent. -/
structure Chan (α : Type) where
  seq : Nat := 0
  buf : List (Nat × α) := []
  wait : List α := []
  tries : Nat := 0
  expect : Nat := 0
  nak : Option Nat := none
  acked : Option Nat := none     -- highest SEQ received in order, as ACK fields give it (Table 03-4)
  deriving DecidableEq, Repr, Inhabited

/-- IDENT's body, Table 03-7. -/
structure IdentMsg where
  id : BitVec 64
  squares : Nat
  bondCap : Bool
  intact : Bool
  srGood : Bool
  cstate : Nat
  serial : Nat
  deriving DecidableEq, Repr, Inhabited

/-- REPORT's body, Table 03-10. -/
structure ReportMsg where
  turn : Nat
  u : Nat
  wt : Bool
  holding : Bool
  cstate : Nat
  dirty : Nat
  staged : Nat
  opened : Nat
  deriving DecidableEq, Repr, Inhabited

/-- FROZEN's body, Table 03-11; `map` are the square states, 2 bits each. -/
structure FrozenMsg where
  serial : Nat
  source : Nat
  stamp : Stamp
  dirty : Nat
  staged : Nat
  region : List Word
  map : List Nat
  deriving DecidableEq, Repr, Inhabited

end Sys2Proof.Machine
end

