-- ==== Sys2Proof/Machine/VaultTypes.lean ====
section
/-! DEFINITION. What the vault's flash holds and what the rings carry (04, 05, 06): index entries, manifests, seals, confirm
units, sled descriptors, key blocks, units, ring descriptors; with the byte layouts of Tables 04-2, 05-3, 05-8, 05-9, 06-2. -/

namespace Sys2Proof.Machine

/-- "No location" (R179). -/
def noLoc : Nat := 0xFFFFFFFF

/-- An index entry (R192). -/
structure IdxEnt where
  loc : Nat := 0xFFFFFFFF
  ring : Nat := 0
  par : Bool := false
  port : Nat := 0
  sq : Nat := 0
  gen : Nat := 0
  deriving DecidableEq, Repr, Inhabited

/-- The 64-bit entry. -/
def IdxEnt.bits (e : IdxEnt) : Nat :=
  e.loc % 2 ^ 32 + (e.ring % 32) * 2 ^ 32 + e.par.toNat * 2 ^ 37 + (e.port % 64) * 2 ^ 38 + (e.sq % 2 ^ 16) * 2 ^ 44 + (e.gen % 16) * 2 ^ 60

/-- An index unit's payload (R193). -/
structure IdxUnit where
  serial : Nat
  first : Nat
  pring : Nat
  ploc : Nat
  ents : List IdxEnt
  deriving DecidableEq, Repr, Inhabited

/-- The payload bytes of an index unit (R193). -/
def IdxUnit.bytes (u : IdxUnit) : List Byte :=
  (leBytes 4 0x494E4458 ++ leBytes 4 u.serial ++ leBytes 4 u.first ++ leBytes 2 u.ents.length ++ leBytes 1 u.pring ++ zeros 1
    ++ leBytes 4 u.ploc ++ zeros 12 ++ u.ents.flatMap (fun e => leBytes 8 e.bits) ++ zeros 65536).take 65536

/-- A port manifest, Table 05-8. -/
structure Manifest where
  port : Nat := 0
  flags : Nat := 0
  serial : Nat := 0
  imgGen : Nat := 0
  reloc : Nat := 0
  adapter : BitVec 64 := 0
  geom : Nat := 0
  tTrip : Stamp := {}
  tFrz : Stamp := {}
  squares : Nat := 0
  cSq : Nat := 0
  moved : Nat := 0
  left : Nat := 0
  logHwm : Nat := 0
  iring : Nat := 0
  iloc : Nat := 0xFFFFFFFF
  icount : Nat := 0
  region : List Word := []
  map : List Nat := []
  tail : List IdxEnt := []
  deriving DecidableEq, Repr, Inhabited

/-- Four 2-bit square states per byte (Table 03-11). -/
def mapBytes : Nat → List Nat → List Byte
  | 0, _ => []
  | n + 1, l => BitVec.ofNat 8 ((l.getD 0 0) % 4 + (l.getD 1 0) % 4 * 4 + (l.getD 2 0) % 4 * 16 + (l.getD 3 0) % 4 * 64) :: mapBytes n (l.drop 4)

/-- The 65,536 payload bytes of a manifest. -/
def Manifest.bytes (m : Manifest) : List Byte :=
  (leBytes 4 0x4D414E46 ++ leBytes 2 1 ++ leBytes 1 m.port ++ leBytes 1 m.flags ++ leBytes 4 m.serial ++ leBytes 4 m.imgGen
    ++ leBytes 4 m.reloc ++ leBytes 8 m.adapter.toNat ++ leBytes 1 m.geom ++ zeros 1 ++ leBytes 2 m.tail.length
    ++ m.tTrip.bytes ++ m.tFrz.bytes ++ leBytes 4 m.squares ++ leBytes 4 m.cSq ++ leBytes 4 m.moved ++ leBytes 4 m.left
    ++ leBytes 4 m.logHwm ++ leBytes 1 m.iring ++ zeros 3 ++ leBytes 4 m.iloc ++ leBytes 4 m.icount
    ++ (List.range 64).flatMap (fun r => leBytes 4 (m.region.getD r 0).toNat) ++ zeros 32
    ++ mapBytes 16384 m.map ++ m.tail.flatMap (fun e => leBytes 8 e.bits) ++ zeros 65536).take 65536

/-- A seal or retire record, Table 05-9. `what`: 0 port seal, 1 save seal, 2 retire mark. -/
structure SealRec where
  what : Nat := 0
  port : Nat := 0
  reason : Nat := 0
  serial : Nat := 0
  imgGen : Nat := 0
  reloc : Nat := 0
  mring : Nat := 0
  mloc : Nat := 0
  mcrc : Word := 0
  stamp : Stamp := {}
  adapter : BitVec 64 := 0
  deriving DecidableEq, Repr, Inhabited

/-- The 60 bytes of the record. -/
def SealRec.bytes (r : SealRec) : List Byte :=
  let h := leBytes 4 (match r.what with | 0 => 0x5345414C | 1 => 0x53534C41 | _ => 0x52455449) ++ leBytes 2 1 ++ leBytes 1 r.port
    ++ leBytes 1 r.reason ++ leBytes 4 r.serial ++ leBytes 4 r.imgGen ++ leBytes 4 r.reloc ++ leBytes 1 r.mring ++ zeros 3
    ++ leBytes 4 r.mloc ++ leBytes 4 r.mcrc.toNat ++ r.stamp.bytes ++ leBytes 8 r.adapter.toNat
  h ++ leBytes 4 (crc32c h).toNat

/-- A port's entry in the save manifest (R196). -/
structure SaveManEnt where
  imgGen : Nat := 0
  mring : Nat := 0
  mloc : Nat := 0
  pstate : Nat := 0
  deriving DecidableEq, Repr, Inhabited

/-- The save manifest (R196). -/
structure SaveMan where
  serial : Nat := 0
  geom : Nat := 0
  status : Nat := 0
  tTrip : Stamp := {}
  tEnd : Nat := 0
  trip : Nat := 0
  mask : BitVec 64 := 0
  ents : List SaveManEnt := []
  iring : Nat := 0
  iloc : Nat := 0xFFFFFFFF
  deriving DecidableEq, Repr, Inhabited

/-- The payload bytes of the save manifest. -/
def SaveMan.bytes (m : SaveMan) : List Byte :=
  (leBytes 4 0x534D414E ++ leBytes 2 1 ++ zeros 2 ++ leBytes 4 m.serial ++ leBytes 1 m.geom ++ zeros 1 ++ leBytes 2 m.status
    ++ m.tTrip.bytes ++ zeros 16 ++ leBytes 4 m.tEnd ++ leBytes 3 m.trip ++ zeros 1 ++ leBytes 8 m.mask.toNat
    ++ (List.range 64).flatMap (fun p => let e := m.ents.getD p {}
        leBytes 4 e.imgGen ++ leBytes 1 e.mring ++ zeros 3 ++ leBytes 4 e.mloc ++ leBytes 1 e.pstate ++ zeros 3)
    ++ leBytes 1 m.iring ++ zeros 3 ++ leBytes 4 m.iloc ++ zeros 65536).take 65536

/-- A confirm entry, Table 06-3. -/
structure ConfEnt where
  lseq : Nat
  oseq : Nat
  sq : Nat
  port : Nat
  gen : Nat
  reloc : Bool := false
  turn : Nat
  deriving DecidableEq, Repr, Inhabited

/-- The 16 bytes of a confirm entry, Table 06-3. -/
def ConfEnt.bytes (e : ConfEnt) : List Byte :=
  leBytes 4 (e.lseq % 2 ^ 31) ++ leBytes 4 (e.oseq % 2 ^ 31) ++ leBytes 2 e.sq ++ leBytes 1 e.port ++ leBytes 1 (e.gen % 16 + 16 * e.reloc.toNat)
    ++ leBytes 4 (if e.reloc then 0 else e.turn)

/-- A confirm unit's payload, Table 06-2. -/
structure ConfUnit where
  lseq : Nat
  hwm : Nat
  stamp : Stamp
  ents : List ConfEnt
  deriving DecidableEq, Repr, Inhabited

/-- The payload bytes of a confirm unit, Table 06-2. -/
def ConfUnit.bytes (c : ConfUnit) : List Byte :=
  (leBytes 4 0x434F4E46 ++ leBytes 2 1 ++ leBytes 2 c.ents.length ++ leBytes 4 (c.lseq % 2 ^ 31) ++ leBytes 4 (c.hwm % 2 ^ 31) ++ c.stamp.bytes
    ++ zeros 32 ++ c.ents.flatMap ConfEnt.bytes ++ zeros 65536).take 65536

/-- Area boundaries in blocks from BLK_FIRST, the same on every die of a sled (R182). -/
structure Areas where
  cat : Nat := 0
  save : Nat := 0
  log : Nat := 0
  scratch : Nat := 0
  stop : Nat := 0
  deriving DecidableEq, Repr, Inhabited

/-- A sled descriptor, Table 05-6. -/
structure SledDesc where
  slot : Nat := 0
  minSleds : Nat := 3
  vaultId : BitVec 64 := 0
  serial : BitVec 64 := 0
  epoch : Nat := 0
  writeSeq : Nat := 0
  areas : Areas := {}
  members : List Word := []
  stamp : Stamp := {}
  deriving DecidableEq, Repr, Inhabited

/-- The 100 bytes of a sled descriptor, Table 05-6; a start block takes 40 bits. The blocks are counted from BLK_FIRST, and the end block is the one
after the last (DESIGN CHOICE, log entry 200). -/
def SledDesc.bytes (d : SledDesc) : List Byte :=
  let h := leBytes 4 0x53444553 ++ leBytes 2 1 ++ leBytes 1 d.slot ++ leBytes 1 d.minSleds ++ leBytes 8 d.vaultId.toNat ++ leBytes 8 d.serial.toNat
    ++ leBytes 4 d.epoch ++ leBytes 4 d.writeSeq ++ leBytes 5 d.areas.cat ++ leBytes 5 d.areas.save ++ leBytes 5 d.areas.log
    ++ leBytes 5 d.areas.scratch ++ leBytes 5 d.areas.stop ++ zeros 7 ++ (List.range 4).flatMap (fun x => leBytes 4 (d.members.getD x 0).toNat)
    ++ d.stamp.bytes
  h ++ leBytes 4 (crc32c h).toNat

/-- A wrap set of a key block: a controller's identity and the 64 wrapped keys, 136 bytes each, in port order (R202, R203). -/
structure WrapSet where
  id : BitVec 64 := 0
  keys : List Byte := []
  deriving DecidableEq, Repr, Inhabited

/-- A key block (R203): its wrap sets, at most two; `mat` names the key material they wrap. -/
structure KeyBlock where
  vaultId : BitVec 64 := 0
  keyEpoch : Nat := 0
  nonce : BitVec 128 := 0
  sets : List WrapSet := []
  mat : Nat := 0
  deriving DecidableEq, Repr, Inhabited

/-- The identities of the wrap sets. -/
def KeyBlock.wraps (k : KeyBlock) : List (BitVec 64) := k.sets.map (·.id)

/-- The 8,712 bytes of the i-th wrap set; an empty one has identity 0. -/
def KeyBlock.setBytes (k : KeyBlock) (i : Nat) : List Byte :=
  let w := k.sets.getD i {}
  (leBytes 8 w.id.toNat ++ w.keys ++ zeros 8712).take 8712

/-- The 17,604 bytes of a key block (R203): the wrap sets stand at bytes 64 and 8,832. -/
def KeyBlock.bytes (k : KeyBlock) : List Byte :=
  let h := leBytes 4 0x4B455953 ++ zeros 4 ++ leBytes 8 k.vaultId.toNat ++ leBytes 4 k.keyEpoch ++ zeros 12 ++ leBytes 16 k.nonce.toNat ++ zeros 16
    ++ k.setBytes 0 ++ zeros 56 ++ k.setBytes 1 ++ zeros 56
  h ++ leBytes 4 (crc32c h).toNat

/-- A block of a sled: channel, target and LUN (bits [4:0] of a LOC), block offset. -/
structure BlkRef where
  ch : Nat
  die : Nat
  blk : Nat
  deriving DecidableEq, Repr, Inhabited

/-- The plaintext of a unit other than parity. A square's content is readable only with the key material `mat` it was
encrypted under (R172). -/
inductive NBody where
  | square (chunks : List Chunk) (mat : Nat)
  | filler
  | index (e : IdxUnit)
  | confirm (c : ConfUnit)
  | manifest (m : Manifest)
  | mark (r : SealRec)
  | saveMan (m : SaveMan)
  | sledDesc (d : SledDesc)
  | keyBlock (k : KeyBlock)
  | blockTable (factory grown : List BlkRef) (erases : List (BlkRef × Nat))
  deriving DecidableEq, Repr, Inhabited

/-- What a unit's tag says, Table 05-3, but for CHUNK. -/
structure UTag where
  seq : Nat := 0
  serial : Nat := 0
  stripe : Nat := 0
  port : Nat := 0xFF
  pos : Nat := 0
  kind : Nat := 0
  gen : Nat := 0
  sq : Nat := 0xFFFF
  geom : Nat := 0
  cls : Nat := 0                      -- class, bits [3:2] of POS (Table 04-2)
  deriving DecidableEq, Repr, Inhabited

/-- DUN of chunk k (R173). -/
def UTag.dun (t : UTag) (k : Nat) : Nat :=
  if t.kind = 1 ∨ t.kind = 3 then
    k % 16 + t.sq % 2 ^ 16 * 16 + t.gen % 16 * 2 ^ 20 + (if t.kind = 1 then t.serial else 2 ^ 31 + t.seq % 2 ^ 31) * 2 ^ 32
  else 0

/-- The 32 tag bytes of codeword k. -/
def UTag.bytes (t : UTag) (k : Nat) : List Byte :=
  let h := leBytes 4 t.seq ++ leBytes 4 t.serial ++ leBytes 4 t.stripe ++ leBytes 1 t.port ++ leBytes 1 (t.pos % 4 + t.cls % 4 * 4) ++ leBytes 1 t.kind
    ++ leBytes 1 (k % 16 + t.gen % 16 * 16) ++ leBytes 2 t.sq ++ leBytes 1 t.geom ++ zeros 1 ++ leBytes 8 (t.dun k)
  h ++ leBytes 4 (crc32c h).toNat

/-- What a unit holds. A parity unit holds the XOR of its stripe's other units (R176), from which any one of them can be had
given the rest: it is kept as the list of those units. -/
inductive UBody where
  | one (b : NBody)
  | parity (xs : List (UTag × NBody))
  deriving DecidableEq, Repr, Inhabited

/-- A unit as it lies on flash. -/
structure FUnit where
  tag : UTag
  body : UBody
  deriving DecidableEq, Repr, Inhabited

/-- A programmed slot of a ring: its LOC and unit; none where a program failed and nothing can be read. -/
abbrev FCell := Nat × Option FUnit

/-- A sled as hardware: the READ ID bytes of its dies per channel and target, its system area and its programmed slots per
channel. -/
structure SledDev where
  dies : List (List Nat) := []
  desc : Option SledDesc := none      -- the valid copy with the higher WRITE_SEQ, and the other one (R184)
  descOld : Option SledDesc := none
  keys : Option KeyBlock := none
  oldKeys : Nat := 0                  -- old key-block copies not yet erased
  keyAt : Nat := 0                    -- which of its two pairs of blocks holds the key block in force
  factory : List BlkRef := []
  grown : List BlkRef := []
  erases : List (BlkRef × Nat) := []
  cells : Tab (List FCell) 8 := tall 8 []
  deriving DecidableEq, Repr, Inhabited

/-- Why a descriptor is on a ring. -/
inductive Why where
  | stripe                            -- a unit of a save-area or log-area stripe
  | cat (job : Nat)                   -- one copy of a catalog unit
  /-- A system-area write of a group, with the write's own number: 0 sled descriptor, 1 key block, 2 block table, 3 erase of an old key block;
  which of the two copies it is, and the channel it is for, where that still works (Table 05-5). -/
  | sys (what n group copy : Nat) (chan : Option Nat)
  | catCopy                           -- a catalog unit copied forward (R198)
  | erase
  | read (job : Nat) (port sq : Nat)  -- a read for a restore (0), verify (1), export (3), relocation (2)
  | format
  | fill
  deriving DecidableEq, Repr, Inhabited

/-- A ring descriptor, Table 04-2, with the unit it programs. -/
structure Desc where
  opc : Nat := 0
  flags : Nat := 0
  tgt : Nat := 0
  planes : Nat := 0
  row : Nat := 0
  cw : Nat := 16
  tray : Nat := 0
  serial : Nat := 0
  stripe : Nat := 0
  port : Nat := 0xFF
  pos : Nat := 0
  sq : Nat := 0
  gen : Nat := 0
  seq : Nat := 0
  stamp : Stamp := {}
  dun : Nat := 0
  status : Nat := 0
  loc : Nat := 0
  unit : Option FUnit := none
  why : Why := .erase
  area : Nat := 0                     -- area of the unit it programs, as in UnitJob
  tries : Nat := 0
  deriving DecidableEq, Repr, Inhabited

/-- The 64 bytes of a descriptor. -/
def Desc.bytes (d : Desc) : List Byte :=
  let h := leBytes 1 d.opc ++ leBytes 1 d.flags ++ leBytes 1 d.tgt ++ leBytes 1 d.planes ++ leBytes 4 d.row ++ leBytes 2 d.cw
    ++ leBytes 2 d.tray ++ leBytes 4 d.serial ++ leBytes 4 d.stripe ++ leBytes 1 d.port ++ leBytes 1 d.pos ++ leBytes 2 d.sq
    ++ leBytes 1 d.gen ++ zeros 3 ++ leBytes 4 d.seq ++ d.stamp.bytes ++ leBytes 8 d.dun
  h ++ leBytes 4 (crc32c h).toNat ++ leBytes 4 d.status

/-- A unit waiting for a ring of its sled: area 0 SAVE, 1 LOG, 2 CAT, 3 scratch, 4 system. -/
structure UnitJob where
  sled : Nat
  area : Nat
  opc : Nat
  cls : Nat
  unit : FUnit
  why : Why
  tries : Nat := 0
  deriving DecidableEq, Repr, Inhabited

/-- The channel a system-area unit is for. -/
def Why.chan : Why → Option Nat
  | .sys _ _ _ _ c => c
  | _ => none

/-- A unit whose channel has failed goes to any other of its sled (R205). -/
def Why.unbind (c : Nat) : Why → Why
  | .sys w n g k ch => .sys w n g k (if ch = some c then none else ch)
  | w => w

/-- What a catalog unit is for. -/
inductive CatKind where
  | manifest (p : Nat)
  | seal (p : Nat)
  | saveMan
  | saveSeal
  | retire (p reason : Nat)
  | relocMan
  | relocSeal
  deriving DecidableEq, Repr, Inhabited

/-- A catalog unit with one copy on every catalog sled (R197): copies left, and the copies done by sled, ring and LOC. -/
structure CatJob where
  id : Nat
  kind : CatKind
  left : Nat
  ok : List (Nat × Nat × Nat)
  body : NBody
  deriving DecidableEq, Repr, Inhabited

/-- A stripe being filled or waiting for its units (R176, R177). `cls` is the class its data came from; `left` counts units not yet
done; `ents` are its index entries by position; `opened` the turn it was opened. -/
structure Stripe where
  area : Nat
  num : Nat
  geom : Nat
  data : List (UTag × NBody)
  closed : Bool := false
  left : Nat := 0
  opened : Nat := 0
  reloc : Bool := false
  locs : List (Nat × Nat × Nat) := []   -- position, ring, LOC of the units done
  tags : List (Nat × UTag) := []        -- position and tag of every unit made
  deriving DecidableEq, Repr, Inhabited

end Sys2Proof.Machine
end

