-- ==== Sys2Proof/Machine/Messages.lean ====
section
/-! DEFINITION. The contents of the messages of the partner link and of the fabric (10, 11), and of a replication frame. -/

namespace Sys2Proof.Machine

/-- LEDG.HEAD and HRSEQ of an area. -/
structure Head where
  slot : Option Nat := none
  count : Nat := 0
  rseq : Nat := 0
  deriving DecidableEq, Repr, Inhabited

/-- A link-state advertisement as the database holds it (Table 11-3); `links` are neighbour, cost and up of FP0 to FP3. -/
structure Lsa where
  id : BitVec 64
  addr : Nat
  static : Bool
  pps : Bool
  tpri : Nat
  age : Nat
  aseq : Nat
  links : List (Nat × Nat × Bool)
  deriving DecidableEq, Repr, Inhabited

/-- A table REPORT, Table 11-6; `src` is the address it came from. -/
structure TRep where
  src : Nat := 0
  tableId : Nat := 0
  slot : Nat := 0
  state : Nat := 0
  retreq : Bool := false
  sync : Bool := false
  crc : Word := 0
  round : Nat := 0
  epoch : Nat := 0
  held : Nat := 0
  heldExp : Nat := 0
  eSum : Nat := 0
  eStr : List Nat := []
  deriving DecidableEq, Repr, Inhabited

/-- A GRANT, Table 11-7. -/
structure TGrant where
  tableId : Nat := 0
  coord : Nat := 0xF
  retSlot : Nat := 0xF
  first : Bool := false
  crc : Word := 0
  round : Nat := 0
  live : Nat := 0
  p : Nat := 0
  shares : List Nat := []
  deriving DecidableEq, Repr, Inhabited

/-- A fabric frame's body, Table 11-3. -/
inductive FBody where
  | hello (id : BitVec 64) (addr : Nat) (static seen fec : Bool) (port cost : Nat)
  | lsa (m : Lsa)
  | tsyncReq
  | tsyncRsp (t2 t3 : BitVec 64) (root hops : Nat) (synced disc : Bool)
  | report (m : TRep)
  | grant (m : TGrant)
  | telReq
  | telRsp (block : List Byte)
  | lreadReq (ofs len : Nat)
  | lreadRsp (status ofs : Nat) (words : List Word)
  | error (code seq : Nat)
  deriving DecidableEq, Repr, Inhabited

/-- A fabric frame: route word (Table 11-2) and body. -/
structure FMsg where
  dst : Nat
  src : Nat
  ttl : Nat := 255
  prio : Nat
  body : FBody
  deriving DecidableEq, Repr, Inhabited

/-- Windows of R150 announced in a frame: SEQ_LIM, LSEQ_LIM and, per ring, the first location of the SAVE, LOG and CAT cursors not
granted. -/
structure Win where
  seq : Nat := 0
  lseq : Nat := 0
  save : List Nat := []
  log : List Nat := []
  cat : List Nat := []
  deriving DecidableEq, Repr, Inhabited

/-- A staged-map entry as frames carry it (Table 10-3). -/
structure MapAdd where
  port : Nat
  sq : Nat
  gen : Nat
  lseq : Nat
  deriving DecidableEq, Repr, Inhabited

/-- A map-word clear. -/
structure MapClr where
  port : Nat
  word : Nat
  mask : Word
  deriving DecidableEq, Repr, Inhabited

/-- A base segment (R339): index and number of segments, its first and last key, its entries in ascending (port, square) order. -/
structure BaseSeg where
  idx : Nat
  total : Nat
  first : Option (Nat × Nat) := none
  last : Option (Nat × Nat) := none
  ents : List MapAdd
  deriving DecidableEq, Repr, Inhabited

/-- What a frame carries of a port: STAKE, SAVECK (Table 04-4) and RETURN sections, and its IN_DOUBT bit. -/
structure FrPort where
  s : Nat := 0
  k : Nat := 0
  u : Nat := 0
  cov : Nat := 0
  elig : Bool := false
  released : Bool := false
  doubt : Bool := false
  img : Bool := false
  pst : Nat := 0
  cursor : Nat := 0
  cSq : Nat := 0
  unconf : Bool := false
  late : Bool := false
  incomplete : Bool := false
  out : Nat := 0
  pend : Bool := false
  relSent : Bool := false
  relAcked : Bool := false
  written : Nat := 0
  src : Nat := 0xFF              -- port whose image a reassign restores (log entry 159)
  deriving DecidableEq, Repr, Inhabited

/-- What a frame carries of a string (R297). -/
structure FrStr where
  q : Int := 0
  r : Int := 0
  c : Nat := 0
  cand : Nat := 0
  learned : Bool := false
  hasCand : Bool := false
  conf : Bool := false
  unres : Bool := false
  deriving DecidableEq, Repr, Inhabited

/-- The save checkpoint, Table 04-4, but for its per-port fields and windows. The fields from `geom` on stand in no table: they are what
R41, R137, R177 and the save report need at a new holder, and a frame carries everything a new holder needs (log entry 159). -/
structure Ckpt where
  geom : Nat := 0
  test : Bool := false
  cal : Bool := false
  promoted : Bool := false
  retripped : Bool := false
  kind8 : Bool := false
  sledLost : Bool := false
  supply : Bool := false
  primary : Nat := 0
  src : BitVec 8 := 0
  late : BitVec 8 := 0
  edges : Nat := 0
  lostSleds : Nat := 0
  tkos : Nat := 0
  ePot : Nat := 0
  eNeed : Nat := 0
  bwV : Nat := 0
  yieldOnce : Bool := false
  tTrip : Stamp := {}
  tripL : Nat := 0
  phase : Nat := 0
  w0 : Nat := 0
  sealed : Bool := false
  deriving DecidableEq, Repr, Inhabited

/-- A state frame, Tables 10-2 and 10-3. -/
structure Frame where
  armed : Bool := false
  final : Bool := false
  state : Nat := 0
  fseq : Nat := 0
  turn : Nat := 0
  epoch : Nat := 0
  away : Bool := false
  baseId : Nat := 0
  stamp : Stamp := {}
  bTotal : Nat := 0
  short : Bool := false
  serial : Nat := 0
  frz : BitVec 8 := 0
  num : Nat := 1
  den : Nat := 1
  grant : Option TGrant := none
  credit : Int := 0
  emBkt : List Nat := []
  cmd : Nat := 0
  cmdState : Nat := 0
  drill : Nat := 0               -- 0 none, 1 leg 1, 2 dwell, 3 leg 2; ended: 4 leg 2 failed, 5 test save missed, 6 tripped
  dwell : Nat := 0
  drillTest : Bool := false
  ports : Tab FrPort 64 := tall 64 {}
  adds : List MapAdd := []
  clears : List MapClr := []
  portClears : BitVec 64 := 0
  pend : List ConfEnt := []
  nextLseq : Nat := 0
  hwm : Nat := 0
  win : Win := {}
  iring : Nat := 0
  iloc : Nat := 0xFFFFFFFF
  icount : Nat := 0
  first : Nat := 0
  ents : List IdxEnt := []
  ck : Option Ckpt := none
  strs : Tab FrStr 16 := tall 16 {}
  learnStr : Nat := 0
  learnHold : Bool := false
  learnSt : Nat := 0
  learnRes : Nat := 0
  learnAt : Nat := 0
  shared : BitVec 64 := 0        -- level of every SHARED EN_nn
  slots : List Nat := []         -- slot states
  attempt : Nat := 0
  phase : Nat := 0
  mepoch : Nat := 0
  sleds : List (Nat × Bool × Bool) := []   -- class, drain pending, switched out
  rjob : Nat := 0
  jobSled : Nat := 0
  prog : Nat := 0
  total : Nat := 0
  heads : List Head := []
  rseq : Nat := 0
  base : Option BaseSeg := none
  geom : Nat := 0                -- geometry of new stripes at the last boundary (R177; log entry 159)
  deriving DecidableEq, Repr, Inhabited

/-- Partner link messages, Table 10-1, but ACK and NAK. -/
inductive PMsg where
  | alive
  | frame (f : Frame)
  | frameAck (fseq baseId : Nat)
  | join (id : BitVec 64)
  | takeReady (fseq : Nat)
  | yield (fseq : Nat)
  | kxOffer (key pub sig : List Byte)
  | kxReply (key pub sig : List Byte)
  | kxKeys (sealed : List Byte)
  | kxWraps (wraps : List Byte)
  | error (code seq : Nat)
  deriving DecidableEq, Repr, Inhabited

end Sys2Proof.Machine
end

