-- ==== Sys2Proof/Syntax.lean ====
section
/-! DEFINITION. The commands: one constructor per row of the table, with what the row takes in: the port, slot, string or link it concerns,
a message's header and contents, the word written, or what was sampled. `also` carries the ranks other trip conditions had at the same instant. -/

namespace Sys2Proof

open Machine

/-- The commands. -/
inductive Instr where
  /-- R20: VAON_A or VAON_B reaches 1.7 V in Off and AON powers up, entering Wake. -/
  | vaonRise (b : SupplyUp)
  /-- R29: VAON_A falls below 1.7 V while VAON_B is good, and AON switches to VAON_B without reset. -/
  | vaonALoss
  /-- R30: VAON_A has been at least 1.8 V for 1 ms, and AON switches back to it and counts the switch-over. -/
  | vaonAReturn
  /-- R31: Both VAON supplies fall below 1.7 V, AON loses its state and the controller is in Off. -/
  | vaonBothLost
  /-- R37: PFI_BUS reports bus good, and the bus-good and main-good timers start. -/
  | pfiBusGood
  /-- R20: Bus good has held for 100 ms in Wake (STAY_OFF clear) or in Hold, and the controller enters Boot. -/
  | busGood100ms
  /-- R37: Main has been good for 10 ms outside Save, so SWO_MAIN_N is asserted and SWO_BKP_N is released 100 us later. -/
  | mainGood10ms
  /-- R35: PFI_BUS reports a sag: SWO_BKP_N is asserted, SWO_MAIN_N is released, and a rank-1 trip follows after 20 ns. -/
  | pfiBusSag (also : BitVec 8)
  /-- R39: Backup stops being good while the controller runs on backup; SWO_BKP_N stays asserted and the event is recorded. -/
  | backupNotGood
  /-- R118: HOLD_REQ_N is low for 20 ns, a rank-2 trip source on the freeze path. -/
  | holdReq (also : BitVec 8)
  /-- R120: An AC-good double reports loss; an immediate-save image may trip at the threshold, and the turn count drives Ride entry. -/
  | acgLoss (n : Fin 8) (also : BitVec 8)
  /-- R20: The AC-good loss count has stayed below threshold for 1 s in Ride, and the controller returns to Ready. -/
  | rideExit
  /-- R46: The 1 ms turn boundary: stakes, reports, shortfall, governor, E_pot, state frames and pending transitions are processed. -/
  | turnBoundary (inp : TurnInputs)
  /-- R67: The sum of U_p has stayed within B_total for 10 turn boundaries; the clamp is removed and a port record is written. -/
  | shortfallEnd
  /-- R58: A port has shown overstake at 8 judged turn boundaries in a row, raising its overstake fault source. -/
  | overstakeRun (p : Fin 64)
  /-- R60: A port's report has been missing for 3 turns; MISS_SEEN is set and the port goes to link error handling. -/
  | reportsMissing (p : Fin 64)
  /-- R69: At the first boundary with the sum of K_p within B_total, a drain-pending sled is switched out and its relocation starts. -/
  | drainSwitchOut
  /-- R371: The share in force expires; the member falls back to its MIN and its own E_sum. -/
  | grantExpiry
  /-- R422: A type 1 port record is written every 3,600 s during a long shortfall. -/
  | portRecordHourly
  /-- R422: A type 3 port record is written 10 s after the first uncovered occurrence. -/
  | uncoveredRecord
  /-- R82: A signal is detected on lane 0 of an enabled port in DOWN, moving it to LOCK. -/
  | signalDetect (l : Machine.HclLink)
  /-- R82: Block lock on the lanes of a width moves the port to TRAIN. -/
  | blockLock (l : Machine.HclLink) (lanes : BitVec 4)
  /-- R83: A TRAIN_1 received carries a coefficient request to apply and a lane number to check. -/
  | train1 (l : Machine.HclLink) (lane : Fin 4) (laneNo : Fin 4) (coef : BitVec 16) (sq : BitVec 8)
  /-- R83: TRAIN_2 is exchanged with an agreeing width; the port enters IDENT and sends REQ. -/
  | train2 (l : Machine.HclLink) (width : BitVec 4)
  /-- R85: A training attempt has not reached IDENT within 50 ms of LOCK and fails; a third failure leaves the port FAILED. -/
  | trainingTimeout (l : Machine.HclLink)
  /-- R85: A port in FAILED starts a new training attempt every 1 s. -/
  | failedRetry (l : Machine.HclLink)
  /-- R76: A trained lane loses block lock for 1 us, and the port goes to RECOVER. -/
  | laneLockLost (l : Machine.HclLink) (lane : Fin 4)
  /-- R82: QUIET received takes the port to DOWN without an error count. -/
  | quiet (l : Machine.HclLink)
  /-- R116: A port in RECOVER has not regained UP with the same ID within 10 ms (5 ms in Save), and goes DOWN and ineligible. -/
  | recoverTimeout (p : Fin 64)
  /-- R88: An ACK received frees the acknowledged messages from the replay buffer. -/
  | ack (link : LinkId) (h : Hdr)
  /-- R88: A NAK received, or a bad CRC or out-of-sequence message, causes a replay from the SEQ expected. -/
  | nak (link : LinkId) (why : NakWhy)
  /-- R88: The oldest unacknowledged message has waited 10 us and is replayed; after 4 replays the port goes to RECOVER. -/
  | replayTimeout (link : LinkId)
  /-- R86: An IDENT received reads the adapter identity, checks for bad or changed IDs, and feeds Return decisions. -/
  | ident (p : Fin 64) (h : Hdr) (m : IdentMsg)
  /-- R99: A REPORT is received and U_p is recorded, with the UMISMATCH check. -/
  | report (p : Fin 64) (h : Hdr) (m : ReportMsg) (late : Bool)
  /-- R219: A MAP is received and updates candidates and the staged map, and may detect an orphan. -/
  | map (p : Fin 64) (h : Hdr) (tag : BitVec 32) (first : BitVec 16) (words : List (List Nat))
  /-- R94: A DATA chunk is received into the tray for a pre-stage copy, a save move or a check. -/
  | data (p : Fin 64) (h : Hdr) (tag : BitVec 32) (sq : BitVec 16) (chunk : Fin 16) (gen : BitVec 4) (st : BitVec 2) (data : List Byte) (trayErr : Bool)
  /-- R226: A CONFIRM_ACK is received, updating the staged map and setting backoff for rejected squares. -/
  | confirmAck (p : Fin 64) (h : Hdr) (turn : BitVec 32) (acc : BitVec 64)
  /-- R97: A REVERT_ACK is received, recording the count and removing reverted staged-map entries. -/
  | revertAck (p : Fin 64) (h : Hdr) (count : BitVec 17) (ovf : Bool)
  /-- R115: An ERROR message is received from an adapter and the matching PORT.ERR sub-source is set. -/
  | hclError (p : Fin 64) (h : Hdr) (code : BitVec 8)
  /-- R258: A CHECK is received and its region codes are compared with the manifest or the restored squares. -/
  | check (p : Fin 64) (h : Hdr) (serial : BitVec 32) (codes : List Word)
  /-- R128: A FROZEN is received; a late one joins class 1. -/
  | frozen (p : Fin 64) (h : Hdr) (m : FrozenMsg)
  /-- R113: A WACK is received for a restore WRITE. -/
  | wack (p : Fin 64) (h : Hdr) (sq : BitVec 16) (chunk : Fin 16) (tag : BitVec 32) (status : BitVec 2)
  /-- R256: No WACK has arrived 100 us after a WRITE, counted as a protocol error. -/
  | wackTimeout (p : Fin 64) (sq : BitVec 16) (chunk : Fin 16)
  /-- R253: A RELEASE_ACK is received; the port is released and its image is retired. -/
  | releaseAck (p : Fin 64) (h : Hdr)
  /-- R252: No RELEASE_ACK arrived within 1 ms; RELEASE is resent up to 3 times, then the port goes to RECOVER. -/
  | releaseTimeout (p : Fin 64)
  /-- R127: At t_trip + t_fw, ports without FROZEN are marked unconfirmed and their move starts. -/
  | freezeWindowClose
  /-- R129: Wave k opens at t_w0 + 20k us and admits programs on its four rings. -/
  | waveOpen (k : Fin 8)
  /-- R136: A ring descriptor completes with a result; failures are reposted or fail the channel. -/
  | descriptorComplete (ring : Fin 32) (slot : BitVec 8) (res : BitVec 8) (corr : BitVec 8) (retries : BitVec 8) (us : BitVec 16) (bad : BitVec 8) (crc : BitVec 8)
  /-- R177: Once no class 1 READ is outstanding, the last class 1 stripe is completed with filler. -/
  | class1StripeFill
  /-- R138: A port not UP with the same ID 5 ms after RECOVER entry or move start is sealed incomplete. -/
  | moveLinkTimeout (p : Fin 64)
  /-- R139: At t_D,eff - t_seal the move ends; any class 1 squares left are a deadline miss. -/
  | class1Cutoff
  /-- R140: At t_D,eff - t_seal - t_tko, class 2 moves stop. -/
  | class2Cutoff
  /-- R522: The hold-up bus slot leaves its warning window, cutting off class 2 in Save. -/
  | busWarnCross
  /-- R522: The hold-up bus slot leaves its fault window, causing an emergency seal in Save. -/
  | busFaultCross
  /-- R144: Once a port's move has ended and its units are done, its manifest is programmed with PROG_META. -/
  | portManifestPost (p : Fin 64)
  /-- R145: After every port is sealed or left without an image, the save manifest and save seal are programmed. -/
  | saveManifestPost
  /-- R161: Every 4 turns of a calibration save, READ_VOUT and READ_IOUT of the listed devices are summed. -/
  | calSample (readings : List (Option (Nat × Nat)))
  /-- R161: FILL unit writing stops at t_w0 + 250 ms. -/
  | calFillEnd
  /-- R212: SLED_PRS_N is deasserted or a member sled fails; the membership epoch advances and the sled is degraded. -/
  | sledRemoved (x : Fin 4) (gone : Bool)
  /-- R313: SLED_PRS_N is asserted and the sled's rise starts. -/
  | sledPresent (x : Fin 4) (dev : SledDev)
  /-- R217: A flash island powers: its dies are initialised, the system area is read and the sled is classified. -/
  | flashIslandUp (x : Fin 4)
  /-- R187: Once every present sled has been read or has failed, the vault's ID and epoch are founded and candidates are classified. -/
  | vaultFounding
  /-- R217: The sled's block map is complete; live stripes are checked, erase-ahead starts and the log scan starts. -/
  | blockMapDone (x : Fin 4)
  /-- R234: The log scan completes; the LOG cursors and next LSEQ are set and pre-staging may start. -/
  | logScanDone (x : Fin 4)
  /-- R185: Erase counts are written to the system area at most every 10 minutes. -/
  | eraseCountWrite
  /-- R193: When 6,016 index entries are pending, an index unit is written. -/
  | indexFlush
  /-- R232: A confirm unit is written at 4,092 pending entries, when the oldest entry is 100 turns old, or at t_trip. -/
  | confirmUnitWrite
  /-- R224: A log stripe open for 2 turn boundaries is completed with filler. -/
  | logStripeFill
  /-- R225: A copy not durable 32 turns after opening is cancelled. -/
  | copyTimeout (p : Fin 64) (sq : BitVec 16)
  /-- R222: A square's backoff interval expires and it may be copied again. -/
  | backoffEnd (p : Fin 64) (sq : BitVec 16)
  /-- R236: The next LSEQ has run 2^29 past a copy or LOG_HWM; the copy is relocated or the image materialised. -/
  | materialise
  /-- R210: After relocation the sled's slots are switched off, then PULL_READY is set and SLED_RTR_N asserted. -/
  | drainPullReady
  /-- R207: Vault job 0x11 verifies codewords in scope, rebuilding without rewriting. -/
  | verify
  /-- R210: Vault job 0x12 drains a sled for hot removal. -/
  | drain
  /-- R213: Vault job 0x13 relocates every live stripe of an old geometry. -/
  | rebuild
  /-- R215: Vault job 0x14 places up to 16 decrypted squares of an image in the export window. -/
  | vaultExport
  /-- R216: Vault job 0x15 replaces the key material, retires every image and erases the old key blocks. -/
  | keyErase
  /-- R214: Vault job 0x16 erases a sled, lays out its areas and adopts it or founds a vault. -/
  | format
  /-- R256: A queued port starts its restore when a concurrency slot and the table's turn are available. -/
  | restoreStart
  /-- R261: At Return entry + RET_WAIT, undecided or waiting ports become pending. -/
  | retWaitExpiry
  /-- R262: Host action 1 retires the image with REASON 3 and then releases the adapter with DISCARD. -/
  | retDiscard (p : Fin 64)
  /-- R262: Host action 2 restores another port's image to this adapter. -/
  | retReassign (p : Fin 64) (src : Fin 64)
  /-- R262: Host action 3 makes the port pending at once. -/
  | retLeavePending (p : Fin 64)
  /-- R262: Host action 4 releases a port whose restore lost squares. -/
  | retAcceptLoss (p : Fin 64)
  /-- R262: Host action 5 clears PEND and decides the port again. -/
  | retDecideAgain (p : Fin 64)
  /-- R254: A write of RET.CTRL.CONC is clipped to the board image value. -/
  | retConcWrite (w : Word)
  /-- R377: Under the partition fallback, restores start after STAG_T x ORDER. -/
  | tableStaggerExpiry
  /-- R269: Every 250 us, string triplets are sampled and charge is integrated. -/
  | sampleStrobe (volts : List (Int × Int × Int))
  /-- R270: The quiet-rate comparator fires and the string switches to fast rate. -/
  | currentWake (k : Fin 16)
  /-- R270: After 4,000 quiet samples the string returns to quiet rate. -/
  | quietRateEntry (k : Fin 16)
  /-- R283: A string present for 100 ms is inserted and given its estimate. -/
  | insertion (k : Fin 16)
  /-- R272: A string below V_PRES on 8 samples is removed from E_sum. -/
  | removal (k : Fin 16)
  /-- R273: Bad codes on 8 samples freeze the count and raise the sense fault source. -/
  | senseFault (k : Fin 16)
  /-- R274: The float condition holds for 60 s; Q := C, CONF clears and a learning run opens. -/
  | fullAnchor (k : Fin 16)
  /-- R275: 8 samples at or below V_ZERO under discharge set Q := 0 and end any learning run. -/
  | emptyAnchor (k : Fin 16)
  /-- R279: NRG.CAND ACCEPT sets C to the candidate. -/
  | candAccept (k : Fin 16)
  /-- R279: NRG.CAND REJECT discards the candidate. -/
  | candReject (k : Fin 16)
  /-- R281: NRG.LEARN.START requests a learning discharge, which is accepted or rejected. -/
  | learnStart (k : Fin 16)
  /-- R282: NRG.LEARN.ABORT aborts a discharge in states 1-2. -/
  | learnAbort (k : Fin 16)
  /-- R282: A discharge in states 1-2 reaches its 24 h limit and is aborted. -/
  | learnTimeout
  /-- R291: NRG.CTRL.LATCH copies the state image into SNAP after the next boundary. -/
  | nrgLatch (w : Word)
  /-- R293: Command 0x08 checks a staged state image and commits it through the AON banks. -/
  | estimatorRestore
  /-- R308: Every 100 us the up algorithm starts ready slots. -/
  | railUpTick (pg : BitVec 64) (win : BitVec 64)
  /-- R311: Every 100 us the down algorithm lets slots fall in dependency order; the end of the sequence drives Fall, Hold or retry. -/
  | railDownTick
  /-- R305: A slot has been good for T_QUAL and qualifies. -/
  | slotQualify (n : Fin 64)
  /-- R305: A qualifying slot goes from good to not good; its qualify time restarts and the edge is counted. -/
  | chatterEdge (n : Fin 64)
  /-- R306: A slot has not qualified by its start reference + T_OUT and fails. -/
  | slotTimeout (n : Fin 64)
  /-- R314: REST has elapsed after a down sequence or with SEQFLT_N high, and the next rise or Boot starts. -/
  | restExpiry (x : Option (Fin 4))
  /-- R304: The 64 VS inputs are scanned, updating below-off. -/
  | vsScan (codes : List (BitVec 12))
  /-- R312: A slot still not below off STUCK_T after its disable is stuck. -/
  | slotStuck (n : Fin 64)
  /-- R319: A qualified slot is not good at 4 samples, raising its rail fault source. -/
  | railFault (n : Fin 64)
  /-- R319: A measured slot is outside its warning window at 4 samples. -/
  | railWarn (n : Fin 64)
  /-- R320: SEQFLT_N is pulled low by another sequencer. -/
  | seqfltLow
  /-- R328: SEQ.CTRL.SNAP takes a snapshot with CAUSE 0x08. -/
  | seqSnapRequest (w : Word)
  /-- R317: SEQ.CTRL.SVC_RETRY restarts the rise of slots fallen in Service. -/
  | svcRetry (w : Word)
  /-- R325: A SEQ.SLOT.MARGIN write in Service clips the target and writes it to the PMBus device. -/
  | marginWrite (n : Fin 64) (dir : BitVec 2) (target : BitVec 16)
  /-- R326: The OPERATION write is acknowledged and the warning levels move. -/
  | marginAck (n : Fin 64) (ok : Bool)
  /-- R326: The warning mask ends 2 ms after the OPERATION acknowledgement. -/
  | warnMaskEnd (n : Fin 64)
  /-- R322: A PB_N press of 0.05-2 s starts Boot in Wake, requests shutdown, or is counted. -/
  | pbPress (len : BitVec 8)
  /-- R322: A PB_N hold reaches 3 s in Rise and enters Service. -/
  | pbHold3s
  /-- R323: A PB_N hold reaches FORCE_T, causing a force-off and setting STAY_OFF. -/
  | pbHoldForce (len : BitVec 8)
  /-- R324: MR_N low for 1 us resets the control, port and mover islands and enters Boot, or is deferred in Save. -/
  | mrN
  /-- R498: REFCLK shows no edge for 100 ns; clocks stop and CLOCK becomes live. -/
  | refclkStop
  /-- R498: REFCLK has been absent 10 us, so a reset into Boot follows once it has been back for 1 ms. -/
  | refclkAbsent10us
  /-- R499: An island PLL loses lock and its clock stops until it relocks. -/
  | pllUnlock (pll : Fin 5)
  /-- R500: The crystal shows no edge for 2 ms and AON times from the RC oscillator. -/
  | crystalLoss
  /-- R496: A supply rail falls below its threshold, and the islands that need it are held in reset. -/
  | railNotGood (k : Fin 6)
  /-- R331: The token keeper is unrefreshed for 100 us and HB_OUT stops. -/
  | keeperHbStop
  /-- R331: 200 us more without refresh, AON releases TOKEN_N. -/
  | keeperTokenRelease
  /-- R336: HB_IN and the partner link are both silent for 500 us and loss is declared. -/
  | partnerLoss
  /-- R342: A standby's 500 us TOKEN_N sampling ends, leading to a claim or snake eyes. -/
  | lossSampleEnd (low : Bool)
  /-- R332: The away seat's 500 us hold-off elapses with TOKEN_N high. -/
  | claimHoldoffEnd
  /-- R332: After a 2 us high run, TOKEN_N is asserted and the token is claimed. -/
  | tokenClaim (frzLow : Bool) (sleds : Option (Tab SledDev 4))
  /-- R151: The settle wait ends and sets t_w0 for the new holder. -/
  | ringSettleEnd
  /-- R335: ALIVE is received on the partner link. -/
  | alive (h : Hdr)
  /-- R335: ALIVE is sent after 50 us without other messages. -/
  | aliveSend
  /-- R337: A state frame is received and applied when complete and in sequence. -/
  | frame (h : Hdr) (whole : Bool) (f : Frame)
  /-- R341: FRAME_ACK is received and updates ARMED and the windows. -/
  | frameAck (h : Hdr) (fseq : BitVec 32)
  /-- R340: JOIN is received and a new base is started. -/
  | join (h : Hdr) (id : BitVec 64)
  /-- R345: YIELD is received and the standby claims at once. -/
  | yield (h : Hdr)
  /-- R346: At the first boundary with idle rings, the giver sends its final frame. -/
  | handoverFinalFrame
  /-- R346: TAKE_READY is received and the giver releases TOKEN_N. -/
  | takeReady (h : Hdr) (fseq : BitVec 32)
  /-- R346: No TAKE_READY arrives 1 ms after the final frame and the giver resumes. -/
  | takeReadyTimeout
  /-- R349: PAIR.KX.APPROVE starts the key exchange with the peer. -/
  | kxApprove (w : Word)
  /-- R349: A signed ephemeral key is received from the holder. -/
  | kxOffer (h : Hdr) (key : List Byte) (pub : List Byte) (sig : List Byte)
  /-- R349: The standby's signed ephemeral key is received. -/
  | kxReply (h : Hdr) (key : List Byte) (pub : List Byte) (sig : List Byte)
  /-- R349: Encrypted port key material is received and wrapped. -/
  | kxKeys (h : Hdr) (text : List Byte)
  /-- R349: Wrapped keys are received and a new key block is written. -/
  | kxWraps (h : Hdr) (wraps : List Byte)
  /-- R350: Command 0x21 runs a token swap drill. -/
  | swapDrill
  /-- R350: The dwell count ends and leg 2 starts. -/
  | drillDwellEnd
  /-- R359: Each operating second, LSA ages, buckets and the drill age advance. -/
  | secondTick
  /-- R354: A HELLO is received on a fabric port. -/
  | fabricHello (i : Fin 4) (h : Hdr) (addr : BitVec 12) (cost : BitVec 4) (seen : Bool)
  /-- R354: A HELLO is sent every 100 ms. -/
  | helloSend
  /-- R354: No valid message for 300 ms returns the port to DOWN. -/
  | fabricPortSilent (i : Fin 4)
  /-- R354: A FAILED fabric port retries every 10 s. -/
  | fabricTrainRetry (i : Fin 4)
  /-- R356: A frame for another node is forwarded or discarded. -/
  | fabricForward (i : Fin 4) (h : Hdr) (m : FMsg)
  /-- R357: 1 s after the first port is UP, an address is discovered. -/
  | addressDiscover
  /-- R359: An LSA is received, stored and flooded, and conflicts are settled. -/
  | lsa (i : Fin 4) (h : Hdr) (m : Lsa)
  /-- R359: The node's LSA is originated on a change or every 10 s. -/
  | lsaOriginate
  /-- R359: An LSA reaching age 40 is removed. -/
  | lsaExpiry (a : BitVec 12)
  /-- R360: Shortest paths are recomputed after a database change. -/
  | routeCompute
  /-- R362: Every 125 ms, a non-root node sends TSYNC_REQ. -/
  | tsyncTimer
  /-- R362: TSYNC_REQ is received and answered with TSYNC_RSP. -/
  | tsyncReq (i : Fin 4) (h : SyncHdr)
  /-- R363: TSYNC_RSP is received, the offset is computed and synchronisation is judged. -/
  | tsyncRsp (i : Fin 4) (h : Hdr) (t2 : BitVec 64) (t3 : BitVec 64) (hops : BitVec 8) (psync : Bool) (pdisc : Bool) (replayed : Bool)
  /-- R365: A PPS_IN edge aligns the root's fabric time. -/
  | ppsEdge
  /-- R367: At t_k, each member sends REPORT to the other slots. -/
  | roundStart (k : BitVec 32)
  /-- R368: A table REPORT is received for the round. -/
  | tableReport (i : Fin 4) (h : Hdr) (m : TRep)
  /-- R370: At t_k + 20 ms, the coordinator counts live slots, computes shares and sends GRANTs. -/
  | coordinate
  /-- R368: A GRANT is received and accepted or discarded. -/
  | grant (i : Fin 4) (h : Hdr) (g : TGrant)
  /-- R378: FAB.RQ_CTRL.GO with KIND 1 sends TEL_REQ. -/
  | telemetryRequest (dst : BitVec 12)
  /-- R379: FAB.RQ_CTRL.GO with KIND 2 sends LREAD_REQ. -/
  | ledgerReadRequest (dst : BitVec 12)
  /-- R378: TEL_REQ is received and answered or refused. -/
  | telReq (i : Fin 4) (h : Hdr) (src : BitVec 12)
  /-- R379: LREAD_REQ is received and its NOR words are returned. -/
  | lreadReq (i : Fin 4) (h : Hdr) (src : BitVec 12) (ofs : BitVec 22) (len : BitVec 11)
  /-- R378: The telemetry block is received into RQ_BUF. -/
  | telRsp (i : Fin 4) (h : Hdr) (src : BitVec 12) (block : List Byte)
  /-- R379: Ledger read data is received into RQ_BUF. -/
  | lreadRsp (i : Fin 4) (h : Hdr) (src : BitVec 12) (status : BitVec 8) (words : List Word)
  /-- R378: A fabric ERROR ends the request as refused or busy. -/
  | fabricError (i : Fin 4) (h : Hdr) (src : BitVec 12) (code : BitVec 8)
  /-- R378: A request without an answer after 10 ms ends with a time-out. -/
  | requestTimeout
  /-- R387: A source becomes live and triggers class and ACT reactions. -/
  | faultRegistration (src : BitVec 8) (of : Machine.RegOf)
  /-- R385: A pair reads invalid on 3 samples and becomes pair-broken. -/
  | pairBroken (i : PairId)
  /-- R383: A handshake is unacknowledged for 10 us and the island source goes live. -/
  | islandTimeout (src : BitVec 8)
  /-- R396: After 10 us the block is released. -/
  | resetRelease (b : Fin 16)
  /-- R396: The block completes its first handshake or signals ready. -/
  | resetEnd (b : Fin 16)
  /-- R399: A shadow set closes after SETTLE; still-live sources register AT_CLOSE. -/
  | shadowClose (k : Fin 16)
  /-- R390: A class is quiet for QUIET, clears and counts a recovery. -/
  | classClear (c : Fin 4)
  /-- R401: FLT.CTRL.CLR_FIRST clears FIRST_CAUSE. -/
  | clrFirst (w : Word)
  /-- R393: FLT.CLASS.UNLATCH clears a latched class with LATCH_OFF = 0. -/
  | unlatchClass (c : Fin 4)
  /-- R402: FLT.FORCE forces sources asserted. -/
  | forceWrite (i : Fin 8) (w : Word)
  /-- R402: FLT.FORCE_PB forces pairs invalid. -/
  | forcePbWrite (i : Fin 8) (w : Word)
  /-- R395: Writing 1 to FLT.ISO re-admits the port. -/
  | isoClear (hi : Bool) (w : Word)
  /-- R414: OP_SEC reaches a multiple of EPOCH_LEN, or an early close occurs, and the banks swap. -/
  | epochClose
  /-- R417: A deferred close is made once the sealing bank is clear. -/
  | epochCloseDeferred
  /-- R415: Each TICK, channel values are binned. -/
  | histogramTick
  /-- R408: The writer starts the next queued record copy by rank. -/
  | ledgerRecordWrite
  /-- R408: A NOR program or erase completes or times out. -/
  | norOpComplete (dev : Fin 2) (res : NorRes)
  /-- R425: Every 10 s a failed device is probed and resilvered when replaced. -/
  | norProbe (dev : Fin 2) (sfdp : Sfdp) (content : Option (List Host.Cell))
  /-- R425: The resilver ends and the device is healthy again. -/
  | resilverDone
  /-- R426: The Boot scan completes, the heads are set and repairs start. -/
  | ledgerScanDone
  /-- R410: A LEDG.WALL_HI write commits the wall label and may count a step. -/
  | wallCommit (hi : Word)
  /-- R414: LEDG.CTRL.EPOCH_NOW closes the epoch early. -/
  | epochNow (w : Word)
  /-- R429: Command 0x09 closes the epoch, drains the queue and sets HOLD. -/
  | ledgerExport
  /-- R429: LEDG.EXP.RELEASE clears HOLD. -/
  | exportRelease
  /-- R429: HOLD clears 3,600 s after it was set. -/
  | exportHoldTimeout
  /-- R418: LEDG.EVQ_POP discards the oldest queued occurrence. -/
  | evqPop
  /-- R418: A read of LEDG.EVQ[0] latches the oldest entry. -/
  | evqRead
  /-- R428: A read of the window returns NOR data, or an error when the device is busy or failed. -/
  | ledgerWindowRead (ofs : BitVec 22)
  /-- R439: Both slots are judged and the newer valid one is loaded, leading to Rise. -/
  | bimgSelect
  /-- R441: BIMG.CTRL.RESCAN judges both slots again in Boot. -/
  | bimgRescan (w : Word)
  /-- R443: Command 0x01 writes a 32 KiB chunk to an image slot on each device. -/
  | slotWrite
  /-- R444: Command 0x02 checks a slot and commits its tuning at the next boundary. -/
  | tuningReload
  /-- R447: Command 0x03 blows counter fuses up to the running SVN. -/
  | counterAdvance
  /-- R448: Command 0x04 fuses the key hash into a blank bank. -/
  | keyFuse
  /-- R160: Command 0x20 trips a rank-7 calibration save at the next boundary. -/
  | calibrationSave
  /-- R459: Command 0x40 requests Fall, via Save when data is held. -/
  | hostShutdown
  /-- R315: Command 0x41 releases SEQFLT_N and leaves Latched after REST. -/
  | unlatch
  /-- R309: Command 0x42 leaves Service once the Run rise is complete. -/
  | leaveService
  /-- R458: A TOP.CMD write with a wrong KEY or an unknown code is ignored or rejected. -/
  | cmdInvalid (w : Word)
  /-- R462: RP.ABORT sets ABORT_PEND for the running long command. -/
  | abort
  /-- R122: A SAVE.TEST_TRIP write with the key trips a rank-7 test save. -/
  | testTrip (w : Word) (also : BitVec 8)
  /-- R155: PORT.CTRL.EN = 0 takes the link DOWN and the port ineligible, deferred to the image boundary in Save. -/
  | portDisable (p : Fin 64)
  /-- R82: PORT.CTRL.EN = 1 lets the link train. -/
  | portEnable (p : Fin 64)
  /-- R82: PORT.CTRL.RETRAIN takes the port to RECOVER. -/
  | portRetrain (p : Fin 64)
  /-- R52: A STAKE.MARGIN write is clipped to M_MIN..0x0400 and sets MARGIN_CLIP. -/
  | marginRegWrite (w : Word)
  /-- R479: STAKE.CTRL.VIEW_HOLD freezes the view of the STAKE read-only registers. -/
  | viewHoldWrite (w : Word)
  /-- R240: A STAGE.HOST write is clipped to RATE_MAX and R_gov and sets CLIP. -/
  | stageHostWrite (w : Word)
  /-- R456: A read of TOP.STAMP[0] latches the full stamp. -/
  | topStampRead
  /-- R401: A read of word 0 of FIRST_CAUSE or LAST_CAUSE latches the record. -/
  | causeRecordRead (last : Bool)
  /-- R479: A read of LEDG.WALL_LO latches WALL_HI. -/
  | wallLoRead
  /-- R479: A read of FAB.TIME_LO latches TIME_HI. -/
  | timeLoRead
  /-- R479: A read of CQ.DESC[0] snapshots the selected descriptor. -/
  | descRead (ring : Fin 32)
  /-- R479: A read of NRG.STR Q_LO, C_LO or CAND_LO latches the matching _HI register. -/
  | strLoRead (k : Fin 16) (which : Fin 3)
  /-- R6: A register port write to a register without a row of its own acts by its access code. -/
  | registerWrite (a : BitVec 32) (w : Word)
  /-- R465: PMBus CLEAR_FAULTS clears STATUS_CML. -/
  | clearFaults (pecOk : Bool)
  /-- R464: PMBus CAPABILITY returns 0xC0. -/
  | capability
  /-- R464: PMBus STATUS_BYTE returns the low byte of STATUS_WORD. -/
  | statusByte
  /-- R465: PMBus STATUS_WORD returns the live status bits. -/
  | statusWord
  /-- R465: PMBus STATUS_CML returns the latched communication faults. -/
  | statusCml
  /-- R465: PMBus STATUS_MFR_SPECIFIC returns the device-specific status bits. -/
  | statusMfrSpecific
  /-- R464: PMBus READ_TEMPERATURE_1 returns the die temperature. -/
  | readTemperature1
  /-- R464: PMBus PMBUS_REVISION returns 0x33. -/
  | pmbusRevision
  /-- R464: PMBus MFR_ID returns IRNAR. -/
  | mfrId
  /-- R464: PMBus MFR_MODEL returns HZ6432-A. -/
  | mfrModel
  /-- R464: PMBus MFR_REVISION returns 01. -/
  | mfrRevision
  /-- R464: PMBus MFR_SERIAL returns the controller identity. -/
  | mfrSerial
  /-- R464: PMBus MFR_HZ_STATE returns TOP.STATE bits [15:0]. -/
  | mfrHzState
  /-- R464: PMBus MFR_HZ_SAVE returns the save summary. -/
  | mfrHzSave
  /-- R464: PMBus MFR_HZ_STAKE returns the stake summary. -/
  | mfrHzStake
  /-- R464: PMBus MFR_HZ_ENERGY returns the energy summary. -/
  | mfrHzEnergy
  /-- R464: PMBus MFR_HZ_VAULT returns the vault summary. -/
  | mfrHzVault
  /-- R464: PMBus MFR_HZ_FAULT returns the fault summary. -/
  | mfrHzFault
  /-- R464: PMBus MFR_HZ_REG_ADDR sets the register address for MFR_HZ_REG. -/
  | mfrHzRegAddr (pecOk : Bool) (bytes : List Byte)
  /-- R466: PMBus MFR_HZ_REG reads a register as the register port would. -/
  | mfrHzReg
  /-- R464: An unsupported PMBus code or transaction type is not acknowledged and sets CML bit 7. -/
  | pmbusInvalidCommand
  /-- R463: SCL low for 25 ms releases the target bus. -/
  | pmbusSclTimeout
  /-- R468: A POL device is polled and its readings are stored. -/
  | pmbPoll (d : Fin 64) (rdg : Option (Nat × Nat × Nat × Nat))
  /-- R516: A TAP reset returns every pin to its function. -/
  | tapReset
  /-- R516: The JTAG BYPASS instruction. -/
  | bypass
  /-- R516: The JTAG IDCODE instruction reads 0x1643_2FFF. -/
  | idcode
  /-- R516: The JTAG SAMPLE/PRELOAD instruction. -/
  | samplePreload
  /-- R516: The JTAG EXTEST instruction gives the boundary cells the pins, and the freeze path stops reaching FRZ_N. -/
  | extest
  /-- R516: The JTAG CLAMP instruction. -/
  | clamp
  /-- R516: The JTAG HIGHZ instruction. -/
  | highz
  /-- R516: The IEEE 1149.6 EXTEST_PULSE instruction on the AC-coupled lanes. -/
  | extestPulse
  /-- R516: The IEEE 1149.6 EXTEST_TRAIN instruction on the AC-coupled lanes. -/
  | extestTrain
  /-- R498: REFCLK shows edges again: within 10 us the islands resume and CLOCK registers; after a longer absence, the reset into Boot follows once REFCLK has been present for 1 ms. -/
  | refclkReturn
  /-- R324: MR_N is released, and 10 us later the control, port and mover islands leave reset and the controller enters Boot. -/
  | mrNRelease
  /-- R499: An island PLL regains lock, its island clock restarts and CLOCK ceases to be live. -/
  | pllRelock (i : Fin 5)
  /-- R500: The crystal has run for 1 s again, and AON goes back to timing OP_SEC and the wall label from it. -/
  | crystalReturn
  /-- R496: A supply rail of Table 17-11 has been good for 1 ms, and the islands that need it leave reset. -/
  | supplyRailGood (k : Fin 6)
  /-- R380: VAON_B crosses 1.7 V while AON runs from VAON_A, making source 151 (VAON) live or not live. -/
  | vaonBCrossing (up : Bool)
  /-- R400: A fault source stops being live, for example an external double read deasserted or a pair valid on 3 samples; the LIVE bit falls and the class QUIET time starts. -/
  | sourceCeasesLive (src : BitVec 8) (sub : BitVec 16)
  /-- R453: A register-port read ends in error (busy, quiescent island, unmapped or misaligned), returns 0 and records its cause and address. -/
  | registerReadError (a : BitVec 32)
  /-- R354: The Clause 72 start-up on a fabric port completes, and the port enters HELLO. -/
  | fabricTrained (i : Fin 4)
  /-- R354: A fabric port loses block lock for 1 us, returns to DOWN and retrains. -/
  | fabricLockLost (i : Fin 4)
  /-- R354: A fabric training attempt passes 500 ms without reaching UP, and a third such attempt puts the port in FAILED. -/
  | fabricTrainingFail (i : Fin 4)
  /-- R365: An expected PPS_IN edge does not arrive, and after 3 missed or misaligned edges PPS_LOCK clears. -/
  | ppsEdgeMissed
  /-- R336: An edge on HB_IN restarts the heartbeat silence timer and sets HB_OK back to 1. -/
  | hbInEdge
  /-- R336: HB_IN alone, or the partner link alone, is silent for 500 us; HB_OK or PL_UP goes to 0 and the pair fault source is raised, without a loss declaration. -/
  | partnerChannelSilent (hb : Bool)
  /-- R306: A slot loses good after qualifying while its rise is still running, and the slot fails. -/
  | slotGoodLost (n : Fin 64)
  deriving DecidableEq, Repr

end Sys2Proof
end

