-- ==== Sys2Proof/WellFormed.lean ====
section
/-! DEFINITION. Well-formed commands: field values the message formats and sampled words can carry. Operands that are bit vectors or
bounded indices need no check. -/

namespace Sys2Proof

open Machine

/-- Every field of the command lies in its range. -/
def Instr.wf : Instr → Bool
  | .vaonRise _ => true
  | .vaonALoss => true
  | .vaonAReturn => true
  | .vaonBothLost => true
  | .pfiBusGood => true
  | .busGood100ms => true
  | .mainGood10ms => true
  | .pfiBusSag _ => true
  | .backupNotGood => true
  | .holdReq _ => true
  | .acgLoss _ _ => true
  | .rideExit => true
  | .turnBoundary _ => true
  | .shortfallEnd => true
  | .overstakeRun _ => true
  | .reportsMissing _ => true
  | .drainSwitchOut => true
  | .grantExpiry => true
  | .portRecordHourly => true
  | .uncoveredRecord => true
  | .signalDetect _ => true
  | .blockLock _ _ => true
  | .train1 _ _ _ _ _ => true
  | .train2 _ _ => true
  | .trainingTimeout _ => true
  | .failedRetry _ => true
  | .laneLockLost _ _ => true
  | .quiet _ => true
  | .recoverTimeout _ => true
  | .ack _ _ => true
  | .nak _ _ => true
  | .replayTimeout _ => true
  | .ident _ _ m0 => m0.squares ≤ 65536 && m0.cstate < 8 && m0.serial < 2 ^ 32
  | .report _ _ m0 _ => m0.turn < 2 ^ 32 && m0.u ≤ 4096 && m0.cstate < 8 && m0.dirty ≤ 65536 && m0.staged ≤ 65536 && m0.opened < 512
  | .map _ _ _ _ words0 => words0.all (fun w => w.length == 32 && w.all (fun x => x < 4))
  | .data _ _ _ _ _ _ _ data0 _ => data0.length == 4096
  | .confirmAck _ _ _ _ => true
  | .revertAck _ _ _ _ => true
  | .hclError _ _ _ => true
  | .check _ _ _ codes0 => codes0.length == 64
  | .frozen _ _ m0 => m0.serial < 2 ^ 32 && m0.source < 256 && m0.region.length == 64 && m0.map.length ≤ 65536 && m0.map.all (fun x => x < 4)
  | .wack _ _ _ _ _ _ => true
  | .wackTimeout _ _ _ => true
  | .releaseAck _ _ => true
  | .releaseTimeout _ => true
  | .freezeWindowClose => true
  | .waveOpen _ => true
  | .descriptorComplete _ _ _ _ _ _ _ _ => true
  | .class1StripeFill => true
  | .moveLinkTimeout _ => true
  | .class1Cutoff => true
  | .class2Cutoff => true
  | .busWarnCross => true
  | .busFaultCross => true
  | .portManifestPost _ => true
  | .saveManifestPost => true
  | .calSample readings0 => readings0.length ≤ 16 && readings0.all (fun x => match x with | some (a, b) => decide (a < 65536) && decide (b < 65536) | none => true)
  | .calFillEnd => true
  | .sledRemoved _ _ => true
  | .sledPresent _ _ => true
  | .flashIslandUp _ => true
  | .vaultFounding => true
  | .blockMapDone _ => true
  | .logScanDone _ => true
  | .eraseCountWrite => true
  | .indexFlush => true
  | .confirmUnitWrite => true
  | .logStripeFill => true
  | .copyTimeout _ _ => true
  | .backoffEnd _ _ => true
  | .materialise => true
  | .drainPullReady => true
  | .verify => true
  | .drain => true
  | .rebuild => true
  | .vaultExport => true
  | .keyErase => true
  | .format => true
  | .restoreStart => true
  | .retWaitExpiry => true
  | .retDiscard _ => true
  | .retReassign _ _ => true
  | .retLeavePending _ => true
  | .retAcceptLoss _ => true
  | .retDecideAgain _ => true
  | .retConcWrite _ => true
  | .tableStaggerExpiry => true
  | .sampleStrobe volts0 => volts0.length == 16
  | .currentWake _ => true
  | .quietRateEntry _ => true
  | .insertion _ => true
  | .removal _ => true
  | .senseFault _ => true
  | .fullAnchor _ => true
  | .emptyAnchor _ => true
  | .candAccept _ => true
  | .candReject _ => true
  | .learnStart _ => true
  | .learnAbort _ => true
  | .learnTimeout => true
  | .nrgLatch _ => true
  | .estimatorRestore => true
  | .railUpTick _ _ => true
  | .railDownTick => true
  | .slotQualify _ => true
  | .chatterEdge _ => true
  | .slotTimeout _ => true
  | .restExpiry _ => true
  | .vsScan codes0 => codes0.length == 64
  | .slotStuck _ => true
  | .railFault _ => true
  | .railWarn _ => true
  | .seqfltLow => true
  | .seqSnapRequest _ => true
  | .svcRetry _ => true
  | .marginWrite _ _ _ => true
  | .marginAck _ _ => true
  | .warnMaskEnd _ => true
  | .pbPress _ => true
  | .pbHold3s => true
  | .pbHoldForce _ => true
  | .mrN => true
  | .refclkStop => true
  | .refclkAbsent10us => true
  | .pllUnlock _ => true
  | .crystalLoss => true
  | .railNotGood _ => true
  | .keeperHbStop => true
  | .keeperTokenRelease => true
  | .partnerLoss => true
  | .lossSampleEnd _ => true
  | .claimHoldoffEnd => true
  | .tokenClaim _ _ => true
  | .ringSettleEnd => true
  | .alive _ => true
  | .aliveSend => true
  | .frame _ _ f0 => f0.state < 16 && f0.fseq < 2 ^ 32 && f0.epoch < 65536
  | .frameAck _ _ => true
  | .join _ _ => true
  | .yield _ => true
  | .handoverFinalFrame => true
  | .takeReady _ _ => true
  | .takeReadyTimeout => true
  | .kxApprove _ => true
  | .kxOffer _ key0 pub0 sig0 => key0.length == 96 && pub0.length == 96 && sig0.length == 96
  | .kxReply _ key0 pub0 sig0 => key0.length == 96 && pub0.length == 96 && sig0.length == 96
  | .kxKeys _ _ => true
  | .kxWraps _ _ => true
  | .swapDrill => true
  | .drillDwellEnd => true
  | .secondTick => true
  | .fabricHello _ _ _ _ _ => true
  | .helloSend => true
  | .fabricPortSilent _ => true
  | .fabricTrainRetry _ => true
  | .fabricForward _ _ m0 => m0.dst < 4096 && m0.src < 4096 && m0.ttl < 256 && m0.prio < 4
  | .addressDiscover => true
  | .lsa _ _ m0 => m0.addr < 4096 && m0.age < 256 && m0.aseq < 2 ^ 32 && m0.links.length ≤ 4
  | .lsaOriginate => true
  | .lsaExpiry _ => true
  | .routeCompute => true
  | .tsyncTimer => true
  | .tsyncReq _ _ => true
  | .tsyncRsp _ _ _ _ _ _ _ _ => true
  | .ppsEdge => true
  | .roundStart _ => true
  | .tableReport _ _ m0 => m0.src < 4096 && m0.tableId < 4096 && m0.slot < 16 && m0.state < 16 && m0.round < 2 ^ 32 && m0.epoch < 65536 && m0.eSum < 2 ^ 32
  | .coordinate => true
  | .grant _ _ g0 => g0.tableId < 4096 && g0.coord < 16 && g0.retSlot < 16 && g0.round < 2 ^ 32 && g0.live < 65536 && g0.p < 2 ^ 32 && g0.shares.length == 16 && g0.shares.all (fun x => decide (x ≤ 60000))
  | .telemetryRequest _ => true
  | .ledgerReadRequest _ => true
  | .telReq _ _ _ => true
  | .lreadReq _ _ _ _ _ => true
  | .telRsp _ _ _ block0 => block0.length == 64
  | .lreadRsp _ _ _ _ words0 => words0.length ≤ 1024
  | .fabricError _ _ _ _ => true
  | .requestTimeout => true
  | .faultRegistration _ _ => true
  | .pairBroken _ => true
  | .islandTimeout _ => true
  | .resetRelease _ => true
  | .resetEnd _ => true
  | .shadowClose _ => true
  | .classClear _ => true
  | .clrFirst _ => true
  | .unlatchClass _ => true
  | .forceWrite _ _ => true
  | .forcePbWrite _ _ => true
  | .isoClear _ _ => true
  | .epochClose => true
  | .epochCloseDeferred => true
  | .histogramTick => true
  | .ledgerRecordWrite => true
  | .norOpComplete _ _ => true
  | .norProbe _ _ content0 => match content0 with | some cs => cs.all (fun c => decide (c.1 < 2 ^ 25)) | none => true
  | .resilverDone => true
  | .ledgerScanDone => true
  | .wallCommit _ => true
  | .epochNow _ => true
  | .ledgerExport => true
  | .exportRelease => true
  | .exportHoldTimeout => true
  | .evqPop => true
  | .evqRead => true
  | .ledgerWindowRead _ => true
  | .bimgSelect => true
  | .bimgRescan _ => true
  | .slotWrite => true
  | .tuningReload => true
  | .counterAdvance => true
  | .keyFuse => true
  | .calibrationSave => true
  | .hostShutdown => true
  | .unlatch => true
  | .leaveService => true
  | .cmdInvalid _ => true
  | .abort => true
  | .testTrip _ _ => true
  | .portDisable _ => true
  | .portEnable _ => true
  | .portRetrain _ => true
  | .marginRegWrite _ => true
  | .viewHoldWrite _ => true
  | .stageHostWrite _ => true
  | .topStampRead => true
  | .causeRecordRead _ => true
  | .wallLoRead => true
  | .timeLoRead => true
  | .descRead _ => true
  | .strLoRead _ _ => true
  | .registerWrite _ _ => true
  | .clearFaults _ => true
  | .capability => true
  | .statusByte => true
  | .statusWord => true
  | .statusCml => true
  | .statusMfrSpecific => true
  | .readTemperature1 => true
  | .pmbusRevision => true
  | .mfrId => true
  | .mfrModel => true
  | .mfrRevision => true
  | .mfrSerial => true
  | .mfrHzState => true
  | .mfrHzSave => true
  | .mfrHzStake => true
  | .mfrHzEnergy => true
  | .mfrHzVault => true
  | .mfrHzFault => true
  | .mfrHzRegAddr _ _ => true
  | .mfrHzReg => true
  | .pmbusInvalidCommand => true
  | .pmbusSclTimeout => true
  | .pmbPoll _ rdg0 => match rdg0 with | some (a, b, c, e) => decide (a < 65536) && decide (b < 65536) && decide (c < 65536) && decide (e < 65536) | none => true
  | .tapReset => true
  | .bypass => true
  | .idcode => true
  | .samplePreload => true
  | .extest => true
  | .clamp => true
  | .highz => true
  | .extestPulse => true
  | .extestTrain => true
  | .refclkReturn => true
  | .mrNRelease => true
  | .pllRelock _ => true
  | .crystalReturn => true
  | .supplyRailGood _ => true
  | .vaonBCrossing _ => true
  | .sourceCeasesLive _ _ => true
  | .registerReadError _ => true
  | .fabricTrained _ => true
  | .fabricLockLost _ => true
  | .fabricTrainingFail _ => true
  | .ppsEdgeMissed => true
  | .hbInEdge => true
  | .partnerChannelSilent _ => true
  | .slotGoodLost _ => true

end Sys2Proof
end

