-- ==== Sys2Proof/Config.lean ====
section
/-! DEFINITION. What the manual leaves to standards it only names, and the values it does not fix: constants with no body,
about which nothing can be proved but that they are functions. Log entries 1 to 4. -/

namespace Sys2Proof.Config

/-- Free value `n`: where within a turn an event arrives, in ns after the turn boundary (the manual's clock runs
continuously; a command carries no time of its own). Log entry 1. -/
opaque within : Nat → BitVec 20

/-- Free value `n`: 64 random bits of the deterministic random bit generator (R201, R214). Log entry 2. -/
opaque random : Nat → BitVec 64

/-- SHA-384 of a byte list (FIPS 180-4, named by R435 and R349). Log entry 3. -/
opaque sha384 : List Byte → List Byte

/-- Whether a P-384 signature (r then s) verifies under a public key (X then Y) over a message (FIPS 186-5, R435). Log entry 3. -/
opaque ecdsaVerify : List Byte → List Byte → List Byte → Bool

/-- The signature this controller's identity key makes over a message (R349). Log entry 3. -/
opaque ecdsaSign : Nat → List Byte → List Byte

/-- The public half of ephemeral ECDH P-384 key `n` (R349). Log entry 3. -/
opaque ecdhPub : Nat → List Byte

/-- The session key of ephemeral key `n` and a partner's public key (SP 800-56C, R349). Log entry 3. -/
opaque session : Nat → List Byte → BitVec 256

/-- AES-256-GCM under a session key (R349): sealing, and opening, which fails on a changed text. Log entry 3. -/
opaque gcmSeal : BitVec 256 → List Byte → List Byte
opaque gcmOpen : BitVec 256 → List Byte → Option (List Byte)

/-- Port p's 128 bytes of key material number `n` (R201). Log entry 3. -/
opaque keyMaterial : Nat → Nat → BitVec 1024

/-- This controller's device key: the SP 800-108 KDF over its fused secret, the label "HZ-VAULT" and the context VAULT_ID, KEY_EPOCH and
vault nonce (R202). Log entry 3. -/
opaque deviceKey : BitVec 64 → Nat → BitVec 128 → BitVec 256

/-- AES Key Wrap of a port's key material: 136 bytes (R202). Log entry 3. -/
opaque keyWrap : BitVec 256 → BitVec 1024 → BitVec 1088

/-- AES-256-XTS under a 64-byte key pair with a tweak (R172). Log entry 3. -/
opaque xts : BitVec 512 → BitVec 64 → List Byte → List Byte
opaque xtsOpen : BitVec 512 → BitVec 64 → List Byte → List Byte

/-- The LDPC parity a flash island adds over a codeword's user bytes: the number of parity bytes, then the bytes (R169). Log entry 3. -/
opaque ldpc : Nat → List Byte → List Byte

/-- The payload of a block table: factory-bad and grown-bad blocks and erase counts (Table 05-4), whose bytes no rule lays out. Log entry 3. -/
opaque blockTable : List (Nat × Nat × Nat) → List (Nat × Nat × Nat) → List ((Nat × Nat × Nat) × Nat) → List Byte

/-- A unit read for the rebuild of another one cannot be read either: ring, LOC and the number of the free value (R178). Log entry 165. -/
opaque mateUnreadable : Nat → Nat → Nat → Bool

/-- The public identity key fused into the controller (R349), X then Y; no rule gives its value. Log entry 4. -/
opaque identityKey : List Byte

/-- The identity a public key has: the first 8 bytes of its SHA-384 (R349). -/
def identityOf (key : List Byte) : BitVec 64 := BitVec.ofNat 64 (leNat ((sha384 key).take 8))

/-- This controller's identity. -/
def identity : BitVec 64 := identityOf identityKey

/-- SCFG of Table 08-3: a CRC-32C over the image's string and curve fields, whose byte order no rule states. Log entry 9. -/
opaque scfg : Tab Machine.StrCfg 16 → Tab Machine.CurveCfg 8 → BitVec 32

/-- Free value `n`: a 32-bit value an instruction's rule leaves open. Log entry 1. -/
opaque freeWord : Nat → BitVec 32

/-- The row address of a LUN and page row group's first plane in a die's ONFI row format, which the manual leaves to the die
(Table 04-2). Log entry 10. -/
opaque rowAddr : Nat → Nat → Nat → BitVec 24

end Sys2Proof.Config
end

