-- ==== Sys2Proof/Machine/ImageLoad.lean ====
section
/-! DEFINITION. Reading a board image: the file layout (R430-R434), the load rules of R168, R267, R300, R366, R389
and R413, and the checks of Table 14-4 on one stored copy. -/

namespace Sys2Proof.Machine

/-- A reader of packed fields, least significant bit first (R432): the rest of the record as a number. -/
abbrev Unpack (α : Type) := StateM Nat α

/-- The next `w` bits, unsigned. -/
def upU (w : Nat) : Unpack Nat := fun v => (v % 2 ^ w, v / 2 ^ w)

/-- The next `w` bits, two's complement. -/
def upS (w : Nat) : Unpack Int := fun v => (toSigned w v, v / 2 ^ w)

/-- The next `w` bits, unsigned, of a quantity that is computed with as an integer. -/
def upN (w : Nat) : Unpack Int := fun v => (((v % 2 ^ w : Nat) : Int), v / 2 ^ w)

/-- The next bit. -/
def upB : Unpack Bool := fun v => (v % 2 == 1, v / 2)

/-- The next `n` fields of one kind, in index order. -/
def upList {α : Type} : Nat → Unpack α → Unpack (List α)
  | 0, _ => fun v => ([], v)
  | n + 1, f => fun v => let r := f v; let q := upList n f r.2; (r.1 :: q.1, q.2)

/-- The CORE record. -/
def upCore : Unpack CoreCfg := do
  let tD ← upU 15; let tFw ← upU 8; let pFix ← upU 16; let rideThrough ← upB; let acgThr ← upU 4
  let paired ← upB; let pmbTgt ← upU 7; let pmbSpeed ← upU 2
  return { tD, tFw, pFix, rideThrough, acgThr, paired, pmbTgt, pmbSpeed }

def CoreCfg.ok (c : CoreCfg) : Bool :=
  2000 ≤ c.tD && c.tD ≤ 20000 && 20 ≤ c.tFw && c.tFw ≤ 200 && 1 ≤ c.pFix && 1 ≤ c.acgThr && c.acgThr ≤ 8
    && 0x08 ≤ c.pmbTgt && c.pmbTgt ≤ 0x77 && c.pmbSpeed ≤ 2

/-- A PORTS record. -/
def upPort : Unpack PortCfg := do
  let bond ← upB; let frz ← upU 3; let lswap ← upB; let rxInv ← upU 2; let txInv ← upU 2
  return { bond, frz, lswap, rxInv, txInv }

/-- BOND is 0 on odd ports (Table 14-3). -/
def PortCfg.ok (p : Nat) (c : PortCfg) : Bool := !(c.bond && p % 2 == 1)

/-- The structure part of a die recipe (VAULT_S). -/
def upRecipe : Unpack Recipe := do
  let id ← upU 48; let idMask ← upU 48; let planes ← upU 3; let page ← upU 16; let spare ← upU 16
  let cwPage ← upU 3; let cwPar ← upU 16; let rowsBlk ← upU 9; let blkFirst ← upU 20; let blkLast ← upU 20
  let luns ← upU 2; let rate ← upU 11; let feat ← upList 4 (upU 40); let pfx ← upU 8
  return { id, idMask, planes, page, spare, cwPage, cwPar, rowsBlk, blkFirst, blkLast, luns, rate, feat, pfx }

/-- The tuning part of a die recipe (VAULT_T) added to its structure part. -/
def upRecipeT (r : Recipe) : Unpack Recipe := do
  let tProg ← upU 16; let tRead ← upU 16; let tErase ← upU 16; let peRated ← upU 24; let derate ← upU 10
  let rr ← upList 8 (upU 40); let berMax ← upU 16
  return { r with tProg, tRead, tErase, peRated, derate, rr, berMax }

/-- The structure limits of Table 05-2 (R168); the 2-bit LUNS field spells 1 to 4 LUNs as its value plus 1
only for 4 spelled 0 (DESIGN CHOICE, log entry 5: a 2-bit field cannot hold 4, so 0 stands for 4). -/
def Recipe.lunCount (r : Recipe) : Nat := if r.luns = 0 then 4 else r.luns

def Recipe.okS (r : Recipe) : Bool :=
  (r.planes == 1 || r.planes == 2 || r.planes == 4) && 4096 ≤ r.page && r.page ≤ 16384
    && 1 ≤ r.cwPage && r.cwPage ≤ 4
    && (r.planes * r.cwPage == 4 || r.planes * r.cwPage == 8 || r.planes * r.cwPage == 16)
    && 64 ≤ r.cwPar && r.cwPage * (4144 + r.cwPar) ≤ r.page + r.spare
    && 16 ≤ r.rowsBlk && r.rowsBlk ≤ 256 && r.blkFirst ≤ r.blkLast && r.blkLast - r.blkFirst ≤ 524286
    && r.rate ≤ 1200

def Recipe.okT (r : Recipe) : Bool :=
  r.tProg ≤ 1000 && r.tRead ≤ 200 && r.tErase ≤ 20000 && 500 ≤ r.derate && r.derate ≤ 1000 && r.berMax ≤ 8000

/-- The structure part of a string (STR_S). -/
def upStrS : Unpack StrCfg := do
  let triplet ← upU 4; let chem ← upU 1; let cNom ← upU 48; let vZero ← upN 32
  return { triplet, chem, cNom, vZero }

/-- The tuning part of a string (STR_T) added to its structure part. -/
def upStrT (c : StrCfg) : Unpack StrCfg := do
  let vGain ← upS 32; let iGain ← upS 32; let tGain ← upS 32; let vOfs ← upS 32; let iOfs ← upS 32
  let tOfs ← upS 16; let vPres ← upN 32; let vKnee ← upN 32; let vFloat ← upN 32
  let iQ ← upU 16; let iTaper ← upU 16; let cMax ← upU 11; let hMin ← upU 10; let eta ← upU 10; let conf ← upU 10
  let sd ← upU 17; let tLo ← upS 16; let tHi ← upS 16; let isoSlot ← upU 7; let loadSlot ← upU 7; let curve ← upU 3
  return { c with vGain, iGain, tGain, vOfs, iOfs, tOfs, vPres, vKnee, vFloat, iQ, iTaper, cMax, hMin, eta, conf,
                  sd, tLo, tHi, isoSlot, loadSlot, curve }

/-- A string is configured when C_NOM is not 0 (Table 14-2, STR_S). -/
def StrCfg.configured (c : StrCfg) : Bool := c.cNom != 0

/-- C_NOM is at least 1,000 mC where the string is configured (Table 08-1). -/
def StrCfg.okS (c : StrCfg) : Bool := !c.configured || 1000 ≤ c.cNom

/-- Slot number or 0x7F none. -/
def slotRef (n : Nat) : Bool := n < 64 || n == 0x7F

/-- The tuning ranges of Table 08-1 and the voltage order of R267, for a configured string. -/
def StrCfg.okT (c : StrCfg) : Bool :=
  !c.configured ||
    (decide (c.vPres < c.vZero) && decide (c.vZero < c.vKnee) && decide (c.vKnee < c.vFloat) && 1 ≤ c.iQ && 1 ≤ c.iTaper
      && 1000 ≤ c.cMax && c.cMax ≤ 1200 && 500 ≤ c.hMin && c.hMin ≤ 1000 && 500 ≤ c.eta && c.eta ≤ 1000
      && 500 ≤ c.conf && c.conf ≤ 1000 && c.sd ≤ 100000 && slotRef c.isoSlot && slotRef c.loadSlot)

/-- A CURVE record; its temperatures are two's complement (DEDUCED, log entry 185). -/
def upCurve : Unpack CurveCfg := do
  let tp ← upList 4 (upS 16); let ocv ← upList 4 (upList 17 (upN 32)); let avl ← upList 4 (upList 17 (upN 32))
  let rInt ← upList 4 (upU 16); let kt ← upList 4 (upU 10)
  return { tp, ocv, avl, rInt, kt }

/-- Each element is above the one before it. -/
def strictlyRising : List Int → Bool
  | a :: b :: l => decide (a < b) && strictlyRising (b :: l)
  | _ => true

/-- OCV[j] rises strictly with i, and the temperature points of every curve set rise strictly (R267). -/
def CurveCfg.ok (c : CurveCfg) : Bool :=
  strictlyRising c.tp && c.ocv.all strictlyRising && c.kt.all (· ≤ 1000)

/-- Table 09-2. -/
def upSeq : Unpack SeqCfg := do
  let rest ← upU 14; let nRetry ← upU 3; let stagger ← upU 10; let stuckT ← upU 14; let forceT ← upU 5; let busSlot ← upU 4
  return { rest, nRetry, stagger, stuckT, forceT, busSlot }

def SeqCfg.ok (c : SeqCfg) : Bool :=
  10 ≤ c.rest && c.rest ≤ 10000 && c.stagger ≤ 1000 && 10 ≤ c.stuckT && c.stuckT ≤ 10000 && 4 ≤ c.forceT && c.forceT ≤ 16

/-- Table 09-1. -/
def upSlot : Unpack SlotCfg := do
  let cls ← upU 2; let role ← upU 3; let run ← upB; let save ← upB; let shared ← upB; let actLo ← upB
  let dep ← upList 4 (upU 7); let delay ← upU 14; let ddelay ← upU 10; let tQual ← upU 10; let tOut ← upU 14
  let vOff ← upU 20; let scale ← upU 20; let nom ← upU 16; let warnLo ← upU 16; let warnHi ← upU 16
  let fltLo ← upU 16; let fltHi ← upU 16; let ports ← upU 64; let sled ← upU 2; let pmb ← upU 7
  return { cls, role, run, save, shared, actLo, dep := dep, delay, ddelay, tQual, tOut, vOff, scale,
           nom, warnLo, warnHi, fltLo, fltHi, ports, sled, pmb }

/-- The slots a slot waits for: its DEP fields that are not 0x7F. -/
def SlotCfg.deps (c : SlotCfg) : List Nat := c.dep.filter (· < 64)

/-- The field ranges of Table 09-1; those of an unused slot are not judged beyond CLASS
(DESIGN CHOICE, log entry 6). -/
def SlotCfg.ok (c : SlotCfg) : Bool :=
  c.cls ≤ 2 && (c.cls == 0 ||
    (c.role ≤ 6 && c.dep.all slotRef && c.delay ≤ 10000 && c.ddelay ≤ 1000 && 1 ≤ c.tQual && c.tQual ≤ 1000
      && 1 ≤ c.tOut && c.tOut ≤ 10000 && 1000 ≤ c.scale && slotRef c.pmb))

/-- Slots whose dependencies are all in `done`, added to it: one step of a topological order. -/
def depStep (t : Tab SlotCfg 64) (done : List Nat) : List Nat :=
  idxs 64 (fun n => done.contains n || (rd t n).deps.all (fun d => done.contains d))

/-- The rail-table rules of R300; the answer is the index of the first slot that breaks one. -/
def railsBad (q : SeqCfg) (t : Tab SlotCfg 64) : Option Nat :=
  let bus := rd t q.busSlot
  let done := iter 64 (depStep t) []
  (List.range 64).find? (fun n =>
    let c := rd t n
    (c.cls == 2 && 16 ≤ n)
    || (n == q.busSlot && !(bus.cls == 2 && bus.role == 4))
    || (c.cls == 2 && !(c.fltLo < c.warnLo && c.warnLo < c.nom && c.nom < c.warnHi && c.warnHi < c.fltHi))
    || (c.cls != 0 && (c.nom ≤ c.vOff || c.tOut * 10 ≤ c.tQual || !done.contains n
      || (1 ≤ c.role && c.role ≤ 4 && !c.save)
      || (c.save && c.deps.any (fun d => !(rd t d).save))
      || (c.role == 6 && (c.run || c.save))
      || c.deps.any (fun d => (rd t d).role == 6)
      || c.deps.any (fun d => (rd t d).role == 3 && (c.role != 3 || (rd t d).sled != c.sled)))))

/-- PMBUS record. -/
def upPmb : Unpack PmbCfg := do
  let addr ← upU 7; let page ← upU 8; let direct ← upB; let exp ← upS 5; let m ← upS 16; let b ← upS 16; let r ← upS 8
  return { addr, page, direct, exp, m, b, r }

def PmbCfg.ok (c : PmbCfg) : Bool := c.addr == 0 || (0x08 ≤ c.addr && c.addr ≤ 0x77)

/-- A source entry, Table 12-2. -/
def upSrc : Unpack SrcCfg := do
  let en ← upB; let cls ← upU 2; let act ← upU 6; let block ← upU 4; let shadow ← upU 5
  let inv ← upB; let qual ← upU 8; let brokenAs ← upB
  return { en, cls, act, block, shadow, inv, qual, brokenAs }

/-- Whether Table 12-1 gives a source a port set. -/
def srcHasPorts (i : Nat) : Bool := i < 72 || (136 ≤ i && i < 144)

/-- The own block of an island source (R389). -/
def ownBlock (i : Nat) : Option Nat :=
  if 136 ≤ i && i < 144 then some (i - 136) else if i == 144 then some 8
  else if 145 ≤ i && i < 149 then some (9 + (i - 145)) else if i == 149 then some 13 else none

/-- Ranges of Table 12-2 with R386, and the rules of R389 for one source. -/
def SrcCfg.ok (sh : Tab ShadowCfg 16) (i : Nat) (c : SrcCfg) : Bool :=
  (c.shadow < 16 || c.shadow == 0x1F)
  && (if 160 ≤ i && i < 208 then 1 ≤ c.qual else !c.inv && c.qual == 0 && !c.brokenAs)
  && !(bitOf c.act 2 && !srcHasPorts i)
  && !(bitOf c.act 3 && c.shadow == 0x1F)
  && (match ownBlock i with
      | some b => !(bitOf c.act 3) || c.block == b || c.block == 14 || c.block == 15
      | none => true)
  && !(bitOf c.act 3 && c.shadow < 16 && bitOf (rd sh c.shadow).mask i)

/-- A QUAL of 0 in an entry of a source that is no XF[n] acts as 1 (R386). -/
def SrcCfg.act386 (i : Nat) (c : SrcCfg) : SrcCfg := if 160 ≤ i && i < 208 then c else { c with qual := 1 }

def upClass : Unpack ClassCfg := do
  let quiet ← upU 10; let limit ← upU 6; let latchOff ← upB
  return { quiet, limit, latchOff }

def ClassCfg.ok (c : ClassCfg) : Bool := 1 ≤ c.quiet && c.quiet ≤ 600 && 1 ≤ c.limit

def upShadow : Unpack ShadowCfg := do
  let mask ← upU 256; let settle ← upU 14
  return { mask, settle }

def ShadowCfg.ok (c : ShadowCfg) : Bool := 1 ≤ c.settle && c.settle ≤ 10000

def upCh : Unpack ChCfg := do
  let src ← upU 8; let edge ← upList 15 (upS 32)
  return { src, edge }

def upLedg : Unpack LedgCfg := do
  let epochLen ← upU 17; let ch ← upList 6 upCh; let chips ← upList 256 (upU 8)
  return { epochLen, ch := tlist 6 ch, chips := tlist 256 chips }

/-- The sources of Table 13-4. -/
def chSrcOk (x : Nat) : Bool :=
  x == 0 || (0x10 ≤ x && x < 0x40) || (0x50 ≤ x && x ≤ 0x58) || (0x80 ≤ x && x < 0xC0)

/-- The code kinds of Table 13-5. -/
def codeKinds : List Nat :=
  [0x01, 0x02, 0x10, 0x11, 0x12, 0x20, 0x21, 0x30, 0x31, 0x32, 0x33, 0x34, 0x40, 0x41, 0x42, 0x43, 0x44, 0x45, 0x46,
   0x47, 0x48, 0x49, 0x4A, 0x4B, 0x50, 0x51, 0x52, 0x60, 0x61, 0x70, 0x71]

/-- R413, with the CHIPS rule that follows Table 14-2. -/
def LedgCfg.ok (c : LedgCfg) : Bool :=
  600 ≤ c.epochLen && c.epochLen ≤ 86400
  && c.ch.toList.all (fun h => chSrcOk h.src && (h.src == 0 || strictlyRising h.edge))
  && (List.range 256).all (fun k => if codeKinds.contains k then 1 ≤ rd c.chips k else rd c.chips k == 0)

def upPolicy : Unpack PolicyCfg := do
  let mMin ← upU 16; let eB ← upU 16; let eRes ← upU 24; let rateMax ← upU 12; let retWait ← upU 10; let conc ← upU 3
  let w ← upList 64 (upU 8); let rl ← upList 64 (upU 8); let fp ← upList 16 (upU 7)
  return { mMin, eB, eRes, rateMax, retWait, conc, w := tlist 64 w, retList := tlist 64 rl, fixPwr := tlist 16 fp }

def PolicyCfg.ok (c : PolicyCfg) : Bool :=
  0x0140 ≤ c.mMin && c.mMin ≤ 0x0400 && 1 ≤ c.eB && 250 ≤ c.rateMax && c.rateMax ≤ 4000
  && 1 ≤ c.retWait && c.retWait ≤ 600 && 1 ≤ c.conc && c.conc ≤ 4
  && c.retList.toList.all (fun x => x < 64 || x == 0xFF) && c.fixPwr.toList.all slotRef

def upFab : Unpack FabCfg := do
  let nodeAddr ← upU 12; let tpri ← upU 8; let cost ← upList 4 (upU 4); let fec ← upU 4; let ppsIn ← upB
  return { nodeAddr, tpri, cost := tlist 4 cost, fec, ppsIn }

def FabCfg.ok (c : FabCfg) : Bool := c.nodeAddr ≤ 0xFFE && c.cost.toList.all (1 ≤ ·)

def upTable : Unpack TableCfg := do
  let tableId ← upU 12; let m ← upU 5; let strings ← upU 16; let stagT ← upU 10; let retTurnMax ← upU 12
  return { tableId, m, strings, stagT, retTurnMax }

def upMember : Unpack MemberCfg := do
  let addr ← upU 12; let addr2 ← upU 12; let w ← upU 8; let min ← upU 16; let order ← upU 4
  return { addr, addr2, w, min, order }

def MemberCfg.ok (c : MemberCfg) : Bool :=
  c.addr ≤ 0xFFE && c.addr2 ≤ 0xFFE && 1 ≤ c.w && c.min ≤ 60000 && c.order ≤ 15

/-- The rules of R366 over a whole image; `own` is the node's own address, none while it is not known. -/
def TableCfg.ok (b : BImg) (own : Option Nat) (t : TableCfg) : Bool :=
  t.tableId == 0 ||
    (2 ≤ t.m && t.m ≤ 16 && t.members.length == t.m && 1 ≤ t.stagT && t.stagT ≤ 600
      && 1 ≤ t.retTurnMax && t.retTurnMax ≤ 3600
      && (t.members.map (·.min)).foldl (· + ·) 0 ≤ 60000
      && (List.range t.m).all (fun o => t.members.any (fun x => x.order == o))
      && (match own with | some a => t.members.any (fun x => x.addr == a || x.addr2 == a) | none => true)
      && (List.range 16).all (fun s => bitOf t.strings s == (rd b.strs s).configured))

/-- A directory entry (R431). -/
structure DirEnt where
  type : Nat
  flags : Nat
  ofs : Nat
  slen : Nat
  scrc : Nat
  deriving DecidableEq, Repr, Inhabited

/-- Bytes `o` to `o + n - 1` of an image. -/
def slice (img : List Byte) (o n : Nat) : List Byte := (img.drop o).take n

/-- The little-endian number at bytes `o` to `o + n - 1`. -/
def num (img : List Byte) (o n : Nat) : Nat := leNat (slice img o n)

def dirEnt (img : List Byte) (i : Nat) : DirEnt :=
  let o := 256 + 16 * i
  { type := num img o 2, flags := num img (o + 2) 2, ofs := num img (o + 4) 4, slen := num img (o + 8) 4, scrc := num img (o + 12) 4 }

/-- Record sizes in bits of each section of Table 14-2, in record order; `n` is its record count. -/
def recBits (type n : Nat) : List Nat :=
  match type with
  | 0x0001 => [54]
  | 0x0002 => List.replicate 64 9
  | 0x0003 => 3 :: List.replicate (n - 1) (48 + 48 + 3 + 16 + 16 + 3 + 16 + 9 + 20 + 20 + 2 + 11 + 160 + 8)
  | 0x0004 => List.replicate n (16 + 16 + 16 + 24 + 10 + 320 + 16)
  | 0x0005 => List.replicate 16 (4 + 1 + 48 + 32)
  | 0x0006 => List.replicate 16 (32 * 5 + 16 + 32 * 3 + 16 + 16 + 11 + 10 + 10 + 10 + 17 + 16 + 16 + 7 + 7 + 3)
      ++ List.replicate 8 (64 + 2 * 4 * 17 * 32 + 64 + 40)
  | 0x0007 => 50 :: List.replicate 64 (2 + 3 + 4 + 28 + 14 + 10 + 10 + 14 + 20 + 20 + 16 * 5 + 64 + 2 + 7)
  | 0x0008 => List.replicate 64 (7 + 8 + 1 + 5 + 16 + 16 + 8)
  | 0x0009 => 16 :: (List.replicate 256 28 ++ List.replicate 4 17 ++ List.replicate 16 270)
  | 0x000A => [17 + 6 * (8 + 480) + 2048]
  | 0x000B => [16 + 16 + 24 + 12 + 10 + 3 + 512 + 512 + 112]
  | 0x000C => [12 + 8 + 16 + 4 + 1]
  | 0x000D => (12 + 5 + 16 + 10 + 12) :: List.replicate (n - 1) (12 + 12 + 8 + 16 + 4)
  | _ => []

/-- The record count Table 14-2 allows a section; VAULT_T's n and the table's M are compared once the records are read. -/
def countOk (type n : Nat) : Bool :=
  match type with
  | 0x0001 => n == 1 | 0x0002 => n == 64 | 0x0003 => 2 ≤ n && n ≤ 9 | 0x0004 => 1 ≤ n && n ≤ 8 | 0x0005 => n == 16
  | 0x0006 => n == 24 | 0x0007 => n == 65 | 0x0008 => n == 64 | 0x0009 => n == 277 | 0x000A => n == 1 | 0x000B => n == 1
  | 0x000C => n == 1 | 0x000D => 1 ≤ n && n ≤ 32 | _ => false

/-- A record's size in bytes: padded to a multiple of 64 bits (R432). -/
def recBytes (bits : Nat) : Nat := 8 * ceilDiv bits 64

/-- The structure sections of Table 14-2. -/
def isStructSec (t : Nat) : Bool := [0x0001, 0x0002, 0x0003, 0x0005, 0x0007, 0x0008, 0x000C, 0x000D].contains t

/-- A section type of Table 14-2. -/
def knownSec (t : Nat) : Bool := 1 ≤ t && t ≤ 0x000D

/-- Step 9 for one directory entry: placement, CRC and flags, and for a section of Table 14-2 its count word and length (R431, R433). -/
def secOk (img : List Byte) (len nsec : Nat) (es : List DirEnt) (e : DirEnt) : Bool :=
  let body := slice img e.ofs e.slen
  let cnt := num body 0 2
  let overlap := (es.filter (fun f => e.ofs < f.ofs + f.slen && f.ofs < e.ofs + e.slen)).length
  e.ofs % 8 == 0 && e.slen % 8 == 0 && 256 + 16 * nsec ≤ e.ofs && e.ofs + e.slen + 128 ≤ len
  && overlap ≤ 1 && (crc32c body).toNat == e.scrc
  && (if knownSec e.type then
        e.flags == 0 && num body 2 2 == 1 && num body 4 4 == 0 && countOk e.type cnt
        && e.slen == 8 + ((recBits e.type cnt).map recBytes).foldl (· + ·) 0
      else e.flags == 1)

/-- The records of a section's body, as numbers (R432). -/
def secRecs (body : List Byte) (sizes : List Nat) : List Nat :=
  (sizes.foldl (fun (a : Nat × List Nat) b => (a.1 + recBytes b, a.2 ++ [num body a.1 (recBytes b)])) (8, [])).2

/-- Run a field reader over a record. -/
def unpack {α : Type} (f : Unpack α) (r : Nat) : α := (f r).1

/-- The bits a record leaves after its last field are 0 (R432). -/
def padOk (r bits : Nat) : Bool := r < 2 ^ bits

/-- The whole image from the records of its sections (R433): `recs t` are the records of section type `t`. -/
def buildImage (hdr : ImgHdr) (recs : Nat → List Nat) (tableCrc : Word) : BImg :=
  let r1 := fun t => (recs t).headD 0
  let strT := recs 0x0006
  let flt := recs 0x0009
  let vs := (recs 0x0003).drop 1
  let tbl := unpack upTable (r1 0x000D)
  { hdr
    core := unpack upCore (r1 0x0001)
    ports := tgen 64 (fun p => unpack upPort ((recs 0x0002).getD p 0))
    minSleds := r1 0x0003 % 8
    recipes := (List.range vs.length).map (fun i =>
      unpack (upRecipeT (unpack upRecipe (vs.getD i 0))) ((recs 0x0004).getD i 0))
    strs := tgen 16 (fun i => unpack (upStrT (unpack upStrS ((recs 0x0005).getD i 0))) (strT.getD i 0))
    curves := tgen 8 (fun i => unpack upCurve (strT.getD (16 + i) 0))
    seq := unpack upSeq (r1 0x0007)
    slots := tgen 64 (fun i => unpack upSlot ((recs 0x0007).getD (1 + i) 0))
    pmb := tgen 64 (fun i => unpack upPmb ((recs 0x0008).getD i 0))
    tjWarn := toSigned 16 (r1 0x0009)
    srcs := tgen 256 (fun i => (unpack upSrc (flt.getD (1 + i) 0)))
    classes := tgen 4 (fun i => unpack upClass (flt.getD (257 + i) 0))
    shadows := tgen 16 (fun i => unpack upShadow (flt.getD (261 + i) 0))
    ledg := unpack upLedg (r1 0x000A)
    pol := unpack upPolicy (r1 0x000B)
    fab := unpack upFab (r1 0x000C)
    table := { tbl with cfgCrc := tableCrc, members := ((recs 0x000D).drop 1).map (unpack upMember) } }

/-- The first of a list of (section, record, holds) checks that fails. -/
def firstBad (l : List (Nat × Nat × Bool)) : Option (Nat × Nat) :=
  (l.find? (fun x => !x.2.2)).map (fun x => (x.1, x.2.1))

/-- Step 10 of Table 14-4: field ranges (SVN's among them; log entry 182) and the load rules of the subject chapters, in section order. The
node's own address of R366 is NODE_ADDR, or the discovered one where that is 0 (R357; log entry 183). -/
def loadRules (b : BImg) (own : Option Nat) : Option (Nat × Nat) :=
  let trip := fun s => ((idxs 16 fun u => (rd b.strs u).configured && (rd b.strs u).triplet == (rd b.strs s).triplet)).length
  firstBad
    ([(0, 0, decide (b.hdr.svn ≤ 64)), (0x0001, 0, b.core.ok)]
      ++ (List.range 64).map (fun p => (0x0002, p, (rd b.ports p).ok p))
      ++ [(0x0003, 0, 2 ≤ b.minSleds && b.minSleds ≤ 4)]
      ++ b.recipes.zipIdx.map (fun x => (0x0003, x.2 + 1, x.1.okS))
      ++ b.recipes.zipIdx.map (fun x => (0x0004, x.2, x.1.okT))
      ++ (List.range 16).map (fun s => (0x0005, s, (rd b.strs s).okS && (!(rd b.strs s).configured || trip s == 1)))
      ++ (List.range 16).map (fun s => (0x0006, s, (rd b.strs s).okT))
      ++ (List.range 8).map (fun i => (0x0006, 16 + i, (rd b.curves i).ok))
      ++ [(0x0007, 0, b.seq.ok)]
      ++ (List.range 64).map (fun n => (0x0007, n + 1, (rd b.slots n).ok && railsBad b.seq b.slots != some n))
      ++ (List.range 64).map (fun d => (0x0008, d, (rd b.pmb d).ok))
      ++ (List.range 256).map (fun i => (0x0009, 1 + i, (rd b.srcs i).ok b.shadows i))
      ++ (List.range 4).map (fun c => (0x0009, 257 + c, (rd b.classes c).ok))
      ++ (List.range 16).map (fun k => (0x0009, 261 + k, (rd b.shadows k).ok))
      ++ [(0x000A, 0, b.ledg.ok), (0x000B, 0, b.pol.ok), (0x000C, 0, b.fab.ok), (0x000D, 0, b.table.ok b (if b.fab.nodeAddr ≠ 0 then some b.fab.nodeAddr else own))]
      ++ b.table.members.zipIdx.map (fun x => (0x000D, x.2 + 1, x.1.ok)))

/-- What judging one copy found: RESULT of Table 14-4 (0 for a pass), BIMG.FAULT's section and record, the header. -/
structure Verdict where
  result : Nat := 0
  fType : Nat := 0
  fRec : Nat := 0
  hdr : ImgHdr := {}
  img : BImg := {}
  deriving DecidableEq, Repr, Inhabited

/-- The fuses and straps a judgement uses (R435-R438); `own` is the node address where it is known (R366). -/
structure JudgeEnv where
  keyHash : Option (List Byte) := none
  counter : Nat := 0
  awaySeat : Bool := false
  ownAddr : Option Nat := none
  deriving DecidableEq, Repr, Inhabited

/-- The CRC-32C over the bodies of the entries that `f` selects, in directory order. -/
def bodiesCrc (img : List Byte) (es : List DirEnt) (f : Nat → Bool) : Nat :=
  (crc32c ((es.filter (fun e => f e.type)).foldl (fun a e => a ++ slice img e.ofs e.slen) [])).toNat

/-- Table 14-4, steps 2 to 10, on the bytes of one copy (the slot's 1 MiB). -/
def judgeBytes (env : JudgeEnv) (raw : List Byte) : Verdict :=
  let len := num raw 12 4
  let nsec := num raw 6 2
  let img := raw.take len
  let hdr : ImgHdr := { len, imgSeq := num raw 16 4, svn := num raw 20 1, seat := num raw 21 1, buildId := num raw 24 8,
                        structCrc := num raw 32 4, tuneCrc := num raw 36 4 }
  let es := (List.range nsec).map (dirEnt img)
  let v : Verdict := { hdr }
  if num raw 0 4 ≠ 0x42494D47 then { result := 3 }
  else if num raw 4 2 ≠ 1 || num raw 8 4 ≠ 0x4A5A6432 || len % 8 ≠ 0 || len > 1048576 || len < 256 + 16 * nsec + 128
      || nsec < 1 || nsec > 32 then { v with result := 4 }
  else match env.keyHash with
  | none => { v with result := 12 }
  | some kh =>
    if Config.sha384 (slice img 64 96) ≠ kh then { v with result := 5 }
    else if !Config.ecdsaVerify (slice img 64 96) (img.take (len - 128)) (slice img (len - 128) 96)
        || (slice img (len - 32) 32).any (· ≠ 0) then { v with result := 6 }
    else if hdr.svn < env.counter then { v with result := 7 }
    else
      let recs := fun t => match es.find? (fun e => e.type == t) with
        | some e => let body := slice img e.ofs e.slen; secRecs body (recBits t (num body 0 2))
        | none => []
      let tcrc := match es.find? (fun e => e.type == 0x000D) with
        | some e => crc32c (slice img e.ofs e.slen) | none => 0
      let b := buildImage hdr recs tcrc
      if hdr.seat ≠ (if b.core.paired then env.awaySeat.toNat else 0xFF) then { v with result := 8 }
      else match es.find? (fun e => !secOk img len nsec es e) with
      | some e => { v with result := 9, fType := e.type }
      | none =>
        match (List.range 13).find? (fun t => (es.filter (fun e => e.type == t + 1)).length ≠ 1) with
        | some t => { v with result := 9, fType := t + 1 }
        | none =>
          if b.recipes.length ≠ (recs 0x0004).length then { v with result := 9, fType := 0x0004 }
          else if b.table.members.length ≠ (if b.table.tableId = 0 then 0 else b.table.m) then { v with result := 9, fType := 0x000D }
          else if bodiesCrc img es isStructSec ≠ hdr.structCrc
            || bodiesCrc img es (fun t => knownSec t && !isStructSec t) ≠ hdr.tuneCrc then { v with result := 9 }
          else
            let padded := (List.range 13).findSome? (fun t =>
              let rs := recs (t + 1); ((rs.zip (recBits (t + 1) rs.length)).findIdx? (fun x => !padOk x.1 x.2)).map (fun i => (t + 1, i)))
            match padded, loadRules b env.ownAddr with
            | some (t, r), _ => { v with result := 10, fType := t, fRec := r }
            | none, some (t, r) => { v with result := 10, fType := t, fRec := r }
            | none, none =>
              { v with img := { b with srcs := tgen 256 (fun i => (rd b.srcs i).act386 i) } }

end Sys2Proof.Machine
end

