-- ==== Sys2Proof/Machine/Memory.lean ====
section
/-! DEFINITION. Addressed byte memories (the NOR devices, the staging windows): sparse lists of cells over a fill byte, in
one canonical form: addresses strictly rising, no cell equal to the fill byte. -/

namespace Sys2Proof.Machine.Mem

/-- Addresses strictly rise and no cell holds the fill byte. -/
def wf (d : Byte) : List Host.Cell → Bool
  | [] => true
  | [c] => c.2 != d
  | c :: e :: m => c.2 != d && decide (c.1 < e.1) && wf d (e :: m)

/-- The byte at an address; an unlisted address reads as the fill byte. -/
def read (d : Byte) : List Host.Cell → Nat → Byte
  | [], _ => d
  | c :: m, a => if c.1 = a then c.2 else read d m a

/-- Put a byte that is not the fill byte. -/
def put (a : Nat) (b : Byte) : List Host.Cell → List Host.Cell
  | [] => [(a, b)]
  | c :: m => if a < c.1 then (a, b) :: c :: m else if a = c.1 then (a, b) :: m else c :: put a b m

/-- Remove an address. -/
def del (a : Nat) : List Host.Cell → List Host.Cell
  | [] => []
  | c :: m => if c.1 = a then m else c :: del a m

/-- Write one byte, keeping the canonical form. -/
def write (d : Byte) (m : List Host.Cell) (a : Nat) (b : Byte) : List Host.Cell :=
  if b = d then del a m else put a b m

/-- Write consecutive bytes. -/
def writeN (d : Byte) (m : List Host.Cell) (a : Nat) : List Byte → List Host.Cell
  | [] => m
  | b :: bs => writeN d (write d m a b) (a + 1) bs

/-- Read consecutive bytes. -/
def readN (d : Byte) (m : List Host.Cell) (a n : Nat) : List Byte := (List.range n).map (fun i => read d m (a + i))

/-- Return addresses `a` to `a + n - 1` to the fill byte. -/
def erase (m : List Host.Cell) (a n : Nat) : List Host.Cell := m.filter (fun c => !(a ≤ c.1 && c.1 < a + n))

/-- Whether addresses `a` to `a + n - 1` all read as the fill byte, in a memory in canonical form. -/
def blank (m : List Host.Cell) (a n : Nat) : Bool := m.all (fun c => !(a ≤ c.1 && c.1 < a + n))

/-- The little-endian word at a byte address. -/
def word (d : Byte) (m : List Host.Cell) (a : Nat) : Word := BitVec.ofNat 32 (leNat (readN d m a 4))

/-- Write a little-endian word at a byte address. -/
def setWord (d : Byte) (m : List Host.Cell) (a : Nat) (w : Word) : List Host.Cell := writeN d m a (leBytes 4 w.toNat)

end Sys2Proof.Machine.Mem
end

