-- ==== Sys2Proof/Machine/State.lean ====
section
/-! DEFINITION. The state of the controller: everything the manual gives it, as plain data, grouped by the island that
holds it, and the state after reset. Every default is the value the register map or the chapter states for reset; where
none is stated the value is a DESIGN CHOICE named in log entry 7. -/

namespace Sys2Proof.Machine

/-- Reasons to stop with a fault. None: the manual gives every command an effect, and register-port cycles that end in
error (R453) are effects on the state. Nothing raises it; safe. -/
inductive Fault : Type
  deriving DecidableEq, Repr

/-- Reasons to refuse. -/
inductive Refusal where
  /-- Raised by a dispatch arm of a command that has no meaning yet; safe. -/
  | notModelled (mnemonic : String)
  deriving DecidableEq, Repr

/-- The model's own clock data. `l` is the free-running local count L in ns (R9, R361), `turnStart` its value at the last
turn boundary, `turn` the number of turn boundaries since the control island's reset, `free` the number of free values
taken so far (the model's own field, log entry 1). -/
structure Clk where
  l : Nat := 0
  turnStart : Nat := 0
  turn : Nat := 0
  free : Nat := 0
  deriving DecidableEq, Repr, Inhabited

/-- Levels the outside drives, as last reported by a command (01, 09, 17). -/
structure Pins where
  vaonA : Bool := false
  vaonB : Bool := false
  pfiGood : Bool := false
  busGoodRun : Bool := false     -- the 100 ms bus-good timer of R20 runs
  mainGoodRun : Bool := false    -- the 10 ms main-good timer of R37 runs
  backupGood : Bool := false     -- the hold-up bus slot lies within its fault window
  awaySeat : Bool := false       -- SEAT strap (R329)
  mrLow : Bool := false
  mrWait : Bool := false         -- MR_N low whose reset waits for the save-wide seal (R324)
  pbDown : Bool := false
  seqfltLow : Bool := false      -- SEQFLT_N pulled low by another sequencer
  sledPrs : Tab Bool 4 := tall 4 false
  acgLoss : Tab Bool 8 := tall 8 false   -- AC-good doubles judged lost as pairs (R120)
  acgLow : Tab Bool 8 := tall 8 false    -- ACG_n_T low: the doubles the freeze path counts as lost (R120)
  rails : Tab Bool 6 := tall 6 false     -- supply rails of Table 17-11 good
  refclkRun : Bool := true
  refclkLong : Bool := false     -- REFCLK absent for 10 us: a reset into Boot follows its return (R498)
  pllLock : Tab Bool 5 := tall 5 true    -- island PLLs in lock: flash A-D, fabric (R499)
  crystalRun : Bool := true
  dieTemp : Int := 0             -- die temperature in 0.1 degC (R512)
  vaonMvA : Int := 0
  vaonMvB : Int := 0
  mainOk : Bool := false         -- main has been good for 10 ms (R37)
  tap : TapIr := .reset          -- JTAG instruction in force (R516)
  tapDr : BitVec 32 := 0         -- data register it selects: IDCODE, or the 1-bit bypass register
  captured : List Drive := []    -- what the last SAMPLE/PRELOAD captured, in the order of allPins (R516)
  cells : Option Nat := none     -- the free values the boundary cells' update latches hold, once there are any
  tokenLow : Bool := false       -- the partner pulls TOKEN_N low
  frzExt : BitVec 8 := 0         -- FRZ_N nets that read low from outside
  deriving DecidableEq, Repr, Inhabited

/-- A key-hash bank (R438). -/
inductive KeyBank where
  | blank | valid (hash : List Byte) | torn
  deriving DecidableEq, Repr, Inhabited

/-- One serial NOR device: what its SFDP tables answer and its bytes, sparse over 0xFF (R405, R406). -/
structure NorDev where
  sfdp : Sfdp := {}
  mem : List Host.Cell := []
  deriving DecidableEq, Repr, Inhabited

/-- A string's record in AON (Table 08-4 and the STR registers). -/
structure Str where
  q : Int := 0
  r : Int := 0
  c : Nat := 0
  cand : Nat := 0
  learned : Bool := false
  hasCand : Bool := false
  conf : Bool := false
  unres : Bool := false
  lastFull : Nat := 0
  lastLrn : Nat := 0
  efc : Nat := 0
  thru : Nat := 0
  dis : Nat := 0                 -- mC discharged since EFC and THRU were last restored
  learns : Nat := 0
  overdraws : Nat := 0
  vwins : Nat := 0
  hotS : Nat := 0
  hotUs : Nat := 0
  lastOp : Nat := 0              -- OP_SEC of the last sample (R285)
  present : Bool := false
  inSum : Bool := false
  fast : Bool := false
  knee : Bool := false
  kneeNew : Bool := false        -- the latest sample began it
  sk : Nat := 0
  sr : Nat := 0
  full : Bool := false           -- a full anchor has been reached and its condition still holds (R274)
  sense : Bool := false
  runOpen : Bool := false        -- learning run (R277)
  runOk : Bool := false
  posSum : Nat := 0              -- positive interval charges since it opened, nC
  v : Int := 0
  i : Int := 0
  t : Int := 0
  eCnt : Nat := 0
  eVolt : Nat := 0
  eStr : Nat := 0
  sV : Nat := 0
  gapS : Nat := 0
  worn : Bool := false
  deriving DecidableEq, Repr, Inhabited

/-- Governor and drill figures, counters and latches kept in AON SRAM (Table 16-17 and the chapters). -/
structure Aon where
  opSec : Nat := 0
  cycles : Nat := 0
  lost : Bool := false           -- AON restarted since its last loss and R31 has not yet set the counters
  onB : Bool := false            -- AON draws from VAON_B
  swoCount : Nat := 0            -- switch-overs (R30)
  swoB : Nat := 0                -- those to VAON_B not yet counted in the ledger: the control island was off or in reset
  swoA : Nat := 0                -- those to VAON_A likewise
  tripCnt : Tab Nat 9 := tall 9 0    -- trips per rank while the control island was unpowered (R521)
  recov : Tab (List Nat) 4 := tall 4 []   -- recovery buckets of 600 s, newest first (R391)
  wallMs : Nat := 0
  wallValid : Bool := false
  steps : Nat := 0
  back : Nat := 0
  stayOff : Bool := false
  rcOsc : Bool := false          -- AON times from the RC oscillator (R500)
  epoch : Nat := 0               -- token epoch (R334)
  drillAge : Nat := 0
  fabAddr : Nat := 0             -- discovered node address (R357)
  en : BitVec 64 := 0            -- EN_nn pad latches: the level each holds (R301)
  rel : BitVec 64 := 0xFFFFFFFFFFFFFFFF  -- latches released or at high impedance (R302, R518)
  shared : BitVec 64 := 0        -- latches of the SHARED slots of the image last accepted (R302)
  armed518 : Bool := false       -- an image has been accepted since AON power-up (R518)
  presses : Nat := 0             -- SEQ.PB
  forces : Nat := 0
  pbLast : Nat := 0
  mrResets : Nat := 0            -- SEQ.MR
  mrDefer : Nat := 0
  strs : Tab Str 16 := tall 16 {}
  bank : Nat := 0                -- AON bank selector (R295)
  banks : Tab (List Byte) 2 := tall 2 []   -- the two AON state banks: string records as a restore copied them (R295)
  learnStr : Nat := 0            -- learning discharge (R280, R282)
  learnSt : Nat := 0
  learnRes : Nat := 0
  learnAt : Nat := 0             -- OP_SEC at which state 1 or 2 was entered
  credit : Int := 0               -- the governor's credit in bytes (R239)
  emBkt : List Nat := []         -- emergency ms by 600 s bucket, newest first, at most 144 (R241)
  emFresh : Bool := true         -- AON lost its state: credit restarts (R239)
  emEntries : Nat := 0           -- STAGE.EMERG.ENTRIES (Table 16-17)
  learnHold : Bool := false      -- aborted by a trip: ISO stays off until Ready or Ride
  deriving DecidableEq, Repr, Inhabited

/-- Top-level state and the transitions waiting for a turn boundary (R20, R25, R26). -/
structure Top where
  state : TopState := .off
  prev : TopState := .wake
  turnsIn : Nat := 0             -- turns in the current state
  opSec : Nat := 0               -- OP_SEC at the last turn boundary (TOP.OP_SEC)
  swoMain : Bool := false        -- SWO_MAIN_N asserted
  swoBkp : Bool := false         -- SWO_BKP_N asserted
  frz : BitVec 8 := 0            -- FRZ_N[7:0] asserted lines (R12, R110)
  frzTrip : Bool := false        -- a trip without stakes holds FRZ_N (R110, R521)
  wantLatch : Bool := false      -- class latch or retries exhausted (priority 2)
  wantSeqflt : Bool := false     -- SEQFLT_N low, or force-off hold (priority 3)
  wantForce : Bool := false
  wantShut : Bool := false       -- host shutdown (priority 4)
  wantUnlatch : Bool := false    -- host unlatch accepted
  wantLeave : Bool := false      -- Leave-Service accepted
  wantService : Bool := false    -- PB_N held 3 s in Rise
  wantRide : Bool := false       -- AC-good loss count reached
  wantReady : Bool := false      -- Ride left
  mrDeferred : Bool := false     -- MR_N deferred in Save (R324)
  fallProfile : Bool := false    -- true: Hold profile; false: Run profile
  fallLatch : Bool := false      -- a class latch or sequencer latch caused this Fall
  stampLatch : List Word := []   -- TOP.STAMP (R456)
  deriving DecidableEq, Repr, Inhabited

/-- The long command in TOP.CMD (R458-R462). STATE codes are those of TOP.CMD_STAT. -/
structure LongCmd where
  code : Nat := 0
  state : Nat := 0
  abortLate : Bool := false
  abortPend : Bool := false
  aborted : Bool := false        -- a calibration save's measurement was abandoned by an abort (R156)
  elapsed : Nat := 0
  deriving DecidableEq, Repr, Inhabited

/-- Readings of one POL device (R468, R469). -/
structure Pol where
  vout : Int := 0
  iout : Int := 0
  temp : Int := 0
  status : Nat := 0
  age : Nat := 0xFFFF
  misses : Nat := 0
  failed : Bool := false
  deriving DecidableEq, Repr, Inhabited

/-- A transaction of the PMBus controller port (R467): the entry of the device list it serves, with that device's address and page; its command and what it
writes, none for a read; the PEC it carries, a read's coming from the device; the retries left, and the slot whose margining it belongs to,
none for a poll or a calibration reading. -/
structure PmbTx where
  dev : Nat
  addr : Nat := 0
  page : Nat := 0xFF
  cmd : Nat
  data : Option Nat := none
  pec : Option Byte := none
  left : Nat := 2
  slot : Option Nat := none
  deriving DecidableEq, Repr, Inhabited

/-- Register port, PMBus target and PMBus controller (15). -/
structure Rp where
  data : Word := 0               -- data of the last read cycle, or of the last PMBus read
  err : Bool := false            -- RP_ERR of the last cycle
  errAddr : Word := 0
  cntPort : Nat := 0
  cntPmb : Nat := 0
  scratch : Word := 0
  cml : Byte := 0
  block : List Byte := []        -- bytes of the last PMBus read
  pec : Byte := 0                -- the PEC appended to them (R463)
  regAddr : Nat := 0             -- MFR_HZ_REG_ADDR
  pol : Tab Pol 64 := tall 64 {}
  pageOf : Tab Nat 128 := tall 128 0xFF   -- page last written, by device address
  tx : List PmbTx := []          -- transactions not yet ended (R467), newest last
  pos : Nat := 0                 -- where the polling pass stands in the device list (R468)
  deriving DecidableEq, Repr, Inhabited

/-- A class's state (R390): `quietSince` is the local count since which no live source of the class has been seen. -/
structure ClassSt where
  active : Bool := false
  latched : Bool := false
  deriving DecidableEq, Repr, Inhabited

/-- A shadow set: whether open, and the mask and settle time it opened with (R388, R398). -/
structure SetSt where
  isOpen : Bool := false
  mask : Nat := 0
  settle : Nat := 0
  ended : Bool := false          -- its reset has ended; SETTLE runs
  deriving DecidableEq, Repr, Inhabited

/-- A resettable block (Table 12-5): in reset, released but not ended, and the shadow set its reset opened. -/
structure BlockSt where
  held : Bool := false
  running : Bool := false
  set : Nat := 0x1F
  deriving DecidableEq, Repr, Inhabited

/-- The fault collector (12). Bitmaps are by source number. -/
structure Flt where
  subs : List SubSrc := []       -- live sub-sources, as the judged pairs read
  behind : List SubSrc := []     -- of sources whose pair reads invalid, the conditions behind it (R384)
  cause : BitVec 256 := 0
  pb : BitVec 256 := 0
  acgPb : BitVec 8 := 0          -- AC-good doubles that are pair-broken (R385)
  xfCnt : Tab Nat 48 := tall 48 0        -- asserted samples of the external doubles that are not live yet (R386)
  force : BitVec 256 := 0
  forcePb : BitVec 256 := 0
  cls : Tab ClassSt 4 := tall 4 {}
  sets : Tab SetSt 16 := tall 16 {}
  blocks : Tab BlockSt 16 := tall 16 {}
  first : CauseRec := {}
  last : CauseRec := {}
  firstLatch : List Word := []
  lastLatch : List Word := []
  reg : Tab Nat 256 := tall 256 0
  conseq : Tab Nat 256 := tall 256 0
  conseqAll : Nat := 0
  resets : Nat := 0
  iso : BitVec 64 := 0
  latchPend : Bool := false
  resetPend : List (Nat × Nat) := []     -- block resets deferred to the save-wide seal: block, shadow set (Table 04-8)
  deriving DecidableEq, Repr, Inhabited

/-- A code's figures in a bank (R416). -/
structure CodeCnt where
  code : Nat
  count : Nat := 0
  supp : Nat := 0
  deriving DecidableEq, Repr, Inhabited

/-- A bank of occurrence counts; `chips` are the chips each kind's buckets have received (R416). -/
structure Bank where
  codes : List CodeCnt := []
  chips : Tab Nat 256 := tall 256 8
  deriving DecidableEq, Repr, Inhabited

/-- A channel's figures in the running epoch (R415); no extreme while no value has been taken. -/
structure ChAcc where
  bins : List Nat := List.replicate 16 0
  mn : Option (Int × Nat) := none
  mx : Option (Int × Nat) := none
  deriving DecidableEq, Repr, Inhabited

/-- The running epoch (R414). -/
structure EpochSt where
  start : Stamp := {}
  wall : Nat := 0
  steps : Nat := 0
  turns : Nat := 0
  ch : Tab ChAcc 6 := tall 6 {}
  deriving DecidableEq, Repr, Inhabited

/-- A NOR device as the writer sees it; `lines` are the data lines it is read on (R405), `failed` that it has failed and is probed (R425). -/
structure NorSt where
  ok : Bool := false
  failed : Bool := false
  lines : Nat := 1
  jedec : Nat := 0
  size : Nat := 0
  ops : Nat := 0
  readback : Nat := 0
  deriving DecidableEq, Repr, Inhabited

/-- An interval of port records of one type (R422): per port its two figures, its start, turns and figure A. -/
structure PortRecSt where
  run : Bool := false
  start : Stamp := {}
  turns : Nat := 0
  a : Int := 0
  mx : Tab Nat 64 := tall 64 0
  n : Tab Nat 64 := tall 64 0
  deriving DecidableEq, Repr, Inhabited

/-- The ledger (13), control-island part. -/
structure Ledg where
  dev : Tab NorSt 2 := tall 2 {}
  resilver : Option Nat := none
  rsCount : Nat := 0             -- records the running resilver copies (R425)
  scanDone : Bool := false
  epochs : Bool := false
  rseq : Nat := 0
  heads : Tab Head 6 := tall 6 {}
  ep : EpochSt := {}
  epStart : Nat := 0
  live : Bank := {}
  accepted : Bool := false       -- an image was accepted since the control island's reset (R416)
  sealing : Option Bank := none
  deferred : Option Nat := none  -- EFLAGS of a deferred close (R417)
  closeDue : Option Nat := none  -- EFLAGS of early closes that wait for the turn boundary (R414, R417)
  next : Option LedgCfg := none  -- a reloaded ledger section that waits for its epoch's close (R413)
  evq : List Occ := []
  evqLatch : List Word := []
  dropped : Nat := 0
  queue : List RecJob := []
  bg : List BgJob := []
  cur : Option RecWork := none
  bgCur : Option BgJob := none
  suspended : Bool := false      -- the erase in progress is suspended (R423)
  lostPrev : Bool := false       -- the next epoch record carries LOST_PREV (R426)
  wallLo : Word := 0             -- staged by LEDG.WALL_LO (R410)
  wallHiLatch : Word := 0
  view : Bool := false
  codeSel : Nat := 0
  hold : Bool := false
  lost : BitVec 6 := 0
  closed : Bool := false         -- an epoch has closed since the control island's reset
  epLost : Bool := false         -- the last epoch record was lost (R426)
  pr1 : PortRecSt := {}
  pr3 : PortRecSt := {}
  peerRseq : Nat := 0            -- next RSEQ of the former holder (R424)
  tko : Bool := false            -- the token was taken over since the last save report (R421)
  exporting : Bool := false      -- ledger export waits for the queue (R429)
  deriving DecidableEq, Repr, Inhabited

/-- BIMG.SLOT[x] and SLOT_SEQ[x]. -/
structure SlotVerdict where
  result : Nat := 0
  copy0 : Bool := false
  copy1 : Bool := false
  svn : Nat := 0
  imgSeq : Nat := 0
  deriving DecidableEq, Repr, Inhabited

/-- The board image in force and the image commands (14). -/
structure Bimg where
  img : BImg := {}
  running : Bool := false
  runSlot : Nat := 0
  slots : Tab SlotVerdict 2 := tall 2 {}
  fault : Word := 0
  arg : Word := 0
  cmd : Nat := 0
  state : Nat := 0
  result : Nat := 0
  keyh : List Word := List.replicate 12 0
  bank : Nat := 0                -- the key-hash bank a running key fuse blows (R448)
  wait : Nat := 0                -- turns until the checks of a running reload have ended (R444)
  stg : List Host.Cell := []     -- BIMG.STG, 32 KiB of bytes, sparse over 0
  reload : Option (Nat × BImg) := none   -- a checked reload waiting for its commit boundary
  deriving DecidableEq, Repr, Inhabited

/-- A rail slot (09); `st` is the STATE code of SEQ.SLOT[n].STAT. Times are in 0.1 ms on the rise clock or the down clock. -/
structure Slot where
  st : Nat := 0
  pg : Bool := false
  win : Nat := 0                 -- bits: below WARN_LO, above WARN_HI, below FLT_LO, above FLT_HI
  good : Bool := false
  goodAt : Option Nat := none    -- up-tick time from which it has been good without a break
  goodOnce : Bool := false       -- good at least once since its enable or adoption
  edge : Bool := false           -- chatter edge since the last up tick
  rise : Nat := 0                -- 0 no rise, 1 Run rise, 2 Restore rise, 3 Service rise, 4 + x rise of sled x
  started : Bool := false        -- enabled by the rise it belongs to
  tD : Nat := 0
  tS : Nat := 0
  tQ : Option Nat := none
  tF : Nat := 0
  offAt : Option Nat := none     -- when a down sequence deasserted its enable
  belowRun : Nat := 0
  belowOff : Bool := false
  stuck : Bool := false
  vs : Nat := 0
  chatter : Nat := 0
  chatA : Nat := 0               -- chatter edges in this attempt
  fault : Bool := false          -- rail fault condition (R319)
  warn : Bool := false
  savedDown : Bool := false      -- taken down by the Save profile
  svcDown : Bool := false        -- fallen under R317
  warnLo : Nat := 0              -- levels in force (R326)
  warnHi : Nat := 0
  dir : Nat := 0
  target : Nat := 0
  mclip : Bool := false
  ack : Bool := false
  mask : Bool := false           -- warning source masked (R326, R327)
  cancel : Bool := false         -- OPERATION 0x80 sent, not yet acknowledged (R327)
  tries : Nat := 0               -- cancel attempts left
  ctx : Option PmbTx := none     -- the OPERATION write of the cancel, sent again where it is not acknowledged (R327)
  deriving DecidableEq, Repr, Inhabited

/-- What a down sequence is for, which decides what follows its end (R313-R318, R321). -/
inductive DownKind where
  | saveProfile | holdProfile | fallRun
  | attempt | attemptLatch | redo
  | restore | restoreLatch
  | service
  | sled (x : Nat) | sledRetry (x : Nat) | sledDead (x : Nat) | sledDrain (x : Nat)
  deriving DecidableEq, Repr, Inhabited

/-- A running down sequence over a set of slots (R311). -/
structure Down where
  kind : DownKind
  set : BitVec 64
  deriving DecidableEq, Repr, Inhabited

/-- The rail sequencer (09), control-island part. -/
structure Seq where
  slots : Tab Slot 64 := tall 64 {}
  up : Nat := 0                  -- rise clock, 0.1 ms
  dn : Nat := 0                  -- down clock, 0.1 ms
  lastKa : Option Nat := none
  phase : Nat := 0
  profile : Nat := 0
  attempt : Nat := 0
  retry : Bool := false          -- the attempt is a retry that has not started yet
  rising : Bool := false         -- the up algorithm runs for rise 1, 2 or 3
  runDone : Bool := false        -- the Run rise has completed (R309)
  downs : List Down := []
  resting : Option DownKind := none   -- the down sequence whose REST runs
  restTries : Nat := 0           -- Restore rise retries (R316)
  sledTries : Tab Nat 4 := tall 4 0
  sledDead : Tab Bool 4 := tall 4 false   -- retries exhausted (R318)
  sledRest : Tab Bool 4 := tall 4 false   -- resting before a retry
  fallDone : Bool := false       -- the down sequence of Fall has ended
  restDone : Bool := false
  drv : Bool := false            -- this controller drives SEQFLT_N low
  svcRetry : Bool := false       -- SEQ.CTRL.SVC_RETRY pending
  pbUsed : Bool := false         -- the hold in progress has acted
  fails : Nat := 0
  ext : Nat := 0
  lastCause : Nat := 0
  lastSlot : Nat := 0xFF
  snaps : Nat := 0
  snap : List Byte := []         -- SEQ.SNAP, empty before the first snapshot
  scanAt : Nat := 0              -- local count of the latest scan
  deriving DecidableEq, Repr, Inhabited

/-- A string's sampling state in the control island. -/
structure StrC where
  seen : Bool := false           -- sampled since the control island's reset
  lastUs : Nat := 0
  iPrev : Int := 0
  v8 : List Int := []            -- last 8 voltages, newest first
  oc8 : List Int := []           -- last 8 compensated voltages, newest first
  presUs : Option Nat := none    -- since when every sample was at least V_PRES
  absRun : Nat := 0
  badRun : Nat := 0
  fltUs : Option Nat := none     -- start of the sense fault
  fullUs : Option Nat := none    -- since when the full condition has held
  fullDone : Bool := false
  emptyRun : Nat := 0
  emptyDone : Bool := false
  quietRun : Nat := 0
  phase : Nat := 0
  quietIv : Bool := false        -- the running interval began at quiet rate
  woke : Bool := false           -- the comparator fired in it
  deriving DecidableEq, Repr, Inhabited

/-- The hold-up energy estimator (08), control-island part. -/
structure Nrg where
  c : Tab StrC 16 := tall 16 {}
  strobe : Nat := 0
  eSum : Nat := 0
  pot : Nat := 0
  ePot : Nat := 0
  num : Nat := 1
  den : Nat := 1
  rstArg : Word := 0
  rstCrc : Word := 0
  rstResult : Nat := 0
  restored : BitVec 16 := 0
  restore : Option (BitVec 16) := none   -- a checked commit waiting for its boundary (R295)
  snap : List Word := []
  stg : List Host.Cell := []     -- NRG.STG bytes, sparse over 0
  qHi : Tab Word 16 := tall 16 0
  cHi : Tab Word 16 := tall 16 0
  candHi : Tab Word 16 := tall 16 0
  learnAbort : Bool := false     -- R282: an abort waits for its boundary
  candAct : List (Nat × Bool) := []      -- host candidate actions of this turn: string, accept (R279, Table 08-5 step 6)
  learnGo : Bool := false        -- the anchor that ends state 1 or 2 has occurred (Table 08-2)
  deriving DecidableEq, Repr, Inhabited

/-- The link of a cache port (03). `st` is the training state of Table 03-3 (0 DOWN to 4 UP); `rcv` and `failed` say that
LSTAT reports RECOVER or FAILED meanwhile. -/
structure Link where
  en : Bool := true
  st : Nat := 0
  rcv : Bool := false
  failed : Bool := false
  fails : Nat := 0               -- consecutive failed training attempts (R85)
  width : Nat := 0
  lanes : Nat := 0               -- lanes in use, bit i lane i
  coef : List (Nat × Nat × Nat) := []   -- coefficient requests applied: lane, coefficients, sequence echoed (R83)
  reqs : Tab Nat 4 := tall 4 0   -- requests applied in this training, by lane (R83)
  exp : Option (BitVec 64) := none   -- ADAPTER_ID that RECOVER must find again (R116)
  upOnce : Bool := false         -- in UP since Boot
  quiet : Bool := false          -- last departure from UP was by QUIET (R382)
  idRead : Bool := false
  id : BitVec 64 := 0
  squares : Nat := 0
  bondCap : Bool := false
  intact : Bool := false
  srGood : Bool := false
  cstate : Nat := 0
  serial : Nat := 0
  recovers : Nat := 0
  lP : Nat := 0
  lNom : Nat := 0
  err : Word := 0
  cntBlk : Nat := 0
  cntCrc : Nat := 0
  frzRcvd : Bool := false
  frzSrc : Nat := 0
  frzResp : Nat := 0
  frzStamp : Stamp := {}
  frzSet : Option (Nat × Nat × Bool) := none   -- FREEZE ordered set sent: SAVE_SERIAL, group, TEST (R105)
  region : List Word := []
  reverted : Nat := 0
  cntAcc : Nat := 0
  cntRej : Nat := 0
  chan : Chan HclOut := {}
  proto : Nat := 0               -- protocol errors this turn (Table 03-9)
  bytes : List (Nat × Nat) := [] -- replayed and total bytes of the last 64 turns, newest first (R77)
  curRep : Nat := 0
  curTot : Nat := 0
  deriving DecidableEq, Repr, Inhabited

/-- A channel ring (04, 05). `slots` are the ring's slots in posting order, a slot keeping its completed descriptor until it is
reused; `fails` counts failed programs of this save (R136). -/
structure Ring where
  slots : List (Nat × Desc) := []
  tail : Nat := 0
  isOpen : Bool := false
  failed : Bool := false
  err : Tab Nat 8 := tall 8 0    -- completions by result code
  maxCorr : Nat := 0
  retries : Nat := 0
  save : Nat := 0xFFFFFFFF
  log : Nat := 0xFFFFFFFF
  cat : Nat := 0xFFFFFFFF
  dsel : Nat := 0
  desc : List Word := []         -- CQ.DESC snapshot (R479)
  fails : Nat := 0
  deriving DecidableEq, Repr, Inhabited

/-- A die as its initialisation left it (R167): its recipe, the feature writes applied after RESET, and the NV-DDR3 interface selected. -/
structure DieSt where
  recipe : Option Nat := none
  feats : List Nat := []
  ddr3 : Bool := false
  deriving DecidableEq, Repr, Inhabited

/-- A sled slot of the vault: what the controller knows of its sled, and the sled itself. -/
structure Sled where
  cls : Nat := 0
  cand : Bool := false           -- member candidate before the founding (R187)
  pwr : Bool := false            -- flash island powered: its sled's slots have qualified (Table 01-3)
  up : Bool := false             -- its dies are initialised and its channels in use
  drainPend : Bool := false
  switched : Bool := false
  pull : Bool := false
  short : Bool := false
  chOk : Nat := 0
  recipe : Nat := 0
  phy : List (List DieSt) := []  -- what the dies were initialised with, per channel and target (R167)
  trained : Bool := false        -- PHY training values of a tenure are held (R164)
  reread : Bool := false         -- kept powered through Boot: read again at the first turn of Rise (R18)
  erases : List (BlkRef × Nat) := []   -- erase counts as they stand; the block table has those last written (R185)
  cap : Nat := 0
  resv : Nat := 0
  need : Nat := 0
  mapDone : Bool := false
  scanDone : Bool := false
  lostAt : Bool := false         -- lost in the running save (R137)
  dev : SledDev := {}
  deriving DecidableEq, Repr, Inhabited

/-- A unit a job reads: where it lies, and its tag. -/
structure LiveUnit where
  ring : Nat
  loc : Nat
  tag : UTag
  deriving DecidableEq, Repr, Inhabited

/-- A unit rewritten by a relocation: whether in the log, its new sequence number, and what it was. -/
structure RMove where
  log : Bool
  seq : Nat
  old : LiveUnit
  deriving DecidableEq, Repr, Inhabited

/-- An index entry of a unit rewritten, with the place it had. -/
structure REnt where
  serial : Nat
  old : Nat                      -- SEQ of the unit it replaces
  ent : IdxEnt
  deriving DecidableEq, Repr, Inhabited

/-- Relocation in progress (R209, R235, R236): the live units still to move, the one being read, the units made and not yet in a
completed stripe, the entries of those moved; then the images still to be rewritten and the one being rewritten. -/
structure Reloc where
  on : Bool := false
  units : List LiveUnit := []
  reading : Option LiveUnit := none
  made : List RMove := []
  ents : List REnt := []
  images : List Manifest := []
  image : Option Manifest := none
  left : List IdxEnt := []       -- entries of the new chain not yet in an index unit
  first : Nat := 0
  iring : Nat := 0
  iloc : Nat := 0xFFFFFFFF
  icount : Nat := 0
  idxBusy : Bool := false
  sealing : Bool := false        -- the manifest of `image` is posted
  mat : Bool := false            -- a materialisation (R236)
  blks : List BlkRef := []       -- log blocks erased afterwards; `ch` is the ring (R235)
  missed : List LiveUnit := []   -- units that could not be read
  result : Nat := 0
  deriving DecidableEq, Repr, Inhabited

/-- The vault (05). -/
structure Vault where
  sleds : Tab Sled 4 := tall 4 {}
  rings : Tab Ring 32 := tall 32 {}
  founded : Bool := false
  id : BitVec 64 := 0
  epoch : Nat := 0
  keyEpoch : Nat := 0
  keysOk : Bool := false
  mat : Nat := 0                 -- key material in force, by the number of the free value it was drawn as (R201)
  nonce : BitVec 128 := 0
  degraded : Bool := false
  rebuildAdv : Bool := false
  jobArg : Tab Word 4 := tall 4 0
  job : Nat := 0
  jobState : Nat := 0
  jobResult : Nat := 0
  prog : Nat := 0
  total : Nat := 0
  rjob : Nat := 0                -- drain (2) or rebuild (3) in progress, else 0
  bg : Bool := false             -- it runs without a long command (R208)
  rsusp : Bool := false          -- its data movement is suspended (Table 04-6)
  rpull : Bool := false          -- its relocation is done and the sled's slots go down
  jobSled : Nat := 0
  work : List LiveUnit := []     -- units still to read by a verify or an export
  reading : Option LiveUnit := none
  fmt : List (Nat × Nat) := []   -- a format's next block ordinal by ring
  fmtEnd : Bool := false         -- the sled is being adopted
  keyStep : Nat := 0             -- a key erase: 3 key exchange, 1 the new block is being written, 2 committed, 4 its job over, the log being erased
  catErase : List BlkRef := []   -- catalog blocks whose units are being copied forward; `ch` is the ring (R198)
  eraseQ : List BlkRef := []     -- blocks to erase once their ring has room; `ch` is the ring
  reloc : Reloc := {}
  keyNew : Option KeyBlock := none   -- a key block being written, not committed (R216)
  dead : List (Nat × Nat) := []  -- units released by a relocation: SERIAL, SEQ (R209)
  sysLeft : Nat := 0             -- system-area writes of the running group not complete
  sysGen : Nat := 0              -- that group's number
  relUsed : Nat := 0             -- bytes a relocation has posted this turn (R209)
  run : Nat := 0                 -- verify, export, key erase or format in progress, else 0
  rprog : Nat := 0               -- PROG and TOTAL of the drain or rebuild
  rtotal : Nat := 0
  verUnc : Nat := 0
  verRec : Nat := 0
  verCrc : Nat := 0
  verMaxc : Nat := 0
  xlist : List (Nat × Nat × Bool × Bool) := []   -- square, generation, REBUILT, CRC_BAD
  xwin : List (List Chunk) := []
  stripes : List Stripe := []
  ready : List UnitJob := []
  cats : List CatJob := []
  nextCat : Nat := 0
  nextSeq : Nat := 1             -- next vault sequence number (R150)
  nextStripe : Nat := 0
  nextLogStripe : Nat := 0
  geom : Nat := 0                -- geometry of new stripes, set at the turn boundary (R177)
  ecAt : Nat := 0                -- OP_SEC of the last erase-count write (R185)
  ecFall : Bool := false         -- they were written in this Fall
  epochPend : Bool := false      -- MEMBER_EPOCH advances at the boundary after the save-wide seal (R137)
  drainAccepted : Option Nat := none   -- sled entering drain-pending at the next boundary (R68)
  deriving DecidableEq, Repr, Inhabited

/-- A pre-staging copy (R223 to R225). `ph`: 0 reading, 1 in a stripe, 2 durable, 3 confirm in flight. -/
structure Copy where
  sq : Nat
  turn : Nat
  tag : Nat
  gen : Option (Nat × Nat) := none     -- GEN and STATE of the first DATA
  chunks : List (Nat × Chunk) := []
  ph : Nat := 0
  stripe : Nat := 0
  lseq : Nat := 0
  ring : Nat := 0
  loc : Nat := 0xFFFFFFFF
  deriving DecidableEq, Repr, Inhabited

/-- A staged-map entry (R226); `at_` is the number of the map request that is the first after its CONFIRM_ACK. -/
structure Staged where
  sq : Nat
  gen : Nat
  lseq : Nat
  ring : Nat
  loc : Nat
  at_ : Nat
  turn : Nat
  deriving DecidableEq, Repr, Inhabited

/-- A square in backoff (R222). -/
structure Backoff where
  sq : Nat
  ival : Nat
  till : Nat
  deriving DecidableEq, Repr, Inhabited

/-- Pre-staging of a port. `map` holds the latest map words by word index: request number and 32 states. -/
structure StgP where
  copies : List Copy := []
  staged : List Staged := []
  backoff : List Backoff := []
  map : List (Nat × Nat × List Nat) := []
  asked : List (Nat × Nat × Nat) := []   -- outstanding MAP_REQ: tag, first word, count
  reqNo : Nat := 0
  word : Nat := 0                -- next map word to request
  words : Nat := 0               -- map words requested this turn, at most 256 (R339)
  cursor : Nat := 0
  lastAck : Nat := 0             -- request number current at the latest CONFIRM_ACK
  confirms : List (Nat × List (Nat × Nat)) := []   -- CONFIRMs in flight: TURN, entries
  reverts : List (Nat × Bool) := []      -- REVERTs awaiting their REVERT_ACK, oldest first: TURN_F, ALL
  doubt : Bool := false
  orphan : Bool := false
  deriving DecidableEq, Repr, Inhabited

/-- Pre-staging and the wear governor (06), control-island part. -/
structure Stage where
  ports : Tab StgP 64 := tall 64 {}
  scan : Bool := false
  scanned : Bool := false        -- EVT.SCAN_DONE has been set for the present set of healthy sleds
  susp : Bool := false
  g : Nat := 0
  grant : Nat := 0
  used : Nat := 0                -- bytes programmed this turn
  emergOn : Bool := false
  rGov : Nat := 0
  hostRate : Nat := 0xFFFF
  hostAvg : Nat := 0xFFFF
  clip : Bool := false
  nextLseq : Nat := 0
  hwm : Nat := 0
  progB : Nat := 0
  emergB : Nat := 0
  pend : List (ConfEnt × Nat) := []      -- confirm entries not yet in a completed confirm unit, and their turn
  posted : List (Nat × List (ConfEnt × Nat)) := []   -- confirm units posted: LSEQ, entries with their turns
  lseqSet : Bool := false        -- the next LSEQ rests on a unit found in the log, or on a frame (R234)
  mats : Nat := 0
  tagNo : Nat := 0
  deriving DecidableEq, Repr, Inhabited

/-- A square being read from an adapter. -/
structure SqRead where
  sq : Nat
  tag : Nat
  gen : Nat := 0
  cls : Nat := 0
  chunks : List (Nat × Chunk) := []
  deriving DecidableEq, Repr, Inhabited

/-- A port in a save (04). `toMove` are the squares still to read, in order; `reads` those being read: square, chunks, class. -/
structure SvPort where
  img : Bool := false            -- gets an image (R126)
  pst : Nat := 0
  unconf : Bool := false
  late : Bool := false
  incomplete : Bool := false
  staged : List Staged := []     -- the port's staged map as it stood at t_trip (R127)
  skip : Nat := 0                -- leading to-move squares a failed holder had programmed (R151)
  adapter : BitVec 64 := 0       -- ADAPTER_ID and squares of the adapter the image is of (R138)
  squares : Nat := 0
  cFix : Option Nat := none      -- C_SQ that a resumed save takes from the frame (R151)
  disPend : Bool := false        -- PORT.CTRL.EN = 0 waits for the image boundary (R155)
  isoPend : Bool := false        -- so does an isolation (Table 04-8)
  moved : Nat := 0
  moved1 : Nat := 0              -- class 1 squares among them
  cSq : Nat := 0
  frozen : Option FrozenMsg := none
  set : List Nat := []           -- the to-move set, ascending
  c1 : List Nat := []            -- class 1 squares still to read
  c2 : List Nat := []
  reads : List SqRead := []
  pendSq : List (Nat × Nat) := []        -- squares whose unit is not complete: square, class
  done : List Nat := []          -- squares whose units and stripe parity are programmed
  ended : Bool := false          -- the move has ended (R139)
  waitUp : Bool := false         -- link not in UP: move waits under R138
  waitAt : Nat := 0              -- local count from which the 5 ms of R138 run
  deriving DecidableEq, Repr, Inhabited

/-- A save (04). `tripL` is the local count at t_trip; `w0` the wave reference in us after it. -/
structure Save where
  phase : Nat := 0
  test : Bool := false
  cal : Bool := false
  promoted : Bool := false
  resumed : Bool := false
  retripped : Bool := false
  deadlineMiss : Bool := false
  emerg : Bool := false
  sledLost : Bool := false
  calOk : Bool := false
  sealFail : Bool := false
  serial : Nat := 0
  primary : Nat := 0
  src : BitVec 8 := 0
  late : BitVec 8 := 0
  edges : Nat := 0
  tTrip : Stamp := {}
  tDone : Stamp := {}
  tripL : Nat := 0
  w0 : Option Nat := none
  settle : Bool := false         -- waits for the settle wait of R151
  tC1 : Nat := 0
  tEnd : Nat := 0
  progFail : Nat := 0
  reread : Nat := 0
  pMeas : Nat := 0
  samples : Nat := 0
  calBad : Bool := false         -- a listed device missed a read, or the measurement was abandoned
  ports : Tab SvPort 64 := tall 64 {}
  geom : Nat := 0
  hwm : Nat := 0                 -- STAGE.HWM at t_trip (R233)
  c1Done : Bool := false
  c1Off : Bool := false          -- class 1 cut-off passed
  c2Off : Bool := false
  rr : Nat := 0                  -- round-robin pointer
  ents : List IdxEnt := []       -- entries pending
  first : Nat := 0               -- ordinal of the first pending entry
  iring : Nat := 0
  iloc : Nat := 0xFFFFFFFF
  icount : Nat := 0
  mans : List (Nat × SaveManEnt) := []   -- ports with an image in this save
  done : Bool := false           -- the save-wide seal is written
  calReq : Bool := false         -- a calibration save waits for its boundary (R160)
  kind8 : Bool := false          -- rank 8: Fall follows whatever the input
  calTurns : Nat := 0
  fillOn : Bool := false
  lostSleds : Nat := 0           -- sleds lost in this save
  tkos : Nat := 0                -- takeovers in this save (R41)
  supply : Bool := false         -- source 150 live at some time in this save
  idxBusy : Bool := false        -- an index unit is not complete
  idxOut : Option IdxUnit := none    -- that unit
  deriving DecidableEq, Repr, Inhabited

/-- A port in Return (07). -/
structure RetP where
  out : Nat := 0
  pend : Bool := false
  actRej : Bool := false
  unconf : Bool := false
  incomplete : Bool := false
  test : Bool := false
  fail : Nat := 0
  elsePort : Option Nat := none
  relSent : Bool := false
  relAcked : Bool := false
  written : Nat := 0
  lost : Nat := 0
  released : Bool := false       -- released (R243)
  ident : Bool := false          -- an IDENT of this decision is held
  check : Option (List Word) := none
  decide : Bool := false         -- a decision is due
  src : Nat := 0xFF              -- port whose image a reassign restores
  ph : Nat := 0                  -- restore: 0 none, 1 clear sent, 2 writing, 3 check sent
  round : Nat := 0
  todo : List Nat := []          -- squares still to write
  reading : Option (Nat × Nat) := none   -- square, generation
  outst : List (Nat × Nat) := []         -- WRITEs without WACK: square, chunk
  wrote : List (Nat × Nat) := [] -- squares written with their generation
  tries : Nat := 0               -- RELEASE sent again
  relMsg : Option (Nat × Bool × Bool) := none    -- the RELEASE of this decision
  marks : Nat := 0               -- retire marks not complete before a discard's RELEASE
  relId : BitVec 64 := 0         -- ADAPTER_ID released
  rid : BitVec 64 := 0           -- adapter a restore writes to, or a reassign is bound to (R262)
  downAt : Option Nat := none    -- local count at which the link of a restoring port left UP for DOWN (R260)
  asks : Nat := 0                -- IDENTs and CHECKs that requests sent before still bring (R244, R256)
  chks : Nat := 0
  redo : Bool := false           -- decided again once the retire marks under it are written (Table 07-4)
  deriving DecidableEq, Repr, Inhabited

/-- Return (07). -/
structure Ret where
  ports : Tab RetP 64 := tall 64 {}
  elapsed : Nat := 0             -- ms since Return entry
  enter : Stamp := {}
  waited : Bool := false         -- RET_WAIT has expired
  go : Bool := false             -- the table's return turn, or the partition fallback, allows restores (R255)
  deriving DecidableEq, Repr, Inhabited

/-- A port's stake (02). -/
structure StkP where
  s : Nat := 0
  k : Nat := 0
  u : Nat := 0
  cov : Nat := 0
  tgt : Nat := 0
  clip : Bool := false
  ovr : Bool := false
  draining : Bool := false
  bind : Nat := 4
  ovrTurns : Nat := 0
  deriving DecidableEq, Repr, Inhabited

/-- The read-only figures of STAKE, which a view hold copies whole (R479). -/
structure StkVals where
  turn : Nat := 0
  tSeal : Nat := 0
  tAvail : Nat := 0
  bwV : Nat := 0
  sleds : Nat := 0
  ePot : Nat := 0
  bBw : Nat := 0
  bE : Nat := 0
  guard_ : Nat := 0
  bTotal : Nat := 0
  sumS : Nat := 0
  sumK : Nat := 0
  sumU : Nat := 0
  eNeed : Nat := 0
  eTrip : Nat := 0
  shortCnt : Nat := 0
  short : Bool := false
  limit : Bool := false
  unprot : Bool := false
  frozen : Bool := false
  drainWait : Bool := false
  calValid : Bool := false
  totalClip : Bool := false
  pfixCal : Nat := 0
  pfixDef : Nat := 0
  eB : Nat := 0
  eRes : Nat := 0
  tD : Nat := 10000
  tFw : Nat := 100
  ports : Tab StkP 64 := tall 64 {}
  deriving DecidableEq, Repr, Inhabited

/-- What the stake engine keeps of a port beside its registers. -/
structure StkQ where
  overSeen : Bool := false
  missSeen : Bool := false
  ceil : Nat := 0x1000
  ceilEn : Bool := false
  rep : Option Nat := none       -- report of the running turn
  due : Bool := false            -- STAKE of the running turn was sent
  ovrRun : Nat := 0
  missRun : Nat := 0
  /-- The last U_p the port reported (R54); `u` shows K_p(n - 1) where a report is missing (R53, R71). -/
  uRep : Nat := 0
  elig : Bool := false           -- eligible at the last boundary
  was : Bool := false            -- eligible at some boundary since Boot
  again : Bool := false          -- not eligible here at the takeover, whatever the frame says (R98)
  deriving DecidableEq, Repr, Inhabited

/-- The stake engine (02). -/
structure Stake where
  v : StkVals := {}
  hold : Option StkVals := none  -- STAKE.CTRL.VIEW_HOLD
  useCal : Bool := false
  shortSeen : Bool := false
  marginClip : Bool := false
  margin : Nat := 0x180
  ceilTot : Nat := 0x40000
  ceilEn : Bool := false
  q : Tab StkQ 64 := tall 64 {}
  okRun : Nat := 0
  reserve : Bool := false        -- E_pot is at or below m x E_need + E_res, exactly (R71, R72)
  calElig : BitVec 64 := 0
  calSleds : Nat := 0
  deriving DecidableEq, Repr, Inhabited

/-! ### Fabric (11) -/

/-- A fabric port; `st` is FAB.PORT[i].STATE. -/
structure FabPort where
  st : Nat := 0
  fec : Bool := false
  nbr : Nat := 0
  cost : Nat := 1
  far : Nat := 1                 -- COST of the other end, from its HELLO (R360)
  retrains : Nat := 0
  fails : Nat := 0               -- consecutive attempts without UP (R354)
  heard : Bool := false          -- a HELLO of the neighbour has been received since training (SEEN)
  chan : Chan FMsg := {}
  deriving DecidableEq, Repr, Inhabited

/-- The partner link's lanes (R74, R78 to R85, R335): two of them, with the states of Table 03-3, of which 3 stands for a link trained and
delivering, there being no IDENT on it. -/
structure PLink where
  st : Nat := 0                  -- 0 DOWN, 1 LOCK, 2 TRAIN, 3 trained
  rcv : Bool := false            -- RECOVER: it trains again and keeps SEQ and the replay buffer
  failed : Bool := false
  fails : Nat := 0
  lanes : Nat := 0               -- lanes in use, bit i lane i
  coef : List (Nat × Nat × Nat) := []   -- coefficient requests applied: lane, coefficients, sequence echoed (R83)
  reqs : Tab Nat 4 := tall 4 0
  deriving DecidableEq, Repr, Inhabited

/-- The fabric island (11). `cfg` and `tbl` are the FABRIC and TABLE sections it was given with the board image last accepted or reloaded: it keeps them
while the control island is reset (R18). -/
structure Fab where
  cfg : FabCfg := {}
  tbl : TableCfg := {}
  bnd : TRep := {}               -- what REPORT carries, as of the last turn boundary (Table 11-5)
  pl : PLink := {}
  off : Int := 0                 -- F minus L, ns (R361)
  synced : Bool := false
  disc : Bool := false
  ever : Bool := false           -- has been synchronised since the island's reset (R361)
  fresh : Bool := true           -- the next exchange is the first since bit 0 was cleared (R363)
  isolated : Bool := false       -- lost a static conflict (R358)
  isoHdr : ImgHdr := {}          -- header of the board image under which it did
  loser : Bool := false          -- a discovered address was lost: discover again (R358)
  ports : Tab FabPort 4 := tall 4 {}
  db : List Lsa := []
  aseq : Nat := 0
  dirty : Bool := false          -- the database changed since the last route computation (R360)
  relsa : Bool := false          -- the ports changed since the last own LSA (R359)
  routes : List (Nat × Nat) := []
  root : Nat := 0
  parent : Nat := 0
  parentAt : Nat := 0            -- address of the neighbour on that port; 0 for none (R361, R363)
  hops : Nat := 0
  t1 : Option Nat := none        -- t1 of the TSYNC exchange in progress
  good : Nat := 0
  bad : Nat := 0
  offset : Int := 0
  delay : Nat := 0
  pps : Bool := false
  ppsGood : Nat := 0
  ppsBad : Nat := 0
  timeHi : Word := 0             -- latched by a read of TIME_LO (R479)
  round : Nat := 0
  reps : List TRep := []         -- newest report of each slot, this node's own among them
  live : Nat := 0
  retreq : Nat := 0
  coord : Bool := false
  duty : Bool := true            -- false from a takeover to the next round: the slot's coordinator duty waits (R373)
  coordFor : Nat := 0            -- rounds this node has acted as coordinator without a break, at most 4
  gRound : Nat := 0              -- the last of them
  g1 : List (Option Nat) := []   -- shares this node granted in the last round and the one before
  g2 : List (Option Nat) := []
  retSince : Option Nat := none  -- round of the first grant that gave the newest grant's RET_SLOT the turn (R376)
  newest : TGrant := {}          -- newest accepted grant
  grant : Option TGrant := none  -- the grant in force
  next : Option TGrant := none   -- accepted, waiting for the next turn boundary (Table 11-5)
  share : Nat := 0
  p : Nat := 0
  exp : Nat := 0
  fallback : Bool := false
  fallAt : Nat := 0              -- local count of the expiry of the last grant (R377)
  stagger : Bool := false        -- TABLE_STAGGER_EXPIRY has come (R377)
  rqDst : Nat := 0
  rqKind : Nat := 0
  rqGo : Bool := false
  rqTo : Nat := 0                -- node and kind of the request under way
  rqAs : Nat := 0
  rqOfs : Nat := 0
  rqLen : Nat := 0
  rqResult : Nat := 0
  rqWords : Nat := 0
  rqBuf : List Word := []
  served : List Nat := []        -- local counts of the requests of the last 100 ms (R378)
  deriving DecidableEq, Repr, Inhabited

/-! ### The pair (10) -/

/-- A frame sent and whether it was acknowledged (R341). -/
structure SentF where
  fseq : Nat
  armed : Bool
  acked : Bool
  win : Win
  deriving DecidableEq, Repr, Inhabited

/-- Why this controller may claim the token (R332). -/
inductive Occasion where
  | none | boot | loss | yield | planned | cutOff
  deriving DecidableEq, Repr, Inhabited

/-- The pair (10). -/
structure Pair where
  drv : Bool := false            -- this controller drives TOKEN_N low: it holds the token (R330)
  heard : Bool := false          -- a partner frame has been received in this Boot (R332)
  standby : Bool := false
  peer : Bool := false           -- a standby has joined this holder
  peerId : Option (BitVec 64) := none    -- identity of the partner
  win : Option Win := none       -- windows the standby has acknowledged; none: not bound (R150)
  unboundAt : Option Nat := none -- turn from which a bound holder is released (R341)
  sent : List SentF := []        -- frames sent, newest first, at most 8
  map : List MapAdd := []        -- staged map as the last frame left it
  baseOn : Bool := false
  baseId : Nat := 0
  baseDone : Nat := 0
  baseTotal : Nat := 0
  baseKey : Option (Nat × Nat) := none   -- last key sent or received
  complete : Bool := false       -- the standby's base is complete
  frame : Option Frame := none   -- frame in force at a standby
  armed : Bool := false
  armedFrames : Nat := 0
  since : Nat := 0
  fseq : Nat := 0
  plUp : Bool := false
  plOpen : Bool := false         -- the partner link has delivered a message since the last loss
  hbOk : Bool := false
  hbOut : Bool := false          -- HB_OUT toggles (R335)
  cutOff : Bool := false
  occ : Occasion := .none
  ready : Bool := false          -- the claim is not held back by the hold-off
  sampling : Bool := false       -- the 500 us sampling of R342 runs
  yielded : Bool := false
  declL : Nat := 0               -- local count of the loss declaration, or of t_x
  tkoKind : Nat := 0
  tkoYielded : Bool := false
  tkoDur : Nat := 0
  tkoStamp : Stamp := {}
  takeovers : Nat := 0
  handovers : Nat := 0
  discarded : Nat := 0
  ackMiss : Nat := 0
  yieldReq : Nat := 0            -- takeover requests recorded without effect (R345, Table 04-8)
  yieldOnce : Bool := false      -- one was acted on in the running save
  hand : Nat := 0                -- planned handover: 1 giving, 2 final frame sent
  handDrill : Bool := false      -- it is a leg of the drill
  coldDue : Bool := false        -- a cold takeover enters Boot at the next boundary (R344)
  given : Bool := false          -- the token has just passed in a planned handover: the giver is armed without a base (R340)
  drillDwell : Nat := 0x3E8      -- PAIR.DRILL.DWELL, TEST
  drillTest : Bool := false
  drillSt : Nat := 0
  drillRes : Nat := 0
  drillLeft : Nat := 0           -- turns of the dwell left, at the new holder
  drillSave : Nat := 0           -- test save in the dwell: 0 none due, 1 due, 2 running, 3 over
  drillBad : Bool := false       -- it missed its deadline or was an emergency seal
  legs : Nat := 0                -- at the new holder of a drill: 1 dwell, 2 leg 2
  drillCut : Bool := false       -- an abort has shortened the dwell to 0 (R351)
  dueSet : Bool := false         -- EVT.DRILL_DUE has been set for this drill age
  kxApprove : Bool := false      -- PAIR.KX.APPROVE
  kxFor : Option (BitVec 64) := none     -- the identity it approved (R349)
  kxTold : Bool := false         -- EVT.KX_NEED has been set for this lack of a wrap set
  kxSt : Nat := 0
  kxAt : Nat := 0                -- local count at which the exchange started
  kxPriv : Nat := 0              -- number of this controller's ephemeral key
  kxPeer : List Byte := []       -- the partner's ephemeral public key
  kxBlock : Option KeyBlock := none      -- the key block being written
  chan : Chan PMsg := {}
  deriving DecidableEq, Repr, Inhabited

/-- The controller. `evt` and `ctrl` hold the EVT and CTRL registers of the blocks in the order of TOP.IRQ: 0 TOP, 1 RP,
2 FLT, 3 LEDG, 4 SEQ, 5 NRG, 6 SAVE, 7 RET, 8 STAGE, 9 PAIR, 10 FAB, 11 BIMG, 12 VAULT. -/
structure State where
  clk : Clk := {}
  pins : Pins := {}
  aon : Aon := {}
  nor : Tab NorDev 2 := tall 2 {}
  fuseCnt : Nat := 0
  keyBanks : Tab KeyBank 2 := tall 2 .blank
  epochRan : Bool := false
  top : Top := {}
  evt : Tab Word 13 := tall 13 0
  ctrl : Tab Word 13 := tlist 13 [0, 0, 0, 0, 0, 0, 0, 0x9, 0x1, 0x1, 0xF, 0, 0]
  busyIrq : Word := 0
  cmd : LongCmd := {}
  rp : Rp := {}
  flt : Flt := {}
  ledg : Ledg := {}
  bimg : Bimg := {}
  seq : Seq := {}
  nrg : Nrg := {}
  links : Tab Link 64 := tall 64 {}
  stake : Stake := {}
  vault : Vault := {}
  stage : Stage := {}
  save : Save := {}
  ret : Ret := {}
  fab : Fab := {}
  pair : Pair := {}
  pending : List Instr := []
  deriving DecidableEq, Repr, Inhabited

/-- The machine right after reset: Off, with neither VAON supply, AON state lost (R31) and nothing pending. -/
def State.reset : State := {}

end Sys2Proof.Machine
end

