-- ==== Sys2Proof/Machine/Ops.lean ====
section
/-! DEFINITION. The operations every family uses: time and stamps (R9, R17), free values, event bits and IRQ_N (R457),
fault sources going live and ceasing (R381, R387), ledger occurrences (R416, R418) and records waiting for the writer (R407). -/

namespace Sys2Proof.Machine
namespace State

/-! ### Time and free values -/

/-- Take the next free value's number. -/
def tick (s : State) : State := { s with clk := { s.clk with free := s.clk.free + 1 } }

/-- An event arrives within the running turn, at an instant no command states (log entry 1): the local count moves to it,
never backward and never past the turn. -/
def arrive (s : State) : State :=
  let t := s.clk.turnStart + (Config.within s.clk.free).toNat % 1000000
  { s with clk := { s.clk with l := max s.clk.l t, free := s.clk.free + 1 } }

/-- Fabric time, or the local count while not synchronised (R9, R361). -/
def fabNs (s : State) : Nat :=
  if s.fab.synced then ((s.clk.l + s.fab.off) % (2 ^ 64 : Int)).toNat else s.clk.l % 2 ^ 64

/-- The full stamp of this instant, Table 00-5. -/
def stamp (s : State) : Stamp :=
  { opSec := BitVec.ofNat 32 s.aon.opSec, cycles := BitVec.ofNat 24 s.aon.cycles,
    synced := s.fab.synced, disciplined := s.fab.disc, fabNs := BitVec.ofNat 64 s.fabNs }

/-! ### States and islands -/

/-- TOP.STATE's state is one of these. -/
def inState (s : State) (l : List TopState) : Bool := l.contains s.top.state

/-- The control island is powered (Table 01-3) and not in reset, whether or not its clock runs: a REFCLK gap of less than 10 us
stops it and takes nothing from it (R498). -/
def ctlUp (s : State) : Bool :=
  !(s.top.state == .off || s.top.state == .wake || s.top.state == .hold) && !s.pins.mrLow && !s.pins.refclkLong
    && rd s.pins.rails 0 && rd s.pins.rails 5

/-- The control island is powered (Table 01-3), its clock runs, and neither MR_N nor a lost reference clock holds it in reset. -/
def ctlOn (s : State) : Bool := s.ctlUp && s.pins.refclkRun

/-- The turn-based AC-good loss count: doubles judged lost, and pair-broken ones (R120). -/
def acgCount (s : State) : Nat := (idxs 8 (fun i => rd s.pins.acgLoss i || s.flt.acgPb.getLsbD i)).length

/-- The freeze path's AC-good loss count: doubles whose T input is low (R120). -/
def acgFast (s : State) : Nat := (idxs 8 (fun i => rd s.pins.acgLow i)).length

def inputPresent (s : State) : Bool :=
  s.pins.pfiGood && (s.inState [.hold, .wake] || !s.bimg.running || s.acgCount < s.bimg.img.core.acgThr)

/-- The running image. -/
abbrev im (s : State) : BImg := s.bimg.img

/-- Whether the image is one of a pair (R329). -/
def paired (s : State) : Bool := s.bimg.running && s.bimg.img.core.paired

/-! ### Event bits -/

/-- Set an EVT bit of a block. -/
def setEvt (b bit : Nat) (s : State) : State := { s with evt := md s.evt b (fun w => w ||| BitVec.ofNat 32 (2 ^ bit)) }

/-- Read an EVT bit of a block. -/
def evtBit (s : State) (b bit : Nat) : Bool := (rd s.evt b).getLsbD bit

/-- Read a CTRL bit of a block. -/
def ctrlBit (s : State) (b bit : Nat) : Bool := (rd s.ctrl b).getLsbD bit

/-! ### Fault sources -/

/-- Sub-source numbers the model keeps for a source that has none of its own: forced asserted, live through BROKEN_AS. Both are
reported as 0xFFFF. -/
def subForced : Nat := 0xFFFE
def subBroken : Nat := 0xFFFD

/-- The pair of a source reads invalid: forced so, or, an internal one, pair-broken (R384, R402). Single samples of a broken external double
can be valid. -/
def pairHeld (s : State) (src : Nat) : Bool := s.flt.forcePb.getLsbD src || (src < 160 && s.flt.pb.getLsbD src)

/-- A sub-source is a condition behind the pair, and the pair's source keeps its last valid value (R384). -/
def heldBack (s : State) (src sub : Nat) : Bool := s.pairHeld src && sub != subForced && sub != subBroken

/-- The sub-sources a condition of (src, sub) belongs to: the live ones, or those behind an invalid pair. -/
def subsOf (s : State) (src sub : Nat) : List SubSrc := if s.heldBack src sub then s.flt.behind else s.flt.subs
def mdSubs (src sub : Nat) (f : List SubSrc → List SubSrc) (s : State) : State :=
  { s with flt := if s.heldBack src sub then { s.flt with behind := f s.flt.behind } else { s.flt with subs := f s.flt.subs } }

/-- A sub-source's condition holds. -/
def subLive (s : State) (src sub : Nat) : Bool := (s.subsOf src sub).any (fun x => x.src == src && x.sub == sub)

/-- FLT.LIVE: a sub-source is live (R381, R400); sources 158 and 159 are never live (R380). -/
def srcLive (s : State) (i : Nat) : Bool := i < 256 && i != 158 && i != 159 && s.flt.subs.any (fun x => x.src == i)

/-- A sub-source becomes live, or stays live longer; its registration is FAULT_REGISTRATION (R381, R387). -/
def raise (src sub : Nat) (till : Option Nat) (s : State) : State :=
  s.mdSubs src sub (fun l =>
    if s.subLive src sub then l.map (fun x => if x.src == src && x.sub == sub then { x with till := till } else x) else l ++ [{ src := src, sub := sub, till := till }])

/-- A sub-source ceases to be live. -/
def unraise (src sub : Nat) (s : State) : State := s.mdSubs src sub (fun l => l.filter (fun x => !(x.src == src && x.sub == sub)))

/-- A pair that now becomes invalid: its source keeps its value, and the conditions go on behind it (R384). -/
def pairHold (src : Nat) (s : State) : State :=
  if s.pairHeld src then s
  else { s with flt := { s.flt with behind := s.flt.behind ++ s.flt.subs.filter (fun x => x.src == src && x.sub != subForced && x.sub != subBroken) } }

/-- A pair that was invalid reads its source again (R384). -/
def pairSeen (src : Nat) (s : State) : State :=
  if s.pairHeld src then s
  else
    let mine := s.flt.behind.filter (fun x => x.src == src)
    let kept := s.flt.subs.filterMap (fun x =>
      if x.src ≠ src || x.sub = subBroken then some x
      else if x.sub = subForced then (if s.flt.force.getLsbD src then some x else none)
      else (mine.find? (fun m => m.sub == x.sub)).map (fun m => { x with till := m.till }))
    { s with flt := { s.flt with
      behind := s.flt.behind.filter (fun x => x.src != src)
      subs := kept ++ mine.filter (fun m => !s.flt.subs.any (fun x => x.src == src && x.sub == m.sub)) } }

/-- Raise or clear a sub-source that follows a condition. -/
def follow (src sub : Nat) (c : Bool) (s : State) : State :=
  if c then (if s.subLive src sub then s else s.raise src sub none) else s.unraise src sub

/-- Live for one turn (R135, R346, R381): until the boundary after the next. -/
def raiseTurn (src sub : Nat) (s : State) : State := s.raise src sub (some (s.clk.turn + 1))

end State

/-! ### Ledger occurrences -/

/-- Chips left in a code's bucket of a bank (R416): those received less those taken, one for each COUNT. -/
def Bank.chipsLeft (b : Bank) (code : Nat) : Nat :=
  rd b.chips (code / 256) - ((b.codes.find? (fun c => c.code == code)).map (·.count)).getD 0

/-- Change a code's figures in a bank, adding the code when it is not there. -/
def Bank.upd (b : Bank) (code : Nat) (f : CodeCnt → CodeCnt) : Bank :=
  if b.codes.any (fun c => c.code == code) then
    { b with codes := b.codes.map (fun c => if c.code == code then f c else c) }
  else { b with codes := b.codes ++ [f { code }] }

namespace State

/-- Post an occurrence to the event queue of at most 256 (R418). -/
def post (o : Occ) (s : State) : State :=
  if s.ledg.evq.length < 256 then ({ s with ledg := { s.ledg with evq := s.ledg.evq ++ [o] } }).setEvt 3 1
  else { s with ledg := { s.ledg with dropped := satAdd 0xFFFF s.ledg.dropped 1 } }

/-- An occurrence of a code is counted in the live bank: a chip is taken and the occurrence queued, or it is suppressed (R416). -/
def count (kind unit datum : Nat) (s : State) : State :=
  let code := kind * 256 + unit
  let b := s.ledg.live
  if b.chipsLeft code = 0 then
    { s with ledg := { s.ledg with live := b.upd code (fun c => { c with supp := satAdd 0xFFFFFFFF c.supp 1 }) } }
  else
    ({ s with ledg := { s.ledg with live := b.upd code (fun c => { c with count := c.count + 1 }) } }).post
      { code, datum := datum % 2 ^ 32, stamp := s.stamp }

/-- Queue a record: the header's fields are those of its stamp's instant (R407); flag bits 2 and 3 follow WALL_VALID and the
token. It takes the next RSEQ here, so that RSEQ rises with the stamps whatever order the writer serves the queue in (R409, R423). -/
def pushRec (kind flags : Nat) (st : Stamp) (body : List Byte) (s : State) : State :=
  { s with ledg := { s.ledg with rseq := (s.ledg.rseq + 1) % 2 ^ 32, queue := s.ledg.queue ++
      [{ rseq := s.ledg.rseq, kind, stamp := st, wall := s.aon.wallMs, steps := s.aon.steps, epoch := s.aon.epoch, state := s.top.state.code,
         flags := flags + 4 * s.aon.wallValid.toNat + 8 * s.pair.drv.toNat, body }] } }

/-- Do `f` where `c` holds. -/
def when (c : Bool) (f : State → State) (s : State) : State := if c then f s else s

end State
end Sys2Proof.Machine
end

