-- ==== Sys2Proof/Machine/Ledger.lean ====
section
/-! DEFINITION. The ledger (13): areas and records on the NOR devices, the writer and its operations, epochs, banks and the
event queue, the wall label, the Boot scan, device failure and replacement, export hold. -/

namespace Sys2Proof.Machine

/-! ### Layout (R406, Table 13-1) -/

/-- An area: offset, record size, slots, whether its sectors roll. -/
structure Area where
  base : Nat
  size : Nat
  slots : Nat
  rolling : Bool
  deriving DecidableEq, Repr, Inhabited

/-- The six record areas, in the order of LEDG.HEAD. -/
def area (a : Nat) : Area :=
  match a with
  | 0 => ⟨0x004000, 1024, 264, true⟩
  | 1 => ⟨0x046000, 2048, 64, false⟩
  | 2 => ⟨0x066000, 2048, 260, true⟩
  | 3 => ⟨0x0E8000, 512, 1024, false⟩
  | 4 => ⟨0x168000, 512, 4112, true⟩
  | _ => ⟨0x36A000, 512, 1040, true⟩

/-- The byte offset of a slot. -/
def slotAddr (a slot : Nat) : Nat := (area a).base + slot * (area a).size

/-- Slots in a 4 KiB sector. -/
def perSector (a : Nat) : Nat := 4096 / (area a).size

/-- The area a record kind is written to (R411, R412). -/
def kindArea (kind : Nat) : Nat := match kind with | 1 => 4 | 2 => 2 | 3 => 0 | _ => 5

/-- The founding area of a kind (R412). -/
def foundArea (kind : Nat) : Option Nat := match kind with | 1 => some 3 | 2 => some 1 | _ => none

/-- The writer's rank of a record kind (R423). -/
def kindRank (kind : Nat) : Nat := match kind with | 3 => 1 | 2 => 2 | 4 => 3 | _ => 4

/-! ### Records (R407, R408) -/

/-- The record bytes before the seal, with the founding flag (Table 13-2). -/
def RecJob.bytes (j : RecJob) (founding : Bool) (size : Nat) : List Byte :=
  ((leBytes 2 j.kind ++ leBytes 2 1 ++ leBytes 4 j.rseq ++ j.stamp.bytes ++ leBytes 8 j.wall ++ leBytes 4 j.steps
    ++ leBytes 2 j.epoch ++ leBytes 1 j.state ++ leBytes 1 (j.flags + founding.toNat) ++ leBytes 8 Config.identity.toNat
    ++ j.body) ++ zeros size).take (size - 16)

/-- The seal of a record body, Table 13-3. -/
def sealBytes (rseq : Nat) (body : List Byte) : List Byte :=
  let h := leBytes 4 0x4C53454C ++ leBytes 4 rseq ++ leBytes 4 (crc32c body).toNat
  h ++ leBytes 4 (crc32c h).toNat

/-- The RSEQ of the record copy in a slot of a device, when a copy exists there (R408). -/
def copyRseq (m : List Host.Cell) (a slot : Nat) : Option Nat :=
  let at0 := slotAddr a slot
  let n := (area a).size
  let body := Mem.readN 0xFF m at0 (n - 16)
  let s := Mem.readN 0xFF m (at0 + n - 16) 16
  if num s 0 4 = 0x4C53454C ∧ num s 12 4 = (crc32c (s.take 12)).toNat ∧ num s 8 4 = (crc32c body).toNat
      ∧ num s 4 4 = num body 4 4 then some (num s 4 4) else none

/-- The pages of a byte range, one program each (R408). -/
def pages : Nat → Nat → List Byte → List NorOp
  | 0, _, _ => []
  | n + 1, a, b =>
    match b with
    | [] => []
    | _ => NorOp.prog a (b.take 256) :: pages n (a + 256) (b.drop 256)

/-- Rolling window of a count: the newest of a list by RSEQ. -/
def newest (l : List (Nat × Nat)) : Option (Nat × Nat) :=
  l.foldl (fun b x => match b with
    | none => some x
    | some y => if y.2 < x.2 then some x else some y) none

namespace State

/-- The bytes of a device. -/
def norMem (s : State) (d : Nat) : List Host.Cell := (rd s.nor d).mem

/-- Replace the bytes of a device. -/
def setNor (d : Nat) (m : List Host.Cell) (s : State) : State := { s with nor := md s.nor d (fun x => { x with mem := m }) }

/-- Devices the writer writes, device 0 first; during a resilver the healthy device first (R408, R425). -/
def norDevs (s : State) : List Nat :=
  match s.ledg.resilver with
  | some d => if (rd s.ledg.dev (1 - d)).ok then [1 - d, d] else [d]
  | none => idxs 2 (fun d => (rd s.ledg.dev d).ok)

/-- A slot holds a record: a copy exists on a device the controller reads (R408). -/
def slotRseq (s : State) (a slot : Nat) : Option Nat :=
  match (if (rd s.ledg.dev 0).ok then copyRseq (s.norMem 0) a slot else none) with
  | some r => some r
  | none => if (rd s.ledg.dev 1).ok then copyRseq (s.norMem 1) a slot else none

/-- The existing records of an area as (slot, RSEQ). -/
def areaRecs (s : State) (a : Nat) : List (Nat × Nat) :=
  (List.range (area a).slots).filterMap (fun i => (s.slotRseq a i).map (fun r => (i, r)))

/-- LEDG.HEAD and HRSEQ of an area from what the devices hold (R426). -/
def scanHead (s : State) (a : Nat) : Head :=
  let l := s.areaRecs a
  { slot := (newest l).map (·.1), count := l.length, rseq := ((newest l).map (·.2)).getD 0 }

/-- A slot reads 0xFF throughout on every device to be written. -/
def slotBlank (s : State) (a slot : Nat) : Bool :=
  s.norDevs.all (fun d => Mem.blank (s.norMem d) (slotAddr a slot) (area a).size)

/-- The slot the next record of an area goes to: from the slot after the newest record, wrapping, the first that is blank, or
that begins a sector of a rolling area (which is erased first). A founding area is never erased (R411; log entry 8). -/
def nextSlot (s : State) (a : Nat) : Option Nat :=
  let n := (area a).slots
  let from_ := match (rd s.ledg.heads a).slot with | some k => k + 1 | none => 0
  if (area a).rolling then
    ((List.range n).map (fun i => (from_ + i) % n)).find? (fun i => s.slotBlank a i || i % perSector a == 0)
  else ((List.range n).filter (from_ ≤ ·)).find? (fun i => s.slotBlank a i)

/-- The operations that write one copy in its blank slot (R408): the pages of the record but for the seal, then the seal. -/
def copyOps (w : RecWork) : List NorOp :=
  let n := (area w.area).size
  let a := slotAddr w.area w.slot
  let body := w.job.bytes w.founding n
  pages 8 a body ++ [NorOp.seal (a + n - 16) (sealBytes w.job.rseq body)]

/-- Drop the first job of a record kind's rank from the queue. -/
def dropJob (j : RecJob) (s : State) : State := { s with ledg := { s.ledg with queue := s.ledg.queue.erase j } }

/-- A record of kind epoch that is no longer waited for frees the sealing bank (R417). -/
def freeBank (j : RecJob) (s : State) : State :=
  if j.kind = 1 then { s with ledg := { s.ledg with sealing := none } } else s

/-- RSEQ `k` is released: the records that wait with the numbers that follow it take one less each, and where no record is written with a later
one the next record does so too (R409). A number below one already being written or sealed stays unused, since RSEQ rises with the stamps (DEDUCED,
log entry 221). -/
def releaseRseq (k : Nat) (s : State) : State :=
  let n := (List.range s.ledg.queue.length).foldl (fun a _ => if s.ledg.queue.any (fun j => j.rseq == k + 1 + a) then a + 1 else a) 0
  let free := k + n + 1 == s.ledg.rseq
  { s with ledg := { s.ledg with
      queue := s.ledg.queue.map (fun (j : RecJob) => if (free || 0 < n) && k < j.rseq && j.rseq ≤ k + n then { j with rseq := j.rseq - 1 } else j)
      rseq := if free then s.ledg.rseq - 1 else s.ledg.rseq } }

/-- A queued record is lost (R425, R426). -/
def recLost (j : RecJob) (s : State) : State :=
  let s1 := (((s.dropJob j).freeBank j).releaseRseq j.rseq).setEvt 3 3
  { s1 with ledg := { s1.ledg with epLost := s1.ledg.epLost || j.kind == 1 } }

/-- The head of the queue by rank, oldest first (R423). -/
def nextJob (s : State) : Option RecJob :=
  [1, 2, 3, 4].findSome? (fun r => s.ledg.queue.find? (fun j => kindRank j.kind == r))

/-- The device is busy programming or erasing. -/
def norBusy (s : State) (d : Nat) : Bool :=
  (match s.ledg.cur with | some w => w.dev == d | none => false)
  || (match s.ledg.bgCur with | some j => j.dev == d && !s.ledg.suspended | none => false)

/-- The erase of a sector of an area on one device (R411). -/
def eraseJob (a sec d : Nat) : BgJob := { kind := .eraseAhead a, dev := d, ops := [NorOp.erase ((area a).base + sec * 4096)] }

/-- The area stays in its export hold (R429). -/
def held (s : State) (a : Nat) : Bool := s.ledg.hold && !s.ledg.lost.getLsbD a

/-- A waiting erase-ahead of an area in its export hold stays (R429). -/
def stays (s : State) (b : BgJob) : Bool := match b.kind with | .eraseAhead a => s.held a | _ => false

/-- The erases of a sector of an area that are still to be made, device 0 first: none where the sector reads blank (R411). -/
def sectorErases (s : State) (a sec : Nat) : List BgJob :=
  ((s.norDevs.filter (fun d => !Mem.blank (s.norMem d) ((area a).base + sec * 4096) 4096)).map (eraseJob a sec)).mergeSort (fun x y => decide (x.dev ≤ y.dev))

/-- The erases that precede a record in the first slot of a sector of a rolling area: of that sector where it is not blank, and of the following one
unless the area is held (R411, R429). -/
def slotErases (s : State) (a slot : Nat) : List BgJob :=
  if (area a).rolling && slot % perSector a == 0 then
    let sec := slot / perSector a
    s.sectorErases a sec ++ (if s.held a then [] else s.sectorErases a ((sec + 1) % ((area a).slots / perSector a)))
  else []

/-- Queue background jobs ahead of those that wait, each once. -/
def bgFront (l : List BgJob) (s : State) : State :=
  { s with ledg := { s.ledg with bg := l ++ s.ledg.bg.filter (fun b => !l.contains b) } }

/-- The last slot of a sector is written: the erase-ahead before the next sector's first slot begins now (R411). -/
def eraseAheadSlot (a slot : Nat) (s : State) : State :=
  if (area a).rolling && slot % perSector a + 1 == perSector a then
    s.bgFront (s.sectorErases a ((slot / perSector a + 2) % ((area a).slots / perSector a)))
  else s

/-- Begin a copy of a record in its blank slot (R408, R411). -/
def beginCopy (j : RecJob) (a : Nat) (founding : Bool) (slot : Nat) (s : State) : State :=
  match s.norDevs with
  | [] => s
  | d :: ds =>
    let w : RecWork := { job := j, area := a, slot, founding, dev := d, left := ds, ops := [], okDevs := [] }
    { s with ledg := { s.ledg with cur := some { w with ops := copyOps w } } }

/-- An area that must erase a sector to write leaves the hold (R429). -/
def leaveHold (a slot : Nat) (s : State) : State :=
  if s.held a && !s.slotBlank a slot then { s with ledg := { s.ledg with lost := s.ledg.lost ||| BitVec.ofNat 6 (2 ^ a) } } else s

/-- The operation in progress of the running background job is an erase. -/
def bgErasing (s : State) : Bool := match s.ledg.bgCur with | some b => (match b.ops with | NorOp.erase _ :: _ => true | _ => false) | none => false

/-- The next background job starts, or the suspended erase goes on. -/
def bgNext (s : State) : State :=
  match s.ledg.bgCur with
  | some _ => { s with ledg := { s.ledg with suspended := false } }
  | none =>
    match s.ledg.bg.find? (fun b => !s.stays b) with
    | none => s
    | some b => { s with ledg := { s.ledg with bgCur := some b, bg := s.ledg.bg.erase b } }

/-- LEDGER_RECORD_WRITE, once the devices have been scanned: the writer starts the next queued record by rank, or, with no record waiting, the next
background job; an erase in progress is suspended for a record, a program never interrupted (R423). A record whose sector must be erased first waits
for that erase (R411). With no healthy device the record is lost (R425). -/
def ledgerWrite (s : State) : State :=
  if (rd s.flt.blocks 15).held || !s.ledg.scanDone || s.ledg.cur.isSome then s
  else
    match s.nextJob with
    | none => s.bgNext
    | some j =>
      if s.ledg.bgCur.isSome && !s.bgErasing then s
      else if s.norDevs.isEmpty then s.recLost j
      else
        match s.nextSlot (kindArea j.kind) with
        | none => s.recLost j
        | some slot =>
          let s1 := s.leaveHold (kindArea j.kind) slot
          match s1.slotErases (kindArea j.kind) slot with
          | [] => ({ s1 with ledg := { s1.ledg with suspended := s1.ledg.bgCur.isSome } }.dropJob j).beginCopy j (kindArea j.kind) false slot
          | l => if s1.ledg.bgCur.isSome then s1.bgNext else (s1.bgFront l).bgNext

/-! ### Device operations -/

/-- A background job that a device's failure ends: it works on the device, or copies from it. -/
def jobEnds (d : Nat) (b : BgJob) : Bool :=
  b.dev == d || (match b.kind with | .repair | .resilver | .slotRepair _ => true | .eraseAhead _ | .slotWrite => false)

/-- The slot and the chunk that BIMG.ARG names, and where the chunk stands on a device (Table 14-5, R443). -/
def argSlot (s : State) : Nat := (bitsOf s.bimg.arg 0 0)
def argChunk (s : State) : Nat := bitsOf s.bimg.arg 12 8
def chunkAddr (s : State) : Nat := 0x400000 + s.argSlot * 0x100000 + s.argChunk * 0x8000

/-- A device holds the chunk of the running slot write, as a read back compares it (R443). -/
def chunkHeld (s : State) (d : Nat) : Bool := Mem.readN 0xFF (s.norMem d) s.chunkAddr 0x8000 == Mem.readN 0 s.bimg.stg 0 0x8000

/-- A slot write whose last job has gone ends: with RESULT 0 where a healthy device holds the chunk, otherwise with STATE 4 (R443). One that a trip or an
abort has ended already keeps its outcome (R442, R462). -/
def slotWriteEnd (s : State) : State :=
  if s.ledg.bg.any (fun b => b.kind == .slotWrite) || (s.ledg.bgCur.any (fun b => b.kind == .slotWrite)) then s
  else if s.cmd.code ≠ 1 || s.cmd.state ≠ 1 then s
  else { s with bimg := { s.bimg with state := if (List.range 2).any (fun d => (rd s.ledg.dev d).ok && s.chunkHeld d) then 3 else 4, result := 0 } }

/-- A device fails (R425): code 0x70, source 153, only the other device is written. Jobs on it end, and so do the copies between the two. -/
def norFail (d ofs : Nat) (s : State) : State :=
  let wr_ := (s.ledg.bg ++ s.ledg.bgCur.toList).any (fun b => b.kind == .slotWrite && jobEnds d b)
  let s1 := { s with ledg := { s.ledg with
    dev := md s.ledg.dev d (fun x => { x with ok := false, failed := true }),
    resilver := none,
    bg := s.ledg.bg.filter (fun b => !jobEnds d b),
    bgCur := s.ledg.bgCur.filter (fun b => !jobEnds d b) } }
  let s2 := if wr_ then s1.slotWriteEnd else s1
  ((s2.count 0x70 d ofs).raise 153 d none).setEvt 3 0

/-- The offset an operation works at. -/
def opAddr : NorOp → Nat
  | .erase a => a | .prog a _ => a | .seal a _ => a | .copy a _ => a

/-- The effect of a completed operation on a device's bytes. -/
def norApply (d : Nat) (o : NorOp) (s : State) : State :=
  match o with
  | .erase a => s.setNor d (Mem.erase (s.norMem d) a 4096)
  | .prog a b => s.setNor d (Mem.writeN 0xFF (s.norMem d) a b)
  | .seal a b => s.setNor d (Mem.writeN 0xFF (s.norMem d) a b)
  | .copy a n => s.setNor d (Mem.writeN 0xFF (s.norMem d) a (Mem.readN 0xFF (s.norMem (1 - d)) a n))

/-- A record's copies are done: with one sealed the record exists, the head moves and the RSEQ is taken; with none it is lost and
the RSEQ released (R409). An epoch record frees the sealing bank; a founding copy follows the rolling ones (R412), and the erase-ahead the last slot of
a sector (R411). -/
def recDone (w : RecWork) (s : State) : State :=
  let s1 := { s with ledg := { s.ledg with cur := none } }
  if w.okDevs.isEmpty then (if w.founding then s1 else s1.recLost w.job)
  else
    let s2 := if w.founding then s1 else s1.freeBank w.job
    let s3 := { s2 with ledg := { s2.ledg with
      epLost := s2.ledg.epLost && w.job.kind != 1
      heads := wr s2.ledg.heads w.area { slot := some w.slot, count := (s2.areaRecs w.area).length, rseq := w.job.rseq } } }
    if w.founding then s3
    else
      let s4 := s3.eraseAheadSlot w.area w.slot
      match foundArea w.job.kind with
      | none => s4
      | some f =>
        match s4.nextSlot f with
        | some slot => s4.beginCopy w.job f true slot
        | none => s4

/-- The next device of a record, or its end. -/
def recNext (w : RecWork) (s : State) : State :=
  match w.left.filter (fun d => (rd s.ledg.dev d).ok || s.ledg.resilver == some d) with
  | [] => s.recDone w
  | d :: ds =>
    let w1 := { w with dev := d, left := ds }
    { s with ledg := { s.ledg with cur := some { w1 with ops := copyOps w1 } } }

/-- What follows a background job's last operation (R425, R440, R443). That an erased sector is blank is tested again before a record reaches it
(`slotErases`, R411). -/
def bgDone (b : BgJob) (s : State) : State :=
  let s1 := { s with ledg := { s.ledg with bgCur := none } }
  match b.kind with
  | .eraseAhead a => { s1 with ledg := { s1.ledg with heads := md s1.ledg.heads a (fun h => { h with count := (s1.areaRecs a).length }) } }
  | .slotRepair x =>
    ({ s1 with bimg := { s1.bimg with slots := md s1.bimg.slots x (fun v => { v with copy0 := true, copy1 := true }) } }).setEvt 11 2
  | .slotWrite => s1.slotWriteEnd
  | .repair | .resilver => s1

/-- Count a result's failures and read-back mismatches (LEDG.NOR[d].ERR). -/
def norErr (d : Nat) (r : NorRes) (s : State) : State :=
  { s with ledg := { s.ledg with dev := md s.ledg.dev d (fun x => match r with
    | .done => x
    | .doneSecond => { x with readback := satAdd 0xFFFF x.readback 1 }
    | .timeout => { x with ops := satAdd 0xFFFF x.ops 1 }
    | .mismatchTwice => { x with readback := satAdd 0xFFFF x.readback 2 }) } }

/-- NOR_OP_COMPLETE: the operation in progress on a device ends. A time-out, or a seal that differs twice, fails the device
(R425); otherwise its bytes change and the next operation, device or job follows. A background job yields between its operations to a record that
waits (R423); a writer held in reset does nothing (R396). -/
def norComplete (d : Nat) (r : NorRes) (s : State) : State :=
  let bad := r == .timeout || r == .mismatchTwice
  let s0 := s.norErr d r
  if (rd s.flt.blocks 15).held then s
  else match s.ledg.cur with
  | some w =>
    if w.dev ≠ d then s
    else match w.ops with
    | [] => s
    | o :: os =>
      if bad then (s0.norFail d (opAddr o)).recNext w
      else
        let s1 := s0.norApply d o
        match os with
        | [] => s1.recNext { w with ops := [], okDevs := w.okDevs ++ [d] }
        | _ => { s1 with ledg := { s1.ledg with cur := some { w with ops := os } } }
  | none =>
    match s.ledg.bgCur with
    | none => s
    | some b =>
      if b.dev ≠ d || s.ledg.suspended then s
      else match b.ops with
      | [] => s.bgDone b
      | o :: os =>
        if bad then s0.norFail d (opAddr o)
        else
          let s1 := s0.norApply d o
          match os with
          | [] => s1.bgDone b
          | _ => if s1.ledg.queue.isEmpty then { s1 with ledg := { s1.ledg with bgCur := some { b with ops := os } } }
              else { s1 with ledg := { s1.ledg with bgCur := none, bg := { b with ops := os } :: s1.ledg.bg } }

/-! ### Wall label (R410) -/

/-- WALL_COMMIT: a write of WALL_HI commits both halves; a move by more than 1,000 ms is a step. -/
def wallCommit (hi : Word) (s : State) : State :=
  let v := hi.toNat * 2 ^ 32 + s.ledg.wallLo.toNat
  let old := s.aon.wallMs
  let back := decide (v < old)
  let move := if back then old - v else v - old
  let s1 := { s with aon := { s.aon with wallMs := v, wallValid := true } }
  if 1000 < move then
    let s2 := { s1 with aon := { s1.aon with steps := satAdd 0xFFFFFFFF s1.aon.steps 1,
                                             back := if back then satAdd 0xFFFF s1.aon.back 1 else s1.aon.back } }
    (s2.count 0x52 back.toNat (move / 1000)).setEvt 3 2
  else s1

/-! ### Epochs (R414 to R419) -/

/-- The histogram tick in s (R415). -/
def tickLen (s : State) : Nat := ceilDiv s.im.ledg.epochLen 43200

/-- The bin of a value. -/
def binOf (edges : List Int) (v : Int) : Nat := (edges.filter (fun e => decide (e ≤ v))).length

/-- A channel takes a value at a turn boundary: the extremes (R415). -/
def chMinMax (t : Nat) (v : Int) (c : ChAcc) : ChAcc :=
  { c with
    mn := match c.mn with | some m => if v < m.1 then some (v, t) else some m | none => some (v, t)
    mx := match c.mx with | some m => if m.1 < v then some (v, t) else some m | none => some (v, t) }

/-- Every channel updates its extremes at a turn boundary; `val` gives a source's value, none while it has none. -/
def epochMinMax (val : Nat → Option Int) (s : State) : State :=
  if !s.ledg.epochs then s
  else { s with ledg := { s.ledg with ep := { s.ledg.ep with ch := tgen 6 (fun i =>
    let c := rd s.ledg.ep.ch i
    let k := (rd s.im.ledg.ch i).src
    if k = 0 then c else match val k with | some v => chMinMax s.ledg.ep.turns v c | none => c) } } }

/-- HISTOGRAM_TICK: each channel's value adds 1 to its bin (R415); acts only when OP_SEC is a multiple of TICK. -/
def histTick (val : Nat → Option Int) (s : State) : State :=
  if !s.ledg.epochs || s.aon.opSec % s.tickLen ≠ 0 then s
  else { s with ledg := { s.ledg with ep := { s.ledg.ep with ch := tgen 6 (fun i =>
    let c := rd s.ledg.ep.ch i
    let g := rd s.im.ledg.ch i
    if g.src = 0 then c else match val g.src with
      | some v => { c with bins := c.bins.modify (binOf g.edge v) (satAdd 0xFFFF · 1) }
      | none => c) } } }

/-- Start a new epoch at this boundary. -/
def epochStart (s : State) : State :=
  { s with epochRan := true
           ledg := { s.ledg with epochs := true, ep := { start := s.stamp, wall := s.aon.wallMs, steps := s.aon.steps },
                                 epStart := s.aon.opSec } }

/-- A full bank under the running image (R416). -/
def freshBank (s : State) : Bank :=
  { chips := if s.ledg.accepted then s.im.ledg.chips else tall 256 8 }

/-- Insert a code into a list in the order of R419: descending COUNT + SUPP, ties by ascending code. -/
def insCode (c : CodeCnt) : List CodeCnt → List CodeCnt
  | [] => [c]
  | d :: l => if d.count + d.supp < c.count + c.supp || (d.count + d.supp == c.count + c.supp && c.code < d.code)
      then c :: d :: l else d :: insCode c l

/-- The bytes 48 to 495 of the epoch record of a bank and an epoch (Tables 13-7, 13-8). -/
def epochBody (s : State) (b : Bank) (eflags : Nat) : List Byte :=
  let e := s.ledg.ep
  let sorted := (b.codes.filter (fun c => 0 < c.count + c.supp)).foldr insCode []
  let listed := sorted.take 14
  let other := sorted.drop 14
  let ch := fun i =>
    let c := rd e.ch i
    if (rd s.im.ledg.ch i).src = 0 then zeros 48
    else (c.bins.map (fun n => leBytes 2 n)).flatten
      ++ leBytes 4 (match c.mn with | some m => ofInt 32 m.1 | none => 0x7FFFFFFF)
      ++ leBytes 4 (match c.mx with | some m => ofInt 32 m.1 | none => 0x80000000)
      ++ leBytes 4 (match c.mn with | some m => m.2 | none => 0xFFFFFFFF)
      ++ leBytes 4 (match c.mx with | some m => m.2 | none => 0xFFFFFFFF)
  e.start.bytes ++ leBytes 8 e.wall ++ leBytes 4 e.steps ++ leBytes 2 s.tickLen
    ++ leBytes 2 (eflags + 2 * (decide (14 < sorted.length)).toNat) ++ leBytes 4 e.turns
    ++ leBytes 4 (other.foldl (fun a c => a + c.count) 0)
    ++ leBytes 4 (min 0xFFFFFFFF (other.foldl (fun a c => a + c.supp) 0)) ++ leBytes 2 other.length ++ zeros 2
    ++ (List.range 6).flatMap ch
    ++ (listed.flatMap (fun c => leBytes 2 c.code ++ leBytes 1 c.count ++ leBytes 1 (rd b.chips (c.code / 256)) ++ leBytes 4 c.supp))
    ++ zeros (8 * (14 - listed.length))

/-- A reloaded ledger section takes effect (R413). -/
def takeTuning (s : State) : State :=
  match s.ledg.next with
  | none => s
  | some c => { s with ledg := { s.ledg with next := none }, bimg := { s.bimg with img := { s.bimg.img with ledg := c } } }

/-- Close the epoch at this turn boundary: the banks swap and the record is queued (R414, R417). EFLAGS bit 0 early, bit 2 tuning
reload, bit 3 deferred. A close that falls due while the sealing bank is not clear is deferred, and merges with one already
deferred. A reloaded ledger section applies at the epoch that follows (R413). -/
def epochClose (eflags : Nat) (s : State) : State :=
  if !s.ledg.epochs then s
  else match s.ledg.sealing with
  | some _ =>
    let f := match s.ledg.deferred with | some g => g ||| eflags | none => eflags
    { s with ledg := { s.ledg with deferred := some f } }
  | none =>
    let f := match s.ledg.deferred with | some g => g ||| eflags ||| 8 | none => eflags
    let s1 := (s.pushRec 1 (2 * s.ledg.lostPrev.toNat) s.stamp (s.epochBody s.ledg.live f)).takeTuning
    ({ s1 with ledg := { s1.ledg with sealing := some s1.ledg.live, live := s1.freshBank, lostPrev := false, deferred := none, closeDue := none, closed := true } }).epochStart

/-- An early close is caused: it is made at the next turn boundary, where banks swap (R414, R417; log entry 123). -/
def epochAsk (eflags : Nat) (s : State) : State :=
  if s.ledg.epochs then { s with ledg := { s.ledg with closeDue := some (s.ledg.closeDue.getD 0 ||| eflags) } } else s

/-- The early closes caused since the last boundary are made. -/
def closeTurn (s : State) : State :=
  match s.ledg.closeDue with
  | none => s
  | some f => ({ s with ledg := { s.ledg with closeDue := none } }).epochClose f

/-- EPOCH_CLOSE: a regular close, at the turn boundary at which OP_SEC is a whole multiple of EPOCH_LEN (R414). -/
def epochRegular (s : State) : State :=
  if s.aon.opSec % s.im.ledg.epochLen = 0 && s.aon.opSec != s.ledg.epStart then s.epochClose 0 else s

/-- EPOCH_CLOSE_DEFERRED: the deferred close is made once the sealing bank is clear (R417). -/
def epochDeferred (s : State) : State :=
  match s.ledg.deferred, s.ledg.sealing with
  | some f, none => s.epochClose (f ||| 8)
  | _, _ => s

/-- The first turn after a board image has been accepted starts the epochs, and the live bank's buckets receive their further
chips (R414, R416). -/
def acceptChips (s : State) : State :=
  if s.ledg.accepted then s
  else { s with ledg := { s.ledg with accepted := true, live := { s.ledg.live with
      chips := tgen 256 (fun k => rd s.ledg.live.chips k + (rd s.im.ledg.chips k - 8)) } } }

/-! ### Event queue (R418) -/

/-- EVQ_POP: discard the oldest queued occurrence. -/
def evqPop (s : State) : State := { s with ledg := { s.ledg with evq := s.ledg.evq.drop 1 } }

/-- EVQ_READ: a read of LEDG.EVQ[0] latches the oldest entry; it answers word 0. -/
def evqRead (s : State) : State :=
  let ws := match s.ledg.evq with | o :: _ => wordsOf 6 o.bytes | [] => List.replicate 6 0
  { s with ledg := { s.ledg with evqLatch := ws }, rp := { s.rp with data := ws.headD 0, err := false } }

/-! ### Directory, scan, repair, replacement -/

/-- The directory block (R406). -/
def dirBytes (s : State) : List Byte :=
  let h := leBytes 4 0x4C454447 ++ leBytes 2 1 ++ zeros 2 ++ leBytes 8 Config.identity.toNat ++ s.stamp.bytes ++ zeros 28
  h ++ leBytes 4 (crc32c h).toNat

/-- A directory copy is valid (R406). -/
def dirOk (m : List Host.Cell) (a : Nat) : Bool :=
  let b := Mem.readN 0xFF m a 64
  num b 0 4 == 0x4C454447 && num b 4 2 == 1 && num b 60 4 == (crc32c (b.take 60)).toNat

/-- A device has a valid directory copy. -/
def dirValid (s : State) (d : Nat) : Bool := dirOk (s.norMem d) 0 || dirOk (s.norMem d) 0x2000

/-- Erase the ledger range and write both directory copies (R406). -/
def dirWrite (d : Nat) (s : State) : State :=
  let m := Mem.erase (s.norMem d) 0 0x400000
  s.setNor d (Mem.writeN 0xFF (Mem.writeN 0xFF m 0 s.dirBytes) 0x2000 s.dirBytes)

/-- A device's SFDP is read: it is healthy when it meets R405, otherwise it is treated as failed. One that has failed already stays so until its probe
(R425). -/
def sfdpRead (d : Nat) (s : State) : State :=
  let f := (rd s.nor d).sfdp
  if (rd s.ledg.dev d).failed then s
  else
    let s1 := { s with ledg := { s.ledg with dev := md s.ledg.dev d (fun x => { x with ok := f.meets, jedec := f.jedec, size := f.size, lines := f.lines }) } }
    if f.meets then s1 else s1.norFail d 0

/-- Repairs after the scan (R427): a record on one healthy device only is copied to the same, blank slot of the other, body
before seal. -/
def repairJobs (s : State) : List BgJob :=
  if !((rd s.ledg.dev 0).ok && (rd s.ledg.dev 1).ok) then []
  else (List.range 6).flatMap (fun a => (List.range (area a).slots).filterMap (fun i =>
    let n := (area a).size
    let at0 := slotAddr a i
    let fix := fun d => some ({ kind := .repair, dev := d, ops := [NorOp.copy at0 (n - 16), NorOp.copy (at0 + n - 16) 16] } : BgJob)
    match copyRseq (s.norMem 0) a i, copyRseq (s.norMem 1) a i with
    | some _, none => if Mem.blank (s.norMem 1) at0 n then fix 1 else none
    | none, some _ => if Mem.blank (s.norMem 0) at0 n then fix 0 else none
    | _, _ => none))

/-- The operations that copy an image slot from the other device, sector by sector. -/
def slotCopyOps (x : Nat) : List NorOp :=
  (List.range 256).flatMap (fun i => let a := 0x400000 + x * 0x100000 + i * 4096; [NorOp.erase a, NorOp.copy a 4096])

/-- A resilver's job: every existing record of the other device, slot for slot, body before seal, and both image slots (R425). -/
def resilverJob (d : Nat) (s : State) : BgJob :=
  { kind := .resilver, dev := d, ops :=
    ((List.range 6).flatMap (fun a => (List.range (area a).slots).flatMap (fun i =>
      match copyRseq (s.norMem (1 - d)) a i with
      | some _ => [NorOp.copy (slotAddr a i) ((area a).size - 16), NorOp.copy (slotAddr a i + (area a).size - 16) 16]
      | none => []))) ++ slotCopyOps 0 ++ slotCopyOps 1 }

/-- The newest existing record over all areas, as (area, slot, RSEQ) (R426). -/
def newestRec (s : State) : Option (Nat × Nat × Nat) :=
  (List.range 6).foldl (fun b a => match newest (s.areaRecs a) with
    | none => b
    | some (i, r) => match b with
      | none => some (a, i, r)
      | some (_, _, q) => if q < r then some (a, i, r) else b) none

/-- NOR_PROBE: the 10 s probe of a failed device; `f` is what its SFDP answers, `content` what a device put in its place holds.
A device that meets R405 with an invalid directory is a replacement: it gets its directory and is resilvered, with nothing to copy while
the other device has failed; one with a valid directory is healthy at once and repaired (R425), and what it holds is scanned: RSEQs not yet written
move above what it holds. -/
def norProbe (d : Nat) (f : Sfdp) (content : Option (List Host.Cell)) (s : State) : State :=
  if (rd s.ledg.dev d).ok || s.ledg.resilver.isSome then s
  else
    let s1 := { s with nor := md s.nor d (fun x => { x with sfdp := f, mem := match content with
      | some cs => cs.foldl (fun (m : List Host.Cell) (c : Host.Cell) => Mem.write 0xFF m c.1 c.2) [] | none => x.mem }) }
    let s2 := { s1 with ledg := { s1.ledg with dev := md s1.ledg.dev d (fun x => { x with jedec := f.jedec, size := f.size, lines := f.lines }) } }
    if !f.meets then s2
    else if s2.dirValid d then
      let s3 := { s2 with ledg := { s2.ledg with dev := md s2.ledg.dev d (fun x => { x with ok := true, failed := false }) } }
      let top := match s3.newestRec with | some (_, _, q) => q + 1 | none => 0
      let up := top - (s3.ledg.rseq - s3.ledg.queue.length)
      let s4 := { s3 with ledg := { s3.ledg with
          heads := tgen 6 s3.scanHead, rseq := s3.ledg.rseq + up,
          queue := s3.ledg.queue.map (fun (j : RecJob) => { j with rseq := j.rseq + up }) } }
      ({ s4 with ledg := { s4.ledg with bg := s4.ledg.bg ++ s4.repairJobs } }).unraise 153 d
    else
      let s3 := s2.dirWrite d
      let src := (rd s3.ledg.dev (1 - d)).ok
      let n := if src then sumN 6 (fun a => (s3.areaRecs a).length) else 0
      { s3 with ledg := { s3.ledg with resilver := some d, rsCount := n, bg := s3.ledg.bg ++ (if src then [s3.resilverJob d] else []) } }

/-- RESILVER_DONE: once the resilver's job has ended, the device is healthy again (R425). -/
def resilverDone (s : State) : State :=
  match s.ledg.resilver with
  | none => s
  | some d =>
    if s.ledg.bg.any (fun b => b.kind == .resilver) || (match s.ledg.bgCur with | some b => b.kind == .resilver | none => false) then s
    else
      let s0 := { s with ledg := { s.ledg with resilver := none, dev := md s.ledg.dev d (fun x => { x with ok := true, failed := false }) } }
      let s1 := { s0 with ledg := { s0.ledg with heads := tgen 6 s0.scanHead } }
      ((s1.unraise 153 d).count 0x71 d s.ledg.rsCount).setEvt 3 0

/-- The bytes of a record's existing copy. -/
def recBytesAt (s : State) (a i : Nat) : List Byte :=
  let m := if (rd s.ledg.dev 0).ok && (copyRseq (s.norMem 0) a i).isSome then s.norMem 0 else s.norMem 1
  Mem.readN 0xFF m (slotAddr a i) (area a).size

/-- EXPORT_RELEASE, EXPORT_HOLD_TIMEOUT and a t_trip that enters Save clear HOLD (R429). -/
def clearHold (s : State) : State := { s with ledg := { s.ledg with hold := false } }

/-- LEDGER_WINDOW_READ of a device under a view (R428): the word, or none where the device is busy or failed. -/
def norWindow (s : State) (view : Bool) (dev ofs : Nat) : Option Word :=
  let ready := fun d => (rd s.ledg.dev d).ok && !s.norBusy d
  let pick := if dev = 1 then (if ready 0 then some 0 else none)
    else if dev = 2 then (if ready 1 then some 1 else none)
    else if ready 0 then some 0 else if ready 1 then some 1 else none
  pick.map (fun d => Mem.word 0xFF (s.norMem d) (ofs + if view then 0x400000 else 0))

end State
end Sys2Proof.Machine
end

