-- ==== Sys2Proof/Machine/Rails.lean ====
section
/-! DEFINITION. Rail sequencing and supervision (09): rises and down sequences, failures and retries, supervision of running
rails, the shared fault line, push-button, margining, snapshots. -/

namespace Sys2Proof.Machine
namespace State

/-! ### Slots -/

abbrev slot (s : State) (n : Nat) : Slot := rd s.seq.slots n
abbrev slotCfg (s : State) (n : Nat) : SlotCfg := rd s.bimg.img.slots n

/-- Change a slot. -/
def mdSlot (n : Nat) (f : Slot → Slot) (s : State) : State := { s with seq := { s.seq with slots := md s.seq.slots n f } }

/-- EN_nn asserted: its latch holds the level that ACT_LO makes the active one. -/
def en (s : State) (n : Nat) : Bool := s.aon.en.getLsbD n != (s.slotCfg n).actLo

/-- The monitor and unused slots, whose EN_nn is held deasserted (R301). -/
def fixedOff (c : SlotCfg) : Bool := c.cls == 0 || c.role == 4

/-- Drive EN_nn, in the polarity ACT_LO gives: monitor and unused slots are held deasserted (R301), and in a pair a SHARED slot is driven only
by the token holder (R302), whose latch is otherwise at high impedance. -/
def setEn (n : Nat) (b : Bool) (s : State) : State :=
  let c := s.slotCfg n
  if fixedOff c then s
  else if c.shared && s.paired && !s.pair.drv then s
  else
    let m : BitVec 64 := BitVec.ofNat 64 (2 ^ n)
    { s with aon := { s.aon with en := if b != c.actLo then s.aon.en ||| m else s.aon.en &&& ~~~m, rel := s.aon.rel &&& ~~~m } }

/-- A slot is stuck no more, once it is below off or enabled: its sub-source of RAIL_STUCK ends (R312, R380; DEDUCED, log entry 205). -/
def unstick (n : Nat) (s : State) : State := if (s.slot n).stuck then (s.mdSlot n (fun x => { x with stuck := false })).unraise 124 n else s

/-- The bitmap of the slots `f` selects. -/
def slotSet (f : Nat → Bool) : BitVec 64 := BitVec.ofNat 64 ((List.range 64).foldl (fun a n => a + if f n then 2 ^ n else 0) 0)

/-- The level a slot's pull gives, in the polarity ACT_LO gives: a string isolation slot connected, every other deasserted (R301, R518). -/
def pullLevel (c : SlotCfg) : Bool := (!fixedOff c && c.role == 5) != c.actLo

/-- The levels the pulls give. -/
def pulls (s : State) : BitVec 64 := slotSet (fun n => pullLevel (s.slotCfg n))

/-- What the acceptance of an image drives: after an AON power-up every latch at the level its pull gives (R518); later the slots that this image
leaves unused or makes monitors, deasserted (R301), every other latch keeping its level. On a controller of a pair without the token
the latches of SHARED slots are at high impedance (R302). -/
def firstDrive (s : State) : State :=
  let shared := if s.paired then slotSet (fun n => (s.slotCfg n).cls != 0 && (s.slotCfg n).shared) else 0
  let m := if s.aon.armed518 then slotSet (fun n => fixedOff (s.slotCfg n)) ||| s.aon.rel else slotSet (fun _ => true)
  { s with aon := { s.aon with
    armed518 := true, shared, en := (s.aon.en &&& ~~~m) ||| (s.pulls &&& m), rel := if s.pair.drv then 0 else shared } }

/-- Isolation slots whose latch connects their string are judged from the acceptance of an image on; no rise raises them (R280, R313). -/
def isoJoin (s : State) : State :=
  forN 64 (fun n t => if (t.slotCfg n).cls != 0 && (t.slotCfg n).role == 5 && t.en n then
    t.mdSlot n (fun x => { x with st := 4, rise := 0, tS := t.seq.up, tQ := none, goodOnce := false, edge := false }) else t) s

/-- Isolation and monitor slots, which no sequence touches (R313). -/
def untouched (s : State) (n : Nat) : Bool := (s.slotCfg n).role == 4 || (s.slotCfg n).role == 5 || (s.slotCfg n).cls == 0

/-- Slot `n` belongs to sled `x`. -/
def ofSled (s : State) (x n : Nat) : Bool := let c := s.slotCfg n; c.cls != 0 && c.role == 3 && c.sled == x

/-- Slots of sled x. -/
def sledSlots (s : State) (x : Nat) : BitVec 64 := slotSet (s.ofSled x)

/-! ### Snapshots (R328) -/

/-- Whether the pads read: a released or deasserted isolation enable follows the pull. -/
def winBits (s : State) : Nat := (List.range 16).foldl (fun a m => a + (s.slot m).win * 16 ^ m) 0

/-- The snapshot body, Table 09-7. -/
def snapBody (cause slotNo : Nat) (s : State) : List Byte :=
  leBytes 4 0x534E4150 ++ leBytes 1 cause ++ leBytes 1 slotNo ++ leBytes 1 s.top.state.code ++ leBytes 1 (s.seq.attempt + 1)
    ++ leBytes 8 (slotSet s.en).toNat ++ leBytes 8 (slotSet (fun n => (s.slot n).pg)).toNat
    ++ leBytes 8 (slotSet (fun n => (s.slot n).st == 5)).toNat ++ leBytes 8 s.winBits
    ++ leBytes 2 (ofInt 16 s.pins.vaonMvA) ++ leBytes 2 (ofInt 16 s.pins.vaonMvB)
    ++ leBytes 1 (s.pins.pfiGood.toNat + 2 * (!(s.pins.seqfltLow || s.seq.drv)).toNat + 4 * (!s.pins.pbDown).toNat + 8 * (!(s.pins.mrLow || s.pins.mrWait)).toNat
        + 16 * s.top.swoBkp.toNat)
    ++ leBytes 1 ((List.range 8).foldl (fun a i => a + if rd s.pins.acgLow i then 0 else 2 ^ i) 0)
    ++ leBytes 2 (min 0xFFFF ((s.clk.l - s.seq.scanAt) / 1000)) ++ zeros 16
    ++ (List.range 64).flatMap (fun n => leBytes 4 (s.slot n).vs)
    ++ (List.range 16).flatMap (fun i => let x := rd s.aon.strs i
        leBytes 4 (ofInt 32 x.v) ++ leBytes 4 (ofInt 32 x.i) ++ leBytes 2 (ofInt 16 x.t) ++ leBytes 2 (x.present.toNat + 2 * x.sense.toNat))
    ++ (List.range 64).flatMap (fun n => let x := s.slot n
        leBytes 2 (min 0xFFFF x.chatA) ++ leBytes 2 (if s.en n then min 0xFFFF (s.seq.up - x.tS) else 0))
    ++ zeros 256

/-- FLT.LIVE as 32 bytes. -/
def liveBytes (s : State) : List Byte := (List.range 8).flatMap (fun k => leBytes 4 (bitmap k s.srcLive).toNat)

/-- Snapshot bodies waiting for the ledger. -/
def snapsWaiting (s : State) : Nat :=
  (s.ledg.queue.filter (fun j => j.kind == 2)).length + (match s.ledg.cur with | some w => (w.job.kind == 2).toNat | none => 0)

/-- Take a snapshot (R328): SEQ.SNAP, the snapshot record (R420), ledger code 0x31; with 4 bodies waiting it is not queued. -/
def snapshot (cause slotNo : Nat) (s : State) : State :=
  let b := s.snapBody cause slotNo
  let s1 := { s with seq := { s.seq with snap := b, lastCause := cause, lastSlot := slotNo, snaps := satAdd 0xFFFF s.seq.snaps 1 } }
  let s2 := s1.count 0x31 cause slotNo
  if 4 ≤ s2.snapsWaiting then s2.setEvt 4 6
  else s2.pushRec 2 0 s2.stamp (zeros 16 ++ b ++ s2.liveBytes ++ (List.range 8).flatMap (fun k => leBytes 4 ((s2.flt.cause >>> (32 * k)).toNat % 2 ^ 32)))

/-! ### Supervision of a slot (R319) -/

/-- Rail fault and warning of a slot clear when it leaves running supervision or recovers. -/
def clearRail (n : Nat) (flt wrn : Bool) (s : State) : State :=
  let x := s.slot n
  let s1 := s.mdSlot n (fun y => { y with fault := y.fault && !flt, warn := y.warn && !wrn })
  let s2 := if flt && x.fault then s1.unraise (114 + n / 8) n else s1
  if wrn && x.warn then s2.unraise (122 + n / 8) n else s2

/-- Good at this sample (R303). -/
def goodNow (s : State) (n : Nat) (pg : Bool) (win : Nat) : Bool :=
  match (s.slotCfg n).cls with
  | 1 => pg
  | 2 => if (s.slot n).st = 5 then win / 4 = 0 else win % 4 = 0
  | _ => false

/-- A sample of PG_nn and the window comparators (R303, R305, R319); an unused slot's PG_nn is sampled and nothing is judged. -/
def sampleSlot (pg : BitVec 64) (win : BitVec 64) (n : Nat) (s : State) : State :=
  if (s.slotCfg n).cls = 0 then s.mdSlot n (fun x => { x with pg := pg.getLsbD n })
  else
    let p := pg.getLsbD n
    let w := if n < 16 then (win.toNat / 16 ^ n) % 16 else 0
    let g := s.goodNow n p w
    let s1 := s.mdSlot n (fun x => { x with pg := p, win := w, good := g, goodAt := if !g then none else if x.goodAt.isNone then some s.seq.up else x.goodAt, goodOnce := x.goodOnce || g, tQ := if !g then none else if x.tQ.isNone && x.st == 5 then some s.seq.up else x.tQ })
    s1.clearRail n g (w % 4 == 0)

/-! ### Rises (R307, R308) -/

/-- Classify one slot at the start of a rise (R307). A string isolation slot that is not connected is left out too: no sequence connects it (R313). -/
def joinRise (k n : Nat) (s : State) : State :=
  let c := s.slotCfg n
  let s1 := s.clearRail n true true
  let q : Slot → Slot := fun x => { x with st := 4, rise := k, tS := s.seq.up, tQ := none, goodOnce := false, edge := false, started := false, svcDown := false }
  if (c.role == 3 && !(rd s.pins.sledPrs c.sled)) || (c.role == 5 && !s.en n) then s1.mdSlot n (fun x => { x with st := 1, rise := 0, svcDown := false })
  else if s.en n || c.role == 4 then s1.mdSlot n q
  else s1.mdSlot n (fun x => { x with st := 2, rise := k, started := false, svcDown := false, tQ := none, goodOnce := false, edge := false })

/-- Whether every slot of rise `k` has qualified (R309). -/
def riseFull (s : State) (k : Nat) : Bool := (idxs 64 (fun n => (s.slot n).rise == k && (s.slot n).st != 5)).isEmpty

/-- A rise that is full ends (R309). -/
def endRise (k : Nat) (s : State) : State :=
  if !s.riseFull k then s
  else
    let s1 := forN 64 (fun n t => if (t.slot n).rise = k then t.mdSlot n (fun x => { x with rise := 0, savedDown := if k = 2 then false else x.savedDown }) else t) s
    let more := !(idxs 64 (fun n => (s1.slot n).rise != 0 && (s1.slot n).rise < 4)).isEmpty
    if k < 4 then { s1 with seq := { s1.seq with rising := more, phase := if s1.seq.downs.isEmpty then (if more then 1 else 2) else s1.seq.phase, runDone := s1.seq.runDone || k == 1, restTries := if k = 2 then 0 else s1.seq.restTries } }
    else { s1 with seq := { s1.seq with sledTries := wr s1.seq.sledTries (k - 4) 0 } }

/-- A rise some slots have just left: it ends where the others have all qualified; `was` is the state before they left. -/
def leftRise (was : State) (k : Nat) (s : State) : State :=
  if (idxs 64 (fun n => (was.slot n).rise == k)).isEmpty then s else s.endRise k

/-- The Run, Restore and Service rises that some slots have just left. -/
def leftRises (was s : State) : State := forL [1, 2, 3] (leftRise was) s

/-- Start a rise over a set of slots; one with no slot to raise is full at once. -/
def startRise (k : Nat) (set : BitVec 64) (s : State) : State :=
  let s1 := forN 64 (fun n t => if set.getLsbD n then t.joinRise k n else t) s
  ({ s1 with seq := { s1.seq with rising := s1.seq.rising || k < 4, phase := if k < 4 then 1 else s1.seq.phase, resting := if k < 4 then none else s1.seq.resting } }).endRise k

/-- The Run rise (Table 09-3): slots with RUN = 1, but for those of a failed sled (R318). -/
def startRun (s : State) : State :=
  let s1 := forN 64 (fun n t => t.mdSlot n (fun x => { x with chatA := 0 })) { s with seq := { s.seq with runDone := false, lastKa := none } }
  s1.startRise 1 (slotSet (fun n => (s.slotCfg n).cls != 0 && (s.slotCfg n).run && !((s.slotCfg n).role == 3 && rd s.seq.sledDead (s.slotCfg n).sled)))

/-- The Restore rise (Table 09-3). -/
def startRestore (s : State) : State :=
  s.startRise 2 (slotSet (fun n => (s.slot n).savedDown && (s.slotCfg n).run))

/-- The rise of one sled (Table 09-3). -/
def startSled (x : Nat) (s : State) : State := s.startRise (4 + x) (s.sledSlots x)

/-- One slot of the up algorithm (R308); a slot the estimator enabled (R280) qualifies outside any rise. -/
def upSlotStep (n : Nat) (s : State) : State :=
  let x := s.slot n
  let c := s.slotCfg n
  let now := s.seq.up
  if (x.rise = 0 && x.st != 4) || (x.rise != 0 && x.rise < 4 && !s.seq.rising) then s
  else
    let s1 := if x.st = 2 && c.deps.all (fun d => (s.slot d).st == 5) then s.mdSlot n (fun y => { y with st := 3, tD := now }) else s
    let y := s1.slot n
    let s2 := if y.st = 3 && c.delay ≤ now - y.tD
        && (c.role != 2 || match s1.seq.lastKa with | some t => decide (s1.im.seq.stagger ≤ now - t) | none => true) then
        let s3 := ((s1.unstick n).setEn n true).mdSlot n (fun z => { z with st := 4, tS := now, tQ := none, offAt := none, started := true, goodOnce := false, edge := false })
        if c.role = 2 then { s3 with seq := { s3.seq with lastKa := some now } } else s3
      else s1
    let z := s2.slot n
    if z.st = 4 then
      s2.mdSlot n (fun w =>
        let w1 := if w.edge then { w with tQ := none, edge := false } else w
        let w2 := if w1.good && w1.tQ.isNone then { w1 with tQ := some now } else w1
        match w2.tQ with
        | some t => if c.tQual ≤ now - t then { w2 with st := 5 } else w2
        | none => w2)
    else s2

/-- RAIL_UP_TICK: sample every slot, advance the rise clock, carry the slots forward in ascending order (R308); a rise whose last slot has qualified
ends (R309). -/
def railUp (pg win : BitVec 64) (s : State) : State :=
  let s1 := forN 64 (sampleSlot pg win) { s with seq := { s.seq with up := s.seq.up + 1 } }
  forL [1, 2, 3, 4, 5, 6, 7] (leftRise s1) (forN 64 upSlotStep s1)

/-- A slot fallen under R317 that SVC_RETRY raises again: not one of a sled that is absent, failed or switched out (R309, R318). -/
def fallen (s : State) (n : Nat) : Bool :=
  let c := s.slotCfg n
  (s.slot n).svcDown && !(c.role == 3 && (!(rd s.pins.sledPrs c.sled) || rd s.seq.sledDead c.sled || (rd s.vault.sleds c.sled).switched))

/-- The Run rise is complete in the sense of R309: done, and in Service no fallen slot that has not requalified. -/
def runComplete (s : State) : Bool := s.seq.runDone && (idxs 64 (fun n => s.fallen n || (s.slot n).rise == 3)).isEmpty

/-- SLOT_QUALIFY: a slot good for T_QUAL without a break qualifies (R305). -/
def qualify (n : Nat) (s : State) : State :=
  let x := s.slot n
  match x.tQ with
  | none => s
  | some t =>
    if x.st = 4 && (s.slotCfg n).tQual ≤ s.seq.up - t then
      let s1 := s.mdSlot n (fun y => { y with st := 5 })
      if x.rise = 0 then s1 else s1.endRise x.rise
    else s

/-- CHATTER_EDGE: a qualifying slot that has been good goes to not good (R305). -/
def chatterEdge (n : Nat) (s : State) : State :=
  let x := s.slot n
  if x.st = 4 && x.goodOnce then
    (s.mdSlot n (fun y => { y with edge := true, good := false, tQ := none, chatter := satAdd 0xFFFF y.chatter 1, chatA := satAdd 0xFFFF y.chatA 1 })).count
      0x30 n (s.seq.attempt + 1)
  else s

/-! ### Down sequences (R311 to R313) -/

/-- The STATUS.PROFILE code of a down sequence. -/
def downProfile : DownKind → Nat
  | .saveProfile => 1 | .holdProfile => 2 | .sled _ => 3 | .sledRetry _ => 3 | .sledDead _ => 3 | .sledDrain _ => 3 | _ => 0

/-- Begin a down sequence over a set of slots, isolation and monitor slots left out of it (R313); slots of it that are not enabled leave
their rise, and count as deasserted from now on where no sequence deasserted them before (R312). -/
def beginDown (kind : DownKind) (set0 : BitVec 64) (s : State) : State :=
  let set := slotSet (fun n => set0.getLsbD n && !s.untouched n)
  let s1 := forN 64 (fun n t => if set.getLsbD n then t.mdSlot n (fun x => { x with
      rise := 0, offAt := if t.en n then none else some (x.offAt.getD t.seq.dn), st := if t.en n then x.st else if x.st = 7 then 7 else 1 }) else t) s
  { s1 with seq := { s1.seq with phase := 3, profile := downProfile kind, downs := s1.seq.downs ++ [{ kind, set }] } }

/-- Every enabled slot a sequence may touch, but for load slots the estimator drives only under the Save profile. -/
def enabledSet (s : State) (f : Nat → Bool) : BitVec 64 := slotSet (fun n => s.en n && !s.untouched n && f n)

/-- A slot counts as below off for R311. -/
def isOff (s : State) (n : Nat) : Bool := (s.slot n).belowOff || (s.slot n).stuck

/-- A save report waits to be sealed in the ledger (R148). -/
def reportPending (s : State) : Bool :=
  s.ledg.queue.any (fun j => j.kind == 3) || (match s.ledg.cur with | some w => w.job.kind == 3 | none => false)

/-- A write of a sled descriptor. -/
def isDescWrite : Why → Bool
  | .sys 0 _ _ _ _ => true
  | _ => false

/-- A sled descriptor's rewrite is not complete (R137, R148). -/
def rewritesPending (s : State) : Bool :=
  s.vault.epochPend || s.vault.ready.any (fun j => isDescWrite j.why)
    || (List.range 32).any (fun r => (rd s.vault.rings r).slots.any (fun e => e.2.status % 256 == 0 && isDescWrite e.2.why))

/-- gate_open of R311: the Hold profile holds sled slots back until every keep-alive slot is below off, and card and general
slots until every sled slot is and the save report is sealed (Table 09-3). -/
def gateOpen (s : State) (d : Down) (n : Nat) : Bool :=
  if d.kind != .holdProfile then true
  else
    let off := fun r => (idxs 64 (fun m => d.set.getLsbD m && (s.slotCfg m).role == r && !s.isOff m)).isEmpty
    match (s.slotCfg n).role with
    | 3 => off 2 && !s.rewritesPending
    | 0 => off 2 && off 3 && !s.reportPending
    | 1 => off 2 && off 3 && !s.reportPending
    | _ => true

/-- One slot of the down algorithm (R311). -/
def downSlotStep (d : Down) (n : Nat) (s : State) : State :=
  if !d.set.getLsbD n then s
  else
    let now := s.seq.dn
    let waits := idxs 64 (fun m => d.set.getLsbD m && (s.slotCfg m).deps.contains n && !s.isOff m)
    let s1 := if s.en n && (s.slot n).st != 6 && waits.isEmpty && s.gateOpen d n then
        (s.clearRail n true true).mdSlot n (fun x => { x with st := 6, tF := now }) else s
    let x := s1.slot n
    if x.st = 6 && s1.en n && (s1.slotCfg n).ddelay ≤ now - x.tF then
      (s1.setEn n false).mdSlot n (fun y => { y with offAt := some now })
    else if !s1.en n && s1.isOff n && x.st = 6 then s1.mdSlot n (fun y => { y with st := 1 })
    else s1

/-- Every slot of a down sequence has its enable deasserted and is below off or stuck (R311). -/
def downEnded (s : State) (d : Down) : Bool := (idxs 64 (fun n => d.set.getLsbD n && (s.en n || !s.isOff n))).isEmpty

/-- Assert SEQFLT_N and take the latch snapshot (R314, R316); priority 2 of Table 01-6 follows. -/
def seqLatch (s : State) : State :=
  let s1 := { s with seq := { s.seq with drv := true, phase := 0 }, top := { s.top with wantLatch := true } }
  (s1.snapshot 0x04 0xFF).setEvt 4 2

/-- Restart the rise of the slots fallen in Service (R317). -/
def startSvc (s : State) : State :=
  ({ s with seq := { s.seq with svcRetry := false } }).startRise 3 (slotSet s.fallen)

/-- STATUS.PHASE once a partial down sequence has ended: falling while another runs, rising while a rise runs, all up, or idle. -/
def phaseAfter (s : State) : State :=
  { s with seq := { s.seq with phase := if s.seq.downs.isEmpty then (if s.seq.rising then 1 else if s.seq.runDone then 2 else 0) else 3 } }

/-- What follows the end of a down sequence. -/
def downEnd (k : DownKind) (s : State) : State :=
  match k with
  | .saveProfile => { s with seq := { s.seq with phase := 0 } }
  | .holdProfile => { s with seq := { s.seq with fallDone := true, phase := 4, resting := some k } }
  | .fallRun => { s with seq := { s.seq with fallDone := true, phase := 4, resting := some k } }
  | .attempt => { s with seq := { s.seq with phase := 4, resting := some k } }
  | .attemptLatch => s.seqLatch
  | .redo => { s with seq := { s.seq with phase := 5 } }
  | .restore => { s with seq := { s.seq with phase := 4, resting := some k } }
  | .restoreLatch => s.seqLatch
  | .service => if s.seq.svcRetry && !s.seq.downs.any (fun d => d.kind == .service) then s.startSvc else s.phaseAfter
  | .sledRetry x => { s.phaseAfter with seq := { s.phaseAfter.seq with sledRest := wr s.seq.sledRest x true } }
  | .sledDead x => { s.phaseAfter with seq := { s.phaseAfter.seq with sledDead := wr s.seq.sledDead x true } }
  | .sled _ => s.phaseAfter
  | .sledDrain _ => s.phaseAfter

/-- RAIL_DOWN_TICK: advance the down clock, step every running down sequence, and carry out what follows those that end. -/
def railDown (s : State) : State :=
  let s1 := { s with seq := { s.seq with dn := s.seq.dn + 1 } }
  let ds := s1.seq.downs
  let s2 := forL ds (fun d t => forN 64 (downSlotStep d) t) s1
  let done := ds.filter (fun d => s2.downEnded d)
  let s3 := { s2 with seq := { s2.seq with downs := ds.filter (fun d => !s2.downEnded d) } }
  forL done (fun d t => t.downEnd d.kind) s3

/-- VS_SCAN: the converter has scanned all 64 inputs (R304); a slot found below off is stuck no more. -/
def vsScan (codes : List Nat) (s : State) : State :=
  let s1 := forN 64 (fun n t =>
    let c := t.slotCfg n
    let v := (codes.getD n 0 * c.scale) / 4096
    t.mdSlot n (fun x =>
      let run := if v < c.vOff then min 2 (x.belowRun + 1) else 0
      { x with vs := v, belowRun := run, belowOff := run == 2 })) s
  forL (idxs 64 (fun n => (s1.slot n).stuck && (s1.slot n).belowOff)) unstick { s1 with seq := { s1.seq with scanAt := s1.clk.l } }

/-- SLOT_STUCK: a slot of a down sequence, disabled for STUCK_T and still not below off (R312). -/
def slotStuck (n : Nat) (s : State) : State :=
  let x := s.slot n
  match x.offAt with
  | none => s
  | some t =>
    if s.seq.downs.any (fun d => d.set.getLsbD n) && !s.en n && !x.belowOff && !x.stuck && s.im.seq.stuckT * 10 ≤ s.seq.dn - t then
      let s1 := s.mdSlot n (fun y => { y with stuck := true })
      (((s1.snapshot 0x05 n).raise 124 n none)).setEvt 4 5
    else s

/-! ### Failures (R306, R314 to R318) -/

/-- The slots that depend on a set, directly or through others, with the set. -/
def dependants (s : State) (set : BitVec 64) : BitVec 64 :=
  iter 64 (fun b => slotSet (fun m => b.getLsbD m || ((s.slotCfg m).cls != 0 && (s.slotCfg m).deps.any (fun d => b.getLsbD d)))) set

/-- Stop the up algorithm of a rise: slots of it not yet enabled go back to off. -/
def stopRise (k : Nat) (s : State) : State :=
  let s1 := forN 64 (fun n t => let x := t.slot n
    if x.rise = k then t.mdSlot n (fun y => { y with rise := 0, st := if t.en n then y.st else if y.st = 7 then 7 else 1 }) else t) s
  if k < 4 then { s1 with seq := { s1.seq with rising := false } } else s1

/-- Every rise stops: the whole table is about to fall. A sled's retry no longer waits, nor will one whose slots are still falling; its slots
rise with the rest again. -/
def stopAll (s : State) : State :=
  let s1 := forN 64 (fun n t => if (t.slot n).rise = 0 then t
    else t.mdSlot n (fun y => { y with rise := 0, st := if t.en n then y.st else if y.st = 7 then 7 else 1 })) s
  { s1 with seq := { s1.seq with
    rising := false, runDone := false, sledRest := tall 4 false
    downs := s1.seq.downs.map (fun d => match d.kind with | .sledRetry x => { d with kind := .sled x } | _ => d) } }

/-- A failed attempt of the Run rise in Rise (R314). -/
def attemptFail (s : State) : State :=
  let s1 := { s with seq := { s.seq with fails := satAdd 0xFFFF s.seq.fails 1 } }
  let s2 := s1.stopAll
  s2.beginDown (if s2.seq.attempt < s2.im.seq.nRetry then .attempt else .attemptLatch) (s2.enabledSet (fun _ => true))

/-- A sled's slots fail (R318). -/
def sledGroupFail (x : Nat) (s : State) : State :=
  let t := rd s.seq.sledTries x + 1
  let s1 := { s with seq := { s.seq with fails := satAdd 0xFFFF s.seq.fails 1, sledTries := wr s.seq.sledTries x t } }
  let set := s1.sledSlots x
  leftRises s (s1.beginDown (if t ≤ s1.im.seq.nRetry then .sledRetry x else .sledDead x) set)

/-- A slot other than a sled slot fails in Service (R317): it falls, and of its dependants those that are up; one that its rise has not enabled waits for
its dependencies again. A load slot is the estimator's to raise (R280). -/
def serviceFail (n : Nat) (s : State) : State :=
  let all := s.dependants (slotSet (· == n))
  let set := slotSet (fun m => m == n || (all.getLsbD m && s.en m && !s.untouched m))
  let s1 := forN 64 (fun m t =>
    if set.getLsbD m then t.mdSlot m (fun x => { x with rise := 0, svcDown := (s.slotCfg m).role != 6 })
    else if all.getLsbD m && (t.slot m).st = 3 then t.mdSlot m (fun x => { x with st := 2 }) else t) s
  leftRises s (s1.beginDown .service set)

/-- A Restore rise fails (R316). -/
def restoreFail (s : State) : State :=
  let set := slotSet (fun n => (s.slot n).rise == 2 && (s.slot n).started)
  let s1 := s.stopRise 2
  s1.beginDown (if s1.seq.restTries < s1.im.seq.nRetry then .restore else .restoreLatch) set

/-- A slot fails in its rise (R306, R314, R316, R317, R318), with the snapshot cause of Table 09-6. A rise that Service began and Ride or Save found
running goes on as Service had it: no attempt of R314 runs outside Rise (DEDUCED, log entry 220). -/
def slotFail (n cause : Nat) (s : State) : State :=
  let x := s.slot n
  let c := s.slotCfg n
  let s1 := ((s.mdSlot n (fun y => { y with st := 7 })).snapshot cause n).setEvt 4 0
  if c.role = 3 then s1.sledGroupFail c.sled
  else if x.rise = 2 then s1.restoreFail
  else if s.top.state = .rise then s1.attemptFail
  else s1.serviceFail n

/-- SLOT_TIMEOUT: not qualified by its start reference + T_OUT (R306). -/
def slotTimeout (n : Nat) (s : State) : State :=
  let x := s.slot n
  if x.st = 4 && x.rise != 0 && (s.slotCfg n).tOut * 10 ≤ s.seq.up - x.tS then s.slotFail n 0x01 else s

/-- SLOT_GOOD_LOST: good lost after qualifying while its rise still runs (R306). -/
def slotGoodLost (n : Nat) (s : State) : State :=
  let x := s.slot n
  if x.st = 5 && x.rise != 0 then s.slotFail n 0x02 else s

/-- In Rise, SEQFLT_N low or an input that ceases to be present ends the attempt without charging it (R321). While a failed attempt rests the
next one is the current. -/
def riseAbort (s : State) : State :=
  if s.top.state = .rise && (s.seq.rising || s.seq.runDone || s.seq.phase == 4) && !(s.seq.downs.any (fun d => d.kind == .redo || d.kind == .attemptLatch)) then
    let s0 := s.stopAll
    let next := s.seq.resting == some DownKind.attempt
    let s1 := { s0 with seq := { s0.seq with resting := none, attempt := if next then s.seq.attempt + 1 else s.seq.attempt, retry := next || s.seq.retry } }
    s1.beginDown .redo (s1.enabledSet (fun _ => true))
  else s

/-- An input that ceases to be present, whatever reported it (R321). -/
def inputGone (was s : State) : State := if was.inputPresent && !s.inputPresent && s.ctlOn then s.riseAbort else s

/-- The Run rise starts after the wait of R310; where the attempt is a retry that has not started yet, it starts now (R314, R328). -/
def startWaited (s : State) : State :=
  if s.seq.retry then (({ s with seq := { s.seq with retry := false } }).snapshot 0x03 0xFF).setEvt 4 1 |>.startRun else s.startRun

/-- Rise entry (R310): the Run rise starts at once with SEQFLT_N high and the input present, or waits. -/
def riseEntry (s : State) : State :=
  let s1 := { s with seq := { s.seq with attempt := 0, retry := false, fallDone := false, restDone := false, resting := none } }
  if !s1.pins.seqfltLow && s1.inputPresent then s1.startRun else { s1 with seq := { s1.seq with phase := 5 } }

/-- REST_EXPIRY: REST has elapsed, after a down sequence or with SEQFLT_N high (R310, R314 to R316, R318, R321). `x` names a
sled whose retry is due; without it the sequence that rests. -/
def restExpiry (x : Option Nat) (s : State) : State :=
  match x with
  | some k =>
    if rd s.seq.sledRest k then
      let s1 := { s with seq := { s.seq with sledRest := wr s.seq.sledRest k false } }
      (((s1.snapshot 0x03 0xFF).setEvt 4 1)).startSled k
    else s
  | none =>
    match s.seq.resting with
    | some .attempt =>
      if s.top.state = .rise then
        let s1 := { s with seq := { s.seq with attempt := s.seq.attempt + 1, retry := true, resting := none } }
        if s.pins.seqfltLow || !s.inputPresent then { s1 with seq := { s1.seq with phase := 5 } } else s1.startWaited
      else s
    | some .restore =>
      if s.inState [.ret, .ready, .ride, .service] then
        let s1 := { s with seq := { s.seq with restTries := s.seq.restTries + 1, resting := none } }
        ((s1.snapshot 0x03 0xFF).setEvt 4 1).startRestore
      else s
    | some .holdProfile => { s with seq := { s.seq with restDone := true } }
    | some .fallRun => { s with seq := { s.seq with restDone := true } }
    | _ =>
      if s.top.state = .rise && s.seq.phase = 5 && !s.pins.seqfltLow && s.inputPresent then s.startWaited
      else if s.top.state = .latched && s.top.wantUnlatch && !s.pins.seqfltLow then { s with seq := { s.seq with restDone := true } }
      else s

/-- SVC_RETRY: restart the rise of slots fallen in Service (R317); a 0 takes a request back; ignored in every other state. -/
def svcRetryWrite (b : Bool) (s : State) : State :=
  if s.top.state ≠ .service then s
  else if !b then { s with seq := { s.seq with svcRetry := false } }
  else if s.seq.downs.any (fun d => d.kind == .service) then { s with seq := { s.seq with svcRetry := true } }
  else if (idxs 64 s.fallen).isEmpty then s else s.startSvc

/-- RAIL_FAULT, the sequencer's part: a qualified slot outside a rise that is not good at 4 samples (R319). -/
def railFault (n : Nat) (s : State) : State :=
  let x := s.slot n
  if x.st = 5 && x.rise = 0 && !x.fault then
    ((((s.mdSlot n (fun y => { y with fault := true, good := false })).raise (114 + n / 8) n none)).snapshot 0x07 n).setEvt 4 4
  else s

/-- RAIL_WARN: a measured slot outside its warning window at 4 samples (R319); masked under R326 and R327. -/
def railWarn (n : Nat) (s : State) : State :=
  let x := s.slot n
  if (s.slotCfg n).cls = 2 && x.st = 5 && x.rise = 0 && !x.mask && !x.warn then
    ((s.mdSlot n (fun y => { y with warn := true })).raise (122 + n / 8) n none).setEvt 4 4
  else s

/-- The Save profile goes down at t_trip (R147): enabled slots with SAVE = 0. Slots with SAVE = 0 that a rise has not enabled yet leave it, and
the Restore rise takes them too (DEDUCED, log entry 176). -/
def saveProfileDown (s : State) : State :=
  let set := s.enabledSet (fun n => !(s.slotCfg n).save)
  let s1 := forN 64 (fun n t =>
    if set.getLsbD n then t.mdSlot n (fun x => { x with savedDown := true })
    else if (t.slot n).rise != 0 && !(t.slotCfg n).save then t.mdSlot n (fun x => { x with rise := 0, st := if t.en n then x.st else 1, savedDown := true })
    else t) s
  { s1 with seq := { s1.seq with resting := none } }.beginDown .saveProfile set

/-- Entry to Fall starts its down sequence (Table 09-3). -/
def fallDown (hold : Bool) (s : State) : State :=
  let s1 := forN 64 (fun n t => t.mdSlot n (fun x => { x with savedDown := false, svcDown := false, rise := 0 })) s
  let s2 := { s1 with seq := { s1.seq with rising := false, runDone := false, fallDone := false, restDone := false, downs := [], resting := none, sledRest := tall 4 false } }
  s2.beginDown (if hold then .holdProfile else .fallRun) (s2.enabledSet (fun _ => true))

/-! ### The shared fault line, push-button -/

/-- SEQFLT_LOW: the line is pulled low by another sequencer (R320, Table 09-4); ignored while this controller drives it. -/
def seqfltLow (s : State) : State :=
  if s.seq.drv || !s.ctlOn then s
  else
    let s1 := { s with pins := { s.pins with seqfltLow := true }, seq := { s.seq with ext := satAdd 0xFFFF s.seq.ext 1 } }
    let s2 := ((s1.count 0x34 0 0).snapshot 0x06 0xFF).setEvt 4 8
    if s2.top.state = .rise then s2.riseAbort
    else if s2.pair.drv && s2.inState [.ready, .ride, .service, .ret] then { s2 with top := { s2.top with wantSeqflt := true } }
    else s2

/-- Count a press or hold in the ledger where the control island is powered (code 0x33). -/
def pbCount (unit len : Nat) (s : State) : State := if s.ctlOn then s.count 0x33 unit len else s

/-! ### Margining (R325 to R327, R470) -/

/-- Two entries of the device list are pages of one device: they have one address (R470; DEDUCED, log entry 186). -/
def sameDevice (s : State) (d e : Nat) : Bool := (rd s.im.pmb d).addr == (rd s.im.pmb e).addr

/-- Powers of 10 and of 2 applied to a number, as a numerator and a denominator. -/
def scale10 (n : Int) (e : Int) : Int × Int := if 0 ≤ e then (n * 10 ^ e.toNat, 1) else (n, 10 ^ (-e).toNat)
def scale2 (n : Int) (e : Int) : Int × Int := if 0 ≤ e then (n * 2 ^ e.toNat, 1) else (n, 2 ^ (-e).toNat)

/-- A target in mV in a device's output format (R325, R468): ULINEAR16 or DIRECT. The rule states no rounding, and nothing for a value the 16
bits do not hold; a free value decides (log entry 28). -/
def voutRaw (c : PmbCfg) (mv free : Nat) : Nat :=
  let x := if c.direct then
      let y := scale10 (c.m * mv + 1000 * c.b) c.r
      (y.1, 1000 * y.2)
    else
      let y := scale2 mv (-c.exp)
      (y.1, 1000 * y.2)
  let q := divF x.1 x.2
  let r := if q * x.2 = x.1 then q else q + (free % 2 : Nat)
  if c.direct then (if -32768 ≤ r && r < 32768 then ofInt 16 r else free % 65536)
  else if 0 ≤ r && r < 65536 then r.toNat else free % 65536

/-- SMBus's packet error code of a byte sequence, a CRC-8 of x^8 + x^2 + x + 1 (PRESUMED, log entry 184). -/
def pecOf (l : List Byte) : Byte :=
  l.foldl (fun (c : Byte) b => iter 8 (fun (x : Byte) => if x.getLsbD 7 then (x <<< 1) ^^^ 0x07#8 else x <<< 1) (c ^^^ b)) 0#8

/-- A write of the PMBus controller, with its PEC (R467): VOUT_MARGIN_HIGH and VOUT_MARGIN_LOW carry a word, PAGE and OPERATION a byte. -/
def txWrite (s : State) (d : Nat) (slot : Option Nat) (cmd v : Nat) : PmbTx :=
  let c := rd s.im.pmb d
  { dev := d, addr := c.addr, page := c.page, slot, cmd, data := some v
    pec := some (pecOf ([BitVec.ofNat 8 (2 * c.addr), BitVec.ofNat 8 cmd] ++ leBytes (if cmd = 0x25 || cmd = 0x26 then 2 else 1) v)) }

/-- A read of the PMBus controller. -/
def txRead (s : State) (d cmd : Nat) : PmbTx := { dev := d, addr := (rd s.im.pmb d).addr, page := (rd s.im.pmb d).page, cmd }

/-- Issue transactions to a device, with PAGE first where it differs from the last written (R467). -/
def pmbIssue (d : Nat) (slot : Option Nat) (l : List PmbTx) (s : State) : State :=
  let c := rd s.im.pmb d
  let pg := if c.page != 0xFF && rd s.rp.pageOf c.addr != c.page then [s.txWrite d slot 0x00 c.page] else []
  { s with rp := { s.rp with tx := s.rp.tx ++ pg ++ l, pageOf := if c.page = 0xFF then s.rp.pageOf else wr s.rp.pageOf c.addr c.page } }

/-- Issue the writes of a slot's margining to its device. -/
def pmbWrite (n : Nat) (l : List (Nat × Nat)) (s : State) : State :=
  let d := (s.slotCfg n).pmb
  s.pmbIssue d (some n) (l.map (fun x => s.txWrite d (some n) x.1 x.2))

/-- The transactions of a slot's margining have ended. -/
def pmbDone (n : Nat) (s : State) : State := { s with rp := { s.rp with tx := s.rp.tx.filter (fun x => x.slot != some n) } }

/-- Polls and calibration readings end, or are abandoned. -/
def pmbQuiet (s : State) : State := { s with rp := { s.rp with tx := s.rp.tx.filter (fun x => x.slot.isSome) } }

/-- The PMBus controller is not held in reset (R396). -/
def pmbRuns (s : State) : Bool := !(rd s.flt.blocks 14).held

/-- The devices of the fixed-power list (R161). -/
def fixDevs (s : State) : List Nat := (idxs 16 (fun i => rd s.im.pol.fixPwr i != 0x7F)).map (rd s.im.pol.fixPwr ·)

/-- The next readings of a calibration save are issued: READ_VOUT and READ_IOUT of each listed device (R161, R467, R471). -/
def calIssue (s : State) : State := forL s.fixDevs (fun d t => t.pmbIssue d none [t.txRead d 0x8B, t.txRead d 0x8C]) s.pmbQuiet

/-- READ_VOUT in V as numerator and denominator (R468): ULINEAR16 or DIRECT. -/
def voutQ (c : PmbCfg) (raw : Nat) : Int × Int :=
  if c.direct then let x := scale10 (toSigned 16 raw) (-c.r); (x.1 - c.b * x.2, x.2 * c.m) else scale2 (raw % 65536) c.exp

/-- A LINEAR11 word as numerator and denominator. -/
def lin11Q (raw : Nat) : Int × Int := scale2 (toSigned 11 raw) (toSigned 5 (raw / 2048))

/-- READ_VOUT in mV. A value between two mV is left open: it rounds up or down by a free value (log entry 1); so is all of it where the image's M is 0. -/
def voutMv (c : PmbCfg) (raw free : Nat) : Int :=
  let x := voutQ c raw
  if x.2 = 0 then toSigned 32 free else let q := divF (x.1 * 1000) x.2; if q * x.2 = x.1 * 1000 then q else q + (free % 2 : Nat)

/-- LINEAR11 times `k`, rounded the same way. -/
def linear11 (k : Int) (raw free : Nat) : Int :=
  let x := lin11Q raw
  let q := divF (x.1 * k) x.2
  if q * x.2 = x.1 * k then q else q + (free % 2 : Nat)

/-- The sum of the products of voltage and current of devices, in uW rounded upward, from the words they answered; a voltage that an M of 0 leaves open is a
free value. -/
def powerUw (l : List (PmbCfg × Nat × Nat)) (free : Nat) : Int :=
  let q := l.foldl (fun (a : Int × Int) e =>
    let v := voutQ e.1 e.2.1
    let v := if v.2 = 0 then (toSigned 32 free, 1) else v
    let i := lin11Q e.2.2
    (a.1 * (v.2 * i.2) + v.1 * i.1 * a.2, a.2 * (v.2 * i.2))) (0, 1)
  let n := if q.2 < 0 then -q.1 else q.1
  let d := if q.2 < 0 then -q.2 else q.2
  (0 : Int) - divF (-(n * 1000000)) d

/-- The target clipped as R325 gives. -/
def clipTarget (c : SlotCfg) (t : Nat) : Nat :=
  let lo := ceilDiv (c.nom * 9) 10
  let hi := c.nom * 11 / 10
  let lo := if c.cls = 2 then max lo (c.fltLo + c.nom / 50) else lo
  let hi := if c.cls = 2 then min hi (c.fltHi - c.nom / 50) else hi
  max lo (min hi t)

/-- A slot is margined: DIR 1 or 2 (DIR 3 acts as 0). -/
def margined (x : Slot) : Bool := x.dir == 1 || x.dir == 2

/-- MARGIN_WRITE: a write of SEQ.SLOT[n].MARGIN, in Service only (R325, R470). One to an unused slot does nothing whatever its PMB, as the slot has no
rail (DESIGN CHOICE, log entry 198). -/
def marginWrite (n dir target : Nat) (s : State) : State :=
  let c := s.slotCfg n
  if s.top.state ≠ .service || c.cls = 0 || c.pmb = 0x7F then s
  else
    let other := (idxs 64 (fun m => m != n && (s.slotCfg m).pmb != 0x7F && s.sameDevice (s.slotCfg m).pmb c.pmb && margined (s.slot m)))
    if s.im.core.pmbSpeed ≠ 2 || !other.isEmpty then s.mdSlot n (fun x => { x with dir := 0 })
    else
      let t := clipTarget c target
      let s1 := s.mdSlot n (fun x => { x with dir, target := t, mclip := t != target, ack := false, mask := true })
      let s2 := if t != target then s1.setEvt 4 7 else s1
      let s3 := s2.clearRail n false true
      let raw := voutRaw (rd s.im.pmb c.pmb) t (Config.freeWord s.clk.free).toNat
      match dir with
      | 1 => (s3.pmbWrite n [(0x26, raw), (0x01, 0x98)]).tick
      | 2 => (s3.pmbWrite n [(0x25, raw), (0x01, 0xA8)]).tick
      | _ => s3.pmbWrite n [(0x01, 0x80)]

/-- The warning level moved by a margin and kept within the fault levels (R326). -/
def moveLevel (c : SlotCfg) (lvl target : Nat) : Nat :=
  (clampI c.fltLo c.fltHi ((lvl : Int) + target - c.nom)).toNat

/-- MARGIN_ACK: the OPERATION write is acknowledged, or not (R326, R327): a cancel's is sent again to its device at most 3 times, a margin's at most
twice (R467). An acknowledgement ends the slot's sub-source of RAIL_MARGIN (DEDUCED, log entry 205). -/
def marginAck (n : Nat) (ok : Bool) (s : State) : State :=
  let x := s.slot n
  let c := s.slotCfg n
  let s0 := s.pmbDone n
  if !s.pmbRuns then s
  else if x.cancel then
    if ok then (s0.mdSlot n (fun y => { y with cancel := false, ack := true, ctx := none })).unraise 125 n
    else if x.tries = 0 then (s0.mdSlot n (fun y => { y with cancel := false, ctx := none })).raise 125 n none
    else
      let s1 := s0.mdSlot n (fun y => { y with tries := y.tries - 1 })
      { s1 with rp := { s1.rp with tx := s1.rp.tx ++ x.ctx.toList } }
  else if !ok && x.mask && !x.ack then
    (match s.rp.tx.find? (fun t => t.slot == some n && t.cmd == 0x01) with
    | some t => if t.left = 0 then s0 else { s0 with rp := { s0.rp with tx := s0.rp.tx ++ [{ t with left := t.left - 1 }] } }
    | none => s)
  else if ok && x.mask && !x.ack then
    let lo := if margined x then moveLevel c c.warnLo x.target else c.warnLo
    let hi := if margined x then moveLevel c c.warnHi x.target else c.warnHi
    (s0.mdSlot n (fun y => { y with ack := true, warnLo := lo, warnHi := hi })).unraise 125 n
  else s

/-- WARN_MASK_END: 2 ms after the acknowledgement the warning source is unmasked (R326, R327). -/
def maskEnd (n : Nat) (s : State) : State :=
  if (s.slot n).ack && !(s.slot n).cancel then s.mdSlot n (fun y => { y with mask := false }) else s

/-- Margining is cancelled in hardware, at t_trip and at every transition that leaves Service (R327): transactions in progress are abandoned;
OPERATION 0x80 goes to each slot margined, or whose own return to nominal was not acknowledged yet. -/
def marginCancel (s : State) : State :=
  forN 64 (fun n t =>
    let x := t.slot n
    let c := t.slotCfg n
    if !(margined x || (x.mask && !x.ack && !x.cancel)) then t.mdSlot n (fun y => { y with dir := 0, warnLo := c.warnLo, warnHi := c.warnHi })
    else (t.mdSlot n (fun y => { y with
      dir := 0, warnLo := c.warnLo, warnHi := c.warnHi, mask := true, ack := false, cancel := true, tries := 3
      ctx := some (t.txWrite c.pmb (some n) 0x01 0x80) })).pmbWrite n [(0x01, 0x80)])
    { s with rp := { s.rp with tx := s.rp.tx.filter (fun x => match x.slot with | some n => (s.slot n).cancel | none => false) } }

/-- The warning levels of every slot from the image (R326). -/
def loadLevels (s : State) : State :=
  forN 64 (fun n t => t.mdSlot n (fun x => { x with warnLo := (t.slotCfg n).warnLo, warnHi := (t.slotCfg n).warnHi, st := if (t.slotCfg n).cls = 0 then 0 else 1 })) s

end State
end Sys2Proof.Machine
end

