-- ==== Sys2Proof/Machine/Energy.lean ====
section
/-! DEFINITION. Hold-up energy estimation (08): sampling and charge counting, presence and sense faults, anchors, capacity
learning and the learning discharge, estimates without history, E_pot, and the state image. -/

namespace Sys2Proof.Machine

/-! ### Curves (R286) -/

/-- Linear interpolation between the bounding temperature points, rounded downward; the nearest point outside them. -/
def curveAt (c : CurveCfg) (f : Nat → Int) (t : Int) : Int :=
  let p := fun j => c.tp.getD j 0
  if t ≤ p 0 then f 0
  else if p 3 ≤ t then f 3
  else
    let j := if t < p 1 then 0 else if t < p 2 then 1 else 2
    f j + divF ((f (j + 1) - f j) * (t - p j)) (p (j + 1) - p j)

/-- KT at a temperature: 0 outside the points (R286). -/
def ktAt (c : CurveCfg) (t : Int) : Int :=
  if t < c.tp.getD 0 0 || c.tp.getD 3 0 < t then 0 else curveAt c (fun j => (c.kt.getD j 0 : Int)) t

def ocvAt (c : CurveCfg) (t : Int) (i : Nat) : Int := curveAt c (fun j => (c.ocv.getD j []).getD i 0) t
def avlPt (c : CurveCfg) (t : Int) (i : Nat) : Int := curveAt c (fun j => (c.avl.getD j []).getD i 0) t
def rIntAt (c : CurveCfg) (t : Int) : Int := curveAt c (fun j => (c.rInt.getD j 0 : Int)) t

/-- The voltage SoC of a compensated voltage (R286). -/
def socOf (c : CurveCfg) (t voc : Int) : Nat :=
  if voc < ocvAt c t 0 then 0
  else if ocvAt c t 16 ≤ voc then 65536
  else
    let i := ((List.range 16).filter (fun k => decide (ocvAt c t k ≤ voc))).length - 1
    (4096 * (i : Int) + divZ (4096 * (voc - ocvAt c t i)) (ocvAt c t (i + 1) - ocvAt c t i)).toNat

/-- AVL at a state of charge (R286). -/
def avlAt (c : CurveCfg) (soc : Nat) (t : Int) : Int :=
  if 65536 ≤ soc then avlPt c t 16
  else
    let i := soc / 4096
    avlPt c t i + divF ((avlPt c t (i + 1) - avlPt c t i) * ((soc : Int) - 4096 * i)) 4096

/-- The floor of the mean of a list. -/
def meanF (l : List Int) : Int := if l.isEmpty then 0 else divF (l.foldl (· + ·) 0) l.length

/-- Count SoC (R276). -/
def socCount (q : Int) (c : Nat) : Nat := if c = 0 then 0 else min 65536 ((max q 0).toNat * 65536 / c)

/-- A converter code's value (R268). -/
def convert (code : Nat) (gain ofs : Int) : Int := divF (toSigned 16 code * gain) 65536 + ofs

/-- The converter's code of an input of `v` nV at a full scale of `full` nV, clipped to 0x7FFF and 0x8000 (R504). A half rounds upward (DESIGN CHOICE, log
entry 228). -/
def strCode (full v : Int) : Nat := ofInt 16 (clampI (-32768) 32767 (divF (2 * 32767 * v + full) (2 * full)))

/-- The codes of a triplet: 1.200 V full scale for V and T, 150 mV for the current (R504). -/
def tripletCodes (x : Int × Int × Int) : Nat × Nat × Nat := (strCode 1200000000 x.1, strCode 150000000 x.2.1, strCode 1200000000 x.2.2)

namespace State

abbrev str (s : State) (k : Nat) : Str := rd s.aon.strs k
abbrev strCfg (s : State) (k : Nat) : StrCfg := rd s.bimg.img.strs k
abbrev strCurve (s : State) (k : Nat) : CurveCfg := rd s.bimg.img.curves (s.strCfg k).curve

def mdStr (k : Nat) (f : Str → Str) (s : State) : State := { s with aon := { s.aon with strs := md s.aon.strs k f } }
def mdStrC (k : Nat) (f : StrC → StrC) (s : State) : State := { s with nrg := { s.nrg with c := md s.nrg.c k f } }

/-- Strobe time of this control-island run in us. -/
def strobeUs (s : State) : Nat := s.nrg.strobe * 250

/-- Count a string event with bits [31:0] of Q before it (R298, Table 13-5 kinds 0x40 to 0x4B). -/
def strCount (kind k : Nat) (q : Int) (s : State) : State := s.count kind k (ofInt 32 q)

/-- The wear source follows the health of the capacity in force; a string without one has no health (R278). -/
def judgeWear (k : Nat) (s : State) : State :=
  let g := s.strCfg k
  let c := (s.str k).c
  let worn := g.configured && c != 0 && decide (c * 1000 / g.cNom < g.hMin)
  (s.mdStr k (fun x => { x with worn })).follow (98 + k) 0xFFFF worn

/-- C and what follows from it: the health figure and the wear source (R278). -/
def setCap (k c : Nat) (s : State) : State := (s.mdStr k (fun x => { x with c })).judgeWear k

/-- The estimate of R283. -/
def freshEstimate (k : Nat) (s : State) : State :=
  let g := s.strCfg k
  let c := g.cNom * g.hMin / 1000
  let sv := socOf (s.strCurve k) (s.str k).t (meanF (rd s.nrg.c k).oc8)
  (s.mdStr k (fun x => { x with q := (sv * c / 65536 : Nat), r := 0, conf := true, unres := true, learned := false, hasCand := false, cand := 0, runOpen := false, runOk := false, sV := sv, present := true })).setCap k c

/-! ### Samples (R269 to R273, R276, R277, R285) -/

/-- The gap rule (R285) for a gap of g seconds. -/
def gapRule (k g : Nat) (s : State) : State :=
  let x := s.str k
  let c := s.strCfg k
  let q1 := x.q - ((x.c * c.sd * g / 86400000000 : Nat) : Int)
  let sv := socOf (s.strCurve k) x.t ((rd s.nrg.c k).oc8.headD 0)
  let q2 := if x.i.natAbs ≤ c.iQ then min q1 ((sv * x.c / 65536 : Nat) : Int) else q1
  (s.mdStr k (fun y => { y with q := q2, gapS := min 0xFFFF g, runOk := false })).strCount 0x49 k x.q

/-- Us a present string was not sampled while the control island was off or in reset. AON keeps only the OP_SEC of its last sample, and no
command reports the rest: a free value within what the two counts leave open (log entry 27). -/
def unsampledUs (s : State) (k : Nat) : Nat :=
  let d := (s.aon.opSec + 2 ^ 32 - (s.str k).lastOp) % 2 ^ 32
  (d - 1) * 1000000 + 1 + (Config.freeWord s.clk.free).toNat % (if d = 0 then 999999 else 1999999)

/-- Time since the string's previous sample, in us, none where it has none to count from: in this run of the control island from its own
strobes, at its first sample there from `unsampledUs` (R271, R285). -/
def sinceSample (s : State) (k : Nat) : Option Nat :=
  let z := rd s.nrg.c k
  if z.seen then some (s.strobeUs - z.lastUs) else if (s.str k).present then some (s.unsampledUs k) else none

/-- The counting gap in whole seconds, rounded up, that ends at this sample (R285): a stretch of more than 1 s unsampled, or a sense
fault of more than 1 s (R273). -/
def gapBefore (s : State) (k : Nat) : Option Nat :=
  let z := rd s.nrg.c k
  let flt := if (s.str k).sense then z.fltUs.map (fun f => s.strobeUs - f) else none
  let us := if z.seen then flt.getD 0 else (s.sinceSample k).getD 0
  if 1000000 < us then some (ceilDiv us 1000000) else none

/-- The charge of one interval (R271). -/
def integrate (k dt : Nat) (iNow : Int) (s : State) : State :=
  let z := rd s.nrg.c k
  let ch := if z.quietIv && z.woke then z.iPrev * ((dt : Int) - 250) + iNow * 250 else iNow * dt
  s.mdStr k (fun x =>
    let t := x.r + ch
    let dq := divZ t 1000000
    { x with q := x.q + dq, r := t - dq * 1000000, dis := x.dis + (-dq).toNat,
             posSum := x.posSum + ch.toNat,
             runOk := x.runOk && decide (x.posSum + ch.toNat ≤ x.c * 5000) && decide (dt ≤ 1000000) })

/-- EFC in 1/100 and THRU in C (Table 08-4): the restored figures plus what has been discharged since. -/
def efcOf (s : State) (k : Nat) : Nat :=
  let g := s.strCfg k
  satAdd 0xFFFFFFFF (s.str k).efc (if g.cNom = 0 then 0 else (s.str k).dis * 100 / g.cNom)

def thruOf (s : State) (k : Nat) : Nat := satAdd 0xFFFFFFFFFFFF (s.str k).thru ((s.str k).dis / 1000)

/-- The reported SoC (R276). -/
def reportSoc (k : Nat) (v8 : Int) (s : State) : State :=
  let g := s.strCfg k
  s.mdStr k (fun x =>
    let sc := socCount x.q x.c
    let starts := !x.knee && decide (x.i < -(g.iQ : Int)) && decide (v8 ≤ g.vKnee)
    let x1 := if starts then { x with knee := true, kneeNew := true, sk := sc, sr := sc } else { x with kneeNew := false }
    if x1.knee then
      let ramp := (divZ ((x1.sk : Int) * max 0 (v8 - g.vZero)) (g.vKnee - g.vZero)).toNat
      let sr := min x1.sr (min sc ramp)
      if g.vKnee < v8 then { x1 with knee := false, sr := sc } else { x1 with sr }
    else { x1 with sr := sc })

/-- One sample of a string (the eighth faulted one in a row and those after it add no charge, R273): steps 1 to 4 of Table 08-5 but for the events that are commands of their own. -/
def sampleStr (codes : List (Nat × Nat × Nat)) (k : Nat) (s : State) : State :=
  let g := s.strCfg k
  let z := rd s.nrg.c k
  if !g.configured then s
  else if !((s.str k).fast || s.nrg.strobe % 250 == z.phase % 250) then s
  else
    let cd := codes.getD g.triplet (0, 0, 0)
    let v := convert cd.1 g.vGain g.vOfs
    let i := convert cd.2.1 g.iGain g.iOfs
    let t := convert cd.2.2 g.tGain g.tOfs
    let isBad := fun c : Nat => c == 0x7FFF || c == 0x8000
    let bad := isBad cd.1 || isBad cd.2.1 || isBad cd.2.2 || decide (t < -500) || decide (1250 < t)
    let us := s.strobeUs
    let voc := v - divZ (i * rIntAt (s.strCurve k) t) 1000
    let was := s.str k
    let pres := fun (y : StrC) => { y with
      presUs := if g.vPres ≤ v then (match y.presUs with | some p => some p | none => some us) else none
      absRun := if g.vPres ≤ v then 0 else min 8 (y.absRun + 1) }
    if bad && (was.sense || 7 ≤ z.badRun) then
      -- the sense fault's own samples: the count stands, the runs of the anchors break, presence is still judged
      (s.mdStr k (fun x => { x with v, i, t, full := false, runOk := false })).mdStrC k (fun y =>
        { pres y with badRun := min 8 (y.badRun + 1), fullUs := none, fullDone := false, emptyRun := 0, emptyDone := false,
                      quietRun := if i.natAbs ≤ g.iQ then min 4000 (y.quietRun + 1) else 0 }) |>.follow (82 + k) 0xFFFF was.sense
    else
      let gap := s.gapBefore k
      let dt := s.sinceSample k
      let s0 := if z.seen then s else s.tick
      let s1 := (if was.sense then s0.unraise (82 + k) 0xFFFF else s0).mdStr k (fun x => { x with sense := false, v, i, t })
      let s2 := match gap, dt with | none, some d => s1.integrate k d i | _, _ => s1
      let s3 := s2.mdStrC k (fun y => { pres y with
        seen := true, lastUs := us, iPrev := i, v8 := (v :: y.v8).take 8, oc8 := (voc :: y.oc8).take 8, fltUs := none,
        badRun := if bad then min 8 (y.badRun + 1) else 0,
        quietRun := if i.natAbs ≤ g.iQ then min 4000 (y.quietRun + 1) else 0,
        quietIv := !was.fast, woke := false })
      let s4 := match gap with | some n => if was.present then s3.gapRule k n else s3 | none => s3
      let z4 := rd s4.nrg.c k
      let v8 := meanF z4.v8
      let fullNow := decide (g.vFloat * 99 ≤ v8 * 100) && decide (0 ≤ i) && decide (i ≤ g.iTaper)
      let emptyNow := decide (v ≤ g.vZero) && decide (i < -(g.iQ : Int))
      let opens := !fullNow && z4.fullDone
      let s5 := s4.mdStrC k (fun y => { y with
        fullUs := if fullNow then (match y.fullUs with | some p => some p | none => some us) else none,
        fullDone := y.fullDone && fullNow,
        emptyRun := if emptyNow then min 8 (y.emptyRun + 1) else 0, emptyDone := y.emptyDone && emptyNow })
      let s6 := s5.mdStr k (fun x =>
        let x1 := { x with full := fullNow && z4.fullDone, lastOp := s.aon.opSec, runOk := x.runOk && decide (g.tLo ≤ t) && decide (t ≤ g.tHi), hotUs := if g.tHi < t && gap.isNone then x.hotUs + dt.getD 0 else x.hotUs }
        let x2 := if opens then { x1 with runOpen := true, runOk := decide (g.tLo ≤ t) && decide (t ≤ g.tHi), posSum := 0 } else x1
        let x3 := if fullNow && z4.fullDone then { x2 with q := (x2.c : Int) } else x2
        let x4 := if emptyNow && z4.emptyDone then { x3 with q := 0, r := 0 } else x3
        { x4 with hotS := satAdd 0xFFFFFFFF x4.hotS (x4.hotUs / 1000000), hotUs := x4.hotUs % 1000000 })
      s6.reportSoc k v8

/-- SAMPLE_STROBE: every 250 us the triplets are sampled and converted, in every state in which the control island is powered (R269). The inputs are V, IP
less IN, and T of each triplet, in nV. -/
def sampleStrobe (volts : List (Int × Int × Int)) (s : State) : State :=
  let codes := volts.map tripletCodes
  if !s.ctlOn then s
  else forN 16 (sampleStr codes) { s with nrg := { s.nrg with strobe := s.nrg.strobe + 1 } }

/-- CURRENT_WAKE: the comparator of a string in quiet rate fires (R270). -/
def currentWake (k : Nat) (s : State) : State :=
  if (s.strCfg k).configured && !(s.str k).fast then (s.mdStr k (fun x => { x with fast := true })).mdStrC k (fun z => { z with woke := true, quietRun := 0 }) else s

/-- QUIET_RATE_ENTRY: after 4,000 quiet samples, with the phase of the string with the next lower number already in quiet rate,
or its own number (R270). -/
def quietEntry (k : Nat) (s : State) : State :=
  if (s.str k).fast && 4000 ≤ (rd s.nrg.c k).quietRun then
    let lower := (idxs k (fun j => (s.strCfg j).configured && !(s.str j).fast)).getLast?
    let ph := match lower with | some j => (rd s.nrg.c j).phase | none => k
    (s.mdStr k (fun x => { x with fast := false })).mdStrC k (fun z => { z with phase := ph, quietIv := true })
  else s

/-! ### Learning discharge aborts (R282) -/

/-- The running learning discharge is on this string and in state 1 or 2. -/
def learning12 (s : State) (k : Nat) : Bool := (s.aon.learnSt == 1 || s.aon.learnSt == 2) && s.aon.learnStr == k

def abortIf (c : Bool) (s : State) : State := if c && !s.pair.standby then { s with nrg := { s.nrg with learnAbort := true } } else s

/-- INSERTION (R272, R283). The estimate is step 2 of the sample and the reported SoC its step 4, which SAMPLE_STROBE has carried out on the old
count: it is made again on the new one, a knee that only this sample began with it (R296). -/
def insertion (k : Nat) (s : State) : State :=
  let z := rd s.nrg.c k
  match z.presUs with
  | none => s
  | some p =>
    if !(s.str k).present && (s.strCfg k).configured && 100000 ≤ s.strobeUs - p then
      let q := (s.str k).q
      let s1 := (s.freshEstimate k).mdStr k (fun x => { x with knee := x.knee && !x.kneeNew })
      ((s1.reportSoc k (meanF z.v8)).strCount 0x46 k q).setEvt 5 4
    else s

/-- REMOVAL (R272): the record keeps its counters but no longer names a capacity. -/
def removal (k : Nat) (s : State) : State :=
  if (s.str k).present && 8 ≤ (rd s.nrg.c k).absRun then
    let x := s.str k
    let s1 := s.mdStr k (fun y => { y with present := false, c := 0, runOpen := false, runOk := false })
    ((s1.strCount 0x47 k x.q).setEvt 5 5).abortIf (s.learning12 k)
  else s

/-- SENSE_FAULT (R273): the count freezes and the source is raised. -/
def senseFault (k : Nat) (s : State) : State :=
  if !(s.str k).sense && 8 ≤ (rd s.nrg.c k).badRun then
    let x := s.str k
    let s1 := (s.mdStr k (fun y => { y with sense := true, runOk := false })).mdStrC k (fun z => { z with fltUs := some s.strobeUs })
    ((s1.strCount 0x48 k x.q).raise (82 + k) 0xFFFF none).abortIf (s.learning12 k)
  else s

/-! ### Anchors and learning (R274, R275, R278, R279) -/

/-- At an anchor the knee ends and the reported SoC is the count's (R276). -/
def anchorSoc (k : Nat) (s : State) : State := s.mdStr k (fun x => { x with knee := false, sr := socCount x.q x.c })

/-- FULL_ANCHOR (R274). A discharge follows it on the token holder only, whose state a standby's frames carry (R297). -/
def fullAnchor (k : Nat) (s : State) : State :=
  let z := rd s.nrg.c k
  match z.fullUs with
  | none => s
  | some p =>
    if (s.str k).present && !(s.str k).sense && !z.fullDone && 60000000 ≤ s.strobeUs - p then
      let x := s.str k
      let s1 := (s.strCount 0x40 k x.q).mdStr k (fun y => { y with q := (y.c : Int), r := 0, conf := false, full := true, lastFull := s.aon.opSec, runOpen := false, runOk := false })
      let s2 := ((s1.mdStrC k (fun y => { y with fullDone := true })).anchorSoc k).setEvt 5 0
      if s.pair.standby || s.aon.learnStr != k then s2
      else if s.aon.learnSt == 1 then { s2 with nrg := { s2.nrg with learnGo := true } }
      else if s.aon.learnStr == k && s.aon.learnSt == 3 then ({ s2 with aon := { s2.aon with learnSt := 4 } }).setEvt 5 6
      else s2
    else s

/-- A value is learned (R278): C, LEARNED, UNRES, and its counters. -/
def learned (k c : Nat) (q : Int) (s : State) : State :=
  ((s.mdStr k (fun y => { y with learned := true, unres := false, hasCand := false, cand := 0, learns := satAdd 0xFFFF y.learns 1, lastLrn := s.aon.opSec })).setCap k c).strCount 0x44 k q

/-- The outcome of a valid run (R278). -/
def learnRun (k : Nat) (s : State) : State × Nat :=
  let x := s.str k
  let g := s.strCfg k
  let cNew := min ((x.c : Int) - x.q).toNat (g.cNom * g.cMax / 1000)
  if 5 * ((cNew : Int) - x.c).natAbs ≤ x.c then
    (((s.mdStr k (fun y => { y with learned := true, unres := false, learns := satAdd 0xFFFF y.learns 1, lastLrn := s.aon.opSec })).setCap k cNew).strCount 0x44 k x.q, 1)
  else ((((s.mdStr k (fun y => { y with cand := cNew, hasCand := true })).strCount 0x45 k x.q)).setEvt 5 3, 2)

/-- EMPTY_ANCHOR (R275). -/
def emptyAnchor (k : Nat) (s : State) : State :=
  let z := rd s.nrg.c k
  if (s.str k).present && 8 ≤ z.emptyRun && !z.emptyDone then
    let x := s.str k
    let s1 := (s.strCount 0x41 k x.q).mdStrC k (fun y => { y with emptyDone := true })
    let s2 := if 0 < x.q then ((s1.strCount 0x42 k x.q).mdStr k (fun y => { y with vwins := satAdd 0xFFFF y.vwins 1 })).setEvt 5 1
      else if x.q < 0 then ((s1.strCount 0x43 k x.q).mdStr k (fun y => { y with overdraws := satAdd 0xFFFF y.overdraws 1 })).setEvt 5 2
      else s1
    let p := if x.runOpen && x.runOk then s2.learnRun k else (s2, 3)
    let s3 := p.1.mdStr k (fun y => { y with q := 0, r := if x.q = 0 then y.r else 0, runOpen := false, runOk := false })
    let s4 := (s3.anchorSoc k).setEvt 5 0
    if !s.pair.standby && s.aon.learnStr == k && s.aon.learnSt == 2 then
      { s4 with nrg := { s4.nrg with learnGo := true }, aon := { s4.aon with learnRes := p.2 } }
    else s4
  else s

/-- CAND_ACCEPT and CAND_REJECT wait for step 6 of Table 08-5 at the turn boundary. -/
def candWrite (k : Nat) (accept : Bool) (s : State) : State := { s with nrg := { s.nrg with candAct := s.nrg.candAct ++ [(k, accept)] } }

/-- The host candidate action (R279). A rejection is counted under the string's rejection kind, as that of a commit is (R298; DEDUCED, log
entry 175). -/
def candAct (a : Nat × Bool) (s : State) : State :=
  let x := s.str a.1
  if !x.hasCand || !(s.strCfg a.1).configured then s
  else if a.2 then
    let s1 := s.learned a.1 x.cand x.q
    s1
  else (s.mdStr a.1 (fun y => { y with hasCand := false, cand := 0 })).strCount 0x4B a.1 x.q

/-! ### Learning discharge (R280 to R282) -/

/-- The estimator drives an enable; only the token holder drives ISO_SLOT and LOAD_SLOT (R297). A slot turned on qualifies. -/
def estDrive (n : Nat) (b : Bool) (s : State) : State :=
  if 64 ≤ n || !s.pair.drv || s.en n == b then s
  else if b then ((s.unstick n).setEn n true).mdSlot n (fun x => { x with st := 4, tS := s.seq.up, tQ := none, offAt := none, goodOnce := false })
  else (s.clearRail n true true |>.setEn n false).mdSlot n (fun x => { x with st := 1, offAt := some s.seq.dn })

/-- LOAD goes off with the Save profile's own down sequence where a trip ended the discharge (R282). -/
def loadOff (n : Nat) (s : State) : State :=
  if s.aon.learnHold && s.seq.downs.any (fun d => d.set.getLsbD n) then s else s.estDrive n false

/-- The slots of each state of Table 08-2; the load does not come on in a state whose sequences take every slot down. -/
def learnDrive (s : State) : State :=
  let g := s.strCfg s.aon.learnStr
  let iso := g.isoSlot
  let load := g.loadSlot
  match s.aon.learnSt with
  | 1 => (s.estDrive load false).estDrive iso true
  | 2 => let s1 := s.estDrive iso false
         if (s1.slot iso).belowOff && !s1.en iso && s.inState [.rise, .ready, .ride, .service, .ret] then s1.estDrive load true else s1
  | 3 => let s1 := s.estDrive load false
         if (s1.slot load).belowOff && !s1.en load then s1.estDrive iso true else s1
  | 4 => (s.estDrive load false).estDrive iso true
  | 5 => let s1 := s.loadOff load
         if (s1.slot load).belowOff && !s1.en load && !s1.aon.learnHold then s1.estDrive iso true else s1
  | _ => s

/-- Step 5 of Table 08-5: the learning discharge's state and aborts. -/
def learnStep (s : State) : State :=
  let st := s.aon.learnSt
  let act := !(s.top.state == .boot)
  let s1 := if s.nrg.learnAbort && (st == 1 || st == 2) && act then
      ({ s with aon := { s.aon with learnSt := 5, learnRes := 3 }, nrg := { s.nrg with learnAbort := false, learnGo := false } }).mdStr s.aon.learnStr (fun x => { x with runOpen := false, runOk := false }) |>.setEvt 5 6
    else if s.nrg.learnGo then
      { s with aon := { s.aon with learnSt := if st == 1 then 2 else if st == 2 then 3 else st, learnAt := if st == 1 then s.aon.opSec else s.aon.learnAt }, nrg := { s.nrg with learnGo := false, learnAbort := false } }
    else { s with nrg := { s.nrg with learnAbort := s.nrg.learnAbort && !act } }
  let s2 := if s1.aon.learnHold && s1.inState [.ready, .ride] then { s1 with aon := { s1.aon with learnHold := false } } else s1
  s2.learnDrive

/-- A trip aborts a discharge in states 1 and 2: LOAD falls with the Save profile and ISO stays off (R282). -/
def learnTrip (s : State) : State :=
  if s.aon.learnSt == 1 || s.aon.learnSt == 2 then
    ({ s with aon := { s.aon with learnSt := 5, learnRes := 3, learnHold := true }, nrg := { s.nrg with learnGo := false, learnAbort := false } }).mdStr s.aon.learnStr (fun x => { x with runOpen := false, runOk := false }) |>.setEvt 5 6
  else s

/-- LEARN_ABORT and LEARN_TIMEOUT (R282). -/
def learnAbort (s : State) : State := s.abortIf (s.aon.learnSt == 1 || s.aon.learnSt == 2)
def learnTimeout (s : State) : State :=
  s.abortIf ((s.aon.learnSt == 1 || s.aon.learnSt == 2) && 86400 ≤ (s.aon.opSec + 2 ^ 32 - s.aon.learnAt % 2 ^ 32) % 2 ^ 32)

/-! ### E_pot (R287 to R289) -/

/-- The string's energy figures (R287). -/
def strEnergy (k : Nat) (s : State) : State :=
  let x := s.str k
  let g := s.strCfg k
  let cv := s.strCurve k
  if !x.present || x.c = 0 then s.mdStr k (fun y => { y with eCnt := 0, eVolt := 0, eStr := 0 })
  else
    let f := ktAt cv x.t * g.eta * (if x.conf then g.conf else 1000)
    let qc := min (max x.q 0) x.c
    let sc := socCount qc x.c
    let e := fun (q a : Int) => (divZ (divZ (q * a) 1000000 * f) 1000000000).toNat
    let sv := socOf cv x.t (meanF (rd s.nrg.c k).oc8)
    let qv := divZ ((sv : Int) * x.c) 65536
    let eCnt := e qc (avlAt cv sc x.t)
    let eVolt := e qv (avlAt cv sv x.t)
    s.mdStr k (fun y => { y with eCnt, eVolt, eStr := min eCnt eVolt, sV := sv })

/-- A string counts in E_sum (R288, Table 08-2, R319). -/
def countsIn (s : State) (k : Nat) : Bool :=
  let x := s.str k
  let g := s.strCfg k
  let mine := s.aon.learnStr == k
  g.configured && x.present && !x.sense
    && !(mine && (s.aon.learnSt == 1 || s.aon.learnSt == 2))
    && (64 ≤ g.isoSlot || (s.en g.isoSlot && !(s.slot g.isoSlot).fault
        && (!(mine && (s.aon.learnSt == 3 || s.aon.learnSt == 5)) || (s.slot g.isoSlot).st == 5)))

/-- Step 8 of Table 08-5: E_str, E_sum and E_pot; `p` is the pot agreed in a table. -/
def ePotUpdate (p : Option Nat) (s : State) : State :=
  let s1 := forN 16 strEnergy s
  let s2 := forN 16 (fun k t => t.mdStr k (fun x => { x with inSum := t.countsIn k })) s1
  let eSum := sumN 16 (fun k => if (s2.str k).inSum then (s2.str k).eStr else 0)
  let pot := match p with | some v => min v eSum | none => eSum
  { s2 with nrg := { s2.nrg with eSum, pot, ePot := match p with | some _ => pot * s2.nrg.num / s2.nrg.den | none => eSum } }

/-! ### The state image (R290 to R295) -/

/-- A string record, Table 08-4. -/
def strRecord (s : State) (k : Nat) : List Byte :=
  let x := s.str k
  let g := s.strCfg k
  if !g.configured then zeros 64
  else
    let h := leBytes 6 g.cNom ++ leBytes 6 (if x.learned then x.c else 0) ++ leBytes 6 x.cand ++ leBytes 2 (if g.cNom = 0 then 0 else x.c * 1000 / g.cNom)
      ++ leBytes 6 (ofInt 48 x.q)
      ++ leBytes 2 (x.learned.toNat + 2 * x.hasCand.toNat + 4 * x.conf.toNat + 8 * x.unres.toNat + 16 * (decide (x.q < 0)).toNat)
      ++ leBytes 4 x.lastFull ++ leBytes 4 x.lastLrn ++ leBytes 4 (s.efcOf k) ++ leBytes 6 (s.thruOf k) ++ leBytes 2 x.learns ++ leBytes 2 x.overdraws
      ++ leBytes 2 x.vwins ++ leBytes 4 x.hotS ++ zeros 4
    h ++ leBytes 4 (crc32c h).toNat

/-- The state image, 1,088 bytes (R290). -/
def stateImage (s : State) : List Byte :=
  let mask := (List.range 16).foldl (fun a k => a + if (s.strCfg k).configured then 2 ^ k else 0) 0
  let h := leBytes 4 0x4E524753 ++ leBytes 2 1 ++ leBytes 2 mask ++ leBytes 4 (Config.scfg s.im.strs s.im.curves).toNat ++ zeros 4
    ++ s.stamp.bytes ++ zeros 28
  let body := (List.range 16).flatMap s.strRecord
  h ++ leBytes 4 (crc32c (h ++ body)).toNat ++ body

/-- After the boundary's processing the requested image is latched (R291). -/
def latchImage (s : State) : State :=
  if s.ctrlBit 5 0 then
    ({ s with nrg := { s.nrg with snap := wordsOf 272 s.stateImage }, ctrl := md s.ctrl 5 (fun w => w &&& 0xFFFFFFFE#32) }).setEvt 5 7
  else s

/-- The staged image's bytes. -/
def stgBytes (s : State) : List Byte := Mem.readN 0 s.nrg.stg 0 1088

/-- The number of the inactive AON state bank. -/
def spareBank (s : State) : Nat := 1 - s.aon.bank

/-- Record `k` of the inactive bank. -/
def spareRec (s : State) (k : Nat) : List Byte := slice (rd s.aon.banks s.spareBank) (64 * k) 64

/-- Step 1 of R295: the staged records go into the inactive AON bank. -/
def bankCopy (s : State) : State := { s with aon := { s.aon with banks := wr s.aon.banks s.spareBank (s.stgBytes.drop 64) } }

/-- The checks of R293 on the staged image, and of its records on their copy in the inactive bank (step 2 of R295): the RESULT of a rejection, or 0. -/
def restoreCheck (s : State) : Nat :=
  let b := s.stgBytes
  let mask := bitsOf s.nrg.rstArg 15 0
  let icrc := (crc32c (b.take 60 ++ b.drop 64)).toNat
  let recBad := fun k => mask.testBit k &&
    (let r := s.spareRec k
     !(num b 6 2).testBit k || num r 60 4 != (crc32c (r.take 60)).toNat || num r 0 6 != (s.strCfg k).cNom)
  if !s.inState [.ready, .service, .ret] then 7
  else if num b 60 4 ≠ icrc || s.nrg.rstCrc.toNat ≠ icrc then 2
  else if num b 0 4 ≠ 0x4E524753 || num b 4 2 ≠ 1 then 3
  else if num b 8 4 ≠ (Config.scfg s.im.strs s.im.curves).toNat && !(s.nrg.rstArg.getLsbD 16) then 5
  else if !(idxs 16 recBad).isEmpty then 4 else 0

/-- A rejected commit is counted for each string it names (R298; DEDUCED, log entry 175). -/
def restoreRejected (s : State) : State :=
  forL (idxs 16 (fun k => s.nrg.rstArg.getLsbD k && (s.strCfg k).configured)) (fun k t => t.strCount 0x4B k (t.str k).q) s

/-- R294 for one string, from its record. -/
def restoreStr (b : List Byte) (k : Nat) (s : State) : State :=
  let x := s.str k
  let g := s.strCfg k
  let lrn := num b 6 6
  let c := if lrn = 0 then g.cNom * g.hMin / 1000 else min lrn (g.cNom * g.cMax / 1000)
  let fl := num b 26 2
  let s1 := s.mdStr k (fun y => { y with
    q := if 0 < y.q && x.c != 0 then divZ (y.q * c) x.c else y.q
    cand := num b 12 6, learned := fl.testBit 0, hasCand := fl.testBit 1, lastFull := num b 28 4, lastLrn := num b 32 4,
    efc := num b 36 4, thru := num b 40 6, learns := num b 46 2, overdraws := num b 48 2, vwins := num b 50 2,
    hotS := num b 52 4, unres := false, runOpen := false, runOk := false, dis := 0 })
  (s1.setCap k c).strCount 0x4A k x.q

/-- Step 7 of Table 08-5: the bank flip of R295, and R294 from the bank that becomes the active one; the long command's end is the caller's. -/
def restoreCommit (s : State) : State :=
  match s.nrg.restore with
  | none => s
  | some mask =>
    let hit := fun k => mask.getLsbD k && (s.str k).present && (s.strCfg k).configured
    let s1 := forN 16 (fun k t => if hit k then t.restoreStr (s.spareRec k) k else t) s
    { s1 with aon := { s1.aon with bank := s.spareBank },
              nrg := { s1.nrg with restore := none, rstResult := 1, restored := BitVec.ofNat 16 ((List.range 16).foldl (fun a k => a + if hit k then 2 ^ k else 0) 0) } }

/-- NRG.STATUS.UNRESTORED (R284). -/
def unrestored (s : State) : Bool := (List.range 16).any (fun k => (s.strCfg k).configured && (s.str k).unres)

end State
end Sys2Proof.Machine
end

