-- ==== Sys2Proof/Machine/Wire.lean ====
section
/-! DEFINITION. What travels on a cache port's lanes (03): the ordered sets of Table 03-2, and the words and bytes of a message, from the
header word of Table 03-4 through the body to the trailer's CRC-32C (R87). The state holds messages by their fields; these are the bytes the
fields stand for. -/

namespace Sys2Proof.Machine

/-! ### Blocks (R78 to R80, R105) -/

/-- The control block types of Table 03-2. -/
inductive CtlBlock where
  | idle | skip | train1 | train2 | freeze | start | quiet
  deriving DecidableEq, Repr

def CtlBlock.code : CtlBlock → Nat
  | .idle => 0xA1 | .skip => 0xA2 | .train1 => 0xB1 | .train2 => 0xB2 | .freeze => 0xC5 | .start => 0xD0 | .quiet => 0xE7

/-- The type a control block's first payload byte names; any other byte is a block error (R79). -/
def CtlBlock.ofCode (n : Nat) : Option CtlBlock :=
  [CtlBlock.idle, .skip, .train1, .train2, .freeze, .start, .quiet].find? (fun c => c.code == n)

/-- How a receiver takes a block: by its 2-bit sync header and payload byte 0 (R78, R79). -/
inductive BlockKind where
  | data | control (c : CtlBlock) | error
  deriving DecidableEq, Repr

def blockKind (sync byte0 : Nat) : BlockKind :=
  if sync = 1 then .data
  else if sync = 2 then (match CtlBlock.ofCode byte0 with | some c => .control c | none => .error)
  else .error

/-- The payload of the FREEZE ordered set (Table 03-2): SAVE_SERIAL, group, TEST, and the XOR of bytes 1 to 6. -/
def freezeBlock (serial group : Nat) (test : Bool) : List Byte :=
  let b := leBytes 4 serial ++ leBytes 1 group ++ leBytes 1 test.toNat
  leBytes 1 CtlBlock.freeze.code ++ b ++ [b.foldl (· ^^^ ·) 0]

/-- The payload of TRAIN_1: lane, configured width, the coefficient request applied last, and its sequence echoed (R83). -/
def train1Block (lane width coef sq : Nat) : List Byte :=
  leBytes 1 CtlBlock.train1.code ++ leBytes 1 lane ++ leBytes 1 width ++ leBytes 2 coef ++ leBytes 1 sq ++ zeros 2

/-- The payload of TRAIN_2: lane and trained width. -/
def train2Block (lane width : Nat) : List Byte := leBytes 1 CtlBlock.train2.code ++ leBytes 1 lane ++ leBytes 1 width ++ zeros 5

/-- A block's 2-bit sync header and 8 payload bytes (R78). -/
structure Block where
  sync : Nat
  pay : List Byte
  deriving DecidableEq, Repr

def Block.control (pay : List Byte) : Block := { sync := 2, pay }
def idleBlock : Block := .control (leBytes 1 CtlBlock.idle.code ++ zeros 7)

/-- The data blocks of the rest of a message, 8 bytes each; the bytes that fill the last one up are open (log entry 215). -/
def dataBlocks (fill : Byte) : Nat → List Byte → List Block
  | 0, _ => []
  | n + 1, b => if b.isEmpty then [] else { sync := 1, pay := (b.take 8) ++ List.replicate (8 - (b.take 8).length) fill } :: dataBlocks fill n (b.drop 8)

/-- A message as blocks of the stream: START with its first 7 bytes, then data blocks (R87, Table 03-2). -/
def msgBlocks (fill : Byte) (m : List Byte) : List Block :=
  .control (leBytes 1 CtlBlock.start.code ++ m.take 7) :: dataBlocks fill (m.length / 8 + 1) (m.drop 7)

/-- The lane of the trained ones, in ascending order, on which block i of the stream travels (R80). -/
def laneOf (lanes : List Nat) (i : Nat) : Nat := lanes.getD (i % lanes.length) 0

/-- Blocks from position i of the stream, striped: what each trained lane sends (R80). -/
def stripeOn (lanes : List Nat) (i : Nat) (bs : List Block) : List (Nat × List Block) :=
  lanes.map (fun l => (l, (bs.zipIdx.filter (fun b => laneOf lanes (i + b.2) == l)).map (·.1)))

/-- An ordered set: the block of its kind on every trained lane, in the same block position and outside the stream (R80). -/
def orderedOn (lanes : List Nat) (pay : Nat → List Byte) : List (Nat × Block) := lanes.map (fun l => (l, .control (pay l)))

/-! ### Messages (R87) -/

/-- A header word, Table 03-4. -/
def hdrWord (type seq ack : Nat) (ackV : Bool) (len : Nat) : Nat :=
  type % 2 ^ 8 + 1 * 2 ^ 8 + (seq % 2 ^ 12) * 2 ^ 16 + (ack % 2 ^ 12) * 2 ^ 28 + ackV.toNat * 2 ^ 40 + (len % 2 ^ 16) * 2 ^ 48

/-- What a receiver reads of a header word: TYPE, LEN, and the header; `ok` asks VER 1 and zeros where the table has them. -/
def readHdr (w : Nat) : Nat × Nat × Hdr :=
  (w % 2 ^ 8, w / 2 ^ 48 % 2 ^ 16,
    { seq := BitVec.ofNat 12 (w / 2 ^ 16), ack := BitVec.ofNat 12 (w / 2 ^ 28), ackV := w.testBit 40
      ok := w / 2 ^ 8 % 2 ^ 8 == 1 && w / 2 ^ 41 % 2 ^ 7 == 0 })

/-- The bytes of a message: header, body, and the trailer with the CRC-32C of all that precedes it. -/
def msgBytes (type seq ack : Nat) (ackV : Bool) (body : List Nat) : List Byte :=
  let b := (hdrWord type seq ack ackV (body.length + 2) :: body).flatMap (leBytes 8)
  b ++ leBytes 4 (crc32c b).toNat ++ zeros 4

/-- A received message's trailer holds the CRC-32C of what precedes it, and zeros above it; where it does not, the message is NAKed
(R88). -/
def crcGood (m : List Byte) : Bool :=
  let b := m.take (m.length - 8)
  m.drop (m.length - 8) == leBytes 4 (crc32c b).toNat ++ zeros 4

/-- TYPE of the messages the controller sends, Table 03-5. -/
def HclOut.type : HclOut → Nat
  | .req .. => 0x11 | .stake _ => 0x20 | .mapReq .. => 0x30 | .read .. => 0x40 | .write .. => 0x42 | .confirm .. => 0x50 | .cancel _ => 0x52
  | .revert .. => 0x53 | .release .. => 0x70 | .error .. => 0x7F

/-- The entries of a CONFIRM, two in a word (Table 03-8). -/
def confirmWords : List (Nat × Nat) → List Nat
  | [] => []
  | [a] => [a.1 + a.2 * 2 ^ 16]
  | a :: b :: es => (a.1 + a.2 * 2 ^ 16 + (b.1 + b.2 * 2 ^ 16) * 2 ^ 32) :: confirmWords es

/-- The 64-bit words a byte list spells. -/
def words8 : Nat → List Byte → List Nat
  | 0, _ => []
  | n + 1, b => leNat (b.take 8) :: words8 n (b.drop 8)

/-- The body words, Tables 03-8, 03-10 and 06-1, R96, R97, R114, R246. -/
def HclOut.body : HclOut → List Nat
  | .req ident frozen check clear => [ident.toNat + 2 * frozen.toNat + 4 * check.toNat + 8 * clear.toNat]
  | .stake m =>
    [m.turn + m.s * 2 ^ 32 + m.k * 2 ^ 48 + m.short.toNat * 2 ^ 61 + m.frozen.toNat * 2 ^ 62 + m.token.toNat * 2 ^ 63,
      m.epoch + m.disabled.toNat * 2 ^ 16 + m.away.toNat * 2 ^ 17 + m.serial * 2 ^ 32] ++ words8 2 m.stamp.bytes
  | .mapReq first count tag => [first + count * 2 ^ 16 + tag * 2 ^ 32]
  | .read sq chunk count copy tag => [sq + chunk * 2 ^ 16 + count * 2 ^ 20 + copy.toNat * 2 ^ 25 + tag * 2 ^ 32]
  | .write sq chunk gen tag data => (sq + chunk * 2 ^ 16 + gen * 2 ^ 20 + tag * 2 ^ 32) :: words8 512 data
  | .confirm turn es => (turn + es.length * 2 ^ 32) :: confirmWords es
  | .cancel sq => [sq]
  | .revert turnF all epoch => [turnF + all.toNat * 2 ^ 32 + epoch * 2 ^ 48]
  | .release serial dirtyAll discard => [serial + dirtyAll.toNat * 2 ^ 32 + discard.toNat * 2 ^ 33]
  | .error code seq => [code + seq * 2 ^ 16]

/-- A message as it travels under a SEQ and the header's ACK. -/
def HclOut.bytes (m : HclOut) (seq ack : Nat) (ackV : Bool) : List Byte := msgBytes m.type seq ack ackV m.body

/-- ACK and NAK as they travel (Table 03-5). -/
def ackBytes (seq ack : Nat) : List Byte := msgBytes 0x01 seq ack true []
def nakBytes (seq ack : Nat) (ackV : Bool) (expect : Nat) : List Byte := msgBytes 0x02 seq ack ackV [expect % 2 ^ 12]

/-! ### The partner link (10) -/

/-- TYPE of the messages of Table 10-1. -/
def PMsg.type : PMsg → Nat
  | .alive => 0x80 | .frame _ => 0x81 | .frameAck .. => 0x82 | .join _ => 0x83 | .takeReady _ => 0x84 | .yield _ => 0x85
  | .kxOffer .. => 0x86 | .kxReply .. => 0x87 | .kxKeys _ => 0x88 | .kxWraps _ => 0x89 | .error .. => 0x7F

/-! The sections of Table 10-3. The table gives their contents, their largest sizes, and the size of some of their parts; how the parts of a section
follow each other is this model's choice (DESIGN CHOICE, log entry 204): in the table's order, little-endian, each list behind its count. -/

/-- One 8-byte entry of a map: port, square, generation, LSEQ. -/
def MapAdd.bytes (e : MapAdd) : List Byte := leBytes 8 (e.port % 2 ^ 6 + e.sq % 2 ^ 16 * 2 ^ 6 + e.gen % 2 ^ 4 * 2 ^ 22 + e.lseq % 2 ^ 31 * 2 ^ 26)

/-- One 8-byte map-word clear: port, word, mask. -/
def MapClr.bytes (c : MapClr) : List Byte := leBytes 8 (c.port % 2 ^ 6 + c.word % 2 ^ 11 * 2 ^ 6 + c.mask.toNat * 2 ^ 32)

/-- CORE; the share in force is followed by its P and its expiry (R373). An emergency bucket is given in units of 256 ms, rounded up, in 12 bits, since 256 bytes hold no more. -/
def Frame.core (f : Frame) : List Byte :=
  leBytes 4 f.bTotal ++ leBytes 1 f.short.toNat ++ leBytes 4 f.serial ++ leBytes 1 f.frz.toNat ++ leBytes 2 f.num ++ leBytes 2 f.den
    ++ leBytes 4 (match f.grant with | some g => g.p | none => 0) ++ leBytes 4 (match f.grant with | some g => (g.round + 3) % 2 ^ 32 | none => 0)
    ++ leBytes 8 (ofInt 64 f.credit) ++ leBytes 216 ((List.range 144).foldl (fun a i => a + min 0xFFF (ceilDiv (f.emBkt.getD i 0) 256) * 2 ^ (12 * i)) 0)
    ++ leBytes 1 f.cmd ++ leBytes 1 f.cmdState ++ leBytes 1 (f.drill + 16 * f.drillTest.toNat) ++ leBytes 2 f.dwell

/-- A port in STAKE: S_p, K_p, U_p and coverage in 15 bits each, eligible, released. -/
def FrPort.stake (x : FrPort) : List Byte :=
  leBytes 8 (x.s % 2 ^ 15 + x.k % 2 ^ 15 * 2 ^ 15 + x.u % 2 ^ 15 * 2 ^ 30 + x.cov % 2 ^ 15 * 2 ^ 45 + x.elig.toNat * 2 ^ 60 + x.released.toNat * 2 ^ 61)

/-- A port in SAVECK, Table 04-4; IMG says whether it gets an image. -/
def FrPort.saveck (x : FrPort) : List Byte :=
  leBytes 8 (x.pst % 2 ^ 4 + x.cursor % 2 ^ 17 * 2 ^ 4 + x.cSq % 2 ^ 17 * 2 ^ 21 + x.unconf.toNat * 2 ^ 38 + x.late.toNat * 2 ^ 39
    + x.incomplete.toNat * 2 ^ 40 + x.img.toNat * 2 ^ 41)

/-- A port in RETURN. -/
def FrPort.ret (x : FrPort) : List Byte :=
  leBytes 8 (x.out % 2 ^ 4 + x.pend.toNat * 2 ^ 4 + x.relSent.toNat * 2 ^ 5 + x.relAcked.toNat * 2 ^ 6 + x.written % 2 ^ 17 * 2 ^ 7 + x.src % 2 ^ 8 * 2 ^ 24)

/-- STAGE. -/
def Frame.stage (f : Frame) : List Byte :=
  leBytes 8 ((List.range 64).foldl (fun a p => a + (rd f.ports p).doubt.toNat * 2 ^ p) 0)
    ++ leBytes 4 f.adds.length ++ leBytes 4 f.clears.length ++ f.adds.flatMap MapAdd.bytes ++ f.clears.flatMap MapClr.bytes ++ leBytes 8 f.portClears.toNat
    ++ leBytes 8 f.pend.length ++ f.pend.flatMap ConfEnt.bytes ++ leBytes 4 f.nextLseq ++ leBytes 4 f.hwm

/-- A window's locations on CQ00 to CQ31. -/
def locBytes (l : List Nat) : List Byte := (List.range 32).flatMap (fun r => leBytes 4 (l.getD r 0xFFFFFFFF))

/-- ALLOC. -/
def Frame.alloc (f : Frame) : List Byte :=
  leBytes 4 f.win.seq ++ leBytes 4 f.win.lseq ++ locBytes f.win.save ++ locBytes f.win.log ++ locBytes f.win.cat
    ++ leBytes 4 f.iring ++ leBytes 4 f.iloc ++ leBytes 4 f.icount ++ leBytes 4 f.first ++ leBytes 8 f.ents.length ++ f.ents.flatMap (fun e => leBytes 8 e.bits)

/-- SAVECK: Table 04-4, then the figures frozen at t_trip that the save report needs (Table 13-9). -/
def Frame.saveck (f : Frame) (c : Ckpt) : List Byte :=
  leBytes 4 f.serial ++ c.tTrip.bytes ++ leBytes 1 c.phase ++ leBytes 1 c.sealed.toNat ++ leBytes 2 c.w0 ++ leBytes 4 f.win.seq ++ leBytes 4 f.win.lseq
    ++ locBytes f.win.save ++ (List.range 64).flatMap (fun p => (rd f.ports p).saveck) ++ leBytes 4 c.ePot ++ leBytes 4 c.eNeed ++ leBytes 2 c.bwV

/-- A string in NRG. -/
def FrStr.bytes (x : FrStr) : List Byte :=
  leBytes 6 (ofInt 48 x.q) ++ leBytes 4 (ofInt 32 x.r) ++ leBytes 6 x.c ++ leBytes 6 x.cand
    ++ leBytes 2 (x.learned.toNat + 2 * x.hasCand.toNat + 4 * x.conf.toNat + 8 * x.unres.toNat)

/-- NRG. -/
def Frame.nrg (f : Frame) : List Byte :=
  (List.range 16).flatMap (fun k => (rd f.strs k).bytes) ++ leBytes 1 f.learnStr ++ leBytes 1 f.learnSt ++ leBytes 1 f.learnRes ++ leBytes 1 f.learnHold.toNat
    ++ leBytes 4 f.learnAt

/-- SEQ. -/
def Frame.seq (f : Frame) : List Byte :=
  leBytes 8 f.shared.toNat ++ (List.range 64).flatMap (fun n => leBytes 1 (f.slots.getD n 0)) ++ leBytes 1 f.attempt ++ leBytes 1 f.phase

/-- VAULT. -/
def Frame.vault (f : Frame) : List Byte :=
  leBytes 4 f.mepoch ++ (List.range 4).flatMap (fun x => let c := f.sleds.getD x (0, false, false); leBytes 1 (c.1 + 16 * c.2.1.toNat + 32 * c.2.2.toNat))
    ++ leBytes 1 f.rjob ++ leBytes 1 f.jobSled ++ leBytes 1 f.geom ++ zeros 1 ++ leBytes 4 f.prog ++ leBytes 4 f.total

/-- LEDGER: of each area the slot written last, the records it holds and the newest record sequence number; then the next one. -/
def Frame.ledger (f : Frame) : List Byte :=
  (List.range 6).flatMap (fun a => let h := f.heads.getD a {}; leBytes 4 (h.slot.getD 0xFFFFFFFF) ++ leBytes 4 h.count ++ leBytes 4 h.rseq) ++ leBytes 4 f.rseq

/-- The sections a frame carries, in the order of Table 10-3, with their contents. BASE's first and last key are those of its first and last entry. -/
def Frame.sections (f : Frame) : List (Nat × List Byte) :=
  [(0x01, f.core), (0x02, (List.range 64).flatMap (fun p => (rd f.ports p).stake)), (0x03, f.stage), (0x04, f.alloc)]
    ++ (match f.ck with | some c => [(0x05, f.saveck c)] | none => [])
    ++ (if f.state = 8 then [(0x06, (List.range 64).flatMap (fun p => (rd f.ports p).ret))] else [])
    ++ [(0x07, f.nrg), (0x08, f.seq), (0x09, f.vault), (0x0A, f.ledger)]
    ++ (match f.base with | some g => [(0x0B, g.ents.flatMap MapAdd.bytes)] | none => [])

/-- A section word: TYPE, and the section's byte length padded to 8 bytes (R338). -/
def sectionWord (type len : Nat) : Nat := type + (len + 7) / 8 * 8 * 2 ^ 32

/-- A section as it travels: its word, its contents, padding to 8 bytes. -/
def sectionBytes (x : Nat × List Byte) : List Byte :=
  leBytes 8 (sectionWord x.1 x.2.length) ++ x.2 ++ zeros ((x.2.length + 7) / 8 * 8 - x.2.length)

/-- The 48 bytes of the frame header, Table 10-2. -/
def Frame.head (f : Frame) : List Byte :=
  leBytes 4 0x5346524D ++ leBytes 2 1 ++ leBytes 1 (f.armed.toNat + 2 * f.final.toNat + 4 * f.base.isSome.toNat) ++ leBytes 1 f.state ++
    leBytes 4 f.fseq ++ leBytes 4 f.turn ++ leBytes 2 f.epoch ++ leBytes 1 f.away.toNat ++ leBytes 1 f.sections.length ++ leBytes 4 f.baseId ++
    f.stamp.bytes ++ zeros 8

/-- A frame's body: its header, then its sections (R338). -/
def Frame.bytes (f : Frame) : List Byte := f.head ++ f.sections.flatMap sectionBytes

/-- The body words of the messages of Table 10-1. -/
def PMsg.body : PMsg → List Nat
  | .alive => []
  | .frame f => words8 (f.bytes.length / 8) f.bytes
  | .frameAck fseq baseId => [fseq % 2 ^ 32 + baseId % 2 ^ 32 * 2 ^ 32]
  | .join id => [id.toNat]
  | .takeReady fseq => [fseq % 2 ^ 32]
  | .yield fseq => [fseq % 2 ^ 32]
  | .error code seq => [code + seq * 2 ^ 16]
  | .kxOffer key pub sig => words8 ((key ++ pub ++ sig).length / 8) (key ++ pub ++ sig)
  | .kxReply key pub sig => words8 ((key ++ pub ++ sig).length / 8) (key ++ pub ++ sig)
  | .kxKeys sealed => words8 ((sealed.length + 7) / 8) sealed
  | .kxWraps wraps => words8 ((wraps.length + 7) / 8) wraps

/-! ### Fabric frames (11) -/

/-- The route word, Table 11-2. -/
def FMsg.route (m : FMsg) : Nat := m.dst % 2 ^ 12 + m.src % 2 ^ 12 * 2 ^ 12 + m.ttl % 2 ^ 8 * 2 ^ 24 + m.prio % 4 * 2 ^ 32

/-- TYPE of the frames of Table 11-3. -/
def FBody.type : FBody → Nat
  | .hello .. => 0x90 | .lsa _ => 0x91 | .tsyncReq => 0x92 | .tsyncRsp .. => 0x93 | .report _ => 0x94 | .grant _ => 0x95
  | .telReq => 0x96 | .telRsp _ => 0x97 | .lreadReq .. => 0x98 | .lreadRsp .. => 0x99 | .error .. => 0x7F

/-- 32-bit words two to a word, the lower one in bits [31:0]. -/
def pairUp : List Nat → List Nat
  | [] => []
  | [a] => [a]
  | a :: b :: l => (a + b * 2 ^ 32) :: pairUp l

/-- Fields of 16 bits four to a word. -/
def quadUp (l : List Nat) (j : Nat) : Nat := l.getD (4 * j) 0 + l.getD (4 * j + 1) 0 * 2 ^ 16 + l.getD (4 * j + 2) 0 * 2 ^ 32 + l.getD (4 * j + 3) 0 * 2 ^ 48

/-- The words from word 2 on, Tables 11-3, 11-6 and 11-7. -/
def FBody.words : FBody → List Nat
  | .hello id addr static seen fec port cost =>
    [id.toNat, addr + static.toNat * 2 ^ 12 + seen.toNat * 2 ^ 13 + fec.toNat * 2 ^ 14 + port * 2 ^ 16 + cost * 2 ^ 18]
  | .lsa m => [m.id.toNat, m.addr + m.static.toNat * 2 ^ 12 + m.pps.toNat * 2 ^ 13 + m.tpri * 2 ^ 16 + m.age * 2 ^ 24 + m.aseq * 2 ^ 32] ++
      m.links.map (fun k => k.1 + k.2.1 * 2 ^ 12 + k.2.2.toNat * 2 ^ 16)
  | .tsyncReq => []
  | .tsyncRsp t2 t3 root hops synced disc => [t2.toNat, t3.toNat, root + hops * 2 ^ 12 + synced.toNat * 2 ^ 20 + disc.toNat * 2 ^ 21]
  | .report m => [m.tableId + m.slot * 2 ^ 12 + m.state * 2 ^ 16 + m.retreq.toNat * 2 ^ 20 + m.sync.toNat * 2 ^ 21 + m.crc.toNat * 2 ^ 32,
      m.round + m.epoch * 2 ^ 32 + m.held * 2 ^ 48, m.heldExp + m.eSum * 2 ^ 32] ++ pairUp ((List.range 16).map (fun k => m.eStr.getD k 0))
  | .grant m => [m.tableId + m.coord * 2 ^ 12 + m.retSlot * 2 ^ 16 + m.first.toNat * 2 ^ 20 + m.crc.toNat * 2 ^ 32, m.round + m.live * 2 ^ 32, m.p] ++
      (List.range 4).map (quadUp m.shares)
  | .telReq => []
  | .telRsp block => words8 8 block
  | .lreadReq ofs len => [ofs + len * 2 ^ 32]
  | .lreadRsp status ofs ws => [status, ofs] ++ (if status = 0 then pairUp (ws.map (·.toNat)) else [])
  | .error code seq => [code + seq * 2 ^ 16]

/-- A fabric frame as it travels: a message of R87 whose word 1 is the route word (R355). -/
def FMsg.bytes (m : FMsg) (seq ack : Nat) (ackV : Bool) : List Byte := msgBytes m.body.type seq ack ackV (m.route :: m.body.words)

end Sys2Proof.Machine
end

