-- ==== Sys2Proof/Machine/Link.lean ====
section
/-! DEFINITION. The Hjelzor Cache Link (03): lanes and training, link states, the message layer with its replay buffer, link
errors, and what a port sends. -/

namespace Sys2Proof.Machine

/-! ### The message layer (R87, R88) -/

namespace Chan
variable {α : Type}

/-- Put a message into the replay buffer under the next SEQ. -/
def put (m : α) (c : Chan α) : Chan α := { c with seq := (c.seq + 1) % 4096, buf := c.buf ++ [(c.seq, m)] }

/-- A message waits for room in the replay buffer, or for the link. -/
def hold (m : α) (c : Chan α) : Chan α := { c with wait := c.wait ++ [m] }

/-- Send a message: at most 1,024 stay unacknowledged, and a later one never overtakes one that waits (R88). -/
def push (m : α) (c : Chan α) : Chan α := if c.buf.length < 1024 && c.wait.isEmpty then c.put m else c.hold m

/-- The first of `k` waiting messages that the replay buffer has room for. -/
def first (k : Nat) (c : Chan α) : List α := c.wait.take (min k (1024 - c.buf.length))

/-- They are sent, in order. -/
def fill (k : Nat) (c : Chan α) : Chan α := { (c.first k).foldl (fun d m => d.put m) c with wait := c.wait.drop (min k (1024 - c.buf.length)) }

/-- Every waiting message there is room for is sent. -/
def refill (c : Chan α) : Chan α := c.fill c.wait.length

/-- A message is received in sequence: the next SEQ is expected, and its own is acknowledged, in the header of the next message sent or, with
nothing to send, in an ACK at most 2 us later, which is within this step (R88, log entry 34). -/
def accept (c : Chan α) : Chan α := { c with expect := (c.expect + 1) % 4096, nak := none, acked := some c.expect }

/-- ACK and ACK_V of every header sent: the highest SEQ received in order (Table 03-4). -/
def ackField (c : Chan α) : Nat × Bool := (c.acked.getD 0, c.acked.isSome)

/-- An ACK frees every message up to the one it names, where the buffer holds it. -/
def ack (n : Nat) (c : Chan α) : Chan α :=
  match c.buf.findIdx? (fun x => x.1 == n) with
  | some i => { c with buf := c.buf.drop (i + 1), tries := 0 }
  | none => c

/-- The partner's NAK names a SEQ it can expect: that of a message in the buffer, or the next one to be sent. -/
def naked (n : Nat) (c : Chan α) : Bool := c.seq == n || c.buf.any (fun x => x.1 == n)

/-- A NAK frees the messages before the SEQ the partner expects; what stays is replayed from it, and a replay that follows no progress is
counted (R88, Table 03-9). -/
def nakFrom (n : Nat) (c : Chan α) : Chan α :=
  match c.buf.findIdx? (fun x => x.1 == n) with
  | some 0 => { c with tries := c.tries + 1 }
  | some i => { c with buf := c.buf.drop i, tries := 0 }
  | none => if c.seq = n then { c with buf := [], tries := 0 } else c

/-- The link went down: both directions start afresh. -/
def clear (_ : Chan α) : Chan α := { seq := 0, buf := [], wait := [], tries := 0, expect := 0, nak := none, acked := none }

end Chan

/-- A message that goes in IDENT already, and in RECOVER: the REQ of IDENT, an ERROR. -/
def HclOut.now : HclOut → Bool
  | .req true _ _ _ => true
  | .error .. => true
  | _ => false

namespace State

abbrev lk (s : State) (p : Nat) : Link := rd s.links p

def mdLk (p : Nat) (f : Link → Link) (s : State) : State := { s with links := md s.links p f }

/-! ### Ports and widths (R75, R76) -/

/-- The port belongs to a bonded pair (R75). -/
def bonded (s : State) (p : Nat) : Bool := (rd s.im.ports (p / 2 * 2)).bond

/-- The upper port of a bonded pair, which has no link of its own. -/
def upper (s : State) (p : Nat) : Bool := s.bonded p && p % 2 == 1

/-- Configured width in lanes. -/
def cfgWidth (s : State) (p : Nat) : Nat := if s.bonded p then 4 else 2

/-- L_nom in MB/s of a trained width, Table 03-1. -/
def lNomOf (w : Nat) : Nat := match w with | 1 => 1400 | 2 => 2800 | 4 => 5600 | _ => 0

/-- The lanes a set of locked lanes trains on, Table 03-1; none where no permitted width locks. -/
def widthLanes (cfg lanes : Nat) : Option (Nat × Nat) :=
  if cfg = 4 then
    if lanes % 16 = 15 then some (4, 15) else if lanes % 4 = 3 then some (2, 3) else if lanes / 4 % 4 = 3 then some (2, 12) else none
  else
    if lanes % 4 = 3 then some (2, 3) else if lanes % 2 = 1 then some (1, 1) else if lanes / 2 % 2 = 1 then some (1, 2) else none

/-- PORT.LSTAT.STATE, Table 03-3; the upper port of a bonded pair mirrors the lower. -/
def linkCode (s : State) (p : Nat) : Nat :=
  let l := s.lk (if s.upper p then p - 1 else p)
  if l.failed then 6 else if l.rcv then 5 else l.st

/-- The link is in UP. -/
def linkUp (s : State) (p : Nat) : Bool := !(s.upper p) && (s.lk p).st == 4 && !(s.lk p).rcv && !(s.lk p).failed

/-- The port's transmitter carries messages: IDENT, UP, or RECOVER once trained again. -/
def linkMsgs (s : State) (p : Nat) : Bool := !(s.upper p) && 3 ≤ (s.lk p).st

/-! ### Link faults (R115, R381, R382) -/

/-- The link-lost sub-source (R382): enabled, once in UP, not in UP, and not left by QUIET. -/
def linkLost (p : Nat) (s : State) : State :=
  let l := s.lk p
  s.follow p 10 (l.en && l.upOnce && !(s.linkUp p) && !l.quiet)

/-- A condition of Table 03-9 occurs: its PORT.ERR bit, and its sub-source live for one turn (R381). -/
def portErr (p bit : Nat) (s : State) : State :=
  (s.mdLk p (fun l => { l with err := l.err ||| BitVec.ofNat 32 (2 ^ bit) })).raiseTurn p bit

/-! ### Training and states (R82 to R85, R116) -/

/-- A port leaves for RECOVER: it retrains and must find the same identity again. SEQ and the replay buffer stay (log entry 31); the count
of replays without progress starts again, which the manual leaves open (DESIGN CHOICE, log entry 153). -/
def toRecover (p : Nat) (s : State) : State :=
  let l := s.lk p
  if s.upper p || l.failed || l.rcv || l.st = 0 then s
  else (s.mdLk p (fun l => { l with
    rcv := true, st := 1, width := 0, lanes := 0, reqs := tall 4 0, recovers := satAdd 0xFFFF l.recovers 1, chan := { l.chan with tries := 0 },
    exp := if l.idRead then some l.id else none })).linkLost p

/-- A port goes DOWN: unacknowledged messages are dropped; the identity is no longer read. -/
def toDown (p : Nat) (byQuiet : Bool) (s : State) : State :=
  (s.mdLk p (fun l => { l with
    st := 0, rcv := false, failed := false, fails := 0, width := 0, lanes := 0, exp := none, chan := l.chan.clear, idRead := false,
    quiet := if l.st = 4 && !l.rcv then byQuiet else l.quiet })).linkLost p

/-- A new training attempt starts in LOCK. -/
def newAttempt (p : Nat) (s : State) : State :=
  s.mdLk p (fun l => { l with st := 1, width := 0, lanes := 0, reqs := tall 4 0, recovers := satAdd 0xFFFF l.recovers 1 })

/-- SIGNAL_DETECT: signal on lane 0 of an enabled port in DOWN (R82). -/
def signalDetect (p : Nat) (s : State) : State :=
  let l := s.lk p
  if s.upper p || !l.en || l.st ≠ 0 || l.failed then s else s.newAttempt p

/-- BLOCK_LOCK on a set of lanes: the widest permitted width (R76, R82). -/
def blockLock (p lanes : Nat) (s : State) : State :=
  if (s.lk p).st ≠ 1 then s
  else match widthLanes (s.cfgWidth p) lanes with
  | none => s
  | some (_, m) => s.mdLk p (fun l => { l with st := 2, lanes := m })

/-- TRAIN_1 received on a lane: a new coefficient request, at most 64 a lane, is applied and its sequence echoed (R83); a lane number that
does not match the lane map fails the attempt (R84), and in FAILED the next one waits for the 1 s retry (R85). -/
def train1 (p lane laneNo coef sq : Nat) (s : State) : State :=
  let l := s.lk p
  if l.st ≠ 2 then s
  else if laneNo ≠ lane then (if l.failed then s.mdLk p (fun l => { l with st := 0, width := 0, lanes := 0 }) else s.newAttempt p)
  else if 64 ≤ rd l.reqs lane || l.coef.any (fun c => c.1 == lane && c.2.2 == sq && 0 < rd l.reqs lane) then s
  else s.mdLk p (fun l => { l with coef := (l.coef.filter (fun c => c.1 != lane)) ++ [(lane, coef, sq)], reqs := md l.reqs lane (· + 1) })

/-! ### Sending -/

/-- Count bytes sent toward a port, and those replayed (R77). Numbered messages count; ACK and NAK, ordered sets and idles do not (DESIGN
CHOICE, log entry 151). -/
def countBytes (p words : Nat) (again : Bool) (s : State) : State :=
  s.mdLk p (fun l => { l with curTot := l.curTot + 8 * words, curRep := l.curRep + if again then 8 * words else 0 })

/-- How many of the waiting messages may go: all in UP, in IDENT and RECOVER those at the front that `now` names (R86, R115). -/
def portFree (s : State) (p : Nat) : Nat :=
  if !s.linkMsgs p then 0
  else if s.linkUp p then (s.lk p).chan.wait.length else ((s.lk p).chan.wait.takeWhile HclOut.now).length

/-- The port's waiting messages go, as far as the link carries them and the replay buffer has room. -/
def portFill (p : Nat) (s : State) : State :=
  let k := s.portFree p
  if k = 0 then s
  else (forL ((s.lk p).chan.first k) (fun m t => t.countBytes p m.words false) s).mdLk p (fun l => { l with chan := l.chan.fill k })

/-- Send a message ahead of those that wait: the REQ of IDENT, an ERROR (R86, R115); it too waits for room in the replay buffer (R88). -/
def sendNow (p : Nat) (m : HclOut) (s : State) : State :=
  if s.linkMsgs p then (s.mdLk p (fun l => { l with chan := { l.chan with wait := m :: l.chan.wait } })).portFill p else s

/-- Send a message on a port whose link carries messages; one made while the port is in RECOVER or trains waits there and goes when UP is
reached (DEDUCED, log entry 154). -/
def send (p : Nat) (m : HclOut) (s : State) : State :=
  if s.upper p || (s.lk p).st = 0 then s else (s.mdLk p (fun l => { l with chan := l.chan.hold m })).portFill p

/-- Replay everything unacknowledged. -/
def replay (p : Nat) (s : State) : State := forL (s.lk p).chan.buf (fun x t => t.countBytes p x.2.words true) s

/-- TRAIN_2 exchanged with an agreeing width: IDENT is entered and REQ sent (R83, R86). A different width changes nothing. -/
def train2 (p width : Nat) (s : State) : State :=
  let l := s.lk p
  let w := (idxs 4 (fun i => bitOf l.lanes i)).length
  if l.st = 2 && w = width then
    (s.mdLk p (fun l => { l with st := 3, width := w, lNom := lNomOf w, failed := false, fails := if l.rcv then l.fails else 0 })).sendNow p
      (.req true false false false)
  else s

/-- TRAINING_TIMEOUT: 50 ms from LOCK without IDENT; the third such attempt in a row leaves the port FAILED (R85, Table 03-3). -/
def trainingTimeout (p : Nat) (s : State) : State :=
  let l := s.lk p
  if !(l.st = 1 || l.st = 2) || l.rcv then s
  else if l.failed then s.mdLk p (fun l => { l with st := 0, width := 0, lanes := 0 })
  else if 3 ≤ l.fails + 1 then s.mdLk p (fun l => { l with st := 0, fails := 3, failed := true, width := 0, lanes := 0 })
  else (s.mdLk p (fun l => { l with fails := l.fails + 1 })).newAttempt p

/-- FAILED_RETRY: a new attempt every 1 s in FAILED while EN is 1 (R85). -/
def failedRetry (p : Nat) (s : State) : State :=
  let l := s.lk p
  if l.failed && l.en then s.newAttempt p else s

/-- LANE_LOCK_LOST: a trained lane without block lock for 1 us (R76, Table 03-9). A port already in RECOVER and trained again retrains
there. ERR.LOCK and its source are those of the link, which in a bonded pair is the lower port's, whichever lane it was (DESIGN CHOICE, log entry
216). -/
def laneLockLost (p lane : Nat) (s : State) : State :=
  let l := s.lk p
  if s.linkMsgs p && bitOf l.lanes lane then (if l.rcv then (s.portErr p 1).newAttempt p else (s.portErr p 1).toRecover p) else s

/-! ### Receiving -/

/-- A protocol error (Table 03-9): ERROR 0x10 to the adapter, ERR.PROTO; the eighth in a turn takes the port to RECOVER. -/
def protoErr (p sq : Nat) (s : State) : State :=
  let s1 := (s.portErr p 2).sendNow p (.error 0x10 sq)
  let s2 := s1.mdLk p (fun l => { l with proto := l.proto + 1 })
  if 8 ≤ (s2.lk p).proto then s2.toRecover p else s2

/-- A message's header at the receiver (R88, Table 03-9): it is accepted only in sequence and well formed. -/
def rxHdr (p : Nat) (h : Hdr) (s : State) : Bool × State :=
  if !s.linkMsgs p then (false, s)
  else
    let s1 := if h.ackV then (s.mdLk p (fun l => { l with chan := l.chan.ack h.ack.toNat })).portFill p else s
    let c := (s1.lk p).chan
    if c.expect ≠ h.seq.toNat then
      (false, s1.mdLk p (fun l => { l with chan := { l.chan with nak := some c.expect }, cntCrc := satAdd 0xFFFF l.cntCrc 1 }))
    else
      let s2 := s1.mdLk p (fun l => { l with chan := l.chan.accept })
      if h.ok then (true, s2) else (false, s2.protoErr p h.seq.toNat)

/-- Do `f` when the header is accepted. -/
def receive (p : Nat) (h : Hdr) (f : State → State) (s : State) : State :=
  let r := s.rxHdr p h
  if r.1 then f r.2 else r.2

/-- An ACK on a cache port; one that is malformed is a protocol error and frees nothing (Table 03-9). -/
def portAck (p : Nat) (h : Hdr) (s : State) : State :=
  if !s.linkMsgs p then s
  else if !h.ok then s.protoErr p h.seq.toNat
  else if h.ackV then (s.mdLk p (fun l => { l with chan := l.chan.ack h.ack.toNat })).portFill p else s

/-- A block error on a port's own lanes, once the link trains: it is counted at that port, the upper of a bonded pair included, and the
message it stands in, which is the lower port's, is discarded and NAKed (R79). -/
def blockErr (p : Nat) (s : State) : State :=
  let b := if s.upper p then p - 1 else p
  if (s.lk b).st < 2 then s
  else
    let s1 := s.mdLk p (fun l => { l with cntBlk := satAdd 0xFFFF l.cntBlk 1 })
    if s1.linkMsgs b then s1.mdLk b (fun l => { l with chan := { l.chan with nak := some l.chan.expect } }) else s1

/-- A NAK received: what precedes the SEQ it names is freed and the rest replayed from there; the replay after 4 of one message without
progress is RECOVER instead (R88, Table 03-9). -/
def nakRx (p : Nat) (e : Nat) (s : State) : State :=
  let c := (s.lk p).chan
  if !(c.naked e) then s
  else if (match c.buf with | b :: _ => b.1 == e | [] => false) && 4 ≤ c.tries then (s.portErr p 0).toRecover p
  else ((s.mdLk p (fun l => { l with chan := l.chan.nakFrom e })).replay p).portFill p

/-- A NAK received, or a discarded message that makes the controller send one (R79, R88). -/
def portNak (p : Nat) (w : NakWhy) (s : State) : State :=
  match w with
  | .blockError => s.blockErr p
  | .received h e => if s.linkMsgs p && h.ok then (s.portAck p h).nakRx p e.toNat else s.portAck p h
  | .badCrc => if s.linkMsgs p then s.mdLk p (fun l => { l with cntCrc := satAdd 0xFFFF l.cntCrc 1, chan := { l.chan with nak := some l.chan.expect } }) else s
  | .outOfSeq => if s.linkMsgs p then s.mdLk p (fun l => { l with cntCrc := satAdd 0xFFFF l.cntCrc 1, chan := { l.chan with nak := some l.chan.expect } }) else s

/-- REPLAY_TIMEOUT on a cache port: replay, or after 4 replays without progress RECOVER (R88, Table 03-9). -/
def portReplay (p : Nat) (s : State) : State :=
  let l := s.lk p
  if !s.linkMsgs p || l.chan.buf.isEmpty then s
  else if 4 ≤ l.chan.tries then (s.portErr p 0).toRecover p
  else (s.mdLk p (fun l => { l with chan := { l.chan with tries := l.chan.tries + 1 } })).replay p

/-- What a port's transmitter sends for a message kept for replay, its header's ACK included, and the ACK and NAK it makes (R87, R88). -/
def portBytes (s : State) (p : Nat) (e : Nat × HclOut) : List Byte :=
  let a := (s.lk p).chan.ackField
  e.2.bytes e.1 a.1 a.2
def portAckBytes (s : State) (p : Nat) : List Byte := ackBytes (s.lk p).chan.seq ((s.lk p).chan.ackField).1
def portNakBytes (s : State) (p : Nat) : List Byte :=
  let a := (s.lk p).chan.ackField
  nakBytes (s.lk p).chan.seq a.1 a.2 (s.lk p).chan.expect

/-- A port's trained lanes, and those of its configured width. -/
def laneList (s : State) (p : Nat) : List Nat := idxs 4 (fun i => bitOf (s.lk p).lanes i)
def cfgLanes (s : State) (p : Nat) : List Nat := List.range (s.cfgWidth p)

/-- What each trained lane of a port sends of a message whose START block is block i of its stream; how many IDLE blocks came before it, and so i, no
command tells (R80, R87). -/
def portLanes (s : State) (p i : Nat) (m : List Byte) : List (Nat × List Block) :=
  stripeOn (s.laneList p) i (msgBlocks (BitVec.ofNat 8 (Config.freeWord s.clk.free).toNat) m)

/-- The ordered sets a port sends: FREEZE, TRAIN_1 while it trains, each lane with its own number and the request it applied last, TRAIN_2, and SKIP and
QUIET (R80, R83, R105, Table 03-2). -/
def portFreeze (s : State) (p : Nat) : List (Nat × Block) :=
  match (s.lk p).frzSet with
  | some (serial, g, test) => orderedOn (if (s.lk p).st < 2 then s.cfgLanes p else s.laneList p) (fun _ => freezeBlock serial g test)
  | none => []
def portTrain1 (s : State) (p : Nat) : List (Nat × Block) :=
  orderedOn (s.laneList p) (fun l => match (s.lk p).coef.find? (fun c => c.1 == l) with
    | some c => train1Block l (s.cfgWidth p) c.2.1 c.2.2
    | none => train1Block l (s.cfgWidth p) 0 0)
def portTrain2 (s : State) (p : Nat) : List (Nat × Block) := orderedOn (s.laneList p) (fun l => train2Block l (s.laneList p).length)
def portPlain (s : State) (p : Nat) (c : CtlBlock) : List (Nat × Block) := orderedOn (s.laneList p) (fun _ => leBytes 1 c.code ++ zeros 7)

/-- What an IDENT tells (Table 03-7). -/
def takeIdent (p : Nat) (m : IdentMsg) (s : State) : State :=
  s.mdLk p (fun l => { l with
    idRead := true, id := m.id, squares := m.squares, bondCap := m.bondCap, intact := m.intact, srGood := m.srGood, cstate := m.cstate,
    serial := m.serial })

/-- An accepted IDENT (R86, R91, R116). -/
def identRx (p : Nat) (m : IdentMsg) (s : State) : State :=
  let l := s.lk p
  if l.st = 3 then
    if m.id = 0 || m.id = 0xFFFFFFFFFFFFFFFF#64 then s.portErr p 7
    else if l.rcv && (match l.exp with | some i => i != m.id | none => false) then s
    else (((s.takeIdent p m).mdLk p (fun l => { l with st := 4, rcv := false, upOnce := true, quiet := false, exp := none })).linkLost p).portFill p
  else if l.idRead && l.id ≠ m.id then
    ((s.portErr p 6).toRecover p).mdLk p (fun l => { l with idRead := false })
  else s.takeIdent p m

/-- An ERROR from an adapter; a code outside the table is a field out of range (R115, Table 03-9). -/
def hclError (p sq code : Nat) (s : State) : State :=
  match code with
  | 0x10 => s.portErr p 2
  | 0x21 => s.portErr p 2
  | 0x30 => s.portErr p 3
  | 0x31 => s.portErr p 4
  | _ => s.protoErr p sq

/-! ### Turn boundary (R77) -/

/-- L_p of a port and the 64-turn window; q is 0 where no byte went toward the port in it (DESIGN CHOICE, log entry 151). The protocol
errors of the turn are forgotten. -/
def linkTurn (p : Nat) (s : State) : State :=
  s.mdLk p (fun l =>
    let b := ((l.curRep, l.curTot) :: l.bytes).take 64
    let rep := b.foldl (fun a x => a + x.1) 0
    let tot := b.foldl (fun a x => a + x.2) 0
    let nom := lNomOf l.width
    { l with bytes := b, curRep := 0, curTot := 0, proto := 0, lNom := nom, lP := if tot = 0 then nom else nom * (tot - rep) / tot })

/-- FREEZE on every lane of every port in LOCK, TRAIN, IDENT, UP or RECOVER (R105). -/
def sendFreeze (serial : Nat) (test : Bool) (s : State) : State :=
  forN 64 (fun p t =>
    if t.upper p || (t.lk p).st = 0 || (t.lk p).failed then t
    else t.mdLk p (fun l => { l with frzSet := some (serial, (rd t.im.ports p).frz, test) })) s

end State
end Sys2Proof.Machine
end

