-- ==== Sys2Proof/Machine/KeyExchange.lean ====
section
/-! DEFINITION. The partner link's sending side (R336) and the opening of a key exchange (R349), which the key erase of R216 uses. -/

namespace Sys2Proof.Machine
namespace State

/-- An update of the pair's part of the state. -/
def mdPair (f : Pair → Pair) (s : State) : State := { s with pair := f s.pair }

/-- Send a message; nothing is kept for a partner that has delivered none since the last loss. -/
def psend (m : PMsg) (s : State) : State := if s.pair.plOpen then s.mdPair (fun p => { p with chan := p.chan.push m }) else s

/-- This controller's offer or reply. -/
def kxOwn (s : State) : List Byte × List Byte × List Byte :=
  let pub := Config.ecdhPub s.pair.kxPriv
  (Config.identityKey, pub, Config.ecdsaSign s.pair.kxPriv pub)

/-- An exchange fails or ends. -/
def kxEnd (st : Nat) (s : State) : State := s.mdPair (fun p => { p with kxSt := st, kxApprove := false, kxFor := none, kxBlock := none })

/-- An exchange that has not brought the wraps cannot go on (R349). -/
def kxDrop (s : State) : State := if s.pair.kxSt = 1 && s.pair.kxBlock.isNone then s.kxEnd 3 else s

/-- It runs only in Ready and Service, and at most 500 ms (R349). -/
def kxRuns (s : State) : Bool := s.pair.kxSt == 1 && s.inState [.ready, .service] && decide (s.clk.l - s.pair.kxAt ≤ 500000000)

/-- An exchange that may not go on ends at the boundary, failed (DEDUCED, log entry 207). -/
def kxTurn (s : State) : State := if s.kxRuns then s else s.kxDrop

/-- The holder's first message of an exchange. -/
def kxBegin (s : State) : State :=
  let s1 := (s.mdPair (fun p => { p with kxSt := 1, kxAt := s.clk.l, kxPriv := s.clk.free, kxBlock := none })).tick
  let o := s1.kxOwn
  s1.psend (.kxOffer o.1 o.2.1 o.2.2)

end State
end Sys2Proof.Machine
end

