-- ==== Sys2Proof/Machine/Layout.lean ====
section
/-! DEFINITION. The bytes of the vault's units as they lie on flash (05): payload, trailer, tag and parity of each codeword, and what a
reader accepts (R134, R169, R172 to R174, R176); the ports' key pairs (R201). -/

namespace Sys2Proof.Machine

/-! ### Keys (R201, R202) -/

/-- The data key pair of a port: bytes 0 to 63 of its key material. -/
def dataKey (mat p : Nat) : BitVec 512 := BitVec.ofNat 512 (leNat ((leBytes 128 (Config.keyMaterial mat p).toNat).take 64))

/-- The trailer key pair of a port: bytes 64 to 127 of its key material. -/
def trailerKey (mat p : Nat) : BitVec 512 := BitVec.ofNat 512 (leNat ((leBytes 128 (Config.keyMaterial mat p).toNat).drop 64))

/-- The key material of the 64 ports, 128 bytes each (R201). -/
def portKeys (mat : Nat) : List Byte := (List.range 64).flatMap (fun p => leBytes 128 (Config.keyMaterial mat p).toNat)

/-- The 64 ports' keys wrapped under a device key, 136 bytes each (R202). -/
def wrapKeys (dev : BitVec 256) (keys : List Byte) : List Byte :=
  (List.range 64).flatMap (fun p => leBytes 136 (Config.keyWrap dev (BitVec.ofNat 1024 (leNat ((keys.drop (128 * p)).take 128)))).toNat)

/-! ### Codewords (R169) -/

/-- A list cut or filled with zeros to n bytes. -/
def fit (n : Nat) (bs : List Byte) : List Byte := (bs ++ zeros n).take n

/-- The 65,536 payload bytes of a plaintext unit (Table 05-4); a square's are the ciphertext of its chunks, below. -/
def NBody.payload : NBody → List Byte
  | .square chunks _ => fit 65536 (chunks.flatMap (fit 4096))
  | .filler => zeros 65536
  | .index e => e.bytes
  | .confirm c => c.bytes
  | .manifest m => m.bytes
  | .mark r => fit 65536 r.bytes
  | .saveMan m => m.bytes
  | .sledDesc d => fit 65536 d.bytes
  | .keyBlock k => fit 65536 k.bytes
  | .blockTable factory grown erases =>
    let f : BlkRef → Nat × Nat × Nat := fun b => (b.ch, b.die, b.blk)
    fit 65536 (Config.blockTable (factory.map f) (grown.map f) (erases.map (fun e => (f e.1, e.2))))

/-- The plaintext chunk k of a unit. -/
def NBody.chunk (b : NBody) (k : Nat) : List Byte := (b.payload.drop (4096 * k)).take 4096

/-- The plaintext trailer of codeword k (R172, R173). -/
def trailer (t : UTag) (b : NBody) (k : Nat) : List Byte :=
  let pcrc := leBytes 4 (crc32c (b.chunk k)).toNat
  match b with
  | .square _ _ => pcrc ++ leBytes 2 t.sq ++ leBytes 1 (k % 16 + t.gen % 16 * 16) ++ leBytes 1 t.port ++ leBytes 4 t.seq ++ zeros 4
  | _ => pcrc ++ zeros 12

/-- Bytes 0 to 4,111 of codeword k: payload and trailer, encrypted under the codeword's DUN in a data unit (R172). -/
def unitHead (t : UTag) (b : NBody) (k : Nat) : List Byte :=
  match b with
  | .square _ mat =>
    let dun := BitVec.ofNat 64 (t.dun k)
    Config.xts (dataKey mat t.port) dun (b.chunk k) ++ Config.xts (trailerKey mat t.port) dun (trailer t b k)
  | _ => b.chunk k ++ trailer t b k

/-- XOR of two byte lists, a missing byte counting as 0. -/
def xorBytes : List Byte → List Byte → List Byte
  | [], ys => ys
  | xs, [] => xs
  | x :: xs, y :: ys => (x ^^^ y) :: xorBytes xs ys

/-- Bytes 0 to 4,111 of codeword k of any unit; a parity unit's are the XOR of its stripe's data units' (R176). -/
def FUnit.head (u : FUnit) (k : Nat) : List Byte :=
  match u.body with
  | .one b => unitHead u.tag b k
  | .parity xs => xs.foldl (fun a x => xorBytes a (unitHead x.1 x.2 k)) (zeros 4112)

/-- The 4,144 user bytes of codeword k. -/
def FUnit.user (u : FUnit) (k : Nat) : List Byte := u.head k ++ u.tag.bytes k

/-- Codeword k as it lies on a die whose recipe has `par` parity bytes. -/
def FUnit.codeword (u : FUnit) (par k : Nat) : List Byte := u.user k ++ Config.ldpc par (u.user k)

/-- A reader's checks of a data unit's codeword that has decoded: TCRC, the decrypted trailer against the tag, and PCRC against the decrypted
payload (R174). `bs`: the 4,144 user bytes; `mat`: the reader's key material. -/
def acceptsData (mat : Nat) (bs : List Byte) : Bool :=
  let tag := bs.drop 4112
  let p := leNat ((tag.drop 12).take 1)
  let dun := BitVec.ofNat 64 (leNat ((tag.drop 20).take 8))
  let plain := Config.xtsOpen (dataKey mat p) dun (bs.take 4096)
  let tr := Config.xtsOpen (trailerKey mat p) dun ((bs.drop 4096).take 16)
  leNat ((tag.drop 28).take 4) == (crc32c (tag.take 28)).toNat
    && leNat (tr.drop 12) == 0
    && (tr.drop 4).take 2 == (tag.drop 16).take 2 && (tr.drop 6).take 1 == (tag.drop 15).take 1
    && (tr.drop 7).take 1 == (tag.drop 12).take 1 && (tr.drop 8).take 4 == tag.take 4
    && leNat (tr.take 4) == (crc32c plain).toNat

end Sys2Proof.Machine
end

