-- ==== Sys2Proof/Machine/Vault.lean ====
section
/-! DEFINITION. The vault (05): locations and allocation, rings and descriptors, stripes with sled parity, catalog units, images
on flash, sled classes, health, reserve and erase-ahead. -/

namespace Sys2Proof.Machine

/-! ### Locations (R179, R182) -/

/-- Unit row groups per block of a recipe: a unit spans 16 / (PLANES x CW_PAGE) page rows. -/
def Recipe.groups (r : Recipe) : Nat := r.rowsBlk / max 1 (16 / max 1 (r.planes * r.cwPage))

/-- Blocks of the recipe's range. -/
def Recipe.blocks (r : Recipe) : Nat := r.blkLast + 1 - r.blkFirst

/-- Die (target and LUN), row group and block offset of a LOC. -/
def locDie (l : Nat) : Nat := l % 32
def locRow (l : Nat) : Nat := l / 32 % 256
def locBlk (l : Nat) : Nat := l / 8192

/-- The LOC of ordinal k on a ring of `nt` targets, `nl` LUNs and `ng` row groups: the target varies fastest, then the LUN, then the
row group, then the block. -/
def ordLoc (nt nl ng k : Nat) : Nat :=
  k % nt + k / nt % nl * 8 + k / (nt * nl) % ng * 32 + k / (nt * nl * ng) * 8192

/-- The ordinal of a LOC. -/
def locOrd (nt nl ng l : Nat) : Nat :=
  l % 8 + nt * (l / 8 % 4 + nl * (locRow l + ng * locBlk l))

/-- Block boundaries of an area (R182): 0 SAVE, 1 LOG, 2 CAT, 3 scratch. -/
def Areas.range (a : Areas) : Nat → Nat × Nat
  | 0 => (a.save, a.log)
  | 1 => (a.log, a.scratch)
  | 2 => (a.cat, a.save)
  | _ => (a.scratch, a.stop)

/-- Units in a stripe and sleds of a geometry (R175). -/
def geomSleds (g : Nat) : List Nat := idxs 4 (fun i => bitOf g i)
def geomMode (g : Nat) : Nat := g / 16 % 4
def geomUnits (g : Nat) : Nat := match geomMode g with | 0 => (geomSleds g).length | 1 => 2 | _ => 1
def geomData (g : Nat) : Nat := if geomMode g = 0 then geomUnits g - 1 else 1

/-- The position of data unit d of a stripe (R176). -/
def dataPos (g num d : Nat) : Nat := if geomMode g = 0 then (if d < num % geomUnits g then d else d + 1) else d

/-- Serial order of log sequences (R229). -/
def seqBefore (a b : Nat) : Bool := let d := (b + 2 ^ 31 - a) % 2 ^ 31; 1 ≤ d && d < 2 ^ 30

/-- The sequence number by which confirm entries name a log unit: a mirrored unit's first copy's, whose second copy takes the next (R176, R229). -/
def UTag.copySeq (t : UTag) : Nat := if t.kind = 3 && geomMode t.geom = 1 && t.pos = 1 then (t.seq + 2 ^ 31 - 1) % 2 ^ 31 else t.seq

/-- The tag of a mirrored unit's other copy; the two sequence numbers follow each other. -/
def UTag.twin (t : UTag) : UTag :=
  { t with pos := 1 - t.pos, seq := if t.pos = 0 then (if t.serial = 0 then (t.seq + 1) % 2 ^ 31 else t.seq + 1)
      else if t.serial = 0 then (t.seq + 2 ^ 31 - 1) % 2 ^ 31 else t.seq - 1 }

namespace State

abbrev sled (s : State) (x : Nat) : Sled := rd s.vault.sleds x
abbrev ring (s : State) (r : Nat) : Ring := rd s.vault.rings r

def mdVault (f : Vault → Vault) (s : State) : State := { s with vault := f s.vault }
def mdSled (x : Nat) (f : Sled → Sled) (s : State) : State := { s with vault := { s.vault with sleds := md s.vault.sleds x f } }
def mdRing (r : Nat) (f : Ring → Ring) (s : State) : State := { s with vault := { s.vault with rings := md s.vault.rings r f } }
def mdDev (x : Nat) (f : SledDev → SledDev) (s : State) : State := s.mdSled x (fun y => { y with dev := f y.dev })

/-- The first recipe whose masked ID matches (R167). -/
def matchRecipe (s : State) (id : Nat) : Option Nat :=
  ((List.range s.im.recipes.length).find? (fun i => let r := s.im.recipes.getD i default
    (Nat.land id r.idMask) == (Nat.land r.id r.idMask)))

/-- READ ID bytes of the dies of a ring's channel, by target. -/
def dieIds (s : State) (r : Nat) : List Nat := (s.sled (r / 8)).dev.dies.getD (r % 8) []

/-- The recipe of a die of a ring, its own by its READ ID (R167, R179); `die` is bits [4:0] of a LOC. -/
def dieRecipe (s : State) (r die : Nat) : Recipe :=
  match ((s.dieIds r)[die % 8]?).bind s.matchRecipe with | some i => s.im.recipes.getD i default | none => default

/-- The recipes of a ring's dies. -/
def ringRecipes (s : State) (r : Nat) : List Recipe := (idxs (s.dieIds r).length (fun _ => true)).map (s.dieRecipe r)

/-- The most LUNs and row groups of a ring's dies: what its LOCs range over. -/
def ringLuns (s : State) (r : Nat) : Nat := (s.ringRecipes r).foldl (fun a c => max a c.lunCount) 0
def ringGroups (s : State) (r : Nat) : Nat := (s.ringRecipes r).foldl (fun a c => max a c.groups) 0

def sledAreas (s : State) (x : Nat) : Areas := match (s.sled x).dev.desc with | some d => d.areas | none => {}

/-- Targets on a ring's channel. -/
def targets (s : State) (r : Nat) : Nat := (s.dieIds r).length

/-- A LOC stands for a slot of its die: the die has the LUN and its blocks the row group. -/
def slotExists (s : State) (r loc : Nat) : Bool :=
  let c := s.dieRecipe r (locDie loc)
  decide (loc / 8 % 4 < c.lunCount) && decide (locRow loc < c.groups)

/-- Slots of an area on a ring that LOCs name, and those among them that exist. -/
def areaSize (s : State) (r area : Nat) : Nat :=
  let (b0, b1) := (s.sledAreas (r / 8)).range area
  (b1 - b0) * (s.targets r * s.ringLuns r * s.ringGroups r)
def blockSlots (s : State) (r : Nat) : Nat := (s.ringRecipes r).foldl (fun a c => a + c.lunCount * c.groups) 0

/-- The place of a LOC within its area in the cursor's order (R179, R180), and the LOC at a place. -/
def areaOrd (s : State) (r area loc : Nat) : Nat :=
  let row := s.targets r * s.ringLuns r * s.ringGroups r
  locOrd (s.targets r) (s.ringLuns r) (s.ringGroups r) loc - ((s.sledAreas (r / 8)).range area).1 * row
def areaLoc (s : State) (r area k : Nat) : Nat :=
  let row := s.targets r * s.ringLuns r * s.ringGroups r
  ordLoc (s.targets r) (s.ringLuns r) (s.ringGroups r) (((s.sledAreas (r / 8)).range area).1 * row + k)

/-- A block of a ring is listed bad. -/
def badBlk (s : State) (r die blk : Nat) : Bool :=
  let d := (s.sled (r / 8)).dev
  d.factory.contains ⟨r % 8, die, blk⟩ || d.grown.contains ⟨r % 8, die, blk⟩

/-- The programmed slots of a ring. -/
def cells (s : State) (r : Nat) : List FCell := rd (s.sled (r / 8)).dev.cells (r % 8)

/-- A slot exists, is erased and not on a bad block. -/
def slotFree (s : State) (r loc : Nat) : Bool := s.slotExists r loc && !(s.cells r).any (fun c => c.1 == loc) && !s.badBlk r (locDie loc) (locBlk loc)

/-- The next slot an append cursor grants from a LOC: erased, not bad, wrapping within its area (R180). Among the slots passed over, which
are programmed, bad or none of their die's, there is one at the latest after as many as there are of those. -/
def nextFree (s : State) (r area from_ : Nat) : Option Nat :=
  let (b0, b1) := (s.sledAreas (r / 8)).range area
  let n := s.areaSize r area
  let d := (s.sled (r / 8)).dev
  let tryN := min n ((s.cells r).length + (d.factory.length + d.grown.length) * s.ringGroups r + (n - (b1 - b0) * s.blockSlots r) + 1)
  let start := if b0 * 8192 ≤ from_ && from_ < b1 * 8192 then s.areaOrd r area from_ else 0
  ((List.range tryN).map (fun i => s.areaLoc r area ((start + i) % n))).find? (fun l => s.slotFree r l)

/-- The LOC after a LOC in its area, where a cursor stands after granting it. -/
def locAfter (s : State) (r area l : Nat) : Nat := (s.nextFree r area (l + 1)).getD noLoc

/-- The cursor of an area. -/
def cursor (s : State) (r area : Nat) : Nat :=
  match area with | 0 => (s.ring r).save | 1 => (s.ring r).log | _ => (s.ring r).cat

def setCursor (r area l : Nat) (s : State) : State :=
  s.mdRing r (fun g => match area with | 0 => { g with save := l } | 1 => { g with log := l } | 2 => { g with cat := l } | _ => g)

/-- The slot the next unit of an area goes to. -/
def grantLoc (s : State) (r area : Nat) : Option Nat :=
  s.nextFree r area (if area = 3 then 0 else s.cursor r area)

/-! ### Health (R44, R187, R189 to R191) -/

/-- Every rail slot of the sled is in regulation. -/
def sledRails (s : State) (x : Nat) : Bool := (idxs 64 (fun n => s.ofSled x n && (s.slot n).st != 5)).isEmpty

/-- The mover island runs: VDD_MOV is good and no reset holds it (Table 17-11, R396, R496). -/
def moverRuns (s : State) : Bool := rd s.pins.rails 1 && !(rd s.flt.blocks 8).held

/-- A flash island runs: it is powered, its supply is good, no reset holds it and its PLL is in lock (Table 17-11, R396, R496, R499). -/
def flashRuns (s : State) (x : Nat) : Bool :=
  (s.sled x).pwr && rd s.pins.rails 0 && rd s.pins.rails 4 && !(rd s.flt.blocks (9 + x)).held && rd s.pins.pllLock x

/-- Descriptors of a sled can be carried out: mover and flash island run. -/
def ringsRun (s : State) (x : Nat) : Bool := s.moverRuns && s.flashRuns x

/-- A rail slot supplies its sled's flash island: in regulation, or adopted enabled by a rise after a reset that left the island running (R18), or
enabled while no image tells of it yet. -/
def slotHolds (s : State) (n : Nat) : Bool := (s.slot n).st == 5 || (s.en n && ((s.slot n).st == 4 || (s.slot n).st ≤ 1))

/-- Every rail slot of the sled supplies its island. -/
def sledHolds (s : State) (x : Nat) : Bool := (idxs 64 (fun n => s.ofSled x n && !s.slotHolds n)).isEmpty

/-- A member sled healthy in every respect but the reserve (R44, R189). -/
def sledSound (s : State) (x : Nat) : Bool :=
  let d := s.sled x
  rd s.pins.sledPrs x && d.cls == 6 && d.mapDone && s.sledRails x && !d.switched && !d.drainPend

def sledHealthy (s : State) (x : Nat) : Bool := s.sledSound x && !(s.sled x).short

/-- The sled may take units of a running save or a new stripe: healthy or drain-pending. -/
def sledUsable (s : State) (x : Nat) : Bool :=
  let d := s.sled x
  s.sledHealthy x || (rd s.pins.sledPrs x && d.cls == 6 && d.mapDone && d.drainPend && !d.switched)

def healthyCount (s : State) : Nat := (idxs 4 s.sledHealthy).length

def members (s : State) : List Nat := idxs 4 (fun x => (s.sled x).cls == 6 && !(s.sled x).switched)

/-- A port is eligible (R48): link up, or in RECOVER with its identity read (R116); identity read; not disabled by EN, isolation
(R395) or being unreleased (R243); not an upper port. -/
def eligible (s : State) (p : Nat) : Bool :=
  let l := s.lk p
  !s.upper p && l.en && l.idRead && (l.rcv || s.linkUp p) && !s.flt.iso.getLsbD p && (rd s.ret.ports p).released

/-- Slots of an area on a sled's healthy channels, good and, where asked, erased. -/
def areaSlots (s : State) (x area : Nat) (erased : Bool) : Nat :=
  let (b0, b1) := (s.sledAreas x).range area
  sumN 8 (fun c =>
    let r := 8 * x + c
    let bad := ((s.sled x).dev.factory ++ (s.sled x).dev.grown).eraseDups.filter (fun b => b.ch == c && b0 ≤ b.blk && b.blk < b1)
    let lost := bad.foldl (fun a b => a + (s.dieRecipe r b.die).groups) 0
    let used := if erased then (s.cells r).filter (fun k => b0 ≤ locBlk k.1 && locBlk k.1 < b1 && !s.badBlk r (locDie k.1) (locBlk k.1)) else []
    if bitOf (s.sled x).chOk c then (b1 - b0) * s.blockSlots r - lost - used.length else 0)

/-- R_need in MiB (R189). -/
def needMib (s : State) : Nat :=
  let sq := sumN 64 (fun p => if s.eligible p then (s.lk p).squares else 0)
  let h := (idxs 4 s.sledSound).length
  1024 + ceilDiv sq (16 * (if 3 ≤ h then h - 1 else 1))

/-- Reserve, need and SHORT of every member sled (R189, R191). -/
def reserveUpdate (s : State) : State :=
  let need := s.needMib
  forN 4 (fun x t =>
    if (t.sled x).cls = 6 then
      let resv := t.areaSlots x 0 true / 16
      t.mdSled x (fun d => { d with resv, need, short := resv < need })
    else t) s

/-! ### Descriptors and rings (R143, R180, R204) -/

/-- Descriptors posted and not complete. -/
def pendingDescs (s : State) (r : Nat) : List (Nat × Desc) := (s.ring r).slots.filter (fun e => e.2.status % 256 == 0)

def depth (s : State) (r : Nat) : Nat := (s.pendingDescs r).length

/-- A descriptor is started when it is the oldest incomplete one on its die (R204). -/
def started (s : State) (r i : Nat) : Bool :=
  match (s.pendingDescs r).find? (fun e => e.1 == i) with
  | none => false
  | some e => match (s.pendingDescs r).find? (fun f => f.2.tgt == e.2.tgt) with | some f => f.1 == i | none => false

/-- CQ.PTR.HEAD: the first descriptor not started, or the tail. -/
def headPtr (s : State) (r : Nat) : Nat :=
  match (s.pendingDescs r).find? (fun e => !s.started r e.1) with | some e => e.1 | none => (s.ring r).tail

/-- The ring has room: the slot at its tail holds no descriptor that is not complete (R204), and the mover runs. -/
def room (s : State) (r : Nat) : Bool := s.pair.drv && s.moverRuns && !(s.pendingDescs r).any (fun e => e.1 == (s.ring r).tail)

/-- Post a descriptor at the tail. -/
def postDesc (r : Nat) (d : Desc) (s : State) : State :=
  let k := (s.ring r).tail
  s.mdRing r (fun g => { g with slots := g.slots.filter (fun e => e.1 != k) ++ [(k, d)], tail := (k + 1) % 256 })

/-- The descriptor that programs a unit at a LOC (Table 04-2). The tray offset is the mover's own choice (log entry 1). Bit 3 IRQ,
of whose setting no rule says anything, stays 0 (DESIGN CHOICE, log entry 199). -/
def progDesc (s : State) (r loc : Nat) (j : UnitJob) : Desc :=
  let t := j.unit.tag
  let rc := s.dieRecipe r (locDie loc)
  { opc := j.opc,
    flags := (decide (1 < rc.planes)).toNat + 4 * (decide (t.kind = 2)).toNat + 16 * (j.why == .fill).toNat,
    tgt := locDie loc, planes := 2 ^ rc.planes - 1,
    row := (Config.rowAddr (loc / 8 % 4) (locBlk loc + rc.blkFirst) (locRow loc)).toNat,
    tray := (Config.freeWord s.clk.free).toNat % 8192, serial := if s.top.state = .save && (j.area == 0 || j.area == 2 || j.area == 3) then s.save.serial else 0,
    stripe := t.stripe, port := if t.kind = 1 || t.kind = 3 then t.port else 0xFF, pos := t.pos + 4 * j.cls, sq := t.sq, gen := t.gen,
    seq := t.seq, stamp := s.stamp, dun := t.dun 0, loc, unit := some j.unit, why := j.why, area := j.area, tries := j.tries }

/-- Units of 4 turns at the full rate of one sled (R150; 8,000 MB/s per sled, Table 02-3). -/
def winUnits : Nat := 4 * ceilDiv 8000000 65536

/-- The location window of a ring: a ring's share of the units of 4 turns, never the whole area (R150). -/
def winSlots (s : State) (r area : Nat) : Nat := min (ceilDiv winUnits 8) (s.areaSize r area - 1)

/-- A location or a sequence number is inside the windows of R150: locations in the order of the append cursor, which wraps within its
area (R180), LSEQ in serial order (R229). -/
def inWindow (s : State) (r : Nat) (j : UnitJob) (loc : Nat) : Bool :=
  match s.pair.win with
  | none => true
  | some w =>
    let inside := fun (lim : Nat) =>
      let n := s.areaSize r j.area
      let d := (s.areaOrd r j.area lim + n - s.areaOrd r j.area loc) % n
      lim ≠ noLoc && 1 ≤ d && d ≤ s.winSlots r j.area
    (if j.area = 1 then j.unit.tag.seq == w.lseq || seqBefore j.unit.tag.seq w.lseq else j.unit.tag.seq ≤ w.seq)
      && (match j.area with
        | 0 => inside (w.save.getD r noLoc)
        | 1 => inside (w.log.getD r noLoc)
        | 2 => inside (w.cat.getD r noLoc)
        | _ => true)

/-- Where a system-area write goes: a good block of the system area, target 0, LUN 0 (Table 05-5). Which of them is the controller's own
choice: descriptor copies in the first two, then the two pairs of key-block copies, of which one holds the block in force and the other the new
block before a commit and the old one after it, then the block table (log entry 163). -/
def sysLoc (s : State) (r : Nat) (j : UnitJob) : Nat :=
  let good := (List.range (s.sledAreas (r / 8)).cat).filter (fun b => !s.badBlk r 0 b)
  let pair := 2 + (1 - (s.sled (r / 8)).dev.keyAt) * 2
  let k := match j.why with
    | .sys 0 n _ c _ => (n + c) % 2
    | .sys 1 _ _ c _ => pair + c
    | .sys 3 _ _ c _ => pair + c
    | .sys _ _ _ c _ => 6 + c
    | _ => 6
  good.getD k (good.getLastD 0) * 8192

/-- The ring of a sled a unit goes to: open, healthy, with space, the fewest descriptors queued, ties to the lowest (R180). System-area
units go to channel 0 or 4. -/
def pickRing (s : State) (j : UnitJob) : Option (Nat × Nat) :=
  let ok := idxs 8 (fun c => let r := 8 * j.sled + c
    !(s.ring r).failed && (s.ring r).isOpen && bitOf (s.sled j.sled).chOk c && s.room r
      && (j.area ≠ 4 || (match j.why.chan with | some k => k == c | none => c % 4 == 0))
      && (if j.area = 4 then s.inWindow r j 0 else match s.grantLoc r j.area with | some l => s.inWindow r j l | none => false))
  (ok.foldl (fun (b : Option (Nat × Nat)) c =>
    let r := 8 * j.sled + c
    match b with
    | some y => if s.depth r < y.2 then some (r, s.depth r) else b
    | none => some (r, s.depth r)) none).map (fun y => (y.1, if j.area = 4 then s.sysLoc y.1 j else (s.grantLoc y.1 j.area).getD noLoc))

/-- A unit is of a relocation's stripe. -/
def relocUnit (s : State) (area num : Nat) : Bool := s.vault.stripes.any (fun t => t.area == area && t.num == num && t.reloc)

/-- Log units of pre-staging, not of a relocation, on the rings. -/
def logUnitsOut (s : State) : Nat :=
  sumN 32 (fun r => ((s.pendingDescs r).filter (fun e => e.2.area == 1 && e.2.why == .stripe && !s.relocUnit 1 e.2.stripe)).length)

/-- A unit may be programmed now: a relocation's within its 2,000 MB/s of the turn (R209); outside Save another log unit while pre-staging is not
suspended (R218) and the turn's grant has room, the units already on the rings counted (R242); class 3, pre-staging's own, in the states alone in which
it runs. -/
def grantRoom (s : State) (j : UnitJob) : Bool :=
  if j.why != .stripe then true
  else if s.relocUnit j.area j.unit.tag.stripe then s.vault.relUsed + 65536 ≤ 2000000
  else j.area ≠ 1 || s.top.state == .save || ((j.cls ≠ 3 || s.inState [.ready, .ride, .service]) && !s.stage.susp && decide (s.stage.used + s.logUnitsOut * 65536 < s.stage.grant))

/-- Post the waiting units whose sled has an open ring, oldest first. -/
def pump (s : State) : State :=
  if s.pair.hand ≠ 0 || !s.pair.drv then s else forL s.vault.ready (fun j t => if !t.grantRoom j then t else match t.pickRing j with
    | none => t
    | some (r, loc) =>
      let rel := j.why == .stripe && t.relocUnit j.area j.unit.tag.stripe
      let t1 := (t.postDesc r (t.progDesc r loc j)).tick.mdVault (fun v => { v with
        ready := v.ready.erase j, relUsed := if rel then v.relUsed + 65536 else v.relUsed })
      if j.area = 4 then t1 else
        let t2 := t1.mdDev (r / 8) (fun d => { d with cells := md d.cells (r % 8) (fun l => l ++ [(loc, none)]) })
        t2.setCursor r j.area (t2.locAfter r j.area loc)) s

/-- Put units in the queue of units waiting for a ring. -/
def queueUnit (j : UnitJob) (s : State) : State := s.mdVault (fun v => { v with ready := v.ready ++ [j] })

/-! ### Stripes (R176, R177) -/

/-- Take the next sequence number of an area: LSEQ for the log, SEQ otherwise (R150, R229). -/
def takeSeq (area : Nat) (s : State) : Nat × State :=
  if area = 1 then (s.stage.nextLseq, { s with stage := { s.stage with nextLseq := (s.stage.nextLseq + 1) % 2 ^ 31 } })
  else (s.vault.nextSeq, s.mdVault (fun v => { v with nextSeq := v.nextSeq + 1 }))

/-- Change the stripe `num` of an area. -/
def mdStripe (area num : Nat) (f : Stripe → Stripe) (s : State) : State :=
  s.mdVault (fun v => { v with stripes := v.stripes.map (fun t => if t.area == area && t.num == num then f t else t) })

/-- A unit of a stripe is made: it gets its sequence number and waits for a ring of its position's sled. A sled lost in the running
save gets none (R137). -/
def placeUnit (area num g pos : Nat) (cls : Nat) (t0 : UTag) (b : UBody) (s : State) : State :=
  let (q, s1) := s.takeSeq area
  let x := (geomSleds g).getD pos 0
  let t : UTag := { t0 with seq := q, stripe := num, pos, geom := g, cls }
  let s2 := s1.mdStripe area num (fun z => { z with tags := z.tags ++ [(pos, t)] })
  if s2.sledUsable x || (s2.top.state == .save && !(s2.sled x).lostAt && (s2.sled x).cls == 6) then
    (s2.mdStripe area num (fun z => { z with left := z.left + 1 })).queueUnit
      { sled := x, area, opc := 1, cls, unit := { tag := t, body := b }, why := .stripe }
  else s2

/-- The serial the units of an area carry: SAVE_SERIAL, or 0 in the log (Table 05-3). -/
def areaSerial (s : State) (area : Nat) : Nat := if area = 0 then s.save.serial else 0

/-- Every readable unit on the member sleds: ring, LOC, unit. -/
def allUnits (s : State) : List (Nat × Nat × FUnit) :=
  (List.range 32).flatMap (fun r =>
    if (s.sled (r / 8)).cls = 6 then (s.cells r).filterMap (fun c => c.2.map (fun u => (r, c.1, u))) else [])

/-- The open stripe of an area, opening one with the geometry in force where there is none. -/
def openStripe (area : Nat) (reloc : Bool) (s : State) : Stripe × State :=
  match s.vault.stripes.find? (fun t => t.area == area && !t.closed && t.reloc == reloc) with
  | some t => (t, s)
  | none =>
    let num := if area = 0 then (if reloc then (s.allUnits.map (fun e => e.2.2.tag.stripe)).foldl max s.vault.nextStripe + 1 else s.vault.nextStripe)
      else s.vault.nextLogStripe
    let g := if area = 0 && s.top.state == .save then s.save.geom else s.vault.geom
    let t : Stripe := { area, num, geom := g, data := [], opened := s.clk.turn, reloc }
    (t, s.mdVault (fun v => { v with
      stripes := v.stripes ++ [t], nextStripe := if area = 0 then num + 1 else v.nextStripe,
      nextLogStripe := if area = 1 then num + 1 else v.nextLogStripe }))

/-- Add a data unit to the open stripe of an area; with its last data unit the stripe gets its parity unit or second copy and
closes. -/
def addUnit (area cls : Nat) (reloc : Bool) (tag : UTag) (b : NBody) (s : State) : State :=
  let (t, s1) := s.openStripe area reloc
  let g := t.geom
  let serial := if reloc then tag.serial else s1.areaSerial area
  let tag1 : UTag := { tag with serial, seq := (s1.takeSeq area).1 }
  let s2 := s1.placeUnit area t.num g (dataPos g t.num t.data.length) cls tag1 (.one b)
  let data := t.data ++ [(tag1, b)]
  let s3 := s2.mdStripe area t.num (fun z => { z with data, closed := decide (geomData g ≤ data.length) })
  if data.length < geomData g then s3
  else match geomMode g with
  | 0 => s3.placeUnit area t.num g (t.num % geomUnits g) cls { serial, kind := 2 } (.parity data)
  | 1 => s3.placeUnit area t.num g 1 cls tag1 (.one b)
  | _ => s3

/-- Complete the open stripe of an area with filler units (R177). -/
def fillStripe (area cls : Nat) (reloc : Bool) (s : State) : State :=
  match s.vault.stripes.find? (fun t => t.area == area && !t.closed && t.reloc == reloc) with
  | none => s
  | some t => iter (geomData t.geom - t.data.length) (fun u =>
      u.addUnit area cls reloc { kind := 5, serial := ((t.data.head?).map (·.1.serial)).getD 0 } .filler) s

/-- The index entry of a unit by its tag, at no location (R192). -/
def entOf (t : UTag) : IdxEnt :=
  let par := t.kind != 1
  { par, port := if par then 0 else t.port, gen := if par then 0 else t.gen, sq := match t.kind with | 1 => t.sq | 2 => 0 | 5 => 0xFFFE | _ => 0xFFFF }

/-- The index entries of a stripe in position order (R192). -/
def stripeEnts (t : Stripe) : List IdxEnt :=
  (List.range (geomUnits t.geom)).map (fun pos =>
    let e := entOf (((t.tags.find? (fun l => l.1 == pos)).map (·.2)).getD {})
    match t.locs.find? (fun l => l.1 == pos) with
    | some l => { e with loc := l.2.2, ring := l.2.1 }
    | none => e)

/-- A stripe unit ended: programmed at a LOC, or given up with its sled. -/
def stripeUnit (area num pos : Nat) (at_ : Option (Nat × Nat)) (s : State) : State :=
  s.mdStripe area num (fun t => { t with
    left := t.left - 1, locs := match at_ with | some l => t.locs ++ [(pos, l.1, l.2)] | none => t.locs })

/-! ### Catalog units (R197) -/

/-- The catalog sleds. -/
def catSleds (s : State) : List Nat :=
  if s.top.state = .save then (geomSleds s.save.geom).filter (fun x => !(s.sled x).lostAt && (s.sled x).cls == 6)
  else idxs 4 s.sledUsable

/-- The tag of a catalog unit. -/
def catTag (k : CatKind) (b : NBody) : UTag :=
  match b with
  | .manifest m => { kind := 0x11, port := m.port, serial := m.serial, gen := 0 }
  | .saveMan m => { kind := 0x13, serial := m.serial }
  | .mark r => { kind := (match k with | .saveSeal => 0x14 | .retire _ _ => 0x15 | _ => 0x12), port := r.port, serial := r.serial }
  | _ => {}

/-- Post a catalog unit, one copy per catalog sled; `body x` is the copy of sled x. -/
def postCat (k : CatKind) (body : Nat → NBody) (s : State) : State :=
  let xs := s.catSleds
  let id := s.vault.nextCat
  let s1 := s.mdVault (fun v => { v with nextCat := id + 1, cats := v.cats ++ [{ id, kind := k, left := xs.length, ok := [], body := body (xs.headD 0) }] })
  (forL xs (fun x t =>
    let (q, t1) := t.takeSeq 2
    t1.queueUnit { sled := x, area := 2, opc := 2, cls := 0, unit := { tag := { catTag k (body x) with seq := q }, body := .one (body x) }, why := .cat id }) s1).pump

/-- A copy of a catalog unit ended. -/
def catUnit (id : Nat) (at_ : Option (Nat × Nat × Nat)) (s : State) : State :=
  s.mdVault (fun v => { v with cats := v.cats.map (fun c => if c.id == id then
    { c with left := c.left - 1, ok := match at_ with | some l => c.ok ++ [l] | none => c.ok } else c) })

/-! ### Images on flash (R199, R200) -/

/-- The unit at a location. -/
def unitAt (s : State) (r loc : Nat) : Option FUnit :=
  if (s.sled (r / 8)).cls = 6 then ((s.cells r).find? (fun c => c.1 == loc)).bind (·.2) else none

/-- The manifest a port seal names, where its MCRC matches. -/
def sealManifest (s : State) (r : SealRec) : Option Manifest :=
  match s.unitAt r.mring r.mloc with
  | some u => match u.body with
    | .one (.manifest m) => if crc32c m.bytes = r.mcrc then some m else none
    | _ => none
  | none => none

/-- Seals and marks on the member sleds. -/
def marks (s : State) (what : Nat) : List SealRec :=
  s.allUnits.filterMap (fun e => match e.2.2.body with | .one (.mark r) => if r.what = what then some r else none | _ => none)

/-- The existing images: for each port, serial and generation the seal with the highest RELOC whose manifest matches (R199). -/
def images (s : State) : List Manifest :=
  let ms := (s.marks 0).filterMap s.sealManifest
  ms.foldl (fun l m =>
    match l.find? (fun k => k.port == m.port && k.serial == m.serial && k.imgGen == m.imgGen) with
    | some k => if k.reloc < m.reloc then l.map (fun z => if z == k then m else z) else l
    | none => l ++ [m]) []

/-- A retire mark names the image. -/
def retired (s : State) (m : Manifest) : Bool := (s.marks 2).any (fun r => r.port == m.port && r.serial == m.serial && r.imgGen == m.imgGen)

/-- The image of a list with the highest IMGGEN. -/
def newestImg (l : List Manifest) : Option Manifest :=
  l.foldl (fun b m => match b with | some k => if k.imgGen < m.imgGen then some m else b | none => some m) none

/-- The newest existing image of a port, and the newest unretired one. -/
def newestOf (s : State) (p : Nat) : Option Manifest := newestImg (s.images.filter (fun m => m.port == p))
def newestLive (s : State) (p : Nat) : Option Manifest := newestImg (s.images.filter (fun m => m.port == p && !s.retired m))

/-- Some sealed image is not retired (Table 01-5). -/
def anyLive (s : State) : Bool := s.images.any (fun m => !s.retired m)

/-! ### Reading and rebuilding (R174, R178) -/

/-- The other units of a unit's stripe that can be read, whether or not their own reads come out (a free value, log entry 165). -/
def stripeMates (s : State) (t : UTag) : List (UTag × UBody) :=
  (s.allUnits.filter (fun e => let g := e.2.2.tag
    g.stripe == t.stripe && g.geom == t.geom && g.serial == t.serial && g.pos != t.pos && (g.kind < 0x11)
      && !Config.mateUnreadable e.1 e.2.1 s.clk.free)).map (fun e => (e.2.2.tag, e.2.2.body))

/-- The units a stripe needs beside an unreadable one are there: all others in parity mode, one in mirror mode (R178). -/
def canRebuild (s : State) (t : UTag) : Bool :=
  let n := (s.stripeMates t).length
  if t.kind ≥ 0x11 then false else if geomMode t.geom = 0 then decide (geomUnits t.geom ≤ n + 1) else decide (1 ≤ n)

/-- The unit rebuilt from the rest of its stripe (R178); a parity unit's own content is the list of the others and is not given here. -/
def rebuild (s : State) (t : UTag) : Option NBody :=
  if !s.canRebuild t then none
  else if geomMode t.geom = 0 then
    (s.stripeMates t).findSome? (fun m => match m.2 with
      | .parity xs => (xs.find? (fun x => x.1.kind == t.kind && x.1.port == t.port && x.1.sq == t.sq && x.1.gen == t.gen)).map (·.2)
      | _ => none)
  else (s.stripeMates t).findSome? (fun m => match m.2 with | .one b => if m.1.port = t.port && m.1.sq = t.sq then some b else none | _ => none)

/-- The units that the readable parity units stand for, and the second copies of mirrored ones: tag, with the stripe it is to be rebuilt
from, and content. -/
def parityUnits (s : State) : List (UTag × NBody) :=
  s.allUnits.flatMap (fun e => match e.2.2.body with
    | .parity xs => xs.map (fun x => ({ x.1 with stripe := e.2.2.tag.stripe, geom := e.2.2.tag.geom, pos := 4 }, x.2))
    | .one b => if geomMode e.2.2.tag.geom = 1 && e.2.2.tag.kind < 0x11 then [(e.2.2.tag.twin, b)] else [])

/-- The index unit at a location, or the one that R178 gives in its place: of the save `se`, its entries ending at ordinal `nf` where the
unit after it is known. -/
def indexAt (s : State) (se : Nat) (nf : Option Nat) (r loc : Nat) : Option IdxUnit :=
  match s.unitAt r loc with
  | some u => match u.body with | .one (.index e) => some e | _ => none
  | none =>
    let c := s.parityUnits.filterMap (fun x => match x.2 with
      | .index e => if e.serial = se && (nf == none || nf == some (e.first + e.ents.length)) && s.canRebuild x.1 then some (x.1.seq, e) else none
      | _ => none)
    (c.foldl (fun (b : Option (Nat × IdxUnit)) e => match b with
      | some y => if y.2.first < e.2.first || (y.2.first = e.2.first && y.1 < e.1) then some e else b
      | none => some e) none).map (·.2)

/-- The index units of an image: its chain from the newest back (R193), each with its ring and LOC. -/
def chain (s : State) (se : Nat) : Nat → Option Nat → Nat → Nat → List (Nat × Nat × IdxUnit)
  | 0, _, _, _ => []
  | n + 1, nf, r, loc =>
    if loc = noLoc then []
    else match s.indexAt se nf r loc with
      | some e => s.chain se n (some e.first) e.pring e.ploc ++ [(r, loc, e)]
      | none => []

def imageChain (s : State) (m : Manifest) : List (Nat × Nat × IdxUnit) := s.chain m.serial m.icount none m.iring m.iloc

/-- The index entries of an image: its chain's and its tail (R193, R194). -/
def imageEnts (s : State) (m : Manifest) : List IdxEnt := (s.imageChain m).flatMap (fun e => e.2.2.ents) ++ m.tail

/-- A unit's body, or its rebuilt body; the flag says it was rebuilt. -/
def readUnit (s : State) (r loc : Nat) (t : UTag) (bad : Bool) : Option (NBody × Bool) :=
  match (if bad then none else s.unitAt r loc) with
  | some u => match u.body with
    | .one b => some (b, false)
    | .parity _ => (s.rebuild t).map (fun b => (b, true))
  | none => (s.rebuild t).map (fun b => (b, true))

/-- The plaintext chunks of a unit, readable with the key material in force (R172, R174). -/
def plain (s : State) (b : NBody) : Option (List Chunk) :=
  match b with
  | .square cs mat => if mat = s.vault.mat && s.vault.keysOk then some cs else none
  | _ => none

/-! ### Log copies (R233) -/

/-- The confirm units of the log that can be read, directly or through their stripes (R212): ring, LOC, tag and content. -/
def confUnits (s : State) : List (Nat × Nat × UTag × ConfUnit) :=
  s.allUnits.filterMap (fun e => match e.2.2.body with | .one (.confirm c) => some (e.1, e.2.1, e.2.2.tag, c) | _ => none)
    ++ s.parityUnits.filterMap (fun x => match x.2 with
      | .confirm c => if s.canRebuild x.1 && !s.allUnits.any (fun e => match e.2.2.body with | .one (.confirm d) => d.lseq == c.lseq | _ => false) then
          some (0, noLoc, x.1, c) else none
      | _ => none)

/-- Their entries. -/
def confEnts (s : State) : List ConfEnt := s.confUnits.flatMap (·.2.2.2.ents)

/-- A log data unit by its LSEQ: ring, LOC and tag; one that cannot be read is found through its stripe where R178 rebuilds it. The second
copy of a mirrored unit has the LSEQ after the first's. -/
def logUnit (s : State) (lseq : Nat) : Option (Nat × Nat × UTag) :=
  match s.allUnits.filter (fun e => e.2.2.tag.kind == 3 && e.2.2.tag.copySeq == lseq) with
  | e :: es => let b := ((e :: es).find? (fun k => k.2.2.tag.seq == lseq)).getD e; some (b.1, b.2.1, b.2.2.tag)
  | [] => (s.parityUnits.find? (fun x => x.1.kind == 3 && x.1.copySeq == lseq && s.canRebuild x.1)).map (fun x => (0, noLoc, x.1))

/-- The log copy of a STAGED square of an image with LOG_HWM h (R233). -/
def logCopy (s : State) (p sq h : Nat) : Option (Nat × Nat × UTag) :=
  let cand := s.confEnts.filter (fun c => c.port == p && c.sq == sq && !seqBefore h c.oseq)
  match cand.find? (fun c => cand.all (fun d => !seqBefore c.oseq d.oseq)) with
  | none => none
  | some o =>
    let us := cand.filter (fun c => c.oseq == o.oseq && (s.logUnit c.lseq).isSome)
    (us.find? (fun c => us.all (fun d => !seqBefore c.lseq d.lseq))).bind (fun c => s.logUnit c.lseq)

/-- The copy of a square of an image: ring, LOC and tag (R194, R233). Of several units the one with the higher SEQ (R181), a lost one to be
rebuilt from its stripe counting like the others. -/
def squareCopy (s : State) (m : Manifest) (sq : Nat) : Option (Nat × Nat × UTag) :=
  if m.map.getD sq 0 = 2 then s.logCopy m.port sq m.logHwm
  else
    let es := (s.imageEnts m).filter (fun e => !e.par && e.port == m.port && e.sq == sq)
    let here := es.filterMap (fun e => (s.unitAt e.ring e.loc).map (fun u => (e.ring, e.loc, u.tag)))
    let gone := if here.length < es.length then
        (s.parityUnits.filter (fun x => x.1.kind == 1 && x.1.serial == m.serial && x.1.port == m.port && x.1.sq == sq)).map (fun x => (0, noLoc, x.1))
      else []
    (here ++ gone).foldl (fun (b : Option (Nat × Nat × UTag)) e => match b with
      | some y => if y.2.2.seq < e.2.2.seq then some e else b
      | none => some e) none

/-- An image needs a data unit of its port that is not released, and an index unit of its chain, in either copy of a mirrored one (R188, R209). -/
def imageHas (s : State) (m : Manifest) (t : UTag) (b : NBody) : Bool :=
  match b with
  | .index e => m.serial == t.serial && (s.imageChain m).any (fun k => k.2.2 == e)
  | _ => t.kind == 1 && m.serial == t.serial && m.port == t.port && !s.vault.dead.contains (t.serial, t.seq)

/-- The images a unit of the save area belongs to: a data or index unit to those that need it, a parity unit to those that need a unit of its
stripe, a filler to those of the save (R188). -/
def unitImages (s : State) (u : FUnit) : List Manifest :=
  s.images.filter (fun m => match u.body with
    | .parity xs => xs.any (fun x => s.imageHas m x.1 x.2)
    | .one b => if u.tag.kind = 5 then m.serial == u.tag.serial else s.imageHas m u.tag b)

/-! ### Erase-ahead (R188, R190) -/

/-- The rank at which a save-area block may be erased (R188): 1 no unit of any image, 2 only retired images other than a port's newest
retired, 3 a newest retired image; none while a unit of an unretired image, or of the running save, lies in it, a program of it is queued, or an index
unit of the chain that a relocation is writing lies in it. -/
def eraseRank (s : State) (r die blk : Nat) : Option Nat :=
  let us := (s.cells r).filterMap (fun c => if locDie c.1 = die && locBlk c.1 = blk then c.2 else none)
  let im := us.flatMap s.unitImages
  let inSave := s.top.state == .save && us.any (fun u => u.tag.serial == s.save.serial)
  let coming := (s.pendingDescs r).any (fun e => (e.2.opc == 1 || e.2.opc == 2) && locDie e.2.loc == die && locBlk e.2.loc == blk)
  let chain := match s.vault.reloc.image with | some m => us.any (fun u => u.tag.kind == 0x10 && u.tag.serial == m.serial) | none => false
  if inSave || coming || chain || im.any (fun m => !s.retired m) then none
  else if im.isEmpty then some 1
  else
    let newestRet := im.any (fun m => s.images.all (fun k => !(k.port == m.port && s.retired k && m.imgGen < k.imgGen)))
    some (if newestRet then 3 else 2)

/-- The block a die erases next: by rank, oldest SERIAL first. -/
def eraseNext (s : State) (r die : Nat) : Option Nat :=
  let (b0, b1) := (s.sledAreas (r / 8)).range 0
  let used := ((s.cells r).filter (fun c => locDie c.1 == die && b0 ≤ locBlk c.1 && locBlk c.1 < b1)).map (fun c => locBlk c.1)
  let cand := used.eraseDups.filter (fun b => !s.badBlk r die b)
  let key := fun b => (s.eraseRank r die b).map (fun k =>
    k * 2 ^ 33 + ((s.cells r).filterMap (fun c => if locDie c.1 == die && locBlk c.1 == b then c.2.map (fun u => u.tag.serial) else none)).foldl max 0)
  (cand.foldl (fun (best : Option (Nat × Nat)) b => match key b with
    | none => best
    | some k => match best with | some y => if k < y.2 then some (b, k) else best | none => some (b, k)) none).map (·.1)

/-- The descriptor that erases a block. -/
def eraseDesc (s : State) (r die blk : Nat) (why : Why) : Desc :=
  let rc := s.dieRecipe r die
  { opc := 0x20, tgt := die, planes := 2 ^ rc.planes - 1, cw := 1,
    row := (Config.rowAddr (die / 8) (blk + rc.blkFirst) 0).toNat, stamp := s.stamp, loc := die + blk * 8192, why }

/-- Keep one ERASE outstanding on every die of every healthy channel of a short sled (R190); only the token holder drives the channels
(R164). -/
def eraseAhead (x : Nat) (s : State) : State :=
  if s.top.state = .save || !s.pair.drv || s.pair.hand ≠ 0 || (s.sled x).cls ≠ 6 || !(s.sled x).mapDone then s
  else if (s.sled x).need ≤ (s.sled x).resv then s
  else forN 8 (fun c t =>
    let r := 8 * x + c
    if !bitOf (t.sled x).chOk c || (t.ring r).failed then t
    else forN 32 (fun die u =>
      if u.targets r ≤ die % 8 || (u.dieRecipe r die).lunCount ≤ die / 8 || !u.room r then u
      else if (u.pendingDescs r).any (fun e => e.2.opc == 0x20 && e.2.tgt == die) then u
      else match u.eraseNext r die with
        | some b => u.postDesc r (u.eraseDesc r die b .erase)
        | none => u) t) s

def eraseAheadAll (s : State) : State := forN 4 eraseAhead s

/-! ### Keys (R201 to R203) -/

/-- This controller's wrap set for a key block's identity, epoch, nonce and material. -/
def ownSet (k : KeyBlock) : WrapSet :=
  { id := Config.identity, keys := wrapKeys (Config.deviceKey k.vaultId k.keyEpoch k.nonce) (portKeys k.mat) }

/-- The wrap sets of a new key block: this controller's where it was, and the other's (R203, R349 step 5). -/
def bothSets (old : Option KeyBlock) (own other : WrapSet) : List WrapSet :=
  match old with
  | some k => if (k.sets.getD 1 {}).id = own.id && (k.sets.getD 0 {}).id ≠ own.id then [other, own] else [own, other]
  | none => [own, other]

/-! ### Membership (R184 to R187) -/

/-- The member hash of a sled (Table 05-6). -/
def memberHash (s : State) (x : Nat) : Word :=
  if (s.sled x).cls = 6 && !(s.sled x).switched && rd s.pins.sledPrs x then
    (match (s.sled x).dev.desc with | some d => crc32c (leBytes 8 d.serial.toNat) | none => 0) else 0

/-- System-area writes of a sled on its working channels 0 and 4 (Table 05-5): the descriptor in the copy not written last (R184), but in both at
its first write; a key block and the block table in both copies (R203); `what` as in Why.sys. Each is one write of the running group, each unit
with a vault sequence number of its own (Table 05-3). -/
def sysWrite (x what : Nat) (b : NBody) (s : State) : State :=
  let n := if what = 0 then (match b with | .sledDesc d => d.writeSeq | _ => 0) else s.vault.sysGen
  let chs := [0, 4].filter (fun c => bitOf (s.sled x).chOk c && !(s.ring (8 * x + c)).failed)
  let jobs := chs.flatMap (fun c => (List.range (if what = 0 && n ≠ 1 then 1 else 2)).map (fun k =>
    ({ sled := x, area := 4, opc := if what = 3 then 0x20 else 2, cls := 0, unit := { tag := { kind := 0x20 + what }, body := .one b },
       why := .sys what n s.vault.sysGen k (some c) } : UnitJob)))
  forL jobs (fun j t =>
    if what = 3 then t.queueUnit j
    else let (q, u) := t.takeSeq 2; u.queueUnit { j with unit := { j.unit with tag := { j.unit.tag with seq := q } } })
    (s.mdVault (fun v => { v with sysLeft := v.sysLeft + jobs.length }))

/-- A new group of system-area writes starts: what is still under way of earlier ones no longer counts. -/
def sysGroup (s : State) : State := s.mdVault (fun v => { v with sysGen := v.sysGen + 1, sysLeft := 0 })

/-- A system-area write of a group ended. -/
def sysEnded (group : Nat) (s : State) : State :=
  if group = s.vault.sysGen then s.mdVault (fun v => { v with sysLeft := v.sysLeft - 1 }) else s

/-- Write a key block on every member sled, as a new group of system-area writes (R203). -/
def keysOut (k : KeyBlock) (s : State) : State :=
  let s1 := s.sysGroup
  (forL s1.members (fun x t => t.sysWrite x 1 (.keyBlock k)) s1).pump

/-- Rewrite a member's descriptor in the copy not written last (R184); what it holds counts as written from here (DEDUCED, log entry 162). -/
def rewriteDesc (x : Nat) (s : State) : State :=
  let hs := (List.range 4).map s.memberHash
  match (s.sled x).dev.desc with
  | none => s
  | some e =>
    let d : SledDesc := { e with epoch := s.vault.epoch, vaultId := s.vault.id, writeSeq := e.writeSeq + 1, members := hs, stamp := s.stamp }
    (s.mdDev x (fun y => { y with desc := some d, descOld := y.desc })).sysWrite x 0 (.sledDesc d)

/-- MEMBER_EPOCH advances and every remaining member's descriptor is rewritten (R186). -/
def advanceEpoch (s : State) : State :=
  let s1 := s.mdVault (fun v => { v with epoch := v.epoch + 1 })
  (forL s1.members (fun x t => t.rewriteDesc x) s1).pump

/-- DEGRADED and REBUILD_ADV (R137, R212, R217). -/
def degrade (s : State) : State := (s.mdVault (fun v => { v with degraded := true, rebuildAdv := true })).setEvt 12 2

/-- A long command ends with a STATE of TOP.CMD_STAT (R459); an abort that had not acted has lost (R462). -/
def cmdEnd (st : Nat) (s : State) : State :=
  if s.cmd.state = 1 then ({ s with cmd := { s.cmd with state := st, abortLate := s.cmd.abortPend && (st == 2 || st == 3), abortPend := false } }).setEvt 0 0 else s

/-- A verify, export, key erase or format ends with a STATE and RESULT of JOB_STAT. -/
def jobEnd (st res : Nat) (s : State) : State :=
  ((s.mdVault (fun v => { v with jobState := st, jobResult := res, job := v.run, run := 0, work := [], reading := none, fmt := [], fmtEnd := false, keyStep := if v.keyStep = 4 then 4 else 0, keyNew := none })).setEvt 12 1).cmdEnd (st - 1)

/-- A drain or rebuild ends, in the background or not. -/
def rjobEnd (st res : Nat) (s : State) : State :=
  let bg := s.vault.bg
  let s1 := (s.mdVault (fun v => { v with job := v.rjob, jobState := st, jobResult := res, rjob := 0, bg := false, rsusp := false, rpull := false, reloc := {} })).setEvt 12 1
  if bg then s1 else s1.cmdEnd (st - 1)

/-- Open the rings of a sled's healthy channels, where mover and flash island run. -/
def openRings (x : Nat) (s : State) : State :=
  forN 8 (fun c t => t.mdRing (8 * x + c) (fun g => { g with isOpen := t.ringsRun x && (t.sled x).up && bitOf (t.sled x).chOk c && !g.failed })) s

/-- Geometry of new stripes (R175, R177): the healthy or drain-pending member sleds. -/
def newGeom (s : State) : Nat :=
  let m := idxs 4 s.sledUsable
  let mask := m.foldl (fun a x => a + 2 ^ x) 0
  mask + (if 3 ≤ m.length then 0 else if m.length = 2 then 16 else 32)

end State
end Sys2Proof.Machine
end

