-- ==== Sys2Proof/Machine/Rings.lean ====
section
/-! DEFINITION. What happens on the rings (04, 05): descriptor completion and its results, reposts and channel failure (R136,
R205), the loss of a sled (R137, R212), the governor's charge for programmed units (R238, R241). -/

namespace Sys2Proof.Machine
namespace State

/-! ### Units that are given up -/

/-- A unit will not be programmed: its sled is lost. An old key block that is not erased is reported (R216). -/
def unitLost (u : Option FUnit) (w : Why) (s : State) : State :=
  match w with
  | .stripe => match u with
    | some f => s.stripeUnit (if f.tag.serial = 0 then 1 else 0) f.tag.stripe f.tag.pos none
    | none => s
  | .cat id => s.catUnit id none
  | .sys w _ g _ _ => (s.mdVault (fun v => { v with jobResult := if w = 3 && v.run = 5 then 1 else v.jobResult })).sysEnded g
  | _ => s

/-- Complete every queued descriptor of a ring with a result (0x06 or 0x07) and give the programs among them. -/
def endRing (r res : Nat) (s : State) : List Desc × State :=
  let ds := (s.pendingDescs r).map (·.2)
  (ds, s.mdRing r (fun g => { g with
    slots := g.slots.map (fun e => if e.2.status % 256 = 0 then (e.1, { e.2 with status := res }) else e),
    err := wr g.err res (satAdd 0xFFFF (rd g.err res) ds.length) }))

/-- A read that cannot be made any more completes without data; the job that waits finds it unreadable. -/
def readsOf (ds : List Desc) : List Desc := ds.filter (fun d => d.opc == 0x10)

/-- A unit of the system area, or a block's erase there. -/
def isSys : Why → Bool
  | .sys _ _ _ _ _ => true
  | _ => false

/-- The unit of a descriptor that did not program it, to be posted again. -/
def jobOf (x : Nat) (d : Desc) (u : FUnit) : UnitJob :=
  { sled := x, area := d.area, opc := d.opc, cls := d.pos / 4, unit := u, why := d.why, tries := d.tries }

/-- The erase of a format on a ring did not run: it is the next again. -/
def fmtAgain (r : Nat) (d : Desc) (s : State) : State :=
  if d.why == .format then s.mdVault (fun v => { v with fmt := v.fmt.map (fun e => if e.1 == r then (r, e.2 - 1) else e) }) else s

/-- A descriptor that completed with 0x06 without running, of a sled that stays: what the controller writes of its own knowledge, the system area's
units and with `cats` the catalog's, is posted again once the rings run; the rest is given up, its data with the tray or left to the stripe's parity
(DESIGN CHOICE, log entry 210). -/
def descAgain (cats : Bool) (r : Nat) (d : Desc) (s : State) : State :=
  let own := isSys d.why || (cats && (match d.why with | .cat _ => true | _ => false))
  match d.unit with
  | some u => if own then s.mdVault (fun v => { v with ready := v.ready ++ [jobOf (r / 8) d u] }) else s.unitLost d.unit d.why
  | none => s.fmtAgain r d

/-- Every descriptor of a sled completes with 0x06 and its waiting units are given up (R212). A sled that `stays`, its island alone having
stopped, keeps the writes of its system area. -/
def sledQuiet (x : Nat) (stays : Bool) (s : State) : State :=
  let s1 := forN 8 (fun c t =>
    let (ds, t1) := t.endRing (8 * x + c) 6
    forL ds (fun d u => if stays then u.descAgain false (8 * x + c) d else u.unitLost d.unit d.why) (t1.mdRing (8 * x + c) (fun g => { g with isOpen := false }))) s
  let out := fun (j : UnitJob) => j.sled == x && !(stays && isSys j.why)
  forL (s1.vault.ready.filter out) (fun j t => t.unitLost (some j.unit) j.why) (s1.mdVault (fun v => { v with ready := v.ready.filter (fun j => !out j) }))

/-- A running drain ends failed when its sled is lost before pull-ready (R211). -/
def drainLost (x : Nat) (s : State) : State :=
  if s.vault.rjob = 2 && s.vault.jobSled = x && !(s.sled x).pull then s.rjobEnd 4 0 else s

/-- The log scan is over once no present member with a block map is still to be scanned; it is done, as SCAN_DONE says, when every healthy sled has
been (R218, R234). -/
def scanEnd (s : State) : State :=
  if s.stage.scan && (idxs 4 (fun x => (s.sled x).cls == 6 && (s.sled x).mapDone && !(s.sled x).scanDone)).isEmpty then
    let s1 := { s with stage := { s.stage with scan := false } }
    if s.healthyCount = 0 then s1 else { s1 with stage := { s1.stage with scanned := true } }.setEvt 8 2
  else s

/-- A sled fails or loses presence; `cls` is its class then. A member's loss outside Save advances the epoch and degrades the
vault (R212); in Save the geometry stays and the epoch advances after the save-wide seal (R137). -/
def sledLoss (x cls : Nat) (s : State) : State :=
  let d := s.sled x
  let member := d.cls == 6 && !d.pull
  let s1 := ((s.sledQuiet x false).drainLost x).mdSled x (fun y => { y with
    cls, cand := false, up := false, mapDone := false, scanDone := false, short := false, chOk := 0, drainPend := false,
    switched := false, pull := false, lostAt := y.lostAt || (member && s.top.state == .save) })
  let s2 := (if s1.vault.drainAccepted = some x then s1.mdVault (fun v => { v with drainAccepted := none }) else s1).scanEnd
  let s3 := (s2.setEvt 12 0)
  if !member then s3
  else
    let s4 := (s3.raise (74 + x) 0xFFFF none).degrade
    if s4.top.state = .save then
      { s4 with save := { s4.save with sledLost := s4.save.sledLost || bitOf s4.save.geom x, lostSleds := s4.save.lostSleds + 1 }, vault := { s4.vault with epochPend := true } }
    else s4.advanceEpoch

/-- A unit is posted again on its sled, ahead of those that wait; a move's not after an emergency seal, which posts no further move descriptor (R142). -/
def postAgain (j : UnitJob) (s : State) : State :=
  if s.top.state = .save && s.save.emerg && j.why == .stripe && j.area == 0 then s.unitLost (some j.unit) j.why
  else s.mdVault (fun v => { v with ready := j :: v.ready })

/-- A channel is marked failed: its descriptors complete with 0x07 and its programs go to the sled's other channels, but for the erase of an old key
block there, which fails (R216); a sled without channels 0 and 4, or with none, fails (R136, R205). -/
def channelFail (r : Nat) (s : State) : State :=
  let x := r / 8
  let (ds, s1) := s.endRing r 7
  let s2 := (s1.mdRing r (fun g => { g with failed := true, isOpen := false })).mdSled x (fun d => { d with chOk := if bitOf d.chOk (r % 8) then d.chOk - 2 ^ (r % 8) else d.chOk })
  let jobs := ds.filterMap (fun d => d.unit.map (fun u => ({ jobOf x d u with tries := 0 } : UnitJob)))
  let stuck := fun (j : UnitJob) => j.sled == x && j.opc == 0x20 && j.why.chan == some (r % 8)
  let s2b := s2.mdVault (fun v => { v with ready := v.ready.filter (fun j => !stuck j) })
  let s2c := forL (jobs.filter (fun j => !stuck j)).reverse postAgain (forL ((jobs ++ s2.vault.ready).filter stuck) (fun j t => t.unitLost (some j.unit) j.why) s2b)
  let s3 := ((s2c.mdVault (fun v => { v with ready := v.ready.map (fun j => if j.sled = x then { j with why := j.why.unbind (r % 8) } else j) })).raise (78 + x) (r % 8) none).setEvt 12 0
  if (s3.sled x).chOk = 0 || ((s3.ring (8 * x)).failed && (s3.ring (8 * x + 4)).failed) then s3.sledLoss x 7 else s3

/-! ### The governor's charge (R238, R241) -/

/-- One unit programmed outside Save. A relocation's and the catalog's count in what the turn has used too, so that they leave the grant less room
(DESIGN CHOICE, log entry 213). -/
def chargeUnit (s : State) : State :=
  if s.top.state = .save then s
  else
    let g := s.stage
    let used := g.used + 65536
    if g.g < g.grant && g.g < used then { s with stage := { g with used, emergB := g.emergB + 65536 } }
    else { s with stage := { g with used, progB := g.progB + 65536 }, aon := { s.aon with credit := s.aon.credit - 65536 } }

/-! ### Completion (Table 04-3, R136) -/

/-- Put a unit in its slot, or mark the slot programmed and unreadable. -/
def putCell (r loc : Nat) (u : Option FUnit) (s : State) : State :=
  s.mdDev (r / 8) (fun d => { d with cells := md d.cells (r % 8) (fun l => (l.filter (fun c => c.1 != loc)) ++ [(loc, u)]) })

/-- Erase a block of a die. -/
def eraseBlk (r die blk : Nat) (s : State) : State :=
  let b : BlkRef := ⟨r % 8, die, blk⟩
  let out := (s.cells r).filterMap (fun c => if locDie c.1 = die && locBlk c.1 = blk then c.2.map (fun u => (u.tag.serial, u.tag.seq)) else none)
  (((s.mdVault (fun v => { v with dead := v.dead.filter (fun e => !out.contains e) })).mdDev (r / 8) (fun d => { d with
    cells := md d.cells (r % 8) (fun l => l.filter (fun c => !(locDie c.1 == die && locBlk c.1 == blk))) }))).mdSled (r / 8) (fun d => { d with
    erases := if d.erases.any (fun e => e.1 == b) then d.erases.map (fun e => if e.1 == b then (b, satAdd 0xFFFFFF e.2 1) else e)
      else d.erases ++ [(b, 1)] })

/-- Add a block to the grown-bad list (R185), which is kept as if in the block table from here on (DESIGN CHOICE, log entry 202). -/
def growBad (r die blk : Nat) (s : State) : State :=
  let b : BlkRef := ⟨r % 8, die, blk⟩
  s.mdDev (r / 8) (fun d => { d with grown := if d.grown.contains b then d.grown else d.grown ++ [b] })

/-- A program failed (R136): the unit is posted again at most twice; the third failure of a unit, or the eighth on the ring in one
save, fails the channel. -/
def progFail (r : Nat) (d : Desc) (s : State) : State :=
  let x := r / 8
  let s1 := s.growBad r (locDie d.loc) (locBlk d.loc)
  let s2 := (s1.mdRing r (fun g => { g with fails := g.fails + 1 }))
  let s3 := if s2.top.state = .save then { s2 with save := { s2.save with progFail := satAdd 0xFFFF s2.save.progFail 1 } } else s2
  let third := decide (2 ≤ d.tries)
  match d.unit with
  | none => s3
  | some u =>
    let j : UnitJob := { jobOf x d u with tries := if third then 0 else d.tries + 1 }
    let s4 := s3.postAgain j
    if third || (s4.top.state == .save && decide (8 ≤ (s4.ring r).fails)) then s4.channelFail r else s4

/-- The flash island rejected a program's descriptor (0x05): nothing was performed, so the slot is still erased; the unit is posted again
and no failure is counted (R143, log entry 156). -/
def progRefused (r : Nat) (d : Desc) (s : State) : State :=
  match d.unit with
  | none => s
  | some u =>
    let s1 := s.mdDev (r / 8) (fun y => { y with cells := md y.cells (r % 8) (fun l => l.filter (fun c => !(c.1 == d.loc && c.2.isNone))) })
    s1.postAgain (jobOf (r / 8) d u)

/-- A unit is programmed: its slot holds it and what it belongs to is told. -/
def progDone (r : Nat) (d : Desc) (s : State) : State :=
  match d.unit with
  | none => s
  | some u =>
    match d.why with
    | .sys _ _ g _ _ => s.sysEnded g
    | .catCopy => (s.putCell r d.loc (some u)).chargeUnit
    | .stripe =>
      let s1 := (s.putCell r d.loc (some u)).chargeUnit
      s1.stripeUnit (if u.tag.serial = 0 then 1 else 0) u.tag.stripe u.tag.pos (some (r, d.loc))
    | .cat id => ((s.putCell r d.loc (some u)).chargeUnit).catUnit id (some (r / 8, r, d.loc))
    | _ => s.putCell r d.loc (some u)

/-- The read-retry steps of a die's recipe: address 0 ends the list (Table 05-2). -/
def retrySteps (s : State) (r die : Nat) : Nat := ((s.dieRecipe r die).rr.takeWhile (fun x => x % 256 != 0)).length

/-- A descriptor in slot i of a ring completes: the result of Table 04-3, the largest bit count corrected, the read-retry steps
taken and the time. A read ends uncorrectable only when every step of the recipe has failed (R170). Without the token the channels lead to no
sled of this controller, and nothing completes (R333); nor does it while mover or flash island stands still (R396, R496, R499). Answers the descriptor where one was pending. -/
def ringComplete (r i res corr retries us : Nat) (s : State) : Option Desc × State :=
  match (s.pendingDescs r).find? (fun e => e.1 == i) with
  | none => (none, s)
  | some e =>
    if res = 0 || 7 < res || !s.started r i || !s.pair.drv || !s.ringsRun (r / 8) then (none, s)
    else
      let d := e.2
      let s1 := s.mdRing r (fun g => { g with
        slots := g.slots.map (fun f => if f.1 == i then (f.1, { f.2 with status := res + min 255 corr * 256 + min 0xFFFF us * 65536 }) else f),
        err := if res = 1 then g.err else wr g.err res (satAdd 0xFFFF (rd g.err res) 1),
        maxCorr := if d.opc = 0x10 then max g.maxCorr (min 255 corr) else g.maxCorr,
        retries := if d.opc = 0x10 then satAdd 0xFFFFFF g.retries (if res = 4 then max retries (s.retrySteps r d.tgt) else retries) else g.retries })
      let s2 :=
        if d.opc = 1 || d.opc = 2 then
          if res = 1 then s1.progDone r d
          else if res = 2 || res = 3 then s1.progFail r d
          else if res = 5 then s1.progRefused r d
          else s1.unitLost d.unit d.why
        else if d.opc = 0x20 then
          let s1e := if res = 1 || res = 5 then s1 else s1.growBad r (locDie d.loc) (locBlk d.loc)
          let s1f := if res = 1 then s1e.eraseBlk r (locDie d.loc) (locBlk d.loc) else s1e
          match d.why with
          | .sys _ _ g _ _ => (s1f.sysEnded g).mdVault (fun v => { v with jobResult := if res = 1 then v.jobResult else 1 })
          | _ => s1f
        else s1
      (some { d with status := res }, s2)

/-! ### Sleds coming and going -/

/-- SLED_PRESENT: SLED_PRS_N[x] is asserted by a sled; its rise starts in Ready, Ride, Service or Return (Table 09-3). -/
def sledPresent (x : Nat) (dev : SledDev) (s : State) : State :=
  if rd s.pins.sledPrs x then s
  else
    let s1 := { s with pins := { s.pins with sledPrs := wr s.pins.sledPrs x true } }
    let s2 := s1.mdSled x (fun d => { d with dev, cls := if s.ctlOn then 1 else 0, up := false, mapDone := false, scanDone := false, drainPend := false, switched := false, pull := false, cand := false })
    let s3 := { s2 with seq := { s2.seq with sledDead := wr s2.seq.sledDead x false, sledTries := wr s2.seq.sledTries x 0 } }
    let s4 := forN 8 (fun c t => (t.mdRing (8 * x + c) (fun _ => {})).unraise (78 + x) c) s3
    let s5 := if s.ctlOn then s4.setEvt 12 0 else s4
    if s5.inState [.ready, .ride, .service, .ret] then s5.startSled x else s5

/-- SLED_REMOVED: presence is lost, or a present member sled fails (R137, R210 to R212). Its slots go down. -/
def sledRemoved (x : Nat) (gone : Bool) (s : State) : State :=
  if !(rd s.pins.sledPrs x) then s
  else
    let s1 := s.sledLoss x (if gone then 0 else 7)
    if gone then
      let s2 := { s1 with pins := { s1.pins with sledPrs := wr s1.pins.sledPrs x false } }
      let s3 := s2.mdSled x (fun d => { d with dev := {} })
      if s3.ctlOn then s3.beginDown (.sled x) (s3.sledSlots x) else s3
    else s1

/-! ### Bring-up (R167, R187, R217) -/

/-- Dies of a channel that match no recipe. -/
def chMatched (s : State) (x c : Nat) : Bool :=
  let ids := (s.sled x).dev.dies.getD c []
  !ids.isEmpty && ids.all (fun i => (s.matchRecipe i).isSome)

/-- The class of a sled that has been read, Table 05-7. -/
def classify (s : State) (x : Nat) : Nat × Bool :=
  match (s.sled x).dev.desc with
  | none => (3, false)
  | some d =>
    let mine := match (s.sled x).dev.keys with | some k => k.wraps.contains Config.identity | none => false
    if !mine then (4, false)
    else if !s.vault.founded then (2, true)
    else if d.vaultId ≠ s.vault.id then (4, false)
    else if d.epoch ≠ s.vault.epoch then (5, false)
    else (6, false)

/-- The dies of a sled after RESET, the feature writes of their recipes in order (address 0 ends the list) and the NV-DDR3 switch; a die that
matches no recipe is not used (R167). -/
def dieInit (x : Nat) (s : State) : State :=
  let die := fun (id : Nat) => match s.matchRecipe id with
    | some i => ({ recipe := some i, feats := ((s.im.recipes.getD i default).feat).takeWhile (fun f => f % 256 != 0), ddr3 := true } : DieSt)
    | none => {}
  let ok := (List.range 8).foldl (fun a c => a + if s.chMatched x c && !(s.ring (8 * x + c)).failed then 2 ^ c else 0) 0
  let rec0 := (s.matchRecipe (((s.sled x).dev.dies.getD 0 []).headD 0)).getD 0
  s.mdSled x (fun d => { d with up := true, phy := d.dev.dies.map (fun l => l.map die), trained := true, chOk := ok, recipe := rec0 })

/-- The system area of a sled is read and the sled classified (R187, R217); its block map is rebuilt next. -/
def sysRead (x : Nat) (s : State) : State :=
  let s1 := s.mdSled x (fun d => { d with mapDone := false, scanDone := false, reread := false, erases := d.dev.erases })
  if !(s.chMatched x 0 && s.chMatched x 4) then (s1.mdSled x (fun d => { d with cls := 7 })).setEvt 12 0
  else
    let (c, cand) := s1.classify x
    let s2 := (s1.mdSled x (fun d => { d with cls := c, cand })).setEvt 12 0
    let cap := sumN 4 (fun a => s2.areaSlots x a false) / 16
    let s3 := (s2.mdSled x (fun d => { d with cap })).openRings x
    if c = 6 then s3.unraise (74 + x) 0xFFFF else s3

/-- A flash island is powered by its sled's rails, its CQ registers at their reset values (R6). -/
def islandPower (x : Nat) (s : State) : State :=
  if (s.sled x).pwr then s
  else forN 8 (fun k t => t.mdRing (8 * x + k) (fun g => { fails := g.fails })) (s.mdSled x (fun d => { d with pwr := true, up := false }))

/-- FLASH_ISLAND_UP: the island is powered once its sled's slots have qualified; its dies are initialised (R167), the system area is read and the sled
classified (R187, R217). The same bring-up follows a reset of the island, or the return of its supply (Table 12-5, R496); an island that runs with its
dies initialised, or of a failed sled, has none due. Without the token the channels are high-impedance and nothing of it happens beyond the
island's power (R164). -/
def flashUp (x : Nat) (s : State) : State :=
  if !(rd s.pins.sledPrs x) || !s.ctlOn || !s.sledRails x || ((s.sled x).pwr && ((s.sled x).up || (s.sled x).cls == 7)) then s
  else
    let s1 := s.islandPower x
    if !s1.ringsRun x then s1
    else if !s1.pair.drv then s1.mdSled x (fun d => { d with reread := true })
    else (s1.dieInit x).sysRead x

/-- The first turn of Rise: the sleds kept powered through Boot are read again, their dies initialised as they are (R18); so is one whose
island powered before this controller held the token. -/
def sledsReread (s : State) : State :=
  forN 4 (fun x t => if (t.sled x).reread && t.ringsRun x && rd t.pins.sledPrs x && t.pair.drv then
    (if (t.sled x).up then t else t.dieInit x).sysRead x else t) s

/-- Take the vault's identity and keys from a member's system area. -/
def adoptVault (x : Nat) (s : State) : State :=
  match (s.sled x).dev.desc, (s.sled x).dev.keys with
  | some d, some k => s.mdVault (fun v => { v with
      id := d.vaultId, epoch := d.epoch, keyEpoch := k.keyEpoch, nonce := k.nonce, mat := k.mat, keysOk := k.wraps.contains Config.identity })
  | _, _ => s

/-- VAULT_FOUNDING: once every present sled has been read or has failed, the candidate with the highest MEMBER_EPOCH, on ties the
lowest sled, founds the vault and the candidates are classified (R187). -/
def vaultFounding (s : State) : State :=
  let waits := idxs 4 (fun x => rd s.pins.sledPrs x && (s.sled x).cls == 1)
  if s.vault.founded || !waits.isEmpty || !s.ctlOn || s.im.recipes.isEmpty then s
  else
    let ep : Nat → Nat := fun x => match (s.sled x).dev.desc with | some d => d.epoch | none => 0
    let best := (idxs 4 (fun x => (s.sled x).cand)).foldl (fun (b : Option Nat) x => match b with
      | some y => if ep y < ep x then some x else b | none => some x) none
    let s1 := s.mdVault (fun v => { v with founded := true })
    let s2 := match best with | some x => s1.adoptVault x | none => s1
    forN 4 (fun x t =>
      if !(t.sled x).cand then t
      else
        let (c, _) := t.classify x
        ((t.mdSled x (fun d => { d with cls := c, cand := false })).setEvt 12 0)) s2

/-- The live units an image needs, by its map (R194, R199): its own squares, and the log copies of its STAGED squares. -/
def imageUnits (s : State) (m : Manifest) : List LiveUnit :=
  (List.range m.squares).filterMap (fun q => if m.map.getD q 0 = 0 then none else
    (s.squareCopy m q).map (fun e => { ring := e.1, loc := e.2.1, tag := e.2.2 }))

/-- The squares of an image that no unit and no stripe gives any more: those its entries or its STAGED map name, each with the ring its entry names
(R178, R207, R217). -/
def goneUnits (s : State) (m : Manifest) : List LiveUnit :=
  let es := s.imageEnts m
  (List.range m.squares).filterMap (fun q =>
    if m.map.getD q 0 = 0 || (s.squareCopy m q).isSome then none
    else
      let u : LiveUnit := { ring := 0, loc := noLoc, tag := { kind := 1, port := m.port, sq := q, serial := m.serial, geom := m.geom, pos := 4 } }
      if m.map.getD q 0 = 2 then some u
      else (es.find? (fun e => !e.par && e.port == m.port && e.sq == q)).map (fun e => { u with ring := e.ring }))

/-- The log copies the staged map names (R226). -/
def stagedUnits (s : State) : List LiveUnit :=
  (List.range 64).flatMap (fun p => (rd s.stage.ports p).staged.filterMap (fun e => (s.logUnit e.lseq).map (fun x => { ring := x.1, loc := x.2.1, tag := x.2.2 })))

/-- The images that are not retired. -/
def liveImages (s : State) : List Manifest := s.images.filter (fun m => !s.retired m)

/-- The log copies something still rests on: an unretired image's or the staged map's. -/
def liveLog (s : State) : List LiveUnit := (((s.liveImages.flatMap s.imageUnits).filter (fun u => u.tag.kind == 3)) ++ s.stagedUnits).eraseDups

/-- The live entries that lie in the confirm units satisfying `pred`, and in no other, but those of copies that are rewritten themselves: they are
written again, marked as compaction's (R209, R235). -/
def liveEnts (pred : UTag → Nat → Nat → Bool) (moved : List LiveUnit) (s : State) : List ConfEnt :=
  let live := s.liveLog
  let us := s.confUnits
  let touched := (us.filter (fun e => pred e.2.2.1 e.1 e.2.1)).map (fun e => e.2.2.2)
  let kept := (us.filter (fun e => !touched.any (fun c => c.lseq == e.2.2.2.lseq))).flatMap (fun e => e.2.2.2.ents)
  ((touched.flatMap (fun c => c.ents)).filter (fun k => live.any (fun u => u.tag.copySeq == k.lseq && u.tag.port == k.port && u.tag.sq == k.sq)
    && !moved.any (fun u => u.tag.kind == 3 && u.tag.copySeq == k.lseq)
    && !kept.any (fun c => c.lseq == k.lseq && c.oseq == k.oseq && c.port == k.port && c.sq == k.sq))).eraseDups.map
    (fun k => { k with reloc := true, turn := 0 })

/-- The geometries of an image's index units (R193), a lost one's taken from its stripe. -/
def chainGeoms (s : State) (m : Manifest) : List Nat :=
  (s.imageChain m).map (fun e => match s.unitAt e.1 e.2.1 with
    | some u => u.tag.geom
    | none => match s.parityUnits.find? (fun x => x.2 == .index e.2.2) with | some x => x.1.geom | none => m.geom)

/-- A live stripe has a geometry that satisfies `bad` (R213, R217): one of an unretired image's squares, log copies or index units, of a copy in
the staged map, or of a confirm unit those copies rest on. -/
def liveGeom (bad : Nat → Bool) (s : State) : Bool :=
  s.liveImages.any (fun m => (s.imageUnits m).any (fun u => bad u.tag.geom) || (s.chainGeoms m).any bad)
    || s.stagedUnits.any (fun u => bad u.tag.geom) || !(s.liveEnts (fun t _ _ => bad t.geom) []).isEmpty

/-- A live stripe has a unit on a sled that is not a member (R217): one that can be found or rebuilt, or a square nothing gives any more. -/
def liveDegraded (s : State) : Bool :=
  s.liveGeom (fun g => (geomSleds g).any (fun x => (s.sled x).cls != 6)) || s.liveImages.any (fun m => !(s.goneUnits m).isEmpty)

/-- Where an append cursor stands after bring-up: after the latest unit of the area found on the ring (R217, R234). -/
def cursorFound (s : State) (r area : Nat) : Nat :=
  let (b0, b1) := (s.sledAreas (r / 8)).range area
  let us := (s.cells r).filterMap (fun c => c.2.bind (fun u => if b0 ≤ locBlk c.1 && locBlk c.1 < b1 then some (c.1, u.tag.serial * 2 ^ 32 + u.tag.seq) else none))
  let best := us.foldl (fun (b : Option (Nat × Nat)) e => match b with
    | some y => if (if area = 1 then seqBefore y.2 e.2 else y.2 < e.2) then some e else b | none => some e) none
  (s.nextFree r area (match best with | some e => e.1 + 1 | none => b0 * 8192)).getD noLoc

/-- BLOCK_MAP_DONE: the sled's live units are known; with every member's map complete the live stripes are checked; erase-ahead and the
log scan start (R190, R217, R234). -/
def blockMapDone (x : Nat) (s : State) : State :=
  if (s.sled x).cls ≠ 6 || !(s.sled x).up || (s.sled x).mapDone || !s.pair.drv || !s.ringsRun x then s
  else
    let s1 := forN 8 (fun c t => ((t.setCursor (8 * x + c) 0 (t.cursorFound (8 * x + c) 0)).setCursor (8 * x + c) 2 (t.cursorFound (8 * x + c) 2)))
      (s.mdSled x (fun d => { d with mapDone := true }))
    let s2 := { s1.reserveUpdate with stage := { s1.stage with scan := true, scanned := false } }
    let s3 := if (s2.members.all (fun y => (s2.sled y).mapDone)) && s2.liveDegraded then s2.degrade else s2
    s3.eraseAhead x

/-- The LSEQs of copies that the log shows to have been durable (R224, R233): of data units whose stripes have every unit, of the copies that confirm
units name, and the HWM those give. -/
def durableSeqs (s : State) : List Nat :=
  let us := (s.allUnits.map (·.2.2)).filter (fun u => u.tag.serial == 0 && u.tag.kind < 0x10)
  (us.filter (fun u => u.tag.kind == 3 && geomUnits u.tag.geom ≤ ((us.filter (fun v => v.tag.stripe == u.tag.stripe && v.tag.geom == u.tag.geom)).map (·.tag.pos)).eraseDups.length)).map
    (·.tag.copySeq)
    ++ s.confUnits.flatMap (fun c => c.2.2.2.hwm :: c.2.2.2.ents.map (·.lseq))

/-- LOG_SCAN_DONE on a sled: the LOG cursors, and the next LSEQ 65,536 past the latest found (R234); the first latest found since Boot sets it
whatever it was, and with an empty log one that is still 0 starts at 65,536 (DESIGN CHOICE, log entry 166). HWM follows the copies found durable
(R233). -/
def logScanDone (x : Nat) (s : State) : State :=
  if !(s.sled x).mapDone || (s.sled x).scanDone || !s.ringsRun x then s
  else
    let ls := (List.range 8).flatMap (fun c => (s.cells (8 * x + c)).filterMap (fun k => k.2.bind (fun u => if u.tag.serial = 0 && u.tag.kind < 0x10 then some u.tag.seq else none)))
    let latest := ls.foldl (fun (b : Option Nat) q => match b with | some y => if seqBefore y q then some q else b | none => some q) none
    let s1 := forN 8 (fun c t => t.setCursor (8 * x + c) 1 (t.cursorFound (8 * x + c) 1)) (s.mdSled x (fun d => { d with scanDone := true }))
    let g := s1.stage
    let stage : Stage := match latest with
      | some q => { g with
          lseqSet := true
          nextLseq := if !g.lseqSet || seqBefore g.nextLseq ((q + 65536) % 2 ^ 31) then (q + 65536) % 2 ^ 31 else g.nextLseq
          hwm := s1.durableSeqs.foldl (fun b h => if b = 0 || seqBefore b h then h else b) g.hwm }
      | none => { g with nextLseq := if g.nextLseq = 0 then 65536 else g.nextLseq }
    let s2 : State := { s1 with
      stage
      vault := { s1.vault with nextLogStripe := (s1.allUnits.map (fun e => if e.2.2.tag.serial = 0 then e.2.2.tag.stripe + 1 else 0)).foldl max s1.vault.nextLogStripe } }
    s2.scanEnd

/-- ERASE_COUNT_WRITE: erase counts go to the system area's block table, at most once per 10 minutes in Ready and once in each Fall
(R185). -/
def eraseCountWrite (s : State) : State :=
  let inFall := s.top.state == .fall
  if (s.top.state == .ready && decide (600 ≤ s.aon.opSec - s.vault.ecAt)) || (inFall && !s.vault.ecFall) then
    (forL s.members (fun x t =>
      let u := t.mdDev x (fun d => { d with erases := (t.sled x).erases })
      let d := (u.sled x).dev
      u.sysWrite x 2 (.blockTable d.factory d.grown d.erases)) (s.mdVault (fun v => { v with ecAt := s.aon.opSec, ecFall := inFall }))).pump
  else s

end State
end Sys2Proof.Machine
end

