-- ==== Sys2Proof/Machine/PreStage.lean ====
section
/-! DEFINITION. Pre-staging and the wear governor (06): map reading and candidates, copies, confirms, the staged map, confirm units,
the governor. -/

namespace Sys2Proof.Machine

/-- What the control island keeps of pre-staging when the port, mover and flash islands start afresh: its registers that the host wrote, its
latched bits and its totals (R6, log entry 117). -/
def Stage.islandsLost (g : Stage) : Stage :=
  { hostRate := g.hostRate, hostAvg := g.hostAvg, clip := g.clip, progB := g.progB, emergB := g.emergB, mats := g.mats
    ports := tmap (fun (x : StgP) => { orphan := x.orphan }) g.ports }

namespace State

abbrev pp (s : State) (p : Nat) : StgP := rd s.stage.ports p
def mdPp (p : Nat) (f : StgP → StgP) (s : State) : State := { s with stage := { s.stage with ports := md s.stage.ports p f } }

/-- This controller holds the token (R330, R517). -/
def holder (s : State) : Bool := s.pair.drv

/-- Pre-staging runs (R218). -/
def stageRuns (s : State) : Bool :=
  s.holder && s.pair.hand == 0 && s.inState [.ready, .ride, .service] && !s.stage.susp && 0 < s.healthyCount
    && (idxs 4 s.sledHealthy).all (fun x => (s.sled x).scanDone)

/-! ### The governor (R237 to R242) -/

/-- PE: the smallest rated cycle count among the recipes of the dies in use on the present sleds (R237). -/
def peMin (s : State) : Nat :=
  ((idxs 32 (fun r => rd s.pins.sledPrs (r / 8) && (s.sled (r / 8)).up && bitOf (s.sled (r / 8)).chOk (r % 8))).flatMap
    (fun r => (s.ringRecipes r).map (·.peRated))).foldl min 0xFFFFFF

/-- R_gov in MB/s (R237). -/
def rGovOf (s : State) : Nat :=
  let c := sumN 4 (fun x => if s.sledHealthy x then (s.sled x).cap * 2 ^ 20 else 0)
  c * s.peMin * 8 / 10 / 631152000 / 1000000

/-- Emergency time used in the trailing 86,400 operating seconds, ms (R241). -/
def emUsed (s : State) : Nat := s.aon.emBkt.foldl (· + ·) 0

/-- A host rate acts only below the hardware figure (R240). -/
def effRate (s : State) : Nat := min s.im.pol.rateMax s.stage.hostRate

/-- The governor step at a turn boundary (R242), with which a relocation's rate starts a new turn too (R209). While no sled counts in C yet or any
more the credit stands as AON keeps it, neither accruing nor capped: it survives what AON survives (R239, log entry 167). -/
def governorStep (s0 : State) : State :=
  let s := s0.mdVault (fun v => { v with relUsed := 0 })
  let rg := s.rGovOf
  let cr0 : Int := if s.aon.emFresh && rg ≠ 0 then ((rg * 600 * 1000000 : Nat) : Int) else s.aon.credit
  let credit : Int := if rg = 0 then cr0 else min (cr0 + ((min rg s.stage.hostAvg * 1000 : Nat) : Int)) ((rg * 21600 * 1000000 : Nat) : Int)
  let g := if s.ctrlBit 8 0 then min (s.effRate * 1000) credit.toNat else 0
  let em := s.stake.v.short && s.emUsed < 600000
  let grant := if em then max g (min s.im.pol.rateMax (4 * rg) * 1000) else g
  let on := g < grant
  let bk := if on then (match s.aon.emBkt with | b :: bs => (b + 1) :: bs | [] => [1]) else s.aon.emBkt
  let s1 := { s with
    aon := { s.aon with credit, emBkt := bk, emFresh := s.aon.emFresh && rg == 0, emEntries := if on && !s.stage.emergOn then satAdd 0xFFFF s.aon.emEntries 1 else s.aon.emEntries }
    stage := { s.stage with
      rGov := rg, g, grant, used := 0, emergOn := on } }
  if on && !s.stage.emergOn then s1.setEvt 8 0 else s1

/-! ### Candidates (R219 to R222) -/

/-- A square is in backoff. -/
def inBackoff (q : StgP) (sq : Nat) : Bool := q.backoff.any (fun b => b.sq == sq && b.till != 0)

/-- Candidate squares of a port, ascending (R220). -/
def candidates (s : State) (p : Nat) : List Nat :=
  let q := s.pp p
  (q.map.flatMap (fun w => (List.range 32).filterMap (fun i =>
    let st := w.2.2.getD i 0
    let sq := 32 * w.1 + i
    if (st == 1 || st == 3) && !(q.copies.any (fun c => c.sq == sq)) && !inBackoff q sq then some sq else none)))

/-- Map words of a port. -/
def mapWords (s : State) (p : Nat) : Nat := ceilDiv (s.lk p).squares 32

/-- Ask for the next map words: enough each turn to cover the port in 64 (R220). -/
def askMap (p : Nat) (s : State) : State :=
  let w := s.mapWords p
  if w = 0 then s
  else
    let q := s.pp p
    let n := min (min (ceilDiv w 64) (256 - q.words)) (w - q.word % w)
    let first := q.word % w
    if n = 0 then s
    else
    (s.mdPp p (fun q => { q with words := q.words + n, asked := q.asked ++ [(q.reqNo, first, n)], reqNo := q.reqNo + 1, word := (first + n) % w })).send p
      (.mapReq (32 * first) n (q.reqNo % 2 ^ 32))

/-- REVERT to a port (R97, R98); each is answered by a REVERT_ACK of its own. -/
def sendRevert (p turnF : Nat) (all : Bool) (s : State) : State :=
  (s.mdPp p (fun q => { q with reverts := q.reverts ++ [(turnF, all)] })).send p (.revert turnF all s.aon.epoch)

/-! ### Copies (R223 to R226) -/

/-- Open a copy of a square with READ, COPY = 1 (R223). -/
def openCopy (p sq : Nat) (s : State) : State :=
  let tag := s.stage.tagNo
  (({ s with stage := { s.stage with tagNo := (tag + 1) % 2 ^ 32 } }).mdPp p (fun q => { q with
    copies := q.copies ++ [({ sq, turn := s.clk.turn, tag } : Copy)], cursor := sq + 1 })).send p (.read sq 0 16 true tag)

/-- A port's candidates from its cursor, wrapping. -/
def fromCursor (s : State) (p : Nat) : List Nat :=
  let c := s.candidates p
  let k := (s.pp p).cursor
  c.filter (fun x => k ≤ x) ++ c.filter (fun x => x < k)

/-- Spend a budget of copies on a class of ports in proportion to U_p (R221); answers what is left. The rule gives no rounding: each port's share is
rounded up, ports are served in ascending number, and what a port cannot use goes to the next class (DESIGN CHOICE, log entry 211). -/
def spendClass (ports : List Nat) (budget : Nat) (s : State) : Nat × State :=
  let tot := ports.foldl (fun a p => a + (rd s.stake.v.ports p).u) 0
  ports.foldl (fun (b : Nat × State) p =>
    let share := if tot = 0 then 0 else ceilDiv (budget * (rd s.stake.v.ports p).u) tot
    let room := 256 - ((b.2.pp p).copies).length
    let l := (b.2.fromCursor p).take (min (min share b.1) room)
    (b.1 - l.length, forL l (fun sq t => t.openCopy p sq) b.2)) (budget, s)

/-- PRESTAGE_GRANT: the turn's grant opens copies, ports above their stake first (R221, R242). -/
def spendGrant (s : State) : State :=
  if !s.stageRuns || geomUnits s.vault.geom = 0 then s
  else
    let el := idxs 64 (fun p => s.eligible p && s.linkUp p)
    let first := fun p => let v := rd s.stake.v.ports p
      decide (v.s < v.u) || (s.stake.v.short && decide (v.cov < v.u))
    let budget := s.stage.grant * geomData s.vault.geom / (65536 * geomUnits s.vault.geom)
    let r := s.spendClass (el.filter first) budget
    (r.2.spendClass (el.filter (fun p => !first p)) r.1).2

/-- MAP_REQ of a turn: every eligible port's next words (R220). -/
def mapTurn (s : State) : State :=
  let s1 := forN 64 (fun p t => t.mdPp p (fun q => { q with words := 0 })) s
  if !s1.stageRuns then s1 else forL (idxs 64 (fun p => s1.eligible p && s1.linkUp p)) (fun p t => t.askMap p) s1

/-- Drop a port's copies, with CANCEL where its link carries messages (R96); a CONFIRM stays in doubt until it is answered (R228). -/
def cancelCopies (p : Nat) (s : State) : State :=
  (forL ((s.pp p).copies) (fun c t => t.send p (.cancel c.sq)) s).mdPp p (fun q => { q with copies := [] })

/-- A port is no longer eligible: its staged map is emptied and its copies closed (R226). -/
def stageLose (p : Nat) (s : State) : State :=
  (s.cancelCopies p).mdPp p (fun q => { q with staged := [], map := [], asked := [], backoff := [], doubt := false })

/-- A port becomes eligible (again): REVERT with ALL = 1 (R98). Its TURN_F, which no rule gives, is the running turn number (DESIGN CHOICE,
log entry 152). -/
def stageGain (p : Nat) (s : State) : State := s.sendRevert p (s.clk.turn % 2 ^ 32) true

/-- A map word arrives: the latest states, removals and orphans (R226, R227). -/
def mapWord (p reqNo w : Nat) (sts : List Nat) (s : State) : State :=
  let q := s.pp p
  let staged := q.staged.filter (fun e => !(e.sq / 32 == w && e.at_ ≤ reqNo && sts.getD (e.sq % 32) 0 != 2))
  let orphan := (List.range 32).any (fun i => sts.getD i 0 == 2 && q.lastAck ≤ reqNo
    && !(q.staged.any (fun e => e.sq == 32 * w + i)) && !(q.copies.any (fun c => c.sq == 32 * w + i && c.ph == 3)))
  let s1 := s.mdPp p (fun q => { q with staged, map := (q.map.filter (fun m => m.1 < w)) ++ [(w, reqNo, sts)] ++ q.map.filter (fun m => w < m.1) })
  if orphan then
    ((s1.mdPp p (fun q => { q with orphan := true, staged := [] })).setEvt 8 1).sendRevert p (s1.clk.turn % 2 ^ 32) true
  else s1

/-- An accepted MAP: it answers a request by its tag (R219); one that answers none still asked is dropped. -/
def mapRx (p tag first : Nat) (words : List (List Nat)) (s : State) : State :=
  match (s.pp p).asked.find? (fun a => a.1 % 2 ^ 32 == tag && 32 * a.2.1 == first && a.2.2 == words.length) with
  | none => s
  | some a =>
    let s1 := s.mdPp p (fun q => { q with asked := q.asked.filter (fun b => b.1 != a.1) })
    let s2 := (List.range words.length).foldl (fun t i => t.mapWord p a.1 (a.2.1 + i) (words.getD i [])) s1
    if s2.stageRuns && s2.eligible p && 0 < (rd s2.stake.v.ports p).u && (s2.candidates p).isEmpty && (s2.pp p).asked.isEmpty then s2.askMap p else s2

/-- A chunk of a copy is held; the sixteenth makes the log data unit (R223). -/
def copyChunk (p : Nat) (c : Copy) (chunk gen st : Nat) (data : Chunk) (s : State) : State :=
  let chunks := (c.chunks.filter (fun d => d.1 != chunk)) ++ [(chunk, data)]
  if chunks.length < 16 then
    s.mdPp p (fun q => { q with copies := q.copies.map (fun d => if d.tag == c.tag then { d with gen := some (gen, st), chunks } else d) })
  else
    let lseq := s.stage.nextLseq
    let num := (s.openStripe 1 false).1.num
    let body : NBody := .square ((List.range 16).map (fun i => ((chunks.find? (fun d => d.1 == i)).map (·.2)).getD [])) s.vault.mat
    let s1 := s.mdPp p (fun q => { q with copies := q.copies.map (fun d => if d.tag == c.tag then
      { d with gen := some (gen, st), chunks := [], ph := 1, stripe := num, lseq } else d) })
    (s1.addUnit 1 3 false { kind := 3, port := p, sq := c.sq, gen } body).pump

/-- A DATA chunk of a copy (R223): a GEN or STATE that differs from the first abandons the copy. Where pre-staging does not run nothing is
made of it (R218). -/
def copyData (p sq : Nat) (c : Copy) (chunk gen st : Nat) (data : Chunk) (s : State) : State :=
  if !s.stageRuns then s else match c.gen with
  | some g =>
    if g ≠ (gen, st) then
      (((s.mdPp p (fun q => { q with copies := q.copies.filter (fun d => d.tag != c.tag) })).send p (.cancel c.sq)).protoErr p sq)
    else s.copyChunk p c chunk gen st data
  | none => s.copyChunk p c chunk gen st data

/-- The confirm units of a log stripe that has ended: one programmed, in either copy, is complete; the entries of one that was given up wait
to be written again, as old as they are (R232). -/
def confUnitsDone (t : Stripe) (s : State) : State :=
  forL ((t.tags.filter (fun e => e.2.kind == 4)).map (·.2.seq)) (fun q u =>
    match u.stage.posted.find? (fun e => e.1 == q) with
    | none => u
    | some e =>
      let ok := if geomMode t.geom = 1 then !t.locs.isEmpty else t.tags.any (fun k => k.2.seq == q && t.locs.any (fun l => l.1 == k.1))
      { u with stage := { u.stage with
          posted := u.stage.posted.filter (fun k => k.1 != q)
          pend := if ok then u.stage.pend else e.2 ++ u.stage.pend } }) s

/-- The highest LSEQ of a durable copy, after a log stripe whose units are all done; a relocation's copies count like the others (R224, R233). -/
def raiseHwm (t : Stripe) (s : State) : State :=
  { s with stage := { s.stage with hwm := t.tags.foldl (fun b e => if e.2.kind = 3 && seqBefore b e.2.copySeq then e.2.copySeq else b) s.stage.hwm } }

/-- A log stripe has every unit done: its copies are durable (R224). With a unit given up they are not. -/
def logStripeDone (t : Stripe) (s0 : State) : State :=
  let s := s0.confUnitsDone t
  if t.locs.length < t.tags.length then s
  else
    let s1 := s.raiseHwm t
    forN 64 (fun p u => u.mdPp p (fun q => { q with copies := q.copies.map (fun c =>
      if c.ph = 1 && c.stripe = t.num then
        (match t.tags.find? (fun e => e.2.seq == c.lseq) with
        | some e => match t.locs.find? (fun l => l.1 == e.1) with
          | some l => { c with ph := 2, ring := l.2.1, loc := l.2.2 }
          | none => c
        | none => c)
      else c) })) s1

/-- CONFIRM entries of a turn, at most 64 a port (R225). -/
def sendConfirms (s : State) : State :=
  if !s.stageRuns then s
  else forL (idxs 64 (fun p => s.eligible p && s.linkUp p)) (fun p t =>
    let l := ((t.pp p).copies.filter (fun c => c.ph == 2)).take 64
    if l.isEmpty then t
    else
      let ents := l.map (fun c => (c.sq, match c.gen with | some g => g.1 | none => 0))
      (t.mdPp p (fun q => { q with
        copies := q.copies.map (fun c => if l.any (fun d => d.tag == c.tag) then { c with ph := 3 } else c),
        confirms := q.confirms ++ [(t.clk.turn % 2 ^ 32, ents)] })).send p (.confirm (t.clk.turn % 2 ^ 32) ents)) s

/-- The backoff interval after a rejection (R222). An interval that runs already when a shortfall begins is not cut (DESIGN CHOICE, log entry 212). -/
def backoffNext (q : StgP) (sq : Nat) (short : Bool) : Nat :=
  let cap := if short then 16 else 1024
  match q.backoff.find? (fun b => b.sq == sq) with
  | some b => min cap (2 * b.ival)
  | none => 16

/-- One entry of a CONFIRM_ACK: an accepted one makes the square STAGED in the map as the controller holds it. -/
def ackEntry (p turn : Nat) (e : Nat × Nat) (ok : Bool) (s : State) : State :=
  let q := s.pp p
  match q.copies.find? (fun c => c.sq == e.1 && c.ph == 3) with
  | none => s
  | some c =>
    let drop : StgP → StgP := fun q => { q with copies := q.copies.filter (fun d => d.tag != c.tag) }
    if ok then
      let st : Staged := { sq := e.1, gen := e.2, lseq := c.lseq, ring := c.ring, loc := c.loc, at_ := q.reqNo, turn }
      let shown := q.map.map (fun w => if w.1 = e.1 / 32 then (w.1, w.2.1, w.2.2.set (e.1 % 32) 2) else w)
      let s1 := (s.mdPp p (fun q => { drop q with map := shown, staged := q.staged.filter (fun d => d.sq != e.1) ++ [st], backoff := q.backoff.filter (fun b => b.sq != e.1) })).mdLk p
        (fun l => { l with cntAcc := satAdd 0xFFFFFFFF l.cntAcc 1 })
      { s1 with stage := { s1.stage with pend := s1.stage.pend ++ [({ lseq := c.lseq, oseq := c.lseq, sq := e.1, port := p, gen := e.2, turn }, s1.clk.turn)] } }
    else
      let iv := backoffNext q e.1 s.stake.v.short
      (s.mdPp p (fun q => { drop q with backoff := q.backoff.filter (fun b => b.sq != e.1) ++ [{ sq := e.1, ival := iv, till := s.clk.turn + iv }] })).mdLk p
        (fun l => { l with cntRej := satAdd 0xFFFFFFFF l.cntRej 1 })

/-- An accepted CONFIRM_ACK (R226). -/
def confirmAckRx (p turn : Nat) (acc : BitVec 64) (s : State) : State :=
  match (s.pp p).confirms.find? (fun c => c.1 == turn) with
  | none => s
  | some c =>
    let s1 := s.mdPp p (fun q => { q with confirms := q.confirms.filter (fun d => d.1 != turn) })
    let s2 := (List.range c.2.length).foldl (fun t i => t.ackEntry p turn (c.2.getD i (0, 0)) (acc.getLsbD i)) s1
    s2.mdPp p (fun q => { q with lastAck := q.reqNo })

/-- Turn a follows turn b; TURN is 32 bits wide, compared in serial order. -/
def turnAfter (a b : Nat) : Bool := let d := (a + 2 ^ 32 - b) % 2 ^ 32; 1 ≤ d && d < 2 ^ 31

/-- An accepted REVERT_ACK: it answers the oldest REVERT outstanding; the count, and the removal of what was reverted (R97, R226). After one with
ALL = 1 no CONFIRM before it is in doubt any more. -/
def revertAckRx (p count : Nat) (ovf : Bool) (s : State) : State :=
  let s1 := s.mdLk p (fun l => { l with reverted := count })
  s1.mdPp p (fun q =>
    let gone : Staged → Bool := fun e => match q.reverts with
      | r :: _ => (r.2 || ovf || turnAfter e.turn r.1) && count != 0
      | [] => false
    let all := match q.reverts with | r :: _ => r.2 | [] => false
    { q with staged := q.staged.filter (fun e => !gone e), reverts := q.reverts.drop 1
             confirms := if all then [] else q.confirms })

/-- COPY_TIMEOUT: a copy not durable 32 turns after it was opened is cancelled (R225). -/
def copyTimeout (p sq : Nat) (s : State) : State :=
  match (s.pp p).copies.find? (fun c => c.sq == sq && c.ph < 2 && c.turn + 32 ≤ s.clk.turn) with
  | none => s
  | some c => (s.mdPp p (fun q => { q with copies := q.copies.filter (fun d => d.tag != c.tag) })).send p (.cancel sq)

/-- BACKOFF_END: the interval has run; the count of rejections in a row stays (R222). -/
def backoffEnd (p sq : Nat) (s : State) : State :=
  s.mdPp p (fun q => { q with backoff := q.backoff.map (fun b => if b.sq == sq && b.till ≤ s.clk.turn then { b with till := 0 } else b) })

/-- LOG_STRIPE_FILL: a log stripe open for 2 turn boundaries is completed with filler (R224); where pre-staging does not run the stripe is of confirm
units alone, and its filler of their class. -/
def logStripeFill (s : State) : State :=
  match s.vault.stripes.find? (fun t => t.area == 1 && !t.closed) with
  | some t => if t.opened + 2 ≤ s.clk.turn then (s.fillStripe 1 (if t.reloc || s.inState [.ready, .ride, .service] then 3 else 0) t.reloc).pump else s
  | none => s

/-! ### Confirm units (R231, R232) -/

/-- Write one confirm unit of the oldest pending entries: all of them, or for a relocation its own alone, in its own stripe, which the grant does not
gate (R242), and then the others without them. -/
def writeConfirm (reloc : Bool) (sel : ConfEnt → Bool) (s : State) : State :=
  let es := (s.stage.pend.filter (fun e => sel e.1)).take 4092
  if es.isEmpty then s
  else
    let lseq := s.stage.nextLseq
    let b : ConfUnit := { lseq, hwm := s.stage.hwm, stamp := s.stamp, ents := es.map (·.1) }
    ({ s with stage := { s.stage with pend := s.stage.pend.filter (fun e => !es.contains e), posted := s.stage.posted ++ [(lseq, es)] } }).addUnit 1 0 reloc
      { kind := 4 } (.confirm b)

/-- CONFIRM_UNIT_WRITE: 4,092 entries are pending, or the oldest is 100 turns old (R232). A relocation's entries go into a unit of their own, which the
grant does not gate (R242). -/
def confirmUnitWrite (s : State) : State :=
  if decide (4092 ≤ s.stage.pend.length) || s.stage.pend.any (fun e => decide (e.2 + 100 ≤ s.clk.turn)) then
    ((if s.stage.pend.any (·.1.reloc) then (s.writeConfirm true (·.reloc)).fillStripe 1 0 true else s).writeConfirm false (fun c => !c.reloc)).pump
  else s

/-- Confirm entries not yet in a completed confirm unit (STAGE.PEND). -/
def confPending (s : State) : Nat := s.stage.pend.length + s.stage.posted.foldl (fun a u => a + u.2.length) 0

/-- STAGE.CREDIT in MiB, rounded toward zero. -/
def creditMib (s : State) : Int := divZ s.aon.credit 1048576

/-- STAGE_HOST_WRITE: a host rate above the hardware figure acts as it and sets CLIP (R240). -/
def stageHost (w : Word) (s : State) : State :=
  let r := bitsOf w 15 0
  let a := bitsOf w 31 16
  let clip := decide (s.im.pol.rateMax < r) || decide (s.stage.rGov < a)
  { s with stage := { s.stage with hostRate := r, hostAvg := a, clip := s.stage.clip || clip } }

/-- Pre-staging's units that no die has started are given up: descriptors of class 3 are cancelled, waiting units dropped (R124, R218). -/
def stageDrop (s : State) : State :=
  let cancel := fun (e : Nat × Desc) (r : Nat) (t : State) => e.2.status % 256 == 0 && e.2.pos / 4 == 3 && !t.started r e.1
  let s1 := forN 32 (fun r t =>
    let l := (t.ring r).slots.filter (fun e => cancel e r t)
    let t1 := t.mdRing r (fun g => { g with
      slots := g.slots.map (fun e => if l.any (fun f => f.1 == e.1) then (e.1, { e.2 with status := 6 }) else e),
      err := wr g.err 6 (satAdd 0xFFFF (rd g.err 6) l.length) })
    forL l (fun e u => u.unitLost e.2.unit e.2.why) t1) s
  let gone := s1.vault.ready.filter (fun j => j.area == 1 && j.cls == 3)
  forL gone (fun j t => t.unitLost (some j.unit) j.why) (s1.mdVault (fun v => { v with ready := v.ready.filter (fun j => !(j.area == 1 && j.cls == 3)) }))

/-- Pre-staging stops at t_trip (R124): unstarted descriptors of class 3 are cancelled, copies close, pending confirms are written. A CONFIRM in
flight stays with its copies: its CONFIRM_ACK still updates the staged map (R226), and until then its port is in doubt (R228). -/
def stageTrip (s : State) : State :=
  let s3 := forN 64 (fun p t => t.mdPp p (fun q => { q with copies := q.copies.filter (fun c => c.ph == 3), asked := [] })) s.stageDrop
  let s4 := iter (ceilDiv s3.stage.pend.length 4092) (writeConfirm false (fun _ => true)) s3
  s4.fillStripe 1 0 false

/-- Pre-staging stops where a state that knows none is entered without a trip (R218): its units that no die has started are given up, its open stripe goes on only
for a confirm unit in it, and the copies that are not confirmed close with CANCEL. -/
def stageStop (s : State) : State :=
  let s1 := s.stageDrop
  let conf := fun (t : Stripe) => t.tags.any (fun e => e.2.kind == 4)
  let s2 := s1.mdVault (fun v => { v with stripes := v.stripes.filter (fun t => t.area != 1 || t.reloc || t.closed || conf t) })
  let s3 := forN 64 (fun p t =>
    (forL ((t.pp p).copies.filter (fun c => c.ph != 3)) (fun c u => u.send p (.cancel c.sq)) t).mdPp p (fun q => { q with copies := q.copies.filter (fun c => c.ph == 3), asked := [] })) s2
  (s3.fillStripe 1 0 false).pump

end State
end Sys2Proof.Machine
end

