-- ==== Sys2Proof/Machine/Save.lean ====
section
/-! DEFINITION. Saving (04): what t_trip does, freeze and collect, waves, the move with its classes and cut-offs, index units,
manifests and seals, the save report, the calibration save. -/

namespace Sys2Proof.Machine
namespace State

abbrev sv (s : State) (p : Nat) : SvPort := rd s.save.ports p
def mdSv (p : Nat) (f : SvPort → SvPort) (s : State) : State := { s with save := { s.save with ports := md s.save.ports p f } }
def mdSave (f : Save → Save) (s : State) : State := { s with save := f s.save }

/-- A save runs: state Save, its seal not yet written. -/
def saving (s : State) : Bool := s.top.state == .save && !s.save.done

/-- us since t_trip. -/
def sinceTrip (s : State) : Nat := (s.clk.l - s.save.tripL) / 1000

/-- The ports that get an image. -/
def imgPorts (s : State) : List Nat := idxs 64 (fun p => (s.sv p).img)

/-! ### Registers made of the save's figures -/

/-- SAVE.STATUS; a promoted save is no test save in its records (R123). -/
def saveStatus (s : State) : Word :=
  let v := s.save
  word [(0, 4, v.phase), bf 4 (v.test && !v.promoted), bf 5 v.cal, bf 6 v.promoted, bf 7 v.resumed, bf 8 v.retripped,
    bf 9 (s.imgPorts.any (fun p => (s.sv p).unconf)), bf 10 (s.imgPorts.any (fun p => (s.sv p).incomplete && (s.sv p).pst == 6)),
    bf 11 v.deadlineMiss, bf 12 v.emerg, bf 13 v.sledLost, bf 14 v.calOk, bf 15 v.sealFail]

/-- SAVE.TRIP. -/
def saveTripReg (s : State) : Word :=
  word [(0, 8, s.save.primary), (8, 8, s.save.src.toNat), (16, 8, s.save.late.toNat), (24, 8, s.save.edges)]

def sqC1 (s : State) : Nat := sumN 64 (fun p => (s.sv p).moved1)
def sqC2 (s : State) : Nat := sumN 64 (fun p => (s.sv p).moved - (s.sv p).moved1)
def leftC1 (s : State) : Nat := sumN 64 (fun p => (s.sv p).cSq - (s.sv p).moved1)
def leftC2 (s : State) : Nat := sumN 64 (fun p => ((s.sv p).set.length - (s.sv p).cSq) - ((s.sv p).moved - (s.sv p).moved1))

/-- SAVE.PCAL: the largest sum upward to 1 W, kept in uW; while the save runs, and where the measurement does not stand, the largest so far
(log entry 158). -/
def pcalReg (s : State) : Word := word [(0, 16, ceilDiv s.save.pMeas 1000000), (16, 16, s.save.samples)]

/-! ### The trip (R118 to R124) -/

/-- The boundary cells own the pins: the freeze path does not reach FRZ_N (R516). -/
def tapOwnsPins (s : State) : Bool := [TapIr.extest, .extestPulse, .extestTrain, .clamp, .highz].contains s.pins.tap

/-- The freeze path asserts every FRZ_N group (R12, R124). -/
def assertFrz (s : State) : State := { s with top := { s.top with frz := 0xFF } }

/-- What the boundary cell of a pin drives: nothing under HIGHZ, the pulse or train of IEEE 1149.6 on an AC-coupled lane, and otherwise what its update
latch holds, a free value; a transmitter and an open-drain line drive two values, every other cell three (R516). -/
def cellDrive (s : State) (o : OutPin) : Drive :=
  let k := match o with
    | .en n => n | .swoMain => 64 | .swoBkp => 65 | .frz g => 66 + g | .seqflt => 74 | .token => 75 | .hbOut => 76 | .irq => 77 | .rpRdy => 78 | .rpErr => 79
    | .rpBusy => 80 | .sledRtr x => 81 + x | .hclTx p => 85 + p | .plTx => 149 | .fpTx i => 150 + i | .nv r => 154 + r | .nor d => 186 + d | .pmbt => 188 | .pmbc => 189
  let v := (Config.freeWord (s.pins.cells.getD 0 + k)).toNat
  let lane := match o with | .hclTx _ => true | .plTx => true | .fpTx _ => true | _ => false
  let drain := match o with | .frz _ => true | .seqflt => true | .token => true | .irq => true | .pmbt => true | .pmbc => true | _ => false
  if s.pins.tap = .highz then (if lane then .idle else .hiZ)
  else if lane && s.pins.tap = .extestPulse then .pulse
  else if lane && s.pins.tap = .extestTrain then .train
  else if v % 2 = 0 then .low
  else if drain then .hiZ
  else if lane || v / 2 % 2 = 0 then .high else .hiZ

/-- The FRZ_N groups this controller drives low: what the freeze path asserts, or what the boundary cells drive while they own the pins (R516). -/
def frzDrive (s : State) : BitVec 8 := if s.tapOwnsPins then BitVec.ofNat 8 (sumN 8 (fun g => if s.cellDrive (.frz g) = .low then 2 ^ g else 0)) else s.top.frz

/-- The SAVE.TRIP.SRC bits of a rank and of the ranks active within 1 us of it (R119). -/
def srcMask (rank : Nat) (also : BitVec 8) : BitVec 8 := also ||| BitVec.ofNat 8 (2 ^ (rank - 1))

/-- The primary cause: the highest-priority rank among the sources (R119). -/
def primaryOf (src : BitVec 8) : Nat := ((idxs 8 (fun i => src.getLsbD i)).headD 7) + 1

/-- What t_trip, the running instant, does to the save itself; `also` are the ranks active within 1 us of it (R119, R121, R124, R126). -/
def saveBegin (rank : Nat) (also : BitVec 8) (test cal : Bool) (s0 : State) : State :=
  let s := s0
  let src := srcMask rank also
  let prim := primaryOf src
  let ps := tgen 64 (fun p => ({ img := (rd s.stake.q p).elig, pst := if (rd s.stake.q p).elig then 1 else 0, adapter := (s.lk p).id, squares := (s.lk p).squares, staged := (s.pp p).staged } : SvPort))
  let serial := (s.save.serial + 1) % 2 ^ 32
  let none_ := (idxs 64 (fun p => (rd s.stake.q p).elig)).isEmpty
  let sv : Save :=
    { phase := if none_ then 2 else 1, test, cal, serial, primary := prim, src, tTrip := s0.stamp, tripL := s0.clk.l,
      ports := ps, geom := s.vault.geom, hwm := s.stage.hwm, w0 := if none_ then some 0 else none, fillOn := cal, kind8 := src.getLsbD 7,
      calReq := false, supply := s.srcLive 150 }
  let s1 := { s0 with save := sv, vault := { s0.vault with nextSeq := 1, nextStripe := 0, stripes := s0.vault.stripes.filter (fun t => t.area == 1) } }
  let s2 := forN 32 (fun r t => t.mdRing r (fun g => { g with isOpen := false, fails := 0 })) s1
  let s3 := forN 4 (fun x t => t.mdSled x (fun d => { d with lostAt := false })) s2
  let s4 := forN 64 (fun p t => t.mdLk p (fun l => { l with frzRcvd := false })) s3
  let s5 := ((s4.assertFrz.sendFreeze serial (test || cal)).unraise 73 0xFFFF).setEvt 6 0
  let s6 := { s5 with stake := { s5.stake with v := { s5.stake.v with frozen := true } }, top := { s5.top with frzTrip := false } }
  s6.count 0x20 prim serial

/-- A test or calibration save becomes an ordinary one (R123). -/
def promote (s : State) : State :=
  if (s.save.test || s.save.cal) && !s.save.promoted && s.saving then
    (s.mdSave (fun v => { v with promoted := true, calBad := true, fillOn := false })).saveProfileDown.marginCancel
  else s

/-- The occurrence of code 0x20 that this save's trip counted is taken back, its chip with it, before it is counted with another primary
cause (R119, R416). -/
def uncountTrip (s : State) : State :=
  let code := 0x20 * 256 + s.save.primary
  let it := fun (o : Occ) => o.code == code && o.datum == s.save.serial
  let supp := s.ledg.live.chipsLeft code == 0 && !(s.ledg.evq.any it)
  { s with ledg := { s.ledg with
      live := s.ledg.live.upd code (fun c => if supp then { c with supp := c.supp - 1 } else { c with count := c.count - 1 }),
      evq := s.ledg.evq.filter (fun o => !(it o)) } }

/-- Another trip source in the same save: within 1 us of t_trip it is one of its sources and may be its primary cause; later it is a
LATE bit (R119; DEDUCED, log entry 191). A source of ranks 1 to 6 promotes a test or calibration save (R123). -/
def saveLate (rank : Nat) (s : State) : State :=
  let s1 :=
    if s.clk.l ≤ s.save.tripL + 1000 then
      let s2 := s.mdSave (fun v => { v with src := srcMask rank v.src })
      if rank < s.save.primary then (s2.uncountTrip.mdSave (fun v => { v with primary := rank })).count 0x20 rank s.save.serial else s2
    else s.mdSave (fun v => { v with late := v.late ||| BitVec.ofNat 8 (2 ^ (rank - 1)) })
  if rank ≤ 6 then s1.promote else s1

/-- A trip in a state that saves nothing: FRZ_N and a count with the primary source's rank; `also` are the ranks active within 1 us of it
(R119, R521). -/
def tripNoSave (rank : Nat) (also : BitVec 8) (s : State) : State :=
  let s1 := s.assertFrz
  let s2 := { s1 with top := { s1.top with frzTrip := true } }
  let prim := primaryOf (srcMask rank also)
  if s2.ctlUp then s2.count 0x20 prim 0xFFFFFFFF
  else { s2 with aon := { s2.aon with tripCnt := md s2.aon.tripCnt prim (satAdd 255 · 1) } }

/-! ### To-move sets (R127, R128, R131) -/

/-- Pips covered at the trip (R62): min(U_p,frz, K_p), or in shortfall the coverage of that turn. -/
def cPips (s : State) (p u : Nat) : Nat :=
  let v := rd s.stake.v.ports p
  if s.stake.v.short then min u v.cov else min u v.k

/-- The to-move set and class split of a port from its final map. Of the squares an unconfirmed port has moved or is reading already, those
of the set go on in the class the map gives them; those it shows CLEAN leave the move (R128). C_SQ is the frame's in a resumed save
(R151). -/
def buildSet (p : Nat) (m : FrozenMsg) (s : State) : State :=
  let v := s.sv p
  let st := fun q => m.map.getD q 0
  let dirty := (List.range v.squares).filter (fun q => st q == 1 || st q == 3)
  let extra := if s.save.retripped then (List.range v.squares).filter (fun q => st q == 2 && !((s.pp p).staged.any (fun e => e.sq == q))) else []
  let lim := match v.cFix with | some k => k - extra.length | none => 16 * s.cPips p (ceilDiv dirty.length 16)
  let c1 := (extra ++ dirty.take lim).mergeSort (· ≤ ·)
  let set := (extra ++ dirty).mergeSort (· ≤ ·)
  let cls := fun q => if c1.contains q then 1 else if set.contains q then 2 else 0
  let done := set.filter (fun q => v.done.contains q || (set.take v.skip).contains q)
  let have_ := fun q => done.contains q || v.pendSq.any (fun e => e.1 == q) || v.reads.any (fun r => r.sq == q)
  s.mdSv p (fun v => { v with
    done, skip := 0, moved := done.length, moved1 := (done.filter (fun q => cls q == 1)).length
    frozen := some m, set, cSq := c1.length
    c1 := if v.ended then [] else c1.filter (fun q => !have_ q)
    c2 := if v.ended then [] else set.filter (fun q => cls q == 2 && !have_ q)
    reads := (v.reads.filter (fun r => set.contains r.sq)).map (fun r => { r with cls := cls r.sq })
    pendSq := v.pendSq.map (fun e => (e.1, cls e.1)), pst := if s.save.c1Done then 3 else 2 })

/-- The to-move set of an unconfirmed port: every square without an entry in its staged map as that stood at t_trip (R127). -/
def buildUnconf (p : Nat) (s : State) : State :=
  let set := (List.range (s.sv p).squares).filter (fun q => !((s.sv p).staged.any (fun e => e.sq == q)))
  let done := (s.sv p).done ++ (set.take (s.sv p).skip).filter (fun q => !(s.sv p).done.contains q)
  s.mdSv p (fun v => { v with
    unconf := true, set, c1 := [], c2 := set.filter (fun q => !done.contains q), cSq := 0, pst := 3, done, skip := 0
    moved := if v.skip = 0 then v.moved else done.length })

/-! ### The move (R133 to R135) -/

/-- No class 1 square is left to read on any port. -/
def class1Read (s : State) : Bool := (List.range 64).all (fun p => (s.sv p).c1.isEmpty && !((s.sv p).reads.any (fun r => r.cls == 1)))

/-- No unit of a class 1 square is still to be programmed, its stripe's parity included. -/
def class1Done (s : State) : Bool := (List.range 64).all (fun p => !((s.sv p).pendSq.any (fun q => q.2 == 1)))

/-- Class 2 may move: every class 1 square of every port is programmed with its stripe's parity, those a late FROZEN adds included (R63, R128,
R133). -/
def class2On (s : State) : Bool := s.save.c1Done && !s.save.c2Off && !s.save.c1Off && !s.save.emerg && s.class1Read && s.class1Done

/-- The tray in use in units of 64 KiB (R134, R135): the READs in flight, the units of every save or log stripe not wholly done, and the
catalog units not yet programmed. -/
def trayUnits (s : State) : Nat :=
  sumN 64 (fun p => (s.sv p).reads.length) + s.vault.stripes.foldl (fun a t => a + t.tags.length) 0
    + s.vault.cats.foldl (fun a c => a + c.left) 0

/-- A port has a square to read now, and which; only from the adapter the image is of (R138). -/
def nextSquare (s : State) (p : Nat) : Option (Nat × Nat) :=
  let v := s.sv p
  if !v.img || v.ended || v.pst < 2 || 3 < v.pst || !s.linkUp p || (s.lk p).id ≠ v.adapter || 4 ≤ v.reads.length then none
  else match v.c1 with
  | q :: _ => if s.save.c1Off || s.save.emerg then none else some (q, 1)
  | [] => match v.c2 with
    | q :: _ => if s.class2On then some (q, 2) else none
    | [] => none

/-- The next port in round-robin order with a square to read; one with a class 1 square comes before every other (R63, R128, R133). -/
def nextPort (s : State) : Option Nat :=
  let ps := (List.range 64).map (fun i => (s.save.rr + i) % 64)
  match ps.find? (fun p => match s.nextSquare p with | some q => q.2 == 1 | none => false) with
  | some p => some p
  | none => ps.find? (fun p => (s.nextSquare p).isSome)

/-- Issue one READ, COPY = 0. -/
def readSquare (p : Nat) (s : State) : State :=
  match s.nextSquare p with
  | none => s
  | some (q, c) =>
    let tag := s.stage.tagNo
    let s1 := { s with stage := { s.stage with tagNo := (tag + 1) % 2 ^ 32 } }
    ((s1.mdSv p (fun v => { v with
      c1 := if c = 1 then v.c1.drop 1 else v.c1, c2 := if c = 2 then v.c2.drop 1 else v.c2, reads := v.reads ++ [{ sq := q, tag, cls := c }] })).mdSave
      (fun v => { v with rr := (p + 1) % 64 })).send p (.read q 0 16 false tag)

/-- MOVE_READ: READs within the tray and outstanding-chunk limits (R133, R135): none while the space in use exceeds 28 MiB or the mover stands still. -/
def moveReads : Nat → State → State
  | 0, s => s
  | n + 1, s =>
    if !s.saving || s.save.w0.isNone || s.save.settle || 448 < s.trayUnits || !s.moverRuns then s
    else match s.nextPort with
    | none => s
    | some p => moveReads n (s.readSquare p)

/-- READs go on from the first chunk not received, once a port is UP again with the same adapter, and its move starts where it waited for
that (R116, R138). -/
def moveResume (p : Nat) (s : State) : State :=
  if !s.saving || (s.lk p).id ≠ (s.sv p).adapter then s
  else
    let s1 := s.mdSv p (fun v => { v with waitUp := false })
    (forL (s1.sv p).reads (fun r t =>
      let k := ((List.range 16).find? (fun i => !(r.chunks.any (fun c => c.1 == i)))).getD 0
      t.send p (.read r.sq k (16 - k) false r.tag)) s1).moveReads 449

/-- A DATA chunk of a move. An uncorrectable tray read has the chunk read again (R135); the sixteenth makes the unit (R134). -/
def moveData (p : Nat) (r : SqRead) (chunk gen : Nat) (data : Chunk) (trayErr : Bool) (s : State) : State :=
  if trayErr then
    (((s.mdSave (fun v => { v with reread := satAdd 0xFFFF v.reread 1 })).raiseTurn 134 0xFFFF)).send p (.read r.sq chunk 1 false r.tag)
  else
    let chunks := (r.chunks.filter (fun c => c.1 != chunk)) ++ [(chunk, data)]
    if chunks.length < 16 then
      s.mdSv p (fun v => { v with reads := v.reads.map (fun z => if z.tag == r.tag then { z with chunks, gen } else z) })
    else
      let body : NBody := .square ((List.range 16).map (fun i => ((chunks.find? (fun d => d.1 == i)).map (·.2)).getD [])) s.vault.mat
      let s1 := s.mdSv p (fun v => { v with reads := v.reads.filter (fun z => z.tag != r.tag), pendSq := v.pendSq ++ [(r.sq, r.cls)] })
      (s1.addUnit 0 r.cls false { kind := 1, port := p, sq := r.sq, gen } body).pump.moveReads 449

/-- Squares are left to read on no port. -/
def allRead (s : State) : Bool := (List.range 64).all (fun p => let v := s.sv p
  !v.img || v.ended || (v.reads.isEmpty && v.c1.isEmpty && (v.c2.isEmpty || s.save.c2Off)))

/-- CLASS1_STRIPE_FILL: no class 1 READ is outstanding: the stripe of the last class 1 unit is completed, of a late FROZEN's too (R128, R133,
R177). -/
def class1Fill (s : State) : State :=
  if s.saving && s.save.w0.isSome && !(s.imgPorts.any (fun p => (s.sv p).pst == 1)) && s.class1Read && (!s.save.c1Done || !s.class1Done) then
    (s.fillStripe 0 1 false).pump
  else s

/-! ### Index units (R192, R193) -/

/-- Write an index unit of the oldest pending entries. -/
def writeIndex (n : Nat) (s : State) : State :=
  let v := s.save
  let u : IdxUnit := { serial := v.serial, first := v.first, pring := v.iring, ploc := v.iloc, ents := v.ents.take n }
  (s.mdSave (fun v => { v with ents := v.ents.drop n, first := v.first + n, idxBusy := true, idxOut := some u })).addUnit 0 0 false { kind := 0x10 } (.index u)

/-- INDEX_FLUSH: 6,016 entries are pending. The next unit waits for the location of the one before it. -/
def indexFlush (s : State) : State :=
  if 6016 ≤ s.save.ents.length && !s.save.idxBusy && s.saving then (s.writeIndex 6016).pump else s

/-! ### Stripes that are done (R134) -/

/-- Squares of a stripe whose copy can be read: at most one unit of the stripe missing, or the unit itself there. -/
def stripeSafe (t : Stripe) (pos : Nat) : Bool :=
  t.locs.any (fun l => l.1 == pos) || (geomMode t.geom != 2 && t.tags.length ≤ t.locs.length + 1)

/-- A save stripe ended: its squares are moved, its entries pending. An index unit programmed in either copy is the chain's new head; one that
fell on a lost sled has no location to be named by, so its entries wait for the next one again (R137, R193; log entry 164). -/
def saveStripeDone (t : Stripe) (s : State) : State :=
  let s1 := t.tags.foldl (fun (u : State) e =>
    if e.2.kind = 1 && e.2.port < 64 then
      let p := e.2.port
      match (u.sv p).pendSq.find? (fun q => q.1 == e.2.sq) with
      | none => u
      | some q => if stripeSafe t e.1 && q.2 ≠ 0 then
          u.mdSv p (fun v => { v with pendSq := v.pendSq.erase q, done := v.done ++ [q.1], moved := v.moved + 1, moved1 := v.moved1 + (decide (q.2 = 1)).toNat })
        else u.mdSv p (fun v => { v with pendSq := v.pendSq.erase q })
    else u) s
  let s2 := s1.mdSave (fun v => { v with ents := v.ents ++ stripeEnts t })
  let ix := t.tags.filter (fun e => e.2.kind == 0x10)
  if ix.isEmpty then s2
  else match ix.findSome? (fun e => (t.locs.find? (fun l => l.1 == e.1)).map (·.2)) with
    | some l => s2.mdSave (fun v => { v with iring := l.1, iloc := l.2, icount := v.icount + 1, idxBusy := false, idxOut := none })
    | none =>
      let back := t.data.findSome? (fun d => match d.2 with | .index u => some u | _ => none)
      match back with
      | some u => s2.mdSave (fun v => { v with ents := u.ents ++ v.ents, first := u.first, idxBusy := false, idxOut := none })
      | none => s2.mdSave (fun v => { v with idxBusy := false, idxOut := none })

/-- The oldest save stripe that is done, in stripe order. -/
def popSaveStripe (s : State) : Option Stripe :=
  match s.vault.stripes.filter (fun t => t.area == 0 && !t.reloc) with
  | t :: _ => if t.closed && t.left == 0 then some t else none
  | [] => none

/-- A log stripe that is done. -/
def popLogStripe (s : State) : Option Stripe := s.vault.stripes.find? (fun t => t.area == 1 && !t.reloc && t.closed && t.left == 0)

/-- Take the finished stripes off. -/
def popStripes : Nat → State → State
  | 0, s => s
  | n + 1, s =>
    match s.popSaveStripe with
    | some t => popStripes n ((s.mdVault (fun v => { v with stripes := v.stripes.erase t })).saveStripeDone t)
    | none => match s.popLogStripe with
      | some t => popStripes n ((s.mdVault (fun v => { v with stripes := v.stripes.erase t })).logStripeDone t)
      | none => s

/-! ### End of the move, manifests and seals (R139, R144, R145) -/

/-- Every class 1 square of every port is programmed: class 1 ends. -/
def class1End (s : State) : State :=
  if s.saving && !s.save.c1Done && s.save.w0.isSome && !(s.imgPorts.any (fun p => (s.sv p).pst == 1)) && s.class1Read
      && s.class1Done then
    let s1 := s.mdSave (fun v => { v with c1Done := true, tC1 := s.sinceTrip, phase := if v.phase = 3 then 4 else v.phase })
    forN 64 (fun p t => if (t.sv p).pst = 2 then t.mdSv p (fun v => { v with pst := 3 }) else t) s1
  else s

/-- Nothing is left to read: the last stripe of the save is completed with filler (R177). -/
def lastFill (s : State) : State :=
  if s.saving && s.save.w0.isSome && s.allRead && !(s.imgPorts.any (fun p => (s.sv p).pst == 1)) then (s.fillStripe 0 2 false).pump else s

/-- A port's move has ended and every unit of its image is done. -/
def moveOver (s : State) (p : Nat) : Bool :=
  let v := s.sv p
  v.img && (v.pst == 2 || v.pst == 3) && v.reads.isEmpty && v.pendSq.isEmpty
    && (v.ended || (v.c1.isEmpty && (v.c2.isEmpty || s.save.c2Off)))

/-- The manifest of a port (Table 05-8, R127, R194). -/
def manifestOf (s : State) (p : Nat) : Manifest :=
  let v := s.sv p
  let gen := match s.newestOf p with | some m => m.imgGen + 1 | none => 1
  let n := v.squares
  let stg := fun q => v.staged.any (fun e => e.sq == q)
  let map := match v.frozen with
    | some f => f.map
    | none => (List.range n).map (fun q => if stg q then 2 else 1)
  let sf := s.save
  { port := p, serial := sf.serial, imgGen := gen, adapter := v.adapter, geom := sf.geom, tTrip := sf.tTrip,
    flags := v.unconf.toNat + 2 * v.late.toNat + 4 * (v.incomplete || decide (v.moved < v.set.length)).toNat + 8 * (sf.test && !sf.promoted).toNat + 16 * sf.resumed.toNat
      + 32 * sf.retripped.toNat + 64 * sf.sledLost.toNat + 128 * (sf.deadlineMiss || sf.emerg).toNat,
    tFrz := match v.frozen with | some f => f.stamp | none => {}, squares := n, cSq := v.cSq, moved := v.moved, left := v.set.length - v.moved,
    logHwm := sf.hwm, iring := sf.iring, iloc := sf.iloc, icount := sf.icount,
    region := match v.frozen with | some f => f.region | none => [], map,
    tail := sf.ents.filter (fun e => !e.par && e.port == p) }

/-- PORT_MANIFEST_POST: the port's move has ended and its units are done; every confirm unit posted at the trip has completed
(R144, R232), and no index unit is in flight, so that chain and tail name every entry (R194). -/
def portManifest (p : Nat) (s : State) : State :=
  if s.saving && s.moveOver p && s.stage.posted.isEmpty && s.stage.pend.isEmpty && !s.save.idxBusy then
    let m := s.manifestOf p
    (s.mdSv p (fun v => { v with pst := 4, incomplete := v.incomplete || decide (v.moved < v.set.length) })).postCat (.manifest p) (fun _ => .manifest m)
  else s

/-- A seal record for one sled's copy of a manifest. -/
def sealFor (s : State) (m : Manifest) (l : Nat × Nat × Nat) : SealRec :=
  { what := 0, port := m.port, serial := m.serial, imgGen := m.imgGen, reloc := m.reloc, mring := l.2.1, mloc := l.2.2,
    mcrc := crc32c m.bytes, stamp := s.stamp, adapter := m.adapter }

/-- Post a catalog unit on given sleds only. -/
def postCatOn (k : CatKind) (xs : List Nat) (body : Nat → NBody) (s : State) : State :=
  let id := s.vault.nextCat
  let s1 := s.mdVault (fun v => { v with nextCat := id + 1, cats := v.cats ++ [{ id, kind := k, left := xs.length, ok := [], body := body (xs.headD 0) }] })
  (forL xs (fun x t =>
    let (q, t1) := t.takeSeq 2
    t1.queueUnit { sled := x, area := 2, opc := 2, cls := 0, unit := { tag := { catTag k (body x) with seq := q }, body := .one (body x) }, why := .cat id }) s1).pump

/-- The sleds of a catalog unit's copies that are catalog sleds still: a seal goes to them alone (R197). -/
def sealSleds (s : State) (ok : List (Nat × Nat × Nat)) : List Nat := (ok.map (·.1)).filter (fun x => s.catSleds.contains x)

/-- Post the seals of a manifest whose copies are done (R197). -/
def postSeal (k : CatKind) (m : Manifest) (ok : List (Nat × Nat × Nat)) (s : State) : State :=
  s.postCatOn k (s.sealSleds ok) (fun x => match ok.find? (fun l => l.1 == x) with
    | some l => .mark (s.sealFor m l) | none => .filler)

/-- The save manifest (R196), written before the save seal exists: T_END is 0 and STATUS shows the phase before the seal phase (DESIGN CHOICE, log
entry 194). -/
def saveManOf (s : State) : SaveMan :=
  let sf := s.save
  { serial := sf.serial, geom := sf.geom, status := s.saveStatus.toNat % 65536, tTrip := sf.tTrip, tEnd := sf.tEnd, trip := s.saveTripReg.toNat % 2 ^ 24,
    mask := slotSet (fun p => sf.mans.any (fun e => e.1 == p)),
    ents := (List.range 64).map (fun p => match sf.mans.find? (fun e => e.1 == p) with
      | some e => { e.2 with pstate := (s.sv p).pst } | none => { pstate := (s.sv p).pst }),
    iring := sf.iring, iloc := sf.iloc }

/-- Every port that gets an image is sealed or left without one. -/
def portsSealed (s : State) : Bool := s.imgPorts.all (fun p => 5 ≤ (s.sv p).pst && (s.sv p).pst ≤ 7)

/-- SAVE_MANIFEST_POST (R145). -/
def saveManifest (s : State) : State :=
  if s.saving && s.save.w0.isSome && s.portsSealed && s.save.phase < 5 && !s.save.fillOn && s.stage.posted.isEmpty then
    let m := s.saveManOf
    (s.mdSave (fun v => { v with phase := 5, tC1 := if v.c1Done then v.tC1 else s.sinceTrip })).postCat .saveMan (fun _ => .saveMan m)
  else s

/-- The save report, Table 13-9, from byte 48. -/
def reportBody (s : State) : List Byte :=
  let sf := s.save
  let v := s.stake.v
  leBytes 4 sf.serial ++ leBytes 2 s.saveStatus.toNat
    ++ leBytes 1 ((s.imgPorts.any (fun p => (s.sv p).unconf || (s.sv p).late)).toNat + 2 * (decide (2 ≤ sf.tkos)).toNat
        + 4 * (decide (2 ≤ sf.lostSleds)).toNat + 8 * sf.supply.toNat)
    ++ leBytes 1 sf.geom ++ leBytes 4 s.saveTripReg.toNat ++ sf.tTrip.bytes ++ leBytes 4 (sf.w0.getD 0) ++ leBytes 4 sf.tC1 ++ leBytes 4 sf.tEnd
    ++ leBytes 4 s.sqC1 ++ leBytes 4 s.sqC2 ++ leBytes 4 s.leftC1 ++ leBytes 4 s.leftC2 ++ leBytes 4 (sf.progFail + sf.reread * 65536)
    ++ leBytes 4 s.pcalReg.toNat ++ leBytes 4 v.bTotal ++ leBytes 4 v.sumU ++ leBytes 4 v.ePot ++ leBytes 4 v.eNeed ++ leBytes 2 v.bwV ++ zeros 2
    ++ leBytes 4 (if s.ledg.tko then s.ledg.peerRseq else 0) ++ zeros 88
    ++ (List.range 64).flatMap (fun p => let w := s.sv p
        leBytes 8 (w.pst + 16 * w.unconf.toNat + 32 * w.late.toNat + 64 * w.incomplete.toNat + 128 * (w.disPend || w.isoPend).toNat + w.cSq * 256 + w.moved * 2 ^ 25
          + (s.lk p).frzResp * 2 ^ 48))

/-- CALIBRATION_RESULT: enough samples and every device answered (R162). An abort that waits for its boundary has abandoned the measurement
(R156). -/
def calResult (s0 : State) : State :=
  let s := if s0.save.cal && s0.cmd.code = 0x20 && s0.cmd.abortPend then
      let t := s0.mdSave (fun v => { v with calBad := true })
      { t with cmd := { t.cmd with abortPend := false, aborted := true } }
    else s0
  if s.save.cal && !s.save.promoted && !s.save.calBad && 50 ≤ s.save.samples then
    let s1 := s.mdSave (fun v => { v with calOk := true })
    { s1 with stake := { s1.stake with
        calElig := slotSet (fun p => (s1.sv p).img), calSleds := s1.stake.v.sleds
        v := { s1.stake.v with pfixCal := ceilDiv s1.save.pMeas 1000000, calValid := true } } }
  else s

/-- SAVE_SEAL_WRITTEN (R145, R146, R414): the stamp, the report, STAKE unfrozen, shortfall ends, whose interval since t_trip has no record (R422), the
epoch closes early. -/
def saveSealed (fail : Bool) (s : State) : State :=
  let s1 := s.mdSave (fun v => { v with done := true, phase := 6, sealFail := fail, tEnd := s.sinceTrip, tDone := s.stamp })
  let s2 := s1.calResult
  let s3 := (s2.setEvt 6 1).count 0x21 0 s2.saveStatus.toNat
  let s4 := (s3.pushRec 3 0 s3.save.tDone s3.reportBody)
  let s5 := { s4 with stake := { s4.stake with v := { s4.stake.v with frozen := false, short := false }, okRun := 0 }, ledg := { s4.ledg with tko := false, pr1 := {} } }
  ((if s.save.cal then s5.pmbQuiet else s5).follow 72 0xFFFF false).epochAsk 1

/-- A port's image is sealed: a pending disable or isolation acts now (R155, R159). -/
def portSealed (p : Nat) (s : State) : State :=
  let v := s.sv p
  if v.disPend || v.isoPend then
    let s1 := (s.mdSv p (fun v => { v with disPend := false, isoPend := false })).mdLk p (fun l => { l with en := l.en && !v.disPend })
    let s2 := if v.isoPend then { s1 with flt := { s1.flt with iso := s1.flt.iso ||| BitVec.ofNat 64 (2 ^ p) } } else s1
    s2.toDown p false
  else s

/-- What follows a catalog unit whose copies have all ended, but for retire and relocation (R144, R145). The save manifest names the manifest
copy of the first sled that completed one (R196, log entry 160). -/
def saveCat (c : CatJob) (s : State) : State :=
  match c.kind, c.body with
  | .manifest p, .manifest m =>
    if c.ok.isEmpty then (s.mdSv p (fun v => { v with pst := 7 })).portSealed p
    else s.postSeal (.seal p) m c.ok
  | .seal p, .mark r =>
    if c.ok.isEmpty then (s.mdSv p (fun v => { v with pst := 7 })).portSealed p
    else
      ((s.mdSv p (fun v => { v with pst := if v.incomplete then 6 else 5 })).mdSave (fun v => { v with
        mans := v.mans ++ [(p, { imgGen := r.imgGen, mring := r.mring, mloc := r.mloc })] })).portSealed p
  | .saveMan, .saveMan m =>
    if c.ok.isEmpty then s.saveSealed true
    else s.postCatOn .saveSeal (s.sealSleds c.ok) (fun x => match c.ok.find? (fun l => l.1 == x) with
      | some l => .mark { what := 1, port := 0xFF, serial := m.serial, mring := l.2.1, mloc := l.2.2, mcrc := crc32c m.bytes, stamp := s.stamp }
      | none => .filler)
  | .saveSeal, _ => s.saveSealed c.ok.isEmpty
  | _, _ => s

/-- PHASE 7 once the save report is sealed or lost. -/
def reportWritten (s : State) : State :=
  if s.save.phase = 6 && !s.reportPending then s.mdSave (fun v => { v with phase := 7 }) else s

/-! ### Freeze window, waves, cut-offs -/

/-- FROZEN accepted on a port (R127, R128, R129, R152). -/
def frozenRx (p : Nat) (m : FrozenMsg) (s0 : State) : State :=
  let s := s0.arrive
  if s.top.state ≠ .save then s0.mdLk p (fun l => { l with serial := m.serial, frzSrc := m.source, frzStamp := m.stamp, region := m.region })
  else
    let first := !(s.lk p).frzRcvd
    let s1 := s.mdLk p (fun l => { l with
      frzRcvd := true, frzSrc := m.source, frzResp := if first then min 0xFF s.sinceTrip else l.frzResp, frzStamp := m.stamp, region := m.region, serial := m.serial })
    let v := s1.sv p
    if !v.img || v.frozen.isSome || !s1.saving || 4 ≤ v.pst || (s1.lk p).id ≠ v.adapter then s1
    else if v.unconf then
      let s2 := (s1.buildSet p m).mdSv p (fun w => { w with late := true })
      (if v.late then s2 else s2.portErr p 9).moveReads 449
    else
      let s2 := s1.buildSet p m
      if s2.imgPorts.all (fun q => (s2.sv q).frozen.isSome) && s2.save.w0.isNone then
        s2.mdSave (fun w => { w with w0 := some s2.sinceTrip, phase := 2 })
      else s2

/-- FREEZE_WINDOW_CLOSE: at t_trip + t_fw the ports without FROZEN are unconfirmed (R127, R129). -/
def windowClose (s : State) : State :=
  if !s.saving then s
  else
    let late := s.imgPorts.filter (fun p => (s.sv p).pst == 1)
    if late.isEmpty && s.save.w0.isSome then s
    else
      let s0 := { s with clk := { s.clk with l := max s.clk.l (s.save.tripL + s.stake.v.tFw * 1000) } }
      let s1 := forL late (fun p t => (t.buildUnconf p).portErr p 9) s0
      s1.mdSave (fun v => { v with w0 := match v.w0 with | some w => some w | none => some s.stake.v.tFw, phase := if v.phase = 1 then 2 else v.phase })

/-- A port's move is under way or about to start: it has its set, or in a resumed save still waits for the map that FROZEN_RPT asks for (R138, R151). -/
def moveOn (s : State) (p : Nat) : Bool :=
  let v := s.sv p
  v.img && !v.ended && (v.pst == 2 || v.pst == 3 || (v.pst == 1 && s.save.resumed))

/-- A port whose link is in neither UP nor RECOVER when its move would start waits 5 ms for it (R138). -/
def markWaits (s : State) : State :=
  forL s.imgPorts (fun p t => if !t.linkUp p && !(t.lk p).rcv && t.moveOn p then
    t.mdSv p (fun v => { v with waitUp := true, waitAt := t.clk.l }) else t) s

/-- WAVE_OPEN k: rings k, 8 + k, 16 + k and 24 + k admit programs from t_w0 + 20k us (R129, R130). -/
def waveOpen (k : Nat) (s : State) : State :=
  if !s.saving then s
  else match s.save.w0 with
  | none => s
  | some w =>
    if s.save.settle then s
    else
      let s0 := { s with clk := { s.clk with l := max s.clk.l (s.save.tripL + (w + 20 * k) * 1000) } }
      let s1 := forN 4 (fun x t => t.mdRing (8 * x + k) (fun g => { g with isOpen := t.ringsRun x && !g.failed && bitOf (t.sled x).chOk k && !(t.sled x).lostAt })) s0
      let s2 := if k = 0 then s1.markWaits else s1
      let s3 := if k = 7 then s2.mdSave (fun v => { v with phase := if v.phase = 2 then (if v.c1Done then 4 else 3) else v.phase }) else s2
      s3.pump.moveReads 449

/-- The move ends on a port with the squares already programmed; a port whose map has not come is taken as unconfirmed, without FRZ_LATE
(log entry 155). -/
def endMove (p : Nat) (s : State) : State :=
  (if (s.sv p).pst = 1 then s.buildUnconf p else s).mdSv p (fun v => { v with ended := true, c1 := [], c2 := [], reads := [] })

/-- The move ends on every port still in it. -/
def endMoves (s : State) : State := forL s.imgPorts (fun p t => if (t.sv p).pst ≤ 3 then t.endMove p else t) s

/-- Save-area units not yet on a ring are given up: the squares' only, or all. -/
def dropMoves (data : Bool) (s : State) : State :=
  let out := fun (j : UnitJob) => j.why == .stripe && j.area == 0 && (!data || j.unit.tag.kind == 1)
  forL (s.vault.ready.filter out) (fun j t => t.unitLost (some j.unit) j.why) (s.mdVault (fun v => { v with ready := v.ready.filter (fun j => !out j) }))

/-- The open save stripe is closed without further units. -/
def cutStripe (s : State) : State := s.mdVault (fun v => { v with stripes := v.stripes.map (fun t => if t.area == 0 && !t.reloc then { t with closed := true } else t) })

/-- CLASS1_CUTOFF (R139, R141). -/
def class1Cut (s : State) : State :=
  if !s.saving || s.save.c1Off || 5 ≤ s.save.phase then s
  else
    let miss := 0 < s.leftC1
    let s1 := (s.mdSave (fun v => { v with c1Off := true })).endMoves
    -- the last stripe is completed with filler (R177), whatever of its data was not posted any more
    let s2 := ((s1.dropMoves true).fillStripe 0 0 false).pump
    if miss then ((s2.mdSave (fun v => { v with deadlineMiss := true })).raise 73 0xFFFF none).setEvt 6 2 else s2

/-- CLASS2_CUTOFF and BUS_WARN_CROSS: class 2 moves stop (R140). Class 2 units whose squares are read already, waiting for a ring, are still posted
(DESIGN CHOICE, log entry 214). -/
def class2Cut (s : State) : State :=
  if !s.saving || s.save.c2Off then s
  else forN 64 (fun p t => t.mdSv p (fun v => { v with reads := v.reads.filter (fun r => r.cls == 1) })) (s.mdSave (fun v => { v with c2Off := true }))

/-- Emergency seal: the bus leaves its fault window in Save, in any phase (R142, Table 04-7). FILL units of a calibration save go on until
their end, which the manual leaves open (DESIGN CHOICE, log entry 195). -/
def emergSeal (s : State) : State :=
  if !s.saving || s.save.emerg then s
  else
    let s1 := (s.mdSave (fun v => { v with emerg := true, w0 := some (v.w0.getD s.sinceTrip) })).endMoves
    ((s1.cutStripe.dropMoves false).raise 73 0xFFFF none).setEvt 6 2

/-- No sled of the save's geometry is left: the move stops and every port still in it closes incomplete (R137). -/
def noSledLeft (s : State) : State :=
  if s.saving && s.holder && (geomSleds s.save.geom).all (fun x => (s.sled x).lostAt || (s.sled x).cls != 6) then
    (forL s.imgPorts (fun p t => if (t.sv p).pst ≤ 3 && !(t.sv p).ended then (t.endMove p).mdSv p (fun v => { v with incomplete := true }) else t) s).cutStripe.dropMoves false
  else s

/-- MOVE_LINK_TIMEOUT: 5 ms without UP: the port is sealed with what is programmed (R138). -/
def moveLinkTimeout (p : Nat) (s : State) : State :=
  if s.saving && s.moveOn p && !(s.linkUp p && (s.lk p).id == (s.sv p).adapter) then s.endMove p else s

/-! ### Calibration (R160 to R162) -/

/-- CAL_SAMPLE: the words that the listed devices answered to READ_VOUT and READ_IOUT, in the list's order, converted as R468 converts them; none for a
device that did not answer after its retries. The sum of their products is exact, and kept in uW rounded upward. -/
def calSample (rs : List (Option (Nat × Nat))) (s : State) : State :=
  if s.saving && s.save.cal && !s.save.promoted && s.save.w0.isSome && !s.save.settle && s.pmbRuns then
    let ds := s.fixDevs
    let s1 := s.calIssue.tick
    if rs.length < ds.length || (rs.take ds.length).any (fun r => r.isNone) then s1.mdSave (fun v => { v with calBad := true })
    else
      let sum := powerUw ((ds.zip rs).map (fun e => (rd s.im.pmb e.1, e.2.getD (0, 0)))) (Config.freeWord s.clk.free).toNat
      s1.mdSave (fun v => { v with pMeas := max v.pMeas sum.toNat, samples := satAdd 0xFFFF v.samples 1 })
  else s

/-- CAL_FILL_END at t_w0 + 250 ms. -/
def calFillEnd (s : State) : State := s.mdSave (fun v => { v with fillOn := false })

/-- FILL units are written while the to-move sets are exhausted (R161): one on each sled at a time, since the rule gives no rate. They end with the
measurement where it is abandoned; their blocks are erased by the format of a sled alone, so they end too where no erased slot is left (DESIGN CHOICE,
log entry 195). -/
def fillUnits (s : State) : State :=
  if s.saving && s.save.cal && s.save.fillOn && s.save.w0.isSome && s.allRead then
    (forL (geomSleds s.save.geom) (fun x t =>
      if (t.sled x).lostAt || t.vault.ready.any (fun j => j.why == .fill && j.sled == x) || (idxs 8 (fun c => (t.pendingDescs (8 * x + c)).any (fun e => e.2.why == .fill))) != [] then t
      else
        let (q, u) := t.takeSeq 0
        u.queueUnit { sled := x, area := 3, opc := 1, cls := 0, unit := { tag := { kind := 5, serial := s.save.serial, seq := q }, body := .one .filler }, why := .fill }) s).pump
  else s

end State
end Sys2Proof.Machine
end

