-- ==== Sys2Proof/Machine/Return.lean ====
section
/-! DEFINITION. Return: thaw and restore (07): the evaluation of every port, releases and retirement, restores, host actions. -/

namespace Sys2Proof.Machine

/-- What a port keeps of an earlier Return: ACT_REJ, until the host clears it (R6, R262), and the answers its adapter still owes. -/
def RetP.kept (r : RetP) : RetP := { actRej := r.actRej, asks := r.asks, chks := r.chks }

/-- A RELEASE of the current decision waits for its RELEASE_ACK. -/
def RetP.relOpen (r : RetP) : Bool := r.relSent && !r.relAcked && !r.released

namespace State

abbrev rt (s : State) (p : Nat) : RetP := rd s.ret.ports p
def mdRt (p : Nat) (f : RetP → RetP) (s : State) : State := { s with ret := { s.ret with ports := md s.ret.ports p f } }

/-- The states in which ports are decided and restored (R244, R263), on the token holder (R243). -/
def retStates (s : State) : Bool := s.inState [.ret, .ready] && s.holder

/-- The states in which adapters run and a RELEASE may go to them: in Save a trip has frozen them (R252, R265). -/
def relStates (s : State) : Bool := s.inState [.ret, .ready, .ride, .service] && s.holder

/-! ### Entry and what is asked (R244) -/

/-- REQ with IDENT and CHECK to a port in UP; the answers held are forgotten. -/
def askPort (p : Nat) (s : State) : State :=
  if s.linkUp p then
    (s.mdRt p (fun r => { r with ident := false, check := none, asks := r.asks + 1, chks := r.chks + 1 })).send p (.req true false true false)
  else s

/-- Return entry: every port is decided afresh. -/
def retEnter (s : State) : State :=
  let s1 := { s with
    ret := { s.ret with ports := tmap (fun (x : RetP) => { x.kept with decide := true, out := 2 }) s.ret.ports, elapsed := 0, enter := s.stamp, waited := false }
    fab := { s.fab with stagger := false } }
  forN 64 askPort s1

/-- Rise: the adapters may have lost power since they were released; every port is undecided again (R243, log entry 48). -/
def retReset (s : State) : State := { s with ret := { s.ret with ports := tmap RetP.kept s.ret.ports, waited := false, go := false } }

/-- Ready entered without a Return: no unretired image exists; ports in UP are asked and decided as if they had just reached UP. -/
def readyAsk (s : State) : State :=
  forN 64 (fun p t => if t.linkUp p && !(t.rt p).released && !(t.rt p).pend && (t.rt p).out = 0 then (t.mdRt p (fun r => { r with decide := true })).askPort p else t) s

/-- The port is decided again by Table 07-1; it is pending no more (R260, R262, R266). -/
def redecide (p : Nat) (s : State) : State :=
  (s.mdRt p (fun r => { r with
    decide := true, out := 2, pend := false, redo := false, downAt := none, ph := 0, todo := [], reading := none, outst := [], wrote := [], relSent := false, relAcked := false, relMsg := none,
    tries := 0, released := false, src := 0xFF, round := 0 })).askPort p

/-! ### Releases (R251, R252) -/

def sendRelease (p serial : Nat) (dirtyAll discard : Bool) (s : State) : State :=
  (s.mdRt p (fun r => { r with relSent := true, relAcked := false, tries := 0, relMsg := some (serial, dirtyAll, discard) })).send p
    (.release serial dirtyAll discard)

/-- The image a port's restore or thaw uses. -/
def portImage (s : State) (p : Nat) : Option Manifest := s.newestLive (if (s.rt p).src < 64 then (s.rt p).src else p)

/-- Ring and LOC of an image's manifest on a sled; "no location" where it has none there (Table 05-9, log entry 169). -/
def manifestAt (s : State) (x : Nat) (m : Manifest) : Nat × Nat :=
  match s.allUnits.find? (fun e => e.1 / 8 == x && (match e.2.2.body with | .one (.manifest k) => k == m | _ => false)) with
  | some e => (e.1, e.2.1)
  | none => (0, noLoc)

/-- Retire marks for a port's image and every older unretired image of it (R253). Answers how many. -/
def retireAll (p reason : Nat) (s : State) : State :=
  let l := s.images.filter (fun m => m.port == p && !s.retired m)
  forL l (fun m t => t.postCat (.retire p reason) (fun x =>
    let at_ := s.manifestAt x m
    .mark { what := 2, port := p, reason, serial := m.serial, imgGen := m.imgGen, reloc := m.reloc, mring := at_.1, mloc := at_.2,
            stamp := s.stamp, adapter := m.adapter })) s

/-- A port is released (R243). -/
def markReleased (p : Nat) (s : State) : State := s.mdRt p (fun r => { r with released := true, pend := false, relId := (s.lk p).id, ph := 0 })

/-- The retire marks of a restore (R253): under the port, or under the port the image came from, which is decided again once they are written
(Table 07-4). -/
def retireRestored (p src : Nat) (s : State) : State :=
  if src = p || 64 ≤ src then s.retireAll p 2
  else
    let n := (s.images.filter (fun m => m.port == src && !s.retired m)).length
    let s1 := (s.retireAll src 2).mdRt p (fun r => { r with src := 0xFF })
    if n = 0 then s1.redecide src else s1.mdRt src (fun r => { r with redo := true })

/-- The RELEASE of the current decision has done its work: the port is released and, after a thaw or a restore, its image retired. -/
def released (p : Nat) (s : State) : State :=
  let s1 := (s.mdRt p (fun r => { r with out := if r.out = 6 || r.out = 0xB then 7 else r.out })).markReleased p
  match (s1.rt p).out with
  | 4 => s1.retireAll p 1
  | 7 => s1.retireRestored p (s.rt p).src
  | _ => s1

/-- An accepted RELEASE_ACK (R253). -/
def releaseAckRx (p : Nat) (s : State) : State :=
  if (s.rt p).relOpen && s.relStates then (s.mdRt p (fun r => { r with relAcked := true })).released p else s

/-- RELEASE_TIMEOUT: the RELEASE again, at most 3 times, then RECOVER (R252); none goes to an adapter that a trip has frozen since. -/
def releaseTimeout (p : Nat) (s : State) : State :=
  let r := s.rt p
  if !r.relOpen || !s.relStates then s
  else match r.relMsg with
  | none => s
  | some m =>
    if r.tries < 3 then (s.mdRt p (fun r => { r with tries := r.tries + 1 })).send p (.release m.1 m.2.1 m.2.2)
    else s.toRecover p

/-! ### Decision (Table 07-1, R249, R250) -/

/-- Thaw test failures as FAIL bits (Table 07-2). -/
def thawFail (s : State) (p : Nat) (m : Manifest) : Nat :=
  let l := s.lk p
  let codes := ((s.rt p).check).getD []
  let f := fun (i : Nat) (ok : Bool) => if ok then 0 else 2 ^ i
  f 0 (l.id == m.adapter) + f 1 (l.squares == m.squares) + f 2 (l.serial == m.serial) + f 3 l.intact + f 4 l.srGood
    + f 5 (m.tFrz != {}) + f 6 ((List.range 64).all (fun r => codes.getD r 0 == m.region.getD r 0)) + f 7 (s.ctrlBit 7 0)

/-- Another port's unretired image names this adapter (R250). -/
def elsewhere (s : State) (p : Nat) : Option Nat :=
  (s.images.filter (fun m => m.port != p && m.adapter == (s.lk p).id && !s.retired m)).foldl (fun b m =>
    match b with | some q => some (min q m.port) | none => some m.port) none

/-- A port becomes pending (R261). -/
def makePending (p : Nat) (s : State) : State :=
  (s.mdRt p (fun r => { r with pend := true, out := if r.out = 1 then 8 else r.out, decide := false })).setEvt 7 1

/-- A decision that awaits the host in Ready, or in Return once RET_WAIT has run, is pending at once (R261, R263; DEDUCED, log entry 172). -/
def awaitHost (p : Nat) (s : State) : State :=
  if s.retStates && (s.top.state == .ready || s.ret.waited) then s.makePending p else s

/-- RETURN_DECISION of one port at a turn boundary (R244, R248). -/
def decidePort (p : Nat) (s : State) : State :=
  let r := s.rt p
  if !r.decide then s
  else
    let l := s.lk p
    let img := s.newestLive p
    let set := fun (o : Nat) (t : State) => t.mdRt p (fun r => { r with out := o, decide := false })
    let await := fun (o : Nat) (t : State) => (set o t).awaitHost p
    let s0 := s.mdRt p (fun r => { r with
      unconf := match img with | some m => bitOf m.flags 0 | none => false, incomplete := match img with | some m => bitOf m.flags 2 | none => false,
      test := match img with | some m => bitOf m.flags 3 | none => false, relSent := false, relAcked := false })
    if img.isNone && (!s.linkUp p || !l.en) then set 0 s0
    else if r.ident && (img.isNone || r.check.isSome) then
      let else_ := s.elsewhere p
      let s1 := s0.mdRt p (fun r => { r with elsePort := else_ })
      match img with
      | none =>
        if else_.isSome then await 9 s1
        else if l.cstate = 1 then (set 3 s1).markReleased p
        else (set 3 s1).sendRelease p l.serial true (!l.intact)
      | some m =>
        let fl := s.thawFail p m
        let s2 := s1.mdRt p (fun r => { r with fail := fl })
        if l.cstate = 1 then await 0xC s2
        else if l.id ≠ m.adapter then await 9 s2
        else if l.squares ≠ m.squares then await 0xA s2
        else if fl = 0 then (set 4 s2).sendRelease p m.serial true false
        else set 5 s2
    else match img with
    | none => s
    | some _ =>
      if r.ident then s
      else
        let s1 := s0.mdRt p (fun r => { r with out := 1 })
        if s.linkUp p then s1 else s1.awaitHost p

/-! ### Restore (R254 to R259) -/

/-- Restores in flight, and the concurrency in force. -/
def inflight (s : State) : Nat := (idxs 64 (fun p => (s.rt p).out == 6)).length

def concEff (s : State) : Nat := max 1 (min s.im.pol.conc (bitsOf (rd s.ctrl 7) 3 1))

/-- Queued ports in the order of the return list, then by number (R254). -/
def restoreQueue (s : State) : List Nat :=
  let q := idxs 64 (fun p => (s.rt p).out == 5 && !(s.rt p).pend)
  let listed := (tlist 64 s.im.pol.retList.toList).toList.filter (fun p => q.contains p)
  listed ++ q.filter (fun p => !listed.contains p)

/-- Step 1 of R256: REQ with CLEAR = 1, and nothing of an earlier round. -/
def restoreClear (p : Nat) (s : State) : State :=
  (s.mdRt p (fun r => { r with
    ph := 1, written := 0, lost := 0, todo := [], reading := none, outst := [], wrote := [], downAt := none })).send p (.req false false false true)

/-- The adapter an image may be restored to: the one its manifest names, or the one a reassign has bound it to (R262). -/
def boundTo (s : State) (p : Nat) : Option (BitVec 64) :=
  if (s.rt p).src < 64 then some (s.rt p).rid else (s.portImage p).map (·.adapter)

/-- RESTORE_START (R254 to R256): the next queued port, when a slot and the table's turn are there; one with another adapter than its image is
bound to is decided again (R262). -/
def restoreStart (s : State) : State :=
  if !s.retStates || s.concEff ≤ s.inflight || !(s.ret.go || s.top.state == .ready) then s
  else match (s.restoreQueue.filter s.linkUp).head? with
  | none => s
  | some p =>
    if s.boundTo p ≠ some (s.lk p).id then s.redecide p
    else (s.mdRt p (fun r => { r with out := 6, round := 0, rid := (s.lk p).id })).restoreClear p

/-- A read descriptor for one unit (Table 04-3, 0x10). -/
def readDesc (s : State) (r loc : Nat) (t : UTag) (w : Why) : Desc :=
  let rc := s.dieRecipe r (locDie loc)
  { opc := 0x10, tgt := locDie loc, planes := 2 ^ rc.planes - 1, flags := (decide (1 < rc.planes)).toNat,
    row := (Config.rowAddr (loc / 8 % 4) (locBlk loc + rc.blkFirst) (locRow loc)).toNat,
    tray := (Config.freeWord s.clk.free).toNat % 8192, stripe := t.stripe, port := t.port, pos := t.pos, sq := t.sq, gen := t.gen, seq := t.seq,
    stamp := s.stamp, dun := t.dun 0, loc, why := w }

/-- A ring's channel works: a unit on it can be read, at once or when the ring has space again. -/
def ringWorks (s : State) (r : Nat) : Bool := !(s.ring r).failed && (s.sled (r / 8)).up && bitOf (s.sled (r / 8)).chOk (r % 8)

/-- A ring takes a read: its channel works and it has space. -/
def ringReads (s : State) (r : Nat) : Bool := s.ringWorks r && s.room r

/-- A unit can be read once its ring has room. -/
def readWaits (s : State) (r loc : Nat) : Bool := loc ≠ noLoc && s.ringWorks r && !s.room r

/-- A square's content is here: WRITE its chunks, or count it lost (R256, R257). TAG, which no rule gives, is square * 16 + chunk (DESIGN
CHOICE, log entry 171). -/
def writeSquare (p sq : Nat) (x : Option (UTag × NBody)) (s : State) : State :=
  match x.bind (fun e => (s.plain e.2).map (fun c => (e.1, c))) with
  | none => s.mdRt p (fun r => { r with reading := none, lost := satAdd 0x7FFF r.lost 1 })
  | some (t, cs) =>
    let s1 := s.mdRt p (fun r => { r with reading := none, wrote := r.wrote ++ [(sq, t.gen)], outst := r.outst ++ (List.range 16).map (fun k => (sq, k)) })
    (List.range 16).foldl (fun (u : State) k => u.send p (.write sq k t.gen (sq * 16 + k) (cs.getD k []))) s1

/-- The restore's next step: read the next square's copy while at most 64 chunks are outstanding; when all is written, ask for
CHECK (R256 to R258). A square whose ring is full waits for room. The first argument bounds the squares skipped as lost in one step. -/
def restoreStep : Nat → Nat → State → State
  | 0, _, s => s
  | n + 1, p, s =>
    let r := s.rt p
    if r.ph ≠ 2 || r.reading.isSome || !s.retStates || !s.pair.drv || s.pair.hand ≠ 0 then s
    else match r.todo with
    | [] => if r.outst.isEmpty then (s.mdRt p (fun r => { r with ph := 3 })).send p (.req false false true false) else s
    | q :: qs =>
      if 48 < r.outst.length then s
      else
        let s1 := s.mdRt p (fun r => { r with todo := qs, reading := some (q, 0) })
        match (s.portImage p).bind (fun m => s.squareCopy m q) with
        | none => restoreStep n p (s1.writeSquare p q none)
        | some (g, loc, t) =>
          if s.readWaits g loc then s
          else if loc ≠ noLoc && s1.ringReads g then ((s1.postDesc g (s1.readDesc g loc t (.read 0 p q))).tick)
          else restoreStep n p (s1.writeSquare p q ((s1.readUnit g loc t true).map (fun e => (t, e.1))))

/-- A restore's read completed; `crc` codewords failed TCRC or PCRC, which makes them unreadable (R174). -/
def restoreRead (p sq : Nat) (d : Desc) (r crc : Nat) (s : State) : State :=
  if (s.rt p).ph ≠ 2 || (match (s.rt p).reading with | some q => q.1 != sq | none => true) then s
  else
    match (s.portImage p).bind (fun m => s.squareCopy m sq) with
    | none => (s.writeSquare p sq none).restoreStep 65536 p
    | some (_, _, t) =>
      let x := s.readUnit r d.loc t (d.status % 256 != 1 || crc != 0)
      ((s.writeSquare p sq (x.map (fun e => (t, e.1)))).restoreStep 65536 p)

/-- Where the function above names its fuel first. -/
def stepRestore (p : Nat) (s : State) : State := restoreStep 65536 p s

/-- The region codes expected of the squares written (R107, R258). -/
def wroteCode (w : List (Nat × Nat)) (r : Nat) : Word :=
  crc32c ((List.range 1024).map (fun j => match w.find? (fun e => e.1 == 1024 * r + j) with
    | some e => BitVec.ofNat 8 (1 + 4 * (e.2 % 16)) | none => 0))

/-- A restore ends with losses or a second difference (R258). -/
def restoreLoss (p : Nat) (s : State) : State := ((s.mdRt p (fun r => { r with out := 0xB, ph := 0 })).setEvt 7 2).awaitHost p

/-- An accepted CHECK (R244, R258); answers come in the order of their requests. -/
def checkRx (p serial : Nat) (codes : List Word) (s : State) : State :=
  let s1 := (s.mdLk p (fun l => { l with serial, region := codes })).mdRt p (fun r => { r with chks := r.chks - 1 })
  let r := s1.rt p
  if r.out = 6 && r.ph = 3 && (s.rt p).chks = 0 then
    if (List.range 64).all (fun k => codes.getD k 0 == wroteCode r.wrote k) then
      if r.lost = 0 then
        match s1.portImage p with
        | some m => (s1.mdRt p (fun r => { r with ph := 4 })).sendRelease p m.serial false false
        | none => s1
      else s1.restoreLoss p
    else if r.round = 0 then
      (s1.mdRt p (fun r => { r with round := 1 })).restoreClear p
    else s1.restoreLoss p
  else s1.mdRt p (fun r => { r with check := some codes })

/-- The port's adapter is the one its open RELEASE went to: that of the thaw's image, or the one the restore began with (R260, R262). -/
def rightAdapter (s : State) (p : Nat) : Bool :=
  let r := s.rt p
  if r.out = 4 then (match s.portImage p with | some m => m.adapter == (s.lk p).id | none => true)
  else if r.out = 6 || r.out = 7 || r.out = 0xB then r.rid == (s.lk p).id
  else true

/-- What Return makes of an accepted IDENT (R244, R252, R256). `up` is the IDENT that brought the port to UP, which answers no request of Return's.
Answers come in the order of their requests, and the one to CLEAR shows DRAM_INTACT = 0 (R246). A RELEASE that a former holder sent shows what
became of it here (R266). -/
def retIdent (p : Nat) (up : Bool) (s : State) : State :=
  let l := s.lk p
  let r := s.rt p
  let s1 := if up then s else s.mdRt p (fun r => { r with asks := r.asks - 1 })
  if r.relOpen && l.cstate = 1 && s.relStates && s.rightAdapter p then s1.released p
  else if r.relOpen && r.relMsg.isNone && s.retStates then s1.redecide p
  else if r.out = 6 && r.ph = 1 then
    if up || r.asks ≠ 0 || l.intact then s1
    else match s.portImage p with
    | some m => (s1.mdRt p (fun r => { r with ph := 2, todo := (List.range m.squares).filter (fun q => m.map.getD q 0 != 0) })).stepRestore p
    | none => s1
  else s1.mdRt p (fun r => { r with ident := true })

/-- A restoring port reaches UP. With its adapter the restore goes on, from its first step where the link had been DOWN, or its RELEASE goes again;
another adapter receives nothing, and the 10 ms run on (R260, R262). -/
def restoreLinkUp (p : Nat) (s : State) : State :=
  let r := s.rt p
  let ask := fun (t : State) => if t.retStates then t.askPort p else t
  if (s.lk p).id ≠ r.rid then ask (s.mdRt p (fun r => { r with relSent := false, relMsg := none }))
  else if r.relOpen then
    if (s.lk p).cstate = 1 then ask (s.released p)
    else match r.relMsg with
    | some m => (ask (s.mdRt p (fun r => { r with downAt := none }))).sendRelease p m.1 m.2.1 m.2.2
    | none => if s.retStates then s.redecide p else s
  else if r.downAt.isSome then (ask s).restoreClear p
  else ask s

/-- A port reaches UP in Return or Ready, with the IDENT that brought it there (R244, R252, R260): every one is asked. A restore goes on in Ride and
Service too. Decided again are a port of row 1, one whose link failed while it was
deciding, a queued one whose adapter is another one than its image is bound to, one whose restore was abandoned and whose adapter is back, and
(DEDUCED, log entry 173) one whose RELEASE was not acknowledged or whose released adapter is another one or is held again. -/
def retLinkUp (p : Nat) (s : State) : State :=
  let r := s.rt p
  let l := s.lk p
  if r.out = 6 && s.relStates then s.restoreLinkUp p
  else if !s.retStates then s
  else if r.relOpen then (if l.cstate = 1 && s.rightAdapter p then (s.released p).askPort p else s.redecide p)
  else if r.released then (if r.relId ≠ l.id || l.cstate ≠ 1 then s.redecide p else s.askPort p)
  else if r.out = 0xD then (if r.rid = l.id then s.redecide p else s.askPort p)
  else if r.out = 5 && s.boundTo p ≠ some l.id then s.redecide p
  else if r.out ≤ 2 then (s.mdRt p (fun r => { r with decide := true })).askPort p
  else s.askPort p

/-- A restore whose link was not back in time is abandoned, its image untouched and its RELEASE with it (R260). -/
def retAbandon (p : Nat) (s : State) : State :=
  if (s.rt p).out = 6 then
    (s.mdRt p (fun r => { r with out := 0xD, ph := 0, todo := [], reading := none, outst := [], downAt := none, relSent := false, relMsg := none })).awaitHost p
  else s

/-- A port goes DOWN: what it was asked is not answered any more, and the 10 ms of a restoring one run (R260). -/
def retLinkDown (p : Nat) (s : State) : State :=
  s.mdRt p (fun r => { r with
    ident := false, check := none, asks := 0, chks := 0, downAt := if r.out = 6 && r.downAt.isNone then some s.clk.l else r.downAt })

/-- At a turn boundary: the restores whose port has not been UP with its adapter for 10 ms are abandoned (R260). -/
def retOverdue (s : State) : State :=
  if !s.relStates then s
  else forN 64 (fun p t => match (t.rt p).downAt with
    | some a => if a + 10000000 ≤ t.clk.l && (t.rt p).out = 6 then t.retAbandon p else t
    | none => t) s

/-- An accepted WACK (R113, R256). -/
def wackRx (p h sq chunk tag status : Nat) (s : State) : State :=
  if !((s.rt p).outst.contains (sq, chunk)) || tag ≠ sq * 16 + chunk then s
  else
    let s1 := s.mdRt p (fun r =>
      let left := r.outst.erase (sq, chunk)
      { r with outst := left, written := if left.any (fun e => e.1 == sq) then r.written else r.written + 1 })
    (if status ≠ 0 then s1.protoErr p h else s1).stepRestore p

/-- WACK_TIMEOUT: no WACK 100 us after a WRITE is a protocol error (R256); the restore goes on without it, and CHECK shows what is missing
(R258). No message offends, and the SEQ of the ERROR, which no rule gives, is 0 (DESIGN CHOICE, log entry 193). -/
def wackTimeout (p sq chunk : Nat) (s : State) : State :=
  if (s.rt p).outst.contains (sq, chunk) && s.linkUp p then
    ((s.mdRt p (fun r => { r with outst := r.outst.erase (sq, chunk) })).protoErr p 0).stepRestore p
  else s

/-! ### Host actions and waiting (R261 to R263) -/

/-- OUT 0x1, 0x8 to 0xD: the outcomes that await something. -/
def awaits (o : Nat) : Bool := o == 1 || (8 ≤ o && o ≤ 0xD)

/-- RET_WAIT_EXPIRY (R261). -/
def retWaitExpiry (s : State) : State :=
  if s.top.state ≠ .ret || s.ret.waited then s
  else forN 64 (fun p t => let r := t.rt p
    if !r.released && !r.pend && (awaits r.out || (r.out == 5 && !t.ret.go)) then t.makePending p else t) { s with ret := { s.ret with waited := true } }

/-- An action is accepted, or ACT_REJ is set (R262). -/
def retAct (p : Nat) (ok : Bool) (f : State → State) (s : State) : State :=
  if s.retStates && ok then f s else s.mdRt p (fun r => { r with actRej := true })

/-- A discard's marks are done: RELEASE to an adapter in HELD or FROZEN, otherwise the port is released (R253, Table 07-4). -/
def discardStep (p : Nat) (s : State) : State :=
  if (s.rt p).marks ≠ 0 || !s.relStates then s
  else if s.linkUp p && (s.lk p).cstate ≠ 1 then s.sendRelease p (s.lk p).serial false true
  else s.markReleased p

/-- Action 1 (Table 07-4). -/
def retDiscard (p : Nat) (s : State) : State :=
  s.retAct p (awaits (s.rt p).out) (fun t =>
    let n := (t.images.filter (fun m => m.port == p && !t.retired m)).length
    ((t.mdRt p (fun r => { r with out := 0xE, marks := n, decide := false, pend := false })).retireAll p 3).discardStep p)

/-- Action 2. -/
def retReassign (p src : Nat) (s : State) : State :=
  let ok := (s.rt p).out == 9 && (match s.newestLive src with | some m => decide (m.squares ≤ (s.lk p).squares) | none => false)
  s.retAct p ok (fun t => t.mdRt p (fun r => { r with out := 5, src, rid := (t.lk p).id, pend := false, decide := false }))

/-- Action 3. -/
def retLeave (p : Nat) (s : State) : State := s.retAct p (awaits (s.rt p).out) (fun t => t.makePending p)

/-- Action 4: RELEASE as in R259. -/
def retAcceptLoss (p : Nat) (s : State) : State :=
  s.retAct p ((s.rt p).out == 0xB) (fun t =>
    match t.portImage p with
    | some m => (t.mdRt p (fun r => { r with out := 7, pend := false })).sendRelease p m.serial false false
    | none => t)

/-- Action 5. -/
def retAgain (p : Nat) (s : State) : State :=
  s.retAct p ((s.rt p).out == 0xB || (s.rt p).out == 0xD || (s.rt p).pend) (redecide p)

/-- RET_CONC_WRITE: RET.CTRL with CONC clipped to the image's value (R254). -/
def retConc (w : Word) (s : State) : State :=
  let c := bitsOf w 3 1
  let mx := s.im.pol.conc
  let c1 := min c mx
  let s1 := { s with ctrl := wr s.ctrl 7 (word [bf 0 (w.getLsbD 0), (1, 3, c1), bf 4 (w.getLsbD 4), bf 5 (w.getLsbD 5), bf 6 (w.getLsbD 6)]) }
  if mx < c then s1.setEvt 7 3 else s1

/-! ### Turn boundary and leaving (R264, R422) -/

/-- Every port is released, pending, or has OUT 0x0. -/
def retDone (s : State) : Bool := (List.range 64).all (fun p => let r := s.rt p; r.released || r.pend || r.out == 0)

/-- A port record, Table 13-10. -/
def portRecBody (ty serial : Nat) (start : Stamp) (turns : Nat) (a : Int) (port : Nat → Nat) : List Byte :=
  leBytes 1 ty ++ zeros 3 ++ leBytes 4 serial ++ start.bytes ++ leBytes 4 turns ++ leBytes 4 (ofInt 32 a) ++ zeros 48
    ++ (List.range 64).flatMap (fun p => leBytes 4 (port p))

/-- The type 2 record when Return is left. -/
def retRecord (s : State) : State :=
  s.pushRec 4 0 s.stamp (portRecBody 2 s.save.serial s.ret.enter s.ret.elapsed ((idxs 64 (fun p => (s.rt p).released)).length : Nat)
    (fun p => let r := s.rt p; r.out % 16 + 16 * r.pend.toNat + r.lost * 32))

/-- Return's part of a turn boundary: decisions, and the elapsed time. -/
def retTurn (s : State) : State :=
  if !s.retStates then s
  else
    let s1 := forN 64 decidePort s
    if s1.top.state = .ret then { s1 with ret := { s1.ret with elapsed := s1.ret.elapsed + 1 } } else s1

/-- Restores in flight stop at t_trip; their ports, and those whose RELEASE is not acknowledged, stay unreleased with their images
(Table 07-5). -/
def retStop (s : State) : State :=
  forN 64 (fun p t =>
    let t1 := if (t.rt p).relOpen then t.mdRt p (fun r => { r with relSent := false, relMsg := none }) else t
    if (t.rt p).out = 6 then t1.mdRt p (fun r => { r with ph := 0, todo := [], reading := none, outst := [], downAt := none }) else t1) s

/-- A retire mark's copies have ended: a discard's RELEASE may follow, or the new decision of a port whose image went to another one (Table 07-4); the
reserve may grow (R190, R253). -/
def retireCat (c : CatJob) (s : State) : State :=
  match c.kind with
  | .retire p reason =>
    let s1 := if reason = 3 && (s.rt p).out = 0xE && !c.ok.isEmpty then (s.mdRt p (fun r => { r with marks := r.marks - 1 })).discardStep p else s
    let more := s1.vault.cats.any (fun k => match k.kind with | .retire q _ => q == p && k.left != 0 | _ => false)
    let s2 := if (s1.rt p).redo && !more then s1.redecide p else s1
    s2.reserveUpdate.eraseAheadAll
  | _ => s

end State
end Sys2Proof.Machine
end

