-- ==== Sys2Proof/Machine/Jobs.lean ====
section
/-! DEFINITION. Vault jobs (05): verify, drain, rebuild, export, key erase, format; relocation and compaction (R198, R209, R235,
R236); what follows a completed descriptor. -/

namespace Sys2Proof.Machine
namespace State

/-! ### Reads of a job -/

/-- A read of this purpose is on some ring. -/
def readOut (s : State) (w : Nat) : Bool :=
  (List.range 32).any (fun r => (s.pendingDescs r).any (fun e => match e.2.why with | .read j _ _ => j == w | _ => false))

/-- Post the read of a unit where its ring takes reads; the flag says so. -/
def postRead (w : Nat) (u : LiveUnit) (s : State) : Bool × State :=
  if u.loc ≠ noLoc && s.ringReads u.ring then (true, (s.postDesc u.ring (s.readDesc u.ring u.loc u.tag (.read w u.tag.port u.tag.sq))).tick)
  else (false, s)

/-- The unit's content after a read of it, rebuilt where the read failed (R178). -/
def unitBody (s : State) (u : LiveUnit) (ok : Bool) : Option (NBody × Bool) :=
  s.readUnit u.ring u.loc u.tag (!ok || u.loc == noLoc || (s.sled (u.ring / 8)).cls != 6)

/-! ### Relocation (R209) -/

def mdReloc (f : Reloc → Reloc) (s : State) : State := s.mdVault (fun v => { v with reloc := f v.reloc })

/-- Entries wait for the next confirm unit. -/
def pendEnts (es : List ConfEnt) (s : State) : State := { s with stage := { s.stage with pend := s.stage.pend ++ es.map (fun c => (c, s.clk.turn)) } }

/-- What a relocation of every live stripe whose geometry satisfies `pred` must still write: data units but those that could not be read, images
with such units or index units of their own, confirm entries (R209, R210, R213). -/
def relocWork (pred : Nat → Bool) (s : State) : List LiveUnit × List Manifest × List ConfEnt :=
  let ims := s.liveImages
  let us := ((ims.flatMap s.imageUnits) ++ s.stagedUnits).eraseDups.filter (fun u => pred u.tag.geom && !s.vault.reloc.missed.contains u)
  let touched := ims.filter (fun m => us.any (fun u => u.tag.kind == 1 && u.tag.port == m.port && u.tag.serial == m.serial) || (s.chainGeoms m).any pred)
  (us, touched, s.liveEnts (fun t _ _ => pred t.geom) us)

/-- Plan it; a plan made again while the job runs adds to its figures. -/
def relocPlan (pred : Nat → Bool) (s : State) : State :=
  let w := s.relocWork pred
  let again := s.vault.reloc.on
  (((s.pendEnts w.2.2).mdReloc (fun r => { on := true, units := w.1, images := w.2.1, missed := r.missed, result := r.result }))).mdVault (fun v => { v with
    rprog := if again then v.rprog else 0, rtotal := (if again then v.rtotal else 0) + w.1.length })

/-- Relocation advances in Ready, Ride and Service, a materialisation in Ready and Service only (R236), and not while suspended. -/
def relocRuns (s : State) : Bool :=
  s.vault.reloc.on && !s.vault.rsusp && s.holder && s.inState (if s.vault.reloc.mat then [.ready, .service] else [.ready, .ride, .service])

/-- Units of one save share a stripe (its units carry one SERIAL). -/
def relocStripeFor (area serial : Nat) (s : State) : State :=
  match s.vault.stripes.find? (fun t => t.area == area && !t.closed && t.reloc) with
  | some t => if t.data.any (fun e => e.1.serial != serial) then s.fillStripe area 3 true else s
  | none => s

/-- A copy that a compaction or R236 rewrites stays on its sled (R235): the open stripe is brought to a data position on that sled, with filler before it. -/
def alignTo (x : Nat) : Nat → State → State
  | 0, s => s
  | n + 1, s =>
    let (t, s1) := s.openStripe 1 true
    if geomMode t.geom ≠ 0 || !(geomSleds t.geom).contains x || (geomSleds t.geom).getD (dataPos t.geom t.num t.data.length) 0 = x then s1
    else alignTo x n (s1.addUnit 1 3 true { kind := 5 } .filler)

/-- Write a unit again with a new sequence number (R209 step 2, R235 step 1); a materialisation writes log copies as save units. The class of
a unit rewritten, which no rule gives, is that of pre-staging (log entry 161). -/
def relocWrite (u : LiveUnit) (b : NBody) (s : State) : State :=
  let m := s.vault.reloc.images.head?
  let log := u.tag.kind == 3 && !s.vault.reloc.mat
  let area := if log then 1 else 0
  let tag : UTag := { u.tag with
    kind := if log then 3 else 1
    serial := if log then 0 else if u.tag.kind = 1 then u.tag.serial else (m.map (·.serial)).getD 0 }
  let s0 := s.relocStripeFor area tag.serial
  let s1 := if log && s.vault.rjob = 0 && u.loc ≠ noLoc then alignTo (u.ring / 8) 8 s0 else s0
  let q := (s1.takeSeq area).1
  (((s1.addUnit area 3 true tag b).mdReloc (fun r => { r with made := r.made ++ [{ log, seq := q, old := u }], reading := none })).mdVault
    (fun v => { v with rprog := v.rprog + 1 })).pump

/-- A unit of the relocation has been read, or could not be. -/
def relocTake (u : LiveUnit) (ok : Bool) (s : State) : State :=
  match s.unitBody u ok with
  | some (b, _) => s.relocWrite u b
  | none => (s.mdReloc (fun r => { r with reading := none, result := 2, missed := r.missed ++ [u] })).mdVault (fun v => { v with rprog := v.rprog + 1 })

/-- OSEQ of the entry for a copy rewritten: the old one while an unretired image reaches the unit, else the new LSEQ (R235). -/
def newOseq (s : State) (u : LiveUnit) (lseq : Nat) : Nat :=
  let used := s.liveImages.any (fun m => m.map.getD u.tag.sq 0 == 2 && m.port == u.tag.port
    && (match s.logCopy m.port u.tag.sq m.logHwm with | some e => e.2.2.copySeq == u.tag.copySeq | none => false))
  let known := s.confEnts ++ s.stage.pend.map (·.1) ++ s.stage.posted.flatMap (·.2.map (·.1))
  if used then (match known.find? (fun c => c.lseq == u.tag.copySeq && c.port == u.tag.port && c.sq == u.tag.sq) with
    | some c => c.oseq | none => u.tag.copySeq)
  else lseq

/-- One unit of a completed relocation stripe: its index entry, or its confirm entry and staged-map entry. -/
def relocMade (t : Stripe) (e : Nat × UTag) (s : State) : State :=
  match s.vault.reloc.made.find? (fun k => k.log == (t.area == 1) && k.seq == e.2.seq) with
  | none => s
  | some k =>
    let l := (t.locs.find? (fun l => l.1 == e.1)).getD (0, 0, noLoc)
    let s1 := s.mdReloc (fun r => { r with made := r.made.erase k })
    if k.log then
      let c : ConfEnt := { lseq := e.2.seq, oseq := s.newOseq k.old e.2.seq, sq := e.2.sq, port := e.2.port, gen := e.2.gen, reloc := true, turn := 0 }
      let s2 := { s1 with stage := { s1.stage with pend := s1.stage.pend ++ [(c, s1.clk.turn)] } }
      s2.mdPp e.2.port (fun q => { q with staged := q.staged.map (fun g => if g.lseq == k.old.tag.copySeq then { g with lseq := e.2.seq, ring := l.2.1, loc := l.2.2 } else g) })
    else
      let n : IdxEnt := { loc := l.2.2, ring := l.2.1, port := e.2.port, sq := e.2.sq, gen := e.2.gen }
      s1.mdReloc (fun r => { r with ents := r.ents ++ [{ serial := e.2.serial, old := k.old.tag.seq, ent := n }] })

/-- The location of a completed stripe's index unit, in either copy of a mirrored one. -/
def indexLoc (t : Stripe) : Option (Nat × Nat) :=
  (t.tags.filter (fun e => e.2.kind == 0x10)).findSome? (fun e => (t.locs.find? (fun l => l.1 == e.1)).map (·.2))

/-- Take a completed relocation stripe off: its log copies are durable like any other (R233), its confirm units done; an index unit in it gives the
chain its location. -/
def relocStripe (s : State) : State :=
  match s.vault.stripes.find? (fun t => t.reloc && t.closed && t.left == 0) with
  | none => s
  | some t =>
    let s0 := s.mdVault (fun v => { v with stripes := v.stripes.erase t })
    let sd := if t.area = 1 then (let u := s0.confUnitsDone t; if t.locs.length < t.tags.length then u else u.raiseHwm t) else s0
    let s1 := forL t.tags (fun e u => u.relocMade t e) sd
    if !(t.tags.any (fun e => e.2.kind == 0x10)) then s1
    else match indexLoc t with
      | some l => s1.mdReloc (fun r => { r with iring := l.1, iloc := l.2, icount := r.icount + 1, idxBusy := false })
      | none => s1.mdReloc (fun r => { r with idxBusy := false, result := 2 })

/-- The units rewritten for an image. -/
def freshEnts (s : State) (m : Manifest) : List REnt := s.vault.reloc.ents.filter (fun e => e.ent.port == m.port && e.serial == m.serial)

/-- The entries of an image's new chain or tail (R192, R209 step 3): a square rewritten has its new entry in place of its old ones. A
materialisation extends the old chain (R236). -/
def relocEnts (s : State) (m : Manifest) : List IdxEnt :=
  let fresh := (s.freshEnts m).map (·.ent)
  if s.vault.reloc.mat then m.tail ++ fresh
  else ((s.imageEnts m).filter (fun e => !e.par && e.port == m.port && !fresh.any (fun f => f.sq == e.sq))) ++ fresh

/-- The ordinal after the entries of an image's chain: where a chain that is extended goes on (R193). -/
def chainNext (s : State) (m : Manifest) : Nat := match (s.imageChain m).getLast? with | some e => e.2.2.first + e.2.2.ents.length | none => 0

/-- Rewrite the next image: its index chain, then its manifest with RELOC + 1. -/
def relocImage (s : State) : State :=
  let r := s.vault.reloc
  match r.image with
  | none => match r.images with
    | [] => s
    | m :: ms =>
      let ents := s.relocEnts m
      s.mdReloc (fun r => { r with
        images := ms, image := some m, left := ents, first := if r.mat then s.chainNext m else 0, iring := if r.mat then m.iring else 0
        iloc := if r.mat then m.iloc else noLoc, icount := if r.mat then m.icount else 0, idxBusy := false, sealing := false })
  | some m =>
    if r.sealing || r.idxBusy then s
    else if 6092 < r.left.length then
      let u : IdxUnit := { serial := m.serial, first := r.first, pring := r.iring, ploc := r.iloc, ents := r.left.take 6016 }
      ((((s.relocStripeFor 0 m.serial).mdReloc (fun r => { r with left := r.left.drop 6016, first := r.first + 6016, idxBusy := true })).addUnit 0 0 true
        { kind := 0x10, serial := m.serial } (.index u)).fillStripe 0 3 true).pump
    else
      let n : Manifest := { m with
        reloc := m.reloc + 1, geom := if r.mat then m.geom else s.vault.geom, iring := r.iring, iloc := r.iloc, icount := r.icount, tail := r.left
        map := if r.mat then m.map.mapIdx (fun q x => if x = 2 && r.ents.any (fun e => e.serial == m.serial && e.ent.port == m.port && e.ent.sq == q) then 3 else x) else m.map }
      (s.mdReloc (fun r => { r with sealing := true })).postCat .relocMan (fun _ => .manifest n)

/-- A relocation catalog unit's copies have ended (R197, R209). -/
def relocCat (c : CatJob) (s : State) : State :=
  match c.kind, c.body with
  | .relocMan, .manifest m => if c.ok.isEmpty then s.mdReloc (fun r => { r with image := none, result := 2 }) else s.postSeal .relocSeal m c.ok
  | .relocSeal, .mark z =>
    -- the image's old units are released once the new seal exists; those of the log are, once nothing rests on them
    let mine := fun (e : REnt) => e.ent.port == z.port && e.serial == z.serial
    let gone := (s.vault.reloc.ents.filter mine).map (fun e => (e.serial, e.old))
    let s1 := if s.vault.reloc.mat && !c.ok.isEmpty then { s with stage := { s.stage with mats := satAdd 0xFFFF s.stage.mats 1 } } else s
    (s1.mdReloc (fun r => { r with image := none, sealing := false })).mdVault (fun v => { v with
      dead := if c.ok.isEmpty || v.reloc.mat then v.dead else v.dead ++ gone })
  | _, _ => s

/-- The relocation has written everything. -/
def relocOver (s : State) : Bool :=
  let r := s.vault.reloc
  r.on && r.units.isEmpty && r.reading.isNone && r.images.isEmpty && r.image.isNone && !(s.vault.stripes.any (·.reloc))

/-- The stripes that the drain or rebuild in progress must move: those on the drained sled, or those not of the current geometry (R210, R213). -/
def rjobPred (s : State) (g : Nat) : Bool := if s.vault.rjob = 2 then (geomSleds g).contains s.vault.jobSled else g != s.vault.geom

/-- Log copies not yet confirmed or given up lie in stripes the drain must move: they become live later (R210 step 3). -/
def copiesOpen (s : State) : Bool :=
  (List.range 64).any (fun p => (s.pp p).copies.any (fun c => match c.ph with
    | 0 => false
    | 1 => s.vault.stripes.any (fun t => t.area == 1 && t.num == c.stripe && s.rjobPred t.geom)
    | _ => match s.logUnit c.lseq with | some u => s.rjobPred u.2.2.geom | none => false))

/-- What follows a relocation, once the confirm units with its entries have completed (R235 step 3): the compacted log blocks are erased; a drain or
rebuild looks for live stripes again, and when none is left and none can come the drain's slots go down (R210 step 4) or the rebuild ends (R213).
After a loss it waits for the boundary that sets the geometry anew (R177). -/
def relocEnd (s : State) : State :=
  let res := s.vault.reloc.result
  let w := s.relocWork s.rjobPred
  if s.stage.pend.any (fun e => e.1.reloc) then ((iter (ceilDiv s.stage.pend.length 4092) (writeConfirm true (·.reloc)) s).fillStripe 1 0 true).pump
  else if s.stage.posted.any (fun e => e.2.any (·.1.reloc)) then s
  else if s.vault.reloc.blks != [] then
    (s.mdVault (fun v => { v with eraseQ := v.eraseQ ++ v.reloc.blks })).mdReloc (fun _ => {})
  else if s.vault.rjob = 0 then s.mdReloc (fun _ => {})
  else if s.vault.geom ≠ s.newGeom || s.copiesOpen then s
  else if !w.1.isEmpty || !w.2.1.isEmpty || !w.2.2.isEmpty then s.relocPlan s.rjobPred
  else if s.vault.rjob = 3 then ((s.mdVault (fun v => { v with degraded := false, rebuildAdv := false })).rjobEnd 3 res)
  else (s.mdVault (fun v => { v with rpull := true, jobResult := res, reloc := {} })).beginDown (.sledDrain s.vault.jobSled) (s.sledSlots s.vault.jobSled)

/-- The tray has room for a relocation's next unit beside the copies, stripes and catalog units in it; its top 4 MiB stay free of it (R193, R209;
DESIGN CHOICE, log entry 197). -/
def relocRoom (s : State) : Bool :=
  sumN 64 (fun p => ((s.pp p).copies.filter (fun c => c.ph == 0)).length) + s.vault.stripes.foldl (fun a t => a + t.tags.length) 0
    + s.vault.cats.foldl (fun a c => a + c.left) 0 < 448

/-- One move of the relocation: the next unit is read, or the images are rewritten. -/
def relocStep (s : State) : State :=
  if !s.relocRuns then s
  else
    let s1 := match s.vault.reloc.reading with | some u => if s.readOut 2 then s else s.relocTake u false | none => s
    let s2 := s1.relocStripe
    if s2.vault.reloc.reading.isSome then s2
    else match s2.vault.reloc.units with
    | u :: us =>
      if !s2.relocRoom || s2.pair.hand ≠ 0 || s2.readWaits u.ring u.loc then s2
      else
        let (ok, s3) := (s2.mdReloc (fun r => { r with units := us, reading := some u })).postRead 2 u
        if ok then s3 else s3.relocTake u false
    | [] =>
      if s2.vault.stripes.any (fun t => t.reloc && !t.closed) then (((s2.fillStripe 0 3 true).fillStripe 1 3 true).pump).relocStripe
      else if s2.vault.stripes.any (·.reloc) then s2
      else if s2.relocOver then s2.relocEnd
      else s2.relocImage

/-! ### Compaction (R198, R235, R236) -/

/-- Free slots of an area on a ring. -/
def freeSlots (s : State) (r area : Nat) : Nat :=
  let (b0, b1) := (s.sledAreas (r / 8)).range area
  let inA := fun (l : Nat) => b0 ≤ locBlk l && locBlk l < b1
  let d := (s.sled (r / 8)).dev
  let bad := ((d.factory ++ d.grown).eraseDups.filter (fun b => b.ch == r % 8 && b0 ≤ b.blk && b.blk < b1)).foldl (fun a b => a + (s.dieRecipe r b.die).groups) 0
  (b1 - b0) * s.blockSlots r - bad - ((s.cells r).filter (fun c => inA c.1 && !s.badBlk r (locDie c.1) (locBlk c.1))).length

/-- Programmed blocks of an area on a ring in the cursor's order, with the die. -/
def blocksAhead (s : State) (r area : Nat) : List BlkRef :=
  let (b0, b1) := (s.sledAreas (r / 8)).range area
  let k := locBlk (s.cursor r area)
  let used := ((s.cells r).filterMap (fun c => if b0 ≤ locBlk c.1 && locBlk c.1 < b1 && !s.badBlk r (locDie c.1) (locBlk c.1)
    then some ({ ch := r, die := locDie c.1, blk := locBlk c.1 } : BlkRef) else none)).eraseDups
  used.filter (fun b => k < b.blk) ++ used.filter (fun b => b.blk ≤ k)

/-- An append area of a ring is near its end: less than two blocks of free slots (DESIGN CHOICE, log entry 11). -/
def areaLow (s : State) (r area : Nat) : Bool :=
  (s.sled (r / 8)).cls == 6 && (s.sled (r / 8)).mapDone && (s.ring r).isOpen && s.freeSlots r area < 2 * s.ringGroups r

/-- The log block the LOG cursor comes to next is compacted (R235): the live copies with a unit in it, a mirrored one's second too, are relocated
and its confirm units' live entries written again, then it is erased. -/
def logCompact (s : State) : State :=
  if s.vault.reloc.on || s.vault.rjob ≠ 0 || s.stage.scan || !s.holder || s.pair.hand ≠ 0 || !s.inState [.ready, .ride, .service] || s.vault.eraseQ != [] then s
  else match (List.range 32).find? (fun r => s.areaLow r 1) with
  | none => s
  | some r => match (s.blocksAhead r 1).head? with
    | none => s
    | some b =>
      let inB := fun (q l : Nat) => q == r && locDie l == b.die && locBlk l == b.blk
      let here := (s.allUnits.filter (fun e => inB e.1 e.2.1 && e.2.2.tag.kind == 3)).map (fun e => e.2.2.tag.copySeq)
      let us := s.liveLog.filter (fun u => here.contains u.tag.copySeq)
      let es := s.liveEnts (fun _ q l => inB q l) us
      if us.isEmpty && es.isEmpty then s.mdVault (fun v => { v with eraseQ := v.eraseQ ++ [b] })
      else (s.pendEnts es).mdReloc (fun _ => { on := true, units := us, blks := [b] })

/-- A block lies in a sled's log area. -/
def logBlock (s : State) (b : BlkRef) : Bool := let a := (s.sledAreas (b.ch / 8)).range 1; a.1 ≤ b.blk && b.blk < a.2

/-- Blocks waiting to be erased get their ERASE as their rings have room and their dies no other erase under way; a log block not while its sled's
scan runs (R234), and none during a handover (R346). -/
def eraseQStep (s : State) : State :=
  if s.top.state = .save || !s.holder || s.pair.hand ≠ 0 then s
  else forL s.vault.eraseQ (fun b t =>
    if (t.sled (b.ch / 8)).cls ≠ 6 || t.badBlk b.ch b.die b.blk || !(t.cells b.ch).any (fun c => locDie c.1 == b.die && locBlk c.1 == b.blk) then
      t.mdVault (fun v => { v with eraseQ := v.eraseQ.erase b })
    else if !t.room b.ch || (t.pendingDescs b.ch).any (fun e => e.2.opc == 0x20 && e.2.tgt == b.die) || (t.logBlock b && !(t.sled (b.ch / 8)).scanDone) then t
    else t.postDesc b.ch (t.eraseDesc b.ch b.die b.blk .erase)) s

/-- A catalog unit is still needed: of an unretired image, of a port's newest retired image, or one of the newest two save
manifests and their seals (R198). -/
def catNeeded (s : State) (u : FUnit) : Bool :=
  let img := fun (p se : Nat) => s.images.any (fun m => m.port == p && m.serial == se
    && (!s.retired m || !(s.images.any (fun k => k.port == p && s.retired k && m.imgGen < k.imgGen))))
  let newer := fun (se : Nat) => ((s.allUnits.filterMap (fun e => match e.2.2.body with | .one (.saveMan m) => some m.serial | _ => none)).eraseDups.filter (fun k => se < k)).length
  match u.body with
  | .one (.manifest m) => img m.port m.serial
  | .one (.mark r) => if r.what = 1 then newer r.serial < 2 else img r.port r.serial
  | .one (.saveMan m) => newer m.serial < 2
  | _ => false

/-- Copy a catalog unit forward on its ring, where it has a slot inside the windows (R150) and the ring room, and not during a handover (R346); the flag
says so. -/
def catCopy (r : Nat) (u : FUnit) (s : State) : Bool × State :=
  match s.grantLoc r 2 with
  | none => (false, s)
  | some l =>
    let (q, s1) := s.takeSeq 2
    let j : UnitJob := { sled := r / 8, area := 2, opc := 2, cls := 0, unit := { u with tag := { u.tag with seq := q } }, why := .catCopy }
    if !s.room r || s.pair.hand ≠ 0 || !s.inWindow r j l then (false, s)
    else
      let s2 := (s1.postDesc r (s1.progDesc r l j)).tick.mdDev (r / 8) (fun d => { d with cells := md d.cells (r % 8) (fun c => c ++ [(l, none)]) })
      (true, s2.setCursor r 2 (s2.locAfter r 2 l))

/-- The programmed units of a catalog block that are still needed, with their LOCs. -/
def catLive (s : State) (b : BlkRef) : List (Nat × FUnit) :=
  (s.cells b.ch).filterMap (fun c => if locDie c.1 = b.die && locBlk c.1 = b.blk then c.2.bind (fun u => if s.catNeeded u then some (c.1, u) else none) else none)

/-- The catalog units of a sled outside a block: ring, LOC, unit. -/
def catElse (s : State) (b : BlkRef) : List (Nat × Nat × FUnit) :=
  s.allUnits.filter (fun e => e.1 / 8 == b.ch / 8 && !(e.1 == b.ch && locDie e.2.1 == b.die && locBlk e.2.1 == b.blk) && 0x11 ≤ e.2.2.tag.kind)

/-- Where a needed unit's copy outside its block is: same content, and for a manifest or save manifest the latest. -/
def catTwin (s : State) (b : BlkRef) (u : FUnit) : Option (Nat × Nat × FUnit) :=
  ((s.catElse b).filter (fun e => e.2.2.body == u.body)).foldl (fun (k : Option (Nat × Nat × FUnit)) e => match k with
    | some y => if y.2.2.tag.seq < e.2.2.tag.seq then some e else k
    | none => some e) none

/-- Seals and marks that must be written again before a block goes: those needed in it, and the seals on the sled that name a manifest in it;
each with the manifest's new place, and only while no copy of it in that form exists elsewhere. -/
def catSeals (s : State) (b : BlkRef) : List FUnit :=
  let inB := fun (q l : Nat) => q == b.ch && locDie l == b.die && locBlk l == b.blk
  let place := fun (z : SealRec) => if z.what != 2 && inB z.mring z.mloc then
      (match (s.unitAt z.mring z.mloc).bind (s.catTwin b) with | some e => { z with mring := e.1, mloc := e.2.1 } | none => z)
    else z
  (s.allUnits.filterMap (fun e => match e.2.2.body with
    | .one (.mark z) =>
      if e.1 / 8 == b.ch / 8 && s.catNeeded e.2.2 && (inB e.1 e.2.1 || (z.what != 2 && inB z.mring z.mloc)) then
        some { e.2.2 with body := .one (.mark (place z)) } else none
    | _ => none)).filter (fun u => !(s.catElse b).any (fun e => e.2.2.body == u.body))

/-- The catalog block the CAT cursor comes to next is emptied (R198): needed units are copied forward on the same ring first. -/
def catForward (s : State) : State :=
  if !s.inState [.ready, .service] || !s.holder || s.vault.catErase != [] then s
  else match (List.range 32).find? (fun r => s.areaLow r 2) with
  | none => s
  | some r => match (s.blocksAhead r 2).head? with
    | none => s
    | some b =>
      let us := (s.catLive b).filter (fun e => match e.2.body with | .one (.mark _) => false | _ => (s.catTwin b e.2).isNone)
      forL us (fun e t => (t.catCopy r e.2).2) (s.mdVault (fun v => { v with catErase := [b] }))

/-- Once those copies have completed the seals are written with the manifests' new places, and once they have too the block is erased; where a
copy is still missing the block stays, and its turn comes again. -/
def catEraseStep (s : State) : State :=
  if !s.inState [.ready, .service] || !s.holder then s
  else forL s.vault.catErase (fun b t =>
    let x := b.ch / 8
    let busy := t.vault.ready.any (fun j => j.sled == x && j.why == .catCopy)
      || (List.range 8).any (fun c => (t.pendingDescs (8 * x + c)).any (fun e => e.2.why == .catCopy))
    if busy then t
    else if (t.catLive b).any (fun e => match e.2.body with | .one (.mark _) => false | _ => (t.catTwin b e.2).isNone) then
      t.mdVault (fun v => { v with catErase := v.catErase.erase b })
    else match t.catSeals b with
      | [] => t.mdVault (fun v => { v with catErase := v.catErase.erase b, eraseQ := v.eraseQ ++ [b] })
      | us =>
        let (all, u) := us.foldl (fun (a : Bool × State) e => let k := a.2.catCopy b.ch e; (a.1 && k.1, k.2)) (true, t)
        if all then u else u.mdVault (fun v => { v with catErase := v.catErase.erase b })) s

/-- How far the next LSEQ has run past one. -/
def seqRun (s : State) (q : Nat) : Nat := (s.stage.nextLseq + 2 ^ 31 - q) % 2 ^ 31

/-- MATERIALISE (R236): copies 2^29 behind are relocated; an image whose LOG_HWM is 2^29 behind is materialised. -/
def materialise (s : State) : State :=
  if s.vault.reloc.on || s.vault.rjob ≠ 0 || !s.holder then s
  else
    let old := s.stagedUnits.filter (fun u => 2 ^ 29 ≤ s.seqRun u.tag.copySeq)
    if old != [] && s.inState [.ready, .ride, .service] then s.mdReloc (fun _ => { on := true, units := old })
    else if !s.inState [.ready, .service] then s
    else match s.images.find? (fun m => !s.retired m && m.map.any (· == 2) && decide (2 ^ 29 ≤ s.seqRun m.logHwm)) with
      | none => s
      | some m => s.mdReloc (fun _ => { on := true, mat := true, units := (s.imageUnits m).filter (fun u => u.tag.kind == 3), images := [m] })

/-! ### Job arguments and acceptance (Table 05-10) -/

def jobArg (s : State) (i : Nat) : Word := rd s.vault.jobArg i
def argPort (s : State) : Nat := bitsOf (s.jobArg 0) 5 0
def argSled (s : State) : Nat := bitsOf (s.jobArg 0) 9 8
def argScope (s : State) : Nat := bitsOf (s.jobArg 0) 11 10
def argForce (s : State) : Bool := (s.jobArg 0).getLsbD 31

/-- Start job `j` where it is accepted; a rejected job changes nothing but JOB_STAT. The flag says whether it was accepted. -/
def jobStart (j : Nat) (ok : Bool) (f : State → State) (s : State) : Bool × State :=
  if ok && !(s.vault.rjob ≠ 0 && j ≠ 1 && j ≠ 4) then
    (true, f (s.mdVault (fun v => { v with job := j, run := if j = 2 || j = 3 then 0 else j, jobState := 1, jobResult := 0, prog := 0, total := 0 })))
  else (false, s.mdVault (fun v => { v with job := j, jobState := 6, jobResult := 0 }))

/-! ### Verify (R207) -/

/-- The units of stripes that cannot be read because their sleds are lost (R178): of the stripes of the units `us`, the positions with no readable
unit on a sled that is no member. What such a unit was is known from the stripe's parity unit. -/
def lostUnits (s : State) (us : List UTag) : List LiveUnit :=
  let all := s.allUnits.map (·.2.2)
  ((us.map (fun t => (t.serial, t.stripe, t.geom))).eraseDups).flatMap (fun k =>
    let mine := all.filter (fun u => u.tag.kind < 0x11 && u.tag.serial == k.1 && u.tag.stripe == k.2.1 && u.tag.geom == k.2.2)
    (List.range (geomUnits k.2.2)).filterMap (fun pos =>
      if mine.any (fun u => u.tag.pos == pos) || (s.sled ((geomSleds k.2.2).getD pos 0)).cls = 6 then none
      else
        let par := geomMode k.2.2 == 0 && pos == k.2.1 % geomUnits k.2.2
        let was : UTag := match mine.findSome? (fun u => match u.body with
            | .parity xs => ((List.range xs.length).find? (fun d => dataPos k.2.2 k.2.1 d == pos)).bind (fun d => (xs[d]?).map (·.1))
            | .one _ => if geomMode k.2.2 = 1 then some u.tag.twin else none) with
          | some t => t | none => { kind := if par then 2 else 0 }
        some { ring := 0, loc := noLoc, tag := { was with serial := k.1, stripe := k.2.1, geom := k.2.2, pos } }))

/-- Every unit of an image (R207): its squares' copies in every mirrored one, the parity of their stripes, its index chain, and its manifests and
seals; those on lost sleds too, and squares with no copy left anywhere. -/
def imageAll (s : State) (m : Manifest) : List LiveUnit :=
  let here := s.allUnits.filter (fun e => match e.2.2.body with
    | .parity xs => e.2.2.tag.serial == m.serial && xs.any (fun x => s.imageHas m x.1 x.2)
    | .one (.manifest k) => k == m
    | .one (.mark z) => z.what == 0 && z.port == m.port && z.serial == m.serial && z.imgGen == m.imgGen && z.reloc == m.reloc
    | .one b => (e.2.2.tag.kind == 0x10 || geomMode e.2.2.tag.geom == 1) && s.imageHas m e.2.2.tag b)
  let sq := s.imageUnits m
  let us := sq ++ here.map (fun e => ({ ring := e.1, loc := e.2.1, tag := e.2.2.tag } : LiveUnit))
  let lost := s.lostUnits ((us.map (·.tag)).filter (fun t => t.kind < 0x11 && t.kind != 3))
  us ++ lost.filter (fun u => u.tag.kind == 2 || u.tag.kind == 0x10
    || (geomMode u.tag.geom == 1 && !sq.any (fun v => v.loc == noLoc && v.tag.stripe == u.tag.stripe && v.tag.serial == u.tag.serial))) ++ s.goneUnits m

/-- The units of a verify's scope: an image's, every existing image's, or the log's programmed slots
and the units of its stripes on lost sleds. SCOPE 3, which Table 05-10 does not give, is taken as the log (DESIGN CHOICE, log entry 226). -/
def verifyScope (s : State) : List LiveUnit :=
  match s.argScope with
  | 0 => ((s.images.filter (fun m => m.port == s.argPort && m.serial == (s.jobArg 1).toNat)).flatMap s.imageAll).eraseDups
  | 1 => (s.images.flatMap s.imageAll).eraseDups
  | _ =>
    let us := s.allUnits.filterMap (fun e => if e.2.2.tag.serial = 0 && e.2.2.tag.kind < 0x10 then some ({ ring := e.1, loc := e.2.1, tag := e.2.2.tag } : LiveUnit) else none)
    us ++ s.lostUnits (us.map (·.tag))

/-- Count one unit of a verify: codewords that do not decode, those that decode and fail PCRC or TCRC, which R174 makes unreadable too, and the
largest correction. -/
def verifyUnit (u : LiveUnit) (bad crc corr : Nat) (s : State) : State :=
  let s1 := s.mdVault (fun v => { v with
    verUnc := satAdd 0xFFFFFFFF v.verUnc (min 16 (bad + crc)), verCrc := satAdd 0xFFFFFFFF v.verCrc crc, verMaxc := max v.verMaxc (min 255 corr), prog := v.prog + 1, reading := none })
  if bad = 0 && crc = 0 then s1
  else
    let s2 := (s1.mdVault (fun v => { v with rebuildAdv := true })).setEvt 12 2
    if s2.canRebuild u.tag then s2.mdVault (fun v => { v with verRec := satAdd 0xFFFFFFFF v.verRec 1 })
    else s2.mdVault (fun v => { v with jobResult := 2 })

/-- The verify's next unit: it waits while its ring has no room, and none is read during a handover (R346). The first argument bounds the units that cannot be read at all in one move. -/
def verifyStep : Nat → State → State
  | 0, s => s
  | n + 1, s =>
    if s.vault.run ≠ 1 || !s.pair.drv then s
    else match s.vault.reading with
    | some u => if s.readOut 1 then s else verifyStep n (s.verifyUnit u 16 0 0)
    | none => match s.vault.work with
      | [] => s.jobEnd 3 s.vault.jobResult
      | u :: us =>
        if s.pair.hand ≠ 0 || s.readWaits u.ring u.loc then s
        else
        let (ok, s1) := (s.mdVault (fun v => { v with work := us, reading := some u })).postRead 1 u
        if ok then s1 else verifyStep n (s1.verifyUnit u 16 0 0)

/-- VERIFY: from START on, COUNT units of the scope, at most 65,536: a larger COUNT acts as that (DESIGN CHOICE, log entry 227). -/
def startVerify (s : State) : Bool × State :=
  s.jobStart 1 (s.inState [.ready, .service] && s.holder) (fun t =>
    let us := (t.verifyScope.drop (t.jobArg 2).toNat).take (min 65536 (t.jobArg 3).toNat)
    verifyStep (us.length + 1) (t.mdVault (fun v => { v with work := us, total := us.length, verUnc := 0, verRec := 0, verCrc := 0, verMaxc := 0 })))

/-! ### Drain and rebuild (R208 to R213) -/

/-- DRAIN: a member sled, a short one included, with at least 2 healthy sleds (Table 05-10); it enters drain-pending at the next boundary (R68). -/
def startDrain (s : State) : Bool × State :=
  let x := s.argSled
  s.jobStart 2 (s.inState [.ready, .service] && s.holder && 2 ≤ s.healthyCount && s.sledSound x) (fun t =>
    t.mdVault (fun v => { v with rjob := 2, bg := false, rsusp := false, rpull := false, jobSled := x, drainAccepted := some x }))

/-- A drain accepted enters drain-pending at the turn boundary (R68). -/
def drainTurn (s : State) : State :=
  match s.vault.drainAccepted with
  | some x => ((s.mdSled x (fun d => { d with drainPend := true })).mdVault (fun v => { v with drainAccepted := none })).setEvt 12 0
  | none => s

/-- Relocate for the drain or rebuild in progress. -/
def rjobPlan (s : State) : State :=
  if s.vault.rjob = 3 || (s.vault.rjob = 2 && (s.sled s.vault.jobSled).switched) then s.relocPlan s.rjobPred else s

/-- DRAIN_SWITCH_OUT: the sum of K is within B_total: the sled leaves the save path, the epoch advances, and its stripes are relocated
(R69, R210). -/
def drainSwitch (s : State) : State :=
  let x := s.vault.jobSled
  if s.vault.rjob = 2 && (s.sled x).drainPend && !(s.sled x).switched && !s.vault.rsusp && s.inState [.ready, .ride, .service] && decide (s.stake.v.sumK ≤ s.stake.v.bTotal) then
    let s1 := (s.mdSled x (fun d => { d with switched := true })).setEvt 12 0
    let s2 := s1.advanceEpoch
    let s3 := s2.mdVault (fun v => { v with geom := s2.newGeom })
    ({ s3 with stake := { s3.stake with v := { s3.stake.v with drainWait := false } } }).rjobPlan.relocStep
  else s

/-- DRAIN_PULL_READY: the sled's slots are off: PULL_READY, SLED_RTR_N (R210 step 5). -/
def drainPull (s : State) : State :=
  let x := s.vault.jobSled
  if s.vault.rjob = 2 && s.vault.rpull && (idxs 64 (fun n => s.ofSled x n && (s.en n || !s.isOff n))).isEmpty then
    ((s.mdSled x (fun d => { d with pull := true, pwr := false, up := false })).rjobEnd 3 s.vault.jobResult)
  else s

def startRebuild (s : State) : Bool × State :=
  s.jobStart 3 (s.inState [.ready, .service] && s.holder && 2 ≤ s.healthyCount) (fun t =>
    ((t.mdVault (fun v => { v with rjob := 3, bg := false, rsusp := false, reloc := {} })).rjobPlan).relocStep)

/-- A suspended drain or rebuild resumes in the first turn of Ready, in the background (R208). -/
def rjobResume (s : State) : State :=
  if s.vault.rjob ≠ 0 && s.vault.rsusp && s.top.state = .ready && s.holder then
    ((s.mdVault (fun v => { v with rsusp := false, jobState := if v.job = v.rjob then 1 else v.jobState })).rjobPlan).relocStep
  else s

/-! ### Export (R215) -/

/-- The image an export names. -/
def exportImage (s : State) : Option Manifest :=
  s.images.find? (fun m => m.port == s.argPort && m.serial == (s.jobArg 1).toNat && m.imgGen % 65536 == bitsOf (s.jobArg 3) 31 16)

/-- A square's place in the window is filled. -/
def exportSquare (u : LiveUnit) (ok : Bool) (s : State) : State :=
  let x := s.unitBody u ok
  let cs := x.bind (fun b => s.plain b.1)
  s.mdVault (fun v => { v with
    reading := none, prog := v.prog + 1, jobResult := if x.isSome then v.jobResult else 2
    xlist := v.xlist ++ [(u.tag.sq, u.tag.gen, (match x with | some b => b.2 | none => false), cs.isNone)], xwin := v.xwin ++ [cs.getD []] })

/-- The export's next square; it waits as a verify does. -/
def exportStep : Nat → State → State
  | 0, s => s
  | n + 1, s =>
    if s.vault.run ≠ 4 || !s.pair.drv then s
    else match s.vault.reading with
    | some u => if s.readOut 3 then s else exportStep n (s.exportSquare u false)
    | none => match s.vault.work with
      | [] => s.jobEnd 3 s.vault.jobResult
      | u :: us =>
        if s.pair.hand ≠ 0 || s.readWaits u.ring u.loc then s
        else
        let (ok, s1) := (s.mdVault (fun v => { v with work := us, reading := some u })).postRead 3 u
        if ok then s1 else exportStep n (s1.exportSquare u false)

/-- EXPORT: at most 16 squares of the image from START; a larger COUNT acts as 16 (DESIGN CHOICE, log entry 227). A square of the image with no copy left is listed as such. -/
def startExport (s : State) : Bool × State :=
  s.jobStart 4 (s.inState [.ready, .service, .ret] && s.holder && s.exportImage.isSome) (fun t =>
    let us := match t.exportImage with
      | some m => (((List.range m.squares).filter (fun q => (t.jobArg 2).toNat ≤ q && m.map.getD q 0 != 0)).take (min 16 (bitsOf (t.jobArg 3) 15 0))).map (fun q =>
          match t.squareCopy m q with | some e => { ring := e.1, loc := e.2.1, tag := e.2.2 } | none => { ring := 0, loc := noLoc, tag := { sq := q, port := m.port, kind := 1, pos := 4 } })
      | none => []
    exportStep (us.length + 1) (t.mdVault (fun v => { v with work := us, total := us.length, xlist := [], xwin := [] })))

/-! ### Keys and formats (R203, R214, R216) -/

/-- The new key block of a key erase is written on every member sled (R216 step 3). -/
def eraseWrite (kb : KeyBlock) (s : State) : State := (s.mdVault (fun v => { v with keyNew := some kb, keyStep := 1 })).keysOut kb

/-- KEY_ERASE steps 1 to 3. For a standby that holds a complete frame its wrap set is got by the exchange of R349 first (keyStep 3). -/
def startErase (s : State) : Bool × State :=
  s.jobStart 5 (s.inState [.ready, .service] && s.holder && !(s.anyLive && !s.argForce)) (fun t =>
    let t1 := { t with stage := { t.stage with susp := true } }
    let t2 := forL (idxs 64 t1.eligible) (fun p u => (u.cancelCopies p).sendRevert p (u.clk.turn % 2 ^ 32) true) t1
    let n := t2.clk.free
    let k : KeyBlock := { vaultId := t2.vault.id, keyEpoch := t2.vault.keyEpoch + 1, nonce := (Config.random n ++ Config.random (n + 1)), mat := n + 2 }
    let kb := { k with sets := [ownSet k] }
    let t3 := t2.tick.tick.tick
    if t3.paired && t3.pair.peer && t3.pair.armed && t3.pair.complete && t3.pair.peerId.isSome then
      (t3.mdVault (fun v => { v with keyNew := some kb, keyStep := 3 })).kxBegin
    else t3.eraseWrite kb)

/-- The log blocks of the member sleds that hold anything and are not bad. -/
def logBlocks (s : State) : List BlkRef :=
  (idxs 32 (fun r => (s.sled (r / 8)).cls == 6)).flatMap (fun r =>
    let (b0, b1) := (s.sledAreas (r / 8)).range 1
    ((s.cells r).filterMap (fun c => if b0 ≤ locBlk c.1 && locBlk c.1 < b1 && !s.badBlk r (locDie c.1) (locBlk c.1)
      then some ({ ch := r, die := locDie c.1, blk := locBlk c.1 } : BlkRef) else none)).eraseDups)

/-- KEY_ERASE steps 3 to 6, as its exchange and its writes complete; the job ends with the old key blocks erased (Table 05-10). An exchange that fails
leaves the block with this controller's wrap set alone. -/
def eraseStep (s : State) : State :=
  if s.vault.run ≠ 5 then s
  else match s.vault.keyStep, s.vault.keyNew with
  | 3, some kb => if s.pair.kxSt ≠ 1 || !s.pair.armed then s.eraseWrite kb else s
  | 1, some kb =>
    if s.vault.sysLeft ≠ 0 then s
    else
      let s1 := s.mdVault (fun v => { v with keyEpoch := kb.keyEpoch, nonce := kb.nonce, mat := kb.mat, keysOk := true, keyStep := 2, keyNew := none })
      let s2 := forL s1.members (fun x t => t.mdDev x (fun d => { d with oldKeys := d.oldKeys + 4, keys := some kb, keyAt := 1 - d.keyAt })) s1
      let s3 := forN 64 (fun p t => t.retireAll p 4) s2
      -- an old copy on a channel that has failed cannot be erased any more
      let s4 := if s3.members.any (fun x => [0, 4].any (fun c => !bitOf (s3.sled x).chOk c || (s3.ring (8 * x + c)).failed)) then s3.mdVault (fun v => { v with jobResult := 1 }) else s3
      (forL s4.members (fun x t => t.sysWrite x 3 .filler) s4.sysGroup).pump
  | 2, _ =>
    if s.vault.sysLeft ≠ 0 then s
    else
      let s1 := if s.vault.jobResult = 0 then forL s.members (fun x t => t.mdDev x (fun d => { d with oldKeys := 0 })) s else s
      let s2 := forN 64 (fun p t => t.mdPp p (fun q => { q with staged := [], copies := [], confirms := [] })) s1
      let s3 := { s2 with stage := { s2.stage with pend := [], posted := [] } }
      ((s3.mdVault (fun v => { v with keyStep := 4, eraseQ := v.eraseQ ++ s3.logBlocks, stripes := v.stripes.filter (fun t => t.area != 1)
                                      ready := v.ready.filter (fun j => j.area != 1) })).jobEnd 3 s3.vault.jobResult).eraseQStep
  | _, _ => s

/-- After a key erase pre-staging restarts once the log is empty (R216 step 6); what a save left of it is erased after the save. -/
def logEmptied (s : State) : State :=
  if s.vault.keyStep ≠ 4 || s.top.state = .save || !s.holder || s.vault.eraseQ != [] then s
  else match s.logBlocks with
  | [] => ({ s with stage := { s.stage with susp := false } }).mdVault (fun v => { v with keyStep := 0 })
  | bs => s.mdVault (fun v => { v with eraseQ := bs })

/-- The key block of a key exchange is committed once every copy has completed (R349 step 5, R216 step 4). -/
def kxPoll (s : State) : State :=
  match s.pair.kxBlock with
  | none => s
  | some kb =>
    if s.vault.sysLeft ≠ 0 then s
    else
      let s1 := forL s.members (fun x t => t.mdDev x (fun d => { d with keys := some kb, keyAt := 1 - d.keyAt })) s
      { s1 with pair := { s1.pair with kxBlock := none, kxSt := 2, kxApprove := false } }

/-- The blocks of a ring that a format erases: every block of each die's recipe range (R214), by ordinal over targets, LUNs and blocks. -/
def fmtSpan (s : State) (r : Nat) : Nat := (s.ringRecipes r).foldl (fun a c => max a c.blocks) 0
def fmtBlocks (s : State) (r : Nat) : Nat := s.targets r * s.ringLuns r * s.fmtSpan r
def fmtBlk (s : State) (r k : Nat) : Nat × Nat :=
  let nt := s.targets r
  let nl := s.ringLuns r
  (k % nt + k / nt % nl * 8, k / (nt * nl))

/-- A die matches a recipe: one that does not is not used (R167). -/
def dieUsed (s : State) (r die : Nat) : Bool := (((s.dieIds r)[die % 8]?).bind s.matchRecipe).isSome

/-- The blocks of the used dies of a ring. -/
def fmtCount (s : State) (r : Nat) : Nat := ((idxs (s.targets r) (s.dieUsed r)).map (fun d => (s.dieRecipe r d).lunCount * (s.dieRecipe r d).blocks)).foldl (· + ·) 0

/-- The first ordinal from k on whose die has the block. -/
def fmtFrom (s : State) (r : Nat) : Nat → Nat → Nat
  | 0, k => k
  | n + 1, k =>
    let (d, b) := s.fmtBlk r k
    if k < s.fmtBlocks r && (!s.dieUsed r d || (s.dieRecipe r d).lunCount ≤ d / 8 || (s.dieRecipe r d).blocks ≤ b) then s.fmtFrom r n (k + 1) else k

/-- Post the next erase of a format on a ring; none during a handover (R346). -/
def fmtNext (r : Nat) (s : State) : State :=
  match s.vault.fmt.find? (fun e => e.1 == r) with
  | none => s
  | some e =>
    let k := s.fmtFrom r (s.targets r * s.ringLuns r) e.2
    if s.fmtBlocks r ≤ k then s.mdVault (fun v => { v with fmt := v.fmt.erase e })
    else if !s.room r || s.pair.hand ≠ 0 then s
    else
      let (d, b) := s.fmtBlk r k
      (s.mdVault (fun v => { v with fmt := v.fmt.map (fun y => if y.1 == r then (r, k + 1) else y) })).postDesc r (s.eraseDesc r d b .format)

/-- Units of one block index across a sled's working channels, and blocks every die of them has. -/
def rowUnits (s : State) (x : Nat) : Nat := sumN 8 (fun c => if bitOf (s.sled x).chOk c then s.blockSlots (8 * x + c) else 0)
def sledBlocks (s : State) (x : Nat) : Nat :=
  ((idxs 8 (fun c => bitOf (s.sled x).chOk c)).flatMap (fun c => (s.ringRecipes (8 * x + c)).map (·.blocks))).foldl min 0x80000

/-- Block offset after the first 8 good blocks of target 0, LUN 0 on channels 0 and 4 (Table 05-5). -/
def sysEnd (s : State) (x : Nat) : Nat :=
  let one := fun c => (((List.range (s.sledBlocks x)).filter (fun b => !s.badBlk (8 * x + c) 0 b)).take 8).getLastD 0 + 1
  max (one 0) (one 4)

/-- F_s in units, upward (R182): 256 GiB x k(MIN_SLEDS) + 1 GiB. -/
def footprint (s : State) : Nat := ceilDiv 4194304 (if 3 ≤ s.im.minSleds then s.im.minSleds - 1 else 1) + 16384

/-- Units that the bad blocks of working channels take from blocks b0 to b1 - 1. -/
def badUnits (s : State) (x b0 b1 : Nat) : Nat :=
  let d := (s.sled x).dev
  ((d.factory ++ d.grown).eraseDups.filter (fun b => bitOf (s.sled x).chOk b.ch && b0 ≤ b.blk && b.blk < b1)).foldl
    (fun a b => a + (s.dieRecipe (8 * x + b.ch) b.die).groups) 0

/-- Blocks from b0 upward, or downward from it, that hold `need` good units; the fuel bounds the bad blocks met. -/
def blocksUp (s : State) (x b0 need : Nat) : Nat → Nat → Nat
  | 0, n => n
  | k + 1, n => s.blocksUp x b0 need k (ceilDiv (need + s.badUnits x b0 (b0 + n)) (max 1 (s.rowUnits x)))
def blocksDown (s : State) (x b1 need : Nat) : Nat → Nat → Nat
  | 0, n => n
  | k + 1, n => s.blocksDown x b1 need k (ceilDiv (need + s.badUnits x (b1 - n) b1) (max 1 (s.rowUnits x)))

/-- The areas a format lays out (R182, R183), each of its minimum size in good units and the log with every block left over; none where the
minimum sizes do not fit. The catalog has at least one block (DESIGN CHOICE, log entry 201). -/
def layAreas (s : State) (x : Nat) : Option Areas :=
  let row := s.rowUnits x
  let fuel := (s.sled x).dev.factory.length + (s.sled x).dev.grown.length + 1
  let perCh := ((idxs 8 (fun c => bitOf (s.sled x).chOk c)).map (fun c => s.blockSlots (8 * x + c))).foldl max 1
  let stop := s.sledBlocks x
  if row = 0 then none
  else
    let cat := s.sysEnd x
    let save := cat + max 1 (2048 / perCh)
    let log := save + s.blocksUp x save (3 * s.footprint) fuel 0
    let scratch := stop - s.blocksDown x stop 32768 fuel 0
    if log ≤ scratch && 2 * s.footprint + s.badUnits x log scratch ≤ (scratch - log) * row then some { cat, save, log, scratch, stop } else none

/-- FORMAT: a foreign or stale sled, or a member, needs FORCE. Its blocks are erased one after another on every channel that still works, the used
dies' beside an unused one too (R214). -/
def startFormat (s : State) : Bool × State :=
  let x := s.argSled
  let c := (s.sled x).cls
  let noMember := s.members.isEmpty
  s.jobStart 6 ((s.inState [.ready, .service] || (s.top.state == .boot && noMember)) && s.holder && rd s.pins.sledPrs x && (s.sled x).up
      && (c == 3 || ((c == 4 || c == 5 || c == 6) && s.argForce))) (fun t =>
    match t.layAreas x with
    | none => t.jobEnd 4 3
    | some _ =>
      let member := c == 6
      let t0 := if member then t.sledQuiet x false else t
      let t1 := t0.mdSled x (fun d => { d with cls := 3, mapDone := false, scanDone := false, drainPend := false, switched := false, dev := { d.dev with desc := none, descOld := none, keys := none, oldKeys := 0, keyAt := 1 } })
      let t2 := (if member then t1.degrade.advanceEpoch else t1).scanEnd
      let rs := (idxs 8 (fun k => !(t2.ring (8 * x + k)).failed && decide (0 < t2.fmtCount (8 * x + k)))).map (fun k => 8 * x + k)
      let t3 := (t2.openRings x).mdVault (fun v => { v with jobSled := x, fmt := rs.map (fun r => (r, 0)), fmtEnd := false })
      (forL rs fmtNext (t3.mdVault (fun v => { v with total := rs.foldl (fun a r => a + t3.fmtCount r) 0 }))).setEvt 12 0)

/-- The sled of the running format. -/
def fmtSled (s : State) : Nat := s.vault.jobSled

/-- Every block is erased: the areas are laid out, and the vault's key block, the block table and a descriptor with the advanced MEMBER_EPOCH
are written; a vault without members is founded with a new identity, nonce and key material (R214). The sled is no member until they are
written. The first MEMBER_EPOCH of a vault founded so is 0, which the adoption of its first sled advances to 1 (DESIGN CHOICE, log entry 170). -/
def fmtWrite (x : Nat) (a : Areas) (s : State) : State :=
  let n := s.clk.free
  let s1 := ((((s.tick).tick).tick).tick).tick
  let s2 := if s.members.isEmpty then s1.mdVault (fun v => { v with
      founded := true, id := Config.random n, epoch := 0, keyEpoch := 1, nonce := (Config.random (n + 1) ++ Config.random (n + 2)), mat := n + 3, keysOk := true }) else s1
  let kb : KeyBlock := match (s.members.head?).bind (fun m => (s.sled m).dev.keys) with
    | some k => k
    | none =>
      let k : KeyBlock := { vaultId := s2.vault.id, keyEpoch := 1, nonce := s2.vault.nonce, mat := s2.vault.mat }
      { k with sets := [ownSet k] }
  let ser := Config.random (n + 4)
  let hs := (List.range 4).map (fun k => if k = x then crc32c (leBytes 8 ser.toNat) else s2.memberHash k)
  let ds : SledDesc := { slot := x, minSleds := s.im.minSleds, vaultId := s2.vault.id, serial := ser, epoch := s2.vault.epoch + 1, writeSeq := 1,
                         areas := a, members := hs, stamp := s.stamp }
  let s3 := ((s2.mdDev x (fun d => { d with desc := some ds, descOld := some ds, keys := some kb, erases := (s2.sled x).erases })).mdVault (fun v => { v with fmtEnd := true })).sysGroup
  let d := (s3.sled x).dev
  (((s3.sysWrite x 1 (.keyBlock kb)).sysWrite x 2 (.blockTable d.factory d.grown d.erases)).sysWrite x 0 (.sledDesc ds)).pump

/-- The writes have completed: the sled is adopted, MEMBER_EPOCH advances and the other members' descriptors follow; its own too, where the epoch has
moved on since it was written (R186). -/
def adopt (x : Nat) (s : State) : State :=
  let late := match (s.sled x).dev.desc with | some d => d.epoch != s.vault.epoch + 1 | none => false
  let others := s.members ++ (if late then [x] else [])
  let s1 := (s.mdSled x (fun d => { d with cls := 6, mapDone := true, scanDone := true, dev := { d.dev with keyAt := 0 } })).mdVault (fun v => { v with epoch := v.epoch + 1 })
  let s2 := forN 8 (fun c t => forN 3 (fun a u => u.setCursor (8 * x + c) a ((u.nextFree (8 * x + c) a 0).getD noLoc)) t) s1
  let cap := sumN 4 (fun a => s2.areaSlots x a false) / 16
  let s3 := (s2.mdSled x (fun d => { d with cap })).unraise (74 + x) 0xFFFF
  ((forL others (fun y t => t.rewriteDesc y) s3).pump.reserveUpdate).setEvt 12 0

/-- A format that does not reach its end leaves the sled blank (R208). -/
def fmtDrop (s : State) : State :=
  if s.vault.fmtEnd then s.mdDev s.fmtSled (fun d => { d with desc := none, descOld := none, keys := none }) else s

def formatStep (s : State) : State :=
  if s.vault.run ≠ 6 then s
  else if !(rd s.pins.sledPrs s.fmtSled) || (s.sled s.fmtSled).cls = 7 then s.fmtDrop.jobEnd 4 0
  else if s.vault.fmtEnd then (if s.vault.sysLeft = 0 then (s.adopt s.fmtSled).jobEnd 3 0 else s)
  else
    let s1 := forN 8 (fun c t => if (t.pendingDescs (8 * t.fmtSled + c)).any (fun e => e.2.why == .format) then t else t.fmtNext (8 * t.fmtSled + c)) s
    if s1.vault.fmt.isEmpty && !((List.range 8).any (fun c => (s1.pendingDescs (8 * s1.fmtSled + c)).any (fun e => e.2.why == .format))) then
      match s1.layAreas s1.fmtSled with
      | some a => s1.fmtWrite s1.fmtSled a
      | none => s1.jobEnd 4 3
    else s1

/-! ### Trip and abort -/

/-- A key erase that waits for its exchange is dropped, and the exchange with it: no wrap set of the dropped key is written (Table 04-6, R349). -/
def keyDrop (s : State) : State := if s.vault.keyStep = 3 then s.kxEnd 3 else s

/-- Vault jobs at t_trip (Table 04-6, R208). A format leaves its sled blank; a drain or rebuild is suspended, and JOB_STAT says so. Of a relocation's
confirm units those not programmed are given up, and their entries wait for the save's own (R232). -/
def jobsTrip (s : State) : State :=
  let s1 := if s.vault.run = 1 || s.vault.run = 4 then s.jobEnd 5 0 else if s.vault.run = 6 then s.fmtDrop.jobEnd 5 0 else s
  let s2 := if s1.vault.run = 5 then
      let t := ({ s1 with stage := { s1.stage with susp := false } }).keyDrop
      t.jobEnd 5 (if s1.vault.keyStep = 2 then s1.vault.jobResult else 0) else s1
  let s3 := if s2.vault.rjob ≠ 0 then
      let t := s2.mdVault (fun v => { v with rsusp := true, bg := true, job := v.rjob, jobState := 2 })
      if s2.vault.bg then t else t.cmdEnd 4 else s2
  let s4 := forL (s3.vault.stripes.filter (fun t => t.reloc && t.area == 1)) confUnitsDone s3
  s4.mdVault (fun v => { v with
    ready := v.ready.filter (fun j => !(j.why == .stripe && s4.relocUnit j.area j.unit.tag.stripe))
    reloc := {}, stripes := v.stripes.filter (fun t => !t.reloc), catErase := [], eraseQ := [] })

/-- The abort of a vault job acts (Table 15-6): verify and export end after the unit in progress, a drain or rebuild detaches, a key
erase before its commit and a format end, whose sled stays blank. Answers the STATE of TOP.CMD_STAT, or none where the abort has no effect. -/
def jobAbort (s : State) : Option Nat × State :=
  match s.cmd.code with
  | 0x11 => (some 6, s.mdVault (fun v => { v with job := 1, run := 0, jobState := 3, work := [], reading := none }))
  | 0x14 => (some 6, s.mdVault (fun v => { v with job := 4, run := 0, jobState := 3, work := [], reading := none }))
  | 0x12 => (some 7, s.mdVault (fun v => { v with bg := true }))
  | 0x13 => (some 7, s.mdVault (fun v => { v with bg := true }))
  | 0x15 => if s.vault.keyStep = 2 || s.vault.keyStep = 4 then (none, s)
            else (some 6, ({ s.keyDrop with stage := { s.stage with susp := false } }).mdVault (fun v => { v with job := 5, run := 0, jobState := 4, keyNew := none, keyStep := 0 }))
  | 0x16 => (some 6, (s.fmtDrop).mdVault (fun v => { v with job := 6, run := 0, jobState := 4, fmt := [], fmtEnd := false }))
  | _ => (none, s)

/-! ### After every change on the rings -/

/-- A catalog unit whose copies have all ended is taken off and what follows it is done; of the save-wide seal one copy programmed is
enough (R145). -/
def popCats (s : State) : State :=
  let finished := fun (c : CatJob) => c.left == 0 || (c.kind == .saveSeal && !c.ok.isEmpty)
  let done := s.vault.cats.filter finished
  forL done (fun c t => match c.kind with
    | .retire _ _ => t.retireCat c
    | .relocMan => t.relocCat c
    | .relocSeal => t.relocCat c
    | _ => t.saveCat c) (s.mdVault (fun v => { v with cats := v.cats.filter (fun c => !finished c) }))

/-- A restore whose read cannot complete any more rebuilds the square (R178, R257); one that waits for a ring goes on. -/
def restoreOrphans (s : State) : State :=
  forL (idxs 64 (fun p => (s.rt p).ph == 2)) (fun p t => match (t.rt p).reading with
    | none => if (t.rt p).todo.isEmpty then t else t.stepRestore p
    | some q =>
      if (List.range 32).any (fun r => (t.pendingDescs r).any (fun e => e.2.why == .read 0 p q.1)) then t
      else match (t.portImage p).bind (fun m => t.squareCopy m q.1) with
        | none => (t.writeSquare p q.1 none).stepRestore p
        | some (g, loc, u) => (t.writeSquare p q.1 ((t.readUnit g loc u true).map (fun e => (u, e.1)))).stepRestore p) s

/-- Confirm entries whose unit was given up in a save are written again at once: no port manifest waits for ever (R232). -/
def confirmAgain (s : State) : State :=
  if s.saving && s.stage.pend != [] then ((iter (ceilDiv s.stage.pend.length 4092) (writeConfirm false (fun _ => true)) s).fillStripe 1 0 false).pump else s

/-- What the vault, the mover and the jobs do once their conditions hold. -/
def vaultAfter (s : State) : State :=
  let s1 := popStripes 64 s
  let s2 := s1.popCats.noSledLeft
  let s3 := ((s2.class1End.lastFill).moveReads 449).fillUnits
  let s4 := s3.confirmAgain.relocStep.eraseStep.formatStep
  let s5 := (exportStep 17 (verifyStep 2 s4)).restoreOrphans
  s5.kxPoll.catEraseStep.logEmptied.eraseQStep.reportWritten.pump

/-- A read of a job has completed: codewords unreadable `bad`, codewords whose PCRC or TCRC failed `crc`. -/
def readDone (d : Desc) (r corr bad crc : Nat) (s : State) : State :=
  let res := d.status % 256
  match d.why with
  | .read 0 p q => s.restoreRead p q d r crc
  | .read 1 _ _ => match s.vault.reading with
    | some u => s.verifyUnit u (if res = 1 then 0 else max 1 (min 16 bad)) (min 16 crc) corr
    | none => s
  | .read 2 _ _ => match s.vault.reloc.reading with | some u => s.relocTake u (res == 1 && crc == 0) | none => s
  | .read _ _ _ => match s.vault.reading with | some u => s.exportSquare u (res == 1 && crc == 0) | none => s
  | .format => (s.mdVault (fun v => { v with prog := v.prog + 1 })).fmtNext r
  | _ => s

/-- DESCRIPTOR_COMPLETE (R136, Table 04-3). -/
def descComplete (r i res corr retries us bad crc : Nat) (s : State) : State :=
  match s.ringComplete r i res corr retries us with
  | (none, t) => t
  | (some d, t) =>
    let t1 := if d.opc = 0x20 && d.why != .format then t.reserveUpdate.eraseAhead (r / 8) else t
    (t1.readDone d r corr bad crc).vaultAfter

end State
end Sys2Proof.Machine
end

