-- ==== Sys2Proof/Machine/Stakes.lean ====
section
/-! DEFINITION. The save promise and stakes (02): the total, the water-fill, the commitment step, reports and overstake, shortfall,
the reserve trip, port records of types 1 and 3. -/

namespace Sys2Proof.Machine

/-- The sets of a water-fill step (R50). -/
structure Fill where
  share : List (Nat × Nat) := []
  act : List (Nat × Nat × Nat)   -- port, weight, cap
  rem : Nat
  deriving DecidableEq, Repr

/-- One round of the water-fill: ports whose cap lies within their part take their cap. -/
def Fill.round (f : Fill) : Fill :=
  let ws := f.act.foldl (fun a p => a + p.2.1) 0
  let full := f.act.filter (fun p => decide (p.2.2 * ws ≤ f.rem * p.2.1))
  { share := f.share ++ full.map (fun p => (p.1, p.2.2)), act := f.act.filter (fun p => !decide (p.2.2 * ws ≤ f.rem * p.2.1))
    rem := f.rem - full.foldl (fun a p => a + p.2.2) 0 }

/-- The water-fill of R50: `total` pips by weight under caps, over 64 ports. At most 64 rounds empty the active set or change nothing. -/
def waterFill (total : Nat) (w cap : Nat → Nat) : Tab Nat 64 :=
  let f := iter 64 Fill.round { act := (idxs 64 (fun p => decide (0 < w p) && decide (0 < cap p))).map (fun p => (p, w p, cap p)), rem := total }
  let ws := f.act.foldl (fun a p => a + p.2.1) 0
  tgen 64 (fun p => match f.share.find? (fun e => e.1 == p) with
    | some e => e.2
    | none => if f.act.any (fun e => e.1 == p) then f.rem * w p / ws else 0)

namespace State

def mdStake (f : StkVals → StkVals) (s : State) : State := { s with stake := { s.stake with v := f s.stake.v } }
def mdStk (p : Nat) (f : StkP → StkP) (s : State) : State := s.mdStake (fun v => { v with ports := md v.ports p f })
def mdStkQ (p : Nat) (f : StkQ → StkQ) (s : State) : State := { s with stake := { s.stake with q := md s.stake.q p f } }
abbrev stk (s : State) (p : Nat) : StkP := rd s.stake.v.ports p
abbrev stkQ (s : State) (p : Nat) : StkQ := rd s.stake.q p

/-! ### Inputs (R43, R44) -/

/-- The states in which stakes are computed (Table 01-4). -/
def stakeState (s : State) : Bool := s.inState [.ready, .ride, .service] && s.holder

/-- Nominal BW_v of Table 02-2. -/
def nominalBw (h : Nat) : Nat := match h with | 0 => 0 | 1 => 8000 | 2 => 8000 | 3 => 16000 | _ => 24000

/-- BW_v: nominal by the smallest derate and the smallest healthy-channel fraction among the healthy sleds. The derates of dies on a failed channel
do not count (DESIGN CHOICE, log entry 224). -/
def bwV (s : State) : Nat :=
  let hs := idxs 4 s.sledHealthy
  let der := (hs.flatMap (fun x => (idxs 8 (fun c => bitOf (s.sled x).chOk c)).flatMap (fun c => (s.ringRecipes (8 * x + c)).map (·.derate)))).foldl min 1000
  let ch := (hs.map (fun x => (idxs 8 (fun c => bitOf (s.sled x).chOk c)).length)).foldl min 8
  nominalBw hs.length * der * ch / 8000

/-- t_seal: 4 times the largest program time among the image's recipes. -/
def tSealOf (s : State) : Nat := 4 * (s.im.recipes.map (·.tProg)).foldl max 0

def tAvailOf (s : State) : Nat := s.stake.v.tD * 1000 - s.stake.v.tFw - 160 - s.stake.v.tSeal - 5000
def tFixed (s : State) : Nat := s.stake.v.tFw + 160 + s.stake.v.tSeal + 5000

/-- P_fix in force: the calibrated figure times 1.10, rounded upward, where selected and valid (R43, R45). -/
def pFix (s : State) : Nat := if s.stake.useCal && s.stake.v.calValid then ceilDiv (s.stake.v.pfixCal * 11) 10 else s.stake.v.pfixDef

/-! ### The total (R46, R47) -/

/-- num of R46, in J. -/
def numOf (s : State) (ePot : Nat) : Int :=
  divF (((ePot * 256 * 1000000 : Nat) : Int) - ((s.pFix * s.tFixed * s.stake.margin : Nat) : Int)) ((s.stake.margin * 1000000 : Nat) : Int)

/-- den of R46, in fJ per byte. -/
def denOf (s : State) (bw : Nat) : Nat := ceilDiv (s.pFix * 1000000000) bw + s.stake.v.eB * 1000

/-- B_e of R46. With den 0 no energy bounds the save and the rule states no result: a free value (log entry 1). -/
def bEOf (s : State) (bw ePot : Nat) : Nat :=
  let num := s.numOf ePot
  if num ≤ 0 ∨ bw = 0 then 0
  else if s.denOf bw = 0 then (Config.freeWord s.clk.free).toNat
  else num.toNat * 1000000000000000 / s.denOf bw / 2 ^ 20

/-- B_total before the total ceiling, from the two figures. -/
def guardOf (x : Nat) : Nat := max 64 (ceilDiv x 64)

/-- B_total of R46 for an E_pot, with the ceiling applied. -/
def bTotalOf (s : State) (bw ePot : Nat) : Nat :=
  let x := min (bw * s.stake.v.tAvail / 2 ^ 20) (s.bEOf bw ePot)
  let b := x - guardOf x
  if s.stake.ceilEn then min b s.stake.ceilTot else b

/-- The inputs follow their sources in every state but Save (R21). -/
def stakeInputs (s : State) : State :=
  let s1 := s.mdStake (fun v => { v with tSeal := s.tSealOf })
  let h := s1.healthyCount
  let bw := s1.bwV
  s1.mdStake (fun v => { v with tAvail := s1.tAvailOf, bwV := bw, sleds := h, unprot := h == 1, ePot := min 0xFFFFFFFF s1.nrg.ePot, turn := s1.clk.turn % 2 ^ 32 })

/-- The total step of R46. LIMIT reads 0 where B_bw and B_e are equal, the case R47 leaves open (DESIGN CHOICE, log entry 149). -/
def stakeTotal (s : State) : State :=
  let v := s.stake.v
  let bBw := v.bwV * v.tAvail / 2 ^ 20
  let bE := s.bEOf v.bwV v.ePot
  let x := min bBw bE
  let b := x - guardOf x
  (s.mdStake (fun v => { v with
    bBw, bE, guard_ := guardOf x, bTotal := s.bTotalOf v.bwV v.ePot, totalClip := s.stake.ceilEn && decide (b < s.stake.ceilTot), limit := decide (bE < bBw) })).tick

/-! ### Reports (R54, R56 to R60) -/

/-- U_p of the last turn: the report, or K_p where it is missing on a port that was eligible or becomes eligible now (R53); any other port
keeps the figure it shows (R54). -/
def uOf (s : State) (p : Nat) : Nat :=
  if (s.stkQ p).elig || s.eligible p then (match (s.stkQ p).rep with | some u => u | none => (s.stk p).k) else (match (s.stkQ p).rep with | some u => u | none => (s.stk p).u)

/-- Judge the report of the last turn (R57), count missing ones (R60), and take the latest U_p. Outside Ready, Ride and Service, where no stake is
computed, none is judged (DESIGN CHOICE, log entry 223). -/
def judgePort (p : Nat) (s : State) : State :=
  let q := s.stkQ p
  let k := (s.stk p).k
  let u := s.uOf p
  let judged := q.elig && q.due && s.stakeState
  let s1 := match judged, q.rep with
    | true, some r =>
      let o := r - k
      let s2 := (s.mdStk p (fun v => { v with ovr := decide (0 < o), ovrTurns := if 0 < o then satAdd 0xFFFF v.ovrTurns 1 else v.ovrTurns })).mdStkQ p (fun q => { q with
        overSeen := q.overSeen || decide (0 < o), ovrRun := if 0 < o then q.ovrRun + 1 else 0 })
      if 0 < o then s2.count 0x10 p o else s2.unraise (64 + p / 8) p
    | _, _ => s.mdStk p (fun v => { v with ovr := false })
  (s1.mdStk p (fun v => { v with u })).mdStkQ p (fun q => { q with uRep := q.rep.getD q.uRep, missRun := if q.due && q.rep.isNone then q.missRun + 1 else 0, rep := none, due := false })

/-- In Save the reports of the last turn are not judged and change no frozen figure, but missing ones count (R60, R61). -/
def missPort (p : Nat) (s : State) : State :=
  s.mdStkQ p (fun q => { q with missRun := if q.due && q.rep.isNone then q.missRun + 1 else 0, rep := none, due := false })

/-- A REPORT (R99, R100): U_p is the larger of U and the dirty squares in pips; a difference sets UMISMATCH. Only the report of the
running turn counts, and not where it arrives later than t_n + 900 us (`late`, R56). -/
def reportRx (p : Nat) (m : ReportMsg) (late : Bool) (s : State) : State :=
  let d := ceilDiv m.dirty 16
  let s1 := s.mdLk p (fun l => { l with cstate := m.cstate })
  let s2 := if m.u ≠ d then s1.portErr p 5 else s1
  if m.turn = s.clk.turn % 2 ^ 32 && !late then s2.mdStkQ p (fun q => { q with rep := some (max m.u d) }) else s2

/-- OVERSTAKE_RUN: 8 judged boundaries in a row with overstake (R58). -/
def overstakeRun (p : Nat) (s : State) : State :=
  if 8 ≤ (s.stkQ p).ovrRun && !s.subLive (64 + p / 8) p then s.raise (64 + p / 8) p none else s

/-- REPORTS_MISSING: 3 turns in a row without a report: MISS_SEEN, ERR.MISS, RECOVER (R60, Table 03-9). -/
def reportsMissing (p : Nat) (s : State) : State :=
  if 3 ≤ (s.stkQ p).missRun then
    (((s.mdStkQ p (fun q => { q with missSeen := true, missRun := 0 })).portErr p 8).toRecover p)
  else s

/-! ### Port records of types 1 and 3 (R422) -/

/-- The two figures of a port packed as Table 13-10 gives them. -/
def recPort (r : PortRecSt) (p : Nat) : Nat := min 0x1FFF (rd r.mx p) + min 0x7FFFF (rd r.n p) * 8192

/-- A new interval starts now. -/
def startRec (s : State) : PortRecSt := { run := true, start := s.stamp }

/-- Write the type 1 record of the running interval; `go` starts the next one. -/
def shortRec (go : Bool) (s : State) : State :=
  let r := s.ledg.pr1
  let s1 := if r.run then s.pushRec 4 0 s.stamp (portRecBody 1 0 r.start r.turns r.a (recPort r)) else s
  { s1 with ledg := { s1.ledg with pr1 := if go then s1.startRec else {} } }

/-- PORT_RECORD_HOURLY. -/
def shortHourly (s : State) : State := if s.ledg.pr1.run && decide (3600000 ≤ s.ledg.pr1.turns) then s.shortRec true else s

/-- UNCOVERED_RECORD: 10 s after the first uncovered occurrence. -/
def uncovRec (s : State) : State :=
  let r := s.ledg.pr3
  if r.run && decide (10000 ≤ r.turns) then
    let s1 := s.pushRec 4 0 s.stamp (portRecBody 3 0 r.start r.turns r.a (recPort r))
    { s1 with ledg := { s1.ledg with pr3 := {} } }
  else s

/-- An uncovered occurrence of a port (R54): ledger code 0x11, and the type 3 interval. -/
def uncovered (p u : Nat) (s : State) : State :=
  let s1 := s.count 0x11 p u
  let r := if s1.ledg.pr3.run then s1.ledg.pr3 else s1.startRec
  { s1 with ledg := { s1.ledg with pr3 := { r with a := r.a + 1, mx := md r.mx p (max u), n := md r.n p (· + 1) } } }

/-- The turns of the running intervals. -/
def recTurns (s : State) : State :=
  let v := s.stake.v
  let r1 := s.ledg.pr1
  let r3 := s.ledg.pr3
  let d := fun p => if (rd s.stake.q p).elig then (rd v.ports p).u - (rd v.ports p).cov else 0
  { s with ledg := { s.ledg with
      pr1 := if r1.run && v.short then { r1 with
        turns := r1.turns + 1, a := max r1.a ((v.sumU : Int) - v.bTotal), mx := tgen 64 (fun p => max (rd r1.mx p) (d p)), n := tgen 64 (fun p => rd r1.n p + (decide (0 < d p)).toNat) } else r1
      pr3 := if r3.run then { r3 with turns := r3.turns + 1 } else r3 } }

/-! ### Shortfall (R65 to R67) -/

/-- The sum of U_p over the eligible ports (R520). -/
def sumU (s : State) : Nat := sumN 64 (fun p => if (s.stkQ p).elig then (s.stk p).u else 0)

/-- Shortfall entry and the count of boundaries within B_total. -/
def shortStep (s : State) : State :=
  let v := s.stake.v
  if v.bTotal < v.sumU then
    let s1 := { s with stake := { s.stake with okRun := 0 } }
    if v.short then s1
    else
      let s2 := ({ s1 with stake := { s1.stake with shortSeen := true } }).mdStake (fun v => { v with short := true, shortCnt := satAdd 0xFFFF v.shortCnt 1 })
      let s3 := (s2.follow 72 0xFFFF true).count 0x12 0 (v.sumU - v.bTotal)
      { s3 with ledg := { s3.ledg with pr1 := s3.startRec } }
  else { s with stake := { s.stake with okRun := s.stake.okRun + 1 } }

/-- Shortfall ends and its record is written. -/
def endShort (s : State) : State :=
  if s.stake.v.short then ((s.shortRec false).mdStake (fun v => { v with short := false })).follow 72 0xFFFF false else s

/-- SHORTFALL_END: 10 boundaries in a row within B_total (R67). -/
def shortfallEnd (s : State) : State := if s.stake.v.short && decide (10 ≤ s.stake.okRun) && s.stakeState then s.endShort else s

/-! ### Division and commitment (R48 to R53) -/

def capOf (s : State) (p : Nat) : Nat := if (s.stkQ p).elig then min 4096 ((s.lk p).lP * s.stake.v.tAvail / 2 ^ 20) else 0

def weightOf (s : State) (p : Nat) : Nat := rd s.im.pol.w p

/-- Targets, ceilings and CLIP (R51, R52), with the BIND code of what bound the target. -/
def targetOf (s : State) (share : Tab Nat 64) (p : Nat) : Nat × Bool × Nat :=
  let q := s.stkQ p
  let cap := s.capOf p
  let lim := min (rd share p) cap
  let c := min 4096 q.ceil
  let raw := (s.lk p).lP * s.stake.v.tAvail / 2 ^ 20
  let b := if rd share p < cap then 0 else if 4096 ≤ raw then 1 else 2
  (if q.ceilEn then min lim c else lim, q.ceilEn && decide (lim < c), if q.ceilEn && decide (c < lim) then 3 else b)

/-- f of R53: the stake still in use. -/
def inUse (s : State) (p : Nat) : Nat := if (s.stkQ p).elig then max (s.stk p).s (min (s.stk p).k (s.stk p).u) else 0

/-- The commitment step of R53, and coverage (R66). -/
def stakeCommit (s : State) : State :=
  let v := s.stake.v
  let el := fun p => (s.stkQ p).elig
  let share := waterFill v.bTotal s.weightOf s.capOf
  let t := tgen 64 (fun p => s.targetOf share p)
  let tgt := fun p => if el p then (rd t p).1 else 0
  let f := s.inUse
  let h : Int := (v.bTotal : Int) - (sumN 64 f : Nat)
  let r := sumN 64 (fun p => tgt p - f p)
  let s0 := fun p => if tgt p ≤ f p ∨ (r : Int) ≤ h then tgt p else if h ≤ 0 then f p else f p + (tgt p - f p) * h.toNat / r
  let sp := fun p => if !el p then 0 else if v.short then min (s0 p) (s.stk p).u else s0 p
  let kp := fun p => if !el p then 0 else max (sp p) (f p)
  let cover := waterFill v.bTotal s.weightOf (fun p => if el p then min (s.stk p).u (kp p) else 0)
  let ports := tgen 64 (fun p =>
    let x := s.stk p
    { x with
      s := sp p, k := kp p, tgt := tgt p, clip := (rd t p).2.1
      cov := if !el p then 0 else if v.short then rd cover p else min x.u (kp p)
      draining := el p && decide (sp p < x.u) && !x.ovr
      bind := if !el p then 4 else if sp p < s0 p then 6 else if s0 p ≠ tgt p then 5 else (rd t p).2.2 })
  s.mdStake (fun v => { v with ports, sumS := sumN 64 sp, sumK := sumN 64 kp })

/-! ### The reserve trip (R71, R72) -/

/-- E_need of R71 as a fraction (numerator, denominator). With BW_v 0 the rule states no result: a free value. -/
def eNeedFrac (s : State) : Nat × Nat :=
  let v := s.stake.v
  let b := v.sumU * 2 ^ 20
  if v.bwV = 0 then ((Config.freeWord s.clk.free).toNat, 1)
  else (s.pFix * s.tFixed * v.bwV * 1000000 + s.pFix * b * 1000000 + v.eB * b * v.bwV, v.bwV * 1000000000000)

/-- E_NEED, E_TRIP. -/
def eNeedStep (s : State) : State :=
  let (n, d) := s.eNeedFrac
  let s1 := s.mdStake (fun v => { v with eNeed := ceilDiv n d, eTrip := ceilDiv (s.stake.margin * n + 256 * v.eRes * d) (256 * d) })
  { s1 with stake := { s1.stake with reserve := decide (s.stake.v.ePot * 256 * d ≤ s.stake.margin * n + 256 * s.stake.v.eRes * d) } }.tick

/-- E_pot is at or below m x E_need + E_res. -/
def reserveHit (s : State) : Bool := s.stake.reserve

/-! ### The turn -/

/-- STAKE to every port in UP whose identity has been read (R56, Table 03-10). -/
def sendStakes (s : State) : State :=
  forN 64 (fun p t =>
    if !t.linkUp p || !(t.lk p).idRead then t
    else
      let el := (t.stkQ p).elig
      (t.mdStkQ p (fun q => { q with due := el })).send p (.stake
        { turn := t.clk.turn % 2 ^ 32, s := if el then (t.stk p).s else 0, k := if el then (t.stk p).k else 0, short := t.stake.v.short
          frozen := t.stake.v.frozen, token := t.holder, epoch := t.aon.epoch, disabled := !el, away := t.pins.awaySeat, serial := t.save.serial, stamp := t.stamp })) s

/-- Eligibility at this boundary (R48, R54): what is lost and gained. A port that was not eligible here when the token was taken becomes
eligible again, whatever the frame said of it (R98). -/
def eligStep (p : Nat) (s : State) : State :=
  let was := (s.stkQ p).elig
  let now := s.eligible p
  let s1 := s.mdStkQ p (fun q => { q with elig := now, was := q.was || now, again := false })
  if was && !now then
    let u := (s.stkQ p).uRep
    let s2 := if 0 < u then s1.uncovered p u else s1
    (s2.mdStk p (fun v => { v with u, s := 0, k := 0, cov := 0 })).stageLose p
  else if (!was || (s.stkQ p).again) && now then s1.stageGain p else s1

/-- CAL_INVALIDATE (R45). -/
def calCheck (s : State) : State :=
  let v := s.stake.v
  if v.calValid && ((List.range 64).any (fun p => (s.stkQ p).elig && !s.stake.calElig.getLsbD p) || decide (s.stake.calSleds < v.sleds)) then
    s.mdStake (fun v => { v with calValid := false, pfixCal := 0 })
  else s

/-- Outside Ready, Ride, Service and Save every stake and output is 0 (R21, R67); with every share 0, CLIP says whether a ceiling above 0 is
enabled (R52). -/
def stakeIdle (s : State) : State :=
  (s.mdStake (fun v => { v with
    bBw := 0, bE := 0, guard_ := 0, bTotal := 0, sumS := 0, sumK := 0, eNeed := 0, eTrip := 0, limit := false, totalClip := false, sumU := s.sumU, frozen := false
    ports := tgen 64 (fun p => { rd v.ports p with
      s := 0, k := 0, cov := 0, tgt := 0, bind := 4, draining := false, clip := (s.stkQ p).ceilEn && decide (0 < (s.stkQ p).ceil) }) })).endShort

/-- The first part of a turn boundary outside Save: eligibility is taken, last turn's reports are judged, the inputs follow their
sources (R43, R48, R54, R57, R520), and a calibration that no longer holds is dropped (R45). -/
def stakeJudge (s : State) : State :=
  let s1 := (forN 64 eligStep (forN 64 judgePort s)).stakeInputs
  (s1.mdStake (fun v => { v with sumU := s1.sumU, frozen := false, drainWait := (idxs 4 (fun x => (s1.sled x).drainPend && !(s1.sled x).switched)) != [] })).calCheck

/-- The second part, in a state with stakes: the total is computed, divided and committed, and the port records count the turn (R46 to R53,
R65, R66, R71). -/
def stakeFigures (s : State) : State := (s.stakeTotal.shortStep.stakeCommit).eNeedStep.recTurns

/-- The last part, in the state the boundary leads to: `was` says that the figures were computed before the transition. Every stake is 0 in
a state without stakes; in Save the frozen values go out again (R21, R61) and the intervals of the port records go on (R422). -/
def stakeCompute (was : Bool) (s : State) : State :=
  if s.top.state = .save then (if was then s else s.recTurns).sendStakes
  else if s.stakeState then (if was then s else s.stakeFigures).sendStakes
  else (if was then s.stakeIdle else s.stakeIdle.recTurns).sendStakes

/-! ### Host settings (R45, R52, R479) -/

/-- MARGIN_REG_WRITE. -/
def marginReg (w : Word) (s : State) : State :=
  let m := bitsOf w 15 0
  let lo := s.im.pol.mMin
  let c := if m < lo then lo else if 0x400 < m then 0x400 else m
  { s with stake := { s.stake with margin := c, marginClip := s.stake.marginClip || c != m } }

/-- VIEW_HOLD_WRITE: STAKE.CTRL; `v` are the figures the registers show now. -/
def viewHold (v : StkVals) (w : Word) (s : State) : State :=
  { s with stake := { s.stake with
      useCal := w.getLsbD 1
      hold := if w.getLsbD 0 then (match s.stake.hold with | some h => some h | none => some v) else none } }

/-- The stake inputs the board image gives (Boot and tuning reload). -/
def stakeLoad (boot : Bool) (s : State) : State :=
  let c := s.im.core
  let p := s.im.pol
  ({ s with stake := { s.stake with margin := if boot then p.mMin else max s.stake.margin p.mMin } }).mdStake (fun v => { v with
    pfixDef := c.pFix, eB := p.eB, eRes := p.eRes, tD := c.tD, tFw := c.tFw, tSeal := s.tSealOf })

/-- LEARN_START (R281); `p` is the pot agreed in a table. The string is the one NRG.LEARN names. A standby, whose discharge state is the holder's (R297),
takes none (DESIGN CHOICE, log entry 222). -/
def learnStart (k : Nat) (p : Option Nat) (s : State) : State :=
  if s.pair.standby || (1 ≤ s.aon.learnSt && s.aon.learnSt ≤ 3) then s
  else
    let x := s.str k
    let g := s.strCfg k
    let eSum := s.nrg.eSum - (if x.inSum then x.eStr else 0)
    let ePot := match p with | some v => min v eSum * s.nrg.num / s.nrg.den | none => eSum
    let ok := s.inState [.ready, .service] && g.configured && x.present && decide (g.isoSlot < 64) && decide (g.loadSlot < 64) && !x.sense && !s.stake.v.short
      && decide (s.sumU ≤ s.bTotalOf s.stake.v.bwV ePot)
    if ok then
      { s with
        aon := { s.aon with learnStr := k, learnSt := 1, learnRes := 0, learnAt := s.aon.opSec, learnHold := false }
        nrg := { s.nrg with learnGo := x.full, learnAbort := false } }
    else ({ s with aon := { s.aon with learnStr := k, learnSt := 6 } }).setEvt 5 6

end State
end Sys2Proof.Machine
end

