-- ==== Sys2Proof/Machine/Pair.lean ====
section
/-! DEFINITION. The controller pair (10): the partner link, state frames, bases, arming and windows, loss declaration, the claim's
occasions, planned handover, key exchange. -/

namespace Sys2Proof.Machine
namespace State

/-! ### The partner link (R335) -/

/-- A valid message has come: the link delivers (R336). An unarmed standby's JOIN waits for it (R340; log entry 70). -/
def plHeard (s : State) : State :=
  let s1 := (s.mdPair (fun p => { p with plUp := true, plOpen := true })).follow 127 0xFFFF false
  if !s.pair.plOpen && s1.pair.standby && !s1.pair.armed then s1.psend (.join Config.identity) else s1

/-- Messages reach the controller: its clock runs, the link is trained, and the image is not an unpaired one (R517). Before an image runs they do: what the
claim's occasion asks is whether a frame came in Boot (R332). -/
def pairMsgs (s : State) : Bool := s.ctlOn && s.fab.pl.st == 3 && (!s.bimg.running || s.paired)

/-- A message's header (R88): `f` is done only for one in sequence and well formed. -/
def preceive (h : Hdr) (f : State → State) (s : State) : State :=
  if !s.pairMsgs then s
  else
    let s1 := if h.ackV then s.mdPair (fun p => { p with chan := (p.chan.ack h.ack.toNat).refill }) else s
    let c := s1.pair.chan
    if c.expect ≠ h.seq.toNat then s1.mdPair (fun p => { p with chan := { p.chan with nak := some c.expect } })
    else
      let s2 := (s1.mdPair (fun p => { p with chan := p.chan.accept })).plHeard
      if h.ok then f s2 else s2.psend (.error 0x10 h.seq.toNat)

/-- A new training attempt of the partner link starts in LOCK. -/
def plAttempt (l : PLink) : PLink := { l with st := 1, lanes := 0, coef := [], reqs := tall 4 0 }

/-- The trained link goes to RECOVER: it trains again and keeps its messages (Tables 03-3 and 03-9; DEDUCED, log entry 68). -/
def plRecover (s : State) : State :=
  ({ s with fab := { s.fab with pl := { plAttempt s.fab.pl with rcv := true } } }).mdPair (fun p => { p with chan := { p.chan with tries := 0 } })

/-- ACK on the partner link; a malformed one frees nothing. -/
def pairAck (h : Hdr) (s : State) : State :=
  if !s.pairMsgs then s
  else if !h.ok then s.psend (.error 0x10 h.seq.toNat)
  else if h.ackV then (s.mdPair (fun p => { p with chan := (p.chan.ack h.ack.toNat).refill })).plHeard else s

/-- NAK on the partner link, or a discarded message; the replay after 4 without progress is RECOVER instead. -/
def pairNak (w : NakWhy) (s : State) : State :=
  if !s.pairMsgs then s
  else match w with
  | .received h e =>
    if !h.ok then s.pairAck h
    else
      let s1 := (s.pairAck h).mdPair (fun p => { p with chan := (p.chan.nakFrom e.toNat).refill })
      if 4 < s1.pair.chan.tries then s1.plRecover else s1
  | _ => s.mdPair (fun p => { p with chan := { p.chan with nak := some p.chan.expect } })

/-- Replay timeout on the partner link; after 4 replays without progress RECOVER. -/
def pairReplay (s : State) : State :=
  if !s.pairMsgs || s.pair.chan.buf.isEmpty then s
  else if 4 ≤ s.pair.chan.tries then s.plRecover
  else s.mdPair (fun p => { p with chan := { p.chan with tries := p.chan.tries + 1 } })

/-- ALIVE received. -/
def aliveRx (h : Hdr) (s : State) : State := s.preceive h (fun t => t)

/-- ALIVE_SEND: nothing else was sent for 50 us, and the replay buffer has room. -/
def aliveSend (s : State) : State :=
  if !s.pairMsgs || !s.pair.chan.wait.isEmpty || 1024 ≤ s.pair.chan.buf.length then s
  else s.mdPair (fun p => { p with chan := p.chan.push .alive })

/-! ### Frames (R337 to R341) -/

/-- The staged map in ascending (port, square) order. -/
def stagedMap (s : State) : List MapAdd :=
  (List.range 64).flatMap (fun p =>
    let l : List MapAdd := (s.pp p).staged.map (fun e => { port := p, sq := e.sq, gen := e.gen, lseq := e.lseq })
    l.mergeSort (fun a b => decide (a.sq ≤ b.sq)))

/-- The location a window's slots past a ring's cursor, within the cursor's area (R150, R180), or "no location". -/
def locAhead (s : State) (r area : Nat) : Nat :=
  let l := s.cursor r area
  let n := s.areaSize r area
  if l = noLoc || n = 0 then noLoc else s.areaLoc r area ((s.areaOrd r area l + s.winSlots r area) % n)

/-- The windows a frame announces: 4 turns' worth of units beyond what is used (R150). -/
def announce (s : State) : Win :=
  let n := winUnits * max 1 s.healthyCount
  { seq := s.vault.nextSeq - 1 + n, lseq := (s.stage.nextLseq + 2 ^ 31 - 1 + n) % 2 ^ 31
    save := (List.range 32).map (fun r => s.locAhead r 0), log := (List.range 32).map (fun r => s.locAhead r 1)
    cat := (List.range 32).map (fun r => s.locAhead r 2) }

/-- Leading to-move squares whose units and stripe parity are programmed (Table 04-4); in a resumed save, of a port sealed before it or still
without its map, the count the frame gave (R151). -/
def moveCursor (v : SvPort) : Nat :=
  if v.set.isEmpty then (if v.pst = 1 then v.skip else v.moved) else (v.set.takeWhile (fun q => v.done.contains q)).length

/-- What a frame carries of a port. -/
def framePort (s : State) (p : Nat) : FrPort :=
  let x := s.stk p
  let v := s.sv p
  let r := s.rt p
  { s := x.s, k := x.k, u := x.u, cov := x.cov, elig := (s.stkQ p).elig, released := r.released,
    doubt := (s.pp p).confirms.any (fun c => c.1 != s.clk.turn % 2 ^ 32), img := v.img, pst := v.pst, cursor := moveCursor v, cSq := v.cSq,
    unconf := v.unconf, late := v.late, incomplete := v.incomplete,
    out := r.out, pend := r.pend, relSent := r.relSent, relAcked := r.relAcked, written := r.written, src := r.src }

def frameStr (s : State) (k : Nat) : FrStr :=
  let x := s.str k
  { q := x.q, r := x.r, c := x.c, cand := x.cand, learned := x.learned, hasCand := x.hasCand, conf := x.conf, unres := x.unres }

/-- The SHARED slots. -/
def sharedSet (s : State) : BitVec 64 := slotSet (fun n => (s.slotCfg n).cls != 0 && (s.slotCfg n).shared)

/-- Map-word clears of the entries that left the map. -/
def clearsOf (gone : List MapAdd) : List MapClr :=
  let keys := (gone.map (fun e => (e.port, e.sq / 32))).eraseDups
  keys.map (fun k => { port := k.1, word := k.2, mask := bitmap 0 (fun j => gone.any (fun e => e.port == k.1 && e.sq == 32 * k.2 + j)) })

/-- Keys in ascending (port, square) order. -/
def keyLe (a b : Nat × Nat) : Bool := decide (a.1 < b.1) || (a.1 == b.1 && decide (a.2 ≤ b.2))

/-- The next base segment (R339). -/
def nextSegment (s : State) (map : List MapAdd) : Option BaseSeg :=
  if !s.pair.baseOn then none
  else
    let rest : List MapAdd := match s.pair.baseKey with
      | some k => map.filter (fun (e : MapAdd) => !keyLe (e.port, e.sq) k)
      | none => map
    let ents := rest.take 16384
    let key := fun (e : MapAdd) => (e.port, e.sq)
    some { idx := s.pair.baseDone, total := s.pair.baseDone + max 1 (ceilDiv rest.length 16384), ents, first := ents.head?.map key, last := ents.getLast?.map key }

/-- The entries that left the map since the last frame. -/
def goneEnts (s : State) : List MapAdd :=
  let map := s.stagedMap
  s.pair.map.filter (fun (e : MapAdd) => !map.any (fun f => f.port == e.port && f.sq == e.sq))

/-- A port whose entries have all left the map. -/
def emptied (s : State) (p : Nat) : Bool := s.pair.map.any (fun e => e.port == p) && (s.pp p).staged.isEmpty

/-- The map changes a STAGE section carries: at most 4,096 adds and 16,384 map-word clears (R339). -/
def frameAdds (s : State) : List MapAdd := (s.stagedMap.filter (fun e => !s.pair.map.contains e)).take 4096
def frameClears (s : State) : List MapClr := (clearsOf (s.goneEnts.filter (fun e => !s.emptied e.port))).take 16384

/-- The map as a frame leaves it at the standby: a change it had no room for goes with the next one. -/
def mapAfter (s : State) : List MapAdd :=
  let adds := s.frameAdds
  let cl := s.frameClears
  s.pair.map.filter (fun e => !s.emptied e.port && !adds.any (fun f => f.port == e.port && f.sq == e.sq) &&
    !cl.any (fun c => c.port == e.port && e.sq / 32 == c.word && c.mask.getLsbD (e.sq % 32))) ++ adds

/-- ARMED of the next frame: each of the 3 frames before it is acknowledged; after a planned handover the frames before the new holder's
first one were the standby's own (R340, R341; DEDUCED, log entry 177). -/
def armedFlag (s : State) : Bool := (s.pair.given || 3 ≤ s.pair.sent.length) && (s.pair.sent.take 3).all (·.acked)

/-- The frame of the turn that ends now. -/
def buildFrame (final : Bool) (s : State) : Frame :=
  let map : List MapAdd := s.stagedMap
  let inSave := s.top.state == .save
  { armed := s.armedFlag, final, state := s.top.state.code, fseq := (s.pair.fseq + 1) % 2 ^ 32
    turn := (s.clk.turn - 1) % 2 ^ 32, epoch := s.aon.epoch, away := s.pins.awaySeat, baseId := s.pair.baseId, stamp := s.stamp
    bTotal := s.stake.v.bTotal, short := s.stake.v.short, serial := s.save.serial, frz := s.top.frz, num := s.nrg.num, den := s.nrg.den
    grant := s.fab.grant, credit := s.aon.credit, emBkt := s.aon.emBkt, cmd := s.cmd.code, cmdState := s.cmd.state
    drill := if s.pair.legs = 1 then 2 else if s.pair.legs = 2 then 3 else if s.pair.legs ≠ 0 then s.pair.legs + 1
      else if s.pair.drillSt = 1 then 1 else 0
    dwell := s.pair.drillDwell, drillTest := s.pair.drillTest
    ports := tgen 64 s.framePort
    adds := s.frameAdds, clears := s.frameClears
    portClears := slotSet s.emptied, pend := s.stage.pend.map (·.1) ++ s.stage.posted.flatMap (·.2.map (·.1)), nextLseq := s.stage.nextLseq, hwm := s.stage.hwm
    win := s.announce, iring := s.save.iring, iloc := s.save.iloc, icount := s.save.icount
    first := match s.save.idxOut with | some u => u.first | none => s.save.first
    ents := (match s.save.idxOut with | some u => u.ents | none => []) ++ s.save.ents
    ck := if inSave then some {
      tTrip := s.save.tTrip, tripL := s.save.tripL, phase := s.save.phase, w0 := s.save.w0.getD 0, sealed := s.save.done
      geom := s.save.geom, test := s.save.test, cal := s.save.cal, promoted := s.save.promoted, retripped := s.save.retripped
      kind8 := s.save.kind8, sledLost := s.save.sledLost, supply := s.save.supply, primary := s.save.primary, src := s.save.src
      ePot := s.stake.v.ePot, eNeed := s.stake.v.eNeed, bwV := s.stake.v.bwV, late := s.save.late, edges := s.save.edges, lostSleds := s.save.lostSleds, tkos := s.save.tkos, yieldOnce := s.pair.yieldOnce } else none
    strs := tgen 16 s.frameStr, learnStr := s.aon.learnStr, learnSt := s.aon.learnSt, learnRes := s.aon.learnRes, learnAt := s.aon.learnAt, learnHold := s.aon.learnHold
    shared := s.aon.en &&& s.sharedSet, slots := (List.range 64).map (fun n => (s.slot n).st), attempt := s.seq.attempt, phase := s.seq.phase
    mepoch := s.vault.epoch, sleds := (List.range 4).map (fun x => ((s.sled x).cls, (s.sled x).drainPend, (s.sled x).switched))
    rjob := s.vault.rjob, jobSled := s.vault.jobSled, prog := s.vault.rprog, total := s.vault.rtotal
    heads := s.ledg.heads.toList, rseq := s.ledg.rseq, base := s.nextSegment map, geom := s.vault.geom }

/-- A frame is sent and remembered; the windows' binding ends at the second boundary after the first frame with ARMED = 0 (R341). -/
def sendFrame (final : Bool) (s : State) : State :=
  let f := s.buildFrame final
  let seg := f.base
  let miss := match s.pair.sent with | x :: _ => !x.acked | [] => false
  let s1 := s.mdPair (fun p => { p with
    fseq := f.fseq, map := s.mapAfter, given := p.given && p.sent.length < 2
    sent := ({ fseq := f.fseq, armed := f.armed && p.complete, acked := false, win := f.win } :: p.sent).take 8
    ackMiss := if miss then satAdd 0xFFFF p.ackMiss 1 else p.ackMiss, since := satAdd 0xFFFF p.since 1
    armed := p.armed && f.armed
    unboundAt := if f.armed then none else if p.win.isSome && p.unboundAt.isNone then some (s.clk.turn + 2) else p.unboundAt
    baseDone := match seg with | some g => g.idx + 1 | none => p.baseDone
    baseTotal := match seg with | some g => g.total | none => p.baseTotal
    baseKey := match seg with | some g => (match g.ents.getLast? with | some e => some (e.port, e.sq) | none => p.baseKey) | none => p.baseKey
    baseOn := match seg with | some g => decide (g.idx + 1 < g.total) | none => p.baseOn
    complete := match seg with | some g => decide (g.total ≤ g.idx + 1) | none => p.complete })
  (forN 64 (fun p t => t.mdPp p (fun q => { q with doubt := (rd f.ports p).doubt })) s1).psend (.frame f)

/-- No ring holds a descriptor. -/
def ringsIdle (s : State) : Bool := (List.range 32).all (fun r => s.depth r == 0)

/-- The holder's part of a turn boundary: the binding's end, then the frame (R337, R341). While a giver waits with idle rings, its next
frame is the final one. -/
def frameTurn (s : State) : State :=
  let s1 := match s.pair.unboundAt with
    | some t => if t ≤ s.clk.turn then s.mdPair (fun p => { p with win := none, unboundAt := none }) else s
    | none => s
  if !s1.paired || !s1.pair.drv || !s1.pair.peer || s1.pair.hand = 2 || (s1.pair.hand = 1 && s1.ringsIdle) then s1 else s1.sendFrame false

/-- The wrap set of the partner is in the key block (PAIR.STATUS.WRAP_OK). -/
def wrapOk (s : State) : Bool :=
  match s.pair.peerId with
  | none => false
  | some i => s.members.any (fun x => match (s.sled x).dev.keys with | some k => k.wraps.contains i | none => false)

/-- An armed standby's identity has no wrap set in the key block: EVT.KX_NEED, once while that lasts (R349). -/
def kxNeed (s : State) : State :=
  if s.pair.drv && s.pair.armed && s.pair.peerId.isSome && !s.wrapOk && s.pair.kxSt ≠ 1 then
    (if s.pair.kxTold then s else (s.mdPair (fun p => { p with kxTold := true })).setEvt 9 7)
  else if s.pair.kxTold && (!s.pair.armed || s.wrapOk) then s.mdPair (fun p => { p with kxTold := false }) else s

/-- FRAME_ACK (R341): the windows bind from the first one of an armed standby, which a frame with ARMED = 1 after the last of the base
arms (R340). -/
def frameAckRx (h : Hdr) (fseq : Nat) (s : State) : State :=
  s.preceive h (fun t =>
    match t.pair.sent.find? (fun x => x.fseq == fseq) with
    | none => t
    | some x =>
      if !t.pair.drv || x.acked then t
      else
        let arm := x.armed
        let t1 := t.mdPair (fun p => { p with
          sent := p.sent.map (fun y => if y.fseq == fseq then { y with acked := true } else y), since := 0
          armedFrames := if arm then satAdd 0xFFFF p.armedFrames 1 else 0, armed := arm
          win := if arm || p.win.isSome then some x.win else none, kxTold := p.kxTold && p.armed })
        (if arm && !t.pair.armed then t1.setEvt 9 3 else t1).kxNeed)

/-- JOIN (R340): a new base is started with the next frame; map changes are told from here on. -/
def joinRx (h : Hdr) (id : BitVec 64) (s : State) : State :=
  s.preceive h (fun t =>
    if !t.pair.drv then t
    else t.mdPair (fun p => { p with
      peer := true, peerId := some id, baseOn := true, baseId := (p.baseId + 1) % 2 ^ 32, baseDone := 0, baseTotal := 0, baseKey := none
      complete := false, armed := false, armedFrames := 0, given := false, sent := if p.peer then p.sent else [], map := if p.peer then p.map else t.stagedMap }))

/-! ### The standby (R27, R297, R337 to R340) -/

/-- A standby loses its arming and asks for a new base. -/
def unarm (s : State) : State :=
  (s.mdPair (fun p => { p with armed := false, armedFrames := 0, complete := false, baseOn := false, given := false })).psend (.join Config.identity)

/-- Put an entry into the standby's staged map; the frame that brings it is of a turn not before its CONFIRM's. -/
def mapPut (turn : Nat) (e : MapAdd) (s : State) : State :=
  s.mdPp e.port (fun q => { q with staged := q.staged.filter (fun x => x.sq != e.sq) ++
    [{ sq := e.sq, gen := e.gen, lseq := e.lseq, ring := 0, loc := noLoc, at_ := 0, turn }] })

/-- Apply the map changes of a frame (R339): the segment first, then adds and clears at or below the last key received. -/
def applyMap (f : Frame) (s : State) : State :=
  let s0 := match f.base with
    | some g => if g.idx = 0 then forN 64 (fun p t => t.mdPp p (fun q => { q with staged := [] })) s else s
    | none => s
  let s1 := match f.base with | some g => forL g.ents (mapPut f.turn) s0 | none => s0
  let all := s.pair.complete || (match f.base with | some g => g.total ≤ g.idx + 1 | none => false)
  let key := match f.base with
    | some g => (match g.last with | some k => some k | none => s.pair.baseKey)
    | none => s.pair.baseKey
  let within := fun (p q : Nat) => all || (match key with | some k => keyLe (p, q) k | none => false)
  let s2 := forL (f.adds.filter (fun e => within e.port e.sq)) (mapPut f.turn) s1
  let s3 := forL f.clears (fun c t => t.mdPp c.port (fun q => { q with
    staged := q.staged.filter (fun e => !(e.sq / 32 == c.word && c.mask.getLsbD (e.sq % 32) && within c.port e.sq)) })) s2
  (forN 64 (fun p t => if f.portClears.getLsbD p && within p 0 then t.mdPp p (fun q => { q with staged := [] }) else t) s3).mdPair (fun p => { p with
    baseKey := key
    complete := all, baseOn := (match f.base with | some g => decide (g.idx + 1 < g.total) | none => p.baseOn)
    baseDone := (match f.base with | some g => g.idx + 1 | none => p.baseDone), baseTotal := (match f.base with | some g => g.total | none => p.baseTotal) })

/-- A standby's strings become the frame's (R297); the instant at which the learning discharge entered its state is turned into this controller's
operating seconds, and what it knew of a discharge of its own is over (R282). -/
def applyStrs (f : Frame) (s : State) : State :=
  let s1 := forN 16 (fun k t => let x := rd f.strs k
    t.mdStr k (fun y => { y with q := x.q, r := x.r, c := x.c, cand := x.cand, learned := x.learned, hasCand := x.hasCand, conf := x.conf, unres := x.unres })) s
  let age := (f.stamp.opSec.toNat + 2 ^ 32 - f.learnAt % 2 ^ 32) % 2 ^ 32
  { s1 with
    aon := { s1.aon with learnStr := f.learnStr, learnSt := f.learnSt, learnRes := f.learnRes, learnAt := (s1.aon.opSec + 2 ^ 32 - age) % 2 ^ 32, learnHold := f.learnHold }
    nrg := { s1.nrg with learnGo := false, learnAbort := false } }

/-- TOP.STATE of a standby follows the frame (R27). -/
def followState (c : Nat) (s : State) : State :=
  let n := TopState.ofCode c
  if s.top.state = n then s else { s with top := { s.top with prev := s.top.state, state := n, turnsIn := 0 } }

/-- What a drill's controller learns from the frames of the controller that dwells (R350, R351). -/
def drillFollow (f : Frame) (s : State) : State :=
  if s.pair.drillSt ≠ 2 && s.pair.drillSt ≠ 3 then s
  else match f.drill with
  | 3 => s.mdPair (fun p => { p with drillSt := 3 })
  | 4 => ((s.mdPair (fun p => { p with drillSt := 4, drillRes := 2 })).setEvt 9 5).cmdEnd 3
  | 5 => ((s.mdPair (fun p => { p with drillSt := 4, drillRes := 3 })).setEvt 9 5).cmdEnd 3
  | 6 => ((s.mdPair (fun p => { p with drillSt := 4, drillRes := 4 })).setEvt 9 5).cmdEnd 4
  | _ => s

/-- Drive every SHARED EN_nn at given levels (R343, R346). -/
def driveShared (lv : BitVec 64) (s : State) : State :=
  let m := s.sharedSet
  { s with aon := { s.aon with en := (s.aon.en &&& ~~~m) ||| (lv &&& m), rel := s.aon.rel &&& ~~~m } }

/-- The SHARED EN_nn go to high impedance (R302). -/
def freeShared (s : State) : State := { s with aon := { s.aon with rel := s.aon.rel ||| s.aon.shared } }

/-- The SHARED EN_nn that stand at the level of their pull go to high impedance. -/
def freeIdle (s : State) : State := { s with aon := { s.aon with rel := s.aon.rel ||| (s.aon.shared &&& ~~~(s.aon.en ^^^ s.pulls)) } }

/-- An operating second in which the control island is off or in reset: AON keeps driving the SHARED EN_nn of a token it has released until the partner
drives TOKEN_N low; when in such a second that is, no command tells, and the model leaves it free (R302; log entry 203). -/
def sharedFollow (s : State) : State :=
  if s.pair.drv || s.aon.shared &&& ~~~s.aon.rel = 0 then s
  else (if (Config.freeWord s.clk.free).getLsbD 0 then s.freeShared else s).tick

/-- A holder that no frame tells otherwise drives the SHARED EN_nn that are at high impedance, at the level of their pull (R302; DEDUCED, log
entry 203). -/
def drivePulls (s : State) : State :=
  let m := s.aon.rel &&& s.aon.shared
  { s with aon := { s.aon with en := (s.aon.en &&& ~~~m) ||| (s.pulls &&& m), rel := s.aon.rel &&& ~~~m } }

/-- A handover whose final frame was not the last frame is over: the SHARED EN_nn driven for it are let go (R346). -/
def unplan (s : State) : State :=
  if s.pair.occ = .planned then s.freeShared.mdPair (fun p => { p with occ := .none, ready := false }) else s

/-- Apply a frame: arming begins with the first one after the base's last (R340); CUT_OFF ends with it (DESIGN CHOICE, log entry 178). -/
def applyFrame (f : Frame) (s : State) : State :=
  let s1 := (((s.applyMap f).applyStrs f).followState f.state).mdPair (fun p => { p with
    frame := some f, fseq := f.fseq, baseId := f.baseId, since := 0, complete := p.complete || p.given, given := false })
  let s2 := { s1 with aon := { s1.aon with epoch := f.epoch }, top := { s1.top with frz := s1.top.frz &&& f.frz } }
  let arm := (s.pair.complete || s.pair.given) && f.armed
  let s3 := if arm && !s2.pair.armed then s2.setEvt 9 3 else s2
  let s4 := if !arm && s2.pair.armed then s3.unarm
    else s3.mdPair (fun p => { p with
      armed := arm, armedFrames := if arm then satAdd 0xFFFF p.armedFrames 1 else 0, cutOff := p.cutOff && !arm
      occ := if arm && p.occ == .cutOff then .none else p.occ, ready := p.ready && !(arm && p.occ == .cutOff) })
  let s5 := (s4.drillFollow f).psend (.frameAck f.fseq f.baseId)
  if f.final then
    ((s5.driveShared f.shared).psend (.takeReady f.fseq)).mdPair (fun p => { p with occ := .planned, ready := true, yielded := false, declL := s5.clk.l })
  else s5.unplan

/-- Become standby: the token is held by the partner (R340). -/
def becomeStandby (s : State) : State :=
  (s.freeShared.mdPair (fun p => { p with standby := true, peer := false, occ := .none, ready := false, since := 0 })).psend (.join Config.identity)

/-- A partner frame received in Boot: the end of Boot is no occasion to claim, and one that has arisen is over (R332). -/
def bootHeard (s : State) : State :=
  if s.top.state ≠ .boot then s
  else
    let s1 := s.mdPair (fun p => { p with heard := true })
    if s1.pair.occ = .boot && !s1.pair.drv then s1.becomeStandby else s1

/-- FRAME (R337): applied when complete and in sequence; a base's first segment starts the sequence. -/
def frameRx (h : Hdr) (whole : Bool) (f : Frame) (s : State) : State :=
  s.arrive.preceive h (fun u =>
    let t := u.bootHeard
    if t.pair.drv || !t.pair.standby then t
    else if !whole then t.mdPair (fun p => { p with discarded := satAdd 0xFFFF p.discarded 1 })
    else
      let starts := match f.base with | some g => g.idx == 0 | none => false
      if f.fseq = (t.pair.fseq + 1) % 2 ^ 32 || starts then t.applyFrame f else t.unarm)

/-- A standby's part of a turn boundary: three turns without a frame end its arming (R340). -/
def standbyTurn (s : State) : State :=
  let s1 := s.mdPair (fun p => { p with since := satAdd 0xFFFF p.since 1 })
  if s1.pair.armed && 3 ≤ s1.pair.since then s1.unarm else s1

/-! ### Loss and claims (R331, R332, R336, R342) -/

/-- HB_IN_EDGE. -/
def hbEdge (s : State) : State := if s.ctlOn then (s.mdPair (fun p => { p with hbOk := true })).follow 126 0xFFFF false else s

/-- PARTNER_CHANNEL_SILENT: one of the two alone (R336). -/
def channelSilent (hb : Bool) (s : State) : State :=
  if !s.ctlOn then s
  else if hb then (s.mdPair (fun p => { p with hbOk := false })).follow 126 0xFFFF s.paired
  else (s.mdPair (fun p => { p with plUp := false })).follow 127 0xFFFF s.paired

/-- Everything about a partner that is gone; a giver that has sent its final frame still waits for TAKE_READY (R346). -/
def dropPartner (s : State) : State :=
  s.kxDrop.mdPair (fun p => { p with
    peer := false, win := none, unboundAt := none, sent := [], armed := if p.drv then false else p.armed, armedFrames := if p.drv then 0 else p.armedFrames
    given := false, baseOn := false, hand := if p.hand = 2 then 2 else 0, handDrill := p.handDrill && p.hand == 2, chan := p.chan.clear, plOpen := false })

/-- A drill's leg failed: at the controller that gives the token, or, while the other one holds it, with the loss of that one (R351). -/
def legFailed (s : State) : State :=
  if s.pair.legs = 1 || s.pair.legs = 2 then s.mdPair (fun p => { p with legs := 3 })
  else if 1 ≤ s.pair.drillSt && s.pair.drillSt ≤ 3 then
    ((s.mdPair (fun p => { p with drillSt := 4, drillRes := if p.drillSt = 1 then 1 else 2 })).setEvt 9 5).cmdEnd 3
  else s

/-- PARTNER_LOSS (R336, R342): a holder becomes solo; a standby samples TOKEN_N, and the home seat may claim at once. -/
def partnerLoss (s : State) : State :=
  if !s.paired || !s.ctlOn then s
  else
    let s1 := (((s.arrive.mdPair (fun p => { p with hbOk := false, plUp := false })).follow 126 0xFFFF true).follow 127 0xFFFF true).setEvt 9 1
    let s2 := if s1.pair.hand = 1 then (s1.legFailed.setEvt 9 4).dropPartner.pump else if s1.pair.hand = 2 then s1.dropPartner else s1.legFailed.dropPartner
    if s2.pair.standby then
      s2.mdPair (fun p => { p with occ := .loss, ready := !s2.pins.awaySeat, sampling := true, yielded := false, declL := s2.clk.l })
    else s2

/-- LOSS_SAMPLE_END: the line read low throughout: snake eyes (R342). From then on it claims whenever TOKEN_N reads high, the away seat
after its hold-off (R332; DEDUCED, log entry 178). -/
def lossSampleEnd (low : Bool) (s : State) : State :=
  if !s.pair.standby || !s.pair.sampling then s
  else
    let s1 := s.mdPair (fun p => { p with sampling := false })
    if low then
      let s2 := (s1.mdPair (fun p => { p with cutOff := true, armed := false, armedFrames := 0, complete := false, baseOn := false, occ := .cutOff, ready := !s1.pins.awaySeat })).freeShared.setEvt 9 2
      { s2 with pins := { s2.pins with tokenLow := true } }.count 0x61 0 0
    else { s1 with pins := { s1.pins with tokenLow := false } }

/-- CLAIM_HOLDOFF_END: 500 us of TOKEN_N high (R332). -/
def holdoffEnd (s : State) : State := if s.pair.occ ≠ .none && !s.pair.drv then s.mdPair (fun p => { p with ready := true }) else s

/-- YIELD (R345): the standby takes it as a loss declaration and may claim at once, whatever its seat. -/
def yieldRx (h : Hdr) (s : State) : State :=
  s.arrive.preceive h (fun t =>
    if t.pair.drv || !t.pair.standby then t
    else (t.legFailed.mdPair (fun p => { p with occ := .yield, ready := true, sampling := false, yielded := true, declL := t.clk.l })).setEvt 9 1)

/-- KEEPER_HB_STOP (R331). -/
def keeperHb (s : State) : State := s.mdPair (fun p => { p with hbOut := false })

/-- AON releases TOKEN_N (R330, R331). A SHARED EN_nn whose level is not that of its pull is driven until the partner has claimed, so that no rail sees
the pull (Takeover, 10; DEDUCED, log entry 203). -/
def releaseToken (s : State) : State := s.freeIdle.mdPair (fun p => { p with drv := false, hbOut := false })

/-! ### Planned handover (R346 to R348) -/

/-- HANDOVER_FINAL_FRAME. -/
def finalFrame (s : State) : State :=
  if s.pair.drv && s.pair.hand = 1 && s.ringsIdle then
    (s.sendFrame true).mdPair (fun p => { p with hand := 2, declL := s.clk.l })
  else s

/-- TAKE_READY: the giver releases TOKEN_N and becomes standby (R346); where it is a drill's second leg, the drill is over here too and
DRILL_AGE starts again (R351). -/
def takeReadyRx (h : Hdr) (fseq : Nat) (s : State) : State :=
  s.arrive.preceive h (fun t =>
    if !t.pair.drv || t.pair.hand ≠ 2 || fseq ≠ t.pair.fseq then t
    else
      let t1 := t.mdPair (fun p => { p with
        drv := false, standby := true, peer := false, given := true, hand := 0, handDrill := false, win := none, unboundAt := none, sent := [], armed := false
        armedFrames := 0, complete := false, since := 0, handovers := satAdd 0xFFFF p.handovers 1, tkoKind := 3, tkoYielded := false, tkoStamp := t.stamp
        tkoDur := min 0xFFFF ((t.clk.l - p.declL) / 1000), drillSt := if p.drillSt = 1 then 2 else p.drillSt, legs := 0
        dueSet := p.dueSet && p.legs != 2 })
      let t2 := { t1 with aon := if t.pair.legs = 2 then { t1.aon with drillAge := 0 } else t1.aon, pins := { t1.pins with tokenLow := true } }
      (forN 64 (fun p u => u.mdPp p (fun q => { q with copies := [], confirms := [], asked := [], reverts := [] })) t2.freeShared).setEvt 9 4)

/-- TAKE_READY_TIMEOUT: the giver resumes as holder (R346). -/
def takeReadyTimeout (s : State) : State :=
  if s.pair.drv && s.pair.hand = 2 then
    let s1 := (((s.legFailed.mdPair (fun p => { p with hand := 0, handDrill := false })).raiseTurn 128 0xFFFF).setEvt 9 4).pump
    forL (idxs 64 (fun p => (s1.rt p).out == 6)) stepRestore s1
  else s

/-- The holder conditions of R348 that a drill needs as well. -/
def handConds (s : State) : Bool :=
  s.paired && s.pair.drv && s.pair.peer && s.pair.armed && s.pair.hand == 0 && s.wrapOk && s.top.state == .ready && !s.stake.v.short && s.vault.rjob == 0
    && !(1 ≤ s.aon.learnSt && s.aon.learnSt ≤ 3)

/-- Revertive return and a drill's second leg start at a boundary (R348, R350). -/
def handTurn (s : State) : State :=
  let noCmd := s.cmd.state ≠ 1
  if s.pair.legs = 2 && s.handConds && noCmd then s.mdPair (fun p => { p with hand := 1, handDrill := true })
  else if s.pins.awaySeat && s.ctrlBit 9 0 && s.handConds && noCmd && 100 ≤ s.pair.armedFrames && (s.pair.legs = 0 || 3 ≤ s.pair.legs) then s.mdPair (fun p => { p with hand := 1 })
  else s

/-- PAIR.STATUS.REV_PEND. -/
def revPend (s : State) : Bool := s.paired && s.pair.drv && s.pair.peer && s.pins.awaySeat && s.ctrlBit 9 0 && s.pair.hand == 0

/-- DRILL_DWELL_END: the dwell's turns are over, and the test save where one was due: leg 2 may start (R350). -/
def dwellEnd (s : State) : State :=
  if s.pair.legs = 1 && s.pair.drillLeft = 0 && (s.pair.drillSave = 0 || s.pair.drillSave = 3) && s.pair.drv then
    s.mdPair (fun p => { p with legs := if p.drillBad then 4 else 2 })
  else s

/-- A turn of the dwell passes. -/
def dwellTurn (s : State) : State :=
  if s.pair.legs = 1 then s.mdPair (fun p => { p with drillLeft := p.drillLeft - 1 })
  else s

/-! ### Key exchange (R349) -/

/-- Start the exchange where it may run. -/
def kxStart (s : State) : State :=
  if s.pair.kxApprove && s.pair.kxFor == s.pair.peerId && s.pair.kxSt ≠ 1 && s.pair.drv && s.pair.armed && s.pair.peerId.isSome && !s.wrapOk && s.inState [.ready, .service] then s.kxBegin
  else s

/-- KX_APPROVE: a write of PAIR.KX; it approves the identity PAIR.PEER shows, and none while it shows none. -/
def kxApprove (w : Word) (s : State) : State :=
  if w.getLsbD 0 then (s.mdPair (fun p => { p with kxApprove := true, kxFor := p.peerId })).kxStart else s

/-- KX_OFFER at the standby. -/
def kxOfferRx (h : Hdr) (key pub sig : List Byte) (s : State) : State :=
  s.preceive h (fun t =>
    if t.pair.drv || !t.pair.standby || !t.inState [.ready, .service] then t
    else if !Config.ecdsaVerify key pub sig then t.kxEnd 3
    else
      let t1 := (t.mdPair (fun p => { p with kxSt := 1, kxAt := t.clk.l, kxPriv := t.clk.free, kxPeer := pub, peerId := some (Config.identityOf key) })).tick
      let o := t1.kxOwn
      t1.psend (.kxReply o.1 o.2.1 o.2.2))

/-- The text of KX_KEYS: the 64 ports' key material, that of the new key block in a key erase, and what the standby's device key is derived
from beside its own secret: VAULT_ID, KEY_EPOCH and the nonce (R202, R349; log entry 168). -/
def kxText (s : State) : List Byte :=
  let k : KeyBlock := match s.vault.keyNew with
    | some k => if s.vault.keyStep = 3 then k else { vaultId := s.vault.id, keyEpoch := s.vault.keyEpoch, nonce := s.vault.nonce, mat := s.vault.mat }
    | none => { vaultId := s.vault.id, keyEpoch := s.vault.keyEpoch, nonce := s.vault.nonce, mat := s.vault.mat }
  portKeys k.mat ++ leBytes 8 k.vaultId.toNat ++ leBytes 4 k.keyEpoch ++ leBytes 16 k.nonce.toNat

/-- The standby's answer to it: the keys wrapped under its own device key. -/
def kxWrap (text : List Byte) : List Byte :=
  let r := text.drop 8192
  wrapKeys (Config.deviceKey (BitVec.ofNat 64 (leNat (r.take 8))) (leNat ((r.drop 8).take 4)) (BitVec.ofNat 128 (leNat ((r.drop 12).take 16)))) text

/-- KX_REPLY at the holder: the keys go out under the session key. -/
def kxReplyRx (h : Hdr) (key pub sig : List Byte) (s : State) : State :=
  s.preceive h (fun t =>
    if !t.pair.drv || t.pair.kxSt ≠ 1 then t
    else if !t.kxRuns then t.kxDrop
    else if !Config.ecdsaVerify key pub sig || t.pair.peerId ≠ some (Config.identityOf key) then t.kxEnd 3
    else
      (t.mdPair (fun p => { p with kxPeer := pub })).psend (.kxKeys (Config.gcmSeal (Config.session t.pair.kxPriv pub) t.kxText)))

/-- KX_KEYS at the standby: it wraps them under its own device key. -/
def kxKeysRx (h : Hdr) (text : List Byte) (s : State) : State :=
  s.preceive h (fun t =>
    if t.pair.drv || t.pair.kxSt ≠ 1 then t
    else if !t.kxRuns then t.kxDrop
    else match Config.gcmOpen (Config.session t.pair.kxPriv t.pair.kxPeer) text with
    | none => t.kxEnd 3
    | some text => (t.psend (.kxWraps (kxWrap text))).kxEnd 2)

/-- KX_WRAPS at the holder: 64 wrapped keys of 136 bytes. A new key block is written on every member sled, in the wrap set that does not hold
this controller's identity; in a key erase it is that job's new block (R216 step 3). -/
def kxWrapsRx (h : Hdr) (wraps : List Byte) (s : State) : State :=
  s.preceive h (fun t =>
    if !t.pair.drv || !t.kxRuns || wraps.length ≠ 8704 then (if t.pair.drv then t.kxDrop else t)
    else
      let old := (t.members.head?).bind (fun m => (t.sled m).dev.keys)
      let other : WrapSet := { id := t.pair.peerId.getD 0, keys := wraps }
      match (if t.vault.keyStep = 3 then t.vault.keyNew else none) with
      | some k =>
        let kb := { k with sets := bothSets old (ownSet k) other }
        ((t.kxEnd 2).mdVault (fun v => { v with keyNew := some kb, keyStep := 1 })).keysOut kb
      | none =>
        let k : KeyBlock := { vaultId := t.vault.id, keyEpoch := t.vault.keyEpoch, nonce := t.vault.nonce, mat := t.vault.mat }
        let kb := { k with sets := bothSets old (ownSet k) other }
        (t.mdPair (fun p => { p with kxBlock := some kb })).keysOut kb)

end State
end Sys2Proof.Machine
end

