-- ==== Sys2Proof/Machine/Fabric.lean ====
section
/-! DEFINITION. The Vogiham fabric (11): ports, frames and forwarding, addresses, link-state routing, fabric time, tables and shares, requests. -/

namespace Sys2Proof.Machine
namespace State

def mdFab (f : Fab → Fab) (s : State) : State := { s with fab := f s.fab }
abbrev fport (s : State) (i : Nat) : FabPort := rd s.fab.ports i
def mdFport (i : Nat) (f : FabPort → FabPort) (s : State) : State := s.mdFab (fun v => { v with ports := md v.ports i f })

/-- The node's address: the image's, or the discovered one; 0 none yet (R357). -/
def nodeAddr (s : State) : Nat := if s.fab.cfg.nodeAddr ≠ 0 then s.fab.cfg.nodeAddr else s.aon.fabAddr
def nodeStatic (s : State) : Bool := s.fab.cfg.nodeAddr != 0

/-- F, or H of a node that has lost its parent: L plus the last offset (R361, R365). -/
def holdNs (s : State) : Int := s.clk.l + s.fab.off

def fabOn (s : State) (i : Nat) : Bool := s.ctrlBit 10 i

/-! ### Ports (R352 to R354) -/

/-- The supply rails of the fabric island are good (Table 17-11). -/
def fabRails (s : State) : Bool := rd s.pins.rails 0 && rd s.pins.rails 2 && rd s.pins.rails 3

/-- The fabric island runs: powered by the state, its rails good, its clock there and its PLL in lock, not held by a block reset (Table 01-3, R496, R498,
R499). MR_N leaves it running (R18). -/
def fabRuns (s : State) : Bool :=
  !s.inState [.off, .wake, .hold] && s.fabRails && s.pins.refclkRun && rd s.pins.pllLock 4 && !(rd s.flt.blocks 13).held

/-- Source FAB_PORT[i] follows "enabled and in FAILED", where there is a collector to take it. -/
def fabSource (i : Nat) (s : State) : State := if s.ctlOn then s.follow (130 + i) 0xFFFF (s.fabOn i && (s.fport i).st == 4) else s

/-! ### The partner link's lanes, which this island carries (R74, R78 to R85, R335) -/

def mdPl (f : PLink → PLink) (s : State) : State := s.mdFab (fun v => { v with pl := f v.pl })

/-- SIGNAL_DETECT and the 1 s retry of FAILED. -/
def plSignal (s : State) : State := if s.fabRuns && s.fab.pl.st = 0 && !s.fab.pl.failed then s.mdPl plAttempt else s
def plRetry (s : State) : State := if s.fabRuns && s.fab.pl.failed then s.mdPl plAttempt else s

/-- BLOCK_LOCK on the lanes of a width of Table 03-1. -/
def plLock (lanes : Nat) (s : State) : State :=
  match widthLanes 2 lanes with
  | some (_, m) => if s.fabRuns && s.fab.pl.st = 1 then s.mdPl (fun l => { l with st := 2, lanes := m }) else s
  | none => s

/-- TRAIN_1, as on a cache port (R83, R84). -/
def plTrain1 (lane laneNo coef sq : Nat) (s : State) : State :=
  let l := s.fab.pl
  if !s.fabRuns || l.st ≠ 2 then s
  else if laneNo ≠ lane then s.mdPl (fun l => if l.failed then { l with st := 0, lanes := 0 } else plAttempt l)
  else if 64 ≤ rd l.reqs lane || l.coef.any (fun c => c.1 == lane && c.2.2 == sq && 0 < rd l.reqs lane) then s
  else s.mdPl (fun l => { l with coef := (l.coef.filter (fun c => c.1 != lane)) ++ [(lane, coef, sq)], reqs := md l.reqs lane (· + 1) })

/-- TRAIN_2 with an agreeing width: messages travel. There is no IDENT to wait for on this link (Table 10-1). -/
def plTrain2 (width : Nat) (s : State) : State :=
  if s.fabRuns && s.fab.pl.st = 2 && (idxs 4 (fun i => bitOf s.fab.pl.lanes i)).length = width then
    s.mdPl (fun l => { l with st := 3, rcv := false, failed := false, fails := 0 })
  else s

/-- The link goes DOWN: unacknowledged messages are dropped. -/
def plDown (failed : Bool) (s : State) : State := (s.mdFab (fun v => { v with pl := { failed, fails := v.pl.fails } })).mdPair (fun p => { p with chan := p.chan.clear, plOpen := false })

/-- TRAINING_TIMEOUT: the third attempt in a row leaves the link FAILED (R85). -/
def plTimeout (s : State) : State :=
  let l := s.fab.pl
  if !s.fabRuns || !(l.st = 1 || l.st = 2) then s
  else if l.failed || 3 ≤ l.fails + 1 then (s.mdPl (fun l => { l with fails := 3 })).plDown true
  else s.mdPl (fun l => { plAttempt l with fails := l.fails + 1 })

/-- LANE_LOCK_LOST. -/
def plLost (lane : Nat) (s : State) : State := if s.fabRuns && s.fab.pl.st = 3 && bitOf s.fab.pl.lanes lane then s.plRecover else s

/-- QUIET. -/
def plQuiet (s : State) : State := if s.fabRuns && s.fab.pl.st ≠ 0 then s.plDown false else s

/-- A training attempt starts at once where the port is enabled (Table 11-1); leaving UP sets EVT.LINK. -/
def fabTrain (i : Nat) (s : State) : State :=
  let up := (s.fport i).st == 3
  let s1 := s.mdFport i (fun p => { p with
    st := if s.fabOn i then 1 else 0, heard := false, nbr := 0, chan := p.chan.clear, retrains := if s.fabOn i then satAdd 0xFFF p.retrains 1 else p.retrains })
  let s2 := if up then (s1.mdFab (fun v => { v with relsa := true })).setEvt 10 0 else s1
  s2.fabSource i

/-- The fabric island powers: its enabled ports start training. -/
def fabStart (s : State) : State := if s.fabRails && !(rd s.flt.blocks 13).held then forN 4 (fun i t => if t.fabOn i then t.fabTrain i else t) s else s

/-- The fabric island is reset: its registers return to their reset values, those of the newest grant among them, and the partner link, which it
carries, starts again. The share in force stands until its expiry, which a node that is not synchronised judges by H (R6, R371, Table 12-5); the
configuration is given to it again. -/
def fabReset (s : State) : State :=
  let v := s.fab
  let s1 := { s with
    fab := { cfg := v.cfg, tbl := v.tbl, bnd := v.bnd, off := v.off, grant := v.grant, next := v.next, share := v.share, p := v.p, exp := v.exp,
             fallback := v.fallback, fallAt := v.fallAt, stagger := v.stagger, duty := v.duty }
    ctrl := wr s.ctrl 10 (rd (State.reset).ctrl 10), evt := wr s.evt 10 0 }
  forN 4 fabSource (s1.mdPair (fun p => { p with chan := p.chan.clear, plOpen := false }))

/-- Send a frame on a port; what waits for room goes out in PRIO order (R356). -/
def fsend (i : Nat) (m : FMsg) (s : State) : State :=
  if 2 ≤ (s.fport i).st && (s.fport i).st ≤ 3 then
    s.mdFport i (fun p => let c := p.chan.push m; { p with chan := { c with wait := c.wait.mergeSort (fun a b => decide (a.prio ≤ b.prio)) } })
  else s

def upPorts (s : State) : List Nat := idxs 4 (fun i => (s.fport i).st == 3)

/-- ERROR 0x10 to the neighbour: a malformed message. -/
def fabBad (i : Nat) (h : Hdr) (s : State) : State := s.fsend i { dst := 0xFFF, src := s.nodeAddr, prio := 3, body := .error 0x10 h.seq.toNat }

/-- A frame's message header at a port (R87, R88); `f` is done only for one in sequence and well formed. -/
def freceive (i : Nat) (h : Hdr) (f : State → State) (s : State) : State :=
  if !(2 ≤ (s.fport i).st && (s.fport i).st ≤ 3) then s
  else
    let s1 := if h.ackV then s.mdFport i (fun p => { p with chan := (p.chan.ack h.ack.toNat).refill }) else s
    let c := (s1.fport i).chan
    if c.expect ≠ h.seq.toNat then s1.mdFport i (fun p => { p with chan := { p.chan with nak := some c.expect } })
    else
      let s2 := s1.mdFport i (fun p => { p with chan := p.chan.accept })
      if h.ok then f s2 else s2.fabBad i h

def fabAck (i : Nat) (h : Hdr) (s : State) : State :=
  if !h.ok then s.fabBad i h
  else if h.ackV then s.mdFport i (fun p => { p with chan := (p.chan.ack h.ack.toNat).refill }) else s

/-- NAK on a fabric port, or a discarded message. However often a message is replayed, the port trains again only for silence or lost block lock
(R354). -/
def fabNak (i : Nat) (w : NakWhy) (s : State) : State :=
  if !(2 ≤ (s.fport i).st && (s.fport i).st ≤ 3) then s
  else match w with
  | .received h e => if h.ok then (s.fabAck i h).mdFport i (fun p => { p with chan := (p.chan.nakFrom e.toNat).refill }) else s.fabBad i h
  | _ => s.mdFport i (fun p => { p with chan := { p.chan with nak := some p.chan.expect } })

/-- Replay on a fabric port (R88, R353). -/
def fabReplay (i : Nat) (s : State) : State :=
  if (s.fport i).chan.buf.isEmpty then s else s.mdFport i (fun p => { p with chan := { p.chan with tries := p.chan.tries + 1 } })

/-- FABRIC_TRAINED: HELLO is entered. -/
def fabTrained (i : Nat) (s : State) : State :=
  if (s.fport i).st = 1 then s.mdFport i (fun p => { p with st := 2, fec := bitOf s.fab.cfg.fec i, heard := false, chan := p.chan.clear, cost := rd s.fab.cfg.cost i }) else s

/-- FABRIC_TRAINING_FAIL: 500 ms without UP; the third in a row leaves the port FAILED. -/
def fabTrainFail (i : Nat) (s : State) : State :=
  if (s.fport i).st = 1 || (s.fport i).st = 2 then
    let n := (s.fport i).fails + 1
    if 3 ≤ n then (s.mdFport i (fun p => { p with st := 4, fails := 3, heard := false })).fabSource i
    else (s.mdFport i (fun p => { p with fails := n })).fabTrain i
  else s

/-- FABRIC_TRAIN_RETRY: every 10 s in FAILED while enabled. -/
def fabRetry (i : Nat) (s : State) : State := if (s.fport i).st = 4 && s.fabOn i then s.fabTrain i else s

/-- FABRIC_LOCK_LOST and FABRIC_PORT_SILENT. -/
def fabDown (i : Nat) (s : State) : State := if 2 ≤ (s.fport i).st && (s.fport i).st ≤ 3 then s.fabTrain i else s

/-- PORT_EN changed by a host write of FAB.CTRL. -/
def fabEnable (old : Word) (s : State) : State :=
  forN 4 (fun i t =>
    if old.getLsbD i == t.fabOn i then t
    else if t.fabOn i then (t.mdFport i (fun p => { p with fails := 0 })).fabTrain i
    else t.fabTrain i) s

/-- HELLO_SEND (Table 11-3). -/
def helloSend (s : State) : State :=
  forN 4 (fun i t =>
    t.fsend i { dst := 0xFFF, src := t.nodeAddr, prio := 0, body := .hello Config.identity t.nodeAddr t.nodeStatic (t.fport i).heard (bitOf t.fab.cfg.fec i) i (rd t.fab.cfg.cost i) }) s

/-- FABRIC_HELLO: the port is UP once the neighbour's HELLO has SEEN = 1. -/
def helloRx (i : Nat) (h : Hdr) (addr cost : Nat) (seen : Bool) (s : State) : State :=
  s.freceive i h (fun t =>
    let was := t.fport i
    let t1 := t.mdFport i (fun p => { p with heard := true, nbr := addr, far := cost, cost := max (rd t.fab.cfg.cost i) cost })
    if seen && was.st = 2 then ((t1.mdFport i (fun p => { p with st := 3, fails := 0 })).mdFab (fun v => { v with relsa := true })).setEvt 10 0
    else if was.st = 3 && was.nbr ≠ addr then t1.mdFab (fun v => { v with relsa := true }) else t1)

/-! ### Forwarding (R356) -/

/-- ROUTE[a]. -/
def routeOf (s : State) (a : Nat) : Nat := ((s.fab.routes.find? (fun e => e.1 == a)).map (·.2)).getD 0

/-- The port a flow takes: of rank (SRC xor DST) mod k among the mask's ports, ascending. -/
def flowPort (s : State) (src dst : Nat) : Option Nat :=
  let ps := idxs 4 (fun i => bitOf (s.routeOf dst) i)
  if ps.isEmpty then none else ps[(Nat.xor src dst) % ps.length]?

/-- Send a frame of this node to another; false where no port leads there. -/
def unicast (dst prio : Nat) (b : FBody) (s : State) : Bool × State :=
  match s.flowPort s.nodeAddr dst with
  | none => (false, s)
  | some i => (true, s.fsend i { dst, src := s.nodeAddr, prio, body := b })

/-- FABRIC_FORWARD. -/
def fabForward (i : Nat) (h : Hdr) (m : FMsg) (s : State) : State :=
  s.freceive i h (fun t =>
    if m.dst = t.nodeAddr || m.dst = 0xFFF || t.fab.isolated || m.ttl ≤ 1 then t
    else match t.flowPort m.src m.dst with
    | none => t
    | some k => t.fsend k { m with ttl := m.ttl - 1 })

/-! ### Addresses and the database (R357 to R359) -/

/-- ADDRESS_DISCOVER. -/
def addrDiscover (s : State) : State :=
  if s.nodeStatic || (s.aon.fabAddr ≠ 0 && !s.fab.loser) then s
  else
    let a0 := (crc32c (leBytes 8 Config.identity.toNat)).toNat % 4094
    let free := fun a => !s.fab.db.any (fun e => e.addr == a && e.id != Config.identity)
    match ((List.range 4094).map (fun k => 1 + (a0 + k) % 4094)).find? free with
    | none => s
    | some a => { s with aon := { s.aon with fabAddr := a }, fab := { s.fab with loser := false, relsa := true } }

/-- Serial order of ASEQ. -/
def aseqNewer (a b : Nat) : Bool := let d := (a + 2 ^ 32 - b % 2 ^ 32) % 2 ^ 32; 1 ≤ d && d < 2 ^ 31

/-- Flood an LSA on every UP port but one. -/
def flood (m : Lsa) (but : Option Nat) (s : State) : State :=
  forL (s.upPorts.filter (fun k => some k != but)) (fun k t => t.fsend k { dst := 0xFFF, src := t.nodeAddr, prio := 2, body := .lsa m }) s

/-- The same origin: one address under one identity (R358, R359). -/
def Lsa.origin (m e : Lsa) : Bool := e.addr == m.addr && e.id == m.id

/-- Put an LSA into the database, or take its origin out where its age is 255. -/
def storeLsa (m : Lsa) (s : State) : State :=
  let db := s.fab.db.filter (fun e => !Lsa.origin m e)
  if m.age = 255 then s.mdFab (fun v => { v with db, dirty := true })
  else if 4096 ≤ db.length then s
  else s.mdFab (fun v => { v with db := db ++ [m], dirty := true })

/-- The LSA of this node. -/
def ownLsa (s : State) : Lsa :=
  { id := Config.identity, addr := s.nodeAddr, static := s.nodeStatic, pps := s.fab.pps, tpri := s.fab.cfg.tpri, age := 0, aseq := s.fab.aseq,
    links := (List.range 4).map (fun i => let p := s.fport i; (p.nbr, rd s.fab.cfg.cost i, p.st == 3)) }

/-- LSA_ORIGINATE: on a change of the ports, or every 10 s. -/
def lsaOriginate (s : State) : State :=
  if s.nodeAddr = 0 || s.fab.isolated || s.fab.loser then s
  else
    let s1 := s.mdFab (fun v => { v with aseq := (v.aseq + 1) % 2 ^ 32, relsa := false })
    (s1.storeLsa s1.ownLsa).flood s1.ownLsa none

/-- Source FAB_ADDR is live while the database holds this node's static address as another node's static one, and while this node is
isolated by such a conflict (R358; DEDUCED, log entry 179). -/
def addrSource (s : State) : State :=
  if !s.ctlOn then s else s.follow 129 0xFFFF (s.fab.isolated || (s.nodeStatic && s.fab.db.any (fun e => e.addr == s.nodeAddr && e.id != Config.identity && e.static)))

/-- An LSA that holds this node's address under another identity (R358). -/
def ownConflict (m : Lsa) (s : State) : State :=
  if m.static && s.nodeStatic then
    let s1 := s.setEvt 10 1
    if m.id < Config.identity then s1.mdFab (fun v => { v with isolated := true, isoHdr := s.im.hdr, db := v.db.filter (fun e => e.id != Config.identity), dirty := true }) else s1
  else if m.static || (!s.nodeStatic && m.id < Config.identity) then
    let gone := { s.ownLsa with age := 255, aseq := (s.fab.aseq + 1) % 2 ^ 32 }
    let s1 := (s.mdFab (fun v => { v with aseq := (v.aseq + 1) % 2 ^ 32, loser := true })).storeLsa gone
    { s1.flood gone none with aon := { s.aon with fabAddr := 0 } }
  else s.mdFab (fun v => { v with relsa := true })

/-- A received LSA is newer than the one held of its origin (R359). -/
def lsaNewer (db : List Lsa) (m : Lsa) : Bool :=
  match db.find? (Lsa.origin m) with
  | some e => m.age == 255 || aseqNewer m.aseq e.aseq
  | none => m.age != 255

/-- LSA: a newer one is stored and flooded, that of a conflicting identity and one under this node's own as well; a conflict over this node's own
address is settled (R358, R359). This node's own LSA from an earlier run is answered by a newer one. An isolated node stores and forwards nothing
(R358). -/
def lsaRx (i : Nat) (h : Hdr) (m : Lsa) (s : State) : State :=
  s.freceive i h (fun t =>
    if m.addr = 0 || 0xFFE < m.addr then t
    else
      let new := lsaNewer t.fab.db m
      let u := if !new then t else if t.fab.isolated then t.storeLsa m else (t.storeLsa m).flood m (some i)
      if m.id = Config.identity then (if new && aseqNewer m.aseq t.fab.aseq then u.mdFab (fun v => { v with aseq := m.aseq, relsa := true }) else u)
      else if m.addr ≠ t.nodeAddr then u
      else (if m.age = 255 || t.fab.isolated then u else u.ownConflict m).addrSource)

/-- Ages rise each second. -/
def lsaAge (s : State) : State := s.mdFab (fun v => { v with db := v.db.map (fun e => { e with age := min 254 (e.age + 1) }) })

/-- An image is accepted or its tuning reloaded: the island is given its sections; an isolated node whose image changed takes part again (R358); a port that runs with the other FEC setting trains
again, and costs are the image's (R352, R360). -/
def fabImage (s : State) : State :=
  let s0 := s.mdFab (fun v => { v with cfg := s.im.fab, tbl := s.im.table })
  let s1 := (if s.fab.isoHdr = s.im.hdr then s0 else s0.mdFab (fun v => { v with isolated := false })).addrSource
  (forN 4 (fun i t =>
    if 2 ≤ (t.fport i).st && (t.fport i).st ≤ 3 && (t.fport i).fec != bitOf t.fab.cfg.fec i then t.fabTrain i
    else t.mdFport i (fun p => { p with cost := max (rd t.fab.cfg.cost i) p.far })) s1).mdFab
    (fun v => { v with relsa := true })

/-- LSA_EXPIRY of an origin: removed at age 40, with its route. -/
def lsaExpiry (a : Nat) (s : State) : State :=
  if s.fab.db.any (fun e => e.addr == a && 40 ≤ e.age) then
    let s1 := s.mdFab (fun v =>
      let db := v.db.filter (fun e => !(e.addr == a && 40 ≤ e.age))
      { v with db, routes := if db.any (fun e => e.addr == a) then v.routes else v.routes.filter (fun e => e.1 != a), dirty := true })
    if a = s.nodeAddr then s1.addrSource else s1
  else s

/-! ### Routes (R360) -/

/-- The origins that routes lead to: of those under one address the one that keeps it by R358. -/
def keepers (db : List Lsa) : List Lsa :=
  db.filter (fun e => !db.any (fun x => x.addr == e.addr && ((x.static && !e.static) || (x.static == e.static && x.id < e.id))))

/-- Cost of a link from origin `e` to address `b`, both other nodes: both ends list each other as up; the larger of the two costs. An LSA does
not say which port of one end meets which of the other: of parallel links between two other nodes each end counts with its smallest cost
(DESIGN CHOICE, log entry 180). -/
def linkCost (db : List Lsa) (e : Lsa) (b : Nat) : Option Nat :=
  match db.find? (fun x => x.addr == b) with
  | none => none
  | some x =>
    let mn := fun (l : List Nat) => l.foldl (fun (m : Option Nat) c => match m with | some y => some (min y c) | none => some c) none
    let one := mn ((e.links.filter (fun k => k.1 == b && k.2.2)).map (·.2.1))
    let two := mn ((x.links.filter (fun k => k.1 == e.addr && k.2.2)).map (·.2.1))
    match one, two with
    | some c, some d => some (max c d)
    | _, _ => none

/-- One round of relaxation of distances. -/
def relax (db : List Lsa) (ds : List (Nat × Nat)) : List (Nat × Nat) :=
  db.filterMap (fun e =>
    let via := db.filterMap (fun n => match ds.find? (fun d => d.1 == n.addr), linkCost db n e.addr with
      | some d, some c => some (d.2 + c)
      | _, _ => none)
    let own := (ds.filter (fun d => d.1 == e.addr)).map (·.2)
    ((own ++ via).foldl (fun (m : Option Nat) c => match m with | some y => some (min y c) | none => some c) none).map (fun c => (e.addr, c)))

/-- Distances from an origin. -/
def distances (db : List Lsa) (a : Nat) : List (Nat × Nat) := iter db.length (relax db) [(a, 0)]

/-- Own links that count, by both ends' LSAs: port, neighbour, and the larger of this link's two COSTs, the other end's from its HELLO. -/
def countedLinks (s : State) : List (Nat × Nat × Nat) :=
  match s.fab.db.find? (fun x => x.addr == s.nodeAddr && x.id == Config.identity) with
  | none => []
  | some me =>
    (List.range 4).filterMap (fun i =>
      let k := me.links.getD i (0, 0, false)
      match (keepers s.fab.db).find? (fun x => x.addr == k.1) with
      | none => none
      | some x => if k.2.2 && x.links.any (fun b => b.1 == s.nodeAddr && b.2.2) then some (i, k.1, (s.fport i).cost) else none)

/-- ROUTE of every reachable address. -/
def shortest (s : State) : List (Nat × Nat) :=
  let db := (keepers s.fab.db).filter (fun e => e.addr != s.nodeAddr)
  let legs := s.countedLinks.map (fun l => (l.1, l.2.2, distances db l.2.1))
  db.filterMap (fun e =>
    let ds := legs.filterMap (fun l => (l.2.2.find? (fun d => d.1 == e.addr)).map (fun d => (l.1, l.2.1 + d.2)))
    if ds.isEmpty then none
    else
      let m := ds.foldl (fun a d => min a d.2) 0xFFFFFFFF
      some (e.addr, ds.foldl (fun a d => if d.2 = m then a + 2 ^ d.1 else a) 0))

/-- SYNCED and DISC change together with EVT.SYNC. -/
def setSync (sy di : Bool) (s : State) : State :=
  let s1 := s.mdFab (fun v => { v with synced := sy, disc := di && sy, ever := v.ever || sy, fresh := if sy then false else if v.synced then true else v.fresh, good := if v.synced && !sy then 0 else v.good })
  if s1.fab.synced != s.fab.synced || s1.fab.disc != s.fab.disc then s1.setEvt 10 2 else s1

/-- Whether the time root holds PPS_LOCK, by its LSA. -/
def rootPps (s : State) : Bool :=
  if s.fab.root = s.nodeAddr then s.fab.pps else match (keepers s.fab.db).find? (fun e => e.addr == s.fab.root) with | some e => e.pps | none => false

/-- The time root of the component: PPS_LOCK, then lowest TPRI, then lowest address (R361). -/
def bestRoot (s : State) : Nat :=
  let me := s.ownLsa
  let ls := (keepers s.fab.db).filter (fun e => e.addr != s.nodeAddr && s.routeOf e.addr != 0)
  (ls.foldl (fun (b : Lsa) e =>
    if (e.pps && !b.pps) || (e.pps == b.pps && (e.tpri < b.tpri || (e.tpri = b.tpri && e.addr < b.addr))) then e else b) me).addr

/-- The root and parent follow the routes; another parent clears FLAGS bit 0, another root behind the same parent does not (R361, R363). -/
def judgeRoot (s : State) : State :=
  if s.nodeAddr = 0 then s
  else
    let r := s.bestRoot
    let par := (idxs 4 (fun i => bitOf (s.routeOf r) i)).headD 0
    let me := r = s.nodeAddr
    let at_ := if me then 0 else (s.fport par).nbr
    let change := at_ ≠ s.fab.parentAt
    let s1 := s.mdFab (fun v => { v with root := r, parent := if me then 0 else par, parentAt := at_, t1 := if change || par ≠ v.parent then none else v.t1, off := if me && !v.ever then 0 else v.off, hops := if me then 0 else v.hops })
    if me then s1.setSync true s1.fab.pps
    else if change then (s1.mdFab (fun v => { v with bad := 0, good := 0 })).setSync false false
    else s1.setSync s1.fab.synced s1.rootPps

/-- ROUTE_COMPUTE. -/
def routeCompute (s : State) : State :=
  if s.nodeAddr = 0 || s.fab.isolated then s
  else (s.mdFab (fun v => { v with routes := s.shortest, dirty := false })).judgeRoot

/-! ### Fabric time (R361 to R365) -/

def isRoot (s : State) : Bool := s.nodeAddr != 0 && s.fab.root == s.nodeAddr

/-- TSYNC_TIMER: a request to the parent; one still unanswered has failed. -/
def tsyncTimer (s0 : State) : State :=
  let s := s0.arrive
  if s.nodeAddr = 0 || s.isRoot || s.fab.root = 0 then s
  else
    let n := if s.fab.t1.isSome then s.fab.bad + 1 else s.fab.bad
    let s1 := if 8 ≤ n then s.setSync false false else s
    let s2 := if s.fab.t1.isSome then s1.mdFab (fun v => { v with good := 0 }) else s1
    (s2.mdFab (fun v => { v with bad := n, t1 := some (s.holdNs % 2 ^ 64).toNat })).fsend s.fab.parent { dst := 0xFFF, src := s.nodeAddr, prio := 0, body := .tsyncReq }

/-- TSYNC_REQ: answered with t2 and t3; a replayed one is not used. -/
def tsyncReqRx (i : Nat) (h : Hdr) (replayed : Bool) (s : State) : State :=
  s.arrive.freceive i h (fun t =>
    if replayed then t else
    let t2 := BitVec.ofNat 64 (t.holdNs % 2 ^ 64).toNat
    let u := t.arrive
    u.fsend i { dst := 0xFFF, src := u.nodeAddr, prio := 0, body := .tsyncRsp t2 (BitVec.ofNat 64 (u.holdNs % 2 ^ 64).toNat) u.fab.root u.fab.hops u.fab.synced u.fab.disc })

/-- An exchange is judged (R362, R363): the slew of at most 200 ppm is taken whole, at most 25,000 ns for 125 ms. -/
def judgeSync (o : Int) (dly : Int) (hops : Nat) (psync pdisc : Bool) (s : State) : State :=
  let s1 := s.mdFab (fun v => { v with t1 := none, bad := 0, offset := o, delay := min 0xFFFF dly.toNat, hops := min 255 (hops + 1) })
  if s1.fab.fresh then s1.mdFab (fun v => { v with off := v.off + o, fresh := false, good := if psync && o.natAbs ≤ 50 then 1 else 0 })
  else
    let s2 := s1.mdFab (fun v => { v with off := v.off + clampI (-25000) 25000 o, good := if psync && o.natAbs ≤ 50 then min 3 (v.good + 1) else 0 })
    if s2.fab.synced then (if 1000 < o.natAbs then s2.setSync false false else s2.setSync true pdisc)
    else if 3 ≤ s2.fab.good then s2.setSync true pdisc else s2

/-- TSYNC_RSP; a replayed one is not used. -/
def tsyncRspRx (i : Nat) (h : Hdr) (t2 t3 : BitVec 64) (hops : Nat) (psync pdisc replayed : Bool) (s : State) : State :=
  s.arrive.freceive i h (fun t =>
    match t.fab.t1 with
    | none => t
    | some t1 =>
      if replayed || i ≠ t.fab.parent || t.isRoot then t
      else
        let t4 := t.holdNs
        let a : Int := toSigned 64 ((t2.toNat + 2 ^ 64 - t1 % 2 ^ 64) % 2 ^ 64)
        let b : Int := toSigned 64 (((t4 - (t3.toNat : Int)) % 2 ^ 64).toNat)
        t.judgeSync (divZ (a - b) 2) (divZ (a + b) 2) hops psync pdisc)

/-- Signed distance of F from a whole multiple of 10^9 ns. -/
def ppsErr (s : State) : Int :=
  let r := s.holdNs % 1000000000
  if r < 500000000 then r else r - 1000000000

/-- PPS_LOCK changes. -/
def setPps (b : Bool) (s : State) : State :=
  if s.fab.pps == b then s
  else
    let s1 := s.mdFab (fun v => { v with pps := b, relsa := true })
    if s1.isRoot then s1.setSync true b else s1

/-- PPS_EDGE: the root aligns F; three edges in a row within 50 ns lock (R365). -/
def ppsEdge (s0 : State) : State :=
  let s := s0.arrive
  if !s.fab.cfg.ppsIn || !s.isRoot then s
  else
    let e := s.ppsErr
    let ok := e.natAbs ≤ 50
    let s1 := s.mdFab (fun v => { v with off := v.off - e, ppsGood := if ok then min 3 (v.ppsGood + 1) else 0, ppsBad := if ok then 0 else min 3 (v.ppsBad + 1) })
    if 3 ≤ s1.fab.ppsGood then s1.setPps true else if 3 ≤ s1.fab.ppsBad then s1.setPps false else s1

/-- PPS_EDGE_MISSED. -/
def ppsMissed (s : State) : State :=
  if !s.fab.cfg.ppsIn then s
  else
    let s1 := s.mdFab (fun v => { v with ppsGood := 0, ppsBad := min 3 (v.ppsBad + 1) })
    if 3 ≤ s1.fab.ppsBad then s1.setPps false else s1

/-! ### Tables (R366 to R377) -/

def inTable (s : State) : Bool := s.fab.tbl.tableId != 0

/-- The node's slot of its table. -/
def ownSlot (s : State) : Nat :=
  ((List.range s.fab.tbl.m).find? (fun i => let m := s.fab.tbl.members.getD i {}; m.addr == s.nodeAddr || m.addr2 == s.nodeAddr)).getD 0

def member (s : State) (i : Nat) : MemberCfg := s.fab.tbl.members.getD i {}

/-- The pot ePotUpdate is to use: none outside a table; the grant's P, or in the fallback the own E_sum (R371). -/
def potP (s : State) : Option Nat :=
  if !s.inTable then none else match s.fab.grant with | some g => some g.p | none => some 0xFFFFFFFF

/-- RETREQ: in Return with restores queued or in flight (R375); a port that waits out RET_WAIT is in no queue (R263). -/
def retReq (s : State) : Bool := s.top.state == .ret && (List.range 64).any (fun p => ((s.rt p).out == 5 && !(s.rt p).pend) || (s.rt p).out == 6)

/-- What a turn boundary leaves for the REPORTs of the rounds that begin in its turn (Table 11-5). -/
def latchReport (s : State) : State := s.mdFab (fun v => { v with
  bnd := { state := s.top.state.code, retreq := s.retReq, sync := v.synced, held := v.share, heldExp := v.exp, eSum := s.nrg.eSum
           eStr := (List.range 16).map (fun k => (s.str k).eStr) } })

/-- This node's REPORT: the values of the last turn boundary, under its own address with its EPOCH (R367, R373). -/
def ownReport (s : State) : TRep :=
  { s.fab.bnd with src := s.nodeAddr, tableId := s.fab.tbl.tableId, slot := s.ownSlot, crc := s.fab.tbl.cfgCrc, round := s.fab.round, epoch := s.aon.epoch }

/-- The token holder acts for its slot (R366). -/
def tableActs (s : State) : Bool := s.inTable && s.holder && !s.fab.isolated && s.nodeAddr != 0 && s.ctlOn

/-- ROUND_START k: REPORT goes to the addresses of every other slot (R367). -/
def roundStart (k : Nat) (s : State) : State :=
  let s1 := s.mdFab (fun v => { v with round := k, coord := false, duty := true })
  if !s1.inTable || !s1.tableActs then s1
  else
    let r := s1.ownReport
    let s2 := s1.mdFab (fun v => { v with reps := v.reps.filter (fun x => x.slot != r.slot) ++ [r] })
    forL ((List.range s.fab.tbl.m).filter (fun i => i != s2.ownSlot)) (fun i t =>
      forL ([(t.member i).addr, (t.member i).addr2].filter (· != 0)) (fun a u => (u.unicast a 1 (.report r)).2) t) s2

/-- TABLE_REPORT: of two reports of one slot the newer EPOCH wins (R368). -/
def tableReportRx (i : Nat) (h : Hdr) (m : TRep) (s : State) : State :=
  s.freceive i h (fun t =>
    if !t.inTable || t.fab.isolated || m.tableId ≠ t.fab.tbl.tableId || m.round ≠ t.fab.round || t.fab.tbl.m ≤ m.slot then t
    else match t.fab.reps.find? (fun r => r.slot == m.slot) with
    | none => t.mdFab (fun v => { v with reps := v.reps ++ [m] })
    | some r =>
      let d := (m.epoch + 65536 - r.epoch % 65536) % 65536
      if r.round ≠ m.round || (1 ≤ d && d ≤ 32767) then t.mdFab (fun v => { v with reps := v.reps.filter (fun r => r.slot != m.slot) ++ [m] }) else t)

/-- This node's own REPORT of the running round. -/
def roundReport (s : State) : TRep := (s.fab.reps.find? (fun r => r.slot == s.ownSlot && r.round == s.fab.round)).getD s.ownReport

/-- The reports of this round that count, this node's own, as it was sent, among them while it is synchronised (R368). -/
def liveReps (s : State) : List TRep :=
  (if s.fab.synced then [s.roundReport] else []) ++ s.fab.reps.filter (fun r => r.slot != s.ownSlot && r.round == s.fab.round && r.crc == s.fab.tbl.cfgCrc && r.sync)

/-- The shares of a round (R370). -/
def computeShares (s : State) (live : List TRep) (first : Bool) : List (Option Nat) :=
  let m := s.fab.tbl.m
  let isLive := fun i => live.any (fun r => r.slot == i)
  let surplus := 60000 - sumN m (fun i => (s.member i).min)
  let wl := sumN m (fun i => if isLive i then (s.member i).w else 0)
  let old := fun (g : List (Option Nat)) i => (g.getD i none).getD 0
  let res := fun i => max (s.member i).min (max (old s.fab.g1 i) (old s.fab.g2 i))
  let tgt := fun i => (s.member i).min + (if wl = 0 then 0 else surplus * (s.member i).w / wl)
  if first then
    (List.range m).map (fun i => match live.find? (fun r => r.slot == i) with | some r => some (min (tgt i) r.held) | none => none)
  else
    ((List.range m).foldl (fun (a : Nat × List (Option Nat)) i =>
      if !isLive i then (a.1, a.2 ++ [none])
      else if tgt i ≤ res i then (a.1, a.2 ++ [some (tgt i)])
      else
        let inc := min (tgt i - res i) a.1
        (a.1 - inc, a.2 ++ [some (res i + inc)])) (60000 - sumN m res, [])).2

/-- The pot of a round (R369). -/
def computePot (s : State) (live : List TRep) : Nat :=
  sumN 16 (fun k => if bitOf s.fab.tbl.strings k then
    ((live.map (fun r => r.eStr.getD k 0)).foldl (fun (a : Option Nat) e => match a with | some x => some (min x e) | none => some e) none).getD 0 else 0)

/-- The return turn (R376): answers the slot, and the round it got the turn. A turn that an earlier coordinator gave counts from the first
accepted grant that named its slot. -/
def returnTurn (s : State) (live : List TRep) (first : Bool) : Nat × Option Nat :=
  let cur := s.fab.newest.retSlot
  let since := s.fab.retSince.getD s.fab.round
  if first then (cur, some since)
  else
    let req := fun i => live.any (fun r => r.slot == i && r.retreq)
    if cur ≠ 0xF && req cur && (s.fab.round + 2 ^ 32 - since) % 2 ^ 32 * 100 < s.fab.tbl.retTurnMax * 1000 then (cur, some since)
    else
      let m := s.fab.tbl.m
      let ord0 := if cur = 0xF then m - 1 else (s.member cur).order
      let at_ := fun o => (List.range m).find? (fun i => (s.member i).order == o)
      let next := ((List.range m).map (fun k => (ord0 + 1 + k) % m)).filterMap (fun o => match at_ o with | some i => if req i then some i else none | none => none)
      match next.head? with
      | some i => (i, some s.fab.round)
      | none => (0xF, none)

/-- Serial order of rounds. -/
def roundNewer (a b : Nat) : Bool := let d := (a + 2 ^ 32 - b % 2 ^ 32) % 2 ^ 32; 1 ≤ d && d < 2 ^ 31

/-- A GRANT that passes the check is the newest one, unless it is of the newest one's round with a COORD not lower (R368), or comes late, of a round
before it. A newest grant of a round that F, once set back (R363), has still to reach is newer than nothing. -/
def acceptGrant (g : TGrant) (s : State) : State :=
  let n := s.fab.newest
  if roundNewer g.round n.round || roundNewer n.round s.fab.round || (g.round = n.round && g.coord < n.coord) then
    s.mdFab (fun v => { v with newest := g, next := some g, retSince := if g.retSlot = 0xF then none else if g.retSlot = n.retSlot then v.retSince else some g.round })
  else s

/-- COORDINATE at t_k + 20 ms (R368 to R370, R372, R376); after a takeover from the next round on (R373; DEDUCED, log entry 208). -/
def coordinate (s : State) : State :=
  if !s.tableActs || !s.fab.duty then s
  else
    let live := s.liveReps
    let slots := live.map (·.slot)
    let me := s.ownSlot
    let s1 := s.mdFab (fun v => { v with
      live := (slotSet (fun i => slots.contains i)).toNat, retreq := (slotSet (fun i => live.any (fun r => r.slot == i && r.retreq))).toNat })
    if !(slots.contains me) || slots.any (· < me) || 2 * slots.length ≤ s.fab.tbl.m then
      s1.mdFab (fun v => { v with coord := false, coordFor := 0, g1 := [], g2 := v.g1 })
    else
      let acted := if (s.fab.gRound + 1) % 2 ^ 32 = s.fab.round then s.fab.coordFor else 0
      let first := acted < 3
      let g := s.computeShares live first
      let (rs, since) := s.returnTurn live first
      let gr : TGrant := { tableId := s.fab.tbl.tableId, coord := me, retSlot := rs, first, crc := s.fab.tbl.cfgCrc, round := s.fab.round, live := s1.fab.live, p := s.computePot live, shares := g.map (·.getD 0) }
      let s2 := s1.mdFab (fun v => { v with coord := true, coordFor := min 4 (acted + 1), gRound := v.round, g2 := v.g1, g1 := g })
      let s3 := (forL (live.filter (fun r => r.slot != me)) (fun r t => (t.unicast r.src 1 (.grant gr)).2) s2).acceptGrant gr
      if s3.fab.newest = gr then s3.mdFab (fun v => { v with retSince := since }) else s3

/-- GRANT received. -/
def grantRx (i : Nat) (h : Hdr) (g : TGrant) (s : State) : State :=
  s.freceive i h (fun t =>
    if t.inTable && !t.fab.isolated && g.tableId = t.fab.tbl.tableId && g.crc = t.fab.tbl.cfgCrc then t.acceptGrant g else t)

/-- The share of the partition fallback, or none outside a table (R371). -/
def setShare (s : State) : State :=
  let s1 :=
    if !s.inTable then { s with fab := { s.fab with share := 0, p := 0, exp := 0, fallback := false, grant := none }, nrg := { s.nrg with num := 1, den := 1 } }
    else match s.fab.grant with
    | some g =>
      let sh := g.shares.getD s.ownSlot 0
      { s with fab := { s.fab with share := sh, p := g.p, exp := (g.round + 3) % 2 ^ 32, fallback := false, stagger := false }, nrg := { s.nrg with num := sh, den := 60000 } }
    | none =>
      let sh := (s.member s.ownSlot).min
      { s with fab := { s.fab with share := sh, p := s.nrg.eSum, fallback := true }, nrg := { s.nrg with num := sh, den := 60000 } }
  if s1.fab.fallback != s.fab.fallback then s1.setEvt 10 3 else s1

/-- The grant in force has expired by F or H (R371). -/
def grantOver (s : State) : Bool :=
  match s.fab.grant with
  | none => false
  | some g => decide (((g.round + 3) * 100000000 : Nat) ≤ s.holdNs)

/-- The grant in force is dropped: the partition fallback. -/
def grantDrop (s : State) : State :=
  match s.fab.grant with
  | none => s
  | some _ => (s.mdFab (fun v => { v with grant := none, exp := 0, fallAt := s.clk.l, stagger := false })).setShare

/-- A turn boundary: an accepted grant is applied, an expired one falls (Table 11-5, R371). -/
def tableTurn (s : State) : State :=
  let s1 := match s.fab.next with
    | some g => s.mdFab (fun v => { v with grant := some g, next := none })
    | none => s
  (if s1.grantOver then s1.grantDrop else s1.setShare)

/-- GRANT_EXPIRY: t_(k+3) of the grant in force falls in the running turn, or has passed. -/
def grantExpiry (s : State) : State :=
  match s.fab.grant with
  | none => s
  | some g => if decide (((g.round + 3) * 100000000 : Nat) < s.fab.off + s.clk.turnStart + 1000000) then s.grantDrop else s

/-- RET.STATUS.TABLE_WAIT is clear: no table, or the newest unexpired grant names this slot, or under the fallback the spacing has
passed (R375, R377). -/
def tableGo (s : State) : Bool :=
  !s.inTable || (match s.fab.grant with | some g => g.retSlot == s.ownSlot | none => s.fab.stagger)

/-- The local count at which a member in Return under the partition fallback starts its restores: the later of Return entry and the expiry of
its last grant, plus STAG_T times its ORDER (R377). -/
def staggerAt (s : State) : Nat :=
  max (s.clk.turnStart - s.top.turnsIn * 1000000) s.fab.fallAt + s.fab.tbl.stagT * (s.member s.ownSlot).order * 1000000000

/-- TABLE_STAGGER_EXPIRY: that instant falls in the running turn, or has passed. -/
def staggerExpiry (s : State) : State :=
  if s.inTable && s.fab.fallback && s.top.state = .ret && s.staggerAt < s.clk.turnStart + 1000000 then s.mdFab (fun v => { v with stagger := true }) else s

/-! ### Requests (R378, R379) -/

/-- The request ends. -/
def rqEnd (res words : Nat) (buf : List Word) (s : State) : State :=
  (s.mdFab (fun v => { v with rqGo := false, rqResult := res, rqWords := words, rqBuf := if words = 0 then v.rqBuf else buf })).setEvt 10 4

/-- A write of FAB.RQ_CTRL. -/
def rqWrite (w : Word) (s : State) : State :=
  let s1 := s.mdFab (fun v => { v with rqDst := bitsOf w 11 0, rqKind := bitsOf w 13 12 })
  let k := bitsOf w 13 12
  if !w.getLsbD 14 || s.fab.rqGo || !(k = 1 || k = 2) then s1
  else
    let s2 := s1.mdFab (fun v => { v with rqGo := true, rqTo := v.rqDst, rqAs := v.rqKind, rqResult := 0, rqWords := 0 })
    let (ok, s3) := s2.unicast (bitsOf w 11 0) 3 (if k = 1 then .telReq else .lreadReq s.fab.rqOfs (s.fab.rqLen + 1))
    if ok then s3 else s3.rqEnd 5 0 []

/-- TEL_RSP. -/
def telRspRx (i : Nat) (h : Hdr) (src : Nat) (block : List Byte) (s : State) : State :=
  s.freceive i h (fun t => if t.fab.rqGo && t.fab.rqAs = 1 && src = t.fab.rqTo then t.rqEnd 1 16 (wordsOf 16 block) else t)

/-- LREAD_RSP. -/
def lreadRspRx (i : Nat) (h : Hdr) (src status : Nat) (words : List Word) (s : State) : State :=
  s.freceive i h (fun t =>
    if t.fab.rqGo && t.fab.rqAs = 2 && src = t.fab.rqTo then
      (match status with
       | 0 => t.rqEnd 1 (min 1024 words.length) (words.take 1024)
       | 1 => t.rqEnd 4 0 []
       | _ => t.rqEnd 2 0 [])
    else t)

/-- FABRIC_ERROR: refused or busy. -/
def fabErrorRx (i : Nat) (h : Hdr) (src code : Nat) (s : State) : State :=
  s.freceive i h (fun t => if t.fab.rqGo && src = t.fab.rqTo && (code = 0x40 || code = 0x41) then t.rqEnd 2 0 [] else t)

/-- REQUEST_TIMEOUT. -/
def rqTimeout (s : State) : State := if s.fab.rqGo then s.rqEnd 3 0 [] else s

/-- Whether a request may be served: 0x40 refused, 0x41 busy, else none; a served one is remembered for 100 ms. -/
def serve (s : State) : Option Nat × State :=
  let now := s.fab.served.filter (fun t => decide (s.clk.l < t + 100000000))
  if !s.ctrlBit 10 4 then (some 0x40, s)
  else if 64 ≤ now.length then (some 0x41, s.mdFab (fun v => { v with served := now }))
  else (none, s.mdFab (fun v => { v with served := s.clk.l :: now }))

end State
end Sys2Proof.Machine
end

