-- ==== Sys2Proof/Machine/Power.lean ====
section
/-! DEFINITION. Supplies, resets and Boot (01, 09, 17): VAON and the core supply, supply monitors, MR_N, clocks, the entry to Boot and the
ledger scan. -/

namespace Sys2Proof.Machine
namespace State

def mdTop (f : Top → Top) (s : State) : State := { s with top := f s.top }
def mdPins (f : Pins → Pins) (s : State) : State := { s with pins := f s.pins }
def mdAon (f : Aon → Aon) (s : State) : State := { s with aon := f s.aon }

/-- Change the top-level state. -/
def enter (n : TopState) (s : State) : State := s.mdTop (fun t => { t with prev := t.state, state := n, turnsIn := 0 })

/-! ### Reset of the control, port and mover islands (R18, R324, R498) -/

/-- A sled across such a reset: a flash island that stays powered keeps its dies initialised; every sled is to be read again. -/
def sledReset (keep : Bool) (d : Sled) (prs : Bool) : Sled :=
  { cls := if prs then 1 else 0, pwr := keep && d.pwr, up := keep && d.up, chOk := if keep then d.chOk else 0, recipe := if keep then d.recipe else 0,
    phy := if keep then d.phy else [], trained := keep && d.trained, reread := keep && d.pwr, erases := if keep then d.erases else [], dev := d.dev }

/-- A ring across such a reset: its CQ registers stay with a powered flash island, and every queued descriptor has completed with 0x06. -/
def ringReset (keep : Bool) (g : Ring) : Ring :=
  if keep then
    let n := (g.slots.filter (fun e => e.2.status % 256 == 0)).length
    { g with isOpen := false, slots := g.slots.map (fun e => if e.2.status % 256 = 0 then (e.1, { e.2 with status := 6 }) else e), err := wr g.err 6 (satAdd 0xFFFF (rd g.err 6) n) }
  else {}

/-- Margining across a reset that leaves Service: it is cancelled first, and what is still to be sent to the devices goes on (R327). -/
def cancelsKept (s : State) : Tab Slot 64 × Rp :=
  let t := if s.top.state = .service then s.marginCancel else s
  let slots := tgen 64 (fun n => let x := t.slot n; if x.cancel then { mask := x.mask, ack := x.ack, cancel := true, tries := x.tries, ctx := x.ctx } else {})
  (slots, if (idxs 64 (fun n => (t.slot n).cancel)).isEmpty then {} else { tx := t.rp.tx.filter (fun x => x.slot.isSome), pageOf := t.rp.pageOf })

/-- The upper halves of AON's registers, as a read of the lower one would latch them, and OP_SEC: what the host reads before it has latched anything
(R476). -/
def aonRegs (s : State) : State :=
  let hi := fun (f : Str → Nat) => tgen 16 (fun k => BitVec.ofNat 32 (f (rd s.aon.strs k) / 2 ^ 32))
  { s with
    top := { s.top with opSec := s.aon.opSec }
    ledg := { s.ledg with wallHiLatch := BitVec.ofNat 32 (s.aon.wallMs / 2 ^ 32) }
    nrg := { s.nrg with qHi := hi (fun x => ofInt 48 x.q), cHi := hi (·.c), candHi := hi (·.cand) } }

/-- The control, port and mover islands lose their state; with `keep` the flash islands that are powered and the fabric island do not.
What AON, the devices on the card and the pins hold stays, and so does what AON pads drive, SEQFLT_N among it (Table 17-8); the partner link is the fabric island's. A learning discharge in state 1 or 2 is
to be aborted in the Rise that follows (R282). -/
def ctlReset (keep : Bool) (s : State) : State := aonRegs {
    clk := { s.clk with turnStart := s.clk.l, turn := 0 }, pins := s.pins, aon := s.aon, nor := s.nor, fuseCnt := s.fuseCnt, keyBanks := s.keyBanks
    epochRan := s.epochRan
    top := { state := s.top.state, prev := s.top.prev, swoMain := s.top.swoMain, swoBkp := s.top.swoBkp, frz := s.top.frz, frzTrip := s.top.frzTrip }
    evt := if keep then wr (tall 13 0) 10 (rd s.evt 10) else tall 13 0
    ctrl := if keep then wr (State.reset).ctrl 10 (rd s.ctrl 10) else (State.reset).ctrl
    fab := if keep then { s.fab with ports := tmap (fun (x : FabPort) => { x with retrains := 0 }) s.fab.ports } else {}
    vault := {
      sleds := tgen 4 (fun x => sledReset keep (rd s.vault.sleds x) (rd s.pins.sledPrs x))
      rings := tgen 32 (fun r => ringReset (keep && (rd s.vault.sleds (r / 8)).pwr) (rd s.vault.rings r)) }
    seq := { slots := if keep then s.cancelsKept.1 else tall 64 {}, drv := s.seq.drv }
    rp := if keep then s.cancelsKept.2 else {}
    nrg := { learnAbort := s.aon.learnSt == 1 || s.aon.learnSt == 2 }
    pair := if keep then { drv := s.pair.drv, plUp := s.pair.plUp, plOpen := s.pair.plOpen, chan := s.pair.chan } else { drv := s.pair.drv }
    pending := s.pending }

/-- Occurrences AON counted while the control island was off or in reset are counted in the ledger, and the AON counts cleared: trips
by rank (R521), VAON switch-overs to either supply (R30; DEDUCED, log entry 147). -/
def aonCounts (s : State) : State :=
  let s1 := forN 9 (fun k t => iter (rd t.aon.tripCnt k) (fun u => u.count 0x20 k 0xFFFFFFFF) t) s
  let s2 := iter s1.aon.swoB (fun u => u.count 0x50 0 0) s1
  let s3 := iter s2.aon.swoA (fun u => u.count 0x50 1 0) s2
  s3.mdAon (fun a => { a with tripCnt := tall 9 0, swoA := 0, swoB := 0 })

/-- The conditions of sources that outlive the collector's reset are judged at its start: the VAON supplies, the PLLs, the fabric's ports and address
(R380). -/
def bootSources (s : State) : State :=
  let s1 := s.follow 151 0xFFFF (!s.pins.vaonA || !s.pins.vaonB)
  let s2 := forN 5 (fun i t => t.follow 135 i (!(rd s.pins.pllLock i))) s1
  (forN 4 fabSource s2).addrSource

/-- The control island starts in Boot: SEQFLT_N is let go, which is held low in Latched alone (R315); the power-cycle count, which stays at 0xFFFFFF once there (R32; DESIGN CHOICE, log entry 146),
SWO_MAIN_N alone asserted and backup treated as not good until an image is accepted (R34), the fabric ports, the token keeper, and what
AON counted meanwhile. -/
def bootEnter (keep : Bool) (s : State) : State :=
  let s0 := s.enter .boot
  let s1 := ({ s0 with seq := { s0.seq with drv := false } }).mdAon (fun a => { a with cycles := satAdd 0xFFFFFF a.cycles 1 })
  let s2 := (s1.mdPair (fun p => { p with hbOut := true })).mdTop (fun t => { t with opSec := s.aon.opSec, swoMain := true, swoBkp := false })
  let s3 := s2.mdPins (fun p => { p with backupGood := false })
  ((if keep then s3 else s3.fabStart).aonCounts).bootSources

/-- Boot from Wake or Hold: every island but AON powers from nothing. -/
def coldBoot (s : State) : State := (s.ctlReset false).bootEnter false

/-- The unlatch of Table 01-5: every latched class and its recovery count is cleared and SEQFLT_N released (R315, R393). -/
def unlatchAll (s : State) : State :=
  { s with
    aon := { s.aon with recov := tgen 4 (fun c => if (rd s.flt.cls c).latched then [] else rd s.aon.recov c) }
    flt := { s.flt with cls := tmap (fun c => if c.latched then {} else c) s.flt.cls, latchPend := false }
    top := { s.top with wantLatch := false }
    seq := { s.seq with drv := false } }

/-- The reset of R324 and R498, and Boot after it. -/
def warmBoot (s : State) : State :=
  let s1 := if s.top.state = .latched then s.unlatchAll else s
  (s1.ctlReset true).bootEnter true

/-! ### VAON (R28 to R31) -/

/-- Source 151: VAON_A or VAON_B below 1.7 V. -/
def vaonSource (s : State) : State := if s.ctlUp then s.follow 151 0xFFFF (!s.pins.vaonA || !s.pins.vaonB) else s

/-- A switch-over is counted, in AON and in the ledger (R30); one without a control island is counted at its next Boot. The counts in AON saturate
(DESIGN CHOICE, log entry 147). -/
def switchOver (toA : Bool) (s : State) : State :=
  let s1 := s.mdAon (fun a => { a with onB := !toA, swoCount := satAdd 0xFFFF a.swoCount 1 })
  if s1.ctlUp then s1.count 0x50 toA.toNat 0
  else if toA then s1.mdAon (fun a => { a with swoA := satAdd 255 a.swoA 1 })
  else s1.mdAon (fun a => { a with swoB := satAdd 255 a.swoB 1 })

/-- VAON_RISE: AON powers up in Off, takes the SEAT strap (R329), and Wake is entered, with SWO_MAIN_N asserted; where the bus is good already its
100 ms count from here (R20, R34, R494). -/
def vaonRise (b away : Bool) (s : State) : State :=
  let s1 := s.mdPins (fun p => if b then { p with vaonB := true } else { p with vaonA := true })
  if s.top.state ≠ .off then s1.vaonSource
  else
    let s2 := ((s1.enter .wake).mdAon (fun _ => { lost := true, onB := b })).mdTop (fun t => { t with swoMain := true, swoBkp := false })
    s2.mdPins (fun p => { p with busGoodRun := p.pfiGood, awaySeat := away })

/-- VAON_A_LOSS. -/
def vaonALoss (s : State) : State :=
  if !s.pins.vaonB || !s.pins.vaonA then s
  else
    let s1 := s.mdPins (fun p => { p with vaonA := false })
    (if s1.aon.onB then s1 else s1.switchOver false).vaonSource

/-- VAON_A_RETURN: at least 1.8 V for 1 ms. -/
def vaonAReturn (s : State) : State :=
  if s.top.state = .off then s
  else
    let s1 := s.mdPins (fun p => { p with vaonA := true })
    (if s1.aon.onB then s1.switchOver true else s1).vaonSource

/-- VAON_BOTH_LOST: AON loses its state and the controller is in Off (R31). -/
def vaonBothLost (s : State) : State :=
  let s1 := (s.ctlReset false).mdPins (fun p => { p with vaonA := false, vaonB := false })
  { s1 with aon := {}, top := { state := .off, prev := s.top.state }, pair := {} }

/-- VAON_B_CROSSING: VAON_B crosses 1.7 V while AON runs from VAON_A. -/
def vaonBCross (up : Bool) (s : State) : State :=
  if s.top.state = .off || s.aon.onB || !s.pins.vaonA then s else (s.mdPins (fun p => { p with vaonB := up })).vaonSource

/-! ### Main and backup (R34 to R39) -/

/-- Running on backup. -/
def onBackup (s : State) : Bool := s.top.swoBkp && !s.top.swoMain

/-- Source 150 follows "running on backup while backup is not good"; the ledger counts each time it begins (R39). -/
def backupSource (s : State) : State :=
  let c := s.onBackup && !s.pins.backupGood
  let s1 := (if c && !s.subLive 150 0xFFFF then s.count 0x51 0 0 else s).follow 150 0xFFFF c
  if c && s1.top.state = .save then s1.mdSave (fun v => { v with supply := true }) else s1

/-- An edge of PFI_BUS in Save is counted (Table 04-7). -/
def inputEdge (s : State) : State := if s.top.state = .save then s.mdSave (fun v => { v with edges := satAdd 0xFF v.edges 1 }) else s

/-- PFI_BUS_GOOD. -/
def pfiGood (s : State) : State :=
  if s.pins.pfiGood then s
  else
    let s1 := (s.mdPins (fun p => { p with pfiGood := true, busGoodRun := true, mainGoodRun := true, mainOk := false })).inputEdge
    if s1.top.state = .hold then s1.mdTop (fun t => { t with swoMain := true }) else s1

/-- BUS_GOOD_100MS: Wake (STAY_OFF clear) or Hold leaves for Boot (Table 01-5). -/
def busGood100 (s : State) : State :=
  if s.pins.pfiGood && s.pins.busGoodRun && ((s.top.state = .wake && !s.aon.stayOff) || s.top.state = .hold) then
    (s.mdPins (fun p => { p with busGoodRun := false })).coldBoot
  else s.mdPins (fun p => { p with busGoodRun := false })

/-- Source 150 follows where a control island runs that can report it. -/
def backupFollow (s : State) : State := if s.ctlOn then s.backupSource else s

/-- SWO_MAIN_N is asserted and SWO_BKP_N released (R37). -/
def toMain (s : State) : State := (s.mdTop (fun t => { t with swoMain := true, swoBkp := false })).backupFollow

/-- MAIN_GOOD_10MS: outside Save the core goes back to main; in Save it waits for the seal (R37, R38). AON holds the switch, so a
control island in reset or without its clock is no bar (R498). -/
def mainGood10 (s : State) : State :=
  if !s.pins.pfiGood || !s.pins.mainGoodRun then s
  else
    let s1 := s.mdPins (fun p => { p with mainGoodRun := false, mainOk := true })
    if s1.top.state ≠ .save && s1.top.state ≠ .off then s1.toMain else s1

/-- SWO_MAIN_N alone is asserted: Off, Wake, and Boot until an image is accepted (R34). -/
def mainOnly (s : State) : Bool := s.inState [.off, .wake] || (s.top.state == .boot && !s.bimg.running)

/-- The part of PFI_BUS_SAG ahead of the trip: the core goes to backup, in every state but those of R34 (R35). AON holds the switch, so
the control island need not run (DEDUCED, log entry 190). -/
def sagSupply (s : State) : State :=
  let s1 := (s.mdPins (fun p => { p with pfiGood := false, busGoodRun := false, mainGoodRun := false, mainOk := false })).inputEdge
  if s1.mainOnly then s1 else (s1.mdTop (fun t => { t with swoMain := false, swoBkp := true })).backupFollow

/-- BACKUP_NOT_GOOD (R39). -/
def backupNotGood (s : State) : State :=
  (s.mdPins (fun p => { p with backupGood := false })).backupFollow

/-- A sample of the hold-up bus slot's window decides whether backup is good (Main and backup core supply, 01; R303). -/
def busSample (win : BitVec 64) (s : State) : State :=
  if !s.ctlOn || !s.bimg.running then s
  else (s.mdPins (fun p => { p with backupGood := (win.toNat / 16 ^ s.im.seq.busSlot) % 16 < 4 })).backupSource

/-! ### Boot (R31, R121, R334, R425 to R427) -/

/-- SAVE.SERIAL of the newest save report. -/
def reportSerial (s : State) : Nat :=
  match newest (s.areaRecs 0) with
  | some (i, _) => leNat (((s.recBytesAt 0 i).drop 48).take 4)
  | none => 0

/-- After an AON loss the counters and the epoch come from the newest sealed record (R31, R334); the power-cycle count stays at
0xFFFFFF and OP_SEC wraps, as where they count (DESIGN CHOICE, log entry 146). -/
def restoreCounters (s : State) : State :=
  if !s.aon.lost then s
  else
    let s1 := s.mdAon (fun a => { a with lost := false, strs := tmap (fun (x : Str) => { x with unres := true }) a.strs })
    match s.newestRec with
    | none => s1.mdAon (fun a => { a with cycles := 1 })
    | some (ar, i, _) =>
      let b := s.recBytesAt ar i
      let st := Stamp.ofBytes ((b.drop 8).take 16)
      s1.mdAon (fun a => { a with
        opSec := (st.opSec.toNat + 1) % 2 ^ 32, cycles := satAdd 0xFFFFFF st.cycles.toNat 1, epoch := (leNat ((b.drop 36).take 2) + 256) % 65536 })

/-- LEDGER_SCAN_DONE: the devices are read, blank ones get their directory, heads are set, repairs start, counters are restored; the records that wait
take the RSEQs from the next one on, and an epoch without a record is reported lost (R426). -/
def ledgerScan (s : State) : State :=
  if s.top.state ≠ .boot || s.ledg.scanDone || !s.ctlOn then s
  else
    let s1 := (s.sfdpRead 0).sfdpRead 1
    let s2 := forN 2 (fun d t => if (rd t.ledg.dev d).ok && !t.dirValid d then t.dirWrite d else t) s1
    let heads := tgen 6 s2.scanHead
    let top := match s2.newestRec with | some (_, _, q) => (q + 1) % 2 ^ 32 | none => 1
    let gone := s2.epochRan && (!s2.ledg.epochs || s2.ledg.epLost)
    let s3 := { s2 with ledg := { s2.ledg with
      scanDone := true, heads, rseq := top + s2.ledg.queue.length, queue := s2.ledg.queue.zipIdx.map (fun (x : RecJob × Nat) => { x.1 with rseq := top + x.2 })
      bg := s2.ledg.bg ++ s2.repairJobs, lostPrev := s2.ledg.lostPrev || gone } }
    let s4 := (if gone then s3.setEvt 3 3 else s3).restoreCounters
    s4.mdSave (fun v => { v with serial := s4.reportSerial })

/-! ### MR_N, clocks, supply rails (R18, R324, R496, R498 to R500) -/

/-- MR_N low for 1 us. In the holder's Save it is deferred; a standby that reports Save is not in a save of its own (R27) and is reset.
In Latched it is the unlatch of Table 01-5, which releases SEQFLT_N (R315). -/
def mrN (s : State) : State :=
  if s.inState [.off, .wake, .hold] || s.pins.mrLow || s.pins.mrWait then s
  else if s.top.state = .save && s.pair.drv then
    (((s.mdTop (fun t => { t with mrDeferred := true })).mdPins (fun p => { p with mrWait := true })).mdAon (fun a => { a with mrDefer := satAdd 0xFFFF a.mrDefer 1 })).count 0x32 0 0
  else
    let l := s.top.state == .latched
    let s1 := if l then s.unlatchAll else s
    let s2 := (s1.ctlReset true).mdAon (fun a => { a with mrResets := satAdd 0xFFFF a.mrResets 1 })
    (s2.mdTop (fun t => { t with wantUnlatch := l })).mdPins (fun p => { p with mrLow := true })

/-- MR_N_RELEASE: where its reset waits or has waited for the seal, only the line rises. Otherwise 10 us later the islands leave reset and Boot is entered; in Off, Wake and Hold MR_N has no effect (R324). From Latched
Boot is entered once SEQFLT_N has been high for REST (R315). -/
def mrRelease (s : State) : State :=
  if s.pins.mrWait then s.mdPins (fun p => { p with mrWait := false })
  else if !s.pins.mrLow then s
  else
    let s1 := s.mdPins (fun p => { p with mrLow := false })
    if s.inState [.off, .wake, .hold] then s1 else if s.top.state = .latched then s1.aonRegs.bootSources else (s1.ctlReset true).bootEnter true

/-- Source 135 (CLOCK) while REFCLK is absent or a PLL is out of lock; sub-sources are the PLLs. -/
def refclkStop (s : State) : State := if s.ctlOn then (s.follow 135 0xFFFF true).mdPins (fun p => { p with refclkRun := false }) else s.mdPins (fun p => { p with refclkRun := false })

/-- REFCLK_ABSENT_10US. -/
def refclkAbsent (s : State) : State := if s.pins.refclkRun then s else s.mdPins (fun p => { p with refclkLong := true })

/-- PLL_UNLOCK and PLL_RELOCK. -/
def pllUnlock (i : Nat) (s : State) : State :=
  let s1 := s.mdPins (fun p => { p with pllLock := wr p.pllLock i false })
  if s1.ctlOn then s1.follow 135 i true else s1
def pllRelock (i : Nat) (s : State) : State :=
  let s1 := s.mdPins (fun p => { p with pllLock := wr p.pllLock i true })
  if s1.ctlOn then s1.follow 135 i false else s1

/-- CRYSTAL_LOSS and CRYSTAL_RETURN. -/
def crystal (run : Bool) (s : State) : State :=
  if s.top.state = .off then s.mdPins (fun p => { p with crystalRun := run }) else (s.mdPins (fun p => { p with crystalRun := run })).mdAon (fun a => { a with rcOsc := !run })

/-- Whether every rail of the control island is good. -/
def ctlRails (s : State) : Bool := rd s.pins.rails 0 && rd s.pins.rails 5

/-- The port links of an island, or all of them, fall (Table 12-5). -/
def portsDown (ps : List Nat) (s : State) : State := forL ps (fun p t => ((t.toDown p false).cancelCopies p).retLinkDown p) s

/-- Port islands are reset or lose a supply: their links fall, and their PORT registers return to their reset values (R6). That a port has
been in UP since Boot is the collector's (R382). -/
def portsReset (ps : List Nat) (s : State) : State :=
  forL ps (fun p t => (t.mdLk p (fun l => { upOnce := l.upOnce })).linkLost p) (s.portsDown ps)

/-- A square of a port's move whose content was in the tray alone is to be read again. -/
def squareAgain (p q cls : Nat) (s : State) : State :=
  s.mdSv p (fun v =>
    let add := fun (l : List Nat) => (q :: l).mergeSort (· ≤ ·)
    { v with pendSq := v.pendSq.filter (fun e => e.1 != q), reads := v.reads.filter (fun r => r.sq != q)
             c1 := if cls = 1 && !v.ended then add v.c1 else v.c1, c2 := if cls = 2 && !v.ended then add v.c2 else v.c2 })

/-- The tray's part of a save is lost: every open stripe ends with the units that are programmed, and what no unit or parity of it gives is read from its
adapter again (DESIGN CHOICE, log entry 210). -/
def trayMoves (s : State) : State :=
  let ts := s.vault.stripes.filter (fun t => t.area == 0 && !t.reloc)
  let s1 := forL ts (fun t u => forL (t.tags.filter (fun e => e.2.kind == 1 && e.2.port < 64 && !stripeSafe t e.1)) (fun e w =>
    match (w.sv e.2.port).pendSq.find? (fun q => q.1 == e.2.sq) with
    | some q => w.squareAgain e.2.port q.1 q.2
    | none => w) u) s
  let s2 := forN 64 (fun p t => forL (t.sv p).reads (fun r u => u.squareAgain p r.sq r.cls) t) s1
  s2.mdVault (fun v => { v with stripes := v.stripes.map (fun t => if t.area = 0 && !t.reloc then { t with closed := true, left := 0 } else t) })

/-- The tray's part of the log is lost: copies in it never become durable, and the entries of confirm units not programmed wait again. -/
def trayLog (s : State) : State :=
  (forL (s.vault.stripes.filter (fun t => t.area == 1)) confUnitsDone s).mdVault (fun v => { v with stripes := v.stripes.filter (fun t => t.area != 1) })

/-- The tray's part of a relocation is lost: what was read or made and not yet in a completed stripe is moved again, and so is the image whose chain was
being written. -/
def trayReloc (s : State) : State :=
  (s.mdReloc (fun r => { r with
    units := r.made.map (·.old) ++ r.reading.toList ++ r.units, made := [], reading := none
    images := if r.sealing then r.images else r.image.toList ++ r.images, image := if r.sealing then r.image else none
    left := if r.sealing then r.left else [], idxBusy := false })).mdVault (fun v => { v with
      rprog := v.rprog - v.reloc.made.length, stripes := v.stripes.filter (fun t => !t.reloc)
      work := v.reading.toList ++ v.work, reading := none })

/-- The mover stops and loses the tray and the rings (Table 12-5, R496): queued descriptors complete with 0x06, and the rings admit nothing until it
runs again. -/
def moverDown (s : State) : State :=
  let s1 := forN 32 (fun r t =>
    let (ds, u) := t.endRing r 6
    forL ds (descAgain true r) (u.mdRing r (fun g => { g with isOpen := false }))) s
  let keep := fun (j : UnitJob) => isSys j.why || (match j.why with | .cat _ => true | _ => false)
  (s1.mdVault (fun v => { v with ready := v.ready.filter keep })).trayMoves.trayLog.trayReloc

/-- The mover runs again: the rings open, open copies are cancelled and every eligible port is reverted, though not in Save, where the to-move sets stand
(Table 12-5; DESIGN CHOICE, log entry 210); restores read on. -/
def moverUp (s : State) : State :=
  if !s.moverRuns then s
  else
    let s1 := forN 4 openRings s
    let s2 := if s1.top.state = .save then s1
      else forL (idxs 64 s1.eligible) (fun p t => (t.cancelCopies p).sendRevert p (t.clk.turn % 2 ^ 32) true) s1
    (forL (idxs 64 (fun p => (s2.rt p).ph == 2 && (s2.rt p).reading.isNone)) stepRestore s2).pump

/-- A flash island stops: its sled is not healthy but stays a member; its descriptors complete with 0x06 (Table 12-5), and its CQ registers
return to their reset values (R6), CH_FAILED among them; a log scan does not wait for it. The sled's channels are tried again by the bring-up that
follows (DESIGN CHOICE, log entry 209). -/
def flashDown (x : Nat) (s : State) : State :=
  let s1 := ((s.sledQuiet x true).mdSled x (fun d => { d with up := false, mapDone := false, scanDone := false })).scanEnd
  forN 8 (fun k t => (t.mdRing (8 * x + k) (fun g => { fails := g.fails })).unraise (78 + x) k) s1

/-- A flash island is unpowered: its sled's rails have fallen (Table 01-3). -/
def islandOff (x : Nat) (s : State) : State := (s.flashDown x).mdSled x (fun d => { d with pwr := false })

/-- Restores in flight stop and their ports are decided again (R396). -/
def restoresAgain (s : State) : State :=
  if s.top.state = .ret then forL (idxs 64 (fun p => (s.rt p).out == 6)) (fun p t => t.redecide p) s else s

/-- Hold is entered: every island but AON is unpowered and the core supply released (R495); main is asserted while bus is good (R494). -/
def toHold (s : State) : State :=
  let s1 := ((s.releaseToken).ctlReset false).enter .hold
  (s1.mdTop (fun t => { t with swoMain := s1.pins.pfiGood, swoBkp := false })).mdPins (fun p => { p with busGoodRun := p.pfiGood })

/-- RAIL_NOT_GOOD of a supply rail of Table 17-11 (0 CORE, 1 MOV, 2 SER, 3 SERH, 4 NV, 5 VDDIO). The control island's loss leaves the
controller in Hold while AON is supplied (R39, R496). -/
def railNotGood (k : Nat) (s : State) : State :=
  if !(rd s.pins.rails k) then s
  else
    let s1 := s.mdPins (fun p => { p with rails := wr p.rails k false })
    if s.inState [.off, .wake, .hold] then s1
    else match k with
    | 0 | 5 => s1.toHold
    | 1 => s1.moverDown.restoresAgain
    | 4 => (forN 4 flashDown s1).restoresAgain
    | _ => (s1.portsReset (List.range 64)).fabReset

/-- SUPPLY_RAIL_GOOD for 1 ms: the islands that need the rail leave reset, the control island's Boot included where it waited for it
(R494, R496). From the Hold that a loss of its supply leads to, Boot follows bus good for 100 ms (Table 01-5). -/
def supplyGood (k : Nat) (s : State) : State :=
  let s0 := s.mdPins (fun p => { p with rails := wr p.rails k true })
  let s1 := if k = 1 && !(rd s.pins.rails 1) && s0.ctlOn then s0.moverUp else s0
  if s1.fabRails && !s.fabRails && !s1.inState [.off, .wake, .hold] then s1.fabStart else s1

end State
end Sys2Proof.Machine
end

