-- ==== Sys2Proof/Machine/Trip.lean ====
section
/-! DEFINITION. A trip (04, 01): what it ends, the entry to Save, and what it does in every other state. -/

namespace Sys2Proof.Machine
namespace State

/-- A background slot write stops after the device operation in progress (R442). -/
def slotStop (s : State) : State :=
  { s with ledg := { s.ledg with
      bg := s.ledg.bg.filter (fun b => b.kind != .slotWrite)
      bgCur := s.ledg.bgCur.map (fun b => if b.kind == .slotWrite then { b with ops := b.ops.take 1 } else b) } }

/-- The swap drill at t_trip (R351, Table 04-6): at the controller that runs it, and at the one that dwells. `own` is the drill's own
test save. -/
def drillTrip (own : Bool) (s : State) : State :=
  if own then s.mdPair (fun p => { p with drillSave := 2 })
  else
    let s1 := if s.pair.drillSt = 1 then ((s.mdPair (fun p => { p with drillSt := 4, drillRes := 4 })).setEvt 9 5).cmdEnd 4 else s
    if s1.pair.legs = 1 || s1.pair.legs = 2 then s1.mdPair (fun p => { p with legs := 5 }) else s1

/-- Long commands at t_trip (Table 04-6, Table 14-5); vault jobs and the drill end apart. A calibration save is the save itself. -/
def cmdTrip (cal : Bool) (s : State) : State :=
  if s.cmd.state ≠ 1 then s
  else match s.cmd.code with
  | 0x01 => ({ s.slotStop with bimg := { s.slotStop.bimg with state := 5 } }).cmdEnd 4
  | 0x02 => ({ s with bimg := { s.bimg with state := 5, reload := none } }).cmdEnd 4
  | 0x03 => ({ s with bimg := { s.bimg with state := 5 } }).cmdEnd 4
  | 0x08 => ({ s with nrg := { s.nrg with restore := none, stg := [], rstResult := 6 } }).cmdEnd 4
  | 0x09 => ({ s with ledg := { s.ledg with exporting := false } }).cmdEnd 4
  | 0x20 => if cal then s else s.cmdEnd 4
  | _ => s

/-- Every FORCE, FORCE_PB and FORCE_LIVE bit clears (R404). -/
def clearForces (s : State) : State :=
  let s1 := forL (idxs 256 s.flt.forcePb.getLsbD) pairSeen { s with flt := { s.flt with force := 0, forcePb := 0 } }
  { s1 with
    flt := { s1.flt with subs := s1.flt.subs.filter (fun x => x.sub != subForced || s1.pairHeld x.src) }
    ctrl := md s1.ctrl 2 (fun w => w &&& ~~~(0x10#32)) }

/-- t_trip, the running instant, in a state that saves: what it ends, then the save begins (R118 to R124, R147, R157). A test or
calibration save with a source of ranks 1 to 6 within 1 us of its t_trip is promoted at once (R123). -/
def enterSave (rank : Nat) (also : BitVec 8) (test cal : Bool) (s : State) : State :=
  let own := test && s.pair.legs == 1 && s.pair.drillSave == 1
  let s0 := if s.top.state = .ret then s.retRecord else s
  let s1 := if s0.stake.v.short then s0.shortRec true else s0
  let s2 := ((s1.saveBegin rank also test cal).enter .save).setEvt 0 1
  let s3 := if test || cal then s2 else s2.saveProfileDown
  let s4 := ((if cal then s3.marginCancel.calIssue else s3.marginCancel).stageTrip).learnTrip.retStop
  let s5 := ((s4.jobsTrip.cmdTrip cal).drillTrip own).clearHold.clearForces
  let s6 := (s5.mdPair (fun p => { p with hand := 0, handDrill := false, yieldOnce := false })).pump
  if also &&& 0x3F#8 ≠ 0 then s6.promote else s6

/-- A trip source acts, at an instant within the turn, which is a t_trip in every state but Off and ends every force (R404, R521; Table 01-5): a standby, or a controller that has just given the token, only freezes
(R347); in Save it joins the sources or is late
(R119); where there is data it saves; elsewhere it is recorded (R521). In Off the freeze path is not armed (R12). A stopped REFCLK does
not stop the freeze path (R498): the save begins at t_trip, and its steps follow once the clock runs. -/
def trip (rank : Nat) (also : BitVec 8) (s0 : State) : State :=
  let s := s0.arrive
  if s.top.state = .off then s0
  else if s.ctlUp && s.paired && !s.pair.drv && (s.pair.standby || s.top.state ≠ .boot) then s.assertFrz.clearForces
  else if !s.ctlUp then s.tripNoSave rank also
  else if s.top.state = .save then s.assertFrz.saveLate rank
  else if s.inState [.ready, .ride, .service, .ret] then s.enterSave rank also false false
  else (s.tripNoSave rank also).clearForces

/-- PFI_BUS_SAG: the core goes to backup and rank 1 trips 20 ns later (R35, R118). -/
def pfiSag (also : BitVec 8) (s : State) : State :=
  let s1 := s.sagSupply
  let s2 := if s1.top.state = .rise && s1.ctlOn then s1.riseAbort else s1
  s2.trip 1 also

/-- ACG_LOSS: a double reports loss: its T input reads low and its pair is judged lost (R120); with immediate save the threshold of T
inputs low trips (rank 3). -/
def acgLoss (n : Nat) (also : BitVec 8) (s : State) : State :=
  let was := s.acgFast
  let s1 := s.mdPins (fun p => { p with acgLoss := wr p.acgLoss n true, acgLow := wr p.acgLow n true })
  let s2 := inputGone s s1
  if s2.bimg.running && !s2.im.core.rideThrough && was < s2.im.core.acgThr && s2.im.core.acgThr ≤ s2.acgFast then s2.trip 3 also else s2

/-- TEST_TRIP: a write of SAVE.TEST_TRIP (R122). -/
def testTrip (w : Word) (also : BitVec 8) (s : State) : State :=
  if w = 0x7E575AFE#32 && s.inState [.ready, .service] && s.holder && s.ctlOn then s.arrive.enterSave 7 also true false else s

end State
end Sys2Proof.Machine
end

