-- ==== Sys2Proof/Machine/Faults.lean ====
section
/-! DEFINITION. The fault collector (12): registration, classes, actions, block resets and shadow sets, forcing, pair-broken pairs. -/

namespace Sys2Proof.Machine
namespace State

def mdFlt (f : Flt → Flt) (s : State) : State := { s with flt := f s.flt }
abbrev srcCfg (s : State) (i : Nat) : SrcCfg := rd s.im.srcs i

/-- Change a live sub-source. -/
def mdSub (src sub : Nat) (f : SubSrc → SubSrc) (s : State) : State :=
  s.mdFlt (fun t => { t with subs := t.subs.map (fun x => if x.src == src && x.sub == sub then f x else x) })

/-- An open shadow set includes the source (R398). -/
def masked (s : State) (src : Nat) : Bool := (List.range 16).any (fun k => (rd s.flt.sets k).isOpen && (rd s.flt.sets k).mask.testBit src)

/-- A force causes this sub-source, and the real pair is not asserted as well (R402). -/
def byForce (s : State) (src sub : Nat) : Bool :=
  let real := s.flt.subs.any (fun x => x.src == src && x.sub < subBroken) || s.subLive src 0xFFFF
  if subBroken ≤ sub && sub ≤ subForced && real then false
  else sub == subForced || (sub == subBroken && s.flt.forcePb.getLsbD src)
    || (208 ≤ src && s.flt.forcePb.getLsbD (src - 48)) || (src == 157 && s.flt.forcePb.getLsbD sub)

/-! ### Classes (R390 to R393) -/

/-- Recoveries in the trailing 86,400 s (R391). -/
def recovCount (s : State) (c : Nat) : Nat := (rd s.aon.recov c).foldl (· + ·) 0

/-- A registration reaches its class; answers whether the class latched. -/
def classHit (c : Nat) (s : State) : Bool × State :=
  let k := rd s.flt.cls c
  let g := rd s.im.classes c
  if k.active || k.latched then (false, s)
  else if g.limit ≤ s.recovCount c then
    let s1 := (s.mdFlt (fun t => { t with cls := wr t.cls c { latched := true } })).setEvt 2 1
    (true, if g.latchOff then
      (s1.mdTop (fun t => { t with wantLatch := true })).mdFlt (fun t => { t with latchPend := !s1.inState [.ready, .ride, .service, .ret, .save] })
    else s1)
  else (false, s.mdFlt (fun t => { t with cls := wr t.cls c { active := true } }))

/-- CLASS_CLEAR: no non-consequential live source of the class for QUIET (R390). -/
def classClear (c : Nat) (s : State) : State :=
  if (rd s.flt.cls c).active && !(s.flt.subs.any (fun x => !x.cons && (s.srcCfg x.src).en && (s.srcCfg x.src).cls == c)) then
    let s1 := s.mdFlt (fun t => { t with cls := wr t.cls c {} })
    s1.mdAon (fun a => { a with recov := md a.recov c (fun l => match l with | [] => [1] | b :: bs => (b + 1) :: bs) })
  else s

/-- UNLATCH_CLASS: a latched class with LATCH_OFF = 0 (R393). -/
def unlatchClass (c : Nat) (s : State) : State :=
  if (rd s.flt.cls c).latched && !(rd s.im.classes c).latchOff then
    (s.mdFlt (fun t => { t with cls := wr t.cls c {} })).mdAon (fun a => { a with recov := wr a.recov c [] })
  else s

/-! ### Actions (R394 to R397, Table 04-8) -/

/-- The ports of a source's port set (Table 12-1, R395). -/
def portSet (s : State) (src sub : Nat) : List Nat :=
  if src < 64 then [src]
  else if src < 72 then (s.flt.subs.filter (fun x => x.src == src && x.sub < 64)).map (·.sub) ++ (if s.subLive src sub then [] else if sub < 64 then [sub] else [])
  else if 136 ≤ src ∧ src < 144 then (List.range 8).map (fun i => 8 * (src - 136) + i)
  else []

/-- Isolate a port: its ISO bit and its link to DOWN; in Save at its image boundary (R395, Table 04-8). -/
def isolate (p : Nat) (s : State) : State :=
  if s.saving && (s.sv p).img && (s.sv p).pst < 5 then s.mdSv p (fun v => { v with isoPend := true })
  else (s.mdFlt (fun t => { t with iso := t.iso ||| BitVec.ofNat 64 (2 ^ p) })).portsDown [p]

/-- What a reset of a block does as it takes effect (Table 12-5). A record the ledger writer is writing exists when a copy of it is sealed
already (R408), and is lost otherwise. -/
def blockEffect (b : Nat) (s : State) : State :=
  if b < 8 then s.portsReset ((List.range 8).map (fun i => 8 * b + i))
  else if b = 8 then s.moverDown.restoresAgain
  else if b < 13 then (s.flashDown (b - 9)).restoresAgain
  else if b = 13 then s.fabReset
  else if b = 14 then { s with rp := { s.rp with tx := s.rp.tx.drop 1 } }
  else match s.ledg.cur with
    | some w => let t := s.recDone w; { t with ledg := { t.ledg with cur := none } }
    | none => s

/-- Reset a block: it is held, its shadow set opens, and its effect acts. A request while a set opened by a reset of the block is open is
not acted on (R396 to R398). -/
def blockReset (b k : Nat) (s : State) : State :=
  let x := rd s.flt.blocks b
  if x.running || (x.set < 16 && (rd s.flt.sets x.set).isOpen) then s
  else
    let g := rd s.im.shadows k
    (s.mdFlt (fun t => { t with
      resets := satAdd 0xFFFF t.resets 1
      blocks := wr t.blocks b { held := true, running := true, set := k }
      sets := md t.sets k (fun o => if o.isOpen then { o with ended := false } else { isOpen := true, mask := g.mask, settle := g.settle, ended := false }) })).blockEffect b

/-- A block reset requested: deferred in Save to the save-wide seal (Table 04-8). -/
def requestReset (b k : Nat) (s : State) : State :=
  if s.saving then s.mdFlt (fun t => { t with resetPend := t.resetPend ++ [(b, k)] }) else s.blockReset b k

/-- Block resets that waited for the save-wide seal act. -/
def sealResets (s : State) : State :=
  if s.saving || s.flt.resetPend.isEmpty then s
  else forL s.flt.resetPend (fun r t => t.blockReset r.1 r.2) (s.mdFlt (fun t => { t with resetPend := [] }))

/-- Give the token up to an armed standby and reset as MR_N does (R345). -/
def yieldNow (s : State) : State := ((s.psend (.yield s.pair.fseq)).releaseToken).warmBoot

/-- Request takeover: a yield while the standby is armed, in Save once per save; else recorded (R345, Table 04-8). -/
def requestTakeover (s : State) : State :=
  if s.paired && s.pair.drv && s.pair.armed && !(s.top.state == .save && s.pair.yieldOnce) then s.yieldNow
  else s.mdPair (fun p => { p with yieldReq := p.yieldReq + 1 })

/-- The trip action: rank 4 where it acts, LATE in Save, else recorded only (Table 12-4, Table 04-8). -/
def faultTrip (s : State) : State := if s.inState [.ready, .ride, .service, .ret, .save] then s.trip 4 0 else s

/-- The actions of a registration, forced or not (R394, R403). -/
def react (c : SrcCfg) (src sub : Nat) (forced : Bool) (s : State) : State :=
  let a := fun i => c.act.testBit i
  let rep := if subBroken ≤ sub then 0xFFFF else sub
  let live := !forced || s.ctrlBit 2 4
  let s1 := s.when (a 0) (·.count 0x01 src rep)
  let s2 := s1.when (a 1) (·.setEvt 2 0)
  let s3 := s2.when (a 2) (fun t => forL (t.portSet src sub) isolate t)
  let s4 := s3.when (a 3) (·.requestReset c.block c.shadow)
  let s5 := s4.when (a 5 && live) faultTrip
  s5.when (a 4 && live) requestTakeover

/-! ### Registration (R387, R398 to R401) -/

/-- The cause record of a registration, Table 12-6. -/
def causeOf (s : State) (c : SrcCfg) (src sub : Nat) (atClose forced latched : Bool) : CauseRec :=
  { source := src, cls := c.cls, valid := true, forced, atClose, pb := src == 156 || src == 157 || 208 ≤ src, latched
    state := s.top.state.code, act := c.act, sub := if subBroken ≤ sub then 0xFFFF else sub, stamp := s.stamp }

/-- A source registers. -/
def registerSrc (src sub : Nat) (atClose : Bool) (s : State) : State :=
  let c := s.srcCfg src
  let s1 := s.mdFlt (fun t => { t with reg := md t.reg src (satAdd 0xFFFF · 1) })
  if !c.en then s1
  else if !atClose && s1.masked src then
    ((s1.mdFlt (fun t => { t with conseq := md t.conseq src (satAdd 0xFFFF · 1), conseqAll := satAdd 0xFFFF t.conseqAll 1 })).mdSub src sub
      (fun x => { x with cons := true })).count 0x02 src (if subBroken ≤ sub then 0xFFFF else sub)
  else
    let forced := s1.byForce src sub
    let (latched, s2) := s1.classHit c.cls
    let r := s2.causeOf c src sub atClose forced latched
    (s2.mdFlt (fun t => { t with
      cause := t.cause ||| BitVec.ofNat 256 (2 ^ src), first := if t.first.valid then t.first else r, last := r })).react c src sub forced

/-- A live sub-source that has not registered does so; a source without sub-sources registers once while it stays live. -/
def regLive (src sub : Nat) (s : State) : State :=
  match s.flt.subs.find? (fun x => x.src == src && x.sub == sub && !x.reg) with
  | none => s
  | some _ =>
    let again := subBroken ≤ sub && s.flt.subs.any (fun x => x.src == src && x.sub != sub && x.reg)
    let s1 := s.mdSub src sub (fun x => { x with reg := true })
    if again then s1 else s1.registerSrc src sub false

/-- FAULT_REGISTRATION of a sub-source that is live (R387). Of its own the command makes live only TURN_OVR, for one turn. -/
def faultReg (src sub : Nat) (s0 : State) : State :=
  if !s0.ctlOn then s0
  else
    let s := s0.arrive
    (if src = 155 then s.raiseTurn 155 0xFFFF else s).regLive src sub

/-- How the halves of an external double read: asserted, deasserted, or none where they are invalid; INV swaps their roles, and a force acts on what is read
(R384, R386, R402). -/
def xfRead (s : State) (src : Nat) (t c : Bool) : Option Bool :=
  if s.flt.forcePb.getLsbD src then none
  else if s.flt.force.getLsbD src then some true
  else if t == c then none
  else some (t != (s.srcCfg src).inv)

/-- One sample of external double `src` - 160 (R384, R386, R387): QUAL asserted samples make the source live and register it, a deasserted one restarts the
count or ends the source, and an invalid one changes nothing. -/
def xfSample (src : Nat) (x : Bool × Bool) (s : State) : State :=
  let set := fun (n : Nat) (t : State) => t.mdFlt (fun f => { f with xfCnt := wr f.xfCnt (src - 160) n })
  let real := x.1 != x.2 && (x.1 != (s.srcCfg src).inv)
  match s.xfRead src x.1 x.2 with
  | none => s
  | some false => set 0 (s.unraise src 0xFFFF)
  | some true =>
    if s.subLive src 0xFFFF then s
    else if s.subLive src subForced then (if real then (s.raise src 0xFFFF none).mdSub src 0xFFFF (fun y => { y with reg := true }) else s)
    else
      let n := rd s.flt.xfCnt (src - 160) + 1
      let sub := if real then 0xFFFF else subForced
      if (s.srcCfg src).qual ≤ n then ((set 0 s).raise src sub none).regLive src sub else set n s

/-- FAULT_REGISTRATION of an external double, by its samples. -/
def xfSamples (src : Nat) (l : List (Bool × Bool)) (s0 : State) : State :=
  if !s0.ctlOn || src < 160 || 208 ≤ src then s0 else forL l (xfSample src) s0.arrive

/-- SHADOW_CLOSE: the set closes SETTLE after its reset's end; what its mask holds live, in no other open set, registers (R398, R399). -/
def shadowClose (k : Nat) (s : State) : State :=
  let o := rd s.flt.sets k
  if !o.isOpen || !o.ended then s
  else
    let s1 := s.mdFlt (fun t => { t with
      sets := wr t.sets k {}, blocks := tmap (fun (b : BlockSt) => if b.set == k && !b.running then { b with set := 0x1F } else b) t.blocks })
    forL (idxs 256 (fun i => o.mask.testBit i)) (fun i t =>
      match t.flt.subs.find? (fun x => x.src == i) with
      | none => t
      | some x => if t.masked i then t
          else (t.mdFlt (fun f => { f with subs := f.subs.map (fun y => if y.src == i then { y with cons := false, reg := true } else y) })).registerSrc i x.sub true) s1

/-! ### Sources that end -/

/-- SOURCE_CEASES_LIVE: an external double reads deasserted, a pair is valid on 3 samples, an island completes a handshake. A pair forced
invalid stays so, and its source keeps its value (R384); other sources follow the conditions their chapters give. -/
def sourceCeases (src sub : Nat) (s : State) : State :=
  if 136 ≤ src ∧ src < 150 then s.unraise src 0xFFFF
  else if src = 155 then s.unraise 155 0xFFFF
  else if src = 156 then ((s.unraise 156 sub).mdFlt (fun t => { t with acgPb := t.acgPb &&& ~~~(BitVec.ofNat 8 (2 ^ sub)) }))
  else if src = 157 then
    if s.flt.forcePb.getLsbD sub then s
    else
      let s1 := (s.unraise 157 sub).mdFlt (fun t => { t with pb := t.pb &&& ~~~(BitVec.ofNat 256 (2 ^ sub)) })
      if s.pairHeld sub then s1.pairSeen sub else s1
  else if 160 ≤ src ∧ src < 208 then (s.unraise src 0xFFFF).mdFlt (fun t => { t with xfCnt := wr t.xfCnt (src - 160) 0 })
  else if 208 ≤ src then
    if s.flt.forcePb.getLsbD (src - 48) then s
    else ((s.unraise src (src - 208)).unraise (src - 48) subBroken).mdFlt (fun t => { t with pb := t.pb &&& ~~~(BitVec.ofNat 256 (2 ^ (src - 48))) })
  else s

/-- PAIR_BROKEN: the third invalid sample in a row (R385, R386). -/
def pairBroken (i : PairId) (s : State) : State :=
  if !s.ctlOn then s
  else match i with
  | .ext n =>
    let s1 := (s.mdFlt (fun t => { t with pb := t.pb ||| BitVec.ofNat 256 (2 ^ (160 + n.val)) })).setEvt 2 2
    let s2 := if s1.subLive (208 + n.val) n.val then s1 else s1.raise (208 + n.val) n.val none
    if (s2.srcCfg (160 + n.val)).brokenAs && !s2.subLive (160 + n.val) subBroken then s2.raise (160 + n.val) subBroken none else s2
  | .acg n =>
    let s1 := (s.mdFlt (fun t => { t with acgPb := t.acgPb ||| BitVec.ofNat 8 (2 ^ n.val) })).setEvt 2 2
    inputGone s (if s1.subLive 156 n.val then s1 else s1.raise 156 n.val none)
  | .int n =>
    let s1 := (if s.subLive 157 n.val then s else s.raise 157 n.val none).pairHold n.val
    (s1.mdFlt (fun t => { t with pb := t.pb ||| BitVec.ofNat 256 (2 ^ n.val) })).setEvt 2 2

/-- ISLAND_TIMEOUT: a handshake unacknowledged for 10 us (R383). -/
def islandTimeout (src : Nat) (s : State) : State :=
  if s.ctlOn && 136 ≤ src && src < 150 then (if s.subLive src 0xFFFF then s else s.raise src 0xFFFF none) else s

/-! ### Resets of blocks -/

/-- RESET_RELEASE: after 10 us the block leaves reset; the mover's copies are cancelled and every eligible port is reverted (Table 12-5). -/
def resetRelease (b : Nat) (s : State) : State :=
  if !(rd s.flt.blocks b).held then s
  else
    let s1 := s.mdFlt (fun t => { t with blocks := md t.blocks b (fun x => { x with held := false }) })
    if b = 8 then s1.moverUp
    else if b = 13 then s1.fabStart
    else s1

/-- RESET_END: the block's first handshake, or its ready; SETTLE of its set runs from here (R396, R398). -/
def resetEnd (b : Nat) (s : State) : State :=
  let x := rd s.flt.blocks b
  if !x.running || x.held then s
  else
    let s1 := s.mdFlt (fun t => { t with blocks := wr t.blocks b { x with running := false } })
    let left := (List.range 16).any (fun c => (rd s1.flt.blocks c).running && (rd s1.flt.blocks c).set == x.set)
    let s2 := if left then s1 else s1.mdFlt (fun t => { t with sets := md t.sets x.set (fun o => { o with ended := true }) })
    if b < 14 then s2.unraise (136 + b) 0xFFFF else s2

/-! ### Host writes -/

/-- CLR_FIRST (R401). -/
def clrFirst (s : State) : State := s.mdFlt (fun t => { t with first := {} })

/-- One bit of FLT.FORCE: the pair reads asserted, unless it is forced invalid and keeps what it read (R384, R402). A double with a QUAL above 1
becomes live QUAL samples later (`xfSample`, R386). -/
def forceBit (src : Nat) (s : State) : State :=
  if s.flt.forcePb.getLsbD src || src = 158 || src = 159 then s
  else if s.flt.force.getLsbD src then
    (if s.subLive src subForced || (160 ≤ src && src < 208 && 1 < (s.srcCfg src).qual && !s.srcLive src) then s else s.raise src subForced none)
  else if s.pairHeld src then s
  else s.unraise src subForced

/-- FORCE_WRITE: word `i` of FLT.FORCE; ignored in Save (R402, R404). -/
def forceWrite (i : Nat) (w : Word) (s : State) : State :=
  if s.top.state = .save then s
  else
    let m : BitVec 256 := (0xFFFFFFFF#256) <<< (32 * i)
    forN 32 (fun j t => t.forceBit (32 * i + j)) (s.mdFlt (fun t => { t with force := (t.force &&& ~~~m) ||| ((w.zeroExtend 256) <<< (32 * i)) }))

/-- FORCE_PB_WRITE: word `i` of FLT.FORCE_PB; a pair no longer forced reads what it reads. -/
def forcePbWrite (i : Nat) (w : Word) (s : State) : State :=
  if s.top.state = .save then s
  else
    let m : BitVec 256 := (0xFFFFFFFF#256) <<< (32 * i)
    let s1 := forN 32 (fun j t => if w.getLsbD j then t.pairHold (32 * i + j) else t) s
    let s2 := s1.mdFlt (fun t => { t with forcePb := (t.forcePb &&& ~~~m) ||| ((w.zeroExtend 256) <<< (32 * i)) })
    forN 32 (fun j t => (if s.pairHeld (32 * i + j) then t.pairSeen (32 * i + j) else t).forceBit (32 * i + j)) s2

/-- ISO_CLEAR: ports written 1 are re-admitted (R395). -/
def isoClear (hi : Bool) (w : Word) (s : State) : State :=
  s.mdFlt (fun t => { t with iso := t.iso &&& ~~~((w.zeroExtend 64) <<< (if hi then 32 else 0)) })

/-- Sub-sources live for a turn end with it (R135, R346, R381). -/
def expireSubs (s : State) : State :=
  let runs := fun (x : SubSrc) => match x.till with | some n => decide (s.clk.turn ≤ n) | none => true
  s.mdFlt (fun t => { t with subs := t.subs.filter (fun x => s.heldBack x.src x.sub || runs x), behind := t.behind.filter runs })

/-- REFCLK_RETURN: after a short absence the islands resume with CLOCK registered; after a longer one they are reset into Boot (R498). -/
def refclkReturn (s : State) : State :=
  if s.pins.refclkRun then s
  else
    let s1 := (s.mdPins (fun p => { p with refclkRun := true })).backupFollow
    if s1.pins.refclkLong then
      let s2 := s1.mdPins (fun p => { p with refclkLong := false })
      if s2.inState [.off, .wake, .hold] then s2 else s2.warmBoot
    else if s1.ctlOn then
      let s2 := if s1.subLive 135 0xFFFF then s1 else s1.raise 135 0xFFFF none
      (s2.faultReg 135 0xFFFF).unraise 135 0xFFFF
    else s1

end State
end Sys2Proof.Machine
end

