-- ==== Sys2Proof/Machine/Takeover.lean ====
section
/-! DEFINITION. Claims of the token and takeovers (10): what a new holder takes from the last applied frame, the resumed and the re-tripped
save, the takeover in Return, the cold takeover, planned handover and the drill at the taker. -/

namespace Sys2Proof.Machine
namespace State

/-- A claim makes this controller the holder and increments EPOCH (R332, R334, R517). -/
def claimed (s : State) : State :=
  let s1 := (s.mdAon (fun a => { a with epoch := (a.epoch + 1) % 65536 })).mdPair (fun p => { p with
    drv := true, standby := false, ready := false, occ := .none, sampling := false, cutOff := false, hbOut := true })
  { s1.drivePulls with pins := { s1.pins with tokenLow := false } }

/-- The token changes from the partner to this controller: PAIR.TKO, T_TKO and the ledger's code 0x60 (R334, Table 13-5). -/
def claimBase (kind : Nat) (s : State) : State :=
  let s1 := (s.claimed.mdFab (fun v => { v with duty := false })).mdPair (fun p => { p with
    tkoKind := kind, tkoStamp := s.stamp, tkoYielded := p.yielded, yielded := false, tkoDur := min 0xFFFF ((s.clk.l - p.declL) / 1000) })
  s1.count 0x60 kind s1.aon.epoch

/-! ### What the frame gives -/

/-- The sleds as the new holder's channels show them, with the frame's classes (R343); a sled whose recipes and training values are not held
from an earlier tenure is initialised (R164). -/
def takeSled (f : Frame) (x : Nat) (s : State) : State :=
  let c := f.sleds.getD x (0, false, false)
  let up := rd s.pins.sledPrs x && c.1 != 0
  let s0 := if up && !((s.sled x).trained && (s.sled x).phy.length == (s.sled x).dev.dies.length) then s.dieInit x else s
  let ok := (List.range 8).foldl (fun a k => a + if s.chMatched x k then 2 ^ k else 0) 0
  let rec0 := (s.matchRecipe (((s.sled x).dev.dies.getD 0 []).headD 0)).getD 0
  let s1 := s0.mdSled x (fun d => { d with
    cls := c.1, drainPend := c.2.1, switched := c.2.2, pwr := up, up, chOk := if up then ok else 0, recipe := rec0, mapDone := c.1 == 6 && up, scanDone := c.1 == 6 && up
    cand := false, lostAt := false, reread := false, erases := d.dev.erases })
  let cap := sumN 4 (fun a => s1.areaSlots x a false) / 16
  let s2 := forN 8 (fun k t => let r := 8 * x + k
    ((t.setCursor r 0 (f.win.save.getD r noLoc)).setCursor r 1 (f.win.log.getD r noLoc)).setCursor r 2 (f.win.cat.getD r noLoc))
    ((s1.mdSled x (fun d => { d with cap })).openRings x)
  if c.1 = 6 && up then s2.adoptVault x else s2

/-- The vault from the frame and the sleds: allocation from the windows, numbers after their limits (R150), the geometry of the last boundary
(R177). -/
def takeVault (f : Frame) (sleds : Option (Tab SledDev 4)) (s : State) : State :=
  let s1 := match sleds with | some t => forN 4 (fun x u => u.mdDev x (fun _ => rd t x)) s | none => s
  let s2 := forN 4 (takeSled f) s1
  let nxt := fun (save : Bool) => (s2.allUnits.map (fun e =>
    if (save && e.2.2.tag.serial == f.serial) || (!save && e.2.2.tag.serial == 0) then e.2.2.tag.stripe + 1 else 0)).foldl max 0
  let s3 := s2.mdVault (fun v => { v with
    founded := true, epoch := f.mepoch, nextSeq := f.win.seq + 1, nextStripe := nxt true, nextLogStripe := nxt false, stripes := [], ready := [], cats := []
    epochPend := false, rjob := f.rjob, jobSled := f.jobSled, rprog := f.prog, rtotal := f.total, run := 0, bg := f.rjob != 0, rsusp := f.rjob != 0, rpull := false, reloc := {}, keyStep := 0, keyNew := none
    job := if f.rjob = 0 then v.job else f.rjob, jobState := if f.rjob = 0 then v.jobState else 2 })
  (s3.mdVault (fun v => { v with geom := f.geom })).reserveUpdate

/-- The share in force, its P and its expiry go on as the frame gives them (R373); grants this controller took in an earlier tenure are gone. Under the
fallback the spacing of R377 counts from the claim: the frame tells no expiry that has passed (DESIGN CHOICE, log entry 218). -/
def takeGrant (f : Frame) (s : State) : State :=
  let v := s.fab
  let n := f.grant.getD v.newest
  let s1 := { s with
    nrg := { s.nrg with num := f.num, den := f.den }
    fab := { v with
      grant := f.grant, newest := n, retSince := if n.retSlot = 0xF then none else if n.retSlot = v.newest.retSlot then v.retSince else some n.round
      share := if s.inTable then f.num else 0
      p := match f.grant with | some g => g.p | none => if s.inTable then s.nrg.eSum else 0
      exp := match f.grant with | some g => (g.round + 3) % 2 ^ 32 | none => 0
      fallback := s.inTable && f.grant.isNone, next := none, stagger := false, fallAt := s.clk.l } }
  if s1.fab.fallback != v.fallback then s1.setEvt 10 3 else s1

/-- The staged map's copies where the log holds them, and the rest of the STAGE and CORE sections. A pending confirm entry is as old as its
CONFIRM's turn, one that a compaction wrote, which names none, old enough to be written at once (R232). FRZ_N that the frame shows driven outside
Save is that of a trip without stakes, which this holder releases from now on (R110). -/
def takeStage (f : Frame) (s : State) : State :=
  let s1 := forN 64 (fun p t => t.mdPp p (fun q => { q with
    staged := q.staged.map (fun e => match t.logUnit e.lseq with | some u => { e with ring := u.1, loc := u.2.1 } | none => e)
    copies := [], confirms := [], asked := [], reverts := [], doubt := (rd f.ports p).doubt })) s
  { s1 with
    stage := { s1.stage with nextLseq := (f.win.lseq + 1) % 2 ^ 31, lseqSet := true, hwm := f.hwm, posted := []
                             pend := f.pend.map (fun e => (e, s1.clk.turn - min s1.clk.turn (if e.reloc then 100 else (f.turn + 1 + 2 ^ 32 - e.turn) % 2 ^ 32))) }
    aon := { s1.aon with credit := f.credit, emBkt := f.emBkt, emFresh := false }
    top := { s1.top with frz := f.frz, frzTrip := f.frz != 0 && f.state != 6 }
    save := { s1.save with serial := f.serial }
    ledg := { s1.ledg with tko := true, peerRseq := f.rseq } }

/-- Stakes, eligibility and releases of the frame (R64). A shortfall in force goes on: its record runs from here (R66, R422), and the 10
boundaries of its end are this holder's own (R67; DEDUCED, log entry 192). -/
def takeStakes (f : Frame) (s : State) : State :=
  let s1 := forN 64 (fun p t => let x := rd f.ports p
    let u := (t.mdStk p (fun v => { v with s := x.s, k := x.k, u := x.u, cov := x.cov })).mdRt p (fun r => { r with released := x.released })
    u.mdStkQ p (fun q => { q with uRep := x.u, elig := x.elig, was := q.was || x.elig, again := !u.eligible p })) s
  let s2 := { s1 with
    stake := { s1.stake with okRun := 0 }
    ledg := { s1.ledg with pr1 := if f.short then s1.startRec else {} } }
  s2.mdStake (fun v => { v with
    bTotal := f.bTotal, short := f.short, sumS := sumN 64 (fun p => (rd f.ports p).s), sumK := sumN 64 (fun p => (rd f.ports p).k)
    sumU := sumN 64 (fun p => if (rd f.ports p).elig then (rd f.ports p).u else 0), frozen := f.state == 6 })

/-- The sequencer's state of the SHARED slots (Table 10-3). -/
def takeSeq' (f : Frame) (s : State) : State :=
  let m := s.sharedSet
  let s1 := forN 64 (fun n t => if m.getLsbD n then t.mdSlot n (fun x => { x with st := f.slots.getD n 0 }) else t) s
  { s1 with seq := { s1.seq with attempt := f.attempt, phase := f.phase, rising := f.phase == 1, runDone := !(f.state == 2 || f.state == 3 || f.state == 9) } }

/-- Everything the frame carries (R343); the frame's own state is followed already. -/
def takeFrame (f : Frame) (sleds : Option (Tab SledDev 4)) (s : State) : State :=
  ((((((s.driveShared f.shared).takeVault f sleds).takeStage f).takeGrant f).takeStakes f).takeSeq' f)

/-! ### The messages of a takeover (R98, R151, R228) -/

/-- The REVERTs of a takeover to every port whose link is there: in UP at once, in RECOVER or training when UP is reached (R98, log entry
154). -/
def sendReverts (f : Frame) (s : State) : State :=
  forL (idxs 64 (fun p => !s.upper p && (s.lk p).st != 0)) (fun p t =>
    let t1 := t.sendRevert p f.turn false
    if (rd f.ports p).doubt then t1.sendRevert p f.turn true else t1) s

def askFrozen (s : State) : State := forL (idxs 64 s.linkUp) (fun p t => t.send p (.req false true false false)) s

/-! ### Save (R151, R152) -/

/-- A port of a resumed save: sealed ports stay; the others wait for their maps again and go on from CURSOR with the frame's C_SQ, known
there once the map had come, late maps included; one between manifest and seal is only sealed again (R151). One that never answers is waited for,
with class 1 open, until its cut-off or another close of the freeze window, and sealed before only where its link stays away (R138; DESIGN CHOICE, log
entry 225). -/
def resumePort (s : State) (p : Nat) (x : FrPort) : SvPort :=
  let v : SvPort := {
    img := true, adapter := (s.lk p).id, squares := (s.lk p).squares, late := x.late, cSq := x.cSq, waitAt := s.clk.l,
    moved := x.cursor, moved1 := min x.cSq x.cursor, staged := (s.pp p).staged }
  if !x.img then {}
  else if 5 ≤ x.pst then { v with pst := x.pst, unconf := x.unconf, incomplete := x.incomplete, ended := true }
  else { v with
    pst := 1
    unconf := x.unconf && x.late
    incomplete := x.incomplete && x.pst == 4
    skip := x.cursor
    ended := x.pst == 4
    cFix := if 2 ≤ x.pst && (!x.unconf || x.late) then some x.cSq else none }

/-- The seals of a save that are on flash: what the save manifest names. -/
def sealedPorts (s : State) (serial : Nat) : List (Nat × SaveManEnt) :=
  (s.marks 0).filterMap (fun r => if r.serial = serial then some (r.port, { imgGen := r.imgGen, mring := r.mring, mloc := r.mloc }) else none)

/-- The index entry of ordinal e of a save, from what is on flash: of a stripe the failed holder had opened whose entries it had not collected yet; a
position at which nothing is found counts as not programmed (R192; DEDUCED, log entry 196). -/
def foundEnt (s : State) (serial geom e : Nat) : IdxEnt :=
  let n := max 1 (geomUnits geom)
  match s.allUnits.find? (fun u => let t := u.2.2.tag; t.serial == serial && t.stripe == e / n && t.pos == e % n && t.geom == geom && t.kind < 0x11) with
  | some u => { entOf u.2.2.tag with loc := u.2.1, ring := u.1 }
  | none => entOf { kind := 5 }

/-- RESUME: the save goes on from the frame's checkpoint once the rings have settled (R151); a member it lost leaves the vault at its end (R186), and
the figures frozen at t_trip are the frame's (R61, Table 13-9). -/
def resume (f : Frame) (c : Ckpt) (s : State) : State :=
  let lost := (geomSleds c.geom).filter (fun x => (s.sled x).cls != 6)
  let s1 := s.assertFrz.mdSave (fun _ => {
    phase := if c.sealed then 6 else 2, resumed := true, serial := f.serial, tTrip := c.tTrip, tripL := c.tripL, settle := true, geom := c.geom, hwm := f.hwm,
    test := c.test, cal := c.cal, promoted := c.promoted, retripped := c.retripped, kind8 := c.kind8, sledLost := c.sledLost || !lost.isEmpty,
    supply := c.supply, primary := c.primary, src := c.src, late := c.late, edges := c.edges, calBad := c.cal,
    lostSleds := max c.lostSleds lost.length, tkos := c.tkos + 1,
    ports := tgen 64 (fun p => s.resumePort p (rd f.ports p)), done := c.sealed,
    ents := f.ents ++ (List.range (s.vault.nextStripe * max 1 (geomUnits c.geom) - f.first - f.ents.length)).map (fun i => s.foundEnt f.serial c.geom (f.first + f.ents.length + i))
    first := f.first, iring := f.iring, iloc := f.iloc, icount := f.icount, mans := s.sealedPorts f.serial })
  let s1 := (s1.mdPair (fun q => { q with yieldOnce := c.yieldOnce || q.tkoYielded })).mdVault (fun v => { v with epochPend := !lost.isEmpty })
  let s1 := s1.mdStake (fun v => { v with ePot := c.ePot, eNeed := c.eNeed, bwV := c.bwV })
  let s1 := forL lost (fun x t => t.mdSled x (fun d => { d with lostAt := true })) s1
  let s2 := forN 64 (fun p t => if (rd f.ports p).unconf && !(rd f.ports p).late && (t.sv p).pst = 1 then t.buildUnconf p else t) s1
  let s3 := forN 32 (fun r t => t.mdRing r (fun g => { g with isOpen := false, fails := 0 })) s2
  ((s3.sendStakes).sendReverts f).askFrozen

/-- RETRIP: a new save with the next serial (R152). -/
def retrip (f : Frame) (s : State) : State :=
  if s.inState [.ready, .ride, .service, .ret] then
    let s1 := s.arrive.enterSave 5 0 false false
    let s2 := s1.mdSave (fun v => { v with retripped := true, settle := true, tkos := v.tkos + 1 })
    ((s2.sendStakes).sendReverts f).askFrozen
  else ((s.tripNoSave 5 0).clearForces.sendStakes).sendReverts f

/-- RING_SETTLE_END: t_w0 of a resumed save is this instant; of a re-tripped one the later of it and R129's. -/
def ringSettled (s : State) : State :=
  if !s.saving || !s.save.settle then s
  else s.mdSave (fun v => { v with
    settle := false, w0 := if v.resumed then some s.sinceTrip else v.w0.map (fun w => max w s.sinceTrip), phase := if v.phase = 1 && v.resumed then 2 else v.phase })

/-! ### Return (R266) -/

/-- A takeover in Return (R266): retire marks for acknowledged releases and discards; a port whose RELEASE was not acknowledged is asked first, now or
when its link is up again; every other one is decided again, a pending one too. -/
def takeReturn (f : Frame) (s : State) : State :=
  let s1 := { s with ret := { s.ret with go := s.tableGo, waited := false } }
  forN 64 (fun p t =>
    let x := rd f.ports p
    let t1 := t.mdRt p (fun r => { r.kept with
      out := x.out, pend := x.pend, relSent := x.relSent, relAcked := x.relAcked, written := x.written, released := x.released, src := x.src })
    if x.out = 0xE then
      let n := (t1.images.filter (fun m => m.port == p && !t1.retired m)).length
      let t2 := (t1.mdRt p (fun r => { r with marks := n })).retireAll p 3
      if x.released then t2 else t2.discardStep p
    else if x.relAcked then (if x.out = 4 then t1.retireAll p 1 else if x.out = 7 then t1.retireRestored p x.src else t1)
    else if x.relSent then (t1.mdRt p (fun r => { r with released := false })).askPort p
    else t1.redecide p) s1

/-! ### Takeovers -/

/-- Hot takeover (R343): the frame, the messages, and what its state asks for. -/
def hotTake (f : Frame) (frzLow : Bool) (sleds : Option (Tab SledDev 4)) (s : State) : State :=
  let s1 := (s.takeFrame f sleds)
  let s2 := match f.ck with
    | some c => s1.resume f c
    | none =>
      if f.state = 5 || frzLow then s1.retrip f
      else
        let s3 := (s1.sendStakes).sendReverts f
        if f.state = 8 then s3.takeReturn f else s3
  s2

/-- The partner is gone: a solo holder. -/
def solo (s : State) : State := s.mdPair (fun p => { p with
  peer := false, win := none, unboundAt := none, sent := [], armed := false, armedFrames := 0, complete := false, given := false, baseOn := false, map := [], since := 0 })

/-- The taker of a planned handover keeps the giver as its standby, which holds the map already (R340). -/
def keepPeer (s : State) : State := s.mdPair (fun p => { p with
  peer := true, win := none, unboundAt := none, sent := [], armed := false, armedFrames := 0, complete := true, given := true, baseOn := false, map := s.stagedMap, since := 0
  handovers := satAdd 0xFFFF p.handovers 1 })

/-- The drill at the taker of a leg (R350): leg 1 starts the dwell; leg 2 ends the drill at the controller that runs it, as an aborted one where an abort
has shortened the dwell (R351, Table 15-6; DEDUCED, log entry 219). -/
def drillTake (f : Frame) (s : State) : State :=
  if f.drill = 1 then
    let n := if f.dwell < 16 then 16 else if 60000 < f.dwell then 60000 else f.dwell
    s.mdPair (fun p => { p with legs := 1, drillLeft := n, drillSave := if f.drillTest then 1 else 0, drillBad := false })
  else if f.drill = 3 && (s.pair.drillSt = 2 || s.pair.drillSt = 3) then
    let cut := s.pair.drillCut
    let s1 := (s.mdPair (fun p => { p with drillSt := 4, drillRes := if cut then 5 else 0, dueSet := p.dueSet && cut, drillCut := false })).setEvt 9 5
    if cut then s1.cmdEnd 6 else (s1.mdAon (fun a => { a with drillAge := 0 })).cmdEnd 2
  else s

/-- Cold takeover (R344): FRZ_N, stakes of 0, and Boot at the next boundary; where a last complete frame is held, the ledger's first report names its
record number (R424). -/
def coldTake (s : State) : State :=
  let s1 := (s.assertFrz.mdStake (fun v => { v with ports := tmap (fun x => { x with s := 0, k := 0, cov := 0 }) v.ports, frozen := false }))
  let s2 := { s1 with stake := { s1.stake with q := tmap (fun (x : StkQ) => { x with elig := false }) s1.stake.q } }
  let s3 := match s.pair.frame with
    | some f => { s2 with ledg := { s2.ledg with tko := true, peerRseq := f.rseq } }
    | none => s2
  (((s3.sendStakes.solo).mdPair (fun p => { p with coldDue := true })).setEvt 9 8)

/-- TOKEN_CLAIM: a claim of the token succeeds (R332). `frzLow`: a FRZ_N net reads low; `sleds`: what the channels now connected show. -/
def tokenClaim (frzLow : Bool) (sleds : Option (Tab SledDev 4)) (s0 : State) : State :=
  if !s0.ctlOn || !s0.pair.ready || s0.pair.drv then s0
  else
    let s := s0.arrive
    match s.pair.occ with
    | .none => s
    | .boot => s.claimed
    | .planned =>
      match s.pair.frame with
      | some f =>
        let t := ((s.claimBase 3).hotTake f frzLow sleds).keepPeer
        (t.drillTake f).setEvt 9 4
      | none => s
    | _ =>
      match s.pair.armed, s.pair.frame with
      | true, some f =>
        let t := ((s.claimBase 1).hotTake f frzLow sleds).solo
        ((t.mdPair (fun p => { p with takeovers := satAdd 0xFFFF p.takeovers 1, dueSet := false })).mdAon (fun a => { a with drillAge := 0 })).setEvt 9 0
      | _, f => (((match f with | some x => (s.claimBase 2).driveShared x.shared | none => s.claimBase 2).coldTake).mdPair (fun p => { p with takeovers := satAdd 0xFFFF p.takeovers 1 })).setEvt 9 0

/-- The cold takeover's Boot: the islands reset, the token and what PAIR shows of the takeover kept (R344). -/
def coldBootNow (s : State) : State :=
  let p := s.pair
  let e := rd s.evt 9
  let t := s.warmBoot
  { t with
    evt := wr t.evt 9 e
    ledg := { t.ledg with tko := s.ledg.tko, peerRseq := s.ledg.peerRseq }
    pair := { t.pair with drv := true, tkoKind := p.tkoKind, tkoYielded := p.tkoYielded, tkoDur := p.tkoDur, tkoStamp := p.tkoStamp, takeovers := p.takeovers
                          peerId := p.peerId, hbOk := p.hbOk, plUp := p.plUp } }

/-- The end of Boot is a claim's occasion where no partner frame was received in it, or makes this controller standby (R332, R340, R517). -/
def bootToken (tokenLow : Bool) (s : State) : State :=
  if s.top.state ≠ .boot || !s.bimg.running || s.pair.drv || s.pair.standby then s
  else if s.paired && (tokenLow || s.pair.heard) then s.becomeStandby
  else if s.pair.occ = .none then s.mdPair (fun p => { p with occ := .boot, ready := !s.paired || !s.pins.awaySeat })
  else s

end State
end Sys2Proof.Machine
end

