-- ==== Sys2Proof/Machine/HostPort.lean ====
section
/-! DEFINITION. The host's commands (14, 15): cycles in error, board image judging and loading, image and fuse commands, TOP.CMD, aborts,
the PMBus polling of POL devices. -/

namespace Sys2Proof.Machine
namespace State

def mdBimg (f : Bimg → Bimg) (s : State) : State := { s with bimg := f s.bimg }
def mdCmd (f : LongCmd → LongCmd) (s : State) : State := { s with cmd := f s.cmd }

/-- A long command runs: RP_BUSY is high (R458). -/
def busy (s : State) : Bool := s.cmd.state == 1

/-! ### Cycles (R453) -/

/-- A cycle ends well with read data. -/
def rpData (w : Word) (s : State) : State := { s with rp := { s.rp with data := w, err := false } }

/-- A cycle ends in error: RP_ERR, data 0, the cause and the address (Table 15-3). -/
def rpErr (cause addr : Nat) (write : Bool) (s : State) : State :=
  ({ s with rp := { s.rp with
      data := 0, err := true, errAddr := word [(0, 24, addr), (24, 3, cause), bf 27 write], cntPort := satAdd 0xFFFF s.rp.cntPort 1 } }).setEvt 1 0

/-- While the control island is off nothing answers (R454): the pins show every cycle end in error, and no register changes. -/
def rpDead (s : State) : State := { s with rp := { s.rp with data := 0, err := true } }

/-- A write access to a control-island register of the port's own: refused while busy (R458). -/
def rpWrite (addr : Nat) (f : State → State) (s : State) : State :=
  if !s.ctlOn then s.rpDead else if s.busy then s.rpErr 1 addr true else f (s.rpData 0)

/-- A read access to a control-island register outside the Quick window. -/
def rpRead (addr : Nat) (f : State → Word × State) (s : State) : State :=
  if !s.ctlOn then s.rpDead else if s.busy then s.rpErr 1 addr false else let r := f s; r.2.rpData r.1

/-! ### Judging image slots (R438 to R441) -/

/-- The key hash in force: the first valid bank. -/
def keyHash (s : State) : Option (List Byte) :=
  match rd s.keyBanks 0, rd s.keyBanks 1 with
  | .valid h, _ => some h
  | _, .valid h => some h
  | _, _ => none

def judgeEnv (s : State) : JudgeEnv :=
  { keyHash := s.keyHash, counter := s.fuseCnt, awaySeat := s.pins.awaySeat, ownAddr := if s.aon.fabAddr = 0 then none else some s.aon.fabAddr }

/-- The verdict on a device's copy of a slot. -/
def judgeCopy (s : State) (x d : Nat) : Verdict :=
  if !(rd s.ledg.dev d).ok then { result := 11 } else judgeBytes s.judgeEnv (Mem.readN 0xFF (s.norMem d) (0x400000 + x * 0x100000) 0x100000)

/-- Judge one slot (R439): its registers, and the image where one copy passes. -/
def judgeSlot (x : Nat) (s : State) : Option BImg × State :=
  let v0 := s.judgeCopy x 0
  let v1 := s.judgeCopy x 1
  let p0 := v0.result == 0
  let p1 := v1.result == 0
  let v := if p0 then v0 else if p1 then v1 else v0
  let sv : SlotVerdict := { result := if v.result = 0 then 2 else v.result, copy0 := p0, copy1 := p1, svn := v.hdr.svn, imgSeq := v.hdr.imgSeq }
  let s1 := s.mdBimg (fun b => { b with
    slots := wr b.slots x sv
    fault := if v.result = 9 || v.result = 10 then word [(0, 16, v.fType), (16, 12, v.fRec), bf 28 (x == 1)] else b.fault })
  let s2 := if 3 ≤ v.result then s1.setEvt 11 1 else s1
  let fix := fun (d : Nat) (t : State) => if (rd t.ledg.dev d).ok && !(t.ledg.bg.any (fun b => b.kind == .slotRepair x)) then
      { t with ledg := { t.ledg with bg := t.ledg.bg ++ [{ kind := .slotRepair x, dev := d, ops := slotCopyOps x }] } } else t
  let s3 := if p0 && !p1 then fix 1 s2 else if p1 && !p0 then fix 0 s2 else s2
  (if v.result = 0 then some v.img else none, s3)

/-- An image is accepted at Boot: every section is loaded (R439, R475, R518), a string it does not configure holds no UNRES (R284), the
sources of a paired image follow the heartbeat and the partner link (R380), and the claim's occasion arises (R332). -/
def accept (x : Nat) (i : BImg) (s : State) : State :=
  let s1 := (s.mdBimg (fun b => { b with img := i, running := true, runSlot := x, slots := md b.slots x (fun v => { v with result := 1 }) })).setEvt 11 0
  let s2 := { s1 with aon := { s1.aon with strs := tgen 16 (fun k => let x := rd s1.aon.strs k; { x with unres := x.unres && (s1.strCfg k).configured }) } }
  let s3 := (s2.stakeLoad true).loadLevels.firstDrive.isoJoin.acceptChips.fabImage
  ((s3.follow 126 0xFFFF (s3.paired && !s3.pair.hbOk)).follow 127 0xFFFF (s3.paired && !s3.pair.plUp)).bootToken s2.pins.tokenLow

/-- Judge both slots and accept the newer valid one, slot A on ties. -/
def bimgJudge (s : State) : State :=
  let (a, s1) := s.judgeSlot 0
  let (b, s2) := s1.judgeSlot 1
  match a, b with
  | none, none => s2
  | some i, none => s2.accept 0 i
  | none, some j => s2.accept 1 j
  | some i, some j => if i.hdr.imgSeq < j.hdr.imgSeq then s2.accept 1 j else s2.accept 0 i

/-- BIMG_SELECT: after the ledger scan of a Boot (R439). -/
def bimgSelect (s : State) : State := if s.top.state = .boot && s.ctlOn && s.ledg.scanDone && !s.bimg.running then s.bimgJudge else s

/-- Both slots are judged again in Boot; with an image loaded already none is accepted, and its slot stays the running one while it passes (R441, R448). -/
def bimgRejudge (s : State) : State :=
  if s.top.state ≠ .boot || !s.ctlOn || !s.ledg.scanDone then s
  else if !s.bimg.running then s.bimgJudge
  else
    let s1 := (((s.judgeSlot 0).2).judgeSlot 1).2
    s1.mdBimg (fun b => { b with slots := md b.slots s.bimg.runSlot (fun v => if v.result = 2 then { v with result := 1 } else v) })

/-- BIMG_RESCAN acts only in Boot (R441). -/
def bimgRescan (s : State) : State := s.bimgRejudge

/-! ### Image and fuse commands (R442 to R448) -/

/-- BIMG.CMD_STAT at the start of image command `n`. -/
def bimgStart (n : Nat) (s : State) : State := s.mdBimg (fun b => { b with cmd := n, state := 1, result := 0 })
def bimgReject (n res : Nat) (s : State) : State := s.mdBimg (fun b => { b with cmd := n, state := 6, result := res })

/-- A slot write's operations on one device: eight erases, then 128 pages (R443). -/
def slotWriteOps (s : State) : List NorOp :=
  let a := s.chunkAddr
  (List.range 8).map (fun i => NorOp.erase (a + i * 4096)) ++ pages 128 a (Mem.readN 0 s.bimg.stg 0 0x8000)

/-- A slot write has ended on every device: the command ends, and in Boot both slots are judged again (R441, R443). -/
def slotWritePoll (s : State) : State :=
  if s.cmd.code ≠ 1 || s.cmd.state ≠ 1 || (s.bimg.state ≠ 3 && s.bimg.state ≠ 4) then s
  else (s.cmdEnd (if s.bimg.state = 3 then 2 else 3)).bimgRejudge

/-- A key fuse's result: the first blank bank (R448). -/
def blankBank (s : State) : Option Nat := (List.range 2).find? (fun i => rd s.keyBanks i == .blank)

/-- BIMG.KEYH as bytes: what it reads, which is the fused hash while a bank is valid. -/
def keyhBytes (s : State) : List Byte :=
  match s.keyHash with | some h => h | none => s.bimg.keyh.flatMap (fun w => leBytes 4 w.toNat)

/-- What a reload changes at its commit boundary, the first at which its checks have ended (R388, R413, R414, R444, R445); the epoch's
close is one with an early close asked for (DEDUCED, log entry 188). -/
def reloadCommit (s : State) : State :=
  match s.bimg.reload with
  | none => s
  | some (x, i) =>
    if s.bimg.wait ≠ 0 then s.mdBimg (fun b => { b with wait := b.wait - 1 })
    else
    let s0 := (s.mdBimg (fun b => { b with img := { i with ledg := b.img.ledg }, runSlot := x, reload := none, state := 3 })).setEvt 11 0
    let s01 := { s0 with ledg := { s0.ledg with next := some i.ledg } }
    let s1 := if s01.ledg.epochs then s01.epochClose (5 ||| s01.ledg.closeDue.getD 0) else s01.takeTuning
    let s2 := s1.stakeLoad false
    let s3 := forN 16 (fun k t => t.mdStr k (fun y => { y with runOk := false })) s2
    s3.fabImage.cmdEnd 2

/-- A fuse of a running counter advance is blown at this boundary, unless an abort acts at it (DESIGN CHOICE, log entry 187); at the
running SVN it ends (R447). -/
def counterTurn (s : State) : State :=
  if s.cmd.code ≠ 3 || s.cmd.state ≠ 1 || s.cmd.abortPend then s
  else
    let s1 := { s with fuseCnt := min 64 (s.fuseCnt + 1) }
    if s1.im.hdr.svn ≤ s1.fuseCnt then (s1.mdBimg (fun b => { b with state := 3 })).cmdEnd 2 else s1

/-- A key fuse completes: the bank is blown and read back, and both slots are judged again (R448). -/
def keyFuseTurn (s : State) : State :=
  if s.cmd.code ≠ 4 || s.cmd.state ≠ 1 then s
  else
    match (List.range 2).find? (fun i => rd s.keyBanks i == .torn && i == s.bimg.bank) with
    | none => s
    | some i =>
      let s1 := { s with keyBanks := wr s.keyBanks i (.valid s.keyhBytes) }
      ((s1.mdBimg (fun b => { b with state := 3, result := 0 })).cmdEnd 2).bimgRejudge

/-! ### TOP.CMD (R458 to R460) -/

/-- Start long command `c`: accepted it runs, refused it completes with STATE 5. -/
def longCmd (c : Nat) (ok : Bool) (f : State → State) (s : State) : State :=
  if ok then f (s.mdCmd (fun _ => { code := c, state := 1 })) else s.mdCmd (fun _ => { code := c, state := 5 })

/-- A short command: STATE 2 or 5, never RP_BUSY (R459). -/
def shortCmd (c : Nat) (ok : Bool) (f : State → State) (s : State) : State :=
  let s1 := s.mdCmd (fun _ => { code := c, state := if ok then 2 else 5 })
  if ok then f s1 else s1

/-- A standby accepts only the image commands and the ledger export (R460). -/
def standbyOk (s : State) (c : Nat) : Bool := !s.pair.standby || c ≤ 4 || c == 9

/-- 0x01 SLOT_WRITE. -/
def cmdSlotWrite (s : State) : State :=
  let ok := s.inState [.boot, .ready, .service] && !(s.bimg.running && s.argSlot == s.bimg.runSlot)
  if !ok then (s.bimgReject 1 0).longCmd 1 false (fun t => t)
  else s.longCmd 1 true (fun t =>
    let ops := t.slotWriteOps
    let jobs := t.norDevs.map (fun d => ({ kind := .slotWrite, dev := d, ops } : BgJob))
    let t1 := { t.bimgStart 1 with ledg := { t.ledg with bg := t.ledg.bg ++ jobs.mergeSort (fun a b => decide (a.dev ≤ b.dev)) } }
    if jobs.isEmpty then (t1.mdBimg (fun b => { b with state := 4 })).cmdEnd 3 else t1)

/-- 0x02 TUNING_RELOAD: the slot is judged as it stands at the command; the checks end after a time the rule only bounds by 300 ms, a free value
(log entry 181), and the commit follows at the next boundary (R444). -/
def cmdReload (s : State) : State :=
  if s.top.state ≠ .ready || !s.bimg.running || s.argSlot = s.bimg.runSlot then (s.bimgReject 2 0).longCmd 2 false (fun t => t)
  else s.longCmd 2 true (fun t =>
    let x := t.argSlot
    let (i, t1) := t.judgeSlot x
    match i with
    | none => (t1.bimgReject 2 (rd t1.bimg.slots x).result).cmdEnd 5
    | some j =>
      if j.hdr.structCrc ≠ t1.im.hdr.structCrc then (t1.bimgReject 2 13).cmdEnd 5
      else ((t1.bimgStart 2).mdBimg (fun b => { b with reload := some (x, j), wait := (Config.freeWord t.clk.free).toNat % 300 })).tick)

/-- 0x03 COUNTER_ADVANCE. -/
def cmdCounter (s : State) : State :=
  if s.top.state = .ready && decide (s.fuseCnt < s.im.hdr.svn) then s.longCmd 3 true (bimgStart 3) else (s.bimgReject 3 0).longCmd 3 false (fun t => t)

/-- 0x04 KEY_FUSE: the bank is torn until the command completes (R438, R448). -/
def cmdKeyFuse (s : State) : State :=
  match s.top.state, s.blankBank with
  | .boot, some i => s.longCmd 4 true (fun t => ({ t.bimgStart 4 with keyBanks := wr t.keyBanks i .torn }).mdBimg (fun b => { b with bank := i }))
  | _, _ => (s.bimgReject 4 0).longCmd 4 false (fun t => t)

/-- 0x08 ESTIMATOR_RESTORE: the records are copied into the inactive AON bank and checked at once, and committed at the next boundary (R293, R295). -/
def cmdRestore (s : State) : State :=
  let s1 := s.bankCopy
  let r := s1.restoreCheck
  if !s.standbyOk 8 then s.longCmd 8 false (fun t => t)
  else if r ≠ 0 then ((({ s with nrg := { s.nrg with rstResult := r } }).setEvt 5 8).restoreRejected).longCmd 8 false (fun t => t)
  else s1.longCmd 8 true (fun t => { t with nrg := { t.nrg with restore := some (BitVec.ofNat 16 (bitsOf t.nrg.rstArg 15 0)) } })

/-- 0x09 LEDGER_EXPORT: the epoch closes early and the command waits for the writer's queue (R429). -/
def cmdExport (s : State) : State := s.longCmd 9 true (fun t => (({ t with ledg := { t.ledg with exporting := true } }).epochAsk 1))

/-- The export's end: once the writer's queue holds no record HOLD is set. -/
def exportTurn (s : State) : State :=
  if s.ledg.exporting && s.ledg.queue.isEmpty && s.ledg.cur.isNone && s.ledg.deferred.isNone && s.ledg.closeDue.isNone then
    ({ s with ledg := { s.ledg with exporting := false, hold := true, lost := 0 } }).cmdEnd 2
  else s

/-- A vault job by its long command. -/
def cmdJob (c : Nat) (start : State → Bool × State) (s : State) : State :=
  if s.busy then s
  else
    let s0 := s.mdCmd (fun _ => { code := c, state := 1 })
    if !s.standbyOk c then s.mdCmd (fun _ => { code := c, state := 5 })
    else
      let (ok, t) := start s0
      if ok then t else t.mdCmd (fun _ => { code := c, state := 5 })

def cmdVerify (s : State) : State := s.cmdJob 0x11 startVerify
def cmdDrain (s : State) : State := s.cmdJob 0x12 startDrain
def cmdRebuild (s : State) : State := s.cmdJob 0x13 startRebuild
def cmdVaultExport (s : State) : State := s.cmdJob 0x14 startExport
def cmdKeyErase (s : State) : State := s.cmdJob 0x15 startErase
def cmdFormat (s : State) : State := s.cmdJob 0x16 startFormat

/-- The SCL periods of one pass over the fixed-power list fit 4 ms (R471). -/
def calFits (s : State) : Bool :=
  let n := (idxs 16 (fun i => rd s.im.pol.fixPwr i != 0x7F)).length
  decide (n * 150 * (match s.im.core.pmbSpeed with | 0 => 1000 | 1 => 250 | _ => 100) ≤ 400000)

/-- 0x20 CALIBRATION_SAVE (R160, R471): it trips at the next boundary. -/
def cmdCal (s : State) : State :=
  s.longCmd 0x20 (s.standbyOk 0x20 && s.holder && s.top.state == .ready && !s.stake.v.short && 0 < s.healthyCount && s.calFits)
    (fun t => t.mdSave (fun v => { v with calReq := true }))

/-- 0x21 SWAP_DRILL (R350). -/
def cmdDrill (s : State) : State :=
  if s.standbyOk 0x21 && s.handConds && (s.pair.legs = 0 || 3 ≤ s.pair.legs) then
    s.longCmd 0x21 true (fun t => t.mdPair (fun p => { p with legs := 0, drillCut := false, drillSt := 1, drillRes := 0, hand := 1, handDrill := true }))
  else (s.mdPair (fun p => { p with drillRes := 6 })).longCmd 0x21 false (fun t => t)

/-- 0x40 HOST_SHUTDOWN; in Save it waits for the seal (R25). -/
def cmdShutdown (s : State) : State :=
  s.shortCmd 0x40 (s.standbyOk 0x40 && s.inState [.ready, .ride, .service, .ret, .save]) (·.mdTop (fun t => { t with wantShut := true }))

/-- 0x41 UNLATCH: SEQFLT_N is released at once (R315). -/
def cmdUnlatch (s : State) : State :=
  s.shortCmd 0x41 (s.standbyOk 0x41 && s.top.state == .latched) (fun t =>
    { t.mdTop (fun u => { u with wantUnlatch := true }) with seq := { t.seq with drv := false, restDone := false } })

/-- 0x42 LEAVE_SERVICE. -/
def cmdLeave (s : State) : State :=
  s.shortCmd 0x42 (s.standbyOk 0x42 && s.top.state == .service && s.runComplete) (·.mdTop (fun t => { t with wantLeave := true }))

/-- A TOP.CMD write that starts no command of Table 15-5: a wrong KEY, or an unknown code. -/
def cmdInvalid (w : Word) (s : State) : State :=
  if bitsOf w 31 16 ≠ 0xA5C3 then s.setEvt 1 3
  else if [0x01, 0x02, 0x03, 0x04, 0x08, 0x09, 0x11, 0x12, 0x13, 0x14, 0x15, 0x16, 0x20, 0x21, 0x40, 0x41, 0x42].contains (bitsOf w 7 0) then s
  else s.mdCmd (fun _ => { code := bitsOf w 7 0, state := 5 })

/-- The start of a command's code with the right KEY: the TOP.CMD write itself ends in error while a command runs. -/
def topCode (f : State → State) (s : State) : State := s.rpWrite 0x0C f

/-- A write of TOP.CMD. -/
def topCmd (w : Word) (s : State) : State :=
  if bitsOf w 31 16 ≠ 0xA5C3 then s.cmdInvalid w
  else match bitsOf w 7 0 with
  | 0x01 => s.cmdSlotWrite | 0x02 => s.cmdReload | 0x03 => s.cmdCounter | 0x04 => s.cmdKeyFuse | 0x08 => s.cmdRestore | 0x09 => s.cmdExport
  | 0x11 => s.cmdVerify | 0x12 => s.cmdDrain | 0x13 => s.cmdRebuild | 0x14 => s.cmdVaultExport | 0x15 => s.cmdKeyErase | 0x16 => s.cmdFormat
  | 0x20 => s.cmdCal | 0x21 => s.cmdDrill | 0x40 => s.cmdShutdown | 0x41 => s.cmdUnlatch | 0x42 => s.cmdLeave
  | _ => s.cmdInvalid w

/-! ### Abort (R462) -/

/-- A write of RP.ABORT with ABORT = 1; ignored while no long command runs. At the controller that dwells in a drill it shortens the dwell
to 0 (R351). -/
def abortWrite (s : State) : State :=
  let s1 := if s.pair.legs = 1 then s.mdPair (fun p => { p with drillLeft := 0 }) else s
  if s1.busy then s1.mdCmd (fun c => { c with abortPend := true }) else s1

/-- A command ends aborted. -/
def abortEnd (st : Nat) (s : State) : State := (s.mdCmd (fun c => { c with abortPend := false })).cmdEnd st

/-- The abort acts at a turn boundary (Table 15-6); of a calibration save whose seal is written it stays pending (DEDUCED, log entry 189). -/
def abortTurn (s : State) : State :=
  if !s.busy || !s.cmd.abortPend then s
  else match s.cmd.code with
  | 0x01 => (s.slotStop.mdBimg (fun b => { b with state := 7 })).abortEnd 6
  | 0x02 => (s.mdBimg (fun b => { b with state := 7, reload := none })).abortEnd 6
  | 0x03 => (s.mdBimg (fun b => { b with state := 7 })).abortEnd 6
  | 0x08 => ({ s with nrg := { s.nrg with restore := none, rstResult := 6 } }).abortEnd 6
  | 0x09 => ({ s with ledg := { s.ledg with exporting := false } }).abortEnd 6
  | 0x20 =>
    if s.saving then (s.mdSave (fun v => { v with calBad := true, fillOn := false })).mdCmd (fun c => { c with abortPend := false, aborted := true }) else s
  | 0x21 =>
    if s.pair.drillSt = 1 && s.pair.hand = 1 then
      (((s.mdPair (fun p => { p with hand := 0, handDrill := false, drillSt := 4, drillRes := 5 })).setEvt 9 5).abortEnd 6).pump
    else if s.pair.drillSt = 2 then (s.mdPair (fun p => { p with drillCut := true })).mdCmd (fun c => { c with abortPend := false, aborted := true })
    else s
  | _ =>
    match s.jobAbort with
    | (some st, t) => t.abortEnd st
    | (none, t) => t

/-- The calibration command completes when the controller reaches Ready (R156). -/
def calCmdEnd (s : State) : State :=
  if s.cmd.code = 0x20 && s.busy && s.top.state = .ready && !s.save.calReq then s.cmdEnd (if s.cmd.aborted then 6 else if s.save.calOk then 2 else 3) else s

/-! ### POL devices (R467 to R471) -/

/-- Devices of the list in use. -/
def polListed (s : State) : List Nat := idxs 64 (fun d => (rd s.im.pmb d).addr != 0)

/-- A slot of the device is margined. -/
def polMargined (s : State) (d : Nat) : Bool := (idxs 64 (fun n => (s.slotCfg n).cls != 0 && (s.slotCfg n).pmb != 0x7F && s.sameDevice (s.slotCfg n).pmb d && margined (s.slot n))) != []

/-- The polling of an entry is suspended: a slot of its device is margined on another page (R470). -/
def pollHeld (s : State) (d : Nat) : Bool :=
  (idxs 64 (fun n => (s.slotCfg n).cls != 0 && (s.slotCfg n).pmb != 0x7F && margined (s.slot n) && s.sameDevice (s.slotCfg n).pmb d
    && (rd s.im.pmb (s.slotCfg n).pmb).page != (rd s.im.pmb d).page)) != []

/-- Polling runs; it stops during a calibration save (R471). -/
def pollOn (s : State) : Bool := s.bimg.running && !(s.saving && s.save.cal)

/-- The device the polling pass comes to next: in the order of the list, those listed and not suspended (R468, R470). -/
def pollNext (s : State) : Option Nat :=
  ((List.range 64).map (fun i => (s.rp.pos + i) % 64)).find? (fun d => (rd s.im.pmb d).addr != 0 && !s.pollHeld d)

/-- Issue the transactions of the next poll, where none is under way (R467, R468). -/
def pollIssue (s : State) : State :=
  if !s.pollOn || !s.pmbRuns || s.rp.tx.any (fun x => x.slot.isNone) then s
  else match s.pollNext with
  | none => s
  | some d => s.pmbIssue d none ([0x79, 0x8B, 0x8C, 0x8D].map (s.txRead d))

/-- The poll of device `d` has ended: the pass goes on to the next. -/
def pollStep (d : Nat) (s : State) : State := ({ s with rp := { s.rp with pos := (d + 1) % 64 } }).pmbQuiet.pollIssue

/-- PMB_POLL: device `d`, the one the pass has come to, answered STATUS_WORD, READ_VOUT, READ_IOUT and READ_TEMPERATURE_1, or failed after its retries
(R468, R469). -/
def pmbPoll (d : Nat) (r : Option (Nat × Nat × Nat × Nat)) (s0 : State) : State :=
  let c := rd s0.im.pmb d
  if !s0.ctlOn || !s0.pollOn || !s0.pmbRuns || s0.pollNext ≠ some d then s0
  else
    let s := s0.pollStep d
    let upd := fun (f : Pol → Pol) (t : State) => { t with rp := { t.rp with pol := md t.rp.pol d f } }
    match r with
    | none =>
      let n := satAdd 255 (rd s.rp.pol d).misses 1
      let s1 := upd (fun x => { x with misses := n, failed := x.failed || decide (3 ≤ n) }) s
      if 3 ≤ n && !s1.subLive 154 d then (s1.raise 154 d none).setEvt 1 2 else s1
    | some (st, v, i, t) =>
      let fr := (Config.freeWord s.clk.free).toNat
      let bad := st / 8192 != 0 || st / 2 % 128 != 0
      let s1 := (upd (fun x => { x with status := st, vout := voutMv c v fr, iout := linear11 1000 i (fr / 2), temp := linear11 10 t (fr / 4), age := if bad then x.age else 0, misses := 0, failed := bad }) s).tick
      if bad then (if s1.subLive 154 d then s1 else (s1.raise 154 d none).setEvt 1 2) else s1.unraise 154 d

/-- The ages of the readings, in ms (RP.POL[d].AGE); a pass that was abandoned or has not begun goes on. -/
def polTurn (s : State) : State := { s with rp := { s.rp with pol := tmap (fun (x : Pol) => { x with age := satAdd 0xFFFF x.age 1 }) s.rp.pol } }.pollIssue

end State
end Sys2Proof.Machine
end

