-- ==== Sys2Proof/Machine/RegMap.lean ====
section
/-! DEFINITION. The register map (16): what every register reads, what a read latches, what a write does, which accesses end in error; the
Quick window (15), IRQ_N (R457, R458), and the PMBus target (R463 to R466). -/

namespace Sys2Proof.Machine
namespace State

/-! ### Islands that own registers (Table 01-3, R16) -/

/-- A port island is powered and not held in reset. -/
def portOn (s : State) (i : Nat) : Bool :=
  s.ctlOn && rd s.pins.rails 0 && rd s.pins.rails 2 && rd s.pins.rails 3 && !(rd s.flt.blocks i).held &&
    (s.inState [.ready, .ride, .save, .ret, .service] ||
      (s.inState [.rise, .fall] && (List.range 64).any (fun n =>
        (s.slotCfg n).cls != 0 && (s.slotCfg n).role == 2 && (s.slot n).st == 5 && (s.slotCfg n).ports / 2 ^ (8 * i) % 256 != 0)))

/-- A flash island is powered and not held in reset. -/
def flashOn (s : State) (x : Nat) : Bool := s.ctlOn && rd s.pins.rails 0 && rd s.pins.rails 4 && (s.sled x).pwr && !(rd s.flt.blocks (9 + x)).held

/-- The fabric island is powered and not held in reset. -/
def fabricOn (s : State) : Bool := s.ctlOn && rd s.pins.rails 0 && rd s.pins.rails 2 && rd s.pins.rails 3 && !(rd s.flt.blocks 13).held

/-- Word `i` of a stamp. -/
def stampWord (t : Stamp) (i : Nat) : Word := t.words.getD i 0

/-- The low 32 bits of a signed value. -/
def sword (v : Int) : Word := BitVec.ofNat 32 (ofInt 32 v)

def nword (v : Nat) : Word := BitVec.ofNat 32 v

/-- Element `k` of an array of registers at `base`, with a stride in bytes: its index and the offset within the element. -/
def arr (o base stride n : Nat) : Option (Nat × Nat) :=
  if base ≤ o && o < base + stride * n then some ((o - base) / stride, (o - base) % stride) else none

/-! ### Interrupts (R457, R458) -/

/-- Enable bits of the CTRL registers and the EVT bits they enable: block, CTRL bit, EVT bit. -/
def ieMap : List (Nat × Nat × Nat) :=
  [(0, 1, 0), (0, 2, 1), (1, 0, 0), (1, 1, 1), (1, 1, 2), (2, 0, 0), (2, 1, 1), (2, 2, 2), (3, 0, 0), (3, 1, 1), (3, 2, 2)]
  ++ [(4, 0, 0), (4, 0, 1), (4, 1, 2), (4, 2, 3), (4, 3, 4), (4, 3, 5), (5, 1, 0), (5, 1, 1), (5, 1, 2), (5, 2, 3), (5, 3, 4), (5, 3, 5), (5, 4, 6)]
  ++ [(6, 0, 0), (6, 1, 1), (6, 2, 2), (7, 4, 0), (7, 5, 1), (7, 6, 2), (8, 1, 0), (8, 2, 1), (8, 3, 2)]
  ++ [(9, 1, 0), (9, 1, 4), (9, 2, 1), (9, 2, 2), (9, 3, 5), (9, 3, 6), (9, 4, 7), (10, 5, 0), (10, 6, 2), (10, 7, 3), (10, 8, 4)]
  ++ [(11, 1, 0), (11, 2, 1), (12, 0, 0), (12, 1, 1), (12, 2, 2)]

/-- TOP.IRQ. -/
def irqPending (s : State) (b : Nat) : Bool := ieMap.any (fun e => e.1 == b && s.ctrlBit b e.2.1 && s.evtBit b e.2.2)

/-- IRQ_N is low; released while the control island is unpowered (R454). -/
def irqLow (s : State) : Bool :=
  s.ctlOn && s.ctrlBit 0 0 && (List.range 13).any (fun b => s.irqPending b && (!s.busy || s.busyIrq.getLsbD b))

/-! ### TOP and RP (15) -/

/-- TOP.STATE. -/
def topState (s : State) : Word :=
  word [(0, 4, s.top.state.code), (4, 4, s.top.prev.code), bf 8 s.pair.drv, bf 9 (s.pair.standby && s.pair.frame.isSome), bf 10 s.busy,
    bf 11 s.unrestored, bf 12 s.flt.latchPend, (16, 16, min 0xFFFF (s.top.turnsIn / 1000))]

/-- The address the target answers at (R463). -/
def tgtAddr (s : State) : Nat := if s.bimg.running then s.im.core.pmbTgt else 0x5A

/-- RP.STATUS. -/
def rpStatus (s : State) : Word :=
  word [bf 0 s.busy, bf 1 s.cmd.abortPend, bf 2 (!s.bimg.running), (3, 7, s.tgtAddr), (10, 2, s.im.core.pmbSpeed)]

/-- The registers of TOP, offsets 0x00 to 0x3C. -/
def topReg (s : State) (o : Nat) : Option Word :=
  match o / 4 with
  | 0 => some 0x4A5A6432#32
  | 1 => some 0x101#32
  | 2 => some s.topState
  | 3 => some (word [(0, 8, s.cmd.code)])
  | 4 => some (word [(0, 8, s.cmd.code), (8, 3, s.cmd.state), bf 11 s.cmd.abortLate, (16, 16, min 0xFFFF s.cmd.elapsed)])
  | 5 => some (bitmap 0 (fun b => b < 13 && s.irqPending b))
  | 6 => some (rd s.ctrl 0)
  | 7 => some s.busyIrq
  | 8 => some (rd s.evt 0)
  | 9 => some (nword s.top.opSec)
  | 10 => some (nword s.aon.cycles)
  | 11 => some (nword s.stake.v.turn)
  | 12 => some (s.top.stampLatch.getD 0 0)
  | 13 => some (s.top.stampLatch.getD 1 0)
  | 14 => some (s.top.stampLatch.getD 2 0)
  | 15 => some (s.top.stampLatch.getD 3 0)
  | _ => none

/-- The registers of RP. -/
def rpReg (s : State) (o : Nat) : Option Word :=
  match arr o 0x1000 16 64 with
  | some (d, k) =>
    let x := rd s.rp.pol d
    some (match k / 4 with
      | 0 => sword x.vout
      | 1 => sword x.iout
      | 2 => word [(0, 16, ofInt 16 x.temp), (16, 16, x.status)]
      | _ => word [(0, 16, x.age), (16, 8, x.misses), bf 24 x.failed, bf 25 (s.polMargined d)])
  | none =>
    match o with
    | 0x00 => some (rd s.ctrl 1)
    | 0x04 => some (rd s.evt 1)
    | 0x08 => some s.rpStatus
    | 0x0C => some 0
    | 0x10 => some s.rp.errAddr
    | 0x14 => some (word [(0, 16, s.rp.cntPort), (16, 16, s.rp.cntPmb)])
    | 0x18 => some s.rp.scratch
    | 0x1C => some (word [(0, 8, s.rp.cml.toNat), (8, 7, s.polListed.length), (15, 7, (s.polListed.filter (fun d => (rd s.rp.pol d).failed)).length), bf 22 s.pollOn])
    | _ => none

/-! ### FLT (12) -/

/-- FLT.STATUS. -/
def fltStatus (s : State) : Word :=
  word ((List.range 4).map (fun c => ((2 * c, 2, if (rd s.flt.cls c).latched then 2 else (rd s.flt.cls c).active.toNat) : Fld))
    ++ (List.range 16).map (fun k => bf (8 + k) (rd s.flt.sets k).isOpen)
    ++ [bf 24 (s.flt.force != 0 || s.flt.forcePb != 0), bf 25 s.flt.latchPend])

/-- A pair reads broken: FLT.PB, where bit 156 shows any AC-good double (R385). -/
def pbBit (s : State) (i : Nat) : Bool := s.flt.pb.getLsbD i || (i == 156 && s.flt.acgPb != 0)

/-- Word `i` of FIRST_CAUSE (word 0 live, the others latched) or LAST_CAUSE. -/
def causeWord (live : CauseRec) (latch : List Word) (i : Nat) : Word := if i = 0 then wordAt live.bytes 0 else latch.getD i 0

/-- The registers of FLT. -/
def fltReg (s : State) (o : Nat) : Option Word :=
  if o = 0 then some (rd s.ctrl 2)
  else if o = 4 then some (rd s.evt 2)
  else if o = 8 then some s.fltStatus
  else if o = 0xE0 then some (word [(0, 16, s.flt.conseqAll), (16, 16, s.flt.resets)])
  else if o = 0xE4 then some (nword (s.flt.iso.toNat % 2 ^ 32))
  else if o = 0xE8 then some (nword (s.flt.iso.toNat / 2 ^ 32))
  else match arr o 0x10 4 4, arr o 0x40 32 5, arr o 0x100 4 8, arr o 0x120 4 8 with
  | some (c, _), _, _, _ =>
    let g := rd s.im.classes c
    some (word [(0, 6, min 63 (s.recovCount c)), (6, 6, g.limit), (12, 10, g.quiet), bf 22 g.latchOff])
  | _, some (k, r), _, _ =>
    some (bitmap (r / 4) (match k with
      | 0 => s.srcLive
      | 1 => s.flt.cause.getLsbD
      | 2 => s.pbBit
      | 3 => s.flt.force.getLsbD
      | _ => s.flt.forcePb.getLsbD))
  | _, _, some (i, _), _ => some (causeWord s.flt.first s.flt.firstLatch i)
  | _, _, _, some (i, _) => some (causeWord s.flt.last s.flt.lastLatch i)
  | _, _, _, _ =>
    match arr o 0x400 4 256, arr o 0x800 4 256 with
    | some (i, _), _ => some (word [(0, 16, rd s.flt.reg i), (16, 16, rd s.flt.conseq i)])
    | _, some (i, _) =>
      let c := s.srcCfg i
      some (word [bf 0 c.en, (1, 2, c.cls), (3, 6, c.act), (9, 4, c.block), (13, 5, c.shadow),
        (18, 8, if 160 ≤ i ∧ i < 208 then c.qual else 1), bf 26 c.inv, bf 27 c.brokenAs])
    | _, _ => none

/-! ### LEDG (13) -/

/-- LEDG.STATUS. -/
def ledgStatus (s : State) : Word :=
  let g := s.ledg
  word [bf 0 (rd g.dev 0).ok, bf 1 (rd g.dev 1).ok, bf 2 g.resilver.isSome, (3, 1, g.resilver.getD 0), bf 4 g.scanDone, bf 5 g.epochs,
    bf 6 s.aon.wallValid, (8, 3, min 7 g.queue.length)]

def evqStat (s : State) : Word := word [(0, 9, s.ledg.evq.length), (16, 16, s.ledg.dropped)]
def ledgExp (s : State) : Word := word [bf 0 s.ledg.hold, (2, 6, s.ledg.lost.toNat)]

/-- The words of the oldest queued occurrence. -/
def evqWords (s : State) : List Word := match s.ledg.evq with | x :: _ => wordsOf 6 x.bytes | [] => List.replicate 6 0

/-- The figures of LEDG.CODE_SEL's code in the live bank. -/
def codeCnt (s : State) : CodeCnt := (s.ledg.live.codes.find? (fun c => c.code == s.ledg.codeSel)).getD { code := s.ledg.codeSel }

/-- The registers of LEDG. -/
def ledgReg (s : State) (o : Nat) : Option Word :=
  let g := s.ledg
  match arr o 0x40 8 6, arr o 0xA0 4 6, arr o 0xC0 8 2 with
  | some (a, k), _, _ =>
    let h := rd g.heads a
    some (if k = 0 then word [(0, 13, h.slot.getD 0x1FFF), (13, 13, h.count)] else nword h.rseq)
  | _, some (i, _), _ => some (if i = 0 then s.evqWords.getD 0 0 else g.evqLatch.getD i 0)
  | _, _, some (d, k) =>
    let x := rd g.dev d
    some (if k = 0 then word [(0, 24, x.jedec), (24, 8, x.size)] else word [(0, 16, x.ops), (16, 16, x.readback)])
  | _, _, _ =>
    match o with
    | 0x00 => some (rd s.ctrl 3)
    | 0x04 => some (rd s.evt 3)
    | 0x08 => some s.ledgStatus
    | 0x0C => some (nword g.rseq)
    | 0x10 => some (word [(0, 17, s.im.ledg.epochLen)])
    | 0x14 => some (nword g.epStart)
    | 0x18 => some (nword s.aon.wallMs)
    | 0x1C => some g.wallHiLatch
    | 0x20 => some (word [(0, 16, min 0xFFFF s.aon.steps), (16, 16, s.aon.back)])
    | 0x70 => some s.ledgExp
    | 0x80 => some (word [(0, 16, g.codeSel)])
    | 0x84 => some (word [(0, 8, s.codeCnt.count), (8, 8, if codeKinds.contains (g.codeSel / 256) then g.live.chipsLeft g.codeSel else 0)])
    | 0x88 => some (nword s.codeCnt.supp)
    | 0x90 => some s.evqStat
    | 0x94 => some 0
    | _ => none

/-! ### SEQ (09) -/

/-- SEQ.STATUS. -/
def seqStatus (s : State) : Word :=
  word [(0, 3, s.seq.phase), (3, 2, s.seq.profile), (5, 3, s.seq.attempt), (8, 3, s.im.seq.nRetry), bf 11 (s.pins.seqfltLow || s.seq.drv), bf 12 s.seq.drv,
    bf 13 s.aon.stayOff, bf 14 ((List.range 64).any (fun n => margined (s.slot n))), bf 15 ((List.range 64).any (fun n => (s.slot n).cancel))]

/-- The registers of a slot. -/
def slotReg (s : State) (n k : Nat) : Word :=
  let x := s.slot n
  let c := s.slotCfg n
  match k / 4 with
  | 0 => word [(0, 3, if c.cls = 0 then 0 else x.st), (3, 2, c.cls), (5, 3, c.role), bf 8 (s.en n), bf 9 x.good, bf 10 x.belowOff, bf 11 x.stuck, (16, 16, x.chatter)]
  | 1 => word [(0, 20, x.vs)]
  | 2 => word [(0, 16, if s.en n then min 0xFFFF (s.seq.up - x.tS) else 0), (16, 16, match x.goodAt with | some t => min 0xFFFF (s.seq.up - t) | none => 0)]
  | _ => word [(0, 2, x.dir), (2, 16, x.target), bf 18 x.mclip, bf 19 x.ack]

/-- The registers of SEQ. -/
def seqReg (s : State) (o : Nat) : Option Word :=
  match arr o 0x100 16 64, arr o 0x600 8 16, arr o 0x800 4 256 with
  | some (n, k), _, _ => some (s.slotReg n k)
  | _, some (m, k), _ =>
    some (if k = 0 then word [(0, 16, (s.slot m).warnLo), (16, 16, (s.slot m).warnHi)] else word [(0, 16, (s.slotCfg m).fltLo), (16, 16, (s.slotCfg m).fltHi)])
  | _, _, some (i, _) => some (wordAt s.seq.snap i)
  | _, _, _ =>
    let sl := fun (f : Nat → Bool) (hi : Nat) => some (bitmap hi f)
    match o with
    | 0x00 => some (rd s.ctrl 4 ||| word [bf 5 s.seq.svcRetry])
    | 0x04 => some (rd s.evt 4)
    | 0x08 => some s.seqStatus
    | 0x0C => some (word [(0, 14, s.im.seq.rest), (14, 14, s.im.seq.stuckT)])
    | 0x10 => some (word [(0, 5, s.im.seq.forceT), (5, 10, s.im.seq.stagger), (15, 4, s.im.seq.busSlot)])
    | 0x14 => sl s.en 0
    | 0x18 => sl s.en 1
    | 0x1C => sl (fun n => (s.slot n).pg) 0
    | 0x20 => sl (fun n => (s.slot n).pg) 1
    | 0x24 => sl (fun n => (s.slot n).st == 5) 0
    | 0x28 => sl (fun n => (s.slot n).st == 5) 1
    | 0x2C => some (bitmap 0 (fun i => if i < 16 then (s.slotCfg i).cls == 2 && (s.slot i).win % 4 != 0 else (s.slotCfg (i - 16)).cls == 2 && (s.slot (i - 16)).win / 4 != 0))
    | 0x30 => some (word [(0, 16, s.aon.presses), (16, 8, s.aon.forces), (24, 8, s.aon.pbLast)])
    | 0x34 => some (word [(0, 16, s.aon.mrResets), (16, 16, s.aon.mrDefer)])
    | 0x38 => some (word [(0, 16, s.seq.fails), (16, 16, s.seq.ext)])
    | 0x3C => some (word [(0, 8, s.seq.lastCause), (8, 8, s.seq.lastSlot), (16, 16, s.seq.snaps)])
    | _ => none

/-! ### NRG (08) -/

def nrgStatus (s : State) : Word := word [bf 0 s.unrestored, bf 1 (1 ≤ s.aon.learnSt && s.aon.learnSt ≤ 3)]
def rstStat (s : State) : Word := word [(0, 3, s.nrg.rstResult), (16, 16, s.nrg.restored.toNat)]

/-- Bits [47:32] of Q, of C with the health in thousandths, and of the candidate. -/
def qHiWord (s : State) (k : Nat) : Word := word [(0, 16, ofInt 48 (s.str k).q / 2 ^ 32)]
def cHiWord (s : State) (k : Nat) : Word :=
  word [(0, 16, (s.str k).c / 2 ^ 32), (16, 16, if (s.strCfg k).cNom = 0 then 0 else (s.str k).c * 1000 / (s.strCfg k).cNom)]
def candHiWord (s : State) (k : Nat) : Word := word [(0, 16, (s.str k).cand / 2 ^ 32)]

/-- The registers of a string; those of one that is not configured read 0 (R267). -/
def strReg (s : State) (k o : Nat) : Word :=
  let x := s.str k
  if !(s.strCfg k).configured then 0
  else match o / 4 with
  | 0 => word [bf 0 x.present, bf 1 x.inSum, bf 2 x.fast, bf 3 x.conf, bf 4 x.unres, bf 5 x.learned, bf 6 x.hasCand, bf 7 (decide (x.q < 0)), bf 8 x.knee,
      bf 9 x.full, bf 10 (x.runOpen && x.runOk), bf 11 x.sense, bf 12 x.worn]
  | 1 => sword x.v
  | 2 => sword x.i
  | 3 => word [(0, 16, ofInt 16 x.t), (16, 16, x.sr * 10000 / 65536)]
  | 4 => nword (ofInt 32 x.q)
  | 5 => rd s.nrg.qHi k
  | 6 => nword x.c
  | 7 => rd s.nrg.cHi k
  | 8 => nword x.cand
  | 9 => rd s.nrg.candHi k
  | 10 => nword x.eCnt
  | 11 => nword x.eVolt
  | 12 => nword x.eStr
  | 13 => word [(0, 17, x.sV)]
  | 14 => word [(0, 16, x.overdraws), (16, 16, x.vwins)]
  | _ => word [(0, 16, x.learns), (16, 16, min 0xFFFF x.gapS)]

/-- The registers of NRG. A read of the addresses SNAP and STG share gives SNAP (R477). -/
def nrgReg (s : State) (o : Nat) : Option Word :=
  match arr o 0x100 0x40 16, arr o 0x800 4 272, arr o 0xC40 4 256 with
  | some (k, r), _, _ => some (s.strReg k r)
  | _, some (i, _), _ => some (s.nrg.snap.getD i 0)
  | _, _, some (i, _) => some (Mem.word 0 s.nrg.stg (4 * (i + 16)))
  | _, _, _ =>
    let two := fun (f g : Nat → Bool) => some (bitmap 0 (fun i => (s.strCfg (i % 16)).configured && if i < 16 then f i else g (i - 16)))
    match o with
    | 0x00 => some (rd s.ctrl 5)
    | 0x04 => some (rd s.evt 5)
    | 0x08 => some s.nrgStatus
    | 0x0C => two (fun k => (s.str k).present) (fun k => (s.str k).inSum)
    | 0x10 => two (fun k => (s.str k).unres) (fun k => (s.str k).conf)
    | 0x14 => some (nword s.nrg.eSum)
    | 0x18 => some (nword s.nrg.pot)
    | 0x1C => some (word [(0, 16, s.nrg.num), (16, 16, s.nrg.den)])
    | 0x20 => some (nword s.nrg.ePot)
    | 0x24 => some (word [(0, 4, s.aon.learnStr), (6, 3, s.aon.learnSt), (9, 2, s.aon.learnRes)])
    | 0x28 => some 0
    | 0x2C => some s.nrg.rstArg
    | 0x30 => some s.nrg.rstCrc
    | 0x34 => some s.rstStat
    | _ => none

/-! ### STAKE (02), with the standby's view (R480) -/

/-- What a standby shows: the last applied frame's figures, and reset values. -/
def frameStk (s : State) : StkVals :=
  match s.pair.frame with
  | none => {}
  | some f => {
      bTotal := f.bTotal, short := f.short
      sumS := sumN 64 (fun p => (rd f.ports p).s), sumK := sumN 64 (fun p => (rd f.ports p).k), sumU := sumN 64 (fun p => if (rd f.ports p).elig then (rd f.ports p).u else 0)
      ports := tgen 64 (fun p => let q := rd f.ports p; { s := q.s, k := q.k, u := q.u, cov := q.cov }) }

/-- The figures as they stand. -/
def stkNow (s : State) : StkVals := if s.pair.standby then s.frameStk else s.stake.v

/-- The figures shown: those held by VIEW_HOLD, if it is set. -/
def stkShown (s : State) : StkVals := s.stake.hold.getD s.stkNow

/-- STAKE.STATUS. -/
def stakeStatus (s : State) : Word :=
  let v := s.stkShown
  word [bf 0 v.short, bf 1 s.stake.shortSeen, bf 2 v.limit, bf 3 v.unprot, bf 4 v.frozen, bf 5 v.drainWait, bf 6 v.calValid, bf 7 v.totalClip, bf 8 s.stake.marginClip]

/-- The registers of STAKE. -/
def stakeReg (s : State) (o : Nat) : Option Word :=
  let v := s.stkShown
  match arr o 0x100 0x100 4 with
  | some (k, r) =>
    let p := r / 4
    let x := rd v.ports p
    let q := rd s.stake.q p
    some (match k with
      | 0 => word [(0, 13, x.s), (16, 13, x.k)]
      | 1 => word [(0, 13, x.u), (16, 13, x.cov)]
      | 2 => word [(0, 13, q.ceil), bf 31 q.ceilEn]
      | _ => word [bf 0 x.clip, bf 1 x.ovr, bf 2 q.overSeen, bf 3 x.draining, bf 4 q.missSeen, (5, 3, x.bind), (16, 16, x.ovrTurns)])
  | none =>
    match o with
    | 0x00 => some (word [bf 0 s.stake.hold.isSome, bf 1 s.stake.useCal])
    | 0x04 => some s.stakeStatus
    | 0x08 => some (nword v.turn)
    | 0x0C => some (word [(0, 16, s.stake.margin), (16, 16, if s.pair.standby then 0x180 else s.im.pol.mMin)])
    | 0x10 => some (word [(0, 16, v.pfixDef), (16, 16, v.pfixCal)])
    | 0x14 => some (word [(0, 16, v.eB)])
    | 0x18 => some (word [(0, 16, v.tD), (16, 16, v.tSeal)])
    | 0x1C => some (word [(0, 8, v.tFw), (8, 8, 160), (16, 16, 5000)])
    | 0x20 => some (nword v.tAvail)
    | 0x24 => some (word [(0, 16, v.bwV), (16, 3, v.sleds)])
    | 0x28 => some (nword v.ePot)
    | 0x2C => some (nword v.bBw)
    | 0x30 => some (nword v.bE)
    | 0x34 => some (nword v.guard_)
    | 0x38 => some (nword v.bTotal)
    | 0x3C => some (word [(0, 19, v.sumS)])
    | 0x40 => some (word [(0, 19, v.sumK)])
    | 0x44 => some (word [(0, 19, v.sumU)])
    | 0x48 => some (word [(0, 19, s.stake.ceilTot), bf 31 s.stake.ceilEn])
    | 0x4C => some (nword v.eNeed)
    | 0x50 => some (nword v.eRes)
    | 0x54 => some (nword v.eTrip)
    | 0x58 => some (word [(0, 16, v.shortCnt)])
    | _ => none

/-! ### SAVE (04) -/

/-- The registers of SAVE. -/
def saveReg (s : State) (o : Nat) : Option Word :=
  match arr o 0x20 4 4, arr o 0x30 4 4, arr o 0x100 4 64, arr o 0x200 4 64 with
  | some (i, _), _, _, _ => some (stampWord s.save.tTrip i)
  | _, some (i, _), _, _ => some (stampWord s.save.tDone i)
  | _, _, some (p, _), _ =>
    let x := s.sv p
    some (word [(0, 4, x.pst), bf 4 x.unconf, bf 5 x.late, bf 6 (x.incomplete && x.pst == 6), bf 7 (x.disPend || x.isoPend), (8, 23, x.moved)])
  | _, _, _, some (p, _) => some (word [(0, 17, (s.sv p).cSq)])
  | _, _, _, _ =>
    let sq := fun (n : Nat) => some (word [(0, 23, n)])
    match o with
    | 0x00 => some (rd s.ctrl 6)
    | 0x04 => some (rd s.evt 6)
    | 0x08 => some 0
    | 0x0C => some s.saveStatus
    | 0x10 => some (nword s.save.serial)
    | 0x14 => some s.saveTripReg
    | 0x18 => some (word [(0, 8, s.frzDrive.toNat), (8, 8, (s.frzDrive ||| s.pins.frzExt).toNat)])
    | 0x40 => some (word [(0, 16, s.save.w0.getD 0)])
    | 0x44 => some (word [(0, 25, s.save.tC1)])
    | 0x48 => some (word [(0, 25, s.save.tEnd)])
    | 0x50 => sq s.sqC1
    | 0x54 => sq s.sqC2
    | 0x58 => sq s.leftC1
    | 0x5C => sq s.leftC2
    | 0x60 => some (word [(0, 16, s.save.progFail), (16, 16, s.save.reread)])
    | 0x64 => some s.pcalReg
    | 0x70 => some (bitmap 0 (fun p => (s.sv p).unconf))
    | 0x74 => some (bitmap 1 (fun p => (s.sv p).unconf))
    | 0x78 => some (bitmap 0 (fun p => (s.sv p).pst == 5 || (s.sv p).pst == 6))
    | 0x7C => some (bitmap 1 (fun p => (s.sv p).pst == 5 || (s.sv p).pst == 6))
    | _ => none

/-! ### RET (07) -/

/-- RET.STATUS. -/
def retStatus (s : State) : Word :=
  let r := s.top.state == .ret
  let n := fun (f : Nat → Bool) => (idxs 64 f).length
  word [bf 0 r, bf 1 (r && !s.ret.go), (2, 3, s.inflight), (5, 3, if s.retStates then s.concEff else 0), (8, 7, n (fun p => (s.rt p).released)), (15, 7, n (fun p => (s.rt p).pend)),
    (22, 7, n (fun p => 8 ≤ (s.rt p).out && (s.rt p).out ≤ 0xD && !(s.rt p).pend))]

/-- The registers of RET. -/
def retReg (s : State) (o : Nat) : Option Word :=
  match arr o 0x10 4 4, arr o 0x40 4 16, arr o 0x100 0x100 5 with
  | some (i, _), _, _ => some (stampWord s.ret.enter i)
  | _, some (i, _), _ => some (word ((List.range 4).map (fun j => ((8 * j, 8, rd s.im.pol.retList (4 * i + j)) : Fld))))
  | _, _, some (k, r) =>
    let x := s.rt (r / 4)
    some (match k with
      | 0 => word [(0, 4, x.out), bf 4 x.pend, bf 5 x.actRej, bf 6 x.unconf, bf 7 x.incomplete, bf 8 x.test, (9, 8, x.fail), (17, 6, x.elsePort.getD 0),
          bf 23 x.elsePort.isSome, bf 24 x.relSent, bf 25 x.relAcked]
      | 1 => nword (((s.newestLive (r / 4)).map (·.serial)).getD 0)
      | 2 => nword (((s.newestLive (r / 4)).map (·.imgGen)).getD 0)
      | 3 => word [(0, 17, x.written), (17, 15, min 0x7FFF x.lost)]
      | _ => 0)
  | _, _, _ =>
    match o with
    | 0x00 => some (rd s.ctrl 7)
    | 0x04 => some (rd s.evt 7)
    | 0x08 => some s.retStatus
    | 0x0C => some (word [(0, 10, s.im.pol.retWait), (16, 10, min 0x3FF (s.ret.elapsed / 1000))])
    | _ => none

/-! ### STAGE (06) -/

/-- STAGE.STATUS. -/
def stageStatus (s : State) : Word :=
  word [bf 0 s.stageRuns, bf 1 s.stage.scan, bf 2 s.stage.susp, bf 3 s.stage.emergOn, bf 4 (600000 ≤ s.emUsed), bf 5 (s.bimg.running && decide (s.aon.credit ≤ 0)), bf 6 s.stage.clip]

/-- The registers of STAGE. -/
def stageReg (s : State) (o : Nat) : Option Word :=
  match arr o 0x100 4 64 with
  | some (p, _) =>
    let x := s.pp p
    some (word [(0, 17, x.staged.length), bf 17 x.doubt, bf 18 x.orphan, bf 19 (x.backoff.any (fun b => b.till != 0))])
  | none =>
    match o with
    | 0x00 => some (rd s.ctrl 8)
    | 0x04 => some (rd s.evt 8)
    | 0x08 => some s.stageStatus
    | 0x0C => some (word [(0, 16, s.stage.rGov), (16, 16, s.im.pol.rateMax)])
    | 0x10 => some (word [(0, 16, s.stage.hostRate), (16, 16, s.stage.hostAvg)])
    | 0x14 => some (sword s.creditMib)
    | 0x18 => some (word [(0, 10, min 600 (s.emUsed / 1000)), (16, 16, s.aon.emEntries)])
    | 0x1C => some (nword (s.stage.nextLseq % 2 ^ 31))
    | 0x20 => some (nword (s.stage.hwm % 2 ^ 31))
    | 0x24 => some (nword (min 0xFFFFFFFF (s.stage.progB / 1048576)))
    | 0x28 => some (nword (min 0xFFFFFFFF (s.stage.emergB / 1048576)))
    | 0x2C => some (word [(0, 13, s.confPending), (16, 16, min 0xFFFF s.stage.mats)])
    | 0x30 => some (word [(0, 23, sumN 64 (fun p => (s.pp p).staged.length))])
    | _ => none

/-! ### PAIR (10) -/

/-- PAIR.STATUS.ROLE. -/
def pairRole (s : State) : Nat := if s.pair.drv then (if s.pair.peer then 1 else 3) else if s.pair.standby then 2 else 0

/-- PAIR.STATUS. -/
def pairStatus (s : State) : Word :=
  let p := s.pair
  word [(0, 2, s.pairRole), bf 2 s.pins.awaySeat, bf 3 s.paired, bf 4 p.armed, bf 5 p.cutOff, bf 6 p.plUp, bf 7 p.hbOk, bf 8 (p.drv || s.pins.tokenLow), bf 9 p.drv,
    bf 10 p.baseOn, bf 11 s.wrapOk, bf 12 s.revPend]

def drillReg (s : State) : Word := word [(0, 16, s.pair.drillDwell), bf 16 s.pair.drillTest, (17, 3, s.pair.drillSt), (20, 4, s.pair.drillRes)]

/-- The registers of PAIR. -/
def pairReg (s : State) (o : Nat) : Option Word :=
  let p := s.pair
  let id := fun (v : BitVec 64) (hi : Nat) => some (nword (v.toNat / 2 ^ (32 * hi)))
  match arr o 0x20 4 4 with
  | some (i, _) => some (stampWord p.tkoStamp i)
  | none =>
    match o with
    | 0x00 => some (rd s.ctrl 9)
    | 0x04 => some (rd s.evt 9)
    | 0x08 => some s.pairStatus
    | 0x0C => some (word [(0, 16, s.aon.epoch)])
    | 0x10 => some (nword p.fseq)
    | 0x14 => some (word [(0, 16, min 0xFFFF p.armedFrames), (16, 16, min 0xFFFF p.since)])
    | 0x18 => some (word [(0, 16, min 0xFFFF p.takeovers), (16, 16, min 0xFFFF p.handovers)])
    | 0x1C => some (word [(0, 16, min 0xFFFF p.discarded), (16, 16, min 0xFFFF p.ackMiss)])
    | 0x30 => some (word [(0, 2, p.tkoKind), bf 2 p.tkoYielded, (16, 16, min 0xFFFF p.tkoDur)])
    | 0x34 => some (word [(0, 16, p.baseDone), (16, 16, p.baseTotal)])
    | 0x38 => some s.drillReg
    | 0x3C => some (nword s.aon.drillAge)
    | 0x40 => id (p.peerId.getD 0) 0
    | 0x44 => id (p.peerId.getD 0) 1
    | 0x48 => id Config.identity 0
    | 0x4C => id Config.identity 1
    | 0x50 => some (word [bf 0 p.kxApprove, (1, 2, p.kxSt)])
    | _ => none

/-! ### FAB (11) -/

/-- The registers of FAB. RQ_BUF and ROUTE share addresses (R478). -/
def fabReg (s : State) (o : Nat) : Option Word :=
  let v := s.fab
  match arr o 0x10 4 4, arr o 0x100 8 16, arr o 0x400 4 1024, arr o 0x1000 4 512 with
  | some (i, _), _, _, _ =>
    let x := s.fport i
    some (word [(0, 3, x.st), bf 3 x.fec, (4, 12, x.nbr), (16, 4, x.cost), (20, 12, min 0xFFF x.retrains)])
  | _, some (i, k), _, _ =>
    let r := v.reps.find? (fun r => r.slot == i)
    some (if k = 0 then word [(0, 16, v.newest.shares.getD i 0), (16, 4, (r.map (·.state)).getD 0)] else nword ((r.map (·.eSum)).getD 0))
  | _, _, b, r =>
    let route := fun (j : Nat) => word ((List.range 8).map (fun k => ((4 * k, 4, s.routeOf (8 * j + k)) : Fld)))
    match b, r with
    | some (j, _), some (i, _) => some (if 768 < v.rqWords then v.rqBuf.getD j 0 else route i)
    | some (j, _), none => some (v.rqBuf.getD j 0)
    | none, some (i, _) => some (route i)
    | none, none =>
      match o with
      | 0x00 => some (rd s.ctrl 10)
      | 0x04 => some (rd s.evt 10)
      | 0x08 => some (word [(0, 12, s.nodeAddr), bf 12 s.nodeStatic, bf 13 v.isolated, bf 14 v.synced, bf 15 v.disc, bf 16 s.isRoot, bf 17 v.pps, bf 18 v.fallback,
          bf 19 v.coord, bf 20 (v.coord && decide (v.coordFor ≤ 3))])
      | 0x20 => some (nword s.fabNs)
      | 0x24 => some v.timeHi
      | 0x28 => some (word [(0, 16, ofInt 16 (clampI (-32768) 32767 v.offset)), (16, 8, v.hops), (24, 2, v.parent)])
      | 0x2C => some (word [(0, 12, v.root), (16, 16, min 0xFFFF v.delay)])
      | 0x30 => some (word [(0, 12, s.fab.tbl.tableId), (12, 4, s.ownSlot), (16, 4, if s.inTable then v.newest.coord else 0xF), (20, 4, if s.inTable then v.newest.retSlot else 0xF), (24, 5, s.fab.tbl.m)])
      | 0x34 => some (word [(0, 16, v.live), (16, 16, v.retreq)])
      | 0x38 => some (nword v.round)
      | 0x3C => some (nword v.exp)
      | 0x40 => some (nword (if v.fallback then s.nrg.eSum else v.p))
      | 0x44 => some (word [(0, 16, v.share), (16, 16, (s.member s.ownSlot).min)])
      | 0x200 => some (word [(0, 12, v.rqDst), (12, 2, v.rqKind), bf 14 v.rqGo])
      | 0x204 => some (word [(0, 22, v.rqOfs), (22, 10, v.rqLen)])
      | 0x208 => some (word [(0, 3, v.rqResult), (16, 16, v.rqWords)])
      | _ => none

/-! ### BIMG (14) -/

/-- BIMG.STATUS. -/
def bimgStatus (s : State) : Word :=
  word [(0, 1, s.bimg.runSlot), bf 1 s.bimg.running, bf 2 s.keyHash.isSome, bf 3 (rd s.keyBanks 0 != .blank), bf 4 (rd s.keyBanks 1 != .blank), (5, 7, s.fuseCnt),
    (12, 7, if s.bimg.running then s.im.hdr.svn else 0)]

def bimgCmdStat (s : State) : Word := word [(0, 4, s.bimg.cmd), (4, 4, s.bimg.state), (8, 8, s.bimg.result)]

/-- The registers of BIMG. -/
def bimgReg (s : State) (o : Nat) : Option Word :=
  let b := s.bimg
  match arr o 0x20 4 2, arr o 0x28 4 2, arr o 0x80 4 12, arr o 0x8000 4 8192 with
  | some (x, _), _, _, _ =>
    let v := rd b.slots x
    some (word [(0, 4, v.result), bf 4 v.copy0, bf 5 v.copy1, (6, 7, v.svn)])
  | _, some (x, _), _, _ => some (nword (rd b.slots x).imgSeq)
  | _, _, some (i, _), _ => some (match s.keyHash with | some h => wordAt h i | none => b.keyh.getD i 0)
  | _, _, _, some (i, _) => some (Mem.word 0 b.stg (4 * i))
  | _, _, _, _ =>
    match o with
    | 0x00 => some (rd s.ctrl 11)
    | 0x04 => some (rd s.evt 11)
    | 0x08 => some s.bimgStatus
    | 0x0C => some (nword b.img.hdr.imgSeq)
    | 0x10 => some (nword b.img.hdr.structCrc)
    | 0x14 => some (nword b.img.hdr.tuneCrc)
    | 0x18 => some (nword b.img.hdr.buildId)
    | 0x1C => some (nword (b.img.hdr.buildId / 2 ^ 32))
    | 0x30 => some b.fault
    | 0x40 => some b.arg
    | 0x44 => some s.bimgCmdStat
    | _ => none

/-! ### PORT (03) -/

/-- The registers of a port; the upper port of a bonded pair mirrors STATE and reports BONDED. -/
def portReg (s : State) (p o : Nat) : Option Word :=
  let l := s.lk p
  match arr o 0x30 4 4, arr o 0x100 4 64 with
  | some (i, _), _ => some (stampWord l.frzStamp i)
  | _, some (r, _) => some (l.region.getD r 0)
  | _, _ =>
    match o with
    | 0x00 => some (word [bf 0 l.en])
    | 0x04 => some (word [(0, 3, s.linkCode p), (3, 3, l.width), bf 6 (l.width != 0 && decide (l.width < s.cfgWidth p)), bf 7 (s.bonded p), (8, 2, l.cstate), (16, 16, l.recovers)])
    | 0x08 => some (nword l.id.toNat)
    | 0x0C => some (nword (l.id.toNat / 2 ^ 32))
    | 0x10 => some (word [(0, 17, l.squares), bf 17 l.bondCap, bf 18 l.intact, bf 19 l.srGood])
    | 0x14 => some (nword l.serial)
    | 0x18 => some (word [(0, 16, l.lP), (16, 16, l.lNom)])
    | 0x1C => some l.err
    | 0x20 => some (word [(0, 16, l.cntBlk), (16, 16, l.cntCrc)])
    | 0x24 => some (word [bf 0 l.frzRcvd, (1, 2, l.frzSrc), (8, 8, min 0xFF l.frzResp)])
    | 0x40 => some (word [(0, 9, (s.pp p).copies.length), (15, 17, l.reverted)])
    | 0x44 => some (nword l.cntAcc)
    | 0x48 => some (nword l.cntRej)
    | _ => none

/-! ### VAULT and CQ (05) -/

/-- Erase counts of the save and log areas' blocks of a sled: their mean over all blocks of the areas, and the largest of any block. -/
def sledWear (s : State) (x : Nat) : Nat × Nat :=
  let e := (s.sled x).erases
  let a := s.sledAreas x
  let own := e.filter (fun b => a.save ≤ b.1.blk && b.1.blk < a.scratch)
  let n := sumN 8 (fun c => (s.ringRecipes (8 * x + c)).foldl (fun k r => k + r.lunCount) 0) * (a.scratch - a.save)
  (if n = 0 then 0 else (own.map (·.2)).foldl (· + ·) 0 / n, (e.map (·.2)).foldl max 0)

/-- VAULT.STATUS. -/
def vaultStatus (s : State) : Word :=
  let m := fun (lo : Nat) (f : Nat → Bool) => (List.range 4).map (fun x => bf (lo + x) (f x))
  word (m 0 (rd s.pins.sledPrs) ++ m 4 (fun x => (s.sled x).cls == 6) ++ m 8 s.sledHealthy ++ m 12 (fun x => (s.sled x).drainPend || (s.sled x).switched)
    ++ m 16 (fun x => (s.sled x).short)
    ++ [(20, 2, geomMode s.vault.geom), bf 22 s.vault.degraded, bf 23 s.vault.rebuildAdv, bf 24 (s.healthyCount == 1), bf 25 s.vault.keysOk])

def jobStat (s : State) : Word := word [(0, 4, s.vault.job), (4, 4, s.vault.jobState), (8, 8, s.vault.jobResult)]

/-- The registers of a sled. -/
def sledReg (s : State) (x k : Nat) : Option Word :=
  let d := s.sled x
  let ser := match d.dev.desc with | some e => if d.cls = 0 then 0 else e.serial.toNat | none => 0
  match k / 4 with
  | 0 => some (word [(0, 3, d.cls), bf 3 (s.sledHealthy x), bf 4 d.drainPend, bf 5 d.switched, bf 6 d.pull, bf 7 d.short, (8, 8, d.chOk), (16, 3, d.recipe)])
  | 1 => some (nword d.cap)
  | 2 => some (nword d.resv)
  | 3 => some (nword d.need)
  | 4 => some (word [(0, 16, min 0xFFFF d.dev.factory.length), (16, 16, min 0xFFFF d.dev.grown.length)])
  | 5 => some (nword ser)
  | 6 => some (nword (ser / 2 ^ 32))
  | 7 => some (let w := s.sledWear x; word [(0, 16, min 0xFFFF w.1), (16, 16, min 0xFFFF w.2)])
  | _ => none

/-- The registers of VAULT, 0x20_0000 to 0x20_FFFF. -/
def vaultReg (s : State) (o : Nat) : Option Word :=
  let v := s.vault
  match arr o 0x100 0x40 4, arr o 0x200 4 4, arr o 0x240 4 16 with
  | some (x, k), _, _ => s.sledReg x k
  | _, some (i, _), _ => some (rd v.jobArg i)
  | _, _, some (i, _) => some (match v.xlist[i]? with
      | some (sq, gen, reb, bad) => word [(0, 16, sq), (16, 4, gen), bf 20 true, bf 21 reb, bf 22 bad]
      | none => 0)
  | _, _, _ =>
    match o with
    | 0x00 => some (rd s.ctrl 12)
    | 0x04 => some (rd s.evt 12)
    | 0x08 => some s.vaultStatus
    | 0x10 => some (nword v.id.toNat)
    | 0x14 => some (nword (v.id.toNat / 2 ^ 32))
    | 0x18 => some (word [(0, 16, v.epoch), (16, 16, v.keyEpoch)])
    | 0x1C => some (word [(0, 3, s.im.minSleds)])
    | 0x210 => some s.jobStat
    | 0x214 => some (nword (if v.job = 2 || v.job = 3 then v.rprog else v.prog))
    | 0x218 => some (nword (if v.job = 2 || v.job = 3 then v.rtotal else v.total))
    | 0x220 => some (nword v.verUnc)
    | 0x224 => some (nword v.verRec)
    | 0x228 => some (nword v.verCrc)
    | 0x22C => some (word [(0, 8, v.verMaxc)])
    | _ => none

/-- The words of the descriptor in slot DSEL of a ring. -/
def descWords (s : State) (r : Nat) : List Word :=
  match (s.ring r).slots.find? (fun e => e.1 == (s.ring r).dsel) with
  | some e => wordsOf 16 e.2.bytes
  | none => List.replicate 16 0

/-- The registers of a ring. -/
def cqReg (s : State) (r o : Nat) : Option Word :=
  let g := s.ring r
  match arr o 0x40 4 16 with
  | some (i, _) => some (if i = 0 then (s.descWords r).getD 0 0 else g.desc.getD i 0)
  | none =>
    match o with
    | 0x00 => some (word [(0, 9, s.depth r), bf 9 g.isOpen, bf 10 g.failed, bf 11 (!rd s.pins.sledPrs (r / 8) || !s.flashRuns (r / 8)), (12, 2, r / 8)])
    | 0x04 => some (word [(0, 8, s.headPtr r), (8, 8, g.tail)])
    | 0x08 => some (word [(0, 16, rd g.err 2), (16, 16, rd g.err 3)])
    | 0x0C => some (word [(0, 16, rd g.err 4), (16, 16, rd g.err 5)])
    | 0x10 => some (word [(0, 16, rd g.err 6), (16, 16, rd g.err 7)])
    | 0x14 => some (word [(0, 8, g.maxCorr), (8, 24, min 0xFFFFFF g.retries)])
    | 0x18 => some (nword g.save)
    | 0x1C => some (nword g.log)
    | 0x20 => some (nword g.cat)
    | 0x24 => some (word [(0, 8, g.dsel)])
    | _ => none

/-- VAULT.XWIN: word `j` of the export window, 65,536 bytes per slot. -/
def xwinWord (s : State) (j : Nat) : Word :=
  let sq := s.vault.xwin.getD (j / 16384) []
  wordAt (sq.getD (j % 16384 / 1024) []) (j % 1024)

/-! ### The whole map (Table 16-1) -/

/-- What a control-island, port, fabric or flash register reads, without any latching; none is a hole (R473). -/
def regAt (s : State) (a : Nat) : Option Word :=
  let o := a % 0x10000
  if a < 0x40 then s.topReg o
  else match a / 0x10000 with
  | 0x01 => s.rpReg o
  | 0x02 => s.fltReg o
  | 0x03 => s.ledgReg o
  | 0x04 => s.seqReg o
  | 0x05 => s.nrgReg o
  | 0x06 => s.stakeReg o
  | 0x07 => s.saveReg o
  | 0x08 => s.retReg o
  | 0x09 => s.stageReg o
  | 0x0A => s.pairReg o
  | 0x0B => s.fabReg o
  | 0x0C => s.bimgReg o
  | 0x20 => s.vaultReg o
  | 0x21 => s.cqReg (o / 0x800) (o % 0x800)
  | _ =>
    if 0x100000 ≤ a && a < 0x140000 then s.portReg ((a - 0x100000) / 0x1000) (a % 0x1000)
    else if 0x300000 ≤ a && a < 0x400000 then some (s.xwinWord ((a - 0x300000) / 4))
    else none

/-- Table 15-4: the original of each mirror, from offset 0x40. -/
def mirrors : List Nat :=
  [0x060004, 0x060038, 0x060044, 0x060040, 0x060028, 0x060054, 0x07000C, 0x070010, 0x070014, 0x070004, 0x080008, 0x200008]
  ++ [0x200210, 0x200214, 0x200218, 0x090008, 0x050008, 0x050014, 0x040008, 0x040004, 0x0A0008, 0x0A000C, 0x020008, 0x020060]
  ++ [0x020120, 0x030008, 0x030090, 0x0C0008, 0x0C0044, 0x050034, 0x0A0038, 0x030070, 0x010008, 0x010010]

/-- What an address below 0x40_0000 reads: a register, a mirror (R455), or 0 from a hole (R473). -/
def peek (s : State) (a : Nat) : Word :=
  if 0x40 ≤ a && a < 0x100 then
    match mirrors[(a - 0x40) / 4]? with
    | some m => (s.regAt m).getD 0
    | none => 0
  else (s.regAt a).getD 0

/-- The address holds a register of an island that is quiescent (R16). -/
def quiescent (s : State) (a : Nat) : Bool :=
  (s.regAt a).isSome &&
    (if 0x100000 ≤ a && a < 0x140000 then !(s.portOn ((a - 0x100000) / 0x8000))
     else if a / 0x10000 = 0x21 then !(s.flashOn (a % 0x10000 / 0x4000))
     else if a / 0x10000 = 0x0B then !s.fabricOn
     else false)

/-- The cause a cycle ends in error for, before the window is read (Table 15-3), or 0: 1 first, since every other access ends with it while RP_BUSY is
high (R458); then 4, 3, 2 (DESIGN CHOICE, log entry 92). -/
def rpCause (s : State) (a : Nat) (write : Bool) : Nat :=
  if s.busy && !(!write && decide (a < 0x100)) && !(write && a == 0x01000C) then 1
  else if a % 4 ≠ 0 || 0x1000000 ≤ a then 4
  else if 0x800000 ≤ a then 3
  else if a < 0x400000 && s.quiescent a then 2
  else 0

/-! ### Latches (Table 16-18) -/

/-- TOP_STAMP_READ: the stamp of this instant. -/
def latchStamp (s0 : State) : State := let s := s0.arrive; s.mdTop (fun t => { t with stampLatch := s.stamp.words })

/-- CAUSE_RECORD_READ. -/
def latchCause (last : Bool) (s : State) : State :=
  s.mdFlt (fun f => if last then { f with lastLatch := wordsOf 8 f.last.bytes } else { f with firstLatch := wordsOf 8 f.first.bytes })

/-- EVQ_READ. -/
def latchEvq (s : State) : State := { s with ledg := { s.ledg with evqLatch := s.evqWords } }

/-- WALL_LO_READ. -/
def latchWall (s : State) : State := { s with ledg := { s.ledg with wallHiLatch := nword (s.aon.wallMs / 2 ^ 32) } }

/-- TIME_LO_READ. -/
def latchTime (s0 : State) : State := let s := s0.arrive; s.mdFab (fun v => { v with timeHi := nword (s.fabNs / 2 ^ 32) })

/-- DESC_READ. -/
def latchDesc (r : Nat) (s : State) : State := s.mdRing r (fun g => { g with desc := s.descWords r })

/-- STR_LO_READ: 0 Q, 1 C, 2 the candidate. -/
def latchStr (k which : Nat) (s : State) : State :=
  { s with nrg := match which with
      | 0 => { s.nrg with qHi := wr s.nrg.qHi k (s.qHiWord k) }
      | 1 => { s.nrg with cHi := wr s.nrg.cHi k (s.cHiWord k) }
      | _ => { s.nrg with candHi := wr s.nrg.candHi k (s.candHiWord k) } }

/-- What a read of an address latches before it answers. -/
def latchAt (a : Nat) (s : State) : State :=
  if a = 0x30 then s.latchStamp
  else if a = 0x020100 then s.latchCause false
  else if a = 0x020120 then s.latchCause true
  else if a = 0x0300A0 then s.latchEvq
  else if a = 0x030018 then s.latchWall
  else if a = 0x0B0020 then s.latchTime
  else if 0x050100 ≤ a && a < 0x050500 then
    let k := (a - 0x050100) / 0x40
    match a % 0x40 with
    | 0x10 => s.latchStr k 0
    | 0x18 => s.latchStr k 1
    | 0x20 => s.latchStr k 2
    | _ => s
  else if a / 0x10000 = 0x21 && a % 0x800 = 0x40 then s.latchDesc (a % 0x10000 / 0x800)
  else s

/-! ### Reads -/

/-- A register-port read of RP_AD[31:0] = `a`. -/
def regRead (a : Nat) (s : State) : State :=
  if !s.ctlOn then s.rpDead
  else
    let c := s.rpCause a false
    if c ≠ 0 then s.rpErr c (a % 0x1000000) false
    else if 0x400000 ≤ a then
      match s.norWindow (s.ctrlBit 3 4) (bitsOf (rd s.ctrl 3) 6 5) (a - 0x400000) with
      | some w => s.rpData w
      | none => s.rpErr 5 a false
    else let t := s.latchAt a; t.rpData (t.peek a)

/-! ### Writes -/

/-- Bits of a word kept by a mask. -/
def setCtrl (b mask : Nat) (w : Word) (s : State) : State := { s with ctrl := wr s.ctrl b (w &&& nword mask) }

/-- A write of an EVT register (W1C). -/
def clrEvt (b : Nat) (w : Word) (s : State) : State := { s with evt := md s.evt b (fun e => e &&& ~~~w) }

/-- FLT.CTRL: CLR_FIRST and FORCE_LIVE (SVC). -/
def fltCtrl (w : Word) (s : State) : State :=
  let live := if s.top.state = .service then w.getLsbD 4 else s.ctrlBit 2 4
  (s.setCtrl 2 0x17 ((w &&& 7#32) ||| word [bf 4 live])).when (w.getLsbD 3) clrFirst

/-- LEDG.CTRL: EPOCH_NOW closes the epoch early. -/
def ledgCtrl (w : Word) (s : State) : State := (s.setCtrl 3 0x77 w).when (w.getLsbD 3) (·.epochAsk 1)

/-- SEQ.CTRL: SNAP and SVC_RETRY. -/
def seqCtrl (w : Word) (s : State) : State :=
  ((s.setCtrl 4 0xF w).when (w.getLsbD 4) (·.snapshot 0x08 0xFF)).svcRetryWrite (w.getLsbD 5)

/-- NRG.CTRL: LATCH is set by 1 and cleared by the latch (R291). -/
def nrgCtrl (w : Word) (s : State) : State := s.setCtrl 5 0x1F ((w &&& 0x1E#32) ||| (rd s.ctrl 5 &&& 1#32) ||| (w &&& 1#32))

/-- NRG.LEARN: the string, a start, an abort; a discharge in progress keeps its string. -/
def nrgLearn (w : Word) (s : State) : State :=
  let k := bitsOf w 3 0
  let s1 := if w.getLsbD 4 then s.learnStart k s.potP
    else if 1 ≤ s.aon.learnSt && s.aon.learnSt ≤ 3 then s else s.mdAon (fun a => { a with learnStr := k })
  s1.when (w.getLsbD 5) learnAbort

/-- NRG.CAND; a write of both bits, or of neither, is ignored (R279). -/
def nrgCand (w : Word) (s : State) : State :=
  s.when (w.getLsbD 4 != w.getLsbD 5) (·.candWrite (bitsOf w 3 0) (w.getLsbD 4))

/-- PORT.CTRL.EN = 0 (R155, Table 04-8): the link goes DOWN; in Save at the image boundary. -/
def portDisable (p : Nat) (s : State) : State :=
  if !(s.lk p).en then s
  else if s.saving && (s.sv p).img && (s.sv p).pst < 5 then s.mdSv p (fun v => { v with disPend := true })
  else (s.mdLk p (fun l => { l with en := false })).portsDown [p]

/-- PORT.CTRL.EN = 1; it also takes back a disable that waits for the image boundary (log entry 157), and the link-lost source is judged
again (R382). -/
def portEnable (p : Nat) (s : State) : State :=
  ((s.mdLk p (fun l => { l with en := true })).mdSv p (fun v => { v with disPend := false })).linkLost p

/-- PORT.CTRL. -/
def portCtrl (p : Nat) (w : Word) (s : State) : State :=
  (if w.getLsbD 0 then s.portEnable p else s.portDisable p).when (w.getLsbD 1) (·.toRecover p)

/-- RET.ACT. -/
def retActWrite (p : Nat) (w : Word) (s : State) : State :=
  match bitsOf w 2 0 with
  | 1 => s.retDiscard p
  | 2 => s.retReassign p (bitsOf w 13 8)
  | 3 => s.retLeave p
  | 4 => s.retAcceptLoss p
  | 5 => s.retAgain p
  | 0 => s
  | _ => s.retAct p false (fun t => t)

/-- SEQ.SLOT[n].MARGIN (SVC). -/
def marginReg' (n : Nat) (w : Word) (s : State) : State := s.marginWrite n (bitsOf w 1 0) (bitsOf w 17 2)

/-- The writes of TOP. -/
def topWrite (o : Nat) (w : Word) (s : State) : State :=
  match o with
  | 0x0C => s.topCmd w
  | 0x18 => s.setCtrl 0 7 w
  | 0x1C => { s with busyIrq := w &&& 0x1FFF#32 }
  | 0x20 => s.clrEvt 0 w
  | _ => s

/-- The writes of FLT. -/
def fltWrite (o : Nat) (w : Word) (s : State) : State :=
  match arr o 0x10 4 4, arr o 0x60 4 8, arr o 0xA0 4 8, arr o 0xC0 4 8 with
  | some (c, _), _, _, _ => s.when (w.getLsbD 31) (·.unlatchClass c)
  | _, some (i, _), _, _ => s.mdFlt (fun f => { f with cause := f.cause &&& ~~~((w.zeroExtend 256) <<< (32 * i)) })
  | _, _, some (i, _), _ => s.forceWrite i w
  | _, _, _, some (i, _) => s.forcePbWrite i w
  | _, _, _, _ =>
    match o with
    | 0x00 => s.fltCtrl w
    | 0x04 => s.clrEvt 2 w
    | 0xE4 => s.isoClear false w
    | 0xE8 => s.isoClear true w
    | _ => s

/-- The writes of LEDG. -/
def ledgRegWrite (o : Nat) (w : Word) (s : State) : State :=
  match o with
  | 0x00 => s.ledgCtrl w
  | 0x04 => s.clrEvt 3 w
  | 0x18 => { s with ledg := { s.ledg with wallLo := w } }
  | 0x1C => s.wallCommit w
  | 0x70 => s.when (w.getLsbD 1) clearHold
  | 0x80 => { s with ledg := { s.ledg with codeSel := bitsOf w 15 0 } }
  | 0x94 => s.when (w.getLsbD 0) evqPop
  | _ => s

/-- The writes of NRG; an address SNAP and STG share writes STG (R477). -/
def nrgWrite (o : Nat) (w : Word) (s : State) : State :=
  match arr o 0xC00 4 272 with
  | some (i, _) => { s with nrg := { s.nrg with stg := Mem.setWord 0 s.nrg.stg (4 * i) w } }
  | none =>
    match o with
    | 0x00 => s.nrgCtrl w
    | 0x04 => s.clrEvt 5 w
    | 0x24 => s.nrgLearn w
    | 0x28 => s.nrgCand w
    | 0x2C => { s with nrg := { s.nrg with rstArg := w &&& 0x1FFFF#32 } }
    | 0x30 => { s with nrg := { s.nrg with rstCrc := w } }
    | _ => s

/-- The writes of STAKE. -/
def stakeWrite (o : Nat) (w : Word) (s : State) : State :=
  match arr o 0x300 4 64, arr o 0x400 4 64 with
  | some (p, _), _ => s.mdStkQ p (fun q => { q with ceil := bitsOf w 12 0, ceilEn := w.getLsbD 31 })
  | _, some (p, _) => s.mdStkQ p (fun q => { q with overSeen := q.overSeen && !w.getLsbD 2, missSeen := q.missSeen && !w.getLsbD 4 })
  | _, _ =>
    match o with
    | 0x00 => s.viewHold s.stkNow w
    | 0x04 => { s with stake := { s.stake with shortSeen := s.stake.shortSeen && !w.getLsbD 1, marginClip := s.stake.marginClip && !w.getLsbD 8 } }
    | 0x0C => s.marginReg w
    | 0x48 => { s with stake := { s.stake with ceilTot := bitsOf w 18 0, ceilEn := w.getLsbD 31 } }
    | _ => s

/-- The writes of SEQ, RP, SAVE, RET, STAGE, PAIR, BIMG, VAULT. -/
def seqWrite (o : Nat) (w : Word) (s : State) : State :=
  match arr o 0x100 16 64 with
  | some (n, k) => if k = 0xC then s.marginReg' n w else s
  | none => match o with | 0x00 => s.seqCtrl w | 0x04 => s.clrEvt 4 w | _ => s

def rpRegWrite (o : Nat) (w : Word) (s : State) : State :=
  match o with
  | 0x00 => s.setCtrl 1 3 w
  | 0x04 => s.clrEvt 1 w
  | 0x0C => s.when (w.getLsbD 0) abortWrite
  | 0x18 => { s with rp := { s.rp with scratch := w } }
  | _ => s

def saveWrite (o : Nat) (w : Word) (s : State) : State :=
  match o with
  | 0x00 => s.setCtrl 6 7 w
  | 0x04 => s.clrEvt 6 w
  | 0x08 => s.testTrip w 0
  | _ => s

def retWrite (o : Nat) (w : Word) (s : State) : State :=
  match arr o 0x100 4 64, arr o 0x500 4 64 with
  | some (p, _), _ => s.mdRt p (fun r => { r with actRej := r.actRej && !w.getLsbD 5 })
  | _, some (p, _) => s.retActWrite p w
  | _, _ => match o with | 0x00 => s.retConc w | 0x04 => s.clrEvt 7 w | _ => s

def stageWrite (o : Nat) (w : Word) (s : State) : State :=
  match arr o 0x100 4 64 with
  | some (p, _) => s.mdPp p (fun x => { x with orphan := x.orphan && !w.getLsbD 18 })
  | none =>
    match o with
    | 0x00 => s.setCtrl 8 0xF w
    | 0x04 => s.clrEvt 8 w
    | 0x08 => { s with stage := { s.stage with clip := s.stage.clip && !w.getLsbD 6 } }
    | 0x10 => s.stageHost w
    | _ => s

def pairWrite (o : Nat) (w : Word) (s : State) : State :=
  match o with
  | 0x00 => s.setCtrl 9 0x1F w
  | 0x04 => s.clrEvt 9 w
  | 0x38 => s.mdPair (fun p => { p with drillDwell := bitsOf w 15 0, drillTest := w.getLsbD 16 })
  | 0x50 => s.kxApprove w
  | _ => s

def fabWrite (o : Nat) (w : Word) (s : State) : State :=
  match o with
  | 0x00 => (s.setCtrl 10 0x1FF w).fabEnable (rd s.ctrl 10)
  | 0x04 => s.clrEvt 10 w
  | 0x200 => s.rqWrite w
  | 0x204 => s.mdFab (fun v => { v with rqOfs := bitsOf w 21 0, rqLen := bitsOf w 31 22 })
  | _ => s

def bimgWrite (o : Nat) (w : Word) (s : State) : State :=
  match arr o 0x80 4 12, arr o 0x8000 4 8192 with
  | some (i, _), _ => if s.keyHash.isSome then s else s.mdBimg (fun b => { b with keyh := b.keyh.set i w })
  | _, some (i, _) => s.mdBimg (fun b => { b with stg := Mem.setWord 0 b.stg (4 * i) w })
  | _, _ =>
    match o with
    | 0x00 => (s.setCtrl 11 6 w).when (w.getLsbD 0) bimgRescan
    | 0x04 => s.clrEvt 11 w
    | 0x40 => s.mdBimg (fun b => { b with arg := w &&& 0x1F01#32 })
    | _ => s

def vaultWrite (o : Nat) (w : Word) (s : State) : State :=
  match arr o 0x200 4 4 with
  | some (i, _) => s.mdVault (fun v => { v with jobArg := wr v.jobArg i (if i = 0 then w &&& 0x80000F3F#32 else w) })
  | none => match o with | 0x00 => s.setCtrl 12 7 w | 0x04 => s.clrEvt 12 w | _ => s

/-- What a write does at an address below 0x40_0000: by the access code of its fields (R6); read-only registers, mirrors and holes take
nothing (R453, R455, R473). -/
def pokeAt (a : Nat) (w : Word) (s : State) : State :=
  let o := a % 0x10000
  match a / 0x10000 with
  | 0x00 => s.topWrite o w
  | 0x01 => s.rpRegWrite o w
  | 0x02 => s.fltWrite o w
  | 0x03 => s.ledgRegWrite o w
  | 0x04 => s.seqWrite o w
  | 0x05 => s.nrgWrite o w
  | 0x06 => s.stakeWrite o w
  | 0x07 => s.saveWrite o w
  | 0x08 => s.retWrite o w
  | 0x09 => s.stageWrite o w
  | 0x0A => s.pairWrite o w
  | 0x0B => s.fabWrite o w
  | 0x0C => s.bimgWrite o w
  | 0x20 => s.vaultWrite o w
  | 0x21 => if a % 0x800 = 0x24 then s.mdRing (o / 0x800) (fun g => { g with dsel := bitsOf w 7 0 }) else s
  | _ =>
    if 0x100000 ≤ a && a < 0x140000 then
      let p := (a - 0x100000) / 0x1000
      match a % 0x1000 with
      | 0x00 => s.portCtrl p w
      | 0x1C => s.mdLk p (fun l => { l with err := l.err &&& ~~~w })
      | _ => s
    else s

/-- A register-port write of `w` to RP_AD[31:0] = `a`. -/
def regWrite (a : Nat) (w : Word) (s : State) : State :=
  if !s.ctlOn then s.rpDead
  else
    let c := s.rpCause a true
    if c ≠ 0 then s.rpErr c (a % 0x1000000) true
    else
      let t := s.rpData 0
      if 0x400000 ≤ a then t else t.pokeAt a w

/-! ### Fabric service (R378, R379) -/

/-- The telemetry block, Table 11-8. -/
def telBlock (s : State) : List Byte :=
  let w := fun (x : Word) => leBytes 4 x.toNat
  s.stamp.bytes ++ leBytes 1 s.top.state.code ++ leBytes 1 s.pairRole ++ leBytes 2 (s.fab.tbl.tableId % 4096 + s.ownSlot % 16 * 4096)
    ++ leBytes 4 s.save.serial ++ w s.saveStatus ++ leBytes 4 s.stkShown.bTotal ++ leBytes 4 s.stkShown.sumU ++ w s.stakeStatus
    ++ leBytes 4 s.nrg.eSum ++ leBytes 4 s.nrg.ePot ++ w s.vaultStatus ++ w s.nrgStatus ++ zeros 8

/-- TEL_REQ received on fabric port `i` from `src`. A control island in reset, whose figures and ledger these are, answers nothing (DESIGN CHOICE, log
entry 217). -/
def telReqRx (i : Nat) (h : Hdr) (src : Nat) (s : State) : State :=
  s.freceive i h (fun t =>
    if !t.ctlOn then t else
    match t.serve with
    | (some e, u) => (u.unicast src 3 (.error e h.seq.toNat)).2
    | (none, u) => (u.unicast src 3 (.telRsp u.telBlock)).2)

/-- LREAD_REQ received: `len` words from `ofs`, VIEW 0 with DEV 0. -/
def lreadReqRx (i : Nat) (h : Hdr) (src ofs len : Nat) (s : State) : State :=
  s.freceive i h (fun t =>
    if !t.ctlOn then t else
    match t.serve with
    | (some e, u) => (u.unicast src 3 (.error e h.seq.toNat)).2
    | (none, u) =>
      if ofs % 4 ≠ 0 || len = 0 || 1024 < len || 0x400000 < ofs + 4 * len then (u.unicast src 3 (.lreadRsp 1 ofs [])).2
      else
        let ws := (List.range len).map (fun j => u.norWindow false 0 (ofs + 4 * j))
        if ws.any (·.isNone) then (u.unicast src 3 (.lreadRsp 2 ofs [])).2
        else (u.unicast src 3 (.lreadRsp 0 ofs (ws.map (·.getD 0)))).2)

/-! ### PMBus target (R463 to R466) -/

/-- A STATUS_CML bit is set (R465). -/
def cmlSet (bit : Nat) (s : State) : State :=
  ({ s with rp := { s.rp with cml := s.rp.cml ||| BitVec.ofNat 8 (2 ^ bit), cntPmb := satAdd 0xFFFF s.rp.cntPmb 1 } }).setEvt 1 1

/-- STATUS_MFR_SPECIFIC, Table 15-8. -/
def statusMfr (s : State) : Nat :=
  (word [bf 0 s.stkShown.short, bf 1 (s.top.state == .save), bf 2 (s.srcLive 73), bf 3 (s.vault.degraded || s.healthyCount == 1), bf 4 s.unrestored,
    bf 5 ((List.range 4).any (fun c => (rd s.flt.cls c).latched)), bf 6 (s.paired && (s.pairRole == 3 || s.pair.cutOff)), bf 7 (!s.bimg.running)]).toNat

/-- STATUS_WORD, Table 15-8. -/
def statusWord (s : State) : Nat :=
  let m := s.statusMfr != 0
  let ab := !s.inputPresent
  (word [bf 0 m, bf 1 (s.rp.cml != 0), bf 2 (s.srcLive 152), bf 3 ab, bf 6 (s.inState [.fall, .latched]), bf 7 s.busy,
    bf 11 (!s.inState [.ready, .ride, .service]), bf 12 m, bf 13 ab]).toNat

/-- The answer to a read of a command code: its bytes, their number as a word, and the PEC over the whole transaction (R463). -/
def pmbAnswer (code : Nat) (blk : Bool) (l : List Byte) (s : State) : State :=
  let adr := fun (r : Nat) => BitVec.ofNat 8 (2 * s.tgtAddr + r)
  { s with rp := { s.rp with
    block := l, data := nword (leNat (l.take 4))
    pec := pecOf ([adr 0, BitVec.ofNat 8 code, adr 1] ++ (if blk then [BitVec.ofNat 8 l.length] else []) ++ l) } }

/-- A PMBus read: nothing answers while the control island is unpowered. -/
def pmbRead (code : Nat) (blk : Bool) (f : State → List Byte) (s : State) : State :=
  if !s.ctlOn then s else s.pmbAnswer code blk (f s)

/-- LINEAR11 of a value in tenths: exponent -3 keeps an eighth; the rounding is left open and taken from a free value. -/
def tempLinear (t : Int) (free : Nat) : Nat :=
  let q := divF (t * 8) 10
  let m := if q * 10 = t * 8 then q else q + (free % 2 : Nat)
  ofInt 11 (clampI (-1024) 1023 m) + 29 * 2048

/-- MFR_HZ_REG: the register at the address set, under the port's busy discipline and error causes; an error reads 0 and sets CML bit 1
(R466). -/
def pmbReg (s : State) : State :=
  if !s.ctlOn then s
  else
    let a := s.rp.regAddr
    let c := s.rpCause a false
    let put := fun (w : Word) (t : State) => t.pmbAnswer 0xD9 true (leBytes 4 w.toNat)
    if c ≠ 0 then put 0 (s.cmlSet 1)
    else if 0x400000 ≤ a then
      match s.norWindow (s.ctrlBit 3 4) (bitsOf (rd s.ctrl 3) 6 5) (a - 0x400000) with
      | some w => put w s
      | none => put 0 (s.cmlSet 1)
    else let t := s.latchAt a; put (t.peek a) t

end State
end Sys2Proof.Machine
end

