-- ==== Sys2Proof/Machine/Turn.lean ====
section
/-! DEFINITION. The turn boundary (01, 02): what it updates, in which order, and the transitions of Table 01-5 by the priority of
Table 01-6; the push-button, Ride's end and the second's tick. -/

namespace Sys2Proof.Machine
namespace State

/-! ### Transitions (R20 to R26) -/

/-- TOP.EVT: the state has changed. -/
def went (n : TopState) (s : State) : State := (s.enter n).setEvt 0 1

/-- Ready is entered: ports not yet decided are asked (R244, R263). -/
def toReady (s : State) : State := forL (idxs 64 (fun p => (s.rt p).out == 6)) stepRestore (s.went .ready).readyAsk

/-- Ride is entered. -/
def toRide (s : State) : State := s.went .ride

/-- Return is entered: pre-staging stops (R218), FRZ_N is released (R110), every port is decided afresh (R244); from Save the Restore rise starts
(Table 09-3). -/
def toReturn (fromSave : Bool) (s : State) : State :=
  let s1 := (((if fromSave then s else s.stageStop).went .ret).mdTop (fun t => { t with frz := 0, frzTrip := false })).retEnter
  if fromSave then { s1 with seq := { s1.seq with restTries := 0 } }.startRestore else s1

/-- Fall is entered with a profile: the epoch closes early (R414), the shortfall record is written (R422), a force-off sets STAY_OFF
(R323), erase counts are written (R185), the down sequence starts (Table 09-3). -/
def toFall (hold : Bool) (s : State) : State :=
  let s1 := if s.ledg.pr1.run then s.shortRec false else s
  let s2 := if s1.ledg.closed && decide (s1.ledg.ep.turns < 1000) then s1 else s1.epochClose 1
  let s3 := (s2.went .fall).mdTop (fun t => { t with fallProfile := hold, fallLatch := t.wantLatch, wantLatch := false, wantSeqflt := false, wantLeave := false, wantReady := false })
  let s4 := (s3.mdAon (fun a => { a with stayOff := a.stayOff || s.top.wantForce })).mdFlt (fun f => { f with latchPend := false })
  ((s4.fallDown hold).mdVault (fun v => { v with ecFall := false })).eraseCountWrite

/-- Latched is entered: the controller holds SEQFLT_N low (R315); port, mover and flash islands are unpowered (Table 01-3). -/
def toLatched (s : State) : State :=
  let s1 := (s.went .latched).mdTop (fun t => { t with wantLatch := false, wantForce := false, wantShut := false, wantSeqflt := false, wantService := false, wantUnlatch := false, fallLatch := false })
  { s1 with seq := { s1.seq with drv := true, restDone := false, resting := none } }

/-- Wake is entered: AON alone, with SWO_MAIN_N asserted (R34). -/
def toWake (s : State) : State :=
  let s1 := ((s.releaseToken).ctlReset false).enter .wake
  (s1.mdTop (fun t => { t with swoMain := true, swoBkp := false })).mdPins (fun p => { p with busGoodRun := p.pfiGood })

/-- Rise is entered (R310). -/
def toRise (s : State) : State :=
  ((s.went .rise).mdTop (fun t => { t with wantService := false, wantForce := false, wantShut := false })).retReset.riseEntry.sledsReread

/-- Counters that run "since Boot" start again at a Boot the control island's state lives through. -/
def sinceBoot (s : State) : State :=
  { s with
    flt := { s.flt with reg := tall 256 0, conseq := tall 256 0, conseqAll := 0, resets := 0 }
    pair := { s.pair with takeovers := 0, handovers := 0 }
    fab := { s.fab with ports := tmap (fun (x : FabPort) => { x with retrains := 0 }) s.fab.ports }
    seq := { s.seq with fails := 0, ext := 0, snaps := 0, slots := tmap (fun (x : Slot) => { x with chatter := 0 }) s.seq.slots }
    rp := { s.rp with cntPort := 0, cntPmb := 0 }
    save := { s.save with phase := 0 }
    stake := { s.stake with v := { s.stake.v with shortCnt := 0, ports := tmap (fun (x : StkP) => { x with ovrTurns := 0 }) s.stake.v.ports } } }

/-- The unlatch of Latched (R315, R393): Boot without a reset of the control island; the islands that were unpowered start afresh, and
the image is judged again (R439); the ledger goes on under its section of the image accepted last (R414, R416). A sled whose retries were exhausted stays down (R318). -/
def latchedBoot (s : State) : State :=
  let s1 := s.unlatchAll.clearForces.sinceBoot
  let s2 := { s1 with
    bimg := { s1.bimg with img := { ({} : BImg) with ledg := s1.im.ledg }, running := false, reload := none }
    ledg := { s1.ledg with scanDone := false, next := none }
    links := tall 64 {}
    stage := s1.stage.islandsLost
    ret := { elapsed := s1.ret.elapsed, enter := s1.ret.enter, ports := tmap RetP.kept s1.ret.ports }
    vault := {
      jobArg := s1.vault.jobArg, job := s1.vault.job, jobState := s1.vault.jobState, jobResult := s1.vault.jobResult
      prog := s1.vault.prog, total := s1.vault.total, verUnc := s1.vault.verUnc, verRec := s1.vault.verRec, verCrc := s1.vault.verCrc
      verMaxc := s1.vault.verMaxc, xlist := s1.vault.xlist, xwin := s1.vault.xwin
      sleds := tgen 4 (fun x => let d := sledReset false (rd s1.vault.sleds x) (rd s1.pins.sledPrs x); if rd s1.seq.sledDead x then { d with cls := 7 } else d)
      rings := tall 32 {} }
    seq := { s1.seq with attempt := 0, phase := 0, rising := false, runDone := false, downs := [], resting := none, restTries := 0, fallDone := false, restDone := false, sledTries := tall 4 0, sledRest := tall 4 false } }
  ((s2.mdTop (fun t => { t with wantUnlatch := false, swoMain := true, swoBkp := false })).bootEnter true).setEvt 0 1

/-- A condition that leads to Fall is pending or holds: class or sequencer latch, SEQFLT_N that has been or is low (R320), force-off, host shutdown
(Table 01-6, priorities 2 to 4). -/
def fallWhy (s : State) : Bool :=
  s.top.wantLatch || s.top.wantSeqflt || (s.pins.seqfltLow && !s.seq.drv) || s.top.wantForce || s.top.wantShut

/-- Fall without a save: the sum of U_p is 0 (a save of rank 8 is a trip of this boundary otherwise, `turnTrips`). Open copies close, since
pre-staging does not run in Fall (R96, R218). -/
def fallNow (s : State) : State :=
  let s0 := (if s.inState [.ready, .ride, .service] then s.stageStop else s)
  let s0 := forL (idxs 64 (fun p => (s0.pp p).copies != [])) cancelCopies s0
  let s1 := if s.top.state = .ret then s0.retRecord.retStop else s0
  (if s1.top.state = .service then s1.marginCancel else s1).toFall false

/-- Ride is the next state of this boundary: the AC-good loss count has reached its threshold and no row of a higher priority applies
(Tables 01-5 and 01-6). -/
def rideDue (s : State) : Bool :=
  s.pair.drv && s.inState [.ready, .service] && !s.fallWhy && s.im.core.rideThrough && decide (s.im.core.acgThr ≤ s.acgCount)

/-- A learning discharge in state 1 or 2 is aborted at Ride entry (R282), ahead of this boundary's E_pot (Table 08-5). -/
def rideAbort (s : State) : State :=
  if s.rideDue && (s.aon.learnSt == 1 || s.aon.learnSt == 2) then
    let s1 := (s.abortIf true).learnStep
    s1.ePotUpdate s1.potP
  else s

/-- A sealed, unretired image cannot be looked for yet: a sled whose rails have qualified has not been read (R187, R217). -/
def bringUp (s : State) : Bool :=
  (idxs 4 (fun x => rd s.pins.sledPrs x && s.sledRails x && ((s.sled x).cls == 1 || (s.sled x).cls == 2))) != []

/-- The save-wide seal is written: what follows it at this boundary (Table 01-5; R25, R320, R324). -/
def afterSeal (s : State) : State :=
  if s.top.mrDeferred then (s.warmBoot).mdAon (fun a => { a with mrResets := satAdd 0xFFFF a.mrResets 1 })
  else if s.save.kind8 || s.fallWhy then s.toFall false
  else if s.inputPresent then s.toReturn true
  else s.toFall true

/-- Fall's end (Table 01-5). A Hold-profile Fall that ends with the input present and something pending has no row; it goes to Hold (DESIGN
CHOICE, log entry 148). -/
def afterFall (s : State) : State :=
  if s.top.fallLatch then s.toLatched
  else if s.inputPresent && !s.top.wantForce && !s.top.wantShut && !s.top.wantLatch then (if s.seq.restDone then s.toRise else s)
  else if s.top.fallProfile then s.toHold
  else s.toWake

/-- The transition of a turn boundary (Table 01-5), the first applicable row of Table 01-6. Only the token holder makes one (R27), but
for the return from Boot to Wake of a controller without an image. -/
def transition (s : State) : State :=
  match s.top.state with
  | .boot =>
    if !s.ledg.scanDone then s
    else if s.top.wantForce && !s.pair.standby then s.toWake
    else if s.bimg.running && s.pair.drv then s.toRise else s
  | .rise =>
    if !s.pair.drv then s
    else if s.top.wantLatch && s.seq.drv then s.toLatched
    else if s.runComplete && !s.bringUp then (if s.anyLive then (s.mdTop (fun t => { t with wantService := false })).toReturn false else (s.mdTop (fun t => { t with wantService := false })).toReady)
    else if s.top.wantService then (s.mdTop (fun t => { t with wantService := false })).went .service else s
  | .ready =>
    if !s.pair.drv then s
    else if s.fallWhy then s.fallNow
    else if s.rideDue then s.toRide else s
  | .ride =>
    if !s.pair.drv then s
    else if s.fallWhy then s.fallNow
    else if s.top.wantReady && decide (s.acgCount < s.im.core.acgThr) then (s.mdTop (fun t => { t with wantReady := false })).toReady else s
  | .service =>
    if !s.pair.drv then s
    else if s.fallWhy then s.fallNow
    else if s.rideDue then s.marginCancel.toRide
    else if s.top.wantLeave && s.runComplete then
      let s1 := (s.mdTop (fun t => { t with wantLeave := false })).marginCancel
      if s1.anyLive then s1.toReturn false else s1.toReady
    else s
  | .ret =>
    if !s.pair.drv then s
    else if s.fallWhy then s.fallNow
    else if s.retDone then ((s.retRecord).setEvt 7 0).toReady else s
  | .save => if s.pair.drv && s.save.done then s.afterSeal else s
  | .fall => if s.pair.drv && s.seq.fallDone then s.afterFall else s
  | .latched => if s.top.wantUnlatch && s.seq.restDone then s.latchedBoot else s
  | _ => s

/-! ### The parts of a turn -/

/-- Time and sampled inputs: the boundary lies 1 ms after the last; the wall label, the count of turns in the state, the inputs and the
die temperature follow (R9, R410, R512). -/
def turnClock (i : TurnInputs) (s : State) : State :=
  let t := s.clk.turnStart + 1000000
  let s1 := { s with
    clk := { s.clk with l := t, turnStart := t, turn := s.clk.turn + 1 }
    top := { s.top with turnsIn := s.top.turnsIn + 1, opSec := s.aon.opSec }
    aon := { s.aon with wallMs := s.aon.wallMs + 1 }
    cmd := { s.cmd with elapsed := if s.cmd.state = 1 then s.cmd.elapsed + 1 else s.cmd.elapsed }
    pins := { s.pins with tokenLow := i.tokenLow, frzExt := i.frz, seqfltLow := i.seqfltLow && !s.seq.drv, acgLoss := tgen 8 (fun n => i.acg.getLsbD n), acgLow := tgen 8 (fun n => i.acgLow.getLsbD n), dieTemp := i.dieTemp, vaonMvA := i.vaonA, vaonMvB := i.vaonB }
    ledg := { s.ledg with ep := { s.ledg.ep with turns := s.ledg.ep.turns + 1 } } }
  let s2 := inputGone s (if !s1.pair.drv && i.tokenLow then s1.freeShared else s1)
  if !s.pins.seqfltLow && s2.pins.seqfltLow then s2.riseAbort else s2

/-- The die temperature is judged against the TJ_WARN in force, that of a reload committed at this boundary included (R444, R512). -/
def judgeTemp (s : State) : State := if s.bimg.running then s.follow 152 0xFFFF (decide (s.im.tjWarn < s.pins.dieTemp)) else s

/-- FRZ_N is released after a trip in a state without stakes, at the first boundary at which no trip source is active, whatever state it
leads to; a standby follows the holder's frame (R110). -/
def frzStep (i : TurnInputs) (s : State) : State :=
  if s.pair.standby && !s.pair.drv then s
  else if s.top.frzTrip && !i.tripNow then s.mdTop (fun t => { t with frz := 0, frzTrip := false })
  else s

/-- Strings at the boundary, Table 08-5 steps 5 to 8: the discharge, host candidates, a checked restore unless an abort acts here (R462), E_pot. -/
def energyTurn (s : State) : State :=
  let s1 := if s.pair.standby then s else s.learnStep
  let s2 := forN 16 judgeWear (forL s1.nrg.candAct candAct s1)
  let s3 := { s2 with nrg := { s2.nrg with candAct := [] } }
  let s4 := if s3.nrg.restore.isSome && !s3.cmd.abortPend then s3.restoreCommit.cmdEnd 2 else s3
  s4.ePotUpdate s4.potP

/-- E_pot no longer covers the seal and a takeover in Save (the third point of R140). -/
def eCut (s : State) : Bool :=
  decide (s.nrg.ePot * 256 * 1000000 < s.stake.margin * s.pFix * (s.stake.v.tSeal + 5000) + s.stake.v.eRes * 256 * 1000000)

/-- The ranks due at this boundary: the reserve trip in Ride (R71), and the shutdown save of a transition to Fall while the sum of U_p is
above 0 (Table 04-1). -/
def boundaryRanks (s : State) : BitVec 8 :=
  (if s.top.state = .ride && s.reserveHit then 0x20#8 else 0) |||
    (if s.fallWhy && s.inState [.ready, .ride, .service, .ret] && decide (0 < s.stake.v.sumU) then 0x80#8 else 0)

/-- Trips that the boundary itself makes, at its own instant, before any transition (R118): a calibration save (R160), the test save of a
drill's dwell (R350), the reserve trip, the shutdown save; what is due together is one save with all of them as its sources (R119). -/
def turnTrips (s : State) : State :=
  let due := s.boundaryRanks
  if s.save.calReq && s.top.state = .ready then s.enterSave 7 due false true
  else if s.pair.legs = 1 && s.pair.drillSave = 1 && s.top.state = .ready then s.enterSave 7 due true false
  else if due.getLsbD 5 then s.enterSave 6 due false false
  else if due.getLsbD 7 then s.enterSave 8 due false false
  else s

/-- The drill's test save is over once the controller is back in Ready (R351). -/
def drillSaved (s : State) : State :=
  if s.pair.drillSave = 2 && s.top.state = .ready then
    s.mdPair (fun p => { p with drillSave := 3, drillBad := p.drillBad || s.save.deadlineMiss || s.save.emerg })
  else s

/-- Stripes opened from now on have this boundary's geometry; in Save it stays (R137, R177). -/
def geomTurn (s : State) : State := if s.top.state = .save then s else s.mdVault (fun v => { v with geom := s.newGeom })

/-- The figures of this boundary, all of them before any trip takes them (R61; DEDUCED, log entry 150). -/
def boundaryFigures (s : State) : State :=
  if s.top.state = .save then forN 64 missPort s
  else
    let s1 := s.rideAbort.stakeJudge.geomTurn
    if s1.stakeState then s1.stakeFigures else s1

/-- The boundary at the token holder: the stakes' inputs and figures, trips, the transition, stakes in the new state, pre-staging, the
vault. The reserve trip (R71) is judged at the boundary of Ride entry too (R72). -/
def holderTurn (s : State) : State :=
  let s1 := s.boundaryFigures
  let s2 := s1.turnTrips
  let s3 := if s2.vault.epochPend && s2.save.done && s2.top.state = .save then (s2.mdVault (fun v => { v with epochPend := false })).advanceEpoch else s2
  let s4 := if s3.saving && s3.eCut then s3.class2Cut else s3
  let s5 := s4.transition
  if !s5.ctlOn || s5.top.state = .boot then s5
  else
    let s6 := if s.top.state = .save && s5.top.state ≠ .save then s5.stakeJudge.geomTurn else s5
    let s7 := if s.top.state ≠ .ride && s6.top.state = .ride && s6.reserveHit then s6.enterSave 6 0 false false else s6
    let s8 := (s7.stakeCompute (s1.stakeState && s.top.state ≠ .save)).drillSaved
    let s9 := if s.top.state = .ret || s.top.state = .ready then s8.retOverdue.retTurn else s8.retOverdue
    let s10 := (s9.governorStep.reserveUpdate.eraseAheadAll.mapTurn).spendGrant
    ((s10.rjobResume.logCompact.catForward).sendConfirms).vaultAfter

/-- The value of a ledger channel's source, Table 13-4. -/
def chanVal (s : State) (src : Nat) : Option Int :=
  let str_ := fun k (f : Str → Int) => if (s.str k).present && !(s.str k).sense then some (f (s.str k)) else none
  if 0x10 ≤ src ∧ src < 0x20 then str_ (src - 0x10) (·.v)
  else if 0x20 ≤ src ∧ src < 0x30 then str_ (src - 0x20) (·.i)
  else if 0x30 ≤ src ∧ src < 0x40 then str_ (src - 0x30) (·.t)
  else if 0x80 ≤ src ∧ src < 0xC0 then some ((s.slot (src - 0x80)).vs : Int)
  else match src with
  | 0x50 => some (s.nrg.ePot : Int)
  | 0x51 => some (s.nrg.eSum : Int)
  | 0x52 => some (s.stake.v.bTotal : Int)
  | 0x53 => some (s.stake.v.sumU : Int)
  | 0x54 => some (s.stake.v.sumK : Int)
  | 0x55 => some s.pins.dieTemp
  | 0x56 => some s.pins.vaonMvA
  | 0x57 => some s.pins.vaonMvB
  | 0x58 => some s.creditMib
  | _ => none

/-- What ends a boundary on either controller of a pair: fuses, the export, the abort of a command (R447, R448, R429, R462), the pair's
turn, epochs and extremes (R414, R415), ages, the latched state image (R291). -/
def turnEnd (i : TurnInputs) (s : State) : State :=
  let s1 := ((s.counterTurn.keyFuseTurn).exportTurn.calCmdEnd).abortTurn
  let s2 := if s1.pins.mainOk && s1.top.state ≠ .save && (!s1.top.swoMain || s1.top.swoBkp) then s1.toMain else s1
  let s3 := ((s2.sealResets).frzStep i).bootToken i.tokenLow
  let s4 := if s3.pair.drv then ((s3.handTurn.dwellTurn).kxTurn.kxNeed.kxStart).frameTurn else if s3.pair.standby then s3.kxTurn.standbyTurn else s3
  let s5 := if s4.bimg.running && !s4.ledg.epochs then s4.epochStart else s4
  ((s5.epochMinMax s5.chanVal).polTurn).latchImage

/-- Port and flash islands stop when their rails fall (Table 01-3), whatever the command that made them fall; Latched stops all of them. -/
def islandsFollow (was : State) (s : State) : State :=
  let s1 := forN 8 (fun i t => if was.portOn i && !t.portOn i then t.portsReset ((List.range 8).map (fun j => 8 * i + j)) else t) s
  forN 4 (fun x t => if (t.sled x).pwr && (!t.sledHolds x || t.top.state == .latched) then t.islandOff x else t) s1

/-- The islands' rails, where the control island still runs in a state of its own: a reset of it has reset them too. -/
def islandsTurn (was : State) (s : State) : State := if s.ctlOn && s.top.state ≠ .boot then islandsFollow was s else s

/-- TURN_BOUNDARY. Nothing happens while the control island is unpowered or held in reset. A cold takeover's Boot is entered at this
boundary (R344). -/
def turnBoundary (i : TurnInputs) (s : State) : State :=
  if !s.ctlOn then s
  else
    let s0 := s.turnClock i
    if s0.pair.coldDue then s0.coldBootNow
    else
      let s1 := ((s0.reloadCommit.judgeTemp.expireSubs).closeTurn).drainTurn
      let s2 := if s1.pair.drv then s1.tableTurn else s1
      let s3 := s2.energyTurn
      let s4 := forN 64 linkTurn s3
      let s5 := islandsTurn s4 (if s4.pair.drv then s4.holderTurn else if s4.pair.standby then s4 else s4.transition)
      if s5.ctlOn then ({ s5 with ret := { s5.ret with go := s5.tableGo } }).latchReport.turnEnd i else s5

/-! ### Other events of this chapter -/

/-- RIDE_EXIT: 1 s below the threshold in Ride; the transition follows at the turn boundary. -/
def rideExit (s : State) : State :=
  if s.ctlOn && s.pair.drv && s.top.state = .ride && decide (s.acgCount < s.im.core.acgThr) then s.mdTop (fun t => { t with wantReady := true }) else s

/-- PB_PRESS of a length in 0.1 s (Table 09-5): Boot from Wake, a shutdown request to host firmware, or a count; a press that has acted
as a hold is not counted again. -/
def pbPress (len : Nat) (s : State) : State :=
  if s.top.state = .off then s
  else
    let s1 := (s.mdAon (fun a => { a with presses := if len ≤ 20 then satAdd 0xFFFF a.presses 1 else a.presses, pbLast := min 0xFF len })).mdPins (fun p => { p with pbDown := false })
    let s2 := { s1 with seq := { s1.seq with pbUsed := false } }
    if 20 < len then (if s.seq.pbUsed then s2 else s2.pbCount 3 len)
    else if s2.top.state = .wake then (s2.mdAon (fun a => { a with stayOff := false })).coldBoot
    else if s2.ctlOn && s2.inState [.rise, .ready, .ride, .save, .ret, .service] then (s2.pbCount 0 len).setEvt 4 3
    else s2.pbCount 0 len

/-- PB_HOLD_3S: in Rise, Service at the next turn boundary. -/
def pbHold3 (s : State) : State :=
  let s1 := s.mdPins (fun p => { p with pbDown := true })
  if s1.top.state = .rise && s1.ctlOn && s1.pair.drv then
    (({ s1 with seq := { s1.seq with pbUsed := true } }).mdTop (fun t => { t with wantService := true })).pbCount 2 30
  else s1

/-- PB_HOLD_FORCE: the hold reaches FORCE_T, `len` in 0.1 s (Table 09-5, R322, R323). -/
def pbForce (len : Nat) (s : State) : State :=
  if s.top.state = .off || s.seq.pbUsed then s
  else
    let s1 := (s.mdAon (fun a => { a with forces := satAdd 0xFF a.forces 1 })).mdPins (fun p => { p with pbDown := true })
    let s2 := ({ s1 with seq := { s1.seq with pbUsed := true } }).pbCount 1 len
    let off := fun (t : State) => t.mdAon (fun a => { a with stayOff := true })
    if s2.top.state = .wake then off s2
    else if s2.top.state = .boot then (off s2).mdTop (fun t => { t with wantForce := !s2.pair.standby })
    else if s2.pair.drv && s2.inState [.ready, .ride, .service, .ret] then (off s2).mdTop (fun t => { t with wantForce := true })
    else if s2.pair.drv && s2.top.state = .save then s2.mdTop (fun t => { t with wantForce := true })
    else s2

/-- A list of 600 s buckets moves on by one bucket of at most 144 (R241, R391). -/
def pushBucket (l : List Nat) : List Nat := (0 :: l).take 144

/-- SECOND_TICK: each operating second OP_SEC, the buckets of 600 s, the drill's age and the LSA ages advance (R391, R241, R351, R359);
the wall label follows while no turns run (R410). -/
def secondTick (s : State) : State :=
  if s.top.state = .off then s
  else
    let n := (s.aon.opSec + 1) % 2 ^ 32
    let b := n % 600 = 0
    let s1 := s.mdAon (fun a => { a with
      opSec := n, drillAge := satAdd 0xFFFFFFFF a.drillAge 1
      recov := if b then tmap pushBucket a.recov else a.recov
      emBkt := if b then pushBucket a.emBkt else a.emBkt
      wallMs := if s.ctlOn then a.wallMs else a.wallMs + 1000 })
    let s2 := if s1.fabRuns then s1.lsaAge else s1
    if !s2.ctlOn then s2.sharedFollow
    else
      if s2.paired && !s2.pair.dueSet && decide (2678400 < s2.aon.drillAge) then
        (s2.mdPair (fun p => { p with dueSet := true })).setEvt 9 6
      else s2

end State
end Sys2Proof.Machine
end

