-- ==== Sys2Proof/Machine/Commands.lean ====
section
/-! DEFINITION. The shells the commands share: what needs the control island's power, the register port's answer, and the commands whose
effect spans several engines. -/

namespace Sys2Proof.Machine

/-- What every command answers. -/
abbrev Out := Host.Outcome State Fault Refusal

/-- The address of register `o` of port `p`'s block (Table 15-1). -/
def portAddr (p o : Nat) : Nat := 0x100000 + 0x1000 * p + o

/-- The address of RET.ACT[p] (06). -/
def retActAddr (p : Nat) : Nat := 0x080500 + 4 * p

namespace State

/-- Do `f` only while the control island is powered and out of reset (Table 01-3). -/
def onCtl (f : State → State) (s : State) : State := if s.ctlOn then f s else s

/-- What the fabric island does on its own, whether or not the control island is in reset (R18). -/
def onFab (f : State → State) (s : State) : State := if s.fabRuns then f s else s

/-- A register-port write cycle to `a` whose effect is `f`; it ends in error for the causes of R453. -/
def rpAt (a : Nat) (f : State → State) (s : State) : State :=
  if !s.ctlOn then s.rpDead
  else if s.rpCause a true ≠ 0 then s.rpErr (s.rpCause a true) (a % 0x1000000) true
  else f (s.rpData 0)

/-! ### Links -/

/-- QUIET received: the port goes DOWN, without an error count (R82, Table 03-9). -/
def quietRx (p : Nat) (s : State) : State :=
  if s.upper p || ((s.lk p).st = 0 && !(s.lk p).failed) then s else ((s.toDown p true).cancelCopies p).retLinkDown p

/-- RECOVER_TIMEOUT: a port still in RECOVER goes DOWN, and its restore is abandoned (R116, R260). -/
def recoverTimeout (p : Nat) (s : State) : State := if (s.lk p).rcv then (s.portsDown [p]).retAbandon p else s

/-- An accepted IDENT, and what the staged map, Return and a running move make of it (R86, R116, R226, R244). -/
def identMore (p : Nat) (m : IdentMsg) (s : State) : State :=
  let t := s.identRx p m
  if !(t.linkUp p) then t
  else
    let u := if (s.lk p).id ≠ 0 && (s.lk p).id ≠ m.id then t.stageLose p else t
    if s.linkUp p then u.retIdent p false else ((u.retIdent p true).retLinkUp p).moveResume p

/-- IDENT received. -/
def identDone (p : Nat) (h : Hdr) (m : IdentMsg) (s : State) : State := s.receive p h (identMore p m)

/-- The chunk of an open copy whose tray read failed is read again (R135), with COPY = 0: its copy is open already (R93). -/
def rereadChunk (p sq chunk tag : Nat) (s : State) : State :=
  ((s.mdSave (fun v => { v with reread := satAdd 0xFFFF v.reread 1 })).raiseTurn 134 0xFFFF).send p (.read sq chunk 1 false tag)

/-- A DATA chunk that was accepted belongs to the open copy or move with its tag and square; one that answers no READ still open is dropped (R94, R134, R223), and so is what arrives while the mover, which holds the tray, stands still. -/
def dataRx (p seq tag sq chunk gen st : Nat) (data : Chunk) (trayErr : Bool) (s : State) : State :=
  if !s.moverRuns then s
  else match ((s.pp p).copies).find? (fun c => c.tag == tag && c.sq == sq && c.ph == 0) with
  | some c => if trayErr then s.rereadChunk p sq chunk tag else s.copyData p seq c chunk gen st data
  | none =>
    match ((s.sv p).reads).find? (fun r => r.tag == tag && r.sq == sq) with
    | some r => (s.moveData p r chunk gen data trayErr).vaultAfter
    | none => s

/-! ### The sequencer's ticks -/

/-- A sled whose retries have run out counts as failed (R318). -/
def sledsFailed (was : State) (s : State) : State :=
  (forN 4 (fun x t => if rd t.seq.sledDead x && !(rd was.seq.sledDead x) then t.sledLoss x 7 else t) s).noSledLeft

/-- RAIL_DOWN_TICK: the down sequences step (R311), and the islands follow their rails. -/
def railDownTick (s : State) : State := islandsFollow s (sledsFailed s s.railDown)

/-- SLOT_TIMEOUT and SLOT_GOOD_LOST: the slot's failure (R309, R314, R317, R319), and the islands follow their rails. -/
def slotTimeoutIsl (n : Nat) (s : State) : State := islandsFollow s (s.slotTimeout n)
def slotGoodLostIsl (n : Nat) (s : State) : State := islandsFollow s (s.slotGoodLost n)

/-- RAIL_FAULT: R319; a sled slot's fault also fails its sled, whose slots go down outside Save (R318, Table 09-3). -/
def railFaultSled (n : Nat) (s : State) : State :=
  let t := s.railFault n
  let c := s.slotCfg n
  if c.role = 3 && (t.slot n).fault && !(s.slot n).fault then
    let u := t.sledLoss c.sled 7
    islandsFollow s (if u.top.state = .save then u.noSledLeft else u.beginDown (.sled c.sled) (u.sledSlots c.sled))
  else islandsFollow s t

/-! ### The PMBus target (R463 to R466) -/

/-- A PMBus write command: a wrong PEC discards it and sets STATUS_CML bit 5 (R463). -/
def pmbWriteCmd (pecOk : Bool) (f : State → State) (s : State) : State :=
  if !s.ctlOn then s else if pecOk then f s else s.cmlSet 5

/-- CLEAR_FAULTS clears STATUS_CML, the only bits that latch (R465). -/
def clearCml (s : State) : State := { s with rp := { s.rp with cml := 0 } }

/-- MFR_HZ_REG_ADDR: a byte address of three bytes; another length is data outside the command's range (R464). -/
def regAddrWrite (bytes : List Byte) (s : State) : State :=
  if bytes.length = 3 then { s with rp := { s.rp with regAddr := leNat bytes } } else s.cmlSet 6

/-- The bytes of registers, in order, from one update (R15). -/
def regBytes (addrs : List Nat) (s : State) : List Byte := addrs.flatMap (fun a => leBytes 4 (s.peek a).toNat)

/-- PMBUS_SCL_TIMEOUT: the target releases the bus; no register holds anything of it (R463). -/
def sclRelease (s : State) : State := s

end State
end Sys2Proof.Machine
end

