-- ==== Sys2Proof/Machine/CmdCollector.lean ====
section
/-! DEFINITION. The fault collector (12). One meaning per command. -/

namespace Sys2Proof.Machine

open State

/-- FAULT_REGISTRATION: R387, R17, R24, R25, R40, R61, R105, R118, R119, R121, R123, R124, R126, R147, R157, R158, R159, R208, R327,
R330, R345, R347, R381, R382, R384, R386, R390, R391, R392, R394, R395, R396, R397, R398, R400, R401, R403, R416, R418, R461. -/
def execFaultRegistration (src : BitVec 8) (of : RegOf) (s : State) : Out :=
  .next (s.onCtl (fun t => match of with | .sub n => t.faultReg src.toNat n.toNat | .halves l => t.xfSamples src.toNat l))

/-- PAIR_BROKEN: R385, R120, R158, R384, R386. -/
def execPairBroken (i : PairId) (s : State) : Out :=
  .next (s.onCtl (fun t => t.pairBroken i))

/-- ISLAND_TIMEOUT: R383. -/
def execIslandTimeout (src : BitVec 8) (s : State) : Out :=
  .next (s.onCtl (fun t => t.islandTimeout src.toNat))

/-- RESET_RELEASE: R396, R11. -/
def execResetRelease (b : Fin 16) (s : State) : Out :=
  .next (s.onCtl (fun t => t.resetRelease b))

/-- RESET_END: R396, R383. -/
def execResetEnd (b : Fin 16) (s : State) : Out :=
  .next (s.onCtl (fun t => t.resetEnd b))

/-- SHADOW_CLOSE: R399. -/
def execShadowClose (k : Fin 16) (s : State) : Out :=
  .next (s.onCtl (fun t => t.shadowClose k))

/-- CLASS_CLEAR: R390. -/
def execClassClear (c : Fin 4) (s : State) : Out :=
  .next (s.onCtl (fun t => t.classClear c))

/-- CLR_FIRST: R401. -/
def execClrFirst (w : Word) (s : State) : Out :=
  .next (s.rpWrite 0x020000 (fltCtrl (w ||| 8#32)))

/-- UNLATCH_CLASS: R393. -/
def execUnlatchClass (c : Fin 4) (s : State) : Out :=
  .next (s.rpWrite (0x020010 + 4 * c.val) (unlatchClass c))

/-- FORCE_WRITE: R402. -/
def execForceWrite (i : Fin 8) (w : Word) (s : State) : Out :=
  .next (s.rpWrite (0x0200A0 + 4 * i.val) (forceWrite i w))

/-- FORCE_PB_WRITE: R402. -/
def execForcePbWrite (i : Fin 8) (w : Word) (s : State) : Out :=
  .next (s.rpWrite (0x0200C0 + 4 * i.val) (forcePbWrite i w))

/-- ISO_CLEAR: R395. -/
def execIsoClear (hi : Bool) (w : Word) (s : State) : Out :=
  .next (s.rpWrite (if hi then 0x0200E8 else 0x0200E4) (isoClear hi w))

/-- SOURCE_CEASES_LIVE: R400, R384, R385, R386. -/
def execSourceCeasesLive (src : BitVec 8) (sub : BitVec 16) (s : State) : Out :=
  .next (s.onCtl (fun t => t.sourceCeases src.toNat sub.toNat))

end Sys2Proof.Machine
end

