-- ==== Sys2Proof/Machine/CmdFabric.lean ====
section
/-! DEFINITION. The fabric (11). One meaning per command. -/

namespace Sys2Proof.Machine

open State

/-- GRANT_EXPIRY: R371. -/
def execGrantExpiry (s : State) : Out :=
  .next (s.onCtl (fun t => t.grantExpiry))

/-- FABRIC_HELLO: R354. -/
def execFabricHello (i : Fin 4) (h : Hdr) (addr : BitVec 12) (cost : BitVec 4) (seen : Bool) (s : State) : Out :=
  .next (s.onFab (fun t => t.helloRx i h addr.toNat cost.toNat seen))

/-- HELLO_SEND: R354. -/
def execHelloSend (s : State) : Out :=
  .next (s.onFab (fun t => t.helloSend))

/-- FABRIC_PORT_SILENT: R354. -/
def execFabricPortSilent (i : Fin 4) (s : State) : Out :=
  .next (s.onFab (fun t => t.fabDown i))

/-- FABRIC_TRAIN_RETRY: R354. -/
def execFabricTrainRetry (i : Fin 4) (s : State) : Out :=
  .next (s.onFab (fun t => t.fabRetry i))

/-- FABRIC_FORWARD: R356. -/
def execFabricForward (i : Fin 4) (h : Hdr) (m : FMsg) (s : State) : Out :=
  .next (s.onFab (fun t => t.fabForward i h m))

/-- ADDRESS_DISCOVER: R357. -/
def execAddressDiscover (s : State) : Out :=
  .next (s.onFab (fun t => t.addrDiscover))

/-- LSA: R359, R357, R358. -/
def execLsa (i : Fin 4) (h : Hdr) (m : Lsa) (s : State) : Out :=
  .next (s.onFab (fun t => t.lsaRx i h m))

/-- LSA_ORIGINATE: R359. -/
def execLsaOriginate (s : State) : Out :=
  .next (s.onFab (fun t => t.lsaOriginate))

/-- LSA_EXPIRY: R359. -/
def execLsaExpiry (a : BitVec 12) (s : State) : Out :=
  .next (s.onFab (fun t => t.lsaExpiry a.toNat))

/-- ROUTE_COMPUTE: R360, R361, R363. -/
def execRouteCompute (s : State) : Out :=
  .next (s.onFab (fun t => t.routeCompute))

/-- TSYNC_TIMER: R362, R363. -/
def execTsyncTimer (s : State) : Out :=
  .next (s.onFab (fun t => t.tsyncTimer))

/-- TSYNC_REQ: R362. -/
def execTsyncReq (i : Fin 4) (h : SyncHdr) (s : State) : Out :=
  .next (s.onFab (fun t => t.tsyncReqRx i h.toHdr h.replayed))

/-- TSYNC_RSP: R363, R362. -/
def execTsyncRsp (i : Fin 4) (h : Hdr) (t2 : BitVec 64) (t3 : BitVec 64) (hops : BitVec 8) (psync : Bool) (pdisc : Bool) (replayed : Bool) (s : State) : Out :=
  .next (s.onFab (fun t => t.tsyncRspRx i h t2 t3 hops.toNat psync pdisc replayed))

/-- PPS_EDGE: R365. -/
def execPpsEdge (s : State) : Out :=
  .next (s.onFab (fun t => t.ppsEdge))

/-- PPS_EDGE_MISSED: R365. -/
def execPpsEdgeMissed (s : State) : Out :=
  .next (s.onFab (fun t => t.ppsMissed))

/-- ROUND_START: R367, R375. -/
def execRoundStart (k : BitVec 32) (s : State) : Out :=
  .next (s.onFab (fun t => t.roundStart k.toNat))

/-- TABLE_REPORT: R368. -/
def execTableReport (i : Fin 4) (h : Hdr) (m : TRep) (s : State) : Out :=
  .next (s.onFab (fun t => t.tableReportRx i h m))

/-- COORDINATE: R370, R367, R368, R369, R372, R374, R376. -/
def execCoordinate (s : State) : Out :=
  .next (s.onFab (fun t => t.coordinate))

/-- GRANT: R368, R255. -/
def execGrant (i : Fin 4) (h : Hdr) (g : TGrant) (s : State) : Out :=
  .next (s.onFab (fun t => t.grantRx i h g))

/-- TELEMETRY_REQUEST: R378. -/
def execTelemetryRequest (dst : BitVec 12) (s : State) : Out :=
  .next (s.rpAt 0x0B0200 (rqWrite (word [(0, 12, dst.toNat), (12, 2, 1), bf 14 true])))

/-- LEDGER_READ_REQUEST: R379. -/
def execLedgerReadRequest (dst : BitVec 12) (s : State) : Out :=
  .next (s.rpAt 0x0B0200 (rqWrite (word [(0, 12, dst.toNat), (12, 2, 2), bf 14 true])))

/-- TEL_REQ: R378. -/
def execTelReq (i : Fin 4) (h : Hdr) (src : BitVec 12) (s : State) : Out :=
  .next (s.onFab (fun t => t.telReqRx i h src.toNat))

/-- LREAD_REQ: R379, R428. -/
def execLreadReq (i : Fin 4) (h : Hdr) (src : BitVec 12) (ofs : BitVec 22) (len : BitVec 11) (s : State) : Out :=
  .next (s.onFab (fun t => t.lreadReqRx i h src.toNat ofs.toNat len.toNat))

/-- TEL_RSP: R378. -/
def execTelRsp (i : Fin 4) (h : Hdr) (src : BitVec 12) (block : List Byte) (s : State) : Out :=
  .next (s.onFab (fun t => t.telRspRx i h src.toNat block))

/-- LREAD_RSP: R379. -/
def execLreadRsp (i : Fin 4) (h : Hdr) (src : BitVec 12) (status : BitVec 8) (words : List Word) (s : State) : Out :=
  .next (s.onFab (fun t => t.lreadRspRx i h src.toNat status.toNat words))

/-- FABRIC_ERROR: R378. -/
def execFabricError (i : Fin 4) (h : Hdr) (src : BitVec 12) (code : BitVec 8) (s : State) : Out :=
  .next (s.onFab (fun t => t.fabErrorRx i h src.toNat code.toNat))

/-- REQUEST_TIMEOUT: R378. -/
def execRequestTimeout (s : State) : Out :=
  .next (s.onFab (fun t => t.rqTimeout))

/-- FABRIC_TRAINED: R354, R352. -/
def execFabricTrained (i : Fin 4) (s : State) : Out :=
  .next (s.onFab (fun t => t.fabTrained i))

/-- FABRIC_LOCK_LOST: R354. -/
def execFabricLockLost (i : Fin 4) (s : State) : Out :=
  .next (s.onFab (fun t => t.fabDown i))

/-- FABRIC_TRAINING_FAIL: R354, R352. -/
def execFabricTrainingFail (i : Fin 4) (s : State) : Out :=
  .next (s.onFab (fun t => t.fabTrainFail i))

end Sys2Proof.Machine
end

