-- ==== Sys2Proof/Machine/CmdHost.lean ====
section
/-! DEFINITION. The register port (15). One meaning per command. -/

namespace Sys2Proof.Machine

open State

/-- HOST_SHUTDOWN: R459, R20, R25, R158, R265. -/
def execHostShutdown (s : State) : Out :=
  .next (s.topCode cmdShutdown)

/-- UNLATCH: R315, R20, R32, R393, R459. -/
def execUnlatch (s : State) : Out :=
  .next (s.topCode cmdUnlatch)

/-- LEAVE_SERVICE: R309, R20, R459. -/
def execLeaveService (s : State) : Out :=
  .next (s.topCode cmdLeave)

/-- CMD_INVALID: R458. -/
def execCmdInvalid (w : Word) (s : State) : Out :=
  .next (s.topCode (cmdInvalid w))

/-- ABORT: R462, R156, R158, R351, R429, R446, R447, R458. -/
def execAbort (s : State) : Out :=
  .next (s.rpAt 0x01000C abortWrite)

/-- TOP_STAMP_READ: R456. -/
def execTopStampRead (s : State) : Out :=
  .next (s.regRead 0x30)

/-- CAUSE_RECORD_READ: R401. -/
def execCauseRecordRead (last : Bool) (s : State) : Out :=
  .next (s.regRead (if last then 0x020120 else 0x020100))

/-- TIME_LO_READ: R479. -/
def execTimeLoRead (s : State) : Out :=
  .next (s.regRead 0x0B0020)

/-- DESC_READ: R479. -/
def execDescRead (ring : Fin 32) (s : State) : Out :=
  .next (s.regRead (0x210040 + 0x800 * ring.val))

/-- STR_LO_READ: R479. -/
def execStrLoRead (k : Fin 16) (which : Fin 3) (s : State) : Out :=
  .next (s.regRead (0x050110 + 0x40 * k.val + 8 * which.val))

/-- REGISTER_WRITE: R6, R7, R14, R16, R45, R381, R400, R404, R450, R452, R453, R457, R473, R474, R477. -/
def execRegisterWrite (a : BitVec 32) (w : Word) (s : State) : Out :=
  .next (s.regWrite a.toNat w)

/-- REGISTER_READ_ERROR: R453, R16, R452, R458. -/
def execRegisterReadError (a : BitVec 32) (s : State) : Out :=
  .next (s.regRead a.toNat)

end Sys2Proof.Machine
end

