-- ==== Sys2Proof/Machine/CmdImage.lean ====
section
/-! DEFINITION. The board image (14). One meaning per command. -/

namespace Sys2Proof.Machine

open State

/-- BIMG_SELECT: R439, R20, R168, R267, R300, R329, R332, R366, R388, R389, R413, R416, R431, R432, R433, R435, R436, R437, R438,
R441, R475, R517, R518. -/
def execBimgSelect (s : State) : Out :=
  .next (s.bimgSelect)

/-- BIMG_RESCAN: R441. -/
def execBimgRescan (w : Word) (s : State) : Out :=
  .next (s.rpWrite 0x0C0000 (fun t => (t.setCtrl 11 6 w).bimgRescan))

/-- SLOT_WRITE: R443, R441, R442, R458, R459, R460. -/
def execSlotWrite (s : State) : Out :=
  .next (s.topCode cmdSlotWrite)

/-- TUNING_RELOAD: R444, R168, R267, R431, R432, R433, R435, R436, R437, R442, R458, R459, R460. -/
def execTuningReload (s : State) : Out :=
  .next (s.topCode cmdReload)

/-- COUNTER_ADVANCE: R447, R442, R458, R459, R460. -/
def execCounterAdvance (s : State) : Out :=
  .next (s.topCode cmdCounter)

/-- KEY_FUSE: R448, R438, R441, R442, R458, R459, R460. -/
def execKeyFuse (s : State) : Out :=
  .next (s.topCode cmdKeyFuse)

end Sys2Proof.Machine
end

