-- ==== Sys2Proof/Machine/CmdLedger.lean ====
section
/-! DEFINITION. The ledger (13). One meaning per command. -/

namespace Sys2Proof.Machine

open State

/-- EPOCH_CLOSE: R414, R417. -/
def execEpochClose (s : State) : Out :=
  .next (s.onCtl (fun t => t.epochRegular))

/-- EPOCH_CLOSE_DEFERRED: R417. -/
def execEpochCloseDeferred (s : State) : Out :=
  .next (s.onCtl (fun t => t.epochDeferred))

/-- HISTOGRAM_TICK: R415. -/
def execHistogramTick (s : State) : Out :=
  .next (s.onCtl (fun t => t.histTick t.chanVal))

/-- LEDGER_RECORD_WRITE: R408, R409, R411, R412, R419, R420, R421, R423, R424, R427, R429, R440. -/
def execLedgerRecordWrite (s : State) : Out :=
  .next (s.onCtl (fun t => t.ledgerWrite))

/-- NOR_OP_COMPLETE: R408, R411, R417, R423, R425, R440, R443. -/
def execNorOpComplete (dev : Fin 2) (res : NorRes) (s : State) : Out :=
  .next (s.onCtl (fun t => ((t.norComplete dev res).slotWritePoll).reportWritten))

/-- NOR_PROBE: R425, R405, R406. -/
def execNorProbe (dev : Fin 2) (sfdp : Sfdp) (content : Option (List Host.Cell)) (s : State) : Out :=
  .next (s.onCtl (fun t => t.norProbe dev sfdp content))

/-- RESILVER_DONE: R425, R440. -/
def execResilverDone (s : State) : Out :=
  .next (s.onCtl (fun t => t.resilverDone))

/-- LEDGER_SCAN_DONE: R426, R31, R121, R283, R284, R334, R405, R406, R409, R427, R476, R521. -/
def execLedgerScanDone (s : State) : Out :=
  .next (s.ledgerScan)

/-- WALL_COMMIT: R410. -/
def execWallCommit (hi : Word) (s : State) : Out :=
  .next (s.rpWrite 0x03001C (wallCommit hi))

/-- EPOCH_NOW: R414. -/
def execEpochNow (w : Word) (s : State) : Out :=
  .next (s.rpWrite 0x030000 (ledgCtrl (w ||| 8#32)))

/-- LEDGER_EXPORT: R429, R414, R458, R459, R460. -/
def execLedgerExport (s : State) : Out :=
  .next (s.topCode cmdExport)

/-- EXPORT_RELEASE: R429. -/
def execExportRelease (s : State) : Out :=
  .next (s.rpWrite 0x030070 clearHold)

/-- EXPORT_HOLD_TIMEOUT: R429. -/
def execExportHoldTimeout (s : State) : Out :=
  .next (s.onCtl (fun t => t.clearHold))

/-- EVQ_POP: R418. -/
def execEvqPop (s : State) : Out :=
  .next (s.rpWrite 0x030094 evqPop)

/-- EVQ_READ: R418. -/
def execEvqRead (s : State) : Out :=
  .next (s.regRead 0x0300A0)

/-- LEDGER_WINDOW_READ: R428, R453. -/
def execLedgerWindowRead (ofs : BitVec 22) (s : State) : Out :=
  .next (s.regRead (0x400000 + ofs.toNat))

/-- WALL_LO_READ: R479. -/
def execWallLoRead (s : State) : Out :=
  .next (s.regRead 0x030018)

end Sys2Proof.Machine
end

