-- ==== Sys2Proof/Machine/CmdLink.lean ====
section
/-! DEFINITION. The cache links: training, link states, ACK and NAK (03). One meaning per command. -/

namespace Sys2Proof.Machine

open State

/-- SIGNAL_DETECT: R82, R335. -/
def execSignalDetect (l : HclLink) (s : State) : Out :=
  .next (match l with | .port p => if s.portOn (p.val / 8) then s.signalDetect p else s | .partner => s.plSignal)

/-- BLOCK_LOCK: R82, R76, R335. -/
def execBlockLock (l : HclLink) (lanes : BitVec 4) (s : State) : Out :=
  .next (match l with | .port p => s.onCtl (fun t => t.blockLock p lanes.toNat) | .partner => s.plLock lanes.toNat)

/-- TRAIN_1: R83, R84, R335. -/
def execTrain1 (l : HclLink) (lane : Fin 4) (laneNo : Fin 4) (coef : BitVec 16) (sq : BitVec 8) (s : State) : Out :=
  .next (match l with
    | .port p => s.onCtl (fun t => t.train1 p lane laneNo coef.toNat sq.toNat)
    | .partner => s.plTrain1 lane laneNo coef.toNat sq.toNat)

/-- TRAIN_2: R83, R82, R86, R335. -/
def execTrain2 (l : HclLink) (width : BitVec 4) (s : State) : Out :=
  .next (match l with | .port p => s.onCtl (fun t => t.train2 p width.toNat) | .partner => s.plTrain2 width.toNat)

/-- TRAINING_TIMEOUT: R85, R76, R82, R335. -/
def execTrainingTimeout (l : HclLink) (s : State) : Out :=
  .next (match l with | .port p => s.onCtl (fun t => t.trainingTimeout p) | .partner => s.plTimeout)

/-- FAILED_RETRY: R85, R82, R335. -/
def execFailedRetry (l : HclLink) (s : State) : Out :=
  .next (match l with | .port p => if s.portOn (p.val / 8) then s.failedRetry p else s | .partner => s.plRetry)

/-- LANE_LOCK_LOST: R76, R82, R115, R138, R335. -/
def execLaneLockLost (l : HclLink) (lane : Fin 4) (s : State) : Out :=
  .next (match l with | .port p => s.onCtl (fun t => t.laneLockLost p lane) | .partner => s.plLost lane)

/-- QUIET: R82, R115, R335. -/
def execQuiet (l : HclLink) (s : State) : Out :=
  .next (match l with | .port p => s.onCtl (fun t => t.quietRx p) | .partner => s.plQuiet)

/-- RECOVER_TIMEOUT: R116, R82, R260. -/
def execRecoverTimeout (p : Fin 64) (s : State) : Out :=
  .next (s.onCtl (fun t => t.recoverTimeout p))

/-- ACK: R88, R353. -/
def execAck (link : LinkId) (h : Hdr) (s : State) : Out :=
  .next (match link with
    | .port p => s.onCtl (fun t => t.portAck p h)
    | .partner => s.onCtl (fun t => t.pairAck h)
    | .fab i => s.onFab (fun t => if 2 ≤ (t.fport i).st && (t.fport i).st ≤ 3 then t.fabAck i h else t))

/-- NAK: R88, R79, R115, R353. -/
def execNak (link : LinkId) (why : NakWhy) (s : State) : Out :=
  .next (match link with
    | .port p => s.onCtl (fun t => t.portNak p why)
    | .partner => s.onCtl (fun t => t.pairNak why)
    | .fab i => s.onFab (fun t => t.fabNak i why))

/-- REPLAY_TIMEOUT: R88, R115, R138, R353. -/
def execReplayTimeout (link : LinkId) (s : State) : Out :=
  .next (match link with
    | .port p => s.onCtl (fun t => t.portReplay p)
    | .partner => s.onCtl (fun t => t.pairReplay)
    | .fab i => s.onFab (fun t => t.fabReplay i))

/-- PORT_DISABLE: R155, R82, R158. -/
def execPortDisable (p : Fin 64) (s : State) : Out :=
  .next (s.rpAt (portAddr p 0) (portDisable p))

/-- PORT_ENABLE: R82. -/
def execPortEnable (p : Fin 64) (s : State) : Out :=
  .next (s.rpAt (portAddr p 0) (portEnable p))

/-- PORT_RETRAIN: R82. -/
def execPortRetrain (p : Fin 64) (s : State) : Out :=
  .next (s.rpAt (portAddr p 0) (toRecover p))

end Sys2Proof.Machine
end

