-- ==== Sys2Proof/Machine/CmdMessage.lean ====
section
/-! DEFINITION. Messages an adapter sends (03, 04, 06). One meaning per command. -/

namespace Sys2Proof.Machine

open State

/-- IDENT: R86, R82, R91, R112, R115, R116, R138, R226, R244, R252, R256, R260. -/
def execIdent (p : Fin 64) (h : Hdr) (m : IdentMsg) (s : State) : Out :=
  .next (s.onCtl (fun t => t.identDone p h m))

/-- REPORT: R99, R56, R100, R115. -/
def execReport (p : Fin 64) (h : Hdr) (m : ReportMsg) (late : Bool) (s : State) : Out :=
  .next (s.onCtl (fun t => t.receive p h (reportRx p m late)))

/-- MAP: R219, R98, R220, R226, R227. -/
def execMap (p : Fin 64) (h : Hdr) (tag : BitVec 32) (first : BitVec 16) (words : List (List Nat)) (s : State) : Out :=
  .next (s.onCtl (fun t => t.receive p h (mapRx p tag.toNat first.toNat words)))

/-- DATA: R94, R63, R96, R133, R134, R135, R192, R223. -/
def execData (p : Fin 64) (h : Hdr) (tag : BitVec 32) (sq : BitVec 16) (chunk : Fin 16) (gen : BitVec 4) (st : BitVec 2) (data : List Byte) (trayErr : Bool) (s : State) : Out :=
  .next (s.onCtl (fun t => t.receive p h (dataRx p h.seq.toNat tag.toNat sq.toNat chunk gen.toNat st.toNat data trayErr)))

/-- CONFIRM_ACK: R226, R95, R222. -/
def execConfirmAck (p : Fin 64) (h : Hdr) (turn : BitVec 32) (acc : BitVec 64) (s : State) : Out :=
  .next (s.onCtl (fun t => t.receive p h (confirmAckRx p turn.toNat acc)))

/-- REVERT_ACK: R97, R226. -/
def execRevertAck (p : Fin 64) (h : Hdr) (count : BitVec 17) (ovf : Bool) (s : State) : Out :=
  .next (s.onCtl (fun t => t.receive p h (revertAckRx p count.toNat ovf)))

/-- HCL_ERROR: R115, R93, R102, R103. -/
def execHclError (p : Fin 64) (h : Hdr) (code : BitVec 8) (s : State) : Out :=
  .next (s.onCtl (fun t => t.receive p h (hclError p h.seq.toNat code.toNat)))

/-- CHECK: R258, R107, R112, R244, R259. -/
def execCheck (p : Fin 64) (h : Hdr) (serial : BitVec 32) (codes : List Word) (s : State) : Out :=
  .next (s.onCtl (fun t => t.receive p h (checkRx p serial.toNat codes)))

/-- FROZEN: R128, R62, R107, R109, R112, R129, R131, R132, R152. -/
def execFrozen (p : Fin 64) (h : Hdr) (m : FrozenMsg) (s : State) : Out :=
  .next (s.onCtl (fun t => (t.receive p h (frozenRx p m)).vaultAfter))

/-- WACK: R113, R256, R258. -/
def execWack (p : Fin 64) (h : Hdr) (sq : BitVec 16) (chunk : Fin 16) (tag : BitVec 32) (status : BitVec 2) (s : State) : Out :=
  .next (s.onCtl (fun t => t.receive p h (wackRx p h.seq.toNat sq.toNat chunk tag.toNat status.toNat)))

/-- WACK_TIMEOUT: R256. -/
def execWackTimeout (p : Fin 64) (sq : BitVec 16) (chunk : Fin 16) (s : State) : Out :=
  .next (s.onCtl (fun t => t.wackTimeout p sq.toNat chunk))

/-- RELEASE_ACK: R253, R190, R243, R259, R263. -/
def execReleaseAck (p : Fin 64) (h : Hdr) (s : State) : Out :=
  .next (s.onCtl (fun t => t.receive p h (releaseAckRx p)))

/-- RELEASE_TIMEOUT: R252. -/
def execReleaseTimeout (p : Fin 64) (s : State) : Out :=
  .next (s.onCtl (fun t => t.releaseTimeout p))

end Sys2Proof.Machine
end

