-- ==== Sys2Proof/Machine/CmdPair.lean ====
section
/-! DEFINITION. The pair (10). One meaning per command. -/

namespace Sys2Proof.Machine

open State

/-- KEEPER_HB_STOP: R331. -/
def execKeeperHbStop (s : State) : Out :=
  .next (s.keeperHb)

/-- KEEPER_TOKEN_RELEASE: R331, R164, R330. -/
def execKeeperTokenRelease (s : State) : Out :=
  .next (s.releaseToken)

/-- PARTNER_LOSS: R336, R332, R341, R342. -/
def execPartnerLoss (s : State) : Out :=
  .next (s.onCtl (fun t => t.partnerLoss))

/-- LOSS_SAMPLE_END: R342, R332. -/
def execLossSampleEnd (low : Bool) (s : State) : Out :=
  .next (s.onCtl (fun t => t.lossSampleEnd low))

/-- CLAIM_HOLDOFF_END: R332. -/
def execClaimHoldoffEnd (s : State) : Out :=
  .next (s.onCtl (fun t => t.holdoffEnd))

/-- TOKEN_CLAIM: R332, R20, R61, R64, R98, R101, R105, R118, R119, R121, R123, R124, R126, R147, R150, R151, R152, R157, R158, R164,
R208, R228, R265, R266, R302, R327, R334, R343, R344, R346, R347, R351, R373, R460. -/
def execTokenClaim (frzLow : Bool) (sleds : Option (Tab SledDev 4)) (s : State) : Out :=
  .next (s.tokenClaim frzLow sleds)

/-- RING_SETTLE_END: R151, R129, R152, R164. -/
def execRingSettleEnd (s : State) : Out :=
  .next (s.onCtl (fun t => t.ringSettled.vaultAfter))

/-- ALIVE: R335. -/
def execAlive (h : Hdr) (s : State) : Out :=
  .next (s.onCtl (fun t => t.aliveRx h))

/-- ALIVE_SEND: R335. -/
def execAliveSend (s : State) : Out :=
  .next (s.onCtl (fun t => t.aliveSend))

/-- FRAME: R337, R27, R110, R297, R334, R339, R340, R349, R373, R480. -/
def execFrame (h : Hdr) (whole : Bool) (f : Frame) (s : State) : Out :=
  .next (s.onCtl (fun t => t.frameRx h whole f))

/-- FRAME_ACK: R341, R150. -/
def execFrameAck (h : Hdr) (fseq : BitVec 32) (s : State) : Out :=
  .next (s.onCtl (fun t => t.frameAckRx h fseq.toNat))

/-- JOIN: R340, R339. -/
def execJoin (h : Hdr) (id : BitVec 64) (s : State) : Out :=
  .next (s.onCtl (fun t => t.joinRx h id))

/-- YIELD: R345, R332. -/
def execYield (h : Hdr) (s : State) : Out :=
  .next (s.onCtl (fun t => t.yieldRx h))

/-- HANDOVER_FINAL_FRAME: R346. -/
def execHandoverFinalFrame (s : State) : Out :=
  .next (s.onCtl (fun t => t.finalFrame))

/-- TAKE_READY: R346, R164, R330. -/
def execTakeReady (h : Hdr) (fseq : BitVec 32) (s : State) : Out :=
  .next (s.onCtl (fun t => t.takeReadyRx h fseq.toNat))

/-- TAKE_READY_TIMEOUT: R346, R351. -/
def execTakeReadyTimeout (s : State) : Out :=
  .next (s.onCtl (fun t => t.takeReadyTimeout))

/-- KX_APPROVE: R349. -/
def execKxApprove (w : Word) (s : State) : Out :=
  .next (s.rpWrite 0x0A0050 (kxApprove w))

/-- KX_OFFER: R349. -/
def execKxOffer (h : Hdr) (key : List Byte) (pub : List Byte) (sig : List Byte) (s : State) : Out :=
  .next (s.onCtl (fun t => t.kxOfferRx h key pub sig))

/-- KX_REPLY: R349. -/
def execKxReply (h : Hdr) (key : List Byte) (pub : List Byte) (sig : List Byte) (s : State) : Out :=
  .next (s.onCtl (fun t => t.kxReplyRx h key pub sig))

/-- KX_KEYS: R349, R202. -/
def execKxKeys (h : Hdr) (text : List Byte) (s : State) : Out :=
  .next (s.onCtl (fun t => t.kxKeysRx h text))

/-- KX_WRAPS: R349. -/
def execKxWraps (h : Hdr) (wraps : List Byte) (s : State) : Out :=
  .next (s.onCtl (fun t => t.kxWrapsRx h wraps))

/-- SWAP_DRILL: R350, R346, R351, R458, R459, R460. -/
def execSwapDrill (s : State) : Out :=
  .next (s.topCode cmdDrill)

/-- DRILL_DWELL_END: R350. -/
def execDrillDwellEnd (s : State) : Out :=
  .next (s.onCtl (fun t => t.dwellEnd))

/-- HB_IN_EDGE: R336. -/
def execHbInEdge (s : State) : Out :=
  .next (s.hbEdge)

/-- PARTNER_CHANNEL_SILENT: R336. -/
def execPartnerChannelSilent (hb : Bool) (s : State) : Out :=
  .next (s.channelSilent hb)

end Sys2Proof.Machine
end

