-- ==== Sys2Proof/Machine/CmdPmbus.lean ====
section
/-! DEFINITION. PMBus (15). One meaning per command. -/

namespace Sys2Proof.Machine

open State

/-- CLEAR_FAULTS: R465, R463. -/
def execClearFaults (pecOk : Bool) (s : State) : Out :=
  .next (s.pmbWriteCmd pecOk clearCml)

/-- CAPABILITY: R464. -/
def execCapability (s : State) : Out :=
  .next (s.pmbRead 0x19 false (fun _ => [0xC0]))

/-- STATUS_BYTE: R464. -/
def execStatusByte (s : State) : Out :=
  .next (s.pmbRead 0x78 false (fun t => leBytes 1 t.statusWord))

/-- STATUS_WORD: R465, R464. -/
def execStatusWord (s : State) : Out :=
  .next (s.pmbRead 0x79 false (fun t => leBytes 2 t.statusWord))

/-- STATUS_CML: R465, R464. -/
def execStatusCml (s : State) : Out :=
  .next (s.pmbRead 0x7E false (fun t => [t.rp.cml]))

/-- STATUS_MFR_SPECIFIC: R465, R464. -/
def execStatusMfrSpecific (s : State) : Out :=
  .next (s.pmbRead 0x80 false (fun t => leBytes 1 t.statusMfr))

/-- READ_TEMPERATURE_1: R464. -/
def execReadTemperature1 (s : State) : Out :=
  .next (s.onCtl (fun u => (u.pmbRead 0x8D false (fun t => leBytes 2 (tempLinear t.pins.dieTemp (Config.freeWord t.clk.free).toNat))).tick))

/-- PMBUS_REVISION: R464. -/
def execPmbusRevision (s : State) : Out :=
  .next (s.pmbRead 0x98 false (fun _ => [0x33]))

/-- MFR_ID: R464. -/
def execMfrId (s : State) : Out :=
  .next (s.pmbRead 0x99 true (fun _ => ascii "IRNAR"))

/-- MFR_MODEL: R464. -/
def execMfrModel (s : State) : Out :=
  .next (s.pmbRead 0x9A true (fun _ => ascii "HZ6432-A"))

/-- MFR_REVISION: R464. -/
def execMfrRevision (s : State) : Out :=
  .next (s.pmbRead 0x9B true (fun _ => ascii "01"))

/-- MFR_SERIAL: R464. -/
def execMfrSerial (s : State) : Out :=
  .next (s.pmbRead 0x9E true (fun _ => leBytes 8 Config.identity.toNat))

/-- MFR_HZ_STATE: R464. -/
def execMfrHzState (s : State) : Out :=
  .next (s.pmbRead 0xD0 false (fun t => leBytes 2 t.topState.toNat))

/-- MFR_HZ_SAVE: R464. -/
def execMfrHzSave (s : State) : Out :=
  .next (s.pmbRead 0xD1 true (fun t => t.regBytes [0x070010, 0x07000C, 0x070048, 0x070058]))

/-- MFR_HZ_STAKE: R464. -/
def execMfrHzStake (s : State) : Out :=
  .next (s.pmbRead 0xD2 true (fun t => t.regBytes [0x060038, 0x060044, 0x060004]))

/-- MFR_HZ_ENERGY: R464. -/
def execMfrHzEnergy (s : State) : Out :=
  .next (s.pmbRead 0xD3 true (fun t => t.regBytes [0x060028, 0x050014, 0x060054, 0x050008]))

/-- MFR_HZ_VAULT: R464. -/
def execMfrHzVault (s : State) : Out :=
  .next (s.pmbRead 0xD4 true (fun t => t.regBytes [0x200008, 0x200210]))

/-- MFR_HZ_FAULT: R464. -/
def execMfrHzFault (s : State) : Out :=
  .next (s.pmbRead 0xD5 true (fun t => t.regBytes [0x020008, 0x020120]))

/-- MFR_HZ_REG_ADDR: R464, R463. -/
def execMfrHzRegAddr (pecOk : Bool) (bytes : List Byte) (s : State) : Out :=
  .next (s.pmbWriteCmd pecOk (regAddrWrite bytes))

/-- MFR_HZ_REG: R466, R465. -/
def execMfrHzReg (s : State) : Out :=
  .next (s.pmbReg)

/-- PMBUS_INVALID_COMMAND: R464, R465. -/
def execPmbusInvalidCommand (s : State) : Out :=
  .next (s.onCtl (fun t => t.cmlSet 7))

/-- PMBUS_SCL_TIMEOUT: R463. -/
def execPmbusSclTimeout (s : State) : Out :=
  .next (s.sclRelease)

/-- PMB_POLL: R468, R467, R469. -/
def execPmbPoll (d : Fin 64) (rdg : Option (Nat × Nat × Nat × Nat)) (s : State) : Out :=
  .next (s.onCtl (fun t => t.pmbPoll d rdg))

end Sys2Proof.Machine
end

