-- ==== Sys2Proof/Machine/CmdPower.lean ====
section
/-! DEFINITION. Supply inputs, clocks, the turn boundary and the operator (01, 08, 09, 17). One meaning per command. -/

namespace Sys2Proof.Machine

open State

/-- VAON_RISE: R20, R28, R34, R329, R494. -/
def execVaonRise (b : SupplyUp) (s : State) : Out :=
  .next (s.vaonRise b.onB b.away)

/-- VAON_A_LOSS: R29. -/
def execVaonALoss (s : State) : Out :=
  .next (s.vaonALoss)

/-- VAON_A_RETURN: R30, R28. -/
def execVaonAReturn (s : State) : Out :=
  .next (s.vaonAReturn)

/-- VAON_BOTH_LOST: R31, R20. -/
def execVaonBothLost (s : State) : Out :=
  .next (s.vaonBothLost)

/-- PFI_BUS_GOOD: R37, R158, R494. -/
def execPfiBusGood (s : State) : Out :=
  .next (s.pfiGood)

/-- BUS_GOOD_100MS: R20, R32, R34, R323, R404. -/
def execBusGood100ms (s : State) : Out :=
  .next (s.busGood100)

/-- MAIN_GOOD_10MS: R37, R33, R38. -/
def execMainGood10ms (s : State) : Out :=
  .next (s.mainGood10)

/-- PFI_BUS_SAG: R35, R12, R20, R24, R33, R40, R61, R105, R118, R119, R121, R123, R124, R126, R147, R157, R158, R208, R265, R282,
R313, R321, R327, R347, R404, R422, R429, R461, R521. -/
def execPfiBusSag (also : BitVec 8) (s : State) : Out :=
  .next (s.pfiSag also)

/-- BACKUP_NOT_GOOD: R39. -/
def execBackupNotGood (s : State) : Out :=
  .next (s.backupNotGood)

/-- HOLD_REQ: R118, R12, R20, R24, R40, R61, R105, R119, R121, R123, R124, R126, R147, R157, R208, R327, R347, R404, R422, R461,
R521. -/
def execHoldReq (also : BitVec 8) (s : State) : Out :=
  .next (s.trip 2 also)

/-- ACG_LOSS: R120, R12, R20, R24, R40, R61, R105, R118, R119, R121, R123, R124, R126, R147, R157, R208, R321, R327, R347, R404,
R422, R461, R521. -/
def execAcgLoss (n : Fin 8) (also : BitVec 8) (s : State) : Out :=
  .next (s.acgLoss n also)

/-- RIDE_EXIT: R20. -/
def execRideExit (s : State) : Out :=
  .next (s.rideExit)

/-- TURN_BOUNDARY: R46, R18, R20, R21, R23, R24, R25, R26, R32, R38, R40, R43, R44, R45, R47, R49, R50, R51, R52, R53, R54, R56,
R57, R58, R59, R60, R61, R64, R65, R66, R67, R68, R69, R70, R71, R72, R77, R93, R96, R98, R105, R110, R115, R118, R119, R120, R121,
R123, R124, R126, R137, R140, R146, R147, R149, R150, R156, R157, R160, R177, R180, R184, R185, R186, R189, R191, R208, R217, R218,
R220, R221, R225, R226, R228, R237, R239, R240, R241, R242, R243, R244, R245, R248, R249, R250, R251, R254, R255, R264, R280, R282,
R286, R287, R288, R289, R291, R294, R295, R296, R297, R298, R307, R313, R327, R337, R339, R340, R341, R346, R347, R348, R367, R371,
R375, R381, R388, R392, R404, R413, R414, R415, R416, R422, R444, R445, R446, R447, R461, R462, R475, R512, R520. -/
def execTurnBoundary (inp : TurnInputs) (s : State) : Out :=
  .next (s.turnBoundary inp)

/-- PB_PRESS: R322, R20, R32, R323. -/
def execPbPress (len : BitVec 8) (s : State) : Out :=
  .next (s.pbPress len.toNat)

/-- PB_HOLD_3S: R322, R20. -/
def execPbHold3s (s : State) : Out :=
  .next (s.pbHold3)

/-- PB_HOLD_FORCE: R323, R20, R25, R158, R265, R322. -/
def execPbHoldForce (len : BitVec 8) (s : State) : Out :=
  .next (s.pbForce len.toNat)

/-- MR_N: R324, R11, R18, R20, R25, R158, R265, R315, R393, R461. -/
def execMrN (s : State) : Out :=
  .next (s.mrN)

/-- MR_N_RELEASE: R324, R18, R20, R32, R404. -/
def execMrNRelease (s : State) : Out :=
  .next (s.mrRelease)

/-- REFCLK_STOP: R498. -/
def execRefclkStop (s : State) : Out :=
  .next (s.refclkStop)

/-- REFCLK_ABSENT_10US: R498. -/
def execRefclkAbsent10us (s : State) : Out :=
  .next (s.refclkAbsent)

/-- REFCLK_RETURN: R498, R18, R20, R32. -/
def execRefclkReturn (s : State) : Out :=
  .next (s.refclkReturn)

/-- PLL_UNLOCK: R499. -/
def execPllUnlock (pll : Fin 5) (s : State) : Out :=
  .next (s.pllUnlock pll)

/-- PLL_RELOCK: R499. -/
def execPllRelock (i : Fin 5) (s : State) : Out :=
  .next (s.pllRelock i)

/-- CRYSTAL_LOSS: R500. -/
def execCrystalLoss (s : State) : Out :=
  .next (s.crystal false)

/-- CRYSTAL_RETURN: R500. -/
def execCrystalReturn (s : State) : Out :=
  .next (s.crystal true)

/-- RAIL_NOT_GOOD: R496, R11, R330, R461. -/
def execRailNotGood (k : Fin 6) (s : State) : Out :=
  .next (s.railNotGood k)

/-- SUPPLY_RAIL_GOOD: R496, R494. -/
def execSupplyRailGood (k : Fin 6) (s : State) : Out :=
  .next (s.supplyGood k)

/-- VAON_B_CROSSING: R380. -/
def execVaonBCrossing (up : Bool) (s : State) : Out :=
  .next (s.vaonBCross up)

/-- SECOND_TICK: R359, R351, R391. -/
def execSecondTick (s : State) : Out :=
  .next (s.secondTick)

end Sys2Proof.Machine
end

