-- ==== Sys2Proof/Machine/CmdRestore.lean ====
section
/-! DEFINITION. Return (07). One meaning per command. -/

namespace Sys2Proof.Machine

open State

/-- RESTORE_START: R256, R254. -/
def execRestoreStart (s : State) : Out :=
  .next (s.onCtl (fun t => t.restoreStart))

/-- RET_WAIT_EXPIRY: R261. -/
def execRetWaitExpiry (s : State) : Out :=
  .next (s.onCtl (fun t => t.retWaitExpiry))

/-- RET_DISCARD: R262, R253, R263. -/
def execRetDiscard (p : Fin 64) (s : State) : Out :=
  .next (s.rpWrite (retActAddr p) (retDiscard p))

/-- RET_REASSIGN: R262, R263. -/
def execRetReassign (p : Fin 64) (src : Fin 64) (s : State) : Out :=
  .next (s.rpWrite (retActAddr p) (retReassign p src))

/-- RET_LEAVE_PENDING: R262, R263. -/
def execRetLeavePending (p : Fin 64) (s : State) : Out :=
  .next (s.rpWrite (retActAddr p) (retLeave p))

/-- RET_ACCEPT_LOSS: R262, R263. -/
def execRetAcceptLoss (p : Fin 64) (s : State) : Out :=
  .next (s.rpWrite (retActAddr p) (retAcceptLoss p))

/-- RET_DECIDE_AGAIN: R262, R263. -/
def execRetDecideAgain (p : Fin 64) (s : State) : Out :=
  .next (s.rpWrite (retActAddr p) (retAgain p))

/-- RET_CONC_WRITE: R254. -/
def execRetConcWrite (w : Word) (s : State) : Out :=
  .next (s.rpWrite 0x080000 (retConc w))

/-- TABLE_STAGGER_EXPIRY: R377. -/
def execTableStaggerExpiry (s : State) : Out :=
  .next (s.onCtl (fun t => t.staggerExpiry))

end Sys2Proof.Machine
end

