-- ==== Sys2Proof/Machine/CmdSaving.lean ====
section
/-! DEFINITION. The save (04). One meaning per command. -/

namespace Sys2Proof.Machine

open State

/-- FREEZE_WINDOW_CLOSE: R127, R62, R109, R115, R129, R131, R132. -/
def execFreezeWindowClose (s : State) : Out :=
  .next (s.onCtl (fun t => t.windowClose.vaultAfter))

/-- WAVE_OPEN: R129, R130, R133. -/
def execWaveOpen (k : Fin 8) (s : State) : Out :=
  .next (s.onCtl (fun t => (t.waveOpen k).vaultAfter))

/-- CLASS1_STRIPE_FILL: R177, R133. -/
def execClass1StripeFill (s : State) : Out :=
  .next (s.onCtl (fun t => t.class1Fill))

/-- MOVE_LINK_TIMEOUT: R138, R158. -/
def execMoveLinkTimeout (p : Fin 64) (s : State) : Out :=
  .next (s.onCtl (fun t => (t.moveLinkTimeout p).vaultAfter))

/-- CLASS1_CUTOFF: R139, R141. -/
def execClass1Cutoff (s : State) : Out :=
  .next (s.onCtl (fun t => t.class1Cut.vaultAfter))

/-- CLASS2_CUTOFF: R140. -/
def execClass2Cutoff (s : State) : Out :=
  .next (s.onCtl (fun t => t.class2Cut.vaultAfter))

/-- BUS_WARN_CROSS: R522, R140. -/
def execBusWarnCross (s : State) : Out :=
  .next (s.onCtl (fun t => t.class2Cut.vaultAfter))

/-- BUS_FAULT_CROSS: R522, R142, R158. -/
def execBusFaultCross (s : State) : Out :=
  .next (s.onCtl (fun t => t.backupNotGood.emergSeal.vaultAfter))

/-- PORT_MANIFEST_POST: R144, R194. -/
def execPortManifestPost (p : Fin 64) (s : State) : Out :=
  .next (s.onCtl (fun t => t.portManifest p))

/-- SAVE_MANIFEST_POST: R145, R196. -/
def execSaveManifestPost (s : State) : Out :=
  .next (s.onCtl (fun t => t.saveManifest))

/-- CAL_SAMPLE: R161, R471. -/
def execCalSample (readings : List (Option (Nat × Nat))) (s : State) : Out :=
  .next (s.onCtl (fun t => t.calSample readings))

/-- CAL_FILL_END: R161. -/
def execCalFillEnd (s : State) : Out :=
  .next (s.onCtl (fun t => t.calFillEnd))

/-- TEST_TRIP: R122, R40, R61, R105, R118, R119, R121, R124, R126, R157, R208, R404, R461. -/
def execTestTrip (w : Word) (also : BitVec 8) (s : State) : Out :=
  .next (s.rpWrite 0x070008 (testTrip w also))

/-- CALIBRATION_SAVE: R160, R118, R458, R459, R460, R471. -/
def execCalibrationSave (s : State) : Out :=
  .next (s.topCode cmdCal)

end Sys2Proof.Machine
end

