-- ==== Sys2Proof/Machine/CmdSequencer.lean ====
section
/-! DEFINITION. The sequencer (09). One meaning per command. -/

namespace Sys2Proof.Machine

open State

/-- RAIL_UP_TICK: R308, R301, R310. -/
def execRailUpTick (pg : BitVec 64) (win : BitVec 64) (s : State) : Out :=
  .next (s.onCtl (fun t => (t.railUp pg win).busSample win))

/-- RAIL_DOWN_TICK: R311, R20, R22, R148, R301, R314, R316, R321, R328, R495. -/
def execRailDownTick (s : State) : Out :=
  .next (s.onCtl (fun t => t.railDownTick))

/-- SLOT_QUALIFY: R305, R280, R303, R309. -/
def execSlotQualify (n : Fin 64) (s : State) : Out :=
  .next (s.onCtl (fun t => t.qualify n))

/-- CHATTER_EDGE: R305, R303. -/
def execChatterEdge (n : Fin 64) (s : State) : Out :=
  .next (s.onCtl (fun t => t.chatterEdge n))

/-- SLOT_TIMEOUT: R306, R137, R212, R314, R316, R317, R318, R328. -/
def execSlotTimeout (n : Fin 64) (s : State) : Out :=
  .next (s.onCtl (fun t => t.slotTimeoutIsl n))

/-- SLOT_GOOD_LOST: R306, R314, R316, R317, R318, R328. -/
def execSlotGoodLost (n : Fin 64) (s : State) : Out :=
  .next (s.onCtl (fun t => t.slotGoodLostIsl n))

/-- SLOT_STUCK: R312, R328. -/
def execSlotStuck (n : Fin 64) (s : State) : Out :=
  .next (s.onCtl (fun t => t.slotStuck n))

/-- REST_EXPIRY: R314, R20, R22, R307, R310, R315, R316, R318, R328. -/
def execRestExpiry (x : Option (Fin 4)) (s : State) : Out :=
  .next (s.onCtl (fun t => t.restExpiry (x.map (·.val))))

/-- VS_SCAN: R304, R280. -/
def execVsScan (codes : List (BitVec 12)) (s : State) : Out :=
  .next (s.onCtl (fun t => t.vsScan (codes.map (·.toNat))))

/-- RAIL_FAULT: R319, R137, R212, R303, R317, R328. -/
def execRailFault (n : Fin 64) (s : State) : Out :=
  .next (s.onCtl (fun t => t.railFaultSled n))

/-- RAIL_WARN: R319. -/
def execRailWarn (n : Fin 64) (s : State) : Out :=
  .next (s.onCtl (fun t => t.railWarn n))

/-- SEQFLT_LOW: R320, R265, R321, R328. -/
def execSeqfltLow (s : State) : Out :=
  .next (s.seqfltLow)

/-- SEQ_SNAP_REQUEST: R328. -/
def execSeqSnapRequest (w : Word) (s : State) : Out :=
  .next (s.rpWrite 0x040000 (seqCtrl (w ||| 0x10#32)))

/-- SVC_RETRY: R317. -/
def execSvcRetry (w : Word) (s : State) : Out :=
  .next (s.rpWrite 0x040000 (seqCtrl (w ||| 0x20#32)))

/-- MARGIN_WRITE: R325, R467, R470. -/
def execMarginWrite (n : Fin 64) (dir : BitVec 2) (target : BitVec 16) (s : State) : Out :=
  .next (s.rpWrite (0x04010C + 16 * n.val) (marginWrite n dir.toNat target.toNat))

/-- MARGIN_ACK: R326, R327. -/
def execMarginAck (n : Fin 64) (ok : Bool) (s : State) : Out :=
  .next (s.onCtl (fun t => t.marginAck n ok))

/-- WARN_MASK_END: R326, R327. -/
def execWarnMaskEnd (n : Fin 64) (s : State) : Out :=
  .next (s.onCtl (fun t => t.maskEnd n))

end Sys2Proof.Machine
end

