-- ==== Sys2Proof/Machine/CmdStaging.lean ====
section
/-! DEFINITION. Pre-staging (06). One meaning per command. -/

namespace Sys2Proof.Machine

open State

/-- CONFIRM_UNIT_WRITE: R232. -/
def execConfirmUnitWrite (s : State) : Out :=
  .next (s.onCtl (fun t => t.confirmUnitWrite))

/-- LOG_STRIPE_FILL: R224. -/
def execLogStripeFill (s : State) : Out :=
  .next (s.onCtl (fun t => t.logStripeFill))

/-- COPY_TIMEOUT: R225, R96. -/
def execCopyTimeout (p : Fin 64) (sq : BitVec 16) (s : State) : Out :=
  .next (s.onCtl (fun t => t.copyTimeout p sq.toNat))

/-- BACKOFF_END: R222. -/
def execBackoffEnd (p : Fin 64) (sq : BitVec 16) (s : State) : Out :=
  .next (s.onCtl (fun t => t.backoffEnd p sq.toNat))

/-- STAGE_HOST_WRITE: R240. -/
def execStageHostWrite (w : Word) (s : State) : Out :=
  .next (s.rpWrite 0x090010 (stageHost w))

end Sys2Proof.Machine
end

