-- ==== Sys2Proof/Machine/CmdStake.lean ====
section
/-! DEFINITION. The stake engine (02). One meaning per command. -/

namespace Sys2Proof.Machine

open State

/-- SHORTFALL_END: R67, R422. -/
def execShortfallEnd (s : State) : Out :=
  .next (s.onCtl (fun t => t.shortfallEnd))

/-- OVERSTAKE_RUN: R58. -/
def execOverstakeRun (p : Fin 64) (s : State) : Out :=
  .next (s.onCtl (fun t => t.overstakeRun p))

/-- REPORTS_MISSING: R60. -/
def execReportsMissing (p : Fin 64) (s : State) : Out :=
  .next (s.onCtl (fun t => t.reportsMissing p))

/-- PORT_RECORD_HOURLY: R422. -/
def execPortRecordHourly (s : State) : Out :=
  .next (s.onCtl (fun t => t.shortHourly))

/-- UNCOVERED_RECORD: R422. -/
def execUncoveredRecord (s : State) : Out :=
  .next (s.onCtl (fun t => t.uncovRec))

/-- MARGIN_REG_WRITE: R52. -/
def execMarginRegWrite (w : Word) (s : State) : Out :=
  .next (s.rpWrite 0x06000C (marginReg w))

/-- VIEW_HOLD_WRITE: R479. -/
def execViewHoldWrite (w : Word) (s : State) : Out :=
  .next (s.rpWrite 0x060000 (fun t => t.viewHold t.stkNow w))

end Sys2Proof.Machine
end

