-- ==== Sys2Proof/Machine/CmdStrings.lean ====
section
/-! DEFINITION. The hold-up strings (08). One meaning per command. -/

namespace Sys2Proof.Machine

open State

/-- SAMPLE_STROBE: R269, R268, R271, R273, R274, R275, R276, R277, R285, R286, R296, R298, R504. -/
def execSampleStrobe (volts : List (Int × Int × Int)) (s : State) : Out :=
  .next (s.onCtl (fun t => t.sampleStrobe volts))

/-- CURRENT_WAKE: R270. -/
def execCurrentWake (k : Fin 16) (s : State) : Out :=
  .next (s.onCtl (fun t => t.currentWake k))

/-- QUIET_RATE_ENTRY: R270. -/
def execQuietRateEntry (k : Fin 16) (s : State) : Out :=
  .next (s.onCtl (fun t => t.quietEntry k))

/-- INSERTION: R283, R272, R298. -/
def execInsertion (k : Fin 16) (s : State) : Out :=
  .next (s.onCtl (fun t => t.insertion k))

/-- REMOVAL: R272, R282, R298. -/
def execRemoval (k : Fin 16) (s : State) : Out :=
  .next (s.onCtl (fun t => t.removal k))

/-- SENSE_FAULT: R273, R282, R298. -/
def execSenseFault (k : Fin 16) (s : State) : Out :=
  .next (s.onCtl (fun t => t.senseFault k))

/-- FULL_ANCHOR: R274, R277, R280, R298. -/
def execFullAnchor (k : Fin 16) (s : State) : Out :=
  .next (s.onCtl (fun t => t.fullAnchor k))

/-- EMPTY_ANCHOR: R275, R277, R278, R280, R298. -/
def execEmptyAnchor (k : Fin 16) (s : State) : Out :=
  .next (s.onCtl (fun t => t.emptyAnchor k))

/-- CAND_ACCEPT: R279. -/
def execCandAccept (k : Fin 16) (s : State) : Out :=
  .next (s.rpWrite 0x050028 (candWrite k true))

/-- CAND_REJECT: R279. -/
def execCandReject (k : Fin 16) (s : State) : Out :=
  .next (s.rpWrite 0x050028 (candWrite k false))

/-- LEARN_START: R281, R280. -/
def execLearnStart (k : Fin 16) (s : State) : Out :=
  .next (s.rpWrite 0x050024 (nrgLearn (word [(0, 4, k.val), bf 4 true])))

/-- LEARN_ABORT: R282. -/
def execLearnAbort (k : Fin 16) (s : State) : Out :=
  .next (s.rpWrite 0x050024 (nrgLearn (word [(0, 4, k.val), bf 5 true])))

/-- LEARN_TIMEOUT: R282. -/
def execLearnTimeout (s : State) : Out :=
  .next (s.onCtl (fun t => t.learnTimeout))

/-- NRG_LATCH: R291. -/
def execNrgLatch (w : Word) (s : State) : Out :=
  .next (s.rpWrite 0x050000 (nrgCtrl (w ||| 1#32)))

/-- ESTIMATOR_RESTORE: R293, R292, R295, R458, R459, R460. -/
def execEstimatorRestore (s : State) : Out :=
  .next (s.topCode cmdRestore)

end Sys2Proof.Machine
end

