-- ==== Sys2Proof/Machine/Pinout.lean ====
section
/-! DEFINITION. What the controller's output pins do (Table 17-8, R489) and the boundary register of the TAP (R516). -/

namespace Sys2Proof.Machine

/-- The output pins, and the pin groups whose levels a protocol gives, in the order the model lists their boundary cells (DESIGN CHOICE, log entry 145). -/
def allPins : List OutPin :=
  (List.range 64).map .en ++ [.swoMain, .swoBkp] ++ (List.range 8).map .frz ++ [.seqflt, .token, .hbOut, .irq, .rpRdy, .rpErr, .rpBusy]
    ++ (List.range 4).map .sledRtr ++ (List.range 64).map .hclTx ++ [.plTx] ++ (List.range 4).map .fpTx ++ (List.range 32).map .nv
    ++ (List.range 2).map .nor ++ [.pmbt, .pmbc]

namespace State

/-- The flash islands are powered in the state (Table 01-3): SLED_RTR_N is driven there (R489; DEDUCED, log entry 229). -/
def rtrOn (s : State) : Bool := s.ctlOn && s.inState [.rise, .ready, .ride, .save, .ret, .service, .fall]

/-- What a pin does by its function. A non-AON output is at high impedance, a transmitter in electrical idle, while its owning island is quiescent or its
bank's supply not good; AON pins keep what AON holds (R489, R301, R331, R165, R164, R302, R454). -/
def pinFn (s : State) : OutPin → Drive
  | .en n => if s.top.state = .off || s.aon.rel.getLsbD n then .hiZ else if s.aon.en.getLsbD n then .high else .low
  | .swoMain => if s.top.state = .off then .hiZ else if s.top.swoMain then .low else .high
  | .swoBkp => if s.top.state = .off then .hiZ else if s.top.swoBkp then .low else .high
  | .frz g => if s.top.state ≠ .off && s.top.frz.getLsbD g then .low else .hiZ
  | .seqflt => if s.top.state ≠ .off && s.seq.drv then .low else .hiZ
  | .token => if s.top.state ≠ .off && s.pair.drv then .low else .hiZ
  | .hbOut => if s.top.state = .off then .hiZ else if s.ctlOn && s.pair.hbOut then .active else .held
  | .irq => if s.irqLow then .low else .hiZ
  | .rpRdy => if s.ctlOn then .active else .hiZ
  | .rpErr => if s.ctlOn then (if s.rp.err then .high else .low) else .hiZ
  | .rpBusy => if s.ctlOn then (if s.busy then .high else .low) else .hiZ
  | .sledRtr x => if s.rtrOn then (if (s.sled x).pull then .low else .high) else .hiZ
  | .hclTx p => if s.portOn (p / 8) then .active else .idle
  | .plTx => if s.fabRuns then .active else .idle
  | .fpTx i => if s.fabRuns && s.fabOn i then .active else .idle
  | .nv r => if s.flashRuns (r / 8) && s.pair.drv then .active else .hiZ
  | .nor _ => if s.ctlOn then .active else .hiZ
  | .pmbt => if s.ctlOn then .active else .hiZ
  | .pmbc => if s.ctlOn && s.pmbRuns then .active else .hiZ

/-- What a pin does: its function, or its boundary cell while an instruction gives the cells the pins (R516). -/
def pinOut (s : State) (o : OutPin) : Drive := if s.tapOwnsPins then s.cellDrive o else s.pinFn o

/-- The update latches of the boundary register hold what the tester shifts in, which no command carries: free values, one for each cell. -/
def cellsDrawn (s : State) : State :=
  { s with clk := { s.clk with free := s.clk.free + 256 }, pins := { s.pins with cells := some s.clk.free } }

/-- A JTAG instruction takes force; BYPASS selects a 1-bit register of 0 and IDCODE the identification register. SAMPLE/PRELOAD captures what the pins do
and preloads the cells; an instruction that gives them the pins before any preload finds them as they happen to stand (R516). -/
def tapIr (i : TapIr) (s : State) : State :=
  let s1 := s.mdPins (fun p => { p with
    tap := i
    tapDr := match i with | .idcode => 0x16432FFF#32 | .reset => 0x16432FFF#32 | .bypass => 0 | .clamp => 0 | .highz => 0 | _ => p.tapDr })
  if i = .samplePreload then (s1.mdPins (fun p => { p with captured := allPins.map s1.pinOut })).cellsDrawn
  else if s1.tapOwnsPins && s1.pins.cells.isNone then s1.cellsDrawn else s1

end State
end Sys2Proof.Machine
end

