-- ==== Sys2Proof/Machine/CmdTap.lean ====
section
/-! DEFINITION. The test access port (17). One meaning per command. -/

namespace Sys2Proof.Machine

open State

/-- TAP_RESET: R516. -/
def execTapReset (s : State) : Out :=
  .next (s.tapIr .reset)

/-- BYPASS: R516. -/
def execBypass (s : State) : Out :=
  .next (s.tapIr .bypass)

/-- IDCODE: R516. -/
def execIdcode (s : State) : Out :=
  .next (s.tapIr .idcode)

/-- SAMPLE_PRELOAD: R516. -/
def execSamplePreload (s : State) : Out :=
  .next (s.tapIr .samplePreload)

/-- EXTEST: R516. -/
def execExtest (s : State) : Out :=
  .next (s.tapIr .extest)

/-- CLAMP: R516. -/
def execClamp (s : State) : Out :=
  .next (s.tapIr .clamp)

/-- HIGHZ: R516. -/
def execHighz (s : State) : Out :=
  .next (s.tapIr .highz)

/-- EXTEST_PULSE: R516. -/
def execExtestPulse (s : State) : Out :=
  .next (s.tapIr .extestPulse)

/-- EXTEST_TRAIN: R516. -/
def execExtestTrain (s : State) : Out :=
  .next (s.tapIr .extestTrain)

end Sys2Proof.Machine
end

