-- ==== Sys2Proof/Machine/CmdVault.lean ====
section
/-! DEFINITION. The vault (05). One meaning per command. -/

namespace Sys2Proof.Machine

open State

/-- DESCRIPTOR_COMPLETE: R136, R20, R23, R25, R40, R41, R63, R67, R133, R135, R139, R143, R144, R145, R146, R155, R162, R170, R174,
R177, R178, R180, R185, R188, R190, R191, R192, R197, R198, R204, R205, R207, R209, R213, R214, R215, R216, R224, R229, R235, R238,
R253, R256, R257, R324, R414, R421, R471. -/
def execDescriptorComplete (ring : Fin 32) (slot : BitVec 8) (res : BitVec 8) (corr : BitVec 8) (retries : BitVec 8) (us : BitVec 16) (bad : BitVec 8) (crc : BitVec 8) (s : State) : Out :=
  .next (s.onCtl (fun t => (t.descComplete ring slot.toNat res.toNat corr.toNat retries.toNat us.toNat bad.toNat crc.toNat).sealResets))

/-- SLED_REMOVED: R212, R137, R158, R184, R186, R211, R265, R313. -/
def execSledRemoved (x : Fin 4) (gone : Bool) (s : State) : Out :=
  .next (((s.sledRemoved x gone).sealResets).noSledLeft)

/-- SLED_PRESENT: R313, R307, R318. -/
def execSledPresent (x : Fin 4) (dev : SledDev) (s : State) : Out :=
  .next (s.sledPresent x dev)

/-- FLASH_ISLAND_UP: R217, R167, R187. -/
def execFlashIslandUp (x : Fin 4) (s : State) : Out :=
  .next (s.onCtl (fun t => t.flashUp x))

/-- VAULT_FOUNDING: R187. -/
def execVaultFounding (s : State) : Out :=
  .next (s.onCtl (fun t => t.vaultFounding))

/-- BLOCK_MAP_DONE: R217, R188, R190, R234. -/
def execBlockMapDone (x : Fin 4) (s : State) : Out :=
  .next (s.onCtl (fun t => t.blockMapDone x))

/-- LOG_SCAN_DONE: R234, R218, R229. -/
def execLogScanDone (x : Fin 4) (s : State) : Out :=
  .next (s.onCtl (fun t => t.logScanDone x))

/-- ERASE_COUNT_WRITE: R185. -/
def execEraseCountWrite (s : State) : Out :=
  .next (s.onCtl (fun t => t.eraseCountWrite))

/-- INDEX_FLUSH: R193. -/
def execIndexFlush (s : State) : Out :=
  .next (s.onCtl (fun t => t.indexFlush))

/-- MATERIALISE: R236. -/
def execMaterialise (s : State) : Out :=
  .next (s.onCtl (fun t => t.materialise))

/-- DRAIN_SWITCH_OUT: R69, R184, R186, R210. -/
def execDrainSwitchOut (s : State) : Out :=
  .next (s.onCtl (fun t => t.drainSwitch))

/-- DRAIN_PULL_READY: R210, R165, R313. -/
def execDrainPullReady (s : State) : Out :=
  .next (s.onCtl (fun t => t.drainPull))

/-- VERIFY: R207, R206, R458, R459, R460. -/
def execVerify (s : State) : Out :=
  .next (s.topCode cmdVerify)

/-- DRAIN: R210, R68, R206, R458, R459, R460. -/
def execDrain (s : State) : Out :=
  .next (s.topCode cmdDrain)

/-- REBUILD: R213, R206, R458, R459, R460. -/
def execRebuild (s : State) : Out :=
  .next (s.topCode cmdRebuild)

/-- EXPORT: R215, R206, R265, R458, R459, R460. -/
def execVaultExport (s : State) : Out :=
  .next (s.topCode cmdVaultExport)

/-- KEY_ERASE: R216, R201, R202, R206, R458, R459, R460. -/
def execKeyErase (s : State) : Out :=
  .next (s.topCode cmdKeyErase)

/-- FORMAT: R214, R183, R184, R186, R201, R202, R206, R458, R459, R460. -/
def execFormat (s : State) : Out :=
  .next (s.topCode cmdFormat)

end Sys2Proof.Machine
end

