-- ==== Sys2Proof/Machine/Dispatch.lean ====
section
/-! DEFINITION. Which meaning each command has. -/

namespace Sys2Proof.Machine

def exec (i : Instr) (s : State) : Host.Outcome State Fault Refusal :=
  match i with
  | .vaonRise b => Sys2Proof.Machine.execVaonRise b s
  | .vaonALoss => Sys2Proof.Machine.execVaonALoss s
  | .vaonAReturn => Sys2Proof.Machine.execVaonAReturn s
  | .vaonBothLost => Sys2Proof.Machine.execVaonBothLost s
  | .pfiBusGood => Sys2Proof.Machine.execPfiBusGood s
  | .busGood100ms => Sys2Proof.Machine.execBusGood100ms s
  | .mainGood10ms => Sys2Proof.Machine.execMainGood10ms s
  | .pfiBusSag also => Sys2Proof.Machine.execPfiBusSag also s
  | .backupNotGood => Sys2Proof.Machine.execBackupNotGood s
  | .holdReq also => Sys2Proof.Machine.execHoldReq also s
  | .acgLoss n also => Sys2Proof.Machine.execAcgLoss n also s
  | .rideExit => Sys2Proof.Machine.execRideExit s
  | .turnBoundary inp => Sys2Proof.Machine.execTurnBoundary inp s
  | .shortfallEnd => Sys2Proof.Machine.execShortfallEnd s
  | .overstakeRun p => Sys2Proof.Machine.execOverstakeRun p s
  | .reportsMissing p => Sys2Proof.Machine.execReportsMissing p s
  | .drainSwitchOut => Sys2Proof.Machine.execDrainSwitchOut s
  | .grantExpiry => Sys2Proof.Machine.execGrantExpiry s
  | .portRecordHourly => Sys2Proof.Machine.execPortRecordHourly s
  | .uncoveredRecord => Sys2Proof.Machine.execUncoveredRecord s
  | .signalDetect p => Sys2Proof.Machine.execSignalDetect p s
  | .blockLock p lanes => Sys2Proof.Machine.execBlockLock p lanes s
  | .train1 p lane laneNo coef sq => Sys2Proof.Machine.execTrain1 p lane laneNo coef sq s
  | .train2 p width => Sys2Proof.Machine.execTrain2 p width s
  | .trainingTimeout p => Sys2Proof.Machine.execTrainingTimeout p s
  | .failedRetry p => Sys2Proof.Machine.execFailedRetry p s
  | .laneLockLost p lane => Sys2Proof.Machine.execLaneLockLost p lane s
  | .quiet p => Sys2Proof.Machine.execQuiet p s
  | .recoverTimeout p => Sys2Proof.Machine.execRecoverTimeout p s
  | .ack link h => Sys2Proof.Machine.execAck link h s
  | .nak link why => Sys2Proof.Machine.execNak link why s
  | .replayTimeout link => Sys2Proof.Machine.execReplayTimeout link s
  | .ident p h m => Sys2Proof.Machine.execIdent p h m s
  | .report p h m late => Sys2Proof.Machine.execReport p h m late s
  | .map p h tag first words => Sys2Proof.Machine.execMap p h tag first words s
  | .data p h tag sq chunk gen st data trayErr => Sys2Proof.Machine.execData p h tag sq chunk gen st data trayErr s
  | .confirmAck p h turn acc => Sys2Proof.Machine.execConfirmAck p h turn acc s
  | .revertAck p h count ovf => Sys2Proof.Machine.execRevertAck p h count ovf s
  | .hclError p h code => Sys2Proof.Machine.execHclError p h code s
  | .check p h serial codes => Sys2Proof.Machine.execCheck p h serial codes s
  | .frozen p h m => Sys2Proof.Machine.execFrozen p h m s
  | .wack p h sq chunk tag status => Sys2Proof.Machine.execWack p h sq chunk tag status s
  | .wackTimeout p sq chunk => Sys2Proof.Machine.execWackTimeout p sq chunk s
  | .releaseAck p h => Sys2Proof.Machine.execReleaseAck p h s
  | .releaseTimeout p => Sys2Proof.Machine.execReleaseTimeout p s
  | .freezeWindowClose => Sys2Proof.Machine.execFreezeWindowClose s
  | .waveOpen k => Sys2Proof.Machine.execWaveOpen k s
  | .descriptorComplete ring slot res corr retries us bad crc => Sys2Proof.Machine.execDescriptorComplete ring slot res corr retries us bad crc s
  | .class1StripeFill => Sys2Proof.Machine.execClass1StripeFill s
  | .moveLinkTimeout p => Sys2Proof.Machine.execMoveLinkTimeout p s
  | .class1Cutoff => Sys2Proof.Machine.execClass1Cutoff s
  | .class2Cutoff => Sys2Proof.Machine.execClass2Cutoff s
  | .busWarnCross => Sys2Proof.Machine.execBusWarnCross s
  | .busFaultCross => Sys2Proof.Machine.execBusFaultCross s
  | .portManifestPost p => Sys2Proof.Machine.execPortManifestPost p s
  | .saveManifestPost => Sys2Proof.Machine.execSaveManifestPost s
  | .calSample readings => Sys2Proof.Machine.execCalSample readings s
  | .calFillEnd => Sys2Proof.Machine.execCalFillEnd s
  | .sledRemoved x gone => Sys2Proof.Machine.execSledRemoved x gone s
  | .sledPresent x dev => Sys2Proof.Machine.execSledPresent x dev s
  | .flashIslandUp x => Sys2Proof.Machine.execFlashIslandUp x s
  | .vaultFounding => Sys2Proof.Machine.execVaultFounding s
  | .blockMapDone x => Sys2Proof.Machine.execBlockMapDone x s
  | .logScanDone x => Sys2Proof.Machine.execLogScanDone x s
  | .eraseCountWrite => Sys2Proof.Machine.execEraseCountWrite s
  | .indexFlush => Sys2Proof.Machine.execIndexFlush s
  | .confirmUnitWrite => Sys2Proof.Machine.execConfirmUnitWrite s
  | .logStripeFill => Sys2Proof.Machine.execLogStripeFill s
  | .copyTimeout p sq => Sys2Proof.Machine.execCopyTimeout p sq s
  | .backoffEnd p sq => Sys2Proof.Machine.execBackoffEnd p sq s
  | .materialise => Sys2Proof.Machine.execMaterialise s
  | .drainPullReady => Sys2Proof.Machine.execDrainPullReady s
  | .verify => Sys2Proof.Machine.execVerify s
  | .drain => Sys2Proof.Machine.execDrain s
  | .rebuild => Sys2Proof.Machine.execRebuild s
  | .vaultExport => Sys2Proof.Machine.execVaultExport s
  | .keyErase => Sys2Proof.Machine.execKeyErase s
  | .format => Sys2Proof.Machine.execFormat s
  | .restoreStart => Sys2Proof.Machine.execRestoreStart s
  | .retWaitExpiry => Sys2Proof.Machine.execRetWaitExpiry s
  | .retDiscard p => Sys2Proof.Machine.execRetDiscard p s
  | .retReassign p src => Sys2Proof.Machine.execRetReassign p src s
  | .retLeavePending p => Sys2Proof.Machine.execRetLeavePending p s
  | .retAcceptLoss p => Sys2Proof.Machine.execRetAcceptLoss p s
  | .retDecideAgain p => Sys2Proof.Machine.execRetDecideAgain p s
  | .retConcWrite w => Sys2Proof.Machine.execRetConcWrite w s
  | .tableStaggerExpiry => Sys2Proof.Machine.execTableStaggerExpiry s
  | .sampleStrobe volts => Sys2Proof.Machine.execSampleStrobe volts s
  | .currentWake k => Sys2Proof.Machine.execCurrentWake k s
  | .quietRateEntry k => Sys2Proof.Machine.execQuietRateEntry k s
  | .insertion k => Sys2Proof.Machine.execInsertion k s
  | .removal k => Sys2Proof.Machine.execRemoval k s
  | .senseFault k => Sys2Proof.Machine.execSenseFault k s
  | .fullAnchor k => Sys2Proof.Machine.execFullAnchor k s
  | .emptyAnchor k => Sys2Proof.Machine.execEmptyAnchor k s
  | .candAccept k => Sys2Proof.Machine.execCandAccept k s
  | .candReject k => Sys2Proof.Machine.execCandReject k s
  | .learnStart k => Sys2Proof.Machine.execLearnStart k s
  | .learnAbort k => Sys2Proof.Machine.execLearnAbort k s
  | .learnTimeout => Sys2Proof.Machine.execLearnTimeout s
  | .nrgLatch w => Sys2Proof.Machine.execNrgLatch w s
  | .estimatorRestore => Sys2Proof.Machine.execEstimatorRestore s
  | .railUpTick pg win => Sys2Proof.Machine.execRailUpTick pg win s
  | .railDownTick => Sys2Proof.Machine.execRailDownTick s
  | .slotQualify n => Sys2Proof.Machine.execSlotQualify n s
  | .chatterEdge n => Sys2Proof.Machine.execChatterEdge n s
  | .slotTimeout n => Sys2Proof.Machine.execSlotTimeout n s
  | .restExpiry x => Sys2Proof.Machine.execRestExpiry x s
  | .vsScan codes => Sys2Proof.Machine.execVsScan codes s
  | .slotStuck n => Sys2Proof.Machine.execSlotStuck n s
  | .railFault n => Sys2Proof.Machine.execRailFault n s
  | .railWarn n => Sys2Proof.Machine.execRailWarn n s
  | .seqfltLow => Sys2Proof.Machine.execSeqfltLow s
  | .seqSnapRequest w => Sys2Proof.Machine.execSeqSnapRequest w s
  | .svcRetry w => Sys2Proof.Machine.execSvcRetry w s
  | .marginWrite n dir target => Sys2Proof.Machine.execMarginWrite n dir target s
  | .marginAck n ok => Sys2Proof.Machine.execMarginAck n ok s
  | .warnMaskEnd n => Sys2Proof.Machine.execWarnMaskEnd n s
  | .pbPress len => Sys2Proof.Machine.execPbPress len s
  | .pbHold3s => Sys2Proof.Machine.execPbHold3s s
  | .pbHoldForce len => Sys2Proof.Machine.execPbHoldForce len s
  | .mrN => Sys2Proof.Machine.execMrN s
  | .refclkStop => Sys2Proof.Machine.execRefclkStop s
  | .refclkAbsent10us => Sys2Proof.Machine.execRefclkAbsent10us s
  | .pllUnlock pll => Sys2Proof.Machine.execPllUnlock pll s
  | .crystalLoss => Sys2Proof.Machine.execCrystalLoss s
  | .railNotGood k => Sys2Proof.Machine.execRailNotGood k s
  | .keeperHbStop => Sys2Proof.Machine.execKeeperHbStop s
  | .keeperTokenRelease => Sys2Proof.Machine.execKeeperTokenRelease s
  | .partnerLoss => Sys2Proof.Machine.execPartnerLoss s
  | .lossSampleEnd low => Sys2Proof.Machine.execLossSampleEnd low s
  | .claimHoldoffEnd => Sys2Proof.Machine.execClaimHoldoffEnd s
  | .tokenClaim frzLow sleds => Sys2Proof.Machine.execTokenClaim frzLow sleds s
  | .ringSettleEnd => Sys2Proof.Machine.execRingSettleEnd s
  | .alive h => Sys2Proof.Machine.execAlive h s
  | .aliveSend => Sys2Proof.Machine.execAliveSend s
  | .frame h whole f => Sys2Proof.Machine.execFrame h whole f s
  | .frameAck h fseq => Sys2Proof.Machine.execFrameAck h fseq s
  | .join h id => Sys2Proof.Machine.execJoin h id s
  | .yield h => Sys2Proof.Machine.execYield h s
  | .handoverFinalFrame => Sys2Proof.Machine.execHandoverFinalFrame s
  | .takeReady h fseq => Sys2Proof.Machine.execTakeReady h fseq s
  | .takeReadyTimeout => Sys2Proof.Machine.execTakeReadyTimeout s
  | .kxApprove w => Sys2Proof.Machine.execKxApprove w s
  | .kxOffer h key pub sig => Sys2Proof.Machine.execKxOffer h key pub sig s
  | .kxReply h key pub sig => Sys2Proof.Machine.execKxReply h key pub sig s
  | .kxKeys h text => Sys2Proof.Machine.execKxKeys h text s
  | .kxWraps h wraps => Sys2Proof.Machine.execKxWraps h wraps s
  | .swapDrill => Sys2Proof.Machine.execSwapDrill s
  | .drillDwellEnd => Sys2Proof.Machine.execDrillDwellEnd s
  | .secondTick => Sys2Proof.Machine.execSecondTick s
  | .fabricHello idx h addr cost seen => Sys2Proof.Machine.execFabricHello idx h addr cost seen s
  | .helloSend => Sys2Proof.Machine.execHelloSend s
  | .fabricPortSilent idx => Sys2Proof.Machine.execFabricPortSilent idx s
  | .fabricTrainRetry idx => Sys2Proof.Machine.execFabricTrainRetry idx s
  | .fabricForward idx h m => Sys2Proof.Machine.execFabricForward idx h m s
  | .addressDiscover => Sys2Proof.Machine.execAddressDiscover s
  | .lsa idx h m => Sys2Proof.Machine.execLsa idx h m s
  | .lsaOriginate => Sys2Proof.Machine.execLsaOriginate s
  | .lsaExpiry a => Sys2Proof.Machine.execLsaExpiry a s
  | .routeCompute => Sys2Proof.Machine.execRouteCompute s
  | .tsyncTimer => Sys2Proof.Machine.execTsyncTimer s
  | .tsyncReq idx h => Sys2Proof.Machine.execTsyncReq idx h s
  | .tsyncRsp idx h t2 t3 hops psync pdisc replayed => Sys2Proof.Machine.execTsyncRsp idx h t2 t3 hops psync pdisc replayed s
  | .ppsEdge => Sys2Proof.Machine.execPpsEdge s
  | .roundStart k => Sys2Proof.Machine.execRoundStart k s
  | .tableReport idx h m => Sys2Proof.Machine.execTableReport idx h m s
  | .coordinate => Sys2Proof.Machine.execCoordinate s
  | .grant idx h g => Sys2Proof.Machine.execGrant idx h g s
  | .telemetryRequest dst => Sys2Proof.Machine.execTelemetryRequest dst s
  | .ledgerReadRequest dst => Sys2Proof.Machine.execLedgerReadRequest dst s
  | .telReq idx h src => Sys2Proof.Machine.execTelReq idx h src s
  | .lreadReq idx h src ofs len => Sys2Proof.Machine.execLreadReq idx h src ofs len s
  | .telRsp idx h src block => Sys2Proof.Machine.execTelRsp idx h src block s
  | .lreadRsp idx h src status words => Sys2Proof.Machine.execLreadRsp idx h src status words s
  | .fabricError idx h src code => Sys2Proof.Machine.execFabricError idx h src code s
  | .requestTimeout => Sys2Proof.Machine.execRequestTimeout s
  | .faultRegistration src of => Sys2Proof.Machine.execFaultRegistration src of s
  | .pairBroken idx => Sys2Proof.Machine.execPairBroken idx s
  | .islandTimeout src => Sys2Proof.Machine.execIslandTimeout src s
  | .resetRelease b => Sys2Proof.Machine.execResetRelease b s
  | .resetEnd b => Sys2Proof.Machine.execResetEnd b s
  | .shadowClose k => Sys2Proof.Machine.execShadowClose k s
  | .classClear c => Sys2Proof.Machine.execClassClear c s
  | .clrFirst w => Sys2Proof.Machine.execClrFirst w s
  | .unlatchClass c => Sys2Proof.Machine.execUnlatchClass c s
  | .forceWrite idx w => Sys2Proof.Machine.execForceWrite idx w s
  | .forcePbWrite idx w => Sys2Proof.Machine.execForcePbWrite idx w s
  | .isoClear hi w => Sys2Proof.Machine.execIsoClear hi w s
  | .epochClose => Sys2Proof.Machine.execEpochClose s
  | .epochCloseDeferred => Sys2Proof.Machine.execEpochCloseDeferred s
  | .histogramTick => Sys2Proof.Machine.execHistogramTick s
  | .ledgerRecordWrite => Sys2Proof.Machine.execLedgerRecordWrite s
  | .norOpComplete dev res => Sys2Proof.Machine.execNorOpComplete dev res s
  | .norProbe dev sfdp content => Sys2Proof.Machine.execNorProbe dev sfdp content s
  | .resilverDone => Sys2Proof.Machine.execResilverDone s
  | .ledgerScanDone => Sys2Proof.Machine.execLedgerScanDone s
  | .wallCommit hi => Sys2Proof.Machine.execWallCommit hi s
  | .epochNow w => Sys2Proof.Machine.execEpochNow w s
  | .ledgerExport => Sys2Proof.Machine.execLedgerExport s
  | .exportRelease => Sys2Proof.Machine.execExportRelease s
  | .exportHoldTimeout => Sys2Proof.Machine.execExportHoldTimeout s
  | .evqPop => Sys2Proof.Machine.execEvqPop s
  | .evqRead => Sys2Proof.Machine.execEvqRead s
  | .ledgerWindowRead ofs => Sys2Proof.Machine.execLedgerWindowRead ofs s
  | .bimgSelect => Sys2Proof.Machine.execBimgSelect s
  | .bimgRescan w => Sys2Proof.Machine.execBimgRescan w s
  | .slotWrite => Sys2Proof.Machine.execSlotWrite s
  | .tuningReload => Sys2Proof.Machine.execTuningReload s
  | .counterAdvance => Sys2Proof.Machine.execCounterAdvance s
  | .keyFuse => Sys2Proof.Machine.execKeyFuse s
  | .calibrationSave => Sys2Proof.Machine.execCalibrationSave s
  | .hostShutdown => Sys2Proof.Machine.execHostShutdown s
  | .unlatch => Sys2Proof.Machine.execUnlatch s
  | .leaveService => Sys2Proof.Machine.execLeaveService s
  | .cmdInvalid w => Sys2Proof.Machine.execCmdInvalid w s
  | .abort => Sys2Proof.Machine.execAbort s
  | .testTrip w also => Sys2Proof.Machine.execTestTrip w also s
  | .portDisable p => Sys2Proof.Machine.execPortDisable p s
  | .portEnable p => Sys2Proof.Machine.execPortEnable p s
  | .portRetrain p => Sys2Proof.Machine.execPortRetrain p s
  | .marginRegWrite w => Sys2Proof.Machine.execMarginRegWrite w s
  | .viewHoldWrite w => Sys2Proof.Machine.execViewHoldWrite w s
  | .stageHostWrite w => Sys2Proof.Machine.execStageHostWrite w s
  | .topStampRead => Sys2Proof.Machine.execTopStampRead s
  | .causeRecordRead last => Sys2Proof.Machine.execCauseRecordRead last s
  | .wallLoRead => Sys2Proof.Machine.execWallLoRead s
  | .timeLoRead => Sys2Proof.Machine.execTimeLoRead s
  | .descRead ring => Sys2Proof.Machine.execDescRead ring s
  | .strLoRead k which => Sys2Proof.Machine.execStrLoRead k which s
  | .registerWrite a w => Sys2Proof.Machine.execRegisterWrite a w s
  | .clearFaults pecOk => Sys2Proof.Machine.execClearFaults pecOk s
  | .capability => Sys2Proof.Machine.execCapability s
  | .statusByte => Sys2Proof.Machine.execStatusByte s
  | .statusWord => Sys2Proof.Machine.execStatusWord s
  | .statusCml => Sys2Proof.Machine.execStatusCml s
  | .statusMfrSpecific => Sys2Proof.Machine.execStatusMfrSpecific s
  | .readTemperature1 => Sys2Proof.Machine.execReadTemperature1 s
  | .pmbusRevision => Sys2Proof.Machine.execPmbusRevision s
  | .mfrId => Sys2Proof.Machine.execMfrId s
  | .mfrModel => Sys2Proof.Machine.execMfrModel s
  | .mfrRevision => Sys2Proof.Machine.execMfrRevision s
  | .mfrSerial => Sys2Proof.Machine.execMfrSerial s
  | .mfrHzState => Sys2Proof.Machine.execMfrHzState s
  | .mfrHzSave => Sys2Proof.Machine.execMfrHzSave s
  | .mfrHzStake => Sys2Proof.Machine.execMfrHzStake s
  | .mfrHzEnergy => Sys2Proof.Machine.execMfrHzEnergy s
  | .mfrHzVault => Sys2Proof.Machine.execMfrHzVault s
  | .mfrHzFault => Sys2Proof.Machine.execMfrHzFault s
  | .mfrHzRegAddr pecOk bytes => Sys2Proof.Machine.execMfrHzRegAddr pecOk bytes s
  | .mfrHzReg => Sys2Proof.Machine.execMfrHzReg s
  | .pmbusInvalidCommand => Sys2Proof.Machine.execPmbusInvalidCommand s
  | .pmbusSclTimeout => Sys2Proof.Machine.execPmbusSclTimeout s
  | .pmbPoll d rdg => Sys2Proof.Machine.execPmbPoll d rdg s
  | .tapReset => Sys2Proof.Machine.execTapReset s
  | .bypass => Sys2Proof.Machine.execBypass s
  | .idcode => Sys2Proof.Machine.execIdcode s
  | .samplePreload => Sys2Proof.Machine.execSamplePreload s
  | .extest => Sys2Proof.Machine.execExtest s
  | .clamp => Sys2Proof.Machine.execClamp s
  | .highz => Sys2Proof.Machine.execHighz s
  | .extestPulse => Sys2Proof.Machine.execExtestPulse s
  | .extestTrain => Sys2Proof.Machine.execExtestTrain s
  | .refclkReturn => Sys2Proof.Machine.execRefclkReturn s
  | .mrNRelease => Sys2Proof.Machine.execMrNRelease s
  | .pllRelock idx => Sys2Proof.Machine.execPllRelock idx s
  | .crystalReturn => Sys2Proof.Machine.execCrystalReturn s
  | .supplyRailGood k => Sys2Proof.Machine.execSupplyRailGood k s
  | .vaonBCrossing up => Sys2Proof.Machine.execVaonBCrossing up s
  | .sourceCeasesLive src sub => Sys2Proof.Machine.execSourceCeasesLive src sub s
  | .registerReadError a => Sys2Proof.Machine.execRegisterReadError a s
  | .fabricTrained idx => Sys2Proof.Machine.execFabricTrained idx s
  | .fabricLockLost idx => Sys2Proof.Machine.execFabricLockLost idx s
  | .fabricTrainingFail idx => Sys2Proof.Machine.execFabricTrainingFail idx s
  | .ppsEdgeMissed => Sys2Proof.Machine.execPpsEdgeMissed s
  | .hbInEdge => Sys2Proof.Machine.execHbInEdge s
  | .partnerChannelSilent hb => Sys2Proof.Machine.execPartnerChannelSilent hb s
  | .slotGoodLost n => Sys2Proof.Machine.execSlotGoodLost n s

end Sys2Proof.Machine
end

