-- ==== Sys2Proof/Safety.lean ====
section
/-! DEFINITION. What the statements are made of: a command that completes with an effect, the register port in service, the invariant of
the non-volatile memories and fuses, what no step may undo, and the fields each command may change. -/

namespace Sys2Proof.Machine

/-- Command `c` at `s` answers a next state, of which `P` holds. -/
def Does (c : Instr) (s : State) (P : State → Prop) : Prop := ∃ t, exec c s = .next t ∧ P t

/-- Command `c` at `s` answers a next state: what the vault, the mover and the jobs make, once their conditions hold, of a state of which `P` holds. -/
def DoesThenVault (c : Instr) (s : State) (P : State → Prop) : Prop := ∃ u : State, exec c s = .next u.vaultAfter ∧ P u

/-- The fields of State, as names. -/
inductive Part where
  | clk | pins | aon | nor | fuseCnt | keyBanks | epochRan | top | evt | ctrl | busyIrq | cmd | rp | flt
  | ledg | bimg | seq | nrg | links | stake | vault | stage | save | ret | fab | pair | pending
  deriving DecidableEq, Repr

/-- A field reads the same in both states. -/
def Part.same (s t : State) : Part → Prop
  | .clk => t.clk = s.clk
  | .pins => t.pins = s.pins
  | .aon => t.aon = s.aon
  | .nor => t.nor = s.nor
  | .fuseCnt => t.fuseCnt = s.fuseCnt
  | .keyBanks => t.keyBanks = s.keyBanks
  | .epochRan => t.epochRan = s.epochRan
  | .top => t.top = s.top
  | .evt => t.evt = s.evt
  | .ctrl => t.ctrl = s.ctrl
  | .busyIrq => t.busyIrq = s.busyIrq
  | .cmd => t.cmd = s.cmd
  | .rp => t.rp = s.rp
  | .flt => t.flt = s.flt
  | .ledg => t.ledg = s.ledg
  | .bimg => t.bimg = s.bimg
  | .seq => t.seq = s.seq
  | .nrg => t.nrg = s.nrg
  | .links => t.links = s.links
  | .stake => t.stake = s.stake
  | .vault => t.vault = s.vault
  | .stage => t.stage = s.stage
  | .save => t.save = s.save
  | .ret => t.ret = s.ret
  | .fab => t.fab = s.fab
  | .pair => t.pair = s.pair
  | .pending => t.pending = s.pending

/-- No field of State but those listed differs: what a command leaves unchanged. -/
def SameBut (ps : List Part) (s t : State) : Prop := ∀ x : Part, x ∉ ps → x.same s t

/-- Command `c` at `s` answers a next state and changes no field of State but those listed. -/
def Touches (c : Instr) (s : State) (ps : List Part) : Prop := Does c s (SameBut ps s)

/-- An adapter's message on port `p` is accepted: the control island runs, the link carries messages, the header is well formed and carries the
SEQ that is expected (R88, Table 03-9). -/
def InSeq (p : Nat) (h : Hdr) (s : State) : Prop :=
  s.ctlOn = true ∧ s.linkMsgs p = true ∧ h.ok = true ∧ (s.lk p).chan.expect = h.seq.toNat

/-- The port and header of an adapter's message that carries SEQ and is taken by the port alone. -/
def fromAdapter : Instr → Option (Fin 64 × Hdr)
  | .ident p h _ => some (p, h)
  | .report p h _ _ => some (p, h)
  | .map p h _ _ _ => some (p, h)
  | .data p h _ _ _ _ _ _ _ => some (p, h)
  | .confirmAck p h _ _ => some (p, h)
  | .revertAck p h _ _ => some (p, h)
  | .hclError p h _ => some (p, h)
  | .check p h _ _ => some (p, h)
  | .wack p h _ _ _ _ => some (p, h)
  | .releaseAck p h => some (p, h)
  | _ => none

/-- The states one step can lead to (Table 01-5): the transitions of the table, Boot through MR_N or the clock reset where the control island is
powered, Hold with the loss of that island's supply, Off with the loss of AON's. -/
def moves : TopState → List TopState
  | .off => [.off, .wake]
  | .wake => [.wake, .boot, .off]
  | .boot => [.boot, .rise, .wake, .hold, .off]
  | .rise => [.rise, .ready, .ret, .service, .latched, .boot, .hold, .off]
  | .ready => [.ready, .ride, .save, .fall, .boot, .hold, .off]
  | .ride => [.ride, .ready, .save, .fall, .boot, .hold, .off]
  | .service => [.service, .ready, .ret, .ride, .save, .fall, .boot, .hold, .off]
  | .save => [.save, .ret, .fall, .boot, .hold, .off]
  | .ret => [.ret, .ready, .save, .fall, .boot, .hold, .off]
  | .fall => [.fall, .hold, .rise, .wake, .latched, .boot, .off]
  | .hold => [.hold, .boot, .off]
  | .latched => [.latched, .boot, .hold, .off]

/-- The register port answers and no long command runs (R454, R458). -/
def PortFree (s : State) : Prop := s.ctlOn = true ∧ s.busy = false

/-- What holds of the non-volatile memories whatever commands arrive: the bytes of both NOR devices are in canonical form (every address
once, none equal to an erased byte), and the anti-rollback counter is at most the number of its fuses. -/
structure Inv (s : State) : Prop where
  /-- Both NOR devices are in canonical form over 0xFF (R405). -/
  nor : ∀ d, Mem.wf 0xFF (rd s.nor d).mem = true
  /-- The one-time programmable counter has 64 fuses (R447). -/
  fuses : s.fuseCnt ≤ 64

/-- A key-hash bank once valid stays as it is: its fuses cannot be cleared (R448). -/
def KeyKept (s t : State) : Prop := ∀ k h, rd s.keyBanks k = .valid h → rd t.keyBanks k = .valid h

/-- A partner-link message is accepted: the partner link carries messages, the header is well formed and carries the SEQ expected (R88, R335). -/
def PairInSeq (h : Hdr) (s : State) : Prop :=
  s.pairMsgs = true ∧ h.ok = true ∧ s.pair.chan.expect = h.seq.toNat

/-- A fabric message is accepted on port `i`: the fabric island runs, the port is in HELLO or UP, the header is well formed and carries the SEQ expected
(R88, R353). -/
def FabInSeq (i : Nat) (h : Hdr) (s : State) : Prop :=
  s.fabRuns = true ∧ 2 ≤ (s.fport i).st ∧ (s.fport i).st ≤ 3 ∧ h.ok = true ∧ (s.fport i).chan.expect = h.seq.toNat

/-- The last message given to the partner's channel is `m`: it is kept for replay, or waits for room among the 1,024 kept (R88). -/
def PairSent (m : PMsg) (t : State) : Prop := (t.pair.chan.buf.map (·.2) ++ t.pair.chan.wait).getLast? = some m

/-- The last message kept for replay on fabric port `i` is `m`; while others wait for room there, by priority (R356), it is one of them. -/
def FabSent (i : Nat) (m : FMsg) (t : State) : Prop :=
  if (t.fport i).chan.wait = [] then ∃ q, (t.fport i).chan.buf.getLast? = some (q, m) else m ∈ (t.fport i).chan.wait

/-- A slot's image is judged valid: one of its two copies passes every check (R439, R440). -/
def SlotValid (s : State) (x : Nat) : Prop := (s.judgeCopy x 0).result = 0 ∨ (s.judgeCopy x 1).result = 0

/-- The image of a valid slot: copy 0's where that passes. -/
def slotImage (s : State) (x : Nat) : BImg := if (s.judgeCopy x 0).result = 0 then (s.judgeCopy x 0).img else (s.judgeCopy x 1).img

/-- Both slots have been judged: the newer valid image runs, slot A on ties; with none valid no image runs (R439, R441). -/
def ImageJudged (s t : State) : Prop :=
  (¬SlotValid s 0 → ¬SlotValid s 1 → t.bimg.running = false ∧ t.bimg.img = s.bimg.img)
  ∧ (∀ x y : Nat, (x = 0 ∧ y = 1) ∨ (x = 1 ∧ y = 0) → SlotValid s x →
      (¬SlotValid s y ∨ (slotImage s y).hdr.imgSeq < (slotImage s x).hdr.imgSeq ∨ (x = 0 ∧ (slotImage s y).hdr.imgSeq = (slotImage s x).hdr.imgSeq)) →
      t.bimg.running = true ∧ t.bimg.img = slotImage s x ∧ t.bimg.runSlot = x ∧ (rd t.bimg.slots x).result = 1 ∧ t.evtBit 11 0 = true)

/-- What t_trip leaves in a state that saves: Save, every FRZ_N held asserted, and driven so unless the boundary cells own the pins, the stakes
frozen, every force cleared (R20, R118, R404, R516). -/
def SaveEntered (s t : State) : Prop :=
  t.top.state = .save ∧ t.top.prev = s.top.state ∧ t.top.frz = 0xFF#8 ∧ (s.tapOwnsPins = false → t.frzDrive = 0xFF#8) ∧ t.stake.v.frozen = true ∧ t.flt.force = 0 ∧ t.flt.forcePb = 0

/-- No FORCE, FORCE_PB or FORCE_LIVE bit is set (R402, R403). -/
def ForcesClear (t : State) : Prop := t.flt.force = 0 ∧ t.flt.forcePb = 0 ∧ t.ctrlBit 2 4 = false

/-- The fields of State a command may change: every other field is as it was, whatever the state (R6, R18, and the rule of each command). -/
def partsOf : Instr → List Part
  | .vaonRise _ => [.pins, .aon, .top, .flt]
  | .vaonALoss | .vaonAReturn => [.pins, .aon, .evt, .flt, .ledg]
  | .vaonBothLost | .busGood100ms | .pbPress _ | .mrN | .railNotGood _ | .faultRegistration _ _ | .shadowClose _ | .refclkReturn | .mrNRelease
    => [.clk, .pins, .aon, .top, .evt, .ctrl, .busyIrq, .cmd, .rp, .flt, .ledg, .bimg, .seq, .nrg, .links, .stake, .vault, .stage, .save, .ret, .fab, .pair]
  | .pfiBusGood => [.pins, .top, .save]
  | .mainGood10ms => [.pins, .top, .evt, .flt, .ledg, .save]
  | .pfiBusSag _ | .acgLoss _ _ => [.clk, .pins, .aon, .top, .evt, .ctrl, .cmd, .rp, .flt, .ledg, .bimg, .seq, .nrg, .links, .stake, .vault, .stage, .save, .ret, .pair]
  | .backupNotGood => [.pins, .evt, .flt, .ledg, .save]
  | .holdReq _ | .testTrip _ _ => [.clk, .aon, .top, .evt, .ctrl, .cmd, .rp, .flt, .ledg, .bimg, .seq, .nrg, .links, .stake, .vault, .stage, .save, .ret, .pair]
  | .rideExit => [.top]
  | .turnBoundary _
    => [.clk, .pins, .aon, .fuseCnt, .keyBanks, .epochRan, .top, .evt, .ctrl, .busyIrq, .cmd, .rp, .flt, .ledg, .bimg, .seq, .nrg, .links, .stake, .vault, .stage, .save, .ret, .fab, .pair]
  | .shortfallEnd => [.flt, .ledg, .stake]
  | .overstakeRun _ | .islandTimeout _ | .resetEnd _ | .sourceCeasesLive _ _ => [.flt]
  | .reportsMissing _ | .report _ _ _ _ => [.flt, .links, .stake]
  | .drainSwitchOut => [.clk, .evt, .cmd, .seq, .stake, .vault, .stage]
  | .grantExpiry => [.evt, .nrg, .fab]
  | .portRecordHourly | .uncoveredRecord | .histogramTick | .exportHoldTimeout => [.ledg]
  | .signalDetect _ | .blockLock _ _ | .train1 _ _ _ _ _ | .train2 _ _ | .failedRetry _ => [.links, .fab]
  | .trainingTimeout _ => [.links, .fab, .pair]
  | .laneLockLost _ _ | .ack _ _ | .nak _ _ | .replayTimeout _ => [.flt, .links, .fab, .pair]
  | .quiet _ => [.flt, .links, .stage, .ret, .fab, .pair]
  | .recoverTimeout _ => [.evt, .flt, .links, .stage, .ret]
  | .ident _ _ _ => [.clk, .flt, .links, .vault, .stage, .save, .ret]
  | .map _ _ _ _ _ => [.evt, .flt, .links, .stage]
  | .data _ _ _ _ _ _ _ _ _ | .frozen _ _ _ | .freezeWindowClose | .waveOpen _ | .moveLinkTimeout _ | .class1Cutoff | .class2Cutoff | .busWarnCross
  | .ringSettleEnd => [.clk, .evt, .cmd, .rp, .flt, .ledg, .seq, .links, .stake, .vault, .stage, .save, .ret, .pair]
  | .confirmAck _ _ _ _ | .revertAck _ _ _ _ => [.flt, .links, .stage]
  | .hclError _ _ _ => [.flt, .links]
  | .check _ _ _ _ => [.evt, .flt, .links, .ret]
  | .wack _ _ _ _ _ _ | .wackTimeout _ _ _ => [.clk, .flt, .links, .vault, .ret]
  | .releaseAck _ _ => [.clk, .flt, .links, .vault, .stage, .ret]
  | .releaseTimeout _ => [.flt, .links, .ret]
  | .descriptorComplete _ _ _ _ _ _ _ _ => [.clk, .aon, .evt, .ctrl, .cmd, .rp, .flt, .ledg, .seq, .links, .stake, .vault, .stage, .save, .ret, .fab, .pair]
  | .class1StripeFill | .eraseCountWrite | .confirmUnitWrite | .logStripeFill => [.clk, .vault, .stage]
  | .busFaultCross => [.clk, .pins, .evt, .cmd, .rp, .flt, .ledg, .seq, .links, .stake, .vault, .stage, .save, .ret, .pair]
  | .portManifestPost _ | .saveManifestPost | .indexFlush => [.clk, .vault, .stage, .save]
  | .calSample _ => [.clk, .rp, .save]
  | .calFillEnd => [.save]
  | .sledRemoved _ _ => [.clk, .pins, .evt, .ctrl, .cmd, .rp, .flt, .ledg, .seq, .links, .vault, .stage, .save, .ret, .fab, .pair]
  | .sledPresent _ _ => [.pins, .evt, .flt, .seq, .vault]
  | .flashIslandUp _ => [.evt, .flt, .vault]
  | .vaultFounding => [.evt, .vault]
  | .blockMapDone _ | .logScanDone _ => [.evt, .vault, .stage]
  | .copyTimeout _ _ => [.links, .stage]
  | .backoffEnd _ _ => [.stage]
  | .materialise => [.vault]
  | .drainPullReady => [.evt, .cmd, .vault]
  | .verify | .vaultExport => [.clk, .evt, .cmd, .rp, .vault]
  | .drain => [.evt, .cmd, .rp, .vault]
  | .rebuild => [.clk, .evt, .cmd, .rp, .seq, .vault, .stage]
  | .keyErase => [.clk, .evt, .cmd, .rp, .links, .vault, .stage, .pair]
  | .format => [.clk, .evt, .cmd, .rp, .vault, .stage]
  | .restoreStart => [.links, .ret]
  | .retWaitExpiry => [.evt, .ret]
  | .retDiscard _ => [.clk, .evt, .rp, .links, .vault, .stage, .ret]
  | .retReassign _ _ | .retLeavePending _ => [.evt, .rp, .ret]
  | .retAcceptLoss _ | .retDecideAgain _ => [.evt, .rp, .links, .ret]
  | .retConcWrite _ | .nrgLatch _ => [.evt, .ctrl, .rp]
  | .tableStaggerExpiry | .helloSend | .fabricForward _ _ _ | .lsaOriginate | .roundStart _ | .tableReport _ _ _ | .coordinate | .grant _ _ _
  | .telReq _ _ _ | .lreadReq _ _ _ _ _ | .fabricTrained _ => [.fab]
  | .sampleStrobe _ => [.clk, .aon, .evt, .flt, .ledg, .nrg]
  | .currentWake _ | .quietRateEntry _ => [.aon, .nrg]
  | .insertion _ => [.aon, .evt, .flt, .ledg]
  | .removal _ | .fullAnchor _ => [.aon, .evt, .ledg, .nrg]
  | .senseFault _ | .emptyAnchor _ => [.aon, .evt, .flt, .ledg, .nrg]
  | .candAccept _ | .candReject _ | .strLoRead _ _ => [.evt, .rp, .nrg]
  | .learnStart _ | .learnAbort _ => [.aon, .evt, .rp, .nrg]
  | .learnTimeout => [.nrg]
  | .estimatorRestore => [.aon, .evt, .cmd, .rp, .ledg, .nrg]
  | .railUpTick _ _ => [.pins, .aon, .evt, .flt, .ledg, .seq, .save]
  | .railDownTick => [.clk, .aon, .top, .evt, .cmd, .flt, .ledg, .seq, .links, .vault, .stage, .save, .ret]
  | .slotQualify _ | .warnMaskEnd _ => [.seq]
  | .chatterEdge _ => [.evt, .ledg, .seq]
  | .slotTimeout _ | .slotGoodLost _ => [.evt, .flt, .ledg, .seq, .links, .vault, .stage, .ret]
  | .restExpiry _ | .slotStuck _ => [.evt, .flt, .ledg, .seq]
  | .vsScan _ => [.flt, .seq]
  | .railFault _ => [.clk, .evt, .cmd, .flt, .ledg, .seq, .links, .vault, .stage, .save, .ret]
  | .railWarn _ | .pairBroken _ => [.evt, .flt, .seq]
  | .seqfltLow | .pbHold3s => [.pins, .top, .evt, .ledg, .seq]
  | .seqSnapRequest _ | .svcRetry _ => [.evt, .ctrl, .rp, .flt, .ledg, .seq]
  | .marginWrite _ _ _ => [.clk, .evt, .rp, .flt, .seq]
  | .marginAck _ _ => [.rp, .flt, .seq]
  | .pbHoldForce _ => [.pins, .aon, .top, .evt, .ledg, .seq]
  | .refclkStop | .pllUnlock _ | .pllRelock _ | .vaonBCrossing _ => [.pins, .flt]
  | .refclkAbsent10us => [.pins]
  | .crystalLoss | .crystalReturn => [.pins, .aon]
  | .keeperHbStop | .claimHoldoffEnd | .aliveSend | .drillDwellEnd => [.pair]
  | .keeperTokenRelease => [.aon, .pair]
  | .partnerLoss => [.clk, .evt, .cmd, .flt, .vault, .pair]
  | .lossSampleEnd _ => [.pins, .aon, .evt, .ledg, .pair]
  | .tokenClaim _ _ => [.clk, .pins, .aon, .top, .evt, .ctrl, .cmd, .rp, .flt, .ledg, .bimg, .seq, .nrg, .links, .stake, .vault, .stage, .save, .ret, .fab, .pair]
  | .alive _ | .join _ _ | .kxReply _ _ _ _ | .kxKeys _ _ | .hbInEdge | .partnerChannelSilent _ => [.flt, .pair]
  | .frame _ _ _ => [.clk, .aon, .top, .evt, .cmd, .flt, .nrg, .stage, .pair]
  | .frameAck _ _ => [.evt, .flt, .pair]
  | .yield _ => [.clk, .evt, .cmd, .flt, .pair]
  | .handoverFinalFrame => [.stage, .pair]
  | .takeReady _ _ => [.clk, .pins, .aon, .evt, .flt, .stage, .pair]
  | .takeReadyTimeout => [.clk, .evt, .cmd, .flt, .links, .vault, .ret, .pair]
  | .kxApprove _ => [.clk, .evt, .rp, .pair]
  | .kxOffer _ _ _ _ => [.clk, .flt, .pair]
  | .kxWraps _ _ => [.clk, .flt, .vault, .stage, .pair]
  | .swapDrill | .abort => [.evt, .cmd, .rp, .pair]
  | .secondTick => [.clk, .aon, .evt, .fab, .pair]
  | .fabricHello _ _ _ _ _ | .routeCompute | .telRsp _ _ _ _ | .lreadRsp _ _ _ _ _ | .fabricError _ _ _ _ | .requestTimeout | .ppsEdgeMissed => [.evt, .fab]
  | .fabricPortSilent _ | .fabricTrainRetry _ | .fabricLockLost _ | .fabricTrainingFail _ => [.evt, .flt, .fab]
  | .addressDiscover => [.aon, .fab]
  | .lsa _ _ _ => [.aon, .evt, .flt, .fab]
  | .lsaExpiry _ => [.flt, .fab]
  | .tsyncTimer | .tsyncRsp _ _ _ _ _ _ _ _ | .ppsEdge => [.clk, .evt, .fab]
  | .tsyncReq _ _ => [.clk, .fab]
  | .telemetryRequest _ | .ledgerReadRequest _ => [.evt, .rp, .fab]
  | .resetRelease _ => [.clk, .evt, .flt, .links, .vault, .stage, .ret, .fab]
  | .classClear _ => [.aon, .flt]
  | .clrFirst _ => [.evt, .ctrl, .rp, .flt]
  | .unlatchClass _ => [.aon, .evt, .rp, .flt]
  | .forceWrite _ _ | .forcePbWrite _ _ | .isoClear _ _ | .causeRecordRead _ => [.evt, .rp, .flt]
  | .epochClose | .epochCloseDeferred => [.epochRan, .ledg, .bimg]
  | .ledgerRecordWrite => [.evt, .ledg]
  | .norOpComplete _ _ => [.aon, .nor, .evt, .cmd, .flt, .ledg, .bimg, .seq, .stake, .save, .fab, .pair]
  | .norProbe _ _ _ => [.nor, .flt, .ledg]
  | .resilverDone => [.evt, .flt, .ledg]
  | .ledgerScanDone => [.aon, .nor, .evt, .flt, .ledg, .bimg, .save]
  | .wallCommit _ => [.aon, .evt, .rp, .ledg]
  | .epochNow _ => [.evt, .ctrl, .rp, .ledg]
  | .ledgerExport => [.evt, .cmd, .rp, .ledg]
  | .exportRelease | .evqPop | .evqRead | .wallLoRead => [.evt, .rp, .ledg]
  | .ledgerWindowRead _ | .clearFaults _ | .mfrHzRegAddr _ _ | .pmbusInvalidCommand => [.evt, .rp]
  | .bimgSelect => [.aon, .evt, .flt, .ledg, .bimg, .seq, .stake, .fab, .pair]
  | .bimgRescan _ => [.aon, .evt, .ctrl, .rp, .flt, .ledg, .bimg, .seq, .stake, .fab, .pair]
  | .slotWrite => [.evt, .cmd, .rp, .ledg, .bimg]
  | .tuningReload => [.clk, .evt, .cmd, .rp, .ledg, .bimg]
  | .counterAdvance => [.evt, .cmd, .rp, .bimg]
  | .keyFuse => [.keyBanks, .evt, .cmd, .rp, .bimg]
  | .calibrationSave => [.evt, .cmd, .rp, .save]
  | .hostShutdown | .leaveService => [.top, .evt, .cmd, .rp]
  | .unlatch => [.top, .evt, .cmd, .rp, .seq]
  | .cmdInvalid _ => [.evt, .cmd, .rp]
  | .portDisable _ => [.evt, .rp, .flt, .links, .stage, .save, .ret]
  | .portEnable _ => [.evt, .rp, .flt, .links, .save]
  | .portRetrain _ => [.evt, .rp, .flt, .links]
  | .marginRegWrite _ | .viewHoldWrite _ => [.evt, .rp, .stake]
  | .stageHostWrite _ => [.evt, .rp, .stage]
  | .topStampRead => [.clk, .top, .evt, .rp]
  | .timeLoRead => [.clk, .evt, .rp, .fab]
  | .descRead _ => [.evt, .rp, .vault]
  | .registerWrite _ _
    => [.clk, .aon, .keyBanks, .top, .evt, .ctrl, .busyIrq, .cmd, .rp, .flt, .ledg, .bimg, .seq, .nrg, .links, .stake, .vault, .stage, .save, .ret, .fab, .pair]
  | .capability | .statusByte | .statusWord | .statusCml | .statusMfrSpecific | .pmbusRevision | .mfrId | .mfrModel | .mfrRevision | .mfrSerial
  | .mfrHzState | .mfrHzSave | .mfrHzStake | .mfrHzEnergy | .mfrHzVault | .mfrHzFault => [.rp]
  | .readTemperature1 => [.clk, .rp]
  | .mfrHzReg | .registerReadError _ => [.clk, .top, .evt, .rp, .flt, .ledg, .nrg, .vault, .fab]
  | .pmbusSclTimeout => []
  | .pmbPoll _ _ => [.clk, .evt, .rp, .flt]
  | .tapReset | .bypass | .idcode | .samplePreload | .extest | .clamp | .highz | .extestPulse | .extestTrain => [.clk, .pins]
  | .supplyRailGood _ => [.clk, .pins, .evt, .flt, .links, .vault, .stage, .ret, .fab]

/-- The commands that act while the control island is unpowered or held in reset: supplies, resets, clocks, the presence of a sled, the
push-button, trip inputs, AON's second, the token keeper and the test access port (Table 01-3). -/
def actsUnpowered : Instr → Bool
  | .vaonRise _ | .vaonALoss | .vaonAReturn | .vaonBothLost | .pfiBusGood | .busGood100ms | .mainGood10ms | .pfiBusSag _ | .backupNotGood
  | .holdReq _ | .acgLoss _ _ | .sledRemoved _ _ | .sledPresent _ _ | .pbPress _ | .pbHold3s | .pbHoldForce _ | .mrN | .refclkStop
  | .refclkAbsent10us | .pllUnlock _ | .crystalLoss | .railNotGood _ | .keeperHbStop | .keeperTokenRelease | .secondTick | .tapReset | .bypass
  | .idcode | .samplePreload | .extest | .clamp | .highz | .extestPulse | .extestTrain | .refclkReturn | .mrNRelease | .pllRelock _
  | .crystalReturn | .supplyRailGood _ | .vaonBCrossing _ => true
  | _ => false

/-- The commands of the fabric island, which MR_N leaves running (R18): the fabric's own, a fabric port's message layer, the partner link's lanes. -/
def actsOnFabric : Instr → Bool
  | .fabricHello _ _ _ _ _ | .helloSend | .fabricPortSilent _ | .fabricTrainRetry _ | .fabricForward _ _ _ | .addressDiscover | .lsa _ _ _ | .lsaOriginate
  | .lsaExpiry _ | .routeCompute | .tsyncTimer | .tsyncReq _ _ | .tsyncRsp _ _ _ _ _ _ _ _ | .ppsEdge | .ppsEdgeMissed | .roundStart _ | .tableReport _ _ _
  | .coordinate | .grant _ _ _ | .telReq _ _ _ | .lreadReq _ _ _ _ _ | .telRsp _ _ _ _ | .lreadRsp _ _ _ _ _ | .fabricError _ _ _ _ | .requestTimeout
  | .fabricTrained _ | .fabricLockLost _ | .fabricTrainingFail _ | .ack (.fab _) _ | .nak (.fab _) _ | .replayTimeout (.fab _) | .signalDetect .partner
  | .blockLock .partner _ | .train1 .partner _ _ _ _ | .train2 .partner _ | .trainingTimeout .partner | .failedRetry .partner | .laneLockLost .partner _
  | .quiet .partner => true
  | _ => false

end Sys2Proof.Machine
end

