-- ==== Sys2Proof/Certificates/Slice0/Obligations.lean ====
section
/-! DEFINITION. The statements about the controller, chapter by chapter: what each family of commands does, where it completes and what it leaves
unchanged, and the rules that hold over all commands. -/

open Sys2Proof Sys2Proof.Machine Sys2Proof.Machine.State

/-! ### The machine as a whole -/

/-- A step with command `c` at the front of the queue is `exec c` on the state with the queue's rest. With no command waiting a step changes nothing: the
model's choice, log entry 12. -/
def Obligations.StepTakesTheQueue : Prop :=
  (∀ (s : State) (c : Instr) (rest : List Instr), s.pending = c :: rest → step s = exec c { s with pending := rest })
  ∧ (∀ s : State, s.pending = [] → step s = .next s)

/-- Every command at every state answers a next state, and no command's effect reaches the queue of those waiting: the controller has no command
that stops it. A property of the model as a whole. -/
def Obligations.EveryCommandAnswersAndLeavesTheQueue : Prop :=
  ∀ (c : Instr) (s : State), Does c s (fun t => t.pending = s.pending)

/-- State.reset is Off (R20, R31), its control island unpowered, with the register values the register map gives for reset; no command waits. That AON's
record is then all zero is the model's choice, log entry 7. -/
def Obligations.ResetIsOff : Prop :=
  State.reset.top.state = .off ∧ State.reset.aon = {} ∧ State.reset.ctlOn = false ∧ State.reset.pending = []
    ∧ State.reset.stake.margin = 0x180 ∧ State.reset.stake.ceilTot = 0x40000 ∧ State.reset.stake.v.tD = 0x2710 ∧ State.reset.stake.v.tFw = 0x64
    ∧ (∀ p : Fin 64, (State.reset.stkQ p).ceil = 0x1000 ∧ (State.reset.stk p).bind = 4) ∧ State.reset.pair.drillDwell = 0x3E8
    ∧ (∀ r : Fin 32, (rd State.reset.vault.rings r).save = 0xFFFFFFFF)

/-- The invariant of the non-volatile memories holds at reset. -/
def Obligations.ResetKeepsInvariant : Prop := Machine.Inv State.reset

/-- Every step keeps the invariant of the non-volatile memories, from every state that has it: both NOR devices stay in canonical form and the
anti-rollback counter stays within its 64 fuses. -/
def Obligations.StepKeepsInvariant : Prop := ∀ s t : State, Machine.Inv s → step s = .next t → Inv t

/-- The anti-rollback counter and the key hashes (R436, R448): with at most 64 fuses blown no step blows more than 64 or takes one back, an image whose SVN
is below the counter is not accepted, and a valid key-hash bank keeps its hash, whatever the command. -/
def Obligations.FusesAreNeverCleared : Prop :=
  (∀ s t : State, Machine.Inv s → step s = .next t → s.fuseCnt ≤ t.fuseCnt ∧ t.fuseCnt ≤ 64 ∧ KeyKept s t)
  ∧ (∀ (s : State) (x : Fin 2) (d : Fin 2), (s.judgeCopy x d).hdr.svn < s.fuseCnt → (s.judgeCopy x d).result ≠ 0)

/-! ### Supplies, resets, the operator (01, 09, 17) -/

/-- VAON (R20, R28 to R31, R329): AON powers up in Off, takes the seat strap, and Wake follows with SWO_MAIN_N alone asserted; a switch-over to VAON_B keeps every counter and
all of AON but its selector and the count, and is counted in the ledger where the control island runs; the switch back counts too; with both lost AON starts from nothing and the state is Off, while the
NOR devices and the fuses keep their content. Source 151 follows the two supplies (R380). That AON counts the switch-overs made without a control island, up to
255 each, is the model's reading and choice, log entry 147. -/
def Obligations.VaonSupplies : Prop :=
  (∀ b s, s.top.state = .off → Does (.vaonRise b) s (fun t => t.top.state = .wake ∧ t.top.swoMain = true ∧ t.top.swoBkp = false
    ∧ t.aon = { lost := true, onB := b.onB }
    ∧ t.pins = { s.pins with vaonA := s.pins.vaonA || !b.onB, vaonB := s.pins.vaonB || b.onB, busGoodRun := s.pins.pfiGood, awaySeat := b.away }))
  ∧ (∀ s, s.pins.vaonA = true → s.pins.vaonB = true → s.aon.onB = false → Does .vaonALoss s (fun t =>
      t.aon = { s.aon with onB := true, swoCount := satAdd 0xFFFF s.aon.swoCount 1, swoB := if s.ctlUp then s.aon.swoB else satAdd 255 s.aon.swoB 1 }
      ∧ t.top = s.top ∧ t.pins.vaonA = false ∧ (s.ctlUp = true → t.subLive 151 0xFFFF = true ∧ t.ledg = (s.count 0x50 0 0).ledg)))
  ∧ (∀ s, s.top.state ≠ .off → s.aon.onB = true → Does .vaonAReturn s (fun t =>
      t.aon = { s.aon with onB := false, swoCount := satAdd 0xFFFF s.aon.swoCount 1, swoA := if s.ctlUp then s.aon.swoA else satAdd 255 s.aon.swoA 1 }
      ∧ t.top = s.top ∧ t.pins.vaonA = true ∧ (s.ctlUp = true → (t.subLive 151 0xFFFF = !s.pins.vaonB) ∧ t.ledg = (s.count 0x50 1 0).ledg)))
  ∧ (∀ s, Does .vaonBothLost s (fun t => t.top = { state := .off, prev := s.top.state } ∧ t.aon = {} ∧ t.pins.vaonA = false ∧ t.pins.vaonB = false
      ∧ t.nor = s.nor ∧ t.fuseCnt = s.fuseCnt ∧ t.keyBanks = s.keyBanks))
  ∧ (∀ up s, s.ctlOn = true → s.aon.onB = false → s.pins.vaonA = true → Does (.vaonBCrossing up) s (fun t =>
      t.pins.vaonB = up ∧ t.subLive 151 0xFFFF = !up))

/-- PFI_BUS and the core supply outside Save (R20, R32, R37, R39): bus good starts both timers; 100 ms of it leaves Wake (STAY_OFF clear) or Hold
for Boot and counts the power cycle; 10 ms of it brings the core back to main; a hold-up bus that is not good while the core runs on backup is source
150 and leaves SWO_BKP_N asserted. That SWO_MAIN_N asserts in Hold is the model's reading (log entry 119); that the count of power cycles stops at
0xFFFFFF is its choice (log entry 146). -/
def Obligations.BusGoodAndCoreSupply : Prop :=
  (∀ s, s.pins.pfiGood = false → Does .pfiBusGood s (fun t =>
      t.pins = { s.pins with pfiGood := true, busGoodRun := true, mainGoodRun := true, mainOk := false }
      ∧ (s.top.state = .hold → t.top.swoMain = true) ∧ (s.top.state = .save → t.save.edges = satAdd 0xFF s.save.edges 1)))
  ∧ (∀ s, s.pins.pfiGood = true → s.pins.busGoodRun = true → s.top.state = .hold ∨ s.top.state = .wake ∧ s.aon.stayOff = false →
      Does .busGood100ms s (fun t => t.top.state = .boot ∧ t.top.prev = s.top.state ∧ t.aon.cycles = satAdd 0xFFFFFF s.aon.cycles 1 ∧ t.bimg.running = false
        ∧ t.top.swoMain = true ∧ t.top.swoBkp = false ∧ t.pins.backupGood = false))
  ∧ (∀ s, s.pins.pfiGood = true → s.pins.mainGoodRun = true → s.top.state ≠ .off → Does .mainGood10ms s (fun t => t.pins.mainOk = true
      ∧ (if s.top.state = .save then t.top = s.top else t.top.swoMain = true ∧ t.top.swoBkp = false)))
  ∧ (∀ s, s.ctlOn = true → s.onBackup = true → Does .backupNotGood s (fun t => t.pins.backupGood = false ∧ t.subLive 150 0xFFFF = true
      ∧ t.top.swoBkp = true ∧ (s.top.state = .save → t.save.supply = true)))

/-- MR_N (R18, R25, R315, R324): in the holder's Save it is deferred and counted; in every other state with the control island powered, a standby's Save
included, it holds that island in reset and its release enters Boot, with AON, the NOR devices, the fuses and the fabric island as they were but for the
counts; in Latched it releases SEQFLT_N and is the unlatch that waits for REST; in Off, Wake and Hold it has no effect. The release of a line whose reset
waits for the seal is no more than that. That the count of power cycles stops at 0xFFFFFF is the model's choice (log entry 146). -/
def Obligations.ManualReset : Prop :=
  (∀ s, s.top.state = .save → s.pair.drv = true → s.pins.mrLow = false → s.pins.mrWait = false → Does .mrN s (fun t => t.top = { s.top with mrDeferred := true }
      ∧ t.aon = { s.aon with mrDefer := satAdd 0xFFFF s.aon.mrDefer 1 } ∧ t.pins = { s.pins with mrWait := true } ∧ t.ledg = (s.count 0x32 0 0).ledg))
  ∧ (∀ s, s.inState [.off, .wake, .hold, .save, .latched] = false → s.pins.mrLow = false → s.pins.mrWait = false → Does .mrN s (fun t => t.pins = { s.pins with mrLow := true }
      ∧ t.ctlOn = false ∧ t.aon = { s.aon with mrResets := satAdd 0xFFFF s.aon.mrResets 1 }
      ∧ t.fab = { s.fab with ports := tmap (fun (x : FabPort) => { x with retrains := 0 }) s.fab.ports } ∧ t.nor = s.nor ∧ t.bimg.running = false))
  ∧ (∀ s, s.inState [.off, .wake, .hold] = true → Does .mrN s (fun t => t = s))
  ∧ (∀ s, s.top.state = .save → s.pair.drv = false → s.pins.mrLow = false → s.pins.mrWait = false → Does .mrN s (fun t => t.pins = { s.pins with mrLow := true } ∧ t.ctlOn = false
      ∧ t.aon = { s.aon with mrResets := satAdd 0xFFFF s.aon.mrResets 1 }))
  ∧ (∀ s, s.top.state = .latched → s.pins.mrLow = false → s.pins.mrWait = false → Does .mrN s (fun t => t.pins = { s.pins with mrLow := true } ∧ t.top.state = .latched
      ∧ t.top.wantUnlatch = true ∧ t.seq.drv = false))
  ∧ (∀ s, s.top.state = .latched → s.pins.mrLow = true → s.pins.mrWait = false → Does .mrNRelease s (fun t => t.pins = { s.pins with mrLow := false }
      ∧ t.top = { s.top with opSec := s.aon.opSec } ∧ SameBut [.pins, .top, .flt, .ledg, .nrg] s t))
  ∧ (∀ s, s.pins.mrWait = true → Does .mrNRelease s (fun t => t = { s with pins := { s.pins with mrWait := false } }))
  ∧ (∀ s, s.inState [.off, .wake, .hold, .latched] = false → s.pins.mrLow = true → s.pins.mrWait = false → Does .mrNRelease s (fun t => t.top.state = .boot ∧ t.pins.mrLow = false
      ∧ t.aon.cycles = satAdd 0xFFFFFF s.aon.cycles 1 ∧ t.aon.opSec = s.aon.opSec ∧ t.nor = s.nor ∧ t.fuseCnt = s.fuseCnt))
  ∧ (∀ s, s.inState [.off, .wake, .hold] = true → s.pins.mrLow = true → s.pins.mrWait = false → Does .mrNRelease s (fun t => t = { s with pins := { s.pins with mrLow := false } }))

/-- Clocks (R498 to R500): a stopped REFCLK stops the control island and makes CLOCK live; 10 us of it mean that its return resets into Boot; a PLL
that unlocks or relocks moves its sub-source of CLOCK; a lost crystal has AON time from its RC oscillator. -/
def Obligations.ClocksLostAndBack : Prop :=
  (∀ s, s.ctlOn = true → Does .refclkStop s (fun t => t.pins = { s.pins with refclkRun := false } ∧ t.ctlOn = false ∧ t.subLive 135 0xFFFF = true ∧ t.top = s.top))
  ∧ (∀ s, s.pins.refclkRun = false → Does .refclkAbsent10us s (fun t => t = { s with pins := { s.pins with refclkLong := true } }))
  ∧ (∀ s, s.pins.refclkLong = true → s.pins.refclkRun = false → s.inState [.off, .wake, .hold] = false → Does .refclkReturn s (fun t => t.top.state = .boot ∧ t.pins.refclkRun = true ∧ t.pins.refclkLong = false))
  ∧ (∀ (i : Fin 5) s, s.ctlOn = true → Does (.pllUnlock i) s (fun t => rd t.pins.pllLock i = false ∧ t.subLive 135 i = true ∧ t.top = s.top))
  ∧ (∀ (i : Fin 5) s, Does (.pllRelock i) s (fun t => rd t.pins.pllLock i = true ∧ t.subLive 135 i = false))
  ∧ (∀ s, s.top.state ≠ .off → Does .crystalLoss s (fun t => t.aon = { s.aon with rcOsc := true } ∧ t.pins = { s.pins with crystalRun := false }))
  ∧ (∀ s, s.top.state ≠ .off → Does .crystalReturn s (fun t => t.aon = { s.aon with rcOsc := false } ∧ t.pins = { s.pins with crystalRun := true }))

/-- Supply rails (R496): a lost rail of the control island leaves it unpowered in Hold with TOKEN_N released and AON as it was but for the SHARED EN_nn it lets
go; VDD_MOV closes every ring; VDD_SER or VDD_SERH takes every cache port DOWN; VDD_NV stops the flash islands; a rail that is good again is marked so, and no more
than that where no island is powered. That the state shown is Hold is the model's reading (log entry 83), so too that SWO_MAIN_N asserts in it (log entry 119)
and which SHARED EN_nn are let go with TOKEN_N (log entry 203). -/
def Obligations.SupplyRails : Prop :=
  (∀ (k : Fin 6) s, (k = 0 ∨ k = 5) → rd s.pins.rails k = true → s.inState [.off, .wake, .hold] = false → Does (.railNotGood k) s (fun t =>
      rd t.pins.rails k = false ∧ t.top.state = .hold ∧ t.ctlOn = false ∧ t.aon = { s.aon with rel := t.aon.rel } ∧ t.pair.drv = false ∧ t.nor = s.nor
      ∧ t.top.swoMain = s.pins.pfiGood ∧ t.top.swoBkp = false))
  ∧ (∀ s, rd s.pins.rails 1 = true → s.inState [.off, .wake, .hold] = false → Does (.railNotGood 1) s (fun t =>
      rd t.pins.rails 1 = false ∧ t.top = s.top ∧ ∀ r : Fin 32, (t.ring r).isOpen = false ∧ t.pendingDescs r = []))
  ∧ (∀ s, rd s.pins.rails 4 = true → s.inState [.off, .wake, .hold] = false → Does (.railNotGood 4) s (fun t =>
      rd t.pins.rails 4 = false ∧ t.top = s.top ∧ ∀ x : Fin 4, (t.sled x).up = false ∧ (t.sled x).mapDone = false))
  ∧ (∀ (k : Fin 6) s, (k = 2 ∨ k = 3) → rd s.pins.rails k = true → s.ctlOn = true → Does (.railNotGood k) s (fun t =>
      rd t.pins.rails k = false ∧ t.top.state = s.top.state ∧ ∀ p : Fin 64, (t.lk p).st = 0))
  ∧ (∀ (k : Fin 6) s, Does (.supplyRailGood k) s (fun t => t.pins = { s.pins with rails := wr s.pins.rails k true } ∧ SameBut [.clk, .pins, .evt, .flt, .links, .vault, .stage, .ret, .fab] s t
      ∧ (s.inState [.off, .wake, .hold] = true → t = { s with pins := { s.pins with rails := wr s.pins.rails k true } })))

/-! ### Trips, the turn, the operator (01, 04, 09) -/

/-- A trip source enters Save from the states that hold stakes, at the controller that holds the token (R20, R118, R404): HOLD_REQ_N, a sag of PFI_BUS
(which also moves the core to backup), the AC-good loss that reaches the threshold of an immediate-save image, and a keyed write of
SAVE.TEST_TRIP in Ready or Service. -/
def Obligations.TripsEnterSave : Prop :=
  (∀ also s, s.ctlOn = true → s.paired = false ∨ s.pair.drv = true → s.inState [.ready, .ride, .service, .ret] = true →
      Does (.holdReq also) s (SaveEntered s))
  ∧ (∀ also s, s.ctlOn = true → s.paired = false ∨ s.pair.drv = true → s.inState [.ready, .ride, .service, .ret] = true → s.bimg.running = true →
      Does (.pfiBusSag also) s (fun t => SaveEntered s t ∧ t.pins.pfiGood = false ∧ t.top.swoMain = false ∧ t.top.swoBkp = true))
  ∧ (∀ (n : Fin 8) also s, s.ctlOn = true → s.paired = false ∨ s.pair.drv = true → s.inState [.ready, .ride, .service, .ret] = true → s.bimg.running = true →
      s.im.core.rideThrough = false → rd s.pins.acgLow n = false → s.acgFast < s.im.core.acgThr → s.im.core.acgThr ≤ s.acgFast + 1 →
      Does (.acgLoss n also) s (fun t => SaveEntered s t ∧ rd t.pins.acgLoss n = true ∧ rd t.pins.acgLow n = true))
  ∧ (∀ also s, PortFree s → s.inState [.ready, .service] = true → s.pair.drv = true →
      Does (.testTrip 0x7E575AFE#32 also) s (SaveEntered s))

/-- A trip elsewhere (R20, R521, R119, R123, R347, R404, R12): in Boot, Rise, Fall and Latched, and while the control island is unpowered, the state stays, FRZ_N
asserts and the trip is counted with the highest-priority rank active; in Save a source within 1 us of t_trip joins the sources, a later one is noted, and a test or
calibration save under way is promoted; a standby, and a controller that has given its token away, only assert FRZ_N; every force clears, for this too is a t_trip; in
Off the freeze path is not armed. A write of TEST_TRIP without its key changes nothing but the port's answer. Where within the turn the trip arrives, and so whether it
is within 1 us of t_trip, is a free value (log entries 1 and 191). -/
def Obligations.TripsElsewhere : Prop :=
  (∀ also s, s.inState [.boot, .rise, .fall, .latched] = true → s.ctlOn = true → s.paired = false ∨ s.pair.drv = true ∨ s.pair.standby = false ∧ s.top.state = .boot →
      Does (.holdReq also) s (fun t => t.top = { s.top with frz := 0xFF#8, frzTrip := true }
        ∧ t.ledg = (s.arrive.count 0x20 (primaryOf (srcMask 2 also)) 0xFFFFFFFF).ledg ∧ ForcesClear t ∧ SameBut [.clk, .top, .evt, .ctrl, .flt, .ledg] s t))
  ∧ (∀ also s, s.top.state ≠ .off → s.ctlUp = false → Does (.holdReq also) s (fun t => t.top = { s.top with frz := 0xFF#8, frzTrip := true }
      ∧ rd t.aon.tripCnt (primaryOf (srcMask 2 also)) = satAdd 255 (rd s.aon.tripCnt (primaryOf (srcMask 2 also))) 1 ∧ SameBut [.clk, .top, .aon] s t))
  ∧ (∀ also s, s.top.state = .save → s.ctlOn = true → s.paired = false ∨ s.pair.drv = true → Does (.holdReq also) s (fun t =>
      t.top.state = .save ∧ t.top.frz = 0xFF#8 ∧ t.save.serial = s.save.serial
        ∧ (if s.arrive.clk.l ≤ s.save.tripL + 1000 then t.save.src = srcMask 2 s.save.src ∧ t.save.primary = min 2 s.save.primary
           else t.save.late = s.save.late ||| 0x02#8 ∧ t.save.primary = s.save.primary)
        ∧ ((s.save.test = true ∨ s.save.cal = true) ∧ s.save.done = false → t.save.promoted = true)))
  ∧ (∀ also s, s.ctlOn = true → s.paired = true → s.pair.drv = false → s.pair.standby = true ∨ s.top.state ≠ .boot → Does (.holdReq also) s (fun t =>
      t.top = { s.top with frz := 0xFF#8 } ∧ ForcesClear t ∧ SameBut [.clk, .top, .evt, .ctrl, .flt] s t))
  ∧ (∀ also s, s.top.state = .off → Does (.holdReq also) s (fun t => t = s))
  ∧ (∀ w also s, PortFree s → w ≠ 0x7E575AFE#32 → Does (.testTrip w also) s (SameBut [.rp] s))

/-- The turn boundary (R9, R120, R512, R20): without the control island nothing happens; with it, but for a cold takeover's Boot, the sampled inputs are taken. At a
controller that holds the token its parts follow one another in a fixed order: time and inputs, a reload that is due, sources, the ledger's close, the table, the strings and E_pot,
the links, then the holder's part (stakes, trips, the transition, pre-staging, the vault), the islands' rails, what REPORT will carry and the end. That the samples come as the
command's operands is the model's choice, log entry 86; where no rule orders the parts, their order is its reading, log entries 150 and 231. -/
def Obligations.TurnBoundaryTakesInputs : Prop :=
  (∀ inp s, s.ctlOn = false → Does (.turnBoundary inp) s (fun t => t = s))
  ∧ (∀ inp s, s.ctlOn = true → s.pair.coldDue = false → Does (.turnBoundary inp) s (fun t => t.pins.dieTemp = inp.dieTemp ∧ t.pins.frzExt = inp.frz
      ∧ t.pins.vaonMvA = inp.vaonA ∧ t.pins.vaonMvB = inp.vaonB ∧ (∀ n : Fin 8, rd t.pins.acgLoss n = inp.acg.getLsbD n) ∧ (∀ n : Fin 8, rd t.pins.acgLow n = inp.acgLow.getLsbD n)))
  ∧ (∀ inp s, s.ctlOn = true → s.pair.coldDue = false → s.pair.drv = true → Does (.turnBoundary inp) s (fun t =>
      let a := ((((s.turnClock inp).reloadCommit.judgeTemp.expireSubs).closeTurn).drainTurn).tableTurn.energyTurn
      let b := forN 64 linkTurn a
      let c := islandsTurn b b.holderTurn
      t = if c.ctlOn then ({ c with ret := { c.ret with go := c.tableGo } }).latchReport.turnEnd inp else c))

/-- One step changes the state only along Table 01-5 (R20): a controller that is no standby goes from one state to another by a transition the table
lists, by the loss of the control island's supply (to Hold), or by the loss of AON's (to Off). -/
def Obligations.StateMovesFollowTheTable : Prop :=
  ∀ s t : State, s.pair.standby = false → step s = .next t → t.top.state ∈ moves s.top.state

/-- The push-button and the operating second (R322, R323, R351, R359, R391, R410). When a hold sets STAY_OFF is the model's reading (log entry 120); that OP_SEC wraps
at 2^32 is its choice (log entry 146); that SECOND_TICK is AON's second in every state and moves the wall label while no turns run are its readings (log entries 20
and 19). -/
def Obligations.OperatorAndSeconds : Prop :=
  (∀ (len : BitVec 8) s, s.top.state = .wake → len.toNat ≤ 20 → Does (.pbPress len) s (fun t => t.top.state = .boot ∧ t.aon.stayOff = false
      ∧ t.aon.presses = satAdd 0xFFFF s.aon.presses 1 ∧ t.aon.pbLast = len.toNat ∧ t.pins.pbDown = false))
  ∧ (∀ (len : BitVec 8) s, s.ctlOn = true → s.inState [.rise, .ready, .ride, .save, .ret, .service] = true → len.toNat ≤ 20 → Does (.pbPress len) s (fun t =>
      t.evtBit 4 3 = true ∧ t.top = s.top ∧ t.aon.presses = satAdd 0xFFFF s.aon.presses 1))
  ∧ (∀ s, s.top.state = .rise → s.ctlOn = true → s.pair.drv = true → Does .pbHold3s s (fun t => t.top = { s.top with wantService := true }
      ∧ t.pins = { s.pins with pbDown := true } ∧ t.seq.pbUsed = true))
  ∧ (∀ (len : BitVec 8) s, s.inState [.ready, .ride, .service, .ret] = true → s.seq.pbUsed = false → s.pair.drv = true → Does (.pbHoldForce len) s (fun t =>
      t.top = { s.top with wantForce := true } ∧ t.aon.stayOff = true ∧ t.aon.forces = satAdd 0xFF s.aon.forces 1))
  ∧ (∀ (len : BitVec 8) s, s.top.state = .save → s.seq.pbUsed = false → s.pair.drv = true → Does (.pbHoldForce len) s (fun t =>
      t.top = { s.top with wantForce := true } ∧ t.aon.stayOff = s.aon.stayOff))
  ∧ (∀ s, s.ctlOn = true → s.pair.drv = true → s.top.state = .ride → s.acgCount < s.im.core.acgThr → Does .rideExit s (fun t =>
      t = { s with top := { s.top with wantReady := true } }))
  ∧ (∀ s, s.top.state ≠ .off → Does .secondTick s (fun t => t.aon.opSec = (s.aon.opSec + 1) % 2 ^ 32 ∧ t.aon.drillAge = satAdd 0xFFFFFFFF s.aon.drillAge 1
      ∧ t.aon.wallMs = (if s.ctlOn then s.aon.wallMs else s.aon.wallMs + 1000) ∧ SameBut [.clk, .aon, .evt, .fab, .pair] s t))

/-! ### Stakes (02) -/

/-- The stake engine's commands (R52, R58, R60, R67, R422, R479). A command whose condition does not hold changes nothing: the model's reading, log entry 13. -/
def Obligations.StakeCommands : Prop :=
  (∀ s, s.ctlOn = true → s.stakeState = true → s.stake.v.short = true → 10 ≤ s.stake.okRun → Does .shortfallEnd s (fun t =>
      t.stake.v.short = false ∧ t.subLive 72 0xFFFF = false ∧ t.ledg.pr1 = {} ∧ SameBut [.flt, .ledg, .stake] s t
      ∧ (s.ledg.pr1.run = true → t.ledg.queue.length = s.ledg.queue.length + 1)))
  ∧ (∀ (p : Fin 64) s, s.ctlOn = true → 8 ≤ (s.stkQ p).ovrRun → Does (.overstakeRun p) s (fun t => t.subLive (64 + p.val / 8) p = true ∧ SameBut [.flt] s t))
  ∧ (∀ (p : Fin 64) s, s.ctlOn = true → (s.stkQ p).ovrRun < 8 → Does (.overstakeRun p) s (fun t => t = s))
  ∧ (∀ (p : Fin 64) s, s.ctlOn = true → 3 ≤ (s.stkQ p).missRun → Does (.reportsMissing p) s (fun t => (t.stkQ p).missSeen = true
      ∧ (t.lk p).err.getLsbD 8 = true ∧ t.subLive p 8 = true ∧ (s.linkUp p = true → (t.lk p).rcv = true) ∧ SameBut [.flt, .links, .stake] s t))
  ∧ (∀ s, s.ctlOn = true → s.ledg.pr1.run = true → 3600000 ≤ s.ledg.pr1.turns → Does .portRecordHourly s (fun t =>
      t.ledg.queue.length = s.ledg.queue.length + 1 ∧ t.ledg.pr1.run = true ∧ t.ledg.pr1.turns = 0 ∧ t.ledg.pr1.start = s.stamp ∧ SameBut [.ledg] s t))
  ∧ (∀ s, s.ctlOn = true → s.ledg.pr3.run = true → 10000 ≤ s.ledg.pr3.turns → Does .uncoveredRecord s (fun t =>
      t.ledg.queue.length = s.ledg.queue.length + 1 ∧ t.ledg.pr3 = {} ∧ SameBut [.ledg] s t))
  ∧ (∀ w s, PortFree s → s.im.pol.mMin ≤ 0x400 → Does (.marginRegWrite w) s (fun t => t.stake.margin = max s.im.pol.mMin (min 0x400 (bitsOf w 15 0))
      ∧ t.stake.marginClip = (s.stake.marginClip || t.stake.margin != bitsOf w 15 0) ∧ t.rp.err = false ∧ SameBut [.rp, .stake] s t))
  ∧ (∀ w s, PortFree s → Does (.viewHoldWrite w) s (fun t => t.stake.useCal = w.getLsbD 1 ∧ t.stake.v = s.stake.v ∧ t.stake.hold.isSome = w.getLsbD 0
      ∧ (w.getLsbD 0 = true → s.stake.hold.isSome = true → t.stake.hold = s.stake.hold) ∧ SameBut [.rp, .stake] s t))

/-- What a turn boundary does with reports and stakes, part by part (R21, R54, R56, R57, R60, R61, R65): a report that came is judged against K_p and one that is missing is
not, but counted; a port that becomes ineligible loses its stake, and what it last reported is uncovered; STAKE goes to every port in UP whose identity is known, with zeros to
an ineligible one; a U_p above B_total enters shortfall, in which no port is issued more than it uses; in Save no figure changes, and in a state without stakes each is 0. That no
report is judged outside Ready, Ride and Service is the model's choice (log entry 223). -/
def Obligations.TurnBoundaryStakes : Prop :=
  (∀ (p : Fin 64) r (s : State), (s.stkQ p).elig = true → (s.stkQ p).due = true → s.stakeState = true → (s.stkQ p).rep = some r →
      let t := s.judgePort p
      let o := r - (s.stk p).k
      (t.stk p).u = r ∧ (t.stk p).ovr = decide (0 < o) ∧ (t.stkQ p).missRun = 0
      ∧ (0 < o → t.ledg = (s.count 0x10 p o).ledg ∧ (t.stkQ p).overSeen = true ∧ (t.stkQ p).ovrRun = (s.stkQ p).ovrRun + 1
        ∧ (t.stk p).ovrTurns = satAdd 0xFFFF (s.stk p).ovrTurns 1)
      ∧ (o = 0 → t.ledg = s.ledg ∧ (t.stkQ p).ovrRun = 0 ∧ (t.stk p).ovrTurns = (s.stk p).ovrTurns ∧ t.subLive (64 + p.val / 8) p = false))
  ∧ (∀ (p : Fin 64) (s : State), (s.stkQ p).elig = true → (s.stkQ p).due = true → (s.stkQ p).rep = none →
      let t := s.judgePort p
      (t.stk p).u = (s.stk p).k ∧ (t.stk p).ovr = false ∧ (t.stkQ p).missRun = (s.stkQ p).missRun + 1 ∧ (t.stkQ p).ovrRun = (s.stkQ p).ovrRun
      ∧ (t.stk p).ovrTurns = (s.stk p).ovrTurns ∧ SameBut [.stake] s t)
  ∧ (∀ (p : Fin 64) (s : State), (s.stkQ p).elig = true → s.eligible p = false →
      let t := s.eligStep p
      t.stk p = { s.stk p with u := (s.stkQ p).uRep, s := 0, k := 0, cov := 0 } ∧ (0 < (s.stkQ p).uRep → t.ledg.pr3.run = true ∧ (t.ledg.queue = s.ledg.queue)))
  ∧ (∀ (p : Fin 64) (s : State), s.linkUp p = true → (s.lk p).idRead = true → (s.lk p).chan.wait = [] → (s.lk p).chan.buf.length < 1024 →
      (s.sendStakes.stkQ p).due = (s.stkQ p).elig ∧ ∃ m, (s.sendStakes.lk p).chan.buf = (s.lk p).chan.buf ++ [((s.lk p).chan.seq, .stake m)]
        ∧ m.s = (if (s.stkQ p).elig then (s.stk p).s else 0) ∧ m.k = (if (s.stkQ p).elig then (s.stk p).k else 0) ∧ m.disabled = !(s.stkQ p).elig
        ∧ m.turn = s.clk.turn % 2 ^ 32 ∧ m.short = s.stake.v.short ∧ m.frozen = s.stake.v.frozen ∧ m.token = s.pair.drv ∧ m.epoch = s.aon.epoch ∧ m.serial = s.save.serial)
  ∧ (∀ (p : Fin 64) (s : State), s.linkUp p = false ∨ (s.lk p).idRead = false → s.sendStakes.lk p = s.lk p)
  ∧ (∀ s : State, s.stake.v.bTotal < s.stake.v.sumU → s.stake.v.short = false → s.shortStep.stake.v = { s.stake.v with short := true, shortCnt := satAdd 0xFFFF s.stake.v.shortCnt 1 }
      ∧ s.shortStep.stake.okRun = 0 ∧ s.shortStep.stake.shortSeen = true ∧ s.shortStep.subLive 72 0xFFFF = true ∧ s.shortStep.ledg.pr1.run = true)
  ∧ (∀ s : State, s.stake.v.bTotal < s.stake.v.sumU → s.stake.v.short = true → s.shortStep = { s with stake := { s.stake with okRun := 0 } })
  ∧ (∀ s : State, s.stake.v.sumU ≤ s.stake.v.bTotal → s.shortStep = { s with stake := { s.stake with okRun := s.stake.okRun + 1 } })
  ∧ (∀ (p : Fin 64) (s : State), s.stake.v.short = true → (s.stakeCommit.stk p).s ≤ (s.stk p).u)
  ∧ (∀ was (s : State), s.top.state = .save → (s.stakeCompute was).stake.v = s.stake.v)
  ∧ (∀ was (p : Fin 64) (s : State), s.inState [.ready, .ride, .service, .save] = false → ((s.stakeCompute was).stk p).s = 0 ∧ ((s.stakeCompute was).stk p).k = 0
      ∧ (s.stakeCompute was).stake.v.bTotal = 0 ∧ (s.stakeCompute was).stake.v.short = false)

/-- The division of R50: no port gets more than its cap, ports with no weight get nothing, together they get at most the total, and either every port with a weight
gets its cap or what stays unassigned is fewer pips than there are ports with a weight below their cap. -/
def Obligations.WaterFillStaysWithinTotalAndCaps : Prop :=
  ∀ (total : Nat) (w cap : Nat → Nat),
    (∀ p : Fin 64, rd (waterFill total w cap) p ≤ cap p ∧ (w p = 0 → rd (waterFill total w cap) p = 0))
    ∧ sumN 64 (fun p => rd (waterFill total w cap) p) ≤ total
    ∧ ((∀ p : Fin 64, 0 < w p → rd (waterFill total w cap) p = cap p)
      ∨ total < sumN 64 (fun p => rd (waterFill total w cap) p) + (idxs 64 (fun p => decide (0 < w p) && decide (rd (waterFill total w cap) p < cap p))).length)

/-- The commitment step of R53: what is committed, summed over the ports, exceeds neither B_total nor, where the stakes still in use exceed that, what
is in use; no port is issued more than it is committed, and an ineligible port gets 0 of either. -/
def Obligations.CommitmentStaysWithinTheTotal : Prop :=
  ∀ s : State, s.stakeCommit.stake.v.sumK ≤ max s.stake.v.bTotal (sumN 64 s.inUse)
    ∧ s.stakeCommit.stake.v.sumK = sumN 64 (fun p => (s.stakeCommit.stk p).k)
    ∧ (∀ p : Fin 64, (s.stakeCommit.stk p).s ≤ (s.stakeCommit.stk p).k ∧ ((s.stkQ p).elig = false → (s.stakeCommit.stk p).k = 0))

/-- The total step of R46 and R47: B_BW and B_E by the rule's formulas (num rounded downward to 1 J, den upward to 1 fJ a byte), the guard of at least 64 pips and a
64th, the ceiling only where it is enabled, and LIMIT reading 1 where B_E is the smaller figure; that it reads 0 where the two are equal is the model's choice (log entry
149), and with a zero divisor of B_e the rule states no result: a free value, log entry 1. -/
def Obligations.TotalStep : Prop :=
  ∀ s : State,
    let t := s.stakeTotal.stake.v
    t.bBw = s.stake.v.bwV * s.stake.v.tAvail / 2 ^ 20
    ∧ (let m := s.stake.margin
       let num : Int := (((s.stake.v.ePot * 256 * 1000000 : Nat) : Int) - ((s.pFix * (s.stake.v.tFw + 160 + s.stake.v.tSeal + 5000) * m : Nat) : Int)) / ((m * 1000000 : Nat) : Int)
       let den := (s.pFix * 1000000000 + s.stake.v.bwV - 1) / s.stake.v.bwV + s.stake.v.eB * 1000
       (num ≤ 0 ∨ s.stake.v.bwV = 0 → t.bE = 0)
       ∧ (0 < num → s.stake.v.bwV ≠ 0 → den ≠ 0 → t.bE = num.toNat * 1000000000000000 / den / 2 ^ 20))
    ∧ t.guard_ = max 64 (ceilDiv (min t.bBw t.bE) 64)
    ∧ t.bTotal = (if s.stake.ceilEn then min (min t.bBw t.bE - t.guard_) s.stake.ceilTot else min t.bBw t.bE - t.guard_)
    ∧ (t.limit = true ↔ t.bE < t.bBw)

/-! ### Cache links (03) -/

/-- Training of a cache port and of the partner link, and a port's disable, enable and retrain (R76, R82 to R86, R116, R155, R335). That an enable takes back a disable
which waits for the image boundary is the model's choice (log entry 157); that RECOVERS counts each attempt, that inconsistent lane numbers start a new attempt, and the
partner link's RECOVER, are its readings (log entries 36, 38 and 68). -/
def Obligations.LinkTraining : Prop :=
  (∀ (p : Fin 64) s, s.portOn (p.val / 8) = true → s.upper p = false → (s.lk p).en = true → (s.lk p).st = 0 → (s.lk p).failed = false →
      Does (.signalDetect (.port p)) s (fun t => (t.lk p).st = 1 ∧ (t.lk p).recovers = satAdd 0xFFFF (s.lk p).recovers 1))
  ∧ (∀ (p : Fin 64) (lanes : BitVec 4) w m s, s.ctlOn = true → (s.lk p).st = 1 → widthLanes (s.cfgWidth p) lanes.toNat = some (w, m) →
      Does (.blockLock (.port p) lanes) s (fun t => (t.lk p).st = 2 ∧ (t.lk p).lanes = m))
  ∧ (∀ (p : Fin 64) (lane : Fin 4) coef sq s, s.ctlOn = true → (s.lk p).st = 2 → rd (s.lk p).reqs lane < 64 →
      (∀ c ∈ (s.lk p).coef, c.1 = lane.val → c.2.2 = sq.toNat → rd (s.lk p).reqs lane = 0) → Does (.train1 (.port p) lane lane coef sq) s (fun t =>
        (t.lk p).st = 2 ∧ (lane.val, coef.toNat, sq.toNat) ∈ (t.lk p).coef ∧ rd (t.lk p).reqs lane = rd (s.lk p).reqs lane + 1))
  ∧ (∀ (p : Fin 64) (lane : Fin 4) coef sq s, s.ctlOn = true → (s.lk p).st = 2 → 64 ≤ rd (s.lk p).reqs lane →
      Does (.train1 (.port p) lane lane coef sq) s (fun t => t = s))
  ∧ (∀ (p : Fin 64) (lane laneNo : Fin 4) coef sq s, s.ctlOn = true → (s.lk p).st = 2 → laneNo ≠ lane →
      Does (.train1 (.port p) lane laneNo coef sq) s (fun t => (t.lk p).st = (if (s.lk p).failed then 0 else 1) ∧ (t.lk p).lanes = 0))
  ∧ (∀ (p : Fin 64) (width : BitVec 4) s, s.ctlOn = true → s.upper p = false → (s.lk p).st = 2 → (idxs 4 (fun i => bitOf (s.lk p).lanes i)).length = width.toNat →
      Does (.train2 (.port p) width) s (fun t => (t.lk p).st = 3 ∧ (t.lk p).width = width.toNat ∧ (t.lk p).lNom = lNomOf width.toNat
        ∧ (t.lk p).chan.buf = (s.lk p).chan.buf ++ [((s.lk p).chan.seq, .req true false false false)]))
  ∧ (∀ (p : Fin 64) s, s.ctlOn = true → (s.lk p).st = 1 ∨ (s.lk p).st = 2 → (s.lk p).rcv = false → (s.lk p).failed = false → Does (.trainingTimeout (.port p)) s (fun t =>
      if (s.lk p).fails < 2 then (t.lk p).st = 1 ∧ (t.lk p).fails = (s.lk p).fails + 1 else (t.lk p).st = 0 ∧ (t.lk p).failed = true))
  ∧ (∀ (p : Fin 64) s, s.portOn (p.val / 8) = true → (s.lk p).failed = true → (s.lk p).en = true → Does (.failedRetry (.port p)) s (fun t =>
      (t.lk p).st = 1 ∧ (t.lk p).recovers = satAdd 0xFFFF (s.lk p).recovers 1))
  ∧ (∀ (p : Fin 64) (lane : Fin 4) s, s.ctlOn = true → s.linkUp p = true → bitOf (s.lk p).lanes lane = true → Does (.laneLockLost (.port p) lane) s (fun t =>
      (t.lk p).rcv = true ∧ (t.lk p).st = 1 ∧ (t.lk p).err.getLsbD 1 = true))
  ∧ (∀ (p : Fin 64) (lane : Fin 4) s, s.ctlOn = true → s.linkMsgs p = true → (s.lk p).rcv = true → bitOf (s.lk p).lanes lane = true →
      Does (.laneLockLost (.port p) lane) s (fun t => (t.lk p).rcv = true ∧ (t.lk p).st = 1 ∧ (t.lk p).lanes = 0 ∧ (t.lk p).err.getLsbD 1 = true))
  ∧ (∀ (p : Fin 64) s, s.ctlOn = true → s.upper p = false → (s.lk p).st ≠ 0 → Does (.quiet (.port p)) s (fun t =>
      (t.lk p).st = 0 ∧ (t.lk p).rcv = false ∧ (t.lk p).idRead = false ∧ (t.lk p).chan = {} ∧ (t.lk p).recovers = (s.lk p).recovers ∧ (t.lk p).err = (s.lk p).err))
  ∧ (∀ (p : Fin 64) s, s.ctlOn = true → (s.lk p).rcv = true → Does (.recoverTimeout p) s (fun t =>
      (t.lk p).st = 0 ∧ (t.lk p).rcv = false ∧ (t.lk p).idRead = false ∧ t.eligible p = false))
  ∧ (∀ (p : Fin 64) s, PortFree s → s.portOn (p.val / 8) = true → (s.lk p).en = true → ¬(s.saving = true ∧ (s.sv p).img = true ∧ (s.sv p).pst < 5) → Does (.portDisable p) s (fun t =>
      t.rp.err = false ∧ (t.lk p).en = false ∧ (t.lk p).st = 0 ∧ (t.lk p).rcv = false ∧ (t.lk p).idRead = false ∧ (t.lk p).chan = {}
      ∧ (∀ q : Fin 64, q ≠ p → t.lk q = s.lk q) ∧ SameBut [.evt, .rp, .flt, .links, .stage, .ret] s t))
  ∧ (∀ (p : Fin 64) s, PortFree s → s.portOn (p.val / 8) = true → (s.lk p).en = true → s.saving = true → (s.sv p).img = true → (s.sv p).pst < 5 → Does (.portDisable p) s (fun t =>
      t.rp.err = false ∧ t.sv p = { s.sv p with disPend := true } ∧ SameBut [.rp, .save] s t))
  ∧ (∀ (p : Fin 64) s, PortFree s → s.portOn (p.val / 8) = true → Does (.portEnable p) s (fun t => t.rp.err = false ∧ t.lk p = { s.lk p with en := true }
      ∧ (∀ q : Fin 64, q ≠ p → t.lk q = s.lk q) ∧ (t.sv p).disPend = false ∧ SameBut [.rp, .flt, .links, .save] s t))
  ∧ (∀ (p : Fin 64) s, PortFree s → s.portOn (p.val / 8) = true → s.upper p = false → (s.lk p).failed = false → (s.lk p).rcv = false → (s.lk p).st ≠ 0 → Does (.portRetrain p) s (fun t =>
      t.rp.err = false ∧ (t.lk p).rcv = true ∧ (t.lk p).st = 1 ∧ (t.lk p).recovers = satAdd 0xFFFF (s.lk p).recovers 1 ∧ (∀ q : Fin 64, q ≠ p → t.lk q = s.lk q)
      ∧ SameBut [.evt, .rp, .flt, .links] s t))
  ∧ (∀ c (p : Fin 64) s, c = .portDisable p ∧ (s.lk p).en = false ∨ c = .portRetrain p ∧ (s.upper p = true ∨ (s.lk p).failed = true ∨ (s.lk p).rcv = true ∨ (s.lk p).st = 0) →
      PortFree s → s.portOn (p.val / 8) = true → Does c s (fun t => t.rp.err = false ∧ SameBut [.rp] s t))
  ∧ (∀ c (p : Fin 64) s, c ∈ [Instr.portDisable p, .portEnable p, .portRetrain p] → s.ctlOn = true → s.busy = true → Does c s (fun t =>
      t.rp.err = true ∧ bitsOf t.rp.errAddr 26 24 = 1 ∧ SameBut [.evt, .rp] s t))
  ∧ (∀ s, s.fabRuns = true → s.fab.pl.st = 0 → s.fab.pl.failed = false → Does (.signalDetect .partner) s (fun t => t.fab.pl.st = 1 ∧ SameBut [.fab] s t))
  ∧ (∀ (lanes : BitVec 4) w m s, s.fabRuns = true → s.fab.pl.st = 1 → widthLanes 2 lanes.toNat = some (w, m) → Does (.blockLock .partner lanes) s (fun t =>
      t.fab.pl.st = 2 ∧ t.fab.pl.lanes = m ∧ SameBut [.fab] s t))
  ∧ (∀ (lane : Fin 4) coef sq s, s.fabRuns = true → s.fab.pl.st = 2 → rd s.fab.pl.reqs lane < 64 →
      (∀ c ∈ s.fab.pl.coef, c.1 = lane.val → c.2.2 = sq.toNat → rd s.fab.pl.reqs lane = 0) → Does (.train1 .partner lane lane coef sq) s (fun t =>
        t.fab.pl.st = 2 ∧ (lane.val, coef.toNat, sq.toNat) ∈ t.fab.pl.coef ∧ rd t.fab.pl.reqs lane = rd s.fab.pl.reqs lane + 1 ∧ SameBut [.fab] s t))
  ∧ (∀ (width : BitVec 4) s, s.fabRuns = true → s.fab.pl.st = 2 → (idxs 4 (fun i => bitOf s.fab.pl.lanes i)).length = width.toNat →
      Does (.train2 .partner width) s (fun t => t.fab.pl.st = 3 ∧ t.fab.pl.rcv = false ∧ t.fab.pl.lanes = s.fab.pl.lanes ∧ SameBut [.fab] s t))
  ∧ (∀ s, s.fabRuns = true → s.fab.pl.st = 1 ∨ s.fab.pl.st = 2 → s.fab.pl.failed = false → Does (.trainingTimeout .partner) s (fun t =>
      if s.fab.pl.fails < 2 then t.fab.pl.st = 1 ∧ t.fab.pl.fails = s.fab.pl.fails + 1 else t.fab.pl.st = 0 ∧ t.fab.pl.failed = true))
  ∧ (∀ s, s.fabRuns = true → s.fab.pl.failed = true → Does (.failedRetry .partner) s (fun t => t.fab.pl.st = 1 ∧ SameBut [.fab] s t))
  ∧ (∀ (lane : Fin 4) s, s.fabRuns = true → s.fab.pl.st = 3 → bitOf s.fab.pl.lanes lane = true → Does (.laneLockLost .partner lane) s (fun t =>
      t.fab.pl.rcv = true ∧ t.fab.pl.st = 1 ∧ t.pair.chan.buf = s.pair.chan.buf ∧ t.pair.chan.seq = s.pair.chan.seq ∧ SameBut [.fab, .pair] s t))
  ∧ (∀ s, s.fabRuns = true → s.fab.pl.st ≠ 0 → Does (.quiet .partner) s (fun t => t.fab.pl.st = 0 ∧ t.fab.pl.failed = false ∧ t.pair.chan.buf = [] ∧ t.pair.plOpen = false
      ∧ SameBut [.fab, .pair] s t))

/-- The message layer on a cache port, the partner link and a fabric port (R79, R87, R88, R353): a header word reads back as the fields it was made of and a
message's trailer is its CRC-32C; an ACK of the oldest message frees it, ahead of messages that waited for the room; a NAK frees what precedes the SEQ the
partner expects and replays the rest, and the replay after 4 without progress is RECOVER; a bad CRC or a block error makes a NAK of the SEQ expected and
counts; a time-out replays and counts; a malformed ACK or NAK frees nothing and is a protocol error. That the replay count of a message starts again after RECOVER is the
model's choice (log entry 153); that the buffer is kept across RECOVER, and the partner link's RECOVER, are its readings (log entries 31 and 68). -/
def Obligations.MessageLayer : Prop :=
  (∀ (type len : Nat) (seq ack : BitVec 12) ackV, type < 256 → len < 65536 →
      readHdr (hdrWord type seq.toNat ack.toNat ackV len) = (type, len, { seq, ack, ackV, ok := true }))
  ∧ (∀ (m : HclOut) seq ack ackV, crcGood (m.bytes seq ack ackV) = true ∧ (m.bytes seq ack ackV).length = 8 * m.words)
  ∧ (∀ (p : Fin 64) (h : Hdr) m rest s, s.ctlOn = true → s.linkMsgs p = true → h.ok = true → h.ackV = true → (s.lk p).chan.buf = (h.ack.toNat, m) :: rest →
      Does (.ack (.port p) h) s (fun t => rest <+: (t.lk p).chan.buf ∧ ((s.lk p).chan.wait = [] → (t.lk p).chan.buf = rest) ∧ (t.lk p).chan.tries = 0
        ∧ SameBut [.links] s t))
  ∧ (∀ (p : Fin 64) (h : Hdr) c (e : BitVec 12) s, c = .ack (.port p) h ∨ c = .nak (.port p) (.received h e) → s.ctlOn = true → s.linkMsgs p = true → h.ok = false →
      Does c s (fun t => (t.lk p).err.getLsbD 2 = true ∧ t.subLive p 2 = true ∧ (s.lk p).chan.buf <+: (t.lk p).chan.buf ∧ SameBut [.flt, .links] s t))
  ∧ (∀ (h : Hdr) m rest s, s.pairMsgs = true → h.ok = true → h.ackV = true → s.pair.chan.buf = (h.ack.toNat, m) :: rest →
      Does (.ack .partner h) s (fun t => rest <+: t.pair.chan.buf ∧ (s.pair.chan.wait = [] → s.pair.plOpen = true → t.pair.chan.buf = rest) ∧ t.pair.plUp = true
        ∧ SameBut [.flt, .pair] s t))
  ∧ (∀ (i : Fin 4) (h : Hdr) m rest s, s.fabRuns = true → 2 ≤ (s.fport i).st → (s.fport i).st ≤ 3 → h.ok = true → h.ackV = true → (s.fport i).chan.buf = (h.ack.toNat, m) :: rest →
      Does (.ack (.fab i) h) s (fun t => rest <+: (t.fport i).chan.buf ∧ ((s.fport i).chan.wait = [] → (t.fport i).chan.buf = rest) ∧ SameBut [.fab] s t))
  ∧ (∀ (p : Fin 64) s, s.ctlOn = true → s.linkMsgs p = true → Does (.nak (.port p) .badCrc) s (fun t => (t.lk p).chan.nak = some (s.lk p).chan.expect
      ∧ (t.lk p).cntCrc = satAdd 0xFFFF (s.lk p).cntCrc 1 ∧ (t.lk p).chan.buf = (s.lk p).chan.buf ∧ SameBut [.links] s t))
  ∧ (∀ (p : Fin 64) (h : Hdr) (e : BitVec 12) a b m s, s.ctlOn = true → s.linkMsgs p = true → h.ok = true → h.ackV = false → (s.lk p).chan.buf = a ++ (e.toNat, m) :: b →
      (∀ x ∈ a, x.1 ≠ e.toNat) → (a = [] → (s.lk p).chan.tries < 4) → Does (.nak (.port p) (.received h e)) s (fun t => ((e.toNat, m) :: b) <+: (t.lk p).chan.buf
        ∧ ((s.lk p).chan.wait = [] → (t.lk p).chan.buf = (e.toNat, m) :: b) ∧ (t.lk p).chan.tries = (if a = [] then (s.lk p).chan.tries + 1 else 0)
        ∧ SameBut [.links] s t))
  ∧ (∀ (p : Fin 64) (h : Hdr) (e : BitVec 12) b m s, s.ctlOn = true → s.linkUp p = true → h.ok = true → h.ackV = false → (s.lk p).chan.buf = (e.toNat, m) :: b →
      4 ≤ (s.lk p).chan.tries → Does (.nak (.port p) (.received h e)) s (fun t => (t.lk p).err.getLsbD 0 = true ∧ (t.lk p).rcv = true ∧ (t.lk p).chan.tries = 0
        ∧ (t.lk p).chan.buf = (s.lk p).chan.buf))
  ∧ (∀ (p : Fin 64) (h : Hdr) (e : BitVec 12) s, s.ctlOn = true → s.linkMsgs p = true → h.ok = true → h.ackV = false → (s.lk p).chan.seq = e.toNat →
      (∀ x ∈ (s.lk p).chan.buf, x.1 ≠ e.toNat) → (s.lk p).chan.wait = [] →
      Does (.nak (.port p) (.received h e)) s (fun t => (t.lk p).chan.buf = [] ∧ (t.lk p).chan.tries = 0 ∧ SameBut [.links] s t))
  ∧ (∀ (p : Fin 64) s, s.ctlOn = true → 2 ≤ (s.lk p).st → s.upper p = false → Does (.nak (.port p) .blockError) s (fun t =>
      (t.lk p).cntBlk = satAdd 0xFFFF (s.lk p).cntBlk 1 ∧ (s.linkMsgs p = true → (t.lk p).chan.nak = some (s.lk p).chan.expect) ∧ SameBut [.links] s t))
  ∧ (∀ (p : Fin 64) (m : HclOut) (s : State), s.linkUp p = true → (s.lk p).chan.wait = [] → (s.lk p).chan.buf.length < 1024 →
      ((s.send p m).lk p).chan.buf = (s.lk p).chan.buf ++ [((s.lk p).chan.seq, m)] ∧ ((s.send p m).lk p).chan.seq = ((s.lk p).chan.seq + 1) % 4096)
  ∧ (∀ (p : Fin 64) (m : HclOut) (s : State), s.linkUp p = true → (s.lk p).chan.buf.length = 1024 → ((s.send p m).lk p).chan.buf = (s.lk p).chan.buf)
  ∧ (∀ (p : Fin 64) s, s.ctlOn = true → s.linkMsgs p = true → (s.lk p).chan.buf ≠ [] → Does (.replayTimeout (.port p)) s (fun t =>
      if (s.lk p).chan.tries < 4 then (t.lk p).chan.tries = (s.lk p).chan.tries + 1 ∧ (t.lk p).chan.buf = (s.lk p).chan.buf ∧ SameBut [.links] s t
      else (t.lk p).err.getLsbD 0 = true ∧ ((s.lk p).rcv = false ∧ (s.lk p).failed = false → (t.lk p).rcv = true)))
  ∧ (∀ s, s.pairMsgs = true → s.pair.chan.buf ≠ [] → Does (.replayTimeout .partner) s (fun t =>
      if s.pair.chan.tries < 4 then t = { s with pair := { s.pair with chan := { s.pair.chan with tries := s.pair.chan.tries + 1 } } }
      else t.fab.pl.rcv = true ∧ t.fab.pl.st = 1 ∧ t.pair.chan.buf = s.pair.chan.buf ∧ t.pair.chan.tries = 0 ∧ SameBut [.fab, .pair] s t))
  ∧ (∀ (i : Fin 4) s, s.fabRuns = true → (s.fport i).chan.buf ≠ [] → Does (.replayTimeout (.fab i)) s (fun t => (t.fport i).chan.tries = (s.fport i).chan.tries + 1
      ∧ (t.fport i).chan.buf = (s.fport i).chan.buf ∧ (t.fport i).st = (s.fport i).st ∧ SameBut [.fab] s t))

/-- Messages on a cache port are accepted only in sequence (R88, Table 03-9): one with another SEQ, FROZEN included, changes no more than the port's message layer and
counts, and the SEQ expected stays. Of FROZEN the statement speaks of the state before what the vault does once its conditions hold. -/
def Obligations.OutOfSequenceMessagesAreDropped : Prop :=
  (∀ (c : Instr) (p : Fin 64) (h : Hdr) (s : State), fromAdapter c = some (p, h) → s.ctlOn = true → s.linkMsgs p = true → (s.lk p).chan.expect ≠ h.seq.toNat →
    Does c s (fun t => SameBut [.links] s t ∧ (t.lk p).chan.nak = some (s.lk p).chan.expect ∧ (t.lk p).chan.expect = (s.lk p).chan.expect
      ∧ (t.lk p).cntCrc = satAdd 0xFFFF (s.lk p).cntCrc 1 ∧ (∀ q : Fin 64, q ≠ p → t.lk q = s.lk q)))
  ∧ (∀ (p : Fin 64) (h : Hdr) (m : FrozenMsg) (s : State), s.ctlOn = true → s.linkMsgs p = true → (s.lk p).chan.expect ≠ h.seq.toNat →
    DoesThenVault (.frozen p h m) s (fun u => SameBut [.links] s u ∧ (u.lk p).chan.nak = some (s.lk p).chan.expect ∧ (u.lk p).chan.expect = (s.lk p).chan.expect
      ∧ (u.lk p).cntCrc = satAdd 0xFFFF (s.lk p).cntCrc 1 ∧ (∀ q : Fin 64, q ≠ p → u.lk q = s.lk q)))

/-! ### An adapter's messages (03, 04, 06, 07) -/

/-- IDENT, REPORT, MAP, DATA, CONFIRM_ACK, REVERT_ACK and ERROR, accepted (R86, R94, R97, R99, R100, R115, R135, R219, R222, R223, R226, R396). Where the mover, which
holds the tray, stands still, DATA makes nothing. That a chunk of an open copy whose tray read failed is read again, which entries a REVERT_ACK removes, and that a
confirmed square reads as STAGED at once are the model's readings (log entries 134, 50 and 132). -/
def Obligations.MessagesOfTheMapAndTheMove : Prop :=
  (∀ (p : Fin 64) h (m : IdentMsg) s, InSeq p h s → (s.lk p).st = 3 → m.id ≠ 0 → m.id ≠ 0xFFFFFFFFFFFFFFFF#64 → (s.lk p).exp = none ∨ (s.lk p).exp = some m.id →
      Does (.ident p h m) s (fun t => (t.lk p).st = 4 ∧ (t.lk p).rcv = false ∧ (t.lk p).idRead = true ∧ (t.lk p).id = m.id ∧ (t.lk p).squares = m.squares))
  ∧ (∀ (p : Fin 64) h (m : IdentMsg) s, InSeq p h s → s.linkUp p = true → (s.lk p).idRead = true → (s.lk p).id ≠ m.id →
      Does (.ident p h m) s (fun t => (t.lk p).rcv = true ∧ (t.lk p).idRead = false ∧ (t.lk p).err.getLsbD 6 = true))
  ∧ (∀ (p : Fin 64) h (m : ReportMsg) s, InSeq p h s → Does (.report p h m false) s (fun t => (t.lk p).cstate = m.cstate
      ∧ (m.turn = s.clk.turn % 2 ^ 32 → (t.stkQ p).rep = some (max m.u (ceilDiv m.dirty 16)))
      ∧ (m.turn ≠ s.clk.turn % 2 ^ 32 → (t.stkQ p).rep = (s.stkQ p).rep)
      ∧ (m.u ≠ ceilDiv m.dirty 16 → (t.lk p).err.getLsbD 5 = true) ∧ SameBut [.flt, .links, .stake] s t))
  ∧ (∀ (p : Fin 64) h (m : ReportMsg) s, InSeq p h s → Does (.report p h m true) s (fun t => (t.stkQ p).rep = (s.stkQ p).rep))
  ∧ (∀ (p : Fin 64) h tag first words a s, InSeq p h s →
      (s.pp p).asked.find? (fun a => a.1 % 2 ^ 32 == tag.toNat && 32 * a.2.1 == first.toNat && a.2.2 == words.length) = some a →
      Does (.map p h tag first words) s (fun t => ∀ i < words.length, (a.2.1 + i, a.1, words.getD i []) ∈ (t.pp p).map))
  ∧ (∀ (p : Fin 64) h (tag : BitVec 32) (sq : BitVec 16) chunk (gen : BitVec 4) (st : BitVec 2) data (c : Copy) s, InSeq p h s →
      (s.pp p).copies.find? (fun c => c.tag == tag.toNat && c.sq == sq.toNat && c.ph == 0) = some c → c.gen = none ∨ c.gen = some (gen.toNat, st.toNat) →
      (c.chunks.filter (fun d => d.1 != chunk.val)).length < 15 → s.stageRuns = true → s.moverRuns = true →
      Does (.data p h tag sq chunk gen st data false) s (fun t => ∃ d ∈ (t.pp p).copies, d.tag = c.tag ∧ d.gen = some (gen.toNat, st.toNat)
        ∧ (chunk.val, data) ∈ d.chunks))
  ∧ (∀ (p : Fin 64) h (tag : BitVec 32) (sq : BitVec 16) chunk (gen : BitVec 4) (st : BitVec 2) data (c : Copy) g s, InSeq p h s →
      (s.pp p).copies.find? (fun c => c.tag == tag.toNat && c.sq == sq.toNat && c.ph == 0) = some c → c.gen = some g → g ≠ (gen.toNat, st.toNat) → s.stageRuns = true → s.moverRuns = true →
      Does (.data p h tag sq chunk gen st data false) s (fun t => (∀ d ∈ (t.pp p).copies, d.tag ≠ c.tag) ∧ (t.lk p).err.getLsbD 2 = true))
  ∧ (∀ (p : Fin 64) h (tag : BitVec 32) (sq : BitVec 16) chunk (gen : BitVec 4) (st : BitVec 2) data (c : Copy) s, InSeq p h s →
      (s.pp p).copies.find? (fun c => c.tag == tag.toNat && c.sq == sq.toNat && c.ph == 0) = some c → s.moverRuns = true →
      Does (.data p h tag sq chunk gen st data true) s (fun t => t.save.reread = satAdd 0xFFFF s.save.reread 1 ∧ t.subLive 134 0xFFFF = true
        ∧ (t.pp p).copies = (s.pp p).copies ∧ (s.linkUp p = true → h.ackV = false → (s.lk p).chan.wait = [] → (s.lk p).chan.buf.length < 1024 →
          (t.lk p).chan.buf = (s.lk p).chan.buf ++ [((s.lk p).chan.seq, .read sq.toNat chunk.val 1 false tag.toNat)])))
  ∧ (∀ (p : Fin 64) h (tag : BitVec 32) (sq : BitVec 16) chunk (gen : BitVec 4) (st : BitVec 2) data (c : Copy) s, InSeq p h s →
      (s.pp p).copies.find? (fun c => c.tag == tag.toNat && c.sq == sq.toNat && c.ph == 0) = some c → s.stageRuns = false →
      Does (.data p h tag sq chunk gen st data false) s (SameBut [.links] s))
  ∧ (∀ (p : Fin 64) h (tag : BitVec 32) (sq : BitVec 16) chunk (gen : BitVec 4) (st : BitVec 2) data err s, InSeq p h s → s.moverRuns = false →
      Does (.data p h tag sq chunk gen st data err) s (SameBut [.links] s))
  ∧ (∀ (p : Fin 64) h (turn : BitVec 32) (acc : BitVec 64) sq g (c : Copy) s, InSeq p h s → (s.pp p).confirms.find? (fun c => c.1 == turn.toNat) = some (turn.toNat, [(sq, g)]) →
      (s.pp p).copies.find? (fun c => c.sq == sq && c.ph == 3) = some c →
      Does (.confirmAck p h turn acc) s (fun t => (∀ d ∈ (t.pp p).copies, d.tag ≠ c.tag) ∧ (∀ d ∈ (t.pp p).confirms, d.1 ≠ turn.toNat)
        ∧ (if acc.getLsbD 0 then (∃ e ∈ (t.pp p).staged, e.sq = sq ∧ e.gen = g ∧ e.lseq = c.lseq ∧ e.turn = turn.toNat) ∧ t.stage.pend.length = s.stage.pend.length + 1
            ∧ (t.lk p).cntAcc = satAdd 0xFFFFFFFF (s.lk p).cntAcc 1
          else (∃ b ∈ (t.pp p).backoff, b.sq = sq ∧ b.ival = backoffNext (s.pp p) sq s.stake.v.short ∧ b.till = s.clk.turn + b.ival) ∧ (t.pp p).staged = (s.pp p).staged
            ∧ (t.lk p).cntRej = satAdd 0xFFFFFFFF (s.lk p).cntRej 1)))
  ∧ (∀ (p : Fin 64) h (count : BitVec 17) ovf s, InSeq p h s → Does (.revertAck p h count ovf) s (fun t => (t.lk p).reverted = count.toNat
      ∧ (t.pp p).reverts = (s.pp p).reverts.drop 1 ∧ (∀ n l, (s.pp p).reverts = (n, true) :: l → count ≠ 0 → (t.pp p).staged = [])
      ∧ (∀ n l, (s.pp p).reverts = (n, false) :: l → ovf = false → count ≠ 0 → ∀ e, e ∈ (t.pp p).staged ↔ e ∈ (s.pp p).staged ∧ turnAfter e.turn n = false) ∧ (count = 0 → (t.pp p).staged = (s.pp p).staged) ∧ SameBut [.links, .stage] s t))
  ∧ (∀ (p : Fin 64) h (code : BitVec 8) b s, InSeq p h s → (code, b) ∈ [(0x10#8, 2), (0x21#8, 2), (0x30#8, 3), (0x31#8, 4)] →
      Does (.hclError p h code) s (fun t => (t.lk p).err.getLsbD b = true ∧ t.subLive p b = true ∧ SameBut [.flt, .links] s t))
  ∧ (∀ (p : Fin 64) h (code : BitVec 8) s, InSeq p h s → code ∉ [0x10#8, 0x21#8, 0x30#8, 0x31#8] →
      Does (.hclError p h code) s (fun t => (t.lk p).err.getLsbD 2 = true ∧ t.subLive p 2 = true ∧ SameBut [.flt, .links] s t))

/-- CHECK, FROZEN, WACK, its time-out, RELEASE_ACK and its time-out (R113, R128, R243, R252, R253, R256, R258, R259). That a WRITE carries 16 times its square plus
its chunk as TAG is the model's choice (log entry 171). -/
def Obligations.MessagesOfSaveAndReturn : Prop :=
  (∀ (p : Fin 64) h (serial : BitVec 32) codes s, InSeq p h s → ¬((s.rt p).out = 6 ∧ (s.rt p).ph = 3 ∧ (s.rt p).chks = 0) → Does (.check p h serial codes) s (fun t =>
      (t.lk p).serial = serial.toNat ∧ (t.lk p).region = codes ∧ (t.rt p).check = some codes ∧ SameBut [.links, .ret] s t))
  ∧ (∀ (p : Fin 64) h (serial : BitVec 32) codes (m : Manifest) s, InSeq p h s → (s.rt p).out = 6 → (s.rt p).ph = 3 → (s.rt p).chks = 0 → (s.rt p).lost = 0 → s.portImage p = some m →
      (∀ k < 64, codes.getD k 0 = wroteCode (s.rt p).wrote k) → Does (.check p h serial codes) s (fun t => (t.rt p).relSent = true
        ∧ (t.rt p).relMsg = some (m.serial, false, false) ∧ (t.rt p).released = (s.rt p).released))
  ∧ (∀ (p : Fin 64) h (serial : BitVec 32) codes s, InSeq p h s → (s.rt p).out = 6 → (s.rt p).ph = 3 → (s.rt p).chks = 0 →
      ((s.rt p).lost ≠ 0 ∧ ∀ k < 64, codes.getD k 0 = wroteCode (s.rt p).wrote k) ∨ ((s.rt p).round ≠ 0 ∧ ∃ k < 64, codes.getD k 0 ≠ wroteCode (s.rt p).wrote k) →
      Does (.check p h serial codes) s (fun t => (t.rt p).out = 0xB ∧ t.evtBit 7 2 = true))
  ∧ (∀ (p : Fin 64) h (serial : BitVec 32) codes s, InSeq p h s → (s.rt p).out = 6 → (s.rt p).ph = 3 → (s.rt p).chks = 0 → (s.rt p).round = 0 →
      (∃ k < 64, codes.getD k 0 ≠ wroteCode (s.rt p).wrote k) →
      Does (.check p h serial codes) s (fun t => (t.rt p).out = 6 ∧ (t.rt p).round = 1 ∧ (t.rt p).ph = 1 ∧ (t.rt p).written = 0))
  ∧ (∀ (p : Fin 64) h (m : FrozenMsg) s, InSeq p h s → s.saving = true → (s.sv p).img = true → (s.sv p).pst = 1 → (s.sv p).unconf = false → (s.sv p).frozen = none →
      (s.lk p).id = (s.sv p).adapter → DoesThenVault (.frozen p h m) s (fun u => (u.sv p).frozen = some m ∧ (u.sv p).pst = (if s.save.c1Done then 3 else 2)
        ∧ (u.sv p).late = (s.sv p).late ∧ (u.lk p).frzRcvd = true ∧ (u.lk p).serial = m.serial ∧ (u.lk p).region = m.region))
  ∧ (∀ (p : Fin 64) h (m : FrozenMsg) s, InSeq p h s → s.top.state ≠ .save → DoesThenVault (.frozen p h m) s (fun u =>
      (u.lk p).serial = m.serial ∧ (u.lk p).region = m.region ∧ u.save = s.save))
  ∧ (∀ (p : Fin 64) h (m : FrozenMsg) s, InSeq p h s → s.saving = true → (s.sv p).img = true → (s.sv p).pst < 4 → (s.sv p).unconf = true → (s.sv p).frozen = none →
      (s.lk p).id = (s.sv p).adapter → DoesThenVault (.frozen p h m) s (fun u => (u.sv p).frozen = some m ∧ (u.sv p).late = true ∧ ((s.sv p).late = false → (u.lk p).err.getLsbD 9 = true)))
  ∧ (∀ (p : Fin 64) h (sq : BitVec 16) (chunk : Fin 16) (tag : BitVec 32) s, InSeq p h s → (s.rt p).outst.contains (sq.toNat, chunk.val) = true → tag.toNat = sq.toNat * 16 + chunk →
      Does (.wack p h sq chunk tag 0) s (fun t => (t.rt p).written =
        (if ((s.rt p).outst.erase (sq.toNat, chunk.val)).any (fun e => e.1 == sq.toNat) then (s.rt p).written else (s.rt p).written + 1)))
  ∧ (∀ (p : Fin 64) h (sq : BitVec 16) (chunk : Fin 16) (tag : BitVec 32) (status : BitVec 2) s, InSeq p h s → (s.rt p).outst.contains (sq.toNat, chunk.val) = true →
      tag.toNat = sq.toNat * 16 + chunk → status ≠ 0 → Does (.wack p h sq chunk tag status) s (fun t => (t.lk p).err.getLsbD 2 = true
        ∧ ((s.rt p).todo = [] → (t.rt p).outst = (s.rt p).outst.erase (sq.toNat, chunk.val))))
  ∧ (∀ (p : Fin 64) (sq : BitVec 16) (chunk : Fin 16) s, s.ctlOn = true → (s.rt p).outst.contains (sq.toNat, chunk.val) = true → s.linkUp p = true →
      Does (.wackTimeout p sq chunk) s (fun t => (t.lk p).err.getLsbD 2 = true ∧ t.subLive p 2 = true
        ∧ ((s.rt p).todo = [] → (t.rt p).outst = (s.rt p).outst.erase (sq.toNat, chunk.val)) ∧ SameBut [.clk, .flt, .links, .vault, .ret] s t))
  ∧ (∀ (p : Fin 64) h s, InSeq p h s → (s.rt p).relOpen = true → s.relStates = true → Does (.releaseAck p h) s (fun t => (t.rt p).released = true
      ∧ (t.rt p).relAcked = true ∧ (t.rt p).pend = false ∧ ((s.rt p).out = 6 ∨ (s.rt p).out = 0xB → (t.rt p).out = 7)))
  ∧ (∀ (p : Fin 64) m s, s.ctlOn = true → (s.rt p).relOpen = true → (s.rt p).relMsg = some m → s.relStates = true → Does (.releaseTimeout p) s (fun t =>
      if (s.rt p).tries < 3 then (t.rt p).tries = (s.rt p).tries + 1
          ∧ (s.linkUp p = true → (s.lk p).chan.wait = [] → (s.lk p).chan.buf.length < 1024 → (t.lk p).chan.buf = (s.lk p).chan.buf ++ [((s.lk p).chan.seq, .release m.1 m.2.1 m.2.2)]) ∧ SameBut [.links, .ret] s t
      else (s.linkUp p = true → (t.lk p).rcv = true) ∧ SameBut [.flt, .links] s t))

/-! ### The save (04) -/

/-- The save's commands (R127, R129, R138 to R145, R160, R161, R177, R471, R522). Where a command is followed by what the vault does once its conditions hold, the
statement speaks of the state before that. A sample's sum of products is rounded upward to 1 uW of exact products of the converted words (R468). What the class 1
cut-off does with units not yet posted, that the measurement is kept in uW and shown upward to 1 W, how FILL units are paced and when they end, and how a refused long
command shows are the model's (log entries 52, 53, 195 and 90). -/
def Obligations.SaveCommands : Prop :=
  (∀ s, s.ctlOn = true → s.saving = true → DoesThenVault .freezeWindowClose s (fun u => u.save.w0.isSome = true
      ∧ ∀ p : Fin 64, (s.sv p).img = true → (s.sv p).pst = 1 → (u.sv p).unconf = true ∧ (u.sv p).pst = 3 ∧ (u.lk p).err.getLsbD 9 = true))
  ∧ (∀ (k : Fin 8) w s, s.ctlOn = true → s.saving = true → s.save.w0 = some w → s.save.settle = false → DoesThenVault (.waveOpen k) s (fun u => ∀ x : Fin 4, (u.ring (8 * x.val + k.val)).isOpen = (s.ringsRun x && !(s.ring (8 * x.val + k.val)).failed && bitOf (s.sled x).chOk k && !(s.sled x).lostAt)))
  ∧ (∀ s, s.ctlOn = true → s.saving = true → s.save.w0.isSome = true → (∀ p : Fin 64, (s.sv p).img = true → (s.sv p).pst ≠ 1) → s.class1Read = true → s.save.c1Done = false →
      Does .class1StripeFill s (fun t => t = (s.fillStripe 0 1 false).pump))
  ∧ (∀ (p : Fin 64) s, s.ctlOn = true → s.saving = true → (s.sv p).img = true → (s.sv p).ended = false → (s.sv p).pst = 2 ∨ (s.sv p).pst = 3 ∨ (s.sv p).pst = 1 ∧ s.save.resumed = true →
      s.linkUp p = false ∨ (s.lk p).id ≠ (s.sv p).adapter →
      DoesThenVault (.moveLinkTimeout p) s (fun u => (u.sv p).ended = true ∧ (u.sv p).reads = [] ∧ (u.sv p).c1 = [] ∧ (u.sv p).c2 = []
        ∧ (∀ q : Fin 64, q ≠ p → u.sv q = s.sv q)))
  ∧ (∀ s, s.ctlOn = true → s.saving = true → s.save.c1Off = false → s.save.phase < 5 → DoesThenVault .class1Cutoff s (fun u => u.save.c1Off = true
      ∧ (∀ p : Fin 64, (s.sv p).img = true → (s.sv p).pst ≤ 3 → (u.sv p).ended = true ∧ (u.sv p).reads = [])
      ∧ (0 < s.leftC1 → u.save.deadlineMiss = true ∧ u.subLive 73 0xFFFF = true ∧ u.evtBit 6 2 = true)))
  ∧ (∀ s, s.ctlOn = true → s.saving = true → s.save.c2Off = false → DoesThenVault .class2Cutoff s (fun u => u.save.c2Off = true
      ∧ (∀ p : Fin 64, (u.sv p).reads = (s.sv p).reads.filter (fun r => r.cls == 1))))
  ∧ (∀ s, s.ctlOn = true → s.saving = true → s.save.c2Off = false → DoesThenVault .busWarnCross s (fun u => u.save.c2Off = true
      ∧ (∀ p : Fin 64, (u.sv p).reads = (s.sv p).reads.filter (fun r => r.cls == 1))))
  ∧ (∀ s, s.ctlOn = true → s.saving = true → s.save.emerg = false → DoesThenVault .busFaultCross s (fun u => u.save.emerg = true
      ∧ u.save.w0.isSome = true ∧ u.pins.backupGood = false ∧ u.subLive 73 0xFFFF = true ∧ u.evtBit 6 2 = true ∧ (∀ p : Fin 64, (s.sv p).img = true → (s.sv p).pst ≤ 3 → (u.sv p).ended = true)))
  ∧ (∀ (p : Fin 64) s, s.ctlOn = true → s.saving = true → s.moveOver p = true → s.stage.posted = [] → s.stage.pend = [] → s.save.idxBusy = false →
      Does (.portManifestPost p) s (fun t => (t.sv p).pst = 4 ∧ (t.sv p).incomplete = ((s.sv p).incomplete || decide ((s.sv p).moved < (s.sv p).set.length)) ∧ (∃ c ∈ t.vault.cats, c.kind = .manifest p ∧ c.body = .manifest (s.manifestOf p))))
  ∧ (∀ s, s.ctlOn = true → s.saving = true → s.save.w0.isSome = true → s.portsSealed = true → s.save.phase < 5 → s.save.fillOn = false → s.stage.posted = [] →
      Does .saveManifestPost s (fun t => t.save.phase = 5 ∧ (∃ c ∈ t.vault.cats, c.kind = .saveMan ∧ c.body = .saveMan s.saveManOf)))
  ∧ (∀ rs s, s.ctlOn = true → s.saving = true → s.save.cal = true → s.save.promoted = false → s.save.w0.isSome = true → s.save.settle = false → s.pmbRuns = true → Does (.calSample rs) s (fun t =>
      let n := s.fixDevs.length
      SameBut [.clk, .rp, .save] s t ∧ if rs.length < n ∨ none ∈ rs.take n then t.save = { s.save with calBad := true }
        else ∃ free, t.save = { s.save with samples := satAdd 0xFFFF s.save.samples 1, pMeas := max s.save.pMeas (powerUw ((s.fixDevs.zip rs).map (fun e => (rd s.im.pmb e.1, e.2.getD (0, 0)))) free).toNat }))
  ∧ (∀ (c : PmbCfg) (v i free : Nat), c.direct = false →
      let e := c.exp + toSigned 5 (i / 2048)
      let m := ((v % 65536 : Nat) : Int) * toSigned 11 i * 1000000
      let w := powerUw [(c, v, i)] free
      if 0 ≤ e then w = m * 2 ^ e.toNat else (w - 1) * 2 ^ (-e).toNat < m ∧ m ≤ w * 2 ^ (-e).toNat)
  ∧ (∀ s, s.ctlOn = true → Does .calFillEnd s (fun t => t = { s with save := { s.save with fillOn := false } }))
  ∧ (∀ s, PortFree s → Does .calibrationSave s (fun t =>
      if s.standbyOk 0x20 = true ∧ s.pair.drv = true ∧ s.top.state = .ready ∧ s.stake.v.short = false ∧ 0 < s.healthyCount ∧ s.calFits = true
      then t.cmd = { code := 0x20, state := 1 } ∧ t.save.calReq = true else t.cmd = { code := 0x20, state := 5 } ∧ t.save = s.save))

/-! ### Pre-staging (06) -/

/-- Pre-staging's own commands, and its part of a turn boundary (R220, R222, R224, R225, R232, R239 to R242). A confirm unit takes the oldest entries, those of a
relocation in a unit of their own. The governor's credit grows by the smaller of R_gov and the host's rate, never above its cap; the grant is the smaller of the rate and
the credit, and with emergency time left in a shortfall it may be larger, that turn counting as emergency time where it is. MAP_REQ goes for the words from the cursor on, and
CONFIRM for the durable copies, at most 64. That a credit without a sled in C stands still is the model's reading (log entry 167). -/
def Obligations.StagingCommands : Prop :=
  (∀ b s, s.ctlOn = true → (∀ e ∈ s.stage.pend, e.1.reloc = b) → (4092 ≤ s.stage.pend.length ∨ ∃ e ∈ s.stage.pend, e.2 + 100 ≤ s.clk.turn) → Does .confirmUnitWrite s (fun t =>
      t.stage.pend = s.stage.pend.filter (fun e => !(s.stage.pend.take 4092).contains e) ∧ t.stage.posted = s.stage.posted ++ [(s.stage.nextLseq, s.stage.pend.take 4092)]))
  ∧ (∀ s, s.ctlOn = true → s.stage.pend = [] → Does .confirmUnitWrite s (fun t => t = s))
  ∧ (∀ z s, s.ctlOn = true → s.vault.stripes.find? (fun t => t.area == 1 && !t.closed) = some z → z.opened + 2 ≤ s.clk.turn →
      Does .logStripeFill s (fun t => t = (s.fillStripe 1 (if z.reloc || s.inState [.ready, .ride, .service] then 3 else 0) z.reloc).pump))
  ∧ (∀ s : State, s.aon.emFresh = false → s.rGovOf ≠ 0 →
      let t := s.governorStep
      t.aon.credit = min (s.aon.credit + (min s.rGovOf s.stage.hostAvg * 1000 : Nat)) (s.rGovOf * 21600 * 1000000 : Nat)
      ∧ t.stage.g = (if s.ctrlBit 8 0 then min (s.effRate * 1000) t.aon.credit.toNat else 0) ∧ t.stage.used = 0
      ∧ (s.stake.v.short = false ∨ 600000 ≤ s.emUsed → t.stage.grant = t.stage.g ∧ t.emUsed = s.emUsed)
      ∧ (s.stake.v.short = true → s.emUsed < 600000 → t.stage.grant = max t.stage.g (min s.im.pol.rateMax (4 * s.rGovOf) * 1000)
        ∧ t.emUsed = s.emUsed + (if t.stage.g < t.stage.grant then 1 else 0)))
  ∧ (∀ s : State, s.rGovOf = 0 → s.governorStep.aon.credit = s.aon.credit)
  ∧ (∀ (p : Fin 64) (s : State), s.linkUp p = true → (s.lk p).chan.wait = [] → (s.lk p).chan.buf.length < 1024 → s.mapWords p ≠ 0 → (s.pp p).word < s.mapWords p →
      let n := min (min (ceilDiv (s.mapWords p) 64) (256 - (s.pp p).words)) (s.mapWords p - (s.pp p).word)
      n ≠ 0 → ((s.askMap p).lk p).chan.buf = (s.lk p).chan.buf ++ [((s.lk p).chan.seq, .mapReq (32 * (s.pp p).word) n ((s.pp p).reqNo % 2 ^ 32))]
        ∧ ((s.askMap p).pp p).word = ((s.pp p).word + n) % s.mapWords p ∧ ((s.askMap p).pp p).asked = (s.pp p).asked ++ [((s.pp p).reqNo, (s.pp p).word, n)])
  ∧ (∀ s : State, s.stageRuns = false → SameBut [.stage] s s.mapTurn ∧ s.sendConfirms = s)
  ∧ (∀ (p : Fin 64) (s : State), s.stageRuns = true → s.eligible p = true → s.linkUp p = true → (s.lk p).chan.wait = [] → (s.lk p).chan.buf.length < 1024 →
      let l := ((s.pp p).copies.filter (fun c => c.ph == 2)).take 64
      l ≠ [] → (s.sendConfirms.lk p).chan.buf = (s.lk p).chan.buf
          ++ [((s.lk p).chan.seq, .confirm (s.clk.turn % 2 ^ 32) (l.map (fun c => (c.sq, match c.gen with | some g => g.1 | none => 0))))]
        ∧ (∀ c ∈ (s.sendConfirms.pp p).copies, (∃ d ∈ l, d.tag = c.tag) → c.ph = 3))
  ∧ (∀ (p : Fin 64) (sq : BitVec 16) c s, s.ctlOn = true → (s.pp p).copies.find? (fun c => c.sq == sq.toNat && c.ph < 2 && c.turn + 32 ≤ s.clk.turn) = some c →
      Does (.copyTimeout p sq) s (fun t => (t.pp p).copies = (s.pp p).copies.filter (fun d => d.tag != c.tag)
        ∧ (s.linkUp p = true → (s.lk p).chan.wait = [] → (s.lk p).chan.buf.length < 1024 →
            (t.lk p).chan.buf = (s.lk p).chan.buf ++ [((s.lk p).chan.seq, .cancel sq.toNat)])
        ∧ ((s.lk p).rcv = true → s.upper p = false → (t.lk p).chan.wait = (s.lk p).chan.wait ++ [.cancel sq.toNat]) ∧ SameBut [.links, .stage] s t))
  ∧ (∀ (p : Fin 64) (sq : BitVec 16) s, s.ctlOn = true → Does (.backoffEnd p sq) s (fun t => SameBut [.stage] s t ∧ (t.pp p).staged = (s.pp p).staged
      ∧ ∀ b ∈ (s.pp p).backoff, b.sq = sq.toNat → b.till ≤ s.clk.turn → ∃ e ∈ (t.pp p).backoff, e.sq = b.sq ∧ e.ival = b.ival ∧ e.till = 0))
  ∧ (∀ w s, PortFree s → Does (.stageHostWrite w) s (fun t => t.stage.hostRate = bitsOf w 15 0 ∧ t.stage.hostAvg = bitsOf w 31 16
      ∧ t.effRate = min s.im.pol.rateMax (bitsOf w 15 0) ∧ (s.im.pol.rateMax < bitsOf w 15 0 → t.stage.clip = true) ∧ SameBut [.rp, .stage] s t))

/-! ### The vault (05) -/

/-- A descriptor completes (R136, Table 04-3): a programmed unit lies in its slot; a failed program puts its block on the grown-bad list and, for the
first two failures, its unit waits again; an erased block holds no unit. The state is the one before what the vault does next and before block
resets that waited for the seal. -/
def Obligations.DescriptorCompletes : Prop :=
  (∀ (r : Fin 32) (i corr retries bad crc : BitVec 8) (us : BitVec 16) d f s, s.ctlOn = true → (s.pendingDescs r).find? (fun e => e.1 == i.toNat) = some (i.toNat, d) →
      s.started r i.toNat = true → d.opc = 1 → d.unit = some f → d.why = .stripe →
      ∃ u : State, exec (.descriptorComplete r i 1 corr retries us bad crc) s = .next u.vaultAfter.sealResets ∧ (d.loc, some f) ∈ u.cells r
        ∧ (i.toNat, { d with status := 1 + corr.toNat * 256 + us.toNat * 65536 }) ∈ (u.ring r).slots)
  ∧ (∀ (r : Fin 32) (i corr retries bad crc : BitVec 8) (us : BitVec 16) d f s, s.ctlOn = true → (s.pendingDescs r).find? (fun e => e.1 == i.toNat) = some (i.toNat, d) →
      s.started r i.toNat = true → d.opc = 1 → d.unit = some f → d.why = .stripe → d.tries < 2 → (s.ring r).fails < 7 →
      ∃ u : State, exec (.descriptorComplete r i 2 corr retries us bad crc) s = .next u.vaultAfter.sealResets ∧ u.badBlk r (locDie d.loc) (locBlk d.loc) = true
        ∧ ∃ j ∈ u.vault.ready, j.unit = f ∧ j.tries = d.tries + 1)
  ∧ (∀ (r : Fin 32) (i corr retries bad crc : BitVec 8) (us : BitVec 16) d f s, s.ctlOn = true → (s.pendingDescs r).find? (fun e => e.1 == i.toNat) = some (i.toNat, d) →
      s.started r i.toNat = true → d.opc = 1 → d.unit = some f → d.why = .stripe →
      ∃ u : State, exec (.descriptorComplete r i 5 corr retries us bad crc) s = .next u.vaultAfter.sealResets ∧ (u.ring r).fails = (s.ring r).fails
        ∧ (u.sled (r / 8)).dev.grown = (s.sled (r / 8)).dev.grown ∧ (∃ j ∈ u.vault.ready, j.unit = f ∧ j.tries = d.tries) ∧ (d.loc, none) ∉ u.cells r)
  ∧ (∀ (r : Fin 32) (i corr retries bad crc : BitVec 8) (us : BitVec 16) d s, s.ctlOn = true → (s.pendingDescs r).find? (fun e => e.1 == i.toNat) = some (i.toNat, d) →
      s.started r i.toNat = true → d.opc = 0x20 → d.why = .erase →
      ∃ u : State, exec (.descriptorComplete r i 3 corr retries us bad crc) s = .next u.vaultAfter.sealResets
        ∧ u.badBlk r (locDie d.loc) (locBlk d.loc) = true ∧ u.cells r = s.cells r)
  ∧ (∀ (r : Fin 32) (i corr retries bad crc : BitVec 8) (us : BitVec 16) d s, s.ctlOn = true → (s.pendingDescs r).find? (fun e => e.1 == i.toNat) = some (i.toNat, d) →
      s.started r i.toNat = true → d.opc = 0x20 → d.why = .erase →
      ∃ u : State, exec (.descriptorComplete r i 1 corr retries us bad crc) s = .next u.vaultAfter.sealResets
        ∧ ∀ c ∈ u.cells r, ¬(locDie c.1 = locDie d.loc ∧ locBlk c.1 = locBlk d.loc))

/-- Sleds, the founding of the vault and its bring-up, and its background commands (R69, R185, R187, R193, R210, R212, R217, R234, R236, R313). -/
def Obligations.VaultCommands : Prop :=
  (∀ (x : Fin 4) gone s, rd s.pins.sledPrs x = true → s.flt.resetPend = [] → Does (.sledRemoved x gone) s (fun t => (t.sled x).cls = (if gone then 0 else 7)
      ∧ rd t.pins.sledPrs x = !gone ∧ (t.sled x).chOk = 0 ∧ (gone = true → (t.sled x).dev = {})))
  ∧ (∀ (x : Fin 4) dev s, rd s.pins.sledPrs x = false → Does (.sledPresent x dev) s (fun t => rd t.pins.sledPrs x = true ∧ (t.sled x).dev = dev
      ∧ (t.sled x).cls = (if s.ctlOn then 1 else 0)))
  ∧ (∀ (x : Fin 4) s, s.ctlOn = true → s.sledRails x = true → rd s.pins.sledPrs x = true → s.pair.drv = true →
      (s.islandPower x).ringsRun x = true → (s.sled x).pwr = false ∨ ((s.sled x).up = false ∧ (s.sled x).cls ≠ 7) → Does (.flashIslandUp x) s (fun t => (t.sled x).up = true
      ∧ (t.sled x).cls = (if s.chMatched x 0 && s.chMatched x 4 then (s.classify x).1 else 7) ∧ t.evtBit 12 0 = true
      ∧ (t.sled x).phy.length = (s.sled x).dev.dies.length))
  ∧ (∀ (x : Fin 4) s, s.ctlOn = true → s.sledRails x = true → rd s.pins.sledPrs x = true → s.pair.drv = false →
      (s.islandPower x).ringsRun x = true → (s.sled x).pwr = false ∨ ((s.sled x).up = false ∧ (s.sled x).cls ≠ 7) → Does (.flashIslandUp x) s (fun t =>
      (t.sled x).pwr = true ∧ (t.sled x).up = false ∧ (t.sled x).reread = true ∧ (t.sled x).cls = (s.sled x).cls ∧ SameBut [.vault] s t))
  ∧ (∀ s, s.ctlOn = true → s.vault.founded = false → (∀ x : Fin 4, ¬(rd s.pins.sledPrs x = true ∧ (s.sled x).cls = 1)) → s.im.recipes ≠ [] → Does .vaultFounding s (fun t =>
      t.vault.founded = true ∧ ∀ x : Fin 4, (t.sled x).cand = false))
  ∧ (∀ (x : Fin 4) s, s.ctlOn = true → (s.sled x).cls = 6 → (s.sled x).up = true → (s.sled x).mapDone = false → s.pair.drv = true → s.ringsRun x = true → Does (.blockMapDone x) s (fun t =>
      (t.sled x).mapDone = true ∧ t.stage.scan = true ∧ t.stage.scanned = false))
  ∧ (∀ (x : Fin 4) s, s.ctlOn = true → (s.sled x).mapDone = true → (s.sled x).scanDone = false → s.ringsRun x = true → Does (.logScanDone x) s (fun t => (t.sled x).scanDone = true
      ∧ ((∀ y : Fin 4, y ≠ x → (s.sled y).scanDone = true) → t.stage.scanned = true ∧ t.evtBit 8 2 = true)))
  ∧ (∀ s, s.ctlOn = true → (s.top.state = .ready ∧ 600 ≤ s.aon.opSec - s.vault.ecAt) ∨ (s.top.state = .fall ∧ s.vault.ecFall = false) → Does .eraseCountWrite s (fun t =>
      t.vault.ecAt = s.aon.opSec ∧ t.vault.ecFall = (s.top.state == .fall) ∧ (∀ x ∈ s.members, (t.sled x).dev.erases = (s.sled x).erases)
      ∧ t.vault.sysLeft = s.vault.sysLeft
        + (s.members.map (fun x => 2 * ([0, 4].filter (fun c => bitOf (s.sled x).chOk c && !(s.ring (8 * x + c)).failed)).length)).sum))
  ∧ (∀ s, s.ctlOn = true → s.top.state = .fall → s.vault.ecFall = true → Does .eraseCountWrite s (fun t => t = s))
  ∧ (∀ s, s.ctlOn = true → s.saving = true → 6016 ≤ s.save.ents.length → s.save.idxBusy = false → Does .indexFlush s (fun t => t.save.ents = s.save.ents.drop 6016
      ∧ t.save.first = s.save.first + 6016 ∧ t.save.idxBusy = true))
  ∧ (∀ s, s.ctlOn = true → s.vault.reloc.on = false → s.vault.rjob = 0 → s.pair.drv = true → s.inState [.ready, .ride, .service] = true →
      s.stagedUnits.filter (fun u => 2 ^ 29 ≤ s.seqRun u.tag.seq) ≠ [] → Does .materialise s (fun t => t.vault.reloc.on = true ∧ t.vault.reloc.mat = false
        ∧ t.vault.reloc.units = s.stagedUnits.filter (fun u => 2 ^ 29 ≤ s.seqRun u.tag.seq) ∧ SameBut [.vault] s t))
  ∧ (∀ s, s.ctlOn = true → s.vault.rjob = 2 → (s.sled s.vault.jobSled).drainPend = true → (s.sled s.vault.jobSled).switched = false → s.vault.rsusp = false →
      s.inState [.ready, .ride, .service] = true → Does .drainSwitchOut s (fun t =>
        if s.stake.v.sumK ≤ s.stake.v.bTotal then (t.sled s.vault.jobSled).switched = true ∧ t.vault.epoch = s.vault.epoch + 1 ∧ t.stake.v.drainWait = false else t = s))
  ∧ (∀ s, s.ctlOn = true → s.vault.rjob = 2 → s.vault.rpull = true → s.vault.jobSled < 4 → (∀ n : Fin 64, s.ofSled s.vault.jobSled n = true → s.en n = false ∧ s.isOff n = true) →
      Does .drainPullReady s (fun t => (t.sled s.vault.jobSled).pull = true ∧ (t.sled s.vault.jobSled).up = false ∧ t.vault.rjob = 0 ∧ t.vault.job = 2 ∧ t.vault.jobState = 3))

/-- The vault jobs of TOP.CMD (R206, R207, R210, R213 to R216, R458 to R460): accepted they run, or have ended at once; refused they end with STATE 5 and
JOB_STAT shows the rejection. -/
def Obligations.VaultJobs : Prop :=
  (∀ s, PortFree s → s.standbyOk 0x11 = true → s.inState [.ready, .service] = true → s.pair.drv = true → Does .verify s (fun t => t.vault.job = 1 ∧ t.cmd.code = 0x11
      ∧ t.cmd.state ≠ 5 ∧ t.vault.total = min (s.verifyScope.length - (s.jobArg 2).toNat) (min 65536 (s.jobArg 3).toNat)))
  ∧ (∀ s, PortFree s → s.standbyOk 0x12 = true → s.inState [.ready, .service] = true → s.pair.drv = true → s.vault.rjob = 0 → 2 ≤ s.healthyCount → s.sledSound s.argSled = true →
      Does .drain s (fun t => t.vault.job = 2 ∧ t.vault.rjob = 2 ∧ t.vault.jobSled = s.argSled ∧ t.vault.drainAccepted = some s.argSled ∧ t.cmd = { code := 0x12, state := 1 }
        ∧ SameBut [.cmd, .rp, .vault] s t))
  ∧ (∀ s, PortFree s → s.standbyOk 0x13 = true → s.inState [.ready, .service] = true → s.pair.drv = true → s.vault.rjob = 0 → 2 ≤ s.healthyCount →
      Does .rebuild s (fun t => t.vault.job = 3 ∧ t.cmd.code = 0x13 ∧ t.cmd.state ≠ 5 ∧ t.vault.jobState ≠ 6))
  ∧ (∀ s, PortFree s → s.standbyOk 0x14 = true → s.inState [.ready, .service, .ret] = true → s.pair.drv = true → s.exportImage.isSome = true →
      Does .vaultExport s (fun t => t.vault.job = 4 ∧ t.cmd.code = 0x14 ∧ t.cmd.state ≠ 5 ∧ t.vault.total ≤ 16))
  ∧ (∀ s, PortFree s → s.standbyOk 0x15 = true → s.inState [.ready, .service] = true → s.pair.drv = true → s.vault.rjob = 0 → s.anyLive = false ∨ s.argForce = true →
      Does .keyErase s (fun t => t.vault.job = 5 ∧ t.cmd = { code := 0x15, state := 1 } ∧ t.stage.susp = true
        ∧ (if s.paired && s.pair.peer && s.pair.armed && s.pair.complete && s.pair.peerId.isSome then t.vault.keyStep = 3 ∧ t.pair.kxSt = 1 else t.vault.keyStep = 1)
        ∧ ∃ kb, t.vault.keyNew = some kb ∧ kb.keyEpoch = s.vault.keyEpoch + 1))
  ∧ (∀ s, PortFree s → s.standbyOk 0x16 = true → s.inState [.ready, .service] = true → s.pair.drv = true → s.vault.rjob = 0 → rd s.pins.sledPrs s.argSled = true →
      (s.sled s.argSled).up = true → (s.sled s.argSled).cls = 3 ∨ (s.argForce = true ∧ (s.sled s.argSled).cls ∈ [4, 5, 6]) →
      Does .format s (fun t => t.vault.job = 6 ∧ t.cmd.code = 0x16
        ∧ if (s.layAreas s.argSled).isNone then t.cmd.state = 3 ∧ t.vault.jobResult = 3 else t.cmd.state = 1 ∧ (t.sled s.argSled).cls = 3 ∧ (t.sled s.argSled).dev.desc = none))
  ∧ (∀ c code s, (c, code) ∈ [(Instr.verify, 0x11), (.drain, 0x12), (.rebuild, 0x13), (.vaultExport, 0x14), (.keyErase, 0x15), (.format, 0x16)] → PortFree s →
      s.top.state = .ride → Does c s (fun t => t.cmd = { code, state := 5 } ∧ (s.standbyOk code = true → t.vault.jobState = 6) ∧ SameBut [.cmd, .rp, .vault] s t))
  ∧ (∀ c s, c ∈ [Instr.verify, .drain, .rebuild, .vaultExport, .keyErase, .format] → s.ctlOn = true → s.busy = true → Does c s (fun t => t.cmd = s.cmd ∧ t.rp.err = true
      ∧ SameBut [.evt, .rp] s t))

/-! ### Return: restores and host actions (07) -/

/-- The commands of Return (R253, R254, R256, R261 to R263, R377) and the decision of a port at a turn boundary (R248, Table 07-1): the start of a restore, the end of
waiting, the five actions of a host, and the concurrency written. That a decision which awaits the host is pending at once in Ready, and in Return once RET_WAIT has run, is the
model's reading (log entry 172). -/
def Obligations.RestoreCommands : Prop :=
  (∀ (p : Fin 64) s, s.ctlOn = true → s.retStates = true → s.inflight < s.concEff → s.ret.go = true ∨ s.top.state = .ready → (s.restoreQueue.filter s.linkUp).head? = some p.val → s.boundTo p = some (s.lk p).id →
      Does .restoreStart s (fun t => (t.rt p).out = 6 ∧ (t.rt p).ph = 1 ∧ (t.rt p).written = 0 ∧ (t.rt p).lost = 0 ∧ (∀ q : Fin 64, q ≠ p → t.rt q = s.rt q)
        ∧ ((s.lk p).chan.wait = [] → (s.lk p).chan.buf.length < 1024 →
          (t.lk p).chan.buf = (s.lk p).chan.buf ++ [((s.lk p).chan.seq, .req false false false true)]) ∧ SameBut [.links, .ret] s t))
  ∧ (∀ (p : Fin 64) s, s.ctlOn = true → s.retStates = true → s.inflight < s.concEff → s.ret.go = true ∨ s.top.state = .ready → (s.restoreQueue.filter s.linkUp).head? = some p.val →
      s.boundTo p ≠ some (s.lk p).id → Does .restoreStart s (fun t => (t.rt p).out = 2 ∧ (t.rt p).decide = true ∧ (∀ q : Fin 64, q ≠ p → t.rt q = s.rt q)))
  ∧ (∀ s, s.ctlOn = true → s.top.state = .ret → s.ret.waited = false → Does .retWaitExpiry s (fun t => t.ret.waited = true ∧ SameBut [.evt, .ret] s t
      ∧ ∀ p : Fin 64, if (s.rt p).released = false ∧ (s.rt p).pend = false ∧ (awaits (s.rt p).out = true ∨ (s.rt p).out = 5 ∧ s.ret.go = false)
        then (t.rt p).pend = true ∧ (t.rt p).out = (if (s.rt p).out = 1 then 8 else (s.rt p).out) ∧ t.evtBit 7 1 = true else t.rt p = s.rt p))
  ∧ (∀ (p : Fin 64) s, PortFree s → s.retStates = true → awaits (s.rt p).out = true → Does (.retDiscard p) s (fun t => (t.rt p).out = 0xE ∧ (t.rt p).decide = false
      ∧ (t.rt p).pend = false ∧ ((∀ m ∈ s.images, m.port = p.val → s.retired m = true) →
        if s.linkUp p = true ∧ (s.lk p).cstate ≠ 1 then (t.rt p).relMsg = some ((s.lk p).serial, false, true) else (t.rt p).released = true)))
  ∧ (∀ (p src : Fin 64) m s, PortFree s → s.retStates = true → (s.rt p).out = 9 → s.newestLive src = some m → m.squares ≤ (s.lk p).squares →
      Does (.retReassign p src) s (fun t => (t.rt p).out = 5 ∧ (t.rt p).src = src.val ∧ (t.rt p).pend = false ∧ SameBut [.rp, .ret] s t))
  ∧ (∀ (p : Fin 64) s, PortFree s → s.retStates = true → awaits (s.rt p).out = true → Does (.retLeavePending p) s (fun t => (t.rt p).pend = true
      ∧ (t.rt p).out = (if (s.rt p).out = 1 then 8 else (s.rt p).out) ∧ t.evtBit 7 1 = true ∧ SameBut [.evt, .rp, .ret] s t))
  ∧ (∀ (p : Fin 64) m s, PortFree s → s.retStates = true → (s.rt p).out = 0xB → s.portImage p = some m → Does (.retAcceptLoss p) s (fun t => (t.rt p).out = 7
      ∧ (t.rt p).pend = false ∧ (t.rt p).relSent = true ∧ (t.rt p).relMsg = some (m.serial, false, false) ∧ SameBut [.links, .rp, .ret] s t))
  ∧ (∀ (p : Fin 64) s, PortFree s → s.retStates = true → (s.rt p).out = 0xB ∨ (s.rt p).out = 0xD ∨ (s.rt p).pend = true → Does (.retDecideAgain p) s (fun t =>
      (t.rt p).out = 2 ∧ (t.rt p).decide = true ∧ (t.rt p).pend = false ∧ (t.rt p).released = false ∧ SameBut [.links, .rp, .ret] s t))
  ∧ (∀ c (p src : Fin 64) s, c ∈ [Instr.retDiscard p, .retReassign p src, .retLeavePending p, .retAcceptLoss p, .retDecideAgain p] → PortFree s → s.retStates = false →
      Does c s (fun t => (t.rt p) = { s.rt p with actRej := true } ∧ (∀ q : Fin 64, q ≠ p → t.rt q = s.rt q) ∧ SameBut [.rp, .ret] s t))
  ∧ (∀ w s, PortFree s → Does (.retConcWrite w) s (fun t => bitsOf (rd t.ctrl 7) 3 1 = min (bitsOf w 3 1) s.im.pol.conc
      ∧ (s.im.pol.conc < bitsOf w 3 1 → t.evtBit 7 3 = true) ∧ SameBut [.ctrl, .evt, .rp] s t))
  ∧ (∀ s, s.ctlOn = true → s.inTable = true → s.fab.fallback = true → s.top.state = .ret → s.staggerAt < s.clk.turnStart + 1000000 → Does .tableStaggerExpiry s (fun t =>
      t = { s with fab := { s.fab with stagger := true } } ∧ t.tableGo = (s.fab.grant.isNone || s.tableGo)))
  ∧ (∀ s, s.ctlOn = true → s.clk.turnStart + 1000000 ≤ max (s.clk.turnStart - s.top.turnsIn * 1000000) s.fab.fallAt
      + s.fab.tbl.stagT * (s.member s.ownSlot).order * 1000000000 → Does .tableStaggerExpiry s (fun t => t = s))
  ∧ (∀ (p : Fin 64) (s : State), (s.rt p).decide = false → s.decidePort p = s)
  ∧ (∀ (p : Fin 64) (s : State), (s.rt p).decide = true → s.newestLive p = none → s.linkUp p = false → ((s.decidePort p).rt p).out = 0 ∧ ((s.decidePort p).rt p).decide = false)
  ∧ (∀ (p : Fin 64) m (s : State), (s.rt p).decide = true → s.newestLive p = some m → s.linkUp p = false → (s.rt p).ident = false →
      ((s.decidePort p).rt p).out = (if s.retStates && (s.top.state == .ready || s.ret.waited) then 8 else 1))
  ∧ (∀ (p : Fin 64) (s : State), (s.rt p).decide = true → s.newestLive p = none → s.linkUp p = true → (s.lk p).en = true → (s.rt p).ident = true →
      let t := s.decidePort p
      (t.rt p).decide = false ∧ (t.rt p).out = (if (s.elsewhere p).isSome then 9 else 3)
      ∧ (s.elsewhere p = none → if (s.lk p).cstate = 1 then (t.rt p).released = true else (t.rt p).relMsg = some ((s.lk p).serial, true, !(s.lk p).intact)))
  ∧ (∀ (p : Fin 64) m (s : State), (s.rt p).decide = true → s.newestLive p = some m → (s.rt p).ident = true → (s.rt p).check.isSome = true →
      let t := s.decidePort p
      (t.rt p).decide = false ∧ (t.rt p).out = (if (s.lk p).cstate = 1 then 0xC else if (s.lk p).id ≠ m.adapter then 9 else if (s.lk p).squares ≠ m.squares then 0xA
          else if s.thawFail p m = 0 then 4 else 5)
      ∧ ((t.rt p).out = 4 → (t.rt p).relMsg = some (m.serial, true, false) ∧ (t.rt p).relSent = true)
      ∧ ((t.rt p).out ∈ [0xC, 9, 0xA] → ((t.rt p).pend = true ↔ (s.rt p).pend = true ∨ s.retStates = true ∧ (s.top.state = .ready ∨ s.ret.waited = true))))

/-! ### Hold-up strings (08) -/

/-- Sampling, presence and anchors of a string (R268 to R278, R283, R504): an input's code is the nearest one, clipped to the 16 bits. That a half rounds upward is the model's
choice (log entry 228); that the inputs come with the strobe is its choice too (log entry 86). -/
def Obligations.StringSamplesAndAnchors : Prop :=
  (∀ (volts : List (Int × Int × Int)) s, s.ctlOn = true → let codes := volts.map tripletCodes
    Does (.sampleStrobe volts) s (fun t => t.nrg.strobe = s.nrg.strobe + 1 ∧ ∀ k : Fin 16,
      ((s.strCfg k).configured = false → t.str k = s.str k)
      ∧ ((s.strCfg k).configured = true → (s.str k).fast = true → (s.str k).sense = false →
        (t.str k).v = convert (codes.getD (s.strCfg k).triplet (0, 0, 0)).1 (s.strCfg k).vGain (s.strCfg k).vOfs
        ∧ (t.str k).i = convert (codes.getD (s.strCfg k).triplet (0, 0, 0)).2.1 (s.strCfg k).iGain (s.strCfg k).iOfs
        ∧ (t.str k).t = convert (codes.getD (s.strCfg k).triplet (0, 0, 0)).2.2 (s.strCfg k).tGain (s.strCfg k).tOfs)))
  ∧ (∀ full v : Int, 0 < full → (let c := toSigned 16 (strCode full v); -32768 ≤ c ∧ c ≤ 32767 ∧ (c ≠ 32767 → 65534 * v + full < 2 * full * (c + 1)) ∧ (c ≠ -32768 → 2 * full * c ≤ 65534 * v + full)))
  ∧ (∀ (k : Fin 16) s, s.ctlOn = true → (s.strCfg k).configured = true → (s.str k).fast = false → Does (.currentWake k) s (fun t => t.str k = { s.str k with fast := true }
      ∧ (rd t.nrg.c k).woke = true ∧ (rd t.nrg.c k).quietRun = 0 ∧ SameBut [.aon, .nrg] s t))
  ∧ (∀ (k : Fin 16) s, s.ctlOn = true → (s.str k).fast = true → 4000 ≤ (rd s.nrg.c k).quietRun → Does (.quietRateEntry k) s (fun t =>
      t.str k = { s.str k with fast := false } ∧ SameBut [.aon, .nrg] s t
      ∧ ((∀ j < k.val, (s.strCfg j).configured = false ∨ (s.str j).fast = true) → (rd t.nrg.c k).phase = k)))
  ∧ (∀ (k : Fin 16) p s, s.ctlOn = true → (rd s.nrg.c k).presUs = some p → (s.str k).present = false → (s.strCfg k).configured = true → 100000 ≤ s.strobeUs - p →
      Does (.insertion k) s (fun t => (t.str k).present = true ∧ (t.str k).c = (s.strCfg k).cNom * (s.strCfg k).hMin / 1000
        ∧ (t.str k).q = ((socOf (s.strCurve k) (s.str k).t (meanF (rd s.nrg.c k).oc8) * (t.str k).c / 65536 : Nat) : Int) ∧ (t.str k).conf = true ∧ (t.str k).unres = true
        ∧ (t.str k).learned = false ∧ t.evtBit 5 4 = true))
  ∧ (∀ (k : Fin 16) s, s.ctlOn = true → (s.str k).present = true → 8 ≤ (rd s.nrg.c k).absRun → Does (.removal k) s (fun t =>
      t.str k = { s.str k with present := false, c := 0, runOpen := false, runOk := false } ∧ t.evtBit 5 5 = true ∧ (s.learning12 k = true → t.nrg.learnAbort = true)
      ∧ SameBut [.aon, .evt, .ledg, .nrg] s t))
  ∧ (∀ (k : Fin 16) s, s.ctlOn = true → (s.str k).sense = false → 8 ≤ (rd s.nrg.c k).badRun → Does (.senseFault k) s (fun t =>
      t.str k = { s.str k with sense := true, runOk := false } ∧ t.subLive (82 + k) 0xFFFF = true ∧ (s.learning12 k = true → t.nrg.learnAbort = true)))
  ∧ (∀ (k : Fin 16) p s, s.ctlOn = true → (rd s.nrg.c k).fullUs = some p → (s.str k).present = true → (s.str k).sense = false → (rd s.nrg.c k).fullDone = false →
      60000000 ≤ s.strobeUs - p → Does (.fullAnchor k) s (fun t => (t.str k).q = ((s.str k).c : Int) ∧ (t.str k).c = (s.str k).c ∧ (t.str k).r = 0 ∧ (t.str k).conf = false
        ∧ (t.str k).full = true ∧ (t.str k).lastFull = s.aon.opSec ∧ t.evtBit 5 0 = true))
  ∧ (∀ (k : Fin 16) s, s.ctlOn = true → (s.str k).present = true → 8 ≤ (rd s.nrg.c k).emptyRun → (rd s.nrg.c k).emptyDone = false → Does (.emptyAnchor k) s (fun t =>
      (t.str k).q = 0 ∧ ((s.str k).q ≠ 0 → (t.str k).r = 0) ∧ t.evtBit 5 0 = true ∧ (t.str k).runOpen = false
      ∧ (t.str k).vwins = (if 0 < (s.str k).q then satAdd 0xFFFF (s.str k).vwins 1 else (s.str k).vwins)
      ∧ (t.str k).overdraws = (if (s.str k).q < 0 then satAdd 0xFFFF (s.str k).overdraws 1 else (s.str k).overdraws)
      ∧ (let cNew := min (((s.str k).c : Int) - (s.str k).q).toNat ((s.strCfg k).cNom * (s.strCfg k).cMax / 1000)
         if (s.str k).runOpen = true ∧ (s.str k).runOk = true then
           if 5 * ((cNew : Int) - (s.str k).c).natAbs ≤ (s.str k).c then (t.str k).learned = true ∧ (t.str k).c = cNew
           else (t.str k).hasCand = true ∧ (t.str k).cand = cNew ∧ (t.str k).c = (s.str k).c
         else (t.str k).c = (s.str k).c)))

/-- Learning and the host's part in it, the state image's latch and its restore, and what a turn boundary does with strings (R279 to R282, R287 to R289, R291, R293, R295,
R458 to R460): the energy figures of a string and E_pot by their formulas, the discharge's steps and its abort, which a standby leaves to the holder, and the commit of a
restore, unless an abort acts at that boundary. That a long command refused shows STATE 5, and that a standby takes no START, are the model's (log entries 90 and 222). -/
def Obligations.StringHostCommands : Prop :=
  (∀ (k : Fin 16) s, PortFree s → Does (.candAccept k) s (fun t => t.nrg = { s.nrg with candAct := s.nrg.candAct ++ [(k.val, true)] } ∧ t.rp.err = false ∧ SameBut [.nrg, .rp] s t))
  ∧ (∀ (k : Fin 16) s, PortFree s → Does (.candReject k) s (fun t => t.nrg = { s.nrg with candAct := s.nrg.candAct ++ [(k.val, false)] } ∧ t.rp.err = false ∧ SameBut [.nrg, .rp] s t))
  ∧ (∀ (k : Fin 16) s, PortFree s → s.pair.standby = false → s.aon.learnSt ∉ [1, 2, 3] → s.inState [.ready, .service] = true → (s.strCfg k).configured = true → (s.str k).present = true →
      (s.strCfg k).isoSlot < 64 → (s.strCfg k).loadSlot < 64 → (s.str k).sense = false → s.stake.v.short = false →
      (s.sumU ≤ s.bTotalOf s.stake.v.bwV (let e := s.nrg.eSum - (if (s.str k).inSum then (s.str k).eStr else 0)
        match s.potP with | some v => min v e * s.nrg.num / s.nrg.den | none => e)) →
      Does (.learnStart k) s (fun t => t.aon = { s.aon with learnStr := k, learnSt := 1, learnRes := 0, learnAt := s.aon.opSec, learnHold := false }
        ∧ SameBut [.aon, .nrg, .rp] s t))
  ∧ (∀ (k : Fin 16) s, PortFree s → s.pair.standby = true → Does (.learnStart k) s (SameBut [.rp] s))
  ∧ (∀ (k : Fin 16) s, PortFree s → s.pair.standby = false → s.aon.learnSt ∉ [1, 2, 3] → (s.str k).sense = true ∨ s.inState [.ready, .service] = false → Does (.learnStart k) s (fun t =>
      t.aon = { s.aon with learnStr := k, learnSt := 6 } ∧ t.evtBit 5 6 = true ∧ SameBut [.aon, .evt, .rp] s t))
  ∧ (∀ (k : Fin 16) s, PortFree s → s.pair.standby = false → s.aon.learnSt = 1 ∨ s.aon.learnSt = 2 → Does (.learnAbort k) s (fun t => t.nrg = { s.nrg with learnAbort := true } ∧ SameBut [.nrg, .rp] s t))
  ∧ (∀ s, s.ctlOn = true → s.pair.standby = false → s.aon.learnSt = 1 ∨ s.aon.learnSt = 2 → s.aon.opSec < 2 ^ 32 → 86400 ≤ (s.aon.opSec + 2 ^ 32 - s.aon.learnAt % 2 ^ 32) % 2 ^ 32 → Does .learnTimeout s (fun t =>
      t = { s with nrg := { s.nrg with learnAbort := true } }))
  ∧ (∀ w s, PortFree s → Does (.nrgLatch w) s (fun t => t.ctrlBit 5 0 = true ∧ (∀ b ∈ [1, 2, 3, 4], t.ctrlBit 5 b = w.getLsbD b) ∧ SameBut [.ctrl, .rp] s t))
  ∧ (∀ s, PortFree s → s.standbyOk 8 = true → s.bankCopy.restoreCheck = 0 → Does .estimatorRestore s (fun t => t.cmd = { code := 8, state := 1 }
      ∧ t.nrg = { s.nrg with restore := some (BitVec.ofNat 16 (bitsOf s.nrg.rstArg 15 0)) } ∧ t.aon = s.bankCopy.aon ∧ SameBut [.aon, .cmd, .nrg, .rp] s t))
  ∧ (∀ s, PortFree s → s.standbyOk 8 = true → s.bankCopy.restoreCheck ≠ 0 → Does .estimatorRestore s (fun t => t.cmd = { code := 8, state := 5 }
      ∧ t.nrg = { s.nrg with rstResult := s.bankCopy.restoreCheck } ∧ t.evtBit 5 8 = true ∧ SameBut [.cmd, .evt, .ledg, .nrg, .rp] s t))
  ∧ (∀ (k : Fin 16) (s : State), (s.str k).present = true → (s.str k).c ≠ 0 →
      let x := s.str k
      let f := ktAt (s.strCurve k) x.t * (s.strCfg k).eta * (if x.conf then (s.strCfg k).conf else 1000)
      let qc := min (max x.q 0) x.c
      let sc := (qc.toNat * 65536) / x.c
      let sv := socOf (s.strCurve k) x.t (meanF (rd s.nrg.c k).oc8)
      let e := fun (q : Int) (soc : Nat) => (((q * avlAt (s.strCurve k) soc x.t).tdiv 1000000 * f).tdiv 1000000000).toNat
      let y := (s.strEnergy k).str k
      y.eCnt = e qc sc ∧ y.eVolt = e ((sv * x.c / 65536 : Nat) : Int) sv ∧ y.eStr = min y.eCnt y.eVolt)
  ∧ (∀ (p : Option Nat) (s : State),
      let t := s.ePotUpdate p
      t.nrg.eSum = sumN 16 (fun k => if t.countsIn k then (t.str k).eStr else 0)
      ∧ t.nrg.ePot = (match p with | none => t.nrg.eSum | some v => min v t.nrg.eSum * s.nrg.num / s.nrg.den))
  ∧ (∀ s : State, s.nrg.learnAbort = true → s.aon.learnSt = 1 ∨ s.aon.learnSt = 2 → s.top.state ≠ .boot →
      s.learnStep.aon.learnSt = 5 ∧ s.learnStep.aon.learnRes = 3 ∧ s.learnStep.nrg.learnAbort = false ∧ s.learnStep.evtBit 5 6 = true)
  ∧ (∀ s : State, s.nrg.learnAbort = false → s.nrg.learnGo = true → s.aon.learnSt = 1 ∨ s.aon.learnSt = 2 →
      s.learnStep.aon.learnSt = s.aon.learnSt + 1 ∧ s.learnStep.nrg.learnGo = false ∧ s.learnStep.aon.learnAt = (if s.aon.learnSt = 1 then s.aon.opSec else s.aon.learnAt))
  ∧ (∀ s : State, s.nrg.learnAbort = false → s.nrg.learnGo = false → s.learnStep.aon.learnSt = s.aon.learnSt)
  ∧ (∀ s : State, s.pair.standby = true → s.energyTurn.aon.learnSt = s.aon.learnSt)
  ∧ (∀ mask (s : State), s.nrg.restore = some mask → s.cmd.abortPend = false → s.energyTurn.aon.bank = s.spareBank ∧ s.energyTurn.nrg.restore = none
      ∧ s.energyTurn.nrg.rstResult = 1)
  ∧ (∀ s : State, s.nrg.restore = none ∨ s.cmd.abortPend = true → s.energyTurn.aon.bank = s.aon.bank ∧ s.energyTurn.nrg.restore = s.nrg.restore)

/-! ### Rail sequencing (09) -/

/-- The ticks of the sequencer and a slot's qualification (R301 to R305, R308, R311, R312): samples taken, a slot whose delay has passed enabled, a slot of a
down sequence disabled, good for T_QUAL qualified, chatter counted, a slot that does not fall found stuck. -/
def Obligations.SequencerTicksAndSlots : Prop :=
  (∀ pg win s, s.ctlOn = true → Does (.railUpTick pg win) s (fun t => t.seq.up = s.seq.up + 1
      ∧ (∀ n : Fin 64, (s.slotCfg n).cls ≠ 0 → (t.slot n).pg = pg.getLsbD n ∧ (n.val < 16 → (t.slot n).win = win.toNat / 16 ^ n.val % 16))
      ∧ (s.bimg.running = true → t.pins.backupGood = decide (win.toNat / 16 ^ s.im.seq.busSlot % 16 < 4))))
  ∧ (∀ pg win (n : Fin 64) s, s.ctlOn = true → s.seq.rising = true → (s.slot n).st = 3 → 1 ≤ (s.slot n).rise → (s.slotCfg n).role ∉ [2, 4] → (s.slotCfg n).cls ≠ 0 →
      (s.slotCfg n).shared = false ∨ s.pair.drv = true → (s.slotCfg n).delay ≤ s.seq.up + 1 - (s.slot n).tD → Does (.railUpTick pg win) s (fun t =>
        t.en n = true ∧ (t.slot n).st = 4 ∧ (t.slot n).tS = s.seq.up + 1))
  ∧ (∀ s, s.ctlOn = true → Does .railDownTick s (fun t => t.seq.dn = s.seq.dn + 1))
  ∧ (∀ (n : Fin 64) d s, s.ctlOn = true → s.seq.downs = [d] → d.set.getLsbD n = true → (s.slot n).st = 6 → (s.slotCfg n).role ≠ 4 → (s.slotCfg n).cls ≠ 0 →
      (s.slotCfg n).shared = false ∨ s.pair.drv = true → (s.slotCfg n).ddelay ≤ s.seq.dn + 1 - (s.slot n).tF → Does .railDownTick s (fun t => t.en n = false))
  ∧ (∀ (n : Fin 64) q s, s.ctlOn = true → (s.slot n).tQ = some q → (s.slot n).st = 4 → (s.slotCfg n).tQual ≤ s.seq.up - q → Does (.slotQualify n) s (fun t =>
      (t.slot n).st = 5 ∧ SameBut [.seq] s t))
  ∧ (∀ (n : Fin 64) s, s.ctlOn = true → (s.slot n).st = 4 → (s.slot n).goodOnce = true → Does (.chatterEdge n) s (fun t => (t.slot n).chatter = satAdd 0xFFFF (s.slot n).chatter 1
      ∧ (t.slot n).tQ = none ∧ (t.slot n).st = 4 ∧ (∀ m : Fin 64, m ≠ n → t.slot m = s.slot m) ∧ SameBut [.evt, .ledg, .seq] s t))
  ∧ (∀ (n : Fin 64) q s, s.ctlOn = true → (s.slot n).offAt = some q → s.en n = false → (s.slot n).belowOff = false → (s.slot n).stuck = false →
      (∃ d ∈ s.seq.downs, d.set.getLsbD n = true) → s.im.seq.stuckT * 10 ≤ s.seq.dn - q → Does (.slotStuck n) s (fun t => (t.slot n).stuck = true ∧ t.subLive 124 n = true ∧ t.seq.lastCause = 5 ∧ t.seq.lastSlot = n
        ∧ t.evtBit 4 5 = true ∧ SameBut [.evt, .flt, .ledg, .seq] s t))
  ∧ (∀ (codes : List (BitVec 12)) s, s.ctlOn = true → Does (.vsScan codes) s (fun t => t.seq.scanAt = s.clk.l ∧ SameBut [.seq] s t ∧ ∀ n : Fin 64,
      (t.slot n).vs = (codes.map (·.toNat)).getD n 0 * (s.slotCfg n).scale / 4096
      ∧ (t.slot n).belowOff = (decide ((t.slot n).vs < (s.slotCfg n).vOff) && decide (1 ≤ (s.slot n).belowRun)) ∧ (t.slot n).st = (s.slot n).st))

/-- What fails a rise, what a rest is followed by, running supervision, the shared fault line (R306, R312, R314 to R320, R328). -/
def Obligations.SequencerFailuresAndSupervision : Prop :=
  (∀ (n : Fin 64) s, s.ctlOn = true → (s.slot n).st = 4 → (s.slot n).rise ≠ 0 → (s.slotCfg n).tOut * 10 ≤ s.seq.up - (s.slot n).tS → Does (.slotTimeout n) s (fun t =>
      (t.slot n).st = 7 ∧ t.seq.lastCause = 1 ∧ t.seq.lastSlot = n ∧ t.evtBit 4 0 = true))
  ∧ (∀ (n : Fin 64) s, s.ctlOn = true → (s.slot n).st = 5 → (s.slot n).rise ≠ 0 → Does (.slotGoodLost n) s (fun t =>
      (t.slot n).st = 7 ∧ t.seq.lastCause = 2 ∧ t.seq.lastSlot = n ∧ t.evtBit 4 0 = true))
  ∧ (∀ (n : Fin 64) s, s.ctlOn = true → (s.slot n).st = 5 → (s.slot n).rise = 1 → (s.slotCfg n).role ≠ 3 → s.top.state = .rise → Does (.slotGoodLost n) s (fun t =>
      t.seq.fails = satAdd 0xFFFF s.seq.fails 1 ∧ t.seq.rising = false
      ∧ ∃ d ∈ t.seq.downs, d.kind = (if s.seq.attempt < s.im.seq.nRetry then .attempt else .attemptLatch)))
  ∧ (∀ s, s.ctlOn = true → s.seq.resting = some .attempt → s.top.state = .rise → Does (.restExpiry none) s (fun t => t.seq.attempt = s.seq.attempt + 1
      ∧ t.seq.resting = none ∧ (if s.pins.seqfltLow = false ∧ s.inputPresent = true then t.seq.lastCause = 3 ∧ t.evtBit 4 1 = true else t.seq.phase = 5)))
  ∧ (∀ (x : Fin 4) s, s.ctlOn = true → rd s.seq.sledRest x = true → Does (.restExpiry (some x)) s (fun t => rd t.seq.sledRest x = false ∧ t.seq.lastCause = 3
      ∧ t.evtBit 4 1 = true))
  ∧ (∀ s, s.ctlOn = true → s.seq.resting = some .holdProfile ∨ s.seq.resting = some .fallRun → Does (.restExpiry none) s (fun t =>
      t = { s with seq := { s.seq with restDone := true } }))
  ∧ (∀ (n : Fin 64) s, s.ctlOn = true → (s.slot n).st = 5 → (s.slot n).rise = 0 → (s.slot n).fault = false → Does (.railFault n) s (fun t => (t.slot n).fault = true
      ∧ t.subLive (114 + n.val / 8) n = true ∧ t.seq.lastCause = 7 ∧ t.seq.lastSlot = n ∧ t.evtBit 4 4 = true
      ∧ ((s.slotCfg n).role = 3 → (s.slotCfg n).sled < 4 → (t.sled (s.slotCfg n).sled).cls = 7)))
  ∧ (∀ (n : Fin 64) s, s.ctlOn = true → (s.slotCfg n).cls = 2 → (s.slot n).st = 5 → (s.slot n).rise = 0 → (s.slot n).mask = false → (s.slot n).warn = false →
      Does (.railWarn n) s (fun t => t.slot n = { s.slot n with warn := true } ∧ t.subLive (122 + n.val / 8) n = true ∧ t.evtBit 4 4 = true
        ∧ SameBut [.evt, .flt, .seq] s t))
  ∧ (∀ s, s.ctlOn = true → s.seq.drv = false → Does .seqfltLow s (fun t => t.pins = { s.pins with seqfltLow := true } ∧ t.seq.ext = satAdd 0xFFFF s.seq.ext 1
      ∧ t.seq.lastCause = 6 ∧ t.evtBit 4 8 = true ∧ (s.pair.drv = true → s.inState [.ready, .ride, .service, .ret] = true → t.top = { s.top with wantSeqflt := true })))
  ∧ (∀ s, s.seq.drv = true → Does .seqfltLow s (fun t => t = s))

/-- The host's part of sequencing: a snapshot, the retry of slots fallen in Service, margining, its acknowledgement and its retries (R317, R325 to R328, R467, R470). The
packet error code of a write leaves no remainder: that it is SMBus's CRC-8 is presumed (log entry 184). That a write to an unused slot does nothing, and that an acknowledged write
ends the slot's sub-source of RAIL_MARGIN, are the model's (log entries 198 and 205). -/
def Obligations.SequencerHostCommands : Prop :=
  (∀ w s, PortFree s → Does (.seqSnapRequest w) s (fun t => t.seq.lastCause = 8 ∧ t.seq.lastSlot = 0xFF ∧ t.seq.snaps = satAdd 0xFFFF s.seq.snaps 1 ∧ t.seq.snap.length = 1024))
  ∧ (∀ w (n : Fin 64) s, PortFree s → s.top.state = .service → (∀ d ∈ s.seq.downs, d.kind ≠ .service) → (s.slot n).svcDown = true → (s.slotCfg n).role ∉ [3, 4] →
      s.en n = false → Does (.svcRetry w) s (fun t => (t.slot n).st = 2 ∧ (t.slot n).rise = 3 ∧ (t.slot n).svcDown = false))
  ∧ (∀ w d s, PortFree s → s.top.state = .service → d ∈ s.seq.downs → d.kind = .service → Does (.svcRetry w) s (fun t => t.seq.svcRetry = true))
  ∧ (∀ w s, PortFree s → s.top.state ≠ .service → w.getLsbD 4 = false → Does (.svcRetry w) s (fun t => t.seq = s.seq))
  ∧ (∀ (n : Fin 64) (dir : BitVec 2) (target : BitVec 16) s, PortFree s → s.top.state = .service → (s.slotCfg n).cls ≠ 0 → (s.slotCfg n).pmb ≠ 0x7F → s.im.core.pmbSpeed = 2 →
      (∀ m : Fin 64, m ≠ n → (s.slotCfg m).pmb ≠ 0x7F → s.sameDevice (s.slotCfg m).pmb (s.slotCfg n).pmb = true → margined (s.slot m) = false) →
      Does (.marginWrite n dir target) s (fun t => (t.slot n).dir = dir.toNat ∧ (t.slot n).target = clipTarget (s.slotCfg n) target.toNat
        ∧ (t.slot n).mclip = ((t.slot n).target != target.toNat) ∧ (t.slot n).mask = true ∧ (t.slot n).ack = false
        ∧ ((t.slot n).target ≠ target.toNat → t.evtBit 4 7 = true)
        ∧ t.rp.tx.getLast? = some (s.txWrite (s.slotCfg n).pmb (some n) 0x01 (if dir = 1 then 0x98 else if dir = 2 then 0xA8 else 0x80))))
  ∧ (∀ (d : Nat) (slot : Option Nat) (v : Nat) (s : State), let x := s.txWrite d slot 0x01 v
      x.dev = d ∧ x.addr = (rd s.im.pmb d).addr ∧ x.page = (rd s.im.pmb d).page ∧ x.cmd = 0x01 ∧ x.data = some v ∧ x.left = 2 ∧ x.slot = slot
        ∧ x.pec = some (pecOf [BitVec.ofNat 8 (2 * x.addr), 0x01#8, BitVec.ofNat 8 v]))
  ∧ (∀ l : List Byte, pecOf (l ++ [pecOf l]) = 0#8)
  ∧ (∀ (n : Fin 64) dir target s, PortFree s → s.top.state ≠ .service → Does (.marginWrite n dir target) s (SameBut [.rp] s))
  ∧ (∀ (n : Fin 64) ok s, s.ctlOn = true → s.pmbRuns = false → Does (.marginAck n ok) s (fun t => t = s))
  ∧ (∀ (n : Fin 64) s, s.ctlOn = true → s.pmbRuns = true → (s.slot n).cancel = false → (s.slot n).mask = true → (s.slot n).ack = false → Does (.marginAck n true) s (fun t =>
      (t.slot n).ack = true ∧ (t.slot n).warnLo = (if margined (s.slot n) then moveLevel (s.slotCfg n) (s.slotCfg n).warnLo (s.slot n).target else (s.slotCfg n).warnLo)
      ∧ (t.slot n).warnHi = (if margined (s.slot n) then moveLevel (s.slotCfg n) (s.slotCfg n).warnHi (s.slot n).target else (s.slotCfg n).warnHi) ∧ t.subLive 125 n = false
        ∧ (∀ x ∈ t.rp.tx, x.slot ≠ some n.val) ∧ SameBut [.flt, .rp, .seq] s t))
  ∧ (∀ (n : Fin 64) x s, s.ctlOn = true → s.pmbRuns = true → (s.slot n).cancel = false → (s.slot n).mask = true → (s.slot n).ack = false →
      s.rp.tx.find? (fun t => t.slot == some n.val && t.cmd == 0x01) = some x → Does (.marginAck n false) s (fun t => t.slot n = s.slot n ∧ SameBut [.rp] s t
        ∧ t.rp.tx = s.rp.tx.filter (fun y => y.slot != some n.val) ++ (if x.left = 0 then [] else [{ x with left := x.left - 1 }])))
  ∧ (∀ (n : Fin 64) s, s.ctlOn = true → s.pmbRuns = true → (s.slot n).cancel = true → (s.slot n).tries ≠ 0 → Does (.marginAck n false) s (fun t =>
      t.slot n = { s.slot n with tries := (s.slot n).tries - 1 } ∧ t.rp.tx = s.rp.tx.filter (fun y => y.slot != some n.val) ++ (s.slot n).ctx.toList ∧ SameBut [.rp, .seq] s t))
  ∧ (∀ (n : Fin 64) s, s.ctlOn = true → s.pmbRuns = true → (s.slot n).cancel = true → (s.slot n).tries = 0 → Does (.marginAck n false) s (fun t =>
      t.slot n = { s.slot n with cancel := false, ctx := none } ∧ t.subLive 125 n = true ∧ SameBut [.flt, .rp, .seq] s t))
  ∧ (∀ (n : Fin 64) s, s.ctlOn = true → (s.slot n).ack = true → (s.slot n).cancel = false → Does (.warnMaskEnd n) s (fun t =>
      t.slot n = { s.slot n with mask := false } ∧ (∀ m : Fin 64, m ≠ n → t.slot m = s.slot m) ∧ SameBut [.seq] s t))

/-! ### The pair (10) -/

/-- The token and the partner's loss (R302, R330 to R332, R335, R336, R342): the keeper's part, the loss declared, the sampling of TOKEN_N, the hold-off, the two
channels. Which SHARED EN_nn go with TOKEN_N, and that a cut-off controller of the away seat claims after its hold-off, are the model's (log entries 203 and 178). -/
def Obligations.PairTokenAndLoss : Prop :=
  (∀ s, Does .keeperHbStop s (fun t => t = { s with pair := { s.pair with hbOut := false } }))
  ∧ (∀ s, Does .keeperTokenRelease s (fun t => t = { s with
      pair := { s.pair with drv := false, hbOut := false }, aon := { s.aon with rel := s.aon.rel ||| (s.aon.shared &&& ~~~(s.aon.en ^^^ s.pulls)) } }))
  ∧ (∀ s, s.ctlOn = true → s.paired = true → Does .partnerLoss s (fun t => t.pair.hbOk = false ∧ t.pair.plUp = false ∧ t.subLive 126 0xFFFF = true ∧ t.subLive 127 0xFFFF = true
      ∧ t.evtBit 9 1 = true ∧ t.pair.drv = s.pair.drv ∧ t.pair.peer = false ∧ (s.pair.drv = true → t.pair.armed = false)
      ∧ (s.pair.standby = true → t.pair.occ = .loss ∧ t.pair.sampling = true ∧ t.pair.ready = !s.pins.awaySeat ∧ (s.pair.drv = false → t.pair.armed = s.pair.armed))))
  ∧ (∀ s, s.ctlOn = true → s.pair.standby = true → s.pair.sampling = true → Does (.lossSampleEnd true) s (fun t => t.pair.cutOff = true ∧ t.pair.armed = false
      ∧ t.pair.occ = .cutOff ∧ t.pair.sampling = false ∧ t.pair.ready = !s.pins.awaySeat ∧ t.evtBit 9 2 = true ∧ t.pins = { s.pins with tokenLow := true }
      ∧ t.aon = { s.aon with rel := s.aon.rel ||| s.aon.shared } ∧ SameBut [.pins, .aon, .evt, .ledg, .pair] s t))
  ∧ (∀ s, s.ctlOn = true → s.pair.standby = true → s.pair.sampling = true → Does (.lossSampleEnd false) s (fun t =>
      t = { s with pair := { s.pair with sampling := false }, pins := { s.pins with tokenLow := false } }))
  ∧ (∀ s, s.ctlOn = true → s.pair.occ ≠ .none → s.pair.drv = false → Does .claimHoldoffEnd s (fun t => t = { s with pair := { s.pair with ready := true } }))
  ∧ (∀ s, s.ctlOn = true → Does .hbInEdge s (fun t => t.pair = { s.pair with hbOk := true } ∧ t.subLive 126 0xFFFF = false ∧ SameBut [.flt, .pair] s t))
  ∧ (∀ s, s.ctlOn = true → Does (.partnerChannelSilent true) s (fun t => t.pair = { s.pair with hbOk := false } ∧ t.subLive 126 0xFFFF = s.paired ∧ SameBut [.flt, .pair] s t))
  ∧ (∀ s, s.ctlOn = true → Does (.partnerChannelSilent false) s (fun t => t.pair = { s.pair with plUp := false } ∧ t.subLive 127 0xFFFF = s.paired ∧ SameBut [.flt, .pair] s t))

/-- A claim of the token (R302, R332, R334, R343, R344, R346): every success counts EPOCH on and makes this controller the holder; which takeover it is follows from its
occasion and from whether a frame is in force; a claim that may not be made changes nothing. After a re-trip or a resumed save the rings settle. That the first claim of a Boot is
no takeover, and that a holder drives the SHARED EN_nn it finds at high impedance at the level of their pull, are the model's readings (log entries 74 and 203). -/
def Obligations.TokenClaims : Prop :=
  (∀ frz sleds s, s.pair.ready = false ∨ s.pair.drv = true → Does (.tokenClaim frz sleds) s (fun t => t = s))
  ∧ (∀ frz sleds s, s.ctlOn = true → s.pair.ready = true → s.pair.drv = false → s.pair.occ = .boot → Does (.tokenClaim frz sleds) s (fun t => t.pair.drv = true
      ∧ t.pair.standby = false ∧ t.pair.hbOut = true ∧ t.pair.occ = .none ∧ t.pair.ready = false ∧ (let m := s.aon.rel &&& s.aon.shared
        t.aon = { s.aon with epoch := (s.aon.epoch + 1) % 65536, en := (s.aon.en &&& ~~~m) ||| (s.pulls &&& m), rel := s.aon.rel &&& ~~~m })
      ∧ t.pins = { s.pins with tokenLow := false } ∧ SameBut [.clk, .pins, .aon, .pair] s t))
  ∧ (∀ frz sleds s, s.ctlOn = true → s.pair.ready = true → s.pair.drv = false → s.pair.occ ∈ [.loss, .yield, .cutOff] → s.pair.armed = true → s.pair.frame.isSome = true →
      Does (.tokenClaim frz sleds) s (fun t => t.pair.drv = true ∧ t.pair.standby = false ∧ t.pair.peer = false ∧ t.pair.tkoKind = 1
        ∧ t.pair.takeovers = satAdd 0xFFFF s.pair.takeovers 1 ∧ t.evtBit 9 0 = true ∧ t.aon.epoch = (s.aon.epoch + 1) % 65536 ∧ t.aon.drillAge = 0))
  ∧ (∀ frz sleds s, s.ctlOn = true → s.pair.ready = true → s.pair.drv = false → s.pair.occ ∈ [.loss, .yield, .cutOff] → s.pair.armed = false ∨ s.pair.frame = none →
      Does (.tokenClaim frz sleds) s (fun t => t.pair.drv = true ∧ t.pair.standby = false ∧ t.pair.peer = false ∧ t.pair.tkoKind = 2 ∧ t.pair.coldDue = true
        ∧ t.pair.takeovers = satAdd 0xFFFF s.pair.takeovers 1 ∧ t.evtBit 9 0 = true ∧ t.evtBit 9 8 = true ∧ t.aon.epoch = (s.aon.epoch + 1) % 65536
        ∧ t.top.frz = 0xFF#8 ∧ ∀ p : Fin 64, (t.stk p).s = 0 ∧ (t.stk p).k = 0 ∧ (t.stk p).cov = 0 ∧ (t.stkQ p).elig = false))
  ∧ (∀ frz sleds s, s.ctlOn = true → s.pair.ready = true → s.pair.drv = false → s.pair.occ = .planned → s.pair.frame.isSome = true → Does (.tokenClaim frz sleds) s (fun t =>
      t.pair.drv = true ∧ t.pair.standby = false ∧ t.pair.peer = true ∧ t.pair.tkoKind = 3 ∧ t.pair.handovers = satAdd 0xFFFF s.pair.handovers 1 ∧ t.evtBit 9 4 = true
        ∧ t.aon.epoch = (s.aon.epoch + 1) % 65536))
  ∧ (∀ s, s.ctlOn = true → s.saving = true → s.save.settle = true → DoesThenVault .ringSettleEnd s (fun u => u.save.settle = false
      ∧ (s.save.resumed = true → u.save.w0 = some s.sinceTrip) ∧ SameBut [.save] s u))

/-- The partner link's messages and state frames (R27, R88, R297, R332, R335, R337, R339 to R341, R345, R346), and the frame a holder sends at each boundary while it has a
partner. That a partner not heard since the last loss is sent ALIVE alone, BASE_ID's count, and the first ARMED frames after a planned handover are the model's (log entries 70, 71 and
177). -/
def Obligations.PairMessages : Prop :=
  (∀ h s, PairInSeq h s → Does (.alive h) s (fun t => t.pair.plUp = true ∧ t.pair.chan.expect = (s.pair.chan.expect + 1) % 4096 ∧ t.subLive 127 0xFFFF = false
      ∧ SameBut [.flt, .pair] s t))
  ∧ (∀ s, s.pairMsgs = true → s.pair.chan.wait = [] → s.pair.chan.buf.length < 1024 → Does .aliveSend s (fun t => PairSent .alive t
      ∧ t.pair.chan.buf.length + t.pair.chan.wait.length = s.pair.chan.buf.length + s.pair.chan.wait.length + 1 ∧ SameBut [.pair] s t))
  ∧ (∀ h f s, PairInSeq h s → s.pair.drv = false → s.pair.standby = true → ¬(s.top.state = .boot ∧ s.pair.occ = .boot) → Does (.frame h false f) s (fun t => t.pair.discarded = satAdd 0xFFFF s.pair.discarded 1
      ∧ t.pair.frame = s.pair.frame ∧ SameBut [.clk, .flt, .pair] s t))
  ∧ (∀ h f s, PairInSeq h s → s.pair.drv = false → s.pair.standby = true → ¬(s.top.state = .boot ∧ s.pair.occ = .boot) → f.fseq = (s.pair.fseq + 1) % 2 ^ 32 → f.final = false → Does (.frame h true f) s (fun t =>
      t.pair.frame = some f ∧ t.pair.fseq = f.fseq ∧ t.top.state = TopState.ofCode f.state ∧ t.aon.epoch = f.epoch ∧ PairSent (.frameAck f.fseq f.baseId) t
      ∧ (∀ k : Fin 16, (t.str k).q = (rd f.strs k).q ∧ (t.str k).c = (rd f.strs k).c) ∧ t.aon.en = s.aon.en ∧ t.pair.drv = false
      ∧ t.pair.armed = ((s.pair.complete || s.pair.given) && f.armed)))
  ∧ (∀ h f s, PairInSeq h s → s.pair.drv = false → s.pair.standby = true → ¬(s.top.state = .boot ∧ s.pair.occ = .boot) → f.fseq = (s.pair.fseq + 1) % 2 ^ 32 → f.final = true → Does (.frame h true f) s (fun t =>
      t.pair.occ = .planned ∧ t.pair.ready = true ∧ PairSent (.takeReady f.fseq) t ∧ t.aon.en &&& s.sharedSet = f.shared &&& s.sharedSet))
  ∧ (∀ h f s, PairInSeq h s → s.pair.drv = false → s.pair.standby = true → ¬(s.top.state = .boot ∧ s.pair.occ = .boot) → s.pair.given = false → f.fseq ≠ (s.pair.fseq + 1) % 2 ^ 32 → (∀ g, f.base = some g → g.idx ≠ 0) →
      Does (.frame h true f) s (fun t => t.pair.frame = s.pair.frame ∧ t.pair.armed = false ∧ t.pair.complete = false ∧ PairSent (.join Config.identity) t
        ∧ SameBut [.clk, .flt, .pair] s t))
  ∧ (∀ h whole f s, PairInSeq h s → s.top.state = .boot → s.pair.occ = .boot → s.pair.drv = false → s.pair.standby = false → Does (.frame h whole f) s (fun t =>
      t.pair.heard = true ∧ t.pair.standby = true ∧ t.pair.drv = false ∧ (f.final = false → t.pair.ready = false)))
  ∧ (∀ s : State, s.paired = true → s.pair.drv = true → s.pair.peer = true → s.pair.hand = 0 → s.pair.plOpen = true → ∃ f, PairSent (.frame f) s.frameTurn
      ∧ s.frameTurn.pair.fseq = f.fseq ∧ f.fseq = (s.pair.fseq + 1) % 2 ^ 32 ∧ f.final = false ∧ f.state = s.top.state.code ∧ f.epoch = s.aon.epoch ∧ f.serial = s.save.serial
      ∧ f.stamp = s.stamp ∧ (∀ p : Fin 64, (rd f.ports p).s = (s.stk p).s ∧ (rd f.ports p).k = (s.stk p).k) ∧ SameBut [.stage, .pair] s s.frameTurn)
  ∧ (∀ s : State, s.pair.drv = false ∨ s.pair.peer = false ∨ s.paired = false → s.frameTurn.pair.chan = s.pair.chan)
  ∧ (∀ h (fseq : BitVec 32) x s, PairInSeq h s → s.pair.drv = true → s.pair.sent.find? (fun x => x.fseq == fseq.toNat) = some x → x.acked = false → x.armed = true →
      Does (.frameAck h fseq) s (fun t => t.pair.armed = true ∧ t.pair.win = some x.win ∧ t.pair.armedFrames = satAdd 0xFFFF s.pair.armedFrames 1
        ∧ (s.pair.armed = false → t.evtBit 9 3 = true) ∧ SameBut [.evt, .flt, .pair] s t))
  ∧ (∀ h (fseq : BitVec 32) x s, PairInSeq h s → s.pair.drv = true → s.pair.sent.find? (fun x => x.fseq == fseq.toNat) = some x → x.acked = false → x.armed = false →
      s.pair.win = none → Does (.frameAck h fseq) s (fun t => t.pair.armed = false ∧ t.pair.win = none ∧ t.pair.armedFrames = 0 ∧ SameBut [.flt, .pair] s t))
  ∧ (∀ h id s, PairInSeq h s → s.pair.drv = true → Does (.join h id) s (fun t => t.pair.peer = true ∧ t.pair.peerId = some id ∧ t.pair.baseOn = true
      ∧ t.pair.baseId = (s.pair.baseId + 1) % 2 ^ 32 ∧ t.pair.armed = false ∧ t.pair.complete = false ∧ SameBut [.flt, .pair] s t))
  ∧ (∀ h s, PairInSeq h s → s.pair.drv = false → s.pair.standby = true → Does (.yield h) s (fun t => t.pair.occ = .yield ∧ t.pair.ready = true ∧ t.evtBit 9 1 = true
      ∧ SameBut [.clk, .evt, .cmd, .flt, .pair] s t))
  ∧ (∀ s, s.ctlOn = true → s.pair.drv = true → s.pair.hand = 1 → s.ringsIdle = true → s.pair.plOpen = true → Does .handoverFinalFrame s (fun t => t.pair.hand = 2
      ∧ t.pair.drv = true ∧ (∃ f, f.final = true ∧ f.fseq = t.pair.fseq ∧ PairSent (.frame f) t) ∧ SameBut [.stage, .pair] s t))
  ∧ (∀ h (fseq : BitVec 32) s, PairInSeq h s → s.pair.drv = true → s.pair.hand = 2 → fseq.toNat = s.pair.fseq → Does (.takeReady h fseq) s (fun t => t.pair.drv = false
      ∧ t.pair.standby = true ∧ t.pair.hand = 0 ∧ t.pair.tkoKind = 3 ∧ t.pair.handovers = satAdd 0xFFFF s.pair.handovers 1 ∧ t.evtBit 9 4 = true
      ∧ t.aon.rel = s.aon.rel ||| s.aon.shared ∧ ∀ p : Fin 64, (t.pp p).copies = [] ∧ (t.pp p).confirms = []))
  ∧ (∀ s, s.ctlOn = true → s.pair.drv = true → s.pair.hand = 2 → Does .takeReadyTimeout s (fun t => t.pair.drv = true ∧ t.pair.hand = 0 ∧ t.subLive 128 0xFFFF = true
      ∧ t.evtBit 9 4 = true))

/-- Key exchange and the swap drill (R349 to R351, R458 to R460). That the offer carries the partner's key, that an exchange leaves KEY_EPOCH, the text of KX_KEYS, when an exchange
that may not go on ends, and that a refused long command shows STATE 5 are the model's (log entries 78, 79, 168, 207 and 90). -/
def Obligations.KeyExchangeAndDrill : Prop :=
  (∀ w s, PortFree s → w.getLsbD 0 = true → s.pair.peerId.isSome = true → s.pair.kxSt ≠ 1 → s.pair.drv = true → s.pair.armed = true → s.wrapOk = false →
      s.inState [.ready, .service] = true → s.pair.plOpen = true → Does (.kxApprove w) s (fun t => t.pair.kxSt = 1 ∧ ∃ key pub sig, PairSent (.kxOffer key pub sig) t))
  ∧ (∀ w s, PortFree s → w.getLsbD 0 = true → s.pair.kxSt = 1 ∨ s.pair.drv = false ∨ s.pair.armed = false ∨ s.wrapOk = true ∨ s.pair.peerId = none →
      Does (.kxApprove w) s (fun t => t.pair = { s.pair with kxApprove := true, kxFor := s.pair.peerId } ∧ SameBut [.rp, .pair] s t))
  ∧ (∀ w s, PortFree s → w.getLsbD 0 = false → Does (.kxApprove w) s (SameBut [.rp] s))
  ∧ (∀ h key pub sig s, PairInSeq h s → s.pair.drv = false → s.pair.standby = true → s.inState [.ready, .service] = true → Does (.kxOffer h key pub sig) s (fun t =>
      if Config.ecdsaVerify key pub sig then t.pair.kxSt = 1 ∧ t.pair.kxPeer = pub ∧ t.pair.peerId = some (Config.identityOf key) ∧ ∃ k p g, PairSent (.kxReply k p g) t
      else t.pair.kxSt = 3 ∧ t.pair.peerId = s.pair.peerId))
  ∧ (∀ h key pub sig s, PairInSeq h s → s.pair.drv = true → s.kxRuns = true → Does (.kxReply h key pub sig) s (fun t =>
      if Config.ecdsaVerify key pub sig = true ∧ s.pair.peerId = some (Config.identityOf key)
      then t.pair.kxSt = 1 ∧ PairSent (.kxKeys (Config.gcmSeal (Config.session s.pair.kxPriv pub) s.kxText)) t
      else t.pair.kxSt = 3 ∧ t.pair.kxApprove = false))
  ∧ (∀ h text s, PairInSeq h s → s.pair.drv = false → s.kxRuns = true → Does (.kxKeys h text) s (fun t => match Config.gcmOpen (Config.session s.pair.kxPriv s.pair.kxPeer) text with
      | some keys => t.pair.kxSt = 2 ∧ PairSent (.kxWraps (kxWrap keys)) t
      | none => t.pair.kxSt = 3))
  ∧ (∀ h (wraps : List Byte) s, PairInSeq h s → s.pair.drv = true → s.kxRuns = true → Does (.kxWraps h wraps) s (fun t =>
      if wraps.length = 8704 then
        (if s.vault.keyStep = 3 ∧ s.vault.keyNew.isSome = true
        then t.pair.kxSt = 2 ∧ t.vault.keyStep = 1 ∧ ∃ k kb, s.vault.keyNew = some k ∧ t.vault.keyNew = some kb ∧ kb.keyEpoch = k.keyEpoch ∧ kb.mat = k.mat ∧ kb.sets.length = 2
        else ∃ kb, t.pair.kxBlock = some kb ∧ kb.vaultId = s.vault.id ∧ kb.keyEpoch = s.vault.keyEpoch ∧ kb.mat = s.vault.mat ∧ kb.sets.length = 2)
      else if s.pair.kxBlock = none then t.pair.kxSt = 3 ∧ t.pair.kxBlock = none else t.pair.kxSt = 1 ∧ t.pair.kxBlock = s.pair.kxBlock))
  ∧ (∀ c h key pub sig text wraps s, c ∈ [Instr.kxReply h key pub sig, .kxKeys h text, .kxWraps h wraps] → PairInSeq h s → s.pair.drv = decide (c ≠ .kxKeys h text) → s.pair.kxSt = 1 → s.kxRuns = false → s.pair.kxBlock = none →
      Does c s (fun t => t.pair.kxSt = 3 ∧ t.pair.kxBlock = none ∧ t.vault = s.vault))
  ∧ (∀ s, PortFree s → s.standbyOk 0x21 = true → s.handConds = true → s.pair.legs = 0 ∨ 3 ≤ s.pair.legs → Does .swapDrill s (fun t => t.cmd = { code := 0x21, state := 1 }
      ∧ t.pair = { s.pair with legs := 0, drillCut := false, drillSt := 1, drillRes := 0, hand := 1, handDrill := true } ∧ SameBut [.cmd, .rp, .pair] s t))
  ∧ (∀ s, PortFree s → s.handConds = false → Does .swapDrill s (fun t => t.cmd = { code := 0x21, state := 5 } ∧ t.pair = { s.pair with drillRes := 6 } ∧ SameBut [.cmd, .rp, .pair] s t))
  ∧ (∀ s, s.ctlOn = true → s.pair.legs = 1 → s.pair.drillLeft = 0 → s.pair.drillSave = 0 ∨ s.pair.drillSave = 3 → s.pair.drv = true → Does .drillDwellEnd s (fun t =>
      t = { s with pair := { s.pair with legs := if s.pair.drillBad then 4 else 2 } }))

/-! ### The fabric (11) -/

/-- Fabric ports, forwarding, addresses, link states and routes (R352 to R360), wherever the fabric island runs, which MR_N does not stop (R18). That an enabled port trains at
once, and the cost of parallel links between two other nodes, are the model's (log entries 80 and 180). -/
def Obligations.FabricPortsAndRoutes : Prop :=
  (∀ (i : Fin 4) s, s.fabRuns = true → (s.fport i).st = 1 → Does (.fabricTrained i) s (fun t => (t.fport i).st = 2 ∧ (t.fport i).heard = false
      ∧ (t.fport i).cost = rd s.fab.cfg.cost i ∧ (∀ j : Fin 4, j ≠ i → t.fport j = s.fport j) ∧ SameBut [.fab] s t))
  ∧ (∀ (i : Fin 4) s, s.fabRuns = true → (s.fport i).st = 1 ∨ (s.fport i).st = 2 → s.fabOn i = true → Does (.fabricTrainingFail i) s (fun t =>
      if (s.fport i).fails < 2 then (t.fport i).st = 1 ∧ (t.fport i).fails = (s.fport i).fails + 1
      else (t.fport i).st = 4 ∧ (t.fport i).fails = 3 ∧ (s.ctlOn = true → t.subLive (130 + i) 0xFFFF = true)))
  ∧ (∀ (i : Fin 4) s, s.fabRuns = true → (s.fport i).st = 4 → s.fabOn i = true → Does (.fabricTrainRetry i) s (fun t => (t.fport i).st = 1
      ∧ (t.fport i).retrains = satAdd 0xFFF (s.fport i).retrains 1 ∧ (s.ctlOn = true → t.subLive (130 + i) 0xFFFF = false) ∧ SameBut [.flt, .fab] s t))
  ∧ (∀ (i : Fin 4) c s, c ∈ [Instr.fabricLockLost i, .fabricPortSilent i] → s.fabRuns = true → (s.fport i).st = 2 ∨ (s.fport i).st = 3 → s.fabOn i = true → Does c s (fun t =>
      (t.fport i).st = 1 ∧ (t.fport i).heard = false ∧ (t.fport i).retrains = satAdd 0xFFF (s.fport i).retrains 1
      ∧ ((s.fport i).st = 3 → t.evtBit 10 0 = true ∧ t.fab.relsa = true)))
  ∧ (∀ s, s.fabRuns = true → Does .helloSend s (fun t => SameBut [.fab] s t ∧ ∀ i : Fin 4, (s.fport i).st = 2 ∨ (s.fport i).st = 3 →
      ∃ m, m.dst = 0xFFF ∧ m.body = .hello Config.identity s.nodeAddr s.nodeStatic (s.fport i).heard (bitOf s.fab.cfg.fec i) i (rd s.fab.cfg.cost i) ∧ FabSent i m t))
  ∧ (∀ (i : Fin 4) h (addr : BitVec 12) (cost : BitVec 4) seen s, FabInSeq i h s → (s.fport i).st = 2 → Does (.fabricHello i h addr cost seen) s (fun t =>
      (t.fport i).st = (if seen then 3 else 2) ∧ (t.fport i).heard = true ∧ (t.fport i).nbr = addr.toNat ∧ (t.fport i).cost = max (rd s.fab.cfg.cost i) cost.toNat
      ∧ (seen = true → (t.fport i).fails = 0 ∧ t.fab.relsa = true ∧ t.evtBit 10 0 = true)))
  ∧ (∀ (i k : Fin 4) h m s, FabInSeq i h s → m.dst ≠ s.nodeAddr → m.dst ≠ 0xFFF → s.fab.isolated = false → 1 < m.ttl → s.flowPort m.src m.dst = some k.val →
      (s.fport k).st = 2 ∨ (s.fport k).st = 3 → Does (.fabricForward i h m) s (fun t => FabSent k { m with ttl := m.ttl - 1 } t ∧ SameBut [.fab] s t))
  ∧ (∀ (i : Fin 4) h m s, FabInSeq i h s → m.dst = s.nodeAddr ∨ m.dst = 0xFFF ∨ m.ttl ≤ 1 → Does (.fabricForward i h m) s (fun t =>
      (t.fport i).chan.expect = ((s.fport i).chan.expect + 1) % 4096 ∧ (∀ j : Fin 4, j ≠ i → t.fport j = s.fport j) ∧ SameBut [.fab] s t))
  ∧ (∀ s, s.fabRuns = true → s.nodeStatic = false → s.aon.fabAddr = 0 ∨ s.fab.loser = true →
      (∃ a, 1 ≤ a ∧ a ≤ 0xFFE ∧ ∀ e ∈ s.fab.db, e.addr = a → e.id = Config.identity) → Does .addressDiscover s (fun t => 1 ≤ t.aon.fabAddr ∧ t.aon.fabAddr ≤ 0xFFE
        ∧ (∀ e ∈ s.fab.db, e.addr = t.aon.fabAddr → e.id = Config.identity) ∧ t.fab.loser = false ∧ t.fab.relsa = true ∧ SameBut [.aon, .fab] s t))
  ∧ (∀ (i : Fin 4) h m s, FabInSeq i h s → 1 ≤ m.addr → m.addr ≤ 0xFFE → m.id = Config.identity ∨ m.addr ≠ s.nodeAddr → m.age ≠ 255 →
      (∀ e ∈ s.fab.db, e.addr = m.addr → e.id ≠ m.id) → s.fab.db.length < 4096 → Does (.lsa i h m) s (fun t => t.fab.db = s.fab.db ++ [m] ∧ t.fab.dirty = true
        ∧ (s.fab.isolated = false → ∀ k : Fin 4, k ≠ i → (s.fport k).st = 3 → FabSent k { dst := 0xFFF, src := s.nodeAddr, prio := 2, body := .lsa m } t)
        ∧ (s.fab.isolated = true → ∀ k : Fin 4, k ≠ i → t.fport k = s.fport k)
        ∧ (m.id = Config.identity → aseqNewer m.aseq s.fab.aseq = true → t.fab.aseq = m.aseq ∧ t.fab.relsa = true) ∧ SameBut [.fab] s t))
  ∧ (∀ (i : Fin 4) h m e s, FabInSeq i h s → s.fab.isolated = false → 1 ≤ m.addr → m.addr ≤ 0xFFE → m.id ≠ Config.identity → m.addr ≠ s.nodeAddr →
      s.fab.db.find? (fun e => e.addr == m.addr && e.id == m.id) = some e → m.age ≠ 255 → aseqNewer m.aseq e.aseq = false → Does (.lsa i h m) s (fun t =>
        t.fab.db = s.fab.db ∧ (∀ k : Fin 4, k ≠ i → t.fport k = s.fport k) ∧ SameBut [.fab] s t))
  ∧ (∀ s, s.fabRuns = true → s.nodeAddr ≠ 0 → s.fab.isolated = false → s.fab.loser = false → Does .lsaOriginate s (fun t => t.fab.aseq = (s.fab.aseq + 1) % 2 ^ 32
      ∧ t.fab.relsa = false ∧ SameBut [.fab] s t ∧ ∀ k : Fin 4, (s.fport k).st = 3 → ∃ m, m.id = Config.identity ∧ m.addr = s.nodeAddr ∧ m.aseq = t.fab.aseq ∧ m.age = 0
        ∧ FabSent k { dst := 0xFFF, src := s.nodeAddr, prio := 2, body := .lsa m } t))
  ∧ (∀ (a : BitVec 12) e s, s.fabRuns = true → e ∈ s.fab.db → e.addr = a.toNat → 40 ≤ e.age → Does (.lsaExpiry a) s (fun t => t.fab.db = s.fab.db.filter (fun e => !(e.addr == a.toNat && decide (40 ≤ e.age)))
      ∧ ((∀ e ∈ s.fab.db, e.addr = a.toNat → 40 ≤ e.age) → t.fab.routes = s.fab.routes.filter (fun e => e.1 != a.toNat)) ∧ t.fab.dirty = true ∧ SameBut [.flt, .fab] s t))
  ∧ (∀ s, s.fabRuns = true → s.nodeAddr ≠ 0 → s.fab.isolated = false → Does .routeCompute s (fun t => t.fab.routes = s.shortest ∧ t.fab.dirty = false ∧ t.fab.db = s.fab.db
      ∧ SameBut [.evt, .fab] s t))

/-- Fabric time, and requests over the fabric with their answers (R361 to R365, R378, R379). That a slew is taken whole, that t2 and t3 are what the counter reads then, and that a
control island in reset answers no request are the model's (log entries 81, 82 and 217). -/
def Obligations.FabricTimeAndRequests : Prop :=
  (∀ (i : Fin 4) s, s.fabRuns = true → s.nodeAddr ≠ 0 → s.isRoot = false → s.fab.root ≠ 0 → s.fab.parent = i.val → (s.fport i).st = 2 ∨ (s.fport i).st = 3 → Does .tsyncTimer s (fun t =>
      t.fab.t1.isSome = true ∧ t.fab.bad = (if s.fab.t1.isSome then s.fab.bad + 1 else s.fab.bad) ∧ (8 ≤ t.fab.bad → t.fab.synced = false)
      ∧ FabSent i { dst := 0xFFF, src := s.nodeAddr, prio := 0, body := .tsyncReq } t))
  ∧ (∀ (i : Fin 4) (h : SyncHdr) s, FabInSeq i h.toHdr s → h.replayed = true → Does (.tsyncReq i h) s (fun t => SameBut [.clk, .fab] s t
      ∧ (t.fport i).chan.buf = (s.fport i).chan.buf ∧ (t.fport i).chan.wait = (s.fport i).chan.wait))
  ∧ (∀ (i : Fin 4) (h : SyncHdr) s, FabInSeq i h.toHdr s → h.replayed = false → Does (.tsyncReq i h) s (fun t => SameBut [.clk, .fab] s t
      ∧ ∃ m t2 t3, m.body = .tsyncRsp t2 t3 s.fab.root s.fab.hops s.fab.synced s.fab.disc ∧ FabSent i m t))
  ∧ (∀ (i : Fin 4) h t2 t3 (hops : BitVec 8) ps pd t1 s, FabInSeq i h s → s.fab.t1 = some t1 → s.fab.parent = i.val → s.isRoot = false →
      Does (.tsyncRsp i h t2 t3 hops ps pd false) s (fun t => t.fab.t1 = none ∧ t.fab.bad = 0 ∧ t.fab.hops = min 255 (hops.toNat + 1)))
  ∧ (∀ (i : Fin 4) h t2 t3 hops ps pd s, FabInSeq i h s → Does (.tsyncRsp i h t2 t3 hops ps pd true) s (fun t => t.fab.t1 = s.fab.t1 ∧ t.fab.off = s.fab.off
      ∧ t.fab.synced = s.fab.synced ∧ SameBut [.clk, .fab] s t))
  ∧ (∀ s, s.fabRuns = true → s.fab.cfg.ppsIn = true → s.isRoot = true → Does .ppsEdge s (fun t => t.ppsErr = 0 ∧ SameBut [.clk, .evt, .fab] s t))
  ∧ (∀ s, s.fabRuns = true → s.fab.cfg.ppsIn = true → Does .ppsEdgeMissed s (fun t => t.fab.ppsGood = 0 ∧ t.fab.ppsBad = min 3 (s.fab.ppsBad + 1)
      ∧ (2 ≤ s.fab.ppsBad → t.fab.pps = false) ∧ (s.fab.ppsBad < 2 → t.fab.pps = s.fab.pps) ∧ SameBut [.evt, .fab] s t))
  ∧ (∀ (dst : BitVec 12) s, s.ctlOn = true → s.rpCause 0x0B0200 true = 0 → s.fab.rqGo = false → Does (.telemetryRequest dst) s (fun t => t.rp.err = false
      ∧ t.fab.rqDst = dst.toNat ∧ t.fab.rqKind = 1 ∧ if s.flowPort s.nodeAddr dst.toNat = none then t.fab.rqGo = false ∧ t.fab.rqResult = 5 ∧ t.evtBit 10 4 = true
        else t.fab.rqGo = true ∧ t.fab.rqResult = 0))
  ∧ (∀ (dst : BitVec 12) s, s.ctlOn = true → s.rpCause 0x0B0200 true = 0 → s.fab.rqGo = false → Does (.ledgerReadRequest dst) s (fun t => t.rp.err = false
      ∧ t.fab.rqDst = dst.toNat ∧ t.fab.rqKind = 2 ∧ if s.flowPort s.nodeAddr dst.toNat = none then t.fab.rqGo = false ∧ t.fab.rqResult = 5 ∧ t.evtBit 10 4 = true
        else t.fab.rqGo = true ∧ t.fab.rqResult = 0))
  ∧ (∀ (i k : Fin 4) h (src : BitVec 12) s, FabInSeq i h s → s.flowPort s.nodeAddr src.toNat = some k.val → (s.fport k).st = 2 ∨ (s.fport k).st = 3 → s.ctlOn = true → Does (.telReq i h src) s (fun t =>
      SameBut [.fab] s t ∧ ∃ m, m.dst = src.toNat ∧ FabSent k m t ∧ (if s.ctrlBit 10 4 = false then m.body = .error 0x40 h.seq.toNat
        else if 64 ≤ (s.fab.served.filter (fun t => decide (s.clk.l < t + 100000000))).length then m.body = .error 0x41 h.seq.toNat else ∃ b, m.body = .telRsp b)))
  ∧ (∀ (i k : Fin 4) h (src : BitVec 12) (ofs : BitVec 22) (len : BitVec 11) s, FabInSeq i h s → s.flowPort s.nodeAddr src.toNat = some k.val →
      (s.fport k).st = 2 ∨ (s.fport k).st = 3 → s.ctlOn = true → Does (.lreadReq i h src ofs len) s (fun t => SameBut [.fab] s t ∧ ∃ m, m.dst = src.toNat ∧ FabSent k m t
        ∧ (s.ctrlBit 10 4 = false → m.body = .error 0x40 h.seq.toNat)
        ∧ (s.ctrlBit 10 4 = true → s.fab.served = [] → (ofs.toNat % 4 ≠ 0 ∨ len = 0 ∨ 1024 < len.toNat ∨ 0x400000 < ofs.toNat + 4 * len.toNat → m.body = .lreadRsp 1 ofs.toNat [])
          ∧ (ofs.toNat % 4 = 0 → len ≠ 0 → len.toNat ≤ 1024 → ofs.toNat + 4 * len.toNat ≤ 0x400000 → (rd s.ledg.dev 0).ok = true → s.norBusy 0 = false →
              m.body = .lreadRsp 0 ofs.toNat ((List.range len.toNat).map (fun j => Mem.word 0xFF (s.norMem 0) (ofs.toNat + 4 * j)))))))
  ∧ (∀ c (i : Fin 4) h (src : BitVec 12) (ofs : BitVec 22) (len : BitVec 11) s, c ∈ [Instr.telReq i h src, .lreadReq i h src ofs len] → FabInSeq i h s → s.ctlOn = false →
      Does c s (fun t => SameBut [.fab] s t ∧ t.fab.served = s.fab.served ∧ ∀ k : Fin 4, k ≠ i → t.fport k = s.fport k))
  ∧ (∀ (i : Fin 4) h (src : BitVec 12) block s, FabInSeq i h s → s.fab.rqGo = true → s.fab.rqAs = 1 → s.fab.rqTo = src.toNat → Does (.telRsp i h src block) s (fun t =>
      t.fab.rqGo = false ∧ t.fab.rqResult = 1 ∧ t.fab.rqWords = 16 ∧ t.fab.rqBuf = wordsOf 16 block ∧ t.evtBit 10 4 = true ∧ SameBut [.evt, .fab] s t))
  ∧ (∀ (i : Fin 4) h (src : BitVec 12) (status : BitVec 8) (ws : List Word) s, FabInSeq i h s → s.fab.rqGo = true → s.fab.rqAs = 2 → s.fab.rqTo = src.toNat →
      Does (.lreadRsp i h src status ws) s (fun t => t.fab.rqGo = false ∧ t.fab.rqResult = (if status = 0 then 1 else if status = 1 then 4 else 2)
        ∧ t.fab.rqWords = (if status = 0 then min 1024 ws.length else 0) ∧ t.evtBit 10 4 = true ∧ SameBut [.evt, .fab] s t))
  ∧ (∀ (i : Fin 4) h (src : BitVec 12) (code : BitVec 8) s, FabInSeq i h s → s.fab.rqGo = true → s.fab.rqTo = src.toNat → Does (.fabricError i h src code) s (fun t =>
      if code = 0x40 ∨ code = 0x41 then t.fab.rqGo = false ∧ t.fab.rqResult = 2 ∧ t.evtBit 10 4 = true else t.fab.rqGo = true ∧ t.fab.rqResult = s.fab.rqResult))
  ∧ (∀ s, s.fabRuns = true → s.fab.rqGo = true → Does .requestTimeout s (fun t => t.fab = { s.fab with rqGo := false, rqResult := 3, rqWords := 0 } ∧ t.evtBit 10 4 = true
      ∧ SameBut [.evt, .fab] s t))

/-- Tables and shares (R366 to R372, R376): a REPORT carries the values of the last turn boundary. In which turn a grant expires, what its expiry leaves, and the turn a new
coordinator finds are the model's readings (log entries 14 and 180). -/
def Obligations.TableRounds : Prop :=
  (∀ (k : BitVec 32) s, s.fabRuns = true → Does (.roundStart k) s (fun t => t.fab.round = k.toNat ∧ t.fab.coord = false ∧ t.fab.duty = true ∧ SameBut [.fab] s t
      ∧ t.fab.reps = (if s.tableActs then s.fab.reps.filter (fun x => x.slot != s.ownSlot) ++ [{ s.ownReport with round := k.toNat }] else s.fab.reps)))
  ∧ (∀ (k : BitVec 32) j a (i : Fin 4) s, s.fabRuns = true → s.tableActs = true → j < s.fab.tbl.m → j ≠ s.ownSlot → a = (s.member j).addr ∨ a = (s.member j).addr2 → a ≠ 0 →
      s.flowPort s.nodeAddr a = some i.val → (s.fport i).st = 2 ∨ (s.fport i).st = 3 → Does (.roundStart k) s (fun t =>
        ∃ r, ({ dst := a, src := s.nodeAddr, prio := 1, body := .report r } : FMsg) ∈ (t.fport i).chan.buf.map (·.2) ++ (t.fport i).chan.wait ∧ r.round = k.toNat ∧ r.slot = s.ownSlot
          ∧ r.state = s.fab.bnd.state ∧ r.retreq = s.fab.bnd.retreq ∧ r.held = s.fab.bnd.held ∧ r.eSum = s.fab.bnd.eSum ∧ r.eStr = s.fab.bnd.eStr))
  ∧ (∀ s : State, let b := s.latchReport.fab.bnd
      b.state = s.top.state.code ∧ b.retreq = s.retReq ∧ b.sync = s.fab.synced ∧ b.held = s.fab.share ∧ b.heldExp = s.fab.exp ∧ b.eSum = s.nrg.eSum)
  ∧ (∀ (i : Fin 4) h m s, FabInSeq i h s → s.inTable = true → s.fab.isolated = false → m.tableId = s.fab.tbl.tableId → m.slot < s.fab.tbl.m → (∀ r ∈ s.fab.reps, r.slot ≠ m.slot) →
      Does (.tableReport i h m) s (fun t => t.fab.reps = (if m.round = s.fab.round then s.fab.reps ++ [m] else s.fab.reps) ∧ SameBut [.fab] s t))
  ∧ (∀ s, s.fabRuns = true → s.tableActs = true → s.fab.duty = true → Does .coordinate s (fun t => SameBut [.fab] s t ∧ (t.fab.coord = true ↔
      s.ownSlot ∈ s.liveReps.map (·.slot) ∧ (∀ r ∈ s.liveReps, s.ownSlot ≤ r.slot) ∧ s.fab.tbl.m < 2 * s.liveReps.length)
      ∧ (let acted := if (s.fab.gRound + 1) % 2 ^ 32 = s.fab.round then s.fab.coordFor else 0
         t.fab.coord = true → t.fab.g1 = s.computeShares s.liveReps (decide (acted < 3)) ∧ t.fab.g2 = s.fab.g1 ∧ t.fab.coordFor = min 4 (acted + 1))
      ∧ (t.fab.coord = false → t.fab.coordFor = 0 ∧ t.fab.g1 = [] ∧ t.fab.newest = s.fab.newest)))
  ∧ (∀ s, s.tableActs = false ∨ s.fab.duty = false → Does .coordinate s (fun t => t = s))
  ∧ (∀ (i : Fin 4) h g s, FabInSeq i h s → s.inTable = true → s.fab.isolated = false → g.tableId = s.fab.tbl.tableId → g.crc = s.fab.tbl.cfgCrc → Does (.grant i h g) s (fun t => SameBut [.fab] s t
      ∧ (s.fab.newest.round < g.round → g.round < s.fab.newest.round + 2 ^ 31 → s.fab.newest.round < 2 ^ 32 → t.fab.newest = g ∧ t.fab.next = some g)
      ∧ (roundNewer s.fab.newest.round s.fab.round = true → t.fab.newest = g ∧ t.fab.next = some g)
      ∧ (roundNewer s.fab.newest.round s.fab.round = false → g.round = s.fab.newest.round → s.fab.newest.round < 2 ^ 32 → s.fab.newest.coord ≤ g.coord → t.fab.newest = s.fab.newest ∧ t.fab.next = s.fab.next)))
  ∧ (∀ g s, s.ctlOn = true → s.inTable = true → s.fab.grant = some g → (((g.round + 3) * 100000000 : Nat) : Int) < s.fab.off + s.clk.turnStart + 1000000 → Does .grantExpiry s (fun t =>
      t.fab.grant = none ∧ t.fab.fallback = true ∧ t.fab.share = (s.member s.ownSlot).min ∧ t.fab.p = s.nrg.eSum ∧ t.nrg = { s.nrg with num := (s.member s.ownSlot).min, den := 60000 }
      ∧ SameBut [.evt, .nrg, .fab] s t))

/-- The shares a coordinator grants (R370): outside its first rounds, the shares granted and those that may still be in force together stay within the
60,000 units of a table whose holdings do. -/
def Obligations.SharesStayWithinTheTable : Prop :=
  ∀ (s : State) (live : List TRep),
    (let old := fun (g : List (Option Nat)) i => (g.getD i none).getD 0
     sumN s.fab.tbl.m (fun i => max (s.member i).min (max (old s.fab.g1 i) (old s.fab.g2 i))) ≤ 60000) →
    sumN s.fab.tbl.m (fun i => ((s.computeShares live false).getD i none).getD 0) ≤ 60000

/-! ### The fault collector (12) -/

/-- A registration (R24, R381, R384, R386, R387, R390, R391, R394, R396 to R401): a source that is live and has not registered, with actions of the ledger and the
interrupt alone, is counted and recorded and its class becomes active; forced, or live through BROKEN_AS, it is reported with sub-source 0xFFFF and registers only where no
other sub-source of it has; a disabled one is counted only; one that an open shadow set masks is consequential; the trip action trips where there are
stakes; the reset action holds its block and opens its shadow set. TURN_OVR becomes live for a turn by its command. An external double follows its samples as INV
and QUAL say. The sub-source numbers 0xFFFD and 0xFFFE of a broken and a forced pair are the model's (log entry 104), the samples of a double its operands (log entry 206),
and the instant of a registration within its turn is stated by no rule (log entry 1). -/
def Obligations.FaultRegistration : Prop :=
  (∀ (src : BitVec 8) (sub : BitVec 16) x s, s.ctlOn = true → (sub.toNat < 0xFFFD ∨ ∀ y ∈ s.flt.subs, y.src = src.toNat → y.reg = false) →
      s.flt.subs.find? (fun x => x.src == src.toNat && x.sub == sub.toNat && !x.reg) = some x → (s.srcCfg src.toNat).en = true → s.masked src.toNat = false →
      (s.srcCfg src.toNat).act < 4 → (s.srcCfg src.toNat).cls < 4 → Does (.faultRegistration src (.sub sub)) s (fun t =>
        rd t.flt.reg src.toNat = satAdd 0xFFFF (rd s.flt.reg src.toNat) 1 ∧ t.flt.cause = s.flt.cause ||| BitVec.ofNat 256 (2 ^ src.toNat)
        ∧ t.flt.last.valid = true ∧ t.flt.last.source = src.toNat ∧ t.flt.last.sub = (if sub.toNat < 0xFFFD then sub.toNat else 0xFFFF) ∧ t.flt.last.state = s.top.state.code
        ∧ t.flt.first = (if s.flt.first.valid then s.flt.first else t.flt.last)
        ∧ (∃ y ∈ t.flt.subs, y.src = src.toNat ∧ y.sub = sub.toNat ∧ y.reg = true)
        ∧ (let c := (s.srcCfg src.toNat).cls
           (rd s.flt.cls c).active = false → (rd s.flt.cls c).latched = false →
            if (rd s.im.classes c).limit ≤ s.recovCount c then (rd t.flt.cls c).latched = true ∧ t.evtBit 2 1 = true else (rd t.flt.cls c).active = true)
        ∧ ((s.srcCfg src.toNat).act.testBit 1 = true → t.evtBit 2 0 = true) ∧ SameBut [.clk, .top, .evt, .flt, .ledg] s t))
  ∧ (∀ (src : BitVec 8) (sub : BitVec 16) s, s.ctlOn = true → 0xFFFD ≤ sub.toNat → src ≠ 155 → (∃ y ∈ s.flt.subs, y.src = src.toNat ∧ y.sub ≠ sub.toNat ∧ y.reg = true) →
      Does (.faultRegistration src (.sub sub)) s (fun t => (∀ x ∈ t.flt.subs, x.src = src.toNat → x.sub = sub.toNat → x.reg = true)
        ∧ t.flt = { s.flt with subs := t.flt.subs } ∧ SameBut [.clk, .flt] s t))
  ∧ (∀ (src : BitVec 8) (sub : BitVec 16) s, s.ctlOn = true → src ≠ 155 → (∀ x ∈ s.flt.subs, x.src = src.toNat → x.sub = sub.toNat → x.reg = true) →
      Does (.faultRegistration src (.sub sub)) s (SameBut [.clk] s))
  ∧ (∀ (src : BitVec 8) (sub : BitVec 16) x s, s.ctlOn = true → (sub.toNat < 0xFFFD ∨ ∀ y ∈ s.flt.subs, y.src = src.toNat → y.reg = false) →
      s.flt.subs.find? (fun x => x.src == src.toNat && x.sub == sub.toNat && !x.reg) = some x → (s.srcCfg src.toNat).en = false → Does (.faultRegistration src (.sub sub)) s (fun t =>
        rd t.flt.reg src.toNat = satAdd 0xFFFF (rd s.flt.reg src.toNat) 1 ∧ t.flt.cause = s.flt.cause ∧ t.flt.last = s.flt.last ∧ t.flt.cls = s.flt.cls
        ∧ SameBut [.clk, .flt] s t))
  ∧ (∀ (src : BitVec 8) (sub : BitVec 16) x s, s.ctlOn = true → (sub.toNat < 0xFFFD ∨ ∀ y ∈ s.flt.subs, y.src = src.toNat → y.reg = false) →
      s.flt.subs.find? (fun x => x.src == src.toNat && x.sub == sub.toNat && !x.reg) = some x → (s.srcCfg src.toNat).en = true → s.masked src.toNat = true →
      Does (.faultRegistration src (.sub sub)) s (fun t => rd t.flt.conseq src.toNat = satAdd 0xFFFF (rd s.flt.conseq src.toNat) 1
        ∧ t.flt.conseqAll = satAdd 0xFFFF s.flt.conseqAll 1 ∧ t.flt.cause = s.flt.cause ∧ t.flt.last = s.flt.last ∧ t.flt.cls = s.flt.cls ∧ SameBut [.clk, .evt, .flt, .ledg] s t))
  ∧ (∀ (src : BitVec 8) (sub : BitVec 16) x s, s.ctlOn = true → (sub.toNat < 0xFFFD ∨ ∀ y ∈ s.flt.subs, y.src = src.toNat → y.reg = false) →
      s.flt.subs.find? (fun x => x.src == src.toNat && x.sub == sub.toNat && !x.reg) = some x → (s.srcCfg src.toNat).en = true → s.masked src.toNat = false →
      (s.srcCfg src.toNat).act = 32 → s.byForce src.toNat sub.toNat = false → s.inState [.ready, .ride, .service, .ret] = true → s.paired = false ∨ s.pair.drv = true →
      Does (.faultRegistration src (.sub sub)) s (SaveEntered s))
  ∧ (∀ (src : BitVec 8) (sub : BitVec 16) x s, s.ctlOn = true → (sub.toNat < 0xFFFD ∨ ∀ y ∈ s.flt.subs, y.src = src.toNat → y.reg = false) →
      s.flt.subs.find? (fun x => x.src == src.toNat && x.sub == sub.toNat && !x.reg) = some x → (s.srcCfg src.toNat).en = true → s.masked src.toNat = false →
      (s.srcCfg src.toNat).act = 8 → (s.srcCfg src.toNat).block < 16 → (s.srcCfg src.toNat).shadow < 16 → s.saving = false →
      (rd s.flt.blocks (s.srcCfg src.toNat).block).running = false → (∀ k : Fin 16, (rd s.flt.sets k).isOpen = false) →
      Does (.faultRegistration src (.sub sub)) s (fun t => rd t.flt.blocks (s.srcCfg src.toNat).block = { held := true, running := true, set := (s.srcCfg src.toNat).shadow }
        ∧ (rd t.flt.sets (s.srcCfg src.toNat).shadow).isOpen = true ∧ (rd t.flt.sets (s.srcCfg src.toNat).shadow).mask = (rd s.im.shadows (s.srcCfg src.toNat).shadow).mask
        ∧ t.flt.resets = satAdd 0xFFFF s.flt.resets 1))
  ∧ (∀ s, s.ctlOn = true → (∀ y ∈ s.flt.subs, y.src ≠ 155) → s.pairHeld 155 = false → (s.srcCfg 155).en = true → s.masked 155 = false → (s.srcCfg 155).act < 4 → (s.srcCfg 155).cls < 4 →
      Does (.faultRegistration 155 (.sub 0xFFFF)) s (fun t => t.flt.subs = s.flt.subs ++ [{ src := 155, sub := 0xFFFF, till := some (s.clk.turn + 1), reg := true }]
        ∧ t.flt.cause = s.flt.cause ||| BitVec.ofNat 256 (2 ^ 155) ∧ t.flt.last.source = 155 ∧ SameBut [.clk, .top, .evt, .flt, .ledg] s t))
  ∧ (∀ (src : BitVec 8) l s, s.ctlOn = true → 160 ≤ src.toNat → src.toNat < 208 → s.flt.force.getLsbD src.toNat = false → s.flt.forcePb.getLsbD src.toNat = false →
      (∀ y ∈ s.flt.subs, y.src ≠ src.toNat) → (∀ x ∈ l, x.1 ≠ x.2 ∧ x.1 ≠ (s.srcCfg src.toNat).inv) → rd s.flt.xfCnt (src.toNat - 160) + l.length < (s.srcCfg src.toNat).qual →
      Does (.faultRegistration src (.halves l)) s (fun t => rd t.flt.xfCnt (src.toNat - 160) = rd s.flt.xfCnt (src.toNat - 160) + l.length ∧ t.flt.subs = s.flt.subs ∧ SameBut [.clk, .flt] s t))
  ∧ (∀ (src : BitVec 8) x s, s.ctlOn = true → 160 ≤ src.toNat → src.toNat < 208 → s.flt.force.getLsbD src.toNat = false → s.flt.forcePb.getLsbD src.toNat = false →
      (∀ y ∈ s.flt.subs, y.src ≠ src.toNat) → x.1 ≠ x.2 → x.1 ≠ (s.srcCfg src.toNat).inv → (s.srcCfg src.toNat).qual ≤ rd s.flt.xfCnt (src.toNat - 160) + 1 →
      (s.srcCfg src.toNat).en = true → s.masked src.toNat = false → (s.srcCfg src.toNat).act < 4 → (s.srcCfg src.toNat).cls < 4 →
      Does (.faultRegistration src (.halves [x])) s (fun t => t.flt.subs = s.flt.subs ++ [{ src := src.toNat, sub := 0xFFFF, reg := true }] ∧ rd t.flt.xfCnt (src.toNat - 160) = 0
        ∧ rd t.flt.reg src.toNat = satAdd 0xFFFF (rd s.flt.reg src.toNat) 1 ∧ t.flt.cause = s.flt.cause ||| BitVec.ofNat 256 (2 ^ src.toNat) ∧ t.flt.last.source = src.toNat
        ∧ SameBut [.clk, .top, .evt, .flt, .ledg] s t))
  ∧ (∀ (src : BitVec 8) x s, s.ctlOn = true → 160 ≤ src.toNat → src.toNat < 208 → s.flt.force.getLsbD src.toNat = false → s.flt.forcePb.getLsbD src.toNat = false →
      x.1 ≠ x.2 → x.1 = (s.srcCfg src.toNat).inv → Does (.faultRegistration src (.halves [x])) s (fun t => rd t.flt.xfCnt (src.toNat - 160) = 0 ∧ t.subLive src.toNat 0xFFFF = false
        ∧ t.flt = { s.flt with subs := t.flt.subs, xfCnt := t.flt.xfCnt } ∧ SameBut [.clk, .flt] s t))
  ∧ (∀ (src : BitVec 8) x s, s.ctlOn = true → 160 ≤ src.toNat → src.toNat < 208 → (s.flt.force.getLsbD src.toNat = false ∧ x.1 = x.2) ∨ s.flt.forcePb.getLsbD src.toNat = true →
      Does (.faultRegistration src (.halves [x])) s (SameBut [.clk] s))

/-- Broken pairs, time-outs, the end of a block reset and of its shadow set, classes that clear, sources that cease, and the host's writes to the collector
(R383 to R386, R390, R393, R395, R396, R398 to R404). A source whose pair reads invalid keeps its value and its conditions go on behind it (log entry 84); the mover's
rings open with its release (log entry 210). -/
def Obligations.FaultCollectorCommands : Prop :=
  (∀ (n : Fin 48) s, s.ctlOn = true → Does (.pairBroken (.ext n)) s (fun t => t.flt.pb = s.flt.pb ||| BitVec.ofNat 256 (2 ^ (160 + n.val)) ∧ t.subLive (208 + n) n = true
      ∧ ((s.srcCfg (160 + n)).brokenAs = true → t.subLive (160 + n) 0xFFFD = true) ∧ t.evtBit 2 2 = true ∧ SameBut [.evt, .flt] s t))
  ∧ (∀ (n : Fin 8) s, s.ctlOn = true → Does (.pairBroken (.acg n)) s (fun t => t.flt.acgPb = s.flt.acgPb ||| BitVec.ofNat 8 (2 ^ n.val) ∧ t.subLive 156 n = true
      ∧ t.evtBit 2 2 = true ∧ (s.top.state ≠ .rise → t.seq = s.seq) ∧ SameBut [.evt, .flt, .seq] s t))
  ∧ (∀ (n : Fin 158) s, s.ctlOn = true → Does (.pairBroken (.int n)) s (fun t => t.flt.pb = s.flt.pb ||| BitVec.ofNat 256 (2 ^ n.val) ∧ t.subLive 157 n = true
      ∧ t.evtBit 2 2 = true ∧ SameBut [.evt, .flt] s t))
  ∧ (∀ (src : BitVec 8) s, s.ctlOn = true → 136 ≤ src.toNat → src.toNat < 150 → Does (.islandTimeout src) s (fun t => t.subLive src.toNat 0xFFFF = true ∧ SameBut [.flt] s t))
  ∧ (∀ (b : Fin 16) s, s.ctlOn = true → (rd s.flt.blocks b).held = true → Does (.resetRelease b) s (fun t => rd t.flt.blocks b = { rd s.flt.blocks b with held := false }
      ∧ (b.val ≠ 8 ∨ rd s.pins.rails 1 = false → b.val ≠ 13 ∨ s.fabRails = false → SameBut [.flt] s t)
      ∧ (b.val = 8 → rd s.pins.rails 1 = true → SameBut [.clk, .flt, .links, .vault, .stage, .ret] s t
        ∧ ∀ r : Fin 32, (t.ring r).isOpen = (s.flashRuns (r.val / 8) && (s.sled (r.val / 8)).up && bitOf (s.sled (r.val / 8)).chOk (r.val % 8) && !(s.ring r).failed))
      ∧ (b.val = 13 → s.fabRails = true → SameBut [.evt, .flt, .fab] s t ∧ ∀ i : Fin 4, (t.fport i).st = if s.fabOn i then 1 else (s.fport i).st)))
  ∧ (∀ (b : Fin 16) s, s.ctlOn = true → (rd s.flt.blocks b).running = true → (rd s.flt.blocks b).held = false → (rd s.flt.blocks b).set < 16 → Does (.resetEnd b) s (fun t =>
      (rd t.flt.blocks b).running = false ∧ (b.val < 14 → t.subLive (136 + b) 0xFFFF = false)
      ∧ ((∀ c : Fin 16, c ≠ b → (rd s.flt.blocks c).running = false) → (rd t.flt.sets (rd s.flt.blocks b).set).ended = true) ∧ SameBut [.flt] s t))
  ∧ (∀ (k : Fin 16) s, s.ctlOn = true → (rd s.flt.sets k).isOpen = true → (rd s.flt.sets k).ended = true →
      (∀ x ∈ s.flt.subs, (rd s.flt.sets k).mask.testBit x.src = false ∨ 256 ≤ x.src) → Does (.shadowClose k) s (fun t => rd t.flt.sets k = {} ∧ t.flt.subs = s.flt.subs
        ∧ SameBut [.flt] s t))
  ∧ (∀ (k : Fin 16) (i : Fin 256) s, s.ctlOn = true → (rd s.flt.sets k).isOpen = true → (rd s.flt.sets k).ended = true → (rd s.flt.sets k).mask = 2 ^ i.val →
      (∃ x ∈ s.flt.subs, x.src = i.val) → (∀ j : Fin 16, j ≠ k → (rd s.flt.sets j).isOpen = false) → (s.srcCfg i).en = true → (s.srcCfg i).act < 4 →
      Does (.shadowClose k) s (fun t => rd t.flt.sets k = {} ∧ t.flt.cause = s.flt.cause ||| BitVec.ofNat 256 (2 ^ i.val) ∧ t.flt.last.source = i ∧ t.flt.last.atClose = true
        ∧ ∀ x ∈ t.flt.subs, x.src = i.val → x.reg = true ∧ x.cons = false))
  ∧ (∀ (c : Fin 4) s, s.ctlOn = true → (rd s.flt.cls c).active = true → (∀ x ∈ s.flt.subs, x.cons = false → (s.srcCfg x.src).en = true → (s.srcCfg x.src).cls ≠ c.val) →
      Does (.classClear c) s (fun t => rd t.flt.cls c = {} ∧ t.recovCount c = s.recovCount c + 1 ∧ SameBut [.aon, .flt] s t))
  ∧ (∀ w s, PortFree s → Does (.clrFirst w) s (fun t => t.flt = { s.flt with first := {} } ∧ t.rp.err = false ∧ SameBut [.ctrl, .rp, .flt] s t))
  ∧ (∀ (c : Fin 4) s, PortFree s → (rd s.flt.cls c).latched = true → Does (.unlatchClass c) s (fun t => if (rd s.im.classes c).latchOff then SameBut [.rp] s t
      else rd t.flt.cls c = {} ∧ t.recovCount c = 0 ∧ SameBut [.aon, .rp, .flt] s t))
  ∧ (∀ (i : Fin 8) w s, PortFree s → s.top.state ≠ .save → Does (.forceWrite i w) s (fun t => SameBut [.rp, .flt] s t
      ∧ (∀ j : Fin 256, t.flt.force.getLsbD j = if j.val / 32 = i.val then w.getLsbD (j.val % 32) else s.flt.force.getLsbD j)
      ∧ (∀ j : Fin 256, j.val / 32 = i.val → j.val ≠ 158 → j.val ≠ 159 → s.pairHeld j = false → (160 ≤ j.val ∧ j.val < 208 → (s.srcCfg j).qual ≤ 1) →
        t.subLive j 0xFFFE = w.getLsbD (j.val % 32))))
  ∧ (∀ (i : Fin 8) w s, PortFree s → s.top.state ≠ .save → Does (.forcePbWrite i w) s (fun t => SameBut [.rp, .flt] s t ∧ t.flt.force = s.flt.force
      ∧ (∀ j : Fin 256, t.flt.forcePb.getLsbD j = if j.val / 32 = i.val then w.getLsbD (j.val % 32) else s.flt.forcePb.getLsbD j)))
  ∧ (∀ c (i : Fin 8) w s, c ∈ [Instr.forceWrite i w, .forcePbWrite i w] → PortFree s → s.top.state = .save → Does c s (fun t => t.rp.err = false ∧ SameBut [.rp] s t))
  ∧ (∀ hi w s, PortFree s → Does (.isoClear hi w) s (fun t => SameBut [.rp, .flt] s t
      ∧ ∀ p : Fin 64, t.flt.iso.getLsbD p = (s.flt.iso.getLsbD p && !(decide (p.val / 32 = (if hi then 1 else 0)) && w.getLsbD (p.val % 32)))))
  ∧ (∀ (src : BitVec 8) sub s, s.ctlOn = true → 136 ≤ src.toNat ∧ src.toNat < 150 ∨ 160 ≤ src.toNat ∧ src.toNat < 208 → Does (.sourceCeasesLive src sub) s (fun t =>
      t.subLive src.toNat 0xFFFF = false ∧ (s.pairHeld src.toNat = true → t.srcLive src.toNat = s.srcLive src.toNat) ∧ SameBut [.flt] s t))
  ∧ (∀ (src : BitVec 8) sub s, s.ctlOn = true → 208 ≤ src.toNat → s.flt.forcePb.getLsbD (src.toNat - 48) = false → Does (.sourceCeasesLive src sub) s (fun t =>
      t.subLive src.toNat (src.toNat - 208) = false ∧ t.subLive (src.toNat - 48) 0xFFFD = false ∧ t.flt.pb.getLsbD (src.toNat - 48) = false ∧ SameBut [.flt] s t))

/-! ### The ledger (13) -/

/-- Epochs, the histogram's tick, the writer and the NOR devices' operations (R405, R408, R409, R411, R414 to R417, R423, R425). A regular close is made once in its second
(log entry 21) and merges with one already deferred; a record takes its RSEQ as it is queued (log entry 221), and what is to be erased before its first slot is erased
before it is written (log entry 230); a timed-out operation changes no byte (log entry 23). -/
def Obligations.LedgerEpochsAndWriter : Prop :=
  (∀ s, s.ctlOn = true → s.ledg.epochs = true → s.aon.opSec % s.im.ledg.epochLen = 0 → s.aon.opSec ≠ s.ledg.epStart → s.ledg.sealing = none → Does .epochClose s (fun t =>
      t.ledg.queue.length = s.ledg.queue.length + 1 ∧ (∃ j, t.ledg.queue.getLast? = some j ∧ j.kind = 1 ∧ j.rseq = s.ledg.rseq
        ∧ j.body = s.epochBody s.ledg.live (match s.ledg.deferred with | some f => f ||| 8 | none => 0)) ∧ t.ledg.sealing = some s.ledg.live
      ∧ t.ledg.rseq = (s.ledg.rseq + 1) % 2 ^ 32 ∧ t.ledg.deferred = none ∧ t.ledg.epStart = s.aon.opSec ∧ t.ledg.ep.start = s.stamp ∧ SameBut [.epochRan, .ledg, .bimg] s t ∧ (match s.ledg.next with
        | none => t.ledg.live = s.freshBank ∧ t.bimg = s.bimg
        | some c => t.bimg = { s.bimg with img := { s.bimg.img with ledg := c } } ∧ t.ledg.next = none ∧ (s.ledg.accepted = true → t.ledg.live = { chips := c.chips }))))
  ∧ (∀ b s, s.ctlOn = true → s.ledg.epochs = true → s.aon.opSec % s.im.ledg.epochLen = 0 → s.aon.opSec ≠ s.ledg.epStart → s.ledg.sealing = some b → Does .epochClose s (fun t =>
      t.ledg = { s.ledg with deferred := some (s.ledg.deferred.getD 0) } ∧ SameBut [.ledg] s t))
  ∧ (∀ f s, s.ctlOn = true → s.ledg.epochs = true → s.ledg.deferred = some f → s.ledg.sealing = none → Does .epochCloseDeferred s (fun t => t.ledg.deferred = none
      ∧ (∃ j, t.ledg.queue = s.ledg.queue ++ [j] ∧ j.kind = 1 ∧ j.body = s.epochBody s.ledg.live (f ||| 8)) ∧ t.ledg.sealing = some s.ledg.live ∧ (s.ledg.next = none → t.ledg.live = s.freshBank)))
  ∧ (∀ s, s.ctlOn = true → s.ledg.epochs = true → s.aon.opSec % s.tickLen = 0 → Does .histogramTick s (fun t => SameBut [.ledg] s t ∧ ∀ i : Fin 6,
      (rd t.ledg.ep.ch i).bins = match (if (rd s.im.ledg.ch i).src = 0 then none else s.chanVal (rd s.im.ledg.ch i).src) with
        | some v => (rd s.ledg.ep.ch i).bins.modify (binOf (rd s.im.ledg.ch i).edge v) (satAdd 0xFFFF · 1)
        | none => (rd s.ledg.ep.ch i).bins))
  ∧ (∀ j slot s, s.ctlOn = true → s.ledg.scanDone = true → (rd s.flt.blocks 15).held = false → s.ledg.cur = none → s.ledg.bgCur = none ∨ s.bgErasing = true → s.nextJob = some j →
      s.norDevs ≠ [] → s.nextSlot (kindArea j.kind) = some slot → s.slotErases (kindArea j.kind) slot = [] → Does .ledgerRecordWrite s (fun t =>
        t.ledg.queue = s.ledg.queue.erase j ∧ t.ledg.bgCur = s.ledg.bgCur ∧ t.ledg.suspended = s.ledg.bgCur.isSome
        ∧ (∃ w, t.ledg.cur = some w ∧ w.job = j ∧ w.area = kindArea j.kind ∧ w.slot = slot ∧ w.founding = false ∧ w.okDevs = [] ∧ w.dev :: w.left = s.norDevs
          ∧ w.ops.getLast? = some (.seal (slotAddr w.area slot + (area w.area).size - 16) (sealBytes j.rseq (j.bytes false (area w.area).size)))) ∧ SameBut [.ledg] s t))
  ∧ (∀ j slot b l s, s.ctlOn = true → s.ledg.scanDone = true → (rd s.flt.blocks 15).held = false → s.ledg.cur = none → s.ledg.bgCur = none → s.nextJob = some j →
      s.norDevs ≠ [] → s.nextSlot (kindArea j.kind) = some slot → s.held (kindArea j.kind) = false → s.slotErases (kindArea j.kind) slot = b :: l → Does .ledgerRecordWrite s (fun t =>
        t.ledg.cur = none ∧ t.ledg.bgCur = some b ∧ t.ledg.queue = s.ledg.queue ∧ (∃ a x, b.kind = .eraseAhead a ∧ b.ops = [.erase x]) ∧ SameBut [.ledg] s t))
  ∧ (∀ j b s, s.ctlOn = true → s.nextJob = some j → s.ledg.bgCur = some b → s.bgErasing = false → Does .ledgerRecordWrite s (fun t => t = s))
  ∧ (∀ j s, s.ctlOn = true → s.ledg.scanDone = true → (rd s.flt.blocks 15).held = false → s.ledg.cur = none → s.ledg.bgCur = none → s.nextJob = some j → s.norDevs = [] →
      Does .ledgerRecordWrite s (fun t => t.ledg.queue.map (·.body) = (s.ledg.queue.erase j).map (·.body) ∧ t.ledg.cur = none ∧ t.evtBit 3 3 = true ∧ SameBut [.evt, .ledg] s t))
  ∧ (∀ s, s.ctlOn = true → (rd s.flt.blocks 15).held = true ∨ s.ledg.scanDone = false → Does .ledgerRecordWrite s (fun t => t = s))
  ∧ (∀ (d : Fin 2) w a b o os s, Machine.Inv s → s.ctlOn = true → (rd s.flt.blocks 15).held = false → s.ledg.cur = some w → w.dev = d.val → w.ops = .prog a b :: o :: os →
      Does (.norOpComplete d .done) s (fun t =>
        (∀ x, Mem.read 0xFF (t.norMem d) x = if a ≤ x ∧ x < a + b.length then b.getD (x - a) 0 else Mem.read 0xFF (s.norMem d) x)
        ∧ t.ledg.cur = some { w with ops := o :: os } ∧ (∀ e : Fin 2, e ≠ d → t.norMem e = s.norMem e)))
  ∧ (∀ (d : Fin 2) w a o os s, s.ctlOn = true → (rd s.flt.blocks 15).held = false → s.ledg.cur = some w → w.dev = d.val → w.ops = .erase a :: o :: os → Does (.norOpComplete d .done) s (fun t =>
      ∀ x, Mem.read 0xFF (t.norMem d) x = if a ≤ x ∧ x < a + 4096 then 0xFF else Mem.read 0xFF (s.norMem d) x))
  ∧ (∀ (d : Fin 2) w a b s, s.ctlOn = true → (rd s.flt.blocks 15).held = false → s.ledg.cur = some w → w.dev = d.val → w.ops = [.seal a b] → w.left = [] → w.area < 6 →
      w.founding = true ∨ foundArea w.job.kind = none → Does (.norOpComplete d .done) s (fun t => t.ledg.cur = none ∧ t.ledg.rseq = s.ledg.rseq
        ∧ (rd t.ledg.heads w.area).slot = some w.slot ∧ (rd t.ledg.heads w.area).rseq = w.job.rseq))
  ∧ (∀ (d : Fin 2) b o p os s, s.ctlOn = true → (rd s.flt.blocks 15).held = false → s.ledg.cur = none → s.ledg.bgCur = some b → b.dev = d.val → s.ledg.suspended = false → b.ops = o :: p :: os →
      s.ledg.queue ≠ [] → Does (.norOpComplete d .done) s (fun t => t.ledg.bgCur = none ∧ t.ledg.bg = { b with ops := p :: os } :: s.ledg.bg ∧ t.ledg.queue = s.ledg.queue))
  ∧ (∀ (d : Fin 2) w o os s, s.ctlOn = true → (rd s.flt.blocks 15).held = false → s.ledg.cur = some w → w.dev = d.val → w.ops = o :: os → Does (.norOpComplete d .timeout) s (fun t => t.nor = s.nor
      ∧ (rd t.ledg.dev d).ok = false ∧ (rd t.ledg.dev d).ops = satAdd 0xFFFF (rd s.ledg.dev d).ops 1 ∧ t.subLive 153 d = true ∧ t.evtBit 3 0 = true))

/-- Failed and replaced devices, the scan of a Boot, the wall label, exports and the event queue (R31, R405, R410, R414, R418, R425, R426, R428, R429, R453,
R458 to R460, R479). What a device answers and holds comes with the commands; a device that has failed stays so until its probe; the directory of one without a valid one
is written in the step that finds it so (log entry 18), and an early close is made at the next turn boundary (log entry 123). -/
def Obligations.LedgerDevicesAndHost : Prop :=
  (∀ f : Sfdp, f.meets = true ↔ f.right = true ∧ 25 ≤ f.size ∧ f.erase4k = true ∧ f.addr4 = true ∧ f.page = 256 ∧ f.suspend = true ∧ f.progMax ≤ 3000 ∧ f.eraseMax ≤ 400)
  ∧ (∀ (d : Fin 2) f s, s.ctlOn = true → (rd s.ledg.dev d).ok = false → s.ledg.resilver = none → f.meets = false → Does (.norProbe d f none) s (fun t =>
      rd t.nor d = { rd s.nor d with sfdp := f } ∧ rd t.ledg.dev d = { rd s.ledg.dev d with jedec := f.jedec, size := f.size, lines := f.lines } ∧ t.ledg.resilver = none ∧ SameBut [.nor, .ledg] s t))
  ∧ (∀ (d : Fin 2) f s, s.ctlOn = true → (rd s.ledg.dev d).ok = false → s.ledg.resilver = none → f.meets = true → s.dirValid d = true → Does (.norProbe d f none) s (fun t =>
      (rd t.ledg.dev d).ok = true ∧ t.norMem d = s.norMem d ∧ t.subLive 153 d = false ∧ t.ledg.queue.map (·.body) = s.ledg.queue.map (·.body) ∧ SameBut [.nor, .flt, .ledg] s t))
  ∧ (∀ (d : Fin 2) f s, s.ctlOn = true → (rd s.ledg.dev d).ok = false → s.ledg.resilver = none → f.meets = true → s.dirValid d = false → (rd s.ledg.dev (1 - d.val)).ok = true →
      Does (.norProbe d f none) s (fun t => t.ledg.resilver = some d.val ∧ (rd t.ledg.dev d).ok = false ∧ (∃ b ∈ t.ledg.bg, b.kind = .resilver ∧ b.dev = d.val) ∧ SameBut [.nor, .ledg] s t))
  ∧ (∀ (d : Fin 2) f s, s.ctlOn = true → (rd s.ledg.dev d).ok = false → s.ledg.resilver = none → f.meets = true → s.dirValid d = false → (rd s.ledg.dev (1 - d.val)).ok = false →
      Does (.norProbe d f none) s (fun t => t.ledg.resilver = some d.val ∧ t.ledg.rsCount = 0 ∧ t.ledg.bg = s.ledg.bg ∧ SameBut [.nor, .ledg] s t))
  ∧ (∀ (d : Fin 2) s, s.ctlOn = true → s.ledg.resilver = some d.val → (∀ b ∈ s.ledg.bg, b.kind ≠ .resilver) → (∀ b, s.ledg.bgCur = some b → b.kind ≠ .resilver) →
      Does .resilverDone s (fun t => t.ledg.resilver = none ∧ (rd t.ledg.dev d).ok = true ∧ t.subLive 153 d = false ∧ t.evtBit 3 0 = true ∧ SameBut [.evt, .flt, .ledg] s t))
  ∧ (∀ s, s.ctlOn = true → s.top.state = .boot → s.ledg.scanDone = false → Does .ledgerScanDone s (fun t => t.ledg.scanDone = true ∧ t.aon.lost = false
      ∧ (s.aon.lost = false → t.aon = s.aon) ∧ ∀ d : Fin 2, (rd t.ledg.dev d).ok = if (rd s.ledg.dev d).failed then (rd s.ledg.dev d).ok else (rd s.nor d).sfdp.meets))
  ∧ (∀ hi s, PortFree s → Does (.wallCommit hi) s (fun t => let v := hi.toNat * 2 ^ 32 + s.ledg.wallLo.toNat
      t.aon.wallMs = v ∧ t.aon.wallValid = true ∧ SameBut [.aon, .evt, .rp, .ledg] s t
      ∧ if v ≤ s.aon.wallMs + 1000 ∧ s.aon.wallMs ≤ v + 1000 then t.aon.steps = s.aon.steps
        else t.aon.steps = satAdd 0xFFFFFFFF s.aon.steps 1 ∧ t.evtBit 3 2 = true ∧ t.aon.back = (if v < s.aon.wallMs then satAdd 0xFFFF s.aon.back 1 else s.aon.back)))
  ∧ (∀ w s, PortFree s → Does (.epochNow w) s (fun t => SameBut [.ctrl, .rp, .ledg] s t
      ∧ t.ledg = (if s.ledg.epochs then { s.ledg with closeDue := some (s.ledg.closeDue.getD 0 ||| 1) } else s.ledg)))
  ∧ (∀ (f : Nat) (s : State), s.ledg.closeDue = some f → s.ledg.epochs = true → s.ledg.sealing = none → s.closeTurn.ledg.closeDue = none
      ∧ s.closeTurn.ledg.sealing = some s.ledg.live ∧ ∃ j, s.closeTurn.ledg.queue = s.ledg.queue ++ [j] ∧ j.kind = 1 ∧ j.body = s.epochBody s.ledg.live (match s.ledg.deferred with | some g => g ||| f ||| 8 | none => f))
  ∧ (∀ s, PortFree s → Does .ledgerExport s (fun t => t.cmd = { code := 9, state := 1 } ∧ SameBut [.cmd, .rp, .ledg] s t
      ∧ t.ledg = { s.ledg with exporting := true, closeDue := if s.ledg.epochs then some (s.ledg.closeDue.getD 0 ||| 1) else s.ledg.closeDue }))
  ∧ (∀ s, PortFree s → Does .exportRelease s (fun t => t.ledg = { s.ledg with hold := false } ∧ t.rp.err = false ∧ SameBut [.rp, .ledg] s t))
  ∧ (∀ s, s.ctlOn = true → Does .exportHoldTimeout s (fun t => t = { s with ledg := { s.ledg with hold := false } }))
  ∧ (∀ s, PortFree s → Does .evqPop s (fun t => t.ledg = { s.ledg with evq := s.ledg.evq.drop 1 } ∧ t.rp.err = false ∧ SameBut [.rp, .ledg] s t))
  ∧ (∀ s, PortFree s → Does .evqRead s (fun t => t.rp.err = false ∧ t.rp.data = s.evqWords.getD 0 0
      ∧ t.ledg = { s.ledg with evqLatch := s.evqWords } ∧ SameBut [.rp, .ledg] s t))
  ∧ (∀ s, PortFree s → Does .wallLoRead s (fun t => t.rp.err = false ∧ t.rp.data = BitVec.ofNat 32 s.aon.wallMs
      ∧ t.ledg = { s.ledg with wallHiLatch := BitVec.ofNat 32 (s.aon.wallMs / 2 ^ 32) } ∧ SameBut [.rp, .ledg] s t))
  ∧ (∀ (ofs : BitVec 22) s, s.ctlOn = true → s.rpCause (0x400000 + ofs.toNat) false = 0 → Does (.ledgerWindowRead ofs) s (fun t =>
      match s.norWindow (s.ctrlBit 3 4) (bitsOf (rd s.ctrl 3) 6 5) ofs.toNat with
      | some w => t.rp.err = false ∧ t.rp.data = w ∧ SameBut [.rp] s t
      | none => t.rp.err = true ∧ t.rp.data = 0 ∧ bitsOf t.rp.errAddr 26 24 = 5 ∧ t.evtBit 1 0 = true ∧ SameBut [.evt, .rp] s t))

/-! ### The board image (14) -/

/-- The choice of an image at Boot, and the image and fuse commands (R438 to R444, R447, R448, R458 to R460). A reload's checks take a free number of turns below 300, and one
that fails ends the command at once (log entries 95, 181); a bank is torn while its fuses are blown (log entry 94), and a counter advance blows no fuse at the boundary
at which an abort acts (log entry 187); a refused command sets no event bit (log entry 90). -/
def Obligations.ImageCommands : Prop :=
  (∀ s, s.ctlOn = true → s.top.state = .boot → s.ledg.scanDone = true → s.bimg.running = false → Does .bimgSelect s (ImageJudged s))
  ∧ (∀ w s, PortFree s → s.top.state = .boot → s.ledg.scanDone = true → s.bimg.running = false → Does (.bimgRescan w) s (ImageJudged s))
  ∧ (∀ w s, PortFree s → s.top.state = .boot → s.ledg.scanDone = true → s.bimg.running = true → Does (.bimgRescan w) s (fun t => t.bimg.img = s.bimg.img ∧ t.bimg.running = true
      ∧ t.bimg.runSlot = s.bimg.runSlot ∧ (∀ x : Fin 2, (SlotValid s x → (rd t.bimg.slots x).result = if s.bimg.runSlot = x.val then 1 else 2)
        ∧ (¬SlotValid s x → (rd t.bimg.slots x).result = (s.judgeCopy x 0).result)) ∧ SameBut [.evt, .ctrl, .rp, .ledg, .bimg] s t))
  ∧ (∀ w s, PortFree s → s.top.state ≠ .boot ∨ s.ledg.scanDone = false → Does (.bimgRescan w) s (SameBut [.ctrl, .rp] s))
  ∧ (∀ s, PortFree s → s.inState [.boot, .ready, .service] = true → ¬(s.bimg.running = true ∧ s.argSlot = s.bimg.runSlot) → Does .slotWrite s (fun t => t.cmd.code = 1
      ∧ t.bimg.cmd = 1 ∧ SameBut [.evt, .cmd, .rp, .ledg, .bimg] s t
      ∧ if s.norDevs = [] then t.cmd.state = 3 ∧ t.bimg.state = 4
        else t.cmd.state = 1 ∧ t.bimg.state = 1 ∧ ∀ d ∈ s.norDevs, ({ kind := .slotWrite, dev := d, ops := s.slotWriteOps } : BgJob) ∈ t.ledg.bg))
  ∧ (∀ (d : Fin 2) b o s, s.ctlOn = true → (rd s.flt.blocks 15).held = false → s.ledg.cur = none → s.ledg.bgCur = some b → b.kind = .slotWrite → b.dev = d.val → b.ops = [o] →
      s.ledg.suspended = false → (∀ x ∈ s.ledg.bg, x.kind ≠ .slotWrite) → s.cmd.code = 1 → s.cmd.state = 1 → Does (.norOpComplete d .done) s (fun t =>
        if ∃ e : Fin 2, (rd t.ledg.dev e).ok = true ∧ t.chunkHeld e = true then t.cmd.state = 2 ∧ t.bimg.state = 3 else t.cmd.state = 3 ∧ t.bimg.state = 4))
  ∧ (∀ s, PortFree s → s.inState [.boot, .ready, .service] = false ∨ (s.bimg.running = true ∧ s.argSlot = s.bimg.runSlot) → Does .slotWrite s (fun t =>
      t.cmd = { code := 1, state := 5 } ∧ t.bimg = { s.bimg with cmd := 1, state := 6, result := 0 } ∧ SameBut [.cmd, .rp, .bimg] s t))
  ∧ (∀ s, PortFree s → s.top.state = .ready → s.bimg.running = true → s.argSlot ≠ s.bimg.runSlot → SlotValid s s.argSlot →
      (slotImage s s.argSlot).hdr.structCrc = s.im.hdr.structCrc → Does .tuningReload s (fun t => t.cmd = { code := 2, state := 1 } ∧ t.bimg.cmd = 2 ∧ t.bimg.state = 1
        ∧ t.bimg.reload = some (s.argSlot, slotImage s s.argSlot) ∧ t.bimg.wait < 300 ∧ t.bimg.img = s.bimg.img ∧ SameBut [.clk, .evt, .cmd, .rp, .ledg, .bimg] s t))
  ∧ (∀ s, PortFree s → s.top.state = .ready → s.bimg.running = true → s.argSlot ≠ s.bimg.runSlot → ¬SlotValid s s.argSlot → Does .tuningReload s (fun t => t.cmd.code = 2
      ∧ t.cmd.state = 5 ∧ t.bimg.state = 6 ∧ t.bimg.result = (s.judgeCopy s.argSlot 0).result ∧ t.bimg.reload = s.bimg.reload ∧ t.bimg.img = s.bimg.img))
  ∧ (∀ (x : Nat) (i : BImg) (s : State), s.bimg.reload = some (x, i) → s.bimg.wait ≠ 0 → s.reloadCommit = { s with bimg := { s.bimg with wait := s.bimg.wait - 1 } })
  ∧ (∀ (x : Nat) (i : BImg) (s : State), s.bimg.reload = some (x, i) → s.bimg.wait = 0 → s.reloadCommit.bimg.runSlot = x ∧ s.reloadCommit.bimg.reload = none ∧ s.reloadCommit.bimg.state = 3
      ∧ { s.reloadCommit.bimg.img with ledg := i.ledg } = i)
  ∧ (∀ s, PortFree s → s.top.state = .ready → s.bimg.running = true → s.argSlot ≠ s.bimg.runSlot → SlotValid s s.argSlot →
      (slotImage s s.argSlot).hdr.structCrc ≠ s.im.hdr.structCrc → Does .tuningReload s (fun t => t.cmd.code = 2 ∧ t.cmd.state = 5 ∧ t.bimg.state = 6 ∧ t.bimg.result = 13
        ∧ t.bimg.reload = s.bimg.reload ∧ t.bimg.img = s.bimg.img))
  ∧ (∀ s, PortFree s → s.top.state ≠ .ready ∨ s.bimg.running = false ∨ s.argSlot = s.bimg.runSlot → Does .tuningReload s (fun t => t.cmd = { code := 2, state := 5 }
      ∧ t.bimg = { s.bimg with cmd := 2, state := 6, result := 0 } ∧ SameBut [.cmd, .rp, .bimg] s t))
  ∧ (∀ s, PortFree s → Does .counterAdvance s (fun t => t.fuseCnt = s.fuseCnt ∧ SameBut [.cmd, .rp, .bimg] s t ∧ if s.top.state = .ready ∧ s.fuseCnt < s.im.hdr.svn
      then t.cmd = { code := 3, state := 1 } ∧ t.bimg = { s.bimg with cmd := 3, state := 1, result := 0 }
      else t.cmd = { code := 3, state := 5 } ∧ t.bimg = { s.bimg with cmd := 3, state := 6, result := 0 }))
  ∧ (∀ (i : Fin 2) s, PortFree s → s.top.state = .boot → rd s.keyBanks i = .blank → (i.val = 1 → rd s.keyBanks 0 ≠ .blank) → Does .keyFuse s (fun t => t.cmd = { code := 4, state := 1 }
      ∧ rd t.keyBanks i = .torn ∧ (∀ j : Fin 2, j ≠ i → rd t.keyBanks j = rd s.keyBanks j) ∧ t.bimg.cmd = 4 ∧ t.bimg.state = 1 ∧ t.bimg.bank = i.val ∧ SameBut [.keyBanks, .cmd, .rp, .bimg] s t))
  ∧ (∀ s, PortFree s → s.top.state ≠ .boot ∨ (∀ i : Fin 2, rd s.keyBanks i ≠ .blank) → Does .keyFuse s (fun t => t.cmd = { code := 4, state := 5 } ∧ t.bimg.state = 6
      ∧ SameBut [.cmd, .rp, .bimg] s t))
  ∧ (∀ s : State, s.cmd.code = 3 → s.cmd.state = 1 → s.cmd.abortPend = false → s.counterTurn.fuseCnt = min 64 (s.fuseCnt + 1)
      ∧ (s.im.hdr.svn ≤ min 64 (s.fuseCnt + 1) → s.counterTurn.cmd.state = 2) ∧ (min 64 (s.fuseCnt + 1) < s.im.hdr.svn → s.counterTurn.cmd = s.cmd))
  ∧ (∀ (i : Fin 2) (s : State), s.cmd.code = 4 → s.cmd.state = 1 → s.bimg.bank = i.val → rd s.keyBanks i = .torn → rd s.keyFuseTurn.keyBanks i = .valid s.keyhBytes)

/-! ### The register port (15, 16) -/

/-- The short commands, aborts and invalid commands of TOP.CMD, and what a standby refuses (R20, R309, R315, R458, R459, R462). A shutdown commanded in Save waits for the seal
(log entry 91); an abort at the controller that dwells in a drill ends the dwell (log entries 76, 219). -/
def Obligations.TopCommands : Prop :=
  (∀ s, PortFree s → s.standbyOk 0x40 = true → Does .hostShutdown s (fun t => SameBut [.top, .cmd, .rp] s t ∧ if s.inState [.ready, .ride, .service, .ret, .save] = true
      then t.cmd = { code := 0x40, state := 2 } ∧ t.top = { s.top with wantShut := true } else t.cmd = { code := 0x40, state := 5 } ∧ t.top = s.top))
  ∧ (∀ s, PortFree s → s.standbyOk 0x41 = true → Does .unlatch s (fun t => SameBut [.top, .cmd, .rp, .seq] s t ∧ if s.top.state = .latched
      then t.cmd = { code := 0x41, state := 2 } ∧ t.top = { s.top with wantUnlatch := true } ∧ t.seq = { s.seq with drv := false, restDone := false }
      else t.cmd = { code := 0x41, state := 5 } ∧ t.top = s.top ∧ t.seq = s.seq))
  ∧ (∀ s, PortFree s → s.standbyOk 0x42 = true → Does .leaveService s (fun t => SameBut [.top, .cmd, .rp] s t ∧ if s.top.state = .service ∧ s.runComplete = true
      then t.cmd = { code := 0x42, state := 2 } ∧ t.top = { s.top with wantLeave := true } else t.cmd = { code := 0x42, state := 5 } ∧ t.top = s.top))
  ∧ (∀ c k s, (c, k) ∈ ([(.hostShutdown, 0x40), (.unlatch, 0x41), (.leaveService, 0x42)] : List (Instr × Nat)) → PortFree s → s.pair.standby = true →
      Does c s (fun t => t.cmd = { code := k, state := 5 } ∧ SameBut [.cmd, .rp] s t))
  ∧ (∀ (w : Word) s, PortFree s → bitsOf w 31 16 ≠ 0xA5C3 → Does (.cmdInvalid w) s (fun t => t.cmd = s.cmd ∧ t.evtBit 1 3 = true ∧ t.rp.err = false ∧ SameBut [.evt, .rp] s t))
  ∧ (∀ (w : Word) s, PortFree s → bitsOf w 31 16 = 0xA5C3 →
      bitsOf w 7 0 ∉ [0x01, 0x02, 0x03, 0x04, 0x08, 0x09, 0x11, 0x12, 0x13, 0x14, 0x15, 0x16, 0x20, 0x21, 0x40, 0x41, 0x42] → Does (.cmdInvalid w) s (fun t =>
        t.cmd = { code := bitsOf w 7 0, state := 5 } ∧ t.rp.err = false ∧ SameBut [.cmd, .rp] s t))
  ∧ (∀ s, s.ctlOn = true → s.busy = true → Does .abort s (fun t => t.cmd = { s.cmd with abortPend := true } ∧ t.rp.err = false ∧ SameBut [.cmd, .rp, .pair] s t
      ∧ t.pair = (if s.pair.legs = 1 then { s.pair with drillLeft := 0 } else s.pair)))
  ∧ (∀ s, s.ctlOn = true → s.busy = false → Does .abort s (fun t => t.cmd = s.cmd ∧ t.rp.err = false ∧ SameBut [.rp, .pair] s t
      ∧ t.pair = (if s.pair.legs = 1 then { s.pair with drillLeft := 0 } else s.pair)))

/-- Reads and writes of registers (R6, R7, R16, R45, R401, R452 to R456, R473, R479): the latching reads, the scratch register, event bits cleared by
writing 1, registers that take no write, holes, and the cycles that end in error: while a long command runs every access but a read of the Quick window and a write of RP.ABORT shows
cause 1; between the other causes the order is the model's (log entry 92). The instant a read latches is no operand (log entry 1). -/
def Obligations.RegisterPort : Prop :=
  (∀ s, s.ctlOn = true → Does .topStampRead s (fun t => t.rp.err = false ∧ t.top = { s.top with stampLatch := t.stamp.words } ∧ t.rp.data = t.stamp.words.getD 0 0
      ∧ SameBut [.clk, .top, .rp] s t))
  ∧ (∀ last s, PortFree s → Does (.causeRecordRead last) s (fun t => t.rp.err = false ∧ SameBut [.rp, .flt] s t
      ∧ t.rp.data = wordAt (if last then s.flt.last else s.flt.first).bytes 0
      ∧ t.flt = (if last then { s.flt with lastLatch := wordsOf 8 s.flt.last.bytes } else { s.flt with firstLatch := wordsOf 8 s.flt.first.bytes })))
  ∧ (∀ s, s.ctlOn = true → s.rpCause 0x0B0020 false = 0 → Does .timeLoRead s (fun t => t.rp.err = false ∧ t.rp.data = BitVec.ofNat 32 t.fabNs
      ∧ t.fab = { s.fab with timeHi := BitVec.ofNat 32 (t.fabNs / 2 ^ 32) } ∧ SameBut [.clk, .rp, .fab] s t))
  ∧ (∀ (r : Fin 32) s, s.ctlOn = true → s.rpCause (0x210040 + 0x800 * r.val) false = 0 → Does (.descRead r) s (fun t => t.rp.err = false
      ∧ t.ring r = { s.ring r with desc := s.descWords r } ∧ t.rp.data = (s.descWords r).getD 0 0 ∧ (∀ q : Fin 32, q ≠ r → t.ring q = s.ring q) ∧ SameBut [.rp, .vault] s t))
  ∧ (∀ (k : Fin 16) (which : Fin 3) s, PortFree s → Does (.strLoRead k which) s (fun t => t.rp.err = false ∧ SameBut [.rp, .nrg] s t
      ∧ (which = 0 → t.rp.data = BitVec.ofNat 32 (ofInt 32 (s.str k).q) ∧ rd t.nrg.qHi k = s.qHiWord k)
      ∧ (which = 1 → t.rp.data = BitVec.ofNat 32 (s.str k).c ∧ rd t.nrg.cHi k = s.cHiWord k)
      ∧ (which = 2 → t.rp.data = BitVec.ofNat 32 (s.str k).cand ∧ rd t.nrg.candHi k = s.candHiWord k)))
  ∧ (∀ w s, PortFree s → Does (.registerWrite 0x010018 w) s (fun t => t.rp = { s.rp with data := 0, err := false, scratch := w } ∧ SameBut [.rp] s t ∧ t.peek 0x010018 = w))
  ∧ (∀ a b w s, (a, b) ∈ ([(0x20#32, 0), (0x010004#32, 1), (0x020004#32, 2), (0x030004#32, 3), (0x040004#32, 4), (0x050004#32, 5), (0x070004#32, 6), (0x080004#32, 7), (0x090004#32, 8),
      (0x0A0004#32, 9), (0x0C0004#32, 11), (0x200004#32, 12)] : List (BitVec 32 × Nat)) → PortFree s → Does (.registerWrite a w) s (fun t => t.rp.err = false
        ∧ rd t.evt b = rd s.evt b &&& ~~~w ∧ (∀ c < 13, c ≠ b → rd t.evt c = rd s.evt c) ∧ SameBut [.evt, .rp] s t))
  ∧ (∀ (a : BitVec 32) w s, a ∈ [0x00#32, 0x04#32, 0x08#32, 0x10#32, 0x24#32, 0x28#32, 0x40#32, 0xFC#32, 0x020008#32, 0x020040#32, 0x0F0000#32] → PortFree s → Does (.registerWrite a w) s (fun t =>
      t.rp.err = false ∧ SameBut [.rp] s t))
  ∧ (∀ (a : BitVec 32) w s, PortFree s → a.toNat % 4 ≠ 0 ∨ 0x1000000 ≤ a.toNat → Does (.registerWrite a w) s (fun t => t.rp.err = true ∧ t.rp.data = 0
      ∧ bitsOf t.rp.errAddr 26 24 = 4 ∧ t.rp.errAddr.getLsbD 27 = true ∧ t.rp.cntPort = satAdd 0xFFFF s.rp.cntPort 1 ∧ t.evtBit 1 0 = true ∧ SameBut [.evt, .rp] s t))
  ∧ (∀ (a : BitVec 32) w s, s.ctlOn = true → s.busy = true → a ≠ 0x01000C#32 → Does (.registerWrite a w) s (fun t => t.rp.err = true
      ∧ bitsOf t.rp.errAddr 26 24 = 1 ∧ SameBut [.evt, .rp] s t))
  ∧ (∀ (a : BitVec 32) s, s.ctlOn = true → s.busy = true → 0x100 ≤ a.toNat → Does (.registerReadError a) s (fun t => t.rp.err = true ∧ t.rp.data = 0
      ∧ bitsOf t.rp.errAddr 26 24 = 1 ∧ SameBut [.evt, .rp] s t))
  ∧ (∀ (a : BitVec 32) s, s.ctlOn = true → s.busy = false ∨ a.toNat < 0x100 → a.toNat % 4 ≠ 0 ∨ 0x1000000 ≤ a.toNat → Does (.registerReadError a) s (fun t => t.rp.err = true ∧ t.rp.data = 0
      ∧ bitsOf t.rp.errAddr 26 24 = 4 ∧ t.rp.errAddr.getLsbD 27 = false ∧ t.rp.cntPort = satAdd 0xFFFF s.rp.cntPort 1 ∧ t.evtBit 1 0 = true ∧ SameBut [.evt, .rp] s t))
  ∧ (∀ (a : BitVec 32) s, PortFree s → a.toNat % 4 = 0 → 0x800000 ≤ a.toNat → a.toNat < 0x1000000 → Does (.registerReadError a) s (fun t => t.rp.err = true
      ∧ t.rp.data = 0 ∧ bitsOf t.rp.errAddr 26 24 = 3 ∧ bitsOf t.rp.errAddr 23 0 = a.toNat ∧ SameBut [.evt, .rp] s t))
  ∧ (∀ a s, s.ctlOn = false → Does (.registerReadError a) s (fun t => t.rp = { s.rp with data := 0, err := true } ∧ SameBut [.rp] s t))

/-! ### PMBus (15) and the TAP (17) -/

/-- PMBus: what every read command answers, the two writes, what is invalid, and the polling of POL devices in the order of the list (R463 to R466,
R468 to R470). The packet error code is SMBus's (log entry 184), and the rounding of a temperature is free (log entry 1). -/
def Obligations.PmbusCommands : Prop :=
  (∀ c (f : State → List Byte) s, (c, f) ∈ ([(.capability, fun _ => [0xC0#8]), (.statusByte, fun t => leBytes 1 t.statusWord), (.statusWord, fun t => leBytes 2 t.statusWord),
      (.statusCml, fun t => [t.rp.cml]), (.statusMfrSpecific, fun t => leBytes 1 t.statusMfr), (.pmbusRevision, fun _ => [0x33#8]), (.mfrId, fun _ => ascii "IRNAR"),
      (.mfrModel, fun _ => ascii "HZ6432-A"), (.mfrRevision, fun _ => ascii "01"), (.mfrSerial, fun _ => leBytes 8 Config.identity.toNat),
      (.mfrHzState, fun t => leBytes 2 (t.peek 0x08).toNat), (.mfrHzSave, regBytes [0x070010, 0x07000C, 0x070048, 0x070058]), (.mfrHzStake, regBytes [0x060038, 0x060044, 0x060004]),
      (.mfrHzEnergy, regBytes [0x060028, 0x050014, 0x060054, 0x050008]), (.mfrHzVault, regBytes [0x200008, 0x200210]), (.mfrHzFault, regBytes [0x020008, 0x020120])] :
      List (Instr × (State → List Byte))) → s.ctlOn = true → Does c s (fun t => t.rp = { s.rp with block := f s, data := t.rp.data, pec := t.rp.pec } ∧ SameBut [.rp] s t))
  ∧ (∀ s, s.ctlOn = true → Does .readTemperature1 s (fun t => (∃ n, t.rp.block = leBytes 2 (tempLinear s.pins.dieTemp n)) ∧ t.clk = { s.clk with free := s.clk.free + 1 }
      ∧ SameBut [.clk, .rp] s t))
  ∧ (∀ s, s.ctlOn = true → Does (.clearFaults true) s (fun t => t = { s with rp := { s.rp with cml := 0 } }))
  ∧ (∀ bytes s, s.ctlOn = true → Does (.mfrHzRegAddr true bytes) s (fun t => if bytes.length = 3 then t = { s with rp := { s.rp with regAddr := leNat bytes } }
      else t.rp.cml = s.rp.cml ||| 0x40#8 ∧ t.rp.regAddr = s.rp.regAddr ∧ t.evtBit 1 1 = true ∧ SameBut [.evt, .rp] s t))
  ∧ (∀ c bytes s, c ∈ [Instr.clearFaults false, .mfrHzRegAddr false bytes] → s.ctlOn = true → Does c s (fun t => t.rp = { s.rp with cml := s.rp.cml ||| 0x20#8, cntPmb := satAdd 0xFFFF s.rp.cntPmb 1 }
      ∧ t.evtBit 1 1 = true ∧ SameBut [.evt, .rp] s t))
  ∧ (∀ s, s.ctlOn = true → Does .pmbusInvalidCommand s (fun t => t.rp = { s.rp with cml := s.rp.cml ||| 0x80#8, cntPmb := satAdd 0xFFFF s.rp.cntPmb 1 } ∧ t.evtBit 1 1 = true
      ∧ SameBut [.evt, .rp] s t))
  ∧ (∀ s, Does .pmbusSclTimeout s (fun t => t = s))
  ∧ (∀ s, s.ctlOn = true → s.rpCause s.rp.regAddr false ≠ 0 → Does .mfrHzReg s (fun t => t.rp.data = 0 ∧ t.rp.block = leBytes 4 0 ∧ t.rp.cml = s.rp.cml ||| 0x02#8 ∧ t.evtBit 1 1 = true
      ∧ SameBut [.evt, .rp] s t))
  ∧ (∀ s, s.ctlOn = true → s.rp.regAddr < 0x400000 → s.rpCause s.rp.regAddr false = 0 → s.latchAt s.rp.regAddr = s → Does .mfrHzReg s (fun t => t.rp.data = s.peek s.rp.regAddr
      ∧ t.rp.block = leBytes 4 (s.peek s.rp.regAddr).toNat ∧ t.rp.cml = s.rp.cml ∧ SameBut [.rp] s t))
  ∧ (∀ (d : Fin 64) st v i tp s, s.ctlOn = true → s.pollOn = true → s.pmbRuns = true → s.pollNext = some d.val → st / 8192 = 0 → st / 2 % 128 = 0 →
      Does (.pmbPoll d (some (st, v, i, tp))) s (fun t => (rd t.rp.pol d).status = st ∧ (rd t.rp.pol d).misses = 0 ∧ (rd t.rp.pol d).age = 0 ∧ (rd t.rp.pol d).failed = false
        ∧ t.subLive 154 d = false ∧ t.rp.pos = (d.val + 1) % 64 ∧ SameBut [.clk, .flt, .rp] s t))
  ∧ (∀ (d : Fin 64) st v i tp s, s.ctlOn = true → s.pollOn = true → s.pmbRuns = true → s.pollNext = some d.val → st / 8192 ≠ 0 ∨ st / 2 % 128 ≠ 0 →
      Does (.pmbPoll d (some (st, v, i, tp))) s (fun t => (rd t.rp.pol d).status = st ∧ (rd t.rp.pol d).failed = true ∧ t.subLive 154 d = true ∧ t.rp.pos = (d.val + 1) % 64))
  ∧ (∀ (d : Fin 64) s, s.ctlOn = true → s.pollOn = true → s.pmbRuns = true → s.pollNext = some d.val → Does (.pmbPoll d none) s (fun t =>
      (rd t.rp.pol d).misses = satAdd 255 (rd s.rp.pol d).misses 1 ∧ (rd t.rp.pol d).vout = (rd s.rp.pol d).vout
      ∧ (2 ≤ (rd s.rp.pol d).misses → (rd t.rp.pol d).failed = true ∧ t.subLive 154 d = true) ∧ t.rp.pos = (d.val + 1) % 64 ∧ SameBut [.evt, .flt, .rp] s t))
  ∧ (∀ (d : Fin 64) r s, s.ctlOn = true → s.pollOn = false ∨ s.pmbRuns = false ∨ s.pollNext ≠ some d.val → Does (.pmbPoll d r) s (fun t => t = s))
  ∧ (∀ (d : Nat) (s : State), s.pollNext = some d → (rd s.im.pmb d).addr ≠ 0 ∧ s.pollHeld d = false)

/-- The test access port (R516): every instruction takes force; IDCODE and Test-Logic-Reset select the identification register and BYPASS, CLAMP and HIGHZ the one-bit
register of 0 (log entry 144); SAMPLE/PRELOAD captures what the pins do; while EXTEST, its pulse or train, CLAMP or HIGHZ is in force the boundary cells own the pins
and FRZ_N is not driven by the freeze path, and every other instruction returns them to their functions; HIGHZ drives none. What the cells hold is a free value
(log entry 145). -/
def Obligations.TapInstructions : Prop :=
  (∀ c i d s, (c, i, d) ∈ ([(.tapReset, .reset, some 0x16432FFF#32), (.bypass, .bypass, some 0), (.idcode, .idcode, some 0x16432FFF#32), (.samplePreload, .samplePreload, none),
      (.extest, .extest, none), (.clamp, .clamp, some 0), (.highz, .highz, some 0), (.extestPulse, .extestPulse, none), (.extestTrain, .extestTrain, none)] :
      List (Instr × TapIr × Option Word)) →
    Does c s (fun t => t.pins = { s.pins with tap := i, tapDr := d.getD s.pins.tapDr, captured := t.pins.captured, cells := t.pins.cells }
      ∧ (i ≠ .samplePreload → t.pins.captured = s.pins.captured) ∧ t.clk = { s.clk with free := t.clk.free } ∧ SameBut [.clk, .pins] s t))
  ∧ (∀ s, Does .samplePreload s (fun t => t.pins.captured = allPins.map s.pinFn ∧ t.pins.cells = some s.clk.free ∧ ∀ o, t.pinOut o = t.pinFn o))
  ∧ (∀ c s, c ∈ [Instr.tapReset, .bypass, .idcode] → Does c s (fun t => t.pins.cells = s.pins.cells ∧ t.frzDrive = s.top.frz ∧ ∀ o, t.pinOut o = s.pinFn o))
  ∧ (∀ c s, c ∈ [Instr.extest, .clamp, .extestPulse, .extestTrain] → Does c s (fun t => t.pins.cells = some (s.pins.cells.getD s.clk.free) ∧ ∀ o, t.pinOut o = t.cellDrive o))
  ∧ (∀ s, Does .highz s (fun t => t.frzDrive = 0 ∧ (∀ o ∈ allPins, t.pinOut o = .hiZ ∨ t.pinOut o = .idle) ∧ ∀ n, t.pinOut (.en n) = .hiZ))
  ∧ (∀ (p : Nat) s, Does .extestPulse s (fun t => t.pinOut (.hclTx p) = .pulse) ∧ Does .extestTrain s (fun t => t.pinOut (.hclTx p) = .train))

/-! ### Rules over all commands -/

/-- What each command leaves unchanged, whatever the state: every field of State but those its meaning names (partsOf). The NOR devices change only by a NOR
operation's completion, a probe and the ledger scan; the fuses only at a turn boundary; the queue never. -/
def Obligations.EveryCommandLeavesTheRest : Prop := ∀ (c : Instr) (s : State), Touches c s (partsOf c)

/-- While the control island is unpowered or held in reset (Table 01-3, R18, R454), a command answers and changes nothing but what the register port shows and the
counter of values left open, but for the commands of supplies, resets, clocks, trips, sled presence, the push-button, AON's second, the token keeper and the test
access port, and, while the fabric island runs on (R18), that island's. The flash islands run on as well, with nothing to do: their rings belong to the mover, which is in
reset (log entry 209). -/
def Obligations.UnpoweredControlIslandIsStill : Prop :=
  ∀ (c : Instr) (s : State), s.ctlOn = false → actsUnpowered c = false → (actsOnFabric c = true → s.fabRuns = false) → Touches c s [.clk, .rp]

/-- R404: every FORCE, FORCE_PB and FORCE_LIVE bit is clear once Save is entered and once Boot is entered, by whatever command, at a controller that is no standby
(TOP.STATE of a standby follows frames, R27). A t_trip outside Save clears them in every state of a powered control island, a standby's included (R5, R12, R118, R347, R521);
writes of them during Save change nothing. -/
def Obligations.ForcesClearAtTripAndBoot : Prop :=
  (∀ (c : Instr) (s t : State), s.pair.standby = false → exec c s = .next t →
      (s.top.state ≠ .save → t.top.state = .save → ForcesClear t) ∧ (s.top.state ≠ .boot → t.top.state = .boot → ForcesClear t))
  ∧ (∀ c also s, c ∈ [Instr.holdReq also, .pfiBusSag also] → s.ctlUp = true → s.top.state ≠ .save → Does c s (fun t => ForcesClear t ∧ t.top.frz = 0xFF#8))
  ∧ (∀ c also s, c ∈ [Instr.holdReq also, .pfiBusSag also] → s.ctlUp = true → s.paired = true → s.pair.drv = false → s.pair.standby = true →
      Does c s (fun t => ForcesClear t ∧ t.top.state = s.top.state ∧ t.top.frz = 0xFF#8))
  ∧ (∀ (n : Fin 8) also s, s.ctlUp = true → s.bimg.running = true → s.im.core.rideThrough = false → s.acgFast < s.im.core.acgThr → rd s.pins.acgLow n = false →
      s.im.core.acgThr ≤ s.acgFast + 1 → s.top.state ≠ .save → Does (.acgLoss n also) s (fun t => ForcesClear t ∧ t.top.frz = 0xFF#8))
  ∧ (∀ s, s.top.state = .boot → s.pins.mrLow = true → s.pins.mrWait = false → Does .mrNRelease s ForcesClear)
  ∧ (∀ i w s, PortFree s → s.top.state = .save → Does (.forceWrite i w) s (SameBut [.rp] s) ∧ Does (.forcePbWrite i w) s (SameBut [.rp] s))
  ∧ (∀ (i : Fin 8) w s, PortFree s → s.top.state = .save → Does (.registerWrite (BitVec.ofNat 32 (0x0200A0 + 4 * i.val)) w) s (SameBut [.rp] s)
      ∧ Does (.registerWrite (BitVec.ofNat 32 (0x0200C0 + 4 * i.val)) w) s (SameBut [.rp] s))
  ∧ (∀ w s, PortFree s → s.top.state = .save → Does (.registerWrite 0x020000 w) s (fun t => t.ctrlBit 2 4 = s.ctrlBit 2 4 ∧ t.flt.force = s.flt.force ∧ t.flt.forcePb = s.flt.forcePb)
      ∧ Does (.clrFirst w) s (fun t => t.ctrlBit 2 4 = s.ctrlBit 2 4 ∧ t.flt.force = s.flt.force ∧ t.flt.forcePb = s.flt.forcePb))

/-- R32: whatever command enters Boot counts the power cycle on by 1, and so does MR_N's release in Boot; nothing else changes the count but the ledger scan after AON has lost its
state (R31), AON's own power-up and its loss. The count stays at
0xFFFFFF (log entry 146). -/
def Obligations.EveryBootCountsAPowerCycle : Prop :=
  (∀ (c : Instr) (s t : State), s.pair.standby = false → exec c s = .next t → s.aon.cycles < 0xFFFFFF → s.top.state ≠ .boot → t.top.state = .boot →
      t.aon.cycles = s.aon.cycles + 1)
  ∧ (∀ s, s.aon.cycles < 0xFFFFFF → s.top.state = .boot → s.pins.mrLow = true → s.pins.mrWait = false → Does .mrNRelease s (fun t => t.top.state = .boot ∧ t.aon.cycles = s.aon.cycles + 1))
  ∧ (∀ (c : Instr) (s t : State), exec c s = .next t → t.aon.cycles = s.aon.cycles ∨ (t.top.state = .boot ∧ t.aon.cycles = satAdd 0xFFFFFF s.aon.cycles 1)
      ∨ (c = .ledgerScanDone ∧ s.aon.lost = true) ∨ s.top.state = .off ∨ t.top.state = .off)

/-- The event queue (R418): from every state in which it holds at most 256 occurrences, no command makes it hold more; an occurrence posted to a full queue is counted in
its bank, is not queued and counts in DROPPED. -/
def Obligations.EventQueueHoldsAtMost256 : Prop :=
  (∀ (c : Instr) (s t : State), s.ledg.evq.length ≤ 256 → exec c s = .next t → t.ledg.evq.length ≤ 256)
  ∧ (∀ (kind unit datum : Nat) (s : State), s.ledg.evq.length = 256 → s.ledg.live.chipsLeft (kind * 256 + unit) ≠ 0 →
      (s.count kind unit datum).ledg.evq = s.ledg.evq ∧ (s.count kind unit datum).ledg.dropped = satAdd 0xFFFF s.ledg.dropped 1
      ∧ (s.count kind unit datum).ledg.live = s.ledg.live.upd (kind * 256 + unit) (fun c => { c with count := c.count + 1 }))

/-- R52: after the commitment step STAKE.PST[p].CLIP reads 1 exactly while the host's ceiling is enabled and above min(share_p, 4096, cap_p); the target of an eligible port is then
that hardware figure. -/
def Obligations.ClipReadsACeilingAboveTheHardware : Prop :=
  ∀ (s : State) (p : Fin 64), s.stake.hold = none → s.pair.standby = false →
    let hw := min (min (rd (waterFill s.stake.v.bTotal s.weightOf s.capOf) p) 4096) (s.capOf p)
    (((s.stakeCommit).peek (0x060400 + 4 * p)).getLsbD 0 = true ↔ (s.stkQ p).ceilEn = true ∧ hw < min 4096 (s.stkQ p).ceil)
    ∧ ((s.stkQ p).ceilEn = true → hw < min 4096 (s.stkQ p).ceil → (s.stkQ p).elig = true → (s.stakeCommit.stk p).tgt = hw)
end

