-- ==== Sys2Proof/Laws/Tab.lean ====
section
/-! SUPPORT. Laws of the fixed-size tables: what an entry reads after a write, and under each way to build a table. -/
set_option Elab.async false

namespace Sys2Proof

variable {α β : Type} {n : Nat}

@[simp] theorem rd_wr_self [Inhabited α] (v : Tab α n) (i : Nat) (x : α) (h : i < n) : rd (wr v i x) i = x := by
  simp [rd, wr, h]

theorem rd_wr_ne [Inhabited α] (v : Tab α n) (i j : Nat) (x : α) (h : i ≠ j) : rd (wr v i x) j = rd v j := by
  simp [rd, wr, List.getD_eq_getElem?_getD, List.getElem?_set_ne h]

@[simp] theorem rd_md_self [Inhabited α] (v : Tab α n) (i : Nat) (f : α → α) (h : i < n) : rd (md v i f) i = f (rd v i) := by
  simp [md, h]

theorem rd_md_ne [Inhabited α] (v : Tab α n) (i j : Nat) (f : α → α) (h : i ≠ j) : rd (md v i f) j = rd v j := by
  simp [md, rd_wr_ne _ _ _ _ h]

theorem rd_md [Inhabited α] (v : Tab α n) (i j : Nat) (f : α → α) (h : i < n) :
    rd (md v i f) j = if i = j then f (rd v j) else rd v j := by
  by_cases e : i = j
  · subst e; simp [h]
  · simp [e, rd_md_ne _ _ _ _ e]

@[simp] theorem rd_tgen [Inhabited α] (f : Nat → α) (i : Nat) (h : i < n) : rd (tgen n f) i = f i := by
  simp [rd, tgen, h, List.getD_eq_getElem?_getD]

@[simp] theorem rd_tall [Inhabited α] (x : α) (i : Nat) (h : i < n) : rd (tall n x) i = x := by
  simp [tall, h]

@[simp] theorem rd_tmap [Inhabited α] [Inhabited β] (f : α → β) (v : Tab α n) (i : Nat) (h : i < n) :
    rd (tmap f v) i = f (rd v i) := by
  simp [rd, tmap, h, List.getD_eq_getElem?_getD]

/-- An entry beyond the table reads the default. -/
theorem rd_out [Inhabited α] (v : Tab α n) (i : Nat) (h : n ≤ i) : rd v i = default := by
  simp [rd, List.getD_eq_getElem?_getD, h]

end Sys2Proof
end

