-- ==== Sys2Proof/Laws/Agree.lean ====
section
/-! SUPPORT. `Agree m s t`: the states agree in every field of State but those whose bit is set in `m` (bit 0 is `clk`, in the order of
the structure). One lemma for each function of the machine says which fields it can change. -/
set_option Elab.async false

set_option linter.unusedTactic false
set_option linter.unreachableTactic false

namespace Sys2Proof.Machine
namespace State

/-- Agreement outside the fields of a mask. -/
structure Agree (m : Nat) (s t : State) : Prop where
  clk : m.testBit 0 = false → t.clk = s.clk
  pins : m.testBit 1 = false → t.pins = s.pins
  aon : m.testBit 2 = false → t.aon = s.aon
  nor : m.testBit 3 = false → t.nor = s.nor
  fuseCnt : m.testBit 4 = false → t.fuseCnt = s.fuseCnt
  keyBanks : m.testBit 5 = false → t.keyBanks = s.keyBanks
  epochRan : m.testBit 6 = false → t.epochRan = s.epochRan
  top : m.testBit 7 = false → t.top = s.top
  evt : m.testBit 8 = false → t.evt = s.evt
  ctrl : m.testBit 9 = false → t.ctrl = s.ctrl
  busyIrq : m.testBit 10 = false → t.busyIrq = s.busyIrq
  cmd : m.testBit 11 = false → t.cmd = s.cmd
  rp : m.testBit 12 = false → t.rp = s.rp
  flt : m.testBit 13 = false → t.flt = s.flt
  ledg : m.testBit 14 = false → t.ledg = s.ledg
  bimg : m.testBit 15 = false → t.bimg = s.bimg
  seq : m.testBit 16 = false → t.seq = s.seq
  nrg : m.testBit 17 = false → t.nrg = s.nrg
  links : m.testBit 18 = false → t.links = s.links
  stake : m.testBit 19 = false → t.stake = s.stake
  vault : m.testBit 20 = false → t.vault = s.vault
  stage : m.testBit 21 = false → t.stage = s.stage
  save : m.testBit 22 = false → t.save = s.save
  ret : m.testBit 23 = false → t.ret = s.ret
  fab : m.testBit 24 = false → t.fab = s.fab
  pair : m.testBit 25 = false → t.pair = s.pair
  pending : m.testBit 26 = false → t.pending = s.pending

namespace Agree
variable {m k : Nat} {s t u : State}

theorem refl (m : Nat) (s : State) : Agree m s s := by constructor <;> intro _ <;> rfl

theorem mono (h : Agree k s t) (hk : k ||| m = m) : Agree m s t := by
  have e : ∀ i, m.testBit i = false → k.testBit i = false := by
    intro i hi; rw [← hk, Nat.testBit_or] at hi; simp at hi; exact hi.1
  constructor <;> intro hi
  · exact h.clk (e _ hi)
  · exact h.pins (e _ hi)
  · exact h.aon (e _ hi)
  · exact h.nor (e _ hi)
  · exact h.fuseCnt (e _ hi)
  · exact h.keyBanks (e _ hi)
  · exact h.epochRan (e _ hi)
  · exact h.top (e _ hi)
  · exact h.evt (e _ hi)
  · exact h.ctrl (e _ hi)
  · exact h.busyIrq (e _ hi)
  · exact h.cmd (e _ hi)
  · exact h.rp (e _ hi)
  · exact h.flt (e _ hi)
  · exact h.ledg (e _ hi)
  · exact h.bimg (e _ hi)
  · exact h.seq (e _ hi)
  · exact h.nrg (e _ hi)
  · exact h.links (e _ hi)
  · exact h.stake (e _ hi)
  · exact h.vault (e _ hi)
  · exact h.stage (e _ hi)
  · exact h.save (e _ hi)
  · exact h.ret (e _ hi)
  · exact h.fab (e _ hi)
  · exact h.pair (e _ hi)
  · exact h.pending (e _ hi)

theorem trans (h : Agree m s t) (g : Agree m t u) : Agree m s u := by
  constructor <;> intro hi
  · exact (g.clk hi).trans (h.clk hi)
  · exact (g.pins hi).trans (h.pins hi)
  · exact (g.aon hi).trans (h.aon hi)
  · exact (g.nor hi).trans (h.nor hi)
  · exact (g.fuseCnt hi).trans (h.fuseCnt hi)
  · exact (g.keyBanks hi).trans (h.keyBanks hi)
  · exact (g.epochRan hi).trans (h.epochRan hi)
  · exact (g.top hi).trans (h.top hi)
  · exact (g.evt hi).trans (h.evt hi)
  · exact (g.ctrl hi).trans (h.ctrl hi)
  · exact (g.busyIrq hi).trans (h.busyIrq hi)
  · exact (g.cmd hi).trans (h.cmd hi)
  · exact (g.rp hi).trans (h.rp hi)
  · exact (g.flt hi).trans (h.flt hi)
  · exact (g.ledg hi).trans (h.ledg hi)
  · exact (g.bimg hi).trans (h.bimg hi)
  · exact (g.seq hi).trans (h.seq hi)
  · exact (g.nrg hi).trans (h.nrg hi)
  · exact (g.links hi).trans (h.links hi)
  · exact (g.stake hi).trans (h.stake hi)
  · exact (g.vault hi).trans (h.vault hi)
  · exact (g.stage hi).trans (h.stage hi)
  · exact (g.save hi).trans (h.save hi)
  · exact (g.ret hi).trans (h.ret hi)
  · exact (g.fab hi).trans (h.fab hi)
  · exact (g.pair hi).trans (h.pair hi)
  · exact (g.pending hi).trans (h.pending hi)

/-- The last function of a chain changes only fields of the mask. -/
theorem step (g : Agree k t u) (hk : k ||| m = m) (h : Agree m s t) : Agree m s u := h.trans (g.mono hk)

theorem forL {α : Type} {l : List α} {f : α → State → State} (hf : ∀ x t, Agree m s t → Agree m s (f x t)) (h : Agree m s t) : Agree m s (forL l f t) := by
  unfold Sys2Proof.forL
  induction l generalizing t with
  | nil => exact h
  | cons a l ih => exact ih (hf a t h)

theorem forN {n : Nat} {f : Nat → State → State} (hf : ∀ x t, Agree m s t → Agree m s (f x t)) (h : Agree m s t) : Agree m s (forN n f t) := forL hf h

theorem iter {n : Nat} {f : State → State} (hf : ∀ t, Agree m s t → Agree m s (f t)) (h : Agree m s t) : Agree m s (iter n f t) := by
  unfold Sys2Proof.iter
  induction List.range n generalizing t with
  | nil => exact h
  | cons a l ih => exact ih (hf t h)

theorem upd_clk (v) (hk : 1 ||| m = m) (h : Agree m s t) : Agree m s (State.mk v t.pins t.aon t.nor t.fuseCnt t.keyBanks t.epochRan t.top t.evt t.ctrl t.busyIrq t.cmd t.rp t.flt t.ledg t.bimg t.seq t.nrg t.links t.stake t.vault t.stage t.save t.ret t.fab t.pair t.pending) := by
  refine h.trans (Agree.mono (k := 1) ?_ hk)
  constructor <;> intro hi <;> first | rfl | simp [Nat.testBit] at hi

theorem upd_pins (v) (hk : 2 ||| m = m) (h : Agree m s t) : Agree m s (State.mk t.clk v t.aon t.nor t.fuseCnt t.keyBanks t.epochRan t.top t.evt t.ctrl t.busyIrq t.cmd t.rp t.flt t.ledg t.bimg t.seq t.nrg t.links t.stake t.vault t.stage t.save t.ret t.fab t.pair t.pending) := by
  refine h.trans (Agree.mono (k := 2) ?_ hk)
  constructor <;> intro hi <;> first | rfl | simp [Nat.testBit] at hi

theorem upd_aon (v) (hk : 4 ||| m = m) (h : Agree m s t) : Agree m s (State.mk t.clk t.pins v t.nor t.fuseCnt t.keyBanks t.epochRan t.top t.evt t.ctrl t.busyIrq t.cmd t.rp t.flt t.ledg t.bimg t.seq t.nrg t.links t.stake t.vault t.stage t.save t.ret t.fab t.pair t.pending) := by
  refine h.trans (Agree.mono (k := 4) ?_ hk)
  constructor <;> intro hi <;> first | rfl | simp [Nat.testBit] at hi

theorem upd_nor (v) (hk : 8 ||| m = m) (h : Agree m s t) : Agree m s (State.mk t.clk t.pins t.aon v t.fuseCnt t.keyBanks t.epochRan t.top t.evt t.ctrl t.busyIrq t.cmd t.rp t.flt t.ledg t.bimg t.seq t.nrg t.links t.stake t.vault t.stage t.save t.ret t.fab t.pair t.pending) := by
  refine h.trans (Agree.mono (k := 8) ?_ hk)
  constructor <;> intro hi <;> first | rfl | simp [Nat.testBit] at hi

theorem upd_fuseCnt (v) (hk : 16 ||| m = m) (h : Agree m s t) : Agree m s (State.mk t.clk t.pins t.aon t.nor v t.keyBanks t.epochRan t.top t.evt t.ctrl t.busyIrq t.cmd t.rp t.flt t.ledg t.bimg t.seq t.nrg t.links t.stake t.vault t.stage t.save t.ret t.fab t.pair t.pending) := by
  refine h.trans (Agree.mono (k := 16) ?_ hk)
  constructor <;> intro hi <;> first | rfl | simp [Nat.testBit] at hi

theorem upd_keyBanks (v) (hk : 32 ||| m = m) (h : Agree m s t) : Agree m s (State.mk t.clk t.pins t.aon t.nor t.fuseCnt v t.epochRan t.top t.evt t.ctrl t.busyIrq t.cmd t.rp t.flt t.ledg t.bimg t.seq t.nrg t.links t.stake t.vault t.stage t.save t.ret t.fab t.pair t.pending) := by
  refine h.trans (Agree.mono (k := 32) ?_ hk)
  constructor <;> intro hi <;> first | rfl | simp [Nat.testBit] at hi

theorem upd_epochRan (v) (hk : 64 ||| m = m) (h : Agree m s t) : Agree m s (State.mk t.clk t.pins t.aon t.nor t.fuseCnt t.keyBanks v t.top t.evt t.ctrl t.busyIrq t.cmd t.rp t.flt t.ledg t.bimg t.seq t.nrg t.links t.stake t.vault t.stage t.save t.ret t.fab t.pair t.pending) := by
  refine h.trans (Agree.mono (k := 64) ?_ hk)
  constructor <;> intro hi <;> first | rfl | simp [Nat.testBit] at hi

theorem upd_top (v) (hk : 128 ||| m = m) (h : Agree m s t) : Agree m s (State.mk t.clk t.pins t.aon t.nor t.fuseCnt t.keyBanks t.epochRan v t.evt t.ctrl t.busyIrq t.cmd t.rp t.flt t.ledg t.bimg t.seq t.nrg t.links t.stake t.vault t.stage t.save t.ret t.fab t.pair t.pending) := by
  refine h.trans (Agree.mono (k := 128) ?_ hk)
  constructor <;> intro hi <;> first | rfl | simp [Nat.testBit] at hi

theorem upd_evt (v) (hk : 256 ||| m = m) (h : Agree m s t) : Agree m s (State.mk t.clk t.pins t.aon t.nor t.fuseCnt t.keyBanks t.epochRan t.top v t.ctrl t.busyIrq t.cmd t.rp t.flt t.ledg t.bimg t.seq t.nrg t.links t.stake t.vault t.stage t.save t.ret t.fab t.pair t.pending) := by
  refine h.trans (Agree.mono (k := 256) ?_ hk)
  constructor <;> intro hi <;> first | rfl | simp [Nat.testBit] at hi

theorem upd_ctrl (v) (hk : 512 ||| m = m) (h : Agree m s t) : Agree m s (State.mk t.clk t.pins t.aon t.nor t.fuseCnt t.keyBanks t.epochRan t.top t.evt v t.busyIrq t.cmd t.rp t.flt t.ledg t.bimg t.seq t.nrg t.links t.stake t.vault t.stage t.save t.ret t.fab t.pair t.pending) := by
  refine h.trans (Agree.mono (k := 512) ?_ hk)
  constructor <;> intro hi <;> first | rfl | simp [Nat.testBit] at hi

theorem upd_busyIrq (v) (hk : 1024 ||| m = m) (h : Agree m s t) : Agree m s (State.mk t.clk t.pins t.aon t.nor t.fuseCnt t.keyBanks t.epochRan t.top t.evt t.ctrl v t.cmd t.rp t.flt t.ledg t.bimg t.seq t.nrg t.links t.stake t.vault t.stage t.save t.ret t.fab t.pair t.pending) := by
  refine h.trans (Agree.mono (k := 1024) ?_ hk)
  constructor <;> intro hi <;> first | rfl | simp [Nat.testBit] at hi

theorem upd_cmd (v) (hk : 2048 ||| m = m) (h : Agree m s t) : Agree m s (State.mk t.clk t.pins t.aon t.nor t.fuseCnt t.keyBanks t.epochRan t.top t.evt t.ctrl t.busyIrq v t.rp t.flt t.ledg t.bimg t.seq t.nrg t.links t.stake t.vault t.stage t.save t.ret t.fab t.pair t.pending) := by
  refine h.trans (Agree.mono (k := 2048) ?_ hk)
  constructor <;> intro hi <;> first | rfl | simp [Nat.testBit] at hi

theorem upd_rp (v) (hk : 4096 ||| m = m) (h : Agree m s t) : Agree m s (State.mk t.clk t.pins t.aon t.nor t.fuseCnt t.keyBanks t.epochRan t.top t.evt t.ctrl t.busyIrq t.cmd v t.flt t.ledg t.bimg t.seq t.nrg t.links t.stake t.vault t.stage t.save t.ret t.fab t.pair t.pending) := by
  refine h.trans (Agree.mono (k := 4096) ?_ hk)
  constructor <;> intro hi <;> first | rfl | simp [Nat.testBit] at hi

theorem upd_flt (v) (hk : 8192 ||| m = m) (h : Agree m s t) : Agree m s (State.mk t.clk t.pins t.aon t.nor t.fuseCnt t.keyBanks t.epochRan t.top t.evt t.ctrl t.busyIrq t.cmd t.rp v t.ledg t.bimg t.seq t.nrg t.links t.stake t.vault t.stage t.save t.ret t.fab t.pair t.pending) := by
  refine h.trans (Agree.mono (k := 8192) ?_ hk)
  constructor <;> intro hi <;> first | rfl | simp [Nat.testBit] at hi

theorem upd_ledg (v) (hk : 16384 ||| m = m) (h : Agree m s t) : Agree m s (State.mk t.clk t.pins t.aon t.nor t.fuseCnt t.keyBanks t.epochRan t.top t.evt t.ctrl t.busyIrq t.cmd t.rp t.flt v t.bimg t.seq t.nrg t.links t.stake t.vault t.stage t.save t.ret t.fab t.pair t.pending) := by
  refine h.trans (Agree.mono (k := 16384) ?_ hk)
  constructor <;> intro hi <;> first | rfl | simp [Nat.testBit] at hi

theorem upd_bimg (v) (hk : 32768 ||| m = m) (h : Agree m s t) : Agree m s (State.mk t.clk t.pins t.aon t.nor t.fuseCnt t.keyBanks t.epochRan t.top t.evt t.ctrl t.busyIrq t.cmd t.rp t.flt t.ledg v t.seq t.nrg t.links t.stake t.vault t.stage t.save t.ret t.fab t.pair t.pending) := by
  refine h.trans (Agree.mono (k := 32768) ?_ hk)
  constructor <;> intro hi <;> first | rfl | simp [Nat.testBit] at hi

theorem upd_seq (v) (hk : 65536 ||| m = m) (h : Agree m s t) : Agree m s (State.mk t.clk t.pins t.aon t.nor t.fuseCnt t.keyBanks t.epochRan t.top t.evt t.ctrl t.busyIrq t.cmd t.rp t.flt t.ledg t.bimg v t.nrg t.links t.stake t.vault t.stage t.save t.ret t.fab t.pair t.pending) := by
  refine h.trans (Agree.mono (k := 65536) ?_ hk)
  constructor <;> intro hi <;> first | rfl | simp [Nat.testBit] at hi

theorem upd_nrg (v) (hk : 131072 ||| m = m) (h : Agree m s t) : Agree m s (State.mk t.clk t.pins t.aon t.nor t.fuseCnt t.keyBanks t.epochRan t.top t.evt t.ctrl t.busyIrq t.cmd t.rp t.flt t.ledg t.bimg t.seq v t.links t.stake t.vault t.stage t.save t.ret t.fab t.pair t.pending) := by
  refine h.trans (Agree.mono (k := 131072) ?_ hk)
  constructor <;> intro hi <;> first | rfl | simp [Nat.testBit] at hi

theorem upd_links (v) (hk : 262144 ||| m = m) (h : Agree m s t) : Agree m s (State.mk t.clk t.pins t.aon t.nor t.fuseCnt t.keyBanks t.epochRan t.top t.evt t.ctrl t.busyIrq t.cmd t.rp t.flt t.ledg t.bimg t.seq t.nrg v t.stake t.vault t.stage t.save t.ret t.fab t.pair t.pending) := by
  refine h.trans (Agree.mono (k := 262144) ?_ hk)
  constructor <;> intro hi <;> first | rfl | simp [Nat.testBit] at hi

theorem upd_stake (v) (hk : 524288 ||| m = m) (h : Agree m s t) : Agree m s (State.mk t.clk t.pins t.aon t.nor t.fuseCnt t.keyBanks t.epochRan t.top t.evt t.ctrl t.busyIrq t.cmd t.rp t.flt t.ledg t.bimg t.seq t.nrg t.links v t.vault t.stage t.save t.ret t.fab t.pair t.pending) := by
  refine h.trans (Agree.mono (k := 524288) ?_ hk)
  constructor <;> intro hi <;> first | rfl | simp [Nat.testBit] at hi

theorem upd_vault (v) (hk : 1048576 ||| m = m) (h : Agree m s t) : Agree m s (State.mk t.clk t.pins t.aon t.nor t.fuseCnt t.keyBanks t.epochRan t.top t.evt t.ctrl t.busyIrq t.cmd t.rp t.flt t.ledg t.bimg t.seq t.nrg t.links t.stake v t.stage t.save t.ret t.fab t.pair t.pending) := by
  refine h.trans (Agree.mono (k := 1048576) ?_ hk)
  constructor <;> intro hi <;> first | rfl | simp [Nat.testBit] at hi

theorem upd_stage (v) (hk : 2097152 ||| m = m) (h : Agree m s t) : Agree m s (State.mk t.clk t.pins t.aon t.nor t.fuseCnt t.keyBanks t.epochRan t.top t.evt t.ctrl t.busyIrq t.cmd t.rp t.flt t.ledg t.bimg t.seq t.nrg t.links t.stake t.vault v t.save t.ret t.fab t.pair t.pending) := by
  refine h.trans (Agree.mono (k := 2097152) ?_ hk)
  constructor <;> intro hi <;> first | rfl | simp [Nat.testBit] at hi

theorem upd_save (v) (hk : 4194304 ||| m = m) (h : Agree m s t) : Agree m s (State.mk t.clk t.pins t.aon t.nor t.fuseCnt t.keyBanks t.epochRan t.top t.evt t.ctrl t.busyIrq t.cmd t.rp t.flt t.ledg t.bimg t.seq t.nrg t.links t.stake t.vault t.stage v t.ret t.fab t.pair t.pending) := by
  refine h.trans (Agree.mono (k := 4194304) ?_ hk)
  constructor <;> intro hi <;> first | rfl | simp [Nat.testBit] at hi

theorem upd_ret (v) (hk : 8388608 ||| m = m) (h : Agree m s t) : Agree m s (State.mk t.clk t.pins t.aon t.nor t.fuseCnt t.keyBanks t.epochRan t.top t.evt t.ctrl t.busyIrq t.cmd t.rp t.flt t.ledg t.bimg t.seq t.nrg t.links t.stake t.vault t.stage t.save v t.fab t.pair t.pending) := by
  refine h.trans (Agree.mono (k := 8388608) ?_ hk)
  constructor <;> intro hi <;> first | rfl | simp [Nat.testBit] at hi

theorem upd_fab (v) (hk : 16777216 ||| m = m) (h : Agree m s t) : Agree m s (State.mk t.clk t.pins t.aon t.nor t.fuseCnt t.keyBanks t.epochRan t.top t.evt t.ctrl t.busyIrq t.cmd t.rp t.flt t.ledg t.bimg t.seq t.nrg t.links t.stake t.vault t.stage t.save t.ret v t.pair t.pending) := by
  refine h.trans (Agree.mono (k := 16777216) ?_ hk)
  constructor <;> intro hi <;> first | rfl | simp [Nat.testBit] at hi

theorem upd_pair (v) (hk : 33554432 ||| m = m) (h : Agree m s t) : Agree m s (State.mk t.clk t.pins t.aon t.nor t.fuseCnt t.keyBanks t.epochRan t.top t.evt t.ctrl t.busyIrq t.cmd t.rp t.flt t.ledg t.bimg t.seq t.nrg t.links t.stake t.vault t.stage t.save t.ret t.fab v t.pending) := by
  refine h.trans (Agree.mono (k := 33554432) ?_ hk)
  constructor <;> intro hi <;> first | rfl | simp [Nat.testBit] at hi

theorem upd_pending (v) (hk : 67108864 ||| m = m) (h : Agree m s t) : Agree m s (State.mk t.clk t.pins t.aon t.nor t.fuseCnt t.keyBanks t.epochRan t.top t.evt t.ctrl t.busyIrq t.cmd t.rp t.flt t.ledg t.bimg t.seq t.nrg t.links t.stake t.vault t.stage t.save t.ret t.fab t.pair v) := by
  refine h.trans (Agree.mono (k := 67108864) ?_ hk)
  constructor <;> intro hi <;> first | rfl | simp [Nat.testBit] at hi

/-! Several fields at once. -/

theorem upd_clk_pins (v0 v1) (hk : 3 ||| m = m) (h : Agree m s t) : Agree m s (State.mk v0 v1 t.aon t.nor t.fuseCnt t.keyBanks t.epochRan t.top t.evt t.ctrl t.busyIrq t.cmd t.rp t.flt t.ledg t.bimg t.seq t.nrg t.links t.stake t.vault t.stage t.save t.ret t.fab t.pair t.pending) := by
  refine h.trans (Agree.mono (k := 3) ?_ hk)
  constructor <;> intro hi <;> first | exact absurd hi (by decide) | rfl

theorem upd_clk_pins_aon_top_cmd_ledg (v0 v1 v2 v3 v4 v5) (hk : 18567 ||| m = m) (h : Agree m s t) : Agree m s (State.mk v0 v1 v2 t.nor t.fuseCnt t.keyBanks t.epochRan v3 t.evt t.ctrl t.busyIrq v4 t.rp t.flt v5 t.bimg t.seq t.nrg t.links t.stake t.vault t.stage t.save t.ret t.fab t.pair t.pending) := by
  refine h.trans (Agree.mono (k := 18567) ?_ hk)
  constructor <;> intro hi <;> first | exact absurd hi (by decide) | rfl

theorem upd_most (v0 v1 v2 v3 v4 v5 v6 v7 v8 v9 v10 v11 v12 v13 v14 v15 v16 v17 v18 v19) (hk : 67108737 ||| m = m) (h : Agree m s t) : Agree m s (State.mk v0 t.pins t.aon t.nor t.fuseCnt t.keyBanks t.epochRan v1 v2 v3 v4 v5 v6 v7 v8 v9 v10 v11 v12 v13 v14 v15 v16 v17 v18 v19 t.pending) := by
  refine h.trans (Agree.mono (k := 67108737) ?_ hk)
  constructor <;> intro hi <;> first | exact absurd hi (by decide) | rfl

theorem upd_pins_aon (v0 v1) (hk : 6 ||| m = m) (h : Agree m s t) : Agree m s (State.mk t.clk v0 v1 t.nor t.fuseCnt t.keyBanks t.epochRan t.top t.evt t.ctrl t.busyIrq t.cmd t.rp t.flt t.ledg t.bimg t.seq t.nrg t.links t.stake t.vault t.stage t.save t.ret t.fab t.pair t.pending) := by
  refine h.trans (Agree.mono (k := 6) ?_ hk)
  constructor <;> intro hi <;> first | exact absurd hi (by decide) | rfl

theorem upd_pins_seq (v0 v1) (hk : 65538 ||| m = m) (h : Agree m s t) : Agree m s (State.mk t.clk v0 t.aon t.nor t.fuseCnt t.keyBanks t.epochRan t.top t.evt t.ctrl t.busyIrq t.cmd t.rp t.flt t.ledg t.bimg v1 t.nrg t.links t.stake t.vault t.stage t.save t.ret t.fab t.pair t.pending) := by
  refine h.trans (Agree.mono (k := 65538) ?_ hk)
  constructor <;> intro hi <;> first | exact absurd hi (by decide) | rfl

theorem upd_aon_top (v0 v1) (hk : 132 ||| m = m) (h : Agree m s t) : Agree m s (State.mk t.clk t.pins v0 t.nor t.fuseCnt t.keyBanks t.epochRan v1 t.evt t.ctrl t.busyIrq t.cmd t.rp t.flt t.ledg t.bimg t.seq t.nrg t.links t.stake t.vault t.stage t.save t.ret t.fab t.pair t.pending) := by
  refine h.trans (Agree.mono (k := 132) ?_ hk)
  constructor <;> intro hi <;> first | exact absurd hi (by decide) | rfl

theorem upd_aon_top_flt_seq (v0 v1 v2 v3) (hk : 73860 ||| m = m) (h : Agree m s t) : Agree m s (State.mk t.clk t.pins v0 t.nor t.fuseCnt t.keyBanks t.epochRan v1 t.evt t.ctrl t.busyIrq t.cmd t.rp v2 t.ledg t.bimg v3 t.nrg t.links t.stake t.vault t.stage t.save t.ret t.fab t.pair t.pending) := by
  refine h.trans (Agree.mono (k := 73860) ?_ hk)
  constructor <;> intro hi <;> first | exact absurd hi (by decide) | rfl

theorem upd_aon_top_ledg_stage_save (v0 v1 v2 v3 v4) (hk : 6307972 ||| m = m) (h : Agree m s t) : Agree m s (State.mk t.clk t.pins v0 t.nor t.fuseCnt t.keyBanks t.epochRan v1 t.evt t.ctrl t.busyIrq t.cmd t.rp t.flt v2 t.bimg t.seq t.nrg t.links t.stake t.vault v3 v4 t.ret t.fab t.pair t.pending) := by
  refine h.trans (Agree.mono (k := 6307972) ?_ hk)
  constructor <;> intro hi <;> first | exact absurd hi (by decide) | rfl

theorem upd_aon_top_pair (v0 v1 v2) (hk : 33554564 ||| m = m) (h : Agree m s t) : Agree m s (State.mk t.clk t.pins v0 t.nor t.fuseCnt t.keyBanks t.epochRan v1 t.evt t.ctrl t.busyIrq t.cmd t.rp t.flt t.ledg t.bimg t.seq t.nrg t.links t.stake t.vault t.stage t.save t.ret t.fab v2 t.pending) := by
  refine h.trans (Agree.mono (k := 33554564) ?_ hk)
  constructor <;> intro hi <;> first | exact absurd hi (by decide) | rfl

theorem upd_aon_nrg (v0 v1) (hk : 131076 ||| m = m) (h : Agree m s t) : Agree m s (State.mk t.clk t.pins v0 t.nor t.fuseCnt t.keyBanks t.epochRan t.top t.evt t.ctrl t.busyIrq t.cmd t.rp t.flt t.ledg t.bimg t.seq v1 t.links t.stake t.vault t.stage t.save t.ret t.fab t.pair t.pending) := by
  refine h.trans (Agree.mono (k := 131076) ?_ hk)
  constructor <;> intro hi <;> first | exact absurd hi (by decide) | rfl

theorem upd_aon_stage (v0 v1) (hk : 2097156 ||| m = m) (h : Agree m s t) : Agree m s (State.mk t.clk t.pins v0 t.nor t.fuseCnt t.keyBanks t.epochRan t.top t.evt t.ctrl t.busyIrq t.cmd t.rp t.flt t.ledg t.bimg t.seq t.nrg t.links t.stake t.vault v1 t.save t.ret t.fab t.pair t.pending) := by
  refine h.trans (Agree.mono (k := 2097156) ?_ hk)
  constructor <;> intro hi <;> first | exact absurd hi (by decide) | rfl

theorem upd_aon_fab (v0 v1) (hk : 16777220 ||| m = m) (h : Agree m s t) : Agree m s (State.mk t.clk t.pins v0 t.nor t.fuseCnt t.keyBanks t.epochRan t.top t.evt t.ctrl t.busyIrq t.cmd t.rp t.flt t.ledg t.bimg t.seq t.nrg t.links t.stake t.vault t.stage t.save t.ret v1 t.pair t.pending) := by
  refine h.trans (Agree.mono (k := 16777220) ?_ hk)
  constructor <;> intro hi <;> first | exact absurd hi (by decide) | rfl

theorem upd_epochRan_ledg (v0 v1) (hk : 16448 ||| m = m) (h : Agree m s t) : Agree m s (State.mk t.clk t.pins t.aon t.nor t.fuseCnt t.keyBanks v0 t.top t.evt t.ctrl t.busyIrq t.cmd t.rp t.flt v1 t.bimg t.seq t.nrg t.links t.stake t.vault t.stage t.save t.ret t.fab t.pair t.pending) := by
  refine h.trans (Agree.mono (k := 16448) ?_ hk)
  constructor <;> intro hi <;> first | exact absurd hi (by decide) | rfl

theorem upd_top_ledg_nrg (v0 v1 v2) (hk : 147584 ||| m = m) (h : Agree m s t) : Agree m s (State.mk t.clk t.pins t.aon t.nor t.fuseCnt t.keyBanks t.epochRan v0 t.evt t.ctrl t.busyIrq t.cmd t.rp t.flt v1 t.bimg t.seq v2 t.links t.stake t.vault t.stage t.save t.ret t.fab t.pair t.pending) := by
  refine h.trans (Agree.mono (k := 147584) ?_ hk)
  constructor <;> intro hi <;> first | exact absurd hi (by decide) | rfl

theorem upd_top_seq (v0 v1) (hk : 65664 ||| m = m) (h : Agree m s t) : Agree m s (State.mk t.clk t.pins t.aon t.nor t.fuseCnt t.keyBanks t.epochRan v0 t.evt t.ctrl t.busyIrq t.cmd t.rp t.flt t.ledg t.bimg v1 t.nrg t.links t.stake t.vault t.stage t.save t.ret t.fab t.pair t.pending) := by
  refine h.trans (Agree.mono (k := 65664) ?_ hk)
  constructor <;> intro hi <;> first | exact absurd hi (by decide) | rfl

theorem upd_top_stake (v0 v1) (hk : 524416 ||| m = m) (h : Agree m s t) : Agree m s (State.mk t.clk t.pins t.aon t.nor t.fuseCnt t.keyBanks t.epochRan v0 t.evt t.ctrl t.busyIrq t.cmd t.rp t.flt t.ledg t.bimg t.seq t.nrg t.links v1 t.vault t.stage t.save t.ret t.fab t.pair t.pending) := by
  refine h.trans (Agree.mono (k := 524416) ?_ hk)
  constructor <;> intro hi <;> first | exact absurd hi (by decide) | rfl

theorem upd_evt_ctrl_fab (v0 v1 v2) (hk : 16777984 ||| m = m) (h : Agree m s t) : Agree m s (State.mk t.clk t.pins t.aon t.nor t.fuseCnt t.keyBanks t.epochRan t.top v0 v1 t.busyIrq t.cmd t.rp t.flt t.ledg t.bimg t.seq t.nrg t.links t.stake t.vault t.stage t.save t.ret v2 t.pair t.pending) := by
  refine h.trans (Agree.mono (k := 16777984) ?_ hk)
  constructor <;> intro hi <;> first | exact absurd hi (by decide) | rfl

theorem upd_evt_ledg_pair (v0 v1 v2) (hk : 33571072 ||| m = m) (h : Agree m s t) : Agree m s (State.mk t.clk t.pins t.aon t.nor t.fuseCnt t.keyBanks t.epochRan t.top v0 t.ctrl t.busyIrq t.cmd t.rp t.flt v1 t.bimg t.seq t.nrg t.links t.stake t.vault t.stage t.save t.ret t.fab v2 t.pending) := by
  refine h.trans (Agree.mono (k := 33571072) ?_ hk)
  constructor <;> intro hi <;> first | exact absurd hi (by decide) | rfl

theorem upd_ctrl_flt (v0 v1) (hk : 8704 ||| m = m) (h : Agree m s t) : Agree m s (State.mk t.clk t.pins t.aon t.nor t.fuseCnt t.keyBanks t.epochRan t.top t.evt v0 t.busyIrq t.cmd t.rp v1 t.ledg t.bimg t.seq t.nrg t.links t.stake t.vault t.stage t.save t.ret t.fab t.pair t.pending) := by
  refine h.trans (Agree.mono (k := 8704) ?_ hk)
  constructor <;> intro hi <;> first | exact absurd hi (by decide) | rfl

theorem upd_ctrl_nrg (v0 v1) (hk : 131584 ||| m = m) (h : Agree m s t) : Agree m s (State.mk t.clk t.pins t.aon t.nor t.fuseCnt t.keyBanks t.epochRan t.top t.evt v0 t.busyIrq t.cmd t.rp t.flt t.ledg t.bimg t.seq v1 t.links t.stake t.vault t.stage t.save t.ret t.fab t.pair t.pending) := by
  refine h.trans (Agree.mono (k := 131584) ?_ hk)
  constructor <;> intro hi <;> first | exact absurd hi (by decide) | rfl

theorem upd_rp_flt_seq_stake_save_fab_pair (v0 v1 v2 v3 v4 v5 v6) (hk : 55128064 ||| m = m) (h : Agree m s t) : Agree m s (State.mk t.clk t.pins t.aon t.nor t.fuseCnt t.keyBanks t.epochRan t.top t.evt t.ctrl t.busyIrq t.cmd v0 v1 t.ledg t.bimg v2 t.nrg t.links v3 t.vault t.stage v4 t.ret v5 v6 t.pending) := by
  refine h.trans (Agree.mono (k := 55128064) ?_ hk)
  constructor <;> intro hi <;> first | exact absurd hi (by decide) | rfl

theorem upd_rp_ledg (v0 v1) (hk : 20480 ||| m = m) (h : Agree m s t) : Agree m s (State.mk t.clk t.pins t.aon t.nor t.fuseCnt t.keyBanks t.epochRan t.top t.evt t.ctrl t.busyIrq t.cmd v0 t.flt v1 t.bimg t.seq t.nrg t.links t.stake t.vault t.stage t.save t.ret t.fab t.pair t.pending) := by
  refine h.trans (Agree.mono (k := 20480) ?_ hk)
  constructor <;> intro hi <;> first | exact absurd hi (by decide) | rfl

theorem upd_ledg_bimg (v0 v1) (hk : 49152 ||| m = m) (h : Agree m s t) : Agree m s (State.mk t.clk t.pins t.aon t.nor t.fuseCnt t.keyBanks t.epochRan t.top t.evt t.ctrl t.busyIrq t.cmd t.rp t.flt v0 v1 t.seq t.nrg t.links t.stake t.vault t.stage t.save t.ret t.fab t.pair t.pending) := by
  refine h.trans (Agree.mono (k := 49152) ?_ hk)
  constructor <;> intro hi <;> first | exact absurd hi (by decide) | rfl

theorem upd_ledg_bimg_seq_links_vault_stage_ret (v0 v1 v2 v3 v4 v5 v6) (hk : 11911168 ||| m = m) (h : Agree m s t) : Agree m s (State.mk t.clk t.pins t.aon t.nor t.fuseCnt t.keyBanks t.epochRan t.top t.evt t.ctrl t.busyIrq t.cmd t.rp t.flt v0 v1 v2 t.nrg v3 t.stake v4 v5 t.save v6 t.fab t.pair t.pending) := by
  refine h.trans (Agree.mono (k := 11911168) ?_ hk)
  constructor <;> intro hi <;> first | exact absurd hi (by decide) | rfl

theorem upd_ledg_stake (v0 v1) (hk : 540672 ||| m = m) (h : Agree m s t) : Agree m s (State.mk t.clk t.pins t.aon t.nor t.fuseCnt t.keyBanks t.epochRan t.top t.evt t.ctrl t.busyIrq t.cmd t.rp t.flt v0 t.bimg t.seq t.nrg t.links v1 t.vault t.stage t.save t.ret t.fab t.pair t.pending) := by
  refine h.trans (Agree.mono (k := 540672) ?_ hk)
  constructor <;> intro hi <;> first | exact absurd hi (by decide) | rfl

theorem upd_nrg_fab (v0 v1) (hk : 16908288 ||| m = m) (h : Agree m s t) : Agree m s (State.mk t.clk t.pins t.aon t.nor t.fuseCnt t.keyBanks t.epochRan t.top t.evt t.ctrl t.busyIrq t.cmd t.rp t.flt t.ledg t.bimg t.seq v0 t.links t.stake t.vault t.stage t.save t.ret v1 t.pair t.pending) := by
  refine h.trans (Agree.mono (k := 16908288) ?_ hk)
  constructor <;> intro hi <;> first | exact absurd hi (by decide) | rfl

theorem upd_vault_stage (v0 v1) (hk : 3145728 ||| m = m) (h : Agree m s t) : Agree m s (State.mk t.clk t.pins t.aon t.nor t.fuseCnt t.keyBanks t.epochRan t.top t.evt t.ctrl t.busyIrq t.cmd t.rp t.flt t.ledg t.bimg t.seq t.nrg t.links t.stake v0 v1 t.save t.ret t.fab t.pair t.pending) := by
  refine h.trans (Agree.mono (k := 3145728) ?_ hk)
  constructor <;> intro hi <;> first | exact absurd hi (by decide) | rfl

theorem upd_vault_save (v0 v1) (hk : 5242880 ||| m = m) (h : Agree m s t) : Agree m s (State.mk t.clk t.pins t.aon t.nor t.fuseCnt t.keyBanks t.epochRan t.top t.evt t.ctrl t.busyIrq t.cmd t.rp t.flt t.ledg t.bimg t.seq t.nrg t.links t.stake v0 t.stage v1 t.ret t.fab t.pair t.pending) := by
  refine h.trans (Agree.mono (k := 5242880) ?_ hk)
  constructor <;> intro hi <;> first | exact absurd hi (by decide) | rfl

theorem upd_ret_fab (v0 v1) (hk : 25165824 ||| m = m) (h : Agree m s t) : Agree m s (State.mk t.clk t.pins t.aon t.nor t.fuseCnt t.keyBanks t.epochRan t.top t.evt t.ctrl t.busyIrq t.cmd t.rp t.flt t.ledg t.bimg t.seq t.nrg t.links t.stake t.vault t.stage t.save v0 v1 t.pair t.pending) := by
  refine h.trans (Agree.mono (k := 25165824) ?_ hk)
  constructor <;> intro hi <;> first | exact absurd hi (by decide) | rfl

theorem foldl {α : Type} {f : State → α → State} {l : List α} (hf : ∀ t x, Agree m s t → Agree m s (f t x)) (h : Agree m s t) :
    Agree m s (l.foldl f t) := by
  induction l generalizing t with
  | nil => exact h
  | cons a l ih => exact ih (hf t a h)

theorem foldl_snd {α β : Type} {f : β × State → α → β × State} {l : List α} {b : β × State}
    (hf : ∀ b x, Agree m s b.2 → Agree m s (f b x).2) (h : Agree m s b.2) : Agree m s (l.foldl f b).2 := by
  induction l generalizing b with
  | nil => exact h
  | cons a l ih => exact ih (hf b a h)

theorem foldl_fst {α β : Type} {f : State × β → α → State × β} {l : List α} {b : State × β}
    (hf : ∀ b x, Agree m s b.1 → Agree m s (f b x).1) (h : Agree m s b.1) : Agree m s (l.foldl f b).1 := by
  induction l generalizing b with
  | nil => exact h
  | cons a l ih => exact ih (hf b a h)

theorem foldl_thd {α β γ : Type} {f : γ × β × State → α → γ × β × State} {l : List α} {b : γ × β × State}
    (hf : ∀ b x, Agree m s b.2.2 → Agree m s (f b x).2.2) (h : Agree m s b.2.2) : Agree m s (l.foldl f b).2.2 := by
  induction l generalizing b with
  | nil => exact h
  | cons a l ih => exact ih (hf b a h)

theorem of_snd {α : Type} {r : α × State} {a : α} (e : r = (a, t)) (h : Agree m s r.2) : Agree m s t := by rw [e] at h; exact h

theorem of_fst {α : Type} {r : State × α} {a : α} (e : r = (t, a)) (h : Agree m s r.1) : Agree m s t := by rw [e] at h; exact h

theorem of_thd {α β : Type} {r : α × β × State} {a : α} {b : β} (e : r = (a, b, t)) (h : Agree m s r.2.2) : Agree m s t := by rw [e] at h; exact h

theorem of_mid {α β : Type} {r : α × State × β} {a : α} {b : β} (e : r = (a, t, b)) (h : Agree m s r.2.1) : Agree m s t := by rw [e] at h; exact h

theorem sub_of {a b m : Nat} (h : a ||| m = m) (k : b ||| a = a) : b ||| m = m := by
  rw [← h, ← Nat.or_assoc, k]

end Agree
end State
end Sys2Proof.Machine
end

