-- ==== Sys2Proof/Laws/AgreeOps.lean ====
section
/-! SUPPORT. The fields of State that each function of Machine/Ops.lean can change. -/
set_option Elab.async false

set_option linter.unusedTactic false
set_option linter.unreachableTactic false

namespace Sys2Proof.Machine
namespace State

theorem agree_setEvt {μ : Nat} {σ : State} (hK : 256 ||| μ = μ) (b : Nat) (bit : Nat) (s : State) (hA : Agree μ σ s) : Agree μ σ (setEvt b bit s) := by
  refine Agree.step (k := 256) ?_ hK hA
  clear hA hK
  unfold setEvt
  repeat' (first | (intro x; first | (refine (fun (hx : Agree 256 s x) => ?_) ?_; clear_value x; rotate_left; subst x) | subst x) | lift_lets -underBinder | with_reducible exact Agree.refl _ _ | with_reducible assumption | ((conv => (arg 3; arg 27; skip)); with_reducible refine Agree.upd_evt _ (by decide) ?_) | with_reducible refine Agree.of_snd (by assumption) ?_ | with_reducible refine Agree.of_fst (by assumption) ?_ | split | dsimp only | (intro t ht; with_reducible assumption) | intro)

theorem agree_tick {μ : Nat} {σ : State} (hK : 1 ||| μ = μ) (s : State) (hA : Agree μ σ s) : Agree μ σ (tick s) := by
  refine Agree.step (k := 1) ?_ hK hA
  clear hA hK
  unfold tick
  repeat' (first | (intro x; first | (refine (fun (hx : Agree 1 s x) => ?_) ?_; clear_value x; rotate_left; subst x) | subst x) | lift_lets -underBinder | with_reducible exact Agree.refl _ _ | with_reducible assumption | ((conv => (arg 3; arg 27; skip)); with_reducible refine Agree.upd_clk _ (by decide) ?_) | with_reducible refine Agree.of_snd (by assumption) ?_ | with_reducible refine Agree.of_fst (by assumption) ?_ | split | dsimp only | (intro t ht; with_reducible assumption) | intro)

theorem agree_mdSubs {μ : Nat} {σ : State} (hK : 8192 ||| μ = μ) (src : Nat) (sub : Nat) (f : List SubSrc → List SubSrc) (s : State) (hA : Agree μ σ s) : Agree μ σ (mdSubs src sub f s) := by
  refine Agree.step (k := 8192) ?_ hK hA
  clear hA hK
  unfold mdSubs
  repeat' (first | (intro x; first | (refine (fun (hx : Agree 8192 s x) => ?_) ?_; clear_value x; rotate_left; subst x) | subst x) | lift_lets -underBinder | with_reducible exact Agree.refl _ _ | with_reducible assumption | ((conv => (arg 3; arg 27; skip)); with_reducible refine Agree.upd_flt _ (by decide) ?_) | with_reducible refine Agree.of_snd (by assumption) ?_ | with_reducible refine Agree.of_fst (by assumption) ?_ | split | dsimp only | (intro t ht; with_reducible assumption) | intro)

theorem agree_raise {μ : Nat} {σ : State} (hK : 8192 ||| μ = μ) (src : Nat) (sub : Nat) (till : Option Nat) (s : State) (hA : Agree μ σ s) : Agree μ σ (raise src sub till s) := by
  refine Agree.step (k := 8192) ?_ hK hA
  clear hA hK
  unfold raise
  repeat' (first | (intro x; first | (refine (fun (hx : Agree 8192 s x) => ?_) ?_; clear_value x; rotate_left; subst x) | subst x) | lift_lets -underBinder | with_reducible exact Agree.refl _ _ | with_reducible assumption | with_reducible apply @agree_mdSubs 8192 _ (by decide) | with_reducible refine Agree.of_snd (by assumption) ?_ | with_reducible refine Agree.of_fst (by assumption) ?_ | split | dsimp only | (intro t ht; with_reducible assumption) | intro)

theorem agree_unraise {μ : Nat} {σ : State} (hK : 8192 ||| μ = μ) (src : Nat) (sub : Nat) (s : State) (hA : Agree μ σ s) : Agree μ σ (unraise src sub s) := by
  refine Agree.step (k := 8192) ?_ hK hA
  clear hA hK
  unfold unraise
  repeat' (first | (intro x; first | (refine (fun (hx : Agree 8192 s x) => ?_) ?_; clear_value x; rotate_left; subst x) | subst x) | lift_lets -underBinder | with_reducible exact Agree.refl _ _ | with_reducible assumption | with_reducible apply @agree_mdSubs 8192 _ (by decide) | with_reducible refine Agree.of_snd (by assumption) ?_ | with_reducible refine Agree.of_fst (by assumption) ?_ | split | dsimp only | (intro t ht; with_reducible assumption) | intro)

theorem agree_follow {μ : Nat} {σ : State} (hK : 8192 ||| μ = μ) (src : Nat) (sub : Nat) (c : Bool) (s : State) (hA : Agree μ σ s) : Agree μ σ (follow src sub c s) := by
  refine Agree.step (k := 8192) ?_ hK hA
  clear hA hK
  unfold follow
  repeat' (first | (intro x; first | (refine (fun (hx : Agree 8192 s x) => ?_) ?_; clear_value x; rotate_left; subst x) | subst x) | lift_lets -underBinder | with_reducible exact Agree.refl _ _ | with_reducible assumption | with_reducible apply @agree_raise 8192 _ (by decide) | with_reducible apply @agree_unraise 8192 _ (by decide) | with_reducible refine Agree.of_snd (by assumption) ?_ | with_reducible refine Agree.of_fst (by assumption) ?_ | split | dsimp only | (intro t ht; with_reducible assumption) | intro)

theorem agree_arrive {μ : Nat} {σ : State} (hK : 1 ||| μ = μ) (s : State) (hA : Agree μ σ s) : Agree μ σ (arrive s) := by
  refine Agree.step (k := 1) ?_ hK hA
  clear hA hK
  unfold arrive
  repeat' (first | (intro x; first | (refine (fun (hx : Agree 1 s x) => ?_) ?_; clear_value x; rotate_left; subst x) | subst x) | lift_lets -underBinder | with_reducible exact Agree.refl _ _ | with_reducible assumption | ((conv => (arg 3; arg 27; skip)); with_reducible refine Agree.upd_clk _ (by decide) ?_) | with_reducible refine Agree.of_snd (by assumption) ?_ | with_reducible refine Agree.of_fst (by assumption) ?_ | split | dsimp only | (intro t ht; with_reducible assumption) | intro)

theorem agree_pairSeen {μ : Nat} {σ : State} (hK : 8192 ||| μ = μ) (src : Nat) (s : State) (hA : Agree μ σ s) : Agree μ σ (pairSeen src s) := by
  refine Agree.step (k := 8192) ?_ hK hA
  clear hA hK
  unfold pairSeen
  repeat' (first | (intro x; first | (refine (fun (hx : Agree 8192 s x) => ?_) ?_; clear_value x; rotate_left; subst x) | subst x) | lift_lets -underBinder | with_reducible exact Agree.refl _ _ | with_reducible assumption | ((conv => (arg 3; arg 27; skip)); with_reducible refine Agree.upd_flt _ (by decide) ?_) | with_reducible refine Agree.of_snd (by assumption) ?_ | with_reducible refine Agree.of_fst (by assumption) ?_ | split | dsimp only | (intro t ht; with_reducible assumption) | intro)

theorem agree_pushRec {μ : Nat} {σ : State} (hK : 16384 ||| μ = μ) (kind : Nat) (flags : Nat) (st : Stamp) (body : List Byte) (s : State) (hA : Agree μ σ s) : Agree μ σ (pushRec kind flags st body s) := by
  refine Agree.step (k := 16384) ?_ hK hA
  clear hA hK
  unfold pushRec
  repeat' (first | (intro x; first | (refine (fun (hx : Agree 16384 s x) => ?_) ?_; clear_value x; rotate_left; subst x) | subst x) | lift_lets -underBinder | with_reducible exact Agree.refl _ _ | with_reducible assumption | ((conv => (arg 3; arg 27; skip)); with_reducible refine Agree.upd_ledg _ (by decide) ?_) | with_reducible refine Agree.of_snd (by assumption) ?_ | with_reducible refine Agree.of_fst (by assumption) ?_ | split | dsimp only | (intro t ht; with_reducible assumption) | intro)

theorem agree_post {μ : Nat} {σ : State} (hK : 16640 ||| μ = μ) (o : Occ) (s : State) (hA : Agree μ σ s) : Agree μ σ (post o s) := by
  refine Agree.step (k := 16640) ?_ hK hA
  clear hA hK
  unfold post
  repeat' (first | (intro x; first | (refine (fun (hx : Agree 16640 s x) => ?_) ?_; clear_value x; rotate_left; subst x) | subst x) | lift_lets -underBinder | with_reducible exact Agree.refl _ _ | with_reducible assumption | ((conv => (arg 3; arg 27; skip)); with_reducible refine Agree.upd_ledg _ (by decide) ?_) | with_reducible apply @agree_setEvt 16640 _ (by decide) | with_reducible refine Agree.of_snd (by assumption) ?_ | with_reducible refine Agree.of_fst (by assumption) ?_ | split | dsimp only | (intro t ht; with_reducible assumption) | intro)

theorem agree_count {μ : Nat} {σ : State} (hK : 16640 ||| μ = μ) (kind : Nat) (unit : Nat) (datum : Nat) (s : State) (hA : Agree μ σ s) : Agree μ σ (count kind unit datum s) := by
  refine Agree.step (k := 16640) ?_ hK hA
  clear hA hK
  unfold count
  repeat' (first | (intro x; first | (refine (fun (hx : Agree 16640 s x) => ?_) ?_; clear_value x; rotate_left; subst x) | subst x) | lift_lets -underBinder | with_reducible exact Agree.refl _ _ | with_reducible assumption | ((conv => (arg 3; arg 27; skip)); with_reducible refine Agree.upd_ledg _ (by decide) ?_) | with_reducible apply @agree_post 16640 _ (by decide) | with_reducible refine Agree.of_snd (by assumption) ?_ | with_reducible refine Agree.of_fst (by assumption) ?_ | split | dsimp only | (intro t ht; with_reducible assumption) | intro)

theorem agree_when {μ : Nat} {σ : State} (_hK : 0 ||| μ = μ) (c : Bool) (f : State → State) (s : State) (hf : ∀ t, Agree μ σ t → Agree μ σ (f t)) (hA : Agree μ σ s) : Agree μ σ (when c f s) := by
  unfold when
  repeat' (first | (intro x; first | (refine (fun (hx : Agree μ σ x) => ?_) ?_; clear_value x; rotate_left; subst x) | subst x) | lift_lets -underBinder | with_reducible exact Agree.refl _ _ | with_reducible assumption | with_reducible apply hf | with_reducible refine Agree.of_snd (by assumption) ?_ | with_reducible refine Agree.of_fst (by assumption) ?_ | split | dsimp only | (intro t ht; with_reducible assumption) | intro)

theorem agree_raiseTurn {μ : Nat} {σ : State} (hK : 8192 ||| μ = μ) (src : Nat) (sub : Nat) (s : State) (hA : Agree μ σ s) : Agree μ σ (raiseTurn src sub s) := by
  refine Agree.step (k := 8192) ?_ hK hA
  clear hA hK
  unfold raiseTurn
  repeat' (first | (intro x; first | (refine (fun (hx : Agree 8192 s x) => ?_) ?_; clear_value x; rotate_left; subst x) | subst x) | lift_lets -underBinder | with_reducible exact Agree.refl _ _ | with_reducible assumption | with_reducible apply @agree_raise 8192 _ (by decide) | with_reducible refine Agree.of_snd (by assumption) ?_ | with_reducible refine Agree.of_fst (by assumption) ?_ | split | dsimp only | (intro t ht; with_reducible assumption) | intro)

theorem agree_pairHold {μ : Nat} {σ : State} (hK : 8192 ||| μ = μ) (src : Nat) (s : State) (hA : Agree μ σ s) : Agree μ σ (pairHold src s) := by
  refine Agree.step (k := 8192) ?_ hK hA
  clear hA hK
  unfold pairHold
  repeat' (first | (intro x; first | (refine (fun (hx : Agree 8192 s x) => ?_) ?_; clear_value x; rotate_left; subst x) | subst x) | lift_lets -underBinder | with_reducible exact Agree.refl _ _ | with_reducible assumption | ((conv => (arg 3; arg 27; skip)); with_reducible refine Agree.upd_flt _ (by decide) ?_) | with_reducible refine Agree.of_snd (by assumption) ?_ | with_reducible refine Agree.of_fst (by assumption) ?_ | split | dsimp only | (intro t ht; with_reducible assumption) | intro)

end State
end Sys2Proof.Machine
end

