-- ==== Sys2Proof/Laws/AgreeLedger.lean ====
section
/-! SUPPORT. The fields of State that each function of Machine/Ledger.lean can change. -/
set_option Elab.async false

set_option linter.unusedTactic false
set_option linter.unreachableTactic false

namespace Sys2Proof.Machine
namespace State

theorem agree_acceptChips {μ : Nat} {σ : State} (hK : 16384 ||| μ = μ) (s : State) (hA : Agree μ σ s) : Agree μ σ (acceptChips s) := by
  refine Agree.step (k := 16384) ?_ hK hA
  clear hA hK
  unfold acceptChips
  repeat' (first | (intro x; first | (refine (fun (hx : Agree 16384 s x) => ?_) ?_; clear_value x; rotate_left; subst x) | subst x) | lift_lets -underBinder | with_reducible exact Agree.refl _ _ | with_reducible assumption | ((conv => (arg 3; arg 27; skip)); with_reducible refine Agree.upd_ledg _ (by decide) ?_) | with_reducible refine Agree.of_snd (by assumption) ?_ | with_reducible refine Agree.of_fst (by assumption) ?_ | split | dsimp only | (intro t ht; with_reducible assumption) | intro)

theorem agree_clearHold {μ : Nat} {σ : State} (hK : 16384 ||| μ = μ) (s : State) (hA : Agree μ σ s) : Agree μ σ (clearHold s) := by
  refine Agree.step (k := 16384) ?_ hK hA
  clear hA hK
  unfold clearHold
  repeat' (first | (intro x; first | (refine (fun (hx : Agree 16384 s x) => ?_) ?_; clear_value x; rotate_left; subst x) | subst x) | lift_lets -underBinder | with_reducible exact Agree.refl _ _ | with_reducible assumption | ((conv => (arg 3; arg 27; skip)); with_reducible refine Agree.upd_ledg _ (by decide) ?_) | with_reducible refine Agree.of_snd (by assumption) ?_ | with_reducible refine Agree.of_fst (by assumption) ?_ | split | dsimp only | (intro t ht; with_reducible assumption) | intro)

theorem agree_epochStart {μ : Nat} {σ : State} (hK : 16448 ||| μ = μ) (s : State) (hA : Agree μ σ s) : Agree μ σ (epochStart s) := by
  refine Agree.step (k := 16448) ?_ hK hA
  clear hA hK
  unfold epochStart
  repeat' (first | (intro x; first | (refine (fun (hx : Agree 16448 s x) => ?_) ?_; clear_value x; rotate_left; subst x) | subst x) | lift_lets -underBinder | with_reducible exact Agree.refl _ _ | with_reducible assumption | ((conv => (arg 3; arg 27; skip)); with_reducible refine Agree.upd_epochRan_ledg _ _ (by decide) ?_) | with_reducible refine Agree.of_snd (by assumption) ?_ | with_reducible refine Agree.of_fst (by assumption) ?_ | split | dsimp only | (intro t ht; with_reducible assumption) | intro)

theorem agree_takeTuning {μ : Nat} {σ : State} (hK : 49152 ||| μ = μ) (s : State) (hA : Agree μ σ s) : Agree μ σ (takeTuning s) := by
  refine Agree.step (k := 49152) ?_ hK hA
  clear hA hK
  unfold takeTuning
  repeat' (first | (intro x; first | (refine (fun (hx : Agree 49152 s x) => ?_) ?_; clear_value x; rotate_left; subst x) | subst x) | lift_lets -underBinder | with_reducible exact Agree.refl _ _ | with_reducible assumption | ((conv => (arg 3; arg 27; skip)); with_reducible refine Agree.upd_ledg_bimg _ _ (by decide) ?_) | with_reducible refine Agree.of_snd (by assumption) ?_ | with_reducible refine Agree.of_fst (by assumption) ?_ | split | dsimp only | (intro t ht; with_reducible assumption) | intro)

theorem agree_epochClose {μ : Nat} {σ : State} (hK : 49216 ||| μ = μ) (eflags : Nat) (s : State) (hA : Agree μ σ s) : Agree μ σ (epochClose eflags s) := by
  refine Agree.step (k := 49216) ?_ hK hA
  clear hA hK
  unfold epochClose
  repeat' (first | (intro x; first | (refine (fun (hx : Agree 49216 s x) => ?_) ?_; clear_value x; rotate_left; subst x) | subst x) | lift_lets -underBinder | with_reducible exact Agree.refl _ _ | with_reducible assumption | ((conv => (arg 3; arg 27; skip)); with_reducible refine Agree.upd_ledg _ (by decide) ?_) | with_reducible apply @agree_pushRec 49216 _ (by decide) | with_reducible apply @agree_epochStart 49216 _ (by decide) | with_reducible apply @agree_takeTuning 49216 _ (by decide) | with_reducible refine Agree.of_snd (by assumption) ?_ | with_reducible refine Agree.of_fst (by assumption) ?_ | split | dsimp only | (intro t ht; with_reducible assumption) | intro)

theorem agree_beginCopy {μ : Nat} {σ : State} (hK : 16384 ||| μ = μ) (j : RecJob) (a : Nat) (founding : Bool) (slot : Nat) (s : State) (hA : Agree μ σ s) : Agree μ σ (beginCopy j a founding slot s) := by
  refine Agree.step (k := 16384) ?_ hK hA
  clear hA hK
  unfold beginCopy
  repeat' (first | (intro x; first | (refine (fun (hx : Agree 16384 s x) => ?_) ?_; clear_value x; rotate_left; subst x) | subst x) | lift_lets -underBinder | with_reducible exact Agree.refl _ _ | with_reducible assumption | ((conv => (arg 3; arg 27; skip)); with_reducible refine Agree.upd_ledg _ (by decide) ?_) | with_reducible refine Agree.of_snd (by assumption) ?_ | with_reducible refine Agree.of_fst (by assumption) ?_ | split | dsimp only | (intro t ht; with_reducible assumption) | intro)

theorem agree_slotWriteEnd {μ : Nat} {σ : State} (hK : 32768 ||| μ = μ) (s : State) (hA : Agree μ σ s) : Agree μ σ (slotWriteEnd s) := by
  refine Agree.step (k := 32768) ?_ hK hA
  clear hA hK
  unfold slotWriteEnd
  repeat' (first | (intro x; first | (refine (fun (hx : Agree 32768 s x) => ?_) ?_; clear_value x; rotate_left; subst x) | subst x) | lift_lets -underBinder | with_reducible exact Agree.refl _ _ | with_reducible assumption | ((conv => (arg 3; arg 27; skip)); with_reducible refine Agree.upd_bimg _ (by decide) ?_) | with_reducible refine Agree.of_snd (by assumption) ?_ | with_reducible refine Agree.of_fst (by assumption) ?_ | split | dsimp only | (intro t ht; with_reducible assumption) | intro)

theorem agree_bgDone {μ : Nat} {σ : State} (hK : 49408 ||| μ = μ) (b : BgJob) (s : State) (hA : Agree μ σ s) : Agree μ σ (bgDone b s) := by
  refine Agree.step (k := 49408) ?_ hK hA
  clear hA hK
  unfold bgDone
  repeat' (first | (intro x; first | (refine (fun (hx : Agree 49408 s x) => ?_) ?_; clear_value x; rotate_left; subst x) | subst x) | lift_lets -underBinder | with_reducible exact Agree.refl _ _ | with_reducible assumption | ((conv => (arg 3; arg 27; skip)); with_reducible refine Agree.upd_ledg _ (by decide) ?_) | ((conv => (arg 3; arg 27; skip)); with_reducible refine Agree.upd_bimg _ (by decide) ?_) | with_reducible apply @agree_setEvt 49408 _ (by decide) | with_reducible apply @agree_slotWriteEnd 49408 _ (by decide) | with_reducible refine Agree.of_snd (by assumption) ?_ | with_reducible refine Agree.of_fst (by assumption) ?_ | split | dsimp only | (intro t ht; with_reducible assumption) | intro)

theorem agree_bgFront {μ : Nat} {σ : State} (hK : 16384 ||| μ = μ) (l : List BgJob) (s : State) (hA : Agree μ σ s) : Agree μ σ (bgFront l s) := by
  refine Agree.step (k := 16384) ?_ hK hA
  clear hA hK
  unfold bgFront
  repeat' (first | (intro x; first | (refine (fun (hx : Agree 16384 s x) => ?_) ?_; clear_value x; rotate_left; subst x) | subst x) | lift_lets -underBinder | with_reducible exact Agree.refl _ _ | with_reducible assumption | ((conv => (arg 3; arg 27; skip)); with_reducible refine Agree.upd_ledg _ (by decide) ?_) | with_reducible refine Agree.of_snd (by assumption) ?_ | with_reducible refine Agree.of_fst (by assumption) ?_ | split | dsimp only | (intro t ht; with_reducible assumption) | intro)

theorem agree_bgNext {μ : Nat} {σ : State} (hK : 16384 ||| μ = μ) (s : State) (hA : Agree μ σ s) : Agree μ σ (bgNext s) := by
  refine Agree.step (k := 16384) ?_ hK hA
  clear hA hK
  unfold bgNext
  repeat' (first | (intro x; first | (refine (fun (hx : Agree 16384 s x) => ?_) ?_; clear_value x; rotate_left; subst x) | subst x) | lift_lets -underBinder | with_reducible exact Agree.refl _ _ | with_reducible assumption | ((conv => (arg 3; arg 27; skip)); with_reducible refine Agree.upd_ledg _ (by decide) ?_) | with_reducible refine Agree.of_snd (by assumption) ?_ | with_reducible refine Agree.of_fst (by assumption) ?_ | split | dsimp only | (intro t ht; with_reducible assumption) | intro)

theorem agree_eraseAheadSlot {μ : Nat} {σ : State} (hK : 16384 ||| μ = μ) (a : Nat) (slot : Nat) (s : State) (hA : Agree μ σ s) : Agree μ σ (eraseAheadSlot a slot s) := by
  refine Agree.step (k := 16384) ?_ hK hA
  clear hA hK
  unfold eraseAheadSlot
  repeat' (first | (intro x; first | (refine (fun (hx : Agree 16384 s x) => ?_) ?_; clear_value x; rotate_left; subst x) | subst x) | lift_lets -underBinder | with_reducible exact Agree.refl _ _ | with_reducible assumption | with_reducible apply @agree_bgFront 16384 _ (by decide) | with_reducible refine Agree.of_snd (by assumption) ?_ | with_reducible refine Agree.of_fst (by assumption) ?_ | split | dsimp only | (intro t ht; with_reducible assumption) | intro)

theorem agree_freeBank {μ : Nat} {σ : State} (hK : 16384 ||| μ = μ) (j : RecJob) (s : State) (hA : Agree μ σ s) : Agree μ σ (freeBank j s) := by
  refine Agree.step (k := 16384) ?_ hK hA
  clear hA hK
  unfold freeBank
  repeat' (first | (intro x; first | (refine (fun (hx : Agree 16384 s x) => ?_) ?_; clear_value x; rotate_left; subst x) | subst x) | lift_lets -underBinder | with_reducible exact Agree.refl _ _ | with_reducible assumption | ((conv => (arg 3; arg 27; skip)); with_reducible refine Agree.upd_ledg _ (by decide) ?_) | with_reducible refine Agree.of_snd (by assumption) ?_ | with_reducible refine Agree.of_fst (by assumption) ?_ | split | dsimp only | (intro t ht; with_reducible assumption) | intro)

theorem agree_dropJob {μ : Nat} {σ : State} (hK : 16384 ||| μ = μ) (j : RecJob) (s : State) (hA : Agree μ σ s) : Agree μ σ (dropJob j s) := by
  refine Agree.step (k := 16384) ?_ hK hA
  clear hA hK
  unfold dropJob
  repeat' (first | (intro x; first | (refine (fun (hx : Agree 16384 s x) => ?_) ?_; clear_value x; rotate_left; subst x) | subst x) | lift_lets -underBinder | with_reducible exact Agree.refl _ _ | with_reducible assumption | ((conv => (arg 3; arg 27; skip)); with_reducible refine Agree.upd_ledg _ (by decide) ?_) | with_reducible refine Agree.of_snd (by assumption) ?_ | with_reducible refine Agree.of_fst (by assumption) ?_ | split | dsimp only | (intro t ht; with_reducible assumption) | intro)

theorem agree_releaseRseq {μ : Nat} {σ : State} (hK : 16384 ||| μ = μ) (k : Nat) (s : State) (hA : Agree μ σ s) : Agree μ σ (releaseRseq k s) := by
  refine Agree.step (k := 16384) ?_ hK hA
  clear hA hK
  unfold releaseRseq
  repeat' (first | (intro x; first | (refine (fun (hx : Agree 16384 s x) => ?_) ?_; clear_value x; rotate_left; subst x) | subst x) | lift_lets -underBinder | with_reducible exact Agree.refl _ _ | with_reducible assumption | ((conv => (arg 3; arg 27; skip)); with_reducible refine Agree.upd_ledg _ (by decide) ?_) | with_reducible refine Agree.foldl ?_ ?_ | with_reducible refine Agree.foldl_snd ?_ ?_ | with_reducible refine Agree.foldl_fst ?_ ?_ | with_reducible refine Agree.foldl_thd ?_ ?_ | with_reducible refine Agree.of_snd (by assumption) ?_ | with_reducible refine Agree.of_fst (by assumption) ?_ | split | dsimp only | (intro t ht; with_reducible assumption) | intro)

theorem agree_recLost {μ : Nat} {σ : State} (hK : 16640 ||| μ = μ) (j : RecJob) (s : State) (hA : Agree μ σ s) : Agree μ σ (recLost j s) := by
  refine Agree.step (k := 16640) ?_ hK hA
  clear hA hK
  unfold recLost
  repeat' (first | (intro x; first | (refine (fun (hx : Agree 16640 s x) => ?_) ?_; clear_value x; rotate_left; subst x) | subst x) | lift_lets -underBinder | with_reducible exact Agree.refl _ _ | with_reducible assumption | ((conv => (arg 3; arg 27; skip)); with_reducible refine Agree.upd_ledg _ (by decide) ?_) | with_reducible apply @agree_setEvt 16640 _ (by decide) | with_reducible apply @agree_freeBank 16640 _ (by decide) | with_reducible apply @agree_dropJob 16640 _ (by decide) | with_reducible apply @agree_releaseRseq 16640 _ (by decide) | with_reducible refine Agree.of_snd (by assumption) ?_ | with_reducible refine Agree.of_fst (by assumption) ?_ | split | dsimp only | (intro t ht; with_reducible assumption) | intro)

theorem agree_recDone {μ : Nat} {σ : State} (hK : 16640 ||| μ = μ) (w : RecWork) (s : State) (hA : Agree μ σ s) : Agree μ σ (recDone w s) := by
  refine Agree.step (k := 16640) ?_ hK hA
  clear hA hK
  unfold recDone
  repeat' (first | (intro x; first | (refine (fun (hx : Agree 16640 s x) => ?_) ?_; clear_value x; rotate_left; subst x) | subst x) | lift_lets -underBinder | with_reducible exact Agree.refl _ _ | with_reducible assumption | ((conv => (arg 3; arg 27; skip)); with_reducible refine Agree.upd_ledg _ (by decide) ?_) | with_reducible apply @agree_beginCopy 16640 _ (by decide) | with_reducible apply @agree_eraseAheadSlot 16640 _ (by decide) | with_reducible apply @agree_freeBank 16640 _ (by decide) | with_reducible apply @agree_recLost 16640 _ (by decide) | with_reducible refine Agree.of_snd (by assumption) ?_ | with_reducible refine Agree.of_fst (by assumption) ?_ | split | dsimp only | (intro t ht; with_reducible assumption) | intro)

theorem agree_closeTurn {μ : Nat} {σ : State} (hK : 49216 ||| μ = μ) (s : State) (hA : Agree μ σ s) : Agree μ σ (closeTurn s) := by
  refine Agree.step (k := 49216) ?_ hK hA
  clear hA hK
  unfold closeTurn
  repeat' (first | (intro x; first | (refine (fun (hx : Agree 49216 s x) => ?_) ?_; clear_value x; rotate_left; subst x) | subst x) | lift_lets -underBinder | with_reducible exact Agree.refl _ _ | with_reducible assumption | ((conv => (arg 3; arg 27; skip)); with_reducible refine Agree.upd_ledg _ (by decide) ?_) | with_reducible apply @agree_epochClose 49216 _ (by decide) | with_reducible refine Agree.of_snd (by assumption) ?_ | with_reducible refine Agree.of_fst (by assumption) ?_ | split | dsimp only | (intro t ht; with_reducible assumption) | intro)

theorem agree_epochAsk {μ : Nat} {σ : State} (hK : 16384 ||| μ = μ) (eflags : Nat) (s : State) (hA : Agree μ σ s) : Agree μ σ (epochAsk eflags s) := by
  refine Agree.step (k := 16384) ?_ hK hA
  clear hA hK
  unfold epochAsk
  repeat' (first | (intro x; first | (refine (fun (hx : Agree 16384 s x) => ?_) ?_; clear_value x; rotate_left; subst x) | subst x) | lift_lets -underBinder | with_reducible exact Agree.refl _ _ | with_reducible assumption | ((conv => (arg 3; arg 27; skip)); with_reducible refine Agree.upd_ledg _ (by decide) ?_) | with_reducible refine Agree.of_snd (by assumption) ?_ | with_reducible refine Agree.of_fst (by assumption) ?_ | split | dsimp only | (intro t ht; with_reducible assumption) | intro)

theorem agree_setNor {μ : Nat} {σ : State} (hK : 8 ||| μ = μ) (d : Nat) (m : List Host.Cell) (s : State) (hA : Agree μ σ s) : Agree μ σ (setNor d m s) := by
  refine Agree.step (k := 8) ?_ hK hA
  clear hA hK
  unfold setNor
  repeat' (first | (intro x; first | (refine (fun (hx : Agree 8 s x) => ?_) ?_; clear_value x; rotate_left; subst x) | subst x) | lift_lets -underBinder | with_reducible exact Agree.refl _ _ | with_reducible assumption | ((conv => (arg 3; arg 27; skip)); with_reducible refine Agree.upd_nor _ (by decide) ?_) | with_reducible refine Agree.of_snd (by assumption) ?_ | with_reducible refine Agree.of_fst (by assumption) ?_ | split | dsimp only | (intro t ht; with_reducible assumption) | intro)

theorem agree_dirWrite {μ : Nat} {σ : State} (hK : 8 ||| μ = μ) (d : Nat) (s : State) (hA : Agree μ σ s) : Agree μ σ (dirWrite d s) := by
  refine Agree.step (k := 8) ?_ hK hA
  clear hA hK
  unfold dirWrite
  repeat' (first | (intro x; first | (refine (fun (hx : Agree 8 s x) => ?_) ?_; clear_value x; rotate_left; subst x) | subst x) | lift_lets -underBinder | with_reducible exact Agree.refl _ _ | with_reducible assumption | with_reducible apply @agree_setNor 8 _ (by decide) | with_reducible refine Agree.of_snd (by assumption) ?_ | with_reducible refine Agree.of_fst (by assumption) ?_ | split | dsimp only | (intro t ht; with_reducible assumption) | intro)

theorem agree_epochDeferred {μ : Nat} {σ : State} (hK : 49216 ||| μ = μ) (s : State) (hA : Agree μ σ s) : Agree μ σ (epochDeferred s) := by
  refine Agree.step (k := 49216) ?_ hK hA
  clear hA hK
  unfold epochDeferred
  repeat' (first | (intro x; first | (refine (fun (hx : Agree 49216 s x) => ?_) ?_; clear_value x; rotate_left; subst x) | subst x) | lift_lets -underBinder | with_reducible exact Agree.refl _ _ | with_reducible assumption | with_reducible apply @agree_epochClose 49216 _ (by decide) | with_reducible refine Agree.of_snd (by assumption) ?_ | with_reducible refine Agree.of_fst (by assumption) ?_ | split | dsimp only | (intro t ht; with_reducible assumption) | intro)

theorem agree_epochMinMax {μ : Nat} {σ : State} (hK : 16384 ||| μ = μ) (val : Nat → Option Int) (s : State) (hA : Agree μ σ s) : Agree μ σ (epochMinMax val s) := by
  refine Agree.step (k := 16384) ?_ hK hA
  clear hA hK
  unfold epochMinMax
  repeat' (first | (intro x; first | (refine (fun (hx : Agree 16384 s x) => ?_) ?_; clear_value x; rotate_left; subst x) | subst x) | lift_lets -underBinder | with_reducible exact Agree.refl _ _ | with_reducible assumption | ((conv => (arg 3; arg 27; skip)); with_reducible refine Agree.upd_ledg _ (by decide) ?_) | with_reducible refine Agree.of_snd (by assumption) ?_ | with_reducible refine Agree.of_fst (by assumption) ?_ | split | dsimp only | (intro t ht; with_reducible assumption) | intro)

theorem agree_epochRegular {μ : Nat} {σ : State} (hK : 49216 ||| μ = μ) (s : State) (hA : Agree μ σ s) : Agree μ σ (epochRegular s) := by
  refine Agree.step (k := 49216) ?_ hK hA
  clear hA hK
  unfold epochRegular
  repeat' (first | (intro x; first | (refine (fun (hx : Agree 49216 s x) => ?_) ?_; clear_value x; rotate_left; subst x) | subst x) | lift_lets -underBinder | with_reducible exact Agree.refl _ _ | with_reducible assumption | with_reducible apply @agree_epochClose 49216 _ (by decide) | with_reducible refine Agree.of_snd (by assumption) ?_ | with_reducible refine Agree.of_fst (by assumption) ?_ | split | dsimp only | (intro t ht; with_reducible assumption) | intro)

theorem agree_evqPop {μ : Nat} {σ : State} (hK : 16384 ||| μ = μ) (s : State) (hA : Agree μ σ s) : Agree μ σ (evqPop s) := by
  refine Agree.step (k := 16384) ?_ hK hA
  clear hA hK
  unfold evqPop
  repeat' (first | (intro x; first | (refine (fun (hx : Agree 16384 s x) => ?_) ?_; clear_value x; rotate_left; subst x) | subst x) | lift_lets -underBinder | with_reducible exact Agree.refl _ _ | with_reducible assumption | ((conv => (arg 3; arg 27; skip)); with_reducible refine Agree.upd_ledg _ (by decide) ?_) | with_reducible refine Agree.of_snd (by assumption) ?_ | with_reducible refine Agree.of_fst (by assumption) ?_ | split | dsimp only | (intro t ht; with_reducible assumption) | intro)

theorem agree_evqRead {μ : Nat} {σ : State} (hK : 20480 ||| μ = μ) (s : State) (hA : Agree μ σ s) : Agree μ σ (evqRead s) := by
  refine Agree.step (k := 20480) ?_ hK hA
  clear hA hK
  unfold evqRead
  repeat' (first | (intro x; first | (refine (fun (hx : Agree 20480 s x) => ?_) ?_; clear_value x; rotate_left; subst x) | subst x) | lift_lets -underBinder | with_reducible exact Agree.refl _ _ | with_reducible assumption | ((conv => (arg 3; arg 27; skip)); with_reducible refine Agree.upd_rp_ledg _ _ (by decide) ?_) | with_reducible refine Agree.of_snd (by assumption) ?_ | with_reducible refine Agree.of_fst (by assumption) ?_ | split | dsimp only | (intro t ht; with_reducible assumption) | intro)

theorem agree_histTick {μ : Nat} {σ : State} (hK : 16384 ||| μ = μ) (val : Nat → Option Int) (s : State) (hA : Agree μ σ s) : Agree μ σ (histTick val s) := by
  refine Agree.step (k := 16384) ?_ hK hA
  clear hA hK
  unfold histTick
  repeat' (first | (intro x; first | (refine (fun (hx : Agree 16384 s x) => ?_) ?_; clear_value x; rotate_left; subst x) | subst x) | lift_lets -underBinder | with_reducible exact Agree.refl _ _ | with_reducible assumption | ((conv => (arg 3; arg 27; skip)); with_reducible refine Agree.upd_ledg _ (by decide) ?_) | with_reducible refine Agree.of_snd (by assumption) ?_ | with_reducible refine Agree.of_fst (by assumption) ?_ | split | dsimp only | (intro t ht; with_reducible assumption) | intro)

theorem agree_leaveHold {μ : Nat} {σ : State} (hK : 16384 ||| μ = μ) (a : Nat) (slot : Nat) (s : State) (hA : Agree μ σ s) : Agree μ σ (leaveHold a slot s) := by
  refine Agree.step (k := 16384) ?_ hK hA
  clear hA hK
  unfold leaveHold
  repeat' (first | (intro x; first | (refine (fun (hx : Agree 16384 s x) => ?_) ?_; clear_value x; rotate_left; subst x) | subst x) | lift_lets -underBinder | with_reducible exact Agree.refl _ _ | with_reducible assumption | ((conv => (arg 3; arg 27; skip)); with_reducible refine Agree.upd_ledg _ (by decide) ?_) | with_reducible refine Agree.of_snd (by assumption) ?_ | with_reducible refine Agree.of_fst (by assumption) ?_ | split | dsimp only | (intro t ht; with_reducible assumption) | intro)

theorem agree_wallCommit {μ : Nat} {σ : State} (hK : 16644 ||| μ = μ) (hi : Word) (s : State) (hA : Agree μ σ s) : Agree μ σ (wallCommit hi s) := by
  refine Agree.step (k := 16644) ?_ hK hA
  clear hA hK
  unfold wallCommit
  repeat' (first | (intro x; first | (refine (fun (hx : Agree 16644 s x) => ?_) ?_; clear_value x; rotate_left; subst x) | subst x) | lift_lets -underBinder | with_reducible exact Agree.refl _ _ | with_reducible assumption | ((conv => (arg 3; arg 27; skip)); with_reducible refine Agree.upd_aon _ (by decide) ?_) | with_reducible apply @agree_setEvt 16644 _ (by decide) | with_reducible apply @agree_count 16644 _ (by decide) | with_reducible refine Agree.of_snd (by assumption) ?_ | with_reducible refine Agree.of_fst (by assumption) ?_ | split | dsimp only | (intro t ht; with_reducible assumption) | intro)

theorem agree_norFail {μ : Nat} {σ : State} (hK : 57600 ||| μ = μ) (d : Nat) (ofs : Nat) (s : State) (hA : Agree μ σ s) : Agree μ σ (norFail d ofs s) := by
  refine Agree.step (k := 57600) ?_ hK hA
  clear hA hK
  unfold norFail
  repeat' (first | (intro x; first | (refine (fun (hx : Agree 57600 s x) => ?_) ?_; clear_value x; rotate_left; subst x) | subst x) | lift_lets -underBinder | with_reducible exact Agree.refl _ _ | with_reducible assumption | ((conv => (arg 3; arg 27; skip)); with_reducible refine Agree.upd_ledg _ (by decide) ?_) | with_reducible apply @agree_setEvt 57600 _ (by decide) | with_reducible apply @agree_raise 57600 _ (by decide) | with_reducible apply @agree_count 57600 _ (by decide) | with_reducible apply @agree_slotWriteEnd 57600 _ (by decide) | with_reducible refine Agree.of_snd (by assumption) ?_ | with_reducible refine Agree.of_fst (by assumption) ?_ | split | dsimp only | (intro t ht; with_reducible assumption) | intro)

theorem agree_sfdpRead {μ : Nat} {σ : State} (hK : 57600 ||| μ = μ) (d : Nat) (s : State) (hA : Agree μ σ s) : Agree μ σ (sfdpRead d s) := by
  refine Agree.step (k := 57600) ?_ hK hA
  clear hA hK
  unfold sfdpRead
  repeat' (first | (intro x; first | (refine (fun (hx : Agree 57600 s x) => ?_) ?_; clear_value x; rotate_left; subst x) | subst x) | lift_lets -underBinder | with_reducible exact Agree.refl _ _ | with_reducible assumption | ((conv => (arg 3; arg 27; skip)); with_reducible refine Agree.upd_ledg _ (by decide) ?_) | with_reducible apply @agree_norFail 57600 _ (by decide) | with_reducible refine Agree.of_snd (by assumption) ?_ | with_reducible refine Agree.of_fst (by assumption) ?_ | split | dsimp only | (intro t ht; with_reducible assumption) | intro)

theorem agree_ledgerWrite {μ : Nat} {σ : State} (hK : 16640 ||| μ = μ) (s : State) (hA : Agree μ σ s) : Agree μ σ (ledgerWrite s) := by
  refine Agree.step (k := 16640) ?_ hK hA
  clear hA hK
  unfold ledgerWrite
  repeat' (first | (intro x; first | (refine (fun (hx : Agree 16640 s x) => ?_) ?_; clear_value x; rotate_left; subst x) | subst x) | lift_lets -underBinder | with_reducible exact Agree.refl _ _ | with_reducible assumption | ((conv => (arg 3; arg 27; skip)); with_reducible refine Agree.upd_ledg _ (by decide) ?_) | with_reducible apply @agree_beginCopy 16640 _ (by decide) | with_reducible apply @agree_bgFront 16640 _ (by decide) | with_reducible apply @agree_bgNext 16640 _ (by decide) | with_reducible apply @agree_dropJob 16640 _ (by decide) | with_reducible apply @agree_recLost 16640 _ (by decide) | with_reducible apply @agree_leaveHold 16640 _ (by decide) | with_reducible refine Agree.of_snd (by assumption) ?_ | with_reducible refine Agree.of_fst (by assumption) ?_ | split | dsimp only | (intro t ht; with_reducible assumption) | intro)

theorem agree_norApply {μ : Nat} {σ : State} (hK : 8 ||| μ = μ) (d : Nat) (o : NorOp) (s : State) (hA : Agree μ σ s) : Agree μ σ (norApply d o s) := by
  refine Agree.step (k := 8) ?_ hK hA
  clear hA hK
  unfold norApply
  repeat' (first | (intro x; first | (refine (fun (hx : Agree 8 s x) => ?_) ?_; clear_value x; rotate_left; subst x) | subst x) | lift_lets -underBinder | with_reducible exact Agree.refl _ _ | with_reducible assumption | with_reducible apply @agree_setNor 8 _ (by decide) | with_reducible refine Agree.of_snd (by assumption) ?_ | with_reducible refine Agree.of_fst (by assumption) ?_ | split | dsimp only | (intro t ht; with_reducible assumption) | intro)

theorem agree_norErr {μ : Nat} {σ : State} (hK : 16384 ||| μ = μ) (d : Nat) (r : NorRes) (s : State) (hA : Agree μ σ s) : Agree μ σ (norErr d r s) := by
  refine Agree.step (k := 16384) ?_ hK hA
  clear hA hK
  unfold norErr
  repeat' (first | (intro x; first | (refine (fun (hx : Agree 16384 s x) => ?_) ?_; clear_value x; rotate_left; subst x) | subst x) | lift_lets -underBinder | with_reducible exact Agree.refl _ _ | with_reducible assumption | ((conv => (arg 3; arg 27; skip)); with_reducible refine Agree.upd_ledg _ (by decide) ?_) | with_reducible refine Agree.of_snd (by assumption) ?_ | with_reducible refine Agree.of_fst (by assumption) ?_ | split | dsimp only | (intro t ht; with_reducible assumption) | intro)

theorem agree_recNext {μ : Nat} {σ : State} (hK : 16640 ||| μ = μ) (w : RecWork) (s : State) (hA : Agree μ σ s) : Agree μ σ (recNext w s) := by
  refine Agree.step (k := 16640) ?_ hK hA
  clear hA hK
  unfold recNext
  repeat' (first | (intro x; first | (refine (fun (hx : Agree 16640 s x) => ?_) ?_; clear_value x; rotate_left; subst x) | subst x) | lift_lets -underBinder | with_reducible exact Agree.refl _ _ | with_reducible assumption | ((conv => (arg 3; arg 27; skip)); with_reducible refine Agree.upd_ledg _ (by decide) ?_) | with_reducible apply @agree_recDone 16640 _ (by decide) | with_reducible refine Agree.of_snd (by assumption) ?_ | with_reducible refine Agree.of_fst (by assumption) ?_ | split | dsimp only | (intro t ht; with_reducible assumption) | intro)

theorem agree_norComplete {μ : Nat} {σ : State} (hK : 57608 ||| μ = μ) (d : Nat) (r : NorRes) (s : State) (hA : Agree μ σ s) : Agree μ σ (norComplete d r s) := by
  refine Agree.step (k := 57608) ?_ hK hA
  clear hA hK
  unfold norComplete
  repeat' (first | (intro x; first | (refine (fun (hx : Agree 57608 s x) => ?_) ?_; clear_value x; rotate_left; subst x) | subst x) | lift_lets -underBinder | with_reducible exact Agree.refl _ _ | with_reducible assumption | ((conv => (arg 3; arg 27; skip)); with_reducible refine Agree.upd_ledg _ (by decide) ?_) | with_reducible apply @agree_bgDone 57608 _ (by decide) | with_reducible apply @agree_norFail 57608 _ (by decide) | with_reducible apply @agree_norApply 57608 _ (by decide) | with_reducible apply @agree_norErr 57608 _ (by decide) | with_reducible apply @agree_recNext 57608 _ (by decide) | with_reducible refine Agree.of_snd (by assumption) ?_ | with_reducible refine Agree.of_fst (by assumption) ?_ | split | dsimp only | (intro t ht; with_reducible assumption) | intro)

theorem agree_norProbe {μ : Nat} {σ : State} (hK : 24584 ||| μ = μ) (d : Nat) (f : Sfdp) (content : Option (List Host.Cell)) (s : State) (hA : Agree μ σ s) : Agree μ σ (norProbe d f content s) := by
  refine Agree.step (k := 24584) ?_ hK hA
  clear hA hK
  unfold norProbe
  repeat' (first | (intro x; first | (refine (fun (hx : Agree 24584 s x) => ?_) ?_; clear_value x; rotate_left; subst x) | subst x) | lift_lets -underBinder | with_reducible exact Agree.refl _ _ | with_reducible assumption | ((conv => (arg 3; arg 27; skip)); with_reducible refine Agree.upd_nor _ (by decide) ?_) | ((conv => (arg 3; arg 27; skip)); with_reducible refine Agree.upd_ledg _ (by decide) ?_) | with_reducible refine Agree.foldl ?_ ?_ | with_reducible refine Agree.foldl_snd ?_ ?_ | with_reducible refine Agree.foldl_fst ?_ ?_ | with_reducible refine Agree.foldl_thd ?_ ?_ | with_reducible apply @agree_unraise 24584 _ (by decide) | with_reducible apply @agree_dirWrite 24584 _ (by decide) | with_reducible refine Agree.of_snd (by assumption) ?_ | with_reducible refine Agree.of_fst (by assumption) ?_ | split | dsimp only | (intro t ht; with_reducible assumption) | intro)

theorem agree_resilverDone {μ : Nat} {σ : State} (hK : 24832 ||| μ = μ) (s : State) (hA : Agree μ σ s) : Agree μ σ (resilverDone s) := by
  refine Agree.step (k := 24832) ?_ hK hA
  clear hA hK
  unfold resilverDone
  repeat' (first | (intro x; first | (refine (fun (hx : Agree 24832 s x) => ?_) ?_; clear_value x; rotate_left; subst x) | subst x) | lift_lets -underBinder | with_reducible exact Agree.refl _ _ | with_reducible assumption | ((conv => (arg 3; arg 27; skip)); with_reducible refine Agree.upd_ledg _ (by decide) ?_) | with_reducible apply @agree_setEvt 24832 _ (by decide) | with_reducible apply @agree_unraise 24832 _ (by decide) | with_reducible apply @agree_count 24832 _ (by decide) | with_reducible refine Agree.of_snd (by assumption) ?_ | with_reducible refine Agree.of_fst (by assumption) ?_ | split | dsimp only | (intro t ht; with_reducible assumption) | intro)

end State
end Sys2Proof.Machine
end

