-- ==== Sys2Proof/Laws/AgreeRails.lean ====
section
/-! SUPPORT. The fields of State that each function of Machine/Rails.lean can change. -/
set_option Elab.async false

set_option linter.unusedTactic false
set_option linter.unreachableTactic false

namespace Sys2Proof.Machine
namespace State

theorem agree_firstDrive {μ : Nat} {σ : State} (hK : 4 ||| μ = μ) (s : State) (hA : Agree μ σ s) : Agree μ σ (firstDrive s) := by
  refine Agree.step (k := 4) ?_ hK hA
  clear hA hK
  unfold firstDrive
  repeat' (first | (intro x; first | (refine (fun (hx : Agree 4 s x) => ?_) ?_; clear_value x; rotate_left; subst x) | subst x) | lift_lets -underBinder | with_reducible exact Agree.refl _ _ | with_reducible assumption | ((conv => (arg 3; arg 27; skip)); with_reducible refine Agree.upd_aon _ (by decide) ?_) | with_reducible refine Agree.of_snd (by assumption) ?_ | with_reducible refine Agree.of_fst (by assumption) ?_ | split | dsimp only | (intro t ht; with_reducible assumption) | intro)

theorem agree_mdSlot {μ : Nat} {σ : State} (hK : 65536 ||| μ = μ) (n : Nat) (f : Slot → Slot) (s : State) (hA : Agree μ σ s) : Agree μ σ (mdSlot n f s) := by
  refine Agree.step (k := 65536) ?_ hK hA
  clear hA hK
  unfold mdSlot
  repeat' (first | (intro x; first | (refine (fun (hx : Agree 65536 s x) => ?_) ?_; clear_value x; rotate_left; subst x) | subst x) | lift_lets -underBinder | with_reducible exact Agree.refl _ _ | with_reducible assumption | ((conv => (arg 3; arg 27; skip)); with_reducible refine Agree.upd_seq _ (by decide) ?_) | with_reducible refine Agree.of_snd (by assumption) ?_ | with_reducible refine Agree.of_fst (by assumption) ?_ | split | dsimp only | (intro t ht; with_reducible assumption) | intro)

theorem agree_isoJoin {μ : Nat} {σ : State} (hK : 65536 ||| μ = μ) (s : State) (hA : Agree μ σ s) : Agree μ σ (isoJoin s) := by
  refine Agree.step (k := 65536) ?_ hK hA
  clear hA hK
  unfold isoJoin
  repeat' (first | (intro x; first | (refine (fun (hx : Agree 65536 s x) => ?_) ?_; clear_value x; rotate_left; subst x) | subst x) | lift_lets -underBinder | with_reducible exact Agree.refl _ _ | with_reducible assumption | with_reducible refine Agree.forN ?_ ?_ | with_reducible apply @agree_mdSlot 65536 _ (by decide) | with_reducible refine Agree.of_snd (by assumption) ?_ | with_reducible refine Agree.of_fst (by assumption) ?_ | split | dsimp only | (intro t ht; with_reducible assumption) | intro)

theorem agree_loadLevels {μ : Nat} {σ : State} (hK : 65536 ||| μ = μ) (s : State) (hA : Agree μ σ s) : Agree μ σ (loadLevels s) := by
  refine Agree.step (k := 65536) ?_ hK hA
  clear hA hK
  unfold loadLevels
  repeat' (first | (intro x; first | (refine (fun (hx : Agree 65536 s x) => ?_) ?_; clear_value x; rotate_left; subst x) | subst x) | lift_lets -underBinder | with_reducible exact Agree.refl _ _ | with_reducible assumption | with_reducible refine Agree.forN ?_ ?_ | with_reducible apply @agree_mdSlot 65536 _ (by decide) | with_reducible refine Agree.of_snd (by assumption) ?_ | with_reducible refine Agree.of_fst (by assumption) ?_ | split | dsimp only | (intro t ht; with_reducible assumption) | intro)

theorem agree_beginDown {μ : Nat} {σ : State} (hK : 65536 ||| μ = μ) (kind : DownKind) (set0 : BitVec 64) (s : State) (hA : Agree μ σ s) : Agree μ σ (beginDown kind set0 s) := by
  refine Agree.step (k := 65536) ?_ hK hA
  clear hA hK
  unfold beginDown
  repeat' (first | (intro x; first | (refine (fun (hx : Agree 65536 s x) => ?_) ?_; clear_value x; rotate_left; subst x) | subst x) | lift_lets -underBinder | with_reducible exact Agree.refl _ _ | with_reducible assumption | ((conv => (arg 3; arg 27; skip)); with_reducible refine Agree.upd_seq _ (by decide) ?_) | with_reducible refine Agree.forN ?_ ?_ | with_reducible apply @agree_mdSlot 65536 _ (by decide) | with_reducible refine Agree.of_snd (by assumption) ?_ | with_reducible refine Agree.of_fst (by assumption) ?_ | split | dsimp only | (intro t ht; with_reducible assumption) | intro)

theorem agree_stopAll {μ : Nat} {σ : State} (hK : 65536 ||| μ = μ) (s : State) (hA : Agree μ σ s) : Agree μ σ (stopAll s) := by
  refine Agree.step (k := 65536) ?_ hK hA
  clear hA hK
  unfold stopAll
  repeat' (first | (intro x; first | (refine (fun (hx : Agree 65536 s x) => ?_) ?_; clear_value x; rotate_left; subst x) | subst x) | lift_lets -underBinder | with_reducible exact Agree.refl _ _ | with_reducible assumption | ((conv => (arg 3; arg 27; skip)); with_reducible refine Agree.upd_seq _ (by decide) ?_) | with_reducible refine Agree.forN ?_ ?_ | with_reducible apply @agree_mdSlot 65536 _ (by decide) | with_reducible refine Agree.of_snd (by assumption) ?_ | with_reducible refine Agree.of_fst (by assumption) ?_ | split | dsimp only | (intro t ht; with_reducible assumption) | intro)

theorem agree_riseAbort {μ : Nat} {σ : State} (hK : 65536 ||| μ = μ) (s : State) (hA : Agree μ σ s) : Agree μ σ (riseAbort s) := by
  refine Agree.step (k := 65536) ?_ hK hA
  clear hA hK
  unfold riseAbort
  repeat' (first | (intro x; first | (refine (fun (hx : Agree 65536 s x) => ?_) ?_; clear_value x; rotate_left; subst x) | subst x) | lift_lets -underBinder | with_reducible exact Agree.refl _ _ | with_reducible assumption | ((conv => (arg 3; arg 27; skip)); with_reducible refine Agree.upd_seq _ (by decide) ?_) | with_reducible apply @agree_beginDown 65536 _ (by decide) | with_reducible apply @agree_stopAll 65536 _ (by decide) | with_reducible refine Agree.of_snd (by assumption) ?_ | with_reducible refine Agree.of_fst (by assumption) ?_ | split | dsimp only | (intro t ht; with_reducible assumption) | intro)

theorem agree_inputGone {μ : Nat} {σ : State} (hK : 65536 ||| μ = μ) (was : State) (s : State) (hA : Agree μ σ s) : Agree μ σ (inputGone was s) := by
  refine Agree.step (k := 65536) ?_ hK hA
  clear hA hK
  unfold inputGone
  repeat' (first | (intro x; first | (refine (fun (hx : Agree 65536 s x) => ?_) ?_; clear_value x; rotate_left; subst x) | subst x) | lift_lets -underBinder | with_reducible exact Agree.refl _ _ | with_reducible assumption | with_reducible apply @agree_riseAbort 65536 _ (by decide) | with_reducible refine Agree.of_snd (by assumption) ?_ | with_reducible refine Agree.of_fst (by assumption) ?_ | split | dsimp only | (intro t ht; with_reducible assumption) | intro)

theorem agree_pmbIssue {μ : Nat} {σ : State} (hK : 4096 ||| μ = μ) (d : Nat) (slot : Option Nat) (l : List PmbTx) (s : State) (hA : Agree μ σ s) : Agree μ σ (pmbIssue d slot l s) := by
  refine Agree.step (k := 4096) ?_ hK hA
  clear hA hK
  unfold pmbIssue
  repeat' (first | (intro x; first | (refine (fun (hx : Agree 4096 s x) => ?_) ?_; clear_value x; rotate_left; subst x) | subst x) | lift_lets -underBinder | with_reducible exact Agree.refl _ _ | with_reducible assumption | ((conv => (arg 3; arg 27; skip)); with_reducible refine Agree.upd_rp _ (by decide) ?_) | with_reducible refine Agree.of_snd (by assumption) ?_ | with_reducible refine Agree.of_fst (by assumption) ?_ | split | dsimp only | (intro t ht; with_reducible assumption) | intro)

theorem agree_pmbQuiet {μ : Nat} {σ : State} (hK : 4096 ||| μ = μ) (s : State) (hA : Agree μ σ s) : Agree μ σ (pmbQuiet s) := by
  refine Agree.step (k := 4096) ?_ hK hA
  clear hA hK
  unfold pmbQuiet
  repeat' (first | (intro x; first | (refine (fun (hx : Agree 4096 s x) => ?_) ?_; clear_value x; rotate_left; subst x) | subst x) | lift_lets -underBinder | with_reducible exact Agree.refl _ _ | with_reducible assumption | ((conv => (arg 3; arg 27; skip)); with_reducible refine Agree.upd_rp _ (by decide) ?_) | with_reducible refine Agree.of_snd (by assumption) ?_ | with_reducible refine Agree.of_fst (by assumption) ?_ | split | dsimp only | (intro t ht; with_reducible assumption) | intro)

theorem agree_calIssue {μ : Nat} {σ : State} (hK : 4096 ||| μ = μ) (s : State) (hA : Agree μ σ s) : Agree μ σ (calIssue s) := by
  refine Agree.step (k := 4096) ?_ hK hA
  clear hA hK
  unfold calIssue
  repeat' (first | (intro x; first | (refine (fun (hx : Agree 4096 s x) => ?_) ?_; clear_value x; rotate_left; subst x) | subst x) | lift_lets -underBinder | with_reducible exact Agree.refl _ _ | with_reducible assumption | with_reducible refine Agree.forL ?_ ?_ | with_reducible apply @agree_pmbIssue 4096 _ (by decide) | with_reducible apply @agree_pmbQuiet 4096 _ (by decide) | with_reducible refine Agree.of_snd (by assumption) ?_ | with_reducible refine Agree.of_fst (by assumption) ?_ | split | dsimp only | (intro t ht; with_reducible assumption) | intro)

theorem agree_pmbWrite {μ : Nat} {σ : State} (hK : 4096 ||| μ = μ) (n : Nat) (l : List (Nat × Nat)) (s : State) (hA : Agree μ σ s) : Agree μ σ (pmbWrite n l s) := by
  refine Agree.step (k := 4096) ?_ hK hA
  clear hA hK
  unfold pmbWrite
  repeat' (first | (intro x; first | (refine (fun (hx : Agree 4096 s x) => ?_) ?_; clear_value x; rotate_left; subst x) | subst x) | lift_lets -underBinder | with_reducible exact Agree.refl _ _ | with_reducible assumption | with_reducible apply @agree_pmbIssue 4096 _ (by decide) | with_reducible refine Agree.of_snd (by assumption) ?_ | with_reducible refine Agree.of_fst (by assumption) ?_ | split | dsimp only | (intro t ht; with_reducible assumption) | intro)

theorem agree_marginCancel {μ : Nat} {σ : State} (hK : 69632 ||| μ = μ) (s : State) (hA : Agree μ σ s) : Agree μ σ (marginCancel s) := by
  refine Agree.step (k := 69632) ?_ hK hA
  clear hA hK
  unfold marginCancel
  repeat' (first | (intro x; first | (refine (fun (hx : Agree 69632 s x) => ?_) ?_; clear_value x; rotate_left; subst x) | subst x) | lift_lets -underBinder | with_reducible exact Agree.refl _ _ | with_reducible assumption | ((conv => (arg 3; arg 27; skip)); with_reducible refine Agree.upd_rp _ (by decide) ?_) | with_reducible refine Agree.forN ?_ ?_ | with_reducible apply @agree_mdSlot 69632 _ (by decide) | with_reducible apply @agree_pmbWrite 69632 _ (by decide) | with_reducible refine Agree.of_snd (by assumption) ?_ | with_reducible refine Agree.of_fst (by assumption) ?_ | split | dsimp only | (intro t ht; with_reducible assumption) | intro)

theorem agree_saveProfileDown {μ : Nat} {σ : State} (hK : 65536 ||| μ = μ) (s : State) (hA : Agree μ σ s) : Agree μ σ (saveProfileDown s) := by
  refine Agree.step (k := 65536) ?_ hK hA
  clear hA hK
  unfold saveProfileDown
  repeat' (first | (intro x; first | (refine (fun (hx : Agree 65536 s x) => ?_) ?_; clear_value x; rotate_left; subst x) | subst x) | lift_lets -underBinder | with_reducible exact Agree.refl _ _ | with_reducible assumption | ((conv => (arg 3; arg 27; skip)); with_reducible refine Agree.upd_seq _ (by decide) ?_) | with_reducible refine Agree.forN ?_ ?_ | with_reducible apply @agree_mdSlot 65536 _ (by decide) | with_reducible apply @agree_beginDown 65536 _ (by decide) | with_reducible refine Agree.of_snd (by assumption) ?_ | with_reducible refine Agree.of_fst (by assumption) ?_ | split | dsimp only | (intro t ht; with_reducible assumption) | intro)

theorem agree_endRise {μ : Nat} {σ : State} (hK : 65536 ||| μ = μ) (k : Nat) (s : State) (hA : Agree μ σ s) : Agree μ σ (endRise k s) := by
  refine Agree.step (k := 65536) ?_ hK hA
  clear hA hK
  unfold endRise
  repeat' (first | (intro x; first | (refine (fun (hx : Agree 65536 s x) => ?_) ?_; clear_value x; rotate_left; subst x) | subst x) | lift_lets -underBinder | with_reducible exact Agree.refl _ _ | with_reducible assumption | ((conv => (arg 3; arg 27; skip)); with_reducible refine Agree.upd_seq _ (by decide) ?_) | with_reducible refine Agree.forN ?_ ?_ | with_reducible apply @agree_mdSlot 65536 _ (by decide) | with_reducible refine Agree.of_snd (by assumption) ?_ | with_reducible refine Agree.of_fst (by assumption) ?_ | split | dsimp only | (intro t ht; with_reducible assumption) | intro)

theorem agree_clearRail {μ : Nat} {σ : State} (hK : 73728 ||| μ = μ) (n : Nat) (flt : Bool) (wrn : Bool) (s : State) (hA : Agree μ σ s) : Agree μ σ (clearRail n flt wrn s) := by
  refine Agree.step (k := 73728) ?_ hK hA
  clear hA hK
  unfold clearRail
  repeat' (first | (intro x; first | (refine (fun (hx : Agree 73728 s x) => ?_) ?_; clear_value x; rotate_left; subst x) | subst x) | lift_lets -underBinder | with_reducible exact Agree.refl _ _ | with_reducible assumption | with_reducible apply @agree_unraise 73728 _ (by decide) | with_reducible apply @agree_mdSlot 73728 _ (by decide) | with_reducible refine Agree.of_snd (by assumption) ?_ | with_reducible refine Agree.of_fst (by assumption) ?_ | split | dsimp only | (intro t ht; with_reducible assumption) | intro)

theorem agree_joinRise {μ : Nat} {σ : State} (hK : 73728 ||| μ = μ) (k : Nat) (n : Nat) (s : State) (hA : Agree μ σ s) : Agree μ σ (joinRise k n s) := by
  refine Agree.step (k := 73728) ?_ hK hA
  clear hA hK
  unfold joinRise
  repeat' (first | (intro x; first | (refine (fun (hx : Agree 73728 s x) => ?_) ?_; clear_value x; rotate_left; subst x) | subst x) | lift_lets -underBinder | with_reducible exact Agree.refl _ _ | with_reducible assumption | with_reducible apply @agree_mdSlot 73728 _ (by decide) | with_reducible apply @agree_clearRail 73728 _ (by decide) | with_reducible refine Agree.of_snd (by assumption) ?_ | with_reducible refine Agree.of_fst (by assumption) ?_ | split | dsimp only | (intro t ht; with_reducible assumption) | intro)

theorem agree_startRise {μ : Nat} {σ : State} (hK : 73728 ||| μ = μ) (k : Nat) (set : BitVec 64) (s : State) (hA : Agree μ σ s) : Agree μ σ (startRise k set s) := by
  refine Agree.step (k := 73728) ?_ hK hA
  clear hA hK
  unfold startRise
  repeat' (first | (intro x; first | (refine (fun (hx : Agree 73728 s x) => ?_) ?_; clear_value x; rotate_left; subst x) | subst x) | lift_lets -underBinder | with_reducible exact Agree.refl _ _ | with_reducible assumption | ((conv => (arg 3; arg 27; skip)); with_reducible refine Agree.upd_seq _ (by decide) ?_) | with_reducible refine Agree.forN ?_ ?_ | with_reducible apply @agree_endRise 73728 _ (by decide) | with_reducible apply @agree_joinRise 73728 _ (by decide) | with_reducible refine Agree.of_snd (by assumption) ?_ | with_reducible refine Agree.of_fst (by assumption) ?_ | split | dsimp only | (intro t ht; with_reducible assumption) | intro)

theorem agree_startRun {μ : Nat} {σ : State} (hK : 73728 ||| μ = μ) (s : State) (hA : Agree μ σ s) : Agree μ σ (startRun s) := by
  refine Agree.step (k := 73728) ?_ hK hA
  clear hA hK
  unfold startRun
  repeat' (first | (intro x; first | (refine (fun (hx : Agree 73728 s x) => ?_) ?_; clear_value x; rotate_left; subst x) | subst x) | lift_lets -underBinder | with_reducible exact Agree.refl _ _ | with_reducible assumption | ((conv => (arg 3; arg 27; skip)); with_reducible refine Agree.upd_seq _ (by decide) ?_) | with_reducible refine Agree.forN ?_ ?_ | with_reducible apply @agree_mdSlot 73728 _ (by decide) | with_reducible apply @agree_startRise 73728 _ (by decide) | with_reducible refine Agree.of_snd (by assumption) ?_ | with_reducible refine Agree.of_fst (by assumption) ?_ | split | dsimp only | (intro t ht; with_reducible assumption) | intro)

theorem agree_riseEntry {μ : Nat} {σ : State} (hK : 73728 ||| μ = μ) (s : State) (hA : Agree μ σ s) : Agree μ σ (riseEntry s) := by
  refine Agree.step (k := 73728) ?_ hK hA
  clear hA hK
  unfold riseEntry
  repeat' (first | (intro x; first | (refine (fun (hx : Agree 73728 s x) => ?_) ?_; clear_value x; rotate_left; subst x) | subst x) | lift_lets -underBinder | with_reducible exact Agree.refl _ _ | with_reducible assumption | ((conv => (arg 3; arg 27; skip)); with_reducible refine Agree.upd_seq _ (by decide) ?_) | with_reducible apply @agree_startRun 73728 _ (by decide) | with_reducible refine Agree.of_snd (by assumption) ?_ | with_reducible refine Agree.of_fst (by assumption) ?_ | split | dsimp only | (intro t ht; with_reducible assumption) | intro)

theorem agree_fallDown {μ : Nat} {σ : State} (hK : 65536 ||| μ = μ) (hold : Bool) (s : State) (hA : Agree μ σ s) : Agree μ σ (fallDown hold s) := by
  refine Agree.step (k := 65536) ?_ hK hA
  clear hA hK
  unfold fallDown
  repeat' (first | (intro x; first | (refine (fun (hx : Agree 65536 s x) => ?_) ?_; clear_value x; rotate_left; subst x) | subst x) | lift_lets -underBinder | with_reducible exact Agree.refl _ _ | with_reducible assumption | ((conv => (arg 3; arg 27; skip)); with_reducible refine Agree.upd_seq _ (by decide) ?_) | with_reducible refine Agree.forN ?_ ?_ | with_reducible apply @agree_mdSlot 65536 _ (by decide) | with_reducible apply @agree_beginDown 65536 _ (by decide) | with_reducible refine Agree.of_snd (by assumption) ?_ | with_reducible refine Agree.of_fst (by assumption) ?_ | split | dsimp only | (intro t ht; with_reducible assumption) | intro)

theorem agree_startRestore {μ : Nat} {σ : State} (hK : 73728 ||| μ = μ) (s : State) (hA : Agree μ σ s) : Agree μ σ (startRestore s) := by
  refine Agree.step (k := 73728) ?_ hK hA
  clear hA hK
  unfold startRestore
  repeat' (first | (intro x; first | (refine (fun (hx : Agree 73728 s x) => ?_) ?_; clear_value x; rotate_left; subst x) | subst x) | lift_lets -underBinder | with_reducible exact Agree.refl _ _ | with_reducible assumption | with_reducible apply @agree_startRise 73728 _ (by decide) | with_reducible refine Agree.of_snd (by assumption) ?_ | with_reducible refine Agree.of_fst (by assumption) ?_ | split | dsimp only | (intro t ht; with_reducible assumption) | intro)

theorem agree_attemptFail {μ : Nat} {σ : State} (hK : 65536 ||| μ = μ) (s : State) (hA : Agree μ σ s) : Agree μ σ (attemptFail s) := by
  refine Agree.step (k := 65536) ?_ hK hA
  clear hA hK
  unfold attemptFail
  repeat' (first | (intro x; first | (refine (fun (hx : Agree 65536 s x) => ?_) ?_; clear_value x; rotate_left; subst x) | subst x) | lift_lets -underBinder | with_reducible exact Agree.refl _ _ | with_reducible assumption | ((conv => (arg 3; arg 27; skip)); with_reducible refine Agree.upd_seq _ (by decide) ?_) | with_reducible apply @agree_beginDown 65536 _ (by decide) | with_reducible apply @agree_stopAll 65536 _ (by decide) | with_reducible refine Agree.of_snd (by assumption) ?_ | with_reducible refine Agree.of_fst (by assumption) ?_ | split | dsimp only | (intro t ht; with_reducible assumption) | intro)

theorem agree_setEn {μ : Nat} {σ : State} (hK : 4 ||| μ = μ) (n : Nat) (b : Bool) (s : State) (hA : Agree μ σ s) : Agree μ σ (setEn n b s) := by
  refine Agree.step (k := 4) ?_ hK hA
  clear hA hK
  unfold setEn
  repeat' (first | (intro x; first | (refine (fun (hx : Agree 4 s x) => ?_) ?_; clear_value x; rotate_left; subst x) | subst x) | lift_lets -underBinder | with_reducible exact Agree.refl _ _ | with_reducible assumption | ((conv => (arg 3; arg 27; skip)); with_reducible refine Agree.upd_aon _ (by decide) ?_) | with_reducible refine Agree.of_snd (by assumption) ?_ | with_reducible refine Agree.of_fst (by assumption) ?_ | split | dsimp only | (intro t ht; with_reducible assumption) | intro)

theorem agree_unstick {μ : Nat} {σ : State} (hK : 73728 ||| μ = μ) (n : Nat) (s : State) (hA : Agree μ σ s) : Agree μ σ (unstick n s) := by
  refine Agree.step (k := 73728) ?_ hK hA
  clear hA hK
  unfold unstick
  repeat' (first | (intro x; first | (refine (fun (hx : Agree 73728 s x) => ?_) ?_; clear_value x; rotate_left; subst x) | subst x) | lift_lets -underBinder | with_reducible exact Agree.refl _ _ | with_reducible assumption | with_reducible apply @agree_unraise 73728 _ (by decide) | with_reducible apply @agree_mdSlot 73728 _ (by decide) | with_reducible refine Agree.of_snd (by assumption) ?_ | with_reducible refine Agree.of_fst (by assumption) ?_ | split | dsimp only | (intro t ht; with_reducible assumption) | intro)

theorem agree_chatterEdge {μ : Nat} {σ : State} (hK : 82176 ||| μ = μ) (n : Nat) (s : State) (hA : Agree μ σ s) : Agree μ σ (chatterEdge n s) := by
  refine Agree.step (k := 82176) ?_ hK hA
  clear hA hK
  unfold chatterEdge
  repeat' (first | (intro x; first | (refine (fun (hx : Agree 82176 s x) => ?_) ?_; clear_value x; rotate_left; subst x) | subst x) | lift_lets -underBinder | with_reducible exact Agree.refl _ _ | with_reducible assumption | with_reducible apply @agree_mdSlot 82176 _ (by decide) | with_reducible apply @agree_count 82176 _ (by decide) | with_reducible refine Agree.of_snd (by assumption) ?_ | with_reducible refine Agree.of_fst (by assumption) ?_ | split | dsimp only | (intro t ht; with_reducible assumption) | intro)

theorem agree_phaseAfter {μ : Nat} {σ : State} (hK : 65536 ||| μ = μ) (s : State) (hA : Agree μ σ s) : Agree μ σ (phaseAfter s) := by
  refine Agree.step (k := 65536) ?_ hK hA
  clear hA hK
  unfold phaseAfter
  repeat' (first | (intro x; first | (refine (fun (hx : Agree 65536 s x) => ?_) ?_; clear_value x; rotate_left; subst x) | subst x) | lift_lets -underBinder | with_reducible exact Agree.refl _ _ | with_reducible assumption | ((conv => (arg 3; arg 27; skip)); with_reducible refine Agree.upd_seq _ (by decide) ?_) | with_reducible refine Agree.of_snd (by assumption) ?_ | with_reducible refine Agree.of_fst (by assumption) ?_ | split | dsimp only | (intro t ht; with_reducible assumption) | intro)

theorem agree_snapshot {μ : Nat} {σ : State} (hK : 82176 ||| μ = μ) (cause : Nat) (slotNo : Nat) (s : State) (hA : Agree μ σ s) : Agree μ σ (snapshot cause slotNo s) := by
  refine Agree.step (k := 82176) ?_ hK hA
  clear hA hK
  unfold snapshot
  repeat' (first | (intro x; first | (refine (fun (hx : Agree 82176 s x) => ?_) ?_; clear_value x; rotate_left; subst x) | subst x) | lift_lets -underBinder | with_reducible exact Agree.refl _ _ | with_reducible assumption | ((conv => (arg 3; arg 27; skip)); with_reducible refine Agree.upd_seq _ (by decide) ?_) | with_reducible apply @agree_setEvt 82176 _ (by decide) | with_reducible apply @agree_pushRec 82176 _ (by decide) | with_reducible apply @agree_count 82176 _ (by decide) | with_reducible refine Agree.of_snd (by assumption) ?_ | with_reducible refine Agree.of_fst (by assumption) ?_ | split | dsimp only | (intro t ht; with_reducible assumption) | intro)

theorem agree_seqLatch {μ : Nat} {σ : State} (hK : 82304 ||| μ = μ) (s : State) (hA : Agree μ σ s) : Agree μ σ (seqLatch s) := by
  refine Agree.step (k := 82304) ?_ hK hA
  clear hA hK
  unfold seqLatch
  repeat' (first | (intro x; first | (refine (fun (hx : Agree 82304 s x) => ?_) ?_; clear_value x; rotate_left; subst x) | subst x) | lift_lets -underBinder | with_reducible exact Agree.refl _ _ | with_reducible assumption | ((conv => (arg 3; arg 27; skip)); with_reducible refine Agree.upd_top_seq _ _ (by decide) ?_) | with_reducible apply @agree_setEvt 82304 _ (by decide) | with_reducible apply @agree_snapshot 82304 _ (by decide) | with_reducible refine Agree.of_snd (by assumption) ?_ | with_reducible refine Agree.of_fst (by assumption) ?_ | split | dsimp only | (intro t ht; with_reducible assumption) | intro)

theorem agree_startSvc {μ : Nat} {σ : State} (hK : 73728 ||| μ = μ) (s : State) (hA : Agree μ σ s) : Agree μ σ (startSvc s) := by
  refine Agree.step (k := 73728) ?_ hK hA
  clear hA hK
  unfold startSvc
  repeat' (first | (intro x; first | (refine (fun (hx : Agree 73728 s x) => ?_) ?_; clear_value x; rotate_left; subst x) | subst x) | lift_lets -underBinder | with_reducible exact Agree.refl _ _ | with_reducible assumption | ((conv => (arg 3; arg 27; skip)); with_reducible refine Agree.upd_seq _ (by decide) ?_) | with_reducible apply @agree_startRise 73728 _ (by decide) | with_reducible refine Agree.of_snd (by assumption) ?_ | with_reducible refine Agree.of_fst (by assumption) ?_ | split | dsimp only | (intro t ht; with_reducible assumption) | intro)

theorem agree_downEnd {μ : Nat} {σ : State} (hK : 90496 ||| μ = μ) (k : DownKind) (s : State) (hA : Agree μ σ s) : Agree μ σ (downEnd k s) := by
  refine Agree.step (k := 90496) ?_ hK hA
  clear hA hK
  unfold downEnd
  repeat' (first | (intro x; first | (refine (fun (hx : Agree 90496 s x) => ?_) ?_; clear_value x; rotate_left; subst x) | subst x) | lift_lets -underBinder | with_reducible exact Agree.refl _ _ | with_reducible assumption | ((conv => (arg 3; arg 27; skip)); with_reducible refine Agree.upd_seq _ (by decide) ?_) | with_reducible apply @agree_phaseAfter 90496 _ (by decide) | with_reducible apply @agree_seqLatch 90496 _ (by decide) | with_reducible apply @agree_startSvc 90496 _ (by decide) | with_reducible refine Agree.of_snd (by assumption) ?_ | with_reducible refine Agree.of_fst (by assumption) ?_ | split | dsimp only | (intro t ht; with_reducible assumption) | intro)

theorem agree_downSlotStep {μ : Nat} {σ : State} (hK : 73732 ||| μ = μ) (d : Down) (n : Nat) (s : State) (hA : Agree μ σ s) : Agree μ σ (downSlotStep d n s) := by
  refine Agree.step (k := 73732) ?_ hK hA
  clear hA hK
  unfold downSlotStep
  repeat' (first | (intro x; first | (refine (fun (hx : Agree 73732 s x) => ?_) ?_; clear_value x; rotate_left; subst x) | subst x) | lift_lets -underBinder | with_reducible exact Agree.refl _ _ | with_reducible assumption | with_reducible apply @agree_mdSlot 73732 _ (by decide) | with_reducible apply @agree_clearRail 73732 _ (by decide) | with_reducible apply @agree_setEn 73732 _ (by decide) | with_reducible refine Agree.of_snd (by assumption) ?_ | with_reducible refine Agree.of_fst (by assumption) ?_ | split | dsimp only | (intro t ht; with_reducible assumption) | intro)

theorem agree_leftRise {μ : Nat} {σ : State} (hK : 65536 ||| μ = μ) (was : State) (k : Nat) (s : State) (hA : Agree μ σ s) : Agree μ σ (leftRise was k s) := by
  refine Agree.step (k := 65536) ?_ hK hA
  clear hA hK
  unfold leftRise
  repeat' (first | (intro x; first | (refine (fun (hx : Agree 65536 s x) => ?_) ?_; clear_value x; rotate_left; subst x) | subst x) | lift_lets -underBinder | with_reducible exact Agree.refl _ _ | with_reducible assumption | with_reducible apply @agree_endRise 65536 _ (by decide) | with_reducible refine Agree.of_snd (by assumption) ?_ | with_reducible refine Agree.of_fst (by assumption) ?_ | split | dsimp only | (intro t ht; with_reducible assumption) | intro)

theorem agree_leftRises {μ : Nat} {σ : State} (hK : 65536 ||| μ = μ) (was : State) (s : State) (hA : Agree μ σ s) : Agree μ σ (leftRises was s) := by
  refine Agree.step (k := 65536) ?_ hK hA
  clear hA hK
  unfold leftRises
  repeat' (first | (intro x; first | (refine (fun (hx : Agree 65536 s x) => ?_) ?_; clear_value x; rotate_left; subst x) | subst x) | lift_lets -underBinder | with_reducible exact Agree.refl _ _ | with_reducible assumption | with_reducible refine Agree.forL ?_ ?_ | with_reducible apply @agree_leftRise 65536 _ (by decide) | with_reducible refine Agree.of_snd (by assumption) ?_ | with_reducible refine Agree.of_fst (by assumption) ?_ | split | dsimp only | (intro t ht; with_reducible assumption) | intro)

theorem agree_pmbDone {μ : Nat} {σ : State} (hK : 4096 ||| μ = μ) (n : Nat) (s : State) (hA : Agree μ σ s) : Agree μ σ (pmbDone n s) := by
  refine Agree.step (k := 4096) ?_ hK hA
  clear hA hK
  unfold pmbDone
  repeat' (first | (intro x; first | (refine (fun (hx : Agree 4096 s x) => ?_) ?_; clear_value x; rotate_left; subst x) | subst x) | lift_lets -underBinder | with_reducible exact Agree.refl _ _ | with_reducible assumption | ((conv => (arg 3; arg 27; skip)); with_reducible refine Agree.upd_rp _ (by decide) ?_) | with_reducible refine Agree.of_snd (by assumption) ?_ | with_reducible refine Agree.of_fst (by assumption) ?_ | split | dsimp only | (intro t ht; with_reducible assumption) | intro)

theorem agree_marginAck {μ : Nat} {σ : State} (hK : 77824 ||| μ = μ) (n : Nat) (ok : Bool) (s : State) (hA : Agree μ σ s) : Agree μ σ (marginAck n ok s) := by
  refine Agree.step (k := 77824) ?_ hK hA
  clear hA hK
  unfold marginAck
  repeat' (first | (intro x; first | (refine (fun (hx : Agree 77824 s x) => ?_) ?_; clear_value x; rotate_left; subst x) | subst x) | lift_lets -underBinder | with_reducible exact Agree.refl _ _ | with_reducible assumption | ((conv => (arg 3; arg 27; skip)); with_reducible refine Agree.upd_rp _ (by decide) ?_) | with_reducible apply @agree_raise 77824 _ (by decide) | with_reducible apply @agree_unraise 77824 _ (by decide) | with_reducible apply @agree_mdSlot 77824 _ (by decide) | with_reducible apply @agree_pmbDone 77824 _ (by decide) | with_reducible refine Agree.of_snd (by assumption) ?_ | with_reducible refine Agree.of_fst (by assumption) ?_ | split | dsimp only | (intro t ht; with_reducible assumption) | intro)

theorem agree_marginWrite {μ : Nat} {σ : State} (hK : 78081 ||| μ = μ) (n : Nat) (dir : Nat) (target : Nat) (s : State) (hA : Agree μ σ s) : Agree μ σ (marginWrite n dir target s) := by
  refine Agree.step (k := 78081) ?_ hK hA
  clear hA hK
  unfold marginWrite
  repeat' (first | (intro x; first | (refine (fun (hx : Agree 78081 s x) => ?_) ?_; clear_value x; rotate_left; subst x) | subst x) | lift_lets -underBinder | with_reducible exact Agree.refl _ _ | with_reducible assumption | with_reducible apply @agree_setEvt 78081 _ (by decide) | with_reducible apply @agree_tick 78081 _ (by decide) | with_reducible apply @agree_mdSlot 78081 _ (by decide) | with_reducible apply @agree_pmbWrite 78081 _ (by decide) | with_reducible apply @agree_clearRail 78081 _ (by decide) | with_reducible refine Agree.of_snd (by assumption) ?_ | with_reducible refine Agree.of_fst (by assumption) ?_ | split | dsimp only | (intro t ht; with_reducible assumption) | intro)

theorem agree_maskEnd {μ : Nat} {σ : State} (hK : 65536 ||| μ = μ) (n : Nat) (s : State) (hA : Agree μ σ s) : Agree μ σ (maskEnd n s) := by
  refine Agree.step (k := 65536) ?_ hK hA
  clear hA hK
  unfold maskEnd
  repeat' (first | (intro x; first | (refine (fun (hx : Agree 65536 s x) => ?_) ?_; clear_value x; rotate_left; subst x) | subst x) | lift_lets -underBinder | with_reducible exact Agree.refl _ _ | with_reducible assumption | with_reducible apply @agree_mdSlot 65536 _ (by decide) | with_reducible refine Agree.of_snd (by assumption) ?_ | with_reducible refine Agree.of_fst (by assumption) ?_ | split | dsimp only | (intro t ht; with_reducible assumption) | intro)

theorem agree_pbCount {μ : Nat} {σ : State} (hK : 16640 ||| μ = μ) (unit : Nat) (len : Nat) (s : State) (hA : Agree μ σ s) : Agree μ σ (pbCount unit len s) := by
  refine Agree.step (k := 16640) ?_ hK hA
  clear hA hK
  unfold pbCount
  repeat' (first | (intro x; first | (refine (fun (hx : Agree 16640 s x) => ?_) ?_; clear_value x; rotate_left; subst x) | subst x) | lift_lets -underBinder | with_reducible exact Agree.refl _ _ | with_reducible assumption | with_reducible apply @agree_count 16640 _ (by decide) | with_reducible refine Agree.of_snd (by assumption) ?_ | with_reducible refine Agree.of_fst (by assumption) ?_ | split | dsimp only | (intro t ht; with_reducible assumption) | intro)

theorem agree_svcRetryWrite {μ : Nat} {σ : State} (hK : 73728 ||| μ = μ) (b : Bool) (s : State) (hA : Agree μ σ s) : Agree μ σ (svcRetryWrite b s) := by
  refine Agree.step (k := 73728) ?_ hK hA
  clear hA hK
  unfold svcRetryWrite
  repeat' (first | (intro x; first | (refine (fun (hx : Agree 73728 s x) => ?_) ?_; clear_value x; rotate_left; subst x) | subst x) | lift_lets -underBinder | with_reducible exact Agree.refl _ _ | with_reducible assumption | ((conv => (arg 3; arg 27; skip)); with_reducible refine Agree.upd_seq _ (by decide) ?_) | with_reducible apply @agree_startSvc 73728 _ (by decide) | with_reducible refine Agree.of_snd (by assumption) ?_ | with_reducible refine Agree.of_fst (by assumption) ?_ | split | dsimp only | (intro t ht; with_reducible assumption) | intro)

theorem agree_qualify {μ : Nat} {σ : State} (hK : 65536 ||| μ = μ) (n : Nat) (s : State) (hA : Agree μ σ s) : Agree μ σ (qualify n s) := by
  refine Agree.step (k := 65536) ?_ hK hA
  clear hA hK
  unfold qualify
  repeat' (first | (intro x; first | (refine (fun (hx : Agree 65536 s x) => ?_) ?_; clear_value x; rotate_left; subst x) | subst x) | lift_lets -underBinder | with_reducible exact Agree.refl _ _ | with_reducible assumption | with_reducible apply @agree_mdSlot 65536 _ (by decide) | with_reducible apply @agree_endRise 65536 _ (by decide) | with_reducible refine Agree.of_snd (by assumption) ?_ | with_reducible refine Agree.of_fst (by assumption) ?_ | split | dsimp only | (intro t ht; with_reducible assumption) | intro)

theorem agree_railDown {μ : Nat} {σ : State} (hK : 90500 ||| μ = μ) (s : State) (hA : Agree μ σ s) : Agree μ σ (railDown s) := by
  refine Agree.step (k := 90500) ?_ hK hA
  clear hA hK
  unfold railDown
  repeat' (first | (intro x; first | (refine (fun (hx : Agree 90500 s x) => ?_) ?_; clear_value x; rotate_left; subst x) | subst x) | lift_lets -underBinder | with_reducible exact Agree.refl _ _ | with_reducible assumption | ((conv => (arg 3; arg 27; skip)); with_reducible refine Agree.upd_seq _ (by decide) ?_) | with_reducible refine Agree.forL ?_ ?_ | with_reducible refine Agree.forN ?_ ?_ | with_reducible apply @agree_downEnd 90500 _ (by decide) | with_reducible apply @agree_downSlotStep 90500 _ (by decide) | with_reducible refine Agree.of_snd (by assumption) ?_ | with_reducible refine Agree.of_fst (by assumption) ?_ | split | dsimp only | (intro t ht; with_reducible assumption) | intro)

theorem agree_railFault {μ : Nat} {σ : State} (hK : 90368 ||| μ = μ) (n : Nat) (s : State) (hA : Agree μ σ s) : Agree μ σ (railFault n s) := by
  refine Agree.step (k := 90368) ?_ hK hA
  clear hA hK
  unfold railFault
  repeat' (first | (intro x; first | (refine (fun (hx : Agree 90368 s x) => ?_) ?_; clear_value x; rotate_left; subst x) | subst x) | lift_lets -underBinder | with_reducible exact Agree.refl _ _ | with_reducible assumption | with_reducible apply @agree_setEvt 90368 _ (by decide) | with_reducible apply @agree_raise 90368 _ (by decide) | with_reducible apply @agree_mdSlot 90368 _ (by decide) | with_reducible apply @agree_snapshot 90368 _ (by decide) | with_reducible refine Agree.of_snd (by assumption) ?_ | with_reducible refine Agree.of_fst (by assumption) ?_ | split | dsimp only | (intro t ht; with_reducible assumption) | intro)

theorem agree_sampleSlot {μ : Nat} {σ : State} (hK : 73728 ||| μ = μ) (pg : BitVec 64) (win : BitVec 64) (n : Nat) (s : State) (hA : Agree μ σ s) : Agree μ σ (sampleSlot pg win n s) := by
  refine Agree.step (k := 73728) ?_ hK hA
  clear hA hK
  unfold sampleSlot
  repeat' (first | (intro x; first | (refine (fun (hx : Agree 73728 s x) => ?_) ?_; clear_value x; rotate_left; subst x) | subst x) | lift_lets -underBinder | with_reducible exact Agree.refl _ _ | with_reducible assumption | with_reducible apply @agree_mdSlot 73728 _ (by decide) | with_reducible apply @agree_clearRail 73728 _ (by decide) | with_reducible refine Agree.of_snd (by assumption) ?_ | with_reducible refine Agree.of_fst (by assumption) ?_ | split | dsimp only | (intro t ht; with_reducible assumption) | intro)

theorem agree_upSlotStep {μ : Nat} {σ : State} (hK : 73732 ||| μ = μ) (n : Nat) (s : State) (hA : Agree μ σ s) : Agree μ σ (upSlotStep n s) := by
  refine Agree.step (k := 73732) ?_ hK hA
  clear hA hK
  unfold upSlotStep
  repeat' (first | (intro x; first | (refine (fun (hx : Agree 73732 s x) => ?_) ?_; clear_value x; rotate_left; subst x) | subst x) | lift_lets -underBinder | with_reducible exact Agree.refl _ _ | with_reducible assumption | ((conv => (arg 3; arg 27; skip)); with_reducible refine Agree.upd_seq _ (by decide) ?_) | with_reducible apply @agree_mdSlot 73732 _ (by decide) | with_reducible apply @agree_setEn 73732 _ (by decide) | with_reducible apply @agree_unstick 73732 _ (by decide) | with_reducible refine Agree.of_snd (by assumption) ?_ | with_reducible refine Agree.of_fst (by assumption) ?_ | split | dsimp only | (intro t ht; with_reducible assumption) | intro)

theorem agree_railUp {μ : Nat} {σ : State} (hK : 73732 ||| μ = μ) (pg : BitVec 64) (win : BitVec 64) (s : State) (hA : Agree μ σ s) : Agree μ σ (railUp pg win s) := by
  refine Agree.step (k := 73732) ?_ hK hA
  clear hA hK
  unfold railUp
  repeat' (first | (intro x; first | (refine (fun (hx : Agree 73732 s x) => ?_) ?_; clear_value x; rotate_left; subst x) | subst x) | lift_lets -underBinder | with_reducible exact Agree.refl _ _ | with_reducible assumption | ((conv => (arg 3; arg 27; skip)); with_reducible refine Agree.upd_seq _ (by decide) ?_) | with_reducible refine Agree.forN ?_ ?_ | with_reducible refine Agree.forL ?_ ?_ | with_reducible apply @agree_leftRise 73732 _ (by decide) | with_reducible apply @agree_sampleSlot 73732 _ (by decide) | with_reducible apply @agree_upSlotStep 73732 _ (by decide) | with_reducible refine Agree.of_snd (by assumption) ?_ | with_reducible refine Agree.of_fst (by assumption) ?_ | split | dsimp only | (intro t ht; with_reducible assumption) | intro)

theorem agree_railWarn {μ : Nat} {σ : State} (hK : 73984 ||| μ = μ) (n : Nat) (s : State) (hA : Agree μ σ s) : Agree μ σ (railWarn n s) := by
  refine Agree.step (k := 73984) ?_ hK hA
  clear hA hK
  unfold railWarn
  repeat' (first | (intro x; first | (refine (fun (hx : Agree 73984 s x) => ?_) ?_; clear_value x; rotate_left; subst x) | subst x) | lift_lets -underBinder | with_reducible exact Agree.refl _ _ | with_reducible assumption | with_reducible apply @agree_setEvt 73984 _ (by decide) | with_reducible apply @agree_raise 73984 _ (by decide) | with_reducible apply @agree_mdSlot 73984 _ (by decide) | with_reducible refine Agree.of_snd (by assumption) ?_ | with_reducible refine Agree.of_fst (by assumption) ?_ | split | dsimp only | (intro t ht; with_reducible assumption) | intro)

theorem agree_startSled {μ : Nat} {σ : State} (hK : 73728 ||| μ = μ) (x : Nat) (s : State) (hA : Agree μ σ s) : Agree μ σ (startSled x s) := by
  refine Agree.step (k := 73728) ?_ hK hA
  clear hA hK
  unfold startSled
  repeat' (first | (intro x; first | (refine (fun (hx : Agree 73728 s x) => ?_) ?_; clear_value x; rotate_left; subst x) | subst x) | lift_lets -underBinder | with_reducible exact Agree.refl _ _ | with_reducible assumption | with_reducible apply @agree_startRise 73728 _ (by decide) | with_reducible refine Agree.of_snd (by assumption) ?_ | with_reducible refine Agree.of_fst (by assumption) ?_ | split | dsimp only | (intro t ht; with_reducible assumption) | intro)

theorem agree_startWaited {μ : Nat} {σ : State} (hK : 90368 ||| μ = μ) (s : State) (hA : Agree μ σ s) : Agree μ σ (startWaited s) := by
  refine Agree.step (k := 90368) ?_ hK hA
  clear hA hK
  unfold startWaited
  repeat' (first | (intro x; first | (refine (fun (hx : Agree 90368 s x) => ?_) ?_; clear_value x; rotate_left; subst x) | subst x) | lift_lets -underBinder | with_reducible exact Agree.refl _ _ | with_reducible assumption | ((conv => (arg 3; arg 27; skip)); with_reducible refine Agree.upd_seq _ (by decide) ?_) | with_reducible apply @agree_setEvt 90368 _ (by decide) | with_reducible apply @agree_startRun 90368 _ (by decide) | with_reducible apply @agree_snapshot 90368 _ (by decide) | with_reducible refine Agree.of_snd (by assumption) ?_ | with_reducible refine Agree.of_fst (by assumption) ?_ | split | dsimp only | (intro t ht; with_reducible assumption) | intro)

theorem agree_restExpiry {μ : Nat} {σ : State} (hK : 90368 ||| μ = μ) (x : Option Nat) (s : State) (hA : Agree μ σ s) : Agree μ σ (restExpiry x s) := by
  refine Agree.step (k := 90368) ?_ hK hA
  clear hA hK
  unfold restExpiry
  repeat' (first | (intro x; first | (refine (fun (hx : Agree 90368 s x) => ?_) ?_; clear_value x; rotate_left; subst x) | subst x) | lift_lets -underBinder | with_reducible exact Agree.refl _ _ | with_reducible assumption | ((conv => (arg 3; arg 27; skip)); with_reducible refine Agree.upd_seq _ (by decide) ?_) | with_reducible apply @agree_setEvt 90368 _ (by decide) | with_reducible apply @agree_startRestore 90368 _ (by decide) | with_reducible apply @agree_snapshot 90368 _ (by decide) | with_reducible apply @agree_startSled 90368 _ (by decide) | with_reducible apply @agree_startWaited 90368 _ (by decide) | with_reducible refine Agree.of_snd (by assumption) ?_ | with_reducible refine Agree.of_fst (by assumption) ?_ | split | dsimp only | (intro t ht; with_reducible assumption) | intro)

theorem agree_stopRise {μ : Nat} {σ : State} (hK : 65536 ||| μ = μ) (k : Nat) (s : State) (hA : Agree μ σ s) : Agree μ σ (stopRise k s) := by
  refine Agree.step (k := 65536) ?_ hK hA
  clear hA hK
  unfold stopRise
  repeat' (first | (intro x; first | (refine (fun (hx : Agree 65536 s x) => ?_) ?_; clear_value x; rotate_left; subst x) | subst x) | lift_lets -underBinder | with_reducible exact Agree.refl _ _ | with_reducible assumption | ((conv => (arg 3; arg 27; skip)); with_reducible refine Agree.upd_seq _ (by decide) ?_) | with_reducible refine Agree.forN ?_ ?_ | with_reducible apply @agree_mdSlot 65536 _ (by decide) | with_reducible refine Agree.of_snd (by assumption) ?_ | with_reducible refine Agree.of_fst (by assumption) ?_ | split | dsimp only | (intro t ht; with_reducible assumption) | intro)

theorem agree_restoreFail {μ : Nat} {σ : State} (hK : 65536 ||| μ = μ) (s : State) (hA : Agree μ σ s) : Agree μ σ (restoreFail s) := by
  refine Agree.step (k := 65536) ?_ hK hA
  clear hA hK
  unfold restoreFail
  repeat' (first | (intro x; first | (refine (fun (hx : Agree 65536 s x) => ?_) ?_; clear_value x; rotate_left; subst x) | subst x) | lift_lets -underBinder | with_reducible exact Agree.refl _ _ | with_reducible assumption | with_reducible apply @agree_beginDown 65536 _ (by decide) | with_reducible apply @agree_stopRise 65536 _ (by decide) | with_reducible refine Agree.of_snd (by assumption) ?_ | with_reducible refine Agree.of_fst (by assumption) ?_ | split | dsimp only | (intro t ht; with_reducible assumption) | intro)

theorem agree_seqfltLow {μ : Nat} {σ : State} (hK : 82306 ||| μ = μ) (s : State) (hA : Agree μ σ s) : Agree μ σ (seqfltLow s) := by
  refine Agree.step (k := 82306) ?_ hK hA
  clear hA hK
  unfold seqfltLow
  repeat' (first | (intro x; first | (refine (fun (hx : Agree 82306 s x) => ?_) ?_; clear_value x; rotate_left; subst x) | subst x) | lift_lets -underBinder | with_reducible exact Agree.refl _ _ | with_reducible assumption | ((conv => (arg 3; arg 27; skip)); with_reducible refine Agree.upd_top _ (by decide) ?_) | ((conv => (arg 3; arg 27; skip)); with_reducible refine Agree.upd_pins_seq _ _ (by decide) ?_) | with_reducible apply @agree_setEvt 82306 _ (by decide) | with_reducible apply @agree_riseAbort 82306 _ (by decide) | with_reducible apply @agree_count 82306 _ (by decide) | with_reducible apply @agree_snapshot 82306 _ (by decide) | with_reducible refine Agree.of_snd (by assumption) ?_ | with_reducible refine Agree.of_fst (by assumption) ?_ | split | dsimp only | (intro t ht; with_reducible assumption) | intro)

theorem agree_serviceFail {μ : Nat} {σ : State} (hK : 65536 ||| μ = μ) (n : Nat) (s : State) (hA : Agree μ σ s) : Agree μ σ (serviceFail n s) := by
  refine Agree.step (k := 65536) ?_ hK hA
  clear hA hK
  unfold serviceFail
  repeat' (first | (intro x; first | (refine (fun (hx : Agree 65536 s x) => ?_) ?_; clear_value x; rotate_left; subst x) | subst x) | lift_lets -underBinder | with_reducible exact Agree.refl _ _ | with_reducible assumption | with_reducible refine Agree.forN ?_ ?_ | with_reducible apply @agree_mdSlot 65536 _ (by decide) | with_reducible apply @agree_beginDown 65536 _ (by decide) | with_reducible apply @agree_leftRises 65536 _ (by decide) | with_reducible refine Agree.of_snd (by assumption) ?_ | with_reducible refine Agree.of_fst (by assumption) ?_ | split | dsimp only | (intro t ht; with_reducible assumption) | intro)

theorem agree_sledGroupFail {μ : Nat} {σ : State} (hK : 65536 ||| μ = μ) (x : Nat) (s : State) (hA : Agree μ σ s) : Agree μ σ (sledGroupFail x s) := by
  refine Agree.step (k := 65536) ?_ hK hA
  clear hA hK
  unfold sledGroupFail
  repeat' (first | (intro x; first | (refine (fun (hx : Agree 65536 s x) => ?_) ?_; clear_value x; rotate_left; subst x) | subst x) | lift_lets -underBinder | with_reducible exact Agree.refl _ _ | with_reducible assumption | ((conv => (arg 3; arg 27; skip)); with_reducible refine Agree.upd_seq _ (by decide) ?_) | with_reducible apply @agree_beginDown 65536 _ (by decide) | with_reducible apply @agree_leftRises 65536 _ (by decide) | with_reducible refine Agree.of_snd (by assumption) ?_ | with_reducible refine Agree.of_fst (by assumption) ?_ | split | dsimp only | (intro t ht; with_reducible assumption) | intro)

theorem agree_slotFail {μ : Nat} {σ : State} (hK : 82176 ||| μ = μ) (n : Nat) (cause : Nat) (s : State) (hA : Agree μ σ s) : Agree μ σ (slotFail n cause s) := by
  refine Agree.step (k := 82176) ?_ hK hA
  clear hA hK
  unfold slotFail
  repeat' (first | (intro x; first | (refine (fun (hx : Agree 82176 s x) => ?_) ?_; clear_value x; rotate_left; subst x) | subst x) | lift_lets -underBinder | with_reducible exact Agree.refl _ _ | with_reducible assumption | with_reducible apply @agree_setEvt 82176 _ (by decide) | with_reducible apply @agree_mdSlot 82176 _ (by decide) | with_reducible apply @agree_attemptFail 82176 _ (by decide) | with_reducible apply @agree_snapshot 82176 _ (by decide) | with_reducible apply @agree_restoreFail 82176 _ (by decide) | with_reducible apply @agree_serviceFail 82176 _ (by decide) | with_reducible apply @agree_sledGroupFail 82176 _ (by decide) | with_reducible refine Agree.of_snd (by assumption) ?_ | with_reducible refine Agree.of_fst (by assumption) ?_ | split | dsimp only | (intro t ht; with_reducible assumption) | intro)

theorem agree_slotGoodLost {μ : Nat} {σ : State} (hK : 82176 ||| μ = μ) (n : Nat) (s : State) (hA : Agree μ σ s) : Agree μ σ (slotGoodLost n s) := by
  refine Agree.step (k := 82176) ?_ hK hA
  clear hA hK
  unfold slotGoodLost
  repeat' (first | (intro x; first | (refine (fun (hx : Agree 82176 s x) => ?_) ?_; clear_value x; rotate_left; subst x) | subst x) | lift_lets -underBinder | with_reducible exact Agree.refl _ _ | with_reducible assumption | with_reducible apply @agree_slotFail 82176 _ (by decide) | with_reducible refine Agree.of_snd (by assumption) ?_ | with_reducible refine Agree.of_fst (by assumption) ?_ | split | dsimp only | (intro t ht; with_reducible assumption) | intro)

theorem agree_slotStuck {μ : Nat} {σ : State} (hK : 90368 ||| μ = μ) (n : Nat) (s : State) (hA : Agree μ σ s) : Agree μ σ (slotStuck n s) := by
  refine Agree.step (k := 90368) ?_ hK hA
  clear hA hK
  unfold slotStuck
  repeat' (first | (intro x; first | (refine (fun (hx : Agree 90368 s x) => ?_) ?_; clear_value x; rotate_left; subst x) | subst x) | lift_lets -underBinder | with_reducible exact Agree.refl _ _ | with_reducible assumption | with_reducible apply @agree_setEvt 90368 _ (by decide) | with_reducible apply @agree_raise 90368 _ (by decide) | with_reducible apply @agree_mdSlot 90368 _ (by decide) | with_reducible apply @agree_snapshot 90368 _ (by decide) | with_reducible refine Agree.of_snd (by assumption) ?_ | with_reducible refine Agree.of_fst (by assumption) ?_ | split | dsimp only | (intro t ht; with_reducible assumption) | intro)

theorem agree_slotTimeout {μ : Nat} {σ : State} (hK : 82176 ||| μ = μ) (n : Nat) (s : State) (hA : Agree μ σ s) : Agree μ σ (slotTimeout n s) := by
  refine Agree.step (k := 82176) ?_ hK hA
  clear hA hK
  unfold slotTimeout
  repeat' (first | (intro x; first | (refine (fun (hx : Agree 82176 s x) => ?_) ?_; clear_value x; rotate_left; subst x) | subst x) | lift_lets -underBinder | with_reducible exact Agree.refl _ _ | with_reducible assumption | with_reducible apply @agree_slotFail 82176 _ (by decide) | with_reducible refine Agree.of_snd (by assumption) ?_ | with_reducible refine Agree.of_fst (by assumption) ?_ | split | dsimp only | (intro t ht; with_reducible assumption) | intro)

theorem agree_vsScan {μ : Nat} {σ : State} (hK : 73728 ||| μ = μ) (codes : List Nat) (s : State) (hA : Agree μ σ s) : Agree μ σ (vsScan codes s) := by
  refine Agree.step (k := 73728) ?_ hK hA
  clear hA hK
  unfold vsScan
  repeat' (first | (intro x; first | (refine (fun (hx : Agree 73728 s x) => ?_) ?_; clear_value x; rotate_left; subst x) | subst x) | lift_lets -underBinder | with_reducible exact Agree.refl _ _ | with_reducible assumption | ((conv => (arg 3; arg 27; skip)); with_reducible refine Agree.upd_seq _ (by decide) ?_) | with_reducible refine Agree.forN ?_ ?_ | with_reducible refine Agree.forL ?_ ?_ | with_reducible apply @agree_mdSlot 73728 _ (by decide) | with_reducible apply @agree_unstick 73728 _ (by decide) | with_reducible refine Agree.of_snd (by assumption) ?_ | with_reducible refine Agree.of_fst (by assumption) ?_ | split | dsimp only | (intro t ht; with_reducible assumption) | intro)

end State
end Sys2Proof.Machine
end

