-- ==== Sys2Proof/Laws/AgreeEnergy.lean ====
section
/-! SUPPORT. The fields of State that each function of Machine/Energy.lean can change. -/
set_option Elab.async false

set_option linter.unusedTactic false
set_option linter.unreachableTactic false

namespace Sys2Proof.Machine
namespace State

theorem agree_abortIf {μ : Nat} {σ : State} (hK : 131072 ||| μ = μ) (c : Bool) (s : State) (hA : Agree μ σ s) : Agree μ σ (abortIf c s) := by
  refine Agree.step (k := 131072) ?_ hK hA
  clear hA hK
  unfold abortIf
  repeat' (first | (intro x; first | (refine (fun (hx : Agree 131072 s x) => ?_) ?_; clear_value x; rotate_left; subst x) | subst x) | lift_lets -underBinder | with_reducible exact Agree.refl _ _ | with_reducible assumption | ((conv => (arg 3; arg 27; skip)); with_reducible refine Agree.upd_nrg _ (by decide) ?_) | with_reducible refine Agree.of_snd (by assumption) ?_ | with_reducible refine Agree.of_fst (by assumption) ?_ | split | dsimp only | (intro t ht; with_reducible assumption) | intro)

theorem agree_mdStr {μ : Nat} {σ : State} (hK : 4 ||| μ = μ) (k : Nat) (f : Str → Str) (s : State) (hA : Agree μ σ s) : Agree μ σ (mdStr k f s) := by
  refine Agree.step (k := 4) ?_ hK hA
  clear hA hK
  unfold mdStr
  repeat' (first | (intro x; first | (refine (fun (hx : Agree 4 s x) => ?_) ?_; clear_value x; rotate_left; subst x) | subst x) | lift_lets -underBinder | with_reducible exact Agree.refl _ _ | with_reducible assumption | ((conv => (arg 3; arg 27; skip)); with_reducible refine Agree.upd_aon _ (by decide) ?_) | with_reducible refine Agree.of_snd (by assumption) ?_ | with_reducible refine Agree.of_fst (by assumption) ?_ | split | dsimp only | (intro t ht; with_reducible assumption) | intro)

theorem agree_learnTrip {μ : Nat} {σ : State} (hK : 131332 ||| μ = μ) (s : State) (hA : Agree μ σ s) : Agree μ σ (learnTrip s) := by
  refine Agree.step (k := 131332) ?_ hK hA
  clear hA hK
  unfold learnTrip
  repeat' (first | (intro x; first | (refine (fun (hx : Agree 131332 s x) => ?_) ?_; clear_value x; rotate_left; subst x) | subst x) | lift_lets -underBinder | with_reducible exact Agree.refl _ _ | with_reducible assumption | ((conv => (arg 3; arg 27; skip)); with_reducible refine Agree.upd_aon_nrg _ _ (by decide) ?_) | with_reducible apply @agree_setEvt 131332 _ (by decide) | with_reducible apply @agree_mdStr 131332 _ (by decide) | with_reducible refine Agree.of_snd (by assumption) ?_ | with_reducible refine Agree.of_fst (by assumption) ?_ | split | dsimp only | (intro t ht; with_reducible assumption) | intro)

theorem agree_anchorSoc {μ : Nat} {σ : State} (hK : 4 ||| μ = μ) (k : Nat) (s : State) (hA : Agree μ σ s) : Agree μ σ (anchorSoc k s) := by
  refine Agree.step (k := 4) ?_ hK hA
  clear hA hK
  unfold anchorSoc
  repeat' (first | (intro x; first | (refine (fun (hx : Agree 4 s x) => ?_) ?_; clear_value x; rotate_left; subst x) | subst x) | lift_lets -underBinder | with_reducible exact Agree.refl _ _ | with_reducible assumption | with_reducible apply @agree_mdStr 4 _ (by decide) | with_reducible refine Agree.of_snd (by assumption) ?_ | with_reducible refine Agree.of_fst (by assumption) ?_ | split | dsimp only | (intro t ht; with_reducible assumption) | intro)

theorem agree_bankCopy {μ : Nat} {σ : State} (hK : 4 ||| μ = μ) (s : State) (hA : Agree μ σ s) : Agree μ σ (bankCopy s) := by
  refine Agree.step (k := 4) ?_ hK hA
  clear hA hK
  unfold bankCopy
  repeat' (first | (intro x; first | (refine (fun (hx : Agree 4 s x) => ?_) ?_; clear_value x; rotate_left; subst x) | subst x) | lift_lets -underBinder | with_reducible exact Agree.refl _ _ | with_reducible assumption | ((conv => (arg 3; arg 27; skip)); with_reducible refine Agree.upd_aon _ (by decide) ?_) | with_reducible refine Agree.of_snd (by assumption) ?_ | with_reducible refine Agree.of_fst (by assumption) ?_ | split | dsimp only | (intro t ht; with_reducible assumption) | intro)

theorem agree_strEnergy {μ : Nat} {σ : State} (hK : 4 ||| μ = μ) (k : Nat) (s : State) (hA : Agree μ σ s) : Agree μ σ (strEnergy k s) := by
  refine Agree.step (k := 4) ?_ hK hA
  clear hA hK
  unfold strEnergy
  repeat' (first | (intro x; first | (refine (fun (hx : Agree 4 s x) => ?_) ?_; clear_value x; rotate_left; subst x) | subst x) | lift_lets -underBinder | with_reducible exact Agree.refl _ _ | with_reducible assumption | with_reducible apply @agree_mdStr 4 _ (by decide) | with_reducible refine Agree.of_snd (by assumption) ?_ | with_reducible refine Agree.of_fst (by assumption) ?_ | split | dsimp only | (intro t ht; with_reducible assumption) | intro)

theorem agree_ePotUpdate {μ : Nat} {σ : State} (hK : 131076 ||| μ = μ) (p : Option Nat) (s : State) (hA : Agree μ σ s) : Agree μ σ (ePotUpdate p s) := by
  refine Agree.step (k := 131076) ?_ hK hA
  clear hA hK
  unfold ePotUpdate
  repeat' (first | (intro x; first | (refine (fun (hx : Agree 131076 s x) => ?_) ?_; clear_value x; rotate_left; subst x) | subst x) | lift_lets -underBinder | with_reducible exact Agree.refl _ _ | with_reducible assumption | ((conv => (arg 3; arg 27; skip)); with_reducible refine Agree.upd_nrg _ (by decide) ?_) | with_reducible refine Agree.forN ?_ ?_ | with_reducible apply @agree_mdStr 131076 _ (by decide) | with_reducible apply @agree_strEnergy 131076 _ (by decide) | with_reducible refine Agree.of_snd (by assumption) ?_ | with_reducible refine Agree.of_fst (by assumption) ?_ | split | dsimp only | (intro t ht; with_reducible assumption) | intro)

theorem agree_estDrive {μ : Nat} {σ : State} (hK : 73732 ||| μ = μ) (n : Nat) (b : Bool) (s : State) (hA : Agree μ σ s) : Agree μ σ (estDrive n b s) := by
  refine Agree.step (k := 73732) ?_ hK hA
  clear hA hK
  unfold estDrive
  repeat' (first | (intro x; first | (refine (fun (hx : Agree 73732 s x) => ?_) ?_; clear_value x; rotate_left; subst x) | subst x) | lift_lets -underBinder | with_reducible exact Agree.refl _ _ | with_reducible assumption | with_reducible apply @agree_mdSlot 73732 _ (by decide) | with_reducible apply @agree_clearRail 73732 _ (by decide) | with_reducible apply @agree_setEn 73732 _ (by decide) | with_reducible apply @agree_unstick 73732 _ (by decide) | with_reducible refine Agree.of_snd (by assumption) ?_ | with_reducible refine Agree.of_fst (by assumption) ?_ | split | dsimp only | (intro t ht; with_reducible assumption) | intro)

theorem agree_loadOff {μ : Nat} {σ : State} (hK : 73732 ||| μ = μ) (n : Nat) (s : State) (hA : Agree μ σ s) : Agree μ σ (loadOff n s) := by
  refine Agree.step (k := 73732) ?_ hK hA
  clear hA hK
  unfold loadOff
  repeat' (first | (intro x; first | (refine (fun (hx : Agree 73732 s x) => ?_) ?_; clear_value x; rotate_left; subst x) | subst x) | lift_lets -underBinder | with_reducible exact Agree.refl _ _ | with_reducible assumption | with_reducible apply @agree_estDrive 73732 _ (by decide) | with_reducible refine Agree.of_snd (by assumption) ?_ | with_reducible refine Agree.of_fst (by assumption) ?_ | split | dsimp only | (intro t ht; with_reducible assumption) | intro)

theorem agree_learnDrive {μ : Nat} {σ : State} (hK : 73732 ||| μ = μ) (s : State) (hA : Agree μ σ s) : Agree μ σ (learnDrive s) := by
  refine Agree.step (k := 73732) ?_ hK hA
  clear hA hK
  unfold learnDrive
  repeat' (first | (intro x; first | (refine (fun (hx : Agree 73732 s x) => ?_) ?_; clear_value x; rotate_left; subst x) | subst x) | lift_lets -underBinder | with_reducible exact Agree.refl _ _ | with_reducible assumption | with_reducible apply @agree_estDrive 73732 _ (by decide) | with_reducible apply @agree_loadOff 73732 _ (by decide) | with_reducible refine Agree.of_snd (by assumption) ?_ | with_reducible refine Agree.of_fst (by assumption) ?_ | split | dsimp only | (intro t ht; with_reducible assumption) | intro)

theorem agree_learnStep {μ : Nat} {σ : State} (hK : 205060 ||| μ = μ) (s : State) (hA : Agree μ σ s) : Agree μ σ (learnStep s) := by
  refine Agree.step (k := 205060) ?_ hK hA
  clear hA hK
  unfold learnStep
  repeat' (first | (intro x; first | (refine (fun (hx : Agree 205060 s x) => ?_) ?_; clear_value x; rotate_left; subst x) | subst x) | lift_lets -underBinder | with_reducible exact Agree.refl _ _ | with_reducible assumption | ((conv => (arg 3; arg 27; skip)); with_reducible refine Agree.upd_aon _ (by decide) ?_) | ((conv => (arg 3; arg 27; skip)); with_reducible refine Agree.upd_nrg _ (by decide) ?_) | ((conv => (arg 3; arg 27; skip)); with_reducible refine Agree.upd_aon_nrg _ _ (by decide) ?_) | with_reducible apply @agree_setEvt 205060 _ (by decide) | with_reducible apply @agree_mdStr 205060 _ (by decide) | with_reducible apply @agree_learnDrive 205060 _ (by decide) | with_reducible refine Agree.of_snd (by assumption) ?_ | with_reducible refine Agree.of_fst (by assumption) ?_ | split | dsimp only | (intro t ht; with_reducible assumption) | intro)

theorem agree_judgeWear {μ : Nat} {σ : State} (hK : 8196 ||| μ = μ) (k : Nat) (s : State) (hA : Agree μ σ s) : Agree μ σ (judgeWear k s) := by
  refine Agree.step (k := 8196) ?_ hK hA
  clear hA hK
  unfold judgeWear
  repeat' (first | (intro x; first | (refine (fun (hx : Agree 8196 s x) => ?_) ?_; clear_value x; rotate_left; subst x) | subst x) | lift_lets -underBinder | with_reducible exact Agree.refl _ _ | with_reducible assumption | with_reducible apply @agree_follow 8196 _ (by decide) | with_reducible apply @agree_mdStr 8196 _ (by decide) | with_reducible refine Agree.of_snd (by assumption) ?_ | with_reducible refine Agree.of_fst (by assumption) ?_ | split | dsimp only | (intro t ht; with_reducible assumption) | intro)

theorem agree_setCap {μ : Nat} {σ : State} (hK : 8196 ||| μ = μ) (k : Nat) (c : Nat) (s : State) (hA : Agree μ σ s) : Agree μ σ (setCap k c s) := by
  refine Agree.step (k := 8196) ?_ hK hA
  clear hA hK
  unfold setCap
  repeat' (first | (intro x; first | (refine (fun (hx : Agree 8196 s x) => ?_) ?_; clear_value x; rotate_left; subst x) | subst x) | lift_lets -underBinder | with_reducible exact Agree.refl _ _ | with_reducible assumption | with_reducible apply @agree_mdStr 8196 _ (by decide) | with_reducible apply @agree_judgeWear 8196 _ (by decide) | with_reducible refine Agree.of_snd (by assumption) ?_ | with_reducible refine Agree.of_fst (by assumption) ?_ | split | dsimp only | (intro t ht; with_reducible assumption) | intro)

theorem agree_strCount {μ : Nat} {σ : State} (hK : 16640 ||| μ = μ) (kind : Nat) (k : Nat) (q : Int) (s : State) (hA : Agree μ σ s) : Agree μ σ (strCount kind k q s) := by
  refine Agree.step (k := 16640) ?_ hK hA
  clear hA hK
  unfold strCount
  repeat' (first | (intro x; first | (refine (fun (hx : Agree 16640 s x) => ?_) ?_; clear_value x; rotate_left; subst x) | subst x) | lift_lets -underBinder | with_reducible exact Agree.refl _ _ | with_reducible assumption | with_reducible apply @agree_count 16640 _ (by decide) | with_reducible refine Agree.of_snd (by assumption) ?_ | with_reducible refine Agree.of_fst (by assumption) ?_ | split | dsimp only | (intro t ht; with_reducible assumption) | intro)

theorem agree_learned {μ : Nat} {σ : State} (hK : 24836 ||| μ = μ) (k : Nat) (c : Nat) (q : Int) (s : State) (hA : Agree μ σ s) : Agree μ σ (learned k c q s) := by
  refine Agree.step (k := 24836) ?_ hK hA
  clear hA hK
  unfold learned
  repeat' (first | (intro x; first | (refine (fun (hx : Agree 24836 s x) => ?_) ?_; clear_value x; rotate_left; subst x) | subst x) | lift_lets -underBinder | with_reducible exact Agree.refl _ _ | with_reducible assumption | with_reducible apply @agree_mdStr 24836 _ (by decide) | with_reducible apply @agree_setCap 24836 _ (by decide) | with_reducible apply @agree_strCount 24836 _ (by decide) | with_reducible refine Agree.of_snd (by assumption) ?_ | with_reducible refine Agree.of_fst (by assumption) ?_ | split | dsimp only | (intro t ht; with_reducible assumption) | intro)

theorem agree_candAct {μ : Nat} {σ : State} (hK : 24836 ||| μ = μ) (a : Nat × Bool) (s : State) (hA : Agree μ σ s) : Agree μ σ (candAct a s) := by
  refine Agree.step (k := 24836) ?_ hK hA
  clear hA hK
  unfold candAct
  repeat' (first | (intro x; first | (refine (fun (hx : Agree 24836 s x) => ?_) ?_; clear_value x; rotate_left; subst x) | subst x) | lift_lets -underBinder | with_reducible exact Agree.refl _ _ | with_reducible assumption | with_reducible apply @agree_mdStr 24836 _ (by decide) | with_reducible apply @agree_strCount 24836 _ (by decide) | with_reducible apply @agree_learned 24836 _ (by decide) | with_reducible refine Agree.of_snd (by assumption) ?_ | with_reducible refine Agree.of_fst (by assumption) ?_ | split | dsimp only | (intro t ht; with_reducible assumption) | intro)

theorem agree_candWrite {μ : Nat} {σ : State} (hK : 131072 ||| μ = μ) (k : Nat) (accept : Bool) (s : State) (hA : Agree μ σ s) : Agree μ σ (candWrite k accept s) := by
  refine Agree.step (k := 131072) ?_ hK hA
  clear hA hK
  unfold candWrite
  repeat' (first | (intro x; first | (refine (fun (hx : Agree 131072 s x) => ?_) ?_; clear_value x; rotate_left; subst x) | subst x) | lift_lets -underBinder | with_reducible exact Agree.refl _ _ | with_reducible assumption | ((conv => (arg 3; arg 27; skip)); with_reducible refine Agree.upd_nrg _ (by decide) ?_) | with_reducible refine Agree.of_snd (by assumption) ?_ | with_reducible refine Agree.of_fst (by assumption) ?_ | split | dsimp only | (intro t ht; with_reducible assumption) | intro)

theorem agree_restoreRejected {μ : Nat} {σ : State} (hK : 16640 ||| μ = μ) (s : State) (hA : Agree μ σ s) : Agree μ σ (restoreRejected s) := by
  refine Agree.step (k := 16640) ?_ hK hA
  clear hA hK
  unfold restoreRejected
  repeat' (first | (intro x; first | (refine (fun (hx : Agree 16640 s x) => ?_) ?_; clear_value x; rotate_left; subst x) | subst x) | lift_lets -underBinder | with_reducible exact Agree.refl _ _ | with_reducible assumption | with_reducible refine Agree.forL ?_ ?_ | with_reducible apply @agree_strCount 16640 _ (by decide) | with_reducible refine Agree.of_snd (by assumption) ?_ | with_reducible refine Agree.of_fst (by assumption) ?_ | split | dsimp only | (intro t ht; with_reducible assumption) | intro)

theorem agree_mdStrC {μ : Nat} {σ : State} (hK : 131072 ||| μ = μ) (k : Nat) (f : StrC → StrC) (s : State) (hA : Agree μ σ s) : Agree μ σ (mdStrC k f s) := by
  refine Agree.step (k := 131072) ?_ hK hA
  clear hA hK
  unfold mdStrC
  repeat' (first | (intro x; first | (refine (fun (hx : Agree 131072 s x) => ?_) ?_; clear_value x; rotate_left; subst x) | subst x) | lift_lets -underBinder | with_reducible exact Agree.refl _ _ | with_reducible assumption | ((conv => (arg 3; arg 27; skip)); with_reducible refine Agree.upd_nrg _ (by decide) ?_) | with_reducible refine Agree.of_snd (by assumption) ?_ | with_reducible refine Agree.of_fst (by assumption) ?_ | split | dsimp only | (intro t ht; with_reducible assumption) | intro)

theorem agree_currentWake {μ : Nat} {σ : State} (hK : 131076 ||| μ = μ) (k : Nat) (s : State) (hA : Agree μ σ s) : Agree μ σ (currentWake k s) := by
  refine Agree.step (k := 131076) ?_ hK hA
  clear hA hK
  unfold currentWake
  repeat' (first | (intro x; first | (refine (fun (hx : Agree 131076 s x) => ?_) ?_; clear_value x; rotate_left; subst x) | subst x) | lift_lets -underBinder | with_reducible exact Agree.refl _ _ | with_reducible assumption | with_reducible apply @agree_mdStr 131076 _ (by decide) | with_reducible apply @agree_mdStrC 131076 _ (by decide) | with_reducible refine Agree.of_snd (by assumption) ?_ | with_reducible refine Agree.of_fst (by assumption) ?_ | split | dsimp only | (intro t ht; with_reducible assumption) | intro)

theorem agree_learnRun {μ : Nat} {σ : State} (hK : 24836 ||| μ = μ) (k : Nat) (s : State) (hA : Agree μ σ s) : Agree μ σ (learnRun k s).1 := by
  refine Agree.step (k := 24836) ?_ hK hA
  clear hA hK
  unfold learnRun
  repeat' (first | (intro x; first | (refine (fun (hx : Agree 24836 s x) => ?_) ?_; clear_value x; rotate_left; subst x) | subst x) | lift_lets -underBinder | with_reducible exact Agree.refl _ _ | with_reducible assumption | with_reducible apply @agree_setEvt 24836 _ (by decide) | with_reducible apply @agree_mdStr 24836 _ (by decide) | with_reducible apply @agree_setCap 24836 _ (by decide) | with_reducible apply @agree_strCount 24836 _ (by decide) | with_reducible refine Agree.of_snd (by assumption) ?_ | with_reducible refine Agree.of_fst (by assumption) ?_ | split | dsimp only | (intro t ht; with_reducible assumption) | intro)

theorem agree_emptyAnchor {μ : Nat} {σ : State} (hK : 155908 ||| μ = μ) (k : Nat) (s : State) (hA : Agree μ σ s) : Agree μ σ (emptyAnchor k s) := by
  refine Agree.step (k := 155908) ?_ hK hA
  clear hA hK
  unfold emptyAnchor
  repeat' (first | (intro x; first | (refine (fun (hx : Agree 155908 s x) => ?_) ?_; clear_value x; rotate_left; subst x) | subst x) | lift_lets -underBinder | with_reducible exact Agree.refl _ _ | with_reducible assumption | ((conv => (arg 3; arg 27; skip)); with_reducible refine Agree.upd_aon_nrg _ _ (by decide) ?_) | with_reducible apply @agree_setEvt 155908 _ (by decide) | with_reducible apply @agree_mdStr 155908 _ (by decide) | with_reducible apply @agree_anchorSoc 155908 _ (by decide) | with_reducible apply @agree_strCount 155908 _ (by decide) | with_reducible apply @agree_mdStrC 155908 _ (by decide) | with_reducible apply @agree_learnRun 155908 _ (by decide) | with_reducible refine Agree.of_snd (by assumption) ?_ | with_reducible refine Agree.of_fst (by assumption) ?_ | split | dsimp only | (intro t ht; with_reducible assumption) | intro)

theorem agree_restoreStr {μ : Nat} {σ : State} (hK : 24836 ||| μ = μ) (b : List Byte) (k : Nat) (s : State) (hA : Agree μ σ s) : Agree μ σ (restoreStr b k s) := by
  refine Agree.step (k := 24836) ?_ hK hA
  clear hA hK
  unfold restoreStr
  repeat' (first | (intro x; first | (refine (fun (hx : Agree 24836 s x) => ?_) ?_; clear_value x; rotate_left; subst x) | subst x) | lift_lets -underBinder | with_reducible exact Agree.refl _ _ | with_reducible assumption | with_reducible apply @agree_mdStr 24836 _ (by decide) | with_reducible apply @agree_setCap 24836 _ (by decide) | with_reducible apply @agree_strCount 24836 _ (by decide) | with_reducible refine Agree.of_snd (by assumption) ?_ | with_reducible refine Agree.of_fst (by assumption) ?_ | split | dsimp only | (intro t ht; with_reducible assumption) | intro)

theorem agree_restoreCommit {μ : Nat} {σ : State} (hK : 155908 ||| μ = μ) (s : State) (hA : Agree μ σ s) : Agree μ σ (restoreCommit s) := by
  refine Agree.step (k := 155908) ?_ hK hA
  clear hA hK
  unfold restoreCommit
  repeat' (first | (intro x; first | (refine (fun (hx : Agree 155908 s x) => ?_) ?_; clear_value x; rotate_left; subst x) | subst x) | lift_lets -underBinder | with_reducible exact Agree.refl _ _ | with_reducible assumption | ((conv => (arg 3; arg 27; skip)); with_reducible refine Agree.upd_aon_nrg _ _ (by decide) ?_) | with_reducible refine Agree.forN ?_ ?_ | with_reducible refine Agree.foldl ?_ ?_ | with_reducible refine Agree.foldl_snd ?_ ?_ | with_reducible refine Agree.foldl_fst ?_ ?_ | with_reducible refine Agree.foldl_thd ?_ ?_ | with_reducible apply @agree_restoreStr 155908 _ (by decide) | with_reducible refine Agree.of_snd (by assumption) ?_ | with_reducible refine Agree.of_fst (by assumption) ?_ | split | dsimp only | (intro t ht; with_reducible assumption) | intro)

theorem agree_freshEstimate {μ : Nat} {σ : State} (hK : 8196 ||| μ = μ) (k : Nat) (s : State) (hA : Agree μ σ s) : Agree μ σ (freshEstimate k s) := by
  refine Agree.step (k := 8196) ?_ hK hA
  clear hA hK
  unfold freshEstimate
  repeat' (first | (intro x; first | (refine (fun (hx : Agree 8196 s x) => ?_) ?_; clear_value x; rotate_left; subst x) | subst x) | lift_lets -underBinder | with_reducible exact Agree.refl _ _ | with_reducible assumption | with_reducible apply @agree_mdStr 8196 _ (by decide) | with_reducible apply @agree_setCap 8196 _ (by decide) | with_reducible refine Agree.of_snd (by assumption) ?_ | with_reducible refine Agree.of_fst (by assumption) ?_ | split | dsimp only | (intro t ht; with_reducible assumption) | intro)

theorem agree_fullAnchor {μ : Nat} {σ : State} (hK : 147716 ||| μ = μ) (k : Nat) (s : State) (hA : Agree μ σ s) : Agree μ σ (fullAnchor k s) := by
  refine Agree.step (k := 147716) ?_ hK hA
  clear hA hK
  unfold fullAnchor
  repeat' (first | (intro x; first | (refine (fun (hx : Agree 147716 s x) => ?_) ?_; clear_value x; rotate_left; subst x) | subst x) | lift_lets -underBinder | with_reducible exact Agree.refl _ _ | with_reducible assumption | ((conv => (arg 3; arg 27; skip)); with_reducible refine Agree.upd_aon _ (by decide) ?_) | ((conv => (arg 3; arg 27; skip)); with_reducible refine Agree.upd_nrg _ (by decide) ?_) | with_reducible apply @agree_setEvt 147716 _ (by decide) | with_reducible apply @agree_mdStr 147716 _ (by decide) | with_reducible apply @agree_anchorSoc 147716 _ (by decide) | with_reducible apply @agree_strCount 147716 _ (by decide) | with_reducible apply @agree_mdStrC 147716 _ (by decide) | with_reducible refine Agree.of_snd (by assumption) ?_ | with_reducible refine Agree.of_fst (by assumption) ?_ | split | dsimp only | (intro t ht; with_reducible assumption) | intro)

theorem agree_gapRule {μ : Nat} {σ : State} (hK : 16644 ||| μ = μ) (k : Nat) (g : Nat) (s : State) (hA : Agree μ σ s) : Agree μ σ (gapRule k g s) := by
  refine Agree.step (k := 16644) ?_ hK hA
  clear hA hK
  unfold gapRule
  repeat' (first | (intro x; first | (refine (fun (hx : Agree 16644 s x) => ?_) ?_; clear_value x; rotate_left; subst x) | subst x) | lift_lets -underBinder | with_reducible exact Agree.refl _ _ | with_reducible assumption | with_reducible apply @agree_mdStr 16644 _ (by decide) | with_reducible apply @agree_strCount 16644 _ (by decide) | with_reducible refine Agree.of_snd (by assumption) ?_ | with_reducible refine Agree.of_fst (by assumption) ?_ | split | dsimp only | (intro t ht; with_reducible assumption) | intro)

theorem agree_reportSoc {μ : Nat} {σ : State} (hK : 4 ||| μ = μ) (k : Nat) (v8 : Int) (s : State) (hA : Agree μ σ s) : Agree μ σ (reportSoc k v8 s) := by
  refine Agree.step (k := 4) ?_ hK hA
  clear hA hK
  unfold reportSoc
  repeat' (first | (intro x; first | (refine (fun (hx : Agree 4 s x) => ?_) ?_; clear_value x; rotate_left; subst x) | subst x) | lift_lets -underBinder | with_reducible exact Agree.refl _ _ | with_reducible assumption | with_reducible apply @agree_mdStr 4 _ (by decide) | with_reducible refine Agree.of_snd (by assumption) ?_ | with_reducible refine Agree.of_fst (by assumption) ?_ | split | dsimp only | (intro t ht; with_reducible assumption) | intro)

theorem agree_insertion {μ : Nat} {σ : State} (hK : 24836 ||| μ = μ) (k : Nat) (s : State) (hA : Agree μ σ s) : Agree μ σ (insertion k s) := by
  refine Agree.step (k := 24836) ?_ hK hA
  clear hA hK
  unfold insertion
  repeat' (first | (intro x; first | (refine (fun (hx : Agree 24836 s x) => ?_) ?_; clear_value x; rotate_left; subst x) | subst x) | lift_lets -underBinder | with_reducible exact Agree.refl _ _ | with_reducible assumption | with_reducible apply @agree_setEvt 24836 _ (by decide) | with_reducible apply @agree_mdStr 24836 _ (by decide) | with_reducible apply @agree_strCount 24836 _ (by decide) | with_reducible apply @agree_freshEstimate 24836 _ (by decide) | with_reducible apply @agree_reportSoc 24836 _ (by decide) | with_reducible refine Agree.of_snd (by assumption) ?_ | with_reducible refine Agree.of_fst (by assumption) ?_ | split | dsimp only | (intro t ht; with_reducible assumption) | intro)

theorem agree_integrate {μ : Nat} {σ : State} (hK : 4 ||| μ = μ) (k : Nat) (dt : Nat) (iNow : Int) (s : State) (hA : Agree μ σ s) : Agree μ σ (integrate k dt iNow s) := by
  refine Agree.step (k := 4) ?_ hK hA
  clear hA hK
  unfold integrate
  repeat' (first | (intro x; first | (refine (fun (hx : Agree 4 s x) => ?_) ?_; clear_value x; rotate_left; subst x) | subst x) | lift_lets -underBinder | with_reducible exact Agree.refl _ _ | with_reducible assumption | with_reducible apply @agree_mdStr 4 _ (by decide) | with_reducible refine Agree.of_snd (by assumption) ?_ | with_reducible refine Agree.of_fst (by assumption) ?_ | split | dsimp only | (intro t ht; with_reducible assumption) | intro)

theorem agree_latchImage {μ : Nat} {σ : State} (hK : 131840 ||| μ = μ) (s : State) (hA : Agree μ σ s) : Agree μ σ (latchImage s) := by
  refine Agree.step (k := 131840) ?_ hK hA
  clear hA hK
  unfold latchImage
  repeat' (first | (intro x; first | (refine (fun (hx : Agree 131840 s x) => ?_) ?_; clear_value x; rotate_left; subst x) | subst x) | lift_lets -underBinder | with_reducible exact Agree.refl _ _ | with_reducible assumption | ((conv => (arg 3; arg 27; skip)); with_reducible refine Agree.upd_ctrl_nrg _ _ (by decide) ?_) | with_reducible apply @agree_setEvt 131840 _ (by decide) | with_reducible refine Agree.of_snd (by assumption) ?_ | with_reducible refine Agree.of_fst (by assumption) ?_ | split | dsimp only | (intro t ht; with_reducible assumption) | intro)

theorem agree_learnAbort {μ : Nat} {σ : State} (hK : 131072 ||| μ = μ) (s : State) (hA : Agree μ σ s) : Agree μ σ (learnAbort s) := by
  refine Agree.step (k := 131072) ?_ hK hA
  clear hA hK
  unfold learnAbort
  repeat' (first | (intro x; first | (refine (fun (hx : Agree 131072 s x) => ?_) ?_; clear_value x; rotate_left; subst x) | subst x) | lift_lets -underBinder | with_reducible exact Agree.refl _ _ | with_reducible assumption | with_reducible apply @agree_abortIf 131072 _ (by decide) | with_reducible refine Agree.of_snd (by assumption) ?_ | with_reducible refine Agree.of_fst (by assumption) ?_ | split | dsimp only | (intro t ht; with_reducible assumption) | intro)

theorem agree_learnTimeout {μ : Nat} {σ : State} (hK : 131072 ||| μ = μ) (s : State) (hA : Agree μ σ s) : Agree μ σ (learnTimeout s) := by
  refine Agree.step (k := 131072) ?_ hK hA
  clear hA hK
  unfold learnTimeout
  repeat' (first | (intro x; first | (refine (fun (hx : Agree 131072 s x) => ?_) ?_; clear_value x; rotate_left; subst x) | subst x) | lift_lets -underBinder | with_reducible exact Agree.refl _ _ | with_reducible assumption | with_reducible apply @agree_abortIf 131072 _ (by decide) | with_reducible refine Agree.of_snd (by assumption) ?_ | with_reducible refine Agree.of_fst (by assumption) ?_ | split | dsimp only | (intro t ht; with_reducible assumption) | intro)

theorem agree_quietEntry {μ : Nat} {σ : State} (hK : 131076 ||| μ = μ) (k : Nat) (s : State) (hA : Agree μ σ s) : Agree μ σ (quietEntry k s) := by
  refine Agree.step (k := 131076) ?_ hK hA
  clear hA hK
  unfold quietEntry
  repeat' (first | (intro x; first | (refine (fun (hx : Agree 131076 s x) => ?_) ?_; clear_value x; rotate_left; subst x) | subst x) | lift_lets -underBinder | with_reducible exact Agree.refl _ _ | with_reducible assumption | with_reducible apply @agree_mdStr 131076 _ (by decide) | with_reducible apply @agree_mdStrC 131076 _ (by decide) | with_reducible refine Agree.of_snd (by assumption) ?_ | with_reducible refine Agree.of_fst (by assumption) ?_ | split | dsimp only | (intro t ht; with_reducible assumption) | intro)

theorem agree_removal {μ : Nat} {σ : State} (hK : 147716 ||| μ = μ) (k : Nat) (s : State) (hA : Agree μ σ s) : Agree μ σ (removal k s) := by
  refine Agree.step (k := 147716) ?_ hK hA
  clear hA hK
  unfold removal
  repeat' (first | (intro x; first | (refine (fun (hx : Agree 147716 s x) => ?_) ?_; clear_value x; rotate_left; subst x) | subst x) | lift_lets -underBinder | with_reducible exact Agree.refl _ _ | with_reducible assumption | with_reducible apply @agree_setEvt 147716 _ (by decide) | with_reducible apply @agree_abortIf 147716 _ (by decide) | with_reducible apply @agree_mdStr 147716 _ (by decide) | with_reducible apply @agree_strCount 147716 _ (by decide) | with_reducible refine Agree.of_snd (by assumption) ?_ | with_reducible refine Agree.of_fst (by assumption) ?_ | split | dsimp only | (intro t ht; with_reducible assumption) | intro)

theorem agree_sampleStr {μ : Nat} {σ : State} (hK : 155909 ||| μ = μ) (codes : List (Nat × Nat × Nat)) (k : Nat) (s : State) (hA : Agree μ σ s) : Agree μ σ (sampleStr codes k s) := by
  refine Agree.step (k := 155909) ?_ hK hA
  clear hA hK
  unfold sampleStr
  repeat' (first | (intro x; first | (refine (fun (hx : Agree 155909 s x) => ?_) ?_; clear_value x; rotate_left; subst x) | subst x) | lift_lets -underBinder | with_reducible exact Agree.refl _ _ | with_reducible assumption | with_reducible apply @agree_tick 155909 _ (by decide) | with_reducible apply @agree_unraise 155909 _ (by decide) | with_reducible apply @agree_follow 155909 _ (by decide) | with_reducible apply @agree_mdStr 155909 _ (by decide) | with_reducible apply @agree_mdStrC 155909 _ (by decide) | with_reducible apply @agree_gapRule 155909 _ (by decide) | with_reducible apply @agree_reportSoc 155909 _ (by decide) | with_reducible apply @agree_integrate 155909 _ (by decide) | with_reducible refine Agree.of_snd (by assumption) ?_ | with_reducible refine Agree.of_fst (by assumption) ?_ | split | dsimp only | (intro t ht; with_reducible assumption) | intro)

theorem agree_sampleStrobe {μ : Nat} {σ : State} (hK : 155909 ||| μ = μ) (volts : List (Int × Int × Int)) (s : State) (hA : Agree μ σ s) : Agree μ σ (sampleStrobe volts s) := by
  refine Agree.step (k := 155909) ?_ hK hA
  clear hA hK
  unfold sampleStrobe
  repeat' (first | (intro x; first | (refine (fun (hx : Agree 155909 s x) => ?_) ?_; clear_value x; rotate_left; subst x) | subst x) | lift_lets -underBinder | with_reducible exact Agree.refl _ _ | with_reducible assumption | ((conv => (arg 3; arg 27; skip)); with_reducible refine Agree.upd_nrg _ (by decide) ?_) | with_reducible refine Agree.forN ?_ ?_ | with_reducible apply @agree_sampleStr 155909 _ (by decide) | with_reducible refine Agree.of_snd (by assumption) ?_ | with_reducible refine Agree.of_fst (by assumption) ?_ | split | dsimp only | (intro t ht; with_reducible assumption) | intro)

theorem agree_senseFault {μ : Nat} {σ : State} (hK : 155908 ||| μ = μ) (k : Nat) (s : State) (hA : Agree μ σ s) : Agree μ σ (senseFault k s) := by
  refine Agree.step (k := 155908) ?_ hK hA
  clear hA hK
  unfold senseFault
  repeat' (first | (intro x; first | (refine (fun (hx : Agree 155908 s x) => ?_) ?_; clear_value x; rotate_left; subst x) | subst x) | lift_lets -underBinder | with_reducible exact Agree.refl _ _ | with_reducible assumption | with_reducible apply @agree_abortIf 155908 _ (by decide) | with_reducible apply @agree_raise 155908 _ (by decide) | with_reducible apply @agree_mdStr 155908 _ (by decide) | with_reducible apply @agree_strCount 155908 _ (by decide) | with_reducible apply @agree_mdStrC 155908 _ (by decide) | with_reducible refine Agree.of_snd (by assumption) ?_ | with_reducible refine Agree.of_fst (by assumption) ?_ | split | dsimp only | (intro t ht; with_reducible assumption) | intro)

end State
end Sys2Proof.Machine
end

