-- ==== Sys2Proof/Laws/AgreeLink.lean ====
section
/-! SUPPORT. The fields of State that each function of Machine/Link.lean can change. -/
set_option Elab.async false

set_option linter.unusedTactic false
set_option linter.unreachableTactic false

namespace Sys2Proof.Machine
namespace State

theorem agree_mdLk {μ : Nat} {σ : State} (hK : 262144 ||| μ = μ) (p : Nat) (f : Link → Link) (s : State) (hA : Agree μ σ s) : Agree μ σ (mdLk p f s) := by
  refine Agree.step (k := 262144) ?_ hK hA
  clear hA hK
  unfold mdLk
  repeat' (first | (intro x; first | (refine (fun (hx : Agree 262144 s x) => ?_) ?_; clear_value x; rotate_left; subst x) | subst x) | lift_lets -underBinder | with_reducible exact Agree.refl _ _ | with_reducible assumption | ((conv => (arg 3; arg 27; skip)); with_reducible refine Agree.upd_links _ (by decide) ?_) | with_reducible refine Agree.of_snd (by assumption) ?_ | with_reducible refine Agree.of_fst (by assumption) ?_ | split | dsimp only | (intro t ht; with_reducible assumption) | intro)

theorem agree_sendFreeze {μ : Nat} {σ : State} (hK : 262144 ||| μ = μ) (serial : Nat) (test : Bool) (s : State) (hA : Agree μ σ s) : Agree μ σ (sendFreeze serial test s) := by
  refine Agree.step (k := 262144) ?_ hK hA
  clear hA hK
  unfold sendFreeze
  repeat' (first | (intro x; first | (refine (fun (hx : Agree 262144 s x) => ?_) ?_; clear_value x; rotate_left; subst x) | subst x) | lift_lets -underBinder | with_reducible exact Agree.refl _ _ | with_reducible assumption | with_reducible refine Agree.forN ?_ ?_ | with_reducible apply @agree_mdLk 262144 _ (by decide) | with_reducible refine Agree.of_snd (by assumption) ?_ | with_reducible refine Agree.of_fst (by assumption) ?_ | split | dsimp only | (intro t ht; with_reducible assumption) | intro)

theorem agree_countBytes {μ : Nat} {σ : State} (hK : 262144 ||| μ = μ) (p : Nat) (words : Nat) (again : Bool) (s : State) (hA : Agree μ σ s) : Agree μ σ (countBytes p words again s) := by
  refine Agree.step (k := 262144) ?_ hK hA
  clear hA hK
  unfold countBytes
  repeat' (first | (intro x; first | (refine (fun (hx : Agree 262144 s x) => ?_) ?_; clear_value x; rotate_left; subst x) | subst x) | lift_lets -underBinder | with_reducible exact Agree.refl _ _ | with_reducible assumption | with_reducible apply @agree_mdLk 262144 _ (by decide) | with_reducible refine Agree.of_snd (by assumption) ?_ | with_reducible refine Agree.of_fst (by assumption) ?_ | split | dsimp only | (intro t ht; with_reducible assumption) | intro)

theorem agree_portFill {μ : Nat} {σ : State} (hK : 262144 ||| μ = μ) (p : Nat) (s : State) (hA : Agree μ σ s) : Agree μ σ (portFill p s) := by
  refine Agree.step (k := 262144) ?_ hK hA
  clear hA hK
  unfold portFill
  repeat' (first | (intro x; first | (refine (fun (hx : Agree 262144 s x) => ?_) ?_; clear_value x; rotate_left; subst x) | subst x) | lift_lets -underBinder | with_reducible exact Agree.refl _ _ | with_reducible assumption | with_reducible refine Agree.forL ?_ ?_ | with_reducible apply @agree_mdLk 262144 _ (by decide) | with_reducible apply @agree_countBytes 262144 _ (by decide) | with_reducible refine Agree.of_snd (by assumption) ?_ | with_reducible refine Agree.of_fst (by assumption) ?_ | split | dsimp only | (intro t ht; with_reducible assumption) | intro)

theorem agree_send {μ : Nat} {σ : State} (hK : 262144 ||| μ = μ) (p : Nat) (m : HclOut) (s : State) (hA : Agree μ σ s) : Agree μ σ (send p m s) := by
  refine Agree.step (k := 262144) ?_ hK hA
  clear hA hK
  unfold send
  repeat' (first | (intro x; first | (refine (fun (hx : Agree 262144 s x) => ?_) ?_; clear_value x; rotate_left; subst x) | subst x) | lift_lets -underBinder | with_reducible exact Agree.refl _ _ | with_reducible assumption | with_reducible apply @agree_mdLk 262144 _ (by decide) | with_reducible apply @agree_portFill 262144 _ (by decide) | with_reducible refine Agree.of_snd (by assumption) ?_ | with_reducible refine Agree.of_fst (by assumption) ?_ | split | dsimp only | (intro t ht; with_reducible assumption) | intro)

theorem agree_linkLost {μ : Nat} {σ : State} (hK : 8192 ||| μ = μ) (p : Nat) (s : State) (hA : Agree μ σ s) : Agree μ σ (linkLost p s) := by
  refine Agree.step (k := 8192) ?_ hK hA
  clear hA hK
  unfold linkLost
  repeat' (first | (intro x; first | (refine (fun (hx : Agree 8192 s x) => ?_) ?_; clear_value x; rotate_left; subst x) | subst x) | lift_lets -underBinder | with_reducible exact Agree.refl _ _ | with_reducible assumption | with_reducible apply @agree_follow 8192 _ (by decide) | with_reducible refine Agree.of_snd (by assumption) ?_ | with_reducible refine Agree.of_fst (by assumption) ?_ | split | dsimp only | (intro t ht; with_reducible assumption) | intro)

theorem agree_toDown {μ : Nat} {σ : State} (hK : 270336 ||| μ = μ) (p : Nat) (byQuiet : Bool) (s : State) (hA : Agree μ σ s) : Agree μ σ (toDown p byQuiet s) := by
  refine Agree.step (k := 270336) ?_ hK hA
  clear hA hK
  unfold toDown
  repeat' (first | (intro x; first | (refine (fun (hx : Agree 270336 s x) => ?_) ?_; clear_value x; rotate_left; subst x) | subst x) | lift_lets -underBinder | with_reducible exact Agree.refl _ _ | with_reducible assumption | with_reducible apply @agree_mdLk 270336 _ (by decide) | with_reducible apply @agree_linkLost 270336 _ (by decide) | with_reducible refine Agree.of_snd (by assumption) ?_ | with_reducible refine Agree.of_fst (by assumption) ?_ | split | dsimp only | (intro t ht; with_reducible assumption) | intro)

theorem agree_blockErr {μ : Nat} {σ : State} (hK : 262144 ||| μ = μ) (p : Nat) (s : State) (hA : Agree μ σ s) : Agree μ σ (blockErr p s) := by
  refine Agree.step (k := 262144) ?_ hK hA
  clear hA hK
  unfold blockErr
  repeat' (first | (intro x; first | (refine (fun (hx : Agree 262144 s x) => ?_) ?_; clear_value x; rotate_left; subst x) | subst x) | lift_lets -underBinder | with_reducible exact Agree.refl _ _ | with_reducible assumption | with_reducible apply @agree_mdLk 262144 _ (by decide) | with_reducible refine Agree.of_snd (by assumption) ?_ | with_reducible refine Agree.of_fst (by assumption) ?_ | split | dsimp only | (intro t ht; with_reducible assumption) | intro)

theorem agree_blockLock {μ : Nat} {σ : State} (hK : 262144 ||| μ = μ) (p : Nat) (lanes : Nat) (s : State) (hA : Agree μ σ s) : Agree μ σ (blockLock p lanes s) := by
  refine Agree.step (k := 262144) ?_ hK hA
  clear hA hK
  unfold blockLock
  repeat' (first | (intro x; first | (refine (fun (hx : Agree 262144 s x) => ?_) ?_; clear_value x; rotate_left; subst x) | subst x) | lift_lets -underBinder | with_reducible exact Agree.refl _ _ | with_reducible assumption | with_reducible apply @agree_mdLk 262144 _ (by decide) | with_reducible refine Agree.of_snd (by assumption) ?_ | with_reducible refine Agree.of_fst (by assumption) ?_ | split | dsimp only | (intro t ht; with_reducible assumption) | intro)

theorem agree_portErr {μ : Nat} {σ : State} (hK : 270336 ||| μ = μ) (p : Nat) (bit : Nat) (s : State) (hA : Agree μ σ s) : Agree μ σ (portErr p bit s) := by
  refine Agree.step (k := 270336) ?_ hK hA
  clear hA hK
  unfold portErr
  repeat' (first | (intro x; first | (refine (fun (hx : Agree 270336 s x) => ?_) ?_; clear_value x; rotate_left; subst x) | subst x) | lift_lets -underBinder | with_reducible exact Agree.refl _ _ | with_reducible assumption | with_reducible apply @agree_mdLk 270336 _ (by decide) | with_reducible apply @agree_raiseTurn 270336 _ (by decide) | with_reducible refine Agree.of_snd (by assumption) ?_ | with_reducible refine Agree.of_fst (by assumption) ?_ | split | dsimp only | (intro t ht; with_reducible assumption) | intro)

theorem agree_sendNow {μ : Nat} {σ : State} (hK : 262144 ||| μ = μ) (p : Nat) (m : HclOut) (s : State) (hA : Agree μ σ s) : Agree μ σ (sendNow p m s) := by
  refine Agree.step (k := 262144) ?_ hK hA
  clear hA hK
  unfold sendNow
  repeat' (first | (intro x; first | (refine (fun (hx : Agree 262144 s x) => ?_) ?_; clear_value x; rotate_left; subst x) | subst x) | lift_lets -underBinder | with_reducible exact Agree.refl _ _ | with_reducible assumption | with_reducible apply @agree_mdLk 262144 _ (by decide) | with_reducible apply @agree_portFill 262144 _ (by decide) | with_reducible refine Agree.of_snd (by assumption) ?_ | with_reducible refine Agree.of_fst (by assumption) ?_ | split | dsimp only | (intro t ht; with_reducible assumption) | intro)

theorem agree_toRecover {μ : Nat} {σ : State} (hK : 270336 ||| μ = μ) (p : Nat) (s : State) (hA : Agree μ σ s) : Agree μ σ (toRecover p s) := by
  refine Agree.step (k := 270336) ?_ hK hA
  clear hA hK
  unfold toRecover
  repeat' (first | (intro x; first | (refine (fun (hx : Agree 270336 s x) => ?_) ?_; clear_value x; rotate_left; subst x) | subst x) | lift_lets -underBinder | with_reducible exact Agree.refl _ _ | with_reducible assumption | with_reducible apply @agree_mdLk 270336 _ (by decide) | with_reducible apply @agree_linkLost 270336 _ (by decide) | with_reducible refine Agree.of_snd (by assumption) ?_ | with_reducible refine Agree.of_fst (by assumption) ?_ | split | dsimp only | (intro t ht; with_reducible assumption) | intro)

theorem agree_protoErr {μ : Nat} {σ : State} (hK : 270336 ||| μ = μ) (p : Nat) (sq : Nat) (s : State) (hA : Agree μ σ s) : Agree μ σ (protoErr p sq s) := by
  refine Agree.step (k := 270336) ?_ hK hA
  clear hA hK
  unfold protoErr
  repeat' (first | (intro x; first | (refine (fun (hx : Agree 270336 s x) => ?_) ?_; clear_value x; rotate_left; subst x) | subst x) | lift_lets -underBinder | with_reducible exact Agree.refl _ _ | with_reducible assumption | with_reducible apply @agree_mdLk 270336 _ (by decide) | with_reducible apply @agree_portErr 270336 _ (by decide) | with_reducible apply @agree_sendNow 270336 _ (by decide) | with_reducible apply @agree_toRecover 270336 _ (by decide) | with_reducible refine Agree.of_snd (by assumption) ?_ | with_reducible refine Agree.of_fst (by assumption) ?_ | split | dsimp only | (intro t ht; with_reducible assumption) | intro)

theorem agree_newAttempt {μ : Nat} {σ : State} (hK : 262144 ||| μ = μ) (p : Nat) (s : State) (hA : Agree μ σ s) : Agree μ σ (newAttempt p s) := by
  refine Agree.step (k := 262144) ?_ hK hA
  clear hA hK
  unfold newAttempt
  repeat' (first | (intro x; first | (refine (fun (hx : Agree 262144 s x) => ?_) ?_; clear_value x; rotate_left; subst x) | subst x) | lift_lets -underBinder | with_reducible exact Agree.refl _ _ | with_reducible assumption | with_reducible apply @agree_mdLk 262144 _ (by decide) | with_reducible refine Agree.of_snd (by assumption) ?_ | with_reducible refine Agree.of_fst (by assumption) ?_ | split | dsimp only | (intro t ht; with_reducible assumption) | intro)

theorem agree_failedRetry {μ : Nat} {σ : State} (hK : 262144 ||| μ = μ) (p : Nat) (s : State) (hA : Agree μ σ s) : Agree μ σ (failedRetry p s) := by
  refine Agree.step (k := 262144) ?_ hK hA
  clear hA hK
  unfold failedRetry
  repeat' (first | (intro x; first | (refine (fun (hx : Agree 262144 s x) => ?_) ?_; clear_value x; rotate_left; subst x) | subst x) | lift_lets -underBinder | with_reducible exact Agree.refl _ _ | with_reducible assumption | with_reducible apply @agree_newAttempt 262144 _ (by decide) | with_reducible refine Agree.of_snd (by assumption) ?_ | with_reducible refine Agree.of_fst (by assumption) ?_ | split | dsimp only | (intro t ht; with_reducible assumption) | intro)

theorem agree_hclError {μ : Nat} {σ : State} (hK : 270336 ||| μ = μ) (p : Nat) (sq : Nat) (code : Nat) (s : State) (hA : Agree μ σ s) : Agree μ σ (hclError p sq code s) := by
  refine Agree.step (k := 270336) ?_ hK hA
  clear hA hK
  unfold hclError
  repeat' (first | (intro x; first | (refine (fun (hx : Agree 270336 s x) => ?_) ?_; clear_value x; rotate_left; subst x) | subst x) | lift_lets -underBinder | with_reducible exact Agree.refl _ _ | with_reducible assumption | with_reducible apply @agree_portErr 270336 _ (by decide) | with_reducible apply @agree_protoErr 270336 _ (by decide) | with_reducible refine Agree.of_snd (by assumption) ?_ | with_reducible refine Agree.of_fst (by assumption) ?_ | split | dsimp only | (intro t ht; with_reducible assumption) | intro)

theorem agree_takeIdent {μ : Nat} {σ : State} (hK : 262144 ||| μ = μ) (p : Nat) (m : IdentMsg) (s : State) (hA : Agree μ σ s) : Agree μ σ (takeIdent p m s) := by
  refine Agree.step (k := 262144) ?_ hK hA
  clear hA hK
  unfold takeIdent
  repeat' (first | (intro x; first | (refine (fun (hx : Agree 262144 s x) => ?_) ?_; clear_value x; rotate_left; subst x) | subst x) | lift_lets -underBinder | with_reducible exact Agree.refl _ _ | with_reducible assumption | with_reducible apply @agree_mdLk 262144 _ (by decide) | with_reducible refine Agree.of_snd (by assumption) ?_ | with_reducible refine Agree.of_fst (by assumption) ?_ | split | dsimp only | (intro t ht; with_reducible assumption) | intro)

theorem agree_identRx {μ : Nat} {σ : State} (hK : 270336 ||| μ = μ) (p : Nat) (m : IdentMsg) (s : State) (hA : Agree μ σ s) : Agree μ σ (identRx p m s) := by
  refine Agree.step (k := 270336) ?_ hK hA
  clear hA hK
  unfold identRx
  repeat' (first | (intro x; first | (refine (fun (hx : Agree 270336 s x) => ?_) ?_; clear_value x; rotate_left; subst x) | subst x) | lift_lets -underBinder | with_reducible exact Agree.refl _ _ | with_reducible assumption | with_reducible apply @agree_mdLk 270336 _ (by decide) | with_reducible apply @agree_portFill 270336 _ (by decide) | with_reducible apply @agree_linkLost 270336 _ (by decide) | with_reducible apply @agree_portErr 270336 _ (by decide) | with_reducible apply @agree_toRecover 270336 _ (by decide) | with_reducible apply @agree_takeIdent 270336 _ (by decide) | with_reducible refine Agree.of_snd (by assumption) ?_ | with_reducible refine Agree.of_fst (by assumption) ?_ | split | dsimp only | (intro t ht; with_reducible assumption) | intro)

theorem agree_rxHdr {μ : Nat} {σ : State} (hK : 270336 ||| μ = μ) (p : Nat) (h : Hdr) (s : State) (hA : Agree μ σ s) : Agree μ σ (rxHdr p h s).2 := by
  refine Agree.step (k := 270336) ?_ hK hA
  clear hA hK
  unfold rxHdr
  repeat' (first | (intro x; first | (refine (fun (hx : Agree 270336 s x) => ?_) ?_; clear_value x; rotate_left; subst x) | subst x) | lift_lets -underBinder | with_reducible exact Agree.refl _ _ | with_reducible assumption | with_reducible apply @agree_mdLk 270336 _ (by decide) | with_reducible apply @agree_portFill 270336 _ (by decide) | with_reducible apply @agree_protoErr 270336 _ (by decide) | with_reducible refine Agree.of_snd (by assumption) ?_ | with_reducible refine Agree.of_fst (by assumption) ?_ | split | dsimp only | (intro t ht; with_reducible assumption) | intro)

theorem agree_receive {μ : Nat} {σ : State} (hK : 270336 ||| μ = μ) (p : Nat) (h : Hdr) (f : State → State) (s : State) (hf : ∀ t, Agree μ σ t → Agree μ σ (f t)) (hA : Agree μ σ s) : Agree μ σ (receive p h f s) := by
  unfold receive
  repeat' (first | (intro x; first | (refine (fun (hx : Agree μ σ x) => ?_) ?_; clear_value x; rotate_left; subst x) | subst x) | lift_lets -underBinder | with_reducible exact Agree.refl _ _ | with_reducible assumption | with_reducible apply hf | with_reducible apply @agree_rxHdr μ _ (Agree.sub_of hK (by decide)) | with_reducible refine Agree.of_snd (by assumption) ?_ | with_reducible refine Agree.of_fst (by assumption) ?_ | split | dsimp only | (intro t ht; with_reducible assumption) | intro)

theorem agree_laneLockLost {μ : Nat} {σ : State} (hK : 270336 ||| μ = μ) (p : Nat) (lane : Nat) (s : State) (hA : Agree μ σ s) : Agree μ σ (laneLockLost p lane s) := by
  refine Agree.step (k := 270336) ?_ hK hA
  clear hA hK
  unfold laneLockLost
  repeat' (first | (intro x; first | (refine (fun (hx : Agree 270336 s x) => ?_) ?_; clear_value x; rotate_left; subst x) | subst x) | lift_lets -underBinder | with_reducible exact Agree.refl _ _ | with_reducible assumption | with_reducible apply @agree_portErr 270336 _ (by decide) | with_reducible apply @agree_toRecover 270336 _ (by decide) | with_reducible apply @agree_newAttempt 270336 _ (by decide) | with_reducible refine Agree.of_snd (by assumption) ?_ | with_reducible refine Agree.of_fst (by assumption) ?_ | split | dsimp only | (intro t ht; with_reducible assumption) | intro)

theorem agree_linkTurn {μ : Nat} {σ : State} (hK : 262144 ||| μ = μ) (p : Nat) (s : State) (hA : Agree μ σ s) : Agree μ σ (linkTurn p s) := by
  refine Agree.step (k := 262144) ?_ hK hA
  clear hA hK
  unfold linkTurn
  repeat' (first | (intro x; first | (refine (fun (hx : Agree 262144 s x) => ?_) ?_; clear_value x; rotate_left; subst x) | subst x) | lift_lets -underBinder | with_reducible exact Agree.refl _ _ | with_reducible assumption | with_reducible refine Agree.foldl ?_ ?_ | with_reducible refine Agree.foldl_snd ?_ ?_ | with_reducible refine Agree.foldl_fst ?_ ?_ | with_reducible refine Agree.foldl_thd ?_ ?_ | with_reducible apply @agree_mdLk 262144 _ (by decide) | with_reducible refine Agree.of_snd (by assumption) ?_ | with_reducible refine Agree.of_fst (by assumption) ?_ | split | dsimp only | (intro t ht; with_reducible assumption) | intro)

theorem agree_replay {μ : Nat} {σ : State} (hK : 262144 ||| μ = μ) (p : Nat) (s : State) (hA : Agree μ σ s) : Agree μ σ (replay p s) := by
  refine Agree.step (k := 262144) ?_ hK hA
  clear hA hK
  unfold replay
  repeat' (first | (intro x; first | (refine (fun (hx : Agree 262144 s x) => ?_) ?_; clear_value x; rotate_left; subst x) | subst x) | lift_lets -underBinder | with_reducible exact Agree.refl _ _ | with_reducible assumption | with_reducible refine Agree.forL ?_ ?_ | with_reducible apply @agree_countBytes 262144 _ (by decide) | with_reducible refine Agree.of_snd (by assumption) ?_ | with_reducible refine Agree.of_fst (by assumption) ?_ | split | dsimp only | (intro t ht; with_reducible assumption) | intro)

theorem agree_nakRx {μ : Nat} {σ : State} (hK : 270336 ||| μ = μ) (p : Nat) (e : Nat) (s : State) (hA : Agree μ σ s) : Agree μ σ (nakRx p e s) := by
  refine Agree.step (k := 270336) ?_ hK hA
  clear hA hK
  unfold nakRx
  repeat' (first | (intro x; first | (refine (fun (hx : Agree 270336 s x) => ?_) ?_; clear_value x; rotate_left; subst x) | subst x) | lift_lets -underBinder | with_reducible exact Agree.refl _ _ | with_reducible assumption | with_reducible apply @agree_mdLk 270336 _ (by decide) | with_reducible apply @agree_portFill 270336 _ (by decide) | with_reducible apply @agree_portErr 270336 _ (by decide) | with_reducible apply @agree_toRecover 270336 _ (by decide) | with_reducible apply @agree_replay 270336 _ (by decide) | with_reducible refine Agree.of_snd (by assumption) ?_ | with_reducible refine Agree.of_fst (by assumption) ?_ | split | dsimp only | (intro t ht; with_reducible assumption) | intro)

theorem agree_portAck {μ : Nat} {σ : State} (hK : 270336 ||| μ = μ) (p : Nat) (h : Hdr) (s : State) (hA : Agree μ σ s) : Agree μ σ (portAck p h s) := by
  refine Agree.step (k := 270336) ?_ hK hA
  clear hA hK
  unfold portAck
  repeat' (first | (intro x; first | (refine (fun (hx : Agree 270336 s x) => ?_) ?_; clear_value x; rotate_left; subst x) | subst x) | lift_lets -underBinder | with_reducible exact Agree.refl _ _ | with_reducible assumption | with_reducible apply @agree_mdLk 270336 _ (by decide) | with_reducible apply @agree_portFill 270336 _ (by decide) | with_reducible apply @agree_protoErr 270336 _ (by decide) | with_reducible refine Agree.of_snd (by assumption) ?_ | with_reducible refine Agree.of_fst (by assumption) ?_ | split | dsimp only | (intro t ht; with_reducible assumption) | intro)

theorem agree_portNak {μ : Nat} {σ : State} (hK : 270336 ||| μ = μ) (p : Nat) (w : NakWhy) (s : State) (hA : Agree μ σ s) : Agree μ σ (portNak p w s) := by
  refine Agree.step (k := 270336) ?_ hK hA
  clear hA hK
  unfold portNak
  repeat' (first | (intro x; first | (refine (fun (hx : Agree 270336 s x) => ?_) ?_; clear_value x; rotate_left; subst x) | subst x) | lift_lets -underBinder | with_reducible exact Agree.refl _ _ | with_reducible assumption | with_reducible apply @agree_mdLk 270336 _ (by decide) | with_reducible apply @agree_blockErr 270336 _ (by decide) | with_reducible apply @agree_nakRx 270336 _ (by decide) | with_reducible apply @agree_portAck 270336 _ (by decide) | with_reducible refine Agree.of_snd (by assumption) ?_ | with_reducible refine Agree.of_fst (by assumption) ?_ | split | dsimp only | (intro t ht; with_reducible assumption) | intro)

theorem agree_portReplay {μ : Nat} {σ : State} (hK : 270336 ||| μ = μ) (p : Nat) (s : State) (hA : Agree μ σ s) : Agree μ σ (portReplay p s) := by
  refine Agree.step (k := 270336) ?_ hK hA
  clear hA hK
  unfold portReplay
  repeat' (first | (intro x; first | (refine (fun (hx : Agree 270336 s x) => ?_) ?_; clear_value x; rotate_left; subst x) | subst x) | lift_lets -underBinder | with_reducible exact Agree.refl _ _ | with_reducible assumption | with_reducible apply @agree_mdLk 270336 _ (by decide) | with_reducible apply @agree_portErr 270336 _ (by decide) | with_reducible apply @agree_toRecover 270336 _ (by decide) | with_reducible apply @agree_replay 270336 _ (by decide) | with_reducible refine Agree.of_snd (by assumption) ?_ | with_reducible refine Agree.of_fst (by assumption) ?_ | split | dsimp only | (intro t ht; with_reducible assumption) | intro)

theorem agree_signalDetect {μ : Nat} {σ : State} (hK : 262144 ||| μ = μ) (p : Nat) (s : State) (hA : Agree μ σ s) : Agree μ σ (signalDetect p s) := by
  refine Agree.step (k := 262144) ?_ hK hA
  clear hA hK
  unfold signalDetect
  repeat' (first | (intro x; first | (refine (fun (hx : Agree 262144 s x) => ?_) ?_; clear_value x; rotate_left; subst x) | subst x) | lift_lets -underBinder | with_reducible exact Agree.refl _ _ | with_reducible assumption | with_reducible apply @agree_newAttempt 262144 _ (by decide) | with_reducible refine Agree.of_snd (by assumption) ?_ | with_reducible refine Agree.of_fst (by assumption) ?_ | split | dsimp only | (intro t ht; with_reducible assumption) | intro)

theorem agree_train1 {μ : Nat} {σ : State} (hK : 262144 ||| μ = μ) (p : Nat) (lane : Nat) (laneNo : Nat) (coef : Nat) (sq : Nat) (s : State) (hA : Agree μ σ s) : Agree μ σ (train1 p lane laneNo coef sq s) := by
  refine Agree.step (k := 262144) ?_ hK hA
  clear hA hK
  unfold train1
  repeat' (first | (intro x; first | (refine (fun (hx : Agree 262144 s x) => ?_) ?_; clear_value x; rotate_left; subst x) | subst x) | lift_lets -underBinder | with_reducible exact Agree.refl _ _ | with_reducible assumption | with_reducible apply @agree_mdLk 262144 _ (by decide) | with_reducible apply @agree_newAttempt 262144 _ (by decide) | with_reducible refine Agree.of_snd (by assumption) ?_ | with_reducible refine Agree.of_fst (by assumption) ?_ | split | dsimp only | (intro t ht; with_reducible assumption) | intro)

theorem agree_train2 {μ : Nat} {σ : State} (hK : 262144 ||| μ = μ) (p : Nat) (width : Nat) (s : State) (hA : Agree μ σ s) : Agree μ σ (train2 p width s) := by
  refine Agree.step (k := 262144) ?_ hK hA
  clear hA hK
  unfold train2
  repeat' (first | (intro x; first | (refine (fun (hx : Agree 262144 s x) => ?_) ?_; clear_value x; rotate_left; subst x) | subst x) | lift_lets -underBinder | with_reducible exact Agree.refl _ _ | with_reducible assumption | with_reducible apply @agree_mdLk 262144 _ (by decide) | with_reducible apply @agree_sendNow 262144 _ (by decide) | with_reducible refine Agree.of_snd (by assumption) ?_ | with_reducible refine Agree.of_fst (by assumption) ?_ | split | dsimp only | (intro t ht; with_reducible assumption) | intro)

theorem agree_trainingTimeout {μ : Nat} {σ : State} (hK : 262144 ||| μ = μ) (p : Nat) (s : State) (hA : Agree μ σ s) : Agree μ σ (trainingTimeout p s) := by
  refine Agree.step (k := 262144) ?_ hK hA
  clear hA hK
  unfold trainingTimeout
  repeat' (first | (intro x; first | (refine (fun (hx : Agree 262144 s x) => ?_) ?_; clear_value x; rotate_left; subst x) | subst x) | lift_lets -underBinder | with_reducible exact Agree.refl _ _ | with_reducible assumption | with_reducible apply @agree_mdLk 262144 _ (by decide) | with_reducible apply @agree_newAttempt 262144 _ (by decide) | with_reducible refine Agree.of_snd (by assumption) ?_ | with_reducible refine Agree.of_fst (by assumption) ?_ | split | dsimp only | (intro t ht; with_reducible assumption) | intro)

end State
end Sys2Proof.Machine
end

