-- ==== Sys2Proof/Laws/AgreeVault.lean ====
section
/-! SUPPORT. The fields of State that each function of Machine/Vault.lean can change. -/
set_option Elab.async false

set_option linter.unusedTactic false
set_option linter.unreachableTactic false

namespace Sys2Proof.Machine
namespace State

theorem agree_cmdEnd {μ : Nat} {σ : State} (hK : 2304 ||| μ = μ) (st : Nat) (s : State) (hA : Agree μ σ s) : Agree μ σ (cmdEnd st s) := by
  refine Agree.step (k := 2304) ?_ hK hA
  clear hA hK
  unfold cmdEnd
  repeat' (first | (intro x; first | (refine (fun (hx : Agree 2304 s x) => ?_) ?_; clear_value x; rotate_left; subst x) | subst x) | lift_lets -underBinder | with_reducible exact Agree.refl _ _ | with_reducible assumption | ((conv => (arg 3; arg 27; skip)); with_reducible refine Agree.upd_cmd _ (by decide) ?_) | with_reducible apply @agree_setEvt 2304 _ (by decide) | with_reducible refine Agree.of_snd (by assumption) ?_ | with_reducible refine Agree.of_fst (by assumption) ?_ | split | dsimp only | (intro t ht; with_reducible assumption) | intro)

theorem agree_mdSled {μ : Nat} {σ : State} (hK : 1048576 ||| μ = μ) (x : Nat) (f : Sled → Sled) (s : State) (hA : Agree μ σ s) : Agree μ σ (mdSled x f s) := by
  refine Agree.step (k := 1048576) ?_ hK hA
  clear hA hK
  unfold mdSled
  repeat' (first | (intro x; first | (refine (fun (hx : Agree 1048576 s x) => ?_) ?_; clear_value x; rotate_left; subst x) | subst x) | lift_lets -underBinder | with_reducible exact Agree.refl _ _ | with_reducible assumption | ((conv => (arg 3; arg 27; skip)); with_reducible refine Agree.upd_vault _ (by decide) ?_) | with_reducible refine Agree.of_snd (by assumption) ?_ | with_reducible refine Agree.of_fst (by assumption) ?_ | split | dsimp only | (intro t ht; with_reducible assumption) | intro)

theorem agree_mdDev {μ : Nat} {σ : State} (hK : 1048576 ||| μ = μ) (x : Nat) (f : SledDev → SledDev) (s : State) (hA : Agree μ σ s) : Agree μ σ (mdDev x f s) := by
  refine Agree.step (k := 1048576) ?_ hK hA
  clear hA hK
  unfold mdDev
  repeat' (first | (intro x; first | (refine (fun (hx : Agree 1048576 s x) => ?_) ?_; clear_value x; rotate_left; subst x) | subst x) | lift_lets -underBinder | with_reducible exact Agree.refl _ _ | with_reducible assumption | with_reducible apply @agree_mdSled 1048576 _ (by decide) | with_reducible refine Agree.of_snd (by assumption) ?_ | with_reducible refine Agree.of_fst (by assumption) ?_ | split | dsimp only | (intro t ht; with_reducible assumption) | intro)

theorem agree_mdVault {μ : Nat} {σ : State} (hK : 1048576 ||| μ = μ) (f : Vault → Vault) (s : State) (hA : Agree μ σ s) : Agree μ σ (mdVault f s) := by
  refine Agree.step (k := 1048576) ?_ hK hA
  clear hA hK
  unfold mdVault
  repeat' (first | (intro x; first | (refine (fun (hx : Agree 1048576 s x) => ?_) ?_; clear_value x; rotate_left; subst x) | subst x) | lift_lets -underBinder | with_reducible exact Agree.refl _ _ | with_reducible assumption | ((conv => (arg 3; arg 27; skip)); with_reducible refine Agree.upd_vault _ (by decide) ?_) | with_reducible refine Agree.of_snd (by assumption) ?_ | with_reducible refine Agree.of_fst (by assumption) ?_ | split | dsimp only | (intro t ht; with_reducible assumption) | intro)

theorem agree_mdRing {μ : Nat} {σ : State} (hK : 1048576 ||| μ = μ) (r : Nat) (f : Ring → Ring) (s : State) (hA : Agree μ σ s) : Agree μ σ (mdRing r f s) := by
  refine Agree.step (k := 1048576) ?_ hK hA
  clear hA hK
  unfold mdRing
  repeat' (first | (intro x; first | (refine (fun (hx : Agree 1048576 s x) => ?_) ?_; clear_value x; rotate_left; subst x) | subst x) | lift_lets -underBinder | with_reducible exact Agree.refl _ _ | with_reducible assumption | ((conv => (arg 3; arg 27; skip)); with_reducible refine Agree.upd_vault _ (by decide) ?_) | with_reducible refine Agree.of_snd (by assumption) ?_ | with_reducible refine Agree.of_fst (by assumption) ?_ | split | dsimp only | (intro t ht; with_reducible assumption) | intro)

theorem agree_postDesc {μ : Nat} {σ : State} (hK : 1048576 ||| μ = μ) (r : Nat) (d : Desc) (s : State) (hA : Agree μ σ s) : Agree μ σ (postDesc r d s) := by
  refine Agree.step (k := 1048576) ?_ hK hA
  clear hA hK
  unfold postDesc
  repeat' (first | (intro x; first | (refine (fun (hx : Agree 1048576 s x) => ?_) ?_; clear_value x; rotate_left; subst x) | subst x) | lift_lets -underBinder | with_reducible exact Agree.refl _ _ | with_reducible assumption | with_reducible apply @agree_mdRing 1048576 _ (by decide) | with_reducible refine Agree.of_snd (by assumption) ?_ | with_reducible refine Agree.of_fst (by assumption) ?_ | split | dsimp only | (intro t ht; with_reducible assumption) | intro)

theorem agree_setCursor {μ : Nat} {σ : State} (hK : 1048576 ||| μ = μ) (r : Nat) (area : Nat) (l : Nat) (s : State) (hA : Agree μ σ s) : Agree μ σ (setCursor r area l s) := by
  refine Agree.step (k := 1048576) ?_ hK hA
  clear hA hK
  unfold setCursor
  repeat' (first | (intro x; first | (refine (fun (hx : Agree 1048576 s x) => ?_) ?_; clear_value x; rotate_left; subst x) | subst x) | lift_lets -underBinder | with_reducible exact Agree.refl _ _ | with_reducible assumption | with_reducible apply @agree_mdRing 1048576 _ (by decide) | with_reducible refine Agree.of_snd (by assumption) ?_ | with_reducible refine Agree.of_fst (by assumption) ?_ | split | dsimp only | (intro t ht; with_reducible assumption) | intro)

theorem agree_pump {μ : Nat} {σ : State} (hK : 1048577 ||| μ = μ) (s : State) (hA : Agree μ σ s) : Agree μ σ (pump s) := by
  refine Agree.step (k := 1048577) ?_ hK hA
  clear hA hK
  unfold pump
  repeat' (first | (intro x; first | (refine (fun (hx : Agree 1048577 s x) => ?_) ?_; clear_value x; rotate_left; subst x) | subst x) | lift_lets -underBinder | with_reducible exact Agree.refl _ _ | with_reducible assumption | with_reducible refine Agree.forL ?_ ?_ | with_reducible apply @agree_mdDev 1048577 _ (by decide) | with_reducible apply @agree_mdVault 1048577 _ (by decide) | with_reducible apply @agree_postDesc 1048577 _ (by decide) | with_reducible apply @agree_setCursor 1048577 _ (by decide) | with_reducible apply @agree_tick 1048577 _ (by decide) | with_reducible refine Agree.of_snd (by assumption) ?_ | with_reducible refine Agree.of_fst (by assumption) ?_ | split | dsimp only | (intro t ht; with_reducible assumption) | intro)

theorem agree_jobEnd {μ : Nat} {σ : State} (hK : 1050880 ||| μ = μ) (st : Nat) (res : Nat) (s : State) (hA : Agree μ σ s) : Agree μ σ (jobEnd st res s) := by
  refine Agree.step (k := 1050880) ?_ hK hA
  clear hA hK
  unfold jobEnd
  repeat' (first | (intro x; first | (refine (fun (hx : Agree 1050880 s x) => ?_) ?_; clear_value x; rotate_left; subst x) | subst x) | lift_lets -underBinder | with_reducible exact Agree.refl _ _ | with_reducible assumption | with_reducible apply @agree_setEvt 1050880 _ (by decide) | with_reducible apply @agree_cmdEnd 1050880 _ (by decide) | with_reducible apply @agree_mdVault 1050880 _ (by decide) | with_reducible refine Agree.of_snd (by assumption) ?_ | with_reducible refine Agree.of_fst (by assumption) ?_ | split | dsimp only | (intro t ht; with_reducible assumption) | intro)

theorem agree_mdStripe {μ : Nat} {σ : State} (hK : 1048576 ||| μ = μ) (area : Nat) (num : Nat) (f : Stripe → Stripe) (s : State) (hA : Agree μ σ s) : Agree μ σ (mdStripe area num f s) := by
  refine Agree.step (k := 1048576) ?_ hK hA
  clear hA hK
  unfold mdStripe
  repeat' (first | (intro x; first | (refine (fun (hx : Agree 1048576 s x) => ?_) ?_; clear_value x; rotate_left; subst x) | subst x) | lift_lets -underBinder | with_reducible exact Agree.refl _ _ | with_reducible assumption | with_reducible apply @agree_mdVault 1048576 _ (by decide) | with_reducible refine Agree.of_snd (by assumption) ?_ | with_reducible refine Agree.of_fst (by assumption) ?_ | split | dsimp only | (intro t ht; with_reducible assumption) | intro)

theorem agree_openStripe {μ : Nat} {σ : State} (hK : 1048576 ||| μ = μ) (area : Nat) (reloc : Bool) (s : State) (hA : Agree μ σ s) : Agree μ σ (openStripe area reloc s).2 := by
  refine Agree.step (k := 1048576) ?_ hK hA
  clear hA hK
  unfold openStripe
  repeat' (first | (intro x; first | (refine (fun (hx : Agree 1048576 s x) => ?_) ?_; clear_value x; rotate_left; subst x) | subst x) | lift_lets -underBinder | with_reducible exact Agree.refl _ _ | with_reducible assumption | with_reducible refine Agree.foldl ?_ ?_ | with_reducible refine Agree.foldl_snd ?_ ?_ | with_reducible refine Agree.foldl_fst ?_ ?_ | with_reducible refine Agree.foldl_thd ?_ ?_ | with_reducible apply @agree_mdVault 1048576 _ (by decide) | with_reducible refine Agree.of_snd (by assumption) ?_ | with_reducible refine Agree.of_fst (by assumption) ?_ | split | dsimp only | (intro t ht; with_reducible assumption) | intro)

theorem agree_queueUnit {μ : Nat} {σ : State} (hK : 1048576 ||| μ = μ) (j : UnitJob) (s : State) (hA : Agree μ σ s) : Agree μ σ (queueUnit j s) := by
  refine Agree.step (k := 1048576) ?_ hK hA
  clear hA hK
  unfold queueUnit
  repeat' (first | (intro x; first | (refine (fun (hx : Agree 1048576 s x) => ?_) ?_; clear_value x; rotate_left; subst x) | subst x) | lift_lets -underBinder | with_reducible exact Agree.refl _ _ | with_reducible assumption | with_reducible apply @agree_mdVault 1048576 _ (by decide) | with_reducible refine Agree.of_snd (by assumption) ?_ | with_reducible refine Agree.of_fst (by assumption) ?_ | split | dsimp only | (intro t ht; with_reducible assumption) | intro)

theorem agree_takeSeq {μ : Nat} {σ : State} (hK : 3145728 ||| μ = μ) (area : Nat) (s : State) (hA : Agree μ σ s) : Agree μ σ (takeSeq area s).2 := by
  refine Agree.step (k := 3145728) ?_ hK hA
  clear hA hK
  unfold takeSeq
  repeat' (first | (intro x; first | (refine (fun (hx : Agree 3145728 s x) => ?_) ?_; clear_value x; rotate_left; subst x) | subst x) | lift_lets -underBinder | with_reducible exact Agree.refl _ _ | with_reducible assumption | ((conv => (arg 3; arg 27; skip)); with_reducible refine Agree.upd_stage _ (by decide) ?_) | with_reducible apply @agree_mdVault 3145728 _ (by decide) | with_reducible refine Agree.of_snd (by assumption) ?_ | with_reducible refine Agree.of_fst (by assumption) ?_ | split | dsimp only | (intro t ht; with_reducible assumption) | intro)

theorem agree_placeUnit {μ : Nat} {σ : State} (hK : 3145728 ||| μ = μ) (area : Nat) (num : Nat) (g : Nat) (pos : Nat) (cls : Nat) (t0 : UTag) (b : UBody) (s : State) (hA : Agree μ σ s) : Agree μ σ (placeUnit area num g pos cls t0 b s) := by
  refine Agree.step (k := 3145728) ?_ hK hA
  clear hA hK
  unfold placeUnit
  repeat' (first | (intro x; first | (refine (fun (hx : Agree 3145728 s x) => ?_) ?_; clear_value x; rotate_left; subst x) | subst x) | lift_lets -underBinder | with_reducible exact Agree.refl _ _ | with_reducible assumption | with_reducible apply @agree_mdStripe 3145728 _ (by decide) | with_reducible apply @agree_queueUnit 3145728 _ (by decide) | with_reducible apply @agree_takeSeq 3145728 _ (by decide) | with_reducible refine Agree.of_snd (by assumption) ?_ | with_reducible refine Agree.of_fst (by assumption) ?_ | split | dsimp only | (intro t ht; with_reducible assumption) | intro)

theorem agree_addUnit {μ : Nat} {σ : State} (hK : 3145728 ||| μ = μ) (area : Nat) (cls : Nat) (reloc : Bool) (tag : UTag) (b : NBody) (s : State) (hA : Agree μ σ s) : Agree μ σ (addUnit area cls reloc tag b s) := by
  refine Agree.step (k := 3145728) ?_ hK hA
  clear hA hK
  unfold addUnit
  repeat' (first | (intro x; first | (refine (fun (hx : Agree 3145728 s x) => ?_) ?_; clear_value x; rotate_left; subst x) | subst x) | lift_lets -underBinder | with_reducible exact Agree.refl _ _ | with_reducible assumption | with_reducible apply @agree_mdStripe 3145728 _ (by decide) | with_reducible apply @agree_openStripe 3145728 _ (by decide) | with_reducible apply @agree_takeSeq 3145728 _ (by decide) | with_reducible apply @agree_placeUnit 3145728 _ (by decide) | with_reducible refine Agree.of_snd (by assumption) ?_ | with_reducible refine Agree.of_fst (by assumption) ?_ | split | dsimp only | (intro t ht; with_reducible assumption) | intro)

theorem agree_fillStripe {μ : Nat} {σ : State} (hK : 3145728 ||| μ = μ) (area : Nat) (cls : Nat) (reloc : Bool) (s : State) (hA : Agree μ σ s) : Agree μ σ (fillStripe area cls reloc s) := by
  refine Agree.step (k := 3145728) ?_ hK hA
  clear hA hK
  unfold fillStripe
  repeat' (first | (intro x; first | (refine (fun (hx : Agree 3145728 s x) => ?_) ?_; clear_value x; rotate_left; subst x) | subst x) | lift_lets -underBinder | with_reducible exact Agree.refl _ _ | with_reducible assumption | with_reducible refine Agree.iter ?_ ?_ | with_reducible apply @agree_addUnit 3145728 _ (by decide) | with_reducible refine Agree.of_snd (by assumption) ?_ | with_reducible refine Agree.of_fst (by assumption) ?_ | split | dsimp only | (intro t ht; with_reducible assumption) | intro)

theorem agree_catUnit {μ : Nat} {σ : State} (hK : 1048576 ||| μ = μ) (id : Nat) (at_ : Option (Nat × Nat × Nat)) (s : State) (hA : Agree μ σ s) : Agree μ σ (catUnit id at_ s) := by
  refine Agree.step (k := 1048576) ?_ hK hA
  clear hA hK
  unfold catUnit
  repeat' (first | (intro x; first | (refine (fun (hx : Agree 1048576 s x) => ?_) ?_; clear_value x; rotate_left; subst x) | subst x) | lift_lets -underBinder | with_reducible exact Agree.refl _ _ | with_reducible assumption | with_reducible apply @agree_mdVault 1048576 _ (by decide) | with_reducible refine Agree.of_snd (by assumption) ?_ | with_reducible refine Agree.of_fst (by assumption) ?_ | split | dsimp only | (intro t ht; with_reducible assumption) | intro)

theorem agree_stripeUnit {μ : Nat} {σ : State} (hK : 1048576 ||| μ = μ) (area : Nat) (num : Nat) (pos : Nat) (at_ : Option (Nat × Nat)) (s : State) (hA : Agree μ σ s) : Agree μ σ (stripeUnit area num pos at_ s) := by
  refine Agree.step (k := 1048576) ?_ hK hA
  clear hA hK
  unfold stripeUnit
  repeat' (first | (intro x; first | (refine (fun (hx : Agree 1048576 s x) => ?_) ?_; clear_value x; rotate_left; subst x) | subst x) | lift_lets -underBinder | with_reducible exact Agree.refl _ _ | with_reducible assumption | with_reducible apply @agree_mdStripe 1048576 _ (by decide) | with_reducible refine Agree.of_snd (by assumption) ?_ | with_reducible refine Agree.of_fst (by assumption) ?_ | split | dsimp only | (intro t ht; with_reducible assumption) | intro)

theorem agree_sysEnded {μ : Nat} {σ : State} (hK : 1048576 ||| μ = μ) (group : Nat) (s : State) (hA : Agree μ σ s) : Agree μ σ (sysEnded group s) := by
  refine Agree.step (k := 1048576) ?_ hK hA
  clear hA hK
  unfold sysEnded
  repeat' (first | (intro x; first | (refine (fun (hx : Agree 1048576 s x) => ?_) ?_; clear_value x; rotate_left; subst x) | subst x) | lift_lets -underBinder | with_reducible exact Agree.refl _ _ | with_reducible assumption | with_reducible apply @agree_mdVault 1048576 _ (by decide) | with_reducible refine Agree.of_snd (by assumption) ?_ | with_reducible refine Agree.of_fst (by assumption) ?_ | split | dsimp only | (intro t ht; with_reducible assumption) | intro)

theorem agree_reserveUpdate {μ : Nat} {σ : State} (hK : 1048576 ||| μ = μ) (s : State) (hA : Agree μ σ s) : Agree μ σ (reserveUpdate s) := by
  refine Agree.step (k := 1048576) ?_ hK hA
  clear hA hK
  unfold reserveUpdate
  repeat' (first | (intro x; first | (refine (fun (hx : Agree 1048576 s x) => ?_) ?_; clear_value x; rotate_left; subst x) | subst x) | lift_lets -underBinder | with_reducible exact Agree.refl _ _ | with_reducible assumption | with_reducible refine Agree.forN ?_ ?_ | with_reducible apply @agree_mdSled 1048576 _ (by decide) | with_reducible refine Agree.of_snd (by assumption) ?_ | with_reducible refine Agree.of_fst (by assumption) ?_ | split | dsimp only | (intro t ht; with_reducible assumption) | intro)

theorem agree_sysWrite {μ : Nat} {σ : State} (hK : 3145728 ||| μ = μ) (x : Nat) (what : Nat) (b : NBody) (s : State) (hA : Agree μ σ s) : Agree μ σ (sysWrite x what b s) := by
  refine Agree.step (k := 3145728) ?_ hK hA
  clear hA hK
  unfold sysWrite
  repeat' (first | (intro x; first | (refine (fun (hx : Agree 3145728 s x) => ?_) ?_; clear_value x; rotate_left; subst x) | subst x) | lift_lets -underBinder | with_reducible exact Agree.refl _ _ | with_reducible assumption | with_reducible refine Agree.forL ?_ ?_ | with_reducible apply @agree_mdVault 3145728 _ (by decide) | with_reducible apply @agree_queueUnit 3145728 _ (by decide) | with_reducible apply @agree_takeSeq 3145728 _ (by decide) | with_reducible refine Agree.of_snd (by assumption) ?_ | with_reducible refine Agree.of_fst (by assumption) ?_ | split | dsimp only | (intro t ht; with_reducible assumption) | intro)

theorem agree_rewriteDesc {μ : Nat} {σ : State} (hK : 3145728 ||| μ = μ) (x : Nat) (s : State) (hA : Agree μ σ s) : Agree μ σ (rewriteDesc x s) := by
  refine Agree.step (k := 3145728) ?_ hK hA
  clear hA hK
  unfold rewriteDesc
  repeat' (first | (intro x; first | (refine (fun (hx : Agree 3145728 s x) => ?_) ?_; clear_value x; rotate_left; subst x) | subst x) | lift_lets -underBinder | with_reducible exact Agree.refl _ _ | with_reducible assumption | with_reducible apply @agree_mdDev 3145728 _ (by decide) | with_reducible apply @agree_sysWrite 3145728 _ (by decide) | with_reducible refine Agree.of_snd (by assumption) ?_ | with_reducible refine Agree.of_fst (by assumption) ?_ | split | dsimp only | (intro t ht; with_reducible assumption) | intro)

theorem agree_advanceEpoch {μ : Nat} {σ : State} (hK : 3145729 ||| μ = μ) (s : State) (hA : Agree μ σ s) : Agree μ σ (advanceEpoch s) := by
  refine Agree.step (k := 3145729) ?_ hK hA
  clear hA hK
  unfold advanceEpoch
  repeat' (first | (intro x; first | (refine (fun (hx : Agree 3145729 s x) => ?_) ?_; clear_value x; rotate_left; subst x) | subst x) | lift_lets -underBinder | with_reducible exact Agree.refl _ _ | with_reducible assumption | with_reducible refine Agree.forL ?_ ?_ | with_reducible apply @agree_mdVault 3145729 _ (by decide) | with_reducible apply @agree_pump 3145729 _ (by decide) | with_reducible apply @agree_rewriteDesc 3145729 _ (by decide) | with_reducible refine Agree.of_snd (by assumption) ?_ | with_reducible refine Agree.of_fst (by assumption) ?_ | split | dsimp only | (intro t ht; with_reducible assumption) | intro)

theorem agree_openRings {μ : Nat} {σ : State} (hK : 1048576 ||| μ = μ) (x : Nat) (s : State) (hA : Agree μ σ s) : Agree μ σ (openRings x s) := by
  refine Agree.step (k := 1048576) ?_ hK hA
  clear hA hK
  unfold openRings
  repeat' (first | (intro x; first | (refine (fun (hx : Agree 1048576 s x) => ?_) ?_; clear_value x; rotate_left; subst x) | subst x) | lift_lets -underBinder | with_reducible exact Agree.refl _ _ | with_reducible assumption | with_reducible refine Agree.forN ?_ ?_ | with_reducible apply @agree_mdRing 1048576 _ (by decide) | with_reducible refine Agree.of_snd (by assumption) ?_ | with_reducible refine Agree.of_fst (by assumption) ?_ | split | dsimp only | (intro t ht; with_reducible assumption) | intro)

theorem agree_degrade {μ : Nat} {σ : State} (hK : 1048832 ||| μ = μ) (s : State) (hA : Agree μ σ s) : Agree μ σ (degrade s) := by
  refine Agree.step (k := 1048832) ?_ hK hA
  clear hA hK
  unfold degrade
  repeat' (first | (intro x; first | (refine (fun (hx : Agree 1048832 s x) => ?_) ?_; clear_value x; rotate_left; subst x) | subst x) | lift_lets -underBinder | with_reducible exact Agree.refl _ _ | with_reducible assumption | with_reducible apply @agree_setEvt 1048832 _ (by decide) | with_reducible apply @agree_mdVault 1048832 _ (by decide) | with_reducible refine Agree.of_snd (by assumption) ?_ | with_reducible refine Agree.of_fst (by assumption) ?_ | split | dsimp only | (intro t ht; with_reducible assumption) | intro)

theorem agree_eraseAhead {μ : Nat} {σ : State} (hK : 1048576 ||| μ = μ) (x : Nat) (s : State) (hA : Agree μ σ s) : Agree μ σ (eraseAhead x s) := by
  refine Agree.step (k := 1048576) ?_ hK hA
  clear hA hK
  unfold eraseAhead
  repeat' (first | (intro x; first | (refine (fun (hx : Agree 1048576 s x) => ?_) ?_; clear_value x; rotate_left; subst x) | subst x) | lift_lets -underBinder | with_reducible exact Agree.refl _ _ | with_reducible assumption | with_reducible refine Agree.forN ?_ ?_ | with_reducible apply @agree_postDesc 1048576 _ (by decide) | with_reducible refine Agree.of_snd (by assumption) ?_ | with_reducible refine Agree.of_fst (by assumption) ?_ | split | dsimp only | (intro t ht; with_reducible assumption) | intro)

theorem agree_rjobEnd {μ : Nat} {σ : State} (hK : 1050880 ||| μ = μ) (st : Nat) (res : Nat) (s : State) (hA : Agree μ σ s) : Agree μ σ (rjobEnd st res s) := by
  refine Agree.step (k := 1050880) ?_ hK hA
  clear hA hK
  unfold rjobEnd
  repeat' (first | (intro x; first | (refine (fun (hx : Agree 1050880 s x) => ?_) ?_; clear_value x; rotate_left; subst x) | subst x) | lift_lets -underBinder | with_reducible exact Agree.refl _ _ | with_reducible assumption | with_reducible apply @agree_setEvt 1050880 _ (by decide) | with_reducible apply @agree_cmdEnd 1050880 _ (by decide) | with_reducible apply @agree_mdVault 1050880 _ (by decide) | with_reducible refine Agree.of_snd (by assumption) ?_ | with_reducible refine Agree.of_fst (by assumption) ?_ | split | dsimp only | (intro t ht; with_reducible assumption) | intro)

theorem agree_sysGroup {μ : Nat} {σ : State} (hK : 1048576 ||| μ = μ) (s : State) (hA : Agree μ σ s) : Agree μ σ (sysGroup s) := by
  refine Agree.step (k := 1048576) ?_ hK hA
  clear hA hK
  unfold sysGroup
  repeat' (first | (intro x; first | (refine (fun (hx : Agree 1048576 s x) => ?_) ?_; clear_value x; rotate_left; subst x) | subst x) | lift_lets -underBinder | with_reducible exact Agree.refl _ _ | with_reducible assumption | with_reducible apply @agree_mdVault 1048576 _ (by decide) | with_reducible refine Agree.of_snd (by assumption) ?_ | with_reducible refine Agree.of_fst (by assumption) ?_ | split | dsimp only | (intro t ht; with_reducible assumption) | intro)

theorem agree_keysOut {μ : Nat} {σ : State} (hK : 3145729 ||| μ = μ) (k : KeyBlock) (s : State) (hA : Agree μ σ s) : Agree μ σ (keysOut k s) := by
  refine Agree.step (k := 3145729) ?_ hK hA
  clear hA hK
  unfold keysOut
  repeat' (first | (intro x; first | (refine (fun (hx : Agree 3145729 s x) => ?_) ?_; clear_value x; rotate_left; subst x) | subst x) | lift_lets -underBinder | with_reducible exact Agree.refl _ _ | with_reducible assumption | with_reducible refine Agree.forL ?_ ?_ | with_reducible apply @agree_pump 3145729 _ (by decide) | with_reducible apply @agree_sysWrite 3145729 _ (by decide) | with_reducible apply @agree_sysGroup 3145729 _ (by decide) | with_reducible refine Agree.of_snd (by assumption) ?_ | with_reducible refine Agree.of_fst (by assumption) ?_ | split | dsimp only | (intro t ht; with_reducible assumption) | intro)

theorem agree_postCat {μ : Nat} {σ : State} (hK : 3145729 ||| μ = μ) (k : CatKind) (body : Nat → NBody) (s : State) (hA : Agree μ σ s) : Agree μ σ (postCat k body s) := by
  refine Agree.step (k := 3145729) ?_ hK hA
  clear hA hK
  unfold postCat
  repeat' (first | (intro x; first | (refine (fun (hx : Agree 3145729 s x) => ?_) ?_; clear_value x; rotate_left; subst x) | subst x) | lift_lets -underBinder | with_reducible exact Agree.refl _ _ | with_reducible assumption | with_reducible refine Agree.forL ?_ ?_ | with_reducible apply @agree_mdVault 3145729 _ (by decide) | with_reducible apply @agree_pump 3145729 _ (by decide) | with_reducible apply @agree_queueUnit 3145729 _ (by decide) | with_reducible apply @agree_takeSeq 3145729 _ (by decide) | with_reducible refine Agree.of_snd (by assumption) ?_ | with_reducible refine Agree.of_fst (by assumption) ?_ | split | dsimp only | (intro t ht; with_reducible assumption) | intro)

theorem agree_eraseAheadAll {μ : Nat} {σ : State} (hK : 1048576 ||| μ = μ) (s : State) (hA : Agree μ σ s) : Agree μ σ (eraseAheadAll s) := by
  refine Agree.step (k := 1048576) ?_ hK hA
  clear hA hK
  unfold eraseAheadAll
  repeat' (first | (intro x; first | (refine (fun (hx : Agree 1048576 s x) => ?_) ?_; clear_value x; rotate_left; subst x) | subst x) | lift_lets -underBinder | with_reducible exact Agree.refl _ _ | with_reducible assumption | with_reducible refine Agree.forN ?_ ?_ | with_reducible apply @agree_eraseAhead 1048576 _ (by decide) | with_reducible refine Agree.of_snd (by assumption) ?_ | with_reducible refine Agree.of_fst (by assumption) ?_ | split | dsimp only | (intro t ht; with_reducible assumption) | intro)

end State
end Sys2Proof.Machine
end

