-- ==== Sys2Proof/Laws/AgreeRings.lean ====
section
/-! SUPPORT. The fields of State that each function of Machine/Rings.lean can change. -/
set_option Elab.async false

set_option linter.unusedTactic false
set_option linter.unreachableTactic false

namespace Sys2Proof.Machine
namespace State

theorem agree_unitLost {μ : Nat} {σ : State} (hK : 1048576 ||| μ = μ) (u : Option FUnit) (w : Why) (s : State) (hA : Agree μ σ s) : Agree μ σ (unitLost u w s) := by
  refine Agree.step (k := 1048576) ?_ hK hA
  clear hA hK
  unfold unitLost
  repeat' (first | (intro x; first | (refine (fun (hx : Agree 1048576 s x) => ?_) ?_; clear_value x; rotate_left; subst x) | subst x) | lift_lets -underBinder | with_reducible exact Agree.refl _ _ | with_reducible assumption | with_reducible apply @agree_mdVault 1048576 _ (by decide) | with_reducible apply @agree_catUnit 1048576 _ (by decide) | with_reducible apply @agree_stripeUnit 1048576 _ (by decide) | with_reducible apply @agree_sysEnded 1048576 _ (by decide) | with_reducible refine Agree.of_snd (by assumption) ?_ | with_reducible refine Agree.of_fst (by assumption) ?_ | split | dsimp only | (intro t ht; with_reducible assumption) | intro)

theorem agree_adoptVault {μ : Nat} {σ : State} (hK : 1048576 ||| μ = μ) (x : Nat) (s : State) (hA : Agree μ σ s) : Agree μ σ (adoptVault x s) := by
  refine Agree.step (k := 1048576) ?_ hK hA
  clear hA hK
  unfold adoptVault
  repeat' (first | (intro x; first | (refine (fun (hx : Agree 1048576 s x) => ?_) ?_; clear_value x; rotate_left; subst x) | subst x) | lift_lets -underBinder | with_reducible exact Agree.refl _ _ | with_reducible assumption | with_reducible apply @agree_mdVault 1048576 _ (by decide) | with_reducible refine Agree.of_snd (by assumption) ?_ | with_reducible refine Agree.of_fst (by assumption) ?_ | split | dsimp only | (intro t ht; with_reducible assumption) | intro)

theorem agree_dieInit {μ : Nat} {σ : State} (hK : 1048576 ||| μ = μ) (x : Nat) (s : State) (hA : Agree μ σ s) : Agree μ σ (dieInit x s) := by
  refine Agree.step (k := 1048576) ?_ hK hA
  clear hA hK
  unfold dieInit
  repeat' (first | (intro x; first | (refine (fun (hx : Agree 1048576 s x) => ?_) ?_; clear_value x; rotate_left; subst x) | subst x) | lift_lets -underBinder | with_reducible exact Agree.refl _ _ | with_reducible assumption | with_reducible refine Agree.foldl ?_ ?_ | with_reducible refine Agree.foldl_snd ?_ ?_ | with_reducible refine Agree.foldl_fst ?_ ?_ | with_reducible refine Agree.foldl_thd ?_ ?_ | with_reducible apply @agree_mdSled 1048576 _ (by decide) | with_reducible refine Agree.of_snd (by assumption) ?_ | with_reducible refine Agree.of_fst (by assumption) ?_ | split | dsimp only | (intro t ht; with_reducible assumption) | intro)

theorem agree_sysRead {μ : Nat} {σ : State} (hK : 1057024 ||| μ = μ) (x : Nat) (s : State) (hA : Agree μ σ s) : Agree μ σ (sysRead x s) := by
  refine Agree.step (k := 1057024) ?_ hK hA
  clear hA hK
  unfold sysRead
  repeat' (first | (intro x; first | (refine (fun (hx : Agree 1057024 s x) => ?_) ?_; clear_value x; rotate_left; subst x) | subst x) | lift_lets -underBinder | with_reducible exact Agree.refl _ _ | with_reducible assumption | with_reducible apply @agree_setEvt 1057024 _ (by decide) | with_reducible apply @agree_mdSled 1057024 _ (by decide) | with_reducible apply @agree_unraise 1057024 _ (by decide) | with_reducible apply @agree_openRings 1057024 _ (by decide) | with_reducible refine Agree.of_snd (by assumption) ?_ | with_reducible refine Agree.of_fst (by assumption) ?_ | split | dsimp only | (intro t ht; with_reducible assumption) | intro)

theorem agree_sledsReread {μ : Nat} {σ : State} (hK : 1057024 ||| μ = μ) (s : State) (hA : Agree μ σ s) : Agree μ σ (sledsReread s) := by
  refine Agree.step (k := 1057024) ?_ hK hA
  clear hA hK
  unfold sledsReread
  repeat' (first | (intro x; first | (refine (fun (hx : Agree 1057024 s x) => ?_) ?_; clear_value x; rotate_left; subst x) | subst x) | lift_lets -underBinder | with_reducible exact Agree.refl _ _ | with_reducible assumption | with_reducible refine Agree.forN ?_ ?_ | with_reducible apply @agree_dieInit 1057024 _ (by decide) | with_reducible apply @agree_sysRead 1057024 _ (by decide) | with_reducible refine Agree.of_snd (by assumption) ?_ | with_reducible refine Agree.of_fst (by assumption) ?_ | split | dsimp only | (intro t ht; with_reducible assumption) | intro)

theorem agree_eraseCountWrite {μ : Nat} {σ : State} (hK : 3145729 ||| μ = μ) (s : State) (hA : Agree μ σ s) : Agree μ σ (eraseCountWrite s) := by
  refine Agree.step (k := 3145729) ?_ hK hA
  clear hA hK
  unfold eraseCountWrite
  repeat' (first | (intro x; first | (refine (fun (hx : Agree 3145729 s x) => ?_) ?_; clear_value x; rotate_left; subst x) | subst x) | lift_lets -underBinder | with_reducible exact Agree.refl _ _ | with_reducible assumption | with_reducible refine Agree.forL ?_ ?_ | with_reducible apply @agree_mdDev 3145729 _ (by decide) | with_reducible apply @agree_mdVault 3145729 _ (by decide) | with_reducible apply @agree_pump 3145729 _ (by decide) | with_reducible apply @agree_sysWrite 3145729 _ (by decide) | with_reducible refine Agree.of_snd (by assumption) ?_ | with_reducible refine Agree.of_fst (by assumption) ?_ | split | dsimp only | (intro t ht; with_reducible assumption) | intro)

theorem agree_scanEnd {μ : Nat} {σ : State} (hK : 2097408 ||| μ = μ) (s : State) (hA : Agree μ σ s) : Agree μ σ (scanEnd s) := by
  refine Agree.step (k := 2097408) ?_ hK hA
  clear hA hK
  unfold scanEnd
  repeat' (first | (intro x; first | (refine (fun (hx : Agree 2097408 s x) => ?_) ?_; clear_value x; rotate_left; subst x) | subst x) | lift_lets -underBinder | with_reducible exact Agree.refl _ _ | with_reducible assumption | ((conv => (arg 3; arg 27; skip)); with_reducible refine Agree.upd_stage _ (by decide) ?_) | with_reducible apply @agree_setEvt 2097408 _ (by decide) | with_reducible refine Agree.of_snd (by assumption) ?_ | with_reducible refine Agree.of_fst (by assumption) ?_ | split | dsimp only | (intro t ht; with_reducible assumption) | intro)

theorem agree_fmtAgain {μ : Nat} {σ : State} (hK : 1048576 ||| μ = μ) (r : Nat) (d : Desc) (s : State) (hA : Agree μ σ s) : Agree μ σ (fmtAgain r d s) := by
  refine Agree.step (k := 1048576) ?_ hK hA
  clear hA hK
  unfold fmtAgain
  repeat' (first | (intro x; first | (refine (fun (hx : Agree 1048576 s x) => ?_) ?_; clear_value x; rotate_left; subst x) | subst x) | lift_lets -underBinder | with_reducible exact Agree.refl _ _ | with_reducible assumption | with_reducible apply @agree_mdVault 1048576 _ (by decide) | with_reducible refine Agree.of_snd (by assumption) ?_ | with_reducible refine Agree.of_fst (by assumption) ?_ | split | dsimp only | (intro t ht; with_reducible assumption) | intro)

theorem agree_descAgain {μ : Nat} {σ : State} (hK : 1048576 ||| μ = μ) (cats : Bool) (r : Nat) (d : Desc) (s : State) (hA : Agree μ σ s) : Agree μ σ (descAgain cats r d s) := by
  refine Agree.step (k := 1048576) ?_ hK hA
  clear hA hK
  unfold descAgain
  repeat' (first | (intro x; first | (refine (fun (hx : Agree 1048576 s x) => ?_) ?_; clear_value x; rotate_left; subst x) | subst x) | lift_lets -underBinder | with_reducible exact Agree.refl _ _ | with_reducible assumption | with_reducible apply @agree_mdVault 1048576 _ (by decide) | with_reducible apply @agree_unitLost 1048576 _ (by decide) | with_reducible apply @agree_fmtAgain 1048576 _ (by decide) | with_reducible refine Agree.of_snd (by assumption) ?_ | with_reducible refine Agree.of_fst (by assumption) ?_ | split | dsimp only | (intro t ht; with_reducible assumption) | intro)

theorem agree_endRing {μ : Nat} {σ : State} (hK : 1048576 ||| μ = μ) (r : Nat) (res : Nat) (s : State) (hA : Agree μ σ s) : Agree μ σ (endRing r res s).2 := by
  refine Agree.step (k := 1048576) ?_ hK hA
  clear hA hK
  unfold endRing
  repeat' (first | (intro x; first | (refine (fun (hx : Agree 1048576 s x) => ?_) ?_; clear_value x; rotate_left; subst x) | subst x) | lift_lets -underBinder | with_reducible exact Agree.refl _ _ | with_reducible assumption | with_reducible apply @agree_mdRing 1048576 _ (by decide) | with_reducible refine Agree.of_snd (by assumption) ?_ | with_reducible refine Agree.of_fst (by assumption) ?_ | split | dsimp only | (intro t ht; with_reducible assumption) | intro)

theorem agree_sledQuiet {μ : Nat} {σ : State} (hK : 1048576 ||| μ = μ) (x : Nat) (stays : Bool) (s : State) (hA : Agree μ σ s) : Agree μ σ (sledQuiet x stays s) := by
  refine Agree.step (k := 1048576) ?_ hK hA
  clear hA hK
  unfold sledQuiet
  repeat' (first | (intro x; first | (refine (fun (hx : Agree 1048576 s x) => ?_) ?_; clear_value x; rotate_left; subst x) | subst x) | lift_lets -underBinder | with_reducible exact Agree.refl _ _ | with_reducible assumption | with_reducible refine Agree.forN ?_ ?_ | with_reducible refine Agree.forL ?_ ?_ | with_reducible apply @agree_mdVault 1048576 _ (by decide) | with_reducible apply @agree_mdRing 1048576 _ (by decide) | with_reducible apply @agree_unitLost 1048576 _ (by decide) | with_reducible apply @agree_descAgain 1048576 _ (by decide) | with_reducible apply @agree_endRing 1048576 _ (by decide) | with_reducible refine Agree.of_snd (by assumption) ?_ | with_reducible refine Agree.of_fst (by assumption) ?_ | split | dsimp only | (intro t ht; with_reducible assumption) | intro)

theorem agree_blockMapDone {μ : Nat} {σ : State} (hK : 3145984 ||| μ = μ) (x : Nat) (s : State) (hA : Agree μ σ s) : Agree μ σ (blockMapDone x s) := by
  refine Agree.step (k := 3145984) ?_ hK hA
  clear hA hK
  unfold blockMapDone
  repeat' (first | (intro x; first | (refine (fun (hx : Agree 3145984 s x) => ?_) ?_; clear_value x; rotate_left; subst x) | subst x) | lift_lets -underBinder | with_reducible exact Agree.refl _ _ | with_reducible assumption | ((conv => (arg 3; arg 27; skip)); with_reducible refine Agree.upd_stage _ (by decide) ?_) | with_reducible refine Agree.forN ?_ ?_ | with_reducible apply @agree_mdSled 3145984 _ (by decide) | with_reducible apply @agree_setCursor 3145984 _ (by decide) | with_reducible apply @agree_reserveUpdate 3145984 _ (by decide) | with_reducible apply @agree_degrade 3145984 _ (by decide) | with_reducible apply @agree_eraseAhead 3145984 _ (by decide) | with_reducible refine Agree.of_snd (by assumption) ?_ | with_reducible refine Agree.of_fst (by assumption) ?_ | split | dsimp only | (intro t ht; with_reducible assumption) | intro)

theorem agree_postAgain {μ : Nat} {σ : State} (hK : 1048576 ||| μ = μ) (j : UnitJob) (s : State) (hA : Agree μ σ s) : Agree μ σ (postAgain j s) := by
  refine Agree.step (k := 1048576) ?_ hK hA
  clear hA hK
  unfold postAgain
  repeat' (first | (intro x; first | (refine (fun (hx : Agree 1048576 s x) => ?_) ?_; clear_value x; rotate_left; subst x) | subst x) | lift_lets -underBinder | with_reducible exact Agree.refl _ _ | with_reducible assumption | with_reducible apply @agree_mdVault 1048576 _ (by decide) | with_reducible apply @agree_unitLost 1048576 _ (by decide) | with_reducible refine Agree.of_snd (by assumption) ?_ | with_reducible refine Agree.of_fst (by assumption) ?_ | split | dsimp only | (intro t ht; with_reducible assumption) | intro)

theorem agree_drainLost {μ : Nat} {σ : State} (hK : 1050880 ||| μ = μ) (x : Nat) (s : State) (hA : Agree μ σ s) : Agree μ σ (drainLost x s) := by
  refine Agree.step (k := 1050880) ?_ hK hA
  clear hA hK
  unfold drainLost
  repeat' (first | (intro x; first | (refine (fun (hx : Agree 1050880 s x) => ?_) ?_; clear_value x; rotate_left; subst x) | subst x) | lift_lets -underBinder | with_reducible exact Agree.refl _ _ | with_reducible assumption | with_reducible apply @agree_rjobEnd 1050880 _ (by decide) | with_reducible refine Agree.of_snd (by assumption) ?_ | with_reducible refine Agree.of_fst (by assumption) ?_ | split | dsimp only | (intro t ht; with_reducible assumption) | intro)

theorem agree_sledLoss {μ : Nat} {σ : State} (hK : 7350529 ||| μ = μ) (x : Nat) (cls : Nat) (s : State) (hA : Agree μ σ s) : Agree μ σ (sledLoss x cls s) := by
  refine Agree.step (k := 7350529) ?_ hK hA
  clear hA hK
  unfold sledLoss
  repeat' (first | (intro x; first | (refine (fun (hx : Agree 7350529 s x) => ?_) ?_; clear_value x; rotate_left; subst x) | subst x) | lift_lets -underBinder | with_reducible exact Agree.refl _ _ | with_reducible assumption | ((conv => (arg 3; arg 27; skip)); with_reducible refine Agree.upd_vault_save _ _ (by decide) ?_) | with_reducible apply @agree_setEvt 7350529 _ (by decide) | with_reducible apply @agree_mdSled 7350529 _ (by decide) | with_reducible apply @agree_mdVault 7350529 _ (by decide) | with_reducible apply @agree_raise 7350529 _ (by decide) | with_reducible apply @agree_advanceEpoch 7350529 _ (by decide) | with_reducible apply @agree_scanEnd 7350529 _ (by decide) | with_reducible apply @agree_sledQuiet 7350529 _ (by decide) | with_reducible apply @agree_degrade 7350529 _ (by decide) | with_reducible apply @agree_drainLost 7350529 _ (by decide) | with_reducible refine Agree.of_snd (by assumption) ?_ | with_reducible refine Agree.of_fst (by assumption) ?_ | split | dsimp only | (intro t ht; with_reducible assumption) | intro)

theorem agree_channelFail {μ : Nat} {σ : State} (hK : 7350529 ||| μ = μ) (r : Nat) (s : State) (hA : Agree μ σ s) : Agree μ σ (channelFail r s) := by
  refine Agree.step (k := 7350529) ?_ hK hA
  clear hA hK
  unfold channelFail
  repeat' (first | (intro x; first | (refine (fun (hx : Agree 7350529 s x) => ?_) ?_; clear_value x; rotate_left; subst x) | subst x) | lift_lets -underBinder | with_reducible exact Agree.refl _ _ | with_reducible assumption | with_reducible refine Agree.forL ?_ ?_ | with_reducible apply @agree_setEvt 7350529 _ (by decide) | with_reducible apply @agree_mdSled 7350529 _ (by decide) | with_reducible apply @agree_mdVault 7350529 _ (by decide) | with_reducible apply @agree_mdRing 7350529 _ (by decide) | with_reducible apply @agree_raise 7350529 _ (by decide) | with_reducible apply @agree_unitLost 7350529 _ (by decide) | with_reducible apply @agree_endRing 7350529 _ (by decide) | with_reducible apply @agree_postAgain 7350529 _ (by decide) | with_reducible apply @agree_sledLoss 7350529 _ (by decide) | with_reducible refine Agree.of_snd (by assumption) ?_ | with_reducible refine Agree.of_fst (by assumption) ?_ | split | dsimp only | (intro t ht; with_reducible assumption) | intro)

theorem agree_chargeUnit {μ : Nat} {σ : State} (hK : 2097156 ||| μ = μ) (s : State) (hA : Agree μ σ s) : Agree μ σ (chargeUnit s) := by
  refine Agree.step (k := 2097156) ?_ hK hA
  clear hA hK
  unfold chargeUnit
  repeat' (first | (intro x; first | (refine (fun (hx : Agree 2097156 s x) => ?_) ?_; clear_value x; rotate_left; subst x) | subst x) | lift_lets -underBinder | with_reducible exact Agree.refl _ _ | with_reducible assumption | ((conv => (arg 3; arg 27; skip)); with_reducible refine Agree.upd_stage _ (by decide) ?_) | ((conv => (arg 3; arg 27; skip)); with_reducible refine Agree.upd_aon_stage _ _ (by decide) ?_) | with_reducible refine Agree.of_snd (by assumption) ?_ | with_reducible refine Agree.of_fst (by assumption) ?_ | split | dsimp only | (intro t ht; with_reducible assumption) | intro)

theorem agree_eraseBlk {μ : Nat} {σ : State} (hK : 1048576 ||| μ = μ) (r : Nat) (die : Nat) (blk : Nat) (s : State) (hA : Agree μ σ s) : Agree μ σ (eraseBlk r die blk s) := by
  refine Agree.step (k := 1048576) ?_ hK hA
  clear hA hK
  unfold eraseBlk
  repeat' (first | (intro x; first | (refine (fun (hx : Agree 1048576 s x) => ?_) ?_; clear_value x; rotate_left; subst x) | subst x) | lift_lets -underBinder | with_reducible exact Agree.refl _ _ | with_reducible assumption | with_reducible apply @agree_mdSled 1048576 _ (by decide) | with_reducible apply @agree_mdDev 1048576 _ (by decide) | with_reducible apply @agree_mdVault 1048576 _ (by decide) | with_reducible refine Agree.of_snd (by assumption) ?_ | with_reducible refine Agree.of_fst (by assumption) ?_ | split | dsimp only | (intro t ht; with_reducible assumption) | intro)

theorem agree_growBad {μ : Nat} {σ : State} (hK : 1048576 ||| μ = μ) (r : Nat) (die : Nat) (blk : Nat) (s : State) (hA : Agree μ σ s) : Agree μ σ (growBad r die blk s) := by
  refine Agree.step (k := 1048576) ?_ hK hA
  clear hA hK
  unfold growBad
  repeat' (first | (intro x; first | (refine (fun (hx : Agree 1048576 s x) => ?_) ?_; clear_value x; rotate_left; subst x) | subst x) | lift_lets -underBinder | with_reducible exact Agree.refl _ _ | with_reducible assumption | with_reducible apply @agree_mdDev 1048576 _ (by decide) | with_reducible refine Agree.of_snd (by assumption) ?_ | with_reducible refine Agree.of_fst (by assumption) ?_ | split | dsimp only | (intro t ht; with_reducible assumption) | intro)

theorem agree_putCell {μ : Nat} {σ : State} (hK : 1048576 ||| μ = μ) (r : Nat) (loc : Nat) (u : Option FUnit) (s : State) (hA : Agree μ σ s) : Agree μ σ (putCell r loc u s) := by
  refine Agree.step (k := 1048576) ?_ hK hA
  clear hA hK
  unfold putCell
  repeat' (first | (intro x; first | (refine (fun (hx : Agree 1048576 s x) => ?_) ?_; clear_value x; rotate_left; subst x) | subst x) | lift_lets -underBinder | with_reducible exact Agree.refl _ _ | with_reducible assumption | with_reducible apply @agree_mdDev 1048576 _ (by decide) | with_reducible refine Agree.of_snd (by assumption) ?_ | with_reducible refine Agree.of_fst (by assumption) ?_ | split | dsimp only | (intro t ht; with_reducible assumption) | intro)

theorem agree_progDone {μ : Nat} {σ : State} (hK : 3145732 ||| μ = μ) (r : Nat) (d : Desc) (s : State) (hA : Agree μ σ s) : Agree μ σ (progDone r d s) := by
  refine Agree.step (k := 3145732) ?_ hK hA
  clear hA hK
  unfold progDone
  repeat' (first | (intro x; first | (refine (fun (hx : Agree 3145732 s x) => ?_) ?_; clear_value x; rotate_left; subst x) | subst x) | lift_lets -underBinder | with_reducible exact Agree.refl _ _ | with_reducible assumption | with_reducible apply @agree_catUnit 3145732 _ (by decide) | with_reducible apply @agree_stripeUnit 3145732 _ (by decide) | with_reducible apply @agree_sysEnded 3145732 _ (by decide) | with_reducible apply @agree_chargeUnit 3145732 _ (by decide) | with_reducible apply @agree_putCell 3145732 _ (by decide) | with_reducible refine Agree.of_snd (by assumption) ?_ | with_reducible refine Agree.of_fst (by assumption) ?_ | split | dsimp only | (intro t ht; with_reducible assumption) | intro)

theorem agree_progFail {μ : Nat} {σ : State} (hK : 7350529 ||| μ = μ) (r : Nat) (d : Desc) (s : State) (hA : Agree μ σ s) : Agree μ σ (progFail r d s) := by
  refine Agree.step (k := 7350529) ?_ hK hA
  clear hA hK
  unfold progFail
  repeat' (first | (intro x; first | (refine (fun (hx : Agree 7350529 s x) => ?_) ?_; clear_value x; rotate_left; subst x) | subst x) | lift_lets -underBinder | with_reducible exact Agree.refl _ _ | with_reducible assumption | ((conv => (arg 3; arg 27; skip)); with_reducible refine Agree.upd_save _ (by decide) ?_) | with_reducible apply @agree_mdRing 7350529 _ (by decide) | with_reducible apply @agree_postAgain 7350529 _ (by decide) | with_reducible apply @agree_channelFail 7350529 _ (by decide) | with_reducible apply @agree_growBad 7350529 _ (by decide) | with_reducible refine Agree.of_snd (by assumption) ?_ | with_reducible refine Agree.of_fst (by assumption) ?_ | split | dsimp only | (intro t ht; with_reducible assumption) | intro)

theorem agree_progRefused {μ : Nat} {σ : State} (hK : 1048576 ||| μ = μ) (r : Nat) (d : Desc) (s : State) (hA : Agree μ σ s) : Agree μ σ (progRefused r d s) := by
  refine Agree.step (k := 1048576) ?_ hK hA
  clear hA hK
  unfold progRefused
  repeat' (first | (intro x; first | (refine (fun (hx : Agree 1048576 s x) => ?_) ?_; clear_value x; rotate_left; subst x) | subst x) | lift_lets -underBinder | with_reducible exact Agree.refl _ _ | with_reducible assumption | with_reducible apply @agree_mdDev 1048576 _ (by decide) | with_reducible apply @agree_postAgain 1048576 _ (by decide) | with_reducible refine Agree.of_snd (by assumption) ?_ | with_reducible refine Agree.of_fst (by assumption) ?_ | split | dsimp only | (intro t ht; with_reducible assumption) | intro)

theorem agree_ringComplete {μ : Nat} {σ : State} (hK : 7350533 ||| μ = μ) (r : Nat) (i : Nat) (res : Nat) (corr : Nat) (retries : Nat) (us : Nat) (s : State) (hA : Agree μ σ s) : Agree μ σ (ringComplete r i res corr retries us s).2 := by
  refine Agree.step (k := 7350533) ?_ hK hA
  clear hA hK
  unfold ringComplete
  repeat' (first | (intro x; first | (refine (fun (hx : Agree 7350533 s x) => ?_) ?_; clear_value x; rotate_left; subst x) | subst x) | lift_lets -underBinder | with_reducible exact Agree.refl _ _ | with_reducible assumption | with_reducible apply @agree_mdVault 7350533 _ (by decide) | with_reducible apply @agree_mdRing 7350533 _ (by decide) | with_reducible apply @agree_sysEnded 7350533 _ (by decide) | with_reducible apply @agree_unitLost 7350533 _ (by decide) | with_reducible apply @agree_eraseBlk 7350533 _ (by decide) | with_reducible apply @agree_growBad 7350533 _ (by decide) | with_reducible apply @agree_progDone 7350533 _ (by decide) | with_reducible apply @agree_progFail 7350533 _ (by decide) | with_reducible apply @agree_progRefused 7350533 _ (by decide) | with_reducible refine Agree.of_snd (by assumption) ?_ | with_reducible refine Agree.of_fst (by assumption) ?_ | split | dsimp only | (intro t ht; with_reducible assumption) | intro)

theorem agree_islandPower {μ : Nat} {σ : State} (hK : 1048576 ||| μ = μ) (x : Nat) (s : State) (hA : Agree μ σ s) : Agree μ σ (islandPower x s) := by
  refine Agree.step (k := 1048576) ?_ hK hA
  clear hA hK
  unfold islandPower
  repeat' (first | (intro x; first | (refine (fun (hx : Agree 1048576 s x) => ?_) ?_; clear_value x; rotate_left; subst x) | subst x) | lift_lets -underBinder | with_reducible exact Agree.refl _ _ | with_reducible assumption | with_reducible refine Agree.forN ?_ ?_ | with_reducible apply @agree_mdSled 1048576 _ (by decide) | with_reducible apply @agree_mdRing 1048576 _ (by decide) | with_reducible refine Agree.of_snd (by assumption) ?_ | with_reducible refine Agree.of_fst (by assumption) ?_ | split | dsimp only | (intro t ht; with_reducible assumption) | intro)

theorem agree_flashUp {μ : Nat} {σ : State} (hK : 1057024 ||| μ = μ) (x : Nat) (s : State) (hA : Agree μ σ s) : Agree μ σ (flashUp x s) := by
  refine Agree.step (k := 1057024) ?_ hK hA
  clear hA hK
  unfold flashUp
  repeat' (first | (intro x; first | (refine (fun (hx : Agree 1057024 s x) => ?_) ?_; clear_value x; rotate_left; subst x) | subst x) | lift_lets -underBinder | with_reducible exact Agree.refl _ _ | with_reducible assumption | with_reducible apply @agree_mdSled 1057024 _ (by decide) | with_reducible apply @agree_dieInit 1057024 _ (by decide) | with_reducible apply @agree_sysRead 1057024 _ (by decide) | with_reducible apply @agree_islandPower 1057024 _ (by decide) | with_reducible refine Agree.of_snd (by assumption) ?_ | with_reducible refine Agree.of_fst (by assumption) ?_ | split | dsimp only | (intro t ht; with_reducible assumption) | intro)

theorem agree_logScanDone {μ : Nat} {σ : State} (hK : 3145984 ||| μ = μ) (x : Nat) (s : State) (hA : Agree μ σ s) : Agree μ σ (logScanDone x s) := by
  refine Agree.step (k := 3145984) ?_ hK hA
  clear hA hK
  unfold logScanDone
  repeat' (first | (intro x; first | (refine (fun (hx : Agree 3145984 s x) => ?_) ?_; clear_value x; rotate_left; subst x) | subst x) | lift_lets -underBinder | with_reducible exact Agree.refl _ _ | with_reducible assumption | ((conv => (arg 3; arg 27; skip)); with_reducible refine Agree.upd_vault_stage _ _ (by decide) ?_) | with_reducible refine Agree.foldl ?_ ?_ | with_reducible refine Agree.foldl_snd ?_ ?_ | with_reducible refine Agree.foldl_fst ?_ ?_ | with_reducible refine Agree.foldl_thd ?_ ?_ | with_reducible refine Agree.forN ?_ ?_ | with_reducible apply @agree_mdSled 3145984 _ (by decide) | with_reducible apply @agree_setCursor 3145984 _ (by decide) | with_reducible apply @agree_scanEnd 3145984 _ (by decide) | with_reducible refine Agree.of_snd (by assumption) ?_ | with_reducible refine Agree.of_fst (by assumption) ?_ | split | dsimp only | (intro t ht; with_reducible assumption) | intro)

theorem agree_sledPresent {μ : Nat} {σ : State} (hK : 1122562 ||| μ = μ) (x : Nat) (dev : SledDev) (s : State) (hA : Agree μ σ s) : Agree μ σ (sledPresent x dev s) := by
  refine Agree.step (k := 1122562) ?_ hK hA
  clear hA hK
  unfold sledPresent
  repeat' (first | (intro x; first | (refine (fun (hx : Agree 1122562 s x) => ?_) ?_; clear_value x; rotate_left; subst x) | subst x) | lift_lets -underBinder | with_reducible exact Agree.refl _ _ | with_reducible assumption | ((conv => (arg 3; arg 27; skip)); with_reducible refine Agree.upd_pins _ (by decide) ?_) | ((conv => (arg 3; arg 27; skip)); with_reducible refine Agree.upd_seq _ (by decide) ?_) | with_reducible refine Agree.forN ?_ ?_ | with_reducible apply @agree_setEvt 1122562 _ (by decide) | with_reducible apply @agree_mdSled 1122562 _ (by decide) | with_reducible apply @agree_mdRing 1122562 _ (by decide) | with_reducible apply @agree_unraise 1122562 _ (by decide) | with_reducible apply @agree_startSled 1122562 _ (by decide) | with_reducible refine Agree.of_snd (by assumption) ?_ | with_reducible refine Agree.of_fst (by assumption) ?_ | split | dsimp only | (intro t ht; with_reducible assumption) | intro)

theorem agree_sledRemoved {μ : Nat} {σ : State} (hK : 7416067 ||| μ = μ) (x : Nat) (gone : Bool) (s : State) (hA : Agree μ σ s) : Agree μ σ (sledRemoved x gone s) := by
  refine Agree.step (k := 7416067) ?_ hK hA
  clear hA hK
  unfold sledRemoved
  repeat' (first | (intro x; first | (refine (fun (hx : Agree 7416067 s x) => ?_) ?_; clear_value x; rotate_left; subst x) | subst x) | lift_lets -underBinder | with_reducible exact Agree.refl _ _ | with_reducible assumption | ((conv => (arg 3; arg 27; skip)); with_reducible refine Agree.upd_pins _ (by decide) ?_) | with_reducible apply @agree_mdSled 7416067 _ (by decide) | with_reducible apply @agree_beginDown 7416067 _ (by decide) | with_reducible apply @agree_sledLoss 7416067 _ (by decide) | with_reducible refine Agree.of_snd (by assumption) ?_ | with_reducible refine Agree.of_fst (by assumption) ?_ | split | dsimp only | (intro t ht; with_reducible assumption) | intro)

theorem agree_vaultFounding {μ : Nat} {σ : State} (hK : 1048832 ||| μ = μ) (s : State) (hA : Agree μ σ s) : Agree μ σ (vaultFounding s) := by
  refine Agree.step (k := 1048832) ?_ hK hA
  clear hA hK
  unfold vaultFounding
  repeat' (first | (intro x; first | (refine (fun (hx : Agree 1048832 s x) => ?_) ?_; clear_value x; rotate_left; subst x) | subst x) | lift_lets -underBinder | with_reducible exact Agree.refl _ _ | with_reducible assumption | with_reducible refine Agree.foldl ?_ ?_ | with_reducible refine Agree.foldl_snd ?_ ?_ | with_reducible refine Agree.foldl_fst ?_ ?_ | with_reducible refine Agree.foldl_thd ?_ ?_ | with_reducible refine Agree.forN ?_ ?_ | with_reducible apply @agree_setEvt 1048832 _ (by decide) | with_reducible apply @agree_mdSled 1048832 _ (by decide) | with_reducible apply @agree_mdVault 1048832 _ (by decide) | with_reducible apply @agree_adoptVault 1048832 _ (by decide) | with_reducible refine Agree.of_snd (by assumption) ?_ | with_reducible refine Agree.of_fst (by assumption) ?_ | split | dsimp only | (intro t ht; with_reducible assumption) | intro)

end State
end Sys2Proof.Machine
end

