-- ==== Sys2Proof/Laws/AgreePreStage.lean ====
section
/-! SUPPORT. The fields of State that each function of Machine/PreStage.lean can change. -/
set_option Elab.async false

set_option linter.unusedTactic false
set_option linter.unreachableTactic false

namespace Sys2Proof.Machine
namespace State

theorem agree_confUnitsDone {μ : Nat} {σ : State} (hK : 2097152 ||| μ = μ) (t : Stripe) (s : State) (hA : Agree μ σ s) : Agree μ σ (confUnitsDone t s) := by
  refine Agree.step (k := 2097152) ?_ hK hA
  clear hA hK
  unfold confUnitsDone
  repeat' (first | (intro x; first | (refine (fun (hx : Agree 2097152 s x) => ?_) ?_; clear_value x; rotate_left; subst x) | subst x) | lift_lets -underBinder | with_reducible exact Agree.refl _ _ | with_reducible assumption | ((conv => (arg 3; arg 27; skip)); with_reducible refine Agree.upd_stage _ (by decide) ?_) | with_reducible refine Agree.forL ?_ ?_ | with_reducible refine Agree.of_snd (by assumption) ?_ | with_reducible refine Agree.of_fst (by assumption) ?_ | split | dsimp only | (intro t ht; with_reducible assumption) | intro)

theorem agree_mdPp {μ : Nat} {σ : State} (hK : 2097152 ||| μ = μ) (p : Nat) (f : StgP → StgP) (s : State) (hA : Agree μ σ s) : Agree μ σ (mdPp p f s) := by
  refine Agree.step (k := 2097152) ?_ hK hA
  clear hA hK
  unfold mdPp
  repeat' (first | (intro x; first | (refine (fun (hx : Agree 2097152 s x) => ?_) ?_; clear_value x; rotate_left; subst x) | subst x) | lift_lets -underBinder | with_reducible exact Agree.refl _ _ | with_reducible assumption | ((conv => (arg 3; arg 27; skip)); with_reducible refine Agree.upd_stage _ (by decide) ?_) | with_reducible refine Agree.of_snd (by assumption) ?_ | with_reducible refine Agree.of_fst (by assumption) ?_ | split | dsimp only | (intro t ht; with_reducible assumption) | intro)

theorem agree_stageDrop {μ : Nat} {σ : State} (hK : 1048576 ||| μ = μ) (s : State) (hA : Agree μ σ s) : Agree μ σ (stageDrop s) := by
  refine Agree.step (k := 1048576) ?_ hK hA
  clear hA hK
  unfold stageDrop
  repeat' (first | (intro x; first | (refine (fun (hx : Agree 1048576 s x) => ?_) ?_; clear_value x; rotate_left; subst x) | subst x) | lift_lets -underBinder | with_reducible exact Agree.refl _ _ | with_reducible assumption | with_reducible refine Agree.forN ?_ ?_ | with_reducible refine Agree.forL ?_ ?_ | with_reducible apply @agree_mdVault 1048576 _ (by decide) | with_reducible apply @agree_mdRing 1048576 _ (by decide) | with_reducible apply @agree_unitLost 1048576 _ (by decide) | with_reducible refine Agree.of_snd (by assumption) ?_ | with_reducible refine Agree.of_fst (by assumption) ?_ | split | dsimp only | (intro t ht; with_reducible assumption) | intro)

theorem agree_writeConfirm {μ : Nat} {σ : State} (hK : 3145728 ||| μ = μ) (reloc : Bool) (sel : ConfEnt → Bool) (s : State) (hA : Agree μ σ s) : Agree μ σ (writeConfirm reloc sel s) := by
  refine Agree.step (k := 3145728) ?_ hK hA
  clear hA hK
  unfold writeConfirm
  repeat' (first | (intro x; first | (refine (fun (hx : Agree 3145728 s x) => ?_) ?_; clear_value x; rotate_left; subst x) | subst x) | lift_lets -underBinder | with_reducible exact Agree.refl _ _ | with_reducible assumption | ((conv => (arg 3; arg 27; skip)); with_reducible refine Agree.upd_stage _ (by decide) ?_) | with_reducible apply @agree_addUnit 3145728 _ (by decide) | with_reducible refine Agree.of_snd (by assumption) ?_ | with_reducible refine Agree.of_fst (by assumption) ?_ | split | dsimp only | (intro t ht; with_reducible assumption) | intro)

theorem agree_stageTrip {μ : Nat} {σ : State} (hK : 3145728 ||| μ = μ) (s : State) (hA : Agree μ σ s) : Agree μ σ (stageTrip s) := by
  refine Agree.step (k := 3145728) ?_ hK hA
  clear hA hK
  unfold stageTrip
  repeat' (first | (intro x; first | (refine (fun (hx : Agree 3145728 s x) => ?_) ?_; clear_value x; rotate_left; subst x) | subst x) | lift_lets -underBinder | with_reducible exact Agree.refl _ _ | with_reducible assumption | with_reducible refine Agree.forN ?_ ?_ | with_reducible refine Agree.iter ?_ ?_ | with_reducible apply @agree_fillStripe 3145728 _ (by decide) | with_reducible apply @agree_mdPp 3145728 _ (by decide) | with_reducible apply @agree_stageDrop 3145728 _ (by decide) | with_reducible apply @agree_writeConfirm 3145728 _ (by decide) | with_reducible refine Agree.of_snd (by assumption) ?_ | with_reducible refine Agree.of_fst (by assumption) ?_ | split | dsimp only | (intro t ht; with_reducible assumption) | intro)

theorem agree_ackEntry {μ : Nat} {σ : State} (hK : 2359296 ||| μ = μ) (p : Nat) (turn : Nat) (e : Nat × Nat) (ok : Bool) (s : State) (hA : Agree μ σ s) : Agree μ σ (ackEntry p turn e ok s) := by
  refine Agree.step (k := 2359296) ?_ hK hA
  clear hA hK
  unfold ackEntry
  repeat' (first | (intro x; first | (refine (fun (hx : Agree 2359296 s x) => ?_) ?_; clear_value x; rotate_left; subst x) | subst x) | lift_lets -underBinder | with_reducible exact Agree.refl _ _ | with_reducible assumption | ((conv => (arg 3; arg 27; skip)); with_reducible refine Agree.upd_stage _ (by decide) ?_) | with_reducible apply @agree_mdLk 2359296 _ (by decide) | with_reducible apply @agree_mdPp 2359296 _ (by decide) | with_reducible refine Agree.of_snd (by assumption) ?_ | with_reducible refine Agree.of_fst (by assumption) ?_ | split | dsimp only | (intro t ht; with_reducible assumption) | intro)

theorem agree_stageStop {μ : Nat} {σ : State} (hK : 3407873 ||| μ = μ) (s : State) (hA : Agree μ σ s) : Agree μ σ (stageStop s) := by
  refine Agree.step (k := 3407873) ?_ hK hA
  clear hA hK
  unfold stageStop
  repeat' (first | (intro x; first | (refine (fun (hx : Agree 3407873 s x) => ?_) ?_; clear_value x; rotate_left; subst x) | subst x) | lift_lets -underBinder | with_reducible exact Agree.refl _ _ | with_reducible assumption | with_reducible refine Agree.forN ?_ ?_ | with_reducible refine Agree.forL ?_ ?_ | with_reducible apply @agree_mdVault 3407873 _ (by decide) | with_reducible apply @agree_pump 3407873 _ (by decide) | with_reducible apply @agree_fillStripe 3407873 _ (by decide) | with_reducible apply @agree_mdPp 3407873 _ (by decide) | with_reducible apply @agree_stageDrop 3407873 _ (by decide) | with_reducible apply @agree_send 3407873 _ (by decide) | with_reducible refine Agree.of_snd (by assumption) ?_ | with_reducible refine Agree.of_fst (by assumption) ?_ | split | dsimp only | (intro t ht; with_reducible assumption) | intro)

theorem agree_askMap {μ : Nat} {σ : State} (hK : 2359296 ||| μ = μ) (p : Nat) (s : State) (hA : Agree μ σ s) : Agree μ σ (askMap p s) := by
  refine Agree.step (k := 2359296) ?_ hK hA
  clear hA hK
  unfold askMap
  repeat' (first | (intro x; first | (refine (fun (hx : Agree 2359296 s x) => ?_) ?_; clear_value x; rotate_left; subst x) | subst x) | lift_lets -underBinder | with_reducible exact Agree.refl _ _ | with_reducible assumption | with_reducible apply @agree_mdPp 2359296 _ (by decide) | with_reducible apply @agree_send 2359296 _ (by decide) | with_reducible refine Agree.of_snd (by assumption) ?_ | with_reducible refine Agree.of_fst (by assumption) ?_ | split | dsimp only | (intro t ht; with_reducible assumption) | intro)

theorem agree_backoffEnd {μ : Nat} {σ : State} (hK : 2097152 ||| μ = μ) (p : Nat) (sq : Nat) (s : State) (hA : Agree μ σ s) : Agree μ σ (backoffEnd p sq s) := by
  refine Agree.step (k := 2097152) ?_ hK hA
  clear hA hK
  unfold backoffEnd
  repeat' (first | (intro x; first | (refine (fun (hx : Agree 2097152 s x) => ?_) ?_; clear_value x; rotate_left; subst x) | subst x) | lift_lets -underBinder | with_reducible exact Agree.refl _ _ | with_reducible assumption | with_reducible apply @agree_mdPp 2097152 _ (by decide) | with_reducible refine Agree.of_snd (by assumption) ?_ | with_reducible refine Agree.of_fst (by assumption) ?_ | split | dsimp only | (intro t ht; with_reducible assumption) | intro)

theorem agree_cancelCopies {μ : Nat} {σ : State} (hK : 2359296 ||| μ = μ) (p : Nat) (s : State) (hA : Agree μ σ s) : Agree μ σ (cancelCopies p s) := by
  refine Agree.step (k := 2359296) ?_ hK hA
  clear hA hK
  unfold cancelCopies
  repeat' (first | (intro x; first | (refine (fun (hx : Agree 2359296 s x) => ?_) ?_; clear_value x; rotate_left; subst x) | subst x) | lift_lets -underBinder | with_reducible exact Agree.refl _ _ | with_reducible assumption | with_reducible refine Agree.forL ?_ ?_ | with_reducible apply @agree_mdPp 2359296 _ (by decide) | with_reducible apply @agree_send 2359296 _ (by decide) | with_reducible refine Agree.of_snd (by assumption) ?_ | with_reducible refine Agree.of_fst (by assumption) ?_ | split | dsimp only | (intro t ht; with_reducible assumption) | intro)

theorem agree_sendRevert {μ : Nat} {σ : State} (hK : 2359296 ||| μ = μ) (p : Nat) (turnF : Nat) (all : Bool) (s : State) (hA : Agree μ σ s) : Agree μ σ (sendRevert p turnF all s) := by
  refine Agree.step (k := 2359296) ?_ hK hA
  clear hA hK
  unfold sendRevert
  repeat' (first | (intro x; first | (refine (fun (hx : Agree 2359296 s x) => ?_) ?_; clear_value x; rotate_left; subst x) | subst x) | lift_lets -underBinder | with_reducible exact Agree.refl _ _ | with_reducible assumption | with_reducible apply @agree_mdPp 2359296 _ (by decide) | with_reducible apply @agree_send 2359296 _ (by decide) | with_reducible refine Agree.of_snd (by assumption) ?_ | with_reducible refine Agree.of_fst (by assumption) ?_ | split | dsimp only | (intro t ht; with_reducible assumption) | intro)

theorem agree_stageGain {μ : Nat} {σ : State} (hK : 2359296 ||| μ = μ) (p : Nat) (s : State) (hA : Agree μ σ s) : Agree μ σ (stageGain p s) := by
  refine Agree.step (k := 2359296) ?_ hK hA
  clear hA hK
  unfold stageGain
  repeat' (first | (intro x; first | (refine (fun (hx : Agree 2359296 s x) => ?_) ?_; clear_value x; rotate_left; subst x) | subst x) | lift_lets -underBinder | with_reducible exact Agree.refl _ _ | with_reducible assumption | with_reducible apply @agree_sendRevert 2359296 _ (by decide) | with_reducible refine Agree.of_snd (by assumption) ?_ | with_reducible refine Agree.of_fst (by assumption) ?_ | split | dsimp only | (intro t ht; with_reducible assumption) | intro)

theorem agree_stageLose {μ : Nat} {σ : State} (hK : 2359296 ||| μ = μ) (p : Nat) (s : State) (hA : Agree μ σ s) : Agree μ σ (stageLose p s) := by
  refine Agree.step (k := 2359296) ?_ hK hA
  clear hA hK
  unfold stageLose
  repeat' (first | (intro x; first | (refine (fun (hx : Agree 2359296 s x) => ?_) ?_; clear_value x; rotate_left; subst x) | subst x) | lift_lets -underBinder | with_reducible exact Agree.refl _ _ | with_reducible assumption | with_reducible apply @agree_mdPp 2359296 _ (by decide) | with_reducible apply @agree_cancelCopies 2359296 _ (by decide) | with_reducible refine Agree.of_snd (by assumption) ?_ | with_reducible refine Agree.of_fst (by assumption) ?_ | split | dsimp only | (intro t ht; with_reducible assumption) | intro)

theorem agree_raiseHwm {μ : Nat} {σ : State} (hK : 2097152 ||| μ = μ) (t : Stripe) (s : State) (hA : Agree μ σ s) : Agree μ σ (raiseHwm t s) := by
  refine Agree.step (k := 2097152) ?_ hK hA
  clear hA hK
  unfold raiseHwm
  repeat' (first | (intro x; first | (refine (fun (hx : Agree 2097152 s x) => ?_) ?_; clear_value x; rotate_left; subst x) | subst x) | lift_lets -underBinder | with_reducible exact Agree.refl _ _ | with_reducible assumption | ((conv => (arg 3; arg 27; skip)); with_reducible refine Agree.upd_stage _ (by decide) ?_) | with_reducible refine Agree.foldl ?_ ?_ | with_reducible refine Agree.foldl_snd ?_ ?_ | with_reducible refine Agree.foldl_fst ?_ ?_ | with_reducible refine Agree.foldl_thd ?_ ?_ | with_reducible refine Agree.of_snd (by assumption) ?_ | with_reducible refine Agree.of_fst (by assumption) ?_ | split | dsimp only | (intro t ht; with_reducible assumption) | intro)

theorem agree_confirmAckRx {μ : Nat} {σ : State} (hK : 2359296 ||| μ = μ) (p : Nat) (turn : Nat) (acc : BitVec 64) (s : State) (hA : Agree μ σ s) : Agree μ σ (confirmAckRx p turn acc s) := by
  refine Agree.step (k := 2359296) ?_ hK hA
  clear hA hK
  unfold confirmAckRx
  repeat' (first | (intro x; first | (refine (fun (hx : Agree 2359296 s x) => ?_) ?_; clear_value x; rotate_left; subst x) | subst x) | lift_lets -underBinder | with_reducible exact Agree.refl _ _ | with_reducible assumption | with_reducible refine Agree.foldl ?_ ?_ | with_reducible refine Agree.foldl_snd ?_ ?_ | with_reducible refine Agree.foldl_fst ?_ ?_ | with_reducible refine Agree.foldl_thd ?_ ?_ | with_reducible apply @agree_mdPp 2359296 _ (by decide) | with_reducible apply @agree_ackEntry 2359296 _ (by decide) | with_reducible refine Agree.of_snd (by assumption) ?_ | with_reducible refine Agree.of_fst (by assumption) ?_ | split | dsimp only | (intro t ht; with_reducible assumption) | intro)

theorem agree_confirmUnitWrite {μ : Nat} {σ : State} (hK : 3145729 ||| μ = μ) (s : State) (hA : Agree μ σ s) : Agree μ σ (confirmUnitWrite s) := by
  refine Agree.step (k := 3145729) ?_ hK hA
  clear hA hK
  unfold confirmUnitWrite
  repeat' (first | (intro x; first | (refine (fun (hx : Agree 3145729 s x) => ?_) ?_; clear_value x; rotate_left; subst x) | subst x) | lift_lets -underBinder | with_reducible exact Agree.refl _ _ | with_reducible assumption | with_reducible apply @agree_pump 3145729 _ (by decide) | with_reducible apply @agree_fillStripe 3145729 _ (by decide) | with_reducible apply @agree_writeConfirm 3145729 _ (by decide) | with_reducible refine Agree.of_snd (by assumption) ?_ | with_reducible refine Agree.of_fst (by assumption) ?_ | split | dsimp only | (intro t ht; with_reducible assumption) | intro)

theorem agree_copyChunk {μ : Nat} {σ : State} (hK : 3145729 ||| μ = μ) (p : Nat) (c : Copy) (chunk : Nat) (gen : Nat) (st : Nat) (data : Chunk) (s : State) (hA : Agree μ σ s) : Agree μ σ (copyChunk p c chunk gen st data s) := by
  refine Agree.step (k := 3145729) ?_ hK hA
  clear hA hK
  unfold copyChunk
  repeat' (first | (intro x; first | (refine (fun (hx : Agree 3145729 s x) => ?_) ?_; clear_value x; rotate_left; subst x) | subst x) | lift_lets -underBinder | with_reducible exact Agree.refl _ _ | with_reducible assumption | with_reducible apply @agree_pump 3145729 _ (by decide) | with_reducible apply @agree_openStripe 3145729 _ (by decide) | with_reducible apply @agree_addUnit 3145729 _ (by decide) | with_reducible apply @agree_mdPp 3145729 _ (by decide) | with_reducible refine Agree.of_snd (by assumption) ?_ | with_reducible refine Agree.of_fst (by assumption) ?_ | split | dsimp only | (intro t ht; with_reducible assumption) | intro)

theorem agree_copyData {μ : Nat} {σ : State} (hK : 3416065 ||| μ = μ) (p : Nat) (sq : Nat) (c : Copy) (chunk : Nat) (gen : Nat) (st : Nat) (data : Chunk) (s : State) (hA : Agree μ σ s) : Agree μ σ (copyData p sq c chunk gen st data s) := by
  refine Agree.step (k := 3416065) ?_ hK hA
  clear hA hK
  unfold copyData
  repeat' (first | (intro x; first | (refine (fun (hx : Agree 3416065 s x) => ?_) ?_; clear_value x; rotate_left; subst x) | subst x) | lift_lets -underBinder | with_reducible exact Agree.refl _ _ | with_reducible assumption | with_reducible apply @agree_mdPp 3416065 _ (by decide) | with_reducible apply @agree_send 3416065 _ (by decide) | with_reducible apply @agree_copyChunk 3416065 _ (by decide) | with_reducible apply @agree_protoErr 3416065 _ (by decide) | with_reducible refine Agree.of_snd (by assumption) ?_ | with_reducible refine Agree.of_fst (by assumption) ?_ | split | dsimp only | (intro t ht; with_reducible assumption) | intro)

theorem agree_copyTimeout {μ : Nat} {σ : State} (hK : 2359296 ||| μ = μ) (p : Nat) (sq : Nat) (s : State) (hA : Agree μ σ s) : Agree μ σ (copyTimeout p sq s) := by
  refine Agree.step (k := 2359296) ?_ hK hA
  clear hA hK
  unfold copyTimeout
  repeat' (first | (intro x; first | (refine (fun (hx : Agree 2359296 s x) => ?_) ?_; clear_value x; rotate_left; subst x) | subst x) | lift_lets -underBinder | with_reducible exact Agree.refl _ _ | with_reducible assumption | with_reducible apply @agree_mdPp 2359296 _ (by decide) | with_reducible apply @agree_send 2359296 _ (by decide) | with_reducible refine Agree.of_snd (by assumption) ?_ | with_reducible refine Agree.of_fst (by assumption) ?_ | split | dsimp only | (intro t ht; with_reducible assumption) | intro)

theorem agree_logStripeDone {μ : Nat} {σ : State} (hK : 2097152 ||| μ = μ) (t : Stripe) (s0 : State) (hA : Agree μ σ s0) : Agree μ σ (logStripeDone t s0) := by
  refine Agree.step (k := 2097152) ?_ hK hA
  clear hA hK
  unfold logStripeDone
  repeat' (first | (intro x; first | (refine (fun (hx : Agree 2097152 s0 x) => ?_) ?_; clear_value x; rotate_left; subst x) | subst x) | lift_lets -underBinder | with_reducible exact Agree.refl _ _ | with_reducible assumption | with_reducible refine Agree.forN ?_ ?_ | with_reducible apply @agree_confUnitsDone 2097152 _ (by decide) | with_reducible apply @agree_mdPp 2097152 _ (by decide) | with_reducible apply @agree_raiseHwm 2097152 _ (by decide) | with_reducible refine Agree.of_snd (by assumption) ?_ | with_reducible refine Agree.of_fst (by assumption) ?_ | split | dsimp only | (intro t ht; with_reducible assumption) | intro)

theorem agree_governorStep {μ : Nat} {σ : State} (hK : 3145988 ||| μ = μ) (s0 : State) (hA : Agree μ σ s0) : Agree μ σ (governorStep s0) := by
  refine Agree.step (k := 3145988) ?_ hK hA
  clear hA hK
  unfold governorStep
  repeat' (first | (intro x; first | (refine (fun (hx : Agree 3145988 s0 x) => ?_) ?_; clear_value x; rotate_left; subst x) | subst x) | lift_lets -underBinder | with_reducible exact Agree.refl _ _ | with_reducible assumption | ((conv => (arg 3; arg 27; skip)); with_reducible refine Agree.upd_aon_stage _ _ (by decide) ?_) | with_reducible apply @agree_setEvt 3145988 _ (by decide) | with_reducible apply @agree_mdVault 3145988 _ (by decide) | with_reducible refine Agree.of_snd (by assumption) ?_ | with_reducible refine Agree.of_fst (by assumption) ?_ | split | dsimp only | (intro t ht; with_reducible assumption) | intro)

theorem agree_mapTurn {μ : Nat} {σ : State} (hK : 2359296 ||| μ = μ) (s : State) (hA : Agree μ σ s) : Agree μ σ (mapTurn s) := by
  refine Agree.step (k := 2359296) ?_ hK hA
  clear hA hK
  unfold mapTurn
  repeat' (first | (intro x; first | (refine (fun (hx : Agree 2359296 s x) => ?_) ?_; clear_value x; rotate_left; subst x) | subst x) | lift_lets -underBinder | with_reducible exact Agree.refl _ _ | with_reducible assumption | with_reducible refine Agree.forN ?_ ?_ | with_reducible refine Agree.forL ?_ ?_ | with_reducible apply @agree_mdPp 2359296 _ (by decide) | with_reducible apply @agree_askMap 2359296 _ (by decide) | with_reducible refine Agree.of_snd (by assumption) ?_ | with_reducible refine Agree.of_fst (by assumption) ?_ | split | dsimp only | (intro t ht; with_reducible assumption) | intro)

theorem agree_sendConfirms {μ : Nat} {σ : State} (hK : 2359296 ||| μ = μ) (s : State) (hA : Agree μ σ s) : Agree μ σ (sendConfirms s) := by
  refine Agree.step (k := 2359296) ?_ hK hA
  clear hA hK
  unfold sendConfirms
  repeat' (first | (intro x; first | (refine (fun (hx : Agree 2359296 s x) => ?_) ?_; clear_value x; rotate_left; subst x) | subst x) | lift_lets -underBinder | with_reducible exact Agree.refl _ _ | with_reducible assumption | with_reducible refine Agree.forL ?_ ?_ | with_reducible apply @agree_mdPp 2359296 _ (by decide) | with_reducible apply @agree_send 2359296 _ (by decide) | with_reducible refine Agree.of_snd (by assumption) ?_ | with_reducible refine Agree.of_fst (by assumption) ?_ | split | dsimp only | (intro t ht; with_reducible assumption) | intro)

theorem agree_openCopy {μ : Nat} {σ : State} (hK : 2359296 ||| μ = μ) (p : Nat) (sq : Nat) (s : State) (hA : Agree μ σ s) : Agree μ σ (openCopy p sq s) := by
  refine Agree.step (k := 2359296) ?_ hK hA
  clear hA hK
  unfold openCopy
  repeat' (first | (intro x; first | (refine (fun (hx : Agree 2359296 s x) => ?_) ?_; clear_value x; rotate_left; subst x) | subst x) | lift_lets -underBinder | with_reducible exact Agree.refl _ _ | with_reducible assumption | ((conv => (arg 3; arg 27; skip)); with_reducible refine Agree.upd_stage _ (by decide) ?_) | with_reducible apply @agree_mdPp 2359296 _ (by decide) | with_reducible apply @agree_send 2359296 _ (by decide) | with_reducible refine Agree.of_snd (by assumption) ?_ | with_reducible refine Agree.of_fst (by assumption) ?_ | split | dsimp only | (intro t ht; with_reducible assumption) | intro)

theorem agree_spendClass {μ : Nat} {σ : State} (hK : 2359296 ||| μ = μ) (ports : List Nat) (budget : Nat) (s : State) (hA : Agree μ σ s) : Agree μ σ (spendClass ports budget s).2 := by
  refine Agree.step (k := 2359296) ?_ hK hA
  clear hA hK
  unfold spendClass
  repeat' (first | (intro x; first | (refine (fun (hx : Agree 2359296 s x) => ?_) ?_; clear_value x; rotate_left; subst x) | subst x) | lift_lets -underBinder | with_reducible exact Agree.refl _ _ | with_reducible assumption | with_reducible refine Agree.foldl ?_ ?_ | with_reducible refine Agree.foldl_snd ?_ ?_ | with_reducible refine Agree.foldl_fst ?_ ?_ | with_reducible refine Agree.foldl_thd ?_ ?_ | with_reducible refine Agree.forL ?_ ?_ | with_reducible apply @agree_openCopy 2359296 _ (by decide) | with_reducible refine Agree.of_snd (by assumption) ?_ | with_reducible refine Agree.of_fst (by assumption) ?_ | split | dsimp only | (intro t ht; with_reducible assumption) | intro)

theorem agree_spendGrant {μ : Nat} {σ : State} (hK : 2359296 ||| μ = μ) (s : State) (hA : Agree μ σ s) : Agree μ σ (spendGrant s) := by
  refine Agree.step (k := 2359296) ?_ hK hA
  clear hA hK
  unfold spendGrant
  repeat' (first | (intro x; first | (refine (fun (hx : Agree 2359296 s x) => ?_) ?_; clear_value x; rotate_left; subst x) | subst x) | lift_lets -underBinder | with_reducible exact Agree.refl _ _ | with_reducible assumption | with_reducible apply @agree_spendClass 2359296 _ (by decide) | with_reducible refine Agree.of_snd (by assumption) ?_ | with_reducible refine Agree.of_fst (by assumption) ?_ | split | dsimp only | (intro t ht; with_reducible assumption) | intro)

theorem agree_logStripeFill {μ : Nat} {σ : State} (hK : 3145729 ||| μ = μ) (s : State) (hA : Agree μ σ s) : Agree μ σ (logStripeFill s) := by
  refine Agree.step (k := 3145729) ?_ hK hA
  clear hA hK
  unfold logStripeFill
  repeat' (first | (intro x; first | (refine (fun (hx : Agree 3145729 s x) => ?_) ?_; clear_value x; rotate_left; subst x) | subst x) | lift_lets -underBinder | with_reducible exact Agree.refl _ _ | with_reducible assumption | with_reducible apply @agree_pump 3145729 _ (by decide) | with_reducible apply @agree_fillStripe 3145729 _ (by decide) | with_reducible refine Agree.of_snd (by assumption) ?_ | with_reducible refine Agree.of_fst (by assumption) ?_ | split | dsimp only | (intro t ht; with_reducible assumption) | intro)

theorem agree_mapWord {μ : Nat} {σ : State} (hK : 2359552 ||| μ = μ) (p : Nat) (reqNo : Nat) (w : Nat) (sts : List Nat) (s : State) (hA : Agree μ σ s) : Agree μ σ (mapWord p reqNo w sts s) := by
  refine Agree.step (k := 2359552) ?_ hK hA
  clear hA hK
  unfold mapWord
  repeat' (first | (intro x; first | (refine (fun (hx : Agree 2359552 s x) => ?_) ?_; clear_value x; rotate_left; subst x) | subst x) | lift_lets -underBinder | with_reducible exact Agree.refl _ _ | with_reducible assumption | with_reducible apply @agree_setEvt 2359552 _ (by decide) | with_reducible apply @agree_mdPp 2359552 _ (by decide) | with_reducible apply @agree_sendRevert 2359552 _ (by decide) | with_reducible refine Agree.of_snd (by assumption) ?_ | with_reducible refine Agree.of_fst (by assumption) ?_ | split | dsimp only | (intro t ht; with_reducible assumption) | intro)

theorem agree_mapRx {μ : Nat} {σ : State} (hK : 2359552 ||| μ = μ) (p : Nat) (tag : Nat) (first : Nat) (words : List (List Nat)) (s : State) (hA : Agree μ σ s) : Agree μ σ (mapRx p tag first words s) := by
  refine Agree.step (k := 2359552) ?_ hK hA
  clear hA hK
  unfold mapRx
  repeat' (first | (intro x; first | (refine (fun (hx : Agree 2359552 s x) => ?_) ?_; clear_value x; rotate_left; subst x) | subst x) | lift_lets -underBinder | with_reducible exact Agree.refl _ _ | with_reducible assumption | with_reducible refine Agree.foldl ?_ ?_ | with_reducible refine Agree.foldl_snd ?_ ?_ | with_reducible refine Agree.foldl_fst ?_ ?_ | with_reducible refine Agree.foldl_thd ?_ ?_ | with_reducible apply @agree_mdPp 2359552 _ (by decide) | with_reducible apply @agree_askMap 2359552 _ (by decide) | with_reducible apply @agree_mapWord 2359552 _ (by decide) | with_reducible refine Agree.of_snd (by assumption) ?_ | with_reducible refine Agree.of_fst (by assumption) ?_ | split | dsimp only | (intro t ht; with_reducible assumption) | intro)

theorem agree_stageHost {μ : Nat} {σ : State} (hK : 2097152 ||| μ = μ) (w : Word) (s : State) (hA : Agree μ σ s) : Agree μ σ (stageHost w s) := by
  refine Agree.step (k := 2097152) ?_ hK hA
  clear hA hK
  unfold stageHost
  repeat' (first | (intro x; first | (refine (fun (hx : Agree 2097152 s x) => ?_) ?_; clear_value x; rotate_left; subst x) | subst x) | lift_lets -underBinder | with_reducible exact Agree.refl _ _ | with_reducible assumption | ((conv => (arg 3; arg 27; skip)); with_reducible refine Agree.upd_stage _ (by decide) ?_) | with_reducible refine Agree.of_snd (by assumption) ?_ | with_reducible refine Agree.of_fst (by assumption) ?_ | split | dsimp only | (intro t ht; with_reducible assumption) | intro)

theorem agree_revertAckRx {μ : Nat} {σ : State} (hK : 2359296 ||| μ = μ) (p : Nat) (count : Nat) (ovf : Bool) (s : State) (hA : Agree μ σ s) : Agree μ σ (revertAckRx p count ovf s) := by
  refine Agree.step (k := 2359296) ?_ hK hA
  clear hA hK
  unfold revertAckRx
  repeat' (first | (intro x; first | (refine (fun (hx : Agree 2359296 s x) => ?_) ?_; clear_value x; rotate_left; subst x) | subst x) | lift_lets -underBinder | with_reducible exact Agree.refl _ _ | with_reducible assumption | with_reducible apply @agree_mdLk 2359296 _ (by decide) | with_reducible apply @agree_mdPp 2359296 _ (by decide) | with_reducible refine Agree.of_snd (by assumption) ?_ | with_reducible refine Agree.of_fst (by assumption) ?_ | split | dsimp only | (intro t ht; with_reducible assumption) | intro)

end State
end Sys2Proof.Machine
end

