-- ==== Sys2Proof/Laws/AgreeSave.lean ====
section
/-! SUPPORT. The fields of State that each function of Machine/Save.lean can change. -/
set_option Elab.async false

set_option linter.unusedTactic false
set_option linter.unreachableTactic false

namespace Sys2Proof.Machine
namespace State

theorem agree_mdSave {μ : Nat} {σ : State} (hK : 4194304 ||| μ = μ) (f : Save → Save) (s : State) (hA : Agree μ σ s) : Agree μ σ (mdSave f s) := by
  refine Agree.step (k := 4194304) ?_ hK hA
  clear hA hK
  unfold mdSave
  repeat' (first | (intro x; first | (refine (fun (hx : Agree 4194304 s x) => ?_) ?_; clear_value x; rotate_left; subst x) | subst x) | lift_lets -underBinder | with_reducible exact Agree.refl _ _ | with_reducible assumption | ((conv => (arg 3; arg 27; skip)); with_reducible refine Agree.upd_save _ (by decide) ?_) | with_reducible refine Agree.of_snd (by assumption) ?_ | with_reducible refine Agree.of_fst (by assumption) ?_ | split | dsimp only | (intro t ht; with_reducible assumption) | intro)

theorem agree_assertFrz {μ : Nat} {σ : State} (hK : 128 ||| μ = μ) (s : State) (hA : Agree μ σ s) : Agree μ σ (assertFrz s) := by
  refine Agree.step (k := 128) ?_ hK hA
  clear hA hK
  unfold assertFrz
  repeat' (first | (intro x; first | (refine (fun (hx : Agree 128 s x) => ?_) ?_; clear_value x; rotate_left; subst x) | subst x) | lift_lets -underBinder | with_reducible exact Agree.refl _ _ | with_reducible assumption | ((conv => (arg 3; arg 27; skip)); with_reducible refine Agree.upd_top _ (by decide) ?_) | with_reducible refine Agree.of_snd (by assumption) ?_ | with_reducible refine Agree.of_fst (by assumption) ?_ | split | dsimp only | (intro t ht; with_reducible assumption) | intro)

theorem agree_promote {μ : Nat} {σ : State} (hK : 4263936 ||| μ = μ) (s : State) (hA : Agree μ σ s) : Agree μ σ (promote s) := by
  refine Agree.step (k := 4263936) ?_ hK hA
  clear hA hK
  unfold promote
  repeat' (first | (intro x; first | (refine (fun (hx : Agree 4263936 s x) => ?_) ?_; clear_value x; rotate_left; subst x) | subst x) | lift_lets -underBinder | with_reducible exact Agree.refl _ _ | with_reducible assumption | with_reducible apply @agree_mdSave 4263936 _ (by decide) | with_reducible apply @agree_marginCancel 4263936 _ (by decide) | with_reducible apply @agree_saveProfileDown 4263936 _ (by decide) | with_reducible refine Agree.of_snd (by assumption) ?_ | with_reducible refine Agree.of_fst (by assumption) ?_ | split | dsimp only | (intro t ht; with_reducible assumption) | intro)

theorem agree_saveBegin {μ : Nat} {σ : State} (hK : 6054272 ||| μ = μ) (rank : Nat) (also : BitVec 8) (test : Bool) (cal : Bool) (s0 : State) (hA : Agree μ σ s0) : Agree μ σ (saveBegin rank also test cal s0) := by
  refine Agree.step (k := 6054272) ?_ hK hA
  clear hA hK
  unfold saveBegin
  repeat' (first | (intro x; first | (refine (fun (hx : Agree 6054272 s0 x) => ?_) ?_; clear_value x; rotate_left; subst x) | subst x) | lift_lets -underBinder | with_reducible exact Agree.refl _ _ | with_reducible assumption | ((conv => (arg 3; arg 27; skip)); with_reducible refine Agree.upd_top_stake _ _ (by decide) ?_) | ((conv => (arg 3; arg 27; skip)); with_reducible refine Agree.upd_vault_save _ _ (by decide) ?_) | with_reducible refine Agree.forN ?_ ?_ | with_reducible apply @agree_setEvt 6054272 _ (by decide) | with_reducible apply @agree_mdSled 6054272 _ (by decide) | with_reducible apply @agree_mdRing 6054272 _ (by decide) | with_reducible apply @agree_unraise 6054272 _ (by decide) | with_reducible apply @agree_assertFrz 6054272 _ (by decide) | with_reducible apply @agree_count 6054272 _ (by decide) | with_reducible apply @agree_mdLk 6054272 _ (by decide) | with_reducible apply @agree_sendFreeze 6054272 _ (by decide) | with_reducible refine Agree.of_snd (by assumption) ?_ | with_reducible refine Agree.of_fst (by assumption) ?_ | split | dsimp only | (intro t ht; with_reducible assumption) | intro)

theorem agree_uncountTrip {μ : Nat} {σ : State} (hK : 16384 ||| μ = μ) (s : State) (hA : Agree μ σ s) : Agree μ σ (uncountTrip s) := by
  refine Agree.step (k := 16384) ?_ hK hA
  clear hA hK
  unfold uncountTrip
  repeat' (first | (intro x; first | (refine (fun (hx : Agree 16384 s x) => ?_) ?_; clear_value x; rotate_left; subst x) | subst x) | lift_lets -underBinder | with_reducible exact Agree.refl _ _ | with_reducible assumption | ((conv => (arg 3; arg 27; skip)); with_reducible refine Agree.upd_ledg _ (by decide) ?_) | with_reducible refine Agree.of_snd (by assumption) ?_ | with_reducible refine Agree.of_fst (by assumption) ?_ | split | dsimp only | (intro t ht; with_reducible assumption) | intro)

theorem agree_saveLate {μ : Nat} {σ : State} (hK : 4280576 ||| μ = μ) (rank : Nat) (s : State) (hA : Agree μ σ s) : Agree μ σ (saveLate rank s) := by
  refine Agree.step (k := 4280576) ?_ hK hA
  clear hA hK
  unfold saveLate
  repeat' (first | (intro x; first | (refine (fun (hx : Agree 4280576 s x) => ?_) ?_; clear_value x; rotate_left; subst x) | subst x) | lift_lets -underBinder | with_reducible exact Agree.refl _ _ | with_reducible assumption | with_reducible apply @agree_mdSave 4280576 _ (by decide) | with_reducible apply @agree_promote 4280576 _ (by decide) | with_reducible apply @agree_count 4280576 _ (by decide) | with_reducible apply @agree_uncountTrip 4280576 _ (by decide) | with_reducible refine Agree.of_snd (by assumption) ?_ | with_reducible refine Agree.of_fst (by assumption) ?_ | split | dsimp only | (intro t ht; with_reducible assumption) | intro)

theorem agree_tripNoSave {μ : Nat} {σ : State} (hK : 16772 ||| μ = μ) (rank : Nat) (also : BitVec 8) (s : State) (hA : Agree μ σ s) : Agree μ σ (tripNoSave rank also s) := by
  refine Agree.step (k := 16772) ?_ hK hA
  clear hA hK
  unfold tripNoSave
  repeat' (first | (intro x; first | (refine (fun (hx : Agree 16772 s x) => ?_) ?_; clear_value x; rotate_left; subst x) | subst x) | lift_lets -underBinder | with_reducible exact Agree.refl _ _ | with_reducible assumption | ((conv => (arg 3; arg 27; skip)); with_reducible refine Agree.upd_aon _ (by decide) ?_) | ((conv => (arg 3; arg 27; skip)); with_reducible refine Agree.upd_top _ (by decide) ?_) | with_reducible apply @agree_assertFrz 16772 _ (by decide) | with_reducible apply @agree_count 16772 _ (by decide) | with_reducible refine Agree.of_snd (by assumption) ?_ | with_reducible refine Agree.of_fst (by assumption) ?_ | split | dsimp only | (intro t ht; with_reducible assumption) | intro)

theorem agree_mdSv {μ : Nat} {σ : State} (hK : 4194304 ||| μ = μ) (p : Nat) (f : SvPort → SvPort) (s : State) (hA : Agree μ σ s) : Agree μ σ (mdSv p f s) := by
  refine Agree.step (k := 4194304) ?_ hK hA
  clear hA hK
  unfold mdSv
  repeat' (first | (intro x; first | (refine (fun (hx : Agree 4194304 s x) => ?_) ?_; clear_value x; rotate_left; subst x) | subst x) | lift_lets -underBinder | with_reducible exact Agree.refl _ _ | with_reducible assumption | ((conv => (arg 3; arg 27; skip)); with_reducible refine Agree.upd_save _ (by decide) ?_) | with_reducible refine Agree.of_snd (by assumption) ?_ | with_reducible refine Agree.of_fst (by assumption) ?_ | split | dsimp only | (intro t ht; with_reducible assumption) | intro)

theorem agree_buildSet {μ : Nat} {σ : State} (hK : 4194304 ||| μ = μ) (p : Nat) (m : FrozenMsg) (s : State) (hA : Agree μ σ s) : Agree μ σ (buildSet p m s) := by
  refine Agree.step (k := 4194304) ?_ hK hA
  clear hA hK
  unfold buildSet
  repeat' (first | (intro x; first | (refine (fun (hx : Agree 4194304 s x) => ?_) ?_; clear_value x; rotate_left; subst x) | subst x) | lift_lets -underBinder | with_reducible exact Agree.refl _ _ | with_reducible assumption | with_reducible apply @agree_mdSv 4194304 _ (by decide) | with_reducible refine Agree.of_snd (by assumption) ?_ | with_reducible refine Agree.of_fst (by assumption) ?_ | split | dsimp only | (intro t ht; with_reducible assumption) | intro)

theorem agree_buildUnconf {μ : Nat} {σ : State} (hK : 4194304 ||| μ = μ) (p : Nat) (s : State) (hA : Agree μ σ s) : Agree μ σ (buildUnconf p s) := by
  refine Agree.step (k := 4194304) ?_ hK hA
  clear hA hK
  unfold buildUnconf
  repeat' (first | (intro x; first | (refine (fun (hx : Agree 4194304 s x) => ?_) ?_; clear_value x; rotate_left; subst x) | subst x) | lift_lets -underBinder | with_reducible exact Agree.refl _ _ | with_reducible assumption | with_reducible apply @agree_mdSv 4194304 _ (by decide) | with_reducible refine Agree.of_snd (by assumption) ?_ | with_reducible refine Agree.of_fst (by assumption) ?_ | split | dsimp only | (intro t ht; with_reducible assumption) | intro)

theorem agree_calFillEnd {μ : Nat} {σ : State} (hK : 4194304 ||| μ = μ) (s : State) (hA : Agree μ σ s) : Agree μ σ (calFillEnd s) := by
  refine Agree.step (k := 4194304) ?_ hK hA
  clear hA hK
  unfold calFillEnd
  repeat' (first | (intro x; first | (refine (fun (hx : Agree 4194304 s x) => ?_) ?_; clear_value x; rotate_left; subst x) | subst x) | lift_lets -underBinder | with_reducible exact Agree.refl _ _ | with_reducible assumption | with_reducible apply @agree_mdSave 4194304 _ (by decide) | with_reducible refine Agree.of_snd (by assumption) ?_ | with_reducible refine Agree.of_fst (by assumption) ?_ | split | dsimp only | (intro t ht; with_reducible assumption) | intro)

theorem agree_calResult {μ : Nat} {σ : State} (hK : 4720640 ||| μ = μ) (s0 : State) (hA : Agree μ σ s0) : Agree μ σ (calResult s0) := by
  refine Agree.step (k := 4720640) ?_ hK hA
  clear hA hK
  unfold calResult
  repeat' (first | (intro x; first | (refine (fun (hx : Agree 4720640 s0 x) => ?_) ?_; clear_value x; rotate_left; subst x) | subst x) | lift_lets -underBinder | with_reducible exact Agree.refl _ _ | with_reducible assumption | ((conv => (arg 3; arg 27; skip)); with_reducible refine Agree.upd_cmd _ (by decide) ?_) | ((conv => (arg 3; arg 27; skip)); with_reducible refine Agree.upd_stake _ (by decide) ?_) | with_reducible apply @agree_mdSave 4720640 _ (by decide) | with_reducible refine Agree.of_snd (by assumption) ?_ | with_reducible refine Agree.of_fst (by assumption) ?_ | split | dsimp only | (intro t ht; with_reducible assumption) | intro)

theorem agree_calSample {μ : Nat} {σ : State} (hK : 4198401 ||| μ = μ) (rs : List (Option (Nat × Nat))) (s : State) (hA : Agree μ σ s) : Agree μ σ (calSample rs s) := by
  refine Agree.step (k := 4198401) ?_ hK hA
  clear hA hK
  unfold calSample
  repeat' (first | (intro x; first | (refine (fun (hx : Agree 4198401 s x) => ?_) ?_; clear_value x; rotate_left; subst x) | subst x) | lift_lets -underBinder | with_reducible exact Agree.refl _ _ | with_reducible assumption | with_reducible apply @agree_mdSave 4198401 _ (by decide) | with_reducible apply @agree_tick 4198401 _ (by decide) | with_reducible apply @agree_calIssue 4198401 _ (by decide) | with_reducible refine Agree.of_snd (by assumption) ?_ | with_reducible refine Agree.of_fst (by assumption) ?_ | split | dsimp only | (intro t ht; with_reducible assumption) | intro)

theorem agree_dropMoves {μ : Nat} {σ : State} (hK : 1048576 ||| μ = μ) (data : Bool) (s : State) (hA : Agree μ σ s) : Agree μ σ (dropMoves data s) := by
  refine Agree.step (k := 1048576) ?_ hK hA
  clear hA hK
  unfold dropMoves
  repeat' (first | (intro x; first | (refine (fun (hx : Agree 1048576 s x) => ?_) ?_; clear_value x; rotate_left; subst x) | subst x) | lift_lets -underBinder | with_reducible exact Agree.refl _ _ | with_reducible assumption | with_reducible refine Agree.forL ?_ ?_ | with_reducible apply @agree_mdVault 1048576 _ (by decide) | with_reducible apply @agree_unitLost 1048576 _ (by decide) | with_reducible refine Agree.of_snd (by assumption) ?_ | with_reducible refine Agree.of_fst (by assumption) ?_ | split | dsimp only | (intro t ht; with_reducible assumption) | intro)

theorem agree_endMove {μ : Nat} {σ : State} (hK : 4194304 ||| μ = μ) (p : Nat) (s : State) (hA : Agree μ σ s) : Agree μ σ (endMove p s) := by
  refine Agree.step (k := 4194304) ?_ hK hA
  clear hA hK
  unfold endMove
  repeat' (first | (intro x; first | (refine (fun (hx : Agree 4194304 s x) => ?_) ?_; clear_value x; rotate_left; subst x) | subst x) | lift_lets -underBinder | with_reducible exact Agree.refl _ _ | with_reducible assumption | with_reducible apply @agree_mdSv 4194304 _ (by decide) | with_reducible apply @agree_buildUnconf 4194304 _ (by decide) | with_reducible refine Agree.of_snd (by assumption) ?_ | with_reducible refine Agree.of_fst (by assumption) ?_ | split | dsimp only | (intro t ht; with_reducible assumption) | intro)

theorem agree_endMoves {μ : Nat} {σ : State} (hK : 4194304 ||| μ = μ) (s : State) (hA : Agree μ σ s) : Agree μ σ (endMoves s) := by
  refine Agree.step (k := 4194304) ?_ hK hA
  clear hA hK
  unfold endMoves
  repeat' (first | (intro x; first | (refine (fun (hx : Agree 4194304 s x) => ?_) ?_; clear_value x; rotate_left; subst x) | subst x) | lift_lets -underBinder | with_reducible exact Agree.refl _ _ | with_reducible assumption | with_reducible refine Agree.forL ?_ ?_ | with_reducible apply @agree_endMove 4194304 _ (by decide) | with_reducible refine Agree.of_snd (by assumption) ?_ | with_reducible refine Agree.of_fst (by assumption) ?_ | split | dsimp only | (intro t ht; with_reducible assumption) | intro)

theorem agree_class1Cut {μ : Nat} {σ : State} (hK : 7348481 ||| μ = μ) (s : State) (hA : Agree μ σ s) : Agree μ σ (class1Cut s) := by
  refine Agree.step (k := 7348481) ?_ hK hA
  clear hA hK
  unfold class1Cut
  repeat' (first | (intro x; first | (refine (fun (hx : Agree 7348481 s x) => ?_) ?_; clear_value x; rotate_left; subst x) | subst x) | lift_lets -underBinder | with_reducible exact Agree.refl _ _ | with_reducible assumption | with_reducible apply @agree_setEvt 7348481 _ (by decide) | with_reducible apply @agree_mdSave 7348481 _ (by decide) | with_reducible apply @agree_pump 7348481 _ (by decide) | with_reducible apply @agree_raise 7348481 _ (by decide) | with_reducible apply @agree_fillStripe 7348481 _ (by decide) | with_reducible apply @agree_dropMoves 7348481 _ (by decide) | with_reducible apply @agree_endMoves 7348481 _ (by decide) | with_reducible refine Agree.of_snd (by assumption) ?_ | with_reducible refine Agree.of_fst (by assumption) ?_ | split | dsimp only | (intro t ht; with_reducible assumption) | intro)

theorem agree_class1End {μ : Nat} {σ : State} (hK : 4194304 ||| μ = μ) (s : State) (hA : Agree μ σ s) : Agree μ σ (class1End s) := by
  refine Agree.step (k := 4194304) ?_ hK hA
  clear hA hK
  unfold class1End
  repeat' (first | (intro x; first | (refine (fun (hx : Agree 4194304 s x) => ?_) ?_; clear_value x; rotate_left; subst x) | subst x) | lift_lets -underBinder | with_reducible exact Agree.refl _ _ | with_reducible assumption | with_reducible refine Agree.forN ?_ ?_ | with_reducible apply @agree_mdSave 4194304 _ (by decide) | with_reducible apply @agree_mdSv 4194304 _ (by decide) | with_reducible refine Agree.of_snd (by assumption) ?_ | with_reducible refine Agree.of_fst (by assumption) ?_ | split | dsimp only | (intro t ht; with_reducible assumption) | intro)

theorem agree_class1Fill {μ : Nat} {σ : State} (hK : 3145729 ||| μ = μ) (s : State) (hA : Agree μ σ s) : Agree μ σ (class1Fill s) := by
  refine Agree.step (k := 3145729) ?_ hK hA
  clear hA hK
  unfold class1Fill
  repeat' (first | (intro x; first | (refine (fun (hx : Agree 3145729 s x) => ?_) ?_; clear_value x; rotate_left; subst x) | subst x) | lift_lets -underBinder | with_reducible exact Agree.refl _ _ | with_reducible assumption | with_reducible apply @agree_pump 3145729 _ (by decide) | with_reducible apply @agree_fillStripe 3145729 _ (by decide) | with_reducible refine Agree.of_snd (by assumption) ?_ | with_reducible refine Agree.of_fst (by assumption) ?_ | split | dsimp only | (intro t ht; with_reducible assumption) | intro)

theorem agree_class2Cut {μ : Nat} {σ : State} (hK : 4194304 ||| μ = μ) (s : State) (hA : Agree μ σ s) : Agree μ σ (class2Cut s) := by
  refine Agree.step (k := 4194304) ?_ hK hA
  clear hA hK
  unfold class2Cut
  repeat' (first | (intro x; first | (refine (fun (hx : Agree 4194304 s x) => ?_) ?_; clear_value x; rotate_left; subst x) | subst x) | lift_lets -underBinder | with_reducible exact Agree.refl _ _ | with_reducible assumption | with_reducible refine Agree.forN ?_ ?_ | with_reducible apply @agree_mdSave 4194304 _ (by decide) | with_reducible apply @agree_mdSv 4194304 _ (by decide) | with_reducible refine Agree.of_snd (by assumption) ?_ | with_reducible refine Agree.of_fst (by assumption) ?_ | split | dsimp only | (intro t ht; with_reducible assumption) | intro)

theorem agree_cutStripe {μ : Nat} {σ : State} (hK : 1048576 ||| μ = μ) (s : State) (hA : Agree μ σ s) : Agree μ σ (cutStripe s) := by
  refine Agree.step (k := 1048576) ?_ hK hA
  clear hA hK
  unfold cutStripe
  repeat' (first | (intro x; first | (refine (fun (hx : Agree 1048576 s x) => ?_) ?_; clear_value x; rotate_left; subst x) | subst x) | lift_lets -underBinder | with_reducible exact Agree.refl _ _ | with_reducible assumption | with_reducible apply @agree_mdVault 1048576 _ (by decide) | with_reducible refine Agree.of_snd (by assumption) ?_ | with_reducible refine Agree.of_fst (by assumption) ?_ | split | dsimp only | (intro t ht; with_reducible assumption) | intro)

theorem agree_readSquare {μ : Nat} {σ : State} (hK : 6553600 ||| μ = μ) (p : Nat) (s : State) (hA : Agree μ σ s) : Agree μ σ (readSquare p s) := by
  refine Agree.step (k := 6553600) ?_ hK hA
  clear hA hK
  unfold readSquare
  repeat' (first | (intro x; first | (refine (fun (hx : Agree 6553600 s x) => ?_) ?_; clear_value x; rotate_left; subst x) | subst x) | lift_lets -underBinder | with_reducible exact Agree.refl _ _ | with_reducible assumption | ((conv => (arg 3; arg 27; skip)); with_reducible refine Agree.upd_stage _ (by decide) ?_) | with_reducible apply @agree_mdSave 6553600 _ (by decide) | with_reducible apply @agree_send 6553600 _ (by decide) | with_reducible apply @agree_mdSv 6553600 _ (by decide) | with_reducible refine Agree.of_snd (by assumption) ?_ | with_reducible refine Agree.of_fst (by assumption) ?_ | split | dsimp only | (intro t ht; with_reducible assumption) | intro)

theorem agree_moveReads {μ : Nat} {σ : State} (hK : 6553600 ||| μ = μ) (x0 : Nat) (x1 : State) (hA : Agree μ σ x1) : Agree μ σ (moveReads x0 x1) := by
  induction x0 generalizing x1 with
  | zero => unfold moveReads; exact hA
  | succ x0 ih =>
  unfold moveReads
  repeat' (first | (intro x; first | (refine (fun (hx : Agree μ σ x) => ?_) ?_; clear_value x; rotate_left; subst x) | subst x) | lift_lets -underBinder | with_reducible exact Agree.refl _ _ | with_reducible assumption | with_reducible apply ih | with_reducible apply @agree_readSquare μ _ (Agree.sub_of hK (by decide)) | with_reducible refine Agree.of_snd (by assumption) ?_ | with_reducible refine Agree.of_fst (by assumption) ?_ | split | dsimp only | (intro t ht; with_reducible assumption) | intro)

theorem agree_moveData {μ : Nat} {σ : State} (hK : 7610369 ||| μ = μ) (p : Nat) (r : SqRead) (chunk : Nat) (gen : Nat) (data : Chunk) (trayErr : Bool) (s : State) (hA : Agree μ σ s) : Agree μ σ (moveData p r chunk gen data trayErr s) := by
  refine Agree.step (k := 7610369) ?_ hK hA
  clear hA hK
  unfold moveData
  repeat' (first | (intro x; first | (refine (fun (hx : Agree 7610369 s x) => ?_) ?_; clear_value x; rotate_left; subst x) | subst x) | lift_lets -underBinder | with_reducible exact Agree.refl _ _ | with_reducible assumption | with_reducible apply @agree_mdSave 7610369 _ (by decide) | with_reducible apply @agree_pump 7610369 _ (by decide) | with_reducible apply @agree_addUnit 7610369 _ (by decide) | with_reducible apply @agree_send 7610369 _ (by decide) | with_reducible apply @agree_mdSv 7610369 _ (by decide) | with_reducible apply @agree_raiseTurn 7610369 _ (by decide) | with_reducible apply @agree_moveReads 7610369 _ (by decide) | with_reducible refine Agree.of_snd (by assumption) ?_ | with_reducible refine Agree.of_fst (by assumption) ?_ | split | dsimp only | (intro t ht; with_reducible assumption) | intro)

theorem agree_fillUnits {μ : Nat} {σ : State} (hK : 3145729 ||| μ = μ) (s : State) (hA : Agree μ σ s) : Agree μ σ (fillUnits s) := by
  refine Agree.step (k := 3145729) ?_ hK hA
  clear hA hK
  unfold fillUnits
  repeat' (first | (intro x; first | (refine (fun (hx : Agree 3145729 s x) => ?_) ?_; clear_value x; rotate_left; subst x) | subst x) | lift_lets -underBinder | with_reducible exact Agree.refl _ _ | with_reducible assumption | with_reducible refine Agree.forL ?_ ?_ | with_reducible apply @agree_pump 3145729 _ (by decide) | with_reducible apply @agree_queueUnit 3145729 _ (by decide) | with_reducible apply @agree_takeSeq 3145729 _ (by decide) | with_reducible refine Agree.of_snd (by assumption) ?_ | with_reducible refine Agree.of_fst (by assumption) ?_ | split | dsimp only | (intro t ht; with_reducible assumption) | intro)

theorem agree_lastFill {μ : Nat} {σ : State} (hK : 3145729 ||| μ = μ) (s : State) (hA : Agree μ σ s) : Agree μ σ (lastFill s) := by
  refine Agree.step (k := 3145729) ?_ hK hA
  clear hA hK
  unfold lastFill
  repeat' (first | (intro x; first | (refine (fun (hx : Agree 3145729 s x) => ?_) ?_; clear_value x; rotate_left; subst x) | subst x) | lift_lets -underBinder | with_reducible exact Agree.refl _ _ | with_reducible assumption | with_reducible apply @agree_pump 3145729 _ (by decide) | with_reducible apply @agree_fillStripe 3145729 _ (by decide) | with_reducible refine Agree.of_snd (by assumption) ?_ | with_reducible refine Agree.of_fst (by assumption) ?_ | split | dsimp only | (intro t ht; with_reducible assumption) | intro)

theorem agree_noSledLeft {μ : Nat} {σ : State} (hK : 5242880 ||| μ = μ) (s : State) (hA : Agree μ σ s) : Agree μ σ (noSledLeft s) := by
  refine Agree.step (k := 5242880) ?_ hK hA
  clear hA hK
  unfold noSledLeft
  repeat' (first | (intro x; first | (refine (fun (hx : Agree 5242880 s x) => ?_) ?_; clear_value x; rotate_left; subst x) | subst x) | lift_lets -underBinder | with_reducible exact Agree.refl _ _ | with_reducible assumption | with_reducible refine Agree.forL ?_ ?_ | with_reducible apply @agree_mdSv 5242880 _ (by decide) | with_reducible apply @agree_dropMoves 5242880 _ (by decide) | with_reducible apply @agree_endMove 5242880 _ (by decide) | with_reducible apply @agree_cutStripe 5242880 _ (by decide) | with_reducible refine Agree.of_snd (by assumption) ?_ | with_reducible refine Agree.of_fst (by assumption) ?_ | split | dsimp only | (intro t ht; with_reducible assumption) | intro)

theorem agree_postCatOn {μ : Nat} {σ : State} (hK : 3145729 ||| μ = μ) (k : CatKind) (xs : List Nat) (body : Nat → NBody) (s : State) (hA : Agree μ σ s) : Agree μ σ (postCatOn k xs body s) := by
  refine Agree.step (k := 3145729) ?_ hK hA
  clear hA hK
  unfold postCatOn
  repeat' (first | (intro x; first | (refine (fun (hx : Agree 3145729 s x) => ?_) ?_; clear_value x; rotate_left; subst x) | subst x) | lift_lets -underBinder | with_reducible exact Agree.refl _ _ | with_reducible assumption | with_reducible refine Agree.forL ?_ ?_ | with_reducible apply @agree_mdVault 3145729 _ (by decide) | with_reducible apply @agree_pump 3145729 _ (by decide) | with_reducible apply @agree_queueUnit 3145729 _ (by decide) | with_reducible apply @agree_takeSeq 3145729 _ (by decide) | with_reducible refine Agree.of_snd (by assumption) ?_ | with_reducible refine Agree.of_fst (by assumption) ?_ | split | dsimp only | (intro t ht; with_reducible assumption) | intro)

theorem agree_postSeal {μ : Nat} {σ : State} (hK : 3145729 ||| μ = μ) (k : CatKind) (m : Manifest) (ok : List (Nat × Nat × Nat)) (s : State) (hA : Agree μ σ s) : Agree μ σ (postSeal k m ok s) := by
  refine Agree.step (k := 3145729) ?_ hK hA
  clear hA hK
  unfold postSeal
  repeat' (first | (intro x; first | (refine (fun (hx : Agree 3145729 s x) => ?_) ?_; clear_value x; rotate_left; subst x) | subst x) | lift_lets -underBinder | with_reducible exact Agree.refl _ _ | with_reducible assumption | with_reducible apply @agree_postCatOn 3145729 _ (by decide) | with_reducible refine Agree.of_snd (by assumption) ?_ | with_reducible refine Agree.of_fst (by assumption) ?_ | split | dsimp only | (intro t ht; with_reducible assumption) | intro)

theorem agree_portSealed {μ : Nat} {σ : State} (hK : 4464640 ||| μ = μ) (p : Nat) (s : State) (hA : Agree μ σ s) : Agree μ σ (portSealed p s) := by
  refine Agree.step (k := 4464640) ?_ hK hA
  clear hA hK
  unfold portSealed
  repeat' (first | (intro x; first | (refine (fun (hx : Agree 4464640 s x) => ?_) ?_; clear_value x; rotate_left; subst x) | subst x) | lift_lets -underBinder | with_reducible exact Agree.refl _ _ | with_reducible assumption | ((conv => (arg 3; arg 27; skip)); with_reducible refine Agree.upd_flt _ (by decide) ?_) | with_reducible apply @agree_mdLk 4464640 _ (by decide) | with_reducible apply @agree_mdSv 4464640 _ (by decide) | with_reducible apply @agree_toDown 4464640 _ (by decide) | with_reducible refine Agree.of_snd (by assumption) ?_ | with_reducible refine Agree.of_fst (by assumption) ?_ | split | dsimp only | (intro t ht; with_reducible assumption) | intro)

theorem agree_saveSealed {μ : Nat} {σ : State} (hK : 4749568 ||| μ = μ) (fail : Bool) (s : State) (hA : Agree μ σ s) : Agree μ σ (saveSealed fail s) := by
  refine Agree.step (k := 4749568) ?_ hK hA
  clear hA hK
  unfold saveSealed
  repeat' (first | (intro x; first | (refine (fun (hx : Agree 4749568 s x) => ?_) ?_; clear_value x; rotate_left; subst x) | subst x) | lift_lets -underBinder | with_reducible exact Agree.refl _ _ | with_reducible assumption | ((conv => (arg 3; arg 27; skip)); with_reducible refine Agree.upd_ledg_stake _ _ (by decide) ?_) | with_reducible apply @agree_setEvt 4749568 _ (by decide) | with_reducible apply @agree_mdSave 4749568 _ (by decide) | with_reducible apply @agree_follow 4749568 _ (by decide) | with_reducible apply @agree_pmbQuiet 4749568 _ (by decide) | with_reducible apply @agree_pushRec 4749568 _ (by decide) | with_reducible apply @agree_count 4749568 _ (by decide) | with_reducible apply @agree_calResult 4749568 _ (by decide) | with_reducible apply @agree_epochAsk 4749568 _ (by decide) | with_reducible refine Agree.of_snd (by assumption) ?_ | with_reducible refine Agree.of_fst (by assumption) ?_ | split | dsimp only | (intro t ht; with_reducible assumption) | intro)

theorem agree_saveCat {μ : Nat} {σ : State} (hK : 8157441 ||| μ = μ) (c : CatJob) (s : State) (hA : Agree μ σ s) : Agree μ σ (saveCat c s) := by
  refine Agree.step (k := 8157441) ?_ hK hA
  clear hA hK
  unfold saveCat
  repeat' (first | (intro x; first | (refine (fun (hx : Agree 8157441 s x) => ?_) ?_; clear_value x; rotate_left; subst x) | subst x) | lift_lets -underBinder | with_reducible exact Agree.refl _ _ | with_reducible assumption | with_reducible apply @agree_mdSave 8157441 _ (by decide) | with_reducible apply @agree_mdSv 8157441 _ (by decide) | with_reducible apply @agree_postCatOn 8157441 _ (by decide) | with_reducible apply @agree_postSeal 8157441 _ (by decide) | with_reducible apply @agree_portSealed 8157441 _ (by decide) | with_reducible apply @agree_saveSealed 8157441 _ (by decide) | with_reducible refine Agree.of_snd (by assumption) ?_ | with_reducible refine Agree.of_fst (by assumption) ?_ | split | dsimp only | (intro t ht; with_reducible assumption) | intro)

theorem agree_saveStripeDone {μ : Nat} {σ : State} (hK : 4194304 ||| μ = μ) (t : Stripe) (s : State) (hA : Agree μ σ s) : Agree μ σ (saveStripeDone t s) := by
  refine Agree.step (k := 4194304) ?_ hK hA
  clear hA hK
  unfold saveStripeDone
  repeat' (first | (intro x; first | (refine (fun (hx : Agree 4194304 s x) => ?_) ?_; clear_value x; rotate_left; subst x) | subst x) | lift_lets -underBinder | with_reducible exact Agree.refl _ _ | with_reducible assumption | with_reducible refine Agree.foldl ?_ ?_ | with_reducible refine Agree.foldl_snd ?_ ?_ | with_reducible refine Agree.foldl_fst ?_ ?_ | with_reducible refine Agree.foldl_thd ?_ ?_ | with_reducible apply @agree_mdSave 4194304 _ (by decide) | with_reducible apply @agree_mdSv 4194304 _ (by decide) | with_reducible refine Agree.of_snd (by assumption) ?_ | with_reducible refine Agree.of_fst (by assumption) ?_ | split | dsimp only | (intro t ht; with_reducible assumption) | intro)

theorem agree_popStripes {μ : Nat} {σ : State} (hK : 7340032 ||| μ = μ) (x0 : Nat) (x1 : State) (hA : Agree μ σ x1) : Agree μ σ (popStripes x0 x1) := by
  induction x0 generalizing x1 with
  | zero => unfold popStripes; exact hA
  | succ x0 ih =>
  unfold popStripes
  repeat' (first | (intro x; first | (refine (fun (hx : Agree μ σ x) => ?_) ?_; clear_value x; rotate_left; subst x) | subst x) | lift_lets -underBinder | with_reducible exact Agree.refl _ _ | with_reducible assumption | with_reducible apply ih | with_reducible apply @agree_mdVault μ _ (Agree.sub_of hK (by decide)) | with_reducible apply @agree_logStripeDone μ _ (Agree.sub_of hK (by decide)) | with_reducible apply @agree_saveStripeDone μ _ (Agree.sub_of hK (by decide)) | with_reducible refine Agree.of_snd (by assumption) ?_ | with_reducible refine Agree.of_fst (by assumption) ?_ | split | dsimp only | (intro t ht; with_reducible assumption) | intro)

theorem agree_reportWritten {μ : Nat} {σ : State} (hK : 4194304 ||| μ = μ) (s : State) (hA : Agree μ σ s) : Agree μ σ (reportWritten s) := by
  refine Agree.step (k := 4194304) ?_ hK hA
  clear hA hK
  unfold reportWritten
  repeat' (first | (intro x; first | (refine (fun (hx : Agree 4194304 s x) => ?_) ?_; clear_value x; rotate_left; subst x) | subst x) | lift_lets -underBinder | with_reducible exact Agree.refl _ _ | with_reducible assumption | with_reducible apply @agree_mdSave 4194304 _ (by decide) | with_reducible refine Agree.of_snd (by assumption) ?_ | with_reducible refine Agree.of_fst (by assumption) ?_ | split | dsimp only | (intro t ht; with_reducible assumption) | intro)

theorem agree_emergSeal {μ : Nat} {σ : State} (hK : 5251328 ||| μ = μ) (s : State) (hA : Agree μ σ s) : Agree μ σ (emergSeal s) := by
  refine Agree.step (k := 5251328) ?_ hK hA
  clear hA hK
  unfold emergSeal
  repeat' (first | (intro x; first | (refine (fun (hx : Agree 5251328 s x) => ?_) ?_; clear_value x; rotate_left; subst x) | subst x) | lift_lets -underBinder | with_reducible exact Agree.refl _ _ | with_reducible assumption | with_reducible apply @agree_setEvt 5251328 _ (by decide) | with_reducible apply @agree_mdSave 5251328 _ (by decide) | with_reducible apply @agree_raise 5251328 _ (by decide) | with_reducible apply @agree_dropMoves 5251328 _ (by decide) | with_reducible apply @agree_endMoves 5251328 _ (by decide) | with_reducible apply @agree_cutStripe 5251328 _ (by decide) | with_reducible refine Agree.of_snd (by assumption) ?_ | with_reducible refine Agree.of_fst (by assumption) ?_ | split | dsimp only | (intro t ht; with_reducible assumption) | intro)

theorem agree_frozenRx {μ : Nat} {σ : State} (hK : 6561793 ||| μ = μ) (p : Nat) (m : FrozenMsg) (s0 : State) (hA : Agree μ σ s0) : Agree μ σ (frozenRx p m s0) := by
  refine Agree.step (k := 6561793) ?_ hK hA
  clear hA hK
  unfold frozenRx
  repeat' (first | (intro x; first | (refine (fun (hx : Agree 6561793 s0 x) => ?_) ?_; clear_value x; rotate_left; subst x) | subst x) | lift_lets -underBinder | with_reducible exact Agree.refl _ _ | with_reducible assumption | with_reducible apply @agree_mdSave 6561793 _ (by decide) | with_reducible apply @agree_arrive 6561793 _ (by decide) | with_reducible apply @agree_mdLk 6561793 _ (by decide) | with_reducible apply @agree_mdSv 6561793 _ (by decide) | with_reducible apply @agree_buildSet 6561793 _ (by decide) | with_reducible apply @agree_portErr 6561793 _ (by decide) | with_reducible apply @agree_moveReads 6561793 _ (by decide) | with_reducible refine Agree.of_snd (by assumption) ?_ | with_reducible refine Agree.of_fst (by assumption) ?_ | split | dsimp only | (intro t ht; with_reducible assumption) | intro)

theorem agree_moveResume {μ : Nat} {σ : State} (hK : 6553600 ||| μ = μ) (p : Nat) (s : State) (hA : Agree μ σ s) : Agree μ σ (moveResume p s) := by
  refine Agree.step (k := 6553600) ?_ hK hA
  clear hA hK
  unfold moveResume
  repeat' (first | (intro x; first | (refine (fun (hx : Agree 6553600 s x) => ?_) ?_; clear_value x; rotate_left; subst x) | subst x) | lift_lets -underBinder | with_reducible exact Agree.refl _ _ | with_reducible assumption | with_reducible refine Agree.forL ?_ ?_ | with_reducible apply @agree_send 6553600 _ (by decide) | with_reducible apply @agree_mdSv 6553600 _ (by decide) | with_reducible apply @agree_moveReads 6553600 _ (by decide) | with_reducible refine Agree.of_snd (by assumption) ?_ | with_reducible refine Agree.of_fst (by assumption) ?_ | split | dsimp only | (intro t ht; with_reducible assumption) | intro)

theorem agree_writeIndex {μ : Nat} {σ : State} (hK : 7340032 ||| μ = μ) (n : Nat) (s : State) (hA : Agree μ σ s) : Agree μ σ (writeIndex n s) := by
  refine Agree.step (k := 7340032) ?_ hK hA
  clear hA hK
  unfold writeIndex
  repeat' (first | (intro x; first | (refine (fun (hx : Agree 7340032 s x) => ?_) ?_; clear_value x; rotate_left; subst x) | subst x) | lift_lets -underBinder | with_reducible exact Agree.refl _ _ | with_reducible assumption | with_reducible apply @agree_mdSave 7340032 _ (by decide) | with_reducible apply @agree_addUnit 7340032 _ (by decide) | with_reducible refine Agree.of_snd (by assumption) ?_ | with_reducible refine Agree.of_fst (by assumption) ?_ | split | dsimp only | (intro t ht; with_reducible assumption) | intro)

theorem agree_indexFlush {μ : Nat} {σ : State} (hK : 7340033 ||| μ = μ) (s : State) (hA : Agree μ σ s) : Agree μ σ (indexFlush s) := by
  refine Agree.step (k := 7340033) ?_ hK hA
  clear hA hK
  unfold indexFlush
  repeat' (first | (intro x; first | (refine (fun (hx : Agree 7340033 s x) => ?_) ?_; clear_value x; rotate_left; subst x) | subst x) | lift_lets -underBinder | with_reducible exact Agree.refl _ _ | with_reducible assumption | with_reducible apply @agree_pump 7340033 _ (by decide) | with_reducible apply @agree_writeIndex 7340033 _ (by decide) | with_reducible refine Agree.of_snd (by assumption) ?_ | with_reducible refine Agree.of_fst (by assumption) ?_ | split | dsimp only | (intro t ht; with_reducible assumption) | intro)

theorem agree_markWaits {μ : Nat} {σ : State} (hK : 4194304 ||| μ = μ) (s : State) (hA : Agree μ σ s) : Agree μ σ (markWaits s) := by
  refine Agree.step (k := 4194304) ?_ hK hA
  clear hA hK
  unfold markWaits
  repeat' (first | (intro x; first | (refine (fun (hx : Agree 4194304 s x) => ?_) ?_; clear_value x; rotate_left; subst x) | subst x) | lift_lets -underBinder | with_reducible exact Agree.refl _ _ | with_reducible assumption | with_reducible refine Agree.forL ?_ ?_ | with_reducible apply @agree_mdSv 4194304 _ (by decide) | with_reducible refine Agree.of_snd (by assumption) ?_ | with_reducible refine Agree.of_fst (by assumption) ?_ | split | dsimp only | (intro t ht; with_reducible assumption) | intro)

theorem agree_moveLinkTimeout {μ : Nat} {σ : State} (hK : 4194304 ||| μ = μ) (p : Nat) (s : State) (hA : Agree μ σ s) : Agree μ σ (moveLinkTimeout p s) := by
  refine Agree.step (k := 4194304) ?_ hK hA
  clear hA hK
  unfold moveLinkTimeout
  repeat' (first | (intro x; first | (refine (fun (hx : Agree 4194304 s x) => ?_) ?_; clear_value x; rotate_left; subst x) | subst x) | lift_lets -underBinder | with_reducible exact Agree.refl _ _ | with_reducible assumption | with_reducible apply @agree_endMove 4194304 _ (by decide) | with_reducible refine Agree.of_snd (by assumption) ?_ | with_reducible refine Agree.of_fst (by assumption) ?_ | split | dsimp only | (intro t ht; with_reducible assumption) | intro)

theorem agree_portManifest {μ : Nat} {σ : State} (hK : 7340033 ||| μ = μ) (p : Nat) (s : State) (hA : Agree μ σ s) : Agree μ σ (portManifest p s) := by
  refine Agree.step (k := 7340033) ?_ hK hA
  clear hA hK
  unfold portManifest
  repeat' (first | (intro x; first | (refine (fun (hx : Agree 7340033 s x) => ?_) ?_; clear_value x; rotate_left; subst x) | subst x) | lift_lets -underBinder | with_reducible exact Agree.refl _ _ | with_reducible assumption | with_reducible apply @agree_mdSv 7340033 _ (by decide) | with_reducible apply @agree_postCat 7340033 _ (by decide) | with_reducible refine Agree.of_snd (by assumption) ?_ | with_reducible refine Agree.of_fst (by assumption) ?_ | split | dsimp only | (intro t ht; with_reducible assumption) | intro)

theorem agree_saveManifest {μ : Nat} {σ : State} (hK : 7340033 ||| μ = μ) (s : State) (hA : Agree μ σ s) : Agree μ σ (saveManifest s) := by
  refine Agree.step (k := 7340033) ?_ hK hA
  clear hA hK
  unfold saveManifest
  repeat' (first | (intro x; first | (refine (fun (hx : Agree 7340033 s x) => ?_) ?_; clear_value x; rotate_left; subst x) | subst x) | lift_lets -underBinder | with_reducible exact Agree.refl _ _ | with_reducible assumption | with_reducible apply @agree_mdSave 7340033 _ (by decide) | with_reducible apply @agree_postCat 7340033 _ (by decide) | with_reducible refine Agree.of_snd (by assumption) ?_ | with_reducible refine Agree.of_fst (by assumption) ?_ | split | dsimp only | (intro t ht; with_reducible assumption) | intro)

theorem agree_waveOpen {μ : Nat} {σ : State} (hK : 7602177 ||| μ = μ) (k : Nat) (s : State) (hA : Agree μ σ s) : Agree μ σ (waveOpen k s) := by
  refine Agree.step (k := 7602177) ?_ hK hA
  clear hA hK
  unfold waveOpen
  repeat' (first | (intro x; first | (refine (fun (hx : Agree 7602177 s x) => ?_) ?_; clear_value x; rotate_left; subst x) | subst x) | lift_lets -underBinder | with_reducible exact Agree.refl _ _ | with_reducible assumption | ((conv => (arg 3; arg 27; skip)); with_reducible refine Agree.upd_clk _ (by decide) ?_) | with_reducible refine Agree.forN ?_ ?_ | with_reducible apply @agree_mdSave 7602177 _ (by decide) | with_reducible apply @agree_mdRing 7602177 _ (by decide) | with_reducible apply @agree_pump 7602177 _ (by decide) | with_reducible apply @agree_moveReads 7602177 _ (by decide) | with_reducible apply @agree_markWaits 7602177 _ (by decide) | with_reducible refine Agree.of_snd (by assumption) ?_ | with_reducible refine Agree.of_fst (by assumption) ?_ | split | dsimp only | (intro t ht; with_reducible assumption) | intro)

theorem agree_windowClose {μ : Nat} {σ : State} (hK : 4464641 ||| μ = μ) (s : State) (hA : Agree μ σ s) : Agree μ σ (windowClose s) := by
  refine Agree.step (k := 4464641) ?_ hK hA
  clear hA hK
  unfold windowClose
  repeat' (first | (intro x; first | (refine (fun (hx : Agree 4464641 s x) => ?_) ?_; clear_value x; rotate_left; subst x) | subst x) | lift_lets -underBinder | with_reducible exact Agree.refl _ _ | with_reducible assumption | ((conv => (arg 3; arg 27; skip)); with_reducible refine Agree.upd_clk _ (by decide) ?_) | with_reducible refine Agree.forL ?_ ?_ | with_reducible apply @agree_mdSave 4464641 _ (by decide) | with_reducible apply @agree_buildUnconf 4464641 _ (by decide) | with_reducible apply @agree_portErr 4464641 _ (by decide) | with_reducible refine Agree.of_snd (by assumption) ?_ | with_reducible refine Agree.of_fst (by assumption) ?_ | split | dsimp only | (intro t ht; with_reducible assumption) | intro)

end State
end Sys2Proof.Machine
end

