-- ==== Sys2Proof/Laws/AgreeReturn.lean ====
section
/-! SUPPORT. The fields of State that each function of Machine/Return.lean can change. -/
set_option Elab.async false

set_option linter.unusedTactic false
set_option linter.unreachableTactic false

namespace Sys2Proof.Machine
namespace State

theorem agree_retRecord {μ : Nat} {σ : State} (hK : 16384 ||| μ = μ) (s : State) (hA : Agree μ σ s) : Agree μ σ (retRecord s) := by
  refine Agree.step (k := 16384) ?_ hK hA
  clear hA hK
  unfold retRecord
  repeat' (first | (intro x; first | (refine (fun (hx : Agree 16384 s x) => ?_) ?_; clear_value x; rotate_left; subst x) | subst x) | lift_lets -underBinder | with_reducible exact Agree.refl _ _ | with_reducible assumption | with_reducible apply @agree_pushRec 16384 _ (by decide) | with_reducible refine Agree.of_snd (by assumption) ?_ | with_reducible refine Agree.of_fst (by assumption) ?_ | split | dsimp only | (intro t ht; with_reducible assumption) | intro)

theorem agree_mdRt {μ : Nat} {σ : State} (hK : 8388608 ||| μ = μ) (p : Nat) (f : RetP → RetP) (s : State) (hA : Agree μ σ s) : Agree μ σ (mdRt p f s) := by
  refine Agree.step (k := 8388608) ?_ hK hA
  clear hA hK
  unfold mdRt
  repeat' (first | (intro x; first | (refine (fun (hx : Agree 8388608 s x) => ?_) ?_; clear_value x; rotate_left; subst x) | subst x) | lift_lets -underBinder | with_reducible exact Agree.refl _ _ | with_reducible assumption | ((conv => (arg 3; arg 27; skip)); with_reducible refine Agree.upd_ret _ (by decide) ?_) | with_reducible refine Agree.of_snd (by assumption) ?_ | with_reducible refine Agree.of_fst (by assumption) ?_ | split | dsimp only | (intro t ht; with_reducible assumption) | intro)

theorem agree_retStop {μ : Nat} {σ : State} (hK : 8388608 ||| μ = μ) (s : State) (hA : Agree μ σ s) : Agree μ σ (retStop s) := by
  refine Agree.step (k := 8388608) ?_ hK hA
  clear hA hK
  unfold retStop
  repeat' (first | (intro x; first | (refine (fun (hx : Agree 8388608 s x) => ?_) ?_; clear_value x; rotate_left; subst x) | subst x) | lift_lets -underBinder | with_reducible exact Agree.refl _ _ | with_reducible assumption | with_reducible refine Agree.forN ?_ ?_ | with_reducible apply @agree_mdRt 8388608 _ (by decide) | with_reducible refine Agree.of_snd (by assumption) ?_ | with_reducible refine Agree.of_fst (by assumption) ?_ | split | dsimp only | (intro t ht; with_reducible assumption) | intro)

theorem agree_retReset {μ : Nat} {σ : State} (hK : 8388608 ||| μ = μ) (s : State) (hA : Agree μ σ s) : Agree μ σ (retReset s) := by
  refine Agree.step (k := 8388608) ?_ hK hA
  clear hA hK
  unfold retReset
  repeat' (first | (intro x; first | (refine (fun (hx : Agree 8388608 s x) => ?_) ?_; clear_value x; rotate_left; subst x) | subst x) | lift_lets -underBinder | with_reducible exact Agree.refl _ _ | with_reducible assumption | ((conv => (arg 3; arg 27; skip)); with_reducible refine Agree.upd_ret _ (by decide) ?_) | with_reducible refine Agree.of_snd (by assumption) ?_ | with_reducible refine Agree.of_fst (by assumption) ?_ | split | dsimp only | (intro t ht; with_reducible assumption) | intro)

theorem agree_askPort {μ : Nat} {σ : State} (hK : 8650752 ||| μ = μ) (p : Nat) (s : State) (hA : Agree μ σ s) : Agree μ σ (askPort p s) := by
  refine Agree.step (k := 8650752) ?_ hK hA
  clear hA hK
  unfold askPort
  repeat' (first | (intro x; first | (refine (fun (hx : Agree 8650752 s x) => ?_) ?_; clear_value x; rotate_left; subst x) | subst x) | lift_lets -underBinder | with_reducible exact Agree.refl _ _ | with_reducible assumption | with_reducible apply @agree_mdRt 8650752 _ (by decide) | with_reducible apply @agree_send 8650752 _ (by decide) | with_reducible refine Agree.of_snd (by assumption) ?_ | with_reducible refine Agree.of_fst (by assumption) ?_ | split | dsimp only | (intro t ht; with_reducible assumption) | intro)

theorem agree_retEnter {μ : Nat} {σ : State} (hK : 25427968 ||| μ = μ) (s : State) (hA : Agree μ σ s) : Agree μ σ (retEnter s) := by
  refine Agree.step (k := 25427968) ?_ hK hA
  clear hA hK
  unfold retEnter
  repeat' (first | (intro x; first | (refine (fun (hx : Agree 25427968 s x) => ?_) ?_; clear_value x; rotate_left; subst x) | subst x) | lift_lets -underBinder | with_reducible exact Agree.refl _ _ | with_reducible assumption | ((conv => (arg 3; arg 27; skip)); with_reducible refine Agree.upd_ret_fab _ _ (by decide) ?_) | with_reducible refine Agree.forN ?_ ?_ | with_reducible apply @agree_askPort 25427968 _ (by decide) | with_reducible refine Agree.of_snd (by assumption) ?_ | with_reducible refine Agree.of_fst (by assumption) ?_ | split | dsimp only | (intro t ht; with_reducible assumption) | intro)

theorem agree_makePending {μ : Nat} {σ : State} (hK : 8388864 ||| μ = μ) (p : Nat) (s : State) (hA : Agree μ σ s) : Agree μ σ (makePending p s) := by
  refine Agree.step (k := 8388864) ?_ hK hA
  clear hA hK
  unfold makePending
  repeat' (first | (intro x; first | (refine (fun (hx : Agree 8388864 s x) => ?_) ?_; clear_value x; rotate_left; subst x) | subst x) | lift_lets -underBinder | with_reducible exact Agree.refl _ _ | with_reducible assumption | with_reducible apply @agree_setEvt 8388864 _ (by decide) | with_reducible apply @agree_mdRt 8388864 _ (by decide) | with_reducible refine Agree.of_snd (by assumption) ?_ | with_reducible refine Agree.of_fst (by assumption) ?_ | split | dsimp only | (intro t ht; with_reducible assumption) | intro)

theorem agree_awaitHost {μ : Nat} {σ : State} (hK : 8388864 ||| μ = μ) (p : Nat) (s : State) (hA : Agree μ σ s) : Agree μ σ (awaitHost p s) := by
  refine Agree.step (k := 8388864) ?_ hK hA
  clear hA hK
  unfold awaitHost
  repeat' (first | (intro x; first | (refine (fun (hx : Agree 8388864 s x) => ?_) ?_; clear_value x; rotate_left; subst x) | subst x) | lift_lets -underBinder | with_reducible exact Agree.refl _ _ | with_reducible assumption | with_reducible apply @agree_makePending 8388864 _ (by decide) | with_reducible refine Agree.of_snd (by assumption) ?_ | with_reducible refine Agree.of_fst (by assumption) ?_ | split | dsimp only | (intro t ht; with_reducible assumption) | intro)

theorem agree_retLinkDown {μ : Nat} {σ : State} (hK : 8388608 ||| μ = μ) (p : Nat) (s : State) (hA : Agree μ σ s) : Agree μ σ (retLinkDown p s) := by
  refine Agree.step (k := 8388608) ?_ hK hA
  clear hA hK
  unfold retLinkDown
  repeat' (first | (intro x; first | (refine (fun (hx : Agree 8388608 s x) => ?_) ?_; clear_value x; rotate_left; subst x) | subst x) | lift_lets -underBinder | with_reducible exact Agree.refl _ _ | with_reducible assumption | with_reducible apply @agree_mdRt 8388608 _ (by decide) | with_reducible refine Agree.of_snd (by assumption) ?_ | with_reducible refine Agree.of_fst (by assumption) ?_ | split | dsimp only | (intro t ht; with_reducible assumption) | intro)

theorem agree_redecide {μ : Nat} {σ : State} (hK : 8650752 ||| μ = μ) (p : Nat) (s : State) (hA : Agree μ σ s) : Agree μ σ (redecide p s) := by
  refine Agree.step (k := 8650752) ?_ hK hA
  clear hA hK
  unfold redecide
  repeat' (first | (intro x; first | (refine (fun (hx : Agree 8650752 s x) => ?_) ?_; clear_value x; rotate_left; subst x) | subst x) | lift_lets -underBinder | with_reducible exact Agree.refl _ _ | with_reducible assumption | with_reducible apply @agree_mdRt 8650752 _ (by decide) | with_reducible apply @agree_askPort 8650752 _ (by decide) | with_reducible refine Agree.of_snd (by assumption) ?_ | with_reducible refine Agree.of_fst (by assumption) ?_ | split | dsimp only | (intro t ht; with_reducible assumption) | intro)

theorem agree_restoreClear {μ : Nat} {σ : State} (hK : 8650752 ||| μ = μ) (p : Nat) (s : State) (hA : Agree μ σ s) : Agree μ σ (restoreClear p s) := by
  refine Agree.step (k := 8650752) ?_ hK hA
  clear hA hK
  unfold restoreClear
  repeat' (first | (intro x; first | (refine (fun (hx : Agree 8650752 s x) => ?_) ?_; clear_value x; rotate_left; subst x) | subst x) | lift_lets -underBinder | with_reducible exact Agree.refl _ _ | with_reducible assumption | with_reducible apply @agree_mdRt 8650752 _ (by decide) | with_reducible apply @agree_send 8650752 _ (by decide) | with_reducible refine Agree.of_snd (by assumption) ?_ | with_reducible refine Agree.of_fst (by assumption) ?_ | split | dsimp only | (intro t ht; with_reducible assumption) | intro)

theorem agree_restoreLoss {μ : Nat} {σ : State} (hK : 8388864 ||| μ = μ) (p : Nat) (s : State) (hA : Agree μ σ s) : Agree μ σ (restoreLoss p s) := by
  refine Agree.step (k := 8388864) ?_ hK hA
  clear hA hK
  unfold restoreLoss
  repeat' (first | (intro x; first | (refine (fun (hx : Agree 8388864 s x) => ?_) ?_; clear_value x; rotate_left; subst x) | subst x) | lift_lets -underBinder | with_reducible exact Agree.refl _ _ | with_reducible assumption | with_reducible apply @agree_setEvt 8388864 _ (by decide) | with_reducible apply @agree_mdRt 8388864 _ (by decide) | with_reducible apply @agree_awaitHost 8388864 _ (by decide) | with_reducible refine Agree.of_snd (by assumption) ?_ | with_reducible refine Agree.of_fst (by assumption) ?_ | split | dsimp only | (intro t ht; with_reducible assumption) | intro)

theorem agree_sendRelease {μ : Nat} {σ : State} (hK : 8650752 ||| μ = μ) (p : Nat) (serial : Nat) (dirtyAll : Bool) (discard : Bool) (s : State) (hA : Agree μ σ s) : Agree μ σ (sendRelease p serial dirtyAll discard s) := by
  refine Agree.step (k := 8650752) ?_ hK hA
  clear hA hK
  unfold sendRelease
  repeat' (first | (intro x; first | (refine (fun (hx : Agree 8650752 s x) => ?_) ?_; clear_value x; rotate_left; subst x) | subst x) | lift_lets -underBinder | with_reducible exact Agree.refl _ _ | with_reducible assumption | with_reducible apply @agree_mdRt 8650752 _ (by decide) | with_reducible apply @agree_send 8650752 _ (by decide) | with_reducible refine Agree.of_snd (by assumption) ?_ | with_reducible refine Agree.of_fst (by assumption) ?_ | split | dsimp only | (intro t ht; with_reducible assumption) | intro)

theorem agree_checkRx {μ : Nat} {σ : State} (hK : 8651008 ||| μ = μ) (p : Nat) (serial : Nat) (codes : List Word) (s : State) (hA : Agree μ σ s) : Agree μ σ (checkRx p serial codes s) := by
  refine Agree.step (k := 8651008) ?_ hK hA
  clear hA hK
  unfold checkRx
  repeat' (first | (intro x; first | (refine (fun (hx : Agree 8651008 s x) => ?_) ?_; clear_value x; rotate_left; subst x) | subst x) | lift_lets -underBinder | with_reducible exact Agree.refl _ _ | with_reducible assumption | with_reducible apply @agree_mdRt 8651008 _ (by decide) | with_reducible apply @agree_mdLk 8651008 _ (by decide) | with_reducible apply @agree_restoreClear 8651008 _ (by decide) | with_reducible apply @agree_restoreLoss 8651008 _ (by decide) | with_reducible apply @agree_sendRelease 8651008 _ (by decide) | with_reducible refine Agree.of_snd (by assumption) ?_ | with_reducible refine Agree.of_fst (by assumption) ?_ | split | dsimp only | (intro t ht; with_reducible assumption) | intro)

theorem agree_retireAll {μ : Nat} {σ : State} (hK : 3145729 ||| μ = μ) (p : Nat) (reason : Nat) (s : State) (hA : Agree μ σ s) : Agree μ σ (retireAll p reason s) := by
  refine Agree.step (k := 3145729) ?_ hK hA
  clear hA hK
  unfold retireAll
  repeat' (first | (intro x; first | (refine (fun (hx : Agree 3145729 s x) => ?_) ?_; clear_value x; rotate_left; subst x) | subst x) | lift_lets -underBinder | with_reducible exact Agree.refl _ _ | with_reducible assumption | with_reducible refine Agree.forL ?_ ?_ | with_reducible apply @agree_postCat 3145729 _ (by decide) | with_reducible refine Agree.of_snd (by assumption) ?_ | with_reducible refine Agree.of_fst (by assumption) ?_ | split | dsimp only | (intro t ht; with_reducible assumption) | intro)

theorem agree_markReleased {μ : Nat} {σ : State} (hK : 8388608 ||| μ = μ) (p : Nat) (s : State) (hA : Agree μ σ s) : Agree μ σ (markReleased p s) := by
  refine Agree.step (k := 8388608) ?_ hK hA
  clear hA hK
  unfold markReleased
  repeat' (first | (intro x; first | (refine (fun (hx : Agree 8388608 s x) => ?_) ?_; clear_value x; rotate_left; subst x) | subst x) | lift_lets -underBinder | with_reducible exact Agree.refl _ _ | with_reducible assumption | with_reducible apply @agree_mdRt 8388608 _ (by decide) | with_reducible refine Agree.of_snd (by assumption) ?_ | with_reducible refine Agree.of_fst (by assumption) ?_ | split | dsimp only | (intro t ht; with_reducible assumption) | intro)

theorem agree_discardStep {μ : Nat} {σ : State} (hK : 8650752 ||| μ = μ) (p : Nat) (s : State) (hA : Agree μ σ s) : Agree μ σ (discardStep p s) := by
  refine Agree.step (k := 8650752) ?_ hK hA
  clear hA hK
  unfold discardStep
  repeat' (first | (intro x; first | (refine (fun (hx : Agree 8650752 s x) => ?_) ?_; clear_value x; rotate_left; subst x) | subst x) | lift_lets -underBinder | with_reducible exact Agree.refl _ _ | with_reducible assumption | with_reducible apply @agree_sendRelease 8650752 _ (by decide) | with_reducible apply @agree_markReleased 8650752 _ (by decide) | with_reducible refine Agree.of_snd (by assumption) ?_ | with_reducible refine Agree.of_fst (by assumption) ?_ | split | dsimp only | (intro t ht; with_reducible assumption) | intro)

theorem agree_retireCat {μ : Nat} {σ : State} (hK : 9699328 ||| μ = μ) (c : CatJob) (s : State) (hA : Agree μ σ s) : Agree μ σ (retireCat c s) := by
  refine Agree.step (k := 9699328) ?_ hK hA
  clear hA hK
  unfold retireCat
  repeat' (first | (intro x; first | (refine (fun (hx : Agree 9699328 s x) => ?_) ?_; clear_value x; rotate_left; subst x) | subst x) | lift_lets -underBinder | with_reducible exact Agree.refl _ _ | with_reducible assumption | with_reducible apply @agree_mdRt 9699328 _ (by decide) | with_reducible apply @agree_reserveUpdate 9699328 _ (by decide) | with_reducible apply @agree_redecide 9699328 _ (by decide) | with_reducible apply @agree_discardStep 9699328 _ (by decide) | with_reducible apply @agree_eraseAheadAll 9699328 _ (by decide) | with_reducible refine Agree.of_snd (by assumption) ?_ | with_reducible refine Agree.of_fst (by assumption) ?_ | split | dsimp only | (intro t ht; with_reducible assumption) | intro)

theorem agree_writeSquare {μ : Nat} {σ : State} (hK : 8650752 ||| μ = μ) (p : Nat) (sq : Nat) (x : Option (UTag × NBody)) (s : State) (hA : Agree μ σ s) : Agree μ σ (writeSquare p sq x s) := by
  refine Agree.step (k := 8650752) ?_ hK hA
  clear hA hK
  unfold writeSquare
  repeat' (first | (intro x; first | (refine (fun (hx : Agree 8650752 s x) => ?_) ?_; clear_value x; rotate_left; subst x) | subst x) | lift_lets -underBinder | with_reducible exact Agree.refl _ _ | with_reducible assumption | with_reducible refine Agree.foldl ?_ ?_ | with_reducible refine Agree.foldl_snd ?_ ?_ | with_reducible refine Agree.foldl_fst ?_ ?_ | with_reducible refine Agree.foldl_thd ?_ ?_ | with_reducible apply @agree_mdRt 8650752 _ (by decide) | with_reducible apply @agree_send 8650752 _ (by decide) | with_reducible refine Agree.of_snd (by assumption) ?_ | with_reducible refine Agree.of_fst (by assumption) ?_ | split | dsimp only | (intro t ht; with_reducible assumption) | intro)

theorem agree_restoreStep {μ : Nat} {σ : State} (hK : 9699329 ||| μ = μ) (x0 : Nat) (x1 : Nat) (x2 : State) (hA : Agree μ σ x2) : Agree μ σ (restoreStep x0 x1 x2) := by
  induction x0 generalizing x1 x2 with
  | zero => unfold restoreStep; exact hA
  | succ x0 ih =>
  unfold restoreStep
  repeat' (first | (intro x; first | (refine (fun (hx : Agree μ σ x) => ?_) ?_; clear_value x; rotate_left; subst x) | subst x) | lift_lets -underBinder | with_reducible exact Agree.refl _ _ | with_reducible assumption | with_reducible apply ih | with_reducible apply @agree_postDesc μ _ (Agree.sub_of hK (by decide)) | with_reducible apply @agree_tick μ _ (Agree.sub_of hK (by decide)) | with_reducible apply @agree_mdRt μ _ (Agree.sub_of hK (by decide)) | with_reducible apply @agree_send μ _ (Agree.sub_of hK (by decide)) | with_reducible apply @agree_writeSquare μ _ (Agree.sub_of hK (by decide)) | with_reducible refine Agree.of_snd (by assumption) ?_ | with_reducible refine Agree.of_fst (by assumption) ?_ | split | dsimp only | (intro t ht; with_reducible assumption) | intro)

theorem agree_stepRestore {μ : Nat} {σ : State} (hK : 9699329 ||| μ = μ) (p : Nat) (s : State) (hA : Agree μ σ s) : Agree μ σ (stepRestore p s) := by
  refine Agree.step (k := 9699329) ?_ hK hA
  clear hA hK
  unfold stepRestore
  repeat' (first | (intro x; first | (refine (fun (hx : Agree 9699329 s x) => ?_) ?_; clear_value x; rotate_left; subst x) | subst x) | lift_lets -underBinder | with_reducible exact Agree.refl _ _ | with_reducible assumption | with_reducible apply @agree_restoreStep 9699329 _ (by decide) | with_reducible refine Agree.of_snd (by assumption) ?_ | with_reducible refine Agree.of_fst (by assumption) ?_ | split | dsimp only | (intro t ht; with_reducible assumption) | intro)

theorem agree_decidePort {μ : Nat} {σ : State} (hK : 8651008 ||| μ = μ) (p : Nat) (s : State) (hA : Agree μ σ s) : Agree μ σ (decidePort p s) := by
  refine Agree.step (k := 8651008) ?_ hK hA
  clear hA hK
  unfold decidePort
  repeat' (first | (intro x; first | (refine (fun (hx : Agree 8651008 s x) => ?_) ?_; clear_value x; rotate_left; subst x) | subst x) | lift_lets -underBinder | with_reducible exact Agree.refl _ _ | with_reducible assumption | with_reducible apply @agree_mdRt 8651008 _ (by decide) | with_reducible apply @agree_awaitHost 8651008 _ (by decide) | with_reducible apply @agree_sendRelease 8651008 _ (by decide) | with_reducible apply @agree_markReleased 8651008 _ (by decide) | with_reducible refine Agree.of_snd (by assumption) ?_ | with_reducible refine Agree.of_fst (by assumption) ?_ | split | dsimp only | (intro t ht; with_reducible assumption) | intro)

theorem agree_restoreRead {μ : Nat} {σ : State} (hK : 9699329 ||| μ = μ) (p : Nat) (sq : Nat) (d : Desc) (r : Nat) (crc : Nat) (s : State) (hA : Agree μ σ s) : Agree μ σ (restoreRead p sq d r crc s) := by
  refine Agree.step (k := 9699329) ?_ hK hA
  clear hA hK
  unfold restoreRead
  repeat' (first | (intro x; first | (refine (fun (hx : Agree 9699329 s x) => ?_) ?_; clear_value x; rotate_left; subst x) | subst x) | lift_lets -underBinder | with_reducible exact Agree.refl _ _ | with_reducible assumption | with_reducible apply @agree_writeSquare 9699329 _ (by decide) | with_reducible apply @agree_restoreStep 9699329 _ (by decide) | with_reducible refine Agree.of_snd (by assumption) ?_ | with_reducible refine Agree.of_fst (by assumption) ?_ | split | dsimp only | (intro t ht; with_reducible assumption) | intro)

theorem agree_retAbandon {μ : Nat} {σ : State} (hK : 8388864 ||| μ = μ) (p : Nat) (s : State) (hA : Agree μ σ s) : Agree μ σ (retAbandon p s) := by
  refine Agree.step (k := 8388864) ?_ hK hA
  clear hA hK
  unfold retAbandon
  repeat' (first | (intro x; first | (refine (fun (hx : Agree 8388864 s x) => ?_) ?_; clear_value x; rotate_left; subst x) | subst x) | lift_lets -underBinder | with_reducible exact Agree.refl _ _ | with_reducible assumption | with_reducible apply @agree_mdRt 8388864 _ (by decide) | with_reducible apply @agree_awaitHost 8388864 _ (by decide) | with_reducible refine Agree.of_snd (by assumption) ?_ | with_reducible refine Agree.of_fst (by assumption) ?_ | split | dsimp only | (intro t ht; with_reducible assumption) | intro)

theorem agree_retOverdue {μ : Nat} {σ : State} (hK : 8388864 ||| μ = μ) (s : State) (hA : Agree μ σ s) : Agree μ σ (retOverdue s) := by
  refine Agree.step (k := 8388864) ?_ hK hA
  clear hA hK
  unfold retOverdue
  repeat' (first | (intro x; first | (refine (fun (hx : Agree 8388864 s x) => ?_) ?_; clear_value x; rotate_left; subst x) | subst x) | lift_lets -underBinder | with_reducible exact Agree.refl _ _ | with_reducible assumption | with_reducible refine Agree.forN ?_ ?_ | with_reducible apply @agree_retAbandon 8388864 _ (by decide) | with_reducible refine Agree.of_snd (by assumption) ?_ | with_reducible refine Agree.of_fst (by assumption) ?_ | split | dsimp only | (intro t ht; with_reducible assumption) | intro)

theorem agree_retTurn {μ : Nat} {σ : State} (hK : 8651008 ||| μ = μ) (s : State) (hA : Agree μ σ s) : Agree μ σ (retTurn s) := by
  refine Agree.step (k := 8651008) ?_ hK hA
  clear hA hK
  unfold retTurn
  repeat' (first | (intro x; first | (refine (fun (hx : Agree 8651008 s x) => ?_) ?_; clear_value x; rotate_left; subst x) | subst x) | lift_lets -underBinder | with_reducible exact Agree.refl _ _ | with_reducible assumption | ((conv => (arg 3; arg 27; skip)); with_reducible refine Agree.upd_ret _ (by decide) ?_) | with_reducible refine Agree.forN ?_ ?_ | with_reducible apply @agree_decidePort 8651008 _ (by decide) | with_reducible refine Agree.of_snd (by assumption) ?_ | with_reducible refine Agree.of_fst (by assumption) ?_ | split | dsimp only | (intro t ht; with_reducible assumption) | intro)

theorem agree_readyAsk {μ : Nat} {σ : State} (hK : 8650752 ||| μ = μ) (s : State) (hA : Agree μ σ s) : Agree μ σ (readyAsk s) := by
  refine Agree.step (k := 8650752) ?_ hK hA
  clear hA hK
  unfold readyAsk
  repeat' (first | (intro x; first | (refine (fun (hx : Agree 8650752 s x) => ?_) ?_; clear_value x; rotate_left; subst x) | subst x) | lift_lets -underBinder | with_reducible exact Agree.refl _ _ | with_reducible assumption | with_reducible refine Agree.forN ?_ ?_ | with_reducible apply @agree_mdRt 8650752 _ (by decide) | with_reducible apply @agree_askPort 8650752 _ (by decide) | with_reducible refine Agree.of_snd (by assumption) ?_ | with_reducible refine Agree.of_fst (by assumption) ?_ | split | dsimp only | (intro t ht; with_reducible assumption) | intro)

theorem agree_retireRestored {μ : Nat} {σ : State} (hK : 11796481 ||| μ = μ) (p : Nat) (src : Nat) (s : State) (hA : Agree μ σ s) : Agree μ σ (retireRestored p src s) := by
  refine Agree.step (k := 11796481) ?_ hK hA
  clear hA hK
  unfold retireRestored
  repeat' (first | (intro x; first | (refine (fun (hx : Agree 11796481 s x) => ?_) ?_; clear_value x; rotate_left; subst x) | subst x) | lift_lets -underBinder | with_reducible exact Agree.refl _ _ | with_reducible assumption | with_reducible apply @agree_mdRt 11796481 _ (by decide) | with_reducible apply @agree_redecide 11796481 _ (by decide) | with_reducible apply @agree_retireAll 11796481 _ (by decide) | with_reducible refine Agree.of_snd (by assumption) ?_ | with_reducible refine Agree.of_fst (by assumption) ?_ | split | dsimp only | (intro t ht; with_reducible assumption) | intro)

theorem agree_released {μ : Nat} {σ : State} (hK : 11796481 ||| μ = μ) (p : Nat) (s : State) (hA : Agree μ σ s) : Agree μ σ (released p s) := by
  refine Agree.step (k := 11796481) ?_ hK hA
  clear hA hK
  unfold released
  repeat' (first | (intro x; first | (refine (fun (hx : Agree 11796481 s x) => ?_) ?_; clear_value x; rotate_left; subst x) | subst x) | lift_lets -underBinder | with_reducible exact Agree.refl _ _ | with_reducible assumption | with_reducible apply @agree_mdRt 11796481 _ (by decide) | with_reducible apply @agree_retireAll 11796481 _ (by decide) | with_reducible apply @agree_markReleased 11796481 _ (by decide) | with_reducible apply @agree_retireRestored 11796481 _ (by decide) | with_reducible refine Agree.of_snd (by assumption) ?_ | with_reducible refine Agree.of_fst (by assumption) ?_ | split | dsimp only | (intro t ht; with_reducible assumption) | intro)

theorem agree_retIdent {μ : Nat} {σ : State} (hK : 11796481 ||| μ = μ) (p : Nat) (up : Bool) (s : State) (hA : Agree μ σ s) : Agree μ σ (retIdent p up s) := by
  refine Agree.step (k := 11796481) ?_ hK hA
  clear hA hK
  unfold retIdent
  repeat' (first | (intro x; first | (refine (fun (hx : Agree 11796481 s x) => ?_) ?_; clear_value x; rotate_left; subst x) | subst x) | lift_lets -underBinder | with_reducible exact Agree.refl _ _ | with_reducible assumption | with_reducible apply @agree_mdRt 11796481 _ (by decide) | with_reducible apply @agree_redecide 11796481 _ (by decide) | with_reducible apply @agree_stepRestore 11796481 _ (by decide) | with_reducible apply @agree_released 11796481 _ (by decide) | with_reducible refine Agree.of_snd (by assumption) ?_ | with_reducible refine Agree.of_fst (by assumption) ?_ | split | dsimp only | (intro t ht; with_reducible assumption) | intro)

theorem agree_restoreLinkUp {μ : Nat} {σ : State} (hK : 11796481 ||| μ = μ) (p : Nat) (s : State) (hA : Agree μ σ s) : Agree μ σ (restoreLinkUp p s) := by
  refine Agree.step (k := 11796481) ?_ hK hA
  clear hA hK
  unfold restoreLinkUp
  repeat' (first | (intro x; first | (refine (fun (hx : Agree 11796481 s x) => ?_) ?_; clear_value x; rotate_left; subst x) | subst x) | lift_lets -underBinder | with_reducible exact Agree.refl _ _ | with_reducible assumption | with_reducible apply @agree_mdRt 11796481 _ (by decide) | with_reducible apply @agree_askPort 11796481 _ (by decide) | with_reducible apply @agree_redecide 11796481 _ (by decide) | with_reducible apply @agree_restoreClear 11796481 _ (by decide) | with_reducible apply @agree_sendRelease 11796481 _ (by decide) | with_reducible apply @agree_released 11796481 _ (by decide) | with_reducible refine Agree.of_snd (by assumption) ?_ | with_reducible refine Agree.of_fst (by assumption) ?_ | split | dsimp only | (intro t ht; with_reducible assumption) | intro)

theorem agree_retLinkUp {μ : Nat} {σ : State} (hK : 11796481 ||| μ = μ) (p : Nat) (s : State) (hA : Agree μ σ s) : Agree μ σ (retLinkUp p s) := by
  refine Agree.step (k := 11796481) ?_ hK hA
  clear hA hK
  unfold retLinkUp
  repeat' (first | (intro x; first | (refine (fun (hx : Agree 11796481 s x) => ?_) ?_; clear_value x; rotate_left; subst x) | subst x) | lift_lets -underBinder | with_reducible exact Agree.refl _ _ | with_reducible assumption | with_reducible apply @agree_mdRt 11796481 _ (by decide) | with_reducible apply @agree_askPort 11796481 _ (by decide) | with_reducible apply @agree_redecide 11796481 _ (by decide) | with_reducible apply @agree_released 11796481 _ (by decide) | with_reducible apply @agree_restoreLinkUp 11796481 _ (by decide) | with_reducible refine Agree.of_snd (by assumption) ?_ | with_reducible refine Agree.of_fst (by assumption) ?_ | split | dsimp only | (intro t ht; with_reducible assumption) | intro)

theorem agree_retAct {μ : Nat} {σ : State} (hK : 8388608 ||| μ = μ) (p : Nat) (ok : Bool) (f : State → State) (s : State) (hf : ∀ t, Agree μ σ t → Agree μ σ (f t)) (hA : Agree μ σ s) : Agree μ σ (retAct p ok f s) := by
  unfold retAct
  repeat' (first | (intro x; first | (refine (fun (hx : Agree μ σ x) => ?_) ?_; clear_value x; rotate_left; subst x) | subst x) | lift_lets -underBinder | with_reducible exact Agree.refl _ _ | with_reducible assumption | with_reducible apply hf | with_reducible apply @agree_mdRt μ _ (Agree.sub_of hK (by decide)) | with_reducible refine Agree.of_snd (by assumption) ?_ | with_reducible refine Agree.of_fst (by assumption) ?_ | split | dsimp only | (intro t ht; with_reducible assumption) | intro)

theorem agree_retAcceptLoss {μ : Nat} {σ : State} (hK : 8650752 ||| μ = μ) (p : Nat) (s : State) (hA : Agree μ σ s) : Agree μ σ (retAcceptLoss p s) := by
  refine Agree.step (k := 8650752) ?_ hK hA
  clear hA hK
  unfold retAcceptLoss
  repeat' (first | (intro x; first | (refine (fun (hx : Agree 8650752 s x) => ?_) ?_; clear_value x; rotate_left; subst x) | subst x) | lift_lets -underBinder | with_reducible exact Agree.refl _ _ | with_reducible assumption | with_reducible apply @agree_mdRt 8650752 _ (by decide) | with_reducible apply @agree_sendRelease 8650752 _ (by decide) | with_reducible apply @agree_retAct 8650752 _ (by decide) | with_reducible refine Agree.of_snd (by assumption) ?_ | with_reducible refine Agree.of_fst (by assumption) ?_ | split | dsimp only | (intro t ht; with_reducible assumption) | intro)

theorem agree_retAgain {μ : Nat} {σ : State} (hK : 8650752 ||| μ = μ) (p : Nat) (s : State) (hA : Agree μ σ s) : Agree μ σ (retAgain p s) := by
  refine Agree.step (k := 8650752) ?_ hK hA
  clear hA hK
  unfold retAgain
  repeat' (first | (intro x; first | (refine (fun (hx : Agree 8650752 s x) => ?_) ?_; clear_value x; rotate_left; subst x) | subst x) | lift_lets -underBinder | with_reducible exact Agree.refl _ _ | with_reducible assumption | with_reducible apply @agree_redecide 8650752 _ (by decide) | with_reducible apply @agree_retAct 8650752 _ (by decide) | with_reducible refine Agree.of_snd (by assumption) ?_ | with_reducible refine Agree.of_fst (by assumption) ?_ | split | dsimp only | (intro t ht; with_reducible assumption) | intro)

theorem agree_retDiscard {μ : Nat} {σ : State} (hK : 11796481 ||| μ = μ) (p : Nat) (s : State) (hA : Agree μ σ s) : Agree μ σ (retDiscard p s) := by
  refine Agree.step (k := 11796481) ?_ hK hA
  clear hA hK
  unfold retDiscard
  repeat' (first | (intro x; first | (refine (fun (hx : Agree 11796481 s x) => ?_) ?_; clear_value x; rotate_left; subst x) | subst x) | lift_lets -underBinder | with_reducible exact Agree.refl _ _ | with_reducible assumption | with_reducible apply @agree_mdRt 11796481 _ (by decide) | with_reducible apply @agree_retireAll 11796481 _ (by decide) | with_reducible apply @agree_discardStep 11796481 _ (by decide) | with_reducible apply @agree_retAct 11796481 _ (by decide) | with_reducible refine Agree.of_snd (by assumption) ?_ | with_reducible refine Agree.of_fst (by assumption) ?_ | split | dsimp only | (intro t ht; with_reducible assumption) | intro)

theorem agree_retLeave {μ : Nat} {σ : State} (hK : 8388864 ||| μ = μ) (p : Nat) (s : State) (hA : Agree μ σ s) : Agree μ σ (retLeave p s) := by
  refine Agree.step (k := 8388864) ?_ hK hA
  clear hA hK
  unfold retLeave
  repeat' (first | (intro x; first | (refine (fun (hx : Agree 8388864 s x) => ?_) ?_; clear_value x; rotate_left; subst x) | subst x) | lift_lets -underBinder | with_reducible exact Agree.refl _ _ | with_reducible assumption | with_reducible apply @agree_makePending 8388864 _ (by decide) | with_reducible apply @agree_retAct 8388864 _ (by decide) | with_reducible refine Agree.of_snd (by assumption) ?_ | with_reducible refine Agree.of_fst (by assumption) ?_ | split | dsimp only | (intro t ht; with_reducible assumption) | intro)

theorem agree_retReassign {μ : Nat} {σ : State} (hK : 8388608 ||| μ = μ) (p : Nat) (src : Nat) (s : State) (hA : Agree μ σ s) : Agree μ σ (retReassign p src s) := by
  refine Agree.step (k := 8388608) ?_ hK hA
  clear hA hK
  unfold retReassign
  repeat' (first | (intro x; first | (refine (fun (hx : Agree 8388608 s x) => ?_) ?_; clear_value x; rotate_left; subst x) | subst x) | lift_lets -underBinder | with_reducible exact Agree.refl _ _ | with_reducible assumption | with_reducible apply @agree_mdRt 8388608 _ (by decide) | with_reducible apply @agree_retAct 8388608 _ (by decide) | with_reducible refine Agree.of_snd (by assumption) ?_ | with_reducible refine Agree.of_fst (by assumption) ?_ | split | dsimp only | (intro t ht; with_reducible assumption) | intro)

theorem agree_retConc {μ : Nat} {σ : State} (hK : 768 ||| μ = μ) (w : Word) (s : State) (hA : Agree μ σ s) : Agree μ σ (retConc w s) := by
  refine Agree.step (k := 768) ?_ hK hA
  clear hA hK
  unfold retConc
  repeat' (first | (intro x; first | (refine (fun (hx : Agree 768 s x) => ?_) ?_; clear_value x; rotate_left; subst x) | subst x) | lift_lets -underBinder | with_reducible exact Agree.refl _ _ | with_reducible assumption | ((conv => (arg 3; arg 27; skip)); with_reducible refine Agree.upd_ctrl _ (by decide) ?_) | with_reducible apply @agree_setEvt 768 _ (by decide) | with_reducible refine Agree.of_snd (by assumption) ?_ | with_reducible refine Agree.of_fst (by assumption) ?_ | split | dsimp only | (intro t ht; with_reducible assumption) | intro)

theorem agree_releaseAckRx {μ : Nat} {σ : State} (hK : 11796481 ||| μ = μ) (p : Nat) (s : State) (hA : Agree μ σ s) : Agree μ σ (releaseAckRx p s) := by
  refine Agree.step (k := 11796481) ?_ hK hA
  clear hA hK
  unfold releaseAckRx
  repeat' (first | (intro x; first | (refine (fun (hx : Agree 11796481 s x) => ?_) ?_; clear_value x; rotate_left; subst x) | subst x) | lift_lets -underBinder | with_reducible exact Agree.refl _ _ | with_reducible assumption | with_reducible apply @agree_mdRt 11796481 _ (by decide) | with_reducible apply @agree_released 11796481 _ (by decide) | with_reducible refine Agree.of_snd (by assumption) ?_ | with_reducible refine Agree.of_fst (by assumption) ?_ | split | dsimp only | (intro t ht; with_reducible assumption) | intro)

theorem agree_releaseTimeout {μ : Nat} {σ : State} (hK : 8658944 ||| μ = μ) (p : Nat) (s : State) (hA : Agree μ σ s) : Agree μ σ (releaseTimeout p s) := by
  refine Agree.step (k := 8658944) ?_ hK hA
  clear hA hK
  unfold releaseTimeout
  repeat' (first | (intro x; first | (refine (fun (hx : Agree 8658944 s x) => ?_) ?_; clear_value x; rotate_left; subst x) | subst x) | lift_lets -underBinder | with_reducible exact Agree.refl _ _ | with_reducible assumption | with_reducible apply @agree_mdRt 8658944 _ (by decide) | with_reducible apply @agree_send 8658944 _ (by decide) | with_reducible apply @agree_toRecover 8658944 _ (by decide) | with_reducible refine Agree.of_snd (by assumption) ?_ | with_reducible refine Agree.of_fst (by assumption) ?_ | split | dsimp only | (intro t ht; with_reducible assumption) | intro)

theorem agree_restoreStart {μ : Nat} {σ : State} (hK : 8650752 ||| μ = μ) (s : State) (hA : Agree μ σ s) : Agree μ σ (restoreStart s) := by
  refine Agree.step (k := 8650752) ?_ hK hA
  clear hA hK
  unfold restoreStart
  repeat' (first | (intro x; first | (refine (fun (hx : Agree 8650752 s x) => ?_) ?_; clear_value x; rotate_left; subst x) | subst x) | lift_lets -underBinder | with_reducible exact Agree.refl _ _ | with_reducible assumption | with_reducible apply @agree_mdRt 8650752 _ (by decide) | with_reducible apply @agree_redecide 8650752 _ (by decide) | with_reducible apply @agree_restoreClear 8650752 _ (by decide) | with_reducible refine Agree.of_snd (by assumption) ?_ | with_reducible refine Agree.of_fst (by assumption) ?_ | split | dsimp only | (intro t ht; with_reducible assumption) | intro)

theorem agree_retWaitExpiry {μ : Nat} {σ : State} (hK : 8388864 ||| μ = μ) (s : State) (hA : Agree μ σ s) : Agree μ σ (retWaitExpiry s) := by
  refine Agree.step (k := 8388864) ?_ hK hA
  clear hA hK
  unfold retWaitExpiry
  repeat' (first | (intro x; first | (refine (fun (hx : Agree 8388864 s x) => ?_) ?_; clear_value x; rotate_left; subst x) | subst x) | lift_lets -underBinder | with_reducible exact Agree.refl _ _ | with_reducible assumption | ((conv => (arg 3; arg 27; skip)); with_reducible refine Agree.upd_ret _ (by decide) ?_) | with_reducible refine Agree.forN ?_ ?_ | with_reducible apply @agree_makePending 8388864 _ (by decide) | with_reducible refine Agree.of_snd (by assumption) ?_ | with_reducible refine Agree.of_fst (by assumption) ?_ | split | dsimp only | (intro t ht; with_reducible assumption) | intro)

theorem agree_wackRx {μ : Nat} {σ : State} (hK : 9707521 ||| μ = μ) (p : Nat) (h : Nat) (sq : Nat) (chunk : Nat) (tag : Nat) (status : Nat) (s : State) (hA : Agree μ σ s) : Agree μ σ (wackRx p h sq chunk tag status s) := by
  refine Agree.step (k := 9707521) ?_ hK hA
  clear hA hK
  unfold wackRx
  repeat' (first | (intro x; first | (refine (fun (hx : Agree 9707521 s x) => ?_) ?_; clear_value x; rotate_left; subst x) | subst x) | lift_lets -underBinder | with_reducible exact Agree.refl _ _ | with_reducible assumption | with_reducible apply @agree_mdRt 9707521 _ (by decide) | with_reducible apply @agree_protoErr 9707521 _ (by decide) | with_reducible apply @agree_stepRestore 9707521 _ (by decide) | with_reducible refine Agree.of_snd (by assumption) ?_ | with_reducible refine Agree.of_fst (by assumption) ?_ | split | dsimp only | (intro t ht; with_reducible assumption) | intro)

theorem agree_wackTimeout {μ : Nat} {σ : State} (hK : 9707521 ||| μ = μ) (p : Nat) (sq : Nat) (chunk : Nat) (s : State) (hA : Agree μ σ s) : Agree μ σ (wackTimeout p sq chunk s) := by
  refine Agree.step (k := 9707521) ?_ hK hA
  clear hA hK
  unfold wackTimeout
  repeat' (first | (intro x; first | (refine (fun (hx : Agree 9707521 s x) => ?_) ?_; clear_value x; rotate_left; subst x) | subst x) | lift_lets -underBinder | with_reducible exact Agree.refl _ _ | with_reducible assumption | with_reducible apply @agree_mdRt 9707521 _ (by decide) | with_reducible apply @agree_protoErr 9707521 _ (by decide) | with_reducible apply @agree_stepRestore 9707521 _ (by decide) | with_reducible refine Agree.of_snd (by assumption) ?_ | with_reducible refine Agree.of_fst (by assumption) ?_ | split | dsimp only | (intro t ht; with_reducible assumption) | intro)

end State
end Sys2Proof.Machine
end

