-- ==== Sys2Proof/Laws/AgreeKeyExchange.lean ====
section
/-! SUPPORT. The fields of State that each function of Machine/KeyExchange.lean can change. -/
set_option Elab.async false

set_option linter.unusedTactic false
set_option linter.unreachableTactic false

namespace Sys2Proof.Machine
namespace State

theorem agree_mdPair {μ : Nat} {σ : State} (hK : 33554432 ||| μ = μ) (f : Pair → Pair) (s : State) (hA : Agree μ σ s) : Agree μ σ (mdPair f s) := by
  refine Agree.step (k := 33554432) ?_ hK hA
  clear hA hK
  unfold mdPair
  repeat' (first | (intro x; first | (refine (fun (hx : Agree 33554432 s x) => ?_) ?_; clear_value x; rotate_left; subst x) | subst x) | lift_lets -underBinder | with_reducible exact Agree.refl _ _ | with_reducible assumption | ((conv => (arg 3; arg 27; skip)); with_reducible refine Agree.upd_pair _ (by decide) ?_) | with_reducible refine Agree.of_snd (by assumption) ?_ | with_reducible refine Agree.of_fst (by assumption) ?_ | split | dsimp only | (intro t ht; with_reducible assumption) | intro)

theorem agree_kxEnd {μ : Nat} {σ : State} (hK : 33554432 ||| μ = μ) (st : Nat) (s : State) (hA : Agree μ σ s) : Agree μ σ (kxEnd st s) := by
  refine Agree.step (k := 33554432) ?_ hK hA
  clear hA hK
  unfold kxEnd
  repeat' (first | (intro x; first | (refine (fun (hx : Agree 33554432 s x) => ?_) ?_; clear_value x; rotate_left; subst x) | subst x) | lift_lets -underBinder | with_reducible exact Agree.refl _ _ | with_reducible assumption | with_reducible apply @agree_mdPair 33554432 _ (by decide) | with_reducible refine Agree.of_snd (by assumption) ?_ | with_reducible refine Agree.of_fst (by assumption) ?_ | split | dsimp only | (intro t ht; with_reducible assumption) | intro)

theorem agree_psend {μ : Nat} {σ : State} (hK : 33554432 ||| μ = μ) (m : PMsg) (s : State) (hA : Agree μ σ s) : Agree μ σ (psend m s) := by
  refine Agree.step (k := 33554432) ?_ hK hA
  clear hA hK
  unfold psend
  repeat' (first | (intro x; first | (refine (fun (hx : Agree 33554432 s x) => ?_) ?_; clear_value x; rotate_left; subst x) | subst x) | lift_lets -underBinder | with_reducible exact Agree.refl _ _ | with_reducible assumption | with_reducible apply @agree_mdPair 33554432 _ (by decide) | with_reducible refine Agree.of_snd (by assumption) ?_ | with_reducible refine Agree.of_fst (by assumption) ?_ | split | dsimp only | (intro t ht; with_reducible assumption) | intro)

theorem agree_kxBegin {μ : Nat} {σ : State} (hK : 33554433 ||| μ = μ) (s : State) (hA : Agree μ σ s) : Agree μ σ (kxBegin s) := by
  refine Agree.step (k := 33554433) ?_ hK hA
  clear hA hK
  unfold kxBegin
  repeat' (first | (intro x; first | (refine (fun (hx : Agree 33554433 s x) => ?_) ?_; clear_value x; rotate_left; subst x) | subst x) | lift_lets -underBinder | with_reducible exact Agree.refl _ _ | with_reducible assumption | with_reducible apply @agree_mdPair 33554433 _ (by decide) | with_reducible apply @agree_tick 33554433 _ (by decide) | with_reducible apply @agree_psend 33554433 _ (by decide) | with_reducible refine Agree.of_snd (by assumption) ?_ | with_reducible refine Agree.of_fst (by assumption) ?_ | split | dsimp only | (intro t ht; with_reducible assumption) | intro)

theorem agree_kxDrop {μ : Nat} {σ : State} (hK : 33554432 ||| μ = μ) (s : State) (hA : Agree μ σ s) : Agree μ σ (kxDrop s) := by
  refine Agree.step (k := 33554432) ?_ hK hA
  clear hA hK
  unfold kxDrop
  repeat' (first | (intro x; first | (refine (fun (hx : Agree 33554432 s x) => ?_) ?_; clear_value x; rotate_left; subst x) | subst x) | lift_lets -underBinder | with_reducible exact Agree.refl _ _ | with_reducible assumption | with_reducible apply @agree_kxEnd 33554432 _ (by decide) | with_reducible refine Agree.of_snd (by assumption) ?_ | with_reducible refine Agree.of_fst (by assumption) ?_ | split | dsimp only | (intro t ht; with_reducible assumption) | intro)

theorem agree_kxTurn {μ : Nat} {σ : State} (hK : 33554432 ||| μ = μ) (s : State) (hA : Agree μ σ s) : Agree μ σ (kxTurn s) := by
  refine Agree.step (k := 33554432) ?_ hK hA
  clear hA hK
  unfold kxTurn
  repeat' (first | (intro x; first | (refine (fun (hx : Agree 33554432 s x) => ?_) ?_; clear_value x; rotate_left; subst x) | subst x) | lift_lets -underBinder | with_reducible exact Agree.refl _ _ | with_reducible assumption | with_reducible apply @agree_kxDrop 33554432 _ (by decide) | with_reducible refine Agree.of_snd (by assumption) ?_ | with_reducible refine Agree.of_fst (by assumption) ?_ | split | dsimp only | (intro t ht; with_reducible assumption) | intro)

end State
end Sys2Proof.Machine
end

