-- ==== Sys2Proof/Laws/AgreeJobs.lean ====
section
/-! SUPPORT. The fields of State that each function of Machine/Jobs.lean can change. -/
set_option Elab.async false

set_option linter.unusedTactic false
set_option linter.unreachableTactic false

namespace Sys2Proof.Machine
namespace State

theorem agree_fmtDrop {μ : Nat} {σ : State} (hK : 1048576 ||| μ = μ) (s : State) (hA : Agree μ σ s) : Agree μ σ (fmtDrop s) := by
  refine Agree.step (k := 1048576) ?_ hK hA
  clear hA hK
  unfold fmtDrop
  repeat' (first | (intro x; first | (refine (fun (hx : Agree 1048576 s x) => ?_) ?_; clear_value x; rotate_left; subst x) | subst x) | lift_lets -underBinder | with_reducible exact Agree.refl _ _ | with_reducible assumption | with_reducible apply @agree_mdDev 1048576 _ (by decide) | with_reducible refine Agree.of_snd (by assumption) ?_ | with_reducible refine Agree.of_fst (by assumption) ?_ | split | dsimp only | (intro t ht; with_reducible assumption) | intro)

theorem agree_keyDrop {μ : Nat} {σ : State} (hK : 33554432 ||| μ = μ) (s : State) (hA : Agree μ σ s) : Agree μ σ (keyDrop s) := by
  refine Agree.step (k := 33554432) ?_ hK hA
  clear hA hK
  unfold keyDrop
  repeat' (first | (intro x; first | (refine (fun (hx : Agree 33554432 s x) => ?_) ?_; clear_value x; rotate_left; subst x) | subst x) | lift_lets -underBinder | with_reducible exact Agree.refl _ _ | with_reducible assumption | with_reducible apply @agree_kxEnd 33554432 _ (by decide) | with_reducible refine Agree.of_snd (by assumption) ?_ | with_reducible refine Agree.of_fst (by assumption) ?_ | split | dsimp only | (intro t ht; with_reducible assumption) | intro)

theorem agree_jobAbort {μ : Nat} {σ : State} (hK : 36700160 ||| μ = μ) (s : State) (hA : Agree μ σ s) : Agree μ σ (jobAbort s).2 := by
  refine Agree.step (k := 36700160) ?_ hK hA
  clear hA hK
  unfold jobAbort
  repeat' (first | (intro x; first | (refine (fun (hx : Agree 36700160 s x) => ?_) ?_; clear_value x; rotate_left; subst x) | subst x) | lift_lets -underBinder | with_reducible exact Agree.refl _ _ | with_reducible assumption | ((conv => (arg 3; arg 27; skip)); with_reducible refine Agree.upd_stage _ (by decide) ?_) | with_reducible apply @agree_fmtDrop 36700160 _ (by decide) | with_reducible apply @agree_keyDrop 36700160 _ (by decide) | with_reducible apply @agree_mdVault 36700160 _ (by decide) | with_reducible refine Agree.of_snd (by assumption) ?_ | with_reducible refine Agree.of_fst (by assumption) ?_ | split | dsimp only | (intro t ht; with_reducible assumption) | intro)

theorem agree_jobsTrip {μ : Nat} {σ : State} (hK : 36702464 ||| μ = μ) (s : State) (hA : Agree μ σ s) : Agree μ σ (jobsTrip s) := by
  refine Agree.step (k := 36702464) ?_ hK hA
  clear hA hK
  unfold jobsTrip
  repeat' (first | (intro x; first | (refine (fun (hx : Agree 36702464 s x) => ?_) ?_; clear_value x; rotate_left; subst x) | subst x) | lift_lets -underBinder | with_reducible exact Agree.refl _ _ | with_reducible assumption | ((conv => (arg 3; arg 27; skip)); with_reducible refine Agree.upd_stage _ (by decide) ?_) | with_reducible refine Agree.forL ?_ ?_ | with_reducible apply @agree_cmdEnd 36702464 _ (by decide) | with_reducible apply @agree_fmtDrop 36702464 _ (by decide) | with_reducible apply @agree_keyDrop 36702464 _ (by decide) | with_reducible apply @agree_mdVault 36702464 _ (by decide) | with_reducible apply @agree_confUnitsDone 36702464 _ (by decide) | with_reducible apply @agree_jobEnd 36702464 _ (by decide) | with_reducible refine Agree.of_snd (by assumption) ?_ | with_reducible refine Agree.of_fst (by assumption) ?_ | split | dsimp only | (intro t ht; with_reducible assumption) | intro)

theorem agree_adopt {μ : Nat} {σ : State} (hK : 3154177 ||| μ = μ) (x : Nat) (s : State) (hA : Agree μ σ s) : Agree μ σ (adopt x s) := by
  refine Agree.step (k := 3154177) ?_ hK hA
  clear hA hK
  unfold adopt
  repeat' (first | (intro x; first | (refine (fun (hx : Agree 3154177 s x) => ?_) ?_; clear_value x; rotate_left; subst x) | subst x) | lift_lets -underBinder | with_reducible exact Agree.refl _ _ | with_reducible assumption | with_reducible refine Agree.forN ?_ ?_ | with_reducible refine Agree.forL ?_ ?_ | with_reducible apply @agree_setEvt 3154177 _ (by decide) | with_reducible apply @agree_mdSled 3154177 _ (by decide) | with_reducible apply @agree_mdVault 3154177 _ (by decide) | with_reducible apply @agree_setCursor 3154177 _ (by decide) | with_reducible apply @agree_pump 3154177 _ (by decide) | with_reducible apply @agree_unraise 3154177 _ (by decide) | with_reducible apply @agree_reserveUpdate 3154177 _ (by decide) | with_reducible apply @agree_rewriteDesc 3154177 _ (by decide) | with_reducible refine Agree.of_snd (by assumption) ?_ | with_reducible refine Agree.of_fst (by assumption) ?_ | split | dsimp only | (intro t ht; with_reducible assumption) | intro)

theorem agree_alignTo {μ : Nat} {σ : State} (hK : 3145728 ||| μ = μ) (x : Nat) (x1 : Nat) (x2 : State) (hA : Agree μ σ x2) : Agree μ σ (alignTo x x1 x2) := by
  induction x1 generalizing x2 with
  | zero => unfold alignTo; exact hA
  | succ x1 ih =>
  unfold alignTo
  repeat' (first | (intro x; first | (refine (fun (hx : Agree μ σ x) => ?_) ?_; clear_value x; rotate_left; subst x) | subst x) | lift_lets -underBinder | with_reducible exact Agree.refl _ _ | with_reducible assumption | with_reducible apply ih | with_reducible apply @agree_openStripe μ _ (Agree.sub_of hK (by decide)) | with_reducible apply @agree_addUnit μ _ (Agree.sub_of hK (by decide)) | with_reducible refine Agree.of_snd (by assumption) ?_ | with_reducible refine Agree.of_fst (by assumption) ?_ | split | dsimp only | (intro t ht; with_reducible assumption) | intro)

theorem agree_mdReloc {μ : Nat} {σ : State} (hK : 1048576 ||| μ = μ) (f : Reloc → Reloc) (s : State) (hA : Agree μ σ s) : Agree μ σ (mdReloc f s) := by
  refine Agree.step (k := 1048576) ?_ hK hA
  clear hA hK
  unfold mdReloc
  repeat' (first | (intro x; first | (refine (fun (hx : Agree 1048576 s x) => ?_) ?_; clear_value x; rotate_left; subst x) | subst x) | lift_lets -underBinder | with_reducible exact Agree.refl _ _ | with_reducible assumption | with_reducible apply @agree_mdVault 1048576 _ (by decide) | with_reducible refine Agree.of_snd (by assumption) ?_ | with_reducible refine Agree.of_fst (by assumption) ?_ | split | dsimp only | (intro t ht; with_reducible assumption) | intro)

theorem agree_catCopy {μ : Nat} {σ : State} (hK : 3145729 ||| μ = μ) (r : Nat) (u : FUnit) (s : State) (hA : Agree μ σ s) : Agree μ σ (catCopy r u s).2 := by
  refine Agree.step (k := 3145729) ?_ hK hA
  clear hA hK
  unfold catCopy
  repeat' (first | (intro x; first | (refine (fun (hx : Agree 3145729 s x) => ?_) ?_; clear_value x; rotate_left; subst x) | subst x) | lift_lets -underBinder | with_reducible exact Agree.refl _ _ | with_reducible assumption | with_reducible apply @agree_mdDev 3145729 _ (by decide) | with_reducible apply @agree_postDesc 3145729 _ (by decide) | with_reducible apply @agree_setCursor 3145729 _ (by decide) | with_reducible apply @agree_tick 3145729 _ (by decide) | with_reducible apply @agree_takeSeq 3145729 _ (by decide) | with_reducible refine Agree.of_snd (by assumption) ?_ | with_reducible refine Agree.of_fst (by assumption) ?_ | split | dsimp only | (intro t ht; with_reducible assumption) | intro)

theorem agree_catEraseStep {μ : Nat} {σ : State} (hK : 3145729 ||| μ = μ) (s : State) (hA : Agree μ σ s) : Agree μ σ (catEraseStep s) := by
  refine Agree.step (k := 3145729) ?_ hK hA
  clear hA hK
  unfold catEraseStep
  repeat' (first | (intro x; first | (refine (fun (hx : Agree 3145729 s x) => ?_) ?_; clear_value x; rotate_left; subst x) | subst x) | lift_lets -underBinder | with_reducible exact Agree.refl _ _ | with_reducible assumption | with_reducible refine Agree.forL ?_ ?_ | with_reducible refine Agree.foldl ?_ ?_ | with_reducible refine Agree.foldl_snd ?_ ?_ | with_reducible refine Agree.foldl_fst ?_ ?_ | with_reducible refine Agree.foldl_thd ?_ ?_ | with_reducible apply @agree_mdVault 3145729 _ (by decide) | with_reducible apply @agree_catCopy 3145729 _ (by decide) | with_reducible refine Agree.of_snd (by assumption) ?_ | with_reducible refine Agree.of_fst (by assumption) ?_ | split | dsimp only | (intro t ht; with_reducible assumption) | intro)

theorem agree_catForward {μ : Nat} {σ : State} (hK : 3145729 ||| μ = μ) (s : State) (hA : Agree μ σ s) : Agree μ σ (catForward s) := by
  refine Agree.step (k := 3145729) ?_ hK hA
  clear hA hK
  unfold catForward
  repeat' (first | (intro x; first | (refine (fun (hx : Agree 3145729 s x) => ?_) ?_; clear_value x; rotate_left; subst x) | subst x) | lift_lets -underBinder | with_reducible exact Agree.refl _ _ | with_reducible assumption | with_reducible refine Agree.forL ?_ ?_ | with_reducible apply @agree_mdVault 3145729 _ (by decide) | with_reducible apply @agree_catCopy 3145729 _ (by decide) | with_reducible refine Agree.of_snd (by assumption) ?_ | with_reducible refine Agree.of_fst (by assumption) ?_ | split | dsimp only | (intro t ht; with_reducible assumption) | intro)

theorem agree_jobStart {μ : Nat} {σ : State} (hK : 1048576 ||| μ = μ) (j : Nat) (ok : Bool) (f : State → State) (s : State) (hf : ∀ t, Agree μ σ t → Agree μ σ (f t)) (hA : Agree μ σ s) : Agree μ σ (jobStart j ok f s).2 := by
  unfold jobStart
  repeat' (first | (intro x; first | (refine (fun (hx : Agree μ σ x) => ?_) ?_; clear_value x; rotate_left; subst x) | subst x) | lift_lets -underBinder | with_reducible exact Agree.refl _ _ | with_reducible assumption | with_reducible apply hf | with_reducible apply @agree_mdVault μ _ (Agree.sub_of hK (by decide)) | with_reducible refine Agree.of_snd (by assumption) ?_ | with_reducible refine Agree.of_fst (by assumption) ?_ | split | dsimp only | (intro t ht; with_reducible assumption) | intro)

theorem agree_startDrain {μ : Nat} {σ : State} (hK : 1048576 ||| μ = μ) (s : State) (hA : Agree μ σ s) : Agree μ σ (startDrain s).2 := by
  refine Agree.step (k := 1048576) ?_ hK hA
  clear hA hK
  unfold startDrain
  repeat' (first | (intro x; first | (refine (fun (hx : Agree 1048576 s x) => ?_) ?_; clear_value x; rotate_left; subst x) | subst x) | lift_lets -underBinder | with_reducible exact Agree.refl _ _ | with_reducible assumption | with_reducible apply @agree_mdVault 1048576 _ (by decide) | with_reducible apply @agree_jobStart 1048576 _ (by decide) | with_reducible refine Agree.of_snd (by assumption) ?_ | with_reducible refine Agree.of_fst (by assumption) ?_ | split | dsimp only | (intro t ht; with_reducible assumption) | intro)

theorem agree_fmtNext {μ : Nat} {σ : State} (hK : 1048576 ||| μ = μ) (r : Nat) (s : State) (hA : Agree μ σ s) : Agree μ σ (fmtNext r s) := by
  refine Agree.step (k := 1048576) ?_ hK hA
  clear hA hK
  unfold fmtNext
  repeat' (first | (intro x; first | (refine (fun (hx : Agree 1048576 s x) => ?_) ?_; clear_value x; rotate_left; subst x) | subst x) | lift_lets -underBinder | with_reducible exact Agree.refl _ _ | with_reducible assumption | with_reducible apply @agree_mdVault 1048576 _ (by decide) | with_reducible apply @agree_postDesc 1048576 _ (by decide) | with_reducible refine Agree.of_snd (by assumption) ?_ | with_reducible refine Agree.of_fst (by assumption) ?_ | split | dsimp only | (intro t ht; with_reducible assumption) | intro)

theorem agree_startFormat {μ : Nat} {σ : State} (hK : 3148033 ||| μ = μ) (s : State) (hA : Agree μ σ s) : Agree μ σ (startFormat s).2 := by
  refine Agree.step (k := 3148033) ?_ hK hA
  clear hA hK
  unfold startFormat
  repeat' (first | (intro x; first | (refine (fun (hx : Agree 3148033 s x) => ?_) ?_; clear_value x; rotate_left; subst x) | subst x) | lift_lets -underBinder | with_reducible exact Agree.refl _ _ | with_reducible assumption | with_reducible refine Agree.forL ?_ ?_ | with_reducible refine Agree.foldl ?_ ?_ | with_reducible refine Agree.foldl_snd ?_ ?_ | with_reducible refine Agree.foldl_fst ?_ ?_ | with_reducible refine Agree.foldl_thd ?_ ?_ | with_reducible apply @agree_setEvt 3148033 _ (by decide) | with_reducible apply @agree_mdSled 3148033 _ (by decide) | with_reducible apply @agree_mdVault 3148033 _ (by decide) | with_reducible apply @agree_jobEnd 3148033 _ (by decide) | with_reducible apply @agree_advanceEpoch 3148033 _ (by decide) | with_reducible apply @agree_openRings 3148033 _ (by decide) | with_reducible apply @agree_scanEnd 3148033 _ (by decide) | with_reducible apply @agree_sledQuiet 3148033 _ (by decide) | with_reducible apply @agree_degrade 3148033 _ (by decide) | with_reducible apply @agree_jobStart 3148033 _ (by decide) | with_reducible apply @agree_fmtNext 3148033 _ (by decide) | with_reducible refine Agree.of_snd (by assumption) ?_ | with_reducible refine Agree.of_fst (by assumption) ?_ | split | dsimp only | (intro t ht; with_reducible assumption) | intro)

theorem agree_eraseWrite {μ : Nat} {σ : State} (hK : 3145729 ||| μ = μ) (kb : KeyBlock) (s : State) (hA : Agree μ σ s) : Agree μ σ (eraseWrite kb s) := by
  refine Agree.step (k := 3145729) ?_ hK hA
  clear hA hK
  unfold eraseWrite
  repeat' (first | (intro x; first | (refine (fun (hx : Agree 3145729 s x) => ?_) ?_; clear_value x; rotate_left; subst x) | subst x) | lift_lets -underBinder | with_reducible exact Agree.refl _ _ | with_reducible assumption | with_reducible apply @agree_mdVault 3145729 _ (by decide) | with_reducible apply @agree_keysOut 3145729 _ (by decide) | with_reducible refine Agree.of_snd (by assumption) ?_ | with_reducible refine Agree.of_fst (by assumption) ?_ | split | dsimp only | (intro t ht; with_reducible assumption) | intro)

theorem agree_startErase {μ : Nat} {σ : State} (hK : 36962305 ||| μ = μ) (s : State) (hA : Agree μ σ s) : Agree μ σ (startErase s).2 := by
  refine Agree.step (k := 36962305) ?_ hK hA
  clear hA hK
  unfold startErase
  repeat' (first | (intro x; first | (refine (fun (hx : Agree 36962305 s x) => ?_) ?_; clear_value x; rotate_left; subst x) | subst x) | lift_lets -underBinder | with_reducible exact Agree.refl _ _ | with_reducible assumption | ((conv => (arg 3; arg 27; skip)); with_reducible refine Agree.upd_stage _ (by decide) ?_) | with_reducible refine Agree.forL ?_ ?_ | with_reducible apply @agree_mdVault 36962305 _ (by decide) | with_reducible apply @agree_tick 36962305 _ (by decide) | with_reducible apply @agree_cancelCopies 36962305 _ (by decide) | with_reducible apply @agree_sendRevert 36962305 _ (by decide) | with_reducible apply @agree_jobStart 36962305 _ (by decide) | with_reducible apply @agree_eraseWrite 36962305 _ (by decide) | with_reducible apply @agree_kxBegin 36962305 _ (by decide) | with_reducible refine Agree.of_snd (by assumption) ?_ | with_reducible refine Agree.of_fst (by assumption) ?_ | split | dsimp only | (intro t ht; with_reducible assumption) | intro)

theorem agree_postRead {μ : Nat} {σ : State} (hK : 1048577 ||| μ = μ) (w : Nat) (u : LiveUnit) (s : State) (hA : Agree μ σ s) : Agree μ σ (postRead w u s).2 := by
  refine Agree.step (k := 1048577) ?_ hK hA
  clear hA hK
  unfold postRead
  repeat' (first | (intro x; first | (refine (fun (hx : Agree 1048577 s x) => ?_) ?_; clear_value x; rotate_left; subst x) | subst x) | lift_lets -underBinder | with_reducible exact Agree.refl _ _ | with_reducible assumption | with_reducible apply @agree_postDesc 1048577 _ (by decide) | with_reducible apply @agree_tick 1048577 _ (by decide) | with_reducible refine Agree.of_snd (by assumption) ?_ | with_reducible refine Agree.of_fst (by assumption) ?_ | split | dsimp only | (intro t ht; with_reducible assumption) | intro)

theorem agree_pendEnts {μ : Nat} {σ : State} (hK : 2097152 ||| μ = μ) (es : List ConfEnt) (s : State) (hA : Agree μ σ s) : Agree μ σ (pendEnts es s) := by
  refine Agree.step (k := 2097152) ?_ hK hA
  clear hA hK
  unfold pendEnts
  repeat' (first | (intro x; first | (refine (fun (hx : Agree 2097152 s x) => ?_) ?_; clear_value x; rotate_left; subst x) | subst x) | lift_lets -underBinder | with_reducible exact Agree.refl _ _ | with_reducible assumption | ((conv => (arg 3; arg 27; skip)); with_reducible refine Agree.upd_stage _ (by decide) ?_) | with_reducible refine Agree.of_snd (by assumption) ?_ | with_reducible refine Agree.of_fst (by assumption) ?_ | split | dsimp only | (intro t ht; with_reducible assumption) | intro)

theorem agree_relocPlan {μ : Nat} {σ : State} (hK : 3145728 ||| μ = μ) (pred : Nat → Bool) (s : State) (hA : Agree μ σ s) : Agree μ σ (relocPlan pred s) := by
  refine Agree.step (k := 3145728) ?_ hK hA
  clear hA hK
  unfold relocPlan
  repeat' (first | (intro x; first | (refine (fun (hx : Agree 3145728 s x) => ?_) ?_; clear_value x; rotate_left; subst x) | subst x) | lift_lets -underBinder | with_reducible exact Agree.refl _ _ | with_reducible assumption | with_reducible apply @agree_mdVault 3145728 _ (by decide) | with_reducible apply @agree_mdReloc 3145728 _ (by decide) | with_reducible apply @agree_pendEnts 3145728 _ (by decide) | with_reducible refine Agree.of_snd (by assumption) ?_ | with_reducible refine Agree.of_fst (by assumption) ?_ | split | dsimp only | (intro t ht; with_reducible assumption) | intro)

theorem agree_relocEnd {μ : Nat} {σ : State} (hK : 3213569 ||| μ = μ) (s : State) (hA : Agree μ σ s) : Agree μ σ (relocEnd s) := by
  refine Agree.step (k := 3213569) ?_ hK hA
  clear hA hK
  unfold relocEnd
  repeat' (first | (intro x; first | (refine (fun (hx : Agree 3213569 s x) => ?_) ?_; clear_value x; rotate_left; subst x) | subst x) | lift_lets -underBinder | with_reducible exact Agree.refl _ _ | with_reducible assumption | with_reducible refine Agree.iter ?_ ?_ | with_reducible apply @agree_mdVault 3213569 _ (by decide) | with_reducible apply @agree_pump 3213569 _ (by decide) | with_reducible apply @agree_beginDown 3213569 _ (by decide) | with_reducible apply @agree_fillStripe 3213569 _ (by decide) | with_reducible apply @agree_writeConfirm 3213569 _ (by decide) | with_reducible apply @agree_mdReloc 3213569 _ (by decide) | with_reducible apply @agree_rjobEnd 3213569 _ (by decide) | with_reducible apply @agree_relocPlan 3213569 _ (by decide) | with_reducible refine Agree.of_snd (by assumption) ?_ | with_reducible refine Agree.of_fst (by assumption) ?_ | split | dsimp only | (intro t ht; with_reducible assumption) | intro)

theorem agree_relocStripeFor {μ : Nat} {σ : State} (hK : 3145728 ||| μ = μ) (area : Nat) (serial : Nat) (s : State) (hA : Agree μ σ s) : Agree μ σ (relocStripeFor area serial s) := by
  refine Agree.step (k := 3145728) ?_ hK hA
  clear hA hK
  unfold relocStripeFor
  repeat' (first | (intro x; first | (refine (fun (hx : Agree 3145728 s x) => ?_) ?_; clear_value x; rotate_left; subst x) | subst x) | lift_lets -underBinder | with_reducible exact Agree.refl _ _ | with_reducible assumption | with_reducible apply @agree_fillStripe 3145728 _ (by decide) | with_reducible refine Agree.of_snd (by assumption) ?_ | with_reducible refine Agree.of_fst (by assumption) ?_ | split | dsimp only | (intro t ht; with_reducible assumption) | intro)

theorem agree_relocImage {μ : Nat} {σ : State} (hK : 3145729 ||| μ = μ) (s : State) (hA : Agree μ σ s) : Agree μ σ (relocImage s) := by
  refine Agree.step (k := 3145729) ?_ hK hA
  clear hA hK
  unfold relocImage
  repeat' (first | (intro x; first | (refine (fun (hx : Agree 3145729 s x) => ?_) ?_; clear_value x; rotate_left; subst x) | subst x) | lift_lets -underBinder | with_reducible exact Agree.refl _ _ | with_reducible assumption | with_reducible apply @agree_pump 3145729 _ (by decide) | with_reducible apply @agree_addUnit 3145729 _ (by decide) | with_reducible apply @agree_fillStripe 3145729 _ (by decide) | with_reducible apply @agree_mdReloc 3145729 _ (by decide) | with_reducible apply @agree_postCat 3145729 _ (by decide) | with_reducible apply @agree_relocStripeFor 3145729 _ (by decide) | with_reducible refine Agree.of_snd (by assumption) ?_ | with_reducible refine Agree.of_fst (by assumption) ?_ | split | dsimp only | (intro t ht; with_reducible assumption) | intro)

theorem agree_relocMade {μ : Nat} {σ : State} (hK : 3145728 ||| μ = μ) (t : Stripe) (e : Nat × UTag) (s : State) (hA : Agree μ σ s) : Agree μ σ (relocMade t e s) := by
  refine Agree.step (k := 3145728) ?_ hK hA
  clear hA hK
  unfold relocMade
  repeat' (first | (intro x; first | (refine (fun (hx : Agree 3145728 s x) => ?_) ?_; clear_value x; rotate_left; subst x) | subst x) | lift_lets -underBinder | with_reducible exact Agree.refl _ _ | with_reducible assumption | ((conv => (arg 3; arg 27; skip)); with_reducible refine Agree.upd_stage _ (by decide) ?_) | with_reducible apply @agree_mdPp 3145728 _ (by decide) | with_reducible apply @agree_mdReloc 3145728 _ (by decide) | with_reducible refine Agree.of_snd (by assumption) ?_ | with_reducible refine Agree.of_fst (by assumption) ?_ | split | dsimp only | (intro t ht; with_reducible assumption) | intro)

theorem agree_relocStripe {μ : Nat} {σ : State} (hK : 3145728 ||| μ = μ) (s : State) (hA : Agree μ σ s) : Agree μ σ (relocStripe s) := by
  refine Agree.step (k := 3145728) ?_ hK hA
  clear hA hK
  unfold relocStripe
  repeat' (first | (intro x; first | (refine (fun (hx : Agree 3145728 s x) => ?_) ?_; clear_value x; rotate_left; subst x) | subst x) | lift_lets -underBinder | with_reducible exact Agree.refl _ _ | with_reducible assumption | with_reducible refine Agree.forL ?_ ?_ | with_reducible apply @agree_mdVault 3145728 _ (by decide) | with_reducible apply @agree_confUnitsDone 3145728 _ (by decide) | with_reducible apply @agree_mdReloc 3145728 _ (by decide) | with_reducible apply @agree_raiseHwm 3145728 _ (by decide) | with_reducible apply @agree_relocMade 3145728 _ (by decide) | with_reducible refine Agree.of_snd (by assumption) ?_ | with_reducible refine Agree.of_fst (by assumption) ?_ | split | dsimp only | (intro t ht; with_reducible assumption) | intro)

theorem agree_relocWrite {μ : Nat} {σ : State} (hK : 3145729 ||| μ = μ) (u : LiveUnit) (b : NBody) (s : State) (hA : Agree μ σ s) : Agree μ σ (relocWrite u b s) := by
  refine Agree.step (k := 3145729) ?_ hK hA
  clear hA hK
  unfold relocWrite
  repeat' (first | (intro x; first | (refine (fun (hx : Agree 3145729 s x) => ?_) ?_; clear_value x; rotate_left; subst x) | subst x) | lift_lets -underBinder | with_reducible exact Agree.refl _ _ | with_reducible assumption | with_reducible apply @agree_mdVault 3145729 _ (by decide) | with_reducible apply @agree_pump 3145729 _ (by decide) | with_reducible apply @agree_takeSeq 3145729 _ (by decide) | with_reducible apply @agree_addUnit 3145729 _ (by decide) | with_reducible apply @agree_alignTo 3145729 _ (by decide) | with_reducible apply @agree_mdReloc 3145729 _ (by decide) | with_reducible apply @agree_relocStripeFor 3145729 _ (by decide) | with_reducible refine Agree.of_snd (by assumption) ?_ | with_reducible refine Agree.of_fst (by assumption) ?_ | split | dsimp only | (intro t ht; with_reducible assumption) | intro)

theorem agree_relocTake {μ : Nat} {σ : State} (hK : 3145729 ||| μ = μ) (u : LiveUnit) (ok : Bool) (s : State) (hA : Agree μ σ s) : Agree μ σ (relocTake u ok s) := by
  refine Agree.step (k := 3145729) ?_ hK hA
  clear hA hK
  unfold relocTake
  repeat' (first | (intro x; first | (refine (fun (hx : Agree 3145729 s x) => ?_) ?_; clear_value x; rotate_left; subst x) | subst x) | lift_lets -underBinder | with_reducible exact Agree.refl _ _ | with_reducible assumption | with_reducible apply @agree_mdVault 3145729 _ (by decide) | with_reducible apply @agree_mdReloc 3145729 _ (by decide) | with_reducible apply @agree_relocWrite 3145729 _ (by decide) | with_reducible refine Agree.of_snd (by assumption) ?_ | with_reducible refine Agree.of_fst (by assumption) ?_ | split | dsimp only | (intro t ht; with_reducible assumption) | intro)

theorem agree_relocStep {μ : Nat} {σ : State} (hK : 3213569 ||| μ = μ) (s : State) (hA : Agree μ σ s) : Agree μ σ (relocStep s) := by
  refine Agree.step (k := 3213569) ?_ hK hA
  clear hA hK
  unfold relocStep
  repeat' (first | (intro x; first | (refine (fun (hx : Agree 3213569 s x) => ?_) ?_; clear_value x; rotate_left; subst x) | subst x) | lift_lets -underBinder | with_reducible exact Agree.refl _ _ | with_reducible assumption | with_reducible apply @agree_pump 3213569 _ (by decide) | with_reducible apply @agree_fillStripe 3213569 _ (by decide) | with_reducible apply @agree_mdReloc 3213569 _ (by decide) | with_reducible apply @agree_postRead 3213569 _ (by decide) | with_reducible apply @agree_relocEnd 3213569 _ (by decide) | with_reducible apply @agree_relocImage 3213569 _ (by decide) | with_reducible apply @agree_relocStripe 3213569 _ (by decide) | with_reducible apply @agree_relocTake 3213569 _ (by decide) | with_reducible refine Agree.of_snd (by assumption) ?_ | with_reducible refine Agree.of_fst (by assumption) ?_ | split | dsimp only | (intro t ht; with_reducible assumption) | intro)

theorem agree_rjobPlan {μ : Nat} {σ : State} (hK : 3145728 ||| μ = μ) (s : State) (hA : Agree μ σ s) : Agree μ σ (rjobPlan s) := by
  refine Agree.step (k := 3145728) ?_ hK hA
  clear hA hK
  unfold rjobPlan
  repeat' (first | (intro x; first | (refine (fun (hx : Agree 3145728 s x) => ?_) ?_; clear_value x; rotate_left; subst x) | subst x) | lift_lets -underBinder | with_reducible exact Agree.refl _ _ | with_reducible assumption | with_reducible apply @agree_relocPlan 3145728 _ (by decide) | with_reducible refine Agree.of_snd (by assumption) ?_ | with_reducible refine Agree.of_fst (by assumption) ?_ | split | dsimp only | (intro t ht; with_reducible assumption) | intro)

theorem agree_startRebuild {μ : Nat} {σ : State} (hK : 3213569 ||| μ = μ) (s : State) (hA : Agree μ σ s) : Agree μ σ (startRebuild s).2 := by
  refine Agree.step (k := 3213569) ?_ hK hA
  clear hA hK
  unfold startRebuild
  repeat' (first | (intro x; first | (refine (fun (hx : Agree 3213569 s x) => ?_) ?_; clear_value x; rotate_left; subst x) | subst x) | lift_lets -underBinder | with_reducible exact Agree.refl _ _ | with_reducible assumption | with_reducible apply @agree_mdVault 3213569 _ (by decide) | with_reducible apply @agree_jobStart 3213569 _ (by decide) | with_reducible apply @agree_relocStep 3213569 _ (by decide) | with_reducible apply @agree_rjobPlan 3213569 _ (by decide) | with_reducible refine Agree.of_snd (by assumption) ?_ | with_reducible refine Agree.of_fst (by assumption) ?_ | split | dsimp only | (intro t ht; with_reducible assumption) | intro)

theorem agree_exportSquare {μ : Nat} {σ : State} (hK : 1048576 ||| μ = μ) (u : LiveUnit) (ok : Bool) (s : State) (hA : Agree μ σ s) : Agree μ σ (exportSquare u ok s) := by
  refine Agree.step (k := 1048576) ?_ hK hA
  clear hA hK
  unfold exportSquare
  repeat' (first | (intro x; first | (refine (fun (hx : Agree 1048576 s x) => ?_) ?_; clear_value x; rotate_left; subst x) | subst x) | lift_lets -underBinder | with_reducible exact Agree.refl _ _ | with_reducible assumption | with_reducible apply @agree_mdVault 1048576 _ (by decide) | with_reducible refine Agree.of_snd (by assumption) ?_ | with_reducible refine Agree.of_fst (by assumption) ?_ | split | dsimp only | (intro t ht; with_reducible assumption) | intro)

theorem agree_exportStep {μ : Nat} {σ : State} (hK : 1050881 ||| μ = μ) (x0 : Nat) (x1 : State) (hA : Agree μ σ x1) : Agree μ σ (exportStep x0 x1) := by
  induction x0 generalizing x1 with
  | zero => unfold exportStep; exact hA
  | succ x0 ih =>
  unfold exportStep
  repeat' (first | (intro x; first | (refine (fun (hx : Agree μ σ x) => ?_) ?_; clear_value x; rotate_left; subst x) | subst x) | lift_lets -underBinder | with_reducible exact Agree.refl _ _ | with_reducible assumption | with_reducible apply ih | with_reducible apply @agree_mdVault μ _ (Agree.sub_of hK (by decide)) | with_reducible apply @agree_jobEnd μ _ (Agree.sub_of hK (by decide)) | with_reducible apply @agree_postRead μ _ (Agree.sub_of hK (by decide)) | with_reducible apply @agree_exportSquare μ _ (Agree.sub_of hK (by decide)) | with_reducible refine Agree.of_snd (by assumption) ?_ | with_reducible refine Agree.of_fst (by assumption) ?_ | split | dsimp only | (intro t ht; with_reducible assumption) | intro)

theorem agree_startExport {μ : Nat} {σ : State} (hK : 1050881 ||| μ = μ) (s : State) (hA : Agree μ σ s) : Agree μ σ (startExport s).2 := by
  refine Agree.step (k := 1050881) ?_ hK hA
  clear hA hK
  unfold startExport
  repeat' (first | (intro x; first | (refine (fun (hx : Agree 1050881 s x) => ?_) ?_; clear_value x; rotate_left; subst x) | subst x) | lift_lets -underBinder | with_reducible exact Agree.refl _ _ | with_reducible assumption | with_reducible apply @agree_mdVault 1050881 _ (by decide) | with_reducible apply @agree_jobStart 1050881 _ (by decide) | with_reducible apply @agree_exportStep 1050881 _ (by decide) | with_reducible refine Agree.of_snd (by assumption) ?_ | with_reducible refine Agree.of_fst (by assumption) ?_ | split | dsimp only | (intro t ht; with_reducible assumption) | intro)

theorem agree_verifyUnit {μ : Nat} {σ : State} (hK : 1048832 ||| μ = μ) (u : LiveUnit) (bad : Nat) (crc : Nat) (corr : Nat) (s : State) (hA : Agree μ σ s) : Agree μ σ (verifyUnit u bad crc corr s) := by
  refine Agree.step (k := 1048832) ?_ hK hA
  clear hA hK
  unfold verifyUnit
  repeat' (first | (intro x; first | (refine (fun (hx : Agree 1048832 s x) => ?_) ?_; clear_value x; rotate_left; subst x) | subst x) | lift_lets -underBinder | with_reducible exact Agree.refl _ _ | with_reducible assumption | with_reducible apply @agree_setEvt 1048832 _ (by decide) | with_reducible apply @agree_mdVault 1048832 _ (by decide) | with_reducible refine Agree.of_snd (by assumption) ?_ | with_reducible refine Agree.of_fst (by assumption) ?_ | split | dsimp only | (intro t ht; with_reducible assumption) | intro)

theorem agree_verifyStep {μ : Nat} {σ : State} (hK : 1050881 ||| μ = μ) (x0 : Nat) (x1 : State) (hA : Agree μ σ x1) : Agree μ σ (verifyStep x0 x1) := by
  induction x0 generalizing x1 with
  | zero => unfold verifyStep; exact hA
  | succ x0 ih =>
  unfold verifyStep
  repeat' (first | (intro x; first | (refine (fun (hx : Agree μ σ x) => ?_) ?_; clear_value x; rotate_left; subst x) | subst x) | lift_lets -underBinder | with_reducible exact Agree.refl _ _ | with_reducible assumption | with_reducible apply ih | with_reducible apply @agree_mdVault μ _ (Agree.sub_of hK (by decide)) | with_reducible apply @agree_jobEnd μ _ (Agree.sub_of hK (by decide)) | with_reducible apply @agree_postRead μ _ (Agree.sub_of hK (by decide)) | with_reducible apply @agree_verifyUnit μ _ (Agree.sub_of hK (by decide)) | with_reducible refine Agree.of_snd (by assumption) ?_ | with_reducible refine Agree.of_fst (by assumption) ?_ | split | dsimp only | (intro t ht; with_reducible assumption) | intro)

theorem agree_startVerify {μ : Nat} {σ : State} (hK : 1050881 ||| μ = μ) (s : State) (hA : Agree μ σ s) : Agree μ σ (startVerify s).2 := by
  refine Agree.step (k := 1050881) ?_ hK hA
  clear hA hK
  unfold startVerify
  repeat' (first | (intro x; first | (refine (fun (hx : Agree 1050881 s x) => ?_) ?_; clear_value x; rotate_left; subst x) | subst x) | lift_lets -underBinder | with_reducible exact Agree.refl _ _ | with_reducible assumption | with_reducible apply @agree_mdVault 1050881 _ (by decide) | with_reducible apply @agree_jobStart 1050881 _ (by decide) | with_reducible apply @agree_verifyStep 1050881 _ (by decide) | with_reducible refine Agree.of_snd (by assumption) ?_ | with_reducible refine Agree.of_fst (by assumption) ?_ | split | dsimp only | (intro t ht; with_reducible assumption) | intro)

theorem agree_confirmAgain {μ : Nat} {σ : State} (hK : 3145729 ||| μ = μ) (s : State) (hA : Agree μ σ s) : Agree μ σ (confirmAgain s) := by
  refine Agree.step (k := 3145729) ?_ hK hA
  clear hA hK
  unfold confirmAgain
  repeat' (first | (intro x; first | (refine (fun (hx : Agree 3145729 s x) => ?_) ?_; clear_value x; rotate_left; subst x) | subst x) | lift_lets -underBinder | with_reducible exact Agree.refl _ _ | with_reducible assumption | with_reducible refine Agree.iter ?_ ?_ | with_reducible apply @agree_pump 3145729 _ (by decide) | with_reducible apply @agree_fillStripe 3145729 _ (by decide) | with_reducible apply @agree_writeConfirm 3145729 _ (by decide) | with_reducible refine Agree.of_snd (by assumption) ?_ | with_reducible refine Agree.of_fst (by assumption) ?_ | split | dsimp only | (intro t ht; with_reducible assumption) | intro)

theorem agree_eraseQStep {μ : Nat} {σ : State} (hK : 1048576 ||| μ = μ) (s : State) (hA : Agree μ σ s) : Agree μ σ (eraseQStep s) := by
  refine Agree.step (k := 1048576) ?_ hK hA
  clear hA hK
  unfold eraseQStep
  repeat' (first | (intro x; first | (refine (fun (hx : Agree 1048576 s x) => ?_) ?_; clear_value x; rotate_left; subst x) | subst x) | lift_lets -underBinder | with_reducible exact Agree.refl _ _ | with_reducible assumption | with_reducible refine Agree.forL ?_ ?_ | with_reducible apply @agree_mdVault 1048576 _ (by decide) | with_reducible apply @agree_postDesc 1048576 _ (by decide) | with_reducible refine Agree.of_snd (by assumption) ?_ | with_reducible refine Agree.of_fst (by assumption) ?_ | split | dsimp only | (intro t ht; with_reducible assumption) | intro)

theorem agree_eraseStep {μ : Nat} {σ : State} (hK : 3148033 ||| μ = μ) (s : State) (hA : Agree μ σ s) : Agree μ σ (eraseStep s) := by
  refine Agree.step (k := 3148033) ?_ hK hA
  clear hA hK
  unfold eraseStep
  repeat' (first | (intro x; first | (refine (fun (hx : Agree 3148033 s x) => ?_) ?_; clear_value x; rotate_left; subst x) | subst x) | lift_lets -underBinder | with_reducible exact Agree.refl _ _ | with_reducible assumption | ((conv => (arg 3; arg 27; skip)); with_reducible refine Agree.upd_stage _ (by decide) ?_) | with_reducible refine Agree.forL ?_ ?_ | with_reducible refine Agree.forN ?_ ?_ | with_reducible apply @agree_mdDev 3148033 _ (by decide) | with_reducible apply @agree_mdVault 3148033 _ (by decide) | with_reducible apply @agree_pump 3148033 _ (by decide) | with_reducible apply @agree_jobEnd 3148033 _ (by decide) | with_reducible apply @agree_mdPp 3148033 _ (by decide) | with_reducible apply @agree_sysWrite 3148033 _ (by decide) | with_reducible apply @agree_sysGroup 3148033 _ (by decide) | with_reducible apply @agree_eraseWrite 3148033 _ (by decide) | with_reducible apply @agree_eraseQStep 3148033 _ (by decide) | with_reducible apply @agree_retireAll 3148033 _ (by decide) | with_reducible refine Agree.of_snd (by assumption) ?_ | with_reducible refine Agree.of_fst (by assumption) ?_ | split | dsimp only | (intro t ht; with_reducible assumption) | intro)

theorem agree_fmtWrite {μ : Nat} {σ : State} (hK : 3145729 ||| μ = μ) (x : Nat) (a : Areas) (s : State) (hA : Agree μ σ s) : Agree μ σ (fmtWrite x a s) := by
  refine Agree.step (k := 3145729) ?_ hK hA
  clear hA hK
  unfold fmtWrite
  repeat' (first | (intro x; first | (refine (fun (hx : Agree 3145729 s x) => ?_) ?_; clear_value x; rotate_left; subst x) | subst x) | lift_lets -underBinder | with_reducible exact Agree.refl _ _ | with_reducible assumption | with_reducible apply @agree_mdDev 3145729 _ (by decide) | with_reducible apply @agree_mdVault 3145729 _ (by decide) | with_reducible apply @agree_tick 3145729 _ (by decide) | with_reducible apply @agree_pump 3145729 _ (by decide) | with_reducible apply @agree_sysWrite 3145729 _ (by decide) | with_reducible apply @agree_sysGroup 3145729 _ (by decide) | with_reducible refine Agree.of_snd (by assumption) ?_ | with_reducible refine Agree.of_fst (by assumption) ?_ | split | dsimp only | (intro t ht; with_reducible assumption) | intro)

theorem agree_formatStep {μ : Nat} {σ : State} (hK : 3156225 ||| μ = μ) (s : State) (hA : Agree μ σ s) : Agree μ σ (formatStep s) := by
  refine Agree.step (k := 3156225) ?_ hK hA
  clear hA hK
  unfold formatStep
  repeat' (first | (intro x; first | (refine (fun (hx : Agree 3156225 s x) => ?_) ?_; clear_value x; rotate_left; subst x) | subst x) | lift_lets -underBinder | with_reducible exact Agree.refl _ _ | with_reducible assumption | with_reducible refine Agree.forN ?_ ?_ | with_reducible apply @agree_fmtDrop 3156225 _ (by decide) | with_reducible apply @agree_jobEnd 3156225 _ (by decide) | with_reducible apply @agree_adopt 3156225 _ (by decide) | with_reducible apply @agree_fmtNext 3156225 _ (by decide) | with_reducible apply @agree_fmtWrite 3156225 _ (by decide) | with_reducible refine Agree.of_snd (by assumption) ?_ | with_reducible refine Agree.of_fst (by assumption) ?_ | split | dsimp only | (intro t ht; with_reducible assumption) | intro)

theorem agree_kxPoll {μ : Nat} {σ : State} (hK : 34603008 ||| μ = μ) (s : State) (hA : Agree μ σ s) : Agree μ σ (kxPoll s) := by
  refine Agree.step (k := 34603008) ?_ hK hA
  clear hA hK
  unfold kxPoll
  repeat' (first | (intro x; first | (refine (fun (hx : Agree 34603008 s x) => ?_) ?_; clear_value x; rotate_left; subst x) | subst x) | lift_lets -underBinder | with_reducible exact Agree.refl _ _ | with_reducible assumption | ((conv => (arg 3; arg 27; skip)); with_reducible refine Agree.upd_pair _ (by decide) ?_) | with_reducible refine Agree.forL ?_ ?_ | with_reducible apply @agree_mdDev 34603008 _ (by decide) | with_reducible refine Agree.of_snd (by assumption) ?_ | with_reducible refine Agree.of_fst (by assumption) ?_ | split | dsimp only | (intro t ht; with_reducible assumption) | intro)

theorem agree_logEmptied {μ : Nat} {σ : State} (hK : 3145728 ||| μ = μ) (s : State) (hA : Agree μ σ s) : Agree μ σ (logEmptied s) := by
  refine Agree.step (k := 3145728) ?_ hK hA
  clear hA hK
  unfold logEmptied
  repeat' (first | (intro x; first | (refine (fun (hx : Agree 3145728 s x) => ?_) ?_; clear_value x; rotate_left; subst x) | subst x) | lift_lets -underBinder | with_reducible exact Agree.refl _ _ | with_reducible assumption | ((conv => (arg 3; arg 27; skip)); with_reducible refine Agree.upd_stage _ (by decide) ?_) | with_reducible apply @agree_mdVault 3145728 _ (by decide) | with_reducible refine Agree.of_snd (by assumption) ?_ | with_reducible refine Agree.of_fst (by assumption) ?_ | split | dsimp only | (intro t ht; with_reducible assumption) | intro)

theorem agree_relocCat {μ : Nat} {σ : State} (hK : 3145729 ||| μ = μ) (c : CatJob) (s : State) (hA : Agree μ σ s) : Agree μ σ (relocCat c s) := by
  refine Agree.step (k := 3145729) ?_ hK hA
  clear hA hK
  unfold relocCat
  repeat' (first | (intro x; first | (refine (fun (hx : Agree 3145729 s x) => ?_) ?_; clear_value x; rotate_left; subst x) | subst x) | lift_lets -underBinder | with_reducible exact Agree.refl _ _ | with_reducible assumption | ((conv => (arg 3; arg 27; skip)); with_reducible refine Agree.upd_stage _ (by decide) ?_) | with_reducible apply @agree_mdVault 3145729 _ (by decide) | with_reducible apply @agree_mdReloc 3145729 _ (by decide) | with_reducible apply @agree_postSeal 3145729 _ (by decide) | with_reducible refine Agree.of_snd (by assumption) ?_ | with_reducible refine Agree.of_fst (by assumption) ?_ | split | dsimp only | (intro t ht; with_reducible assumption) | intro)

theorem agree_popCats {μ : Nat} {σ : State} (hK : 16546049 ||| μ = μ) (s : State) (hA : Agree μ σ s) : Agree μ σ (popCats s) := by
  refine Agree.step (k := 16546049) ?_ hK hA
  clear hA hK
  unfold popCats
  repeat' (first | (intro x; first | (refine (fun (hx : Agree 16546049 s x) => ?_) ?_; clear_value x; rotate_left; subst x) | subst x) | lift_lets -underBinder | with_reducible exact Agree.refl _ _ | with_reducible assumption | with_reducible refine Agree.forL ?_ ?_ | with_reducible apply @agree_mdVault 16546049 _ (by decide) | with_reducible apply @agree_relocCat 16546049 _ (by decide) | with_reducible apply @agree_retireCat 16546049 _ (by decide) | with_reducible apply @agree_saveCat 16546049 _ (by decide) | with_reducible refine Agree.of_snd (by assumption) ?_ | with_reducible refine Agree.of_fst (by assumption) ?_ | split | dsimp only | (intro t ht; with_reducible assumption) | intro)

theorem agree_restoreOrphans {μ : Nat} {σ : State} (hK : 9699329 ||| μ = μ) (s : State) (hA : Agree μ σ s) : Agree μ σ (restoreOrphans s) := by
  refine Agree.step (k := 9699329) ?_ hK hA
  clear hA hK
  unfold restoreOrphans
  repeat' (first | (intro x; first | (refine (fun (hx : Agree 9699329 s x) => ?_) ?_; clear_value x; rotate_left; subst x) | subst x) | lift_lets -underBinder | with_reducible exact Agree.refl _ _ | with_reducible assumption | with_reducible refine Agree.forL ?_ ?_ | with_reducible apply @agree_writeSquare 9699329 _ (by decide) | with_reducible apply @agree_stepRestore 9699329 _ (by decide) | with_reducible refine Agree.of_snd (by assumption) ?_ | with_reducible refine Agree.of_fst (by assumption) ?_ | split | dsimp only | (intro t ht; with_reducible assumption) | intro)

theorem agree_vaultAfter {μ : Nat} {σ : State} (hK : 50166017 ||| μ = μ) (s : State) (hA : Agree μ σ s) : Agree μ σ (vaultAfter s) := by
  refine Agree.step (k := 50166017) ?_ hK hA
  clear hA hK
  unfold vaultAfter
  repeat' (first | (intro x; first | (refine (fun (hx : Agree 50166017 s x) => ?_) ?_; clear_value x; rotate_left; subst x) | subst x) | lift_lets -underBinder | with_reducible exact Agree.refl _ _ | with_reducible assumption | with_reducible apply @agree_pump 50166017 _ (by decide) | with_reducible apply @agree_catEraseStep 50166017 _ (by decide) | with_reducible apply @agree_class1End 50166017 _ (by decide) | with_reducible apply @agree_relocStep 50166017 _ (by decide) | with_reducible apply @agree_exportStep 50166017 _ (by decide) | with_reducible apply @agree_verifyStep 50166017 _ (by decide) | with_reducible apply @agree_confirmAgain 50166017 _ (by decide) | with_reducible apply @agree_moveReads 50166017 _ (by decide) | with_reducible apply @agree_eraseQStep 50166017 _ (by decide) | with_reducible apply @agree_eraseStep 50166017 _ (by decide) | with_reducible apply @agree_fillUnits 50166017 _ (by decide) | with_reducible apply @agree_formatStep 50166017 _ (by decide) | with_reducible apply @agree_kxPoll 50166017 _ (by decide) | with_reducible apply @agree_lastFill 50166017 _ (by decide) | with_reducible apply @agree_logEmptied 50166017 _ (by decide) | with_reducible apply @agree_noSledLeft 50166017 _ (by decide) | with_reducible apply @agree_popCats 50166017 _ (by decide) | with_reducible apply @agree_popStripes 50166017 _ (by decide) | with_reducible apply @agree_reportWritten 50166017 _ (by decide) | with_reducible apply @agree_restoreOrphans 50166017 _ (by decide) | with_reducible refine Agree.of_snd (by assumption) ?_ | with_reducible refine Agree.of_fst (by assumption) ?_ | split | dsimp only | (intro t ht; with_reducible assumption) | intro)

theorem agree_readDone {μ : Nat} {σ : State} (hK : 11796737 ||| μ = μ) (d : Desc) (r : Nat) (corr : Nat) (bad : Nat) (crc : Nat) (s : State) (hA : Agree μ σ s) : Agree μ σ (readDone d r corr bad crc s) := by
  refine Agree.step (k := 11796737) ?_ hK hA
  clear hA hK
  unfold readDone
  repeat' (first | (intro x; first | (refine (fun (hx : Agree 11796737 s x) => ?_) ?_; clear_value x; rotate_left; subst x) | subst x) | lift_lets -underBinder | with_reducible exact Agree.refl _ _ | with_reducible assumption | with_reducible apply @agree_mdVault 11796737 _ (by decide) | with_reducible apply @agree_fmtNext 11796737 _ (by decide) | with_reducible apply @agree_relocTake 11796737 _ (by decide) | with_reducible apply @agree_exportSquare 11796737 _ (by decide) | with_reducible apply @agree_verifyUnit 11796737 _ (by decide) | with_reducible apply @agree_restoreRead 11796737 _ (by decide) | with_reducible refine Agree.of_snd (by assumption) ?_ | with_reducible refine Agree.of_fst (by assumption) ?_ | split | dsimp only | (intro t ht; with_reducible assumption) | intro)

theorem agree_descComplete {μ : Nat} {σ : State} (hK : 50166021 ||| μ = μ) (r : Nat) (i : Nat) (res : Nat) (corr : Nat) (retries : Nat) (us : Nat) (bad : Nat) (crc : Nat) (s : State) (hA : Agree μ σ s) : Agree μ σ (descComplete r i res corr retries us bad crc s) := by
  refine Agree.step (k := 50166021) ?_ hK hA
  clear hA hK
  unfold descComplete
  repeat' (first | (intro x; first | (refine (fun (hx : Agree 50166021 s x) => ?_) ?_; clear_value x; rotate_left; subst x) | subst x) | lift_lets -underBinder | with_reducible exact Agree.refl _ _ | with_reducible assumption | with_reducible apply @agree_reserveUpdate 50166021 _ (by decide) | with_reducible apply @agree_eraseAhead 50166021 _ (by decide) | with_reducible apply @agree_vaultAfter 50166021 _ (by decide) | with_reducible apply @agree_readDone 50166021 _ (by decide) | with_reducible apply @agree_ringComplete 50166021 _ (by decide) | with_reducible refine Agree.of_snd (by assumption) ?_ | with_reducible refine Agree.of_fst (by assumption) ?_ | split | dsimp only | (intro t ht; with_reducible assumption) | intro)

theorem agree_drainPull {μ : Nat} {σ : State} (hK : 1050880 ||| μ = μ) (s : State) (hA : Agree μ σ s) : Agree μ σ (drainPull s) := by
  refine Agree.step (k := 1050880) ?_ hK hA
  clear hA hK
  unfold drainPull
  repeat' (first | (intro x; first | (refine (fun (hx : Agree 1050880 s x) => ?_) ?_; clear_value x; rotate_left; subst x) | subst x) | lift_lets -underBinder | with_reducible exact Agree.refl _ _ | with_reducible assumption | with_reducible apply @agree_mdSled 1050880 _ (by decide) | with_reducible apply @agree_rjobEnd 1050880 _ (by decide) | with_reducible refine Agree.of_snd (by assumption) ?_ | with_reducible refine Agree.of_fst (by assumption) ?_ | split | dsimp only | (intro t ht; with_reducible assumption) | intro)

theorem agree_drainSwitch {μ : Nat} {σ : State} (hK : 3737857 ||| μ = μ) (s : State) (hA : Agree μ σ s) : Agree μ σ (drainSwitch s) := by
  refine Agree.step (k := 3737857) ?_ hK hA
  clear hA hK
  unfold drainSwitch
  repeat' (first | (intro x; first | (refine (fun (hx : Agree 3737857 s x) => ?_) ?_; clear_value x; rotate_left; subst x) | subst x) | lift_lets -underBinder | with_reducible exact Agree.refl _ _ | with_reducible assumption | ((conv => (arg 3; arg 27; skip)); with_reducible refine Agree.upd_stake _ (by decide) ?_) | with_reducible apply @agree_setEvt 3737857 _ (by decide) | with_reducible apply @agree_mdSled 3737857 _ (by decide) | with_reducible apply @agree_mdVault 3737857 _ (by decide) | with_reducible apply @agree_advanceEpoch 3737857 _ (by decide) | with_reducible apply @agree_relocStep 3737857 _ (by decide) | with_reducible apply @agree_rjobPlan 3737857 _ (by decide) | with_reducible refine Agree.of_snd (by assumption) ?_ | with_reducible refine Agree.of_fst (by assumption) ?_ | split | dsimp only | (intro t ht; with_reducible assumption) | intro)

theorem agree_drainTurn {μ : Nat} {σ : State} (hK : 1048832 ||| μ = μ) (s : State) (hA : Agree μ σ s) : Agree μ σ (drainTurn s) := by
  refine Agree.step (k := 1048832) ?_ hK hA
  clear hA hK
  unfold drainTurn
  repeat' (first | (intro x; first | (refine (fun (hx : Agree 1048832 s x) => ?_) ?_; clear_value x; rotate_left; subst x) | subst x) | lift_lets -underBinder | with_reducible exact Agree.refl _ _ | with_reducible assumption | with_reducible apply @agree_setEvt 1048832 _ (by decide) | with_reducible apply @agree_mdSled 1048832 _ (by decide) | with_reducible apply @agree_mdVault 1048832 _ (by decide) | with_reducible refine Agree.of_snd (by assumption) ?_ | with_reducible refine Agree.of_fst (by assumption) ?_ | split | dsimp only | (intro t ht; with_reducible assumption) | intro)

theorem agree_logCompact {μ : Nat} {σ : State} (hK : 3145728 ||| μ = μ) (s : State) (hA : Agree μ σ s) : Agree μ σ (logCompact s) := by
  refine Agree.step (k := 3145728) ?_ hK hA
  clear hA hK
  unfold logCompact
  repeat' (first | (intro x; first | (refine (fun (hx : Agree 3145728 s x) => ?_) ?_; clear_value x; rotate_left; subst x) | subst x) | lift_lets -underBinder | with_reducible exact Agree.refl _ _ | with_reducible assumption | with_reducible apply @agree_mdVault 3145728 _ (by decide) | with_reducible apply @agree_mdReloc 3145728 _ (by decide) | with_reducible apply @agree_pendEnts 3145728 _ (by decide) | with_reducible refine Agree.of_snd (by assumption) ?_ | with_reducible refine Agree.of_fst (by assumption) ?_ | split | dsimp only | (intro t ht; with_reducible assumption) | intro)

theorem agree_rjobResume {μ : Nat} {σ : State} (hK : 3213569 ||| μ = μ) (s : State) (hA : Agree μ σ s) : Agree μ σ (rjobResume s) := by
  refine Agree.step (k := 3213569) ?_ hK hA
  clear hA hK
  unfold rjobResume
  repeat' (first | (intro x; first | (refine (fun (hx : Agree 3213569 s x) => ?_) ?_; clear_value x; rotate_left; subst x) | subst x) | lift_lets -underBinder | with_reducible exact Agree.refl _ _ | with_reducible assumption | with_reducible apply @agree_mdVault 3213569 _ (by decide) | with_reducible apply @agree_relocStep 3213569 _ (by decide) | with_reducible apply @agree_rjobPlan 3213569 _ (by decide) | with_reducible refine Agree.of_snd (by assumption) ?_ | with_reducible refine Agree.of_fst (by assumption) ?_ | split | dsimp only | (intro t ht; with_reducible assumption) | intro)

theorem agree_materialise {μ : Nat} {σ : State} (hK : 1048576 ||| μ = μ) (s : State) (hA : Agree μ σ s) : Agree μ σ (materialise s) := by
  refine Agree.step (k := 1048576) ?_ hK hA
  clear hA hK
  unfold materialise
  repeat' (first | (intro x; first | (refine (fun (hx : Agree 1048576 s x) => ?_) ?_; clear_value x; rotate_left; subst x) | subst x) | lift_lets -underBinder | with_reducible exact Agree.refl _ _ | with_reducible assumption | with_reducible apply @agree_mdReloc 1048576 _ (by decide) | with_reducible refine Agree.of_snd (by assumption) ?_ | with_reducible refine Agree.of_fst (by assumption) ?_ | split | dsimp only | (intro t ht; with_reducible assumption) | intro)

end State
end Sys2Proof.Machine
end

