-- ==== Sys2Proof/Laws/AgreeStakes.lean ====
section
/-! SUPPORT. The fields of State that each function of Machine/Stakes.lean can change. -/
set_option Elab.async false

set_option linter.unusedTactic false
set_option linter.unreachableTactic false

namespace Sys2Proof.Machine
namespace State

theorem agree_mdStake {μ : Nat} {σ : State} (hK : 524288 ||| μ = μ) (f : StkVals → StkVals) (s : State) (hA : Agree μ σ s) : Agree μ σ (mdStake f s) := by
  refine Agree.step (k := 524288) ?_ hK hA
  clear hA hK
  unfold mdStake
  repeat' (first | (intro x; first | (refine (fun (hx : Agree 524288 s x) => ?_) ?_; clear_value x; rotate_left; subst x) | subst x) | lift_lets -underBinder | with_reducible exact Agree.refl _ _ | with_reducible assumption | ((conv => (arg 3; arg 27; skip)); with_reducible refine Agree.upd_stake _ (by decide) ?_) | with_reducible refine Agree.of_snd (by assumption) ?_ | with_reducible refine Agree.of_fst (by assumption) ?_ | split | dsimp only | (intro t ht; with_reducible assumption) | intro)

theorem agree_stakeLoad {μ : Nat} {σ : State} (hK : 524288 ||| μ = μ) (boot : Bool) (s : State) (hA : Agree μ σ s) : Agree μ σ (stakeLoad boot s) := by
  refine Agree.step (k := 524288) ?_ hK hA
  clear hA hK
  unfold stakeLoad
  repeat' (first | (intro x; first | (refine (fun (hx : Agree 524288 s x) => ?_) ?_; clear_value x; rotate_left; subst x) | subst x) | lift_lets -underBinder | with_reducible exact Agree.refl _ _ | with_reducible assumption | ((conv => (arg 3; arg 27; skip)); with_reducible refine Agree.upd_stake _ (by decide) ?_) | with_reducible apply @agree_mdStake 524288 _ (by decide) | with_reducible refine Agree.of_snd (by assumption) ?_ | with_reducible refine Agree.of_fst (by assumption) ?_ | split | dsimp only | (intro t ht; with_reducible assumption) | intro)

theorem agree_shortRec {μ : Nat} {σ : State} (hK : 16384 ||| μ = μ) (go : Bool) (s : State) (hA : Agree μ σ s) : Agree μ σ (shortRec go s) := by
  refine Agree.step (k := 16384) ?_ hK hA
  clear hA hK
  unfold shortRec
  repeat' (first | (intro x; first | (refine (fun (hx : Agree 16384 s x) => ?_) ?_; clear_value x; rotate_left; subst x) | subst x) | lift_lets -underBinder | with_reducible exact Agree.refl _ _ | with_reducible assumption | ((conv => (arg 3; arg 27; skip)); with_reducible refine Agree.upd_ledg _ (by decide) ?_) | with_reducible apply @agree_pushRec 16384 _ (by decide) | with_reducible refine Agree.of_snd (by assumption) ?_ | with_reducible refine Agree.of_fst (by assumption) ?_ | split | dsimp only | (intro t ht; with_reducible assumption) | intro)

theorem agree_mdStkQ {μ : Nat} {σ : State} (hK : 524288 ||| μ = μ) (p : Nat) (f : StkQ → StkQ) (s : State) (hA : Agree μ σ s) : Agree μ σ (mdStkQ p f s) := by
  refine Agree.step (k := 524288) ?_ hK hA
  clear hA hK
  unfold mdStkQ
  repeat' (first | (intro x; first | (refine (fun (hx : Agree 524288 s x) => ?_) ?_; clear_value x; rotate_left; subst x) | subst x) | lift_lets -underBinder | with_reducible exact Agree.refl _ _ | with_reducible assumption | ((conv => (arg 3; arg 27; skip)); with_reducible refine Agree.upd_stake _ (by decide) ?_) | with_reducible refine Agree.of_snd (by assumption) ?_ | with_reducible refine Agree.of_fst (by assumption) ?_ | split | dsimp only | (intro t ht; with_reducible assumption) | intro)

theorem agree_missPort {μ : Nat} {σ : State} (hK : 524288 ||| μ = μ) (p : Nat) (s : State) (hA : Agree μ σ s) : Agree μ σ (missPort p s) := by
  refine Agree.step (k := 524288) ?_ hK hA
  clear hA hK
  unfold missPort
  repeat' (first | (intro x; first | (refine (fun (hx : Agree 524288 s x) => ?_) ?_; clear_value x; rotate_left; subst x) | subst x) | lift_lets -underBinder | with_reducible exact Agree.refl _ _ | with_reducible assumption | with_reducible apply @agree_mdStkQ 524288 _ (by decide) | with_reducible refine Agree.of_snd (by assumption) ?_ | with_reducible refine Agree.of_fst (by assumption) ?_ | split | dsimp only | (intro t ht; with_reducible assumption) | intro)

theorem agree_eNeedStep {μ : Nat} {σ : State} (hK : 524289 ||| μ = μ) (s : State) (hA : Agree μ σ s) : Agree μ σ (eNeedStep s) := by
  refine Agree.step (k := 524289) ?_ hK hA
  clear hA hK
  unfold eNeedStep
  repeat' (first | (intro x; first | (refine (fun (hx : Agree 524289 s x) => ?_) ?_; clear_value x; rotate_left; subst x) | subst x) | lift_lets -underBinder | with_reducible exact Agree.refl _ _ | with_reducible assumption | ((conv => (arg 3; arg 27; skip)); with_reducible refine Agree.upd_stake _ (by decide) ?_) | with_reducible apply @agree_tick 524289 _ (by decide) | with_reducible apply @agree_mdStake 524289 _ (by decide) | with_reducible refine Agree.of_snd (by assumption) ?_ | with_reducible refine Agree.of_fst (by assumption) ?_ | split | dsimp only | (intro t ht; with_reducible assumption) | intro)

theorem agree_recTurns {μ : Nat} {σ : State} (hK : 16384 ||| μ = μ) (s : State) (hA : Agree μ σ s) : Agree μ σ (recTurns s) := by
  refine Agree.step (k := 16384) ?_ hK hA
  clear hA hK
  unfold recTurns
  repeat' (first | (intro x; first | (refine (fun (hx : Agree 16384 s x) => ?_) ?_; clear_value x; rotate_left; subst x) | subst x) | lift_lets -underBinder | with_reducible exact Agree.refl _ _ | with_reducible assumption | ((conv => (arg 3; arg 27; skip)); with_reducible refine Agree.upd_ledg _ (by decide) ?_) | with_reducible refine Agree.of_snd (by assumption) ?_ | with_reducible refine Agree.of_fst (by assumption) ?_ | split | dsimp only | (intro t ht; with_reducible assumption) | intro)

theorem agree_shortStep {μ : Nat} {σ : State} (hK : 549120 ||| μ = μ) (s : State) (hA : Agree μ σ s) : Agree μ σ (shortStep s) := by
  refine Agree.step (k := 549120) ?_ hK hA
  clear hA hK
  unfold shortStep
  repeat' (first | (intro x; first | (refine (fun (hx : Agree 549120 s x) => ?_) ?_; clear_value x; rotate_left; subst x) | subst x) | lift_lets -underBinder | with_reducible exact Agree.refl _ _ | with_reducible assumption | ((conv => (arg 3; arg 27; skip)); with_reducible refine Agree.upd_ledg _ (by decide) ?_) | ((conv => (arg 3; arg 27; skip)); with_reducible refine Agree.upd_stake _ (by decide) ?_) | with_reducible apply @agree_follow 549120 _ (by decide) | with_reducible apply @agree_mdStake 549120 _ (by decide) | with_reducible apply @agree_count 549120 _ (by decide) | with_reducible refine Agree.of_snd (by assumption) ?_ | with_reducible refine Agree.of_fst (by assumption) ?_ | split | dsimp only | (intro t ht; with_reducible assumption) | intro)

theorem agree_stakeCommit {μ : Nat} {σ : State} (hK : 524288 ||| μ = μ) (s : State) (hA : Agree μ σ s) : Agree μ σ (stakeCommit s) := by
  refine Agree.step (k := 524288) ?_ hK hA
  clear hA hK
  unfold stakeCommit
  repeat' (first | (intro x; first | (refine (fun (hx : Agree 524288 s x) => ?_) ?_; clear_value x; rotate_left; subst x) | subst x) | lift_lets -underBinder | with_reducible exact Agree.refl _ _ | with_reducible assumption | with_reducible apply @agree_mdStake 524288 _ (by decide) | with_reducible refine Agree.of_snd (by assumption) ?_ | with_reducible refine Agree.of_fst (by assumption) ?_ | split | dsimp only | (intro t ht; with_reducible assumption) | intro)

theorem agree_stakeTotal {μ : Nat} {σ : State} (hK : 524289 ||| μ = μ) (s : State) (hA : Agree μ σ s) : Agree μ σ (stakeTotal s) := by
  refine Agree.step (k := 524289) ?_ hK hA
  clear hA hK
  unfold stakeTotal
  repeat' (first | (intro x; first | (refine (fun (hx : Agree 524289 s x) => ?_) ?_; clear_value x; rotate_left; subst x) | subst x) | lift_lets -underBinder | with_reducible exact Agree.refl _ _ | with_reducible assumption | with_reducible apply @agree_tick 524289 _ (by decide) | with_reducible apply @agree_mdStake 524289 _ (by decide) | with_reducible refine Agree.of_snd (by assumption) ?_ | with_reducible refine Agree.of_fst (by assumption) ?_ | split | dsimp only | (intro t ht; with_reducible assumption) | intro)

theorem agree_stakeFigures {μ : Nat} {σ : State} (hK : 549121 ||| μ = μ) (s : State) (hA : Agree μ σ s) : Agree μ σ (stakeFigures s) := by
  refine Agree.step (k := 549121) ?_ hK hA
  clear hA hK
  unfold stakeFigures
  repeat' (first | (intro x; first | (refine (fun (hx : Agree 549121 s x) => ?_) ?_; clear_value x; rotate_left; subst x) | subst x) | lift_lets -underBinder | with_reducible exact Agree.refl _ _ | with_reducible assumption | with_reducible apply @agree_eNeedStep 549121 _ (by decide) | with_reducible apply @agree_recTurns 549121 _ (by decide) | with_reducible apply @agree_shortStep 549121 _ (by decide) | with_reducible apply @agree_stakeCommit 549121 _ (by decide) | with_reducible apply @agree_stakeTotal 549121 _ (by decide) | with_reducible refine Agree.of_snd (by assumption) ?_ | with_reducible refine Agree.of_fst (by assumption) ?_ | split | dsimp only | (intro t ht; with_reducible assumption) | intro)

theorem agree_calCheck {μ : Nat} {σ : State} (hK : 524288 ||| μ = μ) (s : State) (hA : Agree μ σ s) : Agree μ σ (calCheck s) := by
  refine Agree.step (k := 524288) ?_ hK hA
  clear hA hK
  unfold calCheck
  repeat' (first | (intro x; first | (refine (fun (hx : Agree 524288 s x) => ?_) ?_; clear_value x; rotate_left; subst x) | subst x) | lift_lets -underBinder | with_reducible exact Agree.refl _ _ | with_reducible assumption | with_reducible apply @agree_mdStake 524288 _ (by decide) | with_reducible refine Agree.of_snd (by assumption) ?_ | with_reducible refine Agree.of_fst (by assumption) ?_ | split | dsimp only | (intro t ht; with_reducible assumption) | intro)

theorem agree_mdStk {μ : Nat} {σ : State} (hK : 524288 ||| μ = μ) (p : Nat) (f : StkP → StkP) (s : State) (hA : Agree μ σ s) : Agree μ σ (mdStk p f s) := by
  refine Agree.step (k := 524288) ?_ hK hA
  clear hA hK
  unfold mdStk
  repeat' (first | (intro x; first | (refine (fun (hx : Agree 524288 s x) => ?_) ?_; clear_value x; rotate_left; subst x) | subst x) | lift_lets -underBinder | with_reducible exact Agree.refl _ _ | with_reducible assumption | with_reducible apply @agree_mdStake 524288 _ (by decide) | with_reducible refine Agree.of_snd (by assumption) ?_ | with_reducible refine Agree.of_fst (by assumption) ?_ | split | dsimp only | (intro t ht; with_reducible assumption) | intro)

theorem agree_uncovered {μ : Nat} {σ : State} (hK : 16640 ||| μ = μ) (p : Nat) (u : Nat) (s : State) (hA : Agree μ σ s) : Agree μ σ (uncovered p u s) := by
  refine Agree.step (k := 16640) ?_ hK hA
  clear hA hK
  unfold uncovered
  repeat' (first | (intro x; first | (refine (fun (hx : Agree 16640 s x) => ?_) ?_; clear_value x; rotate_left; subst x) | subst x) | lift_lets -underBinder | with_reducible exact Agree.refl _ _ | with_reducible assumption | ((conv => (arg 3; arg 27; skip)); with_reducible refine Agree.upd_ledg _ (by decide) ?_) | with_reducible apply @agree_count 16640 _ (by decide) | with_reducible refine Agree.of_snd (by assumption) ?_ | with_reducible refine Agree.of_fst (by assumption) ?_ | split | dsimp only | (intro t ht; with_reducible assumption) | intro)

theorem agree_eligStep {μ : Nat} {σ : State} (hK : 2900224 ||| μ = μ) (p : Nat) (s : State) (hA : Agree μ σ s) : Agree μ σ (eligStep p s) := by
  refine Agree.step (k := 2900224) ?_ hK hA
  clear hA hK
  unfold eligStep
  repeat' (first | (intro x; first | (refine (fun (hx : Agree 2900224 s x) => ?_) ?_; clear_value x; rotate_left; subst x) | subst x) | lift_lets -underBinder | with_reducible exact Agree.refl _ _ | with_reducible assumption | with_reducible apply @agree_mdStkQ 2900224 _ (by decide) | with_reducible apply @agree_mdStk 2900224 _ (by decide) | with_reducible apply @agree_stageGain 2900224 _ (by decide) | with_reducible apply @agree_stageLose 2900224 _ (by decide) | with_reducible apply @agree_uncovered 2900224 _ (by decide) | with_reducible refine Agree.of_snd (by assumption) ?_ | with_reducible refine Agree.of_fst (by assumption) ?_ | split | dsimp only | (intro t ht; with_reducible assumption) | intro)

theorem agree_judgePort {μ : Nat} {σ : State} (hK : 549120 ||| μ = μ) (p : Nat) (s : State) (hA : Agree μ σ s) : Agree μ σ (judgePort p s) := by
  refine Agree.step (k := 549120) ?_ hK hA
  clear hA hK
  unfold judgePort
  repeat' (first | (intro x; first | (refine (fun (hx : Agree 549120 s x) => ?_) ?_; clear_value x; rotate_left; subst x) | subst x) | lift_lets -underBinder | with_reducible exact Agree.refl _ _ | with_reducible assumption | with_reducible apply @agree_unraise 549120 _ (by decide) | with_reducible apply @agree_count 549120 _ (by decide) | with_reducible apply @agree_mdStkQ 549120 _ (by decide) | with_reducible apply @agree_mdStk 549120 _ (by decide) | with_reducible refine Agree.of_snd (by assumption) ?_ | with_reducible refine Agree.of_fst (by assumption) ?_ | split | dsimp only | (intro t ht; with_reducible assumption) | intro)

theorem agree_stakeInputs {μ : Nat} {σ : State} (hK : 524288 ||| μ = μ) (s : State) (hA : Agree μ σ s) : Agree μ σ (stakeInputs s) := by
  refine Agree.step (k := 524288) ?_ hK hA
  clear hA hK
  unfold stakeInputs
  repeat' (first | (intro x; first | (refine (fun (hx : Agree 524288 s x) => ?_) ?_; clear_value x; rotate_left; subst x) | subst x) | lift_lets -underBinder | with_reducible exact Agree.refl _ _ | with_reducible assumption | with_reducible apply @agree_mdStake 524288 _ (by decide) | with_reducible refine Agree.of_snd (by assumption) ?_ | with_reducible refine Agree.of_fst (by assumption) ?_ | split | dsimp only | (intro t ht; with_reducible assumption) | intro)

theorem agree_stakeJudge {μ : Nat} {σ : State} (hK : 2908416 ||| μ = μ) (s : State) (hA : Agree μ σ s) : Agree μ σ (stakeJudge s) := by
  refine Agree.step (k := 2908416) ?_ hK hA
  clear hA hK
  unfold stakeJudge
  repeat' (first | (intro x; first | (refine (fun (hx : Agree 2908416 s x) => ?_) ?_; clear_value x; rotate_left; subst x) | subst x) | lift_lets -underBinder | with_reducible exact Agree.refl _ _ | with_reducible assumption | with_reducible refine Agree.forN ?_ ?_ | with_reducible apply @agree_mdStake 2908416 _ (by decide) | with_reducible apply @agree_calCheck 2908416 _ (by decide) | with_reducible apply @agree_eligStep 2908416 _ (by decide) | with_reducible apply @agree_judgePort 2908416 _ (by decide) | with_reducible apply @agree_stakeInputs 2908416 _ (by decide) | with_reducible refine Agree.of_snd (by assumption) ?_ | with_reducible refine Agree.of_fst (by assumption) ?_ | split | dsimp only | (intro t ht; with_reducible assumption) | intro)

theorem agree_sendStakes {μ : Nat} {σ : State} (hK : 786432 ||| μ = μ) (s : State) (hA : Agree μ σ s) : Agree μ σ (sendStakes s) := by
  refine Agree.step (k := 786432) ?_ hK hA
  clear hA hK
  unfold sendStakes
  repeat' (first | (intro x; first | (refine (fun (hx : Agree 786432 s x) => ?_) ?_; clear_value x; rotate_left; subst x) | subst x) | lift_lets -underBinder | with_reducible exact Agree.refl _ _ | with_reducible assumption | with_reducible refine Agree.forN ?_ ?_ | with_reducible apply @agree_send 786432 _ (by decide) | with_reducible apply @agree_mdStkQ 786432 _ (by decide) | with_reducible refine Agree.of_snd (by assumption) ?_ | with_reducible refine Agree.of_fst (by assumption) ?_ | split | dsimp only | (intro t ht; with_reducible assumption) | intro)

theorem agree_endShort {μ : Nat} {σ : State} (hK : 548864 ||| μ = μ) (s : State) (hA : Agree μ σ s) : Agree μ σ (endShort s) := by
  refine Agree.step (k := 548864) ?_ hK hA
  clear hA hK
  unfold endShort
  repeat' (first | (intro x; first | (refine (fun (hx : Agree 548864 s x) => ?_) ?_; clear_value x; rotate_left; subst x) | subst x) | lift_lets -underBinder | with_reducible exact Agree.refl _ _ | with_reducible assumption | with_reducible apply @agree_follow 548864 _ (by decide) | with_reducible apply @agree_mdStake 548864 _ (by decide) | with_reducible apply @agree_shortRec 548864 _ (by decide) | with_reducible refine Agree.of_snd (by assumption) ?_ | with_reducible refine Agree.of_fst (by assumption) ?_ | split | dsimp only | (intro t ht; with_reducible assumption) | intro)

theorem agree_stakeIdle {μ : Nat} {σ : State} (hK : 548864 ||| μ = μ) (s : State) (hA : Agree μ σ s) : Agree μ σ (stakeIdle s) := by
  refine Agree.step (k := 548864) ?_ hK hA
  clear hA hK
  unfold stakeIdle
  repeat' (first | (intro x; first | (refine (fun (hx : Agree 548864 s x) => ?_) ?_; clear_value x; rotate_left; subst x) | subst x) | lift_lets -underBinder | with_reducible exact Agree.refl _ _ | with_reducible assumption | with_reducible apply @agree_mdStake 548864 _ (by decide) | with_reducible apply @agree_endShort 548864 _ (by decide) | with_reducible refine Agree.of_snd (by assumption) ?_ | with_reducible refine Agree.of_fst (by assumption) ?_ | split | dsimp only | (intro t ht; with_reducible assumption) | intro)

theorem agree_stakeCompute {μ : Nat} {σ : State} (hK : 811265 ||| μ = μ) (was : Bool) (s : State) (hA : Agree μ σ s) : Agree μ σ (stakeCompute was s) := by
  refine Agree.step (k := 811265) ?_ hK hA
  clear hA hK
  unfold stakeCompute
  repeat' (first | (intro x; first | (refine (fun (hx : Agree 811265 s x) => ?_) ?_; clear_value x; rotate_left; subst x) | subst x) | lift_lets -underBinder | with_reducible exact Agree.refl _ _ | with_reducible assumption | with_reducible apply @agree_recTurns 811265 _ (by decide) | with_reducible apply @agree_stakeFigures 811265 _ (by decide) | with_reducible apply @agree_sendStakes 811265 _ (by decide) | with_reducible apply @agree_stakeIdle 811265 _ (by decide) | with_reducible refine Agree.of_snd (by assumption) ?_ | with_reducible refine Agree.of_fst (by assumption) ?_ | split | dsimp only | (intro t ht; with_reducible assumption) | intro)

theorem agree_learnStart {μ : Nat} {σ : State} (hK : 131332 ||| μ = μ) (k : Nat) (p : Option Nat) (s : State) (hA : Agree μ σ s) : Agree μ σ (learnStart k p s) := by
  refine Agree.step (k := 131332) ?_ hK hA
  clear hA hK
  unfold learnStart
  repeat' (first | (intro x; first | (refine (fun (hx : Agree 131332 s x) => ?_) ?_; clear_value x; rotate_left; subst x) | subst x) | lift_lets -underBinder | with_reducible exact Agree.refl _ _ | with_reducible assumption | ((conv => (arg 3; arg 27; skip)); with_reducible refine Agree.upd_aon _ (by decide) ?_) | ((conv => (arg 3; arg 27; skip)); with_reducible refine Agree.upd_aon_nrg _ _ (by decide) ?_) | with_reducible apply @agree_setEvt 131332 _ (by decide) | with_reducible refine Agree.of_snd (by assumption) ?_ | with_reducible refine Agree.of_fst (by assumption) ?_ | split | dsimp only | (intro t ht; with_reducible assumption) | intro)

theorem agree_marginReg {μ : Nat} {σ : State} (hK : 524288 ||| μ = μ) (w : Word) (s : State) (hA : Agree μ σ s) : Agree μ σ (marginReg w s) := by
  refine Agree.step (k := 524288) ?_ hK hA
  clear hA hK
  unfold marginReg
  repeat' (first | (intro x; first | (refine (fun (hx : Agree 524288 s x) => ?_) ?_; clear_value x; rotate_left; subst x) | subst x) | lift_lets -underBinder | with_reducible exact Agree.refl _ _ | with_reducible assumption | ((conv => (arg 3; arg 27; skip)); with_reducible refine Agree.upd_stake _ (by decide) ?_) | with_reducible refine Agree.of_snd (by assumption) ?_ | with_reducible refine Agree.of_fst (by assumption) ?_ | split | dsimp only | (intro t ht; with_reducible assumption) | intro)

theorem agree_overstakeRun {μ : Nat} {σ : State} (hK : 8192 ||| μ = μ) (p : Nat) (s : State) (hA : Agree μ σ s) : Agree μ σ (overstakeRun p s) := by
  refine Agree.step (k := 8192) ?_ hK hA
  clear hA hK
  unfold overstakeRun
  repeat' (first | (intro x; first | (refine (fun (hx : Agree 8192 s x) => ?_) ?_; clear_value x; rotate_left; subst x) | subst x) | lift_lets -underBinder | with_reducible exact Agree.refl _ _ | with_reducible assumption | with_reducible apply @agree_raise 8192 _ (by decide) | with_reducible refine Agree.of_snd (by assumption) ?_ | with_reducible refine Agree.of_fst (by assumption) ?_ | split | dsimp only | (intro t ht; with_reducible assumption) | intro)

theorem agree_viewHold {μ : Nat} {σ : State} (hK : 524288 ||| μ = μ) (v : StkVals) (w : Word) (s : State) (hA : Agree μ σ s) : Agree μ σ (viewHold v w s) := by
  refine Agree.step (k := 524288) ?_ hK hA
  clear hA hK
  unfold viewHold
  repeat' (first | (intro x; first | (refine (fun (hx : Agree 524288 s x) => ?_) ?_; clear_value x; rotate_left; subst x) | subst x) | lift_lets -underBinder | with_reducible exact Agree.refl _ _ | with_reducible assumption | ((conv => (arg 3; arg 27; skip)); with_reducible refine Agree.upd_stake _ (by decide) ?_) | with_reducible refine Agree.of_snd (by assumption) ?_ | with_reducible refine Agree.of_fst (by assumption) ?_ | split | dsimp only | (intro t ht; with_reducible assumption) | intro)

theorem agree_reportRx {μ : Nat} {σ : State} (hK : 794624 ||| μ = μ) (p : Nat) (m : ReportMsg) (late : Bool) (s : State) (hA : Agree μ σ s) : Agree μ σ (reportRx p m late s) := by
  refine Agree.step (k := 794624) ?_ hK hA
  clear hA hK
  unfold reportRx
  repeat' (first | (intro x; first | (refine (fun (hx : Agree 794624 s x) => ?_) ?_; clear_value x; rotate_left; subst x) | subst x) | lift_lets -underBinder | with_reducible exact Agree.refl _ _ | with_reducible assumption | with_reducible apply @agree_mdLk 794624 _ (by decide) | with_reducible apply @agree_mdStkQ 794624 _ (by decide) | with_reducible apply @agree_portErr 794624 _ (by decide) | with_reducible refine Agree.of_snd (by assumption) ?_ | with_reducible refine Agree.of_fst (by assumption) ?_ | split | dsimp only | (intro t ht; with_reducible assumption) | intro)

theorem agree_reportsMissing {μ : Nat} {σ : State} (hK : 794624 ||| μ = μ) (p : Nat) (s : State) (hA : Agree μ σ s) : Agree μ σ (reportsMissing p s) := by
  refine Agree.step (k := 794624) ?_ hK hA
  clear hA hK
  unfold reportsMissing
  repeat' (first | (intro x; first | (refine (fun (hx : Agree 794624 s x) => ?_) ?_; clear_value x; rotate_left; subst x) | subst x) | lift_lets -underBinder | with_reducible exact Agree.refl _ _ | with_reducible assumption | with_reducible apply @agree_mdStkQ 794624 _ (by decide) | with_reducible apply @agree_portErr 794624 _ (by decide) | with_reducible apply @agree_toRecover 794624 _ (by decide) | with_reducible refine Agree.of_snd (by assumption) ?_ | with_reducible refine Agree.of_fst (by assumption) ?_ | split | dsimp only | (intro t ht; with_reducible assumption) | intro)

theorem agree_shortHourly {μ : Nat} {σ : State} (hK : 16384 ||| μ = μ) (s : State) (hA : Agree μ σ s) : Agree μ σ (shortHourly s) := by
  refine Agree.step (k := 16384) ?_ hK hA
  clear hA hK
  unfold shortHourly
  repeat' (first | (intro x; first | (refine (fun (hx : Agree 16384 s x) => ?_) ?_; clear_value x; rotate_left; subst x) | subst x) | lift_lets -underBinder | with_reducible exact Agree.refl _ _ | with_reducible assumption | with_reducible apply @agree_shortRec 16384 _ (by decide) | with_reducible refine Agree.of_snd (by assumption) ?_ | with_reducible refine Agree.of_fst (by assumption) ?_ | split | dsimp only | (intro t ht; with_reducible assumption) | intro)

theorem agree_shortfallEnd {μ : Nat} {σ : State} (hK : 548864 ||| μ = μ) (s : State) (hA : Agree μ σ s) : Agree μ σ (shortfallEnd s) := by
  refine Agree.step (k := 548864) ?_ hK hA
  clear hA hK
  unfold shortfallEnd
  repeat' (first | (intro x; first | (refine (fun (hx : Agree 548864 s x) => ?_) ?_; clear_value x; rotate_left; subst x) | subst x) | lift_lets -underBinder | with_reducible exact Agree.refl _ _ | with_reducible assumption | with_reducible apply @agree_endShort 548864 _ (by decide) | with_reducible refine Agree.of_snd (by assumption) ?_ | with_reducible refine Agree.of_fst (by assumption) ?_ | split | dsimp only | (intro t ht; with_reducible assumption) | intro)

theorem agree_uncovRec {μ : Nat} {σ : State} (hK : 16384 ||| μ = μ) (s : State) (hA : Agree μ σ s) : Agree μ σ (uncovRec s) := by
  refine Agree.step (k := 16384) ?_ hK hA
  clear hA hK
  unfold uncovRec
  repeat' (first | (intro x; first | (refine (fun (hx : Agree 16384 s x) => ?_) ?_; clear_value x; rotate_left; subst x) | subst x) | lift_lets -underBinder | with_reducible exact Agree.refl _ _ | with_reducible assumption | ((conv => (arg 3; arg 27; skip)); with_reducible refine Agree.upd_ledg _ (by decide) ?_) | with_reducible apply @agree_pushRec 16384 _ (by decide) | with_reducible refine Agree.of_snd (by assumption) ?_ | with_reducible refine Agree.of_fst (by assumption) ?_ | split | dsimp only | (intro t ht; with_reducible assumption) | intro)

end State
end Sys2Proof.Machine
end

