-- ==== Sys2Proof/Laws/AgreePair.lean ====
section
/-! SUPPORT. The fields of State that each function of Machine/Pair.lean can change. -/
set_option Elab.async false

set_option linter.unusedTactic false
set_option linter.unreachableTactic false

namespace Sys2Proof.Machine
namespace State

theorem agree_freeShared {μ : Nat} {σ : State} (hK : 4 ||| μ = μ) (s : State) (hA : Agree μ σ s) : Agree μ σ (freeShared s) := by
  refine Agree.step (k := 4) ?_ hK hA
  clear hA hK
  unfold freeShared
  repeat' (first | (intro x; first | (refine (fun (hx : Agree 4 s x) => ?_) ?_; clear_value x; rotate_left; subst x) | subst x) | lift_lets -underBinder | with_reducible exact Agree.refl _ _ | with_reducible assumption | ((conv => (arg 3; arg 27; skip)); with_reducible refine Agree.upd_aon _ (by decide) ?_) | with_reducible refine Agree.of_snd (by assumption) ?_ | with_reducible refine Agree.of_fst (by assumption) ?_ | split | dsimp only | (intro t ht; with_reducible assumption) | intro)

theorem agree_becomeStandby {μ : Nat} {σ : State} (hK : 33554436 ||| μ = μ) (s : State) (hA : Agree μ σ s) : Agree μ σ (becomeStandby s) := by
  refine Agree.step (k := 33554436) ?_ hK hA
  clear hA hK
  unfold becomeStandby
  repeat' (first | (intro x; first | (refine (fun (hx : Agree 33554436 s x) => ?_) ?_; clear_value x; rotate_left; subst x) | subst x) | lift_lets -underBinder | with_reducible exact Agree.refl _ _ | with_reducible assumption | with_reducible apply @agree_mdPair 33554436 _ (by decide) | with_reducible apply @agree_freeShared 33554436 _ (by decide) | with_reducible apply @agree_psend 33554436 _ (by decide) | with_reducible refine Agree.of_snd (by assumption) ?_ | with_reducible refine Agree.of_fst (by assumption) ?_ | split | dsimp only | (intro t ht; with_reducible assumption) | intro)

theorem agree_freeIdle {μ : Nat} {σ : State} (hK : 4 ||| μ = μ) (s : State) (hA : Agree μ σ s) : Agree μ σ (freeIdle s) := by
  refine Agree.step (k := 4) ?_ hK hA
  clear hA hK
  unfold freeIdle
  repeat' (first | (intro x; first | (refine (fun (hx : Agree 4 s x) => ?_) ?_; clear_value x; rotate_left; subst x) | subst x) | lift_lets -underBinder | with_reducible exact Agree.refl _ _ | with_reducible assumption | ((conv => (arg 3; arg 27; skip)); with_reducible refine Agree.upd_aon _ (by decide) ?_) | with_reducible refine Agree.of_snd (by assumption) ?_ | with_reducible refine Agree.of_fst (by assumption) ?_ | split | dsimp only | (intro t ht; with_reducible assumption) | intro)

theorem agree_releaseToken {μ : Nat} {σ : State} (hK : 33554436 ||| μ = μ) (s : State) (hA : Agree μ σ s) : Agree μ σ (releaseToken s) := by
  refine Agree.step (k := 33554436) ?_ hK hA
  clear hA hK
  unfold releaseToken
  repeat' (first | (intro x; first | (refine (fun (hx : Agree 33554436 s x) => ?_) ?_; clear_value x; rotate_left; subst x) | subst x) | lift_lets -underBinder | with_reducible exact Agree.refl _ _ | with_reducible assumption | with_reducible apply @agree_mdPair 33554436 _ (by decide) | with_reducible apply @agree_freeIdle 33554436 _ (by decide) | with_reducible refine Agree.of_snd (by assumption) ?_ | with_reducible refine Agree.of_fst (by assumption) ?_ | split | dsimp only | (intro t ht; with_reducible assumption) | intro)

theorem agree_plHeard {μ : Nat} {σ : State} (hK : 33562624 ||| μ = μ) (s : State) (hA : Agree μ σ s) : Agree μ σ (plHeard s) := by
  refine Agree.step (k := 33562624) ?_ hK hA
  clear hA hK
  unfold plHeard
  repeat' (first | (intro x; first | (refine (fun (hx : Agree 33562624 s x) => ?_) ?_; clear_value x; rotate_left; subst x) | subst x) | lift_lets -underBinder | with_reducible exact Agree.refl _ _ | with_reducible assumption | with_reducible apply @agree_mdPair 33562624 _ (by decide) | with_reducible apply @agree_psend 33562624 _ (by decide) | with_reducible apply @agree_follow 33562624 _ (by decide) | with_reducible refine Agree.of_snd (by assumption) ?_ | with_reducible refine Agree.of_fst (by assumption) ?_ | split | dsimp only | (intro t ht; with_reducible assumption) | intro)

theorem agree_preceive {μ : Nat} {σ : State} (hK : 33562624 ||| μ = μ) (h : Hdr) (f : State → State) (s : State) (hf : ∀ t, Agree μ σ t → Agree μ σ (f t)) (hA : Agree μ σ s) : Agree μ σ (preceive h f s) := by
  unfold preceive
  repeat' (first | (intro x; first | (refine (fun (hx : Agree μ σ x) => ?_) ?_; clear_value x; rotate_left; subst x) | subst x) | lift_lets -underBinder | with_reducible exact Agree.refl _ _ | with_reducible assumption | with_reducible apply hf | with_reducible apply @agree_mdPair μ _ (Agree.sub_of hK (by decide)) | with_reducible apply @agree_psend μ _ (Agree.sub_of hK (by decide)) | with_reducible apply @agree_plHeard μ _ (Agree.sub_of hK (by decide)) | with_reducible refine Agree.of_snd (by assumption) ?_ | with_reducible refine Agree.of_fst (by assumption) ?_ | split | dsimp only | (intro t ht; with_reducible assumption) | intro)

theorem agree_aliveRx {μ : Nat} {σ : State} (hK : 33562624 ||| μ = μ) (h : Hdr) (s : State) (hA : Agree μ σ s) : Agree μ σ (aliveRx h s) := by
  refine Agree.step (k := 33562624) ?_ hK hA
  clear hA hK
  unfold aliveRx
  repeat' (first | (intro x; first | (refine (fun (hx : Agree 33562624 s x) => ?_) ?_; clear_value x; rotate_left; subst x) | subst x) | lift_lets -underBinder | with_reducible exact Agree.refl _ _ | with_reducible assumption | with_reducible apply @agree_preceive 33562624 _ (by decide) | with_reducible refine Agree.of_snd (by assumption) ?_ | with_reducible refine Agree.of_fst (by assumption) ?_ | split | dsimp only | (intro t ht; with_reducible assumption) | intro)

theorem agree_aliveSend {μ : Nat} {σ : State} (hK : 33554432 ||| μ = μ) (s : State) (hA : Agree μ σ s) : Agree μ σ (aliveSend s) := by
  refine Agree.step (k := 33554432) ?_ hK hA
  clear hA hK
  unfold aliveSend
  repeat' (first | (intro x; first | (refine (fun (hx : Agree 33554432 s x) => ?_) ?_; clear_value x; rotate_left; subst x) | subst x) | lift_lets -underBinder | with_reducible exact Agree.refl _ _ | with_reducible assumption | with_reducible apply @agree_mdPair 33554432 _ (by decide) | with_reducible refine Agree.of_snd (by assumption) ?_ | with_reducible refine Agree.of_fst (by assumption) ?_ | split | dsimp only | (intro t ht; with_reducible assumption) | intro)

theorem agree_mapPut {μ : Nat} {σ : State} (hK : 2097152 ||| μ = μ) (turn : Nat) (e : MapAdd) (s : State) (hA : Agree μ σ s) : Agree μ σ (mapPut turn e s) := by
  refine Agree.step (k := 2097152) ?_ hK hA
  clear hA hK
  unfold mapPut
  repeat' (first | (intro x; first | (refine (fun (hx : Agree 2097152 s x) => ?_) ?_; clear_value x; rotate_left; subst x) | subst x) | lift_lets -underBinder | with_reducible exact Agree.refl _ _ | with_reducible assumption | with_reducible apply @agree_mdPp 2097152 _ (by decide) | with_reducible refine Agree.of_snd (by assumption) ?_ | with_reducible refine Agree.of_fst (by assumption) ?_ | split | dsimp only | (intro t ht; with_reducible assumption) | intro)

theorem agree_applyMap {μ : Nat} {σ : State} (hK : 35651584 ||| μ = μ) (f : Frame) (s : State) (hA : Agree μ σ s) : Agree μ σ (applyMap f s) := by
  refine Agree.step (k := 35651584) ?_ hK hA
  clear hA hK
  unfold applyMap
  repeat' (first | (intro x; first | (refine (fun (hx : Agree 35651584 s x) => ?_) ?_; clear_value x; rotate_left; subst x) | subst x) | lift_lets -underBinder | with_reducible exact Agree.refl _ _ | with_reducible assumption | with_reducible refine Agree.forN ?_ ?_ | with_reducible refine Agree.forL ?_ ?_ | with_reducible apply @agree_mdPair 35651584 _ (by decide) | with_reducible apply @agree_mdPp 35651584 _ (by decide) | with_reducible apply @agree_mapPut 35651584 _ (by decide) | with_reducible refine Agree.of_snd (by assumption) ?_ | with_reducible refine Agree.of_fst (by assumption) ?_ | split | dsimp only | (intro t ht; with_reducible assumption) | intro)

theorem agree_applyStrs {μ : Nat} {σ : State} (hK : 131076 ||| μ = μ) (f : Frame) (s : State) (hA : Agree μ σ s) : Agree μ σ (applyStrs f s) := by
  refine Agree.step (k := 131076) ?_ hK hA
  clear hA hK
  unfold applyStrs
  repeat' (first | (intro x; first | (refine (fun (hx : Agree 131076 s x) => ?_) ?_; clear_value x; rotate_left; subst x) | subst x) | lift_lets -underBinder | with_reducible exact Agree.refl _ _ | with_reducible assumption | ((conv => (arg 3; arg 27; skip)); with_reducible refine Agree.upd_aon_nrg _ _ (by decide) ?_) | with_reducible refine Agree.forN ?_ ?_ | with_reducible apply @agree_mdStr 131076 _ (by decide) | with_reducible refine Agree.of_snd (by assumption) ?_ | with_reducible refine Agree.of_fst (by assumption) ?_ | split | dsimp only | (intro t ht; with_reducible assumption) | intro)

theorem agree_drillFollow {μ : Nat} {σ : State} (hK : 33556736 ||| μ = μ) (f : Frame) (s : State) (hA : Agree μ σ s) : Agree μ σ (drillFollow f s) := by
  refine Agree.step (k := 33556736) ?_ hK hA
  clear hA hK
  unfold drillFollow
  repeat' (first | (intro x; first | (refine (fun (hx : Agree 33556736 s x) => ?_) ?_; clear_value x; rotate_left; subst x) | subst x) | lift_lets -underBinder | with_reducible exact Agree.refl _ _ | with_reducible assumption | with_reducible apply @agree_setEvt 33556736 _ (by decide) | with_reducible apply @agree_cmdEnd 33556736 _ (by decide) | with_reducible apply @agree_mdPair 33556736 _ (by decide) | with_reducible refine Agree.of_snd (by assumption) ?_ | with_reducible refine Agree.of_fst (by assumption) ?_ | split | dsimp only | (intro t ht; with_reducible assumption) | intro)

theorem agree_driveShared {μ : Nat} {σ : State} (hK : 4 ||| μ = μ) (lv : BitVec 64) (s : State) (hA : Agree μ σ s) : Agree μ σ (driveShared lv s) := by
  refine Agree.step (k := 4) ?_ hK hA
  clear hA hK
  unfold driveShared
  repeat' (first | (intro x; first | (refine (fun (hx : Agree 4 s x) => ?_) ?_; clear_value x; rotate_left; subst x) | subst x) | lift_lets -underBinder | with_reducible exact Agree.refl _ _ | with_reducible assumption | ((conv => (arg 3; arg 27; skip)); with_reducible refine Agree.upd_aon _ (by decide) ?_) | with_reducible refine Agree.of_snd (by assumption) ?_ | with_reducible refine Agree.of_fst (by assumption) ?_ | split | dsimp only | (intro t ht; with_reducible assumption) | intro)

theorem agree_followState {μ : Nat} {σ : State} (hK : 128 ||| μ = μ) (c : Nat) (s : State) (hA : Agree μ σ s) : Agree μ σ (followState c s) := by
  refine Agree.step (k := 128) ?_ hK hA
  clear hA hK
  unfold followState
  repeat' (first | (intro x; first | (refine (fun (hx : Agree 128 s x) => ?_) ?_; clear_value x; rotate_left; subst x) | subst x) | lift_lets -underBinder | with_reducible exact Agree.refl _ _ | with_reducible assumption | ((conv => (arg 3; arg 27; skip)); with_reducible refine Agree.upd_top _ (by decide) ?_) | with_reducible refine Agree.of_snd (by assumption) ?_ | with_reducible refine Agree.of_fst (by assumption) ?_ | split | dsimp only | (intro t ht; with_reducible assumption) | intro)

theorem agree_unarm {μ : Nat} {σ : State} (hK : 33554432 ||| μ = μ) (s : State) (hA : Agree μ σ s) : Agree μ σ (unarm s) := by
  refine Agree.step (k := 33554432) ?_ hK hA
  clear hA hK
  unfold unarm
  repeat' (first | (intro x; first | (refine (fun (hx : Agree 33554432 s x) => ?_) ?_; clear_value x; rotate_left; subst x) | subst x) | lift_lets -underBinder | with_reducible exact Agree.refl _ _ | with_reducible assumption | with_reducible apply @agree_mdPair 33554432 _ (by decide) | with_reducible apply @agree_psend 33554432 _ (by decide) | with_reducible refine Agree.of_snd (by assumption) ?_ | with_reducible refine Agree.of_fst (by assumption) ?_ | split | dsimp only | (intro t ht; with_reducible assumption) | intro)

theorem agree_unplan {μ : Nat} {σ : State} (hK : 33554436 ||| μ = μ) (s : State) (hA : Agree μ σ s) : Agree μ σ (unplan s) := by
  refine Agree.step (k := 33554436) ?_ hK hA
  clear hA hK
  unfold unplan
  repeat' (first | (intro x; first | (refine (fun (hx : Agree 33554436 s x) => ?_) ?_; clear_value x; rotate_left; subst x) | subst x) | lift_lets -underBinder | with_reducible exact Agree.refl _ _ | with_reducible assumption | with_reducible apply @agree_mdPair 33554436 _ (by decide) | with_reducible apply @agree_freeShared 33554436 _ (by decide) | with_reducible refine Agree.of_snd (by assumption) ?_ | with_reducible refine Agree.of_fst (by assumption) ?_ | split | dsimp only | (intro t ht; with_reducible assumption) | intro)

theorem agree_applyFrame {μ : Nat} {σ : State} (hK : 35785092 ||| μ = μ) (f : Frame) (s : State) (hA : Agree μ σ s) : Agree μ σ (applyFrame f s) := by
  refine Agree.step (k := 35785092) ?_ hK hA
  clear hA hK
  unfold applyFrame
  repeat' (first | (intro x; first | (refine (fun (hx : Agree 35785092 s x) => ?_) ?_; clear_value x; rotate_left; subst x) | subst x) | lift_lets -underBinder | with_reducible exact Agree.refl _ _ | with_reducible assumption | ((conv => (arg 3; arg 27; skip)); with_reducible refine Agree.upd_aon_top _ _ (by decide) ?_) | with_reducible apply @agree_setEvt 35785092 _ (by decide) | with_reducible apply @agree_mdPair 35785092 _ (by decide) | with_reducible apply @agree_psend 35785092 _ (by decide) | with_reducible apply @agree_applyMap 35785092 _ (by decide) | with_reducible apply @agree_applyStrs 35785092 _ (by decide) | with_reducible apply @agree_drillFollow 35785092 _ (by decide) | with_reducible apply @agree_driveShared 35785092 _ (by decide) | with_reducible apply @agree_followState 35785092 _ (by decide) | with_reducible apply @agree_unarm 35785092 _ (by decide) | with_reducible apply @agree_unplan 35785092 _ (by decide) | with_reducible refine Agree.of_snd (by assumption) ?_ | with_reducible refine Agree.of_fst (by assumption) ?_ | split | dsimp only | (intro t ht; with_reducible assumption) | intro)

theorem agree_bootHeard {μ : Nat} {σ : State} (hK : 33554436 ||| μ = μ) (s : State) (hA : Agree μ σ s) : Agree μ σ (bootHeard s) := by
  refine Agree.step (k := 33554436) ?_ hK hA
  clear hA hK
  unfold bootHeard
  repeat' (first | (intro x; first | (refine (fun (hx : Agree 33554436 s x) => ?_) ?_; clear_value x; rotate_left; subst x) | subst x) | lift_lets -underBinder | with_reducible exact Agree.refl _ _ | with_reducible assumption | with_reducible apply @agree_mdPair 33554436 _ (by decide) | with_reducible apply @agree_becomeStandby 33554436 _ (by decide) | with_reducible refine Agree.of_snd (by assumption) ?_ | with_reducible refine Agree.of_fst (by assumption) ?_ | split | dsimp only | (intro t ht; with_reducible assumption) | intro)

theorem agree_channelSilent {μ : Nat} {σ : State} (hK : 33562624 ||| μ = μ) (hb : Bool) (s : State) (hA : Agree μ σ s) : Agree μ σ (channelSilent hb s) := by
  refine Agree.step (k := 33562624) ?_ hK hA
  clear hA hK
  unfold channelSilent
  repeat' (first | (intro x; first | (refine (fun (hx : Agree 33562624 s x) => ?_) ?_; clear_value x; rotate_left; subst x) | subst x) | lift_lets -underBinder | with_reducible exact Agree.refl _ _ | with_reducible assumption | with_reducible apply @agree_mdPair 33562624 _ (by decide) | with_reducible apply @agree_follow 33562624 _ (by decide) | with_reducible refine Agree.of_snd (by assumption) ?_ | with_reducible refine Agree.of_fst (by assumption) ?_ | split | dsimp only | (intro t ht; with_reducible assumption) | intro)

theorem agree_drivePulls {μ : Nat} {σ : State} (hK : 4 ||| μ = μ) (s : State) (hA : Agree μ σ s) : Agree μ σ (drivePulls s) := by
  refine Agree.step (k := 4) ?_ hK hA
  clear hA hK
  unfold drivePulls
  repeat' (first | (intro x; first | (refine (fun (hx : Agree 4 s x) => ?_) ?_; clear_value x; rotate_left; subst x) | subst x) | lift_lets -underBinder | with_reducible exact Agree.refl _ _ | with_reducible assumption | ((conv => (arg 3; arg 27; skip)); with_reducible refine Agree.upd_aon _ (by decide) ?_) | with_reducible refine Agree.of_snd (by assumption) ?_ | with_reducible refine Agree.of_fst (by assumption) ?_ | split | dsimp only | (intro t ht; with_reducible assumption) | intro)

theorem agree_dropPartner {μ : Nat} {σ : State} (hK : 33554432 ||| μ = μ) (s : State) (hA : Agree μ σ s) : Agree μ σ (dropPartner s) := by
  refine Agree.step (k := 33554432) ?_ hK hA
  clear hA hK
  unfold dropPartner
  repeat' (first | (intro x; first | (refine (fun (hx : Agree 33554432 s x) => ?_) ?_; clear_value x; rotate_left; subst x) | subst x) | lift_lets -underBinder | with_reducible exact Agree.refl _ _ | with_reducible assumption | with_reducible apply @agree_mdPair 33554432 _ (by decide) | with_reducible apply @agree_kxDrop 33554432 _ (by decide) | with_reducible refine Agree.of_snd (by assumption) ?_ | with_reducible refine Agree.of_fst (by assumption) ?_ | split | dsimp only | (intro t ht; with_reducible assumption) | intro)

theorem agree_dwellEnd {μ : Nat} {σ : State} (hK : 33554432 ||| μ = μ) (s : State) (hA : Agree μ σ s) : Agree μ σ (dwellEnd s) := by
  refine Agree.step (k := 33554432) ?_ hK hA
  clear hA hK
  unfold dwellEnd
  repeat' (first | (intro x; first | (refine (fun (hx : Agree 33554432 s x) => ?_) ?_; clear_value x; rotate_left; subst x) | subst x) | lift_lets -underBinder | with_reducible exact Agree.refl _ _ | with_reducible assumption | with_reducible apply @agree_mdPair 33554432 _ (by decide) | with_reducible refine Agree.of_snd (by assumption) ?_ | with_reducible refine Agree.of_fst (by assumption) ?_ | split | dsimp only | (intro t ht; with_reducible assumption) | intro)

theorem agree_dwellTurn {μ : Nat} {σ : State} (hK : 33554432 ||| μ = μ) (s : State) (hA : Agree μ σ s) : Agree μ σ (dwellTurn s) := by
  refine Agree.step (k := 33554432) ?_ hK hA
  clear hA hK
  unfold dwellTurn
  repeat' (first | (intro x; first | (refine (fun (hx : Agree 33554432 s x) => ?_) ?_; clear_value x; rotate_left; subst x) | subst x) | lift_lets -underBinder | with_reducible exact Agree.refl _ _ | with_reducible assumption | with_reducible apply @agree_mdPair 33554432 _ (by decide) | with_reducible refine Agree.of_snd (by assumption) ?_ | with_reducible refine Agree.of_fst (by assumption) ?_ | split | dsimp only | (intro t ht; with_reducible assumption) | intro)

theorem agree_sendFrame {μ : Nat} {σ : State} (hK : 35651584 ||| μ = μ) (final : Bool) (s : State) (hA : Agree μ σ s) : Agree μ σ (sendFrame final s) := by
  refine Agree.step (k := 35651584) ?_ hK hA
  clear hA hK
  unfold sendFrame
  repeat' (first | (intro x; first | (refine (fun (hx : Agree 35651584 s x) => ?_) ?_; clear_value x; rotate_left; subst x) | subst x) | lift_lets -underBinder | with_reducible exact Agree.refl _ _ | with_reducible assumption | with_reducible refine Agree.forN ?_ ?_ | with_reducible apply @agree_mdPair 35651584 _ (by decide) | with_reducible apply @agree_psend 35651584 _ (by decide) | with_reducible apply @agree_mdPp 35651584 _ (by decide) | with_reducible refine Agree.of_snd (by assumption) ?_ | with_reducible refine Agree.of_fst (by assumption) ?_ | split | dsimp only | (intro t ht; with_reducible assumption) | intro)

theorem agree_finalFrame {μ : Nat} {σ : State} (hK : 35651584 ||| μ = μ) (s : State) (hA : Agree μ σ s) : Agree μ σ (finalFrame s) := by
  refine Agree.step (k := 35651584) ?_ hK hA
  clear hA hK
  unfold finalFrame
  repeat' (first | (intro x; first | (refine (fun (hx : Agree 35651584 s x) => ?_) ?_; clear_value x; rotate_left; subst x) | subst x) | lift_lets -underBinder | with_reducible exact Agree.refl _ _ | with_reducible assumption | with_reducible apply @agree_mdPair 35651584 _ (by decide) | with_reducible apply @agree_sendFrame 35651584 _ (by decide) | with_reducible refine Agree.of_snd (by assumption) ?_ | with_reducible refine Agree.of_fst (by assumption) ?_ | split | dsimp only | (intro t ht; with_reducible assumption) | intro)

theorem agree_kxNeed {μ : Nat} {σ : State} (hK : 33554688 ||| μ = μ) (s : State) (hA : Agree μ σ s) : Agree μ σ (kxNeed s) := by
  refine Agree.step (k := 33554688) ?_ hK hA
  clear hA hK
  unfold kxNeed
  repeat' (first | (intro x; first | (refine (fun (hx : Agree 33554688 s x) => ?_) ?_; clear_value x; rotate_left; subst x) | subst x) | lift_lets -underBinder | with_reducible exact Agree.refl _ _ | with_reducible assumption | with_reducible apply @agree_setEvt 33554688 _ (by decide) | with_reducible apply @agree_mdPair 33554688 _ (by decide) | with_reducible refine Agree.of_snd (by assumption) ?_ | with_reducible refine Agree.of_fst (by assumption) ?_ | split | dsimp only | (intro t ht; with_reducible assumption) | intro)

theorem agree_frameAckRx {μ : Nat} {σ : State} (hK : 33562880 ||| μ = μ) (h : Hdr) (fseq : Nat) (s : State) (hA : Agree μ σ s) : Agree μ σ (frameAckRx h fseq s) := by
  refine Agree.step (k := 33562880) ?_ hK hA
  clear hA hK
  unfold frameAckRx
  repeat' (first | (intro x; first | (refine (fun (hx : Agree 33562880 s x) => ?_) ?_; clear_value x; rotate_left; subst x) | subst x) | lift_lets -underBinder | with_reducible exact Agree.refl _ _ | with_reducible assumption | with_reducible apply @agree_setEvt 33562880 _ (by decide) | with_reducible apply @agree_mdPair 33562880 _ (by decide) | with_reducible apply @agree_preceive 33562880 _ (by decide) | with_reducible apply @agree_kxNeed 33562880 _ (by decide) | with_reducible refine Agree.of_snd (by assumption) ?_ | with_reducible refine Agree.of_fst (by assumption) ?_ | split | dsimp only | (intro t ht; with_reducible assumption) | intro)

theorem agree_frameRx {μ : Nat} {σ : State} (hK : 35793285 ||| μ = μ) (h : Hdr) (whole : Bool) (f : Frame) (s : State) (hA : Agree μ σ s) : Agree μ σ (frameRx h whole f s) := by
  refine Agree.step (k := 35793285) ?_ hK hA
  clear hA hK
  unfold frameRx
  repeat' (first | (intro x; first | (refine (fun (hx : Agree 35793285 s x) => ?_) ?_; clear_value x; rotate_left; subst x) | subst x) | lift_lets -underBinder | with_reducible exact Agree.refl _ _ | with_reducible assumption | with_reducible apply @agree_mdPair 35793285 _ (by decide) | with_reducible apply @agree_arrive 35793285 _ (by decide) | with_reducible apply @agree_preceive 35793285 _ (by decide) | with_reducible apply @agree_unarm 35793285 _ (by decide) | with_reducible apply @agree_applyFrame 35793285 _ (by decide) | with_reducible apply @agree_bootHeard 35793285 _ (by decide) | with_reducible refine Agree.of_snd (by assumption) ?_ | with_reducible refine Agree.of_fst (by assumption) ?_ | split | dsimp only | (intro t ht; with_reducible assumption) | intro)

theorem agree_frameTurn {μ : Nat} {σ : State} (hK : 35651584 ||| μ = μ) (s : State) (hA : Agree μ σ s) : Agree μ σ (frameTurn s) := by
  refine Agree.step (k := 35651584) ?_ hK hA
  clear hA hK
  unfold frameTurn
  repeat' (first | (intro x; first | (refine (fun (hx : Agree 35651584 s x) => ?_) ?_; clear_value x; rotate_left; subst x) | subst x) | lift_lets -underBinder | with_reducible exact Agree.refl _ _ | with_reducible assumption | with_reducible apply @agree_mdPair 35651584 _ (by decide) | with_reducible apply @agree_sendFrame 35651584 _ (by decide) | with_reducible refine Agree.of_snd (by assumption) ?_ | with_reducible refine Agree.of_fst (by assumption) ?_ | split | dsimp only | (intro t ht; with_reducible assumption) | intro)

theorem agree_handTurn {μ : Nat} {σ : State} (hK : 33554432 ||| μ = μ) (s : State) (hA : Agree μ σ s) : Agree μ σ (handTurn s) := by
  refine Agree.step (k := 33554432) ?_ hK hA
  clear hA hK
  unfold handTurn
  repeat' (first | (intro x; first | (refine (fun (hx : Agree 33554432 s x) => ?_) ?_; clear_value x; rotate_left; subst x) | subst x) | lift_lets -underBinder | with_reducible exact Agree.refl _ _ | with_reducible assumption | with_reducible apply @agree_mdPair 33554432 _ (by decide) | with_reducible refine Agree.of_snd (by assumption) ?_ | with_reducible refine Agree.of_fst (by assumption) ?_ | split | dsimp only | (intro t ht; with_reducible assumption) | intro)

theorem agree_hbEdge {μ : Nat} {σ : State} (hK : 33562624 ||| μ = μ) (s : State) (hA : Agree μ σ s) : Agree μ σ (hbEdge s) := by
  refine Agree.step (k := 33562624) ?_ hK hA
  clear hA hK
  unfold hbEdge
  repeat' (first | (intro x; first | (refine (fun (hx : Agree 33562624 s x) => ?_) ?_; clear_value x; rotate_left; subst x) | subst x) | lift_lets -underBinder | with_reducible exact Agree.refl _ _ | with_reducible assumption | with_reducible apply @agree_mdPair 33562624 _ (by decide) | with_reducible apply @agree_follow 33562624 _ (by decide) | with_reducible refine Agree.of_snd (by assumption) ?_ | with_reducible refine Agree.of_fst (by assumption) ?_ | split | dsimp only | (intro t ht; with_reducible assumption) | intro)

theorem agree_holdoffEnd {μ : Nat} {σ : State} (hK : 33554432 ||| μ = μ) (s : State) (hA : Agree μ σ s) : Agree μ σ (holdoffEnd s) := by
  refine Agree.step (k := 33554432) ?_ hK hA
  clear hA hK
  unfold holdoffEnd
  repeat' (first | (intro x; first | (refine (fun (hx : Agree 33554432 s x) => ?_) ?_; clear_value x; rotate_left; subst x) | subst x) | lift_lets -underBinder | with_reducible exact Agree.refl _ _ | with_reducible assumption | with_reducible apply @agree_mdPair 33554432 _ (by decide) | with_reducible refine Agree.of_snd (by assumption) ?_ | with_reducible refine Agree.of_fst (by assumption) ?_ | split | dsimp only | (intro t ht; with_reducible assumption) | intro)

theorem agree_joinRx {μ : Nat} {σ : State} (hK : 33562624 ||| μ = μ) (h : Hdr) (id : BitVec 64) (s : State) (hA : Agree μ σ s) : Agree μ σ (joinRx h id s) := by
  refine Agree.step (k := 33562624) ?_ hK hA
  clear hA hK
  unfold joinRx
  repeat' (first | (intro x; first | (refine (fun (hx : Agree 33562624 s x) => ?_) ?_; clear_value x; rotate_left; subst x) | subst x) | lift_lets -underBinder | with_reducible exact Agree.refl _ _ | with_reducible assumption | with_reducible apply @agree_mdPair 33562624 _ (by decide) | with_reducible apply @agree_preceive 33562624 _ (by decide) | with_reducible refine Agree.of_snd (by assumption) ?_ | with_reducible refine Agree.of_fst (by assumption) ?_ | split | dsimp only | (intro t ht; with_reducible assumption) | intro)

theorem agree_keeperHb {μ : Nat} {σ : State} (hK : 33554432 ||| μ = μ) (s : State) (hA : Agree μ σ s) : Agree μ σ (keeperHb s) := by
  refine Agree.step (k := 33554432) ?_ hK hA
  clear hA hK
  unfold keeperHb
  repeat' (first | (intro x; first | (refine (fun (hx : Agree 33554432 s x) => ?_) ?_; clear_value x; rotate_left; subst x) | subst x) | lift_lets -underBinder | with_reducible exact Agree.refl _ _ | with_reducible assumption | with_reducible apply @agree_mdPair 33554432 _ (by decide) | with_reducible refine Agree.of_snd (by assumption) ?_ | with_reducible refine Agree.of_fst (by assumption) ?_ | split | dsimp only | (intro t ht; with_reducible assumption) | intro)

theorem agree_kxStart {μ : Nat} {σ : State} (hK : 33554433 ||| μ = μ) (s : State) (hA : Agree μ σ s) : Agree μ σ (kxStart s) := by
  refine Agree.step (k := 33554433) ?_ hK hA
  clear hA hK
  unfold kxStart
  repeat' (first | (intro x; first | (refine (fun (hx : Agree 33554433 s x) => ?_) ?_; clear_value x; rotate_left; subst x) | subst x) | lift_lets -underBinder | with_reducible exact Agree.refl _ _ | with_reducible assumption | with_reducible apply @agree_kxBegin 33554433 _ (by decide) | with_reducible refine Agree.of_snd (by assumption) ?_ | with_reducible refine Agree.of_fst (by assumption) ?_ | split | dsimp only | (intro t ht; with_reducible assumption) | intro)

theorem agree_kxApprove {μ : Nat} {σ : State} (hK : 33554433 ||| μ = μ) (w : Word) (s : State) (hA : Agree μ σ s) : Agree μ σ (kxApprove w s) := by
  refine Agree.step (k := 33554433) ?_ hK hA
  clear hA hK
  unfold kxApprove
  repeat' (first | (intro x; first | (refine (fun (hx : Agree 33554433 s x) => ?_) ?_; clear_value x; rotate_left; subst x) | subst x) | lift_lets -underBinder | with_reducible exact Agree.refl _ _ | with_reducible assumption | with_reducible apply @agree_mdPair 33554433 _ (by decide) | with_reducible apply @agree_kxStart 33554433 _ (by decide) | with_reducible refine Agree.of_snd (by assumption) ?_ | with_reducible refine Agree.of_fst (by assumption) ?_ | split | dsimp only | (intro t ht; with_reducible assumption) | intro)

theorem agree_kxKeysRx {μ : Nat} {σ : State} (hK : 33562624 ||| μ = μ) (h : Hdr) (text : List Byte) (s : State) (hA : Agree μ σ s) : Agree μ σ (kxKeysRx h text s) := by
  refine Agree.step (k := 33562624) ?_ hK hA
  clear hA hK
  unfold kxKeysRx
  repeat' (first | (intro x; first | (refine (fun (hx : Agree 33562624 s x) => ?_) ?_; clear_value x; rotate_left; subst x) | subst x) | lift_lets -underBinder | with_reducible exact Agree.refl _ _ | with_reducible assumption | with_reducible apply @agree_kxEnd 33562624 _ (by decide) | with_reducible apply @agree_psend 33562624 _ (by decide) | with_reducible apply @agree_preceive 33562624 _ (by decide) | with_reducible apply @agree_kxDrop 33562624 _ (by decide) | with_reducible refine Agree.of_snd (by assumption) ?_ | with_reducible refine Agree.of_fst (by assumption) ?_ | split | dsimp only | (intro t ht; with_reducible assumption) | intro)

theorem agree_kxOfferRx {μ : Nat} {σ : State} (hK : 33562625 ||| μ = μ) (h : Hdr) (key : List Byte) (pub : List Byte) (sig : List Byte) (s : State) (hA : Agree μ σ s) : Agree μ σ (kxOfferRx h key pub sig s) := by
  refine Agree.step (k := 33562625) ?_ hK hA
  clear hA hK
  unfold kxOfferRx
  repeat' (first | (intro x; first | (refine (fun (hx : Agree 33562625 s x) => ?_) ?_; clear_value x; rotate_left; subst x) | subst x) | lift_lets -underBinder | with_reducible exact Agree.refl _ _ | with_reducible assumption | with_reducible apply @agree_mdPair 33562625 _ (by decide) | with_reducible apply @agree_kxEnd 33562625 _ (by decide) | with_reducible apply @agree_tick 33562625 _ (by decide) | with_reducible apply @agree_psend 33562625 _ (by decide) | with_reducible apply @agree_preceive 33562625 _ (by decide) | with_reducible refine Agree.of_snd (by assumption) ?_ | with_reducible refine Agree.of_fst (by assumption) ?_ | split | dsimp only | (intro t ht; with_reducible assumption) | intro)

theorem agree_kxReplyRx {μ : Nat} {σ : State} (hK : 33562624 ||| μ = μ) (h : Hdr) (key : List Byte) (pub : List Byte) (sig : List Byte) (s : State) (hA : Agree μ σ s) : Agree μ σ (kxReplyRx h key pub sig s) := by
  refine Agree.step (k := 33562624) ?_ hK hA
  clear hA hK
  unfold kxReplyRx
  repeat' (first | (intro x; first | (refine (fun (hx : Agree 33562624 s x) => ?_) ?_; clear_value x; rotate_left; subst x) | subst x) | lift_lets -underBinder | with_reducible exact Agree.refl _ _ | with_reducible assumption | with_reducible apply @agree_mdPair 33562624 _ (by decide) | with_reducible apply @agree_kxEnd 33562624 _ (by decide) | with_reducible apply @agree_psend 33562624 _ (by decide) | with_reducible apply @agree_preceive 33562624 _ (by decide) | with_reducible apply @agree_kxDrop 33562624 _ (by decide) | with_reducible refine Agree.of_snd (by assumption) ?_ | with_reducible refine Agree.of_fst (by assumption) ?_ | split | dsimp only | (intro t ht; with_reducible assumption) | intro)

theorem agree_kxWrapsRx {μ : Nat} {σ : State} (hK : 36708353 ||| μ = μ) (h : Hdr) (wraps : List Byte) (s : State) (hA : Agree μ σ s) : Agree μ σ (kxWrapsRx h wraps s) := by
  refine Agree.step (k := 36708353) ?_ hK hA
  clear hA hK
  unfold kxWrapsRx
  repeat' (first | (intro x; first | (refine (fun (hx : Agree 36708353 s x) => ?_) ?_; clear_value x; rotate_left; subst x) | subst x) | lift_lets -underBinder | with_reducible exact Agree.refl _ _ | with_reducible assumption | with_reducible apply @agree_mdPair 36708353 _ (by decide) | with_reducible apply @agree_kxEnd 36708353 _ (by decide) | with_reducible apply @agree_mdVault 36708353 _ (by decide) | with_reducible apply @agree_preceive 36708353 _ (by decide) | with_reducible apply @agree_keysOut 36708353 _ (by decide) | with_reducible apply @agree_kxDrop 36708353 _ (by decide) | with_reducible refine Agree.of_snd (by assumption) ?_ | with_reducible refine Agree.of_fst (by assumption) ?_ | split | dsimp only | (intro t ht; with_reducible assumption) | intro)

theorem agree_legFailed {μ : Nat} {σ : State} (hK : 33556736 ||| μ = μ) (s : State) (hA : Agree μ σ s) : Agree μ σ (legFailed s) := by
  refine Agree.step (k := 33556736) ?_ hK hA
  clear hA hK
  unfold legFailed
  repeat' (first | (intro x; first | (refine (fun (hx : Agree 33556736 s x) => ?_) ?_; clear_value x; rotate_left; subst x) | subst x) | lift_lets -underBinder | with_reducible exact Agree.refl _ _ | with_reducible assumption | with_reducible apply @agree_setEvt 33556736 _ (by decide) | with_reducible apply @agree_cmdEnd 33556736 _ (by decide) | with_reducible apply @agree_mdPair 33556736 _ (by decide) | with_reducible refine Agree.of_snd (by assumption) ?_ | with_reducible refine Agree.of_fst (by assumption) ?_ | split | dsimp only | (intro t ht; with_reducible assumption) | intro)

theorem agree_lossSampleEnd {μ : Nat} {σ : State} (hK : 33571078 ||| μ = μ) (low : Bool) (s : State) (hA : Agree μ σ s) : Agree μ σ (lossSampleEnd low s) := by
  refine Agree.step (k := 33571078) ?_ hK hA
  clear hA hK
  unfold lossSampleEnd
  repeat' (first | (intro x; first | (refine (fun (hx : Agree 33571078 s x) => ?_) ?_; clear_value x; rotate_left; subst x) | subst x) | lift_lets -underBinder | with_reducible exact Agree.refl _ _ | with_reducible assumption | ((conv => (arg 3; arg 27; skip)); with_reducible refine Agree.upd_pins _ (by decide) ?_) | with_reducible apply @agree_setEvt 33571078 _ (by decide) | with_reducible apply @agree_mdPair 33571078 _ (by decide) | with_reducible apply @agree_freeShared 33571078 _ (by decide) | with_reducible apply @agree_count 33571078 _ (by decide) | with_reducible refine Agree.of_snd (by assumption) ?_ | with_reducible refine Agree.of_fst (by assumption) ?_ | split | dsimp only | (intro t ht; with_reducible assumption) | intro)

theorem agree_pairAck {μ : Nat} {σ : State} (hK : 33562624 ||| μ = μ) (h : Hdr) (s : State) (hA : Agree μ σ s) : Agree μ σ (pairAck h s) := by
  refine Agree.step (k := 33562624) ?_ hK hA
  clear hA hK
  unfold pairAck
  repeat' (first | (intro x; first | (refine (fun (hx : Agree 33562624 s x) => ?_) ?_; clear_value x; rotate_left; subst x) | subst x) | lift_lets -underBinder | with_reducible exact Agree.refl _ _ | with_reducible assumption | with_reducible apply @agree_mdPair 33562624 _ (by decide) | with_reducible apply @agree_psend 33562624 _ (by decide) | with_reducible apply @agree_plHeard 33562624 _ (by decide) | with_reducible refine Agree.of_snd (by assumption) ?_ | with_reducible refine Agree.of_fst (by assumption) ?_ | split | dsimp only | (intro t ht; with_reducible assumption) | intro)

theorem agree_plRecover {μ : Nat} {σ : State} (hK : 50331648 ||| μ = μ) (s : State) (hA : Agree μ σ s) : Agree μ σ (plRecover s) := by
  refine Agree.step (k := 50331648) ?_ hK hA
  clear hA hK
  unfold plRecover
  repeat' (first | (intro x; first | (refine (fun (hx : Agree 50331648 s x) => ?_) ?_; clear_value x; rotate_left; subst x) | subst x) | lift_lets -underBinder | with_reducible exact Agree.refl _ _ | with_reducible assumption | ((conv => (arg 3; arg 27; skip)); with_reducible refine Agree.upd_fab _ (by decide) ?_) | with_reducible apply @agree_mdPair 50331648 _ (by decide) | with_reducible refine Agree.of_snd (by assumption) ?_ | with_reducible refine Agree.of_fst (by assumption) ?_ | split | dsimp only | (intro t ht; with_reducible assumption) | intro)

theorem agree_pairNak {μ : Nat} {σ : State} (hK : 50339840 ||| μ = μ) (w : NakWhy) (s : State) (hA : Agree μ σ s) : Agree μ σ (pairNak w s) := by
  refine Agree.step (k := 50339840) ?_ hK hA
  clear hA hK
  unfold pairNak
  repeat' (first | (intro x; first | (refine (fun (hx : Agree 50339840 s x) => ?_) ?_; clear_value x; rotate_left; subst x) | subst x) | lift_lets -underBinder | with_reducible exact Agree.refl _ _ | with_reducible assumption | with_reducible apply @agree_mdPair 50339840 _ (by decide) | with_reducible apply @agree_pairAck 50339840 _ (by decide) | with_reducible apply @agree_plRecover 50339840 _ (by decide) | with_reducible refine Agree.of_snd (by assumption) ?_ | with_reducible refine Agree.of_fst (by assumption) ?_ | split | dsimp only | (intro t ht; with_reducible assumption) | intro)

theorem agree_pairReplay {μ : Nat} {σ : State} (hK : 50331648 ||| μ = μ) (s : State) (hA : Agree μ σ s) : Agree μ σ (pairReplay s) := by
  refine Agree.step (k := 50331648) ?_ hK hA
  clear hA hK
  unfold pairReplay
  repeat' (first | (intro x; first | (refine (fun (hx : Agree 50331648 s x) => ?_) ?_; clear_value x; rotate_left; subst x) | subst x) | lift_lets -underBinder | with_reducible exact Agree.refl _ _ | with_reducible assumption | with_reducible apply @agree_mdPair 50331648 _ (by decide) | with_reducible apply @agree_plRecover 50331648 _ (by decide) | with_reducible refine Agree.of_snd (by assumption) ?_ | with_reducible refine Agree.of_fst (by assumption) ?_ | split | dsimp only | (intro t ht; with_reducible assumption) | intro)

theorem agree_partnerLoss {μ : Nat} {σ : State} (hK : 34613505 ||| μ = μ) (s : State) (hA : Agree μ σ s) : Agree μ σ (partnerLoss s) := by
  refine Agree.step (k := 34613505) ?_ hK hA
  clear hA hK
  unfold partnerLoss
  repeat' (first | (intro x; first | (refine (fun (hx : Agree 34613505 s x) => ?_) ?_; clear_value x; rotate_left; subst x) | subst x) | lift_lets -underBinder | with_reducible exact Agree.refl _ _ | with_reducible assumption | with_reducible apply @agree_setEvt 34613505 _ (by decide) | with_reducible apply @agree_mdPair 34613505 _ (by decide) | with_reducible apply @agree_pump 34613505 _ (by decide) | with_reducible apply @agree_follow 34613505 _ (by decide) | with_reducible apply @agree_arrive 34613505 _ (by decide) | with_reducible apply @agree_dropPartner 34613505 _ (by decide) | with_reducible apply @agree_legFailed 34613505 _ (by decide) | with_reducible refine Agree.of_snd (by assumption) ?_ | with_reducible refine Agree.of_fst (by assumption) ?_ | split | dsimp only | (intro t ht; with_reducible assumption) | intro)

theorem agree_sharedFollow {μ : Nat} {σ : State} (hK : 5 ||| μ = μ) (s : State) (hA : Agree μ σ s) : Agree μ σ (sharedFollow s) := by
  refine Agree.step (k := 5) ?_ hK hA
  clear hA hK
  unfold sharedFollow
  repeat' (first | (intro x; first | (refine (fun (hx : Agree 5 s x) => ?_) ?_; clear_value x; rotate_left; subst x) | subst x) | lift_lets -underBinder | with_reducible exact Agree.refl _ _ | with_reducible assumption | with_reducible apply @agree_tick 5 _ (by decide) | with_reducible apply @agree_freeShared 5 _ (by decide) | with_reducible refine Agree.of_snd (by assumption) ?_ | with_reducible refine Agree.of_fst (by assumption) ?_ | split | dsimp only | (intro t ht; with_reducible assumption) | intro)

theorem agree_standbyTurn {μ : Nat} {σ : State} (hK : 33554432 ||| μ = μ) (s : State) (hA : Agree μ σ s) : Agree μ σ (standbyTurn s) := by
  refine Agree.step (k := 33554432) ?_ hK hA
  clear hA hK
  unfold standbyTurn
  repeat' (first | (intro x; first | (refine (fun (hx : Agree 33554432 s x) => ?_) ?_; clear_value x; rotate_left; subst x) | subst x) | lift_lets -underBinder | with_reducible exact Agree.refl _ _ | with_reducible assumption | with_reducible apply @agree_mdPair 33554432 _ (by decide) | with_reducible apply @agree_unarm 33554432 _ (by decide) | with_reducible refine Agree.of_snd (by assumption) ?_ | with_reducible refine Agree.of_fst (by assumption) ?_ | split | dsimp only | (intro t ht; with_reducible assumption) | intro)

theorem agree_takeReadyRx {μ : Nat} {σ : State} (hK : 35660039 ||| μ = μ) (h : Hdr) (fseq : Nat) (s : State) (hA : Agree μ σ s) : Agree μ σ (takeReadyRx h fseq s) := by
  refine Agree.step (k := 35660039) ?_ hK hA
  clear hA hK
  unfold takeReadyRx
  repeat' (first | (intro x; first | (refine (fun (hx : Agree 35660039 s x) => ?_) ?_; clear_value x; rotate_left; subst x) | subst x) | lift_lets -underBinder | with_reducible exact Agree.refl _ _ | with_reducible assumption | ((conv => (arg 3; arg 27; skip)); with_reducible refine Agree.upd_pins_aon _ _ (by decide) ?_) | with_reducible refine Agree.forN ?_ ?_ | with_reducible apply @agree_setEvt 35660039 _ (by decide) | with_reducible apply @agree_mdPair 35660039 _ (by decide) | with_reducible apply @agree_freeShared 35660039 _ (by decide) | with_reducible apply @agree_arrive 35660039 _ (by decide) | with_reducible apply @agree_mdPp 35660039 _ (by decide) | with_reducible apply @agree_preceive 35660039 _ (by decide) | with_reducible refine Agree.of_snd (by assumption) ?_ | with_reducible refine Agree.of_fst (by assumption) ?_ | split | dsimp only | (intro t ht; with_reducible assumption) | intro)

theorem agree_takeReadyTimeout {μ : Nat} {σ : State} (hK : 43264257 ||| μ = μ) (s : State) (hA : Agree μ σ s) : Agree μ σ (takeReadyTimeout s) := by
  refine Agree.step (k := 43264257) ?_ hK hA
  clear hA hK
  unfold takeReadyTimeout
  repeat' (first | (intro x; first | (refine (fun (hx : Agree 43264257 s x) => ?_) ?_; clear_value x; rotate_left; subst x) | subst x) | lift_lets -underBinder | with_reducible exact Agree.refl _ _ | with_reducible assumption | with_reducible refine Agree.forL ?_ ?_ | with_reducible apply @agree_setEvt 43264257 _ (by decide) | with_reducible apply @agree_mdPair 43264257 _ (by decide) | with_reducible apply @agree_pump 43264257 _ (by decide) | with_reducible apply @agree_raiseTurn 43264257 _ (by decide) | with_reducible apply @agree_stepRestore 43264257 _ (by decide) | with_reducible apply @agree_legFailed 43264257 _ (by decide) | with_reducible refine Agree.of_snd (by assumption) ?_ | with_reducible refine Agree.of_fst (by assumption) ?_ | split | dsimp only | (intro t ht; with_reducible assumption) | intro)

theorem agree_yieldRx {μ : Nat} {σ : State} (hK : 33564929 ||| μ = μ) (h : Hdr) (s : State) (hA : Agree μ σ s) : Agree μ σ (yieldRx h s) := by
  refine Agree.step (k := 33564929) ?_ hK hA
  clear hA hK
  unfold yieldRx
  repeat' (first | (intro x; first | (refine (fun (hx : Agree 33564929 s x) => ?_) ?_; clear_value x; rotate_left; subst x) | subst x) | lift_lets -underBinder | with_reducible exact Agree.refl _ _ | with_reducible assumption | with_reducible apply @agree_setEvt 33564929 _ (by decide) | with_reducible apply @agree_mdPair 33564929 _ (by decide) | with_reducible apply @agree_arrive 33564929 _ (by decide) | with_reducible apply @agree_preceive 33564929 _ (by decide) | with_reducible apply @agree_legFailed 33564929 _ (by decide) | with_reducible refine Agree.of_snd (by assumption) ?_ | with_reducible refine Agree.of_fst (by assumption) ?_ | split | dsimp only | (intro t ht; with_reducible assumption) | intro)

end State
end Sys2Proof.Machine
end

