-- ==== Sys2Proof/Laws/AgreeFabric.lean ====
section
/-! SUPPORT. The fields of State that each function of Machine/Fabric.lean can change. -/
set_option Elab.async false

set_option linter.unusedTactic false
set_option linter.unreachableTactic false

namespace Sys2Proof.Machine
namespace State

theorem agree_addrSource {μ : Nat} {σ : State} (hK : 8192 ||| μ = μ) (s : State) (hA : Agree μ σ s) : Agree μ σ (addrSource s) := by
  refine Agree.step (k := 8192) ?_ hK hA
  clear hA hK
  unfold addrSource
  repeat' (first | (intro x; first | (refine (fun (hx : Agree 8192 s x) => ?_) ?_; clear_value x; rotate_left; subst x) | subst x) | lift_lets -underBinder | with_reducible exact Agree.refl _ _ | with_reducible assumption | with_reducible apply @agree_follow 8192 _ (by decide) | with_reducible refine Agree.of_snd (by assumption) ?_ | with_reducible refine Agree.of_fst (by assumption) ?_ | split | dsimp only | (intro t ht; with_reducible assumption) | intro)

theorem agree_fabSource {μ : Nat} {σ : State} (hK : 8192 ||| μ = μ) (i : Nat) (s : State) (hA : Agree μ σ s) : Agree μ σ (fabSource i s) := by
  refine Agree.step (k := 8192) ?_ hK hA
  clear hA hK
  unfold fabSource
  repeat' (first | (intro x; first | (refine (fun (hx : Agree 8192 s x) => ?_) ?_; clear_value x; rotate_left; subst x) | subst x) | lift_lets -underBinder | with_reducible exact Agree.refl _ _ | with_reducible assumption | with_reducible apply @agree_follow 8192 _ (by decide) | with_reducible refine Agree.of_snd (by assumption) ?_ | with_reducible refine Agree.of_fst (by assumption) ?_ | split | dsimp only | (intro t ht; with_reducible assumption) | intro)

theorem agree_mdFab {μ : Nat} {σ : State} (hK : 16777216 ||| μ = μ) (f : Fab → Fab) (s : State) (hA : Agree μ σ s) : Agree μ σ (mdFab f s) := by
  refine Agree.step (k := 16777216) ?_ hK hA
  clear hA hK
  unfold mdFab
  repeat' (first | (intro x; first | (refine (fun (hx : Agree 16777216 s x) => ?_) ?_; clear_value x; rotate_left; subst x) | subst x) | lift_lets -underBinder | with_reducible exact Agree.refl _ _ | with_reducible assumption | ((conv => (arg 3; arg 27; skip)); with_reducible refine Agree.upd_fab _ (by decide) ?_) | with_reducible refine Agree.of_snd (by assumption) ?_ | with_reducible refine Agree.of_fst (by assumption) ?_ | split | dsimp only | (intro t ht; with_reducible assumption) | intro)

theorem agree_mdFport {μ : Nat} {σ : State} (hK : 16777216 ||| μ = μ) (i : Nat) (f : FabPort → FabPort) (s : State) (hA : Agree μ σ s) : Agree μ σ (mdFport i f s) := by
  refine Agree.step (k := 16777216) ?_ hK hA
  clear hA hK
  unfold mdFport
  repeat' (first | (intro x; first | (refine (fun (hx : Agree 16777216 s x) => ?_) ?_; clear_value x; rotate_left; subst x) | subst x) | lift_lets -underBinder | with_reducible exact Agree.refl _ _ | with_reducible assumption | with_reducible apply @agree_mdFab 16777216 _ (by decide) | with_reducible refine Agree.of_snd (by assumption) ?_ | with_reducible refine Agree.of_fst (by assumption) ?_ | split | dsimp only | (intro t ht; with_reducible assumption) | intro)

theorem agree_fabTrain {μ : Nat} {σ : State} (hK : 16785664 ||| μ = μ) (i : Nat) (s : State) (hA : Agree μ σ s) : Agree μ σ (fabTrain i s) := by
  refine Agree.step (k := 16785664) ?_ hK hA
  clear hA hK
  unfold fabTrain
  repeat' (first | (intro x; first | (refine (fun (hx : Agree 16785664 s x) => ?_) ?_; clear_value x; rotate_left; subst x) | subst x) | lift_lets -underBinder | with_reducible exact Agree.refl _ _ | with_reducible assumption | with_reducible apply @agree_setEvt 16785664 _ (by decide) | with_reducible apply @agree_fabSource 16785664 _ (by decide) | with_reducible apply @agree_mdFab 16785664 _ (by decide) | with_reducible apply @agree_mdFport 16785664 _ (by decide) | with_reducible refine Agree.of_snd (by assumption) ?_ | with_reducible refine Agree.of_fst (by assumption) ?_ | split | dsimp only | (intro t ht; with_reducible assumption) | intro)

theorem agree_fabImage {μ : Nat} {σ : State} (hK : 16785664 ||| μ = μ) (s : State) (hA : Agree μ σ s) : Agree μ σ (fabImage s) := by
  refine Agree.step (k := 16785664) ?_ hK hA
  clear hA hK
  unfold fabImage
  repeat' (first | (intro x; first | (refine (fun (hx : Agree 16785664 s x) => ?_) ?_; clear_value x; rotate_left; subst x) | subst x) | lift_lets -underBinder | with_reducible exact Agree.refl _ _ | with_reducible assumption | with_reducible refine Agree.forN ?_ ?_ | with_reducible apply @agree_addrSource 16785664 _ (by decide) | with_reducible apply @agree_mdFab 16785664 _ (by decide) | with_reducible apply @agree_mdFport 16785664 _ (by decide) | with_reducible apply @agree_fabTrain 16785664 _ (by decide) | with_reducible refine Agree.of_snd (by assumption) ?_ | with_reducible refine Agree.of_fst (by assumption) ?_ | split | dsimp only | (intro t ht; with_reducible assumption) | intro)

theorem agree_acceptGrant {μ : Nat} {σ : State} (hK : 16777216 ||| μ = μ) (g : TGrant) (s : State) (hA : Agree μ σ s) : Agree μ σ (acceptGrant g s) := by
  refine Agree.step (k := 16777216) ?_ hK hA
  clear hA hK
  unfold acceptGrant
  repeat' (first | (intro x; first | (refine (fun (hx : Agree 16777216 s x) => ?_) ?_; clear_value x; rotate_left; subst x) | subst x) | lift_lets -underBinder | with_reducible exact Agree.refl _ _ | with_reducible assumption | with_reducible apply @agree_mdFab 16777216 _ (by decide) | with_reducible refine Agree.of_snd (by assumption) ?_ | with_reducible refine Agree.of_fst (by assumption) ?_ | split | dsimp only | (intro t ht; with_reducible assumption) | intro)

theorem agree_addrDiscover {μ : Nat} {σ : State} (hK : 16777220 ||| μ = μ) (s : State) (hA : Agree μ σ s) : Agree μ σ (addrDiscover s) := by
  refine Agree.step (k := 16777220) ?_ hK hA
  clear hA hK
  unfold addrDiscover
  repeat' (first | (intro x; first | (refine (fun (hx : Agree 16777220 s x) => ?_) ?_; clear_value x; rotate_left; subst x) | subst x) | lift_lets -underBinder | with_reducible exact Agree.refl _ _ | with_reducible assumption | ((conv => (arg 3; arg 27; skip)); with_reducible refine Agree.upd_aon_fab _ _ (by decide) ?_) | with_reducible refine Agree.of_snd (by assumption) ?_ | with_reducible refine Agree.of_fst (by assumption) ?_ | split | dsimp only | (intro t ht; with_reducible assumption) | intro)

theorem agree_fabStart {μ : Nat} {σ : State} (hK : 16785664 ||| μ = μ) (s : State) (hA : Agree μ σ s) : Agree μ σ (fabStart s) := by
  refine Agree.step (k := 16785664) ?_ hK hA
  clear hA hK
  unfold fabStart
  repeat' (first | (intro x; first | (refine (fun (hx : Agree 16785664 s x) => ?_) ?_; clear_value x; rotate_left; subst x) | subst x) | lift_lets -underBinder | with_reducible exact Agree.refl _ _ | with_reducible assumption | with_reducible refine Agree.forN ?_ ?_ | with_reducible apply @agree_fabTrain 16785664 _ (by decide) | with_reducible refine Agree.of_snd (by assumption) ?_ | with_reducible refine Agree.of_fst (by assumption) ?_ | split | dsimp only | (intro t ht; with_reducible assumption) | intro)

theorem agree_fabReset {μ : Nat} {σ : State} (hK : 50340608 ||| μ = μ) (s : State) (hA : Agree μ σ s) : Agree μ σ (fabReset s) := by
  refine Agree.step (k := 50340608) ?_ hK hA
  clear hA hK
  unfold fabReset
  repeat' (first | (intro x; first | (refine (fun (hx : Agree 50340608 s x) => ?_) ?_; clear_value x; rotate_left; subst x) | subst x) | lift_lets -underBinder | with_reducible exact Agree.refl _ _ | with_reducible assumption | ((conv => (arg 3; arg 27; skip)); with_reducible refine Agree.upd_evt_ctrl_fab _ _ _ (by decide) ?_) | with_reducible refine Agree.forN ?_ ?_ | with_reducible apply @agree_mdPair 50340608 _ (by decide) | with_reducible apply @agree_fabSource 50340608 _ (by decide) | with_reducible refine Agree.of_snd (by assumption) ?_ | with_reducible refine Agree.of_fst (by assumption) ?_ | split | dsimp only | (intro t ht; with_reducible assumption) | intro)

theorem agree_fsend {μ : Nat} {σ : State} (hK : 16777216 ||| μ = μ) (i : Nat) (m : FMsg) (s : State) (hA : Agree μ σ s) : Agree μ σ (fsend i m s) := by
  refine Agree.step (k := 16777216) ?_ hK hA
  clear hA hK
  unfold fsend
  repeat' (first | (intro x; first | (refine (fun (hx : Agree 16777216 s x) => ?_) ?_; clear_value x; rotate_left; subst x) | subst x) | lift_lets -underBinder | with_reducible exact Agree.refl _ _ | with_reducible assumption | with_reducible apply @agree_mdFport 16777216 _ (by decide) | with_reducible refine Agree.of_snd (by assumption) ?_ | with_reducible refine Agree.of_fst (by assumption) ?_ | split | dsimp only | (intro t ht; with_reducible assumption) | intro)

theorem agree_unicast {μ : Nat} {σ : State} (hK : 16777216 ||| μ = μ) (dst : Nat) (prio : Nat) (b : FBody) (s : State) (hA : Agree μ σ s) : Agree μ σ (unicast dst prio b s).2 := by
  refine Agree.step (k := 16777216) ?_ hK hA
  clear hA hK
  unfold unicast
  repeat' (first | (intro x; first | (refine (fun (hx : Agree 16777216 s x) => ?_) ?_; clear_value x; rotate_left; subst x) | subst x) | lift_lets -underBinder | with_reducible exact Agree.refl _ _ | with_reducible assumption | with_reducible apply @agree_fsend 16777216 _ (by decide) | with_reducible refine Agree.of_snd (by assumption) ?_ | with_reducible refine Agree.of_fst (by assumption) ?_ | split | dsimp only | (intro t ht; with_reducible assumption) | intro)

theorem agree_coordinate {μ : Nat} {σ : State} (hK : 16777216 ||| μ = μ) (s : State) (hA : Agree μ σ s) : Agree μ σ (coordinate s) := by
  refine Agree.step (k := 16777216) ?_ hK hA
  clear hA hK
  unfold coordinate
  repeat' (first | (intro x; first | (refine (fun (hx : Agree 16777216 s x) => ?_) ?_; clear_value x; rotate_left; subst x) | subst x) | lift_lets -underBinder | with_reducible exact Agree.refl _ _ | with_reducible assumption | with_reducible refine Agree.forL ?_ ?_ | with_reducible apply @agree_mdFab 16777216 _ (by decide) | with_reducible apply @agree_acceptGrant 16777216 _ (by decide) | with_reducible apply @agree_unicast 16777216 _ (by decide) | with_reducible refine Agree.of_snd (by assumption) ?_ | with_reducible refine Agree.of_fst (by assumption) ?_ | split | dsimp only | (intro t ht; with_reducible assumption) | intro)

theorem agree_fabBad {μ : Nat} {σ : State} (hK : 16777216 ||| μ = μ) (i : Nat) (h : Hdr) (s : State) (hA : Agree μ σ s) : Agree μ σ (fabBad i h s) := by
  refine Agree.step (k := 16777216) ?_ hK hA
  clear hA hK
  unfold fabBad
  repeat' (first | (intro x; first | (refine (fun (hx : Agree 16777216 s x) => ?_) ?_; clear_value x; rotate_left; subst x) | subst x) | lift_lets -underBinder | with_reducible exact Agree.refl _ _ | with_reducible assumption | with_reducible apply @agree_fsend 16777216 _ (by decide) | with_reducible refine Agree.of_snd (by assumption) ?_ | with_reducible refine Agree.of_fst (by assumption) ?_ | split | dsimp only | (intro t ht; with_reducible assumption) | intro)

theorem agree_fabAck {μ : Nat} {σ : State} (hK : 16777216 ||| μ = μ) (i : Nat) (h : Hdr) (s : State) (hA : Agree μ σ s) : Agree μ σ (fabAck i h s) := by
  refine Agree.step (k := 16777216) ?_ hK hA
  clear hA hK
  unfold fabAck
  repeat' (first | (intro x; first | (refine (fun (hx : Agree 16777216 s x) => ?_) ?_; clear_value x; rotate_left; subst x) | subst x) | lift_lets -underBinder | with_reducible exact Agree.refl _ _ | with_reducible assumption | with_reducible apply @agree_mdFport 16777216 _ (by decide) | with_reducible apply @agree_fabBad 16777216 _ (by decide) | with_reducible refine Agree.of_snd (by assumption) ?_ | with_reducible refine Agree.of_fst (by assumption) ?_ | split | dsimp only | (intro t ht; with_reducible assumption) | intro)

theorem agree_fabDown {μ : Nat} {σ : State} (hK : 16785664 ||| μ = μ) (i : Nat) (s : State) (hA : Agree μ σ s) : Agree μ σ (fabDown i s) := by
  refine Agree.step (k := 16785664) ?_ hK hA
  clear hA hK
  unfold fabDown
  repeat' (first | (intro x; first | (refine (fun (hx : Agree 16785664 s x) => ?_) ?_; clear_value x; rotate_left; subst x) | subst x) | lift_lets -underBinder | with_reducible exact Agree.refl _ _ | with_reducible assumption | with_reducible apply @agree_fabTrain 16785664 _ (by decide) | with_reducible refine Agree.of_snd (by assumption) ?_ | with_reducible refine Agree.of_fst (by assumption) ?_ | split | dsimp only | (intro t ht; with_reducible assumption) | intro)

theorem agree_fabEnable {μ : Nat} {σ : State} (hK : 16785664 ||| μ = μ) (old : Word) (s : State) (hA : Agree μ σ s) : Agree μ σ (fabEnable old s) := by
  refine Agree.step (k := 16785664) ?_ hK hA
  clear hA hK
  unfold fabEnable
  repeat' (first | (intro x; first | (refine (fun (hx : Agree 16785664 s x) => ?_) ?_; clear_value x; rotate_left; subst x) | subst x) | lift_lets -underBinder | with_reducible exact Agree.refl _ _ | with_reducible assumption | with_reducible refine Agree.forN ?_ ?_ | with_reducible apply @agree_mdFport 16785664 _ (by decide) | with_reducible apply @agree_fabTrain 16785664 _ (by decide) | with_reducible refine Agree.of_snd (by assumption) ?_ | with_reducible refine Agree.of_fst (by assumption) ?_ | split | dsimp only | (intro t ht; with_reducible assumption) | intro)

theorem agree_freceive {μ : Nat} {σ : State} (hK : 16777216 ||| μ = μ) (i : Nat) (h : Hdr) (f : State → State) (s : State) (hf : ∀ t, Agree μ σ t → Agree μ σ (f t)) (hA : Agree μ σ s) : Agree μ σ (freceive i h f s) := by
  unfold freceive
  repeat' (first | (intro x; first | (refine (fun (hx : Agree μ σ x) => ?_) ?_; clear_value x; rotate_left; subst x) | subst x) | lift_lets -underBinder | with_reducible exact Agree.refl _ _ | with_reducible assumption | with_reducible apply hf | with_reducible apply @agree_mdFport μ _ (Agree.sub_of hK (by decide)) | with_reducible apply @agree_fabBad μ _ (Agree.sub_of hK (by decide)) | with_reducible refine Agree.of_snd (by assumption) ?_ | with_reducible refine Agree.of_fst (by assumption) ?_ | split | dsimp only | (intro t ht; with_reducible assumption) | intro)

theorem agree_rqEnd {μ : Nat} {σ : State} (hK : 16777472 ||| μ = μ) (res : Nat) (words : Nat) (buf : List Word) (s : State) (hA : Agree μ σ s) : Agree μ σ (rqEnd res words buf s) := by
  refine Agree.step (k := 16777472) ?_ hK hA
  clear hA hK
  unfold rqEnd
  repeat' (first | (intro x; first | (refine (fun (hx : Agree 16777472 s x) => ?_) ?_; clear_value x; rotate_left; subst x) | subst x) | lift_lets -underBinder | with_reducible exact Agree.refl _ _ | with_reducible assumption | with_reducible apply @agree_setEvt 16777472 _ (by decide) | with_reducible apply @agree_mdFab 16777472 _ (by decide) | with_reducible refine Agree.of_snd (by assumption) ?_ | with_reducible refine Agree.of_fst (by assumption) ?_ | split | dsimp only | (intro t ht; with_reducible assumption) | intro)

theorem agree_fabErrorRx {μ : Nat} {σ : State} (hK : 16777472 ||| μ = μ) (i : Nat) (h : Hdr) (src : Nat) (code : Nat) (s : State) (hA : Agree μ σ s) : Agree μ σ (fabErrorRx i h src code s) := by
  refine Agree.step (k := 16777472) ?_ hK hA
  clear hA hK
  unfold fabErrorRx
  repeat' (first | (intro x; first | (refine (fun (hx : Agree 16777472 s x) => ?_) ?_; clear_value x; rotate_left; subst x) | subst x) | lift_lets -underBinder | with_reducible exact Agree.refl _ _ | with_reducible assumption | with_reducible apply @agree_freceive 16777472 _ (by decide) | with_reducible apply @agree_rqEnd 16777472 _ (by decide) | with_reducible refine Agree.of_snd (by assumption) ?_ | with_reducible refine Agree.of_fst (by assumption) ?_ | split | dsimp only | (intro t ht; with_reducible assumption) | intro)

theorem agree_fabForward {μ : Nat} {σ : State} (hK : 16777216 ||| μ = μ) (i : Nat) (h : Hdr) (m : FMsg) (s : State) (hA : Agree μ σ s) : Agree μ σ (fabForward i h m s) := by
  refine Agree.step (k := 16777216) ?_ hK hA
  clear hA hK
  unfold fabForward
  repeat' (first | (intro x; first | (refine (fun (hx : Agree 16777216 s x) => ?_) ?_; clear_value x; rotate_left; subst x) | subst x) | lift_lets -underBinder | with_reducible exact Agree.refl _ _ | with_reducible assumption | with_reducible apply @agree_fsend 16777216 _ (by decide) | with_reducible apply @agree_freceive 16777216 _ (by decide) | with_reducible refine Agree.of_snd (by assumption) ?_ | with_reducible refine Agree.of_fst (by assumption) ?_ | split | dsimp only | (intro t ht; with_reducible assumption) | intro)

theorem agree_fabNak {μ : Nat} {σ : State} (hK : 16777216 ||| μ = μ) (i : Nat) (w : NakWhy) (s : State) (hA : Agree μ σ s) : Agree μ σ (fabNak i w s) := by
  refine Agree.step (k := 16777216) ?_ hK hA
  clear hA hK
  unfold fabNak
  repeat' (first | (intro x; first | (refine (fun (hx : Agree 16777216 s x) => ?_) ?_; clear_value x; rotate_left; subst x) | subst x) | lift_lets -underBinder | with_reducible exact Agree.refl _ _ | with_reducible assumption | with_reducible apply @agree_mdFport 16777216 _ (by decide) | with_reducible apply @agree_fabBad 16777216 _ (by decide) | with_reducible apply @agree_fabAck 16777216 _ (by decide) | with_reducible refine Agree.of_snd (by assumption) ?_ | with_reducible refine Agree.of_fst (by assumption) ?_ | split | dsimp only | (intro t ht; with_reducible assumption) | intro)

theorem agree_fabReplay {μ : Nat} {σ : State} (hK : 16777216 ||| μ = μ) (i : Nat) (s : State) (hA : Agree μ σ s) : Agree μ σ (fabReplay i s) := by
  refine Agree.step (k := 16777216) ?_ hK hA
  clear hA hK
  unfold fabReplay
  repeat' (first | (intro x; first | (refine (fun (hx : Agree 16777216 s x) => ?_) ?_; clear_value x; rotate_left; subst x) | subst x) | lift_lets -underBinder | with_reducible exact Agree.refl _ _ | with_reducible assumption | with_reducible apply @agree_mdFport 16777216 _ (by decide) | with_reducible refine Agree.of_snd (by assumption) ?_ | with_reducible refine Agree.of_fst (by assumption) ?_ | split | dsimp only | (intro t ht; with_reducible assumption) | intro)

theorem agree_fabRetry {μ : Nat} {σ : State} (hK : 16785664 ||| μ = μ) (i : Nat) (s : State) (hA : Agree μ σ s) : Agree μ σ (fabRetry i s) := by
  refine Agree.step (k := 16785664) ?_ hK hA
  clear hA hK
  unfold fabRetry
  repeat' (first | (intro x; first | (refine (fun (hx : Agree 16785664 s x) => ?_) ?_; clear_value x; rotate_left; subst x) | subst x) | lift_lets -underBinder | with_reducible exact Agree.refl _ _ | with_reducible assumption | with_reducible apply @agree_fabTrain 16785664 _ (by decide) | with_reducible refine Agree.of_snd (by assumption) ?_ | with_reducible refine Agree.of_fst (by assumption) ?_ | split | dsimp only | (intro t ht; with_reducible assumption) | intro)

theorem agree_fabTrainFail {μ : Nat} {σ : State} (hK : 16785664 ||| μ = μ) (i : Nat) (s : State) (hA : Agree μ σ s) : Agree μ σ (fabTrainFail i s) := by
  refine Agree.step (k := 16785664) ?_ hK hA
  clear hA hK
  unfold fabTrainFail
  repeat' (first | (intro x; first | (refine (fun (hx : Agree 16785664 s x) => ?_) ?_; clear_value x; rotate_left; subst x) | subst x) | lift_lets -underBinder | with_reducible exact Agree.refl _ _ | with_reducible assumption | with_reducible apply @agree_fabSource 16785664 _ (by decide) | with_reducible apply @agree_mdFport 16785664 _ (by decide) | with_reducible apply @agree_fabTrain 16785664 _ (by decide) | with_reducible refine Agree.of_snd (by assumption) ?_ | with_reducible refine Agree.of_fst (by assumption) ?_ | split | dsimp only | (intro t ht; with_reducible assumption) | intro)

theorem agree_fabTrained {μ : Nat} {σ : State} (hK : 16777216 ||| μ = μ) (i : Nat) (s : State) (hA : Agree μ σ s) : Agree μ σ (fabTrained i s) := by
  refine Agree.step (k := 16777216) ?_ hK hA
  clear hA hK
  unfold fabTrained
  repeat' (first | (intro x; first | (refine (fun (hx : Agree 16777216 s x) => ?_) ?_; clear_value x; rotate_left; subst x) | subst x) | lift_lets -underBinder | with_reducible exact Agree.refl _ _ | with_reducible assumption | with_reducible apply @agree_mdFport 16777216 _ (by decide) | with_reducible refine Agree.of_snd (by assumption) ?_ | with_reducible refine Agree.of_fst (by assumption) ?_ | split | dsimp only | (intro t ht; with_reducible assumption) | intro)

theorem agree_rqWrite {μ : Nat} {σ : State} (hK : 16777472 ||| μ = μ) (w : Word) (s : State) (hA : Agree μ σ s) : Agree μ σ (rqWrite w s) := by
  refine Agree.step (k := 16777472) ?_ hK hA
  clear hA hK
  unfold rqWrite
  repeat' (first | (intro x; first | (refine (fun (hx : Agree 16777472 s x) => ?_) ?_; clear_value x; rotate_left; subst x) | subst x) | lift_lets -underBinder | with_reducible exact Agree.refl _ _ | with_reducible assumption | with_reducible apply @agree_mdFab 16777472 _ (by decide) | with_reducible apply @agree_unicast 16777472 _ (by decide) | with_reducible apply @agree_rqEnd 16777472 _ (by decide) | with_reducible refine Agree.of_snd (by assumption) ?_ | with_reducible refine Agree.of_fst (by assumption) ?_ | split | dsimp only | (intro t ht; with_reducible assumption) | intro)

theorem agree_flood {μ : Nat} {σ : State} (hK : 16777216 ||| μ = μ) (m : Lsa) (but : Option Nat) (s : State) (hA : Agree μ σ s) : Agree μ σ (flood m but s) := by
  refine Agree.step (k := 16777216) ?_ hK hA
  clear hA hK
  unfold flood
  repeat' (first | (intro x; first | (refine (fun (hx : Agree 16777216 s x) => ?_) ?_; clear_value x; rotate_left; subst x) | subst x) | lift_lets -underBinder | with_reducible exact Agree.refl _ _ | with_reducible assumption | with_reducible refine Agree.forL ?_ ?_ | with_reducible apply @agree_fsend 16777216 _ (by decide) | with_reducible refine Agree.of_snd (by assumption) ?_ | with_reducible refine Agree.of_fst (by assumption) ?_ | split | dsimp only | (intro t ht; with_reducible assumption) | intro)

theorem agree_setShare {μ : Nat} {σ : State} (hK : 16908544 ||| μ = μ) (s : State) (hA : Agree μ σ s) : Agree μ σ (setShare s) := by
  refine Agree.step (k := 16908544) ?_ hK hA
  clear hA hK
  unfold setShare
  repeat' (first | (intro x; first | (refine (fun (hx : Agree 16908544 s x) => ?_) ?_; clear_value x; rotate_left; subst x) | subst x) | lift_lets -underBinder | with_reducible exact Agree.refl _ _ | with_reducible assumption | ((conv => (arg 3; arg 27; skip)); with_reducible refine Agree.upd_nrg_fab _ _ (by decide) ?_) | with_reducible apply @agree_setEvt 16908544 _ (by decide) | with_reducible refine Agree.of_snd (by assumption) ?_ | with_reducible refine Agree.of_fst (by assumption) ?_ | split | dsimp only | (intro t ht; with_reducible assumption) | intro)

theorem agree_grantDrop {μ : Nat} {σ : State} (hK : 16908544 ||| μ = μ) (s : State) (hA : Agree μ σ s) : Agree μ σ (grantDrop s) := by
  refine Agree.step (k := 16908544) ?_ hK hA
  clear hA hK
  unfold grantDrop
  repeat' (first | (intro x; first | (refine (fun (hx : Agree 16908544 s x) => ?_) ?_; clear_value x; rotate_left; subst x) | subst x) | lift_lets -underBinder | with_reducible exact Agree.refl _ _ | with_reducible assumption | with_reducible apply @agree_mdFab 16908544 _ (by decide) | with_reducible apply @agree_setShare 16908544 _ (by decide) | with_reducible refine Agree.of_snd (by assumption) ?_ | with_reducible refine Agree.of_fst (by assumption) ?_ | split | dsimp only | (intro t ht; with_reducible assumption) | intro)

theorem agree_grantExpiry {μ : Nat} {σ : State} (hK : 16908544 ||| μ = μ) (s : State) (hA : Agree μ σ s) : Agree μ σ (grantExpiry s) := by
  refine Agree.step (k := 16908544) ?_ hK hA
  clear hA hK
  unfold grantExpiry
  repeat' (first | (intro x; first | (refine (fun (hx : Agree 16908544 s x) => ?_) ?_; clear_value x; rotate_left; subst x) | subst x) | lift_lets -underBinder | with_reducible exact Agree.refl _ _ | with_reducible assumption | with_reducible apply @agree_grantDrop 16908544 _ (by decide) | with_reducible refine Agree.of_snd (by assumption) ?_ | with_reducible refine Agree.of_fst (by assumption) ?_ | split | dsimp only | (intro t ht; with_reducible assumption) | intro)

theorem agree_grantRx {μ : Nat} {σ : State} (hK : 16777216 ||| μ = μ) (i : Nat) (h : Hdr) (g : TGrant) (s : State) (hA : Agree μ σ s) : Agree μ σ (grantRx i h g s) := by
  refine Agree.step (k := 16777216) ?_ hK hA
  clear hA hK
  unfold grantRx
  repeat' (first | (intro x; first | (refine (fun (hx : Agree 16777216 s x) => ?_) ?_; clear_value x; rotate_left; subst x) | subst x) | lift_lets -underBinder | with_reducible exact Agree.refl _ _ | with_reducible assumption | with_reducible apply @agree_acceptGrant 16777216 _ (by decide) | with_reducible apply @agree_freceive 16777216 _ (by decide) | with_reducible refine Agree.of_snd (by assumption) ?_ | with_reducible refine Agree.of_fst (by assumption) ?_ | split | dsimp only | (intro t ht; with_reducible assumption) | intro)

theorem agree_helloRx {μ : Nat} {σ : State} (hK : 16777472 ||| μ = μ) (i : Nat) (h : Hdr) (addr : Nat) (cost : Nat) (seen : Bool) (s : State) (hA : Agree μ σ s) : Agree μ σ (helloRx i h addr cost seen s) := by
  refine Agree.step (k := 16777472) ?_ hK hA
  clear hA hK
  unfold helloRx
  repeat' (first | (intro x; first | (refine (fun (hx : Agree 16777472 s x) => ?_) ?_; clear_value x; rotate_left; subst x) | subst x) | lift_lets -underBinder | with_reducible exact Agree.refl _ _ | with_reducible assumption | with_reducible apply @agree_setEvt 16777472 _ (by decide) | with_reducible apply @agree_mdFab 16777472 _ (by decide) | with_reducible apply @agree_mdFport 16777472 _ (by decide) | with_reducible apply @agree_freceive 16777472 _ (by decide) | with_reducible refine Agree.of_snd (by assumption) ?_ | with_reducible refine Agree.of_fst (by assumption) ?_ | split | dsimp only | (intro t ht; with_reducible assumption) | intro)

theorem agree_helloSend {μ : Nat} {σ : State} (hK : 16777216 ||| μ = μ) (s : State) (hA : Agree μ σ s) : Agree μ σ (helloSend s) := by
  refine Agree.step (k := 16777216) ?_ hK hA
  clear hA hK
  unfold helloSend
  repeat' (first | (intro x; first | (refine (fun (hx : Agree 16777216 s x) => ?_) ?_; clear_value x; rotate_left; subst x) | subst x) | lift_lets -underBinder | with_reducible exact Agree.refl _ _ | with_reducible assumption | with_reducible refine Agree.forN ?_ ?_ | with_reducible apply @agree_fsend 16777216 _ (by decide) | with_reducible refine Agree.of_snd (by assumption) ?_ | with_reducible refine Agree.of_fst (by assumption) ?_ | split | dsimp only | (intro t ht; with_reducible assumption) | intro)

theorem agree_setSync {μ : Nat} {σ : State} (hK : 16777472 ||| μ = μ) (sy : Bool) (di : Bool) (s : State) (hA : Agree μ σ s) : Agree μ σ (setSync sy di s) := by
  refine Agree.step (k := 16777472) ?_ hK hA
  clear hA hK
  unfold setSync
  repeat' (first | (intro x; first | (refine (fun (hx : Agree 16777472 s x) => ?_) ?_; clear_value x; rotate_left; subst x) | subst x) | lift_lets -underBinder | with_reducible exact Agree.refl _ _ | with_reducible assumption | with_reducible apply @agree_setEvt 16777472 _ (by decide) | with_reducible apply @agree_mdFab 16777472 _ (by decide) | with_reducible refine Agree.of_snd (by assumption) ?_ | with_reducible refine Agree.of_fst (by assumption) ?_ | split | dsimp only | (intro t ht; with_reducible assumption) | intro)

theorem agree_judgeRoot {μ : Nat} {σ : State} (hK : 16777472 ||| μ = μ) (s : State) (hA : Agree μ σ s) : Agree μ σ (judgeRoot s) := by
  refine Agree.step (k := 16777472) ?_ hK hA
  clear hA hK
  unfold judgeRoot
  repeat' (first | (intro x; first | (refine (fun (hx : Agree 16777472 s x) => ?_) ?_; clear_value x; rotate_left; subst x) | subst x) | lift_lets -underBinder | with_reducible exact Agree.refl _ _ | with_reducible assumption | with_reducible apply @agree_mdFab 16777472 _ (by decide) | with_reducible apply @agree_setSync 16777472 _ (by decide) | with_reducible refine Agree.of_snd (by assumption) ?_ | with_reducible refine Agree.of_fst (by assumption) ?_ | split | dsimp only | (intro t ht; with_reducible assumption) | intro)

theorem agree_judgeSync {μ : Nat} {σ : State} (hK : 16777472 ||| μ = μ) (o : Int) (dly : Int) (hops : Nat) (psync : Bool) (pdisc : Bool) (s : State) (hA : Agree μ σ s) : Agree μ σ (judgeSync o dly hops psync pdisc s) := by
  refine Agree.step (k := 16777472) ?_ hK hA
  clear hA hK
  unfold judgeSync
  repeat' (first | (intro x; first | (refine (fun (hx : Agree 16777472 s x) => ?_) ?_; clear_value x; rotate_left; subst x) | subst x) | lift_lets -underBinder | with_reducible exact Agree.refl _ _ | with_reducible assumption | with_reducible apply @agree_mdFab 16777472 _ (by decide) | with_reducible apply @agree_setSync 16777472 _ (by decide) | with_reducible refine Agree.of_snd (by assumption) ?_ | with_reducible refine Agree.of_fst (by assumption) ?_ | split | dsimp only | (intro t ht; with_reducible assumption) | intro)

theorem agree_latchReport {μ : Nat} {σ : State} (hK : 16777216 ||| μ = μ) (s : State) (hA : Agree μ σ s) : Agree μ σ (latchReport s) := by
  refine Agree.step (k := 16777216) ?_ hK hA
  clear hA hK
  unfold latchReport
  repeat' (first | (intro x; first | (refine (fun (hx : Agree 16777216 s x) => ?_) ?_; clear_value x; rotate_left; subst x) | subst x) | lift_lets -underBinder | with_reducible exact Agree.refl _ _ | with_reducible assumption | with_reducible apply @agree_mdFab 16777216 _ (by decide) | with_reducible refine Agree.of_snd (by assumption) ?_ | with_reducible refine Agree.of_fst (by assumption) ?_ | split | dsimp only | (intro t ht; with_reducible assumption) | intro)

theorem agree_serve {μ : Nat} {σ : State} (hK : 16777216 ||| μ = μ) (s : State) (hA : Agree μ σ s) : Agree μ σ (serve s).2 := by
  refine Agree.step (k := 16777216) ?_ hK hA
  clear hA hK
  unfold serve
  repeat' (first | (intro x; first | (refine (fun (hx : Agree 16777216 s x) => ?_) ?_; clear_value x; rotate_left; subst x) | subst x) | lift_lets -underBinder | with_reducible exact Agree.refl _ _ | with_reducible assumption | with_reducible apply @agree_mdFab 16777216 _ (by decide) | with_reducible refine Agree.of_snd (by assumption) ?_ | with_reducible refine Agree.of_fst (by assumption) ?_ | split | dsimp only | (intro t ht; with_reducible assumption) | intro)

theorem agree_lreadRspRx {μ : Nat} {σ : State} (hK : 16777472 ||| μ = μ) (i : Nat) (h : Hdr) (src : Nat) (status : Nat) (words : List Word) (s : State) (hA : Agree μ σ s) : Agree μ σ (lreadRspRx i h src status words s) := by
  refine Agree.step (k := 16777472) ?_ hK hA
  clear hA hK
  unfold lreadRspRx
  repeat' (first | (intro x; first | (refine (fun (hx : Agree 16777472 s x) => ?_) ?_; clear_value x; rotate_left; subst x) | subst x) | lift_lets -underBinder | with_reducible exact Agree.refl _ _ | with_reducible assumption | with_reducible apply @agree_freceive 16777472 _ (by decide) | with_reducible apply @agree_rqEnd 16777472 _ (by decide) | with_reducible refine Agree.of_snd (by assumption) ?_ | with_reducible refine Agree.of_fst (by assumption) ?_ | split | dsimp only | (intro t ht; with_reducible assumption) | intro)

theorem agree_lsaAge {μ : Nat} {σ : State} (hK : 16777216 ||| μ = μ) (s : State) (hA : Agree μ σ s) : Agree μ σ (lsaAge s) := by
  refine Agree.step (k := 16777216) ?_ hK hA
  clear hA hK
  unfold lsaAge
  repeat' (first | (intro x; first | (refine (fun (hx : Agree 16777216 s x) => ?_) ?_; clear_value x; rotate_left; subst x) | subst x) | lift_lets -underBinder | with_reducible exact Agree.refl _ _ | with_reducible assumption | with_reducible apply @agree_mdFab 16777216 _ (by decide) | with_reducible refine Agree.of_snd (by assumption) ?_ | with_reducible refine Agree.of_fst (by assumption) ?_ | split | dsimp only | (intro t ht; with_reducible assumption) | intro)

theorem agree_lsaExpiry {μ : Nat} {σ : State} (hK : 16785408 ||| μ = μ) (a : Nat) (s : State) (hA : Agree μ σ s) : Agree μ σ (lsaExpiry a s) := by
  refine Agree.step (k := 16785408) ?_ hK hA
  clear hA hK
  unfold lsaExpiry
  repeat' (first | (intro x; first | (refine (fun (hx : Agree 16785408 s x) => ?_) ?_; clear_value x; rotate_left; subst x) | subst x) | lift_lets -underBinder | with_reducible exact Agree.refl _ _ | with_reducible assumption | with_reducible apply @agree_addrSource 16785408 _ (by decide) | with_reducible apply @agree_mdFab 16785408 _ (by decide) | with_reducible refine Agree.of_snd (by assumption) ?_ | with_reducible refine Agree.of_fst (by assumption) ?_ | split | dsimp only | (intro t ht; with_reducible assumption) | intro)

theorem agree_storeLsa {μ : Nat} {σ : State} (hK : 16777216 ||| μ = μ) (m : Lsa) (s : State) (hA : Agree μ σ s) : Agree μ σ (storeLsa m s) := by
  refine Agree.step (k := 16777216) ?_ hK hA
  clear hA hK
  unfold storeLsa
  repeat' (first | (intro x; first | (refine (fun (hx : Agree 16777216 s x) => ?_) ?_; clear_value x; rotate_left; subst x) | subst x) | lift_lets -underBinder | with_reducible exact Agree.refl _ _ | with_reducible assumption | with_reducible apply @agree_mdFab 16777216 _ (by decide) | with_reducible refine Agree.of_snd (by assumption) ?_ | with_reducible refine Agree.of_fst (by assumption) ?_ | split | dsimp only | (intro t ht; with_reducible assumption) | intro)

theorem agree_lsaOriginate {μ : Nat} {σ : State} (hK : 16777216 ||| μ = μ) (s : State) (hA : Agree μ σ s) : Agree μ σ (lsaOriginate s) := by
  refine Agree.step (k := 16777216) ?_ hK hA
  clear hA hK
  unfold lsaOriginate
  repeat' (first | (intro x; first | (refine (fun (hx : Agree 16777216 s x) => ?_) ?_; clear_value x; rotate_left; subst x) | subst x) | lift_lets -underBinder | with_reducible exact Agree.refl _ _ | with_reducible assumption | with_reducible apply @agree_mdFab 16777216 _ (by decide) | with_reducible apply @agree_flood 16777216 _ (by decide) | with_reducible apply @agree_storeLsa 16777216 _ (by decide) | with_reducible refine Agree.of_snd (by assumption) ?_ | with_reducible refine Agree.of_fst (by assumption) ?_ | split | dsimp only | (intro t ht; with_reducible assumption) | intro)

theorem agree_ownConflict {μ : Nat} {σ : State} (hK : 16777476 ||| μ = μ) (m : Lsa) (s : State) (hA : Agree μ σ s) : Agree μ σ (ownConflict m s) := by
  refine Agree.step (k := 16777476) ?_ hK hA
  clear hA hK
  unfold ownConflict
  repeat' (first | (intro x; first | (refine (fun (hx : Agree 16777476 s x) => ?_) ?_; clear_value x; rotate_left; subst x) | subst x) | lift_lets -underBinder | with_reducible exact Agree.refl _ _ | with_reducible assumption | ((conv => (arg 3; arg 27; skip)); with_reducible refine Agree.upd_aon _ (by decide) ?_) | with_reducible apply @agree_setEvt 16777476 _ (by decide) | with_reducible apply @agree_mdFab 16777476 _ (by decide) | with_reducible apply @agree_flood 16777476 _ (by decide) | with_reducible apply @agree_storeLsa 16777476 _ (by decide) | with_reducible refine Agree.of_snd (by assumption) ?_ | with_reducible refine Agree.of_fst (by assumption) ?_ | split | dsimp only | (intro t ht; with_reducible assumption) | intro)

theorem agree_lsaRx {μ : Nat} {σ : State} (hK : 16785668 ||| μ = μ) (i : Nat) (h : Hdr) (m : Lsa) (s : State) (hA : Agree μ σ s) : Agree μ σ (lsaRx i h m s) := by
  refine Agree.step (k := 16785668) ?_ hK hA
  clear hA hK
  unfold lsaRx
  repeat' (first | (intro x; first | (refine (fun (hx : Agree 16785668 s x) => ?_) ?_; clear_value x; rotate_left; subst x) | subst x) | lift_lets -underBinder | with_reducible exact Agree.refl _ _ | with_reducible assumption | with_reducible apply @agree_addrSource 16785668 _ (by decide) | with_reducible apply @agree_mdFab 16785668 _ (by decide) | with_reducible apply @agree_freceive 16785668 _ (by decide) | with_reducible apply @agree_flood 16785668 _ (by decide) | with_reducible apply @agree_storeLsa 16785668 _ (by decide) | with_reducible apply @agree_ownConflict 16785668 _ (by decide) | with_reducible refine Agree.of_snd (by assumption) ?_ | with_reducible refine Agree.of_fst (by assumption) ?_ | split | dsimp only | (intro t ht; with_reducible assumption) | intro)

theorem agree_mdPl {μ : Nat} {σ : State} (hK : 16777216 ||| μ = μ) (f : PLink → PLink) (s : State) (hA : Agree μ σ s) : Agree μ σ (mdPl f s) := by
  refine Agree.step (k := 16777216) ?_ hK hA
  clear hA hK
  unfold mdPl
  repeat' (first | (intro x; first | (refine (fun (hx : Agree 16777216 s x) => ?_) ?_; clear_value x; rotate_left; subst x) | subst x) | lift_lets -underBinder | with_reducible exact Agree.refl _ _ | with_reducible assumption | with_reducible apply @agree_mdFab 16777216 _ (by decide) | with_reducible refine Agree.of_snd (by assumption) ?_ | with_reducible refine Agree.of_fst (by assumption) ?_ | split | dsimp only | (intro t ht; with_reducible assumption) | intro)

theorem agree_plDown {μ : Nat} {σ : State} (hK : 50331648 ||| μ = μ) (failed : Bool) (s : State) (hA : Agree μ σ s) : Agree μ σ (plDown failed s) := by
  refine Agree.step (k := 50331648) ?_ hK hA
  clear hA hK
  unfold plDown
  repeat' (first | (intro x; first | (refine (fun (hx : Agree 50331648 s x) => ?_) ?_; clear_value x; rotate_left; subst x) | subst x) | lift_lets -underBinder | with_reducible exact Agree.refl _ _ | with_reducible assumption | with_reducible apply @agree_mdPair 50331648 _ (by decide) | with_reducible apply @agree_mdFab 50331648 _ (by decide) | with_reducible refine Agree.of_snd (by assumption) ?_ | with_reducible refine Agree.of_fst (by assumption) ?_ | split | dsimp only | (intro t ht; with_reducible assumption) | intro)

theorem agree_plLock {μ : Nat} {σ : State} (hK : 16777216 ||| μ = μ) (lanes : Nat) (s : State) (hA : Agree μ σ s) : Agree μ σ (plLock lanes s) := by
  refine Agree.step (k := 16777216) ?_ hK hA
  clear hA hK
  unfold plLock
  repeat' (first | (intro x; first | (refine (fun (hx : Agree 16777216 s x) => ?_) ?_; clear_value x; rotate_left; subst x) | subst x) | lift_lets -underBinder | with_reducible exact Agree.refl _ _ | with_reducible assumption | with_reducible apply @agree_mdPl 16777216 _ (by decide) | with_reducible refine Agree.of_snd (by assumption) ?_ | with_reducible refine Agree.of_fst (by assumption) ?_ | split | dsimp only | (intro t ht; with_reducible assumption) | intro)

theorem agree_plLost {μ : Nat} {σ : State} (hK : 50331648 ||| μ = μ) (lane : Nat) (s : State) (hA : Agree μ σ s) : Agree μ σ (plLost lane s) := by
  refine Agree.step (k := 50331648) ?_ hK hA
  clear hA hK
  unfold plLost
  repeat' (first | (intro x; first | (refine (fun (hx : Agree 50331648 s x) => ?_) ?_; clear_value x; rotate_left; subst x) | subst x) | lift_lets -underBinder | with_reducible exact Agree.refl _ _ | with_reducible assumption | with_reducible apply @agree_plRecover 50331648 _ (by decide) | with_reducible refine Agree.of_snd (by assumption) ?_ | with_reducible refine Agree.of_fst (by assumption) ?_ | split | dsimp only | (intro t ht; with_reducible assumption) | intro)

theorem agree_plQuiet {μ : Nat} {σ : State} (hK : 50331648 ||| μ = μ) (s : State) (hA : Agree μ σ s) : Agree μ σ (plQuiet s) := by
  refine Agree.step (k := 50331648) ?_ hK hA
  clear hA hK
  unfold plQuiet
  repeat' (first | (intro x; first | (refine (fun (hx : Agree 50331648 s x) => ?_) ?_; clear_value x; rotate_left; subst x) | subst x) | lift_lets -underBinder | with_reducible exact Agree.refl _ _ | with_reducible assumption | with_reducible apply @agree_plDown 50331648 _ (by decide) | with_reducible refine Agree.of_snd (by assumption) ?_ | with_reducible refine Agree.of_fst (by assumption) ?_ | split | dsimp only | (intro t ht; with_reducible assumption) | intro)

theorem agree_plRetry {μ : Nat} {σ : State} (hK : 16777216 ||| μ = μ) (s : State) (hA : Agree μ σ s) : Agree μ σ (plRetry s) := by
  refine Agree.step (k := 16777216) ?_ hK hA
  clear hA hK
  unfold plRetry
  repeat' (first | (intro x; first | (refine (fun (hx : Agree 16777216 s x) => ?_) ?_; clear_value x; rotate_left; subst x) | subst x) | lift_lets -underBinder | with_reducible exact Agree.refl _ _ | with_reducible assumption | with_reducible apply @agree_mdPl 16777216 _ (by decide) | with_reducible refine Agree.of_snd (by assumption) ?_ | with_reducible refine Agree.of_fst (by assumption) ?_ | split | dsimp only | (intro t ht; with_reducible assumption) | intro)

theorem agree_plSignal {μ : Nat} {σ : State} (hK : 16777216 ||| μ = μ) (s : State) (hA : Agree μ σ s) : Agree μ σ (plSignal s) := by
  refine Agree.step (k := 16777216) ?_ hK hA
  clear hA hK
  unfold plSignal
  repeat' (first | (intro x; first | (refine (fun (hx : Agree 16777216 s x) => ?_) ?_; clear_value x; rotate_left; subst x) | subst x) | lift_lets -underBinder | with_reducible exact Agree.refl _ _ | with_reducible assumption | with_reducible apply @agree_mdPl 16777216 _ (by decide) | with_reducible refine Agree.of_snd (by assumption) ?_ | with_reducible refine Agree.of_fst (by assumption) ?_ | split | dsimp only | (intro t ht; with_reducible assumption) | intro)

theorem agree_plTimeout {μ : Nat} {σ : State} (hK : 50331648 ||| μ = μ) (s : State) (hA : Agree μ σ s) : Agree μ σ (plTimeout s) := by
  refine Agree.step (k := 50331648) ?_ hK hA
  clear hA hK
  unfold plTimeout
  repeat' (first | (intro x; first | (refine (fun (hx : Agree 50331648 s x) => ?_) ?_; clear_value x; rotate_left; subst x) | subst x) | lift_lets -underBinder | with_reducible exact Agree.refl _ _ | with_reducible assumption | with_reducible apply @agree_mdPl 50331648 _ (by decide) | with_reducible apply @agree_plDown 50331648 _ (by decide) | with_reducible refine Agree.of_snd (by assumption) ?_ | with_reducible refine Agree.of_fst (by assumption) ?_ | split | dsimp only | (intro t ht; with_reducible assumption) | intro)

theorem agree_plTrain1 {μ : Nat} {σ : State} (hK : 16777216 ||| μ = μ) (lane : Nat) (laneNo : Nat) (coef : Nat) (sq : Nat) (s : State) (hA : Agree μ σ s) : Agree μ σ (plTrain1 lane laneNo coef sq s) := by
  refine Agree.step (k := 16777216) ?_ hK hA
  clear hA hK
  unfold plTrain1
  repeat' (first | (intro x; first | (refine (fun (hx : Agree 16777216 s x) => ?_) ?_; clear_value x; rotate_left; subst x) | subst x) | lift_lets -underBinder | with_reducible exact Agree.refl _ _ | with_reducible assumption | with_reducible apply @agree_mdPl 16777216 _ (by decide) | with_reducible refine Agree.of_snd (by assumption) ?_ | with_reducible refine Agree.of_fst (by assumption) ?_ | split | dsimp only | (intro t ht; with_reducible assumption) | intro)

theorem agree_plTrain2 {μ : Nat} {σ : State} (hK : 16777216 ||| μ = μ) (width : Nat) (s : State) (hA : Agree μ σ s) : Agree μ σ (plTrain2 width s) := by
  refine Agree.step (k := 16777216) ?_ hK hA
  clear hA hK
  unfold plTrain2
  repeat' (first | (intro x; first | (refine (fun (hx : Agree 16777216 s x) => ?_) ?_; clear_value x; rotate_left; subst x) | subst x) | lift_lets -underBinder | with_reducible exact Agree.refl _ _ | with_reducible assumption | with_reducible apply @agree_mdPl 16777216 _ (by decide) | with_reducible refine Agree.of_snd (by assumption) ?_ | with_reducible refine Agree.of_fst (by assumption) ?_ | split | dsimp only | (intro t ht; with_reducible assumption) | intro)

theorem agree_setPps {μ : Nat} {σ : State} (hK : 16777472 ||| μ = μ) (b : Bool) (s : State) (hA : Agree μ σ s) : Agree μ σ (setPps b s) := by
  refine Agree.step (k := 16777472) ?_ hK hA
  clear hA hK
  unfold setPps
  repeat' (first | (intro x; first | (refine (fun (hx : Agree 16777472 s x) => ?_) ?_; clear_value x; rotate_left; subst x) | subst x) | lift_lets -underBinder | with_reducible exact Agree.refl _ _ | with_reducible assumption | with_reducible apply @agree_mdFab 16777472 _ (by decide) | with_reducible apply @agree_setSync 16777472 _ (by decide) | with_reducible refine Agree.of_snd (by assumption) ?_ | with_reducible refine Agree.of_fst (by assumption) ?_ | split | dsimp only | (intro t ht; with_reducible assumption) | intro)

theorem agree_ppsEdge {μ : Nat} {σ : State} (hK : 16777473 ||| μ = μ) (s0 : State) (hA : Agree μ σ s0) : Agree μ σ (ppsEdge s0) := by
  refine Agree.step (k := 16777473) ?_ hK hA
  clear hA hK
  unfold ppsEdge
  repeat' (first | (intro x; first | (refine (fun (hx : Agree 16777473 s0 x) => ?_) ?_; clear_value x; rotate_left; subst x) | subst x) | lift_lets -underBinder | with_reducible exact Agree.refl _ _ | with_reducible assumption | with_reducible apply @agree_mdFab 16777473 _ (by decide) | with_reducible apply @agree_arrive 16777473 _ (by decide) | with_reducible apply @agree_setPps 16777473 _ (by decide) | with_reducible refine Agree.of_snd (by assumption) ?_ | with_reducible refine Agree.of_fst (by assumption) ?_ | split | dsimp only | (intro t ht; with_reducible assumption) | intro)

theorem agree_ppsMissed {μ : Nat} {σ : State} (hK : 16777472 ||| μ = μ) (s : State) (hA : Agree μ σ s) : Agree μ σ (ppsMissed s) := by
  refine Agree.step (k := 16777472) ?_ hK hA
  clear hA hK
  unfold ppsMissed
  repeat' (first | (intro x; first | (refine (fun (hx : Agree 16777472 s x) => ?_) ?_; clear_value x; rotate_left; subst x) | subst x) | lift_lets -underBinder | with_reducible exact Agree.refl _ _ | with_reducible assumption | with_reducible apply @agree_mdFab 16777472 _ (by decide) | with_reducible apply @agree_setPps 16777472 _ (by decide) | with_reducible refine Agree.of_snd (by assumption) ?_ | with_reducible refine Agree.of_fst (by assumption) ?_ | split | dsimp only | (intro t ht; with_reducible assumption) | intro)

theorem agree_roundStart {μ : Nat} {σ : State} (hK : 16777216 ||| μ = μ) (k : Nat) (s : State) (hA : Agree μ σ s) : Agree μ σ (roundStart k s) := by
  refine Agree.step (k := 16777216) ?_ hK hA
  clear hA hK
  unfold roundStart
  repeat' (first | (intro x; first | (refine (fun (hx : Agree 16777216 s x) => ?_) ?_; clear_value x; rotate_left; subst x) | subst x) | lift_lets -underBinder | with_reducible exact Agree.refl _ _ | with_reducible assumption | with_reducible refine Agree.forL ?_ ?_ | with_reducible apply @agree_mdFab 16777216 _ (by decide) | with_reducible apply @agree_unicast 16777216 _ (by decide) | with_reducible refine Agree.of_snd (by assumption) ?_ | with_reducible refine Agree.of_fst (by assumption) ?_ | split | dsimp only | (intro t ht; with_reducible assumption) | intro)

theorem agree_routeCompute {μ : Nat} {σ : State} (hK : 16777472 ||| μ = μ) (s : State) (hA : Agree μ σ s) : Agree μ σ (routeCompute s) := by
  refine Agree.step (k := 16777472) ?_ hK hA
  clear hA hK
  unfold routeCompute
  repeat' (first | (intro x; first | (refine (fun (hx : Agree 16777472 s x) => ?_) ?_; clear_value x; rotate_left; subst x) | subst x) | lift_lets -underBinder | with_reducible exact Agree.refl _ _ | with_reducible assumption | with_reducible apply @agree_mdFab 16777472 _ (by decide) | with_reducible apply @agree_judgeRoot 16777472 _ (by decide) | with_reducible refine Agree.of_snd (by assumption) ?_ | with_reducible refine Agree.of_fst (by assumption) ?_ | split | dsimp only | (intro t ht; with_reducible assumption) | intro)

theorem agree_rqTimeout {μ : Nat} {σ : State} (hK : 16777472 ||| μ = μ) (s : State) (hA : Agree μ σ s) : Agree μ σ (rqTimeout s) := by
  refine Agree.step (k := 16777472) ?_ hK hA
  clear hA hK
  unfold rqTimeout
  repeat' (first | (intro x; first | (refine (fun (hx : Agree 16777472 s x) => ?_) ?_; clear_value x; rotate_left; subst x) | subst x) | lift_lets -underBinder | with_reducible exact Agree.refl _ _ | with_reducible assumption | with_reducible apply @agree_rqEnd 16777472 _ (by decide) | with_reducible refine Agree.of_snd (by assumption) ?_ | with_reducible refine Agree.of_fst (by assumption) ?_ | split | dsimp only | (intro t ht; with_reducible assumption) | intro)

theorem agree_staggerExpiry {μ : Nat} {σ : State} (hK : 16777216 ||| μ = μ) (s : State) (hA : Agree μ σ s) : Agree μ σ (staggerExpiry s) := by
  refine Agree.step (k := 16777216) ?_ hK hA
  clear hA hK
  unfold staggerExpiry
  repeat' (first | (intro x; first | (refine (fun (hx : Agree 16777216 s x) => ?_) ?_; clear_value x; rotate_left; subst x) | subst x) | lift_lets -underBinder | with_reducible exact Agree.refl _ _ | with_reducible assumption | with_reducible apply @agree_mdFab 16777216 _ (by decide) | with_reducible refine Agree.of_snd (by assumption) ?_ | with_reducible refine Agree.of_fst (by assumption) ?_ | split | dsimp only | (intro t ht; with_reducible assumption) | intro)

theorem agree_tableReportRx {μ : Nat} {σ : State} (hK : 16777216 ||| μ = μ) (i : Nat) (h : Hdr) (m : TRep) (s : State) (hA : Agree μ σ s) : Agree μ σ (tableReportRx i h m s) := by
  refine Agree.step (k := 16777216) ?_ hK hA
  clear hA hK
  unfold tableReportRx
  repeat' (first | (intro x; first | (refine (fun (hx : Agree 16777216 s x) => ?_) ?_; clear_value x; rotate_left; subst x) | subst x) | lift_lets -underBinder | with_reducible exact Agree.refl _ _ | with_reducible assumption | with_reducible apply @agree_mdFab 16777216 _ (by decide) | with_reducible apply @agree_freceive 16777216 _ (by decide) | with_reducible refine Agree.of_snd (by assumption) ?_ | with_reducible refine Agree.of_fst (by assumption) ?_ | split | dsimp only | (intro t ht; with_reducible assumption) | intro)

theorem agree_tableTurn {μ : Nat} {σ : State} (hK : 16908544 ||| μ = μ) (s : State) (hA : Agree μ σ s) : Agree μ σ (tableTurn s) := by
  refine Agree.step (k := 16908544) ?_ hK hA
  clear hA hK
  unfold tableTurn
  repeat' (first | (intro x; first | (refine (fun (hx : Agree 16908544 s x) => ?_) ?_; clear_value x; rotate_left; subst x) | subst x) | lift_lets -underBinder | with_reducible exact Agree.refl _ _ | with_reducible assumption | with_reducible apply @agree_mdFab 16908544 _ (by decide) | with_reducible apply @agree_setShare 16908544 _ (by decide) | with_reducible apply @agree_grantDrop 16908544 _ (by decide) | with_reducible refine Agree.of_snd (by assumption) ?_ | with_reducible refine Agree.of_fst (by assumption) ?_ | split | dsimp only | (intro t ht; with_reducible assumption) | intro)

theorem agree_telRspRx {μ : Nat} {σ : State} (hK : 16777472 ||| μ = μ) (i : Nat) (h : Hdr) (src : Nat) (block : List Byte) (s : State) (hA : Agree μ σ s) : Agree μ σ (telRspRx i h src block s) := by
  refine Agree.step (k := 16777472) ?_ hK hA
  clear hA hK
  unfold telRspRx
  repeat' (first | (intro x; first | (refine (fun (hx : Agree 16777472 s x) => ?_) ?_; clear_value x; rotate_left; subst x) | subst x) | lift_lets -underBinder | with_reducible exact Agree.refl _ _ | with_reducible assumption | with_reducible apply @agree_freceive 16777472 _ (by decide) | with_reducible apply @agree_rqEnd 16777472 _ (by decide) | with_reducible refine Agree.of_snd (by assumption) ?_ | with_reducible refine Agree.of_fst (by assumption) ?_ | split | dsimp only | (intro t ht; with_reducible assumption) | intro)

theorem agree_tsyncReqRx {μ : Nat} {σ : State} (hK : 16777217 ||| μ = μ) (i : Nat) (h : Hdr) (replayed : Bool) (s : State) (hA : Agree μ σ s) : Agree μ σ (tsyncReqRx i h replayed s) := by
  refine Agree.step (k := 16777217) ?_ hK hA
  clear hA hK
  unfold tsyncReqRx
  repeat' (first | (intro x; first | (refine (fun (hx : Agree 16777217 s x) => ?_) ?_; clear_value x; rotate_left; subst x) | subst x) | lift_lets -underBinder | with_reducible exact Agree.refl _ _ | with_reducible assumption | with_reducible apply @agree_arrive 16777217 _ (by decide) | with_reducible apply @agree_fsend 16777217 _ (by decide) | with_reducible apply @agree_freceive 16777217 _ (by decide) | with_reducible refine Agree.of_snd (by assumption) ?_ | with_reducible refine Agree.of_fst (by assumption) ?_ | split | dsimp only | (intro t ht; with_reducible assumption) | intro)

theorem agree_tsyncRspRx {μ : Nat} {σ : State} (hK : 16777473 ||| μ = μ) (i : Nat) (h : Hdr) (t2 : BitVec 64) (t3 : BitVec 64) (hops : Nat) (psync : Bool) (pdisc : Bool) (replayed : Bool) (s : State) (hA : Agree μ σ s) : Agree μ σ (tsyncRspRx i h t2 t3 hops psync pdisc replayed s) := by
  refine Agree.step (k := 16777473) ?_ hK hA
  clear hA hK
  unfold tsyncRspRx
  repeat' (first | (intro x; first | (refine (fun (hx : Agree 16777473 s x) => ?_) ?_; clear_value x; rotate_left; subst x) | subst x) | lift_lets -underBinder | with_reducible exact Agree.refl _ _ | with_reducible assumption | with_reducible apply @agree_arrive 16777473 _ (by decide) | with_reducible apply @agree_freceive 16777473 _ (by decide) | with_reducible apply @agree_judgeSync 16777473 _ (by decide) | with_reducible refine Agree.of_snd (by assumption) ?_ | with_reducible refine Agree.of_fst (by assumption) ?_ | split | dsimp only | (intro t ht; with_reducible assumption) | intro)

theorem agree_tsyncTimer {μ : Nat} {σ : State} (hK : 16777473 ||| μ = μ) (s0 : State) (hA : Agree μ σ s0) : Agree μ σ (tsyncTimer s0) := by
  refine Agree.step (k := 16777473) ?_ hK hA
  clear hA hK
  unfold tsyncTimer
  repeat' (first | (intro x; first | (refine (fun (hx : Agree 16777473 s0 x) => ?_) ?_; clear_value x; rotate_left; subst x) | subst x) | lift_lets -underBinder | with_reducible exact Agree.refl _ _ | with_reducible assumption | with_reducible apply @agree_mdFab 16777473 _ (by decide) | with_reducible apply @agree_arrive 16777473 _ (by decide) | with_reducible apply @agree_fsend 16777473 _ (by decide) | with_reducible apply @agree_setSync 16777473 _ (by decide) | with_reducible refine Agree.of_snd (by assumption) ?_ | with_reducible refine Agree.of_fst (by assumption) ?_ | split | dsimp only | (intro t ht; with_reducible assumption) | intro)

end State
end Sys2Proof.Machine
end

