-- ==== Sys2Proof/Laws/AgreePower.lean ====
section
/-! SUPPORT. The fields of State that each function of Machine/Power.lean can change. -/
set_option Elab.async false

set_option linter.unusedTactic false
set_option linter.unreachableTactic false

namespace Sys2Proof.Machine
namespace State

theorem agree_mdPins {μ : Nat} {σ : State} (hK : 2 ||| μ = μ) (f : Pins → Pins) (s : State) (hA : Agree μ σ s) : Agree μ σ (mdPins f s) := by
  refine Agree.step (k := 2) ?_ hK hA
  clear hA hK
  unfold mdPins
  repeat' (first | (intro x; first | (refine (fun (hx : Agree 2 s x) => ?_) ?_; clear_value x; rotate_left; subst x) | subst x) | lift_lets -underBinder | with_reducible exact Agree.refl _ _ | with_reducible assumption | ((conv => (arg 3; arg 27; skip)); with_reducible refine Agree.upd_pins _ (by decide) ?_) | with_reducible refine Agree.of_snd (by assumption) ?_ | with_reducible refine Agree.of_fst (by assumption) ?_ | split | dsimp only | (intro t ht; with_reducible assumption) | intro)

theorem agree_mdTop {μ : Nat} {σ : State} (hK : 128 ||| μ = μ) (f : Top → Top) (s : State) (hA : Agree μ σ s) : Agree μ σ (mdTop f s) := by
  refine Agree.step (k := 128) ?_ hK hA
  clear hA hK
  unfold mdTop
  repeat' (first | (intro x; first | (refine (fun (hx : Agree 128 s x) => ?_) ?_; clear_value x; rotate_left; subst x) | subst x) | lift_lets -underBinder | with_reducible exact Agree.refl _ _ | with_reducible assumption | ((conv => (arg 3; arg 27; skip)); with_reducible refine Agree.upd_top _ (by decide) ?_) | with_reducible refine Agree.of_snd (by assumption) ?_ | with_reducible refine Agree.of_fst (by assumption) ?_ | split | dsimp only | (intro t ht; with_reducible assumption) | intro)

theorem agree_enter {μ : Nat} {σ : State} (hK : 128 ||| μ = μ) (n : TopState) (s : State) (hA : Agree μ σ s) : Agree μ σ (enter n s) := by
  refine Agree.step (k := 128) ?_ hK hA
  clear hA hK
  unfold enter
  repeat' (first | (intro x; first | (refine (fun (hx : Agree 128 s x) => ?_) ?_; clear_value x; rotate_left; subst x) | subst x) | lift_lets -underBinder | with_reducible exact Agree.refl _ _ | with_reducible assumption | with_reducible apply @agree_mdTop 128 _ (by decide) | with_reducible refine Agree.of_snd (by assumption) ?_ | with_reducible refine Agree.of_fst (by assumption) ?_ | split | dsimp only | (intro t ht; with_reducible assumption) | intro)

theorem agree_aonRegs {μ : Nat} {σ : State} (hK : 147584 ||| μ = μ) (s : State) (hA : Agree μ σ s) : Agree μ σ (aonRegs s) := by
  refine Agree.step (k := 147584) ?_ hK hA
  clear hA hK
  unfold aonRegs
  repeat' (first | (intro x; first | (refine (fun (hx : Agree 147584 s x) => ?_) ?_; clear_value x; rotate_left; subst x) | subst x) | lift_lets -underBinder | with_reducible exact Agree.refl _ _ | with_reducible assumption | ((conv => (arg 3; arg 27; skip)); with_reducible refine Agree.upd_top_ledg_nrg _ _ _ (by decide) ?_) | with_reducible refine Agree.of_snd (by assumption) ?_ | with_reducible refine Agree.of_fst (by assumption) ?_ | split | dsimp only | (intro t ht; with_reducible assumption) | intro)

theorem agree_ctlReset {μ : Nat} {σ : State} (hK : 67108737 ||| μ = μ) (keep : Bool) (s : State) (hA : Agree μ σ s) : Agree μ σ (ctlReset keep s) := by
  refine Agree.step (k := 67108737) ?_ hK hA
  clear hA hK
  unfold ctlReset
  repeat' (first | (intro x; first | (refine (fun (hx : Agree 67108737 s x) => ?_) ?_; clear_value x; rotate_left; subst x) | subst x) | lift_lets -underBinder | with_reducible exact Agree.refl _ _ | with_reducible assumption | ((conv => (arg 3; arg 27; skip)); with_reducible refine Agree.upd_most _ _ _ _ _ _ _ _ _ _ _ _ _ _ _ _ _ _ _ _ (by decide) ?_) | with_reducible apply @agree_aonRegs 67108737 _ (by decide) | with_reducible refine Agree.of_snd (by assumption) ?_ | with_reducible refine Agree.of_fst (by assumption) ?_ | split | dsimp only | (intro t ht; with_reducible assumption) | intro)

theorem agree_toHold {μ : Nat} {σ : State} (hK : 67108743 ||| μ = μ) (s : State) (hA : Agree μ σ s) : Agree μ σ (toHold s) := by
  refine Agree.step (k := 67108743) ?_ hK hA
  clear hA hK
  unfold toHold
  repeat' (first | (intro x; first | (refine (fun (hx : Agree 67108743 s x) => ?_) ?_; clear_value x; rotate_left; subst x) | subst x) | lift_lets -underBinder | with_reducible exact Agree.refl _ _ | with_reducible assumption | with_reducible apply @agree_mdPins 67108743 _ (by decide) | with_reducible apply @agree_mdTop 67108743 _ (by decide) | with_reducible apply @agree_enter 67108743 _ (by decide) | with_reducible apply @agree_ctlReset 67108743 _ (by decide) | with_reducible apply @agree_releaseToken 67108743 _ (by decide) | with_reducible refine Agree.of_snd (by assumption) ?_ | with_reducible refine Agree.of_fst (by assumption) ?_ | split | dsimp only | (intro t ht; with_reducible assumption) | intro)

theorem agree_mdAon {μ : Nat} {σ : State} (hK : 4 ||| μ = μ) (f : Aon → Aon) (s : State) (hA : Agree μ σ s) : Agree μ σ (mdAon f s) := by
  refine Agree.step (k := 4) ?_ hK hA
  clear hA hK
  unfold mdAon
  repeat' (first | (intro x; first | (refine (fun (hx : Agree 4 s x) => ?_) ?_; clear_value x; rotate_left; subst x) | subst x) | lift_lets -underBinder | with_reducible exact Agree.refl _ _ | with_reducible assumption | ((conv => (arg 3; arg 27; skip)); with_reducible refine Agree.upd_aon _ (by decide) ?_) | with_reducible refine Agree.of_snd (by assumption) ?_ | with_reducible refine Agree.of_fst (by assumption) ?_ | split | dsimp only | (intro t ht; with_reducible assumption) | intro)

theorem agree_aonCounts {μ : Nat} {σ : State} (hK : 16644 ||| μ = μ) (s : State) (hA : Agree μ σ s) : Agree μ σ (aonCounts s) := by
  refine Agree.step (k := 16644) ?_ hK hA
  clear hA hK
  unfold aonCounts
  repeat' (first | (intro x; first | (refine (fun (hx : Agree 16644 s x) => ?_) ?_; clear_value x; rotate_left; subst x) | subst x) | lift_lets -underBinder | with_reducible exact Agree.refl _ _ | with_reducible assumption | with_reducible refine Agree.forN ?_ ?_ | with_reducible refine Agree.iter ?_ ?_ | with_reducible apply @agree_count 16644 _ (by decide) | with_reducible apply @agree_mdAon 16644 _ (by decide) | with_reducible refine Agree.of_snd (by assumption) ?_ | with_reducible refine Agree.of_fst (by assumption) ?_ | split | dsimp only | (intro t ht; with_reducible assumption) | intro)

theorem agree_bootSources {μ : Nat} {σ : State} (hK : 8192 ||| μ = μ) (s : State) (hA : Agree μ σ s) : Agree μ σ (bootSources s) := by
  refine Agree.step (k := 8192) ?_ hK hA
  clear hA hK
  unfold bootSources
  repeat' (first | (intro x; first | (refine (fun (hx : Agree 8192 s x) => ?_) ?_; clear_value x; rotate_left; subst x) | subst x) | lift_lets -underBinder | with_reducible exact Agree.refl _ _ | with_reducible assumption | with_reducible refine Agree.forN ?_ ?_ | with_reducible apply @agree_follow 8192 _ (by decide) | with_reducible apply @agree_addrSource 8192 _ (by decide) | with_reducible apply @agree_fabSource 8192 _ (by decide) | with_reducible refine Agree.of_snd (by assumption) ?_ | with_reducible refine Agree.of_fst (by assumption) ?_ | split | dsimp only | (intro t ht; with_reducible assumption) | intro)

theorem agree_bootEnter {μ : Nat} {σ : State} (hK : 50422150 ||| μ = μ) (keep : Bool) (s : State) (hA : Agree μ σ s) : Agree μ σ (bootEnter keep s) := by
  refine Agree.step (k := 50422150) ?_ hK hA
  clear hA hK
  unfold bootEnter
  repeat' (first | (intro x; first | (refine (fun (hx : Agree 50422150 s x) => ?_) ?_; clear_value x; rotate_left; subst x) | subst x) | lift_lets -underBinder | with_reducible exact Agree.refl _ _ | with_reducible assumption | ((conv => (arg 3; arg 27; skip)); with_reducible refine Agree.upd_seq _ (by decide) ?_) | with_reducible apply @agree_mdPair 50422150 _ (by decide) | with_reducible apply @agree_mdPins 50422150 _ (by decide) | with_reducible apply @agree_mdTop 50422150 _ (by decide) | with_reducible apply @agree_enter 50422150 _ (by decide) | with_reducible apply @agree_mdAon 50422150 _ (by decide) | with_reducible apply @agree_aonCounts 50422150 _ (by decide) | with_reducible apply @agree_bootSources 50422150 _ (by decide) | with_reducible apply @agree_fabStart 50422150 _ (by decide) | with_reducible refine Agree.of_snd (by assumption) ?_ | with_reducible refine Agree.of_fst (by assumption) ?_ | split | dsimp only | (intro t ht; with_reducible assumption) | intro)

theorem agree_unlatchAll {μ : Nat} {σ : State} (hK : 73860 ||| μ = μ) (s : State) (hA : Agree μ σ s) : Agree μ σ (unlatchAll s) := by
  refine Agree.step (k := 73860) ?_ hK hA
  clear hA hK
  unfold unlatchAll
  repeat' (first | (intro x; first | (refine (fun (hx : Agree 73860 s x) => ?_) ?_; clear_value x; rotate_left; subst x) | subst x) | lift_lets -underBinder | with_reducible exact Agree.refl _ _ | with_reducible assumption | ((conv => (arg 3; arg 27; skip)); with_reducible refine Agree.upd_aon_top_flt_seq _ _ _ _ (by decide) ?_) | with_reducible refine Agree.of_snd (by assumption) ?_ | with_reducible refine Agree.of_fst (by assumption) ?_ | split | dsimp only | (intro t ht; with_reducible assumption) | intro)

theorem agree_warmBoot {μ : Nat} {σ : State} (hK : 67108743 ||| μ = μ) (s : State) (hA : Agree μ σ s) : Agree μ σ (warmBoot s) := by
  refine Agree.step (k := 67108743) ?_ hK hA
  clear hA hK
  unfold warmBoot
  repeat' (first | (intro x; first | (refine (fun (hx : Agree 67108743 s x) => ?_) ?_; clear_value x; rotate_left; subst x) | subst x) | lift_lets -underBinder | with_reducible exact Agree.refl _ _ | with_reducible assumption | with_reducible apply @agree_ctlReset 67108743 _ (by decide) | with_reducible apply @agree_bootEnter 67108743 _ (by decide) | with_reducible apply @agree_unlatchAll 67108743 _ (by decide) | with_reducible refine Agree.of_snd (by assumption) ?_ | with_reducible refine Agree.of_fst (by assumption) ?_ | split | dsimp only | (intro t ht; with_reducible assumption) | intro)

theorem agree_backupSource {μ : Nat} {σ : State} (hK : 4219136 ||| μ = μ) (s : State) (hA : Agree μ σ s) : Agree μ σ (backupSource s) := by
  refine Agree.step (k := 4219136) ?_ hK hA
  clear hA hK
  unfold backupSource
  repeat' (first | (intro x; first | (refine (fun (hx : Agree 4219136 s x) => ?_) ?_; clear_value x; rotate_left; subst x) | subst x) | lift_lets -underBinder | with_reducible exact Agree.refl _ _ | with_reducible assumption | with_reducible apply @agree_mdSave 4219136 _ (by decide) | with_reducible apply @agree_follow 4219136 _ (by decide) | with_reducible apply @agree_count 4219136 _ (by decide) | with_reducible refine Agree.of_snd (by assumption) ?_ | with_reducible refine Agree.of_fst (by assumption) ?_ | split | dsimp only | (intro t ht; with_reducible assumption) | intro)

theorem agree_backupFollow {μ : Nat} {σ : State} (hK : 4219136 ||| μ = μ) (s : State) (hA : Agree μ σ s) : Agree μ σ (backupFollow s) := by
  refine Agree.step (k := 4219136) ?_ hK hA
  clear hA hK
  unfold backupFollow
  repeat' (first | (intro x; first | (refine (fun (hx : Agree 4219136 s x) => ?_) ?_; clear_value x; rotate_left; subst x) | subst x) | lift_lets -underBinder | with_reducible exact Agree.refl _ _ | with_reducible assumption | with_reducible apply @agree_backupSource 4219136 _ (by decide) | with_reducible refine Agree.of_snd (by assumption) ?_ | with_reducible refine Agree.of_fst (by assumption) ?_ | split | dsimp only | (intro t ht; with_reducible assumption) | intro)

theorem agree_backupNotGood {μ : Nat} {σ : State} (hK : 4219138 ||| μ = μ) (s : State) (hA : Agree μ σ s) : Agree μ σ (backupNotGood s) := by
  refine Agree.step (k := 4219138) ?_ hK hA
  clear hA hK
  unfold backupNotGood
  repeat' (first | (intro x; first | (refine (fun (hx : Agree 4219138 s x) => ?_) ?_; clear_value x; rotate_left; subst x) | subst x) | lift_lets -underBinder | with_reducible exact Agree.refl _ _ | with_reducible assumption | with_reducible apply @agree_mdPins 4219138 _ (by decide) | with_reducible apply @agree_backupFollow 4219138 _ (by decide) | with_reducible refine Agree.of_snd (by assumption) ?_ | with_reducible refine Agree.of_fst (by assumption) ?_ | split | dsimp only | (intro t ht; with_reducible assumption) | intro)

theorem agree_flashDown {μ : Nat} {σ : State} (hK : 3154176 ||| μ = μ) (x : Nat) (s : State) (hA : Agree μ σ s) : Agree μ σ (flashDown x s) := by
  refine Agree.step (k := 3154176) ?_ hK hA
  clear hA hK
  unfold flashDown
  repeat' (first | (intro x; first | (refine (fun (hx : Agree 3154176 s x) => ?_) ?_; clear_value x; rotate_left; subst x) | subst x) | lift_lets -underBinder | with_reducible exact Agree.refl _ _ | with_reducible assumption | with_reducible refine Agree.forN ?_ ?_ | with_reducible apply @agree_mdSled 3154176 _ (by decide) | with_reducible apply @agree_mdRing 3154176 _ (by decide) | with_reducible apply @agree_unraise 3154176 _ (by decide) | with_reducible apply @agree_scanEnd 3154176 _ (by decide) | with_reducible apply @agree_sledQuiet 3154176 _ (by decide) | with_reducible refine Agree.of_snd (by assumption) ?_ | with_reducible refine Agree.of_fst (by assumption) ?_ | split | dsimp only | (intro t ht; with_reducible assumption) | intro)

theorem agree_trayLog {μ : Nat} {σ : State} (hK : 3145728 ||| μ = μ) (s : State) (hA : Agree μ σ s) : Agree μ σ (trayLog s) := by
  refine Agree.step (k := 3145728) ?_ hK hA
  clear hA hK
  unfold trayLog
  repeat' (first | (intro x; first | (refine (fun (hx : Agree 3145728 s x) => ?_) ?_; clear_value x; rotate_left; subst x) | subst x) | lift_lets -underBinder | with_reducible exact Agree.refl _ _ | with_reducible assumption | with_reducible refine Agree.forL ?_ ?_ | with_reducible apply @agree_mdVault 3145728 _ (by decide) | with_reducible apply @agree_confUnitsDone 3145728 _ (by decide) | with_reducible refine Agree.of_snd (by assumption) ?_ | with_reducible refine Agree.of_fst (by assumption) ?_ | split | dsimp only | (intro t ht; with_reducible assumption) | intro)

theorem agree_squareAgain {μ : Nat} {σ : State} (hK : 4194304 ||| μ = μ) (p : Nat) (q : Nat) (cls : Nat) (s : State) (hA : Agree μ σ s) : Agree μ σ (squareAgain p q cls s) := by
  refine Agree.step (k := 4194304) ?_ hK hA
  clear hA hK
  unfold squareAgain
  repeat' (first | (intro x; first | (refine (fun (hx : Agree 4194304 s x) => ?_) ?_; clear_value x; rotate_left; subst x) | subst x) | lift_lets -underBinder | with_reducible exact Agree.refl _ _ | with_reducible assumption | with_reducible apply @agree_mdSv 4194304 _ (by decide) | with_reducible refine Agree.of_snd (by assumption) ?_ | with_reducible refine Agree.of_fst (by assumption) ?_ | split | dsimp only | (intro t ht; with_reducible assumption) | intro)

theorem agree_trayMoves {μ : Nat} {σ : State} (hK : 5242880 ||| μ = μ) (s : State) (hA : Agree μ σ s) : Agree μ σ (trayMoves s) := by
  refine Agree.step (k := 5242880) ?_ hK hA
  clear hA hK
  unfold trayMoves
  repeat' (first | (intro x; first | (refine (fun (hx : Agree 5242880 s x) => ?_) ?_; clear_value x; rotate_left; subst x) | subst x) | lift_lets -underBinder | with_reducible exact Agree.refl _ _ | with_reducible assumption | with_reducible refine Agree.forL ?_ ?_ | with_reducible refine Agree.forN ?_ ?_ | with_reducible apply @agree_mdVault 5242880 _ (by decide) | with_reducible apply @agree_squareAgain 5242880 _ (by decide) | with_reducible refine Agree.of_snd (by assumption) ?_ | with_reducible refine Agree.of_fst (by assumption) ?_ | split | dsimp only | (intro t ht; with_reducible assumption) | intro)

theorem agree_trayReloc {μ : Nat} {σ : State} (hK : 1048576 ||| μ = μ) (s : State) (hA : Agree μ σ s) : Agree μ σ (trayReloc s) := by
  refine Agree.step (k := 1048576) ?_ hK hA
  clear hA hK
  unfold trayReloc
  repeat' (first | (intro x; first | (refine (fun (hx : Agree 1048576 s x) => ?_) ?_; clear_value x; rotate_left; subst x) | subst x) | lift_lets -underBinder | with_reducible exact Agree.refl _ _ | with_reducible assumption | with_reducible apply @agree_mdVault 1048576 _ (by decide) | with_reducible apply @agree_mdReloc 1048576 _ (by decide) | with_reducible refine Agree.of_snd (by assumption) ?_ | with_reducible refine Agree.of_fst (by assumption) ?_ | split | dsimp only | (intro t ht; with_reducible assumption) | intro)

theorem agree_moverDown {μ : Nat} {σ : State} (hK : 7340032 ||| μ = μ) (s : State) (hA : Agree μ σ s) : Agree μ σ (moverDown s) := by
  refine Agree.step (k := 7340032) ?_ hK hA
  clear hA hK
  unfold moverDown
  repeat' (first | (intro x; first | (refine (fun (hx : Agree 7340032 s x) => ?_) ?_; clear_value x; rotate_left; subst x) | subst x) | lift_lets -underBinder | with_reducible exact Agree.refl _ _ | with_reducible assumption | with_reducible refine Agree.forN ?_ ?_ | with_reducible refine Agree.forL ?_ ?_ | with_reducible apply @agree_mdVault 7340032 _ (by decide) | with_reducible apply @agree_mdRing 7340032 _ (by decide) | with_reducible apply @agree_descAgain 7340032 _ (by decide) | with_reducible apply @agree_endRing 7340032 _ (by decide) | with_reducible apply @agree_trayLog 7340032 _ (by decide) | with_reducible apply @agree_trayMoves 7340032 _ (by decide) | with_reducible apply @agree_trayReloc 7340032 _ (by decide) | with_reducible refine Agree.of_snd (by assumption) ?_ | with_reducible refine Agree.of_fst (by assumption) ?_ | split | dsimp only | (intro t ht; with_reducible assumption) | intro)

theorem agree_portsDown {μ : Nat} {σ : State} (hK : 10756096 ||| μ = μ) (ps : List Nat) (s : State) (hA : Agree μ σ s) : Agree μ σ (portsDown ps s) := by
  refine Agree.step (k := 10756096) ?_ hK hA
  clear hA hK
  unfold portsDown
  repeat' (first | (intro x; first | (refine (fun (hx : Agree 10756096 s x) => ?_) ?_; clear_value x; rotate_left; subst x) | subst x) | lift_lets -underBinder | with_reducible exact Agree.refl _ _ | with_reducible assumption | with_reducible refine Agree.forL ?_ ?_ | with_reducible apply @agree_cancelCopies 10756096 _ (by decide) | with_reducible apply @agree_retLinkDown 10756096 _ (by decide) | with_reducible apply @agree_toDown 10756096 _ (by decide) | with_reducible refine Agree.of_snd (by assumption) ?_ | with_reducible refine Agree.of_fst (by assumption) ?_ | split | dsimp only | (intro t ht; with_reducible assumption) | intro)

theorem agree_portsReset {μ : Nat} {σ : State} (hK : 10756096 ||| μ = μ) (ps : List Nat) (s : State) (hA : Agree μ σ s) : Agree μ σ (portsReset ps s) := by
  refine Agree.step (k := 10756096) ?_ hK hA
  clear hA hK
  unfold portsReset
  repeat' (first | (intro x; first | (refine (fun (hx : Agree 10756096 s x) => ?_) ?_; clear_value x; rotate_left; subst x) | subst x) | lift_lets -underBinder | with_reducible exact Agree.refl _ _ | with_reducible assumption | with_reducible refine Agree.forL ?_ ?_ | with_reducible apply @agree_mdLk 10756096 _ (by decide) | with_reducible apply @agree_linkLost 10756096 _ (by decide) | with_reducible apply @agree_portsDown 10756096 _ (by decide) | with_reducible refine Agree.of_snd (by assumption) ?_ | with_reducible refine Agree.of_fst (by assumption) ?_ | split | dsimp only | (intro t ht; with_reducible assumption) | intro)

theorem agree_restoresAgain {μ : Nat} {σ : State} (hK : 8650752 ||| μ = μ) (s : State) (hA : Agree μ σ s) : Agree μ σ (restoresAgain s) := by
  refine Agree.step (k := 8650752) ?_ hK hA
  clear hA hK
  unfold restoresAgain
  repeat' (first | (intro x; first | (refine (fun (hx : Agree 8650752 s x) => ?_) ?_; clear_value x; rotate_left; subst x) | subst x) | lift_lets -underBinder | with_reducible exact Agree.refl _ _ | with_reducible assumption | with_reducible refine Agree.forL ?_ ?_ | with_reducible apply @agree_redecide 8650752 _ (by decide) | with_reducible refine Agree.of_snd (by assumption) ?_ | with_reducible refine Agree.of_fst (by assumption) ?_ | split | dsimp only | (intro t ht; with_reducible assumption) | intro)

theorem agree_coldBoot {μ : Nat} {σ : State} (hK : 67108743 ||| μ = μ) (s : State) (hA : Agree μ σ s) : Agree μ σ (coldBoot s) := by
  refine Agree.step (k := 67108743) ?_ hK hA
  clear hA hK
  unfold coldBoot
  repeat' (first | (intro x; first | (refine (fun (hx : Agree 67108743 s x) => ?_) ?_; clear_value x; rotate_left; subst x) | subst x) | lift_lets -underBinder | with_reducible exact Agree.refl _ _ | with_reducible assumption | with_reducible apply @agree_ctlReset 67108743 _ (by decide) | with_reducible apply @agree_bootEnter 67108743 _ (by decide) | with_reducible refine Agree.of_snd (by assumption) ?_ | with_reducible refine Agree.of_fst (by assumption) ?_ | split | dsimp only | (intro t ht; with_reducible assumption) | intro)

theorem agree_busGood100 {μ : Nat} {σ : State} (hK : 67108743 ||| μ = μ) (s : State) (hA : Agree μ σ s) : Agree μ σ (busGood100 s) := by
  refine Agree.step (k := 67108743) ?_ hK hA
  clear hA hK
  unfold busGood100
  repeat' (first | (intro x; first | (refine (fun (hx : Agree 67108743 s x) => ?_) ?_; clear_value x; rotate_left; subst x) | subst x) | lift_lets -underBinder | with_reducible exact Agree.refl _ _ | with_reducible assumption | with_reducible apply @agree_mdPins 67108743 _ (by decide) | with_reducible apply @agree_coldBoot 67108743 _ (by decide) | with_reducible refine Agree.of_snd (by assumption) ?_ | with_reducible refine Agree.of_fst (by assumption) ?_ | split | dsimp only | (intro t ht; with_reducible assumption) | intro)

theorem agree_busSample {μ : Nat} {σ : State} (hK : 4219138 ||| μ = μ) (win : BitVec 64) (s : State) (hA : Agree μ σ s) : Agree μ σ (busSample win s) := by
  refine Agree.step (k := 4219138) ?_ hK hA
  clear hA hK
  unfold busSample
  repeat' (first | (intro x; first | (refine (fun (hx : Agree 4219138 s x) => ?_) ?_; clear_value x; rotate_left; subst x) | subst x) | lift_lets -underBinder | with_reducible exact Agree.refl _ _ | with_reducible assumption | with_reducible apply @agree_mdPins 4219138 _ (by decide) | with_reducible apply @agree_backupSource 4219138 _ (by decide) | with_reducible refine Agree.of_snd (by assumption) ?_ | with_reducible refine Agree.of_fst (by assumption) ?_ | split | dsimp only | (intro t ht; with_reducible assumption) | intro)

theorem agree_crystal {μ : Nat} {σ : State} (hK : 6 ||| μ = μ) (run : Bool) (s : State) (hA : Agree μ σ s) : Agree μ σ (crystal run s) := by
  refine Agree.step (k := 6) ?_ hK hA
  clear hA hK
  unfold crystal
  repeat' (first | (intro x; first | (refine (fun (hx : Agree 6 s x) => ?_) ?_; clear_value x; rotate_left; subst x) | subst x) | lift_lets -underBinder | with_reducible exact Agree.refl _ _ | with_reducible assumption | with_reducible apply @agree_mdPins 6 _ (by decide) | with_reducible apply @agree_mdAon 6 _ (by decide) | with_reducible refine Agree.of_snd (by assumption) ?_ | with_reducible refine Agree.of_fst (by assumption) ?_ | split | dsimp only | (intro t ht; with_reducible assumption) | intro)

theorem agree_inputEdge {μ : Nat} {σ : State} (hK : 4194304 ||| μ = μ) (s : State) (hA : Agree μ σ s) : Agree μ σ (inputEdge s) := by
  refine Agree.step (k := 4194304) ?_ hK hA
  clear hA hK
  unfold inputEdge
  repeat' (first | (intro x; first | (refine (fun (hx : Agree 4194304 s x) => ?_) ?_; clear_value x; rotate_left; subst x) | subst x) | lift_lets -underBinder | with_reducible exact Agree.refl _ _ | with_reducible assumption | with_reducible apply @agree_mdSave 4194304 _ (by decide) | with_reducible refine Agree.of_snd (by assumption) ?_ | with_reducible refine Agree.of_fst (by assumption) ?_ | split | dsimp only | (intro t ht; with_reducible assumption) | intro)

theorem agree_islandOff {μ : Nat} {σ : State} (hK : 3154176 ||| μ = μ) (x : Nat) (s : State) (hA : Agree μ σ s) : Agree μ σ (islandOff x s) := by
  refine Agree.step (k := 3154176) ?_ hK hA
  clear hA hK
  unfold islandOff
  repeat' (first | (intro x; first | (refine (fun (hx : Agree 3154176 s x) => ?_) ?_; clear_value x; rotate_left; subst x) | subst x) | lift_lets -underBinder | with_reducible exact Agree.refl _ _ | with_reducible assumption | with_reducible apply @agree_mdSled 3154176 _ (by decide) | with_reducible apply @agree_flashDown 3154176 _ (by decide) | with_reducible refine Agree.of_snd (by assumption) ?_ | with_reducible refine Agree.of_fst (by assumption) ?_ | split | dsimp only | (intro t ht; with_reducible assumption) | intro)

theorem agree_restoreCounters {μ : Nat} {σ : State} (hK : 4 ||| μ = μ) (s : State) (hA : Agree μ σ s) : Agree μ σ (restoreCounters s) := by
  refine Agree.step (k := 4) ?_ hK hA
  clear hA hK
  unfold restoreCounters
  repeat' (first | (intro x; first | (refine (fun (hx : Agree 4 s x) => ?_) ?_; clear_value x; rotate_left; subst x) | subst x) | lift_lets -underBinder | with_reducible exact Agree.refl _ _ | with_reducible assumption | with_reducible apply @agree_mdAon 4 _ (by decide) | with_reducible refine Agree.of_snd (by assumption) ?_ | with_reducible refine Agree.of_fst (by assumption) ?_ | split | dsimp only | (intro t ht; with_reducible assumption) | intro)

theorem agree_ledgerScan {μ : Nat} {σ : State} (hK : 4251916 ||| μ = μ) (s : State) (hA : Agree μ σ s) : Agree μ σ (ledgerScan s) := by
  refine Agree.step (k := 4251916) ?_ hK hA
  clear hA hK
  unfold ledgerScan
  repeat' (first | (intro x; first | (refine (fun (hx : Agree 4251916 s x) => ?_) ?_; clear_value x; rotate_left; subst x) | subst x) | lift_lets -underBinder | with_reducible exact Agree.refl _ _ | with_reducible assumption | ((conv => (arg 3; arg 27; skip)); with_reducible refine Agree.upd_ledg _ (by decide) ?_) | with_reducible refine Agree.forN ?_ ?_ | with_reducible apply @agree_setEvt 4251916 _ (by decide) | with_reducible apply @agree_mdSave 4251916 _ (by decide) | with_reducible apply @agree_dirWrite 4251916 _ (by decide) | with_reducible apply @agree_restoreCounters 4251916 _ (by decide) | with_reducible apply @agree_sfdpRead 4251916 _ (by decide) | with_reducible refine Agree.of_snd (by assumption) ?_ | with_reducible refine Agree.of_fst (by assumption) ?_ | split | dsimp only | (intro t ht; with_reducible assumption) | intro)

theorem agree_toMain {μ : Nat} {σ : State} (hK : 4219264 ||| μ = μ) (s : State) (hA : Agree μ σ s) : Agree μ σ (toMain s) := by
  refine Agree.step (k := 4219264) ?_ hK hA
  clear hA hK
  unfold toMain
  repeat' (first | (intro x; first | (refine (fun (hx : Agree 4219264 s x) => ?_) ?_; clear_value x; rotate_left; subst x) | subst x) | lift_lets -underBinder | with_reducible exact Agree.refl _ _ | with_reducible assumption | with_reducible apply @agree_mdTop 4219264 _ (by decide) | with_reducible apply @agree_backupFollow 4219264 _ (by decide) | with_reducible refine Agree.of_snd (by assumption) ?_ | with_reducible refine Agree.of_fst (by assumption) ?_ | split | dsimp only | (intro t ht; with_reducible assumption) | intro)

theorem agree_mainGood10 {μ : Nat} {σ : State} (hK : 4219266 ||| μ = μ) (s : State) (hA : Agree μ σ s) : Agree μ σ (mainGood10 s) := by
  refine Agree.step (k := 4219266) ?_ hK hA
  clear hA hK
  unfold mainGood10
  repeat' (first | (intro x; first | (refine (fun (hx : Agree 4219266 s x) => ?_) ?_; clear_value x; rotate_left; subst x) | subst x) | lift_lets -underBinder | with_reducible exact Agree.refl _ _ | with_reducible assumption | with_reducible apply @agree_mdPins 4219266 _ (by decide) | with_reducible apply @agree_toMain 4219266 _ (by decide) | with_reducible refine Agree.of_snd (by assumption) ?_ | with_reducible refine Agree.of_fst (by assumption) ?_ | split | dsimp only | (intro t ht; with_reducible assumption) | intro)

theorem agree_moverUp {μ : Nat} {σ : State} (hK : 11796481 ||| μ = μ) (s : State) (hA : Agree μ σ s) : Agree μ σ (moverUp s) := by
  refine Agree.step (k := 11796481) ?_ hK hA
  clear hA hK
  unfold moverUp
  repeat' (first | (intro x; first | (refine (fun (hx : Agree 11796481 s x) => ?_) ?_; clear_value x; rotate_left; subst x) | subst x) | lift_lets -underBinder | with_reducible exact Agree.refl _ _ | with_reducible assumption | with_reducible refine Agree.forN ?_ ?_ | with_reducible refine Agree.forL ?_ ?_ | with_reducible apply @agree_pump 11796481 _ (by decide) | with_reducible apply @agree_openRings 11796481 _ (by decide) | with_reducible apply @agree_cancelCopies 11796481 _ (by decide) | with_reducible apply @agree_sendRevert 11796481 _ (by decide) | with_reducible apply @agree_stepRestore 11796481 _ (by decide) | with_reducible refine Agree.of_snd (by assumption) ?_ | with_reducible refine Agree.of_fst (by assumption) ?_ | split | dsimp only | (intro t ht; with_reducible assumption) | intro)

theorem agree_mrN {μ : Nat} {σ : State} (hK : 67108743 ||| μ = μ) (s : State) (hA : Agree μ σ s) : Agree μ σ (mrN s) := by
  refine Agree.step (k := 67108743) ?_ hK hA
  clear hA hK
  unfold mrN
  repeat' (first | (intro x; first | (refine (fun (hx : Agree 67108743 s x) => ?_) ?_; clear_value x; rotate_left; subst x) | subst x) | lift_lets -underBinder | with_reducible exact Agree.refl _ _ | with_reducible assumption | with_reducible apply @agree_mdPins 67108743 _ (by decide) | with_reducible apply @agree_mdTop 67108743 _ (by decide) | with_reducible apply @agree_count 67108743 _ (by decide) | with_reducible apply @agree_ctlReset 67108743 _ (by decide) | with_reducible apply @agree_mdAon 67108743 _ (by decide) | with_reducible apply @agree_unlatchAll 67108743 _ (by decide) | with_reducible refine Agree.of_snd (by assumption) ?_ | with_reducible refine Agree.of_fst (by assumption) ?_ | split | dsimp only | (intro t ht; with_reducible assumption) | intro)

theorem agree_mrRelease {μ : Nat} {σ : State} (hK : 67108743 ||| μ = μ) (s : State) (hA : Agree μ σ s) : Agree μ σ (mrRelease s) := by
  refine Agree.step (k := 67108743) ?_ hK hA
  clear hA hK
  unfold mrRelease
  repeat' (first | (intro x; first | (refine (fun (hx : Agree 67108743 s x) => ?_) ?_; clear_value x; rotate_left; subst x) | subst x) | lift_lets -underBinder | with_reducible exact Agree.refl _ _ | with_reducible assumption | with_reducible apply @agree_mdPins 67108743 _ (by decide) | with_reducible apply @agree_aonRegs 67108743 _ (by decide) | with_reducible apply @agree_ctlReset 67108743 _ (by decide) | with_reducible apply @agree_bootSources 67108743 _ (by decide) | with_reducible apply @agree_bootEnter 67108743 _ (by decide) | with_reducible refine Agree.of_snd (by assumption) ?_ | with_reducible refine Agree.of_fst (by assumption) ?_ | split | dsimp only | (intro t ht; with_reducible assumption) | intro)

theorem agree_pfiGood {μ : Nat} {σ : State} (hK : 4194434 ||| μ = μ) (s : State) (hA : Agree μ σ s) : Agree μ σ (pfiGood s) := by
  refine Agree.step (k := 4194434) ?_ hK hA
  clear hA hK
  unfold pfiGood
  repeat' (first | (intro x; first | (refine (fun (hx : Agree 4194434 s x) => ?_) ?_; clear_value x; rotate_left; subst x) | subst x) | lift_lets -underBinder | with_reducible exact Agree.refl _ _ | with_reducible assumption | with_reducible apply @agree_mdPins 4194434 _ (by decide) | with_reducible apply @agree_mdTop 4194434 _ (by decide) | with_reducible apply @agree_inputEdge 4194434 _ (by decide) | with_reducible refine Agree.of_snd (by assumption) ?_ | with_reducible refine Agree.of_fst (by assumption) ?_ | split | dsimp only | (intro t ht; with_reducible assumption) | intro)

theorem agree_sagSupply {μ : Nat} {σ : State} (hK : 4219266 ||| μ = μ) (s : State) (hA : Agree μ σ s) : Agree μ σ (sagSupply s) := by
  refine Agree.step (k := 4219266) ?_ hK hA
  clear hA hK
  unfold sagSupply
  repeat' (first | (intro x; first | (refine (fun (hx : Agree 4219266 s x) => ?_) ?_; clear_value x; rotate_left; subst x) | subst x) | lift_lets -underBinder | with_reducible exact Agree.refl _ _ | with_reducible assumption | with_reducible apply @agree_mdPins 4219266 _ (by decide) | with_reducible apply @agree_mdTop 4219266 _ (by decide) | with_reducible apply @agree_backupFollow 4219266 _ (by decide) | with_reducible apply @agree_inputEdge 4219266 _ (by decide) | with_reducible refine Agree.of_snd (by assumption) ?_ | with_reducible refine Agree.of_fst (by assumption) ?_ | split | dsimp only | (intro t ht; with_reducible assumption) | intro)

theorem agree_pllRelock {μ : Nat} {σ : State} (hK : 8194 ||| μ = μ) (i : Nat) (s : State) (hA : Agree μ σ s) : Agree μ σ (pllRelock i s) := by
  refine Agree.step (k := 8194) ?_ hK hA
  clear hA hK
  unfold pllRelock
  repeat' (first | (intro x; first | (refine (fun (hx : Agree 8194 s x) => ?_) ?_; clear_value x; rotate_left; subst x) | subst x) | lift_lets -underBinder | with_reducible exact Agree.refl _ _ | with_reducible assumption | with_reducible apply @agree_follow 8194 _ (by decide) | with_reducible apply @agree_mdPins 8194 _ (by decide) | with_reducible refine Agree.of_snd (by assumption) ?_ | with_reducible refine Agree.of_fst (by assumption) ?_ | split | dsimp only | (intro t ht; with_reducible assumption) | intro)

theorem agree_pllUnlock {μ : Nat} {σ : State} (hK : 8194 ||| μ = μ) (i : Nat) (s : State) (hA : Agree μ σ s) : Agree μ σ (pllUnlock i s) := by
  refine Agree.step (k := 8194) ?_ hK hA
  clear hA hK
  unfold pllUnlock
  repeat' (first | (intro x; first | (refine (fun (hx : Agree 8194 s x) => ?_) ?_; clear_value x; rotate_left; subst x) | subst x) | lift_lets -underBinder | with_reducible exact Agree.refl _ _ | with_reducible assumption | with_reducible apply @agree_follow 8194 _ (by decide) | with_reducible apply @agree_mdPins 8194 _ (by decide) | with_reducible refine Agree.of_snd (by assumption) ?_ | with_reducible refine Agree.of_fst (by assumption) ?_ | split | dsimp only | (intro t ht; with_reducible assumption) | intro)

theorem agree_railNotGood {μ : Nat} {σ : State} (hK : 67108743 ||| μ = μ) (k : Nat) (s : State) (hA : Agree μ σ s) : Agree μ σ (railNotGood k s) := by
  refine Agree.step (k := 67108743) ?_ hK hA
  clear hA hK
  unfold railNotGood
  repeat' (first | (intro x; first | (refine (fun (hx : Agree 67108743 s x) => ?_) ?_; clear_value x; rotate_left; subst x) | subst x) | lift_lets -underBinder | with_reducible exact Agree.refl _ _ | with_reducible assumption | with_reducible refine Agree.forN ?_ ?_ | with_reducible apply @agree_mdPins 67108743 _ (by decide) | with_reducible apply @agree_toHold 67108743 _ (by decide) | with_reducible apply @agree_fabReset 67108743 _ (by decide) | with_reducible apply @agree_flashDown 67108743 _ (by decide) | with_reducible apply @agree_moverDown 67108743 _ (by decide) | with_reducible apply @agree_portsReset 67108743 _ (by decide) | with_reducible apply @agree_restoresAgain 67108743 _ (by decide) | with_reducible refine Agree.of_snd (by assumption) ?_ | with_reducible refine Agree.of_fst (by assumption) ?_ | split | dsimp only | (intro t ht; with_reducible assumption) | intro)

theorem agree_refclkAbsent {μ : Nat} {σ : State} (hK : 2 ||| μ = μ) (s : State) (hA : Agree μ σ s) : Agree μ σ (refclkAbsent s) := by
  refine Agree.step (k := 2) ?_ hK hA
  clear hA hK
  unfold refclkAbsent
  repeat' (first | (intro x; first | (refine (fun (hx : Agree 2 s x) => ?_) ?_; clear_value x; rotate_left; subst x) | subst x) | lift_lets -underBinder | with_reducible exact Agree.refl _ _ | with_reducible assumption | with_reducible apply @agree_mdPins 2 _ (by decide) | with_reducible refine Agree.of_snd (by assumption) ?_ | with_reducible refine Agree.of_fst (by assumption) ?_ | split | dsimp only | (intro t ht; with_reducible assumption) | intro)

theorem agree_refclkStop {μ : Nat} {σ : State} (hK : 8194 ||| μ = μ) (s : State) (hA : Agree μ σ s) : Agree μ σ (refclkStop s) := by
  refine Agree.step (k := 8194) ?_ hK hA
  clear hA hK
  unfold refclkStop
  repeat' (first | (intro x; first | (refine (fun (hx : Agree 8194 s x) => ?_) ?_; clear_value x; rotate_left; subst x) | subst x) | lift_lets -underBinder | with_reducible exact Agree.refl _ _ | with_reducible assumption | with_reducible apply @agree_follow 8194 _ (by decide) | with_reducible apply @agree_mdPins 8194 _ (by decide) | with_reducible refine Agree.of_snd (by assumption) ?_ | with_reducible refine Agree.of_fst (by assumption) ?_ | split | dsimp only | (intro t ht; with_reducible assumption) | intro)

theorem agree_supplyGood {μ : Nat} {σ : State} (hK : 28582147 ||| μ = μ) (k : Nat) (s : State) (hA : Agree μ σ s) : Agree μ σ (supplyGood k s) := by
  refine Agree.step (k := 28582147) ?_ hK hA
  clear hA hK
  unfold supplyGood
  repeat' (first | (intro x; first | (refine (fun (hx : Agree 28582147 s x) => ?_) ?_; clear_value x; rotate_left; subst x) | subst x) | lift_lets -underBinder | with_reducible exact Agree.refl _ _ | with_reducible assumption | with_reducible apply @agree_mdPins 28582147 _ (by decide) | with_reducible apply @agree_fabStart 28582147 _ (by decide) | with_reducible apply @agree_moverUp 28582147 _ (by decide) | with_reducible refine Agree.of_snd (by assumption) ?_ | with_reducible refine Agree.of_fst (by assumption) ?_ | split | dsimp only | (intro t ht; with_reducible assumption) | intro)

theorem agree_switchOver {μ : Nat} {σ : State} (hK : 16644 ||| μ = μ) (toA : Bool) (s : State) (hA : Agree μ σ s) : Agree μ σ (switchOver toA s) := by
  refine Agree.step (k := 16644) ?_ hK hA
  clear hA hK
  unfold switchOver
  repeat' (first | (intro x; first | (refine (fun (hx : Agree 16644 s x) => ?_) ?_; clear_value x; rotate_left; subst x) | subst x) | lift_lets -underBinder | with_reducible exact Agree.refl _ _ | with_reducible assumption | with_reducible apply @agree_count 16644 _ (by decide) | with_reducible apply @agree_mdAon 16644 _ (by decide) | with_reducible refine Agree.of_snd (by assumption) ?_ | with_reducible refine Agree.of_fst (by assumption) ?_ | split | dsimp only | (intro t ht; with_reducible assumption) | intro)

theorem agree_vaonSource {μ : Nat} {σ : State} (hK : 8192 ||| μ = μ) (s : State) (hA : Agree μ σ s) : Agree μ σ (vaonSource s) := by
  refine Agree.step (k := 8192) ?_ hK hA
  clear hA hK
  unfold vaonSource
  repeat' (first | (intro x; first | (refine (fun (hx : Agree 8192 s x) => ?_) ?_; clear_value x; rotate_left; subst x) | subst x) | lift_lets -underBinder | with_reducible exact Agree.refl _ _ | with_reducible assumption | with_reducible apply @agree_follow 8192 _ (by decide) | with_reducible refine Agree.of_snd (by assumption) ?_ | with_reducible refine Agree.of_fst (by assumption) ?_ | split | dsimp only | (intro t ht; with_reducible assumption) | intro)

theorem agree_vaonALoss {μ : Nat} {σ : State} (hK : 24838 ||| μ = μ) (s : State) (hA : Agree μ σ s) : Agree μ σ (vaonALoss s) := by
  refine Agree.step (k := 24838) ?_ hK hA
  clear hA hK
  unfold vaonALoss
  repeat' (first | (intro x; first | (refine (fun (hx : Agree 24838 s x) => ?_) ?_; clear_value x; rotate_left; subst x) | subst x) | lift_lets -underBinder | with_reducible exact Agree.refl _ _ | with_reducible assumption | with_reducible apply @agree_mdPins 24838 _ (by decide) | with_reducible apply @agree_switchOver 24838 _ (by decide) | with_reducible apply @agree_vaonSource 24838 _ (by decide) | with_reducible refine Agree.of_snd (by assumption) ?_ | with_reducible refine Agree.of_fst (by assumption) ?_ | split | dsimp only | (intro t ht; with_reducible assumption) | intro)

theorem agree_vaonAReturn {μ : Nat} {σ : State} (hK : 24838 ||| μ = μ) (s : State) (hA : Agree μ σ s) : Agree μ σ (vaonAReturn s) := by
  refine Agree.step (k := 24838) ?_ hK hA
  clear hA hK
  unfold vaonAReturn
  repeat' (first | (intro x; first | (refine (fun (hx : Agree 24838 s x) => ?_) ?_; clear_value x; rotate_left; subst x) | subst x) | lift_lets -underBinder | with_reducible exact Agree.refl _ _ | with_reducible assumption | with_reducible apply @agree_mdPins 24838 _ (by decide) | with_reducible apply @agree_switchOver 24838 _ (by decide) | with_reducible apply @agree_vaonSource 24838 _ (by decide) | with_reducible refine Agree.of_snd (by assumption) ?_ | with_reducible refine Agree.of_fst (by assumption) ?_ | split | dsimp only | (intro t ht; with_reducible assumption) | intro)

theorem agree_vaonBCross {μ : Nat} {σ : State} (hK : 8194 ||| μ = μ) (up : Bool) (s : State) (hA : Agree μ σ s) : Agree μ σ (vaonBCross up s) := by
  refine Agree.step (k := 8194) ?_ hK hA
  clear hA hK
  unfold vaonBCross
  repeat' (first | (intro x; first | (refine (fun (hx : Agree 8194 s x) => ?_) ?_; clear_value x; rotate_left; subst x) | subst x) | lift_lets -underBinder | with_reducible exact Agree.refl _ _ | with_reducible assumption | with_reducible apply @agree_mdPins 8194 _ (by decide) | with_reducible apply @agree_vaonSource 8194 _ (by decide) | with_reducible refine Agree.of_snd (by assumption) ?_ | with_reducible refine Agree.of_fst (by assumption) ?_ | split | dsimp only | (intro t ht; with_reducible assumption) | intro)

theorem agree_vaonBothLost {μ : Nat} {σ : State} (hK : 67108743 ||| μ = μ) (s : State) (hA : Agree μ σ s) : Agree μ σ (vaonBothLost s) := by
  refine Agree.step (k := 67108743) ?_ hK hA
  clear hA hK
  unfold vaonBothLost
  repeat' (first | (intro x; first | (refine (fun (hx : Agree 67108743 s x) => ?_) ?_; clear_value x; rotate_left; subst x) | subst x) | lift_lets -underBinder | with_reducible exact Agree.refl _ _ | with_reducible assumption | ((conv => (arg 3; arg 27; skip)); with_reducible refine Agree.upd_aon_top_pair _ _ _ (by decide) ?_) | with_reducible apply @agree_mdPins 67108743 _ (by decide) | with_reducible apply @agree_ctlReset 67108743 _ (by decide) | with_reducible refine Agree.of_snd (by assumption) ?_ | with_reducible refine Agree.of_fst (by assumption) ?_ | split | dsimp only | (intro t ht; with_reducible assumption) | intro)

theorem agree_vaonRise {μ : Nat} {σ : State} (hK : 8326 ||| μ = μ) (b : Bool) (away : Bool) (s : State) (hA : Agree μ σ s) : Agree μ σ (vaonRise b away s) := by
  refine Agree.step (k := 8326) ?_ hK hA
  clear hA hK
  unfold vaonRise
  repeat' (first | (intro x; first | (refine (fun (hx : Agree 8326 s x) => ?_) ?_; clear_value x; rotate_left; subst x) | subst x) | lift_lets -underBinder | with_reducible exact Agree.refl _ _ | with_reducible assumption | with_reducible apply @agree_mdPins 8326 _ (by decide) | with_reducible apply @agree_mdTop 8326 _ (by decide) | with_reducible apply @agree_enter 8326 _ (by decide) | with_reducible apply @agree_mdAon 8326 _ (by decide) | with_reducible apply @agree_vaonSource 8326 _ (by decide) | with_reducible refine Agree.of_snd (by assumption) ?_ | with_reducible refine Agree.of_fst (by assumption) ?_ | split | dsimp only | (intro t ht; with_reducible assumption) | intro)

end State
end Sys2Proof.Machine
end

