-- ==== Sys2Proof/Laws/AgreeTrip.lean ====
section
/-! SUPPORT. The fields of State that each function of Machine/Trip.lean can change. -/
set_option Elab.async false

set_option linter.unusedTactic false
set_option linter.unreachableTactic false

namespace Sys2Proof.Machine
namespace State

theorem agree_slotStop {μ : Nat} {σ : State} (hK : 16384 ||| μ = μ) (s : State) (hA : Agree μ σ s) : Agree μ σ (slotStop s) := by
  refine Agree.step (k := 16384) ?_ hK hA
  clear hA hK
  unfold slotStop
  repeat' (first | (intro x; first | (refine (fun (hx : Agree 16384 s x) => ?_) ?_; clear_value x; rotate_left; subst x) | subst x) | lift_lets -underBinder | with_reducible exact Agree.refl _ _ | with_reducible assumption | ((conv => (arg 3; arg 27; skip)); with_reducible refine Agree.upd_ledg _ (by decide) ?_) | with_reducible refine Agree.of_snd (by assumption) ?_ | with_reducible refine Agree.of_fst (by assumption) ?_ | split | dsimp only | (intro t ht; with_reducible assumption) | intro)

theorem agree_clearForces {μ : Nat} {σ : State} (hK : 8704 ||| μ = μ) (s : State) (hA : Agree μ σ s) : Agree μ σ (clearForces s) := by
  refine Agree.step (k := 8704) ?_ hK hA
  clear hA hK
  unfold clearForces
  repeat' (first | (intro x; first | (refine (fun (hx : Agree 8704 s x) => ?_) ?_; clear_value x; rotate_left; subst x) | subst x) | lift_lets -underBinder | with_reducible exact Agree.refl _ _ | with_reducible assumption | ((conv => (arg 3; arg 27; skip)); with_reducible refine Agree.upd_flt _ (by decide) ?_) | ((conv => (arg 3; arg 27; skip)); with_reducible refine Agree.upd_ctrl_flt _ _ (by decide) ?_) | with_reducible refine Agree.forL ?_ ?_ | with_reducible apply @agree_pairSeen 8704 _ (by decide) | with_reducible refine Agree.of_snd (by assumption) ?_ | with_reducible refine Agree.of_fst (by assumption) ?_ | split | dsimp only | (intro t ht; with_reducible assumption) | intro)

theorem agree_cmdTrip {μ : Nat} {σ : State} (hK : 182528 ||| μ = μ) (cal : Bool) (s : State) (hA : Agree μ σ s) : Agree μ σ (cmdTrip cal s) := by
  refine Agree.step (k := 182528) ?_ hK hA
  clear hA hK
  unfold cmdTrip
  repeat' (first | (intro x; first | (refine (fun (hx : Agree 182528 s x) => ?_) ?_; clear_value x; rotate_left; subst x) | subst x) | lift_lets -underBinder | with_reducible exact Agree.refl _ _ | with_reducible assumption | ((conv => (arg 3; arg 27; skip)); with_reducible refine Agree.upd_ledg _ (by decide) ?_) | ((conv => (arg 3; arg 27; skip)); with_reducible refine Agree.upd_bimg _ (by decide) ?_) | ((conv => (arg 3; arg 27; skip)); with_reducible refine Agree.upd_nrg _ (by decide) ?_) | with_reducible apply @agree_cmdEnd 182528 _ (by decide) | with_reducible apply @agree_slotStop 182528 _ (by decide) | with_reducible refine Agree.of_snd (by assumption) ?_ | with_reducible refine Agree.of_fst (by assumption) ?_ | split | dsimp only | (intro t ht; with_reducible assumption) | intro)

theorem agree_drillTrip {μ : Nat} {σ : State} (hK : 33556736 ||| μ = μ) (own : Bool) (s : State) (hA : Agree μ σ s) : Agree μ σ (drillTrip own s) := by
  refine Agree.step (k := 33556736) ?_ hK hA
  clear hA hK
  unfold drillTrip
  repeat' (first | (intro x; first | (refine (fun (hx : Agree 33556736 s x) => ?_) ?_; clear_value x; rotate_left; subst x) | subst x) | lift_lets -underBinder | with_reducible exact Agree.refl _ _ | with_reducible assumption | with_reducible apply @agree_setEvt 33556736 _ (by decide) | with_reducible apply @agree_cmdEnd 33556736 _ (by decide) | with_reducible apply @agree_mdPair 33556736 _ (by decide) | with_reducible refine Agree.of_snd (by assumption) ?_ | with_reducible refine Agree.of_fst (by assumption) ?_ | split | dsimp only | (intro t ht; with_reducible assumption) | intro)

theorem agree_enterSave {μ : Nat} {σ : State} (hK : 50330501 ||| μ = μ) (rank : Nat) (also : BitVec 8) (test : Bool) (cal : Bool) (s : State) (hA : Agree μ σ s) : Agree μ σ (enterSave rank also test cal s) := by
  refine Agree.step (k := 50330501) ?_ hK hA
  clear hA hK
  unfold enterSave
  repeat' (first | (intro x; first | (refine (fun (hx : Agree 50330501 s x) => ?_) ?_; clear_value x; rotate_left; subst x) | subst x) | lift_lets -underBinder | with_reducible exact Agree.refl _ _ | with_reducible assumption | with_reducible apply @agree_setEvt 50330501 _ (by decide) | with_reducible apply @agree_mdPair 50330501 _ (by decide) | with_reducible apply @agree_pump 50330501 _ (by decide) | with_reducible apply @agree_clearForces 50330501 _ (by decide) | with_reducible apply @agree_calIssue 50330501 _ (by decide) | with_reducible apply @agree_clearHold 50330501 _ (by decide) | with_reducible apply @agree_cmdTrip 50330501 _ (by decide) | with_reducible apply @agree_drillTrip 50330501 _ (by decide) | with_reducible apply @agree_enter 50330501 _ (by decide) | with_reducible apply @agree_jobsTrip 50330501 _ (by decide) | with_reducible apply @agree_learnTrip 50330501 _ (by decide) | with_reducible apply @agree_marginCancel 50330501 _ (by decide) | with_reducible apply @agree_saveProfileDown 50330501 _ (by decide) | with_reducible apply @agree_promote 50330501 _ (by decide) | with_reducible apply @agree_retRecord 50330501 _ (by decide) | with_reducible apply @agree_retStop 50330501 _ (by decide) | with_reducible apply @agree_saveBegin 50330501 _ (by decide) | with_reducible apply @agree_shortRec 50330501 _ (by decide) | with_reducible apply @agree_stageTrip 50330501 _ (by decide) | with_reducible refine Agree.of_snd (by assumption) ?_ | with_reducible refine Agree.of_fst (by assumption) ?_ | split | dsimp only | (intro t ht; with_reducible assumption) | intro)

theorem agree_trip {μ : Nat} {σ : State} (hK : 50330501 ||| μ = μ) (rank : Nat) (also : BitVec 8) (s0 : State) (hA : Agree μ σ s0) : Agree μ σ (trip rank also s0) := by
  refine Agree.step (k := 50330501) ?_ hK hA
  clear hA hK
  unfold trip
  repeat' (first | (intro x; first | (refine (fun (hx : Agree 50330501 s0 x) => ?_) ?_; clear_value x; rotate_left; subst x) | subst x) | lift_lets -underBinder | with_reducible exact Agree.refl _ _ | with_reducible assumption | with_reducible apply @agree_arrive 50330501 _ (by decide) | with_reducible apply @agree_assertFrz 50330501 _ (by decide) | with_reducible apply @agree_clearForces 50330501 _ (by decide) | with_reducible apply @agree_enterSave 50330501 _ (by decide) | with_reducible apply @agree_saveLate 50330501 _ (by decide) | with_reducible apply @agree_tripNoSave 50330501 _ (by decide) | with_reducible refine Agree.of_snd (by assumption) ?_ | with_reducible refine Agree.of_fst (by assumption) ?_ | split | dsimp only | (intro t ht; with_reducible assumption) | intro)

theorem agree_acgLoss {μ : Nat} {σ : State} (hK : 50330503 ||| μ = μ) (n : Nat) (also : BitVec 8) (s : State) (hA : Agree μ σ s) : Agree μ σ (acgLoss n also s) := by
  refine Agree.step (k := 50330503) ?_ hK hA
  clear hA hK
  unfold acgLoss
  repeat' (first | (intro x; first | (refine (fun (hx : Agree 50330503 s x) => ?_) ?_; clear_value x; rotate_left; subst x) | subst x) | lift_lets -underBinder | with_reducible exact Agree.refl _ _ | with_reducible assumption | with_reducible apply @agree_inputGone 50330503 _ (by decide) | with_reducible apply @agree_mdPins 50330503 _ (by decide) | with_reducible apply @agree_trip 50330503 _ (by decide) | with_reducible refine Agree.of_snd (by assumption) ?_ | with_reducible refine Agree.of_fst (by assumption) ?_ | split | dsimp only | (intro t ht; with_reducible assumption) | intro)

theorem agree_pfiSag {μ : Nat} {σ : State} (hK : 50330503 ||| μ = μ) (also : BitVec 8) (s : State) (hA : Agree μ σ s) : Agree μ σ (pfiSag also s) := by
  refine Agree.step (k := 50330503) ?_ hK hA
  clear hA hK
  unfold pfiSag
  repeat' (first | (intro x; first | (refine (fun (hx : Agree 50330503 s x) => ?_) ?_; clear_value x; rotate_left; subst x) | subst x) | lift_lets -underBinder | with_reducible exact Agree.refl _ _ | with_reducible assumption | with_reducible apply @agree_riseAbort 50330503 _ (by decide) | with_reducible apply @agree_trip 50330503 _ (by decide) | with_reducible apply @agree_sagSupply 50330503 _ (by decide) | with_reducible refine Agree.of_snd (by assumption) ?_ | with_reducible refine Agree.of_fst (by assumption) ?_ | split | dsimp only | (intro t ht; with_reducible assumption) | intro)

theorem agree_testTrip {μ : Nat} {σ : State} (hK : 50330501 ||| μ = μ) (w : Word) (also : BitVec 8) (s : State) (hA : Agree μ σ s) : Agree μ σ (testTrip w also s) := by
  refine Agree.step (k := 50330501) ?_ hK hA
  clear hA hK
  unfold testTrip
  repeat' (first | (intro x; first | (refine (fun (hx : Agree 50330501 s x) => ?_) ?_; clear_value x; rotate_left; subst x) | subst x) | lift_lets -underBinder | with_reducible exact Agree.refl _ _ | with_reducible assumption | with_reducible apply @agree_arrive 50330501 _ (by decide) | with_reducible apply @agree_enterSave 50330501 _ (by decide) | with_reducible refine Agree.of_snd (by assumption) ?_ | with_reducible refine Agree.of_fst (by assumption) ?_ | split | dsimp only | (intro t ht; with_reducible assumption) | intro)

end State
end Sys2Proof.Machine
end

