-- ==== Sys2Proof/Laws/AgreeFaults.lean ====
section
/-! SUPPORT. The fields of State that each function of Machine/Faults.lean can change. -/
set_option Elab.async false

set_option linter.unusedTactic false
set_option linter.unreachableTactic false

namespace Sys2Proof.Machine
namespace State

theorem agree_mdFlt {μ : Nat} {σ : State} (hK : 8192 ||| μ = μ) (f : Flt → Flt) (s : State) (hA : Agree μ σ s) : Agree μ σ (mdFlt f s) := by
  refine Agree.step (k := 8192) ?_ hK hA
  clear hA hK
  unfold mdFlt
  repeat' (first | (intro x; first | (refine (fun (hx : Agree 8192 s x) => ?_) ?_; clear_value x; rotate_left; subst x) | subst x) | lift_lets -underBinder | with_reducible exact Agree.refl _ _ | with_reducible assumption | ((conv => (arg 3; arg 27; skip)); with_reducible refine Agree.upd_flt _ (by decide) ?_) | with_reducible refine Agree.of_snd (by assumption) ?_ | with_reducible refine Agree.of_fst (by assumption) ?_ | split | dsimp only | (intro t ht; with_reducible assumption) | intro)

theorem agree_blockEffect {μ : Nat} {σ : State} (hK : 66351872 ||| μ = μ) (b : Nat) (s : State) (hA : Agree μ σ s) : Agree μ σ (blockEffect b s) := by
  refine Agree.step (k := 66351872) ?_ hK hA
  clear hA hK
  unfold blockEffect
  repeat' (first | (intro x; first | (refine (fun (hx : Agree 66351872 s x) => ?_) ?_; clear_value x; rotate_left; subst x) | subst x) | lift_lets -underBinder | with_reducible exact Agree.refl _ _ | with_reducible assumption | ((conv => (arg 3; arg 27; skip)); with_reducible refine Agree.upd_rp _ (by decide) ?_) | ((conv => (arg 3; arg 27; skip)); with_reducible refine Agree.upd_ledg _ (by decide) ?_) | with_reducible apply @agree_fabReset 66351872 _ (by decide) | with_reducible apply @agree_flashDown 66351872 _ (by decide) | with_reducible apply @agree_moverDown 66351872 _ (by decide) | with_reducible apply @agree_portsReset 66351872 _ (by decide) | with_reducible apply @agree_recDone 66351872 _ (by decide) | with_reducible apply @agree_restoresAgain 66351872 _ (by decide) | with_reducible refine Agree.of_snd (by assumption) ?_ | with_reducible refine Agree.of_fst (by assumption) ?_ | split | dsimp only | (intro t ht; with_reducible assumption) | intro)

theorem agree_blockReset {μ : Nat} {σ : State} (hK : 66351872 ||| μ = μ) (b : Nat) (k : Nat) (s : State) (hA : Agree μ σ s) : Agree μ σ (blockReset b k s) := by
  refine Agree.step (k := 66351872) ?_ hK hA
  clear hA hK
  unfold blockReset
  repeat' (first | (intro x; first | (refine (fun (hx : Agree 66351872 s x) => ?_) ?_; clear_value x; rotate_left; subst x) | subst x) | lift_lets -underBinder | with_reducible exact Agree.refl _ _ | with_reducible assumption | with_reducible apply @agree_mdFlt 66351872 _ (by decide) | with_reducible apply @agree_blockEffect 66351872 _ (by decide) | with_reducible refine Agree.of_snd (by assumption) ?_ | with_reducible refine Agree.of_fst (by assumption) ?_ | split | dsimp only | (intro t ht; with_reducible assumption) | intro)

theorem agree_classClear {μ : Nat} {σ : State} (hK : 8196 ||| μ = μ) (c : Nat) (s : State) (hA : Agree μ σ s) : Agree μ σ (classClear c s) := by
  refine Agree.step (k := 8196) ?_ hK hA
  clear hA hK
  unfold classClear
  repeat' (first | (intro x; first | (refine (fun (hx : Agree 8196 s x) => ?_) ?_; clear_value x; rotate_left; subst x) | subst x) | lift_lets -underBinder | with_reducible exact Agree.refl _ _ | with_reducible assumption | with_reducible apply @agree_mdAon 8196 _ (by decide) | with_reducible apply @agree_mdFlt 8196 _ (by decide) | with_reducible refine Agree.of_snd (by assumption) ?_ | with_reducible refine Agree.of_fst (by assumption) ?_ | split | dsimp only | (intro t ht; with_reducible assumption) | intro)

theorem agree_classHit {μ : Nat} {σ : State} (hK : 8576 ||| μ = μ) (c : Nat) (s : State) (hA : Agree μ σ s) : Agree μ σ (classHit c s).2 := by
  refine Agree.step (k := 8576) ?_ hK hA
  clear hA hK
  unfold classHit
  repeat' (first | (intro x; first | (refine (fun (hx : Agree 8576 s x) => ?_) ?_; clear_value x; rotate_left; subst x) | subst x) | lift_lets -underBinder | with_reducible exact Agree.refl _ _ | with_reducible assumption | with_reducible apply @agree_setEvt 8576 _ (by decide) | with_reducible apply @agree_mdTop 8576 _ (by decide) | with_reducible apply @agree_mdFlt 8576 _ (by decide) | with_reducible refine Agree.of_snd (by assumption) ?_ | with_reducible refine Agree.of_fst (by assumption) ?_ | split | dsimp only | (intro t ht; with_reducible assumption) | intro)

theorem agree_clrFirst {μ : Nat} {σ : State} (hK : 8192 ||| μ = μ) (s : State) (hA : Agree μ σ s) : Agree μ σ (clrFirst s) := by
  refine Agree.step (k := 8192) ?_ hK hA
  clear hA hK
  unfold clrFirst
  repeat' (first | (intro x; first | (refine (fun (hx : Agree 8192 s x) => ?_) ?_; clear_value x; rotate_left; subst x) | subst x) | lift_lets -underBinder | with_reducible exact Agree.refl _ _ | with_reducible assumption | with_reducible apply @agree_mdFlt 8192 _ (by decide) | with_reducible refine Agree.of_snd (by assumption) ?_ | with_reducible refine Agree.of_fst (by assumption) ?_ | split | dsimp only | (intro t ht; with_reducible assumption) | intro)

theorem agree_expireSubs {μ : Nat} {σ : State} (hK : 8192 ||| μ = μ) (s : State) (hA : Agree μ σ s) : Agree μ σ (expireSubs s) := by
  refine Agree.step (k := 8192) ?_ hK hA
  clear hA hK
  unfold expireSubs
  repeat' (first | (intro x; first | (refine (fun (hx : Agree 8192 s x) => ?_) ?_; clear_value x; rotate_left; subst x) | subst x) | lift_lets -underBinder | with_reducible exact Agree.refl _ _ | with_reducible assumption | with_reducible apply @agree_mdFlt 8192 _ (by decide) | with_reducible refine Agree.of_snd (by assumption) ?_ | with_reducible refine Agree.of_fst (by assumption) ?_ | split | dsimp only | (intro t ht; with_reducible assumption) | intro)

theorem agree_mdSub {μ : Nat} {σ : State} (hK : 8192 ||| μ = μ) (src : Nat) (sub : Nat) (f : SubSrc → SubSrc) (s : State) (hA : Agree μ σ s) : Agree μ σ (mdSub src sub f s) := by
  refine Agree.step (k := 8192) ?_ hK hA
  clear hA hK
  unfold mdSub
  repeat' (first | (intro x; first | (refine (fun (hx : Agree 8192 s x) => ?_) ?_; clear_value x; rotate_left; subst x) | subst x) | lift_lets -underBinder | with_reducible exact Agree.refl _ _ | with_reducible assumption | with_reducible apply @agree_mdFlt 8192 _ (by decide) | with_reducible refine Agree.of_snd (by assumption) ?_ | with_reducible refine Agree.of_fst (by assumption) ?_ | split | dsimp only | (intro t ht; with_reducible assumption) | intro)

theorem agree_faultTrip {μ : Nat} {σ : State} (hK : 50330501 ||| μ = μ) (s : State) (hA : Agree μ σ s) : Agree μ σ (faultTrip s) := by
  refine Agree.step (k := 50330501) ?_ hK hA
  clear hA hK
  unfold faultTrip
  repeat' (first | (intro x; first | (refine (fun (hx : Agree 50330501 s x) => ?_) ?_; clear_value x; rotate_left; subst x) | subst x) | lift_lets -underBinder | with_reducible exact Agree.refl _ _ | with_reducible assumption | with_reducible apply @agree_trip 50330501 _ (by decide) | with_reducible refine Agree.of_snd (by assumption) ?_ | with_reducible refine Agree.of_fst (by assumption) ?_ | split | dsimp only | (intro t ht; with_reducible assumption) | intro)

theorem agree_isolate {μ : Nat} {σ : State} (hK : 14950400 ||| μ = μ) (p : Nat) (s : State) (hA : Agree μ σ s) : Agree μ σ (isolate p s) := by
  refine Agree.step (k := 14950400) ?_ hK hA
  clear hA hK
  unfold isolate
  repeat' (first | (intro x; first | (refine (fun (hx : Agree 14950400 s x) => ?_) ?_; clear_value x; rotate_left; subst x) | subst x) | lift_lets -underBinder | with_reducible exact Agree.refl _ _ | with_reducible assumption | with_reducible apply @agree_mdFlt 14950400 _ (by decide) | with_reducible apply @agree_mdSv 14950400 _ (by decide) | with_reducible apply @agree_portsDown 14950400 _ (by decide) | with_reducible refine Agree.of_snd (by assumption) ?_ | with_reducible refine Agree.of_fst (by assumption) ?_ | split | dsimp only | (intro t ht; with_reducible assumption) | intro)

theorem agree_requestReset {μ : Nat} {σ : State} (hK : 66351872 ||| μ = μ) (b : Nat) (k : Nat) (s : State) (hA : Agree μ σ s) : Agree μ σ (requestReset b k s) := by
  refine Agree.step (k := 66351872) ?_ hK hA
  clear hA hK
  unfold requestReset
  repeat' (first | (intro x; first | (refine (fun (hx : Agree 66351872 s x) => ?_) ?_; clear_value x; rotate_left; subst x) | subst x) | lift_lets -underBinder | with_reducible exact Agree.refl _ _ | with_reducible assumption | with_reducible apply @agree_mdFlt 66351872 _ (by decide) | with_reducible apply @agree_blockReset 66351872 _ (by decide) | with_reducible refine Agree.of_snd (by assumption) ?_ | with_reducible refine Agree.of_fst (by assumption) ?_ | split | dsimp only | (intro t ht; with_reducible assumption) | intro)

theorem agree_yieldNow {μ : Nat} {σ : State} (hK : 67108743 ||| μ = μ) (s : State) (hA : Agree μ σ s) : Agree μ σ (yieldNow s) := by
  refine Agree.step (k := 67108743) ?_ hK hA
  clear hA hK
  unfold yieldNow
  repeat' (first | (intro x; first | (refine (fun (hx : Agree 67108743 s x) => ?_) ?_; clear_value x; rotate_left; subst x) | subst x) | lift_lets -underBinder | with_reducible exact Agree.refl _ _ | with_reducible assumption | with_reducible apply @agree_psend 67108743 _ (by decide) | with_reducible apply @agree_releaseToken 67108743 _ (by decide) | with_reducible apply @agree_warmBoot 67108743 _ (by decide) | with_reducible refine Agree.of_snd (by assumption) ?_ | with_reducible refine Agree.of_fst (by assumption) ?_ | split | dsimp only | (intro t ht; with_reducible assumption) | intro)

theorem agree_requestTakeover {μ : Nat} {σ : State} (hK : 67108743 ||| μ = μ) (s : State) (hA : Agree μ σ s) : Agree μ σ (requestTakeover s) := by
  refine Agree.step (k := 67108743) ?_ hK hA
  clear hA hK
  unfold requestTakeover
  repeat' (first | (intro x; first | (refine (fun (hx : Agree 67108743 s x) => ?_) ?_; clear_value x; rotate_left; subst x) | subst x) | lift_lets -underBinder | with_reducible exact Agree.refl _ _ | with_reducible assumption | with_reducible apply @agree_mdPair 67108743 _ (by decide) | with_reducible apply @agree_yieldNow 67108743 _ (by decide) | with_reducible refine Agree.of_snd (by assumption) ?_ | with_reducible refine Agree.of_fst (by assumption) ?_ | split | dsimp only | (intro t ht; with_reducible assumption) | intro)

theorem agree_react {μ : Nat} {σ : State} (hK : 67108743 ||| μ = μ) (c : SrcCfg) (src : Nat) (sub : Nat) (forced : Bool) (s : State) (hA : Agree μ σ s) : Agree μ σ (react c src sub forced s) := by
  refine Agree.step (k := 67108743) ?_ hK hA
  clear hA hK
  unfold react
  repeat' (first | (intro x; first | (refine (fun (hx : Agree 67108743 s x) => ?_) ?_; clear_value x; rotate_left; subst x) | subst x) | lift_lets -underBinder | with_reducible exact Agree.refl _ _ | with_reducible assumption | with_reducible refine Agree.forL ?_ ?_ | with_reducible apply @agree_setEvt 67108743 _ (by decide) | with_reducible apply @agree_count 67108743 _ (by decide) | with_reducible apply @agree_when 67108743 _ (by decide) | with_reducible apply @agree_faultTrip 67108743 _ (by decide) | with_reducible apply @agree_isolate 67108743 _ (by decide) | with_reducible apply @agree_requestReset 67108743 _ (by decide) | with_reducible apply @agree_requestTakeover 67108743 _ (by decide) | with_reducible refine Agree.of_snd (by assumption) ?_ | with_reducible refine Agree.of_fst (by assumption) ?_ | split | dsimp only | (intro t ht; with_reducible assumption) | intro)

theorem agree_registerSrc {μ : Nat} {σ : State} (hK : 67108743 ||| μ = μ) (src : Nat) (sub : Nat) (atClose : Bool) (s : State) (hA : Agree μ σ s) : Agree μ σ (registerSrc src sub atClose s) := by
  refine Agree.step (k := 67108743) ?_ hK hA
  clear hA hK
  unfold registerSrc
  repeat' (first | (intro x; first | (refine (fun (hx : Agree 67108743 s x) => ?_) ?_; clear_value x; rotate_left; subst x) | subst x) | lift_lets -underBinder | with_reducible exact Agree.refl _ _ | with_reducible assumption | with_reducible apply @agree_count 67108743 _ (by decide) | with_reducible apply @agree_mdFlt 67108743 _ (by decide) | with_reducible apply @agree_classHit 67108743 _ (by decide) | with_reducible apply @agree_mdSub 67108743 _ (by decide) | with_reducible apply @agree_react 67108743 _ (by decide) | with_reducible refine Agree.of_snd (by assumption) ?_ | with_reducible refine Agree.of_fst (by assumption) ?_ | split | dsimp only | (intro t ht; with_reducible assumption) | intro)

theorem agree_regLive {μ : Nat} {σ : State} (hK : 67108743 ||| μ = μ) (src : Nat) (sub : Nat) (s : State) (hA : Agree μ σ s) : Agree μ σ (regLive src sub s) := by
  refine Agree.step (k := 67108743) ?_ hK hA
  clear hA hK
  unfold regLive
  repeat' (first | (intro x; first | (refine (fun (hx : Agree 67108743 s x) => ?_) ?_; clear_value x; rotate_left; subst x) | subst x) | lift_lets -underBinder | with_reducible exact Agree.refl _ _ | with_reducible assumption | with_reducible apply @agree_mdSub 67108743 _ (by decide) | with_reducible apply @agree_registerSrc 67108743 _ (by decide) | with_reducible refine Agree.of_snd (by assumption) ?_ | with_reducible refine Agree.of_fst (by assumption) ?_ | split | dsimp only | (intro t ht; with_reducible assumption) | intro)

theorem agree_faultReg {μ : Nat} {σ : State} (hK : 67108743 ||| μ = μ) (src : Nat) (sub : Nat) (s0 : State) (hA : Agree μ σ s0) : Agree μ σ (faultReg src sub s0) := by
  refine Agree.step (k := 67108743) ?_ hK hA
  clear hA hK
  unfold faultReg
  repeat' (first | (intro x; first | (refine (fun (hx : Agree 67108743 s0 x) => ?_) ?_; clear_value x; rotate_left; subst x) | subst x) | lift_lets -underBinder | with_reducible exact Agree.refl _ _ | with_reducible assumption | with_reducible apply @agree_arrive 67108743 _ (by decide) | with_reducible apply @agree_raiseTurn 67108743 _ (by decide) | with_reducible apply @agree_regLive 67108743 _ (by decide) | with_reducible refine Agree.of_snd (by assumption) ?_ | with_reducible refine Agree.of_fst (by assumption) ?_ | split | dsimp only | (intro t ht; with_reducible assumption) | intro)

theorem agree_forceBit {μ : Nat} {σ : State} (hK : 8192 ||| μ = μ) (src : Nat) (s : State) (hA : Agree μ σ s) : Agree μ σ (forceBit src s) := by
  refine Agree.step (k := 8192) ?_ hK hA
  clear hA hK
  unfold forceBit
  repeat' (first | (intro x; first | (refine (fun (hx : Agree 8192 s x) => ?_) ?_; clear_value x; rotate_left; subst x) | subst x) | lift_lets -underBinder | with_reducible exact Agree.refl _ _ | with_reducible assumption | with_reducible apply @agree_raise 8192 _ (by decide) | with_reducible apply @agree_unraise 8192 _ (by decide) | with_reducible refine Agree.of_snd (by assumption) ?_ | with_reducible refine Agree.of_fst (by assumption) ?_ | split | dsimp only | (intro t ht; with_reducible assumption) | intro)

theorem agree_forcePbWrite {μ : Nat} {σ : State} (hK : 8192 ||| μ = μ) (i : Nat) (w : Word) (s : State) (hA : Agree μ σ s) : Agree μ σ (forcePbWrite i w s) := by
  refine Agree.step (k := 8192) ?_ hK hA
  clear hA hK
  unfold forcePbWrite
  repeat' (first | (intro x; first | (refine (fun (hx : Agree 8192 s x) => ?_) ?_; clear_value x; rotate_left; subst x) | subst x) | lift_lets -underBinder | with_reducible exact Agree.refl _ _ | with_reducible assumption | with_reducible refine Agree.forN ?_ ?_ | with_reducible apply @agree_pairSeen 8192 _ (by decide) | with_reducible apply @agree_mdFlt 8192 _ (by decide) | with_reducible apply @agree_forceBit 8192 _ (by decide) | with_reducible apply @agree_pairHold 8192 _ (by decide) | with_reducible refine Agree.of_snd (by assumption) ?_ | with_reducible refine Agree.of_fst (by assumption) ?_ | split | dsimp only | (intro t ht; with_reducible assumption) | intro)

theorem agree_forceWrite {μ : Nat} {σ : State} (hK : 8192 ||| μ = μ) (i : Nat) (w : Word) (s : State) (hA : Agree μ σ s) : Agree μ σ (forceWrite i w s) := by
  refine Agree.step (k := 8192) ?_ hK hA
  clear hA hK
  unfold forceWrite
  repeat' (first | (intro x; first | (refine (fun (hx : Agree 8192 s x) => ?_) ?_; clear_value x; rotate_left; subst x) | subst x) | lift_lets -underBinder | with_reducible exact Agree.refl _ _ | with_reducible assumption | with_reducible refine Agree.forN ?_ ?_ | with_reducible apply @agree_mdFlt 8192 _ (by decide) | with_reducible apply @agree_forceBit 8192 _ (by decide) | with_reducible refine Agree.of_snd (by assumption) ?_ | with_reducible refine Agree.of_fst (by assumption) ?_ | split | dsimp only | (intro t ht; with_reducible assumption) | intro)

theorem agree_isoClear {μ : Nat} {σ : State} (hK : 8192 ||| μ = μ) (hi : Bool) (w : Word) (s : State) (hA : Agree μ σ s) : Agree μ σ (isoClear hi w s) := by
  refine Agree.step (k := 8192) ?_ hK hA
  clear hA hK
  unfold isoClear
  repeat' (first | (intro x; first | (refine (fun (hx : Agree 8192 s x) => ?_) ?_; clear_value x; rotate_left; subst x) | subst x) | lift_lets -underBinder | with_reducible exact Agree.refl _ _ | with_reducible assumption | with_reducible apply @agree_mdFlt 8192 _ (by decide) | with_reducible refine Agree.of_snd (by assumption) ?_ | with_reducible refine Agree.of_fst (by assumption) ?_ | split | dsimp only | (intro t ht; with_reducible assumption) | intro)

theorem agree_unlatchClass {μ : Nat} {σ : State} (hK : 8196 ||| μ = μ) (c : Nat) (s : State) (hA : Agree μ σ s) : Agree μ σ (unlatchClass c s) := by
  refine Agree.step (k := 8196) ?_ hK hA
  clear hA hK
  unfold unlatchClass
  repeat' (first | (intro x; first | (refine (fun (hx : Agree 8196 s x) => ?_) ?_; clear_value x; rotate_left; subst x) | subst x) | lift_lets -underBinder | with_reducible exact Agree.refl _ _ | with_reducible assumption | with_reducible apply @agree_mdAon 8196 _ (by decide) | with_reducible apply @agree_mdFlt 8196 _ (by decide) | with_reducible refine Agree.of_snd (by assumption) ?_ | with_reducible refine Agree.of_fst (by assumption) ?_ | split | dsimp only | (intro t ht; with_reducible assumption) | intro)

theorem agree_islandTimeout {μ : Nat} {σ : State} (hK : 8192 ||| μ = μ) (src : Nat) (s : State) (hA : Agree μ σ s) : Agree μ σ (islandTimeout src s) := by
  refine Agree.step (k := 8192) ?_ hK hA
  clear hA hK
  unfold islandTimeout
  repeat' (first | (intro x; first | (refine (fun (hx : Agree 8192 s x) => ?_) ?_; clear_value x; rotate_left; subst x) | subst x) | lift_lets -underBinder | with_reducible exact Agree.refl _ _ | with_reducible assumption | with_reducible apply @agree_raise 8192 _ (by decide) | with_reducible refine Agree.of_snd (by assumption) ?_ | with_reducible refine Agree.of_fst (by assumption) ?_ | split | dsimp only | (intro t ht; with_reducible assumption) | intro)

theorem agree_pairBroken {μ : Nat} {σ : State} (hK : 73984 ||| μ = μ) (i : PairId) (s : State) (hA : Agree μ σ s) : Agree μ σ (pairBroken i s) := by
  refine Agree.step (k := 73984) ?_ hK hA
  clear hA hK
  unfold pairBroken
  repeat' (first | (intro x; first | (refine (fun (hx : Agree 73984 s x) => ?_) ?_; clear_value x; rotate_left; subst x) | subst x) | lift_lets -underBinder | with_reducible exact Agree.refl _ _ | with_reducible assumption | with_reducible apply @agree_setEvt 73984 _ (by decide) | with_reducible apply @agree_raise 73984 _ (by decide) | with_reducible apply @agree_inputGone 73984 _ (by decide) | with_reducible apply @agree_mdFlt 73984 _ (by decide) | with_reducible apply @agree_pairHold 73984 _ (by decide) | with_reducible refine Agree.of_snd (by assumption) ?_ | with_reducible refine Agree.of_fst (by assumption) ?_ | split | dsimp only | (intro t ht; with_reducible assumption) | intro)

theorem agree_refclkReturn {μ : Nat} {σ : State} (hK : 67108743 ||| μ = μ) (s : State) (hA : Agree μ σ s) : Agree μ σ (refclkReturn s) := by
  refine Agree.step (k := 67108743) ?_ hK hA
  clear hA hK
  unfold refclkReturn
  repeat' (first | (intro x; first | (refine (fun (hx : Agree 67108743 s x) => ?_) ?_; clear_value x; rotate_left; subst x) | subst x) | lift_lets -underBinder | with_reducible exact Agree.refl _ _ | with_reducible assumption | with_reducible apply @agree_raise 67108743 _ (by decide) | with_reducible apply @agree_unraise 67108743 _ (by decide) | with_reducible apply @agree_mdPins 67108743 _ (by decide) | with_reducible apply @agree_warmBoot 67108743 _ (by decide) | with_reducible apply @agree_backupFollow 67108743 _ (by decide) | with_reducible apply @agree_faultReg 67108743 _ (by decide) | with_reducible refine Agree.of_snd (by assumption) ?_ | with_reducible refine Agree.of_fst (by assumption) ?_ | split | dsimp only | (intro t ht; with_reducible assumption) | intro)

theorem agree_resetEnd {μ : Nat} {σ : State} (hK : 8192 ||| μ = μ) (b : Nat) (s : State) (hA : Agree μ σ s) : Agree μ σ (resetEnd b s) := by
  refine Agree.step (k := 8192) ?_ hK hA
  clear hA hK
  unfold resetEnd
  repeat' (first | (intro x; first | (refine (fun (hx : Agree 8192 s x) => ?_) ?_; clear_value x; rotate_left; subst x) | subst x) | lift_lets -underBinder | with_reducible exact Agree.refl _ _ | with_reducible assumption | with_reducible apply @agree_unraise 8192 _ (by decide) | with_reducible apply @agree_mdFlt 8192 _ (by decide) | with_reducible refine Agree.of_snd (by assumption) ?_ | with_reducible refine Agree.of_fst (by assumption) ?_ | split | dsimp only | (intro t ht; with_reducible assumption) | intro)

theorem agree_resetRelease {μ : Nat} {σ : State} (hK : 28582145 ||| μ = μ) (b : Nat) (s : State) (hA : Agree μ σ s) : Agree μ σ (resetRelease b s) := by
  refine Agree.step (k := 28582145) ?_ hK hA
  clear hA hK
  unfold resetRelease
  repeat' (first | (intro x; first | (refine (fun (hx : Agree 28582145 s x) => ?_) ?_; clear_value x; rotate_left; subst x) | subst x) | lift_lets -underBinder | with_reducible exact Agree.refl _ _ | with_reducible assumption | with_reducible apply @agree_mdFlt 28582145 _ (by decide) | with_reducible apply @agree_fabStart 28582145 _ (by decide) | with_reducible apply @agree_moverUp 28582145 _ (by decide) | with_reducible refine Agree.of_snd (by assumption) ?_ | with_reducible refine Agree.of_fst (by assumption) ?_ | split | dsimp only | (intro t ht; with_reducible assumption) | intro)

theorem agree_sealResets {μ : Nat} {σ : State} (hK : 66351872 ||| μ = μ) (s : State) (hA : Agree μ σ s) : Agree μ σ (sealResets s) := by
  refine Agree.step (k := 66351872) ?_ hK hA
  clear hA hK
  unfold sealResets
  repeat' (first | (intro x; first | (refine (fun (hx : Agree 66351872 s x) => ?_) ?_; clear_value x; rotate_left; subst x) | subst x) | lift_lets -underBinder | with_reducible exact Agree.refl _ _ | with_reducible assumption | with_reducible refine Agree.forL ?_ ?_ | with_reducible apply @agree_mdFlt 66351872 _ (by decide) | with_reducible apply @agree_blockReset 66351872 _ (by decide) | with_reducible refine Agree.of_snd (by assumption) ?_ | with_reducible refine Agree.of_fst (by assumption) ?_ | split | dsimp only | (intro t ht; with_reducible assumption) | intro)

theorem agree_shadowClose {μ : Nat} {σ : State} (hK : 67108743 ||| μ = μ) (k : Nat) (s : State) (hA : Agree μ σ s) : Agree μ σ (shadowClose k s) := by
  refine Agree.step (k := 67108743) ?_ hK hA
  clear hA hK
  unfold shadowClose
  repeat' (first | (intro x; first | (refine (fun (hx : Agree 67108743 s x) => ?_) ?_; clear_value x; rotate_left; subst x) | subst x) | lift_lets -underBinder | with_reducible exact Agree.refl _ _ | with_reducible assumption | with_reducible refine Agree.forL ?_ ?_ | with_reducible apply @agree_mdFlt 67108743 _ (by decide) | with_reducible apply @agree_registerSrc 67108743 _ (by decide) | with_reducible refine Agree.of_snd (by assumption) ?_ | with_reducible refine Agree.of_fst (by assumption) ?_ | split | dsimp only | (intro t ht; with_reducible assumption) | intro)

theorem agree_sourceCeases {μ : Nat} {σ : State} (hK : 8192 ||| μ = μ) (src : Nat) (sub : Nat) (s : State) (hA : Agree μ σ s) : Agree μ σ (sourceCeases src sub s) := by
  refine Agree.step (k := 8192) ?_ hK hA
  clear hA hK
  unfold sourceCeases
  repeat' (first | (intro x; first | (refine (fun (hx : Agree 8192 s x) => ?_) ?_; clear_value x; rotate_left; subst x) | subst x) | lift_lets -underBinder | with_reducible exact Agree.refl _ _ | with_reducible assumption | with_reducible apply @agree_unraise 8192 _ (by decide) | with_reducible apply @agree_pairSeen 8192 _ (by decide) | with_reducible apply @agree_mdFlt 8192 _ (by decide) | with_reducible refine Agree.of_snd (by assumption) ?_ | with_reducible refine Agree.of_fst (by assumption) ?_ | split | dsimp only | (intro t ht; with_reducible assumption) | intro)

theorem agree_xfSample {μ : Nat} {σ : State} (hK : 67108743 ||| μ = μ) (src : Nat) (x : Bool × Bool) (s : State) (hA : Agree μ σ s) : Agree μ σ (xfSample src x s) := by
  refine Agree.step (k := 67108743) ?_ hK hA
  clear hA hK
  unfold xfSample
  repeat' (first | (intro x; first | (refine (fun (hx : Agree 67108743 s x) => ?_) ?_; clear_value x; rotate_left; subst x) | subst x) | lift_lets -underBinder | with_reducible exact Agree.refl _ _ | with_reducible assumption | with_reducible apply @agree_raise 67108743 _ (by decide) | with_reducible apply @agree_unraise 67108743 _ (by decide) | with_reducible apply @agree_mdFlt 67108743 _ (by decide) | with_reducible apply @agree_mdSub 67108743 _ (by decide) | with_reducible apply @agree_regLive 67108743 _ (by decide) | with_reducible refine Agree.of_snd (by assumption) ?_ | with_reducible refine Agree.of_fst (by assumption) ?_ | split | dsimp only | (intro t ht; with_reducible assumption) | intro)

theorem agree_xfSamples {μ : Nat} {σ : State} (hK : 67108743 ||| μ = μ) (src : Nat) (l : List (Bool × Bool)) (s0 : State) (hA : Agree μ σ s0) : Agree μ σ (xfSamples src l s0) := by
  refine Agree.step (k := 67108743) ?_ hK hA
  clear hA hK
  unfold xfSamples
  repeat' (first | (intro x; first | (refine (fun (hx : Agree 67108743 s0 x) => ?_) ?_; clear_value x; rotate_left; subst x) | subst x) | lift_lets -underBinder | with_reducible exact Agree.refl _ _ | with_reducible assumption | with_reducible refine Agree.forL ?_ ?_ | with_reducible apply @agree_arrive 67108743 _ (by decide) | with_reducible apply @agree_xfSample 67108743 _ (by decide) | with_reducible refine Agree.of_snd (by assumption) ?_ | with_reducible refine Agree.of_fst (by assumption) ?_ | split | dsimp only | (intro t ht; with_reducible assumption) | intro)

end State
end Sys2Proof.Machine
end

