-- ==== Sys2Proof/Laws/AgreeTakeover.lean ====
section
/-! SUPPORT. The fields of State that each function of Machine/Takeover.lean can change. -/
set_option Elab.async false

set_option linter.unusedTactic false
set_option linter.unreachableTactic false

namespace Sys2Proof.Machine
namespace State

theorem agree_bootToken {μ : Nat} {σ : State} (hK : 33554436 ||| μ = μ) (tokenLow : Bool) (s : State) (hA : Agree μ σ s) : Agree μ σ (bootToken tokenLow s) := by
  refine Agree.step (k := 33554436) ?_ hK hA
  clear hA hK
  unfold bootToken
  repeat' (first | (intro x; first | (refine (fun (hx : Agree 33554436 s x) => ?_) ?_; clear_value x; rotate_left; subst x) | subst x) | lift_lets -underBinder | with_reducible exact Agree.refl _ _ | with_reducible assumption | with_reducible apply @agree_mdPair 33554436 _ (by decide) | with_reducible apply @agree_becomeStandby 33554436 _ (by decide) | with_reducible refine Agree.of_snd (by assumption) ?_ | with_reducible refine Agree.of_fst (by assumption) ?_ | split | dsimp only | (intro t ht; with_reducible assumption) | intro)

theorem agree_askFrozen {μ : Nat} {σ : State} (hK : 262144 ||| μ = μ) (s : State) (hA : Agree μ σ s) : Agree μ σ (askFrozen s) := by
  refine Agree.step (k := 262144) ?_ hK hA
  clear hA hK
  unfold askFrozen
  repeat' (first | (intro x; first | (refine (fun (hx : Agree 262144 s x) => ?_) ?_; clear_value x; rotate_left; subst x) | subst x) | lift_lets -underBinder | with_reducible exact Agree.refl _ _ | with_reducible assumption | with_reducible refine Agree.forL ?_ ?_ | with_reducible apply @agree_send 262144 _ (by decide) | with_reducible refine Agree.of_snd (by assumption) ?_ | with_reducible refine Agree.of_fst (by assumption) ?_ | split | dsimp only | (intro t ht; with_reducible assumption) | intro)

theorem agree_claimed {μ : Nat} {σ : State} (hK : 33554438 ||| μ = μ) (s : State) (hA : Agree μ σ s) : Agree μ σ (claimed s) := by
  refine Agree.step (k := 33554438) ?_ hK hA
  clear hA hK
  unfold claimed
  repeat' (first | (intro x; first | (refine (fun (hx : Agree 33554438 s x) => ?_) ?_; clear_value x; rotate_left; subst x) | subst x) | lift_lets -underBinder | with_reducible exact Agree.refl _ _ | with_reducible assumption | ((conv => (arg 3; arg 27; skip)); with_reducible refine Agree.upd_pins _ (by decide) ?_) | with_reducible apply @agree_mdPair 33554438 _ (by decide) | with_reducible apply @agree_mdAon 33554438 _ (by decide) | with_reducible apply @agree_drivePulls 33554438 _ (by decide) | with_reducible refine Agree.of_snd (by assumption) ?_ | with_reducible refine Agree.of_fst (by assumption) ?_ | split | dsimp only | (intro t ht; with_reducible assumption) | intro)

theorem agree_claimBase {μ : Nat} {σ : State} (hK : 50348294 ||| μ = μ) (kind : Nat) (s : State) (hA : Agree μ σ s) : Agree μ σ (claimBase kind s) := by
  refine Agree.step (k := 50348294) ?_ hK hA
  clear hA hK
  unfold claimBase
  repeat' (first | (intro x; first | (refine (fun (hx : Agree 50348294 s x) => ?_) ?_; clear_value x; rotate_left; subst x) | subst x) | lift_lets -underBinder | with_reducible exact Agree.refl _ _ | with_reducible assumption | with_reducible apply @agree_mdPair 50348294 _ (by decide) | with_reducible apply @agree_mdFab 50348294 _ (by decide) | with_reducible apply @agree_count 50348294 _ (by decide) | with_reducible apply @agree_claimed 50348294 _ (by decide) | with_reducible refine Agree.of_snd (by assumption) ?_ | with_reducible refine Agree.of_fst (by assumption) ?_ | split | dsimp only | (intro t ht; with_reducible assumption) | intro)

theorem agree_coldBootNow {μ : Nat} {σ : State} (hK : 67108743 ||| μ = μ) (s : State) (hA : Agree μ σ s) : Agree μ σ (coldBootNow s) := by
  refine Agree.step (k := 67108743) ?_ hK hA
  clear hA hK
  unfold coldBootNow
  repeat' (first | (intro x; first | (refine (fun (hx : Agree 67108743 s x) => ?_) ?_; clear_value x; rotate_left; subst x) | subst x) | lift_lets -underBinder | with_reducible exact Agree.refl _ _ | with_reducible assumption | ((conv => (arg 3; arg 27; skip)); with_reducible refine Agree.upd_evt_ledg_pair _ _ _ (by decide) ?_) | with_reducible apply @agree_warmBoot 67108743 _ (by decide) | with_reducible refine Agree.of_snd (by assumption) ?_ | with_reducible refine Agree.of_fst (by assumption) ?_ | split | dsimp only | (intro t ht; with_reducible assumption) | intro)

theorem agree_solo {μ : Nat} {σ : State} (hK : 33554432 ||| μ = μ) (s : State) (hA : Agree μ σ s) : Agree μ σ (solo s) := by
  refine Agree.step (k := 33554432) ?_ hK hA
  clear hA hK
  unfold solo
  repeat' (first | (intro x; first | (refine (fun (hx : Agree 33554432 s x) => ?_) ?_; clear_value x; rotate_left; subst x) | subst x) | lift_lets -underBinder | with_reducible exact Agree.refl _ _ | with_reducible assumption | with_reducible apply @agree_mdPair 33554432 _ (by decide) | with_reducible refine Agree.of_snd (by assumption) ?_ | with_reducible refine Agree.of_fst (by assumption) ?_ | split | dsimp only | (intro t ht; with_reducible assumption) | intro)

theorem agree_coldTake {μ : Nat} {σ : State} (hK : 34357632 ||| μ = μ) (s : State) (hA : Agree μ σ s) : Agree μ σ (coldTake s) := by
  refine Agree.step (k := 34357632) ?_ hK hA
  clear hA hK
  unfold coldTake
  repeat' (first | (intro x; first | (refine (fun (hx : Agree 34357632 s x) => ?_) ?_; clear_value x; rotate_left; subst x) | subst x) | lift_lets -underBinder | with_reducible exact Agree.refl _ _ | with_reducible assumption | ((conv => (arg 3; arg 27; skip)); with_reducible refine Agree.upd_ledg _ (by decide) ?_) | ((conv => (arg 3; arg 27; skip)); with_reducible refine Agree.upd_stake _ (by decide) ?_) | with_reducible apply @agree_setEvt 34357632 _ (by decide) | with_reducible apply @agree_mdPair 34357632 _ (by decide) | with_reducible apply @agree_mdStake 34357632 _ (by decide) | with_reducible apply @agree_assertFrz 34357632 _ (by decide) | with_reducible apply @agree_sendStakes 34357632 _ (by decide) | with_reducible apply @agree_solo 34357632 _ (by decide) | with_reducible refine Agree.of_snd (by assumption) ?_ | with_reducible refine Agree.of_fst (by assumption) ?_ | split | dsimp only | (intro t ht; with_reducible assumption) | intro)

theorem agree_drillTake {μ : Nat} {σ : State} (hK : 33556740 ||| μ = μ) (f : Frame) (s : State) (hA : Agree μ σ s) : Agree μ σ (drillTake f s) := by
  refine Agree.step (k := 33556740) ?_ hK hA
  clear hA hK
  unfold drillTake
  repeat' (first | (intro x; first | (refine (fun (hx : Agree 33556740 s x) => ?_) ?_; clear_value x; rotate_left; subst x) | subst x) | lift_lets -underBinder | with_reducible exact Agree.refl _ _ | with_reducible assumption | with_reducible apply @agree_setEvt 33556740 _ (by decide) | with_reducible apply @agree_cmdEnd 33556740 _ (by decide) | with_reducible apply @agree_mdPair 33556740 _ (by decide) | with_reducible apply @agree_mdAon 33556740 _ (by decide) | with_reducible refine Agree.of_snd (by assumption) ?_ | with_reducible refine Agree.of_fst (by assumption) ?_ | split | dsimp only | (intro t ht; with_reducible assumption) | intro)

theorem agree_sendReverts {μ : Nat} {σ : State} (hK : 2359296 ||| μ = μ) (f : Frame) (s : State) (hA : Agree μ σ s) : Agree μ σ (sendReverts f s) := by
  refine Agree.step (k := 2359296) ?_ hK hA
  clear hA hK
  unfold sendReverts
  repeat' (first | (intro x; first | (refine (fun (hx : Agree 2359296 s x) => ?_) ?_; clear_value x; rotate_left; subst x) | subst x) | lift_lets -underBinder | with_reducible exact Agree.refl _ _ | with_reducible assumption | with_reducible refine Agree.forL ?_ ?_ | with_reducible apply @agree_sendRevert 2359296 _ (by decide) | with_reducible refine Agree.of_snd (by assumption) ?_ | with_reducible refine Agree.of_fst (by assumption) ?_ | split | dsimp only | (intro t ht; with_reducible assumption) | intro)

theorem agree_resume {μ : Nat} {σ : State} (hK : 41681024 ||| μ = μ) (f : Frame) (c : Ckpt) (s : State) (hA : Agree μ σ s) : Agree μ σ (resume f c s) := by
  refine Agree.step (k := 41681024) ?_ hK hA
  clear hA hK
  unfold resume
  repeat' (first | (intro x; first | (refine (fun (hx : Agree 41681024 s x) => ?_) ?_; clear_value x; rotate_left; subst x) | subst x) | lift_lets -underBinder | with_reducible exact Agree.refl _ _ | with_reducible assumption | with_reducible refine Agree.forL ?_ ?_ | with_reducible refine Agree.forN ?_ ?_ | with_reducible apply @agree_mdSled 41681024 _ (by decide) | with_reducible apply @agree_mdPair 41681024 _ (by decide) | with_reducible apply @agree_mdVault 41681024 _ (by decide) | with_reducible apply @agree_mdSave 41681024 _ (by decide) | with_reducible apply @agree_mdRing 41681024 _ (by decide) | with_reducible apply @agree_mdStake 41681024 _ (by decide) | with_reducible apply @agree_assertFrz 41681024 _ (by decide) | with_reducible apply @agree_askFrozen 41681024 _ (by decide) | with_reducible apply @agree_buildUnconf 41681024 _ (by decide) | with_reducible apply @agree_sendStakes 41681024 _ (by decide) | with_reducible apply @agree_sendReverts 41681024 _ (by decide) | with_reducible refine Agree.of_snd (by assumption) ?_ | with_reducible refine Agree.of_fst (by assumption) ?_ | split | dsimp only | (intro t ht; with_reducible assumption) | intro)

theorem agree_retrip {μ : Nat} {σ : State} (hK : 50330501 ||| μ = μ) (f : Frame) (s : State) (hA : Agree μ σ s) : Agree μ σ (retrip f s) := by
  refine Agree.step (k := 50330501) ?_ hK hA
  clear hA hK
  unfold retrip
  repeat' (first | (intro x; first | (refine (fun (hx : Agree 50330501 s x) => ?_) ?_; clear_value x; rotate_left; subst x) | subst x) | lift_lets -underBinder | with_reducible exact Agree.refl _ _ | with_reducible assumption | with_reducible apply @agree_mdSave 50330501 _ (by decide) | with_reducible apply @agree_arrive 50330501 _ (by decide) | with_reducible apply @agree_clearForces 50330501 _ (by decide) | with_reducible apply @agree_enterSave 50330501 _ (by decide) | with_reducible apply @agree_tripNoSave 50330501 _ (by decide) | with_reducible apply @agree_askFrozen 50330501 _ (by decide) | with_reducible apply @agree_sendStakes 50330501 _ (by decide) | with_reducible apply @agree_sendReverts 50330501 _ (by decide) | with_reducible refine Agree.of_snd (by assumption) ?_ | with_reducible refine Agree.of_fst (by assumption) ?_ | split | dsimp only | (intro t ht; with_reducible assumption) | intro)

theorem agree_takeGrant {μ : Nat} {σ : State} (hK : 16908544 ||| μ = μ) (f : Frame) (s : State) (hA : Agree μ σ s) : Agree μ σ (takeGrant f s) := by
  refine Agree.step (k := 16908544) ?_ hK hA
  clear hA hK
  unfold takeGrant
  repeat' (first | (intro x; first | (refine (fun (hx : Agree 16908544 s x) => ?_) ?_; clear_value x; rotate_left; subst x) | subst x) | lift_lets -underBinder | with_reducible exact Agree.refl _ _ | with_reducible assumption | ((conv => (arg 3; arg 27; skip)); with_reducible refine Agree.upd_nrg_fab _ _ (by decide) ?_) | with_reducible apply @agree_setEvt 16908544 _ (by decide) | with_reducible refine Agree.of_snd (by assumption) ?_ | with_reducible refine Agree.of_fst (by assumption) ?_ | split | dsimp only | (intro t ht; with_reducible assumption) | intro)

theorem agree_takeSeq' {μ : Nat} {σ : State} (hK : 65536 ||| μ = μ) (f : Frame) (s : State) (hA : Agree μ σ s) : Agree μ σ (takeSeq' f s) := by
  refine Agree.step (k := 65536) ?_ hK hA
  clear hA hK
  unfold takeSeq'
  repeat' (first | (intro x; first | (refine (fun (hx : Agree 65536 s x) => ?_) ?_; clear_value x; rotate_left; subst x) | subst x) | lift_lets -underBinder | with_reducible exact Agree.refl _ _ | with_reducible assumption | ((conv => (arg 3; arg 27; skip)); with_reducible refine Agree.upd_seq _ (by decide) ?_) | with_reducible refine Agree.forN ?_ ?_ | with_reducible apply @agree_mdSlot 65536 _ (by decide) | with_reducible refine Agree.of_snd (by assumption) ?_ | with_reducible refine Agree.of_fst (by assumption) ?_ | split | dsimp only | (intro t ht; with_reducible assumption) | intro)

theorem agree_takeStage {μ : Nat} {σ : State} (hK : 6307972 ||| μ = μ) (f : Frame) (s : State) (hA : Agree μ σ s) : Agree μ σ (takeStage f s) := by
  refine Agree.step (k := 6307972) ?_ hK hA
  clear hA hK
  unfold takeStage
  repeat' (first | (intro x; first | (refine (fun (hx : Agree 6307972 s x) => ?_) ?_; clear_value x; rotate_left; subst x) | subst x) | lift_lets -underBinder | with_reducible exact Agree.refl _ _ | with_reducible assumption | ((conv => (arg 3; arg 27; skip)); with_reducible refine Agree.upd_aon_top_ledg_stage_save _ _ _ _ _ (by decide) ?_) | with_reducible refine Agree.forN ?_ ?_ | with_reducible apply @agree_mdPp 6307972 _ (by decide) | with_reducible refine Agree.of_snd (by assumption) ?_ | with_reducible refine Agree.of_fst (by assumption) ?_ | split | dsimp only | (intro t ht; with_reducible assumption) | intro)

theorem agree_takeStakes {μ : Nat} {σ : State} (hK : 8929280 ||| μ = μ) (f : Frame) (s : State) (hA : Agree μ σ s) : Agree μ σ (takeStakes f s) := by
  refine Agree.step (k := 8929280) ?_ hK hA
  clear hA hK
  unfold takeStakes
  repeat' (first | (intro x; first | (refine (fun (hx : Agree 8929280 s x) => ?_) ?_; clear_value x; rotate_left; subst x) | subst x) | lift_lets -underBinder | with_reducible exact Agree.refl _ _ | with_reducible assumption | ((conv => (arg 3; arg 27; skip)); with_reducible refine Agree.upd_ledg_stake _ _ (by decide) ?_) | with_reducible refine Agree.forN ?_ ?_ | with_reducible apply @agree_mdStake 8929280 _ (by decide) | with_reducible apply @agree_mdRt 8929280 _ (by decide) | with_reducible apply @agree_mdStkQ 8929280 _ (by decide) | with_reducible apply @agree_mdStk 8929280 _ (by decide) | with_reducible refine Agree.of_snd (by assumption) ?_ | with_reducible refine Agree.of_fst (by assumption) ?_ | split | dsimp only | (intro t ht; with_reducible assumption) | intro)

theorem agree_takeSled {μ : Nat} {σ : State} (hK : 1048576 ||| μ = μ) (f : Frame) (x : Nat) (s : State) (hA : Agree μ σ s) : Agree μ σ (takeSled f x s) := by
  refine Agree.step (k := 1048576) ?_ hK hA
  clear hA hK
  unfold takeSled
  repeat' (first | (intro x; first | (refine (fun (hx : Agree 1048576 s x) => ?_) ?_; clear_value x; rotate_left; subst x) | subst x) | lift_lets -underBinder | with_reducible exact Agree.refl _ _ | with_reducible assumption | with_reducible refine Agree.foldl ?_ ?_ | with_reducible refine Agree.foldl_snd ?_ ?_ | with_reducible refine Agree.foldl_fst ?_ ?_ | with_reducible refine Agree.foldl_thd ?_ ?_ | with_reducible refine Agree.forN ?_ ?_ | with_reducible apply @agree_mdSled 1048576 _ (by decide) | with_reducible apply @agree_setCursor 1048576 _ (by decide) | with_reducible apply @agree_adoptVault 1048576 _ (by decide) | with_reducible apply @agree_dieInit 1048576 _ (by decide) | with_reducible apply @agree_openRings 1048576 _ (by decide) | with_reducible refine Agree.of_snd (by assumption) ?_ | with_reducible refine Agree.of_fst (by assumption) ?_ | split | dsimp only | (intro t ht; with_reducible assumption) | intro)

theorem agree_takeVault {μ : Nat} {σ : State} (hK : 1048576 ||| μ = μ) (f : Frame) (sleds : Option (Tab SledDev 4)) (s : State) (hA : Agree μ σ s) : Agree μ σ (takeVault f sleds s) := by
  refine Agree.step (k := 1048576) ?_ hK hA
  clear hA hK
  unfold takeVault
  repeat' (first | (intro x; first | (refine (fun (hx : Agree 1048576 s x) => ?_) ?_; clear_value x; rotate_left; subst x) | subst x) | lift_lets -underBinder | with_reducible exact Agree.refl _ _ | with_reducible assumption | with_reducible refine Agree.forN ?_ ?_ | with_reducible refine Agree.foldl ?_ ?_ | with_reducible refine Agree.foldl_snd ?_ ?_ | with_reducible refine Agree.foldl_fst ?_ ?_ | with_reducible refine Agree.foldl_thd ?_ ?_ | with_reducible apply @agree_mdDev 1048576 _ (by decide) | with_reducible apply @agree_mdVault 1048576 _ (by decide) | with_reducible apply @agree_reserveUpdate 1048576 _ (by decide) | with_reducible apply @agree_takeSled 1048576 _ (by decide) | with_reducible refine Agree.of_snd (by assumption) ?_ | with_reducible refine Agree.of_fst (by assumption) ?_ | split | dsimp only | (intro t ht; with_reducible assumption) | intro)

theorem agree_takeFrame {μ : Nat} {σ : State} (hK : 33243524 ||| μ = μ) (f : Frame) (sleds : Option (Tab SledDev 4)) (s : State) (hA : Agree μ σ s) : Agree μ σ (takeFrame f sleds s) := by
  refine Agree.step (k := 33243524) ?_ hK hA
  clear hA hK
  unfold takeFrame
  repeat' (first | (intro x; first | (refine (fun (hx : Agree 33243524 s x) => ?_) ?_; clear_value x; rotate_left; subst x) | subst x) | lift_lets -underBinder | with_reducible exact Agree.refl _ _ | with_reducible assumption | with_reducible apply @agree_driveShared 33243524 _ (by decide) | with_reducible apply @agree_takeGrant 33243524 _ (by decide) | with_reducible apply @agree_takeSeq' 33243524 _ (by decide) | with_reducible apply @agree_takeStage 33243524 _ (by decide) | with_reducible apply @agree_takeStakes 33243524 _ (by decide) | with_reducible apply @agree_takeVault 33243524 _ (by decide) | with_reducible refine Agree.of_snd (by assumption) ?_ | with_reducible refine Agree.of_fst (by assumption) ?_ | split | dsimp only | (intro t ht; with_reducible assumption) | intro)

theorem agree_takeReturn {μ : Nat} {σ : State} (hK : 11796481 ||| μ = μ) (f : Frame) (s : State) (hA : Agree μ σ s) : Agree μ σ (takeReturn f s) := by
  refine Agree.step (k := 11796481) ?_ hK hA
  clear hA hK
  unfold takeReturn
  repeat' (first | (intro x; first | (refine (fun (hx : Agree 11796481 s x) => ?_) ?_; clear_value x; rotate_left; subst x) | subst x) | lift_lets -underBinder | with_reducible exact Agree.refl _ _ | with_reducible assumption | ((conv => (arg 3; arg 27; skip)); with_reducible refine Agree.upd_ret _ (by decide) ?_) | with_reducible refine Agree.forN ?_ ?_ | with_reducible apply @agree_mdRt 11796481 _ (by decide) | with_reducible apply @agree_askPort 11796481 _ (by decide) | with_reducible apply @agree_redecide 11796481 _ (by decide) | with_reducible apply @agree_retireAll 11796481 _ (by decide) | with_reducible apply @agree_discardStep 11796481 _ (by decide) | with_reducible apply @agree_retireRestored 11796481 _ (by decide) | with_reducible refine Agree.of_snd (by assumption) ?_ | with_reducible refine Agree.of_fst (by assumption) ?_ | split | dsimp only | (intro t ht; with_reducible assumption) | intro)

theorem agree_hotTake {μ : Nat} {σ : State} (hK : 67107717 ||| μ = μ) (f : Frame) (frzLow : Bool) (sleds : Option (Tab SledDev 4)) (s : State) (hA : Agree μ σ s) : Agree μ σ (hotTake f frzLow sleds s) := by
  refine Agree.step (k := 67107717) ?_ hK hA
  clear hA hK
  unfold hotTake
  repeat' (first | (intro x; first | (refine (fun (hx : Agree 67107717 s x) => ?_) ?_; clear_value x; rotate_left; subst x) | subst x) | lift_lets -underBinder | with_reducible exact Agree.refl _ _ | with_reducible assumption | with_reducible apply @agree_sendStakes 67107717 _ (by decide) | with_reducible apply @agree_sendReverts 67107717 _ (by decide) | with_reducible apply @agree_resume 67107717 _ (by decide) | with_reducible apply @agree_retrip 67107717 _ (by decide) | with_reducible apply @agree_takeFrame 67107717 _ (by decide) | with_reducible apply @agree_takeReturn 67107717 _ (by decide) | with_reducible refine Agree.of_snd (by assumption) ?_ | with_reducible refine Agree.of_fst (by assumption) ?_ | split | dsimp only | (intro t ht; with_reducible assumption) | intro)

theorem agree_keepPeer {μ : Nat} {σ : State} (hK : 33554432 ||| μ = μ) (s : State) (hA : Agree μ σ s) : Agree μ σ (keepPeer s) := by
  refine Agree.step (k := 33554432) ?_ hK hA
  clear hA hK
  unfold keepPeer
  repeat' (first | (intro x; first | (refine (fun (hx : Agree 33554432 s x) => ?_) ?_; clear_value x; rotate_left; subst x) | subst x) | lift_lets -underBinder | with_reducible exact Agree.refl _ _ | with_reducible assumption | with_reducible apply @agree_mdPair 33554432 _ (by decide) | with_reducible refine Agree.of_snd (by assumption) ?_ | with_reducible refine Agree.of_fst (by assumption) ?_ | split | dsimp only | (intro t ht; with_reducible assumption) | intro)

theorem agree_ringSettled {μ : Nat} {σ : State} (hK : 4194304 ||| μ = μ) (s : State) (hA : Agree μ σ s) : Agree μ σ (ringSettled s) := by
  refine Agree.step (k := 4194304) ?_ hK hA
  clear hA hK
  unfold ringSettled
  repeat' (first | (intro x; first | (refine (fun (hx : Agree 4194304 s x) => ?_) ?_; clear_value x; rotate_left; subst x) | subst x) | lift_lets -underBinder | with_reducible exact Agree.refl _ _ | with_reducible assumption | with_reducible apply @agree_mdSave 4194304 _ (by decide) | with_reducible refine Agree.of_snd (by assumption) ?_ | with_reducible refine Agree.of_fst (by assumption) ?_ | split | dsimp only | (intro t ht; with_reducible assumption) | intro)

theorem agree_tokenClaim {μ : Nat} {σ : State} (hK : 67107719 ||| μ = μ) (frzLow : Bool) (sleds : Option (Tab SledDev 4)) (s0 : State) (hA : Agree μ σ s0) : Agree μ σ (tokenClaim frzLow sleds s0) := by
  refine Agree.step (k := 67107719) ?_ hK hA
  clear hA hK
  unfold tokenClaim
  repeat' (first | (intro x; first | (refine (fun (hx : Agree 67107719 s0 x) => ?_) ?_; clear_value x; rotate_left; subst x) | subst x) | lift_lets -underBinder | with_reducible exact Agree.refl _ _ | with_reducible assumption | with_reducible apply @agree_setEvt 67107719 _ (by decide) | with_reducible apply @agree_mdPair 67107719 _ (by decide) | with_reducible apply @agree_arrive 67107719 _ (by decide) | with_reducible apply @agree_mdAon 67107719 _ (by decide) | with_reducible apply @agree_driveShared 67107719 _ (by decide) | with_reducible apply @agree_claimed 67107719 _ (by decide) | with_reducible apply @agree_claimBase 67107719 _ (by decide) | with_reducible apply @agree_solo 67107719 _ (by decide) | with_reducible apply @agree_coldTake 67107719 _ (by decide) | with_reducible apply @agree_drillTake 67107719 _ (by decide) | with_reducible apply @agree_hotTake 67107719 _ (by decide) | with_reducible apply @agree_keepPeer 67107719 _ (by decide) | with_reducible refine Agree.of_snd (by assumption) ?_ | with_reducible refine Agree.of_fst (by assumption) ?_ | split | dsimp only | (intro t ht; with_reducible assumption) | intro)

end State
end Sys2Proof.Machine
end

