-- ==== Sys2Proof/Laws/AgreeHostPort.lean ====
section
/-! SUPPORT. The fields of State that each function of Machine/HostPort.lean can change. -/
set_option Elab.async false

set_option linter.unusedTactic false
set_option linter.unreachableTactic false

namespace Sys2Proof.Machine
namespace State

theorem agree_mdCmd {μ : Nat} {σ : State} (hK : 2048 ||| μ = μ) (f : LongCmd → LongCmd) (s : State) (hA : Agree μ σ s) : Agree μ σ (mdCmd f s) := by
  refine Agree.step (k := 2048) ?_ hK hA
  clear hA hK
  unfold mdCmd
  repeat' (first | (intro x; first | (refine (fun (hx : Agree 2048 s x) => ?_) ?_; clear_value x; rotate_left; subst x) | subst x) | lift_lets -underBinder | with_reducible exact Agree.refl _ _ | with_reducible assumption | ((conv => (arg 3; arg 27; skip)); with_reducible refine Agree.upd_cmd _ (by decide) ?_) | with_reducible refine Agree.of_snd (by assumption) ?_ | with_reducible refine Agree.of_fst (by assumption) ?_ | split | dsimp only | (intro t ht; with_reducible assumption) | intro)

theorem agree_abortEnd {μ : Nat} {σ : State} (hK : 2304 ||| μ = μ) (st : Nat) (s : State) (hA : Agree μ σ s) : Agree μ σ (abortEnd st s) := by
  refine Agree.step (k := 2304) ?_ hK hA
  clear hA hK
  unfold abortEnd
  repeat' (first | (intro x; first | (refine (fun (hx : Agree 2304 s x) => ?_) ?_; clear_value x; rotate_left; subst x) | subst x) | lift_lets -underBinder | with_reducible exact Agree.refl _ _ | with_reducible assumption | with_reducible apply @agree_cmdEnd 2304 _ (by decide) | with_reducible apply @agree_mdCmd 2304 _ (by decide) | with_reducible refine Agree.of_snd (by assumption) ?_ | with_reducible refine Agree.of_fst (by assumption) ?_ | split | dsimp only | (intro t ht; with_reducible assumption) | intro)

theorem agree_mdBimg {μ : Nat} {σ : State} (hK : 32768 ||| μ = μ) (f : Bimg → Bimg) (s : State) (hA : Agree μ σ s) : Agree μ σ (mdBimg f s) := by
  refine Agree.step (k := 32768) ?_ hK hA
  clear hA hK
  unfold mdBimg
  repeat' (first | (intro x; first | (refine (fun (hx : Agree 32768 s x) => ?_) ?_; clear_value x; rotate_left; subst x) | subst x) | lift_lets -underBinder | with_reducible exact Agree.refl _ _ | with_reducible assumption | ((conv => (arg 3; arg 27; skip)); with_reducible refine Agree.upd_bimg _ (by decide) ?_) | with_reducible refine Agree.of_snd (by assumption) ?_ | with_reducible refine Agree.of_fst (by assumption) ?_ | split | dsimp only | (intro t ht; with_reducible assumption) | intro)

theorem agree_abortTurn {μ : Nat} {σ : State} (hK : 41076993 ||| μ = μ) (s : State) (hA : Agree μ σ s) : Agree μ σ (abortTurn s) := by
  refine Agree.step (k := 41076993) ?_ hK hA
  clear hA hK
  unfold abortTurn
  repeat' (first | (intro x; first | (refine (fun (hx : Agree 41076993 s x) => ?_) ?_; clear_value x; rotate_left; subst x) | subst x) | lift_lets -underBinder | with_reducible exact Agree.refl _ _ | with_reducible assumption | ((conv => (arg 3; arg 27; skip)); with_reducible refine Agree.upd_ledg _ (by decide) ?_) | ((conv => (arg 3; arg 27; skip)); with_reducible refine Agree.upd_nrg _ (by decide) ?_) | with_reducible apply @agree_setEvt 41076993 _ (by decide) | with_reducible apply @agree_mdCmd 41076993 _ (by decide) | with_reducible apply @agree_abortEnd 41076993 _ (by decide) | with_reducible apply @agree_mdPair 41076993 _ (by decide) | with_reducible apply @agree_jobAbort 41076993 _ (by decide) | with_reducible apply @agree_mdBimg 41076993 _ (by decide) | with_reducible apply @agree_mdSave 41076993 _ (by decide) | with_reducible apply @agree_pump 41076993 _ (by decide) | with_reducible apply @agree_slotStop 41076993 _ (by decide) | with_reducible refine Agree.of_snd (by assumption) ?_ | with_reducible refine Agree.of_fst (by assumption) ?_ | split | dsimp only | (intro t ht; with_reducible assumption) | intro)

theorem agree_abortWrite {μ : Nat} {σ : State} (hK : 33556480 ||| μ = μ) (s : State) (hA : Agree μ σ s) : Agree μ σ (abortWrite s) := by
  refine Agree.step (k := 33556480) ?_ hK hA
  clear hA hK
  unfold abortWrite
  repeat' (first | (intro x; first | (refine (fun (hx : Agree 33556480 s x) => ?_) ?_; clear_value x; rotate_left; subst x) | subst x) | lift_lets -underBinder | with_reducible exact Agree.refl _ _ | with_reducible assumption | with_reducible apply @agree_mdCmd 33556480 _ (by decide) | with_reducible apply @agree_mdPair 33556480 _ (by decide) | with_reducible refine Agree.of_snd (by assumption) ?_ | with_reducible refine Agree.of_fst (by assumption) ?_ | split | dsimp only | (intro t ht; with_reducible assumption) | intro)

theorem agree_accept {μ : Nat} {σ : State} (hK : 50979076 ||| μ = μ) (x : Nat) (i : BImg) (s : State) (hA : Agree μ σ s) : Agree μ σ (accept x i s) := by
  refine Agree.step (k := 50979076) ?_ hK hA
  clear hA hK
  unfold accept
  repeat' (first | (intro x; first | (refine (fun (hx : Agree 50979076 s x) => ?_) ?_; clear_value x; rotate_left; subst x) | subst x) | lift_lets -underBinder | with_reducible exact Agree.refl _ _ | with_reducible assumption | ((conv => (arg 3; arg 27; skip)); with_reducible refine Agree.upd_aon _ (by decide) ?_) | with_reducible apply @agree_setEvt 50979076 _ (by decide) | with_reducible apply @agree_mdBimg 50979076 _ (by decide) | with_reducible apply @agree_acceptChips 50979076 _ (by decide) | with_reducible apply @agree_bootToken 50979076 _ (by decide) | with_reducible apply @agree_follow 50979076 _ (by decide) | with_reducible apply @agree_fabImage 50979076 _ (by decide) | with_reducible apply @agree_firstDrive 50979076 _ (by decide) | with_reducible apply @agree_isoJoin 50979076 _ (by decide) | with_reducible apply @agree_loadLevels 50979076 _ (by decide) | with_reducible apply @agree_stakeLoad 50979076 _ (by decide) | with_reducible refine Agree.of_snd (by assumption) ?_ | with_reducible refine Agree.of_fst (by assumption) ?_ | split | dsimp only | (intro t ht; with_reducible assumption) | intro)

theorem agree_judgeSlot {μ : Nat} {σ : State} (hK : 49408 ||| μ = μ) (x : Nat) (s : State) (hA : Agree μ σ s) : Agree μ σ (judgeSlot x s).2 := by
  refine Agree.step (k := 49408) ?_ hK hA
  clear hA hK
  unfold judgeSlot
  repeat' (first | (intro x; first | (refine (fun (hx : Agree 49408 s x) => ?_) ?_; clear_value x; rotate_left; subst x) | subst x) | lift_lets -underBinder | with_reducible exact Agree.refl _ _ | with_reducible assumption | ((conv => (arg 3; arg 27; skip)); with_reducible refine Agree.upd_ledg _ (by decide) ?_) | with_reducible apply @agree_setEvt 49408 _ (by decide) | with_reducible apply @agree_mdBimg 49408 _ (by decide) | with_reducible refine Agree.of_snd (by assumption) ?_ | with_reducible refine Agree.of_fst (by assumption) ?_ | split | dsimp only | (intro t ht; with_reducible assumption) | intro)

theorem agree_bimgJudge {μ : Nat} {σ : State} (hK : 50979076 ||| μ = μ) (s : State) (hA : Agree μ σ s) : Agree μ σ (bimgJudge s) := by
  refine Agree.step (k := 50979076) ?_ hK hA
  clear hA hK
  unfold bimgJudge
  repeat' (first | (intro x; first | (refine (fun (hx : Agree 50979076 s x) => ?_) ?_; clear_value x; rotate_left; subst x) | subst x) | lift_lets -underBinder | with_reducible exact Agree.refl _ _ | with_reducible assumption | with_reducible apply @agree_accept 50979076 _ (by decide) | with_reducible apply @agree_judgeSlot 50979076 _ (by decide) | with_reducible refine Agree.of_snd (by assumption) ?_ | with_reducible refine Agree.of_fst (by assumption) ?_ | split | dsimp only | (intro t ht; with_reducible assumption) | intro)

theorem agree_bimgReject {μ : Nat} {σ : State} (hK : 32768 ||| μ = μ) (n : Nat) (res : Nat) (s : State) (hA : Agree μ σ s) : Agree μ σ (bimgReject n res s) := by
  refine Agree.step (k := 32768) ?_ hK hA
  clear hA hK
  unfold bimgReject
  repeat' (first | (intro x; first | (refine (fun (hx : Agree 32768 s x) => ?_) ?_; clear_value x; rotate_left; subst x) | subst x) | lift_lets -underBinder | with_reducible exact Agree.refl _ _ | with_reducible assumption | with_reducible apply @agree_mdBimg 32768 _ (by decide) | with_reducible refine Agree.of_snd (by assumption) ?_ | with_reducible refine Agree.of_fst (by assumption) ?_ | split | dsimp only | (intro t ht; with_reducible assumption) | intro)

theorem agree_bimgRejudge {μ : Nat} {σ : State} (hK : 50979076 ||| μ = μ) (s : State) (hA : Agree μ σ s) : Agree μ σ (bimgRejudge s) := by
  refine Agree.step (k := 50979076) ?_ hK hA
  clear hA hK
  unfold bimgRejudge
  repeat' (first | (intro x; first | (refine (fun (hx : Agree 50979076 s x) => ?_) ?_; clear_value x; rotate_left; subst x) | subst x) | lift_lets -underBinder | with_reducible exact Agree.refl _ _ | with_reducible assumption | with_reducible apply @agree_mdBimg 50979076 _ (by decide) | with_reducible apply @agree_judgeSlot 50979076 _ (by decide) | with_reducible apply @agree_bimgJudge 50979076 _ (by decide) | with_reducible refine Agree.of_snd (by assumption) ?_ | with_reducible refine Agree.of_fst (by assumption) ?_ | split | dsimp only | (intro t ht; with_reducible assumption) | intro)

theorem agree_bimgRescan {μ : Nat} {σ : State} (hK : 50979076 ||| μ = μ) (s : State) (hA : Agree μ σ s) : Agree μ σ (bimgRescan s) := by
  refine Agree.step (k := 50979076) ?_ hK hA
  clear hA hK
  unfold bimgRescan
  repeat' (first | (intro x; first | (refine (fun (hx : Agree 50979076 s x) => ?_) ?_; clear_value x; rotate_left; subst x) | subst x) | lift_lets -underBinder | with_reducible exact Agree.refl _ _ | with_reducible assumption | with_reducible apply @agree_bimgRejudge 50979076 _ (by decide) | with_reducible refine Agree.of_snd (by assumption) ?_ | with_reducible refine Agree.of_fst (by assumption) ?_ | split | dsimp only | (intro t ht; with_reducible assumption) | intro)

theorem agree_bimgSelect {μ : Nat} {σ : State} (hK : 50979076 ||| μ = μ) (s : State) (hA : Agree μ σ s) : Agree μ σ (bimgSelect s) := by
  refine Agree.step (k := 50979076) ?_ hK hA
  clear hA hK
  unfold bimgSelect
  repeat' (first | (intro x; first | (refine (fun (hx : Agree 50979076 s x) => ?_) ?_; clear_value x; rotate_left; subst x) | subst x) | lift_lets -underBinder | with_reducible exact Agree.refl _ _ | with_reducible assumption | with_reducible apply @agree_bimgJudge 50979076 _ (by decide) | with_reducible refine Agree.of_snd (by assumption) ?_ | with_reducible refine Agree.of_fst (by assumption) ?_ | split | dsimp only | (intro t ht; with_reducible assumption) | intro)

theorem agree_bimgStart {μ : Nat} {σ : State} (hK : 32768 ||| μ = μ) (n : Nat) (s : State) (hA : Agree μ σ s) : Agree μ σ (bimgStart n s) := by
  refine Agree.step (k := 32768) ?_ hK hA
  clear hA hK
  unfold bimgStart
  repeat' (first | (intro x; first | (refine (fun (hx : Agree 32768 s x) => ?_) ?_; clear_value x; rotate_left; subst x) | subst x) | lift_lets -underBinder | with_reducible exact Agree.refl _ _ | with_reducible assumption | with_reducible apply @agree_mdBimg 32768 _ (by decide) | with_reducible refine Agree.of_snd (by assumption) ?_ | with_reducible refine Agree.of_fst (by assumption) ?_ | split | dsimp only | (intro t ht; with_reducible assumption) | intro)

theorem agree_calCmdEnd {μ : Nat} {σ : State} (hK : 2304 ||| μ = μ) (s : State) (hA : Agree μ σ s) : Agree μ σ (calCmdEnd s) := by
  refine Agree.step (k := 2304) ?_ hK hA
  clear hA hK
  unfold calCmdEnd
  repeat' (first | (intro x; first | (refine (fun (hx : Agree 2304 s x) => ?_) ?_; clear_value x; rotate_left; subst x) | subst x) | lift_lets -underBinder | with_reducible exact Agree.refl _ _ | with_reducible assumption | with_reducible apply @agree_cmdEnd 2304 _ (by decide) | with_reducible refine Agree.of_snd (by assumption) ?_ | with_reducible refine Agree.of_fst (by assumption) ?_ | split | dsimp only | (intro t ht; with_reducible assumption) | intro)

theorem agree_longCmd {μ : Nat} {σ : State} (hK : 2048 ||| μ = μ) (c : Nat) (ok : Bool) (f : State → State) (s : State) (hf : ∀ t, Agree μ σ t → Agree μ σ (f t)) (hA : Agree μ σ s) : Agree μ σ (longCmd c ok f s) := by
  unfold longCmd
  repeat' (first | (intro x; first | (refine (fun (hx : Agree μ σ x) => ?_) ?_; clear_value x; rotate_left; subst x) | subst x) | lift_lets -underBinder | with_reducible exact Agree.refl _ _ | with_reducible assumption | with_reducible apply hf | with_reducible apply @agree_mdCmd μ _ (Agree.sub_of hK (by decide)) | with_reducible refine Agree.of_snd (by assumption) ?_ | with_reducible refine Agree.of_fst (by assumption) ?_ | split | dsimp only | (intro t ht; with_reducible assumption) | intro)

theorem agree_cmdCal {μ : Nat} {σ : State} (hK : 4196352 ||| μ = μ) (s : State) (hA : Agree μ σ s) : Agree μ σ (cmdCal s) := by
  refine Agree.step (k := 4196352) ?_ hK hA
  clear hA hK
  unfold cmdCal
  repeat' (first | (intro x; first | (refine (fun (hx : Agree 4196352 s x) => ?_) ?_; clear_value x; rotate_left; subst x) | subst x) | lift_lets -underBinder | with_reducible exact Agree.refl _ _ | with_reducible assumption | with_reducible apply @agree_mdSave 4196352 _ (by decide) | with_reducible apply @agree_longCmd 4196352 _ (by decide) | with_reducible refine Agree.of_snd (by assumption) ?_ | with_reducible refine Agree.of_fst (by assumption) ?_ | split | dsimp only | (intro t ht; with_reducible assumption) | intro)

theorem agree_cmdCounter {μ : Nat} {σ : State} (hK : 34816 ||| μ = μ) (s : State) (hA : Agree μ σ s) : Agree μ σ (cmdCounter s) := by
  refine Agree.step (k := 34816) ?_ hK hA
  clear hA hK
  unfold cmdCounter
  repeat' (first | (intro x; first | (refine (fun (hx : Agree 34816 s x) => ?_) ?_; clear_value x; rotate_left; subst x) | subst x) | lift_lets -underBinder | with_reducible exact Agree.refl _ _ | with_reducible assumption | with_reducible apply @agree_bimgReject 34816 _ (by decide) | with_reducible apply @agree_bimgStart 34816 _ (by decide) | with_reducible apply @agree_longCmd 34816 _ (by decide) | with_reducible refine Agree.of_snd (by assumption) ?_ | with_reducible refine Agree.of_fst (by assumption) ?_ | split | dsimp only | (intro t ht; with_reducible assumption) | intro)

theorem agree_cmdJob {μ : Nat} {σ : State} (hK : 2048 ||| μ = μ) (c : Nat) (start : State → Bool × State) (s : State) (hstart : ∀ t, Agree μ σ t → Agree μ σ (start t).2) (hA : Agree μ σ s) : Agree μ σ (cmdJob c start s) := by
  unfold cmdJob
  repeat' (first | (intro x; first | (refine (fun (hx : Agree μ σ x) => ?_) ?_; clear_value x; rotate_left; subst x) | subst x) | lift_lets -underBinder | with_reducible exact Agree.refl _ _ | with_reducible assumption | with_reducible apply hstart | with_reducible apply @agree_mdCmd μ _ (Agree.sub_of hK (by decide)) | with_reducible refine Agree.of_snd (by assumption) ?_ | with_reducible refine Agree.of_fst (by assumption) ?_ | split | dsimp only | (intro t ht; with_reducible assumption) | intro)

theorem agree_cmdDrain {μ : Nat} {σ : State} (hK : 1050624 ||| μ = μ) (s : State) (hA : Agree μ σ s) : Agree μ σ (cmdDrain s) := by
  refine Agree.step (k := 1050624) ?_ hK hA
  clear hA hK
  unfold cmdDrain
  repeat' (first | (intro x; first | (refine (fun (hx : Agree 1050624 s x) => ?_) ?_; clear_value x; rotate_left; subst x) | subst x) | lift_lets -underBinder | with_reducible exact Agree.refl _ _ | with_reducible assumption | with_reducible apply @agree_cmdJob 1050624 _ (by decide) | with_reducible apply @agree_startDrain 1050624 _ (by decide) | with_reducible refine Agree.of_snd (by assumption) ?_ | with_reducible refine Agree.of_fst (by assumption) ?_ | split | dsimp only | (intro t ht; with_reducible assumption) | intro)

theorem agree_cmdDrill {μ : Nat} {σ : State} (hK : 33556480 ||| μ = μ) (s : State) (hA : Agree μ σ s) : Agree μ σ (cmdDrill s) := by
  refine Agree.step (k := 33556480) ?_ hK hA
  clear hA hK
  unfold cmdDrill
  repeat' (first | (intro x; first | (refine (fun (hx : Agree 33556480 s x) => ?_) ?_; clear_value x; rotate_left; subst x) | subst x) | lift_lets -underBinder | with_reducible exact Agree.refl _ _ | with_reducible assumption | with_reducible apply @agree_mdPair 33556480 _ (by decide) | with_reducible apply @agree_longCmd 33556480 _ (by decide) | with_reducible refine Agree.of_snd (by assumption) ?_ | with_reducible refine Agree.of_fst (by assumption) ?_ | split | dsimp only | (intro t ht; with_reducible assumption) | intro)

theorem agree_cmdExport {μ : Nat} {σ : State} (hK : 18432 ||| μ = μ) (s : State) (hA : Agree μ σ s) : Agree μ σ (cmdExport s) := by
  refine Agree.step (k := 18432) ?_ hK hA
  clear hA hK
  unfold cmdExport
  repeat' (first | (intro x; first | (refine (fun (hx : Agree 18432 s x) => ?_) ?_; clear_value x; rotate_left; subst x) | subst x) | lift_lets -underBinder | with_reducible exact Agree.refl _ _ | with_reducible assumption | ((conv => (arg 3; arg 27; skip)); with_reducible refine Agree.upd_ledg _ (by decide) ?_) | with_reducible apply @agree_longCmd 18432 _ (by decide) | with_reducible apply @agree_epochAsk 18432 _ (by decide) | with_reducible refine Agree.of_snd (by assumption) ?_ | with_reducible refine Agree.of_fst (by assumption) ?_ | split | dsimp only | (intro t ht; with_reducible assumption) | intro)

theorem agree_cmdFormat {μ : Nat} {σ : State} (hK : 3148033 ||| μ = μ) (s : State) (hA : Agree μ σ s) : Agree μ σ (cmdFormat s) := by
  refine Agree.step (k := 3148033) ?_ hK hA
  clear hA hK
  unfold cmdFormat
  repeat' (first | (intro x; first | (refine (fun (hx : Agree 3148033 s x) => ?_) ?_; clear_value x; rotate_left; subst x) | subst x) | lift_lets -underBinder | with_reducible exact Agree.refl _ _ | with_reducible assumption | with_reducible apply @agree_cmdJob 3148033 _ (by decide) | with_reducible apply @agree_startFormat 3148033 _ (by decide) | with_reducible refine Agree.of_snd (by assumption) ?_ | with_reducible refine Agree.of_fst (by assumption) ?_ | split | dsimp only | (intro t ht; with_reducible assumption) | intro)

theorem agree_cmdInvalid {μ : Nat} {σ : State} (hK : 2304 ||| μ = μ) (w : Word) (s : State) (hA : Agree μ σ s) : Agree μ σ (cmdInvalid w s) := by
  refine Agree.step (k := 2304) ?_ hK hA
  clear hA hK
  unfold cmdInvalid
  repeat' (first | (intro x; first | (refine (fun (hx : Agree 2304 s x) => ?_) ?_; clear_value x; rotate_left; subst x) | subst x) | lift_lets -underBinder | with_reducible exact Agree.refl _ _ | with_reducible assumption | with_reducible apply @agree_setEvt 2304 _ (by decide) | with_reducible apply @agree_mdCmd 2304 _ (by decide) | with_reducible refine Agree.of_snd (by assumption) ?_ | with_reducible refine Agree.of_fst (by assumption) ?_ | split | dsimp only | (intro t ht; with_reducible assumption) | intro)

theorem agree_cmdKeyErase {μ : Nat} {σ : State} (hK : 36964353 ||| μ = μ) (s : State) (hA : Agree μ σ s) : Agree μ σ (cmdKeyErase s) := by
  refine Agree.step (k := 36964353) ?_ hK hA
  clear hA hK
  unfold cmdKeyErase
  repeat' (first | (intro x; first | (refine (fun (hx : Agree 36964353 s x) => ?_) ?_; clear_value x; rotate_left; subst x) | subst x) | lift_lets -underBinder | with_reducible exact Agree.refl _ _ | with_reducible assumption | with_reducible apply @agree_cmdJob 36964353 _ (by decide) | with_reducible apply @agree_startErase 36964353 _ (by decide) | with_reducible refine Agree.of_snd (by assumption) ?_ | with_reducible refine Agree.of_fst (by assumption) ?_ | split | dsimp only | (intro t ht; with_reducible assumption) | intro)

theorem agree_cmdKeyFuse {μ : Nat} {σ : State} (hK : 34848 ||| μ = μ) (s : State) (hA : Agree μ σ s) : Agree μ σ (cmdKeyFuse s) := by
  refine Agree.step (k := 34848) ?_ hK hA
  clear hA hK
  unfold cmdKeyFuse
  repeat' (first | (intro x; first | (refine (fun (hx : Agree 34848 s x) => ?_) ?_; clear_value x; rotate_left; subst x) | subst x) | lift_lets -underBinder | with_reducible exact Agree.refl _ _ | with_reducible assumption | ((conv => (arg 3; arg 27; skip)); with_reducible refine Agree.upd_keyBanks _ (by decide) ?_) | with_reducible apply @agree_mdBimg 34848 _ (by decide) | with_reducible apply @agree_bimgReject 34848 _ (by decide) | with_reducible apply @agree_bimgStart 34848 _ (by decide) | with_reducible apply @agree_longCmd 34848 _ (by decide) | with_reducible refine Agree.of_snd (by assumption) ?_ | with_reducible refine Agree.of_fst (by assumption) ?_ | split | dsimp only | (intro t ht; with_reducible assumption) | intro)

theorem agree_shortCmd {μ : Nat} {σ : State} (hK : 2048 ||| μ = μ) (c : Nat) (ok : Bool) (f : State → State) (s : State) (hf : ∀ t, Agree μ σ t → Agree μ σ (f t)) (hA : Agree μ σ s) : Agree μ σ (shortCmd c ok f s) := by
  unfold shortCmd
  repeat' (first | (intro x; first | (refine (fun (hx : Agree μ σ x) => ?_) ?_; clear_value x; rotate_left; subst x) | subst x) | lift_lets -underBinder | with_reducible exact Agree.refl _ _ | with_reducible assumption | with_reducible apply hf | with_reducible apply @agree_mdCmd μ _ (Agree.sub_of hK (by decide)) | with_reducible refine Agree.of_snd (by assumption) ?_ | with_reducible refine Agree.of_fst (by assumption) ?_ | split | dsimp only | (intro t ht; with_reducible assumption) | intro)

theorem agree_cmdLeave {μ : Nat} {σ : State} (hK : 2176 ||| μ = μ) (s : State) (hA : Agree μ σ s) : Agree μ σ (cmdLeave s) := by
  refine Agree.step (k := 2176) ?_ hK hA
  clear hA hK
  unfold cmdLeave
  repeat' (first | (intro x; first | (refine (fun (hx : Agree 2176 s x) => ?_) ?_; clear_value x; rotate_left; subst x) | subst x) | lift_lets -underBinder | with_reducible exact Agree.refl _ _ | with_reducible assumption | with_reducible apply @agree_mdTop 2176 _ (by decide) | with_reducible apply @agree_shortCmd 2176 _ (by decide) | with_reducible refine Agree.of_snd (by assumption) ?_ | with_reducible refine Agree.of_fst (by assumption) ?_ | split | dsimp only | (intro t ht; with_reducible assumption) | intro)

theorem agree_cmdRebuild {μ : Nat} {σ : State} (hK : 3213569 ||| μ = μ) (s : State) (hA : Agree μ σ s) : Agree μ σ (cmdRebuild s) := by
  refine Agree.step (k := 3213569) ?_ hK hA
  clear hA hK
  unfold cmdRebuild
  repeat' (first | (intro x; first | (refine (fun (hx : Agree 3213569 s x) => ?_) ?_; clear_value x; rotate_left; subst x) | subst x) | lift_lets -underBinder | with_reducible exact Agree.refl _ _ | with_reducible assumption | with_reducible apply @agree_cmdJob 3213569 _ (by decide) | with_reducible apply @agree_startRebuild 3213569 _ (by decide) | with_reducible refine Agree.of_snd (by assumption) ?_ | with_reducible refine Agree.of_fst (by assumption) ?_ | split | dsimp only | (intro t ht; with_reducible assumption) | intro)

theorem agree_cmdReload {μ : Nat} {σ : State} (hK : 51457 ||| μ = μ) (s : State) (hA : Agree μ σ s) : Agree μ σ (cmdReload s) := by
  refine Agree.step (k := 51457) ?_ hK hA
  clear hA hK
  unfold cmdReload
  repeat' (first | (intro x; first | (refine (fun (hx : Agree 51457 s x) => ?_) ?_; clear_value x; rotate_left; subst x) | subst x) | lift_lets -underBinder | with_reducible exact Agree.refl _ _ | with_reducible assumption | with_reducible apply @agree_cmdEnd 51457 _ (by decide) | with_reducible apply @agree_mdBimg 51457 _ (by decide) | with_reducible apply @agree_tick 51457 _ (by decide) | with_reducible apply @agree_judgeSlot 51457 _ (by decide) | with_reducible apply @agree_bimgReject 51457 _ (by decide) | with_reducible apply @agree_bimgStart 51457 _ (by decide) | with_reducible apply @agree_longCmd 51457 _ (by decide) | with_reducible refine Agree.of_snd (by assumption) ?_ | with_reducible refine Agree.of_fst (by assumption) ?_ | split | dsimp only | (intro t ht; with_reducible assumption) | intro)

theorem agree_cmdRestore {μ : Nat} {σ : State} (hK : 149764 ||| μ = μ) (s : State) (hA : Agree μ σ s) : Agree μ σ (cmdRestore s) := by
  refine Agree.step (k := 149764) ?_ hK hA
  clear hA hK
  unfold cmdRestore
  repeat' (first | (intro x; first | (refine (fun (hx : Agree 149764 s x) => ?_) ?_; clear_value x; rotate_left; subst x) | subst x) | lift_lets -underBinder | with_reducible exact Agree.refl _ _ | with_reducible assumption | ((conv => (arg 3; arg 27; skip)); with_reducible refine Agree.upd_nrg _ (by decide) ?_) | with_reducible apply @agree_setEvt 149764 _ (by decide) | with_reducible apply @agree_bankCopy 149764 _ (by decide) | with_reducible apply @agree_longCmd 149764 _ (by decide) | with_reducible apply @agree_restoreRejected 149764 _ (by decide) | with_reducible refine Agree.of_snd (by assumption) ?_ | with_reducible refine Agree.of_fst (by assumption) ?_ | split | dsimp only | (intro t ht; with_reducible assumption) | intro)

theorem agree_cmdShutdown {μ : Nat} {σ : State} (hK : 2176 ||| μ = μ) (s : State) (hA : Agree μ σ s) : Agree μ σ (cmdShutdown s) := by
  refine Agree.step (k := 2176) ?_ hK hA
  clear hA hK
  unfold cmdShutdown
  repeat' (first | (intro x; first | (refine (fun (hx : Agree 2176 s x) => ?_) ?_; clear_value x; rotate_left; subst x) | subst x) | lift_lets -underBinder | with_reducible exact Agree.refl _ _ | with_reducible assumption | with_reducible apply @agree_mdTop 2176 _ (by decide) | with_reducible apply @agree_shortCmd 2176 _ (by decide) | with_reducible refine Agree.of_snd (by assumption) ?_ | with_reducible refine Agree.of_fst (by assumption) ?_ | split | dsimp only | (intro t ht; with_reducible assumption) | intro)

theorem agree_cmdSlotWrite {μ : Nat} {σ : State} (hK : 51456 ||| μ = μ) (s : State) (hA : Agree μ σ s) : Agree μ σ (cmdSlotWrite s) := by
  refine Agree.step (k := 51456) ?_ hK hA
  clear hA hK
  unfold cmdSlotWrite
  repeat' (first | (intro x; first | (refine (fun (hx : Agree 51456 s x) => ?_) ?_; clear_value x; rotate_left; subst x) | subst x) | lift_lets -underBinder | with_reducible exact Agree.refl _ _ | with_reducible assumption | ((conv => (arg 3; arg 27; skip)); with_reducible refine Agree.upd_ledg _ (by decide) ?_) | with_reducible apply @agree_cmdEnd 51456 _ (by decide) | with_reducible apply @agree_mdBimg 51456 _ (by decide) | with_reducible apply @agree_bimgReject 51456 _ (by decide) | with_reducible apply @agree_bimgStart 51456 _ (by decide) | with_reducible apply @agree_longCmd 51456 _ (by decide) | with_reducible refine Agree.of_snd (by assumption) ?_ | with_reducible refine Agree.of_fst (by assumption) ?_ | split | dsimp only | (intro t ht; with_reducible assumption) | intro)

theorem agree_cmdUnlatch {μ : Nat} {σ : State} (hK : 67712 ||| μ = μ) (s : State) (hA : Agree μ σ s) : Agree μ σ (cmdUnlatch s) := by
  refine Agree.step (k := 67712) ?_ hK hA
  clear hA hK
  unfold cmdUnlatch
  repeat' (first | (intro x; first | (refine (fun (hx : Agree 67712 s x) => ?_) ?_; clear_value x; rotate_left; subst x) | subst x) | lift_lets -underBinder | with_reducible exact Agree.refl _ _ | with_reducible assumption | ((conv => (arg 3; arg 27; skip)); with_reducible refine Agree.upd_seq _ (by decide) ?_) | with_reducible apply @agree_mdTop 67712 _ (by decide) | with_reducible apply @agree_shortCmd 67712 _ (by decide) | with_reducible refine Agree.of_snd (by assumption) ?_ | with_reducible refine Agree.of_fst (by assumption) ?_ | split | dsimp only | (intro t ht; with_reducible assumption) | intro)

theorem agree_cmdVaultExport {μ : Nat} {σ : State} (hK : 1050881 ||| μ = μ) (s : State) (hA : Agree μ σ s) : Agree μ σ (cmdVaultExport s) := by
  refine Agree.step (k := 1050881) ?_ hK hA
  clear hA hK
  unfold cmdVaultExport
  repeat' (first | (intro x; first | (refine (fun (hx : Agree 1050881 s x) => ?_) ?_; clear_value x; rotate_left; subst x) | subst x) | lift_lets -underBinder | with_reducible exact Agree.refl _ _ | with_reducible assumption | with_reducible apply @agree_cmdJob 1050881 _ (by decide) | with_reducible apply @agree_startExport 1050881 _ (by decide) | with_reducible refine Agree.of_snd (by assumption) ?_ | with_reducible refine Agree.of_fst (by assumption) ?_ | split | dsimp only | (intro t ht; with_reducible assumption) | intro)

theorem agree_cmdVerify {μ : Nat} {σ : State} (hK : 1050881 ||| μ = μ) (s : State) (hA : Agree μ σ s) : Agree μ σ (cmdVerify s) := by
  refine Agree.step (k := 1050881) ?_ hK hA
  clear hA hK
  unfold cmdVerify
  repeat' (first | (intro x; first | (refine (fun (hx : Agree 1050881 s x) => ?_) ?_; clear_value x; rotate_left; subst x) | subst x) | lift_lets -underBinder | with_reducible exact Agree.refl _ _ | with_reducible assumption | with_reducible apply @agree_cmdJob 1050881 _ (by decide) | with_reducible apply @agree_startVerify 1050881 _ (by decide) | with_reducible refine Agree.of_snd (by assumption) ?_ | with_reducible refine Agree.of_fst (by assumption) ?_ | split | dsimp only | (intro t ht; with_reducible assumption) | intro)

theorem agree_counterTurn {μ : Nat} {σ : State} (hK : 35088 ||| μ = μ) (s : State) (hA : Agree μ σ s) : Agree μ σ (counterTurn s) := by
  refine Agree.step (k := 35088) ?_ hK hA
  clear hA hK
  unfold counterTurn
  repeat' (first | (intro x; first | (refine (fun (hx : Agree 35088 s x) => ?_) ?_; clear_value x; rotate_left; subst x) | subst x) | lift_lets -underBinder | with_reducible exact Agree.refl _ _ | with_reducible assumption | ((conv => (arg 3; arg 27; skip)); with_reducible refine Agree.upd_fuseCnt _ (by decide) ?_) | with_reducible apply @agree_cmdEnd 35088 _ (by decide) | with_reducible apply @agree_mdBimg 35088 _ (by decide) | with_reducible refine Agree.of_snd (by assumption) ?_ | with_reducible refine Agree.of_fst (by assumption) ?_ | split | dsimp only | (intro t ht; with_reducible assumption) | intro)

theorem agree_exportTurn {μ : Nat} {σ : State} (hK : 18688 ||| μ = μ) (s : State) (hA : Agree μ σ s) : Agree μ σ (exportTurn s) := by
  refine Agree.step (k := 18688) ?_ hK hA
  clear hA hK
  unfold exportTurn
  repeat' (first | (intro x; first | (refine (fun (hx : Agree 18688 s x) => ?_) ?_; clear_value x; rotate_left; subst x) | subst x) | lift_lets -underBinder | with_reducible exact Agree.refl _ _ | with_reducible assumption | ((conv => (arg 3; arg 27; skip)); with_reducible refine Agree.upd_ledg _ (by decide) ?_) | with_reducible apply @agree_cmdEnd 18688 _ (by decide) | with_reducible refine Agree.of_snd (by assumption) ?_ | with_reducible refine Agree.of_fst (by assumption) ?_ | split | dsimp only | (intro t ht; with_reducible assumption) | intro)

theorem agree_keyFuseTurn {μ : Nat} {σ : State} (hK : 50981156 ||| μ = μ) (s : State) (hA : Agree μ σ s) : Agree μ σ (keyFuseTurn s) := by
  refine Agree.step (k := 50981156) ?_ hK hA
  clear hA hK
  unfold keyFuseTurn
  repeat' (first | (intro x; first | (refine (fun (hx : Agree 50981156 s x) => ?_) ?_; clear_value x; rotate_left; subst x) | subst x) | lift_lets -underBinder | with_reducible exact Agree.refl _ _ | with_reducible assumption | ((conv => (arg 3; arg 27; skip)); with_reducible refine Agree.upd_keyBanks _ (by decide) ?_) | with_reducible apply @agree_cmdEnd 50981156 _ (by decide) | with_reducible apply @agree_mdBimg 50981156 _ (by decide) | with_reducible apply @agree_bimgRejudge 50981156 _ (by decide) | with_reducible refine Agree.of_snd (by assumption) ?_ | with_reducible refine Agree.of_fst (by assumption) ?_ | split | dsimp only | (intro t ht; with_reducible assumption) | intro)

theorem agree_pollIssue {μ : Nat} {σ : State} (hK : 4096 ||| μ = μ) (s : State) (hA : Agree μ σ s) : Agree μ σ (pollIssue s) := by
  refine Agree.step (k := 4096) ?_ hK hA
  clear hA hK
  unfold pollIssue
  repeat' (first | (intro x; first | (refine (fun (hx : Agree 4096 s x) => ?_) ?_; clear_value x; rotate_left; subst x) | subst x) | lift_lets -underBinder | with_reducible exact Agree.refl _ _ | with_reducible assumption | with_reducible apply @agree_pmbIssue 4096 _ (by decide) | with_reducible refine Agree.of_snd (by assumption) ?_ | with_reducible refine Agree.of_fst (by assumption) ?_ | split | dsimp only | (intro t ht; with_reducible assumption) | intro)

theorem agree_pollStep {μ : Nat} {σ : State} (hK : 4096 ||| μ = μ) (d : Nat) (s : State) (hA : Agree μ σ s) : Agree μ σ (pollStep d s) := by
  refine Agree.step (k := 4096) ?_ hK hA
  clear hA hK
  unfold pollStep
  repeat' (first | (intro x; first | (refine (fun (hx : Agree 4096 s x) => ?_) ?_; clear_value x; rotate_left; subst x) | subst x) | lift_lets -underBinder | with_reducible exact Agree.refl _ _ | with_reducible assumption | ((conv => (arg 3; arg 27; skip)); with_reducible refine Agree.upd_rp _ (by decide) ?_) | with_reducible apply @agree_pmbQuiet 4096 _ (by decide) | with_reducible apply @agree_pollIssue 4096 _ (by decide) | with_reducible refine Agree.of_snd (by assumption) ?_ | with_reducible refine Agree.of_fst (by assumption) ?_ | split | dsimp only | (intro t ht; with_reducible assumption) | intro)

theorem agree_pmbPoll {μ : Nat} {σ : State} (hK : 12545 ||| μ = μ) (d : Nat) (r : Option (Nat × Nat × Nat × Nat)) (s0 : State) (hA : Agree μ σ s0) : Agree μ σ (pmbPoll d r s0) := by
  refine Agree.step (k := 12545) ?_ hK hA
  clear hA hK
  unfold pmbPoll
  repeat' (first | (intro x; first | (refine (fun (hx : Agree 12545 s0 x) => ?_) ?_; clear_value x; rotate_left; subst x) | subst x) | lift_lets -underBinder | with_reducible exact Agree.refl _ _ | with_reducible assumption | ((conv => (arg 3; arg 27; skip)); with_reducible refine Agree.upd_rp _ (by decide) ?_) | with_reducible apply @agree_setEvt 12545 _ (by decide) | with_reducible apply @agree_tick 12545 _ (by decide) | with_reducible apply @agree_raise 12545 _ (by decide) | with_reducible apply @agree_unraise 12545 _ (by decide) | with_reducible apply @agree_pollStep 12545 _ (by decide) | with_reducible refine Agree.of_snd (by assumption) ?_ | with_reducible refine Agree.of_fst (by assumption) ?_ | split | dsimp only | (intro t ht; with_reducible assumption) | intro)

theorem agree_topCmd {μ : Nat} {σ : State} (hK : 41404837 ||| μ = μ) (w : Word) (s : State) (hA : Agree μ σ s) : Agree μ σ (topCmd w s) := by
  refine Agree.step (k := 41404837) ?_ hK hA
  clear hA hK
  unfold topCmd
  repeat' (first | (intro x; first | (refine (fun (hx : Agree 41404837 s x) => ?_) ?_; clear_value x; rotate_left; subst x) | subst x) | lift_lets -underBinder | with_reducible exact Agree.refl _ _ | with_reducible assumption | with_reducible apply @agree_cmdCal 41404837 _ (by decide) | with_reducible apply @agree_cmdCounter 41404837 _ (by decide) | with_reducible apply @agree_cmdDrain 41404837 _ (by decide) | with_reducible apply @agree_cmdDrill 41404837 _ (by decide) | with_reducible apply @agree_cmdExport 41404837 _ (by decide) | with_reducible apply @agree_cmdFormat 41404837 _ (by decide) | with_reducible apply @agree_cmdInvalid 41404837 _ (by decide) | with_reducible apply @agree_cmdKeyErase 41404837 _ (by decide) | with_reducible apply @agree_cmdKeyFuse 41404837 _ (by decide) | with_reducible apply @agree_cmdLeave 41404837 _ (by decide) | with_reducible apply @agree_cmdRebuild 41404837 _ (by decide) | with_reducible apply @agree_cmdReload 41404837 _ (by decide) | with_reducible apply @agree_cmdRestore 41404837 _ (by decide) | with_reducible apply @agree_cmdShutdown 41404837 _ (by decide) | with_reducible apply @agree_cmdSlotWrite 41404837 _ (by decide) | with_reducible apply @agree_cmdUnlatch 41404837 _ (by decide) | with_reducible apply @agree_cmdVaultExport 41404837 _ (by decide) | with_reducible apply @agree_cmdVerify 41404837 _ (by decide) | with_reducible refine Agree.of_snd (by assumption) ?_ | with_reducible refine Agree.of_fst (by assumption) ?_ | split | dsimp only | (intro t ht; with_reducible assumption) | intro)

theorem agree_polTurn {μ : Nat} {σ : State} (hK : 4096 ||| μ = μ) (s : State) (hA : Agree μ σ s) : Agree μ σ (polTurn s) := by
  refine Agree.step (k := 4096) ?_ hK hA
  clear hA hK
  unfold polTurn
  repeat' (first | (intro x; first | (refine (fun (hx : Agree 4096 s x) => ?_) ?_; clear_value x; rotate_left; subst x) | subst x) | lift_lets -underBinder | with_reducible exact Agree.refl _ _ | with_reducible assumption | ((conv => (arg 3; arg 27; skip)); with_reducible refine Agree.upd_rp _ (by decide) ?_) | with_reducible apply @agree_pollIssue 4096 _ (by decide) | with_reducible refine Agree.of_snd (by assumption) ?_ | with_reducible refine Agree.of_fst (by assumption) ?_ | split | dsimp only | (intro t ht; with_reducible assumption) | intro)

theorem agree_rpData {μ : Nat} {σ : State} (hK : 4096 ||| μ = μ) (w : Word) (s : State) (hA : Agree μ σ s) : Agree μ σ (rpData w s) := by
  refine Agree.step (k := 4096) ?_ hK hA
  clear hA hK
  unfold rpData
  repeat' (first | (intro x; first | (refine (fun (hx : Agree 4096 s x) => ?_) ?_; clear_value x; rotate_left; subst x) | subst x) | lift_lets -underBinder | with_reducible exact Agree.refl _ _ | with_reducible assumption | ((conv => (arg 3; arg 27; skip)); with_reducible refine Agree.upd_rp _ (by decide) ?_) | with_reducible refine Agree.of_snd (by assumption) ?_ | with_reducible refine Agree.of_fst (by assumption) ?_ | split | dsimp only | (intro t ht; with_reducible assumption) | intro)

theorem agree_rpDead {μ : Nat} {σ : State} (hK : 4096 ||| μ = μ) (s : State) (hA : Agree μ σ s) : Agree μ σ (rpDead s) := by
  refine Agree.step (k := 4096) ?_ hK hA
  clear hA hK
  unfold rpDead
  repeat' (first | (intro x; first | (refine (fun (hx : Agree 4096 s x) => ?_) ?_; clear_value x; rotate_left; subst x) | subst x) | lift_lets -underBinder | with_reducible exact Agree.refl _ _ | with_reducible assumption | ((conv => (arg 3; arg 27; skip)); with_reducible refine Agree.upd_rp _ (by decide) ?_) | with_reducible refine Agree.of_snd (by assumption) ?_ | with_reducible refine Agree.of_fst (by assumption) ?_ | split | dsimp only | (intro t ht; with_reducible assumption) | intro)

theorem agree_rpErr {μ : Nat} {σ : State} (hK : 4352 ||| μ = μ) (cause : Nat) (addr : Nat) (write : Bool) (s : State) (hA : Agree μ σ s) : Agree μ σ (rpErr cause addr write s) := by
  refine Agree.step (k := 4352) ?_ hK hA
  clear hA hK
  unfold rpErr
  repeat' (first | (intro x; first | (refine (fun (hx : Agree 4352 s x) => ?_) ?_; clear_value x; rotate_left; subst x) | subst x) | lift_lets -underBinder | with_reducible exact Agree.refl _ _ | with_reducible assumption | ((conv => (arg 3; arg 27; skip)); with_reducible refine Agree.upd_rp _ (by decide) ?_) | with_reducible apply @agree_setEvt 4352 _ (by decide) | with_reducible refine Agree.of_snd (by assumption) ?_ | with_reducible refine Agree.of_fst (by assumption) ?_ | split | dsimp only | (intro t ht; with_reducible assumption) | intro)

theorem agree_reloadCommit {μ : Nat} {σ : State} (hK : 17361220 ||| μ = μ) (s : State) (hA : Agree μ σ s) : Agree μ σ (reloadCommit s) := by
  refine Agree.step (k := 17361220) ?_ hK hA
  clear hA hK
  unfold reloadCommit
  repeat' (first | (intro x; first | (refine (fun (hx : Agree 17361220 s x) => ?_) ?_; clear_value x; rotate_left; subst x) | subst x) | lift_lets -underBinder | with_reducible exact Agree.refl _ _ | with_reducible assumption | ((conv => (arg 3; arg 27; skip)); with_reducible refine Agree.upd_ledg _ (by decide) ?_) | with_reducible refine Agree.forN ?_ ?_ | with_reducible apply @agree_setEvt 17361220 _ (by decide) | with_reducible apply @agree_cmdEnd 17361220 _ (by decide) | with_reducible apply @agree_mdBimg 17361220 _ (by decide) | with_reducible apply @agree_fabImage 17361220 _ (by decide) | with_reducible apply @agree_stakeLoad 17361220 _ (by decide) | with_reducible apply @agree_mdStr 17361220 _ (by decide) | with_reducible apply @agree_takeTuning 17361220 _ (by decide) | with_reducible apply @agree_epochClose 17361220 _ (by decide) | with_reducible refine Agree.of_snd (by assumption) ?_ | with_reducible refine Agree.of_fst (by assumption) ?_ | split | dsimp only | (intro t ht; with_reducible assumption) | intro)

theorem agree_rpRead {μ : Nat} {σ : State} (hK : 4352 ||| μ = μ) (addr : Nat) (f : State → Word × State) (s : State) (hf : ∀ t, Agree μ σ t → Agree μ σ (f t).2) (hA : Agree μ σ s) : Agree μ σ (rpRead addr f s) := by
  unfold rpRead
  repeat' (first | (intro x; first | (refine (fun (hx : Agree μ σ x) => ?_) ?_; clear_value x; rotate_left; subst x) | subst x) | lift_lets -underBinder | with_reducible exact Agree.refl _ _ | with_reducible assumption | with_reducible apply hf | with_reducible apply @agree_rpData μ _ (Agree.sub_of hK (by decide)) | with_reducible apply @agree_rpDead μ _ (Agree.sub_of hK (by decide)) | with_reducible apply @agree_rpErr μ _ (Agree.sub_of hK (by decide)) | with_reducible refine Agree.of_snd (by assumption) ?_ | with_reducible refine Agree.of_fst (by assumption) ?_ | split | dsimp only | (intro t ht; with_reducible assumption) | intro)

theorem agree_rpWrite {μ : Nat} {σ : State} (hK : 4352 ||| μ = μ) (addr : Nat) (f : State → State) (s : State) (hf : ∀ t, Agree μ σ t → Agree μ σ (f t)) (hA : Agree μ σ s) : Agree μ σ (rpWrite addr f s) := by
  unfold rpWrite
  repeat' (first | (intro x; first | (refine (fun (hx : Agree μ σ x) => ?_) ?_; clear_value x; rotate_left; subst x) | subst x) | lift_lets -underBinder | with_reducible exact Agree.refl _ _ | with_reducible assumption | with_reducible apply hf | with_reducible apply @agree_rpData μ _ (Agree.sub_of hK (by decide)) | with_reducible apply @agree_rpDead μ _ (Agree.sub_of hK (by decide)) | with_reducible apply @agree_rpErr μ _ (Agree.sub_of hK (by decide)) | with_reducible refine Agree.of_snd (by assumption) ?_ | with_reducible refine Agree.of_fst (by assumption) ?_ | split | dsimp only | (intro t ht; with_reducible assumption) | intro)

theorem agree_slotWritePoll {μ : Nat} {σ : State} (hK : 50981124 ||| μ = μ) (s : State) (hA : Agree μ σ s) : Agree μ σ (slotWritePoll s) := by
  refine Agree.step (k := 50981124) ?_ hK hA
  clear hA hK
  unfold slotWritePoll
  repeat' (first | (intro x; first | (refine (fun (hx : Agree 50981124 s x) => ?_) ?_; clear_value x; rotate_left; subst x) | subst x) | lift_lets -underBinder | with_reducible exact Agree.refl _ _ | with_reducible assumption | with_reducible apply @agree_cmdEnd 50981124 _ (by decide) | with_reducible apply @agree_bimgRejudge 50981124 _ (by decide) | with_reducible refine Agree.of_snd (by assumption) ?_ | with_reducible refine Agree.of_fst (by assumption) ?_ | split | dsimp only | (intro t ht; with_reducible assumption) | intro)

theorem agree_topCode {μ : Nat} {σ : State} (hK : 4352 ||| μ = μ) (f : State → State) (s : State) (hf : ∀ t, Agree μ σ t → Agree μ σ (f t)) (hA : Agree μ σ s) : Agree μ σ (topCode f s) := by
  unfold topCode
  repeat' (first | (intro x; first | (refine (fun (hx : Agree μ σ x) => ?_) ?_; clear_value x; rotate_left; subst x) | subst x) | lift_lets -underBinder | with_reducible exact Agree.refl _ _ | with_reducible assumption | with_reducible apply hf | with_reducible apply @agree_rpWrite μ _ (Agree.sub_of hK (by decide)) | with_reducible refine Agree.of_snd (by assumption) ?_ | with_reducible refine Agree.of_fst (by assumption) ?_ | split | dsimp only | (intro t ht; with_reducible assumption) | intro)

end State
end Sys2Proof.Machine
end

