-- ==== Sys2Proof/Laws/AgreeRegMap.lean ====
section
/-! SUPPORT. The fields of State that each function of Machine/RegMap.lean can change. -/
set_option Elab.async false

set_option linter.unusedTactic false
set_option linter.unreachableTactic false

namespace Sys2Proof.Machine
namespace State

theorem agree_clrEvt {μ : Nat} {σ : State} (hK : 256 ||| μ = μ) (b : Nat) (w : Word) (s : State) (hA : Agree μ σ s) : Agree μ σ (clrEvt b w s) := by
  refine Agree.step (k := 256) ?_ hK hA
  clear hA hK
  unfold clrEvt
  repeat' (first | (intro x; first | (refine (fun (hx : Agree 256 s x) => ?_) ?_; clear_value x; rotate_left; subst x) | subst x) | lift_lets -underBinder | with_reducible exact Agree.refl _ _ | with_reducible assumption | ((conv => (arg 3; arg 27; skip)); with_reducible refine Agree.upd_evt _ (by decide) ?_) | with_reducible refine Agree.of_snd (by assumption) ?_ | with_reducible refine Agree.of_fst (by assumption) ?_ | split | dsimp only | (intro t ht; with_reducible assumption) | intro)

theorem agree_setCtrl {μ : Nat} {σ : State} (hK : 512 ||| μ = μ) (b : Nat) (mask : Nat) (w : Word) (s : State) (hA : Agree μ σ s) : Agree μ σ (setCtrl b mask w s) := by
  refine Agree.step (k := 512) ?_ hK hA
  clear hA hK
  unfold setCtrl
  repeat' (first | (intro x; first | (refine (fun (hx : Agree 512 s x) => ?_) ?_; clear_value x; rotate_left; subst x) | subst x) | lift_lets -underBinder | with_reducible exact Agree.refl _ _ | with_reducible assumption | ((conv => (arg 3; arg 27; skip)); with_reducible refine Agree.upd_ctrl _ (by decide) ?_) | with_reducible refine Agree.of_snd (by assumption) ?_ | with_reducible refine Agree.of_fst (by assumption) ?_ | split | dsimp only | (intro t ht; with_reducible assumption) | intro)

theorem agree_bimgWrite {μ : Nat} {σ : State} (hK : 50979588 ||| μ = μ) (o : Nat) (w : Word) (s : State) (hA : Agree μ σ s) : Agree μ σ (bimgWrite o w s) := by
  refine Agree.step (k := 50979588) ?_ hK hA
  clear hA hK
  unfold bimgWrite
  repeat' (first | (intro x; first | (refine (fun (hx : Agree 50979588 s x) => ?_) ?_; clear_value x; rotate_left; subst x) | subst x) | lift_lets -underBinder | with_reducible exact Agree.refl _ _ | with_reducible assumption | with_reducible apply @agree_mdBimg 50979588 _ (by decide) | with_reducible apply @agree_bimgRescan 50979588 _ (by decide) | with_reducible apply @agree_clrEvt 50979588 _ (by decide) | with_reducible apply @agree_setCtrl 50979588 _ (by decide) | with_reducible apply @agree_when 50979588 _ (by decide) | with_reducible refine Agree.of_snd (by assumption) ?_ | with_reducible refine Agree.of_fst (by assumption) ?_ | split | dsimp only | (intro t ht; with_reducible assumption) | intro)

theorem agree_cmlSet {μ : Nat} {σ : State} (hK : 4352 ||| μ = μ) (bit : Nat) (s : State) (hA : Agree μ σ s) : Agree μ σ (cmlSet bit s) := by
  refine Agree.step (k := 4352) ?_ hK hA
  clear hA hK
  unfold cmlSet
  repeat' (first | (intro x; first | (refine (fun (hx : Agree 4352 s x) => ?_) ?_; clear_value x; rotate_left; subst x) | subst x) | lift_lets -underBinder | with_reducible exact Agree.refl _ _ | with_reducible assumption | ((conv => (arg 3; arg 27; skip)); with_reducible refine Agree.upd_rp _ (by decide) ?_) | with_reducible apply @agree_setEvt 4352 _ (by decide) | with_reducible refine Agree.of_snd (by assumption) ?_ | with_reducible refine Agree.of_fst (by assumption) ?_ | split | dsimp only | (intro t ht; with_reducible assumption) | intro)

theorem agree_fabWrite {μ : Nat} {σ : State} (hK : 16786176 ||| μ = μ) (o : Nat) (w : Word) (s : State) (hA : Agree μ σ s) : Agree μ σ (fabWrite o w s) := by
  refine Agree.step (k := 16786176) ?_ hK hA
  clear hA hK
  unfold fabWrite
  repeat' (first | (intro x; first | (refine (fun (hx : Agree 16786176 s x) => ?_) ?_; clear_value x; rotate_left; subst x) | subst x) | lift_lets -underBinder | with_reducible exact Agree.refl _ _ | with_reducible assumption | with_reducible apply @agree_mdFab 16786176 _ (by decide) | with_reducible apply @agree_clrEvt 16786176 _ (by decide) | with_reducible apply @agree_setCtrl 16786176 _ (by decide) | with_reducible apply @agree_fabEnable 16786176 _ (by decide) | with_reducible apply @agree_rqWrite 16786176 _ (by decide) | with_reducible refine Agree.of_snd (by assumption) ?_ | with_reducible refine Agree.of_fst (by assumption) ?_ | split | dsimp only | (intro t ht; with_reducible assumption) | intro)

theorem agree_fltCtrl {μ : Nat} {σ : State} (hK : 8704 ||| μ = μ) (w : Word) (s : State) (hA : Agree μ σ s) : Agree μ σ (fltCtrl w s) := by
  refine Agree.step (k := 8704) ?_ hK hA
  clear hA hK
  unfold fltCtrl
  repeat' (first | (intro x; first | (refine (fun (hx : Agree 8704 s x) => ?_) ?_; clear_value x; rotate_left; subst x) | subst x) | lift_lets -underBinder | with_reducible exact Agree.refl _ _ | with_reducible assumption | with_reducible apply @agree_setCtrl 8704 _ (by decide) | with_reducible apply @agree_when 8704 _ (by decide) | with_reducible apply @agree_clrFirst 8704 _ (by decide) | with_reducible refine Agree.of_snd (by assumption) ?_ | with_reducible refine Agree.of_fst (by assumption) ?_ | split | dsimp only | (intro t ht; with_reducible assumption) | intro)

theorem agree_fltWrite {μ : Nat} {σ : State} (hK : 8964 ||| μ = μ) (o : Nat) (w : Word) (s : State) (hA : Agree μ σ s) : Agree μ σ (fltWrite o w s) := by
  refine Agree.step (k := 8964) ?_ hK hA
  clear hA hK
  unfold fltWrite
  repeat' (first | (intro x; first | (refine (fun (hx : Agree 8964 s x) => ?_) ?_; clear_value x; rotate_left; subst x) | subst x) | lift_lets -underBinder | with_reducible exact Agree.refl _ _ | with_reducible assumption | with_reducible apply @agree_mdFlt 8964 _ (by decide) | with_reducible apply @agree_clrEvt 8964 _ (by decide) | with_reducible apply @agree_when 8964 _ (by decide) | with_reducible apply @agree_fltCtrl 8964 _ (by decide) | with_reducible apply @agree_forcePbWrite 8964 _ (by decide) | with_reducible apply @agree_forceWrite 8964 _ (by decide) | with_reducible apply @agree_isoClear 8964 _ (by decide) | with_reducible apply @agree_unlatchClass 8964 _ (by decide) | with_reducible refine Agree.of_snd (by assumption) ?_ | with_reducible refine Agree.of_fst (by assumption) ?_ | split | dsimp only | (intro t ht; with_reducible assumption) | intro)

theorem agree_latchCause {μ : Nat} {σ : State} (hK : 8192 ||| μ = μ) (last : Bool) (s : State) (hA : Agree μ σ s) : Agree μ σ (latchCause last s) := by
  refine Agree.step (k := 8192) ?_ hK hA
  clear hA hK
  unfold latchCause
  repeat' (first | (intro x; first | (refine (fun (hx : Agree 8192 s x) => ?_) ?_; clear_value x; rotate_left; subst x) | subst x) | lift_lets -underBinder | with_reducible exact Agree.refl _ _ | with_reducible assumption | with_reducible apply @agree_mdFlt 8192 _ (by decide) | with_reducible refine Agree.of_snd (by assumption) ?_ | with_reducible refine Agree.of_fst (by assumption) ?_ | split | dsimp only | (intro t ht; with_reducible assumption) | intro)

theorem agree_latchDesc {μ : Nat} {σ : State} (hK : 1048576 ||| μ = μ) (r : Nat) (s : State) (hA : Agree μ σ s) : Agree μ σ (latchDesc r s) := by
  refine Agree.step (k := 1048576) ?_ hK hA
  clear hA hK
  unfold latchDesc
  repeat' (first | (intro x; first | (refine (fun (hx : Agree 1048576 s x) => ?_) ?_; clear_value x; rotate_left; subst x) | subst x) | lift_lets -underBinder | with_reducible exact Agree.refl _ _ | with_reducible assumption | with_reducible apply @agree_mdRing 1048576 _ (by decide) | with_reducible refine Agree.of_snd (by assumption) ?_ | with_reducible refine Agree.of_fst (by assumption) ?_ | split | dsimp only | (intro t ht; with_reducible assumption) | intro)

theorem agree_latchEvq {μ : Nat} {σ : State} (hK : 16384 ||| μ = μ) (s : State) (hA : Agree μ σ s) : Agree μ σ (latchEvq s) := by
  refine Agree.step (k := 16384) ?_ hK hA
  clear hA hK
  unfold latchEvq
  repeat' (first | (intro x; first | (refine (fun (hx : Agree 16384 s x) => ?_) ?_; clear_value x; rotate_left; subst x) | subst x) | lift_lets -underBinder | with_reducible exact Agree.refl _ _ | with_reducible assumption | ((conv => (arg 3; arg 27; skip)); with_reducible refine Agree.upd_ledg _ (by decide) ?_) | with_reducible refine Agree.of_snd (by assumption) ?_ | with_reducible refine Agree.of_fst (by assumption) ?_ | split | dsimp only | (intro t ht; with_reducible assumption) | intro)

theorem agree_latchStamp {μ : Nat} {σ : State} (hK : 129 ||| μ = μ) (s0 : State) (hA : Agree μ σ s0) : Agree μ σ (latchStamp s0) := by
  refine Agree.step (k := 129) ?_ hK hA
  clear hA hK
  unfold latchStamp
  repeat' (first | (intro x; first | (refine (fun (hx : Agree 129 s0 x) => ?_) ?_; clear_value x; rotate_left; subst x) | subst x) | lift_lets -underBinder | with_reducible exact Agree.refl _ _ | with_reducible assumption | with_reducible apply @agree_arrive 129 _ (by decide) | with_reducible apply @agree_mdTop 129 _ (by decide) | with_reducible refine Agree.of_snd (by assumption) ?_ | with_reducible refine Agree.of_fst (by assumption) ?_ | split | dsimp only | (intro t ht; with_reducible assumption) | intro)

theorem agree_latchStr {μ : Nat} {σ : State} (hK : 131072 ||| μ = μ) (k : Nat) (which : Nat) (s : State) (hA : Agree μ σ s) : Agree μ σ (latchStr k which s) := by
  refine Agree.step (k := 131072) ?_ hK hA
  clear hA hK
  unfold latchStr
  repeat' (first | (intro x; first | (refine (fun (hx : Agree 131072 s x) => ?_) ?_; clear_value x; rotate_left; subst x) | subst x) | lift_lets -underBinder | with_reducible exact Agree.refl _ _ | with_reducible assumption | ((conv => (arg 3; arg 27; skip)); with_reducible refine Agree.upd_nrg _ (by decide) ?_) | with_reducible refine Agree.of_snd (by assumption) ?_ | with_reducible refine Agree.of_fst (by assumption) ?_ | split | dsimp only | (intro t ht; with_reducible assumption) | intro)

theorem agree_latchTime {μ : Nat} {σ : State} (hK : 16777217 ||| μ = μ) (s0 : State) (hA : Agree μ σ s0) : Agree μ σ (latchTime s0) := by
  refine Agree.step (k := 16777217) ?_ hK hA
  clear hA hK
  unfold latchTime
  repeat' (first | (intro x; first | (refine (fun (hx : Agree 16777217 s0 x) => ?_) ?_; clear_value x; rotate_left; subst x) | subst x) | lift_lets -underBinder | with_reducible exact Agree.refl _ _ | with_reducible assumption | with_reducible apply @agree_mdFab 16777217 _ (by decide) | with_reducible apply @agree_arrive 16777217 _ (by decide) | with_reducible refine Agree.of_snd (by assumption) ?_ | with_reducible refine Agree.of_fst (by assumption) ?_ | split | dsimp only | (intro t ht; with_reducible assumption) | intro)

theorem agree_latchWall {μ : Nat} {σ : State} (hK : 16384 ||| μ = μ) (s : State) (hA : Agree μ σ s) : Agree μ σ (latchWall s) := by
  refine Agree.step (k := 16384) ?_ hK hA
  clear hA hK
  unfold latchWall
  repeat' (first | (intro x; first | (refine (fun (hx : Agree 16384 s x) => ?_) ?_; clear_value x; rotate_left; subst x) | subst x) | lift_lets -underBinder | with_reducible exact Agree.refl _ _ | with_reducible assumption | ((conv => (arg 3; arg 27; skip)); with_reducible refine Agree.upd_ledg _ (by decide) ?_) | with_reducible refine Agree.of_snd (by assumption) ?_ | with_reducible refine Agree.of_fst (by assumption) ?_ | split | dsimp only | (intro t ht; with_reducible assumption) | intro)

theorem agree_latchAt {μ : Nat} {σ : State} (hK : 17981569 ||| μ = μ) (a : Nat) (s : State) (hA : Agree μ σ s) : Agree μ σ (latchAt a s) := by
  refine Agree.step (k := 17981569) ?_ hK hA
  clear hA hK
  unfold latchAt
  repeat' (first | (intro x; first | (refine (fun (hx : Agree 17981569 s x) => ?_) ?_; clear_value x; rotate_left; subst x) | subst x) | lift_lets -underBinder | with_reducible exact Agree.refl _ _ | with_reducible assumption | with_reducible apply @agree_latchCause 17981569 _ (by decide) | with_reducible apply @agree_latchDesc 17981569 _ (by decide) | with_reducible apply @agree_latchEvq 17981569 _ (by decide) | with_reducible apply @agree_latchStamp 17981569 _ (by decide) | with_reducible apply @agree_latchStr 17981569 _ (by decide) | with_reducible apply @agree_latchTime 17981569 _ (by decide) | with_reducible apply @agree_latchWall 17981569 _ (by decide) | with_reducible refine Agree.of_snd (by assumption) ?_ | with_reducible refine Agree.of_fst (by assumption) ?_ | split | dsimp only | (intro t ht; with_reducible assumption) | intro)

theorem agree_ledgCtrl {μ : Nat} {σ : State} (hK : 16896 ||| μ = μ) (w : Word) (s : State) (hA : Agree μ σ s) : Agree μ σ (ledgCtrl w s) := by
  refine Agree.step (k := 16896) ?_ hK hA
  clear hA hK
  unfold ledgCtrl
  repeat' (first | (intro x; first | (refine (fun (hx : Agree 16896 s x) => ?_) ?_; clear_value x; rotate_left; subst x) | subst x) | lift_lets -underBinder | with_reducible exact Agree.refl _ _ | with_reducible assumption | with_reducible apply @agree_setCtrl 16896 _ (by decide) | with_reducible apply @agree_when 16896 _ (by decide) | with_reducible apply @agree_epochAsk 16896 _ (by decide) | with_reducible refine Agree.of_snd (by assumption) ?_ | with_reducible refine Agree.of_fst (by assumption) ?_ | split | dsimp only | (intro t ht; with_reducible assumption) | intro)

theorem agree_ledgRegWrite {μ : Nat} {σ : State} (hK : 17156 ||| μ = μ) (o : Nat) (w : Word) (s : State) (hA : Agree μ σ s) : Agree μ σ (ledgRegWrite o w s) := by
  refine Agree.step (k := 17156) ?_ hK hA
  clear hA hK
  unfold ledgRegWrite
  repeat' (first | (intro x; first | (refine (fun (hx : Agree 17156 s x) => ?_) ?_; clear_value x; rotate_left; subst x) | subst x) | lift_lets -underBinder | with_reducible exact Agree.refl _ _ | with_reducible assumption | ((conv => (arg 3; arg 27; skip)); with_reducible refine Agree.upd_ledg _ (by decide) ?_) | with_reducible apply @agree_clearHold 17156 _ (by decide) | with_reducible apply @agree_clrEvt 17156 _ (by decide) | with_reducible apply @agree_when 17156 _ (by decide) | with_reducible apply @agree_evqPop 17156 _ (by decide) | with_reducible apply @agree_ledgCtrl 17156 _ (by decide) | with_reducible apply @agree_wallCommit 17156 _ (by decide) | with_reducible refine Agree.of_snd (by assumption) ?_ | with_reducible refine Agree.of_fst (by assumption) ?_ | split | dsimp only | (intro t ht; with_reducible assumption) | intro)

theorem agree_lreadReqRx {μ : Nat} {σ : State} (hK : 16777216 ||| μ = μ) (i : Nat) (h : Hdr) (src : Nat) (ofs : Nat) (len : Nat) (s : State) (hA : Agree μ σ s) : Agree μ σ (lreadReqRx i h src ofs len s) := by
  refine Agree.step (k := 16777216) ?_ hK hA
  clear hA hK
  unfold lreadReqRx
  repeat' (first | (intro x; first | (refine (fun (hx : Agree 16777216 s x) => ?_) ?_; clear_value x; rotate_left; subst x) | subst x) | lift_lets -underBinder | with_reducible exact Agree.refl _ _ | with_reducible assumption | with_reducible apply @agree_unicast 16777216 _ (by decide) | with_reducible apply @agree_freceive 16777216 _ (by decide) | with_reducible apply @agree_serve 16777216 _ (by decide) | with_reducible refine Agree.of_snd (by assumption) ?_ | with_reducible refine Agree.of_fst (by assumption) ?_ | split | dsimp only | (intro t ht; with_reducible assumption) | intro)

theorem agree_marginReg' {μ : Nat} {σ : State} (hK : 78081 ||| μ = μ) (n : Nat) (w : Word) (s : State) (hA : Agree μ σ s) : Agree μ σ (marginReg' n w s) := by
  refine Agree.step (k := 78081) ?_ hK hA
  clear hA hK
  unfold marginReg'
  repeat' (first | (intro x; first | (refine (fun (hx : Agree 78081 s x) => ?_) ?_; clear_value x; rotate_left; subst x) | subst x) | lift_lets -underBinder | with_reducible exact Agree.refl _ _ | with_reducible assumption | with_reducible apply @agree_marginWrite 78081 _ (by decide) | with_reducible refine Agree.of_snd (by assumption) ?_ | with_reducible refine Agree.of_fst (by assumption) ?_ | split | dsimp only | (intro t ht; with_reducible assumption) | intro)

theorem agree_nrgCand {μ : Nat} {σ : State} (hK : 131072 ||| μ = μ) (w : Word) (s : State) (hA : Agree μ σ s) : Agree μ σ (nrgCand w s) := by
  refine Agree.step (k := 131072) ?_ hK hA
  clear hA hK
  unfold nrgCand
  repeat' (first | (intro x; first | (refine (fun (hx : Agree 131072 s x) => ?_) ?_; clear_value x; rotate_left; subst x) | subst x) | lift_lets -underBinder | with_reducible exact Agree.refl _ _ | with_reducible assumption | with_reducible apply @agree_when 131072 _ (by decide) | with_reducible apply @agree_candWrite 131072 _ (by decide) | with_reducible refine Agree.of_snd (by assumption) ?_ | with_reducible refine Agree.of_fst (by assumption) ?_ | split | dsimp only | (intro t ht; with_reducible assumption) | intro)

theorem agree_nrgCtrl {μ : Nat} {σ : State} (hK : 512 ||| μ = μ) (w : Word) (s : State) (hA : Agree μ σ s) : Agree μ σ (nrgCtrl w s) := by
  refine Agree.step (k := 512) ?_ hK hA
  clear hA hK
  unfold nrgCtrl
  repeat' (first | (intro x; first | (refine (fun (hx : Agree 512 s x) => ?_) ?_; clear_value x; rotate_left; subst x) | subst x) | lift_lets -underBinder | with_reducible exact Agree.refl _ _ | with_reducible assumption | with_reducible apply @agree_setCtrl 512 _ (by decide) | with_reducible refine Agree.of_snd (by assumption) ?_ | with_reducible refine Agree.of_fst (by assumption) ?_ | split | dsimp only | (intro t ht; with_reducible assumption) | intro)

theorem agree_nrgLearn {μ : Nat} {σ : State} (hK : 131332 ||| μ = μ) (w : Word) (s : State) (hA : Agree μ σ s) : Agree μ σ (nrgLearn w s) := by
  refine Agree.step (k := 131332) ?_ hK hA
  clear hA hK
  unfold nrgLearn
  repeat' (first | (intro x; first | (refine (fun (hx : Agree 131332 s x) => ?_) ?_; clear_value x; rotate_left; subst x) | subst x) | lift_lets -underBinder | with_reducible exact Agree.refl _ _ | with_reducible assumption | with_reducible apply @agree_mdAon 131332 _ (by decide) | with_reducible apply @agree_when 131332 _ (by decide) | with_reducible apply @agree_learnAbort 131332 _ (by decide) | with_reducible apply @agree_learnStart 131332 _ (by decide) | with_reducible refine Agree.of_snd (by assumption) ?_ | with_reducible refine Agree.of_fst (by assumption) ?_ | split | dsimp only | (intro t ht; with_reducible assumption) | intro)

theorem agree_nrgWrite {μ : Nat} {σ : State} (hK : 131844 ||| μ = μ) (o : Nat) (w : Word) (s : State) (hA : Agree μ σ s) : Agree μ σ (nrgWrite o w s) := by
  refine Agree.step (k := 131844) ?_ hK hA
  clear hA hK
  unfold nrgWrite
  repeat' (first | (intro x; first | (refine (fun (hx : Agree 131844 s x) => ?_) ?_; clear_value x; rotate_left; subst x) | subst x) | lift_lets -underBinder | with_reducible exact Agree.refl _ _ | with_reducible assumption | ((conv => (arg 3; arg 27; skip)); with_reducible refine Agree.upd_nrg _ (by decide) ?_) | with_reducible apply @agree_clrEvt 131844 _ (by decide) | with_reducible apply @agree_nrgCand 131844 _ (by decide) | with_reducible apply @agree_nrgCtrl 131844 _ (by decide) | with_reducible apply @agree_nrgLearn 131844 _ (by decide) | with_reducible refine Agree.of_snd (by assumption) ?_ | with_reducible refine Agree.of_fst (by assumption) ?_ | split | dsimp only | (intro t ht; with_reducible assumption) | intro)

theorem agree_pairWrite {μ : Nat} {σ : State} (hK : 33555201 ||| μ = μ) (o : Nat) (w : Word) (s : State) (hA : Agree μ σ s) : Agree μ σ (pairWrite o w s) := by
  refine Agree.step (k := 33555201) ?_ hK hA
  clear hA hK
  unfold pairWrite
  repeat' (first | (intro x; first | (refine (fun (hx : Agree 33555201 s x) => ?_) ?_; clear_value x; rotate_left; subst x) | subst x) | lift_lets -underBinder | with_reducible exact Agree.refl _ _ | with_reducible assumption | with_reducible apply @agree_mdPair 33555201 _ (by decide) | with_reducible apply @agree_clrEvt 33555201 _ (by decide) | with_reducible apply @agree_setCtrl 33555201 _ (by decide) | with_reducible apply @agree_kxApprove 33555201 _ (by decide) | with_reducible refine Agree.of_snd (by assumption) ?_ | with_reducible refine Agree.of_fst (by assumption) ?_ | split | dsimp only | (intro t ht; with_reducible assumption) | intro)

theorem agree_pmbAnswer {μ : Nat} {σ : State} (hK : 4096 ||| μ = μ) (code : Nat) (blk : Bool) (l : List Byte) (s : State) (hA : Agree μ σ s) : Agree μ σ (pmbAnswer code blk l s) := by
  refine Agree.step (k := 4096) ?_ hK hA
  clear hA hK
  unfold pmbAnswer
  repeat' (first | (intro x; first | (refine (fun (hx : Agree 4096 s x) => ?_) ?_; clear_value x; rotate_left; subst x) | subst x) | lift_lets -underBinder | with_reducible exact Agree.refl _ _ | with_reducible assumption | ((conv => (arg 3; arg 27; skip)); with_reducible refine Agree.upd_rp _ (by decide) ?_) | with_reducible refine Agree.of_snd (by assumption) ?_ | with_reducible refine Agree.of_fst (by assumption) ?_ | split | dsimp only | (intro t ht; with_reducible assumption) | intro)

theorem agree_pmbRead {μ : Nat} {σ : State} (hK : 4096 ||| μ = μ) (code : Nat) (blk : Bool) (f : State → List Byte) (s : State) (hA : Agree μ σ s) : Agree μ σ (pmbRead code blk f s) := by
  refine Agree.step (k := 4096) ?_ hK hA
  clear hA hK
  unfold pmbRead
  repeat' (first | (intro x; first | (refine (fun (hx : Agree 4096 s x) => ?_) ?_; clear_value x; rotate_left; subst x) | subst x) | lift_lets -underBinder | with_reducible exact Agree.refl _ _ | with_reducible assumption | with_reducible apply @agree_pmbAnswer 4096 _ (by decide) | with_reducible refine Agree.of_snd (by assumption) ?_ | with_reducible refine Agree.of_fst (by assumption) ?_ | split | dsimp only | (intro t ht; with_reducible assumption) | intro)

theorem agree_pmbReg {μ : Nat} {σ : State} (hK : 17985921 ||| μ = μ) (s : State) (hA : Agree μ σ s) : Agree μ σ (pmbReg s) := by
  refine Agree.step (k := 17985921) ?_ hK hA
  clear hA hK
  unfold pmbReg
  repeat' (first | (intro x; first | (refine (fun (hx : Agree 17985921 s x) => ?_) ?_; clear_value x; rotate_left; subst x) | subst x) | lift_lets -underBinder | with_reducible exact Agree.refl _ _ | with_reducible assumption | with_reducible apply @agree_cmlSet 17985921 _ (by decide) | with_reducible apply @agree_latchAt 17985921 _ (by decide) | with_reducible apply @agree_pmbAnswer 17985921 _ (by decide) | with_reducible refine Agree.of_snd (by assumption) ?_ | with_reducible refine Agree.of_fst (by assumption) ?_ | split | dsimp only | (intro t ht; with_reducible assumption) | intro)

theorem agree_portDisable {μ : Nat} {σ : State} (hK : 14950400 ||| μ = μ) (p : Nat) (s : State) (hA : Agree μ σ s) : Agree μ σ (portDisable p s) := by
  refine Agree.step (k := 14950400) ?_ hK hA
  clear hA hK
  unfold portDisable
  repeat' (first | (intro x; first | (refine (fun (hx : Agree 14950400 s x) => ?_) ?_; clear_value x; rotate_left; subst x) | subst x) | lift_lets -underBinder | with_reducible exact Agree.refl _ _ | with_reducible assumption | with_reducible apply @agree_mdLk 14950400 _ (by decide) | with_reducible apply @agree_mdSv 14950400 _ (by decide) | with_reducible apply @agree_portsDown 14950400 _ (by decide) | with_reducible refine Agree.of_snd (by assumption) ?_ | with_reducible refine Agree.of_fst (by assumption) ?_ | split | dsimp only | (intro t ht; with_reducible assumption) | intro)

theorem agree_portEnable {μ : Nat} {σ : State} (hK : 4464640 ||| μ = μ) (p : Nat) (s : State) (hA : Agree μ σ s) : Agree μ σ (portEnable p s) := by
  refine Agree.step (k := 4464640) ?_ hK hA
  clear hA hK
  unfold portEnable
  repeat' (first | (intro x; first | (refine (fun (hx : Agree 4464640 s x) => ?_) ?_; clear_value x; rotate_left; subst x) | subst x) | lift_lets -underBinder | with_reducible exact Agree.refl _ _ | with_reducible assumption | with_reducible apply @agree_mdLk 4464640 _ (by decide) | with_reducible apply @agree_mdSv 4464640 _ (by decide) | with_reducible apply @agree_linkLost 4464640 _ (by decide) | with_reducible refine Agree.of_snd (by assumption) ?_ | with_reducible refine Agree.of_fst (by assumption) ?_ | split | dsimp only | (intro t ht; with_reducible assumption) | intro)

theorem agree_portCtrl {μ : Nat} {σ : State} (hK : 14950400 ||| μ = μ) (p : Nat) (w : Word) (s : State) (hA : Agree μ σ s) : Agree μ σ (portCtrl p w s) := by
  refine Agree.step (k := 14950400) ?_ hK hA
  clear hA hK
  unfold portCtrl
  repeat' (first | (intro x; first | (refine (fun (hx : Agree 14950400 s x) => ?_) ?_; clear_value x; rotate_left; subst x) | subst x) | lift_lets -underBinder | with_reducible exact Agree.refl _ _ | with_reducible assumption | with_reducible apply @agree_when 14950400 _ (by decide) | with_reducible apply @agree_toRecover 14950400 _ (by decide) | with_reducible apply @agree_portDisable 14950400 _ (by decide) | with_reducible apply @agree_portEnable 14950400 _ (by decide) | with_reducible refine Agree.of_snd (by assumption) ?_ | with_reducible refine Agree.of_fst (by assumption) ?_ | split | dsimp only | (intro t ht; with_reducible assumption) | intro)

theorem agree_retActWrite {μ : Nat} {σ : State} (hK : 11796737 ||| μ = μ) (p : Nat) (w : Word) (s : State) (hA : Agree μ σ s) : Agree μ σ (retActWrite p w s) := by
  refine Agree.step (k := 11796737) ?_ hK hA
  clear hA hK
  unfold retActWrite
  repeat' (first | (intro x; first | (refine (fun (hx : Agree 11796737 s x) => ?_) ?_; clear_value x; rotate_left; subst x) | subst x) | lift_lets -underBinder | with_reducible exact Agree.refl _ _ | with_reducible assumption | with_reducible apply @agree_retAct 11796737 _ (by decide) | with_reducible apply @agree_retAcceptLoss 11796737 _ (by decide) | with_reducible apply @agree_retAgain 11796737 _ (by decide) | with_reducible apply @agree_retDiscard 11796737 _ (by decide) | with_reducible apply @agree_retLeave 11796737 _ (by decide) | with_reducible apply @agree_retReassign 11796737 _ (by decide) | with_reducible refine Agree.of_snd (by assumption) ?_ | with_reducible refine Agree.of_fst (by assumption) ?_ | split | dsimp only | (intro t ht; with_reducible assumption) | intro)

theorem agree_retWrite {μ : Nat} {σ : State} (hK : 11797249 ||| μ = μ) (o : Nat) (w : Word) (s : State) (hA : Agree μ σ s) : Agree μ σ (retWrite o w s) := by
  refine Agree.step (k := 11797249) ?_ hK hA
  clear hA hK
  unfold retWrite
  repeat' (first | (intro x; first | (refine (fun (hx : Agree 11797249 s x) => ?_) ?_; clear_value x; rotate_left; subst x) | subst x) | lift_lets -underBinder | with_reducible exact Agree.refl _ _ | with_reducible assumption | with_reducible apply @agree_mdRt 11797249 _ (by decide) | with_reducible apply @agree_clrEvt 11797249 _ (by decide) | with_reducible apply @agree_retActWrite 11797249 _ (by decide) | with_reducible apply @agree_retConc 11797249 _ (by decide) | with_reducible refine Agree.of_snd (by assumption) ?_ | with_reducible refine Agree.of_fst (by assumption) ?_ | split | dsimp only | (intro t ht; with_reducible assumption) | intro)

theorem agree_rpRegWrite {μ : Nat} {σ : State} (hK : 33561344 ||| μ = μ) (o : Nat) (w : Word) (s : State) (hA : Agree μ σ s) : Agree μ σ (rpRegWrite o w s) := by
  refine Agree.step (k := 33561344) ?_ hK hA
  clear hA hK
  unfold rpRegWrite
  repeat' (first | (intro x; first | (refine (fun (hx : Agree 33561344 s x) => ?_) ?_; clear_value x; rotate_left; subst x) | subst x) | lift_lets -underBinder | with_reducible exact Agree.refl _ _ | with_reducible assumption | ((conv => (arg 3; arg 27; skip)); with_reducible refine Agree.upd_rp _ (by decide) ?_) | with_reducible apply @agree_abortWrite 33561344 _ (by decide) | with_reducible apply @agree_clrEvt 33561344 _ (by decide) | with_reducible apply @agree_setCtrl 33561344 _ (by decide) | with_reducible apply @agree_when 33561344 _ (by decide) | with_reducible refine Agree.of_snd (by assumption) ?_ | with_reducible refine Agree.of_fst (by assumption) ?_ | split | dsimp only | (intro t ht; with_reducible assumption) | intro)

theorem agree_saveWrite {μ : Nat} {σ : State} (hK : 50330501 ||| μ = μ) (o : Nat) (w : Word) (s : State) (hA : Agree μ σ s) : Agree μ σ (saveWrite o w s) := by
  refine Agree.step (k := 50330501) ?_ hK hA
  clear hA hK
  unfold saveWrite
  repeat' (first | (intro x; first | (refine (fun (hx : Agree 50330501 s x) => ?_) ?_; clear_value x; rotate_left; subst x) | subst x) | lift_lets -underBinder | with_reducible exact Agree.refl _ _ | with_reducible assumption | with_reducible apply @agree_clrEvt 50330501 _ (by decide) | with_reducible apply @agree_setCtrl 50330501 _ (by decide) | with_reducible apply @agree_testTrip 50330501 _ (by decide) | with_reducible refine Agree.of_snd (by assumption) ?_ | with_reducible refine Agree.of_fst (by assumption) ?_ | split | dsimp only | (intro t ht; with_reducible assumption) | intro)

theorem agree_seqCtrl {μ : Nat} {σ : State} (hK : 90880 ||| μ = μ) (w : Word) (s : State) (hA : Agree μ σ s) : Agree μ σ (seqCtrl w s) := by
  refine Agree.step (k := 90880) ?_ hK hA
  clear hA hK
  unfold seqCtrl
  repeat' (first | (intro x; first | (refine (fun (hx : Agree 90880 s x) => ?_) ?_; clear_value x; rotate_left; subst x) | subst x) | lift_lets -underBinder | with_reducible exact Agree.refl _ _ | with_reducible assumption | with_reducible apply @agree_setCtrl 90880 _ (by decide) | with_reducible apply @agree_when 90880 _ (by decide) | with_reducible apply @agree_snapshot 90880 _ (by decide) | with_reducible apply @agree_svcRetryWrite 90880 _ (by decide) | with_reducible refine Agree.of_snd (by assumption) ?_ | with_reducible refine Agree.of_fst (by assumption) ?_ | split | dsimp only | (intro t ht; with_reducible assumption) | intro)

theorem agree_seqWrite {μ : Nat} {σ : State} (hK : 94977 ||| μ = μ) (o : Nat) (w : Word) (s : State) (hA : Agree μ σ s) : Agree μ σ (seqWrite o w s) := by
  refine Agree.step (k := 94977) ?_ hK hA
  clear hA hK
  unfold seqWrite
  repeat' (first | (intro x; first | (refine (fun (hx : Agree 94977 s x) => ?_) ?_; clear_value x; rotate_left; subst x) | subst x) | lift_lets -underBinder | with_reducible exact Agree.refl _ _ | with_reducible assumption | with_reducible apply @agree_clrEvt 94977 _ (by decide) | with_reducible apply @agree_marginReg' 94977 _ (by decide) | with_reducible apply @agree_seqCtrl 94977 _ (by decide) | with_reducible refine Agree.of_snd (by assumption) ?_ | with_reducible refine Agree.of_fst (by assumption) ?_ | split | dsimp only | (intro t ht; with_reducible assumption) | intro)

theorem agree_stageWrite {μ : Nat} {σ : State} (hK : 2097920 ||| μ = μ) (o : Nat) (w : Word) (s : State) (hA : Agree μ σ s) : Agree μ σ (stageWrite o w s) := by
  refine Agree.step (k := 2097920) ?_ hK hA
  clear hA hK
  unfold stageWrite
  repeat' (first | (intro x; first | (refine (fun (hx : Agree 2097920 s x) => ?_) ?_; clear_value x; rotate_left; subst x) | subst x) | lift_lets -underBinder | with_reducible exact Agree.refl _ _ | with_reducible assumption | ((conv => (arg 3; arg 27; skip)); with_reducible refine Agree.upd_stage _ (by decide) ?_) | with_reducible apply @agree_mdPp 2097920 _ (by decide) | with_reducible apply @agree_clrEvt 2097920 _ (by decide) | with_reducible apply @agree_setCtrl 2097920 _ (by decide) | with_reducible apply @agree_stageHost 2097920 _ (by decide) | with_reducible refine Agree.of_snd (by assumption) ?_ | with_reducible refine Agree.of_fst (by assumption) ?_ | split | dsimp only | (intro t ht; with_reducible assumption) | intro)

theorem agree_stakeWrite {μ : Nat} {σ : State} (hK : 524288 ||| μ = μ) (o : Nat) (w : Word) (s : State) (hA : Agree μ σ s) : Agree μ σ (stakeWrite o w s) := by
  refine Agree.step (k := 524288) ?_ hK hA
  clear hA hK
  unfold stakeWrite
  repeat' (first | (intro x; first | (refine (fun (hx : Agree 524288 s x) => ?_) ?_; clear_value x; rotate_left; subst x) | subst x) | lift_lets -underBinder | with_reducible exact Agree.refl _ _ | with_reducible assumption | ((conv => (arg 3; arg 27; skip)); with_reducible refine Agree.upd_stake _ (by decide) ?_) | with_reducible apply @agree_mdStkQ 524288 _ (by decide) | with_reducible apply @agree_marginReg 524288 _ (by decide) | with_reducible apply @agree_viewHold 524288 _ (by decide) | with_reducible refine Agree.of_snd (by assumption) ?_ | with_reducible refine Agree.of_fst (by assumption) ?_ | split | dsimp only | (intro t ht; with_reducible assumption) | intro)

theorem agree_topWrite {μ : Nat} {σ : State} (hK : 41406373 ||| μ = μ) (o : Nat) (w : Word) (s : State) (hA : Agree μ σ s) : Agree μ σ (topWrite o w s) := by
  refine Agree.step (k := 41406373) ?_ hK hA
  clear hA hK
  unfold topWrite
  repeat' (first | (intro x; first | (refine (fun (hx : Agree 41406373 s x) => ?_) ?_; clear_value x; rotate_left; subst x) | subst x) | lift_lets -underBinder | with_reducible exact Agree.refl _ _ | with_reducible assumption | ((conv => (arg 3; arg 27; skip)); with_reducible refine Agree.upd_busyIrq _ (by decide) ?_) | with_reducible apply @agree_clrEvt 41406373 _ (by decide) | with_reducible apply @agree_setCtrl 41406373 _ (by decide) | with_reducible apply @agree_topCmd 41406373 _ (by decide) | with_reducible refine Agree.of_snd (by assumption) ?_ | with_reducible refine Agree.of_fst (by assumption) ?_ | split | dsimp only | (intro t ht; with_reducible assumption) | intro)

theorem agree_vaultWrite {μ : Nat} {σ : State} (hK : 1049344 ||| μ = μ) (o : Nat) (w : Word) (s : State) (hA : Agree μ σ s) : Agree μ σ (vaultWrite o w s) := by
  refine Agree.step (k := 1049344) ?_ hK hA
  clear hA hK
  unfold vaultWrite
  repeat' (first | (intro x; first | (refine (fun (hx : Agree 1049344 s x) => ?_) ?_; clear_value x; rotate_left; subst x) | subst x) | lift_lets -underBinder | with_reducible exact Agree.refl _ _ | with_reducible assumption | with_reducible apply @agree_mdVault 1049344 _ (by decide) | with_reducible apply @agree_clrEvt 1049344 _ (by decide) | with_reducible apply @agree_setCtrl 1049344 _ (by decide) | with_reducible refine Agree.of_snd (by assumption) ?_ | with_reducible refine Agree.of_fst (by assumption) ?_ | split | dsimp only | (intro t ht; with_reducible assumption) | intro)

theorem agree_pokeAt {μ : Nat} {σ : State} (hK : 67108773 ||| μ = μ) (a : Nat) (w : Word) (s : State) (hA : Agree μ σ s) : Agree μ σ (pokeAt a w s) := by
  refine Agree.step (k := 67108773) ?_ hK hA
  clear hA hK
  unfold pokeAt
  repeat' (first | (intro x; first | (refine (fun (hx : Agree 67108773 s x) => ?_) ?_; clear_value x; rotate_left; subst x) | subst x) | lift_lets -underBinder | with_reducible exact Agree.refl _ _ | with_reducible assumption | with_reducible apply @agree_mdRing 67108773 _ (by decide) | with_reducible apply @agree_mdLk 67108773 _ (by decide) | with_reducible apply @agree_bimgWrite 67108773 _ (by decide) | with_reducible apply @agree_fabWrite 67108773 _ (by decide) | with_reducible apply @agree_fltWrite 67108773 _ (by decide) | with_reducible apply @agree_ledgRegWrite 67108773 _ (by decide) | with_reducible apply @agree_nrgWrite 67108773 _ (by decide) | with_reducible apply @agree_pairWrite 67108773 _ (by decide) | with_reducible apply @agree_portCtrl 67108773 _ (by decide) | with_reducible apply @agree_retWrite 67108773 _ (by decide) | with_reducible apply @agree_rpRegWrite 67108773 _ (by decide) | with_reducible apply @agree_saveWrite 67108773 _ (by decide) | with_reducible apply @agree_seqWrite 67108773 _ (by decide) | with_reducible apply @agree_stageWrite 67108773 _ (by decide) | with_reducible apply @agree_stakeWrite 67108773 _ (by decide) | with_reducible apply @agree_topWrite 67108773 _ (by decide) | with_reducible apply @agree_vaultWrite 67108773 _ (by decide) | with_reducible refine Agree.of_snd (by assumption) ?_ | with_reducible refine Agree.of_fst (by assumption) ?_ | split | dsimp only | (intro t ht; with_reducible assumption) | intro)

theorem agree_regRead {μ : Nat} {σ : State} (hK : 17985921 ||| μ = μ) (a : Nat) (s : State) (hA : Agree μ σ s) : Agree μ σ (regRead a s) := by
  refine Agree.step (k := 17985921) ?_ hK hA
  clear hA hK
  unfold regRead
  repeat' (first | (intro x; first | (refine (fun (hx : Agree 17985921 s x) => ?_) ?_; clear_value x; rotate_left; subst x) | subst x) | lift_lets -underBinder | with_reducible exact Agree.refl _ _ | with_reducible assumption | with_reducible apply @agree_latchAt 17985921 _ (by decide) | with_reducible apply @agree_rpData 17985921 _ (by decide) | with_reducible apply @agree_rpDead 17985921 _ (by decide) | with_reducible apply @agree_rpErr 17985921 _ (by decide) | with_reducible refine Agree.of_snd (by assumption) ?_ | with_reducible refine Agree.of_fst (by assumption) ?_ | split | dsimp only | (intro t ht; with_reducible assumption) | intro)

theorem agree_regWrite {μ : Nat} {σ : State} (hK : 67108773 ||| μ = μ) (a : Nat) (w : Word) (s : State) (hA : Agree μ σ s) : Agree μ σ (regWrite a w s) := by
  refine Agree.step (k := 67108773) ?_ hK hA
  clear hA hK
  unfold regWrite
  repeat' (first | (intro x; first | (refine (fun (hx : Agree 67108773 s x) => ?_) ?_; clear_value x; rotate_left; subst x) | subst x) | lift_lets -underBinder | with_reducible exact Agree.refl _ _ | with_reducible assumption | with_reducible apply @agree_pokeAt 67108773 _ (by decide) | with_reducible apply @agree_rpData 67108773 _ (by decide) | with_reducible apply @agree_rpDead 67108773 _ (by decide) | with_reducible apply @agree_rpErr 67108773 _ (by decide) | with_reducible refine Agree.of_snd (by assumption) ?_ | with_reducible refine Agree.of_fst (by assumption) ?_ | split | dsimp only | (intro t ht; with_reducible assumption) | intro)

theorem agree_telReqRx {μ : Nat} {σ : State} (hK : 16777216 ||| μ = μ) (i : Nat) (h : Hdr) (src : Nat) (s : State) (hA : Agree μ σ s) : Agree μ σ (telReqRx i h src s) := by
  refine Agree.step (k := 16777216) ?_ hK hA
  clear hA hK
  unfold telReqRx
  repeat' (first | (intro x; first | (refine (fun (hx : Agree 16777216 s x) => ?_) ?_; clear_value x; rotate_left; subst x) | subst x) | lift_lets -underBinder | with_reducible exact Agree.refl _ _ | with_reducible assumption | with_reducible apply @agree_unicast 16777216 _ (by decide) | with_reducible apply @agree_freceive 16777216 _ (by decide) | with_reducible apply @agree_serve 16777216 _ (by decide) | with_reducible refine Agree.of_snd (by assumption) ?_ | with_reducible refine Agree.of_fst (by assumption) ?_ | split | dsimp only | (intro t ht; with_reducible assumption) | intro)

end State
end Sys2Proof.Machine
end

