-- ==== Sys2Proof/Laws/AgreeTurn.lean ====
section
/-! SUPPORT. The fields of State that each function of Machine/Turn.lean can change. -/
set_option Elab.async false

set_option linter.unusedTactic false
set_option linter.unreachableTactic false

namespace Sys2Proof.Machine
namespace State

theorem agree_went {μ : Nat} {σ : State} (hK : 384 ||| μ = μ) (n : TopState) (s : State) (hA : Agree μ σ s) : Agree μ σ (went n s) := by
  refine Agree.step (k := 384) ?_ hK hA
  clear hA hK
  unfold went
  repeat' (first | (intro x; first | (refine (fun (hx : Agree 384 s x) => ?_) ?_; clear_value x; rotate_left; subst x) | subst x) | lift_lets -underBinder | with_reducible exact Agree.refl _ _ | with_reducible assumption | with_reducible apply @agree_setEvt 384 _ (by decide) | with_reducible apply @agree_enter 384 _ (by decide) | with_reducible refine Agree.of_snd (by assumption) ?_ | with_reducible refine Agree.of_fst (by assumption) ?_ | split | dsimp only | (intro t ht; with_reducible assumption) | intro)

theorem agree_toLatched {μ : Nat} {σ : State} (hK : 65920 ||| μ = μ) (s : State) (hA : Agree μ σ s) : Agree μ σ (toLatched s) := by
  refine Agree.step (k := 65920) ?_ hK hA
  clear hA hK
  unfold toLatched
  repeat' (first | (intro x; first | (refine (fun (hx : Agree 65920 s x) => ?_) ?_; clear_value x; rotate_left; subst x) | subst x) | lift_lets -underBinder | with_reducible exact Agree.refl _ _ | with_reducible assumption | ((conv => (arg 3; arg 27; skip)); with_reducible refine Agree.upd_seq _ (by decide) ?_) | with_reducible apply @agree_mdTop 65920 _ (by decide) | with_reducible apply @agree_went 65920 _ (by decide) | with_reducible refine Agree.of_snd (by assumption) ?_ | with_reducible refine Agree.of_fst (by assumption) ?_ | split | dsimp only | (intro t ht; with_reducible assumption) | intro)

theorem agree_toRise {μ : Nat} {σ : State} (hK : 9511296 ||| μ = μ) (s : State) (hA : Agree μ σ s) : Agree μ σ (toRise s) := by
  refine Agree.step (k := 9511296) ?_ hK hA
  clear hA hK
  unfold toRise
  repeat' (first | (intro x; first | (refine (fun (hx : Agree 9511296 s x) => ?_) ?_; clear_value x; rotate_left; subst x) | subst x) | lift_lets -underBinder | with_reducible exact Agree.refl _ _ | with_reducible assumption | with_reducible apply @agree_mdTop 9511296 _ (by decide) | with_reducible apply @agree_went 9511296 _ (by decide) | with_reducible apply @agree_retReset 9511296 _ (by decide) | with_reducible apply @agree_riseEntry 9511296 _ (by decide) | with_reducible apply @agree_sledsReread 9511296 _ (by decide) | with_reducible refine Agree.of_snd (by assumption) ?_ | with_reducible refine Agree.of_fst (by assumption) ?_ | split | dsimp only | (intro t ht; with_reducible assumption) | intro)

theorem agree_toWake {μ : Nat} {σ : State} (hK : 67108743 ||| μ = μ) (s : State) (hA : Agree μ σ s) : Agree μ σ (toWake s) := by
  refine Agree.step (k := 67108743) ?_ hK hA
  clear hA hK
  unfold toWake
  repeat' (first | (intro x; first | (refine (fun (hx : Agree 67108743 s x) => ?_) ?_; clear_value x; rotate_left; subst x) | subst x) | lift_lets -underBinder | with_reducible exact Agree.refl _ _ | with_reducible assumption | with_reducible apply @agree_mdPins 67108743 _ (by decide) | with_reducible apply @agree_mdTop 67108743 _ (by decide) | with_reducible apply @agree_enter 67108743 _ (by decide) | with_reducible apply @agree_ctlReset 67108743 _ (by decide) | with_reducible apply @agree_releaseToken 67108743 _ (by decide) | with_reducible refine Agree.of_snd (by assumption) ?_ | with_reducible refine Agree.of_fst (by assumption) ?_ | split | dsimp only | (intro t ht; with_reducible assumption) | intro)

theorem agree_afterFall {μ : Nat} {σ : State} (hK : 67108743 ||| μ = μ) (s : State) (hA : Agree μ σ s) : Agree μ σ (afterFall s) := by
  refine Agree.step (k := 67108743) ?_ hK hA
  clear hA hK
  unfold afterFall
  repeat' (first | (intro x; first | (refine (fun (hx : Agree 67108743 s x) => ?_) ?_; clear_value x; rotate_left; subst x) | subst x) | lift_lets -underBinder | with_reducible exact Agree.refl _ _ | with_reducible assumption | with_reducible apply @agree_toHold 67108743 _ (by decide) | with_reducible apply @agree_toLatched 67108743 _ (by decide) | with_reducible apply @agree_toRise 67108743 _ (by decide) | with_reducible apply @agree_toWake 67108743 _ (by decide) | with_reducible refine Agree.of_snd (by assumption) ?_ | with_reducible refine Agree.of_fst (by assumption) ?_ | split | dsimp only | (intro t ht; with_reducible assumption) | intro)

theorem agree_toFall {μ : Nat} {σ : State} (hK : 3269061 ||| μ = μ) (hold : Bool) (s : State) (hA : Agree μ σ s) : Agree μ σ (toFall hold s) := by
  refine Agree.step (k := 3269061) ?_ hK hA
  clear hA hK
  unfold toFall
  repeat' (first | (intro x; first | (refine (fun (hx : Agree 3269061 s x) => ?_) ?_; clear_value x; rotate_left; subst x) | subst x) | lift_lets -underBinder | with_reducible exact Agree.refl _ _ | with_reducible assumption | with_reducible apply @agree_mdVault 3269061 _ (by decide) | with_reducible apply @agree_mdTop 3269061 _ (by decide) | with_reducible apply @agree_shortRec 3269061 _ (by decide) | with_reducible apply @agree_went 3269061 _ (by decide) | with_reducible apply @agree_mdAon 3269061 _ (by decide) | with_reducible apply @agree_epochClose 3269061 _ (by decide) | with_reducible apply @agree_eraseCountWrite 3269061 _ (by decide) | with_reducible apply @agree_fallDown 3269061 _ (by decide) | with_reducible apply @agree_mdFlt 3269061 _ (by decide) | with_reducible refine Agree.of_snd (by assumption) ?_ | with_reducible refine Agree.of_fst (by assumption) ?_ | split | dsimp only | (intro t ht; with_reducible assumption) | intro)

theorem agree_toReturn {μ : Nat} {σ : State} (hK : 28647809 ||| μ = μ) (fromSave : Bool) (s : State) (hA : Agree μ σ s) : Agree μ σ (toReturn fromSave s) := by
  refine Agree.step (k := 28647809) ?_ hK hA
  clear hA hK
  unfold toReturn
  repeat' (first | (intro x; first | (refine (fun (hx : Agree 28647809 s x) => ?_) ?_; clear_value x; rotate_left; subst x) | subst x) | lift_lets -underBinder | with_reducible exact Agree.refl _ _ | with_reducible assumption | ((conv => (arg 3; arg 27; skip)); with_reducible refine Agree.upd_seq _ (by decide) ?_) | with_reducible apply @agree_mdTop 28647809 _ (by decide) | with_reducible apply @agree_went 28647809 _ (by decide) | with_reducible apply @agree_retEnter 28647809 _ (by decide) | with_reducible apply @agree_stageStop 28647809 _ (by decide) | with_reducible apply @agree_startRestore 28647809 _ (by decide) | with_reducible refine Agree.of_snd (by assumption) ?_ | with_reducible refine Agree.of_fst (by assumption) ?_ | split | dsimp only | (intro t ht; with_reducible assumption) | intro)

theorem agree_afterSeal {μ : Nat} {σ : State} (hK : 67108807 ||| μ = μ) (s : State) (hA : Agree μ σ s) : Agree μ σ (afterSeal s) := by
  refine Agree.step (k := 67108807) ?_ hK hA
  clear hA hK
  unfold afterSeal
  repeat' (first | (intro x; first | (refine (fun (hx : Agree 67108807 s x) => ?_) ?_; clear_value x; rotate_left; subst x) | subst x) | lift_lets -underBinder | with_reducible exact Agree.refl _ _ | with_reducible assumption | with_reducible apply @agree_mdAon 67108807 _ (by decide) | with_reducible apply @agree_toFall 67108807 _ (by decide) | with_reducible apply @agree_toReturn 67108807 _ (by decide) | with_reducible apply @agree_warmBoot 67108807 _ (by decide) | with_reducible refine Agree.of_snd (by assumption) ?_ | with_reducible refine Agree.of_fst (by assumption) ?_ | split | dsimp only | (intro t ht; with_reducible assumption) | intro)

theorem agree_geomTurn {μ : Nat} {σ : State} (hK : 1048576 ||| μ = μ) (s : State) (hA : Agree μ σ s) : Agree μ σ (geomTurn s) := by
  refine Agree.step (k := 1048576) ?_ hK hA
  clear hA hK
  unfold geomTurn
  repeat' (first | (intro x; first | (refine (fun (hx : Agree 1048576 s x) => ?_) ?_; clear_value x; rotate_left; subst x) | subst x) | lift_lets -underBinder | with_reducible exact Agree.refl _ _ | with_reducible assumption | with_reducible apply @agree_mdVault 1048576 _ (by decide) | with_reducible refine Agree.of_snd (by assumption) ?_ | with_reducible refine Agree.of_fst (by assumption) ?_ | split | dsimp only | (intro t ht; with_reducible assumption) | intro)

theorem agree_rideAbort {μ : Nat} {σ : State} (hK : 205060 ||| μ = μ) (s : State) (hA : Agree μ σ s) : Agree μ σ (rideAbort s) := by
  refine Agree.step (k := 205060) ?_ hK hA
  clear hA hK
  unfold rideAbort
  repeat' (first | (intro x; first | (refine (fun (hx : Agree 205060 s x) => ?_) ?_; clear_value x; rotate_left; subst x) | subst x) | lift_lets -underBinder | with_reducible exact Agree.refl _ _ | with_reducible assumption | with_reducible apply @agree_abortIf 205060 _ (by decide) | with_reducible apply @agree_ePotUpdate 205060 _ (by decide) | with_reducible apply @agree_learnStep 205060 _ (by decide) | with_reducible refine Agree.of_snd (by assumption) ?_ | with_reducible refine Agree.of_fst (by assumption) ?_ | split | dsimp only | (intro t ht; with_reducible assumption) | intro)

theorem agree_boundaryFigures {μ : Nat} {σ : State} (hK : 4153605 ||| μ = μ) (s : State) (hA : Agree μ σ s) : Agree μ σ (boundaryFigures s) := by
  refine Agree.step (k := 4153605) ?_ hK hA
  clear hA hK
  unfold boundaryFigures
  repeat' (first | (intro x; first | (refine (fun (hx : Agree 4153605 s x) => ?_) ?_; clear_value x; rotate_left; subst x) | subst x) | lift_lets -underBinder | with_reducible exact Agree.refl _ _ | with_reducible assumption | with_reducible refine Agree.forN ?_ ?_ | with_reducible apply @agree_geomTurn 4153605 _ (by decide) | with_reducible apply @agree_missPort 4153605 _ (by decide) | with_reducible apply @agree_rideAbort 4153605 _ (by decide) | with_reducible apply @agree_stakeFigures 4153605 _ (by decide) | with_reducible apply @agree_stakeJudge 4153605 _ (by decide) | with_reducible refine Agree.of_snd (by assumption) ?_ | with_reducible refine Agree.of_fst (by assumption) ?_ | split | dsimp only | (intro t ht; with_reducible assumption) | intro)

theorem agree_drillSaved {μ : Nat} {σ : State} (hK : 33554432 ||| μ = μ) (s : State) (hA : Agree μ σ s) : Agree μ σ (drillSaved s) := by
  refine Agree.step (k := 33554432) ?_ hK hA
  clear hA hK
  unfold drillSaved
  repeat' (first | (intro x; first | (refine (fun (hx : Agree 33554432 s x) => ?_) ?_; clear_value x; rotate_left; subst x) | subst x) | lift_lets -underBinder | with_reducible exact Agree.refl _ _ | with_reducible assumption | with_reducible apply @agree_mdPair 33554432 _ (by decide) | with_reducible refine Agree.of_snd (by assumption) ?_ | with_reducible refine Agree.of_fst (by assumption) ?_ | split | dsimp only | (intro t ht; with_reducible assumption) | intro)

theorem agree_energyTurn {μ : Nat} {σ : State} (hK : 223492 ||| μ = μ) (s : State) (hA : Agree μ σ s) : Agree μ σ (energyTurn s) := by
  refine Agree.step (k := 223492) ?_ hK hA
  clear hA hK
  unfold energyTurn
  repeat' (first | (intro x; first | (refine (fun (hx : Agree 223492 s x) => ?_) ?_; clear_value x; rotate_left; subst x) | subst x) | lift_lets -underBinder | with_reducible exact Agree.refl _ _ | with_reducible assumption | ((conv => (arg 3; arg 27; skip)); with_reducible refine Agree.upd_nrg _ (by decide) ?_) | with_reducible refine Agree.forN ?_ ?_ | with_reducible refine Agree.forL ?_ ?_ | with_reducible apply @agree_cmdEnd 223492 _ (by decide) | with_reducible apply @agree_ePotUpdate 223492 _ (by decide) | with_reducible apply @agree_learnStep 223492 _ (by decide) | with_reducible apply @agree_judgeWear 223492 _ (by decide) | with_reducible apply @agree_candAct 223492 _ (by decide) | with_reducible apply @agree_restoreCommit 223492 _ (by decide) | with_reducible refine Agree.of_snd (by assumption) ?_ | with_reducible refine Agree.of_fst (by assumption) ?_ | split | dsimp only | (intro t ht; with_reducible assumption) | intro)

theorem agree_fallNow {μ : Nat} {σ : State} (hK : 11923909 ||| μ = μ) (s : State) (hA : Agree μ σ s) : Agree μ σ (fallNow s) := by
  refine Agree.step (k := 11923909) ?_ hK hA
  clear hA hK
  unfold fallNow
  repeat' (first | (intro x; first | (refine (fun (hx : Agree 11923909 s x) => ?_) ?_; clear_value x; rotate_left; subst x) | subst x) | lift_lets -underBinder | with_reducible exact Agree.refl _ _ | with_reducible assumption | with_reducible refine Agree.forL ?_ ?_ | with_reducible apply @agree_marginCancel 11923909 _ (by decide) | with_reducible apply @agree_retRecord 11923909 _ (by decide) | with_reducible apply @agree_retStop 11923909 _ (by decide) | with_reducible apply @agree_toFall 11923909 _ (by decide) | with_reducible apply @agree_stageStop 11923909 _ (by decide) | with_reducible apply @agree_cancelCopies 11923909 _ (by decide) | with_reducible refine Agree.of_snd (by assumption) ?_ | with_reducible refine Agree.of_fst (by assumption) ?_ | split | dsimp only | (intro t ht; with_reducible assumption) | intro)

theorem agree_frzStep {μ : Nat} {σ : State} (hK : 128 ||| μ = μ) (i : TurnInputs) (s : State) (hA : Agree μ σ s) : Agree μ σ (frzStep i s) := by
  refine Agree.step (k := 128) ?_ hK hA
  clear hA hK
  unfold frzStep
  repeat' (first | (intro x; first | (refine (fun (hx : Agree 128 s x) => ?_) ?_; clear_value x; rotate_left; subst x) | subst x) | lift_lets -underBinder | with_reducible exact Agree.refl _ _ | with_reducible assumption | with_reducible apply @agree_mdTop 128 _ (by decide) | with_reducible refine Agree.of_snd (by assumption) ?_ | with_reducible refine Agree.of_fst (by assumption) ?_ | split | dsimp only | (intro t ht; with_reducible assumption) | intro)

theorem agree_sinceBoot {μ : Nat} {σ : State} (hK : 55128064 ||| μ = μ) (s : State) (hA : Agree μ σ s) : Agree μ σ (sinceBoot s) := by
  refine Agree.step (k := 55128064) ?_ hK hA
  clear hA hK
  unfold sinceBoot
  repeat' (first | (intro x; first | (refine (fun (hx : Agree 55128064 s x) => ?_) ?_; clear_value x; rotate_left; subst x) | subst x) | lift_lets -underBinder | with_reducible exact Agree.refl _ _ | with_reducible assumption | ((conv => (arg 3; arg 27; skip)); with_reducible refine Agree.upd_rp_flt_seq_stake_save_fab_pair _ _ _ _ _ _ _ (by decide) ?_) | with_reducible refine Agree.of_snd (by assumption) ?_ | with_reducible refine Agree.of_fst (by assumption) ?_ | split | dsimp only | (intro t ht; with_reducible assumption) | intro)

theorem agree_latchedBoot {μ : Nat} {σ : State} (hK : 66974598 ||| μ = μ) (s : State) (hA : Agree μ σ s) : Agree μ σ (latchedBoot s) := by
  refine Agree.step (k := 66974598) ?_ hK hA
  clear hA hK
  unfold latchedBoot
  repeat' (first | (intro x; first | (refine (fun (hx : Agree 66974598 s x) => ?_) ?_; clear_value x; rotate_left; subst x) | subst x) | lift_lets -underBinder | with_reducible exact Agree.refl _ _ | with_reducible assumption | ((conv => (arg 3; arg 27; skip)); with_reducible refine Agree.upd_ledg_bimg_seq_links_vault_stage_ret _ _ _ _ _ _ _ (by decide) ?_) | with_reducible apply @agree_setEvt 66974598 _ (by decide) | with_reducible apply @agree_clearForces 66974598 _ (by decide) | with_reducible apply @agree_mdTop 66974598 _ (by decide) | with_reducible apply @agree_bootEnter 66974598 _ (by decide) | with_reducible apply @agree_unlatchAll 66974598 _ (by decide) | with_reducible apply @agree_sinceBoot 66974598 _ (by decide) | with_reducible refine Agree.of_snd (by assumption) ?_ | with_reducible refine Agree.of_fst (by assumption) ?_ | split | dsimp only | (intro t ht; with_reducible assumption) | intro)

theorem agree_toReady {μ : Nat} {σ : State} (hK : 9699713 ||| μ = μ) (s : State) (hA : Agree μ σ s) : Agree μ σ (toReady s) := by
  refine Agree.step (k := 9699713) ?_ hK hA
  clear hA hK
  unfold toReady
  repeat' (first | (intro x; first | (refine (fun (hx : Agree 9699713 s x) => ?_) ?_; clear_value x; rotate_left; subst x) | subst x) | lift_lets -underBinder | with_reducible exact Agree.refl _ _ | with_reducible assumption | with_reducible refine Agree.forL ?_ ?_ | with_reducible apply @agree_went 9699713 _ (by decide) | with_reducible apply @agree_stepRestore 9699713 _ (by decide) | with_reducible apply @agree_readyAsk 9699713 _ (by decide) | with_reducible refine Agree.of_snd (by assumption) ?_ | with_reducible refine Agree.of_fst (by assumption) ?_ | split | dsimp only | (intro t ht; with_reducible assumption) | intro)

theorem agree_toRide {μ : Nat} {σ : State} (hK : 384 ||| μ = μ) (s : State) (hA : Agree μ σ s) : Agree μ σ (toRide s) := by
  refine Agree.step (k := 384) ?_ hK hA
  clear hA hK
  unfold toRide
  repeat' (first | (intro x; first | (refine (fun (hx : Agree 384 s x) => ?_) ?_; clear_value x; rotate_left; subst x) | subst x) | lift_lets -underBinder | with_reducible exact Agree.refl _ _ | with_reducible assumption | with_reducible apply @agree_went 384 _ (by decide) | with_reducible refine Agree.of_snd (by assumption) ?_ | with_reducible refine Agree.of_fst (by assumption) ?_ | split | dsimp only | (intro t ht; with_reducible assumption) | intro)

theorem agree_transition {μ : Nat} {σ : State} (hK : 67108807 ||| μ = μ) (s : State) (hA : Agree μ σ s) : Agree μ σ (transition s) := by
  refine Agree.step (k := 67108807) ?_ hK hA
  clear hA hK
  unfold transition
  repeat' (first | (intro x; first | (refine (fun (hx : Agree 67108807 s x) => ?_) ?_; clear_value x; rotate_left; subst x) | subst x) | lift_lets -underBinder | with_reducible exact Agree.refl _ _ | with_reducible assumption | with_reducible apply @agree_setEvt 67108807 _ (by decide) | with_reducible apply @agree_mdTop 67108807 _ (by decide) | with_reducible apply @agree_marginCancel 67108807 _ (by decide) | with_reducible apply @agree_retRecord 67108807 _ (by decide) | with_reducible apply @agree_went 67108807 _ (by decide) | with_reducible apply @agree_toLatched 67108807 _ (by decide) | with_reducible apply @agree_toRise 67108807 _ (by decide) | with_reducible apply @agree_toWake 67108807 _ (by decide) | with_reducible apply @agree_afterFall 67108807 _ (by decide) | with_reducible apply @agree_toReturn 67108807 _ (by decide) | with_reducible apply @agree_afterSeal 67108807 _ (by decide) | with_reducible apply @agree_fallNow 67108807 _ (by decide) | with_reducible apply @agree_latchedBoot 67108807 _ (by decide) | with_reducible apply @agree_toReady 67108807 _ (by decide) | with_reducible apply @agree_toRide 67108807 _ (by decide) | with_reducible refine Agree.of_snd (by assumption) ?_ | with_reducible refine Agree.of_fst (by assumption) ?_ | split | dsimp only | (intro t ht; with_reducible assumption) | intro)

theorem agree_turnTrips {μ : Nat} {σ : State} (hK : 50330501 ||| μ = μ) (s : State) (hA : Agree μ σ s) : Agree μ σ (turnTrips s) := by
  refine Agree.step (k := 50330501) ?_ hK hA
  clear hA hK
  unfold turnTrips
  repeat' (first | (intro x; first | (refine (fun (hx : Agree 50330501 s x) => ?_) ?_; clear_value x; rotate_left; subst x) | subst x) | lift_lets -underBinder | with_reducible exact Agree.refl _ _ | with_reducible assumption | with_reducible apply @agree_enterSave 50330501 _ (by decide) | with_reducible refine Agree.of_snd (by assumption) ?_ | with_reducible refine Agree.of_fst (by assumption) ?_ | split | dsimp only | (intro t ht; with_reducible assumption) | intro)

theorem agree_holderTurn {μ : Nat} {σ : State} (hK : 67108807 ||| μ = μ) (s : State) (hA : Agree μ σ s) : Agree μ σ (holderTurn s) := by
  refine Agree.step (k := 67108807) ?_ hK hA
  clear hA hK
  unfold holderTurn
  repeat' (first | (intro x; first | (refine (fun (hx : Agree 67108807 s x) => ?_) ?_; clear_value x; rotate_left; subst x) | subst x) | lift_lets -underBinder | with_reducible exact Agree.refl _ _ | with_reducible assumption | with_reducible apply @agree_mdVault 67108807 _ (by decide) | with_reducible apply @agree_enterSave 67108807 _ (by decide) | with_reducible apply @agree_reserveUpdate 67108807 _ (by decide) | with_reducible apply @agree_advanceEpoch 67108807 _ (by decide) | with_reducible apply @agree_geomTurn 67108807 _ (by decide) | with_reducible apply @agree_stakeJudge 67108807 _ (by decide) | with_reducible apply @agree_boundaryFigures 67108807 _ (by decide) | with_reducible apply @agree_catForward 67108807 _ (by decide) | with_reducible apply @agree_class2Cut 67108807 _ (by decide) | with_reducible apply @agree_eraseAheadAll 67108807 _ (by decide) | with_reducible apply @agree_vaultAfter 67108807 _ (by decide) | with_reducible apply @agree_drillSaved 67108807 _ (by decide) | with_reducible apply @agree_governorStep 67108807 _ (by decide) | with_reducible apply @agree_logCompact 67108807 _ (by decide) | with_reducible apply @agree_mapTurn 67108807 _ (by decide) | with_reducible apply @agree_retOverdue 67108807 _ (by decide) | with_reducible apply @agree_retTurn 67108807 _ (by decide) | with_reducible apply @agree_rjobResume 67108807 _ (by decide) | with_reducible apply @agree_sendConfirms 67108807 _ (by decide) | with_reducible apply @agree_spendGrant 67108807 _ (by decide) | with_reducible apply @agree_stakeCompute 67108807 _ (by decide) | with_reducible apply @agree_transition 67108807 _ (by decide) | with_reducible apply @agree_turnTrips 67108807 _ (by decide) | with_reducible refine Agree.of_snd (by assumption) ?_ | with_reducible refine Agree.of_fst (by assumption) ?_ | split | dsimp only | (intro t ht; with_reducible assumption) | intro)

theorem agree_islandsFollow {μ : Nat} {σ : State} (hK : 11804928 ||| μ = μ) (was : State) (s : State) (hA : Agree μ σ s) : Agree μ σ (islandsFollow was s) := by
  refine Agree.step (k := 11804928) ?_ hK hA
  clear hA hK
  unfold islandsFollow
  repeat' (first | (intro x; first | (refine (fun (hx : Agree 11804928 s x) => ?_) ?_; clear_value x; rotate_left; subst x) | subst x) | lift_lets -underBinder | with_reducible exact Agree.refl _ _ | with_reducible assumption | with_reducible refine Agree.forN ?_ ?_ | with_reducible apply @agree_portsReset 11804928 _ (by decide) | with_reducible apply @agree_islandOff 11804928 _ (by decide) | with_reducible refine Agree.of_snd (by assumption) ?_ | with_reducible refine Agree.of_fst (by assumption) ?_ | split | dsimp only | (intro t ht; with_reducible assumption) | intro)

theorem agree_islandsTurn {μ : Nat} {σ : State} (hK : 11804928 ||| μ = μ) (was : State) (s : State) (hA : Agree μ σ s) : Agree μ σ (islandsTurn was s) := by
  refine Agree.step (k := 11804928) ?_ hK hA
  clear hA hK
  unfold islandsTurn
  repeat' (first | (intro x; first | (refine (fun (hx : Agree 11804928 s x) => ?_) ?_; clear_value x; rotate_left; subst x) | subst x) | lift_lets -underBinder | with_reducible exact Agree.refl _ _ | with_reducible assumption | with_reducible apply @agree_islandsFollow 11804928 _ (by decide) | with_reducible refine Agree.of_snd (by assumption) ?_ | with_reducible refine Agree.of_fst (by assumption) ?_ | split | dsimp only | (intro t ht; with_reducible assumption) | intro)

theorem agree_judgeTemp {μ : Nat} {σ : State} (hK : 8192 ||| μ = μ) (s : State) (hA : Agree μ σ s) : Agree μ σ (judgeTemp s) := by
  refine Agree.step (k := 8192) ?_ hK hA
  clear hA hK
  unfold judgeTemp
  repeat' (first | (intro x; first | (refine (fun (hx : Agree 8192 s x) => ?_) ?_; clear_value x; rotate_left; subst x) | subst x) | lift_lets -underBinder | with_reducible exact Agree.refl _ _ | with_reducible assumption | with_reducible apply @agree_follow 8192 _ (by decide) | with_reducible refine Agree.of_snd (by assumption) ?_ | with_reducible refine Agree.of_fst (by assumption) ?_ | split | dsimp only | (intro t ht; with_reducible assumption) | intro)

theorem agree_pbForce {μ : Nat} {σ : State} (hK : 82310 ||| μ = μ) (len : Nat) (s : State) (hA : Agree μ σ s) : Agree μ σ (pbForce len s) := by
  refine Agree.step (k := 82310) ?_ hK hA
  clear hA hK
  unfold pbForce
  repeat' (first | (intro x; first | (refine (fun (hx : Agree 82310 s x) => ?_) ?_; clear_value x; rotate_left; subst x) | subst x) | lift_lets -underBinder | with_reducible exact Agree.refl _ _ | with_reducible assumption | ((conv => (arg 3; arg 27; skip)); with_reducible refine Agree.upd_seq _ (by decide) ?_) | with_reducible apply @agree_mdPins 82310 _ (by decide) | with_reducible apply @agree_mdTop 82310 _ (by decide) | with_reducible apply @agree_mdAon 82310 _ (by decide) | with_reducible apply @agree_pbCount 82310 _ (by decide) | with_reducible refine Agree.of_snd (by assumption) ?_ | with_reducible refine Agree.of_fst (by assumption) ?_ | split | dsimp only | (intro t ht; with_reducible assumption) | intro)

theorem agree_pbHold3 {μ : Nat} {σ : State} (hK : 82306 ||| μ = μ) (s : State) (hA : Agree μ σ s) : Agree μ σ (pbHold3 s) := by
  refine Agree.step (k := 82306) ?_ hK hA
  clear hA hK
  unfold pbHold3
  repeat' (first | (intro x; first | (refine (fun (hx : Agree 82306 s x) => ?_) ?_; clear_value x; rotate_left; subst x) | subst x) | lift_lets -underBinder | with_reducible exact Agree.refl _ _ | with_reducible assumption | ((conv => (arg 3; arg 27; skip)); with_reducible refine Agree.upd_seq _ (by decide) ?_) | with_reducible apply @agree_mdPins 82306 _ (by decide) | with_reducible apply @agree_mdTop 82306 _ (by decide) | with_reducible apply @agree_pbCount 82306 _ (by decide) | with_reducible refine Agree.of_snd (by assumption) ?_ | with_reducible refine Agree.of_fst (by assumption) ?_ | split | dsimp only | (intro t ht; with_reducible assumption) | intro)

theorem agree_pbPress {μ : Nat} {σ : State} (hK : 67108743 ||| μ = μ) (len : Nat) (s : State) (hA : Agree μ σ s) : Agree μ σ (pbPress len s) := by
  refine Agree.step (k := 67108743) ?_ hK hA
  clear hA hK
  unfold pbPress
  repeat' (first | (intro x; first | (refine (fun (hx : Agree 67108743 s x) => ?_) ?_; clear_value x; rotate_left; subst x) | subst x) | lift_lets -underBinder | with_reducible exact Agree.refl _ _ | with_reducible assumption | ((conv => (arg 3; arg 27; skip)); with_reducible refine Agree.upd_seq _ (by decide) ?_) | with_reducible apply @agree_setEvt 67108743 _ (by decide) | with_reducible apply @agree_mdPins 67108743 _ (by decide) | with_reducible apply @agree_mdAon 67108743 _ (by decide) | with_reducible apply @agree_coldBoot 67108743 _ (by decide) | with_reducible apply @agree_pbCount 67108743 _ (by decide) | with_reducible refine Agree.of_snd (by assumption) ?_ | with_reducible refine Agree.of_fst (by assumption) ?_ | split | dsimp only | (intro t ht; with_reducible assumption) | intro)

theorem agree_rideExit {μ : Nat} {σ : State} (hK : 128 ||| μ = μ) (s : State) (hA : Agree μ σ s) : Agree μ σ (rideExit s) := by
  refine Agree.step (k := 128) ?_ hK hA
  clear hA hK
  unfold rideExit
  repeat' (first | (intro x; first | (refine (fun (hx : Agree 128 s x) => ?_) ?_; clear_value x; rotate_left; subst x) | subst x) | lift_lets -underBinder | with_reducible exact Agree.refl _ _ | with_reducible assumption | with_reducible apply @agree_mdTop 128 _ (by decide) | with_reducible refine Agree.of_snd (by assumption) ?_ | with_reducible refine Agree.of_fst (by assumption) ?_ | split | dsimp only | (intro t ht; with_reducible assumption) | intro)

theorem agree_secondTick {μ : Nat} {σ : State} (hK : 50331909 ||| μ = μ) (s : State) (hA : Agree μ σ s) : Agree μ σ (secondTick s) := by
  refine Agree.step (k := 50331909) ?_ hK hA
  clear hA hK
  unfold secondTick
  repeat' (first | (intro x; first | (refine (fun (hx : Agree 50331909 s x) => ?_) ?_; clear_value x; rotate_left; subst x) | subst x) | lift_lets -underBinder | with_reducible exact Agree.refl _ _ | with_reducible assumption | with_reducible apply @agree_setEvt 50331909 _ (by decide) | with_reducible apply @agree_mdPair 50331909 _ (by decide) | with_reducible apply @agree_mdAon 50331909 _ (by decide) | with_reducible apply @agree_lsaAge 50331909 _ (by decide) | with_reducible apply @agree_sharedFollow 50331909 _ (by decide) | with_reducible refine Agree.of_snd (by assumption) ?_ | with_reducible refine Agree.of_fst (by assumption) ?_ | split | dsimp only | (intro t ht; with_reducible assumption) | intro)

theorem agree_turnClock {μ : Nat} {σ : State} (hK : 84103 ||| μ = μ) (i : TurnInputs) (s : State) (hA : Agree μ σ s) : Agree μ σ (turnClock i s) := by
  refine Agree.step (k := 84103) ?_ hK hA
  clear hA hK
  unfold turnClock
  repeat' (first | (intro x; first | (refine (fun (hx : Agree 84103 s x) => ?_) ?_; clear_value x; rotate_left; subst x) | subst x) | lift_lets -underBinder | with_reducible exact Agree.refl _ _ | with_reducible assumption | ((conv => (arg 3; arg 27; skip)); with_reducible refine Agree.upd_clk_pins_aon_top_cmd_ledg _ _ _ _ _ _ (by decide) ?_) | with_reducible apply @agree_freeShared 84103 _ (by decide) | with_reducible apply @agree_riseAbort 84103 _ (by decide) | with_reducible apply @agree_inputGone 84103 _ (by decide) | with_reducible refine Agree.of_snd (by assumption) ?_ | with_reducible refine Agree.of_fst (by assumption) ?_ | split | dsimp only | (intro t ht; with_reducible assumption) | intro)

theorem agree_turnEnd {μ : Nat} {σ : State} (hK : 67107829 ||| μ = μ) (i : TurnInputs) (s : State) (hA : Agree μ σ s) : Agree μ σ (turnEnd i s) := by
  refine Agree.step (k := 67107829) ?_ hK hA
  clear hA hK
  unfold turnEnd
  repeat' (first | (intro x; first | (refine (fun (hx : Agree 67107829 s x) => ?_) ?_; clear_value x; rotate_left; subst x) | subst x) | lift_lets -underBinder | with_reducible exact Agree.refl _ _ | with_reducible assumption | with_reducible apply @agree_abortTurn 67107829 _ (by decide) | with_reducible apply @agree_bootToken 67107829 _ (by decide) | with_reducible apply @agree_epochStart 67107829 _ (by decide) | with_reducible apply @agree_calCmdEnd 67107829 _ (by decide) | with_reducible apply @agree_counterTurn 67107829 _ (by decide) | with_reducible apply @agree_dwellTurn 67107829 _ (by decide) | with_reducible apply @agree_epochMinMax 67107829 _ (by decide) | with_reducible apply @agree_exportTurn 67107829 _ (by decide) | with_reducible apply @agree_kxNeed 67107829 _ (by decide) | with_reducible apply @agree_frameTurn 67107829 _ (by decide) | with_reducible apply @agree_frzStep 67107829 _ (by decide) | with_reducible apply @agree_handTurn 67107829 _ (by decide) | with_reducible apply @agree_keyFuseTurn 67107829 _ (by decide) | with_reducible apply @agree_kxStart 67107829 _ (by decide) | with_reducible apply @agree_kxTurn 67107829 _ (by decide) | with_reducible apply @agree_latchImage 67107829 _ (by decide) | with_reducible apply @agree_toMain 67107829 _ (by decide) | with_reducible apply @agree_polTurn 67107829 _ (by decide) | with_reducible apply @agree_sealResets 67107829 _ (by decide) | with_reducible apply @agree_standbyTurn 67107829 _ (by decide) | with_reducible refine Agree.of_snd (by assumption) ?_ | with_reducible refine Agree.of_fst (by assumption) ?_ | split | dsimp only | (intro t ht; with_reducible assumption) | intro)

theorem agree_turnBoundary {μ : Nat} {σ : State} (hK : 67108855 ||| μ = μ) (i : TurnInputs) (s : State) (hA : Agree μ σ s) : Agree μ σ (turnBoundary i s) := by
  refine Agree.step (k := 67108855) ?_ hK hA
  clear hA hK
  unfold turnBoundary
  repeat' (first | (intro x; first | (refine (fun (hx : Agree 67108855 s x) => ?_) ?_; clear_value x; rotate_left; subst x) | subst x) | lift_lets -underBinder | with_reducible exact Agree.refl _ _ | with_reducible assumption | ((conv => (arg 3; arg 27; skip)); with_reducible refine Agree.upd_ret _ (by decide) ?_) | with_reducible refine Agree.forN ?_ ?_ | with_reducible apply @agree_closeTurn 67108855 _ (by decide) | with_reducible apply @agree_coldBootNow 67108855 _ (by decide) | with_reducible apply @agree_drainTurn 67108855 _ (by decide) | with_reducible apply @agree_energyTurn 67108855 _ (by decide) | with_reducible apply @agree_expireSubs 67108855 _ (by decide) | with_reducible apply @agree_transition 67108855 _ (by decide) | with_reducible apply @agree_holderTurn 67108855 _ (by decide) | with_reducible apply @agree_islandsTurn 67108855 _ (by decide) | with_reducible apply @agree_judgeTemp 67108855 _ (by decide) | with_reducible apply @agree_latchReport 67108855 _ (by decide) | with_reducible apply @agree_linkTurn 67108855 _ (by decide) | with_reducible apply @agree_reloadCommit 67108855 _ (by decide) | with_reducible apply @agree_tableTurn 67108855 _ (by decide) | with_reducible apply @agree_turnClock 67108855 _ (by decide) | with_reducible apply @agree_turnEnd 67108855 _ (by decide) | with_reducible refine Agree.of_snd (by assumption) ?_ | with_reducible refine Agree.of_fst (by assumption) ?_ | split | dsimp only | (intro t ht; with_reducible assumption) | intro)

end State
end Sys2Proof.Machine
end

