-- ==== Sys2Proof/Laws/AgreeCommands.lean ====
section
/-! SUPPORT. The fields of State that each function of Machine/Commands.lean can change. -/
set_option Elab.async false

set_option linter.unusedTactic false
set_option linter.unreachableTactic false

namespace Sys2Proof.Machine
namespace State

theorem agree_clearCml {μ : Nat} {σ : State} (hK : 4096 ||| μ = μ) (s : State) (hA : Agree μ σ s) : Agree μ σ (clearCml s) := by
  refine Agree.step (k := 4096) ?_ hK hA
  clear hA hK
  unfold clearCml
  repeat' (first | (intro x; first | (refine (fun (hx : Agree 4096 s x) => ?_) ?_; clear_value x; rotate_left; subst x) | subst x) | lift_lets -underBinder | with_reducible exact Agree.refl _ _ | with_reducible assumption | ((conv => (arg 3; arg 27; skip)); with_reducible refine Agree.upd_rp _ (by decide) ?_) | with_reducible refine Agree.of_snd (by assumption) ?_ | with_reducible refine Agree.of_fst (by assumption) ?_ | split | dsimp only | (intro t ht; with_reducible assumption) | intro)

theorem agree_rereadChunk {μ : Nat} {σ : State} (hK : 4464640 ||| μ = μ) (p : Nat) (sq : Nat) (chunk : Nat) (tag : Nat) (s : State) (hA : Agree μ σ s) : Agree μ σ (rereadChunk p sq chunk tag s) := by
  refine Agree.step (k := 4464640) ?_ hK hA
  clear hA hK
  unfold rereadChunk
  repeat' (first | (intro x; first | (refine (fun (hx : Agree 4464640 s x) => ?_) ?_; clear_value x; rotate_left; subst x) | subst x) | lift_lets -underBinder | with_reducible exact Agree.refl _ _ | with_reducible assumption | with_reducible apply @agree_mdSave 4464640 _ (by decide) | with_reducible apply @agree_send 4464640 _ (by decide) | with_reducible apply @agree_raiseTurn 4464640 _ (by decide) | with_reducible refine Agree.of_snd (by assumption) ?_ | with_reducible refine Agree.of_fst (by assumption) ?_ | split | dsimp only | (intro t ht; with_reducible assumption) | intro)

theorem agree_dataRx {μ : Nat} {σ : State} (hK : 50166017 ||| μ = μ) (p : Nat) (seq : Nat) (tag : Nat) (sq : Nat) (chunk : Nat) (gen : Nat) (st : Nat) (data : Chunk) (trayErr : Bool) (s : State) (hA : Agree μ σ s) : Agree μ σ (dataRx p seq tag sq chunk gen st data trayErr s) := by
  refine Agree.step (k := 50166017) ?_ hK hA
  clear hA hK
  unfold dataRx
  repeat' (first | (intro x; first | (refine (fun (hx : Agree 50166017 s x) => ?_) ?_; clear_value x; rotate_left; subst x) | subst x) | lift_lets -underBinder | with_reducible exact Agree.refl _ _ | with_reducible assumption | with_reducible apply @agree_copyData 50166017 _ (by decide) | with_reducible apply @agree_moveData 50166017 _ (by decide) | with_reducible apply @agree_rereadChunk 50166017 _ (by decide) | with_reducible apply @agree_vaultAfter 50166017 _ (by decide) | with_reducible refine Agree.of_snd (by assumption) ?_ | with_reducible refine Agree.of_fst (by assumption) ?_ | split | dsimp only | (intro t ht; with_reducible assumption) | intro)

theorem agree_identMore {μ : Nat} {σ : State} (hK : 15998977 ||| μ = μ) (p : Nat) (m : IdentMsg) (s : State) (hA : Agree μ σ s) : Agree μ σ (identMore p m s) := by
  refine Agree.step (k := 15998977) ?_ hK hA
  clear hA hK
  unfold identMore
  repeat' (first | (intro x; first | (refine (fun (hx : Agree 15998977 s x) => ?_) ?_; clear_value x; rotate_left; subst x) | subst x) | lift_lets -underBinder | with_reducible exact Agree.refl _ _ | with_reducible assumption | with_reducible apply @agree_stageLose 15998977 _ (by decide) | with_reducible apply @agree_identRx 15998977 _ (by decide) | with_reducible apply @agree_moveResume 15998977 _ (by decide) | with_reducible apply @agree_retIdent 15998977 _ (by decide) | with_reducible apply @agree_retLinkUp 15998977 _ (by decide) | with_reducible refine Agree.of_snd (by assumption) ?_ | with_reducible refine Agree.of_fst (by assumption) ?_ | split | dsimp only | (intro t ht; with_reducible assumption) | intro)

theorem agree_identDone {μ : Nat} {σ : State} (hK : 15998977 ||| μ = μ) (p : Nat) (h : Hdr) (m : IdentMsg) (s : State) (hA : Agree μ σ s) : Agree μ σ (identDone p h m s) := by
  refine Agree.step (k := 15998977) ?_ hK hA
  clear hA hK
  unfold identDone
  repeat' (first | (intro x; first | (refine (fun (hx : Agree 15998977 s x) => ?_) ?_; clear_value x; rotate_left; subst x) | subst x) | lift_lets -underBinder | with_reducible exact Agree.refl _ _ | with_reducible assumption | with_reducible apply @agree_identMore 15998977 _ (by decide) | with_reducible apply @agree_receive 15998977 _ (by decide) | with_reducible refine Agree.of_snd (by assumption) ?_ | with_reducible refine Agree.of_fst (by assumption) ?_ | split | dsimp only | (intro t ht; with_reducible assumption) | intro)

theorem agree_onCtl {μ : Nat} {σ : State} (_hK : 0 ||| μ = μ) (f : State → State) (s : State) (hf : ∀ t, Agree μ σ t → Agree μ σ (f t)) (hA : Agree μ σ s) : Agree μ σ (onCtl f s) := by
  unfold onCtl
  repeat' (first | (intro x; first | (refine (fun (hx : Agree μ σ x) => ?_) ?_; clear_value x; rotate_left; subst x) | subst x) | lift_lets -underBinder | with_reducible exact Agree.refl _ _ | with_reducible assumption | with_reducible apply hf | with_reducible refine Agree.of_snd (by assumption) ?_ | with_reducible refine Agree.of_fst (by assumption) ?_ | split | dsimp only | (intro t ht; with_reducible assumption) | intro)

theorem agree_onFab {μ : Nat} {σ : State} (_hK : 0 ||| μ = μ) (f : State → State) (s : State) (hf : ∀ t, Agree μ σ t → Agree μ σ (f t)) (hA : Agree μ σ s) : Agree μ σ (onFab f s) := by
  unfold onFab
  repeat' (first | (intro x; first | (refine (fun (hx : Agree μ σ x) => ?_) ?_; clear_value x; rotate_left; subst x) | subst x) | lift_lets -underBinder | with_reducible exact Agree.refl _ _ | with_reducible assumption | with_reducible apply hf | with_reducible refine Agree.of_snd (by assumption) ?_ | with_reducible refine Agree.of_fst (by assumption) ?_ | split | dsimp only | (intro t ht; with_reducible assumption) | intro)

theorem agree_pmbWriteCmd {μ : Nat} {σ : State} (hK : 4352 ||| μ = μ) (pecOk : Bool) (f : State → State) (s : State) (hf : ∀ t, Agree μ σ t → Agree μ σ (f t)) (hA : Agree μ σ s) : Agree μ σ (pmbWriteCmd pecOk f s) := by
  unfold pmbWriteCmd
  repeat' (first | (intro x; first | (refine (fun (hx : Agree μ σ x) => ?_) ?_; clear_value x; rotate_left; subst x) | subst x) | lift_lets -underBinder | with_reducible exact Agree.refl _ _ | with_reducible assumption | with_reducible apply hf | with_reducible apply @agree_cmlSet μ _ (Agree.sub_of hK (by decide)) | with_reducible refine Agree.of_snd (by assumption) ?_ | with_reducible refine Agree.of_fst (by assumption) ?_ | split | dsimp only | (intro t ht; with_reducible assumption) | intro)

theorem agree_quietRx {μ : Nat} {σ : State} (hK : 10756096 ||| μ = μ) (p : Nat) (s : State) (hA : Agree μ σ s) : Agree μ σ (quietRx p s) := by
  refine Agree.step (k := 10756096) ?_ hK hA
  clear hA hK
  unfold quietRx
  repeat' (first | (intro x; first | (refine (fun (hx : Agree 10756096 s x) => ?_) ?_; clear_value x; rotate_left; subst x) | subst x) | lift_lets -underBinder | with_reducible exact Agree.refl _ _ | with_reducible assumption | with_reducible apply @agree_cancelCopies 10756096 _ (by decide) | with_reducible apply @agree_retLinkDown 10756096 _ (by decide) | with_reducible apply @agree_toDown 10756096 _ (by decide) | with_reducible refine Agree.of_snd (by assumption) ?_ | with_reducible refine Agree.of_fst (by assumption) ?_ | split | dsimp only | (intro t ht; with_reducible assumption) | intro)

theorem agree_sledsFailed {μ : Nat} {σ : State} (hK : 7350529 ||| μ = μ) (was : State) (s : State) (hA : Agree μ σ s) : Agree μ σ (sledsFailed was s) := by
  refine Agree.step (k := 7350529) ?_ hK hA
  clear hA hK
  unfold sledsFailed
  repeat' (first | (intro x; first | (refine (fun (hx : Agree 7350529 s x) => ?_) ?_; clear_value x; rotate_left; subst x) | subst x) | lift_lets -underBinder | with_reducible exact Agree.refl _ _ | with_reducible assumption | with_reducible refine Agree.forN ?_ ?_ | with_reducible apply @agree_sledLoss 7350529 _ (by decide) | with_reducible apply @agree_noSledLeft 7350529 _ (by decide) | with_reducible refine Agree.of_snd (by assumption) ?_ | with_reducible refine Agree.of_fst (by assumption) ?_ | split | dsimp only | (intro t ht; with_reducible assumption) | intro)

theorem agree_railDownTick {μ : Nat} {σ : State} (hK : 16083333 ||| μ = μ) (s : State) (hA : Agree μ σ s) : Agree μ σ (railDownTick s) := by
  refine Agree.step (k := 16083333) ?_ hK hA
  clear hA hK
  unfold railDownTick
  repeat' (first | (intro x; first | (refine (fun (hx : Agree 16083333 s x) => ?_) ?_; clear_value x; rotate_left; subst x) | subst x) | lift_lets -underBinder | with_reducible exact Agree.refl _ _ | with_reducible assumption | with_reducible apply @agree_islandsFollow 16083333 _ (by decide) | with_reducible apply @agree_railDown 16083333 _ (by decide) | with_reducible apply @agree_sledsFailed 16083333 _ (by decide) | with_reducible refine Agree.of_snd (by assumption) ?_ | with_reducible refine Agree.of_fst (by assumption) ?_ | split | dsimp only | (intro t ht; with_reducible assumption) | intro)

theorem agree_railFaultSled {μ : Nat} {σ : State} (hK : 16083201 ||| μ = μ) (n : Nat) (s : State) (hA : Agree μ σ s) : Agree μ σ (railFaultSled n s) := by
  refine Agree.step (k := 16083201) ?_ hK hA
  clear hA hK
  unfold railFaultSled
  repeat' (first | (intro x; first | (refine (fun (hx : Agree 16083201 s x) => ?_) ?_; clear_value x; rotate_left; subst x) | subst x) | lift_lets -underBinder | with_reducible exact Agree.refl _ _ | with_reducible assumption | with_reducible apply @agree_beginDown 16083201 _ (by decide) | with_reducible apply @agree_sledLoss 16083201 _ (by decide) | with_reducible apply @agree_noSledLeft 16083201 _ (by decide) | with_reducible apply @agree_islandsFollow 16083201 _ (by decide) | with_reducible apply @agree_railFault 16083201 _ (by decide) | with_reducible refine Agree.of_snd (by assumption) ?_ | with_reducible refine Agree.of_fst (by assumption) ?_ | split | dsimp only | (intro t ht; with_reducible assumption) | intro)

theorem agree_recoverTimeout {μ : Nat} {σ : State} (hK : 10756352 ||| μ = μ) (p : Nat) (s : State) (hA : Agree μ σ s) : Agree μ σ (recoverTimeout p s) := by
  refine Agree.step (k := 10756352) ?_ hK hA
  clear hA hK
  unfold recoverTimeout
  repeat' (first | (intro x; first | (refine (fun (hx : Agree 10756352 s x) => ?_) ?_; clear_value x; rotate_left; subst x) | subst x) | lift_lets -underBinder | with_reducible exact Agree.refl _ _ | with_reducible assumption | with_reducible apply @agree_portsDown 10756352 _ (by decide) | with_reducible apply @agree_retAbandon 10756352 _ (by decide) | with_reducible refine Agree.of_snd (by assumption) ?_ | with_reducible refine Agree.of_fst (by assumption) ?_ | split | dsimp only | (intro t ht; with_reducible assumption) | intro)

theorem agree_regAddrWrite {μ : Nat} {σ : State} (hK : 4352 ||| μ = μ) (bytes : List Byte) (s : State) (hA : Agree μ σ s) : Agree μ σ (regAddrWrite bytes s) := by
  refine Agree.step (k := 4352) ?_ hK hA
  clear hA hK
  unfold regAddrWrite
  repeat' (first | (intro x; first | (refine (fun (hx : Agree 4352 s x) => ?_) ?_; clear_value x; rotate_left; subst x) | subst x) | lift_lets -underBinder | with_reducible exact Agree.refl _ _ | with_reducible assumption | ((conv => (arg 3; arg 27; skip)); with_reducible refine Agree.upd_rp _ (by decide) ?_) | with_reducible apply @agree_cmlSet 4352 _ (by decide) | with_reducible refine Agree.of_snd (by assumption) ?_ | with_reducible refine Agree.of_fst (by assumption) ?_ | split | dsimp only | (intro t ht; with_reducible assumption) | intro)

theorem agree_rpAt {μ : Nat} {σ : State} (hK : 4352 ||| μ = μ) (a : Nat) (f : State → State) (s : State) (hf : ∀ t, Agree μ σ t → Agree μ σ (f t)) (hA : Agree μ σ s) : Agree μ σ (rpAt a f s) := by
  unfold rpAt
  repeat' (first | (intro x; first | (refine (fun (hx : Agree μ σ x) => ?_) ?_; clear_value x; rotate_left; subst x) | subst x) | lift_lets -underBinder | with_reducible exact Agree.refl _ _ | with_reducible assumption | with_reducible apply hf | with_reducible apply @agree_rpData μ _ (Agree.sub_of hK (by decide)) | with_reducible apply @agree_rpDead μ _ (Agree.sub_of hK (by decide)) | with_reducible apply @agree_rpErr μ _ (Agree.sub_of hK (by decide)) | with_reducible refine Agree.of_snd (by assumption) ?_ | with_reducible refine Agree.of_fst (by assumption) ?_ | split | dsimp only | (intro t ht; with_reducible assumption) | intro)

theorem agree_sclRelease {μ : Nat} {σ : State} (hK : 0 ||| μ = μ) (s : State) (hA : Agree μ σ s) : Agree μ σ (sclRelease s) := by
  refine Agree.step (k := 0) ?_ hK hA
  clear hA hK
  unfold sclRelease
  repeat' (first | (intro x; first | (refine (fun (hx : Agree 0 s x) => ?_) ?_; clear_value x; rotate_left; subst x) | subst x) | lift_lets -underBinder | with_reducible exact Agree.refl _ _ | with_reducible assumption | with_reducible refine Agree.of_snd (by assumption) ?_ | with_reducible refine Agree.of_fst (by assumption) ?_ | split | dsimp only | (intro t ht; with_reducible assumption) | intro)

theorem agree_slotGoodLostIsl {μ : Nat} {σ : State} (hK : 11886848 ||| μ = μ) (n : Nat) (s : State) (hA : Agree μ σ s) : Agree μ σ (slotGoodLostIsl n s) := by
  refine Agree.step (k := 11886848) ?_ hK hA
  clear hA hK
  unfold slotGoodLostIsl
  repeat' (first | (intro x; first | (refine (fun (hx : Agree 11886848 s x) => ?_) ?_; clear_value x; rotate_left; subst x) | subst x) | lift_lets -underBinder | with_reducible exact Agree.refl _ _ | with_reducible assumption | with_reducible apply @agree_islandsFollow 11886848 _ (by decide) | with_reducible apply @agree_slotGoodLost 11886848 _ (by decide) | with_reducible refine Agree.of_snd (by assumption) ?_ | with_reducible refine Agree.of_fst (by assumption) ?_ | split | dsimp only | (intro t ht; with_reducible assumption) | intro)

theorem agree_slotTimeoutIsl {μ : Nat} {σ : State} (hK : 11886848 ||| μ = μ) (n : Nat) (s : State) (hA : Agree μ σ s) : Agree μ σ (slotTimeoutIsl n s) := by
  refine Agree.step (k := 11886848) ?_ hK hA
  clear hA hK
  unfold slotTimeoutIsl
  repeat' (first | (intro x; first | (refine (fun (hx : Agree 11886848 s x) => ?_) ?_; clear_value x; rotate_left; subst x) | subst x) | lift_lets -underBinder | with_reducible exact Agree.refl _ _ | with_reducible assumption | with_reducible apply @agree_islandsFollow 11886848 _ (by decide) | with_reducible apply @agree_slotTimeout 11886848 _ (by decide) | with_reducible refine Agree.of_snd (by assumption) ?_ | with_reducible refine Agree.of_fst (by assumption) ?_ | split | dsimp only | (intro t ht; with_reducible assumption) | intro)

end State
end Sys2Proof.Machine
end

