-- ==== Sys2Proof/Laws/AgreePinout.lean ====
section
/-! SUPPORT. The fields of State that each function of Machine/Pinout.lean can change. -/
set_option Elab.async false

set_option linter.unusedTactic false
set_option linter.unreachableTactic false

namespace Sys2Proof.Machine
namespace State

theorem agree_cellsDrawn {μ : Nat} {σ : State} (hK : 3 ||| μ = μ) (s : State) (hA : Agree μ σ s) : Agree μ σ (cellsDrawn s) := by
  refine Agree.step (k := 3) ?_ hK hA
  clear hA hK
  unfold cellsDrawn
  repeat' (first | (intro x; first | (refine (fun (hx : Agree 3 s x) => ?_) ?_; clear_value x; rotate_left; subst x) | subst x) | lift_lets -underBinder | with_reducible exact Agree.refl _ _ | with_reducible assumption | ((conv => (arg 3; arg 27; skip)); with_reducible refine Agree.upd_clk_pins _ _ (by decide) ?_) | with_reducible refine Agree.of_snd (by assumption) ?_ | with_reducible refine Agree.of_fst (by assumption) ?_ | split | dsimp only | (intro t ht; with_reducible assumption) | intro)

theorem agree_tapIr {μ : Nat} {σ : State} (hK : 3 ||| μ = μ) (i : TapIr) (s : State) (hA : Agree μ σ s) : Agree μ σ (tapIr i s) := by
  refine Agree.step (k := 3) ?_ hK hA
  clear hA hK
  unfold tapIr
  repeat' (first | (intro x; first | (refine (fun (hx : Agree 3 s x) => ?_) ?_; clear_value x; rotate_left; subst x) | subst x) | lift_lets -underBinder | with_reducible exact Agree.refl _ _ | with_reducible assumption | with_reducible apply @agree_mdPins 3 _ (by decide) | with_reducible apply @agree_cellsDrawn 3 _ (by decide) | with_reducible refine Agree.of_snd (by assumption) ?_ | with_reducible refine Agree.of_fst (by assumption) ?_ | split | dsimp only | (intro t ht; with_reducible assumption) | intro)

end State
end Sys2Proof.Machine
end

