-- ==== Sys2Proof/Laws/AgreeExec.lean ====
section
/-! SUPPORT. The fields of State that each command can change, read off its meaning: the frame of every command. -/
set_option Elab.async false

set_option linter.unusedTactic false
set_option linter.unreachableTactic false

namespace Sys2Proof.Machine
open State

theorem agree_execVaonRise (b : SupplyUp) (s : State) : ∃ t, execVaonRise b s = .next t ∧ Agree 8326 s t := by
  unfold execVaonRise
  refine ⟨_, rfl, ?_⟩
  repeat' (first | (intro x; first | (refine (fun (hx : Agree 8326 s x) => ?_) ?_; clear_value x; rotate_left; subst x) | subst x) | lift_lets -underBinder | with_reducible exact Agree.refl _ _ | with_reducible assumption | with_reducible apply @agree_vaonRise 8326 _ (by decide) | with_reducible refine Agree.of_snd (by assumption) ?_ | with_reducible refine Agree.of_fst (by assumption) ?_ | split | dsimp only | (intro t ht; with_reducible assumption) | intro)

theorem agree_execVaonALoss (s : State) : ∃ t, execVaonALoss s = .next t ∧ Agree 24838 s t := by
  unfold execVaonALoss
  refine ⟨_, rfl, ?_⟩
  repeat' (first | (intro x; first | (refine (fun (hx : Agree 24838 s x) => ?_) ?_; clear_value x; rotate_left; subst x) | subst x) | lift_lets -underBinder | with_reducible exact Agree.refl _ _ | with_reducible assumption | with_reducible apply @agree_vaonALoss 24838 _ (by decide) | with_reducible refine Agree.of_snd (by assumption) ?_ | with_reducible refine Agree.of_fst (by assumption) ?_ | split | dsimp only | (intro t ht; with_reducible assumption) | intro)

theorem agree_execVaonAReturn (s : State) : ∃ t, execVaonAReturn s = .next t ∧ Agree 24838 s t := by
  unfold execVaonAReturn
  refine ⟨_, rfl, ?_⟩
  repeat' (first | (intro x; first | (refine (fun (hx : Agree 24838 s x) => ?_) ?_; clear_value x; rotate_left; subst x) | subst x) | lift_lets -underBinder | with_reducible exact Agree.refl _ _ | with_reducible assumption | with_reducible apply @agree_vaonAReturn 24838 _ (by decide) | with_reducible refine Agree.of_snd (by assumption) ?_ | with_reducible refine Agree.of_fst (by assumption) ?_ | split | dsimp only | (intro t ht; with_reducible assumption) | intro)

theorem agree_execVaonBothLost (s : State) : ∃ t, execVaonBothLost s = .next t ∧ Agree 67108743 s t := by
  unfold execVaonBothLost
  refine ⟨_, rfl, ?_⟩
  repeat' (first | (intro x; first | (refine (fun (hx : Agree 67108743 s x) => ?_) ?_; clear_value x; rotate_left; subst x) | subst x) | lift_lets -underBinder | with_reducible exact Agree.refl _ _ | with_reducible assumption | with_reducible apply @agree_vaonBothLost 67108743 _ (by decide) | with_reducible refine Agree.of_snd (by assumption) ?_ | with_reducible refine Agree.of_fst (by assumption) ?_ | split | dsimp only | (intro t ht; with_reducible assumption) | intro)

theorem agree_execPfiBusGood (s : State) : ∃ t, execPfiBusGood s = .next t ∧ Agree 4194434 s t := by
  unfold execPfiBusGood
  refine ⟨_, rfl, ?_⟩
  repeat' (first | (intro x; first | (refine (fun (hx : Agree 4194434 s x) => ?_) ?_; clear_value x; rotate_left; subst x) | subst x) | lift_lets -underBinder | with_reducible exact Agree.refl _ _ | with_reducible assumption | with_reducible apply @agree_pfiGood 4194434 _ (by decide) | with_reducible refine Agree.of_snd (by assumption) ?_ | with_reducible refine Agree.of_fst (by assumption) ?_ | split | dsimp only | (intro t ht; with_reducible assumption) | intro)

theorem agree_execBusGood100ms (s : State) : ∃ t, execBusGood100ms s = .next t ∧ Agree 67108743 s t := by
  unfold execBusGood100ms
  refine ⟨_, rfl, ?_⟩
  repeat' (first | (intro x; first | (refine (fun (hx : Agree 67108743 s x) => ?_) ?_; clear_value x; rotate_left; subst x) | subst x) | lift_lets -underBinder | with_reducible exact Agree.refl _ _ | with_reducible assumption | with_reducible apply @agree_busGood100 67108743 _ (by decide) | with_reducible refine Agree.of_snd (by assumption) ?_ | with_reducible refine Agree.of_fst (by assumption) ?_ | split | dsimp only | (intro t ht; with_reducible assumption) | intro)

theorem agree_execMainGood10ms (s : State) : ∃ t, execMainGood10ms s = .next t ∧ Agree 4219266 s t := by
  unfold execMainGood10ms
  refine ⟨_, rfl, ?_⟩
  repeat' (first | (intro x; first | (refine (fun (hx : Agree 4219266 s x) => ?_) ?_; clear_value x; rotate_left; subst x) | subst x) | lift_lets -underBinder | with_reducible exact Agree.refl _ _ | with_reducible assumption | with_reducible apply @agree_mainGood10 4219266 _ (by decide) | with_reducible refine Agree.of_snd (by assumption) ?_ | with_reducible refine Agree.of_fst (by assumption) ?_ | split | dsimp only | (intro t ht; with_reducible assumption) | intro)

theorem agree_execPfiBusSag (also : BitVec 8) (s : State) : ∃ t, execPfiBusSag also s = .next t ∧ Agree 50330503 s t := by
  unfold execPfiBusSag
  refine ⟨_, rfl, ?_⟩
  repeat' (first | (intro x; first | (refine (fun (hx : Agree 50330503 s x) => ?_) ?_; clear_value x; rotate_left; subst x) | subst x) | lift_lets -underBinder | with_reducible exact Agree.refl _ _ | with_reducible assumption | with_reducible apply @agree_pfiSag 50330503 _ (by decide) | with_reducible refine Agree.of_snd (by assumption) ?_ | with_reducible refine Agree.of_fst (by assumption) ?_ | split | dsimp only | (intro t ht; with_reducible assumption) | intro)

theorem agree_execBackupNotGood (s : State) : ∃ t, execBackupNotGood s = .next t ∧ Agree 4219138 s t := by
  unfold execBackupNotGood
  refine ⟨_, rfl, ?_⟩
  repeat' (first | (intro x; first | (refine (fun (hx : Agree 4219138 s x) => ?_) ?_; clear_value x; rotate_left; subst x) | subst x) | lift_lets -underBinder | with_reducible exact Agree.refl _ _ | with_reducible assumption | with_reducible apply @agree_backupNotGood 4219138 _ (by decide) | with_reducible refine Agree.of_snd (by assumption) ?_ | with_reducible refine Agree.of_fst (by assumption) ?_ | split | dsimp only | (intro t ht; with_reducible assumption) | intro)

theorem agree_execHoldReq (also : BitVec 8) (s : State) : ∃ t, execHoldReq also s = .next t ∧ Agree 50330501 s t := by
  unfold execHoldReq
  refine ⟨_, rfl, ?_⟩
  repeat' (first | (intro x; first | (refine (fun (hx : Agree 50330501 s x) => ?_) ?_; clear_value x; rotate_left; subst x) | subst x) | lift_lets -underBinder | with_reducible exact Agree.refl _ _ | with_reducible assumption | with_reducible apply @agree_trip 50330501 _ (by decide) | with_reducible refine Agree.of_snd (by assumption) ?_ | with_reducible refine Agree.of_fst (by assumption) ?_ | split | dsimp only | (intro t ht; with_reducible assumption) | intro)

theorem agree_execAcgLoss (n : Fin 8) (also : BitVec 8) (s : State) : ∃ t, execAcgLoss n also s = .next t ∧ Agree 50330503 s t := by
  unfold execAcgLoss
  refine ⟨_, rfl, ?_⟩
  repeat' (first | (intro x; first | (refine (fun (hx : Agree 50330503 s x) => ?_) ?_; clear_value x; rotate_left; subst x) | subst x) | lift_lets -underBinder | with_reducible exact Agree.refl _ _ | with_reducible assumption | with_reducible apply @agree_acgLoss 50330503 _ (by decide) | with_reducible refine Agree.of_snd (by assumption) ?_ | with_reducible refine Agree.of_fst (by assumption) ?_ | split | dsimp only | (intro t ht; with_reducible assumption) | intro)

theorem agree_execRideExit (s : State) : ∃ t, execRideExit s = .next t ∧ Agree 128 s t := by
  unfold execRideExit
  refine ⟨_, rfl, ?_⟩
  repeat' (first | (intro x; first | (refine (fun (hx : Agree 128 s x) => ?_) ?_; clear_value x; rotate_left; subst x) | subst x) | lift_lets -underBinder | with_reducible exact Agree.refl _ _ | with_reducible assumption | with_reducible apply @agree_rideExit 128 _ (by decide) | with_reducible refine Agree.of_snd (by assumption) ?_ | with_reducible refine Agree.of_fst (by assumption) ?_ | split | dsimp only | (intro t ht; with_reducible assumption) | intro)

theorem agree_execTurnBoundary (inp : TurnInputs) (s : State) : ∃ t, execTurnBoundary inp s = .next t ∧ Agree 67108855 s t := by
  unfold execTurnBoundary
  refine ⟨_, rfl, ?_⟩
  repeat' (first | (intro x; first | (refine (fun (hx : Agree 67108855 s x) => ?_) ?_; clear_value x; rotate_left; subst x) | subst x) | lift_lets -underBinder | with_reducible exact Agree.refl _ _ | with_reducible assumption | with_reducible apply @agree_turnBoundary 67108855 _ (by decide) | with_reducible refine Agree.of_snd (by assumption) ?_ | with_reducible refine Agree.of_fst (by assumption) ?_ | split | dsimp only | (intro t ht; with_reducible assumption) | intro)

theorem agree_execShortfallEnd (s : State) : ∃ t, execShortfallEnd s = .next t ∧ Agree 548864 s t := by
  unfold execShortfallEnd
  refine ⟨_, rfl, ?_⟩
  repeat' (first | (intro x; first | (refine (fun (hx : Agree 548864 s x) => ?_) ?_; clear_value x; rotate_left; subst x) | subst x) | lift_lets -underBinder | with_reducible exact Agree.refl _ _ | with_reducible assumption | with_reducible apply @agree_onCtl 548864 _ (by decide) | with_reducible apply @agree_shortfallEnd 548864 _ (by decide) | with_reducible refine Agree.of_snd (by assumption) ?_ | with_reducible refine Agree.of_fst (by assumption) ?_ | split | dsimp only | (intro t ht; with_reducible assumption) | intro)

theorem agree_execOverstakeRun (p : Fin 64) (s : State) : ∃ t, execOverstakeRun p s = .next t ∧ Agree 8192 s t := by
  unfold execOverstakeRun
  refine ⟨_, rfl, ?_⟩
  repeat' (first | (intro x; first | (refine (fun (hx : Agree 8192 s x) => ?_) ?_; clear_value x; rotate_left; subst x) | subst x) | lift_lets -underBinder | with_reducible exact Agree.refl _ _ | with_reducible assumption | with_reducible apply @agree_onCtl 8192 _ (by decide) | with_reducible apply @agree_overstakeRun 8192 _ (by decide) | with_reducible refine Agree.of_snd (by assumption) ?_ | with_reducible refine Agree.of_fst (by assumption) ?_ | split | dsimp only | (intro t ht; with_reducible assumption) | intro)

theorem agree_execReportsMissing (p : Fin 64) (s : State) : ∃ t, execReportsMissing p s = .next t ∧ Agree 794624 s t := by
  unfold execReportsMissing
  refine ⟨_, rfl, ?_⟩
  repeat' (first | (intro x; first | (refine (fun (hx : Agree 794624 s x) => ?_) ?_; clear_value x; rotate_left; subst x) | subst x) | lift_lets -underBinder | with_reducible exact Agree.refl _ _ | with_reducible assumption | with_reducible apply @agree_onCtl 794624 _ (by decide) | with_reducible apply @agree_reportsMissing 794624 _ (by decide) | with_reducible refine Agree.of_snd (by assumption) ?_ | with_reducible refine Agree.of_fst (by assumption) ?_ | split | dsimp only | (intro t ht; with_reducible assumption) | intro)

theorem agree_execDrainSwitchOut (s : State) : ∃ t, execDrainSwitchOut s = .next t ∧ Agree 3737857 s t := by
  unfold execDrainSwitchOut
  refine ⟨_, rfl, ?_⟩
  repeat' (first | (intro x; first | (refine (fun (hx : Agree 3737857 s x) => ?_) ?_; clear_value x; rotate_left; subst x) | subst x) | lift_lets -underBinder | with_reducible exact Agree.refl _ _ | with_reducible assumption | with_reducible apply @agree_drainSwitch 3737857 _ (by decide) | with_reducible apply @agree_onCtl 3737857 _ (by decide) | with_reducible refine Agree.of_snd (by assumption) ?_ | with_reducible refine Agree.of_fst (by assumption) ?_ | split | dsimp only | (intro t ht; with_reducible assumption) | intro)

theorem agree_execGrantExpiry (s : State) : ∃ t, execGrantExpiry s = .next t ∧ Agree 16908544 s t := by
  unfold execGrantExpiry
  refine ⟨_, rfl, ?_⟩
  repeat' (first | (intro x; first | (refine (fun (hx : Agree 16908544 s x) => ?_) ?_; clear_value x; rotate_left; subst x) | subst x) | lift_lets -underBinder | with_reducible exact Agree.refl _ _ | with_reducible assumption | with_reducible apply @agree_grantExpiry 16908544 _ (by decide) | with_reducible apply @agree_onCtl 16908544 _ (by decide) | with_reducible refine Agree.of_snd (by assumption) ?_ | with_reducible refine Agree.of_fst (by assumption) ?_ | split | dsimp only | (intro t ht; with_reducible assumption) | intro)

theorem agree_execPortRecordHourly (s : State) : ∃ t, execPortRecordHourly s = .next t ∧ Agree 16384 s t := by
  unfold execPortRecordHourly
  refine ⟨_, rfl, ?_⟩
  repeat' (first | (intro x; first | (refine (fun (hx : Agree 16384 s x) => ?_) ?_; clear_value x; rotate_left; subst x) | subst x) | lift_lets -underBinder | with_reducible exact Agree.refl _ _ | with_reducible assumption | with_reducible apply @agree_onCtl 16384 _ (by decide) | with_reducible apply @agree_shortHourly 16384 _ (by decide) | with_reducible refine Agree.of_snd (by assumption) ?_ | with_reducible refine Agree.of_fst (by assumption) ?_ | split | dsimp only | (intro t ht; with_reducible assumption) | intro)

theorem agree_execUncoveredRecord (s : State) : ∃ t, execUncoveredRecord s = .next t ∧ Agree 16384 s t := by
  unfold execUncoveredRecord
  refine ⟨_, rfl, ?_⟩
  repeat' (first | (intro x; first | (refine (fun (hx : Agree 16384 s x) => ?_) ?_; clear_value x; rotate_left; subst x) | subst x) | lift_lets -underBinder | with_reducible exact Agree.refl _ _ | with_reducible assumption | with_reducible apply @agree_onCtl 16384 _ (by decide) | with_reducible apply @agree_uncovRec 16384 _ (by decide) | with_reducible refine Agree.of_snd (by assumption) ?_ | with_reducible refine Agree.of_fst (by assumption) ?_ | split | dsimp only | (intro t ht; with_reducible assumption) | intro)

theorem agree_execSignalDetect (l : HclLink) (s : State) : ∃ t, execSignalDetect l s = .next t ∧ Agree 17039360 s t := by
  unfold execSignalDetect
  refine ⟨_, rfl, ?_⟩
  repeat' (first | (intro x; first | (refine (fun (hx : Agree 17039360 s x) => ?_) ?_; clear_value x; rotate_left; subst x) | subst x) | lift_lets -underBinder | with_reducible exact Agree.refl _ _ | with_reducible assumption | with_reducible apply @agree_plSignal 17039360 _ (by decide) | with_reducible apply @agree_signalDetect 17039360 _ (by decide) | with_reducible refine Agree.of_snd (by assumption) ?_ | with_reducible refine Agree.of_fst (by assumption) ?_ | split | dsimp only | (intro t ht; with_reducible assumption) | intro)

theorem agree_execBlockLock (l : HclLink) (lanes : BitVec 4) (s : State) : ∃ t, execBlockLock l lanes s = .next t ∧ Agree 17039360 s t := by
  unfold execBlockLock
  refine ⟨_, rfl, ?_⟩
  repeat' (first | (intro x; first | (refine (fun (hx : Agree 17039360 s x) => ?_) ?_; clear_value x; rotate_left; subst x) | subst x) | lift_lets -underBinder | with_reducible exact Agree.refl _ _ | with_reducible assumption | with_reducible apply @agree_blockLock 17039360 _ (by decide) | with_reducible apply @agree_onCtl 17039360 _ (by decide) | with_reducible apply @agree_plLock 17039360 _ (by decide) | with_reducible refine Agree.of_snd (by assumption) ?_ | with_reducible refine Agree.of_fst (by assumption) ?_ | split | dsimp only | (intro t ht; with_reducible assumption) | intro)

theorem agree_execTrain1 (l : HclLink) (lane : Fin 4) (laneNo : Fin 4) (coef : BitVec 16) (sq : BitVec 8) (s : State) : ∃ t, execTrain1 l lane laneNo coef sq s = .next t ∧ Agree 17039360 s t := by
  unfold execTrain1
  refine ⟨_, rfl, ?_⟩
  repeat' (first | (intro x; first | (refine (fun (hx : Agree 17039360 s x) => ?_) ?_; clear_value x; rotate_left; subst x) | subst x) | lift_lets -underBinder | with_reducible exact Agree.refl _ _ | with_reducible assumption | with_reducible apply @agree_onCtl 17039360 _ (by decide) | with_reducible apply @agree_plTrain1 17039360 _ (by decide) | with_reducible apply @agree_train1 17039360 _ (by decide) | with_reducible refine Agree.of_snd (by assumption) ?_ | with_reducible refine Agree.of_fst (by assumption) ?_ | split | dsimp only | (intro t ht; with_reducible assumption) | intro)

theorem agree_execTrain2 (l : HclLink) (width : BitVec 4) (s : State) : ∃ t, execTrain2 l width s = .next t ∧ Agree 17039360 s t := by
  unfold execTrain2
  refine ⟨_, rfl, ?_⟩
  repeat' (first | (intro x; first | (refine (fun (hx : Agree 17039360 s x) => ?_) ?_; clear_value x; rotate_left; subst x) | subst x) | lift_lets -underBinder | with_reducible exact Agree.refl _ _ | with_reducible assumption | with_reducible apply @agree_onCtl 17039360 _ (by decide) | with_reducible apply @agree_plTrain2 17039360 _ (by decide) | with_reducible apply @agree_train2 17039360 _ (by decide) | with_reducible refine Agree.of_snd (by assumption) ?_ | with_reducible refine Agree.of_fst (by assumption) ?_ | split | dsimp only | (intro t ht; with_reducible assumption) | intro)

theorem agree_execTrainingTimeout (l : HclLink) (s : State) : ∃ t, execTrainingTimeout l s = .next t ∧ Agree 50593792 s t := by
  unfold execTrainingTimeout
  refine ⟨_, rfl, ?_⟩
  repeat' (first | (intro x; first | (refine (fun (hx : Agree 50593792 s x) => ?_) ?_; clear_value x; rotate_left; subst x) | subst x) | lift_lets -underBinder | with_reducible exact Agree.refl _ _ | with_reducible assumption | with_reducible apply @agree_onCtl 50593792 _ (by decide) | with_reducible apply @agree_plTimeout 50593792 _ (by decide) | with_reducible apply @agree_trainingTimeout 50593792 _ (by decide) | with_reducible refine Agree.of_snd (by assumption) ?_ | with_reducible refine Agree.of_fst (by assumption) ?_ | split | dsimp only | (intro t ht; with_reducible assumption) | intro)

theorem agree_execFailedRetry (l : HclLink) (s : State) : ∃ t, execFailedRetry l s = .next t ∧ Agree 17039360 s t := by
  unfold execFailedRetry
  refine ⟨_, rfl, ?_⟩
  repeat' (first | (intro x; first | (refine (fun (hx : Agree 17039360 s x) => ?_) ?_; clear_value x; rotate_left; subst x) | subst x) | lift_lets -underBinder | with_reducible exact Agree.refl _ _ | with_reducible assumption | with_reducible apply @agree_failedRetry 17039360 _ (by decide) | with_reducible apply @agree_plRetry 17039360 _ (by decide) | with_reducible refine Agree.of_snd (by assumption) ?_ | with_reducible refine Agree.of_fst (by assumption) ?_ | split | dsimp only | (intro t ht; with_reducible assumption) | intro)

theorem agree_execLaneLockLost (l : HclLink) (lane : Fin 4) (s : State) : ∃ t, execLaneLockLost l lane s = .next t ∧ Agree 50601984 s t := by
  unfold execLaneLockLost
  refine ⟨_, rfl, ?_⟩
  repeat' (first | (intro x; first | (refine (fun (hx : Agree 50601984 s x) => ?_) ?_; clear_value x; rotate_left; subst x) | subst x) | lift_lets -underBinder | with_reducible exact Agree.refl _ _ | with_reducible assumption | with_reducible apply @agree_laneLockLost 50601984 _ (by decide) | with_reducible apply @agree_onCtl 50601984 _ (by decide) | with_reducible apply @agree_plLost 50601984 _ (by decide) | with_reducible refine Agree.of_snd (by assumption) ?_ | with_reducible refine Agree.of_fst (by assumption) ?_ | split | dsimp only | (intro t ht; with_reducible assumption) | intro)

theorem agree_execQuiet (l : HclLink) (s : State) : ∃ t, execQuiet l s = .next t ∧ Agree 61087744 s t := by
  unfold execQuiet
  refine ⟨_, rfl, ?_⟩
  repeat' (first | (intro x; first | (refine (fun (hx : Agree 61087744 s x) => ?_) ?_; clear_value x; rotate_left; subst x) | subst x) | lift_lets -underBinder | with_reducible exact Agree.refl _ _ | with_reducible assumption | with_reducible apply @agree_onCtl 61087744 _ (by decide) | with_reducible apply @agree_plQuiet 61087744 _ (by decide) | with_reducible apply @agree_quietRx 61087744 _ (by decide) | with_reducible refine Agree.of_snd (by assumption) ?_ | with_reducible refine Agree.of_fst (by assumption) ?_ | split | dsimp only | (intro t ht; with_reducible assumption) | intro)

theorem agree_execRecoverTimeout (p : Fin 64) (s : State) : ∃ t, execRecoverTimeout p s = .next t ∧ Agree 10756352 s t := by
  unfold execRecoverTimeout
  refine ⟨_, rfl, ?_⟩
  repeat' (first | (intro x; first | (refine (fun (hx : Agree 10756352 s x) => ?_) ?_; clear_value x; rotate_left; subst x) | subst x) | lift_lets -underBinder | with_reducible exact Agree.refl _ _ | with_reducible assumption | with_reducible apply @agree_onCtl 10756352 _ (by decide) | with_reducible apply @agree_recoverTimeout 10756352 _ (by decide) | with_reducible refine Agree.of_snd (by assumption) ?_ | with_reducible refine Agree.of_fst (by assumption) ?_ | split | dsimp only | (intro t ht; with_reducible assumption) | intro)

theorem agree_execAck (link : LinkId) (h : Hdr) (s : State) : ∃ t, execAck link h s = .next t ∧ Agree 50601984 s t := by
  unfold execAck
  refine ⟨_, rfl, ?_⟩
  repeat' (first | (intro x; first | (refine (fun (hx : Agree 50601984 s x) => ?_) ?_; clear_value x; rotate_left; subst x) | subst x) | lift_lets -underBinder | with_reducible exact Agree.refl _ _ | with_reducible assumption | with_reducible apply @agree_fabAck 50601984 _ (by decide) | with_reducible apply @agree_onCtl 50601984 _ (by decide) | with_reducible apply @agree_onFab 50601984 _ (by decide) | with_reducible apply @agree_pairAck 50601984 _ (by decide) | with_reducible apply @agree_portAck 50601984 _ (by decide) | with_reducible refine Agree.of_snd (by assumption) ?_ | with_reducible refine Agree.of_fst (by assumption) ?_ | split | dsimp only | (intro t ht; with_reducible assumption) | intro)

theorem agree_execNak (link : LinkId) (why : NakWhy) (s : State) : ∃ t, execNak link why s = .next t ∧ Agree 50601984 s t := by
  unfold execNak
  refine ⟨_, rfl, ?_⟩
  repeat' (first | (intro x; first | (refine (fun (hx : Agree 50601984 s x) => ?_) ?_; clear_value x; rotate_left; subst x) | subst x) | lift_lets -underBinder | with_reducible exact Agree.refl _ _ | with_reducible assumption | with_reducible apply @agree_fabNak 50601984 _ (by decide) | with_reducible apply @agree_onCtl 50601984 _ (by decide) | with_reducible apply @agree_onFab 50601984 _ (by decide) | with_reducible apply @agree_pairNak 50601984 _ (by decide) | with_reducible apply @agree_portNak 50601984 _ (by decide) | with_reducible refine Agree.of_snd (by assumption) ?_ | with_reducible refine Agree.of_fst (by assumption) ?_ | split | dsimp only | (intro t ht; with_reducible assumption) | intro)

theorem agree_execReplayTimeout (link : LinkId) (s : State) : ∃ t, execReplayTimeout link s = .next t ∧ Agree 50601984 s t := by
  unfold execReplayTimeout
  refine ⟨_, rfl, ?_⟩
  repeat' (first | (intro x; first | (refine (fun (hx : Agree 50601984 s x) => ?_) ?_; clear_value x; rotate_left; subst x) | subst x) | lift_lets -underBinder | with_reducible exact Agree.refl _ _ | with_reducible assumption | with_reducible apply @agree_fabReplay 50601984 _ (by decide) | with_reducible apply @agree_onCtl 50601984 _ (by decide) | with_reducible apply @agree_onFab 50601984 _ (by decide) | with_reducible apply @agree_pairReplay 50601984 _ (by decide) | with_reducible apply @agree_portReplay 50601984 _ (by decide) | with_reducible refine Agree.of_snd (by assumption) ?_ | with_reducible refine Agree.of_fst (by assumption) ?_ | split | dsimp only | (intro t ht; with_reducible assumption) | intro)

theorem agree_execIdent (p : Fin 64) (h : Hdr) (m : IdentMsg) (s : State) : ∃ t, execIdent p h m s = .next t ∧ Agree 15998977 s t := by
  unfold execIdent
  refine ⟨_, rfl, ?_⟩
  repeat' (first | (intro x; first | (refine (fun (hx : Agree 15998977 s x) => ?_) ?_; clear_value x; rotate_left; subst x) | subst x) | lift_lets -underBinder | with_reducible exact Agree.refl _ _ | with_reducible assumption | with_reducible apply @agree_identDone 15998977 _ (by decide) | with_reducible apply @agree_onCtl 15998977 _ (by decide) | with_reducible refine Agree.of_snd (by assumption) ?_ | with_reducible refine Agree.of_fst (by assumption) ?_ | split | dsimp only | (intro t ht; with_reducible assumption) | intro)

theorem agree_execReport (p : Fin 64) (h : Hdr) (m : ReportMsg) (late : Bool) (s : State) : ∃ t, execReport p h m late s = .next t ∧ Agree 794624 s t := by
  unfold execReport
  refine ⟨_, rfl, ?_⟩
  repeat' (first | (intro x; first | (refine (fun (hx : Agree 794624 s x) => ?_) ?_; clear_value x; rotate_left; subst x) | subst x) | lift_lets -underBinder | with_reducible exact Agree.refl _ _ | with_reducible assumption | with_reducible apply @agree_receive 794624 _ (by decide) | with_reducible apply @agree_onCtl 794624 _ (by decide) | with_reducible apply @agree_reportRx 794624 _ (by decide) | with_reducible refine Agree.of_snd (by assumption) ?_ | with_reducible refine Agree.of_fst (by assumption) ?_ | split | dsimp only | (intro t ht; with_reducible assumption) | intro)

theorem agree_execMap (p : Fin 64) (h : Hdr) (tag : BitVec 32) (first : BitVec 16) (words : List (List Nat)) (s : State) : ∃ t, execMap p h tag first words s = .next t ∧ Agree 2367744 s t := by
  unfold execMap
  refine ⟨_, rfl, ?_⟩
  repeat' (first | (intro x; first | (refine (fun (hx : Agree 2367744 s x) => ?_) ?_; clear_value x; rotate_left; subst x) | subst x) | lift_lets -underBinder | with_reducible exact Agree.refl _ _ | with_reducible assumption | with_reducible apply @agree_receive 2367744 _ (by decide) | with_reducible apply @agree_mapRx 2367744 _ (by decide) | with_reducible apply @agree_onCtl 2367744 _ (by decide) | with_reducible refine Agree.of_snd (by assumption) ?_ | with_reducible refine Agree.of_fst (by assumption) ?_ | split | dsimp only | (intro t ht; with_reducible assumption) | intro)

theorem agree_execData (p : Fin 64) (h : Hdr) (tag : BitVec 32) (sq : BitVec 16) (chunk : Fin 16) (gen : BitVec 4) (st : BitVec 2) (data : List Byte) (trayErr : Bool) (s : State) : ∃ t, execData p h tag sq chunk gen st data trayErr s = .next t ∧ Agree 50166017 s t := by
  unfold execData
  refine ⟨_, rfl, ?_⟩
  repeat' (first | (intro x; first | (refine (fun (hx : Agree 50166017 s x) => ?_) ?_; clear_value x; rotate_left; subst x) | subst x) | lift_lets -underBinder | with_reducible exact Agree.refl _ _ | with_reducible assumption | with_reducible apply @agree_dataRx 50166017 _ (by decide) | with_reducible apply @agree_receive 50166017 _ (by decide) | with_reducible apply @agree_onCtl 50166017 _ (by decide) | with_reducible refine Agree.of_snd (by assumption) ?_ | with_reducible refine Agree.of_fst (by assumption) ?_ | split | dsimp only | (intro t ht; with_reducible assumption) | intro)

theorem agree_execConfirmAck (p : Fin 64) (h : Hdr) (turn : BitVec 32) (acc : BitVec 64) (s : State) : ∃ t, execConfirmAck p h turn acc s = .next t ∧ Agree 2367488 s t := by
  unfold execConfirmAck
  refine ⟨_, rfl, ?_⟩
  repeat' (first | (intro x; first | (refine (fun (hx : Agree 2367488 s x) => ?_) ?_; clear_value x; rotate_left; subst x) | subst x) | lift_lets -underBinder | with_reducible exact Agree.refl _ _ | with_reducible assumption | with_reducible apply @agree_confirmAckRx 2367488 _ (by decide) | with_reducible apply @agree_receive 2367488 _ (by decide) | with_reducible apply @agree_onCtl 2367488 _ (by decide) | with_reducible refine Agree.of_snd (by assumption) ?_ | with_reducible refine Agree.of_fst (by assumption) ?_ | split | dsimp only | (intro t ht; with_reducible assumption) | intro)

theorem agree_execRevertAck (p : Fin 64) (h : Hdr) (count : BitVec 17) (ovf : Bool) (s : State) : ∃ t, execRevertAck p h count ovf s = .next t ∧ Agree 2367488 s t := by
  unfold execRevertAck
  refine ⟨_, rfl, ?_⟩
  repeat' (first | (intro x; first | (refine (fun (hx : Agree 2367488 s x) => ?_) ?_; clear_value x; rotate_left; subst x) | subst x) | lift_lets -underBinder | with_reducible exact Agree.refl _ _ | with_reducible assumption | with_reducible apply @agree_receive 2367488 _ (by decide) | with_reducible apply @agree_onCtl 2367488 _ (by decide) | with_reducible apply @agree_revertAckRx 2367488 _ (by decide) | with_reducible refine Agree.of_snd (by assumption) ?_ | with_reducible refine Agree.of_fst (by assumption) ?_ | split | dsimp only | (intro t ht; with_reducible assumption) | intro)

theorem agree_execHclError (p : Fin 64) (h : Hdr) (code : BitVec 8) (s : State) : ∃ t, execHclError p h code s = .next t ∧ Agree 270336 s t := by
  unfold execHclError
  refine ⟨_, rfl, ?_⟩
  repeat' (first | (intro x; first | (refine (fun (hx : Agree 270336 s x) => ?_) ?_; clear_value x; rotate_left; subst x) | subst x) | lift_lets -underBinder | with_reducible exact Agree.refl _ _ | with_reducible assumption | with_reducible apply @agree_hclError 270336 _ (by decide) | with_reducible apply @agree_receive 270336 _ (by decide) | with_reducible apply @agree_onCtl 270336 _ (by decide) | with_reducible refine Agree.of_snd (by assumption) ?_ | with_reducible refine Agree.of_fst (by assumption) ?_ | split | dsimp only | (intro t ht; with_reducible assumption) | intro)

theorem agree_execCheck (p : Fin 64) (h : Hdr) (serial : BitVec 32) (codes : List Word) (s : State) : ∃ t, execCheck p h serial codes s = .next t ∧ Agree 8659200 s t := by
  unfold execCheck
  refine ⟨_, rfl, ?_⟩
  repeat' (first | (intro x; first | (refine (fun (hx : Agree 8659200 s x) => ?_) ?_; clear_value x; rotate_left; subst x) | subst x) | lift_lets -underBinder | with_reducible exact Agree.refl _ _ | with_reducible assumption | with_reducible apply @agree_checkRx 8659200 _ (by decide) | with_reducible apply @agree_receive 8659200 _ (by decide) | with_reducible apply @agree_onCtl 8659200 _ (by decide) | with_reducible refine Agree.of_snd (by assumption) ?_ | with_reducible refine Agree.of_fst (by assumption) ?_ | split | dsimp only | (intro t ht; with_reducible assumption) | intro)

theorem agree_execFrozen (p : Fin 64) (h : Hdr) (m : FrozenMsg) (s : State) : ∃ t, execFrozen p h m s = .next t ∧ Agree 50166017 s t := by
  unfold execFrozen
  refine ⟨_, rfl, ?_⟩
  repeat' (first | (intro x; first | (refine (fun (hx : Agree 50166017 s x) => ?_) ?_; clear_value x; rotate_left; subst x) | subst x) | lift_lets -underBinder | with_reducible exact Agree.refl _ _ | with_reducible assumption | with_reducible apply @agree_vaultAfter 50166017 _ (by decide) | with_reducible apply @agree_frozenRx 50166017 _ (by decide) | with_reducible apply @agree_receive 50166017 _ (by decide) | with_reducible apply @agree_onCtl 50166017 _ (by decide) | with_reducible refine Agree.of_snd (by assumption) ?_ | with_reducible refine Agree.of_fst (by assumption) ?_ | split | dsimp only | (intro t ht; with_reducible assumption) | intro)

theorem agree_execWack (p : Fin 64) (h : Hdr) (sq : BitVec 16) (chunk : Fin 16) (tag : BitVec 32) (status : BitVec 2) (s : State) : ∃ t, execWack p h sq chunk tag status s = .next t ∧ Agree 9707521 s t := by
  unfold execWack
  refine ⟨_, rfl, ?_⟩
  repeat' (first | (intro x; first | (refine (fun (hx : Agree 9707521 s x) => ?_) ?_; clear_value x; rotate_left; subst x) | subst x) | lift_lets -underBinder | with_reducible exact Agree.refl _ _ | with_reducible assumption | with_reducible apply @agree_receive 9707521 _ (by decide) | with_reducible apply @agree_onCtl 9707521 _ (by decide) | with_reducible apply @agree_wackRx 9707521 _ (by decide) | with_reducible refine Agree.of_snd (by assumption) ?_ | with_reducible refine Agree.of_fst (by assumption) ?_ | split | dsimp only | (intro t ht; with_reducible assumption) | intro)

theorem agree_execWackTimeout (p : Fin 64) (sq : BitVec 16) (chunk : Fin 16) (s : State) : ∃ t, execWackTimeout p sq chunk s = .next t ∧ Agree 9707521 s t := by
  unfold execWackTimeout
  refine ⟨_, rfl, ?_⟩
  repeat' (first | (intro x; first | (refine (fun (hx : Agree 9707521 s x) => ?_) ?_; clear_value x; rotate_left; subst x) | subst x) | lift_lets -underBinder | with_reducible exact Agree.refl _ _ | with_reducible assumption | with_reducible apply @agree_onCtl 9707521 _ (by decide) | with_reducible apply @agree_wackTimeout 9707521 _ (by decide) | with_reducible refine Agree.of_snd (by assumption) ?_ | with_reducible refine Agree.of_fst (by assumption) ?_ | split | dsimp only | (intro t ht; with_reducible assumption) | intro)

theorem agree_execReleaseAck (p : Fin 64) (h : Hdr) (s : State) : ∃ t, execReleaseAck p h s = .next t ∧ Agree 11804673 s t := by
  unfold execReleaseAck
  refine ⟨_, rfl, ?_⟩
  repeat' (first | (intro x; first | (refine (fun (hx : Agree 11804673 s x) => ?_) ?_; clear_value x; rotate_left; subst x) | subst x) | lift_lets -underBinder | with_reducible exact Agree.refl _ _ | with_reducible assumption | with_reducible apply @agree_receive 11804673 _ (by decide) | with_reducible apply @agree_onCtl 11804673 _ (by decide) | with_reducible apply @agree_releaseAckRx 11804673 _ (by decide) | with_reducible refine Agree.of_snd (by assumption) ?_ | with_reducible refine Agree.of_fst (by assumption) ?_ | split | dsimp only | (intro t ht; with_reducible assumption) | intro)

theorem agree_execReleaseTimeout (p : Fin 64) (s : State) : ∃ t, execReleaseTimeout p s = .next t ∧ Agree 8658944 s t := by
  unfold execReleaseTimeout
  refine ⟨_, rfl, ?_⟩
  repeat' (first | (intro x; first | (refine (fun (hx : Agree 8658944 s x) => ?_) ?_; clear_value x; rotate_left; subst x) | subst x) | lift_lets -underBinder | with_reducible exact Agree.refl _ _ | with_reducible assumption | with_reducible apply @agree_onCtl 8658944 _ (by decide) | with_reducible apply @agree_releaseTimeout 8658944 _ (by decide) | with_reducible refine Agree.of_snd (by assumption) ?_ | with_reducible refine Agree.of_fst (by assumption) ?_ | split | dsimp only | (intro t ht; with_reducible assumption) | intro)

theorem agree_execFreezeWindowClose (s : State) : ∃ t, execFreezeWindowClose s = .next t ∧ Agree 50166017 s t := by
  unfold execFreezeWindowClose
  refine ⟨_, rfl, ?_⟩
  repeat' (first | (intro x; first | (refine (fun (hx : Agree 50166017 s x) => ?_) ?_; clear_value x; rotate_left; subst x) | subst x) | lift_lets -underBinder | with_reducible exact Agree.refl _ _ | with_reducible assumption | with_reducible apply @agree_vaultAfter 50166017 _ (by decide) | with_reducible apply @agree_onCtl 50166017 _ (by decide) | with_reducible apply @agree_windowClose 50166017 _ (by decide) | with_reducible refine Agree.of_snd (by assumption) ?_ | with_reducible refine Agree.of_fst (by assumption) ?_ | split | dsimp only | (intro t ht; with_reducible assumption) | intro)

theorem agree_execWaveOpen (k : Fin 8) (s : State) : ∃ t, execWaveOpen k s = .next t ∧ Agree 50166017 s t := by
  unfold execWaveOpen
  refine ⟨_, rfl, ?_⟩
  repeat' (first | (intro x; first | (refine (fun (hx : Agree 50166017 s x) => ?_) ?_; clear_value x; rotate_left; subst x) | subst x) | lift_lets -underBinder | with_reducible exact Agree.refl _ _ | with_reducible assumption | with_reducible apply @agree_vaultAfter 50166017 _ (by decide) | with_reducible apply @agree_onCtl 50166017 _ (by decide) | with_reducible apply @agree_waveOpen 50166017 _ (by decide) | with_reducible refine Agree.of_snd (by assumption) ?_ | with_reducible refine Agree.of_fst (by assumption) ?_ | split | dsimp only | (intro t ht; with_reducible assumption) | intro)

theorem agree_execDescriptorComplete (ring : Fin 32) (slot : BitVec 8) (res : BitVec 8) (corr : BitVec 8) (retries : BitVec 8) (us : BitVec 16) (bad : BitVec 8) (crc : BitVec 8) (s : State) : ∃ t, execDescriptorComplete ring slot res corr retries us bad crc s = .next t ∧ Agree 66943749 s t := by
  unfold execDescriptorComplete
  refine ⟨_, rfl, ?_⟩
  repeat' (first | (intro x; first | (refine (fun (hx : Agree 66943749 s x) => ?_) ?_; clear_value x; rotate_left; subst x) | subst x) | lift_lets -underBinder | with_reducible exact Agree.refl _ _ | with_reducible assumption | with_reducible apply @agree_descComplete 66943749 _ (by decide) | with_reducible apply @agree_onCtl 66943749 _ (by decide) | with_reducible apply @agree_sealResets 66943749 _ (by decide) | with_reducible refine Agree.of_snd (by assumption) ?_ | with_reducible refine Agree.of_fst (by assumption) ?_ | split | dsimp only | (intro t ht; with_reducible assumption) | intro)

theorem agree_execClass1StripeFill (s : State) : ∃ t, execClass1StripeFill s = .next t ∧ Agree 3145729 s t := by
  unfold execClass1StripeFill
  refine ⟨_, rfl, ?_⟩
  repeat' (first | (intro x; first | (refine (fun (hx : Agree 3145729 s x) => ?_) ?_; clear_value x; rotate_left; subst x) | subst x) | lift_lets -underBinder | with_reducible exact Agree.refl _ _ | with_reducible assumption | with_reducible apply @agree_class1Fill 3145729 _ (by decide) | with_reducible apply @agree_onCtl 3145729 _ (by decide) | with_reducible refine Agree.of_snd (by assumption) ?_ | with_reducible refine Agree.of_fst (by assumption) ?_ | split | dsimp only | (intro t ht; with_reducible assumption) | intro)

theorem agree_execMoveLinkTimeout (p : Fin 64) (s : State) : ∃ t, execMoveLinkTimeout p s = .next t ∧ Agree 50166017 s t := by
  unfold execMoveLinkTimeout
  refine ⟨_, rfl, ?_⟩
  repeat' (first | (intro x; first | (refine (fun (hx : Agree 50166017 s x) => ?_) ?_; clear_value x; rotate_left; subst x) | subst x) | lift_lets -underBinder | with_reducible exact Agree.refl _ _ | with_reducible assumption | with_reducible apply @agree_vaultAfter 50166017 _ (by decide) | with_reducible apply @agree_moveLinkTimeout 50166017 _ (by decide) | with_reducible apply @agree_onCtl 50166017 _ (by decide) | with_reducible refine Agree.of_snd (by assumption) ?_ | with_reducible refine Agree.of_fst (by assumption) ?_ | split | dsimp only | (intro t ht; with_reducible assumption) | intro)

theorem agree_execClass1Cutoff (s : State) : ∃ t, execClass1Cutoff s = .next t ∧ Agree 50166017 s t := by
  unfold execClass1Cutoff
  refine ⟨_, rfl, ?_⟩
  repeat' (first | (intro x; first | (refine (fun (hx : Agree 50166017 s x) => ?_) ?_; clear_value x; rotate_left; subst x) | subst x) | lift_lets -underBinder | with_reducible exact Agree.refl _ _ | with_reducible assumption | with_reducible apply @agree_class1Cut 50166017 _ (by decide) | with_reducible apply @agree_vaultAfter 50166017 _ (by decide) | with_reducible apply @agree_onCtl 50166017 _ (by decide) | with_reducible refine Agree.of_snd (by assumption) ?_ | with_reducible refine Agree.of_fst (by assumption) ?_ | split | dsimp only | (intro t ht; with_reducible assumption) | intro)

theorem agree_execClass2Cutoff (s : State) : ∃ t, execClass2Cutoff s = .next t ∧ Agree 50166017 s t := by
  unfold execClass2Cutoff
  refine ⟨_, rfl, ?_⟩
  repeat' (first | (intro x; first | (refine (fun (hx : Agree 50166017 s x) => ?_) ?_; clear_value x; rotate_left; subst x) | subst x) | lift_lets -underBinder | with_reducible exact Agree.refl _ _ | with_reducible assumption | with_reducible apply @agree_class2Cut 50166017 _ (by decide) | with_reducible apply @agree_vaultAfter 50166017 _ (by decide) | with_reducible apply @agree_onCtl 50166017 _ (by decide) | with_reducible refine Agree.of_snd (by assumption) ?_ | with_reducible refine Agree.of_fst (by assumption) ?_ | split | dsimp only | (intro t ht; with_reducible assumption) | intro)

theorem agree_execBusWarnCross (s : State) : ∃ t, execBusWarnCross s = .next t ∧ Agree 50166017 s t := by
  unfold execBusWarnCross
  refine ⟨_, rfl, ?_⟩
  repeat' (first | (intro x; first | (refine (fun (hx : Agree 50166017 s x) => ?_) ?_; clear_value x; rotate_left; subst x) | subst x) | lift_lets -underBinder | with_reducible exact Agree.refl _ _ | with_reducible assumption | with_reducible apply @agree_class2Cut 50166017 _ (by decide) | with_reducible apply @agree_vaultAfter 50166017 _ (by decide) | with_reducible apply @agree_onCtl 50166017 _ (by decide) | with_reducible refine Agree.of_snd (by assumption) ?_ | with_reducible refine Agree.of_fst (by assumption) ?_ | split | dsimp only | (intro t ht; with_reducible assumption) | intro)

theorem agree_execBusFaultCross (s : State) : ∃ t, execBusFaultCross s = .next t ∧ Agree 50166019 s t := by
  unfold execBusFaultCross
  refine ⟨_, rfl, ?_⟩
  repeat' (first | (intro x; first | (refine (fun (hx : Agree 50166019 s x) => ?_) ?_; clear_value x; rotate_left; subst x) | subst x) | lift_lets -underBinder | with_reducible exact Agree.refl _ _ | with_reducible assumption | with_reducible apply @agree_backupNotGood 50166019 _ (by decide) | with_reducible apply @agree_vaultAfter 50166019 _ (by decide) | with_reducible apply @agree_emergSeal 50166019 _ (by decide) | with_reducible apply @agree_onCtl 50166019 _ (by decide) | with_reducible refine Agree.of_snd (by assumption) ?_ | with_reducible refine Agree.of_fst (by assumption) ?_ | split | dsimp only | (intro t ht; with_reducible assumption) | intro)

theorem agree_execPortManifestPost (p : Fin 64) (s : State) : ∃ t, execPortManifestPost p s = .next t ∧ Agree 7340033 s t := by
  unfold execPortManifestPost
  refine ⟨_, rfl, ?_⟩
  repeat' (first | (intro x; first | (refine (fun (hx : Agree 7340033 s x) => ?_) ?_; clear_value x; rotate_left; subst x) | subst x) | lift_lets -underBinder | with_reducible exact Agree.refl _ _ | with_reducible assumption | with_reducible apply @agree_onCtl 7340033 _ (by decide) | with_reducible apply @agree_portManifest 7340033 _ (by decide) | with_reducible refine Agree.of_snd (by assumption) ?_ | with_reducible refine Agree.of_fst (by assumption) ?_ | split | dsimp only | (intro t ht; with_reducible assumption) | intro)

theorem agree_execSaveManifestPost (s : State) : ∃ t, execSaveManifestPost s = .next t ∧ Agree 7340033 s t := by
  unfold execSaveManifestPost
  refine ⟨_, rfl, ?_⟩
  repeat' (first | (intro x; first | (refine (fun (hx : Agree 7340033 s x) => ?_) ?_; clear_value x; rotate_left; subst x) | subst x) | lift_lets -underBinder | with_reducible exact Agree.refl _ _ | with_reducible assumption | with_reducible apply @agree_onCtl 7340033 _ (by decide) | with_reducible apply @agree_saveManifest 7340033 _ (by decide) | with_reducible refine Agree.of_snd (by assumption) ?_ | with_reducible refine Agree.of_fst (by assumption) ?_ | split | dsimp only | (intro t ht; with_reducible assumption) | intro)

theorem agree_execCalSample (readings : List (Option (Nat × Nat))) (s : State) : ∃ t, execCalSample readings s = .next t ∧ Agree 4198401 s t := by
  unfold execCalSample
  refine ⟨_, rfl, ?_⟩
  repeat' (first | (intro x; first | (refine (fun (hx : Agree 4198401 s x) => ?_) ?_; clear_value x; rotate_left; subst x) | subst x) | lift_lets -underBinder | with_reducible exact Agree.refl _ _ | with_reducible assumption | with_reducible apply @agree_calSample 4198401 _ (by decide) | with_reducible apply @agree_onCtl 4198401 _ (by decide) | with_reducible refine Agree.of_snd (by assumption) ?_ | with_reducible refine Agree.of_fst (by assumption) ?_ | split | dsimp only | (intro t ht; with_reducible assumption) | intro)

theorem agree_execCalFillEnd (s : State) : ∃ t, execCalFillEnd s = .next t ∧ Agree 4194304 s t := by
  unfold execCalFillEnd
  refine ⟨_, rfl, ?_⟩
  repeat' (first | (intro x; first | (refine (fun (hx : Agree 4194304 s x) => ?_) ?_; clear_value x; rotate_left; subst x) | subst x) | lift_lets -underBinder | with_reducible exact Agree.refl _ _ | with_reducible assumption | with_reducible apply @agree_calFillEnd 4194304 _ (by decide) | with_reducible apply @agree_onCtl 4194304 _ (by decide) | with_reducible refine Agree.of_snd (by assumption) ?_ | with_reducible refine Agree.of_fst (by assumption) ?_ | split | dsimp only | (intro t ht; with_reducible assumption) | intro)

theorem agree_execSledRemoved (x : Fin 4) (gone : Bool) (s : State) : ∃ t, execSledRemoved x gone s = .next t ∧ Agree 66419459 s t := by
  unfold execSledRemoved
  refine ⟨_, rfl, ?_⟩
  repeat' (first | (intro x; first | (refine (fun (hx : Agree 66419459 s x) => ?_) ?_; clear_value x; rotate_left; subst x) | subst x) | lift_lets -underBinder | with_reducible exact Agree.refl _ _ | with_reducible assumption | with_reducible apply @agree_noSledLeft 66419459 _ (by decide) | with_reducible apply @agree_sealResets 66419459 _ (by decide) | with_reducible apply @agree_sledRemoved 66419459 _ (by decide) | with_reducible refine Agree.of_snd (by assumption) ?_ | with_reducible refine Agree.of_fst (by assumption) ?_ | split | dsimp only | (intro t ht; with_reducible assumption) | intro)

theorem agree_execSledPresent (x : Fin 4) (dev : SledDev) (s : State) : ∃ t, execSledPresent x dev s = .next t ∧ Agree 1122562 s t := by
  unfold execSledPresent
  refine ⟨_, rfl, ?_⟩
  repeat' (first | (intro x; first | (refine (fun (hx : Agree 1122562 s x) => ?_) ?_; clear_value x; rotate_left; subst x) | subst x) | lift_lets -underBinder | with_reducible exact Agree.refl _ _ | with_reducible assumption | with_reducible apply @agree_sledPresent 1122562 _ (by decide) | with_reducible refine Agree.of_snd (by assumption) ?_ | with_reducible refine Agree.of_fst (by assumption) ?_ | split | dsimp only | (intro t ht; with_reducible assumption) | intro)

theorem agree_execFlashIslandUp (x : Fin 4) (s : State) : ∃ t, execFlashIslandUp x s = .next t ∧ Agree 1057024 s t := by
  unfold execFlashIslandUp
  refine ⟨_, rfl, ?_⟩
  repeat' (first | (intro x; first | (refine (fun (hx : Agree 1057024 s x) => ?_) ?_; clear_value x; rotate_left; subst x) | subst x) | lift_lets -underBinder | with_reducible exact Agree.refl _ _ | with_reducible assumption | with_reducible apply @agree_flashUp 1057024 _ (by decide) | with_reducible apply @agree_onCtl 1057024 _ (by decide) | with_reducible refine Agree.of_snd (by assumption) ?_ | with_reducible refine Agree.of_fst (by assumption) ?_ | split | dsimp only | (intro t ht; with_reducible assumption) | intro)

theorem agree_execVaultFounding (s : State) : ∃ t, execVaultFounding s = .next t ∧ Agree 1048832 s t := by
  unfold execVaultFounding
  refine ⟨_, rfl, ?_⟩
  repeat' (first | (intro x; first | (refine (fun (hx : Agree 1048832 s x) => ?_) ?_; clear_value x; rotate_left; subst x) | subst x) | lift_lets -underBinder | with_reducible exact Agree.refl _ _ | with_reducible assumption | with_reducible apply @agree_onCtl 1048832 _ (by decide) | with_reducible apply @agree_vaultFounding 1048832 _ (by decide) | with_reducible refine Agree.of_snd (by assumption) ?_ | with_reducible refine Agree.of_fst (by assumption) ?_ | split | dsimp only | (intro t ht; with_reducible assumption) | intro)

theorem agree_execBlockMapDone (x : Fin 4) (s : State) : ∃ t, execBlockMapDone x s = .next t ∧ Agree 3145984 s t := by
  unfold execBlockMapDone
  refine ⟨_, rfl, ?_⟩
  repeat' (first | (intro x; first | (refine (fun (hx : Agree 3145984 s x) => ?_) ?_; clear_value x; rotate_left; subst x) | subst x) | lift_lets -underBinder | with_reducible exact Agree.refl _ _ | with_reducible assumption | with_reducible apply @agree_blockMapDone 3145984 _ (by decide) | with_reducible apply @agree_onCtl 3145984 _ (by decide) | with_reducible refine Agree.of_snd (by assumption) ?_ | with_reducible refine Agree.of_fst (by assumption) ?_ | split | dsimp only | (intro t ht; with_reducible assumption) | intro)

theorem agree_execLogScanDone (x : Fin 4) (s : State) : ∃ t, execLogScanDone x s = .next t ∧ Agree 3145984 s t := by
  unfold execLogScanDone
  refine ⟨_, rfl, ?_⟩
  repeat' (first | (intro x; first | (refine (fun (hx : Agree 3145984 s x) => ?_) ?_; clear_value x; rotate_left; subst x) | subst x) | lift_lets -underBinder | with_reducible exact Agree.refl _ _ | with_reducible assumption | with_reducible apply @agree_logScanDone 3145984 _ (by decide) | with_reducible apply @agree_onCtl 3145984 _ (by decide) | with_reducible refine Agree.of_snd (by assumption) ?_ | with_reducible refine Agree.of_fst (by assumption) ?_ | split | dsimp only | (intro t ht; with_reducible assumption) | intro)

theorem agree_execEraseCountWrite (s : State) : ∃ t, execEraseCountWrite s = .next t ∧ Agree 3145729 s t := by
  unfold execEraseCountWrite
  refine ⟨_, rfl, ?_⟩
  repeat' (first | (intro x; first | (refine (fun (hx : Agree 3145729 s x) => ?_) ?_; clear_value x; rotate_left; subst x) | subst x) | lift_lets -underBinder | with_reducible exact Agree.refl _ _ | with_reducible assumption | with_reducible apply @agree_eraseCountWrite 3145729 _ (by decide) | with_reducible apply @agree_onCtl 3145729 _ (by decide) | with_reducible refine Agree.of_snd (by assumption) ?_ | with_reducible refine Agree.of_fst (by assumption) ?_ | split | dsimp only | (intro t ht; with_reducible assumption) | intro)

theorem agree_execIndexFlush (s : State) : ∃ t, execIndexFlush s = .next t ∧ Agree 7340033 s t := by
  unfold execIndexFlush
  refine ⟨_, rfl, ?_⟩
  repeat' (first | (intro x; first | (refine (fun (hx : Agree 7340033 s x) => ?_) ?_; clear_value x; rotate_left; subst x) | subst x) | lift_lets -underBinder | with_reducible exact Agree.refl _ _ | with_reducible assumption | with_reducible apply @agree_indexFlush 7340033 _ (by decide) | with_reducible apply @agree_onCtl 7340033 _ (by decide) | with_reducible refine Agree.of_snd (by assumption) ?_ | with_reducible refine Agree.of_fst (by assumption) ?_ | split | dsimp only | (intro t ht; with_reducible assumption) | intro)

theorem agree_execConfirmUnitWrite (s : State) : ∃ t, execConfirmUnitWrite s = .next t ∧ Agree 3145729 s t := by
  unfold execConfirmUnitWrite
  refine ⟨_, rfl, ?_⟩
  repeat' (first | (intro x; first | (refine (fun (hx : Agree 3145729 s x) => ?_) ?_; clear_value x; rotate_left; subst x) | subst x) | lift_lets -underBinder | with_reducible exact Agree.refl _ _ | with_reducible assumption | with_reducible apply @agree_confirmUnitWrite 3145729 _ (by decide) | with_reducible apply @agree_onCtl 3145729 _ (by decide) | with_reducible refine Agree.of_snd (by assumption) ?_ | with_reducible refine Agree.of_fst (by assumption) ?_ | split | dsimp only | (intro t ht; with_reducible assumption) | intro)

theorem agree_execLogStripeFill (s : State) : ∃ t, execLogStripeFill s = .next t ∧ Agree 3145729 s t := by
  unfold execLogStripeFill
  refine ⟨_, rfl, ?_⟩
  repeat' (first | (intro x; first | (refine (fun (hx : Agree 3145729 s x) => ?_) ?_; clear_value x; rotate_left; subst x) | subst x) | lift_lets -underBinder | with_reducible exact Agree.refl _ _ | with_reducible assumption | with_reducible apply @agree_logStripeFill 3145729 _ (by decide) | with_reducible apply @agree_onCtl 3145729 _ (by decide) | with_reducible refine Agree.of_snd (by assumption) ?_ | with_reducible refine Agree.of_fst (by assumption) ?_ | split | dsimp only | (intro t ht; with_reducible assumption) | intro)

theorem agree_execCopyTimeout (p : Fin 64) (sq : BitVec 16) (s : State) : ∃ t, execCopyTimeout p sq s = .next t ∧ Agree 2359296 s t := by
  unfold execCopyTimeout
  refine ⟨_, rfl, ?_⟩
  repeat' (first | (intro x; first | (refine (fun (hx : Agree 2359296 s x) => ?_) ?_; clear_value x; rotate_left; subst x) | subst x) | lift_lets -underBinder | with_reducible exact Agree.refl _ _ | with_reducible assumption | with_reducible apply @agree_copyTimeout 2359296 _ (by decide) | with_reducible apply @agree_onCtl 2359296 _ (by decide) | with_reducible refine Agree.of_snd (by assumption) ?_ | with_reducible refine Agree.of_fst (by assumption) ?_ | split | dsimp only | (intro t ht; with_reducible assumption) | intro)

theorem agree_execBackoffEnd (p : Fin 64) (sq : BitVec 16) (s : State) : ∃ t, execBackoffEnd p sq s = .next t ∧ Agree 2097152 s t := by
  unfold execBackoffEnd
  refine ⟨_, rfl, ?_⟩
  repeat' (first | (intro x; first | (refine (fun (hx : Agree 2097152 s x) => ?_) ?_; clear_value x; rotate_left; subst x) | subst x) | lift_lets -underBinder | with_reducible exact Agree.refl _ _ | with_reducible assumption | with_reducible apply @agree_backoffEnd 2097152 _ (by decide) | with_reducible apply @agree_onCtl 2097152 _ (by decide) | with_reducible refine Agree.of_snd (by assumption) ?_ | with_reducible refine Agree.of_fst (by assumption) ?_ | split | dsimp only | (intro t ht; with_reducible assumption) | intro)

theorem agree_execMaterialise (s : State) : ∃ t, execMaterialise s = .next t ∧ Agree 1048576 s t := by
  unfold execMaterialise
  refine ⟨_, rfl, ?_⟩
  repeat' (first | (intro x; first | (refine (fun (hx : Agree 1048576 s x) => ?_) ?_; clear_value x; rotate_left; subst x) | subst x) | lift_lets -underBinder | with_reducible exact Agree.refl _ _ | with_reducible assumption | with_reducible apply @agree_materialise 1048576 _ (by decide) | with_reducible apply @agree_onCtl 1048576 _ (by decide) | with_reducible refine Agree.of_snd (by assumption) ?_ | with_reducible refine Agree.of_fst (by assumption) ?_ | split | dsimp only | (intro t ht; with_reducible assumption) | intro)

theorem agree_execDrainPullReady (s : State) : ∃ t, execDrainPullReady s = .next t ∧ Agree 1050880 s t := by
  unfold execDrainPullReady
  refine ⟨_, rfl, ?_⟩
  repeat' (first | (intro x; first | (refine (fun (hx : Agree 1050880 s x) => ?_) ?_; clear_value x; rotate_left; subst x) | subst x) | lift_lets -underBinder | with_reducible exact Agree.refl _ _ | with_reducible assumption | with_reducible apply @agree_drainPull 1050880 _ (by decide) | with_reducible apply @agree_onCtl 1050880 _ (by decide) | with_reducible refine Agree.of_snd (by assumption) ?_ | with_reducible refine Agree.of_fst (by assumption) ?_ | split | dsimp only | (intro t ht; with_reducible assumption) | intro)

theorem agree_execVerify (s : State) : ∃ t, execVerify s = .next t ∧ Agree 1054977 s t := by
  unfold execVerify
  refine ⟨_, rfl, ?_⟩
  repeat' (first | (intro x; first | (refine (fun (hx : Agree 1054977 s x) => ?_) ?_; clear_value x; rotate_left; subst x) | subst x) | lift_lets -underBinder | with_reducible exact Agree.refl _ _ | with_reducible assumption | with_reducible apply @agree_cmdVerify 1054977 _ (by decide) | with_reducible apply @agree_topCode 1054977 _ (by decide) | with_reducible refine Agree.of_snd (by assumption) ?_ | with_reducible refine Agree.of_fst (by assumption) ?_ | split | dsimp only | (intro t ht; with_reducible assumption) | intro)

theorem agree_execDrain (s : State) : ∃ t, execDrain s = .next t ∧ Agree 1054976 s t := by
  unfold execDrain
  refine ⟨_, rfl, ?_⟩
  repeat' (first | (intro x; first | (refine (fun (hx : Agree 1054976 s x) => ?_) ?_; clear_value x; rotate_left; subst x) | subst x) | lift_lets -underBinder | with_reducible exact Agree.refl _ _ | with_reducible assumption | with_reducible apply @agree_cmdDrain 1054976 _ (by decide) | with_reducible apply @agree_topCode 1054976 _ (by decide) | with_reducible refine Agree.of_snd (by assumption) ?_ | with_reducible refine Agree.of_fst (by assumption) ?_ | split | dsimp only | (intro t ht; with_reducible assumption) | intro)

theorem agree_execRebuild (s : State) : ∃ t, execRebuild s = .next t ∧ Agree 3217665 s t := by
  unfold execRebuild
  refine ⟨_, rfl, ?_⟩
  repeat' (first | (intro x; first | (refine (fun (hx : Agree 3217665 s x) => ?_) ?_; clear_value x; rotate_left; subst x) | subst x) | lift_lets -underBinder | with_reducible exact Agree.refl _ _ | with_reducible assumption | with_reducible apply @agree_cmdRebuild 3217665 _ (by decide) | with_reducible apply @agree_topCode 3217665 _ (by decide) | with_reducible refine Agree.of_snd (by assumption) ?_ | with_reducible refine Agree.of_fst (by assumption) ?_ | split | dsimp only | (intro t ht; with_reducible assumption) | intro)

theorem agree_execVaultExport (s : State) : ∃ t, execVaultExport s = .next t ∧ Agree 1054977 s t := by
  unfold execVaultExport
  refine ⟨_, rfl, ?_⟩
  repeat' (first | (intro x; first | (refine (fun (hx : Agree 1054977 s x) => ?_) ?_; clear_value x; rotate_left; subst x) | subst x) | lift_lets -underBinder | with_reducible exact Agree.refl _ _ | with_reducible assumption | with_reducible apply @agree_cmdVaultExport 1054977 _ (by decide) | with_reducible apply @agree_topCode 1054977 _ (by decide) | with_reducible refine Agree.of_snd (by assumption) ?_ | with_reducible refine Agree.of_fst (by assumption) ?_ | split | dsimp only | (intro t ht; with_reducible assumption) | intro)

theorem agree_execKeyErase (s : State) : ∃ t, execKeyErase s = .next t ∧ Agree 36968705 s t := by
  unfold execKeyErase
  refine ⟨_, rfl, ?_⟩
  repeat' (first | (intro x; first | (refine (fun (hx : Agree 36968705 s x) => ?_) ?_; clear_value x; rotate_left; subst x) | subst x) | lift_lets -underBinder | with_reducible exact Agree.refl _ _ | with_reducible assumption | with_reducible apply @agree_cmdKeyErase 36968705 _ (by decide) | with_reducible apply @agree_topCode 36968705 _ (by decide) | with_reducible refine Agree.of_snd (by assumption) ?_ | with_reducible refine Agree.of_fst (by assumption) ?_ | split | dsimp only | (intro t ht; with_reducible assumption) | intro)

theorem agree_execFormat (s : State) : ∃ t, execFormat s = .next t ∧ Agree 3152129 s t := by
  unfold execFormat
  refine ⟨_, rfl, ?_⟩
  repeat' (first | (intro x; first | (refine (fun (hx : Agree 3152129 s x) => ?_) ?_; clear_value x; rotate_left; subst x) | subst x) | lift_lets -underBinder | with_reducible exact Agree.refl _ _ | with_reducible assumption | with_reducible apply @agree_cmdFormat 3152129 _ (by decide) | with_reducible apply @agree_topCode 3152129 _ (by decide) | with_reducible refine Agree.of_snd (by assumption) ?_ | with_reducible refine Agree.of_fst (by assumption) ?_ | split | dsimp only | (intro t ht; with_reducible assumption) | intro)

theorem agree_execRestoreStart (s : State) : ∃ t, execRestoreStart s = .next t ∧ Agree 8650752 s t := by
  unfold execRestoreStart
  refine ⟨_, rfl, ?_⟩
  repeat' (first | (intro x; first | (refine (fun (hx : Agree 8650752 s x) => ?_) ?_; clear_value x; rotate_left; subst x) | subst x) | lift_lets -underBinder | with_reducible exact Agree.refl _ _ | with_reducible assumption | with_reducible apply @agree_onCtl 8650752 _ (by decide) | with_reducible apply @agree_restoreStart 8650752 _ (by decide) | with_reducible refine Agree.of_snd (by assumption) ?_ | with_reducible refine Agree.of_fst (by assumption) ?_ | split | dsimp only | (intro t ht; with_reducible assumption) | intro)

theorem agree_execRetWaitExpiry (s : State) : ∃ t, execRetWaitExpiry s = .next t ∧ Agree 8388864 s t := by
  unfold execRetWaitExpiry
  refine ⟨_, rfl, ?_⟩
  repeat' (first | (intro x; first | (refine (fun (hx : Agree 8388864 s x) => ?_) ?_; clear_value x; rotate_left; subst x) | subst x) | lift_lets -underBinder | with_reducible exact Agree.refl _ _ | with_reducible assumption | with_reducible apply @agree_onCtl 8388864 _ (by decide) | with_reducible apply @agree_retWaitExpiry 8388864 _ (by decide) | with_reducible refine Agree.of_snd (by assumption) ?_ | with_reducible refine Agree.of_fst (by assumption) ?_ | split | dsimp only | (intro t ht; with_reducible assumption) | intro)

theorem agree_execRetDiscard (p : Fin 64) (s : State) : ∃ t, execRetDiscard p s = .next t ∧ Agree 11800833 s t := by
  unfold execRetDiscard
  refine ⟨_, rfl, ?_⟩
  repeat' (first | (intro x; first | (refine (fun (hx : Agree 11800833 s x) => ?_) ?_; clear_value x; rotate_left; subst x) | subst x) | lift_lets -underBinder | with_reducible exact Agree.refl _ _ | with_reducible assumption | with_reducible apply @agree_retDiscard 11800833 _ (by decide) | with_reducible apply @agree_rpWrite 11800833 _ (by decide) | with_reducible refine Agree.of_snd (by assumption) ?_ | with_reducible refine Agree.of_fst (by assumption) ?_ | split | dsimp only | (intro t ht; with_reducible assumption) | intro)

theorem agree_execRetReassign (p : Fin 64) (src : Fin 64) (s : State) : ∃ t, execRetReassign p src s = .next t ∧ Agree 8392960 s t := by
  unfold execRetReassign
  refine ⟨_, rfl, ?_⟩
  repeat' (first | (intro x; first | (refine (fun (hx : Agree 8392960 s x) => ?_) ?_; clear_value x; rotate_left; subst x) | subst x) | lift_lets -underBinder | with_reducible exact Agree.refl _ _ | with_reducible assumption | with_reducible apply @agree_retReassign 8392960 _ (by decide) | with_reducible apply @agree_rpWrite 8392960 _ (by decide) | with_reducible refine Agree.of_snd (by assumption) ?_ | with_reducible refine Agree.of_fst (by assumption) ?_ | split | dsimp only | (intro t ht; with_reducible assumption) | intro)

theorem agree_execRetLeavePending (p : Fin 64) (s : State) : ∃ t, execRetLeavePending p s = .next t ∧ Agree 8392960 s t := by
  unfold execRetLeavePending
  refine ⟨_, rfl, ?_⟩
  repeat' (first | (intro x; first | (refine (fun (hx : Agree 8392960 s x) => ?_) ?_; clear_value x; rotate_left; subst x) | subst x) | lift_lets -underBinder | with_reducible exact Agree.refl _ _ | with_reducible assumption | with_reducible apply @agree_retLeave 8392960 _ (by decide) | with_reducible apply @agree_rpWrite 8392960 _ (by decide) | with_reducible refine Agree.of_snd (by assumption) ?_ | with_reducible refine Agree.of_fst (by assumption) ?_ | split | dsimp only | (intro t ht; with_reducible assumption) | intro)

theorem agree_execRetAcceptLoss (p : Fin 64) (s : State) : ∃ t, execRetAcceptLoss p s = .next t ∧ Agree 8655104 s t := by
  unfold execRetAcceptLoss
  refine ⟨_, rfl, ?_⟩
  repeat' (first | (intro x; first | (refine (fun (hx : Agree 8655104 s x) => ?_) ?_; clear_value x; rotate_left; subst x) | subst x) | lift_lets -underBinder | with_reducible exact Agree.refl _ _ | with_reducible assumption | with_reducible apply @agree_retAcceptLoss 8655104 _ (by decide) | with_reducible apply @agree_rpWrite 8655104 _ (by decide) | with_reducible refine Agree.of_snd (by assumption) ?_ | with_reducible refine Agree.of_fst (by assumption) ?_ | split | dsimp only | (intro t ht; with_reducible assumption) | intro)

theorem agree_execRetDecideAgain (p : Fin 64) (s : State) : ∃ t, execRetDecideAgain p s = .next t ∧ Agree 8655104 s t := by
  unfold execRetDecideAgain
  refine ⟨_, rfl, ?_⟩
  repeat' (first | (intro x; first | (refine (fun (hx : Agree 8655104 s x) => ?_) ?_; clear_value x; rotate_left; subst x) | subst x) | lift_lets -underBinder | with_reducible exact Agree.refl _ _ | with_reducible assumption | with_reducible apply @agree_retAgain 8655104 _ (by decide) | with_reducible apply @agree_rpWrite 8655104 _ (by decide) | with_reducible refine Agree.of_snd (by assumption) ?_ | with_reducible refine Agree.of_fst (by assumption) ?_ | split | dsimp only | (intro t ht; with_reducible assumption) | intro)

theorem agree_execRetConcWrite (w : Word) (s : State) : ∃ t, execRetConcWrite w s = .next t ∧ Agree 4864 s t := by
  unfold execRetConcWrite
  refine ⟨_, rfl, ?_⟩
  repeat' (first | (intro x; first | (refine (fun (hx : Agree 4864 s x) => ?_) ?_; clear_value x; rotate_left; subst x) | subst x) | lift_lets -underBinder | with_reducible exact Agree.refl _ _ | with_reducible assumption | with_reducible apply @agree_retConc 4864 _ (by decide) | with_reducible apply @agree_rpWrite 4864 _ (by decide) | with_reducible refine Agree.of_snd (by assumption) ?_ | with_reducible refine Agree.of_fst (by assumption) ?_ | split | dsimp only | (intro t ht; with_reducible assumption) | intro)

theorem agree_execTableStaggerExpiry (s : State) : ∃ t, execTableStaggerExpiry s = .next t ∧ Agree 16777216 s t := by
  unfold execTableStaggerExpiry
  refine ⟨_, rfl, ?_⟩
  repeat' (first | (intro x; first | (refine (fun (hx : Agree 16777216 s x) => ?_) ?_; clear_value x; rotate_left; subst x) | subst x) | lift_lets -underBinder | with_reducible exact Agree.refl _ _ | with_reducible assumption | with_reducible apply @agree_onCtl 16777216 _ (by decide) | with_reducible apply @agree_staggerExpiry 16777216 _ (by decide) | with_reducible refine Agree.of_snd (by assumption) ?_ | with_reducible refine Agree.of_fst (by assumption) ?_ | split | dsimp only | (intro t ht; with_reducible assumption) | intro)

theorem agree_execSampleStrobe (volts : List (Int × Int × Int)) (s : State) : ∃ t, execSampleStrobe volts s = .next t ∧ Agree 155909 s t := by
  unfold execSampleStrobe
  refine ⟨_, rfl, ?_⟩
  repeat' (first | (intro x; first | (refine (fun (hx : Agree 155909 s x) => ?_) ?_; clear_value x; rotate_left; subst x) | subst x) | lift_lets -underBinder | with_reducible exact Agree.refl _ _ | with_reducible assumption | with_reducible apply @agree_onCtl 155909 _ (by decide) | with_reducible apply @agree_sampleStrobe 155909 _ (by decide) | with_reducible refine Agree.of_snd (by assumption) ?_ | with_reducible refine Agree.of_fst (by assumption) ?_ | split | dsimp only | (intro t ht; with_reducible assumption) | intro)

theorem agree_execCurrentWake (k : Fin 16) (s : State) : ∃ t, execCurrentWake k s = .next t ∧ Agree 131076 s t := by
  unfold execCurrentWake
  refine ⟨_, rfl, ?_⟩
  repeat' (first | (intro x; first | (refine (fun (hx : Agree 131076 s x) => ?_) ?_; clear_value x; rotate_left; subst x) | subst x) | lift_lets -underBinder | with_reducible exact Agree.refl _ _ | with_reducible assumption | with_reducible apply @agree_currentWake 131076 _ (by decide) | with_reducible apply @agree_onCtl 131076 _ (by decide) | with_reducible refine Agree.of_snd (by assumption) ?_ | with_reducible refine Agree.of_fst (by assumption) ?_ | split | dsimp only | (intro t ht; with_reducible assumption) | intro)

theorem agree_execQuietRateEntry (k : Fin 16) (s : State) : ∃ t, execQuietRateEntry k s = .next t ∧ Agree 131076 s t := by
  unfold execQuietRateEntry
  refine ⟨_, rfl, ?_⟩
  repeat' (first | (intro x; first | (refine (fun (hx : Agree 131076 s x) => ?_) ?_; clear_value x; rotate_left; subst x) | subst x) | lift_lets -underBinder | with_reducible exact Agree.refl _ _ | with_reducible assumption | with_reducible apply @agree_onCtl 131076 _ (by decide) | with_reducible apply @agree_quietEntry 131076 _ (by decide) | with_reducible refine Agree.of_snd (by assumption) ?_ | with_reducible refine Agree.of_fst (by assumption) ?_ | split | dsimp only | (intro t ht; with_reducible assumption) | intro)

theorem agree_execInsertion (k : Fin 16) (s : State) : ∃ t, execInsertion k s = .next t ∧ Agree 24836 s t := by
  unfold execInsertion
  refine ⟨_, rfl, ?_⟩
  repeat' (first | (intro x; first | (refine (fun (hx : Agree 24836 s x) => ?_) ?_; clear_value x; rotate_left; subst x) | subst x) | lift_lets -underBinder | with_reducible exact Agree.refl _ _ | with_reducible assumption | with_reducible apply @agree_insertion 24836 _ (by decide) | with_reducible apply @agree_onCtl 24836 _ (by decide) | with_reducible refine Agree.of_snd (by assumption) ?_ | with_reducible refine Agree.of_fst (by assumption) ?_ | split | dsimp only | (intro t ht; with_reducible assumption) | intro)

theorem agree_execRemoval (k : Fin 16) (s : State) : ∃ t, execRemoval k s = .next t ∧ Agree 147716 s t := by
  unfold execRemoval
  refine ⟨_, rfl, ?_⟩
  repeat' (first | (intro x; first | (refine (fun (hx : Agree 147716 s x) => ?_) ?_; clear_value x; rotate_left; subst x) | subst x) | lift_lets -underBinder | with_reducible exact Agree.refl _ _ | with_reducible assumption | with_reducible apply @agree_onCtl 147716 _ (by decide) | with_reducible apply @agree_removal 147716 _ (by decide) | with_reducible refine Agree.of_snd (by assumption) ?_ | with_reducible refine Agree.of_fst (by assumption) ?_ | split | dsimp only | (intro t ht; with_reducible assumption) | intro)

theorem agree_execSenseFault (k : Fin 16) (s : State) : ∃ t, execSenseFault k s = .next t ∧ Agree 155908 s t := by
  unfold execSenseFault
  refine ⟨_, rfl, ?_⟩
  repeat' (first | (intro x; first | (refine (fun (hx : Agree 155908 s x) => ?_) ?_; clear_value x; rotate_left; subst x) | subst x) | lift_lets -underBinder | with_reducible exact Agree.refl _ _ | with_reducible assumption | with_reducible apply @agree_onCtl 155908 _ (by decide) | with_reducible apply @agree_senseFault 155908 _ (by decide) | with_reducible refine Agree.of_snd (by assumption) ?_ | with_reducible refine Agree.of_fst (by assumption) ?_ | split | dsimp only | (intro t ht; with_reducible assumption) | intro)

theorem agree_execFullAnchor (k : Fin 16) (s : State) : ∃ t, execFullAnchor k s = .next t ∧ Agree 147716 s t := by
  unfold execFullAnchor
  refine ⟨_, rfl, ?_⟩
  repeat' (first | (intro x; first | (refine (fun (hx : Agree 147716 s x) => ?_) ?_; clear_value x; rotate_left; subst x) | subst x) | lift_lets -underBinder | with_reducible exact Agree.refl _ _ | with_reducible assumption | with_reducible apply @agree_fullAnchor 147716 _ (by decide) | with_reducible apply @agree_onCtl 147716 _ (by decide) | with_reducible refine Agree.of_snd (by assumption) ?_ | with_reducible refine Agree.of_fst (by assumption) ?_ | split | dsimp only | (intro t ht; with_reducible assumption) | intro)

theorem agree_execEmptyAnchor (k : Fin 16) (s : State) : ∃ t, execEmptyAnchor k s = .next t ∧ Agree 155908 s t := by
  unfold execEmptyAnchor
  refine ⟨_, rfl, ?_⟩
  repeat' (first | (intro x; first | (refine (fun (hx : Agree 155908 s x) => ?_) ?_; clear_value x; rotate_left; subst x) | subst x) | lift_lets -underBinder | with_reducible exact Agree.refl _ _ | with_reducible assumption | with_reducible apply @agree_emptyAnchor 155908 _ (by decide) | with_reducible apply @agree_onCtl 155908 _ (by decide) | with_reducible refine Agree.of_snd (by assumption) ?_ | with_reducible refine Agree.of_fst (by assumption) ?_ | split | dsimp only | (intro t ht; with_reducible assumption) | intro)

theorem agree_execCandAccept (k : Fin 16) (s : State) : ∃ t, execCandAccept k s = .next t ∧ Agree 135424 s t := by
  unfold execCandAccept
  refine ⟨_, rfl, ?_⟩
  repeat' (first | (intro x; first | (refine (fun (hx : Agree 135424 s x) => ?_) ?_; clear_value x; rotate_left; subst x) | subst x) | lift_lets -underBinder | with_reducible exact Agree.refl _ _ | with_reducible assumption | with_reducible apply @agree_candWrite 135424 _ (by decide) | with_reducible apply @agree_rpWrite 135424 _ (by decide) | with_reducible refine Agree.of_snd (by assumption) ?_ | with_reducible refine Agree.of_fst (by assumption) ?_ | split | dsimp only | (intro t ht; with_reducible assumption) | intro)

theorem agree_execCandReject (k : Fin 16) (s : State) : ∃ t, execCandReject k s = .next t ∧ Agree 135424 s t := by
  unfold execCandReject
  refine ⟨_, rfl, ?_⟩
  repeat' (first | (intro x; first | (refine (fun (hx : Agree 135424 s x) => ?_) ?_; clear_value x; rotate_left; subst x) | subst x) | lift_lets -underBinder | with_reducible exact Agree.refl _ _ | with_reducible assumption | with_reducible apply @agree_candWrite 135424 _ (by decide) | with_reducible apply @agree_rpWrite 135424 _ (by decide) | with_reducible refine Agree.of_snd (by assumption) ?_ | with_reducible refine Agree.of_fst (by assumption) ?_ | split | dsimp only | (intro t ht; with_reducible assumption) | intro)

theorem agree_execLearnStart (k : Fin 16) (s : State) : ∃ t, execLearnStart k s = .next t ∧ Agree 135428 s t := by
  unfold execLearnStart
  refine ⟨_, rfl, ?_⟩
  repeat' (first | (intro x; first | (refine (fun (hx : Agree 135428 s x) => ?_) ?_; clear_value x; rotate_left; subst x) | subst x) | lift_lets -underBinder | with_reducible exact Agree.refl _ _ | with_reducible assumption | with_reducible apply @agree_nrgLearn 135428 _ (by decide) | with_reducible apply @agree_rpWrite 135428 _ (by decide) | with_reducible refine Agree.of_snd (by assumption) ?_ | with_reducible refine Agree.of_fst (by assumption) ?_ | split | dsimp only | (intro t ht; with_reducible assumption) | intro)

theorem agree_execLearnAbort (k : Fin 16) (s : State) : ∃ t, execLearnAbort k s = .next t ∧ Agree 135428 s t := by
  unfold execLearnAbort
  refine ⟨_, rfl, ?_⟩
  repeat' (first | (intro x; first | (refine (fun (hx : Agree 135428 s x) => ?_) ?_; clear_value x; rotate_left; subst x) | subst x) | lift_lets -underBinder | with_reducible exact Agree.refl _ _ | with_reducible assumption | with_reducible apply @agree_nrgLearn 135428 _ (by decide) | with_reducible apply @agree_rpWrite 135428 _ (by decide) | with_reducible refine Agree.of_snd (by assumption) ?_ | with_reducible refine Agree.of_fst (by assumption) ?_ | split | dsimp only | (intro t ht; with_reducible assumption) | intro)

theorem agree_execLearnTimeout (s : State) : ∃ t, execLearnTimeout s = .next t ∧ Agree 131072 s t := by
  unfold execLearnTimeout
  refine ⟨_, rfl, ?_⟩
  repeat' (first | (intro x; first | (refine (fun (hx : Agree 131072 s x) => ?_) ?_; clear_value x; rotate_left; subst x) | subst x) | lift_lets -underBinder | with_reducible exact Agree.refl _ _ | with_reducible assumption | with_reducible apply @agree_learnTimeout 131072 _ (by decide) | with_reducible apply @agree_onCtl 131072 _ (by decide) | with_reducible refine Agree.of_snd (by assumption) ?_ | with_reducible refine Agree.of_fst (by assumption) ?_ | split | dsimp only | (intro t ht; with_reducible assumption) | intro)

theorem agree_execNrgLatch (w : Word) (s : State) : ∃ t, execNrgLatch w s = .next t ∧ Agree 4864 s t := by
  unfold execNrgLatch
  refine ⟨_, rfl, ?_⟩
  repeat' (first | (intro x; first | (refine (fun (hx : Agree 4864 s x) => ?_) ?_; clear_value x; rotate_left; subst x) | subst x) | lift_lets -underBinder | with_reducible exact Agree.refl _ _ | with_reducible assumption | with_reducible apply @agree_nrgCtrl 4864 _ (by decide) | with_reducible apply @agree_rpWrite 4864 _ (by decide) | with_reducible refine Agree.of_snd (by assumption) ?_ | with_reducible refine Agree.of_fst (by assumption) ?_ | split | dsimp only | (intro t ht; with_reducible assumption) | intro)

theorem agree_execEstimatorRestore (s : State) : ∃ t, execEstimatorRestore s = .next t ∧ Agree 153860 s t := by
  unfold execEstimatorRestore
  refine ⟨_, rfl, ?_⟩
  repeat' (first | (intro x; first | (refine (fun (hx : Agree 153860 s x) => ?_) ?_; clear_value x; rotate_left; subst x) | subst x) | lift_lets -underBinder | with_reducible exact Agree.refl _ _ | with_reducible assumption | with_reducible apply @agree_cmdRestore 153860 _ (by decide) | with_reducible apply @agree_topCode 153860 _ (by decide) | with_reducible refine Agree.of_snd (by assumption) ?_ | with_reducible refine Agree.of_fst (by assumption) ?_ | split | dsimp only | (intro t ht; with_reducible assumption) | intro)

theorem agree_execRailUpTick (pg : BitVec 64) (win : BitVec 64) (s : State) : ∃ t, execRailUpTick pg win s = .next t ∧ Agree 4284678 s t := by
  unfold execRailUpTick
  refine ⟨_, rfl, ?_⟩
  repeat' (first | (intro x; first | (refine (fun (hx : Agree 4284678 s x) => ?_) ?_; clear_value x; rotate_left; subst x) | subst x) | lift_lets -underBinder | with_reducible exact Agree.refl _ _ | with_reducible assumption | with_reducible apply @agree_busSample 4284678 _ (by decide) | with_reducible apply @agree_onCtl 4284678 _ (by decide) | with_reducible apply @agree_railUp 4284678 _ (by decide) | with_reducible refine Agree.of_snd (by assumption) ?_ | with_reducible refine Agree.of_fst (by assumption) ?_ | split | dsimp only | (intro t ht; with_reducible assumption) | intro)

theorem agree_execRailDownTick (s : State) : ∃ t, execRailDownTick s = .next t ∧ Agree 16083333 s t := by
  unfold execRailDownTick
  refine ⟨_, rfl, ?_⟩
  repeat' (first | (intro x; first | (refine (fun (hx : Agree 16083333 s x) => ?_) ?_; clear_value x; rotate_left; subst x) | subst x) | lift_lets -underBinder | with_reducible exact Agree.refl _ _ | with_reducible assumption | with_reducible apply @agree_onCtl 16083333 _ (by decide) | with_reducible apply @agree_railDownTick 16083333 _ (by decide) | with_reducible refine Agree.of_snd (by assumption) ?_ | with_reducible refine Agree.of_fst (by assumption) ?_ | split | dsimp only | (intro t ht; with_reducible assumption) | intro)

theorem agree_execSlotQualify (n : Fin 64) (s : State) : ∃ t, execSlotQualify n s = .next t ∧ Agree 65536 s t := by
  unfold execSlotQualify
  refine ⟨_, rfl, ?_⟩
  repeat' (first | (intro x; first | (refine (fun (hx : Agree 65536 s x) => ?_) ?_; clear_value x; rotate_left; subst x) | subst x) | lift_lets -underBinder | with_reducible exact Agree.refl _ _ | with_reducible assumption | with_reducible apply @agree_onCtl 65536 _ (by decide) | with_reducible apply @agree_qualify 65536 _ (by decide) | with_reducible refine Agree.of_snd (by assumption) ?_ | with_reducible refine Agree.of_fst (by assumption) ?_ | split | dsimp only | (intro t ht; with_reducible assumption) | intro)

theorem agree_execChatterEdge (n : Fin 64) (s : State) : ∃ t, execChatterEdge n s = .next t ∧ Agree 82176 s t := by
  unfold execChatterEdge
  refine ⟨_, rfl, ?_⟩
  repeat' (first | (intro x; first | (refine (fun (hx : Agree 82176 s x) => ?_) ?_; clear_value x; rotate_left; subst x) | subst x) | lift_lets -underBinder | with_reducible exact Agree.refl _ _ | with_reducible assumption | with_reducible apply @agree_chatterEdge 82176 _ (by decide) | with_reducible apply @agree_onCtl 82176 _ (by decide) | with_reducible refine Agree.of_snd (by assumption) ?_ | with_reducible refine Agree.of_fst (by assumption) ?_ | split | dsimp only | (intro t ht; with_reducible assumption) | intro)

theorem agree_execSlotTimeout (n : Fin 64) (s : State) : ∃ t, execSlotTimeout n s = .next t ∧ Agree 11886848 s t := by
  unfold execSlotTimeout
  refine ⟨_, rfl, ?_⟩
  repeat' (first | (intro x; first | (refine (fun (hx : Agree 11886848 s x) => ?_) ?_; clear_value x; rotate_left; subst x) | subst x) | lift_lets -underBinder | with_reducible exact Agree.refl _ _ | with_reducible assumption | with_reducible apply @agree_onCtl 11886848 _ (by decide) | with_reducible apply @agree_slotTimeoutIsl 11886848 _ (by decide) | with_reducible refine Agree.of_snd (by assumption) ?_ | with_reducible refine Agree.of_fst (by assumption) ?_ | split | dsimp only | (intro t ht; with_reducible assumption) | intro)

theorem agree_execRestExpiry (x : Option (Fin 4)) (s : State) : ∃ t, execRestExpiry x s = .next t ∧ Agree 90368 s t := by
  unfold execRestExpiry
  refine ⟨_, rfl, ?_⟩
  repeat' (first | (intro x; first | (refine (fun (hx : Agree 90368 s x) => ?_) ?_; clear_value x; rotate_left; subst x) | subst x) | lift_lets -underBinder | with_reducible exact Agree.refl _ _ | with_reducible assumption | with_reducible apply @agree_onCtl 90368 _ (by decide) | with_reducible apply @agree_restExpiry 90368 _ (by decide) | with_reducible refine Agree.of_snd (by assumption) ?_ | with_reducible refine Agree.of_fst (by assumption) ?_ | split | dsimp only | (intro t ht; with_reducible assumption) | intro)

theorem agree_execVsScan (codes : List (BitVec 12)) (s : State) : ∃ t, execVsScan codes s = .next t ∧ Agree 73728 s t := by
  unfold execVsScan
  refine ⟨_, rfl, ?_⟩
  repeat' (first | (intro x; first | (refine (fun (hx : Agree 73728 s x) => ?_) ?_; clear_value x; rotate_left; subst x) | subst x) | lift_lets -underBinder | with_reducible exact Agree.refl _ _ | with_reducible assumption | with_reducible apply @agree_onCtl 73728 _ (by decide) | with_reducible apply @agree_vsScan 73728 _ (by decide) | with_reducible refine Agree.of_snd (by assumption) ?_ | with_reducible refine Agree.of_fst (by assumption) ?_ | split | dsimp only | (intro t ht; with_reducible assumption) | intro)

theorem agree_execSlotStuck (n : Fin 64) (s : State) : ∃ t, execSlotStuck n s = .next t ∧ Agree 90368 s t := by
  unfold execSlotStuck
  refine ⟨_, rfl, ?_⟩
  repeat' (first | (intro x; first | (refine (fun (hx : Agree 90368 s x) => ?_) ?_; clear_value x; rotate_left; subst x) | subst x) | lift_lets -underBinder | with_reducible exact Agree.refl _ _ | with_reducible assumption | with_reducible apply @agree_onCtl 90368 _ (by decide) | with_reducible apply @agree_slotStuck 90368 _ (by decide) | with_reducible refine Agree.of_snd (by assumption) ?_ | with_reducible refine Agree.of_fst (by assumption) ?_ | split | dsimp only | (intro t ht; with_reducible assumption) | intro)

theorem agree_execRailFault (n : Fin 64) (s : State) : ∃ t, execRailFault n s = .next t ∧ Agree 16083201 s t := by
  unfold execRailFault
  refine ⟨_, rfl, ?_⟩
  repeat' (first | (intro x; first | (refine (fun (hx : Agree 16083201 s x) => ?_) ?_; clear_value x; rotate_left; subst x) | subst x) | lift_lets -underBinder | with_reducible exact Agree.refl _ _ | with_reducible assumption | with_reducible apply @agree_onCtl 16083201 _ (by decide) | with_reducible apply @agree_railFaultSled 16083201 _ (by decide) | with_reducible refine Agree.of_snd (by assumption) ?_ | with_reducible refine Agree.of_fst (by assumption) ?_ | split | dsimp only | (intro t ht; with_reducible assumption) | intro)

theorem agree_execRailWarn (n : Fin 64) (s : State) : ∃ t, execRailWarn n s = .next t ∧ Agree 73984 s t := by
  unfold execRailWarn
  refine ⟨_, rfl, ?_⟩
  repeat' (first | (intro x; first | (refine (fun (hx : Agree 73984 s x) => ?_) ?_; clear_value x; rotate_left; subst x) | subst x) | lift_lets -underBinder | with_reducible exact Agree.refl _ _ | with_reducible assumption | with_reducible apply @agree_onCtl 73984 _ (by decide) | with_reducible apply @agree_railWarn 73984 _ (by decide) | with_reducible refine Agree.of_snd (by assumption) ?_ | with_reducible refine Agree.of_fst (by assumption) ?_ | split | dsimp only | (intro t ht; with_reducible assumption) | intro)

theorem agree_execSeqfltLow (s : State) : ∃ t, execSeqfltLow s = .next t ∧ Agree 82306 s t := by
  unfold execSeqfltLow
  refine ⟨_, rfl, ?_⟩
  repeat' (first | (intro x; first | (refine (fun (hx : Agree 82306 s x) => ?_) ?_; clear_value x; rotate_left; subst x) | subst x) | lift_lets -underBinder | with_reducible exact Agree.refl _ _ | with_reducible assumption | with_reducible apply @agree_seqfltLow 82306 _ (by decide) | with_reducible refine Agree.of_snd (by assumption) ?_ | with_reducible refine Agree.of_fst (by assumption) ?_ | split | dsimp only | (intro t ht; with_reducible assumption) | intro)

theorem agree_execSeqSnapRequest (w : Word) (s : State) : ∃ t, execSeqSnapRequest w s = .next t ∧ Agree 94976 s t := by
  unfold execSeqSnapRequest
  refine ⟨_, rfl, ?_⟩
  repeat' (first | (intro x; first | (refine (fun (hx : Agree 94976 s x) => ?_) ?_; clear_value x; rotate_left; subst x) | subst x) | lift_lets -underBinder | with_reducible exact Agree.refl _ _ | with_reducible assumption | with_reducible apply @agree_seqCtrl 94976 _ (by decide) | with_reducible apply @agree_rpWrite 94976 _ (by decide) | with_reducible refine Agree.of_snd (by assumption) ?_ | with_reducible refine Agree.of_fst (by assumption) ?_ | split | dsimp only | (intro t ht; with_reducible assumption) | intro)

theorem agree_execSvcRetry (w : Word) (s : State) : ∃ t, execSvcRetry w s = .next t ∧ Agree 94976 s t := by
  unfold execSvcRetry
  refine ⟨_, rfl, ?_⟩
  repeat' (first | (intro x; first | (refine (fun (hx : Agree 94976 s x) => ?_) ?_; clear_value x; rotate_left; subst x) | subst x) | lift_lets -underBinder | with_reducible exact Agree.refl _ _ | with_reducible assumption | with_reducible apply @agree_seqCtrl 94976 _ (by decide) | with_reducible apply @agree_rpWrite 94976 _ (by decide) | with_reducible refine Agree.of_snd (by assumption) ?_ | with_reducible refine Agree.of_fst (by assumption) ?_ | split | dsimp only | (intro t ht; with_reducible assumption) | intro)

theorem agree_execMarginWrite (n : Fin 64) (dir : BitVec 2) (target : BitVec 16) (s : State) : ∃ t, execMarginWrite n dir target s = .next t ∧ Agree 78081 s t := by
  unfold execMarginWrite
  refine ⟨_, rfl, ?_⟩
  repeat' (first | (intro x; first | (refine (fun (hx : Agree 78081 s x) => ?_) ?_; clear_value x; rotate_left; subst x) | subst x) | lift_lets -underBinder | with_reducible exact Agree.refl _ _ | with_reducible assumption | with_reducible apply @agree_marginWrite 78081 _ (by decide) | with_reducible apply @agree_rpWrite 78081 _ (by decide) | with_reducible refine Agree.of_snd (by assumption) ?_ | with_reducible refine Agree.of_fst (by assumption) ?_ | split | dsimp only | (intro t ht; with_reducible assumption) | intro)

theorem agree_execMarginAck (n : Fin 64) (ok : Bool) (s : State) : ∃ t, execMarginAck n ok s = .next t ∧ Agree 77824 s t := by
  unfold execMarginAck
  refine ⟨_, rfl, ?_⟩
  repeat' (first | (intro x; first | (refine (fun (hx : Agree 77824 s x) => ?_) ?_; clear_value x; rotate_left; subst x) | subst x) | lift_lets -underBinder | with_reducible exact Agree.refl _ _ | with_reducible assumption | with_reducible apply @agree_marginAck 77824 _ (by decide) | with_reducible apply @agree_onCtl 77824 _ (by decide) | with_reducible refine Agree.of_snd (by assumption) ?_ | with_reducible refine Agree.of_fst (by assumption) ?_ | split | dsimp only | (intro t ht; with_reducible assumption) | intro)

theorem agree_execWarnMaskEnd (n : Fin 64) (s : State) : ∃ t, execWarnMaskEnd n s = .next t ∧ Agree 65536 s t := by
  unfold execWarnMaskEnd
  refine ⟨_, rfl, ?_⟩
  repeat' (first | (intro x; first | (refine (fun (hx : Agree 65536 s x) => ?_) ?_; clear_value x; rotate_left; subst x) | subst x) | lift_lets -underBinder | with_reducible exact Agree.refl _ _ | with_reducible assumption | with_reducible apply @agree_maskEnd 65536 _ (by decide) | with_reducible apply @agree_onCtl 65536 _ (by decide) | with_reducible refine Agree.of_snd (by assumption) ?_ | with_reducible refine Agree.of_fst (by assumption) ?_ | split | dsimp only | (intro t ht; with_reducible assumption) | intro)

theorem agree_execPbPress (len : BitVec 8) (s : State) : ∃ t, execPbPress len s = .next t ∧ Agree 67108743 s t := by
  unfold execPbPress
  refine ⟨_, rfl, ?_⟩
  repeat' (first | (intro x; first | (refine (fun (hx : Agree 67108743 s x) => ?_) ?_; clear_value x; rotate_left; subst x) | subst x) | lift_lets -underBinder | with_reducible exact Agree.refl _ _ | with_reducible assumption | with_reducible apply @agree_pbPress 67108743 _ (by decide) | with_reducible refine Agree.of_snd (by assumption) ?_ | with_reducible refine Agree.of_fst (by assumption) ?_ | split | dsimp only | (intro t ht; with_reducible assumption) | intro)

theorem agree_execPbHold3s (s : State) : ∃ t, execPbHold3s s = .next t ∧ Agree 82306 s t := by
  unfold execPbHold3s
  refine ⟨_, rfl, ?_⟩
  repeat' (first | (intro x; first | (refine (fun (hx : Agree 82306 s x) => ?_) ?_; clear_value x; rotate_left; subst x) | subst x) | lift_lets -underBinder | with_reducible exact Agree.refl _ _ | with_reducible assumption | with_reducible apply @agree_pbHold3 82306 _ (by decide) | with_reducible refine Agree.of_snd (by assumption) ?_ | with_reducible refine Agree.of_fst (by assumption) ?_ | split | dsimp only | (intro t ht; with_reducible assumption) | intro)

theorem agree_execPbHoldForce (len : BitVec 8) (s : State) : ∃ t, execPbHoldForce len s = .next t ∧ Agree 82310 s t := by
  unfold execPbHoldForce
  refine ⟨_, rfl, ?_⟩
  repeat' (first | (intro x; first | (refine (fun (hx : Agree 82310 s x) => ?_) ?_; clear_value x; rotate_left; subst x) | subst x) | lift_lets -underBinder | with_reducible exact Agree.refl _ _ | with_reducible assumption | with_reducible apply @agree_pbForce 82310 _ (by decide) | with_reducible refine Agree.of_snd (by assumption) ?_ | with_reducible refine Agree.of_fst (by assumption) ?_ | split | dsimp only | (intro t ht; with_reducible assumption) | intro)

theorem agree_execMrN (s : State) : ∃ t, execMrN s = .next t ∧ Agree 67108743 s t := by
  unfold execMrN
  refine ⟨_, rfl, ?_⟩
  repeat' (first | (intro x; first | (refine (fun (hx : Agree 67108743 s x) => ?_) ?_; clear_value x; rotate_left; subst x) | subst x) | lift_lets -underBinder | with_reducible exact Agree.refl _ _ | with_reducible assumption | with_reducible apply @agree_mrN 67108743 _ (by decide) | with_reducible refine Agree.of_snd (by assumption) ?_ | with_reducible refine Agree.of_fst (by assumption) ?_ | split | dsimp only | (intro t ht; with_reducible assumption) | intro)

theorem agree_execRefclkStop (s : State) : ∃ t, execRefclkStop s = .next t ∧ Agree 8194 s t := by
  unfold execRefclkStop
  refine ⟨_, rfl, ?_⟩
  repeat' (first | (intro x; first | (refine (fun (hx : Agree 8194 s x) => ?_) ?_; clear_value x; rotate_left; subst x) | subst x) | lift_lets -underBinder | with_reducible exact Agree.refl _ _ | with_reducible assumption | with_reducible apply @agree_refclkStop 8194 _ (by decide) | with_reducible refine Agree.of_snd (by assumption) ?_ | with_reducible refine Agree.of_fst (by assumption) ?_ | split | dsimp only | (intro t ht; with_reducible assumption) | intro)

theorem agree_execRefclkAbsent10us (s : State) : ∃ t, execRefclkAbsent10us s = .next t ∧ Agree 2 s t := by
  unfold execRefclkAbsent10us
  refine ⟨_, rfl, ?_⟩
  repeat' (first | (intro x; first | (refine (fun (hx : Agree 2 s x) => ?_) ?_; clear_value x; rotate_left; subst x) | subst x) | lift_lets -underBinder | with_reducible exact Agree.refl _ _ | with_reducible assumption | with_reducible apply @agree_refclkAbsent 2 _ (by decide) | with_reducible refine Agree.of_snd (by assumption) ?_ | with_reducible refine Agree.of_fst (by assumption) ?_ | split | dsimp only | (intro t ht; with_reducible assumption) | intro)

theorem agree_execPllUnlock (pll : Fin 5) (s : State) : ∃ t, execPllUnlock pll s = .next t ∧ Agree 8194 s t := by
  unfold execPllUnlock
  refine ⟨_, rfl, ?_⟩
  repeat' (first | (intro x; first | (refine (fun (hx : Agree 8194 s x) => ?_) ?_; clear_value x; rotate_left; subst x) | subst x) | lift_lets -underBinder | with_reducible exact Agree.refl _ _ | with_reducible assumption | with_reducible apply @agree_pllUnlock 8194 _ (by decide) | with_reducible refine Agree.of_snd (by assumption) ?_ | with_reducible refine Agree.of_fst (by assumption) ?_ | split | dsimp only | (intro t ht; with_reducible assumption) | intro)

theorem agree_execCrystalLoss (s : State) : ∃ t, execCrystalLoss s = .next t ∧ Agree 6 s t := by
  unfold execCrystalLoss
  refine ⟨_, rfl, ?_⟩
  repeat' (first | (intro x; first | (refine (fun (hx : Agree 6 s x) => ?_) ?_; clear_value x; rotate_left; subst x) | subst x) | lift_lets -underBinder | with_reducible exact Agree.refl _ _ | with_reducible assumption | with_reducible apply @agree_crystal 6 _ (by decide) | with_reducible refine Agree.of_snd (by assumption) ?_ | with_reducible refine Agree.of_fst (by assumption) ?_ | split | dsimp only | (intro t ht; with_reducible assumption) | intro)

theorem agree_execRailNotGood (k : Fin 6) (s : State) : ∃ t, execRailNotGood k s = .next t ∧ Agree 67108743 s t := by
  unfold execRailNotGood
  refine ⟨_, rfl, ?_⟩
  repeat' (first | (intro x; first | (refine (fun (hx : Agree 67108743 s x) => ?_) ?_; clear_value x; rotate_left; subst x) | subst x) | lift_lets -underBinder | with_reducible exact Agree.refl _ _ | with_reducible assumption | with_reducible apply @agree_railNotGood 67108743 _ (by decide) | with_reducible refine Agree.of_snd (by assumption) ?_ | with_reducible refine Agree.of_fst (by assumption) ?_ | split | dsimp only | (intro t ht; with_reducible assumption) | intro)

theorem agree_execKeeperHbStop (s : State) : ∃ t, execKeeperHbStop s = .next t ∧ Agree 33554432 s t := by
  unfold execKeeperHbStop
  refine ⟨_, rfl, ?_⟩
  repeat' (first | (intro x; first | (refine (fun (hx : Agree 33554432 s x) => ?_) ?_; clear_value x; rotate_left; subst x) | subst x) | lift_lets -underBinder | with_reducible exact Agree.refl _ _ | with_reducible assumption | with_reducible apply @agree_keeperHb 33554432 _ (by decide) | with_reducible refine Agree.of_snd (by assumption) ?_ | with_reducible refine Agree.of_fst (by assumption) ?_ | split | dsimp only | (intro t ht; with_reducible assumption) | intro)

theorem agree_execKeeperTokenRelease (s : State) : ∃ t, execKeeperTokenRelease s = .next t ∧ Agree 33554436 s t := by
  unfold execKeeperTokenRelease
  refine ⟨_, rfl, ?_⟩
  repeat' (first | (intro x; first | (refine (fun (hx : Agree 33554436 s x) => ?_) ?_; clear_value x; rotate_left; subst x) | subst x) | lift_lets -underBinder | with_reducible exact Agree.refl _ _ | with_reducible assumption | with_reducible apply @agree_releaseToken 33554436 _ (by decide) | with_reducible refine Agree.of_snd (by assumption) ?_ | with_reducible refine Agree.of_fst (by assumption) ?_ | split | dsimp only | (intro t ht; with_reducible assumption) | intro)

theorem agree_execPartnerLoss (s : State) : ∃ t, execPartnerLoss s = .next t ∧ Agree 34613505 s t := by
  unfold execPartnerLoss
  refine ⟨_, rfl, ?_⟩
  repeat' (first | (intro x; first | (refine (fun (hx : Agree 34613505 s x) => ?_) ?_; clear_value x; rotate_left; subst x) | subst x) | lift_lets -underBinder | with_reducible exact Agree.refl _ _ | with_reducible assumption | with_reducible apply @agree_onCtl 34613505 _ (by decide) | with_reducible apply @agree_partnerLoss 34613505 _ (by decide) | with_reducible refine Agree.of_snd (by assumption) ?_ | with_reducible refine Agree.of_fst (by assumption) ?_ | split | dsimp only | (intro t ht; with_reducible assumption) | intro)

theorem agree_execLossSampleEnd (low : Bool) (s : State) : ∃ t, execLossSampleEnd low s = .next t ∧ Agree 33571078 s t := by
  unfold execLossSampleEnd
  refine ⟨_, rfl, ?_⟩
  repeat' (first | (intro x; first | (refine (fun (hx : Agree 33571078 s x) => ?_) ?_; clear_value x; rotate_left; subst x) | subst x) | lift_lets -underBinder | with_reducible exact Agree.refl _ _ | with_reducible assumption | with_reducible apply @agree_lossSampleEnd 33571078 _ (by decide) | with_reducible apply @agree_onCtl 33571078 _ (by decide) | with_reducible refine Agree.of_snd (by assumption) ?_ | with_reducible refine Agree.of_fst (by assumption) ?_ | split | dsimp only | (intro t ht; with_reducible assumption) | intro)

theorem agree_execClaimHoldoffEnd (s : State) : ∃ t, execClaimHoldoffEnd s = .next t ∧ Agree 33554432 s t := by
  unfold execClaimHoldoffEnd
  refine ⟨_, rfl, ?_⟩
  repeat' (first | (intro x; first | (refine (fun (hx : Agree 33554432 s x) => ?_) ?_; clear_value x; rotate_left; subst x) | subst x) | lift_lets -underBinder | with_reducible exact Agree.refl _ _ | with_reducible assumption | with_reducible apply @agree_holdoffEnd 33554432 _ (by decide) | with_reducible apply @agree_onCtl 33554432 _ (by decide) | with_reducible refine Agree.of_snd (by assumption) ?_ | with_reducible refine Agree.of_fst (by assumption) ?_ | split | dsimp only | (intro t ht; with_reducible assumption) | intro)

theorem agree_execTokenClaim (frzLow : Bool) (sleds : Option (Tab SledDev 4)) (s : State) : ∃ t, execTokenClaim frzLow sleds s = .next t ∧ Agree 67107719 s t := by
  unfold execTokenClaim
  refine ⟨_, rfl, ?_⟩
  repeat' (first | (intro x; first | (refine (fun (hx : Agree 67107719 s x) => ?_) ?_; clear_value x; rotate_left; subst x) | subst x) | lift_lets -underBinder | with_reducible exact Agree.refl _ _ | with_reducible assumption | with_reducible apply @agree_tokenClaim 67107719 _ (by decide) | with_reducible refine Agree.of_snd (by assumption) ?_ | with_reducible refine Agree.of_fst (by assumption) ?_ | split | dsimp only | (intro t ht; with_reducible assumption) | intro)

theorem agree_execRingSettleEnd (s : State) : ∃ t, execRingSettleEnd s = .next t ∧ Agree 50166017 s t := by
  unfold execRingSettleEnd
  refine ⟨_, rfl, ?_⟩
  repeat' (first | (intro x; first | (refine (fun (hx : Agree 50166017 s x) => ?_) ?_; clear_value x; rotate_left; subst x) | subst x) | lift_lets -underBinder | with_reducible exact Agree.refl _ _ | with_reducible assumption | with_reducible apply @agree_vaultAfter 50166017 _ (by decide) | with_reducible apply @agree_onCtl 50166017 _ (by decide) | with_reducible apply @agree_ringSettled 50166017 _ (by decide) | with_reducible refine Agree.of_snd (by assumption) ?_ | with_reducible refine Agree.of_fst (by assumption) ?_ | split | dsimp only | (intro t ht; with_reducible assumption) | intro)

theorem agree_execAlive (h : Hdr) (s : State) : ∃ t, execAlive h s = .next t ∧ Agree 33562624 s t := by
  unfold execAlive
  refine ⟨_, rfl, ?_⟩
  repeat' (first | (intro x; first | (refine (fun (hx : Agree 33562624 s x) => ?_) ?_; clear_value x; rotate_left; subst x) | subst x) | lift_lets -underBinder | with_reducible exact Agree.refl _ _ | with_reducible assumption | with_reducible apply @agree_aliveRx 33562624 _ (by decide) | with_reducible apply @agree_onCtl 33562624 _ (by decide) | with_reducible refine Agree.of_snd (by assumption) ?_ | with_reducible refine Agree.of_fst (by assumption) ?_ | split | dsimp only | (intro t ht; with_reducible assumption) | intro)

theorem agree_execAliveSend (s : State) : ∃ t, execAliveSend s = .next t ∧ Agree 33554432 s t := by
  unfold execAliveSend
  refine ⟨_, rfl, ?_⟩
  repeat' (first | (intro x; first | (refine (fun (hx : Agree 33554432 s x) => ?_) ?_; clear_value x; rotate_left; subst x) | subst x) | lift_lets -underBinder | with_reducible exact Agree.refl _ _ | with_reducible assumption | with_reducible apply @agree_aliveSend 33554432 _ (by decide) | with_reducible apply @agree_onCtl 33554432 _ (by decide) | with_reducible refine Agree.of_snd (by assumption) ?_ | with_reducible refine Agree.of_fst (by assumption) ?_ | split | dsimp only | (intro t ht; with_reducible assumption) | intro)

theorem agree_execFrame (h : Hdr) (whole : Bool) (f : Frame) (s : State) : ∃ t, execFrame h whole f s = .next t ∧ Agree 35793285 s t := by
  unfold execFrame
  refine ⟨_, rfl, ?_⟩
  repeat' (first | (intro x; first | (refine (fun (hx : Agree 35793285 s x) => ?_) ?_; clear_value x; rotate_left; subst x) | subst x) | lift_lets -underBinder | with_reducible exact Agree.refl _ _ | with_reducible assumption | with_reducible apply @agree_frameRx 35793285 _ (by decide) | with_reducible apply @agree_onCtl 35793285 _ (by decide) | with_reducible refine Agree.of_snd (by assumption) ?_ | with_reducible refine Agree.of_fst (by assumption) ?_ | split | dsimp only | (intro t ht; with_reducible assumption) | intro)

theorem agree_execFrameAck (h : Hdr) (fseq : BitVec 32) (s : State) : ∃ t, execFrameAck h fseq s = .next t ∧ Agree 33562880 s t := by
  unfold execFrameAck
  refine ⟨_, rfl, ?_⟩
  repeat' (first | (intro x; first | (refine (fun (hx : Agree 33562880 s x) => ?_) ?_; clear_value x; rotate_left; subst x) | subst x) | lift_lets -underBinder | with_reducible exact Agree.refl _ _ | with_reducible assumption | with_reducible apply @agree_frameAckRx 33562880 _ (by decide) | with_reducible apply @agree_onCtl 33562880 _ (by decide) | with_reducible refine Agree.of_snd (by assumption) ?_ | with_reducible refine Agree.of_fst (by assumption) ?_ | split | dsimp only | (intro t ht; with_reducible assumption) | intro)

theorem agree_execJoin (h : Hdr) (id : BitVec 64) (s : State) : ∃ t, execJoin h id s = .next t ∧ Agree 33562624 s t := by
  unfold execJoin
  refine ⟨_, rfl, ?_⟩
  repeat' (first | (intro x; first | (refine (fun (hx : Agree 33562624 s x) => ?_) ?_; clear_value x; rotate_left; subst x) | subst x) | lift_lets -underBinder | with_reducible exact Agree.refl _ _ | with_reducible assumption | with_reducible apply @agree_joinRx 33562624 _ (by decide) | with_reducible apply @agree_onCtl 33562624 _ (by decide) | with_reducible refine Agree.of_snd (by assumption) ?_ | with_reducible refine Agree.of_fst (by assumption) ?_ | split | dsimp only | (intro t ht; with_reducible assumption) | intro)

theorem agree_execYield (h : Hdr) (s : State) : ∃ t, execYield h s = .next t ∧ Agree 33564929 s t := by
  unfold execYield
  refine ⟨_, rfl, ?_⟩
  repeat' (first | (intro x; first | (refine (fun (hx : Agree 33564929 s x) => ?_) ?_; clear_value x; rotate_left; subst x) | subst x) | lift_lets -underBinder | with_reducible exact Agree.refl _ _ | with_reducible assumption | with_reducible apply @agree_onCtl 33564929 _ (by decide) | with_reducible apply @agree_yieldRx 33564929 _ (by decide) | with_reducible refine Agree.of_snd (by assumption) ?_ | with_reducible refine Agree.of_fst (by assumption) ?_ | split | dsimp only | (intro t ht; with_reducible assumption) | intro)

theorem agree_execHandoverFinalFrame (s : State) : ∃ t, execHandoverFinalFrame s = .next t ∧ Agree 35651584 s t := by
  unfold execHandoverFinalFrame
  refine ⟨_, rfl, ?_⟩
  repeat' (first | (intro x; first | (refine (fun (hx : Agree 35651584 s x) => ?_) ?_; clear_value x; rotate_left; subst x) | subst x) | lift_lets -underBinder | with_reducible exact Agree.refl _ _ | with_reducible assumption | with_reducible apply @agree_finalFrame 35651584 _ (by decide) | with_reducible apply @agree_onCtl 35651584 _ (by decide) | with_reducible refine Agree.of_snd (by assumption) ?_ | with_reducible refine Agree.of_fst (by assumption) ?_ | split | dsimp only | (intro t ht; with_reducible assumption) | intro)

theorem agree_execTakeReady (h : Hdr) (fseq : BitVec 32) (s : State) : ∃ t, execTakeReady h fseq s = .next t ∧ Agree 35660039 s t := by
  unfold execTakeReady
  refine ⟨_, rfl, ?_⟩
  repeat' (first | (intro x; first | (refine (fun (hx : Agree 35660039 s x) => ?_) ?_; clear_value x; rotate_left; subst x) | subst x) | lift_lets -underBinder | with_reducible exact Agree.refl _ _ | with_reducible assumption | with_reducible apply @agree_onCtl 35660039 _ (by decide) | with_reducible apply @agree_takeReadyRx 35660039 _ (by decide) | with_reducible refine Agree.of_snd (by assumption) ?_ | with_reducible refine Agree.of_fst (by assumption) ?_ | split | dsimp only | (intro t ht; with_reducible assumption) | intro)

theorem agree_execTakeReadyTimeout (s : State) : ∃ t, execTakeReadyTimeout s = .next t ∧ Agree 43264257 s t := by
  unfold execTakeReadyTimeout
  refine ⟨_, rfl, ?_⟩
  repeat' (first | (intro x; first | (refine (fun (hx : Agree 43264257 s x) => ?_) ?_; clear_value x; rotate_left; subst x) | subst x) | lift_lets -underBinder | with_reducible exact Agree.refl _ _ | with_reducible assumption | with_reducible apply @agree_onCtl 43264257 _ (by decide) | with_reducible apply @agree_takeReadyTimeout 43264257 _ (by decide) | with_reducible refine Agree.of_snd (by assumption) ?_ | with_reducible refine Agree.of_fst (by assumption) ?_ | split | dsimp only | (intro t ht; with_reducible assumption) | intro)

theorem agree_execKxApprove (w : Word) (s : State) : ∃ t, execKxApprove w s = .next t ∧ Agree 33558785 s t := by
  unfold execKxApprove
  refine ⟨_, rfl, ?_⟩
  repeat' (first | (intro x; first | (refine (fun (hx : Agree 33558785 s x) => ?_) ?_; clear_value x; rotate_left; subst x) | subst x) | lift_lets -underBinder | with_reducible exact Agree.refl _ _ | with_reducible assumption | with_reducible apply @agree_kxApprove 33558785 _ (by decide) | with_reducible apply @agree_rpWrite 33558785 _ (by decide) | with_reducible refine Agree.of_snd (by assumption) ?_ | with_reducible refine Agree.of_fst (by assumption) ?_ | split | dsimp only | (intro t ht; with_reducible assumption) | intro)

theorem agree_execKxOffer (h : Hdr) (key : List Byte) (pub : List Byte) (sig : List Byte) (s : State) : ∃ t, execKxOffer h key pub sig s = .next t ∧ Agree 33562625 s t := by
  unfold execKxOffer
  refine ⟨_, rfl, ?_⟩
  repeat' (first | (intro x; first | (refine (fun (hx : Agree 33562625 s x) => ?_) ?_; clear_value x; rotate_left; subst x) | subst x) | lift_lets -underBinder | with_reducible exact Agree.refl _ _ | with_reducible assumption | with_reducible apply @agree_kxOfferRx 33562625 _ (by decide) | with_reducible apply @agree_onCtl 33562625 _ (by decide) | with_reducible refine Agree.of_snd (by assumption) ?_ | with_reducible refine Agree.of_fst (by assumption) ?_ | split | dsimp only | (intro t ht; with_reducible assumption) | intro)

theorem agree_execKxReply (h : Hdr) (key : List Byte) (pub : List Byte) (sig : List Byte) (s : State) : ∃ t, execKxReply h key pub sig s = .next t ∧ Agree 33562624 s t := by
  unfold execKxReply
  refine ⟨_, rfl, ?_⟩
  repeat' (first | (intro x; first | (refine (fun (hx : Agree 33562624 s x) => ?_) ?_; clear_value x; rotate_left; subst x) | subst x) | lift_lets -underBinder | with_reducible exact Agree.refl _ _ | with_reducible assumption | with_reducible apply @agree_kxReplyRx 33562624 _ (by decide) | with_reducible apply @agree_onCtl 33562624 _ (by decide) | with_reducible refine Agree.of_snd (by assumption) ?_ | with_reducible refine Agree.of_fst (by assumption) ?_ | split | dsimp only | (intro t ht; with_reducible assumption) | intro)

theorem agree_execKxKeys (h : Hdr) (text : List Byte) (s : State) : ∃ t, execKxKeys h text s = .next t ∧ Agree 33562624 s t := by
  unfold execKxKeys
  refine ⟨_, rfl, ?_⟩
  repeat' (first | (intro x; first | (refine (fun (hx : Agree 33562624 s x) => ?_) ?_; clear_value x; rotate_left; subst x) | subst x) | lift_lets -underBinder | with_reducible exact Agree.refl _ _ | with_reducible assumption | with_reducible apply @agree_kxKeysRx 33562624 _ (by decide) | with_reducible apply @agree_onCtl 33562624 _ (by decide) | with_reducible refine Agree.of_snd (by assumption) ?_ | with_reducible refine Agree.of_fst (by assumption) ?_ | split | dsimp only | (intro t ht; with_reducible assumption) | intro)

theorem agree_execKxWraps (h : Hdr) (wraps : List Byte) (s : State) : ∃ t, execKxWraps h wraps s = .next t ∧ Agree 36708353 s t := by
  unfold execKxWraps
  refine ⟨_, rfl, ?_⟩
  repeat' (first | (intro x; first | (refine (fun (hx : Agree 36708353 s x) => ?_) ?_; clear_value x; rotate_left; subst x) | subst x) | lift_lets -underBinder | with_reducible exact Agree.refl _ _ | with_reducible assumption | with_reducible apply @agree_kxWrapsRx 36708353 _ (by decide) | with_reducible apply @agree_onCtl 36708353 _ (by decide) | with_reducible refine Agree.of_snd (by assumption) ?_ | with_reducible refine Agree.of_fst (by assumption) ?_ | split | dsimp only | (intro t ht; with_reducible assumption) | intro)

theorem agree_execSwapDrill (s : State) : ∃ t, execSwapDrill s = .next t ∧ Agree 33560832 s t := by
  unfold execSwapDrill
  refine ⟨_, rfl, ?_⟩
  repeat' (first | (intro x; first | (refine (fun (hx : Agree 33560832 s x) => ?_) ?_; clear_value x; rotate_left; subst x) | subst x) | lift_lets -underBinder | with_reducible exact Agree.refl _ _ | with_reducible assumption | with_reducible apply @agree_cmdDrill 33560832 _ (by decide) | with_reducible apply @agree_topCode 33560832 _ (by decide) | with_reducible refine Agree.of_snd (by assumption) ?_ | with_reducible refine Agree.of_fst (by assumption) ?_ | split | dsimp only | (intro t ht; with_reducible assumption) | intro)

theorem agree_execDrillDwellEnd (s : State) : ∃ t, execDrillDwellEnd s = .next t ∧ Agree 33554432 s t := by
  unfold execDrillDwellEnd
  refine ⟨_, rfl, ?_⟩
  repeat' (first | (intro x; first | (refine (fun (hx : Agree 33554432 s x) => ?_) ?_; clear_value x; rotate_left; subst x) | subst x) | lift_lets -underBinder | with_reducible exact Agree.refl _ _ | with_reducible assumption | with_reducible apply @agree_dwellEnd 33554432 _ (by decide) | with_reducible apply @agree_onCtl 33554432 _ (by decide) | with_reducible refine Agree.of_snd (by assumption) ?_ | with_reducible refine Agree.of_fst (by assumption) ?_ | split | dsimp only | (intro t ht; with_reducible assumption) | intro)

theorem agree_execSecondTick (s : State) : ∃ t, execSecondTick s = .next t ∧ Agree 50331909 s t := by
  unfold execSecondTick
  refine ⟨_, rfl, ?_⟩
  repeat' (first | (intro x; first | (refine (fun (hx : Agree 50331909 s x) => ?_) ?_; clear_value x; rotate_left; subst x) | subst x) | lift_lets -underBinder | with_reducible exact Agree.refl _ _ | with_reducible assumption | with_reducible apply @agree_secondTick 50331909 _ (by decide) | with_reducible refine Agree.of_snd (by assumption) ?_ | with_reducible refine Agree.of_fst (by assumption) ?_ | split | dsimp only | (intro t ht; with_reducible assumption) | intro)

theorem agree_execFabricHello (i : Fin 4) (h : Hdr) (addr : BitVec 12) (cost : BitVec 4) (seen : Bool) (s : State) : ∃ t, execFabricHello i h addr cost seen s = .next t ∧ Agree 16777472 s t := by
  unfold execFabricHello
  refine ⟨_, rfl, ?_⟩
  repeat' (first | (intro x; first | (refine (fun (hx : Agree 16777472 s x) => ?_) ?_; clear_value x; rotate_left; subst x) | subst x) | lift_lets -underBinder | with_reducible exact Agree.refl _ _ | with_reducible assumption | with_reducible apply @agree_helloRx 16777472 _ (by decide) | with_reducible apply @agree_onFab 16777472 _ (by decide) | with_reducible refine Agree.of_snd (by assumption) ?_ | with_reducible refine Agree.of_fst (by assumption) ?_ | split | dsimp only | (intro t ht; with_reducible assumption) | intro)

theorem agree_execHelloSend (s : State) : ∃ t, execHelloSend s = .next t ∧ Agree 16777216 s t := by
  unfold execHelloSend
  refine ⟨_, rfl, ?_⟩
  repeat' (first | (intro x; first | (refine (fun (hx : Agree 16777216 s x) => ?_) ?_; clear_value x; rotate_left; subst x) | subst x) | lift_lets -underBinder | with_reducible exact Agree.refl _ _ | with_reducible assumption | with_reducible apply @agree_helloSend 16777216 _ (by decide) | with_reducible apply @agree_onFab 16777216 _ (by decide) | with_reducible refine Agree.of_snd (by assumption) ?_ | with_reducible refine Agree.of_fst (by assumption) ?_ | split | dsimp only | (intro t ht; with_reducible assumption) | intro)

theorem agree_execFabricPortSilent (i : Fin 4) (s : State) : ∃ t, execFabricPortSilent i s = .next t ∧ Agree 16785664 s t := by
  unfold execFabricPortSilent
  refine ⟨_, rfl, ?_⟩
  repeat' (first | (intro x; first | (refine (fun (hx : Agree 16785664 s x) => ?_) ?_; clear_value x; rotate_left; subst x) | subst x) | lift_lets -underBinder | with_reducible exact Agree.refl _ _ | with_reducible assumption | with_reducible apply @agree_fabDown 16785664 _ (by decide) | with_reducible apply @agree_onFab 16785664 _ (by decide) | with_reducible refine Agree.of_snd (by assumption) ?_ | with_reducible refine Agree.of_fst (by assumption) ?_ | split | dsimp only | (intro t ht; with_reducible assumption) | intro)

theorem agree_execFabricTrainRetry (i : Fin 4) (s : State) : ∃ t, execFabricTrainRetry i s = .next t ∧ Agree 16785664 s t := by
  unfold execFabricTrainRetry
  refine ⟨_, rfl, ?_⟩
  repeat' (first | (intro x; first | (refine (fun (hx : Agree 16785664 s x) => ?_) ?_; clear_value x; rotate_left; subst x) | subst x) | lift_lets -underBinder | with_reducible exact Agree.refl _ _ | with_reducible assumption | with_reducible apply @agree_fabRetry 16785664 _ (by decide) | with_reducible apply @agree_onFab 16785664 _ (by decide) | with_reducible refine Agree.of_snd (by assumption) ?_ | with_reducible refine Agree.of_fst (by assumption) ?_ | split | dsimp only | (intro t ht; with_reducible assumption) | intro)

theorem agree_execFabricForward (i : Fin 4) (h : Hdr) (m : FMsg) (s : State) : ∃ t, execFabricForward i h m s = .next t ∧ Agree 16777216 s t := by
  unfold execFabricForward
  refine ⟨_, rfl, ?_⟩
  repeat' (first | (intro x; first | (refine (fun (hx : Agree 16777216 s x) => ?_) ?_; clear_value x; rotate_left; subst x) | subst x) | lift_lets -underBinder | with_reducible exact Agree.refl _ _ | with_reducible assumption | with_reducible apply @agree_fabForward 16777216 _ (by decide) | with_reducible apply @agree_onFab 16777216 _ (by decide) | with_reducible refine Agree.of_snd (by assumption) ?_ | with_reducible refine Agree.of_fst (by assumption) ?_ | split | dsimp only | (intro t ht; with_reducible assumption) | intro)

theorem agree_execAddressDiscover (s : State) : ∃ t, execAddressDiscover s = .next t ∧ Agree 16777220 s t := by
  unfold execAddressDiscover
  refine ⟨_, rfl, ?_⟩
  repeat' (first | (intro x; first | (refine (fun (hx : Agree 16777220 s x) => ?_) ?_; clear_value x; rotate_left; subst x) | subst x) | lift_lets -underBinder | with_reducible exact Agree.refl _ _ | with_reducible assumption | with_reducible apply @agree_addrDiscover 16777220 _ (by decide) | with_reducible apply @agree_onFab 16777220 _ (by decide) | with_reducible refine Agree.of_snd (by assumption) ?_ | with_reducible refine Agree.of_fst (by assumption) ?_ | split | dsimp only | (intro t ht; with_reducible assumption) | intro)

theorem agree_execLsa (i : Fin 4) (h : Hdr) (m : Lsa) (s : State) : ∃ t, execLsa i h m s = .next t ∧ Agree 16785668 s t := by
  unfold execLsa
  refine ⟨_, rfl, ?_⟩
  repeat' (first | (intro x; first | (refine (fun (hx : Agree 16785668 s x) => ?_) ?_; clear_value x; rotate_left; subst x) | subst x) | lift_lets -underBinder | with_reducible exact Agree.refl _ _ | with_reducible assumption | with_reducible apply @agree_lsaRx 16785668 _ (by decide) | with_reducible apply @agree_onFab 16785668 _ (by decide) | with_reducible refine Agree.of_snd (by assumption) ?_ | with_reducible refine Agree.of_fst (by assumption) ?_ | split | dsimp only | (intro t ht; with_reducible assumption) | intro)

theorem agree_execLsaOriginate (s : State) : ∃ t, execLsaOriginate s = .next t ∧ Agree 16777216 s t := by
  unfold execLsaOriginate
  refine ⟨_, rfl, ?_⟩
  repeat' (first | (intro x; first | (refine (fun (hx : Agree 16777216 s x) => ?_) ?_; clear_value x; rotate_left; subst x) | subst x) | lift_lets -underBinder | with_reducible exact Agree.refl _ _ | with_reducible assumption | with_reducible apply @agree_lsaOriginate 16777216 _ (by decide) | with_reducible apply @agree_onFab 16777216 _ (by decide) | with_reducible refine Agree.of_snd (by assumption) ?_ | with_reducible refine Agree.of_fst (by assumption) ?_ | split | dsimp only | (intro t ht; with_reducible assumption) | intro)

theorem agree_execLsaExpiry (a : BitVec 12) (s : State) : ∃ t, execLsaExpiry a s = .next t ∧ Agree 16785408 s t := by
  unfold execLsaExpiry
  refine ⟨_, rfl, ?_⟩
  repeat' (first | (intro x; first | (refine (fun (hx : Agree 16785408 s x) => ?_) ?_; clear_value x; rotate_left; subst x) | subst x) | lift_lets -underBinder | with_reducible exact Agree.refl _ _ | with_reducible assumption | with_reducible apply @agree_lsaExpiry 16785408 _ (by decide) | with_reducible apply @agree_onFab 16785408 _ (by decide) | with_reducible refine Agree.of_snd (by assumption) ?_ | with_reducible refine Agree.of_fst (by assumption) ?_ | split | dsimp only | (intro t ht; with_reducible assumption) | intro)

theorem agree_execRouteCompute (s : State) : ∃ t, execRouteCompute s = .next t ∧ Agree 16777472 s t := by
  unfold execRouteCompute
  refine ⟨_, rfl, ?_⟩
  repeat' (first | (intro x; first | (refine (fun (hx : Agree 16777472 s x) => ?_) ?_; clear_value x; rotate_left; subst x) | subst x) | lift_lets -underBinder | with_reducible exact Agree.refl _ _ | with_reducible assumption | with_reducible apply @agree_onFab 16777472 _ (by decide) | with_reducible apply @agree_routeCompute 16777472 _ (by decide) | with_reducible refine Agree.of_snd (by assumption) ?_ | with_reducible refine Agree.of_fst (by assumption) ?_ | split | dsimp only | (intro t ht; with_reducible assumption) | intro)

theorem agree_execTsyncTimer (s : State) : ∃ t, execTsyncTimer s = .next t ∧ Agree 16777473 s t := by
  unfold execTsyncTimer
  refine ⟨_, rfl, ?_⟩
  repeat' (first | (intro x; first | (refine (fun (hx : Agree 16777473 s x) => ?_) ?_; clear_value x; rotate_left; subst x) | subst x) | lift_lets -underBinder | with_reducible exact Agree.refl _ _ | with_reducible assumption | with_reducible apply @agree_onFab 16777473 _ (by decide) | with_reducible apply @agree_tsyncTimer 16777473 _ (by decide) | with_reducible refine Agree.of_snd (by assumption) ?_ | with_reducible refine Agree.of_fst (by assumption) ?_ | split | dsimp only | (intro t ht; with_reducible assumption) | intro)

theorem agree_execTsyncReq (i : Fin 4) (h : SyncHdr) (s : State) : ∃ t, execTsyncReq i h s = .next t ∧ Agree 16777217 s t := by
  unfold execTsyncReq
  refine ⟨_, rfl, ?_⟩
  repeat' (first | (intro x; first | (refine (fun (hx : Agree 16777217 s x) => ?_) ?_; clear_value x; rotate_left; subst x) | subst x) | lift_lets -underBinder | with_reducible exact Agree.refl _ _ | with_reducible assumption | with_reducible apply @agree_onFab 16777217 _ (by decide) | with_reducible apply @agree_tsyncReqRx 16777217 _ (by decide) | with_reducible refine Agree.of_snd (by assumption) ?_ | with_reducible refine Agree.of_fst (by assumption) ?_ | split | dsimp only | (intro t ht; with_reducible assumption) | intro)

theorem agree_execTsyncRsp (i : Fin 4) (h : Hdr) (t2 : BitVec 64) (t3 : BitVec 64) (hops : BitVec 8) (psync : Bool) (pdisc : Bool) (replayed : Bool) (s : State) : ∃ t, execTsyncRsp i h t2 t3 hops psync pdisc replayed s = .next t ∧ Agree 16777473 s t := by
  unfold execTsyncRsp
  refine ⟨_, rfl, ?_⟩
  repeat' (first | (intro x; first | (refine (fun (hx : Agree 16777473 s x) => ?_) ?_; clear_value x; rotate_left; subst x) | subst x) | lift_lets -underBinder | with_reducible exact Agree.refl _ _ | with_reducible assumption | with_reducible apply @agree_onFab 16777473 _ (by decide) | with_reducible apply @agree_tsyncRspRx 16777473 _ (by decide) | with_reducible refine Agree.of_snd (by assumption) ?_ | with_reducible refine Agree.of_fst (by assumption) ?_ | split | dsimp only | (intro t ht; with_reducible assumption) | intro)

theorem agree_execPpsEdge (s : State) : ∃ t, execPpsEdge s = .next t ∧ Agree 16777473 s t := by
  unfold execPpsEdge
  refine ⟨_, rfl, ?_⟩
  repeat' (first | (intro x; first | (refine (fun (hx : Agree 16777473 s x) => ?_) ?_; clear_value x; rotate_left; subst x) | subst x) | lift_lets -underBinder | with_reducible exact Agree.refl _ _ | with_reducible assumption | with_reducible apply @agree_onFab 16777473 _ (by decide) | with_reducible apply @agree_ppsEdge 16777473 _ (by decide) | with_reducible refine Agree.of_snd (by assumption) ?_ | with_reducible refine Agree.of_fst (by assumption) ?_ | split | dsimp only | (intro t ht; with_reducible assumption) | intro)

theorem agree_execRoundStart (k : BitVec 32) (s : State) : ∃ t, execRoundStart k s = .next t ∧ Agree 16777216 s t := by
  unfold execRoundStart
  refine ⟨_, rfl, ?_⟩
  repeat' (first | (intro x; first | (refine (fun (hx : Agree 16777216 s x) => ?_) ?_; clear_value x; rotate_left; subst x) | subst x) | lift_lets -underBinder | with_reducible exact Agree.refl _ _ | with_reducible assumption | with_reducible apply @agree_onFab 16777216 _ (by decide) | with_reducible apply @agree_roundStart 16777216 _ (by decide) | with_reducible refine Agree.of_snd (by assumption) ?_ | with_reducible refine Agree.of_fst (by assumption) ?_ | split | dsimp only | (intro t ht; with_reducible assumption) | intro)

theorem agree_execTableReport (i : Fin 4) (h : Hdr) (m : TRep) (s : State) : ∃ t, execTableReport i h m s = .next t ∧ Agree 16777216 s t := by
  unfold execTableReport
  refine ⟨_, rfl, ?_⟩
  repeat' (first | (intro x; first | (refine (fun (hx : Agree 16777216 s x) => ?_) ?_; clear_value x; rotate_left; subst x) | subst x) | lift_lets -underBinder | with_reducible exact Agree.refl _ _ | with_reducible assumption | with_reducible apply @agree_onFab 16777216 _ (by decide) | with_reducible apply @agree_tableReportRx 16777216 _ (by decide) | with_reducible refine Agree.of_snd (by assumption) ?_ | with_reducible refine Agree.of_fst (by assumption) ?_ | split | dsimp only | (intro t ht; with_reducible assumption) | intro)

theorem agree_execCoordinate (s : State) : ∃ t, execCoordinate s = .next t ∧ Agree 16777216 s t := by
  unfold execCoordinate
  refine ⟨_, rfl, ?_⟩
  repeat' (first | (intro x; first | (refine (fun (hx : Agree 16777216 s x) => ?_) ?_; clear_value x; rotate_left; subst x) | subst x) | lift_lets -underBinder | with_reducible exact Agree.refl _ _ | with_reducible assumption | with_reducible apply @agree_coordinate 16777216 _ (by decide) | with_reducible apply @agree_onFab 16777216 _ (by decide) | with_reducible refine Agree.of_snd (by assumption) ?_ | with_reducible refine Agree.of_fst (by assumption) ?_ | split | dsimp only | (intro t ht; with_reducible assumption) | intro)

theorem agree_execGrant (i : Fin 4) (h : Hdr) (g : TGrant) (s : State) : ∃ t, execGrant i h g s = .next t ∧ Agree 16777216 s t := by
  unfold execGrant
  refine ⟨_, rfl, ?_⟩
  repeat' (first | (intro x; first | (refine (fun (hx : Agree 16777216 s x) => ?_) ?_; clear_value x; rotate_left; subst x) | subst x) | lift_lets -underBinder | with_reducible exact Agree.refl _ _ | with_reducible assumption | with_reducible apply @agree_grantRx 16777216 _ (by decide) | with_reducible apply @agree_onFab 16777216 _ (by decide) | with_reducible refine Agree.of_snd (by assumption) ?_ | with_reducible refine Agree.of_fst (by assumption) ?_ | split | dsimp only | (intro t ht; with_reducible assumption) | intro)

theorem agree_execTelemetryRequest (dst : BitVec 12) (s : State) : ∃ t, execTelemetryRequest dst s = .next t ∧ Agree 16781568 s t := by
  unfold execTelemetryRequest
  refine ⟨_, rfl, ?_⟩
  repeat' (first | (intro x; first | (refine (fun (hx : Agree 16781568 s x) => ?_) ?_; clear_value x; rotate_left; subst x) | subst x) | lift_lets -underBinder | with_reducible exact Agree.refl _ _ | with_reducible assumption | with_reducible apply @agree_rqWrite 16781568 _ (by decide) | with_reducible apply @agree_rpAt 16781568 _ (by decide) | with_reducible refine Agree.of_snd (by assumption) ?_ | with_reducible refine Agree.of_fst (by assumption) ?_ | split | dsimp only | (intro t ht; with_reducible assumption) | intro)

theorem agree_execLedgerReadRequest (dst : BitVec 12) (s : State) : ∃ t, execLedgerReadRequest dst s = .next t ∧ Agree 16781568 s t := by
  unfold execLedgerReadRequest
  refine ⟨_, rfl, ?_⟩
  repeat' (first | (intro x; first | (refine (fun (hx : Agree 16781568 s x) => ?_) ?_; clear_value x; rotate_left; subst x) | subst x) | lift_lets -underBinder | with_reducible exact Agree.refl _ _ | with_reducible assumption | with_reducible apply @agree_rqWrite 16781568 _ (by decide) | with_reducible apply @agree_rpAt 16781568 _ (by decide) | with_reducible refine Agree.of_snd (by assumption) ?_ | with_reducible refine Agree.of_fst (by assumption) ?_ | split | dsimp only | (intro t ht; with_reducible assumption) | intro)

theorem agree_execTelReq (i : Fin 4) (h : Hdr) (src : BitVec 12) (s : State) : ∃ t, execTelReq i h src s = .next t ∧ Agree 16777216 s t := by
  unfold execTelReq
  refine ⟨_, rfl, ?_⟩
  repeat' (first | (intro x; first | (refine (fun (hx : Agree 16777216 s x) => ?_) ?_; clear_value x; rotate_left; subst x) | subst x) | lift_lets -underBinder | with_reducible exact Agree.refl _ _ | with_reducible assumption | with_reducible apply @agree_onFab 16777216 _ (by decide) | with_reducible apply @agree_telReqRx 16777216 _ (by decide) | with_reducible refine Agree.of_snd (by assumption) ?_ | with_reducible refine Agree.of_fst (by assumption) ?_ | split | dsimp only | (intro t ht; with_reducible assumption) | intro)

theorem agree_execLreadReq (i : Fin 4) (h : Hdr) (src : BitVec 12) (ofs : BitVec 22) (len : BitVec 11) (s : State) : ∃ t, execLreadReq i h src ofs len s = .next t ∧ Agree 16777216 s t := by
  unfold execLreadReq
  refine ⟨_, rfl, ?_⟩
  repeat' (first | (intro x; first | (refine (fun (hx : Agree 16777216 s x) => ?_) ?_; clear_value x; rotate_left; subst x) | subst x) | lift_lets -underBinder | with_reducible exact Agree.refl _ _ | with_reducible assumption | with_reducible apply @agree_lreadReqRx 16777216 _ (by decide) | with_reducible apply @agree_onFab 16777216 _ (by decide) | with_reducible refine Agree.of_snd (by assumption) ?_ | with_reducible refine Agree.of_fst (by assumption) ?_ | split | dsimp only | (intro t ht; with_reducible assumption) | intro)

theorem agree_execTelRsp (i : Fin 4) (h : Hdr) (src : BitVec 12) (block : List Byte) (s : State) : ∃ t, execTelRsp i h src block s = .next t ∧ Agree 16777472 s t := by
  unfold execTelRsp
  refine ⟨_, rfl, ?_⟩
  repeat' (first | (intro x; first | (refine (fun (hx : Agree 16777472 s x) => ?_) ?_; clear_value x; rotate_left; subst x) | subst x) | lift_lets -underBinder | with_reducible exact Agree.refl _ _ | with_reducible assumption | with_reducible apply @agree_onFab 16777472 _ (by decide) | with_reducible apply @agree_telRspRx 16777472 _ (by decide) | with_reducible refine Agree.of_snd (by assumption) ?_ | with_reducible refine Agree.of_fst (by assumption) ?_ | split | dsimp only | (intro t ht; with_reducible assumption) | intro)

theorem agree_execLreadRsp (i : Fin 4) (h : Hdr) (src : BitVec 12) (status : BitVec 8) (words : List Word) (s : State) : ∃ t, execLreadRsp i h src status words s = .next t ∧ Agree 16777472 s t := by
  unfold execLreadRsp
  refine ⟨_, rfl, ?_⟩
  repeat' (first | (intro x; first | (refine (fun (hx : Agree 16777472 s x) => ?_) ?_; clear_value x; rotate_left; subst x) | subst x) | lift_lets -underBinder | with_reducible exact Agree.refl _ _ | with_reducible assumption | with_reducible apply @agree_lreadRspRx 16777472 _ (by decide) | with_reducible apply @agree_onFab 16777472 _ (by decide) | with_reducible refine Agree.of_snd (by assumption) ?_ | with_reducible refine Agree.of_fst (by assumption) ?_ | split | dsimp only | (intro t ht; with_reducible assumption) | intro)

theorem agree_execFabricError (i : Fin 4) (h : Hdr) (src : BitVec 12) (code : BitVec 8) (s : State) : ∃ t, execFabricError i h src code s = .next t ∧ Agree 16777472 s t := by
  unfold execFabricError
  refine ⟨_, rfl, ?_⟩
  repeat' (first | (intro x; first | (refine (fun (hx : Agree 16777472 s x) => ?_) ?_; clear_value x; rotate_left; subst x) | subst x) | lift_lets -underBinder | with_reducible exact Agree.refl _ _ | with_reducible assumption | with_reducible apply @agree_fabErrorRx 16777472 _ (by decide) | with_reducible apply @agree_onFab 16777472 _ (by decide) | with_reducible refine Agree.of_snd (by assumption) ?_ | with_reducible refine Agree.of_fst (by assumption) ?_ | split | dsimp only | (intro t ht; with_reducible assumption) | intro)

theorem agree_execRequestTimeout (s : State) : ∃ t, execRequestTimeout s = .next t ∧ Agree 16777472 s t := by
  unfold execRequestTimeout
  refine ⟨_, rfl, ?_⟩
  repeat' (first | (intro x; first | (refine (fun (hx : Agree 16777472 s x) => ?_) ?_; clear_value x; rotate_left; subst x) | subst x) | lift_lets -underBinder | with_reducible exact Agree.refl _ _ | with_reducible assumption | with_reducible apply @agree_onFab 16777472 _ (by decide) | with_reducible apply @agree_rqTimeout 16777472 _ (by decide) | with_reducible refine Agree.of_snd (by assumption) ?_ | with_reducible refine Agree.of_fst (by assumption) ?_ | split | dsimp only | (intro t ht; with_reducible assumption) | intro)

theorem agree_execFaultRegistration (src : BitVec 8) (of : RegOf) (s : State) : ∃ t, execFaultRegistration src of s = .next t ∧ Agree 67108743 s t := by
  unfold execFaultRegistration
  refine ⟨_, rfl, ?_⟩
  repeat' (first | (intro x; first | (refine (fun (hx : Agree 67108743 s x) => ?_) ?_; clear_value x; rotate_left; subst x) | subst x) | lift_lets -underBinder | with_reducible exact Agree.refl _ _ | with_reducible assumption | with_reducible apply @agree_faultReg 67108743 _ (by decide) | with_reducible apply @agree_onCtl 67108743 _ (by decide) | with_reducible apply @agree_xfSamples 67108743 _ (by decide) | with_reducible refine Agree.of_snd (by assumption) ?_ | with_reducible refine Agree.of_fst (by assumption) ?_ | split | dsimp only | (intro t ht; with_reducible assumption) | intro)

theorem agree_execPairBroken (i : PairId) (s : State) : ∃ t, execPairBroken i s = .next t ∧ Agree 73984 s t := by
  unfold execPairBroken
  refine ⟨_, rfl, ?_⟩
  repeat' (first | (intro x; first | (refine (fun (hx : Agree 73984 s x) => ?_) ?_; clear_value x; rotate_left; subst x) | subst x) | lift_lets -underBinder | with_reducible exact Agree.refl _ _ | with_reducible assumption | with_reducible apply @agree_onCtl 73984 _ (by decide) | with_reducible apply @agree_pairBroken 73984 _ (by decide) | with_reducible refine Agree.of_snd (by assumption) ?_ | with_reducible refine Agree.of_fst (by assumption) ?_ | split | dsimp only | (intro t ht; with_reducible assumption) | intro)

theorem agree_execIslandTimeout (src : BitVec 8) (s : State) : ∃ t, execIslandTimeout src s = .next t ∧ Agree 8192 s t := by
  unfold execIslandTimeout
  refine ⟨_, rfl, ?_⟩
  repeat' (first | (intro x; first | (refine (fun (hx : Agree 8192 s x) => ?_) ?_; clear_value x; rotate_left; subst x) | subst x) | lift_lets -underBinder | with_reducible exact Agree.refl _ _ | with_reducible assumption | with_reducible apply @agree_islandTimeout 8192 _ (by decide) | with_reducible apply @agree_onCtl 8192 _ (by decide) | with_reducible refine Agree.of_snd (by assumption) ?_ | with_reducible refine Agree.of_fst (by assumption) ?_ | split | dsimp only | (intro t ht; with_reducible assumption) | intro)

theorem agree_execResetRelease (b : Fin 16) (s : State) : ∃ t, execResetRelease b s = .next t ∧ Agree 28582145 s t := by
  unfold execResetRelease
  refine ⟨_, rfl, ?_⟩
  repeat' (first | (intro x; first | (refine (fun (hx : Agree 28582145 s x) => ?_) ?_; clear_value x; rotate_left; subst x) | subst x) | lift_lets -underBinder | with_reducible exact Agree.refl _ _ | with_reducible assumption | with_reducible apply @agree_onCtl 28582145 _ (by decide) | with_reducible apply @agree_resetRelease 28582145 _ (by decide) | with_reducible refine Agree.of_snd (by assumption) ?_ | with_reducible refine Agree.of_fst (by assumption) ?_ | split | dsimp only | (intro t ht; with_reducible assumption) | intro)

theorem agree_execResetEnd (b : Fin 16) (s : State) : ∃ t, execResetEnd b s = .next t ∧ Agree 8192 s t := by
  unfold execResetEnd
  refine ⟨_, rfl, ?_⟩
  repeat' (first | (intro x; first | (refine (fun (hx : Agree 8192 s x) => ?_) ?_; clear_value x; rotate_left; subst x) | subst x) | lift_lets -underBinder | with_reducible exact Agree.refl _ _ | with_reducible assumption | with_reducible apply @agree_onCtl 8192 _ (by decide) | with_reducible apply @agree_resetEnd 8192 _ (by decide) | with_reducible refine Agree.of_snd (by assumption) ?_ | with_reducible refine Agree.of_fst (by assumption) ?_ | split | dsimp only | (intro t ht; with_reducible assumption) | intro)

theorem agree_execShadowClose (k : Fin 16) (s : State) : ∃ t, execShadowClose k s = .next t ∧ Agree 67108743 s t := by
  unfold execShadowClose
  refine ⟨_, rfl, ?_⟩
  repeat' (first | (intro x; first | (refine (fun (hx : Agree 67108743 s x) => ?_) ?_; clear_value x; rotate_left; subst x) | subst x) | lift_lets -underBinder | with_reducible exact Agree.refl _ _ | with_reducible assumption | with_reducible apply @agree_onCtl 67108743 _ (by decide) | with_reducible apply @agree_shadowClose 67108743 _ (by decide) | with_reducible refine Agree.of_snd (by assumption) ?_ | with_reducible refine Agree.of_fst (by assumption) ?_ | split | dsimp only | (intro t ht; with_reducible assumption) | intro)

theorem agree_execClassClear (c : Fin 4) (s : State) : ∃ t, execClassClear c s = .next t ∧ Agree 8196 s t := by
  unfold execClassClear
  refine ⟨_, rfl, ?_⟩
  repeat' (first | (intro x; first | (refine (fun (hx : Agree 8196 s x) => ?_) ?_; clear_value x; rotate_left; subst x) | subst x) | lift_lets -underBinder | with_reducible exact Agree.refl _ _ | with_reducible assumption | with_reducible apply @agree_classClear 8196 _ (by decide) | with_reducible apply @agree_onCtl 8196 _ (by decide) | with_reducible refine Agree.of_snd (by assumption) ?_ | with_reducible refine Agree.of_fst (by assumption) ?_ | split | dsimp only | (intro t ht; with_reducible assumption) | intro)

theorem agree_execClrFirst (w : Word) (s : State) : ∃ t, execClrFirst w s = .next t ∧ Agree 13056 s t := by
  unfold execClrFirst
  refine ⟨_, rfl, ?_⟩
  repeat' (first | (intro x; first | (refine (fun (hx : Agree 13056 s x) => ?_) ?_; clear_value x; rotate_left; subst x) | subst x) | lift_lets -underBinder | with_reducible exact Agree.refl _ _ | with_reducible assumption | with_reducible apply @agree_fltCtrl 13056 _ (by decide) | with_reducible apply @agree_rpWrite 13056 _ (by decide) | with_reducible refine Agree.of_snd (by assumption) ?_ | with_reducible refine Agree.of_fst (by assumption) ?_ | split | dsimp only | (intro t ht; with_reducible assumption) | intro)

theorem agree_execUnlatchClass (c : Fin 4) (s : State) : ∃ t, execUnlatchClass c s = .next t ∧ Agree 12548 s t := by
  unfold execUnlatchClass
  refine ⟨_, rfl, ?_⟩
  repeat' (first | (intro x; first | (refine (fun (hx : Agree 12548 s x) => ?_) ?_; clear_value x; rotate_left; subst x) | subst x) | lift_lets -underBinder | with_reducible exact Agree.refl _ _ | with_reducible assumption | with_reducible apply @agree_unlatchClass 12548 _ (by decide) | with_reducible apply @agree_rpWrite 12548 _ (by decide) | with_reducible refine Agree.of_snd (by assumption) ?_ | with_reducible refine Agree.of_fst (by assumption) ?_ | split | dsimp only | (intro t ht; with_reducible assumption) | intro)

theorem agree_execForceWrite (i : Fin 8) (w : Word) (s : State) : ∃ t, execForceWrite i w s = .next t ∧ Agree 12544 s t := by
  unfold execForceWrite
  refine ⟨_, rfl, ?_⟩
  repeat' (first | (intro x; first | (refine (fun (hx : Agree 12544 s x) => ?_) ?_; clear_value x; rotate_left; subst x) | subst x) | lift_lets -underBinder | with_reducible exact Agree.refl _ _ | with_reducible assumption | with_reducible apply @agree_forceWrite 12544 _ (by decide) | with_reducible apply @agree_rpWrite 12544 _ (by decide) | with_reducible refine Agree.of_snd (by assumption) ?_ | with_reducible refine Agree.of_fst (by assumption) ?_ | split | dsimp only | (intro t ht; with_reducible assumption) | intro)

theorem agree_execForcePbWrite (i : Fin 8) (w : Word) (s : State) : ∃ t, execForcePbWrite i w s = .next t ∧ Agree 12544 s t := by
  unfold execForcePbWrite
  refine ⟨_, rfl, ?_⟩
  repeat' (first | (intro x; first | (refine (fun (hx : Agree 12544 s x) => ?_) ?_; clear_value x; rotate_left; subst x) | subst x) | lift_lets -underBinder | with_reducible exact Agree.refl _ _ | with_reducible assumption | with_reducible apply @agree_forcePbWrite 12544 _ (by decide) | with_reducible apply @agree_rpWrite 12544 _ (by decide) | with_reducible refine Agree.of_snd (by assumption) ?_ | with_reducible refine Agree.of_fst (by assumption) ?_ | split | dsimp only | (intro t ht; with_reducible assumption) | intro)

theorem agree_execIsoClear (hi : Bool) (w : Word) (s : State) : ∃ t, execIsoClear hi w s = .next t ∧ Agree 12544 s t := by
  unfold execIsoClear
  refine ⟨_, rfl, ?_⟩
  repeat' (first | (intro x; first | (refine (fun (hx : Agree 12544 s x) => ?_) ?_; clear_value x; rotate_left; subst x) | subst x) | lift_lets -underBinder | with_reducible exact Agree.refl _ _ | with_reducible assumption | with_reducible apply @agree_isoClear 12544 _ (by decide) | with_reducible apply @agree_rpWrite 12544 _ (by decide) | with_reducible refine Agree.of_snd (by assumption) ?_ | with_reducible refine Agree.of_fst (by assumption) ?_ | split | dsimp only | (intro t ht; with_reducible assumption) | intro)

theorem agree_execEpochClose (s : State) : ∃ t, execEpochClose s = .next t ∧ Agree 49216 s t := by
  unfold execEpochClose
  refine ⟨_, rfl, ?_⟩
  repeat' (first | (intro x; first | (refine (fun (hx : Agree 49216 s x) => ?_) ?_; clear_value x; rotate_left; subst x) | subst x) | lift_lets -underBinder | with_reducible exact Agree.refl _ _ | with_reducible assumption | with_reducible apply @agree_epochRegular 49216 _ (by decide) | with_reducible apply @agree_onCtl 49216 _ (by decide) | with_reducible refine Agree.of_snd (by assumption) ?_ | with_reducible refine Agree.of_fst (by assumption) ?_ | split | dsimp only | (intro t ht; with_reducible assumption) | intro)

theorem agree_execEpochCloseDeferred (s : State) : ∃ t, execEpochCloseDeferred s = .next t ∧ Agree 49216 s t := by
  unfold execEpochCloseDeferred
  refine ⟨_, rfl, ?_⟩
  repeat' (first | (intro x; first | (refine (fun (hx : Agree 49216 s x) => ?_) ?_; clear_value x; rotate_left; subst x) | subst x) | lift_lets -underBinder | with_reducible exact Agree.refl _ _ | with_reducible assumption | with_reducible apply @agree_epochDeferred 49216 _ (by decide) | with_reducible apply @agree_onCtl 49216 _ (by decide) | with_reducible refine Agree.of_snd (by assumption) ?_ | with_reducible refine Agree.of_fst (by assumption) ?_ | split | dsimp only | (intro t ht; with_reducible assumption) | intro)

theorem agree_execHistogramTick (s : State) : ∃ t, execHistogramTick s = .next t ∧ Agree 16384 s t := by
  unfold execHistogramTick
  refine ⟨_, rfl, ?_⟩
  repeat' (first | (intro x; first | (refine (fun (hx : Agree 16384 s x) => ?_) ?_; clear_value x; rotate_left; subst x) | subst x) | lift_lets -underBinder | with_reducible exact Agree.refl _ _ | with_reducible assumption | with_reducible apply @agree_histTick 16384 _ (by decide) | with_reducible apply @agree_onCtl 16384 _ (by decide) | with_reducible refine Agree.of_snd (by assumption) ?_ | with_reducible refine Agree.of_fst (by assumption) ?_ | split | dsimp only | (intro t ht; with_reducible assumption) | intro)

theorem agree_execLedgerRecordWrite (s : State) : ∃ t, execLedgerRecordWrite s = .next t ∧ Agree 16640 s t := by
  unfold execLedgerRecordWrite
  refine ⟨_, rfl, ?_⟩
  repeat' (first | (intro x; first | (refine (fun (hx : Agree 16640 s x) => ?_) ?_; clear_value x; rotate_left; subst x) | subst x) | lift_lets -underBinder | with_reducible exact Agree.refl _ _ | with_reducible assumption | with_reducible apply @agree_ledgerWrite 16640 _ (by decide) | with_reducible apply @agree_onCtl 16640 _ (by decide) | with_reducible refine Agree.of_snd (by assumption) ?_ | with_reducible refine Agree.of_fst (by assumption) ?_ | split | dsimp only | (intro t ht; with_reducible assumption) | intro)

theorem agree_execNorOpComplete (dev : Fin 2) (res : NorRes) (s : State) : ∃ t, execNorOpComplete dev res s = .next t ∧ Agree 55175436 s t := by
  unfold execNorOpComplete
  refine ⟨_, rfl, ?_⟩
  repeat' (first | (intro x; first | (refine (fun (hx : Agree 55175436 s x) => ?_) ?_; clear_value x; rotate_left; subst x) | subst x) | lift_lets -underBinder | with_reducible exact Agree.refl _ _ | with_reducible assumption | with_reducible apply @agree_reportWritten 55175436 _ (by decide) | with_reducible apply @agree_norComplete 55175436 _ (by decide) | with_reducible apply @agree_onCtl 55175436 _ (by decide) | with_reducible apply @agree_slotWritePoll 55175436 _ (by decide) | with_reducible refine Agree.of_snd (by assumption) ?_ | with_reducible refine Agree.of_fst (by assumption) ?_ | split | dsimp only | (intro t ht; with_reducible assumption) | intro)

theorem agree_execNorProbe (dev : Fin 2) (sfdp : Sfdp) (content : Option (List Host.Cell)) (s : State) : ∃ t, execNorProbe dev sfdp content s = .next t ∧ Agree 24584 s t := by
  unfold execNorProbe
  refine ⟨_, rfl, ?_⟩
  repeat' (first | (intro x; first | (refine (fun (hx : Agree 24584 s x) => ?_) ?_; clear_value x; rotate_left; subst x) | subst x) | lift_lets -underBinder | with_reducible exact Agree.refl _ _ | with_reducible assumption | with_reducible apply @agree_norProbe 24584 _ (by decide) | with_reducible apply @agree_onCtl 24584 _ (by decide) | with_reducible refine Agree.of_snd (by assumption) ?_ | with_reducible refine Agree.of_fst (by assumption) ?_ | split | dsimp only | (intro t ht; with_reducible assumption) | intro)

theorem agree_execResilverDone (s : State) : ∃ t, execResilverDone s = .next t ∧ Agree 24832 s t := by
  unfold execResilverDone
  refine ⟨_, rfl, ?_⟩
  repeat' (first | (intro x; first | (refine (fun (hx : Agree 24832 s x) => ?_) ?_; clear_value x; rotate_left; subst x) | subst x) | lift_lets -underBinder | with_reducible exact Agree.refl _ _ | with_reducible assumption | with_reducible apply @agree_onCtl 24832 _ (by decide) | with_reducible apply @agree_resilverDone 24832 _ (by decide) | with_reducible refine Agree.of_snd (by assumption) ?_ | with_reducible refine Agree.of_fst (by assumption) ?_ | split | dsimp only | (intro t ht; with_reducible assumption) | intro)

theorem agree_execLedgerScanDone (s : State) : ∃ t, execLedgerScanDone s = .next t ∧ Agree 4251916 s t := by
  unfold execLedgerScanDone
  refine ⟨_, rfl, ?_⟩
  repeat' (first | (intro x; first | (refine (fun (hx : Agree 4251916 s x) => ?_) ?_; clear_value x; rotate_left; subst x) | subst x) | lift_lets -underBinder | with_reducible exact Agree.refl _ _ | with_reducible assumption | with_reducible apply @agree_ledgerScan 4251916 _ (by decide) | with_reducible refine Agree.of_snd (by assumption) ?_ | with_reducible refine Agree.of_fst (by assumption) ?_ | split | dsimp only | (intro t ht; with_reducible assumption) | intro)

theorem agree_execWallCommit (hi : Word) (s : State) : ∃ t, execWallCommit hi s = .next t ∧ Agree 20740 s t := by
  unfold execWallCommit
  refine ⟨_, rfl, ?_⟩
  repeat' (first | (intro x; first | (refine (fun (hx : Agree 20740 s x) => ?_) ?_; clear_value x; rotate_left; subst x) | subst x) | lift_lets -underBinder | with_reducible exact Agree.refl _ _ | with_reducible assumption | with_reducible apply @agree_wallCommit 20740 _ (by decide) | with_reducible apply @agree_rpWrite 20740 _ (by decide) | with_reducible refine Agree.of_snd (by assumption) ?_ | with_reducible refine Agree.of_fst (by assumption) ?_ | split | dsimp only | (intro t ht; with_reducible assumption) | intro)

theorem agree_execEpochNow (w : Word) (s : State) : ∃ t, execEpochNow w s = .next t ∧ Agree 21248 s t := by
  unfold execEpochNow
  refine ⟨_, rfl, ?_⟩
  repeat' (first | (intro x; first | (refine (fun (hx : Agree 21248 s x) => ?_) ?_; clear_value x; rotate_left; subst x) | subst x) | lift_lets -underBinder | with_reducible exact Agree.refl _ _ | with_reducible assumption | with_reducible apply @agree_ledgCtrl 21248 _ (by decide) | with_reducible apply @agree_rpWrite 21248 _ (by decide) | with_reducible refine Agree.of_snd (by assumption) ?_ | with_reducible refine Agree.of_fst (by assumption) ?_ | split | dsimp only | (intro t ht; with_reducible assumption) | intro)

theorem agree_execLedgerExport (s : State) : ∃ t, execLedgerExport s = .next t ∧ Agree 22784 s t := by
  unfold execLedgerExport
  refine ⟨_, rfl, ?_⟩
  repeat' (first | (intro x; first | (refine (fun (hx : Agree 22784 s x) => ?_) ?_; clear_value x; rotate_left; subst x) | subst x) | lift_lets -underBinder | with_reducible exact Agree.refl _ _ | with_reducible assumption | with_reducible apply @agree_cmdExport 22784 _ (by decide) | with_reducible apply @agree_topCode 22784 _ (by decide) | with_reducible refine Agree.of_snd (by assumption) ?_ | with_reducible refine Agree.of_fst (by assumption) ?_ | split | dsimp only | (intro t ht; with_reducible assumption) | intro)

theorem agree_execExportRelease (s : State) : ∃ t, execExportRelease s = .next t ∧ Agree 20736 s t := by
  unfold execExportRelease
  refine ⟨_, rfl, ?_⟩
  repeat' (first | (intro x; first | (refine (fun (hx : Agree 20736 s x) => ?_) ?_; clear_value x; rotate_left; subst x) | subst x) | lift_lets -underBinder | with_reducible exact Agree.refl _ _ | with_reducible assumption | with_reducible apply @agree_clearHold 20736 _ (by decide) | with_reducible apply @agree_rpWrite 20736 _ (by decide) | with_reducible refine Agree.of_snd (by assumption) ?_ | with_reducible refine Agree.of_fst (by assumption) ?_ | split | dsimp only | (intro t ht; with_reducible assumption) | intro)

theorem agree_execExportHoldTimeout (s : State) : ∃ t, execExportHoldTimeout s = .next t ∧ Agree 16384 s t := by
  unfold execExportHoldTimeout
  refine ⟨_, rfl, ?_⟩
  repeat' (first | (intro x; first | (refine (fun (hx : Agree 16384 s x) => ?_) ?_; clear_value x; rotate_left; subst x) | subst x) | lift_lets -underBinder | with_reducible exact Agree.refl _ _ | with_reducible assumption | with_reducible apply @agree_clearHold 16384 _ (by decide) | with_reducible apply @agree_onCtl 16384 _ (by decide) | with_reducible refine Agree.of_snd (by assumption) ?_ | with_reducible refine Agree.of_fst (by assumption) ?_ | split | dsimp only | (intro t ht; with_reducible assumption) | intro)

theorem agree_execEvqPop (s : State) : ∃ t, execEvqPop s = .next t ∧ Agree 20736 s t := by
  unfold execEvqPop
  refine ⟨_, rfl, ?_⟩
  repeat' (first | (intro x; first | (refine (fun (hx : Agree 20736 s x) => ?_) ?_; clear_value x; rotate_left; subst x) | subst x) | lift_lets -underBinder | with_reducible exact Agree.refl _ _ | with_reducible assumption | with_reducible apply @agree_evqPop 20736 _ (by decide) | with_reducible apply @agree_rpWrite 20736 _ (by decide) | with_reducible refine Agree.of_snd (by assumption) ?_ | with_reducible refine Agree.of_fst (by assumption) ?_ | split | dsimp only | (intro t ht; with_reducible assumption) | intro)

theorem agree_execEvqRead (s : State) : ∃ t, execEvqRead s = .next t ∧ Agree 17985921 s t := by
  unfold execEvqRead
  refine ⟨_, rfl, ?_⟩
  repeat' (first | (intro x; first | (refine (fun (hx : Agree 17985921 s x) => ?_) ?_; clear_value x; rotate_left; subst x) | subst x) | lift_lets -underBinder | with_reducible exact Agree.refl _ _ | with_reducible assumption | with_reducible apply @agree_regRead 17985921 _ (by decide) | with_reducible refine Agree.of_snd (by assumption) ?_ | with_reducible refine Agree.of_fst (by assumption) ?_ | split | dsimp only | (intro t ht; with_reducible assumption) | intro)

theorem agree_execLedgerWindowRead (ofs : BitVec 22) (s : State) : ∃ t, execLedgerWindowRead ofs s = .next t ∧ Agree 17985921 s t := by
  unfold execLedgerWindowRead
  refine ⟨_, rfl, ?_⟩
  repeat' (first | (intro x; first | (refine (fun (hx : Agree 17985921 s x) => ?_) ?_; clear_value x; rotate_left; subst x) | subst x) | lift_lets -underBinder | with_reducible exact Agree.refl _ _ | with_reducible assumption | with_reducible apply @agree_regRead 17985921 _ (by decide) | with_reducible refine Agree.of_snd (by assumption) ?_ | with_reducible refine Agree.of_fst (by assumption) ?_ | split | dsimp only | (intro t ht; with_reducible assumption) | intro)

theorem agree_execBimgSelect (s : State) : ∃ t, execBimgSelect s = .next t ∧ Agree 50979076 s t := by
  unfold execBimgSelect
  refine ⟨_, rfl, ?_⟩
  repeat' (first | (intro x; first | (refine (fun (hx : Agree 50979076 s x) => ?_) ?_; clear_value x; rotate_left; subst x) | subst x) | lift_lets -underBinder | with_reducible exact Agree.refl _ _ | with_reducible assumption | with_reducible apply @agree_bimgSelect 50979076 _ (by decide) | with_reducible refine Agree.of_snd (by assumption) ?_ | with_reducible refine Agree.of_fst (by assumption) ?_ | split | dsimp only | (intro t ht; with_reducible assumption) | intro)

theorem agree_execBimgRescan (w : Word) (s : State) : ∃ t, execBimgRescan w s = .next t ∧ Agree 50983684 s t := by
  unfold execBimgRescan
  refine ⟨_, rfl, ?_⟩
  repeat' (first | (intro x; first | (refine (fun (hx : Agree 50983684 s x) => ?_) ?_; clear_value x; rotate_left; subst x) | subst x) | lift_lets -underBinder | with_reducible exact Agree.refl _ _ | with_reducible assumption | with_reducible apply @agree_bimgRescan 50983684 _ (by decide) | with_reducible apply @agree_setCtrl 50983684 _ (by decide) | with_reducible apply @agree_rpWrite 50983684 _ (by decide) | with_reducible refine Agree.of_snd (by assumption) ?_ | with_reducible refine Agree.of_fst (by assumption) ?_ | split | dsimp only | (intro t ht; with_reducible assumption) | intro)

theorem agree_execSlotWrite (s : State) : ∃ t, execSlotWrite s = .next t ∧ Agree 55552 s t := by
  unfold execSlotWrite
  refine ⟨_, rfl, ?_⟩
  repeat' (first | (intro x; first | (refine (fun (hx : Agree 55552 s x) => ?_) ?_; clear_value x; rotate_left; subst x) | subst x) | lift_lets -underBinder | with_reducible exact Agree.refl _ _ | with_reducible assumption | with_reducible apply @agree_cmdSlotWrite 55552 _ (by decide) | with_reducible apply @agree_topCode 55552 _ (by decide) | with_reducible refine Agree.of_snd (by assumption) ?_ | with_reducible refine Agree.of_fst (by assumption) ?_ | split | dsimp only | (intro t ht; with_reducible assumption) | intro)

theorem agree_execTuningReload (s : State) : ∃ t, execTuningReload s = .next t ∧ Agree 55553 s t := by
  unfold execTuningReload
  refine ⟨_, rfl, ?_⟩
  repeat' (first | (intro x; first | (refine (fun (hx : Agree 55553 s x) => ?_) ?_; clear_value x; rotate_left; subst x) | subst x) | lift_lets -underBinder | with_reducible exact Agree.refl _ _ | with_reducible assumption | with_reducible apply @agree_cmdReload 55553 _ (by decide) | with_reducible apply @agree_topCode 55553 _ (by decide) | with_reducible refine Agree.of_snd (by assumption) ?_ | with_reducible refine Agree.of_fst (by assumption) ?_ | split | dsimp only | (intro t ht; with_reducible assumption) | intro)

theorem agree_execCounterAdvance (s : State) : ∃ t, execCounterAdvance s = .next t ∧ Agree 39168 s t := by
  unfold execCounterAdvance
  refine ⟨_, rfl, ?_⟩
  repeat' (first | (intro x; first | (refine (fun (hx : Agree 39168 s x) => ?_) ?_; clear_value x; rotate_left; subst x) | subst x) | lift_lets -underBinder | with_reducible exact Agree.refl _ _ | with_reducible assumption | with_reducible apply @agree_cmdCounter 39168 _ (by decide) | with_reducible apply @agree_topCode 39168 _ (by decide) | with_reducible refine Agree.of_snd (by assumption) ?_ | with_reducible refine Agree.of_fst (by assumption) ?_ | split | dsimp only | (intro t ht; with_reducible assumption) | intro)

theorem agree_execKeyFuse (s : State) : ∃ t, execKeyFuse s = .next t ∧ Agree 39200 s t := by
  unfold execKeyFuse
  refine ⟨_, rfl, ?_⟩
  repeat' (first | (intro x; first | (refine (fun (hx : Agree 39200 s x) => ?_) ?_; clear_value x; rotate_left; subst x) | subst x) | lift_lets -underBinder | with_reducible exact Agree.refl _ _ | with_reducible assumption | with_reducible apply @agree_cmdKeyFuse 39200 _ (by decide) | with_reducible apply @agree_topCode 39200 _ (by decide) | with_reducible refine Agree.of_snd (by assumption) ?_ | with_reducible refine Agree.of_fst (by assumption) ?_ | split | dsimp only | (intro t ht; with_reducible assumption) | intro)

theorem agree_execCalibrationSave (s : State) : ∃ t, execCalibrationSave s = .next t ∧ Agree 4200704 s t := by
  unfold execCalibrationSave
  refine ⟨_, rfl, ?_⟩
  repeat' (first | (intro x; first | (refine (fun (hx : Agree 4200704 s x) => ?_) ?_; clear_value x; rotate_left; subst x) | subst x) | lift_lets -underBinder | with_reducible exact Agree.refl _ _ | with_reducible assumption | with_reducible apply @agree_cmdCal 4200704 _ (by decide) | with_reducible apply @agree_topCode 4200704 _ (by decide) | with_reducible refine Agree.of_snd (by assumption) ?_ | with_reducible refine Agree.of_fst (by assumption) ?_ | split | dsimp only | (intro t ht; with_reducible assumption) | intro)

theorem agree_execHostShutdown (s : State) : ∃ t, execHostShutdown s = .next t ∧ Agree 6528 s t := by
  unfold execHostShutdown
  refine ⟨_, rfl, ?_⟩
  repeat' (first | (intro x; first | (refine (fun (hx : Agree 6528 s x) => ?_) ?_; clear_value x; rotate_left; subst x) | subst x) | lift_lets -underBinder | with_reducible exact Agree.refl _ _ | with_reducible assumption | with_reducible apply @agree_cmdShutdown 6528 _ (by decide) | with_reducible apply @agree_topCode 6528 _ (by decide) | with_reducible refine Agree.of_snd (by assumption) ?_ | with_reducible refine Agree.of_fst (by assumption) ?_ | split | dsimp only | (intro t ht; with_reducible assumption) | intro)

theorem agree_execUnlatch (s : State) : ∃ t, execUnlatch s = .next t ∧ Agree 72064 s t := by
  unfold execUnlatch
  refine ⟨_, rfl, ?_⟩
  repeat' (first | (intro x; first | (refine (fun (hx : Agree 72064 s x) => ?_) ?_; clear_value x; rotate_left; subst x) | subst x) | lift_lets -underBinder | with_reducible exact Agree.refl _ _ | with_reducible assumption | with_reducible apply @agree_cmdUnlatch 72064 _ (by decide) | with_reducible apply @agree_topCode 72064 _ (by decide) | with_reducible refine Agree.of_snd (by assumption) ?_ | with_reducible refine Agree.of_fst (by assumption) ?_ | split | dsimp only | (intro t ht; with_reducible assumption) | intro)

theorem agree_execLeaveService (s : State) : ∃ t, execLeaveService s = .next t ∧ Agree 6528 s t := by
  unfold execLeaveService
  refine ⟨_, rfl, ?_⟩
  repeat' (first | (intro x; first | (refine (fun (hx : Agree 6528 s x) => ?_) ?_; clear_value x; rotate_left; subst x) | subst x) | lift_lets -underBinder | with_reducible exact Agree.refl _ _ | with_reducible assumption | with_reducible apply @agree_cmdLeave 6528 _ (by decide) | with_reducible apply @agree_topCode 6528 _ (by decide) | with_reducible refine Agree.of_snd (by assumption) ?_ | with_reducible refine Agree.of_fst (by assumption) ?_ | split | dsimp only | (intro t ht; with_reducible assumption) | intro)

theorem agree_execCmdInvalid (w : Word) (s : State) : ∃ t, execCmdInvalid w s = .next t ∧ Agree 6400 s t := by
  unfold execCmdInvalid
  refine ⟨_, rfl, ?_⟩
  repeat' (first | (intro x; first | (refine (fun (hx : Agree 6400 s x) => ?_) ?_; clear_value x; rotate_left; subst x) | subst x) | lift_lets -underBinder | with_reducible exact Agree.refl _ _ | with_reducible assumption | with_reducible apply @agree_cmdInvalid 6400 _ (by decide) | with_reducible apply @agree_topCode 6400 _ (by decide) | with_reducible refine Agree.of_snd (by assumption) ?_ | with_reducible refine Agree.of_fst (by assumption) ?_ | split | dsimp only | (intro t ht; with_reducible assumption) | intro)

theorem agree_execAbort (s : State) : ∃ t, execAbort s = .next t ∧ Agree 33560832 s t := by
  unfold execAbort
  refine ⟨_, rfl, ?_⟩
  repeat' (first | (intro x; first | (refine (fun (hx : Agree 33560832 s x) => ?_) ?_; clear_value x; rotate_left; subst x) | subst x) | lift_lets -underBinder | with_reducible exact Agree.refl _ _ | with_reducible assumption | with_reducible apply @agree_abortWrite 33560832 _ (by decide) | with_reducible apply @agree_rpAt 33560832 _ (by decide) | with_reducible refine Agree.of_snd (by assumption) ?_ | with_reducible refine Agree.of_fst (by assumption) ?_ | split | dsimp only | (intro t ht; with_reducible assumption) | intro)

theorem agree_execTestTrip (w : Word) (also : BitVec 8) (s : State) : ∃ t, execTestTrip w also s = .next t ∧ Agree 50330501 s t := by
  unfold execTestTrip
  refine ⟨_, rfl, ?_⟩
  repeat' (first | (intro x; first | (refine (fun (hx : Agree 50330501 s x) => ?_) ?_; clear_value x; rotate_left; subst x) | subst x) | lift_lets -underBinder | with_reducible exact Agree.refl _ _ | with_reducible assumption | with_reducible apply @agree_testTrip 50330501 _ (by decide) | with_reducible apply @agree_rpWrite 50330501 _ (by decide) | with_reducible refine Agree.of_snd (by assumption) ?_ | with_reducible refine Agree.of_fst (by assumption) ?_ | split | dsimp only | (intro t ht; with_reducible assumption) | intro)

theorem agree_execPortDisable (p : Fin 64) (s : State) : ∃ t, execPortDisable p s = .next t ∧ Agree 14954752 s t := by
  unfold execPortDisable
  refine ⟨_, rfl, ?_⟩
  repeat' (first | (intro x; first | (refine (fun (hx : Agree 14954752 s x) => ?_) ?_; clear_value x; rotate_left; subst x) | subst x) | lift_lets -underBinder | with_reducible exact Agree.refl _ _ | with_reducible assumption | with_reducible apply @agree_portDisable 14954752 _ (by decide) | with_reducible apply @agree_rpAt 14954752 _ (by decide) | with_reducible refine Agree.of_snd (by assumption) ?_ | with_reducible refine Agree.of_fst (by assumption) ?_ | split | dsimp only | (intro t ht; with_reducible assumption) | intro)

theorem agree_execPortEnable (p : Fin 64) (s : State) : ∃ t, execPortEnable p s = .next t ∧ Agree 4468992 s t := by
  unfold execPortEnable
  refine ⟨_, rfl, ?_⟩
  repeat' (first | (intro x; first | (refine (fun (hx : Agree 4468992 s x) => ?_) ?_; clear_value x; rotate_left; subst x) | subst x) | lift_lets -underBinder | with_reducible exact Agree.refl _ _ | with_reducible assumption | with_reducible apply @agree_portEnable 4468992 _ (by decide) | with_reducible apply @agree_rpAt 4468992 _ (by decide) | with_reducible refine Agree.of_snd (by assumption) ?_ | with_reducible refine Agree.of_fst (by assumption) ?_ | split | dsimp only | (intro t ht; with_reducible assumption) | intro)

theorem agree_execPortRetrain (p : Fin 64) (s : State) : ∃ t, execPortRetrain p s = .next t ∧ Agree 274688 s t := by
  unfold execPortRetrain
  refine ⟨_, rfl, ?_⟩
  repeat' (first | (intro x; first | (refine (fun (hx : Agree 274688 s x) => ?_) ?_; clear_value x; rotate_left; subst x) | subst x) | lift_lets -underBinder | with_reducible exact Agree.refl _ _ | with_reducible assumption | with_reducible apply @agree_toRecover 274688 _ (by decide) | with_reducible apply @agree_rpAt 274688 _ (by decide) | with_reducible refine Agree.of_snd (by assumption) ?_ | with_reducible refine Agree.of_fst (by assumption) ?_ | split | dsimp only | (intro t ht; with_reducible assumption) | intro)

theorem agree_execMarginRegWrite (w : Word) (s : State) : ∃ t, execMarginRegWrite w s = .next t ∧ Agree 528640 s t := by
  unfold execMarginRegWrite
  refine ⟨_, rfl, ?_⟩
  repeat' (first | (intro x; first | (refine (fun (hx : Agree 528640 s x) => ?_) ?_; clear_value x; rotate_left; subst x) | subst x) | lift_lets -underBinder | with_reducible exact Agree.refl _ _ | with_reducible assumption | with_reducible apply @agree_marginReg 528640 _ (by decide) | with_reducible apply @agree_rpWrite 528640 _ (by decide) | with_reducible refine Agree.of_snd (by assumption) ?_ | with_reducible refine Agree.of_fst (by assumption) ?_ | split | dsimp only | (intro t ht; with_reducible assumption) | intro)

theorem agree_execViewHoldWrite (w : Word) (s : State) : ∃ t, execViewHoldWrite w s = .next t ∧ Agree 528640 s t := by
  unfold execViewHoldWrite
  refine ⟨_, rfl, ?_⟩
  repeat' (first | (intro x; first | (refine (fun (hx : Agree 528640 s x) => ?_) ?_; clear_value x; rotate_left; subst x) | subst x) | lift_lets -underBinder | with_reducible exact Agree.refl _ _ | with_reducible assumption | with_reducible apply @agree_viewHold 528640 _ (by decide) | with_reducible apply @agree_rpWrite 528640 _ (by decide) | with_reducible refine Agree.of_snd (by assumption) ?_ | with_reducible refine Agree.of_fst (by assumption) ?_ | split | dsimp only | (intro t ht; with_reducible assumption) | intro)

theorem agree_execStageHostWrite (w : Word) (s : State) : ∃ t, execStageHostWrite w s = .next t ∧ Agree 2101504 s t := by
  unfold execStageHostWrite
  refine ⟨_, rfl, ?_⟩
  repeat' (first | (intro x; first | (refine (fun (hx : Agree 2101504 s x) => ?_) ?_; clear_value x; rotate_left; subst x) | subst x) | lift_lets -underBinder | with_reducible exact Agree.refl _ _ | with_reducible assumption | with_reducible apply @agree_stageHost 2101504 _ (by decide) | with_reducible apply @agree_rpWrite 2101504 _ (by decide) | with_reducible refine Agree.of_snd (by assumption) ?_ | with_reducible refine Agree.of_fst (by assumption) ?_ | split | dsimp only | (intro t ht; with_reducible assumption) | intro)

theorem agree_execTopStampRead (s : State) : ∃ t, execTopStampRead s = .next t ∧ Agree 17985921 s t := by
  unfold execTopStampRead
  refine ⟨_, rfl, ?_⟩
  repeat' (first | (intro x; first | (refine (fun (hx : Agree 17985921 s x) => ?_) ?_; clear_value x; rotate_left; subst x) | subst x) | lift_lets -underBinder | with_reducible exact Agree.refl _ _ | with_reducible assumption | with_reducible apply @agree_regRead 17985921 _ (by decide) | with_reducible refine Agree.of_snd (by assumption) ?_ | with_reducible refine Agree.of_fst (by assumption) ?_ | split | dsimp only | (intro t ht; with_reducible assumption) | intro)

theorem agree_execCauseRecordRead (last : Bool) (s : State) : ∃ t, execCauseRecordRead last s = .next t ∧ Agree 17985921 s t := by
  unfold execCauseRecordRead
  refine ⟨_, rfl, ?_⟩
  repeat' (first | (intro x; first | (refine (fun (hx : Agree 17985921 s x) => ?_) ?_; clear_value x; rotate_left; subst x) | subst x) | lift_lets -underBinder | with_reducible exact Agree.refl _ _ | with_reducible assumption | with_reducible apply @agree_regRead 17985921 _ (by decide) | with_reducible refine Agree.of_snd (by assumption) ?_ | with_reducible refine Agree.of_fst (by assumption) ?_ | split | dsimp only | (intro t ht; with_reducible assumption) | intro)

theorem agree_execWallLoRead (s : State) : ∃ t, execWallLoRead s = .next t ∧ Agree 17985921 s t := by
  unfold execWallLoRead
  refine ⟨_, rfl, ?_⟩
  repeat' (first | (intro x; first | (refine (fun (hx : Agree 17985921 s x) => ?_) ?_; clear_value x; rotate_left; subst x) | subst x) | lift_lets -underBinder | with_reducible exact Agree.refl _ _ | with_reducible assumption | with_reducible apply @agree_regRead 17985921 _ (by decide) | with_reducible refine Agree.of_snd (by assumption) ?_ | with_reducible refine Agree.of_fst (by assumption) ?_ | split | dsimp only | (intro t ht; with_reducible assumption) | intro)

theorem agree_execTimeLoRead (s : State) : ∃ t, execTimeLoRead s = .next t ∧ Agree 17985921 s t := by
  unfold execTimeLoRead
  refine ⟨_, rfl, ?_⟩
  repeat' (first | (intro x; first | (refine (fun (hx : Agree 17985921 s x) => ?_) ?_; clear_value x; rotate_left; subst x) | subst x) | lift_lets -underBinder | with_reducible exact Agree.refl _ _ | with_reducible assumption | with_reducible apply @agree_regRead 17985921 _ (by decide) | with_reducible refine Agree.of_snd (by assumption) ?_ | with_reducible refine Agree.of_fst (by assumption) ?_ | split | dsimp only | (intro t ht; with_reducible assumption) | intro)

theorem agree_execDescRead (ring : Fin 32) (s : State) : ∃ t, execDescRead ring s = .next t ∧ Agree 17985921 s t := by
  unfold execDescRead
  refine ⟨_, rfl, ?_⟩
  repeat' (first | (intro x; first | (refine (fun (hx : Agree 17985921 s x) => ?_) ?_; clear_value x; rotate_left; subst x) | subst x) | lift_lets -underBinder | with_reducible exact Agree.refl _ _ | with_reducible assumption | with_reducible apply @agree_regRead 17985921 _ (by decide) | with_reducible refine Agree.of_snd (by assumption) ?_ | with_reducible refine Agree.of_fst (by assumption) ?_ | split | dsimp only | (intro t ht; with_reducible assumption) | intro)

theorem agree_execStrLoRead (k : Fin 16) (which : Fin 3) (s : State) : ∃ t, execStrLoRead k which s = .next t ∧ Agree 17985921 s t := by
  unfold execStrLoRead
  refine ⟨_, rfl, ?_⟩
  repeat' (first | (intro x; first | (refine (fun (hx : Agree 17985921 s x) => ?_) ?_; clear_value x; rotate_left; subst x) | subst x) | lift_lets -underBinder | with_reducible exact Agree.refl _ _ | with_reducible assumption | with_reducible apply @agree_regRead 17985921 _ (by decide) | with_reducible refine Agree.of_snd (by assumption) ?_ | with_reducible refine Agree.of_fst (by assumption) ?_ | split | dsimp only | (intro t ht; with_reducible assumption) | intro)

theorem agree_execRegisterWrite (a : BitVec 32) (w : Word) (s : State) : ∃ t, execRegisterWrite a w s = .next t ∧ Agree 67108773 s t := by
  unfold execRegisterWrite
  refine ⟨_, rfl, ?_⟩
  repeat' (first | (intro x; first | (refine (fun (hx : Agree 67108773 s x) => ?_) ?_; clear_value x; rotate_left; subst x) | subst x) | lift_lets -underBinder | with_reducible exact Agree.refl _ _ | with_reducible assumption | with_reducible apply @agree_regWrite 67108773 _ (by decide) | with_reducible refine Agree.of_snd (by assumption) ?_ | with_reducible refine Agree.of_fst (by assumption) ?_ | split | dsimp only | (intro t ht; with_reducible assumption) | intro)

theorem agree_execClearFaults (pecOk : Bool) (s : State) : ∃ t, execClearFaults pecOk s = .next t ∧ Agree 4352 s t := by
  unfold execClearFaults
  refine ⟨_, rfl, ?_⟩
  repeat' (first | (intro x; first | (refine (fun (hx : Agree 4352 s x) => ?_) ?_; clear_value x; rotate_left; subst x) | subst x) | lift_lets -underBinder | with_reducible exact Agree.refl _ _ | with_reducible assumption | with_reducible apply @agree_clearCml 4352 _ (by decide) | with_reducible apply @agree_pmbWriteCmd 4352 _ (by decide) | with_reducible refine Agree.of_snd (by assumption) ?_ | with_reducible refine Agree.of_fst (by assumption) ?_ | split | dsimp only | (intro t ht; with_reducible assumption) | intro)

theorem agree_execCapability (s : State) : ∃ t, execCapability s = .next t ∧ Agree 4096 s t := by
  unfold execCapability
  refine ⟨_, rfl, ?_⟩
  repeat' (first | (intro x; first | (refine (fun (hx : Agree 4096 s x) => ?_) ?_; clear_value x; rotate_left; subst x) | subst x) | lift_lets -underBinder | with_reducible exact Agree.refl _ _ | with_reducible assumption | with_reducible apply @agree_pmbRead 4096 _ (by decide) | with_reducible refine Agree.of_snd (by assumption) ?_ | with_reducible refine Agree.of_fst (by assumption) ?_ | split | dsimp only | (intro t ht; with_reducible assumption) | intro)

theorem agree_execStatusByte (s : State) : ∃ t, execStatusByte s = .next t ∧ Agree 4096 s t := by
  unfold execStatusByte
  refine ⟨_, rfl, ?_⟩
  repeat' (first | (intro x; first | (refine (fun (hx : Agree 4096 s x) => ?_) ?_; clear_value x; rotate_left; subst x) | subst x) | lift_lets -underBinder | with_reducible exact Agree.refl _ _ | with_reducible assumption | with_reducible apply @agree_pmbRead 4096 _ (by decide) | with_reducible refine Agree.of_snd (by assumption) ?_ | with_reducible refine Agree.of_fst (by assumption) ?_ | split | dsimp only | (intro t ht; with_reducible assumption) | intro)

theorem agree_execStatusWord (s : State) : ∃ t, execStatusWord s = .next t ∧ Agree 4096 s t := by
  unfold execStatusWord
  refine ⟨_, rfl, ?_⟩
  repeat' (first | (intro x; first | (refine (fun (hx : Agree 4096 s x) => ?_) ?_; clear_value x; rotate_left; subst x) | subst x) | lift_lets -underBinder | with_reducible exact Agree.refl _ _ | with_reducible assumption | with_reducible apply @agree_pmbRead 4096 _ (by decide) | with_reducible refine Agree.of_snd (by assumption) ?_ | with_reducible refine Agree.of_fst (by assumption) ?_ | split | dsimp only | (intro t ht; with_reducible assumption) | intro)

theorem agree_execStatusCml (s : State) : ∃ t, execStatusCml s = .next t ∧ Agree 4096 s t := by
  unfold execStatusCml
  refine ⟨_, rfl, ?_⟩
  repeat' (first | (intro x; first | (refine (fun (hx : Agree 4096 s x) => ?_) ?_; clear_value x; rotate_left; subst x) | subst x) | lift_lets -underBinder | with_reducible exact Agree.refl _ _ | with_reducible assumption | with_reducible apply @agree_pmbRead 4096 _ (by decide) | with_reducible refine Agree.of_snd (by assumption) ?_ | with_reducible refine Agree.of_fst (by assumption) ?_ | split | dsimp only | (intro t ht; with_reducible assumption) | intro)

theorem agree_execStatusMfrSpecific (s : State) : ∃ t, execStatusMfrSpecific s = .next t ∧ Agree 4096 s t := by
  unfold execStatusMfrSpecific
  refine ⟨_, rfl, ?_⟩
  repeat' (first | (intro x; first | (refine (fun (hx : Agree 4096 s x) => ?_) ?_; clear_value x; rotate_left; subst x) | subst x) | lift_lets -underBinder | with_reducible exact Agree.refl _ _ | with_reducible assumption | with_reducible apply @agree_pmbRead 4096 _ (by decide) | with_reducible refine Agree.of_snd (by assumption) ?_ | with_reducible refine Agree.of_fst (by assumption) ?_ | split | dsimp only | (intro t ht; with_reducible assumption) | intro)

theorem agree_execReadTemperature1 (s : State) : ∃ t, execReadTemperature1 s = .next t ∧ Agree 4097 s t := by
  unfold execReadTemperature1
  refine ⟨_, rfl, ?_⟩
  repeat' (first | (intro x; first | (refine (fun (hx : Agree 4097 s x) => ?_) ?_; clear_value x; rotate_left; subst x) | subst x) | lift_lets -underBinder | with_reducible exact Agree.refl _ _ | with_reducible assumption | with_reducible apply @agree_tick 4097 _ (by decide) | with_reducible apply @agree_onCtl 4097 _ (by decide) | with_reducible apply @agree_pmbRead 4097 _ (by decide) | with_reducible refine Agree.of_snd (by assumption) ?_ | with_reducible refine Agree.of_fst (by assumption) ?_ | split | dsimp only | (intro t ht; with_reducible assumption) | intro)

theorem agree_execPmbusRevision (s : State) : ∃ t, execPmbusRevision s = .next t ∧ Agree 4096 s t := by
  unfold execPmbusRevision
  refine ⟨_, rfl, ?_⟩
  repeat' (first | (intro x; first | (refine (fun (hx : Agree 4096 s x) => ?_) ?_; clear_value x; rotate_left; subst x) | subst x) | lift_lets -underBinder | with_reducible exact Agree.refl _ _ | with_reducible assumption | with_reducible apply @agree_pmbRead 4096 _ (by decide) | with_reducible refine Agree.of_snd (by assumption) ?_ | with_reducible refine Agree.of_fst (by assumption) ?_ | split | dsimp only | (intro t ht; with_reducible assumption) | intro)

theorem agree_execMfrId (s : State) : ∃ t, execMfrId s = .next t ∧ Agree 4096 s t := by
  unfold execMfrId
  refine ⟨_, rfl, ?_⟩
  repeat' (first | (intro x; first | (refine (fun (hx : Agree 4096 s x) => ?_) ?_; clear_value x; rotate_left; subst x) | subst x) | lift_lets -underBinder | with_reducible exact Agree.refl _ _ | with_reducible assumption | with_reducible apply @agree_pmbRead 4096 _ (by decide) | with_reducible refine Agree.of_snd (by assumption) ?_ | with_reducible refine Agree.of_fst (by assumption) ?_ | split | dsimp only | (intro t ht; with_reducible assumption) | intro)

theorem agree_execMfrModel (s : State) : ∃ t, execMfrModel s = .next t ∧ Agree 4096 s t := by
  unfold execMfrModel
  refine ⟨_, rfl, ?_⟩
  repeat' (first | (intro x; first | (refine (fun (hx : Agree 4096 s x) => ?_) ?_; clear_value x; rotate_left; subst x) | subst x) | lift_lets -underBinder | with_reducible exact Agree.refl _ _ | with_reducible assumption | with_reducible apply @agree_pmbRead 4096 _ (by decide) | with_reducible refine Agree.of_snd (by assumption) ?_ | with_reducible refine Agree.of_fst (by assumption) ?_ | split | dsimp only | (intro t ht; with_reducible assumption) | intro)

theorem agree_execMfrRevision (s : State) : ∃ t, execMfrRevision s = .next t ∧ Agree 4096 s t := by
  unfold execMfrRevision
  refine ⟨_, rfl, ?_⟩
  repeat' (first | (intro x; first | (refine (fun (hx : Agree 4096 s x) => ?_) ?_; clear_value x; rotate_left; subst x) | subst x) | lift_lets -underBinder | with_reducible exact Agree.refl _ _ | with_reducible assumption | with_reducible apply @agree_pmbRead 4096 _ (by decide) | with_reducible refine Agree.of_snd (by assumption) ?_ | with_reducible refine Agree.of_fst (by assumption) ?_ | split | dsimp only | (intro t ht; with_reducible assumption) | intro)

theorem agree_execMfrSerial (s : State) : ∃ t, execMfrSerial s = .next t ∧ Agree 4096 s t := by
  unfold execMfrSerial
  refine ⟨_, rfl, ?_⟩
  repeat' (first | (intro x; first | (refine (fun (hx : Agree 4096 s x) => ?_) ?_; clear_value x; rotate_left; subst x) | subst x) | lift_lets -underBinder | with_reducible exact Agree.refl _ _ | with_reducible assumption | with_reducible apply @agree_pmbRead 4096 _ (by decide) | with_reducible refine Agree.of_snd (by assumption) ?_ | with_reducible refine Agree.of_fst (by assumption) ?_ | split | dsimp only | (intro t ht; with_reducible assumption) | intro)

theorem agree_execMfrHzState (s : State) : ∃ t, execMfrHzState s = .next t ∧ Agree 4096 s t := by
  unfold execMfrHzState
  refine ⟨_, rfl, ?_⟩
  repeat' (first | (intro x; first | (refine (fun (hx : Agree 4096 s x) => ?_) ?_; clear_value x; rotate_left; subst x) | subst x) | lift_lets -underBinder | with_reducible exact Agree.refl _ _ | with_reducible assumption | with_reducible apply @agree_pmbRead 4096 _ (by decide) | with_reducible refine Agree.of_snd (by assumption) ?_ | with_reducible refine Agree.of_fst (by assumption) ?_ | split | dsimp only | (intro t ht; with_reducible assumption) | intro)

theorem agree_execMfrHzSave (s : State) : ∃ t, execMfrHzSave s = .next t ∧ Agree 4096 s t := by
  unfold execMfrHzSave
  refine ⟨_, rfl, ?_⟩
  repeat' (first | (intro x; first | (refine (fun (hx : Agree 4096 s x) => ?_) ?_; clear_value x; rotate_left; subst x) | subst x) | lift_lets -underBinder | with_reducible exact Agree.refl _ _ | with_reducible assumption | with_reducible apply @agree_pmbRead 4096 _ (by decide) | with_reducible refine Agree.of_snd (by assumption) ?_ | with_reducible refine Agree.of_fst (by assumption) ?_ | split | dsimp only | (intro t ht; with_reducible assumption) | intro)

theorem agree_execMfrHzStake (s : State) : ∃ t, execMfrHzStake s = .next t ∧ Agree 4096 s t := by
  unfold execMfrHzStake
  refine ⟨_, rfl, ?_⟩
  repeat' (first | (intro x; first | (refine (fun (hx : Agree 4096 s x) => ?_) ?_; clear_value x; rotate_left; subst x) | subst x) | lift_lets -underBinder | with_reducible exact Agree.refl _ _ | with_reducible assumption | with_reducible apply @agree_pmbRead 4096 _ (by decide) | with_reducible refine Agree.of_snd (by assumption) ?_ | with_reducible refine Agree.of_fst (by assumption) ?_ | split | dsimp only | (intro t ht; with_reducible assumption) | intro)

theorem agree_execMfrHzEnergy (s : State) : ∃ t, execMfrHzEnergy s = .next t ∧ Agree 4096 s t := by
  unfold execMfrHzEnergy
  refine ⟨_, rfl, ?_⟩
  repeat' (first | (intro x; first | (refine (fun (hx : Agree 4096 s x) => ?_) ?_; clear_value x; rotate_left; subst x) | subst x) | lift_lets -underBinder | with_reducible exact Agree.refl _ _ | with_reducible assumption | with_reducible apply @agree_pmbRead 4096 _ (by decide) | with_reducible refine Agree.of_snd (by assumption) ?_ | with_reducible refine Agree.of_fst (by assumption) ?_ | split | dsimp only | (intro t ht; with_reducible assumption) | intro)

theorem agree_execMfrHzVault (s : State) : ∃ t, execMfrHzVault s = .next t ∧ Agree 4096 s t := by
  unfold execMfrHzVault
  refine ⟨_, rfl, ?_⟩
  repeat' (first | (intro x; first | (refine (fun (hx : Agree 4096 s x) => ?_) ?_; clear_value x; rotate_left; subst x) | subst x) | lift_lets -underBinder | with_reducible exact Agree.refl _ _ | with_reducible assumption | with_reducible apply @agree_pmbRead 4096 _ (by decide) | with_reducible refine Agree.of_snd (by assumption) ?_ | with_reducible refine Agree.of_fst (by assumption) ?_ | split | dsimp only | (intro t ht; with_reducible assumption) | intro)

theorem agree_execMfrHzFault (s : State) : ∃ t, execMfrHzFault s = .next t ∧ Agree 4096 s t := by
  unfold execMfrHzFault
  refine ⟨_, rfl, ?_⟩
  repeat' (first | (intro x; first | (refine (fun (hx : Agree 4096 s x) => ?_) ?_; clear_value x; rotate_left; subst x) | subst x) | lift_lets -underBinder | with_reducible exact Agree.refl _ _ | with_reducible assumption | with_reducible apply @agree_pmbRead 4096 _ (by decide) | with_reducible refine Agree.of_snd (by assumption) ?_ | with_reducible refine Agree.of_fst (by assumption) ?_ | split | dsimp only | (intro t ht; with_reducible assumption) | intro)

theorem agree_execMfrHzRegAddr (pecOk : Bool) (bytes : List Byte) (s : State) : ∃ t, execMfrHzRegAddr pecOk bytes s = .next t ∧ Agree 4352 s t := by
  unfold execMfrHzRegAddr
  refine ⟨_, rfl, ?_⟩
  repeat' (first | (intro x; first | (refine (fun (hx : Agree 4352 s x) => ?_) ?_; clear_value x; rotate_left; subst x) | subst x) | lift_lets -underBinder | with_reducible exact Agree.refl _ _ | with_reducible assumption | with_reducible apply @agree_pmbWriteCmd 4352 _ (by decide) | with_reducible apply @agree_regAddrWrite 4352 _ (by decide) | with_reducible refine Agree.of_snd (by assumption) ?_ | with_reducible refine Agree.of_fst (by assumption) ?_ | split | dsimp only | (intro t ht; with_reducible assumption) | intro)

theorem agree_execMfrHzReg (s : State) : ∃ t, execMfrHzReg s = .next t ∧ Agree 17985921 s t := by
  unfold execMfrHzReg
  refine ⟨_, rfl, ?_⟩
  repeat' (first | (intro x; first | (refine (fun (hx : Agree 17985921 s x) => ?_) ?_; clear_value x; rotate_left; subst x) | subst x) | lift_lets -underBinder | with_reducible exact Agree.refl _ _ | with_reducible assumption | with_reducible apply @agree_pmbReg 17985921 _ (by decide) | with_reducible refine Agree.of_snd (by assumption) ?_ | with_reducible refine Agree.of_fst (by assumption) ?_ | split | dsimp only | (intro t ht; with_reducible assumption) | intro)

theorem agree_execPmbusInvalidCommand (s : State) : ∃ t, execPmbusInvalidCommand s = .next t ∧ Agree 4352 s t := by
  unfold execPmbusInvalidCommand
  refine ⟨_, rfl, ?_⟩
  repeat' (first | (intro x; first | (refine (fun (hx : Agree 4352 s x) => ?_) ?_; clear_value x; rotate_left; subst x) | subst x) | lift_lets -underBinder | with_reducible exact Agree.refl _ _ | with_reducible assumption | with_reducible apply @agree_cmlSet 4352 _ (by decide) | with_reducible apply @agree_onCtl 4352 _ (by decide) | with_reducible refine Agree.of_snd (by assumption) ?_ | with_reducible refine Agree.of_fst (by assumption) ?_ | split | dsimp only | (intro t ht; with_reducible assumption) | intro)

theorem agree_execPmbusSclTimeout (s : State) : ∃ t, execPmbusSclTimeout s = .next t ∧ Agree 0 s t := by
  unfold execPmbusSclTimeout
  refine ⟨_, rfl, ?_⟩
  repeat' (first | (intro x; first | (refine (fun (hx : Agree 0 s x) => ?_) ?_; clear_value x; rotate_left; subst x) | subst x) | lift_lets -underBinder | with_reducible exact Agree.refl _ _ | with_reducible assumption | with_reducible apply @agree_sclRelease 0 _ (by decide) | with_reducible refine Agree.of_snd (by assumption) ?_ | with_reducible refine Agree.of_fst (by assumption) ?_ | split | dsimp only | (intro t ht; with_reducible assumption) | intro)

theorem agree_execPmbPoll (d : Fin 64) (rdg : Option (Nat × Nat × Nat × Nat)) (s : State) : ∃ t, execPmbPoll d rdg s = .next t ∧ Agree 12545 s t := by
  unfold execPmbPoll
  refine ⟨_, rfl, ?_⟩
  repeat' (first | (intro x; first | (refine (fun (hx : Agree 12545 s x) => ?_) ?_; clear_value x; rotate_left; subst x) | subst x) | lift_lets -underBinder | with_reducible exact Agree.refl _ _ | with_reducible assumption | with_reducible apply @agree_onCtl 12545 _ (by decide) | with_reducible apply @agree_pmbPoll 12545 _ (by decide) | with_reducible refine Agree.of_snd (by assumption) ?_ | with_reducible refine Agree.of_fst (by assumption) ?_ | split | dsimp only | (intro t ht; with_reducible assumption) | intro)

theorem agree_execTapReset (s : State) : ∃ t, execTapReset s = .next t ∧ Agree 3 s t := by
  unfold execTapReset
  refine ⟨_, rfl, ?_⟩
  repeat' (first | (intro x; first | (refine (fun (hx : Agree 3 s x) => ?_) ?_; clear_value x; rotate_left; subst x) | subst x) | lift_lets -underBinder | with_reducible exact Agree.refl _ _ | with_reducible assumption | with_reducible apply @agree_tapIr 3 _ (by decide) | with_reducible refine Agree.of_snd (by assumption) ?_ | with_reducible refine Agree.of_fst (by assumption) ?_ | split | dsimp only | (intro t ht; with_reducible assumption) | intro)

theorem agree_execBypass (s : State) : ∃ t, execBypass s = .next t ∧ Agree 3 s t := by
  unfold execBypass
  refine ⟨_, rfl, ?_⟩
  repeat' (first | (intro x; first | (refine (fun (hx : Agree 3 s x) => ?_) ?_; clear_value x; rotate_left; subst x) | subst x) | lift_lets -underBinder | with_reducible exact Agree.refl _ _ | with_reducible assumption | with_reducible apply @agree_tapIr 3 _ (by decide) | with_reducible refine Agree.of_snd (by assumption) ?_ | with_reducible refine Agree.of_fst (by assumption) ?_ | split | dsimp only | (intro t ht; with_reducible assumption) | intro)

theorem agree_execIdcode (s : State) : ∃ t, execIdcode s = .next t ∧ Agree 3 s t := by
  unfold execIdcode
  refine ⟨_, rfl, ?_⟩
  repeat' (first | (intro x; first | (refine (fun (hx : Agree 3 s x) => ?_) ?_; clear_value x; rotate_left; subst x) | subst x) | lift_lets -underBinder | with_reducible exact Agree.refl _ _ | with_reducible assumption | with_reducible apply @agree_tapIr 3 _ (by decide) | with_reducible refine Agree.of_snd (by assumption) ?_ | with_reducible refine Agree.of_fst (by assumption) ?_ | split | dsimp only | (intro t ht; with_reducible assumption) | intro)

theorem agree_execSamplePreload (s : State) : ∃ t, execSamplePreload s = .next t ∧ Agree 3 s t := by
  unfold execSamplePreload
  refine ⟨_, rfl, ?_⟩
  repeat' (first | (intro x; first | (refine (fun (hx : Agree 3 s x) => ?_) ?_; clear_value x; rotate_left; subst x) | subst x) | lift_lets -underBinder | with_reducible exact Agree.refl _ _ | with_reducible assumption | with_reducible apply @agree_tapIr 3 _ (by decide) | with_reducible refine Agree.of_snd (by assumption) ?_ | with_reducible refine Agree.of_fst (by assumption) ?_ | split | dsimp only | (intro t ht; with_reducible assumption) | intro)

theorem agree_execExtest (s : State) : ∃ t, execExtest s = .next t ∧ Agree 3 s t := by
  unfold execExtest
  refine ⟨_, rfl, ?_⟩
  repeat' (first | (intro x; first | (refine (fun (hx : Agree 3 s x) => ?_) ?_; clear_value x; rotate_left; subst x) | subst x) | lift_lets -underBinder | with_reducible exact Agree.refl _ _ | with_reducible assumption | with_reducible apply @agree_tapIr 3 _ (by decide) | with_reducible refine Agree.of_snd (by assumption) ?_ | with_reducible refine Agree.of_fst (by assumption) ?_ | split | dsimp only | (intro t ht; with_reducible assumption) | intro)

theorem agree_execClamp (s : State) : ∃ t, execClamp s = .next t ∧ Agree 3 s t := by
  unfold execClamp
  refine ⟨_, rfl, ?_⟩
  repeat' (first | (intro x; first | (refine (fun (hx : Agree 3 s x) => ?_) ?_; clear_value x; rotate_left; subst x) | subst x) | lift_lets -underBinder | with_reducible exact Agree.refl _ _ | with_reducible assumption | with_reducible apply @agree_tapIr 3 _ (by decide) | with_reducible refine Agree.of_snd (by assumption) ?_ | with_reducible refine Agree.of_fst (by assumption) ?_ | split | dsimp only | (intro t ht; with_reducible assumption) | intro)

theorem agree_execHighz (s : State) : ∃ t, execHighz s = .next t ∧ Agree 3 s t := by
  unfold execHighz
  refine ⟨_, rfl, ?_⟩
  repeat' (first | (intro x; first | (refine (fun (hx : Agree 3 s x) => ?_) ?_; clear_value x; rotate_left; subst x) | subst x) | lift_lets -underBinder | with_reducible exact Agree.refl _ _ | with_reducible assumption | with_reducible apply @agree_tapIr 3 _ (by decide) | with_reducible refine Agree.of_snd (by assumption) ?_ | with_reducible refine Agree.of_fst (by assumption) ?_ | split | dsimp only | (intro t ht; with_reducible assumption) | intro)

theorem agree_execExtestPulse (s : State) : ∃ t, execExtestPulse s = .next t ∧ Agree 3 s t := by
  unfold execExtestPulse
  refine ⟨_, rfl, ?_⟩
  repeat' (first | (intro x; first | (refine (fun (hx : Agree 3 s x) => ?_) ?_; clear_value x; rotate_left; subst x) | subst x) | lift_lets -underBinder | with_reducible exact Agree.refl _ _ | with_reducible assumption | with_reducible apply @agree_tapIr 3 _ (by decide) | with_reducible refine Agree.of_snd (by assumption) ?_ | with_reducible refine Agree.of_fst (by assumption) ?_ | split | dsimp only | (intro t ht; with_reducible assumption) | intro)

theorem agree_execExtestTrain (s : State) : ∃ t, execExtestTrain s = .next t ∧ Agree 3 s t := by
  unfold execExtestTrain
  refine ⟨_, rfl, ?_⟩
  repeat' (first | (intro x; first | (refine (fun (hx : Agree 3 s x) => ?_) ?_; clear_value x; rotate_left; subst x) | subst x) | lift_lets -underBinder | with_reducible exact Agree.refl _ _ | with_reducible assumption | with_reducible apply @agree_tapIr 3 _ (by decide) | with_reducible refine Agree.of_snd (by assumption) ?_ | with_reducible refine Agree.of_fst (by assumption) ?_ | split | dsimp only | (intro t ht; with_reducible assumption) | intro)

theorem agree_execRefclkReturn (s : State) : ∃ t, execRefclkReturn s = .next t ∧ Agree 67108743 s t := by
  unfold execRefclkReturn
  refine ⟨_, rfl, ?_⟩
  repeat' (first | (intro x; first | (refine (fun (hx : Agree 67108743 s x) => ?_) ?_; clear_value x; rotate_left; subst x) | subst x) | lift_lets -underBinder | with_reducible exact Agree.refl _ _ | with_reducible assumption | with_reducible apply @agree_refclkReturn 67108743 _ (by decide) | with_reducible refine Agree.of_snd (by assumption) ?_ | with_reducible refine Agree.of_fst (by assumption) ?_ | split | dsimp only | (intro t ht; with_reducible assumption) | intro)

theorem agree_execMrNRelease (s : State) : ∃ t, execMrNRelease s = .next t ∧ Agree 67108743 s t := by
  unfold execMrNRelease
  refine ⟨_, rfl, ?_⟩
  repeat' (first | (intro x; first | (refine (fun (hx : Agree 67108743 s x) => ?_) ?_; clear_value x; rotate_left; subst x) | subst x) | lift_lets -underBinder | with_reducible exact Agree.refl _ _ | with_reducible assumption | with_reducible apply @agree_mrRelease 67108743 _ (by decide) | with_reducible refine Agree.of_snd (by assumption) ?_ | with_reducible refine Agree.of_fst (by assumption) ?_ | split | dsimp only | (intro t ht; with_reducible assumption) | intro)

theorem agree_execPllRelock (i : Fin 5) (s : State) : ∃ t, execPllRelock i s = .next t ∧ Agree 8194 s t := by
  unfold execPllRelock
  refine ⟨_, rfl, ?_⟩
  repeat' (first | (intro x; first | (refine (fun (hx : Agree 8194 s x) => ?_) ?_; clear_value x; rotate_left; subst x) | subst x) | lift_lets -underBinder | with_reducible exact Agree.refl _ _ | with_reducible assumption | with_reducible apply @agree_pllRelock 8194 _ (by decide) | with_reducible refine Agree.of_snd (by assumption) ?_ | with_reducible refine Agree.of_fst (by assumption) ?_ | split | dsimp only | (intro t ht; with_reducible assumption) | intro)

theorem agree_execCrystalReturn (s : State) : ∃ t, execCrystalReturn s = .next t ∧ Agree 6 s t := by
  unfold execCrystalReturn
  refine ⟨_, rfl, ?_⟩
  repeat' (first | (intro x; first | (refine (fun (hx : Agree 6 s x) => ?_) ?_; clear_value x; rotate_left; subst x) | subst x) | lift_lets -underBinder | with_reducible exact Agree.refl _ _ | with_reducible assumption | with_reducible apply @agree_crystal 6 _ (by decide) | with_reducible refine Agree.of_snd (by assumption) ?_ | with_reducible refine Agree.of_fst (by assumption) ?_ | split | dsimp only | (intro t ht; with_reducible assumption) | intro)

theorem agree_execSupplyRailGood (k : Fin 6) (s : State) : ∃ t, execSupplyRailGood k s = .next t ∧ Agree 28582147 s t := by
  unfold execSupplyRailGood
  refine ⟨_, rfl, ?_⟩
  repeat' (first | (intro x; first | (refine (fun (hx : Agree 28582147 s x) => ?_) ?_; clear_value x; rotate_left; subst x) | subst x) | lift_lets -underBinder | with_reducible exact Agree.refl _ _ | with_reducible assumption | with_reducible apply @agree_supplyGood 28582147 _ (by decide) | with_reducible refine Agree.of_snd (by assumption) ?_ | with_reducible refine Agree.of_fst (by assumption) ?_ | split | dsimp only | (intro t ht; with_reducible assumption) | intro)

theorem agree_execVaonBCrossing (up : Bool) (s : State) : ∃ t, execVaonBCrossing up s = .next t ∧ Agree 8194 s t := by
  unfold execVaonBCrossing
  refine ⟨_, rfl, ?_⟩
  repeat' (first | (intro x; first | (refine (fun (hx : Agree 8194 s x) => ?_) ?_; clear_value x; rotate_left; subst x) | subst x) | lift_lets -underBinder | with_reducible exact Agree.refl _ _ | with_reducible assumption | with_reducible apply @agree_vaonBCross 8194 _ (by decide) | with_reducible refine Agree.of_snd (by assumption) ?_ | with_reducible refine Agree.of_fst (by assumption) ?_ | split | dsimp only | (intro t ht; with_reducible assumption) | intro)

theorem agree_execSourceCeasesLive (src : BitVec 8) (sub : BitVec 16) (s : State) : ∃ t, execSourceCeasesLive src sub s = .next t ∧ Agree 8192 s t := by
  unfold execSourceCeasesLive
  refine ⟨_, rfl, ?_⟩
  repeat' (first | (intro x; first | (refine (fun (hx : Agree 8192 s x) => ?_) ?_; clear_value x; rotate_left; subst x) | subst x) | lift_lets -underBinder | with_reducible exact Agree.refl _ _ | with_reducible assumption | with_reducible apply @agree_onCtl 8192 _ (by decide) | with_reducible apply @agree_sourceCeases 8192 _ (by decide) | with_reducible refine Agree.of_snd (by assumption) ?_ | with_reducible refine Agree.of_fst (by assumption) ?_ | split | dsimp only | (intro t ht; with_reducible assumption) | intro)

theorem agree_execRegisterReadError (a : BitVec 32) (s : State) : ∃ t, execRegisterReadError a s = .next t ∧ Agree 17985921 s t := by
  unfold execRegisterReadError
  refine ⟨_, rfl, ?_⟩
  repeat' (first | (intro x; first | (refine (fun (hx : Agree 17985921 s x) => ?_) ?_; clear_value x; rotate_left; subst x) | subst x) | lift_lets -underBinder | with_reducible exact Agree.refl _ _ | with_reducible assumption | with_reducible apply @agree_regRead 17985921 _ (by decide) | with_reducible refine Agree.of_snd (by assumption) ?_ | with_reducible refine Agree.of_fst (by assumption) ?_ | split | dsimp only | (intro t ht; with_reducible assumption) | intro)

theorem agree_execFabricTrained (i : Fin 4) (s : State) : ∃ t, execFabricTrained i s = .next t ∧ Agree 16777216 s t := by
  unfold execFabricTrained
  refine ⟨_, rfl, ?_⟩
  repeat' (first | (intro x; first | (refine (fun (hx : Agree 16777216 s x) => ?_) ?_; clear_value x; rotate_left; subst x) | subst x) | lift_lets -underBinder | with_reducible exact Agree.refl _ _ | with_reducible assumption | with_reducible apply @agree_fabTrained 16777216 _ (by decide) | with_reducible apply @agree_onFab 16777216 _ (by decide) | with_reducible refine Agree.of_snd (by assumption) ?_ | with_reducible refine Agree.of_fst (by assumption) ?_ | split | dsimp only | (intro t ht; with_reducible assumption) | intro)

theorem agree_execFabricLockLost (i : Fin 4) (s : State) : ∃ t, execFabricLockLost i s = .next t ∧ Agree 16785664 s t := by
  unfold execFabricLockLost
  refine ⟨_, rfl, ?_⟩
  repeat' (first | (intro x; first | (refine (fun (hx : Agree 16785664 s x) => ?_) ?_; clear_value x; rotate_left; subst x) | subst x) | lift_lets -underBinder | with_reducible exact Agree.refl _ _ | with_reducible assumption | with_reducible apply @agree_fabDown 16785664 _ (by decide) | with_reducible apply @agree_onFab 16785664 _ (by decide) | with_reducible refine Agree.of_snd (by assumption) ?_ | with_reducible refine Agree.of_fst (by assumption) ?_ | split | dsimp only | (intro t ht; with_reducible assumption) | intro)

theorem agree_execFabricTrainingFail (i : Fin 4) (s : State) : ∃ t, execFabricTrainingFail i s = .next t ∧ Agree 16785664 s t := by
  unfold execFabricTrainingFail
  refine ⟨_, rfl, ?_⟩
  repeat' (first | (intro x; first | (refine (fun (hx : Agree 16785664 s x) => ?_) ?_; clear_value x; rotate_left; subst x) | subst x) | lift_lets -underBinder | with_reducible exact Agree.refl _ _ | with_reducible assumption | with_reducible apply @agree_fabTrainFail 16785664 _ (by decide) | with_reducible apply @agree_onFab 16785664 _ (by decide) | with_reducible refine Agree.of_snd (by assumption) ?_ | with_reducible refine Agree.of_fst (by assumption) ?_ | split | dsimp only | (intro t ht; with_reducible assumption) | intro)

theorem agree_execPpsEdgeMissed (s : State) : ∃ t, execPpsEdgeMissed s = .next t ∧ Agree 16777472 s t := by
  unfold execPpsEdgeMissed
  refine ⟨_, rfl, ?_⟩
  repeat' (first | (intro x; first | (refine (fun (hx : Agree 16777472 s x) => ?_) ?_; clear_value x; rotate_left; subst x) | subst x) | lift_lets -underBinder | with_reducible exact Agree.refl _ _ | with_reducible assumption | with_reducible apply @agree_onFab 16777472 _ (by decide) | with_reducible apply @agree_ppsMissed 16777472 _ (by decide) | with_reducible refine Agree.of_snd (by assumption) ?_ | with_reducible refine Agree.of_fst (by assumption) ?_ | split | dsimp only | (intro t ht; with_reducible assumption) | intro)

theorem agree_execHbInEdge (s : State) : ∃ t, execHbInEdge s = .next t ∧ Agree 33562624 s t := by
  unfold execHbInEdge
  refine ⟨_, rfl, ?_⟩
  repeat' (first | (intro x; first | (refine (fun (hx : Agree 33562624 s x) => ?_) ?_; clear_value x; rotate_left; subst x) | subst x) | lift_lets -underBinder | with_reducible exact Agree.refl _ _ | with_reducible assumption | with_reducible apply @agree_hbEdge 33562624 _ (by decide) | with_reducible refine Agree.of_snd (by assumption) ?_ | with_reducible refine Agree.of_fst (by assumption) ?_ | split | dsimp only | (intro t ht; with_reducible assumption) | intro)

theorem agree_execPartnerChannelSilent (hb : Bool) (s : State) : ∃ t, execPartnerChannelSilent hb s = .next t ∧ Agree 33562624 s t := by
  unfold execPartnerChannelSilent
  refine ⟨_, rfl, ?_⟩
  repeat' (first | (intro x; first | (refine (fun (hx : Agree 33562624 s x) => ?_) ?_; clear_value x; rotate_left; subst x) | subst x) | lift_lets -underBinder | with_reducible exact Agree.refl _ _ | with_reducible assumption | with_reducible apply @agree_channelSilent 33562624 _ (by decide) | with_reducible refine Agree.of_snd (by assumption) ?_ | with_reducible refine Agree.of_fst (by assumption) ?_ | split | dsimp only | (intro t ht; with_reducible assumption) | intro)

theorem agree_execSlotGoodLost (n : Fin 64) (s : State) : ∃ t, execSlotGoodLost n s = .next t ∧ Agree 11886848 s t := by
  unfold execSlotGoodLost
  refine ⟨_, rfl, ?_⟩
  repeat' (first | (intro x; first | (refine (fun (hx : Agree 11886848 s x) => ?_) ?_; clear_value x; rotate_left; subst x) | subst x) | lift_lets -underBinder | with_reducible exact Agree.refl _ _ | with_reducible assumption | with_reducible apply @agree_onCtl 11886848 _ (by decide) | with_reducible apply @agree_slotGoodLostIsl 11886848 _ (by decide) | with_reducible refine Agree.of_snd (by assumption) ?_ | with_reducible refine Agree.of_fst (by assumption) ?_ | split | dsimp only | (intro t ht; with_reducible assumption) | intro)

end Sys2Proof.Machine
end

