-- ==== Sys2Proof/Laws/Memory.lean ====
section
/-! SUPPORT. The addressed memories keep their canonical form, and read back what was written. -/
set_option Elab.async false

namespace Sys2Proof.Machine.Mem

variable {d : Byte}

/-- Every address listed lies above `a`. -/
def Above (a : Nat) (m : List Host.Cell) : Prop := ∀ c ∈ m, a < c.1

/-- The canonical form, cell by cell. -/
theorem wf_cons {c : Host.Cell} {m : List Host.Cell} : wf d (c :: m) = true ↔ c.2 ≠ d ∧ Above c.1 m ∧ wf d m = true := by
  induction m generalizing c with
  | nil => simp [wf, Above]
  | cons e m ih =>
    simp only [wf, Bool.and_eq_true, bne_iff_ne, decide_eq_true_eq, Above, List.mem_cons, forall_eq_or_imp]
    constructor
    · rintro ⟨⟨h1, h2⟩, h3⟩
      exact ⟨h1, ⟨h2, fun x hx => h2.trans ((ih.1 h3).2.1 x hx)⟩, h3⟩
    · rintro ⟨h1, ⟨h2, _⟩, h3⟩
      exact ⟨⟨h1, h2⟩, h3⟩

theorem Above.trans {a b : Nat} {m : List Host.Cell} (h : Above b m) (k : a < b) : Above a m := fun c hc => k.trans (h c hc)

theorem put_above {a x : Nat} {b : Byte} {m : List Host.Cell} (h : Above x m) (k : x < a) : Above x (put a b m) := by
  induction m with
  | nil => simpa [put, Above] using k
  | cons c m ih =>
    have hm : Above x m := fun e he => h e (by simp [he])
    have hc := h c (by simp)
    unfold put
    split
    · simp only [Above, List.mem_cons, forall_eq_or_imp]; exact ⟨k, hc, hm⟩
    · split
      · simp only [Above, List.mem_cons, forall_eq_or_imp]; exact ⟨k, hm⟩
      · simp only [Above, List.mem_cons, forall_eq_or_imp]; exact ⟨hc, ih hm⟩

theorem del_above {a x : Nat} {m : List Host.Cell} (h : Above x m) : Above x (del a m) := by
  induction m with
  | nil => simpa [del] using h
  | cons c m ih =>
    have hm : Above x m := fun e he => h e (by simp [he])
    unfold del
    split
    · exact hm
    · simp only [Above, List.mem_cons, forall_eq_or_imp]; exact ⟨h c (by simp), ih hm⟩

theorem put_wf {a : Nat} {b : Byte} (hb : b ≠ d) {m : List Host.Cell} (h : wf d m = true) : wf d (put a b m) = true := by
  induction m with
  | nil => simpa [put, wf] using hb
  | cons c m ih =>
    obtain ⟨h1, h2, h3⟩ := wf_cons.1 h
    unfold put
    split
    · rename_i k
      refine wf_cons.2 ⟨hb, ?_, h⟩
      simp only [Above, List.mem_cons, forall_eq_or_imp]; exact ⟨k, h2.trans k⟩
    · split
      · rename_i e; subst e; exact wf_cons.2 ⟨hb, h2, h3⟩
      · exact wf_cons.2 ⟨h1, put_above h2 (by omega), ih h3⟩

theorem del_wf {a : Nat} {m : List Host.Cell} (h : wf d m = true) : wf d (del a m) = true := by
  induction m with
  | nil => simpa [del] using h
  | cons c m ih =>
    obtain ⟨h1, h2, h3⟩ := wf_cons.1 h
    unfold del
    split
    · exact h3
    · exact wf_cons.2 ⟨h1, del_above h2, ih h3⟩

/-- A byte written keeps the canonical form. -/
theorem write_wf {a : Nat} {b : Byte} {m : List Host.Cell} (h : wf d m = true) : wf d (write d m a b) = true := by
  unfold write
  split
  · exact del_wf h
  · rename_i hb; exact put_wf hb h

/-- Bytes written keep the canonical form. -/
theorem writeN_wf {a : Nat} {bs : List Byte} {m : List Host.Cell} (h : wf d m = true) : wf d (writeN d m a bs) = true := by
  induction bs generalizing a m with
  | nil => exact h
  | cons b bs ih => exact ih (write_wf h)

/-- Removing cells keeps the canonical form. -/
theorem filter_wf {p : Host.Cell → Bool} {m : List Host.Cell} (h : wf d m = true) : wf d (m.filter p) = true := by
  induction m with
  | nil => simpa using h
  | cons c m ih =>
    obtain ⟨h1, h2, h3⟩ := wf_cons.1 h
    rw [List.filter_cons]
    split
    · exact wf_cons.2 ⟨h1, fun x hx => h2 x (List.mem_filter.1 hx).1, ih h3⟩
    · exact ih h3

/-- An erase keeps the canonical form. -/
theorem erase_wf {a n : Nat} {m : List Host.Cell} (h : wf d m = true) : wf d (erase m a n) = true := filter_wf h

/-- Any list of bytes written one by one gives a memory in canonical form. -/
theorem foldl_write_wf {cs : List Host.Cell} {m : List Host.Cell} (h : wf d m = true) :
    wf d (cs.foldl (fun (m : List Host.Cell) (c : Host.Cell) => write d m c.1 c.2) m) = true := by
  induction cs generalizing m with
  | nil => exact h
  | cons c cs ih => exact ih (write_wf h)

theorem read_above {a : Nat} {m : List Host.Cell} (h : Above a m) : read d m a = d := by
  induction m with
  | nil => rfl
  | cons c m ih =>
    have := h c (by simp)
    rw [read, if_neg (by omega)]
    exact ih (fun e he => h e (by simp [he]))

theorem read_put {a x : Nat} {b : Byte} {m : List Host.Cell} : read d (put a b m) x = if x = a then b else read d m x := by
  induction m with
  | nil => simp [put, read, eq_comm]
  | cons c m ih =>
    unfold put
    split
    · simp [read, eq_comm]
    · split
      · rename_i e; subst e
        by_cases k : x = c.1 <;> simp [read, k, eq_comm]
      · rename_i k1 k2
        simp only [read, ih]
        split <;> split <;> first | rfl | omega

theorem read_del {a x : Nat} {m : List Host.Cell} (h : wf d m = true) : read d (del a m) x = if x = a then d else read d m x := by
  induction m with
  | nil => simp [del, read]
  | cons c m ih =>
    obtain ⟨_, h2, h3⟩ := wf_cons.1 h
    unfold del
    split
    · rename_i e; subst e
      split
      · rename_i e'; subst e'; exact read_above h2
      · rename_i k; rw [read, if_neg (Ne.symm k)]
    · rename_i k
      simp only [read, ih h3]
      split <;> split <;> first | rfl | omega

/-- A byte reads back; every other address reads as before. -/
theorem read_write {a x : Nat} {b : Byte} {m : List Host.Cell} (h : wf d m = true) :
    read d (write d m a b) x = if x = a then b else read d m x := by
  unfold write
  split
  · rename_i e; subst e; exact read_del h
  · exact read_put

end Sys2Proof.Machine.Mem
end

