-- ==== Sys2Proof/Laws/State.lean ====
section
/-! SUPPORT. One lemma for each field of State under each named update: the update of one field leaves the others as they are. -/
set_option Elab.async false

namespace Sys2Proof.Machine.State

variable (s : State)


/-! `mdTop` writes `top` alone. -/

@[simp] theorem mdTop_clk (f : Top → Top) : (s.mdTop f).clk = s.clk := rfl
@[simp] theorem mdTop_pins (f : Top → Top) : (s.mdTop f).pins = s.pins := rfl
@[simp] theorem mdTop_aon (f : Top → Top) : (s.mdTop f).aon = s.aon := rfl
@[simp] theorem mdTop_nor (f : Top → Top) : (s.mdTop f).nor = s.nor := rfl
@[simp] theorem mdTop_fuseCnt (f : Top → Top) : (s.mdTop f).fuseCnt = s.fuseCnt := rfl
@[simp] theorem mdTop_keyBanks (f : Top → Top) : (s.mdTop f).keyBanks = s.keyBanks := rfl
@[simp] theorem mdTop_epochRan (f : Top → Top) : (s.mdTop f).epochRan = s.epochRan := rfl
@[simp] theorem mdTop_evt (f : Top → Top) : (s.mdTop f).evt = s.evt := rfl
@[simp] theorem mdTop_ctrl (f : Top → Top) : (s.mdTop f).ctrl = s.ctrl := rfl
@[simp] theorem mdTop_busyIrq (f : Top → Top) : (s.mdTop f).busyIrq = s.busyIrq := rfl
@[simp] theorem mdTop_cmd (f : Top → Top) : (s.mdTop f).cmd = s.cmd := rfl
@[simp] theorem mdTop_rp (f : Top → Top) : (s.mdTop f).rp = s.rp := rfl
@[simp] theorem mdTop_flt (f : Top → Top) : (s.mdTop f).flt = s.flt := rfl
@[simp] theorem mdTop_ledg (f : Top → Top) : (s.mdTop f).ledg = s.ledg := rfl
@[simp] theorem mdTop_bimg (f : Top → Top) : (s.mdTop f).bimg = s.bimg := rfl
@[simp] theorem mdTop_seq (f : Top → Top) : (s.mdTop f).seq = s.seq := rfl
@[simp] theorem mdTop_nrg (f : Top → Top) : (s.mdTop f).nrg = s.nrg := rfl
@[simp] theorem mdTop_links (f : Top → Top) : (s.mdTop f).links = s.links := rfl
@[simp] theorem mdTop_stake (f : Top → Top) : (s.mdTop f).stake = s.stake := rfl
@[simp] theorem mdTop_vault (f : Top → Top) : (s.mdTop f).vault = s.vault := rfl
@[simp] theorem mdTop_stage (f : Top → Top) : (s.mdTop f).stage = s.stage := rfl
@[simp] theorem mdTop_save (f : Top → Top) : (s.mdTop f).save = s.save := rfl
@[simp] theorem mdTop_ret (f : Top → Top) : (s.mdTop f).ret = s.ret := rfl
@[simp] theorem mdTop_fab (f : Top → Top) : (s.mdTop f).fab = s.fab := rfl
@[simp] theorem mdTop_pair (f : Top → Top) : (s.mdTop f).pair = s.pair := rfl
@[simp] theorem mdTop_pending (f : Top → Top) : (s.mdTop f).pending = s.pending := rfl

/-! `mdPins` writes `pins` alone. -/

@[simp] theorem mdPins_clk (f : Pins → Pins) : (s.mdPins f).clk = s.clk := rfl
@[simp] theorem mdPins_aon (f : Pins → Pins) : (s.mdPins f).aon = s.aon := rfl
@[simp] theorem mdPins_nor (f : Pins → Pins) : (s.mdPins f).nor = s.nor := rfl
@[simp] theorem mdPins_fuseCnt (f : Pins → Pins) : (s.mdPins f).fuseCnt = s.fuseCnt := rfl
@[simp] theorem mdPins_keyBanks (f : Pins → Pins) : (s.mdPins f).keyBanks = s.keyBanks := rfl
@[simp] theorem mdPins_epochRan (f : Pins → Pins) : (s.mdPins f).epochRan = s.epochRan := rfl
@[simp] theorem mdPins_top (f : Pins → Pins) : (s.mdPins f).top = s.top := rfl
@[simp] theorem mdPins_evt (f : Pins → Pins) : (s.mdPins f).evt = s.evt := rfl
@[simp] theorem mdPins_ctrl (f : Pins → Pins) : (s.mdPins f).ctrl = s.ctrl := rfl
@[simp] theorem mdPins_busyIrq (f : Pins → Pins) : (s.mdPins f).busyIrq = s.busyIrq := rfl
@[simp] theorem mdPins_cmd (f : Pins → Pins) : (s.mdPins f).cmd = s.cmd := rfl
@[simp] theorem mdPins_rp (f : Pins → Pins) : (s.mdPins f).rp = s.rp := rfl
@[simp] theorem mdPins_flt (f : Pins → Pins) : (s.mdPins f).flt = s.flt := rfl
@[simp] theorem mdPins_ledg (f : Pins → Pins) : (s.mdPins f).ledg = s.ledg := rfl
@[simp] theorem mdPins_bimg (f : Pins → Pins) : (s.mdPins f).bimg = s.bimg := rfl
@[simp] theorem mdPins_seq (f : Pins → Pins) : (s.mdPins f).seq = s.seq := rfl
@[simp] theorem mdPins_nrg (f : Pins → Pins) : (s.mdPins f).nrg = s.nrg := rfl
@[simp] theorem mdPins_links (f : Pins → Pins) : (s.mdPins f).links = s.links := rfl
@[simp] theorem mdPins_stake (f : Pins → Pins) : (s.mdPins f).stake = s.stake := rfl
@[simp] theorem mdPins_vault (f : Pins → Pins) : (s.mdPins f).vault = s.vault := rfl
@[simp] theorem mdPins_stage (f : Pins → Pins) : (s.mdPins f).stage = s.stage := rfl
@[simp] theorem mdPins_save (f : Pins → Pins) : (s.mdPins f).save = s.save := rfl
@[simp] theorem mdPins_ret (f : Pins → Pins) : (s.mdPins f).ret = s.ret := rfl
@[simp] theorem mdPins_fab (f : Pins → Pins) : (s.mdPins f).fab = s.fab := rfl
@[simp] theorem mdPins_pair (f : Pins → Pins) : (s.mdPins f).pair = s.pair := rfl
@[simp] theorem mdPins_pending (f : Pins → Pins) : (s.mdPins f).pending = s.pending := rfl

/-! `mdAon` writes `aon` alone. -/

@[simp] theorem mdAon_clk (f : Aon → Aon) : (s.mdAon f).clk = s.clk := rfl
@[simp] theorem mdAon_pins (f : Aon → Aon) : (s.mdAon f).pins = s.pins := rfl
@[simp] theorem mdAon_nor (f : Aon → Aon) : (s.mdAon f).nor = s.nor := rfl
@[simp] theorem mdAon_fuseCnt (f : Aon → Aon) : (s.mdAon f).fuseCnt = s.fuseCnt := rfl
@[simp] theorem mdAon_keyBanks (f : Aon → Aon) : (s.mdAon f).keyBanks = s.keyBanks := rfl
@[simp] theorem mdAon_epochRan (f : Aon → Aon) : (s.mdAon f).epochRan = s.epochRan := rfl
@[simp] theorem mdAon_top (f : Aon → Aon) : (s.mdAon f).top = s.top := rfl
@[simp] theorem mdAon_evt (f : Aon → Aon) : (s.mdAon f).evt = s.evt := rfl
@[simp] theorem mdAon_ctrl (f : Aon → Aon) : (s.mdAon f).ctrl = s.ctrl := rfl
@[simp] theorem mdAon_busyIrq (f : Aon → Aon) : (s.mdAon f).busyIrq = s.busyIrq := rfl
@[simp] theorem mdAon_cmd (f : Aon → Aon) : (s.mdAon f).cmd = s.cmd := rfl
@[simp] theorem mdAon_rp (f : Aon → Aon) : (s.mdAon f).rp = s.rp := rfl
@[simp] theorem mdAon_flt (f : Aon → Aon) : (s.mdAon f).flt = s.flt := rfl
@[simp] theorem mdAon_ledg (f : Aon → Aon) : (s.mdAon f).ledg = s.ledg := rfl
@[simp] theorem mdAon_bimg (f : Aon → Aon) : (s.mdAon f).bimg = s.bimg := rfl
@[simp] theorem mdAon_seq (f : Aon → Aon) : (s.mdAon f).seq = s.seq := rfl
@[simp] theorem mdAon_nrg (f : Aon → Aon) : (s.mdAon f).nrg = s.nrg := rfl
@[simp] theorem mdAon_links (f : Aon → Aon) : (s.mdAon f).links = s.links := rfl
@[simp] theorem mdAon_stake (f : Aon → Aon) : (s.mdAon f).stake = s.stake := rfl
@[simp] theorem mdAon_vault (f : Aon → Aon) : (s.mdAon f).vault = s.vault := rfl
@[simp] theorem mdAon_stage (f : Aon → Aon) : (s.mdAon f).stage = s.stage := rfl
@[simp] theorem mdAon_save (f : Aon → Aon) : (s.mdAon f).save = s.save := rfl
@[simp] theorem mdAon_ret (f : Aon → Aon) : (s.mdAon f).ret = s.ret := rfl
@[simp] theorem mdAon_fab (f : Aon → Aon) : (s.mdAon f).fab = s.fab := rfl
@[simp] theorem mdAon_pair (f : Aon → Aon) : (s.mdAon f).pair = s.pair := rfl
@[simp] theorem mdAon_pending (f : Aon → Aon) : (s.mdAon f).pending = s.pending := rfl

/-! `mdFab` writes `fab` alone. -/

@[simp] theorem mdFab_clk (f : Fab → Fab) : (s.mdFab f).clk = s.clk := rfl
@[simp] theorem mdFab_pins (f : Fab → Fab) : (s.mdFab f).pins = s.pins := rfl
@[simp] theorem mdFab_aon (f : Fab → Fab) : (s.mdFab f).aon = s.aon := rfl
@[simp] theorem mdFab_nor (f : Fab → Fab) : (s.mdFab f).nor = s.nor := rfl
@[simp] theorem mdFab_fuseCnt (f : Fab → Fab) : (s.mdFab f).fuseCnt = s.fuseCnt := rfl
@[simp] theorem mdFab_keyBanks (f : Fab → Fab) : (s.mdFab f).keyBanks = s.keyBanks := rfl
@[simp] theorem mdFab_epochRan (f : Fab → Fab) : (s.mdFab f).epochRan = s.epochRan := rfl
@[simp] theorem mdFab_top (f : Fab → Fab) : (s.mdFab f).top = s.top := rfl
@[simp] theorem mdFab_evt (f : Fab → Fab) : (s.mdFab f).evt = s.evt := rfl
@[simp] theorem mdFab_ctrl (f : Fab → Fab) : (s.mdFab f).ctrl = s.ctrl := rfl
@[simp] theorem mdFab_busyIrq (f : Fab → Fab) : (s.mdFab f).busyIrq = s.busyIrq := rfl
@[simp] theorem mdFab_cmd (f : Fab → Fab) : (s.mdFab f).cmd = s.cmd := rfl
@[simp] theorem mdFab_rp (f : Fab → Fab) : (s.mdFab f).rp = s.rp := rfl
@[simp] theorem mdFab_flt (f : Fab → Fab) : (s.mdFab f).flt = s.flt := rfl
@[simp] theorem mdFab_ledg (f : Fab → Fab) : (s.mdFab f).ledg = s.ledg := rfl
@[simp] theorem mdFab_bimg (f : Fab → Fab) : (s.mdFab f).bimg = s.bimg := rfl
@[simp] theorem mdFab_seq (f : Fab → Fab) : (s.mdFab f).seq = s.seq := rfl
@[simp] theorem mdFab_nrg (f : Fab → Fab) : (s.mdFab f).nrg = s.nrg := rfl
@[simp] theorem mdFab_links (f : Fab → Fab) : (s.mdFab f).links = s.links := rfl
@[simp] theorem mdFab_stake (f : Fab → Fab) : (s.mdFab f).stake = s.stake := rfl
@[simp] theorem mdFab_vault (f : Fab → Fab) : (s.mdFab f).vault = s.vault := rfl
@[simp] theorem mdFab_stage (f : Fab → Fab) : (s.mdFab f).stage = s.stage := rfl
@[simp] theorem mdFab_save (f : Fab → Fab) : (s.mdFab f).save = s.save := rfl
@[simp] theorem mdFab_ret (f : Fab → Fab) : (s.mdFab f).ret = s.ret := rfl
@[simp] theorem mdFab_pair (f : Fab → Fab) : (s.mdFab f).pair = s.pair := rfl
@[simp] theorem mdFab_pending (f : Fab → Fab) : (s.mdFab f).pending = s.pending := rfl

/-! `mdFport` writes `fab` alone. -/

@[simp] theorem mdFport_clk (i : Nat) (f : FabPort → FabPort) : (s.mdFport i f).clk = s.clk := rfl
@[simp] theorem mdFport_pins (i : Nat) (f : FabPort → FabPort) : (s.mdFport i f).pins = s.pins := rfl
@[simp] theorem mdFport_aon (i : Nat) (f : FabPort → FabPort) : (s.mdFport i f).aon = s.aon := rfl
@[simp] theorem mdFport_nor (i : Nat) (f : FabPort → FabPort) : (s.mdFport i f).nor = s.nor := rfl
@[simp] theorem mdFport_fuseCnt (i : Nat) (f : FabPort → FabPort) : (s.mdFport i f).fuseCnt = s.fuseCnt := rfl
@[simp] theorem mdFport_keyBanks (i : Nat) (f : FabPort → FabPort) : (s.mdFport i f).keyBanks = s.keyBanks := rfl
@[simp] theorem mdFport_epochRan (i : Nat) (f : FabPort → FabPort) : (s.mdFport i f).epochRan = s.epochRan := rfl
@[simp] theorem mdFport_top (i : Nat) (f : FabPort → FabPort) : (s.mdFport i f).top = s.top := rfl
@[simp] theorem mdFport_evt (i : Nat) (f : FabPort → FabPort) : (s.mdFport i f).evt = s.evt := rfl
@[simp] theorem mdFport_ctrl (i : Nat) (f : FabPort → FabPort) : (s.mdFport i f).ctrl = s.ctrl := rfl
@[simp] theorem mdFport_busyIrq (i : Nat) (f : FabPort → FabPort) : (s.mdFport i f).busyIrq = s.busyIrq := rfl
@[simp] theorem mdFport_cmd (i : Nat) (f : FabPort → FabPort) : (s.mdFport i f).cmd = s.cmd := rfl
@[simp] theorem mdFport_rp (i : Nat) (f : FabPort → FabPort) : (s.mdFport i f).rp = s.rp := rfl
@[simp] theorem mdFport_flt (i : Nat) (f : FabPort → FabPort) : (s.mdFport i f).flt = s.flt := rfl
@[simp] theorem mdFport_ledg (i : Nat) (f : FabPort → FabPort) : (s.mdFport i f).ledg = s.ledg := rfl
@[simp] theorem mdFport_bimg (i : Nat) (f : FabPort → FabPort) : (s.mdFport i f).bimg = s.bimg := rfl
@[simp] theorem mdFport_seq (i : Nat) (f : FabPort → FabPort) : (s.mdFport i f).seq = s.seq := rfl
@[simp] theorem mdFport_nrg (i : Nat) (f : FabPort → FabPort) : (s.mdFport i f).nrg = s.nrg := rfl
@[simp] theorem mdFport_links (i : Nat) (f : FabPort → FabPort) : (s.mdFport i f).links = s.links := rfl
@[simp] theorem mdFport_stake (i : Nat) (f : FabPort → FabPort) : (s.mdFport i f).stake = s.stake := rfl
@[simp] theorem mdFport_vault (i : Nat) (f : FabPort → FabPort) : (s.mdFport i f).vault = s.vault := rfl
@[simp] theorem mdFport_stage (i : Nat) (f : FabPort → FabPort) : (s.mdFport i f).stage = s.stage := rfl
@[simp] theorem mdFport_save (i : Nat) (f : FabPort → FabPort) : (s.mdFport i f).save = s.save := rfl
@[simp] theorem mdFport_ret (i : Nat) (f : FabPort → FabPort) : (s.mdFport i f).ret = s.ret := rfl
@[simp] theorem mdFport_pair (i : Nat) (f : FabPort → FabPort) : (s.mdFport i f).pair = s.pair := rfl
@[simp] theorem mdFport_pending (i : Nat) (f : FabPort → FabPort) : (s.mdFport i f).pending = s.pending := rfl

/-! `mdFlt` writes `flt` alone. -/

@[simp] theorem mdFlt_clk (f : Flt → Flt) : (s.mdFlt f).clk = s.clk := rfl
@[simp] theorem mdFlt_pins (f : Flt → Flt) : (s.mdFlt f).pins = s.pins := rfl
@[simp] theorem mdFlt_aon (f : Flt → Flt) : (s.mdFlt f).aon = s.aon := rfl
@[simp] theorem mdFlt_nor (f : Flt → Flt) : (s.mdFlt f).nor = s.nor := rfl
@[simp] theorem mdFlt_fuseCnt (f : Flt → Flt) : (s.mdFlt f).fuseCnt = s.fuseCnt := rfl
@[simp] theorem mdFlt_keyBanks (f : Flt → Flt) : (s.mdFlt f).keyBanks = s.keyBanks := rfl
@[simp] theorem mdFlt_epochRan (f : Flt → Flt) : (s.mdFlt f).epochRan = s.epochRan := rfl
@[simp] theorem mdFlt_top (f : Flt → Flt) : (s.mdFlt f).top = s.top := rfl
@[simp] theorem mdFlt_evt (f : Flt → Flt) : (s.mdFlt f).evt = s.evt := rfl
@[simp] theorem mdFlt_ctrl (f : Flt → Flt) : (s.mdFlt f).ctrl = s.ctrl := rfl
@[simp] theorem mdFlt_busyIrq (f : Flt → Flt) : (s.mdFlt f).busyIrq = s.busyIrq := rfl
@[simp] theorem mdFlt_cmd (f : Flt → Flt) : (s.mdFlt f).cmd = s.cmd := rfl
@[simp] theorem mdFlt_rp (f : Flt → Flt) : (s.mdFlt f).rp = s.rp := rfl
@[simp] theorem mdFlt_ledg (f : Flt → Flt) : (s.mdFlt f).ledg = s.ledg := rfl
@[simp] theorem mdFlt_bimg (f : Flt → Flt) : (s.mdFlt f).bimg = s.bimg := rfl
@[simp] theorem mdFlt_seq (f : Flt → Flt) : (s.mdFlt f).seq = s.seq := rfl
@[simp] theorem mdFlt_nrg (f : Flt → Flt) : (s.mdFlt f).nrg = s.nrg := rfl
@[simp] theorem mdFlt_links (f : Flt → Flt) : (s.mdFlt f).links = s.links := rfl
@[simp] theorem mdFlt_stake (f : Flt → Flt) : (s.mdFlt f).stake = s.stake := rfl
@[simp] theorem mdFlt_vault (f : Flt → Flt) : (s.mdFlt f).vault = s.vault := rfl
@[simp] theorem mdFlt_stage (f : Flt → Flt) : (s.mdFlt f).stage = s.stage := rfl
@[simp] theorem mdFlt_save (f : Flt → Flt) : (s.mdFlt f).save = s.save := rfl
@[simp] theorem mdFlt_ret (f : Flt → Flt) : (s.mdFlt f).ret = s.ret := rfl
@[simp] theorem mdFlt_fab (f : Flt → Flt) : (s.mdFlt f).fab = s.fab := rfl
@[simp] theorem mdFlt_pair (f : Flt → Flt) : (s.mdFlt f).pair = s.pair := rfl
@[simp] theorem mdFlt_pending (f : Flt → Flt) : (s.mdFlt f).pending = s.pending := rfl

/-! `mdSub` writes `flt` alone. -/

@[simp] theorem mdSub_clk (a b : Nat) (f : SubSrc → SubSrc) : (s.mdSub a b f).clk = s.clk := rfl
@[simp] theorem mdSub_pins (a b : Nat) (f : SubSrc → SubSrc) : (s.mdSub a b f).pins = s.pins := rfl
@[simp] theorem mdSub_aon (a b : Nat) (f : SubSrc → SubSrc) : (s.mdSub a b f).aon = s.aon := rfl
@[simp] theorem mdSub_nor (a b : Nat) (f : SubSrc → SubSrc) : (s.mdSub a b f).nor = s.nor := rfl
@[simp] theorem mdSub_fuseCnt (a b : Nat) (f : SubSrc → SubSrc) : (s.mdSub a b f).fuseCnt = s.fuseCnt := rfl
@[simp] theorem mdSub_keyBanks (a b : Nat) (f : SubSrc → SubSrc) : (s.mdSub a b f).keyBanks = s.keyBanks := rfl
@[simp] theorem mdSub_epochRan (a b : Nat) (f : SubSrc → SubSrc) : (s.mdSub a b f).epochRan = s.epochRan := rfl
@[simp] theorem mdSub_top (a b : Nat) (f : SubSrc → SubSrc) : (s.mdSub a b f).top = s.top := rfl
@[simp] theorem mdSub_evt (a b : Nat) (f : SubSrc → SubSrc) : (s.mdSub a b f).evt = s.evt := rfl
@[simp] theorem mdSub_ctrl (a b : Nat) (f : SubSrc → SubSrc) : (s.mdSub a b f).ctrl = s.ctrl := rfl
@[simp] theorem mdSub_busyIrq (a b : Nat) (f : SubSrc → SubSrc) : (s.mdSub a b f).busyIrq = s.busyIrq := rfl
@[simp] theorem mdSub_cmd (a b : Nat) (f : SubSrc → SubSrc) : (s.mdSub a b f).cmd = s.cmd := rfl
@[simp] theorem mdSub_rp (a b : Nat) (f : SubSrc → SubSrc) : (s.mdSub a b f).rp = s.rp := rfl
@[simp] theorem mdSub_ledg (a b : Nat) (f : SubSrc → SubSrc) : (s.mdSub a b f).ledg = s.ledg := rfl
@[simp] theorem mdSub_bimg (a b : Nat) (f : SubSrc → SubSrc) : (s.mdSub a b f).bimg = s.bimg := rfl
@[simp] theorem mdSub_seq (a b : Nat) (f : SubSrc → SubSrc) : (s.mdSub a b f).seq = s.seq := rfl
@[simp] theorem mdSub_nrg (a b : Nat) (f : SubSrc → SubSrc) : (s.mdSub a b f).nrg = s.nrg := rfl
@[simp] theorem mdSub_links (a b : Nat) (f : SubSrc → SubSrc) : (s.mdSub a b f).links = s.links := rfl
@[simp] theorem mdSub_stake (a b : Nat) (f : SubSrc → SubSrc) : (s.mdSub a b f).stake = s.stake := rfl
@[simp] theorem mdSub_vault (a b : Nat) (f : SubSrc → SubSrc) : (s.mdSub a b f).vault = s.vault := rfl
@[simp] theorem mdSub_stage (a b : Nat) (f : SubSrc → SubSrc) : (s.mdSub a b f).stage = s.stage := rfl
@[simp] theorem mdSub_save (a b : Nat) (f : SubSrc → SubSrc) : (s.mdSub a b f).save = s.save := rfl
@[simp] theorem mdSub_ret (a b : Nat) (f : SubSrc → SubSrc) : (s.mdSub a b f).ret = s.ret := rfl
@[simp] theorem mdSub_fab (a b : Nat) (f : SubSrc → SubSrc) : (s.mdSub a b f).fab = s.fab := rfl
@[simp] theorem mdSub_pair (a b : Nat) (f : SubSrc → SubSrc) : (s.mdSub a b f).pair = s.pair := rfl
@[simp] theorem mdSub_pending (a b : Nat) (f : SubSrc → SubSrc) : (s.mdSub a b f).pending = s.pending := rfl

/-! `mdBimg` writes `bimg` alone. -/

@[simp] theorem mdBimg_clk (f : Bimg → Bimg) : (s.mdBimg f).clk = s.clk := rfl
@[simp] theorem mdBimg_pins (f : Bimg → Bimg) : (s.mdBimg f).pins = s.pins := rfl
@[simp] theorem mdBimg_aon (f : Bimg → Bimg) : (s.mdBimg f).aon = s.aon := rfl
@[simp] theorem mdBimg_nor (f : Bimg → Bimg) : (s.mdBimg f).nor = s.nor := rfl
@[simp] theorem mdBimg_fuseCnt (f : Bimg → Bimg) : (s.mdBimg f).fuseCnt = s.fuseCnt := rfl
@[simp] theorem mdBimg_keyBanks (f : Bimg → Bimg) : (s.mdBimg f).keyBanks = s.keyBanks := rfl
@[simp] theorem mdBimg_epochRan (f : Bimg → Bimg) : (s.mdBimg f).epochRan = s.epochRan := rfl
@[simp] theorem mdBimg_top (f : Bimg → Bimg) : (s.mdBimg f).top = s.top := rfl
@[simp] theorem mdBimg_evt (f : Bimg → Bimg) : (s.mdBimg f).evt = s.evt := rfl
@[simp] theorem mdBimg_ctrl (f : Bimg → Bimg) : (s.mdBimg f).ctrl = s.ctrl := rfl
@[simp] theorem mdBimg_busyIrq (f : Bimg → Bimg) : (s.mdBimg f).busyIrq = s.busyIrq := rfl
@[simp] theorem mdBimg_cmd (f : Bimg → Bimg) : (s.mdBimg f).cmd = s.cmd := rfl
@[simp] theorem mdBimg_rp (f : Bimg → Bimg) : (s.mdBimg f).rp = s.rp := rfl
@[simp] theorem mdBimg_flt (f : Bimg → Bimg) : (s.mdBimg f).flt = s.flt := rfl
@[simp] theorem mdBimg_ledg (f : Bimg → Bimg) : (s.mdBimg f).ledg = s.ledg := rfl
@[simp] theorem mdBimg_seq (f : Bimg → Bimg) : (s.mdBimg f).seq = s.seq := rfl
@[simp] theorem mdBimg_nrg (f : Bimg → Bimg) : (s.mdBimg f).nrg = s.nrg := rfl
@[simp] theorem mdBimg_links (f : Bimg → Bimg) : (s.mdBimg f).links = s.links := rfl
@[simp] theorem mdBimg_stake (f : Bimg → Bimg) : (s.mdBimg f).stake = s.stake := rfl
@[simp] theorem mdBimg_vault (f : Bimg → Bimg) : (s.mdBimg f).vault = s.vault := rfl
@[simp] theorem mdBimg_stage (f : Bimg → Bimg) : (s.mdBimg f).stage = s.stage := rfl
@[simp] theorem mdBimg_save (f : Bimg → Bimg) : (s.mdBimg f).save = s.save := rfl
@[simp] theorem mdBimg_ret (f : Bimg → Bimg) : (s.mdBimg f).ret = s.ret := rfl
@[simp] theorem mdBimg_fab (f : Bimg → Bimg) : (s.mdBimg f).fab = s.fab := rfl
@[simp] theorem mdBimg_pair (f : Bimg → Bimg) : (s.mdBimg f).pair = s.pair := rfl
@[simp] theorem mdBimg_pending (f : Bimg → Bimg) : (s.mdBimg f).pending = s.pending := rfl

/-! `mdCmd` writes `cmd` alone. -/

@[simp] theorem mdCmd_clk (f : LongCmd → LongCmd) : (s.mdCmd f).clk = s.clk := rfl
@[simp] theorem mdCmd_pins (f : LongCmd → LongCmd) : (s.mdCmd f).pins = s.pins := rfl
@[simp] theorem mdCmd_aon (f : LongCmd → LongCmd) : (s.mdCmd f).aon = s.aon := rfl
@[simp] theorem mdCmd_nor (f : LongCmd → LongCmd) : (s.mdCmd f).nor = s.nor := rfl
@[simp] theorem mdCmd_fuseCnt (f : LongCmd → LongCmd) : (s.mdCmd f).fuseCnt = s.fuseCnt := rfl
@[simp] theorem mdCmd_keyBanks (f : LongCmd → LongCmd) : (s.mdCmd f).keyBanks = s.keyBanks := rfl
@[simp] theorem mdCmd_epochRan (f : LongCmd → LongCmd) : (s.mdCmd f).epochRan = s.epochRan := rfl
@[simp] theorem mdCmd_top (f : LongCmd → LongCmd) : (s.mdCmd f).top = s.top := rfl
@[simp] theorem mdCmd_evt (f : LongCmd → LongCmd) : (s.mdCmd f).evt = s.evt := rfl
@[simp] theorem mdCmd_ctrl (f : LongCmd → LongCmd) : (s.mdCmd f).ctrl = s.ctrl := rfl
@[simp] theorem mdCmd_busyIrq (f : LongCmd → LongCmd) : (s.mdCmd f).busyIrq = s.busyIrq := rfl
@[simp] theorem mdCmd_rp (f : LongCmd → LongCmd) : (s.mdCmd f).rp = s.rp := rfl
@[simp] theorem mdCmd_flt (f : LongCmd → LongCmd) : (s.mdCmd f).flt = s.flt := rfl
@[simp] theorem mdCmd_ledg (f : LongCmd → LongCmd) : (s.mdCmd f).ledg = s.ledg := rfl
@[simp] theorem mdCmd_bimg (f : LongCmd → LongCmd) : (s.mdCmd f).bimg = s.bimg := rfl
@[simp] theorem mdCmd_seq (f : LongCmd → LongCmd) : (s.mdCmd f).seq = s.seq := rfl
@[simp] theorem mdCmd_nrg (f : LongCmd → LongCmd) : (s.mdCmd f).nrg = s.nrg := rfl
@[simp] theorem mdCmd_links (f : LongCmd → LongCmd) : (s.mdCmd f).links = s.links := rfl
@[simp] theorem mdCmd_stake (f : LongCmd → LongCmd) : (s.mdCmd f).stake = s.stake := rfl
@[simp] theorem mdCmd_vault (f : LongCmd → LongCmd) : (s.mdCmd f).vault = s.vault := rfl
@[simp] theorem mdCmd_stage (f : LongCmd → LongCmd) : (s.mdCmd f).stage = s.stage := rfl
@[simp] theorem mdCmd_save (f : LongCmd → LongCmd) : (s.mdCmd f).save = s.save := rfl
@[simp] theorem mdCmd_ret (f : LongCmd → LongCmd) : (s.mdCmd f).ret = s.ret := rfl
@[simp] theorem mdCmd_fab (f : LongCmd → LongCmd) : (s.mdCmd f).fab = s.fab := rfl
@[simp] theorem mdCmd_pair (f : LongCmd → LongCmd) : (s.mdCmd f).pair = s.pair := rfl
@[simp] theorem mdCmd_pending (f : LongCmd → LongCmd) : (s.mdCmd f).pending = s.pending := rfl

/-! `mdVault` writes `vault` alone. -/

@[simp] theorem mdVault_clk (f : Vault → Vault) : (s.mdVault f).clk = s.clk := rfl
@[simp] theorem mdVault_pins (f : Vault → Vault) : (s.mdVault f).pins = s.pins := rfl
@[simp] theorem mdVault_aon (f : Vault → Vault) : (s.mdVault f).aon = s.aon := rfl
@[simp] theorem mdVault_nor (f : Vault → Vault) : (s.mdVault f).nor = s.nor := rfl
@[simp] theorem mdVault_fuseCnt (f : Vault → Vault) : (s.mdVault f).fuseCnt = s.fuseCnt := rfl
@[simp] theorem mdVault_keyBanks (f : Vault → Vault) : (s.mdVault f).keyBanks = s.keyBanks := rfl
@[simp] theorem mdVault_epochRan (f : Vault → Vault) : (s.mdVault f).epochRan = s.epochRan := rfl
@[simp] theorem mdVault_top (f : Vault → Vault) : (s.mdVault f).top = s.top := rfl
@[simp] theorem mdVault_evt (f : Vault → Vault) : (s.mdVault f).evt = s.evt := rfl
@[simp] theorem mdVault_ctrl (f : Vault → Vault) : (s.mdVault f).ctrl = s.ctrl := rfl
@[simp] theorem mdVault_busyIrq (f : Vault → Vault) : (s.mdVault f).busyIrq = s.busyIrq := rfl
@[simp] theorem mdVault_cmd (f : Vault → Vault) : (s.mdVault f).cmd = s.cmd := rfl
@[simp] theorem mdVault_rp (f : Vault → Vault) : (s.mdVault f).rp = s.rp := rfl
@[simp] theorem mdVault_flt (f : Vault → Vault) : (s.mdVault f).flt = s.flt := rfl
@[simp] theorem mdVault_ledg (f : Vault → Vault) : (s.mdVault f).ledg = s.ledg := rfl
@[simp] theorem mdVault_bimg (f : Vault → Vault) : (s.mdVault f).bimg = s.bimg := rfl
@[simp] theorem mdVault_seq (f : Vault → Vault) : (s.mdVault f).seq = s.seq := rfl
@[simp] theorem mdVault_nrg (f : Vault → Vault) : (s.mdVault f).nrg = s.nrg := rfl
@[simp] theorem mdVault_links (f : Vault → Vault) : (s.mdVault f).links = s.links := rfl
@[simp] theorem mdVault_stake (f : Vault → Vault) : (s.mdVault f).stake = s.stake := rfl
@[simp] theorem mdVault_stage (f : Vault → Vault) : (s.mdVault f).stage = s.stage := rfl
@[simp] theorem mdVault_save (f : Vault → Vault) : (s.mdVault f).save = s.save := rfl
@[simp] theorem mdVault_ret (f : Vault → Vault) : (s.mdVault f).ret = s.ret := rfl
@[simp] theorem mdVault_fab (f : Vault → Vault) : (s.mdVault f).fab = s.fab := rfl
@[simp] theorem mdVault_pair (f : Vault → Vault) : (s.mdVault f).pair = s.pair := rfl
@[simp] theorem mdVault_pending (f : Vault → Vault) : (s.mdVault f).pending = s.pending := rfl

/-! `mdSled` writes `vault` alone. -/

@[simp] theorem mdSled_clk (x : Nat) (f : Sled → Sled) : (s.mdSled x f).clk = s.clk := rfl
@[simp] theorem mdSled_pins (x : Nat) (f : Sled → Sled) : (s.mdSled x f).pins = s.pins := rfl
@[simp] theorem mdSled_aon (x : Nat) (f : Sled → Sled) : (s.mdSled x f).aon = s.aon := rfl
@[simp] theorem mdSled_nor (x : Nat) (f : Sled → Sled) : (s.mdSled x f).nor = s.nor := rfl
@[simp] theorem mdSled_fuseCnt (x : Nat) (f : Sled → Sled) : (s.mdSled x f).fuseCnt = s.fuseCnt := rfl
@[simp] theorem mdSled_keyBanks (x : Nat) (f : Sled → Sled) : (s.mdSled x f).keyBanks = s.keyBanks := rfl
@[simp] theorem mdSled_epochRan (x : Nat) (f : Sled → Sled) : (s.mdSled x f).epochRan = s.epochRan := rfl
@[simp] theorem mdSled_top (x : Nat) (f : Sled → Sled) : (s.mdSled x f).top = s.top := rfl
@[simp] theorem mdSled_evt (x : Nat) (f : Sled → Sled) : (s.mdSled x f).evt = s.evt := rfl
@[simp] theorem mdSled_ctrl (x : Nat) (f : Sled → Sled) : (s.mdSled x f).ctrl = s.ctrl := rfl
@[simp] theorem mdSled_busyIrq (x : Nat) (f : Sled → Sled) : (s.mdSled x f).busyIrq = s.busyIrq := rfl
@[simp] theorem mdSled_cmd (x : Nat) (f : Sled → Sled) : (s.mdSled x f).cmd = s.cmd := rfl
@[simp] theorem mdSled_rp (x : Nat) (f : Sled → Sled) : (s.mdSled x f).rp = s.rp := rfl
@[simp] theorem mdSled_flt (x : Nat) (f : Sled → Sled) : (s.mdSled x f).flt = s.flt := rfl
@[simp] theorem mdSled_ledg (x : Nat) (f : Sled → Sled) : (s.mdSled x f).ledg = s.ledg := rfl
@[simp] theorem mdSled_bimg (x : Nat) (f : Sled → Sled) : (s.mdSled x f).bimg = s.bimg := rfl
@[simp] theorem mdSled_seq (x : Nat) (f : Sled → Sled) : (s.mdSled x f).seq = s.seq := rfl
@[simp] theorem mdSled_nrg (x : Nat) (f : Sled → Sled) : (s.mdSled x f).nrg = s.nrg := rfl
@[simp] theorem mdSled_links (x : Nat) (f : Sled → Sled) : (s.mdSled x f).links = s.links := rfl
@[simp] theorem mdSled_stake (x : Nat) (f : Sled → Sled) : (s.mdSled x f).stake = s.stake := rfl
@[simp] theorem mdSled_stage (x : Nat) (f : Sled → Sled) : (s.mdSled x f).stage = s.stage := rfl
@[simp] theorem mdSled_save (x : Nat) (f : Sled → Sled) : (s.mdSled x f).save = s.save := rfl
@[simp] theorem mdSled_ret (x : Nat) (f : Sled → Sled) : (s.mdSled x f).ret = s.ret := rfl
@[simp] theorem mdSled_fab (x : Nat) (f : Sled → Sled) : (s.mdSled x f).fab = s.fab := rfl
@[simp] theorem mdSled_pair (x : Nat) (f : Sled → Sled) : (s.mdSled x f).pair = s.pair := rfl
@[simp] theorem mdSled_pending (x : Nat) (f : Sled → Sled) : (s.mdSled x f).pending = s.pending := rfl

/-! `mdRing` writes `vault` alone. -/

@[simp] theorem mdRing_clk (r : Nat) (f : Ring → Ring) : (s.mdRing r f).clk = s.clk := rfl
@[simp] theorem mdRing_pins (r : Nat) (f : Ring → Ring) : (s.mdRing r f).pins = s.pins := rfl
@[simp] theorem mdRing_aon (r : Nat) (f : Ring → Ring) : (s.mdRing r f).aon = s.aon := rfl
@[simp] theorem mdRing_nor (r : Nat) (f : Ring → Ring) : (s.mdRing r f).nor = s.nor := rfl
@[simp] theorem mdRing_fuseCnt (r : Nat) (f : Ring → Ring) : (s.mdRing r f).fuseCnt = s.fuseCnt := rfl
@[simp] theorem mdRing_keyBanks (r : Nat) (f : Ring → Ring) : (s.mdRing r f).keyBanks = s.keyBanks := rfl
@[simp] theorem mdRing_epochRan (r : Nat) (f : Ring → Ring) : (s.mdRing r f).epochRan = s.epochRan := rfl
@[simp] theorem mdRing_top (r : Nat) (f : Ring → Ring) : (s.mdRing r f).top = s.top := rfl
@[simp] theorem mdRing_evt (r : Nat) (f : Ring → Ring) : (s.mdRing r f).evt = s.evt := rfl
@[simp] theorem mdRing_ctrl (r : Nat) (f : Ring → Ring) : (s.mdRing r f).ctrl = s.ctrl := rfl
@[simp] theorem mdRing_busyIrq (r : Nat) (f : Ring → Ring) : (s.mdRing r f).busyIrq = s.busyIrq := rfl
@[simp] theorem mdRing_cmd (r : Nat) (f : Ring → Ring) : (s.mdRing r f).cmd = s.cmd := rfl
@[simp] theorem mdRing_rp (r : Nat) (f : Ring → Ring) : (s.mdRing r f).rp = s.rp := rfl
@[simp] theorem mdRing_flt (r : Nat) (f : Ring → Ring) : (s.mdRing r f).flt = s.flt := rfl
@[simp] theorem mdRing_ledg (r : Nat) (f : Ring → Ring) : (s.mdRing r f).ledg = s.ledg := rfl
@[simp] theorem mdRing_bimg (r : Nat) (f : Ring → Ring) : (s.mdRing r f).bimg = s.bimg := rfl
@[simp] theorem mdRing_seq (r : Nat) (f : Ring → Ring) : (s.mdRing r f).seq = s.seq := rfl
@[simp] theorem mdRing_nrg (r : Nat) (f : Ring → Ring) : (s.mdRing r f).nrg = s.nrg := rfl
@[simp] theorem mdRing_links (r : Nat) (f : Ring → Ring) : (s.mdRing r f).links = s.links := rfl
@[simp] theorem mdRing_stake (r : Nat) (f : Ring → Ring) : (s.mdRing r f).stake = s.stake := rfl
@[simp] theorem mdRing_stage (r : Nat) (f : Ring → Ring) : (s.mdRing r f).stage = s.stage := rfl
@[simp] theorem mdRing_save (r : Nat) (f : Ring → Ring) : (s.mdRing r f).save = s.save := rfl
@[simp] theorem mdRing_ret (r : Nat) (f : Ring → Ring) : (s.mdRing r f).ret = s.ret := rfl
@[simp] theorem mdRing_fab (r : Nat) (f : Ring → Ring) : (s.mdRing r f).fab = s.fab := rfl
@[simp] theorem mdRing_pair (r : Nat) (f : Ring → Ring) : (s.mdRing r f).pair = s.pair := rfl
@[simp] theorem mdRing_pending (r : Nat) (f : Ring → Ring) : (s.mdRing r f).pending = s.pending := rfl

/-! `mdDev` writes `vault` alone. -/

@[simp] theorem mdDev_clk (x : Nat) (f : SledDev → SledDev) : (s.mdDev x f).clk = s.clk := rfl
@[simp] theorem mdDev_pins (x : Nat) (f : SledDev → SledDev) : (s.mdDev x f).pins = s.pins := rfl
@[simp] theorem mdDev_aon (x : Nat) (f : SledDev → SledDev) : (s.mdDev x f).aon = s.aon := rfl
@[simp] theorem mdDev_nor (x : Nat) (f : SledDev → SledDev) : (s.mdDev x f).nor = s.nor := rfl
@[simp] theorem mdDev_fuseCnt (x : Nat) (f : SledDev → SledDev) : (s.mdDev x f).fuseCnt = s.fuseCnt := rfl
@[simp] theorem mdDev_keyBanks (x : Nat) (f : SledDev → SledDev) : (s.mdDev x f).keyBanks = s.keyBanks := rfl
@[simp] theorem mdDev_epochRan (x : Nat) (f : SledDev → SledDev) : (s.mdDev x f).epochRan = s.epochRan := rfl
@[simp] theorem mdDev_top (x : Nat) (f : SledDev → SledDev) : (s.mdDev x f).top = s.top := rfl
@[simp] theorem mdDev_evt (x : Nat) (f : SledDev → SledDev) : (s.mdDev x f).evt = s.evt := rfl
@[simp] theorem mdDev_ctrl (x : Nat) (f : SledDev → SledDev) : (s.mdDev x f).ctrl = s.ctrl := rfl
@[simp] theorem mdDev_busyIrq (x : Nat) (f : SledDev → SledDev) : (s.mdDev x f).busyIrq = s.busyIrq := rfl
@[simp] theorem mdDev_cmd (x : Nat) (f : SledDev → SledDev) : (s.mdDev x f).cmd = s.cmd := rfl
@[simp] theorem mdDev_rp (x : Nat) (f : SledDev → SledDev) : (s.mdDev x f).rp = s.rp := rfl
@[simp] theorem mdDev_flt (x : Nat) (f : SledDev → SledDev) : (s.mdDev x f).flt = s.flt := rfl
@[simp] theorem mdDev_ledg (x : Nat) (f : SledDev → SledDev) : (s.mdDev x f).ledg = s.ledg := rfl
@[simp] theorem mdDev_bimg (x : Nat) (f : SledDev → SledDev) : (s.mdDev x f).bimg = s.bimg := rfl
@[simp] theorem mdDev_seq (x : Nat) (f : SledDev → SledDev) : (s.mdDev x f).seq = s.seq := rfl
@[simp] theorem mdDev_nrg (x : Nat) (f : SledDev → SledDev) : (s.mdDev x f).nrg = s.nrg := rfl
@[simp] theorem mdDev_links (x : Nat) (f : SledDev → SledDev) : (s.mdDev x f).links = s.links := rfl
@[simp] theorem mdDev_stake (x : Nat) (f : SledDev → SledDev) : (s.mdDev x f).stake = s.stake := rfl
@[simp] theorem mdDev_stage (x : Nat) (f : SledDev → SledDev) : (s.mdDev x f).stage = s.stage := rfl
@[simp] theorem mdDev_save (x : Nat) (f : SledDev → SledDev) : (s.mdDev x f).save = s.save := rfl
@[simp] theorem mdDev_ret (x : Nat) (f : SledDev → SledDev) : (s.mdDev x f).ret = s.ret := rfl
@[simp] theorem mdDev_fab (x : Nat) (f : SledDev → SledDev) : (s.mdDev x f).fab = s.fab := rfl
@[simp] theorem mdDev_pair (x : Nat) (f : SledDev → SledDev) : (s.mdDev x f).pair = s.pair := rfl
@[simp] theorem mdDev_pending (x : Nat) (f : SledDev → SledDev) : (s.mdDev x f).pending = s.pending := rfl

/-! `mdReloc` writes `vault` alone. -/

@[simp] theorem mdReloc_clk (f : Reloc → Reloc) : (s.mdReloc f).clk = s.clk := rfl
@[simp] theorem mdReloc_pins (f : Reloc → Reloc) : (s.mdReloc f).pins = s.pins := rfl
@[simp] theorem mdReloc_aon (f : Reloc → Reloc) : (s.mdReloc f).aon = s.aon := rfl
@[simp] theorem mdReloc_nor (f : Reloc → Reloc) : (s.mdReloc f).nor = s.nor := rfl
@[simp] theorem mdReloc_fuseCnt (f : Reloc → Reloc) : (s.mdReloc f).fuseCnt = s.fuseCnt := rfl
@[simp] theorem mdReloc_keyBanks (f : Reloc → Reloc) : (s.mdReloc f).keyBanks = s.keyBanks := rfl
@[simp] theorem mdReloc_epochRan (f : Reloc → Reloc) : (s.mdReloc f).epochRan = s.epochRan := rfl
@[simp] theorem mdReloc_top (f : Reloc → Reloc) : (s.mdReloc f).top = s.top := rfl
@[simp] theorem mdReloc_evt (f : Reloc → Reloc) : (s.mdReloc f).evt = s.evt := rfl
@[simp] theorem mdReloc_ctrl (f : Reloc → Reloc) : (s.mdReloc f).ctrl = s.ctrl := rfl
@[simp] theorem mdReloc_busyIrq (f : Reloc → Reloc) : (s.mdReloc f).busyIrq = s.busyIrq := rfl
@[simp] theorem mdReloc_cmd (f : Reloc → Reloc) : (s.mdReloc f).cmd = s.cmd := rfl
@[simp] theorem mdReloc_rp (f : Reloc → Reloc) : (s.mdReloc f).rp = s.rp := rfl
@[simp] theorem mdReloc_flt (f : Reloc → Reloc) : (s.mdReloc f).flt = s.flt := rfl
@[simp] theorem mdReloc_ledg (f : Reloc → Reloc) : (s.mdReloc f).ledg = s.ledg := rfl
@[simp] theorem mdReloc_bimg (f : Reloc → Reloc) : (s.mdReloc f).bimg = s.bimg := rfl
@[simp] theorem mdReloc_seq (f : Reloc → Reloc) : (s.mdReloc f).seq = s.seq := rfl
@[simp] theorem mdReloc_nrg (f : Reloc → Reloc) : (s.mdReloc f).nrg = s.nrg := rfl
@[simp] theorem mdReloc_links (f : Reloc → Reloc) : (s.mdReloc f).links = s.links := rfl
@[simp] theorem mdReloc_stake (f : Reloc → Reloc) : (s.mdReloc f).stake = s.stake := rfl
@[simp] theorem mdReloc_stage (f : Reloc → Reloc) : (s.mdReloc f).stage = s.stage := rfl
@[simp] theorem mdReloc_save (f : Reloc → Reloc) : (s.mdReloc f).save = s.save := rfl
@[simp] theorem mdReloc_ret (f : Reloc → Reloc) : (s.mdReloc f).ret = s.ret := rfl
@[simp] theorem mdReloc_fab (f : Reloc → Reloc) : (s.mdReloc f).fab = s.fab := rfl
@[simp] theorem mdReloc_pair (f : Reloc → Reloc) : (s.mdReloc f).pair = s.pair := rfl
@[simp] theorem mdReloc_pending (f : Reloc → Reloc) : (s.mdReloc f).pending = s.pending := rfl

/-! `mdLk` writes `links` alone. -/

@[simp] theorem mdLk_clk (p : Nat) (f : Link → Link) : (s.mdLk p f).clk = s.clk := rfl
@[simp] theorem mdLk_pins (p : Nat) (f : Link → Link) : (s.mdLk p f).pins = s.pins := rfl
@[simp] theorem mdLk_aon (p : Nat) (f : Link → Link) : (s.mdLk p f).aon = s.aon := rfl
@[simp] theorem mdLk_nor (p : Nat) (f : Link → Link) : (s.mdLk p f).nor = s.nor := rfl
@[simp] theorem mdLk_fuseCnt (p : Nat) (f : Link → Link) : (s.mdLk p f).fuseCnt = s.fuseCnt := rfl
@[simp] theorem mdLk_keyBanks (p : Nat) (f : Link → Link) : (s.mdLk p f).keyBanks = s.keyBanks := rfl
@[simp] theorem mdLk_epochRan (p : Nat) (f : Link → Link) : (s.mdLk p f).epochRan = s.epochRan := rfl
@[simp] theorem mdLk_top (p : Nat) (f : Link → Link) : (s.mdLk p f).top = s.top := rfl
@[simp] theorem mdLk_evt (p : Nat) (f : Link → Link) : (s.mdLk p f).evt = s.evt := rfl
@[simp] theorem mdLk_ctrl (p : Nat) (f : Link → Link) : (s.mdLk p f).ctrl = s.ctrl := rfl
@[simp] theorem mdLk_busyIrq (p : Nat) (f : Link → Link) : (s.mdLk p f).busyIrq = s.busyIrq := rfl
@[simp] theorem mdLk_cmd (p : Nat) (f : Link → Link) : (s.mdLk p f).cmd = s.cmd := rfl
@[simp] theorem mdLk_rp (p : Nat) (f : Link → Link) : (s.mdLk p f).rp = s.rp := rfl
@[simp] theorem mdLk_flt (p : Nat) (f : Link → Link) : (s.mdLk p f).flt = s.flt := rfl
@[simp] theorem mdLk_ledg (p : Nat) (f : Link → Link) : (s.mdLk p f).ledg = s.ledg := rfl
@[simp] theorem mdLk_bimg (p : Nat) (f : Link → Link) : (s.mdLk p f).bimg = s.bimg := rfl
@[simp] theorem mdLk_seq (p : Nat) (f : Link → Link) : (s.mdLk p f).seq = s.seq := rfl
@[simp] theorem mdLk_nrg (p : Nat) (f : Link → Link) : (s.mdLk p f).nrg = s.nrg := rfl
@[simp] theorem mdLk_stake (p : Nat) (f : Link → Link) : (s.mdLk p f).stake = s.stake := rfl
@[simp] theorem mdLk_vault (p : Nat) (f : Link → Link) : (s.mdLk p f).vault = s.vault := rfl
@[simp] theorem mdLk_stage (p : Nat) (f : Link → Link) : (s.mdLk p f).stage = s.stage := rfl
@[simp] theorem mdLk_save (p : Nat) (f : Link → Link) : (s.mdLk p f).save = s.save := rfl
@[simp] theorem mdLk_ret (p : Nat) (f : Link → Link) : (s.mdLk p f).ret = s.ret := rfl
@[simp] theorem mdLk_fab (p : Nat) (f : Link → Link) : (s.mdLk p f).fab = s.fab := rfl
@[simp] theorem mdLk_pair (p : Nat) (f : Link → Link) : (s.mdLk p f).pair = s.pair := rfl
@[simp] theorem mdLk_pending (p : Nat) (f : Link → Link) : (s.mdLk p f).pending = s.pending := rfl

/-! `mdPair` writes `pair` alone. -/

@[simp] theorem mdPair_clk (f : Pair → Pair) : (s.mdPair f).clk = s.clk := rfl
@[simp] theorem mdPair_pins (f : Pair → Pair) : (s.mdPair f).pins = s.pins := rfl
@[simp] theorem mdPair_aon (f : Pair → Pair) : (s.mdPair f).aon = s.aon := rfl
@[simp] theorem mdPair_nor (f : Pair → Pair) : (s.mdPair f).nor = s.nor := rfl
@[simp] theorem mdPair_fuseCnt (f : Pair → Pair) : (s.mdPair f).fuseCnt = s.fuseCnt := rfl
@[simp] theorem mdPair_keyBanks (f : Pair → Pair) : (s.mdPair f).keyBanks = s.keyBanks := rfl
@[simp] theorem mdPair_epochRan (f : Pair → Pair) : (s.mdPair f).epochRan = s.epochRan := rfl
@[simp] theorem mdPair_top (f : Pair → Pair) : (s.mdPair f).top = s.top := rfl
@[simp] theorem mdPair_evt (f : Pair → Pair) : (s.mdPair f).evt = s.evt := rfl
@[simp] theorem mdPair_ctrl (f : Pair → Pair) : (s.mdPair f).ctrl = s.ctrl := rfl
@[simp] theorem mdPair_busyIrq (f : Pair → Pair) : (s.mdPair f).busyIrq = s.busyIrq := rfl
@[simp] theorem mdPair_cmd (f : Pair → Pair) : (s.mdPair f).cmd = s.cmd := rfl
@[simp] theorem mdPair_rp (f : Pair → Pair) : (s.mdPair f).rp = s.rp := rfl
@[simp] theorem mdPair_flt (f : Pair → Pair) : (s.mdPair f).flt = s.flt := rfl
@[simp] theorem mdPair_ledg (f : Pair → Pair) : (s.mdPair f).ledg = s.ledg := rfl
@[simp] theorem mdPair_bimg (f : Pair → Pair) : (s.mdPair f).bimg = s.bimg := rfl
@[simp] theorem mdPair_seq (f : Pair → Pair) : (s.mdPair f).seq = s.seq := rfl
@[simp] theorem mdPair_nrg (f : Pair → Pair) : (s.mdPair f).nrg = s.nrg := rfl
@[simp] theorem mdPair_links (f : Pair → Pair) : (s.mdPair f).links = s.links := rfl
@[simp] theorem mdPair_stake (f : Pair → Pair) : (s.mdPair f).stake = s.stake := rfl
@[simp] theorem mdPair_vault (f : Pair → Pair) : (s.mdPair f).vault = s.vault := rfl
@[simp] theorem mdPair_stage (f : Pair → Pair) : (s.mdPair f).stage = s.stage := rfl
@[simp] theorem mdPair_save (f : Pair → Pair) : (s.mdPair f).save = s.save := rfl
@[simp] theorem mdPair_ret (f : Pair → Pair) : (s.mdPair f).ret = s.ret := rfl
@[simp] theorem mdPair_fab (f : Pair → Pair) : (s.mdPair f).fab = s.fab := rfl
@[simp] theorem mdPair_pending (f : Pair → Pair) : (s.mdPair f).pending = s.pending := rfl

/-! `mdPp` writes `stage` alone. -/

@[simp] theorem mdPp_clk (p : Nat) (f : StgP → StgP) : (s.mdPp p f).clk = s.clk := rfl
@[simp] theorem mdPp_pins (p : Nat) (f : StgP → StgP) : (s.mdPp p f).pins = s.pins := rfl
@[simp] theorem mdPp_aon (p : Nat) (f : StgP → StgP) : (s.mdPp p f).aon = s.aon := rfl
@[simp] theorem mdPp_nor (p : Nat) (f : StgP → StgP) : (s.mdPp p f).nor = s.nor := rfl
@[simp] theorem mdPp_fuseCnt (p : Nat) (f : StgP → StgP) : (s.mdPp p f).fuseCnt = s.fuseCnt := rfl
@[simp] theorem mdPp_keyBanks (p : Nat) (f : StgP → StgP) : (s.mdPp p f).keyBanks = s.keyBanks := rfl
@[simp] theorem mdPp_epochRan (p : Nat) (f : StgP → StgP) : (s.mdPp p f).epochRan = s.epochRan := rfl
@[simp] theorem mdPp_top (p : Nat) (f : StgP → StgP) : (s.mdPp p f).top = s.top := rfl
@[simp] theorem mdPp_evt (p : Nat) (f : StgP → StgP) : (s.mdPp p f).evt = s.evt := rfl
@[simp] theorem mdPp_ctrl (p : Nat) (f : StgP → StgP) : (s.mdPp p f).ctrl = s.ctrl := rfl
@[simp] theorem mdPp_busyIrq (p : Nat) (f : StgP → StgP) : (s.mdPp p f).busyIrq = s.busyIrq := rfl
@[simp] theorem mdPp_cmd (p : Nat) (f : StgP → StgP) : (s.mdPp p f).cmd = s.cmd := rfl
@[simp] theorem mdPp_rp (p : Nat) (f : StgP → StgP) : (s.mdPp p f).rp = s.rp := rfl
@[simp] theorem mdPp_flt (p : Nat) (f : StgP → StgP) : (s.mdPp p f).flt = s.flt := rfl
@[simp] theorem mdPp_ledg (p : Nat) (f : StgP → StgP) : (s.mdPp p f).ledg = s.ledg := rfl
@[simp] theorem mdPp_bimg (p : Nat) (f : StgP → StgP) : (s.mdPp p f).bimg = s.bimg := rfl
@[simp] theorem mdPp_seq (p : Nat) (f : StgP → StgP) : (s.mdPp p f).seq = s.seq := rfl
@[simp] theorem mdPp_nrg (p : Nat) (f : StgP → StgP) : (s.mdPp p f).nrg = s.nrg := rfl
@[simp] theorem mdPp_links (p : Nat) (f : StgP → StgP) : (s.mdPp p f).links = s.links := rfl
@[simp] theorem mdPp_stake (p : Nat) (f : StgP → StgP) : (s.mdPp p f).stake = s.stake := rfl
@[simp] theorem mdPp_vault (p : Nat) (f : StgP → StgP) : (s.mdPp p f).vault = s.vault := rfl
@[simp] theorem mdPp_save (p : Nat) (f : StgP → StgP) : (s.mdPp p f).save = s.save := rfl
@[simp] theorem mdPp_ret (p : Nat) (f : StgP → StgP) : (s.mdPp p f).ret = s.ret := rfl
@[simp] theorem mdPp_fab (p : Nat) (f : StgP → StgP) : (s.mdPp p f).fab = s.fab := rfl
@[simp] theorem mdPp_pair (p : Nat) (f : StgP → StgP) : (s.mdPp p f).pair = s.pair := rfl
@[simp] theorem mdPp_pending (p : Nat) (f : StgP → StgP) : (s.mdPp p f).pending = s.pending := rfl

/-! `mdSlot` writes `seq` alone. -/

@[simp] theorem mdSlot_clk (n : Nat) (f : Slot → Slot) : (s.mdSlot n f).clk = s.clk := rfl
@[simp] theorem mdSlot_pins (n : Nat) (f : Slot → Slot) : (s.mdSlot n f).pins = s.pins := rfl
@[simp] theorem mdSlot_aon (n : Nat) (f : Slot → Slot) : (s.mdSlot n f).aon = s.aon := rfl
@[simp] theorem mdSlot_nor (n : Nat) (f : Slot → Slot) : (s.mdSlot n f).nor = s.nor := rfl
@[simp] theorem mdSlot_fuseCnt (n : Nat) (f : Slot → Slot) : (s.mdSlot n f).fuseCnt = s.fuseCnt := rfl
@[simp] theorem mdSlot_keyBanks (n : Nat) (f : Slot → Slot) : (s.mdSlot n f).keyBanks = s.keyBanks := rfl
@[simp] theorem mdSlot_epochRan (n : Nat) (f : Slot → Slot) : (s.mdSlot n f).epochRan = s.epochRan := rfl
@[simp] theorem mdSlot_top (n : Nat) (f : Slot → Slot) : (s.mdSlot n f).top = s.top := rfl
@[simp] theorem mdSlot_evt (n : Nat) (f : Slot → Slot) : (s.mdSlot n f).evt = s.evt := rfl
@[simp] theorem mdSlot_ctrl (n : Nat) (f : Slot → Slot) : (s.mdSlot n f).ctrl = s.ctrl := rfl
@[simp] theorem mdSlot_busyIrq (n : Nat) (f : Slot → Slot) : (s.mdSlot n f).busyIrq = s.busyIrq := rfl
@[simp] theorem mdSlot_cmd (n : Nat) (f : Slot → Slot) : (s.mdSlot n f).cmd = s.cmd := rfl
@[simp] theorem mdSlot_rp (n : Nat) (f : Slot → Slot) : (s.mdSlot n f).rp = s.rp := rfl
@[simp] theorem mdSlot_flt (n : Nat) (f : Slot → Slot) : (s.mdSlot n f).flt = s.flt := rfl
@[simp] theorem mdSlot_ledg (n : Nat) (f : Slot → Slot) : (s.mdSlot n f).ledg = s.ledg := rfl
@[simp] theorem mdSlot_bimg (n : Nat) (f : Slot → Slot) : (s.mdSlot n f).bimg = s.bimg := rfl
@[simp] theorem mdSlot_nrg (n : Nat) (f : Slot → Slot) : (s.mdSlot n f).nrg = s.nrg := rfl
@[simp] theorem mdSlot_links (n : Nat) (f : Slot → Slot) : (s.mdSlot n f).links = s.links := rfl
@[simp] theorem mdSlot_stake (n : Nat) (f : Slot → Slot) : (s.mdSlot n f).stake = s.stake := rfl
@[simp] theorem mdSlot_vault (n : Nat) (f : Slot → Slot) : (s.mdSlot n f).vault = s.vault := rfl
@[simp] theorem mdSlot_stage (n : Nat) (f : Slot → Slot) : (s.mdSlot n f).stage = s.stage := rfl
@[simp] theorem mdSlot_save (n : Nat) (f : Slot → Slot) : (s.mdSlot n f).save = s.save := rfl
@[simp] theorem mdSlot_ret (n : Nat) (f : Slot → Slot) : (s.mdSlot n f).ret = s.ret := rfl
@[simp] theorem mdSlot_fab (n : Nat) (f : Slot → Slot) : (s.mdSlot n f).fab = s.fab := rfl
@[simp] theorem mdSlot_pair (n : Nat) (f : Slot → Slot) : (s.mdSlot n f).pair = s.pair := rfl
@[simp] theorem mdSlot_pending (n : Nat) (f : Slot → Slot) : (s.mdSlot n f).pending = s.pending := rfl

/-! `mdRt` writes `ret` alone. -/

@[simp] theorem mdRt_clk (p : Nat) (f : RetP → RetP) : (s.mdRt p f).clk = s.clk := rfl
@[simp] theorem mdRt_pins (p : Nat) (f : RetP → RetP) : (s.mdRt p f).pins = s.pins := rfl
@[simp] theorem mdRt_aon (p : Nat) (f : RetP → RetP) : (s.mdRt p f).aon = s.aon := rfl
@[simp] theorem mdRt_nor (p : Nat) (f : RetP → RetP) : (s.mdRt p f).nor = s.nor := rfl
@[simp] theorem mdRt_fuseCnt (p : Nat) (f : RetP → RetP) : (s.mdRt p f).fuseCnt = s.fuseCnt := rfl
@[simp] theorem mdRt_keyBanks (p : Nat) (f : RetP → RetP) : (s.mdRt p f).keyBanks = s.keyBanks := rfl
@[simp] theorem mdRt_epochRan (p : Nat) (f : RetP → RetP) : (s.mdRt p f).epochRan = s.epochRan := rfl
@[simp] theorem mdRt_top (p : Nat) (f : RetP → RetP) : (s.mdRt p f).top = s.top := rfl
@[simp] theorem mdRt_evt (p : Nat) (f : RetP → RetP) : (s.mdRt p f).evt = s.evt := rfl
@[simp] theorem mdRt_ctrl (p : Nat) (f : RetP → RetP) : (s.mdRt p f).ctrl = s.ctrl := rfl
@[simp] theorem mdRt_busyIrq (p : Nat) (f : RetP → RetP) : (s.mdRt p f).busyIrq = s.busyIrq := rfl
@[simp] theorem mdRt_cmd (p : Nat) (f : RetP → RetP) : (s.mdRt p f).cmd = s.cmd := rfl
@[simp] theorem mdRt_rp (p : Nat) (f : RetP → RetP) : (s.mdRt p f).rp = s.rp := rfl
@[simp] theorem mdRt_flt (p : Nat) (f : RetP → RetP) : (s.mdRt p f).flt = s.flt := rfl
@[simp] theorem mdRt_ledg (p : Nat) (f : RetP → RetP) : (s.mdRt p f).ledg = s.ledg := rfl
@[simp] theorem mdRt_bimg (p : Nat) (f : RetP → RetP) : (s.mdRt p f).bimg = s.bimg := rfl
@[simp] theorem mdRt_seq (p : Nat) (f : RetP → RetP) : (s.mdRt p f).seq = s.seq := rfl
@[simp] theorem mdRt_nrg (p : Nat) (f : RetP → RetP) : (s.mdRt p f).nrg = s.nrg := rfl
@[simp] theorem mdRt_links (p : Nat) (f : RetP → RetP) : (s.mdRt p f).links = s.links := rfl
@[simp] theorem mdRt_stake (p : Nat) (f : RetP → RetP) : (s.mdRt p f).stake = s.stake := rfl
@[simp] theorem mdRt_vault (p : Nat) (f : RetP → RetP) : (s.mdRt p f).vault = s.vault := rfl
@[simp] theorem mdRt_stage (p : Nat) (f : RetP → RetP) : (s.mdRt p f).stage = s.stage := rfl
@[simp] theorem mdRt_save (p : Nat) (f : RetP → RetP) : (s.mdRt p f).save = s.save := rfl
@[simp] theorem mdRt_fab (p : Nat) (f : RetP → RetP) : (s.mdRt p f).fab = s.fab := rfl
@[simp] theorem mdRt_pair (p : Nat) (f : RetP → RetP) : (s.mdRt p f).pair = s.pair := rfl
@[simp] theorem mdRt_pending (p : Nat) (f : RetP → RetP) : (s.mdRt p f).pending = s.pending := rfl

/-! `mdSv` writes `save` alone. -/

@[simp] theorem mdSv_clk (p : Nat) (f : SvPort → SvPort) : (s.mdSv p f).clk = s.clk := rfl
@[simp] theorem mdSv_pins (p : Nat) (f : SvPort → SvPort) : (s.mdSv p f).pins = s.pins := rfl
@[simp] theorem mdSv_aon (p : Nat) (f : SvPort → SvPort) : (s.mdSv p f).aon = s.aon := rfl
@[simp] theorem mdSv_nor (p : Nat) (f : SvPort → SvPort) : (s.mdSv p f).nor = s.nor := rfl
@[simp] theorem mdSv_fuseCnt (p : Nat) (f : SvPort → SvPort) : (s.mdSv p f).fuseCnt = s.fuseCnt := rfl
@[simp] theorem mdSv_keyBanks (p : Nat) (f : SvPort → SvPort) : (s.mdSv p f).keyBanks = s.keyBanks := rfl
@[simp] theorem mdSv_epochRan (p : Nat) (f : SvPort → SvPort) : (s.mdSv p f).epochRan = s.epochRan := rfl
@[simp] theorem mdSv_top (p : Nat) (f : SvPort → SvPort) : (s.mdSv p f).top = s.top := rfl
@[simp] theorem mdSv_evt (p : Nat) (f : SvPort → SvPort) : (s.mdSv p f).evt = s.evt := rfl
@[simp] theorem mdSv_ctrl (p : Nat) (f : SvPort → SvPort) : (s.mdSv p f).ctrl = s.ctrl := rfl
@[simp] theorem mdSv_busyIrq (p : Nat) (f : SvPort → SvPort) : (s.mdSv p f).busyIrq = s.busyIrq := rfl
@[simp] theorem mdSv_cmd (p : Nat) (f : SvPort → SvPort) : (s.mdSv p f).cmd = s.cmd := rfl
@[simp] theorem mdSv_rp (p : Nat) (f : SvPort → SvPort) : (s.mdSv p f).rp = s.rp := rfl
@[simp] theorem mdSv_flt (p : Nat) (f : SvPort → SvPort) : (s.mdSv p f).flt = s.flt := rfl
@[simp] theorem mdSv_ledg (p : Nat) (f : SvPort → SvPort) : (s.mdSv p f).ledg = s.ledg := rfl
@[simp] theorem mdSv_bimg (p : Nat) (f : SvPort → SvPort) : (s.mdSv p f).bimg = s.bimg := rfl
@[simp] theorem mdSv_seq (p : Nat) (f : SvPort → SvPort) : (s.mdSv p f).seq = s.seq := rfl
@[simp] theorem mdSv_nrg (p : Nat) (f : SvPort → SvPort) : (s.mdSv p f).nrg = s.nrg := rfl
@[simp] theorem mdSv_links (p : Nat) (f : SvPort → SvPort) : (s.mdSv p f).links = s.links := rfl
@[simp] theorem mdSv_stake (p : Nat) (f : SvPort → SvPort) : (s.mdSv p f).stake = s.stake := rfl
@[simp] theorem mdSv_vault (p : Nat) (f : SvPort → SvPort) : (s.mdSv p f).vault = s.vault := rfl
@[simp] theorem mdSv_stage (p : Nat) (f : SvPort → SvPort) : (s.mdSv p f).stage = s.stage := rfl
@[simp] theorem mdSv_ret (p : Nat) (f : SvPort → SvPort) : (s.mdSv p f).ret = s.ret := rfl
@[simp] theorem mdSv_fab (p : Nat) (f : SvPort → SvPort) : (s.mdSv p f).fab = s.fab := rfl
@[simp] theorem mdSv_pair (p : Nat) (f : SvPort → SvPort) : (s.mdSv p f).pair = s.pair := rfl
@[simp] theorem mdSv_pending (p : Nat) (f : SvPort → SvPort) : (s.mdSv p f).pending = s.pending := rfl

/-! `mdSave` writes `save` alone. -/

@[simp] theorem mdSave_clk (f : Save → Save) : (s.mdSave f).clk = s.clk := rfl
@[simp] theorem mdSave_pins (f : Save → Save) : (s.mdSave f).pins = s.pins := rfl
@[simp] theorem mdSave_aon (f : Save → Save) : (s.mdSave f).aon = s.aon := rfl
@[simp] theorem mdSave_nor (f : Save → Save) : (s.mdSave f).nor = s.nor := rfl
@[simp] theorem mdSave_fuseCnt (f : Save → Save) : (s.mdSave f).fuseCnt = s.fuseCnt := rfl
@[simp] theorem mdSave_keyBanks (f : Save → Save) : (s.mdSave f).keyBanks = s.keyBanks := rfl
@[simp] theorem mdSave_epochRan (f : Save → Save) : (s.mdSave f).epochRan = s.epochRan := rfl
@[simp] theorem mdSave_top (f : Save → Save) : (s.mdSave f).top = s.top := rfl
@[simp] theorem mdSave_evt (f : Save → Save) : (s.mdSave f).evt = s.evt := rfl
@[simp] theorem mdSave_ctrl (f : Save → Save) : (s.mdSave f).ctrl = s.ctrl := rfl
@[simp] theorem mdSave_busyIrq (f : Save → Save) : (s.mdSave f).busyIrq = s.busyIrq := rfl
@[simp] theorem mdSave_cmd (f : Save → Save) : (s.mdSave f).cmd = s.cmd := rfl
@[simp] theorem mdSave_rp (f : Save → Save) : (s.mdSave f).rp = s.rp := rfl
@[simp] theorem mdSave_flt (f : Save → Save) : (s.mdSave f).flt = s.flt := rfl
@[simp] theorem mdSave_ledg (f : Save → Save) : (s.mdSave f).ledg = s.ledg := rfl
@[simp] theorem mdSave_bimg (f : Save → Save) : (s.mdSave f).bimg = s.bimg := rfl
@[simp] theorem mdSave_seq (f : Save → Save) : (s.mdSave f).seq = s.seq := rfl
@[simp] theorem mdSave_nrg (f : Save → Save) : (s.mdSave f).nrg = s.nrg := rfl
@[simp] theorem mdSave_links (f : Save → Save) : (s.mdSave f).links = s.links := rfl
@[simp] theorem mdSave_stake (f : Save → Save) : (s.mdSave f).stake = s.stake := rfl
@[simp] theorem mdSave_vault (f : Save → Save) : (s.mdSave f).vault = s.vault := rfl
@[simp] theorem mdSave_stage (f : Save → Save) : (s.mdSave f).stage = s.stage := rfl
@[simp] theorem mdSave_ret (f : Save → Save) : (s.mdSave f).ret = s.ret := rfl
@[simp] theorem mdSave_fab (f : Save → Save) : (s.mdSave f).fab = s.fab := rfl
@[simp] theorem mdSave_pair (f : Save → Save) : (s.mdSave f).pair = s.pair := rfl
@[simp] theorem mdSave_pending (f : Save → Save) : (s.mdSave f).pending = s.pending := rfl

/-! `mdStake` writes `stake` alone. -/

@[simp] theorem mdStake_clk (f : StkVals → StkVals) : (s.mdStake f).clk = s.clk := rfl
@[simp] theorem mdStake_pins (f : StkVals → StkVals) : (s.mdStake f).pins = s.pins := rfl
@[simp] theorem mdStake_aon (f : StkVals → StkVals) : (s.mdStake f).aon = s.aon := rfl
@[simp] theorem mdStake_nor (f : StkVals → StkVals) : (s.mdStake f).nor = s.nor := rfl
@[simp] theorem mdStake_fuseCnt (f : StkVals → StkVals) : (s.mdStake f).fuseCnt = s.fuseCnt := rfl
@[simp] theorem mdStake_keyBanks (f : StkVals → StkVals) : (s.mdStake f).keyBanks = s.keyBanks := rfl
@[simp] theorem mdStake_epochRan (f : StkVals → StkVals) : (s.mdStake f).epochRan = s.epochRan := rfl
@[simp] theorem mdStake_top (f : StkVals → StkVals) : (s.mdStake f).top = s.top := rfl
@[simp] theorem mdStake_evt (f : StkVals → StkVals) : (s.mdStake f).evt = s.evt := rfl
@[simp] theorem mdStake_ctrl (f : StkVals → StkVals) : (s.mdStake f).ctrl = s.ctrl := rfl
@[simp] theorem mdStake_busyIrq (f : StkVals → StkVals) : (s.mdStake f).busyIrq = s.busyIrq := rfl
@[simp] theorem mdStake_cmd (f : StkVals → StkVals) : (s.mdStake f).cmd = s.cmd := rfl
@[simp] theorem mdStake_rp (f : StkVals → StkVals) : (s.mdStake f).rp = s.rp := rfl
@[simp] theorem mdStake_flt (f : StkVals → StkVals) : (s.mdStake f).flt = s.flt := rfl
@[simp] theorem mdStake_ledg (f : StkVals → StkVals) : (s.mdStake f).ledg = s.ledg := rfl
@[simp] theorem mdStake_bimg (f : StkVals → StkVals) : (s.mdStake f).bimg = s.bimg := rfl
@[simp] theorem mdStake_seq (f : StkVals → StkVals) : (s.mdStake f).seq = s.seq := rfl
@[simp] theorem mdStake_nrg (f : StkVals → StkVals) : (s.mdStake f).nrg = s.nrg := rfl
@[simp] theorem mdStake_links (f : StkVals → StkVals) : (s.mdStake f).links = s.links := rfl
@[simp] theorem mdStake_vault (f : StkVals → StkVals) : (s.mdStake f).vault = s.vault := rfl
@[simp] theorem mdStake_stage (f : StkVals → StkVals) : (s.mdStake f).stage = s.stage := rfl
@[simp] theorem mdStake_save (f : StkVals → StkVals) : (s.mdStake f).save = s.save := rfl
@[simp] theorem mdStake_ret (f : StkVals → StkVals) : (s.mdStake f).ret = s.ret := rfl
@[simp] theorem mdStake_fab (f : StkVals → StkVals) : (s.mdStake f).fab = s.fab := rfl
@[simp] theorem mdStake_pair (f : StkVals → StkVals) : (s.mdStake f).pair = s.pair := rfl
@[simp] theorem mdStake_pending (f : StkVals → StkVals) : (s.mdStake f).pending = s.pending := rfl

/-! `mdStk` writes `stake` alone. -/

@[simp] theorem mdStk_clk (p : Nat) (f : StkP → StkP) : (s.mdStk p f).clk = s.clk := rfl
@[simp] theorem mdStk_pins (p : Nat) (f : StkP → StkP) : (s.mdStk p f).pins = s.pins := rfl
@[simp] theorem mdStk_aon (p : Nat) (f : StkP → StkP) : (s.mdStk p f).aon = s.aon := rfl
@[simp] theorem mdStk_nor (p : Nat) (f : StkP → StkP) : (s.mdStk p f).nor = s.nor := rfl
@[simp] theorem mdStk_fuseCnt (p : Nat) (f : StkP → StkP) : (s.mdStk p f).fuseCnt = s.fuseCnt := rfl
@[simp] theorem mdStk_keyBanks (p : Nat) (f : StkP → StkP) : (s.mdStk p f).keyBanks = s.keyBanks := rfl
@[simp] theorem mdStk_epochRan (p : Nat) (f : StkP → StkP) : (s.mdStk p f).epochRan = s.epochRan := rfl
@[simp] theorem mdStk_top (p : Nat) (f : StkP → StkP) : (s.mdStk p f).top = s.top := rfl
@[simp] theorem mdStk_evt (p : Nat) (f : StkP → StkP) : (s.mdStk p f).evt = s.evt := rfl
@[simp] theorem mdStk_ctrl (p : Nat) (f : StkP → StkP) : (s.mdStk p f).ctrl = s.ctrl := rfl
@[simp] theorem mdStk_busyIrq (p : Nat) (f : StkP → StkP) : (s.mdStk p f).busyIrq = s.busyIrq := rfl
@[simp] theorem mdStk_cmd (p : Nat) (f : StkP → StkP) : (s.mdStk p f).cmd = s.cmd := rfl
@[simp] theorem mdStk_rp (p : Nat) (f : StkP → StkP) : (s.mdStk p f).rp = s.rp := rfl
@[simp] theorem mdStk_flt (p : Nat) (f : StkP → StkP) : (s.mdStk p f).flt = s.flt := rfl
@[simp] theorem mdStk_ledg (p : Nat) (f : StkP → StkP) : (s.mdStk p f).ledg = s.ledg := rfl
@[simp] theorem mdStk_bimg (p : Nat) (f : StkP → StkP) : (s.mdStk p f).bimg = s.bimg := rfl
@[simp] theorem mdStk_seq (p : Nat) (f : StkP → StkP) : (s.mdStk p f).seq = s.seq := rfl
@[simp] theorem mdStk_nrg (p : Nat) (f : StkP → StkP) : (s.mdStk p f).nrg = s.nrg := rfl
@[simp] theorem mdStk_links (p : Nat) (f : StkP → StkP) : (s.mdStk p f).links = s.links := rfl
@[simp] theorem mdStk_vault (p : Nat) (f : StkP → StkP) : (s.mdStk p f).vault = s.vault := rfl
@[simp] theorem mdStk_stage (p : Nat) (f : StkP → StkP) : (s.mdStk p f).stage = s.stage := rfl
@[simp] theorem mdStk_save (p : Nat) (f : StkP → StkP) : (s.mdStk p f).save = s.save := rfl
@[simp] theorem mdStk_ret (p : Nat) (f : StkP → StkP) : (s.mdStk p f).ret = s.ret := rfl
@[simp] theorem mdStk_fab (p : Nat) (f : StkP → StkP) : (s.mdStk p f).fab = s.fab := rfl
@[simp] theorem mdStk_pair (p : Nat) (f : StkP → StkP) : (s.mdStk p f).pair = s.pair := rfl
@[simp] theorem mdStk_pending (p : Nat) (f : StkP → StkP) : (s.mdStk p f).pending = s.pending := rfl

/-! `mdStkQ` writes `stake` alone. -/

@[simp] theorem mdStkQ_clk (p : Nat) (f : StkQ → StkQ) : (s.mdStkQ p f).clk = s.clk := rfl
@[simp] theorem mdStkQ_pins (p : Nat) (f : StkQ → StkQ) : (s.mdStkQ p f).pins = s.pins := rfl
@[simp] theorem mdStkQ_aon (p : Nat) (f : StkQ → StkQ) : (s.mdStkQ p f).aon = s.aon := rfl
@[simp] theorem mdStkQ_nor (p : Nat) (f : StkQ → StkQ) : (s.mdStkQ p f).nor = s.nor := rfl
@[simp] theorem mdStkQ_fuseCnt (p : Nat) (f : StkQ → StkQ) : (s.mdStkQ p f).fuseCnt = s.fuseCnt := rfl
@[simp] theorem mdStkQ_keyBanks (p : Nat) (f : StkQ → StkQ) : (s.mdStkQ p f).keyBanks = s.keyBanks := rfl
@[simp] theorem mdStkQ_epochRan (p : Nat) (f : StkQ → StkQ) : (s.mdStkQ p f).epochRan = s.epochRan := rfl
@[simp] theorem mdStkQ_top (p : Nat) (f : StkQ → StkQ) : (s.mdStkQ p f).top = s.top := rfl
@[simp] theorem mdStkQ_evt (p : Nat) (f : StkQ → StkQ) : (s.mdStkQ p f).evt = s.evt := rfl
@[simp] theorem mdStkQ_ctrl (p : Nat) (f : StkQ → StkQ) : (s.mdStkQ p f).ctrl = s.ctrl := rfl
@[simp] theorem mdStkQ_busyIrq (p : Nat) (f : StkQ → StkQ) : (s.mdStkQ p f).busyIrq = s.busyIrq := rfl
@[simp] theorem mdStkQ_cmd (p : Nat) (f : StkQ → StkQ) : (s.mdStkQ p f).cmd = s.cmd := rfl
@[simp] theorem mdStkQ_rp (p : Nat) (f : StkQ → StkQ) : (s.mdStkQ p f).rp = s.rp := rfl
@[simp] theorem mdStkQ_flt (p : Nat) (f : StkQ → StkQ) : (s.mdStkQ p f).flt = s.flt := rfl
@[simp] theorem mdStkQ_ledg (p : Nat) (f : StkQ → StkQ) : (s.mdStkQ p f).ledg = s.ledg := rfl
@[simp] theorem mdStkQ_bimg (p : Nat) (f : StkQ → StkQ) : (s.mdStkQ p f).bimg = s.bimg := rfl
@[simp] theorem mdStkQ_seq (p : Nat) (f : StkQ → StkQ) : (s.mdStkQ p f).seq = s.seq := rfl
@[simp] theorem mdStkQ_nrg (p : Nat) (f : StkQ → StkQ) : (s.mdStkQ p f).nrg = s.nrg := rfl
@[simp] theorem mdStkQ_links (p : Nat) (f : StkQ → StkQ) : (s.mdStkQ p f).links = s.links := rfl
@[simp] theorem mdStkQ_vault (p : Nat) (f : StkQ → StkQ) : (s.mdStkQ p f).vault = s.vault := rfl
@[simp] theorem mdStkQ_stage (p : Nat) (f : StkQ → StkQ) : (s.mdStkQ p f).stage = s.stage := rfl
@[simp] theorem mdStkQ_save (p : Nat) (f : StkQ → StkQ) : (s.mdStkQ p f).save = s.save := rfl
@[simp] theorem mdStkQ_ret (p : Nat) (f : StkQ → StkQ) : (s.mdStkQ p f).ret = s.ret := rfl
@[simp] theorem mdStkQ_fab (p : Nat) (f : StkQ → StkQ) : (s.mdStkQ p f).fab = s.fab := rfl
@[simp] theorem mdStkQ_pair (p : Nat) (f : StkQ → StkQ) : (s.mdStkQ p f).pair = s.pair := rfl
@[simp] theorem mdStkQ_pending (p : Nat) (f : StkQ → StkQ) : (s.mdStkQ p f).pending = s.pending := rfl

/-! `mdStr` writes `aon` alone. -/

@[simp] theorem mdStr_clk (k : Nat) (f : Str → Str) : (s.mdStr k f).clk = s.clk := rfl
@[simp] theorem mdStr_pins (k : Nat) (f : Str → Str) : (s.mdStr k f).pins = s.pins := rfl
@[simp] theorem mdStr_nor (k : Nat) (f : Str → Str) : (s.mdStr k f).nor = s.nor := rfl
@[simp] theorem mdStr_fuseCnt (k : Nat) (f : Str → Str) : (s.mdStr k f).fuseCnt = s.fuseCnt := rfl
@[simp] theorem mdStr_keyBanks (k : Nat) (f : Str → Str) : (s.mdStr k f).keyBanks = s.keyBanks := rfl
@[simp] theorem mdStr_epochRan (k : Nat) (f : Str → Str) : (s.mdStr k f).epochRan = s.epochRan := rfl
@[simp] theorem mdStr_top (k : Nat) (f : Str → Str) : (s.mdStr k f).top = s.top := rfl
@[simp] theorem mdStr_evt (k : Nat) (f : Str → Str) : (s.mdStr k f).evt = s.evt := rfl
@[simp] theorem mdStr_ctrl (k : Nat) (f : Str → Str) : (s.mdStr k f).ctrl = s.ctrl := rfl
@[simp] theorem mdStr_busyIrq (k : Nat) (f : Str → Str) : (s.mdStr k f).busyIrq = s.busyIrq := rfl
@[simp] theorem mdStr_cmd (k : Nat) (f : Str → Str) : (s.mdStr k f).cmd = s.cmd := rfl
@[simp] theorem mdStr_rp (k : Nat) (f : Str → Str) : (s.mdStr k f).rp = s.rp := rfl
@[simp] theorem mdStr_flt (k : Nat) (f : Str → Str) : (s.mdStr k f).flt = s.flt := rfl
@[simp] theorem mdStr_ledg (k : Nat) (f : Str → Str) : (s.mdStr k f).ledg = s.ledg := rfl
@[simp] theorem mdStr_bimg (k : Nat) (f : Str → Str) : (s.mdStr k f).bimg = s.bimg := rfl
@[simp] theorem mdStr_seq (k : Nat) (f : Str → Str) : (s.mdStr k f).seq = s.seq := rfl
@[simp] theorem mdStr_nrg (k : Nat) (f : Str → Str) : (s.mdStr k f).nrg = s.nrg := rfl
@[simp] theorem mdStr_links (k : Nat) (f : Str → Str) : (s.mdStr k f).links = s.links := rfl
@[simp] theorem mdStr_stake (k : Nat) (f : Str → Str) : (s.mdStr k f).stake = s.stake := rfl
@[simp] theorem mdStr_vault (k : Nat) (f : Str → Str) : (s.mdStr k f).vault = s.vault := rfl
@[simp] theorem mdStr_stage (k : Nat) (f : Str → Str) : (s.mdStr k f).stage = s.stage := rfl
@[simp] theorem mdStr_save (k : Nat) (f : Str → Str) : (s.mdStr k f).save = s.save := rfl
@[simp] theorem mdStr_ret (k : Nat) (f : Str → Str) : (s.mdStr k f).ret = s.ret := rfl
@[simp] theorem mdStr_fab (k : Nat) (f : Str → Str) : (s.mdStr k f).fab = s.fab := rfl
@[simp] theorem mdStr_pair (k : Nat) (f : Str → Str) : (s.mdStr k f).pair = s.pair := rfl
@[simp] theorem mdStr_pending (k : Nat) (f : Str → Str) : (s.mdStr k f).pending = s.pending := rfl

/-! `mdStrC` writes `nrg` alone. -/

@[simp] theorem mdStrC_clk (k : Nat) (f : StrC → StrC) : (s.mdStrC k f).clk = s.clk := rfl
@[simp] theorem mdStrC_pins (k : Nat) (f : StrC → StrC) : (s.mdStrC k f).pins = s.pins := rfl
@[simp] theorem mdStrC_aon (k : Nat) (f : StrC → StrC) : (s.mdStrC k f).aon = s.aon := rfl
@[simp] theorem mdStrC_nor (k : Nat) (f : StrC → StrC) : (s.mdStrC k f).nor = s.nor := rfl
@[simp] theorem mdStrC_fuseCnt (k : Nat) (f : StrC → StrC) : (s.mdStrC k f).fuseCnt = s.fuseCnt := rfl
@[simp] theorem mdStrC_keyBanks (k : Nat) (f : StrC → StrC) : (s.mdStrC k f).keyBanks = s.keyBanks := rfl
@[simp] theorem mdStrC_epochRan (k : Nat) (f : StrC → StrC) : (s.mdStrC k f).epochRan = s.epochRan := rfl
@[simp] theorem mdStrC_top (k : Nat) (f : StrC → StrC) : (s.mdStrC k f).top = s.top := rfl
@[simp] theorem mdStrC_evt (k : Nat) (f : StrC → StrC) : (s.mdStrC k f).evt = s.evt := rfl
@[simp] theorem mdStrC_ctrl (k : Nat) (f : StrC → StrC) : (s.mdStrC k f).ctrl = s.ctrl := rfl
@[simp] theorem mdStrC_busyIrq (k : Nat) (f : StrC → StrC) : (s.mdStrC k f).busyIrq = s.busyIrq := rfl
@[simp] theorem mdStrC_cmd (k : Nat) (f : StrC → StrC) : (s.mdStrC k f).cmd = s.cmd := rfl
@[simp] theorem mdStrC_rp (k : Nat) (f : StrC → StrC) : (s.mdStrC k f).rp = s.rp := rfl
@[simp] theorem mdStrC_flt (k : Nat) (f : StrC → StrC) : (s.mdStrC k f).flt = s.flt := rfl
@[simp] theorem mdStrC_ledg (k : Nat) (f : StrC → StrC) : (s.mdStrC k f).ledg = s.ledg := rfl
@[simp] theorem mdStrC_bimg (k : Nat) (f : StrC → StrC) : (s.mdStrC k f).bimg = s.bimg := rfl
@[simp] theorem mdStrC_seq (k : Nat) (f : StrC → StrC) : (s.mdStrC k f).seq = s.seq := rfl
@[simp] theorem mdStrC_links (k : Nat) (f : StrC → StrC) : (s.mdStrC k f).links = s.links := rfl
@[simp] theorem mdStrC_stake (k : Nat) (f : StrC → StrC) : (s.mdStrC k f).stake = s.stake := rfl
@[simp] theorem mdStrC_vault (k : Nat) (f : StrC → StrC) : (s.mdStrC k f).vault = s.vault := rfl
@[simp] theorem mdStrC_stage (k : Nat) (f : StrC → StrC) : (s.mdStrC k f).stage = s.stage := rfl
@[simp] theorem mdStrC_save (k : Nat) (f : StrC → StrC) : (s.mdStrC k f).save = s.save := rfl
@[simp] theorem mdStrC_ret (k : Nat) (f : StrC → StrC) : (s.mdStrC k f).ret = s.ret := rfl
@[simp] theorem mdStrC_fab (k : Nat) (f : StrC → StrC) : (s.mdStrC k f).fab = s.fab := rfl
@[simp] theorem mdStrC_pair (k : Nat) (f : StrC → StrC) : (s.mdStrC k f).pair = s.pair := rfl
@[simp] theorem mdStrC_pending (k : Nat) (f : StrC → StrC) : (s.mdStrC k f).pending = s.pending := rfl

/-! `setEvt` writes `evt` alone. -/

@[simp] theorem setEvt_clk (b j : Nat) : (s.setEvt b j).clk = s.clk := rfl
@[simp] theorem setEvt_pins (b j : Nat) : (s.setEvt b j).pins = s.pins := rfl
@[simp] theorem setEvt_aon (b j : Nat) : (s.setEvt b j).aon = s.aon := rfl
@[simp] theorem setEvt_nor (b j : Nat) : (s.setEvt b j).nor = s.nor := rfl
@[simp] theorem setEvt_fuseCnt (b j : Nat) : (s.setEvt b j).fuseCnt = s.fuseCnt := rfl
@[simp] theorem setEvt_keyBanks (b j : Nat) : (s.setEvt b j).keyBanks = s.keyBanks := rfl
@[simp] theorem setEvt_epochRan (b j : Nat) : (s.setEvt b j).epochRan = s.epochRan := rfl
@[simp] theorem setEvt_top (b j : Nat) : (s.setEvt b j).top = s.top := rfl
@[simp] theorem setEvt_ctrl (b j : Nat) : (s.setEvt b j).ctrl = s.ctrl := rfl
@[simp] theorem setEvt_busyIrq (b j : Nat) : (s.setEvt b j).busyIrq = s.busyIrq := rfl
@[simp] theorem setEvt_cmd (b j : Nat) : (s.setEvt b j).cmd = s.cmd := rfl
@[simp] theorem setEvt_rp (b j : Nat) : (s.setEvt b j).rp = s.rp := rfl
@[simp] theorem setEvt_flt (b j : Nat) : (s.setEvt b j).flt = s.flt := rfl
@[simp] theorem setEvt_ledg (b j : Nat) : (s.setEvt b j).ledg = s.ledg := rfl
@[simp] theorem setEvt_bimg (b j : Nat) : (s.setEvt b j).bimg = s.bimg := rfl
@[simp] theorem setEvt_seq (b j : Nat) : (s.setEvt b j).seq = s.seq := rfl
@[simp] theorem setEvt_nrg (b j : Nat) : (s.setEvt b j).nrg = s.nrg := rfl
@[simp] theorem setEvt_links (b j : Nat) : (s.setEvt b j).links = s.links := rfl
@[simp] theorem setEvt_stake (b j : Nat) : (s.setEvt b j).stake = s.stake := rfl
@[simp] theorem setEvt_vault (b j : Nat) : (s.setEvt b j).vault = s.vault := rfl
@[simp] theorem setEvt_stage (b j : Nat) : (s.setEvt b j).stage = s.stage := rfl
@[simp] theorem setEvt_save (b j : Nat) : (s.setEvt b j).save = s.save := rfl
@[simp] theorem setEvt_ret (b j : Nat) : (s.setEvt b j).ret = s.ret := rfl
@[simp] theorem setEvt_fab (b j : Nat) : (s.setEvt b j).fab = s.fab := rfl
@[simp] theorem setEvt_pair (b j : Nat) : (s.setEvt b j).pair = s.pair := rfl
@[simp] theorem setEvt_pending (b j : Nat) : (s.setEvt b j).pending = s.pending := rfl

/-! `tick` writes `clk` alone. -/

@[simp] theorem tick_pins : s.tick.pins = s.pins := rfl
@[simp] theorem tick_aon : s.tick.aon = s.aon := rfl
@[simp] theorem tick_nor : s.tick.nor = s.nor := rfl
@[simp] theorem tick_fuseCnt : s.tick.fuseCnt = s.fuseCnt := rfl
@[simp] theorem tick_keyBanks : s.tick.keyBanks = s.keyBanks := rfl
@[simp] theorem tick_epochRan : s.tick.epochRan = s.epochRan := rfl
@[simp] theorem tick_top : s.tick.top = s.top := rfl
@[simp] theorem tick_evt : s.tick.evt = s.evt := rfl
@[simp] theorem tick_ctrl : s.tick.ctrl = s.ctrl := rfl
@[simp] theorem tick_busyIrq : s.tick.busyIrq = s.busyIrq := rfl
@[simp] theorem tick_cmd : s.tick.cmd = s.cmd := rfl
@[simp] theorem tick_rp : s.tick.rp = s.rp := rfl
@[simp] theorem tick_flt : s.tick.flt = s.flt := rfl
@[simp] theorem tick_ledg : s.tick.ledg = s.ledg := rfl
@[simp] theorem tick_bimg : s.tick.bimg = s.bimg := rfl
@[simp] theorem tick_seq : s.tick.seq = s.seq := rfl
@[simp] theorem tick_nrg : s.tick.nrg = s.nrg := rfl
@[simp] theorem tick_links : s.tick.links = s.links := rfl
@[simp] theorem tick_stake : s.tick.stake = s.stake := rfl
@[simp] theorem tick_vault : s.tick.vault = s.vault := rfl
@[simp] theorem tick_stage : s.tick.stage = s.stage := rfl
@[simp] theorem tick_save : s.tick.save = s.save := rfl
@[simp] theorem tick_ret : s.tick.ret = s.ret := rfl
@[simp] theorem tick_fab : s.tick.fab = s.fab := rfl
@[simp] theorem tick_pair : s.tick.pair = s.pair := rfl
@[simp] theorem tick_pending : s.tick.pending = s.pending := rfl

/-! `arrive` writes `clk` alone. -/

@[simp] theorem arrive_pins : s.arrive.pins = s.pins := rfl
@[simp] theorem arrive_aon : s.arrive.aon = s.aon := rfl
@[simp] theorem arrive_nor : s.arrive.nor = s.nor := rfl
@[simp] theorem arrive_fuseCnt : s.arrive.fuseCnt = s.fuseCnt := rfl
@[simp] theorem arrive_keyBanks : s.arrive.keyBanks = s.keyBanks := rfl
@[simp] theorem arrive_epochRan : s.arrive.epochRan = s.epochRan := rfl
@[simp] theorem arrive_top : s.arrive.top = s.top := rfl
@[simp] theorem arrive_evt : s.arrive.evt = s.evt := rfl
@[simp] theorem arrive_ctrl : s.arrive.ctrl = s.ctrl := rfl
@[simp] theorem arrive_busyIrq : s.arrive.busyIrq = s.busyIrq := rfl
@[simp] theorem arrive_cmd : s.arrive.cmd = s.cmd := rfl
@[simp] theorem arrive_rp : s.arrive.rp = s.rp := rfl
@[simp] theorem arrive_flt : s.arrive.flt = s.flt := rfl
@[simp] theorem arrive_ledg : s.arrive.ledg = s.ledg := rfl
@[simp] theorem arrive_bimg : s.arrive.bimg = s.bimg := rfl
@[simp] theorem arrive_seq : s.arrive.seq = s.seq := rfl
@[simp] theorem arrive_nrg : s.arrive.nrg = s.nrg := rfl
@[simp] theorem arrive_links : s.arrive.links = s.links := rfl
@[simp] theorem arrive_stake : s.arrive.stake = s.stake := rfl
@[simp] theorem arrive_vault : s.arrive.vault = s.vault := rfl
@[simp] theorem arrive_stage : s.arrive.stage = s.stage := rfl
@[simp] theorem arrive_save : s.arrive.save = s.save := rfl
@[simp] theorem arrive_ret : s.arrive.ret = s.ret := rfl
@[simp] theorem arrive_fab : s.arrive.fab = s.fab := rfl
@[simp] theorem arrive_pair : s.arrive.pair = s.pair := rfl
@[simp] theorem arrive_pending : s.arrive.pending = s.pending := rfl

/-! `unraise` writes `flt` alone. -/

@[simp] theorem unraise_clk (a b : Nat) : (s.unraise a b).clk = s.clk := rfl
@[simp] theorem unraise_pins (a b : Nat) : (s.unraise a b).pins = s.pins := rfl
@[simp] theorem unraise_aon (a b : Nat) : (s.unraise a b).aon = s.aon := rfl
@[simp] theorem unraise_nor (a b : Nat) : (s.unraise a b).nor = s.nor := rfl
@[simp] theorem unraise_fuseCnt (a b : Nat) : (s.unraise a b).fuseCnt = s.fuseCnt := rfl
@[simp] theorem unraise_keyBanks (a b : Nat) : (s.unraise a b).keyBanks = s.keyBanks := rfl
@[simp] theorem unraise_epochRan (a b : Nat) : (s.unraise a b).epochRan = s.epochRan := rfl
@[simp] theorem unraise_top (a b : Nat) : (s.unraise a b).top = s.top := rfl
@[simp] theorem unraise_evt (a b : Nat) : (s.unraise a b).evt = s.evt := rfl
@[simp] theorem unraise_ctrl (a b : Nat) : (s.unraise a b).ctrl = s.ctrl := rfl
@[simp] theorem unraise_busyIrq (a b : Nat) : (s.unraise a b).busyIrq = s.busyIrq := rfl
@[simp] theorem unraise_cmd (a b : Nat) : (s.unraise a b).cmd = s.cmd := rfl
@[simp] theorem unraise_rp (a b : Nat) : (s.unraise a b).rp = s.rp := rfl
@[simp] theorem unraise_ledg (a b : Nat) : (s.unraise a b).ledg = s.ledg := rfl
@[simp] theorem unraise_bimg (a b : Nat) : (s.unraise a b).bimg = s.bimg := rfl
@[simp] theorem unraise_seq (a b : Nat) : (s.unraise a b).seq = s.seq := rfl
@[simp] theorem unraise_nrg (a b : Nat) : (s.unraise a b).nrg = s.nrg := rfl
@[simp] theorem unraise_links (a b : Nat) : (s.unraise a b).links = s.links := rfl
@[simp] theorem unraise_stake (a b : Nat) : (s.unraise a b).stake = s.stake := rfl
@[simp] theorem unraise_vault (a b : Nat) : (s.unraise a b).vault = s.vault := rfl
@[simp] theorem unraise_stage (a b : Nat) : (s.unraise a b).stage = s.stage := rfl
@[simp] theorem unraise_save (a b : Nat) : (s.unraise a b).save = s.save := rfl
@[simp] theorem unraise_ret (a b : Nat) : (s.unraise a b).ret = s.ret := rfl
@[simp] theorem unraise_fab (a b : Nat) : (s.unraise a b).fab = s.fab := rfl
@[simp] theorem unraise_pair (a b : Nat) : (s.unraise a b).pair = s.pair := rfl
@[simp] theorem unraise_pending (a b : Nat) : (s.unraise a b).pending = s.pending := rfl

/-! `rpData` writes `rp` alone. -/

@[simp] theorem rpData_clk (w : Word) : (s.rpData w).clk = s.clk := rfl
@[simp] theorem rpData_pins (w : Word) : (s.rpData w).pins = s.pins := rfl
@[simp] theorem rpData_aon (w : Word) : (s.rpData w).aon = s.aon := rfl
@[simp] theorem rpData_nor (w : Word) : (s.rpData w).nor = s.nor := rfl
@[simp] theorem rpData_fuseCnt (w : Word) : (s.rpData w).fuseCnt = s.fuseCnt := rfl
@[simp] theorem rpData_keyBanks (w : Word) : (s.rpData w).keyBanks = s.keyBanks := rfl
@[simp] theorem rpData_epochRan (w : Word) : (s.rpData w).epochRan = s.epochRan := rfl
@[simp] theorem rpData_top (w : Word) : (s.rpData w).top = s.top := rfl
@[simp] theorem rpData_evt (w : Word) : (s.rpData w).evt = s.evt := rfl
@[simp] theorem rpData_ctrl (w : Word) : (s.rpData w).ctrl = s.ctrl := rfl
@[simp] theorem rpData_busyIrq (w : Word) : (s.rpData w).busyIrq = s.busyIrq := rfl
@[simp] theorem rpData_cmd (w : Word) : (s.rpData w).cmd = s.cmd := rfl
@[simp] theorem rpData_flt (w : Word) : (s.rpData w).flt = s.flt := rfl
@[simp] theorem rpData_ledg (w : Word) : (s.rpData w).ledg = s.ledg := rfl
@[simp] theorem rpData_bimg (w : Word) : (s.rpData w).bimg = s.bimg := rfl
@[simp] theorem rpData_seq (w : Word) : (s.rpData w).seq = s.seq := rfl
@[simp] theorem rpData_nrg (w : Word) : (s.rpData w).nrg = s.nrg := rfl
@[simp] theorem rpData_links (w : Word) : (s.rpData w).links = s.links := rfl
@[simp] theorem rpData_stake (w : Word) : (s.rpData w).stake = s.stake := rfl
@[simp] theorem rpData_vault (w : Word) : (s.rpData w).vault = s.vault := rfl
@[simp] theorem rpData_stage (w : Word) : (s.rpData w).stage = s.stage := rfl
@[simp] theorem rpData_save (w : Word) : (s.rpData w).save = s.save := rfl
@[simp] theorem rpData_ret (w : Word) : (s.rpData w).ret = s.ret := rfl
@[simp] theorem rpData_fab (w : Word) : (s.rpData w).fab = s.fab := rfl
@[simp] theorem rpData_pair (w : Word) : (s.rpData w).pair = s.pair := rfl
@[simp] theorem rpData_pending (w : Word) : (s.rpData w).pending = s.pending := rfl

/-! `rpDead` writes `rp` alone. -/

@[simp] theorem rpDead_clk : s.rpDead.clk = s.clk := rfl
@[simp] theorem rpDead_pins : s.rpDead.pins = s.pins := rfl
@[simp] theorem rpDead_aon : s.rpDead.aon = s.aon := rfl
@[simp] theorem rpDead_nor : s.rpDead.nor = s.nor := rfl
@[simp] theorem rpDead_fuseCnt : s.rpDead.fuseCnt = s.fuseCnt := rfl
@[simp] theorem rpDead_keyBanks : s.rpDead.keyBanks = s.keyBanks := rfl
@[simp] theorem rpDead_epochRan : s.rpDead.epochRan = s.epochRan := rfl
@[simp] theorem rpDead_top : s.rpDead.top = s.top := rfl
@[simp] theorem rpDead_evt : s.rpDead.evt = s.evt := rfl
@[simp] theorem rpDead_ctrl : s.rpDead.ctrl = s.ctrl := rfl
@[simp] theorem rpDead_busyIrq : s.rpDead.busyIrq = s.busyIrq := rfl
@[simp] theorem rpDead_cmd : s.rpDead.cmd = s.cmd := rfl
@[simp] theorem rpDead_flt : s.rpDead.flt = s.flt := rfl
@[simp] theorem rpDead_ledg : s.rpDead.ledg = s.ledg := rfl
@[simp] theorem rpDead_bimg : s.rpDead.bimg = s.bimg := rfl
@[simp] theorem rpDead_seq : s.rpDead.seq = s.seq := rfl
@[simp] theorem rpDead_nrg : s.rpDead.nrg = s.nrg := rfl
@[simp] theorem rpDead_links : s.rpDead.links = s.links := rfl
@[simp] theorem rpDead_stake : s.rpDead.stake = s.stake := rfl
@[simp] theorem rpDead_vault : s.rpDead.vault = s.vault := rfl
@[simp] theorem rpDead_stage : s.rpDead.stage = s.stage := rfl
@[simp] theorem rpDead_save : s.rpDead.save = s.save := rfl
@[simp] theorem rpDead_ret : s.rpDead.ret = s.ret := rfl
@[simp] theorem rpDead_fab : s.rpDead.fab = s.fab := rfl
@[simp] theorem rpDead_pair : s.rpDead.pair = s.pair := rfl
@[simp] theorem rpDead_pending : s.rpDead.pending = s.pending := rfl

/-! `enter` writes `top` alone. -/

@[simp] theorem enter_clk (n : TopState) : (s.enter n).clk = s.clk := rfl
@[simp] theorem enter_pins (n : TopState) : (s.enter n).pins = s.pins := rfl
@[simp] theorem enter_aon (n : TopState) : (s.enter n).aon = s.aon := rfl
@[simp] theorem enter_nor (n : TopState) : (s.enter n).nor = s.nor := rfl
@[simp] theorem enter_fuseCnt (n : TopState) : (s.enter n).fuseCnt = s.fuseCnt := rfl
@[simp] theorem enter_keyBanks (n : TopState) : (s.enter n).keyBanks = s.keyBanks := rfl
@[simp] theorem enter_epochRan (n : TopState) : (s.enter n).epochRan = s.epochRan := rfl
@[simp] theorem enter_evt (n : TopState) : (s.enter n).evt = s.evt := rfl
@[simp] theorem enter_ctrl (n : TopState) : (s.enter n).ctrl = s.ctrl := rfl
@[simp] theorem enter_busyIrq (n : TopState) : (s.enter n).busyIrq = s.busyIrq := rfl
@[simp] theorem enter_cmd (n : TopState) : (s.enter n).cmd = s.cmd := rfl
@[simp] theorem enter_rp (n : TopState) : (s.enter n).rp = s.rp := rfl
@[simp] theorem enter_flt (n : TopState) : (s.enter n).flt = s.flt := rfl
@[simp] theorem enter_ledg (n : TopState) : (s.enter n).ledg = s.ledg := rfl
@[simp] theorem enter_bimg (n : TopState) : (s.enter n).bimg = s.bimg := rfl
@[simp] theorem enter_seq (n : TopState) : (s.enter n).seq = s.seq := rfl
@[simp] theorem enter_nrg (n : TopState) : (s.enter n).nrg = s.nrg := rfl
@[simp] theorem enter_links (n : TopState) : (s.enter n).links = s.links := rfl
@[simp] theorem enter_stake (n : TopState) : (s.enter n).stake = s.stake := rfl
@[simp] theorem enter_vault (n : TopState) : (s.enter n).vault = s.vault := rfl
@[simp] theorem enter_stage (n : TopState) : (s.enter n).stage = s.stage := rfl
@[simp] theorem enter_save (n : TopState) : (s.enter n).save = s.save := rfl
@[simp] theorem enter_ret (n : TopState) : (s.enter n).ret = s.ret := rfl
@[simp] theorem enter_fab (n : TopState) : (s.enter n).fab = s.fab := rfl
@[simp] theorem enter_pair (n : TopState) : (s.enter n).pair = s.pair := rfl
@[simp] theorem enter_pending (n : TopState) : (s.enter n).pending = s.pending := rfl

/-! `pushRec` writes `ledg` alone. -/

@[simp] theorem pushRec_clk (k fl : Nat) (st : Stamp) (b : List Byte) : (s.pushRec k fl st b).clk = s.clk := rfl
@[simp] theorem pushRec_pins (k fl : Nat) (st : Stamp) (b : List Byte) : (s.pushRec k fl st b).pins = s.pins := rfl
@[simp] theorem pushRec_aon (k fl : Nat) (st : Stamp) (b : List Byte) : (s.pushRec k fl st b).aon = s.aon := rfl
@[simp] theorem pushRec_nor (k fl : Nat) (st : Stamp) (b : List Byte) : (s.pushRec k fl st b).nor = s.nor := rfl
@[simp] theorem pushRec_fuseCnt (k fl : Nat) (st : Stamp) (b : List Byte) : (s.pushRec k fl st b).fuseCnt = s.fuseCnt := rfl
@[simp] theorem pushRec_keyBanks (k fl : Nat) (st : Stamp) (b : List Byte) : (s.pushRec k fl st b).keyBanks = s.keyBanks := rfl
@[simp] theorem pushRec_epochRan (k fl : Nat) (st : Stamp) (b : List Byte) : (s.pushRec k fl st b).epochRan = s.epochRan := rfl
@[simp] theorem pushRec_top (k fl : Nat) (st : Stamp) (b : List Byte) : (s.pushRec k fl st b).top = s.top := rfl
@[simp] theorem pushRec_evt (k fl : Nat) (st : Stamp) (b : List Byte) : (s.pushRec k fl st b).evt = s.evt := rfl
@[simp] theorem pushRec_ctrl (k fl : Nat) (st : Stamp) (b : List Byte) : (s.pushRec k fl st b).ctrl = s.ctrl := rfl
@[simp] theorem pushRec_busyIrq (k fl : Nat) (st : Stamp) (b : List Byte) : (s.pushRec k fl st b).busyIrq = s.busyIrq := rfl
@[simp] theorem pushRec_cmd (k fl : Nat) (st : Stamp) (b : List Byte) : (s.pushRec k fl st b).cmd = s.cmd := rfl
@[simp] theorem pushRec_rp (k fl : Nat) (st : Stamp) (b : List Byte) : (s.pushRec k fl st b).rp = s.rp := rfl
@[simp] theorem pushRec_flt (k fl : Nat) (st : Stamp) (b : List Byte) : (s.pushRec k fl st b).flt = s.flt := rfl
@[simp] theorem pushRec_bimg (k fl : Nat) (st : Stamp) (b : List Byte) : (s.pushRec k fl st b).bimg = s.bimg := rfl
@[simp] theorem pushRec_seq (k fl : Nat) (st : Stamp) (b : List Byte) : (s.pushRec k fl st b).seq = s.seq := rfl
@[simp] theorem pushRec_nrg (k fl : Nat) (st : Stamp) (b : List Byte) : (s.pushRec k fl st b).nrg = s.nrg := rfl
@[simp] theorem pushRec_links (k fl : Nat) (st : Stamp) (b : List Byte) : (s.pushRec k fl st b).links = s.links := rfl
@[simp] theorem pushRec_stake (k fl : Nat) (st : Stamp) (b : List Byte) : (s.pushRec k fl st b).stake = s.stake := rfl
@[simp] theorem pushRec_vault (k fl : Nat) (st : Stamp) (b : List Byte) : (s.pushRec k fl st b).vault = s.vault := rfl
@[simp] theorem pushRec_stage (k fl : Nat) (st : Stamp) (b : List Byte) : (s.pushRec k fl st b).stage = s.stage := rfl
@[simp] theorem pushRec_save (k fl : Nat) (st : Stamp) (b : List Byte) : (s.pushRec k fl st b).save = s.save := rfl
@[simp] theorem pushRec_ret (k fl : Nat) (st : Stamp) (b : List Byte) : (s.pushRec k fl st b).ret = s.ret := rfl
@[simp] theorem pushRec_fab (k fl : Nat) (st : Stamp) (b : List Byte) : (s.pushRec k fl st b).fab = s.fab := rfl
@[simp] theorem pushRec_pair (k fl : Nat) (st : Stamp) (b : List Byte) : (s.pushRec k fl st b).pair = s.pair := rfl
@[simp] theorem pushRec_pending (k fl : Nat) (st : Stamp) (b : List Byte) : (s.pushRec k fl st b).pending = s.pending := rfl

@[simp] theorem mdTop_top (f : Top → Top) : (s.mdTop f).top = f s.top := rfl
@[simp] theorem mdPins_pins (f : Pins → Pins) : (s.mdPins f).pins = f s.pins := rfl
@[simp] theorem mdAon_aon (f : Aon → Aon) : (s.mdAon f).aon = f s.aon := rfl
@[simp] theorem mdFab_fab (f : Fab → Fab) : (s.mdFab f).fab = f s.fab := rfl
@[simp] theorem mdFlt_flt (f : Flt → Flt) : (s.mdFlt f).flt = f s.flt := rfl
@[simp] theorem mdBimg_bimg (f : Bimg → Bimg) : (s.mdBimg f).bimg = f s.bimg := rfl
@[simp] theorem mdCmd_cmd (f : LongCmd → LongCmd) : (s.mdCmd f).cmd = f s.cmd := rfl
@[simp] theorem mdVault_vault (f : Vault → Vault) : (s.mdVault f).vault = f s.vault := rfl
@[simp] theorem mdPair_pair (f : Pair → Pair) : (s.mdPair f).pair = f s.pair := rfl
@[simp] theorem mdSave_save (f : Save → Save) : (s.mdSave f).save = f s.save := rfl
@[simp] theorem mdLk_links (p : Nat) (f : Link → Link) : (s.mdLk p f).links = md s.links p f := rfl
@[simp] theorem mdSlot_slots (n : Nat) (f : Slot → Slot) : (s.mdSlot n f).seq.slots = md s.seq.slots n f := rfl
@[simp] theorem mdRt_ports (p : Nat) (f : RetP → RetP) : (s.mdRt p f).ret.ports = md s.ret.ports p f := rfl
@[simp] theorem mdSv_ports (p : Nat) (f : SvPort → SvPort) : (s.mdSv p f).save.ports = md s.save.ports p f := rfl
@[simp] theorem mdPp_ports (p : Nat) (f : StgP → StgP) : (s.mdPp p f).stage.ports = md s.stage.ports p f := rfl
@[simp] theorem mdStkQ_q (p : Nat) (f : StkQ → StkQ) : (s.mdStkQ p f).stake.q = md s.stake.q p f := rfl
@[simp] theorem mdStk_ports (p : Nat) (f : StkP → StkP) : (s.mdStk p f).stake.v.ports = md s.stake.v.ports p f := rfl
@[simp] theorem mdSled_sleds (x : Nat) (f : Sled → Sled) : (s.mdSled x f).vault.sleds = md s.vault.sleds x f := rfl
@[simp] theorem mdRing_rings (r : Nat) (f : Ring → Ring) : (s.mdRing r f).vault.rings = md s.vault.rings r f := rfl
@[simp] theorem mdStr_strs (k : Nat) (f : Str → Str) : (s.mdStr k f).aon.strs = md s.aon.strs k f := rfl
@[simp] theorem mdStrC_c (k : Nat) (f : StrC → StrC) : (s.mdStrC k f).nrg.c = md s.nrg.c k f := rfl
@[simp] theorem mdFport_ports (i : Nat) (f : FabPort → FabPort) : (s.mdFport i f).fab.ports = md s.fab.ports i f := rfl
@[simp] theorem setEvt_evt (b j : Nat) : (s.setEvt b j).evt = md s.evt b (fun w => w ||| BitVec.ofNat 32 (2 ^ j)) := rfl
@[simp] theorem rpData_data (w : Word) : (s.rpData w).rp.data = w := rfl
@[simp] theorem rpData_err (w : Word) : (s.rpData w).rp.err = false := rfl
@[simp] theorem enter_state (n : TopState) : (s.enter n).top.state = n := rfl
@[simp] theorem enter_prev (n : TopState) : (s.enter n).top.prev = s.top.state := rfl

end Sys2Proof.Machine.State
end

