-- ==== Sys2Proof/Laws/Ops.lean ====
section
/-! SUPPORT. What the shared operations do: fault sources going live and ceasing, occurrences counted and posted, event bits, the two
shells of the commands. -/
set_option Elab.async false

namespace Sys2Proof.Machine
namespace State
variable (s : State) (src sub : Nat)

/-- A change of sub-sources moves no pair, so it leaves who is held back. -/
@[simp] theorem mdSubs_heldBack (f : List SubSrc → List SubSrc) (a b : Nat) : (s.mdSubs src sub f).heldBack a b = s.heldBack a b := by
  unfold mdSubs heldBack pairHeld
  dsimp only
  split <;> rfl

/-- The list a condition belongs to, after a change of the one (src, sub) belongs to. -/
theorem mdSubs_subsOf (f : List SubSrc → List SubSrc) (a b : Nat) :
    (s.mdSubs src sub f).subsOf a b = if s.heldBack a b = s.heldBack src sub then f (s.subsOf a b) else s.subsOf a b := by
  simp only [subsOf, mdSubs_heldBack]
  cases h : s.heldBack a b <;> cases k : s.heldBack src sub <;> simp [mdSubs, k]

/-- A raised sub-source is live. -/
@[simp] theorem raise_live (till : Option Nat) : (s.raise src sub till).subLive src sub = true := by
  by_cases h : s.subLive src sub = true
  · simp only [raise, h, if_true]
    unfold subLive at h ⊢
    rw [mdSubs_subsOf, if_pos rfl]
    simp only [List.any_eq_true, List.mem_map] at h ⊢
    obtain ⟨x, hx, e⟩ := h
    exact ⟨{ x with till := till }, ⟨x, hx, by simp [e]⟩, e⟩
  · simp only [raise, h, if_false, Bool.false_eq_true]
    unfold subLive
    rw [mdSubs_subsOf, if_pos rfl]
    simp

/-- A sub-source that ceases is not live. -/
@[simp] theorem unraise_live : (s.unraise src sub).subLive src sub = false := by
  simp only [unraise, subLive, mdSubs_subsOf, if_true, List.any_filter, List.any_eq_false]
  intro x _
  grind

/-- A sub-source that follows a condition is live exactly while it holds. -/
@[simp] theorem follow_live (c : Bool) : (s.follow src sub c).subLive src sub = c := by
  cases c <;> simp [follow]
  split <;> simp_all

@[simp] theorem raiseTurn_live : (s.raiseTurn src sub).subLive src sub = true := by simp [raiseTurn]

/-- Other sub-sources stay as they are. -/
theorem raise_other (till : Option Nat) {a b : Nat} (h : ¬(a = src ∧ b = sub)) : (s.raise src sub till).subLive a b = s.subLive a b := by
  have k : ¬(src = a ∧ sub = b) := fun e => h ⟨e.1.symm, e.2.symm⟩
  by_cases e : s.subLive src sub = true
  · simp only [raise, e, if_true]
    unfold subLive
    rw [mdSubs_subsOf]
    split
    · simp only [List.any_map]
      congr 1
      funext x
      simp only [Function.comp]
      split <;> rfl
    · rfl
  · simp only [raise, e, if_false, Bool.false_eq_true]
    unfold subLive
    rw [mdSubs_subsOf]
    split
    · simp [k]
    · rfl

theorem unraise_other {a b : Nat} (h : ¬(a = src ∧ b = sub)) : (s.unraise src sub).subLive a b = s.subLive a b := by
  simp only [unraise, subLive, mdSubs_subsOf]
  split
  · simp only [List.any_filter]
    congr 1
    funext x
    by_cases e : x.src = a ∧ x.sub = b
    · have : ¬(x.src = src ∧ x.sub = sub) := fun e' => h ⟨e.1.symm.trans e'.1, e.2.symm.trans e'.2⟩
      simp [e.1, e.2]; simp [e.1, e.2] at this; grind
    · grind
  · rfl

theorem follow_other (c : Bool) {a b : Nat} (h : ¬(a = src ∧ b = sub)) : (s.follow src sub c).subLive a b = s.subLive a b := by
  unfold follow
  split
  · split
    · rfl
    · exact raise_other s src sub _ h
  · exact unraise_other s src sub h

/-- A set event bit reads 1. -/
@[simp] theorem setEvt_evtBit (b bit : Nat) (hb : b < 13) (hi : bit < 32) : (s.setEvt b bit).evtBit b bit = true := by
  simp only [setEvt, evtBit]
  rw [rd_md _ _ _ _ hb]
  rw [if_pos rfl, BitVec.getLsbD_or, BitVec.getLsbD_ofNat, Nat.testBit_two_pow_self]
  simp [hi]

/-- Setting a bit clears none. -/
theorem setEvt_evtBit_mono (b bit c k : Nat) (hb : b < 13) (h : s.evtBit c k = true) : (s.setEvt b bit).evtBit c k = true := by
  unfold evtBit at *
  simp only [setEvt]
  rw [rd_md _ _ _ _ hb]
  split <;> simp_all

/-- The event queue never holds more than 256 occurrences. -/
theorem post_evq (o : Occ) (h : s.ledg.evq.length ≤ 256) : (s.post o).ledg.evq.length ≤ 256 := by
  unfold post
  split
  · simp [setEvt]; omega
  · exact h

/-! ### Fields that a shared operation leaves alone -/

@[simp] theorem raise_clk (till : Option Nat) : (s.raise src sub till).clk = s.clk :=
  (agree_raise (μ := 8192) rfl _ _ _ _ (Agree.refl _ s)).clk rfl
@[simp] theorem raise_pins (till : Option Nat) : (s.raise src sub till).pins = s.pins :=
  (agree_raise (μ := 8192) rfl _ _ _ _ (Agree.refl _ s)).pins rfl
@[simp] theorem raise_aon (till : Option Nat) : (s.raise src sub till).aon = s.aon :=
  (agree_raise (μ := 8192) rfl _ _ _ _ (Agree.refl _ s)).aon rfl
@[simp] theorem raise_nor (till : Option Nat) : (s.raise src sub till).nor = s.nor :=
  (agree_raise (μ := 8192) rfl _ _ _ _ (Agree.refl _ s)).nor rfl
@[simp] theorem raise_fuseCnt (till : Option Nat) : (s.raise src sub till).fuseCnt = s.fuseCnt :=
  (agree_raise (μ := 8192) rfl _ _ _ _ (Agree.refl _ s)).fuseCnt rfl
@[simp] theorem raise_keyBanks (till : Option Nat) : (s.raise src sub till).keyBanks = s.keyBanks :=
  (agree_raise (μ := 8192) rfl _ _ _ _ (Agree.refl _ s)).keyBanks rfl
@[simp] theorem raise_epochRan (till : Option Nat) : (s.raise src sub till).epochRan = s.epochRan :=
  (agree_raise (μ := 8192) rfl _ _ _ _ (Agree.refl _ s)).epochRan rfl
@[simp] theorem raise_top (till : Option Nat) : (s.raise src sub till).top = s.top :=
  (agree_raise (μ := 8192) rfl _ _ _ _ (Agree.refl _ s)).top rfl
@[simp] theorem raise_evt (till : Option Nat) : (s.raise src sub till).evt = s.evt :=
  (agree_raise (μ := 8192) rfl _ _ _ _ (Agree.refl _ s)).evt rfl
@[simp] theorem raise_ctrl (till : Option Nat) : (s.raise src sub till).ctrl = s.ctrl :=
  (agree_raise (μ := 8192) rfl _ _ _ _ (Agree.refl _ s)).ctrl rfl
@[simp] theorem raise_busyIrq (till : Option Nat) : (s.raise src sub till).busyIrq = s.busyIrq :=
  (agree_raise (μ := 8192) rfl _ _ _ _ (Agree.refl _ s)).busyIrq rfl
@[simp] theorem raise_cmd (till : Option Nat) : (s.raise src sub till).cmd = s.cmd :=
  (agree_raise (μ := 8192) rfl _ _ _ _ (Agree.refl _ s)).cmd rfl
@[simp] theorem raise_rp (till : Option Nat) : (s.raise src sub till).rp = s.rp :=
  (agree_raise (μ := 8192) rfl _ _ _ _ (Agree.refl _ s)).rp rfl
@[simp] theorem raise_ledg (till : Option Nat) : (s.raise src sub till).ledg = s.ledg :=
  (agree_raise (μ := 8192) rfl _ _ _ _ (Agree.refl _ s)).ledg rfl
@[simp] theorem raise_bimg (till : Option Nat) : (s.raise src sub till).bimg = s.bimg :=
  (agree_raise (μ := 8192) rfl _ _ _ _ (Agree.refl _ s)).bimg rfl
@[simp] theorem raise_seq (till : Option Nat) : (s.raise src sub till).seq = s.seq :=
  (agree_raise (μ := 8192) rfl _ _ _ _ (Agree.refl _ s)).seq rfl
@[simp] theorem raise_nrg (till : Option Nat) : (s.raise src sub till).nrg = s.nrg :=
  (agree_raise (μ := 8192) rfl _ _ _ _ (Agree.refl _ s)).nrg rfl
@[simp] theorem raise_links (till : Option Nat) : (s.raise src sub till).links = s.links :=
  (agree_raise (μ := 8192) rfl _ _ _ _ (Agree.refl _ s)).links rfl
@[simp] theorem raise_stake (till : Option Nat) : (s.raise src sub till).stake = s.stake :=
  (agree_raise (μ := 8192) rfl _ _ _ _ (Agree.refl _ s)).stake rfl
@[simp] theorem raise_vault (till : Option Nat) : (s.raise src sub till).vault = s.vault :=
  (agree_raise (μ := 8192) rfl _ _ _ _ (Agree.refl _ s)).vault rfl
@[simp] theorem raise_stage (till : Option Nat) : (s.raise src sub till).stage = s.stage :=
  (agree_raise (μ := 8192) rfl _ _ _ _ (Agree.refl _ s)).stage rfl
@[simp] theorem raise_save (till : Option Nat) : (s.raise src sub till).save = s.save :=
  (agree_raise (μ := 8192) rfl _ _ _ _ (Agree.refl _ s)).save rfl
@[simp] theorem raise_ret (till : Option Nat) : (s.raise src sub till).ret = s.ret :=
  (agree_raise (μ := 8192) rfl _ _ _ _ (Agree.refl _ s)).ret rfl
@[simp] theorem raise_fab (till : Option Nat) : (s.raise src sub till).fab = s.fab :=
  (agree_raise (μ := 8192) rfl _ _ _ _ (Agree.refl _ s)).fab rfl
@[simp] theorem raise_pair (till : Option Nat) : (s.raise src sub till).pair = s.pair :=
  (agree_raise (μ := 8192) rfl _ _ _ _ (Agree.refl _ s)).pair rfl
@[simp] theorem raise_pending (till : Option Nat) : (s.raise src sub till).pending = s.pending :=
  (agree_raise (μ := 8192) rfl _ _ _ _ (Agree.refl _ s)).pending rfl
@[simp] theorem follow_clk (c : Bool) : (s.follow src sub c).clk = s.clk :=
  (agree_follow (μ := 8192) rfl _ _ _ _ (Agree.refl _ s)).clk rfl
@[simp] theorem follow_pins (c : Bool) : (s.follow src sub c).pins = s.pins :=
  (agree_follow (μ := 8192) rfl _ _ _ _ (Agree.refl _ s)).pins rfl
@[simp] theorem follow_aon (c : Bool) : (s.follow src sub c).aon = s.aon :=
  (agree_follow (μ := 8192) rfl _ _ _ _ (Agree.refl _ s)).aon rfl
@[simp] theorem follow_nor (c : Bool) : (s.follow src sub c).nor = s.nor :=
  (agree_follow (μ := 8192) rfl _ _ _ _ (Agree.refl _ s)).nor rfl
@[simp] theorem follow_fuseCnt (c : Bool) : (s.follow src sub c).fuseCnt = s.fuseCnt :=
  (agree_follow (μ := 8192) rfl _ _ _ _ (Agree.refl _ s)).fuseCnt rfl
@[simp] theorem follow_keyBanks (c : Bool) : (s.follow src sub c).keyBanks = s.keyBanks :=
  (agree_follow (μ := 8192) rfl _ _ _ _ (Agree.refl _ s)).keyBanks rfl
@[simp] theorem follow_epochRan (c : Bool) : (s.follow src sub c).epochRan = s.epochRan :=
  (agree_follow (μ := 8192) rfl _ _ _ _ (Agree.refl _ s)).epochRan rfl
@[simp] theorem follow_top (c : Bool) : (s.follow src sub c).top = s.top :=
  (agree_follow (μ := 8192) rfl _ _ _ _ (Agree.refl _ s)).top rfl
@[simp] theorem follow_evt (c : Bool) : (s.follow src sub c).evt = s.evt :=
  (agree_follow (μ := 8192) rfl _ _ _ _ (Agree.refl _ s)).evt rfl
@[simp] theorem follow_ctrl (c : Bool) : (s.follow src sub c).ctrl = s.ctrl :=
  (agree_follow (μ := 8192) rfl _ _ _ _ (Agree.refl _ s)).ctrl rfl
@[simp] theorem follow_busyIrq (c : Bool) : (s.follow src sub c).busyIrq = s.busyIrq :=
  (agree_follow (μ := 8192) rfl _ _ _ _ (Agree.refl _ s)).busyIrq rfl
@[simp] theorem follow_cmd (c : Bool) : (s.follow src sub c).cmd = s.cmd :=
  (agree_follow (μ := 8192) rfl _ _ _ _ (Agree.refl _ s)).cmd rfl
@[simp] theorem follow_rp (c : Bool) : (s.follow src sub c).rp = s.rp :=
  (agree_follow (μ := 8192) rfl _ _ _ _ (Agree.refl _ s)).rp rfl
@[simp] theorem follow_ledg (c : Bool) : (s.follow src sub c).ledg = s.ledg :=
  (agree_follow (μ := 8192) rfl _ _ _ _ (Agree.refl _ s)).ledg rfl
@[simp] theorem follow_bimg (c : Bool) : (s.follow src sub c).bimg = s.bimg :=
  (agree_follow (μ := 8192) rfl _ _ _ _ (Agree.refl _ s)).bimg rfl
@[simp] theorem follow_seq (c : Bool) : (s.follow src sub c).seq = s.seq :=
  (agree_follow (μ := 8192) rfl _ _ _ _ (Agree.refl _ s)).seq rfl
@[simp] theorem follow_nrg (c : Bool) : (s.follow src sub c).nrg = s.nrg :=
  (agree_follow (μ := 8192) rfl _ _ _ _ (Agree.refl _ s)).nrg rfl
@[simp] theorem follow_links (c : Bool) : (s.follow src sub c).links = s.links :=
  (agree_follow (μ := 8192) rfl _ _ _ _ (Agree.refl _ s)).links rfl
@[simp] theorem follow_stake (c : Bool) : (s.follow src sub c).stake = s.stake :=
  (agree_follow (μ := 8192) rfl _ _ _ _ (Agree.refl _ s)).stake rfl
@[simp] theorem follow_vault (c : Bool) : (s.follow src sub c).vault = s.vault :=
  (agree_follow (μ := 8192) rfl _ _ _ _ (Agree.refl _ s)).vault rfl
@[simp] theorem follow_stage (c : Bool) : (s.follow src sub c).stage = s.stage :=
  (agree_follow (μ := 8192) rfl _ _ _ _ (Agree.refl _ s)).stage rfl
@[simp] theorem follow_save (c : Bool) : (s.follow src sub c).save = s.save :=
  (agree_follow (μ := 8192) rfl _ _ _ _ (Agree.refl _ s)).save rfl
@[simp] theorem follow_ret (c : Bool) : (s.follow src sub c).ret = s.ret :=
  (agree_follow (μ := 8192) rfl _ _ _ _ (Agree.refl _ s)).ret rfl
@[simp] theorem follow_fab (c : Bool) : (s.follow src sub c).fab = s.fab :=
  (agree_follow (μ := 8192) rfl _ _ _ _ (Agree.refl _ s)).fab rfl
@[simp] theorem follow_pair (c : Bool) : (s.follow src sub c).pair = s.pair :=
  (agree_follow (μ := 8192) rfl _ _ _ _ (Agree.refl _ s)).pair rfl
@[simp] theorem follow_pending (c : Bool) : (s.follow src sub c).pending = s.pending :=
  (agree_follow (μ := 8192) rfl _ _ _ _ (Agree.refl _ s)).pending rfl
@[simp] theorem raiseTurn_clk  : (s.raiseTurn src sub).clk = s.clk :=
  (agree_raiseTurn (μ := 8192) rfl _ _ _ (Agree.refl _ s)).clk rfl
@[simp] theorem raiseTurn_pins  : (s.raiseTurn src sub).pins = s.pins :=
  (agree_raiseTurn (μ := 8192) rfl _ _ _ (Agree.refl _ s)).pins rfl
@[simp] theorem raiseTurn_aon  : (s.raiseTurn src sub).aon = s.aon :=
  (agree_raiseTurn (μ := 8192) rfl _ _ _ (Agree.refl _ s)).aon rfl
@[simp] theorem raiseTurn_nor  : (s.raiseTurn src sub).nor = s.nor :=
  (agree_raiseTurn (μ := 8192) rfl _ _ _ (Agree.refl _ s)).nor rfl
@[simp] theorem raiseTurn_fuseCnt  : (s.raiseTurn src sub).fuseCnt = s.fuseCnt :=
  (agree_raiseTurn (μ := 8192) rfl _ _ _ (Agree.refl _ s)).fuseCnt rfl
@[simp] theorem raiseTurn_keyBanks  : (s.raiseTurn src sub).keyBanks = s.keyBanks :=
  (agree_raiseTurn (μ := 8192) rfl _ _ _ (Agree.refl _ s)).keyBanks rfl
@[simp] theorem raiseTurn_epochRan  : (s.raiseTurn src sub).epochRan = s.epochRan :=
  (agree_raiseTurn (μ := 8192) rfl _ _ _ (Agree.refl _ s)).epochRan rfl
@[simp] theorem raiseTurn_top  : (s.raiseTurn src sub).top = s.top :=
  (agree_raiseTurn (μ := 8192) rfl _ _ _ (Agree.refl _ s)).top rfl
@[simp] theorem raiseTurn_evt  : (s.raiseTurn src sub).evt = s.evt :=
  (agree_raiseTurn (μ := 8192) rfl _ _ _ (Agree.refl _ s)).evt rfl
@[simp] theorem raiseTurn_ctrl  : (s.raiseTurn src sub).ctrl = s.ctrl :=
  (agree_raiseTurn (μ := 8192) rfl _ _ _ (Agree.refl _ s)).ctrl rfl
@[simp] theorem raiseTurn_busyIrq  : (s.raiseTurn src sub).busyIrq = s.busyIrq :=
  (agree_raiseTurn (μ := 8192) rfl _ _ _ (Agree.refl _ s)).busyIrq rfl
@[simp] theorem raiseTurn_cmd  : (s.raiseTurn src sub).cmd = s.cmd :=
  (agree_raiseTurn (μ := 8192) rfl _ _ _ (Agree.refl _ s)).cmd rfl
@[simp] theorem raiseTurn_rp  : (s.raiseTurn src sub).rp = s.rp :=
  (agree_raiseTurn (μ := 8192) rfl _ _ _ (Agree.refl _ s)).rp rfl
@[simp] theorem raiseTurn_ledg  : (s.raiseTurn src sub).ledg = s.ledg :=
  (agree_raiseTurn (μ := 8192) rfl _ _ _ (Agree.refl _ s)).ledg rfl
@[simp] theorem raiseTurn_bimg  : (s.raiseTurn src sub).bimg = s.bimg :=
  (agree_raiseTurn (μ := 8192) rfl _ _ _ (Agree.refl _ s)).bimg rfl
@[simp] theorem raiseTurn_seq  : (s.raiseTurn src sub).seq = s.seq :=
  (agree_raiseTurn (μ := 8192) rfl _ _ _ (Agree.refl _ s)).seq rfl
@[simp] theorem raiseTurn_nrg  : (s.raiseTurn src sub).nrg = s.nrg :=
  (agree_raiseTurn (μ := 8192) rfl _ _ _ (Agree.refl _ s)).nrg rfl
@[simp] theorem raiseTurn_links  : (s.raiseTurn src sub).links = s.links :=
  (agree_raiseTurn (μ := 8192) rfl _ _ _ (Agree.refl _ s)).links rfl
@[simp] theorem raiseTurn_stake  : (s.raiseTurn src sub).stake = s.stake :=
  (agree_raiseTurn (μ := 8192) rfl _ _ _ (Agree.refl _ s)).stake rfl
@[simp] theorem raiseTurn_vault  : (s.raiseTurn src sub).vault = s.vault :=
  (agree_raiseTurn (μ := 8192) rfl _ _ _ (Agree.refl _ s)).vault rfl
@[simp] theorem raiseTurn_stage  : (s.raiseTurn src sub).stage = s.stage :=
  (agree_raiseTurn (μ := 8192) rfl _ _ _ (Agree.refl _ s)).stage rfl
@[simp] theorem raiseTurn_save  : (s.raiseTurn src sub).save = s.save :=
  (agree_raiseTurn (μ := 8192) rfl _ _ _ (Agree.refl _ s)).save rfl
@[simp] theorem raiseTurn_ret  : (s.raiseTurn src sub).ret = s.ret :=
  (agree_raiseTurn (μ := 8192) rfl _ _ _ (Agree.refl _ s)).ret rfl
@[simp] theorem raiseTurn_fab  : (s.raiseTurn src sub).fab = s.fab :=
  (agree_raiseTurn (μ := 8192) rfl _ _ _ (Agree.refl _ s)).fab rfl
@[simp] theorem raiseTurn_pair  : (s.raiseTurn src sub).pair = s.pair :=
  (agree_raiseTurn (μ := 8192) rfl _ _ _ (Agree.refl _ s)).pair rfl
@[simp] theorem raiseTurn_pending  : (s.raiseTurn src sub).pending = s.pending :=
  (agree_raiseTurn (μ := 8192) rfl _ _ _ (Agree.refl _ s)).pending rfl
@[simp] theorem post_clk (o : Occ) : (s.post o).clk = s.clk :=
  (agree_post (μ := 16640) rfl _ _ (Agree.refl _ s)).clk rfl
@[simp] theorem post_pins (o : Occ) : (s.post o).pins = s.pins :=
  (agree_post (μ := 16640) rfl _ _ (Agree.refl _ s)).pins rfl
@[simp] theorem post_aon (o : Occ) : (s.post o).aon = s.aon :=
  (agree_post (μ := 16640) rfl _ _ (Agree.refl _ s)).aon rfl
@[simp] theorem post_nor (o : Occ) : (s.post o).nor = s.nor :=
  (agree_post (μ := 16640) rfl _ _ (Agree.refl _ s)).nor rfl
@[simp] theorem post_fuseCnt (o : Occ) : (s.post o).fuseCnt = s.fuseCnt :=
  (agree_post (μ := 16640) rfl _ _ (Agree.refl _ s)).fuseCnt rfl
@[simp] theorem post_keyBanks (o : Occ) : (s.post o).keyBanks = s.keyBanks :=
  (agree_post (μ := 16640) rfl _ _ (Agree.refl _ s)).keyBanks rfl
@[simp] theorem post_epochRan (o : Occ) : (s.post o).epochRan = s.epochRan :=
  (agree_post (μ := 16640) rfl _ _ (Agree.refl _ s)).epochRan rfl
@[simp] theorem post_top (o : Occ) : (s.post o).top = s.top :=
  (agree_post (μ := 16640) rfl _ _ (Agree.refl _ s)).top rfl
@[simp] theorem post_ctrl (o : Occ) : (s.post o).ctrl = s.ctrl :=
  (agree_post (μ := 16640) rfl _ _ (Agree.refl _ s)).ctrl rfl
@[simp] theorem post_busyIrq (o : Occ) : (s.post o).busyIrq = s.busyIrq :=
  (agree_post (μ := 16640) rfl _ _ (Agree.refl _ s)).busyIrq rfl
@[simp] theorem post_cmd (o : Occ) : (s.post o).cmd = s.cmd :=
  (agree_post (μ := 16640) rfl _ _ (Agree.refl _ s)).cmd rfl
@[simp] theorem post_rp (o : Occ) : (s.post o).rp = s.rp :=
  (agree_post (μ := 16640) rfl _ _ (Agree.refl _ s)).rp rfl
@[simp] theorem post_flt (o : Occ) : (s.post o).flt = s.flt :=
  (agree_post (μ := 16640) rfl _ _ (Agree.refl _ s)).flt rfl
@[simp] theorem post_bimg (o : Occ) : (s.post o).bimg = s.bimg :=
  (agree_post (μ := 16640) rfl _ _ (Agree.refl _ s)).bimg rfl
@[simp] theorem post_seq (o : Occ) : (s.post o).seq = s.seq :=
  (agree_post (μ := 16640) rfl _ _ (Agree.refl _ s)).seq rfl
@[simp] theorem post_nrg (o : Occ) : (s.post o).nrg = s.nrg :=
  (agree_post (μ := 16640) rfl _ _ (Agree.refl _ s)).nrg rfl
@[simp] theorem post_links (o : Occ) : (s.post o).links = s.links :=
  (agree_post (μ := 16640) rfl _ _ (Agree.refl _ s)).links rfl
@[simp] theorem post_stake (o : Occ) : (s.post o).stake = s.stake :=
  (agree_post (μ := 16640) rfl _ _ (Agree.refl _ s)).stake rfl
@[simp] theorem post_vault (o : Occ) : (s.post o).vault = s.vault :=
  (agree_post (μ := 16640) rfl _ _ (Agree.refl _ s)).vault rfl
@[simp] theorem post_stage (o : Occ) : (s.post o).stage = s.stage :=
  (agree_post (μ := 16640) rfl _ _ (Agree.refl _ s)).stage rfl
@[simp] theorem post_save (o : Occ) : (s.post o).save = s.save :=
  (agree_post (μ := 16640) rfl _ _ (Agree.refl _ s)).save rfl
@[simp] theorem post_ret (o : Occ) : (s.post o).ret = s.ret :=
  (agree_post (μ := 16640) rfl _ _ (Agree.refl _ s)).ret rfl
@[simp] theorem post_fab (o : Occ) : (s.post o).fab = s.fab :=
  (agree_post (μ := 16640) rfl _ _ (Agree.refl _ s)).fab rfl
@[simp] theorem post_pair (o : Occ) : (s.post o).pair = s.pair :=
  (agree_post (μ := 16640) rfl _ _ (Agree.refl _ s)).pair rfl
@[simp] theorem post_pending (o : Occ) : (s.post o).pending = s.pending :=
  (agree_post (μ := 16640) rfl _ _ (Agree.refl _ s)).pending rfl
@[simp] theorem count_clk (k u d : Nat) : (s.count k u d).clk = s.clk :=
  (agree_count (μ := 16640) rfl _ _ _ _ (Agree.refl _ s)).clk rfl
@[simp] theorem count_pins (k u d : Nat) : (s.count k u d).pins = s.pins :=
  (agree_count (μ := 16640) rfl _ _ _ _ (Agree.refl _ s)).pins rfl
@[simp] theorem count_aon (k u d : Nat) : (s.count k u d).aon = s.aon :=
  (agree_count (μ := 16640) rfl _ _ _ _ (Agree.refl _ s)).aon rfl
@[simp] theorem count_nor (k u d : Nat) : (s.count k u d).nor = s.nor :=
  (agree_count (μ := 16640) rfl _ _ _ _ (Agree.refl _ s)).nor rfl
@[simp] theorem count_fuseCnt (k u d : Nat) : (s.count k u d).fuseCnt = s.fuseCnt :=
  (agree_count (μ := 16640) rfl _ _ _ _ (Agree.refl _ s)).fuseCnt rfl
@[simp] theorem count_keyBanks (k u d : Nat) : (s.count k u d).keyBanks = s.keyBanks :=
  (agree_count (μ := 16640) rfl _ _ _ _ (Agree.refl _ s)).keyBanks rfl
@[simp] theorem count_epochRan (k u d : Nat) : (s.count k u d).epochRan = s.epochRan :=
  (agree_count (μ := 16640) rfl _ _ _ _ (Agree.refl _ s)).epochRan rfl
@[simp] theorem count_top (k u d : Nat) : (s.count k u d).top = s.top :=
  (agree_count (μ := 16640) rfl _ _ _ _ (Agree.refl _ s)).top rfl
@[simp] theorem count_ctrl (k u d : Nat) : (s.count k u d).ctrl = s.ctrl :=
  (agree_count (μ := 16640) rfl _ _ _ _ (Agree.refl _ s)).ctrl rfl
@[simp] theorem count_busyIrq (k u d : Nat) : (s.count k u d).busyIrq = s.busyIrq :=
  (agree_count (μ := 16640) rfl _ _ _ _ (Agree.refl _ s)).busyIrq rfl
@[simp] theorem count_cmd (k u d : Nat) : (s.count k u d).cmd = s.cmd :=
  (agree_count (μ := 16640) rfl _ _ _ _ (Agree.refl _ s)).cmd rfl
@[simp] theorem count_rp (k u d : Nat) : (s.count k u d).rp = s.rp :=
  (agree_count (μ := 16640) rfl _ _ _ _ (Agree.refl _ s)).rp rfl
@[simp] theorem count_flt (k u d : Nat) : (s.count k u d).flt = s.flt :=
  (agree_count (μ := 16640) rfl _ _ _ _ (Agree.refl _ s)).flt rfl
@[simp] theorem count_bimg (k u d : Nat) : (s.count k u d).bimg = s.bimg :=
  (agree_count (μ := 16640) rfl _ _ _ _ (Agree.refl _ s)).bimg rfl
@[simp] theorem count_seq (k u d : Nat) : (s.count k u d).seq = s.seq :=
  (agree_count (μ := 16640) rfl _ _ _ _ (Agree.refl _ s)).seq rfl
@[simp] theorem count_nrg (k u d : Nat) : (s.count k u d).nrg = s.nrg :=
  (agree_count (μ := 16640) rfl _ _ _ _ (Agree.refl _ s)).nrg rfl
@[simp] theorem count_links (k u d : Nat) : (s.count k u d).links = s.links :=
  (agree_count (μ := 16640) rfl _ _ _ _ (Agree.refl _ s)).links rfl
@[simp] theorem count_stake (k u d : Nat) : (s.count k u d).stake = s.stake :=
  (agree_count (μ := 16640) rfl _ _ _ _ (Agree.refl _ s)).stake rfl
@[simp] theorem count_vault (k u d : Nat) : (s.count k u d).vault = s.vault :=
  (agree_count (μ := 16640) rfl _ _ _ _ (Agree.refl _ s)).vault rfl
@[simp] theorem count_stage (k u d : Nat) : (s.count k u d).stage = s.stage :=
  (agree_count (μ := 16640) rfl _ _ _ _ (Agree.refl _ s)).stage rfl
@[simp] theorem count_save (k u d : Nat) : (s.count k u d).save = s.save :=
  (agree_count (μ := 16640) rfl _ _ _ _ (Agree.refl _ s)).save rfl
@[simp] theorem count_ret (k u d : Nat) : (s.count k u d).ret = s.ret :=
  (agree_count (μ := 16640) rfl _ _ _ _ (Agree.refl _ s)).ret rfl
@[simp] theorem count_fab (k u d : Nat) : (s.count k u d).fab = s.fab :=
  (agree_count (μ := 16640) rfl _ _ _ _ (Agree.refl _ s)).fab rfl
@[simp] theorem count_pair (k u d : Nat) : (s.count k u d).pair = s.pair :=
  (agree_count (μ := 16640) rfl _ _ _ _ (Agree.refl _ s)).pair rfl
@[simp] theorem count_pending (k u d : Nat) : (s.count k u d).pending = s.pending :=
  (agree_count (μ := 16640) rfl _ _ _ _ (Agree.refl _ s)).pending rfl

/-! ### The shells of the commands -/

theorem onCtl_on {f : State → State} (h : s.ctlOn = true) : s.onCtl f = f s := by simp [onCtl, h]

theorem onCtl_off {f : State → State} (h : s.ctlOn = false) : s.onCtl f = s := by simp [onCtl, h]

end State
end Sys2Proof.Machine
end

