-- ==== Sys2Proof/Tests/Slice0.lean ====
section
/-! SUPPORT. Tests: a smoke test of the well-formedness checks, of the decoder and of the
checksums, and for every statement that has hypotheses a state and operands that meet them. -/
set_option Elab.async false

namespace Sys2Proof.Tests
open Sys2Proof Sys2Proof.Machine Sys2Proof.Machine.State

/-! ### States the tests start from -/

/-- A state with the control island powered, at a controller that holds the token. -/
def S (x : TopState) : State :=
  { State.reset with top := { state := x }, pins := { rails := tall 6 true, vaonA := true, vaonB := true }, pair := { drv := true } }

/-- The same with an image running. -/
def I (x : TopState) (i : BImg) : State := { S x with bimg := { img := i, running := true } }

def R (x : TopState) : State := I x {}

/-- The same with the image of a pair and its partner link trained. -/
def P (x : TopState) : State := { I x { core := { paired := true } } with fab := { pl := { st := 3 } } }

/-- With every sled present. -/
def SP (x : TopState) : State := (S x).mdPins (fun p => { p with sledPrs := tall 4 true })

def SQ (q : StkQ) : State := (S .ready).mdStkQ 63 (fun _ => q)

def sled3 (x : TopState) (d : Sled) (v : Vault) : State := { SP x with vault := { v with sleds := wr v.sleds 3 d } }

def twoSleds : State := { SP .service with vault := { sleds := tall 4 { cls := 6, mapDone := true } } }

/-- With four healthy sleds whose log has been scanned: pre-staging runs. -/
def SD (x : TopState) : State := { SP x with vault := { sleds := tall 4 { cls := 6, mapDone := true, scanDone := true } } }

def fmtS : State := { SP .service with vault := { sleds := tall 4 { cls := 3, up := true } } }

def STR (x : TopState) (s : Str) (c : StrC) (g : StrCfg) : State := ((I x { strs := tall 16 g }).mdStr 15 (fun _ => s)).mdStrC 15 (fun _ => c)

def SLT (x : TopState) (s : Slot) (c : SlotCfg) (q : Seq) : State :=
  ({ I x { slots := wr (tall 64 {}) 63 c } with seq := q }).mdSlot 63 (fun _ => s)

def mgnS : State := I .service { core := { pmbSpeed := 2 }, slots := wr (tall 64 {}) 63 { cls := 1, pmb := 5 } }

def FB (x : TopState) (f : FabPort) (v : Fab) : State :=
  ({ I x { fab := { nodeAddr := 9 } } with fab := { v with cfg := { nodeAddr := 9 } }, ctrl := wr State.reset.ctrl 10 0xF }).mdFport 3 (fun _ => f)

def tableS : State :=
  ({ R .ready with
     fab := { cfg := { nodeAddr := 9 }, tbl := { tableId := 1, m := 2, members := [{ addr := 9 }, { addr := 7 }] }, routes := [(7, 8)], duty := true } }).mdFport 3 (fun _ => { st := 3 })

def FLT (x : TopState) (c : SrcCfg) (f : Flt) : State := { I x { srcs := tall 256 c } with flt := f }

def polS : State := I .ready { pmb := tall 64 { addr := 1 } }

def drillS : State :=
  ({ P .ready with vault := { sleds := tall 4 { cls := 6, dev := { keys := some { sets := [{ id := 1 }] } } } } }).mdPair
    (fun p => { p with peer := true, armed := true, peerId := some 1 })

/-- Units on ring 0 of a member sled. -/
def withUnits (x : TopState) (l : List FUnit) : State :=
  { SP x with vault := { sleds := wr (tall 4 {}) 0 { cls := 6, dev := { cells := wr (tall 8 []) 0 (l.mapIdx (fun i u => (i, some u))) } } } }

/-- A port's manifest, and the state whose vault holds it with its seal. -/
def man : Manifest := { port := 63, serial := 0 }

def imgS (x : TopState) : State :=
  let s := withUnits x [{ tag := {}, body := .one (.manifest man) }, { tag := {}, body := .one (.mark { port := 63, mcrc := crc32c man.bytes }) }]
  { s with vault := { s.vault with jobArg := wr (tall 4 0) 0 63 } }

def staged29 : State :=
  let s := (withUnits .ready [{ tag := { kind := 3, seq := 5 }, body := .one .filler }]).mdPp 63
    (fun _ => { staged := [{ sq := 0, gen := 0, lseq := 5, ring := 0, loc := 0, at_ := 0, turn := 0 }] })
  { s with stage := { s.stage with nextLseq := 5 + 2 ^ 29 } }

/-- CHECK codes of the squares a restore wrote: none. -/
def wroteCodes : List Word := (List.range 64).map (wroteCode [])

theorem wroteCodes_ok : ∀ k < 64, wroteCodes.getD k 0 = wroteCode [] k := by
  intro k hk
  simp [wroteCodes, List.getD_eq_getElem?_getD, hk]

theorem wroteCode_ne : ([wroteCode [] 0 + 1] : List Word).getD 0 0 ≠ wroteCode [] 0 := by
  intro h
  have h2 : wroteCode [] 0 + 1 = wroteCode [] 0 := h
  exact absurd h2 (by simp)

theorem ne_identity : Config.identity + 1 ≠ Config.identity := by
  intro h
  exact absurd h (by simp)

/-- With both NOR devices as at reset and at most 64 fuses blown the invariant holds. -/
theorem onNor_inv (s : State) (h : s.nor = tall 2 {}) (g : s.fuseCnt ≤ 64) : Machine.Inv s := by
  refine ⟨fun d => ?_, g⟩
  rw [h]
  by_cases hd : d < 2
  · rw [rd_tall _ _ hd]; rfl
  · rw [rd_out _ _ (by omega)]; rfl

theorem reset_inv : Machine.Inv State.reset := onNor_inv _ rfl (by decide)

theorem fuses64_inv : Machine.Inv { State.reset with fuseCnt := 64 } := onNor_inv _ rfl (by decide)

theorem imgS_images (x : TopState) : (imgS x).images = [man] := by
  have hm : (imgS x).marks 0 = [{ port := 63, mcrc := crc32c man.bytes }] := rfl
  have hu : (imgS x).unitAt 0 0 = some { tag := {}, body := .one (.manifest man) } := rfl
  simp [images, hm, sealManifest, hu]

theorem imgS_live (x : TopState) : (imgS x).newestLive 63 = some man := by
  have hr : (imgS x).marks 2 = [] := rfl
  simp [newestLive, imgS_images, retired, hr, newestImg, man]

theorem imgS_export (x : TopState) : (imgS x).exportImage.isSome = true := by
  have hp : (imgS x).argPort = 63 := rfl
  have hs : ((imgS x).jobArg 1).toNat = 0 := rfl
  have hj : (imgS x).jobArg 3 = 0 := rfl
  have hg : bitsOf ((imgS x).jobArg 3) 31 16 = 0 := by rw [hj]; decide
  simp [exportImage, imgS_images, hp, hs, hg, man]

/-- A NOR device whose directory is valid. -/
def dirMem : List Host.Cell :=
  let h := leBytes 4 0x4C454447 ++ leBytes 2 1 ++ zeros 54
  Mem.writeN 0xFF [] 0 (h ++ leBytes 4 (crc32c h).toNat)

def dirS : State := { S .ready with nor := tall 2 { mem := dirMem } }

/-- The staged bytes of an energy state image but for its ICRC, and with it (R293). -/
def stg0 : List Host.Cell := Mem.writeN 0 [] 0 (leBytes 4 0x4E524753 ++ leBytes 2 1)

def stgCrc : Word := crc32c ((Mem.readN 0 stg0 0 1088).take 60 ++ (Mem.readN 0 stg0 0 1088).drop 64)

/-- An image with ICRC `c`, SCFG overridden and no string selected. -/
def rstAt (c : Word) : State :=
  { S .ready with nrg := { stg := Mem.writeN 0 stg0 60 (leBytes 4 c.toNat), rstArg := 0x10000, rstCrc := c } }

def rstOk : State := rstAt stgCrc

theorem stg0_wf : Mem.wf 0 stg0 = true := by decide +kernel

theorem read_four (m : List Host.Cell) (hm : Mem.wf 0 m = true) (v x : Nat) : Mem.read 0 (Mem.writeN 0 m 60 (leBytes 4 v)) x
    = if x = 63 then BitVec.ofNat 8 (v / 256 / 256 / 256) else if x = 62 then BitVec.ofNat 8 (v / 256 / 256)
      else if x = 61 then BitVec.ofNat 8 (v / 256) else if x = 60 then BitVec.ofNat 8 v else Mem.read 0 m x := by
  have w1 := Mem.write_wf (a := 60) (b := BitVec.ofNat 8 v) hm
  have w2 := Mem.write_wf (a := 61) (b := BitVec.ofNat 8 (v / 256)) w1
  have w3 := Mem.write_wf (a := 62) (b := BitVec.ofNat 8 (v / 256 / 256)) w2
  simp only [leBytes, Mem.writeN]
  rw [Mem.read_write w3, Mem.read_write w2, Mem.read_write w1, Mem.read_write hm]

theorem rst_read (c : Word) (x : Nat) : Mem.read 0 (rstAt c).nrg.stg x
    = if x = 63 then BitVec.ofNat 8 (c.toNat / 256 / 256 / 256) else if x = 62 then BitVec.ofNat 8 (c.toNat / 256 / 256)
      else if x = 61 then BitVec.ofNat 8 (c.toNat / 256) else if x = 60 then BitVec.ofNat 8 c.toNat else Mem.read 0 stg0 x :=
  read_four stg0 stg0_wf c.toNat x

theorem rst_check (c : Word) (h : crc32c ((Mem.readN 0 stg0 0 1088).take 60 ++ (Mem.readN 0 stg0 0 1088).drop 64) = c) (a : Aon) : ({ rstAt c with aon := a } : State).restoreCheck = 0 := by
  have hb : (rstAt c).stgBytes = (List.range 1088).map (Mem.read 0 (rstAt c).nrg.stg) := by
    simp [stgBytes, Mem.readN]
  have h0 : Mem.readN 0 stg0 0 1088 = (List.range 1088).map (Mem.read 0 stg0) := by simp [Mem.readN]
  have ht : (rstAt c).stgBytes.take 60 = (Mem.readN 0 stg0 0 1088).take 60 := by
    rw [hb, h0, ← List.map_take, ← List.map_take, List.take_range]
    refine List.map_congr_left (fun x hx => ?_)
    have : x < 60 := by simpa using hx
    rw [rst_read]; repeat rw [if_neg (by omega)]
  have hd : (rstAt c).stgBytes.drop 64 = (Mem.readN 0 stg0 0 1088).drop 64 := by
    rw [hb, h0, ← List.map_drop, ← List.map_drop]
    refine List.map_congr_left (fun x hx => ?_)
    have : 64 ≤ x := by
      obtain ⟨k, hk, rfl⟩ := List.mem_iff_getElem.1 hx
      simp
    rw [rst_read]; repeat rw [if_neg (by omega)]
  have hs : ∀ o n : Nat, slice (rstAt c).stgBytes o n = (((List.range 1088).drop o).take n).map (Mem.read 0 (rstAt c).nrg.stg) := by
    intro o n; rw [hb]; simp [slice, List.map_drop, List.map_take]
  have hc : num (rstAt c).stgBytes 60 4 = c.toNat := by
    have e : ((List.range 1088).drop 60).take 4 = [60, 61, 62, 63] := by
      rw [List.range_eq_range', List.drop_range']; rfl
    unfold num
    rw [hs, e]
    simp only [List.map_cons, List.map_nil, rst_read]
    have := c.isLt
    simp [leNat]
    omega
  have hm : num (rstAt c).stgBytes 0 4 = 0x4E524753 := by
    have e : ((List.range 1088).drop 0).take 4 = [0, 1, 2, 3] := by
      rw [List.range_eq_range', List.drop_range']; rfl
    unfold num
    rw [hs, e]
    simp only [List.map_cons, List.map_nil, rst_read, Nat.reduceEqDiff, if_false]
    decide +kernel
  have hv : num (rstAt c).stgBytes 4 2 = 1 := by
    have e : ((List.range 1088).drop 4).take 2 = [4, 5] := by
      rw [List.range_eq_range', List.drop_range']; rfl
    unfold num
    rw [hs, e]
    simp only [List.map_cons, List.map_nil, rst_read, Nat.reduceEqDiff, if_false]
    decide +kernel
  have hk : bitsOf (rstAt c).nrg.rstArg 15 0 = 0 := (by decide +kernel : bitsOf (0x10000 : Word) 15 0 = 0)
  have ha : (rstAt c).nrg.rstArg.getLsbD 16 = true := (by decide +kernel : (0x10000 : Word).getLsbD 16 = true)
  have hst : (rstAt c).inState [.ready, .service, .ret] = true := rfl
  have hcr : (rstAt c).nrg.rstCrc = c := rfl
  have hi : crc32c ((rstAt c).stgBytes.take 60 ++ (rstAt c).stgBytes.drop 64) = c := by rw [ht, hd]; exact h
  unfold restoreCheck
  simp only [show ({ rstAt c with aon := a } : State).stgBytes = (rstAt c).stgBytes from rfl,
    show ({ rstAt c with aon := a } : State).inState [.ready, .service, .ret] = (rstAt c).inState [.ready, .service, .ret] from rfl, hi, hc, hm, hv, hk, ha, hst, hcr]
  simp [idxs]

theorem rstOk_check : rstOk.bankCopy.restoreCheck = 0 := rst_check _ rfl _

/-- An address that latches nothing. -/
theorem latch_zero (s : State) : s.latchAt 0 = s := by simp [State.latchAt]

/-- The first record of a rolling area goes to slot 0. -/
theorem nextSlot_first (s : State) (a n : Nat) (hn : (area a).slots = n + 1) (hr : (area a).rolling = true)
    (hs : (rd s.ledg.heads a).slot = none) : s.nextSlot a = some 0 := by
  simp [State.nextSlot, hn, hr, hs, List.range_succ_eq_map]

/-- An image runs from slot 0 and slot 1 is asked for, with neither NOR device in service: slot 1 is not valid. -/
def invS : State := { S .ready with bimg := { running := true, arg := 1 } }

theorem invS_invalid : ¬SlotValid invS invS.argSlot := by
  have h : ∀ x d, (invS.judgeCopy x d).result = 11 := fun x d => by
    have hd : (rd invS.ledg.dev d).ok = false := by
      by_cases hd : d < 2
      · exact congrArg NorSt.ok (rd_tall (n := 2) ({} : NorSt) d hd)
      · rw [rd_out _ _ (by show 2 ≤ d; omega)]; rfl
    simp [State.judgeCopy, hd]
  simp [SlotValid, h]


/-! ### Ill-formed commands are refused, one term for each check -/

def idm : IdentMsg := { id := 1, squares := 0, bondCap := false, intact := false, srGood := false, cstate := 0, serial := 0 }

theorem test_wf_ident : (Instr.ident 0 { seq := 0 } { idm with squares := 65536 }).wf = true ∧ (Instr.ident 0 { seq := 0 } { idm with squares := 65537 }).wf = false
    ∧ (Instr.ident 0 { seq := 0 } { idm with cstate := 8 }).wf = false ∧ (Instr.ident 0 { seq := 0 } { idm with serial := 2 ^ 32 }).wf = false := by decide

def repm : ReportMsg := { turn := 0, u := 0, wt := false, holding := false, cstate := 0, dirty := 0, staged := 0, opened := 0 }

theorem test_wf_report : (Instr.report 0 { seq := 0 } { repm with u := 4096, dirty := 65536 } false).wf = true
    ∧ (Instr.report 0 { seq := 0 } { repm with turn := 2 ^ 32 } false).wf = false ∧ (Instr.report 0 { seq := 0 } { repm with u := 4097 } false).wf = false
    ∧ (Instr.report 0 { seq := 0 } { repm with cstate := 8 } false).wf = false ∧ (Instr.report 0 { seq := 0 } { repm with dirty := 65537 } false).wf = false
    ∧ (Instr.report 0 { seq := 0 } { repm with staged := 65537 } false).wf = false ∧ (Instr.report 0 { seq := 0 } { repm with opened := 512 } false).wf = false := by decide

theorem test_wf_map : (Instr.map 0 { seq := 0 } 0 0 [List.replicate 32 3]).wf = true ∧ (Instr.map 0 { seq := 0 } 0 0 [List.replicate 31 0]).wf = false
    ∧ (Instr.map 0 { seq := 0 } 0 0 [List.replicate 32 4]).wf = false := by decide

theorem test_wf_data : (Instr.data 0 { seq := 0 } 0 0 0 0 0 [] false).wf = false := by decide

theorem test_wf_check : (Instr.check 0 { seq := 0 } 0 (List.replicate 64 0)).wf = true ∧ (Instr.check 0 { seq := 0 } 0 []).wf = false := by decide

def frm : FrozenMsg := { serial := 0, source := 0, stamp := {}, dirty := 0, staged := 0, region := List.replicate 64 0, map := [3] }

theorem test_wf_frozen : (Instr.frozen 0 { seq := 0 } frm).wf = true ∧ (Instr.frozen 0 { seq := 0 } { frm with serial := 2 ^ 32 }).wf = false
    ∧ (Instr.frozen 0 { seq := 0 } { frm with source := 256 }).wf = false ∧ (Instr.frozen 0 { seq := 0 } { frm with region := [] }).wf = false
    ∧ (Instr.frozen 0 { seq := 0 } { frm with map := [4] }).wf = false := by decide

theorem test_wf_frozen_map (m : List Nat) (h : m.length = 65537) : (Instr.frozen 0 { seq := 0 } { frm with map := m }).wf = false := by
  simp [Instr.wf, h]

theorem test_wf_calSample : (Instr.calSample [some (0, 0), none]).wf = true ∧ (Instr.calSample (List.replicate 17 none)).wf = false
    ∧ (Instr.calSample [some (65536, 0)]).wf = false ∧ (Instr.calSample [some (0, 65536)]).wf = false := by decide

theorem test_wf_sampleStrobe : (Instr.sampleStrobe (List.replicate 16 (600000, -1, 0))).wf = true ∧ (Instr.sampleStrobe []).wf = false := by decide

theorem test_wf_vsScan : (Instr.vsScan (List.replicate 64 0)).wf = true ∧ (Instr.vsScan []).wf = false := by decide

theorem test_wf_frame : (Instr.frame { seq := 0 } true { state := 15 }).wf = true ∧ (Instr.frame { seq := 0 } true { state := 16 }).wf = false
    ∧ (Instr.frame { seq := 0 } true { fseq := 2 ^ 32 }).wf = false ∧ (Instr.frame { seq := 0 } true { epoch := 65536 }).wf = false := by decide

theorem test_wf_kxOffer : (Instr.kxOffer { seq := 0 } [] (List.replicate 96 0) (List.replicate 96 0)).wf = false
    ∧ (Instr.kxOffer { seq := 0 } (List.replicate 96 0) [] (List.replicate 96 0)).wf = false
    ∧ (Instr.kxOffer { seq := 0 } (List.replicate 96 0) (List.replicate 96 0) []).wf = false := by decide

theorem test_wf_kxReply : (Instr.kxReply { seq := 0 } [] (List.replicate 96 0) (List.replicate 96 0)).wf = false
    ∧ (Instr.kxReply { seq := 0 } (List.replicate 96 0) [] (List.replicate 96 0)).wf = false
    ∧ (Instr.kxReply { seq := 0 } (List.replicate 96 0) (List.replicate 96 0) []).wf = false := by decide

def fwd : FMsg := { dst := 0xFFF, src := 0xFFF, ttl := 255, prio := 3, body := .tsyncReq }

theorem test_wf_fabricForward : (Instr.fabricForward 0 { seq := 0 } fwd).wf = true ∧ (Instr.fabricForward 0 { seq := 0 } { fwd with dst := 4096 }).wf = false
    ∧ (Instr.fabricForward 0 { seq := 0 } { fwd with src := 4096 }).wf = false ∧ (Instr.fabricForward 0 { seq := 0 } { fwd with ttl := 256 }).wf = false
    ∧ (Instr.fabricForward 0 { seq := 0 } { fwd with prio := 4 }).wf = false := by decide

def lsm : Lsa := { id := 1, addr := 1, static := false, pps := false, tpri := 0, age := 0, aseq := 0, links := [] }

theorem test_wf_lsa : (Instr.lsa 0 { seq := 0 } lsm).wf = true ∧ (Instr.lsa 0 { seq := 0 } { lsm with addr := 4096 }).wf = false
    ∧ (Instr.lsa 0 { seq := 0 } { lsm with age := 256 }).wf = false ∧ (Instr.lsa 0 { seq := 0 } { lsm with aseq := 2 ^ 32 }).wf = false
    ∧ (Instr.lsa 0 { seq := 0 } { lsm with links := List.replicate 5 (0, 0, false) }).wf = false := by decide

theorem test_wf_tableReport : (Instr.tableReport 0 { seq := 0 } { slot := 15 }).wf = true ∧ (Instr.tableReport 0 { seq := 0 } { src := 4096 }).wf = false
    ∧ (Instr.tableReport 0 { seq := 0 } { tableId := 4096 }).wf = false ∧ (Instr.tableReport 0 { seq := 0 } { slot := 16 }).wf = false
    ∧ (Instr.tableReport 0 { seq := 0 } { state := 16 }).wf = false ∧ (Instr.tableReport 0 { seq := 0 } { round := 2 ^ 32 }).wf = false
    ∧ (Instr.tableReport 0 { seq := 0 } { epoch := 65536 }).wf = false ∧ (Instr.tableReport 0 { seq := 0 } { eSum := 2 ^ 32 }).wf = false := by decide

def grm : TGrant := { shares := List.replicate 16 60000 }

theorem test_wf_grant : (Instr.grant 0 { seq := 0 } grm).wf = true ∧ (Instr.grant 0 { seq := 0 } { grm with tableId := 4096 }).wf = false
    ∧ (Instr.grant 0 { seq := 0 } { grm with coord := 16 }).wf = false ∧ (Instr.grant 0 { seq := 0 } { grm with retSlot := 16 }).wf = false
    ∧ (Instr.grant 0 { seq := 0 } { grm with round := 2 ^ 32 }).wf = false ∧ (Instr.grant 0 { seq := 0 } { grm with live := 65536 }).wf = false
    ∧ (Instr.grant 0 { seq := 0 } { grm with p := 2 ^ 32 }).wf = false ∧ (Instr.grant 0 { seq := 0 } { grm with shares := [] }).wf = false
    ∧ (Instr.grant 0 { seq := 0 } { grm with shares := List.replicate 16 60001 }).wf = false := by decide

theorem test_wf_telRsp : (Instr.telRsp 0 { seq := 0 } 1 (List.replicate 64 0)).wf = true ∧ (Instr.telRsp 0 { seq := 0 } 1 []).wf = false := by decide

theorem test_wf_lreadRsp (ws : List Word) : (ws.length = 1024 → (Instr.lreadRsp 0 { seq := 0 } 1 0 ws).wf = true)
    ∧ (ws.length = 1025 → (Instr.lreadRsp 0 { seq := 0 } 1 0 ws).wf = false) := by
  constructor <;> intro h <;> simp [Instr.wf, h]

theorem test_wf_norProbe : (Instr.norProbe 0 {} (some [(2 ^ 25 - 1, 0)])).wf = true ∧ (Instr.norProbe 0 {} (some [(2 ^ 25, 0)])).wf = false := by decide

theorem test_wf_pmbPoll : (Instr.pmbPoll 0 (some (65535, 0, 0, 0))).wf = true ∧ (Instr.pmbPoll 0 (some (65536, 0, 0, 0))).wf = false
    ∧ (Instr.pmbPoll 0 (some (0, 65536, 0, 0))).wf = false ∧ (Instr.pmbPoll 0 (some (0, 0, 65536, 0))).wf = false
    ∧ (Instr.pmbPoll 0 (some (0, 0, 0, 65536))).wf = false := by decide

/-! ### Small checks against the manual's own figures -/

/-- CRC-32C of "123456789", the check value of the Castagnoli polynomial. -/
theorem test_crc32c : crc32c (ascii "123456789") = 0xE3069283 := by decide +kernel

/-- SMBus's CRC-8 of "123456789" is F4h. -/
theorem test_pec : State.pecOf (ascii "123456789") = 0xF4#8 := by decide +kernel

/-- No word spells a command: the table gives no row any bits. -/
theorem test_decode_none : decodeTableWord 0 0 = none := by decide

/-! ### Every hypothesis of the statements is met: for each clause a state and operands that meet its hypotheses together -/

/-- The reload clauses need an image that the signature check accepts, and the check is an uninterpreted function of Config (log entry 3): where slot 1
of some state holds such an image, a state in Ready with it meets them, with its structure CRC equal to that in force or not. -/
def reloadS (s : State) (c : Nat) : State :=
  { S .ready with
    nor := s.nor, keyBanks := s.keyBanks, fuseCnt := s.fuseCnt
    ledg := { dev := s.ledg.dev }
    pins := { rails := tall 6 true, awaySeat := s.pins.awaySeat }
    aon := { fabAddr := s.aon.fabAddr }
    bimg := { img := { hdr := { structCrc := c } }, running := true, runSlot := 0, arg := 1 } }

theorem test_hyps_ImageCommands_reload (s : State) (h : SlotValid s 1) :
    (∃ t : State, PortFree t ∧ t.top.state = .ready ∧ t.bimg.running = true ∧ t.argSlot ≠ t.bimg.runSlot ∧ SlotValid t t.argSlot
      ∧ (slotImage t t.argSlot).hdr.structCrc = t.im.hdr.structCrc)
    ∧ (∃ t : State, PortFree t ∧ t.top.state = .ready ∧ t.bimg.running = true ∧ t.argSlot ≠ t.bimg.runSlot ∧ SlotValid t t.argSlot
      ∧ (slotImage t t.argSlot).hdr.structCrc ≠ t.im.hdr.structCrc) := by
  have ha : ∀ c, (reloadS s c).argSlot = 1 := fun _ => rfl
  have hj : ∀ c d, (reloadS s c).judgeCopy 1 d = s.judgeCopy 1 d := fun _ _ => rfl
  have hp : ∀ c, PortFree (reloadS s c) := fun _ => ⟨rfl, rfl⟩
  have hv : ∀ c, SlotValid (reloadS s c) (reloadS s c).argSlot := fun c => by rw [ha]; unfold SlotValid; rw [hj, hj]; exact h
  have hi : ∀ c, slotImage (reloadS s c) (reloadS s c).argSlot = slotImage s 1 := fun c => by rw [ha]; unfold slotImage; rw [hj, hj]
  have hr : ∀ c, (reloadS s c).argSlot ≠ (reloadS s c).bimg.runSlot := fun c => by rw [ha]; exact Nat.one_ne_zero
  refine ⟨⟨reloadS s (slotImage s 1).hdr.structCrc, hp _, rfl, rfl, hr _, hv _, ?_⟩, ⟨reloadS s ((slotImage s 1).hdr.structCrc + 1), hp _, rfl, rfl, hr _, hv _, ?_⟩⟩
  · rw [hi]; rfl
  · rw [hi]; exact Nat.ne_of_lt (Nat.lt_succ_self _)

theorem test_hyps_StepTakesTheQueue :
    (∃ (s : State) (c : Instr) (rest : List Instr), s.pending = c :: rest)
    ∧ (∃ (s : State), s.pending = []) :=
  ⟨⟨{ S .ready with pending := [.rideExit] }, .rideExit, [], by decide +kernel⟩,
   ⟨State.reset, by decide +kernel⟩⟩

theorem test_hyps_StepKeepsInvariant :
    ∃ (s : State) (t : State), Machine.Inv s ∧ step s = .next t :=
  ⟨State.reset, State.reset, reset_inv, rfl⟩

theorem test_hyps_FusesAreNeverCleared :
    (∃ (s : State) (t : State), Machine.Inv s ∧ step s = .next t)
    ∧ (∃ (s : State) (x : Fin 2) (d : Fin 2), (s.judgeCopy x d).hdr.svn < s.fuseCnt) :=
  ⟨⟨{ State.reset with fuseCnt := 64 }, { State.reset with fuseCnt := 64 }, fuses64_inv, rfl⟩,
   ⟨{ State.reset with fuseCnt := 1 }, 1, 1, by decide +kernel⟩⟩

theorem test_hyps_VaonSupplies :
    (∃ (s : State), s.top.state = .off)
    ∧ (∃ (s : State), s.pins.vaonA = true ∧ s.pins.vaonB = true ∧ s.aon.onB = false)
    ∧ (∃ (s : State), s.top.state ≠ .off ∧ s.aon.onB = true)
    ∧ (∃ (s : State), s.ctlOn = true ∧ s.aon.onB = false ∧ s.pins.vaonA = true) :=
  ⟨⟨State.reset, by decide +kernel⟩,
   ⟨S .ready, by decide +kernel⟩,
   ⟨((S .ready).mdAon (fun a => { a with onB := true })), by decide +kernel⟩,
   ⟨S .ready, by decide +kernel⟩⟩

theorem test_hyps_BusGoodAndCoreSupply :
    (∃ (s : State), s.pins.pfiGood = false)
    ∧ (∃ (s : State), s.pins.pfiGood = true ∧ s.pins.busGoodRun = true ∧ (s.top.state = .hold ∨ s.top.state = .wake ∧ s.aon.stayOff = false))
    ∧ (∃ (s : State), s.pins.pfiGood = true ∧ s.pins.mainGoodRun = true ∧ s.top.state ≠ .off)
    ∧ (∃ (s : State), s.ctlOn = true ∧ s.onBackup = true) :=
  ⟨⟨S .ready, by decide +kernel⟩,
   ⟨((S .hold).mdPins (fun p => { p with pfiGood := true, busGoodRun := true })), by decide +kernel⟩,
   ⟨((S .ready).mdPins (fun p => { p with pfiGood := true, mainGoodRun := true })), by decide +kernel⟩,
   ⟨((S .ready).mdTop (fun p => { p with swoBkp := true })), by decide +kernel⟩⟩

theorem test_hyps_ManualReset :
    (∃ (s : State), s.top.state = .save ∧ s.pair.drv = true ∧ s.pins.mrLow = false ∧ s.pins.mrWait = false)
    ∧ (∃ (s : State), s.inState [.off, .wake, .hold, .save, .latched] = false ∧ s.pins.mrLow = false ∧ s.pins.mrWait = false)
    ∧ (∃ (s : State), s.inState [.off, .wake, .hold] = true)
    ∧ (∃ (s : State), s.top.state = .save ∧ s.pair.drv = false ∧ s.pins.mrLow = false ∧ s.pins.mrWait = false)
    ∧ (∃ (s : State), s.top.state = .latched ∧ s.pins.mrLow = false ∧ s.pins.mrWait = false)
    ∧ (∃ (s : State), s.top.state = .latched ∧ s.pins.mrLow = true ∧ s.pins.mrWait = false)
    ∧ (∃ (s : State), s.pins.mrWait = true)
    ∧ (∃ (s : State), s.inState [.off, .wake, .hold, .latched] = false ∧ s.pins.mrLow = true ∧ s.pins.mrWait = false)
    ∧ (∃ (s : State), s.inState [.off, .wake, .hold] = true ∧ s.pins.mrLow = true ∧ s.pins.mrWait = false) :=
  ⟨⟨S .save, by decide +kernel⟩,
   ⟨S .boot, by decide +kernel⟩,
   ⟨S .hold, by decide +kernel⟩,
   ⟨((P .save).mdPair (fun _ => { standby := true })), by decide +kernel⟩,
   ⟨S .latched, by decide +kernel⟩,
   ⟨((S .latched).mdPins (fun p => { p with mrLow := true })), by decide +kernel⟩,
   ⟨((S .save).mdPins (fun p => { p with mrWait := true })), by decide +kernel⟩,
   ⟨((S .boot).mdPins (fun p => { p with mrLow := true })), by decide +kernel⟩,
   ⟨((S .wake).mdPins (fun p => { p with mrLow := true })), by decide +kernel⟩⟩

theorem test_hyps_ClocksLostAndBack :
    (∃ (s : State), s.ctlOn = true)
    ∧ (∃ (s : State), s.pins.refclkRun = false)
    ∧ (∃ (s : State), s.pins.refclkLong = true ∧ s.pins.refclkRun = false ∧ s.inState [.off, .wake, .hold] = false)
    ∧ (∃ (s : State), s.ctlOn = true)
    ∧ (∃ (s : State), s.top.state ≠ .off)
    ∧ (∃ (s : State), s.top.state ≠ .off) :=
  ⟨⟨S .ready, by decide +kernel⟩,
   ⟨((S .rise).mdPins (fun p => { p with refclkRun := false, refclkLong := true })), by decide +kernel⟩,
   ⟨((S .rise).mdPins (fun p => { p with refclkRun := false, refclkLong := true })), by decide +kernel⟩,
   ⟨S .ready, by decide +kernel⟩,
   ⟨S .wake, by decide +kernel⟩,
   ⟨S .wake, by decide +kernel⟩⟩

theorem test_hyps_SupplyRails :
    (∃ (s : State) (k : Fin 6), ((k = 0 ∨ k = 5)) ∧ rd s.pins.rails k = true ∧ s.inState [.off, .wake, .hold] = false)
    ∧ (∃ (s : State), rd s.pins.rails 1 = true ∧ s.inState [.off, .wake, .hold] = false)
    ∧ (∃ (s : State), rd s.pins.rails 4 = true ∧ s.inState [.off, .wake, .hold] = false)
    ∧ (∃ (s : State) (k : Fin 6), ((k = 2 ∨ k = 3)) ∧ rd s.pins.rails k = true ∧ s.ctlOn = true) :=
  ⟨⟨S .latched, 5, by decide +kernel⟩,
   ⟨S .ready, by decide +kernel⟩,
   ⟨S .ready, by decide +kernel⟩,
   ⟨S .boot, 3, by decide +kernel⟩⟩

theorem test_hyps_TripsEnterSave :
    (∃ (s : State), s.ctlOn = true ∧ (s.paired = false ∨ s.pair.drv = true) ∧ s.inState [.ready, .ride, .service, .ret] = true)
    ∧ (∃ (s : State), s.ctlOn = true ∧ (s.paired = false ∨ s.pair.drv = true) ∧ s.inState [.ready, .ride, .service, .ret] = true ∧ s.bimg.running = true)
    ∧ (∃ (s : State) (n : Fin 8), s.ctlOn = true ∧ (s.paired = false ∨ s.pair.drv = true) ∧ s.inState [.ready, .ride, .service, .ret] = true ∧ s.bimg.running = true ∧ s.im.core.rideThrough = false ∧ rd s.pins.acgLow n = false ∧ s.acgFast < s.im.core.acgThr ∧ s.im.core.acgThr ≤ s.acgFast + 1)
    ∧ (∃ (s : State), PortFree s ∧ s.inState [.ready, .service] = true ∧ s.pair.drv = true) :=
  ⟨⟨S .ret, by decide +kernel⟩,
   ⟨R .ret, by decide +kernel⟩,
   ⟨(I .ready { core := { rideThrough := false, acgThr := 1 } }), 7, by decide +kernel⟩,
   ⟨S .service, (by unfold PortFree; decide +kernel), by decide +kernel⟩⟩

theorem test_hyps_TripsElsewhere :
    (∃ (s : State), s.inState [.boot, .rise, .fall, .latched] = true ∧ s.ctlOn = true ∧ (s.paired = false ∨ s.pair.drv = true ∨ s.pair.standby = false ∧ s.top.state = .boot))
    ∧ (∃ (s : State), s.top.state ≠ .off ∧ s.ctlUp = false)
    ∧ (∃ (s : State), s.top.state = .save ∧ s.ctlOn = true ∧ (s.paired = false ∨ s.pair.drv = true))
    ∧ (∃ (s : State), s.ctlOn = true ∧ s.paired = true ∧ s.pair.drv = false ∧ (s.pair.standby = true ∨ s.top.state ≠ .boot))
    ∧ (∃ (s : State), s.top.state = .off)
    ∧ (∃ (s : State) (w : Word), PortFree s ∧ w ≠ 0x7E575AFE#32) :=
  ⟨⟨S .latched, by decide +kernel⟩,
   ⟨S .hold, by decide +kernel⟩,
   ⟨S .save, by decide +kernel⟩,
   ⟨((P .ready).mdPair (fun _ => {  })), by decide +kernel⟩,
   ⟨S .off, by decide +kernel⟩,
   ⟨S .ready, 0x7E575AFF, (by unfold PortFree; decide +kernel), by decide +kernel⟩⟩

theorem test_hyps_TurnBoundaryTakesInputs :
    (∃ (s : State), s.ctlOn = false)
    ∧ (∃ (s : State), s.ctlOn = true ∧ s.pair.coldDue = false)
    ∧ (∃ (s : State), s.ctlOn = true ∧ s.pair.coldDue = false ∧ s.pair.drv = true) :=
  ⟨⟨S .hold, by decide +kernel⟩,
   ⟨S .boot, by decide +kernel⟩,
   ⟨S .boot, by decide +kernel⟩⟩

theorem test_hyps_StateMovesFollowTheTable :
    ∃ (s : State) (t : State), s.pair.standby = false ∧ step s = .next t :=
  ⟨S .ready, S .ready, by decide +kernel, rfl⟩

theorem test_hyps_OperatorAndSeconds :
    (∃ (s : State) (len : BitVec 8), s.top.state = .wake ∧ len.toNat ≤ 20)
    ∧ (∃ (s : State) (len : BitVec 8), s.ctlOn = true ∧ s.inState [.rise, .ready, .ride, .save, .ret, .service] = true ∧ len.toNat ≤ 20)
    ∧ (∃ (s : State), s.top.state = .rise ∧ s.ctlOn = true ∧ s.pair.drv = true)
    ∧ (∃ (s : State), s.inState [.ready, .ride, .service, .ret] = true ∧ s.seq.pbUsed = false ∧ s.pair.drv = true)
    ∧ (∃ (s : State), s.top.state = .save ∧ s.seq.pbUsed = false ∧ s.pair.drv = true)
    ∧ (∃ (s : State), s.ctlOn = true ∧ s.pair.drv = true ∧ s.top.state = .ride ∧ s.acgCount < s.im.core.acgThr)
    ∧ (∃ (s : State), s.top.state ≠ .off) :=
  ⟨⟨S .wake, 20, by decide +kernel⟩,
   ⟨S .service, 20, by decide +kernel⟩,
   ⟨S .rise, by decide +kernel⟩,
   ⟨S .ret, by decide +kernel⟩,
   ⟨S .save, by decide +kernel⟩,
   ⟨((S .ride).mdBimg (fun b => { b with img := { core := { acgThr := 1 } } })), by decide +kernel⟩,
   ⟨S .wake, by decide +kernel⟩⟩

theorem test_hyps_StakeCommands :
    (∃ (s : State), s.ctlOn = true ∧ s.stakeState = true ∧ s.stake.v.short = true ∧ 10 ≤ s.stake.okRun)
    ∧ (∃ (s : State) (p : Fin 64), s.ctlOn = true ∧ 8 ≤ (s.stkQ p).ovrRun)
    ∧ (∃ (s : State) (p : Fin 64), s.ctlOn = true ∧ (s.stkQ p).ovrRun < 8)
    ∧ (∃ (s : State) (p : Fin 64), s.ctlOn = true ∧ 3 ≤ (s.stkQ p).missRun)
    ∧ (∃ (s : State), s.ctlOn = true ∧ s.ledg.pr1.run = true ∧ 3600000 ≤ s.ledg.pr1.turns)
    ∧ (∃ (s : State), s.ctlOn = true ∧ s.ledg.pr3.run = true ∧ 10000 ≤ s.ledg.pr3.turns)
    ∧ (∃ (s : State), PortFree s ∧ s.im.pol.mMin ≤ 0x400)
    ∧ (∃ (s : State), PortFree s) :=
  ⟨⟨(({ S .service with stake := { okRun := 10, v := { short := true } } })), by decide +kernel⟩,
   ⟨(SQ { ovrRun := 8 }), 63, by decide +kernel⟩,
   ⟨(SQ { ovrRun := 7 }), 63, by decide +kernel⟩,
   ⟨(SQ { missRun := 3 }), 63, by decide +kernel⟩,
   ⟨{ S .ready with ledg := { pr1 := { run := true, turns := 3600000 } } }, by decide +kernel⟩,
   ⟨{ S .ready with ledg := { pr3 := { run := true, turns := 10000 } } }, by decide +kernel⟩,
   ⟨(I .ready { pol := { mMin := 0x400 } }), (by unfold PortFree; decide +kernel), by decide +kernel⟩,
   ⟨S .ready, (by unfold PortFree; decide +kernel)⟩⟩

theorem test_hyps_TurnBoundaryStakes :
    (∃ (s : State) (p : Fin 64) (r : Nat), (s.stkQ p).elig = true ∧ (s.stkQ p).due = true ∧ s.stakeState = true ∧ (s.stkQ p).rep = some r)
    ∧ (∃ (s : State) (p : Fin 64), (s.stkQ p).elig = true ∧ (s.stkQ p).due = true ∧ (s.stkQ p).rep = none)
    ∧ (∃ (s : State) (p : Fin 64), (s.stkQ p).elig = true ∧ s.eligible p = false)
    ∧ (∃ (s : State) (p : Fin 64), s.linkUp p = true ∧ (s.lk p).idRead = true ∧ (s.lk p).chan.wait = [] ∧ (s.lk p).chan.buf.length < 1024)
    ∧ (∃ (s : State) (p : Fin 64), (s.linkUp p = false ∨ (s.lk p).idRead = false))
    ∧ (∃ (s : State), s.stake.v.bTotal < s.stake.v.sumU ∧ s.stake.v.short = false)
    ∧ (∃ (s : State), s.stake.v.bTotal < s.stake.v.sumU ∧ s.stake.v.short = true)
    ∧ (∃ (s : State), s.stake.v.sumU ≤ s.stake.v.bTotal)
    ∧ (∃ (s : State) (p : Fin 64), s.stake.v.short = true)
    ∧ (∃ (s : State), s.top.state = .save)
    ∧ (∃ (s : State) (p : Fin 64), s.inState [.ready, .ride, .service, .save] = false) :=
  ⟨⟨(SQ { elig := true, due := true, rep := some 5 }), 63, 5, by decide +kernel⟩,
   ⟨(SQ { elig := true, due := true }), 63, by decide +kernel⟩,
   ⟨(SQ { elig := true }), 63, by decide +kernel⟩,
   ⟨((S .ready).mdLk 63 (fun _ => { st := 4, idRead := true })), 63, by decide +kernel⟩,
   ⟨S .ready, 63, by decide +kernel⟩,
   ⟨{ S .ready with stake := { v := { sumU := 1 } } }, by decide +kernel⟩,
   ⟨{ S .ready with stake := { v := { sumU := 1, short := true } } }, by decide +kernel⟩,
   ⟨S .ready, by decide +kernel⟩,
   ⟨{ S .ready with stake := { v := { short := true } } }, 63, by decide +kernel⟩,
   ⟨S .save, by decide +kernel⟩,
   ⟨S .boot, 63, by decide +kernel⟩⟩

theorem test_hyps_LinkTraining :
    (∃ (s : State) (p : Fin 64), s.portOn (p.val / 8) = true ∧ s.upper p = false ∧ (s.lk p).en = true ∧ (s.lk p).st = 0 ∧ (s.lk p).failed = false)
    ∧ (∃ (s : State) (p : Fin 64) (lanes : BitVec 4) (w : Nat) (m : Nat), s.ctlOn = true ∧ (s.lk p).st = 1 ∧ widthLanes (s.cfgWidth p) lanes.toNat = some (w, m))
    ∧ (∃ (s : State) (p : Fin 64) (lane : Fin 4) (sq : BitVec 8), s.ctlOn = true ∧ (s.lk p).st = 2 ∧ rd (s.lk p).reqs lane < 64 ∧ ((∀ c ∈ (s.lk p).coef, c.1 = lane.val → c.2.2 = sq.toNat → rd (s.lk p).reqs lane = 0)))
    ∧ (∃ (s : State) (p : Fin 64) (lane : Fin 4), s.ctlOn = true ∧ (s.lk p).st = 2 ∧ 64 ≤ rd (s.lk p).reqs lane)
    ∧ (∃ (s : State) (p : Fin 64) (lane : Fin 4) (laneNo : Fin 4), s.ctlOn = true ∧ (s.lk p).st = 2 ∧ laneNo ≠ lane)
    ∧ (∃ (s : State) (p : Fin 64) (width : BitVec 4), s.ctlOn = true ∧ s.upper p = false ∧ (s.lk p).st = 2 ∧ (idxs 4 (fun i => bitOf (s.lk p).lanes i)).length = width.toNat)
    ∧ (∃ (s : State) (p : Fin 64), s.ctlOn = true ∧ ((s.lk p).st = 1 ∨ (s.lk p).st = 2) ∧ (s.lk p).rcv = false ∧ (s.lk p).failed = false)
    ∧ (∃ (s : State) (p : Fin 64), s.portOn (p.val / 8) = true ∧ (s.lk p).failed = true ∧ (s.lk p).en = true)
    ∧ (∃ (s : State) (p : Fin 64) (lane : Fin 4), s.ctlOn = true ∧ s.linkUp p = true ∧ bitOf (s.lk p).lanes lane = true)
    ∧ (∃ (s : State) (p : Fin 64) (lane : Fin 4), s.ctlOn = true ∧ s.linkMsgs p = true ∧ (s.lk p).rcv = true ∧ bitOf (s.lk p).lanes lane = true)
    ∧ (∃ (s : State) (p : Fin 64), s.ctlOn = true ∧ s.upper p = false ∧ (s.lk p).st ≠ 0)
    ∧ (∃ (s : State) (p : Fin 64), s.ctlOn = true ∧ (s.lk p).rcv = true)
    ∧ (∃ (s : State) (p : Fin 64), PortFree s ∧ s.portOn (p.val / 8) = true ∧ (s.lk p).en = true ∧ (¬(s.saving = true ∧ (s.sv p).img = true ∧ (s.sv p).pst < 5)))
    ∧ (∃ (s : State) (p : Fin 64), PortFree s ∧ s.portOn (p.val / 8) = true ∧ (s.lk p).en = true ∧ s.saving = true ∧ (s.sv p).img = true ∧ (s.sv p).pst < 5)
    ∧ (∃ (s : State) (p : Fin 64), PortFree s ∧ s.portOn (p.val / 8) = true)
    ∧ (∃ (s : State) (p : Fin 64), PortFree s ∧ s.portOn (p.val / 8) = true ∧ s.upper p = false ∧ (s.lk p).failed = false ∧ (s.lk p).rcv = false ∧ (s.lk p).st ≠ 0)
    ∧ (∃ (s : State) (c : Instr) (p : Fin 64), (c = .portDisable p ∧ (s.lk p).en = false ∨ c = .portRetrain p ∧ (s.upper p = true ∨ (s.lk p).failed = true ∨ (s.lk p).rcv = true ∨ (s.lk p).st = 0)) ∧ PortFree s ∧ s.portOn (p.val / 8) = true)
    ∧ (∃ (s : State) (c : Instr) (p : Fin 64), c ∈ [Instr.portDisable p, .portEnable p, .portRetrain p] ∧ s.ctlOn = true ∧ s.busy = true)
    ∧ (∃ (s : State), s.fabRuns = true ∧ s.fab.pl.st = 0 ∧ s.fab.pl.failed = false)
    ∧ (∃ (s : State) (lanes : BitVec 4) (w : Nat) (m : Nat), s.fabRuns = true ∧ s.fab.pl.st = 1 ∧ widthLanes 2 lanes.toNat = some (w, m))
    ∧ (∃ (s : State) (lane : Fin 4) (sq : BitVec 8), s.fabRuns = true ∧ s.fab.pl.st = 2 ∧ rd s.fab.pl.reqs lane < 64 ∧ ((∀ c ∈ s.fab.pl.coef, c.1 = lane.val → c.2.2 = sq.toNat → rd s.fab.pl.reqs lane = 0)))
    ∧ (∃ (s : State) (width : BitVec 4), s.fabRuns = true ∧ s.fab.pl.st = 2 ∧ (idxs 4 (fun i => bitOf s.fab.pl.lanes i)).length = width.toNat)
    ∧ (∃ (s : State), s.fabRuns = true ∧ (s.fab.pl.st = 1 ∨ s.fab.pl.st = 2) ∧ s.fab.pl.failed = false)
    ∧ (∃ (s : State), s.fabRuns = true ∧ s.fab.pl.failed = true)
    ∧ (∃ (s : State) (lane : Fin 4), s.fabRuns = true ∧ s.fab.pl.st = 3 ∧ bitOf s.fab.pl.lanes lane = true)
    ∧ (∃ (s : State), s.fabRuns = true ∧ s.fab.pl.st ≠ 0) :=
  ⟨⟨S .ready, 63, by decide +kernel⟩,
   ⟨((S .ready).mdLk 63 (fun _ => { st := 1 })), 63, 2, 1, 2, by decide +kernel⟩,
   ⟨((S .ready).mdLk 63 (fun _ => { st := 2 })), 63, 3, 0, by decide +kernel⟩,
   ⟨((S .ready).mdLk 63 (fun _ => { st := 2, reqs := tall 4 64 })), 63, 3, by decide +kernel⟩,
   ⟨((S .ready).mdLk 63 (fun _ => { st := 2 })), 63, 3, 2, by decide +kernel⟩,
   ⟨((S .ready).mdLk 63 (fun _ => { st := 2, lanes := 3 })), 63, 2, by decide +kernel⟩,
   ⟨((S .ready).mdLk 63 (fun _ => { st := 2 })), 63, by decide +kernel⟩,
   ⟨((S .ready).mdLk 63 (fun _ => { failed := true })), 63, by decide +kernel⟩,
   ⟨((S .ready).mdLk 63 (fun _ => { st := 4, lanes := 3 })), 63, 1, by decide +kernel⟩,
   ⟨((S .ready).mdLk 63 (fun _ => { st := 3, rcv := true, lanes := 3 })), 63, 1, by decide +kernel⟩,
   ⟨((S .ready).mdLk 63 (fun _ => { st := 4 })), 63, by decide +kernel⟩,
   ⟨((S .ready).mdLk 63 (fun _ => { rcv := true })), 63, by decide +kernel⟩,
   ⟨((S .ready).mdLk 63 (fun _ => { st := 4 })), 63, (by unfold PortFree; decide +kernel), by decide +kernel⟩,
   ⟨(((((S .save).mdLk 63 (fun _ => { st := 4 })))).mdSv 63 (fun _ => { img := true, pst := 4 })), 63, (by unfold PortFree; decide +kernel), by decide +kernel⟩,
   ⟨((S .ready).mdLk 63 (fun _ => { en := false })), 63, (by unfold PortFree; decide +kernel), by decide +kernel⟩,
   ⟨((S .ready).mdLk 63 (fun _ => { st := 4 })), 63, (by unfold PortFree; decide +kernel), by decide +kernel⟩,
   ⟨((S .ready).mdLk 63 (fun _ => { failed := true })), .portRetrain 63, 63, .inr ⟨rfl, by decide +kernel⟩, (by unfold PortFree; decide +kernel), by decide +kernel⟩,
   ⟨((S .ready).mdCmd (fun _ => { code := 1, state := 1 })), .portEnable 63, 63, by decide +kernel⟩,
   ⟨S .ready, by decide +kernel⟩,
   ⟨((S .ready).mdFab (fun v => { v with pl := { st := 1 } })), 2, 1, 2, by decide +kernel⟩,
   ⟨((S .ready).mdFab (fun v => { v with pl := { st := 2 } })), 3, 0, by decide +kernel⟩,
   ⟨((S .ready).mdFab (fun v => { v with pl := { st := 2, lanes := 3 } })), 2, by decide +kernel⟩,
   ⟨((S .ready).mdFab (fun v => { v with pl := { st := 2 } })), by decide +kernel⟩,
   ⟨((S .ready).mdFab (fun v => { v with pl := { failed := true } })), by decide +kernel⟩,
   ⟨((S .ready).mdFab (fun v => { v with pl := { st := 3, lanes := 3 } })), 1, by decide +kernel⟩,
   ⟨((S .ready).mdFab (fun v => { v with pl := { st := 3 } })), by decide +kernel⟩⟩

theorem test_hyps_MessageLayer :
    (∃ (type : Nat) (len : Nat), type < 256 ∧ len < 65536)
    ∧ (∃ (s : State) (p : Fin 64) (h : Hdr) (m : HclOut) (rest : List (Nat × HclOut)), s.ctlOn = true ∧ s.linkMsgs p = true ∧ h.ok = true ∧ h.ackV = true ∧ (s.lk p).chan.buf = (h.ack.toNat, m) :: rest)
    ∧ (∃ (s : State) (p : Fin 64) (h : Hdr) (c : Instr) (e : BitVec 12), (c = .ack (.port p) h ∨ c = .nak (.port p) (.received h e)) ∧ s.ctlOn = true ∧ s.linkMsgs p = true ∧ h.ok = false)
    ∧ (∃ (s : State) (h : Hdr) (m : PMsg) (rest : List (Nat × PMsg)), s.pairMsgs = true ∧ h.ok = true ∧ h.ackV = true ∧ s.pair.chan.buf = (h.ack.toNat, m) :: rest)
    ∧ (∃ (s : State) (i : Fin 4) (h : Hdr) (m : FMsg) (rest : List (Nat × FMsg)), s.fabRuns = true ∧ 2 ≤ (s.fport i).st ∧ (s.fport i).st ≤ 3 ∧ h.ok = true ∧ h.ackV = true ∧ (s.fport i).chan.buf = (h.ack.toNat, m) :: rest)
    ∧ (∃ (s : State) (p : Fin 64), s.ctlOn = true ∧ s.linkMsgs p = true)
    ∧ (∃ (s : State) (p : Fin 64) (h : Hdr) (e : BitVec 12) (a : List (Nat × HclOut)) (b : List (Nat × HclOut)) (m : HclOut), s.ctlOn = true ∧ s.linkMsgs p = true ∧ h.ok = true ∧ h.ackV = false ∧ (s.lk p).chan.buf = a ++ (e.toNat, m) :: b ∧ (∀ x ∈ a, x.1 ≠ e.toNat) ∧ ((a = [] → (s.lk p).chan.tries < 4)))
    ∧ (∃ (s : State) (p : Fin 64) (h : Hdr) (e : BitVec 12) (b : List (Nat × HclOut)) (m : HclOut), s.ctlOn = true ∧ s.linkUp p = true ∧ h.ok = true ∧ h.ackV = false ∧ (s.lk p).chan.buf = (e.toNat, m) :: b ∧ 4 ≤ (s.lk p).chan.tries)
    ∧ (∃ (s : State) (p : Fin 64) (h : Hdr) (e : BitVec 12), s.ctlOn = true ∧ s.linkMsgs p = true ∧ h.ok = true ∧ h.ackV = false ∧ (s.lk p).chan.seq = e.toNat ∧ (∀ x ∈ (s.lk p).chan.buf, x.1 ≠ e.toNat) ∧ (s.lk p).chan.wait = [])
    ∧ (∃ (s : State) (p : Fin 64), s.ctlOn = true ∧ 2 ≤ (s.lk p).st ∧ s.upper p = false)
    ∧ (∃ (s : State) (p : Fin 64), s.linkUp p = true ∧ (s.lk p).chan.wait = [] ∧ (s.lk p).chan.buf.length < 1024)
    ∧ (∃ (s : State) (p : Fin 64), s.linkUp p = true ∧ (s.lk p).chan.buf.length = 1024)
    ∧ (∃ (s : State) (p : Fin 64), s.ctlOn = true ∧ s.linkMsgs p = true ∧ (s.lk p).chan.buf ≠ [])
    ∧ (∃ (s : State), s.pairMsgs = true ∧ s.pair.chan.buf ≠ [])
    ∧ (∃ (s : State) (i : Fin 4), s.fabRuns = true ∧ (s.fport i).chan.buf ≠ []) :=
  ⟨⟨255, 65535, by decide +kernel⟩,
   ⟨((S .ready).mdLk 63 (fun _ => { st := 4, chan := { buf := [(5, .cancel 0)] } })), 63, { seq := 0, ack := 5, ackV := true }, .cancel 0, [], by decide +kernel⟩,
   ⟨((S .ready).mdLk 63 (fun _ => { st := 3 })), 63, { seq := 0, ok := false }, .ack (.port 63) { seq := 0, ok := false }, 0, .inl rfl, by decide +kernel⟩,
   ⟨((P .ready).mdPair (fun _ => { chan := { buf := [(5, .alive)] } })), { seq := 0, ack := 5, ackV := true }, .alive, [], by decide +kernel⟩,
   ⟨((S .ready).mdFport 3 (fun _ => { st := 3, chan := { buf := [(5, { dst := 0, src := 0, prio := 0, body := .tsyncReq })] } })), 3, { seq := 0, ack := 5, ackV := true }, { dst := 0, src := 0, prio := 0, body := .tsyncReq }, [], by decide +kernel⟩,
   ⟨((S .ready).mdLk 63 (fun _ => { st := 3 })), 63, by decide +kernel⟩,
   ⟨((S .ready).mdLk 63 (fun _ => { st := 4, chan := { buf := [(4, .cancel 0), (5, .cancel 0)] } })), 63, { seq := 0 }, 5, [(4, .cancel 0)], [], .cancel 0, by decide +kernel⟩,
   ⟨((S .ready).mdLk 63 (fun _ => { st := 4, chan := { tries := 4, buf := [(5, .cancel 0)] } })), 63, { seq := 0 }, 5, [], .cancel 0, by decide +kernel⟩,
   ⟨((S .ready).mdLk 63 (fun _ => { st := 4, chan := { seq := 6, buf := [(5, .cancel 0)] } })), 63, { seq := 0 }, 6, by decide +kernel⟩,
   ⟨((S .ready).mdLk 63 (fun _ => { st := 2 })), 63, by decide +kernel⟩,
   ⟨((S .ready).mdLk 63 (fun _ => { st := 4, chan := { buf := List.replicate 1023 (0, .cancel 0) } })), 63, by decide +kernel⟩,
   ⟨((S .ready).mdLk 63 (fun _ => { st := 4, chan := { buf := List.replicate 1024 (0, .cancel 0) } })), 63, by decide +kernel⟩,
   ⟨((S .ready).mdLk 63 (fun _ => { st := 4, chan := { tries := 4, buf := [(5, .cancel 0)] } })), 63, by decide +kernel⟩,
   ⟨((P .ready).mdPair (fun _ => { chan := { tries := 3, buf := [(5, .alive)] } })), by decide +kernel⟩,
   ⟨((S .ready).mdFport 3 (fun _ => { st := 3, chan := { buf := [(5, { dst := 0, src := 0, prio := 0, body := .tsyncReq })] } })), 3, by decide +kernel⟩⟩

theorem test_hyps_OutOfSequenceMessagesAreDropped :
    (∃ (s : State) (c : Instr) (p : Fin 64) (h : Hdr), fromAdapter c = some (p, h) ∧ s.ctlOn = true ∧ s.linkMsgs p = true ∧ (s.lk p).chan.expect ≠ h.seq.toNat)
    ∧ (∃ (s : State) (p : Fin 64) (h : Hdr) (m : FrozenMsg), s.ctlOn = true ∧ s.linkMsgs p = true ∧ (s.lk p).chan.expect ≠ h.seq.toNat) :=
  ⟨⟨((S .ready).mdLk 63 (fun _ => { st := 4 })), .releaseAck 63 { seq := 1 }, 63, { seq := 1 }, by decide +kernel⟩,
   ⟨((S .ready).mdLk 63 (fun _ => { st := 4 })), 63, { seq := 1 }, { serial := 0, source := 0, stamp := {}, dirty := 0, staged := 0, region := [], map := [] }, by decide +kernel⟩⟩

theorem test_hyps_MessagesOfTheMapAndTheMove :
    (∃ (s : State) (p : Fin 64) (h : Hdr) (m : IdentMsg), InSeq p h s ∧ (s.lk p).st = 3 ∧ m.id ≠ 0 ∧ m.id ≠ 0xFFFFFFFFFFFFFFFF#64 ∧ ((s.lk p).exp = none ∨ (s.lk p).exp = some m.id))
    ∧ (∃ (s : State) (p : Fin 64) (h : Hdr) (m : IdentMsg), InSeq p h s ∧ s.linkUp p = true ∧ (s.lk p).idRead = true ∧ (s.lk p).id ≠ m.id)
    ∧ (∃ (s : State) (p : Fin 64) (h : Hdr), InSeq p h s)
    ∧ (∃ (s : State) (p : Fin 64) (h : Hdr), InSeq p h s)
    ∧ (∃ (s : State) (p : Fin 64) (h : Hdr) (tag : BitVec 32) (first : BitVec 16) (words : List (List Nat)) (a : Nat × Nat × Nat), InSeq p h s ∧ (s.pp p).asked.find? (fun a => a.1 % 2 ^ 32 == tag.toNat && 32 * a.2.1 == first.toNat && a.2.2 == words.length) = some a)
    ∧ (∃ (s : State) (p : Fin 64) (h : Hdr) (tag : BitVec 32) (sq : BitVec 16) (chunk : Fin 16) (gen : BitVec 4) (st : BitVec 2) (c : Copy), InSeq p h s ∧ (s.pp p).copies.find? (fun c => c.tag == tag.toNat && c.sq == sq.toNat && c.ph == 0) = some c ∧ (c.gen = none ∨ c.gen = some (gen.toNat, st.toNat)) ∧ (c.chunks.filter (fun d => d.1 != chunk.val)).length < 15 ∧ s.stageRuns = true ∧ s.moverRuns = true)
    ∧ (∃ (s : State) (p : Fin 64) (h : Hdr) (tag : BitVec 32) (sq : BitVec 16) (gen : BitVec 4) (st : BitVec 2) (c : Copy) (g : Nat × Nat), InSeq p h s ∧ (s.pp p).copies.find? (fun c => c.tag == tag.toNat && c.sq == sq.toNat && c.ph == 0) = some c ∧ c.gen = some g ∧ g ≠ (gen.toNat, st.toNat) ∧ s.stageRuns = true ∧ s.moverRuns = true)
    ∧ (∃ (s : State) (p : Fin 64) (h : Hdr) (tag : BitVec 32) (sq : BitVec 16) (c : Copy), InSeq p h s ∧ (s.pp p).copies.find? (fun c => c.tag == tag.toNat && c.sq == sq.toNat && c.ph == 0) = some c ∧ s.moverRuns = true)
    ∧ (∃ (s : State) (p : Fin 64) (h : Hdr) (tag : BitVec 32) (sq : BitVec 16) (c : Copy), InSeq p h s ∧ (s.pp p).copies.find? (fun c => c.tag == tag.toNat && c.sq == sq.toNat && c.ph == 0) = some c ∧ s.stageRuns = false)
    ∧ (∃ (s : State) (p : Fin 64) (h : Hdr), InSeq p h s ∧ s.moverRuns = false)
    ∧ (∃ (s : State) (p : Fin 64) (h : Hdr) (turn : BitVec 32) (sq : Nat) (g : Nat) (c : Copy), InSeq p h s ∧ (s.pp p).confirms.find? (fun c => c.1 == turn.toNat) = some (turn.toNat, [(sq, g)]) ∧ (s.pp p).copies.find? (fun c => c.sq == sq && c.ph == 3) = some c)
    ∧ (∃ (s : State) (p : Fin 64) (h : Hdr), InSeq p h s)
    ∧ (∃ (s : State) (p : Fin 64) (h : Hdr) (code : BitVec 8) (b : Nat), InSeq p h s ∧ (code, b) ∈ [(0x10#8, 2), (0x21#8, 2), (0x30#8, 3), (0x31#8, 4)])
    ∧ (∃ (s : State) (p : Fin 64) (h : Hdr) (code : BitVec 8), InSeq p h s ∧ code ∉ [0x10#8, 0x21#8, 0x30#8, 0x31#8]) :=
  ⟨⟨((S .ready).mdLk 63 (fun _ => { st := 3, exp := some 1 })), 63, { seq := 0 }, { id := 1, squares := 0, bondCap := false, intact := false, srGood := false, cstate := 0, serial := 0 }, (by unfold InSeq; decide +kernel), by decide +kernel⟩,
   ⟨((S .ready).mdLk 63 (fun _ => { st := 4, idRead := true, id := 1 })), 63, { seq := 0 }, { id := 2, squares := 0, bondCap := false, intact := false, srGood := false, cstate := 0, serial := 0 }, (by unfold InSeq; decide +kernel), by decide +kernel⟩,
   ⟨((S .ready).mdLk 63 (fun _ => { st := 3 })), 63, { seq := 0 }, (by unfold InSeq; decide +kernel)⟩,
   ⟨((S .ready).mdLk 63 (fun _ => { st := 3 })), 63, { seq := 0 }, (by unfold InSeq; decide +kernel)⟩,
   ⟨((((S .ready).mdLk 63 (fun _ => { st := 4 }))).mdPp 63 (fun _ => { asked := [(3, 0, 2)] })), 63, { seq := 0 }, 3, 0, [[], []], (3, 0, 2), (by unfold InSeq; decide +kernel), by decide +kernel⟩,
   ⟨(((((SD .ready).mdLk 63 (fun _ => { st := 4 })))).mdPp 63 (fun _ => { copies := [{ sq := 9, turn := 0, tag := 7, gen := some (1, 1) }] })), 63, { seq := 0 }, 7, 9, 15, 1, 1, { sq := 9, turn := 0, tag := 7, gen := some (1, 1) }, (by unfold InSeq; decide +kernel), by decide +kernel⟩,
   ⟨(((((SD .ready).mdLk 63 (fun _ => { st := 4 })))).mdPp 63 (fun _ => { copies := [{ sq := 9, turn := 0, tag := 7, gen := some (1, 1) }] })), 63, { seq := 0 }, 7, 9, 2, 1, { sq := 9, turn := 0, tag := 7, gen := some (1, 1) }, (1, 1), (by unfold InSeq; decide +kernel), by decide +kernel⟩,
   ⟨(((((S .ready).mdLk 63 (fun _ => { st := 4 })))).mdPp 63 (fun _ => { copies := [{ sq := 9, turn := 0, tag := 7 }] })), 63, { seq := 0 }, 7, 9, { sq := 9, turn := 0, tag := 7 }, (by unfold InSeq; decide +kernel), by decide +kernel⟩,
   ⟨(((((S .fall).mdLk 63 (fun _ => { st := 4 })))).mdPp 63 (fun _ => { copies := [{ sq := 9, turn := 0, tag := 7 }] })), 63, { seq := 0 }, 7, 9, { sq := 9, turn := 0, tag := 7 }, (by unfold InSeq; decide +kernel), by decide +kernel⟩,
   ⟨(((S .ready).mdLk 63 (fun _ => { st := 4 })).mdFlt (fun _ => { blocks := tall 16 { held := true } })), 63, { seq := 0 }, (by unfold InSeq; decide +kernel), by decide +kernel⟩,
   ⟨(((((S .ready).mdLk 63 (fun _ => { st := 4 })))).mdPp 63 (fun _ => { copies := [{ sq := 9, turn := 0, tag := 7, ph := 3 }], confirms := [(4, [(9, 1)])] })), 63, { seq := 0 }, 4, 9, 1, { sq := 9, turn := 0, tag := 7, ph := 3 }, (by unfold InSeq; decide +kernel), by decide +kernel⟩,
   ⟨((S .ready).mdLk 63 (fun _ => { st := 4 })), 63, { seq := 0 }, (by unfold InSeq; decide +kernel)⟩,
   ⟨((S .ready).mdLk 63 (fun _ => { st := 4 })), 63, { seq := 0 }, 0x31, 4, (by unfold InSeq; decide +kernel), by decide +kernel⟩,
   ⟨((S .ready).mdLk 63 (fun _ => { st := 4 })), 63, { seq := 0 }, 0x11, (by unfold InSeq; decide +kernel), by decide +kernel⟩⟩

theorem test_hyps_MessagesOfSaveAndReturn :
    (∃ (s : State) (p : Fin 64) (h : Hdr), InSeq p h s ∧ (¬((s.rt p).out = 6 ∧ (s.rt p).ph = 3 ∧ (s.rt p).chks = 0)))
    ∧ (∃ (s : State) (p : Fin 64) (h : Hdr) (codes : List Word) (m : Manifest), InSeq p h s ∧ (s.rt p).out = 6 ∧ (s.rt p).ph = 3 ∧ (s.rt p).chks = 0 ∧ (s.rt p).lost = 0 ∧ s.portImage p = some m ∧ (∀ k < 64, codes.getD k 0 = wroteCode (s.rt p).wrote k))
    ∧ (∃ (s : State) (p : Fin 64) (h : Hdr) (codes : List Word), InSeq p h s ∧ (s.rt p).out = 6 ∧ (s.rt p).ph = 3 ∧ (s.rt p).chks = 0 ∧ (((s.rt p).lost ≠ 0 ∧ ∀ k < 64, codes.getD k 0 = wroteCode (s.rt p).wrote k) ∨ ((s.rt p).round ≠ 0 ∧ ∃ k < 64, codes.getD k 0 ≠ wroteCode (s.rt p).wrote k)))
    ∧ (∃ (s : State) (p : Fin 64) (h : Hdr) (codes : List Word), InSeq p h s ∧ (s.rt p).out = 6 ∧ (s.rt p).ph = 3 ∧ (s.rt p).chks = 0 ∧ (s.rt p).round = 0 ∧ (∃ k < 64, codes.getD k 0 ≠ wroteCode (s.rt p).wrote k))
    ∧ (∃ (s : State) (p : Fin 64) (h : Hdr), InSeq p h s ∧ s.saving = true ∧ (s.sv p).img = true ∧ (s.sv p).pst = 1 ∧ (s.sv p).unconf = false ∧ (s.sv p).frozen = none ∧ (s.lk p).id = (s.sv p).adapter)
    ∧ (∃ (s : State) (p : Fin 64) (h : Hdr), InSeq p h s ∧ s.top.state ≠ .save)
    ∧ (∃ (s : State) (p : Fin 64) (h : Hdr), InSeq p h s ∧ s.saving = true ∧ (s.sv p).img = true ∧ (s.sv p).pst < 4 ∧ (s.sv p).unconf = true ∧ (s.sv p).frozen = none ∧ (s.lk p).id = (s.sv p).adapter)
    ∧ (∃ (s : State) (p : Fin 64) (h : Hdr) (sq : BitVec 16) (chunk : Fin 16) (tag : BitVec 32), InSeq p h s ∧ (s.rt p).outst.contains (sq.toNat, chunk.val) = true ∧ tag.toNat = sq.toNat * 16 + chunk)
    ∧ (∃ (s : State) (p : Fin 64) (h : Hdr) (sq : BitVec 16) (chunk : Fin 16) (tag : BitVec 32) (status : BitVec 2), InSeq p h s ∧ (s.rt p).outst.contains (sq.toNat, chunk.val) = true ∧ tag.toNat = sq.toNat * 16 + chunk ∧ status ≠ 0)
    ∧ (∃ (s : State) (p : Fin 64) (sq : BitVec 16) (chunk : Fin 16), s.ctlOn = true ∧ (s.rt p).outst.contains (sq.toNat, chunk.val) = true ∧ s.linkUp p = true)
    ∧ (∃ (s : State) (p : Fin 64) (h : Hdr), InSeq p h s ∧ (s.rt p).relOpen = true ∧ s.relStates = true)
    ∧ (∃ (s : State) (p : Fin 64) (m : Nat × Bool × Bool), s.ctlOn = true ∧ (s.rt p).relOpen = true ∧ (s.rt p).relMsg = some m ∧ s.relStates = true) :=
  ⟨⟨((S .ready).mdLk 63 (fun _ => { st := 4 })), 63, { seq := 0 }, (by unfold InSeq; decide +kernel), by decide +kernel⟩,
   ⟨((imgS .ret).mdLk 63 (fun _ => { st := 4 })).mdRt 63 (fun _ => { out := 6, ph := 3 }), 63, { seq := 0 }, wroteCodes, man, (by unfold InSeq; decide +kernel), by decide +kernel, by decide +kernel, by decide +kernel, by decide +kernel, imgS_live .ret, wroteCodes_ok⟩,
   ⟨((((S .ret).mdLk 63 (fun _ => { st := 4 }))).mdRt 63 (fun _ => { out := 6, ph := 3, lost := 1 })), 63, { seq := 0 }, wroteCodes, (by unfold InSeq; decide +kernel), by decide +kernel, by decide +kernel, by decide +kernel, .inl ⟨by decide +kernel, wroteCodes_ok⟩⟩,
   ⟨((((S .ret).mdLk 63 (fun _ => { st := 4 }))).mdRt 63 (fun _ => { out := 6, ph := 3 })), 63, { seq := 0 }, [wroteCode [] 0 + 1], (by unfold InSeq; decide +kernel), by decide +kernel, by decide +kernel, by decide +kernel, by decide +kernel, ⟨0, by decide, wroteCode_ne⟩⟩,
   ⟨(((((S .save).mdLk 63 (fun _ => { st := 4 })))).mdSv 63 (fun _ => { img := true, pst := 1 })), 63, { seq := 0 }, (by unfold InSeq; decide +kernel), by decide +kernel⟩,
   ⟨((S .ready).mdLk 63 (fun _ => { st := 4 })), 63, { seq := 0 }, (by unfold InSeq; decide +kernel), by decide +kernel⟩,
   ⟨(((((S .save).mdLk 63 (fun _ => { st := 4 })))).mdSv 63 (fun _ => { img := true, pst := 3, unconf := true })), 63, { seq := 0 }, (by unfold InSeq; decide +kernel), by decide +kernel⟩,
   ⟨((((S .ret).mdLk 63 (fun _ => { st := 4 }))).mdRt 63 (fun _ => { outst := [(2, 15)] })), 63, { seq := 0 }, 2, 15, 47, (by unfold InSeq; decide +kernel), by decide +kernel⟩,
   ⟨((((S .ret).mdLk 63 (fun _ => { st := 4 }))).mdRt 63 (fun _ => { outst := [(2, 15)] })), 63, { seq := 0 }, 2, 15, 47, 3, (by unfold InSeq; decide +kernel), by decide +kernel⟩,
   ⟨((((S .ret).mdLk 63 (fun _ => { st := 4 }))).mdRt 63 (fun _ => { outst := [(2, 15)] })), 63, 2, 15, by decide +kernel⟩,
   ⟨((((S .ret).mdLk 63 (fun _ => { st := 4 }))).mdRt 63 (fun _ => { relSent := true })), 63, { seq := 0 }, (by unfold InSeq; decide +kernel), by decide +kernel⟩,
   ⟨((((S .ret).mdLk 63 (fun _ => { st := 4 }))).mdRt 63 (fun _ => { relSent := true, relMsg := some (1, false, false) })), 63, (1, false, false), by decide +kernel⟩⟩

theorem test_hyps_SaveCommands :
    (∃ (s : State), s.ctlOn = true ∧ s.saving = true)
    ∧ (∃ (s : State) (k : Fin 8) (w : Nat), s.ctlOn = true ∧ s.saving = true ∧ s.save.w0 = some w ∧ s.save.settle = false)
    ∧ (∃ (s : State), s.ctlOn = true ∧ s.saving = true ∧ s.save.w0.isSome = true ∧ ((∀ p : Fin 64, (s.sv p).img = true → (s.sv p).pst ≠ 1)) ∧ s.class1Read = true ∧ s.save.c1Done = false)
    ∧ (∃ (s : State) (p : Fin 64), s.ctlOn = true ∧ s.saving = true ∧ (s.sv p).img = true ∧ (s.sv p).ended = false ∧ ((s.sv p).pst = 2 ∨ (s.sv p).pst = 3 ∨ (s.sv p).pst = 1 ∧ s.save.resumed = true) ∧ (s.linkUp p = false ∨ (s.lk p).id ≠ (s.sv p).adapter))
    ∧ (∃ (s : State), s.ctlOn = true ∧ s.saving = true ∧ s.save.c1Off = false ∧ s.save.phase < 5)
    ∧ (∃ (s : State), s.ctlOn = true ∧ s.saving = true ∧ s.save.c2Off = false)
    ∧ (∃ (s : State), s.ctlOn = true ∧ s.saving = true ∧ s.save.c2Off = false)
    ∧ (∃ (s : State), s.ctlOn = true ∧ s.saving = true ∧ s.save.emerg = false)
    ∧ (∃ (s : State) (p : Fin 64), s.ctlOn = true ∧ s.saving = true ∧ s.moveOver p = true ∧ s.stage.posted = [] ∧ s.stage.pend = [] ∧ s.save.idxBusy = false)
    ∧ (∃ (s : State), s.ctlOn = true ∧ s.saving = true ∧ s.save.w0.isSome = true ∧ s.portsSealed = true ∧ s.save.phase < 5 ∧ s.save.fillOn = false ∧ s.stage.posted = [])
    ∧ (∃ (s : State), s.ctlOn = true ∧ s.saving = true ∧ s.save.cal = true ∧ s.save.promoted = false ∧ s.save.w0.isSome = true ∧ s.save.settle = false ∧ s.pmbRuns = true)
    ∧ (∃ (c : PmbCfg), c.direct = false)
    ∧ (∃ (s : State), s.ctlOn = true)
    ∧ (∃ (s : State), PortFree s) :=
  ⟨⟨S .save, by decide +kernel⟩,
   ⟨((S .save).mdSave (fun v => { v with w0 := some 0 })), 0, 0, by decide +kernel⟩,
   ⟨((S .save).mdSave (fun v => { v with w0 := some 0 })), by decide +kernel⟩,
   ⟨((S .save).mdSv 63 (fun _ => { img := true, pst := 3 })), 63, by decide +kernel⟩,
   ⟨((S .save).mdSave (fun v => { v with phase := 4 })), by decide +kernel⟩,
   ⟨S .save, by decide +kernel⟩,
   ⟨S .save, by decide +kernel⟩,
   ⟨((S .save).mdSave (fun v => { v with phase := 4 })), by decide +kernel⟩,
   ⟨((S .save).mdSv 63 (fun _ => { img := true, pst := 3 })), 63, by decide +kernel⟩,
   ⟨((S .save).mdSave (fun v => { v with w0 := some 0, phase := 4 })), by decide +kernel⟩,
   ⟨((S .save).mdSave (fun v => { v with w0 := some 0, cal := true })), by decide +kernel⟩,
   ⟨{}, by decide +kernel⟩,
   ⟨S .ready, by decide +kernel⟩,
   ⟨S .ready, (by unfold PortFree; decide +kernel)⟩⟩

theorem test_hyps_StagingCommands :
    (∃ (s : State) (b : Bool), s.ctlOn = true ∧ (∀ e ∈ s.stage.pend, e.1.reloc = b) ∧ ((4092 ≤ s.stage.pend.length ∨ ∃ e ∈ s.stage.pend, e.2 + 100 ≤ s.clk.turn)))
    ∧ (∃ (s : State), s.ctlOn = true ∧ s.stage.pend = [])
    ∧ (∃ (s : State) (z : Stripe), s.ctlOn = true ∧ s.vault.stripes.find? (fun t => t.area == 1 && !t.closed) = some z ∧ z.opened + 2 ≤ s.clk.turn)
    ∧ (∃ (s : State), s.aon.emFresh = false ∧ s.rGovOf ≠ 0)
    ∧ (∃ (s : State), s.rGovOf = 0)
    ∧ (∃ (s : State) (p : Fin 64), s.linkUp p = true ∧ (s.lk p).chan.wait = [] ∧ (s.lk p).chan.buf.length < 1024 ∧ s.mapWords p ≠ 0 ∧ (s.pp p).word < s.mapWords p)
    ∧ (∃ (s : State), s.stageRuns = false)
    ∧ (∃ (s : State) (p : Fin 64), s.stageRuns = true ∧ s.eligible p = true ∧ s.linkUp p = true ∧ (s.lk p).chan.wait = [] ∧ (s.lk p).chan.buf.length < 1024)
    ∧ (∃ (s : State) (p : Fin 64) (sq : BitVec 16) (c : Copy), s.ctlOn = true ∧ (s.pp p).copies.find? (fun c => c.sq == sq.toNat && c.ph < 2 && c.turn + 32 ≤ s.clk.turn) = some c)
    ∧ (∃ (s : State), s.ctlOn = true)
    ∧ (∃ (s : State), PortFree s) :=
  ⟨⟨{ S .ready with clk := { turn := 100 }, stage := { pend := [({ lseq := 0, oseq := 0, sq := 0, port := 0, gen := 0, turn := 0 }, 0)] } }, false, by decide +kernel, by decide +kernel, .inr ⟨_, List.mem_singleton.2 rfl, by decide +kernel⟩⟩,
   ⟨S .ready, by decide +kernel⟩,
   ⟨{ S .ready with clk := { turn := 2 }, vault := { stripes := [{ area := 1, num := 0, geom := 0, data := [] }] } }, { area := 1, num := 0, geom := 0, data := [] }, by decide +kernel⟩,
   ⟨{ SP .ready with aon := { emFresh := false }, vault := { sleds := tall 4 { cls := 6, mapDone := true, cap := 1000 } } }, by decide +kernel⟩,
   ⟨S .ready, by decide +kernel⟩,
   ⟨((S .ready).mdLk 63 (fun _ => { st := 4, squares := 65536 })), 63, by decide +kernel⟩,
   ⟨S .fall, by decide +kernel⟩,
   ⟨((SD .ready).mdLk 63 (fun _ => { st := 4, idRead := true })).mdRt 63 (fun _ => { released := true }), 63, by decide +kernel⟩,
   ⟨(({ S .ready with clk := { turn := 32 } }).mdPp 63 (fun _ => { copies := [{ sq := 9, turn := 0, tag := 7, ph := 1 }] })), 63, 9, { sq := 9, turn := 0, tag := 7, ph := 1 }, by decide +kernel⟩,
   ⟨S .ready, by decide +kernel⟩,
   ⟨S .ready, (by unfold PortFree; decide +kernel)⟩⟩

theorem test_hyps_DescriptorCompletes :
    (∃ (s : State) (r : Fin 32) (i : BitVec 8) (d : Desc) (f : FUnit), s.ctlOn = true ∧ (s.pendingDescs r).find? (fun e => e.1 == i.toNat) = some (i.toNat, d) ∧ s.started r i.toNat = true ∧ d.opc = 1 ∧ d.unit = some f ∧ d.why = .stripe)
    ∧ (∃ (s : State) (r : Fin 32) (i : BitVec 8) (d : Desc) (f : FUnit), s.ctlOn = true ∧ (s.pendingDescs r).find? (fun e => e.1 == i.toNat) = some (i.toNat, d) ∧ s.started r i.toNat = true ∧ d.opc = 1 ∧ d.unit = some f ∧ d.why = .stripe ∧ d.tries < 2 ∧ (s.ring r).fails < 7)
    ∧ (∃ (s : State) (r : Fin 32) (i : BitVec 8) (d : Desc) (f : FUnit), s.ctlOn = true ∧ (s.pendingDescs r).find? (fun e => e.1 == i.toNat) = some (i.toNat, d) ∧ s.started r i.toNat = true ∧ d.opc = 1 ∧ d.unit = some f ∧ d.why = .stripe)
    ∧ (∃ (s : State) (r : Fin 32) (i : BitVec 8) (d : Desc), s.ctlOn = true ∧ (s.pendingDescs r).find? (fun e => e.1 == i.toNat) = some (i.toNat, d) ∧ s.started r i.toNat = true ∧ d.opc = 0x20 ∧ d.why = .erase)
    ∧ (∃ (s : State) (r : Fin 32) (i : BitVec 8) (d : Desc), s.ctlOn = true ∧ (s.pendingDescs r).find? (fun e => e.1 == i.toNat) = some (i.toNat, d) ∧ s.started r i.toNat = true ∧ d.opc = 0x20 ∧ d.why = .erase) :=
  ⟨⟨((S .save).mdRing 31 (fun _ => { slots := [(3, { opc := 1, unit := some { tag := {}, body := .one .filler }, why := .stripe, tries := 1 })] })), 31, 3, { opc := 1, unit := some { tag := {}, body := .one .filler }, why := .stripe, tries := 1 }, { tag := {}, body := .one .filler }, by decide +kernel⟩,
   ⟨((S .save).mdRing 31 (fun _ => { slots := [(3, { opc := 1, unit := some { tag := {}, body := .one .filler }, why := .stripe, tries := 1 })], fails := 6 })), 31, 3, { opc := 1, unit := some { tag := {}, body := .one .filler }, why := .stripe, tries := 1 }, { tag := {}, body := .one .filler }, by decide +kernel⟩,
   ⟨((S .save).mdRing 31 (fun _ => { slots := [(3, { opc := 1, unit := some { tag := {}, body := .one .filler }, why := .stripe, tries := 1 })] })), 31, 3, { opc := 1, unit := some { tag := {}, body := .one .filler }, why := .stripe, tries := 1 }, { tag := {}, body := .one .filler }, by decide +kernel⟩,
   ⟨((S .save).mdRing 31 (fun _ => { slots := [(3, { opc := 0x20, why := .erase })] })), 31, 3, { opc := 0x20, why := .erase }, by decide +kernel⟩,
   ⟨((S .save).mdRing 31 (fun _ => { slots := [(3, { opc := 0x20, why := .erase })] })), 31, 3, { opc := 0x20, why := .erase }, by decide +kernel⟩⟩

theorem test_hyps_VaultCommands :
    (∃ (s : State) (x : Fin 4), rd s.pins.sledPrs x = true ∧ s.flt.resetPend = [])
    ∧ (∃ (s : State) (x : Fin 4), rd s.pins.sledPrs x = false)
    ∧ (∃ (s : State) (x : Fin 4), s.ctlOn = true ∧ s.sledRails x = true ∧ rd s.pins.sledPrs x = true ∧ s.pair.drv = true ∧ (s.islandPower x).ringsRun x = true ∧ ((s.sled x).pwr = false ∨ ((s.sled x).up = false ∧ (s.sled x).cls ≠ 7)))
    ∧ (∃ (s : State) (x : Fin 4), s.ctlOn = true ∧ s.sledRails x = true ∧ rd s.pins.sledPrs x = true ∧ s.pair.drv = false ∧ (s.islandPower x).ringsRun x = true ∧ ((s.sled x).pwr = false ∨ ((s.sled x).up = false ∧ (s.sled x).cls ≠ 7)))
    ∧ (∃ (s : State), s.ctlOn = true ∧ s.vault.founded = false ∧ (∀ x : Fin 4, ¬(rd s.pins.sledPrs x = true ∧ (s.sled x).cls = 1)) ∧ s.im.recipes ≠ [])
    ∧ (∃ (s : State) (x : Fin 4), s.ctlOn = true ∧ (s.sled x).cls = 6 ∧ (s.sled x).up = true ∧ (s.sled x).mapDone = false ∧ s.pair.drv = true ∧ s.ringsRun x = true)
    ∧ (∃ (s : State) (x : Fin 4), s.ctlOn = true ∧ (s.sled x).mapDone = true ∧ (s.sled x).scanDone = false ∧ s.ringsRun x = true)
    ∧ (∃ (s : State), s.ctlOn = true ∧ ((s.top.state = .ready ∧ 600 ≤ s.aon.opSec - s.vault.ecAt) ∨ (s.top.state = .fall ∧ s.vault.ecFall = false)))
    ∧ (∃ (s : State), s.ctlOn = true ∧ s.top.state = .fall ∧ s.vault.ecFall = true)
    ∧ (∃ (s : State), s.ctlOn = true ∧ s.saving = true ∧ 6016 ≤ s.save.ents.length ∧ s.save.idxBusy = false)
    ∧ (∃ (s : State), s.ctlOn = true ∧ s.vault.reloc.on = false ∧ s.vault.rjob = 0 ∧ s.pair.drv = true ∧ s.inState [.ready, .ride, .service] = true ∧ s.stagedUnits.filter (fun u => 2 ^ 29 ≤ s.seqRun u.tag.seq) ≠ [])
    ∧ (∃ (s : State), s.ctlOn = true ∧ s.vault.rjob = 2 ∧ (s.sled s.vault.jobSled).drainPend = true ∧ (s.sled s.vault.jobSled).switched = false ∧ s.vault.rsusp = false ∧ s.inState [.ready, .ride, .service] = true)
    ∧ (∃ (s : State), s.ctlOn = true ∧ s.vault.rjob = 2 ∧ s.vault.rpull = true ∧ s.vault.jobSled < 4 ∧ ((∀ n : Fin 64, s.ofSled s.vault.jobSled n = true → s.en n = false ∧ s.isOff n = true))) :=
  ⟨⟨SP .ready, 3, by decide +kernel⟩,
   ⟨S .ready, 3, by decide +kernel⟩,
   ⟨SP .rise, 3, by decide +kernel⟩,
   ⟨((SP .rise).mdPair (fun p => { p with drv := false })), 3, by decide +kernel⟩,
   ⟨(I .rise { recipes := [{}] }), by decide +kernel⟩,
   ⟨((SP .ready).mdSled 3 (fun _ => { cls := 6, up := true, pwr := true })), 3, by decide +kernel⟩,
   ⟨((SP .ready).mdSled 3 (fun _ => { mapDone := true, pwr := true })), 3, by decide +kernel⟩,
   ⟨((S .ready).mdAon (fun a => { a with opSec := 600 })), by decide +kernel⟩,
   ⟨{ S .fall with vault := { ecFall := true } }, by decide +kernel⟩,
   ⟨((S .save).mdSave (fun v => { v with ents := List.replicate 6016 {} })), by decide +kernel⟩,
   ⟨staged29, by decide +kernel⟩,
   ⟨(sled3 .service { cls := 6, drainPend := true } { rjob := 2, jobSled := 3 }), by decide +kernel⟩,
   ⟨(sled3 .service {} { rjob := 2, rpull := true, jobSled := 3 }), by decide +kernel⟩⟩

theorem test_hyps_VaultJobs :
    (∃ (s : State), PortFree s ∧ s.standbyOk 0x11 = true ∧ s.inState [.ready, .service] = true ∧ s.pair.drv = true)
    ∧ (∃ (s : State), PortFree s ∧ s.standbyOk 0x12 = true ∧ s.inState [.ready, .service] = true ∧ s.pair.drv = true ∧ s.vault.rjob = 0 ∧ 2 ≤ s.healthyCount ∧ s.sledSound s.argSled = true)
    ∧ (∃ (s : State), PortFree s ∧ s.standbyOk 0x13 = true ∧ s.inState [.ready, .service] = true ∧ s.pair.drv = true ∧ s.vault.rjob = 0 ∧ 2 ≤ s.healthyCount)
    ∧ (∃ (s : State), PortFree s ∧ s.standbyOk 0x14 = true ∧ s.inState [.ready, .service, .ret] = true ∧ s.pair.drv = true ∧ s.exportImage.isSome = true)
    ∧ (∃ (s : State), PortFree s ∧ s.standbyOk 0x15 = true ∧ s.inState [.ready, .service] = true ∧ s.pair.drv = true ∧ s.vault.rjob = 0 ∧ (s.anyLive = false ∨ s.argForce = true))
    ∧ (∃ (s : State), PortFree s ∧ s.standbyOk 0x16 = true ∧ s.inState [.ready, .service] = true ∧ s.pair.drv = true ∧ s.vault.rjob = 0 ∧ rd s.pins.sledPrs s.argSled = true ∧ (s.sled s.argSled).up = true ∧ ((s.sled s.argSled).cls = 3 ∨ (s.argForce = true ∧ (s.sled s.argSled).cls ∈ [4, 5, 6])))
    ∧ (∃ (s : State) (c : Instr) (code : Nat), (c, code) ∈ [(Instr.verify, 0x11), (.drain, 0x12), (.rebuild, 0x13), (.vaultExport, 0x14), (.keyErase, 0x15), (.format, 0x16)] ∧ PortFree s ∧ s.top.state = .ride)
    ∧ (∃ (s : State) (c : Instr), c ∈ [Instr.verify, .drain, .rebuild, .vaultExport, .keyErase, .format] ∧ s.ctlOn = true ∧ s.busy = true) :=
  ⟨⟨S .service, (by unfold PortFree; decide +kernel), by decide +kernel⟩,
   ⟨twoSleds, (by unfold PortFree; decide +kernel), by decide +kernel⟩,
   ⟨twoSleds, (by unfold PortFree; decide +kernel), by decide +kernel⟩,
   ⟨imgS .ret, (by unfold PortFree; decide +kernel), by decide +kernel, by decide +kernel, by decide +kernel, imgS_export _⟩,
   ⟨S .service, (by unfold PortFree; decide +kernel), by decide +kernel⟩,
   ⟨fmtS, (by unfold PortFree; decide +kernel), by decide +kernel⟩,
   ⟨S .ride, .format, 0x16, by decide +kernel, (by unfold PortFree; decide +kernel), by decide +kernel⟩,
   ⟨((S .ready).mdCmd (fun _ => { code := 1, state := 1 })), .format, by decide +kernel⟩⟩

theorem test_hyps_RestoreCommands :
    (∃ (s : State) (p : Fin 64), s.ctlOn = true ∧ s.retStates = true ∧ s.inflight < s.concEff ∧ (s.ret.go = true ∨ s.top.state = .ready) ∧ (s.restoreQueue.filter s.linkUp).head? = some p.val ∧ s.boundTo p = some (s.lk p).id)
    ∧ (∃ (s : State) (p : Fin 64), s.ctlOn = true ∧ s.retStates = true ∧ s.inflight < s.concEff ∧ (s.ret.go = true ∨ s.top.state = .ready) ∧ (s.restoreQueue.filter s.linkUp).head? = some p.val ∧ s.boundTo p ≠ some (s.lk p).id)
    ∧ (∃ (s : State), s.ctlOn = true ∧ s.top.state = .ret ∧ s.ret.waited = false)
    ∧ (∃ (s : State) (p : Fin 64), PortFree s ∧ s.retStates = true ∧ awaits (s.rt p).out = true)
    ∧ (∃ (s : State) (p : Fin 64) (src : Fin 64) (m : Manifest), PortFree s ∧ s.retStates = true ∧ (s.rt p).out = 9 ∧ s.newestLive src = some m ∧ m.squares ≤ (s.lk p).squares)
    ∧ (∃ (s : State) (p : Fin 64), PortFree s ∧ s.retStates = true ∧ awaits (s.rt p).out = true)
    ∧ (∃ (s : State) (p : Fin 64) (m : Manifest), PortFree s ∧ s.retStates = true ∧ (s.rt p).out = 0xB ∧ s.portImage p = some m)
    ∧ (∃ (s : State) (p : Fin 64), PortFree s ∧ s.retStates = true ∧ ((s.rt p).out = 0xB ∨ (s.rt p).out = 0xD ∨ (s.rt p).pend = true))
    ∧ (∃ (s : State) (c : Instr) (p : Fin 64) (src : Fin 64), c ∈ [Instr.retDiscard p, .retReassign p src, .retLeavePending p, .retAcceptLoss p, .retDecideAgain p] ∧ PortFree s ∧ s.retStates = false)
    ∧ (∃ (s : State), PortFree s)
    ∧ (∃ (s : State), s.ctlOn = true ∧ s.inTable = true ∧ s.fab.fallback = true ∧ s.top.state = .ret ∧ s.staggerAt < s.clk.turnStart + 1000000)
    ∧ (∃ (s : State), s.ctlOn = true ∧ s.clk.turnStart + 1000000 ≤ max (s.clk.turnStart - s.top.turnsIn * 1000000) s.fab.fallAt + s.fab.tbl.stagT * (s.member s.ownSlot).order * 1000000000)
    ∧ (∃ (s : State) (p : Fin 64), (s.rt p).decide = false)
    ∧ (∃ (s : State) (p : Fin 64), (s.rt p).decide = true ∧ s.newestLive p = none ∧ s.linkUp p = false)
    ∧ (∃ (s : State) (p : Fin 64) (m : Manifest), (s.rt p).decide = true ∧ s.newestLive p = some m ∧ s.linkUp p = false ∧ (s.rt p).ident = false)
    ∧ (∃ (s : State) (p : Fin 64), (s.rt p).decide = true ∧ s.newestLive p = none ∧ s.linkUp p = true ∧ (s.lk p).en = true ∧ (s.rt p).ident = true)
    ∧ (∃ (s : State) (p : Fin 64) (m : Manifest), (s.rt p).decide = true ∧ s.newestLive p = some m ∧ (s.rt p).ident = true ∧ (s.rt p).check.isSome = true) :=
  ⟨⟨((((S .ready).mdLk 63 (fun _ => { st := 4 }))).mdRt 63 (fun _ => { out := 5, src := 63 })), 63, by decide +kernel⟩,
   ⟨((((S .ready).mdLk 63 (fun _ => { st := 4 }))).mdRt 63 (fun _ => { out := 5, src := 63, rid := 9 })), 63, by decide +kernel⟩,
   ⟨S .ret, by decide +kernel⟩,
   ⟨((S .ret).mdRt 63 (fun _ => { out := 8 })), 63, (by unfold PortFree; decide +kernel), by decide +kernel⟩,
   ⟨(imgS .ret).mdRt 63 (fun _ => { out := 9 }), 63, 63, man, (by unfold PortFree; decide +kernel), by decide +kernel, by decide +kernel, imgS_live .ret, by decide +kernel⟩,
   ⟨((S .ret).mdRt 63 (fun _ => { out := 8 })), 63, (by unfold PortFree; decide +kernel), by decide +kernel⟩,
   ⟨(imgS .ret).mdRt 63 (fun _ => { out := 0xB }), 63, man, (by unfold PortFree; decide +kernel), by decide +kernel, by decide +kernel, imgS_live .ret⟩,
   ⟨((S .ret).mdRt 63 (fun _ => { out := 0xD })), 63, (by unfold PortFree; decide +kernel), by decide +kernel⟩,
   ⟨S .save, .retDecideAgain 63, 63, 63, by decide +kernel, (by unfold PortFree; decide +kernel), by decide +kernel⟩,
   ⟨S .ready, (by unfold PortFree; decide +kernel)⟩,
   ⟨{ S .ret with fab := { tbl := { tableId := 1 }, fallback := true } }, by decide +kernel⟩,
   ⟨{ S .ret with fab := { tbl := { tableId := 1, stagT := 10, m := 2, members := [{ order := 1 }] } } }, by decide +kernel⟩,
   ⟨S .ready, 63, by decide +kernel⟩,
   ⟨((S .ret).mdRt 63 (fun _ => { decide := true })), 63, by decide +kernel⟩,
   ⟨(imgS .ret).mdRt 63 (fun _ => { decide := true }), 63, man, by decide +kernel, imgS_live .ret, by decide +kernel⟩,
   ⟨((((S .ret).mdLk 63 (fun _ => { st := 4 }))).mdRt 63 (fun _ => { decide := true, ident := true })), 63, by decide +kernel⟩,
   ⟨(imgS .ret).mdRt 63 (fun _ => { decide := true, ident := true, check := some [] }), 63, man, by decide +kernel, imgS_live .ret, by decide +kernel⟩⟩

theorem test_hyps_StringSamplesAndAnchors :
    (∃ (s : State), s.ctlOn = true)
    ∧ (∃ (full : Int) (v : Int), 0 < full)
    ∧ (∃ (s : State) (k : Fin 16), s.ctlOn = true ∧ (s.strCfg k).configured = true ∧ (s.str k).fast = false)
    ∧ (∃ (s : State) (k : Fin 16), s.ctlOn = true ∧ (s.str k).fast = true ∧ 4000 ≤ (rd s.nrg.c k).quietRun)
    ∧ (∃ (s : State) (k : Fin 16) (p : Nat), s.ctlOn = true ∧ (rd s.nrg.c k).presUs = some p ∧ (s.str k).present = false ∧ (s.strCfg k).configured = true ∧ 100000 ≤ s.strobeUs - p)
    ∧ (∃ (s : State) (k : Fin 16), s.ctlOn = true ∧ (s.str k).present = true ∧ 8 ≤ (rd s.nrg.c k).absRun)
    ∧ (∃ (s : State) (k : Fin 16), s.ctlOn = true ∧ (s.str k).sense = false ∧ 8 ≤ (rd s.nrg.c k).badRun)
    ∧ (∃ (s : State) (k : Fin 16) (p : Nat), s.ctlOn = true ∧ (rd s.nrg.c k).fullUs = some p ∧ (s.str k).present = true ∧ (s.str k).sense = false ∧ (rd s.nrg.c k).fullDone = false ∧ 60000000 ≤ s.strobeUs - p)
    ∧ (∃ (s : State) (k : Fin 16), s.ctlOn = true ∧ (s.str k).present = true ∧ 8 ≤ (rd s.nrg.c k).emptyRun ∧ (rd s.nrg.c k).emptyDone = false) :=
  ⟨⟨S .ready, by decide +kernel⟩,
   ⟨1200000, 0, by decide +kernel⟩,
   ⟨(STR .ready {  } {  } { cNom := 1 }), 15, by decide +kernel⟩,
   ⟨(STR .ready { fast := true } { quietRun := 4000 } { cNom := 1 }), 15, by decide +kernel⟩,
   ⟨(({ (STR .ready {  } { presUs := some 0 } { cNom := 1 }) with nrg := { (STR .ready {  } { presUs := some 0 } { cNom := 1 }).nrg with strobe := 400 } })), 15, 0, by decide +kernel⟩,
   ⟨(STR .ready { present := true } { absRun := 8 } { cNom := 1 }), 15, by decide +kernel⟩,
   ⟨(STR .ready {  } { badRun := 8 } { cNom := 1 }), 15, by decide +kernel⟩,
   ⟨(({ (STR .ready { present := true } { fullUs := some 0 } { cNom := 1 }) with nrg := { (STR .ready { present := true } { fullUs := some 0 } { cNom := 1 }).nrg with strobe := 240000 } })), 15, 0, by decide +kernel⟩,
   ⟨(STR .ready { present := true } { emptyRun := 8 } { cNom := 1 }), 15, by decide +kernel⟩⟩

theorem test_hyps_StringHostCommands :
    (∃ (s : State), PortFree s)
    ∧ (∃ (s : State), PortFree s)
    ∧ (∃ (s : State) (k : Fin 16), PortFree s ∧ s.pair.standby = false ∧ s.aon.learnSt ∉ [1, 2, 3] ∧ s.inState [.ready, .service] = true ∧ (s.strCfg k).configured = true ∧ (s.str k).present = true ∧ (s.strCfg k).isoSlot < 64 ∧ (s.strCfg k).loadSlot < 64 ∧ (s.str k).sense = false ∧ s.stake.v.short = false ∧ (s.sumU ≤ s.bTotalOf s.stake.v.bwV (let e := s.nrg.eSum - (if (s.str k).inSum then (s.str k).eStr else 0); match s.potP with | some v => min v e * s.nrg.num / s.nrg.den | none => e)))
    ∧ (∃ (s : State), PortFree s ∧ s.pair.standby = true)
    ∧ (∃ (s : State) (k : Fin 16), PortFree s ∧ s.pair.standby = false ∧ s.aon.learnSt ∉ [1, 2, 3] ∧ ((s.str k).sense = true ∨ s.inState [.ready, .service] = false))
    ∧ (∃ (s : State), PortFree s ∧ s.pair.standby = false ∧ (s.aon.learnSt = 1 ∨ s.aon.learnSt = 2))
    ∧ (∃ (s : State), s.ctlOn = true ∧ s.pair.standby = false ∧ (s.aon.learnSt = 1 ∨ s.aon.learnSt = 2) ∧ s.aon.opSec < 2 ^ 32 ∧ 86400 ≤ (s.aon.opSec + 2 ^ 32 - s.aon.learnAt % 2 ^ 32) % 2 ^ 32)
    ∧ (∃ (s : State), PortFree s)
    ∧ (∃ (s : State), PortFree s ∧ s.standbyOk 8 = true ∧ s.bankCopy.restoreCheck = 0)
    ∧ (∃ (s : State), PortFree s ∧ s.standbyOk 8 = true ∧ s.bankCopy.restoreCheck ≠ 0)
    ∧ (∃ (s : State) (k : Fin 16), (s.str k).present = true ∧ (s.str k).c ≠ 0)
    ∧ (∃ (s : State), s.nrg.learnAbort = true ∧ (s.aon.learnSt = 1 ∨ s.aon.learnSt = 2) ∧ s.top.state ≠ .boot)
    ∧ (∃ (s : State), s.nrg.learnAbort = false ∧ s.nrg.learnGo = true ∧ (s.aon.learnSt = 1 ∨ s.aon.learnSt = 2))
    ∧ (∃ (s : State), s.nrg.learnAbort = false ∧ s.nrg.learnGo = false)
    ∧ (∃ (s : State), s.pair.standby = true)
    ∧ (∃ (s : State) (mask : BitVec 16), s.nrg.restore = some mask ∧ s.cmd.abortPend = false)
    ∧ (∃ (s : State), (s.nrg.restore = none ∨ s.cmd.abortPend = true)) :=
  ⟨⟨S .ready, (by unfold PortFree; decide +kernel)⟩,
   ⟨S .ready, (by unfold PortFree; decide +kernel)⟩,
   ⟨(STR .ready { present := true } {  } { cNom := 1, isoSlot := 63, loadSlot := 63 }), 15, (by unfold PortFree; decide +kernel), by decide +kernel⟩,
   ⟨((S .ready).mdPair (fun _ => { standby := true })), (by unfold PortFree; decide +kernel), by decide +kernel⟩,
   ⟨(STR .ready { sense := true } {  } { cNom := 1 }), 15, (by unfold PortFree; decide +kernel), by decide +kernel⟩,
   ⟨((S .ready).mdAon (fun a => { a with learnSt := 2 })), (by unfold PortFree; decide +kernel), by decide +kernel⟩,
   ⟨((S .ready).mdAon (fun a => { a with learnSt := 2, opSec := 86400 })), by decide +kernel⟩,
   ⟨S .ready, (by unfold PortFree; decide +kernel)⟩,
   ⟨rstOk, (by unfold PortFree; decide +kernel), by decide +kernel, rstOk_check⟩,
   ⟨S .ride, (by unfold PortFree; decide +kernel), by decide +kernel⟩,
   ⟨(STR .ready { present := true, c := 1 } {  } { cNom := 1 }), 15, by decide +kernel⟩,
   ⟨{ ((S .ready).mdAon (fun a => { a with learnSt := 2 })) with nrg := { learnAbort := true } }, by decide +kernel⟩,
   ⟨{ ((S .ready).mdAon (fun a => { a with learnSt := 2 })) with nrg := { learnGo := true } }, by decide +kernel⟩,
   ⟨S .ready, by decide +kernel⟩,
   ⟨((S .ready).mdPair (fun _ => { standby := true })), by decide +kernel⟩,
   ⟨{ S .ready with nrg := { restore := some 1 } }, 1, by decide +kernel⟩,
   ⟨S .ready, by decide +kernel⟩⟩

theorem test_hyps_SequencerTicksAndSlots :
    (∃ (s : State), s.ctlOn = true)
    ∧ (∃ (s : State) (n : Fin 64), s.ctlOn = true ∧ s.seq.rising = true ∧ (s.slot n).st = 3 ∧ 1 ≤ (s.slot n).rise ∧ (s.slotCfg n).role ∉ [2, 4] ∧ (s.slotCfg n).cls ≠ 0 ∧ ((s.slotCfg n).shared = false ∨ s.pair.drv = true) ∧ (s.slotCfg n).delay ≤ s.seq.up + 1 - (s.slot n).tD)
    ∧ (∃ (s : State), s.ctlOn = true)
    ∧ (∃ (s : State) (n : Fin 64) (d : Down), s.ctlOn = true ∧ s.seq.downs = [d] ∧ d.set.getLsbD n = true ∧ (s.slot n).st = 6 ∧ (s.slotCfg n).role ≠ 4 ∧ (s.slotCfg n).cls ≠ 0 ∧ ((s.slotCfg n).shared = false ∨ s.pair.drv = true) ∧ (s.slotCfg n).ddelay ≤ s.seq.dn + 1 - (s.slot n).tF)
    ∧ (∃ (s : State) (n : Fin 64) (q : Nat), s.ctlOn = true ∧ (s.slot n).tQ = some q ∧ (s.slot n).st = 4 ∧ (s.slotCfg n).tQual ≤ s.seq.up - q)
    ∧ (∃ (s : State) (n : Fin 64), s.ctlOn = true ∧ (s.slot n).st = 4 ∧ (s.slot n).goodOnce = true)
    ∧ (∃ (s : State) (n : Fin 64) (q : Nat), s.ctlOn = true ∧ (s.slot n).offAt = some q ∧ s.en n = false ∧ (s.slot n).belowOff = false ∧ (s.slot n).stuck = false ∧ (∃ d ∈ s.seq.downs, d.set.getLsbD n = true) ∧ s.im.seq.stuckT * 10 ≤ s.seq.dn - q)
    ∧ (∃ (s : State), s.ctlOn = true) :=
  ⟨⟨S .ready, by decide +kernel⟩,
   ⟨(SLT .rise { st := 3, rise := 1 } { cls := 1, delay := 1 } { rising := true }), 63, by decide +kernel⟩,
   ⟨S .ready, by decide +kernel⟩,
   ⟨(SLT .fall { st := 6 } { cls := 1, ddelay := 1 } { downs := [{ kind := .fallRun, set := BitVec.ofNat 64 (2 ^ 63) }] }), 63, { kind := .fallRun, set := BitVec.ofNat 64 (2 ^ 63) }, by decide +kernel⟩,
   ⟨(SLT .rise { st := 4, tQ := some 0 } { cls := 1, tQual := 1 } { up := 1 }), 63, 0, by decide +kernel⟩,
   ⟨(SLT .ready { st := 4, goodOnce := true } { cls := 1 } {  }), 63, by decide +kernel⟩,
   ⟨(SLT .fall { offAt := some 0 } { cls := 1 } { dn := 10000, downs := [{ kind := .fallRun, set := BitVec.ofNat 64 (2 ^ 63) }] }), 63, 0, by decide +kernel, by decide +kernel, by decide +kernel, by decide +kernel, by decide +kernel, ⟨_, List.mem_singleton.2 rfl, by decide +kernel⟩, by decide +kernel⟩,
   ⟨S .ready, by decide +kernel⟩⟩

theorem test_hyps_SequencerFailuresAndSupervision :
    (∃ (s : State) (n : Fin 64), s.ctlOn = true ∧ (s.slot n).st = 4 ∧ (s.slot n).rise ≠ 0 ∧ (s.slotCfg n).tOut * 10 ≤ s.seq.up - (s.slot n).tS)
    ∧ (∃ (s : State) (n : Fin 64), s.ctlOn = true ∧ (s.slot n).st = 5 ∧ (s.slot n).rise ≠ 0)
    ∧ (∃ (s : State) (n : Fin 64), s.ctlOn = true ∧ (s.slot n).st = 5 ∧ (s.slot n).rise = 1 ∧ (s.slotCfg n).role ≠ 3 ∧ s.top.state = .rise)
    ∧ (∃ (s : State), s.ctlOn = true ∧ s.seq.resting = some .attempt ∧ s.top.state = .rise)
    ∧ (∃ (s : State) (x : Fin 4), s.ctlOn = true ∧ rd s.seq.sledRest x = true)
    ∧ (∃ (s : State), s.ctlOn = true ∧ (s.seq.resting = some .holdProfile ∨ s.seq.resting = some .fallRun))
    ∧ (∃ (s : State) (n : Fin 64), s.ctlOn = true ∧ (s.slot n).st = 5 ∧ (s.slot n).rise = 0 ∧ (s.slot n).fault = false)
    ∧ (∃ (s : State) (n : Fin 64), s.ctlOn = true ∧ (s.slotCfg n).cls = 2 ∧ (s.slot n).st = 5 ∧ (s.slot n).rise = 0 ∧ (s.slot n).mask = false ∧ (s.slot n).warn = false)
    ∧ (∃ (s : State), s.ctlOn = true ∧ s.seq.drv = false)
    ∧ (∃ (s : State), s.seq.drv = true) :=
  ⟨⟨(SLT .rise { st := 4, rise := 1 } { cls := 1, tOut := 1 } { up := 10 }), 63, by decide +kernel⟩,
   ⟨(SLT .ready { st := 5, rise := 7 } { cls := 1 } {  }), 63, by decide +kernel⟩,
   ⟨(SLT .rise { st := 5, rise := 1 } { cls := 1 } {  }), 63, by decide +kernel⟩,
   ⟨(SLT .rise {  } { cls := 1 } { resting := some .attempt }), by decide +kernel⟩,
   ⟨(SLT .rise {  } { cls := 1 } { sledRest := tall 4 true }), 3, by decide +kernel⟩,
   ⟨(SLT .fall {  } { cls := 1 } { resting := some .fallRun }), by decide +kernel⟩,
   ⟨(SLT .ready { st := 5 } { cls := 1 } {  }), 63, by decide +kernel⟩,
   ⟨(SLT .ready { st := 5 } { cls := 2 } {  }), 63, by decide +kernel⟩,
   ⟨S .ready, by decide +kernel⟩,
   ⟨(SLT .latched {  } {  } { drv := true }), by decide +kernel⟩⟩

theorem test_hyps_SequencerHostCommands :
    (∃ (s : State), PortFree s)
    ∧ (∃ (s : State) (n : Fin 64), PortFree s ∧ s.top.state = .service ∧ (∀ d ∈ s.seq.downs, d.kind ≠ .service) ∧ (s.slot n).svcDown = true ∧ (s.slotCfg n).role ∉ [3, 4] ∧ s.en n = false)
    ∧ (∃ (s : State) (d : Down), PortFree s ∧ s.top.state = .service ∧ d ∈ s.seq.downs ∧ d.kind = .service)
    ∧ (∃ (s : State) (w : Word), PortFree s ∧ s.top.state ≠ .service ∧ w.getLsbD 4 = false)
    ∧ (∃ (s : State) (n : Fin 64), PortFree s ∧ s.top.state = .service ∧ (s.slotCfg n).cls ≠ 0 ∧ (s.slotCfg n).pmb ≠ 0x7F ∧ s.im.core.pmbSpeed = 2 ∧ ((∀ m : Fin 64, m ≠ n → (s.slotCfg m).pmb ≠ 0x7F → s.sameDevice (s.slotCfg m).pmb (s.slotCfg n).pmb = true → margined (s.slot m) = false)))
    ∧ (∃ (s : State), PortFree s ∧ s.top.state ≠ .service)
    ∧ (∃ (s : State) (n : Fin 64), s.ctlOn = true ∧ s.pmbRuns = false)
    ∧ (∃ (s : State) (n : Fin 64), s.ctlOn = true ∧ s.pmbRuns = true ∧ (s.slot n).cancel = false ∧ (s.slot n).mask = true ∧ (s.slot n).ack = false)
    ∧ (∃ (s : State) (n : Fin 64) (x : PmbTx), s.ctlOn = true ∧ s.pmbRuns = true ∧ (s.slot n).cancel = false ∧ (s.slot n).mask = true ∧ (s.slot n).ack = false ∧ s.rp.tx.find? (fun t => t.slot == some n.val && t.cmd == 0x01) = some x)
    ∧ (∃ (s : State) (n : Fin 64), s.ctlOn = true ∧ s.pmbRuns = true ∧ (s.slot n).cancel = true ∧ (s.slot n).tries ≠ 0)
    ∧ (∃ (s : State) (n : Fin 64), s.ctlOn = true ∧ s.pmbRuns = true ∧ (s.slot n).cancel = true ∧ (s.slot n).tries = 0)
    ∧ (∃ (s : State) (n : Fin 64), s.ctlOn = true ∧ (s.slot n).ack = true ∧ (s.slot n).cancel = false) :=
  ⟨⟨S .ready, (by unfold PortFree; decide +kernel)⟩,
   ⟨(SLT .service { svcDown := true } { cls := 1 } {  }), 63, (by unfold PortFree; decide +kernel), by decide +kernel⟩,
   ⟨(SLT .service {  } {  } { downs := [{ kind := .service, set := 0 }] }), { kind := .service, set := 0 }, (by unfold PortFree; decide +kernel), by decide +kernel⟩,
   ⟨S .ready, 0x20, (by unfold PortFree; decide +kernel), by decide +kernel⟩,
   ⟨mgnS, 63, (by unfold PortFree; decide +kernel), by decide +kernel⟩,
   ⟨S .ready, (by unfold PortFree; decide +kernel), by decide +kernel⟩,
   ⟨((S .ready).mdFlt (fun _ => { blocks := tall 16 { held := true } })), 63, by decide +kernel⟩,
   ⟨(SLT .ready { mask := true } { cls := 1 } {  }), 63, by decide +kernel⟩,
   ⟨{ (SLT .ready { mask := true } { cls := 1 } {  }) with rp := { tx := [{ dev := 0, cmd := 1, slot := some 63 }] } }, 63, { dev := 0, cmd := 1, slot := some 63 }, by decide +kernel⟩,
   ⟨(SLT .ready { cancel := true, tries := 2 } { cls := 1 } {  }), 63, by decide +kernel⟩,
   ⟨(SLT .ready { cancel := true, tries := 0 } { cls := 1 } {  }), 63, by decide +kernel⟩,
   ⟨(SLT .ready { ack := true } { cls := 1 } {  }), 63, by decide +kernel⟩⟩

theorem test_hyps_PairTokenAndLoss :
    (∃ (s : State), s.ctlOn = true ∧ s.paired = true)
    ∧ (∃ (s : State), s.ctlOn = true ∧ s.pair.standby = true ∧ s.pair.sampling = true)
    ∧ (∃ (s : State), s.ctlOn = true ∧ s.pair.standby = true ∧ s.pair.sampling = true)
    ∧ (∃ (s : State), s.ctlOn = true ∧ s.pair.occ ≠ .none ∧ s.pair.drv = false)
    ∧ (∃ (s : State), s.ctlOn = true)
    ∧ (∃ (s : State), s.ctlOn = true)
    ∧ (∃ (s : State), s.ctlOn = true) :=
  ⟨⟨P .ready, by decide +kernel⟩,
   ⟨((P .ready).mdPair (fun _ => { standby := true, sampling := true })), by decide +kernel⟩,
   ⟨((P .ready).mdPair (fun _ => { standby := true, sampling := true })), by decide +kernel⟩,
   ⟨((P .ready).mdPair (fun _ => { occ := .cutOff })), by decide +kernel⟩,
   ⟨S .ready, by decide +kernel⟩,
   ⟨S .ready, by decide +kernel⟩,
   ⟨S .ready, by decide +kernel⟩⟩

theorem test_hyps_TokenClaims :
    (∃ (s : State), (s.pair.ready = false ∨ s.pair.drv = true))
    ∧ (∃ (s : State), s.ctlOn = true ∧ s.pair.ready = true ∧ s.pair.drv = false ∧ s.pair.occ = .boot)
    ∧ (∃ (s : State), s.ctlOn = true ∧ s.pair.ready = true ∧ s.pair.drv = false ∧ s.pair.occ ∈ [.loss, .yield, .cutOff] ∧ s.pair.armed = true ∧ s.pair.frame.isSome = true)
    ∧ (∃ (s : State), s.ctlOn = true ∧ s.pair.ready = true ∧ s.pair.drv = false ∧ s.pair.occ ∈ [.loss, .yield, .cutOff] ∧ (s.pair.armed = false ∨ s.pair.frame = none))
    ∧ (∃ (s : State), s.ctlOn = true ∧ s.pair.ready = true ∧ s.pair.drv = false ∧ s.pair.occ = .planned ∧ s.pair.frame.isSome = true)
    ∧ (∃ (s : State), s.ctlOn = true ∧ s.saving = true ∧ s.save.settle = true) :=
  ⟨⟨S .ready, by decide +kernel⟩,
   ⟨((P .boot).mdPair (fun _ => { ready := true, occ := .boot })), by decide +kernel⟩,
   ⟨((P .ready).mdPair (fun _ => { ready := true, occ := .cutOff, armed := true, frame := some {} })), by decide +kernel⟩,
   ⟨((P .ready).mdPair (fun _ => { ready := true, occ := .cutOff, armed := true })), by decide +kernel⟩,
   ⟨((P .ready).mdPair (fun _ => { ready := true, occ := .planned, frame := some {} })), by decide +kernel⟩,
   ⟨((S .save).mdSave (fun v => { v with settle := true })), by decide +kernel⟩⟩

theorem test_hyps_PairMessages :
    (∃ (s : State) (h : Hdr), PairInSeq h s)
    ∧ (∃ (s : State), s.pairMsgs = true ∧ s.pair.chan.wait = [] ∧ s.pair.chan.buf.length < 1024)
    ∧ (∃ (s : State) (h : Hdr), PairInSeq h s ∧ s.pair.drv = false ∧ s.pair.standby = true ∧ (¬(s.top.state = .boot ∧ s.pair.occ = .boot)))
    ∧ (∃ (s : State) (h : Hdr) (f : Frame), PairInSeq h s ∧ s.pair.drv = false ∧ s.pair.standby = true ∧ (¬(s.top.state = .boot ∧ s.pair.occ = .boot)) ∧ f.fseq = (s.pair.fseq + 1) % 2 ^ 32 ∧ f.final = false)
    ∧ (∃ (s : State) (h : Hdr) (f : Frame), PairInSeq h s ∧ s.pair.drv = false ∧ s.pair.standby = true ∧ (¬(s.top.state = .boot ∧ s.pair.occ = .boot)) ∧ f.fseq = (s.pair.fseq + 1) % 2 ^ 32 ∧ f.final = true)
    ∧ (∃ (s : State) (h : Hdr) (f : Frame), PairInSeq h s ∧ s.pair.drv = false ∧ s.pair.standby = true ∧ (¬(s.top.state = .boot ∧ s.pair.occ = .boot)) ∧ s.pair.given = false ∧ f.fseq ≠ (s.pair.fseq + 1) % 2 ^ 32 ∧ ((∀ g, f.base = some g → g.idx ≠ 0)))
    ∧ (∃ (s : State) (h : Hdr), PairInSeq h s ∧ s.top.state = .boot ∧ s.pair.occ = .boot ∧ s.pair.drv = false ∧ s.pair.standby = false)
    ∧ (∃ (s : State), s.paired = true ∧ s.pair.drv = true ∧ s.pair.peer = true ∧ s.pair.hand = 0 ∧ s.pair.plOpen = true)
    ∧ (∃ (s : State), (s.pair.drv = false ∨ s.pair.peer = false ∨ s.paired = false))
    ∧ (∃ (s : State) (h : Hdr) (fseq : BitVec 32) (x : SentF), PairInSeq h s ∧ s.pair.drv = true ∧ s.pair.sent.find? (fun x => x.fseq == fseq.toNat) = some x ∧ x.acked = false ∧ x.armed = true)
    ∧ (∃ (s : State) (h : Hdr) (fseq : BitVec 32) (x : SentF), PairInSeq h s ∧ s.pair.drv = true ∧ s.pair.sent.find? (fun x => x.fseq == fseq.toNat) = some x ∧ x.acked = false ∧ x.armed = false ∧ s.pair.win = none)
    ∧ (∃ (s : State) (h : Hdr), PairInSeq h s ∧ s.pair.drv = true)
    ∧ (∃ (s : State) (h : Hdr), PairInSeq h s ∧ s.pair.drv = false ∧ s.pair.standby = true)
    ∧ (∃ (s : State), s.ctlOn = true ∧ s.pair.drv = true ∧ s.pair.hand = 1 ∧ s.ringsIdle = true ∧ s.pair.plOpen = true)
    ∧ (∃ (s : State) (h : Hdr) (fseq : BitVec 32), PairInSeq h s ∧ s.pair.drv = true ∧ s.pair.hand = 2 ∧ fseq.toNat = s.pair.fseq)
    ∧ (∃ (s : State), s.ctlOn = true ∧ s.pair.drv = true ∧ s.pair.hand = 2) :=
  ⟨⟨P .ready, { seq := 0 }, (by unfold PairInSeq; decide +kernel)⟩,
   ⟨((P .ready).mdPair (fun _ => { drv := true, plOpen := true })), by decide +kernel⟩,
   ⟨((P .ready).mdPair (fun _ => { standby := true })), { seq := 0 }, (by unfold PairInSeq; decide +kernel), by decide +kernel⟩,
   ⟨((P .ready).mdPair (fun _ => { standby := true, fseq := 0xFFFFFFFF })), { seq := 0 }, { fseq := 0 }, (by unfold PairInSeq; decide +kernel), by decide +kernel⟩,
   ⟨((P .ready).mdPair (fun _ => { standby := true, fseq := 0xFFFFFFFF })), { seq := 0 }, { fseq := 0, final := true }, (by unfold PairInSeq; decide +kernel), by decide +kernel⟩,
   ⟨((P .ready).mdPair (fun _ => { standby := true })), { seq := 0 }, { fseq := 5 }, (by unfold PairInSeq; decide +kernel), by decide +kernel⟩,
   ⟨((P .boot).mdPair (fun _ => { occ := .boot })), { seq := 0 }, (by unfold PairInSeq; decide +kernel), by decide +kernel⟩,
   ⟨((P .ready).mdPair (fun _ => { drv := true, peer := true, plOpen := true })), by decide +kernel⟩,
   ⟨S .ready, by decide +kernel⟩,
   ⟨((P .ready).mdPair (fun _ => { drv := true, complete := true, sent := [{ fseq := 5, armed := true, acked := false, win := {} }] })), { seq := 0 }, 5, { fseq := 5, armed := true, acked := false, win := {} }, (by unfold PairInSeq; decide +kernel), by decide +kernel⟩,
   ⟨((P .ready).mdPair (fun _ => { drv := true, sent := [{ fseq := 5, armed := false, acked := false, win := {} }] })), { seq := 0 }, 5, { fseq := 5, armed := false, acked := false, win := {} }, (by unfold PairInSeq; decide +kernel), by decide +kernel⟩,
   ⟨P .ready, { seq := 0 }, (by unfold PairInSeq; decide +kernel), by decide +kernel⟩,
   ⟨((P .ready).mdPair (fun _ => { standby := true })), { seq := 0 }, (by unfold PairInSeq; decide +kernel), by decide +kernel⟩,
   ⟨((P .ready).mdPair (fun _ => { drv := true, hand := 1, plOpen := true })), by decide +kernel⟩,
   ⟨((P .ready).mdPair (fun _ => { drv := true, hand := 2, fseq := 5 })), { seq := 0 }, 5, (by unfold PairInSeq; decide +kernel), by decide +kernel⟩,
   ⟨((P .ready).mdPair (fun _ => { drv := true, hand := 2 })), by decide +kernel⟩⟩

theorem test_hyps_KeyExchangeAndDrill :
    (∃ (s : State) (w : Word), PortFree s ∧ w.getLsbD 0 = true ∧ s.pair.peerId.isSome = true ∧ s.pair.kxSt ≠ 1 ∧ s.pair.drv = true ∧ s.pair.armed = true ∧ s.wrapOk = false ∧ s.inState [.ready, .service] = true ∧ s.pair.plOpen = true)
    ∧ (∃ (s : State) (w : Word), PortFree s ∧ w.getLsbD 0 = true ∧ (s.pair.kxSt = 1 ∨ s.pair.drv = false ∨ s.pair.armed = false ∨ s.wrapOk = true ∨ s.pair.peerId = none))
    ∧ (∃ (s : State) (w : Word), PortFree s ∧ w.getLsbD 0 = false)
    ∧ (∃ (s : State) (h : Hdr), PairInSeq h s ∧ s.pair.drv = false ∧ s.pair.standby = true ∧ s.inState [.ready, .service] = true)
    ∧ (∃ (s : State) (h : Hdr), PairInSeq h s ∧ s.pair.drv = true ∧ s.kxRuns = true)
    ∧ (∃ (s : State) (h : Hdr), PairInSeq h s ∧ s.pair.drv = false ∧ s.kxRuns = true)
    ∧ (∃ (s : State) (h : Hdr), PairInSeq h s ∧ s.pair.drv = true ∧ s.kxRuns = true)
    ∧ (∃ (s : State) (c : Instr) (h : Hdr) (key : List Byte) (pub : List Byte) (sig : List Byte) (text : List Byte) (wraps : List Byte), c ∈ [Instr.kxReply h key pub sig, .kxKeys h text, .kxWraps h wraps] ∧ PairInSeq h s ∧ s.pair.drv = decide (c ≠ .kxKeys h text) ∧ s.pair.kxSt = 1 ∧ s.kxRuns = false ∧ s.pair.kxBlock = none)
    ∧ (∃ (s : State), PortFree s ∧ s.standbyOk 0x21 = true ∧ s.handConds = true ∧ (s.pair.legs = 0 ∨ 3 ≤ s.pair.legs))
    ∧ (∃ (s : State), PortFree s ∧ s.handConds = false)
    ∧ (∃ (s : State), s.ctlOn = true ∧ s.pair.legs = 1 ∧ s.pair.drillLeft = 0 ∧ (s.pair.drillSave = 0 ∨ s.pair.drillSave = 3) ∧ s.pair.drv = true) :=
  ⟨⟨((P .service).mdPair (fun _ => { drv := true, armed := true, plOpen := true, peerId := some 1 })), 1, (by unfold PortFree; decide +kernel), by decide +kernel⟩,
   ⟨((P .ready).mdPair (fun _ => { peerId := some 1 })), 1, (by unfold PortFree; decide +kernel), by decide +kernel⟩,
   ⟨S .ready, 0, (by unfold PortFree; decide +kernel), by decide +kernel⟩,
   ⟨((P .ready).mdPair (fun _ => { standby := true })), { seq := 0 }, (by unfold PairInSeq; decide +kernel), by decide +kernel⟩,
   ⟨((P .ready).mdPair (fun _ => { drv := true, kxSt := 1 })), { seq := 0 }, (by unfold PairInSeq; decide +kernel), by decide +kernel⟩,
   ⟨((P .ready).mdPair (fun _ => { kxSt := 1 })), { seq := 0 }, (by unfold PairInSeq; decide +kernel), by decide +kernel⟩,
   ⟨((P .ready).mdPair (fun _ => { drv := true, kxSt := 1 })), { seq := 0 }, (by unfold PairInSeq; decide +kernel), by decide +kernel⟩,
   ⟨((P .rise).mdPair (fun _ => { drv := true, kxSt := 1 })), .kxReply { seq := 0 } [] [] [], { seq := 0 }, [], [], [], [], [], by decide +kernel, (by unfold PairInSeq; decide +kernel), by decide +kernel⟩,
   ⟨drillS, (by unfold PortFree; decide +kernel), by decide +kernel⟩,
   ⟨S .ready, (by unfold PortFree; decide +kernel), by decide +kernel⟩,
   ⟨((P .ready).mdPair (fun _ => { drv := true, legs := 1, drillSave := 3 })), by decide +kernel⟩⟩

theorem test_hyps_FabricPortsAndRoutes :
    (∃ (s : State) (i : Fin 4), s.fabRuns = true ∧ (s.fport i).st = 1)
    ∧ (∃ (s : State) (i : Fin 4), s.fabRuns = true ∧ ((s.fport i).st = 1 ∨ (s.fport i).st = 2) ∧ s.fabOn i = true)
    ∧ (∃ (s : State) (i : Fin 4), s.fabRuns = true ∧ (s.fport i).st = 4 ∧ s.fabOn i = true)
    ∧ (∃ (s : State) (c : Instr) (i : Fin 4), c ∈ [Instr.fabricLockLost i, .fabricPortSilent i] ∧ s.fabRuns = true ∧ ((s.fport i).st = 2 ∨ (s.fport i).st = 3) ∧ s.fabOn i = true)
    ∧ (∃ (s : State), s.fabRuns = true)
    ∧ (∃ (s : State) (i : Fin 4) (h : Hdr), FabInSeq i h s ∧ (s.fport i).st = 2)
    ∧ (∃ (s : State) (i : Fin 4) (k : Fin 4) (h : Hdr) (m : FMsg), FabInSeq i h s ∧ m.dst ≠ s.nodeAddr ∧ m.dst ≠ 0xFFF ∧ s.fab.isolated = false ∧ 1 < m.ttl ∧ s.flowPort m.src m.dst = some k.val ∧ ((s.fport k).st = 2 ∨ (s.fport k).st = 3))
    ∧ (∃ (s : State) (i : Fin 4) (h : Hdr) (m : FMsg), FabInSeq i h s ∧ (m.dst = s.nodeAddr ∨ m.dst = 0xFFF ∨ m.ttl ≤ 1))
    ∧ (∃ (s : State), s.fabRuns = true ∧ s.nodeStatic = false ∧ (s.aon.fabAddr = 0 ∨ s.fab.loser = true) ∧ ((∃ a, 1 ≤ a ∧ a ≤ 0xFFE ∧ ∀ e ∈ s.fab.db, e.addr = a → e.id = Config.identity)))
    ∧ (∃ (s : State) (i : Fin 4) (h : Hdr) (m : Lsa), FabInSeq i h s ∧ 1 ≤ m.addr ∧ m.addr ≤ 0xFFE ∧ (m.id = Config.identity ∨ m.addr ≠ s.nodeAddr) ∧ m.age ≠ 255 ∧ ((∀ e ∈ s.fab.db, e.addr = m.addr → e.id ≠ m.id)) ∧ s.fab.db.length < 4096)
    ∧ (∃ (s : State) (i : Fin 4) (h : Hdr) (m : Lsa) (e : Lsa), FabInSeq i h s ∧ s.fab.isolated = false ∧ 1 ≤ m.addr ∧ m.addr ≤ 0xFFE ∧ m.id ≠ Config.identity ∧ m.addr ≠ s.nodeAddr ∧ s.fab.db.find? (fun e => e.addr == m.addr && e.id == m.id) = some e ∧ m.age ≠ 255 ∧ aseqNewer m.aseq e.aseq = false)
    ∧ (∃ (s : State), s.fabRuns = true ∧ s.nodeAddr ≠ 0 ∧ s.fab.isolated = false ∧ s.fab.loser = false)
    ∧ (∃ (s : State) (a : BitVec 12) (e : Lsa), s.fabRuns = true ∧ e ∈ s.fab.db ∧ e.addr = a.toNat ∧ 40 ≤ e.age)
    ∧ (∃ (s : State), s.fabRuns = true ∧ s.nodeAddr ≠ 0 ∧ s.fab.isolated = false) :=
  ⟨⟨(FB .ready { st := 1 } {  }), 3, by decide +kernel⟩,
   ⟨(FB .ready { st := 2 } {  }), 3, by decide +kernel⟩,
   ⟨(FB .ready { st := 4 } {  }), 3, by decide +kernel⟩,
   ⟨(FB .ready { st := 3 } {  }), .fabricPortSilent 3, 3, by decide +kernel⟩,
   ⟨S .ready, by decide +kernel⟩,
   ⟨(FB .ready { st := 2 } {  }), 3, { seq := 0 }, (by unfold FabInSeq; decide +kernel), by decide +kernel⟩,
   ⟨(FB .ready { st := 3 } { routes := [(7, 8)] }), 3, 3, { seq := 0 }, { dst := 7, src := 1, ttl := 2, prio := 0, body := .tsyncReq }, (by unfold FabInSeq; decide +kernel), by decide +kernel⟩,
   ⟨(FB .ready { st := 3 } {  }), 3, { seq := 0 }, { dst := 7, src := 1, ttl := 1, prio := 0, body := .tsyncReq }, (by unfold FabInSeq; decide +kernel), by decide +kernel⟩,
   ⟨S .ready, by decide +kernel, by decide +kernel, by decide +kernel, ⟨0xFFE, by decide, by decide, by decide +kernel⟩⟩,
   ⟨(FB .ready { st := 3 } {  }), 3, { seq := 0 }, { id := Config.identity + 1, addr := 0xFFE, static := true, pps := false, tpri := 0, age := 254, aseq := 0, links := [] }, (by unfold FabInSeq; decide +kernel), by decide +kernel, by decide +kernel, .inr (by decide +kernel), by decide +kernel⟩,
   ⟨(FB .ready { st := 3 } { db := [{ id := Config.identity + 1, addr := 0xFFE, static := true, pps := false, tpri := 0, age := 0, aseq := 0, links := [] }] }), 3, { seq := 0 }, { id := Config.identity + 1, addr := 0xFFE, static := true, pps := false, tpri := 0, age := 254, aseq := 0, links := [] }, { id := Config.identity + 1, addr := 0xFFE, static := true, pps := false, tpri := 0, age := 0, aseq := 0, links := [] }, (by unfold FabInSeq; decide +kernel), by decide +kernel, by decide +kernel, by decide +kernel, ne_identity, by decide +kernel, (List.find?_cons_of_pos (by simp)), by decide +kernel⟩,
   ⟨(FB .ready {  } {  }), by decide +kernel⟩,
   ⟨(FB .ready {  } { db := [{ id := 1, addr := 5, static := true, pps := false, tpri := 0, age := 40, aseq := 0, links := [] }] }), 5, { id := 1, addr := 5, static := true, pps := false, tpri := 0, age := 40, aseq := 0, links := [] }, by decide +kernel⟩,
   ⟨(FB .ready {  } {  }), by decide +kernel⟩⟩

theorem test_hyps_FabricTimeAndRequests :
    (∃ (s : State) (i : Fin 4), s.fabRuns = true ∧ s.nodeAddr ≠ 0 ∧ s.isRoot = false ∧ s.fab.root ≠ 0 ∧ s.fab.parent = i.val ∧ ((s.fport i).st = 2 ∨ (s.fport i).st = 3))
    ∧ (∃ (s : State) (i : Fin 4) (h : SyncHdr), FabInSeq i h.toHdr s ∧ h.replayed = true)
    ∧ (∃ (s : State) (i : Fin 4) (h : SyncHdr), FabInSeq i h.toHdr s ∧ h.replayed = false)
    ∧ (∃ (s : State) (i : Fin 4) (h : Hdr) (t1 : Nat), FabInSeq i h s ∧ s.fab.t1 = some t1 ∧ s.fab.parent = i.val ∧ s.isRoot = false)
    ∧ (∃ (s : State) (i : Fin 4) (h : Hdr), FabInSeq i h s)
    ∧ (∃ (s : State), s.fabRuns = true ∧ s.fab.cfg.ppsIn = true ∧ s.isRoot = true)
    ∧ (∃ (s : State), s.fabRuns = true ∧ s.fab.cfg.ppsIn = true)
    ∧ (∃ (s : State), s.ctlOn = true ∧ s.rpCause 0x0B0200 true = 0 ∧ s.fab.rqGo = false)
    ∧ (∃ (s : State), s.ctlOn = true ∧ s.rpCause 0x0B0200 true = 0 ∧ s.fab.rqGo = false)
    ∧ (∃ (s : State) (i : Fin 4) (k : Fin 4) (h : Hdr) (src : BitVec 12), FabInSeq i h s ∧ s.flowPort s.nodeAddr src.toNat = some k.val ∧ ((s.fport k).st = 2 ∨ (s.fport k).st = 3) ∧ s.ctlOn = true)
    ∧ (∃ (s : State) (i : Fin 4) (k : Fin 4) (h : Hdr) (src : BitVec 12), FabInSeq i h s ∧ s.flowPort s.nodeAddr src.toNat = some k.val ∧ ((s.fport k).st = 2 ∨ (s.fport k).st = 3) ∧ s.ctlOn = true)
    ∧ (∃ (s : State) (c : Instr) (i : Fin 4) (h : Hdr) (src : BitVec 12) (ofs : BitVec 22) (len : BitVec 11), c ∈ [Instr.telReq i h src, .lreadReq i h src ofs len] ∧ FabInSeq i h s ∧ s.ctlOn = false)
    ∧ (∃ (s : State) (i : Fin 4) (h : Hdr) (src : BitVec 12), FabInSeq i h s ∧ s.fab.rqGo = true ∧ s.fab.rqAs = 1 ∧ s.fab.rqTo = src.toNat)
    ∧ (∃ (s : State) (i : Fin 4) (h : Hdr) (src : BitVec 12), FabInSeq i h s ∧ s.fab.rqGo = true ∧ s.fab.rqAs = 2 ∧ s.fab.rqTo = src.toNat)
    ∧ (∃ (s : State) (i : Fin 4) (h : Hdr) (src : BitVec 12), FabInSeq i h s ∧ s.fab.rqGo = true ∧ s.fab.rqTo = src.toNat)
    ∧ (∃ (s : State), s.fabRuns = true ∧ s.fab.rqGo = true) :=
  ⟨⟨(FB .ready { st := 3 } { root := 1, parent := 3 }), 3, by decide +kernel⟩,
   ⟨(FB .ready { st := 2 } {  }), 3, { seq := 0, replayed := true }, (by unfold FabInSeq; decide +kernel), by decide +kernel⟩,
   ⟨(FB .ready { st := 2 } {  }), 3, { seq := 0 }, (by unfold FabInSeq; decide +kernel), by decide +kernel⟩,
   ⟨(FB .ready { st := 3 } { t1 := some 0, parent := 3 }), 3, { seq := 0 }, 0, (by unfold FabInSeq; decide +kernel), by decide +kernel⟩,
   ⟨(FB .ready { st := 2 } {  }), 3, { seq := 0 }, (by unfold FabInSeq; decide +kernel)⟩,
   ⟨((R .ready).mdFab (fun v => { v with cfg := { nodeAddr := 9, ppsIn := true }, root := 9 })), by decide +kernel⟩,
   ⟨((R .ready).mdFab (fun v => { v with cfg := { ppsIn := true } })), by decide +kernel⟩,
   ⟨(FB .ready {  } {  }), by decide +kernel⟩,
   ⟨(FB .ready {  } {  }), by decide +kernel⟩,
   ⟨(FB .ready { st := 3 } { routes := [(7, 8)] }), 3, 3, { seq := 0 }, 7, (by unfold FabInSeq; decide +kernel), by decide +kernel⟩,
   ⟨(FB .ready { st := 2 } { routes := [(7, 8)] }), 3, 3, { seq := 0 }, 7, (by unfold FabInSeq; decide +kernel), by decide +kernel⟩,
   ⟨(FB .ready { st := 3 } {  }).mdPins (fun p => { p with mrLow := true }), .telReq 3 { seq := 0 } 7, 3, { seq := 0 }, 7, 0, 0, by decide +kernel, (by unfold FabInSeq; decide +kernel), by decide +kernel⟩,
   ⟨(FB .ready { st := 3 } { rqGo := true, rqAs := 1, rqTo := 7 }), 3, { seq := 0 }, 7, (by unfold FabInSeq; decide +kernel), by decide +kernel⟩,
   ⟨(FB .ready { st := 3 } { rqGo := true, rqAs := 2, rqTo := 7 }), 3, { seq := 0 }, 7, (by unfold FabInSeq; decide +kernel), by decide +kernel⟩,
   ⟨(FB .ready { st := 3 } { rqGo := true, rqTo := 7 }), 3, { seq := 0 }, 7, (by unfold FabInSeq; decide +kernel), by decide +kernel⟩,
   ⟨(FB .ready {  } { rqGo := true }), by decide +kernel⟩⟩

theorem test_hyps_TableRounds :
    (∃ (s : State), s.fabRuns = true)
    ∧ (∃ (s : State) (j : Nat) (a : Nat) (i : Fin 4), s.fabRuns = true ∧ s.tableActs = true ∧ j < s.fab.tbl.m ∧ j ≠ s.ownSlot ∧ (a = (s.member j).addr ∨ a = (s.member j).addr2) ∧ a ≠ 0 ∧ s.flowPort s.nodeAddr a = some i.val ∧ ((s.fport i).st = 2 ∨ (s.fport i).st = 3))
    ∧ (∃ (s : State) (i : Fin 4) (h : Hdr) (m : TRep), FabInSeq i h s ∧ s.inTable = true ∧ s.fab.isolated = false ∧ m.tableId = s.fab.tbl.tableId ∧ m.slot < s.fab.tbl.m ∧ (∀ r ∈ s.fab.reps, r.slot ≠ m.slot))
    ∧ (∃ (s : State), s.fabRuns = true ∧ s.tableActs = true ∧ s.fab.duty = true)
    ∧ (∃ (s : State), (s.tableActs = false ∨ s.fab.duty = false))
    ∧ (∃ (s : State) (i : Fin 4) (h : Hdr) (g : TGrant), FabInSeq i h s ∧ s.inTable = true ∧ s.fab.isolated = false ∧ g.tableId = s.fab.tbl.tableId ∧ g.crc = s.fab.tbl.cfgCrc)
    ∧ (∃ (s : State) (g : TGrant), s.ctlOn = true ∧ s.inTable = true ∧ s.fab.grant = some g ∧ (((g.round + 3) * 100000000 : Nat) : Int) < s.fab.off + s.clk.turnStart + 1000000) :=
  ⟨⟨S .ready, by decide +kernel⟩,
   ⟨tableS, 1, 7, 3, by decide +kernel⟩,
   ⟨tableS, 3, { seq := 0 }, { tableId := 1, slot := 1 }, (by unfold FabInSeq; decide +kernel), by decide +kernel⟩,
   ⟨tableS, by decide +kernel⟩,
   ⟨S .ready, by decide +kernel⟩,
   ⟨tableS, 3, { seq := 0 }, { tableId := 1 }, (by unfold FabInSeq; decide +kernel), by decide +kernel⟩,
   ⟨{ tableS with clk := { turnStart := 299000001 }, fab := { tableS.fab with grant := some {} } }, {}, by decide +kernel⟩⟩

theorem test_hyps_SharesStayWithinTheTable :
    ∃ (s : State) (live : List TRep), (let old := fun (g : List (Option Nat)) i => (g.getD i none).getD 0; sumN s.fab.tbl.m (fun i => max (s.member i).min (max (old s.fab.g1 i) (old s.fab.g2 i))) ≤ 60000) :=
  ⟨((R .ready).mdFab (fun v => { v with tbl := { m := 1, members := [{ min := 60000 }] } })), [], by decide +kernel⟩

theorem test_hyps_FaultRegistration :
    (∃ (s : State) (src : BitVec 8) (sub : BitVec 16) (x : SubSrc), s.ctlOn = true ∧ ((sub.toNat < 0xFFFD ∨ ∀ y ∈ s.flt.subs, y.src = src.toNat → y.reg = false)) ∧ s.flt.subs.find? (fun x => x.src == src.toNat && x.sub == sub.toNat && !x.reg) = some x ∧ (s.srcCfg src.toNat).en = true ∧ s.masked src.toNat = false ∧ (s.srcCfg src.toNat).act < 4 ∧ (s.srcCfg src.toNat).cls < 4)
    ∧ (∃ (s : State) (src : BitVec 8) (sub : BitVec 16), s.ctlOn = true ∧ 0xFFFD ≤ sub.toNat ∧ src ≠ 155 ∧ (∃ y ∈ s.flt.subs, y.src = src.toNat ∧ y.sub ≠ sub.toNat ∧ y.reg = true))
    ∧ (∃ (s : State) (src : BitVec 8) (sub : BitVec 16), s.ctlOn = true ∧ src ≠ 155 ∧ ((∀ x ∈ s.flt.subs, x.src = src.toNat → x.sub = sub.toNat → x.reg = true)))
    ∧ (∃ (s : State) (src : BitVec 8) (sub : BitVec 16) (x : SubSrc), s.ctlOn = true ∧ ((sub.toNat < 0xFFFD ∨ ∀ y ∈ s.flt.subs, y.src = src.toNat → y.reg = false)) ∧ s.flt.subs.find? (fun x => x.src == src.toNat && x.sub == sub.toNat && !x.reg) = some x ∧ (s.srcCfg src.toNat).en = false)
    ∧ (∃ (s : State) (src : BitVec 8) (sub : BitVec 16) (x : SubSrc), s.ctlOn = true ∧ ((sub.toNat < 0xFFFD ∨ ∀ y ∈ s.flt.subs, y.src = src.toNat → y.reg = false)) ∧ s.flt.subs.find? (fun x => x.src == src.toNat && x.sub == sub.toNat && !x.reg) = some x ∧ (s.srcCfg src.toNat).en = true ∧ s.masked src.toNat = true)
    ∧ (∃ (s : State) (src : BitVec 8) (sub : BitVec 16) (x : SubSrc), s.ctlOn = true ∧ ((sub.toNat < 0xFFFD ∨ ∀ y ∈ s.flt.subs, y.src = src.toNat → y.reg = false)) ∧ s.flt.subs.find? (fun x => x.src == src.toNat && x.sub == sub.toNat && !x.reg) = some x ∧ (s.srcCfg src.toNat).en = true ∧ s.masked src.toNat = false ∧ (s.srcCfg src.toNat).act = 32 ∧ s.byForce src.toNat sub.toNat = false ∧ s.inState [.ready, .ride, .service, .ret] = true ∧ (s.paired = false ∨ s.pair.drv = true))
    ∧ (∃ (s : State) (src : BitVec 8) (sub : BitVec 16) (x : SubSrc), s.ctlOn = true ∧ ((sub.toNat < 0xFFFD ∨ ∀ y ∈ s.flt.subs, y.src = src.toNat → y.reg = false)) ∧ s.flt.subs.find? (fun x => x.src == src.toNat && x.sub == sub.toNat && !x.reg) = some x ∧ (s.srcCfg src.toNat).en = true ∧ s.masked src.toNat = false ∧ (s.srcCfg src.toNat).act = 8 ∧ (s.srcCfg src.toNat).block < 16 ∧ (s.srcCfg src.toNat).shadow < 16 ∧ s.saving = false ∧ (rd s.flt.blocks (s.srcCfg src.toNat).block).running = false ∧ (∀ k : Fin 16, (rd s.flt.sets k).isOpen = false))
    ∧ (∃ (s : State), s.ctlOn = true ∧ (∀ y ∈ s.flt.subs, y.src ≠ 155) ∧ s.pairHeld 155 = false ∧ (s.srcCfg 155).en = true ∧ s.masked 155 = false ∧ (s.srcCfg 155).act < 4 ∧ (s.srcCfg 155).cls < 4)
    ∧ (∃ (s : State) (src : BitVec 8) (l : List (Bool × Bool)), s.ctlOn = true ∧ 160 ≤ src.toNat ∧ src.toNat < 208 ∧ s.flt.force.getLsbD src.toNat = false ∧ s.flt.forcePb.getLsbD src.toNat = false ∧ (∀ y ∈ s.flt.subs, y.src ≠ src.toNat) ∧ (∀ x ∈ l, x.1 ≠ x.2 ∧ x.1 ≠ (s.srcCfg src.toNat).inv) ∧ rd s.flt.xfCnt (src.toNat - 160) + l.length < (s.srcCfg src.toNat).qual)
    ∧ (∃ (s : State) (src : BitVec 8) (x : Bool × Bool), s.ctlOn = true ∧ 160 ≤ src.toNat ∧ src.toNat < 208 ∧ s.flt.force.getLsbD src.toNat = false ∧ s.flt.forcePb.getLsbD src.toNat = false ∧ (∀ y ∈ s.flt.subs, y.src ≠ src.toNat) ∧ x.1 ≠ x.2 ∧ x.1 ≠ (s.srcCfg src.toNat).inv ∧ (s.srcCfg src.toNat).qual ≤ rd s.flt.xfCnt (src.toNat - 160) + 1 ∧ (s.srcCfg src.toNat).en = true ∧ s.masked src.toNat = false ∧ (s.srcCfg src.toNat).act < 4 ∧ (s.srcCfg src.toNat).cls < 4)
    ∧ (∃ (s : State) (src : BitVec 8) (x : Bool × Bool), s.ctlOn = true ∧ 160 ≤ src.toNat ∧ src.toNat < 208 ∧ s.flt.force.getLsbD src.toNat = false ∧ s.flt.forcePb.getLsbD src.toNat = false ∧ x.1 ≠ x.2 ∧ x.1 = (s.srcCfg src.toNat).inv)
    ∧ (∃ (s : State) (src : BitVec 8) (x : Bool × Bool), s.ctlOn = true ∧ 160 ≤ src.toNat ∧ src.toNat < 208 ∧ ((s.flt.force.getLsbD src.toNat = false ∧ x.1 = x.2) ∨ s.flt.forcePb.getLsbD src.toNat = true)) :=
  ⟨⟨(FLT .ready { en := true, act := 3, cls := 3 } { subs := [{ src := 100, sub := 3 }] }), 100, 3, { src := 100, sub := 3 }, by decide +kernel⟩,
   ⟨(FLT .ready {} { subs := [{ src := 100, sub := 3, reg := true }] }), 100, 0xFFFE, by decide +kernel⟩,
   ⟨S .ready, 100, 3, by decide +kernel⟩,
   ⟨(FLT .ready {  } { subs := [{ src := 100, sub := 3 }] }), 100, 3, { src := 100, sub := 3 }, by decide +kernel⟩,
   ⟨(FLT .ready { en := true } { subs := [{ src := 100, sub := 3 }], sets := tall 16 { isOpen := true, mask := 2 ^ 100 } }), 100, 3, { src := 100, sub := 3 }, by decide +kernel⟩,
   ⟨(FLT .ret { en := true, act := 32 } { subs := [{ src := 100, sub := 3 }] }), 100, 3, { src := 100, sub := 3 }, by decide +kernel⟩,
   ⟨(FLT .ready { en := true, act := 8, block := 15, shadow := 15 } { subs := [{ src := 100, sub := 3 }] }), 100, 3, { src := 100, sub := 3 }, by decide +kernel⟩,
   ⟨(FLT .ready { en := true, act := 3, cls := 3 } {}), by decide +kernel⟩,
   ⟨(FLT .ready { qual := 5 } {}), 207, [(true, false), (true, false)], by decide +kernel⟩,
   ⟨(FLT .ready { en := true, act := 3, cls := 3, qual := 1 } {}), 207, (true, false), by decide +kernel⟩,
   ⟨(FLT .ready {} {}), 207, (false, true), by decide +kernel⟩,
   ⟨(FLT .ready {} {}), 207, (true, true), by decide +kernel⟩⟩

theorem test_hyps_FaultCollectorCommands :
    (∃ (s : State), s.ctlOn = true)
    ∧ (∃ (s : State), s.ctlOn = true)
    ∧ (∃ (s : State), s.ctlOn = true)
    ∧ (∃ (s : State) (src : BitVec 8), s.ctlOn = true ∧ 136 ≤ src.toNat ∧ src.toNat < 150)
    ∧ (∃ (s : State) (b : Fin 16), s.ctlOn = true ∧ (rd s.flt.blocks b).held = true)
    ∧ (∃ (s : State) (b : Fin 16), s.ctlOn = true ∧ (rd s.flt.blocks b).running = true ∧ (rd s.flt.blocks b).held = false ∧ (rd s.flt.blocks b).set < 16)
    ∧ (∃ (s : State) (k : Fin 16), s.ctlOn = true ∧ (rd s.flt.sets k).isOpen = true ∧ (rd s.flt.sets k).ended = true ∧ ((∀ x ∈ s.flt.subs, (rd s.flt.sets k).mask.testBit x.src = false ∨ 256 ≤ x.src)))
    ∧ (∃ (s : State) (k : Fin 16) (i : Fin 256), s.ctlOn = true ∧ (rd s.flt.sets k).isOpen = true ∧ (rd s.flt.sets k).ended = true ∧ (rd s.flt.sets k).mask = 2 ^ i.val ∧ (∃ x ∈ s.flt.subs, x.src = i.val) ∧ ((∀ j : Fin 16, j ≠ k → (rd s.flt.sets j).isOpen = false)) ∧ (s.srcCfg i).en = true ∧ (s.srcCfg i).act < 4)
    ∧ (∃ (s : State) (c : Fin 4), s.ctlOn = true ∧ (rd s.flt.cls c).active = true ∧ ((∀ x ∈ s.flt.subs, x.cons = false → (s.srcCfg x.src).en = true → (s.srcCfg x.src).cls ≠ c.val)))
    ∧ (∃ (s : State), PortFree s)
    ∧ (∃ (s : State) (c : Fin 4), PortFree s ∧ (rd s.flt.cls c).latched = true)
    ∧ (∃ (s : State), PortFree s ∧ s.top.state ≠ .save)
    ∧ (∃ (s : State), PortFree s ∧ s.top.state ≠ .save)
    ∧ (∃ (s : State) (c : Instr) (i : Fin 8) (w : Word), c ∈ [Instr.forceWrite i w, .forcePbWrite i w] ∧ PortFree s ∧ s.top.state = .save)
    ∧ (∃ (s : State), PortFree s)
    ∧ (∃ (s : State) (src : BitVec 8), s.ctlOn = true ∧ (136 ≤ src.toNat ∧ src.toNat < 150 ∨ 160 ≤ src.toNat ∧ src.toNat < 208))
    ∧ (∃ (s : State) (src : BitVec 8), s.ctlOn = true ∧ 208 ≤ src.toNat ∧ s.flt.forcePb.getLsbD (src.toNat - 48) = false) :=
  ⟨⟨S .ready, by decide +kernel⟩,
   ⟨S .ready, by decide +kernel⟩,
   ⟨S .ready, by decide +kernel⟩,
   ⟨S .ready, 149, by decide +kernel⟩,
   ⟨((S .ready).mdFlt (fun _ => { blocks := tall 16 { held := true } })), 15, by decide +kernel⟩,
   ⟨((S .ready).mdFlt (fun _ => { blocks := tall 16 { running := true, set := 15 } })), 15, by decide +kernel⟩,
   ⟨((S .ready).mdFlt (fun _ => { sets := tall 16 { isOpen := true, ended := true, mask := 1 } })), 15, by decide +kernel⟩,
   ⟨(FLT .ready { en := true, act := 3 } { subs := [{ src := 100, sub := 3 }], sets := wr (tall 16 {}) 15 { isOpen := true, ended := true, mask := 2 ^ 100 } }), 15, 100, by decide +kernel⟩,
   ⟨((S .ready).mdFlt (fun _ => { cls := tall 4 { active := true } })), 3, by decide +kernel⟩,
   ⟨S .ready, (by unfold PortFree; decide +kernel)⟩,
   ⟨((S .ready).mdFlt (fun _ => { cls := tall 4 { latched := true } })), 3, (by unfold PortFree; decide +kernel), by decide +kernel⟩,
   ⟨S .ready, (by unfold PortFree; decide +kernel), by decide +kernel⟩,
   ⟨S .ready, (by unfold PortFree; decide +kernel), by decide +kernel⟩,
   ⟨S .save, .forcePbWrite 7 0, 7, 0, by decide +kernel, (by unfold PortFree; decide +kernel), by decide +kernel⟩,
   ⟨S .ready, (by unfold PortFree; decide +kernel)⟩,
   ⟨S .ready, 207, by decide +kernel⟩,
   ⟨S .ready, 255, by decide +kernel⟩⟩

theorem test_hyps_LedgerEpochsAndWriter :
    (∃ (s : State), s.ctlOn = true ∧ s.ledg.epochs = true ∧ s.aon.opSec % s.im.ledg.epochLen = 0 ∧ s.aon.opSec ≠ s.ledg.epStart ∧ s.ledg.sealing = none)
    ∧ (∃ (s : State) (b : Bank), s.ctlOn = true ∧ s.ledg.epochs = true ∧ s.aon.opSec % s.im.ledg.epochLen = 0 ∧ s.aon.opSec ≠ s.ledg.epStart ∧ s.ledg.sealing = some b)
    ∧ (∃ (s : State) (f : Nat), s.ctlOn = true ∧ s.ledg.epochs = true ∧ s.ledg.deferred = some f ∧ s.ledg.sealing = none)
    ∧ (∃ (s : State), s.ctlOn = true ∧ s.ledg.epochs = true ∧ s.aon.opSec % s.tickLen = 0)
    ∧ (∃ (s : State) (j : RecJob) (slot : Nat), s.ctlOn = true ∧ s.ledg.scanDone = true ∧ (rd s.flt.blocks 15).held = false ∧ s.ledg.cur = none ∧ (s.ledg.bgCur = none ∨ s.bgErasing = true) ∧ s.nextJob = some j ∧ s.norDevs ≠ [] ∧ s.nextSlot (kindArea j.kind) = some slot ∧ s.slotErases (kindArea j.kind) slot = [])
    ∧ (∃ (s : State) (j : RecJob) (slot : Nat) (b : BgJob) (l : List BgJob), s.ctlOn = true ∧ s.ledg.scanDone = true ∧ (rd s.flt.blocks 15).held = false ∧ s.ledg.cur = none ∧ s.ledg.bgCur = none ∧ s.nextJob = some j ∧ s.norDevs ≠ [] ∧ s.nextSlot (kindArea j.kind) = some slot ∧ s.held (kindArea j.kind) = false ∧ s.slotErases (kindArea j.kind) slot = b :: l)
    ∧ (∃ (s : State) (j : RecJob) (b : BgJob), s.ctlOn = true ∧ s.nextJob = some j ∧ s.ledg.bgCur = some b ∧ s.bgErasing = false)
    ∧ (∃ (s : State) (j : RecJob), s.ctlOn = true ∧ s.ledg.scanDone = true ∧ (rd s.flt.blocks 15).held = false ∧ s.ledg.cur = none ∧ s.ledg.bgCur = none ∧ s.nextJob = some j ∧ s.norDevs = [])
    ∧ (∃ (s : State), s.ctlOn = true ∧ ((rd s.flt.blocks 15).held = true ∨ s.ledg.scanDone = false))
    ∧ (∃ (s : State) (d : Fin 2) (w : RecWork) (a : Nat) (b : List Byte) (o : NorOp) (os : List NorOp), Machine.Inv s ∧ s.ctlOn = true ∧ (rd s.flt.blocks 15).held = false ∧ s.ledg.cur = some w ∧ w.dev = d.val ∧ w.ops = .prog a b :: o :: os)
    ∧ (∃ (s : State) (d : Fin 2) (w : RecWork) (a : Nat) (o : NorOp) (os : List NorOp), s.ctlOn = true ∧ (rd s.flt.blocks 15).held = false ∧ s.ledg.cur = some w ∧ w.dev = d.val ∧ w.ops = .erase a :: o :: os)
    ∧ (∃ (s : State) (d : Fin 2) (w : RecWork) (a : Nat) (b : List Byte), s.ctlOn = true ∧ (rd s.flt.blocks 15).held = false ∧ s.ledg.cur = some w ∧ w.dev = d.val ∧ w.ops = [.seal a b] ∧ w.left = [] ∧ w.area < 6 ∧ (w.founding = true ∨ foundArea w.job.kind = none))
    ∧ (∃ (s : State) (d : Fin 2) (b : BgJob) (o : NorOp) (p : NorOp) (os : List NorOp), s.ctlOn = true ∧ (rd s.flt.blocks 15).held = false ∧ s.ledg.cur = none ∧ s.ledg.bgCur = some b ∧ b.dev = d.val ∧ s.ledg.suspended = false ∧ b.ops = o :: p :: os ∧ s.ledg.queue ≠ [])
    ∧ (∃ (s : State) (d : Fin 2) (w : RecWork) (o : NorOp) (os : List NorOp), s.ctlOn = true ∧ (rd s.flt.blocks 15).held = false ∧ s.ledg.cur = some w ∧ w.dev = d.val ∧ w.ops = o :: os) :=
  ⟨⟨{ S .ready with ledg := { epochs := true }, aon := { opSec := 3600 } }, by decide +kernel⟩,
   ⟨{ S .ready with ledg := { epochs := true, sealing := some {} }, aon := { opSec := 3600 } }, {}, by decide +kernel⟩,
   ⟨{ S .ready with ledg := { epochs := true, deferred := some 1 } }, 1, by decide +kernel⟩,
   ⟨{ S .ready with ledg := { epochs := true } }, by decide +kernel⟩,
   ⟨{ S .ready with ledg := { scanDone := true, dev := tall 2 { ok := true }, queue := [{ kind := 1, stamp := {}, wall := 0, steps := 0, epoch := 0, state := 0, flags := 0, body := [] }] } }, { kind := 1, stamp := {}, wall := 0, steps := 0, epoch := 0, state := 0, flags := 0, body := [] }, 0, by decide +kernel, by decide +kernel, by decide +kernel, by decide +kernel, by decide +kernel, by decide +kernel, by decide +kernel, nextSlot_first _ _ _ (by decide +kernel : _ = 4111 + 1) (by decide +kernel) (by decide +kernel), by decide +kernel⟩,
   ⟨{ S .ready with nor := wr (tall 2 {}) 0 { mem := [(0x168000, 0)] }, ledg := { scanDone := true, dev := tall 2 { ok := true }, queue := [{ kind := 1, stamp := {}, wall := 0, steps := 0, epoch := 0, state := 0, flags := 0, body := [] }] } }, { kind := 1, stamp := {}, wall := 0, steps := 0, epoch := 0, state := 0, flags := 0, body := [] }, 0, { kind := .eraseAhead 4, dev := 0, ops := [.erase 0x168000] }, [], by decide +kernel, by decide +kernel, by decide +kernel, by decide +kernel, by decide +kernel, by decide +kernel, by decide +kernel, nextSlot_first _ _ _ (by decide +kernel : _ = 4111 + 1) (by decide +kernel) (by decide +kernel), by decide +kernel⟩,
   ⟨{ S .ready with ledg := { queue := [{ kind := 1, stamp := {}, wall := 0, steps := 0, epoch := 0, state := 0, flags := 0, body := [] }], bgCur := some { kind := .repair, dev := 0, ops := [] } } }, { kind := 1, stamp := {}, wall := 0, steps := 0, epoch := 0, state := 0, flags := 0, body := [] }, { kind := .repair, dev := 0, ops := [] }, by decide +kernel⟩,
   ⟨{ S .ready with ledg := { scanDone := true, queue := [{ kind := 1, stamp := {}, wall := 0, steps := 0, epoch := 0, state := 0, flags := 0, body := [] }] } }, { kind := 1, stamp := {}, wall := 0, steps := 0, epoch := 0, state := 0, flags := 0, body := [] }, by decide +kernel⟩,
   ⟨((S .ready).mdFlt (fun _ => { blocks := tall 16 { held := true } })), by decide +kernel⟩,
   ⟨{ S .ready with ledg := { cur := some { job := { kind := 1, stamp := {}, wall := 0, steps := 0, epoch := 0, state := 0, flags := 0, body := [] }, area := 5, slot := 0, founding := true, dev := 1, left := [], ops := [.prog 0 [0], .erase 0], okDevs := [] } } }, 1, { job := { kind := 1, stamp := {}, wall := 0, steps := 0, epoch := 0, state := 0, flags := 0, body := [] }, area := 5, slot := 0, founding := true, dev := 1, left := [], ops := [.prog 0 [0], .erase 0], okDevs := [] }, 0, [0], .erase 0, [], onNor_inv _ rfl (by decide +kernel), by decide +kernel⟩,
   ⟨{ S .ready with ledg := { cur := some { job := { kind := 1, stamp := {}, wall := 0, steps := 0, epoch := 0, state := 0, flags := 0, body := [] }, area := 5, slot := 0, founding := true, dev := 1, left := [], ops := [.erase 0, .erase 0], okDevs := [] } } }, 1, { job := { kind := 1, stamp := {}, wall := 0, steps := 0, epoch := 0, state := 0, flags := 0, body := [] }, area := 5, slot := 0, founding := true, dev := 1, left := [], ops := [.erase 0, .erase 0], okDevs := [] }, 0, .erase 0, [], by decide +kernel⟩,
   ⟨{ S .ready with ledg := { cur := some { job := { kind := 1, stamp := {}, wall := 0, steps := 0, epoch := 0, state := 0, flags := 0, body := [] }, area := 5, slot := 0, founding := true, dev := 1, left := [], ops := [.seal 0 [0]], okDevs := [] } } }, 1, { job := { kind := 1, stamp := {}, wall := 0, steps := 0, epoch := 0, state := 0, flags := 0, body := [] }, area := 5, slot := 0, founding := true, dev := 1, left := [], ops := [.seal 0 [0]], okDevs := [] }, 0, [0], by decide +kernel⟩,
   ⟨{ S .ready with ledg := { queue := [{ kind := 1, stamp := {}, wall := 0, steps := 0, epoch := 0, state := 0, flags := 0, body := [] }], bgCur := some { kind := .repair, dev := 1, ops := [.erase 0, .erase 0] } } }, 1, { kind := .repair, dev := 1, ops := [.erase 0, .erase 0] }, .erase 0, .erase 0, [], by decide +kernel⟩,
   ⟨{ S .ready with ledg := { cur := some { job := { kind := 1, stamp := {}, wall := 0, steps := 0, epoch := 0, state := 0, flags := 0, body := [] }, area := 5, slot := 0, founding := true, dev := 1, left := [], ops := [.erase 0], okDevs := [] } } }, 1, { job := { kind := 1, stamp := {}, wall := 0, steps := 0, epoch := 0, state := 0, flags := 0, body := [] }, area := 5, slot := 0, founding := true, dev := 1, left := [], ops := [.erase 0], okDevs := [] }, .erase 0, [], by decide +kernel⟩⟩

theorem test_hyps_LedgerDevicesAndHost :
    (∃ (s : State) (d : Fin 2) (f : Sfdp), s.ctlOn = true ∧ (rd s.ledg.dev d).ok = false ∧ s.ledg.resilver = none ∧ f.meets = false)
    ∧ (∃ (s : State) (d : Fin 2) (f : Sfdp), s.ctlOn = true ∧ (rd s.ledg.dev d).ok = false ∧ s.ledg.resilver = none ∧ f.meets = true ∧ s.dirValid d = true)
    ∧ (∃ (s : State) (d : Fin 2) (f : Sfdp), s.ctlOn = true ∧ (rd s.ledg.dev d).ok = false ∧ s.ledg.resilver = none ∧ f.meets = true ∧ s.dirValid d = false ∧ (rd s.ledg.dev (1 - d.val)).ok = true)
    ∧ (∃ (s : State) (d : Fin 2) (f : Sfdp), s.ctlOn = true ∧ (rd s.ledg.dev d).ok = false ∧ s.ledg.resilver = none ∧ f.meets = true ∧ s.dirValid d = false ∧ (rd s.ledg.dev (1 - d.val)).ok = false)
    ∧ (∃ (s : State) (d : Fin 2), s.ctlOn = true ∧ s.ledg.resilver = some d.val ∧ (∀ b ∈ s.ledg.bg, b.kind ≠ .resilver) ∧ ((∀ b, s.ledg.bgCur = some b → b.kind ≠ .resilver)))
    ∧ (∃ (s : State), s.ctlOn = true ∧ s.top.state = .boot ∧ s.ledg.scanDone = false)
    ∧ (∃ (s : State), PortFree s)
    ∧ (∃ (s : State), PortFree s)
    ∧ (∃ (s : State) (f : Nat), s.ledg.closeDue = some f ∧ s.ledg.epochs = true ∧ s.ledg.sealing = none)
    ∧ (∃ (s : State), PortFree s)
    ∧ (∃ (s : State), PortFree s)
    ∧ (∃ (s : State), s.ctlOn = true)
    ∧ (∃ (s : State), PortFree s)
    ∧ (∃ (s : State), PortFree s)
    ∧ (∃ (s : State), PortFree s)
    ∧ (∃ (s : State) (ofs : BitVec 22), s.ctlOn = true ∧ s.rpCause (0x400000 + ofs.toNat) false = 0) :=
  ⟨⟨S .ready, 1, { page := 512 }, by decide +kernel⟩,
   ⟨dirS, 1, {}, by decide +kernel⟩,
   ⟨{ S .ready with ledg := { dev := wr (tall 2 {}) 0 { ok := true } } }, 1, {}, by decide +kernel⟩,
   ⟨{ S .ready with ledg := {  } }, 1, {}, by decide +kernel⟩,
   ⟨{ S .ready with ledg := { resilver := some 1 } }, 1, by decide +kernel⟩,
   ⟨S .boot, by decide +kernel⟩,
   ⟨S .ready, (by unfold PortFree; decide +kernel)⟩,
   ⟨{ S .ready with ledg := { epochs := true } }, (by unfold PortFree; decide +kernel)⟩,
   ⟨{ S .ready with ledg := { epochs := true, closeDue := some 1 } }, 1, by decide +kernel⟩,
   ⟨S .ready, (by unfold PortFree; decide +kernel)⟩,
   ⟨S .ready, (by unfold PortFree; decide +kernel)⟩,
   ⟨S .ready, by decide +kernel⟩,
   ⟨S .ready, (by unfold PortFree; decide +kernel)⟩,
   ⟨S .ready, (by unfold PortFree; decide +kernel)⟩,
   ⟨S .ready, (by unfold PortFree; decide +kernel)⟩,
   ⟨S .ready, 0x3FFFFC, by decide +kernel⟩⟩

theorem test_hyps_ImageCommands :
    (∃ (s : State), s.ctlOn = true ∧ s.top.state = .boot ∧ s.ledg.scanDone = true ∧ s.bimg.running = false)
    ∧ (∃ (s : State), PortFree s ∧ s.top.state = .boot ∧ s.ledg.scanDone = true ∧ s.bimg.running = false)
    ∧ (∃ (s : State), PortFree s ∧ s.top.state = .boot ∧ s.ledg.scanDone = true ∧ s.bimg.running = true)
    ∧ (∃ (s : State), PortFree s ∧ (s.top.state ≠ .boot ∨ s.ledg.scanDone = false))
    ∧ (∃ (s : State), PortFree s ∧ s.inState [.boot, .ready, .service] = true ∧ (¬(s.bimg.running = true ∧ s.argSlot = s.bimg.runSlot)))
    ∧ (∃ (s : State) (d : Fin 2) (b : BgJob) (o : NorOp), s.ctlOn = true ∧ (rd s.flt.blocks 15).held = false ∧ s.ledg.cur = none ∧ s.ledg.bgCur = some b ∧ b.kind = .slotWrite ∧ b.dev = d.val ∧ b.ops = [o] ∧ s.ledg.suspended = false ∧ (∀ x ∈ s.ledg.bg, x.kind ≠ .slotWrite) ∧ s.cmd.code = 1 ∧ s.cmd.state = 1)
    ∧ (∃ (s : State), PortFree s ∧ (s.inState [.boot, .ready, .service] = false ∨ (s.bimg.running = true ∧ s.argSlot = s.bimg.runSlot)))
    ∧ (∃ (s : State), PortFree s ∧ s.top.state = .ready ∧ s.bimg.running = true ∧ s.argSlot ≠ s.bimg.runSlot ∧ (¬SlotValid s s.argSlot))
    ∧ (∃ (s : State) (x : Nat) (i : BImg), s.bimg.reload = some (x, i) ∧ s.bimg.wait ≠ 0)
    ∧ (∃ (s : State) (x : Nat) (i : BImg), s.bimg.reload = some (x, i) ∧ s.bimg.wait = 0)
    ∧ (∃ (s : State), PortFree s ∧ (s.top.state ≠ .ready ∨ s.bimg.running = false ∨ s.argSlot = s.bimg.runSlot))
    ∧ (∃ (s : State), PortFree s)
    ∧ (∃ (s : State) (i : Fin 2), PortFree s ∧ s.top.state = .boot ∧ rd s.keyBanks i = .blank ∧ ((i.val = 1 → rd s.keyBanks 0 ≠ .blank)))
    ∧ (∃ (s : State), PortFree s ∧ (s.top.state ≠ .boot ∨ (∀ i : Fin 2, rd s.keyBanks i ≠ .blank)))
    ∧ (∃ (s : State), s.cmd.code = 3 ∧ s.cmd.state = 1 ∧ s.cmd.abortPend = false)
    ∧ (∃ (s : State) (i : Fin 2), s.cmd.code = 4 ∧ s.cmd.state = 1 ∧ s.bimg.bank = i.val ∧ rd s.keyBanks i = .torn) :=
  ⟨⟨{ S .boot with ledg := { scanDone := true } }, by decide +kernel⟩,
   ⟨{ S .boot with ledg := { scanDone := true } }, (by unfold PortFree; decide +kernel), by decide +kernel⟩,
   ⟨{ S .boot with ledg := { scanDone := true }, bimg := { running := true } }, (by unfold PortFree; decide +kernel), by decide +kernel⟩,
   ⟨S .ready, (by unfold PortFree; decide +kernel), by decide +kernel⟩,
   ⟨S .ready, (by unfold PortFree; decide +kernel), by decide +kernel⟩,
   ⟨{ S .ready with ledg := { bgCur := some { kind := .slotWrite, dev := 1, ops := [.erase 0x400000] } }, cmd := { code := 1, state := 1 } }, 1, { kind := .slotWrite, dev := 1, ops := [.erase 0x400000] }, .erase 0x400000, by decide +kernel⟩,
   ⟨S .ride, (by unfold PortFree; decide +kernel), by decide +kernel⟩,
   ⟨invS, (by unfold PortFree; decide +kernel), by decide +kernel, by decide +kernel, by decide +kernel, invS_invalid⟩,
   ⟨{ S .ready with bimg := { reload := some (1, {}), wait := 299 } }, 1, {}, by decide +kernel⟩,
   ⟨{ S .ready with bimg := { reload := some (1, {}), wait := 0 } }, 1, {}, by decide +kernel⟩,
   ⟨S .ready, (by unfold PortFree; decide +kernel), by decide +kernel⟩,
   ⟨S .ready, (by unfold PortFree; decide +kernel)⟩,
   ⟨{ S .boot with keyBanks := wr (tall 2 .blank) 0 .torn }, 1, (by unfold PortFree; decide +kernel), by decide +kernel⟩,
   ⟨S .ready, (by unfold PortFree; decide +kernel), by decide +kernel⟩,
   ⟨{ S .ready with cmd := { code := 3, state := 1 } }, by decide +kernel⟩,
   ⟨{ S .boot with cmd := { code := 4, state := 1 }, bimg := { bank := 1 }, keyBanks := wr (tall 2 .blank) 1 .torn }, 1, by decide +kernel⟩⟩

theorem test_hyps_TopCommands :
    (∃ (s : State), PortFree s ∧ s.standbyOk 0x40 = true)
    ∧ (∃ (s : State), PortFree s ∧ s.standbyOk 0x41 = true)
    ∧ (∃ (s : State), PortFree s ∧ s.standbyOk 0x42 = true)
    ∧ (∃ (s : State) (c : Instr) (k : Nat), (c, k) ∈ ([(.hostShutdown, 0x40), (.unlatch, 0x41), (.leaveService, 0x42)] : List (Instr × Nat)) ∧ PortFree s ∧ s.pair.standby = true)
    ∧ (∃ (s : State) (w : Word), PortFree s ∧ bitsOf w 31 16 ≠ 0xA5C3)
    ∧ (∃ (s : State) (w : Word), PortFree s ∧ bitsOf w 31 16 = 0xA5C3 ∧ bitsOf w 7 0 ∉ [0x01, 0x02, 0x03, 0x04, 0x08, 0x09, 0x11, 0x12, 0x13, 0x14, 0x15, 0x16, 0x20, 0x21, 0x40, 0x41, 0x42])
    ∧ (∃ (s : State), s.ctlOn = true ∧ s.busy = true)
    ∧ (∃ (s : State), s.ctlOn = true ∧ s.busy = false) :=
  ⟨⟨S .ready, (by unfold PortFree; decide +kernel), by decide +kernel⟩,
   ⟨S .ready, (by unfold PortFree; decide +kernel), by decide +kernel⟩,
   ⟨S .ready, (by unfold PortFree; decide +kernel), by decide +kernel⟩,
   ⟨((S .service).mdPair (fun p => { p with standby := true })), .leaveService, 0x42, by simp, (by unfold PortFree; decide +kernel), by decide +kernel⟩,
   ⟨S .ready, 0x40, (by unfold PortFree; decide +kernel), by decide +kernel⟩,
   ⟨S .ready, 0xA5C30000, (by unfold PortFree; decide +kernel), by decide +kernel⟩,
   ⟨((S .ready).mdCmd (fun _ => { code := 1, state := 1 })), by decide +kernel⟩,
   ⟨S .ready, by decide +kernel⟩⟩

theorem test_hyps_RegisterPort :
    (∃ (s : State), s.ctlOn = true)
    ∧ (∃ (s : State), PortFree s)
    ∧ (∃ (s : State), s.ctlOn = true ∧ s.rpCause 0x0B0020 false = 0)
    ∧ (∃ (s : State) (r : Fin 32), s.ctlOn = true ∧ s.rpCause (0x210040 + 0x800 * r.val) false = 0)
    ∧ (∃ (s : State), PortFree s)
    ∧ (∃ (s : State), PortFree s)
    ∧ (∃ (s : State) (a : BitVec 32) (b : Nat), (a, b) ∈ ([(0x20#32, 0), (0x010004#32, 1), (0x020004#32, 2), (0x030004#32, 3), (0x040004#32, 4), (0x050004#32, 5), (0x070004#32, 6), (0x080004#32, 7), (0x090004#32, 8), (0x0A0004#32, 9), (0x0C0004#32, 11), (0x200004#32, 12)] : List (BitVec 32 × Nat)) ∧ PortFree s)
    ∧ (∃ (s : State) (a : BitVec 32), a ∈ [0x00#32, 0x04#32, 0x08#32, 0x10#32, 0x24#32, 0x28#32, 0x40#32, 0xFC#32, 0x020008#32, 0x020040#32, 0x0F0000#32] ∧ PortFree s)
    ∧ (∃ (s : State) (a : BitVec 32), PortFree s ∧ (a.toNat % 4 ≠ 0 ∨ 0x1000000 ≤ a.toNat))
    ∧ (∃ (s : State) (a : BitVec 32), s.ctlOn = true ∧ s.busy = true ∧ a ≠ 0x01000C#32)
    ∧ (∃ (s : State) (a : BitVec 32), s.ctlOn = true ∧ s.busy = true ∧ 0x100 ≤ a.toNat)
    ∧ (∃ (s : State) (a : BitVec 32), s.ctlOn = true ∧ (s.busy = false ∨ a.toNat < 0x100) ∧ (a.toNat % 4 ≠ 0 ∨ 0x1000000 ≤ a.toNat))
    ∧ (∃ (s : State) (a : BitVec 32), PortFree s ∧ a.toNat % 4 = 0 ∧ 0x800000 ≤ a.toNat ∧ a.toNat < 0x1000000)
    ∧ (∃ (s : State), s.ctlOn = false) :=
  ⟨⟨S .ready, by decide +kernel⟩,
   ⟨S .ready, (by unfold PortFree; decide +kernel)⟩,
   ⟨S .ready, by decide +kernel⟩,
   ⟨((SP .ready).mdSled 3 (fun _ => { up := true, pwr := true })), 31, by decide +kernel⟩,
   ⟨S .ready, (by unfold PortFree; decide +kernel)⟩,
   ⟨S .ready, (by unfold PortFree; decide +kernel)⟩,
   ⟨S .ready, 0x200004, 12, by decide +kernel, (by unfold PortFree; decide +kernel)⟩,
   ⟨S .ready, 0x0F0000, by decide +kernel, (by unfold PortFree; decide +kernel)⟩,
   ⟨S .ready, 0x1000000, (by unfold PortFree; decide +kernel), by decide +kernel⟩,
   ⟨((S .ready).mdCmd (fun _ => { code := 1, state := 1 })), 0x7FFFFC, by decide +kernel⟩,
   ⟨((S .ready).mdCmd (fun _ => { code := 1, state := 1 })), 0x100, by decide +kernel⟩,
   ⟨S .ready, 0xFFFFFFFF, by decide +kernel⟩,
   ⟨S .ready, 0xFFFFFC, (by unfold PortFree; decide +kernel), by decide +kernel⟩,
   ⟨S .hold, by decide +kernel⟩⟩

theorem test_hyps_PmbusCommands :
    (∃ (s : State) (c : Instr) (f : State → List Byte), ((c, f) ∈ ([(.capability, fun _ => [0xC0#8]), (.statusByte, fun t => leBytes 1 t.statusWord), (.statusWord, fun t => leBytes 2 t.statusWord), (.statusCml, fun t => [t.rp.cml]), (.statusMfrSpecific, fun t => leBytes 1 t.statusMfr), (.pmbusRevision, fun _ => [0x33#8]), (.mfrId, fun _ => ascii "IRNAR"), (.mfrModel, fun _ => ascii "HZ6432-A"), (.mfrRevision, fun _ => ascii "01"), (.mfrSerial, fun _ => leBytes 8 Config.identity.toNat), (.mfrHzState, fun t => leBytes 2 (t.peek 0x08).toNat), (.mfrHzSave, regBytes [0x070010, 0x07000C, 0x070048, 0x070058]), (.mfrHzStake, regBytes [0x060038, 0x060044, 0x060004]), (.mfrHzEnergy, regBytes [0x060028, 0x050014, 0x060054, 0x050008]), (.mfrHzVault, regBytes [0x200008, 0x200210]), (.mfrHzFault, regBytes [0x020008, 0x020120])] : List (Instr × (State → List Byte)))) ∧ s.ctlOn = true)
    ∧ (∃ (s : State), s.ctlOn = true)
    ∧ (∃ (s : State), s.ctlOn = true)
    ∧ (∃ (s : State), s.ctlOn = true)
    ∧ (∃ (s : State) (c : Instr) (bytes : List Byte), c ∈ [Instr.clearFaults false, .mfrHzRegAddr false bytes] ∧ s.ctlOn = true)
    ∧ (∃ (s : State), s.ctlOn = true)
    ∧ (∃ (s : State), s.ctlOn = true ∧ s.rpCause s.rp.regAddr false ≠ 0)
    ∧ (∃ (s : State), s.ctlOn = true ∧ s.rp.regAddr < 0x400000 ∧ s.rpCause s.rp.regAddr false = 0 ∧ s.latchAt s.rp.regAddr = s)
    ∧ (∃ (s : State) (d : Fin 64) (st : Nat), s.ctlOn = true ∧ s.pollOn = true ∧ s.pmbRuns = true ∧ s.pollNext = some d.val ∧ st / 8192 = 0 ∧ st / 2 % 128 = 0)
    ∧ (∃ (s : State) (d : Fin 64) (st : Nat), s.ctlOn = true ∧ s.pollOn = true ∧ s.pmbRuns = true ∧ s.pollNext = some d.val ∧ (st / 8192 ≠ 0 ∨ st / 2 % 128 ≠ 0))
    ∧ (∃ (s : State) (d : Fin 64), s.ctlOn = true ∧ s.pollOn = true ∧ s.pmbRuns = true ∧ s.pollNext = some d.val)
    ∧ (∃ (s : State) (d : Fin 64), s.ctlOn = true ∧ (s.pollOn = false ∨ s.pmbRuns = false ∨ s.pollNext ≠ some d.val))
    ∧ (∃ (s : State) (d : Nat), s.pollNext = some d) :=
  ⟨⟨S .ready, .capability, fun _ => [0xC0#8], by simp, by decide +kernel⟩,
   ⟨S .ready, by decide +kernel⟩,
   ⟨S .ready, by decide +kernel⟩,
   ⟨S .ready, by decide +kernel⟩,
   ⟨S .ready, .clearFaults false, [], by decide +kernel⟩,
   ⟨S .ready, by decide +kernel⟩,
   ⟨{ S .ready with rp := { regAddr := 3 } }, by decide +kernel⟩,
   ⟨S .ready, by decide +kernel, by decide +kernel, by decide +kernel, latch_zero _⟩,
   ⟨I .ready { pmb := wr (tall 64 {}) 63 { addr := 1 } }, 63, 0, by decide +kernel⟩,
   ⟨I .ready { pmb := wr (tall 64 {}) 63 { addr := 1 } }, 63, 0x80, by decide +kernel⟩,
   ⟨I .ready { pmb := wr (tall 64 {}) 63 { addr := 1 } }, 63, by decide +kernel⟩,
   ⟨S .ready, 63, by decide +kernel⟩,
   ⟨I .ready { pmb := wr (tall 64 {}) 63 { addr := 1 } }, 63, by decide +kernel⟩⟩

theorem test_hyps_TapInstructions :
    (∃ (c : Instr) (i : TapIr) (d : Option Word), (c, i, d) ∈ ([(.tapReset, .reset, some 0x16432FFF#32), (.bypass, .bypass, some 0), (.idcode, .idcode, some 0x16432FFF#32), (.samplePreload, .samplePreload, none), (.extest, .extest, none), (.clamp, .clamp, some 0), (.highz, .highz, some 0), (.extestPulse, .extestPulse, none), (.extestTrain, .extestTrain, none)] : List (Instr × TapIr × Option Word)))
    ∧ (∃ (c : Instr), c ∈ [Instr.tapReset, .bypass, .idcode])
    ∧ (∃ (c : Instr), c ∈ [Instr.extest, .clamp, .extestPulse, .extestTrain]) :=
  ⟨⟨.extestTrain, .extestTrain, none, by decide +kernel⟩,
   ⟨.bypass, by decide +kernel⟩,
   ⟨.extest, by decide +kernel⟩⟩

theorem test_hyps_UnpoweredControlIslandIsStill :
    ∃ (s : State) (c : Instr), s.ctlOn = false ∧ actsUnpowered c = false ∧ ((actsOnFabric c = true → s.fabRuns = false)) :=
  ⟨S .hold, .rideExit, by decide +kernel⟩

theorem test_hyps_ForcesClearAtTripAndBoot :
    (∃ (s : State) (c : Instr) (t : State), s.pair.standby = false ∧ exec c s = .next t)
    ∧ (∃ (s : State) (c : Instr) (also : BitVec 8), c ∈ [Instr.holdReq also, .pfiBusSag also] ∧ s.ctlUp = true ∧ s.top.state ≠ .save)
    ∧ (∃ (s : State) (c : Instr) (also : BitVec 8), c ∈ [Instr.holdReq also, .pfiBusSag also] ∧ s.ctlUp = true ∧ s.paired = true ∧ s.pair.drv = false ∧ s.pair.standby = true)
    ∧ (∃ (s : State) (n : Fin 8) (also : BitVec 8), s.ctlUp = true ∧ s.bimg.running = true ∧ s.im.core.rideThrough = false ∧ s.acgFast < s.im.core.acgThr ∧ rd s.pins.acgLow n = false ∧ s.im.core.acgThr ≤ s.acgFast + 1 ∧ s.top.state ≠ .save)
    ∧ (∃ (s : State), s.top.state = .boot ∧ s.pins.mrLow = true ∧ s.pins.mrWait = false)
    ∧ (∃ (s : State), PortFree s ∧ s.top.state = .save)
    ∧ (∃ (s : State), PortFree s ∧ s.top.state = .save)
    ∧ (∃ (s : State), PortFree s ∧ s.top.state = .save) :=
  ⟨⟨S .ready, .rideExit, S .ready, by decide +kernel, rfl⟩,
   ⟨S .rise, .holdReq 0, 0, by decide +kernel⟩,
   ⟨((P .save).mdPair (fun _ => { standby := true })), .pfiBusSag 0, 0, by decide +kernel⟩,
   ⟨(I .ret { core := { rideThrough := false, acgThr := 1 } }), 7, 0, by decide +kernel⟩,
   ⟨((S .boot).mdPins (fun p => { p with mrLow := true })), by decide +kernel⟩,
   ⟨S .save, (by unfold PortFree; decide +kernel), by decide +kernel⟩,
   ⟨S .save, (by unfold PortFree; decide +kernel), by decide +kernel⟩,
   ⟨S .save, (by unfold PortFree; decide +kernel), by decide +kernel⟩⟩

theorem test_hyps_EveryBootCountsAPowerCycle :
    (∃ (s : State) (c : Instr) (t : State), s.pair.standby = false ∧ exec c s = .next t ∧ s.aon.cycles < 0xFFFFFF ∧ s.top.state ≠ .boot ∧ t.top.state = .boot)
    ∧ (∃ (s : State), s.aon.cycles < 0xFFFFFF ∧ s.top.state = .boot ∧ s.pins.mrLow = true ∧ s.pins.mrWait = false)
    ∧ (∃ (s : State) (c : Instr) (t : State), exec c s = .next t) :=
  ⟨⟨((S .rise).mdPins (fun p => { p with refclkRun := false, refclkLong := true })), .refclkReturn, (((S .rise).mdPins (fun p => { p with refclkRun := false, refclkLong := true }))).refclkReturn, by decide +kernel, rfl, by decide +kernel⟩,
   ⟨((S .boot).mdPins (fun p => { p with mrLow := true })), by decide +kernel⟩,
   ⟨S .ready, .rideExit, S .ready, rfl⟩⟩

theorem test_hyps_EventQueueHoldsAtMost256 :
    (∃ (s : State) (c : Instr) (t : State), s.ledg.evq.length ≤ 256 ∧ exec c s = .next t)
    ∧ (∃ (s : State) (kind : Nat) (unit : Nat), s.ledg.evq.length = 256 ∧ s.ledg.live.chipsLeft (kind * 256 + unit) ≠ 0) :=
  ⟨⟨S .ready, .rideExit, S .ready, by decide +kernel, rfl⟩,
   ⟨{ S .ready with ledg := { evq := List.replicate 256 { code := 0, datum := 0, stamp := {} } } }, 255, 255, by decide +kernel⟩⟩

theorem test_hyps_ClipReadsACeilingAboveTheHardware :
    ∃ (s : State), s.stake.hold = none ∧ s.pair.standby = false :=
  ⟨S .ready, by decide +kernel⟩

end Sys2Proof.Tests
end

section
/-! PROOFS. The frame of every command (R6, R18): the fields its meaning can change (Laws/AgreeExec) lie within the list the model gives for it. A
latching read has a closer frame than a read of an address at large, since its address is known (Table 16-18). -/
set_option Elab.async false

namespace Sys2Proof.Machine

/-! ### `Agree`'s masks and the names of the fields -/

/-- The fields of State in the order of the structure. -/
def Part.all : List Part :=
  [.clk, .pins, .aon, .nor, .fuseCnt, .keyBanks, .epochRan, .top, .evt, .ctrl, .busyIrq, .cmd, .rp, .flt, .ledg, .bimg, .seq, .nrg, .links, .stake,
    .vault, .stage, .save, .ret, .fab, .pair, .pending]

theorem Part.mem_all (x : Part) : x ∈ Part.all := by cases x <;> decide

/-- The bit that stands for a field in a mask of `Agree`. -/
def Part.bit (x : Part) : Nat := Part.all.idxOf x

/-- The list names every field whose bit the mask sets. -/
def Part.covers (ps : List Part) (m : Nat) : Bool := Part.all.all (fun x => !m.testBit x.bit || ps.contains x)

theorem Part.testBit_of_covers {ps : List Part} {m : Nat} (hm : Part.covers ps m = true) {x : Part} (hx : x ∉ ps) : m.testBit x.bit = false := by
  have hb := List.all_eq_true.mp hm x x.mem_all
  simpa [hx] using hb

namespace State

/-- `Agree` read field by field. -/
theorem Agree.same {m : Nat} {s t : State} (h : Agree m s t) : ∀ x : Part, m.testBit x.bit = false → x.same s t
  | .clk => h.clk
  | .pins => h.pins
  | .aon => h.aon
  | .nor => h.nor
  | .fuseCnt => h.fuseCnt
  | .keyBanks => h.keyBanks
  | .epochRan => h.epochRan
  | .top => h.top
  | .evt => h.evt
  | .ctrl => h.ctrl
  | .busyIrq => h.busyIrq
  | .cmd => h.cmd
  | .rp => h.rp
  | .flt => h.flt
  | .ledg => h.ledg
  | .bimg => h.bimg
  | .seq => h.seq
  | .nrg => h.nrg
  | .links => h.links
  | .stake => h.stake
  | .vault => h.vault
  | .stage => h.stage
  | .save => h.save
  | .ret => h.ret
  | .fab => h.fab
  | .pair => h.pair
  | .pending => h.pending

theorem Agree.sameBut {m : Nat} {ps : List Part} {s t : State} (h : Agree m s t) (hm : Part.covers ps m = true) : SameBut ps s t :=
  fun x hx => h.same x (Part.testBit_of_covers hm hx)

/-! ### What a read latches (Table 16-18) -/

theorem latchAt_window {a : Nat} (h : 0x400000 ≤ a) (s : State) : s.latchAt a = s := by
  simp (disch := omega) only [latchAt, Bool.and_eq_true, decide_eq_true_eq, if_neg]

theorem latchAt_causeRecord (last : Bool) (s : State) : s.latchAt (if last then 0x020120 else 0x020100) = s.latchCause last := by
  cases last <;> rfl

theorem latchAt_desc (r : Fin 32) (s : State) : s.latchAt (0x210040 + 0x800 * r) = s.latchDesc r := by
  have hr : (0x210040 + 0x800 * r.val) % 0x10000 / 0x800 = r := by omega
  simp (disch := omega) only [latchAt, Bool.and_eq_true, decide_eq_true_eq, if_neg, if_pos, hr]

theorem latchAt_str (k : Fin 16) (which : Fin 3) (s : State) : s.latchAt (0x050110 + 0x40 * k + 8 * which) = s.latchStr k which := by
  have hk : (0x050110 + 0x40 * k.val + 8 * which.val - 0x050100) / 0x40 = k := by omega
  have ho : (0x050110 + 0x40 * k.val + 8 * which.val) % 0x40 = 0x10 + 8 * which.val := by omega
  simp (disch := omega) only [latchAt, Bool.and_eq_true, decide_eq_true_eq, if_neg, if_pos, hk, ho]
  fin_cases which <;> rfl

/-- Beyond what its address latches, a register read changes no field but the port's (bit 12) and, ending in error, the event bits (bit 8). -/
theorem agree_regRead_of_latchAt {k a : Nat} {s : State} (h : Agree k s (s.latchAt a)) : Agree (4352 ||| k) s (s.regRead a) := by
  have herr : 4352 ||| (4352 ||| k) = 4352 ||| k := by rw [← Nat.or_assoc, Nat.or_self]
  have hrp : 4096 ||| (4352 ||| k) = 4352 ||| k := Agree.sub_of herr rfl
  have hk : k ||| (4352 ||| k) = 4352 ||| k := by rw [Nat.or_comm, Nat.or_assoc, Nat.or_self]
  unfold regRead
  dsimp only
  split
  · exact agree_rpDead hrp s (.refl _ s)
  · split
    · exact agree_rpErr herr _ _ _ s (.refl _ s)
    · split
      · split
        · exact agree_rpData hrp _ s (.refl _ s)
        · exact agree_rpErr herr _ _ _ s (.refl _ s)
      · exact agree_rpData hrp _ _ (h.mono hk)

end State
open State

/-! ### The frame of every command -/

theorem touches_of_agree {c : Instr} {s : State} {m : Nat} {ps : List Part} (hm : Part.covers ps m = true)
    (h : ∃ t, exec c s = .next t ∧ Agree m s t) : Touches c s ps := by
  obtain ⟨t, ht, ha⟩ := h
  exact ⟨t, ht, ha.sameBut hm⟩

/-- A command that reads the register at `a`, which latches `u`. -/
theorem touches_of_regRead {c : Instr} {s u : State} {k a : Nat} {ps : List Part} (hm : Part.covers ps (4352 ||| k) = true)
    (hc : exec c s = .next (s.regRead a)) (hl : s.latchAt a = u) (h : Agree k s u) : Touches c s ps :=
  touches_of_agree hm ⟨_, hc, agree_regRead_of_latchAt (hl ▸ h)⟩

/-- The case split is exec's own. Every command has its frame in Laws/AgreeExec; the eight latching reads take the closer one of their address. -/
theorem exec_touches_partsOf (s : State) : ∀ c : Instr, Touches c s (partsOf c)
  | .vaonRise b => touches_of_agree rfl (agree_execVaonRise b s)
  | .vaonALoss => touches_of_agree rfl (agree_execVaonALoss s)
  | .vaonAReturn => touches_of_agree rfl (agree_execVaonAReturn s)
  | .vaonBothLost => touches_of_agree rfl (agree_execVaonBothLost s)
  | .pfiBusGood => touches_of_agree rfl (agree_execPfiBusGood s)
  | .busGood100ms => touches_of_agree rfl (agree_execBusGood100ms s)
  | .mainGood10ms => touches_of_agree rfl (agree_execMainGood10ms s)
  | .pfiBusSag also => touches_of_agree rfl (agree_execPfiBusSag also s)
  | .backupNotGood => touches_of_agree rfl (agree_execBackupNotGood s)
  | .holdReq also => touches_of_agree rfl (agree_execHoldReq also s)
  | .acgLoss n also => touches_of_agree rfl (agree_execAcgLoss n also s)
  | .rideExit => touches_of_agree rfl (agree_execRideExit s)
  | .turnBoundary inp => touches_of_agree rfl (agree_execTurnBoundary inp s)
  | .shortfallEnd => touches_of_agree rfl (agree_execShortfallEnd s)
  | .overstakeRun p => touches_of_agree rfl (agree_execOverstakeRun p s)
  | .reportsMissing p => touches_of_agree rfl (agree_execReportsMissing p s)
  | .drainSwitchOut => touches_of_agree rfl (agree_execDrainSwitchOut s)
  | .grantExpiry => touches_of_agree rfl (agree_execGrantExpiry s)
  | .portRecordHourly => touches_of_agree rfl (agree_execPortRecordHourly s)
  | .uncoveredRecord => touches_of_agree rfl (agree_execUncoveredRecord s)
  | .signalDetect p => touches_of_agree rfl (agree_execSignalDetect p s)
  | .blockLock p lanes => touches_of_agree rfl (agree_execBlockLock p lanes s)
  | .train1 p lane laneNo coef sq => touches_of_agree rfl (agree_execTrain1 p lane laneNo coef sq s)
  | .train2 p width => touches_of_agree rfl (agree_execTrain2 p width s)
  | .trainingTimeout p => touches_of_agree rfl (agree_execTrainingTimeout p s)
  | .failedRetry p => touches_of_agree rfl (agree_execFailedRetry p s)
  | .laneLockLost p lane => touches_of_agree rfl (agree_execLaneLockLost p lane s)
  | .quiet p => touches_of_agree rfl (agree_execQuiet p s)
  | .recoverTimeout p => touches_of_agree rfl (agree_execRecoverTimeout p s)
  | .ack link h => touches_of_agree rfl (agree_execAck link h s)
  | .nak link why => touches_of_agree rfl (agree_execNak link why s)
  | .replayTimeout link => touches_of_agree rfl (agree_execReplayTimeout link s)
  | .ident p h m => touches_of_agree rfl (agree_execIdent p h m s)
  | .report p h m late => touches_of_agree rfl (agree_execReport p h m late s)
  | .map p h tag first words => touches_of_agree rfl (agree_execMap p h tag first words s)
  | .data p h tag sq chunk gen st data trayErr => touches_of_agree rfl (agree_execData p h tag sq chunk gen st data trayErr s)
  | .confirmAck p h turn acc => touches_of_agree rfl (agree_execConfirmAck p h turn acc s)
  | .revertAck p h count ovf => touches_of_agree rfl (agree_execRevertAck p h count ovf s)
  | .hclError p h code => touches_of_agree rfl (agree_execHclError p h code s)
  | .check p h serial codes => touches_of_agree rfl (agree_execCheck p h serial codes s)
  | .frozen p h m => touches_of_agree rfl (agree_execFrozen p h m s)
  | .wack p h sq chunk tag status => touches_of_agree rfl (agree_execWack p h sq chunk tag status s)
  | .wackTimeout p sq chunk => touches_of_agree rfl (agree_execWackTimeout p sq chunk s)
  | .releaseAck p h => touches_of_agree rfl (agree_execReleaseAck p h s)
  | .releaseTimeout p => touches_of_agree rfl (agree_execReleaseTimeout p s)
  | .freezeWindowClose => touches_of_agree rfl (agree_execFreezeWindowClose s)
  | .waveOpen k => touches_of_agree rfl (agree_execWaveOpen k s)
  | .descriptorComplete ring slot res corr retries us bad crc => touches_of_agree rfl (agree_execDescriptorComplete ring slot res corr retries us bad crc s)
  | .class1StripeFill => touches_of_agree rfl (agree_execClass1StripeFill s)
  | .moveLinkTimeout p => touches_of_agree rfl (agree_execMoveLinkTimeout p s)
  | .class1Cutoff => touches_of_agree rfl (agree_execClass1Cutoff s)
  | .class2Cutoff => touches_of_agree rfl (agree_execClass2Cutoff s)
  | .busWarnCross => touches_of_agree rfl (agree_execBusWarnCross s)
  | .busFaultCross => touches_of_agree rfl (agree_execBusFaultCross s)
  | .portManifestPost p => touches_of_agree rfl (agree_execPortManifestPost p s)
  | .saveManifestPost => touches_of_agree rfl (agree_execSaveManifestPost s)
  | .calSample readings => touches_of_agree rfl (agree_execCalSample readings s)
  | .calFillEnd => touches_of_agree rfl (agree_execCalFillEnd s)
  | .sledRemoved x gone => touches_of_agree rfl (agree_execSledRemoved x gone s)
  | .sledPresent x dev => touches_of_agree rfl (agree_execSledPresent x dev s)
  | .flashIslandUp x => touches_of_agree rfl (agree_execFlashIslandUp x s)
  | .vaultFounding => touches_of_agree rfl (agree_execVaultFounding s)
  | .blockMapDone x => touches_of_agree rfl (agree_execBlockMapDone x s)
  | .logScanDone x => touches_of_agree rfl (agree_execLogScanDone x s)
  | .eraseCountWrite => touches_of_agree rfl (agree_execEraseCountWrite s)
  | .indexFlush => touches_of_agree rfl (agree_execIndexFlush s)
  | .confirmUnitWrite => touches_of_agree rfl (agree_execConfirmUnitWrite s)
  | .logStripeFill => touches_of_agree rfl (agree_execLogStripeFill s)
  | .copyTimeout p sq => touches_of_agree rfl (agree_execCopyTimeout p sq s)
  | .backoffEnd p sq => touches_of_agree rfl (agree_execBackoffEnd p sq s)
  | .materialise => touches_of_agree rfl (agree_execMaterialise s)
  | .drainPullReady => touches_of_agree rfl (agree_execDrainPullReady s)
  | .verify => touches_of_agree rfl (agree_execVerify s)
  | .drain => touches_of_agree rfl (agree_execDrain s)
  | .rebuild => touches_of_agree rfl (agree_execRebuild s)
  | .vaultExport => touches_of_agree rfl (agree_execVaultExport s)
  | .keyErase => touches_of_agree rfl (agree_execKeyErase s)
  | .format => touches_of_agree rfl (agree_execFormat s)
  | .restoreStart => touches_of_agree rfl (agree_execRestoreStart s)
  | .retWaitExpiry => touches_of_agree rfl (agree_execRetWaitExpiry s)
  | .retDiscard p => touches_of_agree rfl (agree_execRetDiscard p s)
  | .retReassign p src => touches_of_agree rfl (agree_execRetReassign p src s)
  | .retLeavePending p => touches_of_agree rfl (agree_execRetLeavePending p s)
  | .retAcceptLoss p => touches_of_agree rfl (agree_execRetAcceptLoss p s)
  | .retDecideAgain p => touches_of_agree rfl (agree_execRetDecideAgain p s)
  | .retConcWrite w => touches_of_agree rfl (agree_execRetConcWrite w s)
  | .tableStaggerExpiry => touches_of_agree rfl (agree_execTableStaggerExpiry s)
  | .sampleStrobe volts => touches_of_agree rfl (agree_execSampleStrobe volts s)
  | .currentWake k => touches_of_agree rfl (agree_execCurrentWake k s)
  | .quietRateEntry k => touches_of_agree rfl (agree_execQuietRateEntry k s)
  | .insertion k => touches_of_agree rfl (agree_execInsertion k s)
  | .removal k => touches_of_agree rfl (agree_execRemoval k s)
  | .senseFault k => touches_of_agree rfl (agree_execSenseFault k s)
  | .fullAnchor k => touches_of_agree rfl (agree_execFullAnchor k s)
  | .emptyAnchor k => touches_of_agree rfl (agree_execEmptyAnchor k s)
  | .candAccept k => touches_of_agree rfl (agree_execCandAccept k s)
  | .candReject k => touches_of_agree rfl (agree_execCandReject k s)
  | .learnStart k => touches_of_agree rfl (agree_execLearnStart k s)
  | .learnAbort k => touches_of_agree rfl (agree_execLearnAbort k s)
  | .learnTimeout => touches_of_agree rfl (agree_execLearnTimeout s)
  | .nrgLatch w => touches_of_agree rfl (agree_execNrgLatch w s)
  | .estimatorRestore => touches_of_agree rfl (agree_execEstimatorRestore s)
  | .railUpTick pg win => touches_of_agree rfl (agree_execRailUpTick pg win s)
  | .railDownTick => touches_of_agree rfl (agree_execRailDownTick s)
  | .slotQualify n => touches_of_agree rfl (agree_execSlotQualify n s)
  | .chatterEdge n => touches_of_agree rfl (agree_execChatterEdge n s)
  | .slotTimeout n => touches_of_agree rfl (agree_execSlotTimeout n s)
  | .restExpiry x => touches_of_agree rfl (agree_execRestExpiry x s)
  | .vsScan codes => touches_of_agree rfl (agree_execVsScan codes s)
  | .slotStuck n => touches_of_agree rfl (agree_execSlotStuck n s)
  | .railFault n => touches_of_agree rfl (agree_execRailFault n s)
  | .railWarn n => touches_of_agree rfl (agree_execRailWarn n s)
  | .seqfltLow => touches_of_agree rfl (agree_execSeqfltLow s)
  | .seqSnapRequest w => touches_of_agree rfl (agree_execSeqSnapRequest w s)
  | .svcRetry w => touches_of_agree rfl (agree_execSvcRetry w s)
  | .marginWrite n dir target => touches_of_agree rfl (agree_execMarginWrite n dir target s)
  | .marginAck n ok => touches_of_agree rfl (agree_execMarginAck n ok s)
  | .warnMaskEnd n => touches_of_agree rfl (agree_execWarnMaskEnd n s)
  | .pbPress len => touches_of_agree rfl (agree_execPbPress len s)
  | .pbHold3s => touches_of_agree rfl (agree_execPbHold3s s)
  | .pbHoldForce len => touches_of_agree rfl (agree_execPbHoldForce len s)
  | .mrN => touches_of_agree rfl (agree_execMrN s)
  | .refclkStop => touches_of_agree rfl (agree_execRefclkStop s)
  | .refclkAbsent10us => touches_of_agree rfl (agree_execRefclkAbsent10us s)
  | .pllUnlock pll => touches_of_agree rfl (agree_execPllUnlock pll s)
  | .crystalLoss => touches_of_agree rfl (agree_execCrystalLoss s)
  | .railNotGood k => touches_of_agree rfl (agree_execRailNotGood k s)
  | .keeperHbStop => touches_of_agree rfl (agree_execKeeperHbStop s)
  | .keeperTokenRelease => touches_of_agree rfl (agree_execKeeperTokenRelease s)
  | .partnerLoss => touches_of_agree rfl (agree_execPartnerLoss s)
  | .lossSampleEnd low => touches_of_agree rfl (agree_execLossSampleEnd low s)
  | .claimHoldoffEnd => touches_of_agree rfl (agree_execClaimHoldoffEnd s)
  | .tokenClaim frzLow sleds => touches_of_agree rfl (agree_execTokenClaim frzLow sleds s)
  | .ringSettleEnd => touches_of_agree rfl (agree_execRingSettleEnd s)
  | .alive h => touches_of_agree rfl (agree_execAlive h s)
  | .aliveSend => touches_of_agree rfl (agree_execAliveSend s)
  | .frame h whole f => touches_of_agree rfl (agree_execFrame h whole f s)
  | .frameAck h fseq => touches_of_agree rfl (agree_execFrameAck h fseq s)
  | .join h id => touches_of_agree rfl (agree_execJoin h id s)
  | .yield h => touches_of_agree rfl (agree_execYield h s)
  | .handoverFinalFrame => touches_of_agree rfl (agree_execHandoverFinalFrame s)
  | .takeReady h fseq => touches_of_agree rfl (agree_execTakeReady h fseq s)
  | .takeReadyTimeout => touches_of_agree rfl (agree_execTakeReadyTimeout s)
  | .kxApprove w => touches_of_agree rfl (agree_execKxApprove w s)
  | .kxOffer h key pub sig => touches_of_agree rfl (agree_execKxOffer h key pub sig s)
  | .kxReply h key pub sig => touches_of_agree rfl (agree_execKxReply h key pub sig s)
  | .kxKeys h text => touches_of_agree rfl (agree_execKxKeys h text s)
  | .kxWraps h wraps => touches_of_agree rfl (agree_execKxWraps h wraps s)
  | .swapDrill => touches_of_agree rfl (agree_execSwapDrill s)
  | .drillDwellEnd => touches_of_agree rfl (agree_execDrillDwellEnd s)
  | .secondTick => touches_of_agree rfl (agree_execSecondTick s)
  | .fabricHello idx h addr cost seen => touches_of_agree rfl (agree_execFabricHello idx h addr cost seen s)
  | .helloSend => touches_of_agree rfl (agree_execHelloSend s)
  | .fabricPortSilent idx => touches_of_agree rfl (agree_execFabricPortSilent idx s)
  | .fabricTrainRetry idx => touches_of_agree rfl (agree_execFabricTrainRetry idx s)
  | .fabricForward idx h m => touches_of_agree rfl (agree_execFabricForward idx h m s)
  | .addressDiscover => touches_of_agree rfl (agree_execAddressDiscover s)
  | .lsa idx h m => touches_of_agree rfl (agree_execLsa idx h m s)
  | .lsaOriginate => touches_of_agree rfl (agree_execLsaOriginate s)
  | .lsaExpiry a => touches_of_agree rfl (agree_execLsaExpiry a s)
  | .routeCompute => touches_of_agree rfl (agree_execRouteCompute s)
  | .tsyncTimer => touches_of_agree rfl (agree_execTsyncTimer s)
  | .tsyncReq idx h => touches_of_agree rfl (agree_execTsyncReq idx h s)
  | .tsyncRsp idx h t2 t3 hops psync pdisc replayed => touches_of_agree rfl (agree_execTsyncRsp idx h t2 t3 hops psync pdisc replayed s)
  | .ppsEdge => touches_of_agree rfl (agree_execPpsEdge s)
  | .roundStart k => touches_of_agree rfl (agree_execRoundStart k s)
  | .tableReport idx h m => touches_of_agree rfl (agree_execTableReport idx h m s)
  | .coordinate => touches_of_agree rfl (agree_execCoordinate s)
  | .grant idx h g => touches_of_agree rfl (agree_execGrant idx h g s)
  | .telemetryRequest dst => touches_of_agree rfl (agree_execTelemetryRequest dst s)
  | .ledgerReadRequest dst => touches_of_agree rfl (agree_execLedgerReadRequest dst s)
  | .telReq idx h src => touches_of_agree rfl (agree_execTelReq idx h src s)
  | .lreadReq idx h src ofs len => touches_of_agree rfl (agree_execLreadReq idx h src ofs len s)
  | .telRsp idx h src block => touches_of_agree rfl (agree_execTelRsp idx h src block s)
  | .lreadRsp idx h src status words => touches_of_agree rfl (agree_execLreadRsp idx h src status words s)
  | .fabricError idx h src code => touches_of_agree rfl (agree_execFabricError idx h src code s)
  | .requestTimeout => touches_of_agree rfl (agree_execRequestTimeout s)
  | .faultRegistration src of => touches_of_agree rfl (agree_execFaultRegistration src of s)
  | .pairBroken idx => touches_of_agree rfl (agree_execPairBroken idx s)
  | .islandTimeout src => touches_of_agree rfl (agree_execIslandTimeout src s)
  | .resetRelease b => touches_of_agree rfl (agree_execResetRelease b s)
  | .resetEnd b => touches_of_agree rfl (agree_execResetEnd b s)
  | .shadowClose k => touches_of_agree rfl (agree_execShadowClose k s)
  | .classClear c => touches_of_agree rfl (agree_execClassClear c s)
  | .clrFirst w => touches_of_agree rfl (agree_execClrFirst w s)
  | .unlatchClass c => touches_of_agree rfl (agree_execUnlatchClass c s)
  | .forceWrite idx w => touches_of_agree rfl (agree_execForceWrite idx w s)
  | .forcePbWrite idx w => touches_of_agree rfl (agree_execForcePbWrite idx w s)
  | .isoClear hi w => touches_of_agree rfl (agree_execIsoClear hi w s)
  | .epochClose => touches_of_agree rfl (agree_execEpochClose s)
  | .epochCloseDeferred => touches_of_agree rfl (agree_execEpochCloseDeferred s)
  | .histogramTick => touches_of_agree rfl (agree_execHistogramTick s)
  | .ledgerRecordWrite => touches_of_agree rfl (agree_execLedgerRecordWrite s)
  | .norOpComplete dev res => touches_of_agree rfl (agree_execNorOpComplete dev res s)
  | .norProbe dev sfdp content => touches_of_agree rfl (agree_execNorProbe dev sfdp content s)
  | .resilverDone => touches_of_agree rfl (agree_execResilverDone s)
  | .ledgerScanDone => touches_of_agree rfl (agree_execLedgerScanDone s)
  | .wallCommit hi => touches_of_agree rfl (agree_execWallCommit hi s)
  | .epochNow w => touches_of_agree rfl (agree_execEpochNow w s)
  | .ledgerExport => touches_of_agree rfl (agree_execLedgerExport s)
  | .exportRelease => touches_of_agree rfl (agree_execExportRelease s)
  | .exportHoldTimeout => touches_of_agree rfl (agree_execExportHoldTimeout s)
  | .evqPop => touches_of_agree rfl (agree_execEvqPop s)
  | .evqRead => touches_of_regRead rfl rfl rfl (agree_latchEvq (μ := 16384) rfl s (.refl _ s))
  | .ledgerWindowRead ofs => touches_of_regRead rfl rfl (latchAt_window (Nat.le_add_right _ ofs.toNat) s) (.refl 0 s)
  | .bimgSelect => touches_of_agree rfl (agree_execBimgSelect s)
  | .bimgRescan w => touches_of_agree rfl (agree_execBimgRescan w s)
  | .slotWrite => touches_of_agree rfl (agree_execSlotWrite s)
  | .tuningReload => touches_of_agree rfl (agree_execTuningReload s)
  | .counterAdvance => touches_of_agree rfl (agree_execCounterAdvance s)
  | .keyFuse => touches_of_agree rfl (agree_execKeyFuse s)
  | .calibrationSave => touches_of_agree rfl (agree_execCalibrationSave s)
  | .hostShutdown => touches_of_agree rfl (agree_execHostShutdown s)
  | .unlatch => touches_of_agree rfl (agree_execUnlatch s)
  | .leaveService => touches_of_agree rfl (agree_execLeaveService s)
  | .cmdInvalid w => touches_of_agree rfl (agree_execCmdInvalid w s)
  | .abort => touches_of_agree rfl (agree_execAbort s)
  | .testTrip w also => touches_of_agree rfl (agree_execTestTrip w also s)
  | .portDisable p => touches_of_agree rfl (agree_execPortDisable p s)
  | .portEnable p => touches_of_agree rfl (agree_execPortEnable p s)
  | .portRetrain p => touches_of_agree rfl (agree_execPortRetrain p s)
  | .marginRegWrite w => touches_of_agree rfl (agree_execMarginRegWrite w s)
  | .viewHoldWrite w => touches_of_agree rfl (agree_execViewHoldWrite w s)
  | .stageHostWrite w => touches_of_agree rfl (agree_execStageHostWrite w s)
  | .topStampRead => touches_of_regRead rfl rfl rfl (agree_latchStamp (μ := 129) rfl s (.refl _ s))
  | .causeRecordRead last => touches_of_regRead rfl rfl (latchAt_causeRecord last s) (agree_latchCause (μ := 8192) rfl last s (.refl _ s))
  | .wallLoRead => touches_of_regRead rfl rfl rfl (agree_latchWall (μ := 16384) rfl s (.refl _ s))
  | .timeLoRead => touches_of_regRead rfl rfl rfl (agree_latchTime (μ := 16777217) rfl s (.refl _ s))
  | .descRead ring => touches_of_regRead rfl rfl (latchAt_desc ring s) (agree_latchDesc (μ := 1048576) rfl ring s (.refl _ s))
  | .strLoRead k which => touches_of_regRead rfl rfl (latchAt_str k which s) (agree_latchStr (μ := 131072) rfl k which s (.refl _ s))
  | .registerWrite a w => touches_of_agree rfl (agree_execRegisterWrite a w s)
  | .clearFaults pecOk => touches_of_agree rfl (agree_execClearFaults pecOk s)
  | .capability => touches_of_agree rfl (agree_execCapability s)
  | .statusByte => touches_of_agree rfl (agree_execStatusByte s)
  | .statusWord => touches_of_agree rfl (agree_execStatusWord s)
  | .statusCml => touches_of_agree rfl (agree_execStatusCml s)
  | .statusMfrSpecific => touches_of_agree rfl (agree_execStatusMfrSpecific s)
  | .readTemperature1 => touches_of_agree rfl (agree_execReadTemperature1 s)
  | .pmbusRevision => touches_of_agree rfl (agree_execPmbusRevision s)
  | .mfrId => touches_of_agree rfl (agree_execMfrId s)
  | .mfrModel => touches_of_agree rfl (agree_execMfrModel s)
  | .mfrRevision => touches_of_agree rfl (agree_execMfrRevision s)
  | .mfrSerial => touches_of_agree rfl (agree_execMfrSerial s)
  | .mfrHzState => touches_of_agree rfl (agree_execMfrHzState s)
  | .mfrHzSave => touches_of_agree rfl (agree_execMfrHzSave s)
  | .mfrHzStake => touches_of_agree rfl (agree_execMfrHzStake s)
  | .mfrHzEnergy => touches_of_agree rfl (agree_execMfrHzEnergy s)
  | .mfrHzVault => touches_of_agree rfl (agree_execMfrHzVault s)
  | .mfrHzFault => touches_of_agree rfl (agree_execMfrHzFault s)
  | .mfrHzRegAddr pecOk bytes => touches_of_agree rfl (agree_execMfrHzRegAddr pecOk bytes s)
  | .mfrHzReg => touches_of_agree rfl (agree_execMfrHzReg s)
  | .pmbusInvalidCommand => touches_of_agree rfl (agree_execPmbusInvalidCommand s)
  | .pmbusSclTimeout => touches_of_agree rfl (agree_execPmbusSclTimeout s)
  | .pmbPoll d rdg => touches_of_agree rfl (agree_execPmbPoll d rdg s)
  | .tapReset => touches_of_agree rfl (agree_execTapReset s)
  | .bypass => touches_of_agree rfl (agree_execBypass s)
  | .idcode => touches_of_agree rfl (agree_execIdcode s)
  | .samplePreload => touches_of_agree rfl (agree_execSamplePreload s)
  | .extest => touches_of_agree rfl (agree_execExtest s)
  | .clamp => touches_of_agree rfl (agree_execClamp s)
  | .highz => touches_of_agree rfl (agree_execHighz s)
  | .extestPulse => touches_of_agree rfl (agree_execExtestPulse s)
  | .extestTrain => touches_of_agree rfl (agree_execExtestTrain s)
  | .refclkReturn => touches_of_agree rfl (agree_execRefclkReturn s)
  | .mrNRelease => touches_of_agree rfl (agree_execMrNRelease s)
  | .pllRelock idx => touches_of_agree rfl (agree_execPllRelock idx s)
  | .crystalReturn => touches_of_agree rfl (agree_execCrystalReturn s)
  | .supplyRailGood k => touches_of_agree rfl (agree_execSupplyRailGood k s)
  | .vaonBCrossing up => touches_of_agree rfl (agree_execVaonBCrossing up s)
  | .sourceCeasesLive src sub => touches_of_agree rfl (agree_execSourceCeasesLive src sub s)
  | .registerReadError a => touches_of_agree rfl (agree_execRegisterReadError a s)
  | .fabricTrained idx => touches_of_agree rfl (agree_execFabricTrained idx s)
  | .fabricLockLost idx => touches_of_agree rfl (agree_execFabricLockLost idx s)
  | .fabricTrainingFail idx => touches_of_agree rfl (agree_execFabricTrainingFail idx s)
  | .ppsEdgeMissed => touches_of_agree rfl (agree_execPpsEdgeMissed s)
  | .hbInEdge => touches_of_agree rfl (agree_execHbInEdge s)
  | .partnerChannelSilent hb => touches_of_agree rfl (agree_execPartnerChannelSilent hb s)
  | .slotGoodLost n => touches_of_agree rfl (agree_execSlotGoodLost n s)

/-- Settles O55: the fields each command's meaning can change are among those of `partsOf`. -/
theorem everyCommandLeavesTheRest : Obligations.EveryCommandLeavesTheRest := fun c s => exec_touches_partsOf s c

end Sys2Proof.Machine
end

section
/-! PROOFS. The register port (R453, R479). The statement's clause on the latching reads of NRG.STR leaves out R267: the registers of a string that is not
configured read 0, whatever AON still holds of it. -/
set_option Elab.async false

namespace Sys2Proof.Machine
namespace State

/-! ### A read that ends well -/

/-- Below 0x10_0000 only the fabric's registers belong to an island that can be quiescent (R16). -/
theorem quiescent_of_control (s : State) {a : Nat} (h : a / 0x10000 < 0x10) (hf : a / 0x10000 ≠ 0x0B) : s.quiescent a = false := by
  simp (disch := omega) only [quiescent, Bool.and_eq_true, decide_eq_true_eq, if_neg, Bool.and_false]

/-- At a free port an aligned access to a control-island register has no cause to end in error (Table 15-3). -/
theorem rpCause_eq_zero {s : State} {a : Nat} {write : Bool} (hb : s.busy = false) (h4 : a % 4 = 0) (h : a < 0x400000) (hq : s.quiescent a = false) :
    s.rpCause a write = 0 := by
  have h3 : ¬0x800000 ≤ a := by omega
  have hr : ¬0x1000000 ≤ a := by omega
  simp [rpCause, hb, h4, hq, h3, hr]

/-- A read without a cause of error answers what its address shows once it has latched. -/
theorem regRead_of_rpCause_eq_zero {s : State} {a : Nat} (hc : s.ctlOn = true) (h0 : s.rpCause a false = 0) (h : a < 0x400000) :
    s.regRead a = (s.latchAt a).rpData ((s.latchAt a).peek a) := by
  have hw : ¬0x400000 ≤ a := by omega
  simp [regRead, hc, h0, hw]

/-! ### The strings' registers (R267, R479) -/

theorem peek_strLo (k : Fin 16) (which : Fin 3) (s : State) : s.peek (0x050110 + 0x40 * k + 8 * which) = s.strReg k (0x10 + 8 * which) := by
  have hb : (0x050110 + 0x40 * k.val + 8 * which.val) / 0x10000 = 5 := by omega
  have ho : (0x050110 + 0x40 * k.val + 8 * which.val) % 0x10000 = 0x110 + 0x40 * k + 8 * which := by omega
  have ha : arr (0x110 + 0x40 * k.val + 8 * which.val) 0x100 0x40 16 = some (k.val, 0x10 + 8 * which.val) := by
    have hk : (0x110 + 0x40 * k.val + 8 * which.val - 0x100) / 0x40 = k := by omega
    have hr : (0x110 + 0x40 * k.val + 8 * which.val - 0x100) % 0x40 = 0x10 + 8 * which := by omega
    simp (disch := omega) only [arr, Bool.and_eq_true, decide_eq_true_eq, if_pos, hk, hr]
  simp (disch := omega) only [peek, regAt, Bool.and_eq_true, decide_eq_true_eq, if_neg, hb, ho, nrgReg, ha, Option.getD_some]

/-- The registers of a string that is not configured read 0 (R267). -/
theorem strReg_unconfigured {s : State} {k : Nat} (o : Nat) (h : (s.strCfg k).configured = false) : s.strReg k o = 0 := by
  simp [strReg, h]

/-- So does the low word that a latching read of such a string answers. -/
theorem regRead_strLo_unconfigured {s : State} (k : Fin 16) (which : Fin 3) (hp : PortFree s) (h : (s.strCfg k).configured = false) :
    (s.regRead (0x050110 + 0x40 * k + 8 * which)).rp.data = 0 := by
  obtain ⟨hc, hb⟩ := hp
  have hq : s.quiescent (0x050110 + 0x40 * k.val + 8 * which.val) = false := s.quiescent_of_control (by omega) (by omega)
  rw [regRead_of_rpCause_eq_zero hc (rpCause_eq_zero hb (by omega) (by omega) hq) (by omega), latchAt_str, peek_strLo]
  exact strReg_unconfigured (s := s.latchStr k which) _ h

end State
open State

/-- Boot before an image is accepted: no string is configured, and AON still holds the charge counted for the strings. -/
def chargeHeldAtBoot : State :=
  { State.reset with top := { state := .boot }, pins := { rails := tall 6 true }, aon := { strs := tall 16 { q := 1 } } }

/-- Refutes O52, in its clause on Q_LO, C_LO and CAND_LO: in Boot before an image is accepted the port is free and AON holds a charge of 1 mC for string 0, but
no string is configured, so Q_LO reads 0 (R267). -/
theorem not_registerPort : ¬ Obligations.RegisterPort := by
  unfold Obligations.RegisterPort
  rintro ⟨-, -, -, -, strLo, -⟩
  have hp : PortFree chargeHeldAtBoot := ⟨by decide +kernel, by decide +kernel⟩
  have hu : (chargeHeldAtBoot.strCfg (0 : Fin 16)).configured = false := by decide +kernel
  obtain ⟨t, ht, -, -, hq, -⟩ := strLo 0 0 chargeHeldAtBoot hp
  obtain rfl : chargeHeldAtBoot.regRead (0x050110 + 0x40 * (0 : Fin 16) + 8 * (0 : Fin 3)) = t := by injection ht
  have hz := regRead_strLo_unconfigured 0 0 hp hu
  exact absurd (hz.symm.trans (hq rfl).1) (by decide +kernel)

end Sys2Proof.Machine
end

section
/-! PROOFS. The turn boundary (R9, R120, R512): what it samples stands in the pins to its end, since of the pins only the bus-good timer and
"backup is good" change after that, at an entry to Boot, Wake or Hold; and at the holder its parts follow one another in one order. -/
set_option Elab.async false

namespace Sys2Proof.Machine
namespace State

/-! ### The pins across a turn -/

/-- A mask of every field but the pins. -/
def notPins : Nat := 0x7FFFFFD

/-- A mask of every field but the pair's. -/
def notPair : Nat := 0x5FFFFFF

/-- The pins show what the boundary's command carries (log entry 86). -/
def PinsSampled (inp : TurnInputs) (p : Pins) : Prop :=
  p.dieTemp = inp.dieTemp ∧ p.frzExt = inp.frz ∧ p.vaonMvA = inp.vaonA ∧ p.vaonMvB = inp.vaonB
    ∧ (∀ n : Fin 8, rd p.acgLoss n = inp.acg.getLsbD n) ∧ (∀ n : Fin 8, rd p.acgLow n = inp.acgLow.getLsbD n)

/-- The pins stay, but for what the entries to Boot, Wake and Hold set: the bus-good timer and "backup is good". -/
def PinsStay (s t : State) : Prop := ∃ run good, t.pins = { s.pins with busGoodRun := run, backupGood := good }

namespace PinsStay
variable {s t u : State}

theorem of_eq (h : t.pins = s.pins) : PinsStay s t := ⟨s.pins.busGoodRun, s.pins.backupGood, h⟩

theorem of_agree (h : Agree notPins s t) : PinsStay s t := of_eq (h.pins rfl)

theorem refl (s : State) : PinsStay s s := of_eq rfl

theorem trans (h : PinsStay s t) (k : PinsStay t u) : PinsStay s u := by
  obtain ⟨run, good, ht⟩ := h
  obtain ⟨run', good', hu⟩ := k
  exact ⟨run', good', by rw [hu, ht]⟩

theorem trans_agree (h : PinsStay s t) (k : Agree notPins t u) : PinsStay s u := h.trans (of_agree k)

theorem ite {c : Prop} [Decidable c] (h : PinsStay s t) (k : PinsStay s u) : PinsStay s (if c then t else u) := by
  split
  · exact h
  · exact k

end PinsStay

theorem Agree.ite {m : Nat} {s t u : State} {c : Prop} [Decidable c] (h : Agree m s t) (k : Agree m s u) : Agree m s (if c then t else u) := by
  split
  · exact h
  · exact k

variable (s : State)

theorem toHold_pinsStay : PinsStay s s.toHold := ⟨_, s.pins.backupGood, rfl⟩

theorem toWake_pinsStay : PinsStay s s.toWake := ⟨_, s.pins.backupGood, rfl⟩

theorem bootEnter_pinsStay (keep : Bool) : PinsStay s (s.bootEnter keep) := by
  have hfab : ∀ t : State, Agree notPins t (if keep then t else t.fabStart) := fun t => .ite (.refl _ t) (agree_fabStart rfl t (.refl _ t))
  refine PinsStay.trans_agree ?_ (agree_bootSources rfl _ (agree_aonCounts rfl _ (hfab _)))
  exact ⟨s.pins.busGoodRun, false, rfl⟩

theorem warmBoot_pinsStay : PinsStay s s.warmBoot :=
  (PinsStay.of_agree (agree_ctlReset rfl true _ (.ite (agree_unlatchAll rfl s (.refl _ s)) (.refl _ s)))).trans (bootEnter_pinsStay _ true)

theorem latchedBoot_pinsStay : PinsStay s s.latchedBoot := by
  have hboot : Agree notPins s s.unlatchAll.clearForces.sinceBoot :=
    agree_sinceBoot rfl _ (agree_clearForces rfl _ (agree_unlatchAll rfl s (.refl _ s)))
  unfold latchedBoot
  refine PinsStay.trans_agree ?_ (agree_setEvt rfl 0 1 _ (.refl _ _))
  refine PinsStay.trans ?_ (bootEnter_pinsStay _ true)
  exact .of_agree (agree_mdTop rfl _ _ (Agree.upd_ledg_bimg_seq_links_vault_stage_ret _ _ _ _ _ _ _ rfl hboot))

theorem afterSeal_pinsStay : PinsStay s s.afterSeal := by
  unfold afterSeal
  exact .ite ((warmBoot_pinsStay s).trans_agree (agree_mdAon rfl _ _ (.refl _ _)))
    (.ite (.of_agree (agree_toFall rfl false s (.refl _ s)))
      (.ite (.of_agree (agree_toReturn rfl true s (.refl _ s))) (.of_agree (agree_toFall rfl true s (.refl _ s)))))

theorem afterFall_pinsStay : PinsStay s s.afterFall := by
  unfold afterFall
  exact .ite (.of_agree (agree_toLatched rfl s (.refl _ s)))
    (.ite (.ite (.of_agree (agree_toRise rfl s (.refl _ s))) (.refl s)) (.ite (toHold_pinsStay s) (toWake_pinsStay s)))

/-- Return where an image is live, Ready otherwise. -/
theorem toReturn_or_toReady_pinsStay {t : State} (live : Bool) (h : Agree notPins s t) : PinsStay s (if live then t.toReturn false else t.toReady) :=
  .of_agree (.ite (agree_toReturn rfl false t h) (agree_toReady rfl t h))

/-- The split is over the states a row of Table 01-5 starts from. -/
theorem transition_pinsStay : PinsStay s s.transition := by
  have hs : Agree notPins s s := .refl _ s
  have fall : PinsStay s s.fallNow := .of_agree (agree_fallNow rfl s hs)
  unfold transition
  cases s.top.state with
  | boot => exact .ite (.refl s) (.ite (toWake_pinsStay s) (.ite (.of_agree (agree_toRise rfl s hs)) (.refl s)))
  | rise =>
    have htop := agree_mdTop rfl (fun t => { t with wantService := false }) s hs
    exact .ite (.refl s) (.ite (.of_agree (agree_toLatched rfl s hs)) (.ite (toReturn_or_toReady_pinsStay s _ htop)
      (.ite (.of_agree (agree_went rfl .service _ htop)) (.refl s))))
  | ready => exact .ite (.refl s) (.ite fall (.ite (.of_agree (agree_toRide rfl s hs)) (.refl s)))
  | ride => exact .ite (.refl s) (.ite fall (.ite (.of_agree (agree_toReady rfl _ (agree_mdTop rfl _ s hs))) (.refl s)))
  | service =>
    exact .ite (.refl s) (.ite fall (.ite (.of_agree (agree_toRide rfl _ (agree_marginCancel rfl s hs)))
      (.ite (toReturn_or_toReady_pinsStay s _ (agree_marginCancel rfl _ (agree_mdTop rfl _ s hs))) (.refl s))))
  | ret =>
    exact .ite (.refl s) (.ite fall (.ite (.of_agree (agree_toReady rfl _ (agree_setEvt rfl 7 0 _ (agree_retRecord rfl s hs)))) (.refl s)))
  | save => exact .ite (afterSeal_pinsStay s) (.refl s)
  | fall => exact .ite (afterFall_pinsStay s) (.refl s)
  | latched => exact .ite (latchedBoot_pinsStay s) (.refl s)
  | off | wake | hold => exact .refl s

theorem holderTurn_pinsStay : PinsStay s s.holderTurn := by
  unfold holderTurn
  extract_lets s1 s2 s3 s4 s5 s6 s7 s8 s9 s10
  have h1 : Agree notPins s s1 := agree_boundaryFigures rfl s (.refl _ s)
  have h2 : Agree notPins s s2 := agree_turnTrips rfl s1 h1
  have h3 : Agree notPins s s3 := .ite (agree_advanceEpoch rfl _ (agree_mdVault rfl _ s2 h2)) h2
  have h4 : Agree notPins s s4 := .ite (agree_class2Cut rfl s3 h3) h3
  have h5 : PinsStay s s5 := (PinsStay.of_agree h4).trans (transition_pinsStay s4)
  refine .ite h5 (h5.trans_agree ?_)
  have h6 : Agree notPins s5 s6 := .ite (agree_geomTurn rfl _ (agree_stakeJudge rfl s5 (.refl _ s5))) (.refl _ s5)
  have h7 : Agree notPins s5 s7 := .ite (agree_enterSave rfl 6 0 false false s6 h6) h6
  have h8 : Agree notPins s5 s8 := agree_drillSaved rfl _ (agree_stakeCompute rfl _ s7 h7)
  have h9 : Agree notPins s5 s9 := .ite (agree_retTurn rfl _ (agree_retOverdue rfl s8 h8)) (agree_retOverdue rfl s8 h8)
  have h10 : Agree notPins s5 s10 :=
    agree_spendGrant rfl _ (agree_mapTurn rfl _ (agree_eraseAheadAll rfl _ (agree_reserveUpdate rfl _ (agree_governorStep rfl s9 h9))))
  exact agree_vaultAfter rfl _ (agree_sendConfirms rfl _ (agree_catForward rfl _ (agree_logCompact rfl _ (agree_rjobResume rfl s10 h10))))

/-! ### The boundary's parts -/

theorem turnClock_pair (inp : TurnInputs) : (s.turnClock inp).pair = s.pair := (agree_turnClock (μ := notPair) rfl inp s (.refl _ s)).pair rfl
theorem reloadCommit_pair : s.reloadCommit.pair = s.pair := (agree_reloadCommit (μ := notPair) rfl s (.refl _ s)).pair rfl
theorem judgeTemp_pair : s.judgeTemp.pair = s.pair := (agree_judgeTemp (μ := notPair) rfl s (.refl _ s)).pair rfl
theorem expireSubs_pair : s.expireSubs.pair = s.pair := (agree_expireSubs (μ := notPair) rfl s (.refl _ s)).pair rfl
theorem closeTurn_pair : s.closeTurn.pair = s.pair := (agree_closeTurn (μ := notPair) rfl s (.refl _ s)).pair rfl
theorem drainTurn_pair : s.drainTurn.pair = s.pair := (agree_drainTurn (μ := notPair) rfl s (.refl _ s)).pair rfl
theorem tableTurn_pair : s.tableTurn.pair = s.pair := (agree_tableTurn (μ := notPair) rfl s (.refl _ s)).pair rfl
theorem energyTurn_pair : s.energyTurn.pair = s.pair := (agree_energyTurn (μ := notPair) rfl s (.refl _ s)).pair rfl
theorem forN_linkTurn_pair : (forN 64 linkTurn s).pair = s.pair :=
  (Agree.forN (m := notPair) (fun p t h => agree_linkTurn rfl p t h) (.refl _ s)).pair rfl

variable {s}

theorem turnBoundary_off {inp : TurnInputs} (hc : s.ctlOn = false) : s.turnBoundary inp = s := by simp [turnBoundary, hc]

/-- The eight lets left without a name are the instant and the records that the update of `turnClock` copies from. -/
theorem turnClock_pinsSampled (inp : TurnInputs) : PinsSampled inp (s.turnClock inp).pins := by
  unfold turnClock
  extract_lets _ _ _ _ _ _ _ _ s1 s2
  have h2 : Agree notPins s1 s2 := agree_inputGone rfl s _ (.ite (agree_freeShared rfl s1 (.refl _ s1)) (.refl _ s1))
  have hpins := (Agree.ite (c := (!s.pins.seqfltLow && s2.pins.seqfltLow) = true) (agree_riseAbort rfl s2 h2) h2).pins rfl
  rw [hpins]
  exact ⟨rfl, rfl, rfl, rfl, fun n => rd_tgen _ _ n.isLt, fun n => rd_tgen _ _ n.isLt⟩

theorem PinsStay.sampled {inp : TurnInputs} {t : State} (h : PinsStay s t) (hs : PinsSampled inp s.pins) : PinsSampled inp t.pins := by
  obtain ⟨run, good, ht⟩ := h
  rw [ht]
  exact hs

theorem turnBoundary_pinsStay {inp : TurnInputs} (hc : s.ctlOn = true) (hcold : s.pair.coldDue = false) :
    PinsStay (s.turnClock inp) (s.turnBoundary inp) := by
  unfold turnBoundary
  extract_lets s0 s1 s2 s3 s4 s5
  have hcold' : ¬s0.pair.coldDue = true := by rw [turnClock_pair, hcold]; decide
  rw [if_neg (by simp [hc]), if_neg hcold']
  have h1 : Agree notPins s0 s1 :=
    agree_drainTurn rfl _ (agree_closeTurn rfl _ (agree_expireSubs rfl _ (agree_judgeTemp rfl _ (agree_reloadCommit rfl s0 (.refl _ s0)))))
  have h2 : Agree notPins s0 s2 := .ite (agree_tableTurn rfl s1 h1) h1
  have h4 : Agree notPins s0 s4 := .forN (fun p t h => agree_linkTurn rfl p t h) (agree_energyTurn rfl s2 h2)
  have h5 : PinsStay s4 s5 :=
    PinsStay.trans_agree (.ite (holderTurn_pinsStay s4) (.ite (.refl s4) (transition_pinsStay s4))) (agree_islandsTurn rfl s4 _ (.refl _ _))
  have hend : Agree notPins s5 (({ s5 with ret := { s5.ret with go := s5.tableGo } }).latchReport.turnEnd inp) :=
    agree_turnEnd rfl inp _ (agree_latchReport rfl _ (Agree.upd_ret _ rfl (.refl _ s5)))
  exact (PinsStay.of_agree h4).trans (h5.trans_agree (.ite hend (.refl _ s5)))

theorem turnBoundary_holder {inp : TurnInputs} (hc : s.ctlOn = true) (hcold : s.pair.coldDue = false) (hdrv : s.pair.drv = true) :
    s.turnBoundary inp =
      let a := ((((s.turnClock inp).reloadCommit.judgeTemp.expireSubs).closeTurn).drainTurn).tableTurn.energyTurn
      let b := forN 64 linkTurn a
      let c := islandsTurn b b.holderTurn
      if c.ctlOn then ({ c with ret := { c.ret with go := c.tableGo } }).latchReport.turnEnd inp else c := by
  simp only [turnBoundary, hc, hcold, hdrv, turnClock_pair, reloadCommit_pair, judgeTemp_pair, expireSubs_pair, closeTurn_pair, drainTurn_pair, tableTurn_pair,
    energyTurn_pair, forN_linkTurn_pair, Bool.not_true, Bool.false_eq_true, if_false, if_true]

end State
open State

/-- Settles O14: without the control island nothing happens; what the boundary samples stays to its end; and the parts of a holder's boundary are those of
`turnBoundary`, since none of them ahead of `holderTurn` changes who holds the token. -/
theorem turnBoundaryTakesInputs : Obligations.TurnBoundaryTakesInputs := by
  unfold Obligations.TurnBoundaryTakesInputs
  refine ⟨fun inp s hc => ?_, fun inp s hc hcold => ?_, fun inp s hc hcold hdrv => ?_⟩
  · exact ⟨_, rfl, turnBoundary_off hc⟩
  · exact ⟨_, rfl, (turnBoundary_pinsStay hc hcold).sampled (turnClock_pinsSampled inp)⟩
  · exact ⟨_, rfl, turnBoundary_holder hc hcold hdrv⟩

end Sys2Proof.Machine
end

section
/-! PROOFS. The transition table (R20, R27): the counterexample is the entry to standby, in which one step both ends the time as no standby and follows the
holder's state. -/
set_option Elab.async false

namespace Sys2Proof.Machine
open State

/-- Boot of a paired controller that may claim the token: it has not heard its partner yet, so it is no standby. -/
def unheardBoot : State :=
  { State.reset with
    top := { state := .boot }, pins := { rails := tall 6 true }, fab := { pl := { st := 3 } }
    bimg := { img := { core := { paired := true } }, running := true }, pair := { occ := .boot } }

/-- The state frame of a holder in Ready, next in order. -/
def readyFrame : Frame := { fseq := 1, state := TopState.ready.code }

/-- The first whole frame a controller hears in Boot makes it a standby, which shows the holder's state at once (R27, R332). -/
theorem unheardBoot_frameRx_state : (unheardBoot.frameRx { seq := 0 } true readyFrame).top.state = .ready := by
  decide +kernel

/-- Refutes O15: in Boot a controller that is no standby yet hears its partner's first frame, becomes its standby and shows Ready in the same step; Table 01-5
has no row from Boot to Ready. -/
theorem not_stateMovesFollowTheTable : ¬ Obligations.StateMovesFollowTheTable := by
  unfold Obligations.StateMovesFollowTheTable
  intro h
  let s : State := { unheardBoot with pending := [.frame { seq := 0 } true readyFrame] }
  have hstep : step s = .next (unheardBoot.onCtl (frameRx { seq := 0 } true readyFrame)) := rfl
  have hctl : unheardBoot.ctlOn = true := by decide +kernel
  have hmem := h s _ rfl hstep
  rw [onCtl_on (s := unheardBoot) hctl, unheardBoot_frameRx_state] at hmem
  exact absurd hmem (by decide +kernel)
end Sys2Proof.Machine
end

section
/-! PROOFS. The control island unpowered or in reset (Table 01-3, R18, R454): every command but those of Table 01-3's other islands passes one of a few gates,
each of which asks for that island, or for the fabric island where the command is its own; closed, a gate leaves the state or answers on the dead register
port. -/
set_option Elab.async false

namespace Sys2Proof.Machine
namespace State
variable {s : State}

/-! ### The gates, closed -/

theorem rpAt_off {a : Nat} {f : State → State} (h : s.ctlOn = false) : s.rpAt a f = s.rpDead := by simp [rpAt, h]
theorem rpWrite_off {a : Nat} {f : State → State} (h : s.ctlOn = false) : s.rpWrite a f = s.rpDead := by simp [rpWrite, h]
theorem regRead_off {a : Nat} (h : s.ctlOn = false) : s.regRead a = s.rpDead := by simp [regRead, h]
theorem regWrite_off {a : Nat} {w : Word} (h : s.ctlOn = false) : s.regWrite a w = s.rpDead := by simp [regWrite, h]
theorem pmbRead_off {k : Nat} {b : Bool} {f : State → List Byte} (h : s.ctlOn = false) : s.pmbRead k b f = s := by simp [pmbRead, h]
theorem pmbWriteCmd_off {ok : Bool} {f : State → State} (h : s.ctlOn = false) : s.pmbWriteCmd ok f = s := by simp [pmbWriteCmd, h]
theorem onFab_off {f : State → State} (h : s.fabRuns = false) : s.onFab f = s := by simp [onFab, h]
theorem portOn_off {i : Nat} (h : s.ctlOn = false) : s.portOn i = false := by simp [portOn, h]

end State
open State

/-! ### What a command answers behind a closed gate -/

/-- The command answers the state as it is, but for the dead answer of the register port where it is an access of that port. -/
def Still (c : Instr) (s : State) : Prop := exec c s = .next s ∨ exec c s = .next s.rpDead

namespace Still
variable {c : Instr} {s : State}

theorem onCtl {f : State → State} (h : s.ctlOn = false) (hc : exec c s = .next (s.onCtl f)) : Still c s := .inl (by rw [hc, onCtl_off s h])
theorem onFab {f : State → State} (h : s.fabRuns = false) (hc : exec c s = .next (s.onFab f)) : Still c s := .inl (by rw [hc, onFab_off h])
theorem rpAt {a : Nat} {f : State → State} (h : s.ctlOn = false) (hc : exec c s = .next (s.rpAt a f)) : Still c s := .inr (by rw [hc, rpAt_off h])
theorem rpWrite {a : Nat} {f : State → State} (h : s.ctlOn = false) (hc : exec c s = .next (s.rpWrite a f)) : Still c s :=
  .inr (by rw [hc, rpWrite_off h])
theorem regRead {a : Nat} (h : s.ctlOn = false) (hc : exec c s = .next (s.regRead a)) : Still c s := .inr (by rw [hc, regRead_off h])
theorem pmbRead {k : Nat} {b : Bool} {f : State → List Byte} (h : s.ctlOn = false) (hc : exec c s = .next (s.pmbRead k b f)) : Still c s :=
  .inl (by rw [hc, pmbRead_off h])
theorem pmbWriteCmd {ok : Bool} {f : State → State} (h : s.ctlOn = false) (hc : exec c s = .next (s.pmbWriteCmd ok f)) : Still c s :=
  .inl (by rw [hc, pmbWriteCmd_off h])

/-- A command that tests for its island itself. -/
theorem of_eq {t : State} (ht : t = s) (hc : exec c s = .next t) : Still c s := .inl (by rw [hc, ht])

theorem touches (h : Still c s) : Touches c s [.clk, .rp] := by
  rcases h with h | h
  · exact ⟨s, h, fun x _ => (Agree.refl 0 s).same x (Nat.zero_testBit _)⟩
  · exact ⟨s.rpDead, h, (agree_rpDead (μ := 4096) rfl s (.refl _ s)).sameBut rfl⟩

end Still

/-- The arms are the gates: register port, PMBus target, control island, fabric island, and the commands that test for their island themselves. -/
theorem exec_still (s : State) (h : s.ctlOn = false) :
    ∀ c : Instr, actsUnpowered c = false → (actsOnFabric c = true → s.fabRuns = false) → Still c s
  | .keeperHbStop, hu, _ | .keeperTokenRelease, hu, _ | .vaonRise _, hu, _ | .vaonALoss, hu, _ | .vaonAReturn, hu, _ | .vaonBothLost, hu, _
  | .pfiBusGood, hu, _ | .busGood100ms, hu, _ | .mainGood10ms, hu, _ | .pfiBusSag _, hu, _ | .backupNotGood, hu, _ | .holdReq _, hu, _
  | .acgLoss _ _, hu, _ | .pbPress _, hu, _ | .pbHold3s, hu, _ | .pbHoldForce _, hu, _ | .mrN, hu, _ | .mrNRelease, hu, _ | .refclkStop, hu, _
  | .refclkAbsent10us, hu, _ | .refclkReturn, hu, _ | .pllUnlock _, hu, _ | .pllRelock _, hu, _ | .crystalLoss, hu, _ | .crystalReturn, hu, _
  | .railNotGood _, hu, _ | .supplyRailGood _, hu, _ | .vaonBCrossing _, hu, _ | .secondTick, hu, _ | .tapReset, hu, _ | .bypass, hu, _
  | .idcode, hu, _ | .samplePreload, hu, _ | .extest, hu, _ | .clamp, hu, _ | .highz, hu, _ | .extestPulse, hu, _ | .extestTrain, hu, _
  | .sledRemoved _ _, hu, _ | .sledPresent _ _, hu, _ => nomatch hu
  | .faultRegistration _ _, _, _ | .pairBroken _, _, _ | .islandTimeout _, _, _ | .resetRelease _, _, _ | .resetEnd _, _, _ | .shadowClose _, _, _
  | .classClear _, _, _ | .sourceCeasesLive _ _, _, _ | .grantExpiry, _, _ | .epochClose, _, _ | .epochCloseDeferred, _, _ | .histogramTick, _, _
  | .ledgerRecordWrite, _, _ | .norOpComplete _ _, _, _ | .norProbe _ _ _, _, _ | .resilverDone, _, _ | .exportHoldTimeout, _, _
  | .recoverTimeout _, _, _ | .ident _ _ _, _, _ | .report _ _ _ _, _, _ | .map _ _ _ _ _, _, _ | .data _ _ _ _ _ _ _ _ _, _, _
  | .confirmAck _ _ _ _, _, _ | .revertAck _ _ _ _, _, _ | .hclError _ _ _, _, _ | .check _ _ _ _, _, _ | .frozen _ _ _, _, _
  | .wack _ _ _ _ _ _, _, _ | .wackTimeout _ _ _, _, _ | .releaseAck _ _, _, _ | .releaseTimeout _, _, _ | .partnerLoss, _, _ | .lossSampleEnd _, _, _
  | .claimHoldoffEnd, _, _ | .ringSettleEnd, _, _ | .alive _, _, _ | .aliveSend, _, _ | .frame _ _ _, _, _ | .frameAck _ _, _, _ | .join _ _, _, _
  | .yield _, _, _ | .handoverFinalFrame, _, _ | .takeReady _ _, _, _ | .takeReadyTimeout, _, _ | .kxOffer _ _ _ _, _, _ | .kxReply _ _ _ _, _, _
  | .kxKeys _ _, _, _ | .kxWraps _ _, _, _ | .drillDwellEnd, _, _ | .readTemperature1, _, _ | .pmbusInvalidCommand, _, _ | .pmbPoll _ _, _, _
  | .restoreStart, _, _ | .retWaitExpiry, _, _ | .tableStaggerExpiry, _, _ | .freezeWindowClose, _, _ | .waveOpen _, _, _ | .class1StripeFill, _, _
  | .moveLinkTimeout _, _, _ | .class1Cutoff, _, _ | .class2Cutoff, _, _ | .busWarnCross, _, _ | .busFaultCross, _, _ | .portManifestPost _, _, _
  | .saveManifestPost, _, _ | .calSample _, _, _ | .calFillEnd, _, _ | .railUpTick _ _, _, _ | .railDownTick, _, _ | .slotQualify _, _, _
  | .chatterEdge _, _, _ | .slotTimeout _, _, _ | .slotGoodLost _, _, _ | .slotStuck _, _, _ | .restExpiry _, _, _ | .vsScan _, _, _
  | .railFault _, _, _ | .railWarn _, _, _ | .marginAck _ _, _, _ | .warnMaskEnd _, _, _ | .confirmUnitWrite, _, _ | .logStripeFill, _, _
  | .copyTimeout _ _, _, _ | .backoffEnd _ _, _, _ | .shortfallEnd, _, _ | .overstakeRun _, _, _ | .reportsMissing _, _, _ | .portRecordHourly, _, _
  | .uncoveredRecord, _, _ | .sampleStrobe _, _, _ | .currentWake _, _, _ | .quietRateEntry _, _, _ | .insertion _, _, _ | .removal _, _, _
  | .senseFault _, _, _ | .fullAnchor _, _, _ | .emptyAnchor _, _, _ | .learnTimeout, _, _ | .descriptorComplete _ _ _ _ _ _ _ _, _, _
  | .flashIslandUp _, _, _ | .vaultFounding, _, _ | .blockMapDone _, _, _ | .logScanDone _, _, _ | .eraseCountWrite, _, _ | .indexFlush, _, _
  | .materialise, _, _ | .drainSwitchOut, _, _ | .drainPullReady, _, _ => .onCtl h rfl
  | .fabricHello _ _ _ _ _, _, hf | .helloSend, _, hf | .fabricPortSilent _, _, hf | .fabricTrainRetry _, _, hf | .fabricForward _ _ _, _, hf
  | .addressDiscover, _, hf | .lsa _ _ _, _, hf | .lsaOriginate, _, hf | .lsaExpiry _, _, hf | .routeCompute, _, hf | .tsyncTimer, _, hf
  | .tsyncReq _ _, _, hf | .tsyncRsp _ _ _ _ _ _ _ _, _, hf | .ppsEdge, _, hf | .ppsEdgeMissed, _, hf | .roundStart _, _, hf
  | .tableReport _ _ _, _, hf | .coordinate, _, hf | .grant _ _ _, _, hf | .telReq _ _ _, _, hf | .lreadReq _ _ _ _ _, _, hf | .telRsp _ _ _ _, _, hf
  | .lreadRsp _ _ _ _ _, _, hf | .fabricError _ _ _ _, _, hf | .requestTimeout, _, hf | .fabricTrained _, _, hf | .fabricLockLost _, _, hf
  | .fabricTrainingFail _, _, hf => .onFab (hf rfl) rfl
  | .telemetryRequest _, _, _ | .ledgerReadRequest _, _, _ | .abort, _, _ | .portDisable _, _, _ | .portEnable _, _, _ | .portRetrain _, _, _ => .rpAt h rfl
  | .clrFirst _, _, _ | .unlatchClass _, _, _ | .forceWrite _ _, _, _ | .forcePbWrite _ _, _, _ | .isoClear _ _, _, _ | .bimgRescan _, _, _
  | .wallCommit _, _, _ | .epochNow _, _, _ | .exportRelease, _, _ | .evqPop, _, _ | .kxApprove _, _, _ | .retDiscard _, _, _ | .retReassign _ _, _, _
  | .retLeavePending _, _, _ | .retAcceptLoss _, _, _ | .retDecideAgain _, _, _ | .retConcWrite _, _, _ | .testTrip _ _, _, _
  | .seqSnapRequest _, _, _ | .svcRetry _, _, _ | .marginWrite _ _ _, _, _ | .stageHostWrite _, _, _ | .marginRegWrite _, _, _
  | .viewHoldWrite _, _, _ | .candAccept _, _, _ | .candReject _, _, _ | .learnStart _, _, _ | .learnAbort _, _, _ | .nrgLatch _, _, _
  | .hostShutdown, _, _ | .unlatch, _, _ | .leaveService, _, _ | .cmdInvalid _, _, _ | .slotWrite, _, _ | .tuningReload, _, _ | .counterAdvance, _, _
  | .keyFuse, _, _ | .ledgerExport, _, _ | .swapDrill, _, _ | .calibrationSave, _, _ | .estimatorRestore, _, _ | .verify, _, _ | .drain, _, _
  | .rebuild, _, _ | .vaultExport, _, _ | .keyErase, _, _ | .format, _, _ => .rpWrite h rfl
  | .topStampRead, _, _ | .causeRecordRead _, _, _ | .timeLoRead, _, _ | .descRead _, _, _ | .strLoRead _ _, _, _ | .registerReadError _, _, _
  | .evqRead, _, _ | .ledgerWindowRead _, _, _ | .wallLoRead, _, _ => .regRead h rfl
  | .capability, _, _ | .statusByte, _, _ | .statusWord, _, _ | .statusCml, _, _ | .statusMfrSpecific, _, _ | .pmbusRevision, _, _ | .mfrId, _, _
  | .mfrModel, _, _ | .mfrRevision, _, _ | .mfrSerial, _, _ | .mfrHzState, _, _ | .mfrHzSave, _, _ | .mfrHzStake, _, _ | .mfrHzEnergy, _, _
  | .mfrHzVault, _, _ | .mfrHzFault, _, _ => .pmbRead h rfl
  | .clearFaults _, _, _ | .mfrHzRegAddr _ _, _, _ => .pmbWriteCmd h rfl
  | .registerWrite _ _, _, _ => .inr (congrArg Host.Outcome.next (regWrite_off h))
  | .signalDetect (.port _), _, _ | .failedRetry (.port _), _, _ => .of_eq (if_neg (by simp [portOn_off h])) rfl
  | .blockLock (.port _) _, _, _ | .train1 (.port _) _ _ _ _, _, _ | .train2 (.port _) _, _, _ | .trainingTimeout (.port _), _, _
  | .laneLockLost (.port _) _, _, _ | .quiet (.port _), _, _ | .ack (.port _) _, _, _ | .ack .partner _, _, _ | .nak (.port _) _, _, _ | .nak .partner _, _, _
  | .replayTimeout (.port _), _, _ | .replayTimeout .partner, _, _ => .onCtl h rfl
  | .ack (.fab _) _, _, hf | .nak (.fab _) _, _, hf | .replayTimeout (.fab _), _, hf => .onFab (hf rfl) rfl
  | .signalDetect .partner, _, hf => .of_eq (by simp [plSignal, hf rfl]) rfl
  | .blockLock .partner lanes, _, hf => .of_eq (by cases hw : widthLanes 2 lanes.toNat <;> simp [plLock, hw, hf rfl]) rfl
  | .train1 .partner _ _ _ _, _, hf => .of_eq (by simp [plTrain1, hf rfl]) rfl
  | .train2 .partner _, _, hf => .of_eq (by simp [plTrain2, hf rfl]) rfl
  | .trainingTimeout .partner, _, hf => .of_eq (by simp [plTimeout, hf rfl]) rfl
  | .failedRetry .partner, _, hf => .of_eq (by simp [plRetry, hf rfl]) rfl
  | .laneLockLost .partner _, _, hf => .of_eq (by simp [plLost, hf rfl]) rfl
  | .quiet .partner, _, hf => .of_eq (by simp [plQuiet, hf rfl]) rfl
  | .bimgSelect, _, _ => .of_eq (by simp [bimgSelect, h]) rfl
  | .ledgerScanDone, _, _ => .of_eq (by simp [ledgerScan, h]) rfl
  | .tokenClaim _ _, _, _ => .of_eq (by simp [tokenClaim, h]) rfl
  | .hbInEdge, _, _ => .of_eq (by simp [hbEdge, h]) rfl
  | .partnerChannelSilent _, _, _ => .of_eq (by simp [channelSilent, h]) rfl
  | .mfrHzReg, _, _ => .of_eq (by simp [pmbReg, h]) rfl
  | .pmbusSclTimeout, _, _ => .inl rfl
  | .rideExit, _, _ => .of_eq (by simp [rideExit, h]) rfl
  | .turnBoundary _, _, _ => .of_eq (turnBoundary_off h) rfl
  | .seqfltLow, _, _ => .of_eq (by simp [seqfltLow, h]) rfl

/-- Settles O56: each gate is closed. -/
theorem unpoweredControlIslandIsStill : Obligations.UnpoweredControlIslandIsStill := by
  unfold Obligations.UnpoweredControlIslandIsStill
  intro c s hoff hpow hfab
  exact (exec_still s hoff c hpow hfab).touches

end Sys2Proof.Machine
end

section
/-! PROOFS. Each entry to Boot counts (R32). A state's `mark` is TOP.STATE with the power-cycle counter. Every operation either keeps the mark, or moves it
`Quiet`ly (to a state other than Boot, the counter as it was), or enters Boot once and counts on (`Counts`). -/
set_option Elab.async false

namespace Sys2Proof.Machine
namespace State
/-- The top-level state and the count of power cycles. -/
def mark (s : State) : TopState × Nat := (s.top.state, s.aon.cycles)

@[simp] theorem mark_mk (a b c d e f g h i j k l m n o p q r t u v w x y z a' b') :
    mark (State.mk a b c d e f g h i j k l m n o p q r t u v w x y z a' b') = (h.state, c.cycles) := by simp only [mark]
@[simp] theorem mark_fold (s : State) : (s.top.state, s.aon.cycles) = s.mark := by simp only [mark]
@[simp] theorem mark_ite (c : Prop) [Decidable c] (s t : State) : mark (if c then s else t) = if c then s.mark else t.mark := apply_ite mark c s t
theorem mark_of_agree {s t : State} (h : Agree 0x7FFFF7B s t) : t.mark = s.mark := by simp only [mark, h.top rfl, h.aon rfl]
@[simp] theorem forL_mark {α : Type} {l : List α} {f : α → State → State} (hf : ∀ x t, (f x t).mark = t.mark) (s : State) : (forL l f s).mark = s.mark := by
  unfold Sys2Proof.forL
  induction l generalizing s with
  | nil => rfl
  | cons a l ih => exact (ih _).trans (hf a s)
@[simp] theorem forN_mark {n : Nat} {f : Nat → State → State} (hf : ∀ x t, (f x t).mark = t.mark) (s : State) : (forN n f s).mark = s.mark := forL_mark hf s
@[simp] theorem iter_mark {n : Nat} {f : State → State} (hf : ∀ t, (f t).mark = t.mark) (s : State) : (iter n f s).mark = s.mark := by
  unfold Sys2Proof.iter
  induction List.range n generalizing s with
  | nil => rfl
  | cons a l ih => exact (ih _).trans (hf s)
/-! ### The operations that keep the mark -/

@[simp] theorem setEvt_mark (b bit : Nat) (s : State) : (setEvt b bit s).mark = s.mark := mark_of_agree (agree_setEvt rfl b bit s (.refl _ s))
@[simp] theorem tick_mark (s : State) : (tick s).mark = s.mark := mark_of_agree (agree_tick rfl s (.refl _ s))
@[simp] theorem raise_mark (src sub : Nat) (till : Option Nat) (s : State) : (raise src sub till s).mark = s.mark :=
  mark_of_agree (agree_raise rfl src sub till s (.refl _ s))
@[simp] theorem unraise_mark (src sub : Nat) (s : State) : (unraise src sub s).mark = s.mark :=
  mark_of_agree (agree_unraise rfl src sub s (.refl _ s))
@[simp] theorem follow_mark (src sub : Nat) (c : Bool) (s : State) : (follow src sub c s).mark = s.mark :=
  mark_of_agree (agree_follow rfl src sub c s (.refl _ s))
@[simp] theorem arrive_mark (s : State) : (arrive s).mark = s.mark := mark_of_agree (agree_arrive rfl s (.refl _ s))
@[simp] theorem count_mark (kind unit datum : Nat) (s : State) : (count kind unit datum s).mark = s.mark :=
  mark_of_agree (agree_count rfl kind unit datum s (.refl _ s))
@[simp] theorem when_mark (c : Bool) (f : State → State) (s : State) (hf : ∀ t, (f t).mark = t.mark) : (when c f s).mark = s.mark := by
  simp [when, hf]
@[simp] theorem acceptChips_mark (s : State) : (acceptChips s).mark = s.mark := mark_of_agree (agree_acceptChips rfl s (.refl _ s))
@[simp] theorem clearHold_mark (s : State) : (clearHold s).mark = s.mark := mark_of_agree (agree_clearHold rfl s (.refl _ s))
@[simp] theorem epochStart_mark (s : State) : (epochStart s).mark = s.mark := mark_of_agree (agree_epochStart rfl s (.refl _ s))
@[simp] theorem takeTuning_mark (s : State) : (takeTuning s).mark = s.mark := mark_of_agree (agree_takeTuning rfl s (.refl _ s))
@[simp] theorem epochClose_mark (eflags : Nat) (s : State) : (epochClose eflags s).mark = s.mark :=
  mark_of_agree (agree_epochClose rfl eflags s (.refl _ s))
@[simp] theorem epochMinMax_mark (val : Nat → Option Int) (s : State) : (epochMinMax val s).mark = s.mark :=
  mark_of_agree (agree_epochMinMax rfl val s (.refl _ s))
@[simp] theorem evqPop_mark (s : State) : (evqPop s).mark = s.mark := mark_of_agree (agree_evqPop rfl s (.refl _ s))
@[simp] theorem wallCommit_mark (hi : Word) (s : State) : (wallCommit hi s).mark = s.mark := by simp [wallCommit]
@[simp] theorem firstDrive_mark (s : State) : (firstDrive s).mark = s.mark := by simp [firstDrive]
@[simp] theorem mdSlot_mark (n : Nat) (f : Slot → Slot) (s : State) : (mdSlot n f s).mark = s.mark :=
  mark_of_agree (agree_mdSlot rfl n f s (.refl _ s))
@[simp] theorem isoJoin_mark (s : State) : (isoJoin s).mark = s.mark := mark_of_agree (agree_isoJoin rfl s (.refl _ s))
@[simp] theorem loadLevels_mark (s : State) : (loadLevels s).mark = s.mark := mark_of_agree (agree_loadLevels rfl s (.refl _ s))
@[simp] theorem riseAbort_mark (s : State) : (riseAbort s).mark = s.mark := mark_of_agree (agree_riseAbort rfl s (.refl _ s))
@[simp] theorem inputGone_mark (was : State) (s : State) : (inputGone was s).mark = s.mark := mark_of_agree (agree_inputGone rfl was s (.refl _ s))
@[simp] theorem clearRail_mark (n : Nat) (flt wrn : Bool) (s : State) : (clearRail n flt wrn s).mark = s.mark :=
  mark_of_agree (agree_clearRail rfl n flt wrn s (.refl _ s))
@[simp] theorem setEn_mark (n : Nat) (b : Bool) (s : State) : (setEn n b s).mark = s.mark := by simp [setEn]
@[simp] theorem unstick_mark (n : Nat) (s : State) : (unstick n s).mark = s.mark := mark_of_agree (agree_unstick rfl n s (.refl _ s))
@[simp] theorem phaseAfter_mark (s : State) : (phaseAfter s).mark = s.mark := mark_of_agree (agree_phaseAfter rfl s (.refl _ s))
@[simp] theorem snapshot_mark (cause slotNo : Nat) (s : State) : (snapshot cause slotNo s).mark = s.mark :=
  mark_of_agree (agree_snapshot rfl cause slotNo s (.refl _ s))
@[simp] theorem seqLatch_mark (s : State) : (seqLatch s).mark = s.mark := by simp [seqLatch]
@[simp] theorem startSvc_mark (s : State) : (startSvc s).mark = s.mark := mark_of_agree (agree_startSvc rfl s (.refl _ s))
@[simp] theorem downEnd_mark (k : DownKind) (s : State) : (downEnd k s).mark = s.mark := by
  unfold downEnd
  split <;> simp
@[simp] theorem downSlotStep_mark (d : Down) (n : Nat) (s : State) : (downSlotStep d n s).mark = s.mark := by simp [downSlotStep]
@[simp] theorem leftRise_mark (was : State) (k : Nat) (s : State) : (leftRise was k s).mark = s.mark :=
  mark_of_agree (agree_leftRise rfl was k s (.refl _ s))
@[simp] theorem pbCount_mark (unit len : Nat) (s : State) : (pbCount unit len s).mark = s.mark :=
  mark_of_agree (agree_pbCount rfl unit len s (.refl _ s))
@[simp] theorem railDown_mark (s : State) : (railDown s).mark = s.mark := by simp [railDown]
@[simp] theorem sampleSlot_mark (pg win : BitVec 64) (n : Nat) (s : State) : (sampleSlot pg win n s).mark = s.mark :=
  mark_of_agree (agree_sampleSlot rfl pg win n s (.refl _ s))
@[simp] theorem upSlotStep_mark (n : Nat) (s : State) : (upSlotStep n s).mark = s.mark := by simp [upSlotStep]
@[simp] theorem railUp_mark (pg win : BitVec 64) (s : State) : (railUp pg win s).mark = s.mark := by simp [railUp]
@[simp] theorem seqfltLow_mark (s : State) : (seqfltLow s).mark = s.mark := by simp [seqfltLow]
@[simp] theorem abortIf_mark (c : Bool) (s : State) : (abortIf c s).mark = s.mark := mark_of_agree (agree_abortIf rfl c s (.refl _ s))
@[simp] theorem mdStr_mark (k : Nat) (f : Str → Str) (s : State) : (mdStr k f s).mark = s.mark := by simp [mdStr]
@[simp] theorem learnAbort_mark (s : State) : (learnAbort s).mark = s.mark := mark_of_agree (agree_learnAbort rfl s (.refl _ s))
@[simp] theorem learnTrip_mark (s : State) : (learnTrip s).mark = s.mark := by simp [learnTrip]
@[simp] theorem anchorSoc_mark (k : Nat) (s : State) : (anchorSoc k s).mark = s.mark := by simp [anchorSoc]
@[simp] theorem bankCopy_mark (s : State) : (bankCopy s).mark = s.mark := by simp [bankCopy]
@[simp] theorem strEnergy_mark (k : Nat) (s : State) : (strEnergy k s).mark = s.mark := by simp [strEnergy]
@[simp] theorem ePotUpdate_mark (p : Option Nat) (s : State) : (ePotUpdate p s).mark = s.mark := by simp [ePotUpdate]
@[simp] theorem estDrive_mark (n : Nat) (b : Bool) (s : State) : (estDrive n b s).mark = s.mark := by simp [estDrive]
@[simp] theorem loadOff_mark (n : Nat) (s : State) : (loadOff n s).mark = s.mark := by simp [loadOff]
@[simp] theorem learnDrive_mark (s : State) : (learnDrive s).mark = s.mark := by
  unfold learnDrive
  split <;> simp
@[simp] theorem learnStep_mark (s : State) : (learnStep s).mark = s.mark := by simp [learnStep]
@[simp] theorem judgeWear_mark (k : Nat) (s : State) : (judgeWear k s).mark = s.mark := by simp [judgeWear]
@[simp] theorem setCap_mark (k c : Nat) (s : State) : (setCap k c s).mark = s.mark := by simp [setCap]
@[simp] theorem strCount_mark (kind k : Nat) (q : Int) (s : State) : (strCount kind k q s).mark = s.mark :=
  mark_of_agree (agree_strCount rfl kind k q s (.refl _ s))
@[simp] theorem learned_mark (k c : Nat) (q : Int) (s : State) : (learned k c q s).mark = s.mark := by simp [learned]
@[simp] theorem candAct_mark (a : Nat × Bool) (s : State) : (candAct a s).mark = s.mark := by simp [candAct]
@[simp] theorem restoreRejected_mark (s : State) : (restoreRejected s).mark = s.mark := mark_of_agree (agree_restoreRejected rfl s (.refl _ s))
@[simp] theorem mdStrC_mark (k : Nat) (f : StrC → StrC) (s : State) : (mdStrC k f s).mark = s.mark :=
  mark_of_agree (agree_mdStrC rfl k f s (.refl _ s))
@[simp] theorem currentWake_mark (k : Nat) (s : State) : (currentWake k s).mark = s.mark := by simp [currentWake]
@[simp] theorem learnRun_mark (k : Nat) (s : State) : (learnRun k s).1.mark = s.mark := by
  simp only [learnRun, apply_ite Prod.fst, mark_ite, ite_self, setEvt_mark, strCount_mark, setCap_mark, mdStr_mark]
@[simp] theorem emptyAnchor_mark (k : Nat) (s : State) : (emptyAnchor k s).mark = s.mark := by
  simp only [emptyAnchor, apply_ite Prod.fst, mark_ite, mark_mk, mark_fold, ite_self, learnRun_mark, anchorSoc_mark, setEvt_mark, strCount_mark, mdStrC_mark, mdStr_mark]
@[simp] theorem restoreStr_mark (b : List Byte) (k : Nat) (s : State) : (restoreStr b k s).mark = s.mark := by simp [restoreStr]
@[simp] theorem restoreCommit_mark (s : State) : (restoreCommit s).mark = s.mark := by
  unfold restoreCommit
  split <;> simp
@[simp] theorem freshEstimate_mark (k : Nat) (s : State) : (freshEstimate k s).mark = s.mark := by simp [freshEstimate]
@[simp] theorem fullAnchor_mark (k : Nat) (s : State) : (fullAnchor k s).mark = s.mark := by
  simp [fullAnchor]
  repeat' split
  all_goals simp
@[simp] theorem gapRule_mark (k g : Nat) (s : State) : (gapRule k g s).mark = s.mark := by simp [gapRule]
@[simp] theorem reportSoc_mark (k : Nat) (v8 : Int) (s : State) : (reportSoc k v8 s).mark = s.mark := by simp [reportSoc]
@[simp] theorem insertion_mark (k : Nat) (s : State) : (insertion k s).mark = s.mark := by
  simp [insertion]
  repeat' split
  all_goals simp
@[simp] theorem integrate_mark (k dt : Nat) (iNow : Int) (s : State) : (integrate k dt iNow s).mark = s.mark := by simp [integrate]
@[simp] theorem latchImage_mark (s : State) : (latchImage s).mark = s.mark := mark_of_agree (agree_latchImage rfl s (.refl _ s))
@[simp] theorem quietEntry_mark (k : Nat) (s : State) : (quietEntry k s).mark = s.mark := by simp [quietEntry]
@[simp] theorem removal_mark (k : Nat) (s : State) : (removal k s).mark = s.mark := by simp [removal]
@[simp] theorem sampleStr_mark (codes : List (Nat × Nat × Nat)) (k : Nat) (s : State) : (sampleStr codes k s).mark = s.mark := by
  unfold sampleStr
  extract_lets _ _ _ _ _ _ _ _ _ _ _ _ gap dt s0 s1 s2 s3 s4 _ _ _ _ _ s5 s6
  have h1 : s1.mark = s.mark := by simp only [s1, s0, mark_ite, ite_self, unraise_mark, tick_mark, mdStr_mark]
  have h2 : s2.mark = s1.mark := by
    unfold s2
    clear_value gap dt
    split
    · exact integrate_mark _ _ _ _
    · rfl
  have h4 : s4.mark = s3.mark := by
    unfold s4
    clear_value gap
    split
    · simp only [mark_ite, ite_self, gapRule_mark]
    · rfl
  simp only [mark_ite, follow_mark, s6, s5, s3, reportSoc_mark, mdStr_mark, mdStrC_mark, h4, h2, h1, ite_self]
@[simp] theorem sampleStrobe_mark (volts : List (Int × Int × Int)) (s : State) : (sampleStrobe volts s).mark = s.mark := by simp [sampleStrobe]
@[simp] theorem senseFault_mark (k : Nat) (s : State) : (senseFault k s).mark = s.mark := by simp [senseFault]
@[simp] theorem mdLk_mark (p : Nat) (f : Link → Link) (s : State) : (mdLk p f s).mark = s.mark := mark_of_agree (agree_mdLk rfl p f s (.refl _ s))
@[simp] theorem sendFreeze_mark (serial : Nat) (test : Bool) (s : State) : (sendFreeze serial test s).mark = s.mark :=
  mark_of_agree (agree_sendFreeze rfl serial test s (.refl _ s))
@[simp] theorem cmdEnd_mark (st : Nat) (s : State) : (cmdEnd st s).mark = s.mark := mark_of_agree (agree_cmdEnd rfl st s (.refl _ s))
@[simp] theorem mdSled_mark (x : Nat) (f : Sled → Sled) (s : State) : (mdSled x f s).mark = s.mark :=
  mark_of_agree (agree_mdSled rfl x f s (.refl _ s))
@[simp] theorem mdVault_mark (f : Vault → Vault) (s : State) : (mdVault f s).mark = s.mark := mark_of_agree (agree_mdVault rfl f s (.refl _ s))
@[simp] theorem mdRing_mark (r : Nat) (f : Ring → Ring) (s : State) : (mdRing r f s).mark = s.mark :=
  mark_of_agree (agree_mdRing rfl r f s (.refl _ s))
@[simp] theorem catUnit_mark (id : Nat) (at_ : Option (Nat × Nat × Nat)) (s : State) : (catUnit id at_ s).mark = s.mark :=
  mark_of_agree (agree_catUnit rfl id at_ s (.refl _ s))
@[simp] theorem stripeUnit_mark (area num pos : Nat) (at_ : Option (Nat × Nat)) (s : State) : (stripeUnit area num pos at_ s).mark = s.mark :=
  mark_of_agree (agree_stripeUnit rfl area num pos at_ s (.refl _ s))
@[simp] theorem sysEnded_mark (group : Nat) (s : State) : (sysEnded group s).mark = s.mark := mark_of_agree (agree_sysEnded rfl group s (.refl _ s))
@[simp] theorem reserveUpdate_mark (s : State) : (reserveUpdate s).mark = s.mark := mark_of_agree (agree_reserveUpdate rfl s (.refl _ s))
@[simp] theorem eraseAhead_mark (x : Nat) (s : State) : (eraseAhead x s).mark = s.mark := mark_of_agree (agree_eraseAhead rfl x s (.refl _ s))
@[simp] theorem chargeUnit_mark (s : State) : (chargeUnit s).mark = s.mark := by simp [chargeUnit]
@[simp] theorem putCell_mark (r loc : Nat) (u : Option FUnit) (s : State) : (putCell r loc u s).mark = s.mark :=
  mark_of_agree (agree_putCell rfl r loc u s (.refl _ s))
@[simp] theorem progDone_mark (r : Nat) (d : Desc) (s : State) : (progDone r d s).mark = s.mark := by
  unfold progDone
  repeat' split
  all_goals simp
@[simp] theorem mdPp_mark (p : Nat) (f : StgP → StgP) (s : State) : (mdPp p f s).mark = s.mark := mark_of_agree (agree_mdPp rfl p f s (.refl _ s))
@[simp] theorem governorStep_mark (s0 : State) : (governorStep s0).mark = s0.mark := by simp [governorStep]
@[simp] theorem mdSave_mark (f : Save → Save) (s : State) : (mdSave f s).mark = s.mark := mark_of_agree (agree_mdSave rfl f s (.refl _ s))
@[simp] theorem assertFrz_mark (s : State) : (assertFrz s).mark = s.mark := by simp [assertFrz]
@[simp] theorem saveBegin_mark (rank : Nat) (also : BitVec 8) (test cal : Bool) (s0 : State) : (saveBegin rank also test cal s0).mark = s0.mark := by
  simp [saveBegin]
@[simp] theorem tripNoSave_mark (rank : Nat) (also : BitVec 8) (s : State) : (tripNoSave rank also s).mark = s.mark := by simp [tripNoSave]
@[simp] theorem buildUnconf_mark (p : Nat) (s : State) : (buildUnconf p s).mark = s.mark := mark_of_agree (agree_buildUnconf rfl p s (.refl _ s))
@[simp] theorem mdPair_mark (f : Pair → Pair) (s : State) : (mdPair f s).mark = s.mark := mark_of_agree (agree_mdPair rfl f s (.refl _ s))
@[simp] theorem psend_mark (m : PMsg) (s : State) : (psend m s).mark = s.mark := mark_of_agree (agree_psend rfl m s (.refl _ s))
@[simp] theorem kxTurn_mark (s : State) : (kxTurn s).mark = s.mark := mark_of_agree (agree_kxTurn rfl s (.refl _ s))
@[simp] theorem vaultAfter_mark (s : State) : (vaultAfter s).mark = s.mark := mark_of_agree (agree_vaultAfter rfl s (.refl _ s))
@[simp] theorem readDone_mark (d : Desc) (r corr bad crc : Nat) (s : State) : (readDone d r corr bad crc s).mark = s.mark :=
  mark_of_agree (agree_readDone rfl d r corr bad crc s (.refl _ s))
@[simp] theorem growBad_mark (r d b : Nat) (s : State) : (growBad r d b s).mark = s.mark := mark_of_agree (agree_growBad rfl r d b s (.refl _ s))
@[simp] theorem eraseBlk_mark (r d b : Nat) (s : State) : (eraseBlk r d b s).mark = s.mark := mark_of_agree (agree_eraseBlk rfl r d b s (.refl _ s))
@[simp] theorem progFail_mark (r : Nat) (d : Desc) (s : State) : (progFail r d s).mark = s.mark :=
  mark_of_agree (agree_progFail rfl r d s (.refl _ s))
@[simp] theorem progRefused_mark (r : Nat) (d : Desc) (s : State) : (progRefused r d s).mark = s.mark :=
  mark_of_agree (agree_progRefused rfl r d s (.refl _ s))
@[simp] theorem unitLost_mark (u : Option FUnit) (w : Why) (s : State) : (unitLost u w s).mark = s.mark :=
  mark_of_agree (agree_unitLost rfl u w s (.refl _ s))
@[simp] theorem ringComplete_mark (r i res corr retries us : Nat) (s : State) : (ringComplete r i res corr retries us s).2.mark = s.mark := by
  unfold ringComplete
  split
  · rfl
  split
  · rfl
  extract_lets _ s1 s1e s1f s2
  have h1 : s1.mark = s.mark := mdRing_mark _ _ _
  have hf : s1f.mark = s1.mark := by
    simp only [s1f, s1e, mark_ite, ite_self, growBad_mark, eraseBlk_mark]
  show s2.mark = s.mark
  unfold s2
  repeat' split
  all_goals simp only [progDone_mark, progFail_mark, progRefused_mark, unitLost_mark, sysEnded_mark, mdVault_mark, hf, h1]
@[simp] theorem descComplete_mark (r i res corr retries us bad crc : Nat) (s : State) : (descComplete r i res corr retries us bad crc s).mark = s.mark := by
  have h := ringComplete_mark r i res corr retries us s
  unfold descComplete
  split
  · simpa only [*] using h
  · simp only [vaultAfter_mark, readDone_mark, mark_ite, ite_self, eraseAhead_mark, reserveUpdate_mark]
    simpa only [*] using h
@[simp] theorem mdStake_mark (f : StkVals → StkVals) (s : State) : (mdStake f s).mark = s.mark := mark_of_agree (agree_mdStake rfl f s (.refl _ s))
@[simp] theorem stakeLoad_mark (boot : Bool) (s : State) : (stakeLoad boot s).mark = s.mark := mark_of_agree (agree_stakeLoad rfl boot s (.refl _ s))
@[simp] theorem missPort_mark (p : Nat) (s : State) : (missPort p s).mark = s.mark := mark_of_agree (agree_missPort rfl p s (.refl _ s))
@[simp] theorem stakeFigures_mark (s : State) : (stakeFigures s).mark = s.mark := mark_of_agree (agree_stakeFigures rfl s (.refl _ s))
@[simp] theorem stakeJudge_mark (s : State) : (stakeJudge s).mark = s.mark := mark_of_agree (agree_stakeJudge rfl s (.refl _ s))
@[simp] theorem sendStakes_mark (s : State) : (sendStakes s).mark = s.mark := mark_of_agree (agree_sendStakes rfl s (.refl _ s))
@[simp] theorem learnStart_mark (k : Nat) (p : Option Nat) (s : State) : (learnStart k p s).mark = s.mark := by simp [learnStart]
@[simp] theorem freeShared_mark (s : State) : (freeShared s).mark = s.mark := by simp [freeShared]
@[simp] theorem becomeStandby_mark (s : State) : (becomeStandby s).mark = s.mark := by simp [becomeStandby]
@[simp] theorem freeIdle_mark (s : State) : (freeIdle s).mark = s.mark := by simp [freeIdle]
@[simp] theorem releaseToken_mark (s : State) : (releaseToken s).mark = s.mark := by simp [releaseToken]
@[simp] theorem plHeard_mark (s : State) : (plHeard s).mark = s.mark := mark_of_agree (agree_plHeard rfl s (.refl _ s))
@[simp] theorem preceive_mark (h : Hdr) (f : State → State) (s : State) (hf : ∀ t, (f t).mark = t.mark) : (preceive h f s).mark = s.mark := by
  simp only [preceive, mark_ite, ite_self, hf, psend_mark, plHeard_mark, mdPair_mark]
@[simp] theorem applyStrs_mark (f : Frame) (s : State) : (applyStrs f s).mark = s.mark := by simp [applyStrs]
@[simp] theorem driveShared_mark (lv : BitVec 64) (s : State) : (driveShared lv s).mark = s.mark := by simp [driveShared]
@[simp] theorem unplan_mark (s : State) : (unplan s).mark = s.mark := by simp [unplan]
@[simp] theorem bootHeard_mark (s : State) : (bootHeard s).mark = s.mark := by simp [bootHeard]
@[simp] theorem drivePulls_mark (s : State) : (drivePulls s).mark = s.mark := by simp [drivePulls]
@[simp] theorem dwellTurn_mark (s : State) : (dwellTurn s).mark = s.mark := mark_of_agree (agree_dwellTurn rfl s (.refl _ s))
@[simp] theorem kxNeed_mark (s : State) : (kxNeed s).mark = s.mark := mark_of_agree (agree_kxNeed rfl s (.refl _ s))
@[simp] theorem frameTurn_mark (s : State) : (frameTurn s).mark = s.mark := mark_of_agree (agree_frameTurn rfl s (.refl _ s))
@[simp] theorem handTurn_mark (s : State) : (handTurn s).mark = s.mark := mark_of_agree (agree_handTurn rfl s (.refl _ s))
@[simp] theorem kxStart_mark (s : State) : (kxStart s).mark = s.mark := mark_of_agree (agree_kxStart rfl s (.refl _ s))
@[simp] theorem lossSampleEnd_mark (low : Bool) (s : State) : (lossSampleEnd low s).mark = s.mark := by simp [lossSampleEnd]
@[simp] theorem sharedFollow_mark (s : State) : (sharedFollow s).mark = s.mark := by simp [sharedFollow]
@[simp] theorem standbyTurn_mark (s : State) : (standbyTurn s).mark = s.mark := mark_of_agree (agree_standbyTurn rfl s (.refl _ s))
@[simp] theorem takeReadyRx_mark (h : Hdr) (fseq : Nat) (s : State) : (takeReadyRx h fseq s).mark = s.mark := by
  unfold takeReadyRx
  refine (preceive_mark _ _ _ fun t => ?_).trans (arrive_mark s)
  simp only [mark_ite, mark_mk, setEvt_mark, freeShared_mark, forN_mark, mdPp_mark, implies_true]
  split
  · rfl
  · split <;> rfl
@[simp] theorem addrSource_mark (s : State) : (addrSource s).mark = s.mark := mark_of_agree (agree_addrSource rfl s (.refl _ s))
@[simp] theorem mdFab_mark (f : Fab → Fab) (s : State) : (mdFab f s).mark = s.mark := mark_of_agree (agree_mdFab rfl f s (.refl _ s))
@[simp] theorem mdFport_mark (i : Nat) (f : FabPort → FabPort) (s : State) : (mdFport i f s).mark = s.mark :=
  mark_of_agree (agree_mdFport rfl i f s (.refl _ s))
@[simp] theorem fabImage_mark (s : State) : (fabImage s).mark = s.mark := mark_of_agree (agree_fabImage rfl s (.refl _ s))
@[simp] theorem addrDiscover_mark (s : State) : (addrDiscover s).mark = s.mark := by
  simp [addrDiscover]
  repeat' split
  all_goals simp
@[simp] theorem fabBad_mark (i : Nat) (h : Hdr) (s : State) : (fabBad i h s).mark = s.mark := mark_of_agree (agree_fabBad rfl i h s (.refl _ s))
@[simp] theorem freceive_mark (i : Nat) (h : Hdr) (f : State → State) (s : State) (hf : ∀ t, (f t).mark = t.mark) : (freceive i h f s).mark = s.mark := by
  simp only [freceive, mark_ite, ite_self, hf, fabBad_mark, mdFport_mark]
@[simp] theorem flood_mark (m : Lsa) (but : Option Nat) (s : State) : (flood m but s).mark = s.mark :=
  mark_of_agree (agree_flood rfl m but s (.refl _ s))
@[simp] theorem lsaAge_mark (s : State) : (lsaAge s).mark = s.mark := mark_of_agree (agree_lsaAge rfl s (.refl _ s))
@[simp] theorem storeLsa_mark (m : Lsa) (s : State) : (storeLsa m s).mark = s.mark := mark_of_agree (agree_storeLsa rfl m s (.refl _ s))
@[simp] theorem ownConflict_mark (m : Lsa) (s : State) : (ownConflict m s).mark = s.mark := by
  have hflood : ∀ (x : Lsa) (t : State) (a : Aon), a.cycles = t.aon.cycles → mark { t.flood x none with aon := a } = t.mark := by
    intro x t a ha
    simp only [mark, ha, (agree_flood (μ := 0x7FFFF7B) rfl x none t (.refl _ t)).top rfl]
  unfold ownConflict
  extract_lets s1 _ gone s2
  have h1 : s1.mark = s.mark := setEvt_mark _ _ s
  have h2 : s2.mark = s.mark := (storeLsa_mark _ _).trans (mdFab_mark _ _)
  have haon : s2.aon = s.aon := (agree_storeLsa (μ := 0x7FFFFFB) rfl gone _ (agree_mdFab rfl _ s (.refl _ s))).aon rfl
  split
  · split
    · exact (mdFab_mark _ _).trans h1
    · exact h1
  · split
    · exact (hflood _ _ _ (congrArg Aon.cycles haon.symm)).trans h2
    · exact mdFab_mark _ _
@[simp] theorem lsaRx_mark (i : Nat) (h : Hdr) (m : Lsa) (s : State) : (lsaRx i h m s).mark = s.mark := by simp [lsaRx]
@[simp] theorem mdPins_mark (f : Pins → Pins) (s : State) : (mdPins f s).mark = s.mark := mark_of_agree (agree_mdPins rfl f s (.refl _ s))
@[simp] theorem mdTop_mark {f : Top → Top} (hf : ∀ t, (f t).state = t.state) (s : State) : (s.mdTop f).mark = s.mark := by
  simp only [mdTop, mark_mk, hf, mark_fold]
@[simp] theorem aonRegs_mark (s : State) : (aonRegs s).mark = s.mark := by simp [aonRegs]
@[simp] theorem ctlReset_mark (keep : Bool) (s : State) : (ctlReset keep s).mark = s.mark := by simp [ctlReset]
@[simp] theorem mdAon_mark {f : Aon → Aon} (hf : ∀ t, (f t).cycles = t.cycles) (s : State) : (s.mdAon f).mark = s.mark := by
  simp only [mdAon, mark_mk, hf, mark_fold]
@[simp] theorem aonCounts_mark (s : State) : (aonCounts s).mark = s.mark := by simp [aonCounts]
@[simp] theorem unlatchAll_mark (s : State) : (unlatchAll s).mark = s.mark := by simp [unlatchAll]
@[simp] theorem backupFollow_mark (s : State) : (backupFollow s).mark = s.mark := mark_of_agree (agree_backupFollow rfl s (.refl _ s))
@[simp] theorem crystal_mark (run : Bool) (s : State) : (crystal run s).mark = s.mark := by simp [crystal]
@[simp] theorem inputEdge_mark (s : State) : (inputEdge s).mark = s.mark := mark_of_agree (agree_inputEdge rfl s (.refl _ s))
@[simp] theorem toMain_mark (s : State) : (toMain s).mark = s.mark := by simp [toMain]
@[simp] theorem pfiGood_mark (s : State) : (pfiGood s).mark = s.mark := by simp [pfiGood]
@[simp] theorem mainGood10_mark (s : State) : (mainGood10 s).mark = s.mark := by simp [mainGood10]
@[simp] theorem mrN_mark (s : State) : (mrN s).mark = s.mark := by simp [mrN]
@[simp] theorem sagSupply_mark (s : State) : (sagSupply s).mark = s.mark := by simp [sagSupply]
@[simp] theorem switchOver_mark (toA : Bool) (s : State) : (switchOver toA s).mark = s.mark := by simp [switchOver]
@[simp] theorem vaonSource_mark (s : State) : (vaonSource s).mark = s.mark := mark_of_agree (agree_vaonSource rfl s (.refl _ s))
@[simp] theorem vaonALoss_mark (s : State) : (vaonALoss s).mark = s.mark := by
  unfold vaonALoss
  split
  · rfl
  · dsimp only; split <;> simp
@[simp] theorem vaonAReturn_mark (s : State) : (vaonAReturn s).mark = s.mark := by
  unfold vaonAReturn
  split
  · rfl
  · dsimp only; split <;> simp
@[simp] theorem mdFlt_mark (f : Flt → Flt) (s : State) : (mdFlt f s).mark = s.mark := mark_of_agree (agree_mdFlt rfl f s (.refl _ s))
@[simp] theorem classClear_mark (c : Nat) (s : State) : (classClear c s).mark = s.mark := by simp [classClear]
@[simp] theorem forcePbWrite_mark (i : Nat) (w : Word) (s : State) : (forcePbWrite i w s).mark = s.mark :=
  mark_of_agree (agree_forcePbWrite rfl i w s (.refl _ s))
@[simp] theorem forceWrite_mark (i : Nat) (w : Word) (s : State) : (forceWrite i w s).mark = s.mark :=
  mark_of_agree (agree_forceWrite rfl i w s (.refl _ s))
@[simp] theorem isoClear_mark (hi : Bool) (w : Word) (s : State) : (isoClear hi w s).mark = s.mark :=
  mark_of_agree (agree_isoClear rfl hi w s (.refl _ s))
@[simp] theorem unlatchClass_mark (c : Nat) (s : State) : (unlatchClass c s).mark = s.mark := by simp [unlatchClass]
@[simp] theorem sealResets_mark (s : State) : (sealResets s).mark = s.mark := mark_of_agree (agree_sealResets rfl s (.refl _ s))
@[simp] theorem bootToken_mark (tokenLow : Bool) (s : State) : (bootToken tokenLow s).mark = s.mark := by simp [bootToken]
@[simp] theorem askFrozen_mark (s : State) : (askFrozen s).mark = s.mark := mark_of_agree (agree_askFrozen rfl s (.refl _ s))
@[simp] theorem claimed_mark (s : State) : (claimed s).mark = s.mark := by simp [claimed]
@[simp] theorem claimBase_mark (kind : Nat) (s : State) : (claimBase kind s).mark = s.mark := by simp [claimBase]
@[simp] theorem solo_mark (s : State) : (solo s).mark = s.mark := mark_of_agree (agree_solo rfl s (.refl _ s))
@[simp] theorem coldTake_mark (s : State) : (coldTake s).mark = s.mark := by
  simp [coldTake]
  repeat' split
  all_goals simp
@[simp] theorem drillTake_mark (f : Frame) (s : State) : (drillTake f s).mark = s.mark := by simp [drillTake]
@[simp] theorem sendReverts_mark (f : Frame) (s : State) : (sendReverts f s).mark = s.mark := mark_of_agree (agree_sendReverts rfl f s (.refl _ s))
@[simp] theorem resume_mark (f : Frame) (c : Ckpt) (s : State) : (resume f c s).mark = s.mark := by simp [resume]
@[simp] theorem takeGrant_mark (f : Frame) (s : State) : (takeGrant f s).mark = s.mark := mark_of_agree (agree_takeGrant rfl f s (.refl _ s))
@[simp] theorem takeStage_mark (f : Frame) (s : State) : (takeStage f s).mark = s.mark := by simp [takeStage]
@[simp] theorem takeStakes_mark (f : Frame) (s : State) : (takeStakes f s).mark = s.mark := mark_of_agree (agree_takeStakes rfl f s (.refl _ s))
@[simp] theorem takeVault_mark (f : Frame) (sleds : Option (Tab SledDev 4)) (s : State) : (takeVault f sleds s).mark = s.mark :=
  mark_of_agree (agree_takeVault rfl f sleds s (.refl _ s))
@[simp] theorem takeFrame_mark (f : Frame) (sleds : Option (Tab SledDev 4)) (s : State) : (takeFrame f sleds s).mark = s.mark := by
  unfold takeFrame
  have hseq : ∀ t : State, (takeSeq' f t).mark = t.mark := fun t => mark_of_agree (agree_takeSeq' rfl f t (.refl _ t))
  simp only [hseq, driveShared_mark, takeVault_mark, takeStage_mark, takeGrant_mark, takeStakes_mark]
@[simp] theorem mdCmd_mark (f : LongCmd → LongCmd) (s : State) : (s.mdCmd f).mark = s.mark := rfl
@[simp] theorem mdBimg_mark (f : Bimg → Bimg) (s : State) : (mdBimg f s).mark = s.mark := mark_of_agree (agree_mdBimg rfl f s (.refl _ s))
@[simp] theorem abortTurn_mark (s : State) : (abortTurn s).mark = s.mark := mark_of_agree (agree_abortTurn rfl s (.refl _ s))
@[simp] theorem accept_mark (x : Nat) (i : BImg) (s : State) : (accept x i s).mark = s.mark := by simp [accept]
@[simp] theorem bimgJudge_mark (s : State) : (bimgJudge s).mark = s.mark := by
  unfold bimgJudge
  have h1 : (s.judgeSlot 0).2.mark = s.mark := mark_of_agree (agree_judgeSlot rfl 0 s (.refl _ s))
  have h2 : ∀ t : State, (t.judgeSlot 1).2.mark = t.mark := fun t => mark_of_agree (agree_judgeSlot rfl 1 t (.refl _ t))
  dsimp only
  split <;> simp only [mark_ite, accept_mark, ite_self, h2, h1]
@[simp] theorem judgeSlot_mark (x : Nat) (s : State) : (s.judgeSlot x).2.mark = s.mark := mark_of_agree (agree_judgeSlot rfl x s (.refl _ s))
@[simp] theorem bimgRejudge_mark (s : State) : (bimgRejudge s).mark = s.mark := by
  simp only [bimgRejudge, mark_ite, ite_self, bimgJudge_mark, mdBimg_mark, judgeSlot_mark]
@[simp] theorem bimgRescan_mark (s : State) : (bimgRescan s).mark = s.mark := by simp [bimgRescan]
@[simp] theorem bimgSelect_mark (s : State) : (bimgSelect s).mark = s.mark := by simp [bimgSelect]
@[simp] theorem calCmdEnd_mark (s : State) : (calCmdEnd s).mark = s.mark := mark_of_agree (agree_calCmdEnd rfl s (.refl _ s))
@[simp] theorem longCmd_mark (c : Nat) (ok : Bool) (f : State → State) (s : State) (hf : ∀ t, (f t).mark = t.mark) : (longCmd c ok f s).mark = s.mark := by
  simp only [longCmd, mark_ite, ite_self, hf, mdCmd_mark]
@[simp] theorem cmdCal_mark (s : State) : (cmdCal s).mark = s.mark := mark_of_agree (agree_cmdCal rfl s (.refl _ s))
@[simp] theorem cmdCounter_mark (s : State) : (cmdCounter s).mark = s.mark := mark_of_agree (agree_cmdCounter rfl s (.refl _ s))
@[simp] theorem cmdDrain_mark (s : State) : (cmdDrain s).mark = s.mark := mark_of_agree (agree_cmdDrain rfl s (.refl _ s))
@[simp] theorem cmdDrill_mark (s : State) : (cmdDrill s).mark = s.mark := mark_of_agree (agree_cmdDrill rfl s (.refl _ s))
@[simp] theorem cmdExport_mark (s : State) : (cmdExport s).mark = s.mark := mark_of_agree (agree_cmdExport rfl s (.refl _ s))
@[simp] theorem cmdFormat_mark (s : State) : (cmdFormat s).mark = s.mark := mark_of_agree (agree_cmdFormat rfl s (.refl _ s))
@[simp] theorem cmdInvalid_mark (w : Word) (s : State) : (cmdInvalid w s).mark = s.mark := mark_of_agree (agree_cmdInvalid rfl w s (.refl _ s))
@[simp] theorem cmdKeyErase_mark (s : State) : (cmdKeyErase s).mark = s.mark := mark_of_agree (agree_cmdKeyErase rfl s (.refl _ s))
@[simp] theorem cmdKeyFuse_mark (s : State) : (cmdKeyFuse s).mark = s.mark := mark_of_agree (agree_cmdKeyFuse rfl s (.refl _ s))
@[simp] theorem shortCmd_mark (c : Nat) (ok : Bool) (f : State → State) (s : State) (hf : ∀ t, (f t).mark = t.mark) : (shortCmd c ok f s).mark = s.mark := by
  simp only [shortCmd, mark_ite, ite_self, hf, mdCmd_mark]
@[simp] theorem cmdLeave_mark (s : State) : (cmdLeave s).mark = s.mark := by simp [cmdLeave]
@[simp] theorem cmdRebuild_mark (s : State) : (cmdRebuild s).mark = s.mark := mark_of_agree (agree_cmdRebuild rfl s (.refl _ s))
@[simp] theorem cmdReload_mark (s : State) : (cmdReload s).mark = s.mark := mark_of_agree (agree_cmdReload rfl s (.refl _ s))
@[simp] theorem cmdRestore_mark (s : State) : (cmdRestore s).mark = s.mark := by simp [cmdRestore]
@[simp] theorem cmdShutdown_mark (s : State) : (cmdShutdown s).mark = s.mark := by simp [cmdShutdown]
@[simp] theorem cmdSlotWrite_mark (s : State) : (cmdSlotWrite s).mark = s.mark := mark_of_agree (agree_cmdSlotWrite rfl s (.refl _ s))
@[simp] theorem cmdUnlatch_mark (s : State) : (cmdUnlatch s).mark = s.mark := by simp [cmdUnlatch]
@[simp] theorem cmdVaultExport_mark (s : State) : (cmdVaultExport s).mark = s.mark := mark_of_agree (agree_cmdVaultExport rfl s (.refl _ s))
@[simp] theorem cmdVerify_mark (s : State) : (cmdVerify s).mark = s.mark := mark_of_agree (agree_cmdVerify rfl s (.refl _ s))
@[simp] theorem counterTurn_mark (s : State) : (counterTurn s).mark = s.mark := mark_of_agree (agree_counterTurn rfl s (.refl _ s))
@[simp] theorem exportTurn_mark (s : State) : (exportTurn s).mark = s.mark := mark_of_agree (agree_exportTurn rfl s (.refl _ s))
@[simp] theorem keyFuseTurn_mark (s : State) : (keyFuseTurn s).mark = s.mark := by
  unfold keyFuseTurn
  repeat' split
  all_goals simp
@[simp] theorem topCmd_mark (w : Word) (s : State) : (topCmd w s).mark = s.mark := by
  unfold topCmd
  repeat' split
  all_goals simp
@[simp] theorem polTurn_mark (s : State) : (polTurn s).mark = s.mark := mark_of_agree (agree_polTurn rfl s (.refl _ s))
@[simp] theorem rpData_mark (w : Word) (s : State) : (rpData w s).mark = s.mark := mark_of_agree (agree_rpData rfl w s (.refl _ s))
@[simp] theorem rpDead_mark (s : State) : (rpDead s).mark = s.mark := mark_of_agree (agree_rpDead rfl s (.refl _ s))
@[simp] theorem rpErr_mark (cause addr : Nat) (write : Bool) (s : State) : (rpErr cause addr write s).mark = s.mark :=
  mark_of_agree (agree_rpErr rfl cause addr write s (.refl _ s))
@[simp] theorem reloadCommit_mark (s : State) : (reloadCommit s).mark = s.mark := by
  unfold reloadCommit
  repeat' split
  all_goals simp
@[simp] theorem slotWritePoll_mark (s : State) : (slotWritePoll s).mark = s.mark := by simp [slotWritePoll]
@[simp] theorem clrEvt_mark (b : Nat) (w : Word) (s : State) : (clrEvt b w s).mark = s.mark := mark_of_agree (agree_clrEvt rfl b w s (.refl _ s))
@[simp] theorem setCtrl_mark (b mask : Nat) (w : Word) (s : State) : (setCtrl b mask w s).mark = s.mark :=
  mark_of_agree (agree_setCtrl rfl b mask w s (.refl _ s))
@[simp] theorem bimgWrite_mark (o : Nat) (w : Word) (s : State) : (bimgWrite o w s).mark = s.mark := by
  unfold bimgWrite
  repeat' split
  all_goals simp
@[simp] theorem cmlSet_mark (bit : Nat) (s : State) : (cmlSet bit s).mark = s.mark := mark_of_agree (agree_cmlSet rfl bit s (.refl _ s))
@[simp] theorem fltCtrl_mark (w : Word) (s : State) : (fltCtrl w s).mark = s.mark := mark_of_agree (agree_fltCtrl rfl w s (.refl _ s))
@[simp] theorem fltWrite_mark (o : Nat) (w : Word) (s : State) : (fltWrite o w s).mark = s.mark := by
  unfold fltWrite
  repeat' split
  all_goals simp
@[simp] theorem latchCause_mark (last : Bool) (s : State) : (latchCause last s).mark = s.mark :=
  mark_of_agree (agree_latchCause rfl last s (.refl _ s))
@[simp] theorem latchDesc_mark (r : Nat) (s : State) : (latchDesc r s).mark = s.mark := mark_of_agree (agree_latchDesc rfl r s (.refl _ s))
@[simp] theorem latchEvq_mark (s : State) : (latchEvq s).mark = s.mark := mark_of_agree (agree_latchEvq rfl s (.refl _ s))
@[simp] theorem latchStamp_mark (s0 : State) : (latchStamp s0).mark = s0.mark := by simp [latchStamp]
@[simp] theorem latchStr_mark (k which : Nat) (s : State) : (latchStr k which s).mark = s.mark :=
  mark_of_agree (agree_latchStr rfl k which s (.refl _ s))
@[simp] theorem latchTime_mark (s0 : State) : (latchTime s0).mark = s0.mark := mark_of_agree (agree_latchTime rfl s0 (.refl _ s0))
@[simp] theorem latchWall_mark (s : State) : (latchWall s).mark = s.mark := mark_of_agree (agree_latchWall rfl s (.refl _ s))
@[simp] theorem latchAt_mark (a : Nat) (s : State) : (latchAt a s).mark = s.mark := by
  unfold latchAt
  repeat' split
  all_goals simp
@[simp] theorem ledgCtrl_mark (w : Word) (s : State) : (ledgCtrl w s).mark = s.mark := mark_of_agree (agree_ledgCtrl rfl w s (.refl _ s))
@[simp] theorem ledgRegWrite_mark (o : Nat) (w : Word) (s : State) : (ledgRegWrite o w s).mark = s.mark := by
  unfold ledgRegWrite
  repeat' split
  all_goals simp
@[simp] theorem nrgCand_mark (w : Word) (s : State) : (nrgCand w s).mark = s.mark := mark_of_agree (agree_nrgCand rfl w s (.refl _ s))
@[simp] theorem nrgCtrl_mark (w : Word) (s : State) : (nrgCtrl w s).mark = s.mark := mark_of_agree (agree_nrgCtrl rfl w s (.refl _ s))
@[simp] theorem nrgLearn_mark (w : Word) (s : State) : (nrgLearn w s).mark = s.mark := by simp [nrgLearn]
@[simp] theorem nrgWrite_mark (o : Nat) (w : Word) (s : State) : (nrgWrite o w s).mark = s.mark := by
  unfold nrgWrite
  repeat' split
  all_goals simp
@[simp] theorem pmbAnswer_mark (code : Nat) (blk : Bool) (l : List Byte) (s : State) : (pmbAnswer code blk l s).mark = s.mark :=
  mark_of_agree (agree_pmbAnswer rfl code blk l s (.refl _ s))
@[simp] theorem pmbReg_mark (s : State) : (pmbReg s).mark = s.mark := by
  simp [pmbReg]
  repeat' split
  all_goals simp
@[simp] theorem topWrite_mark (o : Nat) (w : Word) (s : State) : (topWrite o w s).mark = s.mark := by
  unfold topWrite
  repeat' split
  all_goals simp
@[simp] theorem regRead_mark (a : Nat) (s : State) : (regRead a s).mark = s.mark := by
  unfold regRead
  repeat' split
  all_goals simp
@[simp] theorem geomTurn_mark (s : State) : (geomTurn s).mark = s.mark := mark_of_agree (agree_geomTurn rfl s (.refl _ s))
@[simp] theorem rideAbort_mark (s : State) : (rideAbort s).mark = s.mark := by simp [rideAbort]
@[simp] theorem boundaryFigures_mark (s : State) : (boundaryFigures s).mark = s.mark := by simp [boundaryFigures]
@[simp] theorem energyTurn_mark (s : State) : (energyTurn s).mark = s.mark := by simp [energyTurn]
@[simp] theorem frzStep_mark (i : TurnInputs) (s : State) : (frzStep i s).mark = s.mark := by simp [frzStep]
@[simp] theorem islandsFollow_mark (was : State) (s : State) : (islandsFollow was s).mark = s.mark :=
  mark_of_agree (agree_islandsFollow rfl was s (.refl _ s))
@[simp] theorem pbForce_mark (len : Nat) (s : State) : (pbForce len s).mark = s.mark := by simp [pbForce]
@[simp] theorem pbHold3_mark (s : State) : (pbHold3 s).mark = s.mark := by simp [pbHold3]
@[simp] theorem rideExit_mark (s : State) : (rideExit s).mark = s.mark := by simp [rideExit]
@[simp] theorem secondTick_mark (s : State) : (secondTick s).mark = s.mark := by simp [secondTick]
@[simp] theorem turnClock_mark (i : TurnInputs) (s : State) : (turnClock i s).mark = s.mark := by simp [turnClock]
@[simp] theorem turnEnd_mark (i : TurnInputs) (s : State) : (turnEnd i s).mark = s.mark := by simp [turnEnd]
@[simp] theorem sledsFailed_mark (was : State) (s : State) : (sledsFailed was s).mark = s.mark :=
  mark_of_agree (agree_sledsFailed rfl was s (.refl _ s))
@[simp] theorem railDownTick_mark (s : State) : (railDownTick s).mark = s.mark := by simp [railDownTick]

/-! ### The operations that keep AON's counter and TOP.STATE by their frame -/

@[simp] theorem raiseTurn_mark (src sub : Nat) (s : State) : (raiseTurn src sub s).mark = s.mark :=
  mark_of_agree (agree_raiseTurn rfl src sub s (.refl _ s))
@[simp] theorem closeTurn_mark (s : State) : (closeTurn s).mark = s.mark := mark_of_agree (agree_closeTurn rfl s (.refl _ s))
@[simp] theorem norComplete_mark (d : Nat) (r : NorRes) (s : State) : (norComplete d r s).mark = s.mark :=
  mark_of_agree (agree_norComplete rfl d r s (.refl _ s))
@[simp] theorem calIssue_mark (s : State) : (calIssue s).mark = s.mark := mark_of_agree (agree_calIssue rfl s (.refl _ s))
@[simp] theorem marginCancel_mark (s : State) : (marginCancel s).mark = s.mark := mark_of_agree (agree_marginCancel rfl s (.refl _ s))
@[simp] theorem saveProfileDown_mark (s : State) : (saveProfileDown s).mark = s.mark := mark_of_agree (agree_saveProfileDown rfl s (.refl _ s))
@[simp] theorem riseEntry_mark (s : State) : (riseEntry s).mark = s.mark := mark_of_agree (agree_riseEntry rfl s (.refl _ s))
@[simp] theorem fallDown_mark (hold : Bool) (s : State) : (fallDown hold s).mark = s.mark := mark_of_agree (agree_fallDown rfl hold s (.refl _ s))
@[simp] theorem startRestore_mark (s : State) : (startRestore s).mark = s.mark := mark_of_agree (agree_startRestore rfl s (.refl _ s))
@[simp] theorem linkTurn_mark (p : Nat) (s : State) : (linkTurn p s).mark = s.mark := mark_of_agree (agree_linkTurn rfl p s (.refl _ s))
@[simp] theorem pump_mark (s : State) : (pump s).mark = s.mark := mark_of_agree (agree_pump rfl s (.refl _ s))
@[simp] theorem advanceEpoch_mark (s : State) : (advanceEpoch s).mark = s.mark := mark_of_agree (agree_advanceEpoch rfl s (.refl _ s))
@[simp] theorem eraseAheadAll_mark (s : State) : (eraseAheadAll s).mark = s.mark := mark_of_agree (agree_eraseAheadAll rfl s (.refl _ s))
@[simp] theorem sledsReread_mark (s : State) : (sledsReread s).mark = s.mark := mark_of_agree (agree_sledsReread rfl s (.refl _ s))
@[simp] theorem eraseCountWrite_mark (s : State) : (eraseCountWrite s).mark = s.mark := mark_of_agree (agree_eraseCountWrite rfl s (.refl _ s))
@[simp] theorem stageTrip_mark (s : State) : (stageTrip s).mark = s.mark := mark_of_agree (agree_stageTrip rfl s (.refl _ s))
@[simp] theorem stageStop_mark (s : State) : (stageStop s).mark = s.mark := mark_of_agree (agree_stageStop rfl s (.refl _ s))
@[simp] theorem cancelCopies_mark (p : Nat) (s : State) : (cancelCopies p s).mark = s.mark := mark_of_agree (agree_cancelCopies rfl p s (.refl _ s))
@[simp] theorem mapTurn_mark (s : State) : (mapTurn s).mark = s.mark := mark_of_agree (agree_mapTurn rfl s (.refl _ s))
@[simp] theorem sendConfirms_mark (s : State) : (sendConfirms s).mark = s.mark := mark_of_agree (agree_sendConfirms rfl s (.refl _ s))
@[simp] theorem spendGrant_mark (s : State) : (spendGrant s).mark = s.mark := mark_of_agree (agree_spendGrant rfl s (.refl _ s))
@[simp] theorem promote_mark (s : State) : (promote s).mark = s.mark := mark_of_agree (agree_promote rfl s (.refl _ s))
@[simp] theorem saveLate_mark (rank : Nat) (s : State) : (saveLate rank s).mark = s.mark := mark_of_agree (agree_saveLate rfl rank s (.refl _ s))
@[simp] theorem class2Cut_mark (s : State) : (class2Cut s).mark = s.mark := mark_of_agree (agree_class2Cut rfl s (.refl _ s))
@[simp] theorem reportWritten_mark (s : State) : (reportWritten s).mark = s.mark := mark_of_agree (agree_reportWritten rfl s (.refl _ s))
@[simp] theorem retRecord_mark (s : State) : (retRecord s).mark = s.mark := mark_of_agree (agree_retRecord rfl s (.refl _ s))
@[simp] theorem retStop_mark (s : State) : (retStop s).mark = s.mark := mark_of_agree (agree_retStop rfl s (.refl _ s))
@[simp] theorem retReset_mark (s : State) : (retReset s).mark = s.mark := mark_of_agree (agree_retReset rfl s (.refl _ s))
@[simp] theorem retEnter_mark (s : State) : (retEnter s).mark = s.mark := mark_of_agree (agree_retEnter rfl s (.refl _ s))
@[simp] theorem stepRestore_mark (p : Nat) (s : State) : (stepRestore p s).mark = s.mark := mark_of_agree (agree_stepRestore rfl p s (.refl _ s))
@[simp] theorem retOverdue_mark (s : State) : (retOverdue s).mark = s.mark := mark_of_agree (agree_retOverdue rfl s (.refl _ s))
@[simp] theorem retTurn_mark (s : State) : (retTurn s).mark = s.mark := mark_of_agree (agree_retTurn rfl s (.refl _ s))
@[simp] theorem readyAsk_mark (s : State) : (readyAsk s).mark = s.mark := mark_of_agree (agree_readyAsk rfl s (.refl _ s))
@[simp] theorem jobsTrip_mark (s : State) : (jobsTrip s).mark = s.mark := mark_of_agree (agree_jobsTrip rfl s (.refl _ s))
@[simp] theorem catForward_mark (s : State) : (catForward s).mark = s.mark := mark_of_agree (agree_catForward rfl s (.refl _ s))
@[simp] theorem drainTurn_mark (s : State) : (drainTurn s).mark = s.mark := mark_of_agree (agree_drainTurn rfl s (.refl _ s))
@[simp] theorem logCompact_mark (s : State) : (logCompact s).mark = s.mark := mark_of_agree (agree_logCompact rfl s (.refl _ s))
@[simp] theorem rjobResume_mark (s : State) : (rjobResume s).mark = s.mark := mark_of_agree (agree_rjobResume rfl s (.refl _ s))
@[simp] theorem shortRec_mark (go : Bool) (s : State) : (shortRec go s).mark = s.mark := mark_of_agree (agree_shortRec rfl go s (.refl _ s))
@[simp] theorem stakeCompute_mark (was : Bool) (s : State) : (stakeCompute was s).mark = s.mark :=
  mark_of_agree (agree_stakeCompute rfl was s (.refl _ s))
@[simp] theorem applyMap_mark (f : Frame) (s : State) : (applyMap f s).mark = s.mark := mark_of_agree (agree_applyMap rfl f s (.refl _ s))
@[simp] theorem drillFollow_mark (f : Frame) (s : State) : (drillFollow f s).mark = s.mark := mark_of_agree (agree_drillFollow rfl f s (.refl _ s))
@[simp] theorem unarm_mark (s : State) : (unarm s).mark = s.mark := mark_of_agree (agree_unarm rfl s (.refl _ s))
@[simp] theorem fabStart_mark (s : State) : (fabStart s).mark = s.mark := mark_of_agree (agree_fabStart rfl s (.refl _ s))
@[simp] theorem fabReset_mark (s : State) : (fabReset s).mark = s.mark := mark_of_agree (agree_fabReset rfl s (.refl _ s))
@[simp] theorem latchReport_mark (s : State) : (latchReport s).mark = s.mark := mark_of_agree (agree_latchReport rfl s (.refl _ s))
@[simp] theorem tableTurn_mark (s : State) : (tableTurn s).mark = s.mark := mark_of_agree (agree_tableTurn rfl s (.refl _ s))
@[simp] theorem bootSources_mark (s : State) : (bootSources s).mark = s.mark := mark_of_agree (agree_bootSources rfl s (.refl _ s))
@[simp] theorem flashDown_mark (x : Nat) (s : State) : (flashDown x s).mark = s.mark := mark_of_agree (agree_flashDown rfl x s (.refl _ s))
@[simp] theorem moverDown_mark (s : State) : (moverDown s).mark = s.mark := mark_of_agree (agree_moverDown rfl s (.refl _ s))
@[simp] theorem portsReset_mark (ps : List Nat) (s : State) : (portsReset ps s).mark = s.mark :=
  mark_of_agree (agree_portsReset rfl ps s (.refl _ s))
@[simp] theorem restoresAgain_mark (s : State) : (restoresAgain s).mark = s.mark := mark_of_agree (agree_restoresAgain rfl s (.refl _ s))
@[simp] theorem busSample_mark (win : BitVec 64) (s : State) : (busSample win s).mark = s.mark :=
  mark_of_agree (agree_busSample rfl win s (.refl _ s))
@[simp] theorem clearForces_mark (s : State) : (clearForces s).mark = s.mark := mark_of_agree (agree_clearForces rfl s (.refl _ s))
@[simp] theorem cmdTrip_mark (cal : Bool) (s : State) : (cmdTrip cal s).mark = s.mark := mark_of_agree (agree_cmdTrip rfl cal s (.refl _ s))
@[simp] theorem drillTrip_mark (own : Bool) (s : State) : (drillTrip own s).mark = s.mark := mark_of_agree (agree_drillTrip rfl own s (.refl _ s))
@[simp] theorem expireSubs_mark (s : State) : (expireSubs s).mark = s.mark := mark_of_agree (agree_expireSubs rfl s (.refl _ s))
@[simp] theorem mdSub_mark (src sub : Nat) (f : SubSrc → SubSrc) (s : State) : (mdSub src sub f s).mark = s.mark :=
  mark_of_agree (agree_mdSub rfl src sub f s (.refl _ s))
@[simp] theorem isolate_mark (p : Nat) (s : State) : (isolate p s).mark = s.mark := mark_of_agree (agree_isolate rfl p s (.refl _ s))
@[simp] theorem requestReset_mark (b k : Nat) (s : State) : (requestReset b k s).mark = s.mark :=
  mark_of_agree (agree_requestReset rfl b k s (.refl _ s))
@[simp] theorem takeReturn_mark (f : Frame) (s : State) : (takeReturn f s).mark = s.mark := mark_of_agree (agree_takeReturn rfl f s (.refl _ s))
@[simp] theorem keepPeer_mark (s : State) : (keepPeer s).mark = s.mark := mark_of_agree (agree_keepPeer rfl s (.refl _ s))
@[simp] theorem fabWrite_mark (o : Nat) (w : Word) (s : State) : (fabWrite o w s).mark = s.mark :=
  mark_of_agree (agree_fabWrite rfl o w s (.refl _ s))
@[simp] theorem pairWrite_mark (o : Nat) (w : Word) (s : State) : (pairWrite o w s).mark = s.mark :=
  mark_of_agree (agree_pairWrite rfl o w s (.refl _ s))
@[simp] theorem portCtrl_mark (p : Nat) (w : Word) (s : State) : (portCtrl p w s).mark = s.mark :=
  mark_of_agree (agree_portCtrl rfl p w s (.refl _ s))
@[simp] theorem retWrite_mark (o : Nat) (w : Word) (s : State) : (retWrite o w s).mark = s.mark :=
  mark_of_agree (agree_retWrite rfl o w s (.refl _ s))
@[simp] theorem rpRegWrite_mark (o : Nat) (w : Word) (s : State) : (rpRegWrite o w s).mark = s.mark :=
  mark_of_agree (agree_rpRegWrite rfl o w s (.refl _ s))
@[simp] theorem seqWrite_mark (o : Nat) (w : Word) (s : State) : (seqWrite o w s).mark = s.mark :=
  mark_of_agree (agree_seqWrite rfl o w s (.refl _ s))
@[simp] theorem stageWrite_mark (o : Nat) (w : Word) (s : State) : (stageWrite o w s).mark = s.mark :=
  mark_of_agree (agree_stageWrite rfl o w s (.refl _ s))
@[simp] theorem stakeWrite_mark (o : Nat) (w : Word) (s : State) : (stakeWrite o w s).mark = s.mark :=
  mark_of_agree (agree_stakeWrite rfl o w s (.refl _ s))
@[simp] theorem vaultWrite_mark (o : Nat) (w : Word) (s : State) : (vaultWrite o w s).mark = s.mark :=
  mark_of_agree (agree_vaultWrite rfl o w s (.refl _ s))
@[simp] theorem drillSaved_mark (s : State) : (drillSaved s).mark = s.mark := mark_of_agree (agree_drillSaved rfl s (.refl _ s))
@[simp] theorem sinceBoot_mark (s : State) : (sinceBoot s).mark = s.mark := mark_of_agree (agree_sinceBoot rfl s (.refl _ s))
@[simp] theorem islandsTurn_mark (was : State) (s : State) : (islandsTurn was s).mark = s.mark :=
  mark_of_agree (agree_islandsTurn rfl was s (.refl _ s))
@[simp] theorem judgeTemp_mark (s : State) : (judgeTemp s).mark = s.mark := mark_of_agree (agree_judgeTemp rfl s (.refl _ s))

/-- From the mark `m` to `m'` without a count: nothing moved, or the state is one other than Boot. -/
def Quiet (m m' : TopState × Nat) : Prop := m' = m ∨ (m'.1 ≠ .boot ∧ m'.2 = m.2)

/-- The mark of an entry to Boot from `m`. -/
def booted (m : TopState × Nat) : TopState × Nat := (.boot, satAdd 0xFFFFFF m.2 1)

/-- From `m` to `m'` quietly, or by one entry to Boot. -/
def Counts (m m' : TopState × Nat) : Prop := Quiet m m' ∨ m' = booted m

section
variable {m m' m'' : TopState × Nat}

theorem Quiet.cycles (h : Quiet m m') : m'.2 = m.2 := by
  obtain h | ⟨-, h⟩ := h
  · rw [h]
  · exact h

theorem Quiet.trans (h : Quiet m m') (h' : Quiet m' m'') : Quiet m m'' := by
  obtain h' | ⟨hb, hc⟩ := h'
  · exact h' ▸ h
  · exact .inr ⟨hb, hc.trans h.cycles⟩

@[simp] theorem quiet_self : Quiet m m := .inl rfl

@[simp] theorem quiet_state {n : TopState} (h : n ≠ .boot) : Quiet m (n, m.2) := .inr ⟨h, rfl⟩

@[simp] theorem quiet_ite {c : Prop} [Decidable c] : Quiet m (if c then m' else m'') ↔ (c → Quiet m m') ∧ (¬ c → Quiet m m'') := by
  split <;> simp [*]

theorem Quiet.counts (h : Quiet m m') : Counts m m' := .inl h

theorem Quiet.then_counts (h : Quiet m m') (h' : Counts m' m'') : Counts m m'' := by
  obtain h' | h' := h'
  · exact .inl (h.trans h')
  · exact .inr (by rw [h', booted, booted, h.cycles])

@[simp] theorem counts_self : Counts m m := quiet_self.counts

@[simp] theorem counts_state {n : TopState} (h : n ≠ .boot) : Counts m (n, m.2) := (quiet_state h).counts

@[simp] theorem counts_booted : Counts m (booted m) := .inr rfl

@[simp] theorem counts_ite {c : Prop} [Decidable c] : Counts m (if c then m' else m'') ↔ (c → Counts m m') ∧ (¬ c → Counts m m'') := by
  split <;> simp [*]

theorem Counts.quiet_of_ne (h : Counts m m') (hb : m'.1 ≠ .boot) : Quiet m m' := by
  obtain h | h := h
  · exact h
  · exact absurd (congrArg Prod.fst h) hb

/-- Entering Boot from elsewhere is a count. -/
theorem Counts.boot_of_ne (h : Counts m m') (hm : m.1 ≠ .boot) (hb : m'.1 = .boot) : m'.2 = satAdd 0xFFFFFF m.2 1 := by
  obtain (h | ⟨h, -⟩) | h := h
  · exact absurd (h ▸ hb) hm
  · exact absurd hb h
  · rw [h, booted]
end

/-! ### The entries to a state -/

@[simp] theorem enter_mark (n : TopState) (s : State) : (enter n s).mark = (n, s.mark.2) := by simp only [enter, mdTop, mark]

@[simp] theorem went_mark (n : TopState) (s : State) : (went n s).mark = (n, s.mark.2) := by simp [went]

@[simp] theorem bootEnter_mark (k : Bool) (s : State) : (bootEnter k s).mark = booted s.mark := by
  simp only [bootEnter, bootSources_mark, aonCounts_mark, mark_ite, fabStart_mark, mdPins_mark, ite_self]
  simp only [mdTop, mdAon, mdPair, enter, mark, booted]

@[simp] theorem coldBoot_mark (s : State) : (coldBoot s).mark = booted s.mark := by simp [coldBoot]

@[simp] theorem warmBoot_mark (s : State) : (warmBoot s).mark = booted s.mark := by
  simp only [warmBoot, bootEnter_mark, ctlReset_mark, mark_ite, unlatchAll_mark, ite_self]

@[simp] theorem latchedBoot_mark (s : State) : (latchedBoot s).mark = booted s.mark := by
  have e : ∀ t : State, mark { t.unlatchAll.clearForces.sinceBoot with seq := t.seq } = t.mark := by simp
  simp [latchedBoot]

@[simp] theorem coldBootNow_mark (s : State) : (coldBootNow s).mark = booted s.mark := by
  rw [← warmBoot_mark s]; simp only [coldBootNow, mark]

@[simp] theorem toHold_mark (s : State) : (toHold s).mark = (.hold, s.mark.2) := by simp [toHold]

@[simp] theorem toWake_mark (s : State) : (toWake s).mark = (.wake, s.mark.2) := by simp [toWake]

@[simp] theorem toRise_mark (s : State) : (toRise s).mark = (.rise, s.mark.2) := by simp [toRise]

@[simp] theorem toRide_mark (s : State) : (toRide s).mark = (.ride, s.mark.2) := by simp [toRide]

@[simp] theorem toReady_mark (s : State) : (toReady s).mark = (.ready, s.mark.2) := by simp [toReady]

@[simp] theorem toReturn_mark (b : Bool) (s : State) : (toReturn b s).mark = (.ret, s.mark.2) := by
  cases b <;> simp [toReturn]

@[simp] theorem toFall_mark (b : Bool) (s : State) : (toFall b s).mark = (.fall, s.mark.2) := by simp [toFall]

@[simp] theorem toLatched_mark (s : State) : (toLatched s).mark = (.latched, s.mark.2) := by simp [toLatched]

@[simp] theorem enterSave_mark (r : Nat) (a : BitVec 8) (t c : Bool) (s : State) : (enterSave r a t c s).mark = (.save, s.mark.2) := by
  simp [enterSave]

/-! ### What leaves Boot's count alone -/

theorem trip_quiet (r : Nat) (a : BitVec 8) (s : State) : Quiet s.mark (trip r a s).mark := by
  simp only [trip, mark_ite]
  simp

theorem pfiSag_quiet (a : BitVec 8) (s : State) : Quiet s.mark (pfiSag a s).mark := by
  have e : ((if s.sagSupply.top.state = .rise && s.sagSupply.ctlOn then s.sagSupply.riseAbort else s.sagSupply)).mark = s.mark := by simp
  exact e ▸ trip_quiet 1 a _

theorem acgLoss_quiet (n : Nat) (a : BitVec 8) (s : State) : Quiet s.mark (acgLoss n a s).mark := by
  simp only [acgLoss, mark_ite, inputGone_mark, quiet_ite]
  have e (f : Pins → Pins) : (inputGone s (s.mdPins f)).mark = s.mark := by simp
  exact ⟨fun _ => e _ ▸ trip_quiet 3 a _, fun _ => by simp⟩

theorem testTrip_quiet (w : Word) (a : BitVec 8) (s : State) : Quiet s.mark (testTrip w a s).mark := by simp [testTrip]

theorem faultTrip_quiet (s : State) : Quiet s.mark (faultTrip s).mark := by
  simpa [faultTrip] using fun _ => trip_quiet 4 0 s

theorem turnTrips_quiet (s : State) : Quiet s.mark (turnTrips s).mark := by simp [turnTrips]

theorem retrip_quiet (f : Frame) (s : State) : Quiet s.mark (retrip f s).mark := by simp [retrip]

theorem hotTake_quiet (f : Frame) (z : Bool) (o : Option (Tab SledDev 4)) (s : State) : Quiet s.mark (hotTake f z o s).mark := by
  have e : (s.takeFrame f o).mark = s.mark := by simp
  unfold hotTake
  dsimp only
  split
  · simp
  · split
    · exact e ▸ retrip_quiet f _
    · simp

theorem tokenClaim_quiet (z : Bool) (o : Option (Tab SledDev 4)) (s : State) : Quiet s.mark (tokenClaim z o s).mark := by
  unfold tokenClaim
  split
  · exact quiet_self
  · dsimp only
    split
    · simp
    · simp
    · split
      · rename_i f _
        have e : ((s.arrive).claimBase 3).mark = s.mark := by simp
        simpa using e ▸ hotTake_quiet f z o _
      · simp
    · split
      · rename_i f _ _
        have e : ((s.arrive).claimBase 1).mark = s.mark := by simp
        simpa using e ▸ hotTake_quiet f z o _
      · split <;> simp

/-! ### A turn boundary enters Boot once at most -/

@[simp] theorem fallNow_mark (s : State) : (fallNow s).mark = (.fall, s.mark.2) := by
  simp only [fallNow, toFall_mark, mark_ite]
  simp

theorem afterFall_quiet (s : State) : Quiet s.mark (afterFall s).mark := by simp [afterFall]

theorem afterSeal_counts (s : State) : Counts s.mark (afterSeal s).mark := by simp [afterSeal]

theorem transition_counts (s : State) : Counts s.mark (transition s).mark := by
  unfold transition
  split
  case h_7 => simpa using fun _ _ => afterSeal_counts s
  case h_8 => simpa using fun _ _ => (afterFall_quiet s).counts
  all_goals simp

theorem holderTurn_counts (s : State) : Counts s.mark (holderTurn s).mark := by
  unfold holderTurn
  extract_lets s1 s2 s3 s4 s5 s6 s7 s8 s9 s10
  have h2 : Quiet s.mark s2.mark := by simpa [s1] using turnTrips_quiet s1
  have h4 : s4.mark = s2.mark := by simp [s4, s3]
  have h5 : Counts s.mark s5.mark := h2.then_counts (h4 ▸ transition_counts s4)
  split
  · exact h5
  · rename_i hb
    have h5' : Quiet s.mark s5.mark := h5.quiet_of_ne fun e => hb (by simp [show s5.top.state = .boot from e])
    have h6 : s6.mark = s5.mark := by simp [s6]
    have h7 : Quiet s6.mark s7.mark := by simp [s7]
    have h10 : s10.mark = s7.mark := by simp [s10, s9, s8]
    clear_value s10 s7 s6
    rw [h6] at h7
    simpa [h10] using (h5'.trans h7).counts

theorem turnBoundary_counts (i : TurnInputs) (s : State) : Counts s.mark (turnBoundary i s).mark := by
  unfold turnBoundary
  split
  · exact counts_self
  · extract_lets s0 s1 s2 s3 s4 s5
    have h0 : s0.mark = s.mark := by simp [s0]
    have h4 : s4.mark = s.mark := by
      clear_value s0
      simp [s4, s3, s2, s1, h0]
    clear_value s4
    have h5 : Counts s4.mark s5.mark := by
      simp only [s5, islandsTurn_mark, mark_ite, counts_ite, counts_self]
      exact ⟨fun _ => holderTurn_counts s4, fun _ => ⟨fun _ => trivial, fun _ => transition_counts s4⟩⟩
    rw [h4] at h5
    split
    · simp [h0]
    · simpa using h5

/-! ### A fault's reset action enters Boot once at most

The reset action of a source boots a holder; with the boot the running image is gone, and no source is enabled in the default one. -/

/-- No fault source is enabled. -/
def Dull (s : State) : Prop := ∀ i, (s.srcCfg i).en = false

theorem dull_of_default {s : State} (h : s.bimg.img = {}) : Dull s := by
  intro i
  simp only [srcCfg, im, h]
  by_cases hi : i < 256
  · rw [rd_tall _ _ hi]
  · rw [rd_out _ _ (Nat.le_of_not_lt hi)]; rfl

theorem Dull.of_agree {s t : State} (d : Dull s) (h : Agree 0x7FF7FFF s t) : Dull t := by
  simpa only [Dull, srcCfg, im, h.bimg rfl] using d

theorem warmBoot_dull (s : State) : Dull (warmBoot s) := by
  refine dull_of_default ?_
  unfold warmBoot
  dsimp only
  rw [(agree_bootEnter (μ := 0x3016186) rfl true _ (.refl _ _)).bimg rfl, ctlReset, (agree_aonRegs (μ := 0x7FF7FFF) rfl _ (.refl _ _)).bimg rfl]

/-- From `s` to `t` quietly, or by one entry to Boot that leaves no source enabled. -/
def Once (s t : State) : Prop := Quiet s.mark t.mark ∨ (t.mark = booted s.mark ∧ Dull t)

theorem Once.of_quiet {s t : State} (h : Quiet s.mark t.mark) : Once s t := .inl h

theorem Once.counts {s t : State} (h : Once s t) : Counts s.mark t.mark := by
  obtain h | ⟨h, -⟩ := h
  · exact h.counts
  · exact .inr h

theorem once_of_mark_eq {s s' t : State} (e : s'.mark = s.mark) (h : Once s' t) : Once s t := by rwa [Once, ← e]

theorem Quiet.then_once {s t u : State} (h : Quiet s.mark t.mark) (h' : Once t u) : Once s u := by
  obtain h' | ⟨e, d⟩ := h'
  · exact .inl (h.trans h')
  · exact .inr ⟨by rw [e, booted, booted, h.cycles], d⟩

theorem yieldNow_once (s : State) : Once s (yieldNow s) := .inr ⟨by simp [yieldNow], warmBoot_dull _⟩

theorem requestTakeover_once (s : State) : Once s (requestTakeover s) := by
  unfold requestTakeover
  split
  · exact yieldNow_once s
  · exact .of_quiet (by simp)

@[simp] theorem classHit_mark (c : Nat) (s : State) : (classHit c s).2.mark = s.mark := by
  unfold classHit
  dsimp only
  split
  · rfl
  · split
    · dsimp only; split <;> simp
    · simp

theorem react_once (c : SrcCfg) (i n : Nat) (f : Bool) (s : State) : Once s (react c i n f s) := by
  unfold react
  extract_lets a rep live s1 s2 s3 s4 s5
  have h4 : s4.mark = s.mark := by simp [s4, s3, s2, s1]
  have h5 : Quiet s4.mark s5.mark := by simpa [s5, when] using fun _ _ => faultTrip_quiet s4
  have h : Quiet s.mark s5.mark := h4 ▸ h5
  refine h.then_once ?_
  unfold when
  split
  · exact requestTakeover_once s5
  · exact .of_quiet quiet_self

theorem registerSrc_once (i n : Nat) (z : Bool) (s : State) : Once s (registerSrc i n z s) := by
  unfold registerSrc
  dsimp only
  split
  · exact .of_quiet (by simp)
  · split
    · exact .of_quiet (by simp)
    · exact once_of_mark_eq (by simp) (react_once ..)

theorem regLive_once (i n : Nat) (s : State) : Once s (regLive i n s) := by
  unfold regLive
  split
  · exact .of_quiet quiet_self
  · dsimp only
    split
    · exact .of_quiet (by simp)
    · exact once_of_mark_eq (by simp) (registerSrc_once ..)

theorem faultReg_counts (i n : Nat) (s : State) : Counts s.mark (faultReg i n s).mark := by
  unfold faultReg
  split
  · exact counts_self
  · exact (once_of_mark_eq (by simp) (regLive_once ..)).counts

/-- From `s` to `t` with the mark kept and no source enabled still. -/
def Rests (s t : State) : Prop := t.mark = s.mark ∧ Dull t

theorem rests_of_agree {s t : State} (d : Dull s) (h : Agree 0x7FF7F7B s t) : Rests s t :=
  ⟨mark_of_agree (h.mono (by decide +kernel)), d.of_agree (h.mono (by decide +kernel))⟩

theorem Rests.trans {s t u : State} (h : Rests s t) (h' : Rests t u) : Rests s u := ⟨h'.1.trans h.1, h'.2⟩

theorem registerSrc_rests (i n : Nat) (z : Bool) (s : State) (d : Dull s) : Rests s (registerSrc i n z s) := by
  have e : registerSrc i n z s = s.mdFlt (fun t => { t with reg := md t.reg i (satAdd 0xFFFF · 1) }) := by
    simp only [registerSrc, d i, Bool.not_false, if_true]
  exact e ▸ rests_of_agree d (agree_mdFlt rfl _ s (.refl _ s))

theorem regLive_rests (i n : Nat) (s : State) (d : Dull s) : Rests s (regLive i n s) := by
  have h : Rests s (s.mdSub i n (fun x => { x with reg := true })) := rests_of_agree d (agree_mdSub rfl _ _ _ s (.refl _ s))
  unfold regLive
  split
  · exact ⟨rfl, d⟩
  · dsimp only
    split
    · exact h
    · exact h.trans (registerSrc_rests i n false _ h.2)

/-- What a loop keeps when each pass boots once at most, and once booted keeps the mark. -/
theorem forL_once {α : Type} {f : α → State → State} (ho : ∀ x t, Once t (f x t)) (hr : ∀ x t, Dull t → Rests t (f x t)) (l : List α) (s : State) :
    Once s (forL l f s) := by
  have rests (l : List α) (t : State) (d : Dull t) : Rests t (forL l f t) := by
    unfold Sys2Proof.forL
    induction l generalizing t with
    | nil => exact ⟨rfl, d⟩
    | cons x l ih => exact (hr x t d).trans (ih _ (hr x t d).2)
  induction l generalizing s with
  | nil => exact .of_quiet quiet_self
  | cons x l ih =>
    obtain h | ⟨h, d⟩ := ho x s
    · exact h.then_once (ih (f x s))
    · obtain ⟨h', d'⟩ := rests l _ d
      exact .inr ⟨h'.trans h, d'⟩

theorem xfSample_once (i : Nat) (x : Bool × Bool) (s : State) : Once s (xfSample i x s) := by
  unfold xfSample
  extract_lets set real n sub
  split
  · exact .of_quiet quiet_self
  · exact .of_quiet (by simp [set])
  · split
    · exact .of_quiet quiet_self
    · split
      · exact .of_quiet (by simp)
      · split
        · exact once_of_mark_eq (by simp [set]) (regLive_once ..)
        · exact .of_quiet (by simp [set])

theorem xfSample_rests (i : Nat) (x : Bool × Bool) (s : State) (d : Dull s) : Rests s (xfSample i x s) := by
  unfold xfSample
  extract_lets set real n sub
  split
  · exact ⟨rfl, d⟩
  · exact rests_of_agree d (agree_mdFlt rfl _ _ (agree_unraise rfl _ _ s (.refl _ s)))
  · split
    · exact ⟨rfl, d⟩
    · split
      · exact rests_of_agree d (.ite (agree_mdSub rfl _ _ _ _ (agree_raise rfl _ _ _ s (.refl _ s))) (.refl _ s))
      · split
        · have h : Rests s ((set 0 s).raise i sub none) := rests_of_agree d (agree_raise rfl _ _ _ _ (agree_mdFlt rfl _ s (.refl _ s)))
          exact h.trans (regLive_rests i sub _ h.2)
        · exact rests_of_agree d (agree_mdFlt rfl _ s (.refl _ s))

theorem xfSamples_counts (i : Nat) (l : List (Bool × Bool)) (s : State) : Counts s.mark (xfSamples i l s).mark := by
  unfold xfSamples
  split
  · exact counts_self
  · exact (once_of_mark_eq (by simp) (forL_once (xfSample_once i) (xfSample_rests i) l _)).counts

theorem shadowClose_counts (k : Nat) (s : State) : Counts s.mark (shadowClose k s).mark := by
  unfold shadowClose
  dsimp only
  split
  · exact counts_self
  · refine (once_of_mark_eq (by simp) (forL_once (fun i t => ?_) (fun i t d => ?_) _ _)).counts
    · split
      · exact .of_quiet quiet_self
      · split
        · exact .of_quiet quiet_self
        · exact once_of_mark_eq (by simp) (registerSrc_once ..)
    · split
      · exact ⟨rfl, d⟩
      · split
        · exact ⟨rfl, d⟩
        · have h (f : Flt → Flt) : Rests t (t.mdFlt f) := rests_of_agree d (agree_mdFlt rfl _ t (.refl _ t))
          exact (h _).trans (registerSrc_rests _ _ _ _ (h _).2)

/-! ### The other entries to Boot -/

theorem refclkReturn_counts (s : State) : Counts s.mark (refclkReturn s).mark := by
  have e (f : Pins → Pins) : (s.mdPins f).backupFollow.mark = s.mark := by simp
  unfold refclkReturn
  split
  · exact counts_self
  · dsimp only
    split
    · simp
    · split
      · rw [unraise_mark]
        rw [← e fun p => { p with refclkRun := true }]
        split
        · exact faultReg_counts ..
        · refine (raise_mark 135 0xFFFF none _) ▸ faultReg_counts ..
      · simp

theorem busGood100_counts (s : State) : Counts s.mark (busGood100 s).mark := by simp [busGood100]

theorem mrRelease_counts (s : State) : Counts s.mark (mrRelease s).mark := by simp [mrRelease]

theorem pbPress_counts (n : Nat) (s : State) : Counts s.mark (pbPress n s).mark := by
  simp only [pbPress, mark_ite]
  simp

theorem railNotGood_quiet (k : Nat) (s : State) : Quiet s.mark (railNotGood k s).mark := by
  unfold railNotGood
  split
  · exact quiet_self
  · dsimp only
    split
    · simp
    · split <;> simp

theorem pokeAt_quiet (a : Nat) (w : Word) (s : State) : Quiet s.mark (pokeAt a w s).mark := by
  unfold pokeAt
  dsimp only
  split
  case h_8 =>
    unfold saveWrite
    split
    case h_3 => exact testTrip_quiet w 0 s
    all_goals simp
  case h_15 => split <;> simp
  case h_16 =>
    split
    · split <;> simp
    · exact quiet_self
  all_goals simp

theorem regWrite_quiet (a : Nat) (w : Word) (s : State) : Quiet s.mark (regWrite a w s).mark := by
  have e : (s.rpData 0).mark = s.mark := by simp
  unfold regWrite
  split
  · simp
  · dsimp only
    split
    · simp
    · split
      · simp
      · exact e ▸ pokeAt_quiet a w _

/-! ### A frame -/

/-- What the partner link's message layer keeps as it hands a message on: the mark and the role. -/
def Heard (s u : State) : Prop := u.mark = s.mark ∧ u.pair.standby = s.pair.standby

theorem heard_mdPair {s u : State} (h : Heard s u) {f : Pair → Pair} (hf : ∀ p, (f p).standby = p.standby) : Heard s (u.mdPair f) :=
  ⟨by simpa using h.1, (hf _).trans h.2⟩

theorem heard_psend {s u : State} (h : Heard s u) (m : PMsg) : Heard s (u.psend m) := by
  unfold psend
  split
  · exact heard_mdPair h fun _ => rfl
  · exact h

theorem heard_plHeard {s u : State} (h : Heard s u) : Heard s u.plHeard := by
  have e : Heard s ((u.mdPair (fun p => { p with plUp := true, plOpen := true })).follow 127 0xFFFF false) := ⟨by simpa using h.1, by simpa using h.2⟩
  unfold plHeard
  dsimp only
  split
  · exact heard_psend e _
  · exact e

/-- A message reaches its own effect, or nothing but the message layer changes. -/
theorem preceive_ind {R : State → Prop} (h : Hdr) (f : State → State) (s : State) (h0 : ∀ u, Heard s u → R u) (hf : ∀ u, Heard s u → R (f u)) :
    R (preceive h f s) := by
  have hs : Heard s s := ⟨rfl, rfl⟩
  unfold preceive
  split
  · exact h0 _ hs
  · extract_lets s1 c s2
    have h1 : Heard s s1 := by
      unfold s1
      split
      · exact heard_mdPair hs fun _ => rfl
      · exact hs
    have h2 : Heard s s2 := heard_plHeard (heard_mdPair h1 fun _ => rfl)
    split
    · exact h0 _ (heard_mdPair h1 fun _ => rfl)
    · split
      · exact hf _ h2
      · exact h0 _ (heard_psend h2 _)

theorem followState_mark (c : Nat) (s : State) : (followState c s).mark = (TopState.ofCode c, s.mark.2) := by
  unfold followState
  dsimp only
  split <;> simp_all only [mark]

theorem applyFrame_mark (f : Frame) (s : State) : (applyFrame f s).mark = (TopState.ofCode f.state, s.mark.2) := by
  unfold applyFrame
  extract_lets s1 a1 p1 s2 arm s3 s4 s5
  have h1 : s1.mark = (TopState.ofCode f.state, s.mark.2) := by simp [s1, followState_mark]
  have h2 : s2.mark = s1.mark := by simp only [s2, a1, p1, mark]
  have h5 : s5.mark = s2.mark := by simp [s5, s4, s3]
  clear_value s5
  rw [h2, h1] at h5
  split <;> simp [h5]

/-- A frame moves no count; a controller that is no standby, and not in Boot, follows none. -/
theorem frameRx_mark (h : Hdr) (z : Bool) (f : Frame) (s : State) :
    (frameRx h z f s).mark.2 = s.mark.2 ∧ (s.pair.standby = false → s.top.state ≠ .boot → (frameRx h z f s).mark = s.mark) := by
  have ha : s.arrive.mark = s.mark := arrive_mark s
  unfold frameRx
  refine preceive_ind (R := fun t => t.mark.2 = s.mark.2 ∧ (s.pair.standby = false → s.top.state ≠ .boot → t.mark = s.mark)) h _ _ ?_ ?_
  · rintro u ⟨hu, -⟩
    rw [hu, ha]
    exact ⟨rfl, fun _ _ => rfl⟩
  · rintro u ⟨hu, hstd⟩
    have hb : u.bootHeard.mark = s.mark := by rw [bootHeard_mark, hu, ha]
    dsimp only
    refine ⟨?_, fun hs hn => ?_⟩
    · simp only [mark_ite, applyFrame_mark, mdPair_mark, unarm_mark, hb]
      split_ifs <;> rfl
    · have hu' : u.top.state ≠ .boot := by
        rw [show u.top.state = s.top.state from congrArg Prod.fst (hu.trans ha)]
        exact hn
      have hi : u.bootHeard = u := by simp [bootHeard, hu']
      rw [hi, if_pos (by simp [show u.pair.standby = false from hstd.trans hs]), hu, ha]

/-! ### Every command -/

theorem rpWrite_quiet {f : State → State} (hf : ∀ u, Quiet u.mark (f u).mark) (a : Nat) (s : State) : Quiet s.mark (rpWrite a f s).mark := by
  have h := hf (s.rpData 0)
  rw [rpData_mark] at h
  simp only [rpWrite, mark_ite, rpDead_mark, rpErr_mark, quiet_ite, quiet_self, implies_true, true_and]
  exact fun _ _ => h

theorem onCtl_counts {f : State → State} (hf : ∀ u, Counts u.mark (f u).mark) (s : State) : Counts s.mark (onCtl f s).mark := by
  simp only [onCtl, mark_ite, counts_ite, counts_self, implies_true, and_true]
  exact fun _ => hf s

theorem onFab_counts {f : State → State} (hf : ∀ u, (f u).mark = u.mark) (s : State) : Counts s.mark (onFab f s).mark := by
  simp only [onFab, mark_ite, hf, ite_self, counts_self]

theorem ledgerScan_mark_of_ne (s : State) (h : s.top.state ≠ .boot) : (ledgerScan s).mark = s.mark := by
  simp [ledgerScan, h]

theorem ledgerScan_mark_of_kept (s : State) (h : s.aon.lost = false) : (ledgerScan s).mark = s.mark := by
  unfold ledgerScan
  split
  · rfl
  · extract_lets s1 s2 heads top gone l2 s3 s4
    have h2 : Agree 0xE108 s s2 :=
      .forN (fun d t ht => .ite (agree_dirWrite rfl d t ht) ht) (agree_sfdpRead rfl 1 _ (agree_sfdpRead rfl 0 s (.refl _ s)))
    clear_value s2
    have ha : s3.aon = s.aon := h2.aon rfl
    have ht : s3.top = s.top := h2.top rfl
    clear_value s3 gone
    have h3 : (if gone then s3.setEvt 3 3 else s3).aon = s.aon := by simp [ha, apply_ite State.aon]
    have h3' : (if gone then s3.setEvt 3 3 else s3).top = s.top := by simp [ht, apply_ite State.top]
    have h4 : s4.mark = s.mark := by
      simp only [s4, restoreCounters, h3, h, Bool.not_false, if_true, mark, h3']
    simpa using h4

/-- The commands whose meaning may move TOP.STATE or AON's record. -/
def mayCount (c : Instr) : Bool := (partsOf c).any (fun p => p == .top || p == .aon)

theorem mark_of_not_mayCount {c : Instr} {s t : State} (hc : mayCount c = false) (h : exec c s = .next t) : t.mark = s.mark := by
  obtain ⟨t', h', hp⟩ := exec_touches_partsOf s c
  cases h.symm.trans h'
  have htop : t.top = s.top := hp .top (fun hm => by simp [mayCount] at hc; exact (hc _ hm).1 rfl)
  have haon : t.aon = s.aon := hp .aon (fun hm => by simp [mayCount] at hc; exact (hc _ hm).2 rfl)
  simp only [mark, htop, haon]

/-- The commands whose effect on TOP.STATE or the count is not an entry to Boot: AON's power-up and loss, a frame, the ledger scan. -/
def countsApart : Instr → Bool
  | .vaonRise _ | .vaonBothLost | .frame _ _ _ | .ledgerScanDone => true
  | _ => false

theorem exec_counts (s : State) (c : Instr) (hm : mayCount c = true) (ha : countsApart c = false) : Does c s (fun t => Counts s.mark t.mark) := by
  cases c
  all_goals try exact Bool.noConfusion hm
  all_goals try exact Bool.noConfusion ha
  all_goals refine ⟨_, rfl, ?_⟩
  case busGood100ms => exact busGood100_counts s
  case pbPress n => exact pbPress_counts _ s
  case railNotGood k => exact (railNotGood_quiet _ s).counts
  case faultRegistration i o =>
    refine onCtl_counts (fun u => ?_) s
    split
    · exact faultReg_counts ..
    · exact xfSamples_counts ..
  case shadowClose k => exact onCtl_counts (shadowClose_counts _) s
  case refclkReturn => exact refclkReturn_counts s
  case mrNRelease => exact mrRelease_counts s
  case pfiBusSag a => exact (pfiSag_quiet _ s).counts
  case acgLoss n a => exact (acgLoss_quiet _ _ s).counts
  case holdReq a => exact (trip_quiet _ _ s).counts
  case testTrip w a => exact (rpWrite_quiet (testTrip_quiet w a) _ s).counts
  case turnBoundary i => exact turnBoundary_counts i s
  case tokenClaim z o => exact (tokenClaim_quiet z o s).counts
  case registerWrite a w => exact (regWrite_quiet _ w s).counts
  case estimatorRestore | hostShutdown | leaveService | unlatch | learnStart | learnAbort | unlatchClass | wallCommit | bimgRescan =>
    exact (rpWrite_quiet (fun u => by simp) _ s).counts
  case addressDiscover | lsa => exact onFab_counts (fun u => by simp) s
  all_goals simp only [onCtl, mark_ite]
  all_goals simp

theorem vaonRise_mark (b z : Bool) (s : State) : (s.top.state = .off ∧ (vaonRise b z s).mark.1 ≠ .boot) ∨ (vaonRise b z s).mark = s.mark := by
  by_cases h : s.top.state = .off
  · exact .inl ⟨h, by simp [vaonRise, h, mdTop, mdPins, mdAon, enter, mark]⟩
  · exact .inr (by simp [vaonRise, h])

theorem frame_marks (s : State) (h : Hdr) (z : Bool) (f : Frame) :
    Does (.frame h z f) s (fun t => t.mark.2 = s.mark.2 ∧ (s.pair.standby = false → s.top.state ≠ .boot → t.mark = s.mark)) := by
  refine ⟨_, rfl, ?_⟩
  change (onCtl (fun t => t.frameRx h z f) s).mark.2 = _ ∧ (_ → _ → (onCtl (fun t => t.frameRx h z f) s).mark = _)
  by_cases hc : s.ctlOn = true
  · rw [onCtl_on s hc]
    exact frameRx_mark h z f s
  · rw [onCtl_off s (by simpa using hc)]
    exact ⟨rfl, fun _ _ => rfl⟩

/-- Each command enters Boot once at most, counted on, but for AON's power-up and loss, the scan after its loss, and a standby's frame. -/
theorem exec_counts_or (c : Instr) (s t : State) (h : exec c s = .next t) :
    Counts s.mark t.mark ∨ (c = .ledgerScanDone ∧ s.aon.lost = true ∧ s.top.state = .boot) ∨ (s.top.state = .off ∧ t.top.state ≠ .boot) ∨ t.top.state = .off
      ∨ (t.mark.2 = s.mark.2 ∧ (s.pair.standby = false → s.top.state = .boot)) := by
  by_cases hm : mayCount c = true
  · by_cases ha : countsApart c = true
    · unfold countsApart at ha
      split at ha
      · cases h
        rcases vaonRise_mark _ _ s with e | e
        · exact .inr (.inr (.inl e))
        · exact .inl (e ▸ counts_self)
      · cases h
        exact .inr (.inr (.inr (.inl rfl)))
      · rename_i hd z f
        obtain ⟨t', h', h2, hn⟩ := frame_marks s hd z f
        cases h.symm.trans h'
        by_cases hs : s.pair.standby = false ∧ s.top.state ≠ .boot
        · exact .inl (hn hs.1 hs.2 ▸ counts_self)
        · exact .inr (.inr (.inr (.inr ⟨h2, fun h => not_not.mp fun hb => hs ⟨h, hb⟩⟩)))
      · cases h
        by_cases hl : s.aon.lost = true
        · by_cases hb : s.top.state = .boot
          · exact .inr (.inl ⟨rfl, hl, hb⟩)
          · exact .inl (ledgerScan_mark_of_ne s hb ▸ counts_self)
        · exact .inl (ledgerScan_mark_of_kept s (by simpa using hl) ▸ counts_self)
      · exact absurd ha Bool.false_ne_true
    · obtain ⟨t', h', hc⟩ := exec_counts s c hm (by simpa using ha)
      cases h.symm.trans h'
      exact .inl hc
  · exact .inl (mark_of_not_mayCount (by simpa using hm) h ▸ counts_self)

end State

theorem satAdd_one_of_lt {m n : Nat} (h : n < m) : satAdd m n 1 = n + 1 := Nat.min_eq_right h

/-- Settles O58: every command's marks (`exec_counts_or`) and MR_N's release in Boot. -/
theorem everyBootCountsAPowerCycle : Obligations.EveryBootCountsAPowerCycle := by
  refine ⟨fun c s t hs h hlt hb ht => ?_, fun s hlt hb hl hw => ?_, fun c s t h => ?_⟩
  · rcases State.exec_counts_or c s t h with hc | ⟨-, -, e⟩ | ⟨-, e⟩ | e | ⟨-, e⟩
    · exact (hc.boot_of_ne hb ht).trans (satAdd_one_of_lt hlt)
    · exact absurd e hb
    · exact absurd ht e
    · exact absurd (e.symm.trans ht) (by decide)
    · exact absurd (e hs) hb
  · have e : s.mrRelease.mark = State.booted s.mark := by simp [State.mrRelease, hb, hl, hw, State.inState]
    exact ⟨_, rfl, congrArg Prod.fst e, (congrArg Prod.snd e).trans (satAdd_one_of_lt hlt)⟩
  · rcases State.exec_counts_or c s t h with (hq | hb) | ⟨e, hl, -⟩ | ⟨e, -⟩ | e | ⟨e, -⟩
    · exact .inl hq.cycles
    · exact .inr (.inl ⟨congrArg Prod.fst hb, congrArg Prod.snd hb⟩)
    · exact .inr (.inr (.inl ⟨e, hl⟩))
    · exact .inr (.inr (.inr (.inl e)))
    · exact .inr (.inr (.inr (.inr e)))
    · exact .inl e

end Sys2Proof.Machine
end

section
/-! PROOFS. The reset state, VAON and PFI_BUS, the core's supply and MR_N (R18, R20, R25, R28 to R39, R315, R324). -/
set_option Elab.async false

namespace Sys2Proof.Machine
namespace State

/-- An occurrence's count depends on the ledger and the stamp alone. -/
theorem count_ledg_of_eq {s t : State} (k u d : Nat) (hl : t.ledg = s.ledg) (hs : t.stamp = s.stamp) : (t.count k u d).ledg = (s.count k u d).ledg := by
  unfold count
  rw [hl, hs]
  dsimp only
  split
  · rfl
  · unfold post
    dsimp only
    split <;> rfl

/-! ### VAON's switch-overs -/

@[simp] theorem ctlUp_mdAon (f : Aon → Aon) (s : State) : (s.mdAon f).ctlUp = s.ctlUp := rfl

theorem switchOver_aon (toA : Bool) (s : State) : (s.switchOver toA).aon = { s.aon with
    onB := !toA, swoCount := satAdd 0xFFFF s.aon.swoCount 1
    swoA := if toA && !s.ctlUp then satAdd 255 s.aon.swoA 1 else s.aon.swoA
    swoB := if !toA && !s.ctlUp then satAdd 255 s.aon.swoB 1 else s.aon.swoB } := by
  cases hu : s.ctlUp <;> cases toA <;> simp [switchOver, hu]

theorem switchOver_ledg (toA : Bool) (s : State) (hu : s.ctlUp = true) : (s.switchOver toA).ledg = (s.count 0x50 toA.toNat 0).ledg := by
  simp only [switchOver, ctlUp_mdAon, hu, if_true]
  exact count_ledg_of_eq _ _ _ rfl rfl

theorem agree_switchOver_self (toA : Bool) (s : State) : Agree 0x4104 s (s.switchOver toA) := agree_switchOver rfl toA s (.refl _ s)

theorem vaonSource_up (s : State) (hu : s.ctlUp = true) : s.vaonSource = s.follow 151 0xFFFF (!s.pins.vaonA || !s.pins.vaonB) := if_pos hu

theorem agree_vaonSource_self (s : State) : Agree 0x2000 s s.vaonSource := agree_vaonSource rfl s (.refl _ s)

theorem ctlUp_of_ctlOn {s : State} (h : s.ctlOn = true) : s.ctlUp = true := by
  simp only [ctlOn, Bool.and_eq_true] at h
  exact h.1

theorem ctlUp_ne_off {s : State} (h : s.ctlUp = true) : s.top.state ≠ .off := by
  intro e
  simp [ctlUp, e] at h

end State

/-- Settles O3: each value is read off State.reset. -/
theorem resetIsOff : Obligations.ResetIsOff := by
  refine ⟨rfl, rfl, rfl, rfl, rfl, rfl, rfl, rfl, fun p => ?_, rfl, fun r => ?_⟩
  · have h : rd State.reset.stake.q p = {} := rd_tall _ _ p.isLt
    have h' : rd State.reset.stake.v.ports p = {} := rd_tall _ _ p.isLt
    exact ⟨congrArg StkQ.ceil h, by rw [State.stk, h']⟩
  · exact congrArg Ring.save (rd_tall _ _ r.isLt)

/-- A switch-over of AON as one of its supplies changes: AON's record, and where the control island runs, source 151 and the ledger. -/
theorem switched (toA : Bool) (s : State) {f : Pins → Pins} (hf : (s.mdPins f).ctlUp = s.ctlUp) :
    let t := ((s.mdPins f).switchOver toA).vaonSource
    t.aon = (s.switchOver toA).aon ∧ t.top = s.top ∧ t.pins = f s.pins
      ∧ (s.ctlUp = true → t.subLive 151 0xFFFF = (!(f s.pins).vaonA || !(f s.pins).vaonB) ∧ t.ledg = (s.count 0x50 toA.toNat 0).ledg) := by
  have h1 := State.agree_vaonSource_self ((s.mdPins f).switchOver toA)
  have h2 := State.agree_switchOver_self toA (s.mdPins f)
  refine ⟨?_, (h1.top rfl).trans (h2.top rfl), (h1.pins rfl).trans (h2.pins rfl), fun hu => ⟨?_, ?_⟩⟩
  · rw [h1.aon rfl, State.switchOver_aon, State.switchOver_aon, hf]
    rfl
  · have hu' : ((s.mdPins f).switchOver toA).ctlUp = true := by
      rw [← hu, ← hf]
      simp only [State.ctlUp, h2.top rfl, h2.pins rfl]
    rw [State.vaonSource_up _ hu', State.follow_live, h2.pins rfl]
    rfl
  · rw [h1.ledg rfl, State.switchOver_ledg _ _ (hf.trans hu)]
    exact State.count_ledg_of_eq _ _ _ rfl rfl

/-- Settles O7, clause by clause. -/
theorem vaonSupplies : Obligations.VaonSupplies := by
  refine ⟨fun b s h => ⟨_, rfl, ?_⟩, fun s hA hB hon => ⟨s.vaonALoss, rfl, ?_⟩, fun s h hon => ⟨s.vaonAReturn, rfl, ?_⟩,
    fun s => ⟨_, rfl, rfl, rfl, rfl, rfl, rfl, rfl, rfl⟩, fun up s hc hon hA => ⟨s.vaonBCross up, rfl, ?_⟩⟩
  · cases hb : b.onB <;> simp [State.vaonRise, h, State.enter]
  · have e : s.vaonALoss = ((s.mdPins (fun p => { p with vaonA := false })).switchOver false).vaonSource := by
      simp [State.vaonALoss, hA, hB, hon]
    obtain ⟨ha, ht, hp, hu⟩ := switched false s (f := fun p => { p with vaonA := false }) rfl
    rw [e]
    refine ⟨?_, ht, by rw [hp], fun h => ⟨(hu h).1, (hu h).2⟩⟩
    rw [ha, State.switchOver_aon]
    cases s.ctlUp <;> rfl
  · have e : s.vaonAReturn = ((s.mdPins (fun p => { p with vaonA := true })).switchOver true).vaonSource := by
      simp [State.vaonAReturn, h, hon]
    obtain ⟨ha, ht, hp, hu⟩ := switched true s (f := fun p => { p with vaonA := true }) rfl
    rw [e]
    refine ⟨?_, ht, by rw [hp], fun h => ⟨(hu h).1, (hu h).2⟩⟩
    rw [ha, State.switchOver_aon]
    cases s.ctlUp <;> rfl
  · have hu := State.ctlUp_of_ctlOn hc
    have e : s.vaonBCross up = (s.mdPins (fun p => { p with vaonB := up })).follow 151 0xFFFF (!s.pins.vaonA || !up) := by
      simp [State.vaonBCross, hon, hA, State.ctlUp_ne_off hu, State.vaonSource_up _ (show (s.mdPins fun p => { p with vaonB := up }).ctlUp = true from hu)]
    simp [e, hA]

end Sys2Proof.Machine

namespace Sys2Proof.Machine
namespace State

/-! ### The entry to Boot and the control island's reset -/

theorem aonCounts_aon (s : State) : s.aonCounts.aon = { s.aon with tripCnt := tall 9 0, swoA := 0, swoB := 0 } := by
  unfold aonCounts
  extract_lets s1 s2 s3
  have counted (k u d : Nat) (t : State) (h : Agree 0x4100 s t) : Agree 0x4100 s (t.count k u d) := agree_count rfl k u d t h
  have h1 : Agree 0x4100 s s1 := .forN (fun k t h => .iter (fun u hu => counted _ _ _ u hu) h) (.refl _ s)
  have h3 : Agree 0x4100 s s3 := .iter (fun u hu => counted _ _ _ u hu) (.iter (fun u hu => counted _ _ _ u hu) h1)
  exact (mdAon_aon ..).trans (by rw [h3.aon rfl])

/-- What an entry to Boot sets before AON's counts reach the ledger and the sources are read. -/
def booting (s : State) : State := { s with
  top := { s.top with state := .boot, prev := s.top.state, turnsIn := 0, opSec := s.aon.opSec, swoMain := true, swoBkp := false }
  aon := { s.aon with cycles := satAdd 0xFFFFFF s.aon.cycles 1 }
  pins := { s.pins with backupGood := false }
  seq := { s.seq with drv := false }
  pair := { s.pair with hbOut := true } }

section
variable (k : Bool) (s : State)

theorem bootEnter_eq : s.bootEnter k = ((if k then s.booting else s.booting.fabStart).aonCounts).bootSources := rfl

theorem agree_booting : Agree 0x1002100 s.booting (if k then s.booting else s.booting.fabStart) :=
  .ite (.refl _ _) (agree_fabStart rfl _ (.refl _ _))

theorem agree_bootEnter_booting : Agree 0x1006104 s.booting (s.bootEnter k) :=
  agree_bootSources rfl _ (agree_aonCounts rfl _ ((s.agree_booting k).mono rfl))

theorem bootEnter_top : (s.bootEnter k).top = s.booting.top := (s.agree_bootEnter_booting k).top rfl

theorem bootEnter_pins : (s.bootEnter k).pins = { s.pins with backupGood := false } := (s.agree_bootEnter_booting k).pins rfl

theorem bootEnter_aon : (s.bootEnter k).aon =
    { s.aon with cycles := satAdd 0xFFFFFF s.aon.cycles 1, tripCnt := tall 9 0, swoA := 0, swoB := 0 } := by
  rw [bootEnter_eq, (agree_bootSources (μ := 0x2000) rfl _ (.refl _ _)).aon rfl, aonCounts_aon, (s.agree_booting k).aon rfl]
  rfl

/-- The fields an entry to Boot leaves: all but pins, AON's record, TOP, the event and fault registers, the ledger, the strings' latch, the fabric and the pair. -/
theorem agree_bootEnter_self : Agree 0x3016186 s (s.bootEnter k) := agree_bootEnter rfl k s (.refl _ s)

end

theorem backupNotGood_eq (s : State) (hc : s.ctlOn = true) : s.backupNotGood = (s.mdPins (fun p => { p with backupGood := false })).backupSource :=
  if_pos hc

/-- Backup that is not good while in use: source 150 is live, and in Save the supply is noted. -/
theorem backupSource_live (s : State) (hb : s.onBackup = true) (hg : s.pins.backupGood = false) :
    s.backupSource.subLive 150 0xFFFF = true ∧ (s.top.state = .save → s.backupSource.save.supply = true) := by
  unfold backupSource
  extract_lets c s1
  have hc : c = true := by simp [c, hb, hg]
  have h1 : s1.subLive 150 0xFFFF = true := (follow_live _ _ _ c).trans hc
  have ht : s1.top = s.top := by
    have h : Agree 0x6100 s s1 := agree_follow rfl _ _ _ _ (.ite (agree_count rfl _ _ _ s (.refl _ s)) (.refl _ s))
    exact h.top rfl
  rw [hc, ht]
  split
  · exact ⟨h1, fun _ => rfl⟩
  · rename_i hs
    exact ⟨h1, fun h => absurd (by simp [h]) hs⟩

end State

/-- Settles O8, clause by clause. -/
theorem busGoodAndCoreSupply : Obligations.BusGoodAndCoreSupply := by
  refine ⟨fun s hg => ⟨s.pfiGood, rfl, ?_⟩, fun s hg hr hst => ⟨s.busGood100, rfl, ?_⟩, fun s hg hr hst => ⟨s.mainGood10, rfl, ?_⟩,
    fun s hc hb => ⟨s.backupNotGood, rfl, ?_⟩⟩
  · by_cases hs : s.top.state = .save
    · simp [State.pfiGood, hg, State.inputEdge, hs]
    · by_cases hh : s.top.state = .hold <;> simp [State.pfiGood, hg, State.inputEdge, hs, hh]
  · have e : s.busGood100 = (s.mdPins (fun p => { p with busGoodRun := false })).coldBoot := by
      have : (s.top.state = .wake ∧ s.aon.stayOff = false) ∨ s.top.state = .hold := hst.symm
      simp [State.busGood100, hg, hr, this]
    rw [e, State.coldBoot]
    refine ⟨by rw [State.bootEnter_top]; rfl, by rw [State.bootEnter_top]; rfl, by rw [State.bootEnter_aon]; rfl, ?_, by rw [State.bootEnter_top]; rfl,
      by rw [State.bootEnter_top]; rfl, by rw [State.bootEnter_pins]⟩
    rw [(State.agree_bootEnter_self ..).bimg rfl]
    rfl
  · have h0 : (s.mdPins (fun p => { p with mainGoodRun := false, mainOk := true })).top = s.top := rfl
    by_cases hs : s.top.state = .save
    · simp [State.mainGood10, hg, hr, hs]
    · have e : s.mainGood10 = (s.mdPins (fun p => { p with mainGoodRun := false, mainOk := true })).toMain := by
        simp [State.mainGood10, hg, hr, hs, hst]
      have h := State.agree_backupFollow rfl _ (.refl 0x406100 ((s.mdPins (fun p => { p with mainGoodRun := false, mainOk := true })).mdTop (fun t => { t with swoMain := true, swoBkp := false })))
      beta_reduce
      rw [e, State.toMain, h.pins rfl, h.top rfl, if_neg hs]
      exact ⟨rfl, rfl, rfl⟩
  · have h := State.agree_backupSource rfl _ (.refl 0x406100 (s.mdPins (fun p => { p with backupGood := false })))
    obtain ⟨hl, hsup⟩ := State.backupSource_live (s.mdPins (fun p => { p with backupGood := false })) hb rfl
    beta_reduce
    rw [State.backupNotGood_eq s hc, h.pins rfl, h.top rfl]
    have hb' : s.top.swoBkp = true := by simp only [State.onBackup, Bool.and_eq_true] at hb; exact hb.1
    exact ⟨rfl, hl, hb', hsup⟩

namespace State

/-- MR_N where its reset follows at once. -/
theorem mrN_reset (s : State) (hs : s.inState [.off, .wake, .hold] = false) (hn : ¬(s.top.state = .save ∧ s.pair.drv = true)) (hl : s.pins.mrLow = false)
    (hw : s.pins.mrWait = false) : s.mrN =
      ((((if s.top.state == .latched then s.unlatchAll else s).ctlReset true).mdAon (fun a => { a with mrResets := satAdd 0xFFFF a.mrResets 1 })).mdTop
        (fun t => { t with wantUnlatch := s.top.state == .latched })).mdPins (fun p => { p with mrLow := true }) := by
  simp [mrN, hs, hn, hl, hw]

theorem ctlOn_of_mrLow {s : State} (h : s.pins.mrLow = true) : s.ctlOn = false := by simp [ctlOn, ctlUp, h]

theorem ne_of_inState {s : State} {l : List TopState} (h : s.inState l = false) {x : TopState} (hx : x ∈ l) : s.top.state ≠ x := by
  rintro rfl
  simp only [inState, List.contains_eq_mem, decide_eq_false_iff_not] at h
  exact h hx

end State

/-- Settles O9, clause by clause. -/
theorem manualReset : Obligations.ManualReset := by
  refine ⟨fun s hs hd hl hw => ⟨s.mrN, rfl, ?_⟩, fun s hs hl hw => ⟨s.mrN, rfl, ?_⟩, fun s hs => ⟨s.mrN, rfl, ?_⟩, fun s hs hd hl hw => ⟨s.mrN, rfl, ?_⟩,
    fun s hs hl hw => ⟨s.mrN, rfl, ?_⟩, fun s hs hl hw => ⟨s.mrRelease, rfl, ?_⟩, fun s hw => ⟨s.mrRelease, rfl, ?_⟩,
    fun s hs hl hw => ⟨s.mrRelease, rfl, ?_⟩, fun s hs hl hw => ⟨s.mrRelease, rfl, ?_⟩⟩
  · have e : s.mrN = ((((s.mdTop (fun t => { t with mrDeferred := true })).mdPins (fun p => { p with mrWait := true })).mdAon
        (fun a => { a with mrDefer := satAdd 0xFFFF a.mrDefer 1 })).count 0x32 0 0) := by
      simp [State.mrN, State.inState, hs, hd, hl, hw]
    beta_reduce
    rw [e]
    exact ⟨by simp, by simp, by simp, State.count_ledg_of_eq _ _ _ rfl rfl⟩
  · have hx {x : TopState} (hx : x ∈ [.off, .wake, .hold, .save, .latched]) : s.top.state ≠ x := State.ne_of_inState hs hx
    have e := State.mrN_reset s (by simp [State.inState, hx]) (by simp [hx]) hl hw
    beta_reduce
    rw [e, if_neg (by simp [hx])]
    exact ⟨rfl, State.ctlOn_of_mrLow rfl, rfl, rfl, rfl, rfl⟩
  · simp [State.mrN, hs]
  · have e := State.mrN_reset s (by simp [State.inState, hs]) (by simp [hd]) hl hw
    beta_reduce
    rw [e, if_neg (by simp [hs])]
    exact ⟨rfl, State.ctlOn_of_mrLow rfl, rfl⟩
  · have e := State.mrN_reset s (by simp [State.inState, hs]) (by simp [hs]) hl hw
    beta_reduce
    rw [e, if_pos (by simp [hs])]
    exact ⟨rfl, hs, by simp [hs], rfl⟩
  · have e : s.mrRelease = (s.mdPins (fun p => { p with mrLow := false })).aonRegs.bootSources := by
      simp [State.mrRelease, State.inState, hs, hl, hw]
    have h := State.agree_bootSources rfl _ (State.agree_aonRegs rfl _ (.refl 0x26080 (s.mdPins (fun p => { p with mrLow := false }))))
    have ht := State.agree_bootSources (μ := 0x2000) rfl _ (.refl _ (s.mdPins (fun p => { p with mrLow := false })).aonRegs)
    have hr := State.agree_bootSources rfl _ (State.agree_aonRegs rfl _ (State.agree_mdPins rfl (fun p => { p with mrLow := false }) s (.refl 0x26082 s)))
    beta_reduce
    rw [e]
    exact ⟨h.pins rfl, ht.top rfl, hr.sameBut rfl⟩
  · simp [State.mrRelease, hw, State.mdPins]
  · have hx {x : TopState} (hx : x ∈ [.off, .wake, .hold, .latched]) : s.top.state ≠ x := State.ne_of_inState hs hx
    have e : s.mrRelease = ((s.mdPins (fun p => { p with mrLow := false })).ctlReset true).bootEnter true := by
      simp [State.mrRelease, State.inState, hx, hl, hw]
    have h := State.agree_bootEnter_self true ((s.mdPins (fun p => { p with mrLow := false })).ctlReset true)
    beta_reduce
    rw [e, State.bootEnter_top, State.bootEnter_pins, State.bootEnter_aon, h.nor rfl, h.fuseCnt rfl]
    exact ⟨rfl, rfl, rfl, rfl, rfl, rfl⟩
  · have e : s.mrRelease = s.mdPins (fun p => { p with mrLow := false }) := by
      simp only [State.mrRelease, hw, hl, Bool.not_true, Bool.false_eq_true, if_false]
      exact if_pos hs
    exact e

end Sys2Proof.Machine
end

section
/-! PROOFS. Trips, where they enter Save and where they do not (R20, R118 to R123, R347, R404, R521). -/
set_option Elab.async false

namespace Sys2Proof.Machine
namespace State

/-- What holds of a state and is kept by each pass of a loop holds after the loop. -/
theorem forL_keeps {α : Type} {P : State → Prop} {f : α → State → State} (hf : ∀ x t, P t → P (f x t)) (l : List α) {s : State} (h : P s) :
    P (forL l f s) := by
  unfold Sys2Proof.forL
  induction l generalizing s with
  | nil => exact h
  | cons x l ih => exact ih (hf x s h)

/-! ### The forces -/

theorem pairSeen_force (i : Nat) (s : State) : (pairSeen i s).flt.force = s.flt.force ∧ (pairSeen i s).flt.forcePb = s.flt.forcePb := by
  unfold pairSeen
  split <;> exact ⟨rfl, rfl⟩

theorem clearForces_clear (s : State) : ForcesClear s.clearForces := by
  have h : ((forL (idxs 256 s.flt.forcePb.getLsbD) pairSeen { s with flt := { s.flt with force := 0, forcePb := 0 } }).flt.force = 0)
      ∧ ((forL (idxs 256 s.flt.forcePb.getLsbD) pairSeen { s with flt := { s.flt with force := 0, forcePb := 0 } }).flt.forcePb = 0) :=
    forL_keeps (P := fun t => t.flt.force = 0 ∧ t.flt.forcePb = 0)
      (fun i t ht => ⟨(pairSeen_force i t).1.trans ht.1, (pairSeen_force i t).2.trans ht.2⟩) _ ⟨rfl, rfl⟩
  refine ⟨h.1, h.2, ?_⟩
  simp [ctrlBit, clearForces, rd_md_self]

/-! ### The entry to Save -/

section
variable (rank : Nat) (also : BitVec 8) (test cal : Bool) (s : State)

theorem agree_enterSave_self : Agree 0x2fffb85 s (s.enterSave rank also test cal) := agree_enterSave rfl rank also test cal s (.refl _ s)

theorem saveBegin_top : (s.saveBegin rank also test cal).top = { s.top with frz := 0xFF, frzTrip := false }
    ∧ (s.saveBegin rank also test cal).stake.v.frozen = true := by
  unfold saveBegin
  extract_lets s0 src prim ps serial none_ sv v0 s1 s2 s3 s4 s5 tp k v s6
  have h4 : Agree 0x540000 s1 s4 := .forN (fun x t h => agree_mdLk rfl _ _ _ h) (.forN (fun x t h => agree_mdSled rfl _ _ _ h)
    (.forN (fun x t h => agree_mdRing rfl _ _ _ h) (.refl _ s1)))
  have h5 : Agree 0x42100 s4.assertFrz s5 := agree_setEvt rfl _ _ _ (agree_unraise rfl _ _ _ (agree_sendFreeze rfl _ _ _ (.refl _ _)))
  have h5t : s5.top = { s.top with frz := 0xFF } := (h5.top rfl).trans (by simp only [assertFrz, h4.top rfl, s1])
  have h6 : s6.top = { s.top with frz := 0xFF, frzTrip := false } := by simp only [s6, tp, h5t]
  have h6f : s6.stake.v.frozen = true := by simp only [s6]
  clear_value s6
  exact ⟨(count_top ..).trans h6, (congrArg (·.v.frozen) (count_stake ..)).trans h6f⟩

/-- What an entry to Save leaves of the state that trips. -/
theorem enterSave_entered : SaveEntered s (s.enterSave rank also test cal) ∧ (s.enterSave rank also test cal).top.swoMain = s.top.swoMain
    ∧ (s.enterSave rank also test cal).top.swoBkp = s.top.swoBkp := by
  unfold enterSave
  extract_lets own s0 s1 s2 s3 s4 s5 s6
  have h1 : Agree 0x4000 s s1 := .ite (agree_shortRec rfl _ _ (.ite (agree_retRecord rfl s (.refl _ s)) (.refl _ s))) (.ite (agree_retRecord rfl s (.refl _ s)) (.refl _ s))
  obtain ⟨hb, hf⟩ := saveBegin_top rank also test cal s1
  have h2 : s2.top = { s.top with frz := 0xFF, frzTrip := false, prev := s.top.state, state := .save, turnsIn := 0 } := by
    simp only [s2, setEvt_top, enter, mdTop_top, hb, h1.top rfl]
  have h2f : s2.stake.v.frozen = true := by simp only [s2, setEvt_stake, enter, mdTop_stake, hf]
  have hp : s2.pins = s.pins := by
    simp only [s2, setEvt_pins, enter, mdTop_pins, (agree_saveBegin rfl rank also test cal s1 (.refl 0x5c6180 s1)).pins rfl, h1.pins rfl]
  have h3 : Agree 0x10000 s2 s3 := .ite (.refl _ s2) (agree_saveProfileDown rfl s2 (.refl _ s2))
  have h4 : Agree 0xB31104 s2 s4 := agree_retStop rfl _ (agree_learnTrip rfl _ (agree_stageTrip rfl _
    (.ite (agree_calIssue rfl _ (agree_marginCancel rfl _ (h3.mono rfl))) (agree_marginCancel rfl _ (h3.mono rfl)))))
  have h5 : Agree 0x2B3FB04 s2 s5 := agree_clearForces rfl _ (agree_clearHold rfl _ (agree_drillTrip rfl _ _ (agree_cmdTrip rfl _ _ (agree_jobsTrip rfl _ (h4.mono rfl)))))
  have h6 : Agree 0x2100001 s5 s6 := agree_pump rfl _ (agree_mdPair rfl _ _ (.refl _ s5))
  have h7 : Agree 0x2511001 s5 (if also &&& 0x3F#8 ≠ 0 then s6.promote else s6) := .ite (agree_promote rfl _ (h6.mono rfl)) (h6.mono rfl)
  have h8 : Agree 0x2F3FB05 s2 (if also &&& 0x3F#8 ≠ 0 then s6.promote else s6) := (h5.mono rfl).trans (h7.mono rfl)
  have hclear : ForcesClear s5 := clearForces_clear _
  clear_value s6 s5 s2
  have ht := (h8.top rfl).trans h2
  have hq := (h8.pins rfl).trans hp
  have hs := (congrArg (·.v.frozen) (h8.stake rfl)).trans h2f
  generalize (if also &&& 0x3F#8 ≠ 0 then s6.promote else s6) = t at ht hq hs h7 ⊢
  have hd (h : s.tapOwnsPins = false) : t.frzDrive = 0xFF#8 := by
    have h' : t.tapOwnsPins = false := by simpa only [tapOwnsPins, hq] using h
    simp only [frzDrive, h', Bool.false_eq_true, if_false]
    exact congrArg Top.frz ht
  exact ⟨⟨congrArg Top.state ht, congrArg Top.prev ht, congrArg Top.frz ht, hd, hs, (congrArg Flt.force (h7.flt rfl)).trans hclear.1,
    (congrArg Flt.forcePb (h7.flt rfl)).trans hclear.2.1⟩, (congrArg Top.swoMain ht).trans rfl, (congrArg Top.swoBkp ht).trans rfl⟩
end

/-- What the entry leaves depends on the state and on who owns the pins. -/
theorem saveEntered_congr {s s' t : State} (hs : s'.top.state = s.top.state) (hp : s'.pins.tap = s.pins.tap) (h : SaveEntered s' t) : SaveEntered s t := by
  have hq : s'.tapOwnsPins = s.tapOwnsPins := by simp only [tapOwnsPins, hp]
  simpa only [SaveEntered, hs, hq] using h

/-- A trip source where there are stakes. -/
theorem trip_enterSave (r : Nat) (a : BitVec 8) (s : State) (hc : s.ctlUp = true) (hp : s.paired = false ∨ s.pair.drv = true)
    (hs : s.inState [.ready, .ride, .service, .ret] = true) : s.trip r a = s.arrive.enterSave r a false false := by
  have h1 : s.arrive.top.state ≠ .off := ctlUp_ne_off hc
  have h2 : s.arrive.top.state ≠ .save := by
    intro h
    simp [inState, show s.top.state = .save from h] at hs
  have h3 : (s.arrive.ctlUp && s.arrive.paired && !s.arrive.pair.drv && (s.arrive.pair.standby || decide (s.arrive.top.state ≠ .boot))) = false := by
    have e1 : s.arrive.paired = s.paired := rfl
    have e2 : s.arrive.pair.drv = s.pair.drv := rfl
    rw [e1, e2]
    rcases hp with h | h <;> simp [h]
  have h4 : (!s.arrive.ctlUp) = false := by rw [show s.arrive.ctlUp = s.ctlUp from rfl, hc]; rfl
  have h5 : s.arrive.inState [.ready, .ride, .service, .ret] = true := hs
  simp only [trip, if_neg h1, h3, h4, Bool.false_eq_true, if_false, if_neg h2, h5, if_true]

theorem trip_entered (r : Nat) (a : BitVec 8) (s : State) (hc : s.ctlUp = true) (hp : s.paired = false ∨ s.pair.drv = true)
    (hs : s.inState [.ready, .ride, .service, .ret] = true) :
    SaveEntered s (s.trip r a) ∧ (s.trip r a).top.swoMain = s.top.swoMain ∧ (s.trip r a).top.swoBkp = s.top.swoBkp := by
  rw [trip_enterSave r a s hc hp hs]
  obtain ⟨h, hm, hb⟩ := enterSave_entered r a false false s.arrive
  exact ⟨saveEntered_congr rfl rfl h, hm, hb⟩

/-! ### AC-good and bus sag -/

theorem length_filter_set {l : List Nat} (hl : l.Nodup) {n : Nat} (hn : n ∈ l) {f g : Nat → Bool} (hf : f n = false) (hg : g n = true)
    (h : ∀ i, i ≠ n → g i = f i) : (l.filter g).length = (l.filter f).length + 1 := by
  have hp := List.perm_cons_erase hn
  rw [(hp.filter g).length_eq, (hp.filter f).length_eq, List.filter_cons_of_pos hg, List.filter_cons_of_neg (by simp [hf]), List.length_cons]
  rw [List.filter_congr fun i hi => h i (hl.mem_erase_iff.mp hi).1]

/-- One more AC-good double lost, as the freeze path counts. -/
theorem acgFast_lost (n : Fin 8) (s : State) (h : rd s.pins.acgLow n = false) {t : State} (ht : t.pins.acgLow = wr s.pins.acgLow n true) :
    t.acgFast = s.acgFast + 1 := by
  unfold acgFast idxs
  rw [ht]
  exact length_filter_set List.nodup_range (List.mem_range.mpr n.isLt) h (rd_wr_self _ _ _ n.isLt) fun i hi => rd_wr_ne _ _ _ _ hi.symm

theorem inState_running {s : State} (hs : s.inState [.ready, .ride, .service, .ret] = true) : s.top.state ≠ .rise ∧ s.top.state ≠ .save ∧ s.top.state ≠ .boot := by
  refine ⟨?_, ?_, ?_⟩ <;> intro h <;> simp [inState, h] at hs

theorem inputGone_of_ne {was s : State} (h : s.top.state ≠ .rise) : inputGone was s = s := by
  simp [inputGone, riseAbort, h]

theorem acgLoss_trip (n : Fin 8) (a : BitVec 8) (s : State) (hs : s.inState [.ready, .ride, .service, .ret] = true) (hb : s.bimg.running = true)
    (hr : s.im.core.rideThrough = false) (hn : rd s.pins.acgLow n = false) (h0 : s.acgFast < s.im.core.acgThr) (h1 : s.im.core.acgThr ≤ s.acgFast + 1) :
    s.acgLoss n a = (s.mdPins (fun p => { p with acgLoss := wr p.acgLoss n true, acgLow := wr p.acgLow n true })).trip 3 a := by
  have hg := acgFast_lost n s hn (t := s.mdPins (fun p => { p with acgLoss := wr p.acgLoss n true, acgLow := wr p.acgLow n true })) rfl
  unfold acgLoss
  dsimp only
  rw [inputGone_of_ne (s := s.mdPins _) (inState_running hs).1, hg]
  have c : (s.bimg.running && !s.im.core.rideThrough && s.acgFast < s.im.core.acgThr && s.im.core.acgThr ≤ s.acgFast + 1) = true := by
    simp [hb, hr, h0, h1]
  exact if_pos c

/-- A sag outside Wake, and with an image that runs, moves the core to backup. -/
theorem sagSupply_facts (s : State) (hs : s.inState [.ready, .ride, .service, .ret] = true) :
    s.sagSupply.top = { s.top with swoMain := false, swoBkp := true }
      ∧ s.sagSupply.pins = { s.pins with pfiGood := false, busGoodRun := false, mainGoodRun := false, mainOk := false } := by
  have he : (s.mdPins (fun p => { p with pfiGood := false, busGoodRun := false, mainGoodRun := false, mainOk := false })).inputEdge
      = s.mdPins (fun p => { p with pfiGood := false, busGoodRun := false, mainGoodRun := false, mainOk := false }) :=
    if_neg (inState_running hs).2.1
  have hm (f : Pins → Pins) : (s.mdPins f).mainOnly = false := by
    have h1 : s.inState [.off, .wake] = false := by
      simp only [inState, List.contains_eq_mem, List.mem_cons, List.not_mem_nil, or_false, decide_eq_true_eq] at hs ⊢
      rcases hs with h | h | h | h <;> rw [h] <;> rfl
    simp [mainOnly, show (s.mdPins f).inState [.off, .wake] = false from h1, (inState_running hs).2.2]
  unfold sagSupply
  dsimp only
  rw [he, hm, if_neg Bool.false_ne_true]
  have h := agree_backupFollow rfl _ (.refl 0x406100 ((s.mdPins (fun p => { p with pfiGood := false, busGoodRun := false, mainGoodRun := false, mainOk := false })).mdTop
    (fun t => { t with swoMain := false, swoBkp := true })))
  exact ⟨h.top rfl, h.pins rfl⟩

theorem pfiSag_trip (a : BitVec 8) (s : State) (hs : s.inState [.ready, .ride, .service, .ret] = true) : s.pfiSag a = s.sagSupply.trip 1 a := by
  have ht : s.sagSupply.top.state = s.top.state := (congrArg Top.state (sagSupply_facts s hs).1).trans rfl
  simp [pfiSag, ht, (inState_running hs).1]

theorem rpWrite_portFree {s : State} (h : PortFree s) (a : Nat) (f : State → State) : s.rpWrite a f = f (s.rpData 0) := by
  simp [rpWrite, h.1, h.2]

end State

/-- Settles O12, clause by clause. -/
theorem tripsEnterSave : Obligations.TripsEnterSave := by
  refine ⟨fun a s hc hp hs => ⟨s.trip 2 a, rfl, ?_⟩, fun a s hc hp hs hb => ⟨s.pfiSag a, rfl, ?_⟩,
    fun n a s hc hp hs hb hr hn h0 h1 => ⟨s.acgLoss n a, rfl, ?_⟩, fun a s hf hs hd => ⟨s.rpWrite 0x070008 (State.testTrip 0x7E575AFE#32 a), rfl, ?_⟩⟩
  · exact (State.trip_entered 2 a s (State.ctlUp_of_ctlOn hc) hp hs).1
  · have h := State.agree_sagSupply rfl s (.refl 0x406182 s)
    obtain ⟨ht, hpins⟩ := State.sagSupply_facts s hs
    have hst : s.sagSupply.top.state = s.top.state := (congrArg Top.state ht).trans rfl
    have hu : s.sagSupply.ctlUp = true := by
      have hu := State.ctlUp_of_ctlOn hc
      simpa only [State.ctlUp, ht, hpins] using hu
    have hp' : s.sagSupply.paired = false ∨ s.sagSupply.pair.drv = true := by
      simpa only [State.paired, h.bimg rfl, h.pair rfl] using hp
    obtain ⟨he, hm, hbk⟩ := State.trip_entered 1 a s.sagSupply hu hp' (by simpa only [State.inState, hst] using hs)
    have hf : State.Agree 0x2fffb85 s.sagSupply (s.sagSupply.trip 1 a) := State.agree_trip rfl 1 a s.sagSupply (.refl _ _)
    beta_reduce
    rw [State.pfiSag_trip a s hs, hm, hbk, hf.pins rfl, hpins, ht]
    exact ⟨State.saveEntered_congr hst ((congrArg Pins.tap hpins).trans rfl) he, rfl, rfl, rfl⟩
  · obtain ⟨he, -, -⟩ := State.trip_entered 3 a (s.mdPins (fun p => { p with acgLoss := wr p.acgLoss n true, acgLow := wr p.acgLow n true }))
      (State.ctlUp_of_ctlOn hc) hp hs
    have hf := State.agree_trip (μ := 0x2fffb85) rfl 3 a _ (.refl _ (s.mdPins (fun p => { p with acgLoss := wr p.acgLoss n true, acgLow := wr p.acgLow n true })))
    rw [State.acgLoss_trip n a s hs hb hr hn h0 h1, hf.pins rfl]
    exact ⟨State.saveEntered_congr rfl rfl he, rd_wr_self _ _ _ n.isLt, rd_wr_self _ _ _ n.isLt⟩
  · have e : State.testTrip 0x7E575AFE#32 a (s.rpData 0) = (s.rpData 0).arrive.enterSave 7 a true false := by
      have c : (0x7E575AFE#32 = 0x7E575AFE#32 && s.inState [.ready, .service] && s.holder && s.ctlOn) = true := by
        simp [hs, show s.holder = true from hd, hf.1]
      exact if_pos c
    rw [State.rpWrite_portFree hf, e]
    exact State.saveEntered_congr (s' := (s.rpData 0).arrive) rfl rfl (State.enterSave_entered 7 a true false (s.rpData 0).arrive).1

end Sys2Proof.Machine

namespace Sys2Proof.Machine
namespace State

/-! ### A command's instant changes nothing but the clock -/

@[simp] theorem arrive_ctlUp (s : State) : s.arrive.ctlUp = s.ctlUp := rfl
@[simp] theorem arrive_ctlOn (s : State) : s.arrive.ctlOn = s.ctlOn := rfl
@[simp] theorem arrive_paired (s : State) : s.arrive.paired = s.paired := rfl
@[simp] theorem arrive_inState (s : State) (l : List TopState) : s.arrive.inState l = s.inState l := rfl

/-- Where a trip only asserts FRZ_N and clears the forces: at a standby, and at a controller that has given its token away. -/
theorem tripOnlyFreezes_iff (s : State) :
    (s.arrive.ctlUp && s.arrive.paired && !s.arrive.pair.drv && (s.arrive.pair.standby || s.arrive.top.state ≠ .boot)) = true ↔
      s.ctlUp = true ∧ s.paired = true ∧ s.pair.drv = false ∧ (s.pair.standby = true ∨ s.top.state ≠ .boot) := by
  simp only [Bool.and_eq_true, Bool.or_eq_true, decide_eq_true_eq, Bool.not_eq_true', and_assoc]
  rfl

/-! ### A trip that enters no Save -/

theorem primaryOf_lt (m : BitVec 8) : primaryOf m < 9 := by
  have h : ∀ x ∈ idxs 8 (fun i => m.getLsbD i), x < 8 := fun x hx => List.mem_range.mp (List.mem_of_mem_filter hx)
  unfold primaryOf
  cases hl : idxs 8 (fun i => m.getLsbD i) with
  | nil => decide
  | cons x l =>
    have := h x (hl ▸ List.mem_cons_self)
    simp only [List.headD_cons]
    omega

theorem tripNoSave_powered (r : Nat) (a : BitVec 8) (s : State) (h : s.ctlUp = true) :
    s.tripNoSave r a = ({ s with top := { s.top with frz := 0xFF#8, frzTrip := true } } : State).count 0x20 (primaryOf (srcMask r a)) 0xFFFFFFFF :=
  if_pos h

theorem agree_tripNoSave_powered (r : Nat) (a : BitVec 8) {s t : State} (h : t.ctlUp = true) (ht : Agree 0x4181 s t) : Agree 0x4181 s (t.tripNoSave r a) := by
  rw [tripNoSave_powered r a t h]
  exact agree_count rfl _ _ _ _ (agree_mdTop rfl (fun x => { x with frz := 0xFF#8, frzTrip := true }) t ht)

theorem tripNoSave_unpowered (r : Nat) (a : BitVec 8) (s : State) (h : s.ctlUp = false) :
    s.tripNoSave r a = { s with
      top := { s.top with frz := 0xFF#8, frzTrip := true }
      aon := { s.aon with tripCnt := md s.aon.tripCnt (primaryOf (srcMask r a)) (satAdd 255 · 1) } } := by
  unfold tripNoSave
  dsimp only
  exact if_neg (by rw [show ({ s.assertFrz with top := { s.assertFrz.top with frzTrip := true } } : State).ctlUp = s.ctlUp from rfl, h]; simp)

/-! ### A trip in Save -/

/-- The save is promoted, or is as it was. -/
theorem promote_save (s : State) : (s.promote.save = { s.save with promoted := true, calBad := true, fillOn := false })
    ∨ (s.promote.save = s.save ∧ ((s.save.test || s.save.cal) && !s.save.promoted && s.saving) = false) := by
  unfold promote
  split
  · have hm := agree_marginCancel rfl _ (agree_saveProfileDown rfl _ (.refl 0x11000 (s.mdSave (fun v => { v with promoted := true, calBad := true, fillOn := false }))))
    exact .inl (hm.save rfl)
  · rename_i h
    exact .inr ⟨rfl, by simpa using h⟩

/-- The record of a save that a second source of rank `r` reaches, before a promotion. -/
def lateSave (r : Nat) (s : State) : Save :=
  if s.clk.l ≤ s.save.tripL + 1000 then { s.save with src := srcMask r s.save.src, primary := min r s.save.primary }
  else { s.save with late := s.save.late ||| BitVec.ofNat 8 (2 ^ (r - 1)) }

theorem saveLate_eq (r : Nat) (hr : r ≤ 6) (s : State) : ∃ u : State, s.saveLate r = u.promote ∧ u.save = s.lateSave r ∧ u.top = s.top := by
  unfold saveLate lateSave
  dsimp only
  rw [if_pos hr]
  refine ⟨_, rfl, ?_⟩
  split
  · split
    · rename_i h
      rw [Nat.min_eq_left (Nat.le_of_lt h)]
      exact ⟨count_save .., count_top ..⟩
    · rename_i h
      rw [Nat.min_eq_right (Nat.le_of_not_lt h)]
      exact ⟨rfl, rfl⟩
  · exact ⟨rfl, rfl⟩

/-- A second source in Save: within 1 us of t_trip it joins the sources, later it is noted. -/
theorem saveLate_save (r : Nat) (hr : r ≤ 6) (s : State) (hs : s.top.state = .save) :
    (s.saveLate r).save.serial = s.save.serial
      ∧ (if s.clk.l ≤ s.save.tripL + 1000 then (s.saveLate r).save.src = srcMask r s.save.src ∧ (s.saveLate r).save.primary = min r s.save.primary
         else (s.saveLate r).save.late = s.save.late ||| BitVec.ofNat 8 (2 ^ (r - 1)) ∧ (s.saveLate r).save.primary = s.save.primary)
      ∧ ((s.save.test = true ∨ s.save.cal = true) ∧ s.save.done = false → (s.saveLate r).save.promoted = true) := by
  obtain ⟨u, e, hu, ht⟩ := s.saveLate_eq r hr
  have hsave : u.saving = !(s.lateSave r).done := by simp [saving, ht, hs, hu]
  rw [e]
  unfold lateSave at hu hsave
  rcases promote_save u with h | ⟨h, hp⟩
  · rw [h, hu]
    split <;> exact ⟨rfl, ⟨rfl, rfl⟩, fun _ => rfl⟩
  · rw [hsave, hu] at hp
    rw [h, hu]
    split
    · rename_i hw
      simp only [hw, if_true] at hp
      refine ⟨rfl, ⟨rfl, rfl⟩, fun ⟨htc, hd⟩ => ?_⟩
      rcases htc with h | h <;> simpa [h, hd] using hp
    · rename_i hw
      simp only [hw, if_false] at hp
      refine ⟨rfl, ⟨rfl, rfl⟩, fun ⟨htc, hd⟩ => ?_⟩
      rcases htc with h | h <;> simpa [h, hd] using hp

end State

/-- Settles O13, clause by clause. -/
theorem tripsElsewhere : Obligations.TripsElsewhere := by
  refine ⟨fun a s hs hc hp => ⟨s.trip 2 a, rfl, ?_⟩, fun a s hs hc => ⟨s.trip 2 a, rfl, ?_⟩, fun a s hs hc hp => ⟨s.trip 2 a, rfl, ?_⟩,
    fun a s hc hp hd hs => ⟨s.trip 2 a, rfl, ?_⟩, fun a s hs => ⟨s.trip 2 a, rfl, ?_⟩, fun w a s hf hw => ⟨s.rpWrite 0x070008 (State.testTrip w a), rfl, ?_⟩⟩
  · have hu := State.ctlUp_of_ctlOn hc
    have e : s.trip 2 a = (s.arrive.tripNoSave 2 a).clearForces := by
      have hn : s.top.state ≠ .save ∧ s.inState [.ready, .ride, .service, .ret] = false := by
        simp only [State.inState, List.contains_eq_mem, List.mem_cons, List.not_mem_nil, or_false, decide_eq_true_eq] at hs ⊢
        rcases hs with h | h | h | h <;> rw [h] <;> exact ⟨by decide, rfl⟩
      have hq : ¬ (s.ctlUp = true ∧ s.paired = true ∧ s.pair.drv = false ∧ (s.pair.standby = true ∨ s.top.state ≠ .boot)) := by
        rintro ⟨-, h1, h2, h3⟩
        rcases hp with h | h | ⟨h, h'⟩ <;> simp_all
      have h2 : ¬ (!s.arrive.ctlUp) = true := by simp [hu]
      have h4 : ¬ s.arrive.inState [.ready, .ride, .service, .ret] = true := by simp [hn.2]
      unfold State.trip
      dsimp only
      rw [if_neg (State.ctlUp_ne_off (s := s.arrive) hu), if_neg (mt (State.tripOnlyFreezes_iff s).mp hq), if_neg h2, if_neg (show s.arrive.top.state ≠ .save from hn.1), if_neg h4]
    have h := State.agree_clearForces (μ := 0x2200) rfl _ (.refl _ (s.arrive.tripNoSave 2 a))
    have h' : State.Agree 0x6381 s (s.arrive.tripNoSave 2 a).clearForces :=
      State.agree_clearForces rfl _ ((State.agree_tripNoSave_powered 2 a (t := s.arrive) hu (State.agree_arrive rfl s (.refl _ s))).mono rfl)
    have hp := State.tripNoSave_powered 2 a s.arrive hu
    beta_reduce
    rw [e, h.top rfl, h.ledg rfl]
    exact ⟨(congrArg State.top hp).trans (State.count_top ..), (congrArg State.ledg hp).trans (State.count_ledg_of_eq _ _ _ rfl rfl),
      State.clearForces_clear _, h'.sameBut rfl⟩
  · have e : s.trip 2 a = s.arrive.tripNoSave 2 a := by simp [State.trip, hs, hc]
    beta_reduce
    rw [e, State.tripNoSave_unpowered 2 a s.arrive hc]
    have h := State.agree_mdAon rfl (fun x => { x with tripCnt := md x.tripCnt (State.primaryOf (State.srcMask 2 a)) (satAdd 255 · 1) }) _
      (State.agree_mdTop rfl (fun x => { x with frz := 0xFF#8, frzTrip := true }) _ (State.agree_arrive rfl s (.refl 0x85 s)))
    exact ⟨rfl, rd_md_self _ _ _ (State.primaryOf_lt _), h.sameBut rfl⟩
  · have e : s.trip 2 a = s.arrive.assertFrz.saveLate 2 := by
      have hu := State.ctlUp_of_ctlOn hc
      rcases hp with h | h <;> simp [State.trip, hs, hu, h]
    obtain ⟨u, hu, -, ht⟩ := State.saveLate_eq 2 (by decide) s.arrive.assertFrz
    obtain ⟨h1, h2, h3⟩ := State.saveLate_save 2 (by decide) s.arrive.assertFrz hs
    have htop : (s.arrive.assertFrz.saveLate 2).top = s.arrive.assertFrz.top := by
      rw [hu, (State.agree_promote (μ := 0x411000) rfl u (.refl _ u)).top rfl, ht]
    beta_reduce
    rw [e, htop]
    exact ⟨hs, rfl, h1, h2, h3⟩
  · have e : s.trip 2 a = s.arrive.assertFrz.clearForces := by
      have hu := State.ctlUp_of_ctlOn hc
      unfold State.trip
      dsimp only
      rw [if_neg (State.ctlUp_ne_off (s := s.arrive) hu), if_pos ((State.tripOnlyFreezes_iff s).mpr ⟨hu, hp, hd, hs⟩)]
    have h := State.agree_clearForces (μ := 0x2200) rfl _ (.refl _ s.arrive.assertFrz)
    have h' := State.agree_clearForces rfl _ (State.agree_assertFrz rfl _ (State.agree_arrive rfl s (.refl 0x2281 s)))
    beta_reduce
    rw [e, h.top rfl]
    exact ⟨rfl, State.clearForces_clear _, h'.sameBut rfl⟩
  · simp [State.trip, hs]
  · have e : State.testTrip w a (s.rpData 0) = s.rpData 0 := by simp [State.testTrip, hw]
    rw [State.rpWrite_portFree hf, e]
    exact (State.agree_rpData rfl 0 s (.refl 0x1000 s)).sameBut rfl

end Sys2Proof.Machine
end

section
/-! PROOFS. The push-button, the end of Ride and AON's second (R20, R322, R323, R351, R359, R391, R410). -/
set_option Elab.async false

namespace Sys2Proof.Machine
namespace State

/-! ### The push-button -/

theorem agree_pbCount_self (u n : Nat) (s : State) : Agree 0x4100 s (s.pbCount u n) := agree_pbCount rfl u n s (.refl _ s)

/-- What a press does in every state but Off, before it acts. -/
def pressed (n : Nat) (s : State) : State := { s with
  aon := { s.aon with presses := if n ≤ 20 then satAdd 0xFFFF s.aon.presses 1 else s.aon.presses, pbLast := min 0xFF n }
  pins := { s.pins with pbDown := false }
  seq := { s.seq with pbUsed := false } }

theorem pbPress_short (n : Nat) (s : State) (h0 : s.top.state ≠ .off) (hn : n ≤ 20) : s.pbPress n =
    if s.top.state = .wake then ((s.pressed n).mdAon (fun a => { a with stayOff := false })).coldBoot
    else if s.ctlOn && s.inState [.rise, .ready, .ride, .save, .ret, .service] then ((s.pressed n).pbCount 0 n).setEvt 4 3 else (s.pressed n).pbCount 0 n := by
  unfold pbPress
  rw [if_neg h0]
  dsimp only
  rw [if_neg (Nat.not_lt.mpr hn)]
  rfl

/-- What a hold that forces does in every state but Off, before it acts. -/
def forced (n : Nat) (s : State) : State :=
  ({ s with aon := { s.aon with forces := satAdd 0xFF s.aon.forces 1 }, pins := { s.pins with pbDown := true }, seq := { s.seq with pbUsed := true } } : State).pbCount 1 n

theorem forced_facts (n : Nat) (s : State) :
    (s.forced n).top = s.top ∧ (s.forced n).pair = s.pair ∧ (s.forced n).aon = { s.aon with forces := satAdd 0xFF s.aon.forces 1 } := by
  have h := agree_pbCount_self 1 n
    { s with aon := { s.aon with forces := satAdd 0xFF s.aon.forces 1 }, pins := { s.pins with pbDown := true }, seq := { s.seq with pbUsed := true } }
  exact ⟨h.top rfl, h.pair rfl, h.aon rfl⟩

/-- A hold that forces, where the state is neither Off, Wake nor Boot. -/
theorem pbForce_eq (n : Nat) (s : State) (hs : s.inState [.ready, .ride, .service, .ret, .save] = true) (hu : s.seq.pbUsed = false) (hd : s.pair.drv = true) :
    s.pbForce n = if s.top.state = .save then (s.forced n).mdTop (fun t => { t with wantForce := true })
      else ((s.forced n).mdAon (fun a => { a with stayOff := true })).mdTop (fun t => { t with wantForce := true }) := by
  obtain ⟨ht, hp, -⟩ := s.forced_facts n
  have e : s.pbForce n = if s.top.state = .off || s.seq.pbUsed then s
      else if (s.forced n).top.state = .wake then (s.forced n).mdAon (fun a => { a with stayOff := true })
      else if (s.forced n).top.state = .boot then
        ((s.forced n).mdAon (fun a => { a with stayOff := true })).mdTop (fun t => { t with wantForce := !(s.forced n).pair.standby })
      else if (s.forced n).pair.drv && (s.forced n).inState [.ready, .ride, .service, .ret] then
        ((s.forced n).mdAon (fun a => { a with stayOff := true })).mdTop (fun t => { t with wantForce := true })
      else if (s.forced n).pair.drv && (s.forced n).top.state = .save then (s.forced n).mdTop (fun t => { t with wantForce := true })
      else s.forced n := rfl
  rw [e]
  simp only [inState, List.contains_eq_mem, List.mem_cons, List.not_mem_nil, or_false, decide_eq_true_eq] at hs
  rcases hs with h | h | h | h | h <;> simp [inState, ht, hp, h, hd, hu]

/-! ### AON's second -/

/-- What AON's second moves before the SHARED rails follow. -/
theorem sharedFollow_times (s : State) : s.sharedFollow.aon.opSec = s.aon.opSec ∧ s.sharedFollow.aon.drillAge = s.aon.drillAge
    ∧ s.sharedFollow.aon.wallMs = s.aon.wallMs := by
  unfold sharedFollow freeShared
  split
  · exact ⟨rfl, rfl, rfl⟩
  · split <;> exact ⟨rfl, rfl, rfl⟩

theorem secondTick_times (s : State) (hs : s.top.state ≠ .off) : s.secondTick.aon.opSec = (s.aon.opSec + 1) % 2 ^ 32
    ∧ s.secondTick.aon.drillAge = satAdd 0xFFFFFFFF s.aon.drillAge 1
    ∧ s.secondTick.aon.wallMs = if s.ctlOn then s.aon.wallMs else s.aon.wallMs + 1000 := by
  unfold secondTick
  rw [if_neg hs]
  extract_lets n b s1 s2
  have h2 : s2.aon = s1.aon := by
    unfold s2
    split <;> rfl
  have h1 : s2.aon.opSec = n ∧ s2.aon.drillAge = satAdd 0xFFFFFFFF s.aon.drillAge 1 ∧ s2.aon.wallMs = if s.ctlOn then s.aon.wallMs else s.aon.wallMs + 1000 := by
    rw [h2]
    exact ⟨rfl, rfl, rfl⟩
  split
  · obtain ⟨ho, hd, hw⟩ := s2.sharedFollow_times
    rw [ho, hd, hw]
    exact h1
  · split <;> exact h1

end State

/-- Settles O16, clause by clause. -/
theorem operatorAndSeconds : Obligations.OperatorAndSeconds := by
  refine ⟨fun n s hs hn => ⟨s.pbPress n.toNat, rfl, ?_⟩, fun n s hc hs hn => ⟨s.pbPress n.toNat, rfl, ?_⟩, fun s hs hc hd => ⟨s.pbHold3, rfl, ?_⟩,
    fun n s hs hu hd => ⟨s.pbForce n.toNat, rfl, ?_⟩, fun n s hs hu hd => ⟨s.pbForce n.toNat, rfl, ?_⟩, fun s hc hd hs ha => ⟨s.rideExit, rfl, ?_⟩,
    fun s hs => ⟨s.secondTick, rfl, ?_⟩⟩
  · beta_reduce
    rw [State.pbPress_short _ s (by simp [hs]) hn, if_pos hs, State.coldBoot, State.bootEnter_top, State.bootEnter_pins, State.bootEnter_aon]
    exact ⟨rfl, rfl, if_pos hn, Nat.min_eq_right (by omega), rfl⟩
  · have hw : s.top.state ≠ .wake := by
      intro h
      simp [State.inState, h] at hs
    have h := State.agree_pbCount_self 0 n.toNat (s.pressed n.toNat)
    beta_reduce
    rw [State.pbPress_short _ s (State.ctlUp_ne_off (State.ctlUp_of_ctlOn hc)) hn, if_neg hw, if_pos (by simp [hc, hs])]
    exact ⟨by simp, (State.setEvt_top ..).trans (h.top rfl), (congrArg Aon.presses ((State.setEvt_aon ..).trans (h.aon rfl))).trans (if_pos hn)⟩
  · have e : s.pbHold3 = (({ s.mdPins (fun p => { p with pbDown := true }) with seq := { s.seq with pbUsed := true } } : State).mdTop
        (fun t => { t with wantService := true })).pbCount 2 30 := by
      have c : (s.top.state = .rise && s.ctlOn && s.pair.drv) = true := by simp [hs, hc, hd]
      exact if_pos c
    have h := State.agree_pbCount_self 2 30
      (({ s.mdPins (fun p => { p with pbDown := true }) with seq := { s.seq with pbUsed := true } } : State).mdTop (fun t => { t with wantService := true }))
    beta_reduce
    rw [e, h.top rfl, h.pins rfl, h.seq rfl]
    exact ⟨rfl, rfl, rfl⟩
  · have hn : s.top.state ≠ .save ∧ s.inState [.ready, .ride, .service, .ret, .save] = true := by
      simp only [State.inState, List.contains_eq_mem, List.mem_cons, List.not_mem_nil, or_false, decide_eq_true_eq] at hs ⊢
      rcases hs with h | h | h | h <;> simp [h]
    obtain ⟨ht, -, ha⟩ := s.forced_facts n.toNat
    beta_reduce
    rw [State.pbForce_eq _ s hn.2 hu hd, if_neg hn.1]
    exact ⟨by simp [ht], rfl, congrArg Aon.forces ha⟩
  · obtain ⟨ht, -, ha⟩ := s.forced_facts n.toNat
    rw [State.pbForce_eq _ s (by simp [State.inState, hs]) hu hd, if_pos hs]
    exact ⟨by simp [ht], (congrArg Aon.stayOff ha).trans rfl⟩
  · simp [State.rideExit, hc, hd, hs, ha, State.mdTop]
  · obtain ⟨ho, hd, hw⟩ := s.secondTick_times hs
    exact ⟨ho, hd, hw, (State.agree_secondTick rfl s (.refl 0x3000105 s)).sameBut rfl⟩

end Sys2Proof.Machine
end

section
/-! PROOFS. Reports and stakes at a turn boundary (R21, R54 to R66). -/
set_option Elab.async false

namespace Sys2Proof.Machine
namespace State

/-! ### One port's figures -/

@[simp] theorem stk_mdStk (p : Fin 64) (f : StkP → StkP) (s : State) : (s.mdStk p f).stk p = f (s.stk p) := rd_md_self _ _ _ p.isLt

@[simp] theorem stkQ_mdStk (p q : Nat) (f : StkP → StkP) (s : State) : (s.mdStk p f).stkQ q = s.stkQ q := rfl

@[simp] theorem stkQ_mdStkQ (p : Fin 64) (f : StkQ → StkQ) (s : State) : (s.mdStkQ p f).stkQ p = f (s.stkQ p) := rd_md_self _ _ _ p.isLt

@[simp] theorem stk_mdStkQ (p q : Nat) (f : StkQ → StkQ) (s : State) : (s.mdStkQ p f).stk q = s.stk q := rfl

/-- The report of a port, once judged: its U_p and the run of turns without one. -/
def reported (p : Nat) (u : Nat) (s : State) : State :=
  (s.mdStk p (fun v => { v with u })).mdStkQ p (fun q => { q with
    uRep := q.rep.getD q.uRep, missRun := if q.due && q.rep.isNone then q.missRun + 1 else 0, rep := none, due := false })

/-- The judgement of a report `r` against K_p. -/
def overstaked (p o : Nat) (s : State) : State :=
  (s.mdStk p (fun v => { v with ovr := decide (0 < o), ovrTurns := if 0 < o then satAdd 0xFFFF v.ovrTurns 1 else v.ovrTurns })).mdStkQ p (fun q => { q with
    overSeen := q.overSeen || decide (0 < o), ovrRun := if 0 < o then q.ovrRun + 1 else 0 })

theorem judgePort_report (p : Fin 64) (r : Nat) (s : State) (he : (s.stkQ p).elig = true) (hd : (s.stkQ p).due = true) (hs : s.stakeState = true)
    (hr : (s.stkQ p).rep = some r) :
    s.judgePort p = (if 0 < r - (s.stk p).k then (s.overstaked p (r - (s.stk p).k)).count 0x10 p (r - (s.stk p).k)
      else (s.overstaked p (r - (s.stk p).k)).unraise (64 + p / 8) p).reported p r := by
  have hu : s.uOf p = r := by simp only [uOf, he, hr, Bool.true_or, if_true]
  unfold judgePort
  simp only [he, hd, hs, hr, hu, Bool.and_self]
  rfl

theorem judgePort_missing (p : Fin 64) (s : State) (he : (s.stkQ p).elig = true) (hr : (s.stkQ p).rep = none) :
    s.judgePort p = (s.mdStk p (fun v => { v with ovr := false })).reported p (s.stk p).k := by
  have hu : s.uOf p = (s.stk p).k := by simp only [uOf, he, hr, Bool.true_or, if_true]
  unfold judgePort
  simp only [hr, hu]
  cases (s.stkQ p).elig && (s.stkQ p).due && s.stakeState <;> rfl

theorem reported_stk (p : Fin 64) (u : Nat) (s : State) : (s.reported p u).stk p = { s.stk p with u } := by simp [reported]

theorem reported_stkQ (p : Fin 64) (u : Nat) (s : State) : (s.reported p u).stkQ p = { s.stkQ p with
    uRep := (s.stkQ p).rep.getD (s.stkQ p).uRep, missRun := if (s.stkQ p).due && (s.stkQ p).rep.isNone then (s.stkQ p).missRun + 1 else 0, rep := none, due := false } :=
  (stkQ_mdStkQ p _ _).trans rfl

theorem agree_reported (p u : Nat) (s : State) : Agree 0x80000 s (s.reported p u) :=
  agree_mdStkQ rfl _ _ _ (agree_mdStk rfl _ _ _ (.refl _ s))

theorem agree_overstaked (p o : Nat) (s : State) : Agree 0x80000 s (s.overstaked p o) :=
  agree_mdStkQ rfl _ _ _ (agree_mdStk rfl _ _ _ (.refl _ s))

theorem overstaked_stk (p : Fin 64) (o : Nat) (s : State) : (s.overstaked p o).stk p =
    { s.stk p with ovr := decide (0 < o), ovrTurns := if 0 < o then satAdd 0xFFFF (s.stk p).ovrTurns 1 else (s.stk p).ovrTurns } := stk_mdStk p _ s

theorem overstaked_stkQ (p : Fin 64) (o : Nat) (s : State) : (s.overstaked p o).stkQ p =
    { s.stkQ p with overSeen := (s.stkQ p).overSeen || decide (0 < o), ovrRun := if 0 < o then (s.stkQ p).ovrRun + 1 else 0 } :=
  (stkQ_mdStkQ p _ _).trans rfl

/-- A port's figures once its report is judged, whatever the ledger and the sources then hold. -/
theorem judged_port {p : Fin 64} {o r : Nat} {s w : State} (hr : (s.stkQ p).rep = some r) (hw : w.stake = (s.overstaked p o).stake) :
    (w.reported p r).stk p =
      { s.stk p with u := r, ovr := decide (0 < o), ovrTurns := if 0 < o then satAdd 0xFFFF (s.stk p).ovrTurns 1 else (s.stk p).ovrTurns }
    ∧ (w.reported p r).stkQ p = { s.stkQ p with
        overSeen := (s.stkQ p).overSeen || decide (0 < o), ovrRun := if 0 < o then (s.stkQ p).ovrRun + 1 else 0
        uRep := r, missRun := 0, rep := none, due := false } := by
  have h1 : w.stk p = _ := (congrArg (fun x => rd x.v.ports p.val) hw).trans (overstaked_stk p o s)
  have h2 : w.stkQ p = _ := (congrArg (fun x => rd x.q p.val) hw).trans (overstaked_stkQ p o s)
  rw [reported_stk, reported_stkQ, h1, h2]
  simp [hr]

/-! ### A port's eligibility -/

theorem uncovered_ledg (p u : Nat) (s : State) : (s.uncovered p u).ledg.pr3.run = true ∧ (s.uncovered p u).ledg.queue = s.ledg.queue := by
  have hq : (s.count 0x11 p u).ledg.queue = s.ledg.queue := by
    unfold count
    dsimp only
    split
    · rfl
    · unfold post
      dsimp only
      split <;> rfl
  unfold uncovered
  dsimp only
  refine ⟨?_, hq⟩
  split
  · assumption
  · rfl

theorem uncovered_stk (p u q : Nat) (s : State) : (s.uncovered p u).stk q = s.stk q :=
  congrArg (fun x : Stake => rd x.v.ports q) ((agree_uncovered rfl p u s (.refl 0x4100 s)).stake rfl)

theorem agree_stageLose_self (p : Nat) (s : State) : Agree 0x240000 s (s.stageLose p) := agree_stageLose rfl p s (.refl _ s)

/-- A port that becomes ineligible: what it last reported is uncovered, its stake goes, and then what pre-staging held of it. -/
theorem eligStep_lost (p : Fin 64) (s : State) (hw : (s.stkQ p).elig = true) (hn : s.eligible p = false) :
    ∃ w : State, s.eligStep p = w.stageLose p ∧ w.stk p = { s.stk p with u := (s.stkQ p).uRep, s := 0, k := 0, cov := 0 }
      ∧ (0 < (s.stkQ p).uRep → w.ledg.pr3.run = true ∧ w.ledg.queue = s.ledg.queue) := by
  unfold eligStep
  simp only [hw, hn, Bool.not_false, Bool.and_self, if_true]
  refine ⟨_, rfl, ?_, fun hu => ?_⟩
  · rw [stk_mdStk]
    split
    · rw [uncovered_stk]
      rfl
    · rfl
  · rw [if_pos hu]
    exact uncovered_ledg p _ _

/-! ### STAKE goes to every port in UP -/

/-- What STAKE tells port `p`. -/
def stakeMsg (p : Nat) (t : State) : StakeMsg :=
  let el := (t.stkQ p).elig
  { turn := t.clk.turn % 2 ^ 32, s := if el then (t.stk p).s else 0, k := if el then (t.stk p).k else 0, short := t.stake.v.short
    frozen := t.stake.v.frozen, token := t.holder, epoch := t.aon.epoch, disabled := !el, away := t.pins.awaySeat, serial := t.save.serial, stamp := t.stamp }

/-- Port `p`'s part of sendStakes. -/
def stakeTo (p : Nat) (t : State) : State :=
  if !t.linkUp p || !(t.lk p).idRead then t else (t.mdStkQ p (fun q => { q with due := (t.stkQ p).elig })).send p (.stake (t.stakeMsg p))

theorem sendStakes_eq (s : State) : s.sendStakes = forL (List.range 64) stakeTo s := rfl

/-- What each pass over a member keeps holds after the loop. -/
theorem forL_keeps_mem {α : Type} {P : State → Prop} {f : α → State → State} {l : List α} (hf : ∀ x ∈ l, ∀ t, P t → P (f x t)) {s : State} (h : P s) :
    P (forL l f s) := by
  unfold Sys2Proof.forL
  induction l generalizing s with
  | nil => exact h
  | cons x l ih => exact ih (fun y hy => hf y (List.mem_cons_of_mem _ hy)) (hf x List.mem_cons_self s h)

/-- A loop that acts on `p` in one pass: what holds before that pass, and what after it. -/
theorem forL_at {p : Nat} {l : List Nat} (hl : l.Nodup) (hp : p ∈ l) {A B : State → Prop} {f : Nat → State → State} (hA : ∀ x, x ≠ p → ∀ t, A t → A (f x t))
    (hAB : ∀ t, A t → B (f p t)) (hB : ∀ x, x ≠ p → ∀ t, B t → B (f x t)) {s : State} (h : A s) : B (forL l f s) := by
  obtain ⟨l1, l2, rfl⟩ := List.append_of_mem hp
  have h1 : p ∉ l1 := fun h => (List.nodup_append.mp hl).2.2 p h p List.mem_cons_self rfl
  have h2 : p ∉ l2 := (List.nodup_cons.mp (List.nodup_append.mp hl).2.1).1
  have e : forL (l1 ++ p :: l2) f s = forL l2 f (f p (forL l1 f s)) := by simp [Sys2Proof.forL, List.foldl_append]
  rw [e]
  exact forL_keeps_mem (fun x hx t => hB x (ne_of_mem_of_not_mem hx h2) t)
    (hAB _ (forL_keeps_mem (fun x hx t => hA x (ne_of_mem_of_not_mem hx h1) t) h))

/-- What another port's STAKE leaves of port `p`. -/
def SamePort (p : Nat) (s t : State) : Prop := t.lk p = s.lk p ∧ t.stkQ p = s.stkQ p ∧ t.stake.v = s.stake.v ∧ Agree 0xc0000 s t

theorem agree_stakeTo (p : Nat) (s : State) : Agree 0xc0000 s (s.stakeTo p) :=
  .ite (.refl _ s) (agree_send rfl _ _ _ (agree_mdStkQ rfl _ _ _ (.refl _ s)))

theorem portFill_lk_ne {p q : Nat} (h : q ≠ p) (s : State) : (s.portFill q).lk p = s.lk p := by
  have hl : (forL ((s.lk q).chan.first (s.portFree q)) (fun m t => t.countBytes q m.words false) s).lk p = s.lk p :=
    forL_keeps (P := fun t => t.lk p = s.lk p) (fun m t ht => (rd_md_ne _ _ _ _ h).trans ht) _ rfl
  unfold portFill
  dsimp only
  split
  · rfl
  · exact (rd_md_ne _ _ _ _ h).trans hl

theorem send_lk_ne {p q : Nat} (h : q ≠ p) (m : HclOut) (s : State) : (s.send q m).lk p = s.lk p := by
  unfold send
  split
  · rfl
  · exact (portFill_lk_ne h _).trans (rd_md_ne _ _ _ _ h)

theorem stakeTo_v (q : Nat) (t : State) : (t.stakeTo q).stake.v = t.stake.v := by
  unfold stakeTo
  split
  · rfl
  · have hs := agree_send rfl q (.stake (t.stakeMsg q)) _ (.refl 0x40000 (t.mdStkQ q (fun x => { x with due := (t.stkQ q).elig })))
    exact (congrArg Stake.v (hs.stake rfl)).trans rfl

theorem sendStakes_v (s : State) : s.sendStakes.stake.v = s.stake.v := by
  rw [sendStakes_eq]
  exact forL_keeps (P := fun u => u.stake.v = s.stake.v) (fun q u hu => (stakeTo_v q u).trans hu) _ rfl

theorem stakeTo_other {p q : Nat} (h : q ≠ p) {s t : State} (ht : SamePort p s t) : SamePort p s (t.stakeTo q) := by
  obtain ⟨hl, hq, hv, ha⟩ := ht
  have h1 : (t.stakeTo q).lk p = t.lk p ∧ (t.stakeTo q).stkQ p = t.stkQ p := by
    unfold stakeTo
    split
    · exact ⟨rfl, rfl⟩
    · have hs := agree_send rfl q (.stake (t.stakeMsg q)) _ (.refl 0x40000 (t.mdStkQ q (fun x => { x with due := (t.stkQ q).elig })))
      exact ⟨send_lk_ne h _ _, (congrArg (fun x : Stake => rd x.q p) (hs.stake rfl)).trans (rd_md_ne _ _ _ _ h)⟩
  exact ⟨h1.1.trans hl, h1.2.trans hq, (stakeTo_v q t).trans hv, ha.trans ((agree_stakeTo q t))⟩

theorem linkUp_facts {p : Nat} {s : State} (h : s.linkUp p = true) : s.upper p = false ∧ (s.lk p).st = 4 := by
  simp only [linkUp, Bool.and_eq_true, Bool.not_eq_true', beq_iff_eq] at h
  obtain ⟨⟨⟨hu, hst⟩, -⟩, -⟩ := h
  exact ⟨hu, hst⟩

/-- A message held with none waiting and room in the replay buffer is sent. -/
theorem fill_hold {α : Type} (c : Chan α) (m : α) (hw : c.wait = []) (hb : c.buf.length < 1024) : (c.hold m).fill 1 = c.put m := by
  have h1 : min 1 (1024 - c.buf.length) = 1 := by omega
  simp only [Chan.fill, Chan.first, Chan.hold, hw, List.nil_append, h1, List.take_succ_cons, List.take_zero, List.foldl_cons, List.foldl_nil, List.drop_succ_cons,
    List.drop_zero]
  simp only [Chan.put, hw]

theorem send_up (p : Fin 64) (m : HclOut) (s : State) (hu : s.linkUp p = true) (hw : (s.lk p).chan.wait = []) (hb : (s.lk p).chan.buf.length < 1024) :
    ((s.send p m).lk p).chan = (s.lk p).chan.put m := by
  obtain ⟨hup, hst⟩ := linkUp_facts hu
  have hlk (f : Link → Link) (t : State) : (t.mdLk p f).lk p = f (t.lk p) := rd_md_self _ _ _ p.isLt
  have hu' : (s.mdLk p (fun l => { l with chan := l.chan.hold m })).linkUp p = true := by
    simp only [linkUp, hlk]
    exact hu
  have hfree : (s.mdLk p (fun l => { l with chan := l.chan.hold m })).portFree p = 1 := by
    have hm : (s.mdLk p (fun l => { l with chan := l.chan.hold m })).linkMsgs p = true := by
      obtain ⟨h1, h2⟩ := linkUp_facts hu'
      simp [linkMsgs, h1, h2]
    rw [portFree, hm, hu', hlk]
    simp [Chan.hold, hw]
  unfold send portFill
  rw [if_neg (by simp [hup, hst])]
  dsimp only
  rw [hfree, if_neg Nat.one_ne_zero, hlk]
  have hc : ∀ (l : List HclOut) (t : State), ((forL l (fun m t => t.countBytes p m.words false) t).lk p).chan = (t.lk p).chan := fun l t =>
    forL_keeps (P := fun u => (u.lk p).chan = (t.lk p).chan) (fun m u h => by rw [countBytes, hlk]; exact h) l rfl
  rw [hc, hlk]
  exact fill_hold _ _ hw hb

/-- Port `p` has been told its stake of `s`. -/
def Told (p : Nat) (s t : State) : Prop := (t.stkQ p).due = (s.stkQ p).elig ∧ (t.lk p).chan = (s.lk p).chan.put (.stake (s.stakeMsg p))

/-- STAKE reaches a port in UP with a known identity, and no other; and a port has a report due if it is eligible. -/
theorem sendStakes_up (p : Fin 64) (s : State) (hu : s.linkUp p = true) (hi : (s.lk p).idRead = true) (hw : (s.lk p).chan.wait = [])
    (hb : (s.lk p).chan.buf.length < 1024) :
    Told p s s.sendStakes := by
  have hat (t : State) (ht : SamePort p s t) : Told p s (t.stakeTo p) := by
    obtain ⟨hl, hq, hv, ha⟩ := ht
    have hup : t.linkUp p = true := by simpa only [linkUp, upper, bonded, im, ha.bimg rfl, hl] using hu
    have hm : t.stakeMsg p = s.stakeMsg p := by
      simp only [stakeMsg, hq, stk, hv, holder, stamp, fabNs, ha.clk rfl, ha.pair rfl, ha.aon rfl, ha.pins rfl, ha.save rfl, ha.fab rfl]
    have e : t.stakeTo p = (t.mdStkQ p (fun q => { q with due := (t.stkQ p).elig })).send p (.stake (t.stakeMsg p)) := by
      rw [stakeTo, if_neg (by simp [hup, hl, hi])]
    have hs := agree_send rfl p.val (.stake (t.stakeMsg p)) _ (.refl 0x40000 (t.mdStkQ p (fun q => { q with due := (t.stkQ p).elig })))
    have hlk : (t.mdStkQ p (fun q => { q with due := (t.stkQ p).elig })).lk p = s.lk p := hl
    have hsend := send_up p (.stake (t.stakeMsg p)) (t.mdStkQ p (fun q => { q with due := (t.stkQ p).elig })) hup (hlk ▸ hw) (hlk ▸ hb)
    rw [hlk, hm] at hsend
    rw [Told, e, hm]
    rw [hm] at hs
    refine ⟨?_, hsend⟩
    exact (congrArg (fun x : Stake => (rd x.q p.val).due) (hs.stake rfl)).trans ((congrArg StkQ.due (stkQ_mdStkQ p _ t)).trans (congrArg StkQ.elig hq))
  have hafter (q : Nat) (hq : q ≠ p) (t : State) (ht : Told p s t) : Told p s (t.stakeTo q) := by
    obtain ⟨hl, hst, -, -⟩ := stakeTo_other hq (p := p) (s := t) (t := t) ⟨rfl, rfl, rfl, .refl _ t⟩
    rw [Told, hst, hl]
    exact ht
  exact forL_at (f := stakeTo) (l := List.range 64) List.nodup_range (List.mem_range.mpr p.isLt) (fun q hq t ht => stakeTo_other hq ht) hat hafter
    (A := SamePort p s) ⟨rfl, rfl, rfl, .refl _ s⟩

theorem sendStakes_down (p : Fin 64) (s : State) (h : s.linkUp p = false ∨ (s.lk p).idRead = false) : s.sendStakes.lk p = s.lk p := by
  rw [sendStakes_eq]
  refine (forL_keeps (P := SamePort p s) (f := stakeTo) (fun q t ht0 => ?_) _ ⟨rfl, rfl, rfl, .refl _ s⟩).1
  by_cases hq : q = p.val
  · have ⟨hl, _, _, ha⟩ := ht0
    have hup : t.linkUp p = s.linkUp p := by simp only [linkUp, upper, bonded, im, ha.bimg rfl, hl]
    have e : t.stakeTo p = t := if_pos (by rcases h with h | h <;> simp [hup, hl, h])
    rw [hq, e]
    exact ht0
  · exact stakeTo_other hq ht0

/-- Which sources are live is the fault island's record. -/
theorem subLive_congr {s t : State} (h : t.flt = s.flt) (a b : Nat) : t.subLive a b = s.subLive a b := by
  unfold subLive subsOf heldBack pairHeld
  rw [h]

/-! ### Shortfall, Save, and the states without stakes -/

theorem shortStep_enters (s : State) (hb : s.stake.v.bTotal < s.stake.v.sumU) (hs : s.stake.v.short = false) :
    ∃ w : State, s.shortStep = { w with ledg := { w.ledg with pr1 := w.startRec } } ∧ w.subLive 72 0xFFFF = true
      ∧ w.stake = { s.stake with okRun := 0, shortSeen := true, v := { s.stake.v with short := true, shortCnt := satAdd 0xFFFF s.stake.v.shortCnt 1 } } := by
  refine ⟨((({ s with stake := { s.stake with okRun := 0, shortSeen := true } } : State).mdStake
    (fun v => { v with short := true, shortCnt := satAdd 0xFFFF v.shortCnt 1 })).follow 72 0xFFFF true).count 0x12 0 (s.stake.v.sumU - s.stake.v.bTotal), ?_, ?_, ?_⟩
  · simp [shortStep, hb, hs]
  · rw [subLive_congr (count_flt ..)]
    exact follow_live ..
  · rw [count_stake, follow_stake]
    rfl

theorem stakeCommit_short (p : Fin 64) (s : State) (hs : s.stake.v.short = true) : (s.stakeCommit.stk p).s ≤ (s.stk p).u := by
  unfold stakeCommit
  extract_lets v el share t tgt f h r s0 sp kp cover ports
  have e : ((s.mdStake (fun v => { v with ports, sumS := sumN 64 sp, sumK := sumN 64 kp })).stk p).s = sp p := congrArg StkP.s (rd_tgen _ _ p.isLt)
  rw [e]
  unfold sp v
  rw [hs]
  split
  · exact Nat.zero_le _
  · exact Nat.min_le_right _ _

theorem stakeCompute_save (was : Bool) (s : State) (hs : s.top.state = .save) : (s.stakeCompute was).stake.v = s.stake.v := by
  unfold stakeCompute
  rw [if_pos hs, sendStakes_v]
  split <;> rfl

theorem endShort_v (s : State) : s.endShort.stake.v = { s.stake.v with short := false } := by
  unfold endShort
  split
  · rw [follow_stake]
    exact congrArg (fun v : Stake => ({ v.v with short := false } : StkVals)) ((agree_shortRec rfl false s (.refl 0x4000 s)).stake rfl)
  · rename_i h
    rw [← Bool.eq_false_of_not_eq_true h]

theorem stakeIdle_v (s : State) : (∀ p : Fin 64, (s.stakeIdle.stk p).s = 0 ∧ (s.stakeIdle.stk p).k = 0) ∧ s.stakeIdle.stake.v.bTotal = 0
    ∧ s.stakeIdle.stake.v.short = false := by
  unfold stakeIdle stk
  rw [endShort_v]
  exact ⟨fun p => ⟨congrArg StkP.s (rd_tgen _ _ p.isLt), congrArg StkP.k (rd_tgen _ _ p.isLt)⟩, rfl, rfl⟩

theorem stakeCompute_idle (was : Bool) (p : Fin 64) (s : State) (hs : s.inState [.ready, .ride, .service, .save] = false) :
    ((s.stakeCompute was).stk p).s = 0 ∧ ((s.stakeCompute was).stk p).k = 0
      ∧ (s.stakeCompute was).stake.v.bTotal = 0 ∧ (s.stakeCompute was).stake.v.short = false := by
  have hn : s.top.state ≠ .save ∧ s.stakeState = false := by
    simp only [inState, List.contains_eq_mem, List.mem_cons, List.not_mem_nil, or_false, decide_eq_false_iff_not, not_or] at hs
    obtain ⟨h1, h2, h3, h4⟩ := hs
    exact ⟨h4, by simp [stakeState, inState, h1, h2, h3]⟩
  have e : (s.stakeCompute was).stake.v = s.stakeIdle.stake.v := by
    unfold stakeCompute
    rw [if_neg hn.1, hn.2, if_neg Bool.false_ne_true, sendStakes_v]
    split <;> rfl
  obtain ⟨hp, hb, hsh⟩ := s.stakeIdle_v
  rw [stk, e]
  exact ⟨(hp p).1, (hp p).2, hb, hsh⟩

end State

/-- Settles O18, clause by clause. -/
theorem turnBoundaryStakes : Obligations.TurnBoundaryStakes := by
  refine ⟨fun p r s he hd hs hr => ?_, fun p s he hd hr => ?_, fun p s he hn => ?_, fun p s hu hi hw hb => ?_, fun p s h => ?_, fun s hb hs => ?_, fun s hb hs => ?_,
    fun s hb => ?_, fun p s hs => ?_, fun was s hs => ?_, fun was p s hs => ?_⟩
  · intro t o
    have e : t = (if 0 < o then (s.overstaked p o).count 0x10 p o else (s.overstaked p o).unraise (64 + p / 8) p).reported p r :=
      State.judgePort_report p r s he hd hs hr
    clear_value t
    subst e
    have hs : (s.overstaked p o).stamp = s.stamp := rfl
    by_cases ho : 0 < o
    · rw [if_pos ho]
      obtain ⟨h1, h2⟩ := State.judged_port (o := o) hr (State.count_stake (s.overstaked p o) 0x10 p o)
      rw [h1, h2, (State.agree_reported ..).ledg rfl, State.count_ledg_of_eq 0x10 p o ((s.agree_overstaked p o).ledg rfl) hs]
      simp [ho, Nat.ne_of_gt ho]
    · rw [if_neg ho]
      obtain ⟨h1, h2⟩ := State.judged_port (o := o) hr (State.unraise_stake (s.overstaked p o) (64 + p / 8) p)
      rw [h1, h2, (State.agree_reported ..).ledg rfl, State.unraise_ledg, (s.agree_overstaked p o).ledg rfl]
      have hl : ((((s.overstaked p o).unraise (64 + p / 8) p).reported p r)).subLive (64 + p / 8) p = false := State.unraise_live ..
      simp [ho, hl]
  · intro t
    rw [show t = _ from State.judgePort_missing p s he hr, State.reported_stk, State.reported_stkQ, State.stk_mdStk, State.stkQ_mdStk, hd, hr]
    exact ⟨rfl, rfl, rfl, rfl, rfl, (State.agree_mdStkQ rfl _ _ _ (State.agree_mdStk rfl _ _ _ (State.agree_mdStk rfl _ _ s (.refl 0x80000 s)))).sameBut rfl⟩
  · intro t
    obtain ⟨w, e, hstk, hl⟩ := State.eligStep_lost p s he hn
    rw [show t = _ from e, (State.agree_stageLose_self p _).ledg rfl]
    refine ⟨?_, hl⟩
    exact (congrArg (fun x => rd x.v.ports p.val) ((State.agree_stageLose_self p w).stake rfl)).trans hstk
  · obtain ⟨hd, hc⟩ := State.sendStakes_up p s hu hi hw hb
    exact ⟨hd, s.stakeMsg p, by rw [hc]; rfl, rfl, rfl, rfl, rfl, rfl, rfl, rfl, rfl, rfl⟩
  · exact State.sendStakes_down p s h
  · obtain ⟨w, e, hl, hst⟩ := State.shortStep_enters s hb hs
    rw [e]
    exact ⟨congrArg Stake.v hst, congrArg Stake.okRun hst, congrArg Stake.shortSeen hst, hl, rfl⟩
  · simp [State.shortStep, hb, hs]
  · simp [State.shortStep, Nat.not_lt.mpr hb]
  · exact State.stakeCommit_short p s hs
  · exact State.stakeCompute_save was s hs
  · exact State.stakeCompute_idle was p s hs

end Sys2Proof.Machine
end

section
/-! PROOFS. The short commands of TOP.CMD, its invalid commands and aborts (R458 to R462). -/
set_option Elab.async false

namespace Sys2Proof.Machine
namespace State

/-- What a short command leaves: its code with STATE 2 where it acts, and 5 elsewhere. -/
theorem shortCmd_ite (c : Nat) (ok : Bool) (f : State → State) (s : State) :
    s.shortCmd c ok f = if ok = true then f (s.mdCmd (fun _ => { code := c, state := 2 })) else s.mdCmd (fun _ => { code := c, state := 5 }) := by
  cases ok <;> rfl

theorem standbyOk_short {s : State} {k : Nat} (hk : k = 0x40 ∨ k = 0x41 ∨ k = 0x42) (h : s.pair.standby = true) : s.standbyOk k = false := by
  rcases hk with rfl | rfl | rfl <;> simp [standbyOk, h]

theorem rpAt_abort {s : State} (hc : s.ctlOn = true) (f : State → State) : s.rpAt 0x01000C f = f (s.rpData 0) := by
  have h0 : s.rpCause 0x01000C true = 0 := by
    simp [rpCause, quiescent]
  simp [rpAt, hc, h0]

/-- An abort ends a drill's dwell, and is noted while a command runs. -/
theorem abortWrite_eq (s : State) : s.abortWrite =
    { s with
      cmd := if s.busy then { s.cmd with abortPend := true } else s.cmd
      pair := if s.pair.legs = 1 then { s.pair with drillLeft := 0 } else s.pair } := by
  have e : (if s.pair.legs = 1 then s.mdPair (fun p => { p with drillLeft := 0 }) else s) =
      { s with pair := if s.pair.legs = 1 then { s.pair with drillLeft := 0 } else s.pair } := by split <;> rfl
  unfold abortWrite
  rw [e]
  cases hb : s.busy
  · exact if_neg fun h => Bool.false_ne_true (hb.symm.trans h)
  · exact if_pos hb

/-- A standby refuses the three. -/
theorem topCode_standby {s : State} (h : PortFree s) {k : Nat} {ok : Bool} {f g : State → State} (he : f (s.rpData 0) = (s.rpData 0).shortCmd k ok g)
    (hok : ok = false) : (s.topCode f).cmd = { code := k, state := 5 } ∧ SameBut [.cmd, .rp] s (s.topCode f) := by
  rw [topCode, rpWrite_portFree h, he, shortCmd_ite, hok, if_neg Bool.false_ne_true]
  exact ⟨rfl, (agree_mdCmd rfl _ _ (agree_rpData rfl 0 s (.refl 0x1800 s))).sameBut rfl⟩

end State

/-- Settles O51, clause by clause. -/
theorem topCommands : Obligations.TopCommands := by
  refine ⟨fun s hf hs => ⟨s.topCode State.cmdShutdown, rfl, ?_⟩, fun s hf hs => ⟨s.topCode State.cmdUnlatch, rfl, ?_⟩,
    fun s hf hs => ⟨s.topCode State.cmdLeave, rfl, ?_⟩, fun c k s hck hf hs => ?_, fun w s hf hw => ⟨s.topCode (State.cmdInvalid w), rfl, ?_⟩,
    fun w s hf hw hk => ⟨s.topCode (State.cmdInvalid w), rfl, ?_⟩, fun s hc hb => ⟨s.rpAt 0x01000C State.abortWrite, rfl, ?_⟩,
    fun s hc hb => ⟨s.rpAt 0x01000C State.abortWrite, rfl, ?_⟩⟩
  · have hsb : State.Agree 0x1880 s (s.rpData 0).cmdShutdown := State.agree_cmdShutdown rfl _ (State.agree_rpData rfl 0 s (.refl _ s))
    have e : (s.rpData 0).cmdShutdown = _ := State.shortCmd_ite ..
    beta_reduce
    rw [State.topCode, State.rpWrite_portFree hf]
    refine ⟨hsb.sameBut rfl, ?_⟩
    have hok : (s.rpData 0).standbyOk 0x40 = true := hs
    have hi : (s.rpData 0).inState [.ready, .ride, .service, .ret, .save] = s.inState [.ready, .ride, .service, .ret, .save] := rfl
    rw [e, hok, hi]
    split <;> simp_all
  · have hsb : State.Agree 0x11880 s (s.rpData 0).cmdUnlatch := State.agree_cmdUnlatch rfl _ (State.agree_rpData rfl 0 s (.refl _ s))
    have e : (s.rpData 0).cmdUnlatch = _ := State.shortCmd_ite ..
    have hok : (s.rpData 0).standbyOk 0x41 = true := hs
    beta_reduce
    rw [State.topCode, State.rpWrite_portFree hf]
    refine ⟨hsb.sameBut rfl, ?_⟩
    rw [e, hok]
    by_cases h : s.top.state = .latched <;> simp [h]
  · have hsb : State.Agree 0x1880 s (s.rpData 0).cmdLeave := State.agree_cmdLeave rfl _ (State.agree_rpData rfl 0 s (.refl _ s))
    have e : (s.rpData 0).cmdLeave = _ := State.shortCmd_ite ..
    have hok : (s.rpData 0).standbyOk 0x42 = true := hs
    have hr : (s.rpData 0).runComplete = s.runComplete := rfl
    beta_reduce
    rw [State.topCode, State.rpWrite_portFree hf]
    refine ⟨hsb.sameBut rfl, ?_⟩
    rw [e, hok, hr]
    by_cases h : s.top.state = .service <;> cases h' : s.runComplete <;> simp [h]
  · simp only [List.mem_cons, Prod.mk.injEq, List.not_mem_nil, or_false] at hck
    have hsb {k : Nat} (hk : k = 0x40 ∨ k = 0x41 ∨ k = 0x42) : (s.rpData 0).standbyOk k = false := State.standbyOk_short hk hs
    rcases hck with ⟨rfl, rfl⟩ | ⟨rfl, rfl⟩ | ⟨rfl, rfl⟩
    · exact ⟨_, rfl, State.topCode_standby hf (f := State.cmdShutdown) rfl (by rw [hsb (.inl rfl)]; rfl)⟩
    · exact ⟨_, rfl, State.topCode_standby hf (f := State.cmdUnlatch) rfl (by rw [hsb (.inr (.inl rfl))]; rfl)⟩
    · exact ⟨_, rfl, State.topCode_standby hf (f := State.cmdLeave) rfl (by rw [hsb (.inr (.inr rfl))]; rfl)⟩
  · have e : (s.rpData 0).cmdInvalid w = (s.rpData 0).setEvt 1 3 := if_pos hw
    beta_reduce
    rw [State.topCode, State.rpWrite_portFree hf, e]
    exact ⟨rfl, State.setEvt_evtBit _ _ _ (by decide) (by decide), rfl, (State.agree_setEvt rfl 1 3 _ (State.agree_rpData rfl 0 s (.refl 0x1100 s))).sameBut rfl⟩
  · have e : (s.rpData 0).cmdInvalid w = (s.rpData 0).mdCmd (fun _ => { code := bitsOf w 7 0, state := 5 }) := by
      simp only [State.cmdInvalid, hw, ne_eq, not_true, if_false]
      exact if_neg (by simpa using hk)
    beta_reduce
    rw [State.topCode, State.rpWrite_portFree hf, e]
    exact ⟨rfl, rfl, (State.agree_mdCmd rfl _ _ (State.agree_rpData rfl 0 s (.refl 0x1800 s))).sameBut rfl⟩
  · have h : State.Agree 0x2001800 s (s.rpData 0).abortWrite := State.agree_abortWrite rfl _ (State.agree_rpData rfl 0 s (.refl _ s))
    have hb' : (s.rpData 0).busy = true := hb
    beta_reduce
    rw [State.rpAt_abort hc]
    refine ⟨?_, ?_, h.sameBut rfl, ?_⟩ <;> rw [State.abortWrite_eq]
    · exact if_pos hb'
    · rfl
    · rfl
  · have hb' : (s.rpData 0).busy = false := hb
    have e : (s.rpData 0).abortWrite = (s.rpData 0).mdPair (fun p => if p.legs = 1 then { p with drillLeft := 0 } else p) := by
      rw [State.abortWrite_eq, hb']
      rfl
    beta_reduce
    rw [State.rpAt_abort hc, e]
    exact ⟨rfl, rfl, (State.agree_mdPair rfl _ _ (State.agree_rpData rfl 0 s (.refl 0x2001000 s))).sameBut rfl, rfl⟩

end Sys2Proof.Machine
end

section
/-! PROOFS. A fault's registration and its reactions (R24, R381, R384, R386 to R401). -/
set_option Elab.async false

namespace Sys2Proof.Machine
namespace State

/-! ### The sources that are live -/

/-- The fault island's record, but for the sub-sources that are live. -/
def OnlySubs (s t : State) : Prop := ∃ a b, t.flt = { s.flt with subs := a, behind := b }

theorem OnlySubs.rfl {s : State} : OnlySubs s s := ⟨_, _, Eq.refl _⟩

theorem OnlySubs.trans {s t u : State} (h : OnlySubs s t) (h' : OnlySubs t u) : OnlySubs s u := by
  obtain ⟨a, b, h⟩ := h
  obtain ⟨a', b', h'⟩ := h'
  exact ⟨a', b', by rw [h', h]⟩

theorem onlySubs_of_flt {s t : State} (h : t.flt = s.flt) : OnlySubs s t := ⟨_, _, h⟩

theorem onlySubs_mdSubs (a b : Nat) (f : List SubSrc → List SubSrc) (s : State) : OnlySubs s (s.mdSubs a b f) := by
  unfold mdSubs OnlySubs
  split <;> exact ⟨_, _, Eq.refl _⟩

theorem onlySubs_unraise (a b : Nat) (s : State) : OnlySubs s (s.unraise a b) := onlySubs_mdSubs ..

theorem onlySubs_raise (a b : Nat) (o : Option Nat) (s : State) : OnlySubs s (s.raise a b o) := onlySubs_mdSubs ..

theorem onlySubs_follow (a b : Nat) (c : Bool) (s : State) : OnlySubs s (s.follow a b c) := by
  unfold follow
  split
  · split
    · exact .rfl
    · exact onlySubs_raise ..
  · exact onlySubs_unraise ..

/-- A loop whose passes touch only the sub-sources touches only those. -/
theorem onlySubs_forL {α : Type} {f : α → State → State} (hf : ∀ x t, OnlySubs t (f x t)) (l : List α) (s : State) : OnlySubs s (forL l f s) :=
  forL_keeps (P := OnlySubs s) (fun x t h => h.trans (hf x t)) l .rfl

theorem Agree.onlySubs {m : Nat} {s t : State} (h : Agree m s t) (hm : m.testBit 13 = false) : OnlySubs s t := onlySubs_of_flt (h.flt hm)

theorem onlySubs_linkLost (p : Nat) (s : State) : OnlySubs s (s.linkLost p) := onlySubs_follow ..

theorem onlySubs_mdLk (p : Nat) (f : Link → Link) (s : State) : OnlySubs s (s.mdLk p f) := onlySubs_of_flt (Eq.refl _)

theorem onlySubs_toDown (p : Nat) (q : Bool) (s : State) : OnlySubs s (s.toDown p q) := (onlySubs_mdLk ..).trans (onlySubs_linkLost ..)

theorem onlySubs_portsDown (l : List Nat) (s : State) : OnlySubs s (s.portsDown l) :=
  onlySubs_forL (fun p t => (onlySubs_toDown p false t).trans
    ((agree_retLinkDown rfl p _ (agree_cancelCopies rfl p _ (.refl 0xA40000 (t.toDown p false)))).onlySubs rfl)) l s

theorem onlySubs_portsReset (l : List Nat) (s : State) : OnlySubs s (s.portsReset l) :=
  (onlySubs_portsDown l s).trans (onlySubs_forL (fun p _ => (onlySubs_mdLk ..).trans (onlySubs_linkLost p _)) l _)

theorem onlySubs_flashDown (x : Nat) (s : State) : OnlySubs s (s.flashDown x) := by
  unfold flashDown
  extract_lets s1
  have h : Agree 0x300100 s s1 := agree_scanEnd rfl _ (agree_mdSled rfl _ _ _ (agree_sledQuiet rfl x true s (.refl _ s)))
  clear_value s1
  refine (h.onlySubs rfl).trans (onlySubs_forL (fun k t => ?_) _ s1)
  exact (onlySubs_of_flt (t := t.mdRing (8 * x + k) (fun g => { fails := g.fails })) (Eq.refl _)).trans (onlySubs_unraise ..)

theorem onlySubs_fabReset (s : State) : OnlySubs s s.fabReset := by
  unfold fabReset
  refine OnlySubs.trans ?_ (onlySubs_forL (fun i t => ?_) _ _)
  · exact .rfl
  · unfold fabSource
    split
    · exact onlySubs_follow ..
    · exact .rfl

theorem onlySubs_blockEffect (b : Nat) (s : State) : OnlySubs s (s.blockEffect b) := by
  have again (t : State) : OnlySubs t t.restoresAgain := (agree_restoresAgain rfl t (.refl 0x840000 t)).onlySubs rfl
  unfold blockEffect
  split
  · exact onlySubs_portsReset ..
  · split
    · exact ((agree_moverDown rfl s (.refl 0x700000 s)).onlySubs rfl).trans (again _)
    · split
      · exact (onlySubs_flashDown ..).trans (again _)
      · split
        · exact onlySubs_fabReset s
        · split
          · exact .rfl
          · split
            · rename_i w _
              exact (agree_recDone rfl w s (.refl 0x4100 s)).onlySubs rfl
            · exact .rfl

/-! ### From the command to the registration -/

/-- The state in which a registration is judged: TURN_OVR has become live by it. -/
def reached (i : Nat) (s : State) : State := if i = 155 then s.arrive.raiseTurn 155 0xFFFF else s.arrive

theorem faultReg_on {i n : Nat} {s : State} (hc : s.ctlOn = true) : s.faultReg i n = (s.reached i).regLive i n := by
  simp [faultReg, hc, reached]

theorem agree_reached (i : Nat) (s : State) : Agree 0x2001 s (s.reached i) :=
  .ite (agree_raiseTurn rfl _ _ _ (agree_arrive rfl s (.refl _ s))) (agree_arrive rfl s (.refl _ s))

theorem onlySubs_reached (i : Nat) (s : State) : OnlySubs s (s.reached i) := by
  unfold reached
  split
  · exact (onlySubs_of_flt (Eq.refl _)).trans (onlySubs_raise ..)
  · exact onlySubs_of_flt (Eq.refl _)

/-- The sub-sources after a raise: those that were, with another end perhaps, and the one raised, not registered. -/
theorem raise_subs (a b : Nat) (o : Option Nat) (s : State) :
    (∀ y ∈ s.flt.subs, ∃ y' ∈ (s.raise a b o).flt.subs, y'.src = y.src ∧ y'.sub = y.sub ∧ y'.reg = y.reg)
      ∧ ∀ y ∈ (s.raise a b o).flt.subs, y.reg = false ∨ ∃ y' ∈ s.flt.subs, y'.src = y.src ∧ y'.sub = y.sub ∧ y'.reg = y.reg := by
  have same : (∀ y ∈ s.flt.subs, ∃ y' ∈ s.flt.subs, y'.src = y.src ∧ y'.sub = y.sub ∧ y'.reg = y.reg)
      ∧ ∀ y ∈ s.flt.subs, y.reg = false ∨ ∃ y' ∈ s.flt.subs, y'.src = y.src ∧ y'.sub = y.sub ∧ y'.reg = y.reg :=
    ⟨fun y hy => ⟨y, hy, rfl, rfl, rfl⟩, fun y hy => .inr ⟨y, hy, rfl, rfl, rfl⟩⟩
  unfold raise mdSubs
  split
  · exact same
  · dsimp only
    split
    · refine ⟨fun y hy => ⟨_, List.mem_map_of_mem hy, ?_⟩, fun y hy => .inr ?_⟩
      · split <;> exact ⟨rfl, rfl, rfl⟩
      · obtain ⟨x, hx, rfl⟩ := List.mem_map.mp hy
        refine ⟨x, hx, ?_⟩
        split <;> exact ⟨rfl, rfl, rfl⟩
    · refine ⟨fun y hy => ⟨y, List.mem_append_left _ hy, rfl, rfl, rfl⟩, fun y hy => ?_⟩
      rcases List.mem_append.mp hy with h | h
      · exact same.2 y h
      · rw [List.mem_singleton.mp h]
        exact .inl rfl

/-- A sub-source is live and has not registered. -/
def Unregistered (i n : Nat) (s : State) : Prop := ∃ y ∈ s.flt.subs, y.src = i ∧ y.sub = n ∧ y.reg = false

/-- A sub-source that may register: a real one, or the source has no registered sub-source. -/
def MayRegister (i n : Nat) (s : State) : Prop := n < 0xFFFD ∨ ∀ y ∈ s.flt.subs, y.src = i → y.reg = false

theorem unregistered_iff {i n : Nat} {s : State} : Unregistered i n s ↔ ∃ x, s.flt.subs.find? (fun x => x.src == i && x.sub == n && !x.reg) = some x := by
  rw [← Option.isSome_iff_exists, List.find?_isSome]
  simp only [Unregistered, Bool.and_eq_true, beq_iff_eq, Bool.not_eq_true', and_assoc]

theorem unregistered_reached {i n : Nat} {s : State} (h : Unregistered i n s) : Unregistered i n (s.reached i) := by
  unfold reached
  split
  · obtain ⟨y, hy, h1, h2, h3⟩ := h
    obtain ⟨y', hy', e1, e2, e3⟩ := (raise_subs 155 0xFFFF (some (s.arrive.clk.turn + 1)) s.arrive).1 y hy
    exact ⟨y', hy', e1.trans h1, e2.trans h2, e3.trans h3⟩
  · exact h

theorem mayRegister_reached {i n : Nat} {s : State} (h : MayRegister i n s) : MayRegister i n (s.reached i) := by
  unfold reached
  split
  · refine h.imp_right fun h y hy hs => ?_
    rcases (raise_subs 155 0xFFFF (some (s.arrive.clk.turn + 1)) s.arrive).2 y hy with e | ⟨y', hy', e1, -, e3⟩
    · exact e
    · exact e3 ▸ h y' hy' (e1.trans hs)
  · exact h

/-- The sub-source, marked as registered. -/
def marked (i n : Nat) (s : State) : State := s.mdSub i n (fun x => { x with reg := true })

theorem regLive_registers {i n : Nat} {s : State} (h : Unregistered i n s) (hm : MayRegister i n s) : s.regLive i n = (s.marked i n).registerSrc i n false := by
  obtain ⟨x, hx⟩ := unregistered_iff.mp h
  have hn : (subBroken ≤ n && s.flt.subs.any (fun x => x.src == i && x.sub != n && x.reg)) = false := by
    rcases hm with h | h
    · simp [subBroken, Nat.not_le.mpr h]
    · have ha : s.flt.subs.any (fun x => x.src == i && x.sub != n && x.reg) = false := by
        rw [List.any_eq_false]
        intro y hy hh
        simp only [Bool.and_eq_true, beq_iff_eq] at hh
        rw [h y hy hh.1.1] at hh
        exact Bool.false_ne_true hh.2
      rw [ha, Bool.and_false]
  unfold regLive
  rw [hx]
  dsimp only
  rw [hn]
  rfl

theorem marked_mem {i n : Nat} {s : State} (h : Unregistered i n s) : ∃ y ∈ (s.marked i n).flt.subs, y.src = i ∧ y.sub = n ∧ y.reg = true := by
  obtain ⟨y, hy, h1, h2, -⟩ := h
  refine ⟨{ y with reg := true }, List.mem_map.mpr ⟨y, hy, ?_⟩, h1, h2, rfl⟩
  rw [if_pos (by simp [h1, h2])]

/-! ### What a registration does -/

/-- A class that counts a registration: it becomes active, or latched at its limit. -/
theorem classHit_facts (c : Nat) (s : State) : Agree 0x2180 s (classHit c s).2 ∧ (classHit c s).2.top.state = s.top.state
    ∧ (∃ k l, (classHit c s).2.flt = { s.flt with cls := k, latchPend := l })
    ∧ (c < 4 → (rd s.flt.cls c).active = false → (rd s.flt.cls c).latched = false →
        if (rd s.im.classes c).limit ≤ s.recovCount c then (rd (classHit c s).2.flt.cls c).latched = true ∧ (classHit c s).2.evtBit 2 1 = true
        else (rd (classHit c s).2.flt.cls c).active = true) := by
  refine ⟨agree_classHit rfl c s (.refl _ s), ?_⟩
  unfold classHit
  dsimp only
  by_cases h0 : (rd s.flt.cls c).active || (rd s.flt.cls c).latched
  · rw [if_pos h0]
    refine ⟨rfl, ⟨_, _, rfl⟩, fun _ ha hl => ?_⟩
    simp [ha, hl] at h0
  · rw [if_neg h0]
    by_cases h1 : (rd s.im.classes c).limit ≤ s.recovCount c
    · rw [if_pos h1]
      have he : ((s.mdFlt (fun t => { t with cls := wr t.cls c { latched := true } })).setEvt 2 1).evtBit 2 1 = true := setEvt_evtBit _ _ _ (by decide) (by decide)
      have hl (hc : c < 4) : (rd (wr s.flt.cls c { latched := true }) c).latched = true := congrArg ClassSt.latched (rd_wr_self _ _ _ hc)
      dsimp only
      split <;> exact ⟨rfl, ⟨_, _, rfl⟩, fun hc _ _ => ⟨hl hc, he⟩⟩
    · have hl (hc : c < 4) : (rd (wr s.flt.cls c { active := true }) c).active = true := congrArg ClassSt.active (rd_wr_self _ _ _ hc)
      simp only [if_neg h1]
      exact ⟨rfl, ⟨_, _, rfl⟩, fun hc _ _ => hl hc⟩

/-- The state in which a registration is counted. -/
def counted (i : Nat) (s : State) : State := s.mdFlt (fun t => { t with reg := md t.reg i (satAdd 0xFFFF · 1) })

/-- The state in which a registration's actions are taken: counted, its class counted, its cause recorded. -/
def recorded (i n : Nat) (s : State) : State :=
  let hit := (s.counted i).classHit (s.srcCfg i).cls
  let r := hit.2.causeOf (s.srcCfg i) i n false (s.byForce i n) hit.1
  hit.2.mdFlt (fun t => { t with cause := t.cause ||| BitVec.ofNat 256 (2 ^ i), first := if t.first.valid then t.first else r, last := r })

theorem registerSrc_off {i n : Nat} {z : Bool} {s : State} (h : (s.srcCfg i).en = false) :
    s.registerSrc i n z = s.counted i := by
  simp only [registerSrc, h, Bool.not_false, if_true]
  rfl

theorem registerSrc_masked {i n : Nat} {s : State} (h : (s.srcCfg i).en = true) (hm : s.masked i = true) : s.registerSrc i n false =
    (((s.counted i).mdFlt (fun t => { t with
      conseq := md t.conseq i (satAdd 0xFFFF · 1), conseqAll := satAdd 0xFFFF t.conseqAll 1 })).mdSub i n (fun x => { x with cons := true })).count 0x02 i
        (if subBroken ≤ n then 0xFFFF else n) := by
  unfold registerSrc
  simp only [h, Bool.not_true, Bool.false_eq_true, if_false]
  exact if_pos hm

theorem registerSrc_on {i n : Nat} {s : State} (h : (s.srcCfg i).en = true) (hm : s.masked i = false) :
    s.registerSrc i n false = (s.recorded i n).react (s.srcCfg i) i n (s.byForce i n) := by
  unfold registerSrc
  simp only [h, Bool.not_true, Bool.false_eq_true, if_false]
  exact if_neg fun h => Bool.false_ne_true (hm.symm.trans h)

theorem testBit_of_lt_four {a i : Nat} (h : a < 4) (hi : 2 ≤ i) : a.testBit i = false :=
  Nat.testBit_lt_two_pow (h.trans_le (Nat.pow_le_pow_right (n := 2) (by decide) hi))

/-- The actions of the ledger and the interrupt alone. -/
theorem react_small (c : SrcCfg) (i n : Nat) (f : Bool) (s : State) (hc : c.act < 4) :
    s.react c i n f = (s.when (c.act.testBit 0) (·.count 0x01 i (if subBroken ≤ n then 0xFFFF else n))).when (c.act.testBit 1) (·.setEvt 2 0) := by
  have h2 : c.act.testBit 2 = false := testBit_of_lt_four hc (by decide)
  have h3 : c.act.testBit 3 = false := testBit_of_lt_four hc (by decide)
  have h4 : c.act.testBit 4 = false := testBit_of_lt_four hc (by decide)
  have h5 : c.act.testBit 5 = false := testBit_of_lt_four hc (by decide)
  simp only [react, h2, h3, h4, h5, Bool.false_and]
  rfl

theorem count_evtBit_mono (k u d : Nat) (s : State) {b i : Nat} (h : s.evtBit b i = true) : (s.count k u d).evtBit b i = true := by
  unfold count
  dsimp only
  split
  · exact h
  · unfold post
    split
    · exact setEvt_evtBit_mono _ _ _ _ _ (by decide) h
    · exact h

theorem react_small_facts (c : SrcCfg) (i n : Nat) (f : Bool) (s : State) (hc : c.act < 4) :
    Agree 0x4100 s (s.react c i n f) ∧ (∀ b j, s.evtBit b j = true → (s.react c i n f).evtBit b j = true)
      ∧ (c.act.testBit 1 = true → (s.react c i n f).evtBit 2 0 = true) := by
  rw [react_small c i n f s hc]
  refine ⟨?_, fun b j h => ?_, fun h1 => ?_⟩
  · exact .ite (agree_setEvt rfl _ _ _ (.ite (agree_count rfl _ _ _ _ (.refl _ s)) (.refl _ s))) (.ite (agree_count rfl _ _ _ _ (.refl _ s)) (.refl _ s))
  · have h0 : (s.when (c.act.testBit 0) (·.count 0x01 i (if subBroken ≤ n then 0xFFFF else n))).evtBit b j = true := by
      unfold when
      split
      · exact count_evtBit_mono _ _ _ _ h
      · exact h
    unfold when at h0 ⊢
    split
    · exact setEvt_evtBit_mono _ _ _ _ _ (by decide) h0
    · exact h0
  · rw [h1]
    exact setEvt_evtBit _ _ _ (by decide) (by decide)

/-- What the record holds of a registration. -/
theorem recorded_facts (i n : Nat) (s : State) : Agree 0x2180 s (s.recorded i n) ∧ (s.recorded i n).top.state = s.top.state
    ∧ ∃ k l r, (s.recorded i n).flt = { s.flt with
        reg := md s.flt.reg i (satAdd 0xFFFF · 1), cls := k, latchPend := l, cause := s.flt.cause ||| BitVec.ofNat 256 (2 ^ i)
        first := if s.flt.first.valid then s.flt.first else r, last := r }
      ∧ r.valid = true ∧ r.source = i ∧ r.sub = (if subBroken ≤ n then 0xFFFF else n) ∧ r.state = s.top.state.code := by
  obtain ⟨ha, ht, ⟨k, l, hf⟩, -⟩ := classHit_facts (s.srcCfg i).cls (s.counted i)
  refine ⟨?_, ht, k, l, (classHit (s.srcCfg i).cls (s.counted i)).2.causeOf (s.srcCfg i) i n false (s.byForce i n) (classHit (s.srcCfg i).cls (s.counted i)).1,
    ?_, rfl, rfl, rfl, congrArg TopState.code ht⟩
  · unfold recorded
    exact agree_mdFlt rfl _ _ ((agree_mdFlt rfl _ s (.refl 0x2180 s)).trans ha)
  · unfold recorded
    dsimp only
    generalize (classHit (s.srcCfg i).cls (s.counted i)) = q at hf ⊢
    unfold mdFlt
    dsimp only
    rw [hf]
    rfl

/-- A registration with actions of the ledger and the interrupt alone. -/
structure Registered (i n : Nat) (s t : State) : Prop where
  reg : rd t.flt.reg i = satAdd 0xFFFF (rd s.flt.reg i) 1
  cause : t.flt.cause = s.flt.cause ||| BitVec.ofNat 256 (2 ^ i)
  valid : t.flt.last.valid = true
  source : t.flt.last.source = i
  sub : t.flt.last.sub = if n < 0xFFFD then n else 0xFFFF
  state : t.flt.last.state = s.top.state.code
  first : t.flt.first = if s.flt.first.valid then s.flt.first else t.flt.last
  cls : (rd s.flt.cls (s.srcCfg i).cls).active = false → (rd s.flt.cls (s.srcCfg i).cls).latched = false →
    if (rd s.im.classes (s.srcCfg i).cls).limit ≤ s.recovCount (s.srcCfg i).cls then (rd t.flt.cls (s.srcCfg i).cls).latched = true ∧ t.evtBit 2 1 = true
    else (rd t.flt.cls (s.srcCfg i).cls).active = true
  irq : (s.srcCfg i).act.testBit 1 = true → t.evtBit 2 0 = true
  same : Agree 0x6181 s t

/-- What a registration reads of a state is left by a change of the sub-sources alone. -/
theorem srcCfg_congr {s u : State} (ha : Agree 0x2001 s u) (i : Nat) : u.srcCfg i = s.srcCfg i := by
  have h : u.im = s.im := by simp only [im, ha.bimg rfl]
  simp only [srcCfg, h]

theorem masked_congr {s u : State} (ho : OnlySubs s u) (i : Nat) : u.masked i = s.masked i := by
  obtain ⟨a, b, h⟩ := ho
  simp only [masked, h]

/-- A registration whose actions are the ledger's and the interrupt's, in a state where it has been marked. -/
theorem registerSrc_registered {i n : Nat} {s u : State} (ha : Agree 0x2001 s u) (ho : OnlySubs s u) (hi : i < 256) (he : (s.srcCfg i).en = true)
    (hm : s.masked i = false) (hact : (s.srcCfg i).act < 4) (hcls : (s.srcCfg i).cls < 4) :
    Registered i n s (u.registerSrc i n false) ∧ (u.registerSrc i n false).flt.subs = u.flt.subs ∧ (u.registerSrc i n false).flt.xfCnt = u.flt.xfCnt := by
  have ec := srcCfg_congr ha i
  have ei : u.im = s.im := by simp only [im, ha.bimg rfl]
  have er (c : Nat) : u.recovCount c = s.recovCount c := by simp only [recovCount, ha.aon rfl]
  obtain ⟨a, b, ef⟩ := ho
  obtain ⟨-, -, -, hc⟩ := classHit_facts (s.srcCfg i).cls (u.counted i)
  obtain ⟨h1, h2, k, l, r, hf, hv, hs, hn, hst⟩ := recorded_facts i n u
  rw [registerSrc_on (ec ▸ he) ((masked_congr ⟨a, b, ef⟩ i).trans hm)]
  obtain ⟨g1, g2, g3⟩ := react_small_facts (u.srcCfg i) i n (u.byForce i n) (u.recorded i n) (ec ▸ hact)
  have ht := g1.flt rfl
  have hk : (classHit (s.srcCfg i).cls (u.counted i)).2.flt.cls = k := by
    have e : (u.recorded i n).flt.cls = (classHit (u.srcCfg i).cls (u.counted i)).2.flt.cls := rfl
    rw [← ec, ← e, hf]
  have hev (bk j : Nat) (h : (classHit (s.srcCfg i).cls (u.counted i)).2.evtBit bk j = true) : (u.recorded i n).evtBit bk j = true := by
    have e : (u.recorded i n).evtBit bk j = (classHit (u.srcCfg i).cls (u.counted i)).2.evtBit bk j := rfl
    rw [e, ec]
    exact h
  refine ⟨⟨?_, ?_, ?_, ?_, ?_, ?_, ?_, fun h3 h4 => ?_, fun h => g3 (ec ▸ h), ?_⟩, ?_, ?_⟩
  · simp only [ht, hf, ef, rd_md_self _ _ _ hi]
  · simp only [ht, hf, ef]
  · simp only [ht, hf, hv]
  · simp only [ht, hf, hs]
  · simp only [ht, hf, hn]
    rcases Nat.lt_or_ge n subBroken with h | h
    · exact (if_neg (Nat.not_le.mpr h)).trans (if_pos h).symm
    · exact (if_pos h).trans (if_neg (Nat.not_lt.mpr h)).symm
  · simp only [ht, hf, hst, ha.top rfl]
  · simp only [ht, hf, ef]
  · have h5 := hc hcls (by simpa only [counted, mdFlt, ef] using h3) (by simpa only [counted, mdFlt, ef] using h4)
    have e1 : (u.counted i).im = s.im := ei
    have e2 : (u.counted i).recovCount (s.srcCfg i).cls = s.recovCount (s.srcCfg i).cls := er _
    rw [e1, e2, hk] at h5
    have e3 : ((u.recorded i n).react (u.srcCfg i) i n (u.byForce i n)).flt.cls = k := by rw [ht, hf]
    rw [e3]
    by_cases h6 : (rd s.im.classes (s.srcCfg i).cls).limit ≤ s.recovCount (s.srcCfg i).cls
    · rw [if_pos h6] at h5 ⊢
      exact ⟨h5.1, g2 _ _ (hev _ _ h5.2)⟩
    · rw [if_neg h6] at h5 ⊢
      exact h5
  · exact (ha.mono rfl).trans ((h1.mono rfl).trans (g1.mono rfl))
  · rw [ht, hf]
  · rw [ht, hf]

/-- A disabled source is counted alone. -/
theorem counted_facts {i : Nat} {s u : State} (ha : Agree 0x2001 s u) (ho : OnlySubs s u) (hi : i < 256) :
    rd (u.counted i).flt.reg i = satAdd 0xFFFF (rd s.flt.reg i) 1 ∧ (u.counted i).flt.cause = s.flt.cause ∧ (u.counted i).flt.last = s.flt.last
      ∧ (u.counted i).flt.cls = s.flt.cls ∧ (u.counted i).flt.conseq = s.flt.conseq ∧ (u.counted i).flt.conseqAll = s.flt.conseqAll ∧ Agree 0x2001 s (u.counted i) := by
  obtain ⟨a, b, ef⟩ := ho
  refine ⟨?_, ?_, ?_, ?_, ?_, ?_, agree_mdFlt rfl _ _ ha⟩ <;> simp only [counted, mdFlt, ef]
  exact rd_md_self _ _ _ hi

/-- The trip action alone: a trip of rank 4. -/
theorem react_trip {c : SrcCfg} (i n : Nat) (s : State) (hc : c.act = 32) (hs : s.inState [.ready, .ride, .service, .ret] = true) :
    s.react c i n false = s.trip 4 0 := by
  have h (k : Nat) (hk : k ≠ 5) : c.act.testBit k = false := by
    rw [hc]
    exact Nat.testBit_two_pow_of_ne (n := 5) (fun h => hk h.symm)
  have h5 : c.act.testBit 5 = true := by rw [hc]; rfl
  have hi : s.inState [.ready, .ride, .service, .ret, .save] = true := by
    simp only [inState, List.contains_eq_mem, List.mem_cons, List.not_mem_nil, or_false, decide_eq_true_eq] at hs ⊢
    rcases hs with h | h | h | h <;> simp [h]
  simp only [react, h 0 (by decide), h 1 (by decide), h 2 (by decide), h 3 (by decide), h 4 (by decide), h5]
  exact if_pos hi

/-- The reset action alone. -/
theorem react_reset {c : SrcCfg} (i n : Nat) (f : Bool) (s : State) (hc : c.act = 8) : s.react c i n f = s.requestReset c.block c.shadow := by
  have h (k : Nat) (hk : k ≠ 3) : c.act.testBit k = false := by
    rw [hc]
    exact Nat.testBit_two_pow_of_ne (n := 3) (fun h => hk h.symm)
  have h3 : c.act.testBit 3 = true := by rw [hc]; rfl
  simp only [react, h 0 (by decide), h 1 (by decide), h 2 (by decide), h 4 (by decide), h 5 (by decide), h3]
  rfl

/-- Whether a force causes a registration, after a sub-source became live or was marked: it only ceases to. -/
theorem byForce_marked (i n : Nat) (s : State) : (s.marked i n).byForce i n = s.byForce i n := by
  have same (P : Nat → Nat → Bool) : (s.marked i n).flt.subs.any (fun x => P x.src x.sub) = s.flt.subs.any (fun x => P x.src x.sub) := by
    simp only [marked, mdSub, mdFlt, List.any_map]
    congr 1
    funext x
    dsimp only [Function.comp]
    split <;> rfl
  have live : (s.marked i n).subLive i 0xFFFF = s.subLive i 0xFFFF := by
    have hb : (s.marked i n).heldBack i 0xFFFF = s.heldBack i 0xFFFF := rfl
    simp only [subLive, subsOf, hb]
    split
    · rfl
    · exact same fun a b => a == i && b == 0xFFFF
  have real := same fun a b => a == i && b < subBroken
  have hp : (s.marked i n).flt.forcePb = s.flt.forcePb := rfl
  simp only [byForce, live, hp]
  rw [real]

theorem byForce_reached {i n : Nat} {s : State} (h : s.byForce i n = false) : (s.reached i).byForce i n = false := by
  unfold reached
  split
  · next hi =>
    subst hi
    have hl : (s.arrive.raiseTurn 155 0xFFFF).subLive 155 0xFFFF = true := by simp
    have hp : (s.arrive.raiseTurn 155 0xFFFF).flt.forcePb = s.flt.forcePb := by
      obtain ⟨a, b, e⟩ := onlySubs_raise 155 0xFFFF (some (s.arrive.clk.turn + 1)) s.arrive
      exact (congrArg Flt.forcePb e).trans rfl
    simp only [byForce, hl, hp, Bool.or_true, Bool.and_true]
    split
    · rfl
    · next hn =>
      unfold byForce at h
      dsimp only at h
      rw [if_neg] at h
      · exact h
      · simp only [Bool.and_eq_true] at hn ⊢
        exact fun h' => hn h'.1
  · exact h

/-- A block's reset, where none runs and no shadow set is open. -/
theorem blockReset_facts {b k : Nat} {s : State} (hb : b < 16) (hk : k < 16) (hr : (rd s.flt.blocks b).running = false)
    (ho : ∀ j : Fin 16, (rd s.flt.sets j).isOpen = false) :
    rd (s.blockReset b k).flt.blocks b = { held := true, running := true, set := k } ∧ (rd (s.blockReset b k).flt.sets k).isOpen = true
      ∧ (rd (s.blockReset b k).flt.sets k).mask = (rd s.im.shadows k).mask ∧ (s.blockReset b k).flt.resets = satAdd 0xFFFF s.flt.resets 1 := by
  have hn : ¬((rd s.flt.blocks b).running || (rd s.flt.blocks b).set < 16 && (rd s.flt.sets (rd s.flt.blocks b).set).isOpen) = true := by
    rw [hr, Bool.false_or, Bool.and_eq_true, decide_eq_true_eq]
    rintro ⟨h, h'⟩
    exact Bool.false_ne_true ((ho ⟨_, h⟩).symm.trans h')
  unfold blockReset
  dsimp only
  rw [if_neg hn]
  obtain ⟨a, d, e⟩ := onlySubs_blockEffect b (s.mdFlt (fun t => { t with
      resets := satAdd 0xFFFF t.resets 1
      blocks := wr t.blocks b { held := true, running := true, set := k }
      sets := md t.sets k (fun o => if o.isOpen then { o with ended := false } else
        { isOpen := true, mask := (rd s.im.shadows k).mask, settle := (rd s.im.shadows k).settle, ended := false }) }))
  rw [e]
  have hs := ho ⟨k, hk⟩
  refine ⟨rd_wr_self _ _ _ hb, ?_, ?_, rfl⟩ <;> simp [mdFlt, rd_md_self _ _ _ hk, hs]

/-! ### The command -/

/-- The state a sub-source registers from. -/
theorem marked_reached {i n : Nat} (s : State) : Agree 0x2001 s ((s.reached i).marked i n) ∧ OnlySubs s ((s.reached i).marked i n) :=
  ⟨agree_mdSub rfl _ _ _ _ (agree_reached i s), (onlySubs_reached i s).trans ⟨_, _, Eq.refl _⟩⟩

theorem faultReg_registers {i n : Nat} {s : State} (hc : s.ctlOn = true) (hu : Unregistered i n s) (hm : MayRegister i n s) :
    s.faultReg i n = ((s.reached i).marked i n).registerSrc i n false := by
  rw [faultReg_on hc, regLive_registers (unregistered_reached hu) (mayRegister_reached hm)]

theorem reached_ne {i : Nat} (h : i ≠ 155) (s : State) : s.reached i = s.arrive := if_neg h

/-- Where no sub-source is left to register, nothing is. -/
theorem regLive_none {i n : Nat} {s : State} (h : ∀ x ∈ s.flt.subs, x.src = i → x.sub = n → x.reg = true) : s.regLive i n = s := by
  have hf : s.flt.subs.find? (fun x => x.src == i && x.sub == n && !x.reg) = none := by
    rw [List.find?_eq_none]
    intro x hx hh
    simp only [Bool.and_eq_true, beq_iff_eq, Bool.not_eq_true'] at hh
    obtain ⟨⟨h1, h2⟩, h3⟩ := hh
    exact Bool.false_ne_true (h3.symm.trans (h x hx h1 h2))
  unfold regLive
  rw [hf]

theorem marked_registered {i n : Nat} {s : State} : ∀ x ∈ (s.marked i n).flt.subs, x.src = i → x.sub = n → x.reg = true := by
  intro x hx h1 h2
  obtain ⟨y, -, rfl⟩ := List.mem_map.mp hx
  dsimp only at h1 h2 ⊢
  split at h1
  · next h => rw [if_pos h]
  · next h =>
    rw [if_neg h] at h2
    exact absurd (by simp [h1, h2]) h

/-- A forced or broken pair beside another registered sub-source is marked alone. -/
theorem regLive_again {i n : Nat} {s : State} (hn : 0xFFFD ≤ n) (ho : ∃ y ∈ s.flt.subs, y.src = i ∧ y.sub ≠ n ∧ y.reg = true) :
    (∀ x ∈ (s.regLive i n).flt.subs, x.src = i → x.sub = n → x.reg = true) ∧ (s.regLive i n).flt = { s.flt with subs := (s.regLive i n).flt.subs }
      ∧ Agree 0x2000 s (s.regLive i n) := by
  have ha : (subBroken ≤ n && s.flt.subs.any (fun x => x.src == i && x.sub != n && x.reg)) = true := by
    obtain ⟨y, hy, h1, h2, h3⟩ := ho
    have : s.flt.subs.any (fun x => x.src == i && x.sub != n && x.reg) = true := List.any_eq_true.mpr ⟨y, hy, by simp [h1, h2, h3]⟩
    rw [this, Bool.and_true]
    exact decide_eq_true hn
  by_cases hu : Unregistered i n s
  · obtain ⟨x, hx⟩ := unregistered_iff.mp hu
    have e : s.regLive i n = s.marked i n := by
      unfold regLive
      rw [hx]
      dsimp only
      rw [ha]
      rfl
    rw [e]
    exact ⟨marked_registered, rfl, agree_mdSub rfl _ _ _ _ (.refl _ s)⟩
  · have hr : ∀ x ∈ s.flt.subs, x.src = i → x.sub = n → x.reg = true := by
      intro x hx h1 h2
      by_contra h
      exact hu ⟨x, hx, h1, h2, Bool.eq_false_of_not_eq_true h⟩
    rw [regLive_none hr]
    exact ⟨hr, rfl, .refl _ s⟩

/-! ### A sub-source that becomes live and registers at once -/

theorem heldBack_of_pairHeld {a : Nat} {s : State} (h : s.pairHeld a = false) (b : Nat) : s.heldBack a b = false := by
  simp [heldBack, h]

theorem subLive_none {a : Nat} {s : State} (hp : s.pairHeld a = false) (h : ∀ y ∈ s.flt.subs, y.src ≠ a) (b : Nat) : s.subLive a b = false := by
  simp only [subLive, subsOf, heldBack_of_pairHeld hp b, Bool.false_eq_true, if_false, List.any_eq_false]
  intro y hy
  simp [h y hy]

/-- A first sub-source of a source stands last in the list. -/
theorem raise_first {a : Nat} {s : State} (hp : s.pairHeld a = false) (h : ∀ y ∈ s.flt.subs, y.src ≠ a) (b : Nat) (o : Option Nat) :
    (s.raise a b o).flt = { s.flt with subs := s.flt.subs ++ [{ src := a, sub := b, till := o }] } := by
  simp only [raise, mdSubs, heldBack_of_pairHeld hp b, subLive_none hp h b, Bool.false_eq_true, if_false]

theorem marked_append {i n : Nat} {s : State} {l : List SubSrc} {x : SubSrc} (hs : s.flt.subs = l ++ [x]) (hl : ∀ y ∈ l, y.src ≠ i) (hx : x.src = i) (hn : x.sub = n) :
    (s.marked i n).flt.subs = l ++ [{ x with reg := true }] := by
  have e : l.map (fun y => if y.src == i && y.sub == n then { y with reg := true } else y) = l := by
    rw [List.map_congr_left (g := id) fun y hy => by simp [hl y hy], List.map_id]
  simp only [marked, mdSub, mdFlt, hs, List.map_append, e, List.map_cons, List.map_nil, hx, hn, beq_self_eq_true, Bool.and_self, if_true]

/-- A source's first sub-source, live and not registered, registers. -/
theorem registers_first {i n : Nat} {s u : State} {l : List SubSrc} {x : SubSrc} (ha : Agree 0x2001 s u) (ho : OnlySubs s u) (hs : u.flt.subs = l ++ [x])
    (hl : ∀ y ∈ l, y.src ≠ i) (hx : x.src = i) (hn : x.sub = n) (hr : x.reg = false) (hi : i < 256) (he : (s.srcCfg i).en = true)
    (hm : s.masked i = false) (hact : (s.srcCfg i).act < 4) (hcls : (s.srcCfg i).cls < 4) :
    Registered i n s (u.regLive i n) ∧ (u.regLive i n).flt.subs = l ++ [{ x with reg := true }] ∧ (u.regLive i n).flt.xfCnt = u.flt.xfCnt := by
  have hu : Unregistered i n u := ⟨x, by simp [hs], hx, hn, hr⟩
  have hmr : MayRegister i n u := .inr fun y hy h => by
    rw [hs] at hy
    rcases List.mem_append.mp hy with h' | h'
    · exact absurd h (hl y h')
    · rw [List.mem_singleton.mp h']
      exact hr
  rw [regLive_registers hu hmr]
  obtain ⟨h1, h2, h3⟩ := registerSrc_registered (u := u.marked i n) (agree_mdSub rfl _ _ _ _ ha) (ho.trans ⟨_, _, Eq.refl _⟩) hi he hm hact hcls
  exact ⟨h1, h2.trans (marked_append hs hl hx hn), h3⟩

/-! ### The samples of an external double -/

/-- A loop's passes over a list, one more pass at its head. -/
theorem forL_single {α : Type} (x : α) (f : α → State → State) (s : State) : forL [x] f s = f x s := rfl

theorem xfRead_real {a : Nat} {x : Bool × Bool} {s : State} (hf : s.flt.force.getLsbD a = false) (hp : s.flt.forcePb.getLsbD a = false) (hx : x.1 ≠ x.2) :
    s.xfRead a x.1 x.2 = some (x.1 != (s.srcCfg a).inv) := by
  have : (x.1 == x.2) = false := beq_false_of_ne hx
  simp only [xfRead, hf, hp, this, Bool.false_eq_true, if_false]

/-- A sample that asserts, of a double with no sub-source live. -/
theorem xfSample_asserts {a : Nat} {x : Bool × Bool} {s : State} (hf : s.flt.force.getLsbD a = false) (hp : s.flt.forcePb.getLsbD a = false) (h160 : 160 ≤ a)
    (hn : ∀ y ∈ s.flt.subs, y.src ≠ a) (hx : x.1 ≠ x.2) (hi : x.1 ≠ (s.srcCfg a).inv) :
    s.xfSample a x = if (s.srcCfg a).qual ≤ rd s.flt.xfCnt (a - 160) + 1 then
        ((s.mdFlt (fun f => { f with xfCnt := wr f.xfCnt (a - 160) 0 })).raise a 0xFFFF none).regLive a 0xFFFF
      else s.mdFlt (fun f => { f with xfCnt := wr f.xfCnt (a - 160) (rd s.flt.xfCnt (a - 160) + 1) }) := by
  have hh : s.pairHeld a = false := by simp [pairHeld, hp, Nat.not_lt.mpr h160]
  have e1 : (x.1 != (s.srcCfg a).inv) = true := bne_iff_ne.mpr hi
  have e2 : (x.1 != x.2) = true := bne_iff_ne.mpr hx
  simp only [xfSample, xfRead_real hf hp hx, e1, e2, subLive_none hh hn, Bool.and_self, Bool.false_eq_true, if_false, if_true]

/-- Samples that assert and stay below the qualifying number are counted alone. -/
theorem xfSamples_count {a : Nat} (ha : 160 ≤ a) (ha' : a < 208) (l : List (Bool × Bool)) {s : State} (hf : s.flt.force.getLsbD a = false) (hp : s.flt.forcePb.getLsbD a = false)
    (hn : ∀ y ∈ s.flt.subs, y.src ≠ a) (hl : ∀ x ∈ l, x.1 ≠ x.2 ∧ x.1 ≠ (s.srcCfg a).inv) (hq : rd s.flt.xfCnt (a - 160) + l.length < (s.srcCfg a).qual) :
    rd (forL l (xfSample a) s).flt.xfCnt (a - 160) = rd s.flt.xfCnt (a - 160) + l.length ∧ (forL l (xfSample a) s).flt.subs = s.flt.subs
      ∧ Agree 0x2000 s (forL l (xfSample a) s) := by
  induction l generalizing s with
  | nil => exact ⟨rfl, rfl, .refl _ s⟩
  | cons x xs ih =>
    obtain ⟨h1, h2⟩ := hl x List.mem_cons_self
    have hx : s.xfSample a x = s.mdFlt (fun f => { f with xfCnt := wr f.xfCnt (a - 160) (rd s.flt.xfCnt (a - 160) + 1) }) := by
      rw [xfSample_asserts hf hp ha hn h1 h2]
      exact if_neg (by rw [List.length_cons] at hq; omega)
    have hc : rd (s.xfSample a x).flt.xfCnt (a - 160) = rd s.flt.xfCnt (a - 160) + 1 := by
      rw [hx]
      exact rd_wr_self _ _ _ (by omega)
    have e : forL (x :: xs) (xfSample a) s = forL xs (xfSample a) (s.xfSample a x) := rfl
    have hs : (s.xfSample a x).flt.force = s.flt.force ∧ (s.xfSample a x).flt.forcePb = s.flt.forcePb ∧ (s.xfSample a x).flt.subs = s.flt.subs
        ∧ (s.xfSample a x).srcCfg a = s.srcCfg a ∧ Agree 0x2000 s (s.xfSample a x) := by
      rw [hx]
      exact ⟨rfl, rfl, rfl, rfl, agree_mdFlt rfl _ _ (.refl _ s)⟩
    obtain ⟨e1, e2, e3, e4, e5⟩ := hs
    rw [List.length_cons] at hq ⊢
    obtain ⟨i1, i2, i3⟩ := ih (s := s.xfSample a x) (by rw [e1]; exact hf) (by rw [e2]; exact hp) (by rw [e3]; exact hn)
      (fun y hy => by rw [e4]; exact hl y (List.mem_cons_of_mem _ hy)) (by rw [hc, e4]; omega)
    rw [e]
    exact ⟨by rw [i1, hc]; omega, i2.trans e3, e5.trans i3⟩

theorem xfSamples_on {a : Nat} {l : List (Bool × Bool)} {s : State} (hc : s.ctlOn = true) (h1 : 160 ≤ a) (h2 : a < 208) :
    s.xfSamples a l = forL l (xfSample a) s.arrive := by
  simp [xfSamples, hc, Nat.not_lt.mpr h1, Nat.not_le.mpr h2]

end State

theorem exec_faultSub {src : BitVec 8} {sub : BitVec 16} {s : State} (hc : s.ctlOn = true) : exec (.faultRegistration src (.sub sub)) s = .next (s.faultReg src.toNat sub.toNat) :=
  congrArg Host.Outcome.next (State.onCtl_on s hc)

theorem exec_faultHalves {src : BitVec 8} {l : List (Bool × Bool)} {s : State} (hc : s.ctlOn = true) : exec (.faultRegistration src (.halves l)) s = .next (s.xfSamples src.toNat l) :=
  congrArg Host.Outcome.next (State.onCtl_on s hc)

theorem State.unregistered_of_find {i n : Nat} {x : SubSrc} {s : State} (h : s.flt.subs.find? (fun x => x.src == i && x.sub == n && !x.reg) = some x) : s.Unregistered i n :=
  State.unregistered_iff.mpr ⟨x, h⟩

/-- Settles O46: a registration is judged in `reached`, marked in `marked`, counted in `counted` and acts from `recorded`; a loop over samples only counts below the qualifying number. -/
theorem faultRegistration : Obligations.FaultRegistration := by
  refine ⟨fun src sub x s hc hm hf he hk hact hcls => ⟨_, exec_faultSub hc, ?_⟩, fun src sub s hc hn h155 ho => ⟨_, exec_faultSub hc, ?_⟩,
    fun src sub s hc h155 hr => ⟨_, exec_faultSub hc, ?_⟩, fun src sub x s hc hm hf he => ⟨_, exec_faultSub hc, ?_⟩,
    fun src sub x s hc hm hf he hk => ⟨_, exec_faultSub hc, ?_⟩, fun src sub x s hc hm hf he hk hact hb hs hp => ⟨_, exec_faultSub hc, ?_⟩,
    fun src sub x s hc hm hf he hk hact hb hsh hsv hr ho => ⟨_, exec_faultSub hc, ?_⟩, fun s hc hn hp he hk hact hcls => ⟨_, exec_faultSub hc, ?_⟩,
    fun src l s hc h1 h2 hf hp hn hl hq => ⟨_, exec_faultHalves hc, ?_⟩, fun src x s hc h1 h2 hf hp hn hx hi hq he hk hact hcls => ⟨_, exec_faultHalves hc, ?_⟩,
    fun src x s hc h1 h2 hf hp hx hi => ⟨_, exec_faultHalves hc, ?_⟩, fun src x s hc h1 h2 hx => ⟨_, exec_faultHalves hc, ?_⟩⟩
  · have hu := State.unregistered_of_find hf
    have ⟨ha, ho⟩ := s.marked_reached (i := src.toNat) (n := sub.toNat)
    obtain ⟨h, hsub, -⟩ := State.registerSrc_registered (n := sub.toNat) ha ho src.isLt he hk hact hcls
    beta_reduce
    rw [State.faultReg_registers hc hu hm]
    exact ⟨h.reg, h.cause, h.valid, h.source, h.sub, h.state, h.first, hsub ▸ State.marked_mem (State.unregistered_reached hu), h.cls, h.irq, h.same.sameBut rfl⟩
  · have hne : src.toNat ≠ 155 := fun h => h155 (BitVec.eq_of_toNat_eq h)
    beta_reduce
    rw [State.faultReg_on hc, State.reached_ne hne]
    obtain ⟨h1, h2, h3⟩ := State.regLive_again (s := s.arrive) hn ho
    exact ⟨h1, h2, ((State.agree_arrive rfl s (.refl 0x2001 s)).trans (h3.mono rfl)).sameBut rfl⟩
  · have hne : src.toNat ≠ 155 := fun h => h155 (BitVec.eq_of_toNat_eq h)
    rw [State.faultReg_on hc, State.reached_ne hne, State.regLive_none (s := s.arrive) hr]
    exact (State.agree_arrive rfl s (.refl 0x1 s)).sameBut rfl
  · have ⟨ha, ho⟩ := s.marked_reached (i := src.toNat) (n := sub.toNat)
    obtain ⟨h1, h2, h3, h4, -, -, h5⟩ := State.counted_facts ha ho src.isLt
    beta_reduce
    rw [State.faultReg_registers hc (State.unregistered_of_find hf) hm, State.registerSrc_off ((congrArg SrcCfg.en (State.srcCfg_congr ha _)).trans he)]
    exact ⟨h1, h2, h3, h4, h5.sameBut rfl⟩
  · have ⟨ha, ho⟩ := s.marked_reached (i := src.toNat) (n := sub.toNat)
    obtain ⟨-, h2, h3, h4, h6, h7, h5⟩ := State.counted_facts ha ho src.isLt
    beta_reduce
    rw [State.faultReg_registers hc (State.unregistered_of_find hf) hm,
      State.registerSrc_masked ((congrArg SrcCfg.en (State.srcCfg_congr ha _)).trans he) ((State.masked_congr ho _).trans hk)]
    generalize State.counted src.toNat _ = u at h2 h3 h4 h5 h6 h7 ⊢
    generalize hw : State.mdSub _ _ _ (State.mdFlt _ u) = w
    have hwf : w.flt.conseq = md u.flt.conseq src.toNat (satAdd 0xFFFF · 1) ∧ w.flt.conseqAll = satAdd 0xFFFF u.flt.conseqAll 1 ∧ w.flt.cause = u.flt.cause
        ∧ w.flt.last = u.flt.last ∧ w.flt.cls = u.flt.cls ∧ State.Agree 0x2000 u w := by
      subst hw
      exact ⟨rfl, rfl, rfl, rfl, rfl, State.agree_mdSub rfl _ _ _ _ (State.agree_mdFlt rfl _ u (.refl _ u))⟩
    obtain ⟨w1, w2, w3, w4, w5, w6⟩ := hwf
    have hcnt : State.Agree 0x4100 w (w.count 0x02 src.toNat (if State.subBroken ≤ sub.toNat then 0xFFFF else sub.toNat)) := State.agree_count rfl _ _ _ _ (.refl _ w)
    rw [hcnt.flt rfl, w1, w2, w3, w4, w5, h2, h3, h4, h6, h7]
    exact ⟨rd_md_self _ _ _ src.isLt, rfl, rfl, rfl, rfl, (((h5.mono rfl).trans (w6.mono rfl)).trans (hcnt.mono (m := 0x6101) rfl)).sameBut rfl⟩
  · have ⟨ha, ho⟩ := s.marked_reached (i := src.toNat) (n := sub.toNat)
    rw [State.faultReg_registers hc (State.unregistered_of_find hf) hm]
    have ec := State.srcCfg_congr ha src.toNat
    have ef : ((s.reached src.toNat).marked src.toNat sub.toNat).byForce src.toNat sub.toNat = false := (State.byForce_marked ..).trans (State.byForce_reached hb)
    have hk' := (State.masked_congr ho src.toNat).trans hk
    generalize (s.reached src.toNat).marked src.toNat sub.toNat = u at ha ec ef hk' ⊢
    obtain ⟨h1, h2, -⟩ := u.recorded_facts src.toNat sub.toNat
    have ht : (u.recorded src.toNat sub.toNat).top.state = s.top.state := h2.trans (congrArg Top.state (ha.top rfl))
    have hq : State.Agree 0x2181 s (u.recorded src.toNat sub.toNat) := (ha.mono rfl).trans (h1.mono rfl)
    have hpair : (u.recorded src.toNat sub.toNat).paired = s.paired := by simp only [State.paired, hq.bimg rfl]
    rw [State.registerSrc_on (ec ▸ he) hk', ef, State.react_trip _ _ _ (ec ▸ hact) (by simpa only [State.inState, ht] using hs)]
    refine State.saveEntered_congr ht (congrArg _ (hq.pins rfl)) (State.trip_entered _ _ _ (State.ctlUp_of_ctlOn ?_) ?_ ?_).1
    · simpa only [State.ctlOn, State.ctlUp, hq.pins rfl, ht] using hc
    · rw [hpair, hq.pair rfl]
      exact hp
    · simpa only [State.inState, ht] using hs
  · have ⟨ha, ho'⟩ := s.marked_reached (i := src.toNat) (n := sub.toNat)
    beta_reduce
    rw [State.faultReg_registers hc (State.unregistered_of_find hf) hm]
    have ec := State.srcCfg_congr ha src.toNat
    have hk' := (State.masked_congr ho' src.toNat).trans hk
    generalize (s.reached src.toNat).marked src.toNat sub.toNat = u at ha ho' ec hk' ⊢
    obtain ⟨h1, h2, k, l, r, e, -⟩ := u.recorded_facts src.toNat sub.toNat
    obtain ⟨a, b, e'⟩ := ho'
    have hq : State.Agree 0x2181 s (u.recorded src.toNat sub.toNat) := (ha.mono rfl).trans (h1.mono rfl)
    have ei : (u.recorded src.toNat sub.toNat).im = s.im := by simp only [State.im, hq.bimg rfl]
    have hsv' : (u.recorded src.toNat sub.toNat).saving = false := by simpa only [State.saving, h2, ha.top rfl, hq.save rfl] using hsv
    have eb : (u.recorded src.toNat sub.toNat).flt.blocks = s.flt.blocks ∧ (u.recorded src.toNat sub.toNat).flt.sets = s.flt.sets
        ∧ (u.recorded src.toNat sub.toNat).flt.resets = s.flt.resets := by rw [e, e']; exact ⟨rfl, rfl, rfl⟩
    obtain ⟨e1, e2, e3⟩ := eb
    rw [State.registerSrc_on (ec ▸ he) hk', State.react_reset _ _ _ _ (ec ▸ hact), ec, State.requestReset, hsv', ← ei, ← e3]
    exact State.blockReset_facts hb hsh (by rw [e1]; exact hr) (by rw [e2]; exact ho)
  · have hr : s.arrive.raiseTurn 155 0xFFFF = s.reached 155 := rfl
    obtain ⟨h, hsub, -⟩ := State.registers_first (n := 0xFFFF) (l := s.flt.subs) (x := { src := 155, sub := 0xFFFF, till := some (s.clk.turn + 1) }) (State.agree_reached 155 s)
      (State.onlySubs_reached 155 s) (by rw [← hr, State.raiseTurn, State.raise_first (s := s.arrive) hp hn]; rfl) hn rfl rfl rfl (by decide) he hk hact hcls
    beta_reduce
    rw [State.faultReg_on hc]
    exact ⟨hsub, h.cause, h.source, h.same.sameBut rfl⟩
  · obtain ⟨g1, g2, g3⟩ := State.xfSamples_count (s := s.arrive) h1 h2 l hf hp hn hl hq
    rw [State.xfSamples_on hc h1 h2]
    exact ⟨g1, g2, ((State.agree_arrive rfl s (.refl 0x2001 s)).trans (g3.mono rfl)).sameBut rfl⟩
  · have hh : s.pairHeld src.toNat = false := by simp [State.pairHeld, hp, Nat.not_lt.mpr h1]
    have e : s.arrive.xfSample src.toNat x = _ := (State.xfSample_asserts (s := s.arrive) hf hp h1 hn hx hi).trans (if_pos hq)
    beta_reduce
    rw [State.xfSamples_on hc h1 h2, State.forL_single, e]
    generalize hz : s.arrive.mdFlt (fun f => { f with xfCnt := wr f.xfCnt (src.toNat - 160) 0 }) = z
    have hzf : z.pairHeld src.toNat = false ∧ z.flt.subs = s.flt.subs ∧ z.flt.reg = s.flt.reg ∧ z.flt.cause = s.flt.cause ∧ z.srcCfg src.toNat = s.srcCfg src.toNat
        ∧ z.masked src.toNat = s.masked src.toNat ∧ rd z.flt.xfCnt (src.toNat - 160) = 0 ∧ State.Agree 0x2001 s z := by
      subst hz
      exact ⟨hh, rfl, rfl, rfl, rfl, rfl, rd_wr_self _ _ _ (by omega), State.agree_mdFlt rfl _ _ (State.agree_arrive rfl s (.refl _ s))⟩
    obtain ⟨z1, z2, z3, z4, z5, z6, z7, z8⟩ := hzf
    have hr := State.raise_first z1 (by rw [z2]; exact hn) 0xFFFF none
    obtain ⟨h, hsub, hx⟩ := State.registers_first (i := src.toNat) (n := 0xFFFF) (l := z.flt.subs) (x := { src := src.toNat, sub := 0xFFFF }) (State.agree_raise rfl src.toNat 0xFFFF none z (.refl 0x2001 z)) (State.onlySubs_raise ..) (congrArg Flt.subs hr)
      (by rw [z2]; exact hn) rfl rfl rfl src.isLt (by rw [z5]; exact he) (z6.trans hk) (by rw [z5]; exact hact) (by rw [z5]; exact hcls)
    rw [hsub, hx, h.reg, h.cause, hr, z2, z3, z4]
    exact ⟨rfl, z7, rfl, rfl, h.source, ((z8.mono rfl).trans h.same).sameBut rfl⟩
  · have hh : s.arrive.heldBack src.toNat 0xFFFF = false := State.heldBack_of_pairHeld (by simp only [State.pairHeld, State.arrive]; simp [hp, Nat.not_lt.mpr h1]) _
    have e : s.arrive.xfSample src.toNat x = (s.arrive.unraise src.toNat 0xFFFF).mdFlt (fun f => { f with xfCnt := wr f.xfCnt (src.toNat - 160) 0 }) := by
      have e1 : (x.1 != (s.arrive.srcCfg src.toNat).inv) = false := bne_eq_false_iff_eq.mpr hi
      simp only [State.xfSample, State.xfRead_real (s := s.arrive) hf hp hx, e1]
    have el : ((s.arrive.unraise src.toNat 0xFFFF).mdFlt (fun f => { f with xfCnt := wr f.xfCnt (src.toNat - 160) 0 })).subLive src.toNat 0xFFFF
        = (s.arrive.unraise src.toNat 0xFFFF).subLive src.toNat 0xFFFF := rfl
    beta_reduce
    rw [State.xfSamples_on hc h1 h2, State.forL_single, e]
    refine ⟨rd_wr_self _ _ _ (by omega), el.trans (State.unraise_live ..), ?_, (State.agree_mdFlt rfl _ _ (State.agree_unraise rfl _ _ _ (State.agree_arrive rfl s (.refl 0x2001 s)))).sameBut rfl⟩
    simp only [State.unraise, State.mdSubs, hh, Bool.false_eq_true, if_false]
    rfl
  · have e : s.arrive.xfSample src.toNat x = s.arrive := by
      have er : s.arrive.xfRead src.toNat x.1 x.2 = none := by
        have e1 : s.arrive.flt = s.flt := rfl
        unfold State.xfRead
        rw [e1]
        rcases hx with ⟨hf, hx⟩ | hp
        · simp [hf, hx]
        · simp [hp]
      simp only [State.xfSample, er]
    rw [State.xfSamples_on hc h1 h2, State.forL_single, e]
    exact (State.agree_arrive rfl s (.refl 0x1 s)).sameBut rfl

end Sys2Proof.Machine
end

section
/-! PROOFS. The partner link's messages and state frames (R337 to R341, R345, R346). -/
set_option Elab.async false

namespace Sys2Proof.Machine

theorem Chan.put_foldl_expect {α : Type} (l : List α) (c : Chan α) : (l.foldl (fun d m => d.put m) c).expect = c.expect := by
  induction l generalizing c with
  | nil => rfl
  | cons m l ih => exact ih (c.put m)

theorem Chan.ack_expect {α : Type} (n : Nat) (c : Chan α) : (c.ack n).expect = c.expect := by
  unfold Chan.ack
  split <;> rfl

theorem Chan.refill_expect {α : Type} (c : Chan α) : c.refill.expect = c.expect := Chan.put_foldl_expect ..

theorem Chan.push_expect {α : Type} (m : α) (c : Chan α) : (c.push m).expect = c.expect := by
  unfold Chan.push
  split <;> rfl

/-- A message given to a channel is the last one it holds. -/
theorem Chan.push_last {α : Type} (m : α) (c : Chan α) : ((c.push m).buf.map (·.2) ++ (c.push m).wait).getLast? = some m := by
  unfold Chan.push
  split
  · next h =>
    simp only [Bool.and_eq_true, List.isEmpty_iff] at h
    simp [Chan.put, h.2]
  · simp [Chan.hold]

namespace State

/-! ### The partner link's message layer -/

theorem psend_pair (m : PMsg) (s : State) : (s.psend m).pair = { s.pair with chan := (s.psend m).pair.chan } := by
  unfold psend
  split <;> rfl

theorem psend_expect (m : PMsg) (s : State) : (s.psend m).pair.chan.expect = s.pair.chan.expect := by
  unfold psend
  split
  · exact Chan.push_expect ..
  · rfl

theorem psend_sent {m : PMsg} {s : State} (h : s.pair.plOpen = true) : PairSent m (s.psend m) := by
  unfold psend
  rw [if_pos h]
  exact Chan.push_last ..

/-- A message's header is taken: what it acknowledges goes, and its own is accepted. -/
def heardMsg (h : Hdr) (s : State) : State :=
  ((if h.ackV then s.mdPair (fun p => { p with chan := (p.chan.ack h.ack.toNat).refill }) else s).mdPair (fun p => { p with chan := p.chan.accept })).plHeard

theorem preceive_inSeq {h : Hdr} {s : State} (hq : PairInSeq h s) (f : State → State) : s.preceive h f = f (s.heardMsg h) := by
  obtain ⟨hm, hok, he⟩ := hq
  have e : ((if h.ackV then s.mdPair (fun p => { p with chan := (p.chan.ack h.ack.toNat).refill }) else s).pair.chan).expect = s.pair.chan.expect := by
    split
    · exact (Chan.refill_expect _).trans (Chan.ack_expect ..)
    · rfl
  unfold preceive heardMsg
  dsimp only
  rw [if_neg (by simp [hm]), if_neg (by simp [e, he]), if_pos hok]

/-- What is left when a message has been taken. -/
theorem heardMsg_facts (h : Hdr) (s : State) : Agree 0x2002000 s (s.heardMsg h) ∧ (∃ c, (s.heardMsg h).pair = { s.pair with plUp := true, plOpen := true, chan := c })
    ∧ (s.heardMsg h).pair.chan.expect = (s.pair.chan.expect + 1) % 4096 ∧ (s.heardMsg h).subLive 127 0xFFFF = false := by
  unfold heardMsg
  generalize hw : (if h.ackV then s.mdPair (fun p => { p with chan := (p.chan.ack h.ack.toNat).refill }) else s) = w
  have hw1 : Agree 0x2002000 s w ∧ (∃ c, w.pair = { s.pair with chan := c }) ∧ w.pair.chan.expect = s.pair.chan.expect := by
    subst hw
    split
    · exact ⟨agree_mdPair rfl _ _ (.refl _ s), ⟨_, rfl⟩, (Chan.refill_expect _).trans (Chan.ack_expect ..)⟩
    · exact ⟨.refl _ s, ⟨_, rfl⟩, rfl⟩
  obtain ⟨h1, ⟨c, h2⟩, h3⟩ := hw1
  refine ⟨agree_plHeard rfl _ (agree_mdPair rfl _ _ h1), ?_⟩
  unfold plHeard
  extract_lets v
  have hv : v.pair = { w.pair with plUp := true, plOpen := true, chan := w.pair.chan.accept } := (agree_follow rfl 127 0xFFFF false _ (.refl 0x2000 _)).pair rfl
  have hv3 : v.subLive 127 0xFFFF = false := follow_live ..
  have hv2 : v.pair.chan.expect = (s.pair.chan.expect + 1) % 4096 := by rw [hv, ← h3]; rfl
  have hv1 : ∃ c, v.pair = { s.pair with plUp := true, plOpen := true, chan := c } := ⟨w.pair.chan.accept, by rw [hv, h2]⟩
  clear_value v
  split
  · obtain ⟨c, hv1⟩ := hv1
    refine ⟨⟨_, by rw [psend_pair, hv1]⟩, (psend_expect ..).trans hv2, ?_⟩
    rw [subLive_congr ((agree_psend rfl _ v (.refl 0x2000000 v)).flt rfl)]
    exact hv3
  · exact ⟨hv1, hv2, hv3⟩

theorem arrive_inSeq {h : Hdr} {s : State} (hq : PairInSeq h s) : PairInSeq h s.arrive := hq

theorem ctlOn_of_inSeq {h : Hdr} {s : State} (hq : PairInSeq h s) : s.ctlOn = true := by
  have := hq.1
  simp only [pairMsgs, Bool.and_eq_true] at this
  exact this.1.1

/-! ### The standby's frames -/

/-- A frame heard outside Boot, or in Boot where the end of Boot is no occasion, is heard alone. -/
theorem bootHeard_facts {s : State} (hn : ¬(s.top.state = .boot ∧ s.pair.occ = .boot)) : ∃ b, s.bootHeard = s.mdPair (fun p => { p with heard := b }) := by
  unfold bootHeard
  by_cases h : s.top.state = .boot
  · have ho : ¬(s.pair.occ = .boot && !s.pair.drv) = true := fun h' => hn ⟨h, by simp_all⟩
    rw [if_neg (not_not_intro h)]
    exact ⟨true, if_neg ho⟩
  · rw [if_pos h]
    exact ⟨s.pair.heard, rfl⟩

/-- What a standby has taken of a frame: the frame, the strings and the state it names; the role and the levels stay as they were. -/
structure Framed (f : Frame) (s t : State) : Prop where
  frame : t.pair.frame = some f
  fseq : t.pair.fseq = f.fseq
  drv : t.pair.drv = s.pair.drv
  standby : t.pair.standby = s.pair.standby
  heard : t.pair.heard = s.pair.heard
  linked : t.pair.plOpen = s.pair.plOpen
  ready : s.pair.ready = false → t.pair.ready = false
  state : t.top.state = TopState.ofCode f.state
  epoch : t.aon.epoch = f.epoch
  levels : t.aon.en = s.aon.en
  strs : ∀ k : Fin 16, (t.str k).q = (rd f.strs k).q ∧ (t.str k).c = (rd f.strs k).c

/-- The fields of the pair's record that a frame's later steps keep. -/
def PairKept (p q : Pair) : Prop :=
  q.frame = p.frame ∧ q.fseq = p.fseq ∧ q.drv = p.drv ∧ q.standby = p.standby ∧ q.heard = p.heard ∧ q.plOpen = p.plOpen ∧ (p.ready = false → q.ready = false)

theorem Framed.keep {f : Frame} {s t u : State} (h : Framed f s t) (ha : Agree 0x2000900 t u) (hp : PairKept t.pair u.pair) : Framed f s u := by
  obtain ⟨p1, p2, p3, p4, p5, p6, p7⟩ := hp
  have hs (k : Fin 16) : u.str k = t.str k := by simp only [str, ha.aon rfl]
  exact ⟨p1.trans h.frame, p2.trans h.fseq, p3.trans h.drv, p4.trans h.standby, p5.trans h.heard, p6.trans h.linked, fun e => p7 (h.ready e),
    (congrArg Top.state (ha.top rfl)).trans h.state, (congrArg Aon.epoch (ha.aon rfl)).trans h.epoch, (congrArg Aon.en (ha.aon rfl)).trans h.levels,
    fun k => by rw [hs k]; exact h.strs k⟩

theorem pairKept_psend (m : PMsg) (s : State) : PairKept s.pair (s.psend m).pair := by
  rw [psend_pair]
  exact ⟨rfl, rfl, rfl, rfl, rfl, rfl, id⟩

theorem pairKept_unarm (s : State) : PairKept s.pair s.unarm.pair := by
  unfold unarm
  rw [psend_pair]
  exact ⟨rfl, rfl, rfl, rfl, rfl, rfl, id⟩

theorem pairKept_of_eq {p q : Pair} (h : q = p) : PairKept p q := by
  subst h
  exact ⟨rfl, rfl, rfl, rfl, rfl, rfl, id⟩

theorem drillFollow_pair (f : Frame) (s : State) : (s.drillFollow f).pair = { s.pair with drillSt := (s.drillFollow f).pair.drillSt, drillRes := (s.drillFollow f).pair.drillRes } := by
  have e (b i c : Nat) (u : State) : ((u.setEvt b i).cmdEnd c).pair = u.pair := (agree_cmdEnd rfl c _ (agree_setEvt rfl b i u (.refl 0x900 u))).pair rfl
  unfold drillFollow
  split
  · rfl
  · split
    · rfl
    · rw [e]
      rfl
    · rw [e]
      rfl
    · rw [e]
      rfl
    · rfl

/-- The map's changes touch what the frame says of its base alone. -/
theorem applyMap_pair (f : Frame) (s : State) : ∃ a b c d e, (s.applyMap f).pair =
    { s.pair with baseKey := a, complete := b, baseOn := c, baseDone := d, baseTotal := e } := by
  unfold applyMap
  extract_lets s0 s1 all key within s2 s3
  have h0 : Agree 0x200000 s s0 := by
    unfold s0
    split
    · exact .ite (.forN (fun _ _ h => agree_mdPp rfl _ _ _ h) (.refl _ s)) (.refl _ s)
    · exact .refl _ s
  have h1 : Agree 0x200000 s s1 := by
    unfold s1
    split
    · exact .forL (fun _ _ h => agree_mapPut rfl _ _ _ h) h0
    · exact h0
  have h3 : Agree 0x200000 s s3 := .forL (fun _ _ h => agree_mdPp rfl _ _ _ h) (.forL (fun _ _ h => agree_mapPut rfl _ _ _ h) h1)
  clear_value s3
  have h4 := (Agree.forN (n := 64) (f := fun p t => if f.portClears.getLsbD p && within p 0 then t.mdPp p (fun q => { q with staged := [] }) else t)
    (fun _ _ h => .ite (agree_mdPp rfl _ _ _ h) h) h3).pair rfl
  exact ⟨_, _, _, _, _, by simp only [mdPair]; rw [h4]⟩

/-- A string's record, as a frame gives it. -/
def takeStr (f : Frame) (k : Nat) (s : State) : State :=
  let x := rd f.strs k
  s.mdStr k (fun y => { y with q := x.q, r := x.r, c := x.c, cand := x.cand, learned := x.learned, hasCand := x.hasCand, conf := x.conf, unres := x.unres })

theorem takeStrs_facts (f : Frame) (s : State) : (forL (List.range 16) (takeStr f) s).aon.en = s.aon.en
    ∧ ∀ k : Fin 16, ((forL (List.range 16) (takeStr f) s).str k).q = (rd f.strs k).q ∧ ((forL (List.range 16) (takeStr f) s).str k).c = (rd f.strs k).c := by
  refine ⟨forL_keeps (P := fun t => t.aon.en = s.aon.en) (f := takeStr f) (fun _ _ h => h) (List.range 16) (s := s) rfl, fun k => ?_⟩
  refine forL_at (p := k.val) (A := fun _ => True) (B := fun t => (t.str k).q = (rd f.strs k).q ∧ (t.str k).c = (rd f.strs k).c) List.nodup_range
    (List.mem_range.mpr k.isLt) (fun _ _ _ h => h) (fun t _ => ?_) (fun x hx t h => ?_) (f := takeStr f) (l := List.range 16) (s := s) trivial
  · simp only [takeStr, str, mdStr, rd_md_self _ _ _ k.isLt, and_self]
  · simp only [takeStr, str, mdStr, rd_md_ne _ _ _ _ hx] at h ⊢
    exact h

/-- The strings of a frame. -/
theorem applyStrs_facts (f : Frame) (s : State) : (s.applyStrs f).aon.en = s.aon.en
    ∧ ∀ k : Fin 16, ((s.applyStrs f).str k).q = (rd f.strs k).q ∧ ((s.applyStrs f).str k).c = (rd f.strs k).c := by
  unfold applyStrs
  extract_lets s1 age
  have h1 : s1 = forL (List.range 16) (takeStr f) s := rfl
  obtain ⟨h2, h3⟩ := takeStrs_facts f s
  rw [← h1] at h2 h3
  clear_value s1
  exact ⟨h2, h3⟩

/-- The first part of a frame's application: the map, the strings, the state, and the frame itself. -/
def frameTaken (f : Frame) (s : State) : State :=
  let s1 := (((s.applyMap f).applyStrs f).followState f.state).mdPair (fun p => { p with
    frame := some f, fseq := f.fseq, baseId := f.baseId, since := 0, complete := p.complete || p.given, given := false })
  { s1 with aon := { s1.aon with epoch := f.epoch }, top := { s1.top with frz := s1.top.frz &&& f.frz } }

/-- The second part: the standby arms, loses its arming, or stays unarmed. -/
def frameArms (arm : Bool) (s : State) : State :=
  let s3 := if arm && !s.pair.armed then s.setEvt 9 3 else s
  if !arm && s.pair.armed then s3.unarm
  else s3.mdPair (fun p => { p with
    armed := arm, armedFrames := if arm then satAdd 0xFFFF p.armedFrames 1 else 0, cutOff := p.cutOff && !arm
    occ := if arm && p.occ == .cutOff then .none else p.occ, ready := p.ready && !(arm && p.occ == .cutOff) })

/-- The state in which a frame's acknowledgement has been sent. -/
def frameAcked (f : Frame) (s : State) : State :=
  (((s.frameTaken f).frameArms ((s.pair.complete || s.pair.given) && f.armed)).drillFollow f).psend (.frameAck f.fseq f.baseId)

theorem applyFrame_eq (f : Frame) (s : State) : s.applyFrame f = if f.final then
      (((s.frameAcked f).driveShared f.shared).psend (.takeReady f.fseq)).mdPair (fun p => { p with
        occ := .planned, ready := true, yielded := false, declL := (s.frameAcked f).clk.l })
    else (s.frameAcked f).unplan := rfl

theorem frameTaken_facts (f : Frame) (s : State) : Framed f s (s.frameTaken f) ∧ (s.frameTaken f).pair.armed = s.pair.armed := by
  obtain ⟨a, b, c, d, e, hp⟩ := s.applyMap_pair f
  have hm : Agree 0x2200000 s (s.applyMap f) := agree_applyMap rfl f s (.refl _ s)
  have hs : Agree 0x20004 (s.applyMap f) ((s.applyMap f).applyStrs f) := agree_applyStrs rfl f _ (.refl _ _)
  have hf : Agree 0x80 ((s.applyMap f).applyStrs f) (((s.applyMap f).applyStrs f).followState f.state) := agree_followState rfl f.state _ (.refl _ _)
  obtain ⟨he, hq⟩ := (s.applyMap f).applyStrs_facts f
  have ht : (((s.applyMap f).applyStrs f).followState f.state).top.state = TopState.ofCode f.state := congrArg Prod.fst (followState_mark f.state _)
  have hpair := (hf.pair rfl).trans ((hs.pair rfl).trans hp)
  have haon := hf.aon rfl
  have he' := he.trans (congrArg Aon.en (hm.aon rfl))
  generalize hu : ((s.applyMap f).applyStrs f).followState f.state = u at ht hpair haon
  have hk : s.frameTaken f = { u.mdPair (fun p => { p with
      frame := some f, fseq := f.fseq, baseId := f.baseId, since := 0, complete := p.complete || p.given, given := false }) with
      aon := { u.aon with epoch := f.epoch }, top := { u.top with frz := u.top.frz &&& f.frz } } := by
    subst hu
    rfl
  rw [hk]
  refine ⟨⟨rfl, rfl, ?_, ?_, ?_, ?_, fun h => ?_, ht, rfl, ?_, fun k => ?_⟩, ?_⟩ <;> simp only [mdPair, hpair]
  · exact h
  · rw [haon]
    exact he'
  · simp only [str, haon]
    exact hq k

theorem frameArms_facts (arm : Bool) (s : State) : Agree 0x2000100 s (s.frameArms arm) ∧ PairKept s.pair (s.frameArms arm).pair ∧ (s.frameArms arm).pair.armed = arm := by
  have h3 : Agree 0x2000100 s (if arm && !s.pair.armed then s.setEvt 9 3 else s) := .ite (agree_setEvt rfl _ _ _ (.refl _ s)) (.refl _ s)
  have h4 : (if arm && !s.pair.armed then s.setEvt 9 3 else s).pair = s.pair := by
    split
    · exact (agree_setEvt rfl 9 3 s (.refl 0x100 s)).pair rfl
    · rfl
  unfold frameArms
  generalize (if arm && !s.pair.armed then s.setEvt 9 3 else s) = u at h3 h4 ⊢
  dsimp only
  split
  · next h =>
    have ha : arm = false := by simp_all
    refine ⟨agree_unarm rfl u h3, h4 ▸ pairKept_unarm u, ?_⟩
    rw [ha, unarm, psend_pair]
    rfl
  · refine ⟨agree_mdPair rfl _ _ h3, ?_, rfl⟩
    rw [← h4]
    exact ⟨rfl, rfl, rfl, rfl, rfl, rfl, fun h => by simp [mdPair, h]⟩

theorem frameAcked_facts (f : Frame) (s : State) : Framed f s (s.frameAcked f) ∧ (s.frameAcked f).pair.armed = ((s.pair.complete || s.pair.given) && f.armed)
    ∧ (s.pair.plOpen = true → PairSent (.frameAck f.fseq f.baseId) (s.frameAcked f)) := by
  obtain ⟨h1, -⟩ := s.frameTaken_facts f
  obtain ⟨a2, h2, e2⟩ := (s.frameTaken f).frameArms_facts ((s.pair.complete || s.pair.given) && f.armed)
  have h3 := h1.keep (a2.mono rfl) h2
  generalize hu : (s.frameTaken f).frameArms ((s.pair.complete || s.pair.given) && f.armed) = u at h3 e2
  have hd := drillFollow_pair f u
  have hk : PairKept u.pair (u.drillFollow f).pair := by
    rw [hd]
    exact ⟨rfl, rfl, rfl, rfl, rfl, rfl, id⟩
  have h4 : Framed f s (u.drillFollow f) := h3.keep (agree_drillFollow rfl f u (.refl _ u)) hk
  have e4 : (u.drillFollow f).pair.armed = u.pair.armed := by rw [hd]
  have hw : s.frameAcked f = (u.drillFollow f).psend (.frameAck f.fseq f.baseId) := by
    subst hu
    rfl
  rw [hw]
  refine ⟨h4.keep (agree_psend rfl _ _ (.refl _ _)) (pairKept_psend _ _), ?_, fun hl => psend_sent (h4.linked.trans hl)⟩
  rw [psend_pair]
  exact e4.trans e2

/-- A frame opens a base: it carries the first segment. -/
def opensBase (f : Frame) : Bool := match f.base with | some g => g.idx == 0 | none => false

/-- A frame's effect at a standby. -/
def frameEffect (whole : Bool) (f : Frame) (s : State) : State :=
  if !whole then s.mdPair (fun p => { p with discarded := satAdd 0xFFFF p.discarded 1 })
  else if f.fseq = (s.pair.fseq + 1) % 2 ^ 32 || opensBase f then s.applyFrame f else s.unarm

theorem frameEffect_next {f : Frame} {s : State} (h : f.fseq = (s.pair.fseq + 1) % 2 ^ 32 ∨ opensBase f = true) : s.frameEffect true f = s.applyFrame f := by
  unfold frameEffect
  rw [if_neg (by decide), if_pos (by simpa using h)]

theorem frameEffect_lost {f : Frame} {s : State} (h : f.fseq ≠ (s.pair.fseq + 1) % 2 ^ 32) (h' : opensBase f = false) : s.frameEffect true f = s.unarm := by
  unfold frameEffect
  rw [if_neg (by decide), if_neg (by simpa [h'] using h)]

theorem frameRx_inSeq {h : Hdr} {s : State} (hq : PairInSeq h s) (whole : Bool) (f : Frame) {t : State} (ht : (s.arrive.heardMsg h).bootHeard = t) (hd : t.pair.drv = false)
    (hs : t.pair.standby = true) : s.frameRx h whole f = t.frameEffect whole f := by
  subst ht
  unfold frameRx
  rw [preceive_inSeq (arrive_inSeq hq)]
  dsimp only
  rw [if_neg (by simp [hd, hs])]
  rfl

/-- A frame at a standby, where the end of Boot is no occasion to claim. -/
theorem frameRx_standby {h : Hdr} {s : State} (hq : PairInSeq h s) (hd : s.pair.drv = false) (hs : s.pair.standby = true) (hn : ¬(s.top.state = .boot ∧ s.pair.occ = .boot))
    (whole : Bool) (f : Frame) : ∃ t, s.frameRx h whole f = t.frameEffect whole f ∧ Agree 0x2002001 s t
      ∧ ∃ c b, t.pair = { s.pair with plUp := true, plOpen := true, chan := c, heard := b } := by
  obtain ⟨ha, ⟨c, hp⟩, -, -⟩ := heardMsg_facts h s.arrive
  have ho : ¬((s.arrive.heardMsg h).top.state = .boot ∧ (s.arrive.heardMsg h).pair.occ = .boot) := by
    rw [ha.top rfl, hp]
    exact hn
  obtain ⟨b, hb⟩ := bootHeard_facts ho
  have hpt : (s.arrive.heardMsg h).bootHeard.pair = { s.pair with plUp := true, plOpen := true, chan := c, heard := b } := by
    rw [hb]
    simp only [mdPair, hp]
    rfl
  refine ⟨_, frameRx_inSeq hq whole f rfl (by rw [hpt]; exact hd) (by rw [hpt]; exact hs), ?_, c, b, hpt⟩
  rw [hb]
  exact agree_mdPair rfl _ _ ((agree_arrive rfl s (.refl _ s)).trans (ha.mono rfl))

/-- A frame heard where the end of Boot had been an occasion to claim. -/
theorem bootHeard_standby {s : State} (hs : s.top.state = .boot) (ho : s.pair.occ = .boot) (hd : s.pair.drv = false) :
    s.bootHeard.pair.heard = true ∧ s.bootHeard.pair.standby = true ∧ s.bootHeard.pair.drv = false ∧ s.bootHeard.pair.ready = false := by
  have e : s.bootHeard = (s.mdPair (fun p => { p with heard := true })).becomeStandby := by
    unfold bootHeard
    rw [if_neg (not_not_intro hs)]
    exact if_pos (by simp [mdPair, ho, hd])
  rw [e, becomeStandby, psend_pair]
  exact ⟨rfl, rfl, hd, rfl⟩

/-- A frame in sequence, not the last one. -/
theorem applyFrame_plain {f : Frame} {s : State} (hf : f.final = false) : Framed f s (s.applyFrame f)
    ∧ (s.applyFrame f).pair.armed = ((s.pair.complete || s.pair.given) && f.armed) ∧ (s.pair.plOpen = true → PairSent (.frameAck f.fseq f.baseId) (s.applyFrame f)) := by
  obtain ⟨h1, h2, h3⟩ := s.frameAcked_facts f
  rw [applyFrame_eq, hf, if_neg Bool.false_ne_true, unplan]
  split
  · exact ⟨⟨h1.frame, h1.fseq, h1.drv, h1.standby, h1.heard, h1.linked, fun _ => rfl, h1.state, h1.epoch, h1.levels, h1.strs⟩, h2, h3⟩
  · exact ⟨h1, h2, h3⟩

theorem sharedSet_congr {s t : State} (h : t.bimg = s.bimg) : t.sharedSet = s.sharedSet := by simp only [sharedSet, slotCfg, h]

/-- The levels a mask's lines are driven at. -/
theorem driven_and (a l m : BitVec 64) : ((a &&& ~~~m) ||| (l &&& m)) &&& m = l &&& m := by
  ext i
  simp only [BitVec.getElem_and, BitVec.getElem_or, BitVec.getElem_not]
  cases m[i] <;> simp

/-- The last frame of a handover. -/
theorem applyFrame_final {f : Frame} {s : State} (hf : f.final = true) : (s.applyFrame f).pair.occ = .planned ∧ (s.applyFrame f).pair.ready = true
    ∧ (s.pair.plOpen = true → PairSent (.takeReady f.fseq) (s.applyFrame f)) ∧ (s.applyFrame f).aon.en &&& s.sharedSet = f.shared &&& s.sharedSet
    ∧ (s.applyFrame f).pair.heard = s.pair.heard ∧ (s.applyFrame f).pair.standby = s.pair.standby ∧ (s.applyFrame f).pair.drv = s.pair.drv := by
  obtain ⟨h1, -, -⟩ := s.frameAcked_facts f
  have hb := sharedSet_congr ((agree_applyFrame rfl f s (.refl 0x2220984 s)).bimg rfl)
  rw [applyFrame_eq, hf, if_pos rfl] at hb ⊢
  generalize s.frameAcked f = u at h1 hb ⊢
  have hu : u.sharedSet = s.sharedSet := by
    rw [← hb]
    exact (sharedSet_congr (s := u) ((agree_psend rfl _ (u.driveShared f.shared) (.refl 0x2000000 _)).bimg rfl)).symm
  have ha : ((u.driveShared f.shared).psend (.takeReady f.fseq)).aon = (u.driveShared f.shared).aon := (agree_psend rfl _ _ (.refl 0x2000000 _)).aon rfl
  have hp : ∃ c, ((u.driveShared f.shared).psend (.takeReady f.fseq)).pair = { u.pair with chan := c } := ⟨_, psend_pair ..⟩
  have hs : s.pair.plOpen = true → PairSent (.takeReady f.fseq) ((u.driveShared f.shared).psend (.takeReady f.fseq)) := fun hl =>
    psend_sent (s := u.driveShared f.shared) (h1.linked.trans hl)
  have he : (u.driveShared f.shared).aon.en &&& s.sharedSet = f.shared &&& s.sharedSet := by
    rw [← hu]
    exact driven_and ..
  generalize (u.driveShared f.shared).psend (.takeReady f.fseq) = v at ha hp hs ⊢
  obtain ⟨c, hp⟩ := hp
  exact ⟨rfl, rfl, hs, (congrArg (fun a => a.en &&& s.sharedSet) ha).trans he, (congrArg Pair.heard hp).trans h1.heard,
    (congrArg Pair.standby hp).trans h1.standby, (congrArg Pair.drv hp).trans h1.drv⟩

/-- The role that a frame leaves to a standby that heard it. -/
theorem frameEffect_role (whole : Bool) (f : Frame) (s : State) : (s.frameEffect whole f).pair.heard = s.pair.heard ∧ (s.frameEffect whole f).pair.standby = s.pair.standby
    ∧ (s.frameEffect whole f).pair.drv = s.pair.drv ∧ (f.final = false → s.pair.ready = false → (s.frameEffect whole f).pair.ready = false) := by
  unfold frameEffect
  split
  · exact ⟨rfl, rfl, rfl, fun _ h => h⟩
  · split
    · cases hf : f.final
      · obtain ⟨h, -, -⟩ := applyFrame_plain (s := s) hf
        exact ⟨h.heard, h.standby, h.drv, fun _ => h.ready⟩
      · obtain ⟨-, -, -, -, h⟩ := applyFrame_final (s := s) hf
        exact ⟨h.1, h.2.1, h.2.2, nofun⟩
    · obtain ⟨-, -, h3, h4, h5, -, h7⟩ := pairKept_unarm s
      exact ⟨h5, h4, h3, fun _ => h7⟩

/-! ### The holder's frames -/

theorem sendFrame_facts (final : Bool) (s : State) : (s.sendFrame final).pair.fseq = (s.buildFrame final).fseq ∧ (s.sendFrame final).pair.drv = s.pair.drv
    ∧ (s.pair.plOpen = true → PairSent (.frame (s.buildFrame final)) (s.sendFrame final)) := by
  unfold sendFrame
  extract_lets f seg miss s1
  have h1 : s1.pair.fseq = f.fseq ∧ s1.pair.drv = s.pair.drv ∧ s1.pair.plOpen = s.pair.plOpen := ⟨rfl, rfl, rfl⟩
  clear_value s1
  obtain ⟨e1, e2, e3⟩ := h1
  have h2 := (Agree.forN (n := 64) (f := fun p t => t.mdPp p (fun q => { q with doubt := (rd f.ports p).doubt })) (fun _ _ h => agree_mdPp rfl _ _ _ h) (.refl 0x200000 s1)).pair rfl
  generalize forN 64 _ s1 = v at h2 ⊢
  refine ⟨?_, ?_, fun hl => psend_sent ?_⟩
  · rw [psend_pair]
    exact (congrArg Pair.fseq h2).trans e1
  · rw [psend_pair]
    exact (congrArg Pair.drv h2).trans e2
  · rw [h2, e3]
    exact hl

/-- The holder's part of a boundary: the windows may cease to bind, then the frame goes where there is a partner. -/
theorem frameTurn_eq (s : State) : ∃ a b, s.frameTurn =
    if !s.paired || !s.pair.drv || !s.pair.peer || s.pair.hand = 2 || (s.pair.hand = 1 && s.ringsIdle) then s.mdPair (fun p => { p with win := a, unboundAt := b })
    else (s.mdPair (fun p => { p with win := a, unboundAt := b })).sendFrame false := by
  unfold frameTurn
  extract_lets s1
  have h1 : ∃ a b, s1 = s.mdPair (fun p => { p with win := a, unboundAt := b }) := by
    unfold s1
    split
    · split
      · exact ⟨_, _, rfl⟩
      · exact ⟨_, _, rfl⟩
    · exact ⟨_, _, rfl⟩
  clear_value s1
  obtain ⟨a, b, rfl⟩ := h1
  exact ⟨a, b, rfl⟩

theorem kxNeed_pair (s : State) : ∃ b, s.kxNeed.pair = { s.pair with kxTold := b } := by
  unfold kxNeed
  split
  · split
    · exact ⟨_, rfl⟩
    · exact ⟨true, (agree_setEvt rfl 9 7 _ (.refl 0x100 _)).pair rfl⟩
  · split <;> exact ⟨_, rfl⟩

theorem kxNeed_evtBit_mono {b i : Nat} {s : State} (h : s.evtBit b i = true) : s.kxNeed.evtBit b i = true := by
  unfold kxNeed
  split
  · split
    · exact h
    · exact setEvt_evtBit_mono _ _ _ _ _ (by decide) h
  · split <;> exact h

/-- Of a partner that is not armed no key exchange is needed. -/
theorem kxNeed_unarmed {s : State} (h : s.pair.armed = false) : Agree 0x2000000 s s.kxNeed := by
  unfold kxNeed
  rw [h, Bool.and_false, Bool.false_and, Bool.false_and, Bool.false_and, if_neg Bool.false_ne_true]
  exact .ite (agree_mdPair rfl _ _ (.refl _ s)) (.refl _ s)

/-- A frame that is acknowledged, at the holder. -/
def ackFrame (fseq : Nat) (x : SentF) (s : State) : State := s.mdPair (fun p => { p with
  sent := p.sent.map (fun y => if y.fseq == fseq then { y with acked := true } else y), since := 0
  armedFrames := if x.armed then satAdd 0xFFFF p.armedFrames 1 else 0, armed := x.armed
  win := if x.armed || p.win.isSome then some x.win else none, kxTold := p.kxTold && p.armed })

theorem frameAckRx_inSeq {h : Hdr} {fseq : Nat} {x : SentF} {s : State} (hq : PairInSeq h s) (hd : s.pair.drv = true) (hf : s.pair.sent.find? (fun x => x.fseq == fseq) = some x)
    (ha : x.acked = false) : s.frameAckRx h fseq = (if x.armed && !s.pair.armed then ((s.heardMsg h).ackFrame fseq x).setEvt 9 3 else (s.heardMsg h).ackFrame fseq x).kxNeed := by
  obtain ⟨-, ⟨c, hp⟩, -, -⟩ := heardMsg_facts h s
  unfold frameAckRx
  rw [preceive_inSeq hq]
  generalize s.heardMsg h = u at hp ⊢
  have e1 : u.pair.sent = s.pair.sent := (congrArg Pair.sent hp).trans rfl
  have e2 : u.pair.drv = s.pair.drv := (congrArg Pair.drv hp).trans rfl
  have e3 : u.pair.armed = s.pair.armed := (congrArg Pair.armed hp).trans rfl
  dsimp only
  rw [e1, hf]
  dsimp only
  rw [if_neg (by simp [e2, hd, ha]), e3]
  rfl

/-- What an acknowledged frame leaves at the holder. -/
theorem frameAckRx_facts {h : Hdr} {fseq : Nat} {x : SentF} {s : State} (hq : PairInSeq h s) (hd : s.pair.drv = true) (hf : s.pair.sent.find? (fun x => x.fseq == fseq) = some x)
    (ha : x.acked = false) : (s.frameAckRx h fseq).pair.armed = x.armed ∧ (s.frameAckRx h fseq).pair.win = (if x.armed || s.pair.win.isSome then some x.win else none)
      ∧ (s.frameAckRx h fseq).pair.armedFrames = (if x.armed then satAdd 0xFFFF s.pair.armedFrames 1 else 0) ∧ Agree 0x2002100 s (s.frameAckRx h fseq)
      ∧ (x.armed = true → s.pair.armed = false → (s.frameAckRx h fseq).evtBit 9 3 = true) ∧ (x.armed = false → Agree 0x2002000 s (s.frameAckRx h fseq)) := by
  rw [frameAckRx_inSeq hq hd hf ha]
  obtain ⟨hm, ⟨c, hp⟩, -, -⟩ := heardMsg_facts h s
  generalize s.heardMsg h = u at hm hp ⊢
  generalize hw : (if x.armed && !s.pair.armed then (u.ackFrame fseq x).setEvt 9 3 else u.ackFrame fseq x) = w
  have hv : Agree 0x2002000 s (u.ackFrame fseq x) := agree_mdPair rfl _ u hm
  have hwp : w.pair = (u.ackFrame fseq x).pair ∧ Agree 0x2002100 s w := by
    subst hw
    split
    · exact ⟨(agree_setEvt rfl 9 3 _ (.refl 0x100 _)).pair rfl, agree_setEvt rfl 9 3 _ (hv.mono rfl)⟩
    · exact ⟨rfl, hv.mono rfl⟩
  obtain ⟨e1, e2⟩ := hwp
  obtain ⟨b, hk⟩ := w.kxNeed_pair
  rw [e1] at hk
  refine ⟨(congrArg Pair.armed hk).trans rfl, ?_, ?_, agree_kxNeed rfl w e2, fun h1 h2 => kxNeed_evtBit_mono ?_, fun h1 => ?_⟩
  · rw [hk, ackFrame, mdPair, hp]
  · rw [hk, ackFrame, mdPair, hp]
  · subst hw
    rw [h1, h2]
    exact setEvt_evtBit _ _ _ (by decide) (by decide)
  · have hw' : w = u.ackFrame fseq x := by
      subst hw
      exact if_neg (by simp [h1])
    exact (hw' ▸ hv).trans ((kxNeed_unarmed (by rw [e1]; exact h1)).mono rfl)

/-- TAKE_READY at the giver. -/
def handedOver (s : State) : State :=
  let t1 := s.mdPair (fun p => { p with
    drv := false, standby := true, peer := false, given := true, hand := 0, handDrill := false, win := none, unboundAt := none, sent := [], armed := false
    armedFrames := 0, complete := false, since := 0, handovers := satAdd 0xFFFF p.handovers 1, tkoKind := 3, tkoYielded := false, tkoStamp := s.stamp
    tkoDur := min 0xFFFF ((s.clk.l - p.declL) / 1000), drillSt := if p.drillSt = 1 then 2 else p.drillSt, legs := 0
    dueSet := p.dueSet && p.legs != 2 })
  ({ t1 with aon := if s.pair.legs = 2 then { t1.aon with drillAge := 0 } else t1.aon, pins := { t1.pins with tokenLow := true } } : State).freeShared

theorem handedOver_facts (s : State) : (s.handedOver.pair.drv = false ∧ s.handedOver.pair.standby = true ∧ s.handedOver.pair.hand = 0 ∧ s.handedOver.pair.tkoKind = 3
    ∧ s.handedOver.pair.handovers = satAdd 0xFFFF s.pair.handovers 1) ∧ s.handedOver.aon.rel = s.aon.rel ||| s.aon.shared := by
  refine ⟨⟨rfl, rfl, rfl, rfl, rfl⟩, ?_⟩
  unfold handedOver freeShared
  dsimp only
  split <;> rfl

/-- A giver drops what a port had outstanding. -/
def dropPort (p : Nat) (s : State) : State := s.mdPp p (fun q => { q with copies := [], confirms := [], asked := [], reverts := [] })

theorem dropPorts_dropped (s : State) (p : Fin 64) : ((forL (List.range 64) dropPort s).pp p).copies = [] ∧ ((forL (List.range 64) dropPort s).pp p).confirms = [] := by
  refine forL_at (p := p.val) (A := fun _ => True) (B := fun t => (t.pp p).copies = [] ∧ (t.pp p).confirms = []) List.nodup_range (List.mem_range.mpr p.isLt)
    (fun _ _ _ h => h) (fun t _ => ?_) (fun x hx t h => ?_) (f := dropPort) (l := List.range 64) (s := s) trivial
  · simp only [dropPort, pp, mdPp, rd_md_self _ _ _ p.isLt, and_self]
  · simp only [dropPort, pp, mdPp, rd_md_ne _ _ _ _ hx] at h ⊢
    exact h

theorem takeReadyRx_inSeq {h : Hdr} {s : State} (hq : PairInSeq h s) (hd : s.pair.drv = true) (hh : s.pair.hand = 2) :
    s.takeReadyRx h s.pair.fseq = (forL (List.range 64) dropPort (s.arrive.heardMsg h).handedOver).setEvt 9 4 := by
  obtain ⟨-, ⟨c, hp⟩, -, -⟩ := heardMsg_facts h s.arrive
  unfold takeReadyRx
  rw [preceive_inSeq (arrive_inSeq hq)]
  generalize s.arrive.heardMsg h = u at hp ⊢
  have e1 : u.pair.drv = s.pair.drv := (congrArg Pair.drv hp).trans rfl
  have e2 : u.pair.hand = s.pair.hand := (congrArg Pair.hand hp).trans rfl
  have e3 : u.pair.fseq = s.pair.fseq := (congrArg Pair.fseq hp).trans rfl
  dsimp only
  rw [if_neg (by simp [e1, e2, e3, hd, hh])]
  rfl

theorem legFailed_drv (s : State) : s.legFailed.pair.drv = s.pair.drv := by
  have e (b i c : Nat) (u : State) : ((u.setEvt b i).cmdEnd c).pair = u.pair := (agree_cmdEnd rfl c _ (agree_setEvt rfl b i u (.refl 0x900 u))).pair rfl
  unfold legFailed
  split
  · rfl
  · split
    · rw [e]
      rfl
    · rfl

theorem evtBit_congr {s t : State} (h : t.evt = s.evt) (b i : Nat) : t.evtBit b i = s.evtBit b i := by simp only [evtBit, h]

end State
theorem exec_on {f : State → State} {s : State} (hc : s.ctlOn = true) : Host.Outcome.next (φ := Fault) (ρ := Refusal) (s.onCtl f) = .next (f s) := congrArg Host.Outcome.next (State.onCtl_on s hc)

/-- Settles O40, message by message. -/
theorem pairMessages : Obligations.PairMessages := by
  refine ⟨fun h s hq => ⟨_, exec_on (State.ctlOn_of_inSeq hq), ?_⟩, fun s hm hw hb => ⟨_, exec_on (s := s) ?_, ?_⟩,
    fun h f s hq hd hs hn => ⟨_, exec_on (State.ctlOn_of_inSeq hq), ?_⟩, fun h f s hq hd hs hn hf hfin => ⟨_, exec_on (State.ctlOn_of_inSeq hq), ?_⟩,
    fun h f s hq hd hs hn hf hfin => ⟨_, exec_on (State.ctlOn_of_inSeq hq), ?_⟩, fun h f s hq hd hs hn _ hf hb => ⟨_, exec_on (State.ctlOn_of_inSeq hq), ?_⟩,
    fun h whole f s hq ht ho hd hs => ⟨_, exec_on (State.ctlOn_of_inSeq hq), ?_⟩, fun s hp hd hpe hh hl => ?_, fun s h => ?_,
    fun h fseq x s hq hd hf ha hx => ⟨_, exec_on (State.ctlOn_of_inSeq hq), ?_⟩, fun h fseq x s hq hd hf ha hx hw => ⟨_, exec_on (State.ctlOn_of_inSeq hq), ?_⟩,
    fun h id s hq hd => ⟨_, exec_on (State.ctlOn_of_inSeq hq), ?_⟩, fun h s hq hd hs => ⟨_, exec_on (State.ctlOn_of_inSeq hq), ?_⟩,
    fun s hc hd hh hr hl => ⟨_, exec_on hc, ?_⟩, fun h fseq s hq hd hh hf => ⟨_, exec_on (State.ctlOn_of_inSeq hq), ?_⟩, fun s hc hd hh => ⟨_, exec_on hc, ?_⟩⟩
  · obtain ⟨ha, ⟨c, hp⟩, he, hl⟩ := State.heardMsg_facts h s
    rw [State.aliveRx, State.preceive_inSeq hq]
    exact ⟨(congrArg Pair.plUp hp).trans rfl, he, hl, ha.sameBut rfl⟩
  · have := hm
    simp only [State.pairMsgs, Bool.and_eq_true] at this
    exact this.1.1
  · have e : s.aliveSend = s.mdPair (fun p => { p with chan := p.chan.push .alive }) := if_neg (by simp [hm, hw, hb])
    beta_reduce
    rw [e]
    refine ⟨Chan.push_last .., ?_, (State.agree_mdPair rfl _ s (.refl 0x2000000 s)).sameBut rfl⟩
    simp only [State.mdPair, Chan.push]
    rw [if_pos (by simp [hb, hw])]
    simp only [Chan.put, List.length_append, List.length_singleton]
    omega
  · obtain ⟨t, e, ha, c, b, hp⟩ := State.frameRx_standby hq hd hs hn false f
    rw [e]
    refine ⟨?_, ?_, (State.agree_mdPair rfl _ t ha).sameBut rfl⟩ <;> simp [State.frameEffect, State.mdPair, hp]
  · obtain ⟨t, e, ha, c, b, hp⟩ := State.frameRx_standby hq hd hs hn true f
    have e' : t.frameEffect true f = t.applyFrame f := State.frameEffect_next (.inl (by rw [hf, hp]))
    obtain ⟨hfr, harm, hsent⟩ := State.applyFrame_plain (s := t) hfin
    rw [e, e']
    refine ⟨hfr.frame, hfr.fseq, hfr.state, hfr.epoch, hsent (by rw [hp]), hfr.strs, hfr.levels.trans (congrArg Aon.en (ha.aon rfl)), ?_, ?_⟩
    · rw [hfr.drv, hp]
      exact hd
    · rw [harm, hp]
  · obtain ⟨t, e, ha, c, b, hp⟩ := State.frameRx_standby hq hd hs hn true f
    have e' : t.frameEffect true f = t.applyFrame f := State.frameEffect_next (.inl (by rw [hf, hp]))
    obtain ⟨h1, h2, h3, h4, -⟩ := State.applyFrame_final (s := t) hfin
    rw [State.sharedSet_congr (ha.bimg rfl)] at h4
    rw [e, e']
    exact ⟨h1, h2, h3 (by rw [hp]), h4⟩
  · obtain ⟨t, e, ha, c, b', hp⟩ := State.frameRx_standby hq hd hs hn true f
    have ho : State.opensBase f = false := by
      unfold State.opensBase
      split
      · next g hg => exact beq_false_of_ne (hb g hg)
      · rfl
    have e' : t.frameEffect true f = t.unarm := State.frameEffect_lost (by rw [hp]; exact hf) ho
    rw [e, e']
    refine ⟨(State.pairKept_unarm t).1.trans (by rw [hp]), ?_, ?_, State.psend_sent (by rw [State.mdPair, hp]), (State.agree_unarm rfl t ha).sameBut rfl⟩ <;>
      rw [State.unarm, State.psend_pair] <;> rfl
  · obtain ⟨ha, ⟨c, hp⟩, -, -⟩ := State.heardMsg_facts h s.arrive
    obtain ⟨h1, h2, h3, h4⟩ := State.bootHeard_standby (s := s.arrive.heardMsg h) ((congrArg Top.state (ha.top rfl)).trans ht) ((congrArg Pair.occ hp).trans ho)
      ((congrArg Pair.drv hp).trans hd)
    obtain ⟨r1, r2, r3, r4⟩ := State.frameEffect_role whole f (s.arrive.heardMsg h).bootHeard
    rw [State.frameRx_inSeq hq whole f rfl h3 h2]
    exact ⟨r1.trans h1, r2.trans h2, r3.trans h3, fun hf => r4 hf h4⟩
  · obtain ⟨a, b, e⟩ := s.frameTurn_eq
    rw [if_neg (by simp [hp, hd, hpe, hh])] at e
    obtain ⟨h1, -, h3⟩ := State.sendFrame_facts false (s.mdPair (fun p => { p with win := a, unboundAt := b }))
    have h4 : State.Agree 0x2200000 s ((s.mdPair (fun p => { p with win := a, unboundAt := b })).sendFrame false) :=
      State.agree_sendFrame rfl false _ (State.agree_mdPair rfl _ s (.refl _ s))
    rw [e]
    refine ⟨_, h3 hl, h1, rfl, rfl, rfl, rfl, rfl, rfl, fun p => ?_, h4.sameBut rfl⟩
    have hr : rd ((s.mdPair (fun p => { p with win := a, unboundAt := b })).buildFrame false).ports p = State.framePort (s.mdPair (fun p => { p with win := a, unboundAt := b })) p :=
      rd_tgen _ _ p.isLt
    rw [hr]
    exact ⟨rfl, rfl⟩
  · obtain ⟨a, b, e⟩ := s.frameTurn_eq
    rw [if_pos (by rcases h with h | h | h <;> simp [h])] at e
    rw [e]
    rfl
  · obtain ⟨h1, h2, h3, h4, h5, -⟩ := State.frameAckRx_facts hq hd hf ha
    rw [hx] at h1 h2 h3 h5
    exact ⟨h1, h2, h3, h5 rfl, h4.sameBut rfl⟩
  · obtain ⟨h1, h2, h3, -, -, h6⟩ := State.frameAckRx_facts hq hd hf ha
    rw [hx] at h1 h2 h3 h6
    rw [hw] at h2
    exact ⟨h1, h2, h3, (h6 rfl).sameBut rfl⟩
  · obtain ⟨hm, ⟨c, hp⟩, -, -⟩ := State.heardMsg_facts h s
    have e : s.joinRx h id = (s.heardMsg h).mdPair (fun p => { p with
        peer := true, peerId := some id, baseOn := true, baseId := (p.baseId + 1) % 2 ^ 32, baseDone := 0, baseTotal := 0, baseKey := none
        complete := false, armed := false, armedFrames := 0, given := false, sent := if p.peer then p.sent else [], map := if p.peer then p.map else (s.heardMsg h).stagedMap }) := by
      unfold State.joinRx
      rw [State.preceive_inSeq hq]
      exact if_neg (by rw [hp]; simp [hd])
    rw [e]
    exact ⟨rfl, rfl, rfl, by rw [State.mdPair, hp], rfl, rfl, (State.agree_mdPair rfl _ _ hm).sameBut rfl⟩
  · obtain ⟨hm, ⟨c, hp⟩, -, -⟩ := State.heardMsg_facts h s.arrive
    have e : s.yieldRx h = ((s.arrive.heardMsg h).legFailed.mdPair (fun p => { p with
        occ := .yield, ready := true, sampling := false, yielded := true, declL := (s.arrive.heardMsg h).clk.l })).setEvt 9 1 := by
      unfold State.yieldRx
      rw [State.preceive_inSeq (State.arrive_inSeq hq)]
      exact if_neg (by rw [hp]; simp [State.arrive, hd, hs])
    have ha : State.Agree 0x2002901 s (s.arrive.heardMsg h) := (State.agree_arrive rfl s (.refl _ s)).trans (hm.mono rfl)
    have hev : ∀ u : State, (u.setEvt 9 1).pair = u.pair := fun u => (State.agree_setEvt rfl 9 1 u (.refl 0x100 u)).pair rfl
    rw [e, hev]
    exact ⟨rfl, rfl, State.setEvt_evtBit _ _ _ (by decide) (by decide), (State.agree_setEvt rfl _ _ _ (State.agree_mdPair rfl _ _ (State.agree_legFailed rfl _ ha))).sameBut rfl⟩
  · obtain ⟨h1, h2, h3⟩ := State.sendFrame_facts true s
    have e : s.finalFrame = (s.sendFrame true).mdPair (fun p => { p with hand := 2, declL := s.clk.l }) := if_pos (by simp [hd, hh, hr])
    rw [e]
    exact ⟨rfl, h2.trans hd, ⟨_, rfl, h1.symm, h3 hl⟩, (State.agree_mdPair rfl _ _ (State.agree_sendFrame rfl true s (.refl 0x2200000 s))).sameBut rfl⟩
  · obtain ⟨hm, ⟨c, hp⟩, -, -⟩ := State.heardMsg_facts h s.arrive
    obtain ⟨⟨h1, h2, h3, h4, h5⟩, h6⟩ := (s.arrive.heardMsg h).handedOver_facts
    rw [hf, State.takeReadyRx_inSeq hq hd hh]
    have hl : State.Agree 0x200100 (s.arrive.heardMsg h).handedOver ((forL (List.range 64) State.dropPort (s.arrive.heardMsg h).handedOver).setEvt 9 4) :=
      State.agree_setEvt rfl _ _ _ (.forL (fun _ _ h => State.agree_mdPp rfl _ _ _ h) (.refl _ _))
    have hst : ((forL (List.range 64) State.dropPort (s.arrive.heardMsg h).handedOver).setEvt 9 4).stage = (forL (List.range 64) State.dropPort (s.arrive.heardMsg h).handedOver).stage :=
      (State.agree_setEvt rfl 9 4 _ (.refl 0x100 _)).stage rfl
    refine ⟨?_, ?_, ?_, ?_, ?_, State.setEvt_evtBit _ _ _ (by decide) (by decide), ?_, fun p => ?_⟩
    · rw [hl.pair rfl, h1]
    · rw [hl.pair rfl, h2]
    · rw [hl.pair rfl, h3]
    · rw [hl.pair rfl, h4]
    · rw [hl.pair rfl, h5, hp]
      rfl
    · rw [hl.aon rfl, h6, hm.aon rfl]
      rfl
    · simp only [State.pp, hst]
      exact State.dropPorts_dropped _ p
  · have e : s.takeReadyTimeout = forL (idxs 64 (fun p => ((((s.legFailed.mdPair (fun p => { p with hand := 0, handDrill := false })).raiseTurn 128 0xFFFF).setEvt 9 4).pump.rt p).out == 6))
        State.stepRestore (((s.legFailed.mdPair (fun p => { p with hand := 0, handDrill := false })).raiseTurn 128 0xFFFF).setEvt 9 4).pump := if_pos (by simp [hd, hh])
    beta_reduce
    rw [e]
    generalize hv : s.legFailed.mdPair (fun p => { p with hand := 0, handDrill := false }) = v
    have hv1 : v.pair.drv = true ∧ v.pair.hand = 0 := by
      subst hv
      exact ⟨(s.legFailed_drv).trans hd, rfl⟩
    have h1 : State.Agree 0x940001 ((v.raiseTurn 128 0xFFFF).setEvt 9 4) (forL (idxs 64 (fun p => (((v.raiseTurn 128 0xFFFF).setEvt 9 4).pump.rt p).out == 6)) State.stepRestore
        ((v.raiseTurn 128 0xFFFF).setEvt 9 4).pump) := .forL (fun _ _ h => State.agree_stepRestore rfl _ _ h) (State.agree_pump rfl _ (.refl _ _))
    have h2 : State.Agree 0x2100 v ((v.raiseTurn 128 0xFFFF).setEvt 9 4) := State.agree_setEvt rfl _ _ _ (State.agree_raiseTurn rfl _ _ _ (.refl _ v))
    have h3 : ((v.raiseTurn 128 0xFFFF).setEvt 9 4).flt = (v.raiseTurn 128 0xFFFF).flt := (State.agree_setEvt rfl 9 4 _ (.refl 0x100 _)).flt rfl
    refine ⟨?_, ?_, ?_, ?_⟩
    · rw [h1.pair rfl, h2.pair rfl]
      exact hv1.1
    · rw [h1.pair rfl, h2.pair rfl]
      exact hv1.2
    · rw [State.subLive_congr ((h1.flt rfl).trans h3)]
      exact State.raiseTurn_live ..
    · rw [State.evtBit_congr (h1.evt rfl)]
      exact State.setEvt_evtBit _ _ _ (by decide) (by decide)

end Sys2Proof.Machine
end

section
/-! PROOFS. Fabric ports, forwarding, addresses, link states and routes (R352 to R360). -/
set_option Elab.async false

namespace Sys2Proof.Machine
namespace State

/-! ### The fabric's ports -/

theorem onFab_runs {f : State → State} {s : State} (h : s.fabRuns = true) : s.onFab f = f s := if_pos h

/-- Nothing but the fabric ports' records has changed. -/
def PortsOnly (s t : State) : Prop := ∃ p, t = { s with fab := { s.fab with ports := p } }

theorem PortsOnly.rfl {s : State} : PortsOnly s s := ⟨_, Eq.refl _⟩

theorem PortsOnly.trans {s t u : State} (h : PortsOnly s t) (h' : PortsOnly t u) : PortsOnly s u := by
  obtain ⟨p, rfl⟩ := h
  obtain ⟨q, rfl⟩ := h'
  exact ⟨q, Eq.refl _⟩

theorem PortsOnly.agree {s t : State} (h : PortsOnly s t) : Agree 0x1000000 s t := by
  obtain ⟨p, rfl⟩ := h
  exact agree_mdFab (Eq.refl _) (fun v => { v with ports := p }) s (.refl _ s)

theorem portsOnly_mdFport (i : Nat) (f : FabPort → FabPort) (s : State) : PortsOnly s (s.mdFport i f) := ⟨_, Eq.refl _⟩

theorem mdFport_same {i : Nat} (hi : i < 4) (f : FabPort → FabPort) (s : State) : (s.mdFport i f).fport i = f (s.fport i) := rd_md_self _ _ _ hi

theorem mdFport_other {i j : Nat} (h : i ≠ j) (f : FabPort → FabPort) (s : State) : (s.mdFport i f).fport j = s.fport j := rd_md_ne _ _ _ _ h

theorem portsOnly_fsend (i : Nat) (m : FMsg) (s : State) : PortsOnly s (s.fsend i m) := by
  unfold fsend
  split
  · exact portsOnly_mdFport ..
  · exact .rfl

theorem fsend_other {i j : Nat} (h : i ≠ j) (m : FMsg) (s : State) : (s.fsend i m).fport j = s.fport j := by
  unfold fsend
  split
  · exact mdFport_other h ..
  · rfl

/-- A message sent on a port that carries messages is kept for replay, or waits. -/
theorem fsend_sent {i : Nat} (hi : i < 4) {m : FMsg} {s : State} (h : (s.fport i).st = 2 ∨ (s.fport i).st = 3) : FabSent i m (s.fsend i m) := by
  have hc : (2 ≤ (s.fport i).st && (s.fport i).st ≤ 3) = true := by rcases h with h | h <;> simp [h]
  unfold fsend FabSent
  rw [if_pos hc, mdFport_same hi]
  dsimp only
  unfold Chan.push
  split
  · next h =>
    simp only [Bool.and_eq_true, List.isEmpty_iff] at h
    rw [if_pos (by simp [Chan.put, h.2])]
    exact ⟨_, List.getLast?_concat⟩
  · rw [if_neg (by simp [Chan.hold, ← List.length_eq_zero_iff])]
    simp [Chan.hold]

theorem fabSent_congr {i : Nat} {m : FMsg} {s t : State} (h : t.fport i = s.fport i) : FabSent i m t ↔ FabSent i m s := by simp only [FabSent, h]

/-- Each port of a list is given its message. -/
theorem forL_fsend_sent {l : List Nat} (hl : l.Nodup) {k : Nat} (hk : k ∈ l) (hk4 : k < 4) (msg : Nat → State → FMsg) {s : State} (h : (s.fport k).st = 2 ∨ (s.fport k).st = 3)
    {m : FMsg} (hm : ∀ t, PortsOnly s t → t.fport k = s.fport k → msg k t = m) : FabSent k m (forL l (fun i t => t.fsend i (msg i t)) s) := by
  refine forL_at (A := fun t => PortsOnly s t ∧ t.fport k = s.fport k) (B := fun t => FabSent k m t) hl hk ?_ ?_ ?_ ⟨.rfl, rfl⟩
  · rintro x hx t ⟨h1, h2⟩
    exact ⟨h1.trans (portsOnly_fsend ..), (fsend_other hx ..).trans h2⟩
  · rintro t ⟨h1, h2⟩
    rw [← hm t h1 h2]
    exact fsend_sent hk4 (by rw [h2]; exact h)
  · intro x hx t ht
    exact (fabSent_congr (fsend_other hx ..)).mpr ht

theorem portsOnly_forL_fsend (l : List Nat) (msg : Nat → State → FMsg) (s : State) : PortsOnly s (forL l (fun i t => t.fsend i (msg i t)) s) :=
  forL_keeps (P := PortsOnly s) (fun _ _ h => h.trans (portsOnly_fsend ..)) l .rfl

theorem forL_fsend_other {l : List Nat} {k : Nat} (hk : k ∉ l) (msg : Nat → State → FMsg) (s : State) : (forL l (fun i t => t.fsend i (msg i t)) s).fport k = s.fport k :=
  forL_keeps_mem (P := fun t => t.fport k = s.fport k) (fun _ hx _ h => (fsend_other (fun (e : _ = k) => hk (e ▸ hx)) ..).trans h) rfl

/-! ### A message taken on a port -/

/-- A frame's header is taken at a port: what it acknowledges goes, and its own is accepted. -/
def fabTaken (i : Nat) (h : Hdr) (s : State) : State :=
  (if h.ackV then s.mdFport i (fun p => { p with chan := (p.chan.ack h.ack.toNat).refill }) else s).mdFport i (fun p => { p with chan := p.chan.accept })

/-- What a taken header leaves: the port's record but for its channel, and every other port. -/
theorem fabTaken_facts {i : Nat} (hi : i < 4) (h : Hdr) (s : State) : PortsOnly s (s.fabTaken i h)
    ∧ (∃ c, (s.fabTaken i h).fport i = { s.fport i with chan := c } ∧ c.expect = ((s.fport i).chan.expect + 1) % 4096) ∧ ∀ j, j ≠ i → (s.fabTaken i h).fport j = s.fport j := by
  unfold fabTaken
  split
  · refine ⟨(portsOnly_mdFport ..).trans (portsOnly_mdFport ..), ⟨((s.fport i).chan.ack h.ack.toNat).refill.accept, ?_, ?_⟩, fun j hj => ?_⟩
    · rw [mdFport_same hi, mdFport_same hi]
    · exact congrArg (fun n => (n + 1) % 4096) ((Chan.refill_expect _).trans (Chan.ack_expect ..))
    · rw [mdFport_other (Ne.symm hj), mdFport_other (Ne.symm hj)]
  · refine ⟨portsOnly_mdFport .., ⟨_, mdFport_same hi .., rfl⟩, fun j hj => mdFport_other (Ne.symm hj) ..⟩

theorem freceive_inSeq {i : Nat} (hi : i < 4) {h : Hdr} {s : State} (hq : FabInSeq i h s) (f : State → State) : s.freceive i h f = f (s.fabTaken i h) := by
  obtain ⟨-, h2, h3, hok, he⟩ := hq
  have e : ((if h.ackV then s.mdFport i (fun p => { p with chan := (p.chan.ack h.ack.toNat).refill }) else s).fport i).chan.expect = (s.fport i).chan.expect := by
    split
    · rw [mdFport_same hi]
      exact (Chan.refill_expect _).trans (Chan.ack_expect ..)
    · rfl
  unfold freceive fabTaken
  dsimp only
  rw [if_neg (by simp [h2, h3]), if_neg (by rw [e]; exact not_not_intro he), if_pos hok]

/-! ### Training -/

theorem fabSource_live {i : Nat} {s : State} (hc : s.ctlOn = true) : (s.fabSource i).subLive (130 + i) 0xFFFF = (s.fabOn i && (s.fport i).st == 4) := by
  unfold fabSource
  rw [if_pos hc]
  exact follow_live ..

/-- A port's record as its training starts. -/
def trainPort (on : Bool) (p : FabPort) : FabPort :=
  { p with st := if on then 1 else 0, heard := false, nbr := 0, chan := p.chan.clear, retrains := if on then satAdd 0xFFF p.retrains 1 else p.retrains }

theorem fabTrain_facts {i : Nat} (hi : i < 4) (s : State) : (s.fabTrain i).fport i = trainPort (s.fabOn i) (s.fport i)
    ∧ (s.ctlOn = true → (s.fabTrain i).subLive (130 + i) 0xFFFF = false)
    ∧ ((s.fport i).st = 3 → (s.fabTrain i).evtBit 10 0 = true ∧ (s.fabTrain i).fab.relsa = true) ∧ ((s.fport i).st ≠ 3 → Agree 0x1002000 s (s.fabTrain i)) := by
  unfold fabTrain
  extract_lets up s1 s2
  have hp1 : s1.fport i = trainPort (s.fabOn i) (s.fport i) := mdFport_same hi ..
  have hr : s2.fport i = s1.fport i ∧ Agree 0x1000100 s s2 := by
    unfold s2
    split
    · refine ⟨?_, agree_setEvt rfl _ _ _ (agree_mdFab rfl _ _ (portsOnly_mdFport ..).agree |>.mono rfl)⟩
      have e := (agree_setEvt rfl 10 0 (s1.mdFab (fun v => { v with relsa := true })) (.refl 0x100 _)).fab rfl
      simp only [fport, e]
      rfl
    · exact ⟨rfl, (portsOnly_mdFport ..).agree.mono rfl⟩
  obtain ⟨hp2, ha2⟩ := hr
  have hf : Agree 0x2000 s2 (s2.fabSource i) := agree_fabSource rfl i s2 (.refl _ s2)
  have hc2 : s2.ctlOn = s.ctlOn := by simp only [ctlOn, ctlUp, ha2.top rfl, ha2.pins rfl]
  have ho2 : s2.fabOn i = s.fabOn i := by simp only [fabOn, ctrlBit, ha2.ctrl rfl]
  refine ⟨?_, fun hc => ?_, fun h3 => ?_, fun h3 => ?_⟩
  · simp only [fport, hf.fab rfl]
    exact hp2.trans hp1
  · rw [fabSource_live (hc2.trans hc), hp2, hp1, ho2, trainPort]
    cases s.fabOn i <;> rfl
  · have hu : up = true := beq_iff_eq.mpr h3
    have e2 : s2 = (s1.mdFab (fun v => { v with relsa := true })).setEvt 10 0 := if_pos hu
    rw [evtBit_congr (hf.evt rfl), hf.fab rfl, e2, (agree_setEvt rfl 10 0 _ (.refl 0x100 _)).fab rfl]
    exact ⟨setEvt_evtBit _ _ _ (by decide) (by decide), rfl⟩
  · have hu : up = false := beq_false_of_ne h3
    have e2 : s2 = s1 := if_neg (by simp [hu])
    have h1 : Agree 0x1002000 s s2 := e2 ▸ (portsOnly_mdFport ..).agree.mono rfl
    exact h1.trans (hf.mono rfl)

/-! ### Flooding, the database and the routes -/

theorem nodeAddr_portsOnly {s t : State} (h : PortsOnly s t) : t.nodeAddr = s.nodeAddr := by
  obtain ⟨p, rfl⟩ := h
  rfl

theorem nodup_idxs (n : Nat) (p : Nat → Bool) : (idxs n p).Nodup := List.nodup_range.filter _

/-- An LSA is flooded on the ports in UP, but for one. -/
theorem flood_facts (m : Lsa) (but : Option Nat) (s : State) : PortsOnly s (s.flood m but)
    ∧ (∀ k : Fin 4, (s.fport k).st = 3 → some k.val ≠ but → FabSent k { dst := 0xFFF, src := s.nodeAddr, prio := 2, body := .lsa m } (s.flood m but))
    ∧ ∀ k, some k = but → (s.flood m but).fport k = s.fport k := by
  refine ⟨portsOnly_forL_fsend .., fun k hk hb => ?_, fun k hb => ?_⟩
  · refine forL_fsend_sent (msg := fun _ t => { dst := 0xFFF, src := t.nodeAddr, prio := 2, body := .lsa m }) ((nodup_idxs ..).filter _) ?_ k.isLt (.inr hk) fun t ht _ => ?_
    · simp [idxs, hk, hb]
    · rw [nodeAddr_portsOnly ht]
  · exact forL_fsend_other (by simp [hb]) ..

/-- An LSA whose origin the database does not hold is put at its end where there is room. -/
theorem storeLsa_new {m : Lsa} {s : State} (ha : m.age ≠ 255) (hn : ∀ e ∈ s.fab.db, e.addr = m.addr → e.id ≠ m.id) (hl : s.fab.db.length < 4096) :
    s.storeLsa m = s.mdFab (fun v => { v with db := s.fab.db ++ [m], dirty := true }) := by
  have hf : s.fab.db.filter (fun e => !Lsa.origin m e) = s.fab.db := by
    rw [List.filter_eq_self]
    intro e he
    simp only [Lsa.origin, Bool.not_eq_true', Bool.and_eq_false_iff, beq_eq_false_iff_ne]
    by_cases h : e.addr = m.addr
    · exact .inr (hn e he h)
    · exact .inl h
  unfold storeLsa
  rw [hf]
  dsimp only
  rw [if_neg ha, if_neg (Nat.not_le.mpr hl)]

/-- Storing an LSA touches the database alone. -/
theorem storeLsa_db (m : Lsa) (s : State) : ∃ d b, s.storeLsa m = s.mdFab (fun v => { v with db := d, dirty := b }) := by
  unfold storeLsa
  extract_lets db
  split
  · exact ⟨_, _, rfl⟩
  · split
    · exact ⟨_, _, rfl⟩
    · exact ⟨_, _, rfl⟩

theorem lsaNewer_unknown {db : List Lsa} {m : Lsa} (ha : m.age ≠ 255) (hn : ∀ e ∈ db, e.addr = m.addr → e.id ≠ m.id) : lsaNewer db m = true := by
  have hf : db.find? (Lsa.origin m) = none := by
    rw [List.find?_eq_none]
    intro e he h
    simp only [Lsa.origin, Bool.and_eq_true, beq_iff_eq] at h
    exact hn e he h.1 h.2
  unfold lsaNewer
  rw [hf]
  exact bne_iff_ne.mpr ha

theorem setSync_db (a b : Bool) (s : State) : (s.setSync a b).fab.routes = s.fab.routes ∧ (s.setSync a b).fab.dirty = s.fab.dirty ∧ (s.setSync a b).fab.db = s.fab.db := by
  unfold setSync
  extract_lets s1
  split
  · rw [(agree_setEvt rfl 10 2 s1 (.refl 0x100 s1)).fab rfl]
    exact ⟨rfl, rfl, rfl⟩
  · exact ⟨rfl, rfl, rfl⟩

/-- Who is root and parent changes neither the routes nor the database. -/
theorem judgeRoot_db (s : State) : s.judgeRoot.fab.routes = s.fab.routes ∧ s.judgeRoot.fab.dirty = s.fab.dirty ∧ s.judgeRoot.fab.db = s.fab.db := by
  unfold judgeRoot
  split
  · exact ⟨rfl, rfl, rfl⟩
  · extract_lets r par me at_ change s1
    have h1 : s1.fab.routes = s.fab.routes ∧ s1.fab.dirty = s.fab.dirty ∧ s1.fab.db = s.fab.db := ⟨rfl, rfl, rfl⟩
    clear_value s1
    obtain ⟨e1, e2, e3⟩ := h1
    split
    · obtain ⟨f1, f2, f3⟩ := setSync_db true s1.fab.pps s1
      exact ⟨f1.trans e1, f2.trans e2, f3.trans e3⟩
    · split
      · obtain ⟨f1, f2, f3⟩ := setSync_db false false (s1.mdFab (fun v => { v with bad := 0, good := 0 }))
        exact ⟨f1.trans e1, f2.trans e2, f3.trans e3⟩
      · obtain ⟨f1, f2, f3⟩ := setSync_db s1.fab.synced s1.rootPps s1
        exact ⟨f1.trans e1, f2.trans e2, f3.trans e3⟩

/-- The addresses are tried in a cycle: each of 1 to 0xFFE is a candidate. -/
theorem mem_candidates {a0 a : Nat} (h0 : a0 < 4094) : a ∈ (List.range 4094).map (fun k => 1 + (a0 + k) % 4094) ↔ 1 ≤ a ∧ a ≤ 0xFFE := by
  rw [List.mem_map]
  constructor
  · rintro ⟨k, -, rfl⟩
    have := Nat.mod_lt (a0 + k) (by decide : 0 < 4094)
    omega
  · rintro ⟨h1, h2⟩
    refine ⟨(a - 1 + 4094 - a0) % 4094, List.mem_range.mpr (Nat.mod_lt _ (by decide)), ?_⟩
    omega

/-- An address that no other identity holds. -/
def AddrFree (s : State) (a : Nat) : Prop := 1 ≤ a ∧ a ≤ 0xFFE ∧ ∀ e ∈ s.fab.db, e.addr = a → e.id = Config.identity

theorem addrDiscover_free {s : State} (hs : s.nodeStatic = false) (ha : s.aon.fabAddr = 0 ∨ s.fab.loser = true) (hf : ∃ a, s.AddrFree a) :
    ∃ a, s.AddrFree a ∧ s.addrDiscover = { s with aon := { s.aon with fabAddr := a }, fab := { s.fab with loser := false, relsa := true } } := by
  have h0 : (crc32c (leBytes 8 Config.identity.toNat)).toNat % 4094 < 4094 := Nat.mod_lt _ (by decide)
  have hfree (a : Nat) : (!s.fab.db.any (fun e => e.addr == a && e.id != Config.identity)) = true ↔ ∀ e ∈ s.fab.db, e.addr = a → e.id = Config.identity := by
    simp only [Bool.not_eq_true', List.any_eq_false, Bool.and_eq_true, beq_iff_eq, bne_iff_ne, not_and, ne_eq, Decidable.not_not]
  unfold addrDiscover
  rw [if_neg (by rcases ha with h | h <;> simp [hs, h])]
  extract_lets a0 free
  cases h : ((List.range 4094).map (fun k => 1 + (a0 + k) % 4094)).find? free with
  | none =>
    obtain ⟨a, h1, h2, h3⟩ := hf
    exact absurd ((hfree a).mpr h3) (List.find?_eq_none.mp h a ((mem_candidates h0).mpr ⟨h1, h2⟩))
  | some a =>
    have h3 : free a = true := List.find?_some h
    obtain ⟨h1, h2⟩ := (mem_candidates h0).mp (List.mem_of_find?_eq_some h)
    exact ⟨a, ⟨h1, h2, (hfree a).mp h3⟩, rfl⟩

/-- The HELLO of a port. -/
def helloMsg (i : Nat) (s : State) : FMsg :=
  { dst := 0xFFF, src := s.nodeAddr, prio := 0, body := .hello Config.identity s.nodeAddr s.nodeStatic (s.fport i).heard (bitOf s.fab.cfg.fec i) i (rd s.fab.cfg.cost i) }

theorem helloSend_eq (s : State) : s.helloSend = forL (List.range 4) (fun i t => t.fsend i (helloMsg i t)) s := rfl

theorem helloMsg_portsOnly {i : Nat} {s t : State} (ht : PortsOnly s t) (hp : t.fport i = s.fport i) : helloMsg i t = helloMsg i s := by
  unfold helloMsg
  rw [hp]
  obtain ⟨p, rfl⟩ := ht
  rfl

/-- The ports of a list that are in HELLO or UP are sent this node's HELLO. -/
theorem forL_hello {l : List Nat} (hl : l.Nodup) (s : State) : PortsOnly s (forL l (fun i t => t.fsend i (helloMsg i t)) s)
    ∧ ∀ i < 4, i ∈ l → (s.fport i).st = 2 ∨ (s.fport i).st = 3 → FabSent i (helloMsg i s) (forL l (fun i t => t.fsend i (helloMsg i t)) s) :=
  ⟨portsOnly_forL_fsend .., fun _ hi hm h => forL_fsend_sent hl hm hi helloMsg h fun _ ht hp => helloMsg_portsOnly ht hp⟩

/-- A HELLO received on a port in HELLO. -/
theorem helloRx_facts {i : Nat} (hi : i < 4) {h : Hdr} (addr cost : Nat) (seen : Bool) {s : State} (hq : FabInSeq i h s) (hs : (s.fport i).st = 2) :
    ∃ t, s.helloRx i h addr cost seen = (if seen then t.setEvt 10 0 else t) ∧ (t.fport i).st = (if seen then 3 else 2) ∧ (t.fport i).heard = true ∧ (t.fport i).nbr = addr
      ∧ (t.fport i).cost = max (rd s.fab.cfg.cost i) cost ∧ (seen = true → (t.fport i).fails = 0 ∧ t.fab.relsa = true) := by
  obtain ⟨⟨p, hp⟩, ⟨c, hc, -⟩, -⟩ := fabTaken_facts hi h s
  have hcost : (s.fabTaken i h).fab.cfg = s.fab.cfg := by rw [hp]
  have hst : ((s.fabTaken i h).fport i).st = 2 := by rw [hc]; exact hs
  unfold helloRx
  rw [freceive_inSeq hi hq]
  generalize s.fabTaken i h = u at hcost hst ⊢
  dsimp only
  rw [hst]
  cases seen
  · refine ⟨u.mdFport i (fun p => { p with heard := true, nbr := addr, far := cost, cost := max (rd u.fab.cfg.cost i) cost }), rfl, ?_⟩
    rw [mdFport_same hi, ← hcost]
    exact ⟨hst, rfl, rfl, rfl, nofun⟩
  · refine ⟨((u.mdFport i (fun p => { p with heard := true, nbr := addr, far := cost, cost := max (rd u.fab.cfg.cost i) cost })).mdFport i
      (fun p => { p with st := 3, fails := 0 })).mdFab (fun v => { v with relsa := true }), rfl, ?_⟩
    have hf : (((u.mdFport i (fun p => { p with heard := true, nbr := addr, far := cost, cost := max (rd u.fab.cfg.cost i) cost })).mdFport i
      (fun p => { p with st := 3, fails := 0 })).mdFab (fun v => { v with relsa := true })).fport i
        = { u.fport i with heard := true, nbr := addr, far := cost, cost := max (rd u.fab.cfg.cost i) cost, st := 3, fails := 0 } := by
      refine (mdFport_same hi (fun p => { p with st := 3, fails := 0 }) _).trans ?_
      rw [mdFport_same hi]
    rw [hf, ← hcost]
    exact ⟨rfl, rfl, rfl, rfl, fun _ => ⟨rfl, rfl⟩⟩

/-- What a received LSA's storing and flooding leave, for an LSA that holds no address of this node under another identity. -/
theorem lsaRx_eq {i : Nat} (hi : i < 4) {h : Hdr} {m : Lsa} {s : State} (hq : FabInSeq i h s) (h1 : 1 ≤ m.addr) (h2 : m.addr ≤ 0xFFE)
    (hid : m.id = Config.identity ∨ m.addr ≠ s.nodeAddr) {u : State}
    (hu : u = if !lsaNewer s.fab.db m then s.fabTaken i h else if s.fab.isolated then (s.fabTaken i h).storeLsa m else ((s.fabTaken i h).storeLsa m).flood m (some i)) :
    s.lsaRx i h m = if m.id = Config.identity && lsaNewer s.fab.db m && aseqNewer m.aseq s.fab.aseq then u.mdFab (fun v => { v with aseq := m.aseq, relsa := true }) else u := by
  obtain ⟨hpo, -, -⟩ := fabTaken_facts hi h s
  have hn := nodeAddr_portsOnly hpo
  have hfab : (s.fabTaken i h).fab.db = s.fab.db ∧ (s.fabTaken i h).fab.isolated = s.fab.isolated ∧ (s.fabTaken i h).fab.aseq = s.fab.aseq := by
    obtain ⟨p, hp⟩ := hpo
    rw [hp]
    exact ⟨rfl, rfl, rfl⟩
  obtain ⟨e1, e2, e3⟩ := hfab
  unfold lsaRx
  rw [freceive_inSeq hi hq, if_neg (by simp only [Bool.or_eq_true, decide_eq_true_eq]; omega)]
  dsimp only
  rw [e1, e2, e3, ← hu]
  by_cases hm : m.id = Config.identity
  · rw [if_pos hm, hm]
    simp only [decide_true, Bool.true_and]
  · rw [if_neg hm, if_pos (by rw [hn]; exact hid.resolve_left hm), if_neg (by simp [hm])]

/-- An LSA's storing, and its flooding where this node takes part. -/
def lsaKept (i : Nat) (m : Lsa) (s : State) : State := if s.fab.isolated then s.storeLsa m else (s.storeLsa m).flood m (some i)

theorem lsaKept_facts {i : Nat} {m : Lsa} {s : State} (hage : m.age ≠ 255) (hdb : ∀ e ∈ s.fab.db, e.addr = m.addr → e.id ≠ m.id) (hl : s.fab.db.length < 4096) :
    (s.lsaKept i m).fab.db = s.fab.db ++ [m] ∧ (s.lsaKept i m).fab.dirty = true
      ∧ (s.fab.isolated = false → ∀ k : Fin 4, k.val ≠ i → (s.fport k).st = 3 → FabSent k { dst := 0xFFF, src := s.nodeAddr, prio := 2, body := .lsa m } (s.lsaKept i m))
      ∧ (s.fab.isolated = true → ∀ k, (s.lsaKept i m).fport k = s.fport k) ∧ Agree 0x1000000 s (s.lsaKept i m) := by
  have hst := storeLsa_new hage hdb hl
  have hv : (s.storeLsa m).fab.db = s.fab.db ++ [m] ∧ (s.storeLsa m).fab.dirty = true ∧ (∀ k, (s.storeLsa m).fport k = s.fport k) ∧ (s.storeLsa m).nodeAddr = s.nodeAddr
      ∧ Agree 0x1000000 s (s.storeLsa m) := by
    rw [hst]
    exact ⟨rfl, rfl, fun _ => rfl, rfl, agree_mdFab rfl _ s (.refl _ s)⟩
  obtain ⟨h1, h2, h3, h4, h5⟩ := hv
  unfold lsaKept
  cases hi : s.fab.isolated
  · obtain ⟨hpo, hsent, -⟩ := flood_facts m (some i) (s.storeLsa m)
    have hfab : ((s.storeLsa m).flood m (some i)).fab.db = (s.storeLsa m).fab.db ∧ ((s.storeLsa m).flood m (some i)).fab.dirty = (s.storeLsa m).fab.dirty := by
      obtain ⟨p, hp⟩ := hpo
      rw [hp]
      exact ⟨rfl, rfl⟩
    rw [if_neg Bool.false_ne_true]
    refine ⟨hfab.1.trans h1, hfab.2.trans h2, fun _ k hk h => ?_, nofun, h5.trans hpo.agree⟩
    rw [← h4]
    exact hsent k (by rw [h3]; exact h) fun e => hk (Option.some.inj e)
  · rw [if_pos rfl]
    exact ⟨h1, h2, nofun, fun _ => h3, h5⟩

/-- This node's LSA is put into the database and flooded. -/
theorem lsaOriginate_facts {s : State} (hn : s.nodeAddr ≠ 0) (hi : s.fab.isolated = false) (hl : s.fab.loser = false) :
    s.lsaOriginate.fab.aseq = (s.fab.aseq + 1) % 2 ^ 32 ∧ s.lsaOriginate.fab.relsa = false ∧ Agree 0x1000000 s s.lsaOriginate
      ∧ ∃ m, (m.id = Config.identity ∧ m.addr = s.nodeAddr ∧ m.aseq = (s.fab.aseq + 1) % 2 ^ 32 ∧ m.age = 0)
        ∧ ∀ k : Fin 4, (s.fport k).st = 3 → FabSent k { dst := 0xFFF, src := s.nodeAddr, prio := 2, body := .lsa m } s.lsaOriginate := by
  unfold lsaOriginate
  rw [if_neg (by simp [hn, hi, hl])]
  extract_lets s1
  have h1 : s1.fab.aseq = (s.fab.aseq + 1) % 2 ^ 32 ∧ s1.fab.relsa = false ∧ (∀ k, s1.fport k = s.fport k) ∧ s1.nodeAddr = s.nodeAddr ∧ Agree 0x1000000 s s1 :=
    ⟨rfl, rfl, fun _ => rfl, rfl, agree_mdFab rfl _ s (.refl _ s)⟩
  have hm : s1.ownLsa.id = Config.identity ∧ s1.ownLsa.addr = s1.nodeAddr ∧ s1.ownLsa.aseq = s1.fab.aseq ∧ s1.ownLsa.age = 0 := ⟨rfl, rfl, rfl, rfl⟩
  clear_value s1
  generalize s1.ownLsa = m at hm ⊢
  obtain ⟨d, b, hd⟩ := storeLsa_db m s1
  obtain ⟨e1, e2, e3, e4, e5⟩ := h1
  have hv : (s1.storeLsa m).fab.aseq = s1.fab.aseq ∧ (s1.storeLsa m).fab.relsa = s1.fab.relsa ∧ (∀ k, (s1.storeLsa m).fport k = s1.fport k) ∧ (s1.storeLsa m).nodeAddr = s1.nodeAddr
      ∧ Agree 0x1000000 s1 (s1.storeLsa m) := by
    rw [hd]
    exact ⟨rfl, rfl, fun _ => rfl, rfl, agree_mdFab rfl _ s1 (.refl _ s1)⟩
  obtain ⟨f1, f2, f3, f4, f5⟩ := hv
  obtain ⟨hpo, hsent, -⟩ := flood_facts m none (s1.storeLsa m)
  have hfab : ((s1.storeLsa m).flood m none).fab.aseq = (s1.storeLsa m).fab.aseq ∧ ((s1.storeLsa m).flood m none).fab.relsa = (s1.storeLsa m).fab.relsa := by
    obtain ⟨p, hp⟩ := hpo
    rw [hp]
    exact ⟨rfl, rfl⟩
  obtain ⟨m1, m2, m3, m4⟩ := hm
  refine ⟨hfab.1.trans (f1.trans e1), hfab.2.trans (f2.trans e2), (e5.trans f5).trans hpo.agree, m, ⟨m1, m2.trans e4, m3.trans e1, m4⟩, fun k hk => ?_⟩
  rw [← e4, ← f4]
  exact hsent k (by rw [f3, e3]; exact hk) nofun

/-- The database and the routes after an origin's expiry. -/
theorem lsaExpiry_facts {a : Nat} {s : State} (h : s.fab.db.any (fun e => e.addr == a && 40 ≤ e.age) = true) :
    (s.lsaExpiry a).fab.db = s.fab.db.filter (fun e => !(e.addr == a && 40 ≤ e.age)) ∧ (s.lsaExpiry a).fab.dirty = true ∧ Agree 0x1002000 s (s.lsaExpiry a)
      ∧ (s.lsaExpiry a).fab.routes = if (s.fab.db.filter (fun e => !(e.addr == a && 40 ≤ e.age))).any (fun e => e.addr == a) then s.fab.routes
        else s.fab.routes.filter (fun e => e.1 != a) := by
  unfold lsaExpiry
  rw [if_pos h]
  extract_lets s1
  have h1 : s1.fab.db = s.fab.db.filter (fun e => !(e.addr == a && 40 ≤ e.age)) ∧ s1.fab.dirty = true ∧ Agree 0x1002000 s s1
      ∧ s1.fab.routes = if (s.fab.db.filter (fun e => !(e.addr == a && 40 ≤ e.age))).any (fun e => e.addr == a) then s.fab.routes else s.fab.routes.filter (fun e => e.1 != a) :=
    ⟨rfl, rfl, agree_mdFab rfl _ s (.refl _ s), rfl⟩
  clear_value s1
  split
  · have hs : Agree 0x2000 s1 s1.addrSource := agree_addrSource rfl s1 (.refl _ s1)
    rw [hs.fab rfl]
    exact ⟨h1.1, h1.2.1, h1.2.2.1.trans (hs.mono rfl), h1.2.2.2⟩
  · exact h1

end State

theorem exec_fab {f : State → State} {s : State} (h : s.fabRuns = true) : Host.Outcome.next (φ := Fault) (ρ := Refusal) (s.onFab f) = .next (f s) :=
  congrArg Host.Outcome.next (State.onFab_runs h)

/-- Settles O42, command by command: what a port takes is `fabTaken`, what it sends `fsend`. -/
theorem fabricPortsAndRoutes : Obligations.FabricPortsAndRoutes := by
  refine ⟨fun i s hr hs => ⟨_, exec_fab hr, ?_⟩, fun i s hr hs ho => ⟨_, exec_fab hr, ?_⟩, fun i s hr hs ho => ⟨_, exec_fab hr, ?_⟩, fun i c s hc hr hs ho => ?_,
    fun s hr => ⟨_, exec_fab hr, ?_⟩, fun i h addr cost seen s hq hs => ⟨_, exec_fab hq.1, ?_⟩, fun i k h m s hq hd hb hi ht hf hk => ⟨_, exec_fab hq.1, ?_⟩,
    fun i h m s hq hd => ⟨_, exec_fab hq.1, ?_⟩, fun s hr hn ha hf => ⟨_, exec_fab hr, ?_⟩, fun i h m s hq h1 h2 hid hage hdb hl => ⟨_, exec_fab hq.1, ?_⟩,
    fun i h m e s hq hi h1 h2 hid had hf hage hnew => ⟨_, exec_fab hq.1, ?_⟩, fun s hr hn hi hl => ⟨_, exec_fab hr, ?_⟩, fun a e s hr he ha hage => ⟨_, exec_fab hr, ?_⟩,
    fun s hr hn hi => ⟨_, exec_fab hr, ?_⟩⟩
  · have e : s.fabTrained i = s.mdFport i (fun p => { p with st := 2, fec := bitOf s.fab.cfg.fec i, heard := false, chan := p.chan.clear, cost := rd s.fab.cfg.cost i }) := if_pos hs
    beta_reduce
    rw [e, State.mdFport_same i.isLt]
    exact ⟨rfl, rfl, rfl, fun j hj => State.mdFport_other (fun h => hj (Fin.ext h.symm)) .., (State.portsOnly_mdFport ..).agree.sameBut rfl⟩
  · have e : s.fabTrainFail i = if 3 ≤ (s.fport i).fails + 1 then (s.mdFport i (fun p => { p with st := 4, fails := 3, heard := false })).fabSource i
        else (s.mdFport i (fun p => { p with fails := (s.fport i).fails + 1 })).fabTrain i := if_pos (by simpa using hs)
    beta_reduce
    rw [e]
    by_cases hn : (s.fport i).fails < 2
    · obtain ⟨h, -⟩ := State.fabTrain_facts i.isLt (s.mdFport i (fun p => { p with fails := (s.fport i).fails + 1 }))
      have ho' : (s.mdFport i (fun p => { p with fails := (s.fport i).fails + 1 })).fabOn i = true := ho
      rw [if_pos hn, if_neg (by omega), h, State.mdFport_same i.isLt, ho']
      exact ⟨rfl, rfl⟩
    · have hf := (State.agree_fabSource rfl i.val (s.mdFport i (fun p => { p with st := 4, fails := 3, heard := false })) (.refl 0x2000 _)).fab rfl
      have hp := State.mdFport_same i.isLt (fun p => { p with st := 4, fails := 3, heard := false }) s
      rw [if_neg hn, if_pos (by omega)]
      simp only [State.fport, hf] at hp ⊢
      rw [hp]
      refine ⟨rfl, rfl, fun hc => ?_⟩
      rw [State.fabSource_live (s := s.mdFport i (fun p => { p with st := 4, fails := 3, heard := false })) hc, State.fport, hp]
      exact (Bool.and_true _).trans ho
  · have e : s.fabRetry i = s.fabTrain i := if_pos (by simp [hs, ho])
    obtain ⟨h1, h2, -, h4⟩ := State.fabTrain_facts i.isLt s
    beta_reduce
    rw [e, h1, ho]
    exact ⟨rfl, rfl, h2, (h4 (by simp [hs])).sameBut rfl⟩
  · have e : s.fabDown i = s.fabTrain i := if_pos (by rcases hs with h | h <;> simp [h])
    obtain ⟨h1, -, h3, -⟩ := State.fabTrain_facts i.isLt s
    have hd : (((s.fabDown i).fport i).st = 1 ∧ ((s.fabDown i).fport i).heard = false ∧ ((s.fabDown i).fport i).retrains = satAdd 0xFFF (s.fport i).retrains 1
        ∧ ((s.fport i).st = 3 → (s.fabDown i).evtBit 10 0 = true ∧ (s.fabDown i).fab.relsa = true)) := by
      rw [e, h1, ho]
      exact ⟨rfl, rfl, rfl, h3⟩
    simp only [List.mem_cons, List.not_mem_nil, or_false] at hc
    rcases hc with rfl | rfl
    · exact ⟨_, exec_fab hr, hd⟩
    · exact ⟨_, exec_fab hr, hd⟩
  · have h := State.forL_hello (l := List.range 4) List.nodup_range s
    rw [← State.helloSend_eq] at h
    beta_reduce
    generalize s.helloSend = t at h ⊢
    exact ⟨h.1.agree.sameBut rfl, fun i hi => ⟨s.helloMsg i, rfl, rfl, h.2 i i.isLt (List.mem_range.mpr i.isLt) hi⟩⟩
  · obtain ⟨t, e, h1, h2, h3, h4, h5⟩ := State.helloRx_facts i.isLt addr.toNat cost.toNat seen hq hs
    have hf : (if seen then t.setEvt 10 0 else t).fab = t.fab := by
      split
      · exact (State.agree_setEvt rfl 10 0 t (.refl 0x100 t)).fab rfl
      · rfl
    rw [e]
    simp only [State.fport, hf]
    refine ⟨h1, h2, h3, h4, fun hs => ⟨(h5 hs).1, (h5 hs).2, ?_⟩⟩
    rw [if_pos hs]
    exact State.setEvt_evtBit _ _ _ (by decide) (by decide)
  · obtain ⟨hp, ⟨c, hc, -⟩, ho⟩ := State.fabTaken_facts i.isLt h s
    have e : s.fabForward i h m = (s.fabTaken i h).fsend k { m with ttl := m.ttl - 1 } := by
      have ef : (s.fabTaken i h).flowPort m.src m.dst = some k.val := by
        rw [← hf]
        obtain ⟨p, hp⟩ := hp
        rw [hp]
        rfl
      have en : ¬(m.dst = (s.fabTaken i h).nodeAddr || m.dst = 0xFFF || (s.fabTaken i h).fab.isolated || m.ttl ≤ 1) = true := by
        rw [State.nodeAddr_portsOnly hp]
        obtain ⟨p, hp⟩ := hp
        rw [hp]
        simp [hd, hb, hi, ht]
      unfold State.fabForward
      rw [State.freceive_inSeq i.isLt hq, if_neg en, ef]
    have hk' : ((s.fabTaken i h).fport k).st = 2 ∨ ((s.fabTaken i h).fport k).st = 3 := by
      by_cases hki : k = i
      · subst hki
        rw [hc]
        exact hk
      · rw [ho k (fun h => hki (Fin.ext h))]
        exact hk
    rw [e]
    exact ⟨State.fsend_sent k.isLt hk', (hp.trans (State.portsOnly_fsend ..)).agree.sameBut rfl⟩
  · obtain ⟨hp, ⟨c, hc, he⟩, ho⟩ := State.fabTaken_facts i.isLt h s
    have e : s.fabForward i h m = s.fabTaken i h := by
      unfold State.fabForward
      rw [State.freceive_inSeq i.isLt hq]
      refine if_pos ?_
      rw [State.nodeAddr_portsOnly hp]
      rcases hd with h | h | h <;> simp [h]
    rw [e, hc]
    exact ⟨he, fun j hj => ho j (fun h => hj (Fin.ext h)), hp.agree.sameBut rfl⟩
  · obtain ⟨a, ⟨h1, h2, h3⟩, e⟩ := State.addrDiscover_free hn ha hf
    have hag : State.Agree 0x1000004 s s.addrDiscover := State.agree_addrDiscover rfl s (.refl _ s)
    refine ⟨?_, ?_, ?_, ?_, ?_, hag.sameBut rfl⟩ <;> rw [e]
    · exact h1
    · exact h2
    · exact h3
  · obtain ⟨hp, ⟨c, hc, -⟩, ho⟩ := State.fabTaken_facts i.isLt h s
    have hw : (s.fabTaken i h).fab.db = s.fab.db ∧ (s.fabTaken i h).fab.isolated = s.fab.isolated := by
      obtain ⟨p, hp⟩ := hp
      rw [hp]
      exact ⟨rfl, rfl⟩
    have e := State.lsaRx_eq i.isLt hq h1 h2 hid (u := (s.fabTaken i h).lsaKept i m) (by rw [State.lsaNewer_unknown hage hdb, State.lsaKept, hw.2]; rfl)
    obtain ⟨k1, k2, k3, k4, k5⟩ := State.lsaKept_facts (i := i) (s := s.fabTaken i h) hage (by rw [hw.1]; exact hdb) (by rw [hw.1]; exact hl)
    rw [State.lsaNewer_unknown hage hdb, Bool.and_true] at e
    rw [hw.1] at k1
    rw [hw.2, State.nodeAddr_portsOnly hp] at k3
    rw [hw.2] at k4
    have k6 := hp.agree.trans k5
    generalize (s.fabTaken i h).lsaKept i m = u at e k1 k2 k3 k4 k6
    have hsent : s.fab.isolated = false → ∀ k : Fin 4, k ≠ i → (s.fport k).st = 3 → FabSent k { dst := 0xFFF, src := s.nodeAddr, prio := 2, body := .lsa m } u :=
      fun hi k hk h3 => k3 hi k (fun h => hk (Fin.ext h)) (by rw [ho k (fun h => hk (Fin.ext h))]; exact h3)
    have hsame : s.fab.isolated = true → ∀ k : Fin 4, k ≠ i → u.fport k = s.fport k := fun hi k hk => (k4 hi k).trans (ho k (fun h => hk (Fin.ext h)))
    by_cases hc : (decide (m.id = Config.identity) && State.aseqNewer m.aseq s.fab.aseq) = true
    · rw [e, if_pos hc]
      exact ⟨k1, k2, hsent, hsame, fun _ _ => ⟨rfl, rfl⟩, (State.agree_mdFab rfl _ u k6).sameBut rfl⟩
    · rw [e, if_neg hc]
      exact ⟨k1, k2, hsent, hsame, fun h3 h4 => absurd (by simp [h3, h4]) hc, k6.sameBut rfl⟩
  · obtain ⟨hp, -, ho⟩ := State.fabTaken_facts i.isLt h s
    have hn : State.lsaNewer s.fab.db m = false := by
      have hf' : s.fab.db.find? (State.Lsa.origin m) = some e := hf
      unfold State.lsaNewer
      rw [hf']
      simp [hage, hnew]
    have e' : s.lsaRx i h m = s.fabTaken i h := by
      rw [State.lsaRx_eq i.isLt hq h1 h2 (.inr had) (u := s.fabTaken i h) (by rw [hn]; rfl), hn]
      simp
    have hdb : (s.fabTaken i h).fab.db = s.fab.db := by
      obtain ⟨p, hp⟩ := hp
      rw [hp]
    rw [e']
    exact ⟨hdb, fun k hk => ho k (fun h => hk (Fin.ext h)), hp.agree.sameBut rfl⟩
  · obtain ⟨h1, h2, h3, m, ⟨m1, m2, m3, m4⟩, h4⟩ := State.lsaOriginate_facts hn hi hl
    exact ⟨h1, h2, h3.sameBut rfl, fun k hk => ⟨m, m1, m2, m3.trans h1.symm, m4, h4 k hk⟩⟩
  · obtain ⟨h1, h2, h3, h4⟩ := State.lsaExpiry_facts (a := a.toNat) (s := s) (List.any_eq_true.mpr ⟨e, he, by simp [ha, hage]⟩)
    refine ⟨h1, fun hall => h4.trans (if_neg ?_), h2, h3.sameBut rfl⟩
    simp only [List.any_filter, Bool.not_eq_true, List.any_eq_false]
    intro x hx
    by_cases hxa : x.addr = a.toNat
    · simp [hxa, hall x hx hxa]
    · simp [hxa]
  · have e : s.routeCompute = (s.mdFab (fun v => { v with routes := s.shortest, dirty := false })).judgeRoot := if_neg (by simp [hn, hi])
    obtain ⟨h1, h2, h3⟩ := (s.mdFab (fun v => { v with routes := s.shortest, dirty := false })).judgeRoot_db
    beta_reduce
    rw [e]
    exact ⟨h1, h2, h3, (State.agree_judgeRoot rfl _ (State.agree_mdFab rfl _ s (.refl 0x1000100 s))).sameBut rfl⟩

end Sys2Proof.Machine
end

section
/-! PROOFS. NOR devices, the scan of a Boot, and the host's view of the ledger (R405 to R429). -/
set_option Elab.async false

namespace Sys2Proof.Machine
namespace State

/-! ### NOR devices -/

/-- A counted occurrence touches the bank in use and the event queue alone. -/
theorem count_ledg (k u d : Nat) (s : State) : ∃ a b c, (s.count k u d).ledg = { s.ledg with live := a, evq := b, dropped := c } := by
  unfold count
  dsimp only
  split
  · exact ⟨_, _, _, rfl⟩
  · unfold post
    split
    · exact ⟨_, _, _, (agree_setEvt rfl 3 1 _ (.refl 0x100 _)).ledg rfl⟩
    · exact ⟨_, _, _, rfl⟩

theorem slotWriteEnd_ledg (s : State) : s.slotWriteEnd.ledg = s.ledg := (agree_slotWriteEnd rfl s (.refl 0x8000 s)).ledg rfl

/-- A device that fails is out, and the other one as it was. -/
theorem norFail_dev {d : Nat} (hd : d < 2) (ofs : Nat) (s : State) : (rd (s.norFail d ofs).ledg.dev d).ok = false ∧ ∀ j, j ≠ d → rd (s.norFail d ofs).ledg.dev j = rd s.ledg.dev j := by
  unfold norFail
  extract_lets w g s1 s2
  have h1 : s1.ledg.dev = md s.ledg.dev d (fun x => { x with ok := false, failed := true }) := rfl
  have h2 : s2.ledg = s1.ledg := by
    unfold s2
    split
    · exact slotWriteEnd_ledg s1
    · rfl
  clear_value s1 s2
  obtain ⟨a, b, c, hc⟩ := count_ledg 0x70 d ofs s2
  have h3 : (((s2.count 0x70 d ofs).raise 153 d none).setEvt 3 0).ledg = (s2.count 0x70 d ofs).ledg :=
    (agree_setEvt rfl 3 0 _ (agree_raise rfl 153 d none _ (.refl 0x2100 _))).ledg rfl
  rw [h3, hc, h2, h1]
  exact ⟨by rw [rd_md_self _ _ _ hd], fun j hj => rd_md_ne _ _ _ _ (Ne.symm hj)⟩

/-- SFDP is read of a device that has not failed. -/
theorem sfdpRead_dev {d : Nat} (hd : d < 2) (s : State) :
    (rd (s.sfdpRead d).ledg.dev d).ok = (if (rd s.ledg.dev d).failed then (rd s.ledg.dev d).ok else (rd s.nor d).sfdp.meets)
      ∧ ∀ j, j ≠ d → rd (s.sfdpRead d).ledg.dev j = rd s.ledg.dev j := by
  unfold sfdpRead
  extract_lets f g s1
  split
  · exact ⟨rfl, fun _ _ => rfl⟩
  · have h1 : s1.ledg.dev = md s.ledg.dev d (fun x => { x with ok := f.meets, jedec := f.jedec, size := f.size, lines := f.lines }) := rfl
    clear_value s1
    split
    · next hm =>
      rw [h1]
      exact ⟨by rw [rd_md_self _ _ _ hd], fun j hj => rd_md_ne _ _ _ _ (Ne.symm hj)⟩
    · next hm =>
      obtain ⟨h2, h3⟩ := norFail_dev hd 0 s1
      refine ⟨h2.trans (Bool.eq_false_of_not_eq_true hm).symm, fun j hj => (h3 j hj).trans ?_⟩
      rw [h1]
      exact rd_md_ne _ _ _ _ (Ne.symm hj)

/-! ### A probe, and a copy that is done -/

/-- A device answers a probe. -/
def answered (d : Nat) (f : Sfdp) (s : State) : State := { s with nor := md s.nor d (fun x => { x with sfdp := f }) }

/-- A device that answers a probe, with what it answers. -/
def probed (d : Nat) (f : Sfdp) (s : State) : State :=
  let t := s.answered d f
  { t with ledg := { t.ledg with dev := md t.ledg.dev d (fun x => { x with jedec := f.jedec, size := f.size, lines := f.lines }) } }

theorem probed_mem {d : Nat} (hd : d < 2) (f : Sfdp) (s : State) : (s.probed d f).norMem d = s.norMem d := (congrArg NorDev.mem (rd_md_self s.nor _ _ hd)).trans rfl

theorem probed_valid {d : Nat} (hd : d < 2) (f : Sfdp) (s : State) : (s.probed d f).dirValid d = s.dirValid d := by
  simp only [dirValid, probed_mem hd]

theorem probed_ok {d : Nat} (hd : d < 2) (f : Sfdp) (s : State) : (rd (s.probed d f).ledg.dev d).ok = (rd s.ledg.dev d).ok := (congrArg NorSt.ok (rd_md_self s.ledg.dev _ _ hd)).trans rfl

theorem probed_other {d j : Nat} (h : j ≠ d) (f : Sfdp) (s : State) : rd (s.probed d f).ledg.dev j = rd s.ledg.dev j := rd_md_ne _ _ _ _ (Ne.symm h)

theorem agree_probed (d : Nat) (f : Sfdp) (s : State) : Agree 0x4008 s (s.probed d f) := by
  have h : Agree 0x4008 s (s.answered d f) := Agree.upd_nor _ rfl (.refl _ s)
  exact Agree.upd_ledg _ rfl h

/-- A device whose directory holds is taken in. -/
def taken (d : Nat) (s : State) : State := { s with ledg := { s.ledg with dev := md s.ledg.dev d (fun x => { x with ok := true, failed := false }) } }

/-- The records that wait follow those the device holds. -/
def renumbered (up : Nat) (s : State) : State :=
  { s with ledg := { s.ledg with
      heads := tgen 6 s.scanHead, rseq := s.ledg.rseq + up,
      queue := s.ledg.queue.map (fun (j : RecJob) => { j with rseq := j.rseq + up }) } }

/-- Holes of one device are filled from the other. -/
def repaired (s : State) : State := { s with ledg := { s.ledg with bg := s.ledg.bg ++ s.repairJobs } }

/-- A device without a valid directory is given one, and is copied where the other one holds the records. -/
def resilvered (d : Nat) (s : State) : State :=
  let s3 := s.dirWrite d
  let src := (rd s3.ledg.dev (1 - d)).ok
  let n := if src then sumN 6 (fun a => (s3.areaRecs a).length) else 0
  { s3 with ledg := { s3.ledg with resilver := some d, rsCount := n, bg := s3.ledg.bg ++ (if src then [s3.resilverJob d] else []) } }

theorem norProbe_eq {d : Nat} {f : Sfdp} {s : State} (ho : (rd s.ledg.dev d).ok = false) (hr : s.ledg.resilver = none) :
    ∃ up, s.norProbe d f none = if !f.meets then s.probed d f
      else if (s.probed d f).dirValid d then (((s.probed d f).taken d).renumbered up).repaired.unraise 153 d else (s.probed d f).resilvered d := by
  unfold norProbe
  rw [if_neg (by simp [ho, hr])]
  extract_lets s1 g s2 g3 s3 top up g4 s4
  have h2 : s2 = s.probed d f := rfl
  clear_value s2
  subst h2
  have h3 : s3 = (s.probed d f).taken d := rfl
  clear_value s3 top up
  subst h3
  have h4 : s4 = ((s.probed d f).taken d).renumbered up := rfl
  clear_value s4
  subst h4
  exact ⟨up, rfl⟩

theorem renumbered_facts (up : Nat) (s : State) : (s.renumbered up).ledg.dev = s.ledg.dev ∧ (s.renumbered up).ledg.queue.map (·.body) = s.ledg.queue.map (·.body)
    ∧ (s.renumbered up).nor = s.nor :=
  ⟨rfl, by simp [renumbered], rfl⟩

/-- A device taken in works with the records it holds. -/
theorem joined_facts {d : Nat} (hd : d < 2) (up : Nat) (s : State) : (rd (((s.taken d).renumbered up).repaired.unraise 153 d).ledg.dev d).ok = true
    ∧ (((s.taken d).renumbered up).repaired.unraise 153 d).ledg.queue.map (·.body) = s.ledg.queue.map (·.body)
    ∧ (((s.taken d).renumbered up).repaired.unraise 153 d).nor = s.nor ∧ Agree 0x6000 s (((s.taken d).renumbered up).repaired.unraise 153 d) := by
  obtain ⟨h1, h2, h3⟩ := (s.taken d).renumbered_facts up
  have hu := agree_unraise rfl 153 d ((s.taken d).renumbered up).repaired (.refl 0x2000 _)
  refine ⟨?_, ?_, hu.nor rfl |>.trans h3, ?_⟩
  · rw [hu.ledg rfl]
    have e : ((s.taken d).renumbered up).repaired.ledg.dev = ((s.taken d).renumbered up).ledg.dev := rfl
    rw [e, h1]
    exact congrArg NorSt.ok (rd_md_self s.ledg.dev d _ hd)
  · rw [hu.ledg rfl]
    exact h2
  · exact (Agree.upd_ledg _ rfl (Agree.upd_ledg _ rfl (Agree.upd_ledg _ rfl (.refl 0x6000 s)))).trans (hu.mono rfl)

/-- A device that is given a directory waits for its copy. -/
theorem resilvered_facts (d : Nat) (s : State) : (s.resilvered d).ledg = { s.ledg with
      resilver := some d, rsCount := (s.resilvered d).ledg.rsCount, bg := s.ledg.bg ++ (if (rd s.ledg.dev (1 - d)).ok then [(s.dirWrite d).resilverJob d] else []) }
    ∧ ((rd s.ledg.dev (1 - d)).ok = false → (s.resilvered d).ledg.rsCount = 0) ∧ Agree 0x4008 s (s.resilvered d) := by
  have hl : (s.dirWrite d).ledg = s.ledg := rfl
  refine ⟨?_, fun h => ?_, Agree.upd_ledg _ rfl (agree_dirWrite rfl d s (.refl _ s))⟩
  · unfold resilvered
    dsimp only
    rw [hl]
  · exact if_neg (by rw [hl, h]; exact Bool.false_ne_true)

/-- A copy that is done. -/
theorem resilverDone_eq {d : Nat} {s : State} (hr : s.ledg.resilver = some d) (hb : ∀ b ∈ s.ledg.bg, b.kind ≠ .resilver) (hc : ∀ b, s.ledg.bgCur = some b → b.kind ≠ .resilver) :
    ∃ u : State, s.resilverDone = ((u.unraise 153 d).count 0x71 d s.ledg.rsCount).setEvt 3 0 ∧ Agree 0x4000 s u ∧ u.ledg.resilver = none
      ∧ u.ledg.dev = md s.ledg.dev d (fun x => { x with ok := true, failed := false }) := by
  have h1 : s.ledg.bg.any (fun b => b.kind == .resilver) = false := List.any_eq_false.mpr fun b hm => by simpa using hb b hm
  unfold resilverDone
  rw [hr]
  dsimp only
  rw [h1, Bool.false_or, if_neg]
  swap
  · intro h
    split at h
    · next b hb => exact hc b hb (by simpa using h)
    · exact Bool.false_ne_true h
  exact ⟨_, rfl, Agree.upd_ledg _ rfl (Agree.upd_ledg _ rfl (.refl _ s)), rfl, rfl⟩

/-! ### The scan of a Boot -/

/-- What AON had lost is taken from the newest record, and the loss is over. -/
theorem restoreCounters_aon (s : State) : s.restoreCounters.aon.lost = false ∧ (s.aon.lost = false → s.restoreCounters.aon = s.aon) := by
  unfold restoreCounters
  cases h : s.aon.lost
  · exact ⟨h, fun _ => rfl⟩
  · rw [if_neg (by decide)]
    dsimp only
    refine ⟨?_, nofun⟩
    split <;> rfl

/-- SFDP of both devices. -/
theorem sfdpReads_dev (s : State) (d : Fin 2) : (rd ((s.sfdpRead 0).sfdpRead 1).ledg.dev d).ok = if (rd s.ledg.dev d).failed then (rd s.ledg.dev d).ok else (rd s.nor d).sfdp.meets := by
  obtain ⟨h0, h1⟩ := sfdpRead_dev (by decide : 0 < 2) s
  obtain ⟨h2, h3⟩ := sfdpRead_dev (by decide : 1 < 2) (s.sfdpRead 0)
  have hn : (s.sfdpRead 0).nor = s.nor := (agree_sfdpRead rfl 0 s (.refl 0xE100 s)).nor rfl
  match d with
  | 0 => exact (congrArg NorSt.ok (h3 0 (by decide))).trans h0
  | 1 =>
    have e : rd (s.sfdpRead 0).ledg.dev 1 = rd s.ledg.dev 1 := h1 1 (by decide)
    rw [e, hn] at h2
    exact h2

theorem ledgerScan_facts {s : State} (hc : s.ctlOn = true) (hs : s.top.state = .boot) (hd : s.ledg.scanDone = false) :
    s.ledgerScan.ledg.scanDone = true ∧ s.ledgerScan.aon.lost = false ∧ (s.aon.lost = false → s.ledgerScan.aon = s.aon)
      ∧ s.ledgerScan.ledg.dev = ((s.sfdpRead 0).sfdpRead 1).ledg.dev := by
  unfold ledgerScan
  rw [if_neg (by simp [hc, hs, hd])]
  extract_lets s1 s2 heads top gone g s3 s4
  have h2 : Agree 0x8 s1 s2 := .forN (fun _ _ h => .ite (agree_dirWrite rfl _ _ h) h) (.refl _ s1)
  have h1 : s1.aon = s.aon := (agree_sfdpRead rfl 1 _ (agree_sfdpRead rfl 0 s (.refl 0xE100 s))).aon rfl
  have h3 : s3.ledg.scanDone = true ∧ s3.ledg.dev = s2.ledg.dev ∧ s3.aon = s2.aon := ⟨rfl, rfl, rfl⟩
  clear_value s3 gone
  have h4 : (if gone then s3.setEvt 3 3 else s3).aon = s3.aon ∧ (if gone then s3.setEvt 3 3 else s3).ledg = s3.ledg := by
    have ha : Agree 0x100 s3 (if gone then s3.setEvt 3 3 else s3) := .ite (agree_setEvt rfl _ _ _ (.refl _ s3)) (.refl _ s3)
    exact ⟨ha.aon rfl, ha.ledg rfl⟩
  obtain ⟨r1, r2⟩ := restoreCounters_aon (if gone then s3.setEvt 3 3 else s3)
  have h5 : s4.ledg = s3.ledg := ((agree_restoreCounters rfl _ (.refl 0x4 (if gone then s3.setEvt 3 3 else s3))).ledg rfl).trans h4.2
  have h6 : s3.aon = s.aon := h3.2.2.trans ((h2.aon rfl).trans h1)
  refine ⟨?_, r1, fun hl => ?_, ?_⟩
  · exact (congrArg Ledg.scanDone h5).trans h3.1
  · rw [h4.1, h6] at r2
    exact r2 hl
  · exact (congrArg Ledg.dev h5).trans (h3.2.1.trans (congrArg Ledg.dev (h2.ledg rfl)))

/-! ### The wall label, the epochs and the event queue -/

/-- The wall label is moved; a move of more than a second is a step. -/
theorem wallCommit_facts {hi : Word} {s : State} {v : Nat} (hv : v = hi.toNat * 2 ^ 32 + s.ledg.wallLo.toNat) : (s.wallCommit hi).aon.wallMs = v ∧ (s.wallCommit hi).aon.wallValid = true
    ∧ if v ≤ s.aon.wallMs + 1000 ∧ s.aon.wallMs ≤ v + 1000 then (s.wallCommit hi).aon.steps = s.aon.steps
      else (s.wallCommit hi).aon.steps = satAdd 0xFFFFFFFF s.aon.steps 1 ∧ (s.wallCommit hi).evtBit 3 2 = true
        ∧ (s.wallCommit hi).aon.back = (if v < s.aon.wallMs then satAdd 0xFFFF s.aon.back 1 else s.aon.back) := by
  unfold wallCommit
  extract_lets v' old back move g s1
  have e1 : v' = v := hv.symm
  have ha : s1.aon.wallMs = v' ∧ s1.aon.wallValid = true ∧ s1.aon.steps = s.aon.steps ∧ s1.aon.back = s.aon.back := ⟨rfl, rfl, rfl, rfl⟩
  have hb : (back = true ↔ v' < s.aon.wallMs) ∧ move = if back then s.aon.wallMs - v' else v' - s.aon.wallMs := ⟨decide_eq_true_iff, rfl⟩
  clear_value s1 move back v'
  subst e1
  clear hv
  obtain ⟨a1, a2, a3, a4⟩ := ha
  obtain ⟨b1, b2⟩ := hb
  have hmove : 1000 < move ↔ ¬(v' ≤ s.aon.wallMs + 1000 ∧ s.aon.wallMs ≤ v' + 1000) := by
    rw [b2]
    by_cases h : back = true
    · have := b1.mp h
      rw [if_pos h]
      omega
    · have := mt b1.mpr h
      rw [if_neg h]
      omega
  by_cases hm : v' ≤ s.aon.wallMs + 1000 ∧ s.aon.wallMs ≤ v' + 1000
  · rw [if_pos hm, if_neg fun h => hmove.mp h hm]
    exact ⟨a1, a2, a3⟩
  · have e (k u d : Nat) (t : State) : ((t.count k u d).setEvt 3 2).aon = t.aon := (agree_setEvt rfl 3 2 _ (agree_count rfl k u d t (.refl 0x4100 t))).aon rfl
    rw [if_neg hm, if_pos (hmove.mpr hm), e]
    refine ⟨a1, a2, by rw [← a3], setEvt_evtBit _ _ _ (by decide) (by decide), ?_⟩
    by_cases h : back = true
    · rw [if_pos (b1.mp h), ← a4]
      exact if_pos h
    · rw [if_neg (mt b1.mpr h), ← a4]
      exact if_neg h

/-- An epoch that is due to close is given to the writer. -/
theorem closeTurn_facts {f : Nat} {s : State} (hc : s.ledg.closeDue = some f) (he : s.ledg.epochs = true) (hs : s.ledg.sealing = none) :
    s.closeTurn.ledg.closeDue = none ∧ s.closeTurn.ledg.sealing = some s.ledg.live ∧ ∃ j, s.closeTurn.ledg.queue = s.ledg.queue ++ [j] ∧ j.kind = 1
      ∧ j.body = s.epochBody s.ledg.live (match s.ledg.deferred with | some g => g ||| f ||| 8 | none => f) := by
  have ht (t : State) : t.takeTuning.ledg.live = t.ledg.live ∧ t.takeTuning.ledg.queue = t.ledg.queue := by
    unfold takeTuning
    split <;> exact ⟨rfl, rfl⟩
  unfold closeTurn
  rw [hc]
  dsimp only
  unfold epochClose
  dsimp only
  rw [if_neg (by simp [he]), hs]
  dsimp only
  refine ⟨rfl, congrArg some (ht _).1, _, (ht _).2, rfl, rfl⟩

theorem epochAsk_ledg (k : Nat) (s : State) : (s.epochAsk k).ledg = if s.ledg.epochs then { s.ledg with closeDue := some (s.ledg.closeDue.getD 0 ||| k) } else s.ledg := by
  unfold epochAsk
  split <;> rfl

/-- A read at a register's address, where no cause refuses it. -/
theorem regRead_reg {a : Nat} {s : State} (hc : s.ctlOn = true) (h : s.rpCause a false = 0) (ha : a < 0x400000) : s.regRead a = (s.latchAt a).rpData ((s.latchAt a).peek a) := by
  simp only [regRead, hc, h, Bool.not_true, Bool.false_eq_true, if_false, ne_eq, not_true, Nat.not_le.mpr ha]

/-- A register of LEDG is never refused while no long command runs. -/
theorem rpCause_ledg {a : Nat} {s : State} (hb : s.busy = false) (h4 : a % 4 = 0) (h0 : 0x30000 ≤ a) (h1 : a < 0x40000) : s.rpCause a false = 0 := by
  have hq : s.quiescent a = false := by
    have e1 : ¬(0x100000 ≤ a && a < 0x140000) = true := by simp; omega
    have e2 : a / 0x10000 = 3 := by omega
    simp [quiescent, e1, e2]
  simp only [rpCause, hb, hq, h4, Bool.false_and, Bool.and_false]
  rw [if_neg (by decide), if_neg (by simp; omega), if_neg (by omega), if_neg (by decide)]

/-- A field of three bits above one of 24. -/
theorem field_cause {a c w : Nat} (ha : a < 16777216) (hc : c < 8) : (a + c * 16777216 + w * 134217728) % 4294967296 / 16777216 % 8 = c := by omega

theorem word_cause (addr cause : Nat) (w : Bool) : word [(0, 24, addr), (24, 3, cause), bf 27 w]
    = BitVec.ofNat 32 (0 + (addr % 2 ^ 24) <<< 0 + (cause % 2 ^ 3) <<< 24 + (w.toNat % 2 ^ 1) <<< 27) := rfl

/-- The field of ERR_ADDR that says the cause. -/
theorem errAddr_cause (addr cause : Nat) (hc : cause < 8) (w : Bool) : bitsOf (word [(0, 24, addr), (24, 3, cause), bf 27 w]) 26 24 = cause := by
  have h := field_cause (w := w.toNat % 2 ^ 1) (Nat.mod_lt addr (by decide : 0 < 16777216)) hc
  have e1 : cause % 2 ^ 3 = cause := Nat.mod_eq_of_lt hc
  rw [word_cause, bitsOf, BitVec.toNat_ofNat, Nat.shiftRight_eq_div_pow, Nat.shiftLeft_eq, Nat.shiftLeft_eq, Nat.shiftLeft_eq, e1, Nat.zero_add, Nat.pow_zero, Nat.mul_one]
  exact h

/-- The event queue's first word, and the others held for the reads that follow. -/
theorem regRead_evq {s : State} (hc : s.ctlOn = true) (hb : s.busy = false) : s.regRead 0x0300A0 = s.latchEvq.rpData (s.evqWords.getD 0 0) := by
  rw [regRead_reg hc (rpCause_ledg hb (by decide) (by decide) (by decide)) (by decide)]
  have e : s.latchAt 0x0300A0 = s.latchEvq := rfl
  have p : s.latchEvq.peek 0x0300A0 = s.evqWords.getD 0 0 := rfl
  rw [e, p]

/-- The wall label's low word, and its high word held. -/
theorem regRead_wall {s : State} (hc : s.ctlOn = true) (hb : s.busy = false) : s.regRead 0x030018 = s.latchWall.rpData (BitVec.ofNat 32 s.aon.wallMs) := by
  rw [regRead_reg hc (rpCause_ledg hb (by decide) (by decide) (by decide)) (by decide)]
  have e : s.latchAt 0x030018 = s.latchWall := rfl
  have p : s.latchWall.peek 0x030018 = BitVec.ofNat 32 s.aon.wallMs := rfl
  rw [e, p]

/-- A read of the ledger window, where no cause refuses it. -/
theorem regRead_window {ofs : Nat} {s : State} (hc : s.ctlOn = true) (h : s.rpCause (0x400000 + ofs) false = 0) : s.regRead (0x400000 + ofs) =
    match s.norWindow (s.ctrlBit 3 4) (bitsOf (rd s.ctrl 3) 6 5) ofs with
    | some w => s.rpData w
    | none => s.rpErr 5 (0x400000 + ofs) false := by
  have e : 0x400000 + ofs - 0x400000 = ofs := by omega
  simp only [regRead, hc, h, Bool.not_true, Bool.false_eq_true, if_false, ne_eq, not_true, Nat.le_add_right, if_true, e] <;> rfl

end State

/-- Settles O49, command by command. -/
theorem ledgerDevicesAndHost : Obligations.LedgerDevicesAndHost := by
  refine ⟨fun f => ?_, fun d f s hc ho hr hm => ⟨_, exec_on hc, ?_⟩, fun d f s hc ho hr hm hv => ⟨_, exec_on hc, ?_⟩, fun d f s hc ho hr hm hv hj => ⟨_, exec_on hc, ?_⟩,
    fun d f s hc ho hr hm hv hj => ⟨_, exec_on hc, ?_⟩, fun d s hc hr hb hbc => ⟨_, exec_on hc, ?_⟩, fun s hc hs hd => ⟨s.ledgerScan, rfl, ?_⟩,
    fun hi s hf => ⟨_, rfl, ?_⟩, fun w s hf => ⟨_, rfl, ?_⟩, fun f s hc he hs => ?_, fun s hf => ⟨_, rfl, ?_⟩, fun s hf => ⟨_, rfl, ?_⟩, fun s hc => ⟨_, exec_on hc, rfl⟩,
    fun s hf => ⟨_, rfl, ?_⟩, fun s hf => ⟨s.regRead 0x0300A0, rfl, ?_⟩, fun s hf => ⟨s.regRead 0x030018, rfl, ?_⟩, fun ofs s hc h => ⟨s.regRead (0x400000 + ofs.toNat), rfl, ?_⟩⟩
  · simp only [Sfdp.meets, Bool.and_eq_true, decide_eq_true_eq, beq_iff_eq, and_assoc]
  · obtain ⟨up, e⟩ := State.norProbe_eq (f := f) ho hr
    have e' := e.trans (if_pos (by simp [hm]))
    rw [e']
    exact ⟨rd_md_self _ _ _ d.isLt, rd_md_self _ _ _ d.isLt, hr, (State.agree_probed ..).sameBut rfl⟩
  · obtain ⟨up, e⟩ := State.norProbe_eq (f := f) ho hr
    have e' := (e.trans (if_neg (by simp [hm]))).trans (if_pos (by rw [State.probed_valid d.isLt]; exact hv))
    obtain ⟨h1, h2, h3, h4⟩ := State.joined_facts d.isLt up (s.probed d f)
    have hmem : (((((s.probed d f).taken d).renumbered up).repaired.unraise 153 d)).norMem d = s.norMem d :=
      (congrArg (fun n => (rd n d.val).mem) h3).trans (State.probed_mem d.isLt f s)
    rw [e']
    exact ⟨h1, hmem, State.unraise_live .., h2.trans rfl, (((State.agree_probed d f s).mono rfl).trans (h4.mono (m := 0x6008) rfl)).sameBut rfl⟩
  · obtain ⟨up, e⟩ := State.norProbe_eq (f := f) ho hr
    have e' := (e.trans (if_neg (by simp [hm]))).trans (if_neg (by rw [State.probed_valid d.isLt, hv]; exact Bool.false_ne_true))
    obtain ⟨h1, -, h3⟩ := (s.probed d f).resilvered_facts d
    have hne : 1 - d.val ≠ d.val := by omega
    rw [State.probed_other hne, hj, if_pos rfl] at h1
    rw [e']
    refine ⟨?_, ?_, ⟨((s.probed d f).dirWrite d).resilverJob d, ?_, rfl, rfl⟩, ((State.agree_probed d f s).trans h3).sameBut rfl⟩
    · rw [h1]
    · rw [h1]
      exact (State.probed_ok d.isLt f s).trans ho
    · rw [h1]
      exact List.mem_append_right _ (List.mem_singleton_self _)
  · obtain ⟨up, e⟩ := State.norProbe_eq (f := f) ho hr
    have e' := (e.trans (if_neg (by simp [hm]))).trans (if_neg (by rw [State.probed_valid d.isLt, hv]; exact Bool.false_ne_true))
    obtain ⟨h1, h2, h3⟩ := (s.probed d f).resilvered_facts d
    have hne : 1 - d.val ≠ d.val := by omega
    rw [State.probed_other hne, hj] at h1 h2
    rw [e']
    refine ⟨?_, h2 rfl, ?_, ((State.agree_probed d f s).trans h3).sameBut rfl⟩
    · rw [h1]
    · rw [h1, if_neg Bool.false_ne_true]
      exact List.append_nil _
  · obtain ⟨u, e, ha, h1, h2⟩ := State.resilverDone_eq hr hb hbc
    obtain ⟨a, b, c, hl⟩ := State.count_ledg 0x71 d s.ledg.rsCount (u.unraise 153 d)
    have hu := State.agree_unraise rfl 153 d u (.refl 0x2000 u)
    have hcnt : State.Agree 0x4100 (u.unraise 153 d) (((u.unraise 153 d).count 0x71 d s.ledg.rsCount).setEvt 3 0) :=
      State.agree_setEvt rfl _ _ _ (State.agree_count rfl _ _ _ _ (.refl _ _))
    have hlg : (((u.unraise 153 d).count 0x71 d s.ledg.rsCount).setEvt 3 0).ledg = ((u.unraise 153 d).count 0x71 d s.ledg.rsCount).ledg :=
      (State.agree_setEvt rfl 3 0 _ (.refl 0x100 _)).ledg rfl
    rw [e]
    refine ⟨?_, ?_, ?_, State.setEvt_evtBit _ _ _ (by decide) (by decide), ((ha.mono rfl).trans ((hu.mono rfl).trans (hcnt.mono (m := 0x6100) rfl))).sameBut rfl⟩
    · rw [hlg, hl, hu.ledg rfl]
      exact h1
    · rw [hlg, hl, hu.ledg rfl]
      exact (congrArg (fun v => (rd v d.val).ok) h2).trans (congrArg NorSt.ok (rd_md_self _ _ _ d.isLt))
    · rw [State.subLive_congr (hcnt.flt rfl)]
      exact State.unraise_live ..
  · obtain ⟨h1, h2, h3, h4⟩ := State.ledgerScan_facts hc hs hd
    refine ⟨h1, h2, h3, fun d => ?_⟩
    rw [h4]
    exact s.sfdpReads_dev d
  · obtain ⟨h1, h2, h3⟩ := State.wallCommit_facts (hi := hi) (s := s.rpData 0) rfl
    rw [State.rpWrite_portFree hf]
    exact ⟨h1, h2, (State.agree_wallCommit rfl hi _ (State.agree_rpData rfl 0 s (.refl 0x5104 s))).sameBut rfl, h3⟩
  · have hbit : (w ||| 8#32).getLsbD 3 = true := by simp
    have e : State.ledgCtrl (w ||| 8#32) (s.rpData 0) = ((s.rpData 0).setCtrl 3 0x77 (w ||| 8#32)).epochAsk 1 := if_pos hbit
    beta_reduce
    rw [State.rpWrite_portFree hf, e]
    refine ⟨(State.agree_epochAsk rfl _ _ (State.agree_setCtrl rfl _ _ _ _ (State.agree_rpData rfl 0 s (.refl 0x5200 s)))).sameBut rfl, ?_⟩
    exact State.epochAsk_ledg ..
  · exact State.closeTurn_facts hc he hs
  · have e : (s.rpData 0).cmdExport = ((({ (s.rpData 0).mdCmd (fun _ => { code := 9, state := 1 }) with ledg := { s.ledg with exporting := true } } : State)).epochAsk 1) := rfl
    have hcmd : (s.rpData 0).cmdExport.cmd = { code := 9, state := 1 } := (congrArg State.cmd e).trans ((State.agree_epochAsk rfl 1 _ (.refl 0x4000 _)).cmd rfl)
    beta_reduce
    rw [State.topCode, State.rpWrite_portFree hf]
    refine ⟨hcmd, (State.agree_cmdExport rfl _ (State.agree_rpData rfl 0 s (.refl 0x5800 s))).sameBut rfl, ?_⟩
    rw [e, State.epochAsk_ledg]
    dsimp only
    split <;> rfl
  · beta_reduce
    rw [State.rpWrite_portFree hf]
    exact ⟨rfl, rfl, (State.agree_clearHold rfl _ (State.agree_rpData rfl 0 s (.refl 0x5000 s))).sameBut rfl⟩
  · beta_reduce
    rw [State.rpWrite_portFree hf]
    exact ⟨rfl, rfl, (State.agree_evqPop rfl _ (State.agree_rpData rfl 0 s (.refl 0x5000 s))).sameBut rfl⟩
  · beta_reduce
    rw [State.regRead_evq hf.1 hf.2]
    exact ⟨rfl, rfl, rfl, (State.agree_rpData rfl _ _ (State.agree_latchEvq rfl s (.refl 0x5000 s))).sameBut rfl⟩
  · beta_reduce
    rw [State.regRead_wall hf.1 hf.2]
    exact ⟨rfl, rfl, rfl, (State.agree_rpData rfl _ _ (State.agree_latchWall rfl s (.refl 0x5000 s))).sameBut rfl⟩
  · beta_reduce
    rw [State.regRead_window hc h]
    cases s.norWindow (s.ctrlBit 3 4) (bitsOf (rd s.ctrl 3) 6 5) ofs.toNat with
    | some w => exact ⟨rfl, rfl, (State.agree_rpData rfl w s (.refl 0x1000 s)).sameBut rfl⟩
    | none =>
      have hrp (u : State) : (u.setEvt 1 0).rp = u.rp := (State.agree_setEvt rfl 1 0 u (.refl 0x100 u)).rp rfl
      dsimp only
      refine ⟨?_, ?_, ?_, State.setEvt_evtBit _ _ _ (by decide) (by decide), (State.agree_rpErr rfl _ _ _ s (.refl 0x1100 s)).sameBut rfl⟩
      · rw [State.rpErr, hrp]
      · rw [State.rpErr, hrp]
      · rw [State.rpErr, hrp]
        exact State.errAddr_cause _ _ (by decide) _

end Sys2Proof.Machine
end

section
/-! PROOFS. The division of R50: its rounds keep what is shared out and what remains at the total, and after 64 of them either no port is left to serve or each
one left gets less than its cap. -/
set_option Elab.async false

namespace Sys2Proof

/-- The sum below `n`, as the list's sum. -/
theorem sumN_eq_sum (n : Nat) (f : Nat → Nat) : sumN n f = ((List.range n).map f).sum := (List.sum_eq_foldl ..).symm

namespace Machine

/-! ### Sums over a list of ports -/

theorem foldl_add_eq_sum {α : Type} (l : List α) (g : α → Nat) : l.foldl (fun a p => a + g p) 0 = (l.map g).sum := by
  rw [List.sum_eq_foldl, List.foldl_map]

/-- Entries at which `g` is 0 do not count in a sum. -/
theorem sum_map_filter_of_zero {α : Type} {l : List α} {P : α → Bool} {g : α → Nat} (h : ∀ x ∈ l, P x = false → g x = 0) :
    ((l.filter P).map g).sum = (l.map g).sum := by
  induction l with
  | nil => rfl
  | cons x l ih =>
    have ih' := ih (fun y hy => h y (List.mem_cons_of_mem _ hy))
    cases hx : P x with
    | true => simp [hx, ih']
    | false => simp [hx, ih', h x List.mem_cons_self hx]

/-- A sum splits into the entries a predicate picks and the others. -/
theorem sum_map_filter_add_not {α : Type} (l : List α) (P : α → Bool) (g : α → Nat) :
    ((l.filter P).map g).sum + ((l.filter (fun x => !P x)).map g).sum = (l.map g).sum := by
  rw [← List.sum_append, ← List.map_append]
  exact ((List.filter_append_perm P l).map g).sum_eq

/-! ### The round -/

/-- The sum of the weights of a fill's active ports. -/
def Fill.ws (f : Fill) : Nat := (f.act.map (·.2.1)).sum

/-- The entry's cap lies within its part of what remains. -/
def Fill.within (f : Fill) (e : Nat × Nat × Nat) : Bool := decide (e.2.2 * f.ws ≤ f.rem * e.2.1)

theorem Fill.round_eq (f : Fill) : f.round =
    { share := f.share ++ (f.act.filter f.within).map (fun e => (e.1, e.2.2)), act := f.act.filter (fun e => !f.within e)
      rem := f.rem - ((f.act.filter f.within).map (·.2.2)).sum } := by
  simp only [Fill.round, foldl_add_eq_sum]
  rfl

/-- The caps that lie within their parts together lie within what remains. -/
theorem Fill.sum_within_le (f : Fill) (hw : ∀ e ∈ f.act, 0 < e.2.1) : ((f.act.filter f.within).map (·.2.2)).sum ≤ f.rem := by
  rcases Nat.eq_zero_or_pos f.ws with h0 | hpos
  · have hnil : f.act = [] := List.eq_nil_iff_forall_not_mem.mpr fun e he => by
      have := List.le_sum_of_mem (List.mem_map_of_mem (f := fun e : Nat × Nat × Nat => e.2.1) he)
      have := hw e he
      unfold Fill.ws at h0
      omega
    simp [hnil]
  · refine Nat.le_of_mul_le_mul_right ?_ hpos
    calc ((f.act.filter f.within).map (·.2.2)).sum * f.ws
        = ((f.act.filter f.within).map (fun e => e.2.2 * f.ws)).sum := List.sum_map_mul_right .. |>.symm
      _ ≤ ((f.act.filter f.within).map (fun e => f.rem * e.2.1)).sum :=
        List.sum_le_sum fun e he => of_decide_eq_true (List.mem_filter.mp he).2
      _ = f.rem * ((f.act.filter f.within).map (·.2.1)).sum := List.sum_map_mul_left ..
      _ ≤ f.rem * f.ws := Nat.mul_le_mul_left _ (by have := sum_map_filter_add_not f.act f.within (·.2.1); unfold Fill.ws; omega)

/-- What every round of a fill keeps: the ports served and those left are the ports with a weight and a cap, each once, with their own figures; and what is shared
out and what remains make up the total. -/
structure Fill.Ok (total : Nat) (w cap : Nat → Nat) (f : Fill) : Prop where
  ports : (f.share.map (·.1) ++ f.act.map (·.1)).Perm (idxs 64 (fun p => decide (0 < w p) && decide (0 < cap p)))
  share : ∀ e ∈ f.share, e.2 = cap e.1
  act : ∀ e ∈ f.act, e.2 = (w e.1, cap e.1)
  pos : ∀ e ∈ f.act, 0 < e.2.1
  sum : (f.share.map (·.2)).sum + f.rem = total

section
variable {total : Nat} {w cap : Nat → Nat} {f : Fill}

theorem Fill.Ok.round (h : f.Ok total w cap) : f.round.Ok total w cap := by
  have hle := f.sum_within_le h.pos
  rw [f.round_eq]
  constructor
  case ports =>
    refine .trans ?_ h.ports
    have hp : (f.act.filter f.within ++ f.act.filter (fun e => !f.within e)).Perm f.act := List.filter_append_perm ..
    simpa [Function.comp_def] using (hp.map (·.1)).append_left (f.share.map (·.1))
  case share =>
    intro e he
    rcases List.mem_append.mp he with he | he
    · exact h.share e he
    · obtain ⟨x, hx, rfl⟩ := List.mem_map.mp he
      exact congrArg Prod.snd (h.act x (List.mem_filter.mp hx).1)
  case act => exact fun e he => h.act e (List.mem_filter.mp he).1
  case pos => exact fun e he => h.pos e (List.mem_filter.mp he).1
  case sum =>
    have := h.sum
    simp only [List.map_append, List.map_map, List.sum_append, Function.comp_def]
    omega

/-- A fill that a round leaves as it is: no active port's cap lies within its part. -/
def Fill.Done (f : Fill) : Prop := ∀ e ∈ f.act, f.rem * e.2.1 < e.2.2 * f.ws

theorem Fill.Done.round_eq_self (h : f.Done) : f.round = f := by
  have hn : ∀ e ∈ f.act, f.within e = false := fun e he => decide_eq_false (Nat.not_le.mpr (h e he))
  have h1 : f.act.filter f.within = [] := List.filter_eq_nil_iff.mpr fun e he => by simp [hn e he]
  have h2 : f.act.filter (fun e => !f.within e) = f.act := List.filter_eq_self.mpr fun e he => by simp [hn e he]
  rw [f.round_eq, h1, h2]
  simp

/-- A round that changes a fill serves a port for good. -/
theorem Fill.round_act_length (f : Fill) (h : ¬f.Done) : f.round.act.length < f.act.length := by
  unfold Fill.Done at h
  push Not at h
  obtain ⟨e, he, hle⟩ := h
  rw [f.round_eq]
  refine List.length_filter_lt_length_iff_exists.mpr ⟨e, he, ?_⟩
  simpa [Fill.within] using hle

theorem iter_succ {σ : Type} (n : Nat) (g : σ → σ) (s : σ) : iter (n + 1) g s = g (iter n g s) := by
  simp [iter, List.range_succ]

/-- After `n` rounds a fill is done or has `n` ports fewer to serve. -/
theorem Fill.iter_done_or_fewer (f : Fill) (n : Nat) : (iter n Fill.round f).Done ∨ (iter n Fill.round f).act.length + n ≤ f.act.length := by
  induction n with
  | zero => exact .inr (Nat.le_refl _)
  | succ n ih =>
    rw [iter_succ]
    by_cases hd : (iter n Fill.round f).Done
    · exact .inl (hd.round_eq_self.symm ▸ hd)
    · have := Fill.round_act_length _ hd
      exact .inr (by have := ih.resolve_left hd; omega)

/-! ### What the fill ends with -/

/-- The fill of `total` as it starts. -/
def fillStart (total : Nat) (w cap : Nat → Nat) : Fill :=
  { act := (idxs 64 (fun p => decide (0 < w p) && decide (0 < cap p))).map (fun p => (p, w p, cap p)), rem := total }

/-- The fill of `total` after its 64 rounds. -/
@[irreducible] def filled (total : Nat) (w cap : Nat → Nat) : Fill := iter 64 Fill.round (fillStart total w cap)

theorem filled_ok (total : Nat) (w cap : Nat → Nat) : (filled total w cap).Ok total w cap := by
  have h0 : (fillStart total w cap).Ok total w cap := by
    constructor
    case ports => simp [fillStart, Function.comp_def]
    case share => simp [fillStart]
    case act => simp [fillStart]
    case pos =>
      intro e he
      obtain ⟨p, hp, rfl⟩ := List.mem_map.mp he
      have := (List.mem_filter.mp hp).2
      simp only [Bool.and_eq_true, decide_eq_true_eq] at this
      exact this.1
    case sum => simp [fillStart]
  have h (n : Nat) : (iter n Fill.round (fillStart total w cap)).Ok total w cap := by
    induction n with
    | zero => exact h0
    | succ n ih => exact iter_succ n _ _ ▸ ih.round
  unfold filled
  exact h 64

theorem filled_done (total : Nat) (w cap : Nat → Nat) : (filled total w cap).Done := by
  have hlen : (fillStart total w cap).act.length ≤ 64 := by
    simpa [fillStart, idxs] using List.length_filter_le (fun p => decide (0 < w p) && decide (0 < cap p)) (List.range 64)
  unfold filled
  rcases (fillStart total w cap).iter_done_or_fewer 64 with h | h
  · exact h
  · have hnil : (iter 64 Fill.round (fillStart total w cap)).act = [] := List.eq_nil_of_length_eq_zero (by omega)
    exact fun e he => absurd (hnil ▸ he) List.not_mem_nil

theorem rd_waterFill_of_find?_eq_some {p : Nat} (hp : p < 64) {e : Nat × Nat} (h : (filled total w cap).share.find? (fun x => x.1 == p) = some e) :
    rd (waterFill total w cap) p = e.2 := by
  unfold filled fillStart at h
  unfold waterFill
  rw [rd_tgen _ _ hp]
  simp only [h]

theorem rd_waterFill_of_find?_eq_none {p : Nat} (hp : p < 64) (h : (filled total w cap).share.find? (fun x => x.1 == p) = none) :
    rd (waterFill total w cap) p =
      if (filled total w cap).act.any (fun e => e.1 == p) then (filled total w cap).rem * w p / (filled total w cap).ws else 0 := by
  unfold filled fillStart at h ⊢
  unfold waterFill Fill.ws
  rw [rd_tgen _ _ hp]
  simp only [h, foldl_add_eq_sum]

/-- A served port gets its cap. -/
theorem rd_waterFill_of_share {p : Nat} (hp : p < 64) (h : p ∈ (filled total w cap).share.map (·.1)) : rd (waterFill total w cap) p = cap p := by
  obtain ⟨e, he, rfl⟩ := List.mem_map.mp h
  have hs : ((filled total w cap).share.find? (fun x => x.1 == e.1)).isSome := List.find?_isSome.mpr ⟨e, he, by simp⟩
  obtain ⟨x, hx⟩ := Option.isSome_iff_exists.mp hs
  have hcap := (filled_ok total w cap).share x (List.mem_of_find?_eq_some hx)
  have hport : x.1 = e.1 := by simpa using List.find?_some hx
  rw [rd_waterFill_of_find?_eq_some hp hx, hcap, hport]

theorem find?_share_eq_none {p : Nat} (h : p ∉ (filled total w cap).share.map (·.1)) : (filled total w cap).share.find? (fun e => e.1 == p) = none :=
  List.find?_eq_none.mpr fun e he hp => h (List.mem_map.mpr ⟨e, he, by simpa using hp⟩)

/-- A port left to serve gets its part of what remains. -/
theorem rd_waterFill_of_act {p : Nat} (hp : p < 64) (h : p ∈ (filled total w cap).act.map (·.1)) :
    rd (waterFill total w cap) p = (filled total w cap).rem * w p / (filled total w cap).ws := by
  have hnd := (filled_ok total w cap).ports.nodup_iff.mpr (State.nodup_idxs ..)
  have hns : p ∉ (filled total w cap).share.map (·.1) := fun hs => (List.nodup_append.mp hnd).2.2 p hs p h rfl
  have hany : (filled total w cap).act.any (fun e => e.1 == p) = true := by
    obtain ⟨e, he, rfl⟩ := List.mem_map.mp h
    exact List.any_eq_true.mpr ⟨e, he, by simp⟩
  rw [rd_waterFill_of_find?_eq_none hp (find?_share_eq_none hns), if_pos hany]

/-- A port without weight or cap gets nothing. -/
theorem rd_waterFill_of_none {p : Nat} (hp : p < 64) (h : ¬(0 < w p ∧ 0 < cap p)) : rd (waterFill total w cap) p = 0 := by
  have hnot : p ∉ (filled total w cap).share.map (·.1) ++ (filled total w cap).act.map (·.1) := fun hm => by
    have := (List.mem_filter.mp ((filled_ok total w cap).ports.mem_iff.mp hm)).2
    exact h (by simpa using this)
  rw [List.mem_append, not_or] at hnot
  have hany : (filled total w cap).act.any (fun e => e.1 == p) = false :=
    List.any_eq_false.mpr fun e he hp => hnot.2 (List.mem_map.mpr ⟨e, he, by simpa using hp⟩)
  rw [rd_waterFill_of_find?_eq_none hp (find?_share_eq_none hnot.1), hany, if_neg Bool.false_ne_true]

/-- A port with a weight and a cap is served or left to serve. -/
theorem served_or_left {p : Nat} (hp : p < 64) (hw : 0 < w p) (hc : 0 < cap p) :
    p ∈ (filled total w cap).share.map (·.1) ∨ p ∈ (filled total w cap).act.map (·.1) :=
  List.mem_append.mp ((filled_ok total w cap).ports.mem_iff.mpr (List.mem_filter.mpr ⟨List.mem_range.mpr hp, by simp [hw, hc]⟩))

theorem mem_idxs {n : Nat} {P : Nat → Bool} {p : Nat} : p ∈ idxs n P ↔ p < n ∧ P p = true := by simp [idxs]

/-- A port left to serve: its figures, and that its part is less than its cap. -/
theorem left_facts {p : Nat} (h : p ∈ (filled total w cap).act.map (·.1)) : p < 64 ∧ 0 < w p ∧ rd (waterFill total w cap) p < cap p := by
  have hok := filled_ok total w cap
  obtain ⟨hp, -⟩ := mem_idxs.mp (hok.ports.mem_iff.mp (List.mem_append_right _ h))
  rw [rd_waterFill_of_act hp h]
  obtain ⟨e, he, rfl⟩ := List.mem_map.mp h
  have hfig := hok.act e he
  have hpos := hok.pos e he
  have hd := filled_done total w cap e he
  rw [hfig] at hpos hd
  exact ⟨hp, hpos, Nat.div_lt_of_lt_mul (hd.trans_eq (Nat.mul_comm _ _))⟩

/-- A share of `r` by weight, rounded downward, over a list: together at most `r`. -/
theorem sum_parts_le {α : Type} (l : List α) (g : α → Nat) (r : Nat) : (l.map (fun e => r * g e / (l.map g).sum)).sum ≤ r := by
  rcases Nat.eq_zero_or_pos (l.map g).sum with h0 | hpos
  · simp [h0]
  · refine Nat.le_of_mul_le_mul_right ?_ hpos
    rw [← List.sum_map_mul_right, ← List.sum_map_mul_left]
    exact List.sum_le_sum fun e _ => Nat.div_mul_le_self ..

/-- What the parts leave is less than one for each of them. -/
theorem lt_sum_parts_add_length {α : Type} {l : List α} {g : α → Nat} (r : Nat) (hne : l ≠ []) (hpos : ∀ e ∈ l, 0 < g e) :
    r < (l.map (fun e => r * g e / (l.map g).sum)).sum + l.length := by
  have hW : 0 < (l.map g).sum := by
    obtain ⟨e, he⟩ := List.exists_mem_of_ne_nil l hne
    exact Nat.lt_of_lt_of_le (hpos e he) (List.le_sum_of_mem (List.mem_map_of_mem he))
  have hlen : (l.map (fun e => r * g e / (l.map g).sum)).sum + l.length = (l.map (fun e => r * g e / (l.map g).sum + 1)).sum := by
    simp [List.sum_map_add]
  rw [hlen]
  refine Nat.lt_of_mul_lt_mul_right (a := (l.map g).sum) ?_
  rw [← List.sum_map_mul_right, ← List.sum_map_mul_left]
  refine List.sum_lt_sum_of_ne_nil hne _ _ fun e _ => ?_
  rw [Nat.mul_comm (_ + 1)]
  exact Nat.lt_mul_div_succ _ hW

/-- What the ports get together: the caps of those served, and the parts of those left. -/
theorem sumN_waterFill (total : Nat) (w cap : Nat → Nat) : sumN 64 (fun p => rd (waterFill total w cap) p) =
    ((filled total w cap).share.map (·.2)).sum
      + ((filled total w cap).act.map (fun e => (filled total w cap).rem * e.2.1 / (filled total w cap).ws)).sum := by
  have hok := filled_ok total w cap
  have hin {p : Nat} (h : p ∈ (filled total w cap).share.map (·.1) ++ (filled total w cap).act.map (·.1)) : p < 64 := (mem_idxs.mp (hok.ports.mem_iff.mp h)).1
  have hoff : ∀ p ∈ List.range 64, (decide (0 < w p) && decide (0 < cap p)) = false → rd (waterFill total w cap) p = 0 := fun p hp h =>
    rd_waterFill_of_none (List.mem_range.mp hp) (by simpa using h)
  have hperm : (((List.range 64).filter (fun p => decide (0 < w p) && decide (0 < cap p))).map (fun p => rd (waterFill total w cap) p)).sum = _ :=
    (hok.ports.map (fun p => rd (waterFill total w cap) p)).sum_eq.symm
  rw [sumN_eq_sum, ← sum_map_filter_of_zero hoff, hperm, List.map_append, List.sum_append, List.map_map, List.map_map]
  congr 2
  · refine List.map_congr_left fun e he => ?_
    have hm := List.mem_map_of_mem (f := Prod.fst) he
    exact (rd_waterFill_of_share (hin (List.mem_append_left _ hm)) hm).trans (hok.share e he).symm
  · refine List.map_congr_left fun e he => ?_
    have hm := List.mem_map_of_mem (f := Prod.fst) he
    rw [hok.act e he]
    exact rd_waterFill_of_act (hin (List.mem_append_right _ hm)) hm

end

/-- Settles O19, by the two ways a port can end the fill: served with its cap, or left with its part of what remains. -/
theorem waterFillStaysWithinTotalAndCaps : Obligations.WaterFillStaysWithinTotalAndCaps := by
  intro total w cap
  have hok := filled_ok total w cap
  have hsum := sumN_waterFill total w cap
  have htot := hok.sum
  refine ⟨fun p => ⟨?_, fun hw => rd_waterFill_of_none p.isLt (by omega)⟩, ?_, ?_⟩
  · by_cases h : 0 < w p ∧ 0 < cap p
    · rcases served_or_left (total := total) p.isLt h.1 h.2 with hs | ha
      · exact (rd_waterFill_of_share p.isLt hs).le
      · exact (left_facts ha).2.2.le
    · exact (rd_waterFill_of_none p.isLt h).le.trans (Nat.zero_le _)
  · have := sum_parts_le (filled total w cap).act (·.2.1) (filled total w cap).rem
    unfold Fill.ws at hsum
    omega
  · by_cases hnil : (filled total w cap).act = []
    · refine .inl fun p hw => ?_
      rcases Nat.eq_zero_or_pos (cap p) with h0 | hpos
      · exact (rd_waterFill_of_none p.isLt (by omega)).trans h0.symm
      · have := served_or_left (total := total) p.isLt hw hpos
        rw [hnil] at this
        exact rd_waterFill_of_share p.isLt (this.resolve_right List.not_mem_nil)
    · refine .inr ?_
      have hlt := lt_sum_parts_add_length (filled total w cap).rem hnil hok.pos
      have hnd : ((filled total w cap).act.map (·.1)).Nodup :=
        (List.nodup_append.mp (hok.ports.nodup_iff.mpr (State.nodup_idxs ..))).2.1
      have hlen := (hnd.subperm (l₂ := idxs 64 (fun p => decide (0 < w p) && decide (rd (waterFill total w cap) p < cap p))) fun p hp => by
        obtain ⟨hp64, hw, hc⟩ := left_facts hp
        exact mem_idxs.mpr ⟨hp64, by simp [hw, hc]⟩).length_le
      rw [List.length_map] at hlen
      unfold Fill.ws at hsum
      omega

end Machine
end Sys2Proof
end

section
/-! PROOFS. The commitment step (R53), the total step (R46, R47) and CLIP (R52). -/
set_option Elab.async false

namespace Sys2Proof

theorem sumN_congr {n : Nat} {f g : Nat → Nat} (h : ∀ p < n, f p = g p) : sumN n f = sumN n g := by
  rw [sumN_eq_sum, sumN_eq_sum]
  exact congrArg List.sum (List.map_congr_left fun p hp => h p (List.mem_range.mp hp))

theorem sumN_le_sumN {n : Nat} {f g : Nat → Nat} (h : ∀ p < n, f p ≤ g p) : sumN n f ≤ sumN n g := by
  rw [sumN_eq_sum, sumN_eq_sum]
  exact List.sum_le_sum fun p hp => h p (List.mem_range.mp hp)

theorem sumN_add (n : Nat) (f g : Nat → Nat) : sumN n (fun p => f p + g p) = sumN n f + sumN n g := by
  simp only [sumN_eq_sum, List.sum_map_add]

namespace Machine
namespace State

/-! ### The commitment step -/

/-- The targets of R51 and R52, for the shares of the division. -/
def commitTargets (s : State) : Tab (Nat × Bool × Nat) 64 := tgen 64 (fun p => s.targetOf (waterFill s.stake.v.bTotal s.weightOf s.capOf) p)

/-- The target the commitment step works with: an ineligible port has none. -/
def commitTgt (s : State) (p : Nat) : Nat := if (s.stkQ p).elig then (rd s.commitTargets p).1 else 0

/-- What the targets ask for beyond the stakes in use. -/
def commitAsk (s : State) : Nat := sumN 64 (fun p => s.commitTgt p - s.inUse p)

/-- What B_total leaves beyond the stakes in use. -/
def commitRoom (s : State) : Int := (s.stake.v.bTotal : Int) - (sumN 64 s.inUse : Nat)

/-- S_p of R53, before a shortfall bounds it. -/
def commitIssue (s : State) (p : Nat) : Nat :=
  if s.commitTgt p ≤ s.inUse p ∨ (s.commitAsk : Int) ≤ s.commitRoom then s.commitTgt p
  else if s.commitRoom ≤ 0 then s.inUse p else s.inUse p + (s.commitTgt p - s.inUse p) * s.commitRoom.toNat / s.commitAsk

/-- S_p as it is issued. -/
def commitS (s : State) (p : Nat) : Nat :=
  if !(s.stkQ p).elig then 0 else if s.stake.v.short then min (s.commitIssue p) (s.stk p).u else s.commitIssue p

/-- K_p. -/
def commitK (s : State) (p : Nat) : Nat := if !(s.stkQ p).elig then 0 else max (s.commitS p) (s.inUse p)

theorem stakeCommit_sumK (s : State) : s.stakeCommit.stake.v.sumK = sumN 64 s.commitK := by
  unfold stakeCommit
  extract_lets v el share t tgt f h r s0 sp kp cover ports
  exact congrArg (sumN 64) (funext fun p => show kp p = s.commitK p from rfl)

/-- A port's figures after the commitment step. -/
theorem stakeCommit_stk (p : Fin 64) (s : State) :
    (s.stakeCommit.stk p).s = s.commitS p ∧ (s.stakeCommit.stk p).k = s.commitK p ∧ (s.stakeCommit.stk p).tgt = s.commitTgt p
      ∧ (s.stakeCommit.stk p).clip = (rd s.commitTargets p).2.1 := by
  unfold stakeCommit
  extract_lets v el share t tgt f h r s0 sp kp cover ports
  have hp : (s.mdStake (fun v => { v with ports, sumS := sumN 64 sp, sumK := sumN 64 kp })).stk p = _ := rd_tgen _ _ p.isLt
  rw [hp]
  exact ⟨rfl, rfl, rfl, rfl⟩

/-- What the issues add to the stakes in use is no more than B_total leaves. -/
theorem sumN_max_commitIssue_le (s : State) : sumN 64 (fun p => max (s.commitIssue p) (s.inUse p)) ≤ max s.stake.v.bTotal (sumN 64 s.inUse) := by
  have hroom : s.commitRoom = (s.stake.v.bTotal : Int) - (sumN 64 s.inUse : Nat) := rfl
  by_cases hr : (s.commitAsk : Int) ≤ s.commitRoom
  · have h : sumN 64 (fun p => max (s.commitIssue p) (s.inUse p)) = sumN 64 (fun p => s.inUse p + (s.commitTgt p - s.inUse p)) :=
      sumN_congr fun p _ => by rw [commitIssue, if_pos (.inr hr)]; omega
    rw [h, sumN_add]
    unfold commitAsk at hr
    omega
  · by_cases h0 : s.commitRoom ≤ 0
    · refine (sumN_le_sumN fun p _ => ?_).trans (Nat.le_max_right ..)
      simp only [commitIssue, hr, h0, or_false, if_true]
      split <;> omega
    · have h : sumN 64 (fun p => max (s.commitIssue p) (s.inUse p))
          ≤ sumN 64 (fun p => s.inUse p + s.commitRoom.toNat * (s.commitTgt p - s.inUse p) / s.commitAsk) := by
        refine sumN_le_sumN fun p _ => ?_
        simp only [commitIssue, hr, h0, or_false, if_false, Nat.mul_comm s.commitRoom.toNat]
        split
        · rename_i hle
          exact max_le (hle.trans (Nat.le_add_right ..)) (Nat.le_add_right ..)
        · exact max_le (Nat.le_refl _) (Nat.le_add_right ..)
      refine h.trans ?_
      have hparts := sum_parts_le (List.range 64) (fun p => s.commitTgt p - s.inUse p) s.commitRoom.toNat
      rw [← sumN_eq_sum, ← sumN_eq_sum] at hparts
      rw [sumN_add]
      unfold commitAsk
      omega

theorem commitK_le (s : State) (p : Nat) : s.commitK p ≤ max (s.commitIssue p) (s.inUse p) := by
  unfold commitK commitS
  split
  · exact Nat.zero_le _
  · split <;> omega

theorem commitS_le_commitK (s : State) (p : Nat) : s.commitS p ≤ s.commitK p := by
  unfold commitK
  split
  · rename_i h
    rw [commitS, if_pos h]
  · exact Nat.le_max_left ..

end State

/-- Settles O20. -/
theorem commitmentStaysWithinTheTotal : Obligations.CommitmentStaysWithinTheTotal := by
  refine fun s => ⟨?_, ?_, fun p => ?_⟩
  · rw [s.stakeCommit_sumK]
    exact (sumN_le_sumN fun p _ => s.commitK_le p).trans s.sumN_max_commitIssue_le
  · rw [s.stakeCommit_sumK]
    exact sumN_congr fun p hp => ((State.stakeCommit_stk ⟨p, hp⟩ s).2.1).symm
  · obtain ⟨hs, hk, -, -⟩ := State.stakeCommit_stk p s
    rw [hs, hk]
    exact ⟨s.commitS_le_commitK p, fun he => if_pos (by rw [he]; rfl)⟩

/-! ### The total step -/

/-- Settles O21. -/
theorem totalStep : Obligations.TotalStep := by
  intro s t
  refine ⟨rfl, ?_, rfl, rfl, decide_eq_true_iff⟩
  intro m num den
  have hnum : num = s.numOf s.stake.v.ePot := (Int.fdiv_eq_ediv_of_nonneg _ (Int.natCast_nonneg _)).symm
  have hbE : t.bE = s.bEOf s.stake.v.bwV s.stake.v.ePot := rfl
  rw [hbE, hnum, State.bEOf]
  refine ⟨fun h => if_pos h, fun hn hb hd => ?_⟩
  have hden : s.denOf s.stake.v.bwV = den := by rw [State.denOf, ceilDiv, if_neg hb]
  rw [if_neg (by omega), hden, if_neg hd]

/-! ### CLIP -/

/-- A word's bit 0, where its other fields lie above it. -/
theorem word_bit0 (b : Bool) (fs : List Fld) (h : ∀ f ∈ fs, 0 < f.1) : (word (bf 0 b :: fs)).getLsbD 0 = b := by
  have heven : 2 ∣ (fs.map (fun f => (f.2.2 % 2 ^ f.2.1) <<< f.1)).sum := List.dvd_sum fun x hx => by
    obtain ⟨f, hf, rfl⟩ := List.mem_map.mp hx
    rw [Nat.shiftLeft_eq]
    exact Dvd.dvd.mul_left (dvd_pow_self 2 (h f hf).ne') _
  unfold word
  rw [foldl_add_eq_sum, List.map_cons, List.sum_cons, BitVec.getLsbD_ofNat, Nat.testBit_zero]
  obtain ⟨k, hk⟩ := heven
  rw [hk]
  cases b <;> simp [bf]

/-- STAKE.PST[p] shows CLIP in bit 0 (R52). -/
theorem peek_pst_bit0 (p : Fin 64) (s : State) : (s.peek (0x060400 + 4 * p)).getLsbD 0 = (rd s.stkShown.ports p).clip := by
  have hb : (0x060400 + 4 * p.val) / 0x10000 = 6 := by omega
  have ho : (0x060400 + 4 * p.val) % 0x10000 = 0x400 + 4 * p := by omega
  have ha : State.arr (0x400 + 4 * p.val) 0x100 0x100 4 = some (3, 4 * p.val) := by
    have hk : (0x400 + 4 * p.val - 0x100) / 0x100 = 3 := by omega
    have hr : (0x400 + 4 * p.val - 0x100) % 0x100 = 4 * p := by omega
    simp (disch := omega) only [State.arr, Bool.and_eq_true, decide_eq_true_eq, if_pos, hk, hr]
  have hq : 4 * p.val / 4 = p := by omega
  simp (disch := omega) only [State.peek, State.regAt, Bool.and_eq_true, decide_eq_true_eq, if_neg, hb, ho, State.stakeReg, ha, Option.getD_some, hq]
  exact word_bit0 _ _ (by simp [bf])

theorem State.capOf_le (s : State) (p : Nat) : s.capOf p ≤ 4096 := by
  unfold State.capOf
  split
  · exact Nat.min_le_left ..
  · exact Nat.zero_le _

/-- Settles O60. -/
theorem clipReadsACeilingAboveTheHardware : Obligations.ClipReadsACeilingAboveTheHardware := by
  intro s p hh hs hw
  obtain ⟨-, -, htgt, hclip⟩ := State.stakeCommit_stk p s
  have hlim : min (rd (waterFill s.stake.v.bTotal s.weightOf s.capOf) p) (s.capOf p) = hw := by
    have := s.capOf_le p
    unfold hw
    omega
  have hrd : rd s.commitTargets p = s.targetOf (waterFill s.stake.v.bTotal s.weightOf s.capOf) p := rd_tgen _ _ p.isLt
  have hshown : s.stakeCommit.stkShown = s.stakeCommit.stake.v := by
    have hhold : s.stakeCommit.stake.hold = none := hh
    have hstandby : s.stakeCommit.pair.standby = false := hs
    simp [State.stkShown, State.stkNow, hhold, hstandby]
  refine ⟨?_, fun hen hlt he => ?_⟩
  · rw [peek_pst_bit0, hshown, hclip, hrd]
    simp [State.targetOf, hlim]
  · rw [htgt, State.commitTgt, if_pos he, hrd]
    simp only [State.targetOf, hlim, hen, if_true]
    exact Nat.min_eq_left hlt.le

end Machine
end Sys2Proof
end

section
/-! PROOFS. The stake engine's commands (R52, R58, R60, R67, R422, R479). -/
set_option Elab.async false

namespace Sys2Proof.Machine
namespace State

/-! ### Port records -/

theorem shortRec_length {s : State} (go : Bool) (h : s.ledg.pr1.run = true) : (s.shortRec go).ledg.queue.length = s.ledg.queue.length + 1 := by
  unfold shortRec
  dsimp only
  rw [if_pos h]
  exact List.length_append

/-- The end of a shortfall: the record of its interval, and its source is live no more. -/
theorem endShort_eq {s : State} (h : s.stake.v.short = true) : s.endShort = ((s.shortRec false).mdStake (fun v => { v with short := false })).follow 72 0xFFFF false :=
  if_pos h

theorem agree_endShort_self (s : State) : Agree 0x86000 s s.endShort := agree_endShort rfl s (.refl _ s)

/-- The hourly record starts the next interval. -/
theorem shortRec_hourly {s : State} (h : s.ledg.pr1.run = true) : (s.shortRec true).ledg.pr1 = s.startRec := by
  unfold shortRec
  dsimp only
  rw [if_pos h]
  rfl

/-! ### Host settings -/

/-- MARGIN takes the written figure within the image's least and 4. -/
theorem marginReg_margin (w : Word) (s : State) (h : s.im.pol.mMin ≤ 0x400) : (s.marginReg w).stake.margin = max s.im.pol.mMin (min 0x400 (bitsOf w 15 0)) := by
  simp only [marginReg]
  split
  · omega
  · split <;> omega

theorem viewHold_hold (v : StkVals) (w : Word) (s : State) :
    (s.viewHold v w).stake.hold = if w.getLsbD 0 then some (s.stake.hold.getD v) else none := by
  unfold viewHold
  cases s.stake.hold <;> rfl

/-! ### A port without reports -/

theorem lk_mdLk (p : Fin 64) (f : Link → Link) (s : State) : (s.mdLk p f).lk p = f (s.lk p) := rd_md_self _ _ _ p.isLt

theorem lk_linkLost (p q : Nat) (s : State) : (s.linkLost p).lk q = s.lk q := congrArg (fun l => rd l q) (follow_links ..)

/-- A condition of Table 03-9 leaves the link as it is but for its error bit. -/
theorem lk_portErr (p : Fin 64) (bit : Nat) (s : State) : (s.portErr p bit).lk p = { s.lk p with err := (s.lk p).err ||| BitVec.ofNat 32 (2 ^ bit) } :=
  (congrArg (fun l => rd l p.val) (raiseTurn_links ..)).trans (lk_mdLk p _ s)

/-- RECOVER leaves the errors as they stand. -/
theorem toRecover_err (p : Fin 64) (s : State) : ((s.toRecover p).lk p).err = (s.lk p).err := by
  unfold toRecover
  dsimp only
  split
  · rfl
  · rw [lk_linkLost, lk_mdLk]

/-- Of the sub-sources RECOVER moves the port's link-lost alone. -/
theorem toRecover_subLive (p : Nat) (s : State) {a b : Nat} (h : ¬(a = p ∧ b = 10)) : (s.toRecover p).subLive a b = s.subLive a b := by
  unfold toRecover
  dsimp only
  split
  · rfl
  · exact follow_other _ p 10 _ h

/-- A link in UP goes to RECOVER. -/
theorem toRecover_rcv {p : Fin 64} {s : State} (hu : s.upper p = false) (hst : (s.lk p).st = 4) (hf : (s.lk p).failed = false) :
    ((s.toRecover p).lk p).rcv = true := by
  unfold toRecover
  dsimp only
  split
  · rename_i h
    simpa [hu, hst, hf] using h
  · rw [lk_linkLost, lk_mdLk]

/-- The port's missing reports are marked as seen, and counted anew. -/
def seeMissing (p : Nat) (s : State) : State := s.mdStkQ p (fun q => { q with missSeen := true, missRun := 0 })

theorem reportsMissing_eq {p : Nat} {s : State} (h : 3 ≤ (s.stkQ p).missRun) : s.reportsMissing p = ((s.seeMissing p).portErr p 8).toRecover p := if_pos h

theorem agree_missing {m : Nat} (hm : 0x42000 ||| m = m) {p : Nat} {s t : State} (h : Agree m s t) : Agree m s ((t.portErr p 8).toRecover p) :=
  agree_toRecover hm p _ (agree_portErr hm p 8 _ h)

theorem upper_portErr (p bit q : Nat) (s : State) : (s.portErr p bit).upper q = s.upper q := by
  simp only [upper, bonded, im, portErr, raiseTurn_bimg]
  rfl

theorem err_bit (w : Word) {bit : Nat} (h : bit < 32) : (w ||| BitVec.ofNat 32 (2 ^ bit)).getLsbD bit = true := by
  rw [BitVec.getLsbD_or, BitVec.getLsbD_ofNat, Nat.testBit_two_pow_self]
  simp [h]

end State

/-- Settles O17, command by command. -/
theorem stakeCommands : Obligations.StakeCommands := by
  refine ⟨fun s hc hs hsh hr => ⟨_, exec_on hc, ?_⟩, fun p s hc h => ⟨_, exec_on hc, ?_⟩, fun p s hc h => ⟨_, exec_on hc, ?_⟩, fun p s hc h => ⟨_, exec_on hc, ?_⟩,
    fun s hc hr ht => ⟨_, exec_on hc, ?_⟩, fun s hc hr ht => ⟨_, exec_on hc, ?_⟩, fun w s hf hm => ⟨_, rfl, ?_⟩, fun w s hf => ⟨_, rfl, ?_⟩⟩
  · have e : s.shortfallEnd = s.endShort := if_pos (by simp [hsh, hr, hs])
    rw [e]
    refine ⟨congrArg StkVals.short s.endShort_v, ?_, ?_, s.agree_endShort_self.sameBut rfl, fun hrun => ?_⟩ <;> rw [State.endShort_eq hsh]
    · exact State.follow_live ..
    · rw [State.follow_ledg]
      rfl
    · rw [State.follow_ledg]
      exact State.shortRec_length false hrun
  · dsimp only
    by_cases hl : s.subLive (64 + p.val / 8) p = true
    · rw [show s.overstakeRun p = s from if_neg (by simp [hl])]
      exact ⟨hl, (State.Agree.refl 0x2000 s).sameBut rfl⟩
    · rw [show s.overstakeRun p = s.raise (64 + p / 8) p none from if_pos (by simp [hl, h])]
      exact ⟨State.raise_live .., (State.agree_raise rfl _ _ _ s (.refl 0x2000 s)).sameBut rfl⟩
  · exact if_neg (by simp [h])
  · dsimp only
    rw [State.reportsMissing_eq h]
    have hlk := State.lk_portErr p 8 (s.seeMissing p)
    refine ⟨?_, ?_, ?_, fun hu => ?_, (State.agree_missing rfl (State.agree_mdStkQ rfl p.val _ s (.refl 0xC2000 s))).sameBut rfl⟩
    · rw [State.stkQ, (State.agree_missing rfl (.refl 0x42000 (s.seeMissing p))).stake rfl]
      exact congrArg StkQ.missSeen (State.stkQ_mdStkQ p _ s)
    · rw [State.toRecover_err, hlk]
      exact State.err_bit _ (by decide)
    · rw [State.toRecover_subLive p _ (by omega)]
      exact State.raiseTurn_live ..
    · simp only [State.linkUp, Bool.and_eq_true, Bool.not_eq_true', beq_iff_eq] at hu
      obtain ⟨⟨⟨hup, hst⟩, -⟩, hfail⟩ := hu
      exact State.toRecover_rcv ((State.upper_portErr ..).trans hup) (hlk ▸ hst) (hlk ▸ hfail)
  · dsimp only
    rw [show s.shortHourly = s.shortRec true from if_pos (by simp [hr, ht])]
    have hrec := s.shortRec_hourly hr
    exact ⟨State.shortRec_length true hr, congrArg PortRecSt.run hrec, congrArg PortRecSt.turns hrec, congrArg PortRecSt.start hrec,
      (State.agree_shortRec rfl true s (.refl 0x4000 s)).sameBut rfl⟩
  · have e : s.uncovRec = _ := if_pos (by simp [hr, ht])
    have ha := (State.agree_uncovRec rfl s (.refl 0x4000 s)).sameBut (ps := [.ledg]) rfl
    rw [e] at ha
    dsimp only
    rw [e]
    exact ⟨List.length_append, rfl, ha⟩
  · dsimp only
    rw [State.rpWrite_portFree hf]
    exact ⟨State.marginReg_margin w (s.rpData 0) hm, rfl, rfl, (State.agree_marginReg rfl w _ (State.agree_rpData rfl 0 s (.refl 0x81000 s))).sameBut rfl⟩
  · dsimp only
    rw [State.rpWrite_portFree hf]
    refine ⟨rfl, rfl, ?_, fun hw hh => ?_, (State.agree_viewHold rfl _ w _ (State.agree_rpData rfl 0 s (.refl 0x81000 s))).sameBut rfl⟩ <;> rw [State.viewHold_hold]
    · cases w.getLsbD 0 <;> cases h : s.stake.hold <;> simp [State.rpData, h]
    · obtain ⟨v, hv⟩ := Option.isSome_iff_exists.mp hh
      simp [State.rpData, hw, hv]

end Sys2Proof.Machine
end

section
/-! PROOFS. The end of the log scan (R218, R234): with members that are all short of their reserve no sled is healthy, and the scan ends without SCAN_DONE. -/
set_option Elab.async false

namespace Sys2Proof.Machine
open State

/-- Rise, with four members whose reserve is short (R189), their block maps complete and the log scan of all but sled 3 done. -/
def membersShortOfReserve : State :=
  { State.reset with
    top := { state := .rise }, pins := { rails := tall 6 true, sledPrs := tall 4 true }, pair := { drv := true }
    vault := { founded := true, sleds := tgen 4 (fun x => { cls := 6, pwr := true, up := true, mapDone := true, scanDone := x != 3, short := true, need := 1 }) }
    stage := { scan := true } }

/-- Refutes O30, in its clause on the log scan: sled 3 is the last to be scanned, but no sled is healthy, so SCAN_DONE stays 0. -/
theorem not_vaultCommands : ¬ Obligations.VaultCommands := by
  unfold Obligations.VaultCommands
  rintro ⟨-, -, -, -, -, -, logScan, -⟩
  have hothers : ∀ y : Fin 4, y ≠ 3 → (membersShortOfReserve.sled y).scanDone = true := by decide +kernel
  have hc : membersShortOfReserve.ctlOn = true := by decide +kernel
  obtain ⟨t, ht, -, hdone⟩ := logScan 3 membersShortOfReserve hc (by decide +kernel) (by decide +kernel) (by decide +kernel)
  obtain rfl : membersShortOfReserve.logScanDone (3 : Fin 4) = t := Host.Outcome.next.inj ((exec_on hc).symm.trans ht)
  have hscanned : (membersShortOfReserve.logScanDone (3 : Fin 4)).stage.scanned = false := by decide +kernel
  exact absurd (hscanned.symm.trans (hdone hothers).1) Bool.false_ne_true

end Sys2Proof.Machine
end

section
/-! PROOFS. A cache port's message layer (R87, R88): what sending, acknowledging and receiving leave of the port's link record, and what an adapter's
message out of sequence changes (Table 03-9). -/
set_option Elab.async false

namespace Sys2Proof.Machine

/-! ### The replay buffer's channel -/

theorem Chan.put_foldl_eq {α : Type} (l : List α) (c : Chan α) : ∃ n b, l.foldl (fun d m => d.put m) c = { c with seq := n, buf := c.buf ++ b } := by
  induction l generalizing c with
  | nil => exact ⟨c.seq, [], by simp⟩
  | cons m l ih =>
    obtain ⟨n, b, e⟩ := ih (c.put m)
    refine ⟨n, (c.seq, m) :: b, ?_⟩
    rw [List.foldl_cons, e]
    simp [Chan.put]

/-- Messages that waited go behind those kept for replay. -/
theorem Chan.fill_eq {α : Type} (k : Nat) (c : Chan α) : ∃ n b w, c.fill k = { c with seq := n, buf := c.buf ++ b, wait := w } := by
  obtain ⟨n, b, e⟩ := Chan.put_foldl_eq (c.first k) c
  exact ⟨n, b, _, by rw [Chan.fill, e]⟩

theorem Chan.fill_prefix {α : Type} (k : Nat) (c : Chan α) : c.buf <+: (c.fill k).buf := by
  obtain ⟨n, b, w, e⟩ := c.fill_eq k
  exact ⟨b, by rw [e]⟩

theorem Chan.fill_expect {α : Type} (k : Nat) (c : Chan α) : (c.fill k).expect = c.expect := by
  obtain ⟨n, b, w, e⟩ := c.fill_eq k
  rw [e]

theorem Chan.fill_tries {α : Type} (k : Nat) (c : Chan α) : (c.fill k).tries = c.tries := by
  obtain ⟨n, b, w, e⟩ := c.fill_eq k
  rw [e]

/-- Nothing is sent where nothing waits, or where the buffer has no room. -/
theorem Chan.fill_none {α : Type} {k : Nat} {c : Chan α} (h : k = 0 ∨ c.wait = [] ∨ 1024 ≤ c.buf.length) : c.fill k = c := by
  have hf : c.first k = [] := by
    rcases h with h | h | h
    · simp [Chan.first, h]
    · simp [Chan.first, h]
    · simp [Chan.first, Nat.sub_eq_zero_of_le h]
  have hw : c.wait.drop (min k (1024 - c.buf.length)) = c.wait := by
    rcases h with h | h | h
    · simp [h]
    · simp [h]
    · simp [Nat.sub_eq_zero_of_le h]
  rw [Chan.fill, hf, hw]
  rfl

namespace State

/-! ### The port's link record -/

theorem wr_wr {α : Type} {n : Nat} (v : Tab α n) (i : Nat) (x y : α) : wr (wr v i x) i y = wr v i y := by simp [wr]

theorem mdLk_mdLk {p : Nat} (hp : p < 64) (f g : Link → Link) (s : State) : (s.mdLk p f).mdLk p g = s.mdLk p (fun l => g (f l)) := by
  simp only [mdLk, md, rd_wr_self _ _ _ hp, wr_wr]

theorem mdLk_self (p : Nat) (s : State) : s.mdLk p (fun l => l) = s := by
  have h : wr s.links p (rd s.links p) = s.links := by
    apply Vector.toList_inj.mp
    simp only [wr, rd, List.getD_eq_getElem?_getD]
    apply List.ext_getElem?
    intro i
    rw [Vector.toList_mk, List.getElem?_set]
    grind
  simp only [mdLk, md, h]

/-- From `s` to `t` the message layer of port `p` alone has moved: its channel, and the bytes counted toward it. -/
def ChanMoved (p : Nat) (s t : State) : Prop := ∃ c m n, t = s.mdLk p (fun l => { l with chan := c, curRep := m, curTot := n })

theorem ChanMoved.refl (p : Nat) (s : State) : ChanMoved p s s := ⟨(s.lk p).chan, (s.lk p).curRep, (s.lk p).curTot, (mdLk_self p s).symm⟩

theorem ChanMoved.trans {p : Nat} (hp : p < 64) {s t u : State} (h : ChanMoved p s t) (h' : ChanMoved p t u) : ChanMoved p s u := by
  obtain ⟨c, m, n, rfl⟩ := h
  obtain ⟨d, i, j, rfl⟩ := h'
  exact ⟨d, i, j, mdLk_mdLk hp ..⟩

theorem ChanMoved.agree {p : Nat} {s t : State} (h : ChanMoved p s t) : Agree 0x40000 s t := by
  obtain ⟨c, m, n, e⟩ := h
  exact e ▸ agree_mdLk rfl p _ s (.refl _ s)

theorem ChanMoved.other {p q : Nat} (hq : q ≠ p) {s t : State} (h : ChanMoved p s t) : t.lk q = s.lk q := by
  obtain ⟨c, m, n, e⟩ := h
  exact e ▸ rd_md_ne _ _ _ _ hq.symm

/-- All else of the link's record is as it was. -/
theorem ChanMoved.lk {p : Fin 64} {s t : State} (h : ChanMoved p s t) : ∃ c m n, t.lk p = { s.lk p with chan := c, curRep := m, curTot := n } := by
  obtain ⟨c, m, n, rfl⟩ := h
  exact ⟨c, m, n, lk_mdLk p _ s⟩

theorem ChanMoved.upper {p : Nat} {s t : State} (h : ChanMoved p s t) (q : Nat) : t.upper q = s.upper q := by
  simp only [State.upper, bonded, im, h.agree.bimg rfl]

theorem ChanMoved.linkMsgs {p : Fin 64} {s t : State} (h : ChanMoved p s t) : t.linkMsgs p = s.linkMsgs p := by
  obtain ⟨c, m, n, e⟩ := h.lk
  simp only [State.linkMsgs, h.upper, e]

theorem ChanMoved.linkUp {p : Fin 64} {s t : State} (h : ChanMoved p s t) : t.linkUp p = s.linkUp p := by
  obtain ⟨c, m, n, e⟩ := h.lk
  simp only [State.linkUp, h.upper, e]

theorem chanMoved_mdLk (p : Nat) (f : Chan HclOut → Chan HclOut) (s : State) : ChanMoved p s (s.mdLk p (fun l => { l with chan := f l.chan })) :=
  ⟨f (s.lk p).chan, (s.lk p).curRep, (s.lk p).curTot, rfl⟩

theorem chanMoved_forL {α : Type} (p : Fin 64) {f : α → State → State} (hf : ∀ x t, ChanMoved p t (f x t)) (l : List α) (s : State) : ChanMoved p s (forL l f s) :=
  forL_keeps (P := ChanMoved p s) (fun _ _ h => h.trans p.isLt (hf ..)) l (.refl p s)

theorem chanMoved_countBytes (p w : Nat) (b : Bool) (s : State) : ChanMoved p s (s.countBytes p w b) :=
  ⟨(s.lk p).chan, (s.lk p).curRep + (if b then 8 * w else 0), (s.lk p).curTot + 8 * w, rfl⟩

/-- Counting bytes leaves the channel. -/
theorem forL_countBytes_chan {α : Type} (p : Fin 64) (w : α → Nat) (b : Bool) (l : List α) (s : State) :
    ((forL l (fun x t => t.countBytes p (w x) b) s).lk p).chan = (s.lk p).chan :=
  forL_keeps (P := fun u => (u.lk p).chan = (s.lk p).chan) (fun x u h => by rw [countBytes, lk_mdLk]; exact h) l rfl

/-- Waiting messages that may go leave for the replay buffer. -/
theorem portFill_moved (p : Fin 64) (s : State) : ChanMoved p s (s.portFill p) ∧ ((s.portFill p).lk p).chan = (s.lk p).chan.fill (s.portFree p) := by
  unfold portFill
  extract_lets k
  split
  · next h => exact ⟨.refl p s, (Chan.fill_none (.inl h)).symm⟩
  · refine ⟨(chanMoved_forL p (fun _ _ => chanMoved_countBytes ..) _ s).trans p.isLt (chanMoved_mdLk ..), ?_⟩
    rw [lk_mdLk, forL_countBytes_chan]

theorem send_moved (p : Fin 64) (m : HclOut) (s : State) : ChanMoved p s (s.send p m) := by
  unfold send
  split
  · exact .refl p s
  · exact (chanMoved_mdLk ..).trans p.isLt (portFill_moved ..).1

theorem sendNow_moved (p : Fin 64) (m : HclOut) (s : State) : ChanMoved p s (s.sendNow p m) ∧ (s.lk p).chan.buf <+: ((s.sendNow p m).lk p).chan.buf := by
  unfold sendNow
  split
  · refine ⟨(chanMoved_mdLk p (fun c => { c with wait := m :: c.wait }) s).trans p.isLt (portFill_moved ..).1, ?_⟩
    rw [(portFill_moved ..).2, lk_mdLk]
    exact Chan.fill_prefix _ { (s.lk p).chan with wait := m :: (s.lk p).chan.wait }
  · exact ⟨.refl p s, List.prefix_rfl⟩

theorem replay_moved (p : Fin 64) (s : State) : ChanMoved p s (s.replay p) ∧ ((s.replay p).lk p).chan = (s.lk p).chan :=
  ⟨chanMoved_forL p (fun _ _ => chanMoved_countBytes ..) _ s, forL_countBytes_chan ..⟩

/-! ### A message's header -/

/-- What the header's ACK names goes, and what waited for the room follows. -/
def ackedBy (p : Nat) (h : Hdr) (s : State) : State := if h.ackV then (s.mdLk p (fun l => { l with chan := l.chan.ack h.ack.toNat })).portFill p else s

theorem ackedBy_moved (p : Fin 64) (h : Hdr) (s : State) : ChanMoved p s (s.ackedBy p h) ∧ ((s.ackedBy p h).lk p).chan.expect = (s.lk p).chan.expect := by
  unfold ackedBy
  split
  · refine ⟨(chanMoved_mdLk ..).trans p.isLt (portFill_moved ..).1, ?_⟩
    rw [(portFill_moved ..).2, lk_mdLk]
    exact (Chan.fill_expect ..).trans (Chan.ack_expect ..)
  · exact ⟨.refl p s, rfl⟩

/-- A header in sequence is taken. -/
def portTaken (p : Nat) (h : Hdr) (s : State) : State := (s.ackedBy p h).mdLk p (fun l => { l with chan := l.chan.accept })

/-- A header out of sequence is dropped: a NAK of the SEQ expected, and a count. -/
def portDropped (p : Nat) (h : Hdr) (s : State) : State :=
  (s.ackedBy p h).mdLk p (fun l => { l with chan := { l.chan with nak := some (s.lk p).chan.expect }, cntCrc := satAdd 0xFFFF l.cntCrc 1 })

theorem portTaken_moved (p : Fin 64) (h : Hdr) (s : State) : ChanMoved p s (s.portTaken p h) := (ackedBy_moved p h s).1.trans p.isLt (chanMoved_mdLk ..)

theorem receive_inSeq {p : Fin 64} {h : Hdr} {s : State} (hq : InSeq p h s) (f : State → State) : s.receive p h f = f (s.portTaken p h) := by
  obtain ⟨-, hm, hok, he⟩ := hq
  have e : s.rxHdr p h = (true, s.portTaken p h) := by
    unfold rxHdr
    rw [if_neg (by simp [hm])]
    change (if ((s.ackedBy p h).lk p).chan.expect ≠ h.seq.toNat then _ else _) = _
    rw [if_neg (by rw [(ackedBy_moved p h s).2, he]; exact not_not_intro rfl)]
    exact if_pos hok
  simp [receive, e]

theorem receive_outOfSeq {p : Fin 64} {h : Hdr} {s : State} (hm : s.linkMsgs p = true) (he : (s.lk p).chan.expect ≠ h.seq.toNat) (f : State → State) :
    s.receive p h f = s.portDropped p h := by
  have hx := (ackedBy_moved p h s).2
  have e : s.rxHdr p h = (false, s.portDropped p h) := by
    unfold rxHdr portDropped
    rw [if_neg (by simp [hm])]
    change (if ((s.ackedBy p h).lk p).chan.expect ≠ h.seq.toNat then _ else _) = _
    rw [if_pos (hx ▸ he), ← hx]
    rfl
  simp [receive, e]

/-- What a dropped message leaves. -/
theorem portDropped_facts (p : Fin 64) (h : Hdr) (s : State) : SameBut [.links] s (s.portDropped p h)
    ∧ ((s.portDropped p h).lk p).chan.nak = some (s.lk p).chan.expect ∧ ((s.portDropped p h).lk p).chan.expect = (s.lk p).chan.expect
    ∧ ((s.portDropped p h).lk p).cntCrc = satAdd 0xFFFF (s.lk p).cntCrc 1 ∧ ∀ q : Fin 64, q ≠ p → (s.portDropped p h).lk q = s.lk q := by
  obtain ⟨hm, hx⟩ := ackedBy_moved p h s
  obtain ⟨c, m, n, e⟩ := hm.lk
  have hlk := lk_mdLk p (fun l => { l with chan := { l.chan with nak := some (s.lk p).chan.expect }, cntCrc := satAdd 0xFFFF l.cntCrc 1 }) (s.ackedBy p h)
  refine ⟨(agree_mdLk rfl p.val _ _ hm.agree).sameBut rfl, ?_, ?_, ?_, fun q hq => ?_⟩
  · rw [portDropped, hlk]
  · rw [portDropped, hlk]
    exact hx
  · rw [portDropped, hlk, e]
  · have hv : q.val ≠ p.val := fun e => hq (Fin.ext e)
    exact (rd_md_ne _ _ _ _ hv.symm).trans (hm.other hv)

end State

/-- An adapter's message acts through its header: on a state in which it is taken, and on no other. -/
theorem exec_fromAdapter {c : Instr} {p : Fin 64} {h : Hdr} (hc : fromAdapter c = some (p, h)) (s : State) :
    ∃ f, exec c s = .next (s.onCtl (fun t => t.receive p h f)) := by
  unfold fromAdapter at hc
  split at hc <;> cases hc <;> exact ⟨_, rfl⟩

/-- Settles O24: whatever the message would do, it does it through `receive`, which drops it. -/
theorem outOfSequenceMessagesAreDropped : Obligations.OutOfSequenceMessagesAreDropped := by
  refine ⟨fun c p h s hf hc hm he => ?_, fun p h m s hc hm he => ⟨s.portDropped p h, ?_, s.portDropped_facts p h⟩⟩
  · obtain ⟨f, e⟩ := exec_fromAdapter hf s
    exact ⟨s.portDropped p h, by rw [e, State.onCtl_on s hc, State.receive_outOfSeq hm he], s.portDropped_facts p h⟩
  · exact (exec_on hc).trans (by rw [State.receive_outOfSeq hm he])

end Sys2Proof.Machine
end

section
/-! PROOFS. TRAIN_2 and the replay buffer (R86, R88): the REQ of IDENT waits like any message while 1,024 are unacknowledged, as they can be in RECOVER, which keeps them. -/
set_option Elab.async false

namespace Sys2Proof.Machine
open State

/-- Port 0 trains again in RECOVER, on two lanes; its replay buffer stands full. -/
def trainedWithFullBuffer : State :=
  { State.reset with
    top := { state := .ready }, pins := { rails := tall 6 true }
    links := wr (tall 64 {}) 0 { st := 2, rcv := true, lanes := 3, chan := { seq := 1024, buf := (List.range 1024).map (fun n => (n, .cancel 0)) } } }

/-- Refutes O22, in its clause on TRAIN_2: IDENT is entered, but with 1,024 messages unacknowledged the REQ waits for room (R88) and the replay buffer stays as it is. -/
theorem not_linkTraining : ¬ Obligations.LinkTraining := by
  unfold Obligations.LinkTraining
  rintro ⟨-, -, -, -, -, train2, -⟩
  have hc : trainedWithFullBuffer.ctlOn = true := by decide +kernel
  obtain ⟨t, ht, -, -, -, hbuf⟩ := train2 0 2 trainedWithFullBuffer hc (by decide +kernel) (by decide +kernel) (by decide +kernel)
  obtain rfl : trainedWithFullBuffer.train2 (0 : Fin 64) 2 = t := Host.Outcome.next.inj ((exec_on hc).symm.trans ht)
  have hkept : ((trainedWithFullBuffer.train2 (0 : Fin 64) 2).lk (0 : Fin 64)).chan.buf.length = 1024 := by decide +kernel
  have hfull : (trainedWithFullBuffer.lk (0 : Fin 64)).chan.buf.length = 1024 := by decide +kernel
  have hlen := congrArg List.length hbuf
  rw [hkept, List.length_append, hfull] at hlen
  exact absurd hlen (by decide)

end Sys2Proof.Machine
end

section
/-! PROOFS. The message layer on the three kinds of link (R79, R87, R88, R115, R353): words and bytes, ACK and NAK, replay, protocol errors. -/
set_option Elab.async false

namespace Sys2Proof.Machine

/-! ### Words and bytes (Tables 03-4 and 03-5) -/

theorem readHdr_hdrWord {type len : Nat} (seq ack : BitVec 12) (ackV : Bool) (ht : type < 256) (hl : len < 65536) :
    readHdr (hdrWord type seq.toNat ack.toNat ackV len) = (type, len, { seq, ack, ackV, ok := true }) := by
  have hs := seq.isLt
  have ha := ack.isLt
  have hb : ackV.toNat ≤ 1 := Bool.toNat_le ackV
  generalize hw : hdrWord type seq.toNat ack.toNat ackV len = w
  simp only [hdrWord] at hw
  have h1 : w % 2 ^ 8 = type := by omega
  have h2 : w / 2 ^ 48 % 2 ^ 16 = len := by omega
  have h3 : BitVec.ofNat 12 (w / 2 ^ 16) = seq := BitVec.eq_of_toNat_eq (by rw [BitVec.toNat_ofNat]; omega)
  have h4 : BitVec.ofNat 12 (w / 2 ^ 28) = ack := BitVec.eq_of_toNat_eq (by rw [BitVec.toNat_ofNat]; omega)
  have h5 : w.testBit 40 = ackV := by
    rw [Nat.testBit_eq_decide_div_mod_eq, show w / 2 ^ 40 % 2 = ackV.toNat by omega]
    cases ackV <;> rfl
  have h6 : w / 2 ^ 8 % 2 ^ 8 = 1 := by omega
  have h7 : w / 2 ^ 41 % 2 ^ 7 = 0 := by omega
  simp only [readHdr, h1, h2, h3, h4, h5, h6, h7, beq_self_eq_true, Bool.and_self]

theorem length_leBytes (n v : Nat) : (leBytes n v).length = n := by
  induction n generalizing v with
  | zero => rfl
  | succ n ih => rw [leBytes, List.length_cons, ih]

theorem length_words8 (n : Nat) (b : List Byte) : (words8 n b).length = n := by
  induction n generalizing b with
  | zero => rfl
  | succ n ih => rw [words8, List.length_cons, ih]

/-- A CONFIRM's entries take a word for two. -/
theorem length_confirmWords (es : List (Nat × Nat)) : (confirmWords es).length = (es.length + 1) / 2 := by
  induction es using confirmWords.induct with
  | case1 => rfl
  | case2 => simp [confirmWords]
  | case3 a b es ih =>
    simp only [confirmWords, List.length_cons, ih]
    omega

/-- A message has its header, its body and its trailer. -/
theorem HclOut.words_eq (m : HclOut) : m.words = m.body.length + 2 := by
  cases m with
  | stake m => simp only [words, body, List.length_append, List.length_cons, List.length_nil, length_words8]
  | write sq chunk gen tag data => simp only [words, body, List.length_cons, length_words8]
  | confirm turn es =>
    simp only [words, body, List.length_cons, length_confirmWords]
    omega
  | _ => rfl

theorem length_flatMap_leBytes (n : Nat) (l : List Nat) : (l.flatMap (leBytes n)).length = n * l.length := by
  induction l with
  | nil => rfl
  | cons a l ih => rw [List.flatMap_cons, List.length_append, ih, length_leBytes, List.length_cons, Nat.mul_succ, Nat.add_comm]

theorem length_msgBytes (type seq ack : Nat) (ackV : Bool) (body : List Nat) : (msgBytes type seq ack ackV body).length = 8 * (body.length + 2) := by
  simp only [msgBytes, List.length_append, length_flatMap_leBytes, length_leBytes, zeros, List.length_replicate, List.length_cons]
  omega

/-- A message's trailer is made of what precedes it. -/
theorem crcGood_append (b : List Byte) : crcGood (b ++ leBytes 4 (crc32c b).toNat ++ zeros 4) = true := by
  have h8 : (b ++ (leBytes 4 (crc32c b).toNat ++ zeros 4)).length - 8 = b.length := by
    simp only [List.length_append, length_leBytes, zeros, List.length_replicate]
    omega
  rw [List.append_assoc]
  unfold crcGood
  dsimp only
  rw [h8, List.take_left, List.drop_left]
  exact beq_self_eq_true _

/-! ### ACK and NAK at the replay buffer -/

namespace Chan
variable {α : Type} {c : Chan α}

theorem ack_head {n : Nat} {m : α} {rest : List (Nat × α)} (h : c.buf = (n, m) :: rest) : c.ack n = { c with buf := rest, tries := 0 } := by
  simp [ack, h, List.findIdx?_cons]

/-- An ACK of the oldest message frees it, ahead of what waited. -/
theorem ack_head_refill {n : Nat} {m : α} {rest : List (Nat × α)} (h : c.buf = (n, m) :: rest) :
    rest <+: (c.ack n).refill.buf ∧ (c.wait = [] → (c.ack n).refill.buf = rest) := by
  rw [ack_head h]
  exact ⟨fill_prefix _ { c with buf := rest, tries := 0 }, fun hw => congrArg buf (fill_none (c := { c with buf := rest, tries := 0 }) (.inr (.inl hw)))⟩

theorem findIdx?_split {n : Nat} {m : α} {a b : List (Nat × α)} (ha : ∀ x ∈ a, x.1 ≠ n) : (a ++ (n, m) :: b).findIdx? (fun x => x.1 == n) = some a.length := by
  rw [List.findIdx?_append, List.findIdx?_eq_none_iff.mpr (by simpa using ha)]
  simp [List.findIdx?_cons]

/-- A NAK frees what precedes the message it names; one that frees nothing is counted. -/
theorem nakFrom_split {n : Nat} {m : α} {a b : List (Nat × α)} (h : c.buf = a ++ (n, m) :: b) (ha : ∀ x ∈ a, x.1 ≠ n) :
    c.nakFrom n = { c with buf := (n, m) :: b, tries := if a = [] then c.tries + 1 else 0 } := by
  rw [nakFrom, h, findIdx?_split ha]
  cases a with
  | nil => simp
  | cons x a => simp

/-- A NAK of the next SEQ to be sent frees all. -/
theorem nakFrom_next {n : Nat} (h : c.seq = n) (hb : ∀ x ∈ c.buf, x.1 ≠ n) : c.nakFrom n = { c with buf := [], tries := 0 } := by
  rw [nakFrom, List.findIdx?_eq_none_iff.mpr (by simpa using hb)]
  exact if_pos h

theorem naked_mem {n : Nat} {m : α} {a b : List (Nat × α)} (h : c.buf = a ++ (n, m) :: b) : c.naked n = true := by simp [naked, h]

theorem push_prefix (m : α) (c : Chan α) : c.buf <+: (c.push m).buf := by
  unfold push
  split
  · exact List.prefix_append ..
  · exact List.prefix_rfl

end Chan

namespace State

/-! ### RECOVER and protocol errors of a cache port -/

/-- The link's record as the port leaves for RECOVER (R116). -/
def recovering (l : Link) : Link := { l with
  rcv := true, st := 1, width := 0, lanes := 0, reqs := tall 4 0, recovers := satAdd 0xFFFF l.recovers 1, chan := { l.chan with tries := 0 },
  exp := if l.idRead then some l.id else none }

theorem toRecover_goes {p : Fin 64} {s : State} (hu : s.upper p = false) (hf : (s.lk p).failed = false) (hr : (s.lk p).rcv = false) (hst : (s.lk p).st ≠ 0) :
    (s.toRecover p).lk p = recovering (s.lk p) := by
  have e : s.toRecover p = (s.mdLk p recovering).linkLost p := if_neg (by simp [hu, hf, hr, hst])
  rw [e, lk_linkLost, lk_mdLk]

/-- RECOVER keeps the replay buffer (log entry 31). -/
theorem toRecover_buf (p : Fin 64) (s : State) : ((s.toRecover p).lk p).chan.buf = (s.lk p).chan.buf := by
  unfold toRecover
  dsimp only
  split
  · rfl
  · rw [lk_linkLost, lk_mdLk]

theorem linkMsgs_facts {p : Nat} {s : State} (h : s.linkMsgs p = true) : s.upper p = false ∧ 3 ≤ (s.lk p).st := by
  simpa only [linkMsgs, Bool.and_eq_true, Bool.not_eq_true', decide_eq_true_eq] using h

/-- A protocol error: the error bit and its source; what is kept for replay stays. -/
theorem protoErr_facts (p : Fin 64) (sq : Nat) (s : State) : ((s.protoErr p sq).lk p).err.getLsbD 2 = true ∧ (s.protoErr p sq).subLive p 2 = true
    ∧ (s.lk p).chan.buf <+: ((s.protoErr p sq).lk p).chan.buf := by
  obtain ⟨hm, hb⟩ := sendNow_moved p (.error 0x10 sq) (s.portErr p 2)
  obtain ⟨c, m, n, e⟩ := hm.lk
  unfold protoErr
  extract_lets s1 s2
  have hl : s2.lk p = { s1.lk p with proto := (s1.lk p).proto + 1 } := lk_mdLk ..
  have h1 : (s2.lk p).err.getLsbD 2 = true := by
    rw [hl, show s1.lk p = _ from e, lk_portErr]
    exact err_bit _ (by decide)
  have h2 : s2.subLive p 2 = true := (subLive_congr (hm.agree.flt rfl) p 2).trans (raiseTurn_live ..)
  have h3 : (s.lk p).chan.buf <+: (s2.lk p).chan.buf := by
    rw [hl]
    rw [lk_portErr] at hb
    exact hb
  clear_value s2
  split
  · rw [toRecover_err, toRecover_subLive _ _ (by omega), toRecover_buf]
    exact ⟨h1, h2, h3⟩
  · exact ⟨h1, h2, h3⟩

/-! ### ACK and NAK on a cache port -/

/-- The port's channel as `f` leaves it, and what waited sent as far as it may. -/
def refilled (p : Nat) (f : Chan HclOut → Chan HclOut) (s : State) : State := (s.mdLk p (fun l => { l with chan := f l.chan })).portFill p

theorem refilled_facts (p : Fin 64) (f : Chan HclOut → Chan HclOut) (s : State) : ChanMoved p s (s.refilled p f)
    ∧ (f (s.lk p).chan).buf <+: ((s.refilled p f).lk p).chan.buf ∧ ((s.refilled p f).lk p).chan.tries = (f (s.lk p).chan).tries
    ∧ ((f (s.lk p).chan).wait = [] → ((s.refilled p f).lk p).chan = f (s.lk p).chan) := by
  obtain ⟨h1, h2⟩ := portFill_moved p (s.mdLk p (fun l => { l with chan := f l.chan }))
  rw [lk_mdLk] at h2
  refine ⟨(chanMoved_mdLk p f s).trans p.isLt h1, ?_, ?_, fun hw => ?_⟩
  · rw [refilled, h2]
    exact Chan.fill_prefix ..
  · rw [refilled, h2]
    exact Chan.fill_tries ..
  · rw [refilled, h2]
    exact Chan.fill_none (.inr (.inl hw))

theorem portAck_ok {p : Fin 64} {h : Hdr} {s : State} (hm : s.linkMsgs p = true) (hok : h.ok = true) :
    s.portAck p h = if h.ackV then s.refilled p (fun c => c.ack h.ack.toNat) else s := by
  rw [portAck, if_neg (by simp [hm]), if_neg (by simp [hok])]
  rfl

theorem portAck_malformed {p : Fin 64} {h : Hdr} {s : State} (hm : s.linkMsgs p = true) (hok : h.ok = false) : s.portAck p h = s.protoErr p h.seq.toNat := by
  rw [portAck, if_neg (by simp [hm]), if_pos (by simp [hok])]

/-- A NAK received that acknowledges nothing besides. -/
theorem portNak_received {p : Fin 64} {h : Hdr} {e : BitVec 12} {s : State} (hm : s.linkMsgs p = true) (hok : h.ok = true) (hv : h.ackV = false) :
    s.portNak p (.received h e) = s.nakRx p e.toNat := by
  simp only [portNak, hm, hok, portAck_ok hm hok, hv, Bool.and_self, if_true, Bool.false_eq_true, if_false]

theorem portNak_malformed {p : Fin 64} {h : Hdr} {e : BitVec 12} {s : State} (hm : s.linkMsgs p = true) (hok : h.ok = false) :
    s.portNak p (.received h e) = s.protoErr p h.seq.toNat := by
  simp only [portNak, hok, Bool.and_false, Bool.false_eq_true, if_false, portAck_malformed hm hok]

/-- Freed by a NAK, replayed, and refilled. -/
def nakTaken (p : Nat) (e : Nat) (s : State) : State := ((s.mdLk p (fun l => { l with chan := l.chan.nakFrom e })).replay p).portFill p

theorem nakTaken_facts (p : Fin 64) (e : Nat) (s : State) : ChanMoved p s (s.nakTaken p e)
    ∧ ((s.lk p).chan.nakFrom e).buf <+: ((s.nakTaken p e).lk p).chan.buf ∧ ((s.nakTaken p e).lk p).chan.tries = ((s.lk p).chan.nakFrom e).tries
    ∧ (((s.lk p).chan.nakFrom e).wait = [] → ((s.nakTaken p e).lk p).chan = (s.lk p).chan.nakFrom e) := by
  obtain ⟨r1, r2⟩ := replay_moved p (s.mdLk p (fun l => { l with chan := l.chan.nakFrom e }))
  obtain ⟨h1, h2⟩ := portFill_moved p ((s.mdLk p (fun l => { l with chan := l.chan.nakFrom e })).replay p)
  rw [r2, lk_mdLk] at h2
  refine ⟨((chanMoved_mdLk p (fun c => c.nakFrom e) s).trans p.isLt r1).trans p.isLt h1, ?_, ?_, fun hw => ?_⟩
  · rw [nakTaken, h2]
    exact Chan.fill_prefix ..
  · rw [nakTaken, h2]
    exact Chan.fill_tries ..
  · rw [nakTaken, h2]
    exact Chan.fill_none (.inr (.inl hw))

/-- The message a NAK names heads the replay buffer. -/
def nakHead (e : Nat) : List (Nat × HclOut) → Bool
  | b :: _ => b.1 == e
  | [] => false

theorem nakRx_eq {p e : Nat} {s : State} (hn : (s.lk p).chan.naked e = true) :
    s.nakRx p e = if nakHead e (s.lk p).chan.buf && 4 ≤ (s.lk p).chan.tries then (s.portErr p 0).toRecover p else s.nakTaken p e := by
  unfold nakRx
  dsimp only
  rw [if_neg (by simp [hn])]
  cases h : (s.lk p).chan.buf <;> rfl

/-- The replay after 4 without progress: the error and RECOVER (Table 03-9). -/
theorem replayFails_facts (p : Fin 64) (s : State) : (((s.portErr p 0).toRecover p).lk p).err.getLsbD 0 = true
    ∧ (((s.portErr p 0).toRecover p).lk p).chan.buf = (s.lk p).chan.buf
    ∧ (s.linkMsgs p = true → (s.lk p).rcv = false → (s.lk p).failed = false →
      (((s.portErr p 0).toRecover p).lk p).rcv = true ∧ (((s.portErr p 0).toRecover p).lk p).chan.tries = 0) := by
  refine ⟨?_, ?_, fun hm hr hf => ?_⟩
  · rw [toRecover_err, lk_portErr]
    exact err_bit _ (by decide)
  · rw [toRecover_buf, lk_portErr]
  · obtain ⟨hu, hst⟩ := linkMsgs_facts hm
    have e : ((s.portErr p 0).toRecover p).lk p = recovering ((s.portErr p 0).lk p) :=
      toRecover_goes ((upper_portErr ..).trans hu) (by rw [lk_portErr]; exact hf) (by rw [lk_portErr]; exact hr) (by rw [lk_portErr]; exact Nat.ne_zero_of_lt hst)
    rw [e]
    exact ⟨rfl, rfl⟩

theorem portReplay_eq {p : Fin 64} {s : State} (hm : s.linkMsgs p = true) (hb : (s.lk p).chan.buf ≠ []) : s.portReplay p =
    if 4 ≤ (s.lk p).chan.tries then (s.portErr p 0).toRecover p else (s.mdLk p (fun l => { l with chan := { l.chan with tries := l.chan.tries + 1 } })).replay p :=
  if_neg (by simp [hm, hb])

/-- A full replay buffer takes nothing. -/
theorem send_full (p : Fin 64) (m : HclOut) (s : State) (hu : s.linkUp p = true) (hb : (s.lk p).chan.buf.length = 1024) :
    ((s.send p m).lk p).chan.buf = (s.lk p).chan.buf := by
  obtain ⟨hup, hst⟩ := linkUp_facts hu
  have e : s.send p m = s.refilled p (fun c => c.hold m) := if_neg (by simp [hup, hst])
  rw [e, refilled, (portFill_moved ..).2, lk_mdLk]
  change (((s.lk p).chan.hold m).fill _).buf = _
  rw [Chan.fill_none (c := (s.lk p).chan.hold m) (.inr (.inr hb.ge))]
  rfl

/-! ### The partner link -/

/-- What a valid message leaves of the pair's record: the link delivers, and its channel may hold a JOIN more. -/
theorem plHeard_facts (s : State) : s.plHeard.pair.plUp = true ∧ s.pair.chan.buf <+: s.plHeard.pair.chan.buf ∧ (s.pair.plOpen = true → s.plHeard.pair.chan = s.pair.chan) := by
  unfold plHeard
  extract_lets v
  have hv : v.pair = { s.pair with plUp := true, plOpen := true } := (agree_follow rfl 127 0xFFFF false _ (.refl 0x2000 _)).pair rfl
  clear_value v
  split
  · next h =>
    have ho : s.pair.plOpen = false := by
      simp only [Bool.and_eq_true, Bool.not_eq_true'] at h
      exact h.1.1
    have e : v.psend (.join Config.identity) = v.mdPair (fun p => { p with chan := p.chan.push (.join Config.identity) }) := if_pos (by rw [hv])
    rw [e]
    simp only [mdPair, hv]
    exact ⟨trivial, Chan.push_prefix .., fun h => absurd (ho.symm.trans h) Bool.false_ne_true⟩
  · rw [hv]
    exact ⟨rfl, List.prefix_rfl, fun _ => rfl⟩

theorem pairAck_ok {h : Hdr} {s : State} (hm : s.pairMsgs = true) (hok : h.ok = true) (hv : h.ackV = true) :
    s.pairAck h = (s.mdPair (fun p => { p with chan := (p.chan.ack h.ack.toNat).refill })).plHeard := by
  rw [pairAck, if_neg (by simp [hm]), if_neg (by simp [hok]), if_pos hv]

/-! ### A block error -/

/-- A block error on a port that has lanes of its own. -/
theorem blockErr_facts {p : Fin 64} {s : State} (hu : s.upper p = false) (hst : 2 ≤ (s.lk p).st) : ((s.blockErr p).lk p).cntBlk = satAdd 0xFFFF (s.lk p).cntBlk 1
    ∧ (s.linkMsgs p = true → ((s.blockErr p).lk p).chan.nak = some (s.lk p).chan.expect) := by
  have hlk := lk_mdLk p (fun l => { l with cntBlk := satAdd 0xFFFF l.cntBlk 1 }) s
  unfold blockErr
  extract_lets b s1
  have hb : b = p.val := if_neg (by simp [hu])
  have hm1 : s1.linkMsgs p = s.linkMsgs p := by
    simp only [linkMsgs, show s1.lk p = _ from hlk]
    rfl
  rw [hb, if_neg (by omega)]
  split
  · rw [lk_mdLk, hlk]
    exact ⟨rfl, fun _ => rfl⟩
  · next h =>
    rw [hlk]
    exact ⟨rfl, fun hm => absurd (hm1.trans hm) h⟩

end State

/-- Settles O23, clause by clause. -/
theorem messageLayer : Obligations.MessageLayer := by
  refine ⟨fun type len seq ack ackV ht hl => readHdr_hdrWord seq ack ackV ht hl, fun m seq ack ackV => ⟨crcGood_append _, ?_⟩,
    fun p h m rest s hc hm hok hv hb => ⟨_, exec_on hc, ?_⟩, fun p h c e s hcmd hc hm hok => ⟨s.protoErr p h.seq.toNat, ?_, ?_⟩,
    fun h m rest s hm hok hv hb => ⟨_, exec_on (by simp_all [State.pairMsgs]), ?_⟩, fun i h m rest s hr h2 h3 hok hv hb => ⟨_, exec_fab hr, ?_⟩,
    fun p s hc hm => ⟨_, exec_on hc, ?_⟩, fun p h e a b m s hc hm hok hv hb ha ht => ⟨_, exec_on hc, ?_⟩,
    fun p h e b m s hc hu hok hv hb ht => ⟨_, exec_on hc, ?_⟩, fun p h e s hc hm hok hv hs hb hw => ⟨_, exec_on hc, ?_⟩,
    fun p s hc hst hu => ⟨_, exec_on hc, ?_⟩, fun p m s hu hw hb => ?_, fun p m s hu hb => State.send_full p m s hu hb,
    fun p s hc hm hb => ⟨_, exec_on hc, ?_⟩, fun s hm hb => ⟨_, exec_on (by simp_all [State.pairMsgs]), ?_⟩, fun i s hr hb => ⟨_, exec_fab hr, ?_⟩⟩
  · rw [HclOut.words_eq]
    exact length_msgBytes ..
  · rw [State.portAck_ok hm hok, if_pos hv]
    obtain ⟨f1, f2, f3, f4⟩ := State.refilled_facts p (fun c => c.ack h.ack.toNat) s
    rw [Chan.ack_head hb] at f2 f3 f4
    exact ⟨f2, fun hw => congrArg Chan.buf (f4 hw), f3, f1.agree.sameBut rfl⟩
  · rcases hcmd with rfl | rfl
    · exact (exec_on hc).trans (congrArg _ (State.portAck_malformed hm hok))
    · exact (exec_on hc).trans (congrArg _ (State.portNak_malformed hm hok))
  · obtain ⟨f1, f2, f3⟩ := State.protoErr_facts p h.seq.toNat s
    exact ⟨f1, f2, f3, (State.agree_protoErr rfl p.val _ s (.refl 0x42000 s)).sameBut rfl⟩
  · rw [State.pairAck_ok hm hok hv]
    obtain ⟨f1, f2, f3⟩ := State.plHeard_facts (s.mdPair (fun p => { p with chan := (p.chan.ack h.ack.toNat).refill }))
    have ⟨g1, g2⟩ := Chan.ack_head_refill hb
    exact ⟨g1.trans f2, fun hw ho => (congrArg Chan.buf (f3 ho)).trans (g2 hw), f1,
      (State.agree_plHeard rfl _ (State.agree_mdPair rfl _ s (.refl 0x2002000 s))).sameBut rfl⟩
  · have e : (if (2 ≤ (s.fport i).st && (s.fport i).st ≤ 3) = true then s.fabAck i h else s) = s.mdFport i (fun p => { p with chan := (p.chan.ack h.ack.toNat).refill }) := by
      rw [if_pos (by simp [h2, h3]), State.fabAck, if_neg (by simp [hok]), if_pos hv]
    have ⟨g1, g2⟩ := Chan.ack_head_refill hb
    dsimp only
    rw [e, State.mdFport_same i.isLt]
    exact ⟨g1, g2, (State.portsOnly_mdFport ..).agree.sameBut rfl⟩
  · have e : s.portNak p .badCrc = _ := if_pos hm
    dsimp only
    rw [e, State.lk_mdLk]
    exact ⟨rfl, rfl, rfl, (State.agree_mdLk rfl p.val _ s (.refl 0x40000 s)).sameBut rfl⟩
  · have hh : (State.nakHead e.toNat (s.lk p).chan.buf && 4 ≤ (s.lk p).chan.tries) = false := by
      cases a with
      | nil => simp [ht rfl]
      | cons x a => simp [hb, State.nakHead, ha x List.mem_cons_self]
    rw [State.portNak_received hm hok hv, State.nakRx_eq (Chan.naked_mem hb), hh, if_neg Bool.false_ne_true]
    obtain ⟨f1, f2, f3, f4⟩ := State.nakTaken_facts p e.toNat s
    rw [Chan.nakFrom_split hb ha] at f2 f3 f4
    exact ⟨f2, fun hw => congrArg Chan.buf (f4 hw), f3, f1.agree.sameBut rfl⟩
  · obtain ⟨hup, hst⟩ := State.linkUp_facts hu
    have hm : s.linkMsgs p = true := by simp [State.linkMsgs, hup, hst]
    simp only [State.linkUp, Bool.and_eq_true, Bool.not_eq_true'] at hu
    rw [State.portNak_received hm hok hv, State.nakRx_eq (Chan.naked_mem (a := []) hb), if_pos (by simp [hb, State.nakHead, ht])]
    obtain ⟨f1, f2, f3⟩ := State.replayFails_facts p s
    obtain ⟨g1, g2⟩ := f3 hm hu.1.2 hu.2
    exact ⟨f1, g1, g2, f2⟩
  · have hh : State.nakHead e.toNat (s.lk p).chan.buf = false := by
      cases h : (s.lk p).chan.buf with
      | nil => rfl
      | cons x b => simp [State.nakHead, hb x (h ▸ List.mem_cons_self)]
    rw [State.portNak_received hm hok hv, State.nakRx_eq (by simp [Chan.naked, hs]), hh, if_neg (by simp)]
    obtain ⟨f1, f2, f3, f4⟩ := State.nakTaken_facts p e.toNat s
    rw [Chan.nakFrom_next hs hb] at f3 f4
    exact ⟨congrArg Chan.buf (f4 hw), f3, f1.agree.sameBut rfl⟩
  · obtain ⟨f1, f2⟩ := State.blockErr_facts hu hst
    exact ⟨f1, f2, (State.agree_blockErr rfl p.val s (.refl 0x40000 s)).sameBut rfl⟩
  · have e := State.send_up p m s hu hw hb
    exact ⟨congrArg Chan.buf e, congrArg Chan.seq e⟩
  · dsimp only
    rw [State.portReplay_eq hm hb]
    by_cases ht : (s.lk p).chan.tries < 4
    · obtain ⟨f1, f2⟩ := State.replay_moved p (s.mdLk p (fun l => { l with chan := { l.chan with tries := l.chan.tries + 1 } }))
      rw [State.lk_mdLk] at f2
      rw [if_pos ht, if_neg (by omega)]
      rw [f2]
      exact ⟨rfl, rfl, (State.agree_replay rfl p.val _ (State.agree_mdLk rfl p.val _ s (.refl 0x40000 s))).sameBut rfl⟩
    · rw [if_neg ht, if_pos (by omega)]
      obtain ⟨f1, -, f3⟩ := State.replayFails_facts p s
      exact ⟨f1, fun hr => (f3 hm hr.1 hr.2).1⟩
  · dsimp only
    have e : s.pairReplay = if 4 ≤ s.pair.chan.tries then s.plRecover else s.mdPair (fun p => { p with chan := { p.chan with tries := p.chan.tries + 1 } }) :=
      if_neg (by simp [hm, hb])
    rw [e]
    by_cases ht : s.pair.chan.tries < 4
    · rw [if_pos ht, if_neg (by omega)]
      rfl
    · rw [if_neg ht, if_pos (by omega)]
      exact ⟨rfl, rfl, rfl, rfl, (State.agree_plRecover rfl s (.refl 0x3000000 s)).sameBut rfl⟩
  · dsimp only
    have e : s.fabReplay i = s.mdFport i (fun p => { p with chan := { p.chan with tries := p.chan.tries + 1 } }) := if_neg (by simp [hb])
    rw [e, State.mdFport_same i.isLt]
    exact ⟨rfl, rfl, rfl, (State.portsOnly_mdFport ..).agree.sameBut rfl⟩

end Sys2Proof.Machine
end

section
/-! PROOFS. What an adapter's messages make of the rest of the controller leaves a link as it is but for the messages sent on it (R86, R96, R116, R252, R256). -/
set_option Elab.async false

namespace Sys2Proof.Machine
namespace State

/-- From `s` to `t` all of port `p`'s link record but its message layer stands. -/
def LinkKept (p : Fin 64) (s t : State) : Prop := ∃ c m n, t.lk p = { s.lk p with chan := c, curRep := m, curTot := n }

theorem ChanMoved.kept {p : Fin 64} {s t : State} (h : ChanMoved p s t) : LinkKept p s t := h.lk

namespace LinkKept
variable {p : Fin 64} {s t u : State}

theorem refl (p : Fin 64) (s : State) : LinkKept p s s := ⟨(s.lk p).chan, (s.lk p).curRep, (s.lk p).curTot, rfl⟩

theorem trans (h : LinkKept p s t) (h' : LinkKept p t u) : LinkKept p s u := by
  obtain ⟨c, m, n, e⟩ := h
  obtain ⟨c', m', n', e'⟩ := h'
  exact ⟨c', m', n', by rw [e', e]⟩

theorem err (h : LinkKept p s t) : (t.lk p).err = (s.lk p).err := by
  obtain ⟨c, m, n, e⟩ := h
  rw [e]

/-- What leaves the links leaves the port's. -/
theorem ofLinks (h : LinkKept p s t) (e : u.links = t.links) : LinkKept p s u := by
  unfold LinkKept State.lk at h ⊢
  rwa [e]

theorem other (h : LinkKept p s t) (e : u.lk p = t.lk p) : LinkKept p s u := by
  unfold LinkKept at h ⊢
  rwa [e]

theorem send (h : LinkKept p s t) (q : Nat) (m : HclOut) : LinkKept p s (t.send q m) := by
  by_cases hq : q = p
  · subst hq
    exact h.trans (send_moved p m t).kept
  · exact h.other (send_lk_ne hq m t)

theorem portFill (h : LinkKept p s t) (q : Nat) : LinkKept p s (t.portFill q) := by
  by_cases hq : q = p
  · subst hq
    exact h.trans (portFill_moved p t).1.kept
  · exact h.other (portFill_lk_ne hq t)

theorem forL {α : Type} (h : LinkKept p s t) {f : α → State → State} (hf : ∀ x v, LinkKept p s v → LinkKept p s (f x v)) (l : List α) :
    LinkKept p s (Sys2Proof.forL l f t) := forL_keeps hf l h

theorem mdRt (h : LinkKept p s t) (q : Nat) (f : RetP → RetP) : LinkKept p s (t.mdRt q f) := h

theorem mdSv (h : LinkKept p s t) (q : Nat) (f : SvPort → SvPort) : LinkKept p s (t.mdSv q f) := h

theorem mdSave (h : LinkKept p s t) (f : Save → Save) : LinkKept p s (t.mdSave f) := h

/-! Return and restore (07) -/

theorem askPort (h : LinkKept p s t) (q : Nat) : LinkKept p s (t.askPort q) := by
  unfold State.askPort
  split
  · exact (h.mdRt q _).send q _
  · exact h

theorem redecide (h : LinkKept p s t) (q : Nat) : LinkKept p s (t.redecide q) := (h.mdRt q _).askPort q

theorem sendRelease (h : LinkKept p s t) (q n : Nat) (d e : Bool) : LinkKept p s (t.sendRelease q n d e) := (h.mdRt q _).send q _

theorem retireAll (h : LinkKept p s t) (q n : Nat) : LinkKept p s (t.retireAll q n) := h.ofLinks ((agree_retireAll rfl q n t (.refl 3145729 t)).links rfl)

theorem retireRestored (h : LinkKept p s t) (q x : Nat) : LinkKept p s (t.retireRestored q x) := by
  unfold State.retireRestored
  extract_lets n s1
  have h1 : LinkKept p s s1 := (h.retireAll x 2).mdRt q _
  split
  · exact h.retireAll ..
  · split
    · exact h1.redecide x
    · exact h1.mdRt x _

theorem released (h : LinkKept p s t) (q : Nat) : LinkKept p s (t.released q) := by
  unfold State.released
  extract_lets s1
  have h1 : LinkKept p s s1 := h
  split
  · exact h1.retireAll ..
  · exact h1.retireRestored ..
  · exact h1

theorem restoreClear (h : LinkKept p s t) (q : Nat) : LinkKept p s (t.restoreClear q) := (h.mdRt q _).send q _

theorem writeSquare (h : LinkKept p s t) (q sq : Nat) (x : Option (UTag × NBody)) : LinkKept p s (t.writeSquare q sq x) := by
  unfold State.writeSquare
  split
  · exact h
  · exact (h.mdRt q _).forL (fun _ _ hv => hv.send q _) _

theorem restoreStep (h : LinkKept p s t) (n q : Nat) : LinkKept p s (t.restoreStep n q) := by
  induction n generalizing t with
  | zero => exact h
  | succ n ih =>
    unfold State.restoreStep
    extract_lets r
    split
    · exact h
    · split
      · split
        · exact (h.mdRt q _).send q _
        · exact h
      · next sq qs _ =>
        split
        · exact h
        · extract_lets s1
          have h1 : LinkKept p s s1 := h
          split
          · exact ih (h1.writeSquare ..)
          · split
            · exact h
            · split
              · exact h1.ofLinks ((agree_tick rfl _ (agree_postDesc rfl _ _ s1 (.refl 0x100001 s1))).links rfl)
              · exact ih (h1.writeSquare ..)

theorem stepRestore (h : LinkKept p s t) (q : Nat) : LinkKept p s (t.stepRestore q) := h.restoreStep 65536 q

theorem retIdent (h : LinkKept p s t) (q : Nat) (up : Bool) : LinkKept p s (t.retIdent q up) := by
  unfold State.retIdent
  extract_lets l r s1
  have h1 : LinkKept p s s1 := by
    unfold s1
    split
    · exact h
    · exact h
  split
  · exact h1.released q
  split
  · exact h1.redecide q
  split
  · split
    · exact h1
    · split
      · exact (h1.mdRt q _).stepRestore q
      · exact h1
  · exact h1

theorem restoreLinkUp (h : LinkKept p s t) (q : Nat) : LinkKept p s (t.restoreLinkUp q) := by
  unfold State.restoreLinkUp
  extract_lets r ask
  have hask (v : State) (hv : LinkKept p s v) : LinkKept p s (ask v) := by
    unfold ask
    split
    · exact hv.askPort q
    · exact hv
  split
  · exact hask _ (h.mdRt q _)
  split
  · split
    · exact hask _ (h.released q)
    · split
      · exact (hask _ (h.mdRt q _)).sendRelease ..
      · split
        · exact h.redecide q
        · exact h
  · split
    · exact (hask t h).restoreClear q
    · exact hask t h

theorem retLinkUp (h : LinkKept p s t) (q : Nat) : LinkKept p s (t.retLinkUp q) := by
  unfold State.retLinkUp
  extract_lets r l
  split
  · exact h.restoreLinkUp q
  split
  · exact h
  split
  · split
    · exact (h.released q).askPort q
    · exact h.redecide q
  split
  · split
    · exact h.redecide q
    · exact h.askPort q
  split
  · split
    · exact h.redecide q
    · exact h.askPort q
  split
  · exact h.redecide q
  split
  · exact (h.mdRt q _).askPort q
  · exact h.askPort q

/-! The staged map and the move (04, 06) -/

theorem stageLose (h : LinkKept p s t) (q : Nat) : LinkKept p s (t.stageLose q) :=
  h.forL (fun c _ hv => hv.send q (.cancel c.sq)) (t.pp q).copies

theorem readSquare (h : LinkKept p s t) (q : Nat) : LinkKept p s (t.readSquare q) := by
  unfold State.readSquare
  split
  · exact h
  · next sq c _ =>
    have h1 : LinkKept p s { t with stage := { t.stage with tagNo := (t.stage.tagNo + 1) % 2 ^ 32 } } := h
    exact ((h1.mdSv q _).mdSave _).send q _

theorem moveReads (h : LinkKept p s t) (n : Nat) : LinkKept p s (t.moveReads n) := by
  induction n generalizing t with
  | zero => exact h
  | succ n ih =>
    unfold State.moveReads
    split
    · exact h
    · split
      · exact h
      · exact ih (h.readSquare _)

theorem moveResume (h : LinkKept p s t) (q : Nat) : LinkKept p s (t.moveResume q) := by
  unfold State.moveResume
  split
  · exact h
  · extract_lets s1
    have h1 : LinkKept p s s1 := h.mdSv q _
    exact moveReads (h1.forL (fun _ _ hv => hv.send q _) _) 449

end LinkKept

/-- After the link has taken an IDENT, what the staged map, Return and a move make of it is messages. -/
theorem identMore_kept (p : Fin 64) (m : IdentMsg) (s : State) : LinkKept p (s.identRx p m) (s.identMore p m) := by
  unfold identMore
  extract_lets t u
  have ht : LinkKept p t t := .refl p t
  have hu : LinkKept p t u := by
    unfold u
    split
    · exact ht.stageLose p
    · exact ht
  split
  · exact ht
  split
  · exact hu.retIdent p false
  · exact ((hu.retIdent p true).retLinkUp p).moveResume p

end State
end Sys2Proof.Machine
end

section
/-! PROOFS. IDENT, REPORT, MAP, DATA, CONFIRM_ACK, REVERT_ACK and ERROR, accepted (R86, R94, R97, R99, R115, R135, R219, R223, R226). -/
set_option Elab.async false

namespace Sys2Proof.Machine

/-- A message in sequence acts on the state in which its header has been taken. -/
theorem does_inSeq {c : Instr} {p : Fin 64} {h : Hdr} {s : State} {f : State → State} {P : State → Prop} (hq : InSeq p h s)
    (hc : exec c s = .next (s.onCtl (fun t => t.receive p h f))) (hP : P (f (s.portTaken p h))) : Does c s P :=
  ⟨_, hc.trans ((exec_on hq.1).trans (congrArg Host.Outcome.next (State.receive_inSeq hq f))), hP⟩

namespace State

section
variable {p : Fin 64} {s t : State}

theorem pp_mdPp (p : Fin 64) (f : StgP → StgP) (s : State) : (s.mdPp p f).pp p = f (s.pp p) := rd_md_self _ _ _ p.isLt

theorem pp_congr (h : t.stage = s.stage) (q : Nat) : t.pp q = s.pp q := by simp only [pp, h]

theorem pp_send (p q : Nat) (m : HclOut) (s : State) : (s.send q m).pp p = s.pp p := pp_congr ((agree_send rfl q m s (.refl 0x40000 s)).stage rfl) p

theorem ChanMoved.stageRuns (h : ChanMoved p s t) : t.stageRuns = s.stageRuns := by
  obtain ⟨c, m, n, rfl⟩ := h
  rfl

theorem ChanMoved.moverRuns (h : ChanMoved p s t) : t.moverRuns = s.moverRuns := by
  obtain ⟨c, m, n, rfl⟩ := h
  rfl

theorem ChanMoved.pp (h : ChanMoved p s t) (q : Nat) : t.pp q = s.pp q := pp_congr (h.agree.stage rfl) q

/-- A message that carries no ACK leaves what is sent as it is. -/
theorem portTaken_noAck {h : Hdr} (ha : h.ackV = false) : ((s.portTaken p h).lk p).chan = (s.lk p).chan.accept := by
  have e : s.ackedBy p h = s := if_neg (by simp [ha])
  rw [portTaken, lk_mdLk, e]

/-! ### IDENT (R86, R116) -/

/-- The identity expected brings the port to UP. -/
theorem identRx_up {m : IdentMsg} (hst : (s.lk p).st = 3) (h0 : m.id ≠ 0) (h1 : m.id ≠ 0xFFFFFFFFFFFFFFFF#64) (he : (s.lk p).exp = none ∨ (s.lk p).exp = some m.id) :
    ((s.identRx p m).lk p).st = 4 ∧ ((s.identRx p m).lk p).rcv = false ∧ ((s.identRx p m).lk p).idRead = true ∧ ((s.identRx p m).lk p).id = m.id
      ∧ ((s.identRx p m).lk p).squares = m.squares := by
  have e : s.identRx p m = ((((s.takeIdent p m).mdLk p (fun l => { l with st := 4, rcv := false, upOnce := true, quiet := false, exp := none })).linkLost p).portFill p) := by
    unfold identRx
    dsimp only
    rw [if_pos hst, if_neg (by simpa using ⟨h0, h1⟩)]
    rcases he with he | he
    · rw [if_neg (by simp [he])]
    · rw [if_neg (by simp [he])]
  obtain ⟨c, a, b, hk⟩ := (portFill_moved p (((s.takeIdent p m).mdLk p (fun l => { l with st := 4, rcv := false, upOnce := true, quiet := false, exp := none })).linkLost p)).1.kept
  rw [e, hk, lk_linkLost, lk_mdLk, takeIdent, lk_mdLk]
  exact ⟨rfl, rfl, rfl, rfl, rfl⟩

/-- Another identity on a link in UP takes it to RECOVER. -/
theorem identMore_other {m : IdentMsg} (hu : s.linkUp p = true) (hi : (s.lk p).idRead = true) (hm : (s.lk p).id ≠ m.id) :
    ((s.identMore p m).lk p).rcv = true ∧ ((s.identMore p m).lk p).idRead = false ∧ ((s.identMore p m).lk p).err.getLsbD 6 = true := by
  obtain ⟨hup, hst⟩ := linkUp_facts hu
  have hf : (s.lk p).failed = false := by
    simp only [linkUp, Bool.and_eq_true, Bool.not_eq_true'] at hu
    exact hu.2
  have e : s.identRx p m = ((s.portErr p 6).toRecover p).mdLk p (fun l => { l with idRead := false }) := by
    unfold identRx
    dsimp only
    rw [if_neg (by omega), if_pos (by simp [hi, hm])]
  have hr : (((s.portErr p 6).toRecover p).lk p).rcv = true :=
    toRecover_rcv ((upper_portErr ..).trans hup) (by rw [lk_portErr]; exact hst) (by rw [lk_portErr]; exact hf)
  have hl : (s.identRx p m).lk p = { ((s.portErr p 6).toRecover p).lk p with idRead := false } := e ▸ lk_mdLk ..
  have hd : (s.identRx p m).linkUp p = false := by simp [linkUp, hl, hr]
  have hm' : s.identMore p m = s.identRx p m := if_pos (by simp [hd])
  rw [hm', hl]
  refine ⟨hr, rfl, ?_⟩
  dsimp only
  rw [toRecover_err, lk_portErr]
  exact err_bit _ (by decide)

/-! ### REPORT (R99, R100) -/

theorem reportRx_facts (p : Fin 64) (m : ReportMsg) (late : Bool) (s : State) : ((s.reportRx p m late).lk p).cstate = m.cstate
    ∧ ((s.reportRx p m late).stkQ p).rep = (if m.turn = s.clk.turn % 2 ^ 32 ∧ late = false then some (max m.u (ceilDiv m.dirty 16)) else (s.stkQ p).rep)
    ∧ (m.u ≠ ceilDiv m.dirty 16 → ((s.reportRx p m late).lk p).err.getLsbD 5 = true) := by
  unfold reportRx
  extract_lets d s1 s2
  have h1 : s1.lk p = { s.lk p with cstate := m.cstate } := lk_mdLk ..
  have hc : (s2.lk p).cstate = m.cstate := by
    unfold s2
    split
    · rw [lk_portErr, h1]
    · rw [h1]
  have he : m.u ≠ d → (s2.lk p).err.getLsbD 5 = true := fun h => by
    have e : s2 = s1.portErr p 5 := if_pos h
    rw [e, lk_portErr]
    exact err_bit _ (by decide)
  have hq : s2.stkQ p = s.stkQ p := by
    have ha : Agree 0x42000 s s2 := .ite (agree_portErr rfl _ _ _ (agree_mdLk rfl _ _ _ (.refl _ s))) (agree_mdLk rfl _ _ _ (.refl _ s))
    exact congrArg (fun v : Stake => rd v.q p.val) (ha.stake rfl)
  by_cases h : m.turn = s.clk.turn % 2 ^ 32 ∧ late = false
  · rw [if_pos h, if_pos (by simpa using h), stkQ_mdStkQ]
    exact ⟨hc, rfl, he⟩
  · rw [if_neg h, if_neg (by simpa using h)]
    exact ⟨hc, congrArg StkQ.rep hq, he⟩

/-! ### MAP (R219, R226) -/

theorem map_sendRevert (p : Fin 64) (n : Nat) (all : Bool) (s : State) : ((s.sendRevert p n all).pp p).map = (s.pp p).map := by
  rw [sendRevert, pp_send, pp_mdPp]

theorem map_askMap (p : Fin 64) (s : State) : ((s.askMap p).pp p).map = (s.pp p).map := by
  unfold askMap
  extract_lets w q n first
  split
  · rfl
  · split
    · rfl
    · rw [pp_send, pp_mdPp]

/-- A map word that arrives takes its place among the others. -/
theorem map_mapWord (p : Fin 64) (r w : Nat) (sts : List Nat) (s : State) :
    ((s.mapWord p r w sts).pp p).map = (s.pp p).map.filter (fun m => m.1 < w) ++ [(w, r, sts)] ++ (s.pp p).map.filter (fun m => w < m.1) := by
  unfold mapWord
  extract_lets q staged orphan s1
  have h1 : (s1.pp p).map = (s.pp p).map.filter (fun m => m.1 < w) ++ [(w, r, sts)] ++ (s.pp p).map.filter (fun m => w < m.1) :=
    congrArg StgP.map (pp_mdPp p _ s)
  split
  · rw [map_sendRevert, pp_congr ((agree_setEvt rfl 8 1 _ (.refl 256 _)).stage rfl), pp_mdPp]
    exact h1
  · exact h1

theorem map_mapWords (p : Fin 64) (r w : Nat) (sts : Nat → List Nat) (n : Nat) (s : State) :
    ∀ i < n, (w + i, r, sts i) ∈ (((List.range n).foldl (fun t i => t.mapWord p r (w + i) (sts i)) s).pp p).map := by
  induction n with
  | zero => exact fun i hi => absurd hi (Nat.not_lt_zero i)
  | succ n ih =>
    intro i hi
    rw [List.range_succ, List.foldl_append, List.foldl_cons, List.foldl_nil, map_mapWord]
    rcases Nat.lt_succ_iff_lt_or_eq.mp hi with hlt | rfl
    · have hw : decide (w + i < w + n) = true := decide_eq_true (by omega)
      simp [ih i hlt, hlt]
    · simp

theorem mapRx_answers {tag first : Nat} {words : List (List Nat)} {a : Nat × Nat × Nat}
    (ha : (s.pp p).asked.find? (fun a => a.1 % 2 ^ 32 == tag && 32 * a.2.1 == first && a.2.2 == words.length) = some a) :
    ∀ i < words.length, (a.2.1 + i, a.1, words.getD i []) ∈ ((s.mapRx p tag first words).pp p).map := by
  intro i hi
  unfold mapRx
  split
  · next h => exact absurd (h.symm.trans ha) (Option.some_ne_none a).symm
  · next b h =>
    obtain rfl : b = a := Option.some.inj (h.symm.trans ha)
    extract_lets s1 s2
    have h2 : (b.2.1 + i, b.1, words.getD i []) ∈ (s2.pp p).map := map_mapWords p b.1 b.2.1 (fun i => words.getD i []) words.length s1 i hi
    split
    · rw [map_askMap]
      exact h2
    · exact h2

/-! ### DATA (R94, R135, R223) -/

theorem linkUp_congr (hl : t.links = s.links) (hb : t.bimg = s.bimg) (q : Nat) : t.linkUp q = s.linkUp q := by
  simp only [linkUp, upper, bonded, im, lk, hl, hb]

theorem dataRx_copy {seq tag sq chunk gen st : Nat} {data : Chunk} {err : Bool} {c : Copy} (hr : s.moverRuns = true)
    (hc : (s.pp p).copies.find? (fun c => c.tag == tag && c.sq == sq && c.ph == 0) = some c) :
    s.dataRx p seq tag sq chunk gen st data err = if err then s.rereadChunk p sq chunk tag else s.copyData p seq c chunk gen st data := by
  unfold dataRx
  rw [if_neg (by simp [hr]), hc]

/-- A chunk that is not the sixteenth is held. -/
theorem copyData_held {sq : Nat} {c : Copy} {chunk gen st : Nat} {data : Chunk} (hs : s.stageRuns = true) (hc : c ∈ (s.pp p).copies)
    (hg : c.gen = none ∨ c.gen = some (gen, st)) (hl : (c.chunks.filter (fun d => d.1 != chunk)).length < 15) :
    ∃ d ∈ ((s.copyData p sq c chunk gen st data).pp p).copies, d.tag = c.tag ∧ d.gen = some (gen, st) ∧ (chunk, data) ∈ d.chunks := by
  have e : s.copyData p sq c chunk gen st data = s.copyChunk p c chunk gen st data := by
    rcases hg with hg | hg
    · simp [copyData, hs, hg]
    · simp [copyData, hs, hg]
  rw [e]
  unfold copyChunk
  extract_lets chunks
  rw [if_pos (by simp only [chunks, List.length_append, List.length_singleton]; omega), pp_mdPp]
  refine ⟨{ c with gen := some (gen, st), chunks }, List.mem_map.mpr ⟨c, hc, if_pos (beq_self_eq_true _)⟩, rfl, rfl, ?_⟩
  exact List.mem_append_right _ List.mem_cons_self

/-- Another GEN or STATE than the first chunk's abandons the copy. -/
theorem copyData_abandons {sq : Nat} {c : Copy} {chunk gen st : Nat} {data : Chunk} {g : Nat × Nat} (hs : s.stageRuns = true) (hc : c.gen = some g) (hg : g ≠ (gen, st)) :
    (∀ d ∈ ((s.copyData p sq c chunk gen st data).pp p).copies, d.tag ≠ c.tag) ∧ ((s.copyData p sq c chunk gen st data).lk p).err.getLsbD 2 = true := by
  have e : s.copyData p sq c chunk gen st data
      = (((s.mdPp p (fun q => { q with copies := q.copies.filter (fun d => d.tag != c.tag) })).send p (.cancel c.sq)).protoErr p sq) := by
    simp [copyData, hs, hc, hg]
  rw [e]
  refine ⟨?_, (protoErr_facts ..).1⟩
  rw [pp_congr ((agree_protoErr rfl _ _ _ (.refl 0x42000 _)).stage rfl), pp_send, pp_mdPp]
  intro d hd
  simpa using (List.mem_filter.mp hd).2

/-- The READ of one chunk again. -/
theorem rereadChunk_facts (p : Fin 64) (sq chunk tag : Nat) (s : State) : (s.rereadChunk p sq chunk tag).save.reread = satAdd 0xFFFF s.save.reread 1
    ∧ (s.rereadChunk p sq chunk tag).subLive 134 0xFFFF = true ∧ (s.rereadChunk p sq chunk tag).pp p = s.pp p
    ∧ (s.linkUp p = true → (s.lk p).chan.wait = [] → (s.lk p).chan.buf.length < 1024 →
      ((s.rereadChunk p sq chunk tag).lk p).chan = (s.lk p).chan.put (.read sq chunk 1 false tag)) := by
  unfold rereadChunk
  have ha := agree_send rfl p.val (.read sq chunk 1 false tag) _ (.refl 0x40000 ((s.mdSave (fun v => { v with reread := satAdd 0xFFFF v.reread 1 })).raiseTurn 134 0xFFFF))
  have hr := agree_raiseTurn rfl 134 0xFFFF _ (.refl 0x2000 (s.mdSave (fun v => { v with reread := satAdd 0xFFFF v.reread 1 })))
  have hl := hr.links rfl
  refine ⟨?_, ?_, pp_congr ((ha.stage rfl).trans (hr.stage rfl)) p, fun hu hw hb => ?_⟩
  · rw [ha.save rfl, hr.save rfl]
    rfl
  · exact (subLive_congr (ha.flt rfl) ..).trans (raiseTurn_live ..)
  · have e : ((s.mdSave (fun v => { v with reread := satAdd 0xFFFF v.reread 1 })).raiseTurn 134 0xFFFF).lk p = s.lk p := congrArg (fun v => rd v p.val) hl
    rw [send_up p _ _ ((linkUp_congr hl (hr.bimg rfl) p).trans hu) (e ▸ hw) (e ▸ hb), e]

/-! ### CONFIRM_ACK (R222, R226) -/

/-- A CONFIRM of one entry, answered. -/
theorem confirmAckRx_one {turn sq g : Nat} {acc : BitVec 64} (hf : (s.pp p).confirms.find? (fun c => c.1 == turn) = some (turn, [(sq, g)])) :
    s.confirmAckRx p turn acc = ((s.mdPp p (fun q => { q with confirms := q.confirms.filter (fun d => d.1 != turn) })).ackEntry p turn (sq, g) (acc.getLsbD 0)).mdPp p
      (fun q => { q with lastAck := q.reqNo }) := by
  unfold confirmAckRx
  rw [hf]
  rfl

/-- A square accepted is STAGED, its confirm entry pending. -/
theorem ackEntry_accepted {turn sq g : Nat} {c : Copy} (hc : (s.pp p).copies.find? (fun c => c.sq == sq && c.ph == 3) = some c) :
    (∀ d ∈ ((s.ackEntry p turn (sq, g) true).pp p).copies, d.tag ≠ c.tag) ∧ ((s.ackEntry p turn (sq, g) true).pp p).confirms = (s.pp p).confirms
      ∧ (∃ e ∈ ((s.ackEntry p turn (sq, g) true).pp p).staged, e.sq = sq ∧ e.gen = g ∧ e.lseq = c.lseq ∧ e.turn = turn)
      ∧ (s.ackEntry p turn (sq, g) true).stage.pend.length = s.stage.pend.length + 1
      ∧ ((s.ackEntry p turn (sq, g) true).lk p).cntAcc = satAdd 0xFFFFFFFF (s.lk p).cntAcc 1 := by
  generalize ht : s.ackEntry p turn (sq, g) true = t
  unfold ackEntry at ht
  extract_lets q shown iv at ht
  split at ht
  · next h => exact absurd (h.symm.trans hc) (Option.some_ne_none c).symm
  next c' h =>
  obtain rfl : c' = c := Option.some.inj (h.symm.trans hc)
  extract_lets drop st s1 g1 at ht
  rw [if_pos rfl] at ht
  have hq : s1.pp p = { drop q with map := shown, staged := q.staged.filter (fun d => d.sq != sq) ++ [st], backoff := q.backoff.filter (fun b => b.sq != sq) } :=
    pp_mdPp p _ s
  have hl : s1.lk p = { s.lk p with cntAcc := satAdd 0xFFFFFFFF (s.lk p).cntAcc 1 } := lk_mdLk ..
  have hp : s1.stage.pend = s.stage.pend := rfl
  clear_value s1
  have hq' : t.pp p = s1.pp p := by rw [← ht]
  have hl' : t.lk p = s1.lk p := by rw [← ht]
  have hp' : t.stage.pend.length = s1.stage.pend.length + 1 := by rw [← ht, List.length_append, List.length_singleton]
  rw [hq', hl', hp', hq, hl, hp]
  exact ⟨fun d hd => by simpa using (List.mem_filter.mp hd).2, rfl, ⟨st, List.mem_append_right _ List.mem_cons_self, rfl, rfl, rfl, rfl⟩, rfl, rfl⟩

/-- A square rejected backs off. -/
theorem ackEntry_rejected {turn sq g : Nat} {c : Copy} (hc : (s.pp p).copies.find? (fun c => c.sq == sq && c.ph == 3) = some c) :
    (∀ d ∈ ((s.ackEntry p turn (sq, g) false).pp p).copies, d.tag ≠ c.tag) ∧ ((s.ackEntry p turn (sq, g) false).pp p).confirms = (s.pp p).confirms
      ∧ (∃ b ∈ ((s.ackEntry p turn (sq, g) false).pp p).backoff, b.sq = sq ∧ b.ival = backoffNext (s.pp p) sq s.stake.v.short ∧ b.till = s.clk.turn + b.ival)
      ∧ ((s.ackEntry p turn (sq, g) false).pp p).staged = (s.pp p).staged
      ∧ ((s.ackEntry p turn (sq, g) false).lk p).cntRej = satAdd 0xFFFFFFFF (s.lk p).cntRej 1 := by
  generalize ht : s.ackEntry p turn (sq, g) false = t
  unfold ackEntry at ht
  extract_lets q shown iv at ht
  split at ht
  · next h => exact absurd (h.symm.trans hc) (Option.some_ne_none c).symm
  next c' h =>
  obtain rfl : c' = c := Option.some.inj (h.symm.trans hc)
  extract_lets drop st s1 g1 at ht
  rw [if_neg Bool.false_ne_true] at ht
  have hq : t.pp p = { drop q with backoff := q.backoff.filter (fun b => b.sq != sq) ++ [{ sq := sq, ival := iv, till := s.clk.turn + iv }] } := by
    rw [← ht]
    exact pp_mdPp p _ s
  have hl : t.lk p = { s.lk p with cntRej := satAdd 0xFFFFFFFF (s.lk p).cntRej 1 } := by
    rw [← ht]
    exact lk_mdLk ..
  rw [hq, hl]
  exact ⟨fun d hd => by simpa using (List.mem_filter.mp hd).2, rfl, ⟨_, List.mem_append_right _ List.mem_cons_self, rfl, rfl, rfl⟩, rfl, rfl⟩

theorem confirmAckRx_facts {turn sq g : Nat} {acc : BitVec 64} {c : Copy} (hf : (s.pp p).confirms.find? (fun c => c.1 == turn) = some (turn, [(sq, g)]))
    (hc : (s.pp p).copies.find? (fun c => c.sq == sq && c.ph == 3) = some c) :
    (∀ d ∈ ((s.confirmAckRx p turn acc).pp p).copies, d.tag ≠ c.tag) ∧ (∀ d ∈ ((s.confirmAckRx p turn acc).pp p).confirms, d.1 ≠ turn)
      ∧ (if acc.getLsbD 0 then (∃ e ∈ ((s.confirmAckRx p turn acc).pp p).staged, e.sq = sq ∧ e.gen = g ∧ e.lseq = c.lseq ∧ e.turn = turn)
          ∧ (s.confirmAckRx p turn acc).stage.pend.length = s.stage.pend.length + 1
          ∧ ((s.confirmAckRx p turn acc).lk p).cntAcc = satAdd 0xFFFFFFFF (s.lk p).cntAcc 1
        else (∃ b ∈ ((s.confirmAckRx p turn acc).pp p).backoff, b.sq = sq ∧ b.ival = backoffNext (s.pp p) sq s.stake.v.short ∧ b.till = s.clk.turn + b.ival)
          ∧ ((s.confirmAckRx p turn acc).pp p).staged = (s.pp p).staged
          ∧ ((s.confirmAckRx p turn acc).lk p).cntRej = satAdd 0xFFFFFFFF (s.lk p).cntRej 1) := by
  have h1 := pp_mdPp p (fun q => { q with confirms := q.confirms.filter (fun d => d.1 != turn) }) s
  have hc1 : ((s.mdPp p (fun q => { q with confirms := q.confirms.filter (fun d => d.1 != turn) })).pp p).copies.find? (fun c => c.sq == sq && c.ph == 3) = some c := by
    rw [h1]
    exact hc
  have hgone (d : Nat × List (Nat × Nat)) (hd : d ∈ (s.pp p).confirms.filter (fun d => d.1 != turn)) : d.1 ≠ turn := by simpa using (List.mem_filter.mp hd).2
  rw [confirmAckRx_one hf, pp_mdPp]
  cases acc.getLsbD 0 with
  | true =>
    obtain ⟨f1, f2, f3, f4, f5⟩ := ackEntry_accepted (turn := turn) (g := g) hc1
    rw [h1] at f2
    exact ⟨f1, fun d hd => hgone d (by rwa [f2] at hd), f3, f4, f5⟩
  | false =>
    obtain ⟨f1, f2, f3, f4, f5⟩ := ackEntry_rejected (turn := turn) (g := g) hc1
    rw [h1] at f2 f3 f4
    exact ⟨f1, fun d hd => hgone d (by rwa [f2] at hd), f3, f4, f5⟩

/-! ### REVERT_ACK (R97, R226) -/

/-- The entries that a REVERT_ACK removes. -/
def revertGone (q : StgP) (count : Nat) (ovf : Bool) (e : Staged) : Bool :=
  match q.reverts with
  | r :: _ => (r.2 || ovf || turnAfter e.turn r.1) && count != 0
  | [] => false

theorem revertAckRx_facts (p : Fin 64) (count : Nat) (ovf : Bool) (s : State) : ((s.revertAckRx p count ovf).lk p).reverted = count
    ∧ ((s.revertAckRx p count ovf).pp p).reverts = (s.pp p).reverts.drop 1
    ∧ ((s.revertAckRx p count ovf).pp p).staged = (s.pp p).staged.filter (fun e => !revertGone (s.pp p) count ovf e) :=
  ⟨congrArg Link.reverted (lk_mdLk p _ s), congrArg StgP.reverts (pp_mdPp p _ _), congrArg StgP.staged (pp_mdPp p _ _)⟩

/-! ### ERROR (R115) -/

/-- A code outside Table 03-9 is a protocol error. -/
theorem hclError_unknown {code : BitVec 8} (hc : code ∉ [0x10#8, 0x21#8, 0x30#8, 0x31#8]) (sq : Nat) (s : State) :
    s.hclError p sq code.toNat = s.protoErr p sq := by
  have hn (b : BitVec 8) (hb : b ∈ [0x10#8, 0x21#8, 0x30#8, 0x31#8]) : code.toNat ≠ b.toNat := fun e => hc (BitVec.eq_of_toNat_eq e ▸ hb)
  unfold hclError
  split
  · next e => exact absurd e (hn 0x10 (by decide))
  · next e => exact absurd e (hn 0x21 (by decide))
  · next e => exact absurd e (hn 0x30 (by decide))
  · next e => exact absurd e (hn 0x31 (by decide))
  · rfl

/-- A code of Table 03-9 has its error bit. -/
theorem hclError_known {code : BitVec 8} {b : Nat} (hc : (code, b) ∈ [(0x10#8, 2), (0x21#8, 2), (0x30#8, 3), (0x31#8, 4)]) (sq : Nat) (s : State) :
    b < 32 ∧ s.hclError p sq code.toNat = s.portErr p b := by
  simp only [List.mem_cons, Prod.mk.injEq, List.not_mem_nil, or_false] at hc
  rcases hc with ⟨rfl, rfl⟩ | ⟨rfl, rfl⟩ | ⟨rfl, rfl⟩ | ⟨rfl, rfl⟩
  · exact ⟨by decide, rfl⟩
  · exact ⟨by decide, rfl⟩
  · exact ⟨by decide, rfl⟩
  · exact ⟨by decide, rfl⟩

end

end State
end Sys2Proof.Machine
end

section
/-! PROOFS. The statement of the map's and the move's messages (O25). -/
set_option Elab.async false

namespace Sys2Proof.Machine

/-- Settles O25, message by message: each acts on the state in which its header has been taken, and there as its function says. -/
theorem messagesOfTheMapAndTheMove : Obligations.MessagesOfTheMapAndTheMove := by
  refine ⟨fun p h m s hq hst h0 h1 he => does_inSeq hq rfl ?_, fun p h m s hq hu hi hm => does_inSeq hq rfl ?_, fun p h m s hq => does_inSeq hq rfl ?_,
    fun p h m s hq => does_inSeq hq rfl ?_, fun p h tag first words a s hq ha => does_inSeq hq rfl ?_,
    fun p h tag sq chunk gen st data c s hq hc hg hl hs hr => does_inSeq hq rfl ?_, fun p h tag sq chunk gen st data c g s hq hc hg hne hs hr => does_inSeq hq rfl ?_,
    fun p h tag sq chunk gen st data c s hq hc hr => does_inSeq hq rfl ?_, fun p h tag sq chunk gen st data c s hq hc hs => does_inSeq hq rfl ?_,
    fun p h tag sq chunk gen st data err s hq hr => does_inSeq hq rfl ?_, fun p h turn acc sq g c s hq hf hc => does_inSeq hq rfl ?_,
    fun p h count ovf s hq => does_inSeq hq rfl ?_, fun p h code b s hq hc => does_inSeq hq rfl ?_, fun p h code s hq hc => does_inSeq hq rfl ?_⟩
  all_goals have ht := State.portTaken_moved p h s
  all_goals generalize htk : s.portTaken p h = t at ht
  all_goals obtain ⟨d, i, j, hlk⟩ := ht.lk
  · obtain ⟨c, a, b, hk⟩ := State.identMore_kept p m t
    rw [hk]
    exact State.identRx_up (by rw [hlk]; exact hst) h0 h1 (by rw [hlk]; exact he)
  · exact State.identMore_other (ht.linkUp.trans hu) (by rw [hlk]; exact hi) (by rw [hlk]; exact hm)
  · obtain ⟨f1, f2, f3⟩ := State.reportRx_facts p m false t
    have hs : (t.stkQ p).rep = (s.stkQ p).rep := congrArg (fun v : Stake => (rd v.q p.val).rep) (ht.agree.stake rfl)
    rw [ht.agree.clk rfl, hs] at f2
    exact ⟨f1, fun h => f2.trans (if_pos ⟨h, rfl⟩), fun h => f2.trans (if_neg (fun e => h e.1)), f3,
      (State.agree_reportRx rfl p.val m false t (ht.agree.mono (m := 0xC2000) rfl)).sameBut rfl⟩
  · obtain ⟨-, f2, -⟩ := State.reportRx_facts p m true t
    exact (f2.trans (if_neg (by simp))).trans (congrArg (fun v : Stake => (rd v.q p.val).rep) (ht.agree.stake rfl))
  · exact State.mapRx_answers (by rw [ht.pp]; exact ha)
  · rw [State.dataRx_copy (ht.moverRuns.trans hr) (by rw [ht.pp]; exact hc), if_neg Bool.false_ne_true]
    exact State.copyData_held (ht.stageRuns.trans hs) (by rw [ht.pp]; exact List.mem_of_find?_eq_some hc) hg hl
  · rw [State.dataRx_copy (ht.moverRuns.trans hr) (by rw [ht.pp]; exact hc), if_neg Bool.false_ne_true]
    exact State.copyData_abandons (ht.stageRuns.trans hs) hg hne
  · rw [State.dataRx_copy (ht.moverRuns.trans hr) (by rw [ht.pp]; exact hc), if_pos rfl]
    obtain ⟨f1, f2, f3, f4⟩ := State.rereadChunk_facts p sq.toNat chunk tag.toNat t
    refine ⟨f1.trans (by rw [ht.agree.save rfl]), f2, by rw [f3, ht.pp], fun hu ha hw hb => ?_⟩
    have hch : (t.lk p).chan = (s.lk p).chan.accept := htk ▸ State.portTaken_noAck ha
    rw [f4 (ht.linkUp.trans hu) (by rw [hch]; exact hw) (by rw [hch]; exact hb), hch]
    rfl
  · have e : t.dataRx p h.seq.toNat tag.toNat sq.toNat chunk gen.toNat st.toNat data false = t := by
      by_cases hr : t.moverRuns = true
      · rw [State.dataRx_copy hr (by rw [ht.pp]; exact hc), if_neg Bool.false_ne_true]
        exact if_pos (by simp [ht.stageRuns, hs])
      · exact if_pos (by simpa using hr)
    rw [e]
    exact ht.agree.sameBut rfl
  · have e : t.dataRx p h.seq.toNat tag.toNat sq.toNat chunk gen.toNat st.toNat data err = t := if_pos (by simp [ht.moverRuns, hr])
    rw [e]
    exact ht.agree.sameBut rfl
  · have hf' := State.confirmAckRx_facts (s := t) (acc := acc) (by rw [ht.pp]; exact hf) (by rw [ht.pp]; exact hc)
    rw [ht.pp p, ht.agree.stage rfl, ht.agree.stake rfl, ht.agree.clk rfl, hlk] at hf'
    exact hf'
  · obtain ⟨f1, f2, f3⟩ := State.revertAckRx_facts p count.toNat ovf t
    rw [ht.pp p] at f2 f3
    rw [f3]
    have hc0 (h : count ≠ 0) : (count.toNat != 0) = true := by simpa [BitVec.toNat_eq] using h
    refine ⟨f1, f2, fun n l hr h => ?_, fun n l hr ho h e => ?_, fun h => ?_, (State.agree_revertAckRx rfl p.val count.toNat ovf t (ht.agree.mono (m := 0x240000) rfl)).sameBut rfl⟩
    · simp [State.revertGone, hr, hc0 h]
    · simp [State.revertGone, hr, hc0 h, ho]
    · have hg (e : Staged) : State.revertGone (s.pp p) count.toNat ovf e = false := by
        unfold State.revertGone
        split
        · simp [h]
        · rfl
      simp [hg]
  · obtain ⟨hb, e⟩ := State.hclError_known hc h.seq.toNat t
    rw [e, State.lk_portErr]
    exact ⟨State.err_bit _ hb, State.raiseTurn_live .., (State.agree_portErr rfl p.val b t (ht.agree.mono (m := 0x42000) rfl)).sameBut rfl⟩
  · rw [State.hclError_unknown hc]
    obtain ⟨f1, f2, -⟩ := State.protoErr_facts p h.seq.toNat t
    exact ⟨f1, f2, (State.agree_protoErr rfl p.val _ t (ht.agree.mono (m := 0x42000) rfl)).sameBut rfl⟩

end Sys2Proof.Machine
end

section
/-! PROOFS. CHECK, FROZEN, WACK, RELEASE_ACK and their time-outs (R128, R252, R253, R256, R258). -/
set_option Elab.async false

namespace Sys2Proof.Machine
namespace State

section
variable {p : Fin 64} {s t : State}

/-! ### A port's record of Return -/

theorem rt_mdRt (p : Fin 64) (f : RetP → RetP) (s : State) : (s.mdRt p f).rt p = f (s.rt p) := rd_md_self _ _ _ p.isLt

theorem rt_mdRt_ne {q : Nat} (h : q ≠ p) (f : RetP → RetP) (s : State) : (s.mdRt q f).rt p = s.rt p := rd_md_ne _ _ _ _ h

theorem rt_congr (h : t.ret = s.ret) (q : Nat) : t.rt q = s.rt q := by simp only [rt, h]

theorem rt_send (p q : Nat) (m : HclOut) (s : State) : (s.send q m).rt p = s.rt p := rt_congr ((agree_send rfl q m s (.refl 0x40000 s)).ret rfl) p

theorem rt_retireAll (p q n : Nat) (s : State) : (s.retireAll q n).rt p = s.rt p := rt_congr ((agree_retireAll rfl q n s (.refl 0x300001 s)).ret rfl) p

theorem ChanMoved.rt (h : ChanMoved p s t) (q : Nat) : t.rt q = s.rt q := rt_congr (h.agree.ret rfl) q

theorem ChanMoved.relStates (h : ChanMoved p s t) : t.relStates = s.relStates := by
  obtain ⟨c, m, n, rfl⟩ := h
  rfl

theorem ChanMoved.portImage (h : ChanMoved p s t) : t.portImage p = s.portImage p := by
  obtain ⟨c, m, n, rfl⟩ := h
  rfl

/-- A port decided again is none but the one named. -/
theorem rt_redecide_ne {q : Nat} (h : q ≠ p) (s : State) : (s.redecide q).rt p = s.rt p := by
  unfold redecide askPort
  split
  · rw [rt_send, rt_mdRt_ne h, rt_mdRt_ne h]
  · rw [rt_mdRt_ne h]

/-! ### CHECK (R244, R258) -/

/-- The codes of a CHECK are the link's, and one request is answered. -/
def checked (p : Nat) (serial : Nat) (codes : List Word) (s : State) : State :=
  (s.mdLk p (fun l => { l with serial, region := codes })).mdRt p (fun r => { r with chks := r.chks - 1 })

theorem rt_checked (p : Fin 64) (serial : Nat) (codes : List Word) (s : State) : (s.checked p serial codes).rt p = { s.rt p with chks := (s.rt p).chks - 1 } := rt_mdRt ..

theorem portImage_checked (p : Fin 64) (serial : Nat) (codes : List Word) (s : State) : (s.checked p serial codes).portImage p = s.portImage p := by
  unfold portImage
  rw [rt_checked]
  rfl

variable {serial : Nat} {codes : List Word}

/-- A CHECK that no restore waits for is kept for the decision. -/
theorem checkRx_kept (h : ¬((s.rt p).out = 6 ∧ (s.rt p).ph = 3 ∧ (s.rt p).chks = 0)) :
    s.checkRx p serial codes = (s.checked p serial codes).mdRt p (fun r => { r with check := some codes }) := by
  have hc : ¬(((s.checked p serial codes).rt p).out = 6 && ((s.checked p serial codes).rt p).ph = 3 && (s.rt p).chks = 0) = true := by
    rw [rt_checked]
    simpa [and_assoc] using h
  exact if_neg hc

/-- The codes of all 64 regions are those of the squares written. -/
theorem codes_all_iff (w : List (Nat × Nat)) :
    (List.range 64).all (fun k => codes.getD k 0 == wroteCode w k) = true ↔ ∀ k < 64, codes.getD k 0 = wroteCode w k := by
  simp only [List.all_eq_true, List.mem_range, beq_iff_eq]

variable (ho : (s.rt p).out = 6) (hp : (s.rt p).ph = 3) (hn : (s.rt p).chks = 0)
include ho hp hn

/-- What a restore makes of its CHECK. -/
theorem checkRx_restore : s.checkRx p serial codes =
    if (List.range 64).all (fun k => codes.getD k 0 == wroteCode (s.rt p).wrote k) then
      if (s.rt p).lost = 0 then
        match s.portImage p with
        | some m => ((s.checked p serial codes).mdRt p (fun r => { r with ph := 4 })).sendRelease p m.serial false false
        | none => s.checked p serial codes
      else (s.checked p serial codes).restoreLoss p
    else if (s.rt p).round = 0 then ((s.checked p serial codes).mdRt p (fun r => { r with round := 1 })).restoreClear p
    else (s.checked p serial codes).restoreLoss p := by
  unfold checkRx
  extract_lets s1 r
  have hr : r = { s.rt p with chks := (s.rt p).chks - 1 } := rt_checked ..
  have hi : s1.portImage p = s.portImage p := portImage_checked ..
  rw [if_pos (by simp [hr, ho, hp, hn]), hr, hi]
  rfl

omit ho hp hn

theorem sendRelease_rt (p : Fin 64) (n : Nat) (d e : Bool) (s : State) :
    (s.sendRelease p n d e).rt p = { s.rt p with relSent := true, relAcked := false, tries := 0, relMsg := some (n, d, e) } := by
  rw [sendRelease, rt_send, rt_mdRt]

theorem makePending_facts (h : (s.rt p).out ≠ 1) : ((s.makePending p).rt p).out = (s.rt p).out ∧ (s.evtBit 7 2 = true → (s.makePending p).evtBit 7 2 = true) := by
  refine ⟨?_, fun he => setEvt_evtBit_mono _ 7 1 7 2 (by decide) he⟩
  have e := rt_mdRt p (fun r => { r with pend := true, out := if r.out = 1 then 8 else r.out, decide := false }) s
  exact (congrArg RetP.out e).trans (if_neg h)

/-- A restore with losses waits for the host. -/
theorem restoreLoss_facts (p : Fin 64) (s : State) : ((s.restoreLoss p).rt p).out = 0xB ∧ (s.restoreLoss p).evtBit 7 2 = true := by
  have e : (((s.mdRt p (fun r => { r with out := 0xB, ph := 0 })).setEvt 7 2).rt p).out = 0xB := congrArg RetP.out (rt_mdRt p _ s)
  have hv := setEvt_evtBit (s.mdRt p (fun r => { r with out := 0xB, ph := 0 })) 7 2 (by decide) (by decide)
  unfold restoreLoss awaitHost
  split
  · obtain ⟨f1, f2⟩ := makePending_facts (p := p) (s := (s.mdRt p (fun r => { r with out := 0xB, ph := 0 })).setEvt 7 2) (by rw [e]; decide)
    exact ⟨f1.trans e, f2 hv⟩
  · exact ⟨e, hv⟩

theorem restoreClear_rt (p : Fin 64) (s : State) : ((s.restoreClear p).rt p).out = (s.rt p).out ∧ ((s.restoreClear p).rt p).round = (s.rt p).round
    ∧ ((s.restoreClear p).rt p).ph = 1 ∧ ((s.restoreClear p).rt p).written = 0 := by
  rw [restoreClear, rt_send, rt_mdRt]
  exact ⟨rfl, rfl, rfl, rfl⟩

/-! ### FROZEN (R127 to R129) -/

/-- What the link of a port shows of FROZEN in Save. -/
def frozenHeard (p : Nat) (m : FrozenMsg) (s : State) : State :=
  s.arrive.mdLk p (fun l => { l with
    frzRcvd := true, frzSrc := m.source, frzResp := if !(s.arrive.lk p).frzRcvd then min 0xFF s.arrive.sinceTrip else l.frzResp, frzStamp := m.stamp,
    region := m.region, serial := m.serial })

theorem lk_frozenHeard (p : Fin 64) (m : FrozenMsg) (s : State) : ((s.frozenHeard p m).lk p).frzRcvd = true ∧ ((s.frozenHeard p m).lk p).serial = m.serial
    ∧ ((s.frozenHeard p m).lk p).region = m.region ∧ ((s.frozenHeard p m).lk p).id = (s.lk p).id := by
  rw [frozenHeard, lk_mdLk]
  exact ⟨rfl, rfl, rfl, rfl⟩

/-- A FROZEN that makes the port's to-move set. -/
theorem frozenRx_taken {m : FrozenMsg} (hs : s.saving = true) (hi : (s.sv p).img = true) (hp : (s.sv p).pst < 4) (hf : (s.sv p).frozen = none)
    (ha : (s.lk p).id = (s.sv p).adapter) : s.frozenRx p m =
    if (s.sv p).unconf then
      (if (s.sv p).late then ((s.frozenHeard p m).buildSet p m).mdSv p (fun w => { w with late := true })
        else (((s.frozenHeard p m).buildSet p m).mdSv p (fun w => { w with late := true })).portErr p 9).moveReads 449
    else
      let s2 := (s.frozenHeard p m).buildSet p m
      if s2.imgPorts.all (fun q => (s2.sv q).frozen.isSome) && s2.save.w0.isNone then s2.mdSave (fun w => { w with w0 := some s2.sinceTrip, phase := 2 }) else s2 := by
  have htop : s.top.state = .save := by
    simp only [saving, Bool.and_eq_true, beq_iff_eq] at hs
    exact hs.1
  unfold frozenRx
  extract_lets s' first s1 v
  have hv : v = s.sv p := rfl
  have hs1 : s1.saving = true := hs
  have hid : (s1.lk p).id = (s.lk p).id := (lk_frozenHeard p m s).2.2.2
  rw [if_neg (not_not_intro (show s'.top.state = .save from htop)), if_neg (by simp [hv, hi, hf, hs1, Nat.not_le.mpr hp, hid, ha]), hv]
  rfl

theorem sv_mdSv (p : Fin 64) (f : SvPort → SvPort) (s : State) : (s.mdSv p f).sv p = f (s.sv p) := rd_md_self _ _ _ p.isLt

theorem sv_mdSv_ne {q : Nat} (h : q ≠ p) (f : SvPort → SvPort) (s : State) : (s.mdSv q f).sv p = s.sv p := rd_md_ne _ _ _ _ h

theorem sv_congr (h : t.save = s.save) (q : Nat) : t.sv q = s.sv q := by simp only [sv, h]

theorem buildSet_sv (p : Fin 64) (m : FrozenMsg) (s : State) : ((s.buildSet p m).sv p).frozen = some m ∧ ((s.buildSet p m).sv p).pst = (if s.save.c1Done then 3 else 2)
    ∧ ((s.buildSet p m).sv p).late = (s.sv p).late := by
  unfold buildSet
  extract_lets
  rw [sv_mdSv]
  exact ⟨rfl, rfl, rfl⟩

theorem sv_send (p q : Nat) (m : HclOut) (s : State) : (s.send q m).sv p = s.sv p := sv_congr ((agree_send rfl q m s (.refl 0x40000 s)).save rfl) p

theorem sv_mdSave (p : Fin 64) {f : Save → Save} (s : State) (hf : (f s.save).ports = s.save.ports) : (s.mdSave f).sv p = s.sv p := by simp only [sv, mdSave, hf]

theorem readSquare_sv (p : Fin 64) (q : Nat) (s : State) : ((s.readSquare q).sv p).frozen = (s.sv p).frozen ∧ ((s.readSquare q).sv p).late = (s.sv p).late := by
  unfold readSquare
  split
  · exact ⟨rfl, rfl⟩
  · rw [sv_send, sv_mdSave p _ rfl]
    by_cases hq : q = p
    · subst hq
      rw [sv_mdSv]
      exact ⟨rfl, rfl⟩
    · rw [sv_mdSv_ne hq]
      exact ⟨rfl, rfl⟩

/-- READs leave what FROZEN told of a port. -/
theorem moveReads_sv (p : Fin 64) (n : Nat) (s : State) : ((s.moveReads n).sv p).frozen = (s.sv p).frozen ∧ ((s.moveReads n).sv p).late = (s.sv p).late := by
  induction n generalizing s with
  | zero => exact ⟨rfl, rfl⟩
  | succ n ih =>
    unfold moveReads
    split
    · exact ⟨rfl, rfl⟩
    · split
      · exact ⟨rfl, rfl⟩
      · next q _ =>
        obtain ⟨f1, f2⟩ := ih (s.readSquare q)
        obtain ⟨g1, g2⟩ := readSquare_sv p q s
        exact ⟨f1.trans g1, f2.trans g2⟩

/-! ### WACK (R256) -/

/-- The squares written are not counted by the restore's next step. -/
theorem writeSquare_written (p : Fin 64) (sq : Nat) (x : Option (UTag × NBody)) (s : State) : ((s.writeSquare p sq x).rt p).written = (s.rt p).written := by
  unfold writeSquare
  split
  · rw [rt_mdRt]
  · next t cs _ =>
    generalize List.range 16 = l
    have h1 := congrArg RetP.written (rt_mdRt p (fun r => { r with
      reading := none, wrote := r.wrote ++ [(sq, t.gen)], outst := r.outst ++ l.map (fun k => (sq, k)) }) s)
    exact List.foldlRecOn (motive := fun u => (rt u p).written = (s.rt p).written) l _ h1 (fun u hu k _ => by rw [rt_send, hu])

theorem restoreStep_written (p : Fin 64) (n : Nat) (s : State) : ((s.restoreStep n p).rt p).written = (s.rt p).written := by
  induction n generalizing s with
  | zero => rfl
  | succ n ih =>
    unfold restoreStep
    extract_lets r
    split
    · rfl
    split
    · split
      · rw [rt_send, rt_mdRt]
      · rfl
    next q qs _ =>
    split
    · rfl
    extract_lets s1
    have e1 : s1.rt p = _ := rt_mdRt p _ s
    have h1 : (s1.rt p).written = (s.rt p).written := by rw [e1]
    split
    · rw [ih, writeSquare_written, h1]
    split
    · rfl
    split
    · rw [rt_congr ((agree_tick rfl _ (agree_postDesc rfl _ _ s1 (.refl 0x100001 s1))).ret rfl), h1]
    · rw [ih, writeSquare_written, h1]

/-- With nothing left to write nothing more becomes outstanding. -/
theorem restoreStep_outst (n : Nat) (h : (s.rt p).todo = []) : ((s.restoreStep n p).rt p).outst = (s.rt p).outst := by
  cases n with
  | zero => rfl
  | succ n =>
    unfold restoreStep
    extract_lets r
    split
    · rfl
    split
    · split
      · rw [rt_send, rt_mdRt]
      · rfl
    · next hc => exact absurd (h.symm.trans hc) (List.cons_ne_nil _ _).symm

/-! ### RELEASE (R252, R253) -/

theorem retireRestored_rt (p : Fin 64) (src : Nat) (s : State) : ∃ x, (s.retireRestored p src).rt p = { s.rt p with src := x } := by
  unfold retireRestored
  extract_lets n s1
  split
  · exact ⟨(s.rt p).src, rt_retireAll ..⟩
  · next h =>
    have hne : src ≠ p := fun e => h (by simp [e])
    have h1 : s1.rt p = { s.rt p with src := 0xFF } := by rw [show s1 = _ from rfl, rt_mdRt, rt_retireAll]
    split
    · exact ⟨0xFF, (rt_redecide_ne hne s1).trans h1⟩
    · exact ⟨0xFF, (rt_mdRt_ne hne _ s1).trans h1⟩

/-- A port released has its outcome; a restore's is that it succeeded. -/
theorem released_rt (p : Fin 64) (s : State) : ∃ x i, (s.released p).rt p = { s.rt p with
    out := if (s.rt p).out = 6 || (s.rt p).out = 0xB then 7 else (s.rt p).out, released := true, pend := false, relId := i, ph := 0, src := x } := by
  unfold released
  extract_lets s1
  have h1 : s1.rt p = { s.rt p with
      out := if (s.rt p).out = 6 || (s.rt p).out = 0xB then 7 else (s.rt p).out, released := true, pend := false, relId := (s.lk p).id, ph := 0 } := by
    have e : s1.rt p = _ := rt_mdRt p _ _
    rw [e, rt_mdRt]
    rfl
  clear_value s1
  split
  · exact ⟨(s.rt p).src, (s.lk p).id, (rt_retireAll ..).trans h1⟩
  · obtain ⟨x, hx⟩ := retireRestored_rt p (s.rt p).src s1
    exact ⟨x, (s.lk p).id, by rw [hx, h1]⟩
  · exact ⟨(s.rt p).src, (s.lk p).id, h1⟩

end

end State
end Sys2Proof.Machine
end

section
/-! PROOFS. The statement of the messages of a save and a return (O26). -/
set_option Elab.async false

namespace Sys2Proof.Machine

/-- A message in sequence that the vault may follow. -/
theorem doesThenVault_inSeq {c : Instr} {p : Fin 64} {h : Hdr} {s : State} {f : State → State} {P : State → Prop} (hq : InSeq p h s)
    (hc : exec c s = .next (s.onCtl (fun t => (t.receive p h f).vaultAfter))) (hP : P (f (s.portTaken p h))) : DoesThenVault c s P :=
  ⟨_, hc.trans ((exec_on hq.1).trans (congrArg (fun u : State => Host.Outcome.next u.vaultAfter) (State.receive_inSeq hq f))), hP⟩

namespace State

section
variable {p : Fin 64} {s : State}

theorem ChanMoved.saving {t : State} (h : ChanMoved p s t) : t.saving = s.saving := by
  obtain ⟨c, m, n, rfl⟩ := h
  rfl

theorem ChanMoved.id {t : State} (h : ChanMoved p s t) : (t.lk p).id = (s.lk p).id := by
  obtain ⟨c, m, n, e⟩ := h.lk
  rw [e]

/-- A FROZEN after the window: its map, and the error of the first. -/
theorem moveReads_late (p : Fin 64) (m : FrozenMsg) (late : Bool) (n : Nat) (s : State) :
    let u := (if late then (s.buildSet p m).mdSv p (fun w => { w with late := true })
      else ((s.buildSet p m).mdSv p (fun w => { w with late := true })).portErr p 9).moveReads n
    (u.sv p).frozen = some m ∧ (u.sv p).late = true ∧ (late = false → (u.lk p).err.getLsbD 9 = true) := by
  intro u
  have hx := sv_mdSv p (fun w => { w with late := true }) (s.buildSet p m)
  generalize ex : (s.buildSet p m).mdSv p (fun w => { w with late := true }) = x at hx
  have hu : u = (if late then x else x.portErr p 9).moveReads n := by rw [← ex]
  have ha : Agree 0x42000 x (if late then x else x.portErr p 9) := .ite (.refl _ x) (agree_portErr rfl p.val 9 x (.refl _ x))
  obtain ⟨f1, f2⟩ := moveReads_sv p n (if late then x else x.portErr p 9)
  rw [hu, f1, f2, sv_congr (ha.save rfl), hx]
  refine ⟨(buildSet_sv p m s).1, rfl, fun hl => ?_⟩
  rw [((LinkKept.refl p _).moveReads n).err, if_neg (by simp [hl]), lk_portErr]
  exact err_bit _ (by decide)

/-- The restore's record once a WACK, or its time-out, has been seen. -/
def wacked (p sq chunk : Nat) (s : State) : State :=
  s.mdRt p (fun r => { r with
    outst := r.outst.erase (sq, chunk)
    written := if (r.outst.erase (sq, chunk)).any (fun e => e.1 == sq) then r.written else r.written + 1 })

theorem wackRx_eq {h sq chunk tag status : Nat} (ho : (s.rt p).outst.contains (sq, chunk) = true) (ht : tag = sq * 16 + chunk) :
    s.wackRx p h sq chunk tag status = (if status ≠ 0 then (s.wacked p sq chunk).protoErr p h else s.wacked p sq chunk).stepRestore p := by
  unfold wackRx
  rw [if_neg (by simp [ht]; simpa using ho)]
  rfl

/-- A restore that goes on after a protocol error: the error shows, and with nothing left to write nothing more is outstanding. -/
theorem protoErr_stepRestore (p : Fin 64) (n : Nat) (s : State) : (((s.protoErr p n).stepRestore p).lk p).err.getLsbD 2 = true
    ∧ ((s.protoErr p n).stepRestore p).subLive p 2 = true
    ∧ ((s.rt p).todo = [] → (((s.protoErr p n).stepRestore p).rt p).outst = (s.rt p).outst) := by
  obtain ⟨f1, f2, -⟩ := protoErr_facts p n s
  have hr : (s.protoErr p n).rt p = s.rt p := rt_congr ((agree_protoErr rfl p.val n s (.refl 0x42000 s)).ret rfl) p
  have ha := agree_stepRestore rfl p.val _ (.refl 0x940001 (s.protoErr p n))
  refine ⟨?_, (subLive_congr (ha.flt rfl) p 2).trans f2, fun h => ?_⟩
  · rw [((LinkKept.refl p _).stepRestore p).err]
    exact f1
  · rw [stepRestore, restoreStep_outst _ (by rw [hr]; exact h), hr]

theorem releaseTimeout_again {m : Nat × Bool × Bool} (ho : (s.rt p).relOpen = true) (hm : (s.rt p).relMsg = some m) (hs : s.relStates = true) :
    s.releaseTimeout p = if (s.rt p).tries < 3 then (s.mdRt p (fun r => { r with tries := r.tries + 1 })).send p (.release m.1 m.2.1 m.2.2) else s.toRecover p := by
  unfold releaseTimeout
  extract_lets r
  rw [if_neg (by simp [r, ho, hs]), show r.relMsg = some m from hm]

end

end State

/-- Settles O26, message by message: each acts on the state in which its header has been taken, and there as its function says. -/
theorem messagesOfSaveAndReturn : Obligations.MessagesOfSaveAndReturn := by
  refine ⟨fun p h serial codes s hq hn => does_inSeq hq rfl ?_, fun p h serial codes m s hq ho hp hn hl hm hk => does_inSeq hq rfl ?_,
    fun p h serial codes s hq ho hp hn hl => does_inSeq hq rfl ?_, fun p h serial codes s hq ho hp hn hr hk => does_inSeq hq rfl ?_,
    fun p h m s hq hs hi hp hu hf ha => doesThenVault_inSeq hq rfl ?_, fun p h m s hq hs => doesThenVault_inSeq hq rfl ?_,
    fun p h m s hq hs hi hp hu hf ha => doesThenVault_inSeq hq rfl ?_, fun p h sq chunk tag s hq ho hg => does_inSeq hq rfl ?_,
    fun p h sq chunk tag status s hq ho hg hs => does_inSeq hq rfl ?_, fun p sq chunk s hc ho hu => ⟨_, exec_on hc, ?_⟩,
    fun p h s hq ho hs => does_inSeq hq rfl ?_, fun p m s hc ho hm hs => ⟨_, exec_on hc, ?_⟩⟩
  · have ht := State.portTaken_moved p h s
    generalize s.portTaken p h = t at ht ⊢
    rw [State.checkRx_kept (by rw [ht.rt]; exact hn)]
    exact ⟨congrArg Link.serial (State.lk_mdLk p _ t), congrArg Link.region (State.lk_mdLk p _ t), congrArg RetP.check (State.rt_mdRt p _ _),
      (State.agree_mdRt rfl _ _ _ (State.agree_mdRt rfl _ _ _ (State.agree_mdLk rfl _ _ _ (ht.agree.mono (m := 0x840000) rfl)))).sameBut rfl⟩
  · have ht := State.portTaken_moved p h s
    generalize s.portTaken p h = t at ht ⊢
    have hr := ht.rt p
    rw [State.checkRx_restore (by rw [hr]; exact ho) (by rw [hr]; exact hp) (by rw [hr]; exact hn), hr, ht.portImage, hm, if_pos ((State.codes_all_iff _).mpr hk), if_pos hl]
    dsimp only
    rw [State.sendRelease_rt, State.rt_mdRt, State.rt_checked, hr]
    exact ⟨rfl, rfl, rfl⟩
  · have ht := State.portTaken_moved p h s
    generalize s.portTaken p h = t at ht ⊢
    have hr := ht.rt p
    rw [State.checkRx_restore (by rw [hr]; exact ho) (by rw [hr]; exact hp) (by rw [hr]; exact hn), hr]
    rcases hl with ⟨hl, hk⟩ | ⟨hl, k, hk, hne⟩
    · rw [if_pos ((State.codes_all_iff _).mpr hk), if_neg hl]
      exact State.restoreLoss_facts ..
    · rw [if_neg (fun e => hne ((State.codes_all_iff _).mp e k hk)), if_neg hl]
      exact State.restoreLoss_facts ..
  · obtain ⟨k, hk, hne⟩ := hk
    have ht := State.portTaken_moved p h s
    generalize s.portTaken p h = t at ht ⊢
    have hp' := ht.rt p
    rw [State.checkRx_restore (by rw [hp']; exact ho) (by rw [hp']; exact hp) (by rw [hp']; exact hn), hp',
      if_neg (fun e => hne ((State.codes_all_iff _).mp e k hk)), if_pos hr]
    obtain ⟨f1, f2, f3, f4⟩ := State.restoreClear_rt p ((t.checked p serial.toNat codes).mdRt p (fun r => { r with round := 1 }))
    rw [State.rt_mdRt, State.rt_checked, hp'] at f1 f2
    exact ⟨f1.trans ho, f2, f3, f4⟩
  · have ht := State.portTaken_moved p h s
    generalize s.portTaken p h = t at ht ⊢
    have hv := State.sv_congr (ht.agree.save rfl) p
    rw [State.frozenRx_taken (ht.saving.trans hs) (by rw [hv]; exact hi) (by rw [hv, hp]; decide) (by rw [hv]; exact hf) (by rw [hv, ht.id]; exact ha),
      if_neg (by simp [hv, hu])]
    extract_lets s2
    obtain ⟨f1, f2, f3⟩ := State.buildSet_sv p m (t.frozenHeard p m)
    obtain ⟨g1, g2, g3, -⟩ := State.lk_frozenHeard p m t
    have hs2 : (s2.sv p).frozen = some m ∧ (s2.sv p).pst = (if s.save.c1Done then 3 else 2) ∧ (s2.sv p).late = (s.sv p).late ∧ (s2.lk p).frzRcvd = true
        ∧ (s2.lk p).serial = m.serial ∧ (s2.lk p).region = m.region := by
      rw [← ht.agree.save rfl, ← hv]
      exact ⟨f1, f2, f3, g1, g2, g3⟩
    split
    · rw [State.sv_mdSave p _ rfl]
      exact hs2
    · exact hs2
  · have ht := State.portTaken_moved p h s
    generalize s.portTaken p h = t at ht ⊢
    have e : t.frozenRx p m = t.mdLk p (fun l => { l with serial := m.serial, frzSrc := m.source, frzStamp := m.stamp, region := m.region }) :=
      if_pos (show t.top.state ≠ .save by rw [ht.agree.top rfl]; exact hs)
    rw [e, State.lk_mdLk]
    exact ⟨rfl, rfl, ht.agree.save rfl⟩
  · have ht := State.portTaken_moved p h s
    generalize s.portTaken p h = t at ht ⊢
    have hv := State.sv_congr (ht.agree.save rfl) p
    rw [State.frozenRx_taken (ht.saving.trans hs) (by rw [hv]; exact hi) (by rw [hv]; exact hp) (by rw [hv]; exact hf) (by rw [hv, ht.id]; exact ha),
      if_pos (by rw [hv]; exact hu), hv]
    exact State.moveReads_late ..
  · have ht := State.portTaken_moved p h s
    generalize s.portTaken p h = t at ht ⊢
    have hr := ht.rt p
    rw [State.wackRx_eq (by rw [hr]; exact ho) hg, if_neg (by simp), State.stepRestore, State.restoreStep_written, State.wacked, State.rt_mdRt, hr]
  · have ht := State.portTaken_moved p h s
    generalize s.portTaken p h = t at ht ⊢
    have hr := ht.rt p
    have hz : status.toNat ≠ 0 := by simpa [BitVec.toNat_eq] using hs
    rw [State.wackRx_eq (by rw [hr]; exact ho) hg, if_pos hz]
    obtain ⟨f1, -, f3⟩ := State.protoErr_stepRestore p h.seq.toNat (t.wacked p sq.toNat chunk)
    rw [State.wacked, State.rt_mdRt, hr] at f3
    exact ⟨f1, f3⟩
  · have e : s.wackTimeout p sq.toNat chunk = _ := if_pos (by simp [hu]; simpa using ho)
    obtain ⟨f1, f2, f3⟩ := State.protoErr_stepRestore p 0 (s.mdRt p (fun r => { r with outst := r.outst.erase (sq.toNat, chunk.val) }))
    rw [State.rt_mdRt] at f3
    exact ⟨by rw [e]; exact f1, by rw [e]; exact f2, by rw [e]; exact f3, (State.agree_wackTimeout rfl p.val sq.toNat chunk s (.refl 0x942001 s)).sameBut rfl⟩
  · have ht := State.portTaken_moved p h s
    generalize s.portTaken p h = t at ht ⊢
    have hr := ht.rt p
    have e : t.releaseAckRx p = (t.mdRt p (fun r => { r with relAcked := true })).released p := if_pos (by simp [hr, ht.relStates, ho, hs])
    obtain ⟨x, i, hx⟩ := State.released_rt p (t.mdRt p (fun r => { r with relAcked := true }))
    rw [e, hx, State.rt_mdRt, hr]
    exact ⟨rfl, rfl, rfl, fun h => if_pos (by simpa using h)⟩
  · rw [State.releaseTimeout_again ho hm hs]
    split
    · refine ⟨?_, fun hu hw hb => ?_, (State.agree_send rfl _ _ _ (State.agree_mdRt rfl _ _ s (.refl 0x840000 s))).sameBut rfl⟩
      · rw [State.rt_send, State.rt_mdRt]
      · rw [State.send_up p _ (s.mdRt p _) hu hw hb]
        rfl
    · refine ⟨fun hu => ?_, (State.agree_toRecover rfl _ s (.refl 0x42000 s)).sameBut rfl⟩
      obtain ⟨hup, hst⟩ := State.linkUp_facts hu
      simp only [State.linkUp, Bool.and_eq_true, Bool.not_eq_true'] at hu
      exact State.toRecover_rcv hup hst hu.2

end Sys2Proof.Machine
end

section
/-! PROOFS. What the save's events write: the entries of the ports, the rings that a wave opens, the catalog units that are posted (R127 to R145). -/
set_option Elab.async false

namespace Sys2Proof.Machine
namespace State

/-! ### The save's entries of the ports -/

/-- From `s` to `t` the save's record differs in its table of ports alone. -/
def PortEntries (s t : State) : Prop := ∃ ps, t.save = { s.save with ports := ps }

namespace PortEntries
variable {s t u : State}

theorem refl (s : State) : PortEntries s s := ⟨s.save.ports, rfl⟩

theorem trans (h : PortEntries s t) (k : PortEntries t u) : PortEntries s u := by
  obtain ⟨ps, h⟩ := h
  obtain ⟨qs, k⟩ := k
  exact ⟨qs, by rw [k, h]⟩

theorem of_save (h : t.save = s.save) : PortEntries s t := ⟨s.save.ports, h⟩

theorem mdSv (h : PortEntries s t) (p : Nat) (f : SvPort → SvPort) : PortEntries s (t.mdSv p f) := h.trans ⟨_, rfl⟩

theorem forL {α : Type} (h : PortEntries s t) {f : α → State → State} (hf : ∀ x v, PortEntries s v → PortEntries s (f x v)) (l : List α) :
    PortEntries s (Sys2Proof.forL l f t) := forL_keeps hf l h

end PortEntries

section
variable {p : Fin 64} {s t : State}

theorem mem_imgPorts : p.val ∈ s.imgPorts ↔ (s.sv p).img = true := by simp [imgPorts, mem_idxs, p.isLt]

theorem nodup_imgPorts : s.imgPorts.Nodup := nodup_idxs 64 _

theorem imgPorts_any_false {f : SvPort → Bool} (h : ∀ p : Fin 64, (s.sv p).img = true → f (s.sv p) = false) : s.imgPorts.any (fun p => f (s.sv p)) = false := by
  refine List.any_eq_false.mpr fun q hq => ?_
  obtain ⟨hlt, hi⟩ := mem_idxs.mp hq
  simp [h ⟨q, hlt⟩ hi]

theorem buildUnconf_sv (p : Fin 64) (s : State) : ((s.buildUnconf p).sv p).unconf = true ∧ ((s.buildUnconf p).sv p).pst = 3 := by
  unfold buildUnconf
  rw [sv_mdSv]
  exact ⟨rfl, rfl⟩

theorem buildUnconf_sv_ne {q : Nat} (h : q ≠ p) (s : State) : (s.buildUnconf q).sv p = s.sv p := sv_mdSv_ne h _ _

theorem sv_portErr (q bit r : Nat) (s : State) : (s.portErr q bit).sv r = s.sv r := sv_congr ((agree_portErr rfl q bit s (.refl 0x42000 s)).save rfl) r

theorem lk_portErr_ne {q : Nat} (h : q ≠ p) (bit : Nat) (s : State) : (s.portErr q bit).lk p = s.lk p :=
  (congrArg (fun l => rd l p.val) (raiseTurn_links ..)).trans (rd_md_ne _ _ _ _ h)

/-! ### The end of a port's move -/

theorem endMove_sv (p : Fin 64) (s : State) : ((s.endMove p).sv p).ended = true ∧ ((s.endMove p).sv p).reads = [] ∧ ((s.endMove p).sv p).c1 = []
    ∧ ((s.endMove p).sv p).c2 = [] := by
  rw [endMove, sv_mdSv]
  exact ⟨rfl, rfl, rfl, rfl⟩

theorem endMove_sv_ne {q : Nat} (h : q ≠ p) (s : State) : (s.endMove q).sv p = s.sv p := by
  rw [endMove, sv_mdSv_ne h]
  split
  · exact buildUnconf_sv_ne h s
  · rfl

theorem endMove_entries (q : Nat) (s : State) : PortEntries s (s.endMove q) := by
  refine .mdSv ?_ q _
  split
  · exact (PortEntries.refl s).mdSv q _
  · exact .refl s

theorem endMoves_entries (s : State) : PortEntries s s.endMoves :=
  (PortEntries.refl s).forL (fun q _ h => by
    split
    · exact h.trans (endMove_entries q _)
    · exact h) _

/-- The moves end on every port that has not gone on to its manifest. -/
theorem endMoves_sv (hi : (s.sv p).img = true) (hp : (s.sv p).pst ≤ 3) : (s.endMoves.sv p).ended = true ∧ (s.endMoves.sv p).reads = [] := by
  refine forL_at (A := fun t => (t.sv p).pst ≤ 3) (B := fun t => (t.sv p).ended = true ∧ (t.sv p).reads = []) nodup_imgPorts (mem_imgPorts.mpr hi)
    (fun q hq t h => ?_) (fun t h => ?_) (fun q hq t h => ?_) hp
  · split
    · rw [endMove_sv_ne hq]
      exact h
    · exact h
  · rw [if_pos h]
    exact ⟨(endMove_sv p t).1, (endMove_sv p t).2.1⟩
  · split
    · rw [endMove_sv_ne hq]
      exact h
    · exact h

/-! ### The freeze window -/

/-- The ports without FROZEN are unconfirmed as the window closes (R127). -/
theorem windowClose_facts (hs : s.saving = true) : s.windowClose.save.w0.isSome = true ∧ ∀ p : Fin 64, (s.sv p).img = true → (s.sv p).pst = 1 →
    (s.windowClose.sv p).unconf = true ∧ (s.windowClose.sv p).pst = 3 ∧ (s.windowClose.lk p).err.getLsbD 9 = true := by
  unfold windowClose
  rw [if_neg (by simp [hs])]
  extract_lets late clk s0 s1
  have hlate : ∀ p : Fin 64, (s.sv p).img = true → (s.sv p).pst = 1 → p.val ∈ late := fun p hi hp => List.mem_filter.mpr ⟨mem_imgPorts.mpr hi, by simp [hp]⟩
  split
  · next h =>
    rw [Bool.and_eq_true, List.isEmpty_iff] at h
    exact ⟨h.2, fun p hi hp => absurd (hlate p hi hp) (by simp [h.1])⟩
  · refine ⟨?_, fun p hi hp => ?_⟩
    · dsimp only [mdSave]
      split <;> rfl
    · rw [sv_mdSave p s1 rfl]
      exact forL_at (A := fun _ => True) (B := fun t => (t.sv p).unconf = true ∧ (t.sv p).pst = 3 ∧ (t.lk p).err.getLsbD 9 = true)
        (nodup_imgPorts.filter _) (hlate p hi hp) (fun _ _ _ _ => trivial)
        (fun t _ => by
          rw [sv_portErr, lk_portErr]
          exact ⟨(buildUnconf_sv p t).1, (buildUnconf_sv p t).2, err_bit _ (by decide)⟩)
        (fun q hq t h => by
          rw [sv_portErr, lk_portErr_ne hq, buildUnconf_sv_ne hq]
          exact h) trivial

/-! ### The cut-offs -/

/-- A give-up of units that wait, and what completes the open stripe, leave the save's record. -/
theorem dropMoves_save (data : Bool) (s : State) : (s.dropMoves data).save = s.save := (agree_dropMoves rfl data s (.refl 0x100000 s)).save rfl

theorem filled_save (area cls : Nat) (reloc : Bool) (s : State) : (s.fillStripe area cls reloc).pump.save = s.save :=
  (agree_pump rfl _ (agree_fillStripe rfl area cls reloc s (.refl 0x300001 s))).save rfl

/-- A source that is raised is live and the event bit set with it reads 1; the save's record stays. -/
theorem raise_setEvt_facts (src sub bank bit : Nat) (hb : bank < 13) (hi : bit < 32) (s : State) :
    ((s.raise src sub none).setEvt bank bit).subLive src sub = true ∧ ((s.raise src sub none).setEvt bank bit).evtBit bank bit = true
    ∧ ((s.raise src sub none).setEvt bank bit).save = s.save :=
  ⟨(subLive_congr rfl src sub).trans (raise_live ..), setEvt_evtBit _ bank bit hb hi, (agree_raise rfl src sub none s (.refl 0x2000 s)).save rfl⟩

/-- Class 1 is cut off: every move ends, and squares left of class 1 miss the deadline (R139, R141). -/
theorem class1Cut_facts (hs : s.saving = true) (hc : s.save.c1Off = false) (hp : s.save.phase < 5) : s.class1Cut.save.c1Off = true
    ∧ (∀ p : Fin 64, (s.sv p).img = true → (s.sv p).pst ≤ 3 → (s.class1Cut.sv p).ended = true ∧ (s.class1Cut.sv p).reads = [])
    ∧ (0 < s.leftC1 → s.class1Cut.save.deadlineMiss = true ∧ s.class1Cut.subLive 73 0xFFFF = true ∧ s.class1Cut.evtBit 6 2 = true) := by
  unfold class1Cut
  rw [if_neg (by simp [hs, hc, hp])]
  extract_lets miss s1 s2
  have hsave : s2.save = s1.save := (filled_save ..).trans (dropMoves_save ..)
  have hoff : s1.save.c1Off = true := by
    obtain ⟨ps, h⟩ := endMoves_entries (s.mdSave (fun v => { v with c1Off := true }))
    exact congrArg Save.c1Off h
  have hend : ∀ p : Fin 64, (s.sv p).img = true → (s.sv p).pst ≤ 3 → (s1.sv p).ended = true ∧ (s1.sv p).reads = [] :=
    fun p hi hp => endMoves_sv (s := s.mdSave (fun v => { v with c1Off := true })) hi hp
  split
  · obtain ⟨hlive, hevt, hu⟩ := raise_setEvt_facts 73 0xFFFF 6 2 (by decide) (by decide) (s2.mdSave (fun v => { v with deadlineMiss := true }))
    refine ⟨?_, fun p hi hp => ?_, fun _ => ⟨?_, hlive, hevt⟩⟩
    · rw [hu, mdSave, hsave]
      exact hoff
    · rw [sv_congr hu, sv_mdSave p s2 rfl, sv_congr hsave]
      exact hend p hi hp
    · rw [hu]
      rfl
  · next h =>
    refine ⟨by rw [hsave]; exact hoff, fun p hi hp => ?_, fun hm => absurd hm h⟩
    rw [sv_congr hsave]
    exact hend p hi hp

/-- Class 2 is cut off: the READs of class 1 alone go on (R140). -/
theorem class2Cut_facts (hs : s.saving = true) (hc : s.save.c2Off = false) : s.class2Cut.save.c2Off = true
    ∧ ∀ p : Fin 64, (s.class2Cut.sv p).reads = (s.sv p).reads.filter (fun r => r.cls == 1) := by
  unfold class2Cut
  rw [if_neg (by simp [hs, hc])]
  refine ⟨?_, fun p => ?_⟩
  · obtain ⟨ps, h⟩ := (PortEntries.refl (s.mdSave (fun v => { v with c2Off := true }))).forL
      (f := fun p t => t.mdSv p (fun v => { v with reads := v.reads.filter (fun r => r.cls == 1) })) (fun p _ h => h.mdSv p _) (List.range 64)
    exact congrArg Save.c2Off h
  · refine forL_at (A := fun t => t.sv p = s.sv p) (B := fun t => (t.sv p).reads = (s.sv p).reads.filter (fun r => r.cls == 1)) List.nodup_range
      (List.mem_range.mpr p.isLt) (fun q hq t h => ?_) (fun t h => ?_) (fun q hq t h => ?_) (s := s.mdSave _) rfl
    · rw [sv_mdSv_ne hq, h]
    · rw [sv_mdSv, h]
    · rw [sv_mdSv_ne hq, h]

/-! ### The emergency seal -/

/-- A backup supply that is not good shows in its pin and its source, and in the save's record as SUPPLY alone (R39). -/
theorem backupNotGood_facts (s : State) : s.backupNotGood.pins.backupGood = false ∧ s.backupNotGood.top = s.top
    ∧ ∃ b, s.backupNotGood.save = { s.save with supply := b } := by
  refine ⟨?_, (agree_backupNotGood rfl s (.refl 0x406102 s)).top rfl, ?_⟩
  · rw [backupNotGood, (agree_backupFollow rfl _ (.refl 0x406100 _)).pins rfl]
    rfl
  · unfold backupNotGood backupFollow
    split
    · unfold backupSource
      extract_lets c s1
      have h1 : s1.save = s.save := by
        have hs1 : Agree 0x6100 (s.mdPins (fun p => { p with backupGood := false })) s1 := agree_follow rfl _ _ _ _ (.ite (agree_count rfl _ _ _ _ (.refl _ _)) (.refl _ _))
        exact hs1.save rfl
      clear_value s1
      split
      · exact ⟨true, by rw [mdSave, h1]⟩
      · exact ⟨s.save.supply, h1⟩
    · exact ⟨s.save.supply, rfl⟩

/-- The emergency seal ends every move (R142). -/
theorem emergSeal_facts (hs : s.saving = true) (he : s.save.emerg = false) : s.emergSeal.save.emerg = true ∧ s.emergSeal.save.w0.isSome = true
    ∧ s.emergSeal.subLive 73 0xFFFF = true ∧ s.emergSeal.evtBit 6 2 = true
    ∧ ∀ p : Fin 64, (s.sv p).img = true → (s.sv p).pst ≤ 3 → (s.emergSeal.sv p).ended = true := by
  unfold emergSeal
  rw [if_neg (by simp [hs, he])]
  extract_lets s1
  obtain ⟨hlive, hevt, hu⟩ := raise_setEvt_facts 73 0xFFFF 6 2 (by decide) (by decide) (s1.cutStripe.dropMoves false)
  have hsave : (s1.cutStripe.dropMoves false).save = s1.save := dropMoves_save ..
  obtain ⟨ps, h1⟩ := endMoves_entries (s.mdSave (fun v => { v with emerg := true, w0 := some (v.w0.getD s.sinceTrip) }))
  refine ⟨?_, ?_, hlive, hevt, fun p hi hp => ?_⟩
  · rw [hu, hsave]
    exact congrArg Save.emerg h1
  · rw [hu, hsave]
    exact congrArg (fun v : Save => v.w0.isSome) h1
  · rw [sv_congr hu, sv_congr hsave]
    exact (endMoves_sv (s := s.mdSave (fun v => { v with emerg := true, w0 := some (v.w0.getD s.sinceTrip) })) hi hp).1

/-! ### The rings a wave opens -/

theorem ring_mdRing (r : Fin 32) (f : Ring → Ring) (s : State) : (s.mdRing r f).ring r = f (s.ring r) := rd_md_self _ _ _ r.isLt

theorem ring_mdRing_ne {q : Nat} {r : Fin 32} (h : q ≠ r) (f : Ring → Ring) (s : State) : (s.mdRing q f).ring r = s.ring r := rd_md_ne _ _ _ _ h

/-- What a change of rings keeps of every ring it keeps of this one. -/
theorem ring_mdRing_keeps {α : Type} (φ : Ring → α) {f : Ring → Ring} (hf : ∀ g, φ (f g) = φ g) (q : Nat) (r : Fin 32) (s : State) :
    φ ((s.mdRing q f).ring r) = φ (s.ring r) := by
  by_cases h : q = r
  · subst h
    rw [ring_mdRing, hf]
  · rw [ring_mdRing_ne h]

theorem setCursor_isOpen (q area l : Nat) (r : Fin 32) (s : State) : ((s.setCursor q area l).ring r).isOpen = (s.ring r).isOpen :=
  ring_mdRing_keeps Ring.isOpen (fun g => by split <;> rfl) q r s

theorem postDesc_isOpen (q : Nat) (d : Desc) (r : Fin 32) (s : State) : ((s.postDesc q d).ring r).isOpen = (s.ring r).isOpen := by
  unfold postDesc
  exact ring_mdRing_keeps Ring.isOpen (fun _ => by rfl) q r s

/-- Units that are posted leave which rings are open, and the catalog units in progress. -/
theorem pump_facts (r : Fin 32) (s : State) : (s.pump.ring r).isOpen = (s.ring r).isOpen ∧ s.pump.vault.cats = s.vault.cats := by
  unfold pump
  split
  · exact ⟨rfl, rfl⟩
  · refine forL_keeps (P := fun t => (t.ring r).isOpen = (s.ring r).isOpen ∧ t.vault.cats = s.vault.cats) (fun j t h => ?_) _ ⟨rfl, rfl⟩
    split
    · exact h
    · split
      · exact h
      · next q loc _ =>
        extract_lets rel t1 t2
        have hopen : (t1.ring r).isOpen = (t.ring r).isOpen := postDesc_isOpen q _ r t
        split
        · exact ⟨hopen.trans h.1, h.2⟩
        · exact ⟨(setCursor_isOpen q j.area _ r t2).trans (hopen.trans h.1), h.2⟩

/-- The rings of a wave are open where their channels take programs (R129, R130). -/
theorem waveOpen_isOpen {k : Fin 8} {w : Nat} (hs : s.saving = true) (hw : s.save.w0 = some w) (hn : s.save.settle = false) (x : Fin 4) :
    ((s.waveOpen k).ring (8 * x.val + k.val)).isOpen
      = (s.ringsRun x && !(s.ring (8 * x.val + k.val)).failed && bitOf (s.sled x).chOk k && !(s.sled x).lostAt) := by
  obtain ⟨r, hr⟩ : ∃ r : Fin 32, r.val = 8 * x.val + k.val := ⟨⟨8 * x.val + k.val, by omega⟩, rfl⟩
  have hne : ∀ y : Nat, y ≠ x.val → 8 * y + k.val ≠ r.val := by omega
  rw [← hr]
  unfold waveOpen
  rw [if_neg (by simp [hs]), hw]
  dsimp -zeta only
  rw [if_neg (by simp [hn])]
  extract_lets clk s0 s1 s2 s3
  have hmore : (s3.pump.moveReads 449).ring r = s3.pump.ring r := congrArg (fun v : Vault => rd v.rings r.val) ((agree_moveReads rfl _ _ (.refl 0x640000 _)).vault rfl)
  have h3 : s3.ring r = s1.ring r := by
    have ha : Agree 0x400000 s1 s2 := .ite (agree_markWaits rfl s1 (.refl _ s1)) (.refl _ s1)
    have hb : Agree 0x400000 s2 s3 := .ite (agree_mdSave rfl _ s2 (.refl _ s2)) (.refl _ s2)
    exact congrArg (fun v : Vault => rd v.rings r.val) ((ha.trans hb).vault rfl)
  rw [hmore, (pump_facts r s3).1, h3]
  refine forL_at (l := List.range 4) (A := fun t => t.ringsRun x = s.ringsRun x ∧ t.sled x = s.sled x ∧ t.ring r = s.ring r) List.nodup_range
    (List.mem_range.mpr x.isLt) (fun y hy t h => ?_) (fun t h => ?_) (fun y hy t h => ?_) (s := s0) ⟨rfl, rfl, rfl⟩
    (B := fun t => (t.ring r).isOpen = (s.ringsRun x && !(s.ring r).failed && bitOf (s.sled x).chOk k && !(s.sled x).lostAt))
  · rw [ring_mdRing_ne (hne y hy)]
    exact h
  · obtain ⟨hrun, hsled, hring⟩ := h
    rw [← hr, ring_mdRing]
    dsimp only
    rw [hrun, hsled, hring]
  · rw [ring_mdRing_ne (hne y hy)]
    exact h

/-! ### Catalog units -/

/-- A catalog unit that is posted stands among those in progress, with the body of its first copy (R197). -/
theorem postCat_cats (k : CatKind) (body : Nat → NBody) (s : State) : ∃ c ∈ (s.postCat k body).vault.cats, c.kind = k ∧ c.body = body (s.catSleds.headD 0) := by
  unfold postCat
  extract_lets xs id s1
  refine ⟨{ id, kind := k, left := xs.length, ok := [], body := body (xs.headD 0) }, ?_, rfl, rfl⟩
  rw [(pump_facts 0 _).2]
  refine forL_keeps (P := fun t => _ ∈ t.vault.cats) (fun x t h => ?_) _ (by simp [s1, mdVault])
  exact h

theorem postCat_save (k : CatKind) (body : Nat → NBody) (s : State) : (s.postCat k body).save = s.save := (agree_postCat rfl k body s (.refl 0x300001 s)).save rfl

end

end State
end Sys2Proof.Machine
end

section
/-! PROOFS. The power of a calibration sample (R161, R468): a product of converted words, rounded upward to 1 uW. -/
set_option Elab.async false

namespace Sys2Proof.Machine
namespace State

/-- A power of 2 applied: the numerator takes a positive exponent, the denominator a negative one. -/
theorem scale2_eq (n e : Int) : scale2 n e = (n * 2 ^ e.toNat, 2 ^ (-e).toNat) := by
  unfold scale2
  split
  · next h => rw [show (-e).toNat = 0 by omega, pow_zero]
  · next h => rw [show e.toNat = 0 by omega, pow_zero, mul_one]

/-- The quotient rounded upward. -/
theorem neg_divF_neg_bounds (n : Int) {d : Int} (hd : 0 < d) : (-(divF (-n) d) - 1) * d < n ∧ n ≤ -(divF (-n) d) * d := by
  rw [divF, Int.fdiv_eq_ediv_of_nonneg _ hd.le]
  have hdiv := Int.mul_ediv_add_emod (-n) d
  have hlt := Int.emod_lt_of_pos (-n) hd
  have hge := Int.emod_nonneg (-n) hd.ne'
  constructor <;> nlinarith

theorem neg_divF_neg_mul (n : Int) {d : Int} (hd : 0 < d) : -(divF (-(n * d)) d) = n := by
  rw [divF, Int.fdiv_eq_ediv_of_nonneg _ hd.le, ← neg_mul, Int.mul_ediv_cancel _ hd.ne', neg_neg]

/-- The power of one device whose READ_VOUT is in ULINEAR16: mantissas and exponents apart (R468). -/
theorem powerUw_ulinear (c : PmbCfg) (v i free : Nat) (hc : c.direct = false) :
    powerUw [(c, v, i)] free =
      -(divF (-(((v % 65536 : Nat) : Int) * toSigned 11 i * 1000000 * 2 ^ (c.exp.toNat + (toSigned 5 (i / 2048)).toNat)))
        (2 ^ ((-c.exp).toNat + (-toSigned 5 (i / 2048)).toNat))) := by
  have hv : voutQ c v = (((v % 65536 : Nat) : Int) * 2 ^ c.exp.toNat, 2 ^ (-c.exp).toNat) := by
    rw [voutQ, hc, if_neg Bool.false_ne_true, scale2_eq]
    rfl
  have hden : (2 : Int) ^ (-c.exp).toNat ≠ 0 := by positivity
  have hpos : ¬(2 : Int) ^ (-c.exp).toNat * 2 ^ (-toSigned 5 (i / 2048)).toNat < 0 := not_lt.mpr (by positivity)
  simp only [powerUw, List.foldl_cons, List.foldl_nil, hv, lin11Q, scale2_eq, hden, if_false, one_mul, zero_mul, zero_add, mul_one, hpos, zero_sub, pow_add]
  congr 3
  ring

/-- The product's power of 2 is the sum of the two exponents: with none below 1 it is exact, and otherwise it is the next uW upward. -/
theorem powerUw_upward (c : PmbCfg) (v i free : Nat) (hc : c.direct = false) :
    let e := c.exp + toSigned 5 (i / 2048)
    let m := ((v % 65536 : Nat) : Int) * toSigned 11 i * 1000000
    let w := powerUw [(c, v, i)] free
    if 0 ≤ e then w = m * 2 ^ e.toNat else (w - 1) * 2 ^ (-e).toNat < m ∧ m ≤ w * 2 ^ (-e).toNat := by
  intro e m w
  have hw : w = _ := powerUw_ulinear c v i free hc
  clear_value w
  generalize hi : toSigned 5 (i / 2048) = k at e hw
  split
  · next he =>
    have hexp : c.exp.toNat + k.toNat = e.toNat + ((-c.exp).toNat + (-k).toNat) := by omega
    rw [hw, hexp, pow_add _ e.toNat, ← mul_assoc]
    exact neg_divF_neg_mul _ (by positivity)
  · next he =>
    have hexp : (-c.exp).toNat + (-k).toNat = (-e).toNat + (c.exp.toNat + k.toNat) := by omega
    rw [hexp, pow_add _ (-e).toNat] at hw
    have hP : (0 : Int) < 2 ^ (c.exp.toNat + k.toNat) := by positivity
    obtain ⟨hlow, hhigh⟩ := neg_divF_neg_bounds (m * 2 ^ (c.exp.toNat + k.toNat)) (d := 2 ^ (-e).toNat * 2 ^ (c.exp.toNat + k.toNat)) (by positivity)
    rw [← hw, ← mul_assoc] at hlow hhigh
    exact ⟨lt_of_mul_lt_mul_right hlow hP.le, le_of_mul_le_mul_right hhigh hP⟩

end State
end Sys2Proof.Machine
end

section
/-! PROOFS. The events of a running save (R127 to R145, R160, R161, R177, R522). -/
set_option Elab.async false

namespace Sys2Proof.Machine
namespace State
variable {p : Fin 64} {s : State}

theorem class1Fill_on (hs : s.saving = true) (hw : s.save.w0.isSome = true) (hp : ∀ p : Fin 64, (s.sv p).img = true → (s.sv p).pst ≠ 1) (hr : s.class1Read = true)
    (hd : s.save.c1Done = false) : s.class1Fill = (s.fillStripe 0 1 false).pump := by
  have hany : s.imgPorts.any (fun p => (s.sv p).pst == 1) = false := imgPorts_any_false (f := fun v => v.pst == 1) (fun p hi => by simpa using hp p hi)
  exact if_pos (by simp [hs, hw, hany, hr, hd])

theorem moveLinkTimeout_ends (hs : s.saving = true) (hi : (s.sv p).img = true) (he : (s.sv p).ended = false)
    (hp : (s.sv p).pst = 2 ∨ (s.sv p).pst = 3 ∨ (s.sv p).pst = 1 ∧ s.save.resumed = true) (hl : s.linkUp p = false ∨ (s.lk p).id ≠ (s.sv p).adapter) :
    s.moveLinkTimeout p = s.endMove p := by
  have hm : s.moveOn p = true := by
    simp only [moveOn, hi, he, Bool.not_false, Bool.true_and, Bool.or_eq_true, Bool.and_eq_true, beq_iff_eq]
    tauto
  refine if_pos ?_
  rcases hl with hl | hl <;> simp [hs, hm, hl]

theorem portManifest_facts (hs : s.saving = true) (hm : s.moveOver p = true) (hq : s.stage.posted = []) (hn : s.stage.pend = []) (hx : s.save.idxBusy = false) :
    ((s.portManifest p).sv p).pst = 4
    ∧ ((s.portManifest p).sv p).incomplete = ((s.sv p).incomplete || decide ((s.sv p).moved < (s.sv p).set.length))
    ∧ ∃ c ∈ (s.portManifest p).vault.cats, c.kind = .manifest p ∧ c.body = .manifest (s.manifestOf p) := by
  unfold portManifest
  rw [if_pos (by simp [hs, hm, hq, hn, hx])]
  extract_lets m
  rw [sv_congr (postCat_save ..), sv_mdSv]
  exact ⟨rfl, rfl, postCat_cats ..⟩

theorem saveManifest_facts (hs : s.saving = true) (hw : s.save.w0.isSome = true) (hp : s.portsSealed = true) (hph : s.save.phase < 5) (hf : s.save.fillOn = false)
    (hq : s.stage.posted = []) : s.saveManifest.save.phase = 5 ∧ ∃ c ∈ s.saveManifest.vault.cats, c.kind = .saveMan ∧ c.body = .saveMan s.saveManOf := by
  unfold saveManifest
  rw [if_pos (by simp [hs, hw, hp, hph, hf, hq])]
  extract_lets m
  rw [postCat_save]
  exact ⟨rfl, postCat_cats ..⟩

/-- A sample that every listed device answered adds to the measurement; any other spoils it (R161). -/
theorem calSample_save (rs : List (Option (Nat × Nat))) (hs : s.saving = true) (hc : s.save.cal = true) (hp : s.save.promoted = false) (hw : s.save.w0.isSome = true)
    (hn : s.save.settle = false) (hr : s.pmbRuns = true) : (s.calSample rs).save =
      if rs.length < s.fixDevs.length ∨ none ∈ rs.take s.fixDevs.length then { s.save with calBad := true }
      else { s.save with
        samples := satAdd 0xFFFF s.save.samples 1
        pMeas := max s.save.pMeas
          (powerUw ((s.fixDevs.zip rs).map (fun e => (rd s.im.pmb e.1, e.2.getD (0, 0)))) (Config.freeWord s.clk.free).toNat).toNat } := by
  unfold calSample
  rw [if_pos (by simp [hs, hc, hp, hw, hn, hr])]
  extract_lets ds s1 sum
  have h1 : s1.save = s.save := (agree_tick rfl _ (agree_calIssue rfl s (.refl 0x1001 s))).save rfl
  clear_value s1
  by_cases hb : rs.length < s.fixDevs.length ∨ none ∈ rs.take s.fixDevs.length
  · rw [if_pos (by simpa [ds] using hb), if_pos hb, mdSave, h1]
  · rw [if_neg (by simpa [ds] using hb), if_neg hb, mdSave, h1]

/-- The command's conditions (R160). -/
def CalAccepted (s : State) : Prop :=
  s.standbyOk 0x20 = true ∧ s.pair.drv = true ∧ s.top.state = .ready ∧ s.stake.v.short = false ∧ 0 < s.healthyCount ∧ s.calFits = true

/-- Under its conditions the command is accepted and waits for its boundary; otherwise it ends refused (R160, R459). -/
theorem topCode_cmdCal (h : PortFree s) :
    (s.CalAccepted → (s.topCode cmdCal).cmd = { code := 0x20, state := 1 } ∧ (s.topCode cmdCal).save.calReq = true)
    ∧ (¬s.CalAccepted → (s.topCode cmdCal).cmd = { code := 0x20, state := 5 } ∧ (s.topCode cmdCal).save = s.save) := by
  have hok : (s.standbyOk 0x20 && s.holder && s.top.state == .ready && !s.stake.v.short && 0 < s.healthyCount && s.calFits) = true ↔ s.CalAccepted := by
    simp [CalAccepted, holder, and_assoc]
  rw [topCode, rpWrite_portFree h]
  constructor
  · intro ha
    have e : (s.rpData 0).cmdCal = ((s.rpData 0).mdCmd (fun _ => { code := 0x20, state := 1 })).mdSave (fun v => { v with calReq := true }) := if_pos (hok.mpr ha)
    rw [e]
    exact ⟨rfl, rfl⟩
  · intro ha
    have e : (s.rpData 0).cmdCal = (s.rpData 0).mdCmd (fun _ => { code := 0x20, state := 5 }) := if_neg (mt hok.mp ha)
    rw [e]
    exact ⟨rfl, rfl⟩

end State

/-- Settles O27, event by event: what each writes stands when its function ends, before the vault goes on. -/
theorem saveCommands : Obligations.SaveCommands := by
  refine ⟨fun s hc hs => ⟨_, exec_on hc, State.windowClose_facts hs⟩,
    fun k w s hc hs hw hn => ⟨_, exec_on hc, State.waveOpen_isOpen hs hw hn⟩,
    fun s hc hs hw hp hr hd => ⟨_, exec_on hc, State.class1Fill_on hs hw hp hr hd⟩,
    fun p s hc hs hi he hp hl => ⟨_, exec_on hc, ?_⟩,
    fun s hc hs hoff hp => ⟨_, exec_on hc, State.class1Cut_facts hs hoff hp⟩,
    fun s hc hs hoff => ⟨_, exec_on hc, State.class2Cut_facts hs hoff⟩,
    fun s hc hs hoff => ⟨_, exec_on hc, State.class2Cut_facts hs hoff⟩,
    fun s hc hs he => ⟨_, exec_on hc, ?_⟩,
    fun p s hc hs hm hq hn hx => ⟨_, exec_on hc, State.portManifest_facts hs hm hq hn hx⟩,
    fun s hc hs hw hp hph hf hq => ⟨_, exec_on hc, State.saveManifest_facts hs hw hp hph hf hq⟩,
    fun rs s hc hs hcal hp hw hn hr => ⟨_, exec_on hc, ?_⟩,
    State.powerUw_upward, fun s hc => ⟨_, exec_on hc, rfl⟩, fun s hf => ⟨_, rfl, ?_⟩⟩
  · obtain ⟨hended, hreads, hc1, hc2⟩ := State.endMove_sv p s
    rw [State.moveLinkTimeout_ends hs hi he hp hl]
    exact ⟨hended, hreads, hc1, hc2, fun q hq => State.endMove_sv_ne (Fin.val_ne_of_ne hq.symm) s⟩
  · obtain ⟨hpin, htop, b, hsave⟩ := State.backupNotGood_facts s
    have hs' : s.backupNotGood.saving = true := by rw [State.saving, htop, hsave]; exact hs
    obtain ⟨hemerg, hw0, hlive, hevt, hend⟩ := State.emergSeal_facts hs' (by rw [hsave]; exact he)
    have hpins : s.backupNotGood.emergSeal.pins = s.backupNotGood.pins := (State.agree_emergSeal rfl _ (.refl 5251328 _)).pins rfl
    have hports : ∀ p : Fin 64, s.backupNotGood.sv p = s.sv p := fun p => by rw [State.sv, hsave]
    refine ⟨hemerg, hw0, by rw [hpins]; exact hpin, hlive, hevt, fun p hi hp => hend p ?_ ?_⟩
    · rw [hports]; exact hi
    · rw [hports]; exact hp
  · refine ⟨(State.agree_calSample rfl rs s (.refl 4198401 s)).sameBut rfl, ?_⟩
    rw [State.calSample_save rs hs hcal hp hw hn hr]
    split
    · rfl
    · exact ⟨_, rfl⟩
  · obtain ⟨haccept, hrefuse⟩ := State.topCode_cmdCal hf
    split
    · next h => exact haccept h
    · next h => exact hrefuse h

end Sys2Proof.Machine
end

section
/-! PROOFS. A descriptor on an island whose PLL has lost lock (R499): started or not, it does not complete there, and DESCRIPTOR_COMPLETE leaves the state as it is. The
statement asks nothing of the island, but it leaves open which state the vault and the block resets then act on. So in the counterexample's state those two cannot be
what came last: a sealed save stands in PHASE 6 with its report no longer to be written (R148), where `vaultAfter` goes on to PHASE 7 and no block reset goes back. -/
set_option Elab.async false

namespace Sys2Proof.Machine
namespace State
variable {s t : State}

/-! ### A ring that stands still -/

theorem ringComplete_stopped {r : Nat} (h : s.ringsRun (r / 8) = false) (i res corr retries us : Nat) : s.ringComplete r i res corr retries us = (none, s) := by
  unfold ringComplete
  split
  · rfl
  · exact if_pos (by simp [h])

theorem sealResets_none (h : s.flt.resetPend = []) : s.sealResets = s := if_pos (by simp [h])

theorem descriptorComplete_stopped {r : Fin 32} {i res corr retries bad crc : BitVec 8} {us : BitVec 16} (hc : s.ctlOn = true) (hr : s.ringsRun (r / 8) = false)
    (hp : s.flt.resetPend = []) : exec (.descriptorComplete r i res corr retries us bad crc) s = .next s := by
  refine (exec_on (f := fun t => (t.descComplete r i.toNat res.toNat corr.toNat retries.toNat us.toNat bad.toNat crc.toNat).sealResets) hc).trans ?_
  rw [descComplete, ringComplete_stopped hr, sealResets_none hp]

/-! ### What a block reset leaves of a save -/

theorem trayMoves_entries (s : State) : PortEntries s s.trayMoves := by
  unfold trayMoves
  extract_lets ts s1 s2
  have h1 : PortEntries s s1 := (PortEntries.refl s).forL (fun z v hv => hv.forL (fun e w hw => by
    split
    · exact hw.mdSv _ _
    · exact hw) _) ts
  have h2 : PortEntries s s2 := h1.forL (fun q v hv => hv.forL (fun r w hw => hw.mdSv _ _) _) (List.range 64)
  exact h2.trans (.of_save (mdVault_save s2 _))

/-- Of the mover's stop the save's record shows what its ports have to read again alone. -/
theorem moverDown_entries (s : State) : PortEntries s s.moverDown := by
  unfold moverDown
  extract_lets s1 keep
  have h1 : Agree 0x100000 s s1 := forL_keeps (P := Agree 0x100000 s) (fun r v hv => .forL (fun d w hw => agree_descAgain rfl true r d w hw)
    (agree_mdRing rfl _ _ _ (agree_endRing rfl _ _ v hv))) _ (.refl _ s)
  have h2 := (PortEntries.of_save ((mdVault_save s1 _).trans (h1.save rfl))).trans (trayMoves_entries (s1.mdVault (fun v => { v with ready := v.ready.filter keep })))
  exact h2.trans (.of_save ((agree_trayReloc rfl _ (agree_trayLog rfl _ (.refl 0x300000 _))).save rfl))

/-- A block reset acts on the save's table of ports alone; on the ledger it acts as the record being written ends, and none is being written then. -/
theorem blockEffect_save_ledg (b : Nat) (s : State) : PortEntries s (s.blockEffect b) ∧ ((s.blockEffect b).ledg = s.ledg ∨ (s.blockEffect b).ledg.cur = none) := by
  unfold blockEffect
  split
  · have h := agree_portsReset rfl ((List.range 8).map (fun i => 8 * b + i)) s (.refl 0xa42000 s)
    exact ⟨.of_save (h.save rfl), .inl (h.ledg rfl)⟩
  split
  · have h := agree_restoresAgain rfl _ (.refl 0x840000 s.moverDown)
    exact ⟨(moverDown_entries s).trans (.of_save (h.save rfl)), .inl ((h.ledg rfl).trans ((agree_moverDown rfl s (.refl 0x700000 s)).ledg rfl))⟩
  split
  · have h := agree_restoresAgain rfl _ (agree_flashDown rfl (b - 9) s (.refl 0xb42100 s))
    exact ⟨.of_save (h.save rfl), .inl (h.ledg rfl)⟩
  split
  · have h := agree_fabReset rfl s (.refl 0x3002300 s)
    exact ⟨.of_save (h.save rfl), .inl (h.ledg rfl)⟩
  split
  · exact ⟨.refl s, .inl rfl⟩
  split
  · next w _ => exact ⟨.of_save ((agree_recDone rfl w s (.refl 0x4100 s)).save rfl), .inr rfl⟩
  · exact ⟨.refl s, .inl rfl⟩

theorem blockReset_save_ledg (b k : Nat) (s : State) : PortEntries s (s.blockReset b k) ∧ ((s.blockReset b k).ledg = s.ledg ∨ (s.blockReset b k).ledg.cur = none) := by
  unfold blockReset
  extract_lets x g
  split
  · exact ⟨.refl s, .inl rfl⟩
  · exact blockEffect_save_ledg b (s.mdFlt _)

/-- So do the resets that waited for the save-wide seal. -/
theorem sealResets_save_ledg (s : State) : PortEntries s s.sealResets ∧ (s.sealResets.ledg = s.ledg ∨ s.sealResets.ledg.cur = none) := by
  unfold sealResets
  split
  · exact ⟨.refl s, .inl rfl⟩
  · refine forL_keeps (P := fun t => PortEntries s t ∧ (t.ledg = s.ledg ∨ t.ledg.cur = none)) (fun r t h => ?_) _ ⟨.refl s, .inl rfl⟩
    obtain ⟨hsave, hledg⟩ := blockReset_save_ledg r.1 r.2 t
    refine ⟨h.1.trans hsave, ?_⟩
    rcases hledg with hl | hl
    · rw [hl]
      exact h.2
    · exact .inr hl

/-! ### PHASE 6 -/

theorem reportPending_congr (h : t.ledg = s.ledg) : t.reportPending = s.reportPending := by rw [reportPending, reportPending, h]

/-- What the vault leaves in PHASE 6 has its report still to be written (R148). -/
theorem vaultAfter_phase6 (h : s.vaultAfter.save.phase = 6) : s.vaultAfter.reportPending = true := by
  unfold vaultAfter at h ⊢
  dsimp only at h ⊢
  generalize State.eraseQStep _ = v at h ⊢
  have hpump := agree_pump rfl v.reportWritten (.refl 0x100001 _)
  rw [hpump.save rfl] at h
  rw [reportPending_congr (hpump.ledg rfl)]
  unfold reportWritten at h ⊢
  split at h
  · exact absurd h (by simp [mdSave])
  · next hn =>
    rw [if_neg hn]
    simpa [h] using hn

/-- A save in PHASE 6 whose report is not to be written, while the ledger writes another record, is none that the vault and the block resets leave. -/
theorem vaultAfter_sealResets_ne {w : RecWork} (hp : s.save.phase = 6) (hc : s.ledg.cur = some w) (hn : s.reportPending = false) (u : State) :
    u.vaultAfter.sealResets ≠ s := by
  intro e
  have hv := vaultAfter_phase6 (s := u)
  generalize u.vaultAfter = v at e hv
  obtain ⟨⟨ps, hsave⟩, hledg⟩ := sealResets_save_ledg v
  rw [e] at hsave hledg
  have hph : v.save.phase = 6 := (congrArg Save.phase hsave).symm.trans hp
  have hl : s.ledg = v.ledg := hledg.resolve_right (by simp [hc])
  exact absurd ((reportPending_congr hl).symm.trans hn) (by simp [hv hph])

end State

/-- A program of a filler unit that ring 31 has started. -/
def startedProgram : Desc := { opc := 1, unit := some { tag := {}, body := .one .filler }, why := .stripe }

/-- Save, taken over after its seal: PHASE 6, while the ledger writes a record that is no save report. The program on ring 31 is started, but the PLL of flash
island D has lost lock. -/
def sealedSaveWithoutLock : State :=
  { State.reset with
    top := { state := .save }, pair := { drv := true }
    pins := { rails := tall 6 true, pllLock := wr (tall 5 true) 3 false }
    vault := { sleds := wr (tall 4 {}) 3 { cls := 6, pwr := true, up := true }, rings := wr (tall 32 {}) 31 { slots := [(0, startedProgram)] } }
    save := { phase := 6, done := true, resumed := true }
    ledg := { cur := some { job := { kind := 1, stamp := {}, wall := 0, steps := 0, epoch := 0, state := 4, flags := 0, body := [] },
                            area := 1, slot := 0, founding := false, dev := 0, left := [], ops := [], okDevs := [] } } }

/-- Refutes O29, in its clause on a program that succeeds: the program is started, but its island stands still, so the descriptor is not taken as complete and the
state stays as it is. -/
theorem not_descriptorCompletes : ¬ Obligations.DescriptorCompletes := by
  unfold Obligations.DescriptorCompletes
  rintro ⟨programmed, -⟩
  have hc : sealedSaveWithoutLock.ctlOn = true := by decide +kernel
  obtain ⟨u, hu, -⟩ := programmed 31 0 0 0 0 0 0 startedProgram _ sealedSaveWithoutLock hc (by decide +kernel) (by decide +kernel) rfl rfl rfl
  have hstill := State.descriptorComplete_stopped (r := 31) (i := 0) (res := 1) (corr := 0) (retries := 0) (bad := 0) (crc := 0) (us := 0) hc (by decide +kernel) (by decide +kernel)
  exact State.vaultAfter_sealResets_ne (by decide +kernel) rfl (by decide +kernel) u (Host.Outcome.next.inj (hu.symm.trans hstill))

end Sys2Proof.Machine
end

section
/-! PROOFS. What relocations, system-area writes and formats leave of the job registers (R206): a state's `jobView` is TOP.CMD_STAT with what JOB_STAT and a job's
progress rest on, and of one sled its class and descriptor. All but the ends of jobs keep it. -/
set_option Elab.async false

namespace Sys2Proof

/-- What an update leaves of each entry it leaves of the table's entries. -/
theorem rd_md_keeps {α β : Type} {n : Nat} [Inhabited α] (φ : α → β) {f : α → α} (hf : ∀ a, φ (f a) = φ a) (v : Tab α n) (i j : Nat) :
    φ (rd (md v i f) j) = φ (rd v j) := by
  by_cases h : i = j
  · subst h
    by_cases hi : i < n
    · rw [rd_md_self v i f hi, hf]
    · rw [rd_out _ i (Nat.le_of_not_lt hi), rd_out _ i (Nat.le_of_not_lt hi)]
  · rw [rd_md_ne v i j f h]

namespace Machine

/-- TOP.CMD_STAT, the registers of the vault jobs, and a sled's class and descriptor. -/
structure JobView where
  cmd : LongCmd
  job : Nat
  jobState : Nat
  run : Nat
  rjob : Nat
  total : Nat
  keyStep : Nat
  keyNew : Option KeyBlock
  cls : Nat
  desc : Option SledDesc

namespace State

/-- The view of a state with the sled `x`. -/
def jobView (x : Nat) (s : State) : JobView where
  cmd := s.cmd
  job := s.vault.job
  jobState := s.vault.jobState
  run := s.vault.run
  rjob := s.vault.rjob
  total := s.vault.total
  keyStep := s.vault.keyStep
  keyNew := s.vault.keyNew
  cls := (s.sled x).cls
  desc := (s.sled x).dev.desc

section
variable {x : Nat} {s t : State}

/-- What changes neither TOP.CMD nor the vault keeps the view. -/
theorem jobView_of_agree (h : Agree 0x7EFF7FF s t) : t.jobView x = s.jobView x := by
  unfold jobView State.sled
  rw [h.cmd rfl, h.vault rfl]

theorem jobView_mdSled {f : Sled → Sled} (hf : ∀ d, ((f d).cls, (f d).dev.desc) = (d.cls, d.dev.desc)) (y : Nat) (s : State) : (s.mdSled y f).jobView x = s.jobView x := by
  have h := rd_md_keeps (fun d : Sled => (d.cls, d.dev.desc)) hf s.vault.sleds y x
  exact congrArg (fun p : Nat × Option SledDesc => { s.jobView x with cls := p.1, desc := p.2 }) h

theorem jobView_mdDev {f : SledDev → SledDev} (hf : ∀ d, (f d).desc = d.desc) (y : Nat) (s : State) : (s.mdDev y f).jobView x = s.jobView x :=
  jobView_mdSled (f := fun d => { d with dev := f d.dev }) (fun d => congrArg (Prod.mk d.cls) (hf d.dev)) y s

theorem jobView_mdSled_ne {y : Nat} (h : y ≠ x) (f : Sled → Sled) (s : State) : (s.mdSled y f).jobView x = s.jobView x := by
  have h : (s.mdSled y f).sled x = s.sled x := rd_md_ne _ _ _ _ h
  unfold jobView
  rw [h]
  rfl

theorem jobView_forL {α : Type} {f : α → State → State} {l : List α} (hf : ∀ a ∈ l, ∀ t, (f a t).jobView x = t.jobView x) (s : State) :
    (forL l f s).jobView x = s.jobView x :=
  forL_keeps_mem (P := fun t => t.jobView x = s.jobView x) (fun a ha t h => (hf a ha t).trans h) rfl

theorem jobView_forN {f : Nat → State → State} (hf : ∀ i t, (f i t).jobView x = t.jobView x) (n : Nat) (s : State) : (forN n f s).jobView x = s.jobView x :=
  jobView_forL (fun i _ => hf i) s

theorem jobView_iter {f : State → State} (hf : ∀ t, (f t).jobView x = t.jobView x) (n : Nat) (s : State) : (iter n f s).jobView x = s.jobView x :=
  jobView_forL (f := fun _ : Nat => f) (fun _ _ => hf) s

/-! ### Rings and stripes -/

theorem jobView_mdStripe (area num : Nat) (f : Stripe → Stripe) (s : State) : (s.mdStripe area num f).jobView x = s.jobView x := rfl

theorem jobView_queueUnit (j : UnitJob) (s : State) : (s.queueUnit j).jobView x = s.jobView x := rfl

theorem jobView_postDesc (r : Nat) (d : Desc) (s : State) : (s.postDesc r d).jobView x = s.jobView x := rfl

theorem jobView_setCursor (r area l : Nat) (s : State) : (s.setCursor r area l).jobView x = s.jobView x := rfl

theorem jobView_pump (s : State) : s.pump.jobView x = s.jobView x := by
  unfold pump
  split
  · rfl
  · refine jobView_forL (fun j _ t => ?_) s
    split
    · rfl
    split
    · rfl
    · next r loc _ =>
      extract_lets rel t1 t2
      have h1 : t1.jobView x = t.jobView x := jobView_postDesc r (t.progDesc r loc j) t
      split
      · exact h1
      · rw [jobView_setCursor]
        exact (jobView_mdDev (f := fun d => { d with cells := md d.cells (r % 8) (fun l => l ++ [(loc, none)]) }) (fun _ => rfl) (r / 8) t1).trans h1

theorem jobView_takeSeq (area : Nat) (s : State) : (s.takeSeq area).2.jobView x = s.jobView x := by
  unfold takeSeq
  split <;> rfl

theorem jobView_openStripe (area : Nat) (reloc : Bool) (s : State) : (s.openStripe area reloc).2.jobView x = s.jobView x := by
  unfold openStripe
  split <;> rfl

theorem jobView_placeUnit (area num g pos cls : Nat) (t0 : UTag) (b : UBody) (s : State) : (s.placeUnit area num g pos cls t0 b).jobView x = s.jobView x := by
  have h := jobView_takeSeq (x := x) area s
  unfold placeUnit
  generalize s.takeSeq area = p at h ⊢
  obtain ⟨q, s1⟩ := p
  dsimp -zeta only
  extract_lets y t2 s2
  have h2 : s2.jobView x = s.jobView x := (jobView_mdStripe ..).trans h
  clear_value s2
  split
  · exact ((jobView_queueUnit ..).trans (jobView_mdStripe ..)).trans h2
  · exact h2

theorem jobView_addUnit (area cls : Nat) (reloc : Bool) (tag : UTag) (b : NBody) (s : State) : (s.addUnit area cls reloc tag b).jobView x = s.jobView x := by
  have h := jobView_openStripe (x := x) area reloc s
  unfold addUnit
  generalize s.openStripe area reloc = p at h ⊢
  obtain ⟨z, s1⟩ := p
  dsimp -zeta only
  extract_lets g serial tag1 s2 data s3
  have h3 : s3.jobView x = s.jobView x := (jobView_mdStripe ..).trans ((jobView_placeUnit ..).trans h)
  clear_value s3
  split
  · exact h3
  split
  · exact (jobView_placeUnit ..).trans h3
  · exact (jobView_placeUnit ..).trans h3
  · exact h3

theorem jobView_fillStripe (area cls : Nat) (reloc : Bool) (s : State) : (s.fillStripe area cls reloc).jobView x = s.jobView x := by
  unfold fillStripe
  split
  · rfl
  · exact jobView_iter (fun t => jobView_addUnit ..) _ s

theorem jobView_postCat (k : CatKind) (body : Nat → NBody) (s : State) : (s.postCat k body).jobView x = s.jobView x := by
  unfold postCat
  extract_lets xs id s1
  exact (jobView_pump _).trans (jobView_forL (fun y _ t => (jobView_queueUnit _ _).trans (jobView_takeSeq 2 t)) s1)

theorem jobView_sysWrite (y what : Nat) (b : NBody) (s : State) : (s.sysWrite y what b).jobView x = s.jobView x := by
  unfold sysWrite
  extract_lets n chs jobs
  refine jobView_forL (fun j _ t => ?_) _
  split
  · rfl
  · exact jobView_takeSeq 2 t

theorem jobView_writeConfirm (reloc : Bool) (sel : ConfEnt → Bool) (s : State) : (s.writeConfirm reloc sel).jobView x = s.jobView x := by
  unfold writeConfirm
  extract_lets es lseq b
  split
  · rfl
  · exact jobView_addUnit ..

/-! ### Relocation (R209, R213) -/

theorem jobView_relocPlan (pred : Nat → Bool) (s : State) : (s.relocPlan pred).jobView x = s.jobView x := rfl

theorem jobView_relocStripeFor (area serial : Nat) (s : State) : (s.relocStripeFor area serial).jobView x = s.jobView x := by
  unfold relocStripeFor
  split
  · split
    · exact jobView_fillStripe ..
    · rfl
  · rfl

theorem jobView_alignTo (y n : Nat) (s : State) : (alignTo y n s).jobView x = s.jobView x := by
  induction n generalizing s with
  | zero => rfl
  | succ n ih =>
    have h := jobView_openStripe (x := x) 1 true s
    unfold alignTo
    generalize s.openStripe 1 true = p at h ⊢
    dsimp only
    split
    · exact h
    · exact (ih _).trans ((jobView_addUnit ..).trans h)

theorem jobView_relocWrite (u : LiveUnit) (b : NBody) (s : State) : (s.relocWrite u b).jobView x = s.jobView x := by
  unfold relocWrite
  extract_lets m log area _ tag s0 s1 q
  have h0 : s0.jobView x = s.jobView x := jobView_relocStripeFor ..
  have h1 : s1.jobView x = s0.jobView x := by
    unfold s1
    split
    · exact jobView_alignTo ..
    · rfl
  have h2 : (s1.addUnit area 3 true tag b).jobView x = s.jobView x := (jobView_addUnit ..).trans (h1.trans h0)
  generalize s1.addUnit area 3 true tag b = z at h2 ⊢
  exact (jobView_pump _).trans h2

theorem jobView_relocTake (u : LiveUnit) (ok : Bool) (s : State) : (s.relocTake u ok).jobView x = s.jobView x := by
  unfold relocTake
  split
  · exact jobView_relocWrite ..
  · rfl

theorem jobView_relocMade (z : Stripe) (e : Nat × UTag) (s : State) : (s.relocMade z e).jobView x = s.jobView x := by
  unfold relocMade
  split
  · rfl
  · extract_lets l s1 c s2 n
    split <;> rfl

theorem jobView_relocStripe (s : State) : s.relocStripe.jobView x = s.jobView x := by
  unfold relocStripe
  split
  · rfl
  · next z _ =>
    extract_lets s0 u sd s1
    have hd : sd.jobView x = s.jobView x := by
      refine jobView_of_agree (s := s0) ?_
      unfold sd
      split
      · have hu : Agree 0x7EFF7FF s0 u := agree_confUnitsDone rfl z s0 (.refl _ s0)
        split
        · exact hu
        · exact agree_raiseHwm rfl z u hu
      · exact .refl _ s0
    have h1 : s1.jobView x = s.jobView x := (jobView_forL (fun e _ t => jobView_relocMade z e t) sd).trans hd
    split
    · exact h1
    split
    · exact h1
    · exact h1

theorem jobView_relocImage (s : State) : s.relocImage.jobView x = s.jobView x := by
  unfold relocImage
  extract_lets r
  split
  · split
    · rfl
    · rfl
  · split
    · rfl
    split
    · exact (jobView_pump _).trans ((jobView_fillStripe ..).trans ((jobView_addUnit ..).trans (jobView_relocStripeFor ..)))
    · exact jobView_postCat ..

theorem jobView_postRead (w : Nat) (u : LiveUnit) (s : State) : (s.postRead w u).2.jobView x = s.jobView x := by
  unfold postRead
  split <;> rfl

end

end State
end Machine
end Sys2Proof
end

section
/-! PROOFS. The ends of vault jobs, and the jobs that read units (R207, R213, R215) as they run on or end at once. -/
set_option Elab.async false

namespace Sys2Proof.Machine
namespace State

/-- The job that a command has started in `s` runs on in `t` or has ended well there: the registers name it still, and neither TOP.CMD_STAT nor JOB_STAT shows
a refusal that `s` did not show. It says nothing of sleds, so it follows from the view with any of them. -/
structure JobOn (s t : State) : Prop where
  job : t.vault.job = s.vault.job
  total : t.vault.total = s.vault.total
  code : t.cmd.code = s.cmd.code
  state : t.cmd.state = s.cmd.state ∨ t.cmd.state = 2
  jobState : t.vault.jobState = s.vault.jobState ∨ t.vault.jobState = 3

section
variable {s t u : State}

theorem JobOn.of_jobView (h : t.jobView 0 = s.jobView 0) : JobOn s t where
  job := congrArg JobView.job h
  total := congrArg JobView.total h
  code := congrArg (fun v => v.cmd.code) h
  state := .inl (congrArg (fun v => v.cmd.state) h)
  jobState := .inl (congrArg JobView.jobState h)

theorem JobOn.trans (h : JobOn s t) (k : JobOn t u) : JobOn s u where
  job := k.job.trans h.job
  total := k.total.trans h.total
  code := k.code.trans h.code
  state := k.state.elim (fun e => h.state.imp e.trans e.trans) .inr
  jobState := k.jobState.elim (fun e => h.jobState.imp e.trans e.trans) .inr

theorem cmdEnd_on (s : State) : JobOn s (s.cmdEnd 2) := by
  unfold cmdEnd
  split
  · exact ⟨rfl, rfl, rfl, .inr rfl, .inl rfl⟩
  · exact .of_jobView rfl

/-- The job that runs ends well. -/
theorem jobEnd_on (h : s.vault.run = s.vault.job) (res : Nat) : JobOn s (s.jobEnd 3 res) := by
  unfold jobEnd
  refine JobOn.trans ?_ (cmdEnd_on _)
  exact ⟨h, rfl, rfl, .inl rfl, .inr rfl⟩

theorem rjobEnd_on (h : s.vault.rjob = s.vault.job) (res : Nat) : JobOn s (s.rjobEnd 3 res) := by
  unfold rjobEnd
  extract_lets bg s1
  have h1 : JobOn s s1 := ⟨h, rfl, rfl, .inl rfl, .inr rfl⟩
  split
  · exact h1
  · exact h1.trans (cmdEnd_on s1)

/-! ### Rebuild -/

/-- A relocation that has written everything goes on looking for units to move, or the rebuild it serves ends (R213). -/
theorem relocEnd_on (hr : s.vault.rjob = 3) (hj : s.vault.job = 3) : JobOn s s.relocEnd := by
  unfold relocEnd
  extract_lets res w
  split
  · exact .of_jobView ((jobView_pump _).trans ((jobView_fillStripe ..).trans (jobView_iter (jobView_writeConfirm true _) _ s)))
  split
  · exact .of_jobView rfl
  split
  · exact .of_jobView rfl
  split
  · exact .of_jobView rfl
  split
  · exact .of_jobView rfl
  split
  · exact .of_jobView rfl
  refine JobOn.trans ?_ (rjobEnd_on ?_ res)
  · exact .of_jobView rfl
  · exact hr.trans hj.symm

theorem relocStep_on (hr : s.vault.rjob = 3) (hj : s.vault.job = 3) : JobOn s s.relocStep := by
  unfold relocStep
  split
  · exact .of_jobView rfl
  · extract_lets s1 s2
    have h1 : s1.jobView 0 = s.jobView 0 := by
      unfold s1
      split
      · split
        · rfl
        · exact jobView_relocTake ..
      · rfl
    have h2 : s2.jobView 0 = s.jobView 0 := (jobView_relocStripe s1).trans h1
    clear_value s2
    split
    · exact .of_jobView h2
    split
    · next u us _ =>
      split
      · exact .of_jobView h2
      · have h3 := (jobView_postRead 2 u (s2.mdReloc (fun r => { r with units := us, reading := some u }))).trans h2
        generalize (s2.mdReloc (fun r => { r with units := us, reading := some u })).postRead 2 u = p at h3 ⊢
        obtain ⟨ok, s3⟩ := p
        dsimp only
        split
        · exact .of_jobView h3
        · exact .of_jobView ((jobView_relocTake ..).trans h3)
    · split
      · exact .of_jobView ((jobView_relocStripe _).trans ((jobView_pump _).trans ((jobView_fillStripe ..).trans ((jobView_fillStripe ..).trans h2))))
      split
      · exact .of_jobView h2
      split
      · have hr2 : s2.vault.rjob = 3 := (congrArg JobView.rjob h2).trans hr
        have hj2 : s2.vault.job = 3 := (congrArg JobView.job h2).trans hj
        exact (JobOn.of_jobView h2).trans (relocEnd_on hr2 hj2)
      · exact .of_jobView ((jobView_relocImage s2).trans h2)

/-! ### Verify, and the squares read out to the host -/

theorem jobView_verifyUnit (u : LiveUnit) (bad crc corr : Nat) (s : State) : (s.verifyUnit u bad crc corr).jobView 0 = s.jobView 0 := by
  unfold verifyUnit
  extract_lets s1 s2
  have h1 : s1.jobView 0 = s.jobView 0 := rfl
  have h2 : s2.jobView 0 = s.jobView 0 := rfl
  clear_value s1 s2
  split
  · exact h1
  split
  · exact h2
  · exact h2

theorem jobView_exportSquare (u : LiveUnit) (ok : Bool) (s : State) : (s.exportSquare u ok).jobView 0 = s.jobView 0 := rfl

/-- What keeps the view keeps which job runs. -/
theorem run_eq_job_of_jobView (h : t.jobView 0 = s.jobView 0) (hr : s.vault.run = s.vault.job) : t.vault.run = t.vault.job := by
  have hrun : t.vault.run = s.vault.run := congrArg JobView.run h
  have hjob : t.vault.job = s.vault.job := congrArg JobView.job h
  rw [hrun, hjob, hr]

theorem verifyStep_on (n : Nat) (hr : s.vault.run = s.vault.job) : JobOn s (verifyStep n s) := by
  induction n generalizing s with
  | zero => exact .of_jobView rfl
  | succ n ih =>
    have goOn {t : State} (h : t.jobView 0 = s.jobView 0) : JobOn s (verifyStep n t) := (JobOn.of_jobView h).trans (ih (run_eq_job_of_jobView h hr))
    unfold verifyStep
    split
    · exact .of_jobView rfl
    split
    · next u _ =>
      split
      · exact .of_jobView rfl
      · exact goOn (jobView_verifyUnit ..)
    split
    · exact jobEnd_on hr _
    · next u us _ =>
      split
      · exact .of_jobView rfl
      · have h := jobView_postRead (x := 0) 1 u (s.mdVault (fun v => { v with work := us, reading := some u }))
        generalize (s.mdVault (fun v => { v with work := us, reading := some u })).postRead 1 u = p at h ⊢
        obtain ⟨ok, s1⟩ := p
        dsimp only
        split
        · exact .of_jobView h
        · exact goOn ((jobView_verifyUnit ..).trans h)

theorem exportStep_on (n : Nat) (hr : s.vault.run = s.vault.job) : JobOn s (exportStep n s) := by
  induction n generalizing s with
  | zero => exact .of_jobView rfl
  | succ n ih =>
    have goOn {t : State} (h : t.jobView 0 = s.jobView 0) : JobOn s (exportStep n t) := (JobOn.of_jobView h).trans (ih (run_eq_job_of_jobView h hr))
    unfold exportStep
    split
    · exact .of_jobView rfl
    split
    · next u _ =>
      split
      · exact .of_jobView rfl
      · exact goOn (jobView_exportSquare ..)
    split
    · exact jobEnd_on hr _
    · next u us _ =>
      split
      · exact .of_jobView rfl
      · have h := jobView_postRead (x := 0) 3 u (s.mdVault (fun v => { v with work := us, reading := some u }))
        generalize (s.mdVault (fun v => { v with work := us, reading := some u })).postRead 3 u = p at h ⊢
        obtain ⟨ok, s1⟩ := p
        dsimp only
        split
        · exact .of_jobView h
        · exact goOn ((jobView_exportSquare ..).trans h)

end

end State
end Sys2Proof.Machine
end

section
/-! PROOFS. A format's part on its own sled, and a key erase's start (R186, R214, R216). -/
set_option Elab.async false

namespace Sys2Proof.Machine
namespace State

section
variable {x : Nat} {s t : State}

/-! ### Formats -/

theorem jobView_unitLost (u : Option FUnit) (w : Why) (s : State) : (s.unitLost u w).jobView x = s.jobView x := by
  unfold unitLost
  split
  · split <;> rfl
  · rfl
  · unfold sysEnded
    split <;> rfl
  · rfl

theorem jobView_sledQuiet (y : Nat) (s : State) : (s.sledQuiet y false).jobView x = s.jobView x := by
  unfold sledQuiet
  extract_lets s1 out
  have h1 : s1.jobView x = s.jobView x := jobView_forN (fun c t => by
    refine (jobView_forL (fun d _ u => ?_) _).trans ?_
    · exact jobView_unitLost ..
    · rfl) 8 s
  clear_value s1
  refine (jobView_forL (fun j _ t => jobView_unitLost ..) _).trans ?_
  exact h1

/-- A member's descriptor is rewritten on its own sled alone. -/
theorem jobView_rewriteDesc {y : Nat} (h : y ≠ x) (s : State) : (s.rewriteDesc y).jobView x = s.jobView x := by
  unfold rewriteDesc
  extract_lets hs
  split
  · rfl
  · extract_lets d
    exact (jobView_sysWrite ..).trans (jobView_mdSled_ne h _ s)

/-- A new epoch is written on the members alone (R186). -/
theorem jobView_advanceEpoch (h : (s.sled x).cls ≠ 6) : s.advanceEpoch.jobView x = s.jobView x := by
  unfold advanceEpoch
  extract_lets s1
  have hx : x ∉ s1.members := fun hm => by
    obtain ⟨-, hmem⟩ := mem_idxs.mp hm
    simp only [Bool.and_eq_true, beq_iff_eq] at hmem
    exact h hmem.1
  exact (jobView_pump _).trans (jobView_forL (fun y hy t => jobView_rewriteDesc (ne_of_mem_of_not_mem hy hx) t) s1)

theorem jobView_degrade (s : State) : s.degrade.jobView x = s.jobView x := rfl

theorem jobView_fmtNext (r : Nat) (s : State) : (s.fmtNext r).jobView x = s.jobView x := by
  unfold fmtNext
  split
  · rfl
  · extract_lets k
    split
    · rfl
    split
    · rfl
    · rfl

theorem jobView_openRings (y : Nat) (s : State) : (s.openRings y).jobView x = s.jobView x := by
  unfold openRings
  refine jobView_forN (fun c t => ?_) 8 s
  rfl

/-! ### System-area writes of a key block -/

theorem jobView_keysOut (k : KeyBlock) (s : State) : (s.keysOut k).jobView x = s.jobView x :=
  (jobView_pump _).trans (jobView_forL (fun y _ t => jobView_sysWrite y 1 _ t) s.sysGroup)

theorem sysWrite_stage (y what : Nat) (b : NBody) (s : State) : (s.sysWrite y what b).stage = s.stage := by
  unfold sysWrite
  extract_lets n chs jobs
  refine forL_keeps (P := fun t => t.stage = s.stage) (fun j t h => ?_) jobs rfl
  split <;> exact h

theorem keysOut_stage (k : KeyBlock) (s : State) : (s.keysOut k).stage = s.stage :=
  ((agree_pump rfl _ (.refl 0x100001 _)).stage rfl).trans
    (forL_keeps (P := fun t => t.stage = s.stage) (fun y t h => (sysWrite_stage y 1 _ t).trans h) s.sysGroup.members (s := s.sysGroup) rfl)

/-- Copies that are closed leave pre-staging suspended. -/
theorem closeCopies_susp (l : List Nat) (s : State) :
    (forL l (fun p u => (u.cancelCopies p).sendRevert p (u.clk.turn % 2 ^ 32) true) s).stage.susp = s.stage.susp := by
  refine forL_keeps (P := fun t => t.stage.susp = s.stage.susp) (fun p t h => ?_) l rfl
  have hsend (q : Nat) (m : HclOut) (u : State) : (u.send q m).stage = u.stage := (agree_send rfl q m u (.refl 0x40000 u)).stage rfl
  have hcancel : (t.cancelCopies p).stage.susp = t.stage.susp :=
    forL_keeps (P := fun u => u.stage.susp = t.stage.susp) (fun c u hu => (congrArg Stage.susp (hsend p _ u)).trans hu) _ rfl
  exact (congrArg Stage.susp (hsend p _ _)).trans (hcancel.trans h)

theorem jobView_kxBegin (s : State) : s.kxBegin.jobView x = s.jobView x := jobView_of_agree (agree_kxBegin rfl s (.refl _ s))

theorem kxBegin_stage (s : State) : s.kxBegin.stage = s.stage := (agree_kxBegin rfl s (.refl 0x2000001 s)).stage rfl

/-- A key exchange that begins is under way (R349). -/
theorem kxBegin_kxSt (s : State) : s.kxBegin.pair.kxSt = 1 := by
  unfold kxBegin
  extract_lets s1 o
  unfold psend
  split <;> rfl

end

end State
end Sys2Proof.Machine
end

section
/-! PROOFS. What a verify and a format find on the flash (R207, R214): the functions that read the units of images and of the log read the sleds, the units
that a relocation has released, the number of the next free value and the job's arguments, and nothing else. The areas that a format lays out (R182) rest on
the sled and the image's recipes. -/
set_option Elab.async false

namespace Sys2Proof.Machine

/-- The flash, as a reader of units finds it, the image in force and the job's arguments are the same. -/
structure SameFlash (s t : State) : Prop where
  sleds : t.vault.sleds = s.vault.sleds
  dead : t.vault.dead = s.vault.dead
  free : t.clk.free = s.clk.free
  args : t.vault.jobArg = s.vault.jobArg
  im : t.im = s.im

namespace SameFlash
variable {s t : State} (h : SameFlash s t)
include h

theorem unitAt : t.unitAt = s.unitAt := by
  funext r loc
  simp only [State.unitAt, State.cells, State.sled, h.sleds]

theorem allUnits : t.allUnits = s.allUnits := by
  simp only [State.allUnits, State.cells, State.sled, h.sleds]

theorem canRebuild : t.canRebuild = s.canRebuild := by
  have hm : t.stripeMates = s.stripeMates := by
    funext z
    simp only [State.stripeMates, h.allUnits, h.free]
  funext z
  unfold State.canRebuild
  rw [hm]

theorem parityUnits : t.parityUnits = s.parityUnits := by
  simp only [State.parityUnits, h.allUnits]

theorem images : t.images = s.images := by
  have hm : t.sealManifest = s.sealManifest := by
    funext z
    simp only [State.sealManifest, h.unitAt]
  simp only [State.images, State.marks, h.allUnits, hm]

/-! ### Index chains and log copies -/

theorem indexAt : t.indexAt = s.indexAt := by
  funext se nf r loc
  simp only [State.indexAt, h.unitAt, h.parityUnits, h.canRebuild]

theorem chain (se n : Nat) (nf : Option Nat) (r loc : Nat) : t.chain se n nf r loc = s.chain se n nf r loc := by
  induction n generalizing nf r loc with
  | zero => rfl
  | succ n ih => simp only [State.chain, h.indexAt, ih]

theorem imageChain : t.imageChain = s.imageChain := by
  funext m
  exact h.chain ..

theorem imageEnts : t.imageEnts = s.imageEnts := by
  funext m
  simp only [State.imageEnts, h.imageChain]

theorem confEnts : t.confEnts = s.confEnts := by
  simp only [State.confEnts, State.confUnits, h.allUnits, h.parityUnits, h.canRebuild]

theorem logUnit : t.logUnit = s.logUnit := by
  funext lseq
  simp only [State.logUnit, h.allUnits, h.parityUnits, h.canRebuild]

theorem squareCopy : t.squareCopy = s.squareCopy := by
  have hc : t.logCopy = s.logCopy := by
    funext p sq hwm
    simp only [State.logCopy, h.confEnts, h.logUnit]
  funext m sq
  simp only [State.squareCopy, hc, h.imageEnts, h.unitAt, h.parityUnits]

/-! ### The units of images and of the log -/

theorem imageUnits : t.imageUnits = s.imageUnits := by
  funext m
  simp only [State.imageUnits, h.squareCopy]

theorem goneUnits : t.goneUnits = s.goneUnits := by
  funext m
  simp only [State.goneUnits, h.imageEnts, h.squareCopy]

theorem imageHas : t.imageHas = s.imageHas := by
  funext m z b
  simp only [State.imageHas, h.imageChain, h.dead]

theorem lostUnits : t.lostUnits = s.lostUnits := by
  funext us
  simp only [State.lostUnits, h.allUnits, State.sled, h.sleds]

theorem imageAll : t.imageAll = s.imageAll := by
  funext m
  simp only [State.imageAll, h.allUnits, h.imageHas, h.imageUnits, h.lostUnits, h.goneUnits]

/-- So the scope of a verify rests on them alone. -/
theorem verifyScope : t.verifyScope = s.verifyScope := by
  have ha : t.jobArg = s.jobArg := by
    funext i
    simp only [State.jobArg, h.args]
  simp only [State.verifyScope, State.argScope, State.argPort, ha, h.images, h.imageAll, h.allUnits, h.lostUnits]

/-! ### The areas of a sled -/

theorem dieRecipe : t.dieRecipe = s.dieRecipe := by
  have hm : t.matchRecipe = s.matchRecipe := by
    funext id
    simp only [State.matchRecipe, h.im]
  funext r die
  simp only [State.dieRecipe, State.dieIds, State.sled, h.sleds, hm, h.im]

theorem ringRecipes : t.ringRecipes = s.ringRecipes := by
  funext r
  simp only [State.ringRecipes, State.dieIds, State.sled, h.sleds, h.dieRecipe]

theorem blockSlots : t.blockSlots = s.blockSlots := by
  funext r
  simp only [State.blockSlots, h.ringRecipes]

theorem rowUnits : t.rowUnits = s.rowUnits := by
  funext x
  simp only [State.rowUnits, State.sled, h.sleds, h.blockSlots]

theorem sledBlocks : t.sledBlocks = s.sledBlocks := by
  funext x
  simp only [State.sledBlocks, State.sled, h.sleds, h.ringRecipes]

theorem badUnits : t.badUnits = s.badUnits := by
  funext x b0 b1
  simp only [State.badUnits, State.sled, h.sleds, h.dieRecipe]

theorem sysEnd : t.sysEnd = s.sysEnd := by
  funext x
  simp only [State.sysEnd, State.badBlk, State.sled, h.sleds, h.sledBlocks]

theorem blocksUp : t.blocksUp = s.blocksUp := by
  funext x b0 need k n
  induction k generalizing n with
  | zero => rfl
  | succ k ih => simp only [State.blocksUp, h.badUnits, h.rowUnits, ih]

theorem blocksDown : t.blocksDown = s.blocksDown := by
  funext x b1 need k n
  induction k generalizing n with
  | zero => rfl
  | succ k ih => simp only [State.blocksDown, h.badUnits, h.rowUnits, ih]

theorem layAreas : t.layAreas = s.layAreas := by
  have hf : t.footprint = s.footprint := by rw [State.footprint, h.im, State.footprint]
  have hx : t.sled = s.sled := by
    funext x
    rw [State.sled, h.sleds]
  funext x
  unfold State.layAreas
  rw [h.rowUnits, hx, h.blockSlots, h.sledBlocks, h.sysEnd, h.blocksUp, h.blocksDown, h.badUnits, hf]

end SameFlash
end Sys2Proof.Machine
end

section
/-! PROOFS. The vault jobs of TOP.CMD (R206, R207, R210, R213 to R216, R458 to R460): what each is at its start, and the statement. -/
set_option Elab.async false

namespace Sys2Proof.Machine
namespace State

/-- A code of TOP.CMD is taken at a free port: the state its command acts in. -/
def commanded (c : Nat) (s : State) : State := (s.rpData 0).mdCmd (fun _ => { code := c, state := 1 })

/-- Job `j` has been accepted: the job registers as its work begins. -/
def jobBegun (j : Nat) (s : State) : State :=
  s.mdVault (fun v => { v with job := j, run := if j = 2 || j = 3 then 0 else j, jobState := 1, jobResult := 0, prog := 0, total := 0 })

/-- The flash stands as it was. -/
theorem sameFlash_begun {c j : Nat} {s : State} : SameFlash s ((s.commanded c).jobBegun j) where
  sleds := rfl
  dead := rfl
  free := rfl
  args := rfl
  im := rfl

section
variable {s t : State} {c j : Nat} {ok : Bool} {f : State → State} {start : State → Bool × State}

theorem jobStart_accepted (hok : ok = true) (hr : s.vault.rjob = 0 ∨ j = 1 ∨ j = 4) : s.jobStart j ok f = (true, f (s.jobBegun j)) := by
  refine if_pos ?_
  rcases hr with h | rfl | rfl <;> simp [*]

theorem jobStart_refused (hok : ok = false) : s.jobStart j ok f = (false, s.mdVault (fun v => { v with job := j, jobState := 6, jobResult := 0 })) :=
  if_neg (by simp [hok])

theorem topCode_cmdJob_accepted (hf : PortFree s) (hs : s.standbyOk c = true) (ht : start (s.commanded c) = (true, t)) : s.topCode (cmdJob c start) = t := by
  have hb : (s.rpData 0).busy = false := hf.2
  have hs' : (s.rpData 0).standbyOk c = true := hs
  rw [topCode, rpWrite_portFree hf, cmdJob, hb, hs']
  exact congrArg (fun p : Bool × State => if p.1 = true then p.2 else p.2.mdCmd (fun _ => { code := c, state := 5 })) ht

/-- A command whose job is accepted leaves what the job's start makes. -/
theorem does_accepted {i : Instr} {P : State → Prop} (he : exec i s = .next (s.topCode (cmdJob c start))) (hf : PortFree s) (hs : s.standbyOk c = true)
    (ht : start (s.commanded c) = (true, t)) (hP : P t) : Does i s P :=
  ⟨t, he.trans (congrArg Host.Outcome.next (topCode_cmdJob_accepted hf hs ht)), hP⟩

/-- A refused job leaves STATE 5, and to a controller that is no standby JOB_STAT shows the rejection (R206, R460). -/
theorem topCode_cmdJob_refused (hf : PortFree s)
    (ht : start (s.commanded c) = (false, (s.commanded c).mdVault (fun v => { v with job := j, jobState := 6, jobResult := 0 }))) :
    (s.topCode (cmdJob c start)).cmd = { code := c, state := 5 } ∧ (s.standbyOk c = true → (s.topCode (cmdJob c start)).vault.jobState = 6)
      ∧ SameBut [.cmd, .rp, .vault] s (s.topCode (cmdJob c start)) := by
  have hb : (s.rpData 0).busy = false := hf.2
  have h0 : Agree 0x101800 s (s.rpData 0) := agree_rpData rfl 0 s (.refl _ s)
  rw [topCode, rpWrite_portFree hf, cmdJob, hb]
  by_cases hs : s.standbyOk c = true
  · have hs' : (s.rpData 0).standbyOk c = true := hs
    rw [hs']
    have e := congrArg (fun p : Bool × State => if p.1 = true then p.2 else p.2.mdCmd (fun _ => { code := c, state := 5 })) ht
    refine e.symm ▸ ⟨rfl, fun _ => rfl, (agree_mdCmd rfl _ _ (agree_mdVault rfl _ _ (agree_mdCmd rfl _ _ h0))).sameBut rfl⟩
  · have hs' : (s.rpData 0).standbyOk c = false := Bool.eq_false_of_not_eq_true hs
    rw [hs']
    exact ⟨rfl, fun h => absurd h hs, (agree_mdCmd rfl _ _ h0).sameBut rfl⟩

/-- A write of TOP.CMD while a command runs ends in error (R458). -/
theorem topCode_busy (hc : s.ctlOn = true) (hb : s.busy = true) (f : State → State) :
    (s.topCode f).cmd = s.cmd ∧ (s.topCode f).rp.err = true ∧ SameBut [.evt, .rp] s (s.topCode f) := by
  have e : s.topCode f = s.rpErr 1 0x0C true := by simp [topCode, rpWrite, hc, hb]
  rw [e]
  exact ⟨rfl, rfl, (agree_rpErr rfl _ _ _ s (.refl 0x1100 s)).sameBut rfl⟩

theorem inState_ride {l : List TopState} (h : s.top.state = .ride) (hl : l.contains .ride = false) : s.inState l = false := by
  rw [inState, h, hl]

theorem JobOn.not_refused (h : JobOn s t) (hs : s.cmd.state = 1) : t.cmd.state ≠ 5 := by
  rcases h.state with e | e <;> omega

/-! ### Verify, drain, rebuild, and squares read out to the host -/

theorem verify_begins (hf : PortFree s) (hs : s.standbyOk 0x11 = true) (hi : s.inState [.ready, .service] = true) (hd : s.pair.drv = true) :
    Does .verify s (fun t => t.vault.job = 1 ∧ t.cmd.code = 0x11 ∧ t.cmd.state ≠ 5
      ∧ t.vault.total = min (s.verifyScope.length - (s.jobArg 2).toNat) (min 65536 (s.jobArg 3).toNat)) := by
  have hok : ((s.commanded 0x11).inState [.ready, .service] && (s.commanded 0x11).holder) = true := Bool.and_eq_true_iff.mpr ⟨hi, hd⟩
  refine does_accepted (start := startVerify) rfl hf hs (jobStart_accepted hok (.inr (.inl rfl))) ?_
  extract_lets us
  have hus : us.length = min (s.verifyScope.length - (s.jobArg 2).toNat) (min 65536 (s.jobArg 3).toNat) := by
    have e : ((s.commanded 0x11).jobBegun 1).verifyScope = s.verifyScope := sameFlash_begun.verifyScope
    rw [List.length_take, List.length_drop, e, Nat.min_comm]
    rfl
  clear_value us
  have h := verifyStep_on (us.length + 1) (s := ((s.commanded 0x11).jobBegun 1).mdVault
    (fun v => { v with work := us, total := us.length, verUnc := 0, verRec := 0, verCrc := 0, verMaxc := 0 })) rfl
  exact ⟨h.job, h.code, h.not_refused rfl, h.total.trans hus⟩

theorem vaultExport_begins (hf : PortFree s) (hs : s.standbyOk 0x14 = true) (hi : s.inState [.ready, .service, .ret] = true) (hd : s.pair.drv = true)
    (hx : s.exportImage.isSome = true) :
    Does .vaultExport s (fun t => t.vault.job = 4 ∧ t.cmd.code = 0x14 ∧ t.cmd.state ≠ 5 ∧ t.vault.total ≤ 16) := by
  have hok : ((s.commanded 0x14).inState [.ready, .service, .ret] && (s.commanded 0x14).holder && (s.commanded 0x14).exportImage.isSome) = true := by
    simp only [Bool.and_eq_true]
    exact ⟨⟨hi, hd⟩, hx⟩
  refine does_accepted (start := startExport) rfl hf hs (jobStart_accepted hok (.inr (.inr rfl))) ?_
  extract_lets us
  have hus : us.length ≤ 16 := by
    unfold us
    split
    · rw [List.length_map, List.length_take]
      omega
    · exact Nat.zero_le _
  clear_value us
  have h := exportStep_on (us.length + 1) (s := ((s.commanded 0x14).jobBegun 4).mdVault
    (fun v => { v with work := us, total := us.length, xlist := [], xwin := [] })) rfl
  exact ⟨h.job, h.code, h.not_refused rfl, h.total.trans_le hus⟩

theorem drain_begins (hf : PortFree s) (hs : s.standbyOk 0x12 = true) (hi : s.inState [.ready, .service] = true) (hd : s.pair.drv = true) (hr : s.vault.rjob = 0)
    (h2 : 2 ≤ s.healthyCount) (hx : s.sledSound s.argSled = true) :
    Does .drain s (fun t => t.vault.job = 2 ∧ t.vault.rjob = 2 ∧ t.vault.jobSled = s.argSled ∧ t.vault.drainAccepted = some s.argSled
      ∧ t.cmd = { code := 0x12, state := 1 } ∧ SameBut [.cmd, .rp, .vault] s t) := by
  have hok : ((s.commanded 0x12).inState [.ready, .service] && (s.commanded 0x12).holder && decide (2 ≤ (s.commanded 0x12).healthyCount)
      && (s.commanded 0x12).sledSound (s.commanded 0x12).argSled) = true := by
    simp only [Bool.and_eq_true, decide_eq_true_eq]
    exact ⟨⟨⟨hi, hd⟩, h2⟩, hx⟩
  have h0 : Agree 0x101800 s (s.commanded 0x12) := agree_mdCmd rfl _ _ (agree_rpData rfl 0 s (.refl _ s))
  refine does_accepted (start := startDrain) rfl hf hs (jobStart_accepted hok (.inl hr)) ?_
  exact ⟨rfl, rfl, rfl, rfl, rfl, (agree_mdVault rfl _ _ (agree_mdVault rfl _ _ h0)).sameBut rfl⟩

theorem rebuild_begins (hf : PortFree s) (hs : s.standbyOk 0x13 = true) (hi : s.inState [.ready, .service] = true) (hd : s.pair.drv = true) (hr : s.vault.rjob = 0)
    (h2 : 2 ≤ s.healthyCount) :
    Does .rebuild s (fun t => t.vault.job = 3 ∧ t.cmd.code = 0x13 ∧ t.cmd.state ≠ 5 ∧ t.vault.jobState ≠ 6) := by
  have hok : ((s.commanded 0x13).inState [.ready, .service] && (s.commanded 0x13).holder && decide (2 ≤ (s.commanded 0x13).healthyCount)) = true := by
    simp only [Bool.and_eq_true, decide_eq_true_eq]
    exact ⟨⟨hi, hd⟩, h2⟩
  refine does_accepted (start := startRebuild) rfl hf hs (jobStart_accepted hok (.inl hr)) ?_
  generalize hw : State.mdVault _ ((s.commanded 0x13).jobBegun 3) = w
  obtain ⟨hrjob, hjob, hstate, hcode, hjs⟩ : w.vault.rjob = 3 ∧ w.vault.job = 3 ∧ w.cmd.state = 1 ∧ w.cmd.code = 0x13 ∧ w.vault.jobState = 1 := by
    rw [← hw]
    exact ⟨rfl, rfl, rfl, rfl, rfl⟩
  have h : JobOn w w.rjobPlan.relocStep := by
    have hp : w.rjobPlan.jobView 0 = w.jobView 0 := by
      unfold rjobPlan
      split
      · exact jobView_relocPlan ..
      · rfl
    exact (JobOn.of_jobView hp).trans (relocStep_on ((congrArg JobView.rjob hp).trans hrjob) ((congrArg JobView.job hp).trans hjob))
  refine ⟨h.job.trans hjob, h.code.trans hcode, h.not_refused hstate, ?_⟩
  rcases h.jobState with e | e <;> omega

/-! ### Key erase and format -/

theorem erase_begins (hf : PortFree s) (hs : s.standbyOk 0x15 = true) (hi : s.inState [.ready, .service] = true) (hd : s.pair.drv = true) (hr : s.vault.rjob = 0)
    (hl : s.anyLive = false ∨ s.argForce = true) :
    Does .keyErase s (fun t => t.vault.job = 5 ∧ t.cmd = { code := 0x15, state := 1 } ∧ t.stage.susp = true
      ∧ (if s.paired && s.pair.peer && s.pair.armed && s.pair.complete && s.pair.peerId.isSome then t.vault.keyStep = 3 ∧ t.pair.kxSt = 1 else t.vault.keyStep = 1)
      ∧ ∃ kb, t.vault.keyNew = some kb ∧ kb.keyEpoch = s.vault.keyEpoch + 1) := by
  have hok : ((s.commanded 0x15).inState [.ready, .service] && (s.commanded 0x15).holder && !((s.commanded 0x15).anyLive && !(s.commanded 0x15).argForce)) = true := by
    have hl' : (s.anyLive && !s.argForce) = false := by rcases hl with h | h <;> simp [h]
    simp only [Bool.and_eq_true, Bool.not_eq_true']
    exact ⟨⟨hi, hd⟩, hl'⟩
  refine does_accepted (start := startErase) rfl hf hs (jobStart_accepted hok (.inl hr)) ?_
  extract_lets _ t1 t2 n k kb t3
  have h2 : Agree 0x240000 t1 t2 := .forL (fun p u h => agree_sendRevert rfl _ _ _ _ (agree_cancelCopies rfl p u h)) (.refl _ t1)
  have hsusp : t2.stage.susp = t1.stage.susp := closeCopies_susp _ t1
  clear_value t2
  replace hsusp : t3.stage.susp = true := hsusp
  have hvault : t3.vault = t1.vault := h2.vault rfl
  have hpair : t3.pair = s.pair := h2.pair rfl
  have hcmd : t3.cmd = { code := 0x15, state := 1 } := h2.cmd rfl
  have hpaired : t3.paired = s.paired := by
    have hb : t3.bimg = s.bimg := h2.bimg rfl
    rw [paired, hb, paired]
  have hkb : kb.keyEpoch = s.vault.keyEpoch + 1 := (congrArg (fun v : Vault => v.keyEpoch + 1) (h2.vault rfl)).trans rfl
  clear_value t3 kb
  have hjob : t3.vault.job = 5 := congrArg Vault.job hvault
  rw [hpaired, hpair]
  split
  · generalize hw : t3.mdVault (fun v => { v with keyNew := some kb, keyStep := 3 }) = w
    have hk := jobView_kxBegin (x := 0) w
    have hs := congrArg Stage.susp (kxBegin_stage w)
    rw [← hw] at hk hs ⊢
    exact ⟨(congrArg JobView.job hk).trans hjob, (congrArg JobView.cmd hk).trans hcmd, hs.trans hsusp, ⟨congrArg JobView.keyStep hk, kxBegin_kxSt _⟩, kb,
      congrArg JobView.keyNew hk, hkb⟩
  · rw [eraseWrite]
    generalize hw : t3.mdVault (fun v => { v with keyNew := some kb, keyStep := 1 }) = w
    have hk := jobView_keysOut (x := 0) kb w
    have hs := congrArg Stage.susp (keysOut_stage kb w)
    rw [← hw] at hk hs ⊢
    exact ⟨(congrArg JobView.job hk).trans hjob, (congrArg JobView.cmd hk).trans hcmd, hs.trans hsusp, congrArg JobView.keyStep hk, kb, congrArg JobView.keyNew hk, hkb⟩

theorem argSled_lt (s : State) : s.argSled < 4 := Nat.mod_lt _ (by decide)

/-- A format that is accepted ends at once where its areas do not fit; else it goes on, its sled blank and without a descriptor before the first erase (R214). -/
theorem startFormat_accepted (hi : s.inState [.ready, .service] = true) (hd : s.pair.drv = true) (hr : s.vault.rjob = 0)
    (hp : rd s.pins.sledPrs s.argSled = true) (hu : (s.sled s.argSled).up = true)
    (hc : (s.sled s.argSled).cls = 3 ∨ (s.argForce = true ∧ (s.sled s.argSled).cls ∈ [4, 5, 6])) :
    ∃ t, s.startFormat = (true, t) ∧ ((s.jobBegun 6).layAreas s.argSled = none → t = (s.jobBegun 6).jobEnd 4 3)
      ∧ (∀ a, (s.jobBegun 6).layAreas s.argSled = some a →
        ∃ total, t.jobView s.argSled = { (s.jobBegun 6).jobView s.argSled with total, cls := 3, desc := none }) := by
  have hlt := argSled_lt s
  unfold startFormat
  extract_lets x c noMember member
  have hok : ((s.inState [.ready, .service] || (s.top.state == .boot && noMember)) && s.holder && rd s.pins.sledPrs x && (s.sled x).up
      && (c == 3 || ((c == 4 || c == 5 || c == 6) && s.argForce))) = true := by
    have hc' : (c == 3 || ((c == 4 || c == 5 || c == 6) && s.argForce)) = true := by
      rcases hc with h | ⟨hforce, h⟩
      · simp [c, x, h]
      · simp only [List.mem_cons, List.not_mem_nil, or_false] at h
        simp [c, x, hforce, h, or_assoc]
    simp only [Bool.and_eq_true]
    exact ⟨⟨⟨⟨Bool.or_eq_true_iff.mpr (.inl hi), hd⟩, hp⟩, hu⟩, hc'⟩
  rw [jobStart_accepted hok (.inl hr)]
  refine ⟨_, rfl, fun h => ?_, fun a h => ?_⟩
  · have h : (s.jobBegun 6).layAreas x = none := h
    rw [h]
  · have h : (s.jobBegun 6).layAreas x = some a := h
    have hlt : x < 4 := hlt
    rw [h]
    dsimp -zeta only
    extract_lets t0 t1 t2 rs t3
    have h0 : t0.jobView x = (s.jobBegun 6).jobView x := by
      unfold t0
      split
      · exact jobView_sledQuiet ..
      · rfl
    have h1 : t1.jobView x = { (s.jobBegun 6).jobView x with cls := 3, desc := none } := by
      rw [← h0]
      have hsled : t1.sled x = _ := rd_md_self t0.vault.sleds x _ hlt
      rw [jobView, hsled]
      rfl
    clear_value t1
    have h2 : t2.jobView x = t1.jobView x := by
      unfold t2
      refine (jobView_of_agree (agree_scanEnd rfl _ (.refl _ _))).trans ?_
      split
      · have hne : (t1.degrade.sled x).cls ≠ 6 := by
          have hcls : (t1.degrade.sled x).cls = 3 := congrArg JobView.cls h1
          rw [hcls]
          decide
        exact (jobView_advanceEpoch hne).trans (jobView_degrade t1)
      · rfl
    clear_value t2
    have h3 : t3.jobView x = { (s.jobBegun 6).jobView x with cls := 3, desc := none } := (jobView_openRings x t2).trans (h2.trans h1)
    clear_value t3
    exact ⟨_, (jobView_forL (fun r _ t => jobView_fmtNext r t) _).trans (congrArg (fun v : JobView => { v with total := rs.foldl (fun a r => a + t3.fmtCount r) 0 }) h3)⟩

theorem format_begins (hf : PortFree s) (hs : s.standbyOk 0x16 = true) (hi : s.inState [.ready, .service] = true) (hd : s.pair.drv = true) (hr : s.vault.rjob = 0)
    (hp : rd s.pins.sledPrs s.argSled = true) (hu : (s.sled s.argSled).up = true)
    (hc : (s.sled s.argSled).cls = 3 ∨ (s.argForce = true ∧ (s.sled s.argSled).cls ∈ [4, 5, 6])) :
    Does .format s (fun t => t.vault.job = 6 ∧ t.cmd.code = 0x16
      ∧ if (s.layAreas s.argSled).isNone then t.cmd.state = 3 ∧ t.vault.jobResult = 3
        else t.cmd.state = 1 ∧ (t.sled s.argSled).cls = 3 ∧ (t.sled s.argSled).dev.desc = none) := by
  obtain ⟨t, ht, hnone, hsome⟩ := startFormat_accepted (s := s.commanded 0x16) hi hd hr hp hu hc
  have hx : (s.commanded 0x16).argSled = s.argSled := rfl
  rw [hx, sameFlash_begun.layAreas] at hnone hsome
  refine does_accepted rfl hf hs ht ?_
  cases h : s.layAreas s.argSled with
  | none =>
    rw [hnone h]
    exact ⟨rfl, rfl, rfl, rfl⟩
  | some a =>
    obtain ⟨total, hview⟩ := hsome a h
    have hcmd : t.cmd = { code := 0x16, state := 1 } := congrArg JobView.cmd hview
    exact ⟨congrArg JobView.job hview, congrArg LongCmd.code hcmd, congrArg LongCmd.state hcmd, congrArg JobView.cls hview, congrArg JobView.desc hview⟩

/-! ### Refusals -/

/-- In Ride each of the six is refused (R206). -/
theorem topCode_cmdJob_ride (hf : PortFree s) (h : s.top.state = .ride) {code : Nat} {start : State → Bool × State}
    (hc : (code, start) ∈ [(0x11, startVerify), (0x12, startDrain), (0x13, startRebuild), (0x14, startExport), (0x15, startErase), (0x16, startFormat)]) :
    (s.topCode (cmdJob code start)).cmd = { code, state := 5 } ∧ (s.standbyOk code = true → (s.topCode (cmdJob code start)).vault.jobState = 6)
      ∧ SameBut [.cmd, .rp, .vault] s (s.topCode (cmdJob code start)) := by
  have h2 (c : Nat) : (s.commanded c).inState [.ready, .service] = false := inState_ride h (by decide)
  have h3 (c : Nat) : (s.commanded c).inState [.ready, .service, .ret] = false := inState_ride h (by decide)
  have hb (c : Nat) : ((s.commanded c).top.state == .boot) = false := by
    rw [show (s.commanded c).top.state = .ride from h]
    decide
  simp only [List.mem_cons, Prod.mk.injEq, List.not_mem_nil, or_false] at hc
  rcases hc with ⟨rfl, rfl⟩ | ⟨rfl, rfl⟩ | ⟨rfl, rfl⟩ | ⟨rfl, rfl⟩ | ⟨rfl, rfl⟩ | ⟨rfl, rfl⟩
  · exact topCode_cmdJob_refused hf (jobStart_refused (by rw [h2]; rfl))
  · exact topCode_cmdJob_refused hf (jobStart_refused (by simp only [h2, Bool.false_and]))
  · exact topCode_cmdJob_refused hf (jobStart_refused (by simp only [h2, Bool.false_and]))
  · exact topCode_cmdJob_refused hf (jobStart_refused (by simp only [h3, Bool.false_and]))
  · exact topCode_cmdJob_refused hf (jobStart_refused (by rw [h2]; rfl))
  · refine topCode_cmdJob_refused (j := 6) hf ?_
    unfold startFormat
    exact jobStart_refused (by simp only [h2, hb, Bool.false_and, Bool.or_self])

end

end State

/-- Settles O31, job by job: each runs as it begins or has ended at once, in Ride all are refused, and while a command runs the write ends in error. -/
theorem vaultJobs : Obligations.VaultJobs := by
  refine ⟨fun s hf hs hi hd => State.verify_begins hf hs hi hd, fun s hf hs hi hd hr h2 hx => State.drain_begins hf hs hi hd hr h2 hx,
    fun s hf hs hi hd hr h2 => State.rebuild_begins hf hs hi hd hr h2, fun s hf hs hi hd hx => State.vaultExport_begins hf hs hi hd hx,
    fun s hf hs hi hd hr hl => State.erase_begins hf hs hi hd hr hl, fun s hf hs hi hd hr hp hu hc => State.format_begins hf hs hi hd hr hp hu hc,
    fun c code s hc hf h => ?_, fun c s hc hon hb => ?_⟩
  · simp only [List.mem_cons, Prod.mk.injEq, List.not_mem_nil, or_false] at hc
    rcases hc with ⟨rfl, rfl⟩ | ⟨rfl, rfl⟩ | ⟨rfl, rfl⟩ | ⟨rfl, rfl⟩ | ⟨rfl, rfl⟩ | ⟨rfl, rfl⟩
    all_goals exact ⟨_, rfl, State.topCode_cmdJob_ride hf h (by simp)⟩
  · simp only [List.mem_cons, List.not_mem_nil, or_false] at hc
    rcases hc with rfl | rfl | rfl | rfl | rfl | rfl
    all_goals exact ⟨_, rfl, State.topCode_busy hon hb _⟩

end Sys2Proof.Machine
end

section
/-! PROOFS. COPY_TIMEOUT on a port in RECOVER (R96, R225): its CANCEL waits only where the port trains. -/
set_option Elab.async false

namespace Sys2Proof.Machine
open State

/-- Ready; port 63 reads RECOVER with its training state at 0, and a copy of its square 9 has not become durable in 32 turns. -/
def copyOverdueInRecover : State :=
  { State.reset with
    top := { state := .ready }, pins := { rails := tall 6 true }, clk := { turn := 32 }
    links := wr (tall 64 {}) 63 { rcv := true }
    stage := { ports := wr (tall 64 {}) 63 { copies := [{ sq := 9, turn := 0, tag := 7, ph := 1 }] } } }

/-- Refutes O28, in its clause on the copy's time-out: a port whose training state is 0 sends nothing, in RECOVER either, and the clause does not ask that it trains. The
CANCEL does not wait. -/
theorem not_stagingCommands : ¬ Obligations.StagingCommands := by
  unfold Obligations.StagingCommands
  rintro ⟨-, -, -, -, -, -, -, -, copyTimeout, -⟩
  have hc : copyOverdueInRecover.ctlOn = true := by decide +kernel
  obtain ⟨t, ht, -, -, hwait, -⟩ := copyTimeout 63 9 { sq := 9, turn := 0, tag := 7, ph := 1 } copyOverdueInRecover hc (by decide +kernel)
  obtain rfl : copyOverdueInRecover.copyTimeout (63 : Fin 64) 9 = t := Host.Outcome.next.inj ((exec_on hc).symm.trans ht)
  have hnone : ((copyOverdueInRecover.copyTimeout (63 : Fin 64) 9).lk (63 : Fin 64)).chan.wait = [] := by decide +kernel
  have hlast := hwait (by decide +kernel) (by decide +kernel)
  rw [hnone] at hlast
  exact List.append_ne_nil_of_right_ne_nil _ (List.cons_ne_nil _ _) hlast.symm

end Sys2Proof.Machine
end

section
/-! PROOFS. Restores, the end of RET_WAIT, the host's actions on a port, and a port's decision (R248, R253, R254, R256, R261 to R263, R377). -/
set_option Elab.async false

namespace Sys2Proof.Machine
namespace State

section
variable {p : Fin 64} {s t : State}

/-! ### A port's record under the operations of Return -/

theorem makePending_rt (p : Fin 64) (s : State) :
    (s.makePending p).rt p = { s.rt p with pend := true, out := if (s.rt p).out = 1 then 8 else (s.rt p).out, decide := false } := rt_mdRt p _ s

theorem makePending_evt (p : Nat) (s : State) : (s.makePending p).evtBit 7 1 = true := setEvt_evtBit _ 7 1 (by decide) (by decide)

theorem redecide_rt (p : Fin 64) (s : State) : ((s.redecide p).rt p).out = 2 ∧ ((s.redecide p).rt p).decide = true ∧ ((s.redecide p).rt p).pend = false
    ∧ ((s.redecide p).rt p).released = false := by
  unfold redecide askPort
  split
  · rw [rt_send, rt_mdRt, rt_mdRt]
    exact ⟨rfl, rfl, rfl, rfl⟩
  · rw [rt_mdRt]
    exact ⟨rfl, rfl, rfl, rfl⟩

theorem relStates_of_retStates (h : s.retStates = true) : s.relStates = true := by
  obtain ⟨hs, hh⟩ := Bool.and_eq_true_iff.mp h
  have ht : s.top.state = .ret ∨ s.top.state = .ready := by simpa [inState] using hs
  refine Bool.and_eq_true_iff.mpr ⟨?_, hh⟩
  rcases ht with e | e <;> simp [inState, e]

/-! ### RESTORE_START (R254 to R256) -/

/-- The next queued port with its link in UP is decided again where its adapter is another than its image is bound to; otherwise its restore begins. -/
theorem restoreStart_eq (hs : s.retStates = true) (hc : s.inflight < s.concEff) (hg : s.ret.go = true ∨ s.top.state = .ready)
    (hq : (s.restoreQueue.filter s.linkUp).head? = some p.val) : s.restoreStart =
    if s.boundTo p ≠ some (s.lk p).id then s.redecide p else (s.mdRt p (fun r => { r with out := 6, round := 0, rid := (s.lk p).id })).restoreClear p := by
  unfold restoreStart
  rw [if_neg (by rcases hg with h | h <;> simp [hs, hc, h]), hq]

theorem restoreClear_begins (p : Fin 64) (s : State) : ((s.restoreClear p).rt p).out = (s.rt p).out ∧ ((s.restoreClear p).rt p).ph = 1
    ∧ ((s.restoreClear p).rt p).written = 0 ∧ ((s.restoreClear p).rt p).lost = 0 := by
  rw [restoreClear, rt_send, rt_mdRt]
  exact ⟨rfl, rfl, rfl, rfl⟩

theorem restoreClear_rt_ne {q : Nat} (h : q ≠ p) (s : State) : (s.restoreClear q).rt p = s.rt p := by
  rw [restoreClear, rt_send, rt_mdRt_ne h]

/-- The first message of a restore is the REQ with CLEAR = 1 (R256). -/
theorem restoreClear_buf (hu : s.linkUp p = true) (hw : (s.lk p).chan.wait = []) (hb : (s.lk p).chan.buf.length < 1024) :
    ((s.restoreClear p).lk p).chan.buf = (s.lk p).chan.buf ++ [((s.lk p).chan.seq, .req false false false true)] :=
  congrArg Chan.buf (send_up p _ (s.mdRt p _) hu hw hb)

/-! ### RET_WAIT_EXPIRY (R261) -/

/-- Port `p`'s part of the end of RET_WAIT. -/
def waitEnd (p : Nat) (t : State) : State :=
  if !(t.rt p).released && !(t.rt p).pend && (awaits (t.rt p).out || ((t.rt p).out == 5 && !t.ret.go)) then t.makePending p else t

theorem retWaitExpiry_eq (h : s.top.state = .ret) (hw : s.ret.waited = false) :
    s.retWaitExpiry = forL (List.range 64) waitEnd { s with ret := { s.ret with waited := true } } := if_neg (by simp [h, hw])

/-- Of port `q` the end of RET_WAIT leaves every other port's record, what it waits for, and the event bits that read 1. -/
theorem waitEnd_other {q : Nat} (h : q ≠ p) (t : State) : (t.waitEnd q).rt p = t.rt p ∧ (t.waitEnd q).ret.go = t.ret.go
    ∧ (t.evtBit 7 1 = true → (t.waitEnd q).evtBit 7 1 = true) := by
  unfold waitEnd
  split
  · exact ⟨rt_mdRt_ne h _ t, rfl, fun _ => makePending_evt q t⟩
  · exact ⟨rfl, rfl, id⟩

theorem waitEnd_waited (p : Nat) (t : State) : (t.waitEnd p).ret.waited = t.ret.waited := by
  unfold waitEnd
  split <;> rfl

theorem retWaitExpiry_waited (h : s.top.state = .ret) (hw : s.ret.waited = false) : s.retWaitExpiry.ret.waited = true := by
  rw [retWaitExpiry_eq h hw]
  exact forL_keeps (P := fun t => t.ret.waited = true) (fun q t ht => (waitEnd_waited q t).trans ht) _ rfl

/-- What the end of RET_WAIT makes of port `p`. -/
def WaitEnded (p : Nat) (s t : State) : Prop :=
  if (s.rt p).released = false ∧ (s.rt p).pend = false ∧ (awaits (s.rt p).out = true ∨ (s.rt p).out = 5 ∧ s.ret.go = false)
  then (t.rt p).pend = true ∧ (t.rt p).out = (if (s.rt p).out = 1 then 8 else (s.rt p).out) ∧ t.evtBit 7 1 = true else t.rt p = s.rt p

theorem waitEnd_ended (hr : t.rt p = s.rt p) (hg : t.ret.go = s.ret.go) : WaitEnded p s (t.waitEnd p) := by
  unfold WaitEnded waitEnd
  rw [hr, hg]
  split
  · next h =>
    rw [if_pos (by simpa [and_assoc] using h), makePending_rt, hr]
    exact ⟨rfl, rfl, makePending_evt p t⟩
  · next h =>
    rw [if_neg (by simpa [and_assoc] using h)]
    exact hr

theorem retWaitExpiry_ended (h : s.top.state = .ret) (hw : s.ret.waited = false) (p : Fin 64) : WaitEnded p s s.retWaitExpiry := by
  rw [retWaitExpiry_eq h hw]
  refine forL_at (A := fun t => t.rt p = s.rt p ∧ t.ret.go = s.ret.go) List.nodup_range (List.mem_range.mpr p.isLt) (fun q hq t ht => ?_)
    (fun t ht => waitEnd_ended ht.1 ht.2) (fun q hq t ht => ?_) ⟨rfl, rfl⟩
  · obtain ⟨hr, hg, -⟩ := waitEnd_other hq t
    exact ⟨hr.trans ht.1, hg.trans ht.2⟩
  · obtain ⟨hr, -, he⟩ := waitEnd_other hq t
    unfold WaitEnded at ht ⊢
    rw [hr]
    split
    · next h =>
      obtain ⟨hp, ho, hv⟩ := (if_pos h).mp ht
      exact ⟨hp, ho, he hv⟩
    · next h => exact (if_neg h).mp ht

/-! ### The host's actions (R253, R262, R263, Table 07-4) -/

/-- A write to the register port that answers leaves what its effect makes. -/
theorem does_rpWrite {c : Instr} {a : Nat} {f : State → State} {P : State → Prop} (he : exec c s = .next (s.rpWrite a f)) (hf : PortFree s)
    (hP : P (f (s.rpData 0))) : Does c s P :=
  ⟨f (s.rpData 0), he.trans (congrArg Host.Outcome.next (rpWrite_portFree hf a f)), hP⟩

theorem retAct_accepted {ok : Bool} (f : State → State) (hs : s.retStates = true) (h : ok = true) : s.retAct p ok f = f s := if_pos (by rw [hs, h]; rfl)

/-- An action written elsewhere than in Return and Ready is rejected. -/
theorem retAct_rejected (ok : Bool) (f : State → State) (hs : s.retStates = false) : s.retAct p ok f = s.mdRt p (fun r => { r with actRej := true }) :=
  if_neg (by simp [hs])

/-- An action rejected marks its port and changes nothing else. -/
theorem does_rejected {c : Instr} {a : Nat} {ok : State → Bool} {g : State → State}
    (he : exec c s = .next (s.rpWrite a (fun t => t.retAct p (ok t) g))) (hf : PortFree s) (hs : s.retStates = false) :
    Does c s (fun t => t.rt p = { s.rt p with actRej := true } ∧ (∀ q : Fin 64, q ≠ p → t.rt q = s.rt q) ∧ SameBut [.rp, .ret] s t) := by
  refine does_rpWrite he hf ?_
  rw [retAct_rejected (s := s.rpData 0) (ok (s.rpData 0)) g hs]
  exact ⟨rt_mdRt p _ _, fun q hq => rt_mdRt_ne (Fin.val_ne_of_ne hq.symm) _ _, (agree_mdRt rfl _ _ _ (agree_rpData rfl 0 s (.refl 0x801000 s))).sameBut rfl⟩

/-- A discard's step leaves the outcome, and a port that is not pending so. -/
theorem discardStep_rt (p : Fin 64) (s : State) : ((s.discardStep p).rt p).out = (s.rt p).out ∧ ((s.discardStep p).rt p).decide = (s.rt p).decide
    ∧ ((s.rt p).pend = false → ((s.discardStep p).rt p).pend = false) := by
  unfold discardStep
  split
  · exact ⟨rfl, rfl, id⟩
  · split
    · rw [sendRelease_rt]
      exact ⟨rfl, rfl, id⟩
    · rw [markReleased, rt_mdRt]
      exact ⟨rfl, rfl, fun _ => rfl⟩

/-- With no mark to wait for, an adapter in HELD or FROZEN gets its RELEASE; otherwise the port is released (R253). -/
theorem discardStep_done (hs : s.relStates = true) (hm : (s.rt p).marks = 0) :
    if s.linkUp p = true ∧ (s.lk p).cstate ≠ 1 then ((s.discardStep p).rt p).relMsg = some ((s.lk p).serial, false, true)
    else ((s.discardStep p).rt p).released = true := by
  have e : s.discardStep p = if s.linkUp p && (s.lk p).cstate ≠ 1 then s.sendRelease p (s.lk p).serial false true else s.markReleased p :=
    if_neg (by simp [hs, hm])
  rw [e]
  by_cases h : s.linkUp p = true ∧ (s.lk p).cstate ≠ 1
  · rw [if_pos h, if_pos (by simpa using h), sendRelease_rt]
  · rw [if_neg h, if_neg (by simpa using h), markReleased, rt_mdRt]

/-- The unretired images of a port, each of which a retirement marks (R253). -/
def unretiredOf (s : State) (p : Nat) : List Manifest := s.images.filter (fun m => m.port == p && !s.retired m)

theorem unretiredOf_nil (h : ∀ m ∈ s.images, m.port = p.val → s.retired m = true) : s.unretiredOf p = [] := by
  refine List.filter_eq_nil_iff.mpr fun m hm => ?_
  by_cases e : m.port = p.val
  · simp [h m hm e]
  · simp [e]

theorem retireAll_none {n : Nat} (h : s.unretiredOf p = []) : s.retireAll p n = s := by
  change forL (s.unretiredOf p) _ s = s
  rw [h]
  rfl

/-- A port discarded, before its retire marks. -/
def discarded (p : Nat) (s : State) : State := s.mdRt p (fun r => { r with out := 0xE, marks := (s.unretiredOf p).length, decide := false, pend := false })

theorem discarded_rt (p : Fin 64) (s : State) :
    (s.discarded p).rt p = { s.rt p with out := 0xE, marks := (s.unretiredOf p).length, decide := false, pend := false } := rt_mdRt p _ s

theorem retDiscard_eq (hs : s.retStates = true) (ha : awaits (s.rt p).out = true) : s.retDiscard p = ((s.discarded p).retireAll p 3).discardStep p :=
  retAct_accepted _ hs ha

theorem retDiscard_facts (hs : s.retStates = true) (ha : awaits (s.rt p).out = true) : ((s.retDiscard p).rt p).out = 0xE
    ∧ ((s.retDiscard p).rt p).decide = false ∧ ((s.retDiscard p).rt p).pend = false
    ∧ ((∀ m ∈ s.images, m.port = p.val → s.retired m = true) →
      if s.linkUp p = true ∧ (s.lk p).cstate ≠ 1 then ((s.retDiscard p).rt p).relMsg = some ((s.lk p).serial, false, true)
      else ((s.retDiscard p).rt p).released = true) := by
  rw [retDiscard_eq hs ha]
  obtain ⟨ho, hd, hp⟩ := discardStep_rt p ((s.discarded p).retireAll p 3)
  rw [rt_retireAll, discarded_rt] at ho hd hp
  refine ⟨ho, hd, hp rfl, fun hr => ?_⟩
  have hnil : s.unretiredOf p = [] := unretiredOf_nil hr
  rw [retireAll_none (s := s.discarded p) hnil]
  refine discardStep_done (s := s.discarded p) (relStates_of_retStates (s := s) hs) ?_
  rw [discarded_rt, hnil]
  rfl

theorem retReassign_eq {src : Nat} {m : Manifest} (hs : s.retStates = true) (ho : (s.rt p).out = 9) (hm : s.newestLive src = some m)
    (hq : m.squares ≤ (s.lk p).squares) :
    s.retReassign p src = s.mdRt p (fun r => { r with out := 5, src, rid := (s.lk p).id, pend := false, decide := false }) :=
  retAct_accepted _ hs (by rw [ho, hm]; simpa using hq)

theorem retAcceptLoss_eq {m : Manifest} (hs : s.retStates = true) (ho : (s.rt p).out = 0xB) (hm : s.portImage p = some m) :
    s.retAcceptLoss p = (s.mdRt p (fun r => { r with out := 7, pend := false })).sendRelease p m.serial false false := by
  rw [retAcceptLoss, retAct_accepted _ hs (by rw [ho]; rfl), hm]

/-! ### RET_CONC_WRITE (R254) -/

/-- The field CONC of RET.CTRL. -/
theorem bitsOf_conc {n : Nat} (hn : n < 8) (a b c d : Bool) : bitsOf (word [bf 0 a, (1, 3, n), bf 4 b, bf 5 c, bf 6 d]) 3 1 = n := by
  have ha := a.toNat_lt
  have hb := b.toNat_lt
  have hc := c.toNat_lt
  have hd := d.toNat_lt
  simp only [bitsOf, word, bf, List.foldl_cons, List.foldl_nil, BitVec.toNat_ofNat, Nat.shiftLeft_eq, Nat.shiftRight_eq_div_pow]
  omega

theorem retConc_facts (w : Word) (s : State) : bitsOf (rd (s.retConc w).ctrl 7) 3 1 = min (bitsOf w 3 1) s.im.pol.conc
    ∧ (s.im.pol.conc < bitsOf w 3 1 → (s.retConc w).evtBit 7 3 = true) := by
  have hw : bitsOf w 3 1 < 8 := Nat.mod_lt _ (by decide)
  have hfield := bitsOf_conc (n := min (bitsOf w 3 1) s.im.pol.conc) (by omega) (w.getLsbD 0) (w.getLsbD 4) (w.getLsbD 5) (w.getLsbD 6)
  unfold retConc
  extract_lets c mx c1 s1
  have hctrl : bitsOf (rd s1.ctrl 7) 3 1 = min (bitsOf w 3 1) s.im.pol.conc :=
    (congrArg (bitsOf · 3 1) (rd_wr_self s.ctrl 7 _ (by decide))).trans hfield
  split
  · exact ⟨hctrl, fun _ => setEvt_evtBit _ 7 3 (by decide) (by decide)⟩
  · next h => exact ⟨hctrl, fun h' => absurd h' h⟩

/-! ### TABLE_STAGGER_EXPIRY (R377) -/

/-- With the spacing passed the table holds no restore back, but by a grant that names another slot. -/
theorem tableGo_staggered (h : s.inTable = true) : ({ s with fab := { s.fab with stagger := true } } : State).tableGo = (s.fab.grant.isNone || s.tableGo) := by
  have hin : ({ s with fab := { s.fab with stagger := true } } : State).inTable = true := h
  unfold tableGo
  rw [hin, h]
  cases s.fab.grant <;> rfl

/-! ### The decision of a port (R248, Table 07-1) -/

/-- What is noted in port `p`'s record on the way to its decision leaves what an outcome that awaits the host depends on. -/
structure Noted (p : Fin 64) (s t : State) : Prop where
  top : t.top = s.top
  pair : t.pair = s.pair
  waited : t.ret.waited = s.ret.waited
  pend : (t.rt p).pend = (s.rt p).pend

theorem Noted.mdRt {f : RetP → RetP} (hf : (f (t.rt p)).pend = (t.rt p).pend) (h : Noted p s t) : Noted p s (t.mdRt p f) :=
  ⟨h.top, h.pair, h.waited, (congrArg RetP.pend (rt_mdRt p f t)).trans (hf.trans h.pend)⟩

theorem Noted.retStates (h : Noted p s t) : t.retStates = s.retStates := by
  simp only [State.retStates, inState, holder, h.top, h.pair]

/-- A decision with outcome `o`. -/
def setOut (p o : Nat) (s : State) : State := s.mdRt p (fun r => { r with out := o, decide := false })

theorem setOut_rt (p : Fin 64) (o : Nat) (s : State) : (s.setOut p o).rt p = { s.rt p with out := o, decide := false } := rt_mdRt p _ s

theorem awaitHost_rt (p : Fin 64) (s : State) : (s.awaitHost p).rt p =
    if s.retStates && (s.top.state == .ready || s.ret.waited) then
      { s.rt p with pend := true, out := if (s.rt p).out = 1 then 8 else (s.rt p).out, decide := false }
    else s.rt p := by
  unfold awaitHost
  split
  · exact makePending_rt p s
  · rfl

/-- An outcome that awaits the host is pending where the port was, and at once in Ready or after RET_WAIT (R261, R263). -/
theorem await_facts {o : Nat} (ho : o ≠ 1) (h : Noted p s t) : (((t.setOut p o).awaitHost p).rt p).decide = false ∧ (((t.setOut p o).awaitHost p).rt p).out = o
    ∧ ((((t.setOut p o).awaitHost p).rt p).pend = true ↔ (s.rt p).pend = true ∨ s.retStates = true ∧ (s.top.state = .ready ∨ s.ret.waited = true)) := by
  have hc : ((t.setOut p o).retStates && ((t.setOut p o).top.state == .ready || (t.setOut p o).ret.waited))
      = (s.retStates && (s.top.state == .ready || s.ret.waited)) := by
    change (t.retStates && (t.top.state == .ready || t.ret.waited)) = _
    rw [h.retStates, h.top, h.waited]
  have hiff : (s.retStates && (s.top.state == .ready || s.ret.waited)) = true ↔ s.retStates = true ∧ (s.top.state = .ready ∨ s.ret.waited = true) := by simp
  rw [awaitHost_rt, hc, setOut_rt, ← hiff]
  by_cases hp : (s.retStates && (s.top.state == .ready || s.ret.waited)) = true
  · rw [if_pos hp]
    exact ⟨rfl, if_neg ho, iff_of_true rfl (.inr hp)⟩
  · rw [if_neg hp, or_iff_left hp, ← h.pend]
    exact ⟨rfl, rfl, .rfl⟩

theorem decidePort_idle (h : (s.rt p).decide = false) : s.decidePort p = s := if_pos (by simp [h])

section
variable (hd : (s.rt p).decide = true)
include hd

/-- Row 1: no unretired image, and no link in UP. -/
theorem decidePort_row1 (hm : s.newestLive p = none) (hu : s.linkUp p = false) : ∃ u, Noted p s u ∧ s.decidePort p = u.setOut p 0 := by
  unfold decidePort
  extract_lets r l img set await s0
  have hi : img = none := hm
  have hr : r.decide = true := hd
  rw [if_neg (by simp [hr]), if_pos (by simp [hi, hu])]
  exact ⟨s0, .mdRt rfl ⟨rfl, rfl, rfl, rfl⟩, rfl⟩

/-- Row 5: an unretired image, and no IDENT of an adapter whose link is not in UP. -/
theorem decidePort_row5 {m : Manifest} (hm : s.newestLive p = some m) (hu : s.linkUp p = false) (hn : (s.rt p).ident = false) :
    ∃ u, Noted p s u ∧ s.decidePort p = (u.mdRt p (fun r => { r with out := 1 })).awaitHost p := by
  unfold decidePort
  extract_lets r l img set await s0
  have hi : img = some m := hm
  have hr : r.decide = true := hd
  have hri : r.ident = false := hn
  have h0 : Noted p s s0 := .mdRt rfl ⟨rfl, rfl, rfl, rfl⟩
  clear_value s0
  rw [if_neg (by simp [hr]), if_neg (by simp [hi]), if_neg (by simp [hri])]
  simp only [hi, hri, hu]
  exact ⟨s0, h0, rfl⟩

/-- Rows 2 to 4: no unretired image, and an adapter that has answered. -/
theorem decidePort_rows2to4 (hm : s.newestLive p = none) (hu : s.linkUp p = true) (he : (s.lk p).en = true) (hn : (s.rt p).ident = true) :
    ∃ u, Noted p s u ∧ s.decidePort p =
      if (s.elsewhere p).isSome then (u.setOut p 9).awaitHost p
      else if (s.lk p).cstate = 1 then (u.setOut p 3).markReleased p
      else (u.setOut p 3).sendRelease p (s.lk p).serial true (!(s.lk p).intact) := by
  unfold decidePort
  extract_lets r l img set await s0 els s1
  have hi : img = none := hm
  have hr : r.decide = true := hd
  have hri : r.ident = true := hn
  have hle : l.en = true := he
  have h1 : Noted p s s1 := .mdRt rfl (.mdRt rfl ⟨rfl, rfl, rfl, rfl⟩)
  clear_value s1
  rw [if_neg (by simp [hr]), if_neg (by simp [hi, hu, hle]), if_pos (by simp [hi, hri])]
  simp only [hi]
  exact ⟨s1, h1, rfl⟩

/-- Rows 6 to 10: an unretired image, and an adapter that has answered both requests. -/
theorem decidePort_rows6to10 {m : Manifest} (hm : s.newestLive p = some m) (hn : (s.rt p).ident = true) (hc : (s.rt p).check.isSome = true) :
    ∃ u, Noted p s u ∧ s.decidePort p =
      if (s.lk p).cstate = 1 then (u.setOut p 0xC).awaitHost p
      else if (s.lk p).id ≠ m.adapter then (u.setOut p 9).awaitHost p
      else if (s.lk p).squares ≠ m.squares then (u.setOut p 0xA).awaitHost p
      else if s.thawFail p m = 0 then (u.setOut p 4).sendRelease p m.serial true false
      else u.setOut p 5 := by
  unfold decidePort
  extract_lets r l img set await s0 els s1 fl
  have hi : img = some m := hm
  have hr : r.decide = true := hd
  have hri : r.ident = true := hn
  have hrc : r.check.isSome = true := hc
  have h1 : Noted p s s1 := .mdRt rfl (.mdRt rfl ⟨rfl, rfl, rfl, rfl⟩)
  clear_value s1
  rw [if_neg (by simp [hr]), if_neg (by simp [hi]), if_pos (by simp [hri, hrc])]
  simp only [hi]
  exact ⟨_, h1.mdRt (f := fun r => { r with fail := s.thawFail p m }) rfl, rfl⟩

end

theorem released_setOut_facts (p : Fin 64) (o : Nat) (s : State) : (((s.setOut p o).markReleased p).rt p).decide = false
    ∧ (((s.setOut p o).markReleased p).rt p).out = o ∧ (((s.setOut p o).markReleased p).rt p).released = true := by
  rw [markReleased, rt_mdRt, setOut_rt]
  exact ⟨rfl, rfl, rfl⟩

theorem sendRelease_setOut_facts (p : Fin 64) (o n : Nat) (d e : Bool) (s : State) : (((s.setOut p o).sendRelease p n d e).rt p).decide = false
    ∧ (((s.setOut p o).sendRelease p n d e).rt p).out = o ∧ (((s.setOut p o).sendRelease p n d e).rt p).relMsg = some (n, d, e)
    ∧ (((s.setOut p o).sendRelease p n d e).rt p).relSent = true := by
  rw [sendRelease_rt, setOut_rt]
  exact ⟨rfl, rfl, rfl, rfl⟩

/-- Port `p` of `s`, with image `m`, is decided in `t` with outcome `o`: a thaw releases its adapter, and what awaits the host may be pending at once. -/
def DecidedAs (p : Nat) (m : Manifest) (o : Nat) (s t : State) : Prop :=
  (t.rt p).decide = false ∧ (t.rt p).out = o ∧ ((t.rt p).out = 4 → (t.rt p).relMsg = some (m.serial, true, false) ∧ (t.rt p).relSent = true)
  ∧ ((t.rt p).out ∈ [0xC, 9, 0xA] → ((t.rt p).pend = true ↔ (s.rt p).pend = true ∨ s.retStates = true ∧ (s.top.state = .ready ∨ s.ret.waited = true)))

theorem await_decided {m : Manifest} {o : Nat} (ho : o ≠ 1 ∧ o ≠ 4) (h : Noted p s t) : DecidedAs p m o s ((t.setOut p o).awaitHost p) := by
  obtain ⟨h1, h2, h3⟩ := await_facts ho.1 h
  exact ⟨h1, h2, fun h4 => absurd (h2.symm.trans h4) ho.2, fun _ => h3⟩

theorem thaw_decided (p : Fin 64) (m : Manifest) (s t : State) : DecidedAs p m 4 s ((t.setOut p 4).sendRelease p m.serial true false) := by
  obtain ⟨h1, h2, h3, h4⟩ := sendRelease_setOut_facts p 4 m.serial true false t
  exact ⟨h1, h2, fun _ => ⟨h3, h4⟩, fun h => absurd (h2 ▸ h) (by decide)⟩

theorem queue_decided (p : Fin 64) (m : Manifest) (s t : State) : DecidedAs p m 5 s (t.setOut p 5) := by
  have ho : ((t.setOut p 5).rt p).out = 5 := congrArg RetP.out (setOut_rt p 5 t)
  exact ⟨congrArg RetP.decide (setOut_rt p 5 t), ho, fun h => absurd (ho.symm.trans h) (by decide), fun h => absurd (ho ▸ h) (by decide)⟩

end

end State

open State

/-- Settles O32, clause by clause. -/
theorem restoreCommands : Obligations.RestoreCommands := by
  refine ⟨fun p s hc hs hn hg hq hb => ⟨_, exec_on hc, ?_⟩, fun p s hc hs hn hg hq hb => ⟨_, exec_on hc, ?_⟩,
    fun s hc hr hw => ⟨_, exec_on hc, retWaitExpiry_waited hr hw, (agree_retWaitExpiry rfl s (.refl 0x800100 s)).sameBut rfl, retWaitExpiry_ended hr hw⟩,
    fun p s hf hs ha => does_rpWrite rfl hf (retDiscard_facts (s := s.rpData 0) hs ha),
    fun p src m s hf hs ho hm hq => does_rpWrite rfl hf ?_, fun p s hf hs ha => does_rpWrite rfl hf ?_,
    fun p m s hf hs ho hm => does_rpWrite rfl hf ?_, fun p s hf hs ho => does_rpWrite rfl hf ?_,
    fun c p src s hc hf hs => ?_, fun w s hf => does_rpWrite rfl hf ?_, fun s hc hi hf hr hl => ⟨_, exec_on hc, ?_⟩, fun s hc hl => ⟨_, exec_on hc, ?_⟩,
    fun p s hd => decidePort_idle hd, fun p s hd hm hu => ?_, fun p m s hd hm hu hn => ?_, fun p s hd hm hu he hn => ?_, fun p m s hd hm hn hk => ?_⟩
  · have hu : s.linkUp p = true := (List.mem_filter.mp (List.mem_of_head? hq)).2
    have hag : Agree 0x840000 s s.restoreStart := agree_restoreStart rfl s (.refl _ s)
    have hsb : SameBut [.links, .ret] s s.restoreStart := hag.sameBut rfl
    rw [restoreStart_eq hs hn hg hq, if_neg (not_not_intro hb)] at hsb ⊢
    obtain ⟨ho, hph, hwr, hlo⟩ := restoreClear_begins p (s.mdRt p (fun r => { r with out := 6, round := 0, rid := (s.lk p).id }))
    refine ⟨ho.trans (congrArg RetP.out (rt_mdRt p _ s)), hph, hwr, hlo, fun q hq' => ?_, fun hw hl => restoreClear_buf (s := s.mdRt p _) hu hw hl, hsb⟩
    have hne : p.val ≠ q.val := Fin.val_ne_of_ne hq'.symm
    rw [restoreClear_rt_ne hne, rt_mdRt_ne hne]
  · rw [restoreStart_eq hs hn hg hq, if_pos hb]
    obtain ⟨ho, hd, -, -⟩ := redecide_rt p s
    exact ⟨ho, hd, fun q hq' => rt_redecide_ne (Fin.val_ne_of_ne hq'.symm) s⟩
  · have hag : Agree 0x801000 s ((s.rpData 0).retReassign p src) := agree_retReassign rfl _ _ _ (agree_rpData rfl 0 s (.refl _ s))
    have hsb : SameBut [.rp, .ret] s ((s.rpData 0).retReassign p src) := hag.sameBut rfl
    have hrt := rt_mdRt p (fun r => { r with out := 5, src := src.val, rid := (s.lk p).id, pend := false, decide := false }) (s.rpData 0)
    rw [retReassign_eq (s := s.rpData 0) hs ho hm hq] at hsb ⊢
    exact ⟨congrArg RetP.out hrt, congrArg RetP.src hrt, congrArg RetP.pend hrt, hsb⟩
  · have e : (s.rpData 0).retLeave p = (s.rpData 0).makePending p := retAct_accepted (s := s.rpData 0) _ hs ha
    have hrt := makePending_rt p (s.rpData 0)
    rw [e]
    exact ⟨congrArg RetP.pend hrt, congrArg RetP.out hrt, makePending_evt p _,
      (agree_makePending rfl _ _ (agree_rpData rfl 0 s (.refl 0x801100 s))).sameBut rfl⟩
  · have hag : Agree 0x841000 s ((s.rpData 0).retAcceptLoss p) := agree_retAcceptLoss rfl _ _ (agree_rpData rfl 0 s (.refl _ s))
    have hsb : SameBut [.links, .rp, .ret] s ((s.rpData 0).retAcceptLoss p) := hag.sameBut rfl
    rw [retAcceptLoss_eq (s := s.rpData 0) hs ho hm] at hsb ⊢
    rw [sendRelease_rt, rt_mdRt]
    exact ⟨rfl, rfl, rfl, rfl, hsb⟩
  · have hok : ((s.rt p).out == 0xB || (s.rt p).out == 0xD || (s.rt p).pend) = true := by simpa [or_assoc] using ho
    have e : (s.rpData 0).retAgain p = (s.rpData 0).redecide p := retAct_accepted (s := s.rpData 0) _ hs hok
    obtain ⟨h1, h2, h3, h4⟩ := redecide_rt p (s.rpData 0)
    rw [e]
    exact ⟨h1, h2, h3, h4, (agree_redecide rfl _ _ (agree_rpData rfl 0 s (.refl 0x841000 s))).sameBut rfl⟩
  · simp only [List.mem_cons, List.not_mem_nil, or_false] at hc
    rcases hc with rfl | rfl | rfl | rfl | rfl <;> exact does_rejected rfl hf hs
  · obtain ⟨hb, he⟩ := retConc_facts w (s.rpData 0)
    exact ⟨hb, he, (agree_retConc rfl w _ (agree_rpData rfl 0 s (.refl 0x1300 s))).sameBut rfl⟩
  · have e : s.staggerExpiry = { s with fab := { s.fab with stagger := true } } := if_pos (by simp [hi, hf, hr, hl])
    rw [e]
    exact ⟨rfl, tableGo_staggered hi⟩
  · have h : ¬s.staggerAt < s.clk.turnStart + 1000000 := Nat.not_lt.mpr hl
    exact if_neg (by simp [h])
  · obtain ⟨u, -, e⟩ := decidePort_row1 hd hm hu
    rw [e, setOut_rt]
    exact ⟨rfl, rfl⟩
  · obtain ⟨u, hu', e⟩ := decidePort_row5 hd hm hu hn
    have hv : Noted p s (u.mdRt p (fun r => { r with out := 1 })) := hu'.mdRt rfl
    rw [e, awaitHost_rt, hv.retStates, hv.top, hv.waited, rt_mdRt]
    split <;> rfl
  · obtain ⟨u, hu', e⟩ := decidePort_rows2to4 hd hm hu he hn
    extract_lets t
    have ht : t = _ := e
    rw [ht]
    cases hx : s.elsewhere p with
    | some q =>
      obtain ⟨h1, h2, -⟩ := await_facts (o := 9) (by decide) hu'
      exact ⟨h1, h2, fun h => absurd h (by simp)⟩
    | none =>
      by_cases ha : (s.lk p).cstate = 1
      · obtain ⟨h1, h2, h3⟩ := released_setOut_facts p 3 u
        simp only [ha]
        exact ⟨h1, h2, fun _ => h3⟩
      · obtain ⟨h1, h2, h3, -⟩ := sendRelease_setOut_facts p 3 (s.lk p).serial true (!(s.lk p).intact) u
        simp only [ha]
        exact ⟨h1, h2, fun _ => h3⟩
  · obtain ⟨u, hu', e⟩ := decidePort_rows6to10 hd hm hn hk
    extract_lets t
    have ht : t = _ := e
    rw [ht]
    clear ht e t
    split
    · exact await_decided (by decide) hu'
    split
    · exact await_decided (by decide) hu'
    split
    · exact await_decided (by decide) hu'
    split
    · exact thaw_decided p m s u
    · exact queue_decided p m s u

end Sys2Proof.Machine
end

section
/-! PROOFS. A string removed at a standby (R272, R282, R297): the discharge is the holder's there, and the removal asks for no abort. -/
set_option Elab.async false

namespace Sys2Proof.Machine
open State

/-- A pair's standby in Ready, whose holder discharges string 15 to learn its capacity (Table 08-2, state 1); the string's voltage has been below V_PRES on
8 samples. -/
def discharged15AtStandby : State :=
  { State.reset with
    top := { state := .ready }, pins := { rails := tall 6 true }, pair := { standby := true }
    bimg := { img := { core := { paired := true }, strs := tall 16 { cNom := 1 } }, running := true }
    aon := { learnStr := 15, learnSt := 1, strs := tall 16 { present := true } }, nrg := { c := tall 16 { absRun := 8 } } }

/-- Refutes O33, in its clause on removal: at a standby the removal of the string under discharge leaves the abort to the token holder. -/
theorem not_stringSamplesAndAnchors : ¬ Obligations.StringSamplesAndAnchors := by
  unfold Obligations.StringSamplesAndAnchors
  rintro ⟨-, -, -, -, -, removal, -⟩
  have hc : discharged15AtStandby.ctlOn = true := by decide +kernel
  obtain ⟨t, ht, -, -, habort, -⟩ := removal 15 discharged15AtStandby hc (by decide +kernel) (by decide +kernel)
  obtain rfl : discharged15AtStandby.removal (15 : Fin 16) = t := Host.Outcome.next.inj ((exec_on hc).symm.trans ht)
  have hnone : (discharged15AtStandby.removal (15 : Fin 16)).nrg.learnAbort = false := by decide +kernel
  exact absurd (hnone.symm.trans (habort (by decide +kernel))) Bool.false_ne_true

end Sys2Proof.Machine
end

section
/-! PROOFS. The strings' host commands, learning discharge, energy figures and state image (R279 to R282, R287 to R289, R291, R293 to R295). -/
set_option Elab.async false

namespace Sys2Proof.Machine
namespace State

section
variable {s t : State}

/-! ### What the estimator leaves of the discharge and of a restore -/

/-- The learning discharge's registers, the AON bank in force, and a restore that waits or has ended. -/
structure RestoreView where
  st : Nat
  res : Nat
  since : Nat
  bank : Nat
  restore : Option (BitVec 16)
  rstResult : Nat

def restoreView (s : State) : RestoreView := ⟨s.aon.learnSt, s.aon.learnRes, s.aon.learnAt, s.aon.bank, s.nrg.restore, s.nrg.rstResult⟩

theorem restoreView_of_agree (h : Agree 0x7FDFFFB s t) : t.restoreView = s.restoreView := by
  unfold restoreView
  rw [h.aon rfl, h.nrg rfl]

@[simp] theorem restoreView_mdStr (k : Nat) (f : Str → Str) (s : State) : (s.mdStr k f).restoreView = s.restoreView := rfl
@[simp] theorem restoreView_mdSlot (n : Nat) (f : Slot → Slot) (s : State) : (s.mdSlot n f).restoreView = s.restoreView := rfl
@[simp] theorem restoreView_setEvt (b i : Nat) (s : State) : (s.setEvt b i).restoreView = s.restoreView := rfl
@[simp] theorem restoreView_unraise (a b : Nat) (s : State) : (s.unraise a b).restoreView = s.restoreView :=
  restoreView_of_agree (agree_unraise rfl a b s (.refl _ s))
@[simp] theorem restoreView_follow (a b : Nat) (c : Bool) (s : State) : (s.follow a b c).restoreView = s.restoreView :=
  restoreView_of_agree (agree_follow rfl a b c s (.refl _ s))
@[simp] theorem restoreView_strCount (a k : Nat) (q : Int) (s : State) : (s.strCount a k q).restoreView = s.restoreView :=
  restoreView_of_agree (agree_strCount rfl a k q s (.refl _ s))
@[simp] theorem restoreView_cmdEnd (n : Nat) (s : State) : (s.cmdEnd n).restoreView = s.restoreView :=
  restoreView_of_agree (agree_cmdEnd rfl n s (.refl _ s))

/-- States of one view have these registers alike. -/
theorem same_of_restoreView (h : t.restoreView = s.restoreView) : t.aon.learnSt = s.aon.learnSt ∧ t.aon.bank = s.aon.bank ∧ t.nrg.restore = s.nrg.restore :=
  ⟨congrArg RestoreView.st h, congrArg RestoreView.bank h, congrArg RestoreView.restore h⟩

theorem restoreView_fields {v : RestoreView} (h : t.restoreView = v) : t.aon.learnSt = v.st ∧ t.aon.bank = v.bank ∧ t.nrg.restore = v.restore
    ∧ t.nrg.rstResult = v.rstResult :=
  ⟨congrArg RestoreView.st h, congrArg RestoreView.bank h, congrArg RestoreView.restore h, congrArg RestoreView.rstResult h⟩

theorem restoreView_ite {c : Prop} [Decidable c] {u : State} (ht : t.restoreView = s.restoreView) (hu : u.restoreView = s.restoreView) :
    (if c then t else u).restoreView = s.restoreView := by
  split
  · exact ht
  · exact hu

theorem restoreView_forL {α : Type} {f : α → State → State} (hf : ∀ x t, (f x t).restoreView = t.restoreView) (l : List α) (s : State) :
    (forL l f s).restoreView = s.restoreView :=
  forL_keeps (P := fun t => t.restoreView = s.restoreView) (fun x t h => (hf x t).trans h) l rfl

theorem restoreView_forN {f : Nat → State → State} (hf : ∀ x t, (f x t).restoreView = t.restoreView) (n : Nat) (s : State) :
    (forN n f s).restoreView = s.restoreView := restoreView_forL hf (List.range n) s

@[simp] theorem restoreView_judgeWear (k : Nat) (s : State) : (s.judgeWear k).restoreView = s.restoreView := by simp [judgeWear]
@[simp] theorem restoreView_setCap (k c : Nat) (s : State) : (s.setCap k c).restoreView = s.restoreView := by simp [setCap]
@[simp] theorem restoreView_restoreStr (b : List Byte) (k : Nat) (s : State) : (s.restoreStr b k).restoreView = s.restoreView := by simp [restoreStr]
@[simp] theorem restoreView_candAct (a : Nat × Bool) (s : State) : (s.candAct a).restoreView = s.restoreView :=
  restoreView_ite rfl (restoreView_ite (by simp [learned]) (by simp))

/-! ### The slots a discharge drives (Table 08-2) -/

@[simp] theorem restoreView_setEn (n : Nat) (b : Bool) (s : State) : (s.setEn n b).restoreView = s.restoreView :=
  restoreView_ite rfl (restoreView_ite rfl rfl)
@[simp] theorem restoreView_unstick (n : Nat) (s : State) : (s.unstick n).restoreView = s.restoreView := restoreView_ite (by simp) rfl
@[simp] theorem restoreView_clearRail (n : Nat) (x y : Bool) (s : State) : (s.clearRail n x y).restoreView = s.restoreView := by
  have h : (if x && (s.slot n).fault then (s.mdSlot n fun z => { z with fault := z.fault && !x, warn := z.warn && !y }).unraise (114 + n / 8) n
      else s.mdSlot n fun z => { z with fault := z.fault && !x, warn := z.warn && !y }).restoreView = s.restoreView := restoreView_ite (by simp) (by simp)
  exact restoreView_ite ((restoreView_unraise _ _ _).trans h) h
@[simp] theorem restoreView_estDrive (n : Nat) (b : Bool) (s : State) : (s.estDrive n b).restoreView = s.restoreView :=
  restoreView_ite rfl (restoreView_ite (by simp) (by simp))
@[simp] theorem restoreView_loadOff (n : Nat) (s : State) : (s.loadOff n).restoreView = s.restoreView := restoreView_ite rfl (by simp)
@[simp] theorem restoreView_learnDrive (s : State) : s.learnDrive.restoreView = s.restoreView := by
  unfold learnDrive
  dsimp only
  split
  · simp
  · exact restoreView_ite (by simp) (by simp)
  · exact restoreView_ite (by simp) (by simp)
  · simp
  · exact restoreView_ite (by simp) (by simp)
  · rfl

/-! ### A step of the discharge (R280, R282) -/

/-- What a turn boundary makes of the discharge's registers before it drives the slots: an abort acts but in Boot, else the anchor that has occurred. -/
def learnMove (s : State) : State :=
  let st := s.aon.learnSt
  let act := !(s.top.state == .boot)
  if s.nrg.learnAbort && (st == 1 || st == 2) && act then
    ({ s with aon := { s.aon with learnSt := 5, learnRes := 3 }, nrg := { s.nrg with learnAbort := false, learnGo := false } }).mdStr s.aon.learnStr (fun x => { x with runOpen := false, runOk := false }) |>.setEvt 5 6
  else if s.nrg.learnGo then
    { s with aon := { s.aon with learnSt := if st == 1 then 2 else if st == 2 then 3 else st, learnAt := if st == 1 then s.aon.opSec else s.aon.learnAt }, nrg := { s.nrg with learnGo := false, learnAbort := false } }
  else { s with nrg := { s.nrg with learnAbort := s.nrg.learnAbort && !act } }

/-- ISO may come on again once Ready or Ride is reached after a trip (R282). -/
def releaseHold (s : State) : State :=
  if s.aon.learnHold && s.inState [.ready, .ride] then { s with aon := { s.aon with learnHold := false } } else s

theorem learnStep_eq (s : State) : s.learnStep = s.learnMove.releaseHold.learnDrive := rfl

theorem learnStep_facts (s : State) : s.learnStep.restoreView = s.learnMove.restoreView ∧ s.learnStep.nrg = s.learnMove.nrg
    ∧ s.learnStep.evt = s.learnMove.evt := by
  have hv : s.learnMove.releaseHold.restoreView = s.learnMove.restoreView := restoreView_ite rfl rfl
  have ha : Agree 0x12004 s.learnMove s.learnStep := agree_learnDrive rfl _ (.ite (.upd_aon _ rfl (.refl _ _)) (.refl _ _))
  exact ⟨(restoreView_learnDrive _).trans hv, ha.nrg rfl, ha.evt rfl⟩

theorem learnMove_aborts (hn : s.nrg.learnAbort = true) (hl : s.aon.learnSt = 1 ∨ s.aon.learnSt = 2) (hb : s.top.state ≠ .boot) : s.learnMove =
    (({ s with aon := { s.aon with learnSt := 5, learnRes := 3 }, nrg := { s.nrg with learnAbort := false, learnGo := false } } : State).mdStr s.aon.learnStr
      (fun x => { x with runOpen := false, runOk := false })).setEvt 5 6 :=
  if_pos (by simp [hn, hl, hb])

theorem learnMove_anchored (hn : s.nrg.learnAbort = false) (hg : s.nrg.learnGo = true) : s.learnMove =
    { s with
      aon := { s.aon with learnSt := if s.aon.learnSt == 1 then 2 else if s.aon.learnSt == 2 then 3 else s.aon.learnSt, learnAt := if s.aon.learnSt == 1 then s.aon.opSec else s.aon.learnAt }
      nrg := { s.nrg with learnGo := false, learnAbort := false } } :=
  (if_neg (by simp [hn])).trans (if_pos hg)

theorem learnMove_idle (hn : s.nrg.learnAbort = false) (hg : s.nrg.learnGo = false) : s.learnMove = { s with nrg := { s.nrg with learnAbort := false } } :=
  (if_neg (by simp [hn])).trans ((if_neg (by simp [hg])).trans (by simp [hn]))

/-- A step of the discharge leaves the AON bank and what a restore waits for. -/
theorem learnMove_restore (s : State) : s.learnMove.aon.bank = s.aon.bank ∧ s.learnMove.nrg.restore = s.nrg.restore := by
  unfold learnMove
  dsimp only
  split
  · exact ⟨rfl, rfl⟩
  split <;> exact ⟨rfl, rfl⟩

theorem learnStep_aborts (hn : s.nrg.learnAbort = true) (hl : s.aon.learnSt = 1 ∨ s.aon.learnSt = 2) (hb : s.top.state ≠ .boot) :
    s.learnStep.aon.learnSt = 5 ∧ s.learnStep.aon.learnRes = 3 ∧ s.learnStep.nrg.learnAbort = false ∧ s.learnStep.evtBit 5 6 = true := by
  obtain ⟨hv, hnrg, hevt⟩ := learnStep_facts s
  rw [evtBit_congr hevt, hnrg]
  rw [learnMove_aborts hn hl hb] at hv ⊢
  exact ⟨congrArg RestoreView.st hv, congrArg RestoreView.res hv, rfl, setEvt_evtBit _ 5 6 (by decide) (by decide)⟩

theorem learnStep_anchored (hn : s.nrg.learnAbort = false) (hg : s.nrg.learnGo = true) (hl : s.aon.learnSt = 1 ∨ s.aon.learnSt = 2) :
    s.learnStep.aon.learnSt = s.aon.learnSt + 1 ∧ s.learnStep.nrg.learnGo = false
      ∧ s.learnStep.aon.learnAt = (if s.aon.learnSt = 1 then s.aon.opSec else s.aon.learnAt) := by
  obtain ⟨hv, hnrg, -⟩ := learnStep_facts s
  rw [hnrg]
  rw [learnMove_anchored hn hg] at hv ⊢
  refine ⟨(congrArg RestoreView.st hv).trans ?_, rfl, (congrArg RestoreView.since hv).trans ?_⟩
  · rcases hl with h | h <;> simp [restoreView, h]
  · simp [restoreView]

theorem learnStep_idle (hn : s.nrg.learnAbort = false) (hg : s.nrg.learnGo = false) : s.learnStep.aon.learnSt = s.aon.learnSt := by
  have hv := (learnStep_facts s).1
  rw [learnMove_idle hn hg] at hv
  exact congrArg RestoreView.st hv

/-! ### E_sum and E_pot (R288, R289) -/

/-- Every string's energy figures, and whether it counts in E_sum. -/
def judgeStrings (s : State) : State := forN 16 (fun k t => t.mdStr k (fun x => { x with inSum := t.countsIn k })) (forN 16 strEnergy s)

/-- E_sum and E_pot of the strings as judged. -/
def setPot (p : Option Nat) (s : State) : State :=
  let eSum := sumN 16 (fun k => if (s.str k).inSum then (s.str k).eStr else 0)
  let pot := match p with | some v => min v eSum | none => eSum
  { s with nrg := { s.nrg with eSum, pot, ePot := match p with | some _ => pot * s.nrg.num / s.nrg.den | none => eSum } }

theorem ePotUpdate_eq (p : Option Nat) (s : State) : s.ePotUpdate p = s.judgeStrings.setPot p := by
  cases p <;> dsimp only [ePotUpdate, judgeStrings, setPot]

theorem restoreView_strEnergy (k : Nat) (s : State) : (s.strEnergy k).restoreView = s.restoreView := restoreView_ite rfl rfl

theorem restoreView_setPot (p : Option Nat) (s : State) : (s.setPot p).restoreView = s.restoreView := rfl

theorem restoreView_ePotUpdate (p : Option Nat) (s : State) : (s.ePotUpdate p).restoreView = s.restoreView := by
  rw [ePotUpdate_eq, restoreView_setPot]
  unfold judgeStrings
  rw [restoreView_forN (fun _ _ => restoreView_mdStr ..), restoreView_forN restoreView_strEnergy]

/-! ### The strings at a turn boundary (R295) -/

/-- What the discharge's step leaves, which a standby does not make (R297). -/
def afterLearning (s : State) : State := if s.pair.standby then s else s.learnStep

/-- What the host's actions and the wear judgement make of the strings. -/
def candActs (s : State) : State := forN 16 judgeWear (forL s.nrg.candAct candAct s)

/-- The host's actions are done. -/
def candsDone (s : State) : State := { s with nrg := { s.nrg with candAct := [] } }

/-- The strings before a restore commits. -/
def beforeRestore (s : State) : State := s.afterLearning.candActs.candsDone

/-- A restore that waits commits, unless an abort acts at this boundary (R462). -/
def commitDue (s : State) : State := if s.nrg.restore.isSome && !s.cmd.abortPend then s.restoreCommit.cmdEnd 2 else s

theorem energyTurn_eq (s : State) : s.energyTurn = s.beforeRestore.commitDue.ePotUpdate s.beforeRestore.commitDue.potP := by
  unfold energyTurn beforeRestore candsDone candActs afterLearning commitDue
  rfl

theorem energyTurn_view (s : State) : s.energyTurn.restoreView = s.beforeRestore.commitDue.restoreView := by
  rw [energyTurn_eq, restoreView_ePotUpdate]

theorem beforeRestore_view (s : State) : s.beforeRestore.restoreView = s.afterLearning.restoreView := by
  have h : ∀ u : State, u.candsDone.restoreView = u.restoreView := fun _ => rfl
  rw [beforeRestore, h]
  unfold candActs
  exact (restoreView_forN restoreView_judgeWear 16 _).trans (restoreView_forL restoreView_candAct _ _)

theorem beforeRestore_cmd (s : State) : s.beforeRestore.cmd = s.cmd := by
  have h1 : Agree 0x7FFF7FF s s.afterLearning := .ite (.refl _ s) (agree_learnStep rfl s (.refl _ s))
  have h2 : Agree 0x7FFF7FF s s.afterLearning.candActs := by
    unfold candActs
    exact .forN (fun k _ => agree_judgeWear rfl k _) (.forL (fun a _ => agree_candAct rfl a _) h1)
  have h3 : ∀ u : State, u.candsDone.cmd = u.cmd := fun _ => rfl
  rw [beforeRestore, h3, h2.cmd rfl]

theorem afterLearning_restore (s : State) : s.afterLearning.aon.bank = s.aon.bank ∧ s.afterLearning.nrg.restore = s.nrg.restore := by
  unfold afterLearning
  split
  · exact ⟨rfl, rfl⟩
  · obtain ⟨-, hb, hr⟩ := same_of_restoreView (learnStep_facts s).1
    obtain ⟨hb', hr'⟩ := learnMove_restore s
    exact ⟨hb.trans hb', hr.trans hr'⟩

/-- Neither the discharge nor the host's actions move the AON bank or take a restore that waits. -/
theorem beforeRestore_restore (s : State) : s.beforeRestore.aon.bank = s.aon.bank ∧ s.beforeRestore.nrg.restore = s.nrg.restore := by
  obtain ⟨-, hb, hr⟩ := same_of_restoreView (beforeRestore_view s)
  obtain ⟨hb', hr'⟩ := afterLearning_restore s
  exact ⟨hb.trans hb', hr.trans hr'⟩

/-- A commit flips the bank and leaves the discharge (R295). -/
theorem restoreCommit_view {mask : BitVec 16} (h : s.nrg.restore = some mask) : s.restoreCommit.restoreView =
    { s.restoreView with bank := s.spareBank, restore := none, rstResult := 1 } := by
  unfold restoreCommit
  rw [h]
  have hv := restoreView_forN (f := fun k t => if mask.getLsbD k && (s.str k).present && (s.strCfg k).configured then t.restoreStr (s.spareRec k) k else t)
    (fun k t => restoreView_ite (by simp) rfl) 16 s
  exact congrArg (fun v => { v with bank := s.spareBank, restore := none, rstResult := 1 }) hv

theorem commitDue_commits {mask : BitVec 16} (h : s.nrg.restore = some mask) (ha : s.cmd.abortPend = false) : s.commitDue.restoreView =
    { s.restoreView with bank := s.spareBank, restore := none, rstResult := 1 } := by
  have e : s.commitDue = s.restoreCommit.cmdEnd 2 := if_pos (by simp [h, ha])
  rw [e, restoreView_cmdEnd, restoreCommit_view h]

theorem commitDue_waits (h : s.nrg.restore = none ∨ s.cmd.abortPend = true) : s.commitDue = s :=
  if_neg (by rcases h with h | h <;> simp [h])

theorem commitDue_learnSt (s : State) : s.commitDue.aon.learnSt = s.aon.learnSt := by
  by_cases ha : s.cmd.abortPend = true
  · rw [commitDue_waits (.inr ha)]
  cases hr : s.nrg.restore with
  | none => rw [commitDue_waits (.inl hr)]
  | some mask => exact (restoreView_fields (commitDue_commits hr (Bool.eq_false_of_not_eq_true ha))).1

theorem energyTurn_standby (h : s.pair.standby = true) : s.energyTurn.aon.learnSt = s.aon.learnSt := by
  have e : s.afterLearning = s := if_pos h
  have hv := beforeRestore_view s
  rw [e] at hv
  calc s.energyTurn.aon.learnSt = s.beforeRestore.commitDue.aon.learnSt := (same_of_restoreView (energyTurn_view s)).1
    _ = s.beforeRestore.aon.learnSt := commitDue_learnSt _
    _ = s.aon.learnSt := (same_of_restoreView hv).1

theorem energyTurn_commits {mask : BitVec 16} (h : s.nrg.restore = some mask) (ha : s.cmd.abortPend = false) :
    s.energyTurn.aon.bank = s.spareBank ∧ s.energyTurn.nrg.restore = none ∧ s.energyTurn.nrg.rstResult = 1 := by
  obtain ⟨hb, hr⟩ := beforeRestore_restore s
  have hbank : s.beforeRestore.spareBank = s.spareBank := congrArg (1 - ·) hb
  have ha' : s.beforeRestore.cmd.abortPend = false := by rw [beforeRestore_cmd, ha]
  obtain ⟨-, hbank', hnone, hres⟩ := restoreView_fields ((energyTurn_view s).trans (commitDue_commits (hr.trans h) ha'))
  exact ⟨hbank'.trans hbank, hnone, hres⟩

theorem energyTurn_waits (h : s.nrg.restore = none ∨ s.cmd.abortPend = true) :
    s.energyTurn.aon.bank = s.aon.bank ∧ s.energyTurn.nrg.restore = s.nrg.restore := by
  obtain ⟨hb, hr⟩ := beforeRestore_restore s
  have hv := energyTurn_view s
  rw [commitDue_waits (by rwa [hr, beforeRestore_cmd])] at hv
  obtain ⟨-, hb', hr'⟩ := same_of_restoreView hv
  exact ⟨hb'.trans hb, hr'.trans hr⟩

/-! ### A string's energy (R276, R287) -/

theorem str_mdStr (k : Fin 16) (f : Str → Str) (s : State) : (s.mdStr k f).str k = f (s.str k) := rd_md_self _ _ _ k.isLt

theorem str_mdStr_ne {j k : Nat} (h : j ≠ k) (f : Str → Str) (s : State) : (s.mdStr j f).str k = s.str k := rd_md_ne _ _ _ _ h

/-- The count SoC of a charge between nothing and the capacity. -/
theorem socCount_clipped (q : Int) {c : Nat} (hc : c ≠ 0) : socCount (min (max q 0) c) c = (min (max q 0) (c : Int)).toNat * 65536 / c := by
  have h0 : 0 ≤ min (max q 0) (c : Int) := by omega
  have hle : (min (max q 0) (c : Int)).toNat ≤ c := by omega
  rw [socCount, if_neg hc, max_eq_left h0, min_eq_right]
  exact Nat.div_le_of_le_mul (Nat.mul_le_mul_right _ hle)

theorem strEnergy_figures (k : Fin 16) (s : State) (hp : (s.str k).present = true) (hc : (s.str k).c ≠ 0) :
    let x := s.str k
    let f := ktAt (s.strCurve k) x.t * (s.strCfg k).eta * (if x.conf then (s.strCfg k).conf else 1000)
    let qc := min (max x.q 0) x.c
    let sc := (qc.toNat * 65536) / x.c
    let sv := socOf (s.strCurve k) x.t (meanF (rd s.nrg.c k).oc8)
    let e := fun (q : Int) (soc : Nat) => (((q * avlAt (s.strCurve k) soc x.t).tdiv 1000000 * f).tdiv 1000000000).toNat
    let y := (s.strEnergy k).str k
    y.eCnt = e qc sc ∧ y.eVolt = e ((sv * x.c / 65536 : Nat) : Int) sv ∧ y.eStr = min y.eCnt y.eVolt := by
  intro x f qc sc sv e y
  have hsc : socCount qc x.c = sc := socCount_clipped x.q hc
  have hqv : divZ ((sv : Int) * x.c) 65536 = ((sv * x.c / 65536 : Nat) : Int) := by
    rw [← Nat.cast_mul]
    exact (Int.ofNat_tdiv _ _).symm
  have hy : y = { x with eCnt := e qc (socCount qc x.c), eVolt := e (divZ ((sv : Int) * x.c) 65536) sv, eStr := min (e qc (socCount qc x.c)) (e (divZ ((sv : Int) * x.c) 65536) sv), sV := sv } :=
    (congrArg (State.str · k) (if_neg (by simp [hp, hc]))).trans (str_mdStr k _ s)
  rw [hy, hsc, hqv]
  exact ⟨rfl, rfl, rfl⟩

theorem countsIn_mdStr_inSum (j k : Nat) (b : Bool) (s : State) : (s.mdStr j (fun x => { x with inSum := b })).countsIn k = s.countsIn k := by
  have hp : ((s.mdStr j (fun x => { x with inSum := b })).str k).present = (s.str k).present := rd_md_keeps Str.present (by exact fun _ => rfl) s.aon.strs j k
  have hs : ((s.mdStr j (fun x => { x with inSum := b })).str k).sense = (s.str k).sense := rd_md_keeps Str.sense (by exact fun _ => rfl) s.aon.strs j k
  unfold countsIn
  dsimp only
  rw [hp, hs]
  rfl

theorem judgeStrings_inSum {k : Nat} (hk : k < 16) (s : State) : (s.judgeStrings.str k).inSum = s.judgeStrings.countsIn k := by
  have hmark : ∀ t : State, ((t.mdStr k (fun x => { x with inSum := t.countsIn k })).str k).inSum = t.countsIn k :=
    fun t => congrArg Str.inSum (str_mdStr ⟨k, hk⟩ _ t)
  exact forL_at (A := fun _ => True) (B := fun t => (t.str k).inSum = t.countsIn k) List.nodup_range (List.mem_range.mpr hk) (fun _ _ _ _ => trivial)
    (fun t _ => (hmark t).trans (countsIn_mdStr_inSum k k _ t).symm)
    (fun j hj t ht => by rw [countsIn_mdStr_inSum, str_mdStr_ne hj, ht]) trivial

theorem judgeStrings_nrg (s : State) : s.judgeStrings.nrg = s.nrg := by
  unfold judgeStrings
  exact (Agree.forN (fun k _ => agree_mdStr rfl k _ _) (Agree.forN (fun k _ => agree_strEnergy rfl k _) (.refl 4 s))).nrg rfl

theorem setPot_ePot (p : Option Nat) (s : State) : (s.setPot p).nrg.ePot =
    (match p with | none => (s.setPot p).nrg.eSum | some v => min v (s.setPot p).nrg.eSum * s.nrg.num / s.nrg.den) := by
  cases p <;> rfl

theorem ePotUpdate_figures (p : Option Nat) (s : State) :
    (s.ePotUpdate p).nrg.eSum = sumN 16 (fun k => if (s.ePotUpdate p).countsIn k then ((s.ePotUpdate p).str k).eStr else 0)
    ∧ (s.ePotUpdate p).nrg.ePot = (match p with | none => (s.ePotUpdate p).nrg.eSum | some v => min v (s.ePotUpdate p).nrg.eSum * s.nrg.num / s.nrg.den) := by
  have hc : ∀ (u : State) k, (u.setPot p).countsIn k = u.countsIn k ∧ (u.setPot p).str k = u.str k := fun _ _ => ⟨rfl, rfl⟩
  have hs : ∀ u : State, (u.setPot p).nrg.eSum = sumN 16 (fun k => if (u.str k).inSum then (u.str k).eStr else 0) := fun _ => rfl
  rw [ePotUpdate_eq]
  refine ⟨?_, ?_⟩
  · rw [hs]
    exact sumN_congr fun k hk => by rw [(hc _ k).1, (hc _ k).2, judgeStrings_inSum hk]
  · rw [setPot_ePot, judgeStrings_nrg]

/-! ### NRG.LEARN and NRG.CTRL (R281, R282, R291) -/

/-- The word of a START names its string and asks for no abort. -/
theorem startWord_fields : ∀ k : Fin 16, bitsOf (word [(0, 4, k.val), bf 4 true]) 3 0 = k ∧ (word [(0, 4, k.val), bf 4 true]).getLsbD 4 = true
    ∧ (word [(0, 4, k.val), bf 4 true]).getLsbD 5 = false := by decide

theorem abortWord_fields : ∀ k : Fin 16, (word [(0, 4, k.val), bf 5 true]).getLsbD 4 = false ∧ (word [(0, 4, k.val), bf 5 true]).getLsbD 5 = true := by decide

theorem nrgLearn_start (k : Fin 16) (s : State) : s.nrgLearn (word [(0, 4, k.val), bf 4 true]) = s.learnStart k s.potP := by
  obtain ⟨hk, h4, h5⟩ := startWord_fields k
  simp only [nrgLearn, hk, h4, h5, when, if_true, Bool.false_eq_true, if_false]

/-- An abort written while a discharge is in progress keeps its string. -/
theorem nrgLearn_abort (k : Fin 16) (hl : s.aon.learnSt = 1 ∨ s.aon.learnSt = 2) : s.nrgLearn (word [(0, 4, k.val), bf 5 true]) = s.learnAbort := by
  obtain ⟨h4, h5⟩ := abortWord_fields k
  have hrun : (1 ≤ s.aon.learnSt && s.aon.learnSt ≤ 3) = true := by rcases hl with h | h <;> simp [h]
  simp only [nrgLearn, h4, h5, hrun, when, if_true, Bool.false_eq_true, if_false]

theorem abortIf_holder {c : Bool} (hc : c = true) (h : s.pair.standby = false) : s.abortIf c = { s with nrg := { s.nrg with learnAbort := true } } :=
  if_pos (by simp [hc, h])

theorem learnAbort_running (h : s.pair.standby = false) (hl : s.aon.learnSt = 1 ∨ s.aon.learnSt = 2) :
    s.learnAbort = { s with nrg := { s.nrg with learnAbort := true } } := abortIf_holder (by simpa using hl) h

theorem learnTimeout_expired (h : s.pair.standby = false) (hl : s.aon.learnSt = 1 ∨ s.aon.learnSt = 2)
    (ht : 86400 ≤ (s.aon.opSec + 2 ^ 32 - s.aon.learnAt % 2 ^ 32) % 2 ^ 32) : s.learnTimeout = { s with nrg := { s.nrg with learnAbort := true } } :=
  abortIf_holder (Bool.and_eq_true_iff.mpr ⟨by simpa using hl, decide_eq_true ht⟩) h

theorem learnStart_standby (h : s.pair.standby = true) (k : Nat) (p : Option Nat) : s.learnStart k p = s := if_pos (by simp [h])

/-- A START is judged by a controller that is no standby while no discharge is in progress. -/
theorem start_judged (h : s.pair.standby = false) (hl : s.aon.learnSt ∉ [1, 2, 3]) : ¬(s.pair.standby || (1 ≤ s.aon.learnSt && s.aon.learnSt ≤ 3)) = true := by
  simp only [List.mem_cons, List.not_mem_nil, or_false, not_or] at hl
  simp only [h, Bool.false_or, Bool.and_eq_true, decide_eq_true_eq]
  omega

theorem learnStart_refused (h : s.pair.standby = false) (hl : s.aon.learnSt ∉ [1, 2, 3]) {k : Nat} (p : Option Nat)
    (hr : (s.str k).sense = true ∨ s.inState [.ready, .service] = false) :
    s.learnStart k p = ({ s with aon := { s.aon with learnStr := k, learnSt := 6 } } : State).setEvt 5 6 :=
  (if_neg (start_judged h hl)).trans (if_neg (by rcases hr with h | h <;> simp [h]))

/-- E_pot without the string `k` (R281). -/
def ePotWithout (k : Nat) (s : State) : Nat :=
  let eSum := s.nrg.eSum - (if (s.str k).inSum then (s.str k).eStr else 0)
  match s.potP with | some v => min v eSum * s.nrg.num / s.nrg.den | none => eSum

/-- What START requires of a string (R281). -/
structure MayLearn (k : Nat) (s : State) : Prop where
  state : s.inState [.ready, .service] = true
  configured : (s.strCfg k).configured = true
  present : (s.str k).present = true
  iso : (s.strCfg k).isoSlot < 64
  load : (s.strCfg k).loadSlot < 64
  sense : (s.str k).sense = false
  short : s.stake.v.short = false
  covers : s.sumU ≤ s.bTotalOf s.stake.v.bwV (s.ePotWithout k)

theorem learnStart_accepted (h : s.pair.standby = false) (hl : s.aon.learnSt ∉ [1, 2, 3]) {k : Nat} (hm : MayLearn k s) :
    s.learnStart k s.potP = { s.mdAon (fun a => { a with learnStr := k, learnSt := 1, learnRes := 0, learnAt := s.aon.opSec, learnHold := false }) with
      nrg := { s.nrg with learnGo := (s.str k).full, learnAbort := false } } := by
  obtain ⟨hst, hcfg, hpres, hiso, hload, hsense, hshort, hcov⟩ := hm
  refine (if_neg (start_judged h hl)).trans (if_pos ?_)
  simp only [hst, hcfg, hpres, hiso, hload, hsense, hshort, decide_true, Bool.not_false, Bool.and_true, Bool.true_and, decide_eq_true_eq]
  exact hcov

theorem agree_learnStart_accepted (h : s.pair.standby = false) (hl : s.aon.learnSt ∉ [1, 2, 3]) {k : Nat} (hm : MayLearn k s) :
    Agree 0x20004 s (s.learnStart k s.potP) := by
  rw [learnStart_accepted h hl hm]
  exact .upd_nrg _ rfl (agree_mdAon rfl _ s (.refl _ s))

theorem setCtrl_ctrlBit {b : Nat} (hb : b < 13) (mask : Nat) (w : Word) (i : Nat) : (s.setCtrl b mask w).ctrlBit b i = (w &&& nword mask).getLsbD i := by
  rw [ctrlBit, setCtrl, rd_wr_self _ _ _ hb]

/-- A write that asks for the latch sets LATCH and takes the other bits as written. -/
theorem nrgCtrl_latch (w : Word) (s : State) : (s.nrgCtrl (w ||| 1#32)).ctrlBit 5 0 = true
    ∧ ∀ b ∈ [1, 2, 3, 4], (s.nrgCtrl (w ||| 1#32)).ctrlBit 5 b = w.getLsbD b := by
  unfold nrgCtrl
  refine ⟨?_, fun b hb => ?_⟩
  · rw [setCtrl_ctrlBit (by decide)]
    simp [nword]
  · rw [setCtrl_ctrlBit (by decide)]
    simp only [List.mem_cons, List.not_mem_nil, or_false] at hb
    rcases hb with rfl | rfl | rfl | rfl <;> simp [nword]

/-! ### ESTIMATOR_RESTORE (R293, R295) -/

theorem cmdRestore_accepted (hs : s.standbyOk 8 = true) (hr : s.bankCopy.restoreCheck = 0) : s.cmdRestore =
    { s.bankCopy.mdCmd (fun _ => { code := 8, state := 1 }) with
      nrg := { s.nrg with restore := some (BitVec.ofNat 16 (bitsOf s.nrg.rstArg 15 0)) } } :=
  (if_neg (by simp [hs])).trans (if_neg (by simp [hr]))

theorem agree_cmdRestore_accepted (hs : s.standbyOk 8 = true) (hr : s.bankCopy.restoreCheck = 0) : Agree 0x20804 s s.cmdRestore := by
  rw [cmdRestore_accepted hs hr]
  exact .upd_nrg _ rfl (agree_mdCmd rfl _ _ (agree_bankCopy rfl s (.refl _ s)))

theorem cmdRestore_rejected (hs : s.standbyOk 8 = true) (hr : s.bankCopy.restoreCheck ≠ 0) : s.cmdRestore =
    ((({ s with nrg := { s.nrg with rstResult := s.bankCopy.restoreCheck } } : State).setEvt 5 8).restoreRejected).mdCmd (fun _ => { code := 8, state := 5 }) :=
  (if_neg (by simp [hs])).trans (if_pos hr)

theorem restoreRejected_evt {b i : Nat} (h : s.evtBit b i = true) : s.restoreRejected.evtBit b i = true :=
  forL_keeps (P := fun t => t.evtBit b i = true) (fun _ t ht => count_evtBit_mono _ _ _ t ht) _ h

theorem restoreRejected_nrg (s : State) : s.restoreRejected.nrg = s.nrg := (agree_restoreRejected rfl s (.refl 0x4100 s)).nrg rfl

end
end State

open State

/-- Settles O34, clause by clause. -/
theorem stringHostCommands : Obligations.StringHostCommands := by
  refine ⟨fun k s hf => does_rpWrite rfl hf ⟨rfl, rfl, (agree_candWrite rfl _ _ _ (agree_rpData rfl 0 s (.refl 0x21000 s))).sameBut rfl⟩,
    fun k s hf => does_rpWrite rfl hf ⟨rfl, rfl, (agree_candWrite rfl _ _ _ (agree_rpData rfl 0 s (.refl 0x21000 s))).sameBut rfl⟩,
    fun k s hf hb hl hst hcfg hpres hiso hload hsense hshort hcov => does_rpWrite rfl hf ?_, fun k s hf hb => does_rpWrite rfl hf ?_,
    fun k s hf hb hl hr => does_rpWrite rfl hf ?_, fun k s hf hb hl => does_rpWrite rfl hf ?_,
    fun s hc hb hl _ ht => ⟨_, exec_on hc, learnTimeout_expired hb hl ht⟩, fun w s hf => does_rpWrite rfl hf ?_,
    fun s hf hs hr => does_rpWrite rfl hf ?_, fun s hf hs hr => does_rpWrite rfl hf ?_, fun k s hp hc => strEnergy_figures k s hp hc,
    fun p s => ePotUpdate_figures p s, fun s hn hl hb => learnStep_aborts hn hl hb, fun s hn hg hl => learnStep_anchored hn hg hl,
    fun s hn hg => learnStep_idle hn hg, fun s hb => energyTurn_standby hb, fun mask s hr ha => energyTurn_commits hr ha, fun s h => energyTurn_waits h⟩
  · have hm : MayLearn k (s.rpData 0) := ⟨hst, hcfg, hpres, hiso, hload, hsense, hshort, hcov⟩
    have hsb : Agree 0x21004 s ((s.rpData 0).learnStart k (s.rpData 0).potP) :=
      (agree_learnStart_accepted (s := s.rpData 0) hb hl hm).step rfl (agree_rpData rfl 0 s (.refl _ s))
    rw [nrgLearn_start]
    refine ⟨?_, hsb.sameBut rfl⟩
    rw [learnStart_accepted (s := s.rpData 0) hb hl hm]
    rfl
  · rw [nrgLearn_start, learnStart_standby (s := s.rpData 0) hb]
    exact (agree_rpData rfl 0 s (.refl 0x1000 s)).sameBut rfl
  · rw [nrgLearn_start, learnStart_refused (s := s.rpData 0) hb hl _ hr]
    exact ⟨rfl, setEvt_evtBit _ 5 6 (by decide) (by decide),
      (agree_setEvt rfl 5 6 _ (.upd_aon _ rfl (agree_rpData rfl 0 s (.refl 0x1104 s)))).sameBut rfl⟩
  · rw [nrgLearn_abort (s := s.rpData 0) k hl, learnAbort_running (s := s.rpData 0) hb hl]
    exact ⟨rfl, (Agree.upd_nrg _ rfl (agree_rpData rfl 0 s (.refl 0x21000 s))).sameBut rfl⟩
  · obtain ⟨h0, hbits⟩ := nrgCtrl_latch w (s.rpData 0)
    exact ⟨h0, hbits, (agree_nrgCtrl rfl _ _ (agree_rpData rfl 0 s (.refl 0x1200 s))).sameBut rfl⟩
  · have hr' : (s.rpData 0).bankCopy.restoreCheck = 0 := hr
    have hsb : Agree 0x21804 s (s.rpData 0).cmdRestore :=
      (agree_cmdRestore_accepted (s := s.rpData 0) hs hr').step rfl (agree_rpData rfl 0 s (.refl _ s))
    rw [cmdRestore_accepted (s := s.rpData 0) hs hr'] at hsb ⊢
    exact ⟨rfl, rfl, rfl, hsb.sameBut rfl⟩
  · have hr' : (s.rpData 0).bankCopy.restoreCheck ≠ 0 := hr
    rw [cmdRestore_rejected (s := s.rpData 0) hs hr']
    refine ⟨rfl, (restoreRejected_nrg _).trans rfl, restoreRejected_evt (setEvt_evtBit _ 5 8 (by decide) (by decide)), ?_⟩
    exact (agree_mdCmd rfl _ _ (agree_restoreRejected rfl _ (agree_setEvt rfl 5 8 _ (.upd_nrg _ rfl (agree_rpData rfl 0 s (.refl 0x25900 s)))))).sameBut rfl

end Sys2Proof.Machine
end

section
/-! PROOFS. A scan that finds a stuck slot below off (R304, R312, R380): the slot is stuck no more, so its sub-source of RAIL_STUCK ends too. -/
set_option Elab.async false

namespace Sys2Proof.Machine
open State

/-- Fall, with slot 63 stuck, its sub-source of RAIL_STUCK live and its sense below V_OFF in the scan before (R304, R312). -/
def stuckInFall : State :=
  { State.reset with
    top := { state := .fall }, pins := { rails := tall 6 true }, pair := { drv := true }
    bimg := { img := { slots := wr (tall 64 {}) 63 { cls := 1, vOff := 100 } }, running := true }
    seq := { slots := wr (tall 64 {}) 63 { st := 6, stuck := true, belowRun := 1 } }, flt := { subs := [{ src := 124, sub := 63 }] } }

/-- Refutes O35, in its clause on the scan: a scan that finds a stuck slot below off ends its sub-source of RAIL_STUCK, so the fault island does not stay as it was. -/
theorem not_sequencerTicksAndSlots : ¬ Obligations.SequencerTicksAndSlots := by
  unfold Obligations.SequencerTicksAndSlots
  rintro ⟨-, -, -, -, -, -, -, scan⟩
  have hc : stuckInFall.ctlOn = true := by decide +kernel
  obtain ⟨t, ht, -, same, -⟩ := scan [] stuckInFall hc
  obtain rfl : stuckInFall.vsScan [] = t := Host.Outcome.next.inj ((exec_on hc).symm.trans ht)
  have hflt : (stuckInFall.vsScan []).flt = stuckInFall.flt := same .flt (by decide)
  have hlive : stuckInFall.subLive 124 63 = true := by decide +kernel
  have hends : (stuckInFall.vsScan []).subLive 124 63 = false := by decide +kernel
  exact absurd (hends.symm.trans ((subLive_congr hflt 124 63).trans hlive)) Bool.false_ne_true

end Sys2Proof.Machine
end

section
/-! PROOFS. SVC_RETRY and a string isolation slot (R309, R313, R317): no sequence connects a string, so a retry leaves the slot out of its rise. -/
set_option Elab.async false

namespace Sys2Proof.Machine
open State

/-- Service, with slot 63 a string isolation slot that failed in Service and whose string the estimator has disconnected since (R280, R317). -/
def isolationFallenInService : State :=
  { State.reset with
    top := { state := .service }, pins := { rails := tall 6 true }, pair := { drv := true }
    bimg := { img := { slots := wr (tall 64 {}) 63 { cls := 1, role := 5, run := true } }, running := true }
    seq := { slots := wr (tall 64 {}) 63 { st := 7, svcDown := true } } }

/-- Refutes O37, in its clause on SVC_RETRY: a fallen isolation slot does not wait for its dependencies but stays off, in no rise. -/
theorem not_sequencerHostCommands : ¬ Obligations.SequencerHostCommands := by
  unfold Obligations.SequencerHostCommands
  rintro ⟨-, retry, -⟩
  have hf : PortFree isolationFallenInService := ⟨by decide +kernel, by decide +kernel⟩
  obtain ⟨t, ht, hst, -⟩ := retry 0 63 isolationFallenInService hf (by decide +kernel) (by decide +kernel) (by decide +kernel) (by decide +kernel) (by decide +kernel)
  obtain rfl : seqCtrl (0 ||| 0x20#32) (isolationFallenInService.rpData 0) = t :=
    Host.Outcome.next.inj ((congrArg Host.Outcome.next (rpWrite_portFree hf 0x040000 _)).symm.trans ht)
  have hoff : ((seqCtrl (0 ||| 0x20#32) (isolationFallenInService.rpData 0)).slot (63 : Fin 64)).st = 1 := by decide +kernel
  exact absurd (hoff.symm.trans hst) (by decide)

end Sys2Proof.Machine
end

section
/-! PROOFS. Event bits are set and not cleared by what happens (R457): `EvtKept` says that every bit that read 1 still does. -/
set_option Elab.async false

namespace Sys2Proof.Machine
namespace State

/-- Every event bit set in `s` is set in `t`. -/
def EvtKept (s t : State) : Prop := ∀ b i, s.evtBit b i = true → t.evtBit b i = true

namespace EvtKept
variable {s t u : State}

theorem refl (s : State) : EvtKept s s := fun _ _ h => h

theorem trans (h : EvtKept s t) (k : EvtKept t u) : EvtKept s u := fun b i hb => k b i (h b i hb)

theorem of_evt (h : t.evt = s.evt) : EvtKept s t := fun b i hb => (evtBit_congr h b i).trans hb

theorem setEvt {b : Nat} (hb : b < 13) (i : Nat) (h : EvtKept s t) : EvtKept s (t.setEvt b i) := fun c k hc => setEvt_evtBit_mono t b i c k hb (h c k hc)

theorem ite {c : Prop} [Decidable c] (h : EvtKept s t) (k : EvtKept s u) : EvtKept s (if c then t else u) := by
  split
  · exact h
  · exact k

theorem forL {α : Type} {f : α → State → State} (hf : ∀ x t, EvtKept t (f x t)) (l : List α) (h : EvtKept s t) : EvtKept s (forL l f t) :=
  forL_keeps (P := EvtKept s) (fun x u hu => hu.trans (hf x u)) l h

end EvtKept

theorem evtKept_cmdEnd (n : Nat) (s : State) : EvtKept s (s.cmdEnd n) := .ite (.setEvt (by decide) 0 (.of_evt rfl)) (.refl s)

theorem evtKept_legFailed (s : State) : EvtKept s s.legFailed := by
  unfold legFailed
  split
  · exact .of_evt rfl
  split
  · exact (EvtKept.setEvt (by decide) 5 (.of_evt (t := s.mdPair _) rfl)).trans (evtKept_cmdEnd 3 _)
  · exact .refl s

end State
end Sys2Proof.Machine
end

section
/-! PROOFS. What trips, drill legs, key exchanges and a frame's content leave of the pair (R343, R346, R350, R351): a state's `tokenView` is who holds the token, how
the partner is heard, the takeovers told and counted, and EPOCH. A claim, a loss and a handover alone move it. -/
set_option Elab.async false

namespace Sys2Proof.Machine

/-- The token, the channels to the partner, what PAIR shows of takeovers, and EPOCH. -/
structure TokenView where
  drv : Bool
  standby : Bool
  armed : Bool
  hbOk : Bool
  plUp : Bool
  tkoKind : Nat
  takeovers : Nat
  handovers : Nat
  epoch : Nat

namespace State

def tokenView (s : State) : TokenView :=
  ⟨s.pair.drv, s.pair.standby, s.pair.armed, s.pair.hbOk, s.pair.plUp, s.pair.tkoKind, s.pair.takeovers, s.pair.handovers, s.aon.epoch⟩

section
variable {s t : State}

/-- What changes neither AON nor the pair keeps the view. -/
theorem tokenView_of_agree (h : Agree 0x5FFFFFB s t) : t.tokenView = s.tokenView := by
  unfold tokenView
  rw [h.aon rfl, h.pair rfl]

theorem tokenView_ite {c : Prop} [Decidable c] {u : State} (ht : t.tokenView = s.tokenView) (hu : u.tokenView = s.tokenView) :
    (if c then t else u).tokenView = s.tokenView := by
  split
  · exact ht
  · exact hu

/-! ### Commands, the drill and the key exchange -/

theorem tokenView_cmdEnd (n : Nat) (s : State) : (s.cmdEnd n).tokenView = s.tokenView := tokenView_of_agree (agree_cmdEnd rfl n s (.refl _ s))

theorem tokenView_legFailed (s : State) : s.legFailed.tokenView = s.tokenView :=
  tokenView_ite rfl (tokenView_ite (tokenView_cmdEnd 3 _) rfl)

theorem tokenView_kxDrop (s : State) : s.kxDrop.tokenView = s.tokenView := tokenView_ite rfl rfl

theorem tokenView_keyDrop (s : State) : s.keyDrop.tokenView = s.tokenView := tokenView_ite rfl rfl

theorem tokenView_drillTake (f : Frame) (s : State) : (s.drillTake f).tokenView = s.tokenView := by
  unfold drillTake
  split
  · rfl
  · split
    · exact tokenView_ite (tokenView_cmdEnd 6 _) (tokenView_cmdEnd 2 _)
    · rfl

/-! ### A trip (R118, R208, R351) -/

theorem tokenView_drillTrip (own : Bool) (s : State) : (s.drillTrip own).tokenView = s.tokenView := by
  unfold drillTrip
  refine tokenView_ite rfl ?_
  extract_lets s1
  have h1 : s1.tokenView = s.tokenView := tokenView_ite (tokenView_cmdEnd 4 _) rfl
  exact tokenView_ite h1 h1

theorem tokenView_jobEnd (st res : Nat) (s : State) : (s.jobEnd st res).tokenView = s.tokenView := tokenView_of_agree (agree_jobEnd rfl st res s (.refl _ s))

theorem tokenView_jobsTrip (s : State) : s.jobsTrip.tokenView = s.tokenView := by
  unfold jobsTrip
  extract_lets s1 _ w1 s2 w2 s3 s4
  have h1 : s1.tokenView = s.tokenView :=
    tokenView_ite (tokenView_jobEnd ..) (tokenView_ite ((tokenView_jobEnd ..).trans (tokenView_of_agree (agree_fmtDrop rfl s (.refl _ s)))) rfl)
  have h2 : s2.tokenView = s.tokenView :=
    tokenView_ite ((tokenView_jobEnd ..).trans ((tokenView_keyDrop _).trans h1)) h1
  have h3 : s3.tokenView = s.tokenView := tokenView_ite (tokenView_ite h2 ((tokenView_cmdEnd ..).trans h2)) h2
  have h4 : s4.tokenView = s.tokenView := (tokenView_of_agree (.forL (fun z u => agree_confUnitsDone rfl z u) (.refl _ s3))).trans h3
  exact h4

theorem tokenView_learnTrip (s : State) : s.learnTrip.tokenView = s.tokenView := tokenView_ite rfl rfl

theorem tokenView_tripNoSave (r : Nat) (a : BitVec 8) (s : State) : (s.tripNoSave r a).tokenView = s.tokenView := by
  unfold tripNoSave
  extract_lets s1 _ s2 prim
  have h2 : s2.tokenView = s.tokenView := rfl
  exact tokenView_ite ((tokenView_of_agree (agree_count rfl _ _ _ s2 (.refl _ s2))).trans h2) rfl

theorem tokenView_enterSave (rank : Nat) (also : BitVec 8) (test cal : Bool) (s : State) : (s.enterSave rank also test cal).tokenView = s.tokenView := by
  unfold enterSave
  extract_lets own s0 s1 s2 s3 s4 s5 s6
  have h3 : s3.tokenView = s.tokenView := by
    refine tokenView_of_agree ?_
    have a0 : Agree 0x5FFFFFB s s0 := .ite (agree_retRecord rfl s (.refl _ s)) (.refl _ s)
    have a1 : Agree 0x5FFFFFB s s1 := .ite (agree_shortRec rfl true s0 a0) a0
    have a2 : Agree 0x5FFFFFB s s2 := agree_setEvt rfl 0 1 _ (agree_enter rfl .save _ (agree_saveBegin rfl rank also test cal s1 a1))
    exact .ite a2 (agree_saveProfileDown rfl s2 a2)
  have h4 : s4.tokenView = s.tokenView := by
    refine ((tokenView_of_agree (agree_retStop rfl _ (.refl _ _))).trans (tokenView_learnTrip _)).trans ((tokenView_of_agree (agree_stageTrip rfl _ ?_)).trans h3)
    exact .ite (agree_calIssue rfl _ (agree_marginCancel rfl s3 (.refl _ s3))) (agree_marginCancel rfl s3 (.refl _ s3))
  have h5 : s5.tokenView = s.tokenView := by
    refine (tokenView_of_agree (agree_clearForces rfl _ (agree_clearHold rfl _ (.refl _ _)))).trans ((tokenView_drillTrip own _).trans ?_)
    exact (tokenView_of_agree (agree_cmdTrip rfl cal _ (.refl _ _))).trans ((tokenView_jobsTrip s4).trans h4)
  have h6 : s6.tokenView = s.tokenView := (tokenView_of_agree (agree_pump rfl _ (.refl _ _))).trans h5
  exact tokenView_ite ((tokenView_of_agree (agree_promote rfl s6 (.refl _ s6))).trans h6) h6

/-! ### A frame taken over (R98, R151, R152, R266, R343) -/

theorem tokenView_driveShared (lv : BitVec 64) (s : State) : (s.driveShared lv).tokenView = s.tokenView := rfl

theorem tokenView_takeVault (f : Frame) (sleds : Option (Tab SledDev 4)) (s : State) : (s.takeVault f sleds).tokenView = s.tokenView :=
  tokenView_of_agree (agree_takeVault rfl f sleds s (.refl _ s))

/-- STAGE's part writes the governor's credit into AON, and not EPOCH. -/
theorem tokenView_takeStage (f : Frame) (s : State) : (s.takeStage f).tokenView = s.tokenView := by
  have hp : (s.takeStage f).pair = s.pair := (agree_takeStage rfl f s (.refl 6307972 s)).pair rfl
  have he : (s.takeStage f).aon.epoch = s.aon.epoch := by
    unfold takeStage
    extract_lets s1
    have h1 : s1.aon.epoch = s.aon.epoch := congrArg Aon.epoch ((Agree.forN (m := 0x200000) (fun p t => agree_mdPp rfl p _ t) (.refl _ s)).aon rfl)
    clear_value s1
    exact h1
  rw [tokenView, tokenView, hp, he]

theorem tokenView_takeFrame (f : Frame) (sleds : Option (Tab SledDev 4)) (s : State) : (s.takeFrame f sleds).tokenView = s.tokenView := by
  unfold takeFrame
  calc _ = (((s.driveShared f.shared).takeVault f sleds).takeStage f).tokenView :=
        tokenView_of_agree (agree_takeSeq' rfl f _ (agree_takeStakes rfl f _ (agree_takeGrant rfl f _ (.refl _ _))))
    _ = s.tokenView := (tokenView_takeStage f _).trans ((tokenView_takeVault f sleds _).trans (tokenView_driveShared f.shared s))

theorem tokenView_resume (f : Frame) (c : Ckpt) (s : State) : (s.resume f c).tokenView = s.tokenView := by
  unfold resume
  extract_lets lost s1 s1' s1'' s1''' s2 s3
  have h1 : s1'.tokenView = s.tokenView := by
    have h : s1.tokenView = s.tokenView := (tokenView_of_agree (agree_mdSave rfl _ _ (agree_assertFrz rfl s (.refl _ s))))
    exact h
  have h3 : Agree 0x5FFFFFB s1'' s3 :=
    .forN (fun r t => agree_mdRing rfl r _ t) (.forN (fun p t ht => .ite (agree_buildUnconf rfl p t ht) ht) (.forL (fun x t => agree_mdSled rfl x _ t) (.refl _ s1'')))
  exact (tokenView_of_agree (agree_askFrozen rfl _ (agree_sendReverts rfl f _ (agree_sendStakes rfl _ h3)))).trans h1

theorem tokenView_retrip (f : Frame) (s : State) : (s.retrip f).tokenView = s.tokenView := by
  unfold retrip
  extract_lets s1 s2
  have h1 : s1.tokenView = s.tokenView := (tokenView_enterSave ..).trans rfl
  refine tokenView_ite ?_ ?_
  · exact (tokenView_of_agree (agree_askFrozen rfl _ (agree_sendReverts rfl f _ (agree_sendStakes rfl _ (.refl _ s2))))).trans h1
  · exact (tokenView_of_agree (agree_sendReverts rfl f _ (agree_sendStakes rfl _ (agree_clearForces rfl _ (.refl _ _))))).trans (tokenView_tripNoSave 5 0 s)

theorem tokenView_hotTake (f : Frame) (frzLow : Bool) (sleds : Option (Tab SledDev 4)) (s : State) : (s.hotTake f frzLow sleds).tokenView = s.tokenView := by
  unfold hotTake
  extract_lets s1 s3 s2
  have h1 : s1.tokenView = s.tokenView := tokenView_takeFrame f sleds s
  clear_value s1
  unfold s2
  split
  · next c _ => exact (tokenView_resume f c s1).trans h1
  · refine tokenView_ite ((tokenView_retrip f s1).trans h1) ?_
    have h3 : s3.tokenView = s.tokenView := (tokenView_of_agree (agree_sendReverts rfl f _ (agree_sendStakes rfl _ (.refl _ s1)))).trans h1
    exact tokenView_ite ((tokenView_of_agree (agree_takeReturn rfl f s3 (.refl _ s3))).trans h3) h3

end
end State
end Sys2Proof.Machine
end

section
/-! PROOFS. The keeper, the partner's loss and TOKEN_N (R302, R330 to R332, R335, R336, R342). -/
set_option Elab.async false

namespace Sys2Proof.Machine
namespace State

/-- What a loss ends of a handover, a drill's leg and a key exchange (R336, R346, R351). -/
def partnerGone (s : State) : State :=
  if s.pair.hand = 1 then (s.legFailed.setEvt 9 4).dropPartner.pump else if s.pair.hand = 2 then s.dropPartner else s.legFailed.dropPartner

/-- A partner that is dropped arms a holder no more. -/
theorem tokenView_dropPartner (s : State) : s.dropPartner.tokenView = { s.tokenView with armed := if s.pair.drv then false else s.pair.armed } :=
  congrArg (fun v : TokenView => { v with armed := if v.drv then false else v.armed }) (tokenView_kxDrop s)

/-- The partner is gone: a holder is armed no more, and the channels' sources and the pins are as they were. -/
structure Dropped (s t : State) : Prop where
  view : t.tokenView = { s.tokenView with armed := if s.pair.drv then false else s.pair.armed }
  peer : t.pair.peer = false
  flt : t.flt = s.flt
  pins : t.pins = s.pins
  evt : EvtKept s t

theorem partnerGone_dropped (s : State) : Dropped s s.partnerGone := by
  have hdrop {u : State} (hv : u.tokenView = s.tokenView) (ha : Agree 0x2000900 s u) (he : EvtKept s u) : Dropped s u.dropPartner := by
    have hd : Agree 0x2000000 u u.dropPartner := agree_dropPartner rfl u (.refl _ u)
    have hv' := tokenView_dropPartner u
    exact ⟨hv'.trans (congrArg (fun v : TokenView => { v with armed := if v.drv then false else v.armed }) hv), rfl, (hd.flt rfl).trans (ha.flt rfl),
      (hd.pins rfl).trans (ha.pins rfl), he.trans (.of_evt (hd.evt rfl))⟩
  have hleg : Agree 0x2000900 s s.legFailed := agree_legFailed rfl s (.refl _ s)
  unfold partnerGone
  split
  · obtain ⟨hv, hpeer, hflt, hpins, hevt⟩ := hdrop (u := s.legFailed.setEvt 9 4) (tokenView_legFailed s) (agree_setEvt rfl 9 4 _ hleg) (.setEvt (by decide) 4 (evtKept_legFailed s))
    have hpump := agree_pump rfl _ (.refl 0x100001 (s.legFailed.setEvt 9 4).dropPartner)
    exact ⟨(tokenView_of_agree (hpump.mono rfl)).trans hv, (congrArg Pair.peer (hpump.pair rfl)).trans hpeer, (hpump.flt rfl).trans hflt, (hpump.pins rfl).trans hpins,
      hevt.trans (.of_evt (hpump.evt rfl))⟩
  split
  · exact hdrop rfl (.refl _ s) (.refl s)
  · exact hdrop (tokenView_legFailed s) hleg (evtKept_legFailed s)

/-- The loss as it is declared: both channels are silent. -/
def lossDeclared (s : State) : State :=
  (((s.arrive.mdPair (fun p => { p with hbOk := false, plUp := false })).follow 126 0xFFFF true).follow 127 0xFFFF true).setEvt 9 1

theorem lossDeclared_facts (s : State) : s.lossDeclared.tokenView = { s.tokenView with hbOk := false, plUp := false } ∧ s.lossDeclared.subLive 126 0xFFFF = true
    ∧ s.lossDeclared.subLive 127 0xFFFF = true ∧ s.lossDeclared.evtBit 9 1 = true ∧ s.lossDeclared.pins = s.pins := by
  have ha : Agree 0x2100 (s.arrive.mdPair (fun p => { p with hbOk := false, plUp := false })) s.lossDeclared :=
    agree_setEvt rfl 9 1 _ (agree_follow rfl 127 _ _ _ (agree_follow rfl 126 _ _ _ (.refl _ _)))
  refine ⟨(tokenView_of_agree (ha.mono rfl)).trans rfl, ?_, ?_, setEvt_evtBit _ 9 1 (by decide) (by decide), ha.pins rfl⟩
  · refine (subLive_congr rfl 126 0xFFFF).trans ((follow_other _ 127 0xFFFF true (by decide)).trans (follow_live ..))
  · exact (subLive_congr rfl 127 0xFFFF).trans (follow_live ..)

/-- A standby's claim after the loss: TOKEN_N is sampled first, and the home seat need not hold off (R332, R342). -/
def lossOccasion (s : State) : State :=
  if s.pair.standby then s.mdPair (fun p => { p with occ := .loss, ready := !s.pins.awaySeat, sampling := true, yielded := false, declL := s.clk.l }) else s

theorem partnerLoss_eq {s : State} (hc : s.ctlOn = true) (hp : s.paired = true) : s.partnerLoss = s.lossDeclared.partnerGone.lossOccasion :=
  if_neg (by simp [hc, hp])

theorem partnerLoss_facts {s : State} (hc : s.ctlOn = true) (hp : s.paired = true) :
    s.partnerLoss.tokenView = { s.tokenView with hbOk := false, plUp := false, armed := if s.pair.drv then false else s.pair.armed }
    ∧ s.partnerLoss.pair.peer = false ∧ s.partnerLoss.subLive 126 0xFFFF = true ∧ s.partnerLoss.subLive 127 0xFFFF = true ∧ s.partnerLoss.evtBit 9 1 = true
    ∧ (s.pair.standby = true → s.partnerLoss.pair.occ = .loss ∧ s.partnerLoss.pair.sampling = true ∧ s.partnerLoss.pair.ready = !s.pins.awaySeat) := by
  obtain ⟨hv, h126, h127, hevt, hpins⟩ := lossDeclared_facts s
  obtain ⟨hv', hpeer, hflt, hpins', hkept⟩ := partnerGone_dropped s.lossDeclared
  rw [partnerLoss_eq hc hp]
  have hdrv : s.lossDeclared.pair.drv = s.pair.drv := congrArg TokenView.drv hv
  have harm : s.lossDeclared.pair.armed = s.pair.armed := congrArg TokenView.armed hv
  rw [hdrv, harm, hv] at hv'
  have h1 := (subLive_congr hflt 126 0xFFFF).trans h126
  have h2 := (subLive_congr hflt 127 0xFFFF).trans h127
  have h3 := hkept 9 1 hevt
  have hst : s.lossDeclared.partnerGone.pair.standby = s.pair.standby := congrArg TokenView.standby hv'
  have hpin : s.lossDeclared.partnerGone.pins = s.pins := hpins'.trans hpins
  clear hkept hflt hpins' hpins h126 h127 hv hdrv harm hevt
  generalize s.lossDeclared.partnerGone = t at *
  unfold lossOccasion
  rw [hst, hpin]
  split
  · exact ⟨hv', hpeer, h1, h2, h3, fun _ => ⟨rfl, rfl, rfl⟩⟩
  · next hn => exact ⟨hv', hpeer, h1, h2, h3, fun h => absurd h hn⟩

/-- A line that read low throughout the sampling cuts the standby off (R342). -/
theorem lossSampleEnd_low {s : State} (hb : s.pair.standby = true) (hs : s.pair.sampling = true) : ∃ u : State,
    s.lossSampleEnd true = u.count 0x61 0 0 ∧ u.pins = { s.pins with tokenLow := true } ∧ u.aon = { s.aon with rel := s.aon.rel ||| s.aon.shared }
    ∧ u.pair = { s.pair with sampling := false, cutOff := true, armed := false, armedFrames := 0, complete := false, baseOn := false, occ := .cutOff, ready := !s.pins.awaySeat }
    ∧ u.evtBit 9 2 = true :=
  ⟨_, (if_neg (by simp [hb, hs])).trans (if_pos rfl), rfl, rfl, rfl, setEvt_evtBit _ 9 2 (by decide) (by decide)⟩

theorem hbEdge_on {s : State} (hc : s.ctlOn = true) : s.hbEdge = (s.mdPair (fun p => { p with hbOk := true })).follow 126 0xFFFF false := if_pos hc

theorem channelSilent_on {s : State} (hb : Bool) (hc : s.ctlOn = true) : s.channelSilent hb =
    if hb then (s.mdPair (fun p => { p with hbOk := false })).follow 126 0xFFFF s.paired else (s.mdPair (fun p => { p with plUp := false })).follow 127 0xFFFF s.paired :=
  if_neg (by simp [hc])

/-- What moves one channel's mark and its sub-source touches no more. -/
theorem follow_mdPair_facts (f : Pair → Pair) (src : Nat) (c : Bool) (s : State) : ((s.mdPair f).follow src 0xFFFF c).pair = f s.pair
    ∧ ((s.mdPair f).follow src 0xFFFF c).subLive src 0xFFFF = c ∧ SameBut [.flt, .pair] s ((s.mdPair f).follow src 0xFFFF c) :=
  ⟨follow_pair .., follow_live .., (agree_follow rfl src _ c _ (agree_mdPair rfl f s (.refl 0x2002000 s))).sameBut rfl⟩

end State

open State

/-- Settles O38, clause by clause. -/
theorem pairTokenAndLoss : Obligations.PairTokenAndLoss := by
  refine ⟨fun s => ⟨_, rfl, rfl⟩, fun s => ⟨_, rfl, rfl⟩, fun s hc hp => ⟨_, exec_on hc, ?_⟩, fun s hc hb hs => ⟨_, exec_on hc, ?_⟩,
    fun s hc hb hs => ⟨_, exec_on hc, (if_neg (by simp [hb, hs])).trans (if_neg (by decide))⟩, fun s hc ho hd => ⟨_, exec_on hc, if_pos (by simp [ho, hd])⟩,
    fun s hc => ⟨_, rfl, ?_⟩, fun s hc => ⟨_, rfl, ?_⟩, fun s hc => ⟨_, rfl, ?_⟩⟩
  · obtain ⟨hv, hpeer, h126, h127, hevt, hocc⟩ := partnerLoss_facts hc hp
    have harm : s.partnerLoss.pair.armed = if s.pair.drv then false else s.pair.armed := congrArg TokenView.armed hv
    refine ⟨congrArg TokenView.hbOk hv, congrArg TokenView.plUp hv, h126, h127, hevt, congrArg TokenView.drv hv, hpeer, fun hd => harm.trans (by rw [hd]; rfl), fun hb => ?_⟩
    obtain ⟨ho, hsamp, hready⟩ := hocc hb
    exact ⟨ho, hsamp, hready, fun hd => harm.trans (by rw [hd]; rfl)⟩
  · obtain ⟨u, he, hpins, haon, hpair, hevt⟩ := lossSampleEnd_low hb hs
    have hsb : SameBut [.pins, .aon, .evt, .ledg, .pair] s (s.lossSampleEnd true) := (agree_lossSampleEnd rfl true s (.refl 0x2004106 s)).sameBut rfl
    rw [he] at hsb ⊢
    rw [count_pair, count_pins, count_aon, hpair, hpins, haon]
    exact ⟨rfl, rfl, rfl, rfl, rfl, count_evtBit_mono _ _ _ u hevt, rfl, rfl, hsb⟩
  · rw [hbEdge_on hc]
    exact follow_mdPair_facts _ 126 false s
  · rw [channelSilent_on true hc]
    exact follow_mdPair_facts _ 126 s.paired s
  · rw [channelSilent_on false hc]
    exact follow_mdPair_facts _ 127 s.paired s

end Sys2Proof.Machine
end

section
/-! PROOFS. Claims of the token (R302, R332, R334, R343, R344, R346): what each occasion makes of the holder, and the cold takeover's stakes. -/
set_option Elab.async false

namespace Sys2Proof.Machine
namespace State

section
variable {s t : State}

/-! ### The claim -/

/-- A holder whose EPOCH has counted on, and which PAIR shows by a takeover of a kind. -/
def tookOver (kind : Nat) (s : State) : TokenView :=
  { s.tokenView with drv := true, standby := false, tkoKind := kind, epoch := (s.aon.epoch + 1) % 65536 }

theorem tokenView_claimBase (kind : Nat) (s : State) : (s.claimBase kind).tokenView = s.tookOver kind :=
  (tokenView_of_agree (agree_count rfl 0x60 kind _ _ (.refl _ _))).trans rfl

/-- A claim may be made: the control island runs, nothing holds the claim back, and the token is the partner's or nobody's. -/
structure MayClaim (s : State) : Prop where
  on : s.ctlOn = true
  ready : s.pair.ready = true
  drv : s.pair.drv = false

theorem tokenClaim_idle (frz : Bool) (sleds : Option (Tab SledDev 4)) (h : s.pair.ready = false ∨ s.pair.drv = true) : s.tokenClaim frz sleds = s :=
  if_pos (by rcases h with h | h <;> simp [h])

/-- The hot takeover at a claim after a loss, which leaves this controller alone (R343). -/
def hotClaimed (f : Frame) (frz : Bool) (sleds : Option (Tab SledDev 4)) (s : State) : State :=
  (((((s.arrive.claimBase 1).hotTake f frz sleds).solo).mdPair (fun p => { p with takeovers := satAdd 0xFFFF p.takeovers 1, dueSet := false })).mdAon
    (fun a => { a with drillAge := 0 })).setEvt 9 0

/-- The cold takeover: the levels of the SHARED EN_nn are the frame's where there is one (R344). -/
def coldClaimed (s : State) : State :=
  ((match s.pair.frame with | some x => (s.arrive.claimBase 2).driveShared x.shared | none => s.arrive.claimBase 2).coldTake.mdPair
    (fun p => { p with takeovers := satAdd 0xFFFF p.takeovers 1 })).setEvt 9 0

/-- The taker of a planned handover (R346, R350). -/
def plannedClaimed (f : Frame) (frz : Bool) (sleds : Option (Tab SledDev 4)) (s : State) : State :=
  ((((s.arrive.claimBase 3).hotTake f frz sleds).keepPeer).drillTake f).setEvt 9 4

section
variable (hm : MayClaim s) (frz : Bool) (sleds : Option (Tab SledDev 4))
include hm

theorem MayClaim.not_idle : ¬(!s.ctlOn || !s.pair.ready || s.pair.drv) = true := by simp [hm.on, hm.ready, hm.drv]

theorem tokenClaim_boot (ho : s.pair.occ = .boot) : s.tokenClaim frz sleds = s.arrive.claimed := by
  have ho' : s.arrive.pair.occ = .boot := ho
  refine (if_neg hm.not_idle).trans ?_
  dsimp only
  rw [ho']

theorem tokenClaim_planned {f : Frame} (ho : s.pair.occ = .planned) (hf : s.pair.frame = some f) : s.tokenClaim frz sleds = s.plannedClaimed f frz sleds := by
  have ho' : s.arrive.pair.occ = .planned := ho
  have hf' : s.arrive.pair.frame = some f := hf
  refine (if_neg hm.not_idle).trans ?_
  dsimp only
  rw [ho', hf']
  rfl

theorem tokenClaim_hot {f : Frame} (ho : s.pair.occ ∈ [.loss, .yield, .cutOff]) (ha : s.pair.armed = true) (hf : s.pair.frame = some f) :
    s.tokenClaim frz sleds = s.hotClaimed f frz sleds := by
  have ha' : s.arrive.pair.armed = true := ha
  have hf' : s.arrive.pair.frame = some f := hf
  refine (if_neg hm.not_idle).trans ?_
  dsimp only
  simp only [List.mem_cons, List.not_mem_nil, or_false] at ho
  rcases ho with ho | ho | ho
  all_goals
    rw [show s.arrive.pair.occ = _ from ho, ha', hf']
    rfl

theorem tokenClaim_cold (ho : s.pair.occ ∈ [.loss, .yield, .cutOff]) (hn : s.pair.armed = false ∨ s.pair.frame = none) :
    s.tokenClaim frz sleds = s.coldClaimed := by
  have hf' : s.arrive.pair.frame = s.pair.frame := rfl
  have ha' : s.arrive.pair.armed = s.pair.armed := rfl
  refine (if_neg hm.not_idle).trans ?_
  dsimp only
  simp only [List.mem_cons, List.not_mem_nil, or_false] at ho
  unfold coldClaimed
  rcases ho with ho | ho | ho
  all_goals
    rw [show s.arrive.pair.occ = _ from ho, hf', ha']
    clear hf' ha'
    generalize s.pair.frame = o at hn ⊢
    generalize s.pair.armed = b at hn ⊢
    rcases hn with rfl | rfl
    · cases o <;> rfl
    · cases b <;> rfl

end

/-! ### Hot and planned -/

theorem drillTake_peer (f : Frame) (s : State) : (s.drillTake f).pair.peer = s.pair.peer := by
  have he : ∀ (n : Nat) (t : State), (t.cmdEnd n).pair = t.pair := fun n t => (agree_cmdEnd rfl n t (.refl 0x900 t)).pair rfl
  unfold drillTake
  dsimp only
  split
  · rfl
  · split
    · split <;> rw [he] <;> rfl
    · rfl

theorem hotClaimed_facts (f : Frame) (frz : Bool) (sleds : Option (Tab SledDev 4)) (s : State) :
    (s.hotClaimed f frz sleds).tokenView = { s.tookOver 1 with takeovers := satAdd 0xFFFF s.pair.takeovers 1, armed := false }
    ∧ (s.hotClaimed f frz sleds).pair.peer = false ∧ (s.hotClaimed f frz sleds).aon.drillAge = 0 ∧ (s.hotClaimed f frz sleds).evtBit 9 0 = true := by
  have h : ((s.arrive.claimBase 1).hotTake f frz sleds).tokenView = s.tookOver 1 := (tokenView_hotTake f frz sleds _).trans (tokenView_claimBase 1 s.arrive)
  unfold hotClaimed
  generalize (s.arrive.claimBase 1).hotTake f frz sleds = u at h ⊢
  exact ⟨congrArg (fun v : TokenView => { v with takeovers := satAdd 0xFFFF v.takeovers 1, armed := false }) h, rfl, rfl, setEvt_evtBit _ 9 0 (by decide) (by decide)⟩

theorem plannedClaimed_facts (f : Frame) (frz : Bool) (sleds : Option (Tab SledDev 4)) (s : State) :
    (s.plannedClaimed f frz sleds).tokenView = { s.tookOver 3 with handovers := satAdd 0xFFFF s.pair.handovers 1, armed := false }
    ∧ (s.plannedClaimed f frz sleds).pair.peer = true ∧ (s.plannedClaimed f frz sleds).evtBit 9 4 = true := by
  have h : ((s.arrive.claimBase 3).hotTake f frz sleds).tokenView = s.tookOver 3 := (tokenView_hotTake f frz sleds _).trans (tokenView_claimBase 3 s.arrive)
  unfold plannedClaimed
  generalize (s.arrive.claimBase 3).hotTake f frz sleds = u at h ⊢
  have hk : u.keepPeer.tokenView = { s.tookOver 3 with handovers := satAdd 0xFFFF s.pair.handovers 1, armed := false } :=
    congrArg (fun v : TokenView => { v with handovers := satAdd 0xFFFF v.handovers 1, armed := false }) h
  have hp : (u.keepPeer.drillTake f).pair.peer = u.keepPeer.pair.peer := drillTake_peer f _
  exact ⟨(tokenView_drillTake f _).trans hk, hp, setEvt_evtBit _ 9 4 (by decide) (by decide)⟩

/-! ### Cold -/

/-- The stakes a cold takeover leaves: FRZ_N low, every port at 0 and not eligible (R344). -/
structure NoStakes (s : State) : Prop where
  frz : s.top.frz = 0xFF#8
  figures : ∀ p : Fin 64, (s.stk p).s = 0 ∧ (s.stk p).k = 0 ∧ (s.stk p).cov = 0
  elig : ∀ p : Fin 64, (s.stkQ p).elig = false

/-- The cold takeover before the ports are told. -/
def stakesZeroed (s : State) : State :=
  let s1 := s.assertFrz.mdStake (fun v => { v with ports := tmap (fun x => { x with s := 0, k := 0, cov := 0 }) v.ports, frozen := false })
  let s2 := { s1 with stake := { s1.stake with q := tmap (fun (x : StkQ) => { x with elig := false }) s1.stake.q } }
  match s.pair.frame with
  | some f => { s2 with ledg := { s2.ledg with tko := true, peerRseq := f.rseq } }
  | none => s2

theorem coldTake_eq (s : State) : s.coldTake = (s.stakesZeroed.sendStakes.solo.mdPair (fun p => { p with coldDue := true })).setEvt 9 8 := rfl

theorem stakesZeroed_cases {P : State → Prop}
    (h : ∀ l : Ledg, P { s with
      top := { s.top with frz := 0xFF }, ledg := l
      stake := { s.stake with v := { s.stake.v with ports := tmap (fun x => { x with s := 0, k := 0, cov := 0 }) s.stake.v.ports, frozen := false }
                              q := tmap (fun (x : StkQ) => { x with elig := false }) s.stake.q } }) : P s.stakesZeroed := by
  unfold stakesZeroed
  dsimp only
  split <;> exact h _

theorem stakesZeroed_noStakes (s : State) : NoStakes s.stakesZeroed :=
  stakesZeroed_cases fun _ => ⟨rfl, fun p => by
      have h := rd_tmap (fun x : StkP => { x with s := 0, k := 0, cov := 0 }) s.stake.v.ports p p.isLt
      exact ⟨congrArg StkP.s h, congrArg StkP.k h, congrArg StkP.cov h⟩,
    fun p => congrArg StkQ.elig (rd_tmap (fun x : StkQ => { x with elig := false }) s.stake.q p p.isLt)⟩

theorem tokenView_stakesZeroed (s : State) : s.stakesZeroed.tokenView = s.tokenView :=
  stakesZeroed_cases (P := fun u => u.tokenView = s.tokenView) fun _ => rfl

/-- STAKE to a port marks what is due, and leaves who is eligible. -/
theorem stakeTo_elig (q : Nat) (t : State) (p : Nat) : ((t.stakeTo q).stkQ p).elig = (t.stkQ p).elig := by
  unfold stakeTo
  split
  · rfl
  · have hs := agree_send rfl q (.stake (t.stakeMsg q)) _ (.refl 0x40000 (t.mdStkQ q (fun x => { x with due := (t.stkQ q).elig })))
    exact (congrArg (fun k : Stake => (rd k.q p).elig) (hs.stake rfl)).trans (rd_md_keeps StkQ.elig (f := fun x => { x with due := (t.stkQ q).elig }) (fun _ => rfl) t.stake.q q p)

theorem sendStakes_elig (s : State) (p : Nat) : (s.sendStakes.stkQ p).elig = (s.stkQ p).elig := by
  rw [sendStakes_eq]
  exact forL_keeps (P := fun u => (u.stkQ p).elig = (s.stkQ p).elig) (fun q u hu => (stakeTo_elig q u p).trans hu) _ rfl

theorem NoStakes.congr (h : NoStakes s) (ht : t.top = s.top) (hv : t.stake = s.stake) : NoStakes t := by
  obtain ⟨hz, hf, he⟩ := h
  exact ⟨(congrArg Top.frz ht).trans hz, by simpa only [stk, hv] using hf, by simpa only [stkQ, hv] using he⟩

theorem NoStakes.sendStakes (h : NoStakes s) : NoStakes s.sendStakes :=
  ⟨(congrArg Top.frz ((agree_sendStakes rfl s (.refl 0xc0000 s)).top rfl)).trans h.frz, fun p => by simpa only [stk, sendStakes_v] using h.figures p,
    fun p => (sendStakes_elig s p).trans (h.elig p)⟩

theorem coldTake_noStakes (s : State) : NoStakes s.coldTake := by
  have h := (stakesZeroed_noStakes s).sendStakes
  rw [coldTake_eq]
  generalize s.stakesZeroed.sendStakes = u at h ⊢
  exact h.congr rfl rfl

theorem tokenView_sendStakes (s : State) : s.sendStakes.tokenView = s.tokenView := tokenView_of_agree (agree_sendStakes rfl s (.refl _ s))

theorem tokenView_coldTake (s : State) : s.coldTake.tokenView = { s.tokenView with armed := false } := by
  have h := (tokenView_sendStakes s.stakesZeroed).trans (tokenView_stakesZeroed s)
  rw [coldTake_eq]
  generalize s.stakesZeroed.sendStakes = u at h ⊢
  exact congrArg (fun v : TokenView => { v with armed := false }) h

theorem tokenView_coldClaimed (s : State) :
    s.coldClaimed.tokenView = { s.tookOver 2 with takeovers := satAdd 0xFFFF s.pair.takeovers 1, armed := false } := by
  have h : ∀ u : State, u.tokenView = s.tookOver 2 → u.coldTake.tokenView = { s.tookOver 2 with armed := false } := fun u hu =>
    (tokenView_coldTake u).trans (congrArg (fun v : TokenView => { v with armed := false }) hu)
  have hb : (s.arrive.claimBase 2).tokenView = s.tookOver 2 := tokenView_claimBase 2 s.arrive
  have hd : (match s.pair.frame with | some x => (s.arrive.claimBase 2).driveShared x.shared | none => s.arrive.claimBase 2).tokenView = s.tookOver 2 := by
    split
    · exact (tokenView_driveShared _ _).trans hb
    · exact hb
  have hc := h _ hd
  unfold coldClaimed
  generalize State.coldTake _ = u at hc ⊢
  exact congrArg (fun v : TokenView => { v with takeovers := satAdd 0xFFFF v.takeovers 1 }) hc

theorem coldTake_facts (s : State) : s.coldTake.pair.peer = false ∧ s.coldTake.pair.coldDue = true ∧ s.coldTake.evtBit 9 8 = true ∧ NoStakes s.coldTake := by
  refine ⟨?_, ?_, ?_, coldTake_noStakes s⟩ <;> rw [coldTake_eq] <;> generalize s.stakesZeroed.sendStakes = u
  · rfl
  · rfl
  · exact setEvt_evtBit _ 9 8 (by decide) (by decide)

theorem coldClaimed_facts (s : State) :
    s.coldClaimed.pair.peer = false ∧ s.coldClaimed.pair.coldDue = true ∧ s.coldClaimed.evtBit 9 0 = true ∧ s.coldClaimed.evtBit 9 8 = true ∧ NoStakes s.coldClaimed := by
  unfold coldClaimed
  obtain ⟨hp, hb, h8, hz⟩ := coldTake_facts (match s.pair.frame with | some x => (s.arrive.claimBase 2).driveShared x.shared | none => s.arrive.claimBase 2)
  generalize State.coldTake _ = u at hp hb h8 hz ⊢
  exact ⟨hp, hb, setEvt_evtBit _ 9 0 (by decide) (by decide), setEvt_evtBit_mono _ 9 0 9 8 (by decide) h8, hz.congr rfl rfl⟩

/-! ### The first claim of a Boot -/

theorem claimed_aon (s : State) : s.claimed.aon = (let m := s.aon.rel &&& s.aon.shared
    { s.aon with epoch := (s.aon.epoch + 1) % 65536, en := (s.aon.en &&& ~~~m) ||| (s.pulls &&& m), rel := s.aon.rel &&& ~~~m }) := rfl

/-! ### The ring settles -/

theorem ringSettled_settles (hs : s.saving = true) (ht : s.save.settle = true) : s.ringSettled = s.mdSave (fun v => { v with
    settle := false, w0 := if v.resumed then some s.sinceTrip else v.w0.map (fun w => max w s.sinceTrip), phase := if v.phase = 1 && v.resumed then 2 else v.phase }) :=
  if_neg (by simp [hs, ht])

end
end State

/-- Settles O39, occasion by occasion. -/
theorem tokenClaims : Obligations.TokenClaims := by
  refine ⟨fun frz sleds s h => ⟨_, rfl, State.tokenClaim_idle frz sleds h⟩, fun frz sleds s hc hr hd ho => ⟨_, rfl, ?_⟩,
    fun frz sleds s hc hr hd ho ha hf => ⟨_, rfl, ?_⟩, fun frz sleds s hc hr hd ho hn => ⟨_, rfl, ?_⟩, fun frz sleds s hc hr hd ho hf => ⟨_, rfl, ?_⟩,
    fun s hc hs ht => ⟨s.ringSettled, exec_on hc, ?_⟩⟩
  · beta_reduce
    rw [State.tokenClaim_boot ⟨hc, hr, hd⟩ frz sleds ho]
    exact ⟨rfl, rfl, rfl, rfl, rfl, State.claimed_aon s.arrive, rfl, (State.agree_claimed rfl _ (State.agree_arrive rfl s (.refl 0x2000007 s))).sameBut rfl⟩
  · obtain ⟨f, hf⟩ := Option.isSome_iff_exists.mp hf
    rw [State.tokenClaim_hot ⟨hc, hr, hd⟩ frz sleds ho ha hf]
    obtain ⟨hv, hp, hl, he⟩ := State.hotClaimed_facts f frz sleds s
    exact ⟨congrArg TokenView.drv hv, congrArg TokenView.standby hv, hp, congrArg TokenView.tkoKind hv, congrArg TokenView.takeovers hv, he, congrArg TokenView.epoch hv, hl⟩
  · beta_reduce
    rw [State.tokenClaim_cold ⟨hc, hr, hd⟩ frz sleds ho hn]
    have hv := State.tokenView_coldClaimed s
    obtain ⟨hp, hb, h0, h8, hz⟩ := State.coldClaimed_facts s
    generalize s.coldClaimed = t at hv hp hb h0 h8 hz
    refine ⟨congrArg TokenView.drv hv, congrArg TokenView.standby hv, hp, congrArg TokenView.tkoKind hv, hb, congrArg TokenView.takeovers hv, h0, h8,
      congrArg TokenView.epoch hv, hz.frz, fun p => ?_⟩
    obtain ⟨z1, z2, z3⟩ := hz.figures p
    exact ⟨z1, z2, z3, hz.elig p⟩
  · obtain ⟨f, hf⟩ := Option.isSome_iff_exists.mp hf
    rw [State.tokenClaim_planned ⟨hc, hr, hd⟩ frz sleds ho hf]
    obtain ⟨hv, hp, he⟩ := State.plannedClaimed_facts f frz sleds s
    exact ⟨congrArg TokenView.drv hv, congrArg TokenView.standby hv, hp, congrArg TokenView.tkoKind hv, congrArg TokenView.handovers hv, he, congrArg TokenView.epoch hv⟩
  · rw [State.ringSettled_settles hs ht]
    exact ⟨rfl, fun hr => by simp [State.mdSave, hr], (State.agree_mdSave rfl _ s (.refl 0x400000 s)).sameBut rfl⟩

end Sys2Proof.Machine
end

section
/-! PROOFS. What a lost sled, islands that follow their rails and a snapshot set and never clear: event bits, other sources, and a lost sled's class (R319, R457). -/
set_option Elab.async false

namespace Sys2Proof.Machine
namespace State

section
variable {s t : State}

/-! ### Event bits -/

theorem EvtKept.of_agree (h : Agree 0x7FFFEFF s t) : EvtKept s t := .of_evt (h.evt rfl)

theorem evtKept_scanEnd (s : State) : EvtKept s s.scanEnd := by
  unfold scanEnd
  exact .ite (.ite (.of_evt rfl) (.setEvt (by decide) 2 (.of_evt rfl))) (.refl s)

theorem evtKept_flashDown (x : Nat) (s : State) : EvtKept s (s.flashDown x) := by
  unfold flashDown
  refine (EvtKept.trans ?_ (evtKept_scanEnd _)).trans (EvtKept.forL (fun k t => .of_agree ?_) _ (.refl _))
  · exact .of_agree (agree_mdSled rfl _ _ _ (agree_sledQuiet rfl x true s (.refl _ s)))
  · exact agree_unraise rfl _ _ _ (agree_mdRing rfl _ _ _ (.refl _ t))

theorem evtKept_islandsFollow (was s : State) : EvtKept s (islandsFollow was s) := by
  unfold islandsFollow
  refine (EvtKept.forL (fun i t => .ite (.of_agree ?_) (.refl t)) _ (.refl s)).trans (.forL (fun x t => .ite ?_ (.refl t)) _ (.refl _))
  · exact agree_portsReset rfl _ t (.refl _ t)
  · exact (evtKept_flashDown x t).trans (.of_agree (agree_mdSled rfl _ _ _ (.refl _ _)))

theorem evtKept_drainLost (x : Nat) (s : State) : EvtKept s (s.drainLost x) := by
  have h : EvtKept s (s.rjobEnd 4 0) := by
    unfold rjobEnd
    extract_lets bg s1
    have h1 : EvtKept s s1 := .setEvt (by decide) 1 (.of_evt rfl)
    exact .ite h1 (h1.trans (evtKept_cmdEnd 3 s1))
  exact .ite h (.refl s)

theorem evtKept_degrade (s : State) : EvtKept s s.degrade := .setEvt (by decide) 2 (.of_evt rfl)

theorem evtKept_sledLoss (x c : Nat) (s : State) : EvtKept s (s.sledLoss x c) := by
  unfold sledLoss
  extract_lets d member s1 s2 s3 s4
  have h1 : EvtKept s s1 := ((EvtKept.of_agree (agree_sledQuiet rfl x false s (.refl _ s))).trans (evtKept_drainLost x _)).trans
    (.of_agree (agree_mdSled rfl _ _ _ (.refl _ _)))
  clear_value s1
  have h2 : EvtKept s s2 := (h1.trans (.ite (.of_agree (agree_mdVault rfl _ s1 (.refl _ s1))) (.refl s1))).trans (evtKept_scanEnd _)
  clear_value s2
  have h3 : EvtKept s s3 := h2.setEvt (by decide) 0
  clear_value s3
  have h4 : EvtKept s s4 := (h3.trans (.of_agree (agree_raise rfl (74 + x) 0xFFFF none s3 (.refl _ s3)))).trans (evtKept_degrade _)
  clear_value s4
  exact .ite h3 (.ite (h4.trans (.of_evt rfl)) (h4.trans (.of_agree (agree_advanceEpoch rfl s4 (.refl _ s4)))))

/-! ### Sources of rails -/

/-- A slot's sub-source of a source above the sleds' and the links' is as it was. -/
def RailSubsKept (s t : State) : Prop := ∀ a b, 82 ≤ a → b < 64 → t.subLive a b = s.subLive a b

namespace RailSubsKept
variable {u : State}

theorem refl (s : State) : RailSubsKept s s := fun _ _ _ _ => rfl

theorem trans (h : RailSubsKept s t) (k : RailSubsKept t u) : RailSubsKept s u := fun a b ha hb => (k a b ha hb).trans (h a b ha hb)

theorem of_agree (h : Agree 0x7FFDFFF s t) : RailSubsKept s t := fun a b _ _ => subLive_congr (h.flt rfl) a b

theorem ite {c : Prop} [Decidable c] (h : RailSubsKept s t) (k : RailSubsKept s u) : RailSubsKept s (if c then t else u) := by
  split
  · exact h
  · exact k

theorem forL_mem {α : Type} {f : α → State → State} {l : List α} (hf : ∀ x ∈ l, ∀ t, RailSubsKept t (f x t)) (s : State) : RailSubsKept s (forL l f s) :=
  forL_keeps_mem (P := RailSubsKept s) (fun x hx u hu => hu.trans (hf x hx u)) (.refl s)

theorem unraise {a b : Nat} (ha : a < 82) (s : State) : RailSubsKept s (s.unraise a b) := fun _ _ hc _ => unraise_other s _ _ (by omega)

theorem raise {a b : Nat} (hb : 64 ≤ b) (l : Option Nat) (s : State) : RailSubsKept s (s.raise a b l) := fun _ _ _ hc => raise_other s _ _ l (by omega)

theorem follow {a b : Nat} (ha : a < 82) (c : Bool) (s : State) : RailSubsKept s (s.follow a b c) := fun _ _ hc _ => follow_other s _ _ c (by omega)

end RailSubsKept

theorem railSubsKept_linkLost {p : Nat} (hp : p < 64) (s : State) : RailSubsKept s (s.linkLost p) := .follow (by omega) _ s

theorem railSubsKept_portsReset {l : List Nat} (hl : ∀ p ∈ l, p < 64) (s : State) : RailSubsKept s (s.portsReset l) := by
  have hd : RailSubsKept s (s.portsDown l) := .forL_mem (fun p hp t => by
    have h1 : RailSubsKept t (t.toDown p false) := (RailSubsKept.of_agree (agree_mdLk rfl p _ t (.refl _ t))).trans (railSubsKept_linkLost (hl p hp) _)
    exact h1.trans (.of_agree (agree_retLinkDown rfl p _ (agree_cancelCopies rfl p _ (.refl _ _))))) s
  exact hd.trans (.forL_mem (fun p hp t => (RailSubsKept.of_agree (agree_mdLk rfl p _ t (.refl _ t))).trans (railSubsKept_linkLost (hl p hp) _)) _)

theorem railSubsKept_flashDown {x : Nat} (hx : x < 4) (s : State) : RailSubsKept s (s.flashDown x) := by
  unfold flashDown
  refine (RailSubsKept.of_agree ?_).trans (.forL_mem (fun k hk t => ?_) _)
  · exact agree_scanEnd rfl _ (agree_mdSled rfl _ _ _ (agree_sledQuiet rfl x true s (.refl _ s)))
  · exact (RailSubsKept.of_agree (agree_mdRing rfl _ _ t (.refl _ t))).trans (.unraise (by omega) _)

theorem railSubsKept_islandsFollow (was s : State) : RailSubsKept s (islandsFollow was s) := by
  unfold islandsFollow
  refine (RailSubsKept.forL_mem (fun i hi t => .ite (railSubsKept_portsReset (fun p hp => ?_) t) (.refl t)) s).trans
    (.forL_mem (fun x hx t => .ite ?_ (.refl t)) _)
  · obtain ⟨j, hj, rfl⟩ := List.mem_map.mp hp
    have := List.mem_range.mp hi
    have := List.mem_range.mp hj
    omega
  · exact (railSubsKept_flashDown (List.mem_range.mp hx) t).trans (.of_agree (agree_mdSled rfl _ _ _ (.refl _ _)))

theorem railSubsKept_sledLoss (x c : Nat) (s : State) : RailSubsKept s (s.sledLoss x c) := by
  unfold sledLoss
  extract_lets d member s1 s2 s3 s4
  have h1 : Agree 0x700901 s s1 := agree_mdSled rfl _ _ _ (agree_drainLost rfl x _ (agree_sledQuiet rfl x false s (.refl _ s)))
  have h3 : RailSubsKept s s3 := .of_agree ((agree_setEvt rfl _ _ _ (agree_scanEnd rfl _ (.ite (agree_mdVault rfl _ _ h1) h1))).mono rfl)
  have h4 : RailSubsKept s s4 := h3.trans ((RailSubsKept.raise (by decide) none s3).trans (.of_agree (agree_degrade rfl _ (.refl _ _))))
  clear_value s4 s3
  exact .ite h3 (.ite (h4.trans fun a b _ _ => subLive_congr rfl a b) (h4.trans (.of_agree (agree_advanceEpoch rfl s4 (.refl _ s4)))))

/-! ### A lost sled's class -/

/-- The class a sled stands in. -/
def sledCls (x : Nat) (s : State) : Nat := (s.sled x).cls

theorem sledCls_forL {α : Type} {f : α → State → State} (x : Nat) (hf : ∀ a t, (f a t).sledCls x = t.sledCls x) (l : List α) (s : State) :
    (forL l f s).sledCls x = s.sledCls x :=
  forL_keeps (P := fun t => t.sledCls x = s.sledCls x) (fun a t ht => (hf a t).trans ht) l rfl

theorem sledCls_forN (x : Nat) {f : Nat → State → State} (hf : ∀ a t, (f a t).sledCls x = t.sledCls x) (n : Nat) (s : State) :
    (forN n f s).sledCls x = s.sledCls x :=
  sledCls_forL x hf (List.range n) s

theorem sledCls_of_agree (x : Nat) (h : Agree 0x7EFFFFF s t) : t.sledCls x = s.sledCls x := congrArg (fun v : Vault => (rd v.sleds x).cls) (h.vault rfl)

theorem sledCls_mdSled {f : Sled → Sled} (hf : ∀ d, (f d).cls = d.cls) (y x : Nat) (s : State) : (s.mdSled y f).sledCls x = s.sledCls x :=
  rd_md_keeps Sled.cls hf s.vault.sleds y x

theorem sledCls_mdSled_self {x : Nat} (hx : x < 4) (f : Sled → Sled) (s : State) : (s.mdSled x f).sledCls x = (f (s.sled x)).cls :=
  congrArg Sled.cls (rd_md_self s.vault.sleds x f hx)

theorem sledCls_unitLost (x : Nat) (u : Option FUnit) (w : Why) (s : State) : (s.unitLost u w).sledCls x = s.sledCls x :=
  congrArg JobView.cls (jobView_unitLost u w s)

theorem sledCls_descAgain (x : Nat) (c : Bool) (r : Nat) (d : Desc) (s : State) : (s.descAgain c r d).sledCls x = s.sledCls x := by
  unfold descAgain
  extract_lets own
  split
  · split
    · rfl
    · exact sledCls_unitLost ..
  · unfold fmtAgain
    split <;> rfl

theorem sledCls_sledQuiet (x y : Nat) (stays : Bool) (s : State) : (s.sledQuiet y stays).sledCls x = s.sledCls x := by
  unfold sledQuiet
  extract_lets s1 out
  have h1 : s1.sledCls x = s.sledCls x := sledCls_forN x (fun c t => by
    refine (sledCls_forL x (fun d u => ?_) _ _).trans ?_
    · split
      · exact sledCls_descAgain ..
      · exact sledCls_unitLost ..
    · rfl) 8 s
  clear_value s1
  exact (sledCls_forL x (fun j t => sledCls_unitLost ..) _ _).trans h1

theorem sledCls_islandOff (x y : Nat) (s : State) : (s.islandOff y).sledCls x = s.sledCls x := by
  have h : (s.flashDown y).sledCls x = s.sledCls x := by
    unfold flashDown
    extract_lets s1
    have h1 : s1.sledCls x = s.sledCls x :=
      ((sledCls_of_agree x (agree_scanEnd rfl _ (.refl _ _))).trans (sledCls_mdSled (f := fun d => { d with up := false, mapDone := false, scanDone := false }) (fun _ => rfl) y x _)).trans
        (sledCls_sledQuiet x y true s)
    clear_value s1
    refine (sledCls_forN x (fun k t => ?_) 8 s1).trans h1
    refine (sledCls_of_agree x (agree_unraise rfl (78 + y) k _ (.refl _ _))).trans ?_
    rfl
  exact (sledCls_mdSled (f := fun d => { d with pwr := false }) (fun _ => rfl) y x (s.flashDown y)).trans h

theorem sledCls_islandsFollow (x : Nat) (was s : State) : (islandsFollow was s).sledCls x = s.sledCls x := by
  unfold islandsFollow
  refine (sledCls_forN x (fun y t => ?_) 4 _).trans (sledCls_forN x (fun i t => ?_) 8 s)
  · split
    · exact sledCls_islandOff x y t
    · rfl
  · split
    · exact sledCls_of_agree x (agree_portsReset rfl _ t (.refl _ t))
    · rfl

theorem sledCls_noSledLeft (x : Nat) (s : State) : s.noSledLeft.sledCls x = s.sledCls x := by
  unfold noSledLeft
  split
  · have hp : ∀ (l : List Nat) (u : State),
        (forL l (fun p t => if (t.sv p).pst ≤ 3 && !(t.sv p).ended then (t.endMove p).mdSv p (fun v => { v with incomplete := true }) else t) u).sledCls x = u.sledCls x :=
      fun l u => sledCls_forL x (fun p t => sledCls_of_agree x (.ite (agree_mdSv rfl _ _ _ (agree_endMove rfl p t (.refl _ t))) (.refl _ t))) l u
    have hd : ∀ u : State, (u.cutStripe.dropMoves false).sledCls x = u.sledCls x := fun u => by
      unfold dropMoves
      extract_lets out
      exact (sledCls_forL x (fun j t => sledCls_unitLost ..) _ _).trans rfl
    exact (hd _).trans (hp _ s)
  · rfl

/-- A lost sled stands in the class it is lost to, where that is not the members' (R172). -/
theorem sledCls_sledLoss {x c : Nat} (hx : x < 4) (hc : c ≠ 6) (s : State) : (s.sledLoss x c).sledCls x = c := by
  unfold sledLoss
  extract_lets d member s1 s2 s3 s4
  have h1 : s1.sledCls x = c := sledCls_mdSled_self hx _ _
  clear_value s1
  have h2 : s2.sledCls x = c := (sledCls_of_agree x (agree_scanEnd rfl _ (.refl _ _))).trans (by split <;> exact h1)
  clear_value s2
  have h3 : s3.sledCls x = c := h2
  have h4 : s4.sledCls x = c := (congrArg JobView.cls (jobView_degrade _)).trans ((sledCls_of_agree x (agree_raise rfl _ _ _ s3 (.refl _ s3))).trans h3)
  clear_value s4 s3
  split
  · exact h3
  split
  · exact h4
  · exact (congrArg JobView.cls (jobView_advanceEpoch (h4.trans_ne hc))).trans h4

end
end State
end Sys2Proof.Machine
end

section
/-! PROOFS. Failures of a rise, rests and supervision (R306, R312, R314 to R320, R328). A slot that failed stays failed through what its failure starts; `seqBare` is
the sequencer without its slots. -/
set_option Elab.async false

namespace Sys2Proof.Machine
namespace State

section
variable {s t : State} {n c : Nat}

/-! ### A failed slot -/

/-- Slot `n` stands failed, and the sequencer's last occurrence is that failure. -/
structure Failed (n c : Nat) (s : State) : Prop where
  lt : n < 64
  st : (s.slot n).st = 7
  cause : s.seq.lastCause = c
  last : s.seq.lastSlot = n

theorem Failed.congr (h : Failed n c s) (hs : t.seq.slots = s.seq.slots) (hc : t.seq.lastCause = s.seq.lastCause) (hl : t.seq.lastSlot = s.seq.lastSlot) : Failed n c t :=
  ⟨h.lt, (congrArg (fun v => (rd v n).st) hs).trans h.st, hc.trans h.cause, hl.trans h.last⟩

theorem Failed.of_seq (h : Failed n c s) (hs : t.seq = s.seq) : Failed n c t := h.congr (congrArg Seq.slots hs) (congrArg Seq.lastCause hs) (congrArg Seq.lastSlot hs)

theorem Failed.mdSlot {m : Nat} {f : Slot → Slot} (h : Failed n c s) (hf : m = n → (f (s.slot n)).st = 7) : Failed n c (s.mdSlot m f) := by
  refine ⟨h.lt, ?_, h.cause, h.last⟩
  by_cases e : m = n
  · subst e
    exact (congrArg Slot.st (rd_md_self s.seq.slots m f h.lt)).trans (hf rfl)
  · exact (congrArg Slot.st (rd_md_ne s.seq.slots m n f e)).trans h.st

theorem Failed.ite {p : Prop} [Decidable p] {u : State} (ht : Failed n c t) (hu : Failed n c u) : Failed n c (if p then t else u) := by
  split
  · exact ht
  · exact hu

theorem Failed.forN {k : Nat} {f : Nat → State → State} (hf : ∀ i u, Failed n c u → Failed n c (f i u)) (h : Failed n c s) : Failed n c (forN k f s) :=
  forL_keeps hf (List.range k) h

/-- Off, unless it drives its enable or has failed: what the end of a rise makes of a slot. -/
theorem failed_st_kept {b : Bool} {x : Slot} (h : x.st = 7) : (if b then x.st else if x.st = 7 then 7 else 1) = 7 := by
  simp [h]

theorem Failed.beginDown (h : Failed n c s) (kind : DownKind) (set : BitVec 64) : Failed n c (s.beginDown kind set) := by
  unfold State.beginDown
  extract_lets set s1
  have h1 : Failed n c s1 := .forN (fun i u hu => .ite (hu.mdSlot fun e => failed_st_kept hu.st) hu) h
  clear_value s1
  exact h1.congr rfl rfl rfl

theorem Failed.stopAll (h : Failed n c s) : Failed n c s.stopAll := by
  unfold State.stopAll
  extract_lets s1
  have h1 : Failed n c s1 := .forN (fun i u hu => .ite hu (hu.mdSlot fun e => failed_st_kept hu.st)) h
  clear_value s1
  exact h1.congr rfl rfl rfl

theorem Failed.stopRise (h : Failed n c s) (k : Nat) : Failed n c (s.stopRise k) := by
  unfold State.stopRise
  extract_lets s1
  have h1 : Failed n c s1 := .forN (fun i u hu => .ite (hu.mdSlot fun e => failed_st_kept hu.st) hu) h
  clear_value s1
  exact .ite (h1.congr rfl rfl rfl) h1

theorem Failed.endRise (h : Failed n c s) (k : Nat) : Failed n c (s.endRise k) := by
  unfold State.endRise
  extract_lets s1 more
  have h1 : Failed n c s1 := .forN (fun i u hu => .ite (hu.mdSlot fun e => hu.st) hu) h
  clear_value more s1
  exact .ite h (.ite (h1.congr rfl rfl rfl) (h1.congr rfl rfl rfl))

theorem Failed.leftRises (h : Failed n c s) (was : State) : Failed n c (State.leftRises was s) :=
  forL_keeps (fun k _ hu => .ite hu (hu.endRise k)) [1, 2, 3] h

theorem Failed.sledGroupFail (h : Failed n c s) (x : Nat) : Failed n c (s.sledGroupFail x) := by
  unfold State.sledGroupFail
  extract_lets t _ s1 set
  have h1 : Failed n c s1 := h.congr rfl rfl rfl
  exact (h1.beginDown _ set).leftRises s

theorem Failed.restoreFail (h : Failed n c s) : Failed n c s.restoreFail := (h.stopRise 2).beginDown _ _

theorem Failed.attemptFail (h : Failed n c s) : Failed n c s.attemptFail := by
  unfold State.attemptFail
  extract_lets _ s1 s2
  have h1 : Failed n c s1 := h.congr rfl rfl rfl
  exact h1.stopAll.beginDown _ _

theorem Failed.serviceFail (h : Failed n c s) (m : Nat) : Failed n c (s.serviceFail m) := by
  unfold State.serviceFail
  extract_lets all set s1
  have h1 : Failed n c s1 := .forN (fun i u hu => by
    split
    · exact hu.mdSlot fun _ => hu.st
    split
    · next hi =>
      refine hu.mdSlot fun e => absurd hu.st ?_
      subst e
      simp only [Bool.and_eq_true, decide_eq_true_eq] at hi
      rw [hi.2]
      decide
    · exact hu) h
  exact (h1.beginDown _ set).leftRises s

/-! ### A snapshot -/

/-- A snapshot writes what it is of, and nothing else of the sequencer but the image and its count. -/
theorem snapshot_seq (c m : Nat) (s : State) :
    (s.snapshot c m).seq = { s.seq with snap := s.snapBody c m, lastCause := c, lastSlot := m, snaps := satAdd 0xFFFF s.seq.snaps 1 } := by
  unfold snapshot
  extract_lets b _ s1 s2
  have h2 : s2.seq = s1.seq := count_seq ..
  split
  · exact h2
  · exact h2

/-! ### A slot fails -/

/-- The slot fails, a snapshot is taken and SEQ_FAIL set, before what the failure starts (R314). -/
def failed (n c : Nat) (s : State) : State := ((s.mdSlot n (fun y => { y with st := 7 })).snapshot c n).setEvt 4 0

theorem failed_failed (hn : n < 64) (c : Nat) (s : State) : Failed n c (s.failed n c) := by
  have hs : (s.failed n c).seq = _ := snapshot_seq c n (s.mdSlot n (fun y => { y with st := 7 }))
  exact ⟨hn, (congrArg (fun q : Seq => (rd q.slots n).st) hs).trans (congrArg Slot.st (rd_md_self s.seq.slots n _ hn)), congrArg Seq.lastCause hs, congrArg Seq.lastSlot hs⟩

theorem slotFail_failed (hn : n < 64) (c : Nat) (s : State) : Failed n c (s.slotFail n c) := by
  have h := failed_failed hn c s
  exact .ite (h.sledGroupFail _) (.ite h.restoreFail (.ite h.attemptFail (h.serviceFail n)))

theorem slotFail_evtBit (n c : Nat) (s : State) : (s.slotFail n c).evtBit 4 0 = true := by
  have h : (s.failed n c).evtBit 4 0 = true := setEvt_evtBit _ 4 0 (by decide) (by decide)
  have ha : Agree 0x10000 (s.failed n c) (s.slotFail n c) :=
    .ite (agree_sledGroupFail rfl _ _ (.refl _ _)) (.ite (agree_restoreFail rfl _ (.refl _ _))
      (.ite (agree_attemptFail rfl _ (.refl _ _)) (agree_serviceFail rfl n _ (.refl _ _))))
  exact (evtBit_congr (ha.evt rfl) 4 0).trans h

theorem agree_islandsFollow_self (was s : State) : Agree 0xB42100 s (islandsFollow was s) := agree_islandsFollow rfl was s (.refl _ s)

/-- What a failure shows once the islands have followed their rails. -/
theorem slotFail_facts (hn : n < 64) (c : Nat) (s : State) : ((islandsFollow s (s.slotFail n c)).slot n).st = 7
    ∧ (islandsFollow s (s.slotFail n c)).seq.lastCause = c ∧ (islandsFollow s (s.slotFail n c)).seq.lastSlot = n
    ∧ (islandsFollow s (s.slotFail n c)).evtBit 4 0 = true := by
  obtain ⟨-, hst, hc, hl⟩ := (slotFail_failed hn c s).of_seq ((agree_islandsFollow_self s (s.slotFail n c)).seq rfl)
  exact ⟨hst, hc, hl, evtKept_islandsFollow s _ 4 0 (slotFail_evtBit n c s)⟩

theorem slotTimeout_fails (h4 : (s.slot n).st = 4) (hr : (s.slot n).rise ≠ 0) (ht : (s.slotCfg n).tOut * 10 ≤ s.seq.up - (s.slot n).tS) :
    s.slotTimeout n = s.slotFail n 0x01 :=
  if_pos (by simp [h4, hr, ht])

theorem slotGoodLost_fails (h5 : (s.slot n).st = 5) (hr : (s.slot n).rise ≠ 0) : s.slotGoodLost n = s.slotFail n 0x02 := if_pos (by simp [h5, hr])

/-! ### The sequencer without its slots -/

def seqBare (s : State) : Seq := { s.seq with slots := tall 64 {} }

theorem seqBare_field {β : Type} (φ : Seq → β) (hφ : ∀ q : Seq, φ { q with slots := tall 64 {} } = φ q) {q : Seq} (h : s.seqBare = q) : φ s.seq = φ q :=
  (hφ s.seq).symm.trans (congrArg φ h)

theorem seqBare_forN {f : Nat → State → State} (hf : ∀ i u, (f i u).seqBare = u.seqBare) (k : Nat) (s : State) : (forN k f s).seqBare = s.seqBare :=
  forL_keeps (P := fun u => u.seqBare = s.seqBare) (fun i u hu => (hf i u).trans hu) (List.range k) rfl

theorem seqBare_mdSlot (m : Nat) (f : Slot → Slot) (s : State) : (s.mdSlot m f).seqBare = s.seqBare := rfl

theorem seqBare_ite {p : Prop} [Decidable p] {u : State} (ht : t.seqBare = s.seqBare) (hu : u.seqBare = s.seqBare) : (if p then t else u).seqBare = s.seqBare := by
  split
  · exact ht
  · exact hu

theorem seqBare_of_seq (h : t.seq = s.seq) : t.seqBare = s.seqBare := congrArg (fun q : Seq => { q with slots := tall 64 {} }) h

/-- A sled's retry that was to follow a down sequence follows it no more. -/
def runsOn (s : State) : List Down := s.seq.downs.map (fun d => match d.kind with | .sledRetry x => { d with kind := .sled x } | _ => d)

theorem seqBare_stopAll (s : State) : ∃ d, s.stopAll.seqBare = { s.seqBare with rising := false, runDone := false, sledRest := tall 4 false, downs := d } := by
  unfold stopAll
  extract_lets s1
  have h1 : s1.seqBare = s.seqBare := seqBare_forN (fun i u => seqBare_ite rfl (seqBare_mdSlot ..)) 64 s
  clear_value s1
  exact ⟨_, congrArg (fun q : Seq => { q with rising := false, runDone := false, sledRest := tall 4 false, downs := State.runsOn s1 }) h1⟩

/-- A down sequence begins behind those that run. -/
theorem seqBare_beginDown (kind : DownKind) (set : BitVec 64) (s : State) : ∃ w, (s.beginDown kind set).seqBare =
    { s.seqBare with phase := 3, profile := downProfile kind, downs := s.seq.downs ++ [{ kind := kind, set := w }] } := by
  unfold beginDown
  extract_lets set s1
  have h1 : s1.seqBare = s.seqBare := seqBare_forN (fun i u => seqBare_ite (seqBare_mdSlot ..) rfl) 64 s
  clear_value s1
  exact ⟨set, congrArg (fun q : Seq => ({ q with phase := 3, profile := downProfile kind, downs := q.downs ++ [{ kind := kind, set := set }] } : Seq)) h1⟩

end
end State
end Sys2Proof.Machine
end

section
/-! PROOFS. A failed attempt, what follows a rest, and a rail's supervision (R312, R315 to R320, R328). -/
set_option Elab.async false

namespace Sys2Proof.Machine
namespace State

section
variable {s t : State} {n : Nat}

/-! ### A failed attempt -/

/-- A failed attempt is counted, stops the rises, and begins the down sequence that a retry or Latched follows (R314, R315). -/
theorem attemptFail_facts (s : State) : s.attemptFail.seq.fails = satAdd 0xFFFF s.seq.fails 1 ∧ s.attemptFail.seq.rising = false
    ∧ ∃ d ∈ s.attemptFail.seq.downs, d.kind = (if s.seq.attempt < s.im.seq.nRetry then .attempt else .attemptLatch) := by
  unfold attemptFail
  extract_lets q s1 s2
  have h1 : s1.seqBare = { s.seqBare with fails := satAdd 0xFFFF s.seq.fails 1 } := rfl
  have hi : s1.bimg = s.bimg := rfl
  clear_value s1
  obtain ⟨d, h2⟩ := seqBare_stopAll s1
  have hi2 : s2.im = s.im := congrArg Bimg.img (((agree_stopAll rfl s1 (.refl 0x10000 s1)).bimg rfl).trans hi)
  change s2.seqBare = _ at h2
  clear_value s2
  rw [h1] at h2
  have ha : s2.seq.attempt = s.seq.attempt := (seqBare_field Seq.attempt (fun _ => rfl) h2).trans rfl
  have hr : s2.seq.rising = false := (seqBare_field Seq.rising (fun _ => rfl) h2).trans rfl
  have hf : s2.seq.fails = satAdd 0xFFFF s.seq.fails 1 := (seqBare_field Seq.fails (fun _ => rfl) h2).trans rfl
  rw [ha, hi2]
  generalize (if s.seq.attempt < s.im.seq.nRetry then DownKind.attempt else .attemptLatch) = kind
  obtain ⟨w, h3⟩ := seqBare_beginDown kind (s2.enabledSet (fun _ => true)) s2
  refine ⟨(seqBare_field Seq.fails (fun _ => rfl) h3).trans hf, (seqBare_field Seq.rising (fun _ => rfl) h3).trans hr, { kind := kind, set := w }, ?_, rfl⟩
  have hd := seqBare_field Seq.downs (fun _ => rfl) h3
  rw [hd]
  exact List.mem_append_right _ List.mem_cons_self

theorem slotFail_attempt (c : Nat) (h3 : (s.slotCfg n).role ≠ 3) (h2 : (s.slot n).rise ≠ 2) (ht : s.top.state = .rise) : s.slotFail n c = (s.failed n c).attemptFail :=
  (if_neg h3).trans ((if_neg h2).trans (if_pos ht))

theorem failed_keeps (c : Nat) (s : State) :
    (s.failed n c).seq.fails = s.seq.fails ∧ (s.failed n c).seq.attempt = s.seq.attempt ∧ (s.failed n c).im = s.im := by
  have hs := snapshot_seq c n (s.mdSlot n (fun y => { y with st := 7 }))
  have ha : Agree 0x14100 (s.mdSlot n (fun y => { y with st := 7 })) (s.failed n c) := agree_setEvt rfl _ _ _ (agree_snapshot rfl _ _ _ (.refl _ _))
  exact ⟨(congrArg Seq.fails hs).trans rfl, (congrArg Seq.attempt hs).trans rfl, congrArg Bimg.img (ha.bimg rfl)⟩

/-! ### Rests -/

theorem seqBare_clearRail (m : Nat) (f w : Bool) (s : State) : (s.clearRail m f w).seqBare = s.seqBare := by
  have hu : ∀ (a b : Nat) (u : State), (u.unraise a b).seqBare = u.seqBare := fun a b u => seqBare_of_seq ((agree_unraise rfl a b u (.refl 0x2000 u)).seq rfl)
  unfold clearRail
  extract_lets x s1 s2
  have h2 : s2.seqBare = s.seqBare := seqBare_ite ((hu ..).trans (seqBare_mdSlot ..)) (seqBare_mdSlot ..)
  exact seqBare_ite ((hu ..).trans h2) h2

theorem seqBare_joinRise (k m : Nat) (s : State) : (s.joinRise k m).seqBare = s.seqBare := by
  have h := seqBare_clearRail m true true s
  unfold joinRise
  extract_lets c s1 q
  exact seqBare_ite ((seqBare_mdSlot ..).trans h) (seqBare_ite ((seqBare_mdSlot ..).trans h) ((seqBare_mdSlot ..).trans h))

/-- What the end of a rise and its start leave of the sequencer, its slots aside: all but what says which rises run. -/
def RiseMoves (q r : Seq) : Prop := ∃ a p d z v, r = { q with rising := a, phase := p, runDone := d, restTries := z, sledTries := v }

theorem riseMoves_endRise (k : Nat) (s : State) : RiseMoves s.seqBare (s.endRise k).seqBare := by
  unfold endRise
  extract_lets s1 more
  have h1 : s1.seqBare = s.seqBare := seqBare_forN (fun i u => seqBare_ite (seqBare_mdSlot ..) rfl) 64 s
  clear_value more s1
  rw [← h1]
  split
  · rw [← h1]
    exact ⟨_, _, _, _, _, rfl⟩
  · split
    · exact ⟨_, _, _, _, _, rfl⟩
    · exact ⟨_, _, _, _, _, rfl⟩

/-- A rise that starts ends the rest it follows, where it is no sled's (R305). -/
def restTaken (k : Nat) (q : Seq) : Seq := { q with resting := if k < 4 then none else q.resting }

theorem riseMoves_startRise (k : Nat) (set : BitVec 64) (s : State) : RiseMoves (restTaken k s.seqBare) (s.startRise k set).seqBare := by
  unfold startRise
  extract_lets s1 _
  have h1 : s1.seqBare = s.seqBare := seqBare_forN (fun i u => seqBare_ite (seqBare_joinRise ..) rfl) 64 s
  clear_value s1
  obtain ⟨a, p, d, z, v, h⟩ := riseMoves_endRise k
    { s1 with seq := { s1.seq with rising := s1.seq.rising || k < 4, phase := if k < 4 then 1 else s1.seq.phase, resting := if k < 4 then none else s1.seq.resting } }
  rw [← h1]
  exact ⟨a, p, d, z, v, h⟩

/-- The Run rise starts. -/
theorem startRun_facts (s : State) : s.startRun.seq.attempt = s.seq.attempt ∧ s.startRun.seq.resting = none ∧ s.startRun.seq.lastCause = s.seq.lastCause
    ∧ s.startRun.evt = s.evt := by
  have ha := (agree_startRun rfl s (.refl 0x12000 s)).evt rfl
  refine ⟨?_, ?_, ?_, ha⟩ <;> unfold startRun <;> extract_lets _ s1
  all_goals
    have h1 : s1.seqBare = { s.seqBare with runDone := false, lastKa := none } := seqBare_forN (fun i u => seqBare_mdSlot ..) 64 _
    clear_value s1
    obtain ⟨a, p, d, z, v, h⟩ := riseMoves_startRise 1 (slotSet (fun n => (s.slotCfg n).cls != 0 && (s.slotCfg n).run && !((s.slotCfg n).role == 3 && rd s.seq.sledDead (s.slotCfg n).sled))) s1
  · exact (seqBare_field Seq.attempt (fun _ => rfl) h).trans ((seqBare_field Seq.attempt (fun _ => rfl) h1).trans rfl)
  · exact (seqBare_field Seq.resting (fun _ => rfl) h).trans rfl
  · exact (seqBare_field Seq.lastCause (fun _ => rfl) h).trans ((seqBare_field Seq.lastCause (fun _ => rfl) h1).trans rfl)

/-- A retry is told by a snapshot and SEQ_RETRY before its rise. -/
def retryTold (s : State) : State := (s.snapshot 0x03 0xFF).setEvt 4 1

theorem retryTold_evtBit (s : State) : s.retryTold.evtBit 4 1 = true := setEvt_evtBit _ 4 1 (by decide) (by decide)

theorem retryTold_seq (s : State) : s.retryTold.seq = { s.seq with snap := s.snapBody 0x03 0xFF, lastCause := 0x03, lastSlot := 0xFF, snaps := satAdd 0xFFFF s.seq.snaps 1 } :=
  snapshot_seq ..

theorem startWaited_retry (h : s.seq.retry = true) : s.startWaited = ({ s with seq := { s.seq with retry := false } } : State).retryTold.startRun := if_pos h

/-- The rest before a retry of an attempt is over (R315). -/
theorem restExpiry_attempt (hr : s.seq.resting = some .attempt) (ht : s.top.state = .rise) :
    (s.restExpiry none).seq.attempt = s.seq.attempt + 1 ∧ (s.restExpiry none).seq.resting = none
      ∧ (if s.pins.seqfltLow = false ∧ s.inputPresent = true then (s.restExpiry none).seq.lastCause = 3 ∧ (s.restExpiry none).evtBit 4 1 = true
        else (s.restExpiry none).seq.phase = 5) := by
  have e : s.restExpiry none = if s.pins.seqfltLow || !s.inputPresent
      then { s with seq := { s.seq with attempt := s.seq.attempt + 1, retry := true, resting := none, phase := 5 } }
      else ({ s with seq := { s.seq with attempt := s.seq.attempt + 1, retry := true, resting := none } } : State).startWaited := by
    unfold restExpiry
    rw [hr]
    exact if_pos ht
  by_cases hp : s.pins.seqfltLow = false ∧ s.inputPresent = true
  · rw [if_neg (by simp [hp.1, hp.2]), startWaited_retry rfl] at e
    obtain ⟨ha, hn, hc, he⟩ := startRun_facts ({ s with seq := { s.seq with attempt := s.seq.attempt + 1, retry := false, resting := none } } : State).retryTold
    have hs := retryTold_seq { s with seq := { s.seq with attempt := s.seq.attempt + 1, retry := false, resting := none } }
    rw [if_pos hp, e]
    exact ⟨ha.trans (congrArg Seq.attempt hs), hn, hc.trans (congrArg Seq.lastCause hs), (evtBit_congr he 4 1).trans (retryTold_evtBit _)⟩
  · rw [if_pos (by simp only [not_and_or, Bool.not_eq_false, Bool.not_eq_true] at hp; rcases hp with h | h <;> simp [h])] at e
    rw [if_neg hp, e]
    exact ⟨rfl, rfl, rfl⟩

/-- The rest before a retry of a sled's slots is over (R318). -/
theorem restExpiry_sled {x : Nat} (hx : x < 4) (hr : rd s.seq.sledRest x = true) : rd (s.restExpiry (some x)).seq.sledRest x = false
    ∧ (s.restExpiry (some x)).seq.lastCause = 3 ∧ (s.restExpiry (some x)).evtBit 4 1 = true := by
  have e : s.restExpiry (some x) = ({ s with seq := { s.seq with sledRest := wr s.seq.sledRest x false } } : State).retryTold.startSled x := if_pos hr
  have hs := retryTold_seq { s with seq := { s.seq with sledRest := wr s.seq.sledRest x false } }
  have hb := retryTold_evtBit { s with seq := { s.seq with sledRest := wr s.seq.sledRest x false } }
  rw [e]
  generalize ({ s with seq := { s.seq with sledRest := wr s.seq.sledRest x false } } : State).retryTold = u at hs hb
  obtain ⟨a, p, d, z, v, h⟩ := riseMoves_startRise (4 + x) (u.sledSlots x) u
  have hk : (u.startSled x).seq.sledRest = wr s.seq.sledRest x false := (seqBare_field Seq.sledRest (fun _ => rfl) h).trans (congrArg Seq.sledRest hs)
  have he : (u.startSled x).evt = u.evt := (agree_startRise rfl (4 + x) (u.sledSlots x) u (.refl 0x12000 u)).evt rfl
  exact ⟨by rw [hk, rd_wr_self _ _ _ hx], (seqBare_field Seq.lastCause (fun _ => rfl) h).trans (congrArg Seq.lastCause hs), (evtBit_congr he 4 1).trans hb⟩

theorem restExpiry_done (h : s.seq.resting = some .holdProfile ∨ s.seq.resting = some .fallRun) : s.restExpiry none = { s with seq := { s.seq with restDone := true } } := by
  unfold restExpiry
  rcases h with h | h <;> rw [h]

end
end State
end Sys2Proof.Machine
end

section
/-! PROOFS. Supervision of rails, SEQFLT_N, and the sequencer's failures (R306, R312, R314 to R320, R328). -/
set_option Elab.async false

namespace Sys2Proof.Machine
namespace State

section
variable {s t : State} {n : Nat}

/-! ### A rail's fault -/

/-- Slot `n`'s rail fault has been found, told and written (R319). -/
structure RailFaulted (n : Nat) (s : State) : Prop where
  lt : n < 64
  fault : (s.slot n).fault = true
  live : s.subLive (114 + n / 8) n = true
  cause : s.seq.lastCause = 7
  last : s.seq.lastSlot = n
  evt : s.evtBit 4 4 = true

theorem RailFaulted.move (h : RailFaulted n s) (hq : t.seq = s.seq) (hr : RailSubsKept s t) (he : EvtKept s t) : RailFaulted n t :=
  ⟨h.lt, (congrArg (fun q : Seq => (rd q.slots n).fault) hq).trans h.fault, (hr _ _ (by omega) h.lt).trans h.live, (congrArg Seq.lastCause hq).trans h.cause,
    (congrArg Seq.lastSlot hq).trans h.last, he 4 4 h.evt⟩

theorem RailFaulted.islandsFollow (h : RailFaulted n s) (was : State) : RailFaulted n (State.islandsFollow was s) :=
  h.move ((agree_islandsFollow_self was s).seq rfl) (railSubsKept_islandsFollow was s) (evtKept_islandsFollow was s)

theorem RailFaulted.sledLoss (h : RailFaulted n s) (x c : Nat) : RailFaulted n (s.sledLoss x c) :=
  h.move ((agree_sledLoss rfl x c s (.refl 0x702901 s)).seq rfl) (railSubsKept_sledLoss x c s) (evtKept_sledLoss x c s)

theorem RailFaulted.noSledLeft (h : RailFaulted n s) : RailFaulted n s.noSledLeft := by
  have ha : Agree 0x500000 s s.noSledLeft := agree_noSledLeft rfl s (.refl _ s)
  exact h.move (ha.seq rfl) (.of_agree (ha.mono rfl)) (.of_agree (ha.mono rfl))

/-- A down sequence leaves what slots have faulted. -/
theorem beginDown_fault (kind : DownKind) (set : BitVec 64) (s : State) (m : Nat) : ((s.beginDown kind set).slot m).fault = (s.slot m).fault := by
  unfold beginDown
  extract_lets w s1
  have h1 : (s1.slot m).fault = (s.slot m).fault := forL_keeps (P := fun u => (u.slot m).fault = (s.slot m).fault) (fun i u hu => by
    split
    · exact (rd_md_keeps Slot.fault (f := fun x => { x with
        rise := 0, offAt := if u.en i then none else some (x.offAt.getD u.seq.dn), st := if u.en i then x.st else if x.st = 7 then 7 else 1 })
        (fun _ => rfl) u.seq.slots i m).trans hu
    · exact hu) (List.range 64) rfl
  exact h1

theorem RailFaulted.beginDown (h : RailFaulted n s) (kind : DownKind) (set : BitVec 64) : RailFaulted n (s.beginDown kind set) := by
  have ha : Agree 0x10000 s (s.beginDown kind set) := agree_beginDown rfl kind set s (.refl _ s)
  obtain ⟨w, hb⟩ := seqBare_beginDown kind set s
  exact ⟨h.lt, (beginDown_fault kind set s n).trans h.fault, (subLive_congr (ha.flt rfl) _ _).trans h.live,
    (seqBare_field Seq.lastCause (fun _ => rfl) hb).trans h.cause, (seqBare_field Seq.lastSlot (fun _ => rfl) hb).trans h.last, (evtBit_congr (ha.evt rfl) 4 4).trans h.evt⟩

theorem railFault_faulted (hn : n < 64) (h5 : (s.slot n).st = 5) (hr : (s.slot n).rise = 0) (hf : (s.slot n).fault = false) : RailFaulted n (s.railFault n) := by
  have e : s.railFault n = ((((s.mdSlot n (fun y => { y with fault := true, good := false })).raise (114 + n / 8) n none)).snapshot 0x07 n).setEvt 4 4 :=
    if_pos (by simp [h5, hr, hf])
  have hq : ((s.mdSlot n (fun y => { y with fault := true, good := false })).raise (114 + n / 8) n none).seq = _ := (agree_raise rfl (114 + n / 8) n none _ (.refl 0x2000 _)).seq rfl
  have hl := raise_live (s.mdSlot n (fun y => { y with fault := true, good := false })) (114 + n / 8) n none
  rw [e]
  generalize (s.mdSlot n (fun y => { y with fault := true, good := false })).raise (114 + n / 8) n none = u at hq hl
  have hs := snapshot_seq 0x07 n u
  have hu : (u.snapshot 0x07 n).flt = u.flt := (agree_snapshot rfl 0x07 n u (.refl 0x14100 u)).flt rfl
  generalize u.snapshot 0x07 n = w at hs hu
  refine ⟨hn, ?_, (subLive_congr hu _ _).trans hl, congrArg Seq.lastCause hs, congrArg Seq.lastSlot hs, setEvt_evtBit _ 4 4 (by decide) (by decide)⟩
  have hw : w.seq.slots = md s.seq.slots n (fun y => { y with fault := true, good := false }) := (congrArg Seq.slots hs).trans (congrArg Seq.slots hq)
  exact (congrArg (fun v => (rd v n).fault) hw).trans (congrArg Slot.fault (rd_md_self s.seq.slots n _ hn))

/-- A sled whose rail faulted is lost (R319): in Save it counts among the lost, otherwise its slots go down. -/
def railLost (x : Nat) (s : State) : State :=
  let u := s.sledLoss x 7
  if u.top.state = .save then u.noSledLeft else u.beginDown (.sled x) (u.sledSlots x)

theorem RailFaulted.railLost (h : RailFaulted n s) (x : Nat) : RailFaulted n (s.railLost x) := by
  have hu := h.sledLoss x 7
  unfold State.railLost
  extract_lets u
  split
  · exact hu.noSledLeft
  · exact hu.beginDown _ _

theorem sledCls_railLost {x : Nat} (hx : x < 4) (s : State) : (s.railLost x).sledCls x = 7 := by
  have hu : (s.sledLoss x 7).sledCls x = 7 := sledCls_sledLoss hx (by decide) s
  unfold railLost
  extract_lets u
  split
  · exact (sledCls_noSledLeft x _).trans hu
  · exact (sledCls_of_agree x (agree_beginDown rfl _ _ _ (.refl _ _))).trans hu

theorem railFaultSled_sled (h3 : (s.slotCfg n).role = 3) (hf : ((s.railFault n).slot n).fault = true) (hs : (s.slot n).fault = false) :
    s.railFaultSled n = islandsFollow s ((s.railFault n).railLost (s.slotCfg n).sled) :=
  if_pos (by simp [h3, hf, hs])

theorem railFaultSled_other (h3 : (s.slotCfg n).role ≠ 3) : s.railFaultSled n = islandsFollow s (s.railFault n) := if_neg (by simp [h3])

theorem railFaultSled_facts (hn : n < 64) (h5 : (s.slot n).st = 5) (hr : (s.slot n).rise = 0) (hf : (s.slot n).fault = false) : RailFaulted n (s.railFaultSled n)
    ∧ ((s.slotCfg n).role = 3 → (s.slotCfg n).sled < 4 → (s.railFaultSled n).sledCls (s.slotCfg n).sled = 7) := by
  have h := railFault_faulted hn h5 hr hf
  by_cases h3 : (s.slotCfg n).role = 3
  · rw [railFaultSled_sled h3 h.fault hf]
    exact ⟨(h.railLost _).islandsFollow s, fun _ hx => (sledCls_islandsFollow ..).trans (sledCls_railLost hx _)⟩
  · rw [railFaultSled_other h3]
    exact ⟨h.islandsFollow s, fun h => absurd h h3⟩

/-! ### A rail's warning -/

/-- Slot `n`'s warning is told (R320). -/
def warned (n : Nat) (s : State) : State := ((s.mdSlot n (fun y => { y with warn := true })).raise (122 + n / 8) n none).setEvt 4 4

/-- A warning is told where the slot's warnings are in use, it is up and not masked (R320). -/
theorem railWarn_warns (hc : (s.slotCfg n).cls = 2) (h5 : (s.slot n).st = 5) (hr : (s.slot n).rise = 0) (hm : (s.slot n).mask = false) (hw : (s.slot n).warn = false) :
    s.railWarn n = s.warned n :=
  if_pos (by simp [hc, h5, hr, hm, hw])

theorem agree_warned (n : Nat) (s : State) : Agree 0x12100 s (s.warned n) :=
  agree_setEvt rfl _ _ _ (agree_raise rfl _ _ _ _ (agree_mdSlot rfl _ _ s (.refl _ s)))

theorem warned_facts (hn : n < 64) (s : State) :
    (s.warned n).slot n = { s.slot n with warn := true } ∧ (s.warned n).subLive (122 + n / 8) n = true ∧ (s.warned n).evtBit 4 4 = true := by
  have hq := (agree_raise rfl (122 + n / 8) n none _ (.refl 0x2000 (s.mdSlot n (fun y => { y with warn := true })))).seq rfl
  have hl := raise_live (s.mdSlot n (fun y => { y with warn := true })) (122 + n / 8) n none
  unfold warned
  generalize (s.mdSlot n (fun y => { y with warn := true })).raise (122 + n / 8) n none = u at hq hl ⊢
  exact ⟨(congrArg (fun q : Seq => rd q.slots n) hq).trans (rd_md_self s.seq.slots n _ hn), (subLive_congr rfl _ _).trans hl, setEvt_evtBit _ 4 4 (by decide) (by decide)⟩

/-! ### SEQFLT_N -/

theorem riseAbort_keeps (s : State) : s.riseAbort.seq.ext = s.seq.ext ∧ s.riseAbort.seq.lastCause = s.seq.lastCause := by
  unfold riseAbort
  split
  · extract_lets s0 next _ s1
    obtain ⟨d, h0⟩ := seqBare_stopAll s
    change s0.seqBare = _ at h0
    clear_value s0
    have he : s1.seq.ext = s.seq.ext := (seqBare_field Seq.ext (fun _ => rfl) h0).trans rfl
    have hc : s1.seq.lastCause = s.seq.lastCause := (seqBare_field Seq.lastCause (fun _ => rfl) h0).trans rfl
    clear_value s1
    obtain ⟨w, h1⟩ := seqBare_beginDown .redo (s1.enabledSet (fun _ => true)) s1
    exact ⟨(seqBare_field Seq.ext (fun _ => rfl) h1).trans he, (seqBare_field Seq.lastCause (fun _ => rfl) h1).trans hc⟩
  · exact ⟨rfl, rfl⟩

/-- SEQFLT_N found low is counted (R317). -/
def seqfltSeen (s : State) : State := { s with pins := { s.pins with seqfltLow := true }, seq := { s.seq with ext := satAdd 0xFFFF s.seq.ext 1 } }

/-- It is told and written, before what it asks for (R317). -/
def seqfltTold (s : State) : State := ((s.seqfltSeen.count 0x34 0 0).snapshot 0x06 0xFF).setEvt 4 8

theorem agree_seqfltTold (s : State) : Agree 0x14100 s.seqfltSeen s.seqfltTold :=
  agree_setEvt rfl 4 8 _ (agree_snapshot rfl 0x06 0xFF _ (agree_count rfl 0x34 0 0 _ (.refl _ s.seqfltSeen)))

theorem seqfltTold_facts (s : State) : s.seqfltTold.pins = { s.pins with seqfltLow := true } ∧ s.seqfltTold.seq.ext = satAdd 0xFFFF s.seq.ext 1
    ∧ s.seqfltTold.seq.lastCause = 6 ∧ s.seqfltTold.evtBit 4 8 = true ∧ s.seqfltTold.top = s.top ∧ s.seqfltTold.pair = s.pair := by
  have ha := agree_seqfltTold s
  have hs := snapshot_seq 0x06 0xFF (s.seqfltSeen.count 0x34 0 0)
  rw [count_seq] at hs
  refine ⟨ha.pins rfl, ?_, ?_, ?_, ha.top rfl, ha.pair rfl⟩ <;> unfold seqfltTold <;> generalize (s.seqfltSeen.count 0x34 0 0).snapshot 0x06 0xFF = u at hs
  · exact congrArg Seq.ext hs
  · exact congrArg Seq.lastCause hs
  · exact setEvt_evtBit u 4 8 (by decide) (by decide)

theorem seqfltLow_driven (h : s.seq.drv = true) : s.seqfltLow = s := if_pos (by simp [h])

theorem seqfltLow_undriven (hc : s.ctlOn = true) (hd : s.seq.drv = false) : s.seqfltLow =
    if s.seqfltTold.top.state = .rise then s.seqfltTold.riseAbort
    else if s.seqfltTold.pair.drv && s.seqfltTold.inState [.ready, .ride, .service, .ret] then { s.seqfltTold with top := { s.seqfltTold.top with wantSeqflt := true } }
    else s.seqfltTold :=
  if_neg (by simp [hc, hd])

theorem seqfltLow_facts (hc : s.ctlOn = true) (hd : s.seq.drv = false) : s.seqfltLow.pins = { s.pins with seqfltLow := true } ∧ s.seqfltLow.seq.ext = satAdd 0xFFFF s.seq.ext 1
    ∧ s.seqfltLow.seq.lastCause = 6 ∧ s.seqfltLow.evtBit 4 8 = true
    ∧ (s.pair.drv = true → s.inState [.ready, .ride, .service, .ret] = true → s.seqfltLow.top = { s.top with wantSeqflt := true }) := by
  obtain ⟨hp, hx, hl, hb, ht, hr⟩ := seqfltTold_facts s
  have hi : s.seqfltTold.inState [.ready, .ride, .service, .ret] = s.inState [.ready, .ride, .service, .ret] := congrArg (fun v : Top => [TopState.ready, .ride, .service, .ret].contains v.state) ht
  rw [seqfltLow_undriven hc hd]
  generalize s.seqfltTold = u at hp hx hl hb ht hr hi
  split
  · next hrise =>
    have ha : Agree 0x10000 u u.riseAbort := agree_riseAbort rfl u (.refl _ u)
    obtain ⟨ke, kc⟩ := riseAbort_keeps u
    refine ⟨(ha.pins rfl).trans hp, ke.trans hx, kc.trans hl, (evtBit_congr (ha.evt rfl) 4 8).trans hb, fun _ hin => ?_⟩
    rw [← hi] at hin
    simp [inState, hrise] at hin
  split
  · exact ⟨hp, hx, hl, hb, fun _ _ => congrArg (fun v : Top => { v with wantSeqflt := true }) ht⟩
  · next hno => exact ⟨hp, hx, hl, hb, fun hv hin => absurd (by rw [hr, hi, hv, hin]; rfl) hno⟩

end
end State

/-- Settles O36, occasion by occasion. -/
theorem sequencerFailuresAndSupervision : Obligations.SequencerFailuresAndSupervision := by
  refine ⟨fun n s hc h4 hr ht => ⟨_, exec_on hc, ?_⟩, fun n s hc h5 hr => ⟨_, exec_on hc, ?_⟩, fun n s hc h5 h1 h3 ht => ⟨_, exec_on hc, ?_⟩,
    fun s hc hr ht => ⟨_, exec_on hc, State.restExpiry_attempt hr ht⟩, fun x s hc hr => ⟨_, exec_on hc, State.restExpiry_sled x.isLt hr⟩,
    fun s hc h => ⟨_, exec_on hc, State.restExpiry_done h⟩, fun n s hc h5 hr hf => ⟨_, exec_on hc, ?_⟩, fun n s hc h2 h5 hr hm hw => ⟨_, exec_on hc, ?_⟩,
    fun s hc hd => ⟨_, rfl, State.seqfltLow_facts hc hd⟩, fun s hd => ⟨_, rfl, State.seqfltLow_driven hd⟩⟩
  · unfold State.slotTimeoutIsl
    rw [State.slotTimeout_fails h4 hr ht]
    exact State.slotFail_facts n.isLt 0x01 s
  · unfold State.slotGoodLostIsl
    rw [State.slotGoodLost_fails h5 hr]
    exact State.slotFail_facts n.isLt 0x02 s
  · have hr : (s.slot n).rise ≠ 0 := by rw [h1]; decide
    have h2 : (s.slot n).rise ≠ 2 := by rw [h1]; decide
    unfold State.slotGoodLostIsl
    rw [State.slotGoodLost_fails h5 hr, State.slotFail_attempt 0x02 h3 h2 ht]
    obtain ⟨hf, ha, hi⟩ := State.failed_keeps (n := n) 0x02 s
    have hk := State.attemptFail_facts (s.failed n 0x02)
    rw [hf, ha, hi] at hk
    beta_reduce
    rw [(State.agree_islandsFollow_self s _).seq rfl]
    exact hk
  · obtain ⟨⟨-, h1, h2, h3, h4, h6⟩, h7⟩ := State.railFaultSled_facts n.isLt h5 hr hf
    exact ⟨h1, h2, h3, h4, h6, h7⟩
  · beta_reduce
    rw [State.railWarn_warns h2 h5 hr hm hw]
    obtain ⟨w1, w2, w3⟩ := State.warned_facts n.isLt s
    exact ⟨w1, w2, w3, (State.agree_warned n s).sameBut rfl⟩

end Sys2Proof.Machine
end
